-- ==== Sys2Proof/Word.lean ====
section
/-! DEFINITION. The word types of the block: bytes of memories and frames, 32-bit register words (R4). -/
namespace Sys2Proof

/-- One byte of a memory or of a frame (R572). -/
abbrev Byte := BitVec 8

/-- One register: all registers are 32 bits wide and bit 0 is the least significant (R4). -/
abbrev Word := BitVec 32

end Sys2Proof
end

