-- ==== Sys2Proof/Syntax.lean ====
section
/-! DEFINITION. The commands of the block: one constructor per row of spec/opcode_table.json, with what the sender gives. -/

namespace Sys2Proof

/-- The masters of the bus fabric (R519). -/
inductive Master | garnet | flint | app | link (l : Nat) | beam (n : Nat) | reg | spi | tap | qspi
  deriving DecidableEq, Repr

/-- Scopes of a whole-device reset (R113). -/
inductive ResetScope | cold | warm
  deriving DecidableEq, Repr

/-- The three samples of each strap ball at a reset release (R74). -/
structure Straps where
  prof0 : List Bool
  prof1 : List Bool
  rcvyN : List Bool
  deriving DecidableEq, Repr

/-- What the internal pulls make unconnected straps sample (R52, R76): PRF0 and a normal boot. -/
def Straps.default_ : Straps := ⟨[false, false, false], [false, false, false], [true, true, true]⟩

/-- A frame as a receiver sees it: every byte between SOF and the end delimiter, CRC included; whether a code error fell inside; whether it ended with ABT (R148, R151). -/
structure Wire where
  bytes : List Byte
  codeErr : Bool
  abt : Bool
  deriving DecidableEq, Repr

/-- A memory check that fails during a band's release (R302, R318, R333, R334): nothing; a corrected or uncorrectable word of the calibration store or Granite RAM, with tile and address;
a parity error in the correction pipeline of a tile; the two Governor lanes disagree on a field band. -/
inductive Hit
  | none_
  | calCor (tile addr : Nat)
  | calUnc (tile addr : Nat)
  | calPipe (tile : Nat)
  | gramCor (addr : Nat)
  | gramUnc (addr : Nat)
  | govLanes (band : Nat)
  deriving DecidableEq, Repr

/-- The commands. Each docstring gives the row's mnemonic and rule. -/
inductive Instr
  /-- PMIC_PG_RISE (R64). -/
  | pmicPgRise (st : Straps)
  /-- PG_LOSS (R66). -/
  | pgLoss (rstLow : Bool)
  /-- SUPPLY_LOW (R68). -/
  | supplyLow
  /-- POR (R68). -/
  | por
  /-- THM_CRIT_TRIP (R497). -/
  | thmCritTrip
  /-- THM_CRIT_RELEASE (R497). -/
  | thmCritRelease (st : Straps)
  /-- RST_N_LOW (R118). -/
  | rstNLow
  /-- RST_N_RELEASE (R118). -/
  | rstNRelease (st : Straps)
  /-- PIN_DEEP (R119). -/
  | pinDeep
  /-- RST_STUCK_TIMEOUT (R120). -/
  | rstStuckTimeout (st : Straps)
  /-- STUCK_IGNORE_END (R120). -/
  | stuckIgnoreEnd
  /-- RST_CMD_WRITE (R116). -/
  | rstCmdWrite (m : Master) (v : Word) (st : Straps)
  /-- WDT_APP_ENABLE (R117). -/
  | wdtAppEnable (m : Master) (v : Word)
  /-- WDT_KICK (R117). -/
  | wdtKick (m : Master) (v : Word)
  /-- WDT_APP_EXPIRY (R117). -/
  | wdtAppExpiry (st : Straps)
  /-- BLK_RESET (R123). -/
  | blkReset (m : Master) (page : Nat)
  /-- BLOCK_RESET_END (R123). -/
  | blockResetEnd (page : Nat)
  /-- QUIESCENCE_END (R125). -/
  | quiescenceEnd (page : Nat)
  /-- RC_START (R95). -/
  | rcStart (fail : Nat)
  /-- RC_RETRY (R98). -/
  | rcRetry
  /-- REF_CDR_LOCK (R91). -/
  | refCdrLock
  /-- ACQ_TMO_EXPIRY (R91). -/
  | acqTmoExpiry
  /-- ROOT_LOOP_LOCK (R91). -/
  | rootLoopLock
  /-- ACQUIRE_TIMEOUT (R91). -/
  | acquireTimeout
  /-- DIVIDERS_RUNNING (R82). -/
  | dividersRunning
  /-- REFERENCE_LOSS (R83). -/
  | referenceLoss
  /-- CLK_REF_CMD (R93). -/
  | clkRefCmd (m : Master) (v : Word)
  /-- LINK_ELIGIBLE (R92). -/
  | linkEligible
  /-- FREQ_WINDOW_END (R86). -/
  | freqWindowEnd (l : Nat) (ppm : Int)
  /-- MUX_SWITCH (R87). -/
  | muxSwitch (wait : Nat)
  /-- FORCED_SWITCH (R87). -/
  | forcedSwitch
  /-- SLEW_LOCK (R88). -/
  | slewLock
  /-- HOLDOVER_EXPIRY (R89). -/
  | holdoverExpiry
  /-- STOPPING_GATE (R90). -/
  | stoppingGate
  /-- MONITOR_WINDOW_END (R100). -/
  | monitorWindowEnd (lane pix core peri hk : Nat)
  /-- RC_CHECK_WINDOW_END (R101). -/
  | rcCheckWindowEnd (count : Nat)
  /-- SIGNAL_DETECT (R156). -/
  | signalDetect (l : Nat)
  /-- CDR_LOCK (R156). -/
  | cdrLock (l : Nat)
  /-- CDR_LOCK_TIMEOUT (R156). -/
  | cdrLockTimeout (l : Nat)
  /-- COMMA_ALIGN (R156). -/
  | commaAlign (l : Nat)
  /-- TRAINING_DONE (R156). -/
  | trainingDone (l : Nat)
  /-- TRAINING_TIMEOUT (R156). -/
  | trainingTimeout (l : Nat)
  /-- TS_RECEIVED (R156). -/
  | tsReceived (l : Nat)
  /-- ALIGNMENT_LOSS (R158). -/
  | alignmentLoss (l : Nat)
  /-- LOSS_OF_SIGNAL (R158). -/
  | lossOfSignal (l : Nat)
  /-- CDR_LOSS_OF_LOCK (R156). -/
  | cdrLossOfLock (l : Nat)
  /-- SKP (R161). -/
  | skp (l fill : Nat)
  /-- LTM (R165). -/
  | ltm (l dly : Nat)
  /-- LCTL_TIME (R166). -/
  | lctlTime (l : Nat) (f : Wire)
  /-- LCTL_WAKE (R152). -/
  | lctlWake (l : Nat) (f : Wire)
  /-- WORK_FRAME (R200). -/
  | workFrame (l : Nat) (f : Wire)
  /-- RESUME (R155). -/
  | resume (l : Nat)
  /-- PACKET_STORE (R201). -/
  | packetStore (l copies : Nat)
  /-- STORE_TIMEOUT (R219). -/
  | storeTimeout (l : Nat)
  /-- GAP_HOLD_EXPIRY (R207). -/
  | gapHoldExpiry (l ch : Nat)
  /-- DONE_FRAME (R209). -/
  | doneFrame (ch copies : Nat)
  /-- CONTROL_CONSUME (R198). -/
  | controlConsume (parity : Bool)
  /-- LAYER_CONSUME (R232). -/
  | layerConsume (parity : Bool)
  /-- REG_READ (R589). -/
  | regRead (l : Nat) (f : Wire)
  /-- REG_WRITE (R589). -/
  | regWrite (l : Nat) (f : Wire)
  /-- REG_MODIFY (R589). -/
  | regModify (l : Nat) (f : Wire)
  /-- STATUS_FRAME (R153). -/
  | statusFrame (l : Nat)
  /-- DEV_STATUS (R183). -/
  | devStatus
  /-- LT_VALID_TIMEOUT (R168). -/
  | ltValidTimeout
  /-- SAFE_FRAME (R176). -/
  | safeFrame (l : Nat) (f : Wire)
  /-- PENDING_EXPIRY (R177). -/
  | pendingExpiry (l : Nat)
  /-- CSF_STALE_TIMEOUT (R179). -/
  | csfStaleTimeout
  /-- PROFILE_CHANGE (R568). -/
  | profileChange
  /-- SIDE_TRAINING_DONE (R185). -/
  | sideTrainingDone
  /-- PHASE_FRAME (R187). -/
  | phaseFrame (f : Wire)
  /-- SEAM_FRAME (R293). -/
  | seamFrame (f : Wire)
  /-- SSTAT_FRAME (R188). -/
  | sstatFrame (f : Wire)
  /-- SIDE_RX_TIMEOUT (R188). -/
  | sideRxTimeout
  /-- SSTAT_SEND (R186). -/
  | sstatSend
  /-- LATCH_POINT (R242). -/
  | latchPoint
  /-- BAND_SLOT (R27). -/
  | bandSlot (k : Nat) (bad : List Nat)
  /-- BAND_RELEASE (R315). -/
  | bandRelease (k : Nat) (hit : Hit)
  /-- REGION_PUSH (R370). -/
  | regionPush (n : Nat)
  /-- REGION_RECOMPUTE (R256). -/
  | regionRecompute (bad : List Nat)
  /-- REPORT_TIMEOUT (R374). -/
  | reportTimeout (n : Nat)
  /-- PUSH_DEADLINE (R258). -/
  | pushDeadline
  /-- FLIP_COMMIT (R371). -/
  | flipCommit
  /-- FLIP (R372). -/
  | flip
  /-- OBJECT_CUTOFF (R280). -/
  | objectCutoff (parity : Bool)
  /-- KERNEL_BAND_RENDER (R281). -/
  | kernelBandRender (n b cycles : Nat) (band : List Byte) (parity : Bool)
  /-- KERNEL_OVERRUN (R281). -/
  | kernelOverrun (n b : Nat) (window : Bool) (parity : Bool)
  /-- GLR_KLOAD (R291). -/
  | glrKload (m : Master) (v : Word)
  /-- KERNEL_VERIFY_DONE (R291). -/
  | kernelVerifyDone (slot : Nat) (sigOk : Bool)
  /-- LIGHT_SLEEP_ENTRY (R512). -/
  | lightSleepEntry (bank : Nat)
  /-- LIGHT_SLEEP_WAKE (R512). -/
  | lightSleepWake (bank : Nat) (access : Bool)
  /-- DIGEST_CHECK (R308). -/
  | digestCheck (ok : Bool) (ecc : Nat)
  /-- INTERP_CMD (R344). -/
  | interpCmd (m : Master) (v : Word)
  /-- INTERP_DONE (R345). -/
  | interpDone (tile : Nat)
  /-- TRIM_CMD (R356). -/
  | trimCmd (m : Master) (v : Word)
  /-- TRIM_DONE (R357). -/
  | trimDone (codes : List (Option Nat))
  /-- FLUX_RECORD_WRITE (R353). -/
  | fluxRecordWrite
  /-- TSB_ROUND (R373). -/
  | tsbRound (slots : List Nat) (readback : Bool) (start : Bool)
  /-- ASSIGN_TIMEOUT (R388). -/
  | assignTimeout (n : Nat)
  /-- TSB_STATUS (R375). -/
  | tsbStatus (n : Nat) (w : BitVec 64)
  /-- TSB_UID_LO (R375). -/
  | tsbUidLo (n : Nat) (w : BitVec 64)
  /-- TSB_UID_HI (R375). -/
  | tsbUidHi (n : Nat) (w : BitVec 64)
  /-- TSB_CAP (R388). -/
  | tsbCap (n : Nat) (w : BitVec 64)
  /-- IDENT_TIMEOUT (R388). -/
  | identTimeout (n : Nat)
  /-- LANE_SERIALISER_READY (R388). -/
  | laneSerialiserReady (n : Nat)
  /-- LANE_TRAIN_DONE (R388). -/
  | laneTrainDone (n : Nat)
  /-- LANE_SCHEDULED_WAKE (R390). -/
  | laneScheduledWake
  /-- LANE_DEAD (R388). -/
  | laneDead (n : Nat)
  /-- TEMP_INVALID_TIMEOUT (R393). -/
  | tempInvalidTimeout (n : Nat)
  /-- COOL_DOWN_COMPLETE (R394). -/
  | coolDownComplete (n : Nat)
  /-- FSYNC_EDGE (R384). -/
  | fsyncEdge
  /-- FSYNC_LOST (R384). -/
  | fsyncLost
  /-- SEG_IDENT (R403). -/
  | segIdent (a : Nat)
  /-- SEG_CONFIG (R402). -/
  | segConfig (a : Nat)
  /-- SEG_SET (R402). -/
  | segSet (a : Nat) (readback : Bool)
  /-- SEG_POLL (R417). -/
  | segPoll (a : Nat) (readback : Bool)
  /-- SEG_LATCH (R407). -/
  | segLatch (readback : Bool)
  /-- SEG_ALL_OFF (R409). -/
  | segAllOff
  /-- SEG_RESPONSE (R403). -/
  | segResponse (bytes : List Byte)
  /-- SEG_RESPONSE_TIMEOUT (R403). -/
  | segResponseTimeout
  /-- SCAN_ROW_SLOT (R412). -/
  | scanRowSlot
  /-- SIN_FILTER_EXPIRY (R433). -/
  | sinFilterExpiry (n : Nat) (b : Bool)
  /-- SIN_HEALTHY_FILTER (R435). -/
  | sinHealthyFilter (n : Nat)
  /-- SIN_DISCREPANCY_TIMEOUT (R435). -/
  | sinDiscrepancyTimeout (n : Nat)
  /-- TEST_PULSE_START (R431). -/
  | testPulseStart (n : Nat) (levels : List Bool)
  /-- TEST_PULSE_END (R434). -/
  | testPulseEnd (levels : List Bool)
  /-- OFF_PULSE_START (R438). -/
  | offPulseStart (k : Nat)
  /-- OFF_PULSE_END (R438). -/
  | offPulseEnd (k : Nat) (rb : Bool)
  /-- SOUT_READBACK_FAULT (R438). -/
  | soutReadbackFault (k : Nat) (rb : Bool)
  /-- SOUT_FAULT_CLEAR (R438). -/
  | soutFaultClear (k : Nat)
  /-- TILE_POWER_UP (R440). -/
  | tilePowerUp (k : Nat)
  /-- FLINT_EVALUATION (R422). -/
  | flintEvaluation
  /-- SAF_REACT (R426). -/
  | safReact (m : Master) (v : Word)
  /-- SAF_UNLOCK (R449). -/
  | safUnlock (m : Master) (v : Word)
  /-- FLINT_WDT_KICK (R442). -/
  | flintWdtKick (m : Master) (v : Word)
  /-- FLINT_WDT_EXPIRY (R442). -/
  | flintWdtExpiry (st : Straps)
  /-- LOCKSTEP_MISMATCH (R441). -/
  | lockstepMismatch
  /-- FOK_READBACK_MISMATCH (R423). -/
  | fokReadbackMismatch
  /-- FAULT_ACK (R460). -/
  | faultAck (m : Master) (r : Nat) (v : Word)
  /-- FAULT_CLEAR (R460). -/
  | faultClear (m : Master) (r : Nat) (v : Word)
  /-- INJECT_ARM (R467). -/
  | injectArm (m : Master) (v : Word)
  /-- INJECT_CANCEL (R467). -/
  | injectCancel (m : Master) (v : Word)
  /-- TRACKER_CLOSE (R474). -/
  | trackerClose
  /-- RECORD_WRITE (R472). -/
  | recordWrite
  /-- MIRROR_PAGE_WRITE (R476). -/
  | mirrorPageWrite (ok : Bool)
  /-- CHECKPOINT (R479). -/
  | checkpoint
  /-- CHECKPOINT_FLASH (R479). -/
  | checkpointFlash
  /-- ATTEST_COMMIT (R482). -/
  | attestCommit (m : Master)
  /-- RECORD_READ (R478). -/
  | recordRead (m : Master) (v : Word)
  /-- HOUSEKEEPING_ROUND_START (R486). -/
  | housekeepingRoundStart
  /-- HOUSEKEEPING_ROUND_END (R492). -/
  | housekeepingRoundEnd (codes : List Nat)
  /-- ROUND_TIMEOUT (R489). -/
  | roundTimeout
  /-- PWR_REQ_IDLE (R504). -/
  | pwrReqIdle (m : Master) (v : Word)
  /-- IDLE_WAKE (R504). -/
  | idleWake
  /-- PWR_REQ_SLEEP (R502). -/
  | pwrReqSleep (m : Master) (v : Word)
  /-- PWR_REQ_DEEP (R507). -/
  | pwrReqDeep (m : Master) (v : Word)
  /-- PWR_REQ_OFF (R510). -/
  | pwrReqOff (m : Master) (v : Word)
  /-- FLINT_PREP_CONFIRM (R505). -/
  | flintPrepConfirm (lyOk : Bool)
  /-- PREP_TIMEOUT (R502). -/
  | prepTimeout
  /-- PMIC_ACK (R514). -/
  | pmicAck (t : Nat)
  /-- ACK_TIMEOUT (R514). -/
  | ackTimeout
  /-- DEEP_EXIT (R509). -/
  | deepExit (st : Straps) (t : Nat)
  /-- WAKE_REQUEST (R506). -/
  | wakeRequest
  /-- WAKE_TIMER (R506). -/
  | wakeTimer
  /-- PMB_ALERT (R515). -/
  | pmbAlert (word : Nat) (ok : Bool)
  /-- PMB_STATUS_POLL (R513). -/
  | pmbStatusPoll (word : Nat) (ok : Bool)
  /-- PAD_RELEASE (R516). -/
  | padRelease (m : Master) (v : Word)
  /-- IDCODE (R528). -/
  | idcode
  /-- SAMPLE_PRELOAD (R528). -/
  | samplePreload (bits : List Bool)
  /-- EXTEST (R528). -/
  | extest
  /-- AUTH_NONCE (R529). -/
  | authNonce
  /-- AUTH_RESP (R529). -/
  | authResp (resp : List Byte)
  /-- AUTH_CHECK_DONE (R530). -/
  | authCheckDone (sigOk : Bool)
  /-- AUTH_STAT (R528). -/
  | authStat
  /-- RC_STAT (R99). -/
  | rcStat
  /-- BUS (R528). -/
  | bus (write : Bool) (a : Nat) (v : Word)
  /-- SCAN (R528). -/
  | scan
  /-- RESET (R528). -/
  | reset (st : Straps)
  /-- BYPASS (R528). -/
  | bypass
  /-- TRST_N_LOW (R530). -/
  | trstNLow
  /-- NONCE_EXPIRY (R529). -/
  | nonceExpiry
  /-- WORLD_WRITE (R521). -/
  | worldWrite (m : Master) (page : Nat) (v : Word)
  /-- LC_REQUEST (R527). -/
  | lcRequest (m : Master) (v : Word)
  /-- SECRET_CLEAR_DONE (R533). -/
  | secretClearDone (ok : Bool)
  /-- LBIST_START (R534). -/
  | lbistStart (m : Master) (v : Word)
  /-- LBIST_END (R537). -/
  | lbistEnd (misr : BitVec 64)
  /-- LBIST_TIMEOUT (R536). -/
  | lbistTimeout
  /-- MBIST_REQUEST (R541). -/
  | mbistRequest (m : Master) (v : Word)
  /-- FUSE_PROGRAM (R543). -/
  | fuseProgram (m : Master) (v : Word)
  /-- FUSE_PROGRAM_DONE (R544). -/
  | fuseProgramDone (ok : Bool)
  /-- UPD_WRITE (R556). -/
  | updWrite (parity : Bool)
  /-- UPD_VERIFY (R555). -/
  | updVerify (parity : Bool)
  /-- VERIFY_DONE (R552). -/
  | verifyDone (sigOk : Bool)
  /-- UPD_ACTIVATE (R555). -/
  | updActivate (parity : Bool)
  /-- RESTART_RESET (R561). -/
  | restartReset
  /-- UPD_CONFIRM (R558). -/
  | updConfirm (parity : Bool)
  /-- TRIAL_TIMEOUT (R560). -/
  | trialTimeout
  /-- FUSE_LOAD (R128). -/
  | fuseLoad (pmb : Bool) (badRows : List Nat)
  /-- MBIST (R539). -/
  | mbist (fails : List Nat)
  /-- JOURNAL (R137). -/
  | journal
  /-- MAIN_IMAGE (R557). -/
  | mainImage (aOk bOk : Bool)
  /-- GRANITE (R327). -/
  | granite (aOk bOk fuseOk : Bool)
  /-- SETTINGS (R563). -/
  | settings (ok : Bool)
  /-- PROFILE (R567). -/
  | profile (ok : Bool)
  /-- CALIB (R341). -/
  | calib (ok : Bool)
  /-- KERNELS (R291). -/
  | kernels (ok : Bool)
  /-- LINKS (R619). -/
  | links (copies : Nat)
  /-- TILES (R389). -/
  | tiles
  /-- SAFE_READY (R128). -/
  | safeReady
  /-- FIRST_LIGHT (R128). -/
  | firstLight
  /-- BOOT_TIMEOUT (R129). -/
  | bootTimeout (st : Straps)
  /-- EPOCH_SAVE (R139). -/
  | epochSave
  /-- CLR_AVOID (R131). -/
  | clrAvoid (m : Master) (v : Word)
  /-- MIRROR_NOW (R136). -/
  | mirrorNow (m : Master) (v : Word)
  /-- UNIT_COMMIT (R578). -/
  | unitCommit (m : Master) (page : Nat) (v : Word)
  /-- DISCARD (R582). -/
  | discard (m : Master) (page : Nat) (v : Word)
  /-- REGISTER_WRITE (R9). -/
  | registerWrite (m : Master) (a : Nat) (v : Word)
  /-- SPI_STATUS (R594). -/
  | spiStatus
  /-- SPI_READ (R593). -/
  | spiRead (a n : Nat)
  /-- SPI_WRITE (R593). -/
  | spiWrite (a : Nat) (bytes : List Byte)
  /-- PKT_WRITE (R595). -/
  | pktWrite (len : Nat) (bytes : List Byte) (crc : Nat)
  /-- RSP_READ (R593). -/
  | rspRead
  /-- TEST_MODE_HIGH (R526). -/
  | testModeHigh
  /-- MEMORY_BIST_END (R541). -/
  | memoryBistEnd (fails : List Nat) (done : Bool)
  /-- WAKE_RELEASE (R55). -/
  | wakeRelease
  /-- REGISTER_READ (R586). -/
  | registerRead (m : Master) (a size : Nat) (ecc : Nat)
  /-- MEMORY_WRITE (R337). -/
  | memoryWrite (m : Master) (a : Nat) (bytes : List Byte)
  /-- GRANITE_COPY_DONE (R325). -/
  | graniteCopyDone
  deriving DecidableEq, Repr

end Sys2Proof
end

