-- ==== Sys2Proof/Config.lean ====
section
/-! DEFINITION. What an implementation fixes and the spec leaves open: opaque constants, of which nothing can be proved. -/
namespace Sys2Proof

/-- The supply of free values: the n-th value that the spec leaves open (log 7). DESIGN CHOICE: nothing constrains it. -/
opaque Config.freeWord : Nat → BitVec 64

/-- Silicon revision and boot ROM version, which the spec does not give (R599, R528). -/
opaque Config.silicon : BitVec 4
opaque Config.romVersion : BitVec 8

/-- Orsuba's manufacturer code in IDCODE, which the spec names and does not give (R528). -/
opaque Config.manufacturer : BitVec 11

/-- Size of the flash in bytes as its SFDP tables report it, which the part fitted decides (R573). -/
opaque Config.flashSize : Nat

end Sys2Proof
end

