-- ==== Sys2Proof/Machine/State.lean ====
section
/-! DEFINITION. The state of the block: the register banks, the memories, and everything the spec gives the machine beside them. Plain data throughout. -/

namespace Sys2Proof.Machine

/-- A field of a unit page: page index, byte offset, highest and lowest bit (R4). -/
structure Fld where
  page : Nat
  off : Nat
  hi : Nat
  lo : Nat
  deriving DecidableEq, Repr

/-- Access codes of R9. -/
inductive Acc | rw | ro | wo | w1c | rwc | rws
  deriving DecidableEq, Repr

/-- The narrowest reset that sets a field (R10); live fields have none (R11). -/
inductive Scope | block | warm | cold | live
  deriving DecidableEq, Repr

/-- A row of a register table: n registers from offset off, bits hi to lo, access, reset value and scope. -/
structure Row where
  off : Nat
  n : Nat
  hi : Nat
  lo : Nat
  acc : Acc
  rst : Nat
  scope : Scope
  deriving DecidableEq, Repr

/-- Regions of the address map (R572). -/
inductive Region | rom | sram | retention | slate | calStore | graniteRam | pages | flash
  deriving DecidableEq, Repr

/-! ### Fault collection and recorder (14_faults_and_event_recorder) -/

/-- Hidden state of fault collection: what the FLT registers do not hold (R458 to R467). -/
structure Flt where
  /-- sources that in the present cycle became pending, unacknowledged, real, or pending at a higher level (R459, R461) -/
  fresh : List Nat
  /-- pending sources raised by injection only, which take no part in R459 (R468) -/
  injOnly : List Nat
  /-- pending sources whose fault escalated (R469) -/
  escalated : List Nat
  /-- pending sources, newest raise first (R469) -/
  order : List Nat
  /-- conditions of Held sources that persist: source and instance (R460) -/
  held : List (Nat × Nat)
  /-- newest instance of each source that has raised (R576) -/
  newest : List (Nat × Nat)
  deriving DecidableEq, Repr

/-- An event record before it is written: the fields of R470 that its raise fixes. -/
structure EvRec where
  code : Nat
  level : Nat
  flags : Nat
  count : Nat
  data : List Byte
  deriving DecidableEq, Repr

/-- An open coalescing tracker (R474): the first record of its key, repeats counted, the last repeat, when it opened. -/
structure Tracker where
  first : EvRec
  repeats : Nat
  last : EvRec
  opened : Nat
  deriving DecidableEq, Repr

/-- A checkpoint of the time base (R479, R480). -/
structure Checkpoint where
  oh : Nat
  pcc : Nat
  wkc : Nat
  head : Nat
  attSum : Nat
  deriving DecidableEq, Repr

/-- The event recorder (R470 to R482). -/
structure Evr where
  /-- records waiting to be written, oldest first, at most 64 (R475) -/
  queue : List EvRec
  /-- open trackers, oldest first, at most 16 (R474) -/
  trackers : List Tracker
  /-- the next record written carries LOSS (R475) -/
  loss : Bool
  /-- SEQ of the EVR_START record of the current gap (R482); none before the first -/
  gap : Option Nat
  /-- the current gap is attested (R482) -/
  attested : Bool
  /-- SEQ of written records that are not yet mirrored (R476), oldest first -/
  waiting : List Nat
  /-- DROP_CNT of each link at its newest EVR_BC_DROP, and when that was written (R477) -/
  bcSeen : List Nat
  bcAt : List (Option Nat)
  /-- retention and flash checkpoints; none when not valid (R479) -/
  ckRet : Option Checkpoint
  ckFlash : Option Checkpoint
  deriving DecidableEq, Repr

/-! ### Safety (13_functional_safety) -/

/-- One channel of a safety input. -/
structure SinChan where
  /-- sampled level (R433) -/
  high : Bool
  /-- level at the start of the test pulse under way (R434) -/
  wasHigh : Bool
  /-- test pulses passed since INIT or FAULT was entered (R435) -/
  passed : Nat
  deriving DecidableEq, Repr

/-- A safety output (R437, R438). -/
structure Sout where
  /-- SOUTn driven high -/
  high : Bool
  /-- an off-pulse is under way -/
  pulse : Bool
  /-- the read-back has been high for PWR_MS: the tiles have power (R440) -/
  powered : Bool
  deriving DecidableEq, Repr

/-- Hidden state of the safety domain and of Flint's supervision. -/
structure Saf where
  /-- the frame flipped at the last TSYNC was not BLANK (R421) -/
  beamLit : Bool
  /-- both cores of Flint are halted (R441) -/
  halted : Bool
  /-- a lockstep mismatch has occurred since the last reset (R421) -/
  lockstep : Bool
  /-- the Flint watchdog has expired since it was armed (R421) -/
  wdtExpired : Bool
  /-- time of the last kick (R442) -/
  lastKick : Option Nat
  /-- a GOV_DP, GRAM_UNC or GOV_DIGEST fault has occurred since the last reset (R422) -/
  granFault : Bool
  /-- channels A and B of the four inputs: index 2n and 2n + 1 -/
  chans : List SinChan
  /-- inputs whose channels have both stood at their healthy level for FILT_US (R435) -/
  healthyFor : List Bool
  /-- the test pulse under way (R431) -/
  tpo : Option Nat
  souts : List Sout
  /-- a trigger has been taken in the present cycle (R429) -/
  trigNow : Nat
  /-- the pads of FIELD_OK and the safety outputs are gated low by a self-test or test mode (R532) -/
  padGate : Bool
  /-- reactions that Flint owes on its return to RUN: source, code and detail (R496) -/
  due : List (Nat × Nat × Nat)
  deriving DecidableEq, Repr

/-! ### Reset and boot (04_reset_and_boot), balls (02_balls_and_supplies) -/

/-- A block reset: the page, and whether BLK_RESET still reads 1 (R123, R125). -/
structure Block where
  page : Nat
  running : Bool
  deriving DecidableEq, Repr

/-- Hidden state of the reset unit and of the boot sequence. -/
structure Rst where
  /-- a cold or warm reset is in progress -/
  scope : Option ResetScope
  /-- level of PMIC_PG (R64, R65) -/
  pg : Bool
  /-- the reset is held by RST_N (R118) or by THM_CRIT (R497) -/
  pinHeld : Bool
  thmHeld : Bool
  /-- the pin was marked stuck and its record is due (R120, R618) -/
  stuckDue : Bool
  /-- units under block reset or in their quiescence window (R123 to R125) -/
  blocks : List Block
  /-- what PROF0, PROF1 and RCVY_N sample (R74) -/
  straps : Straps
  /-- RCVY_N was sampled low at the last release (R75) -/
  recoveryStrap : Bool
  /-- the boot under way follows a cold reset; it follows a DEEP exit (R509) -/
  cold : Bool
  deepExit : Bool
  /-- the journal of this boot is open (R133); until then its entries wait here -/
  journalOpen : Bool
  early : List (List Byte)
  /-- entries in the current boot record; the last is that of the step under way -/
  entry : Nat
  /-- AVOID bits set before the journal was open (R130) -/
  avoid : Nat
  /-- flash copy that the next journal write takes, 0 or 1 (R136) -/
  copy : Nat
  /-- the cause of the reset under way releases lock-out: a pin reset ended by RST_N going high (R121, R448) -/
  pinClears : Bool
  /-- the step under way has taken its alternative (R129) -/
  alt : Bool
  /-- the application watchdog counts since this time (R117) -/
  wdtAt : Option Nat
  /-- time of the last reset release (R135) -/
  released : Nat
  /-- the boot of this start has not yet reached FIRST_LIGHT, BOOT_STOP or recovery -/
  lit : Bool
  deriving DecidableEq, Repr

/-! ### Quartz (03_quartz_clocking) -/

/-- The RC oscillator (R95 to R98). -/
inductive RcState | off | attempt | pause | running
  deriving DecidableEq, Repr

/-- Hidden state of Quartz. -/
structure Quartz where
  rc : RcState
  /-- attempts made since the last reset (R98) -/
  tries : Nat
  /-- the link being acquired in WAIT_REF and ACQUIRE (R91) -/
  acq : Nat
  /-- the link whose loss started the holdover (R92) -/
  lost : Nat
  /-- the target of the switch under way (R91) -/
  target : Nat
  /-- the holdover timer runs since this time (R89) -/
  holdSince : Option Nat
  /-- the VCO control voltage is frozen (R83) -/
  frozen : Bool
  /-- the clock monitor is masked (R102) -/
  masked : Bool
  /-- the RC check has tripped since the last reset (R104) -/
  rcTrip : Bool
  /-- a complete 1 ms window of each link lay within 300 ppm; none before the first (R86) -/
  window : List (Option Bool)
  /-- the root was stopped by STOPPING and has not locked since (R481) -/
  stopped : Bool
  /-- the triangle of the spread spectrum restarted at this time (R107) -/
  sscSince : Option Nat
  deriving DecidableEq, Repr

/-! ### Gylys links, safe frames, side link (05_gylys_link) -/

/-- Frame kinds of the back channel, in priority order (R154). -/
inductive BcKind | ack | safe | lctl | status | reg | event
  deriving DecidableEq, Repr

/-- A frame that has started on the back channel: kind and payload. -/
structure BcFrame where
  kind : BcKind
  payload : List Byte
  deriving DecidableEq, Repr

/-- Ordered sets that the device has issued on a back channel and not yet sent (R145). -/
inductive OrdSet | ts | tsd | ltr | pause | resume
  deriving DecidableEq, Repr

/-- A frame waiting in the receive buffer: FTYPE (1 WORK, 4 REG) and payload (R155). -/
structure RxFrame where
  ftype : Nat
  payload : List Byte
  deriving DecidableEq, Repr

/-- A work packet (R195): what its header and body say, and the path it came on: 0 Link A, 1 Link B, 2 the packet window. -/
structure Packet where
  link : Nat
  chan : Nat
  seq : Nat
  target : Nat
  arg : Nat
  body : List Byte
  deriving DecidableEq, Repr

/-- A link-time exchange the device has answered: XNO, T2 and T3 (R165, R166). -/
structure Exchange where
  xno : Nat
  t2 : Nat
  t3 : Nat
  deriving DecidableEq, Repr

/-- One Gylys link beside its LNK page. -/
structure Link where
  /-- receive buffer, oldest first (R155) -/
  rx : List RxFrame
  /-- a packet classified as accepted that waits for ring room (R219), and since when -/
  waiting : Option Packet
  waitSince : Nat
  /-- ordered sets issued and not yet sent, oldest first (R145, R155) -/
  sets : List OrdSet
  /-- fill of the rate-matching queue (R161) -/
  rate : Nat
  /-- LTM received since the link entered ACTIVE (R165), and the last four exchanges (R166) -/
  ltm : Nat
  exch : List Exchange
  /-- back-channel queues (R154) -/
  ack : List (List Byte)
  safe : List (List Byte)
  lctl : List (List Byte)
  status : Option (List Byte)
  reg : List (List Byte)
  event : List (List Byte)
  /-- the frame on the wire and the core cycles it still takes -/
  wire : Option BcFrame
  busy : Nat
  /-- the first STATUS frame since ACTIVE has been queued (R153) -/
  greeted : Bool
  /-- a frame has left since the link entered ACTIVE (R153) -/
  opened : Bool
  /-- NACK GAP holds of the four channels (R207) -/
  gapHold : List Bool
  /-- when a DONE frame of each channel last left (R209) -/
  doneAt : List (Option Nat)
  deriving DecidableEq, Repr

/-- A pending safe-frame copy: its 64 bytes and when its last byte arrived (R177). -/
structure Copy where
  bytes : List Byte
  at_ : Nat
  deriving DecidableEq, Repr

/-- The safe-frame comparator beside its CSF page, with what Flint holds of matched frames. -/
structure Csf where
  /-- pending tables of Link A and Link B, oldest first, at most 8 each (R177) -/
  pendA : List Copy
  pendB : List Copy
  /-- reference SEQ of each link (R176) -/
  refA : Option Nat
  refB : Option Nat
  /-- a host frame has been matched since the last warm or cold reset (R176) -/
  matched : Bool
  /-- time of the last matched STATE since the last reset that R179 names -/
  stateAt : Option Nat
  /-- BEAM_REQ and SPEED of the last matched STATE (R174) -/
  beamReq : Option Nat
  speed : Nat
  /-- LOCK_CNT of a matched UNLOCK and number of a matched PROFILE that Flint has not acted on (R449, R568) -/
  unlock : Option Nat
  profile : Option Nat
  deriving DecidableEq, Repr

/-- The side link beside its SIDE page. -/
structure Side where
  /-- time of the last valid frame (R188) -/
  lastRx : Option Nat
  /-- consecutive valid PHASE frames (R190) -/
  phases : Nat
  /-- the peer's role, flip time in ns of the device's clock, frame number and period (R187) -/
  peerRole : Option Nat
  peerFlip : Option Nat
  peerFrame : Nat
  peerPeriod : Nat
  peerLocked : Bool
  /-- consecutive phase errors within the lock limit (R385) -/
  lockRun : Nat
  /-- frames sent to the peer and not yet taken off the wire: FTYPE and payload (R186) -/
  tx : List RxFrame
  deriving DecidableEq, Repr

/-- The SPI target beside what SYS holds (R593 to R595). -/
structure Spi where
  err : Bool
  pktErr : Bool
  pktBusy : Bool
  /-- the packet that PKT_BUSY stands for (R219, R594) -/
  waiting : Option Packet
  /-- queued response frames, oldest first, at most 64 of 16 bytes -/
  rsp : List (List Byte)
  doneAt : List (Option Nat)
  deriving DecidableEq, Repr

/-- The command store (06_work_submission). -/
structure Cmd where
  /-- accepted packets that are not DONE, per channel, oldest first (R217) -/
  rings : List (List Packet)
  /-- the link engines run: LINKS has started them (R214, R619) -/
  served : Bool
  /-- DONE_SEQ has advanced on a channel and no frame has told the host yet (R209) -/
  doneDue : List Bool
  deriving DecidableEq, Repr

/-! ### Compositor (07_layers_and_composition) -/

/-- A tile region to recompute: field band, tile, first cell and number of cells, the parity reports that wait for its outcome (layer and
failing word), and whether an injection caused them (R254, R256). -/
structure Recomp where
  band : Nat
  tile : Nat
  cell0 : Nat
  cells : Nat
  parity : List (Nat × Nat)
  inj : Bool
  deriving DecidableEq, Repr

/-- The compositor beside the CMP and LAY pages. -/
structure Cmp where
  /-- layers whose ENABLE the last latch point sampled and let into the frame (R244) -/
  active : List Nat
  /-- layers whose pending commit is held, and those of a group commit held together (R246, R247) -/
  held : List Nat
  heldGroup : List Nat
  /-- buffer that each layer showed in the previous frame; none before the first (R250) -/
  shown : List (Option Nat)
  /-- bands composed for the frame: band and 65,536 values of 16 bits, row by row (R27) -/
  bands : List (Nat × List Nat)
  /-- bands released by the Governor: band and, for 65,536 pixels, the value leaving the Governor and its code (R240, R315, R347) -/
  released : List (Nat × List (Nat × Nat))
  /-- regions waiting for recomputation, and how often each was recomputed in this frame: band, tile and first cell (R256, R257) -/
  recomp : List Recomp
  tries : List ((Nat × Nat × Nat) × Nat)
  /-- the flip of the frame has been deferred: the next latch point composes it again (R259) -/
  deferred : Bool
  /-- the seam weight is active in the frame (R295) -/
  seam : Bool
  /-- CMP_PERIOD in force: the interval that begins at the flip of the frame being composed, and the one before (R241) -/
  periodNext : Nat
  period : Nat
  deriving DecidableEq, Repr

/-! ### Glare rendering (08_shadow_rendering) -/

/-- An object record of R266; angles and rates are signed. -/
structure Obj where
  id : Nat
  cls : Nat
  mclass : Nat
  hMin : Int
  hMax : Int
  vMin : Int
  vMax : Int
  vh : Int
  vv : Int
  ah : Int
  av : Int
  tObs : Nat
  deriving DecidableEq, Repr

/-- An object list (R265) and the SEQ of its packet. -/
structure ObjList where
  seq : Nat
  listTime : Nat
  objs : List Obj
  deriving DecidableEq, Repr

/-- A prepared entry of LIST (R287), or an entry of a SEAM frame (R292). -/
structure Entry where
  id : Nat
  cls : Nat
  mclass : Nat
  seam : Bool
  capped : Bool
  hLo : Int
  hHi : Int
  vLo : Int
  vHi : Int
  margin : Nat
  ageMs : Nat
  vhPh : Int
  vvPh : Int
  deriving DecidableEq, Repr

/-- A pixel box in tile coordinates (R278). -/
structure PixBox where
  xLo : Int
  xHi : Int
  yLo : Int
  yHi : Int
  deriving DecidableEq, Repr

/-- The seam store: the newest SEAM frame (R293). -/
structure SeamFrame where
  frame : Nat
  tPh : Nat
  entries : List Entry
  deriving DecidableEq, Repr

/-- One beam engine beside its BE page. -/
structure Engine where
  /-- pixel boxes of the frame (R280), in LIST order -/
  boxes : List PixBox
  /-- tile bands marked written for the frame (R283) -/
  written : List Nat
  /-- the frame being rendered has had a miss (R282) -/
  missed : Bool
  /-- box-only mode is due at the next cut-off (R282) -/
  boxDue : Bool
  deriving DecidableEq, Repr

/-- Glare rendering beside the GLR and BE pages. -/
structure Glare where
  /-- the newest accepted list not yet taken, and the held list (R268) -/
  newest : Option ObjList
  heldList : Option ObjList
  /-- prepared entries: objects, then seam boxes (R287) -/
  entries : List Entry
  engines : List Engine
  store : Option SeamFrame
  /-- T_PH and T_NEXT of the frame (R269), in ns -/
  tPh : Nat
  tNext : Nat
  /-- the frame's list is stale (R276) -/
  stale : Bool
  /-- the lamp was split at the cut-off (R274) -/
  split : Bool
  deriving DecidableEq, Repr

/-! ### Tile lanes (11_tile_lanes) -/

/-- A region to push (R362, R368). -/
structure Rgn where
  band : Nat
  cell0 : Nat
  cells : Nat
  frame : Nat
  repush : Bool
  scrub : Bool
  deriving DecidableEq, Repr

/-- Control packets of R364. -/
inductive Ctl | assign | shutdown | resume | sleep
  deriving DecidableEq, Repr

/-- One tile lane beside its TL page. -/
structure Lane where
  /-- the tile has taken its index (R622); it has been ACTIVE since the last cold or warm reset -/
  assigned : Bool
  everActive : Bool
  /-- the lane entered 1 WAKE from 6 SLEEP, or from 5 ACTIVE to retrain (R391) -/
  viaService : Bool
  /-- attempts in ASSIGN, and retrains since the last completed flip in ACTIVE (R388) -/
  tries : Nat
  retrains : Nat
  /-- regions waiting to be pushed, in push order; the one being sent; those whose report is due (R370, R374) -/
  queue : List Rgn
  sending : Option Rgn
  due : List Rgn
  /-- bytes of the last packet sent: header, payload, CRC-32 (R361) -/
  packet : List Byte
  /-- region packets since the lane entered ACTIVE, modulo 256 (R362) -/
  rseq : Nat
  /-- signature pushed last of each of the 256 cells, and the dirty cells (R367); cell 16 b + c -/
  sigs : List Nat
  dirty : List Nat
  /-- rounds without ALIVE, consecutive missing reports (R374, R388) -/
  noAlive : Nat
  missRun : Nat
  /-- message bits received since MSG_START, newest last (R375) -/
  msg : List Bool
  /-- when the last good STATUS arrived (R376) -/
  statusAt : Option Nat
  /-- consecutive STATUS at or above OT_C (R393), and mismatching both frame numbers (R379) -/
  otRun : Nat
  flipRun : Nat
  /-- unconfirmed SHUTDOWN or RESUME: sends, and STATUS messages since the last send (R364) -/
  ctl : Option Ctl
  ctlSends : Nat
  ctlWait : Nat
  /-- start of the unbroken cool-down (R394) -/
  coolSince : Option Nat
  /-- identity parts received in IDENT (R388) -/
  uidLo : Option (Nat × Nat)
  uidHi : Option (Nat × Nat)
  cap : Option Nat
  deriving DecidableEq, Repr

/-- The frame timer, FSYNC_IN and the tile status bus beside the TLN page. Times in ns of the device's clock. -/
structure Tln where
  running : Bool
  /-- scheduled time of the next flip; the adjustment fixed for the frame being composed (R381) -/
  nextFlip : Nat
  adj : Int
  /-- T_NEXT that rendered the frame (R381) -/
  tNext : Nat
  /-- the frame being composed has passed its latch point; its flip is committed (R371) -/
  latched : Bool
  committed : Bool
  /-- the push deadline of the frame has passed (R258, R378) -/
  closed : Bool
  /-- frame number at the first round of the messages under way (R379) -/
  msgFrame : Option Nat
  /-- latest FSYNC_IN edge, edges seen, whether it is lost (R384) -/
  fsEdge : Option Nat
  fsSeen : Nat
  fsLost : Bool
  /-- consecutive cut-offs within the lock window, and the source of the last cut-off (R385) -/
  lockRun : Nat
  /-- rounds in which a driven 0 read back 1 (R373) -/
  tsbMiss : Nat
  /-- a frame with blanked cells has been counted (R378) -/
  lateCounted : Bool
  deriving DecidableEq, Repr

/-- The Governor beside the GOV page (R309 to R319). Integrals are in units of 2^-24 cd; lists are indexed by zone. -/
structure Gov where
  /-- L_z, g_z, U_z and S_z of the frame being composed (R314, R315) -/
  limits : List Nat
  gains : List Nat
  u : List Nat
  sums : List Nat
  /-- U_z of the last flipped frame, its gains, and whether it was ADAPTIVE (R314) -/
  uPrev : List Nat
  gPrev : List Nat
  wasAdaptive : Bool
  /-- band and its factors f_z as first released (R317) -/
  factors : List (Nat × List Nat)
  /-- newest LIST_TIME the command store accepted (R311) -/
  listTime : Option Nat
  /-- states of G-A and G-B in flash, coded as GOV_SLOT, and the active one (R323 to R325) -/
  slots : List Nat
  active : Option Nat
  /-- the copy of step 4 of R325 is due -/
  copyDue : Bool
  deriving DecidableEq, Repr

/-- Calibration of one tile beside CAL_TILEn (R331, R337, R344). -/
structure CalTile where
  /-- bank, LOAD state and F that the last latch point fixed (R331) -/
  bank : Nat
  load : Bool
  gain : Nat
  /-- a completed bank awaits its latch point: its temperature, and whether the tile had one (R345) -/
  waiting : Option (Int × Bool)
  /-- the bank in force was interpolated without a temperature (R344) -/
  blind : Bool
  /-- the tile's temperature was available at the last look (R346) -/
  hadTemp : Bool
  deriving DecidableEq, Repr

/-- CAL beside the CAL page. -/
structure Cal where
  tiles : List CalTile
  /-- interpolations: tile, temperature, whether it is the tile's own; the first is running (R345) -/
  jobs : List (Nat × Int × Bool)
  /-- a trim trigger arrived during a run; the codes in force (R356, R357) -/
  trimAgain : Bool
  codes : List Nat
  deriving DecidableEq, Repr

/-- Flux loop of one tile beside the FLX page (R347 to R349). -/
structure FlxTile where
  /-- tile means of the frames flipped since the last sample: their sum and number -/
  sum : Nat
  frames : Nat
  /-- P of the previous sample -/
  prev : Option Nat
  /-- the tile was in LOAD, shut down or on a disabled lane since the last sample; the next sample is the first of case 7 -/
  away : Bool
  first : Bool
  deriving DecidableEq, Repr

/-- The flux record of R353: SET_ID, then TILE_UID and F23 of each tile. -/
structure FluxRec where
  setId : Nat
  tiles : List (Nat × Nat)
  deriving DecidableEq, Repr

/-- The flux unit. -/
structure Flx where
  tiles : List FlxTile
  /-- the record in flash, and when it was last written -/
  record : Option FluxRec
  writtenAt : Option Nat
  deriving DecidableEq, Repr

/-- One segment channel: value and D_cmd of the set due at the next LATCH, those of the set after it, the driver's shadow, and what is
shown with its D_cmd (R406, R407, R416). -/
structure SegChan where
  due : Nat
  cmd : Nat
  next : Option (Nat × Nat)
  shadow : Option Nat
  shown : Nat
  shownCmd : Nat
  /-- consecutive POLL results of open and of short (R418) -/
  opens : Nat
  shorts : Nat
  deriving DecidableEq, Repr

/-- A transaction on the Segment Bus: command, address, attempts made, channels and values of a SET (R402, R403). -/
structure SegTxn where
  cmd : Nat
  addr : Nat
  attempts : Nat
  values : List (Nat × Nat)
  deriving DecidableEq, Repr

/-- The Segment Bus unit. -/
structure Seg where
  chans : List (Nat × SegChan)
  txn : Option SegTxn
  /-- the last request sent (R401) -/
  sent : List Byte
  /-- consecutive transactions aborted by a read-back error (R400) -/
  aborts : Nat
  /-- drivers that have answered IDENT, had CONFIG, and when each last polled well (R405, R411) -/
  configured : List Nat
  polled : List (Nat × Nat)
  /-- drivers that became absent (R403) -/
  lost : List Nat
  /-- row slots run since the flip, and the SCAN output that is high (R412) -/
  slot : Nat
  high : Option Nat
  /-- last factor of each channel (R355): channel and factor -/
  factors : List (Nat × Nat)
  deriving DecidableEq, Repr

/-- Flash writes that wait for the window, in the order of R499. -/
inductive Deferred | epoch | journal | mirror | checkpoint | flux | update | settings
  deriving DecidableEq, Repr

/-- Housekeeping beside the THM page. -/
structure Thm where
  /-- a round is under way since this time; the next round is the first after root lock (R486, R490) -/
  round : Option Nat
  firstDue : Bool
  /-- die temperatures of the last kept rounds, newest first, in S11.4 (R493) -/
  hist : List Int
  warn : Bool
  stop : Bool
  /-- a die temperature has been reported since the last cold reset (R517) -/
  peaked : Bool
  deferred : List Deferred
  deriving DecidableEq, Repr

/-- Where the power unit stands (R501 to R514). -/
inductive PwrState
  | run
  | idle
  | sleep
  /-- waiting for Flint's preparation (R505) -/
  | prep
  /-- steps 5 to 7 of R507: waiting for PMIC_PG to fall -/
  | ackEntry
  | deep
  | off
  /-- waiting for PMIC_PG to rise -/
  | ackExit
  /-- the resumed boot has not reached step 6 of R509 -/
  | resume
  deriving DecidableEq, Repr

/-- The power unit beside the PWR page. -/
structure Pwr where
  st : PwrState
  /-- state requested: 2 SLEEP, 3 DEEP, 4 OFF -/
  target : Nat
  /-- entry of the present state -/
  since : Nat
  /-- WAKE ball, PMIC_STBY, LY_STATE last written (R55, R513) -/
  wake : Bool
  stby : Bool
  lyState : Nat
  /-- RST_N was low in DEEP: the exit is a PIN_DEEP reset (R119) -/
  pinDeep : Bool
  /-- fields saved at DEEP entry: register offset and word (R508) -/
  saved : List (Nat × Word)
  /-- Slate banks in light sleep (R512) -/
  banks : List Nat
  /-- source of the wake under way, as WAKE_SRC codes it (R506, R518) -/
  src : Nat
  /-- the acknowledgement of the DEEP exit under way is late (R514) -/
  ackLate : Bool
  deriving DecidableEq, Repr

/-- Security, test access and self-test beside the SEC and BST pages. -/
structure Sec where
  /-- key vault: eight slots of 256 bits (R525) -/
  vault : List Nat
  /-- the TAP is in Test-Logic-Reset and no instruction has come since; TEST_MODE is high in RAW (R526, R528) -/
  trst : Bool
  testMode : Bool
  /-- the TAP is open by the lifecycle state or by an accepted response: level (R526, R530) -/
  tapLevel : Nat
  /-- the nonce stands for one response, since this time (R529) -/
  nonceAt : Option Nat
  /-- response being checked: level, whether the level and the nonce stand, whether its key and reserved bytes pass (R529) -/
  resp : Option (Nat × Bool × Bool)
  /-- start of the secret clear; the memory BIST asked for includes retention RAM (R532, R541) -/
  clrAt : Nat
  mbRet : Bool
  /-- boundary register, EXTEST in force, scan enabled (R528, R532) -/
  bscan : List Bool
  extest : Bool
  scan : Bool
  /-- a BIST result other than PASS is raised after the boot that follows (R537) -/
  bistDue : Bool
  deriving DecidableEq, Repr

/-- Fuses (R542 to R544). -/
structure Fus where
  /-- contents of rows 0 to 28 -/
  rows : List Nat
  /-- the bits being programmed: row and bit, and whether a lifecycle request asked for them -/
  job : Option (Nat × List Nat × Bool)
  /-- rows that fail their parity (R542) -/
  parity : List Nat
  deriving DecidableEq, Repr

/-- A main or calibration slot as the update record holds it (R552, R556). -/
structure Slot where
  st : Nat
  overlap : Bool
  rej : Nat
  /-- sectors the erase map shows as erased -/
  erased : List Nat
  deriving DecidableEq, Repr

/-- A settings record (R562): FMT, byte 6, COUNT, and the hardware unique key under which Garnet made its TAG. -/
structure SetRec where
  fmt : Nat
  profSel : Nat
  count : Nat
  key : Nat
  deriving DecidableEq, Repr

/-- The update unit and the settings (R548 to R564). -/
structure Upd where
  /-- main A, main B, G-A and G-B (erase map only), C0, C1 -/
  slots : List Slot
  /-- a confirmed bundle's fuses are not finished (R559): ROLLBACK and REVOKE still asked for -/
  fusePend : Option (Nat × Nat)
  /-- a trial is in force since this FIRST_LIGHT (R560); a failed trial's reset is due -/
  trialAt : Option Nat
  /-- slot that boots on trial (R557) and whether its boot has failed (R560) -/
  trial : Option Nat
  trialFailed : Bool
  /-- ACTIVATE with RESTART, or in recovery, has been DONE: a warm reset is due (R561, R564) -/
  restart : Bool
  /-- slot being verified (R555) and TOTAL_SIZE given -/
  verifying : Option (Nat × Nat)
  /-- the two settings copies in flash (R562) -/
  settings : List (Option SetRec)
  deriving DecidableEq, Repr

/-- What the safety domain makes the block's outputs do, and the machine's refusals. -/
inductive Fault
  /-- no meaning raises it: the block reports every fault in its registers (safe) -/
  | none_
  deriving DecidableEq, Repr

/-- Why a command has no next state. -/
inductive Refusal
  /-- an arm of exec that has no meaning yet; raised by Dispatch only (safe) -/
  | notModelled (mnemonic : String)
  deriving DecidableEq, Repr

/-- The whole machine (INVENTORY.md, State). -/
structure State where
  /-- active, shadow and pending banks of the unit pages: byte offset from 0x4000_0000 and word, canonical (R577) -/
  regs : List (Nat × Word)
  shadow : List (Nat × Word)
  pend : List (Nat × Word)
  /-- pages whose pending bank holds an accepted commit (R578) -/
  pendPages : List Nat
  /-- every memory of R572: address and byte, canonical -/
  mem : List Host.Cell
  /-- latched HI words: master identifier and offset of the HI register (R586) -/
  latches : List ((Nat × Nat) × Word)
  /-- core cycles of 2.5 ns; the model's own clock (log 4) -/
  now : Nat
  /-- root-clocked housekeeping cycles since OH_MS last advanced, in core cycles (R479) -/
  ohSub : Nat
  /-- link time in 2^-16 ns (R164), what is left of a slew in the same unit (R166), when an exchange was last applied (R168) -/
  lt : Nat
  slew : Int
  ltApplied : Option Nat
  flt : Flt
  evr : Evr
  saf : Saf
  rst : Rst
  quartz : Quartz
  lnkA : Link
  lnkB : Link
  csf : Csf
  side : Side
  spi : Spi
  cmd : Cmd
  cmp : Cmp
  glare : Glare
  lanes : List Lane
  tln : Tln
  gov : Gov
  cal : Cal
  flx : Flx
  seg : Seg
  thm : Thm
  pwr : Pwr
  sec : Sec
  fus : Fus
  upd : Upd
  /-- words the last reading command returned to its master (R586, R593) -/
  readData : List Word
  /-- the supply of free values (log 7) -/
  fresh : Nat
  /-- commands waiting, first in first out -/
  pending : List Instr
  deriving DecidableEq, Repr

def Gov.init : Gov :=
  { limits := List.replicate 256 0, gains := List.replicate 256 65536, u := List.replicate 256 0, sums := List.replicate 256 0,
    uPrev := List.replicate 256 0, gPrev := List.replicate 256 65536, wasAdaptive := false, factors := [], listTime := none,
    slots := [0, 0], active := none, copyDue := false }

def CalTile.init : CalTile := { bank := 0, load := true, gain := 32768, waiting := none, blind := false, hadTemp := false }

def Cal.init : Cal := { tiles := List.replicate 8 CalTile.init, jobs := [], trimAgain := false, codes := [] }

def FlxTile.init : FlxTile := { sum := 0, frames := 0, prev := none, away := true, first := false }

def Flx.init : Flx := { tiles := List.replicate 8 FlxTile.init, record := none, writtenAt := none }

def SegChan.init : SegChan := { due := 0, cmd := 0, next := none, shadow := none, shown := 0, shownCmd := 0, opens := 0, shorts := 0 }

def Seg.init : Seg :=
  { chans := [], txn := none, sent := [], aborts := 0, configured := [], polled := [], lost := [], slot := 0, high := none, factors := [] }

def Thm.init : Thm := { round := none, firstDue := true, hist := [], warn := false, stop := false, peaked := false, deferred := [] }

def Pwr.init : Pwr :=
  { st := .run, target := 0, since := 0, wake := false, stby := false, lyState := 0, pinDeep := false, saved := [], banks := [], src := 0, ackLate := false }

def Sec.init : Sec :=
  { vault := List.replicate 8 0, trst := true, testMode := false, tapLevel := 0, nonceAt := none, resp := none, clrAt := 0, mbRet := false, bscan := [],
    extest := false, scan := false, bistDue := false }

def Fus.init : Fus := { rows := List.replicate 29 0, job := none, parity := [] }

def Slot.init : Slot := { st := 0, overlap := false, rej := 0, erased := [] }

def Upd.init : Upd :=
  { slots := List.replicate 6 Slot.init, fusePend := none, trialAt := none, trial := none, trialFailed := false, restart := false,
    verifying := none, settings := [none, none] }

def Lane.init : Lane :=
  { assigned := false, everActive := false, viaService := false, tries := 0, retrains := 0, queue := [], sending := none,
    due := [], packet := [], rseq := 0, sigs := [], dirty := List.range 256, noAlive := 0, missRun := 0,
    msg := [], statusAt := none, otRun := 0, flipRun := 0, ctl := none, ctlSends := 0, ctlWait := 0, coolSince := none,
    uidLo := none, uidHi := none, cap := none }

def Tln.init : Tln :=
  { running := false, nextFlip := 0, adj := 0, tNext := 0, latched := false, committed := false, closed := false, msgFrame := none, fsEdge := none, fsSeen := 0,
    fsLost := false, lockRun := 0, tsbMiss := 0, lateCounted := false }

def Engine.init : Engine := { boxes := [], written := [], missed := false, boxDue := false }

def Glare.init : Glare :=
  { newest := none, heldList := none, entries := [], engines := List.replicate 8 Engine.init, store := none, tPh := 0, tNext := 0,
    stale := true, split := false }

def Cmp.init : Cmp :=
  { active := [], held := [], heldGroup := [], shown := List.replicate 16 none, bands := [], released := [],
    recomp := [], tries := [], deferred := false, seam := false, periodNext := 4166667, period := 4166667 }

def Cmd.init : Cmd :=
  { rings := [[], [], [], []], served := false, doneDue := [false, false, false, false] }

def Spi.init : Spi := { err := false, pktErr := false, pktBusy := false, waiting := none, rsp := [], doneAt := [none, none, none, none] }

def Side.init : Side :=
  { lastRx := none, phases := 0, peerRole := none, peerFlip := none, peerFrame := 0, peerPeriod := 0, peerLocked := false,
    lockRun := 0, tx := [] }

def Csf.init : Csf :=
  { pendA := [], pendB := [], refA := none, refB := none, matched := false, stateAt := none, beamReq := none, speed := 0,
    unlock := none, profile := none }

def Link.init : Link :=
  { rx := [], waiting := none, waitSince := 0, sets := [], rate := 16, ltm := 0, exch := [], ack := [], safe := [], lctl := [],
    status := none, reg := [], event := [], wire := none, busy := 0, greeted := false, opened := false, gapHold := [false, false, false, false],
    doneAt := [none, none, none, none] }

def Quartz.init : Quartz :=
  { rc := .off, tries := 0, acq := 0, lost := 0, target := 0, holdSince := none, frozen := false, masked := true, rcTrip := false,
    window := [none, none], stopped := false, sscSince := none }

def Rst.init : Rst :=
  { scope := some .cold, pg := false, pinHeld := false, thmHeld := false, stuckDue := false, blocks := [],
    straps := Straps.default_, recoveryStrap := false, cold := true, deepExit := false, journalOpen := false, early := [],
    entry := 0, avoid := 0, copy := 0, pinClears := false, alt := false, wdtAt := none, released := 0, lit := false }

def SinChan.init : SinChan := { high := false, wasHigh := false, passed := 0 }

def Sout.init : Sout := { high := false, pulse := false, powered := false }

def Saf.init : Saf :=
  { beamLit := false, halted := false, lockstep := false, wdtExpired := false, lastKick := none, granFault := false,
    chans := List.replicate 8 SinChan.init, healthyFor := List.replicate 4 false, tpo := none, souts := [Sout.init, Sout.init], trigNow := 0,
    padGate := false, due := [] }

def Evr.init : Evr :=
  { queue := [], trackers := [], loss := false, gap := none, attested := false, waiting := [], bcSeen := [0, 0], bcAt := [none, none],
    ckRet := none, ckFlash := none }

def Flt.init : Flt := { fresh := [], injOnly := [], escalated := [], order := [], held := [], newest := [] }

/-- Every register field at its cold-reset value, every queue empty, PMIC_PG low and no command waiting. Values the spec does not
give are those of log 1, 2, 3 and 5. -/
def State.blank : State :=
  { regs := [], shadow := [], pend := [], pendPages := [], mem := [], latches := [], now := 0, ohSub := 0, lt := 0, slew := 0,
    ltApplied := none, flt := Flt.init, evr := Evr.init, saf := Saf.init, rst := Rst.init, quartz := Quartz.init,
    lnkA := Link.init, lnkB := Link.init, csf := Csf.init, side := Side.init, spi := Spi.init, cmd := Cmd.init, cmp := Cmp.init,
    glare := Glare.init, lanes := List.replicate 8 Lane.init, tln := Tln.init,
    gov := Gov.init, cal := Cal.init, flx := Flx.init, seg := Seg.init, thm := Thm.init, pwr := Pwr.init, sec := Sec.init,
    fus := Fus.init, upd := Upd.init,
    readData := [], fresh := 0, pending := [] }

/-- The machine right after the power-on reset: RST_CAUSE.POR is set by the source (R113, R141). -/
def State.reset : State := { State.blank with regs := [(0x2040, 1)] }

end Sys2Proof.Machine
end

