-- ==== Sys2Proof/Machine/Fields.lean ====
section
/-! DEFINITION. The name of every register field of the unit pages, from the register tables of the spec's chapters:
page, offset, highest and lowest bit. A field of an instance page takes the instance n, counted modulo the instances
that there are; one of a register array its index k. -/

namespace Sys2Proof.Machine

/-! The common header of page p (18_register_map, R576). -/
def F.UNIT_CTRL_ENABLE (p : Nat) : Fld := ⟨p, 0x8, 0, 0⟩
def F.UNIT_CTRL_BLK_RESET (p : Nat) : Fld := ⟨p, 0x8, 1, 1⟩
def F.UNIT_CTRL_WORLD (p : Nat) : Fld := ⟨p, 0x8, 2, 2⟩
def F.UNIT_STATUS_COMMIT_ERR (p : Nat) : Fld := ⟨p, 0xC, 0, 0⟩
def F.UNIT_IRQ_EN_EN (p : Nat) : Fld := ⟨p, 0x14, 3, 0⟩
def F.UNIT_IRQ_STAT_EVT (p : Nat) : Fld := ⟨p, 0x18, 0, 0⟩
def F.UNIT_IRQ_STAT_FAULT (p : Nat) : Fld := ⟨p, 0x18, 1, 1⟩
def F.UNIT_IRQ_STAT_COMMIT (p : Nat) : Fld := ⟨p, 0x18, 2, 2⟩
def F.UNIT_COMMIT_COUNT (p : Nat) : Fld := ⟨p, 0x30, 31, 16⟩

/-! CLK: R112 (03_quartz_clocking). -/
def F.CLK_MODE_RATIO_FREE : Fld := ⟨0x1, 0x40, 0, 0⟩
def F.CLK_REF_CTRL_SEL : Fld := ⟨0x1, 0x44, 0, 0⟩
def F.CLK_REF_CTRL_AUTO : Fld := ⟨0x1, 0x44, 1, 1⟩
def F.CLK_REF_CTRL_ACQ_TMO : Fld := ⟨0x1, 0x44, 15, 8⟩
def F.CLK_REF_CTRL_HOLD_MAX : Fld := ⟨0x1, 0x44, 21, 16⟩
def F.CLK_REF_CMD_GO : Fld := ⟨0x1, 0x48, 0, 0⟩
def F.CLK_REF_CMD_TARGET : Fld := ⟨0x1, 0x48, 1, 1⟩
def F.CLK_STAT_STATE : Fld := ⟨0x1, 0x4C, 3, 0⟩
def F.CLK_STAT_REF_ACT : Fld := ⟨0x1, 0x4C, 4, 4⟩
def F.CLK_STAT_A_LOCK : Fld := ⟨0x1, 0x4C, 5, 5⟩
def F.CLK_STAT_B_LOCK : Fld := ⟨0x1, 0x4C, 6, 6⟩
def F.CLK_STAT_A_ELIG : Fld := ⟨0x1, 0x4C, 7, 7⟩
def F.CLK_STAT_B_ELIG : Fld := ⟨0x1, 0x4C, 8, 8⟩
def F.CLK_STAT_ROOT_OK : Fld := ⟨0x1, 0x4C, 9, 9⟩
def F.CLK_STAT_ALIGNED : Fld := ⟨0x1, 0x4C, 10, 10⟩
def F.CLK_STAT_MON_GOOD : Fld := ⟨0x1, 0x4C, 11, 11⟩
def F.CLK_STAT_RF_ACTIVE : Fld := ⟨0x1, 0x4C, 12, 12⟩
def F.CLK_STAT_SSC_ACTIVE : Fld := ⟨0x1, 0x4C, 13, 13⟩
def F.CLK_STAT_SWITCH_CNT : Fld := ⟨0x1, 0x4C, 23, 16⟩
def F.CLK_EVT_LOSS_A : Fld := ⟨0x1, 0x50, 0, 0⟩
def F.CLK_EVT_LOSS_B : Fld := ⟨0x1, 0x50, 1, 1⟩
def F.CLK_EVT_HOLD_EXP : Fld := ⟨0x1, 0x50, 2, 2⟩
def F.CLK_EVT_CMD_REJ : Fld := ⟨0x1, 0x50, 3, 3⟩
def F.CLK_EVT_ACQ_ALT : Fld := ⟨0x1, 0x50, 4, 4⟩
def F.CLK_EVT_SSC_REJ : Fld := ⟨0x1, 0x50, 5, 5⟩
def F.CLK_MON_STAT_LANE : Fld := ⟨0x1, 0x54, 0, 0⟩
def F.CLK_MON_STAT_PIX : Fld := ⟨0x1, 0x54, 1, 1⟩
def F.CLK_MON_STAT_CORE : Fld := ⟨0x1, 0x54, 2, 2⟩
def F.CLK_MON_STAT_PERI : Fld := ⟨0x1, 0x54, 3, 3⟩
def F.CLK_MON_STAT_HK : Fld := ⟨0x1, 0x54, 4, 4⟩
def F.CLK_MON_STAT_RC : Fld := ⟨0x1, 0x54, 5, 5⟩
def F.CLK_MON_CNT_CNT_LO (k : Nat) : Fld := ⟨0x1, 0x58 + 4 * k, 15, 0⟩
def F.CLK_MON_CNT_CNT_HI (k : Nat) : Fld := ⟨0x1, 0x58 + 4 * k, 31, 16⟩
def F.CLK_FREQ_ERR_OTHER_PPM : Fld := ⟨0x1, 0x64, 15, 0⟩
def F.CLK_FREQ_ERR_VALID : Fld := ⟨0x1, 0x64, 16, 16⟩
def F.CLK_RC_START_ATTEMPTS : Fld := ⟨0x1, 0x68, 3, 0⟩
def F.CLK_RC_START_FAIL_STEP : Fld := ⟨0x1, 0x68, 6, 4⟩
def F.CLK_RC_START_DEAD : Fld := ⟨0x1, 0x68, 7, 7⟩
def F.CLK_SSC_EN : Fld := ⟨0x1, 0x6C, 0, 0⟩
def F.CLK_SSC_DEPTH : Fld := ⟨0x1, 0x6C, 3, 1⟩
def F.CLK_SSC_RATE : Fld := ⟨0x1, 0x6C, 5, 4⟩
def F.CLK_RF_PIX_DIV : Fld := ⟨0x1, 0x70, 23, 0⟩
def F.CLK_RF_CORE_DIV : Fld := ⟨0x1, 0x74, 23, 0⟩
def F.CLK_SW_FORCED_FLAG : Fld := ⟨0x1, 0x78, 0, 0⟩
def F.CLK_SW_FORCED_COUNT : Fld := ⟨0x1, 0x78, 15, 8⟩
def F.CLK_SW_FORCED_WAIT : Fld := ⟨0x1, 0x78, 22, 16⟩

/-! RST: R141 (04_reset_and_boot). -/
def F.RST_CAUSE_POR : Fld := ⟨0x2, 0x40, 0, 0⟩
def F.RST_CAUSE_PG_LOSS : Fld := ⟨0x2, 0x40, 1, 1⟩
def F.RST_CAUSE_SUPPLY : Fld := ⟨0x2, 0x40, 2, 2⟩
def F.RST_CAUSE_THM_CRIT : Fld := ⟨0x2, 0x40, 3, 3⟩
def F.RST_CAUSE_PIN : Fld := ⟨0x2, 0x40, 4, 4⟩
def F.RST_CAUSE_PIN_DEEP : Fld := ⟨0x2, 0x40, 5, 5⟩
def F.RST_CAUSE_SW : Fld := ⟨0x2, 0x40, 6, 6⟩
def F.RST_CAUSE_TAP : Fld := ⟨0x2, 0x40, 7, 7⟩
def F.RST_CAUSE_WDT_APP : Fld := ⟨0x2, 0x40, 8, 8⟩
def F.RST_CAUSE_WDT_FLINT : Fld := ⟨0x2, 0x40, 9, 9⟩
def F.RST_CAUSE_BOOT_TMO : Fld := ⟨0x2, 0x40, 10, 10⟩
def F.RST_CAUSE_STUCK : Fld := ⟨0x2, 0x40, 11, 11⟩
def F.RST_CMD_WARM : Fld := ⟨0x2, 0x44, 0, 0⟩
def F.RST_CMD_KEY : Fld := ⟨0x2, 0x44, 15, 8⟩
def F.RST_PIN_LEVEL : Fld := ⟨0x2, 0x48, 0, 0⟩
def F.RST_PIN_STUCK : Fld := ⟨0x2, 0x48, 1, 1⟩
def F.RST_PIN_STUCK_IGNORE : Fld := ⟨0x2, 0x48, 2, 2⟩
def F.RST_PIN_STUCK_CNT : Fld := ⟨0x2, 0x48, 31, 16⟩
def F.RST_BLK_QUIET_QUIET_US : Fld := ⟨0x2, 0x4C, 7, 0⟩
def F.RST_BLK_STAT_LAST_UNIT : Fld := ⟨0x2, 0x50, 7, 0⟩
def F.RST_BLK_STAT_IN_WINDOW : Fld := ⟨0x2, 0x50, 8, 8⟩
def F.RST_BLK_STAT_CONSEQ_CNT : Fld := ⟨0x2, 0x50, 31, 16⟩
def F.RST_BOOT_STAT_STEP : Fld := ⟨0x2, 0x54, 7, 0⟩
def F.RST_BOOT_STAT_PHASE : Fld := ⟨0x2, 0x54, 10, 8⟩
def F.RST_BOOT_STAT_SLOT_B : Fld := ⟨0x2, 0x54, 11, 11⟩
def F.RST_BOOT_STAT_G_SLOT_B : Fld := ⟨0x2, 0x54, 12, 12⟩
def F.RST_BOOT_STAT_CAL_DEFAULT : Fld := ⟨0x2, 0x54, 13, 13⟩
def F.RST_BOOT_STAT_PRF0_FORCED : Fld := ⟨0x2, 0x54, 14, 14⟩
def F.RST_BOOT_STAT_TRIES : Fld := ⟨0x2, 0x54, 19, 16⟩
def F.RST_BJ_AVOID_AVOID : Fld := ⟨0x2, 0x58, 31, 0⟩
def F.RST_BJ_CTRL_CLR_AVOID : Fld := ⟨0x2, 0x5C, 0, 0⟩
def F.RST_BJ_CTRL_MIRROR_NOW : Fld := ⟨0x2, 0x5C, 1, 1⟩
def F.RST_EPOCH_EPOCH : Fld := ⟨0x2, 0x60, 31, 0⟩
def F.RST_EPOCH_STAT_SAVED : Fld := ⟨0x2, 0x64, 0, 0⟩
def F.RST_WDT_CTRL_EN : Fld := ⟨0x2, 0x68, 0, 0⟩
def F.RST_WDT_CTRL_TMO_MS : Fld := ⟨0x2, 0x68, 15, 8⟩
def F.RST_WDT_KICK_KEY : Fld := ⟨0x2, 0x6C, 7, 0⟩
def F.RST_EVT_CMD_REJ : Fld := ⟨0x2, 0x70, 0, 0⟩
def F.RST_EVT_BLK_REJ : Fld := ⟨0x2, 0x70, 1, 1⟩
def F.RST_EVT_STRAP : Fld := ⟨0x2, 0x70, 2, 2⟩
def F.RST_EVT_JOURNAL_NEW : Fld := ⟨0x2, 0x70, 3, 3⟩

/-! LNK: R192 (05_gylys_link). -/
def F.LNK_CTRL_PWR_SENSE (n : Nat) : Fld := ⟨0x8 + n % 2, 0x40, 0, 0⟩
def F.LNK_CTRL_PAUSE_EN (n : Nat) : Fld := ⟨0x8 + n % 2, 0x40, 1, 1⟩
def F.LNK_CTRL_EVT_EN (n : Nat) : Fld := ⟨0x8 + n % 2, 0x40, 2, 2⟩
def F.LNK_CTRL_TRN_TMO (n : Nat) : Fld := ⟨0x8 + n % 2, 0x40, 15, 8⟩
def F.LNK_STAT_STATE (n : Nat) : Fld := ⟨0x8 + n % 2, 0x44, 3, 0⟩
def F.LNK_STAT_SIG_DET (n : Nat) : Fld := ⟨0x8 + n % 2, 0x44, 4, 4⟩
def F.LNK_STAT_CDR_LOCK (n : Nat) : Fld := ⟨0x8 + n % 2, 0x44, 5, 5⟩
def F.LNK_STAT_SYM_LOCK (n : Nat) : Fld := ⟨0x8 + n % 2, 0x44, 6, 6⟩
def F.LNK_STAT_PAUSED (n : Nat) : Fld := ⟨0x8 + n % 2, 0x44, 7, 7⟩
def F.LNK_STAT_FEED (n : Nat) : Fld := ⟨0x8 + n % 2, 0x44, 10, 8⟩
def F.LNK_STAT_FILL_KIB (n : Nat) : Fld := ⟨0x8 + n % 2, 0x44, 22, 16⟩
def F.LNK_EVT_LOS (n : Nat) : Fld := ⟨0x8 + n % 2, 0x48, 0, 0⟩
def F.LNK_EVT_LOL (n : Nat) : Fld := ⟨0x8 + n % 2, 0x48, 1, 1⟩
def F.LNK_EVT_ALIGN_LOST (n : Nat) : Fld := ⟨0x8 + n % 2, 0x48, 2, 2⟩
def F.LNK_EVT_TRN_TMO (n : Nat) : Fld := ⟨0x8 + n % 2, 0x48, 3, 3⟩
def F.LNK_EVT_OVERRUN (n : Nat) : Fld := ⟨0x8 + n % 2, 0x48, 4, 4⟩
def F.LNK_EVT_SLIP (n : Nat) : Fld := ⟨0x8 + n % 2, 0x48, 5, 5⟩
def F.LNK_EVT_WRONG_LINK (n : Nat) : Fld := ⟨0x8 + n % 2, 0x48, 6, 6⟩
def F.LNK_EVT_FEED_CHG (n : Nat) : Fld := ⟨0x8 + n % 2, 0x48, 7, 7⟩
def F.LNK_EVT_LT_STEP (n : Nat) : Fld := ⟨0x8 + n % 2, 0x48, 8, 8⟩
def F.LNK_EVT_CRC_ERR (n : Nat) : Fld := ⟨0x8 + n % 2, 0x48, 9, 9⟩
def F.LNK_EVT_MALFORMED (n : Nat) : Fld := ⟨0x8 + n % 2, 0x48, 10, 10⟩
def F.LNK_ERR_CNT_CNT_LO (n : Nat) : Fld := ⟨0x8 + n % 2, 0x4C, 15, 0⟩
def F.LNK_FRM_CNT_CNT_LO (n : Nat) : Fld := ⟨0x8 + n % 2, 0x50, 15, 0⟩
def F.LNK_SKP_CNT_CNT_LO (n : Nat) : Fld := ⟨0x8 + n % 2, 0x54, 15, 0⟩
def F.LNK_TRN_CNT_CNT_LO (n : Nat) : Fld := ⟨0x8 + n % 2, 0x58, 15, 0⟩
def F.LNK_ERR_CNT_CNT_HI (n : Nat) : Fld := ⟨0x8 + n % 2, 0x4C, 31, 16⟩
def F.LNK_FRM_CNT_CNT_HI (n : Nat) : Fld := ⟨0x8 + n % 2, 0x50, 31, 16⟩
def F.LNK_SKP_CNT_CNT_HI (n : Nat) : Fld := ⟨0x8 + n % 2, 0x54, 31, 16⟩
def F.LNK_TRN_CNT_CNT_HI (n : Nat) : Fld := ⟨0x8 + n % 2, 0x58, 31, 16⟩
def F.LNK_BC_DROP_DROP (n : Nat) : Fld := ⟨0x8 + n % 2, 0x5C, 31, 0⟩
def F.LNK_LT_OFS_OFS (n : Nat) : Fld := ⟨0x8 + n % 2, 0x60, 31, 0⟩
def F.LNK_LT_DLY_DLY (n : Nat) : Fld := ⟨0x8 + n % 2, 0x64, 15, 0⟩
def F.LNK_LT_DLY_XNO (n : Nat) : Fld := ⟨0x8 + n % 2, 0x64, 23, 16⟩
def F.LNK_LT_DLY_VALID (n : Nat) : Fld := ⟨0x8 + n % 2, 0x64, 24, 24⟩
def F.LNK_FEED_CODE (n : Nat) : Fld := ⟨0x8 + n % 2, 0x68, 11, 0⟩
def F.LNK_RXBUF_BLOCK (n : Nat) : Fld := ⟨0x8 + n % 2, 0x6C, 4, 0⟩

/-! SIDE: R193 (05_gylys_link). -/
def F.SIDE_CTRL_ROLE : Fld := ⟨0xA, 0x40, 0, 0⟩
def F.SIDE_CTRL_SEAM_EN : Fld := ⟨0xA, 0x40, 1, 1⟩
def F.SIDE_CTRL_TMO_MS : Fld := ⟨0xA, 0x40, 15, 8⟩
def F.SIDE_CTRL_DLY_NS : Fld := ⟨0xA, 0x40, 31, 16⟩
def F.SIDE_STAT_STATE : Fld := ⟨0xA, 0x44, 3, 0⟩
def F.SIDE_STAT_SPLIT : Fld := ⟨0xA, 0x44, 4, 4⟩
def F.SIDE_STAT_RX_OK : Fld := ⟨0xA, 0x44, 5, 5⟩
def F.SIDE_STAT_PEER_RX_OK : Fld := ⟨0xA, 0x44, 6, 6⟩
def F.SIDE_STAT_PHASE_LOCK : Fld := ⟨0xA, 0x44, 7, 7⟩
def F.SIDE_STAT_ROLE_CONFLICT : Fld := ⟨0xA, 0x44, 8, 8⟩
def F.SIDE_EVT_LOST : Fld := ⟨0xA, 0x48, 0, 0⟩
def F.SIDE_EVT_RESTORED : Fld := ⟨0xA, 0x48, 1, 1⟩
def F.SIDE_EVT_ROLE_CONFLICT : Fld := ⟨0xA, 0x48, 2, 2⟩
def F.SIDE_EVT_SLIP : Fld := ⟨0xA, 0x48, 3, 3⟩
def F.SIDE_EVT_CRC_ERR : Fld := ⟨0xA, 0x48, 4, 4⟩
def F.SIDE_EVT_TRN_TMO : Fld := ⟨0xA, 0x48, 5, 5⟩
def F.SIDE_PHASE_ERR_NS : Fld := ⟨0xA, 0x4C, 31, 0⟩
def F.SIDE_CNT_SPLITS : Fld := ⟨0xA, 0x50, 15, 0⟩
def F.SIDE_CNT_CRC : Fld := ⟨0xA, 0x50, 31, 16⟩

/-! CSF: R194 (05_gylys_link). -/
def F.CSF_CFG_WIN : Fld := ⟨0xB, 0x40, 7, 0⟩
def F.CSF_CFG_TMO : Fld := ⟨0xB, 0x40, 15, 8⟩
def F.CSF_CFG_AGE_MAX : Fld := ⟨0xB, 0x40, 23, 16⟩
def F.CSF_ID_OWN_ID : Fld := ⟨0xB, 0x44, 15, 0⟩
def F.CSF_ID_HOST_ID : Fld := ⟨0xB, 0x44, 31, 16⟩
def F.CSF_STAT_CURRENT : Fld := ⟨0xB, 0x48, 0, 0⟩
def F.CSF_STAT_LT_VALID : Fld := ⟨0xB, 0x48, 1, 1⟩
def F.CSF_STAT_PEND_A : Fld := ⟨0xB, 0x48, 5, 2⟩
def F.CSF_STAT_PEND_B : Fld := ⟨0xB, 0x48, 9, 6⟩
def F.CSF_STAT_VERDICT : Fld := ⟨0xB, 0x48, 13, 12⟩
def F.CSF_EVT_MISMATCH : Fld := ⟨0xB, 0x4C, 0, 0⟩
def F.CSF_EVT_STALE : Fld := ⟨0xB, 0x4C, 1, 1⟩
def F.CSF_EVT_UNPAIRED_A : Fld := ⟨0xB, 0x4C, 2, 2⟩
def F.CSF_EVT_UNPAIRED_B : Fld := ⟨0xB, 0x4C, 3, 3⟩
def F.CSF_EVT_CRC : Fld := ⟨0xB, 0x4C, 4, 4⟩
def F.CSF_EVT_FORMAT : Fld := ⟨0xB, 0x4C, 5, 5⟩
def F.CSF_EVT_ID : Fld := ⟨0xB, 0x4C, 6, 6⟩
def F.CSF_EVT_EPOCH : Fld := ⟨0xB, 0x4C, 7, 7⟩
def F.CSF_EVT_AGE : Fld := ⟨0xB, 0x4C, 8, 8⟩
def F.CSF_EVT_OLD : Fld := ⟨0xB, 0x4C, 9, 9⟩
def F.CSF_EVT_DUP : Fld := ⟨0xB, 0x4C, 10, 10⟩
def F.CSF_LAST_SEQ_SEQ : Fld := ⟨0xB, 0x50, 31, 0⟩
def F.CSF_CNT_MATCHED : Fld := ⟨0xB, 0x54, 15, 0⟩
def F.CSF_CNT_REJECTED : Fld := ⟨0xB, 0x54, 31, 16⟩
def F.CSF_AGE_AGE_US : Fld := ⟨0xB, 0x58, 23, 0⟩
def F.CSF_LT_LO_LT : Fld := ⟨0xB, 0x5C, 31, 0⟩
def F.CSF_LT_HI_LT : Fld := ⟨0xB, 0x60, 31, 0⟩
def F.CSF_TX_SEQ_SEQ : Fld := ⟨0xB, 0x64, 31, 0⟩

/-! CMD: R220 (06_work_submission). -/
def F.CMD_CTRL_GAP_HOLD : Fld := ⟨0x10, 0x40, 7, 0⟩
def F.CMD_BASE_BASE : Fld := ⟨0x10, 0x44, 6, 0⟩
def F.CMD_RING_SIZE_CTRL : Fld := ⟨0x10, 0x48, 7, 0⟩
def F.CMD_RING_SIZE_LAYER : Fld := ⟨0x10, 0x48, 15, 8⟩
def F.CMD_RING_SIZE_OBJECT : Fld := ⟨0x10, 0x48, 23, 16⟩
def F.CMD_RING_SIZE_UPDATE : Fld := ⟨0x10, 0x48, 31, 24⟩
def F.CMD_EXP_EXP (k : Nat) : Fld := ⟨0x10, 0x50 + 4 * k, 31, 0⟩
def F.CMD_DONE_DONE_SEQ (k : Nat) : Fld := ⟨0x10, 0x60 + 4 * k, 31, 0⟩
def F.CMD_FILL_CTRL : Fld := ⟨0x10, 0x70, 7, 0⟩
def F.CMD_FILL_LAYER : Fld := ⟨0x10, 0x70, 15, 8⟩
def F.CMD_FILL_OBJECT : Fld := ⟨0x10, 0x70, 23, 16⟩
def F.CMD_FILL_UPDATE : Fld := ⟨0x10, 0x70, 31, 24⟩
def F.CMD_EVT_GAP : Fld := ⟨0x10, 0x74, 0, 0⟩
def F.CMD_EVT_EPOCH : Fld := ⟨0x10, 0x74, 1, 1⟩
def F.CMD_EVT_FORMAT : Fld := ⟨0x10, 0x74, 2, 2⟩
def F.CMD_EVT_FORBIDDEN : Fld := ⟨0x10, 0x74, 3, 3⟩
def F.CMD_EVT_REPLAY : Fld := ⟨0x10, 0x74, 4, 4⟩
def F.CMD_EVT_STATE_COPY : Fld := ⟨0x10, 0x74, 5, 5⟩
def F.CMD_EVT_STORE_LOST : Fld := ⟨0x10, 0x74, 6, 6⟩
def F.CMD_EVT_STORE_TMO : Fld := ⟨0x10, 0x74, 7, 7⟩
def F.CMD_EVT_DEEP_REF : Fld := ⟨0x10, 0x74, 8, 8⟩
def F.CMD_CNT_ACC_ACC : Fld := ⟨0x10, 0x78, 31, 0⟩
def F.CMD_CNT_DUP_CNT_A : Fld := ⟨0x10, 0x7C, 15, 0⟩
def F.CMD_CNT_GAP_CNT_A : Fld := ⟨0x10, 0x80, 15, 0⟩
def F.CMD_CNT_DUP_CNT_B : Fld := ⟨0x10, 0x7C, 31, 16⟩
def F.CMD_CNT_GAP_CNT_B : Fld := ⟨0x10, 0x80, 31, 16⟩
def F.CMD_CNT_NOOP_NOOP : Fld := ⟨0x10, 0x84, 31, 0⟩
def F.CMD_STORE_TMO_TMO_MS : Fld := ⟨0x10, 0x88, 7, 0⟩

/-! CMP: R262 (07_layers_and_composition). -/
def F.CMP_CTRL_DITHER_EN : Fld := ⟨0x18, 0x40, 0, 0⟩
def F.CMP_CTRL_RETRY_MAX : Fld := ⟨0x18, 0x40, 3, 1⟩
def F.CMP_CTRL_DEFER_MAX : Fld := ⟨0x18, 0x40, 6, 4⟩
def F.CMP_PERIOD_PER_NS : Fld := ⟨0x18, 0x44, 31, 0⟩
def F.CMP_STALE_MASK_STALE_MAX : Fld := ⟨0x18, 0x48, 3, 0⟩
def F.CMP_FRAME_FRAME_NO : Fld := ⟨0x18, 0x4C, 31, 0⟩
def F.CMP_STAT_COMPOSING : Fld := ⟨0x18, 0x50, 0, 0⟩
def F.CMP_STAT_REPEATING : Fld := ⟨0x18, 0x50, 1, 1⟩
def F.CMP_STAT_HELD_ANY : Fld := ⟨0x18, 0x50, 2, 2⟩
def F.CMP_STAT_DEFER_RUN : Fld := ⟨0x18, 0x50, 10, 8⟩
def F.CMP_STAT_MAX_LAYERS : Fld := ⟨0x18, 0x50, 19, 16⟩
def F.CMP_LTR_LTR_US : Fld := ⟨0x18, 0x54, 15, 0⟩
def F.CMP_EVT_RECOMP : Fld := ⟨0x18, 0x58, 0, 0⟩
def F.CMP_EVT_DEFER : Fld := ⟨0x18, 0x58, 1, 1⟩
def F.CMP_EVT_DEFER_FATAL : Fld := ⟨0x18, 0x58, 2, 2⟩
def F.CMP_EVT_PARITY : Fld := ⟨0x18, 0x58, 3, 3⟩
def F.CMP_EVT_PERIOD_REJ : Fld := ⟨0x18, 0x58, 4, 4⟩
def F.CMP_EVT_EN_HELD : Fld := ⟨0x18, 0x58, 5, 5⟩
def F.CMP_EVT_BLK_DEFER : Fld := ⟨0x18, 0x58, 6, 6⟩
def F.CMP_CNT_RECOMP : Fld := ⟨0x18, 0x5C, 15, 0⟩
def F.CMP_CNT_DEFER : Fld := ⟨0x18, 0x5C, 31, 16⟩
def F.CMP_FLIP_LT_LO_LT : Fld := ⟨0x18, 0x60, 31, 0⟩
def F.CMP_FLIP_LT_HI_LT : Fld := ⟨0x18, 0x64, 31, 0⟩
def F.CMP_COMMIT_FRAME_FRAME : Fld := ⟨0x18, 0x68, 31, 0⟩

/-! LAY: R263 (07_layers_and_composition). -/
def F.LAY_CTRL_KIND (n : Nat) : Fld := ⟨0x19 + n % 16, 0x40, 1, 0⟩
def F.LAY_CTRL_SRC (n : Nat) : Fld := ⟨0x19 + n % 16, 0x40, 2, 2⟩
def F.LAY_CTRL_LIVE (n : Nat) : Fld := ⟨0x19 + n % 16, 0x40, 3, 3⟩
def F.LAY_CTRL_FMT (n : Nat) : Fld := ⟨0x19 + n % 16, 0x40, 7, 4⟩
def F.LAY_CTRL_OP (n : Nat) : Fld := ⟨0x19 + n % 16, 0x40, 10, 8⟩
def F.LAY_CTRL_Z (n : Nat) : Fld := ⟨0x19 + n % 16, 0x40, 15, 12⟩
def F.LAY_CTRL_SX (n : Nat) : Fld := ⟨0x19 + n % 16, 0x40, 17, 16⟩
def F.LAY_CTRL_SY (n : Nat) : Fld := ⟨0x19 + n % 16, 0x40, 19, 18⟩
def F.LAY_CTRL_FRONT (n : Nat) : Fld := ⟨0x19 + n % 16, 0x40, 20, 20⟩
def F.LAY_CTRL_FENCE_EN (n : Nat) : Fld := ⟨0x19 + n % 16, 0x40, 21, 21⟩
def F.LAY_POS_X0 (n : Nat) : Fld := ⟨0x19 + n % 16, 0x44, 15, 0⟩
def F.LAY_POS_Y0 (n : Nat) : Fld := ⟨0x19 + n % 16, 0x44, 31, 16⟩
def F.LAY_SIZE_W (n : Nat) : Fld := ⟨0x19 + n % 16, 0x48, 12, 0⟩
def F.LAY_SIZE_H (n : Nat) : Fld := ⟨0x19 + n % 16, 0x48, 28, 16⟩
def F.LAY_BUF_BASE (n k : Nat) : Fld := ⟨0x19 + n % 16, 0x4C + 4 * k, 16, 0⟩
def F.LAY_STRIDE_STRIDE (n : Nat) : Fld := ⟨0x19 + n % 16, 0x54, 11, 0⟩
def F.LAY_FENCE_TGT (n : Nat) : Fld := ⟨0x19 + n % 16, 0x58, 15, 0⟩
def F.LAY_FENCE_CNT (n : Nat) : Fld := ⟨0x19 + n % 16, 0x58, 31, 16⟩
def F.LAY_BLEND_GALPHA (n : Nat) : Fld := ⟨0x19 + n % 16, 0x5C, 7, 0⟩
def F.LAY_BLEND_KEY_EN (n : Nat) : Fld := ⟨0x19 + n % 16, 0x5C, 8, 8⟩
def F.LAY_BLEND_ROW1_ALPHA (n : Nat) : Fld := ⟨0x19 + n % 16, 0x5C, 9, 9⟩
def F.LAY_BLEND_KEY (n : Nat) : Fld := ⟨0x19 + n % 16, 0x5C, 31, 16⟩
def F.LAY_CSC_K_KA (n k : Nat) : Fld := ⟨0x19 + n % 16, 0x60 + 4 * k, 15, 0⟩
def F.LAY_CSC_K_KB (n k : Nat) : Fld := ⟨0x19 + n % 16, 0x60 + 4 * k, 31, 16⟩
def F.LAY_CSC_IOFS_IN_OFS (n k : Nat) : Fld := ⟨0x19 + n % 16, 0x74 + 4 * k, 16, 0⟩
def F.LAY_CSC_OOFS_OUT_OFS (n k : Nat) : Fld := ⟨0x19 + n % 16, 0x80 + 4 * k, 16, 0⟩
def F.LAY_MASK_DIL_R (n : Nat) : Fld := ⟨0x19 + n % 16, 0x8C, 4, 0⟩
def F.LAY_STAT_FRONT_ACT (n : Nat) : Fld := ⟨0x19 + n % 16, 0x90, 0, 0⟩
def F.LAY_STAT_HELD (n : Nat) : Fld := ⟨0x19 + n % 16, 0x90, 1, 1⟩
def F.LAY_STAT_FENCE_WAIT (n : Nat) : Fld := ⟨0x19 + n % 16, 0x90, 2, 2⟩
def F.LAY_STAT_DATA_WAIT (n : Nat) : Fld := ⟨0x19 + n % 16, 0x90, 3, 3⟩
def F.LAY_STAT_DILATED (n : Nat) : Fld := ⟨0x19 + n % 16, 0x90, 4, 4⟩
def F.LAY_STAT_ZERO (n : Nat) : Fld := ⟨0x19 + n % 16, 0x90, 5, 5⟩
def F.LAY_STAT_EN_HELD (n : Nat) : Fld := ⟨0x19 + n % 16, 0x90, 6, 6⟩
def F.LAY_STAT_STALE_RUN (n : Nat) : Fld := ⟨0x19 + n % 16, 0x90, 15, 8⟩
def F.LAY_COMMIT_FRAME_FRAME (n : Nat) : Fld := ⟨0x19 + n % 16, 0x94, 31, 0⟩
def F.LAY_EVT_REPEAT (n : Nat) : Fld := ⟨0x19 + n % 16, 0x98, 0, 0⟩
def F.LAY_EVT_DILATE (n : Nat) : Fld := ⟨0x19 + n % 16, 0x98, 1, 1⟩
def F.LAY_EVT_PARITY (n : Nat) : Fld := ⟨0x19 + n % 16, 0x98, 2, 2⟩
def F.LAY_EVT_FRONT_WR (n : Nat) : Fld := ⟨0x19 + n % 16, 0x98, 3, 3⟩
def F.LAY_EVT_EN_HELD (n : Nat) : Fld := ⟨0x19 + n % 16, 0x98, 4, 4⟩
def F.LAY_REJ_REASON (n : Nat) : Fld := ⟨0x19 + n % 16, 0x9C, 3, 0⟩
def F.LAY_CNT_REPEATS (n : Nat) : Fld := ⟨0x19 + n % 16, 0xA0, 15, 0⟩
def F.LAY_CNT_FLIPS (n : Nat) : Fld := ⟨0x19 + n % 16, 0xA0, 31, 16⟩

/-! GLR: R296 (08_shadow_rendering). -/
def F.GLR_CTRL_MISS_MAX : Fld := ⟨0x30, 0x40, 3, 0⟩
def F.GLR_KSEL_SLOT : Fld := ⟨0x30, 0x44, 0, 0⟩
def F.GLR_KSEL_ROM : Fld := ⟨0x30, 0x44, 1, 1⟩
def F.GLR_KLOAD_GO : Fld := ⟨0x30, 0x48, 0, 0⟩
def F.GLR_KLOAD_SLOT : Fld := ⟨0x30, 0x48, 1, 1⟩
def F.GLR_KSTAT_STATE0 : Fld := ⟨0x30, 0x4C, 1, 0⟩
def F.GLR_KSTAT_STATE1 : Fld := ⟨0x30, 0x4C, 3, 2⟩
def F.GLR_KSTAT_REJ : Fld := ⟨0x30, 0x4C, 7, 4⟩
def F.GLR_WIN_BLOCK : Fld := ⟨0x30, 0x50, 4, 0⟩
def F.GLR_MASK_BASE : Fld := ⟨0x30, 0x54, 16, 0⟩
def F.GLR_PHOTON_OFS_NS : Fld := ⟨0x30, 0x58, 19, 0⟩
def F.GLR_AGE_XMAX_MS : Fld := ⟨0x30, 0x5C, 6, 0⟩
def F.GLR_MARGIN_M0 (k : Nat) : Fld := ⟨0x30, 0x60 + 4 * k, 9, 0⟩
def F.GLR_MARGIN_MMAX (k : Nat) : Fld := ⟨0x30, 0x60 + 4 * k, 19, 10⟩
def F.GLR_MARGIN_G (k : Nat) : Fld := ⟨0x30, 0x60 + 4 * k, 31, 20⟩
def F.GLR_SEAM_X_START : Fld := ⟨0x30, 0x70, 10, 0⟩
def F.GLR_SEAM_X_END : Fld := ⟨0x30, 0x70, 26, 16⟩
def F.GLR_SEAM_W_W_END : Fld := ⟨0x30, 0x74, 15, 0⟩
def F.GLR_SEAM_ZONE_H_LO : Fld := ⟨0x30, 0x78, 15, 0⟩
def F.GLR_SEAM_ZONE_H_HI : Fld := ⟨0x30, 0x78, 31, 16⟩
def F.GLR_STAT_LIST_STALE : Fld := ⟨0x30, 0x7C, 0, 0⟩
def F.GLR_STAT_NO_LIST : Fld := ⟨0x30, 0x7C, 1, 1⟩
def F.GLR_STAT_FORCE_M3 : Fld := ⟨0x30, 0x7C, 2, 2⟩
def F.GLR_STAT_SEAM_ACT : Fld := ⟨0x30, 0x7C, 3, 3⟩
def F.GLR_STAT_ROM_ACT : Fld := ⟨0x30, 0x7C, 4, 4⟩
def F.GLR_STAT_SLOT_ACT : Fld := ⟨0x30, 0x7C, 5, 5⟩
def F.GLR_STAT_NO_LAYER : Fld := ⟨0x30, 0x7C, 6, 6⟩
def F.GLR_STAT_COUNT : Fld := ⟨0x30, 0x7C, 24, 16⟩
def F.GLR_LIST_AGE_AGE_US : Fld := ⟨0x30, 0x80, 23, 0⟩
def F.GLR_SNAP_FRAME_FRAME : Fld := ⟨0x30, 0x84, 31, 0⟩
def F.GLR_SNAP_SEQ_SEQ : Fld := ⟨0x30, 0x88, 31, 0⟩
def F.GLR_EVT_LIST_STALE : Fld := ⟨0x30, 0x8C, 0, 0⟩
def F.GLR_EVT_TS_FUTURE : Fld := ⟨0x30, 0x8C, 1, 1⟩
def F.GLR_EVT_MISS : Fld := ⟨0x30, 0x8C, 2, 2⟩
def F.GLR_EVT_BOX_ONLY : Fld := ⟨0x30, 0x8C, 3, 3⟩
def F.GLR_EVT_UNWRITTEN : Fld := ⟨0x30, 0x8C, 4, 4⟩
def F.GLR_EVT_KERN_REJ : Fld := ⟨0x30, 0x8C, 5, 5⟩
def F.GLR_EVT_KSEL_REJ : Fld := ⟨0x30, 0x8C, 6, 6⟩
def F.GLR_EVT_SEAM_LATE : Fld := ⟨0x30, 0x8C, 7, 7⟩
def F.GLR_EVT_KSLOT_WR : Fld := ⟨0x30, 0x8C, 8, 8⟩
def F.GLR_CNT_SNAPS : Fld := ⟨0x30, 0x90, 15, 0⟩
def F.GLR_CNT_SUPERSEDED : Fld := ⟨0x30, 0x90, 31, 16⟩
def F.GLR_SEAM_CNT_SENT : Fld := ⟨0x30, 0x94, 15, 0⟩
def F.GLR_SEAM_CNT_LATE : Fld := ⟨0x30, 0x94, 31, 16⟩

/-! BE: R297 (08_shadow_rendering). -/
def F.BE_GEO0_H0 (n : Nat) : Fld := ⟨0x31 + n % 8, 0x40, 15, 0⟩
def F.BE_GEO0_V0 (n : Nat) : Fld := ⟨0x31 + n % 8, 0x40, 31, 16⟩
def F.BE_GEO1_PH (n : Nat) : Fld := ⟨0x31 + n % 8, 0x44, 15, 0⟩
def F.BE_GEO1_PV (n : Nat) : Fld := ⟨0x31 + n % 8, 0x44, 31, 16⟩
def F.BE_STAT_RENDERING (n : Nat) : Fld := ⟨0x31 + n % 8, 0x48, 0, 0⟩
def F.BE_STAT_BOX_ONLY (n : Nat) : Fld := ⟨0x31 + n % 8, 0x48, 1, 1⟩
def F.BE_STAT_BAND (n : Nat) : Fld := ⟨0x31 + n % 8, 0x48, 5, 2⟩
def F.BE_STAT_MISS_RUN (n : Nat) : Fld := ⟨0x31 + n % 8, 0x48, 11, 8⟩
def F.BE_CYC_LAST (n : Nat) : Fld := ⟨0x31 + n % 8, 0x4C, 15, 0⟩
def F.BE_CYC_MAX (n : Nat) : Fld := ⟨0x31 + n % 8, 0x4C, 31, 16⟩
def F.BE_EVT_OVERRUN (n : Nat) : Fld := ⟨0x31 + n % 8, 0x50, 0, 0⟩
def F.BE_EVT_WIN_FAULT (n : Nat) : Fld := ⟨0x31 + n % 8, 0x50, 1, 1⟩
def F.BE_EVT_UNWRITTEN (n : Nat) : Fld := ⟨0x31 + n % 8, 0x50, 2, 2⟩
def F.BE_EVT_BOX_ONLY (n : Nat) : Fld := ⟨0x31 + n % 8, 0x50, 3, 3⟩
def F.BE_CNT_MISS (n : Nat) : Fld := ⟨0x31 + n % 8, 0x54, 15, 0⟩
def F.BE_CNT_UNWRITTEN (n : Nat) : Fld := ⟨0x31 + n % 8, 0x54, 31, 16⟩

/-! GOV: R329 (09_granite_governor). -/
def F.GOV_CTRL_FORCE : Fld := ⟨0x40, 0x40, 1, 0⟩
def F.GOV_MODE_CUR : Fld := ⟨0x40, 0x44, 1, 0⟩
def F.GOV_MODE_REASON : Fld := ⟨0x40, 0x44, 7, 4⟩
def F.GOV_MODE_RELEASE : Fld := ⟨0x40, 0x44, 8, 8⟩
def F.GOV_STAT_TABLES_OK : Fld := ⟨0x40, 0x48, 0, 0⟩
def F.GOV_STAT_CLAMP_LAST : Fld := ⟨0x40, 0x48, 1, 1⟩
def F.GOV_STAT_GAIN_LAST : Fld := ⟨0x40, 0x48, 2, 2⟩
def F.GOV_STAT_OWN_STALE : Fld := ⟨0x40, 0x48, 3, 3⟩
def F.GOV_EVT_CLAMP : Fld := ⟨0x40, 0x4C, 0, 0⟩
def F.GOV_EVT_DP : Fld := ⟨0x40, 0x4C, 1, 1⟩
def F.GOV_EVT_ECC_UNC : Fld := ⟨0x40, 0x4C, 2, 2⟩
def F.GOV_EVT_DIGEST : Fld := ⟨0x40, 0x4C, 3, 3⟩
def F.GOV_EVT_TBL_FAIL : Fld := ⟨0x40, 0x4C, 4, 4⟩
def F.GOV_EVT_APPROVAL : Fld := ⟨0x40, 0x4C, 5, 5⟩
def F.GOV_CNT_CLAMP_FRAMES : Fld := ⟨0x40, 0x50, 15, 0⟩
def F.GOV_CNT_STATIC_FRAMES : Fld := ⟨0x40, 0x50, 31, 16⟩
def F.GOV_ECC_COR : Fld := ⟨0x40, 0x54, 15, 0⟩
def F.GOV_FRAME_FRAME : Fld := ⟨0x40, 0x58, 31, 0⟩
def F.GOV_LIST_AGE_AGE_US : Fld := ⟨0x40, 0x5C, 23, 0⟩
def F.GOV_SWID_SWID (k : Nat) : Fld := ⟨0x40, 0x60 + 4 * k, 31, 0⟩
def F.GOV_DIGEST_DIGEST (k : Nat) : Fld := ⟨0x40, 0x70 + 4 * k, 31, 0⟩
def F.GOV_APPROVAL_COUNT : Fld := ⟨0x40, 0x90, 7, 0⟩
def F.GOV_APPROVAL_BUNDLE_NO : Fld := ⟨0x40, 0x90, 15, 8⟩
def F.GOV_APPROVAL_EXHAUSTED : Fld := ⟨0x40, 0x90, 16, 16⟩
def F.GOV_SLOT_ACTIVE : Fld := ⟨0x40, 0x94, 0, 0⟩
def F.GOV_SLOT_STATE_A : Fld := ⟨0x40, 0x94, 3, 1⟩
def F.GOV_SLOT_STATE_B : Fld := ⟨0x40, 0x94, 6, 4⟩
def F.GOV_SLOT_DEFER_TEMP : Fld := ⟨0x40, 0x94, 7, 7⟩
def F.GOV_SLOT_REJ : Fld := ⟨0x40, 0x94, 11, 8⟩
def F.GOV_PROF_PROFILE : Fld := ⟨0x40, 0x98, 1, 0⟩
def F.GOV_PROF_CUTOFF_TILES : Fld := ⟨0x40, 0x98, 15, 8⟩
def F.GOV_PROF_ZONES : Fld := ⟨0x40, 0x98, 24, 16⟩
def F.GOV_SPEED_SPEED_THR : Fld := ⟨0x40, 0x9C, 15, 0⟩
def F.GOV_SPEED_LIMSET : Fld := ⟨0x40, 0x9C, 31, 31⟩
def F.GOV_CLAMP_MAP_ZONES (k : Nat) : Fld := ⟨0x40, 0xA0 + 4 * k, 31, 0⟩
def F.GOV_GAIN_MAP_ZONES (k : Nat) : Fld := ⟨0x40, 0xC0 + 4 * k, 31, 0⟩
def F.GOV_LOW_MAP_ZONES (k : Nat) : Fld := ⟨0x40, 0xE0 + 4 * k, 31, 0⟩
def F.GOV_ZONE_I_U_CD (k : Nat) : Fld := ⟨0x40, 0x400 + 4 * k, 31, 0⟩
def F.GOV_ZONE_G_GAIN (k : Nat) : Fld := ⟨0x40, 0x800 + 4 * k, 16, 0⟩

/-! CAL: R358 (10_uniformity_and_flux). -/
def F.CAL_CTRL_AUTO : Fld := ⟨0x48, 0x40, 0, 0⟩
def F.CAL_CTRL_TRIM_AUTO : Fld := ⟨0x48, 0x40, 1, 1⟩
def F.CAL_CTRL_DT : Fld := ⟨0x48, 0x40, 15, 8⟩
def F.CAL_CTRL_TRIM_DT : Fld := ⟨0x48, 0x40, 23, 16⟩
def F.CAL_LOAD_LOAD : Fld := ⟨0x48, 0x44, 7, 0⟩
def F.CAL_CMD_INTERP : Fld := ⟨0x48, 0x48, 7, 0⟩
def F.CAL_CMD_TRIM : Fld := ⟨0x48, 0x48, 8, 8⟩
def F.CAL_SET_SET_ID : Fld := ⟨0x48, 0x4C, 31, 0⟩
def F.CAL_STAT_DEFAULT : Fld := ⟨0x48, 0x50, 0, 0⟩
def F.CAL_STAT_INTERP_BUSY : Fld := ⟨0x48, 0x50, 1, 1⟩
def F.CAL_STAT_TRIM_BUSY : Fld := ⟨0x48, 0x50, 2, 2⟩
def F.CAL_STAT_BUSY_TILE : Fld := ⟨0x48, 0x50, 10, 8⟩
def F.CAL_STAT_PENDING : Fld := ⟨0x48, 0x50, 23, 16⟩
def F.CAL_EVT_SWITCH : Fld := ⟨0x48, 0x54, 0, 0⟩
def F.CAL_EVT_TILE_DEFAULT : Fld := ⟨0x48, 0x54, 1, 1⟩
def F.CAL_EVT_ECC_COR : Fld := ⟨0x48, 0x54, 2, 2⟩
def F.CAL_EVT_ECC_UNC : Fld := ⟨0x48, 0x54, 3, 3⟩
def F.CAL_EVT_PIPE_PAR : Fld := ⟨0x48, 0x54, 4, 4⟩
def F.CAL_EVT_TEMP_LOST : Fld := ⟨0x48, 0x54, 5, 5⟩
def F.CAL_EVT_STORE_WR : Fld := ⟨0x48, 0x54, 6, 6⟩
def F.CAL_EVT_TRIM_DONE : Fld := ⟨0x48, 0x54, 7, 7⟩
def F.CAL_EVT_TRIM_FAIL : Fld := ⟨0x48, 0x54, 8, 8⟩
def F.CAL_EVT_CURVE_INV : Fld := ⟨0x48, 0x54, 9, 9⟩
def F.CAL_EVT_CURVE_SAT : Fld := ⟨0x48, 0x54, 10, 10⟩
def F.CAL_CNT_SWITCHES : Fld := ⟨0x48, 0x58, 15, 0⟩
def F.CAL_CNT_ECC_COR : Fld := ⟨0x48, 0x58, 31, 16⟩
def F.CAL_TRIM_T_TRIM : Fld := ⟨0x48, 0x5C, 15, 0⟩
def F.CAL_TRIM_RUNS : Fld := ⟨0x48, 0x5C, 23, 16⟩
def F.CAL_TILE_T_SET (k : Nat) : Fld := ⟨0x48, 0x60 + 4 * k, 15, 0⟩
def F.CAL_TILE_BANK (k : Nat) : Fld := ⟨0x48, 0x60 + 4 * k, 16, 16⟩
def F.CAL_TILE_SRC (k : Nat) : Fld := ⟨0x48, 0x60 + 4 * k, 19, 17⟩
def F.CAL_TILE_T_VALID (k : Nat) : Fld := ⟨0x48, 0x60 + 4 * k, 20, 20⟩
def F.CAL_TILE_IN_LOAD (k : Nat) : Fld := ⟨0x48, 0x60 + 4 * k, 21, 21⟩
def F.CAL_CFAC_FACTOR (k : Nat) : Fld := ⟨0x48, 0x80 + 4 * k, 15, 0⟩
def F.CAL_CFAC_T (k : Nat) : Fld := ⟨0x48, 0x80 + 4 * k, 31, 16⟩

/-! FLX: R359 (10_uniformity_and_flux). -/
def F.FLX_CTRL_EN : Fld := ⟨0x49, 0x40, 7, 0⟩
def F.FLX_CTRL_TOL : Fld := ⟨0x49, 0x40, 15, 8⟩
def F.FLX_CTRL_SLEW : Fld := ⟨0x49, 0x40, 31, 16⟩
def F.FLX_LIM_FMIN : Fld := ⟨0x49, 0x44, 15, 0⟩
def F.FLX_LIM_FMAX : Fld := ⟨0x49, 0x44, 31, 16⟩
def F.FLX_FRZ_MIN_CODE : Fld := ⟨0x49, 0x48, 11, 0⟩
def F.FLX_FRZ_DMAX : Fld := ⟨0x49, 0x48, 23, 16⟩
def F.FLX_EVT_RANGE : Fld := ⟨0x49, 0x4C, 7, 0⟩
def F.FLX_EVT_SAT : Fld := ⟨0x49, 0x4C, 15, 8⟩
def F.FLX_GAIN_F23 (k : Nat) : Fld := ⟨0x49, 0x60 + 4 * k, 23, 0⟩
def F.FLX_SENS_SENS (k : Nat) : Fld := ⟨0x49, 0x80 + 4 * k, 11, 0⟩
def F.FLX_STAT_R_Q (k : Nat) : Fld := ⟨0x49, 0xA0 + 4 * k, 15, 0⟩
def F.FLX_STAT_STATE (k : Nat) : Fld := ⟨0x49, 0xA0 + 4 * k, 18, 16⟩
def F.FLX_STAT_WHY (k : Nat) : Fld := ⟨0x49, 0xA0 + 4 * k, 23, 20⟩
def F.FLX_MEAS_CODE (k : Nat) : Fld := ⟨0x49, 0xC0 + 4 * k, 11, 0⟩
def F.FLX_MEAS_E (k : Nat) : Fld := ⟨0x49, 0xC0 + 4 * k, 27, 16⟩

/-! TLN: R396 (11_tile_lanes). -/
def F.TLN_CTRL_SCRUB_EN : Fld := ⟨0x50, 0x40, 0, 0⟩
def F.TLN_CTRL_TSB_EN : Fld := ⟨0x50, 0x40, 1, 1⟩
def F.TLN_SYNC_FS_EN : Fld := ⟨0x50, 0x44, 0, 0⟩
def F.TLN_SYNC_FS_FALL : Fld := ⟨0x50, 0x44, 1, 1⟩
def F.TLN_SYNC_DIV : Fld := ⟨0x50, 0x44, 4, 2⟩
def F.TLN_SYNC_SIDE_PULL : Fld := ⟨0x50, 0x44, 5, 5⟩
def F.TLN_FS_OFS_OFS_NS : Fld := ⟨0x50, 0x48, 31, 0⟩
def F.TLN_PULL_LOCK_NS : Fld := ⟨0x50, 0x4C, 15, 0⟩
def F.TLN_PULL_LOCK_CNT : Fld := ⟨0x50, 0x4C, 19, 16⟩
def F.TLN_STAT_SRC : Fld := ⟨0x50, 0x50, 1, 0⟩
def F.TLN_STAT_LOCKED : Fld := ⟨0x50, 0x50, 2, 2⟩
def F.TLN_STAT_PULLING : Fld := ⟨0x50, 0x50, 3, 3⟩
def F.TLN_STAT_FS_SEEN : Fld := ⟨0x50, 0x50, 4, 4⟩
def F.TLN_STAT_FS_RANGE : Fld := ⟨0x50, 0x50, 5, 5⟩
def F.TLN_STAT_TSB_OK : Fld := ⟨0x50, 0x50, 6, 6⟩
def F.TLN_STAT_ACTIVE : Fld := ⟨0x50, 0x50, 15, 8⟩
def F.TLN_STAT_SHUT : Fld := ⟨0x50, 0x50, 23, 16⟩
def F.TLN_STAT_ASLEEP : Fld := ⟨0x50, 0x50, 31, 24⟩
def F.TLN_ERR_ERR_NS : Fld := ⟨0x50, 0x54, 31, 0⟩
def F.TLN_ADJ_ADJ_NS : Fld := ⟨0x50, 0x58, 31, 0⟩
def F.TLN_FS_PER_T_FS : Fld := ⟨0x50, 0x5C, 31, 0⟩
def F.TLN_OT_OT_C : Fld := ⟨0x50, 0x60, 15, 0⟩
def F.TLN_OT_HYST : Fld := ⟨0x50, 0x60, 23, 16⟩
def F.TLN_OT_COOL_S : Fld := ⟨0x50, 0x60, 31, 24⟩
def F.TLN_CLONE_SRC0 : Fld := ⟨0x50, 0x64, 2, 0⟩
def F.TLN_CLONE_SRC1 : Fld := ⟨0x50, 0x64, 6, 4⟩
def F.TLN_CLONE_SRC2 : Fld := ⟨0x50, 0x64, 10, 8⟩
def F.TLN_CLONE_SRC3 : Fld := ⟨0x50, 0x64, 14, 12⟩
def F.TLN_CLONE_SRC4 : Fld := ⟨0x50, 0x64, 18, 16⟩
def F.TLN_CLONE_SRC5 : Fld := ⟨0x50, 0x64, 22, 20⟩
def F.TLN_CLONE_SRC6 : Fld := ⟨0x50, 0x64, 26, 24⟩
def F.TLN_CLONE_SRC7 : Fld := ⟨0x50, 0x64, 30, 28⟩
def F.TLN_CLONE_EN0 : Fld := ⟨0x50, 0x64, 3, 3⟩
def F.TLN_CLONE_EN1 : Fld := ⟨0x50, 0x64, 7, 7⟩
def F.TLN_CLONE_EN2 : Fld := ⟨0x50, 0x64, 11, 11⟩
def F.TLN_CLONE_EN3 : Fld := ⟨0x50, 0x64, 15, 15⟩
def F.TLN_CLONE_EN4 : Fld := ⟨0x50, 0x64, 19, 19⟩
def F.TLN_CLONE_EN5 : Fld := ⟨0x50, 0x64, 23, 23⟩
def F.TLN_CLONE_EN6 : Fld := ⟨0x50, 0x64, 27, 27⟩
def F.TLN_CLONE_EN7 : Fld := ⟨0x50, 0x64, 31, 31⟩
def F.TLN_CLONE_MIR_MIRROR : Fld := ⟨0x50, 0x68, 7, 0⟩
def F.TLN_EVT_FS_LOST : Fld := ⟨0x50, 0x6C, 0, 0⟩
def F.TLN_EVT_FS_LOCK : Fld := ⟨0x50, 0x6C, 1, 1⟩
def F.TLN_EVT_FS_RANGE : Fld := ⟨0x50, 0x6C, 2, 2⟩
def F.TLN_EVT_TSB_ERR : Fld := ⟨0x50, 0x6C, 3, 3⟩
def F.TLN_EVT_TNEXT_DIFF : Fld := ⟨0x50, 0x6C, 4, 4⟩
def F.TLN_EVT_LATE_BLANK : Fld := ⟨0x50, 0x6C, 5, 5⟩
def F.TLN_EVT_FLIP_MISS : Fld := ⟨0x50, 0x6C, 6, 6⟩
def F.TLN_EVT_TILE_LOST : Fld := ⟨0x50, 0x6C, 7, 7⟩
def F.TLN_EVT_OT_SHUT : Fld := ⟨0x50, 0x6C, 8, 8⟩
def F.TLN_EVT_CLONE_REJ : Fld := ⟨0x50, 0x6C, 9, 9⟩
def F.TLN_CNT_LATE_BLANK : Fld := ⟨0x50, 0x70, 15, 0⟩
def F.TLN_CNT_PULL_FRAMES : Fld := ⟨0x50, 0x70, 31, 16⟩

/-! TL: R397 (11_tile_lanes). -/
def F.TL_CTRL_SR_EN (n : Nat) : Fld := ⟨0x51 + n % 8, 0x40, 0, 0⟩
def F.TL_CTRL_TRIES (n : Nat) : Fld := ⟨0x51 + n % 8, 0x40, 11, 8⟩
def F.TL_STAT_STATE (n : Nat) : Fld := ⟨0x51 + n % 8, 0x44, 3, 0⟩
def F.TL_STAT_ALIVE (n : Nat) : Fld := ⟨0x51 + n % 8, 0x44, 4, 4⟩
def F.TL_STAT_T_VALID (n : Nat) : Fld := ⟨0x51 + n % 8, 0x44, 5, 5⟩
def F.TL_STAT_SHUT (n : Nat) : Fld := ⟨0x51 + n % 8, 0x44, 6, 6⟩
def F.TL_STAT_LANE_LOCK (n : Nat) : Fld := ⟨0x51 + n % 8, 0x44, 7, 7⟩
def F.TL_STAT_CLONE (n : Nat) : Fld := ⟨0x51 + n % 8, 0x44, 8, 8⟩
def F.TL_STAT_IN_SERVICE (n : Nat) : Fld := ⟨0x51 + n % 8, 0x44, 9, 9⟩
def F.TL_EVT_CRC_FAIL (n : Nat) : Fld := ⟨0x51 + n % 8, 0x48, 0, 0⟩
def F.TL_EVT_REPORT_MISS (n : Nat) : Fld := ⟨0x51 + n % 8, 0x48, 1, 1⟩
def F.TL_EVT_LATE_BLANK (n : Nat) : Fld := ⟨0x51 + n % 8, 0x48, 2, 2⟩
def F.TL_EVT_TILE_LOST (n : Nat) : Fld := ⟨0x51 + n % 8, 0x48, 3, 3⟩
def F.TL_EVT_OT_SHUT (n : Nat) : Fld := ⟨0x51 + n % 8, 0x48, 4, 4⟩
def F.TL_EVT_OT_CLEAR (n : Nat) : Fld := ⟨0x51 + n % 8, 0x48, 5, 5⟩
def F.TL_EVT_TRN_FAIL (n : Nat) : Fld := ⟨0x51 + n % 8, 0x48, 6, 6⟩
def F.TL_EVT_CAP_REJ (n : Nat) : Fld := ⟨0x51 + n % 8, 0x48, 7, 7⟩
def F.TL_EVT_FLIP_MISS (n : Nat) : Fld := ⟨0x51 + n % 8, 0x48, 8, 8⟩
def F.TL_EVT_CTRL_FAIL (n : Nat) : Fld := ⟨0x51 + n % 8, 0x48, 9, 9⟩
def F.TL_EVT_MSG_CRC (n : Nat) : Fld := ⟨0x51 + n % 8, 0x48, 10, 10⟩
def F.TL_EVT_TEMP_LOST (n : Nat) : Fld := ⟨0x51 + n % 8, 0x48, 11, 11⟩
def F.TL_EVT_LANE_DEAD (n : Nat) : Fld := ⟨0x51 + n % 8, 0x48, 12, 12⟩
def F.TL_EVT_RETRAIN (n : Nat) : Fld := ⟨0x51 + n % 8, 0x48, 13, 13⟩
def F.TL_UID_LO_UID (n : Nat) : Fld := ⟨0x51 + n % 8, 0x4C, 31, 0⟩
def F.TL_UID_HI_UID (n : Nat) : Fld := ⟨0x51 + n % 8, 0x50, 31, 0⟩
def F.TL_INFO_TYPE (n : Nat) : Fld := ⟨0x51 + n % 8, 0x54, 15, 0⟩
def F.TL_INFO_VERSION (n : Nat) : Fld := ⟨0x51 + n % 8, 0x54, 31, 16⟩
def F.TL_TEMP_TEMP (n : Nat) : Fld := ⟨0x51 + n % 8, 0x58, 15, 0⟩
def F.TL_TEMP_FLAGS (n : Nat) : Fld := ⟨0x51 + n % 8, 0x58, 31, 16⟩
def F.TL_FRONT_FRAME_LO (n : Nat) : Fld := ⟨0x51 + n % 8, 0x5C, 15, 0⟩
def F.TL_CNT_PUSH_REGIONS (n : Nat) : Fld := ⟨0x51 + n % 8, 0x60, 15, 0⟩
def F.TL_CNT_PUSH_REPUSH (n : Nat) : Fld := ⟨0x51 + n % 8, 0x60, 31, 16⟩
def F.TL_CNT_ERR_CRC_FAIL (n : Nat) : Fld := ⟨0x51 + n % 8, 0x64, 15, 0⟩
def F.TL_CNT_ERR_MSG_CRC (n : Nat) : Fld := ⟨0x51 + n % 8, 0x64, 31, 16⟩

/-! SEG: R420 (12_segment_bus). -/
def F.SEG_CTRL_TP_EN : Fld := ⟨0x60, 0x40, 0, 0⟩
def F.SEG_CTRL_RETRY : Fld := ⟨0x60, 0x40, 3, 2⟩
def F.SEG_CTRL_POLL_MS : Fld := ⟨0x60, 0x40, 15, 8⟩
def F.SEG_PWM_TMAX_US : Fld := ⟨0x60, 0x44, 15, 0⟩
def F.SEG_SCAN_ROWS : Fld := ⟨0x60, 0x48, 3, 0⟩
def F.SEG_SCAN_REP : Fld := ⟨0x60, 0x48, 7, 4⟩
def F.SEG_SCAN_BLANK_US : Fld := ⟨0x60, 0x48, 15, 8⟩
def F.SEG_SCAN_PC : Fld := ⟨0x60, 0x48, 23, 16⟩
def F.SEG_SCAN_T_T_ROW_US : Fld := ⟨0x60, 0x4C, 15, 0⟩
def F.SEG_MTX_MTX (k : Nat) : Fld := ⟨0x60, 0x50 + 4 * k, 31, 0⟩
def F.SEG_STAT_RUNNING : Fld := ⟨0x60, 0x58, 0, 0⟩
def F.SEG_STAT_SCANNING : Fld := ⟨0x60, 0x58, 1, 1⟩
def F.SEG_STAT_PENDING : Fld := ⟨0x60, 0x58, 2, 2⟩
def F.SEG_STAT_LATE_RUN : Fld := ⟨0x60, 0x58, 15, 8⟩
def F.SEG_STAT_PRESENT : Fld := ⟨0x60, 0x58, 21, 16⟩
def F.SEG_PRESENT_PRESENT (k : Nat) : Fld := ⟨0x60, 0x5C + 4 * k, 31, 0⟩
def F.SEG_EVT_CRC : Fld := ⟨0x60, 0x64, 0, 0⟩
def F.SEG_EVT_NO_RESP : Fld := ⟨0x60, 0x64, 1, 1⟩
def F.SEG_EVT_DRV_LOST : Fld := ⟨0x60, 0x64, 2, 2⟩
def F.SEG_EVT_OPEN : Fld := ⟨0x60, 0x64, 3, 3⟩
def F.SEG_EVT_SHORT : Fld := ⟨0x60, 0x64, 4, 4⟩
def F.SEG_EVT_LATE : Fld := ⟨0x60, 0x64, 5, 5⟩
def F.SEG_EVT_BUS_ERR : Fld := ⟨0x60, 0x64, 6, 6⟩
def F.SEG_EVT_TP : Fld := ⟨0x60, 0x64, 7, 7⟩
def F.SEG_EVT_DRV_OT : Fld := ⟨0x60, 0x64, 8, 8⟩
def F.SEG_EVT_DRV_BACK : Fld := ⟨0x60, 0x64, 9, 9⟩
def F.SEG_EVT_TRUNC : Fld := ⟨0x60, 0x64, 10, 10⟩
def F.SEG_CNT_CRC : Fld := ⟨0x60, 0x68, 15, 0⟩
def F.SEG_CNT_LATE : Fld := ⟨0x60, 0x68, 31, 16⟩
def F.SEG_CNT_TP_TP : Fld := ⟨0x60, 0x6C, 31, 0⟩
def F.SEG_COMMIT_FRAME_FRAME : Fld := ⟨0x60, 0x70, 31, 0⟩
def F.SEG_REJ_REASON : Fld := ⟨0x60, 0x74, 3, 0⟩
def F.SEG_DRV_TEMP (k : Nat) : Fld := ⟨0x60, 0x100 + 4 * k, 15, 0⟩
def F.SEG_DRV_NCH (k : Nat) : Fld := ⟨0x60, 0x100 + 4 * k, 19, 16⟩
def F.SEG_DRV_MTX_CAP (k : Nat) : Fld := ⟨0x60, 0x100 + 4 * k, 20, 20⟩
def F.SEG_DRV_T_VALID (k : Nat) : Fld := ⟨0x60, 0x100 + 4 * k, 21, 21⟩
def F.SEG_DRV_OT (k : Nat) : Fld := ⟨0x60, 0x100 + 4 * k, 22, 22⟩
def F.SEG_DRV_PRESENT (k : Nat) : Fld := ⟨0x60, 0x100 + 4 * k, 23, 23⟩
def F.SEG_CH_INT (k : Nat) : Fld := ⟨0x60, 0x400 + 4 * k, 15, 0⟩
def F.SEG_CH_DCH (k : Nat) : Fld := ⟨0x60, 0x400 + 4 * k, 19, 16⟩
def F.SEG_CH_ADDR (k : Nat) : Fld := ⟨0x60, 0x400 + 4 * k, 25, 20⟩
def F.SEG_CH_CLASS (k : Nat) : Fld := ⟨0x60, 0x400 + 4 * k, 28, 26⟩
def F.SEG_CH_ROW (k : Nat) : Fld := ⟨0x60, 0x400 + 4 * k, 31, 29⟩
def F.SEG_CHS_DIAG (k : Nat) : Fld := ⟨0x60, 0x800 + 4 * k, 2, 0⟩
def F.SEG_CHS_RUN (k : Nat) : Fld := ⟨0x60, 0x800 + 4 * k, 7, 3⟩
def F.SEG_CHS_DEBT (k : Nat) : Fld := ⟨0x60, 0x800 + 4 * k, 23, 8⟩

/-! SAF: R452 (13_functional_safety). -/
def F.SAF_STAT_FSTATE : Fld := ⟨0x68, 0x40, 2, 0⟩
def F.SAF_STAT_FOK_PIN : Fld := ⟨0x68, 0x40, 3, 3⟩
def F.SAF_STAT_HW_OK : Fld := ⟨0x68, 0x40, 4, 4⟩
def F.SAF_STAT_LOCKED : Fld := ⟨0x68, 0x40, 5, 5⟩
def F.SAF_STAT_SIN_OK : Fld := ⟨0x68, 0x40, 11, 8⟩
def F.SAF_STAT_SOUT_ON : Fld := ⟨0x68, 0x40, 13, 12⟩
def F.SAF_STAT_SOUT_OK : Fld := ⟨0x68, 0x40, 15, 14⟩
def F.SAF_REASON_REASON : Fld := ⟨0x68, 0x44, 7, 0⟩
def F.SAF_REASON_DETAIL : Fld := ⟨0x68, 0x44, 15, 8⟩
def F.SAF_REASON_LAST : Fld := ⟨0x68, 0x44, 23, 16⟩
def F.SAF_LOCK_CNT_LOCK_CNT : Fld := ⟨0x68, 0x48, 31, 0⟩
def F.SAF_FIELD_REQ : Fld := ⟨0x68, 0x4C, 0, 0⟩
def F.SAF_REACT_GO : Fld := ⟨0x68, 0x50, 0, 0⟩
def F.SAF_REACT_CODE : Fld := ⟨0x68, 0x50, 15, 8⟩
def F.SAF_REACT_DETAIL : Fld := ⟨0x68, 0x50, 23, 16⟩
def F.SAF_UNLOCK_GO : Fld := ⟨0x68, 0x54, 0, 0⟩
def F.SAF_UNLOCK_REJ : Fld := ⟨0x68, 0x54, 11, 8⟩
def F.SAF_WDT_KEY : Fld := ⟨0x68, 0x58, 7, 0⟩
def F.SAF_WDT_ARMED : Fld := ⟨0x68, 0x58, 8, 8⟩
def F.SAF_SIN_CFG_USED (k : Nat) : Fld := ⟨0x68, 0x60 + 4 * k, 0, 0⟩
def F.SAF_SIN_CFG_MODE (k : Nat) : Fld := ⟨0x68, 0x60 + 4 * k, 1, 1⟩
def F.SAF_SIN_CFG_FEED_B (k : Nat) : Fld := ⟨0x68, 0x60 + 4 * k, 2, 2⟩
def F.SAF_SIN_CFG_FILT_US (k : Nat) : Fld := ⟨0x68, 0x60 + 4 * k, 20, 8⟩
def F.SAF_SIN_CFG_DISC_MS (k : Nat) : Fld := ⟨0x68, 0x60 + 4 * k, 31, 24⟩
def F.SAF_TP_CFG_TP_W_US : Fld := ⟨0x68, 0x70, 5, 0⟩
def F.SAF_TP_CFG_TP_PER_MS : Fld := ⟨0x68, 0x70, 15, 8⟩
def F.SAF_SOUT_CFG_USED (k : Nat) : Fld := ⟨0x68, 0x74 + 4 * k, 0, 0⟩
def F.SAF_SOUT_CFG_TILES (k : Nat) : Fld := ⟨0x68, 0x74 + 4 * k, 15, 8⟩
def F.SAF_SOUT_CFG_OP_W_US (k : Nat) : Fld := ⟨0x68, 0x74 + 4 * k, 21, 16⟩
def F.SAF_SOUT_CFG_RB_T_US (k : Nat) : Fld := ⟨0x68, 0x74 + 4 * k, 27, 24⟩
def F.SAF_SOUT_TIM_OP_PER_MS : Fld := ⟨0x68, 0x7C, 7, 0⟩
def F.SAF_SOUT_TIM_PWR_MS : Fld := ⟨0x68, 0x7C, 15, 8⟩
def F.SAF_SOUT_CTRL_ON : Fld := ⟨0x68, 0x80, 1, 0⟩
def F.SAF_SIN_STAT_STATE (k : Nat) : Fld := ⟨0x68, 0x84 + 4 * k, 2, 0⟩
def F.SAF_SIN_STAT_A (k : Nat) : Fld := ⟨0x68, 0x84 + 4 * k, 3, 3⟩
def F.SAF_SIN_STAT_B (k : Nat) : Fld := ⟨0x68, 0x84 + 4 * k, 4, 4⟩
def F.SAF_SIN_STAT_CAUSE (k : Nat) : Fld := ⟨0x68, 0x84 + 4 * k, 7, 5⟩
def F.SAF_SIN_STAT_XSRC (k : Nat) : Fld := ⟨0x68, 0x84 + 4 * k, 9, 8⟩
def F.SAF_SIN_STAT_DEMANDS (k : Nat) : Fld := ⟨0x68, 0x84 + 4 * k, 31, 16⟩
def F.SAF_SOUT_STAT_STATE (k : Nat) : Fld := ⟨0x68, 0x94 + 4 * k, 1, 0⟩
def F.SAF_SOUT_STAT_RB (k : Nat) : Fld := ⟨0x68, 0x94 + 4 * k, 2, 2⟩
def F.SAF_SOUT_STAT_CAUSE (k : Nat) : Fld := ⟨0x68, 0x94 + 4 * k, 4, 3⟩
def F.SAF_SOUT_STAT_PULSES (k : Nat) : Fld := ⟨0x68, 0x94 + 4 * k, 31, 16⟩
def F.SAF_EVT_REACT : Fld := ⟨0x68, 0x9C, 0, 0⟩
def F.SAF_EVT_LOCK : Fld := ⟨0x68, 0x9C, 1, 1⟩
def F.SAF_EVT_UNLOCK : Fld := ⟨0x68, 0x9C, 2, 2⟩
def F.SAF_EVT_UNLOCK_REJ : Fld := ⟨0x68, 0x9C, 3, 3⟩
def F.SAF_EVT_SIN_DEMAND : Fld := ⟨0x68, 0x9C, 4, 4⟩
def F.SAF_EVT_SIN_FAULT : Fld := ⟨0x68, 0x9C, 5, 5⟩
def F.SAF_EVT_SOUT_FAULT : Fld := ⟨0x68, 0x9C, 6, 6⟩
def F.SAF_EVT_WDT_EXP : Fld := ⟨0x68, 0x9C, 7, 7⟩
def F.SAF_EVT_LOCKSTEP : Fld := ⟨0x68, 0x9C, 8, 8⟩
def F.SAF_EVT_FOK_RB : Fld := ⟨0x68, 0x9C, 9, 9⟩
def F.SAF_CNT_REACTIONS : Fld := ⟨0x68, 0xA0, 15, 0⟩
def F.SAF_CNT_UNLOCKS : Fld := ⟨0x68, 0xA0, 31, 16⟩
def F.SAF_REJ_REASON : Fld := ⟨0x68, 0xA4, 3, 0⟩

/-! FLT: R484 (14_faults_and_event_recorder). -/
def F.FLT_CTRL_MODE : Fld := ⟨0x70, 0x40, 0, 0⟩
def F.FLT_CTRL_ERRPIN_LVL : Fld := ⟨0x70, 0x40, 5, 4⟩
def F.FLT_STAT_PEND_CNT : Fld := ⟨0x70, 0x44, 7, 0⟩
def F.FLT_STAT_TOP_LVL : Fld := ⟨0x70, 0x44, 9, 8⟩
def F.FLT_STAT_ERRN : Fld := ⟨0x70, 0x44, 10, 10⟩
def F.FLT_STAT_ESC_PEND : Fld := ⟨0x70, 0x44, 11, 11⟩
def F.FLT_STAT_FATAL_SEEN : Fld := ⟨0x70, 0x44, 12, 12⟩
def F.FLT_STAT_TOP_SRC : Fld := ⟨0x70, 0x44, 31, 16⟩
def F.FLT_PEND_PEND (k : Nat) : Fld := ⟨0x70, 0x48 + 4 * k, 31, 0⟩
def F.FLT_UNACK_UNACK (k : Nat) : Fld := ⟨0x70, 0x54 + 4 * k, 31, 0⟩
def F.FLT_LVL_LVL (k : Nat) : Fld := ⟨0x70, 0x60 + 4 * k, 31, 0⟩
def F.FLT_SEV_SEV (k : Nat) : Fld := ⟨0x70, 0x78 + 4 * k, 31, 0⟩
def F.FLT_INJ_INDEX : Fld := ⟨0x70, 0x90, 6, 0⟩
def F.FLT_INJ_ARM : Fld := ⟨0x70, 0x90, 8, 8⟩
def F.FLT_INJ_STATE : Fld := ⟨0x70, 0x90, 10, 9⟩
def F.FLT_INJ_REJ : Fld := ⟨0x70, 0x90, 14, 12⟩
def F.FLT_HIST_HEAD_NEWEST : Fld := ⟨0x70, 0x94, 3, 0⟩
def F.FLT_HIST_HEAD_TOTAL : Fld := ⟨0x70, 0x94, 31, 16⟩
def F.FLT_ALARM_CORR_SEEN : Fld := ⟨0x70, 0x98, 0, 0⟩
def F.FLT_ALARM_UCC_SEEN : Fld := ⟨0x70, 0x98, 1, 1⟩
def F.FLT_ALARM_FATAL_SEEN : Fld := ⟨0x70, 0x98, 2, 2⟩
def F.FLT_ALARM_ESC_SEEN : Fld := ⟨0x70, 0x98, 3, 3⟩
def F.FLT_ALARM_HIST_WRAP : Fld := ⟨0x70, 0x98, 4, 4⟩
def F.FLT_ALARM_EVR_DROP : Fld := ⟨0x70, 0x98, 5, 5⟩
def F.FLT_ALARM_EVR_UNMIRRORED : Fld := ⟨0x70, 0x98, 6, 6⟩
def F.FLT_ALARM_BC_DROP : Fld := ⟨0x70, 0x98, 7, 7⟩
def F.FLT_ALARM_MIRROR_FAIL : Fld := ⟨0x70, 0x98, 8, 8⟩
def F.FLT_ALARM_INJ_SEEN : Fld := ⟨0x70, 0x98, 9, 9⟩
def F.FLT_EVT_CLR_REJ : Fld := ⟨0x70, 0x9C, 0, 0⟩
def F.FLT_EVT_INJ_DONE : Fld := ⟨0x70, 0x9C, 1, 1⟩
def F.FLT_EVT_INJ_REJ : Fld := ⟨0x70, 0x9C, 2, 2⟩
def F.FLT_EVT_MODE_REJ : Fld := ⟨0x70, 0x9C, 3, 3⟩
def F.FLT_EVT_SEV_IGN : Fld := ⟨0x70, 0x9C, 4, 4⟩
def F.FLT_CNT_ESCALATED : Fld := ⟨0x70, 0xA0, 15, 0⟩
def F.FLT_CNT_INJECTED : Fld := ⟨0x70, 0xA0, 31, 16⟩
def F.FLT_HIST_CODE (k : Nat) : Fld := ⟨0x70, 0xC0 + 4 * k, 15, 0⟩
def F.FLT_HIST_LVL (k : Nat) : Fld := ⟨0x70, 0xC0 + 4 * k, 17, 16⟩
def F.FLT_HIST_ESC (k : Nat) : Fld := ⟨0x70, 0xC0 + 4 * k, 18, 18⟩
def F.FLT_HIST_CONSEQ (k : Nat) : Fld := ⟨0x70, 0xC0 + 4 * k, 19, 19⟩
def F.FLT_HIST_INJ (k : Nat) : Fld := ⟨0x70, 0xC0 + 4 * k, 20, 20⟩
def F.FLT_HIST_SEQ_LO (k : Nat) : Fld := ⟨0x70, 0xC0 + 4 * k, 31, 24⟩

/-! EVR: R485 (14_faults_and_event_recorder). -/
def F.EVR_CTRL_COAL_EN : Fld := ⟨0x71, 0x40, 0, 0⟩
def F.EVR_CTRL_MIRROR_EN : Fld := ⟨0x71, 0x40, 1, 1⟩
def F.EVR_CTRL_BC_MIN : Fld := ⟨0x71, 0x40, 3, 2⟩
def F.EVR_CTRL_COAL_MS : Fld := ⟨0x71, 0x40, 31, 16⟩
def F.EVR_HEAD_SEQ : Fld := ⟨0x71, 0x44, 31, 0⟩
def F.EVR_MIRROR_SEQ : Fld := ⟨0x71, 0x48, 31, 0⟩
def F.EVR_OH_LO_OH : Fld := ⟨0x71, 0x4C, 31, 0⟩
def F.EVR_OH_HI_OH : Fld := ⟨0x71, 0x50, 31, 0⟩
def F.EVR_PCC_COUNT : Fld := ⟨0x71, 0x54, 31, 0⟩
def F.EVR_WKC_COUNT : Fld := ⟨0x71, 0x58, 31, 0⟩
def F.EVR_ATT_LO_MS_LO : Fld := ⟨0x71, 0x5C, 31, 0⟩
def F.EVR_ATT_HI_MS_HI : Fld := ⟨0x71, 0x60, 15, 0⟩
def F.EVR_ATT_HI_GAP : Fld := ⟨0x71, 0x60, 31, 16⟩
def F.EVR_ATT_SUM_LO_SUM : Fld := ⟨0x71, 0x64, 31, 0⟩
def F.EVR_ATT_SUM_HI_SUM : Fld := ⟨0x71, 0x68, 31, 0⟩
def F.EVR_RD_SEQ_SEQ : Fld := ⟨0x71, 0x6C, 31, 0⟩
def F.EVR_RD_STAT_RESULT : Fld := ⟨0x71, 0x70, 1, 0⟩
def F.EVR_CNT_DROP : Fld := ⟨0x71, 0x74, 15, 0⟩
def F.EVR_CNT_UNMIRRORED : Fld := ⟨0x71, 0x74, 31, 16⟩
def F.EVR_EVT_DROP : Fld := ⟨0x71, 0x78, 0, 0⟩
def F.EVR_EVT_UNMIRRORED : Fld := ⟨0x71, 0x78, 1, 1⟩
def F.EVR_EVT_MIRROR_FAIL : Fld := ⟨0x71, 0x78, 2, 2⟩
def F.EVR_EVT_ATTEST : Fld := ⟨0x71, 0x78, 3, 3⟩
def F.EVR_EVT_ATT_REJ : Fld := ⟨0x71, 0x78, 4, 4⟩
def F.EVR_EVT_RING_NEW : Fld := ⟨0x71, 0x78, 5, 5⟩
def F.EVR_RD_WORD (k : Nat) : Fld := ⟨0x71, 0x80 + 4 * k, 31, 0⟩

/-! THM: R517 (15_thermal_and_power_states). -/
def F.THM_CTRL_ROUND_MS : Fld := ⟨0x4, 0x40, 5, 0⟩
def F.THM_LIM_WARN_C : Fld := ⟨0x4, 0x44, 7, 0⟩
def F.THM_LIM_STOP_C : Fld := ⟨0x4, 0x44, 15, 8⟩
def F.THM_LIM_WARN_HYST : Fld := ⟨0x4, 0x44, 19, 16⟩
def F.THM_LIM_STOP_HYST : Fld := ⟨0x4, 0x44, 23, 20⟩
def F.THM_LIM_RISE : Fld := ⟨0x4, 0x44, 31, 24⟩
def F.THM_STAT_LEVEL : Fld := ⟨0x4, 0x48, 1, 0⟩
def F.THM_STAT_RISE_ACT : Fld := ⟨0x4, 0x48, 2, 2⟩
def F.THM_STAT_FLASH_OK : Fld := ⟨0x4, 0x48, 3, 3⟩
def F.THM_STAT_FUSE_OK : Fld := ⟨0x4, 0x48, 4, 4⟩
def F.THM_STAT_CRIT_CLR : Fld := ⟨0x4, 0x48, 5, 5⟩
def F.THM_STAT_HOT : Fld := ⟨0x4, 0x48, 7, 6⟩
def F.THM_STAT_VALID : Fld := ⟨0x4, 0x48, 11, 8⟩
def F.THM_STAT_ROUND_OK : Fld := ⟨0x4, 0x48, 12, 12⟩
def F.THM_DIE_TEMP (k : Nat) : Fld := ⟨0x4, 0x4C + 4 * k, 15, 0⟩
def F.THM_DIE_CODE (k : Nat) : Fld := ⟨0x4, 0x4C + 4 * k, 27, 16⟩
def F.THM_DIE_VALID (k : Nat) : Fld := ⟨0x4, 0x4C + 4 * k, 28, 28⟩
def F.THM_HOT_MAX : Fld := ⟨0x4, 0x5C, 15, 0⟩
def F.THM_HOT_MIN : Fld := ⟨0x4, 0x5C, 31, 16⟩
def F.THM_RISE_DELTA : Fld := ⟨0x4, 0x60, 15, 0⟩
def F.THM_RISE_WINDOW : Fld := ⟨0x4, 0x60, 31, 16⟩
def F.THM_EVT_WARN : Fld := ⟨0x4, 0x64, 0, 0⟩
def F.THM_EVT_RISE_WARN : Fld := ⟨0x4, 0x64, 1, 1⟩
def F.THM_EVT_STOP : Fld := ⟨0x4, 0x64, 2, 2⟩
def F.THM_EVT_RISE_STOP : Fld := ⟨0x4, 0x64, 3, 3⟩
def F.THM_EVT_STOP_CLR : Fld := ⟨0x4, 0x64, 4, 4⟩
def F.THM_EVT_ADC : Fld := ⟨0x4, 0x64, 5, 5⟩
def F.THM_EVT_SENS_INV : Fld := ⟨0x4, 0x64, 6, 6⟩
def F.THM_EVT_FLASH_DEFER : Fld := ⟨0x4, 0x64, 7, 7⟩
def F.THM_EVT_FUSE_REF : Fld := ⟨0x4, 0x64, 8, 8⟩
def F.THM_PEAK_PEAK : Fld := ⟨0x4, 0x68, 15, 0⟩
def F.THM_PEAK_STOPS : Fld := ⟨0x4, 0x68, 31, 16⟩
def F.THM_ROUNDS_COUNT : Fld := ⟨0x4, 0x6C, 31, 0⟩
def F.THM_CH_CODE (k : Nat) : Fld := ⟨0x4, 0x80 + 4 * k, 11, 0⟩

/-! PWR: R518 (15_thermal_and_power_states). -/
def F.PWR_REQ_STATE : Fld := ⟨0x3, 0x40, 2, 0⟩
def F.PWR_REQ_KEY : Fld := ⟨0x3, 0x40, 15, 8⟩
def F.PWR_STAT_STATE : Fld := ⟨0x3, 0x44, 2, 0⟩
def F.PWR_STAT_WAKE_PENDING : Fld := ⟨0x3, 0x44, 3, 3⟩
def F.PWR_STAT_PADS_LATCHED : Fld := ⟨0x3, 0x44, 4, 4⟩
def F.PWR_STAT_DEEP_EXIT : Fld := ⟨0x3, 0x44, 5, 5⟩
def F.PWR_STAT_ACK_LATE : Fld := ⟨0x3, 0x44, 6, 6⟩
def F.PWR_STAT_REFUSE : Fld := ⟨0x3, 0x44, 11, 8⟩
def F.PWR_STAT_WAKE_SRC : Fld := ⟨0x3, 0x44, 15, 12⟩
def F.PWR_WAKE_EN_PIN : Fld := ⟨0x3, 0x48, 0, 0⟩
def F.PWR_WAKE_EN_LINK_A : Fld := ⟨0x3, 0x48, 1, 1⟩
def F.PWR_WAKE_EN_LINK_B : Fld := ⟨0x3, 0x48, 2, 2⟩
def F.PWR_WAKE_EN_TIMER : Fld := ⟨0x3, 0x48, 3, 3⟩
def F.PWR_WTMR_MS : Fld := ⟨0x3, 0x4C, 31, 0⟩
def F.PWR_PAD_RELEASE : Fld := ⟨0x3, 0x50, 0, 0⟩
def F.PWR_PAD_LATCHED : Fld := ⟨0x3, 0x50, 1, 1⟩
def F.PWR_PMB_ADDR : Fld := ⟨0x3, 0x54, 6, 0⟩
def F.PWR_PMB_PEC_EN : Fld := ⟨0x3, 0x54, 7, 7⟩
def F.PWR_PMB_RETRY : Fld := ⟨0x3, 0x54, 9, 8⟩
def F.PWR_ACK_TMO_MS : Fld := ⟨0x3, 0x58, 3, 0⟩
def F.PWR_ACK_LAST_US : Fld := ⟨0x3, 0x58, 31, 16⟩
def F.PWR_PMB_STAT_STATUS_WORD : Fld := ⟨0x3, 0x5C, 15, 0⟩
def F.PWR_PMB_STAT_ERR_CNT : Fld := ⟨0x3, 0x5C, 31, 16⟩
def F.PWR_EVT_REFUSED : Fld := ⟨0x3, 0x60, 0, 0⟩
def F.PWR_EVT_ABORTED : Fld := ⟨0x3, 0x60, 1, 1⟩
def F.PWR_EVT_ACK_TMO : Fld := ⟨0x3, 0x60, 2, 2⟩
def F.PWR_EVT_ALERT : Fld := ⟨0x3, 0x60, 3, 3⟩
def F.PWR_EVT_PMB_ERR : Fld := ⟨0x3, 0x60, 4, 4⟩
def F.PWR_EVT_LS_STALL : Fld := ⟨0x3, 0x60, 5, 5⟩
def F.PWR_LS_MIN_US : Fld := ⟨0x3, 0x64, 15, 0⟩
def F.PWR_LS_BANKS : Fld := ⟨0x3, 0x64, 21, 16⟩
def F.PWR_LS_CNT_STALLS : Fld := ⟨0x3, 0x68, 31, 0⟩

/-! SEC: R545 (16_security_and_self_test). -/
def F.SEC_LC_STATE : Fld := ⟨0x78, 0x40, 2, 0⟩
def F.SEC_LC_LC_BITS : Fld := ⟨0x78, 0x40, 11, 8⟩
def F.SEC_LC_REQ_TARGET : Fld := ⟨0x78, 0x44, 2, 0⟩
def F.SEC_LC_REQ_KEY : Fld := ⟨0x78, 0x44, 15, 8⟩
def F.SEC_TAP_OPEN : Fld := ⟨0x78, 0x48, 0, 0⟩
def F.SEC_TAP_LEVEL : Fld := ⟨0x78, 0x48, 2, 1⟩
def F.SEC_TAP_FAILS : Fld := ⟨0x78, 0x48, 4, 3⟩
def F.SEC_TAP_LOCKED : Fld := ⟨0x78, 0x48, 5, 5⟩
def F.SEC_TAP_DEBUG_HALT : Fld := ⟨0x78, 0x48, 6, 6⟩
def F.SEC_TAP_BUSY : Fld := ⟨0x78, 0x48, 7, 7⟩
def F.SEC_NONCE_NONCE (k : Nat) : Fld := ⟨0x78, 0x4C + 4 * k, 31, 0⟩
def F.SEC_CLR_STATE : Fld := ⟨0x78, 0x6C, 1, 0⟩
def F.SEC_CLR_TRIGGER : Fld := ⟨0x78, 0x6C, 4, 2⟩
def F.SEC_CLR_TIME_US : Fld := ⟨0x78, 0x6C, 31, 16⟩
def F.SEC_VIOL_MASTER : Fld := ⟨0x78, 0x70, 4, 0⟩
def F.SEC_VIOL_WRITE : Fld := ⟨0x78, 0x70, 5, 5⟩
def F.SEC_VIOL_COUNT : Fld := ⟨0x78, 0x70, 31, 16⟩
def F.SEC_VIOL_ADDR_ADDR : Fld := ⟨0x78, 0x74, 31, 0⟩
def F.SEC_EVT_VIOL : Fld := ⟨0x78, 0x78, 0, 0⟩
def F.SEC_EVT_AUTH_OK : Fld := ⟨0x78, 0x78, 1, 1⟩
def F.SEC_EVT_AUTH_FAIL : Fld := ⟨0x78, 0x78, 2, 2⟩
def F.SEC_EVT_AUTH_LOCK : Fld := ⟨0x78, 0x78, 3, 3⟩
def F.SEC_EVT_CLR_FAIL : Fld := ⟨0x78, 0x78, 4, 4⟩
def F.SEC_EVT_LC_CHG : Fld := ⟨0x78, 0x78, 5, 5⟩
def F.SEC_EVT_LC_REJ : Fld := ⟨0x78, 0x78, 6, 6⟩
def F.SEC_EVT_SIG_FAIL : Fld := ⟨0x78, 0x78, 7, 7⟩
def F.SEC_EVT_TESTMODE_IGN : Fld := ⟨0x78, 0x78, 8, 8⟩
def F.SEC_KEYREV_MAIN : Fld := ⟨0x78, 0x7C, 3, 0⟩
def F.SEC_KEYREV_GRANITE : Fld := ⟨0x78, 0x7C, 7, 4⟩
def F.SEC_KEYREV_DEBUG : Fld := ⟨0x78, 0x7C, 9, 8⟩

/-! BST: R546 (16_security_and_self_test). -/
def F.BST_LB_CTRL_GO : Fld := ⟨0x79, 0x40, 0, 0⟩
def F.BST_LB_CTRL_PART : Fld := ⟨0x79, 0x40, 1, 1⟩
def F.BST_LB_CTRL_KEY : Fld := ⟨0x79, 0x40, 15, 8⟩
def F.BST_LB_CNT_COUNT : Fld := ⟨0x79, 0x44, 23, 0⟩
def F.BST_LB_SEED_LO_VALUE : Fld := ⟨0x79, 0x48, 31, 0⟩
def F.BST_LB_SEED_HI_VALUE : Fld := ⟨0x79, 0x4C, 31, 0⟩
def F.BST_LB_EXP_LO_VALUE : Fld := ⟨0x79, 0x50, 31, 0⟩
def F.BST_LB_EXP_HI_VALUE : Fld := ⟨0x79, 0x54, 31, 0⟩
def F.BST_LB_MISR_LO_MISR : Fld := ⟨0x79, 0x58, 31, 0⟩
def F.BST_LB_MISR_HI_MISR : Fld := ⟨0x79, 0x5C, 31, 0⟩
def F.BST_LB_STAT_RESULT : Fld := ⟨0x79, 0x60, 2, 0⟩
def F.BST_LB_STAT_PART : Fld := ⟨0x79, 0x60, 3, 3⟩
def F.BST_LB_STAT_REJ : Fld := ⟨0x79, 0x60, 7, 4⟩
def F.BST_LB_STAT_EXEC : Fld := ⟨0x79, 0x60, 31, 8⟩
def F.BST_MB_CTRL_GO : Fld := ⟨0x79, 0x64, 0, 0⟩
def F.BST_MB_CTRL_RET : Fld := ⟨0x79, 0x64, 1, 1⟩
def F.BST_MB_CTRL_KEY : Fld := ⟨0x79, 0x64, 15, 8⟩
def F.BST_MB_STAT_RESULT : Fld := ⟨0x79, 0x68, 2, 0⟩
def F.BST_MB_STAT_FAIL_ARR : Fld := ⟨0x79, 0x68, 15, 8⟩
def F.BST_MB_STAT_SOFT_USED : Fld := ⟨0x79, 0x68, 23, 16⟩
def F.BST_MB_STAT_FUSED_USED : Fld := ⟨0x79, 0x68, 31, 24⟩
def F.BST_EVT_LB_DONE : Fld := ⟨0x79, 0x6C, 0, 0⟩
def F.BST_EVT_LB_REJ : Fld := ⟨0x79, 0x6C, 1, 1⟩
def F.BST_EVT_MB_DONE : Fld := ⟨0x79, 0x6C, 2, 2⟩
def F.BST_EVT_MB_FAIL : Fld := ⟨0x79, 0x6C, 3, 3⟩
def F.BST_EVT_REPAIR_NEW : Fld := ⟨0x79, 0x6C, 4, 4⟩
def F.BST_MB_REP_ENTRY (k : Nat) : Fld := ⟨0x79, 0x80 + 4 * k, 31, 0⟩

/-! FUS: R547 (16_security_and_self_test). -/
def F.FUS_STAT_SENSED : Fld := ⟨0x7A, 0x40, 0, 0⟩
def F.FUS_STAT_BUSY : Fld := ⟨0x7A, 0x40, 1, 1⟩
def F.FUS_STAT_PAR_ROWS : Fld := ⟨0x7A, 0x40, 15, 8⟩
def F.FUS_PROG_ROW : Fld := ⟨0x7A, 0x44, 5, 0⟩
def F.FUS_PROG_BIT : Fld := ⟨0x7A, 0x44, 15, 8⟩
def F.FUS_PROG_KEY : Fld := ⟨0x7A, 0x44, 23, 16⟩
def F.FUS_PROG_GO : Fld := ⟨0x7A, 0x44, 24, 24⟩
def F.FUS_PROG_STAT_RESULT : Fld := ⟨0x7A, 0x48, 2, 0⟩
def F.FUS_PROG_STAT_REJ : Fld := ⟨0x7A, 0x48, 6, 3⟩
def F.FUS_RD_ROW_ROW : Fld := ⟨0x7A, 0x4C, 5, 0⟩
def F.FUS_RD_BITS (k : Nat) : Fld := ⟨0x7A, 0x50 + 4 * k, 31, 0⟩
def F.FUS_OPT_STUCK_IGNORE : Fld := ⟨0x7A, 0x70, 0, 0⟩
def F.FUS_OPT_PROF_CMD : Fld := ⟨0x7A, 0x70, 1, 1⟩
def F.FUS_HW_TYPE_HW_TYPE : Fld := ⟨0x7A, 0x74, 31, 0⟩
def F.FUS_UID_LO_UID : Fld := ⟨0x7A, 0x78, 31, 0⟩
def F.FUS_UID_HI_UID : Fld := ⟨0x7A, 0x7C, 31, 0⟩
def F.FUS_EVT_PROG_DONE : Fld := ⟨0x7A, 0x80, 0, 0⟩
def F.FUS_EVT_PROG_REJ : Fld := ⟨0x7A, 0x80, 1, 1⟩
def F.FUS_EVT_VERIFY_FAIL : Fld := ⟨0x7A, 0x80, 2, 2⟩
def F.FUS_EVT_PARITY : Fld := ⟨0x7A, 0x80, 3, 3⟩

/-! UPD: R570 (17_update_and_profiles). -/
def F.UPD_CTRL_MANUAL : Fld := ⟨0x80, 0x40, 0, 0⟩
def F.UPD_CTRL_TRIAL_S : Fld := ⟨0x80, 0x40, 15, 8⟩
def F.UPD_STAT_MAIN_ACT : Fld := ⟨0x80, 0x44, 0, 0⟩
def F.UPD_STAT_TRIAL : Fld := ⟨0x80, 0x44, 1, 1⟩
def F.UPD_STAT_RECOVERY : Fld := ⟨0x80, 0x44, 2, 2⟩
def F.UPD_STAT_FUSE_PEND : Fld := ⟨0x80, 0x44, 3, 3⟩
def F.UPD_STAT_CAL_ACT : Fld := ⟨0x80, 0x44, 4, 4⟩
def F.UPD_STAT_ROLL_CNT : Fld := ⟨0x80, 0x44, 14, 8⟩
def F.UPD_SLOTA_STATE : Fld := ⟨0x80, 0x48, 2, 0⟩
def F.UPD_SLOTB_STATE : Fld := ⟨0x80, 0x4C, 2, 0⟩
def F.UPD_SLOTA_OVERLAP : Fld := ⟨0x80, 0x48, 3, 3⟩
def F.UPD_SLOTB_OVERLAP : Fld := ⟨0x80, 0x4C, 3, 3⟩
def F.UPD_SLOTA_REJ : Fld := ⟨0x80, 0x48, 7, 4⟩
def F.UPD_SLOTB_REJ : Fld := ⟨0x80, 0x4C, 7, 4⟩
def F.UPD_SLOTA_ROLLBACK : Fld := ⟨0x80, 0x48, 14, 8⟩
def F.UPD_SLOTB_ROLLBACK : Fld := ⟨0x80, 0x4C, 14, 8⟩
def F.UPD_SLOTA_VER : Fld := ⟨0x80, 0x48, 31, 16⟩
def F.UPD_SLOTB_VER : Fld := ⟨0x80, 0x4C, 31, 16⟩
def F.UPD_CAL_STATE (k : Nat) : Fld := ⟨0x80, 0x50 + 4 * k, 2, 0⟩
def F.UPD_CAL_OVERLAP (k : Nat) : Fld := ⟨0x80, 0x50 + 4 * k, 3, 3⟩
def F.UPD_CAL_REJ (k : Nat) : Fld := ⟨0x80, 0x50 + 4 * k, 7, 4⟩
def F.UPD_VER_VER : Fld := ⟨0x80, 0x58, 31, 0⟩
def F.UPD_SET_FMT : Fld := ⟨0x80, 0x5C, 15, 0⟩
def F.UPD_SET_RESET : Fld := ⟨0x80, 0x5C, 17, 16⟩
def F.UPD_EVT_VERIFIED : Fld := ⟨0x80, 0x60, 0, 0⟩
def F.UPD_EVT_REJECTED : Fld := ⟨0x80, 0x60, 1, 1⟩
def F.UPD_EVT_CONFIRMED : Fld := ⟨0x80, 0x60, 2, 2⟩
def F.UPD_EVT_TRIAL_FAIL : Fld := ⟨0x80, 0x60, 3, 3⟩
def F.UPD_EVT_WR_REFUSED : Fld := ⟨0x80, 0x60, 4, 4⟩
def F.UPD_EVT_OP_IGN : Fld := ⟨0x80, 0x60, 5, 5⟩
def F.UPD_EVT_OVERLAP : Fld := ⟨0x80, 0x60, 6, 6⟩
def F.UPD_EVT_SET_RESET : Fld := ⟨0x80, 0x60, 7, 7⟩
def F.UPD_CNT_BLOCKS : Fld := ⟨0x80, 0x64, 15, 0⟩
def F.UPD_CNT_PAGES_SKIPPED : Fld := ⟨0x80, 0x64, 31, 16⟩

/-! PRF: R571 (17_update_and_profiles). -/
def F.PRF_SEL_PROF : Fld := ⟨0x81, 0x40, 1, 0⟩
def F.PRF_SEL_VALID : Fld := ⟨0x81, 0x40, 7, 7⟩
def F.PRF_STAT_IN_FORCE : Fld := ⟨0x81, 0x44, 1, 0⟩
def F.PRF_STAT_STRAP : Fld := ⟨0x81, 0x44, 3, 2⟩
def F.PRF_STAT_CMD_OK : Fld := ⟨0x81, 0x44, 4, 4⟩
def F.PRF_STAT_FROM_CMD : Fld := ⟨0x81, 0x44, 5, 5⟩
def F.PRF_STAT_TRAFFIC : Fld := ⟨0x81, 0x44, 6, 6⟩
def F.PRF_STAT_TILES : Fld := ⟨0x81, 0x44, 15, 8⟩
def F.PRF_STAT_RECORDS : Fld := ⟨0x81, 0x44, 19, 16⟩
def F.PRF_STAT_TABLES : Fld := ⟨0x81, 0x44, 23, 20⟩
def F.PRF_REJ_REASON : Fld := ⟨0x81, 0x48, 3, 0⟩
def F.PRF_REJ_PROF : Fld := ⟨0x81, 0x48, 5, 4⟩
def F.PRF_EVT_CHANGE : Fld := ⟨0x81, 0x4C, 0, 0⟩
def F.PRF_EVT_REJ : Fld := ⟨0x81, 0x4C, 1, 1⟩
def F.PRF_CNT_CHANGES : Fld := ⟨0x81, 0x50, 15, 0⟩
def F.PRF_CNT_REFUSED : Fld := ⟨0x81, 0x50, 31, 16⟩

/-! CRC: R596 (18_register_map). -/
def F.CRC_CFG_MODE (n : Nat) : Fld := ⟨0x89 + n % 4, 0x40, 1, 0⟩
def F.CRC_CFG_STREAM (n : Nat) : Fld := ⟨0x89 + n % 4, 0x40, 4, 2⟩
def F.CRC_CFG_REFIN (n : Nat) : Fld := ⟨0x89 + n % 4, 0x40, 5, 5⟩
def F.CRC_CFG_REFOUT (n : Nat) : Fld := ⟨0x89 + n % 4, 0x40, 6, 6⟩
def F.CRC_CFG_WIDTH (n : Nat) : Fld := ⟨0x89 + n % 4, 0x40, 13, 8⟩
def F.CRC_POLY_VALUE (n : Nat) : Fld := ⟨0x89 + n % 4, 0x44, 31, 0⟩
def F.CRC_INIT_VALUE (n : Nat) : Fld := ⟨0x89 + n % 4, 0x48, 31, 0⟩
def F.CRC_XOR_VALUE (n : Nat) : Fld := ⟨0x89 + n % 4, 0x4C, 31, 0⟩
def F.CRC_EXP_EXP (n : Nat) : Fld := ⟨0x89 + n % 4, 0x50, 31, 0⟩
def F.CRC_VAL_VAL (n : Nat) : Fld := ⟨0x89 + n % 4, 0x54, 31, 0⟩
def F.CRC_CNT_FRAMES (n : Nat) : Fld := ⟨0x89 + n % 4, 0x58, 15, 0⟩
def F.CRC_CNT_MISMATCH (n : Nat) : Fld := ⟨0x89 + n % 4, 0x58, 31, 16⟩

/-! SYS: R599 (18_register_map). -/
def F.SYS_HW_TYPE_HW_TYPE : Fld := ⟨0x0, 0x40, 31, 0⟩
def F.SYS_REV_SILICON : Fld := ⟨0x0, 0x44, 3, 0⟩
def F.SYS_REV_ROM : Fld := ⟨0x0, 0x44, 15, 8⟩
def F.SYS_EVT_NOMAP : Fld := ⟨0x0, 0x48, 0, 0⟩
def F.SYS_EVT_NOPAGE : Fld := ⟨0x0, 0x48, 1, 1⟩
def F.SYS_EVT_WIDTH : Fld := ⟨0x0, 0x48, 2, 2⟩
def F.SYS_EVT_REG_FMT : Fld := ⟨0x0, 0x48, 3, 3⟩
def F.SYS_EVT_REG_RANGE : Fld := ⟨0x0, 0x48, 4, 4⟩
def F.SYS_EVT_SPT_ERR : Fld := ⟨0x0, 0x48, 5, 5⟩
def F.SYS_CNT_REG : Fld := ⟨0x0, 0x4C, 15, 0⟩
def F.SYS_CNT_REG_NOOP : Fld := ⟨0x0, 0x4C, 31, 16⟩

end Sys2Proof.Machine
end

