-- ==== Sys2Proof/Machine/RegTable.lean ====
section
/-! DEFINITION. The register table of every unit kind: offset, bits, access code (R9), reset value and scope (R10, R11).
Field names stand in Machine/Fields.lean; reserved bits have no row and read 0 (R7). -/

namespace Sys2Proof.Machine

/-- Element n of a list of reset values of the instances of a unit kind. -/
def pick (l : List Nat) (n : Nat) : Nat := l.getD n 0

/-- Register rows of CLK, part 1. -/
def rowsCLKA : List Row := [
  ⟨0x40, 1, 0, 0, .rws, 0, .cold⟩,
  ⟨0x44, 1, 0, 0, .rws, 0, .cold⟩,
  ⟨0x44, 1, 1, 1, .rws, 1, .cold⟩,
  ⟨0x44, 1, 15, 8, .rws, 0x32, .cold⟩,
  ⟨0x44, 1, 21, 16, .rws, 0xA, .cold⟩,
  ⟨0x48, 1, 0, 0, .wo, 0, .block⟩,
  ⟨0x48, 1, 1, 1, .wo, 0, .block⟩,
  ⟨0x4C, 1, 3, 0, .ro, 0, .live⟩,
  ⟨0x4C, 1, 4, 4, .ro, 0, .live⟩,
  ⟨0x4C, 1, 5, 5, .ro, 0, .live⟩,
  ⟨0x4C, 1, 6, 6, .ro, 0, .live⟩,
  ⟨0x4C, 1, 7, 7, .ro, 0, .live⟩,
  ⟨0x4C, 1, 8, 8, .ro, 0, .live⟩,
  ⟨0x4C, 1, 9, 9, .ro, 0, .live⟩,
  ⟨0x4C, 1, 10, 10, .ro, 0, .live⟩,
  ⟨0x4C, 1, 11, 11, .ro, 0, .live⟩,
  ⟨0x4C, 1, 12, 12, .ro, 0, .live⟩,
  ⟨0x4C, 1, 13, 13, .ro, 0, .live⟩,
  ⟨0x4C, 1, 23, 16, .rws, 0, .cold⟩,
  ⟨0x50, 1, 0, 0, .w1c, 0, .warm⟩,
  ⟨0x50, 1, 1, 1, .w1c, 0, .warm⟩,
  ⟨0x50, 1, 2, 2, .w1c, 0, .warm⟩,
  ⟨0x50, 1, 3, 3, .w1c, 0, .warm⟩,
  ⟨0x50, 1, 4, 4, .w1c, 0, .warm⟩,
  ⟨0x50, 1, 5, 5, .w1c, 0, .warm⟩,
  ⟨0x54, 1, 0, 0, .w1c, 0, .cold⟩,
  ⟨0x54, 1, 1, 1, .w1c, 0, .cold⟩,
  ⟨0x54, 1, 2, 2, .w1c, 0, .cold⟩,
  ⟨0x54, 1, 3, 3, .w1c, 0, .cold⟩,
  ⟨0x54, 1, 4, 4, .w1c, 0, .cold⟩]
/-- Register rows of CLK, part 2. -/
def rowsCLKB : List Row := [
  ⟨0x54, 1, 5, 5, .w1c, 0, .cold⟩,
  ⟨0x58, 3, 15, 0, .ro, 0, .block⟩,
  ⟨0x58, 3, 31, 16, .ro, 0, .block⟩,
  ⟨0x64, 1, 15, 0, .ro, 0, .block⟩,
  ⟨0x64, 1, 16, 16, .ro, 0, .block⟩,
  ⟨0x68, 1, 3, 0, .ro, 0, .cold⟩,
  ⟨0x68, 1, 6, 4, .ro, 0, .cold⟩,
  ⟨0x68, 1, 7, 7, .ro, 0, .cold⟩,
  ⟨0x6C, 1, 0, 0, .rwc, 0, .warm⟩,
  ⟨0x6C, 1, 3, 1, .rwc, 0, .warm⟩,
  ⟨0x6C, 1, 5, 4, .rwc, 0, .warm⟩,
  ⟨0x70, 1, 23, 0, .rws, 0x80000, .cold⟩,
  ⟨0x74, 1, 23, 0, .rws, 0x100000, .cold⟩,
  ⟨0x78, 1, 0, 0, .w1c, 0, .warm⟩,
  ⟨0x78, 1, 15, 8, .ro, 0, .cold⟩,
  ⟨0x78, 1, 22, 16, .ro, 0, .warm⟩]

/-- All register rows of CLK. -/
def rowsCLK : List Row := rowsCLKA ++ rowsCLKB

/-- Register rows of RST, part 1. -/
def rowsRSTA : List Row := [
  ⟨0x40, 1, 0, 0, .w1c, 0, .cold⟩,
  ⟨0x40, 1, 1, 1, .w1c, 0, .cold⟩,
  ⟨0x40, 1, 2, 2, .w1c, 0, .cold⟩,
  ⟨0x40, 1, 3, 3, .w1c, 0, .cold⟩,
  ⟨0x40, 1, 4, 4, .w1c, 0, .cold⟩,
  ⟨0x40, 1, 5, 5, .w1c, 0, .cold⟩,
  ⟨0x40, 1, 6, 6, .w1c, 0, .cold⟩,
  ⟨0x40, 1, 7, 7, .w1c, 0, .cold⟩,
  ⟨0x40, 1, 8, 8, .w1c, 0, .cold⟩,
  ⟨0x40, 1, 9, 9, .w1c, 0, .cold⟩,
  ⟨0x40, 1, 10, 10, .w1c, 0, .cold⟩,
  ⟨0x40, 1, 11, 11, .w1c, 0, .cold⟩,
  ⟨0x44, 1, 0, 0, .wo, 0, .block⟩,
  ⟨0x44, 1, 15, 8, .wo, 0, .block⟩,
  ⟨0x48, 1, 0, 0, .ro, 1, .live⟩,
  ⟨0x48, 1, 1, 1, .ro, 0, .cold⟩,
  ⟨0x48, 1, 2, 2, .ro, 0, .live⟩,
  ⟨0x48, 1, 31, 16, .ro, 0, .cold⟩,
  ⟨0x4C, 1, 7, 0, .rw, 0x14, .warm⟩,
  ⟨0x50, 1, 7, 0, .ro, 0, .warm⟩,
  ⟨0x50, 1, 8, 8, .ro, 0, .live⟩,
  ⟨0x50, 1, 31, 16, .ro, 0, .warm⟩,
  ⟨0x54, 1, 7, 0, .ro, 0, .warm⟩,
  ⟨0x54, 1, 10, 8, .ro, 0, .warm⟩,
  ⟨0x54, 1, 11, 11, .ro, 0, .warm⟩,
  ⟨0x54, 1, 12, 12, .ro, 0, .warm⟩,
  ⟨0x54, 1, 13, 13, .ro, 0, .warm⟩,
  ⟨0x54, 1, 14, 14, .ro, 0, .warm⟩,
  ⟨0x54, 1, 19, 16, .ro, 0, .warm⟩,
  ⟨0x58, 1, 31, 0, .ro, 0, .warm⟩]
/-- Register rows of RST, part 2. -/
def rowsRSTB : List Row := [
  ⟨0x5C, 1, 0, 0, .wo, 0, .block⟩,
  ⟨0x5C, 1, 1, 1, .wo, 0, .block⟩,
  ⟨0x60, 1, 31, 0, .ro, 0, .cold⟩,
  ⟨0x64, 1, 0, 0, .ro, 0, .cold⟩,
  ⟨0x68, 1, 0, 0, .rw, 0, .warm⟩,
  ⟨0x68, 1, 15, 8, .rw, 0x32, .warm⟩,
  ⟨0x6C, 1, 7, 0, .wo, 0, .block⟩,
  ⟨0x70, 1, 0, 0, .w1c, 0, .warm⟩,
  ⟨0x70, 1, 1, 1, .w1c, 0, .warm⟩,
  ⟨0x70, 1, 2, 2, .w1c, 0, .warm⟩,
  ⟨0x70, 1, 3, 3, .w1c, 0, .warm⟩]

/-- All register rows of RST. -/
def rowsRST : List Row := rowsRSTA ++ rowsRSTB

/-- Register rows of LNK, part 1. -/
def rowsLNKA : List Row := [
  ⟨0x40, 1, 0, 0, .rw, 0, .warm⟩,
  ⟨0x40, 1, 1, 1, .rw, 1, .warm⟩,
  ⟨0x40, 1, 2, 2, .rw, 1, .warm⟩,
  ⟨0x40, 1, 15, 8, .rw, 0xA, .warm⟩,
  ⟨0x44, 1, 3, 0, .ro, 0, .live⟩,
  ⟨0x44, 1, 4, 4, .ro, 0, .live⟩,
  ⟨0x44, 1, 5, 5, .ro, 0, .live⟩,
  ⟨0x44, 1, 6, 6, .ro, 0, .live⟩,
  ⟨0x44, 1, 7, 7, .ro, 0, .live⟩,
  ⟨0x44, 1, 10, 8, .ro, 0, .live⟩,
  ⟨0x44, 1, 22, 16, .ro, 0, .live⟩,
  ⟨0x48, 1, 0, 0, .w1c, 0, .warm⟩,
  ⟨0x48, 1, 1, 1, .w1c, 0, .warm⟩,
  ⟨0x48, 1, 2, 2, .w1c, 0, .warm⟩,
  ⟨0x48, 1, 3, 3, .w1c, 0, .warm⟩,
  ⟨0x48, 1, 4, 4, .w1c, 0, .warm⟩,
  ⟨0x48, 1, 5, 5, .w1c, 0, .warm⟩,
  ⟨0x48, 1, 6, 6, .w1c, 0, .warm⟩,
  ⟨0x48, 1, 7, 7, .w1c, 0, .warm⟩,
  ⟨0x48, 1, 8, 8, .w1c, 0, .warm⟩,
  ⟨0x48, 1, 9, 9, .w1c, 0, .warm⟩,
  ⟨0x48, 1, 10, 10, .w1c, 0, .warm⟩,
  ⟨0x4C, 4, 15, 0, .ro, 0, .block⟩,
  ⟨0x4C, 4, 31, 16, .ro, 0, .block⟩,
  ⟨0x5C, 1, 31, 0, .ro, 0, .warm⟩,
  ⟨0x60, 1, 31, 0, .ro, 0, .block⟩,
  ⟨0x64, 1, 15, 0, .ro, 0, .block⟩,
  ⟨0x64, 1, 23, 16, .ro, 0, .block⟩,
  ⟨0x64, 1, 24, 24, .ro, 0, .block⟩,
  ⟨0x68, 1, 11, 0, .ro, 0, .block⟩]
/-- Register rows of LNK, part 2. -/
def rowsLNKB (n : Nat) : List Row := [
  ⟨0x6C, 1, 4, 0, .rw, pick [26,27] n, .warm⟩]

/-- All register rows of LNK. -/
def rowsLNK (n : Nat) : List Row := rowsLNKA ++ rowsLNKB n

/-- Register rows of SIDE. -/
def rowsSIDE : List Row := [
  ⟨0x40, 1, 0, 0, .rw, 0, .warm⟩,
  ⟨0x40, 1, 1, 1, .rw, 1, .warm⟩,
  ⟨0x40, 1, 15, 8, .rw, 5, .warm⟩,
  ⟨0x40, 1, 31, 16, .rw, 0, .warm⟩,
  ⟨0x44, 1, 3, 0, .ro, 0, .live⟩,
  ⟨0x44, 1, 4, 4, .ro, 0, .live⟩,
  ⟨0x44, 1, 5, 5, .ro, 0, .live⟩,
  ⟨0x44, 1, 6, 6, .ro, 0, .live⟩,
  ⟨0x44, 1, 7, 7, .ro, 0, .live⟩,
  ⟨0x44, 1, 8, 8, .ro, 0, .live⟩,
  ⟨0x48, 1, 0, 0, .w1c, 0, .warm⟩,
  ⟨0x48, 1, 1, 1, .w1c, 0, .warm⟩,
  ⟨0x48, 1, 2, 2, .w1c, 0, .warm⟩,
  ⟨0x48, 1, 3, 3, .w1c, 0, .warm⟩,
  ⟨0x48, 1, 4, 4, .w1c, 0, .warm⟩,
  ⟨0x48, 1, 5, 5, .w1c, 0, .warm⟩,
  ⟨0x4C, 1, 31, 0, .ro, 0, .block⟩,
  ⟨0x50, 1, 15, 0, .ro, 0, .warm⟩,
  ⟨0x50, 1, 31, 16, .ro, 0, .block⟩]

/-- Register rows of CSF. -/
def rowsCSF : List Row := [
  ⟨0x40, 1, 7, 0, .rwc, 0x14, .warm⟩,
  ⟨0x40, 1, 15, 8, .rwc, 0x19, .warm⟩,
  ⟨0x40, 1, 23, 16, .rwc, 0xA, .warm⟩,
  ⟨0x44, 1, 15, 0, .rwc, 0, .warm⟩,
  ⟨0x44, 1, 31, 16, .rwc, 0, .warm⟩,
  ⟨0x48, 1, 0, 0, .ro, 0, .live⟩,
  ⟨0x48, 1, 1, 1, .ro, 0, .live⟩,
  ⟨0x48, 1, 5, 2, .ro, 0, .live⟩,
  ⟨0x48, 1, 9, 6, .ro, 0, .live⟩,
  ⟨0x48, 1, 13, 12, .ro, 0, .warm⟩,
  ⟨0x4C, 1, 0, 0, .w1c, 0, .warm⟩,
  ⟨0x4C, 1, 1, 1, .w1c, 0, .warm⟩,
  ⟨0x4C, 1, 2, 2, .w1c, 0, .warm⟩,
  ⟨0x4C, 1, 3, 3, .w1c, 0, .warm⟩,
  ⟨0x4C, 1, 4, 4, .w1c, 0, .warm⟩,
  ⟨0x4C, 1, 5, 5, .w1c, 0, .warm⟩,
  ⟨0x4C, 1, 6, 6, .w1c, 0, .warm⟩,
  ⟨0x4C, 1, 7, 7, .w1c, 0, .warm⟩,
  ⟨0x4C, 1, 8, 8, .w1c, 0, .warm⟩,
  ⟨0x4C, 1, 9, 9, .w1c, 0, .warm⟩,
  ⟨0x4C, 1, 10, 10, .w1c, 0, .warm⟩,
  ⟨0x50, 1, 31, 0, .ro, 0, .warm⟩,
  ⟨0x54, 1, 15, 0, .ro, 0, .warm⟩,
  ⟨0x54, 1, 31, 16, .ro, 0, .warm⟩,
  ⟨0x58, 1, 23, 0, .ro, 0, .live⟩,
  ⟨0x5C, 2, 31, 0, .ro, 0, .live⟩,
  ⟨0x64, 1, 31, 0, .ro, 0, .warm⟩]

/-- Register rows of CMD. -/
def rowsCMD : List Row := [
  ⟨0x40, 1, 7, 0, .rw, 0x32, .warm⟩,
  ⟨0x44, 1, 6, 0, .rwc, 0x70, .cold⟩,
  ⟨0x48, 1, 7, 0, .rwc, 2, .cold⟩,
  ⟨0x48, 1, 15, 8, .rwc, 0x30, .cold⟩,
  ⟨0x48, 1, 23, 16, .rwc, 8, .cold⟩,
  ⟨0x48, 1, 31, 24, .rwc, 6, .cold⟩,
  ⟨0x50, 4, 31, 0, .ro, 1, .cold⟩,
  ⟨0x60, 4, 31, 0, .ro, 0, .cold⟩,
  ⟨0x70, 1, 7, 0, .ro, 0, .live⟩,
  ⟨0x70, 1, 15, 8, .ro, 0, .live⟩,
  ⟨0x70, 1, 23, 16, .ro, 0, .live⟩,
  ⟨0x70, 1, 31, 24, .ro, 0, .live⟩,
  ⟨0x74, 1, 0, 0, .w1c, 0, .warm⟩,
  ⟨0x74, 1, 1, 1, .w1c, 0, .warm⟩,
  ⟨0x74, 1, 2, 2, .w1c, 0, .warm⟩,
  ⟨0x74, 1, 3, 3, .w1c, 0, .warm⟩,
  ⟨0x74, 1, 4, 4, .w1c, 0, .warm⟩,
  ⟨0x74, 1, 5, 5, .w1c, 0, .warm⟩,
  ⟨0x74, 1, 6, 6, .w1c, 0, .cold⟩,
  ⟨0x74, 1, 7, 7, .w1c, 0, .warm⟩,
  ⟨0x74, 1, 8, 8, .w1c, 0, .warm⟩,
  ⟨0x78, 1, 31, 0, .ro, 0, .warm⟩,
  ⟨0x7C, 2, 15, 0, .ro, 0, .warm⟩,
  ⟨0x7C, 2, 31, 16, .ro, 0, .warm⟩,
  ⟨0x84, 1, 31, 0, .ro, 0, .warm⟩,
  ⟨0x88, 1, 7, 0, .rw, 0x32, .warm⟩]

/-- Register rows of CMP. -/
def rowsCMP : List Row := [
  ⟨0x40, 1, 0, 0, .rw, 1, .warm⟩,
  ⟨0x40, 1, 3, 1, .rw, 2, .warm⟩,
  ⟨0x40, 1, 6, 4, .rw, 2, .warm⟩,
  ⟨0x44, 1, 31, 0, .rwc, 0x3F940B, .warm⟩,
  ⟨0x48, 1, 3, 0, .rwc, 4, .warm⟩,
  ⟨0x4C, 1, 31, 0, .ro, 0, .warm⟩,
  ⟨0x50, 1, 0, 0, .ro, 0, .live⟩,
  ⟨0x50, 1, 1, 1, .ro, 0, .live⟩,
  ⟨0x50, 1, 2, 2, .ro, 0, .live⟩,
  ⟨0x50, 1, 10, 8, .ro, 0, .warm⟩,
  ⟨0x50, 1, 19, 16, .ro, 0, .warm⟩,
  ⟨0x54, 1, 15, 0, .ro, 0, .live⟩,
  ⟨0x58, 1, 0, 0, .w1c, 0, .warm⟩,
  ⟨0x58, 1, 1, 1, .w1c, 0, .warm⟩,
  ⟨0x58, 1, 2, 2, .w1c, 0, .warm⟩,
  ⟨0x58, 1, 3, 3, .w1c, 0, .warm⟩,
  ⟨0x58, 1, 4, 4, .w1c, 0, .warm⟩,
  ⟨0x58, 1, 5, 5, .w1c, 0, .warm⟩,
  ⟨0x58, 1, 6, 6, .w1c, 0, .warm⟩,
  ⟨0x5C, 1, 15, 0, .ro, 0, .warm⟩,
  ⟨0x5C, 1, 31, 16, .ro, 0, .warm⟩,
  ⟨0x60, 2, 31, 0, .ro, 0, .warm⟩,
  ⟨0x68, 1, 31, 0, .ro, 0, .warm⟩]

/-- Register rows of LAY, part 1. -/
def rowsLAYA : List Row := [
  ⟨0x40, 1, 1, 0, .rwc, 0, .warm⟩,
  ⟨0x40, 1, 2, 2, .rwc, 0, .warm⟩,
  ⟨0x40, 1, 3, 3, .rwc, 0, .warm⟩,
  ⟨0x40, 1, 7, 4, .rwc, 0, .warm⟩,
  ⟨0x40, 1, 10, 8, .rwc, 0, .warm⟩,
  ⟨0x40, 1, 15, 12, .rwc, 0, .warm⟩,
  ⟨0x40, 1, 17, 16, .rwc, 0, .warm⟩,
  ⟨0x40, 1, 19, 18, .rwc, 0, .warm⟩,
  ⟨0x40, 1, 20, 20, .rwc, 0, .warm⟩,
  ⟨0x40, 1, 21, 21, .rwc, 0, .warm⟩,
  ⟨0x44, 1, 15, 0, .rwc, 0, .warm⟩,
  ⟨0x44, 1, 31, 16, .rwc, 0, .warm⟩,
  ⟨0x48, 1, 12, 0, .rwc, 0, .warm⟩,
  ⟨0x48, 1, 28, 16, .rwc, 0, .warm⟩,
  ⟨0x4C, 2, 16, 0, .rwc, 0, .warm⟩,
  ⟨0x54, 1, 11, 0, .rwc, 0, .warm⟩,
  ⟨0x58, 1, 15, 0, .rwc, 0, .warm⟩,
  ⟨0x58, 1, 31, 16, .ro, 0, .cold⟩,
  ⟨0x5C, 1, 7, 0, .rwc, 0xFF, .warm⟩,
  ⟨0x5C, 1, 8, 8, .rwc, 0, .warm⟩,
  ⟨0x5C, 1, 9, 9, .rwc, 0, .warm⟩,
  ⟨0x5C, 1, 31, 16, .rwc, 0, .warm⟩,
  ⟨0x60, 1, 15, 0, .rwc, 0x2000, .warm⟩,
  ⟨0x64, 1, 15, 0, .rwc, 0, .warm⟩,
  ⟨0x68, 1, 15, 0, .rwc, 0x2000, .warm⟩,
  ⟨0x6C, 1, 15, 0, .rwc, 0, .warm⟩,
  ⟨0x70, 1, 15, 0, .rwc, 0x2000, .warm⟩,
  ⟨0x60, 5, 31, 16, .rwc, 0, .warm⟩,
  ⟨0x74, 3, 16, 0, .rwc, 0, .warm⟩,
  ⟨0x80, 3, 16, 0, .rwc, 0, .warm⟩]
/-- Register rows of LAY, part 2. -/
def rowsLAYB : List Row := [
  ⟨0x8C, 1, 4, 0, .rwc, 0x10, .warm⟩,
  ⟨0x90, 1, 0, 0, .ro, 0, .live⟩,
  ⟨0x90, 1, 1, 1, .ro, 0, .live⟩,
  ⟨0x90, 1, 2, 2, .ro, 0, .live⟩,
  ⟨0x90, 1, 3, 3, .ro, 0, .live⟩,
  ⟨0x90, 1, 4, 4, .ro, 0, .live⟩,
  ⟨0x90, 1, 5, 5, .ro, 0, .live⟩,
  ⟨0x90, 1, 6, 6, .ro, 0, .live⟩,
  ⟨0x90, 1, 15, 8, .ro, 0, .warm⟩,
  ⟨0x94, 1, 31, 0, .ro, 0, .warm⟩,
  ⟨0x98, 1, 0, 0, .w1c, 0, .warm⟩,
  ⟨0x98, 1, 1, 1, .w1c, 0, .warm⟩,
  ⟨0x98, 1, 2, 2, .w1c, 0, .warm⟩,
  ⟨0x98, 1, 3, 3, .w1c, 0, .warm⟩,
  ⟨0x98, 1, 4, 4, .w1c, 0, .warm⟩,
  ⟨0x9C, 1, 3, 0, .ro, 0, .warm⟩,
  ⟨0xA0, 1, 15, 0, .ro, 0, .warm⟩,
  ⟨0xA0, 1, 31, 16, .ro, 0, .warm⟩]

/-- All register rows of LAY. -/
def rowsLAY : List Row := rowsLAYA ++ rowsLAYB

/-- Register rows of GLR, part 1. -/
def rowsGLRA : List Row := [
  ⟨0x40, 1, 3, 0, .rw, 2, .warm⟩,
  ⟨0x44, 1, 0, 0, .rwc, 0, .warm⟩,
  ⟨0x44, 1, 1, 1, .rwc, 1, .warm⟩,
  ⟨0x48, 1, 0, 0, .wo, 0, .block⟩,
  ⟨0x48, 1, 1, 1, .wo, 0, .block⟩,
  ⟨0x4C, 1, 1, 0, .ro, 0, .warm⟩,
  ⟨0x4C, 1, 3, 2, .ro, 0, .warm⟩,
  ⟨0x4C, 1, 7, 4, .ro, 0, .warm⟩,
  ⟨0x50, 1, 4, 0, .rwc, 0x15, .warm⟩,
  ⟨0x54, 1, 16, 0, .rwc, 0x14000, .warm⟩,
  ⟨0x58, 1, 19, 0, .rwc, 0, .warm⟩,
  ⟨0x5C, 1, 6, 0, .rwc, 0x64, .warm⟩,
  ⟨0x60, 1, 9, 0, .rwc, 0xD, .warm⟩,
  ⟨0x64, 1, 9, 0, .rwc, 0x1A, .warm⟩,
  ⟨0x68, 1, 9, 0, .rwc, 0x33, .warm⟩,
  ⟨0x6C, 1, 9, 0, .rwc, 0x80, .warm⟩,
  ⟨0x60, 1, 19, 10, .rwc, 0x80, .warm⟩,
  ⟨0x64, 1, 19, 10, .rwc, 0x100, .warm⟩,
  ⟨0x68, 1, 19, 10, .rwc, 0x180, .warm⟩,
  ⟨0x6C, 1, 19, 10, .rwc, 0x300, .warm⟩,
  ⟨0x60, 1, 31, 20, .rwc, 0x10, .warm⟩,
  ⟨0x64, 1, 31, 20, .rwc, 0x20, .warm⟩,
  ⟨0x68, 1, 31, 20, .rwc, 0x40, .warm⟩,
  ⟨0x6C, 1, 31, 20, .rwc, 0x80, .warm⟩,
  ⟨0x70, 1, 10, 0, .rwc, 0, .warm⟩,
  ⟨0x70, 1, 26, 16, .rwc, 0, .warm⟩,
  ⟨0x74, 1, 15, 0, .rwc, 0xFFFF, .warm⟩,
  ⟨0x78, 1, 15, 0, .rwc, 0xFF00, .warm⟩,
  ⟨0x78, 1, 31, 16, .rwc, 0x100, .warm⟩,
  ⟨0x7C, 1, 0, 0, .ro, 0, .live⟩]
/-- Register rows of GLR, part 2. -/
def rowsGLRB : List Row := [
  ⟨0x7C, 1, 1, 1, .ro, 0, .live⟩,
  ⟨0x7C, 1, 2, 2, .ro, 0, .live⟩,
  ⟨0x7C, 1, 3, 3, .ro, 0, .live⟩,
  ⟨0x7C, 1, 4, 4, .ro, 0, .live⟩,
  ⟨0x7C, 1, 5, 5, .ro, 0, .live⟩,
  ⟨0x7C, 1, 6, 6, .ro, 0, .live⟩,
  ⟨0x7C, 1, 24, 16, .ro, 0, .live⟩,
  ⟨0x80, 1, 23, 0, .ro, 0, .live⟩,
  ⟨0x84, 1, 31, 0, .ro, 0, .warm⟩,
  ⟨0x88, 1, 31, 0, .ro, 0, .warm⟩,
  ⟨0x8C, 1, 0, 0, .w1c, 0, .warm⟩,
  ⟨0x8C, 1, 1, 1, .w1c, 0, .warm⟩,
  ⟨0x8C, 1, 2, 2, .w1c, 0, .warm⟩,
  ⟨0x8C, 1, 3, 3, .w1c, 0, .warm⟩,
  ⟨0x8C, 1, 4, 4, .w1c, 0, .warm⟩,
  ⟨0x8C, 1, 5, 5, .w1c, 0, .warm⟩,
  ⟨0x8C, 1, 6, 6, .w1c, 0, .warm⟩,
  ⟨0x8C, 1, 7, 7, .w1c, 0, .warm⟩,
  ⟨0x8C, 1, 8, 8, .w1c, 0, .warm⟩,
  ⟨0x90, 1, 15, 0, .ro, 0, .warm⟩,
  ⟨0x90, 1, 31, 16, .ro, 0, .warm⟩,
  ⟨0x94, 1, 15, 0, .ro, 0, .warm⟩,
  ⟨0x94, 1, 31, 16, .ro, 0, .warm⟩]

/-- All register rows of GLR. -/
def rowsGLR : List Row := rowsGLRA ++ rowsGLRB

/-- Register rows of BE. -/
def rowsBE : List Row := [
  ⟨0x40, 1, 15, 0, .rwc, 0, .warm⟩,
  ⟨0x40, 1, 31, 16, .rwc, 0, .warm⟩,
  ⟨0x44, 1, 15, 0, .rwc, 0x400, .warm⟩,
  ⟨0x44, 1, 31, 16, .rwc, 0x400, .warm⟩,
  ⟨0x48, 1, 0, 0, .ro, 0, .live⟩,
  ⟨0x48, 1, 1, 1, .ro, 0, .block⟩,
  ⟨0x48, 1, 5, 2, .ro, 0, .live⟩,
  ⟨0x48, 1, 11, 8, .ro, 0, .block⟩,
  ⟨0x4C, 1, 15, 0, .ro, 0, .block⟩,
  ⟨0x4C, 1, 31, 16, .ro, 0, .block⟩,
  ⟨0x50, 1, 0, 0, .w1c, 0, .warm⟩,
  ⟨0x50, 1, 1, 1, .w1c, 0, .warm⟩,
  ⟨0x50, 1, 2, 2, .w1c, 0, .warm⟩,
  ⟨0x50, 1, 3, 3, .w1c, 0, .warm⟩,
  ⟨0x54, 1, 15, 0, .ro, 0, .warm⟩,
  ⟨0x54, 1, 31, 16, .ro, 0, .warm⟩]

/-- Register rows of GOV, part 1. -/
def rowsGOVA : List Row := [
  ⟨0x40, 1, 1, 0, .rw, 2, .warm⟩,
  ⟨0x44, 1, 1, 0, .ro, 0, .warm⟩,
  ⟨0x44, 1, 7, 4, .ro, 0, .warm⟩,
  ⟨0x44, 1, 8, 8, .ro, 0, .live⟩,
  ⟨0x48, 1, 0, 0, .ro, 0, .warm⟩,
  ⟨0x48, 1, 1, 1, .ro, 0, .warm⟩,
  ⟨0x48, 1, 2, 2, .ro, 0, .warm⟩,
  ⟨0x48, 1, 3, 3, .ro, 0, .live⟩,
  ⟨0x4C, 1, 0, 0, .w1c, 0, .warm⟩,
  ⟨0x4C, 1, 1, 1, .w1c, 0, .cold⟩,
  ⟨0x4C, 1, 2, 2, .w1c, 0, .cold⟩,
  ⟨0x4C, 1, 3, 3, .w1c, 0, .cold⟩,
  ⟨0x4C, 1, 4, 4, .w1c, 0, .warm⟩,
  ⟨0x4C, 1, 5, 5, .w1c, 0, .warm⟩,
  ⟨0x50, 1, 15, 0, .ro, 0, .warm⟩,
  ⟨0x50, 1, 31, 16, .ro, 0, .warm⟩,
  ⟨0x54, 1, 15, 0, .ro, 0, .warm⟩,
  ⟨0x58, 1, 31, 0, .ro, 0, .warm⟩,
  ⟨0x5C, 1, 23, 0, .ro, 0, .live⟩,
  ⟨0x60, 4, 31, 0, .ro, 0, .warm⟩,
  ⟨0x70, 8, 31, 0, .ro, 0, .warm⟩,
  ⟨0x90, 1, 7, 0, .ro, 0, .live⟩,
  ⟨0x90, 1, 15, 8, .ro, 0, .warm⟩,
  ⟨0x90, 1, 16, 16, .ro, 0, .live⟩,
  ⟨0x94, 1, 0, 0, .ro, 0, .warm⟩,
  ⟨0x94, 1, 3, 1, .ro, 0, .warm⟩,
  ⟨0x94, 1, 6, 4, .ro, 0, .warm⟩,
  ⟨0x94, 1, 7, 7, .ro, 0, .warm⟩,
  ⟨0x94, 1, 11, 8, .ro, 0, .warm⟩,
  ⟨0x98, 1, 1, 0, .ro, 0, .warm⟩]
/-- Register rows of GOV, part 2. -/
def rowsGOVB : List Row := [
  ⟨0x98, 1, 15, 8, .ro, 0, .warm⟩,
  ⟨0x98, 1, 24, 16, .ro, 0, .warm⟩,
  ⟨0x9C, 1, 15, 0, .ro, 0xFFFF, .warm⟩,
  ⟨0x9C, 1, 31, 31, .ro, 0, .warm⟩,
  ⟨0xA0, 8, 31, 0, .ro, 0, .warm⟩,
  ⟨0xC0, 8, 31, 0, .ro, 0, .warm⟩,
  ⟨0xE0, 8, 31, 0, .ro, 0, .warm⟩,
  ⟨0x400, 256, 31, 0, .ro, 0, .warm⟩,
  ⟨0x800, 256, 16, 0, .ro, 0x10000, .warm⟩]

/-- All register rows of GOV. -/
def rowsGOV : List Row := rowsGOVA ++ rowsGOVB

/-- Register rows of CAL, part 1. -/
def rowsCALA : List Row := [
  ⟨0x40, 1, 0, 0, .rw, 1, .warm⟩,
  ⟨0x40, 1, 1, 1, .rw, 1, .warm⟩,
  ⟨0x40, 1, 15, 8, .rw, 0x30, .warm⟩,
  ⟨0x40, 1, 23, 16, .rw, 0xA, .warm⟩,
  ⟨0x44, 1, 7, 0, .rwc, 0xFF, .warm⟩,
  ⟨0x48, 1, 7, 0, .wo, 0, .block⟩,
  ⟨0x48, 1, 8, 8, .wo, 0, .block⟩,
  ⟨0x4C, 1, 31, 0, .ro, 0, .warm⟩,
  ⟨0x50, 1, 0, 0, .ro, 0, .live⟩,
  ⟨0x50, 1, 1, 1, .ro, 0, .live⟩,
  ⟨0x50, 1, 2, 2, .ro, 0, .live⟩,
  ⟨0x50, 1, 10, 8, .ro, 0, .live⟩,
  ⟨0x50, 1, 23, 16, .ro, 0, .live⟩,
  ⟨0x54, 1, 0, 0, .w1c, 0, .warm⟩,
  ⟨0x54, 1, 1, 1, .w1c, 0, .warm⟩,
  ⟨0x54, 1, 2, 2, .w1c, 0, .warm⟩,
  ⟨0x54, 1, 3, 3, .w1c, 0, .warm⟩,
  ⟨0x54, 1, 4, 4, .w1c, 0, .warm⟩,
  ⟨0x54, 1, 5, 5, .w1c, 0, .warm⟩,
  ⟨0x54, 1, 6, 6, .w1c, 0, .warm⟩,
  ⟨0x54, 1, 7, 7, .w1c, 0, .warm⟩,
  ⟨0x54, 1, 8, 8, .w1c, 0, .warm⟩,
  ⟨0x54, 1, 9, 9, .w1c, 0, .warm⟩,
  ⟨0x54, 1, 10, 10, .w1c, 0, .warm⟩,
  ⟨0x58, 1, 15, 0, .ro, 0, .warm⟩,
  ⟨0x58, 1, 31, 16, .ro, 0, .warm⟩,
  ⟨0x5C, 1, 15, 0, .ro, 0, .warm⟩,
  ⟨0x5C, 1, 23, 16, .ro, 0, .warm⟩,
  ⟨0x60, 8, 15, 0, .ro, 0, .warm⟩,
  ⟨0x60, 8, 16, 16, .ro, 0, .warm⟩]
/-- Register rows of CAL, part 2. -/
def rowsCALB : List Row := [
  ⟨0x60, 8, 19, 17, .ro, 0, .warm⟩,
  ⟨0x60, 8, 20, 20, .ro, 0, .live⟩,
  ⟨0x60, 8, 21, 21, .ro, 0, .live⟩,
  ⟨0x80, 4, 15, 0, .ro, 0x8000, .warm⟩,
  ⟨0x80, 4, 31, 16, .ro, 0, .warm⟩]

/-- All register rows of CAL. -/
def rowsCAL : List Row := rowsCALA ++ rowsCALB

/-- Register rows of FLX. -/
def rowsFLX : List Row := [
  ⟨0x40, 1, 7, 0, .rw, 0, .warm⟩,
  ⟨0x40, 1, 15, 8, .rw, 0xA4, .warm⟩,
  ⟨0x40, 1, 31, 16, .rw, 0x4E20, .warm⟩,
  ⟨0x44, 1, 15, 0, .rwc, 0x6666, .warm⟩,
  ⟨0x44, 1, 31, 16, .rwc, 0xA000, .warm⟩,
  ⟨0x48, 1, 11, 0, .rw, 0xC8, .warm⟩,
  ⟨0x48, 1, 23, 16, .rw, 0x20, .warm⟩,
  ⟨0x4C, 1, 7, 0, .w1c, 0, .warm⟩,
  ⟨0x4C, 1, 15, 8, .w1c, 0, .warm⟩,
  ⟨0x60, 8, 23, 0, .rw, 0x800000, .warm⟩,
  ⟨0x80, 8, 11, 0, .rw, 0, .warm⟩,
  ⟨0xA0, 8, 15, 0, .ro, 0, .block⟩,
  ⟨0xA0, 8, 18, 16, .ro, 0, .live⟩,
  ⟨0xA0, 8, 23, 20, .ro, 0, .live⟩,
  ⟨0xC0, 8, 11, 0, .ro, 0, .block⟩,
  ⟨0xC0, 8, 27, 16, .ro, 0, .block⟩]

/-- Register rows of TLN, part 1. -/
def rowsTLNA : List Row := [
  ⟨0x40, 1, 0, 0, .rw, 1, .warm⟩,
  ⟨0x40, 1, 1, 1, .rw, 1, .warm⟩,
  ⟨0x44, 1, 0, 0, .rwc, 0, .warm⟩,
  ⟨0x44, 1, 1, 1, .rwc, 0, .warm⟩,
  ⟨0x44, 1, 4, 2, .rwc, 1, .warm⟩,
  ⟨0x44, 1, 5, 5, .rwc, 1, .warm⟩,
  ⟨0x48, 1, 31, 0, .rwc, 0, .warm⟩,
  ⟨0x4C, 1, 15, 0, .rw, 0x7D0, .warm⟩,
  ⟨0x4C, 1, 19, 16, .rw, 4, .warm⟩,
  ⟨0x50, 1, 1, 0, .ro, 0, .live⟩,
  ⟨0x50, 1, 2, 2, .ro, 0, .live⟩,
  ⟨0x50, 1, 3, 3, .ro, 0, .live⟩,
  ⟨0x50, 1, 4, 4, .ro, 0, .live⟩,
  ⟨0x50, 1, 5, 5, .ro, 0, .live⟩,
  ⟨0x50, 1, 6, 6, .ro, 0, .live⟩,
  ⟨0x50, 1, 15, 8, .ro, 0, .live⟩,
  ⟨0x50, 1, 23, 16, .ro, 0, .live⟩,
  ⟨0x50, 1, 31, 24, .ro, 0, .live⟩,
  ⟨0x54, 1, 31, 0, .ro, 0, .block⟩,
  ⟨0x58, 1, 31, 0, .ro, 0, .block⟩,
  ⟨0x5C, 1, 31, 0, .ro, 0, .block⟩,
  ⟨0x60, 1, 15, 0, .rwc, 0x730, .warm⟩,
  ⟨0x60, 1, 23, 16, .rwc, 0xA, .warm⟩,
  ⟨0x60, 1, 31, 24, .rwc, 5, .warm⟩,
  ⟨0x64, 1, 2, 0, .rwc, 0, .warm⟩,
  ⟨0x64, 1, 6, 4, .rwc, 0, .warm⟩,
  ⟨0x64, 1, 10, 8, .rwc, 0, .warm⟩,
  ⟨0x64, 1, 14, 12, .rwc, 0, .warm⟩,
  ⟨0x64, 1, 18, 16, .rwc, 0, .warm⟩,
  ⟨0x64, 1, 22, 20, .rwc, 0, .warm⟩]
/-- Register rows of TLN, part 2. -/
def rowsTLNB : List Row := [
  ⟨0x64, 1, 26, 24, .rwc, 0, .warm⟩,
  ⟨0x64, 1, 30, 28, .rwc, 0, .warm⟩,
  ⟨0x64, 1, 3, 3, .rwc, 0, .warm⟩,
  ⟨0x64, 1, 7, 7, .rwc, 0, .warm⟩,
  ⟨0x64, 1, 11, 11, .rwc, 0, .warm⟩,
  ⟨0x64, 1, 15, 15, .rwc, 0, .warm⟩,
  ⟨0x64, 1, 19, 19, .rwc, 0, .warm⟩,
  ⟨0x64, 1, 23, 23, .rwc, 0, .warm⟩,
  ⟨0x64, 1, 27, 27, .rwc, 0, .warm⟩,
  ⟨0x64, 1, 31, 31, .rwc, 0, .warm⟩,
  ⟨0x68, 1, 7, 0, .rwc, 0, .warm⟩,
  ⟨0x6C, 1, 0, 0, .w1c, 0, .warm⟩,
  ⟨0x6C, 1, 1, 1, .w1c, 0, .warm⟩,
  ⟨0x6C, 1, 2, 2, .w1c, 0, .warm⟩,
  ⟨0x6C, 1, 3, 3, .w1c, 0, .warm⟩,
  ⟨0x6C, 1, 4, 4, .w1c, 0, .warm⟩,
  ⟨0x6C, 1, 5, 5, .w1c, 0, .warm⟩,
  ⟨0x6C, 1, 6, 6, .w1c, 0, .warm⟩,
  ⟨0x6C, 1, 7, 7, .w1c, 0, .warm⟩,
  ⟨0x6C, 1, 8, 8, .w1c, 0, .warm⟩,
  ⟨0x6C, 1, 9, 9, .w1c, 0, .warm⟩,
  ⟨0x70, 1, 15, 0, .ro, 0, .warm⟩,
  ⟨0x70, 1, 31, 16, .ro, 0, .warm⟩]

/-- All register rows of TLN. -/
def rowsTLN : List Row := rowsTLNA ++ rowsTLNB

/-- Register rows of TL, part 1. -/
def rowsTLA : List Row := [
  ⟨0x40, 1, 0, 0, .rw, 0, .warm⟩,
  ⟨0x40, 1, 11, 8, .rw, 3, .warm⟩,
  ⟨0x44, 1, 3, 0, .ro, 0, .live⟩,
  ⟨0x44, 1, 4, 4, .ro, 0, .live⟩,
  ⟨0x44, 1, 5, 5, .ro, 0, .live⟩,
  ⟨0x44, 1, 6, 6, .ro, 0, .live⟩,
  ⟨0x44, 1, 7, 7, .ro, 0, .live⟩,
  ⟨0x44, 1, 8, 8, .ro, 0, .live⟩,
  ⟨0x44, 1, 9, 9, .ro, 0, .live⟩,
  ⟨0x48, 1, 0, 0, .w1c, 0, .warm⟩,
  ⟨0x48, 1, 1, 1, .w1c, 0, .warm⟩,
  ⟨0x48, 1, 2, 2, .w1c, 0, .warm⟩,
  ⟨0x48, 1, 3, 3, .w1c, 0, .warm⟩,
  ⟨0x48, 1, 4, 4, .w1c, 0, .warm⟩,
  ⟨0x48, 1, 5, 5, .w1c, 0, .warm⟩,
  ⟨0x48, 1, 6, 6, .w1c, 0, .warm⟩,
  ⟨0x48, 1, 7, 7, .w1c, 0, .warm⟩,
  ⟨0x48, 1, 8, 8, .w1c, 0, .warm⟩,
  ⟨0x48, 1, 9, 9, .w1c, 0, .warm⟩,
  ⟨0x48, 1, 10, 10, .w1c, 0, .warm⟩,
  ⟨0x48, 1, 11, 11, .w1c, 0, .warm⟩,
  ⟨0x48, 1, 12, 12, .w1c, 0, .warm⟩,
  ⟨0x48, 1, 13, 13, .w1c, 0, .warm⟩,
  ⟨0x4C, 2, 31, 0, .ro, 0, .warm⟩,
  ⟨0x54, 1, 15, 0, .ro, 0, .warm⟩,
  ⟨0x54, 1, 31, 16, .ro, 0, .warm⟩,
  ⟨0x58, 1, 15, 0, .ro, 0, .block⟩,
  ⟨0x58, 1, 31, 16, .ro, 0, .block⟩,
  ⟨0x5C, 1, 15, 0, .ro, 0, .block⟩,
  ⟨0x60, 1, 15, 0, .ro, 0, .warm⟩]
/-- Register rows of TL, part 2. -/
def rowsTLB : List Row := [
  ⟨0x60, 1, 31, 16, .ro, 0, .warm⟩,
  ⟨0x64, 1, 15, 0, .ro, 0, .warm⟩,
  ⟨0x64, 1, 31, 16, .ro, 0, .warm⟩]

/-- All register rows of TL. -/
def rowsTL : List Row := rowsTLA ++ rowsTLB

/-- Register rows of SEG, part 1. -/
def rowsSEGA : List Row := [
  ⟨0x40, 1, 0, 0, .rw, 1, .warm⟩,
  ⟨0x40, 1, 3, 2, .rw, 2, .warm⟩,
  ⟨0x40, 1, 15, 8, .rw, 8, .warm⟩,
  ⟨0x44, 1, 15, 0, .rwc, 0x7D0, .warm⟩,
  ⟨0x48, 1, 3, 0, .rwc, 0, .warm⟩,
  ⟨0x48, 1, 7, 4, .rwc, 1, .warm⟩,
  ⟨0x48, 1, 15, 8, .rwc, 8, .warm⟩,
  ⟨0x48, 1, 23, 16, .rwc, 0x14, .warm⟩,
  ⟨0x4C, 1, 15, 0, .rwc, 0x64, .warm⟩,
  ⟨0x50, 2, 31, 0, .rwc, 0, .warm⟩,
  ⟨0x58, 1, 0, 0, .ro, 0, .live⟩,
  ⟨0x58, 1, 1, 1, .ro, 0, .live⟩,
  ⟨0x58, 1, 2, 2, .ro, 0, .live⟩,
  ⟨0x58, 1, 15, 8, .ro, 0, .block⟩,
  ⟨0x58, 1, 21, 16, .ro, 0, .live⟩,
  ⟨0x5C, 2, 31, 0, .ro, 0, .block⟩,
  ⟨0x64, 1, 0, 0, .w1c, 0, .warm⟩,
  ⟨0x64, 1, 1, 1, .w1c, 0, .warm⟩,
  ⟨0x64, 1, 2, 2, .w1c, 0, .warm⟩,
  ⟨0x64, 1, 3, 3, .w1c, 0, .warm⟩,
  ⟨0x64, 1, 4, 4, .w1c, 0, .warm⟩,
  ⟨0x64, 1, 5, 5, .w1c, 0, .warm⟩,
  ⟨0x64, 1, 6, 6, .w1c, 0, .warm⟩,
  ⟨0x64, 1, 7, 7, .w1c, 0, .warm⟩,
  ⟨0x64, 1, 8, 8, .w1c, 0, .warm⟩,
  ⟨0x64, 1, 9, 9, .w1c, 0, .warm⟩,
  ⟨0x64, 1, 10, 10, .w1c, 0, .warm⟩,
  ⟨0x68, 1, 15, 0, .ro, 0, .warm⟩,
  ⟨0x68, 1, 31, 16, .ro, 0, .warm⟩,
  ⟨0x6C, 1, 31, 0, .ro, 0, .warm⟩]
/-- Register rows of SEG, part 2. -/
def rowsSEGB : List Row := [
  ⟨0x70, 1, 31, 0, .ro, 0, .warm⟩,
  ⟨0x74, 1, 3, 0, .ro, 0, .warm⟩,
  ⟨0x104, 63, 15, 0, .ro, 0, .block⟩,
  ⟨0x104, 63, 19, 16, .ro, 0, .warm⟩,
  ⟨0x104, 63, 20, 20, .ro, 0, .warm⟩,
  ⟨0x104, 63, 21, 21, .ro, 0, .live⟩,
  ⟨0x104, 63, 22, 22, .ro, 0, .block⟩,
  ⟨0x104, 63, 23, 23, .ro, 0, .live⟩,
  ⟨0x400, 256, 15, 0, .rwc, 0, .warm⟩,
  ⟨0x400, 256, 19, 16, .rwc, 0, .warm⟩,
  ⟨0x400, 256, 25, 20, .rwc, 0, .warm⟩,
  ⟨0x400, 256, 28, 26, .rwc, 0, .warm⟩,
  ⟨0x400, 256, 31, 29, .rwc, 0, .warm⟩,
  ⟨0x800, 256, 2, 0, .ro, 0, .warm⟩,
  ⟨0x800, 256, 7, 3, .ro, 0, .block⟩,
  ⟨0x800, 256, 23, 8, .ro, 0, .block⟩]

/-- All register rows of SEG. -/
def rowsSEG : List Row := rowsSEGA ++ rowsSEGB

/-- Register rows of SAF, part 1. -/
def rowsSAFA : List Row := [
  ⟨0x40, 1, 2, 0, .ro, 0, .live⟩,
  ⟨0x40, 1, 3, 3, .ro, 0, .live⟩,
  ⟨0x40, 1, 4, 4, .ro, 0, .live⟩,
  ⟨0x40, 1, 5, 5, .ro, 0, .cold⟩,
  ⟨0x40, 1, 11, 8, .ro, 0, .live⟩,
  ⟨0x40, 1, 13, 12, .ro, 0, .live⟩,
  ⟨0x40, 1, 15, 14, .ro, 0, .live⟩,
  ⟨0x44, 1, 7, 0, .ro, 0, .cold⟩,
  ⟨0x44, 1, 15, 8, .ro, 0, .cold⟩,
  ⟨0x44, 1, 23, 16, .ro, 0, .cold⟩,
  ⟨0x48, 1, 31, 0, .ro, 0, .cold⟩,
  ⟨0x4C, 1, 0, 0, .rw, 0, .block⟩,
  ⟨0x50, 1, 0, 0, .wo, 0, .block⟩,
  ⟨0x50, 1, 15, 8, .wo, 0, .block⟩,
  ⟨0x50, 1, 23, 16, .wo, 0, .block⟩,
  ⟨0x54, 1, 0, 0, .wo, 0, .block⟩,
  ⟨0x54, 1, 11, 8, .rw, 0, .warm⟩,
  ⟨0x58, 1, 7, 0, .wo, 0, .block⟩,
  ⟨0x58, 1, 8, 8, .ro, 0, .warm⟩,
  ⟨0x60, 4, 0, 0, .rwc, 0, .warm⟩,
  ⟨0x60, 4, 1, 1, .rwc, 0, .warm⟩,
  ⟨0x60, 4, 2, 2, .rwc, 0, .warm⟩,
  ⟨0x60, 4, 20, 8, .rwc, 0x12C, .warm⟩,
  ⟨0x60, 4, 31, 24, .rwc, 0x32, .warm⟩,
  ⟨0x70, 1, 5, 0, .rwc, 0x10, .warm⟩,
  ⟨0x70, 1, 15, 8, .rwc, 0x14, .warm⟩,
  ⟨0x74, 2, 0, 0, .rwc, 0, .warm⟩,
  ⟨0x74, 2, 15, 8, .rwc, 0, .warm⟩,
  ⟨0x74, 2, 21, 16, .rwc, 0x14, .warm⟩,
  ⟨0x74, 2, 27, 24, .rwc, 5, .warm⟩]
/-- Register rows of SAF, part 2. -/
def rowsSAFB : List Row := [
  ⟨0x7C, 1, 7, 0, .rwc, 0x32, .warm⟩,
  ⟨0x7C, 1, 15, 8, .rwc, 5, .warm⟩,
  ⟨0x80, 1, 1, 0, .rw, 0, .block⟩,
  ⟨0x84, 4, 2, 0, .ro, 0, .live⟩,
  ⟨0x84, 4, 3, 3, .ro, 0, .live⟩,
  ⟨0x84, 4, 4, 4, .ro, 0, .live⟩,
  ⟨0x84, 4, 7, 5, .ro, 0, .warm⟩,
  ⟨0x84, 4, 9, 8, .ro, 0, .warm⟩,
  ⟨0x84, 4, 31, 16, .ro, 0, .cold⟩,
  ⟨0x94, 2, 1, 0, .ro, 0, .live⟩,
  ⟨0x94, 2, 2, 2, .ro, 0, .live⟩,
  ⟨0x94, 2, 4, 3, .ro, 0, .warm⟩,
  ⟨0x94, 2, 31, 16, .ro, 0, .warm⟩,
  ⟨0x9C, 1, 0, 0, .w1c, 0, .warm⟩,
  ⟨0x9C, 1, 1, 1, .w1c, 0, .warm⟩,
  ⟨0x9C, 1, 2, 2, .w1c, 0, .warm⟩,
  ⟨0x9C, 1, 3, 3, .w1c, 0, .warm⟩,
  ⟨0x9C, 1, 4, 4, .w1c, 0, .warm⟩,
  ⟨0x9C, 1, 5, 5, .w1c, 0, .warm⟩,
  ⟨0x9C, 1, 6, 6, .w1c, 0, .warm⟩,
  ⟨0x9C, 1, 7, 7, .w1c, 0, .cold⟩,
  ⟨0x9C, 1, 8, 8, .w1c, 0, .cold⟩,
  ⟨0x9C, 1, 9, 9, .w1c, 0, .warm⟩,
  ⟨0xA0, 1, 15, 0, .ro, 0, .cold⟩,
  ⟨0xA0, 1, 31, 16, .ro, 0, .cold⟩,
  ⟨0xA4, 1, 3, 0, .ro, 0, .warm⟩]

/-- All register rows of SAF. -/
def rowsSAF : List Row := rowsSAFA ++ rowsSAFB

/-- Register rows of FLT, part 1. -/
def rowsFLTA : List Row := [
  ⟨0x40, 1, 0, 0, .rwc, 0, .warm⟩,
  ⟨0x40, 1, 5, 4, .rwc, 2, .warm⟩,
  ⟨0x44, 1, 7, 0, .ro, 0, .live⟩,
  ⟨0x44, 1, 9, 8, .ro, 0, .live⟩,
  ⟨0x44, 1, 10, 10, .ro, 0, .live⟩,
  ⟨0x44, 1, 11, 11, .ro, 0, .live⟩,
  ⟨0x44, 1, 12, 12, .ro, 0, .live⟩,
  ⟨0x44, 1, 31, 16, .ro, 0, .live⟩,
  ⟨0x48, 3, 31, 0, .w1c, 0, .cold⟩,
  ⟨0x54, 3, 31, 0, .w1c, 0, .cold⟩,
  ⟨0x60, 6, 31, 0, .ro, 0, .cold⟩,
  ⟨0x78, 1, 31, 0, .rwc, 0x59B5A99F, .warm⟩,
  ⟨0x7C, 1, 31, 0, .rwc, 0xA7A6D5FA, .warm⟩,
  ⟨0x80, 1, 31, 0, .rwc, 0x565566DF, .warm⟩,
  ⟨0x84, 1, 31, 0, .rwc, 0xFAAA5FFA, .warm⟩,
  ⟨0x88, 1, 31, 0, .rwc, 0x1AA67F, .warm⟩,
  ⟨0x8C, 1, 31, 0, .rwc, 0x0, .warm⟩,
  ⟨0x90, 1, 6, 0, .rw, 0, .warm⟩,
  ⟨0x90, 1, 8, 8, .rw, 0, .warm⟩,
  ⟨0x90, 1, 10, 9, .ro, 0, .warm⟩,
  ⟨0x90, 1, 14, 12, .ro, 0, .warm⟩,
  ⟨0x94, 1, 3, 0, .ro, 0, .cold⟩,
  ⟨0x94, 1, 31, 16, .ro, 0, .cold⟩,
  ⟨0x98, 1, 0, 0, .w1c, 0, .cold⟩,
  ⟨0x98, 1, 1, 1, .w1c, 0, .cold⟩,
  ⟨0x98, 1, 2, 2, .w1c, 0, .cold⟩,
  ⟨0x98, 1, 3, 3, .w1c, 0, .cold⟩,
  ⟨0x98, 1, 4, 4, .w1c, 0, .cold⟩,
  ⟨0x98, 1, 5, 5, .w1c, 0, .cold⟩,
  ⟨0x98, 1, 6, 6, .w1c, 0, .cold⟩]
/-- Register rows of FLT, part 2. -/
def rowsFLTB : List Row := [
  ⟨0x98, 1, 7, 7, .w1c, 0, .cold⟩,
  ⟨0x98, 1, 8, 8, .w1c, 0, .cold⟩,
  ⟨0x98, 1, 9, 9, .w1c, 0, .cold⟩,
  ⟨0x9C, 1, 0, 0, .w1c, 0, .warm⟩,
  ⟨0x9C, 1, 1, 1, .w1c, 0, .warm⟩,
  ⟨0x9C, 1, 2, 2, .w1c, 0, .warm⟩,
  ⟨0x9C, 1, 3, 3, .w1c, 0, .warm⟩,
  ⟨0x9C, 1, 4, 4, .w1c, 0, .warm⟩,
  ⟨0xA0, 1, 15, 0, .ro, 0, .cold⟩,
  ⟨0xA0, 1, 31, 16, .ro, 0, .cold⟩,
  ⟨0xC0, 16, 15, 0, .ro, 0, .cold⟩,
  ⟨0xC0, 16, 17, 16, .ro, 0, .cold⟩,
  ⟨0xC0, 16, 18, 18, .ro, 0, .cold⟩,
  ⟨0xC0, 16, 19, 19, .ro, 0, .cold⟩,
  ⟨0xC0, 16, 20, 20, .ro, 0, .cold⟩,
  ⟨0xC0, 16, 31, 24, .ro, 0, .cold⟩]

/-- All register rows of FLT. -/
def rowsFLT : List Row := rowsFLTA ++ rowsFLTB

/-- Register rows of EVR. -/
def rowsEVR : List Row := [
  ⟨0x40, 1, 0, 0, .rw, 1, .warm⟩,
  ⟨0x40, 1, 1, 1, .rw, 1, .warm⟩,
  ⟨0x40, 1, 3, 2, .rw, 0, .warm⟩,
  ⟨0x40, 1, 31, 16, .rw, 0x3E8, .warm⟩,
  ⟨0x44, 2, 31, 0, .ro, 0, .cold⟩,
  ⟨0x4C, 2, 31, 0, .ro, 0, .cold⟩,
  ⟨0x54, 2, 31, 0, .ro, 0, .cold⟩,
  ⟨0x5C, 1, 31, 0, .rwc, 0, .warm⟩,
  ⟨0x60, 1, 15, 0, .rwc, 0, .warm⟩,
  ⟨0x60, 1, 31, 16, .rwc, 0, .warm⟩,
  ⟨0x64, 2, 31, 0, .ro, 0, .cold⟩,
  ⟨0x6C, 1, 31, 0, .rw, 0, .warm⟩,
  ⟨0x70, 1, 1, 0, .ro, 0, .warm⟩,
  ⟨0x74, 1, 15, 0, .ro, 0, .cold⟩,
  ⟨0x74, 1, 31, 16, .ro, 0, .cold⟩,
  ⟨0x78, 1, 0, 0, .w1c, 0, .warm⟩,
  ⟨0x78, 1, 1, 1, .w1c, 0, .warm⟩,
  ⟨0x78, 1, 2, 2, .w1c, 0, .warm⟩,
  ⟨0x78, 1, 3, 3, .w1c, 0, .warm⟩,
  ⟨0x78, 1, 4, 4, .w1c, 0, .warm⟩,
  ⟨0x78, 1, 5, 5, .w1c, 0, .warm⟩,
  ⟨0x80, 8, 31, 0, .ro, 0, .warm⟩]

/-- Register rows of THM, part 1. -/
def rowsTHMA : List Row := [
  ⟨0x40, 1, 5, 0, .rw, 8, .warm⟩,
  ⟨0x44, 1, 7, 0, .rwc, 0x87, .warm⟩,
  ⟨0x44, 1, 15, 8, .rwc, 0x91, .warm⟩,
  ⟨0x44, 1, 19, 16, .rwc, 5, .warm⟩,
  ⟨0x44, 1, 23, 20, .rwc, 0xA, .warm⟩,
  ⟨0x44, 1, 31, 24, .rwc, 0x40, .warm⟩,
  ⟨0x48, 1, 1, 0, .ro, 0, .live⟩,
  ⟨0x48, 1, 2, 2, .ro, 0, .live⟩,
  ⟨0x48, 1, 3, 3, .ro, 0, .live⟩,
  ⟨0x48, 1, 4, 4, .ro, 0, .live⟩,
  ⟨0x48, 1, 5, 5, .ro, 1, .live⟩,
  ⟨0x48, 1, 7, 6, .ro, 0, .live⟩,
  ⟨0x48, 1, 11, 8, .ro, 0, .live⟩,
  ⟨0x48, 1, 12, 12, .ro, 0, .live⟩,
  ⟨0x4C, 4, 15, 0, .ro, 0, .block⟩,
  ⟨0x4C, 4, 27, 16, .ro, 0, .block⟩,
  ⟨0x4C, 4, 28, 28, .ro, 0, .live⟩,
  ⟨0x5C, 1, 15, 0, .ro, 0, .block⟩,
  ⟨0x5C, 1, 31, 16, .ro, 0, .block⟩,
  ⟨0x60, 1, 15, 0, .ro, 0, .block⟩,
  ⟨0x60, 1, 31, 16, .ro, 0, .block⟩,
  ⟨0x64, 1, 0, 0, .w1c, 0, .warm⟩,
  ⟨0x64, 1, 1, 1, .w1c, 0, .warm⟩,
  ⟨0x64, 1, 2, 2, .w1c, 0, .warm⟩,
  ⟨0x64, 1, 3, 3, .w1c, 0, .warm⟩,
  ⟨0x64, 1, 4, 4, .w1c, 0, .warm⟩,
  ⟨0x64, 1, 5, 5, .w1c, 0, .warm⟩,
  ⟨0x64, 1, 6, 6, .w1c, 0, .warm⟩,
  ⟨0x64, 1, 7, 7, .w1c, 0, .warm⟩,
  ⟨0x64, 1, 8, 8, .w1c, 0, .warm⟩]
/-- Register rows of THM, part 2. -/
def rowsTHMB : List Row := [
  ⟨0x68, 1, 15, 0, .ro, 0, .cold⟩,
  ⟨0x68, 1, 31, 16, .ro, 0, .cold⟩,
  ⟨0x6C, 1, 31, 0, .ro, 0, .warm⟩,
  ⟨0x80, 20, 11, 0, .ro, 0, .block⟩]

/-- All register rows of THM. -/
def rowsTHM : List Row := rowsTHMA ++ rowsTHMB

/-- Register rows of PWR, part 1. -/
def rowsPWRA : List Row := [
  ⟨0x40, 1, 2, 0, .wo, 0, .block⟩,
  ⟨0x40, 1, 15, 8, .wo, 0, .block⟩,
  ⟨0x44, 1, 2, 0, .ro, 0, .live⟩,
  ⟨0x44, 1, 3, 3, .w1c, 0, .warm⟩,
  ⟨0x44, 1, 4, 4, .ro, 0, .live⟩,
  ⟨0x44, 1, 5, 5, .ro, 0, .warm⟩,
  ⟨0x44, 1, 6, 6, .ro, 0, .warm⟩,
  ⟨0x44, 1, 11, 8, .ro, 0, .warm⟩,
  ⟨0x44, 1, 15, 12, .ro, 0, .warm⟩,
  ⟨0x48, 1, 0, 0, .ro, 1, .live⟩,
  ⟨0x48, 1, 1, 1, .rw, 1, .warm⟩,
  ⟨0x48, 1, 2, 2, .rw, 1, .warm⟩,
  ⟨0x48, 1, 3, 3, .rw, 0, .warm⟩,
  ⟨0x4C, 1, 31, 0, .rw, 0, .warm⟩,
  ⟨0x50, 1, 0, 0, .wo, 0, .block⟩,
  ⟨0x50, 1, 1, 1, .ro, 0, .live⟩,
  ⟨0x54, 1, 6, 0, .rw, 0x24, .warm⟩,
  ⟨0x54, 1, 7, 7, .rw, 1, .warm⟩,
  ⟨0x54, 1, 9, 8, .rw, 3, .warm⟩,
  ⟨0x58, 1, 3, 0, .rw, 2, .warm⟩,
  ⟨0x58, 1, 31, 16, .ro, 0, .warm⟩,
  ⟨0x5C, 1, 15, 0, .ro, 0, .warm⟩,
  ⟨0x5C, 1, 31, 16, .ro, 0, .warm⟩,
  ⟨0x60, 1, 0, 0, .w1c, 0, .warm⟩,
  ⟨0x60, 1, 1, 1, .w1c, 0, .warm⟩,
  ⟨0x60, 1, 2, 2, .w1c, 0, .warm⟩,
  ⟨0x60, 1, 3, 3, .w1c, 0, .warm⟩,
  ⟨0x60, 1, 4, 4, .w1c, 0, .warm⟩,
  ⟨0x60, 1, 5, 5, .w1c, 0, .warm⟩,
  ⟨0x64, 1, 15, 0, .rw, 0xC8, .warm⟩]
/-- Register rows of PWR, part 2. -/
def rowsPWRB : List Row := [
  ⟨0x64, 1, 21, 16, .ro, 0, .live⟩,
  ⟨0x68, 1, 31, 0, .ro, 0, .warm⟩]

/-- All register rows of PWR. -/
def rowsPWR : List Row := rowsPWRA ++ rowsPWRB

/-- Register rows of SEC. -/
def rowsSEC : List Row := [
  ⟨0x40, 1, 2, 0, .ro, 0, .live⟩,
  ⟨0x40, 1, 11, 8, .ro, 0, .live⟩,
  ⟨0x44, 1, 2, 0, .wo, 0, .block⟩,
  ⟨0x44, 1, 15, 8, .wo, 0, .block⟩,
  ⟨0x48, 1, 0, 0, .ro, 0, .live⟩,
  ⟨0x48, 1, 2, 1, .ro, 0, .warm⟩,
  ⟨0x48, 1, 4, 3, .ro, 0, .cold⟩,
  ⟨0x48, 1, 5, 5, .ro, 0, .cold⟩,
  ⟨0x48, 1, 6, 6, .ro, 0, .live⟩,
  ⟨0x48, 1, 7, 7, .ro, 0, .live⟩,
  ⟨0x4C, 8, 31, 0, .ro, 0, .warm⟩,
  ⟨0x6C, 1, 1, 0, .ro, 0, .warm⟩,
  ⟨0x6C, 1, 4, 2, .ro, 0, .warm⟩,
  ⟨0x6C, 1, 31, 16, .ro, 0, .warm⟩,
  ⟨0x70, 1, 4, 0, .ro, 0, .warm⟩,
  ⟨0x70, 1, 5, 5, .ro, 0, .warm⟩,
  ⟨0x70, 1, 31, 16, .ro, 0, .cold⟩,
  ⟨0x74, 1, 31, 0, .ro, 0, .warm⟩,
  ⟨0x78, 1, 0, 0, .w1c, 0, .warm⟩,
  ⟨0x78, 1, 1, 1, .w1c, 0, .warm⟩,
  ⟨0x78, 1, 2, 2, .w1c, 0, .warm⟩,
  ⟨0x78, 1, 3, 3, .w1c, 0, .warm⟩,
  ⟨0x78, 1, 4, 4, .w1c, 0, .warm⟩,
  ⟨0x78, 1, 5, 5, .w1c, 0, .warm⟩,
  ⟨0x78, 1, 6, 6, .w1c, 0, .warm⟩,
  ⟨0x78, 1, 7, 7, .w1c, 0, .warm⟩,
  ⟨0x78, 1, 8, 8, .w1c, 0, .warm⟩,
  ⟨0x7C, 1, 3, 0, .ro, 0, .live⟩,
  ⟨0x7C, 1, 7, 4, .ro, 0, .live⟩,
  ⟨0x7C, 1, 9, 8, .ro, 0, .live⟩]

/-- Register rows of BST. -/
def rowsBST : List Row := [
  ⟨0x40, 1, 0, 0, .wo, 0, .block⟩,
  ⟨0x40, 1, 1, 1, .wo, 0, .block⟩,
  ⟨0x40, 1, 15, 8, .wo, 0, .block⟩,
  ⟨0x44, 1, 23, 0, .rws, 0, .cold⟩,
  ⟨0x48, 4, 31, 0, .rws, 0, .cold⟩,
  ⟨0x58, 2, 31, 0, .ro, 0, .cold⟩,
  ⟨0x60, 1, 2, 0, .ro, 0, .cold⟩,
  ⟨0x60, 1, 3, 3, .ro, 0, .cold⟩,
  ⟨0x60, 1, 7, 4, .ro, 0, .cold⟩,
  ⟨0x60, 1, 31, 8, .ro, 0, .cold⟩,
  ⟨0x64, 1, 0, 0, .wo, 0, .block⟩,
  ⟨0x64, 1, 1, 1, .wo, 0, .block⟩,
  ⟨0x64, 1, 15, 8, .wo, 0, .block⟩,
  ⟨0x68, 1, 2, 0, .ro, 0, .cold⟩,
  ⟨0x68, 1, 15, 8, .ro, 0, .cold⟩,
  ⟨0x68, 1, 23, 16, .ro, 0, .cold⟩,
  ⟨0x68, 1, 31, 24, .ro, 0, .cold⟩,
  ⟨0x6C, 1, 0, 0, .w1c, 0, .cold⟩,
  ⟨0x6C, 1, 1, 1, .w1c, 0, .cold⟩,
  ⟨0x6C, 1, 2, 2, .w1c, 0, .cold⟩,
  ⟨0x6C, 1, 3, 3, .w1c, 0, .cold⟩,
  ⟨0x6C, 1, 4, 4, .w1c, 0, .cold⟩,
  ⟨0x80, 16, 31, 0, .ro, 0, .cold⟩]

/-- Register rows of FUS. -/
def rowsFUS : List Row := [
  ⟨0x40, 1, 0, 0, .ro, 0, .live⟩,
  ⟨0x40, 1, 1, 1, .ro, 0, .live⟩,
  ⟨0x40, 1, 15, 8, .ro, 0, .warm⟩,
  ⟨0x44, 1, 5, 0, .wo, 0, .block⟩,
  ⟨0x44, 1, 15, 8, .wo, 0, .block⟩,
  ⟨0x44, 1, 23, 16, .wo, 0, .block⟩,
  ⟨0x44, 1, 24, 24, .wo, 0, .block⟩,
  ⟨0x48, 1, 2, 0, .ro, 0, .warm⟩,
  ⟨0x48, 1, 6, 3, .ro, 0, .warm⟩,
  ⟨0x4C, 1, 5, 0, .rw, 0, .warm⟩,
  ⟨0x50, 8, 31, 0, .ro, 0, .live⟩,
  ⟨0x70, 1, 0, 0, .ro, 0, .live⟩,
  ⟨0x70, 1, 1, 1, .ro, 0, .live⟩,
  ⟨0x74, 1, 31, 0, .ro, 0, .live⟩,
  ⟨0x78, 2, 31, 0, .ro, 0, .live⟩,
  ⟨0x80, 1, 0, 0, .w1c, 0, .warm⟩,
  ⟨0x80, 1, 1, 1, .w1c, 0, .warm⟩,
  ⟨0x80, 1, 2, 2, .w1c, 0, .warm⟩,
  ⟨0x80, 1, 3, 3, .w1c, 0, .warm⟩]

/-- Register rows of UPD. -/
def rowsUPD : List Row := [
  ⟨0x40, 1, 0, 0, .rw, 0, .warm⟩,
  ⟨0x40, 1, 15, 8, .rw, 0x3C, .warm⟩,
  ⟨0x44, 1, 0, 0, .ro, 0, .warm⟩,
  ⟨0x44, 1, 1, 1, .ro, 0, .warm⟩,
  ⟨0x44, 1, 2, 2, .ro, 0, .warm⟩,
  ⟨0x44, 1, 3, 3, .ro, 0, .warm⟩,
  ⟨0x44, 1, 4, 4, .ro, 0, .warm⟩,
  ⟨0x44, 1, 14, 8, .ro, 0, .live⟩,
  ⟨0x48, 2, 2, 0, .ro, 0, .cold⟩,
  ⟨0x48, 2, 3, 3, .ro, 0, .cold⟩,
  ⟨0x48, 2, 7, 4, .ro, 0, .cold⟩,
  ⟨0x48, 2, 14, 8, .ro, 0, .cold⟩,
  ⟨0x48, 2, 31, 16, .ro, 0, .cold⟩,
  ⟨0x50, 2, 2, 0, .ro, 0, .cold⟩,
  ⟨0x50, 2, 3, 3, .ro, 0, .cold⟩,
  ⟨0x50, 2, 7, 4, .ro, 0, .cold⟩,
  ⟨0x58, 1, 31, 0, .ro, 0, .warm⟩,
  ⟨0x5C, 1, 15, 0, .ro, 0, .warm⟩,
  ⟨0x5C, 1, 17, 16, .ro, 0, .warm⟩,
  ⟨0x60, 1, 0, 0, .w1c, 0, .warm⟩,
  ⟨0x60, 1, 1, 1, .w1c, 0, .warm⟩,
  ⟨0x60, 1, 2, 2, .w1c, 0, .warm⟩,
  ⟨0x60, 1, 3, 3, .w1c, 0, .warm⟩,
  ⟨0x60, 1, 4, 4, .w1c, 0, .warm⟩,
  ⟨0x60, 1, 5, 5, .w1c, 0, .warm⟩,
  ⟨0x60, 1, 6, 6, .w1c, 0, .warm⟩,
  ⟨0x60, 1, 7, 7, .w1c, 0, .warm⟩,
  ⟨0x64, 1, 15, 0, .ro, 0, .warm⟩,
  ⟨0x64, 1, 31, 16, .ro, 0, .warm⟩]

/-- Register rows of PRF. -/
def rowsPRF : List Row := [
  ⟨0x40, 1, 1, 0, .rws, 0, .cold⟩,
  ⟨0x40, 1, 7, 7, .rws, 0, .cold⟩,
  ⟨0x44, 1, 1, 0, .ro, 0, .warm⟩,
  ⟨0x44, 1, 3, 2, .ro, 0, .warm⟩,
  ⟨0x44, 1, 4, 4, .ro, 0, .live⟩,
  ⟨0x44, 1, 5, 5, .ro, 0, .warm⟩,
  ⟨0x44, 1, 6, 6, .ro, 0, .warm⟩,
  ⟨0x44, 1, 15, 8, .ro, 0, .warm⟩,
  ⟨0x44, 1, 19, 16, .ro, 0, .warm⟩,
  ⟨0x44, 1, 23, 20, .ro, 0, .warm⟩,
  ⟨0x48, 1, 3, 0, .ro, 0, .warm⟩,
  ⟨0x48, 1, 5, 4, .ro, 0, .warm⟩,
  ⟨0x4C, 1, 0, 0, .w1c, 0, .cold⟩,
  ⟨0x4C, 1, 1, 1, .w1c, 0, .warm⟩,
  ⟨0x50, 1, 15, 0, .ro, 0, .cold⟩,
  ⟨0x50, 1, 31, 16, .ro, 0, .cold⟩]

/-- Register rows of CRC. -/
def rowsCRC (n : Nat) : List Row := [
  ⟨0x40, 1, 1, 0, .rwc, pick [2,2,1,1] n, .warm⟩,
  ⟨0x40, 1, 4, 2, .rwc, pick [1,2,3,4] n, .warm⟩,
  ⟨0x40, 1, 5, 5, .rwc, 1, .warm⟩,
  ⟨0x40, 1, 6, 6, .rwc, 1, .warm⟩,
  ⟨0x40, 1, 13, 8, .rwc, 0x20, .warm⟩,
  ⟨0x44, 1, 31, 0, .rwc, 0x4C11DB7, .warm⟩,
  ⟨0x48, 1, 31, 0, .rwc, 0xFFFFFFFF, .warm⟩,
  ⟨0x4C, 1, 31, 0, .rwc, 0xFFFFFFFF, .warm⟩,
  ⟨0x50, 1, 31, 0, .rwc, 0, .warm⟩,
  ⟨0x54, 1, 31, 0, .ro, 0, .block⟩,
  ⟨0x58, 1, 15, 0, .ro, 0, .block⟩,
  ⟨0x58, 1, 31, 16, .ro, 0, .block⟩]

/-- Register rows of SYS. -/
def rowsSYS : List Row := [
  ⟨0x40, 1, 31, 0, .ro, 0, .live⟩,
  ⟨0x44, 1, 3, 0, .ro, 0, .live⟩,
  ⟨0x44, 1, 15, 8, .ro, 0, .live⟩,
  ⟨0x48, 1, 0, 0, .w1c, 0, .warm⟩,
  ⟨0x48, 1, 1, 1, .w1c, 0, .warm⟩,
  ⟨0x48, 1, 2, 2, .w1c, 0, .warm⟩,
  ⟨0x48, 1, 3, 3, .w1c, 0, .warm⟩,
  ⟨0x48, 1, 4, 4, .w1c, 0, .warm⟩,
  ⟨0x48, 1, 5, 5, .w1c, 0, .warm⟩,
  ⟨0x4C, 1, 15, 0, .ro, 0, .warm⟩,
  ⟨0x4C, 1, 31, 16, .ro, 0, .warm⟩]

/-- The header fields that hold state, for a page with the reset value e of ENABLE and w of WORLD (R575, R576, R38). -/
def rowsHeader (e w : Nat) : List Row := [
  ⟨0x8, 1, 0, 0, .rw, e, .warm⟩,
  ⟨0x8, 1, 1, 1, .rw, 0, .block⟩,
  ⟨0x8, 1, 2, 2, .rw, w, .cold⟩,
  ⟨0xC, 1, 0, 0, .ro, 0, .warm⟩,
  ⟨0x14, 1, 3, 0, .rw, 0, .warm⟩,
  ⟨0x18, 1, 0, 0, .w1c, 0, .warm⟩,
  ⟨0x18, 1, 1, 1, .w1c, 0, .warm⟩,
  ⟨0x18, 1, 2, 2, .w1c, 0, .warm⟩,
  ⟨0x30, 1, 0, 0, .wo, 0, .block⟩,
  ⟨0x30, 1, 1, 1, .wo, 0, .block⟩,
  ⟨0x30, 1, 31, 16, .ro, 0, .warm⟩]

/-- The rows of page p after the header; none for an unassigned page (R574, R575). -/
def unitRows (p : Nat) : List Row :=
  if p = 0x0 then rowsSYS
  else if p = 0x1 then rowsCLK
  else if p = 0x2 then rowsRST
  else if p = 0x3 then rowsPWR
  else if p = 0x4 then rowsTHM
  else if 0x8 ≤ p ∧ p ≤ 0x9 then rowsLNK (p - 0x8)
  else if p = 0xA then rowsSIDE
  else if p = 0xB then rowsCSF
  else if p = 0x10 then rowsCMD
  else if p = 0x18 then rowsCMP
  else if 0x19 ≤ p ∧ p ≤ 0x28 then rowsLAY
  else if p = 0x30 then rowsGLR
  else if 0x31 ≤ p ∧ p ≤ 0x38 then rowsBE
  else if p = 0x40 then rowsGOV
  else if p = 0x48 then rowsCAL
  else if p = 0x49 then rowsFLX
  else if p = 0x50 then rowsTLN
  else if 0x51 ≤ p ∧ p ≤ 0x58 then rowsTL
  else if p = 0x60 then rowsSEG
  else if p = 0x68 then rowsSAF
  else if p = 0x70 then rowsFLT
  else if p = 0x71 then rowsEVR
  else if p = 0x78 then rowsSEC
  else if p = 0x79 then rowsBST
  else if p = 0x7A then rowsFUS
  else if p = 0x80 then rowsUPD
  else if p = 0x81 then rowsPRF
  else if 0x89 ≤ p ∧ p ≤ 0x8C then rowsCRC (p - 0x89)
  else []

/-- Reset value of UNIT_CTRL.ENABLE (R575). -/
def enableReset (p : Nat) : Nat := if p ∈ [0x0, 0x1, 0x2, 0x3, 0x4, 0x8, 0x9, 0xB, 0x10, 0x40, 0x68, 0x70, 0x71, 0x78, 0x79, 0x7A, 0x80, 0x81, 0x88, 0x89, 0x8A, 0x8B, 0x8C] then 1 else 0

/-- Cold-reset world of a page, 1 for S (R38, R575). -/
def worldReset (p : Nat) : Nat := if p ∈ [0x1, 0x2, 0x3, 0x4, 0xB, 0x40, 0x68, 0x78, 0x79, 0x7A, 0x81] then 1 else 0

end Sys2Proof.Machine
end

