-- ==== Sys2Proof/Machine/Ops.lean ====
section
/-! DEFINITION. The named operations over registers, memories, events and free values that every meaning is written in. -/

namespace Sys2Proof.Machine

/-! ### One part of State replaced -/

def State.withRegs (s : State) (v : List (Nat × Word)) : State := { s with regs := v }
def State.withShadow (s : State) (v : List (Nat × Word)) : State := { s with shadow := v }
def State.withPend (s : State) (v : List (Nat × Word)) : State := { s with pend := v }
def State.withPendPages (s : State) (v : List Nat) : State := { s with pendPages := v }
def State.withMem (s : State) (v : List Host.Cell) : State := { s with mem := v }
def State.withLatches (s : State) (v : List ((Nat × Nat) × Word)) : State := { s with latches := v }
def State.withNow (s : State) (v : Nat) : State := { s with now := v }
def State.withOhSub (s : State) (v : Nat) : State := { s with ohSub := v }
def State.withLt (s : State) (v : Nat) : State := { s with lt := v }
def State.withSlew (s : State) (v : Int) : State := { s with slew := v }
def State.withLtApplied (s : State) (v : Option Nat) : State := { s with ltApplied := v }
def State.withFlt (s : State) (v : Flt) : State := { s with flt := v }
def State.withEvr (s : State) (v : Evr) : State := { s with evr := v }
def State.withSaf (s : State) (v : Saf) : State := { s with saf := v }
def State.withRst (s : State) (v : Rst) : State := { s with rst := v }
def State.withQuartz (s : State) (v : Quartz) : State := { s with quartz := v }
def State.withLnkA (s : State) (v : Link) : State := { s with lnkA := v }
def State.withLnkB (s : State) (v : Link) : State := { s with lnkB := v }
def State.withCsf (s : State) (v : Csf) : State := { s with csf := v }
def State.withSide (s : State) (v : Side) : State := { s with side := v }
def State.withSpi (s : State) (v : Spi) : State := { s with spi := v }
def State.withCmd (s : State) (v : Cmd) : State := { s with cmd := v }
def State.withCmp (s : State) (v : Cmp) : State := { s with cmp := v }
def State.withGlare (s : State) (v : Glare) : State := { s with glare := v }
def State.withLanes (s : State) (v : List Lane) : State := { s with lanes := v }
def State.withTln (s : State) (v : Tln) : State := { s with tln := v }
def State.withGov (s : State) (v : Gov) : State := { s with gov := v }
def State.withCal (s : State) (v : Cal) : State := { s with cal := v }
def State.withFlx (s : State) (v : Flx) : State := { s with flx := v }
def State.withSeg (s : State) (v : Seg) : State := { s with seg := v }
def State.withThm (s : State) (v : Thm) : State := { s with thm := v }
def State.withPwr (s : State) (v : Pwr) : State := { s with pwr := v }
def State.withSec (s : State) (v : Sec) : State := { s with sec := v }
def State.withFus (s : State) (v : Fus) : State := { s with fus := v }
def State.withUpd (s : State) (v : Upd) : State := { s with upd := v }
def State.withReadData (s : State) (v : List Word) : State := { s with readData := v }
def State.withFresh (s : State) (v : Nat) : State := { s with fresh := v }
def State.withPending (s : State) (v : List Instr) : State := { s with pending := v }

/-! ### Association lists in canonical form -/

/-- The value a table gives address a: the first entry for a, else what an unlisted address reads as. -/
def tabGet {β : Type} (d : Nat → β) : List (Nat × β) → Nat → β
  | [], a => d a
  | (k, v) :: t, a => if k = a then v else tabGet d t a

/-- Insert an entry before the first greater address. -/
def tabInsert {β : Type} : List (Nat × β) → Nat → β → List (Nat × β)
  | [], a, w => [(a, w)]
  | (k, v) :: t, a, w =>
    if a < k then (a, w) :: (k, v) :: t
    else if a = k then (a, w) :: t
    else (k, v) :: tabInsert t a w

/-- Write: an entry equal to what an unlisted address reads as is removed, any other is placed in address order. -/
def tabPut {β : Type} [DecidableEq β] (d : Nat → β) (l : List (Nat × β)) (a : Nat) (w : β) : List (Nat × β) :=
  if w = d a then l.filter (fun e => e.1 ≠ a) else tabInsert l a w

/-- Canonical form: addresses strictly rising, no entry equal to what an unlisted address reads as. -/
def tabWf {β : Type} [DecidableEq β] (d : Nat → β) : List (Nat × β) → Bool
  | [] => true
  | (k, v) :: t => decide (v ≠ d k) && t.all (fun e => decide (k < e.1)) && tabWf d t

/-! ### Bits of a word -/

/-- Bits hi down to lo of a word, as a number. -/
def wordField (w : Word) (hi lo : Nat) : Nat := (w.toNat >>> lo) % 2 ^ (hi + 1 - lo)

/-- Word with ones in bits hi down to lo. -/
def fieldMask (hi lo : Nat) : Word := BitVec.ofNat 32 ((2 ^ (hi + 1 - lo) - 1) <<< lo)

/-- Word w with bits hi down to lo replaced by the low bits of v. -/
def putField (w : Word) (hi lo v : Nat) : Word :=
  (w &&& ~~~ (fieldMask hi lo)) ||| (BitVec.ofNat 32 (v <<< lo) &&& fieldMask hi lo)

/-- Two's-complement value of the low n bits of v (R12). -/
def signed (n v : Nat) : Int := if v % 2 ^ n < 2 ^ (n - 1) then (v % 2 ^ n : Nat) else (v % 2 ^ n : Nat) - (2 ^ n : Nat)

/-- The low n bits that hold an integer in two's complement. -/
def unsigned (n : Nat) (i : Int) : Nat := (i % (2 ^ n : Nat)).toNat

/-- 1 for true. -/
def bit (b : Bool) : Nat := if b then 1 else 0

/-- Bit i of a number. -/
def tbit (v i : Nat) : Bool := v.testBit i

/-! ### The register banks (R9, R577) -/

/-- The rows of the page a register address lies in, header first (R576, R575). -/
def pageRows (p : Nat) : List Row :=
  match unitRows p with
  | [] => if p = 0x88 then rowsHeader (enableReset p) (worldReset p) else []
  | rs => rowsHeader (enableReset p) (worldReset p) ++ rs

/-- True where row r holds bits of the register at page offset off. -/
def Row.covers (r : Row) (off : Nat) : Bool := decide (r.off ≤ off) && decide ((off - r.off) / 4 < r.n) && decide ((off - r.off) % 4 = 0)

/-- Cold-reset word of the register at byte offset a of the unit pages (R10). -/
def resetWord (a : Nat) : Word :=
  (pageRows (a / 4096)).foldl (fun w r => if r.covers (a % 4096) then putField w r.hi r.lo r.rst else w) 0

/-- Mask of the bits of a register whose access code is c. -/
def accMask (c : Acc) (a : Nat) : Word :=
  (pageRows (a / 4096)).foldl (fun m r => if r.covers (a % 4096) && decide (r.acc = c) then m ||| fieldMask r.hi r.lo else m) 0

/-- Mask of the bits of a register whose reset scope is in l (R10). -/
def scopeMask (l : List Scope) (a : Nat) : Word :=
  (pageRows (a / 4096)).foldl (fun m r => if r.covers (a % 4096) && l.contains r.scope then m ||| fieldMask r.hi r.lo else m) 0

/-- The active word of a register. -/
def State.word (s : State) (a : Nat) : Word := tabGet resetWord s.regs a

/-- Set the active word of a register. -/
def State.setWord (s : State) (a : Nat) (w : Word) : State := s.withRegs (tabPut resetWord s.regs a w)

/-- The shadow word of a register (R577). -/
def State.shadowWord (s : State) (a : Nat) : Word := tabGet resetWord s.shadow a

/-- Set the shadow word of a register. -/
def State.setShadow (s : State) (a : Nat) (w : Word) : State := s.withShadow (tabPut resetWord s.shadow a w)

/-- Byte offset of a field's register in the unit pages; an offset lies in its page. -/
def Fld.addr (f : Fld) : Nat := f.page * 4096 + f.off % 4096

/-- Value of a field in the active bank. -/
def State.g (s : State) (f : Fld) : Nat := wordField (s.word f.addr) f.hi f.lo

/-- Value of a field in the shadow bank. -/
def State.gShadow (s : State) (f : Fld) : Nat := wordField (s.shadowWord f.addr) f.hi f.lo

/-- The hardware sets a field of the active bank. -/
def State.put (s : State) (f : Fld) (v : Nat) : State := s.setWord f.addr (putField (s.word f.addr) f.hi f.lo v)

/-- A field of one bit that reads 1. -/
def State.on (s : State) (f : Fld) : Bool := s.g f = 1

/-- Largest value of a field. -/
def Fld.top (f : Fld) : Nat := 2 ^ (f.hi + 1 - f.lo) - 1

/-- A counter that wraps. -/
def State.inc (s : State) (f : Fld) : State := s.put f (s.g f + 1)

/-- A counter that saturates. -/
def State.incSat (s : State) (f : Fld) : State := if s.g f < f.top then s.put f (s.g f + 1) else s

/-- A counter that saturates, advanced by n. -/
def State.addSat (s : State) (f : Fld) (n : Nat) : State := s.put f (min f.top (s.g f + n))

/-- Set an event bit: UNIT_IRQ_STAT.EVT follows a change from 0 to 1 (R576). -/
def State.evt (s : State) (f : Fld) : State :=
  if s.on f then s else (s.put f 1).put (F.UNIT_IRQ_STAT_EVT f.page) 1

/-! ### Memories (R44, R572) -/

/-- The memory regions of R572, each half open. -/
def regionOf (a : Nat) : Option Region :=
  if a < 0x20000 then some .rom
  else if 0x10000000 ≤ a ∧ a < 0x10200000 then some .sram
  else if 0x18000000 ≤ a ∧ a < 0x18040000 then some .retention
  else if 0x20000000 ≤ a ∧ a < 0x20800000 then some .slate
  else if 0x28000000 ≤ a ∧ a < 0x28280000 then some .calStore
  else if 0x30000000 ≤ a ∧ a < 0x30080000 then some .graniteRam
  else if 0x40000000 ≤ a ∧ a < 0x4008D000 then some .pages
  else if 0x60000000 ≤ a ∧ a < 0x64000000 then some .flash
  else none

/-- Offset of an address within the unit pages (R572). -/
def pageOff (a : Nat) : Nat := a - 0x40000000

/-- What a byte that nothing has written reads as: erased flash 0xFF, every other memory 0. DESIGN CHOICE (log 3). -/
def memDefault (a : Nat) : Byte := if 0x60000000 ≤ a then 0xFF else 0

/-- One byte of memory. -/
def State.byte (s : State) (a : Nat) : Byte := tabGet memDefault s.mem a

/-- Write one byte of memory. -/
def State.setByte (s : State) (a : Nat) (b : Byte) : State := s.withMem (tabPut memDefault s.mem a b)

/-- Write bytes from address a upward. -/
def State.setBytes (s : State) (a : Nat) : List Byte → State
  | [] => s
  | b :: t => (s.setByte a b).setBytes (a + 1) t

/-- Read n bytes from address a upward. -/
def State.bytes (s : State) (a : Nat) : Nat → List Byte
  | 0 => []
  | n + 1 => s.byte a :: s.bytes (a + 1) n

/-- n bytes of v, least significant first (R5). -/
def leBytes : Nat → Nat → List Byte
  | 0, _ => []
  | n + 1, v => BitVec.ofNat 8 v :: leBytes n (v / 256)

/-- n bytes of v, most significant first (R6). -/
def beBytes (n v : Nat) : List Byte := (leBytes n v).reverse

/-- Number held by bytes, least significant first (R5). -/
def ofLe : List Byte → Nat
  | [] => 0
  | b :: t => b.toNat + 256 * ofLe t

/-- Number held by bytes, most significant first (R6). -/
def ofBe (l : List Byte) : Nat := ofLe l.reverse

/-- Bytes i to i + n - 1 of a list, zeros beyond its end. -/
def slice (l : List Byte) (i n : Nat) : List Byte := (List.range n).map (fun k => l.getD (i + k) 0)

/-- Little-endian number in memory. -/
def State.le (s : State) (a n : Nat) : Nat := ofLe (s.bytes a n)

/-- CRC of a byte string, most significant bit of the register first: width 32, with reflected input and output,
initial value and final exclusive-or all ones (R150). -/
def crcByte (c : BitVec 32) (b : Byte) : BitVec 32 :=
  (List.range 8).foldl (fun c _ => if c.getLsbD 0 then (c >>> 1) ^^^ 0xEDB88320#32 else c >>> 1) (c ^^^ b.zeroExtend 32)

/-- CRC-32 of R150 over a byte string. -/
def crc32 (l : List Byte) : Nat := (~~~ (l.foldl crcByte 0xFFFFFFFF#32)).toNat

/-! ### Canonical form -/

/-- Every memory is in canonical form. -/
def State.memWf (s : State) : Bool := tabWf memDefault s.mem

/-- The register banks are in canonical form. -/
def State.regsWf (s : State) : Bool := tabWf resetWord s.regs && tabWf resetWord s.shadow && tabWf resetWord s.pend

/-! ### Free values -/

/-- A fresh value of the free supply: the counter of State names it and advances (log 7). -/
def State.free (s : State) : Nat × State := ((Config.freeWord s.fresh).toNat, (s.withFresh (s.fresh + 1)))

/-! ### Time: core cycles of 2.5 ns (R34) -/

/-- n microseconds in core cycles. -/
def us (n : Nat) : Nat := 400 * n

/-- n milliseconds in core cycles. -/
def ms (n : Nat) : Nat := 400000 * n

/-- Link time in nanoseconds (R14). -/
def State.ltNs (s : State) : Nat := s.lt / 65536 % 2 ^ 64

end Sys2Proof.Machine
end

