-- ==== Sys2Proof/Machine/Faults.lean ====
section
/-! DEFINITION. Fault collection, the event recorder's queue, and the safe reaction (14_faults_and_event_recorder, 13_functional_safety). -/

namespace Sys2Proof.Machine

/-! ### The sources of R454, by index -/

def S.CLK_MON : Nat := 0
def S.CLK_HOLD_EXP : Nat := 1
def S.CLK_SW_FORCED : Nat := 2
def S.RST_COLD_CAUSE : Nat := 3
def S.RST_WARM_CAUSE : Nat := 4
def S.RST_STUCK : Nat := 5
def S.RST_BOOT_ALT : Nat := 6
def S.PWR_ACK_TMO : Nat := 7
def S.PWR_ALERT : Nat := 8
def S.THM_WARN : Nat := 9
def S.THM_STOP : Nat := 10
def S.THM_ADC : Nat := 11
def S.LNK_CRC : Nat := 12
def S.LNK_LOS : Nat := 13
def S.LNK_SLIP : Nat := 14
def S.LNK_TRN_TMO : Nat := 15
def S.SIDE_LOST : Nat := 16
def S.SIDE_ROLE : Nat := 17
def S.CSF_MISMATCH : Nat := 18
def S.CSF_STALE : Nat := 19
def S.CSF_REJECT : Nat := 20
def S.CMD_REPLAY : Nat := 21
def S.CMD_STATE_COPY : Nat := 22
def S.CMD_STORE_LOST : Nat := 23
def S.CMD_STORE_TMO : Nat := 24
def S.CMP_PARITY : Nat := 25
def S.CMP_PARITY_UNC : Nat := 26
def S.CMP_DEFER : Nat := 27
def S.CMP_DEFER_FATAL : Nat := 28
def S.BE_MISS : Nat := 29
def S.BE_BOX_ONLY : Nat := 30
def S.BE_UNWRITTEN : Nat := 31
def S.GOV_DP : Nat := 32
def S.GRAM_UNC : Nat := 33
def S.GRAM_COR : Nat := 34
def S.GOV_DIGEST : Nat := 35
def S.GOV_TBL : Nat := 36
def S.CAL_ECC_COR : Nat := 37
def S.CAL_ECC_UNC : Nat := 38
def S.CAL_PIPE_PAR : Nat := 39
def S.CAL_TRIM_FAIL : Nat := 40
def S.FLX_RANGE : Nat := 41
def S.TL_CRC : Nat := 42
def S.TL_REPORT_MISS : Nat := 43
def S.TL_LATE_BLANK : Nat := 44
def S.TL_RETRAIN : Nat := 45
def S.TL_MSG_CRC : Nat := 46
def S.TL_TEMP_LOST : Nat := 47
def S.TL_TRN_FAIL : Nat := 48
def S.TL_OT : Nat := 49
def S.TL_TILE_LOST : Nat := 50
def S.TL_LANE_DEAD : Nat := 51
def S.TL_FLIP_MISS : Nat := 52
def S.TSB_ERR : Nat := 53
def S.SEG_CRC : Nat := 54
def S.SEG_LATE : Nat := 55
def S.SEG_DRV_LOST : Nat := 56
def S.SEG_OPEN : Nat := 57
def S.SEG_SHORT : Nat := 58
def S.SEG_DRV_OT : Nat := 59
def S.SEG_BUS : Nat := 60
def S.SAF_SIN_DEMAND : Nat := 61
def S.SAF_SIN_FAULT : Nat := 62
def S.SAF_SOUT_FAULT : Nat := 63
def S.SAF_FLINT_WDT : Nat := 64
def S.SAF_LOCKSTEP : Nat := 65
def S.SAF_FOK_RB : Nat := 66
def S.SRAM_ECC_COR : Nat := 67
def S.SRAM_ECC_UNC : Nat := 68
def S.RET_ECC_COR : Nat := 69
def S.RET_ECC_UNC : Nat := 70
def S.EVR_MIRROR_FAIL : Nat := 71
def S.SEC_WORLD : Nat := 72
def S.BST_FAIL : Nat := 73
def S.CRC_MISMATCH : Nat := 74

/-- Sources 0 to 37 of R454: code, class level (1 CORR, 2 UCC, 3 FATAL), Held, Inj. -/
def sourcesA : List (Nat × Nat × Bool × Bool) := [
  (0x0100, 3, false, false),
  (0x0101, 3, false, false),
  (0x0102, 1, false, false),
  (0x0200, 2, false, false),
  (0x0201, 1, false, false),
  (0x0202, 2, false, false),
  (0x0203, 2, false, false),
  (0x0300, 2, false, false),
  (0x0301, 1, false, false),
  (0x0400, 1, true, false),
  (0x0401, 3, true, false),
  (0x0402, 2, false, false),
  (0x0800, 1, false, true),
  (0x0801, 2, false, false),
  (0x0802, 1, false, false),
  (0x0803, 1, false, false),
  (0x0A00, 2, true, false),
  (0x0A01, 2, true, false),
  (0x0B00, 3, false, false),
  (0x0B01, 3, false, false),
  (0x0B02, 1, false, true),
  (0x1000, 1, false, true),
  (0x1001, 1, false, true),
  (0x1002, 3, false, false),
  (0x1003, 2, true, false),
  (0x1800, 1, false, true),
  (0x1801, 2, false, true),
  (0x1802, 2, false, false),
  (0x1803, 3, false, false),
  (0x3000, 1, false, false),
  (0x3001, 2, true, false),
  (0x3002, 2, false, true),
  (0x4000, 3, false, false),
  (0x4001, 3, false, true),
  (0x4002, 1, false, true),
  (0x4003, 3, false, false),
  (0x4004, 2, false, false),
  (0x4800, 1, false, true)]

/-- Sources 38 to 74 of R454: code, class level (1 CORR, 2 UCC, 3 FATAL), Held, Inj. -/
def sourcesB : List (Nat × Nat × Bool × Bool) := [
  (0x4801, 2, false, true),
  (0x4802, 1, false, true),
  (0x4803, 1, false, false),
  (0x4900, 1, false, false),
  (0x5000, 1, false, true),
  (0x5001, 1, false, false),
  (0x5002, 2, false, false),
  (0x5003, 1, false, false),
  (0x5004, 1, false, true),
  (0x5005, 1, true, false),
  (0x5006, 2, true, false),
  (0x5007, 2, true, false),
  (0x5008, 3, true, false),
  (0x5009, 3, true, false),
  (0x500A, 3, false, false),
  (0x500B, 3, false, false),
  (0x6000, 1, false, true),
  (0x6001, 1, false, false),
  (0x6002, 2, true, false),
  (0x6003, 2, false, false),
  (0x6004, 2, false, false),
  (0x6005, 2, false, false),
  (0x6006, 2, false, false),
  (0x6800, 2, false, false),
  (0x6801, 3, true, false),
  (0x6802, 3, true, false),
  (0x6803, 3, false, false),
  (0x6804, 3, false, false),
  (0x6805, 3, false, false),
  (0x7000, 1, false, true),
  (0x7001, 2, false, true),
  (0x7002, 1, false, true),
  (0x7003, 2, false, true),
  (0x7100, 2, false, false),
  (0x7800, 2, false, false),
  (0x7900, 2, false, false),
  (0x8800, 1, false, true)]
/-- The source table of R454; indices 75 to 95 are reserved. -/
def sources : List (Nat × Nat × Bool × Bool) := sourcesA ++ sourcesB

/-- Code of source i (R453). -/
def srcCode (i : Nat) : Nat := (sources.getD i (0, 0, false, false)).1

/-- Level of the default class of source i in CLASSIC mode (R455). -/
def srcClass (i : Nat) : Nat := (sources.getD i (0, 0, false, false)).2.1

/-- Source i is marked Held (R460). -/
def srcHeld (i : Nat) : Bool := (sources.getD i (0, 0, false, false)).2.2.1

/-- Source i accepts injection (R467). -/
def srcInj (i : Nat) : Bool := (sources.getD i (0, 0, false, false)).2.2.2

/-- Sources whose record carries an address instead of the frame number (R471). -/
def srcHasAddr (i : Nat) : Bool := [21, 22, 25, 26, 31, 33, 34, 37, 38, 67, 68, 69, 70].contains i

/-- Instance page of a source that an instanced unit raises (R453); the source's own page otherwise. TSB_ERR is the lane group's own. -/
def srcPage (i inst : Nat) : Nat :=
  let p := srcCode i / 256
  if i = 53 then 0x50
  else if p = 0x08 then 0x08 + inst % 2
  else if i = 25 || i = 26 then 0x19 + inst % 16
  else if p = 0x30 then 0x31 + inst % 8
  else if p = 0x50 then 0x51 + inst % 8
  else if p = 0x88 then 0x89 + inst % 4
  else p

/-! ### Fields of the bitmap registers -/

def fltPend (i : Nat) : Fld := ⟨0x70, 0x48 + 4 * (i / 32), i % 32, i % 32⟩
def fltUnack (i : Nat) : Fld := ⟨0x70, 0x54 + 4 * (i / 32), i % 32, i % 32⟩
def fltLvl (i : Nat) : Fld := ⟨0x70, 0x60 + 4 * (i / 16), 2 * (i % 16) + 1, 2 * (i % 16)⟩
def fltSev (i : Nat) : Fld := ⟨0x70, 0x78 + 4 * (i / 16), 2 * (i % 16) + 1, 2 * (i % 16)⟩

/-- Default level of a fault of source i (R455). -/
def State.defLevel (s : State) (i : Nat) : Nat := if s.on F.FLT_CTRL_MODE then s.g (fltSev i) else srcClass i

/-! ### The recorder's queue and trackers (R474, R475) -/

/-- SEQ that follows h: 0 and 0xFFFF_FFFF are never used (R470, R473). -/
def nextSeq (h : Nat) : Nat := if h = 0xFFFFFFFE then 1 else h + 1

/-- SEQ after n further records. -/
def seqAfter (h : Nat) : Nat → Nat
  | 0 => h
  | n + 1 => seqAfter (nextSeq h) n

/-- The effective level of a record. -/
def EvRec.eff (r : EvRec) : Nat := r.level % 4

/-- Records that are never coalesced (R474). -/
def EvRec.plain (r : EvRec) : Bool :=
  r.eff = 3 || r.code / 256 = 0x68 || [0x7080, 0x4083, 0x4084, 0x7180, 0x7181].contains r.code

/-- Two records have one coalescing key: CODE, DATA byte 0, CONSEQ and INJ (R474). -/
def EvRec.sameKey (a b : EvRec) : Bool :=
  a.code = b.code && a.data.getD 0 0 = b.data.getD 0 0 && tbit a.flags 2 = tbit b.flags 2 && tbit a.flags 4 = tbit b.flags 4

/-- A record is lost: counted, alarmed, and the next record written carries LOSS (R475, R466). -/
def State.loseRec (s : State) : State :=
  let s := ((s.incSat F.EVR_CNT_DROP).put F.FLT_ALARM_EVR_DROP 1).evt F.EVR_EVT_DROP
  s.withEvr { s.evr with loss := true }

/-- A record enters the queue of 64 entries, the last 8 of which take only level 3 and page 0x68 (R475). -/
def State.queueRec (s : State) (r : EvRec) : State :=
  let room := if r.eff = 3 || r.code / 256 = 0x68 then 64 else 56
  if s.evr.queue.length < room then s.withEvr { s.evr with queue := s.evr.queue ++ [r] }
  else s.loseRec

/-- A tracker closes: one COAL record if it counted repeats (R474). -/
def State.closeTracker (s : State) (t : Tracker) : State :=
  let s := s.withEvr { s.evr with trackers := s.evr.trackers.filter (fun u => !(u.first.sameKey t.first)) }
  if t.repeats = 0 then s
  else s.queueRec { t.last with flags := t.last.flags ||| 0x20, count := min 65535 t.repeats }

/-- A record reaches the recorder; the Bool says that a tracker coalesced it (R474). -/
def State.record (s : State) (r : EvRec) : Bool × State :=
  if s.on F.EVR_CTRL_COAL_EN && !r.plain then
    match s.evr.trackers.find? (fun t => t.first.sameKey r) with
    | some _ =>
      (true, (s.withEvr { s.evr with trackers := s.evr.trackers.map (fun t =>
        if t.first.sameKey r then { t with repeats := t.repeats + 1, last := r } else t) }))
    | none =>
      let s := match s.evr.trackers with
        | t :: rest => if rest.length + 1 ≥ 16 then s.closeTracker t else s
        | [] => s
      let s := s.queueRec r
      (false, (s.withEvr { s.evr with trackers := s.evr.trackers ++ [⟨r, 0, r, s.now⟩] }))
  else (false, s.queueRec r)

/-- Six bytes of record DATA; bytes not listed are 0 (R483). -/
def data6 (l : List Byte) : List Byte := (l ++ [0, 0, 0, 0, 0, 0]).take 6

/-- An event of R483 is recorded; its LEVEL is 0. -/
def State.event (s : State) (code : Nat) (data : List Byte) : State := (s.record ⟨code, 0, 0, 1, data6 data⟩).2

/-- One byte of a number. -/
def b8 (n : Nat) : Byte := BitVec.ofNat 8 n

/-- Time of the operating-hours counter (R15, R479). -/
def State.ohMs (s : State) : Nat := s.g F.EVR_OH_LO_OH + 2 ^ 32 * (s.g F.EVR_OH_HI_OH % 65536)

/-- Set OH_MS. -/
def State.setOh (s : State) (v : Nat) : State := (s.put F.EVR_OH_LO_OH v).put F.EVR_OH_HI_OH (v / 2 ^ 32 % 65536)

/-! ### Lane records -/

/-- The record of lane n. -/
def State.lane (s : State) (n : Nat) : Lane := s.lanes.getD n Lane.init

/-- Change the record of lane n. -/
def State.modLane (s : State) (n : Nat) (f : Lane → Lane) : State := s.withLanes (s.lanes.set n (f (s.lane n)))

/-- Lane n enters 0 OFF: electrical idle, powered down, assignment and queued packets gone (R388, R440, R622). -/
def State.laneOff (s : State) (n : Nat) : State :=
  (s.put (F.TL_STAT_STATE n) 0).modLane n (fun l => { l with assigned := false, viaService := false, queue := [], sending := none, due := [], noAlive := 0, missRun := 0, msg := [], ctl := none })

/-! ### The safe reaction (R425 to R429) -/

/-- The page-wide mask of tiles that output k powers, when it is used. -/
def State.soutTiles (s : State) (k : Nat) : Nat := s.g ⟨0x68, 0x74 + 4 * k, 15, 8⟩

/-- SOUTk goes low: TLN holds its tiles' lanes in OFF, not assigned (R437, R440). -/
def State.soutLow (s : State) (k : Nat) : State :=
  let s := s.withSaf { s.saf with souts := s.saf.souts.set k Sout.init }
  let s := if s.g (F.SAF_SOUT_STAT_STATE k) = 2 then s.put (F.SAF_SOUT_STAT_STATE k) 1 else s
  (List.range 8).foldl (fun s n => if tbit (s.soutTiles k) n then s.laneOff n else s) s

/-- Both safety outputs go low and FIELD_OK is not high any more: ON is withdrawn (R428, R437). -/
def State.soutsOff (s : State) : State := ((s.put F.SAF_SOUT_CTRL_ON 0).soutLow 0).soutLow 1

/-- The record of a trigger (R428, R483): its own REASON and DETAIL, and SAF_LOCK_CNT after it. -/
def State.recordReact (s : State) (code detail : Nat) : State :=
  s.event 0x6880 ([b8 code, b8 detail] ++ leBytes 4 (s.g F.SAF_LOCK_CNT_LOCK_CNT))

/-- A trigger of R426 reaches the safety domain (R425, R428, R429). -/
def State.trigger (s : State) (code detail : Nat) : State :=
  if s.saf.trigNow = 2 then
    -- a further trigger of the cycle that entered lock-out: REASON and LAST take the lowest code
    if code < s.g F.SAF_REASON_REASON then
      ((s.put F.SAF_REASON_REASON code).put F.SAF_REASON_DETAIL detail).put F.SAF_REASON_LAST code
    else s
  else if s.saf.trigNow = 1 then
    if code < s.g F.SAF_REASON_LAST then s.put F.SAF_REASON_LAST code else s
  else if s.on F.SAF_STAT_LOCKED then
    let s := (s.put F.SAF_REASON_LAST code).incSat F.SAF_CNT_REACTIONS
    (s.withSaf { s.saf with trigNow := 1 }).recordReact code detail
  else
    let hiz := s.g F.SAF_STAT_FSTATE = 0
    let s := (s.put F.SAF_STAT_LOCKED 1).inc F.SAF_LOCK_CNT_LOCK_CNT
    let s := ((s.put F.SAF_REASON_REASON code).put F.SAF_REASON_DETAIL detail).put F.SAF_REASON_LAST code
    let s := (s.put F.SAF_FIELD_REQ 0).put F.GOV_MODE_RELEASE 0
    let s := ((s.evt F.SAF_EVT_REACT).evt F.SAF_EVT_LOCK).incSat F.SAF_CNT_REACTIONS
    let s := if hiz then s else (s.put F.SAF_STAT_FSTATE 4).soutsOff
    (s.withSaf { s.saf with trigNow := 2 }).recordReact code detail

/-- Flint is stopped: SLEEP, DEEP, OFF, and the waits of an entry or exit (R501, R505). -/
def State.flintStopped (s : State) : Bool :=
  s.pwr.st = .sleep || s.pwr.st = .ackEntry || s.pwr.st = .deep || s.pwr.st = .off || s.pwr.st = .ackExit

/-- Flint raises a trigger by SAF_REACT for source i; a halted Flint raises none, and a stopped one owes it until its return (R426, R441, R496). -/
def State.flintTrigger (s : State) (i code detail : Nat) : State :=
  if s.saf.halted then s
  else if s.flintStopped then s.withSaf { s.saf with due := s.saf.due ++ [(i, code, detail)] }
  else s.trigger code detail

/-- Flint has returned to RUN: what it owes for sources that are still pending (R496). -/
def State.flintResume (s : State) : State :=
  let s' : State := s.withSaf { s.saf with due := [] }
  s.saf.due.foldl (fun s e => if s.on (fltPend e.1) then s.flintTrigger e.1 e.2.1 e.2.2 else s) s'

/-! ### Raising a fault (R458 to R465) -/

/-- Another source's unacknowledged pending fault of an earlier cycle stands at level l (R459). -/
def State.escalates (s : State) (i l : Nat) : Bool :=
  (List.range 75).any (fun j => j ≠ i && s.on (fltPend j) && s.on (fltUnack j) && s.g (fltLvl j) = l
    && !(s.flt.fresh.contains j) && !(s.flt.injOnly.contains j))

/-- The history entry of a raise (R465); SEQ_LO names the record the raise has just queued. -/
def State.history (s : State) (code eff : Nat) (esc conseq inj : Bool) : State :=
  let k := s.g F.FLT_HIST_HEAD_TOTAL % 16
  let s := if s.g (F.FLT_HIST_CODE k) = 0 then s else s.put F.FLT_ALARM_HIST_WRAP 1
  let s := ((s.put (F.FLT_HIST_CODE k) code).put (F.FLT_HIST_LVL k) eff).put (F.FLT_HIST_ESC k) (bit esc)
  let s := ((s.put (F.FLT_HIST_CONSEQ k) (bit conseq)).put (F.FLT_HIST_INJ k) (bit inj)).put (F.FLT_HIST_SEQ_LO k)
    (seqAfter (s.g F.EVR_HEAD_SEQ) s.evr.queue.length)
  (s.inc F.FLT_HIST_HEAD_TOTAL).put F.FLT_HIST_HEAD_NEWEST k

/-- DATA of a fault's record (R471). -/
def State.faultData (s : State) (i inst addr : Nat) : List Byte :=
  if srcHasAddr i then b8 inst :: leBytes 4 addr ++ [0]
  else b8 inst :: leBytes 4 (s.g F.CMP_FRAME_FRAME_NO) ++ [b8 (s.g F.SAF_STAT_FSTATE)]

/-- The record of a fault: flags of R470. -/
def State.faultRec (s : State) (i inst addr dflt eff : Nat) (esc conseq inj : Bool) : EvRec :=
  ⟨srcCode i, eff + 4 * dflt + 16 * s.g F.FLT_CTRL_MODE, 4 * bit conseq + 8 * bit esc + 16 * bit inj, 1,
    s.faultData i inst addr⟩

/-- The group page of an instance page; the page itself otherwise. -/
def groupPage (p : Nat) : Nat :=
  if 0x19 ≤ p ∧ p ≤ 0x28 then 0x18
  else if 0x31 ≤ p ∧ p ≤ 0x38 then 0x30
  else if 0x51 ≤ p ∧ p ≤ 0x58 then 0x50
  else if 0x89 ≤ p ∧ p ≤ 0x8C then 0x88
  else p

/-! ### UNIT_FAULT (R18, R576, R583) -/

/-- The children of SYS, in the order of its directory (R17, R584). -/
def sysChildren : List Nat :=
  [0x01, 0x02, 0x03, 0x04, 0x08, 0x09, 0x0A, 0x0B, 0x10, 0x18, 0x30, 0x40, 0x48, 0x49, 0x50, 0x60, 0x68, 0x70, 0x71, 0x78, 0x79, 0x7A, 0x80, 0x81, 0x88]

/-- Instance that the newest raise of source i named (R576). -/
def State.newestInst (s : State) (i : Nat) : Nat := ((s.flt.newest.find? (fun e => e.1 = i)).map (fun e => e.2)).getD 0

/-- Source i shows in UNIT_FAULT of page p: its own, its instance's, or its group's while the instance is enabled (R18, R576, R583). -/
def State.showsIn (s : State) (i p : Nat) : Bool :=
  let q := srcPage i (s.newestInst i)
  s.on (fltPend i) && (q = p || (groupPage q = p && s.on (F.UNIT_CTRL_ENABLE q)))

/-- UNIT_FAULT of a page other than SYS. -/
def State.faultWord (s : State) (p : Nat) : Nat :=
  (List.range 75).foldl (fun v i => if s.showsIn i p then v ||| 2 ^ (srcCode i % 256) else v) 0

/-- UNIT_FAULT of SYS: a bit for each enabled child with a fault (R18, R583). -/
def State.sysFault (s : State) : Nat :=
  ((List.range 25).filter (fun j => let c := sysChildren.getD j 0; s.on (F.UNIT_CTRL_ENABLE c) && s.faultWord c ≠ 0)).foldl (fun v j => v + 2 ^ j) 0

/-- UNIT_IRQ_STAT.FAULT where a bit of UNIT_FAULT went from 0 to 1 between two states (R576). -/
def State.faultIrq (old s : State) (pages : List Nat) : State :=
  let s := pages.foldl (fun s p => if s.faultWord p &&& (old.faultWord p ^^^ s.faultWord p) = 0 then s else s.put (F.UNIT_IRQ_STAT_FAULT p) 1) s
  if s.sysFault &&& (old.sysFault ^^^ s.sysFault) = 0 then s else s.put (F.UNIT_IRQ_STAT_FAULT 0) 1

/-- Source i becomes pending (R458); UNIT_IRQ_STAT.FAULT follows where a bit of UNIT_FAULT rises (R576). -/
def State.setPending (s : State) (i inst eff : Nat) (esc inj : Bool) : State :=
  let old := s
  let was := s.on (fltPend i)
  let f := s.flt
  let stands := was && s.on (fltUnack i) && decide (eff ≤ s.g (fltLvl i)) && (inj || !f.injOnly.contains i)
  let s := s.withFlt { f with
    fresh := if stands then f.fresh else i :: f.fresh,
    injOnly := if inj && !was then i :: f.injOnly else if inj then f.injOnly else f.injOnly.filter (· ≠ i),
    escalated := if esc then i :: f.escalated.filter (· ≠ i) else f.escalated,
    order := i :: f.order.filter (· ≠ i),
    newest := (i, inst) :: f.newest.filter (fun e => e.1 ≠ i) }
  let s := (s.put (fltPend i) 1).put (fltUnack i) 1
  old.faultIrq (s.put (fltLvl i) (max (s.g (fltLvl i)) eff)) (let q := srcPage i inst; if groupPage q = q then [q] else [groupPage q, q])

/-- The level's alarm bit (R466). -/
def State.alarmLevel (s : State) (eff : Nat) : State :=
  if eff = 1 then s.put F.FLT_ALARM_CORR_SEEN 1
  else if eff = 2 then s.put F.FLT_ALARM_UCC_SEEN 1
  else if eff = 3 then s.put F.FLT_ALARM_FATAL_SEEN 1
  else s

/-- A source raises a fault (FAULT_RAISE, FAULT_ESCALATE: R458, R459, R463, R468): addr is the failing word where R471 asks for one,
inj says that an injection caused it, trig that the same occurrence raises a trigger of R426 of its own. -/
def State.raiseWith (s : State) (i inst addr : Nat) (inj trig : Bool) : State :=
  let d := s.defLevel i
  let esc := !inj && decide (1 ≤ d) && s.escalates i d
  let e := if esc then min 3 (d + 1) else d
  let s := if srcHeld i then (s.withFlt { s.flt with held := (i, inst) :: s.flt.held.filter (· ≠ (i, inst)) }) else s
  let (coal, s) := s.record (s.faultRec i inst addr d e esc false inj)
  let s := if coal then s else s.history (srcCode i) e esc false inj
  let s := s.alarmLevel e
  let s := if esc then (s.incSat F.FLT_CNT_ESCALATED).put F.FLT_ALARM_ESC_SEEN 1 else s
  let s := if e = 0 then s else s.setPending i inst e esc inj
  if e = 3 && !inj && !trig then s.flintTrigger i 12 (srcCode i / 256) else s

/-- A fault of source i at instance inst. -/
def State.raise (s : State) (i inst : Nat) : State := s.raiseWith i inst 0 false false

/-- A fault whose occurrence raises trigger code of R426 as well; the trigger comes with it (R463). -/
def State.raiseTrig (s : State) (i inst code detail : Nat) (flint : Bool) : State :=
  let s := s.raiseWith i inst 0 false true
  if flint then s.flintTrigger i code detail else s.trigger code detail

/-- The condition of a Held source has ended at every instance. -/
def State.condEndAll (s : State) (i : Nat) : State := s.withFlt { s.flt with held := s.flt.held.filter (fun e => e.1 ≠ i) }

/-- The condition of a Held source has ended at an instance (R460). -/
def State.condEnd (s : State) (i inst : Nat) : State :=
  s.withFlt { s.flt with held := s.flt.held.filter (· ≠ (i, inst)) }

/-! ### Quiescence (R124 to R126, R462) -/

/-- Page p, or its group, is under block reset or in its quiescence window (R20, R115, R125). -/
def State.quiet (s : State) (p : Nat) : Bool := s.rst.blocks.any (fun b => b.page = p || b.page = groupPage p)

/-- A block reset of page p, or of its group, has not finished (R20, R123). -/
def State.blockRunning (s : State) (p : Nat) : Bool := s.rst.blocks.any (fun b => (b.page = p || b.page = groupPage p) && b.running)

/-- A block reset of GOV, SAF or CSF has not finished: FIELD_OK is low (R124). -/
def State.safetyBlock (s : State) : Bool := s.blockRunning 0x0B || s.blockRunning 0x40 || s.blockRunning 0x68

/-- A masked detection (CONSEQUENTIAL_FAULT): recorded with CONSEQ, counted, never pending (R126, R462). -/
def State.conseq (s : State) (i inst addr : Nat) : State :=
  let d := s.defLevel i
  let s := s.incSat F.RST_BLK_STAT_CONSEQ_CNT
  let (coal, s) := s.record (s.faultRec i inst addr d d false true false)
  if coal then s else s.history (srcCode i) d false true false

/-- A detection by a detector that the windows of the given pages mask (R124, R126). -/
def State.detect (s : State) (pages : List Nat) (i inst addr : Nat) (inj : Bool) : State :=
  if pages.any s.quiet then s.conseq i inst addr else s.raiseWith i inst addr inj false

/-! ### Injection (R467, R468) -/

/-- Source i's checker is armed. -/
def State.armed (s : State) (i : Nat) : Bool := s.g F.FLT_INJ_STATE = 1 && s.g F.FLT_INJ_INDEX = i

/-- The armed checker of source i makes its next check, which fails; the injection is consumed. -/
def State.consumeInj (s : State) (i : Nat) : State :=
  if s.armed i then
    let s := ((s.put F.FLT_INJ_STATE 2).put F.FLT_INJ_ARM 0).evt F.FLT_EVT_INJ_DONE
    (s.incSat F.FLT_CNT_INJECTED).put F.FLT_ALARM_INJ_SEEN 1
  else s

/-! ### Acknowledging and clearing (R460) -/

/-- A write of 1 to the bit of source i in FLT_UNACK. -/
def State.ackSource (s : State) (i : Nat) : State := s.put (fltUnack i) 0

/-- A write of 1 to the bit of source i in FLT_PEND. -/
def State.clearSource (s : State) (i : Nat) : State :=
  if s.on (fltPend i) then
    if s.flt.held.any (fun e => e.1 = i) then s.evt F.FLT_EVT_CLR_REJ
    else
      let l := s.g (fltLvl i)
      let s := ((s.put (fltPend i) 0).put (fltUnack i) 0).put (fltLvl i) 0
      let s := s.withFlt { s.flt with injOnly := s.flt.injOnly.filter (· ≠ i), escalated := s.flt.escalated.filter (· ≠ i), order := s.flt.order.filter (· ≠ i) }
      if l ≥ 2 then s.event 0x7080 (leBytes 2 (srcCode i) ++ [b8 l]) else s
  else s

/-- A fault is uncleared at the fatal level (R422, R449). -/
def State.fatalPending (s : State) : Bool := (List.range 75).any (fun i => s.on (fltPend i) && s.g (fltLvl i) = 3)

/-- Highest effective level pending (R469). -/
def State.topLevel (s : State) : Nat := (List.range 75).foldl (fun m i => if s.on (fltPend i) then max m (s.g (fltLvl i)) else m) 0

/-- Number of pending sources (R469). -/
def State.pendCount (s : State) : Nat := ((List.range 75).filter (fun i => s.on (fltPend i))).length

/-- Code of the newest pending fault at the highest level; 0 when none (R469). -/
def State.topSource (s : State) : Nat :=
  match s.flt.order.find? (fun i => s.on (fltPend i) && s.g (fltLvl i) = s.topLevel) with
  | some i => srcCode i
  | none => 0

/-- Each command is one cycle of its own: what R459 and R429 say of one cycle is said of one command (log 4). -/
def State.begin (s : State) : State := (s.withFlt { s.flt with fresh := [] }).withSaf { s.saf with trigNow := 0 }

end Sys2Proof.Machine
end

