-- ==== Sys2Proof/Machine/Reset.lean ====
section
/-! DEFINITION. Fuse sensing, the boot journal, whole-device resets, their release, and the order of the boot steps (04_reset_and_boot). -/

namespace Sys2Proof.Machine

/-! ### Fuses (R11, R526, R542) -/

/-- Content of a fuse row. -/
def State.fuse (s : State) (r : Nat) : Nat := s.fus.rows.getD r 0

/-- Fuses of the low n bits that are programmed. -/
def countOnes : Nat → Nat → Nat
  | 0, _ => 0
  | n + 1, v => v % 2 + countOnes n (v / 2)

/-- Lifecycle state of the four LC fuses; a pattern outside the table reads as DECOM (R526). -/
def lifecycle (lc : Nat) : Nat :=
  if lc % 16 = 0 then 0 else if lc % 16 = 1 then 1 else if lc % 16 = 3 then 2 else if lc % 16 = 7 then 3 else 4

/-- The register fields that show fuse rows other than LC take the rows' values (R11, R544). -/
def State.senseRows (s : State) : State :=
  let rev := s.fuse 18
  let s := ((s.put F.SEC_KEYREV_MAIN rev).put F.SEC_KEYREV_GRANITE (rev / 16)).put F.SEC_KEYREV_DEBUG (rev / 256)
  let s := (s.put F.FUS_OPT_STUCK_IGNORE (s.fuse 3)).put F.FUS_OPT_PROF_CMD (s.fuse 3 / 2)
  let s := (s.put F.RST_PIN_STUCK_IGNORE (s.fuse 3)).put F.PRF_STAT_CMD_OK (s.fuse 3 / 2)
  let s := ((s.put F.FUS_HW_TYPE_HW_TYPE (s.fuse 1)).put F.FUS_UID_LO_UID (s.fuse 2)).put F.FUS_UID_HI_UID (s.fuse 2 / 2 ^ 32)
  let n := countOnes 128 (s.fuse 19)
  let s := (s.put F.GOV_APPROVAL_COUNT n).put F.GOV_APPROVAL_EXHAUSTED (bit (n = 128))
  s.put F.UPD_STAT_ROLL_CNT (countOnes 64 (s.fuse 20))

/-- The fuses are sensed by a cold or warm reset; LC takes effect here alone (R114, R527). -/
def State.senseFuses (s : State) : State :=
  let s := s.senseRows
  ((s.put F.SEC_LC_STATE (lifecycle (s.fuse 0))).put F.SEC_LC_LC_BITS (s.fuse 0)).put F.FUS_STAT_SENSED 1

/-- A bit of a row is programmed, and the row sensed again (R544). -/
def State.program (s : State) (row b : Nat) : State :=
  (s.withFus { s.fus with rows := s.fus.rows.set row (s.fuse row ||| 2 ^ b) }).senseRows

/-! ### The boot journal (R133 to R137, R618) -/

/-- Where the journal lies in retention RAM. -/
def journalBase : Nat := 0x1803C000

/-- A field of n bytes of the journal at an offset. -/
def State.jget (s : State) (o n : Nat) : Nat := s.le (journalBase + o) n

/-- Set a field of the journal. -/
def State.jput (s : State) (o n v : Nat) : State := s.setBytes (journalBase + o) (leBytes n v)

/-- The header's CRC-32 is brought up to date (R134). -/
def State.jseal (s : State) : State := s.jput 0x1C 4 (crc32 (s.bytes journalBase 0x1C))

/-- A journal header is valid: MAGIC, VERSION, CUR and CRC (R134). -/
def headerOk (h : List Byte) : Bool :=
  ofLe (slice h 0 2) = 0xB0A7 && ofLe (slice h 2 1) = 1 && ofLe (slice h 3 1) < 4 && ofLe (slice h 0x1C 4) = crc32 (slice h 0 0x1C)

/-- Offset of the current boot record. -/
def State.jrec (s : State) : Nat := 32 + 272 * (s.jget 3 1 % 4)

/-- Where flash copy i of the journal lies (R548). -/
def journalCopy (i : Nat) : Nat := 0x60010000 + 0x1000 * (i % 2)

/-- The flash copy i is valid: its own CRC-32 follows its 1,120 bytes (R133; DESIGN CHOICE for the place, log 8). -/
def State.copyOk (s : State) (i : Nat) : Bool :=
  let b := s.bytes (journalCopy i) 1120
  headerOk b && s.le (journalCopy i + 1120) 4 = crc32 b

/-- A flash write waits for the temperature window (R499). -/
def State.defer (s : State) (d : Deferred) : State :=
  s.withThm { s.thm with deferred := if s.thm.deferred.contains d then s.thm.deferred else s.thm.deferred ++ [d] }

/-- The journal is written to the older flash copy, or waits for the window (R136, R498). -/
def State.journalFlash (s : State) : State :=
  if s.on F.THM_STAT_FLASH_OK then
    let b := s.bytes journalBase 1120
    (s.setBytes (journalCopy s.rst.copy) (b ++ leBytes 4 (crc32 b))).withRst { s.rst with copy := 1 - s.rst.copy }
  else s.defer .journal

/-- Microseconds from reset release (R135). -/
def State.sinceRelease (s : State) : Nat := (s.now - s.rst.released) / 400

/-- Eight bytes of a step entry (R135). -/
def State.entryBytes (s : State) (step result path detail : Nat) : List Byte :=
  [b8 step, b8 (result % 16 + 16 * path)] ++ leBytes 2 detail ++ leBytes 4 s.sinceRelease

/-- A new entry of the current boot record; before JOURNAL it waits outside (R133, R135). -/
def State.newEntry (s : State) (step result path detail : Nat) : State :=
  let e := s.entryBytes step result path detail
  if s.rst.journalOpen then
    if s.rst.entry < 32 then
      (s.setBytes (journalBase + s.jrec + 16 + 8 * s.rst.entry) e).withRst { s.rst with entry := s.rst.entry + 1 }
    else s
  else s.withRst { s.rst with early := s.rst.early ++ [e] }

/-- The entry of the step under way is brought up to date (R136). -/
def State.endEntry (s : State) (result path detail : Nat) : State :=
  let e := s.entryBytes (s.g F.RST_BOOT_STAT_STEP) result path detail
  if s.rst.journalOpen then s.setBytes (journalBase + s.jrec + 16 + 8 * ((s.rst.entry - 1) % 32)) e
  else s.withRst { s.rst with early := s.rst.early.dropLast ++ [e] }

/-- The AVOID bits in force: those of the journal, and those set before it was open (R131). -/
def State.avoidBits (s : State) : Nat :=
  (if s.rst.journalOpen || headerOk (s.bytes journalBase 32) then s.jget 8 4 else 0) ||| s.rst.avoid

/-- A step's AVOID bit is set (R130). -/
def State.setAvoid (s : State) (c : Nat) : State :=
  if s.rst.journalOpen then
    let v := s.jget 8 4 ||| 2 ^ c
    ((s.jput 8 4 v).jseal).put F.RST_BJ_AVOID_AVOID v
  else s.withRst { s.rst with avoid := s.rst.avoid ||| 2 ^ c }

/-- AVOID bits of the steps in a list are cleared (R131, R558). -/
def State.clearAvoid (s : State) (l : List Nat) : State :=
  if s.rst.journalOpen then
    let v := l.foldl (fun v c => if tbit v c then v - 2 ^ c else v) (s.jget 8 4)
    ((s.jput 8 4 v).jseal).put F.RST_BJ_AVOID_AVOID v
  else s

/-- TRIES of the header (R137). -/
def State.setTries (s : State) (n : Nat) : State :=
  (if s.rst.journalOpen then (s.jput 0xC 1 n).jseal else s).put F.RST_BOOT_STAT_TRIES n

/-- OUTCOME of the current boot record, written to flash (R135, R136). -/
def State.outcome (s : State) (o : Nat) : State :=
  if s.rst.journalOpen then (s.jput (s.jrec + 6) 1 o).journalFlash else s

/-! ### Order of the boot steps (R128 to R132) -/

/-- Steps that are optional. -/
def stepOptional (c : Nat) : Bool := c = 5 || c = 9

/-- Steps that have an alternative. -/
def stepAlt (c : Nat) : Bool := c = 6 || c = 7 || c = 8 || c = 10 || c = 11 || c = 12

/-- A step starts: STARTED, or ALT while its AVOID bit is set and it has an alternative (R130, R131). -/
def State.startPlain (s : State) (c : Nat) : State :=
  let s := s.put F.RST_BOOT_STAT_STEP c
  if stepAlt c && tbit s.avoidBits c then
    ((s.raise S.RST_BOOT_ALT 0).newEntry c 5 1 0).withRst { ((s.raise S.RST_BOOT_ALT 0).newEntry c 5 1 0).rst with alt := true }
  else (s.newEntry c 1 0 0).withRst { (s.newEntry c 1 0 0).rst with alt := false }

/-- The step with code c is next: MBIST runs in a cold boot only, and an avoided optional step is recorded SKIPPED (R128, R131). -/
def State.startStep (s : State) (c : Nat) : State :=
  if c = 5 && !s.rst.cold then s.startPlain 6
  else if stepOptional c && tbit s.avoidBits c then
    (((s.put F.RST_BOOT_STAT_STEP c).raise S.RST_BOOT_ALT 0).newEntry c 4 0 0).startPlain (c + 1)
  else s.startPlain c

/-- The step under way ends DONE or as its alternative, and the next starts. -/
def State.stepDone (s : State) (detail : Nat) : State :=
  let c := s.g F.RST_BOOT_STAT_STEP
  (s.endEntry (if s.rst.alt then 5 else 2) (bit s.rst.alt) detail).startStep (c + 1)

/-- The step with code c is under way and no reset holds the device. -/
def State.inStep (s : State) (c : Nat) : Bool :=
  s.rst.scope.isNone && s.g F.RST_BOOT_STAT_STEP = c && s.g F.RST_BOOT_STAT_PHASE = 0

/-! ### What a reset sets (R10, R114) -/

/-- Pages whose live fields a warm reset leaves as they are: SYS, CLK, RST, SEC and FUS (R11, R85). -/
def liveKept (p : Nat) : Bool := p = 0x00 || p = 0x01 || p = 0x02 || p = 0x78 || p = 0x7A

/-- The bits of a register that a warm reset sets. -/
def warmMask (a : Nat) : Word :=
  scopeMask (if liveKept (a / 4096) then [.block, .warm] else [.block, .warm, .live]) a

/-- The bits of a register that a block reset sets. -/
def blockMask (a : Nat) : Word := scopeMask [.block] a

/-- A bank after the bits of a mask have taken their reset values. -/
def resetBank (mask : Nat → Word) (l : List (Nat × Word)) : List (Nat × Word) :=
  (l.map (fun e => (e.1, (e.2 &&& ~~~ (mask e.1)) ||| (resetWord e.1 &&& mask e.1)))).filter (fun e => e.2 ≠ resetWord e.1)

/-- Memory that keeps its contents through a cold reset: the boot ROM and flash always, retention RAM while VDD_AON stayed up (R114). -/
def coldKeeps (aon : Bool) (a : Nat) : Bool :=
  match regionOf a with
  | some .rom => true
  | some .flash => true
  | some .retention => aon
  | _ => false

/-- The three straps that the next release samples, kept through every reset. -/
def State.keepRst (s : State) (r : Rst) : Rst :=
  { r with
    pg := s.rst.pg, pinHeld := s.rst.pinHeld, thmHeld := s.rst.thmHeld, straps := s.rst.straps, stuckDue := s.rst.stuckDue,
    copy := s.rst.copy, pinClears := s.rst.pinClears, avoid := 0 }

/-- What a cold reset leaves (R114): reset values, but for memory that keeps its contents, flash-held records, fuses and pins. -/
def State.afterCold (s : State) (aon : Bool) : State :=
  { State.blank with
    mem := s.mem.filter (fun e => coldKeeps aon e.1)
    now := s.now, fresh := s.fresh, pending := s.pending, readData := s.readData
    evr := { Evr.init with ckRet := if aon then s.evr.ckRet else none, ckFlash := s.evr.ckFlash }
    rst := { s.keepRst Rst.init with scope := some .cold, cold := true, deepExit := false }
    flx := { Flx.init with record := s.flx.record, writtenAt := s.flx.writtenAt }
    gov := { Gov.init with slots := s.gov.slots, active := s.gov.active }
    sec := { Sec.init with trst := s.sec.trst, testMode := s.sec.testMode }
    fus := { Fus.init with rows := s.fus.rows }
    upd := { Upd.init with slots := s.upd.slots, fusePend := s.upd.fusePend, trial := s.upd.trial, trialFailed := s.upd.trialFailed || s.upd.trial.isSome, settings := s.upd.settings }
    pwr := { Pwr.init with wake := s.pwr.wake, lyState := s.pwr.lyState } }

/-- A record in the queue, or a repeat a tracker counted, is lost at a warm reset (R475). -/
def State.evrWarm (s : State) : Evr :=
  { s.evr with
    queue := [], trackers := [], bcSeen := [0, 0], bcAt := [none, none],
    loss := s.evr.loss || !s.evr.queue.isEmpty || s.evr.trackers.any (fun t => 0 < t.repeats) }

/-- Records lost at a warm reset (R475). -/
def State.warmLost (s : State) : Nat := s.evr.queue.length + (s.evr.trackers.filter (fun t => 0 < t.repeats)).length

/-- A link through a warm reset: the receiver keeps its CDR, all else is gone (R114, R620). -/
def Link.afterWarm (l : Link) : Link := { Link.init with rate := l.rate }

/-- What a warm reset leaves (R114): warm and block fields reset, pending banks discarded, Slate with the command store, retention RAM,
the root, the epoch and lock-out kept. -/
def State.afterWarm (s : State) : State :=
  let sig := [s.g (F.LNK_STAT_SIG_DET 0), s.g (F.LNK_STAT_SIG_DET 1)]
  let cdr := [s.g (F.LNK_STAT_CDR_LOCK 0), s.g (F.LNK_STAT_CDR_LOCK 1)]
  let crit := s.g F.THM_STAT_CRIT_CLR
  let t := { State.blank with
    regs := resetBank warmMask s.regs, shadow := resetBank warmMask s.shadow, mem := s.mem
    now := s.now, ohSub := s.ohSub, lt := s.lt, slew := 0, fresh := s.fresh, pending := s.pending, readData := s.readData
    flt := { s.flt with fresh := [], held := [] }
    evr := s.evrWarm
    rst := { s.keepRst Rst.init with scope := some .warm, cold := false, deepExit := false, avoid := 0 }
    quartz := { s.quartz with masked := true, rcTrip := false }
    lnkA := s.lnkA.afterWarm, lnkB := s.lnkB.afterWarm
    cmd := { Cmd.init with rings := s.cmd.rings, doneDue := s.cmd.doneDue }
    gov := { Gov.init with slots := s.gov.slots, active := s.gov.active }
    flx := { Flx.init with record := s.flx.record, writtenAt := s.flx.writtenAt }
    thm := { Thm.init with peaked := s.thm.peaked, deferred := s.thm.deferred }
    pwr := { Pwr.init with wake := s.pwr.wake, lyState := s.pwr.lyState, saved := s.pwr.saved }
    sec := { Sec.init with vault := s.sec.vault, trst := s.sec.trst, testMode := s.sec.testMode, bistDue := s.sec.bistDue }
    fus := { s.fus with job := none }
    upd := { Upd.init with
      slots := s.upd.slots, fusePend := s.upd.fusePend, trial := s.upd.trial,
      trialFailed := s.upd.trialFailed || s.upd.trial.isSome, verifying := s.upd.verifying,
      settings := s.upd.settings } }
  let t := ((t.put (F.LNK_STAT_SIG_DET 0) (sig.getD 0 0)).put (F.LNK_STAT_SIG_DET 1) (sig.getD 1 0))
  let t := ((t.put (F.LNK_STAT_CDR_LOCK 0) (cdr.getD 0 0)).put (F.LNK_STAT_CDR_LOCK 1) (cdr.getD 1 0))
  let t := t.put F.THM_STAT_CRIT_CLR crit
  if s.warmLost = 0 then t else (t.addSat F.EVR_CNT_DROP s.warmLost).put F.FLT_ALARM_EVR_DROP 1

/-- A bit being programmed ends before a warm reset takes the device down (R544). -/
def State.endJob (s : State) : State :=
  match s.fus.job with
  | some (row, bits, _) => bits.foldl (fun s b => s.program row b) s
  | none => s

/-- Power goes during programming: each bit may read either way (R544, log 7). -/
def State.endJobFree (s : State) : State :=
  match s.fus.job with
  | some (row, bits, _) => bits.foldl (fun s b =>
      let (w, s) := s.free
      if w % 2 = 1 then s.program row b else s) s
  | none => s

/-- The TAP after a reset: open at level 2 in RAW and TEST, closed otherwise (R526, R530). -/
def State.tapReset (s : State) : State :=
  let open_ := s.g F.SEC_LC_STATE < 2
  let s := (s.put F.SEC_TAP_OPEN (bit open_)).put F.SEC_TAP_DEBUG_HALT 0
  (s.put F.SEC_TAP_BUSY 0).withSec { s.sec with tapLevel := if open_ then 2 else 0 }

/-! ### The RC oscillator (R95 to R98) -/

/-- An RC attempt begins: number n since the reset. -/
def State.rcAttempt (s : State) (n : Nat) : State :=
  let s := s.put F.CLK_RC_START_ATTEMPTS n
  s.withQuartz { s.quartz with rc := .attempt, tries := n }

/-! ### Starting a reset (R113 to R116) -/

/-- A cold reset by a source: the one cause bit, the RC oscillator when PMIC_PG is high (R64, R113, R114). -/
def State.coldReset (s : State) (cause : Fld) (aon : Bool) : State :=
  let lvl := s.g F.RST_PIN_LEVEL
  let s := (((s.endJobFree.afterCold aon).senseFuses.tapReset).put cause 1).put F.RST_PIN_LEVEL lvl
  if s.rst.pg then s.rcAttempt 1 else s

/-- The RC oscillator restarts with a warm reset; one that eight attempts left dead restarts for RST_N alone (R97, R98). -/
def State.rcRestart (s : State) (pin : Bool) : State :=
  if s.quartz.rc = .off && !pin then s else s.rcAttempt 1

/-- A warm reset by a source (R113 to R115): the cause bit is added; a cold reset under way keeps the device. -/
def State.warmReset (s : State) (cause : Fld) (pin : Bool) : State :=
  if s.rst.scope = some .cold then s
  else
    let rf := s.g F.CLK_MODE_RATIO_FREE
    let s := ((s.endJob.afterWarm).senseFuses.tapReset).put cause 1
    let s := (s.put F.CLK_STAT_RF_ACTIVE rf).put F.CLK_STAT_SSC_ACTIVE 0
    s.rcRestart pin

/-! ### How a boot ends early (R130, R132, R140) -/

/-- A self-test result other than PASS is raised after the boot that follows it (R537). -/
def State.bistRaise (s : State) : State :=
  if s.sec.bistDue then (s.withSec { s.sec with bistDue := false }).raise S.BST_FAIL 0 else s

/-- The boot ends in BOOT_STOP: links, register access and UPD run from here (R132); a trial boot that reaches it fails, with a warm reset (R560). -/
def State.bootStop (s : State) : State :=
  let s := s.bistRaise.put F.RST_BOOT_STAT_PHASE 2
  let s := ((s.setTries 0).outcome 2).put F.SAF_FIELD_REQ 0 |>.soutsOff
  let s : State := s.withCmd { s.cmd with served := true }
  if s.upd.trial.isSome then s.warmReset F.RST_CAUSE_SW false else s

/-- ROM recovery begins (R140, R564): the UPDATE ring is empty, EXP of channel 3 is 1, Link B and SIDE are disabled. -/
def State.enterRecovery (s : State) : State :=
  let s := (s.bistRaise.put F.RST_BOOT_STAT_PHASE 3).put F.UPD_STAT_RECOVERY 1
  let s := s.outcome 3
  let s := ((s.put F.SAF_STAT_FSTATE 0).put F.SAF_FIELD_REQ 0).soutsOff
  let s : State := s.withCmd { s.cmd with rings := s.cmd.rings.set 3 [], served := true }
  let s := s.put (F.CMD_EXP_EXP 3) 1
  let s := ((s.put (F.UNIT_CTRL_ENABLE 0x09) 0).put (F.LNK_STAT_STATE 1) 0).put (F.UNIT_CTRL_ENABLE 0x0A) 0
  s.put F.SIDE_STAT_STATE 0

/-- The step under way is recorded FAILED: its AVOID bit, the fault, the journal in flash (R130, R136). -/
def State.stepFailed (s : State) (detail : Nat) : State :=
  let c := s.g F.RST_BOOT_STAT_STEP
  let s := s.endEntry 3 (bit s.rst.alt) detail
  let s := (s.setAvoid c).raise S.RST_BOOT_ALT 0
  if s.rst.journalOpen then s.journalFlash else s

/-- A failed step goes on: an optional step is skipped, a primary path takes its alternative, and otherwise the boot stops or enters recovery (R130, R132). -/
def State.stepFails (s : State) (detail : Nat) : State :=
  let c := s.g F.RST_BOOT_STAT_STEP
  let was := s.rst.alt
  let s := s.stepFailed detail
  if stepOptional c then s.startStep (c + 1)
  else if stepAlt c && !was then
    let s := s.newEntry c 5 1 0
    s.withRst { s.rst with alt := true }
  else if c = 7 || c = 8 then s.enterRecovery
  else s.bootStop

/-! ### Release (R64, R74 to R76, R118, R120, R537) -/

/-- Three samples agree. -/
def agree (l : List Bool) : Bool := l.all (fun b => b) || l.all (fun b => !b)

/-- Profile of the straps; samples that disagree select PRF0 (R75, R76). -/
def strapProfile (t : Straps) : Nat :=
  if agree t.prof0 && agree t.prof1 then bit (t.prof0.getD 0 false) + 2 * bit (t.prof1.getD 0 false) else 0

/-- The straps are sampled and recorded (R74, R76, R618). -/
def State.sampleStraps (s : State) : State :=
  let t := s.rst.straps
  let d := bit (!(agree t.prof0 && agree t.prof1)) + 2 * bit (!(agree t.rcvyN))
  let s := s.put F.PRF_STAT_STRAP (strapProfile t)
  let s := s.withRst { s.rst with recoveryStrap := t.rcvyN.all (fun b => !b) }
  if d = 0 then s.newEntry 2 2 0 0 else (s.evt F.RST_EVT_STRAP).newEntry 2 5 1 d

/-- A BIST result that still reads RUNNING at the release becomes INCOMPLETE (R537, R541). -/
def State.bistRelease (s : State) : State :=
  let s := if s.g F.BST_LB_STAT_RESULT = 1 then
      -- patterns executed before the interruption: fewer than COUNT, which the run updates after each (R536; log 7)
      let (w, s) := s.free
      let s := s.put F.BST_LB_STAT_EXEC (w % max 1 (s.g F.BST_LB_CNT_COUNT))
      let s := (s.put F.BST_LB_STAT_RESULT 4).evt F.BST_EVT_LB_DONE
      let s := s.withSec { s.sec with bistDue := true }
      s.event 0x7980 ([b8 (s.g F.BST_LB_STAT_PART), 4] ++ leBytes 3 (s.g F.BST_LB_STAT_EXEC))
    else s
  if s.g F.BST_MB_STAT_RESULT = 1 then
    let s := (s.put F.BST_MB_STAT_RESULT 5).evt F.BST_EVT_MB_DONE
    let s := s.withSec { s.sec with bistDue := true }
    s.event 0x7980 [2, 5]
  else s

/-- Quartz is in LOCKED, HOLDOVER, SWITCH or SLEW (R91). -/
def State.rootUp (s : State) : Bool := decide (4 ≤ s.g F.CLK_STAT_STATE) && decide (s.g F.CLK_STAT_STATE ≤ 7)

/-- The root is locked: ROOT_LOCK ends with the reference in DETAIL, and FUSE_LOAD starts (R128). -/
def State.bootRoot (s : State) : State :=
  if s.inStep 3 && s.rootUp then s.stepDone (s.g F.CLK_STAT_REF_ACT) else s

/-- The reset is released: lock-out as R448 states, straps, the entries of the new boot, and ROOT_LOCK under way. -/
def State.release (s : State) : State :=
  let s := if s.rst.pinClears then s.put F.SAF_STAT_LOCKED 0 else s
  let stuck := s.rst.stuckDue
  let s := s.withRst { s.rst with scope := none, released := s.now, lit := false, stuckDue := false, pinClears := false, early := [], journalOpen := false, entry := 0 }
  let s := if stuck then s.newEntry 0x20 2 0 (s.g F.RST_PIN_STUCK_CNT % 65536) else s
  let s := s.newEntry 1 2 0 (s.g F.CLK_RC_START_FAIL_STEP)
  let s := s.sampleStraps.bistRelease
  let s := (s.put (F.LNK_STAT_STATE 0) 1).put (F.LNK_STAT_STATE 1) 1
  (s.startStep 3).bootRoot

/-- The reset ends once PMIC_PG and RST_N are high, no CRIT hold stands and the RC oscillator has passed (R64, R97, R118, R497). -/
def State.tryRelease (s : State) : State :=
  if s.rst.scope.isSome && s.rst.pg && !s.rst.pinHeld && !s.rst.thmHeld && s.quartz.rc = .running then s.release else s

/-- RST_N is low and not ignored: the reset is held by it (R64, R122). -/
def State.holdPin (s : State) : State :=
  s.withRst { s.rst with pinHeld := s.g F.RST_PIN_LEVEL = 0 && !s.on F.RST_PIN_STUCK }

/-- What the next release samples on PROF0, PROF1 and RCVY_N (R74). -/
def State.setStraps (s : State) (t : Straps) : State := s.withRst { s.rst with straps := t }

end Sys2Proof.Machine
end

