-- ==== Sys2Proof/Machine/LinkOps.lean ====
section
/-! DEFINITION. Operations on the Gylys links and their back channels, and FIELD_OK's terms, which several units use (05_gylys_link, 13_functional_safety). -/

namespace Sys2Proof.Machine

/-! ### FIELD_OK (R421, R425) -/

/-- Every used safety input is HEALTHY. -/
def State.inputsOk (s : State) : Bool := (List.range 4).all (fun n => !s.on (F.SAF_SIN_CFG_USED n) || s.g (F.SAF_SIN_STAT_STATE n) = 2)

/-- Every used safety output is ON and not in FAULT. -/
def State.outputsOk (s : State) : Bool := (List.range 2).all (fun k => !s.on (F.SAF_SOUT_CFG_USED k) || s.g (F.SAF_SOUT_STAT_STATE k) = 2)

/-- The Clocks good term. -/
def State.clocksOk (s : State) : Bool := s.on F.CLK_STAT_MON_GOOD && s.rootUp

/-- The Flint alive term: no expiry, no mismatch, and not stopped (R421, R505). -/
def State.flintOk (s : State) : Bool := !s.saf.wdtExpired && !s.saf.lockstep && !s.saf.halted && !s.flintStopped

/-- Every term of R421 that the safety domain evaluates, but Beam lit. -/
def State.hwTerms (s : State) : Bool := !s.on F.SAF_STAT_LOCKED && s.inputsOk && s.outputsOk && s.clocksOk && s.flintOk

/-- All terms of R421 but Beam lit. -/
def State.allTerms (s : State) : Bool := s.hwTerms && s.on F.SAF_FIELD_REQ

/-- LOW to ARMED when all terms hold, ARMED or HIGH to LOW when one does not (FIELD_ARM, R425). -/
def State.settle (s : State) : State :=
  let f := s.g F.SAF_STAT_FSTATE
  if f = 1 && s.allTerms && !s.safetyBlock then s.put F.SAF_STAT_FSTATE 2
  else if (f = 2 || f = 3) && !s.allTerms then s.put F.SAF_STAT_FSTATE 1
  else s

/-- The core logic is stopped or unpowered: DEEP, OFF, and the waits of an entry or exit (R505, R507). -/
def State.poweredStop (s : State) : Bool := s.pwr.st = .deep || s.pwr.st = .off || s.pwr.st = .ackEntry || s.pwr.st = .ackExit

/-! ### Links -/

/-- Link l: 0 is Link A, any other Link B. -/
def State.link (s : State) (l : Nat) : Link := if l = 0 then s.lnkA else s.lnkB

/-- Change the record of link l. -/
def State.modLink (s : State) (l : Nat) (f : Link → Link) : State :=
  if l = 0 then (s.withLnkA (f s.lnkA)) else s.withLnkB (f s.lnkB)

/-- State of link l (R156). -/
def State.lst (s : State) (l : Nat) : Nat := s.g (F.LNK_STAT_STATE l)

/-- Link l is ACTIVE. -/
def State.active (s : State) (l : Nat) : Bool := s.lst l = 5

/-- Bytes a frame takes in the receive buffer: header and payload (DESIGN CHOICE, log 9). -/
def RxFrame.size (f : RxFrame) : Nat := 4 + f.payload.length

/-- Fill of the receive buffer (R155). -/
def Link.fill (l : Link) : Nat := (l.rx.map RxFrame.size).sum + (match l.waiting with | some p => 24 + p.body.length | none => 0)

/-- An ordered set is issued on the back channel (R154). -/
def Link.send (l : Link) (o : OrdSet) : Link := { l with sets := l.sets ++ [o] }

/-- The link leaves its state for another: a link that leaves ACTIVE drops its queued SAFE frames and the frame on the wire (R154, R156, R159). -/
def State.linkTo (s : State) (l st : Nat) : State :=
  let was := s.active l
  let s := s.put (F.LNK_STAT_STATE l) st
  if was && st ≠ 5 then s.modLink l (fun k => { k with safe := [], wire := none, busy := 0, greeted := false, opened := false }) else s

/-- The frame being received is aborted and counted (R159). -/
def State.abortFrame (s : State) (l : Nat) : State := s.incSat (F.LNK_FRM_CNT_CNT_LO l)

/-- The device powers a link down (R156). -/
def State.linkOff (s : State) (l : Nat) : State :=
  ((s.linkTo l 0).put (F.LNK_STAT_SIG_DET l) 0).put (F.LNK_STAT_CDR_LOCK l) 0

/-- Queue an ACK frame on link l (R206). -/
def State.queueAck (s : State) (l : Nat) (p : List Byte) : State := s.modLink l (fun k => { k with ack := k.ack ++ [p] })

/-- Queue a SAFE frame: only while ACTIVE and after the first STATUS; the oldest of four gives way (R154). -/
def State.queueSafe (s : State) (l : Nat) (p : List Byte) : State :=
  if s.active l && (s.link l).greeted then
    s.modLink l (fun k => { k with safe := (if k.safe.length < 4 then k.safe else k.safe.drop 1) ++ [p] })
  else s

/-- Queue an EVENT frame; a full queue of 64 drops it and counts (R154, R466). -/
def State.queueEvent (s : State) (l : Nat) (p : List Byte) : State :=
  if (s.link l).event.length < 64 then s.modLink l (fun k => { k with event := k.event ++ [p] })
  else (s.incSat (F.LNK_BC_DROP_DROP l)).put F.FLT_ALARM_BC_DROP 1

/-- BOOT_STOP, recovery, lock-out and the other FLAGS of a STATUS frame (R153). -/
def State.statusFlags (s : State) (l : Nat) : Nat :=
  bit (s.g F.SAF_STAT_FSTATE = 3) + 2 * s.g F.SAF_STAT_LOCKED + 4 * s.g F.SIDE_STAT_SPLIT + 8 * s.g F.CLK_STAT_REF_ACT
  + 16 * s.g F.CSF_STAT_LT_VALID + 32 * s.g (F.LNK_STAT_PAUSED l) + 64 * bit (s.g F.RST_BOOT_STAT_PHASE = 2) + 128 * s.g F.RST_EPOCH_STAT_SAVED

/-- ERR_N is driven low (R464). -/
def State.errN (s : State) : Bool :=
  s.rst.scope.isSome || decide (s.g F.RST_BOOT_STAT_STEP < 7) || s.g F.RST_BOOT_STAT_PHASE = 2 || s.g F.RST_BOOT_STAT_PHASE = 3
  || (List.range 75).any (fun i => s.on (fltPend i) && decide (s.g F.FLT_CTRL_ERRPIN_LVL ≤ s.g (fltLvl i)))
  || (!s.on F.CLK_STAT_ROOT_OK && s.pwr.st ≠ .deep && s.pwr.st ≠ .off && s.pwr.st ≠ .ackEntry && s.pwr.st ≠ .ackExit && s.pwr.st ≠ .resume)

/-- The fault summary of R469: the word that FLT_STAT shows. -/
def State.fltStat (s : State) : Nat :=
  min 255 s.pendCount + 256 * s.topLevel + 1024 * bit s.errN + 2048 * bit (s.flt.escalated.any (fun i => s.on (fltPend i)))
  + 4096 * s.g F.FLT_ALARM_FATAL_SEEN + 65536 * s.topSource

/-- A STATUS payload; LINK_TIME is filled in when its SOF leaves the ball (R153). -/
def State.statusPayload (s : State) (l : Nat) : List Byte :=
  beBytes 4 (s.g F.RST_EPOCH_EPOCH) ++ beBytes 8 s.ltNs ++ beBytes 6 s.ohMs ++ beBytes 2 (s.statusFlags l)
  ++ beBytes 4 (s.g (F.LNK_BC_DROP_DROP l)) ++ beBytes 4 s.fltStat

/-- Link l is served: LINKS has started the link engines, or the boot ROM serves Link A in a recovery that is not RAW's (R132, R526, R564, R619). -/
def State.linkServed (s : State) (l : Nat) : Bool :=
  s.cmd.served && !(s.g F.RST_BOOT_STAT_PHASE = 3 && (l ≠ 0 || s.g F.SEC_LC_STATE = 0))

/-- A STATUS frame falls due and replaces one still unsent; it waits for LINKS (R153, R154, R619). -/
def State.queueStatus (s : State) (l : Nat) : State :=
  if s.active l && s.linkServed l then
    let p := s.statusPayload l
    s.modLink l (fun k => { k with status := some p, greeted := true })
  else s

/-- The link enters ACTIVE: LTM are counted anew, no exchange has completed, and STATUS goes first (R153, R165, R192). -/
def State.enterActive (s : State) (l : Nat) : State :=
  let s := (s.linkTo l 5).put (F.LNK_LT_DLY_VALID l) 0
  (s.modLink l (fun k => { k with ltm := 0, exch := [] })).queueStatus l

/-! ### Frames in work -/

/-- The frame timer, composition and rendering stop (R90, R494). -/
def State.stopFrames (s : State) : State :=
  ((s.withTln { s.tln with running := false, latched := false, committed := false }).withCmp { s.cmp with bands := [], released := [], recomp := [], tries := [], deferred := false }).withGlare { s.glare with engines := s.glare.engines.map (fun e => { e with boxes := [] }) }

/-- Every tile lane enters OFF (R90, R494). -/
def State.lanesOff (s : State) : State := (List.range 8).foldl (fun s n => s.laneOff n) s

/-- The device's clock in ns (R34, R384). -/
def State.ns (s : State) : Nat := s.now * 5 / 2

/-- The frame timer starts: the first flip is one period away (FRAME_TIMER_START, R623). -/
def State.timerStart (s : State) : State :=
  if s.tln.running then s
  else s.withTln { s.tln with running := true, nextFlip := s.ns + s.cmp.period, adj := 0, latched := false, committed := false }

/-- The frame timer runs while TLN is enabled and the root runs (R623). -/
def State.timerTry (s : State) : State := if s.on (F.UNIT_CTRL_ENABLE 0x50) && s.on F.CLK_STAT_ROOT_OK then s.timerStart else s

/-- Lane n is held in OFF by an output that is not yet up (R440). -/
def State.laneHeld (s : State) (n : Nat) : Bool :=
  (List.range 2).any (fun k => tbit (s.soutTiles k) n && !(s.saf.souts.getD k Sout.init).powered)

/-- Lane n leaves OFF for WAKE when its ENABLE is 1, its group is enabled, the root runs and no output holds it (R388, R440). -/
def State.laneWake (s : State) (n : Nat) : State :=
  if s.g (F.TL_STAT_STATE n) = 0 && s.on (F.UNIT_CTRL_ENABLE (0x51 + n)) && s.on (F.UNIT_CTRL_ENABLE 0x50) && s.on F.CLK_STAT_ROOT_OK && !s.laneHeld n then
    (s.put (F.TL_STAT_STATE n) 1).modLane n (fun l => { l with tries := 1 })
  else s

/-- Every lane that may leaves OFF. -/
def State.lanesWake (s : State) : State := (List.range 8).foldl (fun s n => s.laneWake n) s

/-! ### The recorder's time base (R479, R481) -/

/-- A checkpoint of the present time base. -/
def State.checkpointNow (s : State) : Checkpoint :=
  { oh := s.ohMs, pcc := s.g F.EVR_PCC_COUNT, wkc := s.g F.EVR_WKC_COUNT, head := s.g F.EVR_HEAD_SEQ,
    attSum := s.g F.EVR_ATT_SUM_LO_SUM + 2 ^ 32 * s.g F.EVR_ATT_SUM_HI_SUM }

/-- The retention checkpoint is written. -/
def State.checkpointRet (s : State) : State := s.withEvr { s.evr with ckRet := some s.checkpointNow }

/-- The flash checkpoint is written, or waits for the window (R479, R499). -/
def State.checkpointFlash (s : State) : State :=
  if s.on F.THM_STAT_FLASH_OK then (s.withEvr { s.evr with ckFlash := some s.checkpointNow }) else s.defer .checkpoint

/-- EVR_START goes ahead of every record that waits: kind of gap, then WKC; it carries GAP (R481, R483). -/
def State.evrStart (s : State) (kind : Nat) : State :=
  s.withEvr { s.evr with queue := ⟨0x7180, 0, 1, 1, data6 ([b8 kind, 0] ++ leBytes 4 (s.g F.EVR_WKC_COUNT))⟩ :: s.evr.queue }

end Sys2Proof.Machine
end

