-- ==== Sys2Proof/Machine/Crc.lean ====
section
/-! DEFINITION. The CRC units: a CRC of any width, and what a unit does to the frames of its stream (18_register_map, R596 to R598). -/

namespace Sys2Proof.Machine

/-- The low w bits of a number in reverse order. -/
def reflectBits : Nat → Nat → Nat
  | 0, _ => 0
  | w + 1, v => (v % 2) * 2 ^ w + reflectBits w (v / 2)

/-- One bit into a CRC register of w bits with a polynomial in non-reflected form. -/
def crcBit (w poly c : Nat) (b : Bool) : Nat :=
  let c2 := 2 * c % 2 ^ w
  if (c.testBit (w - 1)) != b then c2 ^^^ (poly % 2 ^ w) else c2

/-- The bits of a byte in the order they enter: least significant first when the input is reflected. -/
def byteBits (refin : Bool) (b : Byte) : List Bool :=
  (List.range 8).map (fun i => b.getLsbD (if refin then i else 7 - i))

/-- The CRC of a byte string with the parameters of R596. -/
def crcOf (w poly init xor_ : Nat) (refin refout : Bool) (l : List Byte) : Nat :=
  let c := l.foldl (fun c b => (byteBits refin b).foldl (crcBit w poly) c) (init % 2 ^ w)
  (if refout then reflectBits w c else c) ^^^ (xor_ % 2 ^ w)

/-- CRCn serves: its own and its group's ENABLE are 1. -/
def State.crcEnabled (s : State) (n : Nat) : Bool := s.on (F.UNIT_CTRL_ENABLE (0x89 + n)) && s.on (F.UNIT_CTRL_ENABLE 0x88)

/-- The unit in a mode on a stream, if any (R596, R598). -/
def State.crcUnit (s : State) (mode stream : Nat) : Option Nat :=
  (List.range 4).find? (fun n => s.crcEnabled n && s.g (F.CRC_CFG_MODE n) = mode && s.g (F.CRC_CFG_STREAM n) = stream)

/-- CRCn's result over a byte string. -/
def State.crcVal (s : State) (n : Nat) (l : List Byte) : Nat :=
  crcOf (s.g (F.CRC_CFG_WIDTH n)) (s.g (F.CRC_POLY_VALUE n)) (s.g (F.CRC_INIT_VALUE n)) (s.g (F.CRC_XOR_VALUE n))
    (s.on (F.CRC_CFG_REFIN n)) (s.on (F.CRC_CFG_REFOUT n)) l

/-- Bytes of a check value of CRCn. -/
def State.crcLen (s : State) (n : Nat) : Nat := (s.g (F.CRC_CFG_WIDTH n) + 7) / 8

/-- CRCn has processed a frame with a result; a mismatch is counted. -/
def State.crcSeen (s : State) (n v : Nat) (bad : Bool) : State :=
  let s := (s.put (F.CRC_VAL_VAL n) v).inc (F.CRC_CNT_FRAMES n)
  if bad then s.incSat (F.CRC_CNT_MISMATCH n) else s

/-- Bytes of the check value on a forward stream; R150's four where no unit checks it (log 13). -/
def State.fwdCrcLen (s : State) (l : Nat) : Nat := match s.crcUnit 2 (l + 1) with | some n => s.crcLen n | none => 4

/-- A forward frame's bytes are checked: the Bool says that the check value matches (R151, R597). -/
def State.fwdCrc (s : State) (l : Nat) (bytes : List Byte) (inj : Bool) : Bool × State :=
  let n := s.fwdCrcLen l
  let body := bytes.take (bytes.length - n)
  let got := ofBe (bytes.drop (bytes.length - n))
  match s.crcUnit 2 (l + 1) with
  | some u =>
    let v := s.crcVal u body
    let ok := decide (4 + n ≤ bytes.length) && got = v && !inj
    (ok, s.crcSeen u v (!ok))
  | none => (decide (4 + n ≤ bytes.length) && got = crc32 body && !inj, s)

/-- A back-channel frame of link l leaves with its check value appended: header and payload pass the unit in MODE 1 (R150, R596). -/
def State.backCrc (s : State) (l : Nat) (bytes : List Byte) : State :=
  match s.crcUnit 1 (l + 3) with
  | some u => s.crcSeen u (s.crcVal u bytes) false
  | none => s

/-- The body of a LAYER packet passes the unit on stream 5; a mismatch in MODE 3 raises CRC_MISMATCH (R596, R597, R124). -/
def State.layerCrc (s : State) (body : List Byte) : State :=
  match s.crcUnit 3 5 with
  | some u =>
    let v := s.crcVal u body
    let inj := s.armed S.CRC_MISMATCH
    let bad := inj || v ≠ s.g (F.CRC_EXP_EXP u) % 2 ^ s.g (F.CRC_CFG_WIDTH u)
    let s := (s.consumeInj S.CRC_MISMATCH).crcSeen u v bad
    if bad then s.detect [0x88, 0x89 + u] S.CRC_MISMATCH u 0 inj else s
  | none => s

end Sys2Proof.Machine
end

