-- ==== Sys2Proof/Machine/Store.lean ====
section
/-! DEFINITION. The command store: classification, acceptance, answers, DONE and replay (06_work_submission). -/

namespace Sys2Proof.Machine

/-! ### Pages and worlds (R17, R24, R38, R574) -/

/-- A page is assigned (R574). -/
def assigned (p : Nat) : Bool := !(pageRows p).isEmpty

/-- World of a page: 1 is S (R24, R38). -/
def State.world (s : State) (p : Nat) : Nat := s.g (F.UNIT_CTRL_WORLD (groupPage p))

/-- The end of the layer surfaces and the start of the command store (R217). -/
def State.cmdBase (s : State) : Nat := 0x20000000 + 0x10000 * s.g F.CMD_BASE_BASE

/-- Size of the ring of a channel (R217). -/
def State.ringSize (s : State) (c : Nat) : Nat := 0x4000 * s.g ⟨0x10, 0x48, 8 * c + 7, 8 * c⟩

/-- Granules a packet takes in its ring, in bytes (R217). -/
def Packet.size (p : Packet) : Nat := 64 + (p.body.length + 63) / 64 * 64

/-- The ring of a channel. -/
def State.ring (s : State) (c : Nat) : List Packet := s.cmd.rings.getD c []

/-- Set the ring of a channel. -/
def State.setRing (s : State) (c : Nat) (l : List Packet) : State := s.withCmd { s.cmd with rings := s.cmd.rings.set c l }

/-- Bytes of a ring in use. -/
def State.ringUsed (s : State) (c : Nat) : Nat := ((s.ring c).map Packet.size).sum

/-- Next expected sequence number of a channel (R199). -/
def State.exp (s : State) (c : Nat) : Nat := s.g (F.CMD_EXP_EXP c)

/-! ### Answers (R205, R207) -/

/-- A frame of R205; AUX is filled in when it leaves (R205, R209, log 14), but for NACK EPOCH and for a channel above 3. -/
def ackFrame (kind chan code seq exp aux : Nat) : List Byte :=
  [b8 kind, b8 chan, b8 code, 0] ++ beBytes 4 seq ++ beBytes 4 exp ++ beBytes 4 aux

/-- AUX of a frame of R205 as it leaves: DONE_SEQ of its channel. -/
def State.fillAux (s : State) (f : List Byte) : List Byte :=
  let c := (f.getD 1 0).toNat
  if 3 < c || (f.getD 0 0 = 1 && f.getD 2 0 = 2) then f else f.take 12 ++ beBytes 4 (s.g (F.CMD_DONE_DONE_SEQ c))

/-- An answer goes to the ACK queue of the link the packet came on, or to the response queue of the packet window (R201, R595). -/
def State.respond (s : State) (l : Nat) (f : List Byte) : State :=
  if l < 2 then s.queueAck l f
  else if s.spi.rsp.length < 64 then (s.withSpi { s.spi with rsp := s.spi.rsp ++ [f] }) else s

/-- A NACK and its event. -/
def State.nack (s : State) (l chan code seq exp aux : Nat) : State :=
  let s := if code = 1 then s.evt F.CMD_EVT_GAP else if code = 2 then s.evt F.CMD_EVT_EPOCH
    else if code = 3 then s.evt F.CMD_EVT_FORMAT else s.evt F.CMD_EVT_FORBIDDEN
  s.respond l (ackFrame 1 chan code seq exp aux)

/-- NACK REPLAY on every ACTIVE link, SEQ and EXP equal (R212, R213). -/
def State.replayNack (s : State) (c seq : Nat) : State :=
  (List.range 2).foldl (fun s l => if s.active l then s.queueAck l (ackFrame 1 c 5 seq seq 0) else s) s

/-! ### Acceptance checks of order 5 (R198, R231, R267, R554) -/

/-- A CONTROL entry is forbidden (R198). -/
def State.forbidden (s : State) (a : Nat) : Bool :=
  a % 4 ≠ 0 || decide (a < 0x40000000) || decide (0x4008D000 ≤ a)
  || (let o := pageOff a
      let p := o / 4096
      !assigned p || s.world p ≠ 0 || o % 4096 = 8 || o % 4096 = 0x18
      || (o % 4096 ≠ 0x30 && (accMask .w1c o ≠ 0 || accMask .wo o ≠ 0)))

/-- The write entries of a CONTROL body: address and value. -/
def ctlEntries (b : List Byte) : List (Nat × Word) :=
  (List.range (b.length / 8)).map (fun i => (ofBe (slice b (8 * i) 4), BitVec.ofNat 32 (ofBe (slice b (8 * i + 4) 4))))

/-- R198: 0 passes, 3 FORMAT, 4 FORBIDDEN. -/
def State.checkControl (s : State) (b : List Byte) : Nat :=
  if b.length % 8 ≠ 0 then 3 else if (ctlEntries b).any (fun e => s.forbidden e.1) then 4 else 0

/-- Base of a buffer of a layer (R226). -/
def State.bufBase (s : State) (n k : Nat) : Nat := 0x20000000 + 64 * s.g (F.LAY_BUF_BASE n k)

/-- R231. -/
def State.checkLayer (s : State) (target arg len : Nat) : Nat :=
  let n := target % 16
  let k := target / 16 % 2
  if s.on (F.LAY_CTRL_SRC n) then 4
  else if s.on (F.UNIT_CTRL_ENABLE (0x19 + n)) && s.g (F.LAY_CTRL_FRONT n) = k then 4
  else if s.cmdBase < s.bufBase n k + arg + len then 3
  else 0

/-- An object record (R266). -/
def objRecord (b : List Byte) : Obj :=
  { id := ofBe (slice b 0 2), cls := ofBe (slice b 2 1), mclass := ofBe (slice b 3 1) % 4
    hMin := signed 16 (ofBe (slice b 4 2)), hMax := signed 16 (ofBe (slice b 6 2)), vMin := signed 16 (ofBe (slice b 8 2))
    vMax := signed 16 (ofBe (slice b 10 2)), vh := signed 16 (ofBe (slice b 12 2)), vv := signed 16 (ofBe (slice b 14 2))
    ah := signed 16 (ofBe (slice b 16 2)), av := signed 16 (ofBe (slice b 18 2)), tObs := ofBe (slice b 20 8) }

/-- The record i of an OBJECT body. -/
def objBytes (b : List Byte) (i : Nat) : List Byte := slice b (16 + 32 * i) 32

/-- The list that an OBJECT body holds (R265). -/
def objList (seq : Nat) (b : List Byte) : ObjList :=
  { seq := seq, listTime := ofBe (slice b 4 8), objs := (List.range (ofBe (slice b 0 2))).map (fun i => objRecord (objBytes b i)) }

/-- A record has a legal class, zero reserved bytes and a box that is not inside out (R266, R267). -/
def objOk (r : List Byte) : Bool :=
  let o := objRecord r
  decide (o.cls ≤ 4) && decide (ofBe (slice r 3 1) < 4) && (slice r 28 4).all (· = 0) && decide (o.hMin ≤ o.hMax) && decide (o.vMin ≤ o.vMax)

/-- No value stands twice in a list. -/
def noRepeat : List Nat → Bool
  | [] => true
  | a :: t => !t.contains a && noRepeat t

/-- R267. -/
def checkObject (b : List Byte) : Nat :=
  let n := ofBe (slice b 0 2)
  if decide (16 ≤ b.length) && b.getD 2 0 = 1 && b.getD 3 0 = 0 && (slice b 12 4).all (· = 0) && decide (n ≤ 256) && b.length = 16 + 32 * n
      && (List.range n).all (fun i => objOk (objBytes b i)) && noRepeat ((objList 0 b).objs.map Obj.id) then 0
  else 3

/-- Size of the slot of a SLOT code (R548); a reserved code has none. -/
def slotSize (n : Nat) : Nat := if n < 2 then 0x400000 else if n < 4 then 0x200000 else if n < 6 then 0x280000 else 0

/-- State of a slot in the coding of UPD_SLOTA: GOV_SLOT codes ACTIVE 5 and REJECTED 6 (R330, R570). -/
def State.slotState (s : State) (n : Nat) : Nat :=
  if n = 2 || n = 3 then
    let v := s.gov.slots.getD (n - 2) 0
    if v = 5 then 6 else if v = 6 then 7 else v
  else (s.upd.slots.getD n Slot.init).st

/-- ROM recovery is under way (R140). -/
def State.inRecovery (s : State) : Bool := s.g F.RST_BOOT_STAT_PHASE = 3

/-- R554. A WRITE to a reserved slot lies beyond any size, and a reserved OP has no body length (log 15). -/
def State.checkUpdate (s : State) (target arg len : Nat) : Nat :=
  let n := target % 8
  let op := target / 16 % 16
  if op = 0 then
    if 4096 < len || slotSize n < arg + len then 3
    else if (n = 2 || n = 3) && s.gov.active = some (n - 2) then 4
    else if !s.inRecovery && n < 2 && (s.slotState n = 5 || s.slotState n = 6) then 4
    else if !s.inRecovery && 4 ≤ n && s.slotState n = 6 then 4
    else 0
  else if op = 1 && len = 4 || op = 2 && len = 8 || op = 3 && len = 4 then 0
  else 3

/-- Order 5 of R200: 0 passes; a packet larger than its ring is refused (R219); DLEN = 0 passes (R204). -/
def State.check5 (s : State) (p : Packet) : Nat :=
  let r := if p.body.isEmpty then 0
    else if p.chan = 0 then s.checkControl p.body
    else if p.chan = 1 then s.checkLayer p.target p.arg p.body.length
    else if p.chan = 2 then checkObject p.body
    else s.checkUpdate p.target p.arg p.body.length
  if r = 0 && decide (s.ringSize p.chan < p.size) then 3 else r

/-! ### Classification (R200) -/

/-- Reserved bits of TARGET by channel (R198, R230, R264, R553). -/
def targetReserved (c : Nat) : Nat := if c = 1 then 0xFFFFFEE0 else if c = 3 then 0xFFFFFF08 else 0xFFFFFFFF

/-- The packet that a WORK payload of at least 20 bytes holds, from path l. -/
def packetOf (l : Nat) (b : List Byte) : Packet :=
  { link := l, chan := ofBe (slice b 0 1), seq := ofBe (slice b 8 4), target := ofBe (slice b 12 4), arg := ofBe (slice b 16 4), body := b.drop 20 }

/-- Order 1 of R200 fails. -/
def badHeader (b : List Byte) : Bool :=
  let c := ofBe (slice b 0 1)
  decide (3 < c) || b.getD 1 0 ≠ 0 || ofBe (slice b 2 2) ≠ b.length - 20
  || ofBe (slice b 12 4) &&& targetReserved c ≠ 0 || ((c = 0 || c = 2) && ofBe (slice b 16 4) ≠ 0)

/-- Distance of SEQ from EXP (R200). -/
def State.seqDist (s : State) (p : Packet) : Nat := (p.seq + 2 ^ 32 - s.exp p.chan) % 2 ^ 32

/-- A duplicate is counted and acknowledged again (R200, order 3). -/
def State.duplicate (s : State) (p : Packet) : State :=
  let s := if p.link = 0 then s.incSat F.CMD_CNT_DUP_CNT_A else if p.link = 1 then s.incSat F.CMD_CNT_DUP_CNT_B else s
  s.respond p.link (ackFrame 0 p.chan 1 p.seq (s.exp p.chan) 0)

/-- NACK GAP is held on a channel of path l (R207). -/
def State.gapHeld (s : State) (l c : Nat) : Bool := decide (l < 2) && (s.link l).gapHold.getD c false

/-- A gap is counted, and answered outside the hold (R200, order 4; R207). -/
def State.gap (s : State) (p : Packet) : State :=
  let s := if p.link = 0 then s.incSat F.CMD_CNT_GAP_CNT_A else if p.link = 1 then s.incSat F.CMD_CNT_GAP_CNT_B else s
  if s.gapHeld p.link p.chan then s
  else
    let s := if p.link < 2 then s.modLink p.link (fun k => { k with gapHold := k.gapHold.set p.chan true }) else s
    s.nack p.link p.chan 1 p.seq (s.exp p.chan) 0

/-- The packet waits at the head of its path for PACKET_STORE (R201, R219). -/
def State.hold (s : State) (p : Packet) : State :=
  if p.link < 2 then s.modLink p.link (fun k => { k with waiting := some p, waitSince := s.now })
  else s.withSpi { s.spi with waiting := some p, pktBusy := true }

/-- Orders 3 to 6 of R200 on a packet whose header and epoch have passed. -/
def State.sequence (s : State) (p : Packet) : State :=
  let d := s.seqDist p
  if 2 ^ 31 ≤ d then s.duplicate p
  else if d ≠ 0 then s.gap p
  else
    let r := s.check5 p
    if r = 0 then s.hold p
    else
      let s := if p.chan = 1 && !p.body.isEmpty && s.checkLayer p.target p.arg p.body.length ≠ 0 then s.evt (F.LAY_EVT_FRONT_WR (p.target % 16)) else s
      s.nack p.link p.chan r p.seq (s.exp p.chan) 0

/-- A WORK payload of at least 20 bytes from path l is classified (R200); recovery takes channel 3 alone (R564). -/
def State.classify (s : State) (l : Nat) (b : List Byte) : State :=
  let p := packetOf l b
  if badHeader b then s.nack l p.chan 3 p.seq (if p.chan ≤ 3 then s.exp p.chan else 0) 0
  else if s.inRecovery && p.chan ≠ 3 then s.nack l p.chan 4 p.seq (s.exp p.chan) 0
  else if ofBe (slice b 4 4) = 0 || ofBe (slice b 4 4) ≠ s.g F.RST_EPOCH_EPOCH then
    s.nack l p.chan 2 p.seq (s.exp p.chan) (s.g F.RST_EPOCH_EPOCH)
  else s.sequence p

/-! ### DONE (R204, R208, R209) -/

/-- DONE_SEQ of a channel reaches a SEQ; a DONE frame may be due (R209). -/
def State.doneSeq (s : State) (c seq : Nat) : State :=
  (s.put (F.CMD_DONE_DONE_SEQ c) seq).withCmd { s.cmd with doneDue := s.cmd.doneDue.set c true }

/-- Packets without a body at the head of a ring are DONE at once (R204). -/
def State.drainNoop (s : State) (c : Nat) : Nat → State
  | 0 => s
  | n + 1 =>
    match s.ring c with
    | p :: t => if p.body.isEmpty then ((s.setRing c t).doneSeq c p.seq).drainNoop c n else s
    | [] => s

/-- The oldest packet of a channel is DONE and leaves its ring, with those behind it that need no consumer (R204, R208, R217). -/
def State.doneHead (s : State) (c : Nat) : State :=
  match s.ring c with
  | p :: t => ((s.setRing c t).doneSeq c p.seq).drainNoop c t.length
  | [] => s

/-- Every packet of channel 2 up to a SEQ is DONE: those with a body were not rendered when superseded is true (R208, R268). -/
def State.doneUpTo (s : State) (seq : Nat) (superseded : Bool) : Nat → State
  | 0 => s
  | n + 1 =>
    match s.ring 2 with
    | p :: t =>
      if (seq + 2 ^ 32 - p.seq) % 2 ^ 32 < 2 ^ 31 then
        let s := if superseded && !p.body.isEmpty then s.incSat F.GLR_CNT_SUPERSEDED else s
        (((s.setRing 2 t).doneSeq 2 p.seq)).doneUpTo seq superseded n
      else s
    | [] => s

/-! ### The store state (R213) -/

/-- A copy of the store state is checked; bit k of copies says that copy k fails. The Bool says that the state stands. -/
def State.checkCopies (s : State) (copies : Nat) : Bool × State :=
  let inj := s.armed S.CMD_STATE_COPY
  let c := if inj && copies % 4 = 0 then 1 else copies % 4
  let s := s.consumeInj S.CMD_STATE_COPY
  if c = 0 then (true, s)
  else if c < 3 then
    (true, (s.evt F.CMD_EVT_STATE_COPY).raiseWith S.CMD_STATE_COPY 0 (0x1803B000 + 0x80 * (c - 1)) inj false)
  else
    let s := (s.evt F.CMD_EVT_STORE_LOST).raise S.CMD_STORE_LOST 0
    let s := (List.range 4).foldl (fun s k =>
      (((s.setRing k []).put (F.CMD_EXP_EXP k) 0).put (F.CMD_DONE_DONE_SEQ k) 0).replayNack k 0) s
    (false, s)

/-! ### Acceptance (R201, R204, R208) -/

/-- An OBJECT list is accepted: it is the newest, and the lists before it are superseded (R208, R268, R311). -/
def State.newList (s : State) (p : Packet) : State :=
  let older := (s.ring 2).length
  let s := s.doneUpTo ((p.seq + 2 ^ 32 - 1) % 2 ^ 32) true older
  let l := objList p.seq p.body
  (s.withGlare { s.glare with newest := some l }).withGov { s.gov with listTime := some l.listTime }

/-- The packet's descriptor is in its ring, EXP advances, the ACK is queued (R199, R201, R207). -/
def State.accept (s : State) (p : Packet) : State :=
  let s := if p.chan = 2 && !p.body.isEmpty then s.newList p else s
  let s := (s.setRing p.chan (s.ring p.chan ++ [p])).inc (F.CMD_EXP_EXP p.chan)
  let s := s.inc F.CMD_CNT_ACC_ACC
  let s := if p.body.isEmpty then s.incSat F.CMD_CNT_NOOP_NOOP else s
  let s := (s.modLink 0 (fun k => { k with gapHold := k.gapHold.set p.chan false })).modLink 1 (fun k => { k with gapHold := k.gapHold.set p.chan false })
  let s := s.respond p.link (ackFrame 0 p.chan 0 p.seq (s.exp p.chan) 0)
  s.drainNoop p.chan (s.ring p.chan).length

/-- A packet that waited is no longer in the way; STORE_TMO's condition ends with the last (R219, R460). -/
def State.unhold (s : State) (l : Nat) : State :=
  let s := if l < 2 then s.modLink l (fun k => { k with waiting := none }) else s.withSpi { s.spi with waiting := none, pktBusy := false }
  if s.lnkA.waiting.isNone && s.lnkB.waiting.isNone then s.condEnd S.CMD_STORE_TMO 0 else s

/-- The packet waiting on path l. -/
def State.held (s : State) (l : Nat) : Option Packet := if l < 2 then (s.link l).waiting else s.spi.waiting

/-- The packet that waits on path l is stored when its ring has room; one that the other path has accepted meanwhile is a duplicate (R201, R202, R219). -/
def State.storeWaiting (s : State) (l copies : Nat) : State :=
  match s.held l with
  | none => s
  | some p =>
    if s.seqDist p ≠ 0 then (s.unhold l).sequence p
    else if s.ringUsed p.chan + p.size ≤ s.ringSize p.chan then
      let (ok, s) := (s.unhold l).checkCopies copies
      if ok then s.accept p else s
    else s

/-! ### Replay (R212) -/

/-- A consumer's read of the oldest packet of a channel met a parity error; its failing word is a free value (log 7). -/
def State.replay (s : State) (c : Nat) : State :=
  match s.ring c with
  | [] => s
  | p :: _ =>
    let inj := s.armed S.CMD_REPLAY
    let s := s.consumeInj S.CMD_REPLAY
    let s := ((s.setRing c []).put (F.CMD_EXP_EXP c) p.seq).replayNack c p.seq
    let s := s.evt F.CMD_EVT_REPLAY
    let s : State := if c = 2 then (s.withGlare { s.glare with newest := none }) else s
    let (a, s) := s.free
    s.raiseWith S.CMD_REPLAY 0 (a % 2 ^ 32) inj false

/-! ### Consumption (R209, R211, R214) -/

/-- No block reset stops the consumer of a channel, the root and the link engines run; recovery consumes UPDATE alone (R36, R211, R214, R564). -/
def State.consuming (s : State) (c : Nat) : Bool :=
  s.cmd.served && s.on F.CLK_STAT_ROOT_OK && (!s.inRecovery || c = 3) && !s.blockRunning 0x10
  && !(s.rst.blocks.any (fun b => b.running &&
    ((c = 1 && decide (0x18 ≤ b.page) && decide (b.page ≤ 0x28)) || (c = 2 && decide (0x30 ≤ b.page) && decide (b.page ≤ 0x38)) || (c = 3 && b.page = 0x80))))

/-- The oldest packet of a channel, when its consumer may take it. -/
def State.head (s : State) (c : Nat) : Option Packet := if s.consuming c then (s.ring c).head? else none

/-- STORE_TIMEOUT: a packet has waited longer than TMO_MS on link l (R219). -/
def execStoreTimeout (l : Nat) (s : State) : Host.Outcome State Fault Refusal :=
  let s := s.begin
  .next (if decide (l < 2) && (s.link l).waiting.isSome then (s.evt F.CMD_EVT_STORE_TMO).detect [0x10] S.CMD_STORE_TMO 0 0 false else s)

/-- GAP_HOLD_EXPIRY: GAP_HOLD µs have passed since the NACK GAP of channel ch on link l (R207). -/
def execGapHoldExpiry (l ch : Nat) (s : State) : Host.Outcome State Fault Refusal :=
  let s := s.begin
  .next (if l < 2 then s.modLink l (fun k => { k with gapHold := k.gapHold.set ch false }) else s)

/-- RESUME: the receive buffer's fill has fallen to 16 KiB (R155). -/
def execResume (l : Nat) (s : State) : Host.Outcome State Fault Refusal :=
  let s := s.begin
  .next (if decide (l < 2) && s.on (F.LNK_STAT_PAUSED l) && decide ((s.link l).fill ≤ 16384) then
    (s.put (F.LNK_STAT_PAUSED l) 0).modLink l (fun k => k.send .resume)
  else s)

/-- A DONE frame of channel c may go out on link l: ACTIVE, no ACK of the channel queued, 1 ms since the last (R209). -/
def State.doneMay (s : State) (l c : Nat) : Bool :=
  s.active l && !(s.link l).ack.any (fun f => f.getD 1 0 = b8 c)
  && (match (s.link l).doneAt.getD c none with | some t => decide (ms 1 ≤ s.now - t) | none => true)

/-- The packet window is enabled (R595). -/
def State.winEnabled (s : State) : Bool :=
  if s.inRecovery then s.g F.SEC_LC_STATE ≠ 4 else decide (s.g F.SEC_LC_STATE < 2)

/-- DONE_FRAME: DONE_SEQ of a channel has advanced: a DONE frame on every ACTIVE link that may take one, and to the packet window (R209, R595). -/
def execDoneFrame (ch copies : Nat) (s : State) : Host.Outcome State Fault Refusal :=
  let s := s.begin
  .next (if decide (ch < 4) && s.cmd.doneDue.getD ch false then
    let (ok, s) := s.checkCopies copies
    if ok then
      let f := ackFrame 2 ch 0 0 (s.exp ch) 0
      let s := (List.range 2).foldl (fun s l => if s.doneMay l ch then
        (s.queueAck l f).modLink l (fun k => { k with doneAt := k.doneAt.set ch (some s.now) }) else s) s
      let spi := s.winEnabled && decide (s.spi.rsp.length ≤ 60)
        && (match s.spi.doneAt.getD ch none with | some t => decide (ms 1 ≤ s.now - t) | none => true)
      let s : State := if spi then (s.withSpi { s.spi with rsp := s.spi.rsp ++ [f], doneAt := s.spi.doneAt.set ch (some s.now) }) else s
      let told := (List.range 2).all (fun l => !s.active l || (s.link l).ack.any (fun f => f.getD 1 0 = b8 ch))
      s.withCmd { s.cmd with doneDue := s.cmd.doneDue.set ch (!told) }
    else s
  else s)

/-- LAYER_CONSUME: the oldest LAYER packet is written into its surface (R208, R230, R232, R245, R596). -/
def execLayerConsume (parity : Bool) (s : State) : Host.Outcome State Fault Refusal :=
  let s := s.begin
  .next (match s.head 1 with
    | none => s
    | some p =>
      if parity || s.armed S.CMD_REPLAY then s.replay 1
      else
        let n := p.target % 16
        let s := (s.setBytes (s.bufBase n (p.target / 16 % 2) + p.arg) p.body).layerCrc p.body
        let s := if tbit p.target 8 then s.inc (F.LAY_FENCE_CNT n) else s
        s.doneHead 1)

end Sys2Proof.Machine
end

