-- ==== Sys2Proof/Machine/Banks.lean ====
section
/-! DEFINITION. The shadow, pending and active banks of RWC fields, and what a commit would leave (18_register_map, R577 to R582). -/

namespace Sys2Proof.Machine

/-- Registers of page p that a bank or the active bank lists. -/
def State.keys (s : State) (bank : List (Nat × Word)) (p : Nat) : List Nat :=
  ((bank ++ s.regs).map (fun e => e.1)).filter (fun a => a / 4096 = p)

/-- The RWC fields of page p take their values from a bank. -/
def State.land (s : State) (bank : List (Nat × Word)) (p : Nat) : State :=
  (s.keys bank p).foldl (fun s a =>
    let m := accMask .rwc a
    s.setWord a ((s.word a &&& ~~~ m) ||| (tabGet resetWord bank a &&& m))) s

/-- The state that would be in force after every pending commit (R578). -/
def State.afterPending (s : State) : State := s.pendPages.foldl (fun t p => t.land s.pend p) s

/-- The state that would be in force after every pending commit and one of the given pages. -/
def State.candidate (s : State) (pages : List Nat) : State := pages.foldl (fun t p => t.land s.shadow p) s.afterPending

/-- A table without the entries of page p. -/
def dropPage (l : List (Nat × Word)) (p : Nat) : List (Nat × Word) := l.filter (fun e => e.1 / 4096 ≠ p)

/-- The entries of page p. -/
def onlyPage (l : List (Nat × Word)) (p : Nat) : List (Nat × Word) := l.filter (fun e => e.1 / 4096 = p)

/-- Entries of page p in a table replaced by those of another (both canonical). -/
def replacePage (l from_ : List (Nat × Word)) (p : Nat) : List (Nat × Word) :=
  l.filter (fun e => e.1 / 4096 < p) ++ onlyPage from_ p ++ l.filter (fun e => p < e.1 / 4096)

/-- A commit of page p is accepted: its shadow bank becomes its pending bank (R578). -/
def State.acceptPage (s : State) (p : Nat) : State :=
  let s := (s.withPend (replacePage s.pend s.shadow p)).withPendPages (p :: s.pendPages.filter (· ≠ p))
  ((s.inc (F.UNIT_COMMIT_COUNT p)).put (F.UNIT_STATUS_COMMIT_ERR p) 0).put (F.UNIT_IRQ_STAT_COMMIT p) 1

/-- A commit of page p is rejected (R578). -/
def State.rejectPage (s : State) (p : Nat) : State := (s.put (F.UNIT_STATUS_COMMIT_ERR p) 1).put (F.UNIT_IRQ_STAT_COMMIT p) 1

/-- Page p's pending commit goes into force and is no longer pending (R579). -/
def State.apply (s : State) (p : Nat) : State :=
  if s.pendPages.contains p then
    ((s.land s.pend p).withPend (dropPage s.pend p)).withPendPages (s.pendPages.filter (· ≠ p))
  else s

/-- DISCARD: the shadow bank of page p takes the state after every pending commit (R582). -/
def State.discardPage (s : State) (p : Nat) : State :=
  let t := s.afterPending
  (s.keys (s.shadow ++ s.pend) p).foldl (fun s a =>
    let m := accMask .rwc a
    s.setShadow a ((s.shadowWord a &&& ~~~ m) ||| (t.word a &&& m))) s

end Sys2Proof.Machine
end

