-- ==== Sys2Proof/Machine/Compose.lean ====
section
/-! DEFINITION. Layers, pixel formats, block compression, the colour matrix, blending and the output stage: the value of one field pixel
(07_layers_and_composition, R221 to R240, R251, R254; 08_shadow_rendering, R283, R284, R295; 11_tile_lanes, R386). -/

namespace Sys2Proof.Machine

/-! ### Texels (R222, R223, R226, R233, R234, R236, R237) -/

/-- The aligned Slate words that n bytes from address a span (R254). -/
def wordsOf (a n : Nat) : List Nat := (List.range ((a + n - 1) / 4 - a / 4 + 1)).map (fun i => 4 * (a / 4 + i))

/-- Buffer that a layer shows. -/
def State.front (s : State) (n : Nat) : Nat := s.bufBase n (s.g (F.LAY_CTRL_FRONT n))

/-- Row pitch of a layer in bytes (R226). -/
def State.pitch (s : State) (n : Nat) : Nat := 64 * s.g (F.LAY_STRIDE_STRIDE n)

/-- Address and size of the bytes that source pixel (u, v) of a layer is read from; of L12P the pair's three bytes (R222, R226). -/
def State.texelBytes (s : State) (n u v : Nat) : Nat × Nat :=
  let b := s.front n
  let p := s.pitch n
  match s.g (F.LAY_CTRL_FMT n) with
  | 0 => (b + v * p + 2 * u, 2)
  | 1 => (b + v * p + u, 1)
  | 2 => (b + v * p + 2 * u, 2)
  | 3 => (b + v * p + 2 * u, 2)
  | 4 => (b + v * p + u, 1)
  | 5 => (b + v * p + 3 * u, 3)
  | 6 => (b + v * p + 4 * u, 4)
  | 7 => (b + v * p + 3 * (u / 2), 3)
  | 8 => (b + v / 4 * p + u / 4 * 8, 8)
  | _ => (b + v / 4 * p + u / 4 * 16, 16)

/-- The Slate words that source pixel (u, v) of a layer depends on: those that hold any of its bytes; of an L12P pair each pixel has two (R222, R254). -/
def State.texelWords (s : State) (n u v : Nat) : List Nat :=
  let (a, k) := s.texelBytes n u v
  if s.g (F.LAY_CTRL_FMT n) = 7 then wordsOf (a + u % 2) 2 else wordsOf a k

/-- Pixel (x, y) of an SBC1 block (R233). -/
def sbc1 (blk : List Byte) (x y : Nat) : Nat :=
  let e0 := ofLe (slice blk 0 2)
  let e1 := ofLe (slice blk 2 2)
  let i := ofLe (slice blk 4 4) >>> (2 * (4 * y + x)) % 4
  ((3 - i) * e0 + i * e1 + 1) / 3

/-- Alpha of pixel (x, y) of an SBC2 block (R234). -/
def sbc2Alpha (blk : List Byte) (x y : Nat) : Nat :=
  let a0 := ofLe (slice blk 8 1)
  let a1 := ofLe (slice blk 9 1)
  let j := ofLe (slice blk 10 6) >>> (3 * (4 * y + x)) % 8
  ((7 - j) * a0 + j * a1 + 3) / 7

/-- Coverage of a stored alpha (R222). -/
def coverage (a : Nat) : Nat := a + a / 128

/-- Component of 10 bits at bit i expanded to 16 (R223). -/
def ten (w i : Nat) : Nat := let c := w >>> i % 1024; c * 64 + c / 16

/-- Coefficient K_rc of a layer's matrix, S2.13 (R236, R263). -/
def State.csc (s : State) (n r c : Nat) : Int :=
  let k := 3 * r + c
  signed 16 (if k % 2 = 0 then s.g (F.LAY_CSC_K_KA n (k / 2)) else s.g (F.LAY_CSC_K_KB n (k / 2)))

/-- Row r of the matrix applied to three components (R236). -/
def State.cscRow (s : State) (n r : Nat) (comp : List Nat) : Nat :=
  let x := (List.range 3).map (fun c => ((comp.getD c 0 : Nat) : Int) + signed 17 (s.g (F.LAY_CSC_IOFS_IN_OFS n c)))
  let sum := (List.range 3).foldl (fun t c => t + s.csc n r c * x.getD c 0) (0 : Int)
  let y := (sum + 4096) / 8192 + signed 17 (s.g (F.LAY_CSC_OOFS_OUT_OFS n r))
  if y < 0 then 0 else if 65535 < y then 65535 else y.toNat

/-- A VIDEO pixel from its components (R236, R237). -/
def State.video (s : State) (n : Nat) (comp : List Nat) : Nat × Nat :=
  let a := if s.on (F.LAY_BLEND_ROW1_ALPHA n) then min 256 ((s.cscRow n 1 comp + 128) / 256) else 256
  (s.cscRow n 0 comp, if s.on (F.LAY_BLEND_KEY_EN n) && decide (s.cscRow n 2 comp < s.g (F.LAY_BLEND_KEY n)) then 0 else a)

/-- V (or the factor M) and α of source pixel (u, v) of a layer; a pixel that depends on a failing word reads dark (R222, R254). -/
def State.texel (s : State) (bad : List Nat) (n u v : Nat) : Nat × Nat :=
  let (a, k) := s.texelBytes n u v
  if (s.texelWords n u v).any bad.contains then (0, 256)
  else
    let b := s.bytes a k
    match s.g (F.LAY_CTRL_FMT n) with
    | 0 => (ofLe b, 256)
    | 1 => (ofLe b * 257, 256)
    | 2 => (ofLe (slice b 0 1) * 257, coverage (ofLe (slice b 1 1)))
    | 3 => (ofLe b, 256)
    | 4 => (ofLe b * 257, 256)
    | 5 => s.video n [ofLe (slice b 0 1) * 257, ofLe (slice b 1 1) * 257, ofLe (slice b 2 1) * 257]
    | 6 => s.video n [ten (ofLe b) 0, ten (ofLe b) 10, ten (ofLe b) 20]
    | 7 =>
      let p := if u % 2 = 0 then ofLe (slice b 0 1) + 256 * (ofLe (slice b 1 1) % 16) else ofLe (slice b 1 1) / 16 + 16 * ofLe (slice b 2 1)
      ((p * 16) ||| (p / 256), 256)
    | 8 => (sbc1 b (u % 4) (v % 4), 256)
    | _ => (sbc1 b (u % 4) (v % 4), coverage (sbc2Alpha b (u % 4) (v % 4)))

/-! ### Geometry (R224, R225, R228) -/

/-- Scale factor of a code (R263). -/
def scale (c : Nat) : Nat := if c = 0 then 1 else if c = 1 then 2 else 4

def State.layW (s : State) (n : Nat) : Nat := s.g (F.LAY_SIZE_W n)
def State.layH (s : State) (n : Nat) : Nat := s.g (F.LAY_SIZE_H n)

/-- W = 0 or H = 0 disables a layer (R225). -/
def State.layZero (s : State) (n : Nat) : Bool := s.layW n = 0 || s.layH n = 0

/-- The glare MASK layer (R229). -/
def State.isGlare (s : State) (n : Nat) : Bool := s.on (F.LAY_CTRL_SRC n)

/-- ENABLE of tile lane n. -/
def State.laneEnabled (s : State) (n : Nat) : Bool := s.on (F.UNIT_CTRL_ENABLE (0x51 + n)) && s.on (F.UNIT_CTRL_ENABLE 0x50)

/-- Tile of a field pixel (R277). -/
def tileOf (x y : Nat) : Nat := x / 512 + 4 * (y / 512)

/-- Source pixel of a layer that covers field pixel (x, y), if one does (R224). -/
def State.source (s : State) (n x y : Nat) : Option (Nat × Nat) :=
  let dx := (x : Int) - signed 16 (s.g (F.LAY_POS_X0 n))
  let dy := (y : Int) - signed 16 (s.g (F.LAY_POS_Y0 n))
  if dx < 0 || dy < 0 then none
  else
    let u := dx.toNat / scale (s.g (F.LAY_CTRL_SX n))
    let v := dy.toNat / scale (s.g (F.LAY_CTRL_SY n))
    if u < s.layW n && v < s.layH n then some (u, v) else none

/-- A layer's field rectangle, clipped, shares a row with band b (R228, R284). -/
def State.meetsBand (s : State) (n b : Nat) : Bool :=
  if s.isGlare n then (List.range 8).any (fun t => s.laneEnabled t && t / 4 = b / 16)
  else
    let x0 := signed 16 (s.g (F.LAY_POS_X0 n))
    let y0 := signed 16 (s.g (F.LAY_POS_Y0 n))
    let x1 := x0 + (scale (s.g (F.LAY_CTRL_SX n)) * s.layW n : Nat)
    let y1 := y0 + (scale (s.g (F.LAY_CTRL_SY n)) * s.layH n : Nat)
    decide (0 < x1) && decide (x0 < 2048) && decide ((32 * b : Nat) < y1) && decide (y0 < (32 * b + 32 : Nat))

/-- What a layer adds to the count of R228. -/
def State.layWeight (s : State) (n : Nat) : Nat :=
  if s.layZero n then 0
  else if s.g (F.LAY_CTRL_KIND n) = 2 && s.on (F.LAY_CTRL_LIVE n) && !s.isGlare n then 2 else 1

/-- The count of R28 and R228 for band b over a list of layers. -/
def State.bandCount (s : State) (l : List Nat) (b : Nat) : Nat :=
  l.foldl (fun t n => if s.meetsBand n b then t + s.layWeight n else t) 0

/-- Largest count over all bands. -/
def State.maxCount (s : State) (l : List Nat) : Nat := (List.range 32).foldl (fun m b => max m (s.bandCount l b)) 0

/-! ### Masks (R251, R283, R284, R295) -/

/-- Smallest factor within the dilation square of source pixel (u, v) (R251). -/
def State.dilated (s : State) (bad : List Nat) (n u v : Nat) : Nat :=
  let r := s.g (F.LAY_MASK_DIL_R n)
  (List.range (2 * r + 1)).foldl (fun m i => (List.range (2 * r + 1)).foldl (fun m j =>
    if decide (r ≤ u + i) && decide (u + i - r < s.layW n) && decide (r ≤ v + j) && decide (v + j - r < s.layH n) then
      min m (s.texel bad n (u + i - r) (v + j - r)).1
    else m) m) 65535

/-- Address of the glare MASK byte of pixel (x, y) of tile n (R283). -/
def State.maskAddr (s : State) (n x y : Nat) : Nat := 0x20000000 + 64 * s.g F.GLR_MASK_BASE + 0x40000 * n + 512 * y + x

/-- Seam weight at field column x (R295). -/
def State.seamWeight (s : State) (x : Nat) : Nat :=
  let a := s.g F.GLR_SEAM_X_START
  let e := s.g F.GLR_SEAM_X_END
  let w := s.g F.GLR_SEAM_W_W_END
  let d := if a ≤ e then e - a else a - e
  if d = 0 then 65535
  else
    let along := if a ≤ e then (x : Int) - a else (a : Int) - x
    if along < 0 then 65535
    else if (d : Int) < along then w
    else 65535 - ((65535 - w) * along.toNat + d / 2) / d

/-- The glare MASK factor at field pixel (x, y): M = 0 in a band that is not written or that depends on a failing word (R254, R283, R295). -/
def State.glareM (s : State) (bad : List Nat) (x y : Nat) : Nat :=
  let t := tileOf x y
  let e := s.glare.engines.getD t Engine.init
  let a := s.maskAddr t (x % 512) (y % 512)
  let m := if !s.on (F.UNIT_CTRL_ENABLE 0x30) || !e.written.contains (y % 512 / 32) || (wordsOf a 1).any bad.contains then 0
    else (s.byte a).toNat * 257
  if s.cmp.seam then m * (s.seamWeight x + 1) / 65536 else m

/-! ### Blending (R238, R239) -/

/-- One operation on the accumulator: v is V, or the factor of MULTIPLY. -/
def blend (op acc v a : Nat) : Nat :=
  match op with
  | 0 => (v * a + 128) / 256
  | 1 => min 65535 (acc + (v * a + 128) / 256)
  | 2 => (v * a + acc * (256 - a) + 128) / 256
  | 3 =>
    let me := 65535 - ((65535 - v) * a + 128) / 256
    acc * (me + 1) / 65536
  | _ => max acc ((v * a + 128) / 256)

/-- Value and coverage of a layer at field pixel (x, y); none where the layer does not cover it. -/
def State.sample (s : State) (bad : List Nat) (n x y : Nat) : Option (Nat × Nat) :=
  if s.isGlare n then
    if s.laneEnabled (tileOf x y) then some (s.glareM bad x y, 256) else none
  else
    match s.source n x y with
    | none => none
    | some (u, v) =>
      if s.on (F.LAY_STAT_DILATED n) then some (s.dilated bad n u v, 256) else some (s.texel bad n u v)

/-- A layer is applied to the accumulator (R238, R239). -/
def State.applyLayer (s : State) (bad : List Nat) (x y : Nat) (acc n : Nat) : Nat :=
  match s.sample bad n x y with
  | none => acc
  | some (v, al) =>
    let g := coverage (s.g (F.LAY_BLEND_GALPHA n))
    blend (s.g (F.LAY_CTRL_OP n)) acc v ((al * g + 128) / 256)

/-- The layers of the frame in ascending Z, then ascending number (R238, R225). -/
def State.order (s : State) : List Nat :=
  let l := s.cmp.active.filter (fun n => !s.layZero n)
  (List.range 16).foldl (fun o z => o ++ (List.range 16).filter (fun n => l.contains n && s.g (F.LAY_CTRL_Z n) = z)) []

/-- Composed value of a field pixel from the layers (R238). -/
def State.layersAt (s : State) (bad : List Nat) (x y : Nat) : Nat := s.order.foldl (s.applyLayer bad x y) 0

/-- Nibble of TLN_CLONE for a tile: member, and source (R386, R398). -/
def State.clone (s : State) (n : Nat) : Option Nat :=
  let v := s.g ⟨0x50, 0x64, 4 * n + 3, 4 * n⟩
  if 8 ≤ v then some (v % 8) else none

/-- Where the value of field pixel (x, y) is composed: a clone member takes its source's pixel, and none while the source lane is not ACTIVE (R386). -/
def State.origin (s : State) (x y : Nat) : Option (Nat × Nat) :=
  let t := tileOf x y
  match s.clone t with
  | none => some (x, y)
  | some src =>
    if s.g (F.TL_STAT_STATE src) = 5 then
      let c := if tbit (s.g F.TLN_CLONE_MIR_MIRROR) t then 511 - x % 512 else x % 512
      some (512 * (src % 4) + c, 512 * (src / 4) + y % 512)
    else none

/-- The compositor's 16-bit output at a field pixel; bad lists the Slate words whose read fails (R238, R254, R386). -/
def State.compose (s : State) (bad : List Nat) (x y : Nat) : Nat :=
  match s.origin x y with
  | some (u, v) => s.layersAt bad u v
  | none => 0

/-- Slate words that a pixel's layers read, with the layer, in composition order (R254). -/
def State.readsAt (s : State) (x y : Nat) : List (Nat × Nat) :=
  match s.origin x y with
  | none => []
  | some (u, v) =>
    s.order.foldl (fun l n =>
      let ws := if s.isGlare n then (if s.laneEnabled (tileOf u v) then wordsOf (s.maskAddr (tileOf u v) (u % 512) (v % 512)) 1 else [])
        else match s.source n u v with
          | none => []
          | some (a, b) =>
            let r := if s.on (F.LAY_STAT_DILATED n) then s.g (F.LAY_MASK_DIL_R n) else 0
            (List.range (2 * r + 1)).foldl (fun w i => (List.range (2 * r + 1)).foldl (fun w j =>
              if decide (r ≤ a + i) && decide (a + i - r < s.layW n) && decide (r ≤ b + j) && decide (b + j - r < s.layH n) then
                w ++ s.texelWords n (a + i - r) (b + j - r)
              else w) w) []
      l ++ ws.map (fun w => (n, w))) []

/-- Failing words that a pixel's layers read, with the layer (R254). -/
def State.parityAt (s : State) (bad : List Nat) (x y : Nat) : List (Nat × Nat) :=
  (s.readsAt x y).filter (fun e => bad.contains e.2)

/-! ### Output stage (R240) -/

/-- The dither table B, row by row. -/
def ditherB : List Nat := [0, 8, 2, 10, 12, 4, 14, 6, 3, 11, 1, 9, 15, 7, 13, 5]

/-- Code of a 16-bit value at field pixel (x, y) of frame f (R240). -/
def quantise (dither : Bool) (p x y f : Nat) : Nat :=
  let d := if dither then ditherB.getD (4 * ((y + f / 4) % 4) + (x + f) % 4) 0 else 8
  min 4095 ((p + d) / 16)

end Sys2Proof.Machine
end

