-- ==== Sys2Proof/Machine/SideOps.lean ====
section
/-! DEFINITION. Operations on the side link: its states, reception and the split state (05_gylys_link, R184 to R191). -/

namespace Sys2Proof.Machine

/-- State of the side link, coded as R156. -/
def State.sst (s : State) : Nat := s.g F.SIDE_STAT_STATE

/-- The lamp enters the split state; a lamp in it stays (R188, R189, R385). -/
def State.enterSplit (s : State) : State :=
  if s.on (F.UNIT_CTRL_ENABLE 0x0A) && !s.on F.SIDE_STAT_SPLIT then
    let s := ((s.put F.SIDE_STAT_SPLIT 1).put F.SIDE_STAT_PHASE_LOCK 0).evt F.SIDE_EVT_LOST
    let s := s.withSide { s.side with phases := 0, lockRun := 0 }
    (s.incSat F.SIDE_CNT_SPLITS).raise S.SIDE_LOST 0
  else s

/-- Own reception is lost: RX_OK clears, and a lamp that had it splits (R188). -/
def State.loseRx (s : State) : State :=
  let had := s.on F.SIDE_STAT_RX_OK
  let s := s.put F.SIDE_STAT_RX_OK 0
  let s := s.withSide { s.side with phases := 0, lastRx := none }
  if had then s.enterSplit else s

/-- The side link leaves its state for another; leaving ACTIVE loses reception (R185, R188). -/
def State.sideTo (s : State) (st : Nat) : State :=
  let was := s.sst = 5
  let s := s.put F.SIDE_STAT_STATE st
  if was && st ≠ 5 then s.loseRx else s

/-- SIDE is disabled: the lamp runs alone and reports nothing (R156, R191). -/
def State.sideOff (s : State) : State :=
  let s := ((s.put F.SIDE_STAT_STATE 0).put F.SIDE_STAT_SPLIT 0).put F.SIDE_STAT_RX_OK 0
  let s := ((s.put F.SIDE_STAT_PEER_RX_OK 0).put F.SIDE_STAT_PHASE_LOCK 0).put F.SIDE_STAT_ROLE_CONFLICT 0
  ((s.withSide Side.init).condEnd S.SIDE_LOST 0).condEnd S.SIDE_ROLE 0

/-- An event of R156 on the side link: it moves from a state in [lo, hi] to another (R185). -/
def State.sideStep (s : State) (lo hi next : Nat) : State :=
  if decide (lo ≤ s.sst) && decide (s.sst ≤ hi) && s.on (F.UNIT_CTRL_ENABLE 0x0A) then s.sideTo next else s

end Sys2Proof.Machine
end

