-- ==== Sys2Proof/Machine/Quartz.lean ====
section
/-! DEFINITION. Quartz: the RC oscillator, the root state machine, reference switching and the clock monitor (03_quartz_clocking). -/

namespace Sys2Proof.Machine

/-- State of the root (R91). -/
def State.root (s : State) : Nat := s.g F.CLK_STAT_STATE

/-- Lock bit of the CDR of link l as Quartz shows it. -/
def lockFld (l : Nat) : Fld := if l = 0 then F.CLK_STAT_A_LOCK else F.CLK_STAT_B_LOCK

/-- Loss event of link l. -/
def lossFld (l : Nat) : Fld := if l = 0 then F.CLK_EVT_LOSS_A else F.CLK_EVT_LOSS_B

/-- Page of link l. -/
def lnkPage (l : Nat) : Nat := 0x08 + l % 2

/-- The last complete frequency window of link l lay within 300 ppm (R86). -/
def State.windowOk (s : State) (l : Nat) : Bool := s.quartz.window.getD l none = some true

/-- Link l is eligible as a reference (R86): CDR locked, enabled, and, while the root runs, the current reference or within the window. -/
def State.eligible (s : State) (l : Nat) : Bool :=
  s.on (F.LNK_STAT_CDR_LOCK l) && s.on (F.UNIT_CTRL_ENABLE (lnkPage l))
  && (!s.rootUp || (s.g F.CLK_STAT_REF_ACT = l && s.quartz.lost ≠ l) || s.windowOk l)

/-- The CDR lock of link l changes; a loss restarts its windows (R86). -/
def State.setLock (s : State) (l : Nat) (b : Bool) : State :=
  let s := (s.put (F.LNK_STAT_CDR_LOCK l) (bit b)).put (lockFld l) (bit b)
  let s := if s.g F.CLK_STAT_REF_ACT = l then s else s.put F.CLK_FREQ_ERR_VALID 0
  s.withQuartz { s.quartz with window := s.quartz.window.set l none }

/-- In WAIT_REF the link being tried is connected as the reference once its CDR locks and no reset holds the device (R91). -/
def State.refConnect (s : State) (l : Nat) : State :=
  if s.root = 1 && s.quartz.acq = l && s.rst.scope.isNone && s.on (F.UNIT_CTRL_ENABLE (lnkPage l)) && s.on (F.LNK_STAT_CDR_LOCK l) then
    (s.put F.CLK_STAT_REF_ACT l).put F.CLK_STAT_STATE 2
  else s

/-- The reference is lost in LOCKED or SLEW: the VCO is frozen and the holdover timer runs (R83, R89, R91). -/
def State.refLost (s : State) : State :=
  if s.root = 4 || s.root = 7 then
    let r := s.g F.CLK_STAT_REF_ACT
    let since := if s.root = 4 then some s.now else s.quartz.holdSince
    let s := (s.put F.CLK_STAT_STATE 5).evt (lossFld r)
    s.withQuartz { s.quartz with frozen := true, lost := r, holdSince := since, window := s.quartz.window.set r none }
  else s

/-- SWITCH to a link. -/
def State.switchTo (s : State) (l : Nat) : State :=
  (s.put F.CLK_STAT_STATE 6).withQuartz { s.quartz with target := l }

/-- HOLDOVER is left for a link that R91 and R92 allow. -/
def State.leaveHoldover (s : State) : State :=
  if s.root = 5 then
    let other := 1 - s.quartz.lost
    if s.on F.CLK_REF_CTRL_AUTO && s.eligible other then s.switchTo other
    else if s.eligible s.quartz.lost then s.switchTo s.quartz.lost
    else s
  else s

/-- The root-derived clocks are gated off: ROOT_OK and ALIGNED clear, the monitor is masked (R90, R91, R507). -/
def State.rootGate (s : State) (next : Nat) : State :=
  let s := ((s.put F.CLK_STAT_ROOT_OK 0).put F.CLK_STAT_ALIGNED 0).put F.CLK_STAT_STATE next
  (s.put F.CSF_STAT_LT_VALID 0).withQuartz { s.quartz with masked := true, frozen := true, holdSince := none, acq := s.g F.CLK_REF_CTRL_SEL, window := [none, none] }

/-- Links in 3 to 6 lose the root's clocks: they enter LOCK (R90, R156), the side link as they (R185). -/
def State.linksLock (s : State) : State :=
  ((List.range 2).foldl (fun s l => if 3 ≤ s.lst l && s.lst l ≤ 6 then (s.abortFrame l).linkTo l 2 else s) s).sideStep 3 5 2

/-! ### RC oscillator -/

/-- RC_START: the attempt under way ends; fail is 0 when it passes, else the step of R95 that failed (R95 to R98). The monitor is unmasked while the root's clocks run (R97, R102). -/
def execRcStart (fail : Nat) (s : State) : Host.Outcome State Fault Refusal :=
  let s := s.begin
  if s.quartz.rc = .attempt then
    if fail = 0 then
      let s := s.withQuartz { s.quartz with rc := .running }
      let s := if s.root = 0 then ((s.put F.CLK_STAT_STATE 1).withQuartz { s.quartz with acq := s.g F.CLK_REF_CTRL_SEL }) else s
      let s := if s.rootUp || s.root = 8 then ((s.put F.CLK_STAT_MON_GOOD 1).withQuartz { s.quartz with masked := false }) else s
      .next s.tryRelease
    else if fail ≤ 4 then
      let s := s.put F.CLK_RC_START_FAIL_STEP fail
      if s.quartz.tries < 8 then .next (s.withQuartz { s.quartz with rc := .pause })
      else
        let s : State := (s.put F.CLK_RC_START_DEAD 1).withQuartz { s.quartz with rc := .off }
        if s.root = 0 then .next s else .next (s.rootGate 0).linksLock
    else .next s
  else .next s

/-- RC_RETRY: 100 µs after a failed attempt a new one begins (R98). -/
def execRcRetry (s : State) : Host.Outcome State Fault Refusal :=
  let s := s.begin
  .next (if s.quartz.rc = .pause then s.rcAttempt (s.quartz.tries + 1) else s)

/-! ### Acquisition -/

/-- REF_CDR_LOCK: the CDR of the link being tried locks (R91). -/
def execRefCdrLock (s : State) : Host.Outcome State Fault Refusal :=
  let s := s.begin
  .next (if s.root = 1 then (s.setLock s.quartz.acq true).refConnect s.quartz.acq else s)

/-- ACQ_TMO_EXPIRY: with AUTO the other link is tried (R91). -/
def execAcqTmoExpiry (s : State) : Host.Outcome State Fault Refusal :=
  let s := s.begin
  .next (if s.root = 1 && s.on F.CLK_REF_CTRL_AUTO then
    let s := (s.evt F.CLK_EVT_ACQ_ALT).withQuartz { s.quartz with acq := 1 - s.quartz.acq }
    s.refConnect s.quartz.acq
  else s)

/-- ROOT_LOOP_LOCK: the root loop locks and the synchronisation pulse is issued (R82, R91). -/
def execRootLoopLock (s : State) : Host.Outcome State Fault Refusal :=
  let s := s.begin
  .next (if s.root = 2 then s.put F.CLK_STAT_STATE 3 else s)

/-- ACQUIRE_TIMEOUT: no lock within 200 µs (R91). -/
def execAcquireTimeout (s : State) : Host.Outcome State Fault Refusal :=
  let s := s.begin
  .next (if s.root = 2 then s.put F.CLK_STAT_STATE 1 else s)

/-- A link whose CDR has locked aligns once the root runs (R157). -/
def State.linksAlign (s : State) : State :=
  (List.range 2).foldl (fun s l => if s.lst l = 2 && s.on (F.LNK_STAT_CDR_LOCK l) then s.linkTo l 3 else s) s

/-- The root is LOCKED with the dividers running (R91): link time restarts (R164), the monitor is unmasked, units start again (R90, R388, R623). -/
def State.rootLocked (s : State) : State :=
  let s := ((s.put F.CLK_STAT_STATE 4).put F.CLK_STAT_ROOT_OK 1).put F.CLK_STAT_ALIGNED 1
  let ok := s.quartz.rc = .running
  let s := (((((if ok then s.put F.CLK_STAT_MON_GOOD 1 else s).put F.CSF_STAT_LT_VALID 0).withQuartz { s.quartz with masked := !ok, frozen := false, holdSince := none, lost := 2, window := [none, none] }).withLt 0).withSlew 0).withLtApplied none
  let s := s.linksAlign
  let s := (s.timerTry).lanesWake
  let s := if s.inStep 3 then s.bootRoot
    else if s.quartz.stopped then s.evrStart 3 else s
  let s := s.withQuartz { s.quartz with stopped := false }
  -- the return of R514 ends when the root is back
  let s := if s.pwr.st = .resume && !s.rst.deepExit then (s.withPwr { s.pwr with st := .run, lyState := 0 }).flintResume else s
  s.settle

/-- DIVIDERS_RUNNING (R82, R91). -/
def execDividersRunning (s : State) : Host.Outcome State Fault Refusal :=
  let s := s.begin
  .next (if s.root = 3 then s.rootLocked else s)

/-! ### Reference switching -/

/-- REFERENCE_LOSS (R83, R91). -/
def execReferenceLoss (s : State) : Host.Outcome State Fault Refusal := .next s.begin.refLost

/-- A write of v to CLK_REF_CMD (R93). -/
def State.refCmd (s : State) (v : Word) : State :=
  let target := wordField v 1 1
  if wordField v 0 0 = 0 then s
  else if s.root ≠ 4 then s.evt F.CLK_EVT_CMD_REJ
  else if target = s.g F.CLK_STAT_REF_ACT then s
  else if !s.eligible target then s.evt F.CLK_EVT_CMD_REJ
  else
    let s := s.switchTo target
    s.withQuartz { s.quartz with frozen := true, holdSince := some s.now, lost := 2 }

/-- LINK_ELIGIBLE: a link becomes eligible in HOLDOVER (R91, R92). -/
def execLinkEligible (s : State) : Host.Outcome State Fault Refusal := .next s.begin.leaveHoldover

/-- FREQ_WINDOW_END: a 1 ms window of link l ends with its CDR locked throughout; the error is reported for the other link (R86). -/
def execFreqWindowEnd (l : Nat) (ppm : Int) (s : State) : Host.Outcome State Fault Refusal :=
  let s := s.begin
  .next (if s.rootUp && decide (l < 2) && s.on (F.LNK_STAT_CDR_LOCK l) then
    let s := s.withQuartz { s.quartz with window := s.quartz.window.set l (some (decide (ppm.natAbs ≤ 300))) }
    if s.g F.CLK_STAT_REF_ACT = l then s
    else (s.put F.CLK_FREQ_ERR_OTHER_PPM (unsigned 16 ppm)).put F.CLK_FREQ_ERR_VALID 1
  else s)

/-- The multiplexer has switched to the target (R87, R91). -/
def State.muxDone (s : State) (wait : Nat) : State :=
  let s := ((s.put F.CLK_SW_FORCED_WAIT wait).put F.CLK_STAT_REF_ACT s.quartz.target).put F.CLK_STAT_STATE 7
  (s.put F.CLK_FREQ_ERR_VALID 0).withQuartz { s.quartz with frozen := false, lost := 2 }

/-- MUX_SWITCH: the old edge came after wait complete RC cycles; 0 when the old reference runs (R87). -/
def execMuxSwitch (wait : Nat) (s : State) : Host.Outcome State Fault Refusal :=
  let s := s.begin
  .next (if s.root = 6 && decide (wait < 64) then s.muxDone (if s.quartz.lost = 2 then 0 else wait) else s)

/-- FORCED_SWITCH: no edge within 64 RC cycles (R87). -/
def execForcedSwitch (s : State) : Host.Outcome State Fault Refusal :=
  let s := s.begin
  .next (if s.root = 6 then
    (((s.evt F.CLK_SW_FORCED_FLAG).incSat F.CLK_SW_FORCED_COUNT).muxDone 64).raise S.CLK_SW_FORCED 0
  else s)

/-- SLEW_LOCK: lock reported on the new reference (R88, R91). -/
def execSlewLock (s : State) : Host.Outcome State Fault Refusal :=
  let s := s.begin
  .next (if s.root = 7 then
    let s := (s.put F.CLK_STAT_STATE 4).inc F.CLK_STAT_SWITCH_CNT
    s.withQuartz { s.quartz with holdSince := none, lost := 2 }
  else s)

/-- STOPPING_GATE: the monitor is masked and the root-derived clocks are gated (R90). -/
def execStoppingGate (s : State) : Host.Outcome State Fault Refusal :=
  let s := s.begin
  .next (if s.root = 8 then
    let s := (s.rootGate 1).linksLock
    (s.withQuartz { s.quartz with stopped := true }).refConnect (s.g F.CLK_REF_CTRL_SEL)
  else s)

/-! ### Clock monitor -/

/-- The monitor trips for the domains of a mask of CLK_MON_STAT (R102). -/
def State.monitorTrip (s : State) (mask : Nat) : State :=
  let s := (List.range 6).foldl (fun s i => if tbit mask i then s.evt ⟨0x01, 0x54, i, i⟩ else s) (s.put F.CLK_STAT_MON_GOOD 0)
  (s.raiseTrig S.CLK_MON 0 4 ((s.word 0x1054).toNat % 64) false).settle

/-- A count lies outside ±10 % limits scaled by num / den (R100, R111). -/
def outside (count lo hi num den : Nat) : Bool := decide (count * den < lo * num) || decide (hi * num < count * den)

/-- MONITOR_WINDOW_END: the five counts of a 64-cycle RC window (R100, R102, R111). -/
def execMonitorWindowEnd (lane pix core peri hk : Nat) (s : State) : Host.Outcome State Fault Refusal :=
  let s := s.begin
  .next (if s.quartz.rc = .running then
    let s := ((s.put (F.CLK_MON_CNT_CNT_LO 0) pix).put (F.CLK_MON_CNT_CNT_HI 0) core)
    let s := (s.put (F.CLK_MON_CNT_CNT_LO 1) peri).put (F.CLK_MON_CNT_CNT_HI 1) hk
    let s := s.put (F.CLK_MON_CNT_CNT_LO 2) lane
    let rf := s.on F.CLK_STAT_RF_ACTIVE
    let mask := bit (outside lane 180 220 1 1)
      + 2 * bit (if rf then outside pix 180 220 (8 * 65536) (s.g F.CLK_RF_PIX_DIV) else outside pix 180 220 1 1)
      + 4 * bit (if rf then outside core 180 220 (16 * 65536) (s.g F.CLK_RF_CORE_DIV) else outside core 180 220 1 1)
      + 8 * bit (outside peri 180 220 1 1) + 16 * bit (outside hk 45 55 1 1)
    -- the clocks that SLEEP stops are not judged (R505; DEDUCED)
    let mask := if s.pwr.st = .sleep then mask &&& 0x1C else mask
    if s.quartz.masked || mask = 0 then s else s.monitorTrip mask
  else s)

/-- RC_CHECK_WINDOW_END: RC cycles in 65,536 core cycles while the root is LOCKED (R101, R102, R104). -/
def execRcCheckWindowEnd (count : Nat) (s : State) : Host.Outcome State Fault Refusal :=
  let s := s.begin
  .next (if s.root = 4 && s.quartz.rc = .running then
    let s := s.put (F.CLK_MON_CNT_CNT_HI 2) count
    if !s.quartz.masked && (decide (count < 4876) || decide (5610 < count)) then
      (s.withQuartz { s.quartz with rcTrip := true }).monitorTrip 32
    else s
  else s)

end Sys2Proof.Machine
end

