-- ==== Sys2Proof/Machine/Links.lean ====
section
/-! DEFINITION. The Gylys link state machine, rate matching, link time and the check of received frames (05_gylys_link). -/

namespace Sys2Proof.Machine

end Sys2Proof.Machine

namespace Sys2Proof

open Machine

/-! ### Link frames (R148 to R151) -/

/-- FTYPE of a frame. -/
def Wire.ftype (f : Wire) : Nat := (f.bytes.getD 0 0).toNat / 16

/-- LEN of a frame. -/
def Wire.len (f : Wire) : Nat := ofBe (slice f.bytes 2 2)

/-- Payload of a frame. -/
def Wire.payload (f : Wire) : List Byte := slice f.bytes 4 f.len

/-- The CRC-32 at the end of a side-link frame matches the bytes before it (R150, R184). -/
def Wire.crcOk (f : Wire) : Bool :=
  decide (4 ≤ f.bytes.length) && ofBe (f.bytes.drop (f.bytes.length - 4)) = crc32 (f.bytes.take (f.bytes.length - 4))

/-- LEN lies in the range of its forward FTYPE (R149). -/
def lenOk (ftype len : Nat) : Bool :=
  match ftype with
  | 1 => decide (len ≤ 16384)
  | 2 => len = 64
  | 3 => len = 1 || len = 20
  | 4 => decide (len ≤ 1024)
  | _ => false

/-- VER, the reserved bits, FTYPE, LEN and the position of the end delimiter are as R148 and R149 ask, with a check value of n bytes. -/
def Wire.formOk (f : Wire) (n : Nat) : Bool :=
  decide (4 + n ≤ f.bytes.length) && (f.bytes.getD 0 0).toNat % 16 = 1 && decide ((f.bytes.getD 1 0).toNat < 2)
  && lenOk f.ftype f.len && f.bytes.length = 4 + n + f.len

/-- NET of a frame. -/
def Wire.net (f : Wire) : Nat := (f.bytes.getD 1 0).toNat % 2

end Sys2Proof

namespace Sys2Proof.Machine

/-- A forward frame arrives on link l: the Bool says that it passes R151; a discard is counted (FRAME_DISCARD, R151, R192). -/
def State.checkFrame (s : State) (l : Nat) (f : Wire) : Bool × State :=
  if !(s.lst l = 5 || s.lst l = 6) || s.blockRunning (lnkPage l) || decide (2 ≤ l) then (false, s)
  else if f.abt then (false, s.abortFrame l)
  else if f.codeErr then (false, (s.incSat (F.LNK_ERR_CNT_CNT_LO l)).evt (F.LNK_EVT_MALFORMED l))
  else
  let inj := s.armed S.LNK_CRC
  let n := s.fwdCrcLen l
  let (ok, s) := (s.consumeInj S.LNK_CRC).fwdCrc l f.bytes inj
  if !ok then
    let s := (s.evt (F.LNK_EVT_CRC_ERR l)).incSat (F.LNK_ERR_CNT_CNT_HI l)
    let u := match s.crcUnit 2 (l + 1) with | some u => [0x88, 0x89 + u] | none => []
    (false, s.detect (lnkPage l :: u) S.LNK_CRC l 0 inj)
  else if !f.formOk n then (false, s.evt (F.LNK_EVT_MALFORMED l))
  else if f.net ≠ l then (false, s.evt (F.LNK_EVT_WRONG_LINK l))
  else (true, s)

/-! ### State machine (R156 to R160). Link 0 is Link A, 1 Link B, 2 the side link, whose states R185 takes from R156 (log 11) -/

/-- Alignment and training wait for a running root (R157). -/
def State.rootServes (s : State) : Bool := s.rootUp && s.on F.CLK_STAT_ROOT_OK

/-- A link in LOCK whose CDR is locked goes on to ALIGN when the root runs (R156, R157). -/
def State.passLock (s : State) (l : Nat) : State :=
  if s.lst l = 2 && s.on (F.LNK_STAT_CDR_LOCK l) && s.rootServes then s.linkTo l 3 else s

/-- SIGNAL_DETECT: signal held for 10 µs; a CDR that kept lock passes LOCK at once (R156, R620). -/
def execSignalDetect (l : Nat) (s : State) : Host.Outcome State Fault Refusal :=
  let s := s.begin
  .next (if l = 2 then s.sideStep 1 1 2
  else if decide (l < 2) && s.lst l = 1 then ((s.put (F.LNK_STAT_SIG_DET l) 1).linkTo l 2).passLock l else s)

/-- CDR_LOCK: the CDR of link l locks (R156); it may serve as the reference (R91). -/
def execCdrLock (l : Nat) (s : State) : Host.Outcome State Fault Refusal :=
  let s := s.begin
  .next (if l = 2 then (if s.rootServes then s.sideStep 2 2 3 else s)
  else if decide (l < 2) && s.lst l = 2 then ((s.setLock l true).passLock l).refConnect l else s)

/-- CDR_LOCK_TIMEOUT: no CDR lock within 1 ms (R156). -/
def execCdrLockTimeout (l : Nat) (s : State) : Host.Outcome State Fault Refusal :=
  let s := s.begin
  .next (if l = 2 then s.sideStep 2 2 1
  else if decide (l < 2) && s.lst l = 2 && !s.on (F.LNK_STAT_CDR_LOCK l) then s.linkTo l 1 else s)

/-- COMMA_ALIGN: three commas at one alignment (R156). -/
def execCommaAlign (l : Nat) (s : State) : Host.Outcome State Fault Refusal :=
  let s := s.begin
  .next (if l = 2 then (if s.rootServes then s.sideStep 3 3 4 else s)
  else if decide (l < 2) && s.lst l = 3 && s.rootServes then (s.linkTo l 4).modLink l (fun k => k.send .ts) else s)

/-- TRAINING_DONE: 8 TSD after 64 TS; the device answers with TSD and STATUS (R153, R156). -/
def execTrainingDone (l : Nat) (s : State) : Host.Outcome State Fault Refusal :=
  let s := s.begin
  .next (if decide (l < 2) && s.lst l = 4 then
    ((s.modLink l (fun k => k.send .tsd)).incSat (F.LNK_TRN_CNT_CNT_LO l)).enterActive l
  else s)

/-- TRAINING_TIMEOUT (R156). -/
def execTrainingTimeout (l : Nat) (s : State) : Host.Outcome State Fault Refusal :=
  let s := s.begin
  .next (if l = 2 then (if s.sst = 4 then (s.sideStep 4 4 1).evt F.SIDE_EVT_TRN_TMO else s)
  else if decide (l < 2) && s.lst l = 4 then
    ((s.linkTo l 1).evt (F.LNK_EVT_TRN_TMO l)).raise S.LNK_TRN_TMO l
  else s)

/-- TS_RECEIVED: the host trains again (R156). -/
def execTsReceived (l : Nat) (s : State) : Host.Outcome State Fault Refusal :=
  let s := s.begin
  .next (if l = 2 then s.sideStep 5 5 4
  else if decide (l < 2) && s.lst l = 5 then ((s.abortFrame l).linkTo l 4).modLink l (fun k => k.send .ts) else s)

/-- ALIGNMENT_LOSS: the fourth code error within 64 symbols (R156, R158). -/
def execAlignmentLoss (l : Nat) (s : State) : Host.Outcome State Fault Refusal :=
  let s := s.begin
  .next (if l = 2 then s.sideStep 4 5 3
  else if decide (l < 2) && decide (4 ≤ s.lst l) && decide (s.lst l ≤ 6) then
    ((s.abortFrame l).linkTo l 3).evt (F.LNK_EVT_ALIGN_LOST l)
  else s)

/-- Loss of the CDR of link l: its lock, and the root's reference if it is that (R83). -/
def State.cdrLost (s : State) (l : Nat) : State :=
  let s := s.setLock l false
  if s.g F.CLK_STAT_REF_ACT = l then s.refLost else s

/-- LOSS_OF_SIGNAL (R156, R158). -/
def execLossOfSignal (l : Nat) (s : State) : Host.Outcome State Fault Refusal :=
  let s := s.begin
  .next (if l = 2 then s.sideStep 2 5 1
  else if decide (l < 2) && decide (2 ≤ s.lst l) && decide (s.lst l ≤ 6) then
    let was := s.active l
    let s := (((s.abortFrame l).linkTo l 1).evt (F.LNK_EVT_LOS l)).incSat (F.LNK_TRN_CNT_CNT_HI l)
    let s := (s.put (F.LNK_STAT_SIG_DET l) 0).cdrLost l
    if was then s.raise S.LNK_LOS l else s
  else s)

/-- CDR_LOSS_OF_LOCK (R83, R156). -/
def execCdrLossOfLock (l : Nat) (s : State) : Host.Outcome State Fault Refusal :=
  let s := s.begin
  .next (if l = 2 then s.sideStep 3 5 2
  else if decide (l < 2) && decide (3 ≤ s.lst l) && decide (s.lst l ≤ 6) then
    let was := s.active l
    let s := (((s.abortFrame l).linkTo l 2).evt (F.LNK_EVT_LOL l)).cdrLost l
    if was then s.raise S.LNK_LOS l else s
  else s)

/-! ### Rate matching (R161 to R163) -/

/-- The rate-matching queue of link l slips (QUEUE_SLIP, R163). -/
def State.slip (s : State) (l : Nat) : State :=
  let s := ((s.abortFrame l).modLink l (fun k => { k with rate := 16 })).evt (F.LNK_EVT_SLIP l)
  (s.incSat (F.LNK_ERR_CNT_CNT_LO l)).raise S.LNK_SLIP l

/-- SKP: received at a fill of the 32-symbol queue; 0 or more than 32 is a slip. l is 0 or 1, or 2 for the side link (R161, R163, R184). -/
def execSkp (l fill : Nat) (s : State) : Host.Outcome State Fault Refusal :=
  let s := s.begin
  .next (if l = 2 then
    if s.g F.SIDE_STAT_STATE = 5 && (fill = 0 || decide (32 < fill)) then s.evt F.SIDE_EVT_SLIP else s
  else if decide (l < 2) && decide (3 ≤ s.lst l) && decide (s.lst l ≤ 6) then
    if fill = 0 || decide (32 < fill) then s.slip l
    else if 18 ≤ fill then (s.modLink l (fun k => { k with rate := fill - 2 })).incSat (F.LNK_SKP_CNT_CNT_HI l)
    else if fill ≤ 14 then (s.modLink l (fun k => { k with rate := fill + 2 })).incSat (F.LNK_SKP_CNT_CNT_LO l)
    else s.modLink l (fun k => { k with rate := fill })
  else s)

/-! ### Link time (R164 to R168) -/

/-- LTM: answered with LTR after dly ns; once LINKS has run, the exchange is numbered and reported (R165, R619). -/
def execLtm (l dly : Nat) (s : State) : Host.Outcome State Fault Refusal :=
  let s := s.begin
  .next (if decide (l < 2) && s.active l then
    let n := (s.link l).ltm + 1
    let x : Exchange := ⟨n % 256, s.ltNs, (s.ltNs + min dly 20000) % 2 ^ 64⟩
    let s := s.modLink l (fun k => { k.send .ltr with ltm := n })
    if s.linkServed l then
      s.modLink l (fun k => { k with
        exch := (k.exch ++ [x]).drop (k.exch.length - 3),
        lctl := k.lctl ++ [[0x81, b8 x.xno, 0, 0] ++ beBytes 8 x.t2 ++ beBytes 8 x.t3] })
    else s
  else s)

/-- Saturate to a range. -/
def clampInt (lo hi i : Int) : Int := if i < lo then lo else if hi < i then hi else i

/-- Link time is corrected by −θ (R166). -/
def State.correctLt (s : State) (l : Nat) (θ : Int) : State :=
  let s : State := if s.on F.CSF_STAT_LT_VALID && decide (θ.natAbs ≤ 1000) then s.withSlew (-θ * 65536)
    else
      let s := (s.evt (F.LNK_EVT_LT_STEP l)).event 0x0881 (b8 l :: leBytes 4 (unsigned 32 (clampInt (-(2 ^ 31 - 1)) (2 ^ 31 - 1) θ)))
      (s.withLt (unsigned 80 ((s.lt : Int) - θ * 65536))).withSlew 0
  (s.put F.CSF_STAT_LT_VALID 1).withLtApplied (some s.now)

/-- An exchange completes (R166, R167): θ and δ are reported, and applied on the reference link. Halves are rounded down (DESIGN CHOICE, log 10). -/
def State.exchange (s : State) (l : Nat) (x : Exchange) (t1 t4 : Nat) : State :=
  let θ := (signed 64 (unsigned 64 ((x.t2 : Int) - t1)) + signed 64 (unsigned 64 ((x.t3 : Int) - t4))) / 2
  let δ := (signed 64 (unsigned 64 ((t4 : Int) - t1)) - signed 64 (unsigned 64 ((x.t3 : Int) - x.t2))) / 2
  let s := s.put (F.LNK_LT_OFS_OFS l) (unsigned 32 (clampInt (-(2 ^ 31 - 1)) (2 ^ 31 - 1) θ))
  let s := (s.put (F.LNK_LT_DLY_DLY l) (min 65535 δ.toNat)).put (F.LNK_LT_DLY_XNO l) x.xno
  let s := s.put (F.LNK_LT_DLY_VALID l) 1
  if s.g F.CLK_STAT_REF_ACT = l && s.rootUp then s.correctLt l θ else s

/-- An LCTL payload is one of R152's forward forms. -/
def lctlOk (p : List Byte) : Bool := (p.getD 0 0 = 1 && p.length = 20) || (p.getD 0 0 = 2 && p.length = 1)

/-- LCTL_TIME: the host's T1 and T4 complete the exchange that XNO names (R152, R165 to R167). -/
def execLctlTime (l : Nat) (f : Wire) (s : State) : Host.Outcome State Fault Refusal :=
  let (ok, s) := s.begin.checkFrame l f
  .next (if ok && f.ftype = 3 then
    let p := f.payload
    if !lctlOk p then s.evt (F.LNK_EVT_MALFORMED l)
    else if p.getD 0 0 = 1 && s.active l then
      match (s.link l).exch.find? (fun x => x.xno = (p.getD 1 0).toNat) with
      | some x => s.exchange l x (ofBe (slice p 4 8)) (ofBe (slice p 12 8))
      | none => s
    else s
  else s)

/-- LT_VALID_TIMEOUT: 500 ms without an applied exchange (R168). -/
def execLtValidTimeout (s : State) : Host.Outcome State Fault Refusal :=
  let s := s.begin
  .next ((s.put F.CSF_STAT_LT_VALID 0).withLtApplied none)

/-! ### Back channel -/

/-- STATUS_FRAME: the 1 ms period of link l ends (R153). -/
def execStatusFrame (l : Nat) (s : State) : Host.Outcome State Fault Refusal :=
  let s := s.begin
  .next (if l < 2 then s.queueStatus l else s)

end Sys2Proof.Machine
end

