-- ==== Sys2Proof/Machine/SafeFrames.lean ====
section
/-! DEFINITION. Chavelos safe frames: the comparator and DEV_STATUS (05_gylys_link, R172 to R183). -/

namespace Sys2Proof.Machine

/-- One byte into the CRC-32C register (R173). -/
def crcByteC (c : BitVec 32) (b : Byte) : BitVec 32 :=
  (List.range 8).foldl (fun c _ => if c.getLsbD 0 then (c >>> 1) ^^^ 0x82F63B78#32 else c >>> 1) (c ^^^ b.zeroExtend 32)

/-- CRC-32C of a byte string (R173). -/
def crc32c (l : List Byte) : Nat := (~~~ (l.foldl crcByteC 0xFFFFFFFF#32)).toNat

/-- A field of a safe frame (R172). -/
def sfField (p : List Byte) (o n : Nat) : Nat := ofBe (slice p o n)

/-- SEQ b is newer than SEQ a (R175). -/
def newer (b a : Nat) : Bool :=
  let d := (b + 2 ^ 32 - a % 2 ^ 32) % 2 ^ 32
  decide (1 ≤ d) && decide (d ≤ 2 ^ 31 - 1)

/-- Bytes i to j − 1 of a frame are zero. -/
def zeros (p : List Byte) (i j : Nat) : Bool := (slice p i (j - i)).all (· = 0)

/-- VER, TYPE, BEAM_REQ and the reserved bytes are as R172 and R174 ask. -/
def sfFormat (p : List Byte) : Bool :=
  sfField p 0x11 1 = 1 && zeros p 0x12 0x14 && zeros p 0x18 0x1C
  && (match sfField p 0x10 1 with
      | 1 => decide (sfField p 0x1C 1 ≤ 2) && zeros p 0x1D 0x1E && zeros p 0x20 0x3C
      | 2 => zeros p 0x20 0x3C
      | 3 => zeros p 0x1D 0x3C
      | _ => false)

/-- LINK_TIME is neither too old nor too new (R176). -/
def State.ageOk (s : State) (t : Nat) : Bool :=
  let d := signed 64 (unsigned 64 ((s.ltNs : Int) - t))
  s.on F.CSF_STAT_LT_VALID && decide (d ≤ (s.g F.CSF_CFG_AGE_MAX * 1000000 : Nat)) && decide (-1000000 ≤ d)

/-- Reference SEQ of a link (R176). -/
def Csf.ref (c : Csf) (l : Nat) : Option Nat := if l = 0 then c.refA else c.refB

/-- Pending table of a link. -/
def Csf.pendOf (c : Csf) (l : Nat) : List Copy := if l = 0 then c.pendA else c.pendB

/-- Set the pending table of a link. -/
def Csf.setPend (c : Csf) (l : Nat) (t : List Copy) : Csf := if l = 0 then { c with pendA := t } else { c with pendB := t }

/-- SEQ is newer than the last matched one, and not older than the link's reference (R176). -/
def State.seqOk (s : State) (l seq : Nat) : Bool :=
  (!s.csf.matched || newer seq (s.g F.CSF_LAST_SEQ_SEQ)) && (match s.csf.ref l with | some r => !newer r seq | none => true)

/-- The first check of R176 that a copy fails, as the event it sets; none when it passes. -/
def State.sfReject (s : State) (l : Nat) (p : List Byte) : Option Fld :=
  if s.armed S.CSF_REJECT || sfField p 0x3C 4 ≠ crc32c (slice p 0 0x3C) then some F.CSF_EVT_CRC
  else if !sfFormat p then some F.CSF_EVT_FORMAT
  else if s.g F.CSF_ID_OWN_ID = 0 || s.g F.CSF_ID_HOST_ID = 0 || sfField p 0 2 ≠ s.g F.CSF_ID_HOST_ID
      || (sfField p 2 2 ≠ s.g F.CSF_ID_OWN_ID && sfField p 2 2 ≠ 0xFFFF) then some F.CSF_EVT_ID
  else if sfField p 0x14 4 ≠ s.g F.RST_EPOCH_EPOCH then some F.CSF_EVT_EPOCH
  else if !s.ageOk (sfField p 8 8) then some F.CSF_EVT_AGE
  else if !s.seqOk l (sfField p 4 4) then some F.CSF_EVT_OLD
  else none

/-- A MISMATCH verdict: a safe reaction through Flint (R177, R180). -/
def State.mismatch (s : State) : State :=
  (((s.put F.CSF_STAT_VERDICT 1).evt F.CSF_EVT_MISMATCH).raiseTrig S.CSF_MISMATCH 0 8 0 true).settle

/-- A copy of link l is unmatched: it is missing on the other link (R177). -/
def State.unpaired (s : State) (l : Nat) : State := s.evt (if l = 0 then F.CSF_EVT_UNPAIRED_B else F.CSF_EVT_UNPAIRED_A)

/-- Pending copies of link l older than a matched SEQ leave unpaired (R177). -/
def State.dropOlder (s : State) (l seq : Nat) : State :=
  let t := s.csf.pendOf l
  let old := t.filter (fun c => newer seq (sfField c.bytes 4 4))
  let s := s.withCsf (s.csf.setPend l (t.filter (fun c => !newer seq (sfField c.bytes 4 4))))
  if old.isEmpty then s else s.unpaired l

/-- Flint's own check of a matched UNLOCK; one that passes waits for Flint's write of SAF_UNLOCK (R449). -/
def State.flintUnlock (s : State) (cnt : Nat) : State :=
  if s.saf.halted then s
  else if !s.on F.SAF_STAT_LOCKED then ((s.put F.SAF_UNLOCK_REJ 1).evt F.SAF_EVT_UNLOCK_REJ).event 0x6882 [1]
  else if cnt ≠ s.g F.SAF_LOCK_CNT_LOCK_CNT then ((s.put F.SAF_UNLOCK_REJ 2).evt F.SAF_EVT_UNLOCK_REJ).event 0x6882 [2]
  else s.withCsf { s.csf with unlock := some cnt }

/-- A pair is matched: Flint receives one verified frame (PAIR_MATCH, R177 to R180). -/
def State.deliver (s : State) (p : List Byte) : State :=
  let seq := sfField p 4 4
  let s := ((s.dropOlder 0 seq).dropOlder 1 seq).put F.CSF_LAST_SEQ_SEQ seq
  let s := s.inc F.CSF_CNT_MATCHED
  let s := s.withCsf { s.csf with matched := true }
  match sfField p 0x10 1 with
  | 1 => (s.put F.CSF_STAT_CURRENT 1).withCsf { s.csf with stateAt := some s.now, beamReq := some (sfField p 0x1C 1), speed := sfField p 0x1E 2 }
  | 2 => s.flintUnlock (sfField p 0x1C 4)
  | _ => s.withCsf { s.csf with profile := some (sfField p 0x1C 1) }

/-- A passed copy waits in its table; a ninth entry pushes out the oldest (R177). -/
def State.pendCopy (s : State) (l : Nat) (p : List Byte) : State :=
  let t := s.csf.pendOf l ++ [⟨p, s.now⟩]
  if t.length ≤ 8 then s.withCsf (s.csf.setPend l t)
  else (s.withCsf (s.csf.setPend l (t.drop 1))).unpaired l

/-- The pairing window in core cycles. -/
def State.win (s : State) : Nat := us (100 * s.g F.CSF_CFG_WIN)

/-- Remove the pending copy of a SEQ. -/
def State.unpend (s : State) (l seq : Nat) : State :=
  s.withCsf (s.csf.setPend l ((s.csf.pendOf l).filter (fun c => sfField c.bytes 4 4 ≠ seq)))

/-- A copy that passed R176 is paired (R177, R181). -/
def State.pair (s : State) (l : Nat) (p : List Byte) : State :=
  let seq := sfField p 4 4
  let s := s.withCsf (if l = 0 then { s.csf with refA := some seq } else { s.csf with refB := some seq })
  match (s.csf.pendOf l).find? (fun c => sfField c.bytes 4 4 = seq) with
  | some c => if c.bytes = p then s.evt F.CSF_EVT_DUP else (s.unpend l seq).mismatch
  | none =>
    match (s.csf.pendOf (1 - l)).find? (fun c => sfField c.bytes 4 4 = seq) with
    | some c =>
      let s := s.unpend (1 - l) seq
      if c.bytes ≠ p then s.mismatch
      else if s.now - c.at_ ≤ s.win then s.deliver p
      else (s.unpaired (1 - l)).pendCopy l p
    | none => s.pendCopy l p

/-- SAFE_FRAME: one copy arrives on link l (R151, R172 to R181). -/
def execSafeFrame (l : Nat) (f : Wire) (s : State) : Host.Outcome State Fault Refusal :=
  let (ok, s) := s.begin.checkFrame l f
  .next (if ok && f.ftype = 2 && !s.blockRunning 0x0B then
    match s.sfReject l f.payload with
    | some e =>
      let inj := s.armed S.CSF_REJECT
      (((s.consumeInj S.CSF_REJECT).evt e).incSat F.CSF_CNT_REJECTED).raiseWith S.CSF_REJECT 0 0 inj false
    | none => s.pair l f.payload
  else s)

/-- PENDING_EXPIRY: the oldest pending copy of link l has waited longer than WIN (R177). -/
def execPendingExpiry (l : Nat) (s : State) : Host.Outcome State Fault Refusal :=
  let s := s.begin
  .next (match s.csf.pendOf l with
    | [] => s
    | _ :: t => (s.withCsf (s.csf.setPend l t)).unpaired l)

/-- CSF_STALE_TIMEOUT: TMO passes without a new matched STATE; not in SLEEP or DEEP, nor before the first match (R179, R180, R505). -/
def execCsfStaleTimeout (s : State) : Host.Outcome State Fault Refusal :=
  let s := s.begin
  .next (if s.on F.CSF_STAT_CURRENT && s.pwr.st ≠ .sleep && !s.poweredStop then
    let s := ((s.put F.CSF_STAT_CURRENT 0).put F.CSF_STAT_VERDICT 2).evt F.CSF_EVT_STALE
    (s.raiseTrig S.CSF_STALE 0 9 0 true).settle
  else s)

/-- The 64 bytes of a DEV_STATUS frame (R172, R174, R183). -/
def State.devStatus (s : State) (seq : Nat) : List Byte :=
  let flags := bit (s.g F.SAF_STAT_FSTATE = 3) + 2 * s.g F.SAF_STAT_LOCKED + 4 * s.g F.CSF_STAT_CURRENT + 8 * s.g F.SIDE_STAT_SPLIT
    + 16 * s.g F.CSF_STAT_LT_VALID
  let req := match s.csf.beamReq with | some r => r | none => 0xFF
  let b := beBytes 2 (s.g F.CSF_ID_OWN_ID) ++ beBytes 2 (s.g F.CSF_ID_HOST_ID) ++ beBytes 4 seq ++ beBytes 8 s.ltNs
    ++ [0x80, 1, 0, 0] ++ beBytes 4 (s.g F.RST_EPOCH_EPOCH) ++ [0, 0, 0, 0]
    ++ [b8 flags, b8 (s.g F.SAF_REASON_LAST), b8 req, 0] ++ beBytes 4 (s.g F.SAF_LOCK_CNT_LOCK_CNT) ++ beBytes 4 (s.g F.CSF_LAST_SEQ_SEQ)
    ++ List.replicate 20 0
  b ++ beBytes 4 (crc32c b)

/-- A DEV_STATUS may be queued on link l (R154, R619). -/
def State.canSafe (s : State) (l : Nat) : Bool := s.active l && (s.link l).greeted

/-- DEV_STATUS: Flint's 10 ms period; the same bytes on every ACTIVE link (R183, R619). -/
def execDevStatus (s : State) : Host.Outcome State Fault Refusal :=
  let s := s.begin
  .next (if !s.saf.halted && (s.canSafe 0 || s.canSafe 1) then
    let s := s.inc F.CSF_TX_SEQ_SEQ
    let p := s.devStatus (s.g F.CSF_TX_SEQ_SEQ)
    (s.queueSafe 0 p).queueSafe 1 p
  else s)

end Sys2Proof.Machine
end

