-- ==== Sys2Proof/Machine/FrameOps.lean ====
section
/-! DEFINITION. Operations on the frame being composed: recomputation of regions and deferral of the flip (07_layers_and_composition, R254 to R260; 11_tile_lanes, R386, R391). -/

namespace Sys2Proof.Machine

/-- Pages of CMP and of every layer, whose windows mask the compositor's detectors (R124). -/
def cmpPages : List Nat := List.range' 0x18 17

/-- Number of the frame being composed (R16). -/
def State.frameNo (s : State) : Nat := (s.g F.CMP_FRAME_FRAME_NO + 1) % 2 ^ 32

/-- Both tiles' rows that are in use: a row of tiles is composed when a lane of it is enabled (R27). -/
def State.rowUsed (s : State) (r : Nat) : Bool := (List.range 4).any (fun t => s.laneEnabled (4 * r + t))

/-- Field bands composed in slot k: k of the upper row of tiles and k + 16 of the lower, where in use (R26). -/
def State.slotBands (s : State) (k : Nat) : List Nat :=
  (if s.rowUsed 0 then [k] else []) ++ (if s.rowUsed 1 then [k + 16] else [])

/-! ### Parity on compositor reads (R254) -/

/-- The outcome of a parity error is reported once for each layer and failing word: uncorrected when unc is true (R254). -/
def State.parityOutcome (s : State) (l : List (Nat × Nat)) (unc inj : Bool) : State :=
  l.foldl (fun s e => s.detect cmpPages (if unc then S.CMP_PARITY_UNC else S.CMP_PARITY) e.1 e.2 inj) s

/-- Failing words that w columns of field band b from column x0 depend on, with the layer that reads each (R254). -/
def State.parityIn (s : State) (bad : List Nat) (b x0 w : Nat) : List (Nat × Nat) :=
  if bad.isEmpty then []
  else (List.range (32 * w)).foldl (fun l i =>
    (s.parityAt bad (x0 + i % w) (32 * b + i / w)).foldl (fun l e => if l.contains e then l else l ++ [e]) l) []

/-- The first read of failing words sets the event bits (R254). -/
def State.noteParity (s : State) (l : List (Nat × Nat)) : State :=
  l.foldl (fun s e => (s.evt (F.LAY_EVT_PARITY e.1)).evt F.CMP_EVT_PARITY) s

/-! ### Deferral (R258 to R260) -/

/-- The flip of the frame being composed is deferred; blk says that a block reset is the cause. Parity errors still without a second read are reported uncorrected. -/
def State.deferFlip (s : State) (blk : Bool) : State :=
  let s := s.cmp.recomp.foldl (fun s r => s.parityOutcome r.parity true r.inj) s
  let s := (s.evt F.CMP_EVT_DEFER).incSat F.CMP_CNT_DEFER
  let s := if blk then s.evt F.CMP_EVT_BLK_DEFER else s
  let run := min 7 (s.g F.CMP_STAT_DEFER_RUN + 1)
  let s := (s.put F.CMP_STAT_DEFER_RUN run).put F.CMP_STAT_COMPOSING 0
  let s := (s.withTln { s.tln with nextFlip := s.tln.nextFlip + s.cmp.period, latched := false, committed := false, closed := false }).withCmp { s.cmp with deferred := true, recomp := [] }
  let s := s.detect cmpPages S.CMP_DEFER 0 0 false
  if run = s.g F.CMP_CTRL_DEFER_MAX then (s.evt F.CMP_EVT_DEFER_FATAL).detect cmpPages S.CMP_DEFER_FATAL 0 0 false else s

/-- A block reset of a unit that the frame needs overlaps the time from the latch point to the last push (R258, R335). -/
def State.blkDefer (s : State) : State := if s.tln.latched && !s.tln.closed then s.deferFlip true else s

/-! ### Recomputation requests (R255 to R257) -/

/-- Recomputations of a region made in this frame. -/
def State.triesOf (s : State) (k : Nat × Nat × Nat) : Nat := ((s.cmp.tries.find? (fun e => e.1 = k)).map (fun e => e.2)).getD 0

/-- Two requests concern one region. -/
def Recomp.same (a b : Recomp) : Bool := a.band = b.band && a.tile = b.tile && a.cell0 = b.cell0

/-- A request joins those that wait; a second one for the same region joins the first. -/
def joinRecomp (l : List Recomp) (r : Recomp) : List Recomp :=
  if l.any (fun e => e.same r) then
    l.map (fun e => if e.same r then { e with parity := e.parity ++ r.parity, cells := max e.cells r.cells, inj := e.inj || r.inj } else e)
  else l ++ [r]

/-- A region is to be recomputed; one that would need more than RETRY_MAX recomputations defers the flip, and then no second read is made (R254, R257, R258). -/
def State.requestRecomp (s : State) (r : Recomp) : State :=
  if s.tln.latched && !s.tln.closed then
    if decide (s.triesOf (r.band, r.tile, r.cell0) < s.g F.CMP_CTRL_RETRY_MAX) then
      s.withCmp { s.cmp with recomp := joinRecomp s.cmp.recomp r }
    else (s.parityOutcome r.parity true r.inj).deferFlip false
  else s.parityOutcome r.parity true r.inj

/-! ### Lanes in service (R391) -/

/-- A lane's tile is in service. -/
def State.inService (s : State) (n : Nat) : Bool :=
  let st := s.g (F.TL_STAT_STATE n)
  st = 5 || st = 6 || ((st = 1 || st = 2) && (s.lane n).viaService && (s.lane n).assigned)

/-- Tile n carries part of the cut-off (R306). -/
def State.cutoffTile (s : State) (n : Nat) : Bool := tbit (s.g F.GOV_PROF_CUTOFF_TILES) n

/-- Work of the frame that is not done: bands not yet composed and released, regions to recompute, regions to push (R258). -/
def State.frameDone (s : State) : Bool :=
  s.cmp.recomp.isEmpty && (List.range 8).all (fun n => !s.inService n || (s.lane n).queue.isEmpty)
  && (!s.on F.CMP_STAT_COMPOSING || (List.range 16).all (fun k => (s.slotBands k).all (fun b => s.cmp.released.any (fun e => e.1 = b))))

end Sys2Proof.Machine
end

