-- ==== Sys2Proof/Machine/Calib.lean ====
section
/-! DEFINITION. Calibration and the flux loop: interpolation over temperature, the correction of a pixel, the flux step, trims
(10_uniformity_and_flux). -/

namespace Sys2Proof.Machine

/-- Calibration record of a tile. -/
def State.calTile (s : State) (t : Nat) : CalTile := s.cal.tiles.getD t CalTile.init

/-- Change the calibration record of a tile. -/
def State.modCal (s : State) (t : Nat) (f : CalTile → CalTile) : State := s.withCal { s.cal with tiles := s.cal.tiles.set t (f (s.calTile t)) }

/-- Flux record of a tile. -/
def State.flxTile (s : State) (t : Nat) : FlxTile := s.flx.tiles.getD t FlxTile.init

/-- Change the flux record of a tile. -/
def State.modFlx (s : State) (t : Nat) (f : FlxTile → FlxTile) : State := s.withFlx { s.flx with tiles := s.flx.tiles.set t (f (s.flxTile t)) }

/-! ### The calibration store (R336, R339) -/

/-- Address of the gain byte of pixel (x, y) of a tile. -/
def gainAddr (t x y : Nat) : Nat := 0x28000000 + 0x40000 * t + 512 * y + x

/-- Address of block gain i of a tile's applied bank. -/
def bankAddr (t bank i : Nat) : Nat := 0x28240000 + 0x10000 * bank + 0x2000 * t + 2 * i

/-- Calibration temperature k of a tile, S11.4. -/
def State.calT (s : State) (t k : Nat) : Int := signed 16 (s.le (0x28260100 + 0x40 * t + 8 + 2 * k) 2)

/-- Block gain K_k of block i of a tile. -/
def State.blockK (s : State) (t i k : Nat) : Nat := s.le (0x28200000 + 0x8000 * t + 8 * i + 2 * k) 2

/-- One span of the piecewise rule (R343). -/
def lerp (ka kb ta tb t : Int) : Int := ka + ((kb - ka) * (t - ta) * 2 + (tb - ta)) / (2 * (tb - ta))

/-- Applied block gain of block i of a tile at a temperature (R343). -/
def State.gainAt (s : State) (t i : Nat) (temp : Int) : Nat :=
  let k := fun j => ((s.blockK t i j : Nat) : Int)
  (if temp ≤ s.calT t 0 then k 0
   else if temp ≤ s.calT t 1 then lerp (k 0) (k 1) (s.calT t 0) (s.calT t 1) temp
   else if temp < s.calT t 2 then lerp (k 1) (k 2) (s.calT t 1) (s.calT t 2) temp
   else k 2).toNat

/-! ### Interpolations (R337, R344 to R346) -/

/-- A tile's temperature is valid (R376). -/
def State.tempValid (s : State) (t : Nat) : Bool :=
  match (s.lane t).statusAt with
  | some a => decide (s.now - a < ms 2)
  | none => false

/-- The tile's latest valid temperature. -/
def State.tileTemp (s : State) (t : Nat) : Int := signed 16 (s.g (F.TL_TEMP_TEMP t))

/-- An interpolation of a tile starts, or restarts from the new temperature; a waiting bank is discarded, and tiles follow one another in tile order (R345, R346). -/
def State.calStart (s : State) (t : Nat) (temp : Int) (own : Bool) : State :=
  let s := s.modCal t (fun c => { c with waiting := none })
  let jobs := s.cal.jobs
  let new := match jobs with
    | [] => [(t, temp, own)]
    | j :: rest =>
      if j.1 = t then (t, temp, own) :: rest
      else
        let r := rest.filter (fun e => e.1 ≠ t)
        j :: (r.filter (fun e => e.1 < t) ++ [(t, temp, own)] ++ r.filter (fun e => t < e.1))
  s.withCal { s.cal with jobs := new }

/-- At the tile's latest valid temperature, or at T1 when it has had none (R337, R344). -/
def State.calStartNow (s : State) (t : Nat) : State :=
  if (s.lane t).statusAt.isSome then s.calStart t (s.tileTemp t) true else s.calStart t (s.calT t 1) false

/-- Reference temperature of a tile (R344). -/
def State.calRef (s : State) (t : Nat) : Int :=
  match s.cal.jobs.find? (fun j => j.1 = t) with
  | some j => j.2.1
  | none => match (s.calTile t).waiting with
    | some w => w.1
    | none => signed 16 (s.g (F.CAL_TILE_T_SET t))

/-- The tile's bank, the completed one or the running interpolation has no temperature of the tile behind it (R344). -/
def State.calBlind (s : State) (t : Nat) : Bool :=
  match s.cal.jobs.find? (fun j => j.1 = t) with
  | some j => !j.2.2
  | none => match (s.calTile t).waiting with
    | some w => !w.2
    | none => (s.calTile t).blind

/-- A valid temperature of a tile has arrived: TEMP_TRIGGER (R344, R346). -/
def State.calTrigger (s : State) (t : Nat) : State :=
  let s := s.modCal t (fun c => { c with hadTemp := true })
  if s.on F.CAL_CTRL_AUTO && !(s.calTile t).load && !s.blockRunning 0x48 then
    if decide ((s.g F.CAL_CTRL_DT : Int) < (s.tileTemp t - s.calRef t).natAbs) || s.calBlind t then s.calStart t (s.tileTemp t) true else s
  else s

/-- A tile's temperature has become unavailable (R346, R376). -/
def State.tempLost (s : State) (t : Nat) : State :=
  if (s.calTile t).hadTemp && !s.tempValid t then
    let s := (s.modCal t (fun c => { c with hadTemp := false })).evt F.CAL_EVT_TEMP_LOST
    let s := (s.put (F.TL_STAT_T_VALID t) 0).evt (F.TL_EVT_TEMP_LOST t)
    if s.g (F.TL_STAT_STATE t) = 0 then s else s.detect [0x50, 0x51 + t] S.TL_TEMP_LOST t 0 false
  else s

/-- CAL fixes bank, LOAD state and F of every tile at a latch point (CAL_BANK_FIX: R331, R337, R345). -/
def State.calLatch (s : State) : State :=
  (List.range 8).foldl (fun s t =>
    let c := s.calTile t
    let want := tbit (s.g F.CAL_LOAD_LOAD) t
    let s := match c.waiting with
      | some (temp, own) =>
        let s := (s.put (F.CAL_TILE_T_SET t) (unsigned 16 temp)).put (F.CAL_TILE_BANK t) (1 - c.bank)
        let s := (s.evt F.CAL_EVT_SWITCH).incSat F.CAL_CNT_SWITCHES
        s.modCal t (fun c => { c with bank := 1 - c.bank, waiting := none, blind := !own, load := want })
      | none => s.modCal t (fun c => { c with load := want || c.load })
    s.modCal t (fun c => { c with gain := (s.g (F.FLX_GAIN_F23 t) + 128) / 256 })) s

/-- A commit of CAL_LOAD is in force: every tile in LOAD whose bit it cleared is interpolated (R337). -/
def State.calLoadCommit (s : State) (before : Nat) : State :=
  (List.range 8).foldl (fun s t =>
    if tbit before t && !tbit (s.g F.CAL_LOAD_LOAD) t then s.calStartNow t else s) s

/-- A write to CAL_CMD: INTERP for tiles out of LOAD, and TRIM (R344, R346, R356). -/
def State.calCmd (s : State) (v : Word) : State :=
  let s := (List.range 8).foldl (fun s t => if tbit v.toNat t && !(s.calTile t).load then s.calStartNow t else s) s
  if tbit v.toNat 8 then
    if s.on F.CAL_STAT_TRIM_BUSY then (s.withCal { s.cal with trimAgain := true }) else s.put F.CAL_STAT_TRIM_BUSY 1
  else s

/-- INTERP_DONE: the first interpolation completes and its bank waits for the next latch point (R343, R345). -/
def execInterpDone (tile : Nat) (s : State) : Host.Outcome State Fault Refusal :=
  let s := s.begin
  .next (match s.cal.jobs with
    | (t, temp, own) :: rest =>
      if t = tile then
        let k := (List.range 4096).map (fun i => s.gainAt t i temp)
        let s := s.setBytes (bankAddr t (1 - (s.calTile t).bank) 0) (k.flatMap (leBytes 2))
        (s.withCal { s.cal with jobs := rest }).modCal t (fun c => { c with waiting := some (temp, own) })
      else s
    | [] => s)

/-- Highest of the four die temperatures as THM reports it. -/
def State.dieMax (s : State) : Int := signed 16 (s.g F.THM_HOT_MAX)

/-- TRIM_DONE: a run completes; none stands for a trim that ended at the limit of its range and keeps its code (R356, R357). -/
def execTrimDone (codes : List (Option Nat)) (s : State) : Host.Outcome State Fault Refusal :=
  let s := s.begin
  .next (if s.on F.CAL_STAT_TRIM_BUSY then
    let old := s.cal.codes
    let new := (List.range (max codes.length old.length)).map (fun i => ((codes.getD i none)).getD (old.getD i 0))
    let again := s.cal.trimAgain
    let s := s.withCal { s.cal with codes := new, trimAgain := false }
    let s := if codes.any Option.isNone then (s.evt F.CAL_EVT_TRIM_FAIL).raise S.CAL_TRIM_FAIL 0 else s
    let s := ((s.evt F.CAL_EVT_TRIM_DONE).put F.CAL_TRIM_T_TRIM (unsigned 16 s.dieMax)).incSat F.CAL_TRIM_RUNS
    s.put F.CAL_STAT_TRIM_BUSY (bit again)
  else s)

/-! ### Correction (R330, R333) -/

/-- The corrected value of a pixel from its gains. -/
def correct (p b k f : Nat) : Nat := min 65535 ((p * b * k * f + 2 ^ 36) / 2 ^ 37)

/-- The correction of field pixel (x, y): bad lists the calibration words of 32 bits whose read fails (log 18) (R330, R331, R333, R337). -/
def State.corrected (s : State) (bad : List Nat) (x y p : Nat) : Nat :=
  let t := tileOf x y
  let c := s.calTile t
  if c.load then 0
  else
    let a := gainAddr t (x % 512) (y % 512)
    let i := (y % 512 / 8) * 64 + x % 512 / 8
    let ka := bankAddr t c.bank i
    let b := if bad.contains (a / 4) then 0 else (s.byte a).toNat
    let k := if bad.contains (ka / 4) then 0 else s.le ka 2
    correct p b k c.gain

/-! ### The flux loop (R347 to R353) -/

/-- The tile is in LOAD, shut down or on a disabled lane (R349, case 6). -/
def State.fluxOut (s : State) (t : Nat) : Bool := (s.calTile t).load || s.g (F.TL_STAT_STATE t) = 7 || !s.laneEnabled t

/-- Cases of R349 in order, but for case 2 and 4 where no frame was flipped; 0 is none (log 17). -/
def State.fluxWhy (s : State) (t e code pbar : Nat) : Nat :=
  let f := s.flxTile t
  if s.g (F.FLX_SENS_SENS t) = 0 then 1
  else if decide (0 < f.frames) && decide (e < s.g F.FLX_FRZ_MIN_CODE) then 2
  else if 4032 ≤ code then 3
  else if decide (0 < f.frames) && (match f.prev with
      | some q => decide (s.g F.FLX_FRZ_DMAX * max pbar q < 256 * (max pbar q - min pbar q))
      | none => false) then 4
  else if f.frames = 0 then 5
  else if f.away || s.fluxOut t then 6
  else if f.first then 7
  else 0

/-- STATE and F23 of a step that is not frozen (R348, R351): the new value and the state. -/
def State.fluxStep (s : State) (t r : Nat) : Nat × Nat :=
  let f := s.g (F.FLX_GAIN_F23 t)
  let st := f * s.g F.FLX_CTRL_SLEW * (1000 * s.g F.THM_CTRL_ROUND_MS) / 10 ^ 12
  let lo := 256 * s.g F.FLX_LIM_FMIN
  let hi := 256 * s.g F.FLX_LIM_FMAX
  if r + s.g F.FLX_CTRL_TOL < 32768 then (if hi ≤ f then (hi, 5) else (max lo (min hi (f + st)), 1))
  else if 32768 + s.g F.FLX_CTRL_TOL < r then (if f ≤ lo then (lo, 5) else (max lo (min hi (f - st)), 2))
  else (max lo (min hi f), 3)

/-- FLUX_SAMPLE: an LSNS sample of a tile. Where the spec states no P̄ or r (no frame, E = 0, beyond 16 bits) a free value stands in their registers (log 17). -/
def State.fluxSample (s : State) (t code : Nat) : State :=
  let f := s.flxTile t
  let gain := (s.calTile t).gain
  let pbar := f.sum / f.frames
  let e := pbar * s.g (F.FLX_SENS_SENS t) / 65536
  let (w, s) := s.free
  let r := if e = 0 then w / 65536 else code * gain / e
  let known := decide (0 < f.frames)
  let s := (s.put (F.FLX_MEAS_CODE t) code).put (F.FLX_MEAS_E t) (if known then min 4095 e else w)
  let s := s.put (F.FLX_STAT_R_Q t) (if known && decide (r < 65536) then r else w / 65536)
  let why := s.fluxWhy t e code pbar
  let s := if why = 3 then s.evt ⟨0x49, 0x4C, 8 + t, 8 + t⟩ else s
  let s := if tbit (s.g F.FLX_CTRL_EN) t then
      if why ≠ 0 then (s.put (F.FLX_STAT_STATE t) 4).put (F.FLX_STAT_WHY t) why
      else
        let was := s.g (F.FLX_STAT_STATE t)
        let (v, st) := s.fluxStep t r
        let s := ((s.put (F.FLX_GAIN_F23 t) v).put (F.FLX_STAT_STATE t) st).put (F.FLX_STAT_WHY t) 0
        if st = 5 then
          let s := s.evt ⟨0x49, 0x4C, t, t⟩
          if was = 5 then s else s.detect [0x49] S.FLX_RANGE t 0 false
        else s
    else (s.put (F.FLX_STAT_STATE t) 0).put (F.FLX_STAT_WHY t) 0
  s.modFlx t (fun g => { g with sum := 0, frames := 0, prev := if known then some pbar else g.prev, away := s.fluxOut t, first := false })

/-- The tile was out of the loop at some time since the last sample (R349, case 6). -/
def State.fluxAway (s : State) (t : Nat) : State := s.modFlx t (fun g => { g with away := true })

/-- The flux record of the present state (R353). -/
def State.fluxRecordNow (s : State) : FluxRec :=
  { setId := s.g F.CAL_SET_SET_ID
    tiles := (List.range 8).map (fun t => (s.g (F.TL_UID_LO_UID t) + 2 ^ 32 * s.g (F.TL_UID_HI_UID t), s.g (F.FLX_GAIN_F23 t))) }

/-- The flux record is written to flash, or waits for the window (R353, R499). -/
def State.writeFluxRecord (s : State) : State :=
  if s.on F.THM_STAT_FLASH_OK then (s.withFlx { s.flx with record := some s.fluxRecordNow, writtenAt := some s.now }) else s.defer .flux

/-- A tile's F has moved by more than 1 % since the record was written (R353). -/
def State.fluxMoved (s : State) : Bool :=
  match s.flx.record with
  | none => true
  | some r => (List.range 8).any (fun t =>
      let old := (r.tiles.getD t (0, 0)).2
      let f := s.g (F.FLX_GAIN_F23 t)
      decide (old < 100 * (max f old - min f old)))

/-- FLUX_RECORD_WRITE: at most once every 60 s (R353). -/
def execFluxRecordWrite (s : State) : Host.Outcome State Fault Refusal :=
  let s := s.begin
  .next (if s.fluxMoved && (match s.flx.writtenAt with | some t => decide (ms 60000 ≤ s.now - t) | none => true) then s.writeFluxRecord else s)

/-- The default calibration of a tile is in the store (R342). -/
def State.calDefault (s : State) (t : Nat) : State :=
  let s := s.setBytes (gainAddr t 0 0) (List.replicate 262144 128)
  let s := s.setBytes (0x28200000 + 0x8000 * t) ((List.replicate 4096 (leBytes 2 32768 ++ leBytes 2 32768 ++ leBytes 2 32768 ++ leBytes 2 0)).flatten)
  let s := s.setBytes (0x28260100 + 0x40 * t) (leBytes 8 0 ++ leBytes 2 400 ++ leBytes 2 1040 ++ leBytes 2 1680 ++ leBytes 2 0 ++ leBytes 4 0x800000 ++ List.replicate 44 0)
  (s.put (F.FLX_SENS_SENS t) 0).put (F.FLX_GAIN_F23 t) 0x800000

end Sys2Proof.Machine
end

