-- ==== Sys2Proof/Machine/Lanes.lean ====
section
/-! DEFINITION. Tile lanes: states, control packets, over-temperature, the tile status bus and its messages, region packets
(11_tile_lanes). -/

namespace Sys2Proof.Machine

/-- State of lane n (R388). -/
def State.tlst (s : State) (n : Nat) : Nat := s.g (F.TL_STAT_STATE n)

/-- Every cell of a tile is dirty (R367). -/
def State.dirtyAll (s : State) (n : Nat) : State := s.modLane n (fun l => { l with dirty := List.range 256 })

/-- Cells cell0 to cell0 + w − 1 of tile band b are dirty. -/
def Lane.dirtyCells (l : Lane) (b cell0 w : Nat) : Lane :=
  let c := (List.range w).map (fun i => 16 * b + cell0 + i)
  { l with dirty := l.dirty.filter (fun d => !c.contains d) ++ c }

/-! ### Packets (R361 to R364) -/

/-- A Zoruc packet from its header and payload: the CRC-32 follows (R361). -/
def zoruc (header payload : List Byte) : List Byte := header ++ payload ++ beBytes 4 (crc32 (header ++ payload))

/-- Code of a control packet. -/
def Ctl.op : Ctl → Nat
  | .assign => 1
  | .shutdown => 2
  | .resume => 3
  | .sleep => 4

/-- A control packet for tile n (R364). -/
def ctlPacket (n : Nat) (c : Ctl) : List Byte :=
  zoruc ([0x21, b8 n, 0, 0, b8 c.op, 0, 0, 0, if c = .assign then b8 n else 0] ++ List.replicate 7 0) []

/-- Lane n sends a control packet. -/
def State.sendCtl (s : State) (n : Nat) (c : Ctl) : State :=
  s.modLane n (fun l => { l with packet := ctlPacket n c })

/-- A SHUTDOWN or RESUME that STATUS must confirm is sent (R364). -/
def State.startCtl (s : State) (n : Nat) (c : Ctl) : State :=
  (s.sendCtl n c).modLane n (fun l => { l with ctl := some c, ctlSends := 1, ctlWait := 0 })

/-- Codes packed two to three bytes (R363). -/
def packCodes : List Nat → List Byte
  | c0 :: c1 :: t => b8 (c0 / 16) :: b8 (c0 % 16 * 16 + c1 / 256) :: b8 c1 :: packCodes t
  | [c0] => [b8 (c0 / 16), b8 (c0 % 16 * 16)]
  | [] => []

/-- Field band of tile band b of tile n (R277). -/
def fieldBand (n b : Nat) : Nat := b + 16 * (n / 4)

/-- Released values and codes of a field band, row by row; none before its release. -/
def State.releasedBand (s : State) (fb : Nat) : List (Nat × Nat) := ((s.cmp.released.find? (fun e => e.1 = fb)).map (fun e => e.2)).getD []

/-- Codes of cells cell0 to cell0 + w − 1 of tile band b of tile n, in payload order (R362). -/
def State.regionCodes (s : State) (n b cell0 w : Nat) : List Nat :=
  let v := s.releasedBand (fieldBand n b)
  (List.range 32).flatMap (fun r => (List.range (32 * w)).map (fun c => (v.getD (2048 * r + 512 * (n % 4) + 32 * cell0 + c) (0, 0)).2))

/-- Signature of a cell (R367). -/
def State.cellSig (s : State) (n b c : Nat) : Nat := crc32c (packCodes (s.regionCodes n b c 1))

/-- Region packet of lane n (R362). -/
def State.regionPacket (s : State) (n : Nat) (r : Rgn) : List Byte :=
  zoruc ([0x11, b8 n] ++ beBytes 2 r.frame ++ [b8 r.band, b8 (r.cell0 + 16 * (r.cells - 1)), b8 (bit r.repush + 2 * bit r.scrub), b8 (s.lane n).rseq] ++ List.replicate 8 0)
    (packCodes (s.regionCodes n r.band r.cell0 r.cells))

/-! ### Regions of a released band (R367 to R369) -/

/-- Changed cells of half h of tile band b. -/
def State.changedCells (s : State) (n b h : Nat) : List Nat :=
  let l := s.lane n
  ((List.range 8).map (fun i => 8 * h + i)).filter (fun c => l.dirty.contains (16 * b + c) || l.sigs[16 * b + c]? ≠ some (s.cellSig n b c))

/-- First cell and number of cells of the region of a half, if it has changed cells (R368). -/
def regionOfHalf (h : Nat) (cells : List Nat) : Option (Nat × Nat) :=
  match cells with
  | [] => none
  | first :: _ =>
    let last := cells.foldl max first
    if first = last then if last < 8 * h + 7 then some (first, 2) else some (first - 1, 2)
    else some (first, last + 1 - first)

/-- The regions of tile band b for the frame f, left half first; the scrub pushes one band whole (R368, R369). -/
def State.bandRegions (s : State) (n b f : Nat) : List Rgn :=
  (List.range 2).filterMap (fun h =>
    if s.on F.TLN_CTRL_SCRUB_EN && s.tlst n = 5 && f % 16 = b then some ⟨b, 8 * h, 8, f % 65536, false, true⟩
    else (regionOfHalf h (s.changedCells n b h)).map (fun p => ⟨b, p.1, p.2, f % 65536, false, false⟩))

/-- TLN forms the regions of a released band on lane n (R368, R370). -/
def State.queueBand (s : State) (n b : Nat) : State :=
  if s.inService n then s.modLane n (fun l => { l with queue := l.queue ++ s.bandRegions n b s.frameNo }) else s

/-- A recomputed region is pushed again ahead of every band push not yet started (R256, R370). -/
def State.queueRepush (s : State) (n b cell0 w : Nat) : State :=
  if s.inService n then
    let r : Rgn := ⟨b, cell0, w, s.frameNo % 65536, true, false⟩
    s.modLane n (fun l => { l with queue := l.queue.takeWhile Rgn.repush ++ [r] ++ l.queue.dropWhile Rgn.repush })
  else s

/-! ### Failed regions (R255, R367, R374, R378) -/

/-- Cells of a failed region are blanked by the tile at the flip (LATE_BLANK, R378). -/
def State.lateBlank (s : State) (n : Nat) : State :=
  let s := (s.evt (F.TL_EVT_LATE_BLANK n)).evt F.TLN_EVT_LATE_BLANK
  let s := if s.tln.lateCounted then s else s.incSat F.TLN_CNT_LATE_BLANK
  (s.withTln { s.tln with lateCounted := true }).raise S.TL_LATE_BLANK n

/-- A region of lane n counts as failed: dirty, then recomputed in time, or left to the tile. -/
def State.regionFailed (s : State) (n : Nat) (r : Rgn) : State :=
  let s := s.modLane n (fun l => l.dirtyCells r.band r.cell0 r.cells)
  if s.tln.latched && r.frame = s.frameNo % 65536 then
    if s.tln.closed then s.lateBlank n
    else s.requestRecomp ⟨fieldBand n r.band, n, r.cell0, r.cells, [], false⟩
  else s

/-- The packet in progress is aborted: its region counts as failed at once and expects no report (R388). -/
def State.abortPacket (s : State) (n : Nat) : State :=
  match (s.lane n).sending with
  | some r => (s.modLane n (fun l => { l with sending := none })).regionFailed n r
  | none => s

/-! ### Lane states (R388, R391) -/

/-- A source of a lane's tile raises a fault; a cut-off tile that has been ACTIVE raises its trigger with it (R395, R426). The windows of TLN and TLn mask it where masked is true. -/
def State.tileFault (s : State) (i n : Nat) (masked : Bool) : State :=
  if masked && (s.quiet 0x50 || s.quiet (0x51 + n)) then s.conseq i n 0
  else if s.cutoffTile n && (s.lane n).everActive then s.raiseTrig i n 11 n true
  else s.raise i n

/-- Work of a lane that leaves service for good is dropped. -/
def State.dropWork (s : State) (n : Nat) : State :=
  let s := s.modLane n (fun l => { l with queue := [], sending := none, due := [], ctl := none, viaService := false })
  s.withCmp { s.cmp with recomp := s.cmp.recomp.filter (fun r => r.tile ≠ n || !r.parity.isEmpty) }

/-- The lane enters 8 FAILED; a lost tile loses its assignment (R388, R622). -/
def State.laneFailed (s : State) (n : Nat) : State :=
  ((s.put (F.TL_STAT_STATE n) 8).dropWork n).modLane n (fun l => { l with assigned := false, noAlive := 0, missRun := 0 })

/-- The tile is lost (TILE_LOST). -/
def State.tileLost (s : State) (n : Nat) (masked : Bool) : State :=
  (((s.laneFailed n).evt (F.TL_EVT_TILE_LOST n)).evt F.TLN_EVT_TILE_LOST).tileFault S.TL_TILE_LOST n masked

/-- Discovery fails: TILE_LOST for a tile that has been ACTIVE, TRN_FAIL for any other (R388). -/
def State.discoveryFailed (s : State) (n : Nat) : State :=
  if (s.lane n).everActive then s.tileLost n false
  else ((s.laneFailed n).evt (F.TL_EVT_TRN_FAIL n)).raise S.TL_TRN_FAIL n

/-- The lane enters 5 ACTIVE from TRAIN or IDENT (R367, R388). -/
def State.laneActive (s : State) (n : Nat) : State :=
  (s.put (F.TL_STAT_STATE n) 5).modLane n (fun l => { l with everActive := true, viaService := false, rseq := 0, dirty := List.range 256, missRun := 0, noAlive := 0 })

/-- Retrain from ACTIVE, or the loss of the tile after TRIES of them (LANE_RETRAIN). -/
def State.retrain (s : State) (n : Nat) : State :=
  let s := s.abortPacket n
  if (s.lane n).retrains < s.g (F.TL_CTRL_TRIES n) then
    let s := (s.put (F.TL_STAT_STATE n) 1).modLane n (fun l => { l with retrains := l.retrains + 1, viaService := true, tries := 1, missRun := 0, due := [] })
    (s.evt (F.TL_EVT_RETRAIN n)).raise S.TL_RETRAIN n
  else s.tileLost n false

/-- OT_SHUTDOWN: pushes stop, every cell is dirty, SHUTDOWN is sent (R393). -/
def State.shutdown (s : State) (n : Nat) : State :=
  if s.tlst n = 5 || s.tlst n = 6 then
    let s := (((s.put (F.TL_STAT_STATE n) 7).put (F.TL_STAT_SHUT n) 1).dropWork n).dirtyAll n
    let s := (s.startCtl n .shutdown).modLane n (fun l => { l with coolSince := none, otRun := 0 })
    let s := ((s.evt (F.TL_EVT_OT_SHUT n)).evt F.TLN_EVT_OT_SHUT).fluxAway n
    s.tileFault S.TL_OT n false
  else s

/-- A new enable, or a write of 1 over a disabled lane: a lane in 0 OFF or 8 FAILED starts as after OFF (R388). -/
def State.laneEnable (s : State) (n : Nat) : State := if s.tlst n = 8 then (s.laneOff n).laneWake n else s.laneWake n

/-- ENABLE of a lane is cleared: electrical idle; a cut-off tile leaves service (R388, R391, R426). -/
def State.laneDisable (s : State) (n : Nat) : State :=
  let trig := s.inService n && s.cutoffTile n && (s.lane n).everActive
  let s := ((s.laneOff n).fluxAway n).condEnd S.TL_OT n
  if trig then s.flintTrigger 75 11 n else s

/-- LANE_SERIALISER_READY: TS is sent. -/
def execLaneSerialiserReady (n : Nat) (s : State) : Host.Outcome State Fault Refusal :=
  let s := s.begin
  .next (if decide (n < 8) && s.tlst n = 1 then s.put (F.TL_STAT_STATE n) 2 else s)

/-- LANE_TRAIN_DONE: TSD are sent; an assigned tile is ACTIVE, any other gets ASSIGN. -/
def execLaneTrainDone (n : Nat) (s : State) : Host.Outcome State Fault Refusal :=
  let s := s.begin
  .next (if decide (n < 8) && s.tlst n = 2 then
    if (s.lane n).assigned then s.laneActive n
    else (s.put (F.TL_STAT_STATE n) 3).sendCtl n .assign
  else s)

/-- ASSIGN_TIMEOUT: no ALIVE within 32 rounds. -/
def execAssignTimeout (n : Nat) (s : State) : Host.Outcome State Fault Refusal :=
  let s := s.begin
  .next (if decide (n < 8) && s.tlst n = 3 then
    if (s.lane n).tries < s.g (F.TL_CTRL_TRIES n) then (s.put (F.TL_STAT_STATE n) 1).modLane n (fun l => { l with tries := l.tries + 1 })
    else s.discoveryFailed n
  else s)

/-- IDENT_TIMEOUT: 4 ms without all three identity messages. -/
def execIdentTimeout (n : Nat) (s : State) : Host.Outcome State Fault Refusal :=
  let s := s.begin
  .next (if decide (n < 8) && s.tlst n = 4 then s.discoveryFailed n else s)

/-- LANE_SCHEDULED_WAKE: 40 µs before the latch point the sleeping lanes wake (R390). -/
def execLaneScheduledWake (s : State) : Host.Outcome State Fault Refusal :=
  let s := s.begin
  .next ((List.range 8).foldl (fun s n => if s.tlst n = 6 then
    (s.put (F.TL_STAT_STATE n) 1).modLane n (fun l => { l with viaService := true, tries := 1 }) else s) s)

/-- LANE_DEAD: no output swing for 32 code groups outside electrical idle. -/
def execLaneDead (n : Nat) (s : State) : Host.Outcome State Fault Refusal :=
  let s := s.begin
  .next (if decide (n < 8) && decide (5 ≤ s.tlst n) && decide (s.tlst n ≤ 7) then
    ((s.laneFailed n).evt (F.TL_EVT_LANE_DEAD n)).tileFault S.TL_LANE_DEAD n true
  else s)

/-- TEMP_INVALID_TIMEOUT: the temperature has been invalid for 1.0 s (R393). -/
def execTempInvalidTimeout (n : Nat) (s : State) : Host.Outcome State Fault Refusal :=
  let s := s.begin
  .next (if n < 8 then s.shutdown n else s)

/-- COOL_DOWN_COMPLETE: RESUME is sent and the tile is pushed in full (R394). -/
def execCoolDownComplete (n : Nat) (s : State) : Host.Outcome State Fault Refusal :=
  let s := s.begin
  .next (if decide (n < 8) && s.tlst n = 7 && (s.lane n).coolSince.isSome then
    let s := (((s.put (F.TL_STAT_STATE n) 5).put (F.TL_STAT_SHUT n) 0).dirtyAll n).startCtl n .resume
    ((s.evt (F.TL_EVT_OT_CLEAR n)).condEnd S.TL_OT n).modLane n (fun l => { l with coolSince := none, rseq := 0, missRun := 0 })
  else s)

/-! ### Pushes (R370) -/

/-- REGION_PUSH: lane n starts its next region; its previous packet has ended (R362, R367, R370). -/
def execRegionPush (n : Nat) (s : State) : Host.Outcome State Fault Refusal :=
  let s := s.begin
  .next (if decide (n < 8) && s.tlst n = 5 then
    match (s.lane n).queue with
    | [] => s
    | r :: rest =>
      let cells := (List.range r.cells).map (fun i => 16 * r.band + r.cell0 + i)
      let l := s.lane n
      let sigs := cells.foldl (fun g c => g.set c (s.cellSig n r.band (c % 16))) (if l.sigs.length = 256 then l.sigs else List.replicate 256 0)
      let p := s.regionPacket n r
      let s := s.modLane n (fun l => { l with
        queue := rest, sending := some r, due := l.due ++ l.sending.toList, packet := p, rseq := (l.rseq + 1) % 256, sigs := sigs
        dirty := l.dirty.filter (fun d => !cells.contains d) })
      let s := s.inc (F.TL_CNT_PUSH_REGIONS n)
      if r.repush then s.incSat (F.TL_CNT_PUSH_REPUSH n) else s
  else s)

/-- The region whose report comes next: pushed first and not yet reported (R374). -/
def State.nextReport (s : State) (n : Nat) : Option (Rgn × State) :=
  let l := s.lane n
  match l.due with
  | r :: rest => some (r, s.modLane n (fun l => { l with due := rest }))
  | [] => match l.sending with
    | some r => some (r, s.modLane n (fun l => { l with sending := none }))
    | none => none

/-- Pages whose windows mask a tile's CRC mismatches (R124). -/
def tlCrcPages (n : Nat) : List Nat := 0x50 :: (0x51 + n) :: cmpPages

/-- A CRC report of tile n arrives (R255, R374, R378). An injection makes the check fail (R467). -/
def State.report (s : State) (n : Nat) (fail : Bool) : State :=
  match s.nextReport n with
  | none => s
  | some (r, s) =>
    let inj := s.armed S.TL_CRC
    let s := (s.consumeInj S.TL_CRC).modLane n (fun l => { l with missRun := 0 })
    if fail || inj then
      let s := (s.evt (F.TL_EVT_CRC_FAIL n)).incSat (F.TL_CNT_ERR_CRC_FAIL n)
      let s := if s.tln.closed then s else s.detect (tlCrcPages n) S.TL_CRC n 0 inj
      s.regionFailed n r
    else s

/-- REPORT_TIMEOUT: a region's report has not arrived 6.48 µs after its EOF (R374). -/
def execReportTimeout (n : Nat) (s : State) : Host.Outcome State Fault Refusal :=
  let s := s.begin
  .next (if n < 8 then
    match s.nextReport n with
    | none => s
    | some (r, s) =>
      let s := ((s.evt (F.TL_EVT_REPORT_MISS n)).incSat (F.TL_CNT_ERR_CRC_FAIL n)).modLane n (fun l => { l with missRun := l.missRun + 1 })
      let s := (s.detect (tlCrcPages n) S.TL_REPORT_MISS n 0 false).regionFailed n r
      if decide (2 ≤ (s.lane n).missRun) && s.tlst n = 5 then s.retrain n else s
  else s)

/-! ### Tile status bus (R373 to R376) -/

/-- The tile status bus runs (R373). -/
def State.tsbRuns (s : State) : Bool := s.on (F.UNIT_CTRL_ENABLE 0x50) && s.on F.TLN_CTRL_TSB_EN && s.on F.CLK_STAT_ROOT_OK

/-- Slot n of a round: four bits as they read on the bus, where 0 asserts (R374). -/
def State.slot (s : State) (n v : Nat) : State :=
  let alive := !tbit v 0
  let st := s.tlst n
  if st = 0 || st = 8 then s
  else if st = 3 then
    let s := s.put (F.TL_STAT_ALIVE n) (bit alive)
    if alive then (s.put (F.TL_STAT_STATE n) 4).modLane n (fun l => { l with assigned := true, noAlive := 0, uidLo := none, uidHi := none, cap := none, msg := [] })
    else s
  else if (s.lane n).assigned then
    let s := s.put (F.TL_STAT_ALIVE n) (bit alive)
    if alive then
      let s := s.modLane n (fun l => { l with noAlive := 0, msg := (l.msg ++ [tbit v 3]).drop ((l.msg.length + 1) - 64) })
      if tbit v 1 then s else s.report n (!tbit v 2)
    else
      let s := s.modLane n (fun l => { l with noAlive := l.noAlive + 1 })
      if 8 ≤ (s.lane n).noAlive then s.tileLost n true else s
  else s

/-- TSB_ROUND: a round ends. readback says that the device's own bits read back as driven, start that the round carried MSG_START. -/
def execTsbRound (slots : List Nat) (readback start : Bool) (s : State) : Host.Outcome State Fault Refusal :=
  let s := s.begin
  .next (if s.tsbRuns then
    let s : State := if start then ((s.withTln { s.tln with msgFrame := some (s.g F.CMP_FRAME_FRAME_NO) }).withLanes (s.lanes.map (fun l => { l with msg := [] }))) else s
    let s : State :=
      if readback then (s.put F.TLN_STAT_TSB_OK 1).withTln { s.tln with tsbMiss := 0 }
      else
        let s : State := s.withTln { s.tln with tsbMiss := s.tln.tsbMiss + 1 }
        if s.tln.tsbMiss = 4 then ((s.put F.TLN_STAT_TSB_OK 0).evt F.TLN_EVT_TSB_ERR).raise S.TSB_ERR 0 else s
    (List.range 8).foldl (fun s n => (s.slot n (slots.getD n 15)).tempLost n) s
  else s)

/-- CRC-8 of the 56 message bits above the CRC (R375). -/
def crc8 (w : BitVec 64) : Nat :=
  ((List.range 56).map (fun i => w.getLsbD (63 - i))).foldl (crcBit 8 0x07) 0

/-- A message of tile n arrives: the Bool says that its CRC-8 holds; a bad one is discarded and counted (R375). -/
def State.message (s : State) (n : Nat) (w : BitVec 64) : Bool × State :=
  let inj := s.armed S.TL_MSG_CRC
  let s := s.consumeInj S.TL_MSG_CRC
  if crc8 w = w.toNat % 256 && !inj then (true, s)
  else
    let s := (s.evt (F.TL_EVT_MSG_CRC n)).incSat (F.TL_CNT_ERR_MSG_CRC n)
    (false, s.raiseWith S.TL_MSG_CRC n 0 inj false)

/-- A message is taken while the tile holds its slot. -/
def State.hears (s : State) (n : Nat) : Bool := decide (n < 8) && s.tsbRuns && (s.lane n).assigned && s.tlst n ≠ 0 && s.tlst n ≠ 8

/-- Bits of a message. -/
def mfield (w : BitVec 64) (hi lo : Nat) : Nat := w.toNat / 2 ^ lo % 2 ^ (hi + 1 - lo)

/-- STATUS confirms or does not confirm a SHUTDOWN or RESUME (R364). -/
def State.ctlStatus (s : State) (n : Nat) (shut : Bool) : State :=
  match (s.lane n).ctl with
  | some c =>
    if shut = decide (c = .shutdown) then s.modLane n (fun l => { l with ctl := none })
    else if (s.lane n).ctlWait + 1 < 2 then s.modLane n (fun l => { l with ctlWait := l.ctlWait + 1 })
    else if (s.lane n).ctlSends < 3 then (s.sendCtl n c).modLane n (fun l => { l with ctlSends := l.ctlSends + 1, ctlWait := 0 })
    else (s.evt (F.TL_EVT_CTRL_FAIL n)).tileLost n false
  | none => s

/-- FRAME_LO against the frame number at the message's first round, and the one before it (R379). -/
def State.flipCheck (s : State) (n lo : Nat) : State :=
  if s.tlst n = 5 || s.tlst n = 6 then
    let f := s.tln.msgFrame.getD (s.g F.CMP_FRAME_FRAME_NO)
    if lo = f % 65536 || lo = (f + 65535) % 65536 then s.modLane n (fun l => { l with flipRun := 0 })
    else
      let s := s.modLane n (fun l => { l with flipRun := l.flipRun + 1 })
      if 2 ≤ (s.lane n).flipRun then ((s.evt (F.TL_EVT_FLIP_MISS n)).evt F.TLN_EVT_FLIP_MISS).raise S.TL_FLIP_MISS n else s
  else s.modLane n (fun l => { l with flipRun := 0 })

/-- Temperature limits on a STATUS (R393, R394). -/
def State.otCheck (s : State) (n : Nat) (temp : Int) (self : Bool) : State :=
  let ot := signed 16 (s.g F.TLN_OT_OT_C)
  let s := s.modLane n (fun l => { l with otRun := if ot ≤ temp then l.otRun + 1 else 0 })
  let cool := decide (temp ≤ ot - 16 * (s.g F.TLN_OT_HYST : Nat)) && !self
  let s := s.modLane n (fun l => { l with coolSince := if cool then some (l.coolSince.getD s.now) else none })
  if self || decide (2 ≤ (s.lane n).otRun) then s.shutdown n else s

/-- TSB_STATUS: temperature, flags and FRAME_LO (R344, R375, R376, R379, R388, R393). -/
def execTsbStatus (n : Nat) (w : BitVec 64) (s : State) : Host.Outcome State Fault Refusal :=
  let s := s.begin
  .next (if s.hears n then
    let (ok, s) := s.message n w
    if ok && mfield w 63 60 = 1 then
      let flags := mfield w 39 24
      let s := ((s.put (F.TL_TEMP_TEMP n) (mfield w 55 40)).put (F.TL_TEMP_FLAGS n) flags).put (F.TL_FRONT_FRAME_LO n) (mfield w 23 8)
      let s := ((s.put (F.TL_STAT_T_VALID n) 1).put (F.TL_STAT_LANE_LOCK n) (bit (tbit flags 3))).condEnd S.TL_TEMP_LOST n
      let s := (s.modLane n (fun l => { l with statusAt := some s.now })).calTrigger n
      let s := if tbit flags 5 then s.dirtyAll n else s
      let s := (s.ctlStatus n (tbit flags 0)).flipCheck n (mfield w 23 8)
      let s := s.otCheck n (signed 16 (mfield w 55 40)) (tbit flags 1)
      if s.tlst n = 5 && !tbit flags 3 then s.retrain n else s
    else s
  else s)

/-- IDENT ends when all three messages are in: a CAP as R375 asks makes the lane ACTIVE (R388). -/
def State.identDone (s : State) (n : Nat) : State :=
  let l := s.lane n
  match l.uidLo, l.uidHi, l.cap with
  | some lo, some hi, some cap =>
    if s.tlst n ≠ 4 then s
    else if cap = 512 * 2 ^ 32 + 512 * 2 ^ 16 + 256 then
      let s := (s.put (F.TL_UID_LO_UID n) lo.1).put (F.TL_UID_HI_UID n) hi.1
      ((s.put (F.TL_INFO_TYPE n) lo.2).put (F.TL_INFO_VERSION n) hi.2).laneActive n
    else
      let s := s.evt (F.TL_EVT_CAP_REJ n)
      if l.everActive then s.tileLost n false else (s.laneFailed n).raise S.TL_TRN_FAIL n
  | _, _, _ => s

/-- TSB_UID_LO: the low half of TILE_UID and the tile type. -/
def execTsbUidLo (n : Nat) (w : BitVec 64) (s : State) : Host.Outcome State Fault Refusal :=
  let s := s.begin
  .next (if s.hears n then
    let (ok, s) := s.message n w
    if ok && mfield w 63 60 = 2 then (s.modLane n (fun l => { l with uidLo := some (mfield w 55 24, mfield w 23 8) })).identDone n else s
  else s)

/-- TSB_UID_HI: the high half of TILE_UID and the tile version. -/
def execTsbUidHi (n : Nat) (w : BitVec 64) (s : State) : Host.Outcome State Fault Refusal :=
  let s := s.begin
  .next (if s.hears n then
    let (ok, s) := s.message n w
    if ok && mfield w 63 60 = 3 then (s.modLane n (fun l => { l with uidHi := some (mfield w 55 24, mfield w 23 8) })).identDone n else s
  else s)

/-- TSB_CAP: the tile's capabilities. -/
def execTsbCap (n : Nat) (w : BitVec 64) (s : State) : Host.Outcome State Fault Refusal :=
  let s := s.begin
  .next (if s.hears n then
    let (ok, s) := s.message n w
    if ok && mfield w 63 60 = 4 then (s.modLane n (fun l => { l with cap := some (mfield w 55 8) })).identDone n else s
  else s)

/-! ### FSYNC_IN (R384) -/

/-- FSYNC_IN is out of range with the period now in force (R384). -/
def State.fsOutOfRange (s : State) (t : Nat) : Bool :=
  let per := s.cmp.period
  let d := s.g F.TLN_SYNC_DIV
  decide (t < d * (per - per / 1024)) || decide (d * (per + per / 16) < t)

/-- FSYNC_EDGE: an edge of the chosen sense arrives (R384). -/
def execFsyncEdge (s : State) : Host.Outcome State Fault Refusal :=
  let s := s.begin
  .next (if s.on (F.UNIT_CTRL_ENABLE 0x50) && s.on F.CLK_STAT_ROOT_OK then
    let t := s.ns
    let s := match s.tln.fsEdge with
      | some e =>
        let s := s.put F.TLN_FS_PER_T_FS (min (t - e) (2 ^ 32 - 1))
        if s.fsOutOfRange (t - e) then (s.put F.TLN_STAT_FS_RANGE 1).evt F.TLN_EVT_FS_RANGE else s.put F.TLN_STAT_FS_RANGE 0
      | none => s
    (s.put F.TLN_STAT_FS_SEEN 1).withTln { s.tln with fsEdge := some t, fsSeen := s.tln.fsSeen + 1, fsLost := false }
  else s)

/-- FSYNC_LOST: no edge for 2 × DIV × PER (R384). -/
def execFsyncLost (s : State) : Host.Outcome State Fault Refusal :=
  let s := s.begin
  .next (if s.on (F.UNIT_CTRL_ENABLE 0x50) && s.on F.CLK_STAT_ROOT_OK then
    ((s.put F.TLN_STAT_FS_SEEN 0).evt F.TLN_EVT_FS_LOST).withTln { s.tln with fsLost := true, fsEdge := none, fsSeen := 0 }
  else s)

end Sys2Proof.Machine
end

