-- ==== Sys2Proof/Machine/Governor.lean ====
section
/-! DEFINITION. Granite's Governor: beam modes, limits and gains, integration and the clamp of a band, release, recomputation
(09_granite_governor). -/

namespace Sys2Proof.Machine

/-! ### The sealed tables (R301 to R307) -/

/-- Entry of the zone map for field pixel (x, y) (R303). -/
def State.zoneEntry (s : State) (x y : Nat) : Nat := s.le (0x30020000 + (y / 4 * 512 + x / 4) * 2) 2

/-- Zone and optics factor of field pixel (x, y); none where the block is not zoned (R303, R305). -/
def State.zoneOf (s : State) (x y : Nat) : Option (Nat × Nat) :=
  let e := s.zoneEntry x y
  if 32768 ≤ e then some (e % 256, s.le (0x30060000 + (e % 256 * 128 + e / 256 % 128) * 2) 2) else none

/-- Calibration C_t of a tile (R306). -/
def State.tileC (s : State) (t : Nat) : Nat := s.le (0x3007A008 + 2 * t) 2

/-- GUARD (R306). -/
def State.guardOf (s : State) : Nat := s.le 0x3007A001 1

/-- Field k of zone z's entry: 0 LIM_A, 1 LIM_B, 2 LIM_MIN (R304). -/
def State.zoneLim (s : State) (z k : Nat) : Nat := s.le (0x30079000 + 16 * z + 4 * k) 4

/-- Static value of field pixel (x, y) (R307). -/
def State.staticAt (s : State) (x y : Nat) : Nat :=
  if y < s.le (0x30078000 + 2 * x) 2 then 0 else s.le (0x3007A040 + 2 * (s.byte (0x30070000 + y / 8 * 256 + x / 8)).toNat) 2

/-- A pixel's contribution to its zone (R313). -/
def contribution (p c o : Nat) : Nat := (p * c * o + 16383) / 16384

/-! ### Modes, limits and gains (R309, R310, R314) -/

/-- An enabled layer of the frame is the glare MASK layer with an area (R309). -/
def State.hasGlare (s : State) : Bool := s.cmp.active.any (fun n => s.isGlare n && !s.layZero n)

/-- REASON of the mode: the first condition of R309 that holds. -/
def State.modeReason (s : State) : Nat :=
  if !s.on F.GOV_MODE_RELEASE then 1
  else if s.g F.GOV_CTRL_FORCE = 2 then 2
  else if !s.on F.GOV_STAT_TABLES_OK then 3
  else if s.csf.beamReq = some 0 then 4
  else if s.g F.GOV_CTRL_FORCE = 1 then 5
  else if s.csf.beamReq = some 1 then 6
  else if s.glare.stale then 7
  else if s.on F.GOV_STAT_OWN_STALE then 8
  else if !s.hasGlare then 9
  else 0

/-- Mode that a REASON stands for: 0 BLANK, 1 STATIC, 2 ADAPTIVE. -/
def modeOf (reason : Nat) : Nat := if reason = 0 then 2 else if reason ≤ 4 then 0 else 1

/-- Gain of a zone (R314). -/
def zoneGain (lim guard prev : Nat) : Nat :=
  if lim * (256 - guard) < 256 * prev then lim * (256 - guard) * 65536 / (256 * prev) else 65536

/-- MODE_FIX and ZONE_GAIN at a latch point (R309, R314, R328). -/
def State.govLatch (s : State) : State :=
  let reason := s.modeReason
  let mode := modeOf reason
  let old := s.g F.GOV_MODE_CUR
  let s := (s.put F.GOV_MODE_CUR mode).put F.GOV_MODE_REASON reason
  let s := if mode ≠ old then s.event 0x4082 [0, b8 mode, b8 reason] else s
  let s := if mode = 1 then s.incSat F.GOV_CNT_STATIC_FRAMES else s
  let thr := s.g F.GOV_SPEED_SPEED_THR
  let setB := thr ≠ 65535 && decide (thr ≤ s.csf.speed)
  let s := s.put F.GOV_SPEED_LIMSET (bit setB)
  let limits := (List.range 256).map (fun z => s.zoneLim z (bit setB) * 2 ^ 24)
  let both := mode = 2 && s.gov.wasAdaptive
  let gains := (List.range 256).map (fun z =>
    if both && decide (z < s.g F.GOV_PROF_ZONES) then zoneGain (limits.getD z 0) s.guardOf (s.gov.uPrev.getD z 0) else 65536)
  let was := s.gov.gains
  let s := s.withGov { s.gov with
    limits := limits, gains := gains, u := List.replicate 256 0, sums := List.replicate 256 0, factors := [] }
  (List.range 256).foldl (fun s z =>
    let a := decide (was.getD z 65536 < 65536)
    let b := decide (gains.getD z 65536 < 65536)
    if a = b then s else s.event 0x4081 [0, b8 z, b8 (bit b)]) s

/-- A composition after deferral starts with U and S at 0 and keeps modes, limits and gains (R317). -/
def State.govRepeat (s : State) : State :=
  s.withGov { s.gov with u := List.replicate 256 0, sums := List.replicate 256 0, factors := [] }

/-! ### Integration and clamp (R313, R315) -/

/-- Add v at index z. -/
def addAt (l : List Nat) (z v : Nat) : List Nat := l.set z (l.getD z 0 + v)

/-- Bands pass as zeros: mode BLANK, or the release withdrawn since (R309, R310). -/
def State.dark (s : State) : Bool := s.g F.GOV_MODE_CUR = 0 || !s.on F.GOV_MODE_RELEASE

/-- Value of field pixel (x, y) that enters the Governor's arithmetic in the frame's mode (R309). -/
def State.govIn (s : State) (x y p : Nat) : Nat :=
  if s.dark then 0 else if s.g F.GOV_MODE_CUR = 1 then s.staticAt x y else p

/-- The value after the zone's gain (R314). -/
def State.gained (s : State) (z p : Nat) : Nat := if s.g F.GOV_MODE_CUR = 2 then p * s.gov.gains.getD z 65536 / 65536 else p

/-- Field pixel i of band b, row by row. -/
def bandX (i : Nat) : Nat := i % 2048
def bandY (b i : Nat) : Nat := 32 * b + i / 2048

/-- Sums over a band's pixels, from their corrected values: U, and c_b after the gain (R313, R315). -/
def State.integrate (s : State) (b : Nat) (vals : List Nat) : List Nat × List Nat :=
  (List.range 65536).foldl (fun acc i =>
    let x := bandX i
    let y := bandY b i
    match s.zoneOf x y with
    | some (z, o) =>
      let p := s.govIn x y (vals.getD i 0)
      let c := s.tileC (tileOf x y)
      (addAt acc.1 z (contribution p c o), addAt acc.2 z (contribution (s.gained z p) c o))
    | none => acc) (s.gov.u, List.replicate 256 0)

/-- Band factor of a zone (R315). -/
def bandFactor (lim sum cb : Nat) : Nat := if cb = 0 then 65536 else if sum + cb ≤ lim then 65536 else (lim - sum) * 65536 / cb

/-- What leaves the Governor at field pixel (x, y) with the factors of its band (R315, R317). -/
def State.govOut (s : State) (f : List Nat) (x y p : Nat) : Nat :=
  let q := s.govIn x y p
  match s.zoneOf x y with
  | some (z, _) => s.gained z q * f.getD z 65536 / 65536
  | none => q

/-- A value leaving the Governor with the code that the output stage makes of it (R240). -/
def State.coded (s : State) (x y p : Nat) : Nat × Nat := (p, quantise (s.on F.CMP_CTRL_DITHER_EN) p x y s.frameNo)

/-- A released band replaces one released before. -/
def State.setReleased (s : State) (b : Nat) (v : List (Nat × Nat)) : State :=
  s.withCmp { s.cmp with released := (b, v) :: s.cmp.released.filter (fun e => e.1 ≠ b) }

/-- The Governor takes a corrected band, releases it, and TLN forms its regions; zero says that the duplicated lanes disagreed (R315, R318, R368). -/
def State.releaseBand (s : State) (b : Nat) (vals : List Nat) (zero : Bool) : State :=
  let (u, cb) := s.integrate b vals
  let f := (List.range 256).map (fun z => bandFactor (s.gov.limits.getD z 0) (s.gov.sums.getD z 0) (cb.getD z 0))
  let sums := (List.range 256).map (fun z => s.gov.sums.getD z 0 + (cb.getD z 0 * f.getD z 65536 + 65535) / 65536)
  let clamp := f.any (fun v => v < 65536)
  let out := (List.range 65536).map (fun i =>
    let x := bandX i
    let y := bandY b i
    s.coded x y (if zero then 0 else s.govOut f x y (vals.getD i 0)))
  let s := s.withGov { s.gov with u := u, sums := sums, factors := s.gov.factors ++ [(b, f)] }
  let s := if clamp then s.evt F.GOV_EVT_CLAMP else s
  let s := s.setReleased b out
  (List.range 8).foldl (fun s n => if n / 4 = b / 16 then s.queueBand n (b % 16) else s) s

/-! ### Granite faults (R302, R308, R318, R328, R426) -/

/-- A FATAL Granite fault raises trigger 10; an injected one does not, and sets no condition (R422, R426, R468). -/
def State.graniteFault (s : State) (i detail addr : Nat) (inj : Bool) : State :=
  let s : State := if inj then s else s.withSaf { s.saf with granFault := true }
  let s := s.raiseWith i 0 addr inj true
  if inj then s else s.flintTrigger i 10 detail

/-- A corrected word of Granite RAM (R302). -/
def State.gramCor (s : State) (addr : Nat) (inj : Bool) : State := (s.incSat F.GOV_ECC_COR).raiseWith S.GRAM_COR 0 addr inj false

/-- An uncorrectable word of Granite RAM (R302). -/
def State.gramUnc (s : State) (addr : Nat) (inj : Bool) : State := (s.evt F.GOV_EVT_ECC_UNC).graniteFault S.GRAM_UNC 2 addr inj

/-- An address of Granite RAM that a checker read: a free value of the region (log 7). -/
def State.freeAddr (s : State) (base size : Nat) : Nat × State :=
  let (w, s) := s.free
  (base + 4 * (w % (size / 4)), s)

/-- An injection into Granite RAM's checkers fails their next check (R467). -/
def State.gramInject (s : State) : State :=
  if s.armed S.GRAM_COR then
    let (a, s) := (s.consumeInj S.GRAM_COR).freeAddr 0x30000000 0x80000
    s.gramCor a true
  else if s.armed S.GRAM_UNC then
    let (a, s) := (s.consumeInj S.GRAM_UNC).freeAddr 0x30000000 0x80000
    s.gramUnc a true
  else s

/-! ### Calibration store and pipeline checks (R333, R334) -/

/-- A corrected word of the calibration store. -/
def State.calCor (s : State) (t addr : Nat) (inj : Bool) : State :=
  ((s.incSat F.CAL_CNT_ECC_COR).evt F.CAL_EVT_ECC_COR).raiseWith S.CAL_ECC_COR t addr inj false

/-- An uncorrectable word of the calibration store. -/
def State.calUnc (s : State) (t addr : Nat) (inj : Bool) : State := (s.evt F.CAL_EVT_ECC_UNC).raiseWith S.CAL_ECC_UNC t addr inj false

/-- Parity in the correction pipeline of a tile's band: the two halves are recomputed (R334). -/
def State.pipePar (s : State) (t b : Nat) (inj : Bool) : State :=
  let s := (s.evt F.CAL_EVT_PIPE_PAR).detect [0x48] S.CAL_PIPE_PAR t 0 inj
  (s.requestRecomp ⟨b, t, 0, 8, [], inj⟩).requestRecomp ⟨b, t, 8, 8, [], inj⟩

/-- Tiles whose gain maps the correction of slot k reads: those of the rows in use that are not in LOAD. -/
def State.slotTiles (s : State) (k : Nat) : List Nat :=
  (List.range 8).filter (fun t => (s.slotBands k).any (fun b => b / 16 = t / 4) && s.laneEnabled t && !(s.calTile t).load)

/-- A gain-map word of slot k that an armed injection hits: tile and address, a free choice among those read (R333, log 7). -/
def State.freeGainWord (s : State) (k : Nat) : (Nat × Nat) × State :=
  let (w, s) := s.free
  let tiles := s.slotTiles k
  let t := tiles.getD (w % tiles.length) 0
  ((t, gainAddr t 0 (32 * k) + 4 * (w / 8 % 4096)), s)

/-- Memory checks of slot k's release, with those that injection fails: the words that read as failed (R302, R333, R467). -/
def State.releaseChecks (s : State) (k : Nat) (hit : Hit) : List Nat × State :=
  let s := s.gramInject
  let (bad, s) := match hit with
    | .calCor t a => ([], s.calCor t a false)
    | .calUnc t a => ([a / 4], s.calUnc t a false)
    | .gramCor a => ([], s.gramCor a false)
    | .gramUnc a => ([], s.gramUnc a false)
    | _ => ([], s)
  if (s.slotTiles k).isEmpty then (bad, s)
  else if s.armed S.CAL_ECC_COR then
    let ((t, a), s) := (s.consumeInj S.CAL_ECC_COR).freeGainWord k
    (bad, s.calCor t a true)
  else if s.armed S.CAL_ECC_UNC then
    let ((t, a), s) := (s.consumeInj S.CAL_ECC_UNC).freeGainWord k
    ((a / 4) :: bad, s.calUnc t a true)
  else (bad, s)

/-- Composed values of a band. -/
def State.composedBand (s : State) (b : Nat) : Option (List Nat) := (s.cmp.bands.find? (fun e => e.1 = b)).map (fun e => e.2)

/-- Injected parity in the correction pipeline of one tile of a band; which tile's check comes next is a free value (R467, log 7). -/
def State.pipeInject (s : State) (b : Nat) : State :=
  if s.armed S.CAL_PIPE_PAR then
    let (w, s) := (s.consumeInj S.CAL_PIPE_PAR).free
    s.pipePar (b / 16 * 4 + w % 4) b true
  else s

/-- One band of slot k leaves the correction and the Governor. -/
def State.releaseOne (s : State) (bad : List Nat) (hit : Hit) (b : Nat) : State :=
  match s.composedBand b with
  | none => s
  | some v =>
    if s.cmp.released.any (fun e => e.1 = b) then s
    else
      let vals := (List.range 65536).map (fun i => s.corrected bad (bandX i) (bandY b i) (v.getD i 0))
      let s := s.releaseBand b vals (hit = .govLanes b)
      let s := if hit = .govLanes b then (s.evt F.GOV_EVT_DP).graniteFault S.GOV_DP 1 0 false else s
      let s := match hit with
        | .calPipe t => if t / 4 = b / 16 then s.pipePar t b false else s
        | _ => s
      s.pipeInject b

/-- BAND_RELEASE: bands k and k + 16 in that order (R315). -/
def execBandRelease (k : Nat) (hit : Hit) (s : State) : Host.Outcome State Fault Refusal :=
  let s := s.begin
  .next (if s.tln.latched && (s.slotBands k).any (fun b => (s.composedBand b).isSome) then
    let (bad, s) := s.releaseChecks k hit
    (s.releaseOne bad hit k).releaseOne bad hit (k + 16)
  else s)

/-! ### Recomputation (R254 to R257, R317) -/

/-- A region's values are composed, corrected and clamped again with the g and f of its band (R256, R317). -/
def State.recomputeRegion (s : State) (r : Recomp) (bad : List Nat) : State :=
  let f := ((s.gov.factors.find? (fun e => e.1 = r.band)).map (fun e => e.2)).getD (List.replicate 256 65536)
  let old := s.releasedBand r.band
  let x0 := 512 * (r.tile % 4) + 32 * r.cell0
  s.setReleased r.band ((List.range 65536).map (fun i =>
    let x := bandX i
    let y := bandY r.band i
    if decide (x0 ≤ x) && decide (x < x0 + 32 * r.cells) then
      s.coded x y (s.govOut f x y (s.corrected [] x y (s.compose bad x y)))
    else old.getD i (0, 0)))

/-- REGION_RECOMPUTE: the region that waits first; bad lists the Slate words that fail again (R254, R256, R257). -/
def execRegionRecompute (bad : List Nat) (s : State) : Host.Outcome State Fault Refusal :=
  let s := s.begin
  .next (match s.cmp.recomp with
    | [] => s
    | r :: rest =>
      if s.tln.latched && !s.tln.closed && s.cmp.released.any (fun e => e.1 = r.band) then
        let k := (r.band, r.tile, r.cell0)
        let s := s.withCmp { s.cmp with recomp := rest, tries := (k, s.triesOf k + 1) :: s.cmp.tries.filter (fun e => e.1 ≠ k) }
        let s := (s.incSat F.CMP_CNT_RECOMP).evt F.CMP_EVT_RECOMP
        let inj := s.armed S.CMP_PARITY_UNC && !r.parity.isEmpty
        let s := if inj then s.consumeInj S.CMP_PARITY_UNC else s
        let again := if inj then r.parity.map (fun e => e.2) else bad
        let x0 := 512 * (r.tile % 4) + 32 * r.cell0
        let new := (s.parityIn bad r.band x0 (32 * r.cells)).filter (fun e => !r.parity.contains e)
        let s := s.recomputeRegion r (again ++ bad)
        let s := s.parityOutcome (r.parity.filter (fun e => again.contains e.2)) true (r.inj || inj)
        let s := s.parityOutcome (r.parity.filter (fun e => !again.contains e.2)) false r.inj
        let s := s.queueRepush r.tile (r.band % 16) r.cell0 r.cells
        if new.isEmpty then s else (s.noteParity new).requestRecomp { r with parity := new, inj := false }
      else s)

/-! ### Periodic digest check (R302, R308) -/

/-- DIGEST_CHECK: ok is the verdict over Granite RAM, ecc is 1 for a corrected and 2 for an uncorrectable word met while reading (R302, R308). -/
def execDigestCheck (ok : Bool) (ecc : Nat) (s : State) : Host.Outcome State Fault Refusal :=
  let s := s.begin
  .next (if s.on F.GOV_STAT_TABLES_OK && !s.saf.halted then
    let s := s.gramInject
    let s := if ecc = 1 then
        let (a, s) := s.freeAddr 0x30000000 0x80000
        s.gramCor a false
      else if ecc = 2 then
        let (a, s) := s.freeAddr 0x30000000 0x80000
        s.gramUnc a false
      else s
    if ok then s else (s.evt F.GOV_EVT_DIGEST).graniteFault S.GOV_DIGEST 3 0 false
  else s)

/-! ### Reports at a flip (R319, R328, R329) -/

/-- Word j of a 256-bit map of zones for which p holds. -/
def zoneMap (p : Nat → Bool) (j : Nat) : Nat := (List.range 32).foldl (fun v i => if p (32 * j + i) then v + 2 ^ i else v) 0

/-- The Governor's reports and U_prev at the flip of frame f. -/
def State.govFlip (s : State) (f : Nat) : State :=
  let adaptive := s.g F.GOV_MODE_CUR = 2
  let clamped := fun z => s.gov.factors.any (fun e => e.2.getD z 65536 < 65536)
  let gained := fun z => decide (s.gov.gains.getD z 65536 < 65536)
  let low := fun z => adaptive && decide (z < s.g F.GOV_PROF_ZONES) && decide (s.gov.u.getD z 0 < s.zoneLim z 2 * 2 ^ 24)
  let clamp := (List.range 256).any clamped
  let s := (List.range 8).foldl (fun s j =>
    ((s.put (F.GOV_CLAMP_MAP_ZONES j) (zoneMap clamped j)).put (F.GOV_GAIN_MAP_ZONES j) (zoneMap gained j)).put (F.GOV_LOW_MAP_ZONES j) (zoneMap low j)) s
  let s := ((s.put F.GOV_FRAME_FRAME f).put F.GOV_STAT_CLAMP_LAST (bit clamp)).put F.GOV_STAT_GAIN_LAST (bit ((List.range 256).any gained))
  let s := if clamp then (s.incSat F.GOV_CNT_CLAMP_FRAMES).event 0x4080 (0 :: leBytes 4 f) else s
  s.withGov { s.gov with uPrev := s.gov.u, gPrev := s.gov.gains, wasAdaptive := adaptive }

end Sys2Proof.Machine
end

