-- ==== Sys2Proof/Machine/Side.lean ====
section
/-! DEFINITION. Frames of the side link: phase, seam boxes and the peer's reception (05_gylys_link, R184 to R191; 08_shadow_rendering, R292, R293; 11_tile_lanes, R385). -/

namespace Sys2Proof.Machine

/-- The role this lamp plays: 0 leader, 1 follower. -/
def State.role (s : State) : Nat := s.g F.SIDE_CTRL_ROLE

/-- VER, FTYPE, LEN and NET of a side-link frame are as R148, R184 and R186 ask. -/
def sideForm (f : Wire) : Bool :=
  decide (8 ≤ f.bytes.length) && (f.bytes.getD 0 0).toNat % 16 = 1 && f.bytes.getD 1 0 = 0 && f.bytes.length = 8 + f.len
  && (match f.ftype with
      | 8 => f.len = 12
      | 9 => decide (f.len ≤ 16384)
      | 10 => f.len = 4
      | _ => false)

/-- A frame arrives on the side link: the Bool says that it passes R151. A discard restarts the count of PHASE frames (R190, log 11). -/
def State.checkSide (s : State) (f : Wire) : Bool × State :=
  if s.sst ≠ 5 || s.blockRunning 0x0A then (false, s)
  else if !f.abt && !f.codeErr && f.crcOk && sideForm f then
    (true, ((s.put F.SIDE_STAT_RX_OK 1).withSide { s.side with lastRx := some s.now }))
  else
    let s := s.withSide { s.side with phases := 0 }
    (false, if !f.abt && !f.codeErr && !f.crcOk then (s.evt F.SIDE_EVT_CRC_ERR).incSat F.SIDE_CNT_CRC else s)

/-- The peer's role, from a PHASE or SSTAT frame: the same role on both lamps is a conflict and splits (R188). -/
def State.peerRole (s : State) (r : Nat) : State :=
  let s := s.withSide { s.side with peerRole := some r }
  if r = s.role then
    let s := if s.on F.SIDE_STAT_ROLE_CONFLICT then s else s.raise S.SIDE_ROLE 0
    ((s.put F.SIDE_STAT_ROLE_CONFLICT 1).evt F.SIDE_EVT_ROLE_CONFLICT).enterSplit
  else (s.put F.SIDE_STAT_ROLE_CONFLICT 0).condEnd S.SIDE_ROLE 0

/-- The split state is left when its three conditions hold (R190). -/
def State.leaveSplit (s : State) : State :=
  if s.on F.SIDE_STAT_SPLIT && decide (16 ≤ s.side.phases) && s.on F.SIDE_STAT_PEER_RX_OK
      && (match s.side.peerRole with | some r => r ≠ s.role | none => false) then
    let s := (s.put F.SIDE_STAT_SPLIT 0).evt F.SIDE_EVT_RESTORED
    (s.event 0x0A80 []).condEnd S.SIDE_LOST 0
  else s

/-- A difference of flip times brought within half a period on either side; of the two halves the positive one stands (log 12). -/
def nearest (d : Int) (p : Nat) : Int :=
  if p = 0 then d
  else
    let m := d % (p : Int)
    if 2 * m ≤ (p : Int) then m else m - p

/-- Own flip minus the peer's, and the phase lock (R187, R385). Without a running frame timer there is no own flip. -/
def State.phaseError (s : State) (peer : Int) : State :=
  if s.tln.running then
    let e := nearest ((s.tln.nextFlip : Int) - peer) s.cmp.period
    let s := s.put F.SIDE_PHASE_ERR_NS (unsigned 32 e)
    let lock := s.g F.TLN_PULL_LOCK_NS
    let run := if e.natAbs ≤ lock then s.side.lockRun + 1 else 0
    let s := s.withSide { s.side with lockRun := run }
    if 2 * lock < e.natAbs then s.put F.SIDE_STAT_PHASE_LOCK 0
    else if decide (s.g F.TLN_PULL_LOCK_CNT ≤ run) && decide (1 ≤ run) then s.put F.SIDE_STAT_PHASE_LOCK 1
    else s
  else s

/-- SIDE_TRAINING_DONE: 8 TSD sent and received (R185); the states before TRAIN that the row does not name are passed (log 11). -/
def execSideTrainingDone (s : State) : Host.Outcome State Fault Refusal :=
  let s := s.begin
  .next (if s.rootServes then s.sideStep 1 4 5 else s)

/-- PHASE_FRAME: the peer's flip time, the phase error and the end of the split state (R187, R188, R190, R385). -/
def execPhaseFrame (f : Wire) (s : State) : Host.Outcome State Fault Refusal :=
  let (ok, s) := s.begin.checkSide f
  .next (if ok && f.ftype = 8 then
    let p := f.payload
    let flags := (p.getD 8 0).toNat
    let peer : Int := (s.ns : Int) - 2000 - s.g F.SIDE_CTRL_DLY_NS
    let s := s.withSide { s.side with
      phases := s.side.phases + 1, peerFlip := some peer.toNat, peerFrame := ofBe (slice p 0 4), peerPeriod := ofBe (slice p 4 4),
      peerLocked := tbit flags 1 }
    ((s.peerRole (flags % 2)).phaseError peer).leaveSplit
  else s)

/-- One entry of a SEAM frame (R292). -/
def seamEntry (b : List Byte) : Entry :=
  { id := ofBe (slice b 0 2), cls := ofBe (slice b 2 1), mclass := ofBe (slice b 3 1) % 4, seam := true, capped := false
    hLo := signed 16 (ofBe (slice b 4 2)), hHi := signed 16 (ofBe (slice b 6 2)), vLo := signed 16 (ofBe (slice b 8 2))
    vHi := signed 16 (ofBe (slice b 10 2)), margin := 0, ageMs := 0, vhPh := signed 16 (ofBe (slice b 12 2))
    vvPh := signed 16 (ofBe (slice b 14 2)) }

/-- The SEAM frame that a payload of R292 holds. -/
def seamFrame (p : List Byte) : SeamFrame :=
  { frame := ofBe (slice p 0 4), tPh := ofBe (slice p 4 8)
    entries := (List.range (ofBe (slice p 12 2))).map (fun i => seamEntry (slice p (16 + 16 * i) 16)) }

/-- Base of the beam-engine window (R286). -/
def State.beamWin (s : State) : Nat := 0x10000000 + 0x10000 * s.g F.GLR_WIN_BLOCK

/-- SEAM_FRAME: the newest SEAM frame is kept in the seam store (R286, R293). -/
def execSeamFrame (f : Wire) (s : State) : Host.Outcome State Fault Refusal :=
  let (ok, s) := s.begin.checkSide f
  .next (if ok && f.ftype = 9 && decide (16 ≤ f.len) && f.len = 16 + 16 * ofBe (slice f.payload 12 2) then
    (s.setBytes (s.beamWin + 0x48000) f.payload).withGlare { s.glare with store := some (seamFrame f.payload) }
  else s)

/-- SSTAT_FRAME: the peer's reception and role (R186, R188, R190). -/
def execSstatFrame (f : Wire) (s : State) : Host.Outcome State Fault Refusal :=
  let (ok, s) := s.begin.checkSide f
  .next (if ok && f.ftype = 10 then
    let flags := (f.payload.getD 0 0).toNat
    let s := s.put F.SIDE_STAT_PEER_RX_OK (flags % 2)
    let s := if flags % 2 = 0 then s.enterSplit else s
    (s.peerRole (flags / 8 % 2)).leaveSplit
  else s)

/-- SIDE_RX_TIMEOUT: no valid frame for TMO_MS (R188). -/
def execSideRxTimeout (s : State) : Host.Outcome State Fault Refusal :=
  let s := s.begin
  .next (if s.sst = 5 && s.on F.SIDE_STAT_RX_OK then s.loseRx else s)

/-- SSTAT_SEND: the 1 ms period of SSTAT ends (R186). -/
def execSstatSend (s : State) : Host.Outcome State Fault Refusal :=
  let s := s.begin
  .next (if s.sst = 5 then
    let flags := s.g F.SIDE_STAT_RX_OK + 2 * s.g F.SIDE_STAT_SPLIT + 4 * bit (s.g F.SAF_STAT_FSTATE = 3) + 8 * s.role
    s.withSide { s.side with tx := s.side.tx ++ [⟨10, [b8 flags, b8 (s.g F.PRF_STAT_IN_FORCE), 0, 0]⟩] }
  else s)

end Sys2Proof.Machine
end

