-- ==== Sys2Proof/Machine/Signature.lean ====
section
/-! DEFINITION. What the device checks of a signature block itself; the digest and the curve are the command's verdict (16_security_and_self_test, R522 to R524). -/

namespace Sys2Proof.Machine

/-- Bytes i to i + n - 1 are zero. -/
def allZero (l : List Byte) (i n : Nat) : Bool := (slice l i n).all (· = 0)

/-- Fuse row and revocation bit of a key: class 1 MAIN, 2 GRANITE, 3 DEBUG; none beyond the class's slots (R522, R542). -/
def keyRow (cls idx : Nat) : Option (Nat × Nat) :=
  match cls with
  | 1 => if idx < 4 then some (8 + idx, idx) else none
  | 2 => if idx < 4 then some (12 + idx, 4 + idx) else none
  | 3 => if idx < 2 then some (16 + idx, 8 + idx) else none
  | _ => none

/-- A key is usable: its row is programmed and valid, its revocation bit is not programmed (R522, R542). -/
def State.keyUsable (s : State) (cls idx : Nat) : Bool :=
  match keyRow cls idx with
  | some (row, rev) => s.fuse row ≠ 0 && !s.fus.parity.contains row && !(s.fuse 18).testBit rev
  | none => false

/-- The fields of a signature block over signed bytes of an object of a class (R523, R524). -/
def State.sigFields (s : State) (blk : List Byte) (signed cls : Nat) : Bool :=
  ofLe (slice blk 0 4) = 0x4C595331 && ofLe (slice blk 4 1) = cls && allZero blk 6 2 && ofLe (slice blk 8 4) = signed
  && allZero blk 12 4 && allZero blk 144 48 && s.keyUsable cls (ofLe (slice blk 5 1))

/-- A signature is checked: verdict is that of the key digest and of the curve. A failure sets SEC_EVT.SIG_FAIL (R524, log 6). -/
def State.sigCheck (s : State) (blk : List Byte) (signed cls : Nat) (verdict : Bool) : Bool × State :=
  if verdict && s.sigFields blk signed cls then (true, s) else (false, s.evt F.SEC_EVT_SIG_FAIL)

end Sys2Proof.Machine
end

