-- ==== Sys2Proof/Machine/Glare.lean ====
section
/-! DEFINITION. Glare rendering: the snapshot, prediction and margins, pixel boxes, bands, kernels (08_shadow_rendering); the frame
timer's adjustment at the cut-off (11_tile_lanes, R381 to R385). -/

namespace Sys2Proof.Machine

/-! ### Prediction (R269 to R274) -/

/-- Division that rounds toward +∞, for a positive divisor. -/
def ceilDiv (a b : Int) : Int := -((-a) / b)

/-- Saturated to 16 bits with sign. -/
def sat16 (i : Int) : Int := if i < -32768 then -32768 else if 32767 < i then 32767 else i

/-- Time from an observation in µs, limited to the extrapolation limit (R270). -/
def State.dt (s : State) (t tObs : Nat) : Int := min (s.g F.GLR_AGE_XMAX_MS * 1000 : Nat) (max 0 (((t : Int) - tObs) / 1000))

/-- Numerator of Δ over 2 × 10^12 (R270). -/
def motion (v a dt : Int) : Int := 2 * v * dt * 1000000 + a * dt * dt

/-- Lower edge at a time (R270). -/
def edgeLo (x v a dt : Int) : Int := x + motion v a dt / 2000000000000

/-- Upper edge at a time (R270). -/
def edgeHi (x v a dt : Int) : Int := x + ceilDiv (motion v a dt) 2000000000000

/-- An extrapolated box, grown by the margin of a class (none: no margin), as a prepared entry (R270 to R272, R287). -/
def State.prepare (s : State) (o : Obj) (cls : Option Nat) (tPh tEnd : Nat) : Entry :=
  let d0 := s.dt tPh o.tObs
  let d1 := s.dt tEnd o.tObs
  let cap : Int := (s.g F.GLR_AGE_XMAX_MS * 1000 : Nat)
  let age := (max 0 (((tEnd : Int) - o.tObs) / 1000)).toNat
  let m : Nat := match cls with
    | some c => min (s.g (F.GLR_MARGIN_MMAX c)) (s.g (F.GLR_MARGIN_M0 c) + (16 * s.g (F.GLR_MARGIN_G c) * age + 999999) / 1000000)
    | none => 0
  { id := o.id, cls := o.cls, mclass := cls.getD o.mclass, seam := cls.isNone, capped := d0 = cap || d1 = cap
    hLo := sat16 (min (edgeLo o.hMin o.vh o.ah d0) (edgeLo o.hMin o.vh o.ah d1) - m)
    hHi := sat16 (max (edgeHi o.hMax o.vh o.ah d0) (edgeHi o.hMax o.vh o.ah d1) + m)
    vLo := sat16 (min (edgeLo o.vMin o.vv o.av d0) (edgeLo o.vMin o.vv o.av d1) - m)
    vHi := sat16 (max (edgeHi o.vMax o.vv o.av d0) (edgeHi o.vMax o.vv o.av d1) + m)
    margin := m, ageMs := min 65535 (age / 1000)
    vhPh := sat16 ((o.vh * 1000000 + o.ah * d0).tdiv 1000000)
    vvPh := sat16 ((o.vv * 1000000 + o.av * d0).tdiv 1000000) }

/-- A seam entry as an object whose observation is the sender's T_PH (R293). -/
def Entry.asObj (e : Entry) (t : Nat) : Obj :=
  { id := e.id, cls := e.cls, mclass := e.mclass, hMin := e.hLo, hMax := e.hHi, vMin := e.vLo, vMax := e.vHi
    vh := e.vhPh, vv := e.vvPh, ah := 0, av := 0, tObs := t }

/-- Margin class 3 holds on every engine (R274). -/
def State.forceM3 (s : State) : Bool := s.glare.split || s.on F.GLR_KSEL_ROM

/-! ### Engines (R277 to R279, R281, R282, R288) -/

/-- Engine n's record. -/
def State.engine (s : State) (n : Nat) : Engine := s.glare.engines.getD n Engine.init

/-- Change engine n's record. -/
def State.modEngine (s : State) (n : Nat) (f : Engine → Engine) : State :=
  s.withGlare { s.glare with engines := s.glare.engines.set n (f (s.engine n)) }

/-- Engine n renders boxes alone: box-only mode, or disabled (R274, R281, R297). -/
def State.boxOnly (s : State) (n : Nat) : Bool := s.on (F.BE_STAT_BOX_ONLY n) || !s.on (F.UNIT_CTRL_ENABLE (0x31 + n))

/-- Pixel box of a grown box on tile n (R278). -/
def State.pixBox (s : State) (n : Nat) (e : Entry) : PixBox :=
  let h0 := signed 16 (s.g (F.BE_GEO0_H0 n))
  let v0 := signed 16 (s.g (F.BE_GEO0_V0 n))
  let ph : Int := (s.g (F.BE_GEO1_PH n) : Nat)
  let pv : Int := (s.g (F.BE_GEO1_PV n) : Nat)
  { xLo := sat16 ((e.hLo - h0) * 256 / ph), xHi := sat16 ((e.hHi - h0) * 256 / ph)
    yLo := sat16 ((v0 - e.vHi) * 256 / pv), yHi := sat16 ((v0 - e.vLo) * 256 / pv) }

/-- A pixel box holds pixel (x, y) of the tile. -/
def PixBox.holds (b : PixBox) (x y : Nat) : Bool :=
  decide (b.xLo ≤ x) && decide ((x : Int) ≤ b.xHi) && decide (b.yLo ≤ y) && decide ((y : Int) ≤ b.yHi)

/-- Two's-complement bytes, least significant first. -/
def le16 (i : Int) : List Byte := leBytes 2 (unsigned 16 i)

/-- 32 bytes of a prepared entry (R287). -/
def Entry.bytes (e : Entry) : List Byte :=
  leBytes 2 e.id ++ [b8 e.cls, b8 (e.mclass + 4 * bit e.seam + 8 * bit e.capped)] ++ le16 e.hLo ++ le16 e.hHi ++ le16 e.vLo ++ le16 e.vHi
  ++ leBytes 2 e.margin ++ leBytes 2 e.ageMs ++ le16 e.vhPh ++ le16 e.vvPh ++ List.replicate 12 0

/-- 8 bytes of a pixel box (R288). -/
def PixBox.bytes (b : PixBox) : List Byte := le16 b.xLo ++ le16 b.xHi ++ le16 b.yLo ++ le16 b.yHi

/-- LOCAL header of engine n (R288). -/
def State.localHeader (s : State) (n count seam age : Nat) : List Byte :=
  leBytes 4 s.frameNo ++ leBytes 8 s.glare.tPh ++ leBytes 4 s.glare.tNext ++ leBytes 2 count
  ++ [b8 n, b8 (bit s.glare.stale + 2 * bit s.glare.split + 4 * bit s.cmp.seam), 0, 0] ++ leBytes 2 seam
  ++ leBytes 2 (s.g (F.BE_GEO0_H0 n)) ++ leBytes 2 (s.g (F.BE_GEO0_V0 n)) ++ leBytes 2 (s.g (F.BE_GEO1_PH n)) ++ leBytes 2 (s.g (F.BE_GEO1_PV n))
  ++ leBytes 4 age ++ List.replicate 28 0

/-- Band b of tile n is written: the kernel's bytes under the box floor, unless the MASK write meets a parity error (R279, R281, R283). -/
def State.writeBand (s : State) (n b : Nat) (band : List Byte) (parity : Bool) : State :=
  let boxes := (s.engine n).boxes
  let out := (List.range 16384).map (fun i =>
    if boxes.any (fun p => p.holds (i % 512) (32 * b + i / 512)) then (0 : Byte) else band.getD i 0xFF)
  let s := s.setBytes (s.beamWin + 0x28000 + 0x4000 * n) out
  let s := s.setByte (s.beamWin + 0x18000 + 0x2000 * n + 20) (b8 b)
  let s := s.put (F.BE_STAT_BAND n) b
  if parity then s
  else (s.setBytes (s.maskAddr n 0 (32 * b)) out).modEngine n (fun e => { e with written := b :: e.written.filter (· ≠ b) })

/-- Engine n renders: GLR is enabled, the timer runs, and no block reset covers the slot (R283). -/
def State.renders (s : State) (n b : Nat) : Bool :=
  decide (n < 8) && decide (b < 16) && s.tln.running && s.on (F.UNIT_CTRL_ENABLE 0x30) && !s.blockRunning 0x30 && !s.blockRunning (0x31 + n)

/-- Engine n runs a kernel (R281). -/
def State.runsKernel (s : State) (n : Nat) : Bool := !s.boxOnly n && !s.on F.GLR_KSEL_ROM

/-- BE_CYC after a band (R297). -/
def State.cycles (s : State) (n c : Nat) : State := (s.put (F.BE_CYC_LAST n) c).put (F.BE_CYC_MAX n) (max c (s.g (F.BE_CYC_MAX n)))

/-- KERNEL_BAND_RENDER: engine n renders tile band b; band is what the kernel left in BAND, parity says that the MASK write failed. -/
def execKernelBandRender (n b cycles : Nat) (band : List Byte) (parity : Bool) (s : State) : Host.Outcome State Fault Refusal :=
  let s := s.begin
  .next (if s.renders n b then
    if s.runsKernel n then (s.cycles n cycles).writeBand n b band parity else s.writeBand n b [] parity
  else s)

/-- KERNEL_OVERRUN: the kernel did not return, or made an access outside its windows (window): a miss (R281, R282). -/
def execKernelOverrun (n b : Nat) (window parity : Bool) (s : State) : Host.Outcome State Fault Refusal :=
  let s := s.begin
  .next (if s.renders n b && s.runsKernel n then
    let s := ((s.cycles n 31744).evt (if window then F.BE_EVT_WIN_FAULT n else F.BE_EVT_OVERRUN n)).evt F.GLR_EVT_MISS
    let s := (s.incSat (F.BE_CNT_MISS n)).detect [0x30, 0x31 + n] S.BE_MISS n 0 false
    let s := if (s.engine n).missed then s else (s.incSat (F.BE_STAT_MISS_RUN n)).modEngine n (fun e => { e with missed := true })
    let s := if s.g F.GLR_CTRL_MISS_MAX ≤ s.g (F.BE_STAT_MISS_RUN n) then s.modEngine n (fun e => { e with boxDue := true }) else s
    s.writeBand n b [] parity
  else s)

/-! ### Kernel loading (R290, R291) -/

/-- A slot holds the kernel in use. -/
def State.slotActive (s : State) (k : Nat) : Bool := !s.on F.GLR_KSEL_ROM && s.g F.GLR_KSEL_SLOT = k

/-- STATE of a kernel slot. -/
def kstat (k : Nat) : Fld := if k = 0 then F.GLR_KSTAT_STATE0 else F.GLR_KSTAT_STATE1

/-- A write to GLR_KLOAD (R291). -/
def State.kload (s : State) (v : Word) : State :=
  let k := v.toNat / 2 % 2
  if tbit v.toNat 0 && !s.slotActive k then s.put (kstat k) 1 else s

/-- Reason to reject the image in a slot; 0 for none. An image too large for its slot has no signature block to check (R290, R291, log 19). -/
def State.kernelRej (s : State) (k : Nat) (sigOk : Bool) : Nat × State :=
  let h := s.bytes (s.beamWin + 0x8000 * k) 32768
  let code := ofLe (slice h 12 4)
  if 32768 < 64 + code + 192 then (4, s)
  else
    let (ok, s) := s.sigCheck (slice h (64 + code) 192) (64 + code) 1 sigOk
    if !ok then (1, s)
    else if ofLe (slice h 8 4) ≠ s.fuse 1 then (2, s)
    else if ofLe (slice h 0 4) ≠ 0x4C594B31 || ofLe (slice h 4 2) ≠ 1 || !allZero h 6 2 || !allZero h 32 32 || decide (64 + code ≤ ofLe (slice h 16 4)) then (3, s)
    else if 31744 < ofLe (slice h 20 4) then (5, s)
    else (0, s)

/-- KERNEL_VERIFY_DONE: sigOk is the verdict of digest and curve. -/
def execKernelVerifyDone (slot : Nat) (sigOk : Bool) (s : State) : Host.Outcome State Fault Refusal :=
  let s := s.begin
  .next (if decide (slot < 2) && s.g (kstat slot) = 1 then
    let (r, s) := s.kernelRej slot sigOk
    if r = 0 then s.put (kstat slot) 2
    else ((s.put (kstat slot) 3).put F.GLR_KSTAT_REJ r).evt F.GLR_EVT_KERN_REJ
  else s)

/-! ### The frame timer's adjustment (R381 to R385) -/

/-- Whether FSYNC_IN serves as a source (R382, R384). -/
def State.fsUsable (s : State) : Bool := s.tln.fsEdge.isSome && !s.tln.fsLost && !s.on F.TLN_STAT_FS_RANGE

/-- Pull source: 0 none, 1 FSYNC_IN, 2 the peer lamp (R382). -/
def State.pullSource (s : State) : Nat :=
  if s.on F.TLN_SYNC_FS_EN then bit s.fsUsable
  else if s.on F.TLN_SYNC_SIDE_PULL && s.on (F.UNIT_CTRL_ENABLE 0x0A) && !s.on F.SIDE_STAT_SPLIT && s.g F.SIDE_CTRL_ROLE = 1
      && s.side.peerFlip.isSome && s.side.peerPeriod = s.cmp.period then 2
  else 0

/-- Error against a target and the targets' distance, for a source (R383). -/
def State.pullError (s : State) (src : Nat) : Int × Nat :=
  let per := s.cmp.period
  if src = 1 then
    let p := if 2 ≤ s.tln.fsSeen then s.g F.TLN_FS_PER_T_FS / s.g F.TLN_SYNC_DIV else per
    (nearest ((s.tln.nextFlip : Int) - ((s.tln.fsEdge.getD 0 : Nat) + signed 32 (s.g F.TLN_FS_OFS_OFS_NS))) p, p)
  else (nearest ((s.tln.nextFlip : Int) - (s.side.peerFlip.getD 0 : Nat)) s.side.peerPeriod, s.side.peerPeriod)

/-- The adjustment a_M (R383). -/
def adjust (per : Nat) (e : Int) (p : Nat) : Int :=
  if e.natAbs ≤ per / 1024 then -e else min (per / 16 : Nat) ((-e) % (p : Int))

/-- PULL_ADJUST at the cut-off: source, error, adjustment and lock (R381 to R385). -/
def State.pullAdjust (s : State) : State :=
  let src := s.pullSource
  let change := src ≠ s.g F.TLN_STAT_SRC
  let s := s.put F.TLN_STAT_SRC src
  if src = 0 then
    let s := ((s.put F.TLN_ERR_ERR_NS 0).put F.TLN_ADJ_ADJ_NS 0).put F.TLN_STAT_PULLING 0
    (s.put F.TLN_STAT_LOCKED 0).withTln { s.tln with adj := 0, lockRun := 0 }
  else
    let (e, p) := s.pullError src
    let per := s.cmp.period
    let a := adjust per e p
    let pulling := decide (((per / 1024 : Nat) : Int) < a)
    let s := ((s.put F.TLN_ERR_ERR_NS (unsigned 32 e)).put F.TLN_ADJ_ADJ_NS (unsigned 32 a)).put F.TLN_STAT_PULLING (bit pulling)
    let s := if pulling && !s.cmp.deferred then s.incSat F.TLN_CNT_PULL_FRAMES else s
    let within := decide (e.natAbs ≤ s.g F.TLN_PULL_LOCK_NS)
    let run := if !within then 0 else if change then 1 else s.tln.lockRun + 1
    let was := s.on F.TLN_STAT_LOCKED && within && !change
    let now := was || (within && decide (s.g F.TLN_PULL_LOCK_CNT ≤ run))
    let s : State := (s.put F.TLN_STAT_LOCKED (bit now)).withTln { s.tln with adj := a, lockRun := run }
    if now && !was && src = 1 then s.evt F.TLN_EVT_FS_LOCK else s

/-- Period that will be in force for the frame, counting a CMP commit that awaits its latch point (R269, R381). -/
def State.periodAhead (s : State) : Nat := if s.cmp.deferred then s.cmp.periodNext else s.afterPending.g F.CMP_PERIOD_PER_NS

/-! ### The snapshot (R268, R275, R276, R280, R287, R292, R293, R311) -/

/-- The four cases of R275 on a LIST_TIME, but for a disabled GLR: stale, and later than it may be. -/
def State.listStale (s : State) (t : Option Nat) : Bool × Bool :=
  match t with
  | none => (true, false)
  | some t =>
    let age := (s.ltNs : Int) - t
    let future := decide (age < -1000000)
    (decide (100000000 < age) || future || !s.on F.CSF_STAT_LT_VALID, future)

/-- A list age in µs for a field of 24 bits that saturates. -/
def State.ageUs (s : State) (t : Nat) : Nat := min (2 ^ 24 - 1) ((s.ltNs - t) / 1000)

/-- The Governor's own list monitor (R311). -/
def State.govMonitor (s : State) : State :=
  let (st, _) := s.listStale s.gov.listTime
  (s.put F.GOV_STAT_OWN_STALE (bit st)).put F.GOV_LIST_AGE_AGE_US (match s.gov.listTime with | some t => s.ageUs t | none => 0)

/-- Pending GLR and BE commits go into force; one that changes GLR_KSEL ends box-only mode (R282, R285). -/
def State.glareCommits (s : State) : State :=
  let key := s.word 0x30044
  let s := (0x30 :: (List.range 8).map (fun n => 0x31 + n)).foldl (fun s p => s.apply p) s
  if s.word 0x30044 = key then s
  else (List.range 8).foldl (fun s n => (s.put (F.BE_STAT_BOX_ONLY n) 0).modEngine n (fun e => { e with boxDue := false })) s

/-- Engines whose run of misses has reached MISS_MAX enter box-only mode; a frame without a miss ends a run (BOX_ONLY_ENTRY, R282). -/
def State.boxEntry (s : State) : State :=
  (List.range 8).foldl (fun s n =>
    let e := s.engine n
    let s := if e.missed then s else s.put (F.BE_STAT_MISS_RUN n) 0
    let s := s.modEngine n (fun e => { e with missed := false, boxDue := false, boxes := [], written := [] })
    if e.boxDue && !s.on (F.BE_STAT_BOX_ONLY n) then
      let s := ((s.put (F.BE_STAT_BOX_ONLY n) 1).evt (F.BE_EVT_BOX_ONLY n)).evt F.GLR_EVT_BOX_ONLY
      s.detect [0x30, 0x31 + n] S.BE_BOX_ONLY n 0 false
    else s) s

/-- The newest accepted list enters the snapshot; it and every older packet are DONE (R208, R268). -/
def State.takeList (s : State) (parity : Bool) : State :=
  if s.glare.newest.isSome && (parity || s.armed S.CMD_REPLAY) then s.replay 2
  else
    match s.glare.newest with
    | none => s
    | some l =>
      if s.consuming 2 then
        let body := ((s.ring 2).find? (fun p => p.seq = l.seq)).map Packet.body
        let s := s.setBytes (s.beamWin + 0x10000) (body.getD [])
        let s := (s.doneUpTo l.seq false (s.ring 2).length).incSat F.GLR_CNT_SNAPS
        (s.put F.GLR_SNAP_SEQ_SEQ l.seq).withGlare { s.glare with newest := none, heldList := some l }
      else s

/-- The peer's boxes are imported when its frame lies in the window (R293). -/
def State.importSeam (s : State) : List Entry × State :=
  match s.glare.store with
  | none => ([], s)
  | some f =>
    if decide (f.tPh < s.glare.tPh) && decide (s.glare.tPh - f.tPh ≤ 2 * s.glare.tNext) then
      (f.entries.map (fun e => s.prepare (e.asObj f.tPh) none s.glare.tPh (s.glare.tPh + s.glare.tNext)), s)
    else ([], (s.incSat F.GLR_SEAM_CNT_LATE).evt F.GLR_EVT_SEAM_LATE)

/-- A SEAM frame with the objects that meet the zone goes to the peer (SEAM_SEND, R292). -/
def State.seamSend (s : State) (objs : List Entry) : State :=
  if s.sst = 5 && !s.on F.SIDE_STAT_SPLIT && s.on F.SIDE_CTRL_SEAM_EN then
    let lo := signed 16 (s.g F.GLR_SEAM_ZONE_H_LO)
    let hi := signed 16 (s.g F.GLR_SEAM_ZONE_H_HI)
    let l := objs.filter (fun e => decide (lo ≤ e.hHi) && decide (e.hLo ≤ hi))
    let be := fun (i : Int) => beBytes 2 (unsigned 16 i)
    let p := beBytes 4 s.frameNo ++ beBytes 8 s.glare.tPh ++ beBytes 2 l.length ++ [0, 0] ++ l.flatMap (fun e =>
      beBytes 2 e.id ++ [b8 e.cls, b8 e.mclass] ++ be e.hLo ++ be e.hHi ++ be e.vLo ++ be e.vHi ++ be e.vhPh ++ be e.vvPh)
    (s.incSat F.GLR_SEAM_CNT_SENT).withSide { s.side with tx := s.side.tx ++ [⟨9, p⟩] }
  else s

/-- Prepared entries, pixel boxes and the engines' windows for the held list (R280, R287, R288). -/
def State.setup (s : State) (l : ObjList) : State :=
  let tPh := s.glare.tPh
  let tEnd := tPh + s.glare.tNext
  let eff := fun (o : Obj) => if s.forceM3 then 3 else o.mclass
  let objs := l.objs.map (fun o => s.prepare o (some (eff o)) tPh tEnd)
  let s := if l.objs.any (fun o => decide (tPh < o.tObs)) then s.evt F.GLR_EVT_TS_FUTURE else s
  let (seam, s) := s.importSeam
  let s : State := s.withGlare { s.glare with entries := objs ++ seam }
  let s := s.setBytes (s.beamWin + 0x14000) ((objs ++ seam).flatMap Entry.bytes)
  let s := s.put F.GLR_STAT_COUNT objs.length
  let age := min (2 ^ 32 - 1) ((s.ltNs - l.listTime) / 1000)
  let s := (List.range 8).foldl (fun s n =>
    let mine := if s.boxOnly n && !s.forceM3 then l.objs.map (fun o => s.prepare o (some 3) tPh tEnd) else objs
    let boxes := (mine ++ seam).map (s.pixBox n)
    let a := s.beamWin + 0x18000 + 0x2000 * n
    let s := (s.setBytes a (s.localHeader n objs.length seam.length age)).setBytes (a + 0x40) (boxes.flatMap PixBox.bytes)
    (s.setBytes (a + 0x1040) (List.replicate 0xFC0 0)).modEngine n (fun e => { e with boxes := boxes })) s
  s.seamSend objs

/-- OBJECT_CUTOFF: commits, adjustment, snapshot, list age and setup; parity says that the consumer's read of the packet failed (R212, R280). -/
def execObjectCutoff (parity : Bool) (s : State) : Host.Outcome State Fault Refusal :=
  let s := s.begin
  .next (if s.tln.running then
    let s := s.glareCommits.pullAdjust
    let tNext := ((s.periodAhead : Int) + s.tln.adj).toNat
    let tPh := s.ltNs + (s.tln.nextFlip - s.ns) + s.g F.GLR_PHOTON_OFS_NS
    let s : State := (s.withTln { s.tln with tNext := tNext }).withGlare { s.glare with tPh := tPh, tNext := tNext, split := s.on F.SIDE_STAT_SPLIT, entries := [] }
    let s := s.boxEntry
    let s := if s.on (F.UNIT_CTRL_ENABLE 0x30) && !s.blockRunning 0x30 then
        let s := s.takeList parity
        let (st, future) := s.listStale (s.glare.heldList.map ObjList.listTime)
        let s := (s.put F.GLR_LIST_AGE_AGE_US (match s.glare.heldList with | some l => s.ageUs l.listTime | none => 0)).put F.GLR_SNAP_FRAME_FRAME s.frameNo
        let s := if future then s.evt F.GLR_EVT_TS_FUTURE else s
        let s : State := s.withGlare { s.glare with stale := st }
        let s := s.put F.GLR_STAT_FORCE_M3 (bit s.forceM3)
        s.setup (s.glare.heldList.getD ⟨0, 0, []⟩)
      else s.withGlare { s.glare with stale := true }
    let s := s.put F.GLR_STAT_LIST_STALE (bit s.glare.stale)
    let s := if s.glare.stale then s.evt F.GLR_EVT_LIST_STALE else s
    s.govMonitor
  else s)

end Sys2Proof.Machine
end

