-- ==== Sys2Proof/Machine/Segments.lean ====
section
/-! DEFINITION. The Segment Bus: drivers, sets, LATCH, POLL, the scan, colour classes (12_segment_bus; 10_uniformity_and_flux, R354, R355). -/

namespace Sys2Proof.Machine

/-! ### Channels (R410, R416) -/

/-- Channels whose entry is used. -/
def State.usedChans (s : State) : List Nat := (List.range 256).filter (fun c => s.g (F.SEG_CH_ADDR c) ≠ 0)

/-- Record of a channel. -/
def State.segChan (s : State) (c : Nat) : SegChan := ((s.seg.chans.find? (fun e => e.1 = c)).map (fun e => e.2)).getD SegChan.init

/-- Change a channel's record. -/
def State.modChan (s : State) (c : Nat) (f : SegChan → SegChan) : State :=
  s.withSeg { s.seg with chans := tabInsert s.seg.chans c (f (s.segChan c)) }

/-- The driver at an address is a matrix driver (R412). -/
def State.isMatrix (s : State) (a : Nat) : Bool := tbit (s.g (F.SEG_MTX_MTX (a / 32))) (a % 32)

/-- The driver at an address is present. -/
def State.segPresent (s : State) (a : Nat) : Bool := tbit (s.g (F.SEG_PRESENT_PRESENT (a / 32))) (a % 32)

/-- PRESENT of a driver. -/
def State.setPresent (s : State) (a : Nat) (b : Bool) : State := s.put ⟨0x60, 0x5C + 4 * (a / 32), a % 32, a % 32⟩ (bit b)

/-- Full-scale pulse of a channel in ns (R411, R412, R416). -/
def State.pulseT (s : State) (c : Nat) : Nat :=
  if s.isMatrix (s.g (F.SEG_CH_ADDR c)) then (s.g F.SEG_SCAN_T_T_ROW_US - s.g F.SEG_SCAN_BLANK_US) * 1000 else s.g F.SEG_PWM_TMAX_US * 1000

/-- Smallest D that gives a pulse of 4 µs (R416). -/
def State.d4 (s : State) (c : Nat) : Nat :=
  let t := s.pulseT c
  if t = 0 then 65535 else (4000 * 65536 + t - 1) / t

/-! ### Colour classes (R354, R355) -/

/-- Point i of the curve of class c: temperature and factor. -/
def State.curveT (s : State) (c i : Nat) : Int := signed 16 (s.le (0x28260040 + 16 * (c - 1) + 4 * i) 2)
def State.curveQ (s : State) (c i : Nat) : Nat := s.le (0x28260042 + 16 * (c - 1) + 4 * i) 2

/-- A class's curve is valid. -/
def State.curveOk (s : State) (c : Nat) : Bool :=
  (List.range 3).all (fun i => decide (s.curveT c i < s.curveT c (i + 1))) && (List.range 4).all (fun i => decide (16384 ≤ s.curveQ c i))

/-- Factor of a class at a temperature: the piecewise rule with four points. -/
def State.curveAt (s : State) (c : Nat) (t : Int) : Nat :=
  let q := fun i => ((s.curveQ c i : Nat) : Int)
  (if t ≤ s.curveT c 0 then q 0
   else if t ≤ s.curveT c 1 then lerp (q 0) (q 1) (s.curveT c 0) (s.curveT c 1) t
   else if t ≤ s.curveT c 2 then lerp (q 1) (q 2) (s.curveT c 1) (s.curveT c 2) t
   else if t < s.curveT c 3 then lerp (q 2) (q 3) (s.curveT c 2) (s.curveT c 3) t
   else q 3).toNat

/-- Smallest factor of a class's curve. -/
def State.curveMin (s : State) (c : Nat) : Nat := (List.range 4).foldl (fun m i => min m (s.curveQ c i)) 65535

/-- A driver's temperature is valid (R411). -/
def State.drvTemp (s : State) (a : Nat) : Option Int :=
  match s.seg.polled.find? (fun e => e.1 = a) with
  | some e => if s.now - e.2 ≤ ms (3 * s.g F.SEG_CTRL_POLL_MS) then some (signed 16 (s.g (F.SEG_DRV_TEMP a))) else none
  | none => none

/-- Factor of a channel: that of its class at its driver's temperature, its last one, or the smallest (R355). -/
def State.chanFactor (s : State) (c : Nat) : Nat :=
  let k := s.g (F.SEG_CH_CLASS c)
  if k = 0 || 4 < k || !s.curveOk k then 32768
  else match s.drvTemp (s.g (F.SEG_CH_ADDR c)) with
    | some t => s.curveAt k t
    | none => ((s.seg.factors.find? (fun e => e.1 = c)).map (fun e => e.2)).getD (s.curveMin k)

/-- A curve that cannot be evaluated is reported (R355). -/
def State.curveReport (s : State) (k : Nat) : State := if decide (k ≤ 4) && !s.curveOk k then s.evt F.CAL_EVT_CURVE_INV else s

/-- A product of intensity and factor beyond 65,535 is reported (R355, R410). -/
def State.satReport (s : State) (c q : Nat) : State := if 65535 < s.g (F.SEG_CH_INT c) * q / 32768 then s.evt F.CAL_EVT_CURVE_SAT else s

/-- The factor q of channel c, of class k, is the last one its driver's temperature gave (R355). -/
def State.keepFactor (s : State) (c k q : Nat) : State :=
  if decide (k ≤ 4) && s.curveOk k && (s.drvTemp (s.g (F.SEG_CH_ADDR c))).isSome then
    s.withSeg { s.seg with factors := tabInsert s.seg.factors c q }
  else s

/-- The factor of channel c at a housekeeping round. -/
def State.classFactor (s : State) (c : Nat) : State :=
  let k := s.g (F.SEG_CH_CLASS c)
  let s := s.curveReport k
  (s.satReport c (s.chanFactor c)).keepFactor c k (s.chanFactor c)

/-- The hottest of some channels and its temperature. -/
def State.hottest (s : State) (chans : List Nat) : Option (Int × Nat) :=
  chans.foldl (fun (m : Option (Int × Nat)) c =>
    match s.drvTemp (s.g (F.SEG_CH_ADDR c)), m with
    | some t, some (u, d) => if u < t then some (t, c) else some (u, d)
    | some t, none => some (t, c)
    | none, m => m) none

/-- CAL computes the factors at a housekeeping round, and reports each class at its hottest channel (R354, R355). -/
def State.classFactors (s : State) : State :=
  let chans := s.usedChans.filter (fun c => s.g (F.SEG_CH_CLASS c) ≠ 0)
  let s := chans.foldl (fun s c => s.classFactor c) s
  (List.range 4).foldl (fun s i =>
    match s.hottest (chans.filter (fun c => s.g (F.SEG_CH_CLASS c) = i + 1)) with
    | some (t, c) => (s.put (F.CAL_CFAC_FACTOR i) (s.chanFactor c)).put (F.CAL_CFAC_T i) (unsigned 16 t)
    | none => s) s

/-- Commanded value of a channel (R410). -/
def State.dCmd (s : State) (c : Nat) : Nat :=
  if s.g (F.SEG_CH_CLASS c) = 0 then s.g (F.SEG_CH_INT c) else min 65535 (s.g (F.SEG_CH_INT c) * s.chanFactor c / 32768)

/-! ### Forming a set (R406, R416) -/

/-- DEBT of a channel, and its saturation. -/
def State.debt (s : State) (c : Nat) : Int := signed 16 (s.g (F.SEG_CHS_DEBT c))
def satDebt (d : Int) : Int := if d < -32767 then -32767 else if 32767 < d then 32767 else d

/-- The channel's part of the set for the flip after next (R416). -/
def State.formChan (s : State) (c : Nat) : State :=
  let cmd := s.dCmd c
  let run := s.g (F.SEG_CHS_RUN c)
  let debt := s.debt c
  let tp := cmd ≠ 0 && s.on F.SEG_CTRL_TP_EN && run = 16
  let d := if cmd = 0 then 0 else if tp then s.d4 c else min 65535 (max 0 ((cmd : Int) - debt)).toNat
  let run := if cmd = 0 || tp then 0 else if d < s.d4 c then min 16 (run + 1) else 0
  let s := if tp then (s.incSat F.SEG_CNT_TP_TP).evt F.SEG_EVT_TP else s
  let s := (s.put (F.SEG_CHS_RUN c) run).put (F.SEG_CHS_DEBT c) (unsigned 16 (satDebt (debt + d - cmd)))
  s.modChan c (fun k => { k with next := some (d, cmd) })

/-- SEG serves: enabled, the root runs, no block reset. -/
def State.segRuns (s : State) : Bool := s.on (F.UNIT_CTRL_ENABLE 0x60) && s.on F.CLK_STAT_ROOT_OK && !s.blockRunning 0x60

/-- SEG_SET_FORM at a latch point: the SEG commit lands and the set is formed (R406). -/
def State.segForm (s : State) : State :=
  let s := if s.pendPages.contains 0x60 then (s.apply 0x60).put F.SEG_COMMIT_FRAME_FRAME (s.frameNo + 1) else s
  let s := (List.range 256).foldl (fun s c => if s.g (F.SEG_CH_ADDR c) = 0 then s.put (F.SEG_CHS_DIAG c) 0 else s) s
  if s.segRuns then s.usedChans.foldl (fun s c => s.formChan c) s else s

/-! ### The bus (R399 to R404) -/

/-- CRC-16 of R401. -/
def crc16 (l : List Byte) : Nat := crcOf 16 0x1021 0xFFFF 0 false false l

/-- A request frame (R401). -/
def segFrame (addr cmd : Nat) (data : List Byte) : List Byte :=
  let body := [b8 addr, b8 cmd, b8 data.length] ++ data
  0x55 :: body ++ beBytes 2 (crc16 body)

/-- A request is on the line. -/
def State.segSend (s : State) (addr cmd : Nat) (data : List Byte) : State := s.withSeg { s.seg with sent := segFrame addr cmd data }

/-- A unicast transaction starts. -/
def State.segStart (s : State) (cmd addr : Nat) (data : List Byte) (values : List (Nat × Nat)) : State :=
  (((s.withSeg { s.seg with txn := some ⟨cmd, addr, 1, values⟩ })).segSend addr cmd data)

/-- A driver becomes absent (R403, R417). -/
def State.driverLost (s : State) (a : Nat) : State :=
  if s.seg.lost.contains a then s
  else
    let s := (s.setPresent a false).evt F.SEG_EVT_DRV_LOST
    let s := s.withSeg { s.seg with lost := s.seg.lost ++ [a], configured := s.seg.configured.filter (· ≠ a) }
    let s := s.usedChans.foldl (fun s c => if s.g (F.SEG_CH_ADDR c) = a then
      (s.put (F.SEG_CHS_DIAG c) 4).modChan c (fun k => { k with shadow := none }) else s) s
    s.detect [0x60] S.SEG_DRV_LOST 0 0 false

/-- An attempt has failed: repeated up to RETRY times, then the driver is absent (R403). -/
def State.segFail (s : State) : State :=
  match s.seg.txn with
  | none => s
  | some t =>
    if t.attempts ≤ s.g F.SEG_CTRL_RETRY then s.withSeg { s.seg with txn := some { t with attempts := t.attempts + 1 } }
    else (s.withSeg { s.seg with txn := none }).driverLost t.addr

/-- A character reads back differently: the transaction is aborted; four in a row raise SEG_BUS (R400). -/
def State.segAbort (s : State) : State :=
  let s := s.evt F.SEG_EVT_BUS_ERR
  let n := s.seg.aborts + 1
  let s := s.withSeg { s.seg with aborts := n % 4 }
  if n = 4 then s.raise S.SEG_BUS 0 else s

/-- A transaction was sent and read back well. -/
def State.segGood (s : State) : State := s.withSeg { s.seg with aborts := 0 }

/-- A unicast request goes out, or the one under way is sent again; readback says that every character read back as sent. -/
def State.segRequest (s : State) (cmd a : Nat) (data : List Byte) (values : List (Nat × Nat)) (readback : Bool) : State :=
  match s.seg.txn with
  | none =>
    let s := s.segStart cmd a data values
    if readback then s.segGood else s.segAbort.segFail
  | some t => if t.cmd = cmd && t.addr = a then (if readback then s.segGood else s.segAbort.segFail) else s

/-- The active channel table names an address (R405). -/
def State.segNamed (s : State) (a : Nat) : Bool := decide (0 < a) && decide (a < 64) && s.usedChans.any (fun c => s.g (F.SEG_CH_ADDR c) = a)

/-- SEG_IDENT: an address of the table is asked for its identity (R402, R403, R405). -/
def execSegIdent (a : Nat) (s : State) : Host.Outcome State Fault Refusal :=
  let s := s.begin
  .next (if s.segRuns && s.segNamed a then s.segRequest 1 a [] [] true else s)

/-- DATA of CONFIG for an address; a broadcast carries the scan's ROWS (R402, log 20). -/
def State.configData (s : State) (a : Nat) : List Byte :=
  let rows := if a = 0 || s.isMatrix a then s.g F.SEG_SCAN_ROWS else 0
  beBytes 4 (s.g F.SEG_PWM_TMAX_US * 1000) ++ [b8 rows, b8 (s.g F.SEG_SCAN_BLANK_US), b8 (s.g F.SEG_SCAN_PC), 0] ++ beBytes 2 (s.g F.SEG_SCAN_T_T_ROW_US)

/-- SEG_CONFIG: broadcast, or to one driver (R402, R403, R405). -/
def execSegConfig (a : Nat) (s : State) : Host.Outcome State Fault Refusal :=
  let s := s.begin
  .next (if s.segRuns then
    if a = 0 then
      let s := s.segSend 0 2 (s.configData 0)
      s.withSeg { s.seg with configured := (List.range 64).filter s.segPresent }
    else if s.segNamed a && s.segPresent a then s.segRequest 2 a (s.configData a) [] true
    else s
  else s)

/-- Channels of a driver on the lowest row that has one whose shadow differs from the set due (R402, R406). -/
def State.setRow (s : State) (a : Nat) : List Nat :=
  let mine := s.usedChans.filter (fun c => s.g (F.SEG_CH_ADDR c) = a)
  match (List.range 8).find? (fun r => mine.any (fun c => s.g (F.SEG_CH_ROW c) = r && (s.segChan c).shadow ≠ some (s.segChan c).due)) with
  | some r => mine.filter (fun c => s.g (F.SEG_CH_ROW c) = r)
  | none => []

/-- DATA of a SET: row, first channel, and the values from the first to the last mapped channel. -/
def State.setData (s : State) (chans : List Nat) : List Byte :=
  let dch := fun c => s.g (F.SEG_CH_DCH c)
  let first := chans.foldl (fun m c => min m (dch c)) 15
  let last := chans.foldl (fun m c => max m (dch c)) 0
  let row := match chans with | c :: _ => s.g (F.SEG_CH_ROW c) | [] => 0
  [b8 row, b8 first] ++ (List.range (last + 1 - first)).flatMap (fun i =>
    beBytes 2 (match chans.find? (fun c => dch c = first + i) with | some c => (s.segChan c).due | none => 0))

/-- SEG_SET: a driver's values of the set due (R402, R406). -/
def execSegSet (a : Nat) (readback : Bool) (s : State) : Host.Outcome State Fault Refusal :=
  let s := s.begin
  .next (if s.segRuns && s.segPresent a && s.seg.configured.contains a then
    let chans := s.setRow a
    if chans.isEmpty then s
    else s.segRequest 3 a (s.setData chans) (chans.map (fun c => (c, (s.segChan c).due))) readback
  else s)

/-- SEG_POLL (R402, R417). -/
def execSegPoll (a : Nat) (readback : Bool) (s : State) : Host.Outcome State Fault Refusal :=
  let s := s.begin
  .next (if s.segRuns && s.segPresent a then s.segRequest 4 a [] [] readback else s)

/-! ### LATCH (R407, R408, R416, R417) -/

/-- Every driver that is not absent has acknowledged its part of the set due. -/
def State.setComplete (s : State) : Bool :=
  s.usedChans.all (fun c => !s.segPresent (s.g (F.SEG_CH_ADDR c)) || (s.segChan c).shadow = some (s.segChan c).due)

/-- A LATCH with REPEAT = 0: shadows are shown. -/
def State.latchShow (s : State) : State :=
  s.usedChans.foldl (fun s c =>
    let k := s.segChan c
    let s := if k.cmd = 0 then s.put (F.SEG_CHS_DIAG c) (if s.segPresent (s.g (F.SEG_CH_ADDR c)) then 0 else 4) else s
    s.modChan c (fun k => { k with shown := k.due, shownCmd := k.cmd })) (s.put F.SEG_STAT_LATE_RUN 0)

/-- A LATCH with REPEAT = 1: the deviation of what is shown from what was due is owed (R407, R416). -/
def State.latchRepeat (s : State) : State :=
  let s := ((s.evt F.SEG_EVT_LATE).incSat F.SEG_CNT_LATE).incSat F.SEG_STAT_LATE_RUN
  let s := s.raise S.SEG_LATE 0
  s.usedChans.foldl (fun s c =>
    let k := s.segChan c
    let run := if k.cmd = 0 then 0 else if k.shown < s.d4 c then min 16 (s.g (F.SEG_CHS_RUN c) + 1) else 0
    (s.put (F.SEG_CHS_DEBT c) (unsigned 16 (satDebt (s.debt c + k.shown - k.cmd)))).put (F.SEG_CHS_RUN c) run) s

/-- SEG_LATCH: ahead of a flip that is not deferred; the set after it becomes the set due (R407, R408, log 20). -/
def execSegLatch (readback : Bool) (s : State) : Host.Outcome State Fault Refusal :=
  let s := s.begin
  .next (if s.segRuns && s.tln.latched then
    let rep := !s.setComplete
    let s := s.segSend 0 5 (beBytes 4 s.frameNo ++ [b8 (bit rep)])
    if !readback then s.segAbort
    else
      let s := if rep then s.segGood.latchRepeat else s.segGood.latchShow
      s.usedChans.foldl (fun s c => s.modChan c (fun k => match k.next with
        | some (d, cmd) => { k with due := d, cmd := cmd, next := none }
        | none => k)) s
  else s)

/-- SEG_ALL_OFF: every driver turns its channels off (R402, R409). -/
def State.segAllOff (s : State) : State :=
  let s := s.segSend 0 6 []
  s.withSeg { s.seg with chans := s.seg.chans.map (fun e => (e.1, { e.2 with shown := 0, shownCmd := 0 })) }

/-- SEG_ALL_OFF as a command of the bus. -/
def execSegAllOff (s : State) : Host.Outcome State Fault Refusal :=
  let s := s.begin
  .next (if s.on F.CLK_STAT_ROOT_OK && !s.blockRunning 0x60 then s.segAllOff else s)

/-! ### Responses (R401 to R403, R417, R418) -/

/-- Diagnosis of one channel from a POLL: 0 none, 1 good, 2 open, 3 short. -/
def State.diagnose (s : State) (c v : Nat) : State :=
  match v with
  | 1 =>
    let s := if (s.segChan c).shownCmd = 0 then s else s.put (F.SEG_CHS_DIAG c) 1
    s.modChan c (fun k => { k with opens := 0, shorts := 0 })
  | 2 =>
    let s := ((s.put (F.SEG_CHS_DIAG c) 2).evt F.SEG_EVT_OPEN).modChan c (fun k => { k with opens := k.opens + 1, shorts := 0 })
    if 2 ≤ (s.segChan c).opens then s.detect [0x60] S.SEG_OPEN 0 0 false else s
  | 3 =>
    let s := ((s.put (F.SEG_CHS_DIAG c) 3).evt F.SEG_EVT_SHORT).modChan c (fun k => { k with shorts := k.shorts + 1, opens := 0 })
    if 2 ≤ (s.segChan c).shorts then s.detect [0x60] S.SEG_SHORT 0 0 false else s
  | _ => s.modChan c (fun k => { k with opens := 0, shorts := 0 })

/-- A POLL response (R402, R417, R418). -/
def State.pollDone (s : State) (a : Nat) (d : List Byte) : State :=
  let ot := tbit (d.getD 2 0).toNat 0
  let s := (s.put (F.SEG_DRV_TEMP a) (ofBe (slice d 0 2))).put (F.SEG_DRV_OT a) (bit ot)
  let s := s.withSeg { s.seg with polled := tabInsert s.seg.polled a s.now }
  let s := if ot then (s.evt F.SEG_EVT_DRV_OT).detect [0x60] S.SEG_DRV_OT 0 0 false else s
  let bits := ofBe (slice d 4 4)
  s.usedChans.foldl (fun s c => if s.g (F.SEG_CH_ADDR c) = a && decide (s.g (F.SEG_CH_DCH c) ≤ s.g (F.SEG_DRV_NCH a)) then
    s.diagnose c (bits / 4 ^ s.g (F.SEG_CH_DCH c) % 4) else s) s

/-- Channels beyond a driver's count read NO_DRIVER (R417). -/
def State.beyondCount (s : State) (a : Nat) : State :=
  s.usedChans.foldl (fun s c => if s.g (F.SEG_CH_ADDR c) = a then
    if s.g (F.SEG_DRV_NCH a) < s.g (F.SEG_CH_DCH c) then s.put (F.SEG_CHS_DIAG c) 4
    else if s.g (F.SEG_CHS_DIAG c) = 4 then s.put (F.SEG_CHS_DIAG c) 0 else s
  else s) s

/-- A driver that was absent is back once its full SET is done (R403). -/
def State.driverBack (s : State) (a : Nat) : State :=
  if s.seg.lost.contains a && (s.setRow a).isEmpty && s.seg.configured.contains a then
    (s.evt F.SEG_EVT_DRV_BACK).withSeg { s.seg with lost := s.seg.lost.filter (· ≠ a) }
  else s

/-- A transaction is acknowledged with response DATA d. -/
def State.segDone (s : State) (t : SegTxn) (d : List Byte) : State :=
  let s := s.withSeg { s.seg with txn := none }
  match t.cmd with
  | 1 =>
    let b := (d.getD 3 0).toNat
    let s := ((s.put (F.SEG_DRV_NCH t.addr) (b % 16)).put (F.SEG_DRV_MTX_CAP t.addr) (b / 16 % 2)).setPresent t.addr true
    s.beyondCount t.addr
  | 2 => s.withSeg { s.seg with configured := t.addr :: s.seg.configured.filter (· ≠ t.addr) }
  | 3 => (t.values.foldl (fun s e => s.modChan e.1 (fun k => { k with shadow := some e.2 })) s).driverBack t.addr
  | 4 => s.pollDone t.addr d
  | _ => s

/-- SEG_RESPONSE: SYNC, ADDR, STAT, LEN, DATA and CRC-16 (R401, R403). -/
def execSegResponse (bytes : List Byte) (s : State) : Host.Outcome State Fault Refusal :=
  let s := s.begin
  .next (match s.seg.txn with
    | none => s
    | some t =>
      if !s.segRuns then s
      else
        let n := (bytes.getD 3 0).toNat
        let body := slice bytes 1 (3 + n)
        let inj := s.armed S.SEG_CRC
        let s := s.consumeInj S.SEG_CRC
        let ok := bytes.getD 0 0 = 0x55 && bytes.length = 6 + n && decide (n ≤ 40) && ofBe (slice bytes (4 + n) 2) = crc16 body
          && (bytes.getD 1 0).toNat = 128 + t.addr && !inj
        if !ok || bytes.getD 2 0 = 1 then
          let s := (s.incSat F.SEG_CNT_CRC).evt F.SEG_EVT_CRC
          (s.raiseWith S.SEG_CRC 0 0 inj false).segFail
        else if bytes.getD 2 0 = 0 then s.segDone t (slice bytes 4 n)
        else s.segFail)

/-- SEG_RESPONSE_TIMEOUT: no response 10 µs after the request (R403). -/
def execSegResponseTimeout (s : State) : Host.Outcome State Fault Refusal :=
  let s := s.begin
  .next (if s.segRuns && s.seg.txn.isSome then (s.evt F.SEG_EVT_NO_RESP).segFail else s)

/-! ### The scan (R412, R415) -/

/-- SCAN_ROW_SLOT: the next row slot since the flip begins, or the scan rests (R412). -/
def execScanRowSlot (s : State) : Host.Outcome State Fault Refusal :=
  let s := s.begin
  .next (if s.segRuns then
    let rows := s.g F.SEG_SCAN_ROWS
    if decide (0 < rows) && decide (s.seg.slot < s.g F.SEG_SCAN_REP * rows) then
      s.withSeg { s.seg with high := some (s.seg.slot % rows), slot := s.seg.slot + 1 }
    else s.withSeg { s.seg with high := none }
  else (s.withSeg { s.seg with high := none }))

/-- Shortest interval between flips at a period (R414). -/
def pMin (per : Nat) : Nat := per - per / 1024

/-- At a flip the scan starts again; a period too short for the pulses or the scan cuts them (R412, R415). -/
def State.segFlip (s : State) : State :=
  let p := pMin s.cmp.period
  let s : State := s.withSeg { s.seg with slot := 0, high := none }
  if s.segRuns && (decide (p < s.g F.SEG_PWM_TMAX_US * 1000)
      || decide (p < s.g F.SEG_SCAN_REP * s.g F.SEG_SCAN_ROWS * s.g F.SEG_SCAN_T_T_ROW_US * 1000)) then s.evt F.SEG_EVT_TRUNC
  else s

/-! ### Enabling, disabling, commits (R405, R409, R414) -/

/-- SEG is disabled: ALL_OFF is sent (R409). -/
def State.segOff (s : State) : State :=
  let s := s.segAllOff
  s.withSeg { s.seg with txn := none, configured := [], high := none }

/-- First case of R414 that a SEG configuration meets; 0 for none. -/
def State.segRej (t : State) : Nat :=
  let p := pMin t.cmp.period
  let tmax := t.g F.SEG_PWM_TMAX_US
  let rows := t.g F.SEG_SCAN_ROWS
  let row := t.g F.SEG_SCAN_T_T_ROW_US
  let blank := t.g F.SEG_SCAN_BLANK_US
  let used := t.usedChans
  let key := fun c => (t.g (F.SEG_CH_ADDR c) * 8 + t.g (F.SEG_CH_ROW c)) * 16 + t.g (F.SEG_CH_DCH c)
  if tmax < 64 || 16000 < tmax || p < tmax * 1000 then 1
  else if 8 < rows || t.g F.SEG_SCAN_REP = 0 || p < t.g F.SEG_SCAN_REP * rows * row * 1000 then 2
  else if blank < (t.g F.SEG_SCAN_PC + 9) / 10 + (rows * row + 99) / 100 || row < blank + 16 then 3
  else if used.any (fun c => 4 < t.g (F.SEG_CH_CLASS c)) || 32 < (used.filter (fun c => t.g (F.SEG_CH_CLASS c) ≠ 0)).length then 4
  else if !noRepeat (used.map key) then 5
  else if used.any (fun c => if t.isMatrix (t.g (F.SEG_CH_ADDR c)) then rows ≤ t.g (F.SEG_CH_ROW c) else t.g (F.SEG_CH_ROW c) ≠ 0)
      || (rows = 0 && (t.g (F.SEG_MTX_MTX 0) / 2 ≠ 0 || t.g (F.SEG_MTX_MTX 1) ≠ 0)) then 6
  else 0

end Sys2Proof.Machine
end

