-- ==== Sys2Proof/Machine/Frame.lean ====
section
/-! DEFINITION. The events of a frame: the latch point, a band slot, the push deadline, the commit of the flip and the flip
(07_layers_and_composition, R241 to R259; 11_tile_lanes, R371, R372). -/

namespace Sys2Proof.Machine

/-! ### Commits that land at a latch point (R242 to R249) -/

/-- Page of layer n. -/
def layPage (n : Nat) : Nat := 0x19 + n % 16

/-- A field as the pending commit of its page holds it. -/
def State.gPend (s : State) (f : Fld) : Nat := wordField (tabGet resetWord s.pend f.addr) f.hi f.lo

/-- The pending commit of layer n changes FRONT; the glare MASK layer has no FRONT (R229, R246). -/
def State.flips (s : State) (n : Nat) : Bool :=
  s.pendPages.contains (layPage n) && s.gPend (F.LAY_CTRL_SRC n) = 0 && s.gPend (F.LAY_CTRL_FRONT n) ≠ s.g (F.LAY_CTRL_FRONT n)

/-- The fence of the pending commit of layer n holds its flip (R245, R246). -/
def State.fenceWait (s : State) (n : Nat) : Bool :=
  s.flips n && s.gPend (F.LAY_CTRL_FENCE_EN n) = 1
  && decide (32768 ≤ (s.g (F.LAY_FENCE_CNT n) + 65536 - s.gPend (F.LAY_FENCE_TGT n)) % 65536)

/-- Accepted data for the incoming buffer of layer n is not DONE (R246). -/
def State.dataWait (s : State) (n : Nat) : Bool :=
  s.flips n && (s.ring 1).any (fun p => !p.body.isEmpty && p.target % 16 = n && p.target / 16 % 2 = s.gPend (F.LAY_CTRL_FRONT n))

/-- Layers whose commit is held at this latch point: each by its own conditions, those of a group commit together (R246, R247). -/
def State.heldNow (s : State) : List Nat :=
  let own := fun n => s.fenceWait n || s.dataWait n
  let group := s.cmp.heldGroup.filter s.flips
  (List.range 16).filter (fun n => own n || (group.contains n && group.any own))

/-- The commit of layer n lands in the frame; a held one waits, and repeats its buffer (R243, R246, R249). -/
def State.landLayer (s : State) (held : List Nat) (n : Nat) : State :=
  if s.pendPages.contains (layPage n) then
    if held.contains n then
      let s := if s.cmp.held.contains n then s else s.put (F.LAY_COMMIT_FRAME_FRAME n) s.frameNo
      let s := (s.put (F.LAY_STAT_FENCE_WAIT n) (bit (s.fenceWait n))).put (F.LAY_STAT_DATA_WAIT n) (bit (s.dataWait n))
      (s.incSat (F.LAY_CNT_REPEATS n)).evt (F.LAY_EVT_REPEAT n)
    else
      let s := if s.flips n then s.incSat (F.LAY_CNT_FLIPS n) else s
      let s := (s.apply (layPage n)).put (F.LAY_COMMIT_FRAME_FRAME n) s.frameNo
      (s.put (F.LAY_STAT_FENCE_WAIT n) 0).put (F.LAY_STAT_DATA_WAIT n) 0
  else s

/-- Commits of CMP, TLN, TLn and LAY land (R242 to R249, R396, R579). -/
def State.landFrame (s : State) : State :=
  let held := s.heldNow
  let s := if s.pendPages.contains 0x18 then (s.apply 0x18).put F.CMP_COMMIT_FRAME_FRAME s.frameNo else s
  let s := (List.range' 0x50 9).foldl (fun s p => s.apply p) s
  let s := (List.range 16).foldl (fun s n => s.landLayer held n) s
  s.withCmp { s.cmp with held := held, heldGroup := s.cmp.heldGroup.filter held.contains }

/-- An enabled layer with an area (R225). -/
def State.layOn (s : State) (n : Nat) : Bool := s.on (F.UNIT_CTRL_ENABLE (layPage n)) && !s.layZero n

/-- Layers of the frame: those that stay, and each new one in ascending number that R28 leaves room for (R244). -/
def State.sampleLayers (s : State) : List Nat :=
  let stay := s.cmp.active.filter s.layOn
  (List.range 16).foldl (fun l n =>
    if l.contains n || !s.layOn n then l
    else if s.maxCount (n :: l) ≤ 8 then n :: l else l) stay

/-- Enables are sampled (R244). -/
def State.sampleEnables (s : State) : State :=
  let l := if s.on (F.UNIT_CTRL_ENABLE 0x18) then s.sampleLayers else []
  let s := (List.range 16).foldl (fun s n =>
    let out := s.on (F.UNIT_CTRL_ENABLE 0x18) && s.layOn n && !l.contains n
    let s := s.put (F.LAY_STAT_EN_HELD n) (bit out)
    if out then (s.evt (F.LAY_EVT_EN_HELD n)).evt F.CMP_EVT_EN_HELD else s) s
  let s := s.put F.CMP_STAT_MAX_LAYERS (s.maxCount l)
  s.withCmp { s.cmp with active := l }

/-- Staleness of layer n in the frame (R250, R251, R253). -/
def State.staleLayer (s : State) (n : Nat) : State :=
  let live := s.cmp.active.contains n && s.g (F.LAY_CTRL_KIND n) = 2 && s.on (F.LAY_CTRL_LIVE n) && !s.isGlare n
  let front := s.g (F.LAY_CTRL_FRONT n)
  let again := live && s.cmp.shown.getD n none = some front
  let run := if again then min 255 (s.g (F.LAY_STAT_STALE_RUN n) + 1) else 0
  let dil := again && decide (s.g F.CMP_STALE_MASK_STALE_MAX < run)
  let s := if dil && !s.on (F.LAY_STAT_DILATED n) then s.evt (F.LAY_EVT_DILATE n) else s
  let s := (s.put (F.LAY_STAT_STALE_RUN n) run).put (F.LAY_STAT_DILATED n) (bit dil)
  s.withCmp { s.cmp with shown := s.cmp.shown.set n (if s.cmp.active.contains n then some front else none) }

/-- The seam weight is active in the frame (R295). -/
def State.seamActive (s : State) : Bool :=
  s.on (F.UNIT_CTRL_ENABLE 0x0A) && s.on F.SIDE_CTRL_SEAM_EN && !s.on F.SIDE_STAT_SPLIT && s.on F.SIDE_STAT_PHASE_LOCK

/-- What a latch point does for a new frame: commits, enables, staleness, calibration, the Governor and the segments. -/
def State.newFrame (s : State) : State :=
  let s := s.landFrame.segForm
  let per := s.g F.CMP_PERIOD_PER_NS
  let s := if ((per : Int) + s.tln.adj).toNat ≠ s.tln.tNext then s.evt F.TLN_EVT_TNEXT_DIFF else s
  let s : State := s.withCmp { s.cmp with periodNext := per }
  let s := s.sampleEnables
  let s := (List.range 16).foldl (fun s n => s.staleLayer n) s
  let s := s.withCmp { s.cmp with seam := s.seamActive }
  (s.put F.CMP_STAT_REPEATING 0).calLatch.govLatch

/-- What a latch point does after a deferral: the frame is composed again from the same state, and every region is pushed (R259, R317). -/
def State.repeatFrame (s : State) : State :=
  let s := s.put F.CMP_STAT_REPEATING 1
  let s := (List.range 8).foldl (fun s n => (s.dirtyAll n).modLane n (fun l => { l with queue := [] })) s
  (s.withCmp { s.cmp with deferred := false }).govRepeat

/-- A block reset of CMP, of a layer or of CAL is under way: the frame cannot be composed (R258, R335). -/
def State.frameBlocked (s : State) : Bool := (0x48 :: cmpPages).any s.blockRunning

/-- LATCH_POINT: commits land, held flips are tested, enables are sampled, and composition of frame N + 1 begins (R242 to R251, R309, R331, R406). -/
def execLatchPoint (s : State) : Host.Outcome State Fault Refusal :=
  let s := s.begin
  .next (if s.tln.running then
    let s := if s.cmp.deferred then s.repeatFrame else s.newFrame
    let s : State := (s.withTln { s.tln with latched := true, committed := false, closed := false, lateCounted := false }).withCmp { s.cmp with bands := [], released := [], recomp := [], tries := [] }
    let s := s.put F.CMP_STAT_COMPOSING (bit (s.on (F.UNIT_CTRL_ENABLE 0x18)))
    if s.frameBlocked then s.deferFlip true else s
  else s)

/-! ### A band slot (R27, R254, R283) -/

/-- Tiles whose glare band the compositor reads in field band b: enabled lanes of its row that are no clone members, while the glare layer is in the frame. -/
def State.glareReads (s : State) (b : Nat) : List Nat :=
  if s.on (F.UNIT_CTRL_ENABLE 0x30) && s.hasGlare then
    (List.range 8).filter (fun t => t / 4 = b / 16 && s.laneEnabled t && (s.clone t).isNone)
  else []

/-- A tile band read by the compositor is not marked written, or an injection says so: M = 0 and the report (UNWRITTEN_BAND, R283, R467). -/
def State.readGlare (s : State) (b t : Nat) : State :=
  let k := b % 16
  let inj := s.armed S.BE_UNWRITTEN
  let missing := !(s.engine t).written.contains k
  let s := s.consumeInj S.BE_UNWRITTEN
  if missing || inj then
    let s := s.modEngine t (fun e => { e with written := e.written.filter (· ≠ k) })
    let s := ((s.evt (F.BE_EVT_UNWRITTEN t)).incSat (F.BE_CNT_UNWRITTEN t)).evt F.GLR_EVT_UNWRITTEN
    s.detect [0x30, 0x31 + t] S.BE_UNWRITTEN t (s.maskAddr t 0 (32 * k)) inj
  else s

/-- Slate words that the composition of field bands reads, with the layer that reads each. -/
def State.bandReads (s : State) (bands : List Nat) : List (Nat × Nat) :=
  bands.foldl (fun l b => (List.range 65536).foldl (fun l i => l ++ s.readsAt (bandX i) (bandY b i)) l) []

/-- An armed injection fails one of the words that the slot reads; which one is a free value (R467, log 7). -/
def State.injectParity (s : State) (bands : List Nat) : List Nat × State :=
  if s.armed S.CMP_PARITY then
    let l := s.bandReads bands
    if l.isEmpty then ([], s)
    else
      let (w, s) := (s.consumeInj S.CMP_PARITY).free
      ([(l.getD (w % l.length) (0, 0)).2], s)
  else ([], s)

/-- Regions of a composed band that hold pixels which depend on failing words are recomputed; each report belongs to the first of its regions (SLATE_PARITY, R254). -/
def State.parityRegions (s : State) (bad inj : List Nat) (b : Nat) : State :=
  if bad.isEmpty then s
  else
    ((List.range 8).foldl (fun (acc : List (Nat × Nat) × State) h =>
      let hit := s.parityIn bad b (256 * h) 256
      if hit.isEmpty then acc
      else
        let new := hit.filter (fun e => !acc.1.contains e)
        let t := acc.2.noteParity new
        (acc.1 ++ new, t.requestRecomp ⟨b, 4 * (b / 16) + h / 2, 8 * (h % 2), 8, new, new.any (fun e => inj.contains e.2)⟩)) ([], s)).2

/-- Field band b is composed (R27, R238, R254). -/
def State.composeBand (s : State) (bad inj : List Nat) (b : Nat) : State :=
  let v := (List.range 65536).map (fun i => s.compose bad (bandX i) (bandY b i))
  let s : State := s.withCmp { s.cmp with bands := (b, v) :: s.cmp.bands.filter (fun e => e.1 ≠ b) }
  s.parityRegions bad inj b

/-- BAND_SLOT: slot k composes bands k and k + 16; bad lists the Slate words whose read fails (R26, R27, R254, R283). -/
def execBandSlot (k : Nat) (bad : List Nat) (s : State) : Host.Outcome State Fault Refusal :=
  let s := s.begin
  let bands := s.slotBands k
  .next (if decide (k < 16) && s.tln.latched && !s.tln.closed && s.on F.CMP_STAT_COMPOSING && !bands.any (fun b => (s.composedBand b).isSome) then
    let s := bands.foldl (fun s b => (s.glareReads b).foldl (fun s t => s.readGlare b t) s) s
    let (inj, s) := s.injectParity bands
    bands.foldl (fun s b => s.composeBand (inj ++ bad) inj b) s
  else s)

/-! ### Deadline, commit, flip (R258, R371, R372) -/

/-- The device decides on the frame: it completes, or its flip is deferred (R258). -/
def State.decideFrame (s : State) : State :=
  if s.tln.latched && !s.tln.closed then
    if s.frameDone then (s.withTln { s.tln with closed := true }) else s.deferFlip false
  else s

/-- PUSH_DEADLINE: 698.56 µs after the latch point (R258). -/
def execPushDeadline (s : State) : Host.Outcome State Fault Refusal := .next s.begin.decideFrame

/-- FLIP_COMMIT: 706 µs after the latch point (R371). -/
def execFlipCommit (s : State) : Host.Outcome State Fault Refusal :=
  let s := s.begin.decideFrame
  .next (if s.tln.latched && s.tln.closed then (s.withTln { s.tln with committed := true }) else s)

/-- Sum of the values of tile t that left the Governor in the frame (R347). -/
def State.tileSum (s : State) (t : Nat) : Nat :=
  (List.range 16).foldl (fun sum b =>
    let v := s.releasedBand (fieldBand t b)
    (List.range 16384).foldl (fun sum i => sum + (v.getD (2048 * (i / 512) + 512 * (t % 4) + i % 512) (0, 0)).1) sum) 0

/-- The flipped frame's tile mean enters the flux loop (R347, R349). -/
def State.fluxFrame (s : State) (t : Nat) : State :=
  let s := if s.fluxOut t then s.fluxAway t else s
  if (List.range 16).all (fun b => s.cmp.released.any (fun e => e.1 = fieldBand t b)) then
    s.modFlx t (fun f => { f with sum := f.sum + s.tileSum t / 262144, frames := f.frames + 1 })
  else s

/-- A lane of SR_EN with nothing queued sleeps after the flip; a completed flip in ACTIVE ends a run of retrains (LANE_SLEEP, R388, R390). -/
def State.laneFlip (s : State) (n : Nat) : State :=
  if s.tlst n = 5 then
    let s := s.modLane n (fun l => { l with retrains := 0 })
    if s.on (F.TL_CTRL_SR_EN n) && (s.lane n).queue.isEmpty && (s.lane n).sending.isNone then (s.sendCtl n .sleep).put (F.TL_STAT_STATE n) 6 else s
  else s

/-- FIELD_OK follows the flipped frame: high with the first that carries light, low with BLANK (R421, R425). -/
def State.lightFlip (s : State) : State :=
  let lit := s.g F.GOV_MODE_CUR ≠ 0
  let f := s.g F.SAF_STAT_FSTATE
  let s := s.withSaf { s.saf with beamLit := lit }
  if f = 2 && lit && !s.safetyBlock then s.put F.SAF_STAT_FSTATE 3
  else if f = 3 && !lit then s.put F.SAF_STAT_FSTATE 2
  else s

/-- Payload of a PHASE frame: FRAME_NO, PERIOD_NS, and FLAGS: role, locked to FSYNC_IN, split (R186). -/
def State.phasePayload (s : State) : List Byte :=
  beBytes 4 (s.g F.CMP_FRAME_FRAME_NO) ++ beBytes 4 s.cmp.period
  ++ [b8 (s.role + 2 * bit (s.g F.TLN_STAT_SRC = 1 && s.on F.TLN_STAT_LOCKED) + 4 * s.g F.SIDE_STAT_SPLIT), 0, 0, 0]

/-- A PHASE frame goes to the peer while SIDE is ACTIVE (PHASE_SEND, R186). -/
def State.phaseSend (s : State) : State :=
  if s.sst = 5 then (s.withSide { s.side with tx := s.side.tx ++ [⟨8, s.phasePayload⟩] }) else s

/-- A CLK_SSC commit goes into force with the triangle at zero deviation (SSC_APPLY, R107). -/
def State.sscApply (s : State) : State :=
  if s.pendPages.contains 0x01 then
    let s := s.apply 0x01
    (s.put F.CLK_STAT_SSC_ACTIVE (s.g F.CLK_SSC_EN)).withQuartz { s.quartz with sscSince := if s.on F.CLK_SSC_EN then some s.now else none }
  else s

/-- FLIP: TSYNC rises on a committed flip (R16, R241, R260, R347, R372, R381, R425). -/
def execFlip (s : State) : Host.Outcome State Fault Refusal :=
  let s := s.begin
  .next (if s.tln.committed then
    let t := s.tln.nextFlip
    let s := (s.inc F.CMP_FRAME_FRAME_NO).put F.CMP_STAT_DEFER_RUN 0
    let s := ((s.put F.CMP_FLIP_LT_LO_LT s.ltNs).put F.CMP_FLIP_LT_HI_LT (s.ltNs / 2 ^ 32)).put F.CMP_STAT_COMPOSING 0
    let s := s.put F.CMP_STAT_REPEATING 0
    let s := (List.range 8).foldl (fun s n => s.fluxFrame n) s
    let s := (s.govFlip (s.g F.CMP_FRAME_FRAME_NO)).lightFlip
    let s : State := (s.withCmp { s.cmp with period := s.cmp.periodNext, deferred := false }).withTln { s.tln with
        nextFlip := (((t + s.cmp.periodNext : Nat) : Int) + s.tln.adj).toNat
        latched := false, committed := false, closed := false }
    let s := (List.range 8).foldl (fun s n => s.laneFlip n) s
    ((s.sscApply.segFlip).phaseSend).settle
  else s)

/-! ### The end of the frame timer (R579, R623) -/

/-- A CMP commit with no frame in work: the period takes effect with the first frame (R241, R579). -/
def State.landCmp (s : State) : State :=
  let s := (s.apply 0x18).put F.CMP_COMMIT_FRAME_FRAME s.frameNo
  let per := s.g F.CMP_PERIOD_PER_NS
  s.withCmp { s.cmp with period := per, periodNext := per }

/-- Pages whose commit point is the latch point, the object cut-off or the flip (R575). -/
def framePages : List Nat := 0x01 :: List.range' 0x18 17 ++ List.range' 0x30 9 ++ [0x50, 0x60]

/-- A pending commit of one of those pages goes into force while no frame timer runs. -/
def State.landStopped (s : State) (p : Nat) : State :=
  if !s.pendPages.contains p then s
  else if p = 0x01 then s.sscApply
  else if p = 0x18 then s.landCmp
  else if p = 0x60 then (s.apply 0x60).put F.SEG_COMMIT_FRAME_FRAME (s.frameNo + 1)
  else if 0x19 ≤ p ∧ p ≤ 0x28 then
    let s := s.landLayer [] (p - 0x19)
    s.withCmp { s.cmp with held := s.cmp.held.filter (· ≠ p - 0x19), heldGroup := s.cmp.heldGroup.filter (· ≠ p - 0x19) }
  else if 0x30 ≤ p ∧ p ≤ 0x38 then s.glareCommits
  else s.apply p

/-- The frame timer stops, and the commits that waited for its points go into force (R623). -/
def State.endFrames (s : State) : State :=
  framePages.foldl (fun s p => s.landStopped p) ((s.stopFrames.put F.CMP_STAT_COMPOSING 0).put F.CMP_STAT_REPEATING 0)

/-- HOLDOVER_EXPIRY: STOPPING begins with a safe reaction, idle lanes and the retention checkpoint (R89, R90). -/
def execHoldoverExpiry (s : State) : Host.Outcome State Fault Refusal :=
  let s := s.begin
  .next (if s.root = 5 || s.root = 6 || s.root = 7 then
    let s := (s.put F.CLK_STAT_STATE 8).evt F.CLK_EVT_HOLD_EXP
    let s := s.raiseTrig S.CLK_HOLD_EXP 0 5 0 false
    ((s.endFrames.lanesOff).put F.CSF_STAT_LT_VALID 0).checkpointRet.settle
  else s)

end Sys2Proof.Machine
end

