-- ==== Sys2Proof/Machine/SafetyUnit.lean ====
section
/-! DEFINITION. The safety domain and Flint's part in it: safety inputs and outputs, the release, the safe reaction, the unlock, lockstep and
the Flint watchdog (13_functional_safety). -/

namespace Sys2Proof.Machine

/-! ### Safety outputs (R437 to R440) -/

/-- SOUTk as the conditions of R437 make it. -/
def State.soutTry (s : State) (k : Nat) : State :=
  let f := s.g F.SAF_STAT_FSTATE
  let st := s.g (F.SAF_SOUT_STAT_STATE k)
  let o := s.saf.souts.getD k Sout.init
  if s.on (F.SAF_SOUT_CFG_USED k) && tbit (s.g F.SAF_SOUT_CTRL_ON) k && (f = 1 || f = 2 || f = 3) && st ≠ 3 && !s.saf.padGate then
    let s := s.put (F.SAF_SOUT_STAT_STATE k) 2
    s.withSaf { s.saf with souts := s.saf.souts.set k { o with high := true } }
  else if o.high then s.soutLow k
  else s

/-- Both outputs. -/
def State.soutsTry (s : State) : State := (s.soutTry 0).soutTry 1

/-- A write of v to SAF_SOUT_CTRL. -/
def State.soutCtrl (s : State) (v : Word) : State := ((s.put F.SAF_SOUT_CTRL_ON (wordField v 1 0)).soutsTry).settle

/-- Output k enters FAULT with a cause and the trigger SOUT_FAULT (R438). -/
def State.soutFault (s : State) (k cause : Nat) : State :=
  let s := (s.put (F.SAF_SOUT_STAT_STATE k) 3).put (F.SAF_SOUT_STAT_CAUSE k) cause
  let s := (s.soutLow k).evt F.SAF_EVT_SOUT_FAULT
  (s.raiseTrig S.SAF_SOUT_FAULT k 3 k false).settle

/-- OFF_PULSE_START: SOUTk goes low for its off-pulse (R438). -/
def execOffPulseStart (k : Nat) (s : State) : Host.Outcome State Fault Refusal :=
  let s := s.begin
  let o := s.saf.souts.getD k Sout.init
  .next (if o.high && !o.pulse then (s.withSaf { s.saf with souts := s.saf.souts.set k { o with pulse := true } }) else s)

/-- OFF_PULSE_END: rb is the read-back at the end of the pulse (R438). -/
def execOffPulseEnd (k : Nat) (rb : Bool) (s : State) : Host.Outcome State Fault Refusal :=
  let s := s.begin
  let o := s.saf.souts.getD k Sout.init
  .next (if o.pulse then
    let s := s.withSaf { s.saf with souts := s.saf.souts.set k { o with pulse := false } }
    let s := s.put (F.SAF_SOUT_STAT_RB k) (bit rb)
    if rb then s.soutFault k 3 else s.inc (F.SAF_SOUT_STAT_PULSES k)
  else s)

/-- SOUT_READBACK_FAULT: the read-back has disagreed for RB_T outside an off-pulse (R438). -/
def execSoutReadbackFault (k : Nat) (rb : Bool) (s : State) : Host.Outcome State Fault Refusal :=
  let s := s.begin
  let o := s.saf.souts.getD k Sout.init
  let st := s.g (F.SAF_SOUT_STAT_STATE k)
  .next (if decide (k < 2) && s.on (F.SAF_SOUT_CFG_USED k) && (st = 1 || st = 2) && !o.pulse && o.high != rb then
    (s.put (F.SAF_SOUT_STAT_RB k) (bit rb)).soutFault k (if o.high then 1 else 2)
  else s)

/-- SOUT_FAULT_CLEAR: the read-back has been low for 100 ms while SOUTk is low (R438). -/
def execSoutFaultClear (k : Nat) (s : State) : Host.Outcome State Fault Refusal :=
  let s := s.begin
  .next (if decide (k < 2) && s.g (F.SAF_SOUT_STAT_STATE k) = 3 then
    let s := (s.put (F.SAF_SOUT_STAT_STATE k) 1).put (F.SAF_SOUT_STAT_RB k) 0
    ((s.condEnd S.SAF_SOUT_FAULT k).soutTry k).settle
  else s)

/-- TILE_POWER_UP: the read-back of output k has been high for PWR_MS; the held lanes wake (R440). -/
def execTilePowerUp (k : Nat) (s : State) : Host.Outcome State Fault Refusal :=
  let s := s.begin
  let o := s.saf.souts.getD k Sout.init
  .next (if o.high && !o.powered then
    let s := (s.put (F.SAF_SOUT_STAT_RB k) 1)
    let s := s.withSaf { s.saf with souts := s.saf.souts.set k { o with powered := true } }
    (List.range 8).foldl (fun s n => if tbit (s.soutTiles k) n then s.laneWake n else s) s
  else s)

/-! ### Safety inputs (R430 to R435) -/

/-- Healthy level of channel c of input n: 0 is A, 1 is B (R430). -/
def State.healthyLevel (s : State) (n c : Nat) : Bool := !(c = 1 && s.on (F.SAF_SIN_CFG_MODE n))

/-- TPO that feeds channel c of input n (R430). -/
def State.feed (s : State) (n c : Nat) : Nat := if c = 1 && s.on (F.SAF_SIN_CFG_FEED_B n) then n ^^^ 1 else n

/-- Channel c of input n. -/
def State.chan (s : State) (n c : Nat) : SinChan := s.saf.chans.getD (2 * n + c) SinChan.init

/-- Change channel c of input n, and the level that SAF_SIN_STAT shows. -/
def State.modChanS (s : State) (n c : Nat) (f : SinChan → SinChan) : State :=
  let h := f (s.chan n c)
  (s.put (if c = 0 then F.SAF_SIN_STAT_A n else F.SAF_SIN_STAT_B n) (bit h.high)).withSaf { s.saf with chans := s.saf.chans.set (2 * n + c) h }

/-- Channel c of input n stands at its healthy level. -/
def State.atHealthy (s : State) (n c : Nat) : Bool := (s.chan n c).high = s.healthyLevel n c

/-- Every channel of input n whose healthy level is high has passed k test pulses. -/
def State.testsPassed (s : State) (n k : Nat) : Bool :=
  [0, 1].all (fun c => !s.healthyLevel n c || decide (k ≤ (s.chan n c).passed))

/-- Test pulses of input n are counted anew. -/
def State.clearTests (s : State) (n : Nat) : State :=
  (s.modChanS n 0 (fun h => { h with passed := 0 })).modChanS n 1 (fun h => { h with passed := 0 })

/-- Whether both channels of input n have been healthy for FILT_US. -/
def State.setHealthyFor (s : State) (n : Nat) (b : Bool) : State := s.withSaf { s.saf with healthyFor := s.saf.healthyFor.set n b }

/-- State of input n. -/
def State.sinState (s : State) (n : Nat) : Nat := s.g (F.SAF_SIN_STAT_STATE n)

/-- Input n enters FAULT: with trigger SIN_FAULT but from INIT, where the FATAL source alone reports (R435, R451, R463, log 21). -/
def State.sinFault (s : State) (n cause : Nat) : State :=
  let init := s.sinState n = 1
  let s := ((s.put (F.SAF_SIN_STAT_STATE n) 4).put (F.SAF_SIN_STAT_CAUSE n) cause).clearTests n
  let s := (s.setHealthyFor n false).evt F.SAF_EVT_SIN_FAULT
  (if init then s.raise S.SAF_SIN_FAULT n else s.raiseTrig S.SAF_SIN_FAULT n 2 n false).settle

/-- An input in INIT, DEMAND or FAULT becomes HEALTHY when its conditions hold (R435). -/
def State.sinHealthy (s : State) (n : Nat) : State :=
  let st := s.sinState n
  let ready := if st = 1 then s.saf.healthyFor.getD n false && s.testsPassed n 1
    else if st = 3 then s.saf.healthyFor.getD n false
    else st = 4 && s.atHealthy n 0 && s.atHealthy n 1 && s.testsPassed n 2
  if ready then ((s.put (F.SAF_SIN_STAT_STATE n) 2).condEnd S.SAF_SIN_FAULT n).settle else s

/-- SIN_FILTER_EXPIRY: a channel (b: channel B) has stood at its demand level for FILT_US (R433, R435). -/
def execSinFilterExpiry (n : Nat) (b : Bool) (s : State) : Host.Outcome State Fault Refusal :=
  let s := s.begin
  .next (if decide (n < 4) && s.on (F.SAF_SIN_CFG_USED n) then
    let c := bit b
    let s := (s.modChanS n c (fun h => { h with high := !s.healthyLevel n c })).setHealthyFor n false
    if s.sinState n = 2 then
      let s := ((s.put (F.SAF_SIN_STAT_STATE n) 3).incSat (F.SAF_SIN_STAT_DEMANDS n)).evt F.SAF_EVT_SIN_DEMAND
      (s.raiseTrig S.SAF_SIN_DEMAND n 1 n false).settle
    else s
  else s)

/-- SIN_HEALTHY_FILTER: both channels have stood at their healthy level for FILT_US (R435). -/
def execSinHealthyFilter (n : Nat) (s : State) : Host.Outcome State Fault Refusal :=
  let s := s.begin
  .next (if decide (n < 4) && s.on (F.SAF_SIN_CFG_USED n) then
    let s := s.modChanS n 0 (fun h => { h with high := s.healthyLevel n 0 })
    let s := s.modChanS n 1 (fun h => { h with high := s.healthyLevel n 1 })
    (s.setHealthyFor n true).sinHealthy n
  else s)

/-- SIN_DISCREPANCY_TIMEOUT: the channels have disagreed for DISC_MS in DEMAND (R435). -/
def execSinDiscrepancyTimeout (n : Nat) (s : State) : Host.Outcome State Fault Refusal :=
  let s := s.begin
  .next (if decide (n < 4) && s.sinState n = 3 then s.sinFault n 5 else s)

/-- A used channel is fed from TPOn (R431). -/
def State.tpoUsed (s : State) (n : Nat) : Bool :=
  (List.range 4).any (fun k => s.on (F.SAF_SIN_CFG_USED k) && (s.feed k 0 = n || s.feed k 1 = n))

/-- Level of channel c of input n in a list of eight. -/
def levelOf (l : List Bool) (n c : Nat) : Bool := l.getD (2 * n + c) false

/-- TEST_PULSE_START: TPOn starts its off-pulse; levels are those of the eight channels (R431, R434). -/
def execTestPulseStart (n : Nat) (levels : List Bool) (s : State) : Host.Outcome State Fault Refusal :=
  let s := s.begin
  .next (if decide (n < 4) && s.saf.tpo.isNone && s.tpoUsed n then
    let s := s.withSaf { s.saf with tpo := some n }
    (List.range 8).foldl (fun s i =>
      if s.on (F.SAF_SIN_CFG_USED (i / 2)) then
        s.modChanS (i / 2) (i % 2) (fun h => { h with high := levelOf levels (i / 2) (i % 2), wasHigh := levelOf levels (i / 2) (i % 2) })
      else s) s
  else s)

/-- Faults that the pulse of TPO t shows on input n, by CAUSE: a channel that read high must follow its own feed, and only that (R434). -/
def State.pulseFaults (s : State) (t n : Nat) (levels : List Bool) : List Nat :=
  [0, 1].filterMap (fun c =>
    if !(s.chan n c).wasHigh then none
    else if s.feed n c = t then (if levelOf levels n c then some (1 + c) else none)
    else if levelOf levels n c then none else some (3 + c))

/-- A channel's own pulse is passed, or breaks the run of periods (R435). -/
def State.pulsePass (s : State) (t n c : Nat) (levels : List Bool) : State :=
  if s.feed n c = t then
    let ok := (s.chan n c).wasHigh && !levelOf levels n c
    s.modChanS n c (fun h => { h with passed := if ok then h.passed + 1 else 0 })
  else s

/-- The end of TPO t's pulse on input n. Of two causes at once the spec names none: the one kept is a free value (log 7). -/
def State.pulseEnd (s : State) (t : Nat) (levels : List Bool) (n : Nat) : State :=
  if s.on (F.SAF_SIN_CFG_USED n) then
    let faults := s.pulseFaults t n levels
    let s := (s.pulsePass t n 0 levels).pulsePass t n 1 levels
    if faults.isEmpty then s.sinHealthy n
    else
      let (w, s) := s.free
      let cause := faults.getD (w % faults.length) 0
      let s := if 3 ≤ cause then s.put (F.SAF_SIN_STAT_XSRC n) t else s
      if s.sinState n = 4 then (s.put (F.SAF_SIN_STAT_CAUSE n) cause).clearTests n else s.sinFault n cause
  else s

/-- TEST_PULSE_END: levels are those of the last sample of the pulse (R434, R435). -/
def execTestPulseEnd (levels : List Bool) (s : State) : Host.Outcome State Fault Refusal :=
  let s := s.begin
  .next (match s.saf.tpo with
    | some t => (List.range 4).foldl (fun s n => s.pulseEnd t levels n) (s.withSaf { s.saf with tpo := none })
    | none => s)

/-! ### A commit of the SAF page (R424, R425, R435, R451) -/

/-- First case of R451 that a SAF configuration t meets against the present state; 0 for none. -/
def State.safRej (s t : State) : Nat :=
  let ins := (List.range 4).filter (fun n => t.on (F.SAF_SIN_CFG_USED n))
  let outs := List.range 2
  let w := t.g F.SAF_TP_CFG_TP_W_US
  let per := t.g F.SAF_TP_CFG_TP_PER_MS
  let tiles := fun k => t.g (F.SAF_SOUT_CFG_TILES k)
  if ins.any (fun n => t.g (F.SAF_SIN_CFG_FILT_US n) < 50 || 5000 < t.g (F.SAF_SIN_CFG_FILT_US n)) then 1
  else if ins.any (fun n => t.g (F.SAF_SIN_CFG_DISC_MS n) = 0) then 2
  else if w < 8 || 40 < w || per = 0 then 3
  else if ins.any (fun n => per * 1000 < t.g (F.SAF_SIN_CFG_FILT_US n) + w + 16) then 4
  else if outs.any (fun k => t.g (F.SAF_SOUT_CFG_RB_T_US k) = 0 || t.g (F.SAF_SOUT_CFG_OP_W_US k) < t.g (F.SAF_SOUT_CFG_RB_T_US k) + 4)
      || t.g F.SAF_SOUT_TIM_OP_PER_MS = 0 || t.g F.SAF_SOUT_TIM_PWR_MS = 0 then 5
  else if tiles 0 &&& tiles 1 ≠ 0 || outs.any (fun k => !t.on (F.SAF_SOUT_CFG_USED k) && tiles k ≠ 0) then 6
  else if (List.range 4).any (fun n => s.on (F.SAF_SIN_CFG_USED n) && !t.on (F.SAF_SIN_CFG_USED n) && s.sinState n ≠ 2)
      || outs.any (fun k => s.on (F.SAF_SOUT_CFG_USED k) && !t.on (F.SAF_SOUT_CFG_USED k) && (s.saf.souts.getD k Sout.init).high) then 7
  else 0

/-- Every input returns to INIT, or to UNUSED (R429, R435). -/
def State.sinInit (s : State) : State :=
  (List.range 4).foldl (fun s n =>
    ((s.put (F.SAF_SIN_STAT_STATE n) (s.g (F.SAF_SIN_CFG_USED n))).clearTests n).setHealthyFor n false |>.condEnd S.SAF_SIN_FAULT n) s

/-- A SAF commit is in force: inputs start anew, outputs are used or not, and FIELD_OK is driven low (R424, R425). -/
def State.safCommit (s : State) : State :=
  let s := s.sinInit
  let s := (List.range 2).foldl (fun s k =>
    if s.on (F.SAF_SOUT_CFG_USED k) then (if s.g (F.SAF_SOUT_STAT_STATE k) = 0 then s.put (F.SAF_SOUT_STAT_STATE k) 1 else s)
    else s.put (F.SAF_SOUT_STAT_STATE k) 0) s
  let s := if s.g F.SAF_STAT_FSTATE = 0 then s.put F.SAF_STAT_FSTATE (if s.on F.SAF_STAT_LOCKED then 4 else 1) else s
  s.soutsTry.settle

/-! ### Flint (R422, R426, R441, R442, R449) -/

/-- The beam is valid: sealed tables without a Granite fault, every cut-off tile in service, no run of deferrals (R422). -/
def State.beamValid (s : State) : Bool :=
  s.on F.GOV_STAT_TABLES_OK && !s.saf.granFault
  && (List.range 8).all (fun n => !s.cutoffTile n || (s.inService n && s.tlst n ≠ 7))
  && decide (s.g F.CMP_STAT_DEFER_RUN < s.g F.CMP_CTRL_DEFER_MAX)

/-- Flint's conditions for SAF_FIELD.REQ (R422). -/
def State.flintTerms (s : State) : Bool :=
  s.beamValid && s.on F.CSF_STAT_CURRENT && !s.fatalPending && !s.on F.SAF_STAT_LOCKED && s.g F.RST_BOOT_STAT_PHASE ≠ 2

/-- FLINT_EVALUATION: REQ and the release follow the conditions; a halted or stopped Flint leaves them (R310, R422). -/
def execFlintEvaluation (s : State) : Host.Outcome State Fault Refusal :=
  let s := s.begin
  .next (if s.saf.halted || s.rst.scope.isSome then s
  else
    let s := s.put F.SAF_FIELD_REQ (bit s.flintTerms)
    (s.put F.GOV_MODE_RELEASE (bit s.allTerms)).settle)

/-- A write of v to SAF_REACT: codes 8 to 13 alone raise a trigger (R426). -/
def State.safReactWrite (s : State) (v : Word) : State :=
  let c := wordField v 15 8
  if wordField v 0 0 = 1 && decide (8 ≤ c) && decide (c ≤ 13) then (s.trigger c (wordField v 23 16)).settle else s

/-- First condition of R449 that refuses an unlock; 0 for none. A trigger in the same command comes first (R429). -/
def State.unlockRej (s : State) : Nat :=
  if !s.on F.SAF_STAT_LOCKED then 1
  else if s.csf.unlock ≠ some (s.g F.SAF_LOCK_CNT_LOCK_CNT) then 2
  else if !s.inputsOk then 3
  else if (List.range 2).any (fun k => s.on (F.SAF_SOUT_CFG_USED k) && s.g (F.SAF_SOUT_STAT_STATE k) = 3) then 4
  else if !s.clocksOk || !s.flintOk then 5
  else if !s.on F.CSF_STAT_CURRENT then 6
  else if s.fatalPending then 7
  else if !s.on F.GOV_STAT_TABLES_OK then 8
  else 0

/-- Outputs that are used. -/
def State.usedOuts (s : State) : Nat := s.g (F.SAF_SOUT_CFG_USED 0) + 2 * s.g (F.SAF_SOUT_CFG_USED 1)

/-- An accepted unlock (R449, R450). -/
def State.unlockAccept (s : State) : State :=
  let s : State := ((s.put F.SAF_STAT_LOCKED 0).evt F.SAF_EVT_UNLOCK).incSat F.SAF_CNT_UNLOCKS
  let s : State := s.event 0x6881 (0 :: 0 :: leBytes 4 (s.g F.SAF_LOCK_CNT_LOCK_CNT))
  let s : State := if s.g F.SAF_STAT_FSTATE = 4 then s.put F.SAF_STAT_FSTATE 1 else s
  ((s.put F.SAF_SOUT_CTRL_ON s.usedOuts).soutsTry).settle

/-- A refused unlock (R449). -/
def State.unlockRefuse (s : State) (rej : Nat) : State :=
  ((s.put F.SAF_UNLOCK_REJ rej).evt F.SAF_EVT_UNLOCK_REJ).event 0x6882 [b8 rej]

/-- A write of v to SAF_UNLOCK: GO asks the safety domain (R449, R450); REJ takes what Flint writes. -/
def State.safUnlockWrite (s : State) (v : Word) : State :=
  let s : State := s.put F.SAF_UNLOCK_REJ (wordField v 11 8)
  if wordField v 0 0 = 1 then
    let t : State := s.withCsf { s.csf with unlock := none }
    if s.unlockRej = 0 then t.unlockAccept else t.unlockRefuse s.unlockRej
  else s

/-- The Flint watchdog expires: its trigger, then a WDT_FLINT warm reset (R442). -/
def State.flintWdt (s : State) : State :=
  let s := (s.evt F.SAF_EVT_WDT_EXP)
  let s := s.withSaf { s.saf with wdtExpired := true }
  (s.raiseTrig S.SAF_FLINT_WDT 0 6 0 false).warmReset F.RST_CAUSE_WDT_FLINT false

/-- A write of v to SAF_WDT: 0xC3 kicks the watchdog, and a kick within 25 µs of the last counts as expiry (R442). -/
def State.flintKick (s : State) (v : Word) : State :=
  if wordField v 7 0 = 0xC3 then
    match s.saf.lastKick with
    | some t => if s.now - t < us 25 then s.flintWdt else s.withSaf { s.saf with lastKick := some s.now }
    | none => (s.put F.SAF_WDT_ARMED 1).withSaf { s.saf with lastKick := some s.now }
  else s

/-- FLINT_WDT_EXPIRY: no kick within 100 µs of the last (R442). -/
def execFlintWdtExpiry (st : Straps) (s : State) : Host.Outcome State Fault Refusal :=
  let s := s.begin
  .next (if s.on F.SAF_WDT_ARMED then (s.setStraps st).flintWdt else s)

/-- LOCKSTEP_MISMATCH: both cores halt and LOCKSTEP triggers (R441). -/
def execLockstepMismatch (s : State) : Host.Outcome State Fault Refusal :=
  let s := s.begin
  .next (if s.saf.halted then s
  else
    let s := (s.evt F.SAF_EVT_LOCKSTEP)
    let s := s.withSaf { s.saf with halted := true, lockstep := true }
    (s.raiseTrig S.SAF_LOCKSTEP 0 7 0 false).settle)

/-- FOK_READBACK_MISMATCH: the driven ball has read back wrongly for 2 µs (R423). -/
def execFokReadbackMismatch (s : State) : Host.Outcome State Fault Refusal :=
  let s := s.begin
  .next (if s.g F.SAF_STAT_FSTATE = 0 then s else ((s.evt F.SAF_EVT_FOK_RB).raise S.SAF_FOK_RB 0).settle)

end Sys2Proof.Machine
end

