-- ==== Sys2Proof/Machine/Recorder.lean ====
section
/-! DEFINITION. Commands of fault collection and of the event recorder: acknowledge, clear, inject, write, mirror, checkpoint, attest and read
(14_faults_and_event_recorder), with the worlds that decide who may write a page (18_register_map, R587). -/

namespace Sys2Proof.Machine

/-! ### Worlds (R39 to R41, R519, R587) -/

/-- Identifier of a master (R519). -/
def masterId : Master → Nat
  | .garnet => 0
  | .flint => 1
  | .app => 2
  | .link l => 3 + l
  | .beam n => 5 + n
  | .reg => 13
  | .spi => 14
  | .tap => 15
  | .qspi => 16

/-- The master is of world S: the TAP is at level 2 (R519). -/
def State.inS (s : State) (m : Master) : Bool :=
  match m with
  | .garnet => true
  | .flint => true
  | .tap => s.sec.tapLevel = 2
  | _ => false

/-- Pages that accept writes from Flint alone (R40). -/
def flintOnly (p : Nat) : Bool := p = 0x0B || p = 0x40 || p = 0x68

/-- A write by a master to a page is not refused (R40, R502, R587); off is the offset in the page. -/
def State.mayWrite (s : State) (m : Master) (p off : Nat) : Bool :=
  if flintOnly p then m = .flint
  else if p = 0x81 then m = .flint || m = .garnet
  else s.inS m || s.world p = 0 || (p = 0x03 && off = 0x40 && m = .app)

/-- A read by a master of a page is not refused (R41, R587). -/
def State.mayRead (s : State) (m : Master) (p : Nat) : Bool := s.inS m || s.world p = 0 || flintOnly p || p = 0x81

/-! ### Acknowledge, clear, inject (R460, R467) -/

/-- Sources that a word written to bitmap register k names. -/
def namedSources (k : Nat) (v : Word) : List Nat := ((List.range 32).filter (fun j => v.getLsbD j)).map (fun j => 32 * k + j) |>.filter (· < 75)

/-- A write of v to FLT_UNACKk (R460). -/
def State.unackWrite (s : State) (k : Nat) (v : Word) : State := (namedSources k v).foldl (fun s i => s.ackSource i) s

/-- A write of v to FLT_PENDk (R460). -/
def State.pendWrite (s : State) (k : Nat) (v : Word) : State := (namedSources k v).foldl (fun s i => s.clearSource i) s

/-- First condition of R467 that refuses an injection by a master; 0 for none. -/
def State.injectRej (s : State) (m : Master) (i : Nat) : Nat :=
  let f := s.g F.SAF_STAT_FSTATE
  if !srcInj i then 1
  else if f = 2 || f = 3 then 2
  else if !s.mayWrite m (srcCode i / 256) 0 then 3
  else if s.g F.FLT_INJ_STATE = 1 then 4
  else 0

/-- A write of v to FLT_INJ: arms, is refused, or cancels (R467). -/
def State.injectWrite (s : State) (m : Master) (v : Word) : State :=
  let i := wordField v 6 0
  if wordField v 8 8 = 1 then
    let rej := s.injectRej m i
    if rej = 0 then (((s.put F.FLT_INJ_INDEX i).put F.FLT_INJ_ARM 1).put F.FLT_INJ_STATE 1).put F.FLT_INJ_REJ 0
    else (s.put F.FLT_INJ_REJ rej).evt F.FLT_EVT_INJ_REJ
  else
    let s := (s.put F.FLT_INJ_INDEX i).put F.FLT_INJ_ARM 0
    if s.g F.FLT_INJ_STATE = 1 then s.put F.FLT_INJ_STATE 0 else s

/-! ### Writing records (R470 to R477) -/

/-- Address of the ring's slot of a SEQ (R473). -/
def ringAddr (seq : Nat) : Nat := 0x18000000 + 32 * (seq % 4096)

/-- Address of the mirror's slot of a SEQ (R476, R548). -/
def mirrorAddr (seq : Nat) : Nat := 0x60100000 + 32 * (seq % 32768)

/-- The 32 bytes of a record as memory holds them (R470). -/
def State.recBytes (s : State) (seq flags : Nat) (r : EvRec) : List Byte :=
  leBytes 4 seq ++ leBytes 6 s.ohMs ++ [b8 flags, b8 r.level] ++ leBytes 4 (s.g F.EVR_PCC_COUNT)
  ++ leBytes 2 (s.g F.EVR_WKC_COUNT) ++ leBytes 2 r.code ++ leBytes 2 r.count ++ r.data ++ leBytes 4 seq

/-- A record as an EVENT frame carries it: each field most significant byte first, DATA as stored (R470). -/
def eventBytes (b : List Byte) : List Byte :=
  (slice b 0 4).reverse ++ (slice b 4 6).reverse ++ slice b 10 2 ++ (slice b 12 4).reverse ++ (slice b 16 2).reverse
  ++ (slice b 18 2).reverse ++ (slice b 20 2).reverse ++ slice b 22 6 ++ (slice b 28 4).reverse

/-- The ring's slot held a record that the mirror has not (R476). -/
def State.overwritten (s : State) (seq : Nat) : State :=
  if s.evr.waiting.any (fun q => q % 4096 = seq % 4096) then
    let s := s.withEvr { s.evr with waiting := s.evr.waiting.filter (fun q => q % 4096 ≠ seq % 4096) }
    ((s.incSat F.EVR_CNT_UNMIRRORED).put F.FLT_ALARM_EVR_UNMIRRORED 1).evt F.EVR_EVT_UNMIRRORED
  else s

/-- A link's drop counter keeps rising: EVR_BC_DROP, at most once a second; a block reset of the link masks it (R124, R477). -/
def State.bcDrop (s : State) (l : Nat) : State :=
  let d := s.g (F.LNK_BC_DROP_DROP l)
  let due := match s.evr.bcAt.getD l none with | some t => decide (ms 1000 ≤ s.now - t) | none => true
  if s.evr.bcSeen.getD l 0 < d && due && !s.quiet (8 + l) then
    let s := s.withEvr { s.evr with bcSeen := s.evr.bcSeen.set l d, bcAt := s.evr.bcAt.set l (some s.now) }
    s.event 0x7182 (b8 l :: leBytes 4 d)
  else s

/-- The recorder writes: no reset, clocks up, and the time base restored after a cold boot or a DEEP exit (R479, R481). -/
def State.recorderRuns (s : State) : Bool :=
  s.rst.scope.isNone && !s.poweredStop && (s.rst.journalOpen || !(s.rst.cold || s.rst.deepExit))

/-- The record at the head of the queue is written: ring, mirror and links (R470 to R477, R482). -/
def State.writeRec (s : State) (r : EvRec) (rest : List EvRec) : State :=
  let seq := nextSeq (s.g F.EVR_HEAD_SEQ)
  let start := r.code = 0x7180
  let att := s.evr.attested && !start && !(r :: rest).any (fun q => q.code = 0x7181)
  let flags := r.flags ||| (2 * bit att) ||| (128 * bit s.evr.loss)
  let s := s.withEvr { s.evr with
    queue := rest, loss := false, gap := if start then some seq else s.evr.gap, attested := s.evr.attested && !start }
  let s := s.overwritten seq
  let b := s.recBytes seq flags r
  let s := (s.setBytes (ringAddr seq) b).put F.EVR_HEAD_SEQ seq
  let s := s.withEvr { s.evr with waiting := s.evr.waiting ++ [seq] }
  (List.range 2).foldl (fun s l =>
    let s := if decide (s.g F.EVR_CTRL_BC_MIN ≤ r.eff) && s.active l && s.on (F.LNK_CTRL_EVT_EN l) then s.queueEvent l (eventBytes b) else s
    s.bcDrop l) s

/-- RECORD_WRITE: the recorder writes the oldest queued record (R472, R473, R475). -/
def execRecordWrite (s : State) : Host.Outcome State Fault Refusal :=
  let s := s.begin
  .next (match s.evr.queue with
    | r :: rest => if s.recorderRuns then s.writeRec r rest else s
    | [] => s)

/-- TRACKER_CLOSE: the tracker that opened first has lasted COAL_MS (R474). -/
def execTrackerClose (s : State) : Host.Outcome State Fault Refusal :=
  let s := s.begin
  .next (match s.evr.trackers with
    | t :: _ => s.closeTracker t
    | [] => s)

/-! ### The flash mirror and the checkpoints (R476, R479) -/

/-- A record is copied to its mirror slot; the sector of 128 records is erased ahead of its first (R476). -/
def State.mirrorRec (s : State) (seq : Nat) : State :=
  let s := if seq % 128 = 0 then s.setBytes (mirrorAddr seq) (List.replicate 4096 0xFF) else s
  (s.setBytes (mirrorAddr seq) (s.bytes (ringAddr seq) 32)).put F.EVR_MIRROR_SEQ seq

/-- Up to n waiting records are copied to the mirror. -/
def State.mirrorPage (s : State) (n : Nat) : State :=
  let page := s.evr.waiting.take n
  let s := s.withEvr { s.evr with waiting := s.evr.waiting.drop n }
  page.foldl (fun s q => s.mirrorRec q) s

/-- MIRROR_PAGE_WRITE: a page of 8 records, or those waiting for 1 s, is written; ok says that the flash took it (R476, R499). -/
def execMirrorPageWrite (ok : Bool) (s : State) : Host.Outcome State Fault Refusal :=
  let s := s.begin
  .next (if s.on F.EVR_CTRL_MIRROR_EN && !s.evr.waiting.isEmpty && s.recorderRuns then
    if !s.on F.THM_STAT_FLASH_OK then s.defer .mirror
    else if ok then s.mirrorPage 8
    else ((s.evt F.EVR_EVT_MIRROR_FAIL).put F.FLT_ALARM_MIRROR_FAIL 1).raise S.EVR_MIRROR_FAIL 0
  else s)

/-- CHECKPOINT: the time base goes to retention RAM every 1,000 ms (R479). -/
def execCheckpoint (s : State) : Host.Outcome State Fault Refusal :=
  let s := s.begin
  .next (if s.recorderRuns then s.checkpointRet else s)

/-- CHECKPOINT_FLASH: the time base goes to flash every 600 s (R479, R499). -/
def execCheckpointFlash (s : State) : Host.Outcome State Fault Refusal :=
  let s := s.begin
  .next (if s.recorderRuns then s.checkpointFlash else s)

/-! ### Attestation and reading (R478, R482) -/

/-- Time a commit of EVR attests, in ms. -/
def State.attestMs (t : State) : Nat := t.g F.EVR_ATT_LO_MS_LO + 2 ^ 32 * t.g F.EVR_ATT_HI_MS_HI

/-- The commit t names the current gap (R482). -/
def State.attestOk (s t : State) : Bool :=
  match s.evr.gap with
  | some q => t.g F.EVR_ATT_HI_GAP = q % 65536
  | none => false

/-- An accepted attestation, once for a gap (R482). -/
def State.attest (s : State) : State :=
  if s.evr.attested then s
  else
    let sum := (s.g F.EVR_ATT_SUM_LO_SUM + 2 ^ 32 * s.g F.EVR_ATT_SUM_HI_SUM + s.attestMs) % 2 ^ 48
    let s := (s.put F.EVR_ATT_SUM_LO_SUM sum).put F.EVR_ATT_SUM_HI_SUM (sum / 2 ^ 32)
    let s := (s.event 0x7181 (leBytes 6 s.attestMs)).evt F.EVR_EVT_ATTEST
    s.withEvr { s.evr with attested := true }

/-- A write of v to EVR_RD_SEQ copies a record into the read window (R472, R478). -/
def State.recordRead (s : State) (v : Word) : State :=
  let q := v.toNat
  let s := s.put F.EVR_RD_SEQ_SEQ q
  let a := ringAddr q
  let b := s.le a 4
  if b = q && q ≠ 0 && s.le (a + 28) 4 = q then
    (List.range 8).foldl (fun s k => s.put (F.EVR_RD_WORD k) (s.le (a + 4 * k) 4)) (s.put F.EVR_RD_STAT_RESULT 1)
  else s.put F.EVR_RD_STAT_RESULT (if q < b || b = 0 then 2 else 3)

end Sys2Proof.Machine
end

