-- ==== Sys2Proof/Machine/Thermal.lean ====
section
/-! DEFINITION. Housekeeping: the round of conversions, die temperatures and thresholds, the feed classes, and the temperature windows with
the flash writes that wait for them (15_thermal_and_power_states). -/

namespace Sys2Proof.Machine

/-! ### Records in flash that Garnet writes (R138, R139, R549, R562, R563) -/

/-- Where copy i of the link epoch lies (R548): write count, epoch and CRC-32 of both (DESIGN CHOICE for the layout, log 22). -/
def epochCopy (i : Nat) : Nat := 0x60012000 + 0x1000 * i

/-- Write count and epoch of copy i, when it is valid (R549). -/
def State.epochAt (s : State) (i : Nat) : Option (Nat × Nat) :=
  let b := s.bytes (epochCopy i) 8
  if s.le (epochCopy i + 8) 4 = crc32 b then some (ofLe (slice b 0 4), ofLe (slice b 4 4)) else none

/-- The valid copy with the higher write count; 0 and 0 when none is stored (R138, R549). -/
def State.epochStored (s : State) : Nat × Nat :=
  match s.epochAt 0, s.epochAt 1 with
  | some a, some b => if a.1 < b.1 then b else a
  | some a, none => a
  | none, some b => b
  | none, none => (0, 0)

/-- The copy that the next write takes: the older, or one that is not valid. -/
def State.epochOlder (s : State) : Nat :=
  match s.epochAt 0, s.epochAt 1 with
  | some a, some b => if a.1 ≤ b.1 then 0 else 1
  | some _, none => 1
  | _, _ => 0

/-- The epoch is written to flash and SAVED set, or the write waits for the window (R139, R499). -/
def State.saveEpoch (s : State) : State :=
  if s.on F.THM_STAT_FLASH_OK then
    let b := leBytes 4 (s.epochStored.1 + 1) ++ leBytes 4 (s.g F.RST_EPOCH_EPOCH)
    (s.setBytes (epochCopy s.epochOlder) (b ++ leBytes 4 (crc32 b))).put F.RST_EPOCH_STAT_SAVED 1
  else s.defer .epoch

/-- COUNT of settings copy i; 0 when there is none. -/
def State.setCount (s : State) (i : Nat) : Nat := match s.upd.settings.getD i none with | some r => r.count | none => 0

/-- Garnet writes a settings record in a format, with PRF_SEL in byte 6, to the older copy, or the write waits for the window (R499, R549, R562, R568). -/
def State.saveSettings (s : State) (fmt : Nat) : State :=
  if s.on F.THM_STAT_FLASH_OK then
    let i := if s.setCount 1 < s.setCount 0 then 1 else 0
    let r : SetRec := ⟨fmt, s.g F.PRF_SEL_PROF + 128 * s.g F.PRF_SEL_VALID, max (s.setCount 0) (s.setCount 1) + 1, s.sec.vault.getD 0 0⟩
    s.withUpd { s.upd with settings := s.upd.settings.set i (some r) }
  else s.defer .settings

/-! ### Deferred writes (R498, R499) -/

/-- A deferred write is retried. -/
def State.retry (s : State) (d : Deferred) : State :=
  match d with
  | .epoch => s.saveEpoch
  | .journal => s.journalFlash
  | .mirror => s.mirrorPage s.evr.waiting.length
  | .checkpoint => s.checkpointFlash
  | .flux => s.writeFluxRecord
  | .update => s
  | .settings => s.saveSettings (s.g F.UPD_SET_FMT)

/-- The order of R499. -/
def deferOrder : List Deferred := [.epoch, .journal, .mirror, .checkpoint, .flux, .update, .settings]

/-- Every deferred write is retried, in the order of R499. -/
def State.retryAll (s : State) : State :=
  let t : State := s.withThm { s.thm with deferred := [] }
  (deferOrder.filter (fun d => s.thm.deferred.contains d)).foldl (fun s d => s.retry d) t

/-- A temperature window: open while both temperatures lie within lo to hi; it opens again within 2 K of either (R498, R500), also for the first time (DEDUCED). -/
def inWindow (was : Bool) (cold hot lo hi : Int) : Bool :=
  if was then decide (16 * lo ≤ cold) && decide (hot ≤ 16 * hi) else decide (16 * (lo + 2) ≤ cold) && decide (hot ≤ 16 * (hi - 2))

/-- The flash window is evaluated; its opening retries what waits (FLASH_WINDOW_CHANGE, R498, R499). -/
def State.flashWindow (s : State) (cold hot : Int) : State :=
  let was := s.on F.THM_STAT_FLASH_OK
  let now := inWindow was cold hot (-20) 105
  let s := s.put F.THM_STAT_FLASH_OK (bit now)
  if was && !now then s.evt F.THM_EVT_FLASH_DEFER
  else if !was && now then s.retryAll
  else s

/-! ### Fuse work that waits for its window (R500, R543, R544, R559) -/

/-- Programming of bits of a row starts; lc says that a lifecycle request asked for it. -/
def State.fuseStart (s : State) (row : Nat) (bits : List Nat) (lc : Bool) : State :=
  let s := (s.put F.FUS_STAT_BUSY 1).put F.FUS_PROG_STAT_RESULT 1
  s.withFus { s.fus with job := some (row, bits, lc) }

/-- The next bit that a confirmed bundle asks for: the rollback counter first, then the revocations of MAIN and GRANITE keys (R559). -/
def State.fuseNext (s : State) (roll revoke : Nat) : Option (Nat × Nat) :=
  if countOnes 64 (s.fuse 20) < roll then ((List.range 64).find? (fun b => !tbit (s.fuse 20) b)).map (fun b => (20, b))
  else ((List.range 8).find? (fun b => tbit revoke b && !tbit (s.fuse 18) b)).map (fun b => (18, b))

/-- A row that Garnet may program in the lifecycle state: ROLLBACK in PROD, REVOKE in TEST and PROD (R542). -/
def State.fuseAllowed (s : State) (row : Nat) : Bool := s.g F.SEC_LC_STATE = 2 || (row = 18 && s.g F.SEC_LC_STATE = 1)

/-- Garnet goes on with the fuses of a confirmed bundle while the window is open (ROLLBACK_FUSE, R559). -/
def State.fuseWork (s : State) : State :=
  match s.upd.fusePend with
  | none => s.put F.UPD_STAT_FUSE_PEND 0
  | some (roll, revoke) =>
    match s.fuseNext roll revoke with
    | none => (s.put F.UPD_STAT_FUSE_PEND 0).withUpd { s.upd with fusePend := none }
    | some (row, b) =>
      let s := s.put F.UPD_STAT_FUSE_PEND 1
      if s.on F.THM_STAT_FUSE_OK && s.fus.job.isNone && s.fuseAllowed row then s.fuseStart row [b] false else s

/-! ### Die temperatures (R488) -/

/-- Trim point k of sensor n: 0 TA, 1 CA, 2 TB, 3 CB (R488, R542). -/
def State.thsTrim (s : State) (n k : Nat) : Int :=
  let row := s.fuse 5 / 2 ^ (56 * n)
  if k = 0 then signed 16 row
  else if k = 1 then (row / 2 ^ 16 % 4096 : Nat)
  else if k = 2 then signed 16 (row / 2 ^ 28)
  else (row / 2 ^ 44 % 4096 : Nat)

/-- Temperature of sensor n for a code, in S11.4. Where both trim points have one code the formula has no value: a free one (R488, log 7). -/
def State.sensorTemp (s : State) (n code : Nat) : Int × State :=
  let d := s.thsTrim n 3 - s.thsTrim n 1
  if d = 0 then
    let (w, s) := s.free
    (signed 16 w, s)
  else (s.thsTrim n 0 + Int.fdiv (((code : Int) - s.thsTrim n 1) * (s.thsTrim n 2 - s.thsTrim n 0)) d, s)

/-- A reading is valid (R488). -/
def readingOk (code : Nat) (t : Int) : Bool :=
  decide (1 ≤ code) && decide (code ≤ 4094) && decide (-55 * 16 ≤ t) && decide (t ≤ 175 * 16)

/-- Sensor n's reading of the round. -/
def State.readSensor (s : State) (codes : List Nat) (n : Nat) : State :=
  let code := codes.getD n 0
  let (t, s) := s.sensorTemp n code
  ((s.put (F.THM_DIE_TEMP n) (unsigned 16 t)).put (F.THM_DIE_CODE n) code).put (F.THM_DIE_VALID n) (bit (readingOk code t))

/-- Temperature that sensor n shows. -/
def State.dieT (s : State) (n : Nat) : Int := signed 16 (s.g (F.THM_DIE_TEMP n))

/-- Sensors whose readings are valid. -/
def State.goodSensors (s : State) : List Nat := (List.range 4).filter (fun n => s.on (F.THM_DIE_VALID n))

/-- Die temperature and coldest die temperature of the round, and the sensor that gives the first. Without a valid reading all three are
free values; among equal readings the sensor is one (R488, log 7). -/
def State.dieTemps (s : State) : Int × Int × Nat × State :=
  let good := s.goodSensors
  let (w, s) := s.free
  match good with
  | [] =>
    let (a, s) := s.free
    let (b, s) := s.free
    (signed 16 a, signed 16 b, w % 4, s)
  | n :: _ =>
    let hot := good.foldl (fun m k => max m (s.dieT k)) (s.dieT n)
    let cold := good.foldl (fun m k => min m (s.dieT k)) (s.dieT n)
    let at_ := good.filter (fun k => s.dieT k = hot)
    (hot, cold, at_.getD (w % at_.length) n, s)

/-! ### Thresholds (R491 to R496) -/

/-- The orderly stop; byRate says that the rate condition caused it (ORDERLY_STOP, R494, R496). -/
def State.orderlyStop (s : State) (hot : Nat) (byRate : Bool) : State :=
  let s := s.raiseTrig S.THM_STOP hot 13 hot true
  let s := ((s.put (F.UNIT_CTRL_ENABLE 0x18) 0).put (F.UNIT_CTRL_ENABLE 0x30) 0).put (F.UNIT_CTRL_ENABLE 0x50) 0
  let s := s.endFrames.lanesOff
  let s := (if byRate then s.evt F.THM_EVT_RISE_STOP else s.evt F.THM_EVT_STOP).incSat F.THM_PEAK_STOPS
  (s.checkpointRet.checkpointFlash).settle

/-- The rate condition, in 1/16 K: the temperature now, that of N rounds earlier (R493). -/
def State.rateHolds (s : State) (die : Int) : Bool :=
  let n := 1000 / s.g F.THM_CTRL_ROUND_MS
  match s.thm.hist.drop (n - 1) with
  | old :: _ => s.g F.THM_LIM_RISE ≠ 0 && decide ((s.g F.THM_LIM_RISE * n * s.g F.THM_CTRL_ROUND_MS : Nat) < (die - old) * 1000)
  | [] => false

/-- The rate is reported when it was evaluated (R493). -/
def State.reportRise (s : State) (die : Int) : State :=
  let n := 1000 / s.g F.THM_CTRL_ROUND_MS
  match s.thm.hist.drop (n - 1) with
  | old :: _ => (s.put F.THM_RISE_DELTA (unsigned 16 (die - old))).put F.THM_RISE_WINDOW n
  | [] => s

/-- The WARN condition (R491, R492). -/
def State.warnStep (s : State) (die : Int) (rate : Bool) : State :=
  let lim : Int := 16 * s.g F.THM_LIM_WARN_C
  if s.thm.warn then
    if die < lim - 16 * s.g F.THM_LIM_WARN_HYST && !rate then (s.withThm { s.thm with warn := false }).condEndAll S.THM_WARN else s
  else if decide (lim ≤ die) || rate then
    let s : State := s.withThm { s.thm with warn := true }
    let s := if lim ≤ die then s.evt F.THM_EVT_WARN else s.evt F.THM_EVT_RISE_WARN
    s.raise S.THM_WARN 0
  else s

/-- The STOP condition (R491, R492, R494). -/
def State.stopStep (s : State) (die : Int) (rate : Bool) (hot : Nat) : State :=
  let lim : Int := 16 * s.g F.THM_LIM_STOP_C
  if s.thm.stop then
    if die < lim - 16 * s.g F.THM_LIM_STOP_HYST && !rate then
      ((s.withThm { s.thm with stop := false }).condEndAll S.THM_STOP).evt F.THM_EVT_STOP_CLR
    else s
  else if decide (lim ≤ die) || (rate && decide ((16 * s.g F.THM_LIM_WARN_C : Nat) ≤ die)) then
    (s.withThm { s.thm with stop := true }).orderlyStop hot (decide (die < lim))
  else s

/-- The level in force (R491). -/
def State.thmLevel (s : State) : State := s.put F.THM_STAT_LEVEL (if s.thm.stop then 2 else if s.thm.warn then 1 else 0)

/-- The highest die temperature since the last cold reset. -/
def State.peak (s : State) (die : Int) : State :=
  let v := if s.thm.peaked then max die (signed 16 (s.g F.THM_PEAK_PEAK)) else die
  (s.put F.THM_PEAK_PEAK (unsigned 16 v)).withThm { s.thm with peaked := true }

/-! ### Feeds (R73, R170, R171) -/

/-- Upper boundary of feed class c in volts, for c from 1 to 3. -/
def feedBound (c : Nat) : Nat := if c = 1 then 1 else if c = 2 then 8 else 18

/-- Feed voltage of a code in units of 10 nV (R73). -/
def feedV (code : Nat) : Nat := code * 703125

/-- One volt in that unit. -/
def volt : Nat := 100000000

/-- Class of a voltage by itself (R170). -/
def feedPlain (v : Nat) : Nat := if v < volt then 1 else if v < 8 * volt then 2 else if v ≤ 18 * volt then 3 else 4

/-- Class after a reading: each boundary has to be crossed by 0.2 V (R170). -/
def feedNext (was v : Nat) : Nat :=
  if was = 0 then feedPlain v
  else
    let up := (List.range 3).foldl (fun c _ => if c < 4 && decide (feedBound c * volt + volt / 5 ≤ v) then c + 1 else c) was
    (List.range 3).foldl (fun c _ => if 1 < c && decide (v + volt / 5 ≤ feedBound (c - 1) * volt) then c - 1 else c) up

/-- The feed class of link l changes (FEED_CLASS_CHANGE, R171). -/
def State.feedTo (s : State) (l c : Nat) : State :=
  if s.g (F.LNK_STAT_FEED l) = c then s
  else ((s.put (F.LNK_STAT_FEED l) c).evt (F.LNK_EVT_FEED_CHG l)).event 0x0880 [b8 l, b8 c]

/-- The feed reading of link l (R170). -/
def State.feedRead (s : State) (l code : Nat) : State :=
  if s.on (F.LNK_CTRL_PWR_SENSE l) then
    (s.put (F.LNK_FEED_CODE l) code).feedTo l (feedNext (s.g (F.LNK_STAT_FEED l)) (feedV code))
  else s

/-! ### The round (R486, R489, R490) -/

/-- Housekeeping runs: RUN, IDLE or SLEEP, no reset, and the root in LOCKED, HOLDOVER, SWITCH or SLEW (R486). -/
def State.roundRuns (s : State) : Bool :=
  s.rst.scope.isNone && !s.poweredStop && s.rootUp && s.on F.CLK_STAT_ROOT_OK && !s.blockRunning 0x04

/-- HOUSEKEEPING_ROUND_START (R486). -/
def execHousekeepingRoundStart (s : State) : Host.Outcome State Fault Refusal :=
  let s := s.begin
  .next (if s.roundRuns && s.thm.round.isNone then (s.withThm { s.thm with round := some s.now }) else s)

/-- A round is discarded (R489). -/
def State.discardRound (s : State) : State :=
  let s : State := s.withThm { s.thm with round := none, hist := [] }
  ((s.put F.THM_STAT_ROUND_OK 0).evt F.THM_EVT_ADC).detect [0x04] S.THM_ADC 0 0 false

/-- The flux loop's samples of a round (R347, R487). -/
def State.fluxRound (s : State) (codes : List Nat) : State :=
  if s.blockRunning 0x49 then s else (List.range 8).foldl (fun s t => s.fluxSample t (codes.getD (12 + t) 0)) s

/-- The die-temperature trigger of the trims (R356). -/
def State.trimRound (s : State) (die : Int) : State :=
  if s.on F.CAL_CTRL_TRIM_AUTO && decide (16 * s.g F.CAL_CTRL_TRIM_DT < (die - signed 16 (s.g F.CAL_TRIM_T_TRIM)).natAbs) then
    if s.on F.CAL_STAT_TRIM_BUSY then (s.withCal { s.cal with trimAgain := true }) else s.put F.CAL_STAT_TRIM_BUSY 1
  else s

/-- A kept round: sensors, thresholds, rate and windows (R488, R492, R493, R498, R500). -/
def State.thermalRound (s : State) (codes : List Nat) : State :=
  let s := (List.range 4).foldl (fun s n => s.readSensor codes n) s
  let good := s.goodSensors
  let s := s.put F.THM_STAT_VALID (good.foldl (fun v n => v + 2 ^ n) 0)
  let s := if good.length < 2 then (s.evt F.THM_EVT_SENS_INV).detect [0x04] S.THM_ADC 0 0 false else s
  let (die, cold, hot, s) := s.dieTemps
  let s := ((s.put F.THM_HOT_MAX (unsigned 16 die)).put F.THM_HOT_MIN (unsigned 16 cold)).put F.THM_STAT_HOT hot
  let rate := s.rateHolds die
  let s := ((s.peak die).reportRise die).put F.THM_STAT_RISE_ACT (bit rate)
  let s : State := s.withThm { s.thm with hist := (die :: s.thm.hist).take 1001 }
  let s := s.flashWindow cold die
  let s := (s.put F.THM_STAT_FUSE_OK (bit (inWindow (s.on F.THM_STAT_FUSE_OK) cold die (-20) 85))).fuseWork
  (((s.warnStep die rate).stopStep die rate hot).thmLevel).trimRound die

/-- The round's other channels: feeds, flux loop and class factors (R170, R347, R355, R487). -/
def State.otherChannels (s : State) (codes : List Nat) : State :=
  let s := (s.feedRead 0 (codes.getD 9 0)).feedRead 1 (codes.getD 10 0)
  (s.fluxRound codes).classFactors

/-- HOUSEKEEPING_ROUND_END: codes of the 20 channels, or of channels 0 to 4 in the first round (R486 to R500). -/
def execHousekeepingRoundEnd (codes : List Nat) (s : State) : Host.Outcome State Fault Refusal :=
  let s := s.begin
  .next (match s.thm.round with
    | none => s
    | some t =>
      let first := s.thm.firstDue
      let codes := codes.map (fun c => c % 4096)
      let s := s.inc F.THM_ROUNDS_COUNT
      if decide (ms (2 * s.g F.THM_CTRL_ROUND_MS) < s.now - t) || decide (codes.getD 4 0 < 1966) || decide (2130 < codes.getD 4 0) then s.discardRound
      else
        let s : State := s.withThm { s.thm with round := none, firstDue := false }
        let s := (List.range (if first then 5 else 20)).foldl (fun s i => s.put (F.THM_CH_CODE i) (codes.getD i 0)) s
        let s := (s.put F.THM_STAT_ROUND_OK 1).thermalRound codes
        if first then s else s.otherChannels codes)

/-- ROUND_TIMEOUT: a round has not ended 2 × ROUND_MS after its start (R489). -/
def execRoundTimeout (s : State) : Host.Outcome State Fault Refusal :=
  let s := s.begin
  .next (if s.thm.round.isSome then s.discardRound else s)

end Sys2Proof.Machine
end

