-- ==== Sys2Proof/Machine/Power.lean ====
section
/-! DEFINITION. Power states: requests, preparation, entry, acknowledgement, wake and exit, light sleep, the regulator bus and the pads
(15_thermal_and_power_states). -/

namespace Sys2Proof.Machine

/-! ### Interrupts (R585) -/

/-- Causes of page p that are pending and enabled, CHILD apart. -/
def State.ownIrq (s : State) (p : Nat) : Bool := (s.word (p * 4096 + 0x14) &&& s.word (p * 4096 + 0x18)).toNat % 8 ≠ 0

/-- Children of a group page but SYS (R575). -/
def childPages (p : Nat) : List Nat :=
  match p with
  | 0x18 => List.range' 0x19 16
  | 0x30 => List.range' 0x31 8
  | 0x50 => List.range' 0x51 8
  | 0x88 => List.range' 0x89 4
  | _ => []

/-- UNIT_IRQ_STAT.CHILD of a page other than SYS: an enabled child asserts (R19). -/
def State.childIrq (s : State) (p : Nat) : Bool := (childPages p).any (fun c => s.on (F.UNIT_CTRL_ENABLE c) && s.ownIrq c)

/-- A page other than SYS asserts its interrupt (R585). -/
def State.irq (s : State) (p : Nat) : Bool := s.ownIrq p || (tbit (s.g (F.UNIT_IRQ_EN_EN p)) 3 && s.childIrq p)

/-- An enabled child of SYS asserts, and passes a test. -/
def State.sysIrq (s : State) (f : Nat → Bool) : Bool := sysChildren.any (fun c => f c && s.on (F.UNIT_CTRL_ENABLE c) && s.irq c)

/-- The interrupt of the application core: SYS asserts by a cause of its own or by a child of world N (R19, R585). -/
def State.appIrq (s : State) : Bool := s.ownIrq 0 || (tbit (s.g (F.UNIT_IRQ_EN_EN 0)) 3 && s.sysIrq (fun c => !flintOnly c && s.world c = 0))

/-! ### Requests (R502 to R504) -/

/-- An entry or exit is in progress. -/
def State.pwrBusy (s : State) : Bool :=
  s.pwr.st = .prep || s.pwr.st = .ackEntry || s.pwr.st = .ackExit || s.pwr.st = .resume

/-- First code of R502 that refuses a request for a STATE with a KEY; 0 for none. KEY is asked of STATE 2 to 4 alone (DEDUCED). -/
def State.pwrRefuse (s : State) (st key : Nat) : Nat :=
  if s.on F.PWR_STAT_WAKE_PENDING then 1
  else if s.g F.SAF_STAT_FSTATE = 3 then 2
  else if st = 3 && s.cmd.rings.any (fun r => !r.isEmpty) then 3
  else if s.pwrBusy then 4
  else if decide (2 ≤ st) && decide (st ≤ 4) && key ≠ 0x5A then 5
  else if st = 0 || decide (5 ≤ st) then 6
  else 0

/-- A request is refused with a code. -/
def State.refuse (s : State) (code : Nat) : State :=
  let s := (s.put F.PWR_STAT_REFUSE code).evt F.PWR_EVT_REFUSED
  if code = 3 then s.evt F.CMD_EVT_DEEP_REF else s

/-- The power unit moves to a state. -/
def State.pwrTo (s : State) (p : PwrState) : State := s.withPwr { s.pwr with st := p, since := s.now }

/-- IDLE: the application core stops unless an interrupt is pending; no other master's write counts (R504). -/
def State.pwrIdle (s : State) (m : Master) : State :=
  if m = .app && s.pwr.st = .run && !s.appIrq then s.pwrTo .idle else s

/-- A write of v to PWR_REQ by a master that may write it (R502, R504). -/
def State.pwrReq (s : State) (m : Master) (v : Word) : State :=
  let st := wordField v 2 0
  if st = 1 then s.pwrIdle m
  else
    let code := s.pwrRefuse st (wordField v 15 8)
    if code = 0 then ((s.pwrTo .prep).withPwr { (s.pwrTo .prep).pwr with target := st }) else s.refuse code

/-- IDLE_WAKE: an enabled interrupt restarts the application core (R504). -/
def execIdleWake (s : State) : Host.Outcome State Fault Refusal :=
  let s := s.begin
  .next (if s.pwr.st = .idle then s.pwrTo .run else s)

/-- PREP_TIMEOUT: Flint has not confirmed within 1 ms (R502). -/
def execPrepTimeout (s : State) : Host.Outcome State Fault Refusal :=
  let s := s.begin
  .next (if s.pwr.st = .prep then (s.pwrTo .run).refuse 7 else s)

/-! ### SLEEP (R156, R185, R505) -/

/-- The Flint watchdog is suspended until Flint's first kick after the return (R442, R505). -/
def State.wdtSuspend (s : State) : State := (s.put F.SAF_WDT_ARMED 0).withSaf { s.saf with lastKick := none }

/-- Flint's preparation: REQ and ON are withdrawn, and SEG sends ALL_OFF (R505). -/
def State.flintPrepare (s : State) : State :=
  let s := ((s.put F.SAF_FIELD_REQ 0).put F.GOV_MODE_RELEASE 0).soutCtrl 0
  if s.segRuns then s.segAllOff else s

/-- SLEEP is entered: ACTIVE links listen, SIDE goes off, frames and lanes stop (R156, R185, R501, R505). -/
def State.sleepEnter (s : State) : State :=
  let s := (List.range 2).foldl (fun s l => if s.active l then s.linkTo l 6 else s) s
  let s := (s.put F.SIDE_STAT_STATE 0).loseRx
  (((s.endFrames.lanesOff).wdtSuspend).pwrTo .sleep).settle

/-- CSF counts its timeout from the moment of return (R505). -/
def State.csfRestart (s : State) : State :=
  if s.csf.stateAt.isSome then (s.withCsf { s.csf with stateAt := some s.now }) else s

/-- SLEEP is left for RUN through a source of R506 (SLEEP_EXIT, R156, R505). -/
def State.sleepExit (s : State) (src : Nat) : State :=
  let s := (s.pwrTo .run).put F.PWR_STAT_WAKE_SRC src
  let s := (List.range 2).foldl (fun s l => if s.lst l = 6 then (s.linkTo l 5).queueStatus l else s) s
  let s := if s.on (F.UNIT_CTRL_ENABLE 0x0A) then s.put F.SIDE_STAT_STATE 1 else s
  ((s.csfRestart.timerTry.lanesWake).flintResume).settle

/-! ### Entering DEEP and OFF (R507, R508, R510, R513) -/

/-- The queued records are written out ahead of the checkpoints (R475, R507; DEDUCED). -/
def State.drainQueue : Nat → State → State
  | 0, s => s
  | n + 1, s => match s.evr.queue with
    | [] => s
    | r :: rest => State.drainQueue n (s.writeRec r rest)

/-- Step 1 of R507: records, checkpoints, flux record, mirror; what the window defers is skipped. -/
def State.entrySaves (s : State) : State :=
  let s := (State.drainQueue 64 s).checkpointRet
  if s.on F.THM_STAT_FLASH_OK then
    let s := s.checkpointFlash.writeFluxRecord
    if s.on F.EVR_CTRL_MIRROR_EN then s.mirrorPage s.evr.waiting.length else s
  else s

/-- Bits that DEEP entry saves: RWS and cold fields of units on VDD_CORE, which is every page but SAF (R501, R508). -/
def deepMask (a : Nat) : Word := if a / 4096 = 0x68 then 0 else accMask .rws a ||| scopeMask [.cold] a

/-- Step 2 of R507: the sticky fields are saved (R508). -/
def State.saveSticky (s : State) : State :=
  s.withPwr { s.pwr with saved := (s.regs.filter (fun e => e.1 / 4096 ≠ 0x68)).map (fun e => (e.1, e.2 &&& deepMask e.1)) }

/-- Every link enters DEEP_LINK; SIDE with them (R156, R185). -/
def State.linksDeep (s : State) : State :=
  let s := (List.range 2).foldl (fun s l =>
    if decide (1 ≤ s.lst l) && decide (s.lst l ≤ 6) then
      ((s.linkTo l 7).put (F.LNK_STAT_SIG_DET l) 0).setLock l false
    else s) s
  if s.sst = 0 then s else s.sideTo 7

/-- Links leave DEEP_LINK for DETECT (R156). -/
def State.linksLeaveDeep (s : State) : State :=
  let s := (List.range 2).foldl (fun s l => if s.lst l = 7 then s.linkTo l 1 else s) s
  if s.sst = 7 then s.put F.SIDE_STAT_STATE 1 else s

/-- Steps 4 to 7 of R507: the root is gated, FIELD_OK released, the balls of R54 low, the pads latched and PMIC_STBY raised. -/
def State.entryOff (s : State) : State :=
  let s := (s.endFrames.lanesOff.rootGate 1).linksDeep
  let s := (s.put F.SAF_STAT_FSTATE 0).soutsOff
  let s : State := (s.withSaf { s.saf with tpo := none }).withSeg { s.seg with high := none }
  let s := (s.put F.PWR_STAT_PADS_LATCHED 1).wdtSuspend
  let s := s.pwrTo .ackEntry
  s.withPwr { s.pwr with stby := !s.pwr.wake }

/-- A regulator-bus transaction has failed after its retries (R513). -/
def State.pmbFail (s : State) : State := ((s.evt F.PWR_EVT_PMB_ERR).incSat F.PWR_PMB_STAT_ERR_CNT).raise S.PWR_ACK_TMO 0

/-- DEEP or OFF is entered; lyOk says that the PMIC acknowledged LY_STATE. Without it the entry ends before step 4 (R507, R510, R513, R514; DEDUCED). -/
def State.deepEnter (s : State) (lyOk : Bool) : State :=
  let s := s.entrySaves.saveSticky
  if lyOk then
    (s.entryOff).withPwr { s.entryOff.pwr with lyState := s.pwr.target - 2 }
  else ((s.pwrTo .run).evt F.PWR_EVT_ACK_TMO).pmbFail

/-- FLINT_PREP_CONFIRM: the preparation is done and the state is entered; a halted Flint confirms nothing (R505, R507). -/
def execFlintPrepConfirm (lyOk : Bool) (s : State) : Host.Outcome State Fault Refusal :=
  let s := s.begin
  .next (if s.pwr.st = .prep && !s.saf.halted then
    let s := s.flintPrepare
    if s.pwr.target = 2 then s.sleepEnter else s.deepEnter lyOk
  else s)

/-- PMIC_ACK: PMIC_PG falls t µs after PMIC_STBY rose (R507, R510, R514). -/
def execPmicAck (t : Nat) (s : State) : Host.Outcome State Fault Refusal :=
  let s := s.begin
  .next (if s.pwr.st = .ackEntry && s.pwr.stby then
    let s := s.put F.PWR_ACK_LAST_US (min 65535 t)
    let s : State := s.withRst { s.rst with pg := false }
    s.pwrTo (if s.pwr.target = 3 then .deep else .off)
  else s)

/-- ACK_TIMEOUT: an entry returns to RUN once the root is back; an exit goes on waiting (R511, R514). -/
def execAckTimeout (s : State) : Host.Outcome State Fault Refusal :=
  let s := s.begin
  .next (if s.pwr.st = .ackEntry then
    let s := (s.linksLeaveDeep.pwrTo .resume).evt F.PWR_EVT_ACK_TMO
    let s : State := s.withPwr { s.pwr with stby := false }
    let s := s.csfRestart
    if s.on F.PWR_STAT_WAKE_PENDING then s else s.raise S.PWR_ACK_TMO 0
  else if s.pwr.st = .ackExit then s.withPwr { s.pwr with ackLate := true }
  else s)

/-! ### Leaving DEEP (R119, R508, R509) -/

/-- A register as the restore leaves it. -/
def State.restoreWord (s : State) (e : Nat × Word) : State :=
  s.setWord e.1 ((resetWord e.1 &&& ~~~ (deepMask e.1)) ||| e.2)

/-- The core logic after its power-on reset, with the sticky fields restored; the safety domain, retention RAM and flash were powered (R501, R508, R509). -/
def State.afterDeep (s : State) : State :=
  let lvl := s.g F.RST_PIN_LEVEL
  let strap := s.g F.PRF_STAT_STRAP
  let crit := s.g F.THM_STAT_CRIT_CLR
  let t := { State.blank with
    regs := s.regs.filter (fun e => e.1 / 4096 = 0x68), shadow := s.shadow.filter (fun e => e.1 / 4096 = 0x68)
    mem := s.mem.filter (fun e => coldKeeps true e.1)
    now := s.now, fresh := s.fresh, pending := s.pending, readData := s.readData
    flt := { s.flt with fresh := [], held := s.flt.held.filter (fun e => srcCode e.1 / 256 = 0x68) }
    evr := { s.evr with queue := [], trackers := [], bcSeen := [0, 0], bcAt := [none, none] }
    saf := s.saf
    rst := { s.rst with
      pg := true, blocks := [], cold := false, deepExit := true, journalOpen := false, early := [], entry := 0, alt := false,
      wdtAt := none, released := s.now, lit := false }
    quartz := { Quartz.init with rc := s.quartz.rc, tries := s.quartz.tries, masked := true, frozen := true }
    flx := { Flx.init with record := s.flx.record, writtenAt := s.flx.writtenAt }
    gov := { Gov.init with slots := s.gov.slots, active := s.gov.active }
    thm := { Thm.init with peaked := s.thm.peaked }
    pwr := { s.pwr with banks := [], ackLate := false, saved := [] }
    sec := { Sec.init with trst := s.sec.trst, testMode := s.sec.testMode }
    fus := { s.fus with job := none }
    upd := { s.upd with verifying := none } }
  let t := s.pwr.saved.foldl (fun t e => t.restoreWord e) t
  let t := t.withShadow t.regs
  let t := ((t.senseFuses.tapReset).put F.RST_PIN_LEVEL lvl).put F.PRF_STAT_STRAP strap
  let t := (t.put F.THM_STAT_CRIT_CLR crit).put F.PWR_STAT_PADS_LATCHED 1
  -- soft repairs end with DEEP entry (R539)
  (List.range 16).foldl (fun t k => t.put (F.BST_MB_REP_ENTRY k) 0) (t.put F.BST_MB_STAT_SOFT_USED 0)

/-- What PWR reports of an exit: source, acknowledgement time, lateness, and a wake that still stands (R503, R509, R514, R518). -/
def State.exitReport (s : State) (src t : Nat) (late : Bool) : State :=
  let s := (s.put F.PWR_STAT_WAKE_SRC src).put F.PWR_ACK_LAST_US (min 65535 t)
  let s := (s.put F.PWR_STAT_ACK_LATE (bit late)).put F.PWR_STAT_WAKE_PENDING (bit (src ≠ 5))
  s.withPwr { s.pwr with ackLate := late }

/-- The boot of a DEEP exit begins with the root to be acquired (R509). -/
def State.deepBoot (s : State) : State :=
  let s := (s.put F.PWR_STAT_DEEP_EXIT 1).pwrTo .resume
  let s := (s.put (F.LNK_STAT_STATE 0) 1).put (F.LNK_STAT_STATE 1) 1
  let s := (s.put F.CLK_STAT_STATE 1).withQuartz { s.quartz with acq := s.g F.CLK_REF_CTRL_SEL }
  s.startStep 3

/-- The PIN_DEEP warm reset that takes the place of the exit (R119). -/
def State.pinDeepReset (s : State) : State :=
  let s := s.warmReset F.RST_CAUSE_PIN_DEEP true
  let high := s.on F.RST_PIN_LEVEL
  let s : State := s.withRst { s.rst with deepExit := true, pinHeld := !high, pinClears := high }
  let s := (s.put F.CLK_STAT_STATE 1).withQuartz { s.quartz with acq := s.g F.CLK_REF_CTRL_SEL }
  s.pwrTo .resume

/-- DEEP_EXIT: PMIC_PG rises t µs after PMIC_STBY fell (R119, R508, R509, R514). -/
def execDeepExit (st : Straps) (t : Nat) (s : State) : Host.Outcome State Fault Refusal :=
  let s := s.begin
  .next (if s.pwr.st = .ackExit then
    let s := s.setStraps st
    let late := s.pwr.ackLate
    let pin := s.pwr.pinDeep
    let src := if pin then 5 else s.pwr.src
    let s := s.afterDeep
    let s : State := s.withPwr { s.pwr with pinDeep := false }
    if pin then (s.pinDeepReset.exitReport 5 t late).tryRelease else (s.deepBoot.exitReport src t late)
  else s)

/-! ### Wake (R503, R506, R511) -/

/-- A recognised wake event: 1 WAKE ball, 2 and 3 LCTL, 4 timer (R503, R506, R507, R511). -/
def State.wakeEvent (s : State) (src : Nat) : State :=
  let s := if s.poweredStop && s.pwr.st ≠ .ackEntry then s else s.put F.PWR_STAT_WAKE_PENDING 1
  if s.pwr.st = .prep then (s.pwrTo .run).evt F.PWR_EVT_ABORTED
  else if s.pwr.st = .sleep then s.sleepExit src
  else if s.pwr.st = .ackEntry then s.withPwr { s.pwr with stby := false }
  else if s.pwr.st = .deep then
    let s := s.pwrTo .ackExit
    s.withPwr { s.pwr with stby := false, src := src }
  else if s.pwr.st = .off && src = 1 then s.withPwr { s.pwr with stby := false }
  else s

/-- WAKE_REQUEST: the WAKE ball has been high for 200 µs (R78, R506). -/
def execWakeRequest (s : State) : Host.Outcome State Fault Refusal :=
  let s := s.begin
  .next (((s.withPwr { s.pwr with wake := true }) : State).wakeEvent 1)

/-- WAKE_RELEASE: the WAKE ball goes low; in DEEP and OFF PMIC_STBY follows as its inverse (R55). -/
def execWakeRelease (s : State) : Host.Outcome State Fault Refusal :=
  let s := s.begin
  let s : State := s.withPwr { s.pwr with wake := false }
  .next (if s.pwr.st = .deep || s.pwr.st = .off then (s.withPwr { s.pwr with stby := true }) else s)

/-- WAKE_TIMER: PWR_WTMR.MS after entry into SLEEP or DEEP (R506). -/
def execWakeTimer (s : State) : Host.Outcome State Fault Refusal :=
  let s := s.begin
  .next (if s.on F.PWR_WAKE_EN_TIMER && s.g F.PWR_WTMR_MS ≠ 0 && (s.pwr.st = .sleep || s.pwr.st = .deep) then s.wakeEvent 4 else s)

/-- LCTL_WAKE: a frame on link l; a WAKE in LISTEN is a wake request, ignored in any other state (R152, R506). -/
def execLctlWake (l : Nat) (f : Wire) (s : State) : Host.Outcome State Fault Refusal :=
  let (ok, s) := s.begin.checkFrame l f
  let en := if l = 0 then s.on F.PWR_WAKE_EN_LINK_A else s.on F.PWR_WAKE_EN_LINK_B
  .next (if ok && f.ftype = 3 then
    if !lctlOk f.payload then s.evt (F.LNK_EVT_MALFORMED l)
    else if f.payload.getD 0 0 = 2 && s.lst l = 6 && en then s.wakeEvent (2 + l)
    else s
  else s)

/-! ### Slate light sleep (R261, R512) -/

/-- Latency tolerance that CMP states (R261); without a frame timer there is no latch point ahead (DEDUCED). -/
def State.ltrUs (s : State) : Nat :=
  let free := fun latch => min 65535 ((latch - s.ns - 100000) / 1000)
  if !s.on (F.UNIT_CTRL_ENABLE 0x18) || !s.tln.running then 65535
  else
    let latch := s.tln.nextFlip - 720000
    if s.tln.latched then
      if s.ns < latch + 698560 || !s.cmp.recomp.isEmpty then 0
      else free ((((s.tln.nextFlip + s.cmp.periodNext : Nat) : Int) + s.tln.adj).toNat - 720000)
    else free latch

/-- LIGHT_SLEEP_ENTRY: a bank below CMD_BASE has seen no access for 64 cycles (R512). -/
def execLightSleepEntry (bank : Nat) (s : State) : Host.Outcome State Fault Refusal :=
  let s := s.begin
  let min := s.g F.PWR_LS_MIN_US
  .next (if decide (0x20000000 + 0x40000 * (bank + 1) ≤ s.cmdBase) && decide (bank < 32) && min ≠ 0 && decide (min ≤ s.ltrUs)
      && !s.pwr.banks.contains bank then
    s.withPwr { s.pwr with banks := bank :: s.pwr.banks }
  else s)

/-- LIGHT_SLEEP_WAKE: an access to a sleeping bank is stalled and counted, or LTR_US has reached 0 (R512). -/
def execLightSleepWake (bank : Nat) (access : Bool) (s : State) : Host.Outcome State Fault Refusal :=
  let s := s.begin
  .next (if s.pwr.banks.contains bank && (access || s.ltrUs = 0) then
    let s : State := s.withPwr { s.pwr with banks := s.pwr.banks.filter (· ≠ bank) }
    if access then (s.incSat F.PWR_LS_CNT_STALLS).evt F.PWR_EVT_LS_STALL else s
  else s)

/-! ### The regulator bus and the pads (R513, R515, R516) -/

/-- STATUS_WORD is read; ok says that the transaction passed within its retries (R513). -/
def State.readStatusWord (s : State) (word : Nat) (ok : Bool) : State := if ok then s.put F.PWR_PMB_STAT_STATUS_WORD word else s.pmbFail

/-- The regulator bus runs: no reset, outside DEEP and OFF, and the root runs. -/
def State.pmbRuns (s : State) : Bool := s.rst.scope.isNone && !s.poweredStop && s.on F.CLK_STAT_ROOT_OK

/-- PMB_ALERT: PMB_ALERT_N is low (R515). -/
def execPmbAlert (word : Nat) (ok : Bool) (s : State) : Host.Outcome State Fault Refusal :=
  let s := s.begin
  .next (if s.pmbRuns then ((s.readStatusWord word ok).evt F.PWR_EVT_ALERT).raise S.PWR_ALERT 0 else s)

/-- PMB_STATUS_POLL: every 1 s in RUN (R513). -/
def execPmbStatusPoll (word : Nat) (ok : Bool) (s : State) : Host.Outcome State Fault Refusal :=
  let s := s.begin
  .next (if s.pmbRuns && s.pwr.st = .run then s.readStatusWord word ok else s)

/-- A write of v to PWR_PAD: 1 releases latched pads (R54, R516). -/
def State.padWrite (s : State) (v : Word) : State := if wordField v 0 0 = 1 then s.put F.PWR_STAT_PADS_LATCHED 0 else s

/-- A write of v to the W1C bit WAKE_PENDING: no effect while the WAKE ball is high (R503). -/
def State.wakeClear (s : State) (v : Word) : State :=
  if wordField v 3 3 = 1 && !s.pwr.wake then s.put F.PWR_STAT_WAKE_PENDING 0 else s

end Sys2Proof.Machine
end

