-- ==== Sys2Proof/Machine/Security.lean ====
section
/-! DEFINITION. Fuses, lifecycle, test access, the clear of secrets and the self-tests (16_security_and_self_test). -/

namespace Sys2Proof.Machine

/-! ### Who runs (R501, R530) -/

/-- VDD_CORE is off: DEEP, OFF, and the wait for PMIC_PG on the way out. -/
def State.coreOff (s : State) : Bool := s.pwr.st = .deep || s.pwr.st = .off || s.pwr.st = .ackExit

/-- Garnet runs: no reset, the root runs, the boot has reached FUSE_LOAD, and neither SLEEP nor DEBUG_HALT stops it (R128, R501, R530). -/
def State.garnetRuns (s : State) : Bool :=
  s.rst.scope.isNone && s.on F.CLK_STAT_ROOT_OK && decide (4 ≤ s.g F.RST_BOOT_STAT_STEP) && !s.flintStopped && !s.on F.SEC_TAP_DEBUG_HALT

/-- Lifecycle state in force: 0 RAW, 1 TEST, 2 PROD, 3 RMA, 4 DECOM (R526). -/
def State.lc (s : State) : Nat := s.g F.SEC_LC_STATE

/-! ### Fuses (R542 to R544) -/

/-- Bits of each fuse row. -/
def rowBits (row : Nat) : Nat :=
  match row with
  | 0 => 4 | 1 => 32 | 2 => 64 | 3 => 32 | 4 => 16 | 5 => 224 | 6 => 32 | 18 => 10 | 19 => 128 | 20 => 64
  | r => if r ≤ 28 then 256 else 0

/-- Lifecycle states in which a row is programmable. -/
def rowStates (row : Nat) : List Nat :=
  match row with
  | 0 => [0, 1, 2, 3]
  | 1 => [0] | 2 => [0] | 4 => [0] | 5 => [0] | 6 => [0]
  | 3 => [0, 1]
  | 18 => [1, 2]
  | 19 => [1, 2, 3]
  | 20 => [2]
  | r => if 21 ≤ r then [0, 1, 3] else [1]

/-- A master may request a row; the TAP counts only at level 2 in RAW or TEST (R542, R543). -/
def State.rowBy (s : State) (row : Nat) (m : Master) : Bool :=
  let tap := s.sec.tapLevel = 2 && decide (s.lc < 2)
  match m with
  | .garnet => !([1, 2, 4, 5, 6, 19].contains row)
  | .flint => row = 19
  | .tap => tap && ([1, 2, 3, 4, 5, 6].contains row || (decide (8 ≤ row) && decide (row ≤ 17)) || decide (21 ≤ row) || (row = 0 && s.lc = 0))
  | _ => false

/-- First case of R543 that refuses a request; 0 for none. A row that does not exist has no state and no requester. -/
def State.progRej (s : State) (m : Master) (row b : Nat) : Nat :=
  let there := decide (row ≤ 28)
  if there && !(rowStates row).contains s.lc then 1
  else if there && !s.rowBy row m then 2
  else if !s.on F.THM_STAT_FUSE_OK then 3
  else if s.fus.job.isSome then 4
  else if !there || decide (rowBits row ≤ b) then 5
  else 0

/-- A request is refused (R543); for the temperature THM reports it too (R500). -/
def State.progRefuse (s : State) (rej : Nat) : State :=
  let s := ((s.put F.FUS_PROG_STAT_RESULT 3).put F.FUS_PROG_STAT_REJ rej).evt F.FUS_EVT_PROG_REJ
  if rej = 3 then s.evt F.THM_EVT_FUSE_REF else s

/-- A request of a master for a bit (R543). -/
def State.progRequest (s : State) (m : Master) (row b : Nat) (lc : Bool) : State :=
  let rej := s.progRej m row b
  if rej ≠ 0 then s.progRefuse rej
  else if tbit (s.fuse row) b then s.put F.FUS_PROG_STAT_RESULT 5
  else s.fuseStart row [b] lc

/-- A write of v to FUS_PROG (R543, R547). -/
def State.fusProg (s : State) (m : Master) (v : Word) : State :=
  if wordField v 24 24 = 1 && wordField v 23 16 = 0x96 then s.progRequest m (wordField v 5 0) (wordField v 15 8) false else s

/-- LC pattern of a lifecycle state (R526). -/
def lcPattern (st : Nat) : Nat := 2 ^ st - 1

/-- FUSE_PROGRAM_DONE: the bit under way has been programmed and sensed; ok says that it reads as programmed (R527, R544, R559). -/
def execFuseProgramDone (ok : Bool) (s : State) : Host.Outcome State Fault Refusal :=
  let s := s.begin
  .next (match s.fus.job with
    | some (row, b :: rest, lc) =>
      if ok then
        let s := s.program row b
        if rest.isEmpty then
          let s : State := s.withFus { s.fus with job := none }
          let s := ((s.put F.FUS_STAT_BUSY 0).put F.FUS_PROG_STAT_RESULT 2).evt F.FUS_EVT_PROG_DONE
          let s := if lc then (s.evt F.SEC_EVT_LC_CHG).event 0x7881 [b8 s.lc, b8 (lifecycle (s.fuse 0))] else s
          s.fuseWork
        else s.withFus { s.fus with job := some (row, rest, lc) }
      else
        let s : State := s.withFus { s.fus with job := none }
        ((s.put F.FUS_STAT_BUSY 0).put F.FUS_PROG_STAT_RESULT 4).evt F.FUS_EVT_VERIFY_FAIL
    | _ => s)

/-! ### Lifecycle (R526, R527) -/

/-- A row holds a programmed and valid value. -/
def State.rowSet (s : State) (row : Nat) : Bool := s.fuse row ≠ 0 && !s.fus.parity.contains row

/-- A transition to a later state is requested; auth says that it comes through authentication at level 3 (R527). -/
def State.lcTransition (s : State) (m : Master) (target : Nat) (auth : Bool) : State :=
  let bad := s.on F.FUS_STAT_BUSY
    || (s.lc = 1 && target = 2 && !(s.rowSet 8 && s.rowSet 12 && s.rowSet 16 && s.rowSet 7))
    || (s.lc = 2 && target = 3 && !auth)
  if bad then s.evt F.SEC_EVT_LC_REJ
  else
    let bits := (List.range 4).filter (fun b => tbit (lcPattern target) b && !tbit (s.fuse 0) b)
    match bits with
    | [] => s
    | b :: _ =>
      let rej := s.progRej m 0 b
      if rej ≠ 0 then s.progRefuse rej else s.fuseStart 0 bits true

/-- A write of v to SEC_LC_REQ: Garnet, and the TAP at level 2 in RAW or TEST (R527). Without the key, or for a state not ahead, it requests nothing. -/
def State.lcReq (s : State) (m : Master) (v : Word) : State :=
  let target := wordField v 2 0
  let who := m = .garnet || (m = .tap && s.sec.tapLevel = 2 && decide (s.lc < 2))
  if who && wordField v 15 8 = 0x3C && decide (s.lc < target) && decide (target ≤ 4) then
    -- Garnet programs the fuses, whoever asked
    s.lcTransition .garnet target false
  else s

/-! ### The TAP (R528 to R531) -/

/-- A TAP instruction arrives: TRST_N is high, and an EXTEST or SCAN in force ends with another instruction. -/
def State.tapInstr (s : State) : State := s.withSec { s.sec with trst := false, extest := false, scan := false }

/-- The TAP works: VDD_CORE is up. -/
def State.tapUp (s : State) : Bool := !s.coreOff

/-- IDCODE (R528). -/
def execIdcode (s : State) : Host.Outcome State Fault Refusal :=
  let s := s.begin
  .next (if s.tapUp then
    (s.tapInstr).withReadData [BitVec.ofNat 32 (Config.silicon.toNat * 2 ^ 28 + 0x2048 * 2 ^ 12 + Config.manufacturer.toNat * 2 + 1)]
  else s)

/-- SAMPLE_PRELOAD: bits are shifted into the boundary register (R528). -/
def execSamplePreload (bits : List Bool) (s : State) : Host.Outcome State Fault Refusal :=
  let s := s.begin
  .next (if s.tapUp then
    let s := s.tapInstr
    if s.on F.SEC_TAP_OPEN then (s.withSec { s.sec with bscan := bits }) else s
  else s)

/-- EXTEST: the boundary register drives the balls, FIELD_OK and the safety outputs low (R528). -/
def execExtest (s : State) : Host.Outcome State Fault Refusal :=
  let s := s.begin
  .next (if s.tapUp then
    let s := s.tapInstr
    if s.on F.SEC_TAP_OPEN then (s.withSec { s.sec with extest := true }) else s
  else s)

/-- Word k of a fresh nonce is a free value (R529, log 7). -/
def State.nonceWord (s : State) (k : Nat) : State :=
  let (w, s) := s.free
  s.put (F.SEC_NONCE_NONCE k) w

/-- AUTH_NONCE: Garnet places a fresh nonce (R529). -/
def execAuthNonce (s : State) : Host.Outcome State Fault Refusal :=
  let s := s.begin
  .next (if s.tapUp && s.garnetRuns then
    let s := (List.range 8).foldl (fun s k => s.nonceWord k) s.tapInstr
    (s.withSec { s.sec with nonceAt := some s.now }).withReadData ((List.range 8).map (fun k => s.word (F.SEC_NONCE_NONCE k).addr))
  else s)

/-- NONCE_EXPIRY: 10 s after its capture (R529). -/
def execNonceExpiry (s : State) : Host.Outcome State Fault Refusal :=
  let s := s.begin
  .next (s.withSec { s.sec with nonceAt := none })

/-- A response fails (R531). -/
def State.authFail (s : State) : State :=
  let s := s.evt F.SEC_EVT_AUTH_FAIL
  let n := min 3 (s.g F.SEC_TAP_FAILS + 1)
  let s := s.put F.SEC_TAP_FAILS n
  if n = 3 then (s.put F.SEC_TAP_LOCKED 1).evt F.SEC_EVT_AUTH_LOCK else s

/-- Levels that a response may ask for in the lifecycle state (R529). -/
def State.levelOk (s : State) (level : Nat) : Bool :=
  (s.lc = 2 && decide (1 ≤ level) && decide (level ≤ 3)) || (s.lc = 3 && decide (1 ≤ level) && decide (level ≤ 2))

/-- AUTH_RESP: the Update-DR of a response of 132 bytes; the nonce serves once (R529, R531). -/
def execAuthResp (resp : List Byte) (s : State) : Host.Outcome State Fault Refusal :=
  let s := s.begin
  .next (if s.tapUp && s.garnetRuns && !s.on F.SEC_TAP_BUSY then
    let s := s.tapInstr
    if s.on F.SEC_TAP_LOCKED then s.evt F.SEC_EVT_AUTH_FAIL |>.evt F.SEC_EVT_AUTH_LOCK
    else
      let level := ofLe (slice resp 0 1)
      let fresh := match s.sec.nonceAt with | some t => decide (s.now - t ≤ ms 10000) | none => false
      let key := s.keyUsable 3 (ofLe (slice resp 1 1)) && allZero resp 2 2 && resp.length = 132
      (s.put F.SEC_TAP_BUSY 1).withSec { s.sec with nonceAt := none, resp := some (level, fresh && s.levelOk level, key) }
  else s)

/-- The clear of secrets starts for a mode: 1 scan, 2 logic BIST, 3 TAP at level 2, 4 memory BIST; the pads are gated low first (R532). -/
def State.clearStart (s : State) (trig : Nat) : State :=
  let s := (s.put F.SEC_CLR_STATE 1).put F.SEC_CLR_TRIGGER trig
  let s : State := (s.withSaf { s.saf with padGate := true }).withSec { s.sec with clrAt := s.now }
  (s.soutsTry.soutLow 0).soutLow 1

/-- The TAP opens at a level (R530). -/
def State.tapOpen (s : State) (level : Nat) : State :=
  let s := ((s.put F.SEC_TAP_OPEN 1).evt F.SEC_EVT_AUTH_OK).event 0x7880 [b8 level]
  s.withSec { s.sec with tapLevel := level }

/-- An accepted response acts by its level (R530). -/
def State.authAccept (s : State) (level : Nat) : State :=
  let s := s.put F.SEC_TAP_LEVEL level
  if level = 1 then s.tapOpen 1
  else if level = 2 then s.clearStart 3
  else s.lcTransition .garnet 3 true

/-- AUTH_CHECK_DONE: sigOk is the verdict of Garnet's digest and curve checks (R529 to R531). -/
def execAuthCheckDone (sigOk : Bool) (s : State) : Host.Outcome State Fault Refusal :=
  let s := s.begin
  .next (match s.sec.resp with
    | some (level, ok, key) =>
      let s : State := (s.put F.SEC_TAP_BUSY 0).withSec { s.sec with resp := none }
      if sigOk && key then (if ok then s.authAccept level else s.authFail)
      else (s.evt F.SEC_EVT_SIG_FAIL).authFail
    | none => s)

/-- AUTH_STAT: SEC_TAP bits 7:0 (R528). -/
def execAuthStat (s : State) : Host.Outcome State Fault Refusal :=
  let s := s.begin
  .next (if s.tapUp then ((s.tapInstr).withReadData [s.word F.SEC_TAP_OPEN.addr &&& 0xFF]) else s)

/-- RC_STAT: CLK_RC_START bits 7:0, without a root clock (R99, R528). -/
def execRcStat (s : State) : Host.Outcome State Fault Refusal :=
  let s := s.begin
  .next (if s.tapUp then ((s.tapInstr).withReadData [s.word F.CLK_RC_START_ATTEMPTS.addr &&& 0xFF]) else s)

/-- SCAN: at level 2 the clear starts, and scan is enabled when it ends VERIFIED (R528, R532). -/
def execScan (s : State) : Host.Outcome State Fault Refusal :=
  let s := s.begin
  .next (if s.tapUp then
    let s := s.tapInstr
    if s.on F.SEC_TAP_OPEN && s.sec.tapLevel = 2 && s.g F.SEC_CLR_STATE ≠ 1 then s.clearStart 1 else s
  else s)

/-- RESET: a TAP warm reset through an open TAP (R113, R528). -/
def execReset (st : Straps) (s : State) : Host.Outcome State Fault Refusal :=
  let s := s.begin
  .next (if s.tapUp then
    let s := s.tapInstr
    if s.on F.SEC_TAP_OPEN then (s.setStraps st).warmReset F.RST_CAUSE_TAP false else s
  else s)

/-- BYPASS (R528). -/
def execBypass (s : State) : Host.Outcome State Fault Refusal :=
  let s := s.begin
  .next (if s.tapUp then s.tapInstr else s)

/-- TRST_N_LOW: Test-Logic-Reset; an open TAP closes, but for RAW and TEST, in which the state itself opens it (R526, R528, R530). -/
def execTrstNLow (s : State) : Host.Outcome State Fault Refusal :=
  let s := s.begin
  .next (let s := s.tapInstr.put F.SEC_TAP_OPEN (bit (s.lc < 2))
    (s.withSec { s.sec with trst := true, tapLevel := if s.lc < 2 then 2 else 0 }))

/-- TEST_MODE_HIGH: honoured in RAW, else ignored and reported (R526). -/
def execTestModeHigh (s : State) : Host.Outcome State Fault Refusal :=
  let s := s.begin
  .next (if s.lc = 0 then (s.withSec { s.sec with testMode := true }) else s.evt F.SEC_EVT_TESTMODE_IGN)

/-! ### Logic BIST (R534 to R538) -/

/-- A run of logic or memory BIST is in progress. -/
def State.bistRuns (s : State) : Bool := s.g F.BST_LB_STAT_RESULT = 1 || s.g F.BST_MB_STAT_RESULT = 1

/-- Conditions 3 and 4 of R534: the state of FIELD_OK, and nothing in progress, a fuse being programmed included (R538). -/
def State.bistIdle (s : State) : Nat :=
  let f := s.g F.SAF_STAT_FSTATE
  if f = 2 || f = 3 then 3
  else if s.bistRuns || s.fus.job.isSome || s.g F.SEC_CLR_STATE = 1 then 4
  else 0

/-- First of the conditions 1 to 4 of R534 that fails; 0 for none. -/
def State.lbRej (s : State) : Nat :=
  if s.g F.BST_LB_CNT_COUNT = 0 then 1
  else if s.g F.BST_LB_SEED_LO_VALUE = 0 && s.g F.BST_LB_SEED_HI_VALUE = 0 then 2
  else s.bistIdle

/-- A logic BIST run is refused. -/
def State.lbRefuse (s : State) (rej : Nat) : State :=
  ((s.put F.BST_LB_STAT_RESULT 5).put F.BST_LB_STAT_REJ rej).evt F.BST_EVT_LB_REJ

/-- A write of v to BST_LB_CTRL (R534). -/
def State.lbCtrl (s : State) (v : Word) : State :=
  if wordField v 0 0 = 1 && wordField v 15 8 = 0xB5 then
    let rej := s.lbRej
    if rej ≠ 0 then s.lbRefuse rej
    else
      let s := (s.put F.BST_LB_STAT_RESULT 1).put F.BST_LB_STAT_PART (wordField v 1 1)
      ((s.put F.BST_LB_STAT_REJ 0).put F.BST_LB_STAT_EXEC 0).clearStart 2
  else s

/-- A result is decided: BST_RESULT, and BST_FAIL after the boot that follows unless it is PASS (R537). -/
def State.bistResult (s : State) (part result exec_ : Nat) : State :=
  let s := s.event 0x7980 ([b8 part, b8 result] ++ leBytes 3 exec_)
  if result = 2 then s else s.withSec { s.sec with bistDue := true }

/-- A logic BIST run ends with a result, and the device starts its warm reset (R536). -/
def State.lbFinish (s : State) (result : Nat) : State :=
  let s := (s.put F.BST_LB_STAT_RESULT result).evt F.BST_EVT_LB_DONE
  (s.bistResult (s.g F.BST_LB_STAT_PART) result (s.g F.BST_LB_STAT_EXEC)).warmReset F.RST_CAUSE_SW false

/-- The patterns of a run execute: it is RUNNING and its clear is VERIFIED. -/
def State.lbRunning (s : State) : Bool := s.g F.BST_LB_STAT_RESULT = 1 && s.g F.SEC_CLR_STATE = 2

/-- LBIST_END: every pattern has executed; misr is the signature (R535 to R537). -/
def execLbistEnd (misr : BitVec 64) (s : State) : Host.Outcome State Fault Refusal :=
  let s := s.begin
  .next (if s.lbRunning then
    let m := misr.toNat
    let s := (s.put F.BST_LB_MISR_LO_MISR m).put F.BST_LB_MISR_HI_MISR (m / 2 ^ 32)
    let s := s.put F.BST_LB_STAT_EXEC (s.g F.BST_LB_CNT_COUNT)
    s.lbFinish (if m = s.g F.BST_LB_EXP_LO_VALUE + 2 ^ 32 * s.g F.BST_LB_EXP_HI_VALUE then 2 else 3)
  else s)

/-- LBIST_TIMEOUT: the hard timer stops a run; the patterns executed by then are a free value below COUNT (R536 to R538, log 7). -/
def execLbistTimeout (s : State) : Host.Outcome State Fault Refusal :=
  let s := s.begin
  .next (if s.lbRunning then
    let (w, s) := s.free
    (s.put F.BST_LB_STAT_EXEC (w % max 1 (s.g F.BST_LB_CNT_COUNT))).lbFinish 4
  else s)

/-! ### Memory BIST and repair (R539 to R541) -/

/-- Entries of the REPAIR rows that are in force: VALID and of an array up to 211 (R540). -/
def State.fusedRepairs (s : State) : List Nat :=
  ((List.range 64).map (fun k => s.fuse (21 + k / 8) / 2 ^ (32 * (k % 8)) % 2 ^ 32)).filter (fun e => tbit e 31 && decide (e % 256 ≤ 211))

/-- Soft repairs in force. -/
def State.softRepairs (s : State) : List Nat := ((List.range 16).map (fun k => s.g (F.BST_MB_REP_ENTRY k))).filter (fun e => tbit e 31)

/-- Array, kind and address of an entry: its bits but SPARE and VALID. -/
def repairKey (e : Nat) : Nat × Nat × Nat := (e % 256, e / 256 % 2, e / 1024 % 1024)

/-- A failing row or column e, in the layout of R540, gets a free spare of its array and kind; none is left where both are used or all 16
entries are. Of two free spares either is taken (R539, log 7). -/
def State.softRepair (s : State) (e : Nat) : Bool × State :=
  let used := s.fusedRepairs ++ s.softRepairs
  if used.any (fun u => repairKey u = repairKey e) then (true, s)
  else
    let free := [0, 1].filter (fun p => !used.any (fun u => u % 512 = e % 512 && u / 512 % 2 = p))
    let k := s.softRepairs.length
    if free.isEmpty || decide (16 ≤ k) then (false, s)
    else
      let (w, s) := s.free
      let p := free.getD (w % free.length) 0
      let v := e % 512 + 512 * p + 1024 * (e / 1024 % 1024) + 2 ^ 31
      (true, ((s.put (F.BST_MB_REP_ENTRY k) v).put F.BST_MB_STAT_SOFT_USED (k + 1)).evt F.BST_EVT_REPAIR_NEW)

/-- Failing rows and columns are repaired; the arrays that could not be are listed, first failure first. -/
def State.repairAll (s : State) (fails : List Nat) : List Nat × State :=
  fails.foldl (fun (acc : List Nat × State) e =>
    let (ok, s) := acc.2.softRepair e
    if ok then (acc.1, s) else (acc.1 ++ [e % 256], s)) ([], s)

/-- The result of a memory BIST that has run to its end: 2 PASS, 3 REPAIRED, 4 FAIL (R539). -/
def State.memResult (s : State) (fails : List Nat) : State :=
  let (bad, s) := s.repairAll fails
  match bad with
  | a :: _ => ((s.put F.BST_MB_STAT_RESULT 4).put F.BST_MB_STAT_FAIL_ARR a).evt F.BST_EVT_MB_FAIL
  | [] => s.put F.BST_MB_STAT_RESULT (if s.softRepairs.isEmpty then 2 else 3)

/-- A write of v to BST_MB_CTRL: in RAW, TEST and RMA, under the conditions of R534 without the first two (R541). -/
def State.mbCtrl (s : State) (v : Word) : State :=
  if wordField v 0 0 = 1 && wordField v 15 8 = 0xB5 then
    if s.lc = 2 || s.lc = 4 || s.bistIdle ≠ 0 then s.put F.BST_MB_STAT_RESULT 6
    else
      let s : State := s.withSec { s.sec with mbRet := wordField v 1 1 = 1 }
      (s.put F.BST_MB_STAT_RESULT 1).clearStart 4
  else s

/-- Addresses whose arrays an on-request run tests (R541). -/
def tested (ret : Bool) (a : Nat) : Bool :=
  match regionOf a with
  | some .sram => true
  | some .slate => true
  | some .calStore => true
  | some .graniteRam => true
  | some .retention => ret
  | _ => false

/-- MEMORY_BIST_END: an on-request run ends; done says that every array was tested. The arrays lose their contents; what they then hold is
March C−'s last background, zeros (R541; PRESUMED, log 23). -/
def execMemoryBistEnd (fails : List Nat) (done : Bool) (s : State) : Host.Outcome State Fault Refusal :=
  let s := s.begin
  .next (if s.g F.BST_MB_STAT_RESULT = 1 && s.g F.SEC_CLR_STATE = 2 then
    let s : State := s.withMem (s.mem.filter (fun e => !tested s.sec.mbRet e.1))
    let s := (if done then s.memResult fails else s.put F.BST_MB_STAT_RESULT 5).evt F.BST_EVT_MB_DONE
    let r := s.g F.BST_MB_STAT_RESULT
    let s := s.event 0x7980 [2, b8 r]
    let s : State := if r = 2 then s else s.withSec { s.sec with bistDue := true }
    s.warmReset F.RST_CAUSE_SW false
  else s)

/-! ### The end of the clear (R532, R533) -/

/-- Memory that the clear writes: S SRAM, the S area of retention RAM, Granite RAM (R532). -/
def secret (a : Nat) : Bool :=
  (decide (0x101C0000 ≤ a) && decide (a < 0x10200000)) || (decide (0x1803C000 ≤ a) && decide (a < 0x18040000))
  || (decide (0x30000000 ≤ a) && decide (a < 0x30080000))

/-- Secrets are gone: zeros in memory, an empty vault (R532). -/
def State.clearSecrets (s : State) : State :=
  ((s.withMem (s.mem.filter (fun e => !secret e.1))).withSec { s.sec with vault := List.replicate 8 0 }).withPwr { s.pwr with saved := [] }

/-- A clear is VERIFIED: its mode begins (R528, R530, R534, R541). -/
def State.clearOk (s : State) : State :=
  let s := s.put F.SEC_CLR_STATE 2
  match s.g F.SEC_CLR_TRIGGER with
  | 1 => s.withSec { s.sec with scan := true }
  | 3 => (((s.put F.SEC_TAP_DEBUG_HALT 1).withSaf { s.saf with halted := true }).tapOpen 2).settle
  | _ => s

/-- A clear FAILED: its mode is refused. One word that failed stands at a free place with a free value (R533, log 7). -/
def State.clearBad (s : State) : State :=
  let (a, s) := s.free
  let (w, s) := s.free
  let s := s.setByte (0x30000000 + a % 0x80000) (b8 w)
  let s := ((s.put F.SEC_CLR_STATE 3).evt F.SEC_EVT_CLR_FAIL).raise S.BST_FAIL 0
  match s.g F.SEC_CLR_TRIGGER with
  | 2 => s.lbRefuse 5
  | 4 => s.put F.BST_MB_STAT_RESULT 6
  | _ => s

/-- SECRET_CLEAR_DONE: the read-back of the clear is over (R532, R533). -/
def execSecretClearDone (ok : Bool) (s : State) : Host.Outcome State Fault Refusal :=
  let s := s.begin
  .next (if s.g F.SEC_CLR_STATE = 1 then
    let s := (s.put F.SEC_CLR_TIME_US (min 65535 ((s.now - s.sec.clrAt) / 400))).clearSecrets
    if ok then s.clearOk else s.clearBad
  else s)

end Sys2Proof.Machine
end

