-- ==== Sys2Proof/Machine/Sha.lean ====
section
/-! DEFINITION. SHA-256, with which bundles name their parts (09_granite_governor, R320 to R323; 17_update_and_profiles, R551). The spec names the
function; its constants and rounds are those of FIPS 180-4 (PRESUMED, log 25). -/

namespace Sys2Proof.Machine

/-- Constants of the rounds 0 to 31. -/
def shaKA : List Word := [
  0x428A2F98, 0x71374491, 0xB5C0FBCF, 0xE9B5DBA5, 0x3956C25B, 0x59F111F1, 0x923F82A4, 0xAB1C5ED5,
  0xD807AA98, 0x12835B01, 0x243185BE, 0x550C7DC3, 0x72BE5D74, 0x80DEB1FE, 0x9BDC06A7, 0xC19BF174,
  0xE49B69C1, 0xEFBE4786, 0x0FC19DC6, 0x240CA1CC, 0x2DE92C6F, 0x4A7484AA, 0x5CB0A9DC, 0x76F988DA,
  0x983E5152, 0xA831C66D, 0xB00327C8, 0xBF597FC7, 0xC6E00BF3, 0xD5A79147, 0x06CA6351, 0x14292967]

/-- Constants of the rounds 32 to 63. -/
def shaKB : List Word := [
  0x27B70A85, 0x2E1B2138, 0x4D2C6DFC, 0x53380D13, 0x650A7354, 0x766A0ABB, 0x81C2C92E, 0x92722C85,
  0xA2BFE8A1, 0xA81A664B, 0xC24B8B70, 0xC76C51A3, 0xD192E819, 0xD6990624, 0xF40E3585, 0x106AA070,
  0x19A4C116, 0x1E376C08, 0x2748774C, 0x34B0BCB5, 0x391C0CB3, 0x4ED8AA4A, 0x5B9CCA4F, 0x682E6FF3,
  0x748F82EE, 0x78A5636F, 0x84C87814, 0x8CC70208, 0x90BEFFFA, 0xA4506CEB, 0xBEF9A3F7, 0xC67178F2]

/-- Initial hash value. -/
def shaInit : List Word := [0x6A09E667, 0xBB67AE85, 0x3C6EF372, 0xA54FF53A, 0x510E527F, 0x9B05688C, 0x1F83D9AB, 0x5BE0CD19]

/-- Word t of the message schedule follows from the sixteen before it. -/
def shaNext (w : List Word) (t : Nat) : Word :=
  let a := w.getD (t - 15) 0
  let b := w.getD (t - 2) 0
  (b.rotateRight 17 ^^^ b.rotateRight 19 ^^^ (b >>> 10)) + w.getD (t - 7) 0
    + (a.rotateRight 7 ^^^ a.rotateRight 18 ^^^ (a >>> 3)) + w.getD (t - 16) 0

/-- The message schedule of a block of 64 bytes. -/
def shaSchedule (blk : List Byte) : List Word :=
  (List.range 48).foldl (fun w i => w ++ [shaNext w (16 + i)]) ((List.range 16).map (fun i => BitVec.ofNat 32 (ofBe (slice blk (4 * i) 4))))

/-- One round on the eight working variables. -/
def shaRound (v : List Word) (kw : Word) : List Word :=
  match v with
  | [a, b, c, d, e, f, g, h] =>
    let t1 := h + (e.rotateRight 6 ^^^ e.rotateRight 11 ^^^ e.rotateRight 25) + ((e &&& f) ^^^ (~~~ e &&& g)) + kw
    let t2 := (a.rotateRight 2 ^^^ a.rotateRight 13 ^^^ a.rotateRight 22) + ((a &&& b) ^^^ (a &&& c) ^^^ (b &&& c))
    [t1 + t2, a, b, c, d + t1, e, f, g]
  | _ => v

/-- The hash after one block. -/
def shaBlock (h : List Word) (blk : List Byte) : List Word :=
  let kw := List.zipWith (· + ·) (shaKA ++ shaKB) (shaSchedule blk)
  List.zipWith (· + ·) h (kw.foldl shaRound h)

/-- The message with its padding. -/
def shaPad (l : List Byte) : List Byte := l ++ 0x80 :: List.replicate ((119 - l.length % 64) % 64) 0 ++ beBytes 8 (8 * l.length)

/-- SHA-256 of a byte string, 32 bytes. -/
def sha256 (l : List Byte) : List Byte :=
  let m := shaPad l
  ((List.range (m.length / 64)).foldl (fun h i => shaBlock h (slice m (64 * i) 64)) shaInit).flatMap (fun w => beBytes 4 w.toNat)

end Sys2Proof.Machine
end

