-- ==== Sys2Proof/Machine/Update.lean ====
section
/-! DEFINITION. The update unit: slots and their checks, the operations of UPDATE packets, activation, trial and confirmation, and commanded
profile changes (17_update_and_profiles; the sealed update of 09_granite_governor). -/

namespace Sys2Proof.Machine

/-! ### Slots in flash (R548, R553, R556, R570) -/

/-- Where the slot of a SLOT code lies. -/
def slotBase (n : Nat) : Nat :=
  match n with
  | 0 => 0x60200000 | 1 => 0x60600000 | 2 => 0x60A00000 | 3 => 0x60C00000 | 4 => 0x60E00000 | _ => 0x61080000

/-- The other slot of the pair. -/
def otherSlot (n : Nat) : Nat := n ^^^ 1

/-- A header field of n bytes at an offset of a slot. -/
def State.slotField (s : State) (n ofs len : Nat) : Nat := s.le (slotBase n + ofs) len

/-- Record of a slot. -/
def State.slot_ (s : State) (n : Nat) : Slot := s.upd.slots.getD n Slot.init

/-- Change the record of a slot. -/
def State.modSlot (s : State) (n : Nat) (f : Slot → Slot) : State := s.withUpd { s.upd with slots := s.upd.slots.set n (f (s.slot_ n)) }

/-- Version of a slot's content: BUNDLE_VER, or SET_ID for a calibration slot (R322, R338, R550, R553). -/
def State.slotVersion (s : State) (n : Nat) : Nat :=
  if n < 2 then s.slotField n 24 4 else if n < 4 then s.slotField n 40 4 else s.slotField n 0x14 4

/-- UPD_SLOTA and UPD_SLOTB of a main slot; an EMPTY slot has no bundle. -/
def State.showMain (s : State) (n : Nat) : State :=
  let r := s.slot_ n
  let roll := if r.st = 0 then 0 else s.slotField n 20 4
  let ver := if r.st = 0 then 0 else s.slotField n 24 2
  if n = 0 then
    ((((s.put F.UPD_SLOTA_STATE r.st).put F.UPD_SLOTA_OVERLAP (bit r.overlap)).put F.UPD_SLOTA_REJ r.rej).put F.UPD_SLOTA_ROLLBACK roll).put F.UPD_SLOTA_VER ver
  else
    ((((s.put F.UPD_SLOTB_STATE r.st).put F.UPD_SLOTB_OVERLAP (bit r.overlap)).put F.UPD_SLOTB_REJ r.rej).put F.UPD_SLOTB_ROLLBACK roll).put F.UPD_SLOTB_VER ver

/-- UPD_CAL0 and UPD_CAL1 of a calibration slot. -/
def State.showCal (s : State) (n : Nat) : State :=
  let r := s.slot_ n
  ((s.put (F.UPD_CAL_STATE (n - 4)) r.st).put (F.UPD_CAL_OVERLAP (n - 4)) (bit r.overlap)).put (F.UPD_CAL_REJ (n - 4)) r.rej

/-- GOV_SLOT's state field of a Granite slot. -/
def State.showGranite (s : State) (n : Nat) : State :=
  s.put (if n = 2 then F.GOV_SLOT_STATE_A else F.GOV_SLOT_STATE_B) (s.gov.slots.getD (n - 2) 0)

/-- The register that reports a slot. -/
def State.showSlot (s : State) (n : Nat) : State := if n < 2 then s.showMain n else if n < 4 then s.showGranite n else s.showCal n

/-- A main or calibration slot enters a state with a REJ code (R555, R569, R570). -/
def State.plainSlotTo (s : State) (n st rej : Nat) : State :=
  ((s.modSlot n (fun r => { r with st := st, rej := rej })).showSlot n).event 0x8080 [b8 n, b8 st, b8 rej]

/-- A Granite slot enters a state, coded as UPD_SLOTA codes it (R323, R328, R483). -/
def State.graniteSlotTo (s : State) (n st rej : Nat) : State :=
  let g := if st = 6 then 5 else if st = 7 then 6 else st
  let s : State := s.withGov { s.gov with slots := s.gov.slots.set (n - 2) g }
  let s := s.showSlot n
  let s := if g = 6 then s.put F.GOV_SLOT_REJ rej else s
  if g = 3 || g = 6 then s.event 0x4083 [0, b8 (n - 2), b8 g, b8 rej] else s

/-- A slot enters a state: 0 EMPTY, 1 RECEIVING, 2 VERIFYING, 3 VERIFIED, 4 PENDING, 5 TRIAL, 6 ACTIVE, 7 REJECTED. -/
def State.toSlot (s : State) (n st rej : Nat) : State :=
  let s := if n = 2 || n = 3 then s.graniteSlotTo n st rej else s.plainSlotTo n st rej
  if st = 3 then s.evt F.UPD_EVT_VERIFIED else if st = 7 then s.evt F.UPD_EVT_REJECTED else s

/-! ### Writing a block (R555, R556) -/

/-- A sector that the erase map does not show as erased is erased. -/
def State.eraseSector (s : State) (n k : Nat) : State :=
  if (s.slot_ n).erased.contains k then s
  else
    let a := slotBase n + 4096 * k
    let s : State := s.withMem (s.mem.filter (fun e => e.1 < a || a + 4096 ≤ e.1))
    s.modSlot n (fun r => { r with erased := k :: r.erased })

/-- One page of a block: equal, erased or neither (R556). -/
def State.writePage (s : State) (n ofs : Nat) (data : List Byte) : State :=
  let a := slotBase n + ofs
  let old := s.bytes a data.length
  if old = data then s.incSat F.UPD_CNT_PAGES_SKIPPED
  else if old.all (· = 0xFF) then s.setBytes a data
  else ((s.modSlot n (fun r => { r with overlap := true })).showSlot n).evt F.UPD_EVT_OVERLAP

/-- A block is erased for, programmed and read back. -/
def State.writeBlock (s : State) (n ofs : Nat) (body : List Byte) : State :=
  let s := (List.range ((ofs + body.length - 1) / 4096 + 1 - ofs / 4096)).foldl (fun s i => s.eraseSector n (ofs / 4096 + i)) s
  let s := (List.range ((body.length + 255) / 256)).foldl (fun s i => s.writePage n (ofs + 256 * i) ((body.drop (256 * i)).take 256)) s
  s.incSat F.UPD_CNT_BLOCKS

/-- SLOT and OP of a packet (R553). -/
def Packet.updSlot (p : Packet) : Nat := p.target % 8
def Packet.updOp (p : Packet) : Nat := p.target / 16 % 16

/-- A WRITE is not written in the slot's state: VERIFYING, PENDING, the active Granite slot, and outside recovery ACTIVE and TRIAL (R555). -/
def State.writeRefused (s : State) (n : Nat) : Bool :=
  let st := s.slotState n
  st = 2 || st = 4 || ((n = 2 || n = 3) && (st = 6 || s.gov.active = some (n - 2))) || (!s.inRecovery && (st = 5 || st = 6))

/-- The WRITE at the head of UPDATE. While the flash window is closed, or a Granite block finds Flint halted, the block waits (R323, R499, R555, R561). -/
def State.updBlock (s : State) (p : Packet) : State :=
  let n := p.updSlot
  if s.writeRefused n then (s.evt F.UPD_EVT_WR_REFUSED).doneHead 3
  else if !s.on F.THM_STAT_FLASH_OK || ((n = 2 || n = 3) && s.saf.halted) then s
  else
    let s := if s.slotState n = 1 then s else (s.modSlot n (fun _ => Slot.init)).toSlot n 1 0
    (s.writeBlock n p.arg p.body).doneHead 3

/-- The UPDATE packet at the head, of an operation in a list, is taken; the consumer's read may fail (R212, R555). -/
def State.takeUpdate (s : State) (op : Nat) (parity : Bool) (f : Packet → State) : State :=
  match s.head 3 with
  | none => s
  | some p => if p.updOp ≠ op then s else if parity || s.armed S.CMD_REPLAY then s.replay 3 else f p

/-- UPD_WRITE. -/
def execUpdWrite (parity : Bool) (s : State) : Host.Outcome State Fault Refusal :=
  let s := s.begin
  .next (s.takeUpdate 0 parity (fun p => s.updBlock p))

/-! ### Checks of a slot (R322, R323, R338 to R340, R550 to R552) -/

/-- The device's own UNIT_ID. -/
def State.unitId (s : State) : Nat := s.fuse 2

/-- UNIT_ID of a header is neither zero nor the device's. -/
def State.wrongUnit (s : State) (id : Nat) : Bool := id ≠ 0 && id ≠ s.unitId

/-- Bytes of a slot from an offset. -/
def State.slotBytes (s : State) (n ofs len : Nat) : List Byte := s.bytes (slotBase n + ofs) len

/-- A signature block at the end of a slot's bundle, of a class; verdict is that of digest and curve (R523, R524, log 6). -/
def State.slotSig (s : State) (n cls : Nat) (verdict : Bool) (total : Nat) : Bool × State :=
  if total < 256 || slotSize n < total then (false, s.evt F.SEC_EVT_SIG_FAIL)
  else s.sigCheck (s.slotBytes n (total - 192) 192) (total - 192) cls verdict

/-- Manifest entry i of a main slot: 48 bytes (R551). -/
def State.mainEntry (s : State) (n i : Nat) : List Byte := s.slotBytes n (s.slotField n 32 4 + 48 * i) 48

/-- Entries of a main slot's manifest. -/
def State.mainEntries (s : State) (n : Nat) : List (List Byte) := (List.range (s.slotField n 36 1)).map (s.mainEntry n)

/-- Fields of a manifest entry. -/
def entType (e : List Byte) : Nat := ofLe (slice e 0 1)
def entIndex (e : List Byte) : Nat := ofLe (slice e 1 1)
def entOfs (e : List Byte) : Nat := ofLe (slice e 4 4)
def entSize (e : List Byte) : Nat := ofLe (slice e 8 4)
def entLoad (e : List Byte) : Nat := ofLe (slice e 12 4)

/-- An entry lies inside its bundle and its digest is that of its bytes. -/
def State.entryOk (s : State) (n total : Nat) (e : List Byte) : Bool :=
  decide (entOfs e + entSize e ≤ total) && sha256 (s.slotBytes n (entOfs e) (entSize e)) = slice e 16 32

/-- A manifest has the entries that R551 asks for. -/
def manifestFull (l : List (List Byte)) : Bool :=
  [1, 2, 3, 5].all (fun t => (l.filter (fun e => entType e = t)).length = 1)
  && (List.range 4).all (fun p =>
    let k := (l.filter (fun e => entType e = 4 && entIndex e = p)).length
    decide (k ≤ 1) && (p ≠ 0 || k = 1))

/-- REVOKE names the signing key, or leaves a class that it touches without a usable key (R552). -/
def State.revokeBad (s : State) (revoke key : Nat) : Bool :=
  tbit revoke key
  || (revoke % 16 ≠ 0 && (List.range 4).all (fun i => !s.keyUsable 1 i || tbit revoke i))
  || (revoke / 16 % 16 ≠ 0 && (List.range 4).all (fun i => !s.keyUsable 2 i || tbit revoke (4 + i)))

/-- First code of R552 for a main slot; 0 passes. A length that the host did not write counts as an invalid TOTAL_SIZE (DEDUCED). -/
def State.checkMain (s : State) (n total : Nat) (sigOk : Bool) : Nat × State :=
  let size := s.slotField n 28 4
  let (ok, s) := s.slotSig n 1 sigOk size
  let h := s.slotBytes n 0 64
  let ents := s.mainEntries n
  let code :=
    if !ok then 1
    else if ofLe (slice h 8 4) ≠ s.fuse 1 then 2
    else if s.wrongUnit (ofLe (slice h 12 8)) then 3
    else if ofLe (slice h 20 4) < countOnes 64 (s.fuse 20) then 4
    else if ofLe (slice h 0 4) ≠ 0x4C594D31 || ofLe (slice h 4 2) ≠ 1 || ents.isEmpty || decide (16 < ents.length) || size ≠ total
        || !allZero h 38 26 || !ents.all (fun e => allZero e 2 2) then 5
    else if size < s.slotField n 32 4 + 48 * ents.length || !ents.all (s.entryOk n size) || !manifestFull ents then 6
    else if (s.slot_ n).overlap then 7
    else if s.revokeBad (ofLe (slice h 37 1)) (ofLe (s.slotBytes n (size - 192 + 5) 1)) then 8
    else 0
  (code, s)

/-- Offset of section k of a calibration set. -/
def sectionOfs (k : Nat) : Nat := 256 + 294976 * k

/-- Mean of the block gains at point k lies within 1.0 ± 2 % (R340). -/
def meanOk (sum : Nat) : Bool := decide (32113 * 4096 ≤ sum) && decide (sum ≤ 33423 * 4096)

/-- A tile section of 294,976 bytes is valid (R339, R340). -/
def sectionOk (b : List Byte) : Bool :=
  let rec_ := fun i => slice b (262208 + 8 * i) 8
  let sum := fun k => ((List.range 4096).map (fun i => ofLe (slice (rec_ i) (2 * k) 2))).sum
  let t := fun k => signed 16 (ofLe (slice b (8 + 2 * k) 2))
  ofLe (slice b 0x3C 4) = crc32 (b.take 0x3C ++ b.drop 0x40)
  && decide (t 0 < t 1) && decide (t 1 < t 2)
  && allZero b 0x14 40 && decide (ofLe (slice b 0x0E 2) < 4096) && b.getD 0x13 0 = 0 && (List.range 4096).all (fun i => allZero (rec_ i) 6 2)
  && meanOk (sum 0) && meanOk (sum 1) && meanOk (sum 2)

/-- Tiles that a set's header names, in tile order (R338). -/
def State.setTiles (s : State) (n : Nat) : List Nat := (List.range 8).filter (fun t => tbit (s.slotField n 6 1) t)

/-- Bytes of the section of tile t in a calibration slot; none when the set has none. -/
def State.setSection (s : State) (n t : Nat) : Option (List Byte) :=
  let l := s.setTiles n
  if l.contains t then some (s.slotBytes n (sectionOfs (l.filter (· < t)).length) 294976) else none

/-- The set header has MAGIC, FORMAT, CRC and zero reserved bytes (R338). -/
def State.setHeaderOk (s : State) (n : Nat) : Bool :=
  let h := s.slotBytes n 0 256
  ofLe (slice h 0 4) = 0x4C594331 && ofLe (slice h 4 2) = 1 && ofLe (slice h 0xFC 4) = crc32 (h.take 0xFC)
  && allZero h 7 1 && allZero h 0x18 40 && allZero h 0x80 124

/-- First code of R552 for a calibration slot; 0 passes. -/
def State.checkCal (s : State) (n : Nat) : Nat :=
  if s.slotField n 8 4 ≠ s.fuse 1 then 2
  else if s.wrongUnit (s.slotField n 0x0C 8) then 3
  else if !s.setHeaderOk n then 5
  else if !(s.setTiles n).all (fun t => match s.setSection n t with | some b => sectionOk b | none => true) then 6
  else if (s.slot_ n).overlap then 7
  else 0

/-- Approval counter (R321). -/
def State.approvals (s : State) : Nat := countOnes 128 (s.fuse 19)

/-- Digest of a Granite bundle's header and manifest (R320). -/
def State.graniteDigest (s : State) (n : Nat) : List Byte := sha256 (s.slotBytes n 0 64 ++ s.slotBytes n (s.slotField n 48 4) 200)

/-- Entry i of a Granite manifest: offset, size, digest; 0 is the Flint image, 1 + p the table set of profile p (R322). -/
def State.graniteEntry (s : State) (n i : Nat) : Nat × Nat × List Byte :=
  let e := s.slotBytes n (s.slotField n 48 4 + 40 * i) 40
  (ofLe (slice e 0 4), ofLe (slice e 4 4), slice e 8 32)

/-- Bytes of a manifest entry's part. -/
def State.granitePart (s : State) (n i : Nat) : List Byte := s.slotBytes n (s.graniteEntry n i).1 (s.graniteEntry n i).2.1

/-- A table set is the image of Granite RAM from 0x3002_0000 to 0x3007_AFFF (DEDUCED from R301, log 24). -/
def tableSize : Nat := 0x5B000

/-- The table set b is consistent for profile p (R308). -/
def tablesOk (b : List Byte) (p : Nat) : Bool :=
  let zones := ofLe (slice b 0x5A004 2)
  b.length = tableSize && decide (1 ≤ zones) && decide (zones ≤ 256) && ofLe (slice b 0x5A000 1) = p
  && (List.range 131072).all (fun i =>
    let e := ofLe (slice b (2 * i) 2)
    e < 32768 || decide (e % 256 < zones))
  && allZero b 0x5A007 1 && allZero b 0x5A018 40 && allZero b 0x5A240 3520

/-- A part of a Granite bundle fits its place and has its digest; a table set is consistent (R308, R322, R323). An absent table set has size 0 (DEDUCED, log 24). -/
def State.partOk (s : State) (n i total : Nat) : Bool :=
  let (ofs, size, dig) := s.graniteEntry n i
  decide (ofs + size ≤ total) && sha256 (s.granitePart n i) = dig
  && (if i = 0 then decide (size ≤ 0x20000) else size = 0 || tablesOk (s.granitePart n i) (i - 1))

/-- First reason of R323 for a Granite slot; 0 passes. Reason 6 is not applied to a slot in PENDING (R325). -/
def State.checkGranite (s : State) (n : Nat) (sigOk : Bool) : Nat × State :=
  let total := s.slotField n 44 4
  let (ok, s) := s.slotSig n 2 sigOk total
  let h := s.slotBytes n 0 64
  let no := ofLe (slice h 20 4)
  let count := s.approvals
  let same := match s.gov.active with | some a => s.graniteDigest n = s.graniteDigest (2 + a) | none => false
  let code :=
    if !ok then 1
    else if ofLe (slice h 8 4) ≠ s.fuse 1 then 2
    else if s.wrongUnit (ofLe (slice h 12 8)) then 3
    else if no < count then 4
    else if count + 1 < no then 5
    else if no = count && !same && s.slotState n ≠ 4 then 6
    else if count = 128 && decide (128 < no) then 7
    else if ofLe (slice h 0 4) ≠ 0x4C594731 || ofLe (slice h 4 2) ≠ 1 || !allZero h 6 2 || !allZero h 52 12 || decide (0x200000 < total) then 8
    else if total < s.slotField n 48 4 + 200 || !(List.range 5).all (fun i => s.partOk n i total) then 9
    else 0
  (code, s)

/-- The checks of a slot, for the TOTAL_SIZE that the host gave. -/
def State.checkSlot (s : State) (n total : Nat) (sigOk : Bool) : Nat × State :=
  if n < 2 then s.checkMain n total sigOk else if n < 4 then s.checkGranite n sigOk else (s.checkCal n, s)

/-! ### VERIFY (R323, R552, R555) -/

/-- An operation has no effect and is DONE at once (R555). -/
def State.opIgnored (s : State) : State := (s.evt F.UPD_EVT_OP_IGN).doneHead 3

/-- UPD_VERIFY: a packet applied again while its slot is VERIFYING stays the packet of that verification (DEDUCED, log 26). -/
def execUpdVerify (parity : Bool) (s : State) : Host.Outcome State Fault Refusal :=
  let s := s.begin
  .next (s.takeUpdate 1 parity (fun p =>
    if s.upd.verifying.isSome then s
    else if s.slotState p.updSlot = 1 then
      let s := s.toSlot p.updSlot 2 0
      s.withUpd { s.upd with verifying := some (p.updSlot, ofBe p.body) }
    else s.opIgnored))

/-- VERIFY_DONE: sigOk is the verdict of digest and curve over the bundle's signature (R323, R552). -/
def execVerifyDone (sigOk : Bool) (s : State) : Host.Outcome State Fault Refusal :=
  let s := s.begin
  .next (match s.upd.verifying with
    | none => s
    | some (n, total) =>
      let s : State := s.withUpd { s.upd with verifying := none }
      let (r, s) := s.checkSlot n total sigOk
      let s := s.toSlot n (if r = 0 then 3 else 7) r
      match s.head 3 with
      | some p => if p.updOp = 1 && p.updSlot = n then s.doneHead 3 else s
      | none => s)

/-! ### ACTIVATE (R325, R555, R561, R564) -/

/-- ACTIVATE of a slot VERIFIED with a matching version. -/
def State.activate (s : State) (n : Nat) (restart : Bool) : State :=
  let s := s.toSlot n 4 0
  let s := if s.slotState (otherSlot n) = 4 then s.toSlot (otherSlot n) 3 0 else s
  s.withUpd { s.upd with restart := s.upd.restart || restart }

/-- UPD_ACTIVATE. In recovery an ACTIVATE of a main slot, once DONE, asks for the warm reset whatever it did (R564). -/
def execUpdActivate (parity : Bool) (s : State) : Host.Outcome State Fault Refusal :=
  let s := s.begin
  .next (s.takeUpdate 2 parity (fun p =>
    let n := p.updSlot
    let ok := s.slotState n = 3 && s.slotVersion n = ofBe (slice p.body 0 4) && !(decide (n < 2) && s.upd.trial.isSome) && decide (n < 6)
    let t := if ok then (s.activate n (tbit (ofBe (slice p.body 4 4)) 0)).doneHead 3 else s.opIgnored
    if s.inRecovery && decide (n < 2) then (t.withUpd { t.upd with restart := true }) else t))

/-- RESTART_RESET: within 10 ms of the ACTIVATE (R561, R564). -/
def execRestartReset (s : State) : Host.Outcome State Fault Refusal :=
  let s := s.begin
  .next (if s.upd.restart then
    let s := if s.inRecovery then s.setTries 0 else s
    s.warmReset F.RST_CAUSE_SW false
  else s)

/-! ### CONFIRM and the trial (R558 to R560) -/

/-- The trial slot n is confirmed. -/
def State.confirm (s : State) (n : Nat) : State :=
  let s := s.toSlot n 6 0
  let s := if s.slotState (otherSlot n) = 6 then s.toSlot (otherSlot n) 3 0 else s
  let s := (s.clearAvoid [7, 9, 10, 12]).put F.UPD_STAT_TRIAL 0
  let s := (s.evt F.UPD_EVT_CONFIRMED).event 0x8081 (b8 n :: leBytes 4 (s.slotVersion n))
  let s : State := s.withUpd { s.upd with trial := none, trialAt := none, fusePend := some (s.slotField n 20 4, s.slotField n 37 1) }
  s.fuseWork

/-- UPD_CONFIRM. -/
def execUpdConfirm (parity : Bool) (s : State) : Host.Outcome State Fault Refusal :=
  let s := s.begin
  .next (s.takeUpdate 3 parity (fun p =>
    let n := p.updSlot
    if decide (n < 2) && s.slotState n = 5 && s.slotVersion n = ofBe p.body then (s.confirm n).doneHead 3 else s.opIgnored))

/-- TRIAL_TIMEOUT: TRIAL_S seconds after FIRST_LIGHT under MANUAL (R560). -/
def execTrialTimeout (s : State) : Host.Outcome State Fault Refusal :=
  let s := s.begin
  .next (if s.upd.trial.isSome && s.upd.trialAt.isSome && s.on F.UPD_CTRL_MANUAL then s.warmReset F.RST_CAUSE_SW false else s)

/-! ### The copy after a sealed update (R325) -/

/-- GRANITE_COPY_DONE: after FIRST_LIGHT, while the flash window is open, the active bundle stands in the other slot too. -/
def execGraniteCopyDone (s : State) : Host.Outcome State Fault Refusal :=
  let s := s.begin
  .next (match s.gov.active with
    | some a =>
      if s.gov.copyDue && s.g F.RST_BOOT_STAT_PHASE = 1 && s.on F.THM_STAT_FLASH_OK && !s.saf.halted then
        let n := 2 + (1 - a)
        let b := s.slotBytes (2 + a) 0 (min 0x200000 (s.slotField (2 + a) 44 4))
        let lo := slotBase n
        let s : State := (s.withMem (s.mem.filter (fun e => e.1 < lo || lo + 0x200000 ≤ e.1))).withGov { s.gov with copyDue := false }
        (s.setBytes lo b).toSlot n 3 0
      else s
    | none => s)

/-! ### A commanded profile change (R568, R569) -/

/-- Case that refuses profile n; 0 for none. The reset of an accepted change starts with the acceptance, so case 6 cannot arise. -/
def State.profileRej (s : State) (n : Nat) : Nat :=
  if !s.on F.PRF_STAT_CMD_OK then 1
  else if 3 < n then 2
  else if s.csf.speed ≠ 0 then 3
  else if !tbit (s.g F.PRF_STAT_RECORDS) n || !tbit (s.g F.PRF_STAT_TABLES) n then 4
  else if !(s.g F.RST_BOOT_STAT_PHASE = 1 || (s.g F.RST_BOOT_STAT_PHASE = 0 && s.g F.RST_BOOT_STAT_STEP = 15)) then 5
  else 0

/-- PROFILE_CHANGE: Flint acts on the matched frame. Garnet writes the settings record with the choice (log 27). -/
def execProfileChange (s : State) : Host.Outcome State Fault Refusal :=
  let s := s.begin
  .next (match s.csf.profile with
    | none => s
    | some n =>
      if s.saf.halted || s.flintStopped then s
      else
        let s : State := s.withCsf { s.csf with profile := none }
        let rej := s.profileRej n
        if rej ≠ 0 then
          let s := ((s.put F.PRF_REJ_REASON rej).put F.PRF_REJ_PROF n).evt F.PRF_EVT_REJ
          (s.incSat F.PRF_CNT_REFUSED).event 0x8181 [b8 rej, b8 n]
        else if s.g F.PRF_STAT_IN_FORCE = n && s.on F.PRF_SEL_VALID && s.g F.PRF_SEL_PROF = n then s
        else
          let old := s.g F.PRF_STAT_IN_FORCE
          let s := ((s.put F.PRF_SEL_PROF n).put F.PRF_SEL_VALID 1).evt F.PRF_EVT_CHANGE
          let s := ((s.incSat F.PRF_CNT_CHANGES).event 0x8180 [b8 old, b8 n]).saveSettings (s.g F.UPD_SET_FMT)
          s.warmReset F.RST_CAUSE_SW false)

end Sys2Proof.Machine
end

