-- ==== Sys2Proof/Machine/Blocks.lean ====
section
/-! DEFINITION. Block resets and their quiescence windows (04_reset_and_boot, R123 to R127). -/

namespace Sys2Proof.Machine

/-- The unit and its children (R20). -/
def unitPages (p : Nat) : List Nat := p :: childPages p

/-- Units without block reset whose write is reported (R124). -/
def blkRefused (p : Nat) : Bool := p = 0x02 || p = 0x70 || p = 0x71 || p = 0x78 || p = 0x7A

/-- Units whose block reset the frame being composed cannot stand: CMP, every LAY and CAL (R258, R335). -/
def blkDefers (p : Nat) : Bool := (decide (0x18 ≤ p) && decide (p ≤ 0x28)) || p = 0x48

/-- Bits of a register that a block reset of the pages sets. -/
def pagesMask (pages : List Nat) (a : Nat) : Word := if pages.contains (a / 4096) then blockMask a else 0

/-- The block fields of the pages take their reset values (R10, R114, R577). -/
def State.blockFields (s : State) (pages : List Nat) : State :=
  ((s.withRegs (resetBank (pagesMask pages) s.regs)).withShadow (resetBank (pagesMask pages) s.shadow)).withPend (resetBank (pagesMask pages) s.pend)

/-- A link: its buffer and queues, and ALIGN for a link in 4, 5 or 6 (R160). -/
def State.blkLink (s : State) (l : Nat) : State :=
  let s := s.modLink l (fun k => { k with rx := [], waiting := none, ack := [], reg := [] })
  if decide (4 ≤ s.lst l) && decide (s.lst l ≤ 6) then s.linkTo l 3 else s

/-- CSF: pending tables, CURRENT and the timeout (R179, R181). -/
def State.blkCsf (s : State) : State :=
  (s.put F.CSF_STAT_CURRENT 0).withCsf { s.csf with pendA := [], pendB := [], stateAt := none }

/-- SAF: outputs low, every input in INIT (R429). -/
def State.blkSaf (s : State) : State := s.soutsOff.sinInit

/-- A beam engine leaves box-only mode; what it rendered of the frame stands (R282, R283). -/
def State.blkEngine (s : State) (n : Nat) : State :=
  (s.put (F.BE_STAT_BOX_ONLY n) 0).modEngine n (fun e => { e with boxDue := false, missed := false })

/-- CAL abandons the running interpolations and every pending bank (R335). -/
def State.blkCal (s : State) : State :=
  let s : State := s.withCal { s.cal with jobs := [] }
  (List.range 8).foldl (fun s t => s.modCal t (fun c => { c with waiting := none })) s

/-- FLX: the next sample of every tile is the first of case 7 (R349). -/
def State.blkFlx (s : State) : State := (List.range 8).foldl (fun s t => s.modFlx t (fun g => { g with first := true })) s

/-- A lane passes through TRAIN with its assignment kept; a FAILED lane starts as after OFF (R388, R622). -/
def State.blkLane (s : State) (n : Nat) : State :=
  let st := s.tlst n
  if st = 8 then (s.laneOff n).laneWake n
  else if st = 0 then s
  else
    let s := (s.abortPacket n).modLane n (fun l => { l with viaService := false, tries := 1, noAlive := 0, missRun := 0, msg := [] })
    s.put (F.TL_STAT_STATE n) 1

/-- SEG: the transaction in progress, DEBT and RUN (R416). -/
def State.blkSeg (s : State) : State :=
  let s : State := s.withSeg { s.seg with txn := none, aborts := 0 }
  (List.range 256).foldl (fun s c => (s.put (F.SEG_CHS_RUN c) 0).put (F.SEG_CHS_DEBT c) 0) s

/-- What the reset of one page does beside its fields. -/
def State.blkUnit (s : State) (p : Nat) : State :=
  if p = 0x08 || p = 0x09 then s.blkLink (p - 8)
  else if p = 0x0B then s.blkCsf
  else if p = 0x68 then s.blkSaf
  else if 0x31 ≤ p ∧ p ≤ 0x38 then s.blkEngine (p - 0x31)
  else if p = 0x48 then s.blkCal
  else if p = 0x49 then s.blkFlx
  else if 0x51 ≤ p ∧ p ≤ 0x58 then s.blkLane (p - 0x51)
  else if p = 0x60 then s.blkSeg
  else if p = 0x04 then s.withThm { s.thm with round := none, hist := [] }
  else s

/-- FIELD_OK is low for the duration of a block reset of GOV, SAF or CSF (R124, R425). -/
def State.blkField (s : State) (p : Nat) : State :=
  if flintOnly p && (s.g F.SAF_STAT_FSTATE = 2 || s.g F.SAF_STAT_FSTATE = 3) then s.put F.SAF_STAT_FSTATE 1 else s

/-- An injection armed for the unit is cancelled (R461, R467). -/
def State.blkInject (s : State) (pages : List Nat) : State :=
  if s.g F.FLT_INJ_STATE = 1 && pages.contains (srcCode (s.g F.FLT_INJ_INDEX) / 256) then (s.put F.FLT_INJ_STATE 0).put F.FLT_INJ_ARM 0 else s

/-- A write of 1 to UNIT_CTRL.BLK_RESET of page p by a master that may write it (R20, R21, R115, R123, R124). -/
def State.blkWrite (s : State) (p : Nat) : State :=
  if s.rst.scope.isSome || p = 0x00 then s
  else if blkRefused p then s.evt F.RST_EVT_BLK_REJ
  else
    let pages := unitPages p
    let s : State := s.withRst { s.rst with blocks := ⟨p, true⟩ :: s.rst.blocks.filter (fun b => b.page ≠ p) }
    let s := (s.put F.RST_BLK_STAT_LAST_UNIT p).blkInject pages
    let s := (s.blockFields pages).blkField p
    let s := pages.foldl (fun s q => s.blkUnit q) s
    (if blkDefers p then s.blkDefer else s).settle

/-- A tile whose way out of LOAD was abandoned is interpolated again (R335). -/
def State.calResume (s : State) : State :=
  (List.range 8).foldl (fun s t => if (s.calTile t).load && !tbit (s.g F.CAL_LOAD_LOAD) t then s.calStartNow t else s) s

/-- BLOCK_RESET_END: BLK_RESET reads 0; what it stopped goes on (R123, R211, R335). -/
def execBlockResetEnd (page : Nat) (s : State) : Host.Outcome State Fault Refusal :=
  let s := s.begin
  .next (if s.rst.blocks.any (fun b => b.page = page && b.running) then
    let s : State := s.withRst { s.rst with blocks := s.rst.blocks.map (fun b => if b.page = page then { b with running := false } else b) }
    (if page = 0x48 then s.calResume else s).settle
  else s)

/-- QUIESCENCE_END: QUIET_US after the end of the reset the unit's detectors are unmasked (R125). -/
def execQuiescenceEnd (page : Nat) (s : State) : Host.Outcome State Fault Refusal :=
  let s := s.begin
  .next (s.withRst { s.rst with blocks := s.rst.blocks.filter (fun b => b.page ≠ page || b.running) })

end Sys2Proof.Machine
end

