-- ==== Sys2Proof/Machine/Commits.lean ====
section
/-! DEFINITION. Commits: the checks of each unit's chapter, acceptance into the pending bank, and what goes into force at once
(18_register_map, R578 to R582; 01_architecture, R22). -/

namespace Sys2Proof.Machine

/-! ### The checks (R578): s is the present state, t the one that the commit would leave -/

/-- Bytes of a row of a layer, or of a row of blocks (R222, R226, R235). -/
def State.rowBytes (t : State) (n : Nat) : Nat :=
  let w := t.layW n
  match t.g (F.LAY_CTRL_FMT n) with
  | 0 => 2 * w
  | 1 => w
  | 2 => 2 * w
  | 3 => 2 * w
  | 4 => w
  | 5 => 3 * w
  | 6 => 4 * w
  | 7 => (w + 1) / 2 * 3
  | 8 => (w + 3) / 4 * 8
  | _ => (w + 3) / 4 * 16

/-- Formats and operations that a kind allows (R221). -/
def kindAllows (kind : Nat) : List Nat × List Nat :=
  match kind with
  | 0 => ([0, 1, 7, 8], [0, 1, 4])
  | 1 => ([5, 6], [0, 1, 2, 4])
  | 2 => ([3, 4, 8], [3])
  | _ => ([0, 1, 2, 8, 9], [1, 2, 4])

/-- Address after the last byte of buffer k of a layer (R226, R227; DEDUCED, log 28). -/
def State.bufEnd (t : State) (n k : Nat) : Nat :=
  let rows := if t.g (F.LAY_CTRL_FMT n) = 8 || t.g (F.LAY_CTRL_FMT n) = 9 then (t.layH n + 3) / 4 else t.layH n
  t.bufBase n k + (rows - 1) * t.pitch n + t.rowBytes n

/-- Layers that R28 counts: those whose ENABLE is 1. -/
def State.enabledLayers (t : State) : List Nat := (List.range 16).filter (fun n => t.on (F.UNIT_CTRL_ENABLE (layPage n)))

/-- First case of R227 that layer n meets; 0 for none. -/
def State.layRej (t : State) (n : Nat) : Nat :=
  let al := kindAllows (t.g (F.LAY_CTRL_KIND n))
  let skip := t.isGlare n || t.layZero n
  let pos := fun v => decide (-4096 ≤ signed 16 v) && decide (signed 16 v ≤ 4095)
  if !al.1.contains (t.g (F.LAY_CTRL_FMT n)) then 1
  else if !al.2.contains (t.g (F.LAY_CTRL_OP n)) then 2
  else if t.g (F.LAY_CTRL_SX n) = 3 || t.g (F.LAY_CTRL_SY n) = 3 then 3
  else if 2048 < t.layW n || 1024 < t.layH n then 4
  else if !(pos (t.g (F.LAY_POS_X0 n)) && pos (t.g (F.LAY_POS_Y0 n))) then 5
  else if !skip && decide (t.pitch n < t.rowBytes n) then 6
  else if !skip && (decide (t.cmdBase < t.bufEnd n 0) || decide (t.cmdBase < t.bufEnd n 1)) then 7
  else if 8 < t.maxCount t.enabledLayers then 8
  else if t.isGlare n && (t.g (F.LAY_CTRL_KIND n) ≠ 2 || (List.range 16).any (fun m => m ≠ n && t.isGlare m)) then 9
  else if t.g (F.LAY_MASK_DIL_R n) = 0 || 16 < t.g (F.LAY_MASK_DIL_R n) then 10
  else 0

/-- CMP_PERIOD lies outside R241. -/
def State.periodBad (t : State) : Bool :=
  let p := t.g F.CMP_PERIOD_PER_NS
  decide (p < 2083333) || decide (16666667 < p)

/-- SRC and EN of clone nibble n (R386). -/
def State.cloneSrc (t : State) (n : Nat) : Nat := t.g ⟨0x50, 0x64, 4 * n + 2, 4 * n⟩
def State.cloneEn (t : State) (n : Nat) : Bool := t.on ⟨0x50, 0x64, 4 * n + 3, 4 * n + 3⟩

/-- A clone setting breaks R387. -/
def State.cloneBad (t : State) : Bool :=
  (List.range 8).any (fun n => t.cloneEn n &&
    (t.cloneSrc n = n || t.cloneEn (t.cloneSrc n) || !t.on (F.UNIT_CTRL_ENABLE (0x51 + n)) || !t.on (F.UNIT_CTRL_ENABLE (0x51 + t.cloneSrc n))))

/-- The other cases of R396. -/
def State.tlnBad (t : State) : Bool :=
  let ofs := signed 32 (t.g F.TLN_FS_OFS_OFS_NS)
  t.g F.TLN_SYNC_DIV = 0 || decide (ofs < -16666667) || decide (16666667 < ofs) || decide (2400 < signed 16 (t.g F.TLN_OT_OT_C))
  || t.g F.TLN_OT_HYST = 0 || t.g F.TLN_OT_COOL_S = 0

/-- GLR_KSEL names a slot that is not VERIFIED (R285). -/
def State.kselBad (t : State) : Bool := !t.on F.GLR_KSEL_ROM && t.g (kstat (t.g F.GLR_KSEL_SLOT)) ≠ 2

/-- The other cases of R285 that concern the GLR page. -/
def State.glrBad (t : State) : Bool :=
  let w := t.g F.GLR_WIN_BLOCK
  (List.range 4).any (fun k => decide (t.g (F.GLR_MARGIN_MMAX k) < t.g (F.GLR_MARGIN_M0 k)))
  || t.g F.GLR_AGE_XMAX_MS = 0 || decide (100 < t.g F.GLR_AGE_XMAX_MS)
  || (List.range 8).any (fun n => t.laneEnabled n && decide (t.cmdBase < t.maskAddr n 0 0 + 0x40000))
  || decide (27 < w + 4)
  || (List.range 2).any (fun l => decide (w ≤ t.g (F.LNK_RXBUF_BLOCK l)) && decide (t.g (F.LNK_RXBUF_BLOCK l) ≤ w + 4))

/-- PH or PV of engine n is 0 (R285). -/
def State.beBad (t : State) (n : Nat) : Bool := t.g (F.BE_GEO1_PH n) = 0 || t.g (F.BE_GEO1_PV n) = 0

/-- R218. -/
def State.cmdBad (s t : State) : Bool :=
  (List.range 4).any (fun c => t.ringSize c = 0)
  || decide (0x20800000 < t.cmdBase + ((List.range 4).map t.ringSize).sum)
  || s.cmd.rings.any (fun r => !r.isEmpty) || s.on (F.UNIT_CTRL_ENABLE 0x18)

/-- R182. -/
def State.csfBad (t : State) : Bool :=
  let win := t.g F.CSF_CFG_WIN
  let tmo := t.g F.CSF_CFG_TMO
  win = 0 || tmo = 0 || t.g F.CSF_CFG_AGE_MAX = 0 || decide (10 * tmo ≤ win) || t.g F.CSF_ID_OWN_ID = t.g F.CSF_ID_HOST_ID

/-- R517. -/
def State.thmBad (t : State) : Bool :=
  let w := t.g F.THM_LIM_WARN_C
  let st := t.g F.THM_LIM_STOP_C
  decide (w < 100) || decide (140 < w) || decide (st < 110) || decide (145 < st) || decide (st ≤ w)
  || t.g F.THM_LIM_WARN_HYST = 0 || t.g F.THM_LIM_STOP_HYST = 0

/-- A mode and stream that CRC unit n cannot have, or that two units share (R598). -/
def State.crcUnitBad (t : State) (n : Nat) : Bool :=
  let m := t.g (F.CRC_CFG_MODE n)
  let st := t.g (F.CRC_CFG_STREAM n)
  let w := t.g (F.CRC_CFG_WIDTH n)
  decide (5 < st) || w = 0 || decide (32 < w)
  || (m ≠ 0 && st ≠ 0 && (List.range 4).any (fun k => k ≠ n && t.g (F.CRC_CFG_MODE k) ≠ 0 && t.g (F.CRC_CFG_STREAM k) = st))
  || (m = 1 && (st = 1 || st = 2 || st = 5)) || (m = 2 && (st = 3 || st = 4 || st = 5))

/-- The units that a stream is bound to, and their modes. -/
def State.bound (t : State) (st : Nat) : List (Nat × Nat) :=
  ((List.range 4).filter (fun n => t.g (F.CRC_CFG_MODE n) ≠ 0 && t.g (F.CRC_CFG_STREAM n) = st)).map (fun n => (n, t.g (F.CRC_CFG_MODE n)))

/-- An enabled link would lose a unit, or the binding of one of its streams would change (R598). -/
def State.crcLinkBad (s t : State) : Bool :=
  (List.range 2).any (fun l => s.on (F.UNIT_CTRL_ENABLE (8 + l)) &&
    (!(t.bound (l + 1)).any (fun e => e.2 = 2) || !(t.bound (l + 3)).any (fun e => e.2 = 1)
      || t.bound (l + 1) ≠ s.bound (l + 1) || t.bound (l + 3) ≠ s.bound (l + 3)))

/-- R457. -/
def State.modeBad (s t : State) : Bool := t.g F.FLT_CTRL_MODE ≠ s.g F.FLT_CTRL_MODE && s.pendCount ≠ 0

/-- The commit of page p fails its own check. -/
def State.pageBad (s t : State) (p : Nat) : Bool :=
  match p with
  | 0x01 => decide (3 < t.g F.CLK_SSC_DEPTH) || t.g F.CLK_SSC_RATE = 3
  | 0x04 => t.thmBad
  | 0x0B => t.csfBad
  | 0x10 => s.cmdBad t
  | 0x18 => t.periodBad
  | 0x30 => t.glrBad || t.kselBad
  | 0x49 => decide (32768 < t.g F.FLX_LIM_FMIN) || decide (t.g F.FLX_LIM_FMAX < 32768)
  | 0x50 => t.tlnBad || t.cloneBad
  | 0x60 => t.segRej ≠ 0
  | 0x68 => s.safRej t ≠ 0
  | 0x70 => s.modeBad t || t.g F.FLT_CTRL_ERRPIN_LVL = 0
  | 0x71 => !s.attestOk t
  | 0x88 => s.crcLinkBad t
  | p =>
    if 0x19 ≤ p ∧ p ≤ 0x28 then t.layRej (p - 0x19) ≠ 0
    else if 0x31 ≤ p ∧ p ≤ 0x38 then t.beBad (p - 0x31)
    else if 0x89 ≤ p ∧ p ≤ 0x8C then t.crcUnitBad (p - 0x89) || s.crcLinkBad t
    else false

/-- What page p records of a commit that failed its check. -/
def State.noteBad (s t : State) (p : Nat) : State :=
  match p with
  | 0x01 => s.evt F.CLK_EVT_SSC_REJ
  | 0x18 => s.evt F.CMP_EVT_PERIOD_REJ
  | 0x30 => if t.kselBad then s.evt F.GLR_EVT_KSEL_REJ else s
  | 0x50 => if t.cloneBad then s.evt F.TLN_EVT_CLONE_REJ else s
  | 0x60 => s.put F.SEG_REJ_REASON t.segRej
  | 0x68 => s.put F.SAF_REJ_REASON (s.safRej t)
  | 0x70 => if s.modeBad t then s.evt F.FLT_EVT_MODE_REJ else s
  | 0x71 => s.evt F.EVR_EVT_ATT_REJ
  | p => if 0x19 ≤ p ∧ p ≤ 0x28 then s.put (F.LAY_REJ_REASON (p - 0x19)) (t.layRej (p - 0x19)) else s

/-! ### Going into force (R579) -/

/-- FLT_SEV fields of sources of class FATAL keep 3, in both banks (R456). -/
def State.keepFatal (s : State) : State :=
  (List.range 75).foldl (fun s i =>
    if srcClass i = 3 && decide (s.g (fltSev i) < 3) then
      let s := (s.put (fltSev i) 3).evt F.FLT_EVT_SEV_IGN
      s.setShadow (fltSev i).addr (putField (s.shadowWord (fltSev i).addr) (fltSev i).hi (fltSev i).lo 3)
    else s) s

/-- The commit point of page p is the next cycle (R575, R579). -/
def State.atOnce (s : State) (p : Nat) : Bool :=
  !s.tln.running || [0x04, 0x0B, 0x10, 0x48, 0x49, 0x68, 0x70, 0x71].contains p || (decide (0x88 ≤ p) && decide (p ≤ 0x8C))

/-- The pending commit of page p goes into force in the cycle after its acceptance. -/
def State.landNow (s : State) (p : Nat) : State :=
  if s.pendPages.contains p && s.atOnce p then
    match p with
    | 0x48 => let before := s.g F.CAL_LOAD_LOAD; (s.apply 0x48).calLoadCommit before
    | 0x68 => (s.apply 0x68).safCommit
    | 0x70 => (s.apply 0x70).keepFatal
    | 0x71 => (s.apply 0x71).attest
    | p => if framePages.contains p then s.landStopped p else s.apply p
  else s

/-! ### GO and DISCARD (R22, R578, R581, R582) -/

/-- A page has RWC fields. -/
def hasRwc (p : Nat) : Bool := (pageRows p).any (fun r => r.acc = .rwc)

/-- Pages whose shadow banks a GO of page p takes: the page and, for a group other than SYS, its children, where they have RWC fields. -/
def commitPages (p : Nat) : List Nat := (unitPages p).filter hasRwc

/-- A GO of page p is accepted for the given pages. -/
def State.acceptAll (s : State) (p : Nat) (pages : List Nat) : State :=
  let s := pages.foldl (fun s q => s.acceptPage q) s
  let s := if pages.contains p then s else ((s.inc (F.UNIT_COMMIT_COUNT p)).put (F.UNIT_STATUS_COMMIT_ERR p) 0).put (F.UNIT_IRQ_STAT_COMMIT p) 1
  let group := if p = 24 then (List.range 16).filter (fun n => s.flips n) else s.cmp.heldGroup.filter (fun n => layPage n ≠ p)
  -- a new commit of a layer replaces a held one, and is first tested at the next latch point (R243, R248)
  let s : State := s.withCmp { s.cmp with heldGroup := group, held := s.cmp.held.filter (fun n => !pages.contains (layPage n)) }
  pages.foldl (fun s q => s.landNow q) s

/-- A GO of page p fails the checks of the listed pages. -/
def State.rejectAll (s t : State) (p : Nat) (bad : List Nat) : State :=
  let s := bad.foldl (fun s q => (s.noteBad t q).rejectPage q) s
  s.rejectPage p

/-- A write of GO = 1 to UNIT_COMMIT of page p (R22, R578). -/
def State.go (s : State) (p : Nat) : State :=
  let pages := commitPages p
  if s.blockRunning p then s.rejectPage p
  else if pages.isEmpty then
    ((s.inc (F.UNIT_COMMIT_COUNT p)).put (F.UNIT_STATUS_COMMIT_ERR p) 0).put (F.UNIT_IRQ_STAT_COMMIT p) 1
  else
    let t := s.candidate pages
    let bad := (if pages.contains p then pages else p :: pages).filter (s.pageBad t)
    if bad.isEmpty then s.acceptAll p pages else s.rejectAll t p bad

/-- A write of v to UNIT_COMMIT of page p: GO with DISCARD discards alone (R581). -/
def State.commitWrite (s : State) (p : Nat) (v : Word) : State :=
  if wordField v 1 1 = 1 then s.discardPage p
  else if wordField v 0 0 = 1 then s.go p
  else s

end Sys2Proof.Machine
end

