-- ==== Sys2Proof/Machine/Boot.lean ====
section
/-! DEFINITION. The boot steps from FUSE_LOAD to FIRST_LIGHT (04_reset_and_boot, R128 to R140), with the choice of slots, settings, profile and
calibration (09_granite_governor, 10_uniformity_and_flux, 17_update_and_profiles). -/

namespace Sys2Proof.Machine

/-- The step with code c is under way, and the cores that run it do. -/
def State.bootRuns (s : State) (c : Nat) : Bool := s.inStep c && s.garnetRuns

/-! ### FUSE_LOAD and MBIST (R513, R516, R525, R526, R539, R542) -/

/-- Rows whose parity is checked: every row that is not incremental (R542). -/
def parityRows (l : List Nat) : List Nat := l.filter (fun r => decide (r ≤ 17) && r ≠ 0)

/-- Rows that fail their parity are marked (R542). -/
def State.markParity (s : State) (bad : List Nat) : State :=
  let l := (List.range 29).filter (parityRows bad).contains
  let s : State := s.withFus { s.fus with parity := l }
  let s := s.put F.FUS_STAT_PAR_ROWS l.length
  if l.isEmpty then s else s.evt F.FUS_EVT_PARITY

/-- The HUK enters vault slot 0 in TEST and PROD (R525, R526). -/
def State.loadHuk (s : State) : State :=
  let k := if (s.lc = 1 || s.lc = 2) && !s.fus.parity.contains 7 then s.fuse 7 else 0
  s.withSec { s.sec with vault := s.sec.vault.set 0 k }

/-- The PMIC is addressed in FUSE_LOAD of a cold boot and of a DEEP exit: LY_STATE becomes RUN (R513). -/
def State.pmbBoot (s : State) (ok : Bool) : State :=
  if s.rst.cold || s.rst.deepExit then
    if ok then (s.withPwr { s.pwr with lyState := 0 }) else s.pmbFail
  else s

/-- FUSE_LOAD: pmb says that the PMIC answered, badRows are the rows whose parity fails. In RAW recovery follows, in DECOM BOOT_STOP (R526). -/
def execFuseLoad (pmb : Bool) (badRows : List Nat) (s : State) : Host.Outcome State Fault Refusal :=
  let s := s.begin
  .next (if s.bootRuns 4 then
    let s := ((s.put F.PWR_STAT_PADS_LATCHED 0).senseRows.markParity badRows).loadHuk.pmbBoot pmb
    let s := s.put F.BST_MB_STAT_FUSED_USED s.fusedRepairs.length
    if s.lc = 0 then (s.endEntry 2 0 0).enterRecovery
    else if s.lc = 4 then (s.endEntry 2 0 0).bootStop
    else s.stepDone 0
  else s)

/-- MBIST: the failing rows and columns in the layout of R540 (R539). -/
def execMbist (fails : List Nat) (s : State) : Host.Outcome State Fault Refusal :=
  let s := s.begin
  .next (if s.bootRuns 5 then
    let s := s.memResult fails
    if s.g F.BST_MB_STAT_RESULT = 4 then (s.raise S.BST_FAIL 0).stepFails (s.g F.BST_MB_STAT_FAIL_ARR) else s.stepDone 0
  else s)

/-! ### JOURNAL (R130, R133 to R139, R479 to R481, R509, R556) -/

/-- The flash copy with the higher BOOT_NO among the valid ones; of equal ones the newer (R133). -/
def State.journalBest (s : State) : Option Nat :=
  let no := fun i => s.le (journalCopy i + 4) 4
  if s.copyOk 0 && s.copyOk 1 then some (if no 1 < no 0 then 0 else if no 0 < no 1 then 1 else 1 - s.rst.copy)
  else if s.copyOk 0 then some 0
  else if s.copyOk 1 then some 1
  else none

/-- A fresh journal (R133, R134). -/
def State.freshJournal (s : State) : State :=
  let s := s.setBytes journalBase (List.replicate 1120 0)
  ((s.jput 0 2 0xB0A7).jput 2 1 1).jseal.evt F.RST_EVT_JOURNAL_NEW

/-- The journal is opened; the Bool says that it is fresh. -/
def State.openJournal (s : State) : Bool × State :=
  let copy := if !s.copyOk 0 then 0 else if !s.copyOk 1 then 1 else s.rst.copy
  let s : State := s.withRst { s.rst with copy := copy, journalOpen := true }
  if headerOk (s.bytes journalBase 32) then (false, s)
  else match s.journalBest with
    | some i => (false, s.setBytes journalBase (s.bytes (journalCopy i) 1120))
    | none => (true, s.freshJournal)

/-- Steps with a timeout that the current record shows as STARTED and not ended (R130). -/
def State.unfinished (s : State) : List Nat :=
  let at_ := fun i => s.jrec + 16 + 8 * i
  ((List.range 32).filter (fun i => s.jget (at_ i + 1) 1 % 16 = 1 && decide (4 ≤ s.jget (at_ i) 1) && decide (s.jget (at_ i) 1 ≤ 14))).map
    (fun i => s.jget (at_ i) 1)

/-- The previous record is closed: unfinished steps are avoided, and an open one gets OUTCOME 4 and goes to flash (R130, R137). -/
def State.closeRecord (s : State) : State :=
  let s := s.unfinished.foldl (fun s c => s.setAvoid c) s
  if s.jget (s.jrec + 6) 1 = 0 then (s.jput (s.jrec + 6) 1 4).journalFlash else s

/-- The record of the boot under way, with the entries that waited (R133, R135). -/
def State.newRecord (s : State) (fresh : Bool) : State :=
  let cur := if fresh then 0 else (s.jget 3 1 + 1) % 4
  let no := (s.jget 4 4 + 1) % 2 ^ 32
  let s := ((s.jput 3 1 cur).jput 4 4 no).jseal
  let h := leBytes 4 no ++ leBytes 2 (s.word F.RST_CAUSE_POR.addr).toNat ++ [0, 0] ++ leBytes 4 (s.g F.RST_EPOCH_EPOCH) ++ leBytes 4 (s.g F.EVR_PCC_COUNT)
  let es := s.rst.early.take 32
  let s := s.setBytes (journalBase + s.jrec) (h ++ es.flatten ++ List.replicate (256 - 8 * es.length) 0)
  s.withRst { s.rst with entry := es.length, early := [] }

/-- SEQ and OH_MS of a record in a slot of 32 bytes; none when its two SEQ words differ (R470, R472). -/
def State.recordAt (s : State) (a : Nat) : Option (Nat × Nat) :=
  let q := s.le a 4
  if q ≠ 0 && q ≠ 0xFFFFFFFF && s.le (a + 28) 4 = q then some (q, s.le (a + 4) 6) else none

/-- Largest SEQ, with its OH_MS, among the valid records of n slots. -/
def State.newestRecord (s : State) (base n : Nat) : Nat × Nat :=
  (List.range n).foldl (fun m k => match s.recordAt (base + 32 * k) with
    | some r => if m.1 < r.1 then r else m
    | none => m) (0, 0)

/-- The largest of a quantity over the valid checkpoints and a further value. -/
def State.ckMax (s : State) (f : Checkpoint → Nat) (x : Nat) : Nat :=
  max x (max ((s.evr.ckRet.map f).getD 0) ((s.evr.ckFlash.map f).getD 0))

/-- The time base of a cold boot: OH_MS, EVR_HEAD, the mirror's newest, WKC and ATT_SUM restored, PCC incremented (R479, R480). -/
def State.restoreTime (s : State) : State :=
  let ring := s.newestRecord 0x18000000 4096
  let mirror := s.newestRecord 0x60100000 32768
  let sum := s.ckMax (·.attSum) 0
  let s := s.setOh (s.ckMax (·.oh) (max ring.2 mirror.2))
  let s := (s.put F.EVR_HEAD_SEQ (s.ckMax (·.head) (max ring.1 mirror.1))).put F.EVR_MIRROR_SEQ mirror.1
  let s := (s.put F.EVR_PCC_COUNT (s.ckMax (·.pcc) 0 + 1)).put F.EVR_WKC_COUNT (s.ckMax (·.wkc) 0)
  (s.put F.EVR_ATT_SUM_LO_SUM sum).put F.EVR_ATT_SUM_HI_SUM (sum / 2 ^ 32)

/-- The epoch of a cold boot: one more than the stored one, and never 0 (R138, R139). -/
def State.newEpoch (s : State) : State :=
  let e := s.epochStored.2
  ((s.put F.RST_EPOCH_EPOCH (if e = 0xFFFFFFFF then 1 else e + 1)).put F.RST_EPOCH_STAT_SAVED 0).saveEpoch

/-- A slot found in RECEIVING or VERIFYING at a cold boot becomes EMPTY (R556). -/
def State.dropReceiving (s : State) : State :=
  (List.range 6).foldl (fun s n =>
    if s.slotState n = 1 || s.slotState n = 2 then (s.modSlot n (fun _ => Slot.init)).toSlot n 0 0 else s) s

/-- What JOURNAL does in a cold boot (R114, R138, R479 to R481). -/
def State.journalCold (s : State) : State :=
  let lost := (s.newestRecord 0x18000000 4096).1 = 0 && (s.newestRecord 0x60100000 32768).1 ≠ 0
  let s := if lost then s.evt F.EVR_EVT_RING_NEW else s
  (s.restoreTime.newEpoch.dropReceiving).evrStart 1

/-- What JOURNAL does after a DEEP exit (R479 to R481, R509, R514). -/
def State.journalDeep (s : State) : State :=
  let s := match s.evr.ckRet with
    | some c => (s.setOh c.oh).put F.EVR_HEAD_SEQ c.head
    | none => s
  let s := (s.inc F.EVR_WKC_COUNT).evrStart 2
  let s := ((s.pwrTo .run).flintResume)
  if s.on F.PWR_STAT_ACK_LATE then s.raise S.PWR_ACK_TMO 0 else s

/-- The causes that JOURNAL reports (R454). -/
def State.journalCauses (s : State) : State :=
  let s := if s.on F.RST_CAUSE_PG_LOSS || s.on F.RST_CAUSE_SUPPLY || s.on F.RST_CAUSE_THM_CRIT then s.raise S.RST_COLD_CAUSE 0 else s
  if s.on F.RST_CAUSE_WDT_APP || s.on F.RST_CAUSE_WDT_FLINT || s.on F.RST_CAUSE_BOOT_TMO then s.raise S.RST_WARM_CAUSE 0 else s

/-- JOURNAL: opens the journal, closes the last record, counts TRIES, restores the time base, and enters recovery when RCVY_N or TRIES asks for it. -/
def execJournal (s : State) : Host.Outcome State Fault Refusal :=
  let s := s.begin
  .next (if s.bootRuns 6 then
    let (fresh, s) := s.openJournal
    let s := if fresh then s else s.closeRecord
    let s := (s.jput 8 4 (s.jget 8 4 ||| s.rst.avoid)).jseal
    let s := s.put F.RST_BJ_AVOID_AVOID (s.jget 8 4)
    let tries := s.jget 0xC 1
    let s := if s.rst.cold then s.journalCold else if s.rst.deepExit then s.journalDeep else s
    let s := (s.newRecord fresh).setTries (if tries < 8 then tries + 1 else 8)
    let s := s.journalCauses
    if s.rst.recoveryStrap || decide (8 ≤ tries) then (s.endEntry 2 0 0).enterRecovery else s.stepDone 0
  else s)

/-! ### MAIN_IMAGE (R557, R559, R560) -/

/-- The main or calibration slot of a pair that stands in a state. -/
def State.slotIn (s : State) (l : List Nat) (st : Nat) : Option Nat := l.find? (fun n => s.slotState n = st)

/-- A main slot as MAIN_IMAGE checks it, with the TOTAL_SIZE of its own header. -/
def State.mainBad (s : State) (n : Nat) (aOk bOk : Bool) : Nat × State := s.checkMain n (s.slotField n 28 4) (if n = 0 then aOk else bOk)

/-- Entries of TYPE 1 and 2 are copied to their LOAD addresses in SRAM (R551, R557). -/
def State.loadEntries (s : State) (n : Nat) : State :=
  (s.mainEntries n).foldl (fun s e =>
    if (entType e = 1 || entType e = 2) && regionOf (entLoad e) = some .sram && regionOf (entLoad e + entSize e - 1) = some .sram then
      s.setBytes (entLoad e) (s.slotBytes n (entOfs e) (entSize e))
    else s) s

/-- Bit p: the bundle holds a record for profile p (R571). -/
def State.recordMap (s : State) (n : Nat) : Nat :=
  (List.range 4).foldl (fun v p => if (s.mainEntries n).any (fun e => entType e = 4 && entIndex e = p) then v + 2 ^ p else v) 0

/-- A main slot boots: what MAIN_IMAGE loads and reports; unfinished fuses are resumed (R557, R559, R570). -/
def State.bootMain (s : State) (n : Nat) : State :=
  let s := s.loadEntries n
  let s := ((s.put F.UPD_STAT_MAIN_ACT n).put F.RST_BOOT_STAT_SLOT_B n).put F.UPD_STAT_TRIAL (bit (s.slotState n = 5))
  let s := ((s.put F.UPD_VER_VER (s.slotField n 24 4)).put F.PRF_STAT_RECORDS (s.recordMap n))
  ((s.showMain 0).showMain 1).fuseWork.stepDone n

/-- A failed trial is ended (R560). -/
def State.endTrial (s : State) : State :=
  match s.upd.trial with
  | some n =>
    if s.upd.trialFailed then
      let s : State := s.withUpd { s.upd with trial := none, trialFailed := false, trialAt := none }
      ((s.toSlot n 7 9).evt F.UPD_EVT_TRIAL_FAIL).event 0x8082 [b8 n]
    else s
  | none => s

/-- The PENDING main slot n has been checked: it boots as TRIAL or is REJECTED; the Bool says that it boots. -/
def State.tryPending (s : State) (n : Nat) (aOk bOk : Bool) : Bool × State :=
  let (r, s) := s.mainBad n aOk bOk
  if r = 0 then
    let s := s.toSlot n 5 0
    (true, (s.withUpd { s.upd with trial := some n }))
  else (false, s.toSlot n 7 r)

/-- The other slot of the ACTIVE slot n is taken as the alternative, if it is VERIFIED; otherwise n itself is tried once more (R130, R131, R557; DEDUCED, log 29). -/
def State.mainAlt (s : State) (n : Nat) (aOk bOk : Bool) : State :=
  let o := otherSlot n
  let (rn, s) := s.mainBad n aOk bOk
  if s.slotState o = 3 then
    let (ro, s) := s.mainBad o aOk bOk
    if ro = 0 then ((s.toSlot o 6 0).toSlot n 7 rn).bootMain o else s.stepFails ro
  else if rn = 0 then s.bootMain n else s.stepFails rn

/-- The ACTIVE slot boots, or its alternative when the step takes that. -/
def State.mainActive (s : State) (aOk bOk : Bool) : State :=
  match s.slotIn [0, 1] 6 with
  | none => s.stepFails 0
  | some n =>
    if s.rst.alt then s.mainAlt n aOk bOk
    else
      let (r, s) := s.mainBad n aOk bOk
      if r = 0 then s.bootMain n else s.stepFails r

/-- MAIN_IMAGE: aOk and bOk are the signature verdicts of slots A and B. -/
def execMainImage (aOk bOk : Bool) (s : State) : Host.Outcome State Fault Refusal :=
  let s := s.begin
  .next (if s.bootRuns 7 then
    let s := s.endTrial
    match s.slotIn [0, 1] 4 with
    | some p =>
      let (ok, s) := s.tryPending p aOk bOk
      if ok then s.bootMain p else s.mainActive aOk bOk
    | none => s.mainActive aOk bOk
  else s)

/-! ### GRANITE (R312, R325, R327) -/

/-- The verdict of a Granite slot's signature. -/
def graniteOk (n : Nat) (aOk bOk : Bool) : Bool := if n = 2 then aOk else bOk

/-- The table set of profile p is in Granite RAM and reported (R301, R306, R327). -/
def State.loadTables (s : State) (n p : Nat) : State :=
  let b := s.granitePart n (1 + p)
  let h := b.drop 0x5A000
  let s := s.setBytes 0x30020000 b
  let s := ((s.put F.GOV_PROF_PROFILE p).put F.GOV_PROF_CUTOFF_TILES (ofLe (slice h 6 1))).put F.GOV_PROF_ZONES (ofLe (slice h 4 2))
  (s.put F.GOV_SPEED_SPEED_THR (ofLe (slice h 2 2))).put F.GOV_STAT_TABLES_OK 1

/-- The bundle of slot n holds a table set for profile p. -/
def State.hasTables (s : State) (n p : Nat) : Bool := (s.graniteEntry n (1 + p)).2.1 ≠ 0

/-- Flint loads the tables of profile p with FORCE at 2, and clears FORCE (R312); the Bool says that they pass their checks. -/
def State.tryTables (s : State) (n p : Nat) : Bool × State :=
  let s := (s.put F.GOV_CTRL_FORCE 2).put F.GOV_STAT_TABLES_OK 0
  if s.hasTables n p && s.partOk n (1 + p) (s.slotField n 44 4) then (true, (s.loadTables n p).put F.GOV_CTRL_FORCE 0)
  else (false, (s.evt F.GOV_EVT_TBL_FAIL).raise S.GOV_TBL 0)

/-- What GRANITE reports of the active bundle in slot n (R320, R329, R571). -/
def State.showBundle (s : State) (n : Nat) : State :=
  let d := s.graniteDigest n
  let s := (List.range 4).foldl (fun s k => s.put (F.GOV_SWID_SWID k) (s.slotField n (24 + 4 * k) 4)) s
  let s := (List.range 8).foldl (fun s k => s.put (F.GOV_DIGEST_DIGEST k) (ofLe (slice d (4 * k) 4))) s
  let s := ((s.put F.GOV_APPROVAL_BUNDLE_NO (s.slotField n 20 4)).put F.GOV_SLOT_ACTIVE (n - 2)).put F.RST_BOOT_STAT_G_SLOT_B (n - 2)
  let s := (s.showGranite 2).showGranite 3
  s.put F.PRF_STAT_TABLES ((List.range 4).foldl (fun v p => if s.hasTables n p then v + 2 ^ p else v) 0)

/-- Flint commits the SAF configuration and makes its first kick (R424, R442). -/
def State.flintSetup (s : State) : State := (s.go 0x68).flintKick 0xC3#32

/-- Granite slot n boots: image, manifest and the strap profile's tables are loaded (R301, R327). -/
def State.bootGranite (s : State) (n : Nat) : State :=
  let s := s.setBytes 0x30000000 (s.granitePart n 0)
  let s := s.setBytes 0x3007B000 (s.slotBytes n (s.slotField n 48 4) 200)
  let s := s.showBundle n
  let p := s.g F.PRF_STAT_STRAP
  let s := if s.hasTables n p then (s.tryTables n p).2 else s
  s.flintSetup.stepDone (n - 2)

/-- The APPROVAL records (R328, R471, R483). -/
def State.approvalEvent (s : State) (n : Nat) : State :=
  let w := s.slotBytes n 24 16
  let s := s.event 0x4084 ([0, b8 s.approvals] ++ slice w 0 4)
  let s := (s.record ⟨0x4084, 0, 0x40, 1, slice w 4 6⟩).2
  (s.record ⟨0x4084, 0, 0x40, 1, slice w 10 6⟩).2

/-- The next counter fuse is programmed (R321, R325). -/
def State.approve (s : State) (n : Nat) : State :=
  let b := ((List.range 128).find? (fun b => !tbit (s.fuse 19) b)).getD 0
  ((s.program 19 b).evt F.GOV_EVT_APPROVAL).approvalEvent n

/-- The AVOID bit of the step under way has just been cleared: the step goes on with its primary path (R131; DEDUCED, log 29). -/
def State.primary (s : State) : State := s.withRst { s.rst with alt := false }

/-- Step 3 of R325: slot n is active and is the one that boots; the slot that was falls back to VERIFIED, and the copy of step 4 is due. -/
def State.graniteActive (s : State) (n : Nat) : State :=
  let s := s.toSlot n 6 0
  let s := match s.gov.active with
    | some a => if a ≠ n - 2 && s.slotState (2 + a) = 6 then s.toSlot (2 + a) 3 0 else s
    | none => s
  ((s.withGov { s.gov with active := some (n - 2), copyDue := true }).clearAvoid [8]).primary

/-- A PENDING Granite slot n that passes its checks: activated, rejected for its fuse, or deferred; the Bool says that it is active (R325). -/
def State.complete (s : State) (n : Nat) (fuseOk : Bool) : Bool × State :=
  if s.slotField n 20 4 = s.approvals + 1 then
    if !s.on F.THM_STAT_FUSE_OK then
      (false, (s.put F.GOV_SLOT_DEFER_TEMP 1).event 0x4085 (0 :: leBytes 2 (s.g F.THM_HOT_MAX)))
    else if fuseOk then (true, (s.approve n).graniteActive n)
    else (false, s.toSlot n 7 10)
  else (true, s.graniteActive n)

/-- The other slot of the active Granite slot n is taken as the alternative: it is judged as the bundle that becomes active (R130, R327, R557; DEDUCED, log 29). -/
def State.graniteAlt (s : State) (n : Nat) (aOk bOk : Bool) : State :=
  let o := otherSlot n
  let (rn, s) := s.checkGranite n (graniteOk n aOk bOk)
  if s.slotState o = 3 then
    let t : State := s.withGov { s.gov with active := some (o - 2) }
    let (ro, t) := t.checkGranite o (graniteOk o aOk bOk)
    if ro = 0 then ((t.toSlot o 6 0).toSlot n 7 rn).bootGranite o else s.stepFails ro
  else if rn = 0 then s.bootGranite n else s.stepFails rn

/-- The active Granite slot boots, or its alternative. -/
def State.graniteBoot (s : State) (aOk bOk : Bool) : State :=
  match s.gov.active with
  | none => s.stepFails 0
  | some a =>
    if s.rst.alt then s.graniteAlt (2 + a) aOk bOk
    else
      let (r, s) := s.checkGranite (2 + a) (graniteOk (2 + a) aOk bOk)
      if r = 0 then s.bootGranite (2 + a) else s.stepFails r

/-- GRANITE: aOk and bOk are the signature verdicts of G-A and G-B, fuseOk says that a counter fuse reads back as programmed. While another
fuse is being programmed the step waits. -/
def execGranite (aOk bOk fuseOk : Bool) (s : State) : Host.Outcome State Fault Refusal :=
  let s := s.begin
  .next (if s.bootRuns 8 && !s.saf.halted then
    match s.slotIn [2, 3] 4 with
    | some p =>
      if s.fus.job.isSome then s
      else
        let (r, s) := s.checkGranite p (graniteOk p aOk bOk)
        if r = 0 then
          let (_, s) := s.complete p fuseOk
          s.graniteBoot aOk bOk
        else (s.toSlot p 7 r).graniteBoot aOk bOk
    | none => s.graniteBoot aOk bOk
  else s)

/-! ### SETTINGS (R562, R563) -/

/-- The valid copy with the higher COUNT: its TAG was made with the HUK in the vault, and never in RMA (R526, R562, R563). -/
def State.setBest (s : State) : Option SetRec :=
  let ok := fun i => match s.upd.settings.getD i none with
    | some r => if r.key = s.sec.vault.getD 0 0 && s.lc ≠ 3 then some r else none
    | none => none
  match ok 0, ok 1 with
  | some a, some b => some (if a.count < b.count then b else a)
  | some a, none => some a
  | none, b => b

/-- SETTINGS_FMT of the running bundle. -/
def State.runFmt (s : State) : Nat := s.slotField (s.g F.UPD_STAT_MAIN_ACT) 6 2

/-- The settings are reset to the defaults for a reason (R563). -/
def State.setReset (s : State) (reason old : Nat) : State :=
  let s := ((s.put F.UPD_SET_FMT s.runFmt).put F.UPD_SET_RESET reason).evt F.UPD_EVT_SET_RESET
  ((s.put F.PRF_SEL_PROF 0).put F.PRF_SEL_VALID 0).event 0x8083 (b8 reason :: leBytes 2 old)

/-- SETTINGS: ok says that flash could be read. A choice whose record still waits for the window stands (R499, R568; log 27). -/
def execSettings (ok : Bool) (s : State) : Host.Outcome State Fault Refusal :=
  let s := s.begin
  .next (if s.bootRuns 9 then
    if !ok then (s.setReset 3 0).stepFails 3
    else
      let s := match s.setBest with
        | some r =>
          if r.fmt = s.runFmt then
            let s := (s.put F.UPD_SET_FMT r.fmt).put F.UPD_SET_RESET 0
            if s.thm.deferred.contains .settings then s else (s.put F.PRF_SEL_PROF r.profSel).put F.PRF_SEL_VALID (r.profSel / 128)
          else (s.setReset 2 r.fmt).saveSettings s.runFmt
        | none => (s.setReset 1 0).saveSettings s.runFmt
      s.stepDone 0
  else s)

/-! ### PROFILE (R565 to R567) -/

/-- The record of profile p in the booted main bundle. -/
def State.profRecord (s : State) (p : Nat) : Option (List Byte) :=
  let n := s.g F.UPD_STAT_MAIN_ACT
  ((s.mainEntries n).find? (fun e => entType e = 4 && entIndex e = p)).map (fun e => s.slotBytes n (entOfs e) (entSize e))

/-- A profile record is well formed (R565). -/
def recordOk (b : List Byte) (p : Nat) : Bool :=
  let k := ofLe (slice b 0x0C 2)
  decide (128 ≤ b.length) && ofLe (slice b 0 4) = 0x4C595031 && ofLe (slice b 4 1) = p && decide (ofLe (slice b 5 1) ≤ 1) && allZero b 7 1
  && decide (k ≤ 256) && b.length = 128 + 4 * k && allZero b 0x0E 2 && allZero b 0x50 48

/-- The SEG_CH entries of a record are in the shadow bank; channels beyond them are unused (R410, R566). -/
def State.shadowSeg (s : State) (b : List Byte) : State :=
  let k := ofLe (slice b 0x0C 2)
  (List.range 256).foldl (fun s c => s.setShadow (F.SEG_CH_INT c).addr (BitVec.ofNat 32 (if c < k then ofLe (slice b (0x80 + 4 * c) 4) else 0))) s

/-- The geometry of a record's tiles is in the shadow banks of their engines (R278, R566). -/
def State.shadowGeo (s : State) (b : List Byte) (tiles : Nat) : State :=
  (List.range 8).foldl (fun s n =>
    if tbit tiles n then
      (s.setShadow (F.BE_GEO0_H0 n).addr (BitVec.ofNat 32 (ofLe (slice b (0x10 + 8 * n) 4)))).setShadow (F.BE_GEO1_PH n).addr
        (BitVec.ofNat 32 (ofLe (slice b (0x14 + 8 * n) 4)))
    else s) s

/-- A record is applied: SEG_CH and BE_GEO are committed, SEG runs when the record names channels, and PRF reports it (R566, R571). -/
def State.applyProfile (s : State) (b : List Byte) (p : Nat) (cmd : Bool) : State :=
  let tiles := ofLe (slice b 6 1)
  let s := (s.shadowSeg b).go 0x60
  let s := s.shadowGeo b tiles
  let s := (List.range 8).foldl (fun s n => if tbit tiles n then s.go (0x31 + n) else s) s
  let s := if ofLe (slice b 0x0C 2) = 0 then s else s.put (F.UNIT_CTRL_ENABLE 0x60) 1
  let s := ((s.put F.PRF_STAT_IN_FORCE p).put F.PRF_STAT_FROM_CMD (bit cmd)).put F.PRF_STAT_TRAFFIC (ofLe (slice b 5 1))
  let s := (s.put F.PRF_STAT_TILES tiles).put F.RST_BOOT_STAT_PRF0_FORCED (bit s.rst.alt)
  s.jput (s.jrec + 7) 1 p

/-- Profile p is valid and put in force, with the case that fails: 1 no record, 2 tables, 3 cut-off tiles, 4 segment map (R567). -/
def State.tryProfile (s : State) (p : Nat) (cmd : Bool) : Nat × State :=
  match s.profRecord p, s.gov.active with
  | some b, some a =>
    if !recordOk b p then (1, s)
    else
      let (ok, s) := if s.on F.GOV_STAT_TABLES_OK && s.g F.GOV_PROF_PROFILE = p then (true, s) else s.tryTables (2 + a) p
      if !ok then (2, s)
      else if s.g F.GOV_PROF_CUTOFF_TILES &&& ofLe (slice b 6 1) ≠ s.g F.GOV_PROF_CUTOFF_TILES then (3, s)
      else if ((s.shadowSeg b).candidate [0x60]).segRej ≠ 0 then (4, s)
      else (0, s.applyProfile b p cmd)
  | _, _ => (1, s)

/-- PROFILE: ok says that the bundle could be read (R130, R567). -/
def execProfile (ok : Bool) (s : State) : Host.Outcome State Fault Refusal :=
  let s := s.begin
  .next (if s.bootRuns 10 && !s.saf.halted then
    let cmd := !s.rst.alt && s.on F.PRF_SEL_VALID && s.on F.FUS_OPT_PROF_CMD
    let p := if s.rst.alt then 0 else if cmd then s.g F.PRF_SEL_PROF else s.g F.PRF_STAT_STRAP
    if !ok then s.stepFails 0
    else
      let (r, s) := s.tryProfile p cmd
      if r = 0 then s.stepDone p else s.stepFails r
  else s)

/-! ### CALIB (R337 to R342, R353, R355, R356) -/

/-- Tile t takes the default calibration, with the reason that SRC reports (R341, R342). -/
def State.tileDefault (s : State) (t src : Nat) : State := (s.calDefault t).put (F.CAL_TILE_SRC t) src

/-- The section b of tile t is in the store; its flux gain comes from the record of R353 when that fits the set. -/
def State.tileLoad (s : State) (n t : Nat) (b : List Byte) : State :=
  let s := s.setBytes (0x28260100 + 0x40 * t) (b.take 64)
  let s := s.setBytes (gainAddr t 0 0) ((b.drop 64).take 262144)
  let s := s.setBytes (0x28200000 + 0x8000 * t) (b.drop 262208)
  let gain := match s.flx.record with
    | some r => if r.setId = s.slotField n 0x14 4 then (r.tiles.getD t (0, 0)).2 else ofLe (slice b 0x10 4)
    | none => ofLe (slice b 0x10 4)
  ((s.put (F.FLX_SENS_SENS t) (ofLe (slice b 0x0E 2))).put (F.FLX_GAIN_F23 t) gain).put (F.CAL_TILE_SRC t) 0

/-- A tile of the set in slot n: its section, or the default when it has none or an invalid one (R341). -/
def State.calTileFrom (s : State) (n t : Nat) : State :=
  match s.setSection n t with
  | some b => if sectionOk b then s.tileLoad n t b else (s.tileDefault t 2).evt F.CAL_EVT_TILE_DEFAULT
  | none => (s.tileDefault t 4).evt F.CAL_EVT_TILE_DEFAULT

/-- The set header in slot n passes R341. -/
def State.calHeaderOk (s : State) (n : Nat) : Bool :=
  let h := s.slotBytes n 0 256
  ofLe (slice h 0 4) = 0x4C594331 && ofLe (slice h 4 2) = 1 && ofLe (slice h 0xFC 4) = crc32 (h.take 0xFC)
  && ofLe (slice h 8 4) = s.fuse 1 && !s.wrongUnit (ofLe (slice h 0x0C 8))

/-- CAL and FLX are brought up, and the trims run (R128, R356, R575). -/
def State.calUp (s : State) : State :=
  ((s.put (F.UNIT_CTRL_ENABLE 0x48) 1).put (F.UNIT_CTRL_ENABLE 0x49) 1).calCmd 0x100#32

/-- The default calibration of every tile, and curves whose every Q is 32,768 (R342, R355). -/
def State.calAllDefault (s : State) : State :=
  let curve := leBytes 4 0x80000000 ++ leBytes 4 0x80000001 ++ leBytes 4 0x80000002 ++ leBytes 4 0x80000003
  let s := s.setBytes 0x28260000 (List.replicate 64 0 ++ curve ++ curve ++ curve ++ curve ++ List.replicate 128 0)
  let s := (List.range 8).foldl (fun s t => s.tileDefault t 1) s
  (s.put F.RST_BOOT_STAT_CAL_DEFAULT 1).put F.CAL_SET_SET_ID 0

/-- A PENDING calibration slot becomes ACTIVE, and the other VERIFIED; its set is then the one to load (R558). -/
def State.calPending (s : State) : State :=
  match s.slotIn [4, 5] 4 with
  | some n =>
    let s := s.toSlot n 6 0
    let s := if s.slotState (otherSlot n) = 6 then s.toSlot (otherSlot n) 3 0 else s
    (s.clearAvoid [11]).primary
  | none => s

/-- The set of the ACTIVE slot n is loaded. A warm boot's check of the store finds what loading it again leaves (R128). -/
def State.calLoad (s : State) (n : Nat) : State :=
  let s := s.setBytes 0x28260000 (s.slotBytes n 0 256)
  let s := (List.range 8).foldl (fun s t => s.calTileFrom n t) s
  ((s.put F.CAL_SET_SET_ID (s.slotField n 0x14 4)).put F.UPD_STAT_CAL_ACT (n - 4)).stepDone (n - 4)

/-- CALIB: ok says that flash could be read (R130, R341). -/
def execCalib (ok : Bool) (s : State) : Host.Outcome State Fault Refusal :=
  let s := s.begin
  .next (if s.bootRuns 11 then
    let s := ((s.calPending.calUp).showCal 4).showCal 5
    if s.rst.alt then s.calAllDefault.stepDone 0
    else match s.slotIn [4, 5] 6 with
      | some n => if ok && s.calHeaderOk n then s.calLoad n else s.stepFails 0
      | none => s.stepFails 0
  else s)

/-! ### KERNELS (R285, R290, R291) -/

/-- GLR and the engines of the profile's tiles are brought up (R128, R575). -/
def State.glareUp (s : State) : State :=
  (List.range 8).foldl (fun s n => if tbit (s.g F.PRF_STAT_TILES) n then s.put (F.UNIT_CTRL_ENABLE (0x31 + n)) 1 else s) (s.put (F.UNIT_CTRL_ENABLE 0x30) 1)

/-- The kernel of the booted main bundle is in slot 0 and has been verified; the code is that of R291. -/
def State.loadKernel (s : State) (ok : Bool) : Nat × State :=
  let n := s.g F.UPD_STAT_MAIN_ACT
  match (s.mainEntries n).find? (fun e => entType e = 3) with
  | some e =>
    if 32768 < entSize e then (4, s)
    else (s.setBytes s.beamWin (s.slotBytes n (entOfs e) (entSize e))).kernelRej 0 ok
  | none => (3, s)

/-- KERNELS: ok is the verdict on the kernel's signature. The alternative is the boot ROM kernel, which needs no image. -/
def execKernels (ok : Bool) (s : State) : Host.Outcome State Fault Refusal :=
  let s := s.begin
  .next (if s.bootRuns 12 then
    let s := s.glareUp
    if s.rst.alt then s.stepDone 0
    else
      let (r, s) := s.loadKernel ok
      if r = 0 then
        let s := s.put F.GLR_KSTAT_STATE0 2
        let s := (s.setShadow F.GLR_KSEL_SLOT.addr (putField (putField (s.shadowWord F.GLR_KSEL_SLOT.addr) 0 0 0) 1 1 0)).go 0x30
        if s.on (F.UNIT_STATUS_COMMIT_ERR 0x30) then s.stepFails 0 else s.stepDone 0
      else (((s.put F.GLR_KSTAT_STATE0 3).put F.GLR_KSTAT_REJ r).evt F.GLR_EVT_KERN_REJ).stepFails r
  else s)

/-! ### LINKS and TILES (R337, R341, R353, R389, R437, R619) -/

/-- LINKS: the link engines run, the store state is checked, Flint switches the safety outputs on, and STATUS goes first on each ACTIVE link. -/
def execLinks (copies : Nat) (s : State) : Host.Outcome State Fault Refusal :=
  let s := s.begin
  .next (if s.bootRuns 13 then
    let s : State := s.withCmd { s.cmd with served := true }
    let s := (s.checkCopies copies).2
    let s := if s.saf.halted then s else s.soutCtrl (BitVec.ofNat 32 s.usedOuts)
    ((List.range 2).foldl (fun s l => s.queueStatus l) s).stepDone 0
  else s)

/-- Tiles that the profile names. -/
def State.profTiles (s : State) : List Nat := (List.range 8).filter (fun n => tbit (s.g F.PRF_STAT_TILES) n)

/-- TLN and the lanes of the profile's tiles are enabled (R389). -/
def State.tilesUp (s : State) : State :=
  let s := s.put (F.UNIT_CTRL_ENABLE 0x50) 1
  let s := s.profTiles.foldl (fun s n => s.put (F.UNIT_CTRL_ENABLE (0x51 + n)) 1) s
  (s.timerTry).lanesWake

/-- The lane is ACTIVE or FAILED; one in SLEEP has been ACTIVE. -/
def State.laneSettled (s : State) (n : Nat) : Bool := s.tlst n = 5 || s.tlst n = 6 || s.tlst n = 8

/-- TILE_UID that tile n reported. -/
def State.tileUid (s : State) (n : Nat) : Nat := s.g (F.TL_UID_LO_UID n) + 2 ^ 32 * s.g (F.TL_UID_HI_UID n)

/-- The identity of tile t is compared with its section and with the flux record (R341, R353). -/
def State.tileCheck (s : State) (t : Nat) : State :=
  if s.tlst t = 8 then s
  else if s.g (F.CAL_TILE_SRC t) = 0 && s.le (0x28260100 + 0x40 * t) 8 ≠ s.tileUid t then (s.tileDefault t 3).evt F.CAL_EVT_TILE_DEFAULT
  else match s.flx.record with
    | some r => if s.g (F.CAL_TILE_SRC t) = 0 && (r.tiles.getD t (0, 0)).1 ≠ s.tileUid t then
        s.put (F.FLX_GAIN_F23 t) (s.le (0x28260110 + 0x40 * t) 4) else s
    | none => s

/-- The application core clears the LOAD bits of the tiles that came up, by a commit (R337). -/
def State.tilesLeaveLoad (s : State) : State :=
  let up := s.profTiles.filter (fun n => s.tlst n ≠ 8)
  let v := up.foldl (fun v n => if tbit v n then v - 2 ^ n else v) (s.gShadow F.CAL_LOAD_LOAD)
  (s.setShadow F.CAL_LOAD_LOAD.addr (putField (s.shadowWord F.CAL_LOAD_LOAD.addr) 7 0 v)).go 0x48

/-- TILES: the lanes are enabled, and the step ends when each is ACTIVE or FAILED; CMP is then brought up (R128, R389). -/
def execTiles (s : State) : Host.Outcome State Fault Refusal :=
  let s := s.begin
  .next (if s.bootRuns 14 then
    let s := s.tilesUp
    if s.profTiles.all s.laneSettled then
      let failed := s.profTiles.foldl (fun v n => if s.tlst n = 8 then v + 2 ^ n else v) 0
      let s := (s.profTiles.foldl (fun s t => s.tileCheck t) s).tilesLeaveLoad
      (s.put (F.UNIT_CTRL_ENABLE 0x18) 1).stepDone failed
    else s
  else s)

/-! ### SAFE_READY, FIRST_LIGHT and the epoch (R128, R137, R139, R558, R560) -/

/-- SAFE_READY: FSTATE has reached ARMED. -/
def execSafeReady (s : State) : Host.Outcome State Fault Refusal :=
  let s := s.begin
  .next (if s.bootRuns 15 && (s.g F.SAF_STAT_FSTATE = 2 || s.g F.SAF_STAT_FSTATE = 3) then s.stepDone 0 else s)

/-- Every used output that powers tiles has them powered. -/
def State.tilePower (s : State) : Bool :=
  (List.range 2).all (fun k => !s.on (F.SAF_SOUT_CFG_USED k) || s.soutTiles k = 0 || (s.saf.souts.getD k Sout.init).powered)

/-- FIRST_LIGHT: a flip with FIELD_OK high and tile power on ends the boot. -/
def execFirstLight (s : State) : Host.Outcome State Fault Refusal :=
  let s := s.begin
  .next (if s.bootRuns 16 && s.g F.SAF_STAT_FSTATE = 3 && s.tilePower then
    let s := (s.endEntry 2 0 0).put F.RST_BOOT_STAT_PHASE 1
    let s := (s.bistRaise.setTries 0).outcome 1
    let s : State := s.withRst { s.rst with lit := true }
    match s.upd.trial with
    | some n => if s.on F.UPD_CTRL_MANUAL then (s.withUpd { s.upd with trialAt := some s.now }) else s.confirm n
    | none => s
  else s)

/-- EPOCH_SAVE: the epoch is written once writing is allowed (R139). -/
def execEpochSave (s : State) : Host.Outcome State Fault Refusal :=
  let s := s.begin
  .next (if s.g F.RST_EPOCH_EPOCH ≠ 0 && !s.on F.RST_EPOCH_STAT_SAVED && s.garnetRuns then s.saveEpoch else s)

end Sys2Proof.Machine
end

