-- ==== Sys2Proof/Machine/Pages.lean ====
section
/-! DEFINITION. What a unit page reads as: the common header, the child directory and the live fields that other state decides (18_register_map, R573 to R586). -/

namespace Sys2Proof.Machine

/-! ### The header (R575, R576, R583, R584) -/

/-- Page index of instance 0 of the unit kind: UNIT_ID.TYPE. -/
def unitType (p : Nat) : Nat :=
  if p = 0x09 then 0x08
  else if 0x19 ≤ p ∧ p ≤ 0x28 then 0x19
  else if 0x31 ≤ p ∧ p ≤ 0x38 then 0x31
  else if 0x51 ≤ p ∧ p ≤ 0x58 then 0x51
  else if 0x89 ≤ p ∧ p ≤ 0x8C then 0x89
  else p

/-- Instances of the unit kind: UNIT_CAP.INSTANCES. -/
def unitInstances (p : Nat) : Nat :=
  match unitType p with
  | 0x08 => 2
  | 0x19 => 16
  | 0x31 => 8
  | 0x51 => 8
  | 0x89 => 4
  | _ => 1

/-- Pages whose world is fixed (R575). -/
def worldFixed (p : Nat) : Bool := [0x00, 0x0B, 0x40, 0x68, 0x78, 0x7A].contains p

/-- Children of a group page, SYS among them (R17). -/
def kids (p : Nat) : List Nat := if p = 0 then sysChildren else childPages p

/-- UNIT_CAP: bits COMMIT, BLK_RST, GROUP, FLINT_ONLY, WORLD_FIXED, and INSTANCES. -/
def unitCap (p : Nat) : Nat :=
  bit (hasRwc p) + 2 * bit (p ≠ 0 && !blkRefused p) + 4 * bit (!(kids p).isEmpty) + 8 * bit (flintOnly p) + 16 * bit (worldFixed p) + 65536 * unitInstances p

/-- A bit of a page other than SYS, or of an enabled child of it (R18, R583). -/
def State.summary (s : State) (f : Nat → Bool) (p : Nat) : Bool := f p || (childPages p).any (fun c => s.on (F.UNIT_CTRL_ENABLE c) && f c)

/-- The same with SYS among the groups. -/
def State.summaryAll (s : State) (f : Nat → Bool) (p : Nat) : Bool :=
  if p = 0 then f 0 || sysChildren.any (fun c => s.on (F.UNIT_CTRL_ENABLE c) && s.summary f c) else s.summary f p

/-- COMMIT_ERR, COMMIT_PEND and IN_RESET of a page as it and its children show them. -/
def State.commitErr (s : State) (p : Nat) : Bool := s.summaryAll (fun q => s.on (F.UNIT_STATUS_COMMIT_ERR q)) p
def State.commitPend (s : State) (p : Nat) : Bool := s.summaryAll (fun q => s.pendPages.contains q) p
def State.inReset (s : State) (p : Nat) : Bool := s.summaryAll s.quiet p

/-- The page and every group above it are enabled (R20). -/
def State.unitActive (s : State) (p : Nat) : Bool := s.on (F.UNIT_CTRL_ENABLE p) && s.on (F.UNIT_CTRL_ENABLE (groupPage p))

/-- UNIT_FAULT of any page. -/
def State.faultOf (s : State) (p : Nat) : Nat := if p = 0 then s.sysFault else s.faultWord p

/-- UNIT_IRQ_STAT.CHILD of any page. -/
def State.childOf (s : State) (p : Nat) : Bool := if p = 0 then s.sysIrq (fun _ => true) else s.childIrq p

/-- Entry k of the child directory of page p (R584). -/
def State.dirEntry (s : State) (p k : Nat) : Word :=
  match (kids p)[k]? with
  | none => 0
  | some c => BitVec.ofNat 32 (c + 256 * unitType c + 65536 * s.g (F.UNIT_CTRL_ENABLE c) + 131072 * bit (s.irq c)
      + 262144 * bit (s.faultOf c ≠ 0) + 524288 * bit (s.commitErr c) + 1048576 * bit (s.inReset c) + 2097152 * bit (!(kids c).isEmpty))

/-- Bits of the header that are not stored: highest bit, lowest bit, value. -/
def State.headerLive (s : State) (p off : Nat) : List (Nat × Nat × Nat) :=
  if off = 0x00 then [(31, 0, unitType p + 256 * (p - unitType p) + 65536)]
  else if off = 0x04 then [(31, 0, unitCap p)]
  else if off = 0x08 then [(1, 1, bit (s.blockRunning p)), (2, 2, s.world p)]
  else if off = 0x0C then [(3, 0, bit (s.commitErr p) + 2 * bit (s.commitPend p) + 4 * bit (s.inReset p) + 8 * bit (s.unitActive p))]
  else if off = 0x10 then [(31, 0, s.faultOf p)]
  else if off = 0x18 then [(3, 3, bit (s.childOf p))]
  else if off = 0x1C then [(19, 0, if (kids p).isEmpty then 0 else (kids p).length + 256 * 0xF00)]
  else if off = 0x30 then [(8, 8, bit (s.commitPend p))]
  else []

/-! ### Live fields of the units -/

/-- Saturated age in µs since a time of the model's clock; all ones for none. -/
def State.ageField (s : State) (t : Option Nat) : Nat := match t with | some t => min 0xFFFFFF ((s.now - t) / 400) | none => 0xFFFFFF

/-- PWR_STAT.STATE (R518). -/
def PwrState.code : PwrState → Nat
  | .run => 0
  | .idle => 1
  | .sleep => 2
  | .prep => 3
  | .ackEntry => 3
  | .deep => 3
  | .off => 3
  | .ackExit => 4
  | .resume => 4

/-- Level of the FIELD_OK ball as the device drives it (R425, R532). -/
def State.fieldOk (s : State) : Bool := s.g F.SAF_STAT_FSTATE = 3 && !s.saf.padGate

/-- Ring fill in units of 16 KiB, rounded up (R220). -/
def State.fillField (s : State) (c : Nat) : Nat := (s.ringUsed c + 16383) / 16384

/-- A number whose bit n says whether f n, for n below k. -/
def bitmap (k : Nat) (f : Nat → Bool) : Nat := (List.range k).foldl (fun v n => if f n then v + 2 ^ n else v) 0

/-- The Segment Bus runs with a LATCH at each flip (R420). -/
def State.segLatches (s : State) : Bool := s.segRuns && s.tln.running

/-- Live fields of CLK, RST, PWR, the links, CSF and CMD. -/
def State.liveA (s : State) (p off : Nat) : List (Nat × Nat × Nat) :=
  if p = 0x00 && off = 0x40 then [(31, 0, s.g F.FUS_HW_TYPE_HW_TYPE)]
  else if p = 0x00 && off = 0x44 then [(3, 0, Config.silicon.toNat), (15, 8, Config.romVersion.toNat)]
  else if p = 0x01 && off = 0x4C then [(7, 7, bit (s.eligible 0)), (8, 8, bit (s.eligible 1))]
  else if p = 0x02 && off = 0x50 then [(8, 8, bit (!s.rst.blocks.isEmpty))]
  else if p = 0x03 && off = 0x44 then [(2, 0, s.pwr.st.code)]
  else if p = 0x03 && off = 0x50 then [(1, 1, s.g F.PWR_STAT_PADS_LATCHED)]
  else if p = 0x03 && off = 0x64 then [(21, 16, bitmap 6 s.pwr.banks.contains)]
  else if (p = 0x08 || p = 0x09) && off = 0x44 then
    [(6, 6, bit (decide (4 ≤ s.lst (p - 8)) && decide (s.lst (p - 8) ≤ 6))), (22, 16, min 64 ((s.link (p - 8)).fill / 1024))]
  else if p = 0x0B && off = 0x48 then [(5, 2, s.csf.pendA.length), (9, 6, s.csf.pendB.length)]
  else if p = 0x0B && off = 0x58 then [(23, 0, s.ageField s.csf.stateAt)]
  else if p = 0x0B && off = 0x5C then [(31, 0, s.ltNs)]
  else if p = 0x0B && off = 0x60 then [(31, 0, s.ltNs / 2 ^ 32)]
  else if p = 0x10 && off = 0x70 then [(7, 0, s.fillField 0), (15, 8, s.fillField 1), (23, 16, s.fillField 2), (31, 24, s.fillField 3)]
  else []

/-- Live fields of the picture units. -/
def State.liveB (s : State) (p off : Nat) : List (Nat × Nat × Nat) :=
  if p = 0x18 && off = 0x50 then [(2, 2, bit (!s.cmp.held.isEmpty))]
  else if p = 0x18 && off = 0x54 then [(15, 0, s.ltrUs)]
  else if 0x19 ≤ p ∧ p ≤ 0x28 ∧ off = 0x90 then
    let n := p - 0x19
    [(0, 0, s.g (F.LAY_CTRL_FRONT n)), (1, 1, bit (s.cmp.held.contains n)), (5, 5, bit (s.layZero n))]
  else if p = 0x30 && off = 0x7C then
    [(1, 1, bit s.gov.listTime.isNone), (3, 3, bit s.cmp.seam), (4, 4, s.g F.GLR_KSEL_ROM), (5, 5, s.g F.GLR_KSEL_SLOT),
     (6, 6, bit (!(List.range 16).any (fun n => s.on (F.UNIT_CTRL_ENABLE (layPage n)) && s.isGlare n)))]
  else if p = 0x40 && decide (0x400 ≤ off) && decide (off < 0x800) then [(31, 0, min 0xFFFFFFFF (s.gov.uPrev.getD ((off - 0x400) / 4) 0 / 2 ^ 24))]
  else if p = 0x40 && decide (0x800 ≤ off) && decide (off < 0xC00) then [(16, 0, s.gov.gPrev.getD ((off - 0x800) / 4) 65536)]
  else if p = 0x48 && off = 0x50 then
    [(0, 0, bit ((List.range 8).any (fun t => s.g (F.CAL_TILE_SRC t) ≠ 0))), (1, 1, bit (!s.cal.jobs.isEmpty)),
     (10, 8, match s.cal.jobs with | j :: _ => j.1 | [] => 0), (23, 16, bitmap 8 (fun t => (s.calTile t).waiting.isSome))]
  else if p = 0x48 && decide (0x60 ≤ off) && decide (off < 0x80) then
    let t := (off - 0x60) / 4
    [(20, 20, bit (s.tempValid t)), (21, 21, bit (s.calTile t).load)]
  else []

/-- Live fields of the lanes, the Segment Bus, safety, faults and fuses. -/
def State.liveC (s : State) (p off : Nat) : List (Nat × Nat × Nat) :=
  if p = 0x50 && off = 0x50 then
    [(15, 8, bitmap 8 (fun n => s.tlst n = 5)), (23, 16, bitmap 8 (fun n => s.on (F.TL_STAT_SHUT n))), (31, 24, bitmap 8 (fun n => s.tlst n = 6))]
  else if 0x51 ≤ p ∧ p ≤ 0x58 ∧ off = 0x44 then [(8, 8, bit (s.clone (p - 0x51)).isSome), (9, 9, bit (s.inService (p - 0x51)))]
  else if p = 0x60 && off = 0x58 then
    [(0, 0, bit s.segLatches), (1, 1, bit (s.segLatches && s.g F.SEG_SCAN_ROWS ≠ 0)), (2, 2, bit (s.seg.chans.any (fun e => e.2.next.isSome))),
     (21, 16, ((List.range 64).filter s.segPresent).length)]
  else if p = 0x60 && decide (0x104 ≤ off) && decide (off < 0x200) then
    let a := (off - 0x100) / 4
    [(21, 21, bit (s.drvTemp a).isSome), (23, 23, bit (s.segPresent a))]
  else if p = 0x68 && off = 0x40 then
    [(3, 3, bit s.fieldOk), (4, 4, bit s.hwTerms),
     (11, 8, bitmap 4 (fun n => s.g (F.SAF_SIN_STAT_STATE n) = 0 || s.g (F.SAF_SIN_STAT_STATE n) = 2)),
     (13, 12, bitmap 2 (fun k => (s.saf.souts.getD k Sout.init).high)), (15, 14, bitmap 2 (fun k => s.g (F.SAF_SOUT_STAT_STATE k) ≠ 3))]
  else if p = 0x70 && off = 0x44 then [(31, 0, s.fltStat)]
  else if p = 0x7A && decide (0x50 ≤ off) && decide (off < 0x70) then
    let row := s.g F.FUS_RD_ROW_ROW
    [(31, 0, if row = 7 then 0 else s.fuse row >>> (8 * (off - 0x50)))]
  else []

/-- A word with the bits of a list put into it. -/
def overlay (w : Word) (l : List (Nat × Nat × Nat)) : Word := l.foldl (fun w e => putField w e.1 e.2.1 e.2.2) w

/-- What the register at byte offset o of the unit pages reads as: the shadow bank of RWC fields, 0 for WO fields, live bits, the active bank for
the rest (R7 to R9, R577). -/
def State.readWord (s : State) (o : Nat) : Word :=
  let p := o / 4096
  let off := o % 4096
  if 0xF00 ≤ off ∧ !(kids p).isEmpty then s.dirEntry p ((off - 0xF00) / 4)
  else
    let rwc := accMask .rwc o
    let w := ((s.word o &&& ~~~ rwc) ||| (s.shadowWord o &&& rwc)) &&& ~~~ (accMask .wo o)
    overlay w (if off < 0x40 then s.headerLive p off else s.liveA p off ++ s.liveB p off ++ s.liveC p off)

/-! ### Split registers (R586) -/

/-- Offset of the HI register of a pair whose LO latches it. -/
def hiOf (o : Nat) : Option Nat :=
  if o = 0x0B05C then some 0x0B060
  else if o = 0x18060 then some 0x18064
  else if o = 0x7104C then some 0x71050
  else if o = 0x71064 then some 0x71068
  else none

/-- A register read by a master: LO latches HI for it, and its next read of HI returns the latched word (R586). -/
def State.readReg (s : State) (m : Master) (o : Nat) : Word × State :=
  match hiOf o with
  | some h =>
    (s.readWord o, (s.withLatches (((masterId m, h), s.readWord h) :: s.latches.filter (fun e => e.1 ≠ (masterId m, h)))))
  | none =>
    match s.latches.find? (fun e => e.1 = (masterId m, o)) with
    | some e => (e.2, (s.withLatches (s.latches.filter (fun e => e.1 ≠ (masterId m, o)))))
    | none => (s.readWord o, s)

end Sys2Proof.Machine
end

