-- ==== Sys2Proof/Machine/PowerOn.lean ====
section
/-! DEFINITION. Power, supply, RST_N and watchdog events that start, hold or release a reset (02_balls_and_supplies, 04_reset_and_boot). -/

namespace Sys2Proof.Machine

/-- PMIC_PG_RISE: the RC oscillator is started; the rest waits for RST_N (R64, R122). From OFF the start is a POR cold boot (R510). -/
def execPmicPgRise (st : Straps) (s : State) : Host.Outcome State Fault Refusal :=
  let s := s.begin
  .next (if s.pwr.st = .off then
    let s := s.withRst { s.rst with pg := true }
    ((s.setStraps st).coldReset F.RST_CAUSE_POR false).holdPin
  else if s.rst.pg || s.pwr.st = .deep || s.pwr.st = .ackExit then s
  else
    let s := (s.setStraps st).withRst { (s.setStraps st).rst with pg := true }
    (s.holdPin.senseFuses.tapReset.rcAttempt 1).tryRelease)

/-- PG_LOSS: loss of power, which hides an RST_N that falls within the same microsecond (R65, R66, R70, R115). -/
def execPgLoss (rstLow : Bool) (s : State) : Host.Outcome State Fault Refusal :=
  let s := s.begin
  .next (if s.poweredStop || !s.rst.pg then s
  else
    let s := s.withRst { s.rst with pg := false }
    let s := s.coldReset F.RST_CAUSE_PG_LOSS true
    if rstLow then s.put F.RST_PIN_LEVEL 0 else s)

/-- SUPPLY_LOW: a monitored rail is low; handled as a loss of power (R68). -/
def execSupplyLow (s : State) : Host.Outcome State Fault Refusal :=
  let s := s.begin
  .next (if s.poweredStop then s else (s.coldReset F.RST_CAUSE_SUPPLY true).holdPin)

/-- POR: VDD_AON or VDDIO_AON below 85 % resets all logic; retention RAM is lost (R68, R113, R114). -/
def execPor (s : State) : Host.Outcome State Fault Refusal :=
  .next (s.begin.coldReset F.RST_CAUSE_POR false).holdPin

/-- THM_CRIT_TRIP: a cold reset that stays held (R113, R497). -/
def execThmCritTrip (s : State) : Host.Outcome State Fault Refusal :=
  let s := s.begin
  .next (if s.pwr.st = .off then s
  else
    let s := (s.coldReset F.RST_CAUSE_THM_CRIT true).holdPin.put F.THM_STAT_CRIT_CLR 0
    (s.withRst { s.rst with thmHeld := true }))

/-- THM_CRIT_RELEASE: all four comparators have read below 137 °C for 100 ms without a break (R497). -/
def execThmCritRelease (st : Straps) (s : State) : Host.Outcome State Fault Refusal :=
  let s := s.begin
  .next (if s.rst.thmHeld then
    let s := (s.setStraps st).put F.THM_STAT_CRIT_CLR 1
    (s.withRst { s.rst with thmHeld := false }).tryRelease
  else s)

/-- RST_N_LOW: a PIN warm reset outside DEEP and OFF; a pin marked stuck is ignored (R118, R120). -/
def execRstNLow (s : State) : Host.Outcome State Fault Refusal :=
  let s := s.begin
  .next (if s.pwr.st = .deep || s.pwr.st = .off || s.pwr.st = .ackExit then s
  else
    let s := s.put F.RST_PIN_LEVEL 0
    if s.on F.RST_PIN_STUCK then s
    else
      let s := s.warmReset F.RST_CAUSE_PIN true
      (s.withRst { s.rst with pinHeld := true }))

/-- RST_N_RELEASE: the pin has been high for 10 µs; a reset it held is released, and lock-out is cleared (R118, R448). -/
def execRstNRelease (st : Straps) (s : State) : Host.Outcome State Fault Refusal :=
  let s := s.begin
  .next (
    let s := s.put F.RST_PIN_LEVEL 1
    if s.rst.pinHeld then
      let s := s.setStraps st
      (s.withRst { s.rst with pinHeld := false, pinClears := true }).tryRelease
    else s)

/-- PIN_DEEP: RST_N low in DEEP drives PMIC_STBY low as a wake source does; the exit is a PIN_DEEP reset (R119). -/
def execPinDeep (s : State) : Host.Outcome State Fault Refusal :=
  let s := s.begin
  .next (if s.pwr.st = .deep || s.pwr.st = .ackExit then
    let s := s.put F.RST_PIN_LEVEL 0
    s.withPwr { s.pwr with pinDeep := true, stby := false, st := .ackExit, since := s.now }
  else s)

/-- RST_STUCK_TIMEOUT: with STUCK_IGNORE, a low of 64,000,000 RC cycles marks the pin stuck and releases the reset; lock-out stays (R120 to R122, R618). -/
def execRstStuckTimeout (st : Straps) (s : State) : Host.Outcome State Fault Refusal :=
  let s := s.begin
  .next (if s.on F.RST_PIN_STUCK_IGNORE && s.rst.pinHeld && s.quartz.rc = .running then
    let s := ((s.put F.RST_CAUSE_STUCK 1).put F.RST_PIN_STUCK 1).incSat F.RST_PIN_STUCK_CNT
    let s := (s.raise S.RST_STUCK 0).setStraps st
    (s.withRst { s.rst with pinHeld := false, pinClears := false, stuckDue := true }).tryRelease
  else s)

/-- STUCK_IGNORE_END: the pin has been high for 3,200,000 RC cycles and is heeded again (R120). -/
def execStuckIgnoreEnd (s : State) : Host.Outcome State Fault Refusal :=
  let s := s.begin
  .next (if s.on F.RST_PIN_STUCK && s.on F.RST_PIN_LEVEL then s.put F.RST_PIN_STUCK 0 else s)

/-- A write of v to RST_CMD (R116). -/
def State.rstCmd (s : State) (v : Word) : State :=
  if wordField v 0 0 = 1 && wordField v 15 8 = 0xA5 then s.warmReset F.RST_CAUSE_SW false else s.evt F.RST_EVT_CMD_REJ

/-- A write of v to RST_WDT_CTRL: EN cannot be withdrawn, and TMO_MS stands while it is 1 (R117, R141). -/
def State.wdtCtrl (s : State) (v : Word) : State :=
  if s.on F.RST_WDT_CTRL_EN then s
  else
    let s := if wordField v 15 8 = 0 then s else s.put F.RST_WDT_CTRL_TMO_MS (wordField v 15 8)
    if wordField v 0 0 = 1 then ((s.put F.RST_WDT_CTRL_EN 1).withRst { s.rst with wdtAt := some s.now }) else s

/-- A write of v to RST_WDT_KICK: 0x5A restarts the count (R117). -/
def State.wdtKick (s : State) (v : Word) : State :=
  if wordField v 7 0 = 0x5A && s.on F.RST_WDT_CTRL_EN then (s.withRst { s.rst with wdtAt := some s.now }) else s

/-- WDT_APP_EXPIRY: a WDT_APP warm reset (R117). -/
def execWdtAppExpiry (st : Straps) (s : State) : Host.Outcome State Fault Refusal :=
  let s := s.begin
  .next (if s.on F.RST_WDT_CTRL_EN && s.rst.scope.isNone then (s.setStraps st).warmReset F.RST_CAUSE_WDT_APP false else s)

/-- BOOT_TIMEOUT: a step with a timeout has not ended in time: a BOOT_TMO warm reset (R128, R129). -/
def execBootTimeout (st : Straps) (s : State) : Host.Outcome State Fault Refusal :=
  let s := s.begin
  .next (if (List.range 17).any (fun c => decide (4 ≤ c) && decide (c ≤ 14) && s.inStep c) then
    (s.setStraps st).warmReset F.RST_CAUSE_BOOT_TMO false
  else s)

/-- An application-core write clears or mirrors the journal: RST_BJ_CTRL (R131, R136, R141). -/
def State.bjCtrl (s : State) (v : Word) : State :=
  let s := if wordField v 0 0 = 1 then s.clearAvoid (List.range 32) else s
  if v &&& 3 = 0 then s else s.journalFlash

end Sys2Proof.Machine
end

