-- ==== Sys2Proof/Machine/Bus.lean ====
section
/-! DEFINITION. The bus fabric: who may reach which register or memory, what a write does by its access code, and the commands that are one
bus access (00_scope, R8 to R11; 01_architecture, R38 to R41; 16_security_and_self_test, R519 to R521; 18_register_map, R572 to R587). -/

namespace Sys2Proof.Machine

/-! ### Masters and refusals (R36, R519, R520) -/

/-- A master is clocked and can make an access: no reset, the root runs, and its own engine is not stopped (R36, R501, R504, R530). -/
def State.masterRuns (s : State) (m : Master) : Bool :=
  s.rst.scope.isNone && s.on F.CLK_STAT_ROOT_OK && !s.poweredStop &&
  (match m with
   | .garnet => s.garnetRuns
   | .flint => !s.saf.halted && !s.flintStopped && !s.on F.SEC_TAP_DEBUG_HALT
   | .app => s.pwr.st ≠ .idle && !s.flintStopped && !s.on F.SEC_TAP_DEBUG_HALT
   | .link l => decide (l < 2) && s.cmd.served && !s.flintStopped
   | .beam n => decide (n < 8) && !s.flintStopped
   | _ => true)

/-- A world violation at an address: the first is recorded, every one counted, and SEC_WORLD raised (R520). -/
def State.violation (s : State) (m : Master) (a : Nat) (write : Bool) : State :=
  let s := if s.on F.SEC_EVT_VIOL then s
    else ((s.put F.SEC_VIOL_MASTER (masterId m)).put F.SEC_VIOL_WRITE (bit write)).put F.SEC_VIOL_ADDR_ADDR a
  ((s.incSat F.SEC_VIOL_COUNT).evt F.SEC_EVT_VIOL).raise S.SEC_WORLD 0

/-! ### UNIT_CTRL (R20, R24, R39, R575, R598) -/

/-- Pages whose ENABLE reads 1 and cannot be cleared (R575). -/
def enableFixed (p : Nat) : Bool := [0x00, 0x01, 0x02, 0x03, 0x04, 0x0B, 0x40, 0x68, 0x70, 0x71, 0x78, 0x79, 0x7A, 0x81].contains p

/-- CRC unit n serves a Gylys stream of an enabled link (R575, R598). -/
def State.crcServes (s : State) (n : Nat) : Bool :=
  let st := s.g (F.CRC_CFG_STREAM n)
  s.g (F.CRC_CFG_MODE n) ≠ 0 && decide (1 ≤ st) && decide (st ≤ 4) && s.on (F.UNIT_CTRL_ENABLE (8 + (st - 1) % 2))

/-- Clearing the ENABLE of a page is ignored. -/
def State.enableHeld (s : State) (p : Nat) : Bool :=
  enableFixed p || (p = 0x88 && (List.range 4).any s.crcServes) || (decide (0x89 ≤ p) && decide (p ≤ 0x8C) && s.crcServes (p - 0x89))

/-- The WORLD bit of a write to UNIT_CTRL (R24, R39, R521). -/
def State.worldBit (s : State) (m : Master) (p : Nat) (b : Nat) : State :=
  if m = .garnet then (if worldFixed p || groupPage p ≠ p then s else s.put (F.UNIT_CTRL_WORLD p) b)
  else if s.world p = b then s
  else s.violation m (0x40000008 + 0x1000 * p) true

/-- A unit is disabled (R156, R185, R388, R409). -/
def State.unitOff (s : State) (p : Nat) : State :=
  if p = 0x08 || p = 0x09 then (s.cdrLost (p - 8)).linkOff (p - 8)
  else if p = 0x0A then s.sideOff
  else if p = 0x50 then (List.range 8).foldl (fun s n => if s.tlst n = 0 then s else s.laneDisable n) s.endFrames
  else if 0x51 ≤ p ∧ p ≤ 0x58 then s.laneDisable (p - 0x51)
  else if p = 0x60 then s.segOff
  else s

/-- A unit is enabled (R156, R185, R388, R623). -/
def State.unitOn (s : State) (p : Nat) : State :=
  if p = 0x08 || p = 0x09 then (if s.lst (p - 8) = 0 then s.put (F.LNK_STAT_STATE (p - 8)) 1 else s)
  else if p = 0x0A then (if s.sst = 0 && s.pwr.st ≠ .sleep then s.put F.SIDE_STAT_STATE 1 else s)
  else if p = 0x50 then s.timerTry.lanesWake
  else if 0x51 ≤ p ∧ p ≤ 0x58 then s.laneEnable (p - 0x51)
  else s

/-- The ENABLE bit of a write to UNIT_CTRL (R18, R20, R575). -/
def State.enableBit (s : State) (p : Nat) (b : Nat) : State :=
  if s.g (F.UNIT_CTRL_ENABLE p) = b || (b = 0 && s.enableHeld p) then s
  else
    let t := s.put (F.UNIT_CTRL_ENABLE p) b
    if b = 0 then t.unitOff p else s.faultIrq (t.unitOn p) [groupPage p]

/-- A write of v to UNIT_CTRL of page p. -/
def State.ctrlWrite (s : State) (m : Master) (p : Nat) (v : Word) : State :=
  let s := (s.worldBit m p (wordField v 2 2)).enableBit p (wordField v 0 0)
  if wordField v 1 1 = 1 then s.blkWrite p else s

/-! ### Fields that do not take every value -/

/-- Fields of a register that ignore a value outside a range: highest bit, lowest bit, least and greatest value taken. -/
def limits (p off : Nat) : List (Nat × Nat × Nat × Nat) :=
  let ms := [(15, 8, 1, 255)]
  if p = 0x01 && off = 0x44 then [(15, 8, 1, 255), (21, 16, 5, 40)]
  else if p = 0x01 && off = 0x70 then [(23, 0, 0x80000, 0xFFFFFF)]
  else if p = 0x01 && off = 0x74 then [(23, 0, 0x100000, 0xFFFFFF)]
  else if p = 0x02 && off = 0x4C then [(7, 0, 1, 255)]
  else if (p = 0x08 || p = 0x09 || p = 0x0A) && off = 0x40 then ms
  else if p = 0x10 && (off = 0x40 || off = 0x88) then [(7, 0, 1, 255)]
  else if p = 0x18 && off = 0x40 then [(6, 4, 1, 4)]
  else if p = 0x30 && off = 0x40 then [(3, 0, 1, 15)]
  else if p = 0x40 && off = 0x40 then [(1, 0, 0, 2)]
  else if p = 0x48 && off = 0x40 then [(15, 8, 1, 255), (23, 16, 1, 255)]
  else if p = 0x49 && off = 0x40 then [(15, 8, 1, 255), (31, 16, 1, 65535)]
  else if p = 0x50 && off = 0x4C then [(15, 0, 1, 65535), (19, 16, 1, 15)]
  else if 0x51 ≤ p ∧ p ≤ 0x58 ∧ off = 0x40 then [(11, 8, 1, 15)]
  else if p = 0x60 && off = 0x40 then ms
  else if p = 0x71 && off = 0x40 then [(31, 16, 1, 65535)]
  else if p = 0x04 && off = 0x40 then [(5, 0, 1, 63)]
  else if p = 0x03 && off = 0x58 then [(3, 0, 1, 15)]
  else if p = 0x80 && off = 0x40 then ms
  else []

/-- A written word whose fields out of range are those of the present word. -/
def limitWord (cur v : Word) (l : List (Nat × Nat × Nat × Nat)) : Word :=
  l.foldl (fun v e =>
    let x := wordField v e.1 e.2.1
    if decide (e.2.2.1 ≤ x) && decide (x ≤ e.2.2.2) then v else putField v e.1 e.2.1 (wordField cur e.1 e.2.1)) v

/-- A written word as the register at page offset off of page p takes it: fields that ignore the write keep their values
(R110, R155, R352, R373 and the field descriptions). -/
def State.takeWord (s : State) (p off : Nat) (v : Word) : Word :=
  let cur := s.word (p * 4096 + off)
  let v := limitWord cur v (limits p off)
  if (p = 0x08 || p = 0x09) && off = 0x6C then
    (if decide (28 ≤ wordField v 4 0) || s.on (F.UNIT_CTRL_ENABLE p) then cur else v)
  else if p = 0x49 && decide (0x60 ≤ off) && decide (off < 0x80) then (if tbit (s.g F.FLX_CTRL_EN) ((off - 0x60) / 4) then cur else v)
  else if p = 0x50 && off = 0x40 then
    (if (List.range 8).any (fun n => s.on (F.UNIT_CTRL_ENABLE (0x51 + n))) then v ||| (cur &&& 2) else v)
  else v

/-! ### A register write (R8, R9, R577) -/

/-- RW and RWS fields take the written bits, W1C bits are cleared where 1 is written, RWC fields go to the shadow bank; the rest stays (R9, R577). -/
def State.fieldWrite (s : State) (o : Nat) (v : Word) : State :=
  let rw := accMask .rw o ||| accMask .rws o
  let s := s.setWord o (((s.word o &&& ~~~ rw) ||| (v &&& rw)) &&& ~~~ (accMask .w1c o &&& v))
  let rwc := accMask .rwc o
  if rwc = 0 then s else s.setShadow o ((s.shadowWord o &&& ~~~ rwc) ||| (v &&& rwc))

/-- What a plain write of v to page offset off of page p does beside the fields (R170, R349). -/
def State.afterWrite (s : State) (before p off : Nat) : State :=
  if (p = 0x08 || p = 0x09) && off = 0x40 && !s.on (F.LNK_CTRL_PWR_SENSE (p - 8)) then s.feedTo (p - 8) 0
  else if p = 0x49 && off = 0x40 then
    (List.range 8).foldl (fun s t =>
      if tbit (s.g F.FLX_CTRL_EN) t && !tbit before t then s.modFlx t (fun g => { g with first := true }) else s) s
  else s

/-- A write of v to a register whose fields act by their access codes alone. -/
def State.plainWrite (s : State) (p off : Nat) (v : Word) : State :=
  (s.fieldWrite (p * 4096 + off) (s.takeWord p off v)).afterWrite (s.g F.FLX_CTRL_EN) p off

/-- A write of v by a master to page offset off of page p of SAF, FLT, EVR, SEC, BST and FUS. -/
def State.specialB (s : State) (m : Master) (p off : Nat) (v : Word) : State :=
  if p = 0x68 && off = 0x50 then s.safReactWrite v
  else if p = 0x68 && off = 0x54 then s.safUnlockWrite v
  else if p = 0x68 && off = 0x58 then s.flintKick v
  else if p = 0x68 && off = 0x80 then s.soutCtrl v
  else if p = 0x70 && decide (0x48 ≤ off) && decide (off ≤ 0x50) then s.pendWrite ((off - 0x48) / 4) v
  else if p = 0x70 && decide (0x54 ≤ off) && decide (off ≤ 0x5C) then s.unackWrite ((off - 0x54) / 4) v
  else if p = 0x70 && off = 0x90 then s.injectWrite m v
  else if p = 0x71 && off = 0x6C then s.recordRead v
  else if p = 0x78 && off = 0x44 then s.lcReq m v
  else if p = 0x79 && off = 0x40 then s.lbCtrl v
  else if p = 0x79 && off = 0x64 then s.mbCtrl v
  else if p = 0x7A && off = 0x44 then s.fusProg m v
  else s.plainWrite p off v

/-- A write of v by a master to page offset off of page p: registers whose write is a command have their own meaning. -/
def State.specialA (s : State) (m : Master) (p off : Nat) (v : Word) : State :=
  if off = 0x08 then s.ctrlWrite m p v
  else if off = 0x30 then s.commitWrite p v
  else if p = 0x01 && off = 0x48 then s.refCmd v
  else if p = 0x02 && off = 0x44 then s.rstCmd v
  else if p = 0x02 && off = 0x5C then s.bjCtrl v
  else if p = 0x02 && off = 0x68 then s.wdtCtrl v
  else if p = 0x02 && off = 0x6C then s.wdtKick v
  else if p = 0x03 && off = 0x40 then s.pwrReq m v
  else if p = 0x03 && off = 0x44 then s.wakeClear v
  else if p = 0x03 && off = 0x50 then s.padWrite v
  else if p = 0x30 && off = 0x48 then s.kload v
  else if p = 0x48 && off = 0x48 then s.calCmd v
  else s.specialB m p off v

/-- A write that the fabric lets through: the BST page ignores it while a run is in progress (R538); Flint's pages may change FIELD_OK's terms. -/
def State.pageWrite (s : State) (m : Master) (p off : Nat) (v : Word) : State :=
  if p = 0x79 && s.bistRuns then s
  else
    let s := s.specialA m p off v
    if p = 0x68 || p = 0x40 then s.settle else s

/-! ### Memory regions (R38, R44, R299, R337, R291, R572, R573) -/

/-- A memory address that belongs to world S (R38): the boot ROM and the S parts of code/data SRAM and retention RAM. -/
def secureAddr (a : Nat) : Bool :=
  decide (a < 0x20000) || (decide (0x101C0000 ≤ a) && decide (a < 0x10200000)) || (decide (0x1803C000 ≤ a) && decide (a < 0x18040000))

/-- Addresses of the Granite slots in the flash window (R548). -/
def graniteSlot (a : Nat) : Bool := decide (0x60A00000 ≤ a) && decide (a < 0x60E00000)

/-- A read of a memory address is refused (R38, R299). -/
def State.readRefused (s : State) (m : Master) (a : Nat) : Bool :=
  (secureAddr a && !s.inS m) || (regionOf a = some .graniteRam && m ≠ .flint) || (graniteSlot a && m = .tap)

/-- A write of a memory address is a world violation (R38, R299, R573); the boot ROM takes no write (R44). -/
def State.writeViolates (s : State) (m : Master) (a : Nat) : Bool :=
  (secureAddr a && !s.inS m) || (regionOf a = some .graniteRam && m ≠ .flint) || regionOf a = some .flash

/-- Tile whose gain map or block records hold an address of the calibration store (R336). -/
def gainTile (a : Nat) : Option Nat :=
  if 0x28000000 ≤ a ∧ a < 0x28200000 then some ((a - 0x28000000) / 0x40000)
  else if 0x28200000 ≤ a ∧ a < 0x28240000 then some ((a - 0x28200000) / 0x8000)
  else none

/-- The calibration store refuses a write: an applied bank always, a tile's maps and records out of LOAD (R337). -/
def State.storeRefuses (s : State) (a : Nat) : Bool :=
  (decide (0x28240000 ≤ a) && decide (a < 0x28260000)) || (match gainTile a with | some t => !(s.calTile t).load | none => false)

/-- A kernel slot that is VERIFYING or active holds the address (R291). -/
def State.kslotRefuses (s : State) (a : Nat) : Bool :=
  (List.range 2).any (fun k => decide (s.beamWin + 0x8000 * k ≤ a) && decide (a < s.beamWin + 0x8000 * (k + 1))
    && (s.g (kstat k) = 1 || s.slotActive k))

/-- A write of bytes by a master from a memory address: the access is refused whole when any of its bytes is (MEMORY_WRITE). -/
def State.memWrite (s : State) (m : Master) (a : Nat) (b : List Byte) : State :=
  let l := (List.range b.length).map (a + ·)
  match l.find? (s.writeViolates m) with
  | some x => s.violation m x true
  | none =>
    if l.any (fun x => (regionOf x).isNone) then s.evt F.SYS_EVT_NOMAP
    else if l.any s.storeRefuses then s.evt F.CAL_EVT_STORE_WR
    else if l.any s.kslotRefuses then s.evt F.GLR_EVT_KSLOT_WR
    else if l.any (fun x => regionOf x = some .rom || regionOf x = some .pages) then s
    else s.setBytes a b

/-- ECC source of a memory region: correctable, then uncorrectable. -/
def eccSource (a : Nat) : Option (Nat × Nat) :=
  match regionOf a with
  | some .sram => some (S.SRAM_ECC_COR, S.SRAM_ECC_UNC)
  | some .retention => some (S.RET_ECC_COR, S.RET_ECC_UNC)
  | some .calStore => some (S.CAL_ECC_COR, S.CAL_ECC_UNC)
  | some .graniteRam => some (S.GRAM_COR, S.GRAM_UNC)
  | _ => none

/-- Tile that an address of the calibration store belongs to (R336). -/
def storeTile (a : Nat) : Nat :=
  match gainTile a with
  | some t => t
  | none => if a < 0x28260000 then (a - 0x28240000) % 0x10000 / 0x2000 else (a - 0x28260100) / 0x40 % 8

/-- A corrected word (R302, R333, R454). -/
def State.eccCor (s : State) (a : Nat) (inj : Bool) : State :=
  match regionOf a with
  | some .sram => s.raiseWith S.SRAM_ECC_COR 0 a inj false
  | some .retention => s.raiseWith S.RET_ECC_COR 0 a inj false
  | some .calStore => s.calCor (storeTile a) a inj
  | some .graniteRam => s.gramCor a inj
  | _ => s

/-- An uncorrectable word (R302, R333, R454). -/
def State.eccUnc (s : State) (a : Nat) (inj : Bool) : State :=
  match regionOf a with
  | some .sram => s.raiseWith S.SRAM_ECC_UNC 0 a inj false
  | some .retention => s.raiseWith S.RET_ECC_UNC 0 a inj false
  | some .calStore => s.calUnc (storeTile a) a inj
  | some .graniteRam => s.gramUnc a inj
  | _ => s

/-- The ECC check of a word read: ecc is 0 good, 1 corrected, 2 uncorrectable; an armed injection fails it (R467). The Bool says that the
data stand; those of an uncorrectable word are a free value (log 7). -/
def State.eccCheck (s : State) (a ecc : Nat) : Bool × State :=
  match eccSource a with
  | none => (true, s)
  | some (c, u) =>
    if s.armed u then (false, (s.consumeInj u).eccUnc a true)
    else if s.armed c then (true, (s.consumeInj c).eccCor a true)
    else if ecc = 1 then (true, s.eccCor a false)
    else if ecc = 2 then (false, s.eccUnc a false)
    else (true, s)

/-- A read of size bytes by a master from a memory address: the word read, and the state after it. -/
def State.memRead (s : State) (m : Master) (a size ecc : Nat) : Word × State :=
  let l := (List.range size).map (a + ·)
  match l.find? (s.readRefused m) with
  | some x => (0, s.violation m x false)
  | none =>
    if l.any (fun x => (regionOf x).isNone || (regionOf x = some .flash && decide (Config.flashSize ≤ x - 0x60000000))) then (0, s.evt F.SYS_EVT_NOMAP)
    else
      let (ok, s) := s.eccCheck (a - a % 4) ecc
      if ok then (BitVec.ofNat 32 (s.le a size), s)
      else
        let (w, s) := s.free
        (BitVec.ofNat 32 (w % 256 ^ size), s)

/-! ### An access (R520, R572 to R574, R587) -/

/-- A write of bytes by a master at a byte address. -/
def State.busWrite (s : State) (m : Master) (a : Nat) (b : List Byte) : State :=
  if regionOf a = some .pages then
    let o := pageOff a
    let p := o / 4096
    if b.length ≠ 4 || a % 4 ≠ 0 then s.evt F.SYS_EVT_WIDTH
    else if !assigned p then s.evt F.SYS_EVT_NOPAGE
    else if !s.mayWrite m p (o % 4096) then s.violation m a true
    else s.pageWrite m p (o % 4096) (BitVec.ofNat 32 (ofLe b))
  else s.memWrite m a b

/-- A read of size bytes by a master at a byte address. -/
def State.busRead (s : State) (m : Master) (a size ecc : Nat) : Word × State :=
  if regionOf a = some .pages then
    let o := pageOff a
    let p := o / 4096
    if size ≠ 4 || a % 4 ≠ 0 then (0, s.evt F.SYS_EVT_WIDTH)
    else if !assigned p then (0, s.evt F.SYS_EVT_NOPAGE)
    else if !s.mayRead m p then (0, s.violation m a false)
    else s.readReg m o
  else s.memRead m a size ecc

/-- A 32-bit write of v by a master that runs. -/
def State.masterWrite (s : State) (m : Master) (a : Nat) (v : Word) : State :=
  if s.masterRuns m then s.busWrite m a (leBytes 4 v.toNat) else s

/-- Byte address of page offset off of page p. -/
def pageAddr (p off : Nat) : Nat := 0x40000000 + 0x1000 * p + off

end Sys2Proof.Machine
end

