-- ==== Sys2Proof/Machine/Access.lean ====
section
/-! DEFINITION. The commands that are one write or read of a master on the bus: each row that names a register is that write, so that its
world, its access code and its own meaning are those of Machine/Bus.lean (18_register_map; 16_security_and_self_test, R519 to R521, R528). -/

namespace Sys2Proof.Machine

/-! ### Reset, clocks, power -/

/-- RST_CMD_WRITE: a write of v to RST_CMD; a reset that it starts samples the given straps at its release (R116). -/
def execRstCmdWrite (m : Master) (v : Word) (st : Straps) (s : State) : Host.Outcome State Fault Refusal :=
  let s := s.begin
  let t := s.masterWrite m (pageAddr 0x02 0x44) v
  .next (if s.rst.scope.isNone && t.rst.scope.isSome then t.setStraps st else t)

/-- WDT_APP_ENABLE: a write of v to RST_WDT_CTRL (R117). -/
def execWdtAppEnable (m : Master) (v : Word) (s : State) : Host.Outcome State Fault Refusal := .next (s.begin.masterWrite m (pageAddr 0x02 0x68) v)

/-- WDT_KICK: a write of v to RST_WDT_KICK (R117). -/
def execWdtKick (m : Master) (v : Word) (s : State) : Host.Outcome State Fault Refusal := .next (s.begin.masterWrite m (pageAddr 0x02 0x6C) v)

/-- UNIT_CTRL of a page with bits set: its own ENABLE and WORLD. -/
def State.ctrlWord (s : State) (p : Nat) : Word := BitVec.ofNat 32 (s.g (F.UNIT_CTRL_ENABLE p) + 4 * s.world p)

/-- BLK_RESET: a write of 1 to UNIT_CTRL.BLK_RESET of a page, ENABLE and WORLD as they are (R20, R21, R123, R124). -/
def execBlkReset (m : Master) (page : Nat) (s : State) : Host.Outcome State Fault Refusal :=
  let s := s.begin
  .next (s.masterWrite m (pageAddr page 0x08) (s.ctrlWord page ||| 2))

/-- CLK_REF_CMD: a write of v to CLK_REF_CMD (R93). -/
def execClkRefCmd (m : Master) (v : Word) (s : State) : Host.Outcome State Fault Refusal := .next (s.begin.masterWrite m (pageAddr 0x01 0x48) v)

/-- CLR_AVOID: a write of v to RST_BJ_CTRL (R131). -/
def execClrAvoid (m : Master) (v : Word) (s : State) : Host.Outcome State Fault Refusal := .next (s.begin.masterWrite m (pageAddr 0x02 0x5C) v)

/-- MIRROR_NOW: a write of v to RST_BJ_CTRL (R136). -/
def execMirrorNow (m : Master) (v : Word) (s : State) : Host.Outcome State Fault Refusal := .next (s.begin.masterWrite m (pageAddr 0x02 0x5C) v)

/-- PWR_REQ_IDLE: a write of v to PWR_REQ (R502, R504). -/
def execPwrReqIdle (m : Master) (v : Word) (s : State) : Host.Outcome State Fault Refusal := .next (s.begin.masterWrite m (pageAddr 0x03 0x40) v)

/-- PWR_REQ_SLEEP: a write of v to PWR_REQ (R502, R505). -/
def execPwrReqSleep (m : Master) (v : Word) (s : State) : Host.Outcome State Fault Refusal := .next (s.begin.masterWrite m (pageAddr 0x03 0x40) v)

/-- PWR_REQ_DEEP: a write of v to PWR_REQ (R216, R502, R507). -/
def execPwrReqDeep (m : Master) (v : Word) (s : State) : Host.Outcome State Fault Refusal := .next (s.begin.masterWrite m (pageAddr 0x03 0x40) v)

/-- PWR_REQ_OFF: a write of v to PWR_REQ (R502, R510). -/
def execPwrReqOff (m : Master) (v : Word) (s : State) : Host.Outcome State Fault Refusal := .next (s.begin.masterWrite m (pageAddr 0x03 0x40) v)

/-- PAD_RELEASE: a write of v to PWR_PAD (R54, R516). -/
def execPadRelease (m : Master) (v : Word) (s : State) : Host.Outcome State Fault Refusal := .next (s.begin.masterWrite m (pageAddr 0x03 0x50) v)

/-! ### Picture units -/

/-- GLR_KLOAD: a write of v to GLR_KLOAD (R291). -/
def execGlrKload (m : Master) (v : Word) (s : State) : Host.Outcome State Fault Refusal := .next (s.begin.masterWrite m (pageAddr 0x30 0x48) v)

/-- INTERP_CMD: a write of v to CAL_CMD (R344). -/
def execInterpCmd (m : Master) (v : Word) (s : State) : Host.Outcome State Fault Refusal := .next (s.begin.masterWrite m (pageAddr 0x48 0x48) v)

/-- TRIM_CMD: a write of v to CAL_CMD (R356). -/
def execTrimCmd (m : Master) (v : Word) (s : State) : Host.Outcome State Fault Refusal := .next (s.begin.masterWrite m (pageAddr 0x48 0x48) v)

/-! ### Safety -/

/-- SAF_REACT: a write of v to SAF_REACT (R426). -/
def execSafReact (m : Master) (v : Word) (s : State) : Host.Outcome State Fault Refusal := .next (s.begin.masterWrite m (pageAddr 0x68 0x50) v)

/-- SAF_UNLOCK: a write of v to SAF_UNLOCK (R449). -/
def execSafUnlock (m : Master) (v : Word) (s : State) : Host.Outcome State Fault Refusal := .next (s.begin.masterWrite m (pageAddr 0x68 0x54) v)

/-- FLINT_WDT_KICK: a write of v to SAF_WDT (R442). -/
def execFlintWdtKick (m : Master) (v : Word) (s : State) : Host.Outcome State Fault Refusal := .next (s.begin.masterWrite m (pageAddr 0x68 0x58) v)

/-! ### Faults and the recorder -/

/-- FAULT_ACK: a write of v to one of FLT_UNACK0 to FLT_UNACK2 (R460). -/
def execFaultAck (m : Master) (r : Nat) (v : Word) (s : State) : Host.Outcome State Fault Refusal :=
  .next (s.begin.masterWrite m (pageAddr 0x70 (0x54 + 4 * (r % 3))) v)

/-- FAULT_CLEAR: a write of v to one of FLT_PEND0 to FLT_PEND2 (R460). -/
def execFaultClear (m : Master) (r : Nat) (v : Word) (s : State) : Host.Outcome State Fault Refusal :=
  .next (s.begin.masterWrite m (pageAddr 0x70 (0x48 + 4 * (r % 3))) v)

/-- INJECT_ARM: a write of v to FLT_INJ (R467). -/
def execInjectArm (m : Master) (v : Word) (s : State) : Host.Outcome State Fault Refusal := .next (s.begin.masterWrite m (pageAddr 0x70 0x90) v)

/-- INJECT_CANCEL: a write of v to FLT_INJ (R467). -/
def execInjectCancel (m : Master) (v : Word) (s : State) : Host.Outcome State Fault Refusal := .next (s.begin.masterWrite m (pageAddr 0x70 0x90) v)

/-- ATTEST_COMMIT: GO to the EVR page (R482). -/
def execAttestCommit (m : Master) (s : State) : Host.Outcome State Fault Refusal := .next (s.begin.masterWrite m (pageAddr 0x71 0x30) 1)

/-- RECORD_READ: a write of v to EVR_RD_SEQ (R478). -/
def execRecordRead (m : Master) (v : Word) (s : State) : Host.Outcome State Fault Refusal := .next (s.begin.masterWrite m (pageAddr 0x71 0x6C) v)

/-! ### Security and self-test -/

/-- WORLD_WRITE: a write of v to UNIT_CTRL of a page (R24, R39, R521). -/
def execWorldWrite (m : Master) (page : Nat) (v : Word) (s : State) : Host.Outcome State Fault Refusal := .next (s.begin.masterWrite m (pageAddr page 0x08) v)

/-- LC_REQUEST: a write of v to SEC_LC_REQ (R527). -/
def execLcRequest (m : Master) (v : Word) (s : State) : Host.Outcome State Fault Refusal := .next (s.begin.masterWrite m (pageAddr 0x78 0x44) v)

/-- LBIST_START: a write of v to BST_LB_CTRL (R534). -/
def execLbistStart (m : Master) (v : Word) (s : State) : Host.Outcome State Fault Refusal := .next (s.begin.masterWrite m (pageAddr 0x79 0x40) v)

/-- MBIST_REQUEST: a write of v to BST_MB_CTRL (R541). -/
def execMbistRequest (m : Master) (v : Word) (s : State) : Host.Outcome State Fault Refusal := .next (s.begin.masterWrite m (pageAddr 0x79 0x64) v)

/-- FUSE_PROGRAM: a write of v to FUS_PROG (R543). -/
def execFuseProgram (m : Master) (v : Word) (s : State) : Host.Outcome State Fault Refusal := .next (s.begin.masterWrite m (pageAddr 0x7A 0x44) v)

/-! ### Commits and registers without a row of their own -/

/-- UNIT_COMMIT: a write of v to UNIT_COMMIT of a page (R578). -/
def execUnitCommit (m : Master) (page : Nat) (v : Word) (s : State) : Host.Outcome State Fault Refusal := .next (s.begin.masterWrite m (pageAddr page 0x30) v)

/-- DISCARD: a write of v to UNIT_COMMIT of a page (R581, R582). -/
def execDiscard (m : Master) (page : Nat) (v : Word) (s : State) : Host.Outcome State Fault Refusal := .next (s.begin.masterWrite m (pageAddr page 0x30) v)

/-- REGISTER_WRITE: a 32-bit write of v at address a (R9). -/
def execRegisterWrite (m : Master) (a : Nat) (v : Word) (s : State) : Host.Outcome State Fault Refusal := .next (s.begin.masterWrite m a v)

/-- REGISTER_READ: a read of size bytes at address a; ecc is what the ECC of a memory word shows: 0 good, 1 corrected, 2 uncorrectable
(R520, R572 to R574, R586, R587). -/
def execRegisterRead (m : Master) (a size ecc : Nat) (s : State) : Host.Outcome State Fault Refusal :=
  let s := s.begin
  .next (if s.masterRuns m then
    let (w, s) := s.busRead m a size ecc
    s.withReadData [w]
  else s)

/-- MEMORY_WRITE: a write of bytes from address a (R38, R291, R299, R337, R572, R573). -/
def execMemoryWrite (m : Master) (a : Nat) (bytes : List Byte) (s : State) : Host.Outcome State Fault Refusal :=
  let s := s.begin
  .next (if s.masterRuns m then s.busWrite m a bytes else s)

/-- BUS: a 32-bit access of the TAP while it is open and the root runs (R36, R519, R528). -/
def execBus (write : Bool) (a : Nat) (v : Word) (s : State) : Host.Outcome State Fault Refusal :=
  let s := s.begin
  .next (if s.tapUp then
    let s := s.tapInstr
    if s.on F.SEC_TAP_OPEN && s.masterRuns .tap then
      if write then s.busWrite .tap a (leBytes 4 v.toNat)
      else
        let (w, s) := s.busRead .tap a 4 0
        s.withReadData [w]
    else s
  else s)

end Sys2Proof.Machine
end

