-- ==== Sys2Proof/Machine/Engine.lean ====
section
/-! DEFINITION. The link engines, the REG agent and the SPI target: what takes frames from a receive buffer and answers them
(05_gylys_link, R155; 06_work_submission, R195 to R202; 18_register_map, R588 to R595). -/

namespace Sys2Proof.Machine

/-! ### The REG agent (R588 to R592) -/

/-- A REG request: OP, TAG, COUNT and ADDR. -/
def regOp (p : List Byte) : Nat := ofBe (slice p 0 1)
def regCount (p : List Byte) : Nat := ofBe (slice p 2 2)
def regAddr (p : List Byte) : Nat := ofBe (slice p 4 4)

/-- LEN that R588 gives a request. -/
def regLen (p : List Byte) : Nat := if regOp p = 2 then 8 + 4 * regCount p else if regOp p = 3 then 16 else 8

/-- The request is as R588 asks; otherwise its STAT is FORMAT (R590). -/
def regFormOk (p : List Byte) : Bool :=
  decide (1 ≤ regOp p) && decide (regOp p ≤ 3) && decide (regCount p ≤ 253) && (regOp p ≠ 3 || regCount p = 1) && p.length = regLen p && regAddr p % 4 = 0

/-- Every word of the request lies in one assigned page; otherwise its STAT is RANGE (R590). -/
def regRangeOk (p : List Byte) : Bool :=
  let a := regAddr p
  let b := a + 4 * (regCount p - 1)
  decide (0x40000000 ≤ a) && decide (b < 0x4008D000) && a / 4096 = b / 4096 && assigned (pageOff a / 4096)

/-- A response payload (R589). -/
def regAnswer (p : List Byte) (stat done : Nat) (data : List Word) : List Byte :=
  b8 (regOp p + 0x80) :: slice p 1 7 ++ [b8 stat, 0] ++ beBytes 2 done ++ data.flatMap (fun w => beBytes 4 w.toNat)

/-- Words read from address a upward: whether one was refused, the words, the state (R589). -/
def State.regReads (s : State) (a : Nat) : Nat → Bool × List Word × State
  | 0 => (false, [], s)
  | n + 1 =>
    let bad := !s.mayRead .reg (pageOff a / 4096)
    let (w, s) := s.busRead .reg a 4 0
    let (bads, ws, s) := s.regReads (a + 4) n
    (bad || bads, w :: ws, s)

/-- Words written from address a upward; a reset that one of them starts ends the request (R589, R591). -/
def State.regWrites (s : State) (a : Nat) : List Word → Bool × State
  | [] => (false, s)
  | w :: ws =>
    if s.rst.scope.isSome then (false, s)
    else
      let bad := !s.mayWrite .reg (pageOff a / 4096) (pageOff a % 4096)
      let s := s.busWrite .reg a (leBytes 4 w.toNat)
      let (bads, s) := s.regWrites (a + 4) ws
      (bad || bads, s)

/-- Data words of a request. -/
def regData (p : List Byte) (n : Nat) : List Word := (List.range n).map (fun i => BitVec.ofNat 32 (ofBe (slice p (8 + 4 * i) 4)))

/-- (old AND NOT mask) OR (value AND mask) (R589). -/
def modified (old value mask : Word) : Word := (old &&& ~~~ mask) ||| (value &&& mask)

/-- One access that reads and writes a register: the old word, and the state. -/
def State.modifyAt (s : State) (a : Nat) (value mask : Word) : Word × State :=
  let r := s.readReg .reg (pageOff a)
  (r.1, r.2.busWrite .reg a (leBytes 4 (modified r.1 value mask).toNat))

/-- A register that the link engine may read and write. -/
def State.mayModify (s : State) (o : Nat) : Bool := s.mayRead .reg (o / 4096) && s.mayWrite .reg (o / 4096) (o % 4096)

/-- MODIFY: one access that writes (old AND NOT mask) OR (value AND mask) (R589). -/
def State.regModify (s : State) (p : List Byte) : Bool × Word × State :=
  if s.mayModify (pageOff (regAddr p)) then (false, s.modifyAt (regAddr p) ((regData p 2).getD 0 0) ((regData p 2).getD 1 0))
  else (true, 0, s.violation .reg (regAddr p) true)

/-- A response goes to the REG queue of its link and is counted; a reset in between leaves none (R589 to R591). -/
def State.regRespond (s : State) (l : Nat) (noop : Bool) (r : List Byte) : State :=
  if s.rst.scope.isSome then s
  else
    let s := s.inc F.SYS_CNT_REG
    let s := if noop then s.incSat F.SYS_CNT_REG_NOOP else s
    s.modLink l (fun k => { k with reg := k.reg ++ [r] })

/-- A request whose words are accessed. -/
def State.regAccess (s : State) (l : Nat) (p : List Byte) : State :=
  let n := regCount p
  if regOp p = 1 then
    let (bad, ws, s) := s.regReads (regAddr p) n
    s.regRespond l false (regAnswer p (3 * bit bad) n ws)
  else if regOp p = 2 then
    let (bad, s) := s.regWrites (regAddr p) (regData p n)
    s.regRespond l false (regAnswer p (3 * bit bad) n [])
  else
    let (bad, w, s) := s.regModify p
    s.regRespond l false (regAnswer p (3 * bit bad) n [w])

/-- A REG frame that reaches the head of the receive buffer of link l is served (R588 to R591). -/
def State.regServe (s : State) (l : Nat) (p : List Byte) : State :=
  if p.isEmpty then s.regRespond l true []
  else if (s.inRecovery || s.g F.SEC_LC_STATE = 4) && regOp p ≠ 1 then s
  else if !regFormOk p then (s.evt F.SYS_EVT_REG_FMT).regRespond l false (regAnswer p 1 0 [])
  else if regCount p = 0 then s.regRespond l true (regAnswer p 0 0 [])
  else if !regRangeOk p then (s.evt F.SYS_EVT_REG_RANGE).regRespond l false (regAnswer p 2 0 [])
  else s.regAccess l p

/-! ### The receive buffer (R154, R155, R219, R619) -/

/-- Link engine l takes frames: LINKS has run, clocks are up, no block reset, no full queue and no packet that waits (R154, R214, R219, R526, R619). -/
def State.engineTakes (s : State) (l : Nat) : Bool :=
  s.linkServed l && s.rst.scope.isNone && s.on F.CLK_STAT_ROOT_OK && !s.flintStopped && !s.blockRunning (lnkPage l)
  && (l = 0 || s.g F.SEC_LC_STATE ≠ 4)
  && decide ((s.link l).ack.length < 64) && decide ((s.link l).reg.length < 8) && (s.link l).waiting.isNone

/-- A frame taken from the buffer; DECOM answers REG reads and nothing else (R526). -/
def State.engineFrame (s : State) (l : Nat) (f : RxFrame) : State :=
  if f.ftype = 4 then s.regServe l f.payload
  else if s.g F.SEC_LC_STATE = 4 then s
  else s.classify l f.payload

/-- Link engine l takes up to n frames in arrival order. -/
def State.engineRun (s : State) (l : Nat) : Nat → State
  | 0 => s
  | n + 1 =>
    match (s.link l).rx with
    | [] => s
    | f :: t => if s.engineTakes l then ((s.modLink l (fun k => { k with rx := t })).engineFrame l f).engineRun l n else s

/-- Both link engines take what they can. -/
def State.enginesRun (s : State) : State := (List.range 2).foldl (fun s l => s.engineRun l (s.link l).rx.length) s

/-- PAUSE at a fill of 40 KiB (R155). -/
def State.pauseTry (s : State) (l : Nat) : State :=
  if s.on (F.LNK_CTRL_PAUSE_EN l) && !s.on (F.LNK_STAT_PAUSED l) && decide (40960 ≤ (s.link l).fill) then
    (s.put (F.LNK_STAT_PAUSED l) 1).modLink l (fun k => k.send .pause)
  else s

/-- A WORK or REG frame arrives: it is checked, enters the receive buffer, and the engine takes what it can; LISTEN discards it
(R151, R155, R156, R197). -/
def State.receive (s : State) (l : Nat) (f : Wire) (ftype : Nat) : State :=
  let (ok, s) := s.checkFrame l f
  if ok && f.ftype = ftype && s.lst l = 5 then
    let r : RxFrame := ⟨ftype, f.payload⟩
    if ftype = 1 && decide (f.len < 20) then s.evt (F.LNK_EVT_MALFORMED l)
    else if 65536 < (s.link l).fill + r.size then s.evt (F.LNK_EVT_OVERRUN l)
    else
      let s := (s.modLink l (fun k => { k with rx := k.rx ++ [r] })).pauseTry l
      s.engineRun l (s.link l).rx.length
  else s

/-- WORK_FRAME (R151, R155, R197, R200). -/
def execWorkFrame (l : Nat) (f : Wire) (s : State) : Host.Outcome State Fault Refusal := .next (s.begin.receive l f 1)

/-- REG_READ: a REG frame with a READ request (R588 to R591). -/
def execRegRead (l : Nat) (f : Wire) (s : State) : Host.Outcome State Fault Refusal := .next (s.begin.receive l f 4)

/-- REG_WRITE: a REG frame with a WRITE request (R588 to R592). -/
def execRegWrite (l : Nat) (f : Wire) (s : State) : Host.Outcome State Fault Refusal := .next (s.begin.receive l f 4)

/-- REG_MODIFY: a REG frame with a MODIFY request (R588 to R591). -/
def execRegModify (l : Nat) (f : Wire) (s : State) : Host.Outcome State Fault Refusal := .next (s.begin.receive l f 4)

/-- PACKET_STORE: the packet that waits on path l is stored when its ring has room; copies are the store-state copies that fail (R201, R213, R219). -/
def execPacketStore (l copies : Nat) (s : State) : Host.Outcome State Fault Refusal :=
  let s := s.begin
  .next (if s.rst.scope.isNone && s.on F.CLK_STAT_ROOT_OK && !s.flintStopped then
    let s := s.storeWaiting l copies
    if l < 2 then s.engineRun l (s.link l).rx.length else s
  else s)

/-! ### CONTROL (R198, R208, R212) -/

/-- The bus master that applies a packet's entries: the link engine of its link, or the SPI target. -/
def Packet.master (p : Packet) : Master := if p.link < 2 then .link p.link else .spi

/-- The entries of a CONTROL body are written in order (R198). -/
def State.applyEntries (s : State) (m : Master) (l : List (Nat × Word)) : State := l.foldl (fun s e => s.busWrite m e.1 (leBytes 4 e.2.toNat)) s

/-- CONTROL_CONSUME: the oldest CONTROL packet is applied and DONE, or replayed on a parity error (R198, R208, R212). -/
def execControlConsume (parity : Bool) (s : State) : Host.Outcome State Fault Refusal :=
  let s := s.begin
  .next (match s.head 0 with
    | none => s
    | some p => if parity || s.armed S.CMD_REPLAY then s.replay 0 else (s.applyEntries p.master (ctlEntries p.body)).doneHead 0)

/-! ### The SPI target (R593 to R595) -/

/-- The target is READY: the root runs and no reset holds the device (R36, R594). -/
def State.spiReady (s : State) : Bool := s.masterRuns .spi

/-- A READ, WRITE or command of the target fails (R594, R599). -/
def State.spiErr (s : State) : State := let t := s.evt F.SYS_EVT_SPT_ERR; (t.withSpi { t.spi with err := true })

/-- A packet is discarded (R595). -/
def State.pktErr (s : State) : State := let t := s.evt F.SYS_EVT_SPT_ERR; (t.withSpi { t.spi with pktErr := true })

/-- The status byte (R594). -/
def State.spiStatus (s : State) : Nat :=
  1 + 2 * bit s.spi.err + 4 * bit s.spi.pktBusy + 8 * bit (!s.spi.rsp.isEmpty) + 16 * bit s.spi.pktErr + 32 * bit s.winEnabled

/-- SPI_STATUS: the status byte, which clears ERR and PKT_ERR (R594). -/
def execSpiStatus (s : State) : Host.Outcome State Fault Refusal :=
  let s := s.begin
  .next (if s.spiReady then
    (s.withReadData [BitVec.ofNat 32 s.spiStatus]).withSpi { s.spi with err := false, pktErr := false }
  else (s.withReadData [0]))

/-- An address in an assigned unit page (R593). -/
def inPages (a : Nat) : Bool := regionOf a = some .pages && assigned (pageOff a / 4096)

/-- One word read by the SPI target (R593). -/
def State.spiReadWord (s : State) (a : Nat) : Word × State :=
  if inPages a then
    let s' := if a % 4 = 0 && s.mayRead .spi (pageOff a / 4096) then s else s.spiErr
    s'.busRead .spi a 4 0
  else (0, s.spiErr)

/-- Words from address a upward. -/
def State.spiReads (s : State) (a : Nat) : Nat → List Word × State
  | 0 => ([], s)
  | n + 1 =>
    let (w, s) := s.spiReadWord a
    let (ws, s) := s.spiReads (a + 4) n
    (w :: ws, s)

/-- SPI_READ: n words from address a upward (R593); 0x00 until the root runs (R594). -/
def execSpiRead (a n : Nat) (s : State) : Host.Outcome State Fault Refusal :=
  let s := s.begin
  .next (if s.spiReady then
    let (ws, s) := s.spiReads a n
    s.withReadData ws
  else (s.withReadData (List.replicate n 0)))

/-- One word written by the SPI target; DECOM answers reads alone (R526, R593). -/
def State.spiWriteWord (s : State) (a : Nat) (b : List Byte) : State :=
  if s.rst.scope.isSome then s
  else if inPages a && s.g F.SEC_LC_STATE ≠ 4 then
    let o := pageOff a
    let s' := if a % 4 = 0 && s.mayWrite .spi (o / 4096) (o % 4096) then s else s.spiErr
    s'.busWrite .spi a (leBytes 4 (ofBe b))
  else s.spiErr

/-- SPI_WRITE: the complete words of a byte string, from address a upward (R593). -/
def execSpiWrite (a : Nat) (bytes : List Byte) (s : State) : Host.Outcome State Fault Refusal :=
  let s := s.begin
  .next (if s.spiReady then (List.range (bytes.length / 4)).foldl (fun s i => s.spiWriteWord (a + 4 * i) (slice bytes (4 * i) 4)) s else s)

/-- A PKT_WRITE is discarded (R595); LEN outside 20 to 16,384 counts with them (R593). -/
def State.pktBad (s : State) (len : Nat) (bytes : List Byte) (crc : Nat) : Bool :=
  !s.winEnabled || decide (len < 20) || decide (16384 < len) || bytes.length ≠ len || crc ≠ crc32 bytes || s.spi.pktBusy || decide (60 < s.spi.rsp.length)

/-- PKT_WRITE: a work packet through the packet window (R595). -/
def execPktWrite (len : Nat) (bytes : List Byte) (crc : Nat) (s : State) : Host.Outcome State Fault Refusal :=
  let s := s.begin
  .next (if s.spiReady then (if s.pktBad len bytes crc then s.pktErr else s.classify 2 bytes) else s)

/-- The four words of a 16-byte response, most significant byte first. -/
def rspWords (f : List Byte) : List Word := (List.range 4).map (fun i => BitVec.ofNat 32 (ofBe (slice f (4 * i) 4)))

/-- RSP_READ: the oldest queued response, which leaves the queue; bytes of 0xFF when none is queued (R593, R595). -/
def execRspRead (s : State) : Host.Outcome State Fault Refusal :=
  let s := s.begin
  .next (if s.spiReady then
    match s.spi.rsp with
    | f :: t => (s.withReadData (rspWords (s.fillAux f))).withSpi { s.spi with rsp := t }
    | [] => s.withReadData (List.replicate 4 0xFFFFFFFF)
  else (s.withReadData (List.replicate 4 0)))

end Sys2Proof.Machine
end

