-- ==== Sys2Proof/Machine/Dispatch.lean ====
section
/-! DEFINITION. One arm per command, each one direct call of its meaning. -/

namespace Sys2Proof.Machine

def exec (i : Instr) (s : State) : Host.Outcome State Fault Refusal :=
  match i with
  | .pmicPgRise st => Sys2Proof.Machine.execPmicPgRise st s
  | .pgLoss rstLow => Sys2Proof.Machine.execPgLoss rstLow s
  | .supplyLow => Sys2Proof.Machine.execSupplyLow s
  | .por => Sys2Proof.Machine.execPor s
  | .thmCritTrip => Sys2Proof.Machine.execThmCritTrip s
  | .thmCritRelease st => Sys2Proof.Machine.execThmCritRelease st s
  | .rstNLow => Sys2Proof.Machine.execRstNLow s
  | .rstNRelease st => Sys2Proof.Machine.execRstNRelease st s
  | .pinDeep => Sys2Proof.Machine.execPinDeep s
  | .rstStuckTimeout st => Sys2Proof.Machine.execRstStuckTimeout st s
  | .stuckIgnoreEnd => Sys2Proof.Machine.execStuckIgnoreEnd s
  | .rstCmdWrite m v st => Sys2Proof.Machine.execRstCmdWrite m v st s
  | .wdtAppEnable m v => Sys2Proof.Machine.execWdtAppEnable m v s
  | .wdtKick m v => Sys2Proof.Machine.execWdtKick m v s
  | .wdtAppExpiry st => Sys2Proof.Machine.execWdtAppExpiry st s
  | .blkReset m page => Sys2Proof.Machine.execBlkReset m page s
  | .blockResetEnd page => Sys2Proof.Machine.execBlockResetEnd page s
  | .quiescenceEnd page => Sys2Proof.Machine.execQuiescenceEnd page s
  | .rcStart fail => Sys2Proof.Machine.execRcStart fail s
  | .rcRetry => Sys2Proof.Machine.execRcRetry s
  | .refCdrLock => Sys2Proof.Machine.execRefCdrLock s
  | .acqTmoExpiry => Sys2Proof.Machine.execAcqTmoExpiry s
  | .rootLoopLock => Sys2Proof.Machine.execRootLoopLock s
  | .acquireTimeout => Sys2Proof.Machine.execAcquireTimeout s
  | .dividersRunning => Sys2Proof.Machine.execDividersRunning s
  | .referenceLoss => Sys2Proof.Machine.execReferenceLoss s
  | .clkRefCmd m v => Sys2Proof.Machine.execClkRefCmd m v s
  | .linkEligible => Sys2Proof.Machine.execLinkEligible s
  | .freqWindowEnd l ppm => Sys2Proof.Machine.execFreqWindowEnd l ppm s
  | .muxSwitch wait => Sys2Proof.Machine.execMuxSwitch wait s
  | .forcedSwitch => Sys2Proof.Machine.execForcedSwitch s
  | .slewLock => Sys2Proof.Machine.execSlewLock s
  | .holdoverExpiry => Sys2Proof.Machine.execHoldoverExpiry s
  | .stoppingGate => Sys2Proof.Machine.execStoppingGate s
  | .monitorWindowEnd lane pix core peri hk => Sys2Proof.Machine.execMonitorWindowEnd lane pix core peri hk s
  | .rcCheckWindowEnd count => Sys2Proof.Machine.execRcCheckWindowEnd count s
  | .signalDetect l => Sys2Proof.Machine.execSignalDetect l s
  | .cdrLock l => Sys2Proof.Machine.execCdrLock l s
  | .cdrLockTimeout l => Sys2Proof.Machine.execCdrLockTimeout l s
  | .commaAlign l => Sys2Proof.Machine.execCommaAlign l s
  | .trainingDone l => Sys2Proof.Machine.execTrainingDone l s
  | .trainingTimeout l => Sys2Proof.Machine.execTrainingTimeout l s
  | .tsReceived l => Sys2Proof.Machine.execTsReceived l s
  | .alignmentLoss l => Sys2Proof.Machine.execAlignmentLoss l s
  | .lossOfSignal l => Sys2Proof.Machine.execLossOfSignal l s
  | .cdrLossOfLock l => Sys2Proof.Machine.execCdrLossOfLock l s
  | .skp l fill => Sys2Proof.Machine.execSkp l fill s
  | .ltm l dly => Sys2Proof.Machine.execLtm l dly s
  | .lctlTime l f => Sys2Proof.Machine.execLctlTime l f s
  | .lctlWake l f => Sys2Proof.Machine.execLctlWake l f s
  | .workFrame l f => Sys2Proof.Machine.execWorkFrame l f s
  | .resume l => Sys2Proof.Machine.execResume l s
  | .packetStore l copies => Sys2Proof.Machine.execPacketStore l copies s
  | .storeTimeout l => Sys2Proof.Machine.execStoreTimeout l s
  | .gapHoldExpiry l ch => Sys2Proof.Machine.execGapHoldExpiry l ch s
  | .doneFrame ch copies => Sys2Proof.Machine.execDoneFrame ch copies s
  | .controlConsume parity => Sys2Proof.Machine.execControlConsume parity s
  | .layerConsume parity => Sys2Proof.Machine.execLayerConsume parity s
  | .regRead l f => Sys2Proof.Machine.execRegRead l f s
  | .regWrite l f => Sys2Proof.Machine.execRegWrite l f s
  | .regModify l f => Sys2Proof.Machine.execRegModify l f s
  | .statusFrame l => Sys2Proof.Machine.execStatusFrame l s
  | .devStatus => Sys2Proof.Machine.execDevStatus s
  | .ltValidTimeout => Sys2Proof.Machine.execLtValidTimeout s
  | .safeFrame l f => Sys2Proof.Machine.execSafeFrame l f s
  | .pendingExpiry l => Sys2Proof.Machine.execPendingExpiry l s
  | .csfStaleTimeout => Sys2Proof.Machine.execCsfStaleTimeout s
  | .profileChange => Sys2Proof.Machine.execProfileChange s
  | .sideTrainingDone => Sys2Proof.Machine.execSideTrainingDone s
  | .phaseFrame f => Sys2Proof.Machine.execPhaseFrame f s
  | .seamFrame f => Sys2Proof.Machine.execSeamFrame f s
  | .sstatFrame f => Sys2Proof.Machine.execSstatFrame f s
  | .sideRxTimeout => Sys2Proof.Machine.execSideRxTimeout s
  | .sstatSend => Sys2Proof.Machine.execSstatSend s
  | .latchPoint => Sys2Proof.Machine.execLatchPoint s
  | .bandSlot k bad => Sys2Proof.Machine.execBandSlot k bad s
  | .bandRelease k hit => Sys2Proof.Machine.execBandRelease k hit s
  | .regionPush n => Sys2Proof.Machine.execRegionPush n s
  | .regionRecompute bad => Sys2Proof.Machine.execRegionRecompute bad s
  | .reportTimeout n => Sys2Proof.Machine.execReportTimeout n s
  | .pushDeadline => Sys2Proof.Machine.execPushDeadline s
  | .flipCommit => Sys2Proof.Machine.execFlipCommit s
  | .flip => Sys2Proof.Machine.execFlip s
  | .objectCutoff parity => Sys2Proof.Machine.execObjectCutoff parity s
  | .kernelBandRender n b cycles band parity => Sys2Proof.Machine.execKernelBandRender n b cycles band parity s
  | .kernelOverrun n b window parity => Sys2Proof.Machine.execKernelOverrun n b window parity s
  | .glrKload m v => Sys2Proof.Machine.execGlrKload m v s
  | .kernelVerifyDone slot sigOk => Sys2Proof.Machine.execKernelVerifyDone slot sigOk s
  | .lightSleepEntry bank => Sys2Proof.Machine.execLightSleepEntry bank s
  | .lightSleepWake bank access => Sys2Proof.Machine.execLightSleepWake bank access s
  | .digestCheck ok ecc => Sys2Proof.Machine.execDigestCheck ok ecc s
  | .interpCmd m v => Sys2Proof.Machine.execInterpCmd m v s
  | .interpDone tile => Sys2Proof.Machine.execInterpDone tile s
  | .trimCmd m v => Sys2Proof.Machine.execTrimCmd m v s
  | .trimDone codes => Sys2Proof.Machine.execTrimDone codes s
  | .fluxRecordWrite => Sys2Proof.Machine.execFluxRecordWrite s
  | .tsbRound slots readback start => Sys2Proof.Machine.execTsbRound slots readback start s
  | .assignTimeout n => Sys2Proof.Machine.execAssignTimeout n s
  | .tsbStatus n w => Sys2Proof.Machine.execTsbStatus n w s
  | .tsbUidLo n w => Sys2Proof.Machine.execTsbUidLo n w s
  | .tsbUidHi n w => Sys2Proof.Machine.execTsbUidHi n w s
  | .tsbCap n w => Sys2Proof.Machine.execTsbCap n w s
  | .identTimeout n => Sys2Proof.Machine.execIdentTimeout n s
  | .laneSerialiserReady n => Sys2Proof.Machine.execLaneSerialiserReady n s
  | .laneTrainDone n => Sys2Proof.Machine.execLaneTrainDone n s
  | .laneScheduledWake => Sys2Proof.Machine.execLaneScheduledWake s
  | .laneDead n => Sys2Proof.Machine.execLaneDead n s
  | .tempInvalidTimeout n => Sys2Proof.Machine.execTempInvalidTimeout n s
  | .coolDownComplete n => Sys2Proof.Machine.execCoolDownComplete n s
  | .fsyncEdge => Sys2Proof.Machine.execFsyncEdge s
  | .fsyncLost => Sys2Proof.Machine.execFsyncLost s
  | .segIdent a => Sys2Proof.Machine.execSegIdent a s
  | .segConfig a => Sys2Proof.Machine.execSegConfig a s
  | .segSet a readback => Sys2Proof.Machine.execSegSet a readback s
  | .segPoll a readback => Sys2Proof.Machine.execSegPoll a readback s
  | .segLatch readback => Sys2Proof.Machine.execSegLatch readback s
  | .segAllOff => Sys2Proof.Machine.execSegAllOff s
  | .segResponse bytes => Sys2Proof.Machine.execSegResponse bytes s
  | .segResponseTimeout => Sys2Proof.Machine.execSegResponseTimeout s
  | .scanRowSlot => Sys2Proof.Machine.execScanRowSlot s
  | .sinFilterExpiry n b => Sys2Proof.Machine.execSinFilterExpiry n b s
  | .sinHealthyFilter n => Sys2Proof.Machine.execSinHealthyFilter n s
  | .sinDiscrepancyTimeout n => Sys2Proof.Machine.execSinDiscrepancyTimeout n s
  | .testPulseStart n levels => Sys2Proof.Machine.execTestPulseStart n levels s
  | .testPulseEnd levels => Sys2Proof.Machine.execTestPulseEnd levels s
  | .offPulseStart k => Sys2Proof.Machine.execOffPulseStart k s
  | .offPulseEnd k rb => Sys2Proof.Machine.execOffPulseEnd k rb s
  | .soutReadbackFault k rb => Sys2Proof.Machine.execSoutReadbackFault k rb s
  | .soutFaultClear k => Sys2Proof.Machine.execSoutFaultClear k s
  | .tilePowerUp k => Sys2Proof.Machine.execTilePowerUp k s
  | .flintEvaluation => Sys2Proof.Machine.execFlintEvaluation s
  | .safReact m v => Sys2Proof.Machine.execSafReact m v s
  | .safUnlock m v => Sys2Proof.Machine.execSafUnlock m v s
  | .flintWdtKick m v => Sys2Proof.Machine.execFlintWdtKick m v s
  | .flintWdtExpiry st => Sys2Proof.Machine.execFlintWdtExpiry st s
  | .lockstepMismatch => Sys2Proof.Machine.execLockstepMismatch s
  | .fokReadbackMismatch => Sys2Proof.Machine.execFokReadbackMismatch s
  | .faultAck m r v => Sys2Proof.Machine.execFaultAck m r v s
  | .faultClear m r v => Sys2Proof.Machine.execFaultClear m r v s
  | .injectArm m v => Sys2Proof.Machine.execInjectArm m v s
  | .injectCancel m v => Sys2Proof.Machine.execInjectCancel m v s
  | .trackerClose => Sys2Proof.Machine.execTrackerClose s
  | .recordWrite => Sys2Proof.Machine.execRecordWrite s
  | .mirrorPageWrite ok => Sys2Proof.Machine.execMirrorPageWrite ok s
  | .checkpoint => Sys2Proof.Machine.execCheckpoint s
  | .checkpointFlash => Sys2Proof.Machine.execCheckpointFlash s
  | .attestCommit m => Sys2Proof.Machine.execAttestCommit m s
  | .recordRead m v => Sys2Proof.Machine.execRecordRead m v s
  | .housekeepingRoundStart => Sys2Proof.Machine.execHousekeepingRoundStart s
  | .housekeepingRoundEnd codes => Sys2Proof.Machine.execHousekeepingRoundEnd codes s
  | .roundTimeout => Sys2Proof.Machine.execRoundTimeout s
  | .pwrReqIdle m v => Sys2Proof.Machine.execPwrReqIdle m v s
  | .idleWake => Sys2Proof.Machine.execIdleWake s
  | .pwrReqSleep m v => Sys2Proof.Machine.execPwrReqSleep m v s
  | .pwrReqDeep m v => Sys2Proof.Machine.execPwrReqDeep m v s
  | .pwrReqOff m v => Sys2Proof.Machine.execPwrReqOff m v s
  | .flintPrepConfirm lyOk => Sys2Proof.Machine.execFlintPrepConfirm lyOk s
  | .prepTimeout => Sys2Proof.Machine.execPrepTimeout s
  | .pmicAck t => Sys2Proof.Machine.execPmicAck t s
  | .ackTimeout => Sys2Proof.Machine.execAckTimeout s
  | .deepExit st t => Sys2Proof.Machine.execDeepExit st t s
  | .wakeRequest => Sys2Proof.Machine.execWakeRequest s
  | .wakeTimer => Sys2Proof.Machine.execWakeTimer s
  | .pmbAlert word ok => Sys2Proof.Machine.execPmbAlert word ok s
  | .pmbStatusPoll word ok => Sys2Proof.Machine.execPmbStatusPoll word ok s
  | .padRelease m v => Sys2Proof.Machine.execPadRelease m v s
  | .idcode => Sys2Proof.Machine.execIdcode s
  | .samplePreload bits => Sys2Proof.Machine.execSamplePreload bits s
  | .extest => Sys2Proof.Machine.execExtest s
  | .authNonce => Sys2Proof.Machine.execAuthNonce s
  | .authResp resp => Sys2Proof.Machine.execAuthResp resp s
  | .authCheckDone sigOk => Sys2Proof.Machine.execAuthCheckDone sigOk s
  | .authStat => Sys2Proof.Machine.execAuthStat s
  | .rcStat => Sys2Proof.Machine.execRcStat s
  | .bus write a v => Sys2Proof.Machine.execBus write a v s
  | .scan => Sys2Proof.Machine.execScan s
  | .reset st => Sys2Proof.Machine.execReset st s
  | .bypass => Sys2Proof.Machine.execBypass s
  | .trstNLow => Sys2Proof.Machine.execTrstNLow s
  | .nonceExpiry => Sys2Proof.Machine.execNonceExpiry s
  | .worldWrite m page v => Sys2Proof.Machine.execWorldWrite m page v s
  | .lcRequest m v => Sys2Proof.Machine.execLcRequest m v s
  | .secretClearDone ok => Sys2Proof.Machine.execSecretClearDone ok s
  | .lbistStart m v => Sys2Proof.Machine.execLbistStart m v s
  | .lbistEnd misr => Sys2Proof.Machine.execLbistEnd misr s
  | .lbistTimeout => Sys2Proof.Machine.execLbistTimeout s
  | .mbistRequest m v => Sys2Proof.Machine.execMbistRequest m v s
  | .fuseProgram m v => Sys2Proof.Machine.execFuseProgram m v s
  | .fuseProgramDone ok => Sys2Proof.Machine.execFuseProgramDone ok s
  | .updWrite parity => Sys2Proof.Machine.execUpdWrite parity s
  | .updVerify parity => Sys2Proof.Machine.execUpdVerify parity s
  | .verifyDone sigOk => Sys2Proof.Machine.execVerifyDone sigOk s
  | .updActivate parity => Sys2Proof.Machine.execUpdActivate parity s
  | .restartReset => Sys2Proof.Machine.execRestartReset s
  | .updConfirm parity => Sys2Proof.Machine.execUpdConfirm parity s
  | .trialTimeout => Sys2Proof.Machine.execTrialTimeout s
  | .fuseLoad pmb badRows => Sys2Proof.Machine.execFuseLoad pmb badRows s
  | .mbist fails => Sys2Proof.Machine.execMbist fails s
  | .journal => Sys2Proof.Machine.execJournal s
  | .mainImage aOk bOk => Sys2Proof.Machine.execMainImage aOk bOk s
  | .granite aOk bOk fuseOk => Sys2Proof.Machine.execGranite aOk bOk fuseOk s
  | .settings ok => Sys2Proof.Machine.execSettings ok s
  | .profile ok => Sys2Proof.Machine.execProfile ok s
  | .calib ok => Sys2Proof.Machine.execCalib ok s
  | .kernels ok => Sys2Proof.Machine.execKernels ok s
  | .links copies => Sys2Proof.Machine.execLinks copies s
  | .tiles => Sys2Proof.Machine.execTiles s
  | .safeReady => Sys2Proof.Machine.execSafeReady s
  | .firstLight => Sys2Proof.Machine.execFirstLight s
  | .bootTimeout st => Sys2Proof.Machine.execBootTimeout st s
  | .epochSave => Sys2Proof.Machine.execEpochSave s
  | .clrAvoid m v => Sys2Proof.Machine.execClrAvoid m v s
  | .mirrorNow m v => Sys2Proof.Machine.execMirrorNow m v s
  | .unitCommit m page v => Sys2Proof.Machine.execUnitCommit m page v s
  | .discard m page v => Sys2Proof.Machine.execDiscard m page v s
  | .registerWrite m a v => Sys2Proof.Machine.execRegisterWrite m a v s
  | .spiStatus => Sys2Proof.Machine.execSpiStatus s
  | .spiRead a n => Sys2Proof.Machine.execSpiRead a n s
  | .spiWrite a bytes => Sys2Proof.Machine.execSpiWrite a bytes s
  | .pktWrite len bytes crc => Sys2Proof.Machine.execPktWrite len bytes crc s
  | .rspRead => Sys2Proof.Machine.execRspRead s
  | .testModeHigh => Sys2Proof.Machine.execTestModeHigh s
  | .memoryBistEnd fails done => Sys2Proof.Machine.execMemoryBistEnd fails done s
  | .wakeRelease => Sys2Proof.Machine.execWakeRelease s
  | .registerRead m a size ecc => Sys2Proof.Machine.execRegisterRead m a size ecc s
  | .memoryWrite m a bytes => Sys2Proof.Machine.execMemoryWrite m a bytes s
  | .graniteCopyDone => Sys2Proof.Machine.execGraniteCopyDone s

end Sys2Proof.Machine
end

