-- ==== Sys2Proof/Machine/Tick.lean ====
section
/-! DEFINITION. What a core cycle does when no command waits: time advances, the back channels send, and the link engines take what waits
(05_gylys_link, R153, R154, R164, R166; 14_faults_and_event_recorder, R479). DESIGN CHOICE, log 4. -/

namespace Sys2Proof.Machine

/-! ### Time (R164, R166, R479) -/

/-- What a slew adds in one cycle: at most 200 ppm of 2.5 ns, which is 32 units of 2^-16 ns (R166). -/
def slewStep (left : Int) : Int := if 32 < left then 32 else if left < -32 then -32 else left

/-- Link time advances by 2.5 ns a core cycle while the root runs, slewed as R166 allows. -/
def State.tickLinkTime (s : State) : State :=
  if s.on F.CLK_STAT_ROOT_OK then
    let d := slewStep s.slew
    (s.withLt (unsigned 80 ((s.lt : Int) + 163840 + d))).withSlew (s.slew - d)
  else s

/-- OH_MS advances once every 25,000 housekeeping cycles, 400,000 core cycles, while the root runs (R479). -/
def State.tickHours (s : State) : State :=
  if s.on F.CLK_STAT_ROOT_OK then
    if s.ohSub + 1 < ms 1 then s.withOhSub (s.ohSub + 1)
    else (s.withOhSub 0).setOh (s.ohMs + 1)
  else s

/-! ### The back channel (R143, R148, R150, R153, R154, R205) -/

/-- FTYPE of a kind on the back channel (R149). -/
def BcKind.ftype : BcKind → Nat
  | .ack => 1
  | .safe => 2
  | .lctl => 3
  | .reg => 4
  | .status => 5
  | .event => 6

/-- Header and payload of a frame (R148). -/
def BcFrame.bytes (l : Nat) (f : BcFrame) : List Byte := [b8 (16 * f.kind.ftype + 1), b8 l] ++ beBytes 2 f.payload.length ++ f.payload

/-- Core cycles that a frame of LEN + 10 symbols of 53.33 ns takes (R143, R148). -/
def BcFrame.cycles (f : BcFrame) : Nat := ((f.payload.length + 10) * 64 + 2) / 3

/-- LINK_TIME of a STATUS frame is that of its SOF (R153). -/
def State.stampStatus (s : State) (p : List Byte) : List Byte := p.take 4 ++ beBytes 8 s.ltNs ++ p.drop 12

/-- The frame that may start next, and the link without it: STATUS alone until a frame has left since ACTIVE, then the priority of R154. -/
def State.nextBack (s : State) (l : Nat) : Option (BcFrame × Link) :=
  let k := s.link l
  match k.opened, k.ack, k.safe, k.lctl, k.status, k.reg, k.event with
  | true, f :: t, _, _, _, _, _ => some (⟨.ack, s.fillAux f⟩, { k with ack := t })
  | true, [], f :: t, _, _, _, _ => some (⟨.safe, f⟩, { k with safe := t })
  | true, [], [], f :: t, _, _, _ => some (⟨.lctl, f⟩, { k with lctl := t })
  | true, [], [], [], some f, _, _ => some (⟨.status, s.stampStatus f⟩, { k with status := none })
  | true, [], [], [], none, f :: t, _ => some (⟨.reg, f⟩, { k with reg := t })
  | true, [], [], [], none, [], f :: t => if s.on (F.LNK_CTRL_EVT_EN l) then some (⟨.event, f⟩, { k with event := t }) else none
  | true, [], [], [], none, [], [] => none
  | false, _, _, _, some f, _, _ => some (⟨.status, s.stampStatus f⟩, { k with status := none, opened := true })
  | false, _, _, _, none, _, _ => none

/-- A frame starts on the back channel of link l (R150, R154). -/
def State.startBack (s : State) (l : Nat) : State :=
  match s.nextBack l with
  | some (f, k) => (s.modLink l (fun _ => { k with wire := some f, busy := f.cycles })).backCrc l (f.bytes l)
  | none => s

/-- One cycle of the back channel of link l: an ordered set that is due leaves, and a frame goes on, ends or starts (R146, R154, R619). -/
def State.tickBack (s : State) (l : Nat) : State :=
  let s := s.modLink l (fun k => { k with sets := k.sets.drop 1 })
  if 1 < (s.link l).busy then s.modLink l (fun k => { k with busy := k.busy - 1 })
  else
    let s := s.modLink l (fun k => { k with wire := none, busy := 0 })
    if s.active l && s.linkServed l && s.on F.CLK_STAT_ROOT_OK then s.startBack l else s

/-- A frame to the peer leaves while the side link is ACTIVE (R186). -/
def State.tickSide (s : State) : State := if s.sst = 5 then (s.withSide { s.side with tx := s.side.tx.drop 1 }) else s

/-! ### The cycle -/

/-- One core cycle without a command. -/
def State.tick (s : State) : State :=
  let s := s.begin
  let s : State := s.withNow (s.now + 1)
  let s := ((s.tickLinkTime.tickHours.tickBack 0).tickBack 1).tickSide
  let s := (List.range 8).foldl (fun s n => s.tempLost n) s
  s.enginesRun

end Sys2Proof.Machine
end

