-- ==== Sys2Proof/Machine/Step.lean ====
section
/-! DEFINITION. One step: the command at the front of the queue, or a core cycle when none waits (log 4). -/

namespace Sys2Proof.Machine

/-- The state without the command at the front of its queue. -/
def State.popped (s : State) (rest : List Instr) : State := s.withPending rest

/-- One step of the block. -/
def step (s : State) : Host.Outcome State Fault Refusal :=
  match s.pending with
  | c :: rest => exec c (s.popped rest)
  | [] => .next s.tick

/-- The state with the command that a table word spells in front of its queue; the table gives its rows no bits, so no word spells one. -/
def State.withFetchWord (s : State) (nbits w : Nat) : State :=
  match decodeTableWord nbits w with
  | some c => s.withPending (c :: s.pending)
  | none => s

end Sys2Proof.Machine
end

