-- ==== Sys2Proof/Safety.lean ====
section
/-! DEFINITION. The terms claims are stated in: what a command may touch, what every command keeps, and what holds of every state that runs reach. -/

namespace Sys2Proof.Machine

/-! ### What a command may touch -/

/-- The parts of State beside the active bank and the queue, by name. -/
inductive Part
  | shadow | pend | pendPages | mem | latches | now | ohSub | lt | slew
  | ltApplied | flt | evr | saf | rst | quartz | lnkA | lnkB | csf
  | side | spi | cmd | cmp | glare | lanes | tln | gov | cal
  | flx | seg | thm | pwr | sec | fus | upd | readData | fresh
  deriving DecidableEq, Repr

/-- A footprint: the units whose registers may change, an instanced unit counted with its group page, and the parts of State that may;
with any set there is no bound. -/
structure Foot where
  any : Bool
  units : List Nat
  parts : List Part
  deriving DecidableEq, Repr

/-- The footprint of the named units and parts. -/
def Foot.of (units : List Nat) (parts : List Part) : Foot := ⟨false, units, parts⟩

/-- No bound. -/
def Foot.free : Foot := ⟨true, [], []⟩

/-- A footprint takes in a unit. -/
def Foot.hasUnit (f : Foot) (u : Nat) : Bool := f.any || f.units.contains u

/-- A footprint takes in a part of State. -/
def Foot.hasPart (f : Foot) (p : Part) : Bool := f.any || f.parts.contains p

/-- One footprint lies in another. -/
def Foot.le (f g : Foot) : Bool :=
  g.any || (!f.any && f.units.all (fun u => g.units.contains u) && f.parts.all (fun p => g.parts.contains p))

/-- Every register outside the units of f is as it was. -/
def State.regsWithin (f : Foot) (s t : State) : Prop := ∀ a, groupPage (a / 4096) ∉ f.units → t.word a = s.word a

/-- Every part of State outside f is as it was. -/
structure State.PartsWithin (f : Foot) (s t : State) : Prop where
  shadow : Part.shadow ∉ f.parts → t.shadow = s.shadow
  pend : Part.pend ∉ f.parts → t.pend = s.pend
  pendPages : Part.pendPages ∉ f.parts → t.pendPages = s.pendPages
  mem : Part.mem ∉ f.parts → t.mem = s.mem
  latches : Part.latches ∉ f.parts → t.latches = s.latches
  now : Part.now ∉ f.parts → t.now = s.now
  ohSub : Part.ohSub ∉ f.parts → t.ohSub = s.ohSub
  lt : Part.lt ∉ f.parts → t.lt = s.lt
  slew : Part.slew ∉ f.parts → t.slew = s.slew
  ltApplied : Part.ltApplied ∉ f.parts → t.ltApplied = s.ltApplied
  flt : Part.flt ∉ f.parts → t.flt = s.flt
  evr : Part.evr ∉ f.parts → t.evr = s.evr
  saf : Part.saf ∉ f.parts → t.saf = s.saf
  rst : Part.rst ∉ f.parts → t.rst = s.rst
  quartz : Part.quartz ∉ f.parts → t.quartz = s.quartz
  lnkA : Part.lnkA ∉ f.parts → t.lnkA = s.lnkA
  lnkB : Part.lnkB ∉ f.parts → t.lnkB = s.lnkB
  csf : Part.csf ∉ f.parts → t.csf = s.csf
  side : Part.side ∉ f.parts → t.side = s.side
  spi : Part.spi ∉ f.parts → t.spi = s.spi
  cmd : Part.cmd ∉ f.parts → t.cmd = s.cmd
  cmp : Part.cmp ∉ f.parts → t.cmp = s.cmp
  glare : Part.glare ∉ f.parts → t.glare = s.glare
  lanes : Part.lanes ∉ f.parts → t.lanes = s.lanes
  tln : Part.tln ∉ f.parts → t.tln = s.tln
  gov : Part.gov ∉ f.parts → t.gov = s.gov
  cal : Part.cal ∉ f.parts → t.cal = s.cal
  flx : Part.flx ∉ f.parts → t.flx = s.flx
  seg : Part.seg ∉ f.parts → t.seg = s.seg
  thm : Part.thm ∉ f.parts → t.thm = s.thm
  pwr : Part.pwr ∉ f.parts → t.pwr = s.pwr
  sec : Part.sec ∉ f.parts → t.sec = s.sec
  fus : Part.fus ∉ f.parts → t.fus = s.fus
  upd : Part.upd ∉ f.parts → t.upd = s.upd
  readData : Part.readData ∉ f.parts → t.readData = s.readData
  fresh : Part.fresh ∉ f.parts → t.fresh = s.fresh

/-- The change from s to t stays within f: every register and every part of State that f does not name is as it was. -/
def State.Within (f : Foot) (s t : State) : Prop := f.any = true ∨ (s.regsWithin f t ∧ s.PartsWithin f t)

/-- Two fields that share no bit. -/
def Fld.apart (f g : Fld) : Bool := f.addr ≠ g.addr || decide (g.hi < f.lo) || decide (f.hi < g.lo)

/-- The fine form of a frame: every register field that shares no bit with a listed one is as it was, and every part of State that is not
listed. -/
structure State.Only (fs : List Fld) (ps : List Part) (s t : State) : Prop where
  fields : ∀ g : Fld, (∀ f, f ∈ fs → f.apart g = true) → t.g g = s.g g
  parts : s.PartsWithin (Foot.of [] ps) t

/-- The part of State that holds link l. -/
def lnkPart (l : Nat) : Part := if l = 0 then .lnkA else .lnkB

/-- What a fault, its record and the safe reaction may touch beside the registers of the unit that raises it:
SYS, GOV_MODE, the lanes of tiles that lose power, SAF, FLT and EVR. -/
def Foot.reaction (units : List Nat) (parts : List Part) : Foot :=
  Foot.of ([0x00, 0x40, 0x50, 0x68, 0x70, 0x71] ++ units) ([.flt, .evr, .saf, .lanes] ++ parts)

/-! ### Registers without an effect of their own, and frames that are taken at once -/

/-- Registers whose write is a command, or has an effect beside its fields, but UNIT_CTRL, UNIT_COMMIT and the pages GOV, SAF and BST. -/
def commandRegs : List (Nat × Nat) :=
  [(0x01, 0x48), (0x02, 0x44), (0x02, 0x5C), (0x02, 0x68), (0x02, 0x6C), (0x03, 0x40), (0x03, 0x44), (0x03, 0x50), (0x08, 0x40), (0x09, 0x40),
   (0x30, 0x48), (0x48, 0x48), (0x49, 0x40), (0x70, 0x48), (0x70, 0x4C), (0x70, 0x50), (0x70, 0x54), (0x70, 0x58), (0x70, 0x5C), (0x70, 0x90),
   (0x71, 0x6C), (0x78, 0x44), (0x7A, 0x44)]

/-- A register of page p at offset off whose write acts by the access codes of its fields alone (R9). -/
def plainReg (p off : Nat) : Bool :=
  decide (p < 0x8D) && assigned p && decide (off < 4096) && decide (off % 4 = 0) && off ≠ 0x08 && off ≠ 0x30
  && !([0x40, 0x68, 0x79].contains p) && !commandRegs.contains (p, off)

/-- The active word of a register after a write of v: RW and RWS bits taken, W1C bits cleared where v is 1, the rest kept (R9). -/
def State.written (s : State) (o : Nat) (v : Word) : Word :=
  let rw := accMask .rw o ||| accMask .rws o
  ((s.word o &&& ~~~ rw) ||| (v &&& rw)) &&& ~~~ (accMask .w1c o &&& v)

/-- What a write of v leaves of a plain register: its active word, the shadow of its RWC bits, and every other register as it was. -/
structure State.WriteLeaves (s : State) (p off : Nat) (v : Word) (t : State) : Prop where
  word : t.word (p * 4096 + off) = s.written (p * 4096 + off) (s.takeWord p off v)
  shadow : t.shadowWord (p * 4096 + off) =
    (s.shadowWord (p * 4096 + off) &&& ~~~ (accMask .rwc (p * 4096 + off))) ||| (s.takeWord p off v &&& accMask .rwc (p * 4096 + off))
  others : ∀ o, o ≠ p * 4096 + off → t.word o = s.word o ∧ t.shadowWord o = s.shadowWord o

/-- A frame on link l passes its checks, finds the link ACTIVE and its receive buffer empty, and the engine takes it at once. -/
def State.takes (s : State) (l : Nat) (f : Wire) (ftype : Nat) : Bool :=
  (s.checkFrame l f).1 && f.ftype = ftype && s.lst l = 5 && (s.link l).rx.isEmpty && s.engineTakes l && s.g F.SEC_LC_STATE ≠ 4
  && decide (4 + f.payload.length < 40960) && (ftype ≠ 1 || decide (20 ≤ f.len))

/-! ### Lanes beside a reaction -/

/-- Lane n is in state v after a command, or the command began a reaction that has taken its tile's power (R428, R440). -/
def State.laneAt (s t : State) (n v : Nat) : Prop :=
  t.tlst n = v ∨ (t.tlst n = 0 ∧ s.on F.SAF_STAT_LOCKED = false ∧ t.on F.SAF_STAT_LOCKED = true)

/-- Nothing but lane n can raise a fault in a round: the other lanes are off, and no tile has a temperature to lose. -/
def State.alone (s : State) (n : Nat) : Bool :=
  (List.range 8).all (fun m => (m = n || s.tlst m = 0) && !(s.calTile m).hadTemp)

/-! ### What a reset leaves (R113, R114) -/

/-- Pages that a cold reset does not leave at their reset values alone: the RC start-up, the cause and the pin, CRIT_CLR, and what shows fuses. -/
def coldPages : List Nat := [0x01, 0x02, 0x04, 0x40, 0x78, 0x7A, 0x80, 0x81]

/-- What a cold reset by a source leaves; aon says that VDD_AON stayed up. -/
structure State.ColdReset (cause : Fld) (aon : Bool) (s t : State) : Prop where
  scope : t.rst.scope = some .cold
  cause : t.on cause = true
  root : t.root = 0
  words : ∀ a, a / 4096 ∉ coldPages → t.word a = resetWord a
  flash : ∀ a, regionOf a = some .flash → t.byte a = s.byte a
  slate : ∀ a, regionOf a = some .slate → t.byte a = memDefault a
  retention : ∀ a, regionOf a = some .retention → t.byte a = if aon then s.byte a else memDefault a

/-- Pages that hold what a warm reset writes beside reset values: the RC start-up, the cause, THM and link inputs, lost records, and what
shows fuses. -/
def warmPages : List Nat := [0x01, 0x02, 0x04, 0x08, 0x09, 0x40, 0x70, 0x71, 0x78, 0x7A, 0x80, 0x81]

/-- A warm reset by a source is in progress: the bits that a warm reset sets (warmMask: the block and warm fields, and the live fields of most
units) have their reset values, and no commit is pending. -/
structure State.WarmReset (cause : Fld) (t : State) : Prop where
  scope : t.rst.scope = some .warm
  cause : t.on cause = true
  words : ∀ a, a / 4096 ∉ warmPages → t.word a &&& warmMask a = resetWord a &&& warmMask a
  pend : t.pend = []
  pendPages : t.pendPages = []

/-- What a warm reset keeps: memory, the root's state, and every bit that it does not set; the bank is canonical in every state that runs reach. -/
structure State.WarmKept (s t : State) : Prop where
  mem : t.mem = s.mem
  root : t.root = s.root
  words : s.regsWf = true → ∀ a, a / 4096 ∉ warmPages → t.word a &&& ~~~ (warmMask a) = s.word a &&& ~~~ (warmMask a)

/-! ### What every command keeps -/

/-- A fuse that is programmed stays programmed. -/
def State.FusesKept (s t : State) : Prop := ∀ r i, tbit (s.fuse r) i = true → tbit (t.fuse r) i = true

/-- The two safety outputs and the four inputs with their two channels (R433, R437). -/
def Saf.shaped (v : Saf) : Bool := decide (v.souts.length = 2) && decide (v.chans.length = 8) && decide (v.healthyFor.length = 4)

/-- Both links' windows (R86). -/
def Quartz.shaped (v : Quartz) : Bool := decide (v.window.length = 2)

/-- The four channels (R195). -/
def Cmd.shaped (v : Cmd) : Bool := decide (v.rings.length = 4) && decide (v.doneDue.length = 4)

/-- The eight beam engines (R281). -/
def Glare.shaped (v : Glare) : Bool := decide (v.engines.length = 8)

/-- The two Granite slots (R323). -/
def Gov.shaped (v : Gov) : Bool := decide (v.slots.length = 2)

/-- The eight tiles of CAL and of the flux loop (R331, R347). -/
def Cal.shaped (v : Cal) : Bool := decide (v.tiles.length = 8)
def Flx.shaped (v : Flx) : Bool := decide (v.tiles.length = 8)

/-- The 29 fuse rows (R542). -/
def Fus.shaped (v : Fus) : Bool := decide (v.rows.length = 29)

/-- The six slots (R548). -/
def Upd.shaped (v : Upd) : Bool := decide (v.slots.length = 6)

/-- Every table of a fixed number of units has one entry for each unit. -/
def State.shaped (s : State) : Bool :=
  decide (s.lanes.length = 8) && s.saf.shaped && s.quartz.shaped && s.cmd.shaped && s.glare.shaped && s.gov.shaped && s.cal.shaped
  && s.flx.shaped && s.fus.shaped && s.upd.shaped

/-- What no command and no cycle of the block undoes: memories and banks stay in canonical form, tables keep their lengths, the queue behind the command is as it was,
a free value is never used twice, time does not run back, and no fuse is lost. -/
structure State.Keeps (s t : State) : Prop where
  mem : s.memWf = true → t.memWf = true
  regs : s.regsWf = true → t.regsWf = true
  shape : s.shaped = true → t.shaped = true
  pending : t.pending = s.pending
  fresh : s.fresh ≤ t.fresh
  now : s.now ≤ t.now
  fuses : s.FusesKept t

/-- The canonical form of the memories and of the three register banks, and of the tables of units. -/
def State.Canonical (s : State) : Prop := s.memWf = true ∧ s.regsWf = true ∧ s.shaped = true

/-- Both at once: the form in which the laws of the shared operations are proved. -/
structure State.Fits (f : Foot) (s t : State) : Prop where
  within : s.Within f t
  keeps : s.Keeps t

end Sys2Proof.Machine
end

