-- ==== Sys2Proof/Certificates/Slice0/Obligations.lean ====
section
/-! DEFINITION. The statements about the block: what each family of commands does, what it leaves as it was, and what holds of every step. -/

open Sys2Proof Sys2Proof.Machine

/-- The RC oscillator's attempts: RC_START and RC_RETRY. With an attempt under way and no reset held, RC_START with no failure leaves the oscillator
running, takes the root from HOLD to WAIT_REF for the link that CLK_REF_CTRL.SEL names, and unmasks the monitor of a running root; with a reset held
that nothing else holds, the reset is released. A failure at step 1 to 4 is recorded in FAIL_STEP and the oscillator pauses; at the eighth it is DEAD,
off, and in HOLD nothing else changes. RC_RETRY after a pause starts the next attempt and counts it. Nothing else changes where no release follows. -/
def Obligations.RcOscillatorStart : Prop :=
  (∀ s, s.quartz.rc = .attempt → s.rst.scope = none →
    ∃ t, exec (.rcStart 0) s = .next t ∧ t.quartz.rc = .running
      ∧ (s.root = 0 → t.root = 1 ∧ t.quartz.acq = s.g F.CLK_REF_CTRL_SEL)
      ∧ (s.rootUp = true → t.on F.CLK_STAT_MON_GOOD = true ∧ t.quartz.masked = false)
      ∧ s.begin.Only [F.CLK_STAT_STATE, F.CLK_STAT_MON_GOOD] [.quartz] t)
  ∧ (∀ s, s.quartz.rc = .attempt → s.rst.scope.isSome = true → s.rst.pg = true → s.rst.pinHeld = false → s.rst.thmHeld = false →
    ∃ t, exec (.rcStart 0) s = .next t ∧ t.quartz.rc = .running ∧ t.rst.scope = none)
  ∧ (∀ s fail, s.quartz.rc = .attempt → 1 ≤ fail → fail ≤ 4 → s.quartz.tries < 8 →
    ∃ t, exec (.rcStart fail) s = .next t ∧ t.g F.CLK_RC_START_FAIL_STEP = fail ∧ t.quartz = { s.quartz with rc := .pause }
      ∧ s.begin.Only [F.CLK_RC_START_FAIL_STEP] [.quartz] t)
  ∧ (∀ s fail, s.quartz.rc = .attempt → 1 ≤ fail → fail ≤ 4 → 8 ≤ s.quartz.tries → s.root = 0 →
    ∃ t, exec (.rcStart fail) s = .next t ∧ t.g F.CLK_RC_START_FAIL_STEP = fail ∧ t.on F.CLK_RC_START_DEAD = true
      ∧ t.quartz = { s.quartz with rc := .off } ∧ s.begin.Only [F.CLK_RC_START_FAIL_STEP, F.CLK_RC_START_DEAD] [.quartz] t)
  ∧ (∀ s fail, s.quartz.rc = .attempt → 1 ≤ fail → fail ≤ 4 → 8 ≤ s.quartz.tries → s.root ≠ 0 →
    ∃ t, exec (.rcStart fail) s = .next t ∧ t.quartz.rc = .off ∧ t.quartz.frozen = true ∧ t.quartz.masked = true)
  ∧ (∀ s, s.quartz.rc = .pause →
    ∃ t, exec .rcRetry s = .next t ∧ t.g F.CLK_RC_START_ATTEMPTS = (s.quartz.tries + 1) % 16
      ∧ t.quartz = { s.quartz with rc := .attempt, tries := s.quartz.tries + 1 } ∧ s.begin.Only [F.CLK_RC_START_ATTEMPTS] [.quartz] t)

/-- The root: REF_CDR_LOCK, ACQ_TMO_EXPIRY, ROOT_LOOP_LOCK, ACQUIRE_TIMEOUT, DIVIDERS_RUNNING, and stopping: HOLDOVER_EXPIRY, STOPPING_GATE. In WAIT_REF,
REF_CDR_LOCK of the link being tried shows its lock and, with no reset held and the link enabled, connects it and goes to ACQUIRE; ACQ_TMO_EXPIRY with
AUTO records ACQ_ALT and tries the other link. In ACQUIRE, ROOT_LOOP_LOCK goes to ALIGN and ACQUIRE_TIMEOUT back to WAIT_REF, and nothing else
changes. In ALIGN, DIVIDERS_RUNNING goes to LOCKED with ROOT_OK and ALIGNED set. In any other state each of the five changes nothing. The holdover
timer's limit in HOLDOVER, SWITCH or SLEW sets HOLD_EXP, enters STOPPING and locks the device out. At the end of the sequence the root is in WAIT_REF
or, where the selected link is locked and enabled and no reset is held, in ACQUIRE; ROOT_OK, ALIGNED and LT_VALID read 0, and monitor and VCO are
masked and frozen. Memory is untouched. -/
def Obligations.RootAcquisition : Prop :=
  (∀ s, s.root = 1 → s.quartz.acq < 2 → s.rst.scope = none → s.on (F.UNIT_CTRL_ENABLE (lnkPage s.quartz.acq)) = true →
    ∃ t, exec .refCdrLock s = .next t ∧ t.root = 2 ∧ t.g F.CLK_STAT_REF_ACT = s.quartz.acq
      ∧ t.on (F.LNK_STAT_CDR_LOCK s.quartz.acq) = true ∧ t.on (lockFld s.quartz.acq) = true
      ∧ s.begin.Within (Foot.of [0x01, 0x08, 0x09] [.quartz]) t)
  ∧ (∀ s, s.root = 1 → s.quartz.acq < 2 → s.on F.CLK_REF_CTRL_AUTO = true →
    ∃ t, exec .acqTmoExpiry s = .next t ∧ t.on F.CLK_EVT_ACQ_ALT = true ∧ t.quartz = { s.quartz with acq := 1 - s.quartz.acq }
      ∧ s.begin.Only [F.CLK_EVT_ACQ_ALT, F.UNIT_IRQ_STAT_EVT 0x01, F.CLK_STAT_REF_ACT, F.CLK_STAT_STATE] [.quartz] t)
  ∧ (∀ s, s.root = 2 → ∃ t, exec .rootLoopLock s = .next t ∧ t.root = 3 ∧ s.begin.Only [F.CLK_STAT_STATE] [] t)
  ∧ (∀ s, s.root = 2 → ∃ t, exec .acquireTimeout s = .next t ∧ t.root = 1 ∧ s.begin.Only [F.CLK_STAT_STATE] [] t)
  ∧ (∀ s, s.root = 3 → ∃ t, exec .dividersRunning s = .next t ∧ t.root = 4 ∧ t.on F.CLK_STAT_ROOT_OK = true
      ∧ t.on F.CLK_STAT_ALIGNED = true)
  ∧ (∀ s, s.root ≠ 1 → exec .refCdrLock s = .next s.begin ∧ exec .acqTmoExpiry s = .next s.begin)
  ∧ (∀ s, s.root ≠ 2 → exec .rootLoopLock s = .next s.begin ∧ exec .acquireTimeout s = .next s.begin)
  ∧ (∀ s, s.root ≠ 3 → exec .dividersRunning s = .next s.begin)
  ∧ (∀ s, s.root = 5 ∨ s.root = 6 ∨ s.root = 7 → s.quartz.holdSince.isSome = true → s.on F.SAF_STAT_LOCKED = false →
    ∃ t, exec .holdoverExpiry s = .next t ∧ t.on F.CLK_EVT_HOLD_EXP = true ∧ t.root = 8 ∧ t.on F.SAF_STAT_LOCKED = true ∧ t.mem = s.mem)
  ∧ (∀ s, s.root = 8 →
    ∃ t, exec .stoppingGate s = .next t ∧ (t.root = 1 ∨ t.root = 2) ∧ t.on F.CLK_STAT_ROOT_OK = false ∧ t.on F.CLK_STAT_ALIGNED = false
      ∧ t.on F.CSF_STAT_LT_VALID = false ∧ t.quartz.masked = true ∧ t.quartz.frozen = true ∧ t.mem = s.mem)

/-- Holdover and the switch of reference: REFERENCE_LOSS, LINK_ELIGIBLE, CLK_REF_CMD, MUX_SWITCH, FORCED_SWITCH, SLEW_LOCK. A lost reference freezes the
VCO, records the link and enters HOLDOVER, where the timer runs from a loss in LOCKED and goes on from one in SLEW. An eligible link takes HOLDOVER to
SWITCH: with AUTO the other link first, else the one that was lost. A valid switch command in LOCKED freezes the VCO and enters SWITCH for its target;
one in another state sets CMD_REJ; one without GO changes nothing. The multiplexer ends SWITCH in SLEW on its target, with the cycles waited in WAIT;
a forced switch shows 64, sets FLAG and counts. Lock in SLEW returns to LOCKED, stops the timer and counts the switch. -/
def Obligations.ReferenceSwitching : Prop :=
  (∀ s, s.root = 4 ∨ s.root = 7 →
    ∃ t, exec .referenceLoss s = .next t ∧ t.root = 5 ∧ t.on (lossFld (s.g F.CLK_STAT_REF_ACT)) = true ∧ t.quartz.frozen = true
      ∧ t.quartz.lost = s.g F.CLK_STAT_REF_ACT
      ∧ t.quartz.holdSince = (if s.root = 4 then some s.now else s.quartz.holdSince)
      ∧ s.begin.Only [F.CLK_STAT_STATE, lossFld (s.g F.CLK_STAT_REF_ACT), F.UNIT_IRQ_STAT_EVT 0x01] [.quartz] t)
  ∧ (∀ s, s.root = 5 → s.on F.CLK_REF_CTRL_AUTO = true → s.eligible (1 - s.quartz.lost) = true →
    ∃ t, exec .linkEligible s = .next t ∧ t.root = 6 ∧ t.quartz = { s.quartz with target := 1 - s.quartz.lost }
      ∧ s.begin.Only [F.CLK_STAT_STATE] [.quartz] t)
  ∧ (∀ s, s.root = 5 → (s.on F.CLK_REF_CTRL_AUTO && s.eligible (1 - s.quartz.lost)) = false → s.eligible s.quartz.lost = true →
    ∃ t, exec .linkEligible s = .next t ∧ t.root = 6 ∧ t.quartz = { s.quartz with target := s.quartz.lost }
      ∧ s.begin.Only [F.CLK_STAT_STATE] [.quartz] t)
  ∧ (∀ s m v, s.masterRuns m = true → s.mayWrite m 0x01 0x48 = true → wordField v 0 0 = 1 → s.root = 4 →
      wordField v 1 1 ≠ s.g F.CLK_STAT_REF_ACT → s.eligible (wordField v 1 1) = true →
    ∃ t, exec (.clkRefCmd m v) s = .next t ∧ t.root = 6
      ∧ t.quartz = { s.quartz with target := wordField v 1 1, frozen := true, holdSince := some s.now, lost := 2 }
      ∧ s.begin.Only [F.CLK_STAT_STATE] [.quartz] t)
  ∧ (∀ s m v, s.masterRuns m = true → s.mayWrite m 0x01 0x48 = true → wordField v 0 0 = 1 → s.root ≠ 4 →
    ∃ t, exec (.clkRefCmd m v) s = .next t ∧ t.on F.CLK_EVT_CMD_REJ = true
      ∧ s.begin.Only [F.CLK_EVT_CMD_REJ, F.UNIT_IRQ_STAT_EVT 0x01] [] t)
  ∧ (∀ s m v, s.masterRuns m = true → s.mayWrite m 0x01 0x48 = true → wordField v 0 0 = 0 → exec (.clkRefCmd m v) s = .next s.begin)
  ∧ (∀ s wait, s.root = 6 → wait < 64 →
    ∃ t, exec (.muxSwitch wait) s = .next t ∧ t.root = 7 ∧ t.g F.CLK_STAT_REF_ACT = s.quartz.target % 2
      ∧ t.g F.CLK_SW_FORCED_WAIT = (if s.quartz.lost = 2 then 0 else wait) ∧ t.quartz = { s.quartz with frozen := false, lost := 2 }
      ∧ s.begin.Only [F.CLK_SW_FORCED_WAIT, F.CLK_STAT_REF_ACT, F.CLK_STAT_STATE, F.CLK_FREQ_ERR_VALID] [.quartz] t)
  ∧ (∀ s, s.root = 6 →
    ∃ t, exec .forcedSwitch s = .next t ∧ t.root = 7 ∧ t.g F.CLK_STAT_REF_ACT = s.quartz.target % 2
      ∧ t.g F.CLK_SW_FORCED_WAIT = 64 ∧ t.on F.CLK_SW_FORCED_FLAG = true
      ∧ (s.defLevel S.CLK_SW_FORCED ≠ 0 → t.on (fltPend S.CLK_SW_FORCED) = true)
      ∧ s.Within (Foot.reaction [0x01] [.quartz]) t)
  ∧ (∀ s, s.root = 7 →
    ∃ t, exec .slewLock s = .next t ∧ t.root = 4 ∧ t.g F.CLK_STAT_SWITCH_CNT = (s.g F.CLK_STAT_SWITCH_CNT + 1) % 256
      ∧ t.quartz = { s.quartz with holdSince := none, lost := 2 } ∧ s.begin.Only [F.CLK_STAT_STATE, F.CLK_STAT_SWITCH_CNT] [.quartz] t)

/-- Frequency windows and the clock monitor: FREQ_WINDOW_END, MONITOR_WINDOW_END, RC_CHECK_WINDOW_END. With the root running and the CDR locked, a
frequency window records whether the link lay within 300 ppm, and for the link that is not the reference reports the error with VALID. The monitor's
window stores the five counts; counts within ±10 %, or a masked monitor, change nothing more; a lane or peripheral count outside sets its bit of
CLK_MON_STAT and clears MON_GOOD. The RC check stores its count while LOCKED; within 4,876 to 5,610 that is all; outside it sets the RC bit, clears
MON_GOOD and marks the oscillator. -/
def Obligations.ClockSupervision : Prop :=
  (∀ s l ppm, s.rootUp = true → l < 2 → s.on (F.LNK_STAT_CDR_LOCK l) = true → s.g F.CLK_STAT_REF_ACT ≠ l →
    ∃ t, exec (.freqWindowEnd l ppm) s = .next t ∧ t.g F.CLK_FREQ_ERR_OTHER_PPM = unsigned 16 ppm ∧ t.on F.CLK_FREQ_ERR_VALID = true
      ∧ t.quartz = { s.quartz with window := s.quartz.window.set l (some (decide (ppm.natAbs ≤ 300))) }
      ∧ s.begin.Only [F.CLK_FREQ_ERR_OTHER_PPM, F.CLK_FREQ_ERR_VALID] [.quartz] t)
  ∧ (∀ s l ppm, s.rootUp = true → l < 2 → s.on (F.LNK_STAT_CDR_LOCK l) = true → s.g F.CLK_STAT_REF_ACT = l →
    ∃ t, exec (.freqWindowEnd l ppm) s = .next t
      ∧ t.quartz = { s.quartz with window := s.quartz.window.set l (some (decide (ppm.natAbs ≤ 300))) } ∧ s.begin.Only [] [.quartz] t)
  ∧ (∀ s lane pix core peri hk, s.quartz.rc = .running → s.on F.CLK_STAT_RF_ACTIVE = false →
      (∀ n, n ∈ [lane, pix, core, peri] → 180 ≤ n ∧ n ≤ 220) → 45 ≤ hk → hk ≤ 55 →
    ∃ t, exec (.monitorWindowEnd lane pix core peri hk) s = .next t ∧ t.g (F.CLK_MON_CNT_CNT_LO 0) = pix ∧ t.g (F.CLK_MON_CNT_CNT_HI 0) = core
      ∧ t.g (F.CLK_MON_CNT_CNT_LO 1) = peri ∧ t.g (F.CLK_MON_CNT_CNT_HI 1) = hk ∧ t.g (F.CLK_MON_CNT_CNT_LO 2) = lane
      ∧ s.begin.Only [F.CLK_MON_CNT_CNT_LO 0, F.CLK_MON_CNT_CNT_HI 0, F.CLK_MON_CNT_CNT_LO 1, F.CLK_MON_CNT_CNT_HI 1, F.CLK_MON_CNT_CNT_LO 2] [] t)
  ∧ (∀ s lane pix core peri hk, s.quartz.rc = .running → s.quartz.masked = false → s.pwr.st ≠ .sleep → lane < 180 ∨ 220 < lane →
    ∃ t, exec (.monitorWindowEnd lane pix core peri hk) s = .next t ∧ t.on F.CLK_MON_STAT_LANE = true ∧ t.on F.CLK_STAT_MON_GOOD = false
      ∧ s.Within (Foot.reaction [0x01] []) t)
  ∧ (∀ s lane pix core peri hk, s.quartz.rc = .running → s.quartz.masked = false → peri < 180 ∨ 220 < peri →
    ∃ t, exec (.monitorWindowEnd lane pix core peri hk) s = .next t ∧ t.on F.CLK_MON_STAT_PERI = true ∧ t.on F.CLK_STAT_MON_GOOD = false
      ∧ s.Within (Foot.reaction [0x01] []) t)
  ∧ (∀ s count, s.root = 4 → s.quartz.rc = .running → 4876 ≤ count → count ≤ 5610 →
    ∃ t, exec (.rcCheckWindowEnd count) s = .next t ∧ t.g (F.CLK_MON_CNT_CNT_HI 2) = count ∧ s.begin.Only [F.CLK_MON_CNT_CNT_HI 2] [] t)
  ∧ (∀ s count, s.root = 4 → s.quartz.rc = .running → s.quartz.masked = false → count < 4876 ∨ 5610 < count →
    ∃ t, exec (.rcCheckWindowEnd count) s = .next t ∧ t.on F.CLK_MON_STAT_RC = true ∧ t.on F.CLK_STAT_MON_GOOD = false
      ∧ t.quartz.rcTrip = true ∧ s.Within (Foot.reaction [0x01] [.quartz]) t)

/-- Cold resets: PG_LOSS, SUPPLY_LOW, POR, THM_CRIT_TRIP, and PMIC_PG_RISE from OFF. Each source of a cold reset leaves its cause, the root in HOLD, every
register outside the pages that show fuses, the cause, the RC start-up and CRIT_CLR at its reset value, flash as it was and Slate lost (what an
unwritten byte reads as is the model's choice, log 3); retention RAM stands while VDD_AON stayed up, which it does for PG_LOSS, SUPPLY_LOW and
THM_CRIT. THM_CRIT stays held with CRIT_CLR 0. A POR from OFF starts the RC oscillator. -/
def Obligations.ColdResetSources : Prop :=
  (∀ s rstLow, s.poweredStop = false → s.rst.pg = true →
    ∃ t, exec (.pgLoss rstLow) s = .next t ∧ s.ColdReset F.RST_CAUSE_PG_LOSS true t ∧ t.rst.pg = false
      ∧ t.g F.RST_PIN_LEVEL = (if rstLow then 0 else s.g F.RST_PIN_LEVEL))
  ∧ (∀ s, s.poweredStop = false → ∃ t, exec .supplyLow s = .next t ∧ s.ColdReset F.RST_CAUSE_SUPPLY true t)
  ∧ (∀ s, ∃ t, exec .por s = .next t ∧ s.ColdReset F.RST_CAUSE_POR false t)
  ∧ (∀ s, s.pwr.st ≠ .off →
    ∃ t, exec .thmCritTrip s = .next t ∧ s.ColdReset F.RST_CAUSE_THM_CRIT true t ∧ t.rst.thmHeld = true ∧ t.g F.THM_STAT_CRIT_CLR = 0)
  ∧ (∀ s st, s.pwr.st = .off →
    ∃ t, exec (.pmicPgRise st) s = .next t ∧ s.ColdReset F.RST_CAUSE_POR false t ∧ t.rst.pg = true ∧ t.quartz.rc = .attempt)

/-- Warm resets that touch nothing else first: RST_N_LOW, RST_CMD_WRITE, WDT_APP_EXPIRY, BOOT_TIMEOUT, RESET, TRIAL_TIMEOUT. Where its conditions hold and
no cold reset is in progress, each of these leaves a warm reset in progress with its cause added: block and warm fields at their reset values, pending
commits gone, memory, the root's state and every bit that a warm reset does not set as they were. RST_N holds the reset. RST_CMD with another KEY or
without REQ sets CMD_REJ alone. -/
def Obligations.WarmResetSources : Prop :=
  (∀ s, s.pwr.st ≠ .deep → s.pwr.st ≠ .off → s.pwr.st ≠ .ackExit → s.on F.RST_PIN_STUCK = false → s.rst.scope ≠ some .cold →
    ∃ t, exec .rstNLow s = .next t ∧ t.WarmReset F.RST_CAUSE_PIN ∧ s.WarmKept t ∧ t.rst.pinHeld = true)
  ∧ (∀ s m v st, s.masterRuns m = true → s.mayWrite m 0x02 0x44 = true → wordField v 0 0 = 1 → wordField v 15 8 = 0xA5 →
    ∃ t, exec (.rstCmdWrite m v st) s = .next t ∧ t.WarmReset F.RST_CAUSE_SW ∧ s.WarmKept t ∧ t.rst.straps = st)
  ∧ (∀ s m v st, s.masterRuns m = true → s.mayWrite m 0x02 0x44 = true → (wordField v 0 0 ≠ 1 ∨ wordField v 15 8 ≠ 0xA5) →
    ∃ t, exec (.rstCmdWrite m v st) s = .next t ∧ t.on F.RST_EVT_CMD_REJ = true
      ∧ s.begin.Only [F.RST_EVT_CMD_REJ, F.UNIT_IRQ_STAT_EVT 0x02] [] t)
  ∧ (∀ s st, s.on F.RST_WDT_CTRL_EN = true → s.rst.scope = none →
    ∃ t, exec (.wdtAppExpiry st) s = .next t ∧ t.WarmReset F.RST_CAUSE_WDT_APP ∧ s.WarmKept t)
  ∧ (∀ s st, s.rst.scope = none → s.g F.RST_BOOT_STAT_PHASE = 0 → 4 ≤ s.g F.RST_BOOT_STAT_STEP → s.g F.RST_BOOT_STAT_STEP ≤ 14 →
    ∃ t, exec (.bootTimeout st) s = .next t ∧ t.WarmReset F.RST_CAUSE_BOOT_TMO ∧ s.WarmKept t)
  ∧ (∀ s st, s.tapUp = true → s.on F.SEC_TAP_OPEN = true → s.rst.scope ≠ some .cold →
    ∃ t, exec (.reset st) s = .next t ∧ t.WarmReset F.RST_CAUSE_TAP ∧ s.WarmKept t)
  ∧ (∀ s, s.upd.trial.isSome = true → s.upd.trialAt.isSome = true → s.on F.UPD_CTRL_MANUAL = true → s.rst.scope ≠ some .cold →
    ∃ t, exec .trialTimeout s = .next t ∧ t.WarmReset F.RST_CAUSE_SW ∧ s.WarmKept t)

/-- Warm resets that end other work: FLINT_WDT_EXPIRY, RESTART_RESET, PROFILE_CHANGE, LBIST_END, LBIST_TIMEOUT, MEMORY_BIST_END. With no cold reset in
progress, the expiry of Flint's watchdog, the restart an ACTIVATE asked for, an accepted change of profile, and the end of a self-test run each leave
a warm reset in progress: cause WDT_FLINT for the first and SW for the others, block and warm fields at their reset values, pending commits gone. The
Flint watchdog and a restart outside recovery leave memory as it was. -/
def Obligations.WarmResetsAfterWork : Prop :=
  (∀ s st, s.on F.SAF_WDT_ARMED = true → s.rst.scope ≠ some .cold →
    ∃ t, exec (.flintWdtExpiry st) s = .next t ∧ t.WarmReset F.RST_CAUSE_WDT_FLINT ∧ t.mem = s.mem)
  ∧ (∀ s, s.upd.restart = true → s.inRecovery = false → s.rst.scope ≠ some .cold →
    ∃ t, exec .restartReset s = .next t ∧ t.WarmReset F.RST_CAUSE_SW ∧ s.WarmKept t)
  ∧ (∀ s n, s.csf.profile = some n → s.saf.halted = false → s.flintStopped = false → s.profileRej n = 0 → s.rst.scope ≠ some .cold →
      (s.g F.PRF_STAT_IN_FORCE ≠ n ∨ s.on F.PRF_SEL_VALID = false ∨ s.g F.PRF_SEL_PROF ≠ n) →
    ∃ t, exec .profileChange s = .next t ∧ t.WarmReset F.RST_CAUSE_SW)
  ∧ (∀ s misr, s.lbRunning = true → s.rst.scope ≠ some .cold → ∃ t, exec (.lbistEnd misr) s = .next t ∧ t.WarmReset F.RST_CAUSE_SW)
  ∧ (∀ s, s.lbRunning = true → s.rst.scope ≠ some .cold → ∃ t, exec .lbistTimeout s = .next t ∧ t.WarmReset F.RST_CAUSE_SW)
  ∧ (∀ s fails done, s.g F.BST_MB_STAT_RESULT = 1 → s.g F.SEC_CLR_STATE = 2 → s.rst.scope ≠ some .cold →
    ∃ t, exec (.memoryBistEnd fails done) s = .next t ∧ t.WarmReset F.RST_CAUSE_SW)

/-- The end of a reset: PMIC_PG_RISE, RST_N_RELEASE, THM_CRIT_RELEASE, RST_STUCK_TIMEOUT. PMIC_PG starts the first RC attempt. With PMIC_PG high, the
oscillator running and no other hold, RST_N going high, the release of CRIT and a pin stuck low past its time each release the reset, and the profile
straps that it samples show in PRF_STAT. RST_N going high ends lock-out; a stuck pin is marked and counted, and lock-out stays. Without a hold of its
own RST_N going high sets its level alone. -/
def Obligations.ResetRelease : Prop :=
  (∀ s st, s.pwr.st ≠ .off → s.pwr.st ≠ .deep → s.pwr.st ≠ .ackExit → s.rst.pg = false →
    ∃ t, exec (.pmicPgRise st) s = .next t ∧ t.rst.pg = true ∧ t.rst.straps = st ∧ t.quartz.rc = .attempt ∧ t.quartz.tries = 1
      ∧ t.g F.CLK_RC_START_ATTEMPTS = 1 ∧ t.mem = s.mem)
  ∧ (∀ s st, s.rst.pinHeld = true → s.rst.thmHeld = false → s.rst.pg = true → s.quartz.rc = .running → s.rst.scope.isSome = true →
    ∃ t, exec (.rstNRelease st) s = .next t ∧ t.rst.scope = none ∧ t.on F.RST_PIN_LEVEL = true ∧ t.on F.SAF_STAT_LOCKED = false
      ∧ t.g F.PRF_STAT_STRAP = strapProfile st)
  ∧ (∀ s st, s.rst.pinHeld = false →
    ∃ t, exec (.rstNRelease st) s = .next t ∧ t.on F.RST_PIN_LEVEL = true ∧ s.begin.Only [F.RST_PIN_LEVEL] [] t)
  ∧ (∀ s st, s.rst.thmHeld = true → s.rst.pinHeld = false → s.rst.pg = true → s.quartz.rc = .running → s.rst.scope.isSome = true →
    ∃ t, exec (.thmCritRelease st) s = .next t ∧ t.rst.scope = none ∧ t.on F.THM_STAT_CRIT_CLR = true
      ∧ t.g F.PRF_STAT_STRAP = strapProfile st)
  ∧ (∀ s st, s.on F.RST_PIN_STUCK_IGNORE = true → s.rst.pinHeld = true → s.rst.thmHeld = false → s.rst.pg = true → s.quartz.rc = .running →
      s.rst.scope.isSome = true →
    ∃ t, exec (.rstStuckTimeout st) s = .next t ∧ t.rst.scope = none ∧ t.on F.RST_PIN_STUCK = true ∧ t.on F.RST_CAUSE_STUCK = true
      ∧ (s.on F.SAF_STAT_LOCKED = true → t.on F.SAF_STAT_LOCKED = true))

/-- PIN_DEEP, STUCK_IGNORE_END, and the application watchdog: WDT_APP_ENABLE and WDT_KICK. In DEEP, RST_N low shows at the pin and drives PMIC_STBY low,
and the exit begins. A stuck pin that has been high long enough is heeded again. EN starts the watchdog's count and TMO_MS takes a value other than 0;
once EN is 1 the register takes no write. A kick of 0x5A restarts the count while EN is 1; any other value changes nothing. -/
def Obligations.PinsAndWatchdog : Prop :=
  (∀ s, s.pwr.st = .deep →
    ∃ t, exec .pinDeep s = .next t ∧ t.on F.RST_PIN_LEVEL = false
      ∧ t.pwr = { s.pwr with pinDeep := true, stby := false, st := .ackExit, since := s.now } ∧ s.begin.Only [F.RST_PIN_LEVEL] [.pwr] t)
  ∧ (∀ s, s.on F.RST_PIN_STUCK = true → s.on F.RST_PIN_LEVEL = true →
    ∃ t, exec .stuckIgnoreEnd s = .next t ∧ t.on F.RST_PIN_STUCK = false ∧ s.begin.Only [F.RST_PIN_STUCK] [] t)
  ∧ (∀ s m v, s.masterRuns m = true → s.mayWrite m 0x02 0x68 = true → s.on F.RST_WDT_CTRL_EN = false → wordField v 0 0 = 1 →
    ∃ t, exec (.wdtAppEnable m v) s = .next t ∧ t.on F.RST_WDT_CTRL_EN = true ∧ t.rst = { s.rst with wdtAt := some s.now }
      ∧ t.g F.RST_WDT_CTRL_TMO_MS = (if wordField v 15 8 = 0 then s.g F.RST_WDT_CTRL_TMO_MS else wordField v 15 8)
      ∧ s.begin.Only [F.RST_WDT_CTRL_EN, F.RST_WDT_CTRL_TMO_MS] [.rst] t)
  ∧ (∀ s m v, s.masterRuns m = true → s.mayWrite m 0x02 0x68 = true → s.on F.RST_WDT_CTRL_EN = true →
    exec (.wdtAppEnable m v) s = .next s.begin)
  ∧ (∀ s m v, s.masterRuns m = true → s.mayWrite m 0x02 0x6C = true → s.on F.RST_WDT_CTRL_EN = true → wordField v 7 0 = 0x5A →
    ∃ t, exec (.wdtKick m v) s = .next t ∧ t.rst = { s.rst with wdtAt := some s.now } ∧ s.begin.Only [] [.rst] t)
  ∧ (∀ s m v, s.masterRuns m = true → s.mayWrite m 0x02 0x6C = true → wordField v 7 0 ≠ 0x5A → exec (.wdtKick m v) s = .next s.begin)

/-- A link comes up: SIGNAL_DETECT, CDR_LOCK, CDR_LOCK_TIMEOUT, COMMA_ALIGN, TRAINING_DONE, TRAINING_TIMEOUT, TS_RECEIVED. Each event moves Link A or B
from the one state R156 gives it to the next: signal takes DETECT to LOCK, CDR lock takes LOCK to ALIGN once the root serves, no lock takes it back to
DETECT, three commas take ALIGN to TRAIN and send TS, the end of training sends TSD, counts and enters ACTIVE with its exchanges counted anew, a
training timeout returns to DETECT with LNK_TRN_TMO raised, and TS received in ACTIVE aborts the frame and trains again. The side link moves alike
while SIDE is enabled. In any other state each event changes nothing. All else stays as it was but for the fields and parts named. -/
def Obligations.LinkBringUp : Prop :=
  (∀ s l, l < 2 → s.lst l = 1 →
    ∃ t, exec (.signalDetect l) s = .next t ∧ t.on (F.LNK_STAT_SIG_DET l) = true
      ∧ t.lst l = (if s.on (F.LNK_STAT_CDR_LOCK l) && s.rootServes then 3 else 2)
      ∧ s.begin.Only [F.LNK_STAT_SIG_DET l, F.LNK_STAT_STATE l] [] t)
  ∧ (∀ s l, l < 2 → s.lst l = 2 → s.root ≠ 1 →
    ∃ t, exec (.cdrLock l) s = .next t ∧ t.on (F.LNK_STAT_CDR_LOCK l) = true ∧ t.on (lockFld l) = true
      ∧ t.lst l = (if s.rootServes then 3 else 2)
      ∧ s.begin.Only [F.LNK_STAT_CDR_LOCK l, lockFld l, F.CLK_FREQ_ERR_VALID, F.LNK_STAT_STATE l] [.quartz] t)
  ∧ (∀ s l, l < 2 → s.lst l = 2 → s.on (F.LNK_STAT_CDR_LOCK l) = false →
    ∃ t, exec (.cdrLockTimeout l) s = .next t ∧ t.lst l = 1 ∧ s.begin.Only [F.LNK_STAT_STATE l] [] t)
  ∧ (∀ s l, l < 2 → s.lst l = 3 → s.rootServes = true →
    ∃ t, exec (.commaAlign l) s = .next t ∧ t.lst l = 4 ∧ t.link l = (s.link l).send .ts
      ∧ s.begin.Only [F.LNK_STAT_STATE l] [lnkPart l] t)
  ∧ (∀ s l, l < 2 → s.lst l = 4 →
    ∃ t, exec (.trainingDone l) s = .next t ∧ t.lst l = 5 ∧ t.g (F.LNK_LT_DLY_VALID l) = 0 ∧ (t.link l).sets = (s.link l).sets ++ [.tsd]
      ∧ (t.link l).ltm = 0 ∧ (t.link l).exch = [] ∧ (s.linkServed l = true → (t.link l).greeted = true ∧ (t.link l).status.isSome = true)
      ∧ t.g (F.LNK_TRN_CNT_CNT_LO l) = min (F.LNK_TRN_CNT_CNT_LO l).top (s.g (F.LNK_TRN_CNT_CNT_LO l) + 1)
      ∧ s.begin.Only [F.LNK_STAT_STATE l, F.LNK_LT_DLY_VALID l, F.LNK_TRN_CNT_CNT_LO l] [lnkPart l] t)
  ∧ (∀ s l, l < 2 → s.lst l = 4 →
    ∃ t, exec (.trainingTimeout l) s = .next t ∧ t.lst l = 1 ∧ t.on (F.LNK_EVT_TRN_TMO l) = true
      ∧ (s.defLevel S.LNK_TRN_TMO ≠ 0 → t.on (fltPend S.LNK_TRN_TMO) = true) ∧ s.Within (Foot.reaction [0x08 + l] []) t)
  ∧ (∀ s l, l < 2 → s.lst l = 5 →
    ∃ t, exec (.tsReceived l) s = .next t ∧ t.lst l = 4 ∧ (t.link l).sets = (s.link l).sets ++ [.ts] ∧ (t.link l).safe = []
      ∧ (t.link l).wire = none ∧ s.begin.Only [F.LNK_FRM_CNT_CNT_LO l, F.LNK_STAT_STATE l] [lnkPart l] t)
  ∧ (∀ s, s.on (F.UNIT_CTRL_ENABLE 0x0A) = true →
    (s.sst = 1 → ∃ t, exec (.signalDetect 2) s = .next t ∧ t.sst = 2 ∧ s.begin.Only [F.SIDE_STAT_STATE] [] t)
    ∧ (s.sst = 2 → s.rootServes = true → ∃ t, exec (.cdrLock 2) s = .next t ∧ t.sst = 3 ∧ s.begin.Only [F.SIDE_STAT_STATE] [] t)
    ∧ (s.sst = 2 → ∃ t, exec (.cdrLockTimeout 2) s = .next t ∧ t.sst = 1 ∧ s.begin.Only [F.SIDE_STAT_STATE] [] t)
    ∧ (s.sst = 3 → s.rootServes = true → ∃ t, exec (.commaAlign 2) s = .next t ∧ t.sst = 4 ∧ s.begin.Only [F.SIDE_STAT_STATE] [] t)
    ∧ (s.sst = 4 → ∃ t, exec (.trainingTimeout 2) s = .next t ∧ t.sst = 1 ∧ t.on F.SIDE_EVT_TRN_TMO = true
        ∧ s.begin.Only [F.SIDE_STAT_STATE, F.SIDE_EVT_TRN_TMO, F.UNIT_IRQ_STAT_EVT 0x0A] [] t)
    ∧ (s.sst = 5 → ∃ t, exec (.tsReceived 2) s = .next t ∧ t.sst = 4 ∧ t.on F.SIDE_STAT_RX_OK = false
        ∧ s.Within (Foot.reaction [0x0A] [.side]) t))
  ∧ (∀ s l, l < 2 →
    (s.lst l ≠ 1 → exec (.signalDetect l) s = .next s.begin) ∧ (s.lst l ≠ 2 → exec (.cdrLock l) s = .next s.begin)
    ∧ (s.lst l ≠ 2 → exec (.cdrLockTimeout l) s = .next s.begin) ∧ (s.lst l ≠ 3 → exec (.commaAlign l) s = .next s.begin)
    ∧ (s.lst l ≠ 4 → exec (.trainingDone l) s = .next s.begin) ∧ (s.lst l ≠ 4 → exec (.trainingTimeout l) s = .next s.begin)
    ∧ (s.lst l ≠ 5 → exec (.tsReceived l) s = .next s.begin))

/-- A link is lost, and rate matching: ALIGNMENT_LOSS, LOSS_OF_SIGNAL, CDR_LOSS_OF_LOCK, SKP. From TRAIN to LISTEN lost alignment returns the link to
ALIGN with ALIGN_LOST. From LOCK to LISTEN lost signal returns it to DETECT, signal and CDR lock gone, and from ALIGN to LISTEN lost CDR lock returns
it to LOCK; each sets its event, raises LNK_LOS where the link was ACTIVE, and takes the root from LOCKED or SLEW to HOLDOVER where the link was the
reference. A SKP removes two symbols from a fill of 18 or more and counts, adds two to one of 14 or less and counts, leaves 15 to 17; a fill of 0 or
above 32 is a slip, which puts the queue back to 16 and raises LNK_SLIP. Outside these states the events change nothing. -/
def Obligations.LinkLossAndRate : Prop :=
  (∀ s l, l < 2 → 4 ≤ s.lst l → s.lst l ≤ 6 →
    ∃ t, exec (.alignmentLoss l) s = .next t ∧ t.lst l = 3 ∧ t.on (F.LNK_EVT_ALIGN_LOST l) = true
      ∧ s.begin.Only [F.LNK_FRM_CNT_CNT_LO l, F.LNK_STAT_STATE l, F.LNK_EVT_ALIGN_LOST l, F.UNIT_IRQ_STAT_EVT (0x08 + l)] [lnkPart l] t)
  ∧ (∀ s l, l < 2 → 2 ≤ s.lst l → s.lst l ≤ 6 →
    ∃ t, exec (.lossOfSignal l) s = .next t ∧ t.lst l = 1 ∧ t.on (F.LNK_EVT_LOS l) = true ∧ t.g (F.LNK_STAT_SIG_DET l) = 0
      ∧ t.g (F.LNK_STAT_CDR_LOCK l) = 0 ∧ t.g (lockFld l) = 0
      ∧ (s.g F.CLK_STAT_REF_ACT = l → s.root = 4 ∨ s.root = 7 → t.root = 5)
      ∧ (s.lst l = 5 → s.defLevel S.LNK_LOS ≠ 0 → t.on (fltPend S.LNK_LOS) = true)
      ∧ s.Within (Foot.reaction [0x01, 0x08 + l] [.quartz, lnkPart l]) t)
  ∧ (∀ s l, l < 2 → 3 ≤ s.lst l → s.lst l ≤ 6 →
    ∃ t, exec (.cdrLossOfLock l) s = .next t ∧ t.lst l = 2 ∧ t.on (F.LNK_EVT_LOL l) = true
      ∧ t.g (F.LNK_STAT_CDR_LOCK l) = 0 ∧ t.g (lockFld l) = 0
      ∧ (s.g F.CLK_STAT_REF_ACT = l → s.root = 4 ∨ s.root = 7 → t.root = 5)
      ∧ (s.lst l = 5 → s.defLevel S.LNK_LOS ≠ 0 → t.on (fltPend S.LNK_LOS) = true)
      ∧ s.Within (Foot.reaction [0x01, 0x08 + l] [.quartz, lnkPart l]) t)
  ∧ (∀ s l fill, l < 2 → 3 ≤ s.lst l → s.lst l ≤ 6 → 18 ≤ fill → fill ≤ 32 →
    ∃ t, exec (.skp l fill) s = .next t ∧ t.link l = { s.link l with rate := fill - 2 }
      ∧ t.g (F.LNK_SKP_CNT_CNT_HI l) = min (F.LNK_SKP_CNT_CNT_HI l).top (s.g (F.LNK_SKP_CNT_CNT_HI l) + 1)
      ∧ s.begin.Only [F.LNK_SKP_CNT_CNT_HI l] [lnkPart l] t)
  ∧ (∀ s l fill, l < 2 → 3 ≤ s.lst l → s.lst l ≤ 6 → 1 ≤ fill → fill ≤ 14 →
    ∃ t, exec (.skp l fill) s = .next t ∧ t.link l = { s.link l with rate := fill + 2 }
      ∧ t.g (F.LNK_SKP_CNT_CNT_LO l) = min (F.LNK_SKP_CNT_CNT_LO l).top (s.g (F.LNK_SKP_CNT_CNT_LO l) + 1)
      ∧ s.begin.Only [F.LNK_SKP_CNT_CNT_LO l] [lnkPart l] t)
  ∧ (∀ s l fill, l < 2 → 3 ≤ s.lst l → s.lst l ≤ 6 → 15 ≤ fill → fill ≤ 17 →
    ∃ t, exec (.skp l fill) s = .next t ∧ t.link l = { s.link l with rate := fill } ∧ s.begin.Only [] [lnkPart l] t)
  ∧ (∀ s l fill, l < 2 → 3 ≤ s.lst l → s.lst l ≤ 6 → fill = 0 ∨ 32 < fill →
    ∃ t, exec (.skp l fill) s = .next t ∧ (t.link l).rate = 16 ∧ t.on (F.LNK_EVT_SLIP l) = true
      ∧ (s.defLevel S.LNK_SLIP ≠ 0 → t.on (fltPend S.LNK_SLIP) = true) ∧ s.Within (Foot.reaction [0x08 + l] [lnkPart l]) t)
  ∧ (∀ s l fill, l < 2 → s.lst l < 2 ∨ s.lst l = 7 →
    exec (.alignmentLoss l) s = .next s.begin ∧ exec (.lossOfSignal l) s = .next s.begin ∧ exec (.cdrLossOfLock l) s = .next s.begin
    ∧ exec (.skp l fill) s = .next s.begin)

/-- Link time: LTM, LCTL_TIME, LT_VALID_TIMEOUT. An LTM on an ACTIVE link is answered with LTR; on a served link the exchange is numbered, its T2 and T3
reported, and the last four kept. A TIME frame that passes the checks and names a kept exchange reports offset and delay, computed from its four times
with halves rounded down (the model's choice, log 10), saturated. On the reference link, with the root running, an offset within 1,000 ns slews a
valid link time and any other steps it, which sets LT_VALID. A TIME for an unknown exchange changes nothing more. 500 ms without an applied exchange
clear LT_VALID. -/
def Obligations.LinkTime : Prop :=
  (∀ s l dly, l < 2 → s.lst l = 5 → s.linkServed l = true →
    ∃ t, exec (.ltm l dly) s = .next t ∧ (t.link l).sets = (s.link l).sets ++ [.ltr] ∧ (t.link l).ltm = (s.link l).ltm + 1
      ∧ (t.link l).exch = ((s.link l).exch ++ [(⟨((s.link l).ltm + 1) % 256, s.ltNs, (s.ltNs + min dly 20000) % 2 ^ 64⟩ : Exchange)]).drop ((s.link l).exch.length - 3)
      ∧ (t.link l).lctl.length = (s.link l).lctl.length + 1 ∧ s.begin.Only [] [lnkPart l] t)
  ∧ (∀ s l dly, l < 2 → s.lst l = 5 → s.linkServed l = false →
    ∃ t, exec (.ltm l dly) s = .next t ∧ t.link l = { (s.link l).send .ltr with ltm := (s.link l).ltm + 1 } ∧ s.begin.Only [] [lnkPart l] t)
  ∧ (∀ s l dly, l < 2 → s.lst l ≠ 5 → exec (.ltm l dly) s = .next s.begin)
  ∧ (∀ s l (f : Wire) x, l < 2 → s.lst l = 5 → (s.begin.checkFrame l f).1 = true → f.ftype = 3 → f.payload.length = 20 → f.payload.getD 0 0 = 1 →
      (s.link l).exch.find? (fun x => x.xno = (f.payload.getD 1 0).toNat) = some x →
      let t1 := ofBe (slice f.payload 4 8)
      let t4 := ofBe (slice f.payload 12 8)
      let θ := (signed 64 (unsigned 64 ((x.t2 : Int) - t1)) + signed 64 (unsigned 64 ((x.t3 : Int) - t4))) / 2
      let δ := (signed 64 (unsigned 64 ((t4 : Int) - t1)) - signed 64 (unsigned 64 ((x.t3 : Int) - x.t2))) / 2
    ∃ t, exec (.lctlTime l f) s = .next t ∧ t.g (F.LNK_LT_OFS_OFS l) = unsigned 32 (clampInt (-(2 ^ 31 - 1)) (2 ^ 31 - 1) θ)
      ∧ t.g (F.LNK_LT_DLY_DLY l) = min 65535 δ.toNat ∧ t.g (F.LNK_LT_DLY_XNO l) = x.xno % 256 ∧ t.on (F.LNK_LT_DLY_VALID l) = true
      ∧ (s.g F.CLK_STAT_REF_ACT = l → s.rootUp = true → t.on F.CSF_STAT_LT_VALID = true ∧ t.ltApplied = some s.now)
      ∧ (s.g F.CLK_STAT_REF_ACT = l → s.rootUp = true → s.on F.CSF_STAT_LT_VALID = true → θ.natAbs ≤ 1000 → t.slew = -θ * 65536 ∧ t.lt = s.lt)
      ∧ (s.g F.CLK_STAT_REF_ACT = l → s.rootUp = true → 1000 < θ.natAbs →
          t.slew = 0 ∧ t.lt = unsigned 80 ((s.lt : Int) - θ * 65536) ∧ t.on (F.LNK_EVT_LT_STEP l) = true)
      ∧ (s.g F.CLK_STAT_REF_ACT ≠ l → t.lt = s.lt ∧ t.slew = s.slew))
  ∧ (∀ s l (f : Wire), l < 2 → (s.begin.checkFrame l f).1 = true → f.ftype = 3 → f.payload.length = 20 → f.payload.getD 0 0 = 1 →
      (s.link l).exch.find? (fun x => x.xno = (f.payload.getD 1 0).toNat) = none →
    exec (.lctlTime l f) s = .next (s.begin.checkFrame l f).2)
  ∧ (∀ s, ∃ t, exec .ltValidTimeout s = .next t ∧ t.on F.CSF_STAT_LT_VALID = false ∧ t.ltApplied = none
      ∧ s.begin.Only [F.CSF_STAT_LT_VALID] [.ltApplied] t)

/-- What the device sends by itself: STATUS_FRAME, DEV_STATUS, RESUME, GAP_HOLD_EXPIRY. On an ACTIVE link that is served the status period replaces an
unsent STATUS by a new one; on another it changes nothing. While Flint is not halted its period advances TX_SEQ and queues one 64-byte DEV_STATUS, the
same on every ACTIVE link that has had its STATUS; without such a link nothing changes. A receive buffer that has fallen to 16 KiB clears PAUSED and
sends RESUME. The end of a gap hold lets that channel's next gap be answered. Nothing else changes. -/
def Obligations.BackChannel : Prop :=
  (∀ s l, l < 2 → s.lst l = 5 → s.linkServed l = true →
    ∃ t, exec (.statusFrame l) s = .next t ∧ t.link l = { s.link l with status := some (s.statusPayload l), greeted := true }
      ∧ s.begin.Only [] [lnkPart l] t)
  ∧ (∀ s l, l < 2 → s.lst l ≠ 5 ∨ s.linkServed l = false → exec (.statusFrame l) s = .next s.begin)
  ∧ (∀ s, s.saf.halted = false → s.canSafe 0 = true ∨ s.canSafe 1 = true →
    ∃ t, exec .devStatus s = .next t ∧ t.g F.CSF_TX_SEQ_SEQ = (s.g F.CSF_TX_SEQ_SEQ + 1) % 2 ^ 32
      ∧ (∀ l, l < 2 → s.canSafe l = true → (t.link l).safe.getLast? = some (s.devStatus ((s.g F.CSF_TX_SEQ_SEQ + 1) % 2 ^ 32)))
      ∧ (∀ l, l < 2 → s.canSafe l = false → t.link l = s.link l)
      ∧ s.begin.Only [F.CSF_TX_SEQ_SEQ] [.lnkA, .lnkB] t)
  ∧ (∀ s, s.saf.halted = true ∨ (s.canSafe 0 = false ∧ s.canSafe 1 = false) → exec .devStatus s = .next s.begin)
  ∧ (∀ (s : State) seq, (s.devStatus seq).length = 64)
  ∧ (∀ s l, l < 2 → s.on (F.LNK_STAT_PAUSED l) = true → (s.link l).fill ≤ 16384 →
    ∃ t, exec (.resume l) s = .next t ∧ t.on (F.LNK_STAT_PAUSED l) = false ∧ t.link l = (s.link l).send .resume
      ∧ s.begin.Only [F.LNK_STAT_PAUSED l] [lnkPart l] t)
  ∧ (∀ s l, l < 2 → s.on (F.LNK_STAT_PAUSED l) = false ∨ 16384 < (s.link l).fill → exec (.resume l) s = .next s.begin)
  ∧ (∀ s l ch, l < 2 → ∃ t, exec (.gapHoldExpiry l ch) s = .next t ∧ t.link l = { s.link l with gapHold := (s.link l).gapHold.set ch false }
      ∧ s.begin.Only [] [lnkPart l] t)

/-- Classification of a packet: WORK_FRAME and PKT_WRITE. A WORK frame that the link engine takes, and a PKT_WRITE that the packet window takes, are
classified alike: with a good header and the present epoch, a packet that is next in order and passes its check waits for storing; one already
accepted is answered DUPLICATE; one ahead of its order is a GAP, answered once; one of another epoch is answered NACK EPOCH with the present epoch. A
frame that fails its checks leaves the receive buffer as it was. A PKT_WRITE that the window does not take is discarded with PKT_ERR; before the
target is ready it changes nothing. -/
def Obligations.WorkFrames : Prop :=
  (∀ s l (f : Wire), l < 2 → s.begin.takes l f 1 = true → badHeader f.payload = false → s.inRecovery = false →
      ofBe (slice f.payload 4 4) = s.g F.RST_EPOCH_EPOCH → s.g F.RST_EPOCH_EPOCH ≠ 0 →
      let p := packetOf l f.payload
    (s.seqDist p = 0 → s.check5 p = 0 → ∃ t, exec (.workFrame l f) s = .next t ∧ (t.link l).waiting = some p ∧ (t.link l).rx = []
        ∧ (∀ c, t.ring c = s.ring c ∧ t.exp c = s.exp c))
    ∧ (2 ^ 31 ≤ s.seqDist p → ∃ t, exec (.workFrame l f) s = .next t
        ∧ (t.link l).ack = (s.link l).ack ++ [ackFrame 0 p.chan 1 p.seq (s.exp p.chan) 0] ∧ (t.link l).rx = [] ∧ (t.link l).waiting = none)
    ∧ (s.seqDist p ≠ 0 → s.seqDist p < 2 ^ 31 → s.gapHeld l p.chan = false → ∃ t, exec (.workFrame l f) s = .next t
        ∧ (t.link l).ack = (s.link l).ack ++ [ackFrame 1 p.chan 1 p.seq (s.exp p.chan) 0] ∧ t.on F.CMD_EVT_GAP = true
        ∧ (t.link l).gapHold = (s.link l).gapHold.set p.chan true)
    ∧ (s.seqDist p ≠ 0 → s.seqDist p < 2 ^ 31 → s.gapHeld l p.chan = true → ∃ t, exec (.workFrame l f) s = .next t ∧ (t.link l).ack = (s.link l).ack))
  ∧ (∀ s l (f : Wire), l < 2 → s.begin.takes l f 1 = true → badHeader f.payload = false → s.inRecovery = false →
      ofBe (slice f.payload 4 4) ≠ s.g F.RST_EPOCH_EPOCH →
      let p := packetOf l f.payload
    ∃ t, exec (.workFrame l f) s = .next t ∧ t.on F.CMD_EVT_EPOCH = true
      ∧ (t.link l).ack = (s.link l).ack ++ [ackFrame 1 p.chan 2 p.seq (s.exp p.chan) (s.g F.RST_EPOCH_EPOCH)])
  ∧ (∀ s l (f : Wire), (s.begin.checkFrame l f).1 = false → exec (.workFrame l f) s = .next (s.begin.checkFrame l f).2)
  ∧ (∀ s len bytes crc, s.spiReady = true → s.pktBad len bytes crc = false → badHeader bytes = false → s.inRecovery = false →
      ofBe (slice bytes 4 4) = s.g F.RST_EPOCH_EPOCH → s.g F.RST_EPOCH_EPOCH ≠ 0 →
      let p := packetOf 2 bytes
    (s.seqDist p = 0 → s.check5 p = 0 → ∃ t, exec (.pktWrite len bytes crc) s = .next t
        ∧ t.spi = { s.spi with waiting := some p, pktBusy := true } ∧ s.begin.Only [] [.spi] t)
    ∧ (2 ^ 31 ≤ s.seqDist p → ∃ t, exec (.pktWrite len bytes crc) s = .next t
        ∧ t.spi = { s.spi with rsp := s.spi.rsp ++ [ackFrame 0 p.chan 1 p.seq (s.exp p.chan) 0] } ∧ s.begin.Only [] [.spi] t))
  ∧ (∀ s len bytes crc, s.spiReady = true → s.pktBad len bytes crc = true →
    ∃ t, exec (.pktWrite len bytes crc) s = .next t ∧ t.on F.SYS_EVT_SPT_ERR = true ∧ t.spi = { s.spi with pktErr := true }
      ∧ s.begin.Only [F.SYS_EVT_SPT_ERR, F.UNIT_IRQ_STAT_EVT 0x00] [.spi] t)
  ∧ (∀ s len bytes crc, s.spiReady = false → exec (.pktWrite len bytes crc) s = .next s.begin)

/-- Storing a packet: PACKET_STORE, STORE_TIMEOUT, DONE_FRAME. A packet that waits on a path whose buffer is empty, next in order and with room in its
ring, is accepted: it goes into its ring, EXP of its channel and the count of accepted packets advance, and it waits no more; a packet of channel 0, 1
or 3 changes no other ring. Without room it goes on waiting. With both copies of the store state bad the rings are emptied and EXP and DONE_SEQ return
to 0. A packet that has waited longer than TMO_MS raises CMD_STORE_TMO outside a quiescence window. A DONE that is due goes to every ACTIVE link that
may take it; one that is not due changes nothing. -/
def Obligations.CommandStore : Prop :=
  (∀ s l copies p, s.rst.scope = none → s.on F.CLK_STAT_ROOT_OK = true → s.flintStopped = false → (l < 2 → (s.link l).rx = []) →
      s.held l = some p → s.seqDist p = 0 → p.chan < 4 → p.chan ≠ 2 → p.body ≠ [] → s.cmd.rings.length = 4 → s.ringUsed p.chan + p.size ≤ s.ringSize p.chan →
      (∀ q, (s.ring p.chan).head? = some q → q.body ≠ []) → copies % 4 = 0 → s.armed S.CMD_STATE_COPY = false →
    ∃ t, exec (.packetStore l copies) s = .next t ∧ t.ring p.chan = (s.ring p.chan ++ [p]) ∧ (∀ c, c ≠ p.chan → t.ring c = s.ring c)
      ∧ t.exp p.chan = (s.exp p.chan + 1) % 2 ^ 32 ∧ t.g F.CMD_CNT_ACC_ACC = (s.g F.CMD_CNT_ACC_ACC + 1) % 2 ^ 32 ∧ t.held l = none
      ∧ s.begin.Only [F.CMD_EXP_EXP p.chan, F.CMD_CNT_ACC_ACC] [.flt, .cmd, .lnkA, .lnkB, .spi] t)
  ∧ (∀ s l copies p, s.rst.scope = none → s.on F.CLK_STAT_ROOT_OK = true → s.flintStopped = false → (l < 2 → (s.link l).rx = []) →
      s.held l = some p → s.seqDist p = 0 → s.ringSize p.chan < s.ringUsed p.chan + p.size → exec (.packetStore l copies) s = .next s.begin)
  ∧ (∀ s l copies p, s.rst.scope = none → s.on F.CLK_STAT_ROOT_OK = true → s.flintStopped = false → (l < 2 → (s.link l).rx = []) →
      s.held l = some p → s.seqDist p = 0 → s.cmd.rings.length = 4 → s.ringUsed p.chan + p.size ≤ s.ringSize p.chan → copies % 4 = 3 →
    ∃ t, exec (.packetStore l copies) s = .next t ∧ t.on F.CMD_EVT_STORE_LOST = true
      ∧ (∀ c, c < 4 → t.ring c = [] ∧ t.exp c = 0 ∧ t.g (F.CMD_DONE_DONE_SEQ c) = 0)
      ∧ (s.defLevel S.CMD_STORE_LOST ≠ 0 → t.on (fltPend S.CMD_STORE_LOST) = true))
  ∧ (∀ s l, l < 2 → (s.link l).waiting.isSome = true → s.quiet 0x10 = false →
    ∃ t, exec (.storeTimeout l) s = .next t ∧ t.on F.CMD_EVT_STORE_TMO = true
      ∧ (s.defLevel S.CMD_STORE_TMO ≠ 0 → t.on (fltPend S.CMD_STORE_TMO) = true) ∧ s.Within (Foot.reaction [0x10] []) t)
  ∧ (∀ s ch copies, ch < 4 → s.cmd.doneDue.getD ch false = true → copies % 4 = 0 → s.armed S.CMD_STATE_COPY = false →
    ∃ t, exec (.doneFrame ch copies) s = .next t
      ∧ (∀ l, l < 2 → s.doneMay l ch = true → (t.link l).ack = (s.link l).ack ++ [ackFrame 2 ch 0 0 (s.exp ch) 0])
      ∧ (∀ l, l < 2 → s.doneMay l ch = false → (t.link l).ack = (s.link l).ack)
      ∧ s.begin.Only [] [.lnkA, .lnkB, .spi, .cmd] t)
  ∧ (∀ s ch copies, s.cmd.doneDue.getD ch false = false → exec (.doneFrame ch copies) s = .next s.begin)

/-- Consuming the oldest packet: LAYER_CONSUME and CONTROL_CONSUME. With no unit on the CRC stream of layer bodies, LAYER_CONSUME writes the body of the
only LAYER packet into its layer's buffer, counts the fence when the packet asks for one, and reports it DONE; every byte outside is as it was.
CONTROL_CONSUME writes the entries of the only CONTROL packet in order, each as a bus write by the master of its path, and reports it DONE; with one
entry to a register without an effect of its own, that register is written. A parity error empties the ring, sets EXP back to the packet and raises
CMD_REPLAY. With nothing to consume each changes nothing. -/
def Obligations.Consumption : Prop :=
  (∀ s p, s.consuming 1 = true → s.ring 1 = [p] → s.cmd.rings.length = 4 → s.armed S.CMD_REPLAY = false → s.crcUnit 3 5 = none →
      let b := s.bufBase (p.target % 16) (p.target / 16 % 2) + p.arg
    ∃ t, exec (.layerConsume false) s = .next t ∧ (∀ i, i < p.body.length → t.byte (b + i) = p.body.getD i 0)
      ∧ (∀ a, a < b ∨ b + p.body.length ≤ a → t.byte a = s.byte a)
      ∧ t.ring 1 = [] ∧ t.g (F.CMD_DONE_DONE_SEQ 1) = p.seq % 2 ^ 32
      ∧ t.g (F.LAY_FENCE_CNT (p.target % 16)) = (s.g (F.LAY_FENCE_CNT (p.target % 16)) + bit (tbit p.target 8)) % 2 ^ 16
      ∧ s.begin.Only [F.CMD_DONE_DONE_SEQ 1, F.LAY_FENCE_CNT (p.target % 16)] [.mem, .cmd] t)
  ∧ (∀ s p, s.consuming 0 = true → s.ring 0 = [p] → s.armed S.CMD_REPLAY = false →
    exec (.controlConsume false) s = .next ((s.begin.applyEntries p.master (ctlEntries p.body)).doneHead 0))
  ∧ (∀ s p pg off v, s.consuming 0 = true → s.ring 0 = [p] → s.cmd.rings.length = 4 → s.armed S.CMD_REPLAY = false →
      ctlEntries p.body = [(pageAddr pg off, v)] → plainReg pg off = true → pg ≠ 0x10 → s.mayWrite p.master pg off = true →
    ∃ t, exec (.controlConsume false) s = .next t ∧ t.word (pg * 4096 + off) = s.written (pg * 4096 + off) (s.takeWord pg off v)
      ∧ t.ring 0 = [] ∧ t.g (F.CMD_DONE_DONE_SEQ 0) = p.seq % 2 ^ 32 ∧ t.mem = s.mem)
  ∧ (∀ s p q, s.consuming 1 = true → s.ring 1 = p :: q → s.cmd.rings.length = 4 →
    ∃ t, exec (.layerConsume true) s = .next t ∧ t.ring 1 = [] ∧ t.exp 1 = p.seq % 2 ^ 32 ∧ t.on F.CMD_EVT_REPLAY = true ∧ t.mem = s.mem
      ∧ (s.defLevel S.CMD_REPLAY ≠ 0 → t.on (fltPend S.CMD_REPLAY) = true))
  ∧ (∀ s p q, s.consuming 0 = true → s.ring 0 = p :: q → s.cmd.rings.length = 4 →
    ∃ t, exec (.controlConsume true) s = .next t ∧ t.ring 0 = [] ∧ t.exp 0 = p.seq % 2 ^ 32 ∧ t.on F.CMD_EVT_REPLAY = true ∧ t.mem = s.mem)
  ∧ (∀ s parity, (s.consuming 0 = false ∨ s.ring 0 = [] → exec (.controlConsume parity) s = .next s.begin)
    ∧ (s.consuming 1 = false ∨ s.ring 1 = [] → exec (.layerConsume parity) s = .next s.begin))

/-- The REG agent: REG_READ, REG_WRITE, REG_MODIFY. A REG frame that the engine takes is answered on its link and counted, as the frame's check leaves the
state: a READ of one word with that word, a WRITE of one register without an effect of its own writes it, a MODIFY of one writes the old word with the
bits of the mask replaced and answers the old word. A malformed request is answered FORMAT with REG_FMT set, one outside an assigned page RANGE with
REG_RANGE set, one of COUNT 0 is a no-op; none of these touches a register but its event and the counts. -/
def Obligations.RegFrames : Prop :=
  (∀ s l (f : Wire), l < 2 → s.begin.takes l f 4 = true → s.inRecovery = false → regFormOk f.payload = true → regCount f.payload = 1 →
      regRangeOk f.payload = true →
      let p := f.payload
      let o := pageOff (regAddr p)
      let c := (s.begin.checkFrame l f).2
    (regOp p = 1 → s.mayRead .reg (o / 4096) = true →
      ∃ t, exec (.regRead l f) s = .next t ∧ (t.link l).reg = (s.link l).reg ++ [regAnswer p 0 1 [(c.readReg .reg o).1]]
        ∧ t.g F.SYS_CNT_REG = (s.g F.SYS_CNT_REG + 1) % 2 ^ 16 ∧ t.mem = s.mem)
    ∧ (regOp p = 2 → s.mayWrite .reg (o / 4096) (o % 4096) = true → plainReg (o / 4096) (o % 4096) = true → o ≠ 0x4C →
      ∃ t, exec (.regWrite l f) s = .next t ∧ (t.link l).reg = (s.link l).reg ++ [regAnswer p 0 1 []]
        ∧ t.word o = c.written o (c.takeWord (o / 4096) (o % 4096) ((regData p 1).getD 0 0)) ∧ t.mem = s.mem)
    ∧ (regOp p = 3 → s.mayModify o = true → plainReg (o / 4096) (o % 4096) = true → o ≠ 0x4C →
      ∃ t, exec (.regModify l f) s = .next t ∧ (t.link l).reg = (s.link l).reg ++ [regAnswer p 0 1 [(c.readReg .reg o).1]]
        ∧ t.word o = c.written o (c.takeWord (o / 4096) (o % 4096)
            (modified (c.readReg .reg o).1 ((regData p 2).getD 0 0) ((regData p 2).getD 1 0)))
        ∧ t.mem = s.mem))
  ∧ (∀ s l (f : Wire), l < 2 → s.begin.takes l f 4 = true → s.inRecovery = false → f.payload ≠ [] → regFormOk f.payload = false →
    ∃ t, exec (.regWrite l f) s = .next t ∧ t.on F.SYS_EVT_REG_FMT = true ∧ (t.link l).reg = (s.link l).reg ++ [regAnswer f.payload 1 0 []]
      ∧ s.Within (Foot.of [0x00, 0x88] [.flt, .saf, .lnkA, .lnkB]) t)
  ∧ (∀ s l (f : Wire), l < 2 → s.begin.takes l f 4 = true → s.inRecovery = false → f.payload ≠ [] → regFormOk f.payload = true →
      regCount f.payload ≠ 0 → regRangeOk f.payload = false →
    ∃ t, exec (.regWrite l f) s = .next t ∧ t.on F.SYS_EVT_REG_RANGE = true ∧ (t.link l).reg = (s.link l).reg ++ [regAnswer f.payload 2 0 []]
      ∧ s.Within (Foot.of [0x00, 0x88] [.flt, .saf, .lnkA, .lnkB]) t)
  ∧ (∀ s l (f : Wire), l < 2 → s.begin.takes l f 4 = true → s.inRecovery = false → f.payload ≠ [] → regFormOk f.payload = true →
      regCount f.payload = 0 →
    ∃ t, exec (.regRead l f) s = .next t ∧ (t.link l).reg = (s.link l).reg ++ [regAnswer f.payload 0 0 []]
      ∧ t.g F.SYS_CNT_REG_NOOP = min F.SYS_CNT_REG_NOOP.top (s.g F.SYS_CNT_REG_NOOP + 1) ∧ s.Within (Foot.of [0x00, 0x88] [.flt, .saf, .lnkA, .lnkB]) t)

/-- The SPI target: SPI_STATUS, SPI_READ, SPI_WRITE, RSP_READ. Before the target is ready its reads answer zeros and its writes change nothing. A STATUS
answers the status byte and clears ERR and PKT_ERR. A READ of one word of an assigned page that the target may read answers the register's word; one
outside every assigned page answers 0 and sets ERR and SPT_ERR. A WRITE of one word writes a register without an effect of its own that the target may
write; one outside the pages sets ERR. RSP_READ answers the oldest queued response, which leaves the queue, and 0xFF bytes when none is queued. -/
def Obligations.SpiTarget : Prop :=
  (∀ s, s.spiReady = true →
    ∃ t, exec .spiStatus s = .next t ∧ t.readData = [BitVec.ofNat 32 s.spiStatus] ∧ t.spi = { s.spi with err := false, pktErr := false }
      ∧ s.begin.Only [] [.spi, .readData] t)
  ∧ (∀ s a n bytes, s.spiReady = false →
    (∃ t, exec .spiStatus s = .next t ∧ t.readData = [0] ∧ s.begin.Only [] [.readData] t)
    ∧ (∃ t, exec (.spiRead a n) s = .next t ∧ t.readData = List.replicate n 0 ∧ s.begin.Only [] [.readData] t)
    ∧ exec (.spiWrite a bytes) s = .next s.begin
    ∧ (∃ t, exec .rspRead s = .next t ∧ t.readData = List.replicate 4 0 ∧ s.begin.Only [] [.readData] t))
  ∧ (∀ s a, s.spiReady = true → inPages a = true → a % 4 = 0 → s.mayRead .spi (pageOff a / 4096) = true →
    ∃ t, exec (.spiRead a 1) s = .next t ∧ t.readData = [(s.begin.readReg .spi (pageOff a)).1] ∧ s.begin.Only [] [.latches, .readData] t)
  ∧ (∀ s a, s.spiReady = true → inPages a = false →
    ∃ t, exec (.spiRead a 1) s = .next t ∧ t.readData = [0] ∧ t.on F.SYS_EVT_SPT_ERR = true ∧ t.spi = { s.spi with err := true }
      ∧ s.begin.Only [F.SYS_EVT_SPT_ERR, F.UNIT_IRQ_STAT_EVT 0x00] [.spi, .readData] t)
  ∧ (∀ s p off bytes, s.spiReady = true → plainReg p off = true → s.mayWrite .spi p off = true → s.g F.SEC_LC_STATE ≠ 4 → bytes.length = 4 →
    ∃ t, exec (.spiWrite (pageAddr p off) bytes) s = .next t ∧ s.WriteLeaves p off (BitVec.ofNat 32 (ofBe bytes)) t
      ∧ s.begin.PartsWithin (Foot.of [] [.shadow]) t)
  ∧ (∀ s a bytes, s.spiReady = true → inPages a = false → bytes.length = 4 →
    ∃ t, exec (.spiWrite a bytes) s = .next t ∧ t.on F.SYS_EVT_SPT_ERR = true ∧ t.spi = { s.spi with err := true }
      ∧ s.begin.Only [F.SYS_EVT_SPT_ERR, F.UNIT_IRQ_STAT_EVT 0x00] [.spi] t)
  ∧ (∀ s f q, s.spiReady = true → s.spi.rsp = f :: q →
    ∃ t, exec .rspRead s = .next t ∧ t.readData = rspWords (s.fillAux f) ∧ t.spi = { s.spi with rsp := q } ∧ s.begin.Only [] [.spi, .readData] t)
  ∧ (∀ s, s.spiReady = true → s.spi.rsp = [] →
    ∃ t, exec .rspRead s = .next t ∧ t.readData = List.replicate 4 0xFFFFFFFF ∧ s.begin.Only [] [.readData] t)

/-- Safe frames: SAFE_FRAME, PENDING_EXPIRY, CSF_STALE_TIMEOUT. A copy that fails a check of R176 sets that check's event, is counted and raises
CSF_REJECT. A copy that passes with no copy of its SEQ on the other link waits in its link's table, where a table of eight loses its oldest. One whose
equal copy waits on the other link within the window is delivered: matched count and last SEQ advance and a STATE becomes current; one whose copy
differs is a MISMATCH, which raises CSF_MISMATCH and, while Flint runs, locks the device out. The oldest pending copy that expires leaves unpaired.
Without a new STATE for TMO the state is stale: CSF_STALE, and lock-out while Flint runs; in SLEEP, or before the first STATE, nothing happens. -/
def Obligations.SafeFrames : Prop :=
  (∀ s l (f : Wire) e, l < 2 → (s.begin.checkFrame l f).1 = true → f.ftype = 2 → s.blockRunning 0x0B = false →
      (s.begin.checkFrame l f).2.sfReject l f.payload = some e →
    ∃ t, exec (.safeFrame l f) s = .next t ∧ t.on e = true
      ∧ t.g F.CSF_CNT_REJECTED = min F.CSF_CNT_REJECTED.top (s.g F.CSF_CNT_REJECTED + 1) ∧ t.csf = s.csf
      ∧ (s.defLevel S.CSF_REJECT ≠ 0 → t.on (fltPend S.CSF_REJECT) = true))
  ∧ (∀ s l (f : Wire), l < 2 → (s.begin.checkFrame l f).1 = true → f.ftype = 2 → s.blockRunning 0x0B = false →
      (s.begin.checkFrame l f).2.sfReject l f.payload = none →
      let seq := sfField f.payload 4 4
      let same := fun c : Copy => sfField c.bytes 4 4 = seq
    ((s.csf.pendOf l).find? same = none → (s.csf.pendOf (1 - l)).find? same = none →
      ∃ t, exec (.safeFrame l f) s = .next t ∧ t.csf.ref l = some seq ∧ t.csf.pendOf (1 - l) = s.csf.pendOf (1 - l)
        ∧ t.csf.pendOf l = (s.csf.pendOf l ++ [(⟨f.payload, s.now⟩ : Copy)]).drop (if (s.csf.pendOf l).length < 8 then 0 else 1))
    ∧ (∀ c, (s.csf.pendOf l).find? same = none → (s.csf.pendOf (1 - l)).find? same = some c → c.bytes = f.payload → s.now - c.at_ ≤ s.win →
      ∃ t, exec (.safeFrame l f) s = .next t ∧ t.csf.matched = true ∧ t.g F.CSF_LAST_SEQ_SEQ = seq % 2 ^ 32
        ∧ t.g F.CSF_CNT_MATCHED = (s.g F.CSF_CNT_MATCHED + 1) % 2 ^ 16
        ∧ (sfField f.payload 0x10 1 = 1 → t.on F.CSF_STAT_CURRENT = true ∧ t.csf.stateAt = some s.now
            ∧ t.csf.beamReq = some (sfField f.payload 0x1C 1) ∧ t.csf.speed = sfField f.payload 0x1E 2)
        ∧ (sfField f.payload 0x10 1 = 3 → t.csf.profile = some (sfField f.payload 0x1C 1)))
    ∧ (∀ c, (s.csf.pendOf l).find? same = none → (s.csf.pendOf (1 - l)).find? same = some c → c.bytes ≠ f.payload →
      ∃ t, exec (.safeFrame l f) s = .next t ∧ t.g F.CSF_STAT_VERDICT = 1 ∧ t.on F.CSF_EVT_MISMATCH = true
        ∧ (s.defLevel S.CSF_MISMATCH ≠ 0 → t.on (fltPend S.CSF_MISMATCH) = true)
        ∧ (s.saf.halted = false → s.flintStopped = false → t.on F.SAF_STAT_LOCKED = true)))
  ∧ (∀ s l c q, l < 2 → s.csf.pendOf l = c :: q →
    ∃ t, exec (.pendingExpiry l) s = .next t ∧ t.csf = s.csf.setPend l q
      ∧ t.on (if l = 0 then F.CSF_EVT_UNPAIRED_B else F.CSF_EVT_UNPAIRED_A) = true
      ∧ s.begin.Only [if l = 0 then F.CSF_EVT_UNPAIRED_B else F.CSF_EVT_UNPAIRED_A, F.UNIT_IRQ_STAT_EVT 0x0B] [.csf] t)
  ∧ (∀ s l, s.csf.pendOf l = [] → exec (.pendingExpiry l) s = .next s.begin)
  ∧ (∀ s, s.on F.CSF_STAT_CURRENT = true → s.pwr.st ≠ .sleep → s.poweredStop = false →
    ∃ t, exec .csfStaleTimeout s = .next t ∧ t.on F.CSF_STAT_CURRENT = false ∧ t.g F.CSF_STAT_VERDICT = 2 ∧ t.on F.CSF_EVT_STALE = true
      ∧ (s.defLevel S.CSF_STALE ≠ 0 → t.on (fltPend S.CSF_STALE) = true)
      ∧ (s.saf.halted = false → s.flintStopped = false → t.on F.SAF_STAT_LOCKED = true) ∧ s.Within (Foot.reaction [0x0B] []) t)
  ∧ (∀ s, s.on F.CSF_STAT_CURRENT = false ∨ s.pwr.st = .sleep → exec .csfStaleTimeout s = .next s.begin)

/-- The side link's reception: SIDE_TRAINING_DONE, SIDE_RX_TIMEOUT, SSTAT_SEND. While SIDE is enabled and the root serves, the end of training takes the
side link from DETECT to TRAIN to ACTIVE. No valid frame for TMO_MS clears RX_OK, and a lamp that is not yet split enters the split state: it is
counted, phase lock clears and SIDE_LOST is raised. Every millisecond an ACTIVE side link queues one SSTAT frame with its reception, split state,
field and role, and its profile. Outside ACTIVE the last two change nothing. -/
def Obligations.SideLinkStates : Prop :=
  (∀ s, s.on (F.UNIT_CTRL_ENABLE 0x0A) = true → s.rootServes = true → 1 ≤ s.sst → s.sst ≤ 4 →
    ∃ t, exec .sideTrainingDone s = .next t ∧ t.sst = 5 ∧ s.begin.Only [F.SIDE_STAT_STATE] [] t)
  ∧ (∀ s, s.sst = 5 → s.on F.SIDE_STAT_RX_OK = true → s.on (F.UNIT_CTRL_ENABLE 0x0A) = true → s.on F.SIDE_STAT_SPLIT = false →
    ∃ t, exec .sideRxTimeout s = .next t ∧ t.on F.SIDE_STAT_RX_OK = false ∧ t.on F.SIDE_STAT_SPLIT = true ∧ t.on F.SIDE_STAT_PHASE_LOCK = false
      ∧ t.on F.SIDE_EVT_LOST = true ∧ t.g F.SIDE_CNT_SPLITS = min F.SIDE_CNT_SPLITS.top (s.g F.SIDE_CNT_SPLITS + 1)
      ∧ (s.defLevel S.SIDE_LOST ≠ 0 → t.on (fltPend S.SIDE_LOST) = true) ∧ s.Within (Foot.reaction [0x0A] [.side]) t)
  ∧ (∀ s, s.sst = 5 → s.on F.SIDE_STAT_RX_OK = true → s.on F.SIDE_STAT_SPLIT = true →
    ∃ t, exec .sideRxTimeout s = .next t ∧ t.on F.SIDE_STAT_RX_OK = false ∧ s.begin.Only [F.SIDE_STAT_RX_OK] [.side] t)
  ∧ (∀ s, s.sst = 5 →
    ∃ t, exec .sstatSend s = .next t
      ∧ t.side.tx = s.side.tx ++ [(⟨10, [b8 (s.g F.SIDE_STAT_RX_OK + 2 * s.g F.SIDE_STAT_SPLIT + 4 * bit (s.g F.SAF_STAT_FSTATE = 3) + 8 * s.role),
          b8 (s.g F.PRF_STAT_IN_FORCE), 0, 0]⟩ : RxFrame)] ∧ s.begin.Only [] [.side] t)
  ∧ (∀ s, s.sst ≠ 5 → exec .sstatSend s = .next s.begin ∧ exec .sideRxTimeout s = .next s.begin)

/-- The side link's frames: PHASE_FRAME, SEAM_FRAME, SSTAT_FRAME. Every good frame shows reception. A PHASE frame of the other role counts, keeps the
peer's frame number, period and lock, ends a role conflict, and while the frame timer runs reports the phase error; the sixteenth such frame in
succession ends the split state where the peer receives. The same role on both lamps is a ROLE_CONFLICT. A SEAM frame of matching length replaces the
seam store and its place in the beam window, and no other byte of memory changes. An SSTAT frame shows the peer's reception, and its loss splits the
lamp. A frame that fails its check restarts the count of PHASE frames and shows nothing. -/
def Obligations.SideLinkFrames : Prop :=
  (∀ s (f : Wire), (s.begin.checkSide f).1 = true → f.ftype = 8 →
      let p := f.payload
      let flags := (p.getD 8 0).toNat
    (flags % 2 ≠ s.role →
      ∃ t, exec (.phaseFrame f) s = .next t ∧ t.on F.SIDE_STAT_RX_OK = true ∧ t.on F.SIDE_STAT_ROLE_CONFLICT = false ∧ t.side.phases = s.side.phases + 1
        ∧ t.side.peerFrame = ofBe (slice p 0 4) ∧ t.side.peerPeriod = ofBe (slice p 4 4) ∧ t.side.peerLocked = tbit flags 1
        ∧ (s.tln.running = true → t.g F.SIDE_PHASE_ERR_NS =
            unsigned 32 (nearest ((s.tln.nextFlip : Int) - ((s.ns : Int) - 2000 - s.g F.SIDE_CTRL_DLY_NS)) s.cmp.period))
        ∧ (s.on F.SIDE_STAT_SPLIT = true → 15 ≤ s.side.phases → s.on F.SIDE_STAT_PEER_RX_OK = true →
            t.on F.SIDE_STAT_SPLIT = false ∧ t.on F.SIDE_EVT_RESTORED = true)
        ∧ (s.side.phases < 15 → t.on F.SIDE_STAT_SPLIT = s.on F.SIDE_STAT_SPLIT))
    ∧ (flags % 2 = s.role → s.on F.SIDE_STAT_ROLE_CONFLICT = false → s.on (F.UNIT_CTRL_ENABLE 0x0A) = true →
      ∃ t, exec (.phaseFrame f) s = .next t ∧ t.on F.SIDE_STAT_ROLE_CONFLICT = true ∧ t.on F.SIDE_EVT_ROLE_CONFLICT = true
        ∧ t.on F.SIDE_STAT_SPLIT = true ∧ (s.defLevel S.SIDE_ROLE ≠ 0 → t.on (fltPend S.SIDE_ROLE) = true)))
  ∧ (∀ s (f : Wire), (s.begin.checkSide f).1 = true → f.ftype = 9 → 16 ≤ f.len → f.len = 16 + 16 * ofBe (slice f.payload 12 2) →
    ∃ t, exec (.seamFrame f) s = .next t ∧ t.glare = { s.glare with store := some (seamFrame f.payload) }
      ∧ (∀ i, i < f.len → t.byte (s.beamWin + 0x48000 + i) = f.payload.getD i 0)
      ∧ (∀ a, a < s.beamWin + 0x48000 ∨ s.beamWin + 0x48000 + f.len ≤ a → t.byte a = s.byte a)
      ∧ s.begin.Only [F.SIDE_STAT_RX_OK] [.mem, .side, .glare] t)
  ∧ (∀ s (f : Wire), (s.begin.checkSide f).1 = true → f.ftype = 10 →
      let flags := (f.payload.getD 0 0).toNat
    ∃ t, exec (.sstatFrame f) s = .next t ∧ t.g F.SIDE_STAT_PEER_RX_OK = flags % 2 ∧ t.side.peerRole = some (flags / 8 % 2)
      ∧ (flags % 2 = 0 → s.on (F.UNIT_CTRL_ENABLE 0x0A) = true → t.on F.SIDE_STAT_SPLIT = true) ∧ s.Within (Foot.reaction [0x0A] [.side]) t)
  ∧ (∀ s (f : Wire), (s.begin.checkSide f).1 = false →
    exec (.phaseFrame f) s = .next (s.begin.checkSide f).2 ∧ exec (.seamFrame f) s = .next (s.begin.checkSide f).2
    ∧ exec (.sstatFrame f) s = .next (s.begin.checkSide f).2)
  ∧ (∀ s (f : Wire), s.sst = 5 → s.blockRunning 0x0A = false → f.crcOk = false → f.abt = false → f.codeErr = false →
    ∃ t, exec (.phaseFrame f) s = .next t ∧ t.side = { s.side with phases := 0 } ∧ t.on F.SIDE_EVT_CRC_ERR = true
      ∧ s.begin.Only [F.SIDE_EVT_CRC_ERR, F.UNIT_IRQ_STAT_EVT 0x0A, F.SIDE_CNT_CRC] [.side] t)

/-- The latch point: commits land or are held, and the frame begins or is composed again. While the frame timer runs and no block reset stands in the way,
a latch point opens the frame: nothing composed, released or waiting, not committed. A new frame takes its mode from the first condition of the
Governor's list, its limits from the zone table by LIMSET, and S and U of 0. A layer's pending commit that is not held lands: its committed bits are
in force, the frame is recorded, and nothing pends; a held one stays pending with its committed bits as they were, and counts a repeat. After a
deferral no commit lands, every cell of every lane is dirty, and the frame is composed again with S and U at 0. Under a block reset of a unit the
frame needs, the flip is deferred at once. With the timer stopped nothing changes. Memory is untouched throughout. -/
def Obligations.LatchPoint : Prop :=
  (∀ s, s.tln.running = true → s.cmp.deferred = false → s.frameBlocked = false →
    ∃ t, exec .latchPoint s = .next t ∧ t.tln = { s.tln with latched := true, committed := false, closed := false, lateCounted := false }
      ∧ t.cmp.bands = [] ∧ t.cmp.released = [] ∧ t.cmp.recomp = [] ∧ t.cmp.tries = [] ∧ t.g F.CMP_STAT_REPEATING = 0
      ∧ t.on F.CMP_STAT_COMPOSING = t.on (F.UNIT_CTRL_ENABLE 0x18) ∧ t.cmp.periodNext = t.g F.CMP_PERIOD_PER_NS
      ∧ t.g F.GOV_MODE_REASON = t.modeReason ∧ t.g F.GOV_MODE_CUR = modeOf t.modeReason
      ∧ t.gov.limits = (List.range 256).map (fun z => t.zoneLim z (t.g F.GOV_SPEED_LIMSET) * 2 ^ 24)
      ∧ t.gov.u = List.replicate 256 0 ∧ t.gov.sums = List.replicate 256 0 ∧ t.gov.factors = []
      ∧ s.Within (Foot.of [0x18, 0x40, 0x48, 0x50, 0x60, 0x70, 0x71] [.pend, .pendPages, .flt, .evr, .saf, .cmp, .lanes, .tln, .gov, .cal, .seg]) t)
  ∧ (∀ s n, n < 16 → s.tln.running = true → s.cmp.deferred = false → s.frameBlocked = false → s.pendPages.contains (layPage n) = true →
    ∃ t, exec .latchPoint s = .next t ∧ t.g (F.LAY_STAT_FENCE_WAIT n) = (if n ∈ s.heldNow then bit (s.fenceWait n) else 0)
      ∧ (n ∉ s.heldNow → layPage n ∉ t.pendPages ∧ t.g (F.LAY_COMMIT_FRAME_FRAME n) = s.frameNo
          ∧ ∀ a, a / 4096 = layPage n → t.word a &&& accMask .rwc a = tabGet resetWord s.pend a &&& accMask .rwc a)
      ∧ (n ∈ s.heldNow → layPage n ∈ t.pendPages ∧ t.on (F.LAY_EVT_REPEAT n) = true
          ∧ t.g (F.LAY_CNT_REPEATS n) = min (F.LAY_CNT_REPEATS n).top (s.g (F.LAY_CNT_REPEATS n) + 1)
          ∧ ∀ a, a / 4096 = layPage n → t.word a &&& accMask .rwc a = s.word a &&& accMask .rwc a))
  ∧ (∀ s, s.tln.running = true → s.cmp.deferred = true → s.frameBlocked = false → s.shaped = true →
    ∃ t, exec .latchPoint s = .next t ∧ t.g F.CMP_STAT_REPEATING = 1 ∧ t.cmp.deferred = false ∧ t.cmp.bands = [] ∧ t.cmp.released = []
      ∧ t.tln.latched = true ∧ (∀ n, n < 8 → (t.lane n).dirty = List.range 256 ∧ (t.lane n).queue = [])
      ∧ t.gov = { s.gov with u := List.replicate 256 0, sums := List.replicate 256 0, factors := [] }
      ∧ s.begin.Only [F.CMP_STAT_REPEATING, F.CMP_STAT_COMPOSING] [.cmp, .lanes, .tln, .gov] t)
  ∧ (∀ s, s.tln.running = true → s.frameBlocked = true →
    ∃ t, exec .latchPoint s = .next t ∧ t.cmp.deferred = true ∧ t.tln.latched = false ∧ t.on F.CMP_EVT_DEFER = true
      ∧ t.on F.CMP_EVT_BLK_DEFER = true ∧ t.g F.CMP_STAT_COMPOSING = 0 ∧ t.tln.nextFlip = s.tln.nextFlip + s.cmp.period ∧ t.mem = s.mem)
  ∧ (∀ s, s.tln.running = false → exec .latchPoint s = .next s.begin)

/-- A band slot composes its bands: BAND_SLOT. In an open frame that is being composed, a slot not yet composed gives each of its bands the 65,536 values
of the compositor, row by row, and nothing but the composed bands changes, where no read fails, no injection is armed and every glare band it reads is
written. A tile band of the glare mask that it reads and that is not marked written is reported for its engine, and stays unwritten. A pixel of the
slot's only band that depends on a failing word sets the parity event of the layer that reads it. In a frame that is not open, or where CMP composes
nothing, the slot changes nothing. -/
def Obligations.BandSlot : Prop :=
  (∀ s k, k < 16 → s.tln.latched = true → s.tln.closed = false → s.on F.CMP_STAT_COMPOSING = true → s.g F.FLT_INJ_STATE ≠ 1 →
      (∀ b, b ∈ s.slotBands k → s.composedBand b = none) →
      (∀ b, b ∈ s.slotBands k → ∀ n, n ∈ s.glareReads b → (s.engine n).written.contains (b % 16) = true) →
    ∃ t, exec (.bandSlot k []) s = .next t
      ∧ (∀ b, b ∈ s.slotBands k → t.composedBand b = some ((List.range 65536).map (fun i => s.compose [] (bandX i) (bandY b i))))
      ∧ (∀ b, b ∉ s.slotBands k → t.composedBand b = s.composedBand b) ∧ s.begin.Only [] [.cmp] t)
  ∧ (∀ s k b n, k < 16 → s.tln.latched = true → s.tln.closed = false → s.on F.CMP_STAT_COMPOSING = true → s.g F.FLT_INJ_STATE ≠ 1 →
      (∀ b, b ∈ s.slotBands k → s.composedBand b = none) → b ∈ s.slotBands k → n ∈ s.glareReads b →
      (s.engine n).written.contains (b % 16) = false →
    ∃ t, exec (.bandSlot k []) s = .next t ∧ t.on (F.BE_EVT_UNWRITTEN n) = true ∧ t.on F.GLR_EVT_UNWRITTEN = true
      ∧ (t.engine n).written.contains (b % 16) = false ∧ (t.composedBand b).isSome = true
      ∧ (s.quiet 0x30 = false → s.quiet (0x31 + n) = false → s.defLevel S.BE_UNWRITTEN ≠ 0 → t.on (fltPend S.BE_UNWRITTEN) = true)
      ∧ t.mem = s.mem)
  ∧ (∀ s k b bad h e, k < 16 → s.tln.latched = true → s.tln.closed = false → s.on F.CMP_STAT_COMPOSING = true → s.g F.FLT_INJ_STATE ≠ 1 →
      s.slotBands k = [b] → s.composedBand b = none → s.glareReads b = [] → h < 8 → e ∈ s.parityIn bad b (256 * h) 256 →
    ∃ t, exec (.bandSlot k bad) s = .next t ∧ t.on (F.LAY_EVT_PARITY e.1) = true ∧ t.on F.CMP_EVT_PARITY = true
      ∧ (t.composedBand b).isSome = true ∧ t.mem = s.mem)
  ∧ (∀ s k bad, s.tln.latched = false ∨ s.tln.closed = true ∨ s.on F.CMP_STAT_COMPOSING = false → exec (.bandSlot k bad) s = .next s.begin)

/-- A composed band passes the Governor and is released: BAND_RELEASE. A slot of one composed band, with no check failing and no injection armed, is
corrected, integrated and clamped: U and S grow by what the rule of integration gives, each zone's factor is the largest that keeps S within its
limit, and the values released are the corrected ones times gain and factor with their codes. Beside the Governor's sums the release touches the
released bands, the lanes' queues and the clamp event alone. Lanes of the Governor that disagree release the band as zeros, set their event and fault,
and lock the device out while Flint runs. Failing words of Granite RAM or of the calibration store set their events. With nothing composed for the
slot nothing changes. -/
def Obligations.BandRelease : Prop :=
  (∀ s k b o v, (b = k ∧ o = k + 16) ∨ (b = k + 16 ∧ o = k) → s.tln.latched = true → s.g F.FLT_INJ_STATE ≠ 1 → b ∈ s.slotBands k →
      s.composedBand b = some v → s.composedBand o = none → s.cmp.released.any (fun e => e.1 = b) = false →
      let vals := (List.range 65536).map (fun i => s.corrected [] (bandX i) (bandY b i) (v.getD i 0))
      let ub := s.integrate b vals
      let f := (List.range 256).map (fun z => bandFactor (s.gov.limits.getD z 0) (s.gov.sums.getD z 0) (ub.2.getD z 0))
    ∃ t, exec (.bandRelease k .none_) s = .next t
      ∧ t.releasedBand b = (List.range 65536).map (fun i => s.coded (bandX i) (bandY b i) (s.govOut f (bandX i) (bandY b i) (vals.getD i 0)))
      ∧ t.gov = { s.gov with
          u := ub.1, factors := s.gov.factors ++ [(b, f)]
          sums := (List.range 256).map (fun z => s.gov.sums.getD z 0 + (ub.2.getD z 0 * f.getD z 65536 + 65535) / 65536) }
      ∧ (f.any (fun x => x < 65536) = true → t.on F.GOV_EVT_CLAMP = true)
      ∧ s.begin.Only [F.GOV_EVT_CLAMP, F.UNIT_IRQ_STAT_EVT 0x40] [.cmp, .gov, .lanes] t)
  ∧ (∀ s k b o v, (b = k ∧ o = k + 16) ∨ (b = k + 16 ∧ o = k) → s.tln.latched = true → s.g F.FLT_INJ_STATE ≠ 1 → b ∈ s.slotBands k →
      s.composedBand b = some v → s.composedBand o = none → s.cmp.released.any (fun e => e.1 = b) = false →
    ∃ t, exec (.bandRelease k (.govLanes b)) s = .next t ∧ (∀ i, ((t.releasedBand b).getD i (0, 0)).1 = 0) ∧ t.on F.GOV_EVT_DP = true
      ∧ (s.defLevel S.GOV_DP ≠ 0 → t.on (fltPend S.GOV_DP) = true) ∧ t.saf.granFault = true
      ∧ (s.saf.halted = false → s.flintStopped = false → t.on F.SAF_STAT_LOCKED = true)
      ∧ s.Within (Foot.reaction [] [.cmp, .gov]) t)
  ∧ (∀ s k b n a, s.tln.latched = true → s.g F.FLT_INJ_STATE ≠ 1 → b ∈ s.slotBands k → (s.composedBand b).isSome = true →
    (∃ t, exec (.bandRelease k (.calUnc n a)) s = .next t ∧ t.on F.CAL_EVT_ECC_UNC = true
      ∧ (s.defLevel S.CAL_ECC_UNC ≠ 0 → t.on (fltPend S.CAL_ECC_UNC) = true) ∧ t.mem = s.mem)
    ∧ (∃ t, exec (.bandRelease k (.calCor n a)) s = .next t ∧ t.on F.CAL_EVT_ECC_COR = true ∧ t.mem = s.mem)
    ∧ (∃ t, exec (.bandRelease k (.gramCor a)) s = .next t
      ∧ (s.defLevel S.GRAM_COR ≠ 0 → t.on (fltPend S.GRAM_COR) = true) ∧ t.mem = s.mem)
    ∧ (∃ t, exec (.bandRelease k (.gramUnc a)) s = .next t ∧ t.on F.GOV_EVT_ECC_UNC = true ∧ t.saf.granFault = true
      ∧ (s.saf.halted = false → s.flintStopped = false → t.on F.SAF_STAT_LOCKED = true) ∧ t.mem = s.mem))
  ∧ (∀ s k hit, (∀ b, b ∈ s.slotBands k → s.composedBand b = none) ∨ s.tln.latched = false → exec (.bandRelease k hit) s = .next s.begin)

/-- No zone's clamped sum exceeds its limit: every step keeps it. In a state where S of every zone is at or below the limit fixed at the latch point,
every step that answers a next state, whatever the command at the front of the queue and whatever the content composed, leaves S of every zone at or
below its limit. -/
def Obligations.GovernorNeverExceeds : Prop :=
  ∀ s t, step s = .next t → (∀ z, s.gov.sums.getD z 0 ≤ s.gov.limits.getD z 0) → ∀ z, t.gov.sums.getD z 0 ≤ t.gov.limits.getD z 0

/-- Regions on the tile lanes: REGION_RECOMPUTE, REGION_PUSH, REPORT_TIMEOUT. The first region that waits and whose band is released is recomputed:
counted, its pixels composed and corrected again with the g and f of its band, every other released value and the Governor's sums as they were, and
pushed again ahead of the lane's pushes. Failing words that fail again are reported uncorrected, the others corrected. An ACTIVE lane starts its next
region with the packet of its header and codes, counts it and drops its cells from the dirty set; other lanes are untouched. A report that does not
come (its source at its default class) counts as a failed region whose cells are dirty; in an open frame the region is to be recomputed; the second
miss in succession retrains the lane. -/
def Obligations.RegionsAndReports : Prop :=
  (∀ s r rest, s.cmp.recomp = r :: rest → s.tln.latched = true → s.tln.closed = false → s.cmp.released.any (fun e => e.1 = r.band) = true →
      s.armed S.CMP_PARITY_UNC = false → r.parity = [] →
      let f := ((s.gov.factors.find? (fun e => e.1 = r.band)).map (fun e => e.2)).getD (List.replicate 256 65536)
      let x0 := 512 * (r.tile % 4) + 32 * r.cell0
    ∃ t, exec (.regionRecompute []) s = .next t ∧ t.cmp.recomp = rest ∧ t.gov = s.gov ∧ t.on F.CMP_EVT_RECOMP = true
      ∧ t.g F.CMP_CNT_RECOMP = min F.CMP_CNT_RECOMP.top (s.g F.CMP_CNT_RECOMP + 1)
      ∧ t.triesOf (r.band, r.tile, r.cell0) = s.triesOf (r.band, r.tile, r.cell0) + 1
      ∧ (∀ i, i < 65536 → (bandX i < x0 ∨ x0 + 32 * r.cells ≤ bandX i) →
          (t.releasedBand r.band).getD i (0, 0) = (s.releasedBand r.band).getD i (0, 0))
      ∧ (∀ i, i < 65536 → x0 ≤ bandX i → bandX i < x0 + 32 * r.cells →
          (t.releasedBand r.band).getD i (0, 0) = s.coded (bandX i) (bandY r.band i)
            (s.govOut f (bandX i) (bandY r.band i) (s.corrected [] (bandX i) (bandY r.band i) (s.compose [] (bandX i) (bandY r.band i)))))
      ∧ (s.shaped = true → r.tile < 8 → s.inService r.tile = true →
          (⟨r.band % 16, r.cell0, r.cells, s.frameNo % 65536, true, false⟩ : Rgn) ∈ (t.lane r.tile).queue)
      ∧ s.begin.Only [F.CMP_CNT_RECOMP, F.CMP_EVT_RECOMP, F.UNIT_IRQ_STAT_EVT 0x18] [.cmp, .lanes] t)
  ∧ (∀ s r rest bad e, s.cmp.recomp = r :: rest → s.tln.latched = true → s.tln.closed = false →
      s.cmp.released.any (fun e => e.1 = r.band) = true → s.armed S.CMP_PARITY_UNC = false → cmpPages.any s.quiet = false → e ∈ r.parity →
    ∃ t, exec (.regionRecompute bad) s = .next t
      ∧ (bad.contains e.2 = true → s.defLevel S.CMP_PARITY_UNC ≠ 0 → t.on (fltPend S.CMP_PARITY_UNC) = true)
      ∧ (bad.contains e.2 = false → s.defLevel S.CMP_PARITY ≠ 0 → t.on (fltPend S.CMP_PARITY) = true) ∧ t.gov = s.gov ∧ t.mem = s.mem)
  ∧ (∀ s bad, s.cmp.recomp = [] → exec (.regionRecompute bad) s = .next s.begin)
  ∧ (∀ s n r rest, s.shaped = true → n < 8 → s.tlst n = 5 → (s.lane n).queue = r :: rest →
    ∃ t, exec (.regionPush n) s = .next t ∧ (t.lane n).queue = rest ∧ (t.lane n).sending = some r
      ∧ (t.lane n).due = (s.lane n).due ++ (s.lane n).sending.toList ∧ (t.lane n).packet = s.regionPacket n r
      ∧ (t.lane n).rseq = ((s.lane n).rseq + 1) % 256
      ∧ (∀ c, c < r.cells → 16 * r.band + r.cell0 + c ∉ (t.lane n).dirty)
      ∧ t.g (F.TL_CNT_PUSH_REGIONS n) = (s.g (F.TL_CNT_PUSH_REGIONS n) + 1) % 65536
      ∧ (r.repush = true → t.g (F.TL_CNT_PUSH_REPUSH n) = min 65535 (s.g (F.TL_CNT_PUSH_REPUSH n) + 1))
      ∧ (∀ m, m ≠ n → t.lane m = s.lane m)
      ∧ s.begin.Only [F.TL_CNT_PUSH_REGIONS n, F.TL_CNT_PUSH_REPUSH n] [.lanes] t)
  ∧ (∀ s n, s.tlst n ≠ 5 ∨ (s.lane n).queue = [] → exec (.regionPush n) s = .next s.begin)
  ∧ (∀ s n r rest, s.shaped = true → n < 8 → (s.lane n).due = r :: rest → (s.lane n).missRun = 0 → s.defLevel S.TL_REPORT_MISS ≤ 1 →
      s.tln.closed = false →
      (s.tln.latched = true → r.frame = s.frameNo % 65536 → s.triesOf (fieldBand n r.band, n, r.cell0) < s.g F.CMP_CTRL_RETRY_MAX) →
    ∃ t, exec (.reportTimeout n) s = .next t ∧ t.on (F.TL_EVT_REPORT_MISS n) = true ∧ (t.lane n).due = rest ∧ (t.lane n).missRun = 1
      ∧ t.g (F.TL_CNT_ERR_CRC_FAIL n) = min (F.TL_CNT_ERR_CRC_FAIL n).top (s.g (F.TL_CNT_ERR_CRC_FAIL n) + 1)
      ∧ (∀ c, c < r.cells → 16 * r.band + r.cell0 + c ∈ (t.lane n).dirty)
      ∧ (s.tln.latched = true → r.frame = s.frameNo % 65536 →
          t.cmp.recomp = joinRecomp s.cmp.recomp ⟨fieldBand n r.band, n, r.cell0, r.cells, [], false⟩)
      ∧ s.Within (Foot.reaction [0x02, 0x18] [.cmp, .tln]) t)
  ∧ (∀ s n r rest, s.shaped = true → n < 8 → (s.lane n).due = r :: rest → 1 ≤ (s.lane n).missRun → s.tlst n = 5 → (s.lane n).sending = none →
      s.tln.latched = false → (s.lane n).retrains < s.g (F.TL_CTRL_TRIES n) → s.defLevel S.TL_REPORT_MISS ≤ 1 → s.defLevel S.TL_RETRAIN ≤ 1 →
    ∃ t, exec (.reportTimeout n) s = .next t ∧ t.on (F.TL_EVT_REPORT_MISS n) = true ∧ t.on (F.TL_EVT_RETRAIN n) = true
      ∧ t.tlst n = 1 ∧ (t.lane n).retrains = (s.lane n).retrains + 1)
  ∧ (∀ s n, (s.lane n).due = [] → (s.lane n).sending = none → exec (.reportTimeout n) s = .next s.begin)

/-- Deadline, commit and flip: PUSH_DEADLINE, FLIP_COMMIT, FLIP. At the deadline an open frame whose work is done closes, and nothing else changes; one
whose work is not done is deferred: counted, reported, its flip one period later, and DEFER_MAX deferrals in a row are fatal. The commit point commits
a closed frame. The flip of a committed frame advances FRAME_NO, ends the run of deferrals, notes the link time, brings the next period into force,
hands the Governor's integral on as U_prev, and FIELD_OK rises with the first frame that carries light and falls with one that is BLANK. Without an
open, closed or committed frame each of the three changes nothing. -/
def Obligations.DeadlineAndFlip : Prop :=
  (∀ s, s.tln.latched = true → s.tln.closed = false → s.frameDone = true →
    (∃ t, exec .pushDeadline s = .next t ∧ t.tln = { s.tln with closed := true } ∧ s.begin.Only [] [.tln] t)
    ∧ ∃ t, exec .flipCommit s = .next t ∧ t.tln = { s.tln with closed := true, committed := true } ∧ s.begin.Only [] [.tln] t)
  ∧ (∀ s, s.tln.latched = true → s.tln.closed = true →
    (∃ t, exec .flipCommit s = .next t ∧ t.tln = { s.tln with committed := true } ∧ s.begin.Only [] [.tln] t)
    ∧ exec .pushDeadline s = .next s.begin)
  ∧ (∀ s, s.tln.latched = true → s.tln.closed = false → s.frameDone = false →
    ∃ t, exec .pushDeadline s = .next t ∧ exec .flipCommit s = .next t ∧ t.cmp.deferred = true ∧ t.cmp.recomp = [] ∧ t.tln.latched = false
      ∧ t.tln.committed = false ∧ t.tln.nextFlip = s.tln.nextFlip + s.cmp.period ∧ t.on F.CMP_EVT_DEFER = true
      ∧ t.g F.CMP_CNT_DEFER = min F.CMP_CNT_DEFER.top (s.g F.CMP_CNT_DEFER + 1)
      ∧ t.g F.CMP_STAT_DEFER_RUN = min 7 (s.g F.CMP_STAT_DEFER_RUN + 1) ∧ t.g F.CMP_STAT_COMPOSING = 0
      ∧ (cmpPages.any s.quiet = false → s.defLevel S.CMP_DEFER ≠ 0 → t.on (fltPend S.CMP_DEFER) = true)
      ∧ (min 7 (s.g F.CMP_STAT_DEFER_RUN + 1) = s.g F.CMP_CTRL_DEFER_MAX → t.on F.CMP_EVT_DEFER_FATAL = true
          ∧ (cmpPages.any s.quiet = false → s.defLevel S.CMP_DEFER_FATAL ≠ 0 → t.on (fltPend S.CMP_DEFER_FATAL) = true))
      ∧ t.gov = s.gov ∧ s.Within (Foot.reaction [0x02, 0x18] [.cmp, .tln]) t)
  ∧ (∀ s, s.tln.latched = false → exec .pushDeadline s = .next s.begin ∧ exec .flipCommit s = .next s.begin)
  ∧ (∀ s, s.tln.committed = true →
    ∃ t, exec .flip s = .next t ∧ t.g F.CMP_FRAME_FRAME_NO = (s.g F.CMP_FRAME_FRAME_NO + 1) % 2 ^ 32 ∧ t.g F.CMP_STAT_DEFER_RUN = 0
      ∧ t.g F.CMP_STAT_COMPOSING = 0 ∧ t.g F.CMP_STAT_REPEATING = 0 ∧ t.cmp.deferred = false ∧ t.cmp.period = s.cmp.periodNext
      ∧ t.g F.CMP_FLIP_LT_LO_LT = s.ltNs % 2 ^ 32 ∧ t.g F.CMP_FLIP_LT_HI_LT = s.ltNs / 2 ^ 32
      ∧ t.tln = { s.tln with
          nextFlip := (((s.tln.nextFlip + s.cmp.periodNext : Nat) : Int) + s.tln.adj).toNat, latched := false, committed := false, closed := false }
      ∧ t.g F.GOV_FRAME_FRAME = (s.g F.CMP_FRAME_FRAME_NO + 1) % 2 ^ 32 ∧ t.gov.uPrev = s.gov.u ∧ t.gov.gPrev = s.gov.gains
      ∧ t.gov.wasAdaptive = decide (s.g F.GOV_MODE_CUR = 2) ∧ t.saf.beamLit = decide (s.g F.GOV_MODE_CUR ≠ 0)
      ∧ (s.allTerms = true → s.safetyBlock = false → s.g F.SAF_STAT_FSTATE = 2 → s.g F.GOV_MODE_CUR ≠ 0 → t.g F.SAF_STAT_FSTATE = 3)
      ∧ (s.allTerms = true → s.safetyBlock = false → s.g F.SAF_STAT_FSTATE = 3 → s.g F.GOV_MODE_CUR = 0 → t.g F.SAF_STAT_FSTATE = 2)
      ∧ (s.allTerms = true → s.safetyBlock = false → s.g F.SAF_STAT_FSTATE = 3 → s.g F.GOV_MODE_CUR ≠ 0 → t.g F.SAF_STAT_FSTATE = 3)
      ∧ (∀ n, n < 8 → s.tlst n = 5 → s.on (F.TL_CTRL_SR_EN n) = true → (s.lane n).queue = [] → (s.lane n).sending = none → t.tlst n = 6)
      ∧ s.Within (Foot.of [0x01, 0x18, 0x40, 0x50, 0x60, 0x68, 0x70, 0x71]
          [.pend, .pendPages, .flt, .evr, .saf, .quartz, .side, .cmp, .lanes, .tln, .gov, .flx, .seg]) t)
  ∧ (∀ s, s.tln.committed = false → exec .flip s = .next s.begin)

/-- The object cut-off: snapshot, list age, frame timer's adjustment, engine setup: OBJECT_CUTOFF. While the frame timer runs, every cut-off takes the
pull source, fixes T_NEXT from the period ahead and the adjustment, judges the Governor's own list, and notes whether the lamp is split. With GLR
enabled and a new list whose packet reads well, the list becomes the held one, its SEQ is reported, the snapshot counted, its age reported, and each
engine's boxes are those of the list's objects grown by their margin class, or by class 3 where the engine renders boxes alone or the lamp is forced
to it. A packet that fails its read is replayed. With GLR disabled the list is stale. With the timer stopped nothing changes. -/
def Obligations.ObjectCutoff : Prop :=
  (∀ s parity, s.tln.running = true →
    ∃ t, exec (.objectCutoff parity) s = .next t ∧ t.g F.TLN_STAT_SRC = s.pullSource
      ∧ t.tln.tNext = ((s.periodAhead : Int) + t.tln.adj).toNat ∧ t.glare.tNext = t.tln.tNext
      ∧ t.glare.tPh = s.ltNs + (s.tln.nextFlip - s.ns) + t.g F.GLR_PHOTON_OFS_NS
      ∧ (s.pullSource = 0 → t.tln.adj = 0 ∧ t.on F.TLN_STAT_LOCKED = false)
      ∧ t.on F.GOV_STAT_OWN_STALE = (s.listStale s.gov.listTime).1 ∧ t.glare.split = s.on F.SIDE_STAT_SPLIT
      ∧ t.on F.GLR_STAT_LIST_STALE = t.glare.stale ∧ (t.glare.stale = true → t.on F.GLR_EVT_LIST_STALE = true))
  ∧ (∀ s l, s.tln.running = true → s.on (F.UNIT_CTRL_ENABLE 0x30) = true → s.blockRunning 0x30 = false → s.glare.newest = some l →
      s.consuming 2 = true → s.armed S.CMD_REPLAY = false → s.glare.store = none → s.shaped = true →
    ∃ t, exec (.objectCutoff false) s = .next t ∧ t.glare.newest = none ∧ t.glare.heldList = some l
      ∧ t.g F.GLR_SNAP_SEQ_SEQ = l.seq % 2 ^ 32 ∧ t.g F.GLR_SNAP_FRAME_FRAME = s.frameNo
      ∧ t.g F.GLR_CNT_SNAPS = min F.GLR_CNT_SNAPS.top (s.g F.GLR_CNT_SNAPS + 1) ∧ t.g F.GLR_LIST_AGE_AGE_US = s.ageUs l.listTime
      ∧ t.glare.stale = (s.listStale (some l.listTime)).1
      ∧ (∀ n, n < 8 → (t.engine n).written = [] ∧ (t.engine n).boxes = l.objs.map (fun o =>
          t.pixBox n (t.prepare o (some (if t.forceM3 || t.boxOnly n then 3 else o.mclass)) t.glare.tPh (t.glare.tPh + t.glare.tNext)))))
  ∧ (∀ s l p q, s.tln.running = true → s.on (F.UNIT_CTRL_ENABLE 0x30) = true → s.blockRunning 0x30 = false → s.glare.newest = some l →
      s.ring 2 = p :: q → s.cmd.rings.length = 4 →
    ∃ t, exec (.objectCutoff true) s = .next t ∧ t.glare.newest = none ∧ t.glare.heldList = s.glare.heldList ∧ t.ring 2 = []
      ∧ t.g (F.CMD_EXP_EXP 2) = p.seq % 2 ^ 32 ∧ t.on F.CMD_EVT_REPLAY = true
      ∧ (s.defLevel S.CMD_REPLAY ≠ 0 → t.on (fltPend S.CMD_REPLAY) = true))
  ∧ (∀ s parity, s.tln.running = true → s.on (F.UNIT_CTRL_ENABLE 0x30) = false →
    ∃ t, exec (.objectCutoff parity) s = .next t ∧ t.glare.stale = true ∧ t.on F.GLR_STAT_LIST_STALE = true
      ∧ t.glare.heldList = s.glare.heldList ∧ t.glare.newest = s.glare.newest ∧ t.glare.entries = [] ∧ t.mem = s.mem)
  ∧ (∀ s parity, s.tln.running = false → exec (.objectCutoff parity) s = .next s.begin)

/-- An engine renders a tile band, or its kernel is cut off: KERNEL_BAND_RENDER, KERNEL_OVERRUN. Where an engine renders and runs a kernel, a band leaves
in the glare mask the kernel's byte outside every pixel box and 0 inside one; the band is marked written and the cycles are reported. An engine that
runs no kernel leaves 0xFF outside the boxes. A parity error on the write leaves the band unmarked. A kernel cut off, or one that left its windows,
leaves 0xFF outside the boxes, sets its event, counts a miss once for the band, and a run of misses that reaches MISS_MAX makes box-only mode due. No
byte of memory outside the mask band, the engine's band window and its BAND byte changes. Where the engine does not render nothing changes. -/
def Obligations.KernelBands : Prop :=
  (∀ s n b cycles band, s.renders n b = true → s.runsKernel n = true → s.glare.engines.length = 8 →
      let inBox := fun i => (s.engine n).boxes.any (fun p => p.holds (i % 512) (32 * b + i / 512))
    ∃ t, exec (.kernelBandRender n b cycles band false) s = .next t
      ∧ (∀ i, i < 16384 → t.byte (s.maskAddr n 0 (32 * b) + i) = if inBox i then 0 else band.getD i 0xFF)
      ∧ (∀ a, (a < s.maskAddr n 0 (32 * b) ∨ s.maskAddr n 0 (32 * b) + 16384 ≤ a) →
          (a < s.beamWin + 0x28000 + 0x4000 * n ∨ s.beamWin + 0x28000 + 0x4000 * n + 16384 ≤ a) →
          a ≠ s.beamWin + 0x18000 + 0x2000 * n + 20 → t.byte a = s.byte a)
      ∧ b ∈ (t.engine n).written ∧ t.g (F.BE_STAT_BAND n) = b ∧ t.g (F.BE_CYC_LAST n) = cycles % 65536
      ∧ t.g (F.BE_CYC_MAX n) = max cycles (s.g (F.BE_CYC_MAX n)) % 65536
      ∧ s.begin.Only [F.BE_CYC_LAST n, F.BE_CYC_MAX n, F.BE_STAT_BAND n] [.mem, .glare] t)
  ∧ (∀ s n b cycles band, s.renders n b = true → s.runsKernel n = false → s.glare.engines.length = 8 →
      let inBox := fun i => (s.engine n).boxes.any (fun p => p.holds (i % 512) (32 * b + i / 512))
    ∃ t, exec (.kernelBandRender n b cycles band false) s = .next t
      ∧ (∀ i, i < 16384 → t.byte (s.maskAddr n 0 (32 * b) + i) = if inBox i then 0 else 0xFF)
      ∧ b ∈ (t.engine n).written ∧ s.begin.Only [F.BE_STAT_BAND n] [.mem, .glare] t)
  ∧ (∀ s n b cycles band, s.renders n b = true →
    ∃ t, exec (.kernelBandRender n b cycles band true) s = .next t ∧ t.glare = s.glare ∧ t.g (F.BE_STAT_BAND n) = b
      ∧ s.begin.Only [F.BE_CYC_LAST n, F.BE_CYC_MAX n, F.BE_STAT_BAND n] [.mem] t)
  ∧ (∀ s n b window, s.renders n b = true → s.runsKernel n = true → s.glare.engines.length = 8 →
      let inBox := fun i => (s.engine n).boxes.any (fun p => p.holds (i % 512) (32 * b + i / 512))
    ∃ t, exec (.kernelOverrun n b window false) s = .next t
      ∧ (∀ i, i < 16384 → t.byte (s.maskAddr n 0 (32 * b) + i) = if inBox i then 0 else 0xFF)
      ∧ t.on (if window then F.BE_EVT_WIN_FAULT n else F.BE_EVT_OVERRUN n) = true ∧ t.on F.GLR_EVT_MISS = true
      ∧ t.g (F.BE_CYC_LAST n) = 31744 ∧ t.g (F.BE_CNT_MISS n) = min (F.BE_CNT_MISS n).top (s.g (F.BE_CNT_MISS n) + 1)
      ∧ b ∈ (t.engine n).written ∧ (t.engine n).missed = true
      ∧ ((s.engine n).missed = false → t.g (F.BE_STAT_MISS_RUN n) = min (F.BE_STAT_MISS_RUN n).top (s.g (F.BE_STAT_MISS_RUN n) + 1))
      ∧ (s.g F.GLR_CTRL_MISS_MAX ≤ t.g (F.BE_STAT_MISS_RUN n) → (t.engine n).boxDue = true)
      ∧ (s.quiet 0x30 = false → s.quiet (0x31 + n) = false → s.defLevel S.BE_MISS ≠ 0 → t.on (fltPend S.BE_MISS) = true)
      ∧ s.Within (Foot.reaction [0x02, 0x30] [.mem, .glare]) t)
  ∧ (∀ s n b cycles band window parity, s.renders n b = false →
    exec (.kernelBandRender n b cycles band parity) s = .next s.begin ∧ exec (.kernelOverrun n b window parity) s = .next s.begin)

/-- Kernels are loaded and verified: GLR_KLOAD, KERNEL_VERIFY_DONE. A load request for a slot that holds no kernel in use sets it VERIFYING, and nothing
else; one for the slot in use, or without LOAD, changes nothing. At the end of the check an image that passes makes the slot READY; one that is
refused makes it REJECTED with the reason, 1 for a signature that fails where the image fits its slot and 4 where it does not, and sets the event. A
slot that is not VERIFYING is not touched. -/
def Obligations.KernelLoading : Prop :=
  (∀ s m v, s.masterRuns m = true → s.mayWrite m 0x30 0x48 = true → v.toNat % 2 = 1 → s.slotActive (v.toNat / 2 % 2) = false →
    ∃ t, exec (.glrKload m v) s = .next t ∧ t.g (kstat (v.toNat / 2 % 2)) = 1 ∧ s.begin.Only [kstat (v.toNat / 2 % 2)] [] t)
  ∧ (∀ s m v, s.masterRuns m = true → s.mayWrite m 0x30 0x48 = true → v.toNat % 2 = 0 ∨ s.slotActive (v.toNat / 2 % 2) = true →
    exec (.glrKload m v) s = .next s.begin)
  ∧ (∀ s k ok, k < 2 → s.g (kstat k) = 1 →
    ∃ t, exec (.kernelVerifyDone k ok) s = .next t
      ∧ ((s.kernelRej k ok).1 = 0 → t.g (kstat k) = 2 ∧ s.begin.Only [kstat k] [] t)
      ∧ ((s.kernelRej k ok).1 ≠ 0 → t.g (kstat k) = 3 ∧ t.g F.GLR_KSTAT_REJ = (s.kernelRej k ok).1 ∧ t.on F.GLR_EVT_KERN_REJ = true)
      ∧ s.begin.Only [kstat k, F.GLR_KSTAT_REJ, F.GLR_EVT_KERN_REJ, F.UNIT_IRQ_STAT_EVT 0x30, F.SEC_EVT_SIG_FAIL, F.UNIT_IRQ_STAT_EVT 0x78] [] t)
  ∧ (∀ (s : State) k, 32768 < 64 + ofLe (slice (s.bytes (s.beamWin + 0x8000 * k) 32768) 12 4) + 192 → ∀ ok, (s.kernelRej k ok).1 = 4)
  ∧ (∀ (s : State) k, 64 + ofLe (slice (s.bytes (s.beamWin + 0x8000 * k) 32768) 12 4) + 192 ≤ 32768 → (s.kernelRej k false).1 = 1
      ∧ (s.kernelRej k false).2.on F.SEC_EVT_SIG_FAIL = true)
  ∧ (∀ s k ok, s.g (kstat k) ≠ 1 → exec (.kernelVerifyDone k ok) s = .next s.begin)

/-- Interpolations and trims: INTERP_CMD, INTERP_DONE, TRIM_CMD, TRIM_DONE. An interpolation commanded for one tile out of LOAD, with none under way,
starts at the tile's latest valid temperature, or at T1 where it has had none; a tile in LOAD takes none. At its end the unused bank of the tile holds
the 4,096 block gains of the piecewise rule at that temperature and waits for the latch point; no other byte of memory changes. A trim that is
commanded shows BUSY; one commanded during a run is noted. At its end every trim has the code found, or keeps its own where the search failed, which
is reported; the temperature is recorded and the run counted, and BUSY stands where another was asked for. -/
def Obligations.Calibration : Prop :=
  (∀ s m v n, s.masterRuns m = true → s.mayWrite m 0x48 0x48 = true → n < 8 → v.toNat % 512 = 2 ^ n → (s.calTile n).load = false → s.cal.jobs = [] →
    ∃ t, exec (.interpCmd m v) s = .next t ∧ (t.calTile n).waiting = none
      ∧ t.cal.jobs = [if (s.lane n).statusAt.isSome then (n, s.tileTemp n, true) else (n, s.calT n 1, false)] ∧ s.begin.Only [] [.cal] t)
  ∧ (∀ s m v n, s.masterRuns m = true → s.mayWrite m 0x48 0x48 = true → n < 8 → v.toNat % 512 = 2 ^ n → (s.calTile n).load = true →
    exec (.interpCmd m v) s = .next s.begin)
  ∧ (∀ s n temp own rest, s.cal.jobs = (n, temp, own) :: rest → s.cal.tiles.length = 8 → n < 8 →
      let a := bankAddr n (1 - (s.calTile n).bank)
    ∃ t, exec (.interpDone n) s = .next t ∧ (∀ i, i < 4096 → t.le (a i) 2 = s.gainAt n i temp % 65536)
      ∧ (∀ x, x < a 0 ∨ a 0 + 8192 ≤ x → t.byte x = s.byte x) ∧ t.cal.jobs = rest
      ∧ t.calTile n = { s.calTile n with waiting := some (temp, own) } ∧ (∀ k, k ≠ n → t.calTile k = s.calTile k)
      ∧ s.begin.Only [] [.mem, .cal] t)
  ∧ (∀ s n, (∀ j, s.cal.jobs.head? = some j → j.1 ≠ n) → exec (.interpDone n) s = .next s.begin)
  ∧ (∀ s m v, s.masterRuns m = true → s.mayWrite m 0x48 0x48 = true → v.toNat % 512 = 256 → s.on F.CAL_STAT_TRIM_BUSY = false →
    ∃ t, exec (.trimCmd m v) s = .next t ∧ t.on F.CAL_STAT_TRIM_BUSY = true ∧ s.begin.Only [F.CAL_STAT_TRIM_BUSY] [] t)
  ∧ (∀ s m v, s.masterRuns m = true → s.mayWrite m 0x48 0x48 = true → v.toNat % 512 = 256 → s.on F.CAL_STAT_TRIM_BUSY = true →
    ∃ t, exec (.trimCmd m v) s = .next t ∧ t.cal = { s.cal with trimAgain := true } ∧ s.begin.Only [] [.cal] t)
  ∧ (∀ s codes, s.on F.CAL_STAT_TRIM_BUSY = true →
    ∃ t, exec (.trimDone codes) s = .next t
      ∧ t.cal = { s.cal with
          trimAgain := false
          codes := (List.range (max codes.length s.cal.codes.length)).map (fun i => (codes.getD i none).getD (s.cal.codes.getD i 0)) }
      ∧ t.on F.CAL_STAT_TRIM_BUSY = s.cal.trimAgain ∧ t.on F.CAL_EVT_TRIM_DONE = true ∧ t.g F.CAL_TRIM_T_TRIM = unsigned 16 s.dieMax
      ∧ t.g F.CAL_TRIM_RUNS = min F.CAL_TRIM_RUNS.top (s.g F.CAL_TRIM_RUNS + 1)
      ∧ (codes.any Option.isNone = true → t.on F.CAL_EVT_TRIM_FAIL = true ∧ (s.defLevel S.CAL_TRIM_FAIL ≠ 0 → t.on (fltPend S.CAL_TRIM_FAIL) = true))
      ∧ (codes.any Option.isNone = false → s.begin.Only [F.CAL_EVT_TRIM_DONE, F.UNIT_IRQ_STAT_EVT 0x48, F.CAL_TRIM_T_TRIM, F.CAL_TRIM_RUNS,
          F.CAL_STAT_TRIM_BUSY] [.cal] t)
      ∧ s.Within (Foot.reaction [0x48] [.cal]) t)
  ∧ (∀ s codes, s.on F.CAL_STAT_TRIM_BUSY = false → exec (.trimDone codes) s = .next s.begin)

/-- The periodic digest and the flux record: DIGEST_CHECK, FLUX_RECORD_WRITE. With the tables in force and Flint running, a digest that holds over words
that read well changes nothing. One that fails sets its event, is a Granite fault, and locks the device out while Flint is not stopped. A corrected
word is counted; an uncorrectable one is a Granite fault of its own. Without tables in force nothing is checked. The flux record takes the set
identifier and every tile's identity and gain once a gain has moved by more than 1 % and 60 s have passed, with flash in its temperature window;
outside the window it is deferred. -/
def Obligations.DigestAndFluxRecord : Prop :=
  (∀ s, s.on F.GOV_STAT_TABLES_OK = true → s.saf.halted = false → s.g F.FLT_INJ_STATE ≠ 1 → exec (.digestCheck true 0) s = .next s.begin)
  ∧ (∀ s, s.on F.GOV_STAT_TABLES_OK = true → s.saf.halted = false → s.g F.FLT_INJ_STATE ≠ 1 →
    ∃ t, exec (.digestCheck false 0) s = .next t ∧ t.on F.GOV_EVT_DIGEST = true ∧ t.saf.granFault = true
      ∧ (s.defLevel S.GOV_DIGEST ≠ 0 → t.on (fltPend S.GOV_DIGEST) = true)
      ∧ (s.flintStopped = false → t.on F.SAF_STAT_LOCKED = true) ∧ s.Within (Foot.reaction [] []) t)
  ∧ (∀ s ok, s.on F.GOV_STAT_TABLES_OK = true → s.saf.halted = false → s.g F.FLT_INJ_STATE ≠ 1 →
    (∃ t, exec (.digestCheck ok 1) s = .next t ∧ t.g F.GOV_ECC_COR = min F.GOV_ECC_COR.top (s.g F.GOV_ECC_COR + 1)
      ∧ (s.defLevel S.GRAM_COR ≠ 0 → t.on (fltPend S.GRAM_COR) = true))
    ∧ ∃ t, exec (.digestCheck ok 2) s = .next t ∧ t.on F.GOV_EVT_ECC_UNC = true ∧ t.saf.granFault = true
      ∧ (s.defLevel S.GRAM_UNC ≠ 0 → t.on (fltPend S.GRAM_UNC) = true))
  ∧ (∀ s ok ecc, s.on F.GOV_STAT_TABLES_OK = false ∨ s.saf.halted = true → exec (.digestCheck ok ecc) s = .next s.begin)
  ∧ (∀ s, s.fluxMoved = true → (∀ w, s.flx.writtenAt = some w → ms 60000 ≤ s.now - w) → s.on F.THM_STAT_FLASH_OK = true →
    ∃ t, exec .fluxRecordWrite s = .next t ∧ t.flx = { s.flx with record := some s.fluxRecordNow, writtenAt := some s.now }
      ∧ s.begin.Only [] [.flx] t)
  ∧ (∀ s, s.fluxMoved = true → (∀ w, s.flx.writtenAt = some w → ms 60000 ≤ s.now - w) → s.on F.THM_STAT_FLASH_OK = false →
    ∃ t, exec .fluxRecordWrite s = .next t ∧ Deferred.flux ∈ t.thm.deferred ∧ s.begin.Only [] [.thm] t)
  ∧ (∀ s, s.fluxMoved = false ∨ (∃ w, s.flx.writtenAt = some w ∧ s.now - w < ms 60000) → exec .fluxRecordWrite s = .next s.begin)

/-- A lane trains, is assigned, wakes on schedule or is given up; FSYNC_IN. A lane in WAKE whose serialiser is ready is in TRAIN. One in TRAIN that ends
it is ACTIVE where its tile is assigned, with every cell dirty and no region numbered yet; else it is in ASSIGN and sends the ASSIGN packet. A tile
that shows no ALIVE in time is tried again from WAKE, and after TRIES attempts is given up, as is one that does not identify itself in time: the lane
is FAILED and the fault pends, TILE_LOST for a tile that has been ACTIVE, TRN_FAIL for any other. At the scheduled wake exactly the lanes in SLEEP are
in WAKE. A lane without swing in ACTIVE, SLEEP or OT_SHUTDOWN is FAILED. An edge of FSYNC_IN is seen and its period kept against the limits of DIV
periods; the loss of it clears what was seen. In any other lane state the command changes nothing. -/
def Obligations.LaneDiscovery : Prop :=
  (∀ s n, n < 8 → s.tlst n = 1 →
    ∃ t, exec (.laneSerialiserReady n) s = .next t ∧ t.tlst n = 2 ∧ s.begin.Only [F.TL_STAT_STATE n] [] t)
  ∧ (∀ s n, n < 8 → s.tlst n = 2 → (s.lane n).assigned = true → s.shaped = true →
    ∃ t, exec (.laneTrainDone n) s = .next t ∧ t.tlst n = 5
      ∧ t.lane n = { s.lane n with everActive := true, viaService := false, rseq := 0, dirty := List.range 256, missRun := 0, noAlive := 0 }
      ∧ (∀ k, k ≠ n → t.lane k = s.lane k) ∧ s.begin.Only [F.TL_STAT_STATE n] [.lanes] t)
  ∧ (∀ s n, n < 8 → s.tlst n = 2 → (s.lane n).assigned = false → s.shaped = true →
    ∃ t, exec (.laneTrainDone n) s = .next t ∧ t.tlst n = 3 ∧ t.lane n = { s.lane n with packet := ctlPacket n .assign }
      ∧ (∀ k, k ≠ n → t.lane k = s.lane k) ∧ s.begin.Only [F.TL_STAT_STATE n] [.lanes] t)
  ∧ (∀ s n, n < 8 → s.tlst n = 3 → (s.lane n).tries < s.g (F.TL_CTRL_TRIES n) → s.shaped = true →
    ∃ t, exec (.assignTimeout n) s = .next t ∧ t.tlst n = 1 ∧ t.lane n = { s.lane n with tries := (s.lane n).tries + 1 }
      ∧ s.begin.Only [F.TL_STAT_STATE n] [.lanes] t)
  ∧ (∀ s n c, n < 8 → c = Instr.assignTimeout n ∧ s.tlst n = 3 ∧ s.g (F.TL_CTRL_TRIES n) ≤ (s.lane n).tries ∨ c = .identTimeout n ∧ s.tlst n = 4 →
    ∃ t, exec c s = .next t ∧ s.laneAt t n 8 ∧ (t.lane n).assigned = false ∧ (t.lane n).queue = []
      ∧ ((s.lane n).everActive = false → t.on (F.TL_EVT_TRN_FAIL n) = true ∧ (s.defLevel S.TL_TRN_FAIL ≠ 0 → t.on (fltPend S.TL_TRN_FAIL) = true))
      ∧ ((s.lane n).everActive = true → t.on (F.TL_EVT_TILE_LOST n) = true ∧ t.on F.TLN_EVT_TILE_LOST = true
          ∧ (s.defLevel S.TL_TILE_LOST ≠ 0 → t.on (fltPend S.TL_TILE_LOST) = true))
      ∧ s.Within (Foot.reaction [] [.cmp]) t)
  ∧ (∀ s n, n < 8 → s.tlst n ≠ 1 → exec (.laneSerialiserReady n) s = .next s.begin)
  ∧ (∀ s n, n < 8 → s.tlst n ≠ 2 → exec (.laneTrainDone n) s = .next s.begin)
  ∧ (∀ s n, n < 8 → s.tlst n ≠ 3 → exec (.assignTimeout n) s = .next s.begin)
  ∧ (∀ s n, n < 8 → s.tlst n ≠ 4 → exec (.identTimeout n) s = .next s.begin)
  ∧ (∀ s, ∃ t, exec .laneScheduledWake s = .next t ∧ (∀ n, n < 8 → t.tlst n = if s.tlst n = 6 then 1 else s.tlst n)
      ∧ (s.shaped = true → ∀ n, n < 8 → s.tlst n = 6 → (t.lane n).viaService = true ∧ (t.lane n).tries = 1)
      ∧ s.begin.Only ((List.range 8).map F.TL_STAT_STATE) [.lanes] t)
  ∧ (∀ s n, n < 8 → 5 ≤ s.tlst n → s.tlst n ≤ 7 →
    ∃ t, exec (.laneDead n) s = .next t ∧ s.laneAt t n 8 ∧ t.on (F.TL_EVT_LANE_DEAD n) = true ∧ (t.lane n).assigned = false
      ∧ (s.quiet 0x50 = false → s.quiet (0x51 + n) = false → s.defLevel S.TL_LANE_DEAD ≠ 0 → t.on (fltPend S.TL_LANE_DEAD) = true)
      ∧ s.Within (Foot.reaction [0x02] [.cmp]) t)
  ∧ (∀ s n, n < 8 → s.tlst n < 5 ∨ 7 < s.tlst n → exec (.laneDead n) s = .next s.begin)
  ∧ (∀ s, s.on (F.UNIT_CTRL_ENABLE 0x50) = true → s.on F.CLK_STAT_ROOT_OK = true →
    (∃ t, exec .fsyncEdge s = .next t ∧ t.on F.TLN_STAT_FS_SEEN = true
      ∧ t.tln = { s.tln with fsEdge := some s.ns, fsSeen := s.tln.fsSeen + 1, fsLost := false }
      ∧ (∀ e, s.tln.fsEdge = some e → t.g F.TLN_FS_PER_T_FS = min (s.ns - e) (2 ^ 32 - 1) ∧ t.on F.TLN_STAT_FS_RANGE = s.fsOutOfRange (s.ns - e)
          ∧ (s.fsOutOfRange (s.ns - e) = true → t.on F.TLN_EVT_FS_RANGE = true))
      ∧ s.begin.Only [F.TLN_STAT_FS_SEEN, F.TLN_STAT_FS_RANGE, F.TLN_FS_PER_T_FS, F.TLN_EVT_FS_RANGE, F.UNIT_IRQ_STAT_EVT 0x50] [.tln] t)
    ∧ ∃ t, exec .fsyncLost s = .next t ∧ t.on F.TLN_STAT_FS_SEEN = false ∧ t.on F.TLN_EVT_FS_LOST = true
      ∧ t.tln = { s.tln with fsLost := true, fsEdge := none, fsSeen := 0 }
      ∧ s.begin.Only [F.TLN_STAT_FS_SEEN, F.TLN_EVT_FS_LOST, F.UNIT_IRQ_STAT_EVT 0x50] [.tln] t)
  ∧ (∀ s, s.on (F.UNIT_CTRL_ENABLE 0x50) = false ∨ s.on F.CLK_STAT_ROOT_OK = false →
    exec .fsyncEdge s = .next s.begin ∧ exec .fsyncLost s = .next s.begin)

/-- Over-temperature shut-down of a tile and its end: TEMP_INVALID_TIMEOUT, COOL_DOWN_COMPLETE. A lane in ACTIVE or SLEEP whose tile has had no valid
temperature for 1.0 s is in OT_SHUTDOWN: SHUT shows, the SHUTDOWN packet is sent and waits for STATUS to confirm it, nothing is left to push, every
cell is dirty, the tile counts as away for the flux loop, and the events and the fault stand. When the cool-down of a tile in OT_SHUTDOWN is complete,
its lane is ACTIVE again, SHUT is off, RESUME is sent, and the fault's condition has ended. In any other state nothing changes. -/
def Obligations.LaneTemperature : Prop :=
  (∀ s n, n < 8 → s.tlst n = 5 ∨ s.tlst n = 6 → s.shaped = true →
    ∃ t, exec (.tempInvalidTimeout n) s = .next t ∧ s.laneAt t n 7 ∧ t.on (F.TL_STAT_SHUT n) = true
      ∧ t.on (F.TL_EVT_OT_SHUT n) = true ∧ t.on F.TLN_EVT_OT_SHUT = true ∧ (t.lane n).packet = ctlPacket n .shutdown
      ∧ (t.lane n).dirty = List.range 256 ∧ (t.lane n).queue = [] ∧ (t.lane n).sending = none
      ∧ (s.defLevel S.TL_OT ≤ 1 → s.cutoffTile n = false → t.tlst n = 7 ∧ (t.lane n).ctl = some .shutdown)
      ∧ (t.flxTile n).away = true ∧ (s.defLevel S.TL_OT ≠ 0 → t.on (fltPend S.TL_OT) = true)
      ∧ s.Within (Foot.reaction [] [.cmp, .flx]) t)
  ∧ (∀ s n, n < 8 → s.tlst n ≠ 5 → s.tlst n ≠ 6 → exec (.tempInvalidTimeout n) s = .next s.begin)
  ∧ (∀ s n, n < 8 → s.tlst n = 7 → (s.lane n).coolSince.isSome = true → s.shaped = true →
    ∃ t, exec (.coolDownComplete n) s = .next t ∧ t.tlst n = 5 ∧ t.on (F.TL_STAT_SHUT n) = false ∧ t.on (F.TL_EVT_OT_CLEAR n) = true
      ∧ t.lane n = { s.lane n with dirty := List.range 256, packet := ctlPacket n .resume, ctl := some .resume, ctlSends := 1, ctlWait := 0,
                                   coolSince := none, rseq := 0, missRun := 0 }
      ∧ (S.TL_OT, n) ∉ t.flt.held
      ∧ s.begin.Only [F.TL_STAT_STATE n, F.TL_STAT_SHUT n, F.TL_EVT_OT_CLEAR n, F.UNIT_IRQ_STAT_EVT (0x51 + n)] [.lanes, .flt] t)
  ∧ (∀ s n, n < 8 → s.tlst n ≠ 7 ∨ (s.lane n).coolSince = none → exec (.coolDownComplete n) s = .next s.begin)

/-- A round of the tile status bus: slots, reports, ALIVE and the bus itself: TSB_ROUND. A round whose own bits read back says that the bus is well and
ends a run of bad rounds; the fourth bad round in a row says that it is not, and raises the fault. In a round in which nothing else is at hand: the
tile of a lane in ASSIGN that shows ALIVE is assigned and is in IDENT, with no part of its identity yet; an assigned tile that has missed seven rounds
and misses an eighth is lost and its lane FAILED; a report that a region failed its check sets the event and counts, and, outside an open frame, the
region's cells are dirty; a report that it passed, or none, changes the lane's own notes alone; the message bit of an ALIVE tile is kept. Where the
bus does not run a round changes nothing. -/
def Obligations.TsbRounds : Prop :=
  (∀ s slots start, s.tsbRuns = true → (∀ n, n < 8 → s.tlst n = 0 ∧ (s.calTile n).hadTemp = false) →
    ∃ t, exec (.tsbRound slots true start) s = .next t ∧ t.on F.TLN_STAT_TSB_OK = true ∧ t.tln.tsbMiss = 0
      ∧ (start = true → t.tln.msgFrame = some (s.g F.CMP_FRAME_FRAME_NO) ∧ ∀ n, (t.lane n).msg = [])
      ∧ (start = false → t.tln = { s.tln with tsbMiss := 0 } ∧ t.lanes = s.lanes)
      ∧ s.begin.Only [F.TLN_STAT_TSB_OK] [.tln, .lanes] t)
  ∧ (∀ s slots, s.tsbRuns = true → s.tln.tsbMiss = 3 → (∀ n, n < 8 → s.tlst n = 0 ∧ (s.calTile n).hadTemp = false) →
    ∃ t, exec (.tsbRound slots false false) s = .next t ∧ t.on F.TLN_STAT_TSB_OK = false ∧ t.on F.TLN_EVT_TSB_ERR = true ∧ t.tln.tsbMiss = 4
      ∧ (s.defLevel S.TSB_ERR ≠ 0 → t.on (fltPend S.TSB_ERR) = true) ∧ s.Within (Foot.reaction [] [.tln]) t)
  ∧ (∀ s n slots, n < 8 → s.alone n = true → s.tsbRuns = true → s.shaped = true → s.tlst n = 3 → slots.getD n 15 % 2 = 0 →
    ∃ t, exec (.tsbRound slots true false) s = .next t ∧ t.tlst n = 4 ∧ t.on (F.TL_STAT_ALIVE n) = true
      ∧ t.lane n = { s.lane n with assigned := true, noAlive := 0, uidLo := none, uidHi := none, cap := none, msg := [] }
      ∧ s.begin.Only [F.TLN_STAT_TSB_OK, F.TL_STAT_ALIVE n, F.TL_STAT_STATE n] [.tln, .lanes] t)
  ∧ (∀ s n slots, n < 8 → s.alone n = true → s.tsbRuns = true → s.shaped = true → s.tlst n ≠ 0 → s.tlst n ≠ 3 → s.tlst n ≠ 8 →
      (s.lane n).assigned = true → (s.lane n).noAlive = 7 → slots.getD n 15 % 2 = 1 →
    ∃ t, exec (.tsbRound slots true false) s = .next t ∧ s.laneAt t n 8 ∧ t.on (F.TL_STAT_ALIVE n) = false
      ∧ t.on (F.TL_EVT_TILE_LOST n) = true ∧ t.on F.TLN_EVT_TILE_LOST = true ∧ (t.lane n).assigned = false
      ∧ (s.quiet 0x50 = false → s.quiet (0x51 + n) = false → s.defLevel S.TL_TILE_LOST ≠ 0 → t.on (fltPend S.TL_TILE_LOST) = true)
      ∧ s.Within (Foot.reaction [0x02] [.tln, .cmp]) t)
  ∧ (∀ s n slots r q, n < 8 → s.alone n = true → s.tsbRuns = true → s.shaped = true → s.tlst n = 5 → (s.lane n).assigned = true →
      slots.getD n 15 % 4 = 2 ∨ slots.getD n 15 % 8 = 4 → (s.lane n).msg.length < 64 → (s.lane n).due = r :: q → s.armed S.TL_CRC = false →
    ∃ t, exec (.tsbRound slots true false) s = .next t ∧ (t.lane n).noAlive = 0 ∧ (t.lane n).msg = (s.lane n).msg ++ [tbit (slots.getD n 15) 3]
      ∧ (t.lane n).due = (if slots.getD n 15 % 4 = 2 then r :: q else q) ∧ (slots.getD n 15 % 8 = 4 → (t.lane n).missRun = 0)
      ∧ s.begin.Only [F.TLN_STAT_TSB_OK, F.TL_STAT_ALIVE n] [.tln, .lanes] t)
  ∧ (∀ s n slots r q, n < 8 → s.alone n = true → s.tsbRuns = true → s.shaped = true → s.tlst n = 5 → (s.lane n).assigned = true →
      slots.getD n 15 % 8 = 0 → (s.lane n).due = r :: q → s.tln.latched = false → s.armed S.TL_CRC = false →
    ∃ t, exec (.tsbRound slots true false) s = .next t ∧ t.on (F.TL_EVT_CRC_FAIL n) = true
      ∧ t.g (F.TL_CNT_ERR_CRC_FAIL n) = min (F.TL_CNT_ERR_CRC_FAIL n).top (s.g (F.TL_CNT_ERR_CRC_FAIL n) + 1)
      ∧ (∀ c, c < r.cells → 16 * r.band + r.cell0 + c ∈ (t.lane n).dirty))
  ∧ (∀ s slots readback start, s.tsbRuns = false → exec (.tsbRound slots readback start) s = .next s.begin)

/-- Messages of the tile status bus: TSB_STATUS, TSB_UID_LO, TSB_UID_HI, TSB_CAP. A message of an assigned tile whose CRC-8 does not hold is discarded,
counted and its event set, whatever it says. A good STATUS gives TEMP, FLAGS and FRAME_LO, makes the temperature valid and notes its time; in ACTIVE,
with lane lock lost, the lane retrains while it has tries left; the second in a row at or above OT_C, or one that reports a shut-down of the tile's
own, shuts the tile down. Each identity message is kept; when the last of the three arrives in IDENT with the CAP that the device asks for, the lane
is ACTIVE and UID, type and version stand in their registers; with another CAP the event is set and the lane FAILED. A message of a tile that holds no
slot changes nothing. -/
def Obligations.TsbMessages : Prop :=
  (∀ s n (w : BitVec 64) c, s.hears n = true → c ∈ [Instr.tsbStatus n w, .tsbUidLo n w, .tsbUidHi n w, .tsbCap n w] → crc8 w ≠ w.toNat % 256 →
    ∃ t, exec c s = .next t ∧ t.on (F.TL_EVT_MSG_CRC n) = true
      ∧ t.g (F.TL_CNT_ERR_MSG_CRC n) = min (F.TL_CNT_ERR_MSG_CRC n).top (s.g (F.TL_CNT_ERR_MSG_CRC n) + 1)
      ∧ (s.defLevel S.TL_MSG_CRC ≠ 0 → t.on (fltPend S.TL_MSG_CRC) = true)
      ∧ (s.defLevel S.TL_MSG_CRC ≤ 1 → t.lanes = s.lanes) ∧ s.Within (Foot.reaction [] []) t)
  ∧ (∀ s n (w : BitVec 64), s.hears n = true → crc8 w = w.toNat % 256 → s.armed S.TL_MSG_CRC = false → mfield w 63 60 = 1 →
    ∃ t, exec (.tsbStatus n w) s = .next t ∧ t.g (F.TL_TEMP_TEMP n) = mfield w 55 40 ∧ t.g (F.TL_TEMP_FLAGS n) = mfield w 39 24
      ∧ t.g (F.TL_FRONT_FRAME_LO n) = mfield w 23 8 ∧ t.on (F.TL_STAT_T_VALID n) = true
      ∧ t.on (F.TL_STAT_LANE_LOCK n) = tbit (mfield w 39 24) 3 ∧ (s.shaped = true → (t.lane n).statusAt = some s.now)
      ∧ (S.TL_TEMP_LOST, n) ∉ t.flt.held)
  ∧ (∀ s n (w : BitVec 64), s.hears n = true → s.shaped = true → crc8 w = w.toNat % 256 → s.armed S.TL_MSG_CRC = false → mfield w 63 60 = 1 →
      s.tlst n = 5 → (s.lane n).ctl = none → tbit (mfield w 39 24) 3 = true → s.defLevel S.TL_FLIP_MISS ≤ 1 ∨ (s.lane n).flipRun = 0 →
      tbit (mfield w 39 24) 1 = true ∨ signed 16 (s.g F.TLN_OT_OT_C) ≤ signed 16 (mfield w 55 40) ∧ 1 ≤ (s.lane n).otRun →
    ∃ t, exec (.tsbStatus n w) s = .next t ∧ s.laneAt t n 7 ∧ t.on (F.TL_EVT_OT_SHUT n) = true ∧ (t.lane n).packet = ctlPacket n .shutdown
      ∧ (s.defLevel S.TL_OT ≠ 0 → t.on (fltPend S.TL_OT) = true))
  ∧ (∀ s n (w : BitVec 64), s.hears n = true → s.shaped = true → crc8 w = w.toNat % 256 → s.armed S.TL_MSG_CRC = false → mfield w 63 60 = 1 →
      s.tlst n = 5 → (s.lane n).ctl = none → tbit (mfield w 39 24) 3 = false → tbit (mfield w 39 24) 1 = false →
      signed 16 (mfield w 55 40) < signed 16 (s.g F.TLN_OT_OT_C) → s.defLevel S.TL_FLIP_MISS ≤ 1 ∨ (s.lane n).flipRun = 0 →
      (s.lane n).sending = none → (s.lane n).retrains < s.g (F.TL_CTRL_TRIES n) →
    ∃ t, exec (.tsbStatus n w) s = .next t ∧ s.laneAt t n 1 ∧ t.on (F.TL_EVT_RETRAIN n) = true ∧ (t.lane n).retrains = (s.lane n).retrains + 1
      ∧ (s.defLevel S.TL_RETRAIN ≠ 0 → t.on (fltPend S.TL_RETRAIN) = true))
  ∧ (∀ s n (w : BitVec 64) lo hi cap, s.hears n = true → s.shaped = true → crc8 w = w.toNat % 256 → s.armed S.TL_MSG_CRC = false → s.tlst n = 4 →
      cap = 512 * 2 ^ 32 + 512 * 2 ^ 16 + 256 → ∀ c,
      c = Instr.tsbUidLo n w ∧ mfield w 63 60 = 2 ∧ lo = (mfield w 55 24, mfield w 23 8) ∧ (s.lane n).uidHi = some hi ∧ (s.lane n).cap = some cap
      ∨ c = .tsbUidHi n w ∧ mfield w 63 60 = 3 ∧ hi = (mfield w 55 24, mfield w 23 8) ∧ (s.lane n).uidLo = some lo ∧ (s.lane n).cap = some cap
      ∨ c = .tsbCap n w ∧ mfield w 63 60 = 4 ∧ mfield w 55 8 = cap ∧ (s.lane n).uidLo = some lo ∧ (s.lane n).uidHi = some hi →
    ∃ t, exec c s = .next t ∧ t.tlst n = 5 ∧ t.g (F.TL_UID_LO_UID n) = lo.1 % 2 ^ 32 ∧ t.g (F.TL_UID_HI_UID n) = hi.1 % 2 ^ 32
      ∧ t.g (F.TL_INFO_TYPE n) = lo.2 % 65536 ∧ t.g (F.TL_INFO_VERSION n) = hi.2 % 65536 ∧ (t.lane n).everActive = true
      ∧ (t.lane n).dirty = List.range 256
      ∧ s.begin.Only [F.TL_UID_LO_UID n, F.TL_UID_HI_UID n, F.TL_INFO_TYPE n, F.TL_INFO_VERSION n, F.TL_STAT_STATE n] [.lanes] t)
  ∧ (∀ s n (w : BitVec 64) lo hi, s.hears n = true → s.shaped = true → crc8 w = w.toNat % 256 → s.armed S.TL_MSG_CRC = false → s.tlst n = 4 →
      mfield w 63 60 = 4 → mfield w 55 8 ≠ 512 * 2 ^ 32 + 512 * 2 ^ 16 + 256 → (s.lane n).uidLo = some lo → (s.lane n).uidHi = some hi →
      (s.lane n).everActive = false →
    ∃ t, exec (.tsbCap n w) s = .next t ∧ t.on (F.TL_EVT_CAP_REJ n) = true ∧ s.laneAt t n 8 ∧ (t.lane n).assigned = false
      ∧ (s.defLevel S.TL_TRN_FAIL ≠ 0 → t.on (fltPend S.TL_TRN_FAIL) = true))
  ∧ (∀ s n (w : BitVec 64) c, s.hears n = false → c ∈ [Instr.tsbStatus n w, .tsbUidLo n w, .tsbUidHi n w, .tsbCap n w] →
    exec c s = .next s.begin)

/-- Segment Bus transactions and responses: SEG_IDENT, SEG_CONFIG, SEG_SET, SEG_POLL, SEG_RESPONSE, SEG_RESPONSE_TIMEOUT. With SEG running and no
transaction under way, a unicast request to a driver that it is for goes out as its frame and waits for the response, its first attempt; the broadcast
CONFIG goes out and waits for none. A request whose characters read back wrong sets its event and is to be repeated, the fourth such in a row raises
the bus fault. Another driver's request changes nothing meanwhile. A good response ends the transaction: IDENT makes the driver present with its
channel count, CONFIG configured, SET gives the shadow its values, POLL the temperature, the flag and each channel's diagnosis. A damaged one, or STAT
1, is counted and set, no response sets its event; the attempt is then repeated while RETRY allows, and else the driver is absent, its channels read
NO_DRIVER and their shadows are unknown. With SEG not running nothing changes. -/
def Obligations.SegmentBus : Prop :=
  (∀ s a cmd data values c, s.segRuns = true → s.seg.txn = none →
      c = Instr.segIdent a ∧ s.segNamed a = true ∧ cmd = 1 ∧ data = [] ∧ values = []
      ∨ c = .segConfig a ∧ a ≠ 0 ∧ s.segNamed a = true ∧ s.segPresent a = true ∧ cmd = 2 ∧ data = s.configData a ∧ values = []
      ∨ c = .segSet a true ∧ s.segPresent a = true ∧ a ∈ s.seg.configured ∧ s.setRow a ≠ [] ∧ cmd = 3 ∧ data = s.setData (s.setRow a)
        ∧ values = (s.setRow a).map (fun k => (k, (s.segChan k).due))
      ∨ c = .segPoll a true ∧ s.segPresent a = true ∧ cmd = 4 ∧ data = [] ∧ values = [] →
    ∃ t, exec c s = .next t ∧ t.seg = { s.seg with txn := some (⟨cmd, a, 1, values⟩ : SegTxn), sent := segFrame a cmd data, aborts := 0 }
      ∧ s.begin.Only [] [.seg] t)
  ∧ (∀ s, s.segRuns = true →
    ∃ t, exec (.segConfig 0) s = .next t
      ∧ t.seg = { s.seg with sent := segFrame 0 2 (s.configData 0), configured := (List.range 64).filter s.segPresent } ∧ s.begin.Only [] [.seg] t)
  ∧ (∀ s a, s.segRuns = true → s.seg.txn = none → s.segPresent a = true → 1 ≤ s.g F.SEG_CTRL_RETRY →
    ∃ t, exec (.segPoll a false) s = .next t ∧ t.on F.SEG_EVT_BUS_ERR = true
      ∧ t.seg = { s.seg with txn := some (⟨4, a, 2, []⟩ : SegTxn), sent := segFrame a 4 [], aborts := (s.seg.aborts + 1) % 4 }
      ∧ (s.seg.aborts = 3 → s.defLevel S.SEG_BUS ≠ 0 → t.on (fltPend S.SEG_BUS) = true)
      ∧ (s.seg.aborts ≠ 3 → s.begin.Only [F.SEG_EVT_BUS_ERR, F.UNIT_IRQ_STAT_EVT 0x60] [.seg] t)
      ∧ s.Within (Foot.reaction [0x60] [.seg]) t)
  ∧ (∀ s a u, s.seg.txn = some u → u.addr ≠ a → a ≠ 0 → ∀ c, c ∈ [Instr.segIdent a, .segConfig a, .segSet a true, .segSet a false, .segPoll a true,
      .segPoll a false] → exec c s = .next s.begin)
  ∧ (∀ s u d bytes body, s.segRuns = true → s.seg.txn = some u → s.armed S.SEG_CRC = false → d.length ≤ 40 → 1 ≤ u.addr → u.addr < 64 →
      body = [b8 (128 + u.addr), 0, b8 d.length] ++ d → bytes = 0x55 :: body ++ beBytes 2 (crc16 body) →
    ∃ t, exec (.segResponse bytes) s = .next t ∧ t.seg.txn = none
      ∧ (u.cmd = 1 → t.segPresent u.addr = true ∧ t.g (F.SEG_DRV_NCH u.addr) = (d.getD 3 0).toNat % 16
          ∧ t.g (F.SEG_DRV_MTX_CAP u.addr) = (d.getD 3 0).toNat / 16 % 2
          ∧ ∀ c, c ∈ s.usedChans → s.g (F.SEG_CH_ADDR c) = u.addr → (d.getD 3 0).toNat % 16 < s.g (F.SEG_CH_DCH c) → t.g (F.SEG_CHS_DIAG c) = 4)
      ∧ (u.cmd = 2 → t.seg = { s.seg with txn := none, configured := u.addr :: s.seg.configured.filter (· ≠ u.addr) } ∧ s.begin.Only [] [.seg] t)
      ∧ (u.cmd = 3 → (u.values.map Prod.fst).Nodup → ∀ e, e ∈ u.values → (t.segChan e.1).shadow = some e.2)
      ∧ (u.cmd = 3 → s.begin.Only [F.SEG_EVT_DRV_BACK, F.UNIT_IRQ_STAT_EVT 0x60] [.seg] t)
      ∧ (u.cmd = 4 → t.g (F.SEG_DRV_TEMP u.addr) = ofBe (slice d 0 2) % 65536 ∧ t.on (F.SEG_DRV_OT u.addr) = tbit (d.getD 2 0).toNat 0
          ∧ (u.addr, s.now) ∈ t.seg.polled ∧ s.Within (Foot.reaction [0x02, 0x60] [.seg]) t
          ∧ (tbit (d.getD 2 0).toNat 0 = true → t.on F.SEG_EVT_DRV_OT = true)
          ∧ ∀ c k, c ∈ s.usedChans → s.g (F.SEG_CH_ADDR c) = u.addr → s.g (F.SEG_CH_DCH c) ≤ s.g (F.SEG_DRV_NCH u.addr) →
              ofBe (slice d 4 4) / 4 ^ s.g (F.SEG_CH_DCH c) % 4 = k →
              (k = 1 → (s.segChan c).shownCmd ≠ 0 → t.g (F.SEG_CHS_DIAG c) = 1)
              ∧ (k = 2 → t.g (F.SEG_CHS_DIAG c) = 2 ∧ t.on F.SEG_EVT_OPEN = true)
              ∧ (k = 3 → t.g (F.SEG_CHS_DIAG c) = 3 ∧ t.on F.SEG_EVT_SHORT = true)))
  ∧ (∀ s u bytes, s.segRuns = true → s.seg.txn = some u → s.armed S.SEG_CRC = false → bytes.getD 0 0 ≠ 0x55 ∨ bytes.getD 2 0 = 1 →
    ∃ t, exec (.segResponse bytes) s = .next t ∧ t.on F.SEG_EVT_CRC = true ∧ t.g F.SEG_CNT_CRC = min F.SEG_CNT_CRC.top (s.g F.SEG_CNT_CRC + 1)
      ∧ (s.defLevel S.SEG_CRC ≠ 0 → t.on (fltPend S.SEG_CRC) = true)
      ∧ (u.attempts ≤ s.g F.SEG_CTRL_RETRY → t.seg = { s.seg with txn := some { u with attempts := u.attempts + 1 } })
      ∧ (s.g F.SEG_CTRL_RETRY < u.attempts → t.seg.txn = none) ∧ s.Within (Foot.reaction [0x02, 0x60] [.seg]) t)
  ∧ (∀ s u, s.segRuns = true → s.seg.txn = some u → u.attempts ≤ s.g F.SEG_CTRL_RETRY →
    ∃ t, exec .segResponseTimeout s = .next t ∧ t.on F.SEG_EVT_NO_RESP = true
      ∧ t.seg = { s.seg with txn := some { u with attempts := u.attempts + 1 } }
      ∧ s.begin.Only [F.SEG_EVT_NO_RESP, F.UNIT_IRQ_STAT_EVT 0x60] [.seg] t)
  ∧ (∀ s u, s.segRuns = true → s.seg.txn = some u → s.g F.SEG_CTRL_RETRY < u.attempts → u.addr < 64 → u.addr ∉ s.seg.lost →
    ∃ t, exec .segResponseTimeout s = .next t ∧ t.on F.SEG_EVT_NO_RESP = true ∧ t.on F.SEG_EVT_DRV_LOST = true ∧ t.seg.txn = none
      ∧ t.segPresent u.addr = false ∧ t.seg.lost = s.seg.lost ++ [u.addr] ∧ u.addr ∉ t.seg.configured
      ∧ (∀ c, c ∈ s.usedChans → s.g (F.SEG_CH_ADDR c) = u.addr → t.g (F.SEG_CHS_DIAG c) = 4 ∧ (t.segChan c).shadow = none)
      ∧ (s.quiet 0x60 = false → s.defLevel S.SEG_DRV_LOST ≠ 0 → t.on (fltPend S.SEG_DRV_LOST) = true)
      ∧ s.Within (Foot.reaction [0x02, 0x60] [.seg]) t)
  ∧ (∀ s a readback bytes, s.segRuns = false → ∀ c, c ∈ [Instr.segIdent a, .segConfig a, .segSet a readback, .segPoll a readback, .segResponse bytes,
      .segResponseTimeout] → exec c s = .next s.begin)

/-- What the drivers show at a flip: SEG_LATCH, SEG_ALL_OFF, SCAN_ROW_SLOT. LATCH carries the number of the frame being lit. Where every driver has its
part of the set due, it says no repeat: every used channel shows what was due, the next set becomes the one due, and the run of late sets ends. Where
one has not, it says repeat: the channels keep what they show, each owes the deviation from what was due, the event and the counters note it and the
fault pends; the incomplete set gives way to the next. A LATCH that reads back wrong shows and promotes nothing. ALL_OFF turns every channel off. A
row slot drives the next row of the scan while the scan has slots left, and none after. Where SEG does not serve, or no frame has opened, nothing is
sent. -/
def Obligations.SegmentFrames : Prop :=
  (∀ s, s.segRuns = true → s.tln.latched = true → s.setComplete = true →
    ∃ t, exec (.segLatch true) s = .next t ∧ t.seg.sent = segFrame 0 5 (beBytes 4 s.frameNo ++ [0]) ∧ t.seg.aborts = 0
      ∧ t.g F.SEG_STAT_LATE_RUN = 0
      ∧ (∀ c, c ∈ s.usedChans →
          t.segChan c = (match (s.segChan c).next with
            | some (d, cmd) => { s.segChan c with shown := (s.segChan c).due, shownCmd := (s.segChan c).cmd, due := d, cmd := cmd, next := none }
            | none => { s.segChan c with shown := (s.segChan c).due, shownCmd := (s.segChan c).cmd })
          ∧ ((s.segChan c).cmd = 0 → t.g (F.SEG_CHS_DIAG c) = if s.segPresent (s.g (F.SEG_CH_ADDR c)) then 0 else 4))
      ∧ s.begin.Only (F.SEG_STAT_LATE_RUN :: (List.range 256).map F.SEG_CHS_DIAG) [.seg] t)
  ∧ (∀ s, s.segRuns = true → s.tln.latched = true → s.setComplete = false →
    ∃ t, exec (.segLatch true) s = .next t ∧ t.seg.sent = segFrame 0 5 (beBytes 4 s.frameNo ++ [1]) ∧ t.on F.SEG_EVT_LATE = true
      ∧ t.g F.SEG_CNT_LATE = min F.SEG_CNT_LATE.top (s.g F.SEG_CNT_LATE + 1)
      ∧ t.g F.SEG_STAT_LATE_RUN = min F.SEG_STAT_LATE_RUN.top (s.g F.SEG_STAT_LATE_RUN + 1)
      ∧ (∀ c, c ∈ s.usedChans → (t.segChan c).shown = (s.segChan c).shown ∧ (t.segChan c).next = none
          ∧ (t.segChan c).due = (((s.segChan c).next.map Prod.fst).getD (s.segChan c).due)
          ∧ t.g (F.SEG_CHS_DEBT c) = unsigned 16 (satDebt (s.debt c + (s.segChan c).shown - (s.segChan c).cmd))
          ∧ ((s.segChan c).cmd ≠ 0 → t.g (F.SEG_CHS_RUN c) = if (s.segChan c).shown < s.d4 c then min 16 (s.g (F.SEG_CHS_RUN c) + 1) else 0))
      ∧ (s.defLevel S.SEG_LATE ≠ 0 → t.on (fltPend S.SEG_LATE) = true) ∧ s.Within (Foot.reaction [0x60] [.seg]) t)
  ∧ (∀ s, s.segRuns = true → s.tln.latched = true →
    ∃ t, exec (.segLatch false) s = .next t ∧ t.on F.SEG_EVT_BUS_ERR = true ∧ t.seg.chans = s.seg.chans ∧ t.seg.aborts = (s.seg.aborts + 1) % 4
      ∧ (s.seg.aborts = 3 → s.defLevel S.SEG_BUS ≠ 0 → t.on (fltPend S.SEG_BUS) = true)
      ∧ (s.seg.aborts ≠ 3 → s.begin.Only [F.SEG_EVT_BUS_ERR, F.UNIT_IRQ_STAT_EVT 0x60] [.seg] t))
  ∧ (∀ s readback, s.segRuns = false ∨ s.tln.latched = false → exec (.segLatch readback) s = .next s.begin)
  ∧ (∀ s, s.on F.CLK_STAT_ROOT_OK = true → s.blockRunning 0x60 = false →
    ∃ t, exec .segAllOff s = .next t ∧ t.seg.sent = segFrame 0 6 [] ∧ (∀ c, (t.segChan c).shown = 0)
      ∧ s.begin.Only [] [.seg] t)
  ∧ (∀ s, s.on F.CLK_STAT_ROOT_OK = false ∨ s.blockRunning 0x60 = true → exec .segAllOff s = .next s.begin)
  ∧ (∀ s, ∃ t, exec .scanRowSlot s = .next t ∧ s.begin.Only [] [.seg] t
      ∧ (s.segRuns = true → s.seg.slot < s.g F.SEG_SCAN_REP * s.g F.SEG_SCAN_ROWS →
          t.seg = { s.seg with high := some (s.seg.slot % s.g F.SEG_SCAN_ROWS), slot := s.seg.slot + 1 })
      ∧ (s.segRuns = false ∨ s.g F.SEG_SCAN_REP * s.g F.SEG_SCAN_ROWS ≤ s.seg.slot → t.seg = { s.seg with high := none }))

/-- Safety inputs: SIN_FILTER_EXPIRY, SIN_HEALTHY_FILTER, SIN_DISCREPANCY_TIMEOUT, TEST_PULSE_START, TEST_PULSE_END. A used HEALTHY input one of whose
channels has stood at its demand level is in DEMAND: the channel reads that level, the demand is counted, its event set and its source pends, and the
device is locked out; a device that was not locked keeps the input as the reason, withdraws the request and drives FIELD_OK low. In any other state
the channel's level alone is taken. Both channels back at their healthy levels make an input in DEMAND HEALTHY, and one in INIT or FAULT once it has
passed its test pulses, one or two. A discrepancy in DEMAND is a FAULT with cause 5 and locks the device out. A test pulse of a TPO in use samples
every used channel, and its end counts a pass for each channel that it feeds or breaks the run. A used input on which it shows a fault is in FAULT
with one of the causes shown, and the device locked out unless the input was in INIT; one already in FAULT loses its passes. -/
def Obligations.SafetyInputs : Prop :=
  (∀ s n b, n < 4 → s.on (F.SAF_SIN_CFG_USED n) = true → s.sinState n = 2 → s.shaped = true →
    ∃ t, exec (.sinFilterExpiry n b) s = .next t ∧ t.sinState n = 3 ∧ (t.chan n (bit b)).high = !s.healthyLevel n (bit b)
      ∧ t.g (F.SAF_SIN_STAT_DEMANDS n) = min (F.SAF_SIN_STAT_DEMANDS n).top (s.g (F.SAF_SIN_STAT_DEMANDS n) + 1)
      ∧ t.on F.SAF_EVT_SIN_DEMAND = true ∧ (s.defLevel S.SAF_SIN_DEMAND ≠ 0 → t.on (fltPend S.SAF_SIN_DEMAND) = true)
      ∧ t.on F.SAF_STAT_LOCKED = true
      ∧ (s.on F.SAF_STAT_LOCKED = false → t.g F.SAF_REASON_REASON = 1 ∧ t.g F.SAF_REASON_DETAIL = n ∧ t.on F.SAF_FIELD_REQ = false
          ∧ t.g F.SAF_LOCK_CNT_LOCK_CNT = (s.g F.SAF_LOCK_CNT_LOCK_CNT + 1) % 2 ^ 32 ∧ (s.g F.SAF_STAT_FSTATE ≠ 0 → t.g F.SAF_STAT_FSTATE = 4))
      ∧ s.Within (Foot.reaction [] []) t)
  ∧ (∀ s n b, n < 4 → s.on (F.SAF_SIN_CFG_USED n) = true → s.sinState n ≠ 2 → s.shaped = true →
    ∃ t, exec (.sinFilterExpiry n b) s = .next t ∧ (t.chan n (bit b)).high = !s.healthyLevel n (bit b) ∧ t.saf.healthyFor.getD n false = false
      ∧ s.begin.Only [F.SAF_SIN_STAT_A n, F.SAF_SIN_STAT_B n] [.saf] t)
  ∧ (∀ s n, n < 4 → s.on (F.SAF_SIN_CFG_USED n) = true → s.shaped = true →
    ∃ t, exec (.sinHealthyFilter n) s = .next t ∧ t.atHealthy n 0 = true ∧ t.atHealthy n 1 = true ∧ t.saf.healthyFor.getD n false = true
      ∧ t.sinState n = (if s.sinState n = 3 ∨ (s.sinState n = 1 ∧ s.testsPassed n 1 = true) ∨ (s.sinState n = 4 ∧ s.testsPassed n 2 = true)
          then 2 else s.sinState n)
      ∧ s.begin.Only [F.SAF_SIN_STAT_A n, F.SAF_SIN_STAT_B n, F.SAF_SIN_STAT_STATE n, F.SAF_STAT_FSTATE] [.saf, .flt] t)
  ∧ (∀ s n b, 4 ≤ n ∨ s.on (F.SAF_SIN_CFG_USED n) = false →
    exec (.sinFilterExpiry n b) s = .next s.begin ∧ exec (.sinHealthyFilter n) s = .next s.begin)
  ∧ (∀ s n, n < 4 → s.sinState n = 3 → s.shaped = true →
    ∃ t, exec (.sinDiscrepancyTimeout n) s = .next t ∧ t.sinState n = 4 ∧ t.g (F.SAF_SIN_STAT_CAUSE n) = 5 ∧ t.on F.SAF_EVT_SIN_FAULT = true
      ∧ (∀ c, c < 2 → (t.chan n c).passed = 0) ∧ t.on F.SAF_STAT_LOCKED = true
      ∧ (s.defLevel S.SAF_SIN_FAULT ≠ 0 → t.on (fltPend S.SAF_SIN_FAULT) = true) ∧ s.Within (Foot.reaction [] []) t)
  ∧ (∀ s n, s.sinState n ≠ 3 → exec (.sinDiscrepancyTimeout n) s = .next s.begin)
  ∧ (∀ s n levels, n < 4 → s.saf.tpo = none → s.tpoUsed n = true → s.shaped = true →
    ∃ t, exec (.testPulseStart n levels) s = .next t ∧ t.saf.tpo = some n
      ∧ (∀ i c, i < 4 → c < 2 → s.on (F.SAF_SIN_CFG_USED i) = true →
          t.chan i c = { s.chan i c with high := levelOf levels i c, wasHigh := levelOf levels i c })
      ∧ s.begin.Only ((List.range 4).flatMap (fun i => [F.SAF_SIN_STAT_A i, F.SAF_SIN_STAT_B i])) [.saf] t)
  ∧ (∀ s n levels, s.saf.tpo ≠ none ∨ s.tpoUsed n = false → exec (.testPulseStart n levels) s = .next s.begin)
  ∧ (∀ s p levels, s.saf.tpo = some p → s.shaped = true →
    ∃ t, exec (.testPulseEnd levels) s = .next t ∧ t.saf.tpo = none ∧ s.Within (Foot.reaction [] [.fresh]) t
      ∧ ∀ n, n < 4 → s.on (F.SAF_SIN_CFG_USED n) = true →
        (s.pulseFaults p n levels = [] → ∀ c, c < 2 → (t.chan n c).passed =
          if s.feed n c = p then if (s.chan n c).wasHigh && !levelOf levels n c then (s.chan n c).passed + 1 else 0 else (s.chan n c).passed)
        ∧ (s.pulseFaults p n levels = [] → s.sinState n = 1 → s.saf.healthyFor.getD n false = true → t.testsPassed n 1 = true → t.sinState n = 2)
        ∧ (s.pulseFaults p n levels = [] → s.sinState n = 4 → s.atHealthy n 0 = true → s.atHealthy n 1 = true → t.testsPassed n 2 = true →
            t.sinState n = 2)
        ∧ (s.pulseFaults p n levels ≠ [] → s.sinState n ≠ 4 → t.sinState n = 4 ∧ t.on F.SAF_EVT_SIN_FAULT = true
            ∧ (∃ cause, cause ∈ s.pulseFaults p n levels ∧ t.g (F.SAF_SIN_STAT_CAUSE n) = cause ∧ (3 ≤ cause → p < 4 → t.g (F.SAF_SIN_STAT_XSRC n) = p))
            ∧ (s.defLevel S.SAF_SIN_FAULT ≠ 0 → t.on (fltPend S.SAF_SIN_FAULT) = true)
            ∧ (s.sinState n ≠ 1 → t.on F.SAF_STAT_LOCKED = true))
        ∧ (s.pulseFaults p n levels ≠ [] → ∀ c, c < 2 → (t.chan n c).passed = 0))
  ∧ (∀ s levels, s.saf.tpo = none → exec (.testPulseEnd levels) s = .next s.begin)

/-- Safety outputs: OFF_PULSE_START, OFF_PULSE_END, SOUT_READBACK_FAULT, SOUT_FAULT_CLEAR, TILE_POWER_UP. An output that is high starts an off-pulse; one
that reads back low at its end counts the pulse, one that reads back high is in FAULT with cause 3. A read-back that disagrees outside a pulse puts a
used output in FAULT, cause 1 where it is driven high, 2 where low. An output in FAULT is low, its tiles have lost power, its event and source stand,
and the device is locked out. A FAULT clears to OFF; an output that is used, commanded on and permitted by FIELD_OK's state is ON and high at once.
When the read-back has been high for PWR_MS the output's tiles have power: their lanes that are enabled, off, and held by no other output are in WAKE.
Otherwise the commands change nothing. -/
def Obligations.SafetyOutputs : Prop :=
  (∀ s k, k < 2 → (s.saf.souts.getD k Sout.init).high = true → (s.saf.souts.getD k Sout.init).pulse = false → s.shaped = true →
    ∃ t, exec (.offPulseStart k) s = .next t ∧ t.saf = { s.begin.saf with souts := s.saf.souts.set k { s.saf.souts.getD k Sout.init with pulse := true } }
      ∧ s.begin.Only [] [.saf] t)
  ∧ (∀ s k, (s.saf.souts.getD k Sout.init).high = false ∨ (s.saf.souts.getD k Sout.init).pulse = true → exec (.offPulseStart k) s = .next s.begin)
  ∧ (∀ s k, k < 2 → (s.saf.souts.getD k Sout.init).pulse = true → s.shaped = true →
    ∃ t, exec (.offPulseEnd k false) s = .next t ∧ (t.saf.souts.getD k Sout.init) = { s.saf.souts.getD k Sout.init with pulse := false }
      ∧ t.g (F.SAF_SOUT_STAT_PULSES k) = (s.g (F.SAF_SOUT_STAT_PULSES k) + 1) % 2 ^ 16 ∧ t.on (F.SAF_SOUT_STAT_RB k) = false
      ∧ s.begin.Only [F.SAF_SOUT_STAT_PULSES k, F.SAF_SOUT_STAT_RB k] [.saf] t)
  ∧ (∀ s k rb c cause, k < 2 → s.shaped = true →
      c = Instr.offPulseEnd k true ∧ rb = true ∧ cause = 3 ∧ (s.saf.souts.getD k Sout.init).pulse = true
      ∨ c = .soutReadbackFault k rb ∧ s.on (F.SAF_SOUT_CFG_USED k) = true ∧ 1 ≤ s.g (F.SAF_SOUT_STAT_STATE k) ∧ s.g (F.SAF_SOUT_STAT_STATE k) ≤ 2
        ∧ (s.saf.souts.getD k Sout.init).pulse = false ∧ (s.saf.souts.getD k Sout.init).high = !rb ∧ cause = (if rb then 2 else 1) →
    ∃ t, exec c s = .next t ∧ t.g (F.SAF_SOUT_STAT_STATE k) = 3 ∧ t.g (F.SAF_SOUT_STAT_CAUSE k) = cause ∧ t.on (F.SAF_SOUT_STAT_RB k) = rb
      ∧ t.saf.souts.getD k Sout.init = Sout.init ∧ (∀ n, n < 8 → tbit (s.soutTiles k) n = true → t.tlst n = 0 ∧ (t.lane n).assigned = false)
      ∧ t.on F.SAF_EVT_SOUT_FAULT = true ∧ (s.defLevel S.SAF_SOUT_FAULT ≠ 0 → t.on (fltPend S.SAF_SOUT_FAULT) = true)
      ∧ t.on F.SAF_STAT_LOCKED = true
      ∧ (s.on F.SAF_STAT_LOCKED = false → t.g F.SAF_REASON_REASON = 3 ∧ t.g F.SAF_REASON_DETAIL = k ∧ (s.g F.SAF_STAT_FSTATE ≠ 0 → t.g F.SAF_STAT_FSTATE = 4))
      ∧ s.Within (Foot.reaction [] []) t)
  ∧ (∀ s k rb, (s.saf.souts.getD k Sout.init).pulse = false → exec (.offPulseEnd k rb) s = .next s.begin)
  ∧ (∀ s k rb, k < 2 → s.on (F.SAF_SOUT_CFG_USED k) = false ∨ s.g (F.SAF_SOUT_STAT_STATE k) = 3 ∨ (s.saf.souts.getD k Sout.init).high = rb →
    exec (.soutReadbackFault k rb) s = .next s.begin)
  ∧ (∀ s k, k < 2 → s.g (F.SAF_SOUT_STAT_STATE k) = 3 → (s.saf.souts.getD k Sout.init).high = false → s.shaped = true →
      let may := s.on (F.SAF_SOUT_CFG_USED k) && tbit (s.g F.SAF_SOUT_CTRL_ON) k && decide (1 ≤ s.g F.SAF_STAT_FSTATE) && decide (s.g F.SAF_STAT_FSTATE ≤ 3) && !s.saf.padGate
    ∃ t, exec (.soutFaultClear k) s = .next t ∧ t.g (F.SAF_SOUT_STAT_STATE k) = (if may then 2 else 1) ∧ (t.saf.souts.getD k Sout.init).high = may
      ∧ t.on (F.SAF_SOUT_STAT_RB k) = false ∧ (S.SAF_SOUT_FAULT, k) ∉ t.flt.held
      ∧ s.begin.Only [F.SAF_SOUT_STAT_STATE k, F.SAF_SOUT_STAT_RB k, F.SAF_STAT_FSTATE] [.saf, .flt] t)
  ∧ (∀ s k, k < 2 → s.g (F.SAF_SOUT_STAT_STATE k) ≠ 3 → exec (.soutFaultClear k) s = .next s.begin)
  ∧ (∀ s k, k < 2 → (s.saf.souts.getD k Sout.init).high = true → (s.saf.souts.getD k Sout.init).powered = false → s.shaped = true →
    ∃ t, exec (.tilePowerUp k) s = .next t ∧ t.on (F.SAF_SOUT_STAT_RB k) = true
      ∧ t.saf = { s.begin.saf with souts := s.saf.souts.set k { s.saf.souts.getD k Sout.init with powered := true } }
      ∧ (∀ n, n < 8 → tbit (s.soutTiles k) n = true → s.tlst n = 0 → s.on (F.UNIT_CTRL_ENABLE (0x51 + n)) = true →
          s.on (F.UNIT_CTRL_ENABLE 0x50) = true → s.on F.CLK_STAT_ROOT_OK = true → t.laneHeld n = false → t.tlst n = 1 ∧ (t.lane n).tries = 1)
      ∧ (∀ n, n < 8 → tbit (s.soutTiles k) n = false → t.tlst n = s.tlst n)
      ∧ s.begin.Only (F.SAF_SOUT_STAT_RB k :: (List.range 8).map F.TL_STAT_STATE) [.saf, .lanes] t)
  ∧ (∀ s k, (s.saf.souts.getD k Sout.init).high = false ∨ (s.saf.souts.getD k Sout.init).powered = true → exec (.tilePowerUp k) s = .next s.begin)

/-- Flint, lock-out and unlock: FLINT_EVALUATION, SAF_REACT, SAF_UNLOCK, FLINT_WDT_KICK, LOCKSTEP_MISMATCH, FOK_READBACK_MISMATCH. A running Flint's
evaluation sets the request for the field to its conditions and the release to all terms; FIELD_OK arms where all hold and nothing safety-related is
in block reset, and falls where one does not. A reaction asked for with code 8 to 13 locks an unlocked device out with that reason, drops FIELD_OK and
both outputs, and on a locked one is noted as the last; another code does nothing. An unlock is accepted where no condition refuses it: lock-out ends,
the request is spent and counted, FIELD_OK may arm and the used outputs go on; else it is refused with the first condition that holds, and spent. The
first kick arms the watchdog, later ones note their time, and one within 25 µs of the last is an expiry: a warm reset. A lockstep mismatch halts Flint
and locks out. A read-back mismatch of FIELD_OK raises its fault. -/
def Obligations.FlintAndLockOut : Prop :=
  (∀ s, s.saf.halted = false → s.rst.scope = none →
    ∃ t, exec .flintEvaluation s = .next t ∧ t.on F.SAF_FIELD_REQ = s.flintTerms ∧ t.on F.GOV_MODE_RELEASE = (s.hwTerms && s.flintTerms)
      ∧ (s.g F.SAF_STAT_FSTATE = 1 → s.hwTerms = true → s.flintTerms = true → s.safetyBlock = false → t.g F.SAF_STAT_FSTATE = 2)
      ∧ ((s.g F.SAF_STAT_FSTATE = 2 ∨ s.g F.SAF_STAT_FSTATE = 3) → (s.hwTerms && s.flintTerms) = false → t.g F.SAF_STAT_FSTATE = 1)
      ∧ s.begin.Only [F.SAF_FIELD_REQ, F.GOV_MODE_RELEASE, F.SAF_STAT_FSTATE] [] t)
  ∧ (∀ s, s.saf.halted = true ∨ s.rst.scope ≠ none → exec .flintEvaluation s = .next s.begin)
  ∧ (∀ s m v, s.masterRuns m = true → s.mayWrite m 0x68 0x50 = true → wordField v 0 0 = 1 → 8 ≤ wordField v 15 8 → wordField v 15 8 ≤ 13 →
    (s.on F.SAF_STAT_LOCKED = false → ∃ t, exec (.safReact m v) s = .next t ∧ t.on F.SAF_STAT_LOCKED = true
      ∧ t.g F.SAF_REASON_REASON = wordField v 15 8 ∧ t.g F.SAF_REASON_DETAIL = wordField v 23 16 ∧ t.g F.SAF_REASON_LAST = wordField v 15 8
      ∧ t.g F.SAF_LOCK_CNT_LOCK_CNT = (s.g F.SAF_LOCK_CNT_LOCK_CNT + 1) % 2 ^ 32 ∧ t.on F.SAF_EVT_REACT = true ∧ t.on F.SAF_EVT_LOCK = true
      ∧ t.on F.SAF_FIELD_REQ = false ∧ t.on F.GOV_MODE_RELEASE = false
      ∧ (s.g F.SAF_STAT_FSTATE ≠ 0 → t.g F.SAF_STAT_FSTATE = 4 ∧ t.g F.SAF_SOUT_CTRL_ON = 0 ∧ ∀ k, k < 2 → t.saf.souts.getD k Sout.init = Sout.init)
      ∧ s.Within (Foot.reaction [] []) t)
    ∧ (s.on F.SAF_STAT_LOCKED = true → ∃ t, exec (.safReact m v) s = .next t ∧ t.g F.SAF_REASON_LAST = wordField v 15 8
      ∧ t.g F.SAF_REASON_REASON = s.g F.SAF_REASON_REASON ∧ t.g F.SAF_LOCK_CNT_LOCK_CNT = s.g F.SAF_LOCK_CNT_LOCK_CNT
      ∧ t.g F.SAF_CNT_REACTIONS = min F.SAF_CNT_REACTIONS.top (s.g F.SAF_CNT_REACTIONS + 1)
      ∧ s.Within (Foot.of [0x68, 0x70, 0x71] [.flt, .evr, .saf]) t))
  ∧ (∀ s m v, s.masterRuns m = true → s.mayWrite m 0x68 0x50 = true → wordField v 0 0 = 0 ∨ wordField v 15 8 < 8 ∨ 13 < wordField v 15 8 →
    exec (.safReact m v) s = .next s.begin.settle)
  ∧ (∀ s m v, s.masterRuns m = true → s.mayWrite m 0x68 0x54 = true → wordField v 0 0 = 1 → s.unlockRej = 0 → s.shaped = true →
    ∃ t, exec (.safUnlock m v) s = .next t ∧ t.on F.SAF_STAT_LOCKED = false ∧ t.on F.SAF_EVT_UNLOCK = true ∧ t.csf = { s.csf with unlock := none }
      ∧ t.g F.SAF_CNT_UNLOCKS = min F.SAF_CNT_UNLOCKS.top (s.g F.SAF_CNT_UNLOCKS + 1) ∧ t.g F.SAF_SOUT_CTRL_ON = s.usedOuts
      ∧ (s.g F.SAF_STAT_FSTATE = 4 → (t.g F.SAF_STAT_FSTATE = 1 ∨ t.g F.SAF_STAT_FSTATE = 2)
          ∧ ∀ k, k < 2 → s.on (F.SAF_SOUT_CFG_USED k) = true → s.saf.padGate = false →
            t.g (F.SAF_SOUT_STAT_STATE k) = 2 ∧ (t.saf.souts.getD k Sout.init).high = true)
      ∧ s.Within (Foot.of [0x50, 0x68, 0x70, 0x71] [.flt, .evr, .saf, .csf, .lanes]) t)
  ∧ (∀ s m v, s.masterRuns m = true → s.mayWrite m 0x68 0x54 = true → wordField v 0 0 = 1 → s.unlockRej ≠ 0 →
    ∃ t, exec (.safUnlock m v) s = .next t ∧ t.g F.SAF_UNLOCK_REJ = s.unlockRej ∧ t.on F.SAF_EVT_UNLOCK_REJ = true
      ∧ t.on F.SAF_STAT_LOCKED = s.on F.SAF_STAT_LOCKED ∧ t.csf = { s.csf with unlock := none }
      ∧ s.Within (Foot.of [0x68, 0x70, 0x71] [.flt, .evr, .saf, .csf]) t)
  ∧ (∀ s m v, s.masterRuns m = true → s.mayWrite m 0x68 0x58 = true → wordField v 7 0 = 0xC3 →
    (s.saf.lastKick = none → ∃ t, exec (.flintWdtKick m v) s = .next t ∧ t.on F.SAF_WDT_ARMED = true ∧ t.saf.lastKick = some s.now
      ∧ s.begin.Only [F.SAF_WDT_ARMED, F.SAF_STAT_FSTATE] [.saf] t)
    ∧ (∀ k, s.saf.lastKick = some k → us 25 ≤ s.now - k → ∃ t, exec (.flintWdtKick m v) s = .next t ∧ t.saf.lastKick = some s.now
      ∧ s.begin.Only [F.SAF_STAT_FSTATE] [.saf] t)
    ∧ (∀ k, s.saf.lastKick = some k → s.now - k < us 25 → ∃ t, exec (.flintWdtKick m v) s = .next t ∧ t.rst.scope = some .warm
      ∧ t.on F.RST_CAUSE_WDT_FLINT = true ∧ t.mem = s.mem))
  ∧ (∀ s m v, s.masterRuns m = true → s.mayWrite m 0x68 0x58 = true → wordField v 7 0 ≠ 0xC3 → exec (.flintWdtKick m v) s = .next s.begin.settle)
  ∧ (∀ s, s.saf.halted = false →
    ∃ t, exec .lockstepMismatch s = .next t ∧ t.saf.halted = true ∧ t.saf.lockstep = true ∧ t.on F.SAF_EVT_LOCKSTEP = true
      ∧ t.on F.SAF_STAT_LOCKED = true ∧ (s.defLevel S.SAF_LOCKSTEP ≠ 0 → t.on (fltPend S.SAF_LOCKSTEP) = true)
      ∧ s.Within (Foot.reaction [] []) t)
  ∧ (∀ s, s.saf.halted = true → exec .lockstepMismatch s = .next s.begin)
  ∧ (∀ s, s.g F.SAF_STAT_FSTATE ≠ 0 →
    ∃ t, exec .fokReadbackMismatch s = .next t ∧ t.on F.SAF_EVT_FOK_RB = true ∧ (s.defLevel S.SAF_FOK_RB ≠ 0 → t.on (fltPend S.SAF_FOK_RB) = true)
      ∧ s.Within (Foot.reaction [] []) t)
  ∧ (∀ s, s.g F.SAF_STAT_FSTATE = 0 → exec .fokReadbackMismatch s = .next s.begin)

/-- Acknowledging, clearing and injecting faults: FAULT_ACK, FAULT_CLEAR, INJECT_ARM, INJECT_CANCEL. A master that may write FLT and runs acknowledges
exactly the sources whose bits it writes as 1, and changes nothing else. By a write to FLT_PEND each named pending source is cleared with its
acknowledge bit and its level, one whose condition is held stays and sets CLR_REJ, and a source not named stays as it was; the clearing of a source of
level 2 or 3 queues its record. An injection that no condition refuses arms the checker of its source; a refused one gives the first condition that
holds and its event. A write without ARM ends what is armed. -/
def Obligations.FaultRegisters : Prop :=
  (∀ s m r v, s.masterRuns m = true → s.mayWrite m 0x70 (0x54 + 4 * (r % 3)) = true →
    ∃ t, exec (.faultAck m r v) s = .next t ∧ (∀ i, i ∈ namedSources (r % 3) v → t.on (fltUnack i) = false)
      ∧ s.begin.Only ((namedSources (r % 3) v).map fltUnack) [] t)
  ∧ (∀ s m r v, s.masterRuns m = true → s.mayWrite m 0x70 (0x48 + 4 * (r % 3)) = true →
    ∃ t, exec (.faultClear m r v) s = .next t
      ∧ (∀ i, i ∈ namedSources (r % 3) v → s.on (fltPend i) = true → s.flt.held.any (fun e => e.1 = i) = false →
          t.on (fltPend i) = false ∧ t.on (fltUnack i) = false ∧ t.g (fltLvl i) = 0)
      ∧ (∀ i, i ∈ namedSources (r % 3) v → s.on (fltPend i) = true → s.flt.held.any (fun e => e.1 = i) = true →
          t.on (fltPend i) = true ∧ t.g (fltLvl i) = s.g (fltLvl i) ∧ t.on F.FLT_EVT_CLR_REJ = true)
      ∧ (∀ i, i < 75 → i ∉ namedSources (r % 3) v → t.g (fltPend i) = s.g (fltPend i) ∧ t.g (fltUnack i) = s.g (fltUnack i) ∧ t.g (fltLvl i) = s.g (fltLvl i))
      ∧ t.flt.held = s.flt.held ∧ s.Within (Foot.of [0x70, 0x71] [.flt, .evr, .saf]) t)
  ∧ (∀ s m r v i, s.masterRuns m = true → s.mayWrite m 0x70 (0x48 + 4 * (r % 3)) = true → namedSources (r % 3) v = [i] →
      s.on (fltPend i) = true → s.flt.held.any (fun e => e.1 = i) = false → s.evr.queue.length < 56 →
    ∃ t, exec (.faultClear m r v) s = .next t ∧ t.evr.queue = s.evr.queue ++ (if 2 ≤ s.g (fltLvl i)
      then [(⟨0x7080, 0, 0, 1, data6 (leBytes 2 (srcCode i) ++ [b8 (s.g (fltLvl i))])⟩ : EvRec)] else []))
  ∧ (∀ s m v, s.masterRuns m = true → s.mayWrite m 0x70 0x90 = true → wordField v 8 8 = 1 → s.injectRej m (wordField v 6 0) = 0 →
    ∃ t, exec (.injectArm m v) s = .next t ∧ t.g F.FLT_INJ_INDEX = wordField v 6 0 ∧ t.on F.FLT_INJ_ARM = true ∧ t.g F.FLT_INJ_STATE = 1
      ∧ t.g F.FLT_INJ_REJ = 0 ∧ s.begin.Only [F.FLT_INJ_INDEX, F.FLT_INJ_ARM, F.FLT_INJ_STATE, F.FLT_INJ_REJ] [] t)
  ∧ (∀ s m v, s.masterRuns m = true → s.mayWrite m 0x70 0x90 = true → wordField v 8 8 = 1 → s.injectRej m (wordField v 6 0) ≠ 0 →
    ∃ t, exec (.injectArm m v) s = .next t ∧ t.g F.FLT_INJ_REJ = s.injectRej m (wordField v 6 0) ∧ t.on F.FLT_EVT_INJ_REJ = true
      ∧ s.begin.Only [F.FLT_INJ_REJ, F.FLT_EVT_INJ_REJ, F.UNIT_IRQ_STAT_EVT 0x70] [] t)
  ∧ (∀ s m v, s.masterRuns m = true → s.mayWrite m 0x70 0x90 = true → wordField v 8 8 = 0 →
    ∃ t, exec (.injectCancel m v) s = .next t ∧ t.on F.FLT_INJ_ARM = false
      ∧ t.g F.FLT_INJ_STATE = (if s.g F.FLT_INJ_STATE = 1 then 0 else s.g F.FLT_INJ_STATE) ∧ t.g F.FLT_INJ_INDEX = wordField v 6 0
      ∧ s.begin.Only [F.FLT_INJ_INDEX, F.FLT_INJ_ARM, F.FLT_INJ_STATE] [] t)

/-- The event recorder: TRACKER_CLOSE, RECORD_WRITE, MIRROR_PAGE_WRITE, CHECKPOINT, CHECKPOINT_FLASH, ATTEST_COMMIT, RECORD_READ. The tracker that opened
first closes: without repeats it is dropped, with repeats it queues one record that counts them. While the recorder runs, the oldest queued record is
written with the next SEQ into its ring slot, 32 bytes and no other, and waits for the mirror; with no link to serve and no drops to report that is
all. An ACTIVE link that carries its level gets it as an EVENT. The mirror takes up to eight records while flash may be written, or the write is
deferred, or its failure is reported. Checkpoints take the time base. A commit that names the present gap attests it once, adds to the sum and is
recorded; in no gap it is rejected. A read gives the eight words of a record that the ring holds, or says that it does not. -/
def Obligations.EventRecorder : Prop :=
  (∀ s (k : Tracker) q, s.evr.trackers = k :: q →
    ∃ t, exec .trackerClose s = .next t ∧ t.evr.trackers = s.evr.trackers.filter (fun u => !(u.first.sameKey k.first))
      ∧ (k.repeats = 0 → t.evr.queue = s.evr.queue ∧ s.begin.Only [] [.evr] t)
      ∧ (k.repeats ≠ 0 → s.evr.queue.length < 56 → t.evr.queue = s.evr.queue ++ [{ k.last with flags := k.last.flags ||| 0x20, count := min 65535 k.repeats }]
          ∧ s.begin.Only [] [.evr] t)
      ∧ s.Within (Foot.of [0x70, 0x71] [.flt, .evr, .saf]) t)
  ∧ (∀ s, s.evr.trackers = [] → exec .trackerClose s = .next s.begin)
  ∧ (∀ s (r : EvRec) rest, s.evr.queue = r :: rest → s.recorderRuns = true → r.data.length = 6 →
      let seq := nextSeq (s.g F.EVR_HEAD_SEQ)
      let att := s.evr.attested && r.code ≠ 0x7180 && !(r :: rest).any (fun q => q.code = 0x7181)
      let b := s.recBytes seq (r.flags ||| (2 * bit att) ||| (128 * bit s.evr.loss)) r
    ∃ t, exec .recordWrite s = .next t ∧ t.g F.EVR_HEAD_SEQ = seq % 2 ^ 32 ∧ seq ∈ t.evr.waiting
      ∧ (∀ i, i < 32 → t.byte (ringAddr seq + i) = b.getD i 0)
      ∧ (∀ a, a < ringAddr seq ∨ ringAddr seq + 32 ≤ a → t.byte a = s.byte a)
      ∧ (r.code = 0x7180 → t.evr.gap = some seq ∧ t.evr.attested = false)
      ∧ (∀ l, l < 2 → s.active l = true → s.on (F.LNK_CTRL_EVT_EN l) = true → s.g F.EVR_CTRL_BC_MIN ≤ r.eff → (s.link l).event.length < 64 →
          (t.link l).event = (s.link l).event ++ [eventBytes b])
      ∧ ((∀ l, l < 2 → s.active l = false ∧ s.g (F.LNK_BC_DROP_DROP l) ≤ s.evr.bcSeen.getD l 0) →
          t.evr.queue = rest ∧ t.evr.loss = false ∧ t.lnkA = s.lnkA ∧ t.lnkB = s.lnkB)
      ∧ s.Within (Foot.of [0x08, 0x09, 0x70, 0x71] [.mem, .evr, .lnkA, .lnkB, .flt, .saf]) t)
  ∧ (∀ s, s.evr.queue = [] ∨ s.recorderRuns = false → exec .recordWrite s = .next s.begin)
  ∧ (∀ s ok, s.on F.EVR_CTRL_MIRROR_EN = true → s.evr.waiting ≠ [] → s.recorderRuns = true →
    (s.on F.THM_STAT_FLASH_OK = true → ∃ t, exec (.mirrorPageWrite true) s = .next t
      ∧ t.evr = { s.evr with waiting := s.evr.waiting.drop 8 }
      ∧ (∀ q, s.evr.waiting = [q] → t.g F.EVR_MIRROR_SEQ = q % 2 ^ 32 ∧ ∀ i, i < 32 → t.byte (mirrorAddr q + i) = s.byte (ringAddr q + i))
      ∧ (∀ a, a < 0x60100000 ∨ 0x60200000 ≤ a → t.byte a = s.byte a) ∧ s.begin.Only [F.EVR_MIRROR_SEQ] [.mem, .evr] t)
    ∧ (s.on F.THM_STAT_FLASH_OK = true → ∃ t, exec (.mirrorPageWrite false) s = .next t ∧ t.on F.EVR_EVT_MIRROR_FAIL = true
      ∧ t.on F.FLT_ALARM_MIRROR_FAIL = true ∧ t.evr.waiting = s.evr.waiting
      ∧ (s.defLevel S.EVR_MIRROR_FAIL ≠ 0 → t.on (fltPend S.EVR_MIRROR_FAIL) = true) ∧ s.Within (Foot.reaction [] []) t)
    ∧ (s.on F.THM_STAT_FLASH_OK = false → ∃ t, exec (.mirrorPageWrite ok) s = .next t ∧ t.thm.deferred.contains .mirror = true
      ∧ s.begin.Only [] [.thm] t))
  ∧ (∀ s ok, s.on F.EVR_CTRL_MIRROR_EN = false ∨ s.evr.waiting = [] ∨ s.recorderRuns = false → exec (.mirrorPageWrite ok) s = .next s.begin)
  ∧ (∀ s, s.recorderRuns = true →
    (∃ t, exec .checkpoint s = .next t ∧ t.evr = { s.evr with ckRet := some s.checkpointNow } ∧ s.begin.Only [] [.evr] t)
    ∧ (s.on F.THM_STAT_FLASH_OK = true →
      ∃ t, exec .checkpointFlash s = .next t ∧ t.evr = { s.evr with ckFlash := some s.checkpointNow } ∧ s.begin.Only [] [.evr] t)
    ∧ (s.on F.THM_STAT_FLASH_OK = false →
      ∃ t, exec .checkpointFlash s = .next t ∧ t.thm.deferred.contains .checkpoint = true ∧ s.begin.Only [] [.thm] t))
  ∧ (∀ s, s.recorderRuns = false → exec .checkpoint s = .next s.begin ∧ exec .checkpointFlash s = .next s.begin)
  ∧ (∀ s m, s.masterRuns m = true → s.mayWrite m 0x71 0x30 = true → s.blockRunning 0x71 = false → s.regsWf = true → s.evr.attested = false →
      s.attestOk (s.candidate [0x71]) = true →
      let ms := (s.candidate [0x71]).attestMs
      let sum := (s.g F.EVR_ATT_SUM_LO_SUM + 2 ^ 32 * s.g F.EVR_ATT_SUM_HI_SUM + ms) % 2 ^ 48
    ∃ t, exec (.attestCommit m) s = .next t ∧ t.evr.attested = true ∧ t.on F.EVR_EVT_ATTEST = true
      ∧ t.g F.EVR_ATT_SUM_LO_SUM = sum % 2 ^ 32 ∧ t.g F.EVR_ATT_SUM_HI_SUM = sum / 2 ^ 32
      ∧ (s.evr.queue.length < 56 → t.evr.queue = s.evr.queue ++ [(⟨0x7181, 0, 0, 1, data6 (leBytes 6 ms)⟩ : EvRec)]))
  ∧ (∀ s m, s.masterRuns m = true → s.mayWrite m 0x71 0x30 = true → s.blockRunning 0x71 = false → s.evr.gap = none →
    ∃ t, exec (.attestCommit m) s = .next t ∧ t.on F.EVR_EVT_ATT_REJ = true ∧ t.on (F.UNIT_STATUS_COMMIT_ERR 0x71) = true ∧ t.evr = s.evr
      ∧ s.begin.Only [F.EVR_EVT_ATT_REJ, F.UNIT_IRQ_STAT_EVT 0x71, F.UNIT_STATUS_COMMIT_ERR 0x71, F.UNIT_IRQ_STAT_COMMIT 0x71] [] t)
  ∧ (∀ s m (v : Word), s.masterRuns m = true → s.mayWrite m 0x71 0x6C = true →
      let a := ringAddr v.toNat
    ∃ t, exec (.recordRead m v) s = .next t ∧ t.g F.EVR_RD_SEQ_SEQ = v.toNat
      ∧ (v.toNat ≠ 0 → s.le a 4 = v.toNat → s.le (a + 28) 4 = v.toNat →
          t.g F.EVR_RD_STAT_RESULT = 1 ∧ ∀ k, k < 8 → t.g (F.EVR_RD_WORD k) = s.le (a + 4 * k) 4)
      ∧ (v.toNat = 0 ∨ s.le a 4 ≠ v.toNat ∨ s.le (a + 28) 4 ≠ v.toNat →
          t.g F.EVR_RD_STAT_RESULT = if v.toNat < s.le a 4 ∨ s.le a 4 = 0 then 2 else 3)
      ∧ s.begin.Only (F.EVR_RD_SEQ_SEQ :: F.EVR_RD_STAT_RESULT :: (List.range 8).map F.EVR_RD_WORD) [] t)

/-- The housekeeping round: HOUSEKEEPING_ROUND_START, HOUSEKEEPING_ROUND_END, ROUND_TIMEOUT. A round starts where housekeeping runs and none is under way.
At the end of one that took no more than 2 × ROUND_MS and whose reference code lies in 1,966 to 2,130, the codes stand in their registers and each
sensor's temperature is that of its two trim points, valid in its range; the hottest and coldest valid ones stand as maximum and minimum and decide
the windows for flash and fuses. The warning and the stop begin and end at their limits, hysteresis and rate, and give the level; a stop that begins
disables CMP, GLR and TLN and pends its fault, and locks the device out while Flint runs. Any other round, and one that times out, is discarded: its
event stands, the history is gone and its fault pends. Without a round nothing changes. -/
def Obligations.Housekeeping : Prop :=
  (∀ s, s.roundRuns = true → s.thm.round = none →
    ∃ t, exec .housekeepingRoundStart s = .next t ∧ t.thm = { s.thm with round := some s.now } ∧ s.begin.Only [] [.thm] t)
  ∧ (∀ s, s.roundRuns = false ∨ s.thm.round ≠ none → exec .housekeepingRoundStart s = .next s.begin)
  ∧ (∀ s (codes : List Nat) at_ die cold, s.thm.round = some at_ → s.now - at_ ≤ ms (2 * s.g F.THM_CTRL_ROUND_MS) →
      1966 ≤ codes.getD 4 0 % 4096 → codes.getD 4 0 % 4096 ≤ 2130 → (∀ n, n < 4 → s.thsTrim n 3 ≠ s.thsTrim n 1) →
      let code := fun n => codes.getD n 0 % 4096
      let T := fun n => s.thsTrim n 0 + Int.fdiv (((code n : Nat) - s.thsTrim n 1) * (s.thsTrim n 2 - s.thsTrim n 0)) (s.thsTrim n 3 - s.thsTrim n 1)
      let good := (List.range 4).filter (fun n => readingOk (code n) (T n))
      die ∈ good.map T → (∀ n, n ∈ good → T n ≤ die) → cold ∈ good.map T → (∀ n, n ∈ good → cold ≤ T n) →
    ∃ t, exec (.housekeepingRoundEnd codes) s = .next t ∧ t.thm.round = none ∧ t.thm.firstDue = false ∧ t.on F.THM_STAT_ROUND_OK = true
      ∧ t.g F.THM_ROUNDS_COUNT = (s.g F.THM_ROUNDS_COUNT + 1) % 2 ^ 32
      ∧ (∀ i, i < (if s.thm.firstDue then 5 else 20) → t.g (F.THM_CH_CODE i) = code i)
      ∧ (∀ n, n < 4 → t.g (F.THM_DIE_TEMP n) = unsigned 16 (T n) ∧ t.g (F.THM_DIE_CODE n) = code n ∧ t.on (F.THM_DIE_VALID n) = readingOk (code n) (T n))
      ∧ t.g F.THM_HOT_MAX = unsigned 16 die ∧ t.g F.THM_HOT_MIN = unsigned 16 cold
      ∧ t.on F.THM_STAT_FLASH_OK = inWindow (s.on F.THM_STAT_FLASH_OK) cold die (-20) 105
      ∧ t.on F.THM_STAT_FUSE_OK = inWindow (s.on F.THM_STAT_FUSE_OK) cold die (-20) 85
      ∧ t.on F.THM_STAT_RISE_ACT = s.rateHolds die
      ∧ t.thm.warn = (if s.thm.warn then !(decide (die < 16 * s.g F.THM_LIM_WARN_C - 16 * s.g F.THM_LIM_WARN_HYST) && !s.rateHolds die)
          else decide ((16 * s.g F.THM_LIM_WARN_C : Nat) ≤ die) || s.rateHolds die)
      ∧ t.thm.stop = (if s.thm.stop then !(decide (die < 16 * s.g F.THM_LIM_STOP_C - 16 * s.g F.THM_LIM_STOP_HYST) && !s.rateHolds die)
          else decide ((16 * s.g F.THM_LIM_STOP_C : Nat) ≤ die) || (s.rateHolds die && decide ((16 * s.g F.THM_LIM_WARN_C : Nat) ≤ die)))
      ∧ t.g F.THM_STAT_LEVEL = (if t.thm.stop then 2 else if t.thm.warn then 1 else 0)
      ∧ (s.thm.warn = false → t.thm.warn = true → s.defLevel S.THM_WARN ≠ 0 → t.on (fltPend S.THM_WARN) = true)
      ∧ (s.thm.stop = false → t.thm.stop = true → t.on (F.UNIT_CTRL_ENABLE 0x18) = false ∧ t.on (F.UNIT_CTRL_ENABLE 0x30) = false
          ∧ t.on (F.UNIT_CTRL_ENABLE 0x50) = false ∧ (s.defLevel S.THM_STOP ≠ 0 → t.on (fltPend S.THM_STOP) = true)
          ∧ (s.saf.halted = false → s.flintStopped = false → t.on F.SAF_STAT_LOCKED = true)))
  ∧ (∀ s c at_ (codes : List Nat), s.thm.round = some at_ → c = Instr.roundTimeout ∨ (c = .housekeepingRoundEnd codes ∧
        (ms (2 * s.g F.THM_CTRL_ROUND_MS) < s.now - at_ ∨ codes.getD 4 0 % 4096 < 1966 ∨ 2130 < codes.getD 4 0 % 4096)) →
    ∃ t, exec c s = .next t ∧ t.thm = { s.thm with round := none, hist := [] } ∧ t.on F.THM_STAT_ROUND_OK = false ∧ t.on F.THM_EVT_ADC = true
      ∧ (s.quiet 0x04 = false → s.defLevel S.THM_ADC ≠ 0 → t.on (fltPend S.THM_ADC) = true)
      ∧ (∀ n, n < 4 → t.g (F.THM_DIE_TEMP n) = s.g (F.THM_DIE_TEMP n)) ∧ s.Within (Foot.reaction [0x02, 0x04] [.thm]) t)
  ∧ (∀ s codes, s.thm.round = none → exec (.housekeepingRoundEnd codes) s = .next s.begin ∧ exec .roundTimeout s = .next s.begin)

/-- Power requests, preparation and entry: PWR_REQ_IDLE, _SLEEP, _DEEP, _OFF, IDLE_WAKE, PREP_TIMEOUT, FLINT_PREP_CONFIRM, PMIC_ACK, ACK_TIMEOUT. A write
of STATE 1 by the application core in RUN, no interrupt being pending, stops that core alone; by another master, or with an interrupt, it does
nothing. Any other STATE is refused with the first code that holds, or starts preparation for that state. An interrupt ends IDLE; a preparation that
is not confirmed in time is refused with 7. Flint's confirmation withdraws the request and the outputs. SLEEP: ACTIVE links listen, the side link and
the lanes are off, no frame runs, Flint's watchdog waits. DEEP and OFF: checkpoint and sticky fields are kept, the root is gated, FIELD_OK is
released, links rest, pads are latched, and PMIC_STBY rises unless WAKE is high; without the PMIC's acknowledgement of LY_STATE the device is back in
RUN with its faults. PMIC_ACK completes the entry. A late acknowledgement takes an entry back towards RUN, with a fault unless a wake caused it, and
is noted by an exit. -/
def Obligations.PowerRequests : Prop :=
  (∀ s m v c, s.masterRuns m = true → s.mayWrite m 0x03 0x40 = true →
      c ∈ [Instr.pwrReqIdle m v, .pwrReqSleep m v, .pwrReqDeep m v, .pwrReqOff m v] →
    (wordField v 2 0 = 1 → m = .app → s.pwr.st = .run → s.appIrq = false →
      ∃ t, exec c s = .next t ∧ t.pwr = { s.pwr with st := .idle, since := s.now } ∧ s.begin.Only [] [.pwr] t)
    ∧ (wordField v 2 0 = 1 → m ≠ .app ∨ s.pwr.st ≠ .run ∨ s.appIrq = true → exec c s = .next s.begin)
    ∧ (wordField v 2 0 ≠ 1 → s.pwrRefuse (wordField v 2 0) (wordField v 15 8) = 0 →
      ∃ t, exec c s = .next t ∧ t.pwr = { s.pwr with st := .prep, since := s.now, target := wordField v 2 0 } ∧ s.begin.Only [] [.pwr] t)
    ∧ (wordField v 2 0 ≠ 1 → s.pwrRefuse (wordField v 2 0) (wordField v 15 8) ≠ 0 →
      ∃ t, exec c s = .next t ∧ t.g F.PWR_STAT_REFUSE = s.pwrRefuse (wordField v 2 0) (wordField v 15 8) ∧ t.on F.PWR_EVT_REFUSED = true
        ∧ s.begin.Only [F.PWR_STAT_REFUSE, F.PWR_EVT_REFUSED, F.UNIT_IRQ_STAT_EVT 0x03, F.CMD_EVT_DEEP_REF, F.UNIT_IRQ_STAT_EVT 0x10] [] t))
  ∧ (∀ s, s.pwr.st = .idle → ∃ t, exec .idleWake s = .next t ∧ t.pwr = { s.pwr with st := .run, since := s.now } ∧ s.begin.Only [] [.pwr] t)
  ∧ (∀ s, s.pwr.st ≠ .idle → exec .idleWake s = .next s.begin)
  ∧ (∀ s, s.pwr.st = .prep →
    ∃ t, exec .prepTimeout s = .next t ∧ t.pwr = { s.pwr with st := .run, since := s.now } ∧ t.g F.PWR_STAT_REFUSE = 7 ∧ t.on F.PWR_EVT_REFUSED = true
      ∧ s.begin.Only [F.PWR_STAT_REFUSE, F.PWR_EVT_REFUSED, F.UNIT_IRQ_STAT_EVT 0x03] [.pwr] t)
  ∧ (∀ s, s.pwr.st ≠ .prep → exec .prepTimeout s = .next s.begin)
  ∧ (∀ s ly, s.pwr.st = .prep → s.saf.halted = false → s.pwr.target = 2 →
    ∃ t, exec (.flintPrepConfirm ly) s = .next t ∧ t.pwr.st = .sleep ∧ t.on F.SAF_FIELD_REQ = false ∧ t.on F.GOV_MODE_RELEASE = false
      ∧ t.g F.SAF_SOUT_CTRL_ON = 0 ∧ t.g F.SAF_STAT_FSTATE ≠ 2 ∧ t.g F.SAF_STAT_FSTATE ≠ 3
      ∧ t.on F.SAF_WDT_ARMED = false ∧ t.saf.lastKick = none ∧ (∀ l, l < 2 → t.lst l = if s.lst l = 5 then 6 else s.lst l) ∧ t.sst = 0
      ∧ t.tln.running = false ∧ (∀ n, n < 8 → t.tlst n = 0)
      ∧ s.Within (Foot.of [0x00, 0x01, 0x03, 0x08, 0x09, 0x0A, 0x0B, 0x10, 0x18, 0x30, 0x40, 0x50, 0x60, 0x68, 0x70, 0x71]
          [.pend, .pendPages, .mem, .flt, .evr, .saf, .quartz, .lnkA, .lnkB, .side, .spi, .cmp, .glare, .lanes, .tln, .flx, .seg, .thm, .pwr]) t)
  ∧ (∀ s, s.pwr.st = .prep → s.saf.halted = false → s.pwr.target = 3 ∨ s.pwr.target = 4 →
    ∃ t, exec (.flintPrepConfirm true) s = .next t ∧ t.pwr.st = .ackEntry ∧ t.pwr.stby = !s.pwr.wake ∧ t.pwr.lyState = s.pwr.target - 2
      ∧ t.evr.ckRet.isSome = true ∧ t.on F.CLK_STAT_ROOT_OK = false ∧ t.g F.SAF_STAT_FSTATE = 0 ∧ t.on F.SAF_FIELD_REQ = false
      ∧ t.on F.PWR_STAT_PADS_LATCHED = true ∧ t.on F.SAF_WDT_ARMED = false ∧ (∀ k, k < 2 → t.saf.souts.getD k Sout.init = Sout.init)
      ∧ (∀ l, l < 2 → 1 ≤ s.lst l → s.lst l ≤ 6 → t.lst l = 7) ∧ (∀ n, n < 8 → t.tlst n = 0) ∧ t.tln.running = false)
  ∧ (∀ s, s.pwr.st = .prep → s.saf.halted = false → s.pwr.target = 3 ∨ s.pwr.target = 4 →
    ∃ t, exec (.flintPrepConfirm false) s = .next t ∧ t.pwr.st = .run ∧ t.on F.PWR_EVT_ACK_TMO = true ∧ t.on F.PWR_EVT_PMB_ERR = true
      ∧ t.g F.PWR_PMB_STAT_ERR_CNT = min F.PWR_PMB_STAT_ERR_CNT.top (s.g F.PWR_PMB_STAT_ERR_CNT + 1)
      ∧ (s.defLevel S.PWR_ACK_TMO ≠ 0 → t.on (fltPend S.PWR_ACK_TMO) = true))
  ∧ (∀ s ly, s.pwr.st ≠ .prep ∨ s.saf.halted = true → exec (.flintPrepConfirm ly) s = .next s.begin)
  ∧ (∀ s u, s.pwr.st = .ackEntry → s.pwr.stby = true →
    ∃ t, exec (.pmicAck u) s = .next t ∧ t.g F.PWR_ACK_LAST_US = min 65535 u ∧ t.rst.pg = false
      ∧ t.pwr = { s.pwr with st := if s.pwr.target = 3 then .deep else .off, since := s.now } ∧ s.begin.Only [F.PWR_ACK_LAST_US] [.rst, .pwr] t)
  ∧ (∀ s u, s.pwr.st ≠ .ackEntry ∨ s.pwr.stby = false → exec (.pmicAck u) s = .next s.begin)
  ∧ (∀ s, s.pwr.st = .ackEntry →
    ∃ t, exec .ackTimeout s = .next t ∧ t.pwr = { s.pwr with st := .resume, since := s.now, stby := false } ∧ t.on F.PWR_EVT_ACK_TMO = true
      ∧ (∀ l, l < 2 → t.lst l = if s.lst l = 7 then 1 else s.lst l)
      ∧ (s.on F.PWR_STAT_WAKE_PENDING = false → s.defLevel S.PWR_ACK_TMO ≠ 0 → t.on (fltPend S.PWR_ACK_TMO) = true)
      ∧ s.Within (Foot.reaction [0x03, 0x08, 0x09, 0x0A] [.lnkA, .lnkB, .csf, .pwr]) t)
  ∧ (∀ s, s.pwr.st = .ackExit → ∃ t, exec .ackTimeout s = .next t ∧ t.pwr = { s.pwr with ackLate := true } ∧ s.begin.Only [] [.pwr] t)
  ∧ (∀ s, s.pwr.st ≠ .ackEntry → s.pwr.st ≠ .ackExit → exec .ackTimeout s = .next s.begin)

/-- Wake and exit, light sleep, regulator bus and pads: WAKE_REQUEST, WAKE_RELEASE, WAKE_TIMER, LCTL_WAKE, DEEP_EXIT, LIGHT_SLEEP_*, PMB_*, PAD_RELEASE. A
wake event abandons a preparation, ends SLEEP with its source noted and the listening links ACTIVE, lowers PMIC_STBY during an entry, and starts the
exit from DEEP; only the ball wakes from OFF. The ball's release raises PMIC_STBY in DEEP and OFF. The timer wakes where it is enabled, from SLEEP and
DEEP; a WAKE frame where its link listens and is enabled, and is otherwise ignored. The exit from DEEP restores the sticky fields over reset values,
keeps flash and retention RAM alone, reports source and acknowledgement, and boots from step 3; a pin event in its place is a PIN_DEEP warm reset. A
Slate bank sleeps where the latency tolerated allows, and wakes on an access, which is counted, or at no tolerance. The regulator's status word is
read, an alert raises its fault, a failed transaction another. A pad release unlatches the pads. -/
def Obligations.WakeAndExit : Prop :=
  (∀ s, ∃ t, exec .wakeRequest s = .next t ∧ t.pwr.wake = true
      ∧ (s.pwr.st ≠ .deep → s.pwr.st ≠ .off → s.pwr.st ≠ .ackExit → t.on F.PWR_STAT_WAKE_PENDING = true)
      ∧ (s.pwr.st = .prep → t.pwr.st = .run ∧ t.on F.PWR_EVT_ABORTED = true)
      ∧ (s.pwr.st = .sleep → t.pwr.st = .run ∧ t.g F.PWR_STAT_WAKE_SRC = 1 ∧ ∀ l, l < 2 → s.lst l = 6 → t.lst l = 5)
      ∧ (s.pwr.st = .ackEntry → t.pwr = { s.pwr with wake := true, stby := false })
      ∧ (s.pwr.st = .deep → t.pwr = { s.pwr with wake := true, st := .ackExit, since := s.now, stby := false, src := 1 } ∧ s.begin.Only [] [.pwr] t)
      ∧ (s.pwr.st = .off → t.pwr = { s.pwr with wake := true, stby := false } ∧ s.begin.Only [] [.pwr] t)
      ∧ (s.pwr.st = .run ∨ s.pwr.st = .idle ∨ s.pwr.st = .resume → t.pwr = { s.pwr with wake := true } ∧ s.begin.Only [F.PWR_STAT_WAKE_PENDING] [.pwr] t)
      ∧ s.Within (Foot.of [0x03, 0x08, 0x09, 0x0A, 0x40, 0x50, 0x68, 0x70, 0x71] [.flt, .evr, .saf, .lnkA, .lnkB, .csf, .lanes, .tln, .pwr]) t)
  ∧ (∀ s, ∃ t, exec .wakeRelease s = .next t ∧ s.begin.Only [] [.pwr] t
      ∧ t.pwr = { s.pwr with wake := false, stby := if s.pwr.st = .deep ∨ s.pwr.st = .off then true else s.pwr.stby })
  ∧ (∀ s, s.on F.PWR_WAKE_EN_TIMER = true → s.g F.PWR_WTMR_MS ≠ 0 →
    (s.pwr.st = .sleep → ∃ t, exec .wakeTimer s = .next t ∧ t.pwr.st = .run ∧ t.g F.PWR_STAT_WAKE_SRC = 4 ∧ t.on F.PWR_STAT_WAKE_PENDING = true
      ∧ ∀ l, l < 2 → s.lst l = 6 → t.lst l = 5)
    ∧ (s.pwr.st = .deep → ∃ t, exec .wakeTimer s = .next t
      ∧ t.pwr = { s.pwr with st := .ackExit, since := s.now, stby := false, src := 4 } ∧ s.begin.Only [] [.pwr] t))
  ∧ (∀ s, s.on F.PWR_WAKE_EN_TIMER = false ∨ s.g F.PWR_WTMR_MS = 0 ∨ (s.pwr.st ≠ .sleep ∧ s.pwr.st ≠ .deep) → exec .wakeTimer s = .next s.begin)
  ∧ (∀ s l (f : Wire), l < 2 →
      let ok := (s.begin.checkFrame l f).1
      let w := (s.begin.checkFrame l f).2
      let en := w.on (if l = 0 then F.PWR_WAKE_EN_LINK_A else F.PWR_WAKE_EN_LINK_B)
    (ok = true → f.ftype = 3 → lctlOk f.payload = true → f.payload.getD 0 0 = 2 → w.lst l = 6 → en = true → w.pwr.st = .sleep →
      ∃ t, exec (.lctlWake l f) s = .next t ∧ t.pwr.st = .run ∧ t.g F.PWR_STAT_WAKE_SRC = 2 + l ∧ t.on F.PWR_STAT_WAKE_PENDING = true ∧ t.lst l = 5)
    ∧ (ok = false ∨ f.ftype ≠ 3 ∨ (lctlOk f.payload = true ∧ (f.payload.getD 0 0 ≠ 2 ∨ w.lst l ≠ 6 ∨ en = false)) → exec (.lctlWake l f) s = .next w)
    ∧ (ok = true → f.ftype = 3 → lctlOk f.payload = false → exec (.lctlWake l f) s = .next (w.evt (F.LNK_EVT_MALFORMED l))))
  ∧ (∀ s st u, s.pwr.st = .ackExit → s.pwr.pinDeep = false → (s.pwr.saved.map Prod.fst).Nodup →
    ∃ t, exec (.deepExit st u) s = .next t ∧ t.pwr.st = .resume ∧ t.on F.PWR_STAT_DEEP_EXIT = true ∧ t.g F.PWR_STAT_WAKE_SRC = s.pwr.src % 16
      ∧ t.g F.PWR_ACK_LAST_US = min 65535 u ∧ t.on F.PWR_STAT_ACK_LATE = s.pwr.ackLate ∧ t.on F.PWR_STAT_WAKE_PENDING = decide (s.pwr.src ≠ 5)
      ∧ t.rst.cold = false ∧ t.rst.deepExit = true ∧ t.lst 0 = 1 ∧ t.lst 1 = 1 ∧ t.g F.CLK_STAT_STATE = 1
      ∧ (∀ a, t.byte a = if coldKeeps true a then s.byte a else memDefault a)
      ∧ (∀ a, groupPage (a / 4096) ∉ [0x00, 0x01, 0x02, 0x03, 0x04, 0x08, 0x09, 0x40, 0x50, 0x68, 0x70, 0x71, 0x78, 0x79, 0x7A, 0x80, 0x81] →
          t.word a = (resetWord a &&& ~~~ (deepMask a)) ||| tabGet (fun a => resetWord a &&& deepMask a) s.pwr.saved a))
  ∧ (∀ s st u, s.pwr.st = .ackExit → s.pwr.pinDeep = true →
    ∃ t, exec (.deepExit st u) s = .next t ∧ t.on F.RST_CAUSE_PIN_DEEP = true ∧ t.g F.PWR_STAT_WAKE_SRC = 5
      ∧ ∀ a, regionOf a = some .flash → t.byte a = s.byte a)
  ∧ (∀ s st u, s.pwr.st ≠ .ackExit → exec (.deepExit st u) s = .next s.begin)
  ∧ (∀ s b, b < 32 → 0x20000000 + 0x40000 * (b + 1) ≤ s.cmdBase → s.g F.PWR_LS_MIN_US ≠ 0 → s.g F.PWR_LS_MIN_US ≤ s.ltrUs → b ∉ s.pwr.banks →
    ∃ t, exec (.lightSleepEntry b) s = .next t ∧ t.pwr = { s.pwr with banks := b :: s.pwr.banks } ∧ s.begin.Only [] [.pwr] t)
  ∧ (∀ s b, s.cmdBase < 0x20000000 + 0x40000 * (b + 1) ∨ s.g F.PWR_LS_MIN_US = 0 ∨ s.ltrUs < s.g F.PWR_LS_MIN_US ∨ b ∈ s.pwr.banks →
    exec (.lightSleepEntry b) s = .next s.begin)
  ∧ (∀ s b, b ∈ s.pwr.banks →
    (∃ t, exec (.lightSleepWake b true) s = .next t ∧ t.pwr = { s.pwr with banks := s.pwr.banks.filter (· ≠ b) } ∧ t.on F.PWR_EVT_LS_STALL = true
      ∧ t.g F.PWR_LS_CNT_STALLS = min F.PWR_LS_CNT_STALLS.top (s.g F.PWR_LS_CNT_STALLS + 1)
      ∧ s.begin.Only [F.PWR_LS_CNT_STALLS, F.PWR_EVT_LS_STALL, F.UNIT_IRQ_STAT_EVT 0x03] [.pwr] t)
    ∧ (s.ltrUs = 0 → ∃ t, exec (.lightSleepWake b false) s = .next t ∧ t.pwr = { s.pwr with banks := s.pwr.banks.filter (· ≠ b) }
      ∧ s.begin.Only [] [.pwr] t)
    ∧ (s.ltrUs ≠ 0 → exec (.lightSleepWake b false) s = .next s.begin))
  ∧ (∀ s b access, b ∉ s.pwr.banks → exec (.lightSleepWake b access) s = .next s.begin)
  ∧ (∀ s w ok, s.pmbRuns = true →
    ∃ t, exec (.pmbAlert w ok) s = .next t ∧ t.on F.PWR_EVT_ALERT = true ∧ (s.defLevel S.PWR_ALERT ≠ 0 → t.on (fltPend S.PWR_ALERT) = true)
      ∧ (ok = true → t.g F.PWR_PMB_STAT_STATUS_WORD = w % 2 ^ 16)
      ∧ (ok = false → t.on F.PWR_EVT_PMB_ERR = true ∧ (s.defLevel S.PWR_ACK_TMO ≠ 0 → t.on (fltPend S.PWR_ACK_TMO) = true))
      ∧ s.Within (Foot.reaction [0x03] []) t)
  ∧ (∀ s w, s.pmbRuns = true → s.pwr.st = .run →
    (∃ t, exec (.pmbStatusPoll w true) s = .next t ∧ t.g F.PWR_PMB_STAT_STATUS_WORD = w % 2 ^ 16 ∧ s.begin.Only [F.PWR_PMB_STAT_STATUS_WORD] [] t)
    ∧ ∃ t, exec (.pmbStatusPoll w false) s = .next t ∧ t.on F.PWR_EVT_PMB_ERR = true
      ∧ t.g F.PWR_PMB_STAT_ERR_CNT = min F.PWR_PMB_STAT_ERR_CNT.top (s.g F.PWR_PMB_STAT_ERR_CNT + 1)
      ∧ (s.defLevel S.PWR_ACK_TMO ≠ 0 → t.on (fltPend S.PWR_ACK_TMO) = true) ∧ s.Within (Foot.reaction [0x03] []) t)
  ∧ (∀ s w ok, s.pmbRuns = false → exec (.pmbAlert w ok) s = .next s.begin ∧ exec (.pmbStatusPoll w ok) s = .next s.begin)
  ∧ (∀ s m v, s.masterRuns m = true → s.mayWrite m 0x03 0x50 = true →
    (wordField v 0 0 = 1 → ∃ t, exec (.padRelease m v) s = .next t ∧ t.on F.PWR_STAT_PADS_LATCHED = false
      ∧ s.begin.Only [F.PWR_STAT_PADS_LATCHED] [] t)
    ∧ (wordField v 0 0 = 0 → exec (.padRelease m v) s = .next s.begin))

/-- The TAP: IDCODE, SAMPLE_PRELOAD, EXTEST, BYPASS, AUTH_*, NONCE_EXPIRY, RC_STAT, SCAN, TRST_N_LOW, TEST_MODE_HIGH. With the core up, every instruction
takes the TAP out of reset and ends EXTEST and scan. IDCODE, AUTH_STAT and RC_STAT read their words. Through an open TAP, SAMPLE_PRELOAD loads the
boundary register and EXTEST is in force; at level 2 SCAN starts the clear of secrets, with the pads gated. A nonce is placed and read, and expires. A
response is taken for checking, once for its nonce; on a locked TAP it fails. Its check opens the TAP at level 1, starts the clear for level 2, or the
step to RMA for level 3; a failed one is counted and the third locks the TAP. TRST_N closes the TAP but in RAW and TEST. TEST_MODE counts in RAW and
is else reported. With the core off, or Garnet stopped where it has to act, nothing changes. -/
def Obligations.TestAccess : Prop :=
  (∀ s, s.tapUp = true →
      let sec := { s.sec with trst := false, extest := false, scan := false }
    (∃ t, exec .idcode s = .next t ∧ t.sec = sec ∧ s.begin.Only [] [.sec, .readData] t
      ∧ t.readData = [BitVec.ofNat 32 (Config.silicon.toNat * 2 ^ 28 + 0x2048 * 2 ^ 12 + Config.manufacturer.toNat * 2 + 1)])
    ∧ (∃ t, exec .authStat s = .next t ∧ t.sec = sec ∧ t.readData = [s.word 0x78048 &&& 0xFF] ∧ s.begin.Only [] [.sec, .readData] t)
    ∧ (∃ t, exec .rcStat s = .next t ∧ t.sec = sec ∧ t.readData = [s.word F.CLK_RC_START_ATTEMPTS.addr &&& 0xFF] ∧ s.begin.Only [] [.sec, .readData] t)
    ∧ (∃ t, exec .bypass s = .next t ∧ t.sec = sec ∧ s.begin.Only [] [.sec] t)
    ∧ (∀ bits, ∃ t, exec (.samplePreload bits) s = .next t ∧ s.begin.Only [] [.sec] t
      ∧ t.sec = { sec with bscan := if s.on F.SEC_TAP_OPEN then bits else s.sec.bscan })
    ∧ (∃ t, exec .extest s = .next t ∧ t.sec = { sec with extest := s.on F.SEC_TAP_OPEN } ∧ s.begin.Only [] [.sec] t)
    ∧ (s.on F.SEC_TAP_OPEN = true → s.sec.tapLevel = 2 → s.g F.SEC_CLR_STATE ≠ 1 →
      ∃ t, exec .scan s = .next t ∧ t.g F.SEC_CLR_STATE = 1 ∧ t.g F.SEC_CLR_TRIGGER = 1 ∧ t.saf.padGate = true ∧ t.sec = { sec with clrAt := s.now }
        ∧ (∀ k, k < 2 → t.saf.souts.getD k Sout.init = Sout.init) ∧ t.mem = s.mem)
    ∧ (s.on F.SEC_TAP_OPEN = false ∨ s.sec.tapLevel ≠ 2 ∨ s.g F.SEC_CLR_STATE = 1 →
      ∃ t, exec .scan s = .next t ∧ t.sec = sec ∧ s.begin.Only [] [.sec] t)
    ∧ (s.garnetRuns = true → ∃ t, exec .authNonce s = .next t ∧ t.sec = { sec with nonceAt := some s.now } ∧ t.fresh = s.fresh + 8
      ∧ t.readData = (List.range 8).map (fun k => t.word (F.SEC_NONCE_NONCE k).addr)
      ∧ s.begin.Only ((List.range 8).map F.SEC_NONCE_NONCE) [.sec, .fresh, .readData] t)
    ∧ (∀ resp, s.garnetRuns = true → s.on F.SEC_TAP_BUSY = false → s.on F.SEC_TAP_LOCKED = false →
      ∃ t, exec (.authResp resp) s = .next t ∧ t.on F.SEC_TAP_BUSY = true ∧ s.begin.Only [F.SEC_TAP_BUSY] [.sec] t
        ∧ t.sec = { sec with
            nonceAt := none,
            resp := some (ofLe (slice resp 0 1), (match s.sec.nonceAt with | some a => decide (s.now - a ≤ ms 10000) | none => false) && s.levelOk (ofLe (slice resp 0 1)),
              s.keyUsable 3 (ofLe (slice resp 1 1)) && allZero resp 2 2 && resp.length = 132) })
    ∧ (∀ resp, s.garnetRuns = true → s.on F.SEC_TAP_BUSY = false → s.on F.SEC_TAP_LOCKED = true →
      ∃ t, exec (.authResp resp) s = .next t ∧ t.on F.SEC_EVT_AUTH_FAIL = true ∧ t.on F.SEC_EVT_AUTH_LOCK = true ∧ t.sec = sec
        ∧ s.begin.Only [F.SEC_EVT_AUTH_FAIL, F.SEC_EVT_AUTH_LOCK, F.UNIT_IRQ_STAT_EVT 0x78] [.sec] t))
  ∧ (∀ s bits, s.tapUp = false → ∀ c, c ∈ [Instr.idcode, .authStat, .rcStat, .bypass, .samplePreload bits, .extest, .scan] → exec c s = .next s.begin)
  ∧ (∀ s resp, s.tapUp = false ∨ s.garnetRuns = false → exec .authNonce s = .next s.begin ∧ exec (.authResp resp) s = .next s.begin)
  ∧ (∀ s, ∃ t, exec .nonceExpiry s = .next t ∧ t.sec = { s.sec with nonceAt := none } ∧ s.begin.Only [] [.sec] t)
  ∧ (∀ s level ok key sig, s.sec.resp = some (level, ok, key) →
    (sig = true → key = true → ok = true → level = 1 →
      ∃ t, exec (.authCheckDone sig) s = .next t ∧ t.on F.SEC_TAP_OPEN = true ∧ t.g F.SEC_TAP_LEVEL = 1 ∧ t.on F.SEC_EVT_AUTH_OK = true
        ∧ t.on F.SEC_TAP_BUSY = false ∧ t.sec = { s.sec with resp := none, tapLevel := 1 })
    ∧ (sig = true → key = true → ok = true → level = 2 →
      ∃ t, exec (.authCheckDone sig) s = .next t ∧ t.g F.SEC_CLR_STATE = 1 ∧ t.g F.SEC_CLR_TRIGGER = 3 ∧ t.g F.SEC_TAP_LEVEL = 2 ∧ t.saf.padGate = true
        ∧ t.on F.SEC_TAP_BUSY = false ∧ t.sec = { s.sec with resp := none, clrAt := s.now })
    ∧ (sig = true → key = true → ok = true → level = 3 → s.fuse 0 = 3 → s.lc = 2 → s.on F.FUS_STAT_BUSY = false → s.progRej .garnet 0 2 = 0 →
      ∃ t, exec (.authCheckDone sig) s = .next t ∧ t.fus = { s.fus with job := some (0, [2], true) } ∧ t.on F.FUS_STAT_BUSY = true
        ∧ t.g F.FUS_PROG_STAT_RESULT = 1 ∧ t.on F.SEC_TAP_BUSY = false ∧ t.sec = { s.sec with resp := none })
    ∧ ((sig && key && ok) = false →
      ∃ t, exec (.authCheckDone sig) s = .next t ∧ t.on F.SEC_EVT_AUTH_FAIL = true ∧ t.g F.SEC_TAP_FAILS = min 3 (s.g F.SEC_TAP_FAILS + 1)
        ∧ ((sig && key) = false → t.on F.SEC_EVT_SIG_FAIL = true)
        ∧ (2 ≤ s.g F.SEC_TAP_FAILS → t.on F.SEC_TAP_LOCKED = true ∧ t.on F.SEC_EVT_AUTH_LOCK = true) ∧ t.on F.SEC_TAP_BUSY = false
        ∧ t.sec = { s.sec with resp := none }))
  ∧ (∀ s sig, s.sec.resp = none → exec (.authCheckDone sig) s = .next s.begin)
  ∧ (∀ s, ∃ t, exec .trstNLow s = .next t ∧ t.on F.SEC_TAP_OPEN = decide (s.lc < 2) ∧ s.begin.Only [F.SEC_TAP_OPEN] [.sec] t
      ∧ t.sec = { s.sec with trst := true, extest := false, scan := false, tapLevel := if s.lc < 2 then 2 else 0 })
  ∧ (∀ s, (s.lc = 0 → ∃ t, exec .testModeHigh s = .next t ∧ t.sec = { s.sec with testMode := true } ∧ s.begin.Only [] [.sec] t)
    ∧ (s.lc ≠ 0 → ∃ t, exec .testModeHigh s = .next t ∧ t.on F.SEC_EVT_TESTMODE_IGN = true
        ∧ s.begin.Only [F.SEC_EVT_TESTMODE_IGN, F.UNIT_IRQ_STAT_EVT 0x78] [] t))

/-- Lifecycle requests, the clear of secrets, self-test requests and fuses: LC_REQUEST, SECRET_CLEAR_DONE, LBIST_START, MBIST_REQUEST,
FUSE_PROGRAM(_DONE). A lifecycle request with the key for a later state starts the programming of the bits that it lacks; from RAW to TEST, say, with
FUS free and its window open. One that is not allowed sets LC_REJ, one without key or not ahead does nothing. A clear that verifies leaves the secret
memories zero and the vault empty, and its mode begins: scan, or the open TAP at level 2 with Flint halted; one that fails refuses its mode and pends
its fault. A self-test asked for with the key, under its conditions, is RUNNING and starts the clear; otherwise the first failing condition is given.
A fuse request starts, finds its bit programmed, or is refused with the first case. A bit that programs well is set and no other changes; the last one
ends the job and reports it, a failed one ends it with its event. -/
def Obligations.SecretsTestsAndFuses : Prop :=
  (∀ s m v b, s.masterRuns m = true → s.mayWrite m 0x78 0x44 = true → m = .garnet ∨ (m = .tap ∧ s.sec.tapLevel = 2 ∧ s.lc < 2) →
      wordField v 15 8 = 0x3C → s.lc < wordField v 2 0 → wordField v 2 0 ≤ 4 →
    (s.on F.FUS_STAT_BUSY = true ∨ (s.lc = 1 ∧ wordField v 2 0 = 2 ∧ ∃ r, r ∈ [7, 8, 12, 16] ∧ s.rowSet r = false) ∨ (s.lc = 2 ∧ wordField v 2 0 = 3) →
      ∃ t, exec (.lcRequest m v) s = .next t ∧ t.on F.SEC_EVT_LC_REJ = true ∧ s.begin.Only [F.SEC_EVT_LC_REJ, F.UNIT_IRQ_STAT_EVT 0x78] [] t)
    ∧ (s.lc = 0 → wordField v 2 0 = 1 → s.on F.FUS_STAT_BUSY = false → s.fuse 0 = 0 → s.progRej .garnet 0 0 = 0 → b = 0 →
      ∃ t, exec (.lcRequest m v) s = .next t ∧ t.fus = { s.fus with job := some (0, [b], true) } ∧ t.on F.FUS_STAT_BUSY = true
        ∧ t.g F.FUS_PROG_STAT_RESULT = 1 ∧ s.begin.Only [F.FUS_STAT_BUSY, F.FUS_PROG_STAT_RESULT] [.fus] t)
    ∧ (s.lc = 1 → wordField v 2 0 = 2 → s.on F.FUS_STAT_BUSY = false → (∀ r, r ∈ [7, 8, 12, 16] → s.rowSet r = true) → s.fuse 0 = 1 →
        s.progRej .garnet 0 1 = 0 → b = 1 →
      ∃ t, exec (.lcRequest m v) s = .next t ∧ t.fus = { s.fus with job := some (0, [b], true) } ∧ t.on F.FUS_STAT_BUSY = true))
  ∧ (∀ s m v, s.masterRuns m = true → s.mayWrite m 0x78 0x44 = true → wordField v 15 8 ≠ 0x3C ∨ wordField v 2 0 ≤ s.lc ∨ 4 < wordField v 2 0 →
    exec (.lcRequest m v) s = .next s.begin)
  ∧ (∀ s, s.g F.SEC_CLR_STATE = 1 →
    (∃ t, exec (.secretClearDone true) s = .next t ∧ t.g F.SEC_CLR_STATE = 2 ∧ (∀ a, t.byte a = if secret a then 0 else s.byte a)
      ∧ t.sec.vault = List.replicate 8 0 ∧ t.g F.SEC_CLR_TIME_US = min 65535 ((s.now - s.sec.clrAt) / 400)
      ∧ (s.g F.SEC_CLR_TRIGGER = 1 → t.sec.scan = true)
      ∧ (s.g F.SEC_CLR_TRIGGER = 3 → t.on F.SEC_TAP_DEBUG_HALT = true ∧ t.saf.halted = true ∧ t.on F.SEC_TAP_OPEN = true ∧ t.sec.tapLevel = 2)
      ∧ (s.g F.SEC_CLR_TRIGGER = 2 → t.g F.BST_LB_STAT_RESULT = s.g F.BST_LB_STAT_RESULT))
    ∧ (∃ t, exec (.secretClearDone false) s = .next t ∧ t.g F.SEC_CLR_STATE = 3 ∧ t.on F.SEC_EVT_CLR_FAIL = true ∧ t.sec.vault = List.replicate 8 0
      ∧ (s.defLevel S.BST_FAIL ≠ 0 → t.on (fltPend S.BST_FAIL) = true) ∧ t.sec.scan = s.sec.scan ∧ t.sec.tapLevel = s.sec.tapLevel
      ∧ (s.g F.SEC_CLR_TRIGGER = 2 → t.g F.BST_LB_STAT_RESULT = 5 ∧ t.g F.BST_LB_STAT_REJ = 5 ∧ t.on F.BST_EVT_LB_REJ = true)
      ∧ (s.g F.SEC_CLR_TRIGGER = 4 → t.g F.BST_MB_STAT_RESULT = 6)))
  ∧ (∀ s ok, s.g F.SEC_CLR_STATE ≠ 1 → exec (.secretClearDone ok) s = .next s.begin)
  ∧ (∀ s m v, s.masterRuns m = true → s.mayWrite m 0x79 0x40 = true → s.bistRuns = false → wordField v 0 0 = 1 → wordField v 15 8 = 0xB5 →
    (s.lbRej = 0 → ∃ t, exec (.lbistStart m v) s = .next t ∧ t.g F.BST_LB_STAT_RESULT = 1 ∧ t.g F.BST_LB_STAT_PART = wordField v 1 1
      ∧ t.g F.SEC_CLR_STATE = 1 ∧ t.g F.SEC_CLR_TRIGGER = 2 ∧ t.saf.padGate = true ∧ t.mem = s.mem)
    ∧ (s.lbRej ≠ 0 → ∃ t, exec (.lbistStart m v) s = .next t ∧ t.g F.BST_LB_STAT_RESULT = 5 ∧ t.g F.BST_LB_STAT_REJ = s.lbRej
      ∧ t.on F.BST_EVT_LB_REJ = true ∧ s.begin.Only [F.BST_LB_STAT_RESULT, F.BST_LB_STAT_REJ, F.BST_EVT_LB_REJ, F.UNIT_IRQ_STAT_EVT 0x79] [] t))
  ∧ (∀ s m v, s.masterRuns m = true → s.mayWrite m 0x79 0x64 = true → s.bistRuns = false → wordField v 0 0 = 1 → wordField v 15 8 = 0xB5 →
    (s.lc ≠ 2 → s.lc ≠ 4 → s.bistIdle = 0 → ∃ t, exec (.mbistRequest m v) s = .next t ∧ t.g F.BST_MB_STAT_RESULT = 1 ∧ t.g F.SEC_CLR_STATE = 1
      ∧ t.g F.SEC_CLR_TRIGGER = 4 ∧ t.sec.mbRet = decide (wordField v 1 1 = 1) ∧ t.saf.padGate = true)
    ∧ (s.lc = 2 ∨ s.lc = 4 ∨ s.bistIdle ≠ 0 → ∃ t, exec (.mbistRequest m v) s = .next t ∧ t.g F.BST_MB_STAT_RESULT = 6
      ∧ s.begin.Only [F.BST_MB_STAT_RESULT] [] t))
  ∧ (∀ s m v, s.masterRuns m = true → s.mayWrite m 0x79 0x40 = true → s.bistRuns = true ∨ wordField v 0 0 = 0 ∨ wordField v 15 8 ≠ 0xB5 →
    exec (.lbistStart m v) s = .next s.begin)
  ∧ (∀ s m v, s.masterRuns m = true → s.mayWrite m 0x79 0x64 = true → s.bistRuns = true ∨ wordField v 0 0 = 0 ∨ wordField v 15 8 ≠ 0xB5 →
    exec (.mbistRequest m v) s = .next s.begin)
  ∧ (∀ s m v, s.masterRuns m = true → s.mayWrite m 0x7A 0x44 = true → wordField v 24 24 = 1 → wordField v 23 16 = 0x96 →
      let row := wordField v 5 0
      let b := wordField v 15 8
    (s.progRej m row b = 0 → tbit (s.fuse row) b = false →
      ∃ t, exec (.fuseProgram m v) s = .next t ∧ t.fus = { s.fus with job := some (row, [b], false) } ∧ t.on F.FUS_STAT_BUSY = true
        ∧ t.g F.FUS_PROG_STAT_RESULT = 1 ∧ s.begin.Only [F.FUS_STAT_BUSY, F.FUS_PROG_STAT_RESULT] [.fus] t)
    ∧ (s.progRej m row b = 0 → tbit (s.fuse row) b = true →
      ∃ t, exec (.fuseProgram m v) s = .next t ∧ t.g F.FUS_PROG_STAT_RESULT = 5 ∧ s.begin.Only [F.FUS_PROG_STAT_RESULT] [] t)
    ∧ (s.progRej m row b ≠ 0 →
      ∃ t, exec (.fuseProgram m v) s = .next t ∧ t.g F.FUS_PROG_STAT_RESULT = 3 ∧ t.g F.FUS_PROG_STAT_REJ = s.progRej m row b
        ∧ t.on F.FUS_EVT_PROG_REJ = true ∧ (s.progRej m row b = 3 → t.on F.THM_EVT_FUSE_REF = true)
        ∧ s.begin.Only [F.FUS_PROG_STAT_RESULT, F.FUS_PROG_STAT_REJ, F.FUS_EVT_PROG_REJ, F.UNIT_IRQ_STAT_EVT 0x7A, F.THM_EVT_FUSE_REF,
            F.UNIT_IRQ_STAT_EVT 0x04] [] t))
  ∧ (∀ s m v, s.masterRuns m = true → s.mayWrite m 0x7A 0x44 = true → wordField v 24 24 = 0 ∨ wordField v 23 16 ≠ 0x96 →
    exec (.fuseProgram m v) s = .next s.begin)
  ∧ (∀ s row b rest lc, s.fus.job = some (row, b :: rest, lc) → row < 29 → s.shaped = true →
    (∃ t, exec (.fuseProgramDone true) s = .next t ∧ t.fuse row = s.fuse row ||| 2 ^ b ∧ (∀ r, r ≠ row → t.fuse r = s.fuse r)
      ∧ (rest ≠ [] → t.fus.job = some (row, rest, lc))
      ∧ (rest = [] → t.on F.FUS_EVT_PROG_DONE = true ∧ (lc = true → t.on F.SEC_EVT_LC_CHG = true)
          ∧ (s.upd.fusePend = none → t.fus.job = none ∧ t.on F.FUS_STAT_BUSY = false ∧ t.g F.FUS_PROG_STAT_RESULT = 2)) ∧ t.mem = s.mem)
    ∧ (∃ t, exec (.fuseProgramDone false) s = .next t ∧ t.fus = { s.fus with job := none } ∧ t.on F.FUS_STAT_BUSY = false
      ∧ t.g F.FUS_PROG_STAT_RESULT = 4 ∧ t.on F.FUS_EVT_VERIFY_FAIL = true
      ∧ s.begin.Only [F.FUS_STAT_BUSY, F.FUS_PROG_STAT_RESULT, F.FUS_EVT_VERIFY_FAIL, F.UNIT_IRQ_STAT_EVT 0x7A] [.fus] t))
  ∧ (∀ s ok, s.fus.job = none → exec (.fuseProgramDone ok) s = .next s.begin)

/-- Operations of the update unit: UPD_WRITE, UPD_VERIFY, VERIFY_DONE, UPD_ACTIVATE, UPD_CONFIRM, GRANITE_COPY_DONE. The packet at the head of UPDATE is
taken by the command of its operation. A WRITE to a slot that may take it, begun anew, leaves the slot RECEIVING and its block in flash, byte for
byte, with nothing outside the sectors it touches changed; to one that may not, nothing is written and WR_REFUSED set; with flash closed it waits.
VERIFY of a RECEIVING slot makes it VERIFYING; the end of the checks makes it VERIFIED, or REJECTED where one fails. ACTIVATE of a VERIFIED slot with
its version makes it PENDING, a PENDING other slot VERIFIED again; in recovery a main slot's asks for the restart whatever it did. CONFIRM of the
trial slot with its version makes it ACTIVE and ends the trial. Any other operation sets OP_IGN. Each is DONE then; a failed read replays. After a
sealed update the active bundle stands in the other slot too. -/
def Obligations.UpdateOperations : Prop :=
  (∀ s (p : Packet), s.consuming 3 = true → s.ring 3 = [p] → s.armed S.CMD_REPLAY = false → s.shaped = true → p.updSlot < 6 → p.body ≠ [] →
      let n := p.updSlot
      let done := fun t : State => t.ring 3 = [] ∧ t.g (F.CMD_DONE_DONE_SEQ 3) = p.seq % 2 ^ 32
      let ignored := fun t : State => t.on F.UPD_EVT_OP_IGN = true ∧ t.upd.slots = s.upd.slots ∧ t.gov = s.gov ∧ t.mem = s.mem ∧ done t
    (p.updOp = 0 → s.writeRefused n = true → ∃ t, exec (.updWrite false) s = .next t ∧ t.on F.UPD_EVT_WR_REFUSED = true ∧ done t
        ∧ s.begin.Only [F.UPD_EVT_WR_REFUSED, F.UNIT_IRQ_STAT_EVT 0x80, F.CMD_DONE_DONE_SEQ 3] [.cmd] t)
    ∧ (p.updOp = 0 → s.writeRefused n = false → s.on F.THM_STAT_FLASH_OK = false ∨ ((n = 2 ∨ n = 3) ∧ s.saf.halted = true) →
        exec (.updWrite false) s = .next s.begin)
    ∧ (p.updOp = 0 → s.writeRefused n = false → s.on F.THM_STAT_FLASH_OK = true → s.saf.halted = false → s.slotState n ≠ 1 →
      ∃ t, exec (.updWrite false) s = .next t ∧ t.slotState n = 1 ∧ done t
        ∧ (∀ i, i < p.body.length → t.byte (slotBase n + p.arg + i) = p.body.getD i 0)
        ∧ (∀ a, a < slotBase n + p.arg / 4096 * 4096 ∨ slotBase n + ((p.arg + p.body.length - 1) / 4096 + 1) * 4096 ≤ a → t.byte a = s.byte a)
        ∧ t.g F.UPD_CNT_BLOCKS = min F.UPD_CNT_BLOCKS.top (s.g F.UPD_CNT_BLOCKS + 1))
    ∧ (p.updOp = 1 → s.upd.verifying = none → s.slotState n = 1 → ∃ t, exec (.updVerify false) s = .next t ∧ t.slotState n = 2
        ∧ t.upd.verifying = some (n, ofBe p.body) ∧ t.ring 3 = [p] ∧ t.mem = s.mem)
    ∧ (p.updOp = 1 → s.upd.verifying = none → s.slotState n ≠ 1 → ∃ t, exec (.updVerify false) s = .next t ∧ ignored t)
    ∧ (p.updOp = 2 → s.slotState n = 3 → s.slotVersion n = ofBe (slice p.body 0 4) → 2 ≤ n ∨ s.upd.trial = none →
      ∃ t, exec (.updActivate false) s = .next t ∧ t.slotState n = 4 ∧ t.slotState (otherSlot n) = (if s.slotState (otherSlot n) = 4 then 3
          else s.slotState (otherSlot n)) ∧ t.upd.restart = (s.upd.restart || tbit (ofBe (slice p.body 4 4)) 0 || (s.inRecovery && decide (n < 2))) ∧ done t)
    ∧ (p.updOp = 2 → s.slotState n ≠ 3 ∨ s.slotVersion n ≠ ofBe (slice p.body 0 4) ∨ (n < 2 ∧ s.upd.trial ≠ none) →
      ∃ t, exec (.updActivate false) s = .next t ∧ ignored t ∧ t.upd.restart = (s.upd.restart || (s.inRecovery && decide (n < 2))))
    ∧ (p.updOp = 3 → n < 2 → s.slotState n = 5 → s.slotVersion n = ofBe p.body →
      ∃ t, exec (.updConfirm false) s = .next t ∧ t.slotState n = 6 ∧ t.slotState (otherSlot n) = (if s.slotState (otherSlot n) = 6 then 3
          else s.slotState (otherSlot n)) ∧ t.on F.UPD_STAT_TRIAL = false ∧ t.on F.UPD_EVT_CONFIRMED = true ∧ t.upd.trial = none ∧ t.upd.trialAt = none ∧ done t)
    ∧ (p.updOp = 3 → 2 ≤ n ∨ s.slotState n ≠ 5 ∨ s.slotVersion n ≠ ofBe p.body → ∃ t, exec (.updConfirm false) s = .next t ∧ ignored t))
  ∧ (∀ s c (p : Packet) q, s.consuming 3 = true → s.ring 3 = p :: q → s.cmd.rings.length = 4 →
      (c, p.updOp) ∈ [(Instr.updWrite true, 0), (.updVerify true, 1), (.updActivate true, 2), (.updConfirm true, 3)] →
    ∃ t, exec c s = .next t ∧ t.ring 3 = [] ∧ t.g (F.CMD_EXP_EXP 3) = p.seq % 2 ^ 32 ∧ t.on F.CMD_EVT_REPLAY = true ∧ t.upd = s.upd ∧ t.mem = s.mem
      ∧ (s.defLevel S.CMD_REPLAY ≠ 0 → t.on (fltPend S.CMD_REPLAY) = true))
  ∧ (∀ s c op parity, (c, op) ∈ [(Instr.updWrite parity, 0), (.updVerify parity, 1), (.updActivate parity, 2), (.updConfirm parity, 3)] →
      s.consuming 3 = false ∨ (∀ p, (s.ring 3).head? = some p → Packet.updOp p ≠ op) → exec c s = .next s.begin)
  ∧ (∀ s n total sig, s.upd.verifying = some (n, total) → n < 6 → s.shaped = true →
    ∃ t, exec (.verifyDone sig) s = .next t ∧ t.slotState n = (if (s.checkSlot n total sig).1 = 0 then 3 else 7) ∧ t.upd.verifying = none
      ∧ ((s.checkSlot n total sig).1 = 0 → t.on F.UPD_EVT_VERIFIED = true) ∧ ((s.checkSlot n total sig).1 ≠ 0 → t.on F.UPD_EVT_REJECTED = true)
      ∧ (n = 0 → t.g F.UPD_SLOTA_REJ = (s.checkSlot n total sig).1) ∧ (n = 1 → t.g F.UPD_SLOTB_REJ = (s.checkSlot n total sig).1)
      ∧ t.mem = s.mem)
  ∧ (∀ s sig, s.upd.verifying = none → exec (.verifyDone sig) s = .next s.begin)
  ∧ (∀ s a, s.gov.active = some a → a < 2 → s.gov.copyDue = true → s.g F.RST_BOOT_STAT_PHASE = 1 → s.on F.THM_STAT_FLASH_OK = true →
      s.saf.halted = false → s.shaped = true →
      let dst := slotBase (3 - a)
    ∃ t, exec .graniteCopyDone s = .next t ∧ t.slotState (3 - a) = 3 ∧ t.gov.copyDue = false ∧ t.gov.active = some a
      ∧ (∀ i, i < min 0x200000 (s.slotField (2 + a) 44 4) → t.byte (dst + i) = s.byte (slotBase (2 + a) + i))
      ∧ (∀ x, x < dst ∨ dst + 0x200000 ≤ x → t.byte x = s.byte x))
  ∧ (∀ s, s.gov.active = none ∨ s.gov.copyDue = false ∨ s.g F.RST_BOOT_STAT_PHASE ≠ 1 ∨ s.on F.THM_STAT_FLASH_OK = false ∨ s.saf.halted = true →
    exec .graniteCopyDone s = .next s.begin)

/-- Boot steps FUSE_LOAD, MBIST, JOURNAL and MAIN_IMAGE: what each leaves when it is done, and what a failed check starts. In its step, with Garnet
running, each command has its effect; in any other step it changes nothing. FUSE_LOAD marks the rows that fail parity, puts the HUK into vault slot 0
in TEST and PROD unless its row failed, addresses the PMIC in a cold boot, releases no latched pad, and goes on with MBIST in a cold boot and with
JOURNAL otherwise; RAW enters recovery and DECOM stops. MBIST reports PASS, REPAIRED or a failure that is raised, and JOURNAL follows. JOURNAL with a
valid header opens the next boot record, counts BOOT_NO and TRIES, in a cold boot takes the next epoch, and goes on; the strap, or 8 tries, lead into
recovery; with no valid copy the journal is fresh. MAIN_IMAGE boots a PENDING slot that passes as TRIAL, rejects one that does not, boots the ACTIVE
slot, or takes the alternative once with its AVOID bit set, and recovery when that is used up. That a boot which ends a trial starts here, and which
checks a slot has to pass, is said elsewhere. -/
def Obligations.BootStepsOfGarnet : Prop :=
  (∀ s pmb bad, s.bootRuns 4 = true →
    (s.lc ≠ 0 → s.lc ≠ 4 →
      ∃ t, exec (.fuseLoad pmb bad) s = .next t ∧ t.fus = { s.fus with parity := (List.range 29).filter (parityRows bad).contains }
        ∧ t.sec.vault = s.sec.vault.set 0 (if (s.lc = 1 ∨ s.lc = 2) ∧ 7 ∉ bad then s.fuse 7 else 0)
        ∧ ((∃ r, r ∈ bad ∧ r ≠ 0 ∧ r ≤ 17) → t.on F.FUS_EVT_PARITY = true)
        ∧ (s.rst.cold = true ∨ s.rst.deepExit = true → (pmb = true → t.pwr.lyState = 0) ∧ (pmb = false → t.on F.PWR_EVT_PMB_ERR = true))
        ∧ t.g F.PWR_STAT_PADS_LATCHED = 0 ∧ t.g F.BST_MB_STAT_FUSED_USED = s.fusedRepairs.length
        ∧ t.g F.RST_BOOT_STAT_STEP = (if s.rst.cold = true ∧ tbit s.avoidBits 5 = false then 5 else 6) ∧ t.g F.RST_BOOT_STAT_PHASE = 0)
    ∧ (s.lc = 0 → ∃ t, exec (.fuseLoad pmb bad) s = .next t ∧ t.g F.RST_BOOT_STAT_PHASE = 3 ∧ t.on F.UPD_STAT_RECOVERY = true)
    ∧ (s.lc = 4 → s.upd.trial = none → ∃ t, exec (.fuseLoad pmb bad) s = .next t ∧ t.g F.RST_BOOT_STAT_PHASE = 2 ∧ t.cmd.served = true))
  ∧ (∀ s fails, s.bootRuns 5 = true →
    ∃ t, exec (.mbist fails) s = .next t ∧ t.g F.RST_BOOT_STAT_STEP = 6 ∧ t.g F.BST_MB_STAT_RESULT ∈ [2, 3, 4]
      ∧ (fails = [] → t.g F.BST_MB_STAT_RESULT = if s.softRepairs.isEmpty then 2 else 3)
      ∧ (t.g F.BST_MB_STAT_RESULT = 4 → t.on F.BST_EVT_MB_FAIL = true ∧ (s.defLevel S.BST_FAIL ≠ 0 → t.on (fltPend S.BST_FAIL) = true)))
  ∧ (∀ s, s.bootRuns 6 = true → headerOk (s.bytes journalBase 32) = true →
    (s.rst.recoveryStrap = false → s.jget 0xC 1 < 8 →
      ∃ t, exec .journal s = .next t ∧ t.g F.RST_BOOT_STAT_STEP = 7 ∧ t.g F.RST_BOOT_STAT_PHASE = 0 ∧ t.rst.journalOpen = true
        ∧ t.g F.RST_BOOT_STAT_TRIES = s.jget 0xC 1 + 1 ∧ t.jget 0xC 1 = s.jget 0xC 1 + 1
        ∧ t.jget 3 1 = (s.jget 3 1 + 1) % 4 ∧ t.jget 4 4 = (s.jget 4 4 + 1) % 2 ^ 32
        ∧ (s.rst.cold = true → t.g F.RST_EPOCH_EPOCH = (if s.epochStored.2 = 0xFFFFFFFF then 1 else s.epochStored.2 + 1)
            ∧ (s.on F.THM_STAT_FLASH_OK = true → t.on F.RST_EPOCH_STAT_SAVED = true)))
    ∧ (s.rst.recoveryStrap = true ∨ 8 ≤ s.jget 0xC 1 →
      ∃ t, exec .journal s = .next t ∧ t.g F.RST_BOOT_STAT_PHASE = 3 ∧ t.on F.UPD_STAT_RECOVERY = true ∧ t.cmd.served = true
        ∧ t.g (F.CMD_EXP_EXP 3) = 1 ∧ t.g (F.UNIT_CTRL_ENABLE 0x09) = 0 ∧ t.g (F.UNIT_CTRL_ENABLE 0x0A) = 0))
  ∧ (∀ s, s.bootRuns 6 = true → headerOk (s.bytes journalBase 32) = false → s.copyOk 0 = false → s.copyOk 1 = false → s.rst.recoveryStrap = false →
    ∃ t, exec .journal s = .next t ∧ t.g F.RST_BOOT_STAT_STEP = 7 ∧ t.on F.RST_EVT_JOURNAL_NEW = true ∧ t.rst.journalOpen = true
      ∧ t.jget 4 4 = 1 ∧ t.jget 3 1 = 0 ∧ t.g F.RST_BOOT_STAT_TRIES = 1)
  ∧ (∀ s aOk bOk p, s.bootRuns 7 = true → s.upd.trial = none → s.shaped = true → s.slotIn [0, 1] 4 = some p →
    ((s.mainBad p aOk bOk).1 = 0 →
      ∃ t, exec (.mainImage aOk bOk) s = .next t ∧ t.slotState p = 5 ∧ t.upd.trial = some p ∧ t.g F.UPD_STAT_MAIN_ACT = p ∧ t.on F.UPD_STAT_TRIAL = true
        ∧ t.g F.UPD_VER_VER = s.slotField p 24 4 ∧ t.g F.RST_BOOT_STAT_STEP = 8)
    ∧ ((s.mainBad p aOk bOk).1 ≠ 0 → ∃ t, exec (.mainImage aOk bOk) s = .next t ∧ t.slotState p = 7 ∧ t.on F.UPD_EVT_REJECTED = true))
  ∧ (∀ s aOk bOk n, s.bootRuns 7 = true → s.upd.trial = none → s.shaped = true → s.slotIn [0, 1] 4 = none → s.slotIn [0, 1] 6 = some n →
    ((s.mainBad n aOk bOk).1 = 0 → s.rst.alt = false →
      ∃ t, exec (.mainImage aOk bOk) s = .next t ∧ t.g F.UPD_STAT_MAIN_ACT = n ∧ t.g F.RST_BOOT_STAT_SLOT_B = n ∧ t.on F.UPD_STAT_TRIAL = false
        ∧ t.g F.UPD_VER_VER = s.slotField n 24 4 ∧ t.slotState n = 6 ∧ t.g F.RST_BOOT_STAT_STEP = 8)
    ∧ ((s.mainBad n aOk bOk).1 ≠ 0 → s.rst.alt = false →
      ∃ t, exec (.mainImage aOk bOk) s = .next t ∧ t.g F.RST_BOOT_STAT_STEP = 7 ∧ t.rst.alt = true
        ∧ (s.rst.journalOpen = true → tbit (t.g F.RST_BJ_AVOID_AVOID) 7 = true)
        ∧ (s.defLevel S.RST_BOOT_ALT ≠ 0 → t.on (fltPend S.RST_BOOT_ALT) = true))
    ∧ ((s.mainBad n aOk bOk).1 ≠ 0 → s.rst.alt = true → s.slotState (otherSlot n) ≠ 3 →
      ∃ t, exec (.mainImage aOk bOk) s = .next t ∧ t.g F.RST_BOOT_STAT_PHASE = 3 ∧ t.on F.UPD_STAT_RECOVERY = true)
    ∧ ((s.mainBad n aOk bOk).1 ≠ 0 → s.rst.alt = true → s.slotState (otherSlot n) = 3 → (s.mainBad (otherSlot n) aOk bOk).1 = 0 →
      ∃ t, exec (.mainImage aOk bOk) s = .next t ∧ t.g F.UPD_STAT_MAIN_ACT = otherSlot n ∧ t.slotState (otherSlot n) = 6 ∧ t.slotState n = 7
        ∧ t.g F.RST_BOOT_STAT_STEP = 8))
  ∧ (∀ s aOk bOk pmb bad fails, (s.bootRuns 4 = false → exec (.fuseLoad pmb bad) s = .next s.begin)
    ∧ (s.bootRuns 5 = false → exec (.mbist fails) s = .next s.begin) ∧ (s.bootRuns 6 = false → exec .journal s = .next s.begin)
    ∧ (s.bootRuns 7 = false → exec (.mainImage aOk bOk) s = .next s.begin))

/-- Boot steps GRANITE, SETTINGS, PROFILE, CALIB and KERNELS: what each leaves when it is done, and what a failed check starts. In its step, with its
cores running, each command has its effect; otherwise it changes nothing. GRANITE rejects a PENDING slot that fails its checks; one that passes at the
count in force becomes active, with the copy of it due. Otherwise the active slot's image and manifest enter Granite RAM, the registers show them, and
SETTINGS follows, or PROFILE where SETTINGS is avoided. A failed check starts the alternative. SETTINGS takes the stored record of the running format,
or the defaults, with the reason. PROFILE puts the record's profile in force. CALIB activates a PENDING set, loads the header and each tile's section
of the ACTIVE set, or the default with its SRC, or takes the default set as its alternative. KERNELS enables GLR and the engines of the profile's
tiles and loads and selects the verified kernel, or leaves the boot ROM kernel as its alternative. A failed CALIB or KERNELS takes its alternative. -/
def Obligations.BootStepsToKernels : Prop :=
  (∀ s aOk bOk fuseOk p, s.bootRuns 8 = true → s.saf.halted = false → s.shaped = true → s.slotIn [2, 3] 4 = some p → s.fus.job = none →
    ((s.checkGranite p (graniteOk p aOk bOk)).1 ≠ 0 → ∃ t, exec (.granite aOk bOk fuseOk) s = .next t ∧ t.slotState p = 7 ∧ t.on F.UPD_EVT_REJECTED = true)
    ∧ ((s.checkGranite p (graniteOk p aOk bOk)).1 = 0 → s.slotField p 20 4 = s.approvals →
      ∃ t, exec (.granite aOk bOk fuseOk) s = .next t ∧ t.slotState p = 6 ∧ t.gov.active = some (p - 2) ∧ t.gov.copyDue = true))
  ∧ (∀ s aOk bOk fuseOk a, s.bootRuns 8 = true → s.saf.halted = false → s.shaped = true → s.slotIn [2, 3] 4 = none → s.gov.active = some a → a < 2 →
      s.rst.alt = false →
    ((s.checkGranite (2 + a) (graniteOk (2 + a) aOk bOk)).1 = 0 →
      ∃ t, exec (.granite aOk bOk fuseOk) s = .next t ∧ t.g F.RST_BOOT_STAT_STEP ∈ [9, 10] ∧ t.g F.GOV_SLOT_ACTIVE = a ∧ t.g F.RST_BOOT_STAT_G_SLOT_B = a
        ∧ (∀ k, k < 4 → t.g (F.GOV_SWID_SWID k) = s.slotField (2 + a) (24 + 4 * k) 4)
        ∧ (∀ k, k < 8 → t.g (F.GOV_DIGEST_DIGEST k) = ofLe (slice (s.graniteDigest (2 + a)) (4 * k) 4))
        ∧ (∀ i, i < (s.graniteEntry (2 + a) 0).2.1 → t.byte (0x30000000 + i) = s.byte (slotBase (2 + a) + (s.graniteEntry (2 + a) 0).1 + i))
        ∧ (∀ i, i < 200 → t.byte (0x3007B000 + i) = s.byte (slotBase (2 + a) + s.slotField (2 + a) 48 4 + i)))
    ∧ ((s.checkGranite (2 + a) (graniteOk (2 + a) aOk bOk)).1 ≠ 0 →
      ∃ t, exec (.granite aOk bOk fuseOk) s = .next t ∧ t.g F.RST_BOOT_STAT_STEP = 8 ∧ t.rst.alt = true
        ∧ (s.defLevel S.RST_BOOT_ALT ≠ 0 → t.on (fltPend S.RST_BOOT_ALT) = true)))
  ∧ (∀ s, s.bootRuns 9 = true →
    (∀ r, s.setBest = some r → r.fmt = s.runFmt → s.thm.deferred.contains .settings = false →
      ∃ t, exec (.settings true) s = .next t ∧ t.g F.UPD_SET_FMT = s.runFmt ∧ t.g F.UPD_SET_RESET = 0 ∧ t.g F.PRF_SEL_PROF = r.profSel % 4
        ∧ t.g F.PRF_SEL_VALID = r.profSel / 128 % 2 ∧ t.g F.RST_BOOT_STAT_STEP = 10)
    ∧ (∀ r, s.setBest = some r → r.fmt ≠ s.runFmt →
      ∃ t, exec (.settings true) s = .next t ∧ t.g F.UPD_SET_FMT = s.runFmt ∧ t.g F.UPD_SET_RESET = 2 ∧ t.g F.PRF_SEL_VALID = 0
        ∧ t.on F.UPD_EVT_SET_RESET = true ∧ t.g F.RST_BOOT_STAT_STEP = 10)
    ∧ (s.setBest = none → ∃ t, exec (.settings true) s = .next t ∧ t.g F.UPD_SET_FMT = s.runFmt ∧ t.g F.UPD_SET_RESET = 1 ∧ t.g F.PRF_SEL_VALID = 0
        ∧ t.on F.UPD_EVT_SET_RESET = true ∧ t.g F.RST_BOOT_STAT_STEP = 10)
    ∧ (∃ t, exec (.settings false) s = .next t ∧ t.g F.UPD_SET_RESET = 3 ∧ t.g F.PRF_SEL_VALID = 0 ∧ t.g F.RST_BOOT_STAT_STEP = 10
        ∧ (s.defLevel S.RST_BOOT_ALT ≠ 0 → t.on (fltPend S.RST_BOOT_ALT) = true)))
  ∧ (∀ s p, s.bootRuns 10 = true → s.saf.halted = false →
      let cmd := !s.rst.alt && s.on F.PRF_SEL_VALID && s.on F.FUS_OPT_PROF_CMD
      p = (if s.rst.alt then 0 else if cmd then s.g F.PRF_SEL_PROF else s.g F.PRF_STAT_STRAP) →
    ((s.tryProfile p cmd).1 = 0 →
      ∃ t, exec (.profile true) s = .next t ∧ t.g F.PRF_STAT_IN_FORCE = p ∧ t.on F.PRF_STAT_FROM_CMD = cmd ∧ t.g F.RST_BOOT_STAT_STEP = 11
        ∧ t.on F.RST_BOOT_STAT_PRF0_FORCED = s.rst.alt ∧ (∀ b, s.profRecord p = some b → t.g F.PRF_STAT_TILES = ofLe (slice b 6 1)))
    ∧ (s.rst.alt = false → ∃ t, exec (.profile false) s = .next t ∧ t.g F.RST_BOOT_STAT_STEP = 10 ∧ t.rst.alt = true))
  ∧ (∀ s ok n, s.bootRuns 11 = true → s.shaped = true → s.slotIn [4, 5] 4 = some n ∨ (s.slotIn [4, 5] 4 = none ∧ s.rst.alt = false ∧ s.slotIn [4, 5] 6 = some n) →
    (ok = true → s.calHeaderOk n = true →
      ∃ t, exec (.calib ok) s = .next t ∧ t.slotState n = 6 ∧ (s.slotIn [4, 5] 4 = some n → s.slotState (otherSlot n) = 6 → t.slotState (otherSlot n) = 3) ∧ t.g F.CAL_SET_SET_ID = s.slotField n 0x14 4
        ∧ t.g F.UPD_STAT_CAL_ACT = n - 4 ∧ t.g F.RST_BOOT_STAT_STEP = 12 ∧ t.g (F.UNIT_CTRL_ENABLE 0x48) = 1 ∧ t.g (F.UNIT_CTRL_ENABLE 0x49) = 1
        ∧ (∀ i, i < 256 → t.byte (0x28260000 + i) = s.byte (slotBase n + i))
        ∧ (∀ k, k < 8 → t.g (F.CAL_TILE_SRC k) = match s.setSection n k with | some b => if sectionOk b then 0 else 2 | none => 4))
    ∧ (ok = false ∨ s.calHeaderOk n = false → ∃ t, exec (.calib ok) s = .next t ∧ t.g F.RST_BOOT_STAT_STEP = 11 ∧ t.rst.alt = true))
  ∧ (∀ s ok, s.bootRuns 11 = true → s.slotIn [4, 5] 4 = none → s.rst.alt = true →
    ∃ t, exec (.calib ok) s = .next t ∧ t.on F.RST_BOOT_STAT_CAL_DEFAULT = true ∧ t.g F.CAL_SET_SET_ID = 0 ∧ (∀ k, k < 8 → t.g (F.CAL_TILE_SRC k) = 1)
      ∧ t.g F.RST_BOOT_STAT_STEP = 12)
  ∧ (∀ s ok, s.bootRuns 12 = true →
    (s.rst.alt = true ∨ (s.loadKernel ok).1 = 0 →
      ∃ t, exec (.kernels ok) s = .next t ∧ t.g (F.UNIT_CTRL_ENABLE 0x30) = 1
        ∧ (∀ n, n < 8 → tbit (s.g F.PRF_STAT_TILES) n = true → t.g (F.UNIT_CTRL_ENABLE (0x31 + n)) = 1)
        ∧ (s.rst.alt = true → t.g F.RST_BOOT_STAT_STEP = 13)
        ∧ (s.rst.alt = false → t.g F.GLR_KSTAT_STATE0 = 2 ∧ (t.on (F.UNIT_STATUS_COMMIT_ERR 0x30) = false → t.g F.RST_BOOT_STAT_STEP = 13)))
    ∧ (s.rst.alt = false → (s.loadKernel ok).1 ≠ 0 →
      ∃ t, exec (.kernels ok) s = .next t ∧ t.g F.GLR_KSTAT_STATE0 = 3 ∧ t.g F.GLR_KSTAT_REJ = (s.loadKernel ok).1 ∧ t.on F.GLR_EVT_KERN_REJ = true
        ∧ t.g F.RST_BOOT_STAT_STEP = 12 ∧ t.rst.alt = true))
  ∧ (∀ s aOk bOk fuseOk, s.bootRuns 8 = false ∨ s.saf.halted = true → exec (.granite aOk bOk fuseOk) s = .next s.begin)
  ∧ (∀ s ok, (s.bootRuns 9 = false → exec (.settings ok) s = .next s.begin)
    ∧ (s.bootRuns 10 = false ∨ s.saf.halted = true → exec (.profile ok) s = .next s.begin)
    ∧ (s.bootRuns 11 = false → exec (.calib ok) s = .next s.begin) ∧ (s.bootRuns 12 = false → exec (.kernels ok) s = .next s.begin))

/-- The boot steps LINKS, TILES, SAFE_READY and FIRST_LIGHT, EPOCH_SAVE, and the journal's commands CLR_AVOID and MIRROR_NOW. LINKS puts the link engines
to work, queues STATUS on each ACTIVE link and asks for the used safety outputs. TILES enables TLN and the lanes of the profile's tiles, and ends when
each is ACTIVE, in service or FAILED, with CMP enabled. SAFE_READY ends once FSTATE is ARMED or later. FIRST_LIGHT, at FSTATE 3 with tile power on,
ends the boot: PHASE 1, TRIES 0, and a trial slot is confirmed, or waits for CONFIRM with MANUAL set. EPOCH_SAVE stores an unsaved epoch in flash, in
the older copy, and sets SAVED, or waits for the temperature window. CLR_AVOID clears the AVOID bits of the open journal, and MIRROR_NOW writes the
journal with its CRC to the older flash copy; nothing else changes. Where the CRC of a flash copy lies is the model's choice (log 8). -/
def Obligations.BootEnd : Prop :=
  (∀ s copies, s.bootRuns 13 = true →
    ∃ t, exec (.links copies) s = .next t ∧ t.cmd.served = true ∧ t.g F.RST_BOOT_STAT_STEP = 14
      ∧ (∀ l, l < 2 → s.active l = true → (t.link l).status.isSome = true)
      ∧ (s.saf.halted = false → t.g F.SAF_SOUT_CTRL_ON = s.usedOuts)
      ∧ s.Within (Foot.reaction [0x02, 0x10] [.mem, .rst, .lnkA, .lnkB, .cmd]) t)
  ∧ (∀ s, s.bootRuns 14 = true →
    ∃ t, exec .tiles s = .next t ∧ t.g (F.UNIT_CTRL_ENABLE 0x50) = 1 ∧ (∀ n, n ∈ s.profTiles → t.g (F.UNIT_CTRL_ENABLE (0x51 + n)) = 1)
      ∧ (s.profTiles.all s.laneSettled = true → t.g F.RST_BOOT_STAT_STEP = 15 ∧ t.g (F.UNIT_CTRL_ENABLE 0x18) = 1)
      ∧ (s.profTiles.all s.laneSettled = false → t.g F.RST_BOOT_STAT_STEP = 14))
  ∧ (∀ s, s.bootRuns 15 = true → s.g F.SAF_STAT_FSTATE = 2 ∨ s.g F.SAF_STAT_FSTATE = 3 →
    ∃ t, exec .safeReady s = .next t ∧ t.g F.RST_BOOT_STAT_STEP = 16 ∧ s.Within (Foot.reaction [0x02] [.mem, .rst]) t)
  ∧ (∀ s, s.bootRuns 16 = true → s.g F.SAF_STAT_FSTATE = 3 → s.tilePower = true → s.shaped = true →
    ∃ t, exec .firstLight s = .next t ∧ t.g F.RST_BOOT_STAT_PHASE = 1 ∧ t.g F.RST_BOOT_STAT_TRIES = 0 ∧ t.rst.lit = true
      ∧ (∀ n, s.upd.trial = some n → n < 2 → s.on F.UPD_CTRL_MANUAL = false → t.slotState n = 6 ∧ t.upd.trial = none ∧ t.on F.UPD_EVT_CONFIRMED = true
          ∧ (s.slotState (otherSlot n) = 6 → t.slotState (otherSlot n) = 3))
      ∧ (∀ n, s.upd.trial = some n → s.on F.UPD_CTRL_MANUAL = true → t.upd.trial = some n ∧ t.upd.trialAt = some s.now))
  ∧ (∀ s, s.g F.RST_EPOCH_EPOCH ≠ 0 → s.on F.RST_EPOCH_STAT_SAVED = false → s.garnetRuns = true →
    (s.on F.THM_STAT_FLASH_OK = true → s.epochStored.1 < 0xFFFFFFFF →
      ∃ t, exec .epochSave s = .next t ∧ t.on F.RST_EPOCH_STAT_SAVED = true ∧ t.epochStored = (s.epochStored.1 + 1, s.g F.RST_EPOCH_EPOCH)
        ∧ (∀ a, a < epochCopy s.epochOlder ∨ epochCopy s.epochOlder + 12 ≤ a → t.byte a = s.byte a)
        ∧ s.begin.Only [F.RST_EPOCH_STAT_SAVED] [.mem] t)
    ∧ (s.on F.THM_STAT_FLASH_OK = false →
      ∃ t, exec .epochSave s = .next t ∧ Deferred.epoch ∈ t.thm.deferred ∧ s.begin.Only [] [.thm] t))
  ∧ (∀ s m v, s.masterRuns m = true → s.mayWrite m 0x02 0x5C = true → wordField v 0 0 = 1 → s.rst.journalOpen = true →
    ∃ t, exec (.clrAvoid m v) s = .next t ∧ t.g F.RST_BJ_AVOID_AVOID = 0 ∧ t.jget 8 4 = 0 ∧ s.begin.Only [F.RST_BJ_AVOID_AVOID] [.mem, .rst, .thm] t)
  ∧ (∀ s m v, s.masterRuns m = true → s.mayWrite m 0x02 0x5C = true → wordField v 0 0 = 0 → wordField v 1 1 = 1 →
    (s.on F.THM_STAT_FLASH_OK = true →
      ∃ t, exec (.mirrorNow m v) s = .next t ∧ t.bytes (journalCopy s.rst.copy) 1120 = s.bytes journalBase 1120
        ∧ t.le (journalCopy s.rst.copy + 1120) 4 = crc32 (s.bytes journalBase 1120) ∧ t.rst = { s.rst with copy := 1 - s.rst.copy }
        ∧ (∀ a, a < journalCopy s.rst.copy ∨ journalCopy s.rst.copy + 1124 ≤ a → t.byte a = s.byte a) ∧ s.begin.Only [] [.mem, .rst] t)
    ∧ (s.on F.THM_STAT_FLASH_OK = false →
      ∃ t, exec (.mirrorNow m v) s = .next t ∧ Deferred.journal ∈ t.thm.deferred ∧ s.begin.Only [] [.thm] t))
  ∧ (∀ s m v, s.masterRuns m = true → s.mayWrite m 0x02 0x5C = true → wordField v 1 0 = 0 →
    exec (.clrAvoid m v) s = .next s.begin ∧ exec (.mirrorNow m v) s = .next s.begin)
  ∧ (∀ s copies, (s.bootRuns 13 = false → exec (.links copies) s = .next s.begin) ∧ (s.bootRuns 14 = false → exec .tiles s = .next s.begin)
    ∧ (s.bootRuns 15 = false ∨ (s.g F.SAF_STAT_FSTATE ≠ 2 ∧ s.g F.SAF_STAT_FSTATE ≠ 3) → exec .safeReady s = .next s.begin)
    ∧ (s.bootRuns 16 = false ∨ s.g F.SAF_STAT_FSTATE ≠ 3 ∨ s.tilePower = false → exec .firstLight s = .next s.begin)
    ∧ (s.g F.RST_EPOCH_EPOCH = 0 ∨ s.on F.RST_EPOCH_STAT_SAVED = true ∨ s.garnetRuns = false → exec .epochSave s = .next s.begin))

/-- UNIT_CTRL: BLK_RESET, BLOCK_RESET_END, QUIESCENCE_END, WORLD_WRITE. By a master that may write UNIT_CTRL: a block reset of SYS is ignored; one of RST,
FLT, EVR, SEC or FUS sets BLK_REJ alone; one of any other unit starts the reset and its window and names the unit. For a unit without further duties
the block bits of the active and shadow banks take their reset values, every other bit and all of memory stay. A link in ALIGN or beyond aligns again
with its buffer empty, and a lane that is neither OFF nor FAILED starts anew. The end of the reset leaves the window open, and its end closes it;
without a reset under way, or a window, they change nothing. Garnet changes the WORLD of a page whose world is its own and not fixed, and that alone;
another master's WORLD is ignored where it equals the world in force, and is else recorded as a violation with WORLD as it was; on the pages that
Flint alone writes, GOV and SAF, FIELD_OK follows its terms as well. A change of ENABLE takes place where it is not held. In a self-test run the page
BST takes none of this. -/
def Obligations.BlockResetsAndWorlds : Prop :=
  (∀ s m, s.masterRuns m = true → s.mayWrite m 0x00 0x08 = true → exec (.blkReset m 0x00) s = .next s.begin)
  ∧ (∀ s m p, p ∈ [0x02, 0x70, 0x71, 0x78, 0x7A] → s.masterRuns m = true → s.mayWrite m p 0x08 = true →
    ∃ t, exec (.blkReset m p) s = .next t ∧ t.on F.RST_EVT_BLK_REJ = true ∧ s.begin.Only [F.RST_EVT_BLK_REJ, F.UNIT_IRQ_STAT_EVT 0x02] [] t)
  ∧ (∀ s m p, p < 0x8D → assigned p = true → p ≠ 0x00 → blkRefused p = false → s.masterRuns m = true → s.mayWrite m p 0x08 = true → (p = 0x79 → s.bistRuns = false) →
    ∃ t, exec (.blkReset m p) s = .next t ∧ t.blockRunning p = true ∧ t.quiet p = true ∧ t.g F.RST_BLK_STAT_LAST_UNIT = p
      ∧ t.rst = { s.rst with blocks := ⟨p, true⟩ :: s.rst.blocks.filter (fun b => b.page ≠ p) }
      ∧ (p ∈ [0x03, 0x0A, 0x10, 0x40, 0x80, 0x81, 0x88, 0x89, 0x8A, 0x8B, 0x8C] →
        (∀ a, a / 4096 = p → t.word a &&& blockMask a = resetWord a &&& blockMask a ∧ t.shadowWord a &&& blockMask a = resetWord a &&& blockMask a
          ∧ (s.regsWf = true → t.word a &&& ~~~ (blockMask a) = s.word a &&& ~~~ (blockMask a)))
        ∧ t.mem = s.mem)
      ∧ (∀ l, l < 2 → p = 8 + l → (t.link l).rx = [] ∧ (4 ≤ s.lst l → s.lst l ≤ 6 → t.lst l = 3))
      ∧ (∀ n, n < 8 → p = 0x51 + n → s.tlst n ≠ 0 → s.tlst n ≠ 8 → t.tlst n = 1))
  ∧ (∀ s p, s.rst.blocks.any (fun b => b.page = p && b.running) = true →
    ∃ t, exec (.blockResetEnd p) s = .next t ∧ t.rst = { s.rst with blocks := s.rst.blocks.map (fun b => if b.page = p then { b with running := false } else b) }
      ∧ t.quiet p = true ∧ s.Within (Foot.of [0x68] [.flt, .saf, .rst, .cal]) t)
  ∧ (∀ s p, s.rst.blocks.any (fun b => b.page = p && b.running) = false → exec (.blockResetEnd p) s = .next s.begin)
  ∧ (∀ s p, ∃ t, exec (.quiescenceEnd p) s = .next t ∧ t.rst = { s.rst with blocks := s.rst.blocks.filter (fun b => b.page ≠ p || b.running) }
      ∧ s.begin.Only [] [.rst] t)
  ∧ (∀ s p v, p < 0x8D → assigned p = true → worldFixed p = false → groupPage p = p → s.masterRuns .garnet = true → s.mayWrite .garnet p 0x08 = true →
      (p = 0x79 → s.bistRuns = false) → wordField v 1 1 = 0 → wordField v 0 0 = s.g (F.UNIT_CTRL_ENABLE p) →
    ∃ t, exec (.worldWrite .garnet p v) s = .next t ∧ t.world p = wordField v 2 2 ∧ s.begin.Only [F.UNIT_CTRL_WORLD p] [] t)
  ∧ (∀ s m p v, p < 0x8D → assigned p = true → m ≠ .garnet → s.masterRuns m = true → s.mayWrite m p 0x08 = true →
      (p = 0x79 → s.bistRuns = false) → wordField v 1 1 = 0 → wordField v 0 0 = s.g (F.UNIT_CTRL_ENABLE p) →
    (wordField v 2 2 = s.world p → exec (.worldWrite m p v) s = .next (if p = 0x68 ∨ p = 0x40 then s.begin.settle else s.begin))
    ∧ (wordField v 2 2 ≠ s.world p →
      ∃ t, exec (.worldWrite m p v) s = .next t ∧ t.world p = s.world p ∧ t.on F.SEC_EVT_VIOL = true
        ∧ t.g F.SEC_VIOL_COUNT = min F.SEC_VIOL_COUNT.top (s.g F.SEC_VIOL_COUNT + 1)
        ∧ (s.on F.SEC_EVT_VIOL = false → t.g F.SEC_VIOL_MASTER = masterId m ∧ t.g F.SEC_VIOL_WRITE = 1 ∧ t.g F.SEC_VIOL_ADDR_ADDR = 0x40000008 + 0x1000 * p)
        ∧ (s.defLevel S.SEC_WORLD ≠ 0 → t.on (fltPend S.SEC_WORLD) = true) ∧ s.Within (Foot.reaction [0x78] []) t))
  ∧ (∀ s m p v, p < 0x8D → assigned p = true → s.masterRuns m = true → s.mayWrite m p 0x08 = true → (p = 0x79 → s.bistRuns = false) →
      wordField v 1 1 = 0 → wordField v 2 2 = s.world p → wordField v 0 0 ≠ s.g (F.UNIT_CTRL_ENABLE p) → wordField v 0 0 = 1 ∨ s.enableHeld p = false →
    ∃ t, exec (.worldWrite m p v) s = .next t ∧ t.g (F.UNIT_CTRL_ENABLE p) = wordField v 0 0)
  ∧ (∀ s m v, s.masterRuns m = true → s.mayWrite m 0x79 0x08 = true → s.bistRuns = true →
    exec (.worldWrite m 0x79 v) s = .next s.begin ∧ exec (.blkReset m 0x79) s = .next s.begin)

/-- UNIT_COMMIT and DISCARD: an accepted commit, an empty one, a rejected one, and the shadow bank restored. By a master that may write UNIT_COMMIT of a
page outside GOV, SAF and a self-test run: a GO whose checks pass counts in the page's COUNT, clears COMMIT_ERR and sets the commit bit of its
interrupt register; a page that commits at once, beside those with work of their own at that moment, has the shadow values in its active RWC bits
afterwards, and one that waits for a point of the frame holds them in its pending bank with the active bits as they were. A GO to a page without RWC
fields counts alone. A GO whose checks fail, or one in a block reset, sets COMMIT_ERR and the commit bit, with every bank as it was. DISCARD, alone or
with GO, gives the page's shadow RWC bits the values in force after every pending commit, and changes nothing else. A write of neither changes
nothing, and in a self-test run the page BST takes none. On GOV and SAF, which Flint alone writes, the same holds, with FIELD_OK following its terms:
a SAF commit that passes puts the shadow values in force and starts every input anew, INIT where it is used; one that fails shows the first case that
it meets; GOV commits nothing. -/
def Obligations.CommitsAndDiscard : Prop :=
  (∀ s m p v, p < 0x8D → assigned p = true → s.masterRuns m = true → s.mayWrite m p 0x30 = true → p ≠ 0x68 → p ≠ 0x40 → (p = 0x79 → s.bistRuns = false) →
      let bad := (if (commitPages p).contains p then commitPages p else p :: commitPages p).filter (s.pageBad (s.candidate (commitPages p)))
    (wordField v 1 1 = 0 → wordField v 0 0 = 1 → s.blockRunning p = false → commitPages p ≠ [] → bad = [] →
      ∃ t, exec (.unitCommit m p v) s = .next t ∧ t.g (F.UNIT_COMMIT_COUNT p) = (s.g (F.UNIT_COMMIT_COUNT p) + 1) % 2 ^ 16
        ∧ t.on (F.UNIT_STATUS_COMMIT_ERR p) = false ∧ t.on (F.UNIT_IRQ_STAT_COMMIT p) = true
        ∧ (p ∈ [0x04, 0x0B, 0x10, 0x89, 0x8A, 0x8B, 0x8C] → s.regsWf = true → s.atOnce p = true →
            ∀ a, a / 4096 = p → t.word a &&& accMask .rwc a = s.shadowWord a &&& accMask .rwc a)
        ∧ (s.atOnce p = false → s.regsWf = true → p ∈ commitPages p → t.pendPages.contains p = true
            ∧ ∀ a, a / 4096 = p → tabGet resetWord t.pend a = s.shadowWord a ∧ t.word a &&& accMask .rwc a = s.word a &&& accMask .rwc a))
    ∧ (wordField v 1 1 = 0 → wordField v 0 0 = 1 → s.blockRunning p = false → commitPages p = [] →
      ∃ t, exec (.unitCommit m p v) s = .next t ∧ t.g (F.UNIT_COMMIT_COUNT p) = (s.g (F.UNIT_COMMIT_COUNT p) + 1) % 2 ^ 16
        ∧ t.on (F.UNIT_STATUS_COMMIT_ERR p) = false ∧ t.on (F.UNIT_IRQ_STAT_COMMIT p) = true
        ∧ s.begin.Only [F.UNIT_COMMIT_COUNT p, F.UNIT_STATUS_COMMIT_ERR p, F.UNIT_IRQ_STAT_COMMIT p] [] t)
    ∧ (wordField v 1 1 = 0 → wordField v 0 0 = 1 → s.blockRunning p = false → bad ≠ [] → commitPages p ≠ [] →
      ∃ t, exec (.unitCommit m p v) s = .next t ∧ t.on (F.UNIT_STATUS_COMMIT_ERR p) = true ∧ t.on (F.UNIT_IRQ_STAT_COMMIT p) = true
        ∧ t.g (F.UNIT_COMMIT_COUNT p) = s.g (F.UNIT_COMMIT_COUNT p) ∧ (∀ a, t.word a &&& accMask .rwc a = s.word a &&& accMask .rwc a)
        ∧ s.begin.PartsWithin (Foot.of [] []) t)
    ∧ (wordField v 1 1 = 0 → wordField v 0 0 = 1 → s.blockRunning p = true →
      ∃ t, exec (.unitCommit m p v) s = .next t ∧ t.on (F.UNIT_STATUS_COMMIT_ERR p) = true ∧ t.on (F.UNIT_IRQ_STAT_COMMIT p) = true
        ∧ s.begin.Only [F.UNIT_STATUS_COMMIT_ERR p, F.UNIT_IRQ_STAT_COMMIT p] [] t)
    ∧ (wordField v 1 1 = 1 → s.regsWf = true →
      ∃ t, exec (.discard m p v) s = .next t ∧ s.begin.Only [] [.shadow] t
        ∧ (∀ a, a / 4096 = p → t.shadowWord a &&& accMask .rwc a = s.afterPending.word a &&& accMask .rwc a)
        ∧ (∀ a, a / 4096 ≠ p → t.shadowWord a = s.shadowWord a))
    ∧ (wordField v 1 1 = 0 → wordField v 0 0 = 0 → exec (.unitCommit m p v) s = .next s.begin ∧ exec (.discard m p v) s = .next s.begin))
  ∧ (∀ s m v, s.masterRuns m = true → s.mayWrite m 0x79 0x30 = true → s.bistRuns = true →
    exec (.unitCommit m 0x79 v) s = .next s.begin ∧ exec (.discard m 0x79 v) s = .next s.begin)
  ∧ (∀ s p v, s.masterRuns .flint = true → p = 0x40 ∨ p = 0x68 →
    (wordField v 1 1 = 0 → wordField v 0 0 = 0 → exec (.unitCommit .flint p v) s = .next s.begin.settle ∧ exec (.discard .flint p v) s = .next s.begin.settle)
    ∧ (wordField v 1 1 = 1 → s.regsWf = true →
      ∃ t, exec (.discard .flint p v) s = .next t ∧ s.begin.Only [F.SAF_STAT_FSTATE] [.shadow] t
        ∧ (∀ a, a / 4096 = p → t.shadowWord a &&& accMask .rwc a = s.afterPending.word a &&& accMask .rwc a)
        ∧ (∀ a, a / 4096 ≠ p → t.shadowWord a = s.shadowWord a))
    ∧ (wordField v 1 1 = 0 → wordField v 0 0 = 1 → s.blockRunning p = true →
      ∃ t, exec (.unitCommit .flint p v) s = .next t ∧ t.on (F.UNIT_STATUS_COMMIT_ERR p) = true ∧ t.on (F.UNIT_IRQ_STAT_COMMIT p) = true
        ∧ s.begin.Only [F.UNIT_STATUS_COMMIT_ERR p, F.UNIT_IRQ_STAT_COMMIT p, F.SAF_STAT_FSTATE] [] t)
    ∧ (wordField v 1 1 = 0 → wordField v 0 0 = 1 → s.blockRunning p = false → p = 0x40 →
      ∃ t, exec (.unitCommit .flint p v) s = .next t ∧ t.g (F.UNIT_COMMIT_COUNT p) = (s.g (F.UNIT_COMMIT_COUNT p) + 1) % 2 ^ 16
        ∧ t.on (F.UNIT_STATUS_COMMIT_ERR p) = false ∧ t.on (F.UNIT_IRQ_STAT_COMMIT p) = true
        ∧ s.begin.Only [F.UNIT_COMMIT_COUNT p, F.UNIT_STATUS_COMMIT_ERR p, F.UNIT_IRQ_STAT_COMMIT p, F.SAF_STAT_FSTATE] [] t)
    ∧ (wordField v 1 1 = 0 → wordField v 0 0 = 1 → s.blockRunning p = false → p = 0x68 → s.safRej (s.candidate [0x68]) = 0 → s.regsWf = true →
      ∃ t, exec (.unitCommit .flint p v) s = .next t ∧ t.g (F.UNIT_COMMIT_COUNT p) = (s.g (F.UNIT_COMMIT_COUNT p) + 1) % 2 ^ 16
        ∧ t.on (F.UNIT_STATUS_COMMIT_ERR p) = false ∧ t.on (F.UNIT_IRQ_STAT_COMMIT p) = true
        ∧ (∀ a, a / 4096 = p → t.word a &&& accMask .rwc a = s.shadowWord a &&& accMask .rwc a)
        ∧ (∀ n, n < 4 → t.sinState n = t.g (F.SAF_SIN_CFG_USED n)))
    ∧ (wordField v 1 1 = 0 → wordField v 0 0 = 1 → s.blockRunning p = false → p = 0x68 → s.safRej (s.candidate [0x68]) ≠ 0 →
      ∃ t, exec (.unitCommit .flint p v) s = .next t ∧ t.g F.SAF_REJ_REASON = s.safRej (s.candidate [0x68])
        ∧ t.on (F.UNIT_STATUS_COMMIT_ERR p) = true ∧ t.on (F.UNIT_IRQ_STAT_COMMIT p) = true
        ∧ s.begin.Only [F.SAF_REJ_REASON, F.UNIT_STATUS_COMMIT_ERR p, F.UNIT_IRQ_STAT_COMMIT p, F.SAF_STAT_FSTATE] [] t))

/-- Bus accesses: REGISTER_WRITE, REGISTER_READ, MEMORY_WRITE, and BUS through an open TAP; what the fabric refuses. A write to a register whose fields
act by their access codes alone leaves RW bits as written, W1C bits cleared where 1 is written, RWC bits in the shadow bank, and every other register
as it was; on Flint's pages FIELD_OK follows its terms as well, and in a self-test run the page BST takes nothing. A read returns the register's word;
the LO half of a pair latches HI for that master, and the next read of HI by it returns the latched word. A write or read of another width or
alignment, of an unassigned page, or of no region sets its event alone. A refused access is counted, raises SEC_WORLD, and the first is recorded; it
reads 0 and changes no register of the page. A memory read returns its bytes, and one that ECC corrects is raised. A memory write stores its bytes and
no others; one to flash is a violation, one to a tile's store that is not in LOAD and one to a kernel slot in use set their events alone. BUS does the
same through an open TAP, and nothing through a closed one. A master that is not clocked makes no access. -/
def Obligations.RegisterAndMemoryAccess : Prop :=
  (∀ s m p off v, s.masterRuns m = true → plainReg p off = true →
    (s.mayWrite m p off = true →
      ∃ t, exec (.registerWrite m (pageAddr p off) v) s = .next t ∧ s.WriteLeaves p off v t ∧ s.begin.PartsWithin (Foot.of [] [.shadow]) t)
    ∧ (s.mayWrite m p off = false →
      ∃ t, exec (.registerWrite m (pageAddr p off) v) s = .next t ∧ t.on F.SEC_EVT_VIOL = true
        ∧ t.g F.SEC_VIOL_COUNT = min F.SEC_VIOL_COUNT.top (s.g F.SEC_VIOL_COUNT + 1)
        ∧ (s.on F.SEC_EVT_VIOL = false → t.g F.SEC_VIOL_MASTER = masterId m ∧ t.g F.SEC_VIOL_WRITE = 1 ∧ t.g F.SEC_VIOL_ADDR_ADDR = pageAddr p off)
        ∧ (s.defLevel S.SEC_WORLD ≠ 0 → t.on (fltPend S.SEC_WORLD) = true) ∧ s.Within (Foot.reaction [0x78] []) t))
  ∧ (∀ s p off v, s.masterRuns .flint = true → p = 0x40 ∨ p = 0x68 → off < 4096 → off % 4 = 0 → off ≠ 0x08 → off ≠ 0x30 →
      ¬ (p = 0x68 ∧ off ∈ [0x50, 0x54, 0x58, 0x80]) →
    ∃ t, exec (.registerWrite .flint (pageAddr p off) v) s = .next t
      ∧ (p * 4096 + off ≠ F.SAF_STAT_FSTATE.addr → t.word (p * 4096 + off) = s.written (p * 4096 + off) (s.takeWord p off v))
      ∧ t.shadowWord (p * 4096 + off) =
        (s.shadowWord (p * 4096 + off) &&& ~~~ (accMask .rwc (p * 4096 + off))) ||| (s.takeWord p off v &&& accMask .rwc (p * 4096 + off))
      ∧ (∀ o, o ≠ p * 4096 + off → o ≠ F.SAF_STAT_FSTATE.addr → t.word o = s.word o)
      ∧ (∀ o, o ≠ p * 4096 + off → t.shadowWord o = s.shadowWord o) ∧ s.begin.PartsWithin (Foot.of [] [.shadow]) t)
  ∧ (∀ s m off v, s.masterRuns m = true → off < 4096 → off % 4 = 0 → s.mayWrite m 0x79 off = true →
    (s.bistRuns = true → exec (.registerWrite m (pageAddr 0x79 off) v) s = .next s.begin)
    ∧ (s.bistRuns = false → off ∉ [0x08, 0x30, 0x40, 0x64] →
      ∃ t, exec (.registerWrite m (pageAddr 0x79 off) v) s = .next t ∧ s.WriteLeaves 0x79 off v t ∧ s.begin.PartsWithin (Foot.of [] [.shadow]) t))
  ∧ (∀ s m v a, s.masterRuns m = true → regionOf a = some .pages → a % 4 ≠ 0 →
    ∃ t, exec (.registerWrite m a v) s = .next t ∧ t.on F.SYS_EVT_WIDTH = true ∧ s.begin.Only [F.SYS_EVT_WIDTH, F.UNIT_IRQ_STAT_EVT 0x00] [] t)
  ∧ (∀ s m v p off, s.masterRuns m = true → p < 0x8D → off < 4096 → off % 4 = 0 → assigned p = false →
    (∃ t, exec (.registerWrite m (pageAddr p off) v) s = .next t ∧ t.on F.SYS_EVT_NOPAGE = true ∧ s.begin.Only [F.SYS_EVT_NOPAGE, F.UNIT_IRQ_STAT_EVT 0x00] [] t)
    ∧ (∃ t, exec (.registerRead m (pageAddr p off) 4 0) s = .next t ∧ t.on F.SYS_EVT_NOPAGE = true ∧ t.readData = [0]
        ∧ s.begin.Only [F.SYS_EVT_NOPAGE, F.UNIT_IRQ_STAT_EVT 0x00] [.readData] t))
  ∧ (∀ s m p off, s.masterRuns m = true → p < 0x8D → off < 4096 → off % 4 = 0 → assigned p = true →
      let o := p * 4096 + off
    (s.mayRead m p = true → hiOf o = none → s.latches.find? (fun e => e.1 = (masterId m, o)) = none →
      ∃ t, exec (.registerRead m (pageAddr p off) 4 0) s = .next t ∧ t.readData = [s.begin.readWord o] ∧ s.begin.Only [] [.readData] t)
    ∧ (∀ h, s.mayRead m p = true → hiOf o = some h →
      ∃ t, exec (.registerRead m (pageAddr p off) 4 0) s = .next t ∧ t.readData = [s.begin.readWord o]
        ∧ t.latches.find? (fun e => e.1 = (masterId m, h)) = some ((masterId m, h), s.begin.readWord h) ∧ s.begin.Only [] [.latches, .readData] t)
    ∧ (∀ w, s.mayRead m p = true → hiOf o = none → s.latches.find? (fun e => e.1 = (masterId m, o)) = some ((masterId m, o), w) →
      ∃ t, exec (.registerRead m (pageAddr p off) 4 0) s = .next t ∧ t.readData = [w] ∧ t.latches.find? (fun e => e.1 = (masterId m, o)) = none
        ∧ s.begin.Only [] [.latches, .readData] t)
    ∧ (s.mayRead m p = false →
      ∃ t, exec (.registerRead m (pageAddr p off) 4 0) s = .next t ∧ t.readData = [0] ∧ t.on F.SEC_EVT_VIOL = true
        ∧ (s.on F.SEC_EVT_VIOL = false → t.g F.SEC_VIOL_MASTER = masterId m ∧ t.g F.SEC_VIOL_WRITE = 0 ∧ t.g F.SEC_VIOL_ADDR_ADDR = pageAddr p off)
        ∧ s.Within (Foot.reaction [0x78] [.readData]) t))
  ∧ (∀ s m a size, s.masterRuns m = true → size = 1 ∨ size = 2 ∨ size = 4 →
      (∀ i, i < size → s.readRefused m (a + i) = false ∧ ∃ r, regionOf (a + i) = some r ∧ r ≠ .pages ∧ (r = .flash → a + i - 0x60000000 < Config.flashSize)) →
    (eccSource (a - a % 4) = none ∨ (∃ c u, eccSource (a - a % 4) = some (c, u) ∧ s.armed c = false ∧ s.armed u = false) →
      ∃ t, exec (.registerRead m a size 0) s = .next t ∧ t.readData = [BitVec.ofNat 32 (s.le a size)] ∧ s.begin.Only [] [.readData] t)
    ∧ (regionOf (a - a % 4) = some .sram → s.armed S.SRAM_ECC_COR = false → s.armed S.SRAM_ECC_UNC = false →
      (∃ t, exec (.registerRead m a size 1) s = .next t ∧ t.readData = [BitVec.ofNat 32 (s.le a size)]
        ∧ (s.defLevel S.SRAM_ECC_COR ≠ 0 → t.on (fltPend S.SRAM_ECC_COR) = true))
      ∧ (∃ t, exec (.registerRead m a size 2) s = .next t ∧ t.fresh = s.fresh + 1
        ∧ (s.defLevel S.SRAM_ECC_UNC ≠ 0 → t.on (fltPend S.SRAM_ECC_UNC) = true))))
  ∧ (∀ s m a size, s.masterRuns m = true → regionOf a = none → 0 < size → s.readRefused m a = false →
      (∀ i, i < size → s.readRefused m (a + i) = false) →
    ∃ t, exec (.registerRead m a size 0) s = .next t ∧ t.readData = [0] ∧ t.on F.SYS_EVT_NOMAP = true
      ∧ s.begin.Only [F.SYS_EVT_NOMAP, F.UNIT_IRQ_STAT_EVT 0x00] [.readData] t)
  ∧ (∀ s m a b, s.masterRuns m = true → b ≠ [] →
      (∀ i, i < b.length → s.writeViolates m (a + i) = false ∧ ∃ r, regionOf (a + i) = some r ∧ r ≠ .pages ∧ r ≠ .rom) →
    ((∀ i, i < b.length → s.storeRefuses (a + i) = false ∧ s.kslotRefuses (a + i) = false) →
      ∃ t, exec (.memoryWrite m a b) s = .next t ∧ t.bytes a b.length = b ∧ (∀ x, x < a ∨ a + b.length ≤ x → t.byte x = s.byte x)
        ∧ s.begin.Only [] [.mem] t)
    ∧ ((∃ i, i < b.length ∧ s.storeRefuses (a + i) = true) →
      ∃ t, exec (.memoryWrite m a b) s = .next t ∧ t.on F.CAL_EVT_STORE_WR = true ∧ s.begin.Only [F.CAL_EVT_STORE_WR, F.UNIT_IRQ_STAT_EVT 0x48] [] t)
    ∧ ((∀ i, i < b.length → s.storeRefuses (a + i) = false) → (∃ i, i < b.length ∧ s.kslotRefuses (a + i) = true) →
      ∃ t, exec (.memoryWrite m a b) s = .next t ∧ t.on F.GLR_EVT_KSLOT_WR = true ∧ s.begin.Only [F.GLR_EVT_KSLOT_WR, F.UNIT_IRQ_STAT_EVT 0x30] [] t))
  ∧ (∀ s m a b, s.masterRuns m = true → b ≠ [] → regionOf a ≠ some .pages → s.writeViolates m a = true →
    ∃ t, exec (.memoryWrite m a b) s = .next t ∧ t.on F.SEC_EVT_VIOL = true ∧ (s.on F.SEC_EVT_VIOL = false → t.g F.SEC_VIOL_ADDR_ADDR = a % 2 ^ 32)
      ∧ s.Within (Foot.reaction [0x78] []) t)
  ∧ (∀ s p off v, s.tapUp = true → s.on F.SEC_TAP_OPEN = true → s.masterRuns .tap = true → plainReg p off = true →
    (s.mayWrite .tap p off = true →
      ∃ t, exec (.bus true (pageAddr p off) v) s = .next t ∧ s.WriteLeaves p off v t ∧ s.begin.PartsWithin (Foot.of [] [.shadow, .sec]) t)
    ∧ (s.mayRead .tap p = true → hiOf (p * 4096 + off) = none → s.latches.find? (fun e => e.1 = (masterId .tap, p * 4096 + off)) = none →
      ∃ t, exec (.bus false (pageAddr p off) v) s = .next t ∧ t.readData = [s.begin.tapInstr.readWord (p * 4096 + off)] ∧ s.begin.Only [] [.sec, .readData] t))
  ∧ (∀ s w a v, s.tapUp = true → s.on F.SEC_TAP_OPEN = false ∨ s.masterRuns .tap = false →
    ∃ t, exec (.bus w a v) s = .next t ∧ t.sec = { s.sec with trst := false, extest := false, scan := false } ∧ s.begin.Only [] [.sec] t)
  ∧ (∀ s w a v, s.tapUp = false → exec (.bus w a v) s = .next s.begin)
  ∧ (∀ s m a v size ecc b, s.masterRuns m = false →
    exec (.registerWrite m a v) s = .next s.begin ∧ exec (.registerRead m a size ecc) s = .next s.begin ∧ exec (.memoryWrite m a b) s = .next s.begin)

/-- GOV, SAF, CSF and Granite RAM take writes from Flint alone. A register write to the GOV, SAF or CSF page by any master but Flint, Garnet included, is
exactly the world violation that the fabric records: nothing of the written value enters the machine. A write that would reach a byte of Granite RAM
by such a master leaves all of memory as it was, and one that begins there is the violation alone. A violation leaves memory, the banks of shadow and
pending values and CSF as they were. Flint's own writes to these resources are let through by the fabric. -/
def Obligations.GraniteWritesFromFlintAlone : Prop :=
  (∀ s m p off v, m ≠ .flint → s.masterRuns m = true → p ∈ [0x0B, 0x40, 0x68] → off < 4096 → off % 4 = 0 →
    exec (.registerWrite m (pageAddr p off) v) s = .next (s.begin.violation m (pageAddr p off) true))
  ∧ (∀ s m a b, m ≠ .flint → s.masterRuns m = true → b ≠ [] → regionOf a = some .graniteRam →
    exec (.memoryWrite m a b) s = .next (s.begin.violation m a true))
  ∧ (∀ (s : State) m a b i, m ≠ .flint → i < b.length → regionOf (a + i) = some .graniteRam → (s.busWrite m a b).mem = s.mem)
  ∧ (∀ (s : State) m a w, (s.violation m a w).on F.SEC_EVT_VIOL = true ∧ (s.violation m a w).mem = s.mem ∧ (s.violation m a w).shadow = s.shadow
    ∧ (s.violation m a w).pend = s.pend ∧ (s.violation m a w).gov = s.gov ∧ (s.violation m a w).csf = s.csf
    ∧ ∀ o, o / 4096 = 0x0B → (s.violation m a w).word o = s.word o)
  ∧ (∀ (s : State) p off, p ∈ [0x0B, 0x40, 0x68] → s.mayWrite .flint p off = true)
  ∧ (∀ (s : State) a, regionOf a = some .graniteRam → s.writeViolates .flint a = false)

/-- A write of UNIT_COMMIT with GO and DISCARD discards alone. A write by a master that may write UNIT_COMMIT of a page, outside GOV and SAF and a
self-test run, with GO and DISCARD both 1 gives the page's shadow RWC bits the values in force after every pending commit. Nothing else changes: no
COUNT, no COMMIT_ERR, no pending and no active bank. -/
def Obligations.DiscardWinsOverGo : Prop :=
  ∀ s m p v, p < 0x8D → assigned p = true → s.masterRuns m = true → s.mayWrite m p 0x30 = true → p ≠ 0x68 → p ≠ 0x40 → (p = 0x79 → s.bistRuns = false) →
      wordField v 0 0 = 1 → wordField v 1 1 = 1 →
    ∃ t, exec (.unitCommit m p v) s = .next t ∧ s.begin.Only [] [.shadow] t
      ∧ (∀ a, a / 4096 = p → t.shadowWord a &&& accMask .rwc a = s.afterPending.word a &&& accMask .rwc a)

/-- A step runs the command at the front of the queue on the state with the queue's rest; with no command waiting a core cycle passes. Whatever command
stands at the front of the queue, the step is that command's effect on the state that holds the rest of the queue, and the command leaves that rest as
it is. With an empty queue the step is one core cycle: this is the model's choice (log 4), as is the queue itself. -/
def Obligations.StepRunsTheFront : Prop :=
  (∀ s c rest, s.pending = c :: rest → step s = exec c (s.popped rest))
  ∧ (∀ s c t, exec c s = .next t → t.pending = s.pending)
  ∧ (∀ (s : State) rest, (s.popped rest).pending = rest ∧ (s.popped rest).popped s.pending = s)
  ∧ (∀ s, s.pending = [] → step s = .next s.tick)

/-- The machine right after a power-on reset. A cold reset is in progress; RST_CAUSE shows POR, and every other register, active, shadow and pending, is
at its reset value, among them the 240 Hz frame period and the quiescence window. The root is in HOLD, the safety state is INIT without lock-out and
FIELD_OK is low, the lanes and links are OFF, the units of R38 are in world S, no commit is pending and no command waits. Memories and banks are in
canonical form, and no zone's sum exceeds its limit, so that both invariants hold. What the tables below the registers hold is the model's choice
(logs 2, 3 and 5). -/
def Obligations.ResetState : Prop :=
  State.reset.rst.scope = some .cold ∧ State.reset.rst.cold = true ∧ State.reset.g F.RST_CAUSE_POR = 1 ∧ State.reset.word 0x02040 = 1
  ∧ (∀ a, a ≠ 0x02040 → State.reset.word a = resetWord a) ∧ (∀ a, State.reset.shadowWord a = resetWord a) ∧ State.reset.pend = [] ∧ State.reset.pendPages = []
  ∧ (∀ a, State.reset.byte a = memDefault a)
  ∧ State.reset.g F.CMP_PERIOD_PER_NS = 4166667 ∧ State.reset.g F.RST_BLK_QUIET_QUIET_US = 20
  ∧ State.reset.root = 0 ∧ State.reset.g F.SAF_STAT_FSTATE = 0 ∧ State.reset.on F.SAF_STAT_LOCKED = false ∧ State.reset.fieldOk = false
  ∧ (∀ n, n < 8 → State.reset.tlst n = 0) ∧ (∀ l, l < 2 → State.reset.lst l = 0) ∧ State.reset.sst = 0
  ∧ (∀ p, p < 0x8D → assigned p = true → (State.reset.world p = 1 ↔ p ∈ [0x01, 0x02, 0x03, 0x04, 0x0B, 0x40, 0x68, 0x78, 0x79, 0x7A, 0x81]))
  ∧ State.reset.pending = [] ∧ State.reset.Canonical ∧ ∀ z, State.reset.gov.sums.getD z 0 ≤ State.reset.gov.limits.getD z 0

/-- Every step answers a next state, keeps the canonical form of memories, banks and tables, loses no fuse, and never turns time or the free values back.
In every state, whatever command is at the front of the queue, the step answers a next state: no command stops the block. If the memories and the
three register banks are in canonical form and every table of units has one entry for each unit, the next state is so too. A programmed fuse stays
programmed. The clock of the model does not run back, and no free value is taken twice (these two are the model's own fields, logs 4 and 7). -/
def Obligations.EveryStepKeepsForm : Prop :=
  ∀ s, ∃ t, step s = .next t ∧ (s.Canonical → t.Canonical) ∧ s.FusesKept t ∧ s.now ≤ t.now ∧ s.fresh ≤ t.fresh
end

