-- ==== Sys2Proof/Laws/Tables.lean ====
section
/-! SUPPORT. Laws of the address tables that hold registers and memory: a read after a write, and the canonical form. -/

namespace Sys2Proof.Laws

open Sys2Proof.Machine

variable {β : Type} {d : Nat → β}

theorem tabGet_tabInsert_same (l : List (Nat × β)) (a : Nat) (w : β) : tabGet d (tabInsert l a w) a = w := by
  induction l with
  | nil => simp [tabInsert, tabGet]
  | cons e t ih =>
    obtain ⟨k, v⟩ := e
    simp only [tabInsert]
    split
    · simp [tabGet]
    · split
      · simp [tabGet]
      · have : k ≠ a := fun h => by simp_all
        simp [tabGet, this, ih]

theorem tabGet_tabInsert_other (l : List (Nat × β)) {a b : Nat} (w : β) (h : b ≠ a) :
    tabGet d (tabInsert l a w) b = tabGet d l b := by
  induction l with
  | nil => simp [tabInsert, tabGet, Ne.symm h]
  | cons e t ih =>
    obtain ⟨k, v⟩ := e
    simp only [tabInsert]
    split
    · simp [tabGet, Ne.symm h]
    · split
      · next _ hk => subst hk; simp [tabGet, Ne.symm h]
      · simp [tabGet, ih]

theorem tabGet_drop_same (l : List (Nat × β)) (a : Nat) : tabGet d (l.filter (fun e => e.1 ≠ a)) a = d a := by
  induction l with
  | nil => rfl
  | cons e t ih => by_cases h : e.1 = a <;> simp_all [List.filter, tabGet]

theorem tabGet_drop_other (l : List (Nat × β)) {a b : Nat} (h : b ≠ a) :
    tabGet d (l.filter (fun e => e.1 ≠ a)) b = tabGet d l b := by
  induction l with
  | nil => rfl
  | cons e t ih =>
    by_cases h' : e.1 = a
    · have : e.1 ≠ b := fun hb => h (hb ▸ h')
      simp_all [List.filter, tabGet]
    · simp_all [List.filter, tabGet]

theorem mem_tabInsert {l : List (Nat × β)} {a : Nat} {w : β} {e : Nat × β} (h : e ∈ tabInsert l a w) : e = (a, w) ∨ e ∈ l := by
  induction l with
  | nil => simpa [tabInsert] using h
  | cons f t ih =>
    obtain ⟨k, v⟩ := f
    simp only [tabInsert] at h
    split at h
    · simpa using h
    · split at h
      · rcases List.mem_cons.1 h with h | h
        · exact .inl h
        · exact .inr (List.mem_cons_of_mem _ h)
      · rcases List.mem_cons.1 h with h | h
        · exact .inr (h ▸ List.mem_cons_self ..)
        · rcases ih h with h | h
          · exact .inl h
          · exact .inr (List.mem_cons_of_mem _ h)

variable [DecidableEq β]

/-- A read of the address written gives what was written. -/
theorem tabGet_tabPut_same (l : List (Nat × β)) (a : Nat) (w : β) : tabGet d (tabPut d l a w) a = w := by
  unfold tabPut
  split
  · next h => rw [tabGet_drop_same, h]
  · exact tabGet_tabInsert_same l a w

/-- A write leaves every other address as it was. -/
theorem tabGet_tabPut_other (l : List (Nat × β)) {a b : Nat} (w : β) (h : b ≠ a) : tabGet d (tabPut d l a w) b = tabGet d l b := by
  unfold tabPut
  split
  · exact tabGet_drop_other l h
  · exact tabGet_tabInsert_other l w h

/-! ### Canonical form -/

theorem tabWf_cons {k : Nat} {v : β} {t : List (Nat × β)} :
    tabWf d ((k, v) :: t) = true ↔ v ≠ d k ∧ (∀ e ∈ t, k < e.1) ∧ tabWf d t = true := by
  simp [tabWf, and_assoc]

theorem tabWf_filter {l : List (Nat × β)} (p : Nat × β → Bool) (h : tabWf d l = true) : tabWf d (l.filter p) = true := by
  induction l with
  | nil => exact h
  | cons e t ih =>
    obtain ⟨k, v⟩ := e
    obtain ⟨h1, h2, h3⟩ := tabWf_cons.1 h
    by_cases hp : p (k, v)
    · rw [List.filter_cons_of_pos hp]
      exact tabWf_cons.2 ⟨h1, fun e he => h2 e (List.mem_filter.1 he).1, ih h3⟩
    · rw [List.filter_cons_of_neg hp]; exact ih h3

theorem tabWf_tabInsert {l : List (Nat × β)} {a : Nat} {w : β} (hw : w ≠ d a) (h : tabWf d l = true) : tabWf d (tabInsert l a w) = true := by
  induction l with
  | nil => exact tabWf_cons.2 ⟨hw, by simp, rfl⟩
  | cons f t ih =>
    obtain ⟨k, v⟩ := f
    obtain ⟨h1, h2, h3⟩ := tabWf_cons.1 h
    simp only [tabInsert]
    split
    · next hlt =>
      refine tabWf_cons.2 ⟨hw, ?_, h⟩
      intro e he
      rcases List.mem_cons.1 he with rfl | he
      · exact hlt
      · exact Nat.lt_trans hlt (h2 e he)
    · next hlt =>
      split
      · next heq => subst heq; exact tabWf_cons.2 ⟨hw, h2, h3⟩
      · next hne =>
        refine tabWf_cons.2 ⟨h1, ?_, ih h3⟩
        intro e he
        rcases mem_tabInsert he with rfl | he
        · show k < a
          omega
        · exact h2 e he

/-- A write keeps the canonical form. -/
theorem tabWf_tabPut {l : List (Nat × β)} (a : Nat) (w : β) (h : tabWf d l = true) : tabWf d (tabPut d l a w) = true := by
  unfold tabPut
  split
  · exact tabWf_filter _ h
  · next hw => exact tabWf_tabInsert hw h

/-- Two tables whose addresses do not interleave, joined. -/
theorem tabWf_append {l m : List (Nat × β)} (hl : tabWf d l = true) (hm : tabWf d m = true) (h : ∀ e ∈ l, ∀ f ∈ m, e.1 < f.1) :
    tabWf d (l ++ m) = true := by
  induction l with
  | nil => exact hm
  | cons f t ih =>
    obtain ⟨k, v⟩ := f
    obtain ⟨h1, h2, h3⟩ := tabWf_cons.1 hl
    refine tabWf_cons.2 ⟨h1, ?_, ih h3 (fun e he => h e (List.mem_cons_of_mem _ he))⟩
    intro e he
    rcases List.mem_append.1 he with he | he
    · exact h2 e he
    · exact h (k, v) (List.mem_cons_self ..) e he

/-- Entries whose values change by address stay canonical once those that became the default are dropped. -/
theorem tabWf_map {l : List (Nat × β)} (f : Nat → β → β) (h : tabWf d l = true) :
    tabWf d ((l.map (fun e => (e.1, f e.1 e.2))).filter (fun e => e.2 ≠ d e.1)) = true := by
  induction l with
  | nil => rfl
  | cons e t ih =>
    obtain ⟨k, v⟩ := e
    obtain ⟨_, h2, h3⟩ := tabWf_cons.1 h
    simp only [List.map_cons]
    by_cases hp : f k v = d k
    · rw [List.filter_cons_of_neg (by simp [hp])]; exact ih h3
    · rw [List.filter_cons_of_pos (by simp [hp])]
      refine tabWf_cons.2 ⟨hp, ?_, ih h3⟩
      intro e he
      obtain ⟨he, -⟩ := List.mem_filter.1 he
      obtain ⟨g, hg, rfl⟩ := List.mem_map.1 he
      exact h2 g hg

end Sys2Proof.Laws
end

