-- ==== Sys2Proof/Laws/Fields.lean ====
section
/-! SUPPORT. Laws of words, fields and the active bank: what a field reads as after a field is set. -/

namespace Sys2Proof.Laws

open Sys2Proof.Machine

/-- Bit i of a field mask. -/
theorem fieldMask_bit (hi lo i : Nat) (hh : hi < 32) :
    (fieldMask hi lo).getLsbD i = (decide (lo ≤ i) && decide (i < hi + 1)) := by
  simp only [fieldMask, BitVec.getLsbD_ofNat, Nat.testBit_shiftLeft, Nat.testBit_two_pow_sub_one]
  by_cases h1 : lo ≤ i <;> by_cases h2 : i < hi + 1 <;> simp [h1, h2] <;> omega

/-- Bit i of a word in which a field has been put. -/
theorem putField_bit (w : Word) (hi lo v i : Nat) (hh : hi < 32) :
    (putField w hi lo v).getLsbD i = if lo ≤ i ∧ i ≤ hi then v.testBit (i - lo) else w.getLsbD i := by
  have h2 := fieldMask_bit hi lo i hh
  simp only [putField, BitVec.getLsbD_or, BitVec.getLsbD_and, BitVec.getLsbD_not, h2, BitVec.getLsbD_ofNat, Nat.testBit_shiftLeft]
  by_cases h3 : lo ≤ i <;> by_cases h4 : i ≤ hi
  · have : i < 32 := by omega
    have : i < hi + 1 := by omega
    simp [*]
  · have : ¬ i < hi + 1 := by omega
    by_cases h5 : i < 32
    · simp [*]
    · simp [*, BitVec.getLsbD_of_ge w i (by omega)]
  · have : i < 32 := by omega
    simp [*]
  · by_cases h5 : i < 32
    · simp [*]
    · simp [*, BitVec.getLsbD_of_ge w i (by omega)]

/-- Bit i of a field's value. -/
theorem wordField_bit (w : Word) (hi lo i : Nat) : (wordField w hi lo).testBit i = (decide (i < hi + 1 - lo) && w.getLsbD (lo + i)) := by
  simp only [wordField, Nat.testBit_mod_two_pow, Nat.testBit_shiftRight]
  rfl

/-- A field that has been put reads as the low bits of what was put. -/
theorem wordField_putField_same (w : Word) (hi lo v : Nat) (hh : hi < 32) (hl : lo ≤ hi) :
    wordField (putField w hi lo v) hi lo = v % 2 ^ (hi + 1 - lo) := by
  apply Nat.eq_of_testBit_eq
  intro i
  rw [wordField_bit, Nat.testBit_mod_two_pow, putField_bit _ _ _ _ _ hh]
  by_cases h : i < hi + 1 - lo
  · have : lo ≤ lo + i ∧ lo + i ≤ hi := by omega
    simp [this, h]
  · simp [h]

/-- Another field of the word is as it was. -/
theorem wordField_putField_other (w : Word) (hi lo v hi' lo' : Nat) (hh : hi < 32) (h : hi' < lo ∨ hi < lo') :
    wordField (putField w hi lo v) hi' lo' = wordField w hi' lo' := by
  apply Nat.eq_of_testBit_eq
  intro i
  rw [wordField_bit, wordField_bit, putField_bit _ _ _ _ _ hh]
  by_cases h' : i < hi' + 1 - lo'
  · have : ¬ (lo ≤ lo' + i ∧ lo' + i ≤ hi) := by omega
    simp [this]
  · simp [h']

/-! ### Words -/

@[simp] theorem word_setWord_same (s : State) (a : Nat) (w : Word) : (s.setWord a w).word a = w := tabGet_tabPut_same ..

theorem word_setWord_other (s : State) {a b : Nat} (w : Word) (h : b ≠ a) : (s.setWord a w).word b = s.word b := tabGet_tabPut_other _ _ h

/-- A field set leaves every other register as it was. -/
theorem word_put_other (s : State) (f : Fld) (v : Nat) {b : Nat} (h : b ≠ f.addr) : (s.put f v).word b = s.word b :=
  word_setWord_other s _ h

/-! ### Fields -/

/-- A field that was set reads as the low bits of what was set. -/
theorem g_put_same (s : State) (f : Fld) (v : Nat) (hh : f.hi < 32) (hl : f.lo ≤ f.hi) : (s.put f v).g f = v % 2 ^ (f.hi + 1 - f.lo) := by
  simp only [State.g, State.put, word_setWord_same]
  exact wordField_putField_same _ _ _ _ hh hl

/-- A field set leaves a field that shares no bit with it as it was. -/
theorem g_put_other (s : State) (f g : Fld) (v : Nat) (hh : f.hi < 32) (h : f.apart g = true) : (s.put f v).g g = s.g g := by
  simp only [State.g]
  by_cases ha : g.addr = f.addr
  · simp only [State.put, ha, word_setWord_same]
    apply wordField_putField_other _ _ _ _ _ _ hh
    simp [Fld.apart, ha] at h
    omega
  · rw [word_put_other s f v ha]

/-- A one-bit field set to 1 reads 1. -/
theorem on_put_one (s : State) (f : Fld) (hh : f.hi < 32) (hl : f.lo = f.hi) : (s.put f 1).on f = true := by
  have := g_put_same s f 1 hh (by omega)
  simp [State.on, this, hl]

/-- A field after another has been set, both named. -/
theorem on_put_other (s : State) (f g : Fld) (v : Nat) (hh : f.hi < 32) (h : f.apart g = true) : (s.put f v).on g = s.on g := by
  simp [State.on, g_put_other s f g v hh h]

end Sys2Proof.Laws
end

