-- ==== Sys2Proof/Laws/State.lean ====
section
/-! SUPPORT. What each update of State leaves: one lemma per field and update, so that no proof unfolds a record. -/

set_option linter.unusedTactic false
set_option linter.unreachableTactic false

namespace Sys2Proof.Laws

open Sys2Proof.Machine

/-! ### A state with one component replaced -/

theorem with_regs_shadow (s : State) (r : List (Nat × Word)) : ({ s with regs := r } : State).shadow = s.shadow := rfl
theorem with_regs_pend (s : State) (r : List (Nat × Word)) : ({ s with regs := r } : State).pend = s.pend := rfl
theorem with_regs_pendPages (s : State) (r : List (Nat × Word)) : ({ s with regs := r } : State).pendPages = s.pendPages := rfl
theorem with_regs_mem (s : State) (r : List (Nat × Word)) : ({ s with regs := r } : State).mem = s.mem := rfl
theorem with_regs_latches (s : State) (r : List (Nat × Word)) : ({ s with regs := r } : State).latches = s.latches := rfl
theorem with_regs_now (s : State) (r : List (Nat × Word)) : ({ s with regs := r } : State).now = s.now := rfl
theorem with_regs_ohSub (s : State) (r : List (Nat × Word)) : ({ s with regs := r } : State).ohSub = s.ohSub := rfl
theorem with_regs_lt (s : State) (r : List (Nat × Word)) : ({ s with regs := r } : State).lt = s.lt := rfl
theorem with_regs_slew (s : State) (r : List (Nat × Word)) : ({ s with regs := r } : State).slew = s.slew := rfl
theorem with_regs_ltApplied (s : State) (r : List (Nat × Word)) : ({ s with regs := r } : State).ltApplied = s.ltApplied := rfl
theorem with_regs_flt (s : State) (r : List (Nat × Word)) : ({ s with regs := r } : State).flt = s.flt := rfl
theorem with_regs_evr (s : State) (r : List (Nat × Word)) : ({ s with regs := r } : State).evr = s.evr := rfl
theorem with_regs_saf (s : State) (r : List (Nat × Word)) : ({ s with regs := r } : State).saf = s.saf := rfl
theorem with_regs_rst (s : State) (r : List (Nat × Word)) : ({ s with regs := r } : State).rst = s.rst := rfl
theorem with_regs_quartz (s : State) (r : List (Nat × Word)) : ({ s with regs := r } : State).quartz = s.quartz := rfl
theorem with_regs_lnkA (s : State) (r : List (Nat × Word)) : ({ s with regs := r } : State).lnkA = s.lnkA := rfl
theorem with_regs_lnkB (s : State) (r : List (Nat × Word)) : ({ s with regs := r } : State).lnkB = s.lnkB := rfl
theorem with_regs_csf (s : State) (r : List (Nat × Word)) : ({ s with regs := r } : State).csf = s.csf := rfl
theorem with_regs_side (s : State) (r : List (Nat × Word)) : ({ s with regs := r } : State).side = s.side := rfl
theorem with_regs_spi (s : State) (r : List (Nat × Word)) : ({ s with regs := r } : State).spi = s.spi := rfl
theorem with_regs_cmd (s : State) (r : List (Nat × Word)) : ({ s with regs := r } : State).cmd = s.cmd := rfl
theorem with_regs_cmp (s : State) (r : List (Nat × Word)) : ({ s with regs := r } : State).cmp = s.cmp := rfl
theorem with_regs_glare (s : State) (r : List (Nat × Word)) : ({ s with regs := r } : State).glare = s.glare := rfl
theorem with_regs_lanes (s : State) (r : List (Nat × Word)) : ({ s with regs := r } : State).lanes = s.lanes := rfl
theorem with_regs_tln (s : State) (r : List (Nat × Word)) : ({ s with regs := r } : State).tln = s.tln := rfl
theorem with_regs_gov (s : State) (r : List (Nat × Word)) : ({ s with regs := r } : State).gov = s.gov := rfl
theorem with_regs_cal (s : State) (r : List (Nat × Word)) : ({ s with regs := r } : State).cal = s.cal := rfl
theorem with_regs_flx (s : State) (r : List (Nat × Word)) : ({ s with regs := r } : State).flx = s.flx := rfl
theorem with_regs_seg (s : State) (r : List (Nat × Word)) : ({ s with regs := r } : State).seg = s.seg := rfl
theorem with_regs_thm (s : State) (r : List (Nat × Word)) : ({ s with regs := r } : State).thm = s.thm := rfl
theorem with_regs_pwr (s : State) (r : List (Nat × Word)) : ({ s with regs := r } : State).pwr = s.pwr := rfl
theorem with_regs_sec (s : State) (r : List (Nat × Word)) : ({ s with regs := r } : State).sec = s.sec := rfl
theorem with_regs_fus (s : State) (r : List (Nat × Word)) : ({ s with regs := r } : State).fus = s.fus := rfl
theorem with_regs_upd (s : State) (r : List (Nat × Word)) : ({ s with regs := r } : State).upd = s.upd := rfl
theorem with_regs_readData (s : State) (r : List (Nat × Word)) : ({ s with regs := r } : State).readData = s.readData := rfl
theorem with_regs_fresh (s : State) (r : List (Nat × Word)) : ({ s with regs := r } : State).fresh = s.fresh := rfl
theorem with_regs_pending (s : State) (r : List (Nat × Word)) : ({ s with regs := r } : State).pending = s.pending := rfl
theorem with_shadow_regs (s : State) (r : List (Nat × Word)) : ({ s with shadow := r } : State).regs = s.regs := rfl
theorem with_shadow_pend (s : State) (r : List (Nat × Word)) : ({ s with shadow := r } : State).pend = s.pend := rfl
theorem with_shadow_pendPages (s : State) (r : List (Nat × Word)) : ({ s with shadow := r } : State).pendPages = s.pendPages := rfl
theorem with_shadow_mem (s : State) (r : List (Nat × Word)) : ({ s with shadow := r } : State).mem = s.mem := rfl
theorem with_shadow_latches (s : State) (r : List (Nat × Word)) : ({ s with shadow := r } : State).latches = s.latches := rfl
theorem with_shadow_now (s : State) (r : List (Nat × Word)) : ({ s with shadow := r } : State).now = s.now := rfl
theorem with_shadow_ohSub (s : State) (r : List (Nat × Word)) : ({ s with shadow := r } : State).ohSub = s.ohSub := rfl
theorem with_shadow_lt (s : State) (r : List (Nat × Word)) : ({ s with shadow := r } : State).lt = s.lt := rfl
theorem with_shadow_slew (s : State) (r : List (Nat × Word)) : ({ s with shadow := r } : State).slew = s.slew := rfl
theorem with_shadow_ltApplied (s : State) (r : List (Nat × Word)) : ({ s with shadow := r } : State).ltApplied = s.ltApplied := rfl
theorem with_shadow_flt (s : State) (r : List (Nat × Word)) : ({ s with shadow := r } : State).flt = s.flt := rfl
theorem with_shadow_evr (s : State) (r : List (Nat × Word)) : ({ s with shadow := r } : State).evr = s.evr := rfl
theorem with_shadow_saf (s : State) (r : List (Nat × Word)) : ({ s with shadow := r } : State).saf = s.saf := rfl
theorem with_shadow_rst (s : State) (r : List (Nat × Word)) : ({ s with shadow := r } : State).rst = s.rst := rfl
theorem with_shadow_quartz (s : State) (r : List (Nat × Word)) : ({ s with shadow := r } : State).quartz = s.quartz := rfl
theorem with_shadow_lnkA (s : State) (r : List (Nat × Word)) : ({ s with shadow := r } : State).lnkA = s.lnkA := rfl
theorem with_shadow_lnkB (s : State) (r : List (Nat × Word)) : ({ s with shadow := r } : State).lnkB = s.lnkB := rfl
theorem with_shadow_csf (s : State) (r : List (Nat × Word)) : ({ s with shadow := r } : State).csf = s.csf := rfl
theorem with_shadow_side (s : State) (r : List (Nat × Word)) : ({ s with shadow := r } : State).side = s.side := rfl
theorem with_shadow_spi (s : State) (r : List (Nat × Word)) : ({ s with shadow := r } : State).spi = s.spi := rfl
theorem with_shadow_cmd (s : State) (r : List (Nat × Word)) : ({ s with shadow := r } : State).cmd = s.cmd := rfl
theorem with_shadow_cmp (s : State) (r : List (Nat × Word)) : ({ s with shadow := r } : State).cmp = s.cmp := rfl
theorem with_shadow_glare (s : State) (r : List (Nat × Word)) : ({ s with shadow := r } : State).glare = s.glare := rfl
theorem with_shadow_lanes (s : State) (r : List (Nat × Word)) : ({ s with shadow := r } : State).lanes = s.lanes := rfl
theorem with_shadow_tln (s : State) (r : List (Nat × Word)) : ({ s with shadow := r } : State).tln = s.tln := rfl
theorem with_shadow_gov (s : State) (r : List (Nat × Word)) : ({ s with shadow := r } : State).gov = s.gov := rfl
theorem with_shadow_cal (s : State) (r : List (Nat × Word)) : ({ s with shadow := r } : State).cal = s.cal := rfl
theorem with_shadow_flx (s : State) (r : List (Nat × Word)) : ({ s with shadow := r } : State).flx = s.flx := rfl
theorem with_shadow_seg (s : State) (r : List (Nat × Word)) : ({ s with shadow := r } : State).seg = s.seg := rfl
theorem with_shadow_thm (s : State) (r : List (Nat × Word)) : ({ s with shadow := r } : State).thm = s.thm := rfl
theorem with_shadow_pwr (s : State) (r : List (Nat × Word)) : ({ s with shadow := r } : State).pwr = s.pwr := rfl
theorem with_shadow_sec (s : State) (r : List (Nat × Word)) : ({ s with shadow := r } : State).sec = s.sec := rfl
theorem with_shadow_fus (s : State) (r : List (Nat × Word)) : ({ s with shadow := r } : State).fus = s.fus := rfl
theorem with_shadow_upd (s : State) (r : List (Nat × Word)) : ({ s with shadow := r } : State).upd = s.upd := rfl
theorem with_shadow_readData (s : State) (r : List (Nat × Word)) : ({ s with shadow := r } : State).readData = s.readData := rfl
theorem with_shadow_fresh (s : State) (r : List (Nat × Word)) : ({ s with shadow := r } : State).fresh = s.fresh := rfl
theorem with_shadow_pending (s : State) (r : List (Nat × Word)) : ({ s with shadow := r } : State).pending = s.pending := rfl
theorem with_mem_regs (s : State) (r : List Host.Cell) : ({ s with mem := r } : State).regs = s.regs := rfl
theorem with_mem_shadow (s : State) (r : List Host.Cell) : ({ s with mem := r } : State).shadow = s.shadow := rfl
theorem with_mem_pend (s : State) (r : List Host.Cell) : ({ s with mem := r } : State).pend = s.pend := rfl
theorem with_mem_pendPages (s : State) (r : List Host.Cell) : ({ s with mem := r } : State).pendPages = s.pendPages := rfl
theorem with_mem_latches (s : State) (r : List Host.Cell) : ({ s with mem := r } : State).latches = s.latches := rfl
theorem with_mem_now (s : State) (r : List Host.Cell) : ({ s with mem := r } : State).now = s.now := rfl
theorem with_mem_ohSub (s : State) (r : List Host.Cell) : ({ s with mem := r } : State).ohSub = s.ohSub := rfl
theorem with_mem_lt (s : State) (r : List Host.Cell) : ({ s with mem := r } : State).lt = s.lt := rfl
theorem with_mem_slew (s : State) (r : List Host.Cell) : ({ s with mem := r } : State).slew = s.slew := rfl
theorem with_mem_ltApplied (s : State) (r : List Host.Cell) : ({ s with mem := r } : State).ltApplied = s.ltApplied := rfl
theorem with_mem_flt (s : State) (r : List Host.Cell) : ({ s with mem := r } : State).flt = s.flt := rfl
theorem with_mem_evr (s : State) (r : List Host.Cell) : ({ s with mem := r } : State).evr = s.evr := rfl
theorem with_mem_saf (s : State) (r : List Host.Cell) : ({ s with mem := r } : State).saf = s.saf := rfl
theorem with_mem_rst (s : State) (r : List Host.Cell) : ({ s with mem := r } : State).rst = s.rst := rfl
theorem with_mem_quartz (s : State) (r : List Host.Cell) : ({ s with mem := r } : State).quartz = s.quartz := rfl
theorem with_mem_lnkA (s : State) (r : List Host.Cell) : ({ s with mem := r } : State).lnkA = s.lnkA := rfl
theorem with_mem_lnkB (s : State) (r : List Host.Cell) : ({ s with mem := r } : State).lnkB = s.lnkB := rfl
theorem with_mem_csf (s : State) (r : List Host.Cell) : ({ s with mem := r } : State).csf = s.csf := rfl
theorem with_mem_side (s : State) (r : List Host.Cell) : ({ s with mem := r } : State).side = s.side := rfl
theorem with_mem_spi (s : State) (r : List Host.Cell) : ({ s with mem := r } : State).spi = s.spi := rfl
theorem with_mem_cmd (s : State) (r : List Host.Cell) : ({ s with mem := r } : State).cmd = s.cmd := rfl
theorem with_mem_cmp (s : State) (r : List Host.Cell) : ({ s with mem := r } : State).cmp = s.cmp := rfl
theorem with_mem_glare (s : State) (r : List Host.Cell) : ({ s with mem := r } : State).glare = s.glare := rfl
theorem with_mem_lanes (s : State) (r : List Host.Cell) : ({ s with mem := r } : State).lanes = s.lanes := rfl
theorem with_mem_tln (s : State) (r : List Host.Cell) : ({ s with mem := r } : State).tln = s.tln := rfl
theorem with_mem_gov (s : State) (r : List Host.Cell) : ({ s with mem := r } : State).gov = s.gov := rfl
theorem with_mem_cal (s : State) (r : List Host.Cell) : ({ s with mem := r } : State).cal = s.cal := rfl
theorem with_mem_flx (s : State) (r : List Host.Cell) : ({ s with mem := r } : State).flx = s.flx := rfl
theorem with_mem_seg (s : State) (r : List Host.Cell) : ({ s with mem := r } : State).seg = s.seg := rfl
theorem with_mem_thm (s : State) (r : List Host.Cell) : ({ s with mem := r } : State).thm = s.thm := rfl
theorem with_mem_pwr (s : State) (r : List Host.Cell) : ({ s with mem := r } : State).pwr = s.pwr := rfl
theorem with_mem_sec (s : State) (r : List Host.Cell) : ({ s with mem := r } : State).sec = s.sec := rfl
theorem with_mem_fus (s : State) (r : List Host.Cell) : ({ s with mem := r } : State).fus = s.fus := rfl
theorem with_mem_upd (s : State) (r : List Host.Cell) : ({ s with mem := r } : State).upd = s.upd := rfl
theorem with_mem_readData (s : State) (r : List Host.Cell) : ({ s with mem := r } : State).readData = s.readData := rfl
theorem with_mem_fresh (s : State) (r : List Host.Cell) : ({ s with mem := r } : State).fresh = s.fresh := rfl
theorem with_mem_pending (s : State) (r : List Host.Cell) : ({ s with mem := r } : State).pending = s.pending := rfl
theorem with_lanes_regs (s : State) (r : List Lane) : ({ s with lanes := r } : State).regs = s.regs := rfl
theorem with_lanes_shadow (s : State) (r : List Lane) : ({ s with lanes := r } : State).shadow = s.shadow := rfl
theorem with_lanes_pend (s : State) (r : List Lane) : ({ s with lanes := r } : State).pend = s.pend := rfl
theorem with_lanes_pendPages (s : State) (r : List Lane) : ({ s with lanes := r } : State).pendPages = s.pendPages := rfl
theorem with_lanes_mem (s : State) (r : List Lane) : ({ s with lanes := r } : State).mem = s.mem := rfl
theorem with_lanes_latches (s : State) (r : List Lane) : ({ s with lanes := r } : State).latches = s.latches := rfl
theorem with_lanes_now (s : State) (r : List Lane) : ({ s with lanes := r } : State).now = s.now := rfl
theorem with_lanes_ohSub (s : State) (r : List Lane) : ({ s with lanes := r } : State).ohSub = s.ohSub := rfl
theorem with_lanes_lt (s : State) (r : List Lane) : ({ s with lanes := r } : State).lt = s.lt := rfl
theorem with_lanes_slew (s : State) (r : List Lane) : ({ s with lanes := r } : State).slew = s.slew := rfl
theorem with_lanes_ltApplied (s : State) (r : List Lane) : ({ s with lanes := r } : State).ltApplied = s.ltApplied := rfl
theorem with_lanes_flt (s : State) (r : List Lane) : ({ s with lanes := r } : State).flt = s.flt := rfl
theorem with_lanes_evr (s : State) (r : List Lane) : ({ s with lanes := r } : State).evr = s.evr := rfl
theorem with_lanes_saf (s : State) (r : List Lane) : ({ s with lanes := r } : State).saf = s.saf := rfl
theorem with_lanes_rst (s : State) (r : List Lane) : ({ s with lanes := r } : State).rst = s.rst := rfl
theorem with_lanes_quartz (s : State) (r : List Lane) : ({ s with lanes := r } : State).quartz = s.quartz := rfl
theorem with_lanes_lnkA (s : State) (r : List Lane) : ({ s with lanes := r } : State).lnkA = s.lnkA := rfl
theorem with_lanes_lnkB (s : State) (r : List Lane) : ({ s with lanes := r } : State).lnkB = s.lnkB := rfl
theorem with_lanes_csf (s : State) (r : List Lane) : ({ s with lanes := r } : State).csf = s.csf := rfl
theorem with_lanes_side (s : State) (r : List Lane) : ({ s with lanes := r } : State).side = s.side := rfl
theorem with_lanes_spi (s : State) (r : List Lane) : ({ s with lanes := r } : State).spi = s.spi := rfl
theorem with_lanes_cmd (s : State) (r : List Lane) : ({ s with lanes := r } : State).cmd = s.cmd := rfl
theorem with_lanes_cmp (s : State) (r : List Lane) : ({ s with lanes := r } : State).cmp = s.cmp := rfl
theorem with_lanes_glare (s : State) (r : List Lane) : ({ s with lanes := r } : State).glare = s.glare := rfl
theorem with_lanes_tln (s : State) (r : List Lane) : ({ s with lanes := r } : State).tln = s.tln := rfl
theorem with_lanes_gov (s : State) (r : List Lane) : ({ s with lanes := r } : State).gov = s.gov := rfl
theorem with_lanes_cal (s : State) (r : List Lane) : ({ s with lanes := r } : State).cal = s.cal := rfl
theorem with_lanes_flx (s : State) (r : List Lane) : ({ s with lanes := r } : State).flx = s.flx := rfl
theorem with_lanes_seg (s : State) (r : List Lane) : ({ s with lanes := r } : State).seg = s.seg := rfl
theorem with_lanes_thm (s : State) (r : List Lane) : ({ s with lanes := r } : State).thm = s.thm := rfl
theorem with_lanes_pwr (s : State) (r : List Lane) : ({ s with lanes := r } : State).pwr = s.pwr := rfl
theorem with_lanes_sec (s : State) (r : List Lane) : ({ s with lanes := r } : State).sec = s.sec := rfl
theorem with_lanes_fus (s : State) (r : List Lane) : ({ s with lanes := r } : State).fus = s.fus := rfl
theorem with_lanes_upd (s : State) (r : List Lane) : ({ s with lanes := r } : State).upd = s.upd := rfl
theorem with_lanes_readData (s : State) (r : List Lane) : ({ s with lanes := r } : State).readData = s.readData := rfl
theorem with_lanes_fresh (s : State) (r : List Lane) : ({ s with lanes := r } : State).fresh = s.fresh := rfl
theorem with_lanes_pending (s : State) (r : List Lane) : ({ s with lanes := r } : State).pending = s.pending := rfl
theorem with_lnkA_regs (s : State) (r : Link) : ({ s with lnkA := r } : State).regs = s.regs := rfl
theorem with_lnkA_shadow (s : State) (r : Link) : ({ s with lnkA := r } : State).shadow = s.shadow := rfl
theorem with_lnkA_pend (s : State) (r : Link) : ({ s with lnkA := r } : State).pend = s.pend := rfl
theorem with_lnkA_pendPages (s : State) (r : Link) : ({ s with lnkA := r } : State).pendPages = s.pendPages := rfl
theorem with_lnkA_mem (s : State) (r : Link) : ({ s with lnkA := r } : State).mem = s.mem := rfl
theorem with_lnkA_latches (s : State) (r : Link) : ({ s with lnkA := r } : State).latches = s.latches := rfl
theorem with_lnkA_now (s : State) (r : Link) : ({ s with lnkA := r } : State).now = s.now := rfl
theorem with_lnkA_ohSub (s : State) (r : Link) : ({ s with lnkA := r } : State).ohSub = s.ohSub := rfl
theorem with_lnkA_lt (s : State) (r : Link) : ({ s with lnkA := r } : State).lt = s.lt := rfl
theorem with_lnkA_slew (s : State) (r : Link) : ({ s with lnkA := r } : State).slew = s.slew := rfl
theorem with_lnkA_ltApplied (s : State) (r : Link) : ({ s with lnkA := r } : State).ltApplied = s.ltApplied := rfl
theorem with_lnkA_flt (s : State) (r : Link) : ({ s with lnkA := r } : State).flt = s.flt := rfl
theorem with_lnkA_evr (s : State) (r : Link) : ({ s with lnkA := r } : State).evr = s.evr := rfl
theorem with_lnkA_saf (s : State) (r : Link) : ({ s with lnkA := r } : State).saf = s.saf := rfl
theorem with_lnkA_rst (s : State) (r : Link) : ({ s with lnkA := r } : State).rst = s.rst := rfl
theorem with_lnkA_quartz (s : State) (r : Link) : ({ s with lnkA := r } : State).quartz = s.quartz := rfl
theorem with_lnkA_lnkB (s : State) (r : Link) : ({ s with lnkA := r } : State).lnkB = s.lnkB := rfl
theorem with_lnkA_csf (s : State) (r : Link) : ({ s with lnkA := r } : State).csf = s.csf := rfl
theorem with_lnkA_side (s : State) (r : Link) : ({ s with lnkA := r } : State).side = s.side := rfl
theorem with_lnkA_spi (s : State) (r : Link) : ({ s with lnkA := r } : State).spi = s.spi := rfl
theorem with_lnkA_cmd (s : State) (r : Link) : ({ s with lnkA := r } : State).cmd = s.cmd := rfl
theorem with_lnkA_cmp (s : State) (r : Link) : ({ s with lnkA := r } : State).cmp = s.cmp := rfl
theorem with_lnkA_glare (s : State) (r : Link) : ({ s with lnkA := r } : State).glare = s.glare := rfl
theorem with_lnkA_lanes (s : State) (r : Link) : ({ s with lnkA := r } : State).lanes = s.lanes := rfl
theorem with_lnkA_tln (s : State) (r : Link) : ({ s with lnkA := r } : State).tln = s.tln := rfl
theorem with_lnkA_gov (s : State) (r : Link) : ({ s with lnkA := r } : State).gov = s.gov := rfl
theorem with_lnkA_cal (s : State) (r : Link) : ({ s with lnkA := r } : State).cal = s.cal := rfl
theorem with_lnkA_flx (s : State) (r : Link) : ({ s with lnkA := r } : State).flx = s.flx := rfl
theorem with_lnkA_seg (s : State) (r : Link) : ({ s with lnkA := r } : State).seg = s.seg := rfl
theorem with_lnkA_thm (s : State) (r : Link) : ({ s with lnkA := r } : State).thm = s.thm := rfl
theorem with_lnkA_pwr (s : State) (r : Link) : ({ s with lnkA := r } : State).pwr = s.pwr := rfl
theorem with_lnkA_sec (s : State) (r : Link) : ({ s with lnkA := r } : State).sec = s.sec := rfl
theorem with_lnkA_fus (s : State) (r : Link) : ({ s with lnkA := r } : State).fus = s.fus := rfl
theorem with_lnkA_upd (s : State) (r : Link) : ({ s with lnkA := r } : State).upd = s.upd := rfl
theorem with_lnkA_readData (s : State) (r : Link) : ({ s with lnkA := r } : State).readData = s.readData := rfl
theorem with_lnkA_fresh (s : State) (r : Link) : ({ s with lnkA := r } : State).fresh = s.fresh := rfl
theorem with_lnkA_pending (s : State) (r : Link) : ({ s with lnkA := r } : State).pending = s.pending := rfl
theorem with_lnkB_regs (s : State) (r : Link) : ({ s with lnkB := r } : State).regs = s.regs := rfl
theorem with_lnkB_shadow (s : State) (r : Link) : ({ s with lnkB := r } : State).shadow = s.shadow := rfl
theorem with_lnkB_pend (s : State) (r : Link) : ({ s with lnkB := r } : State).pend = s.pend := rfl
theorem with_lnkB_pendPages (s : State) (r : Link) : ({ s with lnkB := r } : State).pendPages = s.pendPages := rfl
theorem with_lnkB_mem (s : State) (r : Link) : ({ s with lnkB := r } : State).mem = s.mem := rfl
theorem with_lnkB_latches (s : State) (r : Link) : ({ s with lnkB := r } : State).latches = s.latches := rfl
theorem with_lnkB_now (s : State) (r : Link) : ({ s with lnkB := r } : State).now = s.now := rfl
theorem with_lnkB_ohSub (s : State) (r : Link) : ({ s with lnkB := r } : State).ohSub = s.ohSub := rfl
theorem with_lnkB_lt (s : State) (r : Link) : ({ s with lnkB := r } : State).lt = s.lt := rfl
theorem with_lnkB_slew (s : State) (r : Link) : ({ s with lnkB := r } : State).slew = s.slew := rfl
theorem with_lnkB_ltApplied (s : State) (r : Link) : ({ s with lnkB := r } : State).ltApplied = s.ltApplied := rfl
theorem with_lnkB_flt (s : State) (r : Link) : ({ s with lnkB := r } : State).flt = s.flt := rfl
theorem with_lnkB_evr (s : State) (r : Link) : ({ s with lnkB := r } : State).evr = s.evr := rfl
theorem with_lnkB_saf (s : State) (r : Link) : ({ s with lnkB := r } : State).saf = s.saf := rfl
theorem with_lnkB_rst (s : State) (r : Link) : ({ s with lnkB := r } : State).rst = s.rst := rfl
theorem with_lnkB_quartz (s : State) (r : Link) : ({ s with lnkB := r } : State).quartz = s.quartz := rfl
theorem with_lnkB_lnkA (s : State) (r : Link) : ({ s with lnkB := r } : State).lnkA = s.lnkA := rfl
theorem with_lnkB_csf (s : State) (r : Link) : ({ s with lnkB := r } : State).csf = s.csf := rfl
theorem with_lnkB_side (s : State) (r : Link) : ({ s with lnkB := r } : State).side = s.side := rfl
theorem with_lnkB_spi (s : State) (r : Link) : ({ s with lnkB := r } : State).spi = s.spi := rfl
theorem with_lnkB_cmd (s : State) (r : Link) : ({ s with lnkB := r } : State).cmd = s.cmd := rfl
theorem with_lnkB_cmp (s : State) (r : Link) : ({ s with lnkB := r } : State).cmp = s.cmp := rfl
theorem with_lnkB_glare (s : State) (r : Link) : ({ s with lnkB := r } : State).glare = s.glare := rfl
theorem with_lnkB_lanes (s : State) (r : Link) : ({ s with lnkB := r } : State).lanes = s.lanes := rfl
theorem with_lnkB_tln (s : State) (r : Link) : ({ s with lnkB := r } : State).tln = s.tln := rfl
theorem with_lnkB_gov (s : State) (r : Link) : ({ s with lnkB := r } : State).gov = s.gov := rfl
theorem with_lnkB_cal (s : State) (r : Link) : ({ s with lnkB := r } : State).cal = s.cal := rfl
theorem with_lnkB_flx (s : State) (r : Link) : ({ s with lnkB := r } : State).flx = s.flx := rfl
theorem with_lnkB_seg (s : State) (r : Link) : ({ s with lnkB := r } : State).seg = s.seg := rfl
theorem with_lnkB_thm (s : State) (r : Link) : ({ s with lnkB := r } : State).thm = s.thm := rfl
theorem with_lnkB_pwr (s : State) (r : Link) : ({ s with lnkB := r } : State).pwr = s.pwr := rfl
theorem with_lnkB_sec (s : State) (r : Link) : ({ s with lnkB := r } : State).sec = s.sec := rfl
theorem with_lnkB_fus (s : State) (r : Link) : ({ s with lnkB := r } : State).fus = s.fus := rfl
theorem with_lnkB_upd (s : State) (r : Link) : ({ s with lnkB := r } : State).upd = s.upd := rfl
theorem with_lnkB_readData (s : State) (r : Link) : ({ s with lnkB := r } : State).readData = s.readData := rfl
theorem with_lnkB_fresh (s : State) (r : Link) : ({ s with lnkB := r } : State).fresh = s.fresh := rfl
theorem with_lnkB_pending (s : State) (r : Link) : ({ s with lnkB := r } : State).pending = s.pending := rfl
theorem with_cmd_regs (s : State) (r : Cmd) : ({ s with cmd := r } : State).regs = s.regs := rfl
theorem with_cmd_shadow (s : State) (r : Cmd) : ({ s with cmd := r } : State).shadow = s.shadow := rfl
theorem with_cmd_pend (s : State) (r : Cmd) : ({ s with cmd := r } : State).pend = s.pend := rfl
theorem with_cmd_pendPages (s : State) (r : Cmd) : ({ s with cmd := r } : State).pendPages = s.pendPages := rfl
theorem with_cmd_mem (s : State) (r : Cmd) : ({ s with cmd := r } : State).mem = s.mem := rfl
theorem with_cmd_latches (s : State) (r : Cmd) : ({ s with cmd := r } : State).latches = s.latches := rfl
theorem with_cmd_now (s : State) (r : Cmd) : ({ s with cmd := r } : State).now = s.now := rfl
theorem with_cmd_ohSub (s : State) (r : Cmd) : ({ s with cmd := r } : State).ohSub = s.ohSub := rfl
theorem with_cmd_lt (s : State) (r : Cmd) : ({ s with cmd := r } : State).lt = s.lt := rfl
theorem with_cmd_slew (s : State) (r : Cmd) : ({ s with cmd := r } : State).slew = s.slew := rfl
theorem with_cmd_ltApplied (s : State) (r : Cmd) : ({ s with cmd := r } : State).ltApplied = s.ltApplied := rfl
theorem with_cmd_flt (s : State) (r : Cmd) : ({ s with cmd := r } : State).flt = s.flt := rfl
theorem with_cmd_evr (s : State) (r : Cmd) : ({ s with cmd := r } : State).evr = s.evr := rfl
theorem with_cmd_saf (s : State) (r : Cmd) : ({ s with cmd := r } : State).saf = s.saf := rfl
theorem with_cmd_rst (s : State) (r : Cmd) : ({ s with cmd := r } : State).rst = s.rst := rfl
theorem with_cmd_quartz (s : State) (r : Cmd) : ({ s with cmd := r } : State).quartz = s.quartz := rfl
theorem with_cmd_lnkA (s : State) (r : Cmd) : ({ s with cmd := r } : State).lnkA = s.lnkA := rfl
theorem with_cmd_lnkB (s : State) (r : Cmd) : ({ s with cmd := r } : State).lnkB = s.lnkB := rfl
theorem with_cmd_csf (s : State) (r : Cmd) : ({ s with cmd := r } : State).csf = s.csf := rfl
theorem with_cmd_side (s : State) (r : Cmd) : ({ s with cmd := r } : State).side = s.side := rfl
theorem with_cmd_spi (s : State) (r : Cmd) : ({ s with cmd := r } : State).spi = s.spi := rfl
theorem with_cmd_cmp (s : State) (r : Cmd) : ({ s with cmd := r } : State).cmp = s.cmp := rfl
theorem with_cmd_glare (s : State) (r : Cmd) : ({ s with cmd := r } : State).glare = s.glare := rfl
theorem with_cmd_lanes (s : State) (r : Cmd) : ({ s with cmd := r } : State).lanes = s.lanes := rfl
theorem with_cmd_tln (s : State) (r : Cmd) : ({ s with cmd := r } : State).tln = s.tln := rfl
theorem with_cmd_gov (s : State) (r : Cmd) : ({ s with cmd := r } : State).gov = s.gov := rfl
theorem with_cmd_cal (s : State) (r : Cmd) : ({ s with cmd := r } : State).cal = s.cal := rfl
theorem with_cmd_flx (s : State) (r : Cmd) : ({ s with cmd := r } : State).flx = s.flx := rfl
theorem with_cmd_seg (s : State) (r : Cmd) : ({ s with cmd := r } : State).seg = s.seg := rfl
theorem with_cmd_thm (s : State) (r : Cmd) : ({ s with cmd := r } : State).thm = s.thm := rfl
theorem with_cmd_pwr (s : State) (r : Cmd) : ({ s with cmd := r } : State).pwr = s.pwr := rfl
theorem with_cmd_sec (s : State) (r : Cmd) : ({ s with cmd := r } : State).sec = s.sec := rfl
theorem with_cmd_fus (s : State) (r : Cmd) : ({ s with cmd := r } : State).fus = s.fus := rfl
theorem with_cmd_upd (s : State) (r : Cmd) : ({ s with cmd := r } : State).upd = s.upd := rfl
theorem with_cmd_readData (s : State) (r : Cmd) : ({ s with cmd := r } : State).readData = s.readData := rfl
theorem with_cmd_fresh (s : State) (r : Cmd) : ({ s with cmd := r } : State).fresh = s.fresh := rfl
theorem with_cmd_pending (s : State) (r : Cmd) : ({ s with cmd := r } : State).pending = s.pending := rfl
theorem with_cal_regs (s : State) (r : Cal) : ({ s with cal := r } : State).regs = s.regs := rfl
theorem with_cal_shadow (s : State) (r : Cal) : ({ s with cal := r } : State).shadow = s.shadow := rfl
theorem with_cal_pend (s : State) (r : Cal) : ({ s with cal := r } : State).pend = s.pend := rfl
theorem with_cal_pendPages (s : State) (r : Cal) : ({ s with cal := r } : State).pendPages = s.pendPages := rfl
theorem with_cal_mem (s : State) (r : Cal) : ({ s with cal := r } : State).mem = s.mem := rfl
theorem with_cal_latches (s : State) (r : Cal) : ({ s with cal := r } : State).latches = s.latches := rfl
theorem with_cal_now (s : State) (r : Cal) : ({ s with cal := r } : State).now = s.now := rfl
theorem with_cal_ohSub (s : State) (r : Cal) : ({ s with cal := r } : State).ohSub = s.ohSub := rfl
theorem with_cal_lt (s : State) (r : Cal) : ({ s with cal := r } : State).lt = s.lt := rfl
theorem with_cal_slew (s : State) (r : Cal) : ({ s with cal := r } : State).slew = s.slew := rfl
theorem with_cal_ltApplied (s : State) (r : Cal) : ({ s with cal := r } : State).ltApplied = s.ltApplied := rfl
theorem with_cal_flt (s : State) (r : Cal) : ({ s with cal := r } : State).flt = s.flt := rfl
theorem with_cal_evr (s : State) (r : Cal) : ({ s with cal := r } : State).evr = s.evr := rfl
theorem with_cal_saf (s : State) (r : Cal) : ({ s with cal := r } : State).saf = s.saf := rfl
theorem with_cal_rst (s : State) (r : Cal) : ({ s with cal := r } : State).rst = s.rst := rfl
theorem with_cal_quartz (s : State) (r : Cal) : ({ s with cal := r } : State).quartz = s.quartz := rfl
theorem with_cal_lnkA (s : State) (r : Cal) : ({ s with cal := r } : State).lnkA = s.lnkA := rfl
theorem with_cal_lnkB (s : State) (r : Cal) : ({ s with cal := r } : State).lnkB = s.lnkB := rfl
theorem with_cal_csf (s : State) (r : Cal) : ({ s with cal := r } : State).csf = s.csf := rfl
theorem with_cal_side (s : State) (r : Cal) : ({ s with cal := r } : State).side = s.side := rfl
theorem with_cal_spi (s : State) (r : Cal) : ({ s with cal := r } : State).spi = s.spi := rfl
theorem with_cal_cmd (s : State) (r : Cal) : ({ s with cal := r } : State).cmd = s.cmd := rfl
theorem with_cal_cmp (s : State) (r : Cal) : ({ s with cal := r } : State).cmp = s.cmp := rfl
theorem with_cal_glare (s : State) (r : Cal) : ({ s with cal := r } : State).glare = s.glare := rfl
theorem with_cal_lanes (s : State) (r : Cal) : ({ s with cal := r } : State).lanes = s.lanes := rfl
theorem with_cal_tln (s : State) (r : Cal) : ({ s with cal := r } : State).tln = s.tln := rfl
theorem with_cal_gov (s : State) (r : Cal) : ({ s with cal := r } : State).gov = s.gov := rfl
theorem with_cal_flx (s : State) (r : Cal) : ({ s with cal := r } : State).flx = s.flx := rfl
theorem with_cal_seg (s : State) (r : Cal) : ({ s with cal := r } : State).seg = s.seg := rfl
theorem with_cal_thm (s : State) (r : Cal) : ({ s with cal := r } : State).thm = s.thm := rfl
theorem with_cal_pwr (s : State) (r : Cal) : ({ s with cal := r } : State).pwr = s.pwr := rfl
theorem with_cal_sec (s : State) (r : Cal) : ({ s with cal := r } : State).sec = s.sec := rfl
theorem with_cal_fus (s : State) (r : Cal) : ({ s with cal := r } : State).fus = s.fus := rfl
theorem with_cal_upd (s : State) (r : Cal) : ({ s with cal := r } : State).upd = s.upd := rfl
theorem with_cal_readData (s : State) (r : Cal) : ({ s with cal := r } : State).readData = s.readData := rfl
theorem with_cal_fresh (s : State) (r : Cal) : ({ s with cal := r } : State).fresh = s.fresh := rfl
theorem with_cal_pending (s : State) (r : Cal) : ({ s with cal := r } : State).pending = s.pending := rfl
theorem with_flx_regs (s : State) (r : Flx) : ({ s with flx := r } : State).regs = s.regs := rfl
theorem with_flx_shadow (s : State) (r : Flx) : ({ s with flx := r } : State).shadow = s.shadow := rfl
theorem with_flx_pend (s : State) (r : Flx) : ({ s with flx := r } : State).pend = s.pend := rfl
theorem with_flx_pendPages (s : State) (r : Flx) : ({ s with flx := r } : State).pendPages = s.pendPages := rfl
theorem with_flx_mem (s : State) (r : Flx) : ({ s with flx := r } : State).mem = s.mem := rfl
theorem with_flx_latches (s : State) (r : Flx) : ({ s with flx := r } : State).latches = s.latches := rfl
theorem with_flx_now (s : State) (r : Flx) : ({ s with flx := r } : State).now = s.now := rfl
theorem with_flx_ohSub (s : State) (r : Flx) : ({ s with flx := r } : State).ohSub = s.ohSub := rfl
theorem with_flx_lt (s : State) (r : Flx) : ({ s with flx := r } : State).lt = s.lt := rfl
theorem with_flx_slew (s : State) (r : Flx) : ({ s with flx := r } : State).slew = s.slew := rfl
theorem with_flx_ltApplied (s : State) (r : Flx) : ({ s with flx := r } : State).ltApplied = s.ltApplied := rfl
theorem with_flx_flt (s : State) (r : Flx) : ({ s with flx := r } : State).flt = s.flt := rfl
theorem with_flx_evr (s : State) (r : Flx) : ({ s with flx := r } : State).evr = s.evr := rfl
theorem with_flx_saf (s : State) (r : Flx) : ({ s with flx := r } : State).saf = s.saf := rfl
theorem with_flx_rst (s : State) (r : Flx) : ({ s with flx := r } : State).rst = s.rst := rfl
theorem with_flx_quartz (s : State) (r : Flx) : ({ s with flx := r } : State).quartz = s.quartz := rfl
theorem with_flx_lnkA (s : State) (r : Flx) : ({ s with flx := r } : State).lnkA = s.lnkA := rfl
theorem with_flx_lnkB (s : State) (r : Flx) : ({ s with flx := r } : State).lnkB = s.lnkB := rfl
theorem with_flx_csf (s : State) (r : Flx) : ({ s with flx := r } : State).csf = s.csf := rfl
theorem with_flx_side (s : State) (r : Flx) : ({ s with flx := r } : State).side = s.side := rfl
theorem with_flx_spi (s : State) (r : Flx) : ({ s with flx := r } : State).spi = s.spi := rfl
theorem with_flx_cmd (s : State) (r : Flx) : ({ s with flx := r } : State).cmd = s.cmd := rfl
theorem with_flx_cmp (s : State) (r : Flx) : ({ s with flx := r } : State).cmp = s.cmp := rfl
theorem with_flx_glare (s : State) (r : Flx) : ({ s with flx := r } : State).glare = s.glare := rfl
theorem with_flx_lanes (s : State) (r : Flx) : ({ s with flx := r } : State).lanes = s.lanes := rfl
theorem with_flx_tln (s : State) (r : Flx) : ({ s with flx := r } : State).tln = s.tln := rfl
theorem with_flx_gov (s : State) (r : Flx) : ({ s with flx := r } : State).gov = s.gov := rfl
theorem with_flx_cal (s : State) (r : Flx) : ({ s with flx := r } : State).cal = s.cal := rfl
theorem with_flx_seg (s : State) (r : Flx) : ({ s with flx := r } : State).seg = s.seg := rfl
theorem with_flx_thm (s : State) (r : Flx) : ({ s with flx := r } : State).thm = s.thm := rfl
theorem with_flx_pwr (s : State) (r : Flx) : ({ s with flx := r } : State).pwr = s.pwr := rfl
theorem with_flx_sec (s : State) (r : Flx) : ({ s with flx := r } : State).sec = s.sec := rfl
theorem with_flx_fus (s : State) (r : Flx) : ({ s with flx := r } : State).fus = s.fus := rfl
theorem with_flx_upd (s : State) (r : Flx) : ({ s with flx := r } : State).upd = s.upd := rfl
theorem with_flx_readData (s : State) (r : Flx) : ({ s with flx := r } : State).readData = s.readData := rfl
theorem with_flx_fresh (s : State) (r : Flx) : ({ s with flx := r } : State).fresh = s.fresh := rfl
theorem with_flx_pending (s : State) (r : Flx) : ({ s with flx := r } : State).pending = s.pending := rfl
theorem with_upd_regs (s : State) (r : Upd) : ({ s with upd := r } : State).regs = s.regs := rfl
theorem with_upd_shadow (s : State) (r : Upd) : ({ s with upd := r } : State).shadow = s.shadow := rfl
theorem with_upd_pend (s : State) (r : Upd) : ({ s with upd := r } : State).pend = s.pend := rfl
theorem with_upd_pendPages (s : State) (r : Upd) : ({ s with upd := r } : State).pendPages = s.pendPages := rfl
theorem with_upd_mem (s : State) (r : Upd) : ({ s with upd := r } : State).mem = s.mem := rfl
theorem with_upd_latches (s : State) (r : Upd) : ({ s with upd := r } : State).latches = s.latches := rfl
theorem with_upd_now (s : State) (r : Upd) : ({ s with upd := r } : State).now = s.now := rfl
theorem with_upd_ohSub (s : State) (r : Upd) : ({ s with upd := r } : State).ohSub = s.ohSub := rfl
theorem with_upd_lt (s : State) (r : Upd) : ({ s with upd := r } : State).lt = s.lt := rfl
theorem with_upd_slew (s : State) (r : Upd) : ({ s with upd := r } : State).slew = s.slew := rfl
theorem with_upd_ltApplied (s : State) (r : Upd) : ({ s with upd := r } : State).ltApplied = s.ltApplied := rfl
theorem with_upd_flt (s : State) (r : Upd) : ({ s with upd := r } : State).flt = s.flt := rfl
theorem with_upd_evr (s : State) (r : Upd) : ({ s with upd := r } : State).evr = s.evr := rfl
theorem with_upd_saf (s : State) (r : Upd) : ({ s with upd := r } : State).saf = s.saf := rfl
theorem with_upd_rst (s : State) (r : Upd) : ({ s with upd := r } : State).rst = s.rst := rfl
theorem with_upd_quartz (s : State) (r : Upd) : ({ s with upd := r } : State).quartz = s.quartz := rfl
theorem with_upd_lnkA (s : State) (r : Upd) : ({ s with upd := r } : State).lnkA = s.lnkA := rfl
theorem with_upd_lnkB (s : State) (r : Upd) : ({ s with upd := r } : State).lnkB = s.lnkB := rfl
theorem with_upd_csf (s : State) (r : Upd) : ({ s with upd := r } : State).csf = s.csf := rfl
theorem with_upd_side (s : State) (r : Upd) : ({ s with upd := r } : State).side = s.side := rfl
theorem with_upd_spi (s : State) (r : Upd) : ({ s with upd := r } : State).spi = s.spi := rfl
theorem with_upd_cmd (s : State) (r : Upd) : ({ s with upd := r } : State).cmd = s.cmd := rfl
theorem with_upd_cmp (s : State) (r : Upd) : ({ s with upd := r } : State).cmp = s.cmp := rfl
theorem with_upd_glare (s : State) (r : Upd) : ({ s with upd := r } : State).glare = s.glare := rfl
theorem with_upd_lanes (s : State) (r : Upd) : ({ s with upd := r } : State).lanes = s.lanes := rfl
theorem with_upd_tln (s : State) (r : Upd) : ({ s with upd := r } : State).tln = s.tln := rfl
theorem with_upd_gov (s : State) (r : Upd) : ({ s with upd := r } : State).gov = s.gov := rfl
theorem with_upd_cal (s : State) (r : Upd) : ({ s with upd := r } : State).cal = s.cal := rfl
theorem with_upd_flx (s : State) (r : Upd) : ({ s with upd := r } : State).flx = s.flx := rfl
theorem with_upd_seg (s : State) (r : Upd) : ({ s with upd := r } : State).seg = s.seg := rfl
theorem with_upd_thm (s : State) (r : Upd) : ({ s with upd := r } : State).thm = s.thm := rfl
theorem with_upd_pwr (s : State) (r : Upd) : ({ s with upd := r } : State).pwr = s.pwr := rfl
theorem with_upd_sec (s : State) (r : Upd) : ({ s with upd := r } : State).sec = s.sec := rfl
theorem with_upd_fus (s : State) (r : Upd) : ({ s with upd := r } : State).fus = s.fus := rfl
theorem with_upd_readData (s : State) (r : Upd) : ({ s with upd := r } : State).readData = s.readData := rfl
theorem with_upd_fresh (s : State) (r : Upd) : ({ s with upd := r } : State).fresh = s.fresh := rfl
theorem with_upd_pending (s : State) (r : Upd) : ({ s with upd := r } : State).pending = s.pending := rfl
theorem with_pwr_regs (s : State) (r : Pwr) : ({ s with pwr := r } : State).regs = s.regs := rfl
theorem with_pwr_shadow (s : State) (r : Pwr) : ({ s with pwr := r } : State).shadow = s.shadow := rfl
theorem with_pwr_pend (s : State) (r : Pwr) : ({ s with pwr := r } : State).pend = s.pend := rfl
theorem with_pwr_pendPages (s : State) (r : Pwr) : ({ s with pwr := r } : State).pendPages = s.pendPages := rfl
theorem with_pwr_mem (s : State) (r : Pwr) : ({ s with pwr := r } : State).mem = s.mem := rfl
theorem with_pwr_latches (s : State) (r : Pwr) : ({ s with pwr := r } : State).latches = s.latches := rfl
theorem with_pwr_now (s : State) (r : Pwr) : ({ s with pwr := r } : State).now = s.now := rfl
theorem with_pwr_ohSub (s : State) (r : Pwr) : ({ s with pwr := r } : State).ohSub = s.ohSub := rfl
theorem with_pwr_lt (s : State) (r : Pwr) : ({ s with pwr := r } : State).lt = s.lt := rfl
theorem with_pwr_slew (s : State) (r : Pwr) : ({ s with pwr := r } : State).slew = s.slew := rfl
theorem with_pwr_ltApplied (s : State) (r : Pwr) : ({ s with pwr := r } : State).ltApplied = s.ltApplied := rfl
theorem with_pwr_flt (s : State) (r : Pwr) : ({ s with pwr := r } : State).flt = s.flt := rfl
theorem with_pwr_evr (s : State) (r : Pwr) : ({ s with pwr := r } : State).evr = s.evr := rfl
theorem with_pwr_saf (s : State) (r : Pwr) : ({ s with pwr := r } : State).saf = s.saf := rfl
theorem with_pwr_rst (s : State) (r : Pwr) : ({ s with pwr := r } : State).rst = s.rst := rfl
theorem with_pwr_quartz (s : State) (r : Pwr) : ({ s with pwr := r } : State).quartz = s.quartz := rfl
theorem with_pwr_lnkA (s : State) (r : Pwr) : ({ s with pwr := r } : State).lnkA = s.lnkA := rfl
theorem with_pwr_lnkB (s : State) (r : Pwr) : ({ s with pwr := r } : State).lnkB = s.lnkB := rfl
theorem with_pwr_csf (s : State) (r : Pwr) : ({ s with pwr := r } : State).csf = s.csf := rfl
theorem with_pwr_side (s : State) (r : Pwr) : ({ s with pwr := r } : State).side = s.side := rfl
theorem with_pwr_spi (s : State) (r : Pwr) : ({ s with pwr := r } : State).spi = s.spi := rfl
theorem with_pwr_cmd (s : State) (r : Pwr) : ({ s with pwr := r } : State).cmd = s.cmd := rfl
theorem with_pwr_cmp (s : State) (r : Pwr) : ({ s with pwr := r } : State).cmp = s.cmp := rfl
theorem with_pwr_glare (s : State) (r : Pwr) : ({ s with pwr := r } : State).glare = s.glare := rfl
theorem with_pwr_lanes (s : State) (r : Pwr) : ({ s with pwr := r } : State).lanes = s.lanes := rfl
theorem with_pwr_tln (s : State) (r : Pwr) : ({ s with pwr := r } : State).tln = s.tln := rfl
theorem with_pwr_gov (s : State) (r : Pwr) : ({ s with pwr := r } : State).gov = s.gov := rfl
theorem with_pwr_cal (s : State) (r : Pwr) : ({ s with pwr := r } : State).cal = s.cal := rfl
theorem with_pwr_flx (s : State) (r : Pwr) : ({ s with pwr := r } : State).flx = s.flx := rfl
theorem with_pwr_seg (s : State) (r : Pwr) : ({ s with pwr := r } : State).seg = s.seg := rfl
theorem with_pwr_thm (s : State) (r : Pwr) : ({ s with pwr := r } : State).thm = s.thm := rfl
theorem with_pwr_sec (s : State) (r : Pwr) : ({ s with pwr := r } : State).sec = s.sec := rfl
theorem with_pwr_fus (s : State) (r : Pwr) : ({ s with pwr := r } : State).fus = s.fus := rfl
theorem with_pwr_upd (s : State) (r : Pwr) : ({ s with pwr := r } : State).upd = s.upd := rfl
theorem with_pwr_readData (s : State) (r : Pwr) : ({ s with pwr := r } : State).readData = s.readData := rfl
theorem with_pwr_fresh (s : State) (r : Pwr) : ({ s with pwr := r } : State).fresh = s.fresh := rfl
theorem with_pwr_pending (s : State) (r : Pwr) : ({ s with pwr := r } : State).pending = s.pending := rfl
theorem with_pending_regs (s : State) (r : List Instr) : ({ s with pending := r } : State).regs = s.regs := rfl
theorem with_pending_shadow (s : State) (r : List Instr) : ({ s with pending := r } : State).shadow = s.shadow := rfl
theorem with_pending_pend (s : State) (r : List Instr) : ({ s with pending := r } : State).pend = s.pend := rfl
theorem with_pending_pendPages (s : State) (r : List Instr) : ({ s with pending := r } : State).pendPages = s.pendPages := rfl
theorem with_pending_mem (s : State) (r : List Instr) : ({ s with pending := r } : State).mem = s.mem := rfl
theorem with_pending_latches (s : State) (r : List Instr) : ({ s with pending := r } : State).latches = s.latches := rfl
theorem with_pending_now (s : State) (r : List Instr) : ({ s with pending := r } : State).now = s.now := rfl
theorem with_pending_ohSub (s : State) (r : List Instr) : ({ s with pending := r } : State).ohSub = s.ohSub := rfl
theorem with_pending_lt (s : State) (r : List Instr) : ({ s with pending := r } : State).lt = s.lt := rfl
theorem with_pending_slew (s : State) (r : List Instr) : ({ s with pending := r } : State).slew = s.slew := rfl
theorem with_pending_ltApplied (s : State) (r : List Instr) : ({ s with pending := r } : State).ltApplied = s.ltApplied := rfl
theorem with_pending_flt (s : State) (r : List Instr) : ({ s with pending := r } : State).flt = s.flt := rfl
theorem with_pending_evr (s : State) (r : List Instr) : ({ s with pending := r } : State).evr = s.evr := rfl
theorem with_pending_saf (s : State) (r : List Instr) : ({ s with pending := r } : State).saf = s.saf := rfl
theorem with_pending_rst (s : State) (r : List Instr) : ({ s with pending := r } : State).rst = s.rst := rfl
theorem with_pending_quartz (s : State) (r : List Instr) : ({ s with pending := r } : State).quartz = s.quartz := rfl
theorem with_pending_lnkA (s : State) (r : List Instr) : ({ s with pending := r } : State).lnkA = s.lnkA := rfl
theorem with_pending_lnkB (s : State) (r : List Instr) : ({ s with pending := r } : State).lnkB = s.lnkB := rfl
theorem with_pending_csf (s : State) (r : List Instr) : ({ s with pending := r } : State).csf = s.csf := rfl
theorem with_pending_side (s : State) (r : List Instr) : ({ s with pending := r } : State).side = s.side := rfl
theorem with_pending_spi (s : State) (r : List Instr) : ({ s with pending := r } : State).spi = s.spi := rfl
theorem with_pending_cmd (s : State) (r : List Instr) : ({ s with pending := r } : State).cmd = s.cmd := rfl
theorem with_pending_cmp (s : State) (r : List Instr) : ({ s with pending := r } : State).cmp = s.cmp := rfl
theorem with_pending_glare (s : State) (r : List Instr) : ({ s with pending := r } : State).glare = s.glare := rfl
theorem with_pending_lanes (s : State) (r : List Instr) : ({ s with pending := r } : State).lanes = s.lanes := rfl
theorem with_pending_tln (s : State) (r : List Instr) : ({ s with pending := r } : State).tln = s.tln := rfl
theorem with_pending_gov (s : State) (r : List Instr) : ({ s with pending := r } : State).gov = s.gov := rfl
theorem with_pending_cal (s : State) (r : List Instr) : ({ s with pending := r } : State).cal = s.cal := rfl
theorem with_pending_flx (s : State) (r : List Instr) : ({ s with pending := r } : State).flx = s.flx := rfl
theorem with_pending_seg (s : State) (r : List Instr) : ({ s with pending := r } : State).seg = s.seg := rfl
theorem with_pending_thm (s : State) (r : List Instr) : ({ s with pending := r } : State).thm = s.thm := rfl
theorem with_pending_pwr (s : State) (r : List Instr) : ({ s with pending := r } : State).pwr = s.pwr := rfl
theorem with_pending_sec (s : State) (r : List Instr) : ({ s with pending := r } : State).sec = s.sec := rfl
theorem with_pending_fus (s : State) (r : List Instr) : ({ s with pending := r } : State).fus = s.fus := rfl
theorem with_pending_upd (s : State) (r : List Instr) : ({ s with pending := r } : State).upd = s.upd := rfl
theorem with_pending_readData (s : State) (r : List Instr) : ({ s with pending := r } : State).readData = s.readData := rfl
theorem with_pending_fresh (s : State) (r : List Instr) : ({ s with pending := r } : State).fresh = s.fresh := rfl
theorem with_sec_regs (s : State) (r : Sec) : ({ s with sec := r } : State).regs = s.regs := rfl
theorem with_sec_shadow (s : State) (r : Sec) : ({ s with sec := r } : State).shadow = s.shadow := rfl
theorem with_sec_pend (s : State) (r : Sec) : ({ s with sec := r } : State).pend = s.pend := rfl
theorem with_sec_pendPages (s : State) (r : Sec) : ({ s with sec := r } : State).pendPages = s.pendPages := rfl
theorem with_sec_mem (s : State) (r : Sec) : ({ s with sec := r } : State).mem = s.mem := rfl
theorem with_sec_latches (s : State) (r : Sec) : ({ s with sec := r } : State).latches = s.latches := rfl
theorem with_sec_now (s : State) (r : Sec) : ({ s with sec := r } : State).now = s.now := rfl
theorem with_sec_ohSub (s : State) (r : Sec) : ({ s with sec := r } : State).ohSub = s.ohSub := rfl
theorem with_sec_lt (s : State) (r : Sec) : ({ s with sec := r } : State).lt = s.lt := rfl
theorem with_sec_slew (s : State) (r : Sec) : ({ s with sec := r } : State).slew = s.slew := rfl
theorem with_sec_ltApplied (s : State) (r : Sec) : ({ s with sec := r } : State).ltApplied = s.ltApplied := rfl
theorem with_sec_flt (s : State) (r : Sec) : ({ s with sec := r } : State).flt = s.flt := rfl
theorem with_sec_evr (s : State) (r : Sec) : ({ s with sec := r } : State).evr = s.evr := rfl
theorem with_sec_saf (s : State) (r : Sec) : ({ s with sec := r } : State).saf = s.saf := rfl
theorem with_sec_rst (s : State) (r : Sec) : ({ s with sec := r } : State).rst = s.rst := rfl
theorem with_sec_quartz (s : State) (r : Sec) : ({ s with sec := r } : State).quartz = s.quartz := rfl
theorem with_sec_lnkA (s : State) (r : Sec) : ({ s with sec := r } : State).lnkA = s.lnkA := rfl
theorem with_sec_lnkB (s : State) (r : Sec) : ({ s with sec := r } : State).lnkB = s.lnkB := rfl
theorem with_sec_csf (s : State) (r : Sec) : ({ s with sec := r } : State).csf = s.csf := rfl
theorem with_sec_side (s : State) (r : Sec) : ({ s with sec := r } : State).side = s.side := rfl
theorem with_sec_spi (s : State) (r : Sec) : ({ s with sec := r } : State).spi = s.spi := rfl
theorem with_sec_cmd (s : State) (r : Sec) : ({ s with sec := r } : State).cmd = s.cmd := rfl
theorem with_sec_cmp (s : State) (r : Sec) : ({ s with sec := r } : State).cmp = s.cmp := rfl
theorem with_sec_glare (s : State) (r : Sec) : ({ s with sec := r } : State).glare = s.glare := rfl
theorem with_sec_lanes (s : State) (r : Sec) : ({ s with sec := r } : State).lanes = s.lanes := rfl
theorem with_sec_tln (s : State) (r : Sec) : ({ s with sec := r } : State).tln = s.tln := rfl
theorem with_sec_gov (s : State) (r : Sec) : ({ s with sec := r } : State).gov = s.gov := rfl
theorem with_sec_cal (s : State) (r : Sec) : ({ s with sec := r } : State).cal = s.cal := rfl
theorem with_sec_flx (s : State) (r : Sec) : ({ s with sec := r } : State).flx = s.flx := rfl
theorem with_sec_seg (s : State) (r : Sec) : ({ s with sec := r } : State).seg = s.seg := rfl
theorem with_sec_thm (s : State) (r : Sec) : ({ s with sec := r } : State).thm = s.thm := rfl
theorem with_sec_pwr (s : State) (r : Sec) : ({ s with sec := r } : State).pwr = s.pwr := rfl
theorem with_sec_fus (s : State) (r : Sec) : ({ s with sec := r } : State).fus = s.fus := rfl
theorem with_sec_upd (s : State) (r : Sec) : ({ s with sec := r } : State).upd = s.upd := rfl
theorem with_sec_readData (s : State) (r : Sec) : ({ s with sec := r } : State).readData = s.readData := rfl
theorem with_sec_fresh (s : State) (r : Sec) : ({ s with sec := r } : State).fresh = s.fresh := rfl
theorem with_sec_pending (s : State) (r : Sec) : ({ s with sec := r } : State).pending = s.pending := rfl
theorem with_thm_regs (s : State) (r : Thm) : ({ s with thm := r } : State).regs = s.regs := rfl
theorem with_thm_shadow (s : State) (r : Thm) : ({ s with thm := r } : State).shadow = s.shadow := rfl
theorem with_thm_pend (s : State) (r : Thm) : ({ s with thm := r } : State).pend = s.pend := rfl
theorem with_thm_pendPages (s : State) (r : Thm) : ({ s with thm := r } : State).pendPages = s.pendPages := rfl
theorem with_thm_mem (s : State) (r : Thm) : ({ s with thm := r } : State).mem = s.mem := rfl
theorem with_thm_latches (s : State) (r : Thm) : ({ s with thm := r } : State).latches = s.latches := rfl
theorem with_thm_now (s : State) (r : Thm) : ({ s with thm := r } : State).now = s.now := rfl
theorem with_thm_ohSub (s : State) (r : Thm) : ({ s with thm := r } : State).ohSub = s.ohSub := rfl
theorem with_thm_lt (s : State) (r : Thm) : ({ s with thm := r } : State).lt = s.lt := rfl
theorem with_thm_slew (s : State) (r : Thm) : ({ s with thm := r } : State).slew = s.slew := rfl
theorem with_thm_ltApplied (s : State) (r : Thm) : ({ s with thm := r } : State).ltApplied = s.ltApplied := rfl
theorem with_thm_flt (s : State) (r : Thm) : ({ s with thm := r } : State).flt = s.flt := rfl
theorem with_thm_evr (s : State) (r : Thm) : ({ s with thm := r } : State).evr = s.evr := rfl
theorem with_thm_saf (s : State) (r : Thm) : ({ s with thm := r } : State).saf = s.saf := rfl
theorem with_thm_rst (s : State) (r : Thm) : ({ s with thm := r } : State).rst = s.rst := rfl
theorem with_thm_quartz (s : State) (r : Thm) : ({ s with thm := r } : State).quartz = s.quartz := rfl
theorem with_thm_lnkA (s : State) (r : Thm) : ({ s with thm := r } : State).lnkA = s.lnkA := rfl
theorem with_thm_lnkB (s : State) (r : Thm) : ({ s with thm := r } : State).lnkB = s.lnkB := rfl
theorem with_thm_csf (s : State) (r : Thm) : ({ s with thm := r } : State).csf = s.csf := rfl
theorem with_thm_side (s : State) (r : Thm) : ({ s with thm := r } : State).side = s.side := rfl
theorem with_thm_spi (s : State) (r : Thm) : ({ s with thm := r } : State).spi = s.spi := rfl
theorem with_thm_cmd (s : State) (r : Thm) : ({ s with thm := r } : State).cmd = s.cmd := rfl
theorem with_thm_cmp (s : State) (r : Thm) : ({ s with thm := r } : State).cmp = s.cmp := rfl
theorem with_thm_glare (s : State) (r : Thm) : ({ s with thm := r } : State).glare = s.glare := rfl
theorem with_thm_lanes (s : State) (r : Thm) : ({ s with thm := r } : State).lanes = s.lanes := rfl
theorem with_thm_tln (s : State) (r : Thm) : ({ s with thm := r } : State).tln = s.tln := rfl
theorem with_thm_gov (s : State) (r : Thm) : ({ s with thm := r } : State).gov = s.gov := rfl
theorem with_thm_cal (s : State) (r : Thm) : ({ s with thm := r } : State).cal = s.cal := rfl
theorem with_thm_flx (s : State) (r : Thm) : ({ s with thm := r } : State).flx = s.flx := rfl
theorem with_thm_seg (s : State) (r : Thm) : ({ s with thm := r } : State).seg = s.seg := rfl
theorem with_thm_pwr (s : State) (r : Thm) : ({ s with thm := r } : State).pwr = s.pwr := rfl
theorem with_thm_sec (s : State) (r : Thm) : ({ s with thm := r } : State).sec = s.sec := rfl
theorem with_thm_fus (s : State) (r : Thm) : ({ s with thm := r } : State).fus = s.fus := rfl
theorem with_thm_upd (s : State) (r : Thm) : ({ s with thm := r } : State).upd = s.upd := rfl
theorem with_thm_readData (s : State) (r : Thm) : ({ s with thm := r } : State).readData = s.readData := rfl
theorem with_thm_fresh (s : State) (r : Thm) : ({ s with thm := r } : State).fresh = s.fresh := rfl
theorem with_thm_pending (s : State) (r : Thm) : ({ s with thm := r } : State).pending = s.pending := rfl
theorem with_flt_regs (s : State) (r : Flt) : ({ s with flt := r } : State).regs = s.regs := rfl
theorem with_flt_shadow (s : State) (r : Flt) : ({ s with flt := r } : State).shadow = s.shadow := rfl
theorem with_flt_pend (s : State) (r : Flt) : ({ s with flt := r } : State).pend = s.pend := rfl
theorem with_flt_pendPages (s : State) (r : Flt) : ({ s with flt := r } : State).pendPages = s.pendPages := rfl
theorem with_flt_mem (s : State) (r : Flt) : ({ s with flt := r } : State).mem = s.mem := rfl
theorem with_flt_latches (s : State) (r : Flt) : ({ s with flt := r } : State).latches = s.latches := rfl
theorem with_flt_now (s : State) (r : Flt) : ({ s with flt := r } : State).now = s.now := rfl
theorem with_flt_ohSub (s : State) (r : Flt) : ({ s with flt := r } : State).ohSub = s.ohSub := rfl
theorem with_flt_lt (s : State) (r : Flt) : ({ s with flt := r } : State).lt = s.lt := rfl
theorem with_flt_slew (s : State) (r : Flt) : ({ s with flt := r } : State).slew = s.slew := rfl
theorem with_flt_ltApplied (s : State) (r : Flt) : ({ s with flt := r } : State).ltApplied = s.ltApplied := rfl
theorem with_flt_evr (s : State) (r : Flt) : ({ s with flt := r } : State).evr = s.evr := rfl
theorem with_flt_saf (s : State) (r : Flt) : ({ s with flt := r } : State).saf = s.saf := rfl
theorem with_flt_rst (s : State) (r : Flt) : ({ s with flt := r } : State).rst = s.rst := rfl
theorem with_flt_quartz (s : State) (r : Flt) : ({ s with flt := r } : State).quartz = s.quartz := rfl
theorem with_flt_lnkA (s : State) (r : Flt) : ({ s with flt := r } : State).lnkA = s.lnkA := rfl
theorem with_flt_lnkB (s : State) (r : Flt) : ({ s with flt := r } : State).lnkB = s.lnkB := rfl
theorem with_flt_csf (s : State) (r : Flt) : ({ s with flt := r } : State).csf = s.csf := rfl
theorem with_flt_side (s : State) (r : Flt) : ({ s with flt := r } : State).side = s.side := rfl
theorem with_flt_spi (s : State) (r : Flt) : ({ s with flt := r } : State).spi = s.spi := rfl
theorem with_flt_cmd (s : State) (r : Flt) : ({ s with flt := r } : State).cmd = s.cmd := rfl
theorem with_flt_cmp (s : State) (r : Flt) : ({ s with flt := r } : State).cmp = s.cmp := rfl
theorem with_flt_glare (s : State) (r : Flt) : ({ s with flt := r } : State).glare = s.glare := rfl
theorem with_flt_lanes (s : State) (r : Flt) : ({ s with flt := r } : State).lanes = s.lanes := rfl
theorem with_flt_tln (s : State) (r : Flt) : ({ s with flt := r } : State).tln = s.tln := rfl
theorem with_flt_gov (s : State) (r : Flt) : ({ s with flt := r } : State).gov = s.gov := rfl
theorem with_flt_cal (s : State) (r : Flt) : ({ s with flt := r } : State).cal = s.cal := rfl
theorem with_flt_flx (s : State) (r : Flt) : ({ s with flt := r } : State).flx = s.flx := rfl
theorem with_flt_seg (s : State) (r : Flt) : ({ s with flt := r } : State).seg = s.seg := rfl
theorem with_flt_thm (s : State) (r : Flt) : ({ s with flt := r } : State).thm = s.thm := rfl
theorem with_flt_pwr (s : State) (r : Flt) : ({ s with flt := r } : State).pwr = s.pwr := rfl
theorem with_flt_sec (s : State) (r : Flt) : ({ s with flt := r } : State).sec = s.sec := rfl
theorem with_flt_fus (s : State) (r : Flt) : ({ s with flt := r } : State).fus = s.fus := rfl
theorem with_flt_upd (s : State) (r : Flt) : ({ s with flt := r } : State).upd = s.upd := rfl
theorem with_flt_readData (s : State) (r : Flt) : ({ s with flt := r } : State).readData = s.readData := rfl
theorem with_flt_fresh (s : State) (r : Flt) : ({ s with flt := r } : State).fresh = s.fresh := rfl
theorem with_flt_pending (s : State) (r : Flt) : ({ s with flt := r } : State).pending = s.pending := rfl
theorem with_saf_regs (s : State) (r : Saf) : ({ s with saf := r } : State).regs = s.regs := rfl
theorem with_saf_shadow (s : State) (r : Saf) : ({ s with saf := r } : State).shadow = s.shadow := rfl
theorem with_saf_pend (s : State) (r : Saf) : ({ s with saf := r } : State).pend = s.pend := rfl
theorem with_saf_pendPages (s : State) (r : Saf) : ({ s with saf := r } : State).pendPages = s.pendPages := rfl
theorem with_saf_mem (s : State) (r : Saf) : ({ s with saf := r } : State).mem = s.mem := rfl
theorem with_saf_latches (s : State) (r : Saf) : ({ s with saf := r } : State).latches = s.latches := rfl
theorem with_saf_now (s : State) (r : Saf) : ({ s with saf := r } : State).now = s.now := rfl
theorem with_saf_ohSub (s : State) (r : Saf) : ({ s with saf := r } : State).ohSub = s.ohSub := rfl
theorem with_saf_lt (s : State) (r : Saf) : ({ s with saf := r } : State).lt = s.lt := rfl
theorem with_saf_slew (s : State) (r : Saf) : ({ s with saf := r } : State).slew = s.slew := rfl
theorem with_saf_ltApplied (s : State) (r : Saf) : ({ s with saf := r } : State).ltApplied = s.ltApplied := rfl
theorem with_saf_flt (s : State) (r : Saf) : ({ s with saf := r } : State).flt = s.flt := rfl
theorem with_saf_evr (s : State) (r : Saf) : ({ s with saf := r } : State).evr = s.evr := rfl
theorem with_saf_rst (s : State) (r : Saf) : ({ s with saf := r } : State).rst = s.rst := rfl
theorem with_saf_quartz (s : State) (r : Saf) : ({ s with saf := r } : State).quartz = s.quartz := rfl
theorem with_saf_lnkA (s : State) (r : Saf) : ({ s with saf := r } : State).lnkA = s.lnkA := rfl
theorem with_saf_lnkB (s : State) (r : Saf) : ({ s with saf := r } : State).lnkB = s.lnkB := rfl
theorem with_saf_csf (s : State) (r : Saf) : ({ s with saf := r } : State).csf = s.csf := rfl
theorem with_saf_side (s : State) (r : Saf) : ({ s with saf := r } : State).side = s.side := rfl
theorem with_saf_spi (s : State) (r : Saf) : ({ s with saf := r } : State).spi = s.spi := rfl
theorem with_saf_cmd (s : State) (r : Saf) : ({ s with saf := r } : State).cmd = s.cmd := rfl
theorem with_saf_cmp (s : State) (r : Saf) : ({ s with saf := r } : State).cmp = s.cmp := rfl
theorem with_saf_glare (s : State) (r : Saf) : ({ s with saf := r } : State).glare = s.glare := rfl
theorem with_saf_lanes (s : State) (r : Saf) : ({ s with saf := r } : State).lanes = s.lanes := rfl
theorem with_saf_tln (s : State) (r : Saf) : ({ s with saf := r } : State).tln = s.tln := rfl
theorem with_saf_gov (s : State) (r : Saf) : ({ s with saf := r } : State).gov = s.gov := rfl
theorem with_saf_cal (s : State) (r : Saf) : ({ s with saf := r } : State).cal = s.cal := rfl
theorem with_saf_flx (s : State) (r : Saf) : ({ s with saf := r } : State).flx = s.flx := rfl
theorem with_saf_seg (s : State) (r : Saf) : ({ s with saf := r } : State).seg = s.seg := rfl
theorem with_saf_thm (s : State) (r : Saf) : ({ s with saf := r } : State).thm = s.thm := rfl
theorem with_saf_pwr (s : State) (r : Saf) : ({ s with saf := r } : State).pwr = s.pwr := rfl
theorem with_saf_sec (s : State) (r : Saf) : ({ s with saf := r } : State).sec = s.sec := rfl
theorem with_saf_fus (s : State) (r : Saf) : ({ s with saf := r } : State).fus = s.fus := rfl
theorem with_saf_upd (s : State) (r : Saf) : ({ s with saf := r } : State).upd = s.upd := rfl
theorem with_saf_readData (s : State) (r : Saf) : ({ s with saf := r } : State).readData = s.readData := rfl
theorem with_saf_fresh (s : State) (r : Saf) : ({ s with saf := r } : State).fresh = s.fresh := rfl
theorem with_saf_pending (s : State) (r : Saf) : ({ s with saf := r } : State).pending = s.pending := rfl
theorem with_pend_regs (s : State) (r : List (Nat × Word)) : ({ s with pend := r } : State).regs = s.regs := rfl
theorem with_pend_shadow (s : State) (r : List (Nat × Word)) : ({ s with pend := r } : State).shadow = s.shadow := rfl
theorem with_pend_pendPages (s : State) (r : List (Nat × Word)) : ({ s with pend := r } : State).pendPages = s.pendPages := rfl
theorem with_pend_mem (s : State) (r : List (Nat × Word)) : ({ s with pend := r } : State).mem = s.mem := rfl
theorem with_pend_latches (s : State) (r : List (Nat × Word)) : ({ s with pend := r } : State).latches = s.latches := rfl
theorem with_pend_now (s : State) (r : List (Nat × Word)) : ({ s with pend := r } : State).now = s.now := rfl
theorem with_pend_ohSub (s : State) (r : List (Nat × Word)) : ({ s with pend := r } : State).ohSub = s.ohSub := rfl
theorem with_pend_lt (s : State) (r : List (Nat × Word)) : ({ s with pend := r } : State).lt = s.lt := rfl
theorem with_pend_slew (s : State) (r : List (Nat × Word)) : ({ s with pend := r } : State).slew = s.slew := rfl
theorem with_pend_ltApplied (s : State) (r : List (Nat × Word)) : ({ s with pend := r } : State).ltApplied = s.ltApplied := rfl
theorem with_pend_flt (s : State) (r : List (Nat × Word)) : ({ s with pend := r } : State).flt = s.flt := rfl
theorem with_pend_evr (s : State) (r : List (Nat × Word)) : ({ s with pend := r } : State).evr = s.evr := rfl
theorem with_pend_saf (s : State) (r : List (Nat × Word)) : ({ s with pend := r } : State).saf = s.saf := rfl
theorem with_pend_rst (s : State) (r : List (Nat × Word)) : ({ s with pend := r } : State).rst = s.rst := rfl
theorem with_pend_quartz (s : State) (r : List (Nat × Word)) : ({ s with pend := r } : State).quartz = s.quartz := rfl
theorem with_pend_lnkA (s : State) (r : List (Nat × Word)) : ({ s with pend := r } : State).lnkA = s.lnkA := rfl
theorem with_pend_lnkB (s : State) (r : List (Nat × Word)) : ({ s with pend := r } : State).lnkB = s.lnkB := rfl
theorem with_pend_csf (s : State) (r : List (Nat × Word)) : ({ s with pend := r } : State).csf = s.csf := rfl
theorem with_pend_side (s : State) (r : List (Nat × Word)) : ({ s with pend := r } : State).side = s.side := rfl
theorem with_pend_spi (s : State) (r : List (Nat × Word)) : ({ s with pend := r } : State).spi = s.spi := rfl
theorem with_pend_cmd (s : State) (r : List (Nat × Word)) : ({ s with pend := r } : State).cmd = s.cmd := rfl
theorem with_pend_cmp (s : State) (r : List (Nat × Word)) : ({ s with pend := r } : State).cmp = s.cmp := rfl
theorem with_pend_glare (s : State) (r : List (Nat × Word)) : ({ s with pend := r } : State).glare = s.glare := rfl
theorem with_pend_lanes (s : State) (r : List (Nat × Word)) : ({ s with pend := r } : State).lanes = s.lanes := rfl
theorem with_pend_tln (s : State) (r : List (Nat × Word)) : ({ s with pend := r } : State).tln = s.tln := rfl
theorem with_pend_gov (s : State) (r : List (Nat × Word)) : ({ s with pend := r } : State).gov = s.gov := rfl
theorem with_pend_cal (s : State) (r : List (Nat × Word)) : ({ s with pend := r } : State).cal = s.cal := rfl
theorem with_pend_flx (s : State) (r : List (Nat × Word)) : ({ s with pend := r } : State).flx = s.flx := rfl
theorem with_pend_seg (s : State) (r : List (Nat × Word)) : ({ s with pend := r } : State).seg = s.seg := rfl
theorem with_pend_thm (s : State) (r : List (Nat × Word)) : ({ s with pend := r } : State).thm = s.thm := rfl
theorem with_pend_pwr (s : State) (r : List (Nat × Word)) : ({ s with pend := r } : State).pwr = s.pwr := rfl
theorem with_pend_sec (s : State) (r : List (Nat × Word)) : ({ s with pend := r } : State).sec = s.sec := rfl
theorem with_pend_fus (s : State) (r : List (Nat × Word)) : ({ s with pend := r } : State).fus = s.fus := rfl
theorem with_pend_upd (s : State) (r : List (Nat × Word)) : ({ s with pend := r } : State).upd = s.upd := rfl
theorem with_pend_readData (s : State) (r : List (Nat × Word)) : ({ s with pend := r } : State).readData = s.readData := rfl
theorem with_pend_fresh (s : State) (r : List (Nat × Word)) : ({ s with pend := r } : State).fresh = s.fresh := rfl
theorem with_pend_pending (s : State) (r : List (Nat × Word)) : ({ s with pend := r } : State).pending = s.pending := rfl
theorem with_pendPages_regs (s : State) (r : List Nat) : ({ s with pendPages := r } : State).regs = s.regs := rfl
theorem with_pendPages_shadow (s : State) (r : List Nat) : ({ s with pendPages := r } : State).shadow = s.shadow := rfl
theorem with_pendPages_pend (s : State) (r : List Nat) : ({ s with pendPages := r } : State).pend = s.pend := rfl
theorem with_pendPages_mem (s : State) (r : List Nat) : ({ s with pendPages := r } : State).mem = s.mem := rfl
theorem with_pendPages_latches (s : State) (r : List Nat) : ({ s with pendPages := r } : State).latches = s.latches := rfl
theorem with_pendPages_now (s : State) (r : List Nat) : ({ s with pendPages := r } : State).now = s.now := rfl
theorem with_pendPages_ohSub (s : State) (r : List Nat) : ({ s with pendPages := r } : State).ohSub = s.ohSub := rfl
theorem with_pendPages_lt (s : State) (r : List Nat) : ({ s with pendPages := r } : State).lt = s.lt := rfl
theorem with_pendPages_slew (s : State) (r : List Nat) : ({ s with pendPages := r } : State).slew = s.slew := rfl
theorem with_pendPages_ltApplied (s : State) (r : List Nat) : ({ s with pendPages := r } : State).ltApplied = s.ltApplied := rfl
theorem with_pendPages_flt (s : State) (r : List Nat) : ({ s with pendPages := r } : State).flt = s.flt := rfl
theorem with_pendPages_evr (s : State) (r : List Nat) : ({ s with pendPages := r } : State).evr = s.evr := rfl
theorem with_pendPages_saf (s : State) (r : List Nat) : ({ s with pendPages := r } : State).saf = s.saf := rfl
theorem with_pendPages_rst (s : State) (r : List Nat) : ({ s with pendPages := r } : State).rst = s.rst := rfl
theorem with_pendPages_quartz (s : State) (r : List Nat) : ({ s with pendPages := r } : State).quartz = s.quartz := rfl
theorem with_pendPages_lnkA (s : State) (r : List Nat) : ({ s with pendPages := r } : State).lnkA = s.lnkA := rfl
theorem with_pendPages_lnkB (s : State) (r : List Nat) : ({ s with pendPages := r } : State).lnkB = s.lnkB := rfl
theorem with_pendPages_csf (s : State) (r : List Nat) : ({ s with pendPages := r } : State).csf = s.csf := rfl
theorem with_pendPages_side (s : State) (r : List Nat) : ({ s with pendPages := r } : State).side = s.side := rfl
theorem with_pendPages_spi (s : State) (r : List Nat) : ({ s with pendPages := r } : State).spi = s.spi := rfl
theorem with_pendPages_cmd (s : State) (r : List Nat) : ({ s with pendPages := r } : State).cmd = s.cmd := rfl
theorem with_pendPages_cmp (s : State) (r : List Nat) : ({ s with pendPages := r } : State).cmp = s.cmp := rfl
theorem with_pendPages_glare (s : State) (r : List Nat) : ({ s with pendPages := r } : State).glare = s.glare := rfl
theorem with_pendPages_lanes (s : State) (r : List Nat) : ({ s with pendPages := r } : State).lanes = s.lanes := rfl
theorem with_pendPages_tln (s : State) (r : List Nat) : ({ s with pendPages := r } : State).tln = s.tln := rfl
theorem with_pendPages_gov (s : State) (r : List Nat) : ({ s with pendPages := r } : State).gov = s.gov := rfl
theorem with_pendPages_cal (s : State) (r : List Nat) : ({ s with pendPages := r } : State).cal = s.cal := rfl
theorem with_pendPages_flx (s : State) (r : List Nat) : ({ s with pendPages := r } : State).flx = s.flx := rfl
theorem with_pendPages_seg (s : State) (r : List Nat) : ({ s with pendPages := r } : State).seg = s.seg := rfl
theorem with_pendPages_thm (s : State) (r : List Nat) : ({ s with pendPages := r } : State).thm = s.thm := rfl
theorem with_pendPages_pwr (s : State) (r : List Nat) : ({ s with pendPages := r } : State).pwr = s.pwr := rfl
theorem with_pendPages_sec (s : State) (r : List Nat) : ({ s with pendPages := r } : State).sec = s.sec := rfl
theorem with_pendPages_fus (s : State) (r : List Nat) : ({ s with pendPages := r } : State).fus = s.fus := rfl
theorem with_pendPages_upd (s : State) (r : List Nat) : ({ s with pendPages := r } : State).upd = s.upd := rfl
theorem with_pendPages_readData (s : State) (r : List Nat) : ({ s with pendPages := r } : State).readData = s.readData := rfl
theorem with_pendPages_fresh (s : State) (r : List Nat) : ({ s with pendPages := r } : State).fresh = s.fresh := rfl
theorem with_pendPages_pending (s : State) (r : List Nat) : ({ s with pendPages := r } : State).pending = s.pending := rfl
theorem with_latches_regs (s : State) (r : List ((Nat × Nat) × Word)) : ({ s with latches := r } : State).regs = s.regs := rfl
theorem with_latches_shadow (s : State) (r : List ((Nat × Nat) × Word)) : ({ s with latches := r } : State).shadow = s.shadow := rfl
theorem with_latches_pend (s : State) (r : List ((Nat × Nat) × Word)) : ({ s with latches := r } : State).pend = s.pend := rfl
theorem with_latches_pendPages (s : State) (r : List ((Nat × Nat) × Word)) : ({ s with latches := r } : State).pendPages = s.pendPages := rfl
theorem with_latches_mem (s : State) (r : List ((Nat × Nat) × Word)) : ({ s with latches := r } : State).mem = s.mem := rfl
theorem with_latches_now (s : State) (r : List ((Nat × Nat) × Word)) : ({ s with latches := r } : State).now = s.now := rfl
theorem with_latches_ohSub (s : State) (r : List ((Nat × Nat) × Word)) : ({ s with latches := r } : State).ohSub = s.ohSub := rfl
theorem with_latches_lt (s : State) (r : List ((Nat × Nat) × Word)) : ({ s with latches := r } : State).lt = s.lt := rfl
theorem with_latches_slew (s : State) (r : List ((Nat × Nat) × Word)) : ({ s with latches := r } : State).slew = s.slew := rfl
theorem with_latches_ltApplied (s : State) (r : List ((Nat × Nat) × Word)) : ({ s with latches := r } : State).ltApplied = s.ltApplied := rfl
theorem with_latches_flt (s : State) (r : List ((Nat × Nat) × Word)) : ({ s with latches := r } : State).flt = s.flt := rfl
theorem with_latches_evr (s : State) (r : List ((Nat × Nat) × Word)) : ({ s with latches := r } : State).evr = s.evr := rfl
theorem with_latches_saf (s : State) (r : List ((Nat × Nat) × Word)) : ({ s with latches := r } : State).saf = s.saf := rfl
theorem with_latches_rst (s : State) (r : List ((Nat × Nat) × Word)) : ({ s with latches := r } : State).rst = s.rst := rfl
theorem with_latches_quartz (s : State) (r : List ((Nat × Nat) × Word)) : ({ s with latches := r } : State).quartz = s.quartz := rfl
theorem with_latches_lnkA (s : State) (r : List ((Nat × Nat) × Word)) : ({ s with latches := r } : State).lnkA = s.lnkA := rfl
theorem with_latches_lnkB (s : State) (r : List ((Nat × Nat) × Word)) : ({ s with latches := r } : State).lnkB = s.lnkB := rfl
theorem with_latches_csf (s : State) (r : List ((Nat × Nat) × Word)) : ({ s with latches := r } : State).csf = s.csf := rfl
theorem with_latches_side (s : State) (r : List ((Nat × Nat) × Word)) : ({ s with latches := r } : State).side = s.side := rfl
theorem with_latches_spi (s : State) (r : List ((Nat × Nat) × Word)) : ({ s with latches := r } : State).spi = s.spi := rfl
theorem with_latches_cmd (s : State) (r : List ((Nat × Nat) × Word)) : ({ s with latches := r } : State).cmd = s.cmd := rfl
theorem with_latches_cmp (s : State) (r : List ((Nat × Nat) × Word)) : ({ s with latches := r } : State).cmp = s.cmp := rfl
theorem with_latches_glare (s : State) (r : List ((Nat × Nat) × Word)) : ({ s with latches := r } : State).glare = s.glare := rfl
theorem with_latches_lanes (s : State) (r : List ((Nat × Nat) × Word)) : ({ s with latches := r } : State).lanes = s.lanes := rfl
theorem with_latches_tln (s : State) (r : List ((Nat × Nat) × Word)) : ({ s with latches := r } : State).tln = s.tln := rfl
theorem with_latches_gov (s : State) (r : List ((Nat × Nat) × Word)) : ({ s with latches := r } : State).gov = s.gov := rfl
theorem with_latches_cal (s : State) (r : List ((Nat × Nat) × Word)) : ({ s with latches := r } : State).cal = s.cal := rfl
theorem with_latches_flx (s : State) (r : List ((Nat × Nat) × Word)) : ({ s with latches := r } : State).flx = s.flx := rfl
theorem with_latches_seg (s : State) (r : List ((Nat × Nat) × Word)) : ({ s with latches := r } : State).seg = s.seg := rfl
theorem with_latches_thm (s : State) (r : List ((Nat × Nat) × Word)) : ({ s with latches := r } : State).thm = s.thm := rfl
theorem with_latches_pwr (s : State) (r : List ((Nat × Nat) × Word)) : ({ s with latches := r } : State).pwr = s.pwr := rfl
theorem with_latches_sec (s : State) (r : List ((Nat × Nat) × Word)) : ({ s with latches := r } : State).sec = s.sec := rfl
theorem with_latches_fus (s : State) (r : List ((Nat × Nat) × Word)) : ({ s with latches := r } : State).fus = s.fus := rfl
theorem with_latches_upd (s : State) (r : List ((Nat × Nat) × Word)) : ({ s with latches := r } : State).upd = s.upd := rfl
theorem with_latches_readData (s : State) (r : List ((Nat × Nat) × Word)) : ({ s with latches := r } : State).readData = s.readData := rfl
theorem with_latches_fresh (s : State) (r : List ((Nat × Nat) × Word)) : ({ s with latches := r } : State).fresh = s.fresh := rfl
theorem with_latches_pending (s : State) (r : List ((Nat × Nat) × Word)) : ({ s with latches := r } : State).pending = s.pending := rfl
theorem with_now_regs (s : State) (r : Nat) : ({ s with now := r } : State).regs = s.regs := rfl
theorem with_now_shadow (s : State) (r : Nat) : ({ s with now := r } : State).shadow = s.shadow := rfl
theorem with_now_pend (s : State) (r : Nat) : ({ s with now := r } : State).pend = s.pend := rfl
theorem with_now_pendPages (s : State) (r : Nat) : ({ s with now := r } : State).pendPages = s.pendPages := rfl
theorem with_now_mem (s : State) (r : Nat) : ({ s with now := r } : State).mem = s.mem := rfl
theorem with_now_latches (s : State) (r : Nat) : ({ s with now := r } : State).latches = s.latches := rfl
theorem with_now_ohSub (s : State) (r : Nat) : ({ s with now := r } : State).ohSub = s.ohSub := rfl
theorem with_now_lt (s : State) (r : Nat) : ({ s with now := r } : State).lt = s.lt := rfl
theorem with_now_slew (s : State) (r : Nat) : ({ s with now := r } : State).slew = s.slew := rfl
theorem with_now_ltApplied (s : State) (r : Nat) : ({ s with now := r } : State).ltApplied = s.ltApplied := rfl
theorem with_now_flt (s : State) (r : Nat) : ({ s with now := r } : State).flt = s.flt := rfl
theorem with_now_evr (s : State) (r : Nat) : ({ s with now := r } : State).evr = s.evr := rfl
theorem with_now_saf (s : State) (r : Nat) : ({ s with now := r } : State).saf = s.saf := rfl
theorem with_now_rst (s : State) (r : Nat) : ({ s with now := r } : State).rst = s.rst := rfl
theorem with_now_quartz (s : State) (r : Nat) : ({ s with now := r } : State).quartz = s.quartz := rfl
theorem with_now_lnkA (s : State) (r : Nat) : ({ s with now := r } : State).lnkA = s.lnkA := rfl
theorem with_now_lnkB (s : State) (r : Nat) : ({ s with now := r } : State).lnkB = s.lnkB := rfl
theorem with_now_csf (s : State) (r : Nat) : ({ s with now := r } : State).csf = s.csf := rfl
theorem with_now_side (s : State) (r : Nat) : ({ s with now := r } : State).side = s.side := rfl
theorem with_now_spi (s : State) (r : Nat) : ({ s with now := r } : State).spi = s.spi := rfl
theorem with_now_cmd (s : State) (r : Nat) : ({ s with now := r } : State).cmd = s.cmd := rfl
theorem with_now_cmp (s : State) (r : Nat) : ({ s with now := r } : State).cmp = s.cmp := rfl
theorem with_now_glare (s : State) (r : Nat) : ({ s with now := r } : State).glare = s.glare := rfl
theorem with_now_lanes (s : State) (r : Nat) : ({ s with now := r } : State).lanes = s.lanes := rfl
theorem with_now_tln (s : State) (r : Nat) : ({ s with now := r } : State).tln = s.tln := rfl
theorem with_now_gov (s : State) (r : Nat) : ({ s with now := r } : State).gov = s.gov := rfl
theorem with_now_cal (s : State) (r : Nat) : ({ s with now := r } : State).cal = s.cal := rfl
theorem with_now_flx (s : State) (r : Nat) : ({ s with now := r } : State).flx = s.flx := rfl
theorem with_now_seg (s : State) (r : Nat) : ({ s with now := r } : State).seg = s.seg := rfl
theorem with_now_thm (s : State) (r : Nat) : ({ s with now := r } : State).thm = s.thm := rfl
theorem with_now_pwr (s : State) (r : Nat) : ({ s with now := r } : State).pwr = s.pwr := rfl
theorem with_now_sec (s : State) (r : Nat) : ({ s with now := r } : State).sec = s.sec := rfl
theorem with_now_fus (s : State) (r : Nat) : ({ s with now := r } : State).fus = s.fus := rfl
theorem with_now_upd (s : State) (r : Nat) : ({ s with now := r } : State).upd = s.upd := rfl
theorem with_now_readData (s : State) (r : Nat) : ({ s with now := r } : State).readData = s.readData := rfl
theorem with_now_fresh (s : State) (r : Nat) : ({ s with now := r } : State).fresh = s.fresh := rfl
theorem with_now_pending (s : State) (r : Nat) : ({ s with now := r } : State).pending = s.pending := rfl
theorem with_ohSub_regs (s : State) (r : Nat) : ({ s with ohSub := r } : State).regs = s.regs := rfl
theorem with_ohSub_shadow (s : State) (r : Nat) : ({ s with ohSub := r } : State).shadow = s.shadow := rfl
theorem with_ohSub_pend (s : State) (r : Nat) : ({ s with ohSub := r } : State).pend = s.pend := rfl
theorem with_ohSub_pendPages (s : State) (r : Nat) : ({ s with ohSub := r } : State).pendPages = s.pendPages := rfl
theorem with_ohSub_mem (s : State) (r : Nat) : ({ s with ohSub := r } : State).mem = s.mem := rfl
theorem with_ohSub_latches (s : State) (r : Nat) : ({ s with ohSub := r } : State).latches = s.latches := rfl
theorem with_ohSub_now (s : State) (r : Nat) : ({ s with ohSub := r } : State).now = s.now := rfl
theorem with_ohSub_lt (s : State) (r : Nat) : ({ s with ohSub := r } : State).lt = s.lt := rfl
theorem with_ohSub_slew (s : State) (r : Nat) : ({ s with ohSub := r } : State).slew = s.slew := rfl
theorem with_ohSub_ltApplied (s : State) (r : Nat) : ({ s with ohSub := r } : State).ltApplied = s.ltApplied := rfl
theorem with_ohSub_flt (s : State) (r : Nat) : ({ s with ohSub := r } : State).flt = s.flt := rfl
theorem with_ohSub_evr (s : State) (r : Nat) : ({ s with ohSub := r } : State).evr = s.evr := rfl
theorem with_ohSub_saf (s : State) (r : Nat) : ({ s with ohSub := r } : State).saf = s.saf := rfl
theorem with_ohSub_rst (s : State) (r : Nat) : ({ s with ohSub := r } : State).rst = s.rst := rfl
theorem with_ohSub_quartz (s : State) (r : Nat) : ({ s with ohSub := r } : State).quartz = s.quartz := rfl
theorem with_ohSub_lnkA (s : State) (r : Nat) : ({ s with ohSub := r } : State).lnkA = s.lnkA := rfl
theorem with_ohSub_lnkB (s : State) (r : Nat) : ({ s with ohSub := r } : State).lnkB = s.lnkB := rfl
theorem with_ohSub_csf (s : State) (r : Nat) : ({ s with ohSub := r } : State).csf = s.csf := rfl
theorem with_ohSub_side (s : State) (r : Nat) : ({ s with ohSub := r } : State).side = s.side := rfl
theorem with_ohSub_spi (s : State) (r : Nat) : ({ s with ohSub := r } : State).spi = s.spi := rfl
theorem with_ohSub_cmd (s : State) (r : Nat) : ({ s with ohSub := r } : State).cmd = s.cmd := rfl
theorem with_ohSub_cmp (s : State) (r : Nat) : ({ s with ohSub := r } : State).cmp = s.cmp := rfl
theorem with_ohSub_glare (s : State) (r : Nat) : ({ s with ohSub := r } : State).glare = s.glare := rfl
theorem with_ohSub_lanes (s : State) (r : Nat) : ({ s with ohSub := r } : State).lanes = s.lanes := rfl
theorem with_ohSub_tln (s : State) (r : Nat) : ({ s with ohSub := r } : State).tln = s.tln := rfl
theorem with_ohSub_gov (s : State) (r : Nat) : ({ s with ohSub := r } : State).gov = s.gov := rfl
theorem with_ohSub_cal (s : State) (r : Nat) : ({ s with ohSub := r } : State).cal = s.cal := rfl
theorem with_ohSub_flx (s : State) (r : Nat) : ({ s with ohSub := r } : State).flx = s.flx := rfl
theorem with_ohSub_seg (s : State) (r : Nat) : ({ s with ohSub := r } : State).seg = s.seg := rfl
theorem with_ohSub_thm (s : State) (r : Nat) : ({ s with ohSub := r } : State).thm = s.thm := rfl
theorem with_ohSub_pwr (s : State) (r : Nat) : ({ s with ohSub := r } : State).pwr = s.pwr := rfl
theorem with_ohSub_sec (s : State) (r : Nat) : ({ s with ohSub := r } : State).sec = s.sec := rfl
theorem with_ohSub_fus (s : State) (r : Nat) : ({ s with ohSub := r } : State).fus = s.fus := rfl
theorem with_ohSub_upd (s : State) (r : Nat) : ({ s with ohSub := r } : State).upd = s.upd := rfl
theorem with_ohSub_readData (s : State) (r : Nat) : ({ s with ohSub := r } : State).readData = s.readData := rfl
theorem with_ohSub_fresh (s : State) (r : Nat) : ({ s with ohSub := r } : State).fresh = s.fresh := rfl
theorem with_ohSub_pending (s : State) (r : Nat) : ({ s with ohSub := r } : State).pending = s.pending := rfl
theorem with_lt_regs (s : State) (r : Nat) : ({ s with lt := r } : State).regs = s.regs := rfl
theorem with_lt_shadow (s : State) (r : Nat) : ({ s with lt := r } : State).shadow = s.shadow := rfl
theorem with_lt_pend (s : State) (r : Nat) : ({ s with lt := r } : State).pend = s.pend := rfl
theorem with_lt_pendPages (s : State) (r : Nat) : ({ s with lt := r } : State).pendPages = s.pendPages := rfl
theorem with_lt_mem (s : State) (r : Nat) : ({ s with lt := r } : State).mem = s.mem := rfl
theorem with_lt_latches (s : State) (r : Nat) : ({ s with lt := r } : State).latches = s.latches := rfl
theorem with_lt_now (s : State) (r : Nat) : ({ s with lt := r } : State).now = s.now := rfl
theorem with_lt_ohSub (s : State) (r : Nat) : ({ s with lt := r } : State).ohSub = s.ohSub := rfl
theorem with_lt_slew (s : State) (r : Nat) : ({ s with lt := r } : State).slew = s.slew := rfl
theorem with_lt_ltApplied (s : State) (r : Nat) : ({ s with lt := r } : State).ltApplied = s.ltApplied := rfl
theorem with_lt_flt (s : State) (r : Nat) : ({ s with lt := r } : State).flt = s.flt := rfl
theorem with_lt_evr (s : State) (r : Nat) : ({ s with lt := r } : State).evr = s.evr := rfl
theorem with_lt_saf (s : State) (r : Nat) : ({ s with lt := r } : State).saf = s.saf := rfl
theorem with_lt_rst (s : State) (r : Nat) : ({ s with lt := r } : State).rst = s.rst := rfl
theorem with_lt_quartz (s : State) (r : Nat) : ({ s with lt := r } : State).quartz = s.quartz := rfl
theorem with_lt_lnkA (s : State) (r : Nat) : ({ s with lt := r } : State).lnkA = s.lnkA := rfl
theorem with_lt_lnkB (s : State) (r : Nat) : ({ s with lt := r } : State).lnkB = s.lnkB := rfl
theorem with_lt_csf (s : State) (r : Nat) : ({ s with lt := r } : State).csf = s.csf := rfl
theorem with_lt_side (s : State) (r : Nat) : ({ s with lt := r } : State).side = s.side := rfl
theorem with_lt_spi (s : State) (r : Nat) : ({ s with lt := r } : State).spi = s.spi := rfl
theorem with_lt_cmd (s : State) (r : Nat) : ({ s with lt := r } : State).cmd = s.cmd := rfl
theorem with_lt_cmp (s : State) (r : Nat) : ({ s with lt := r } : State).cmp = s.cmp := rfl
theorem with_lt_glare (s : State) (r : Nat) : ({ s with lt := r } : State).glare = s.glare := rfl
theorem with_lt_lanes (s : State) (r : Nat) : ({ s with lt := r } : State).lanes = s.lanes := rfl
theorem with_lt_tln (s : State) (r : Nat) : ({ s with lt := r } : State).tln = s.tln := rfl
theorem with_lt_gov (s : State) (r : Nat) : ({ s with lt := r } : State).gov = s.gov := rfl
theorem with_lt_cal (s : State) (r : Nat) : ({ s with lt := r } : State).cal = s.cal := rfl
theorem with_lt_flx (s : State) (r : Nat) : ({ s with lt := r } : State).flx = s.flx := rfl
theorem with_lt_seg (s : State) (r : Nat) : ({ s with lt := r } : State).seg = s.seg := rfl
theorem with_lt_thm (s : State) (r : Nat) : ({ s with lt := r } : State).thm = s.thm := rfl
theorem with_lt_pwr (s : State) (r : Nat) : ({ s with lt := r } : State).pwr = s.pwr := rfl
theorem with_lt_sec (s : State) (r : Nat) : ({ s with lt := r } : State).sec = s.sec := rfl
theorem with_lt_fus (s : State) (r : Nat) : ({ s with lt := r } : State).fus = s.fus := rfl
theorem with_lt_upd (s : State) (r : Nat) : ({ s with lt := r } : State).upd = s.upd := rfl
theorem with_lt_readData (s : State) (r : Nat) : ({ s with lt := r } : State).readData = s.readData := rfl
theorem with_lt_fresh (s : State) (r : Nat) : ({ s with lt := r } : State).fresh = s.fresh := rfl
theorem with_lt_pending (s : State) (r : Nat) : ({ s with lt := r } : State).pending = s.pending := rfl
theorem with_slew_regs (s : State) (r : Int) : ({ s with slew := r } : State).regs = s.regs := rfl
theorem with_slew_shadow (s : State) (r : Int) : ({ s with slew := r } : State).shadow = s.shadow := rfl
theorem with_slew_pend (s : State) (r : Int) : ({ s with slew := r } : State).pend = s.pend := rfl
theorem with_slew_pendPages (s : State) (r : Int) : ({ s with slew := r } : State).pendPages = s.pendPages := rfl
theorem with_slew_mem (s : State) (r : Int) : ({ s with slew := r } : State).mem = s.mem := rfl
theorem with_slew_latches (s : State) (r : Int) : ({ s with slew := r } : State).latches = s.latches := rfl
theorem with_slew_now (s : State) (r : Int) : ({ s with slew := r } : State).now = s.now := rfl
theorem with_slew_ohSub (s : State) (r : Int) : ({ s with slew := r } : State).ohSub = s.ohSub := rfl
theorem with_slew_lt (s : State) (r : Int) : ({ s with slew := r } : State).lt = s.lt := rfl
theorem with_slew_ltApplied (s : State) (r : Int) : ({ s with slew := r } : State).ltApplied = s.ltApplied := rfl
theorem with_slew_flt (s : State) (r : Int) : ({ s with slew := r } : State).flt = s.flt := rfl
theorem with_slew_evr (s : State) (r : Int) : ({ s with slew := r } : State).evr = s.evr := rfl
theorem with_slew_saf (s : State) (r : Int) : ({ s with slew := r } : State).saf = s.saf := rfl
theorem with_slew_rst (s : State) (r : Int) : ({ s with slew := r } : State).rst = s.rst := rfl
theorem with_slew_quartz (s : State) (r : Int) : ({ s with slew := r } : State).quartz = s.quartz := rfl
theorem with_slew_lnkA (s : State) (r : Int) : ({ s with slew := r } : State).lnkA = s.lnkA := rfl
theorem with_slew_lnkB (s : State) (r : Int) : ({ s with slew := r } : State).lnkB = s.lnkB := rfl
theorem with_slew_csf (s : State) (r : Int) : ({ s with slew := r } : State).csf = s.csf := rfl
theorem with_slew_side (s : State) (r : Int) : ({ s with slew := r } : State).side = s.side := rfl
theorem with_slew_spi (s : State) (r : Int) : ({ s with slew := r } : State).spi = s.spi := rfl
theorem with_slew_cmd (s : State) (r : Int) : ({ s with slew := r } : State).cmd = s.cmd := rfl
theorem with_slew_cmp (s : State) (r : Int) : ({ s with slew := r } : State).cmp = s.cmp := rfl
theorem with_slew_glare (s : State) (r : Int) : ({ s with slew := r } : State).glare = s.glare := rfl
theorem with_slew_lanes (s : State) (r : Int) : ({ s with slew := r } : State).lanes = s.lanes := rfl
theorem with_slew_tln (s : State) (r : Int) : ({ s with slew := r } : State).tln = s.tln := rfl
theorem with_slew_gov (s : State) (r : Int) : ({ s with slew := r } : State).gov = s.gov := rfl
theorem with_slew_cal (s : State) (r : Int) : ({ s with slew := r } : State).cal = s.cal := rfl
theorem with_slew_flx (s : State) (r : Int) : ({ s with slew := r } : State).flx = s.flx := rfl
theorem with_slew_seg (s : State) (r : Int) : ({ s with slew := r } : State).seg = s.seg := rfl
theorem with_slew_thm (s : State) (r : Int) : ({ s with slew := r } : State).thm = s.thm := rfl
theorem with_slew_pwr (s : State) (r : Int) : ({ s with slew := r } : State).pwr = s.pwr := rfl
theorem with_slew_sec (s : State) (r : Int) : ({ s with slew := r } : State).sec = s.sec := rfl
theorem with_slew_fus (s : State) (r : Int) : ({ s with slew := r } : State).fus = s.fus := rfl
theorem with_slew_upd (s : State) (r : Int) : ({ s with slew := r } : State).upd = s.upd := rfl
theorem with_slew_readData (s : State) (r : Int) : ({ s with slew := r } : State).readData = s.readData := rfl
theorem with_slew_fresh (s : State) (r : Int) : ({ s with slew := r } : State).fresh = s.fresh := rfl
theorem with_slew_pending (s : State) (r : Int) : ({ s with slew := r } : State).pending = s.pending := rfl
theorem with_ltApplied_regs (s : State) (r : Option Nat) : ({ s with ltApplied := r } : State).regs = s.regs := rfl
theorem with_ltApplied_shadow (s : State) (r : Option Nat) : ({ s with ltApplied := r } : State).shadow = s.shadow := rfl
theorem with_ltApplied_pend (s : State) (r : Option Nat) : ({ s with ltApplied := r } : State).pend = s.pend := rfl
theorem with_ltApplied_pendPages (s : State) (r : Option Nat) : ({ s with ltApplied := r } : State).pendPages = s.pendPages := rfl
theorem with_ltApplied_mem (s : State) (r : Option Nat) : ({ s with ltApplied := r } : State).mem = s.mem := rfl
theorem with_ltApplied_latches (s : State) (r : Option Nat) : ({ s with ltApplied := r } : State).latches = s.latches := rfl
theorem with_ltApplied_now (s : State) (r : Option Nat) : ({ s with ltApplied := r } : State).now = s.now := rfl
theorem with_ltApplied_ohSub (s : State) (r : Option Nat) : ({ s with ltApplied := r } : State).ohSub = s.ohSub := rfl
theorem with_ltApplied_lt (s : State) (r : Option Nat) : ({ s with ltApplied := r } : State).lt = s.lt := rfl
theorem with_ltApplied_slew (s : State) (r : Option Nat) : ({ s with ltApplied := r } : State).slew = s.slew := rfl
theorem with_ltApplied_flt (s : State) (r : Option Nat) : ({ s with ltApplied := r } : State).flt = s.flt := rfl
theorem with_ltApplied_evr (s : State) (r : Option Nat) : ({ s with ltApplied := r } : State).evr = s.evr := rfl
theorem with_ltApplied_saf (s : State) (r : Option Nat) : ({ s with ltApplied := r } : State).saf = s.saf := rfl
theorem with_ltApplied_rst (s : State) (r : Option Nat) : ({ s with ltApplied := r } : State).rst = s.rst := rfl
theorem with_ltApplied_quartz (s : State) (r : Option Nat) : ({ s with ltApplied := r } : State).quartz = s.quartz := rfl
theorem with_ltApplied_lnkA (s : State) (r : Option Nat) : ({ s with ltApplied := r } : State).lnkA = s.lnkA := rfl
theorem with_ltApplied_lnkB (s : State) (r : Option Nat) : ({ s with ltApplied := r } : State).lnkB = s.lnkB := rfl
theorem with_ltApplied_csf (s : State) (r : Option Nat) : ({ s with ltApplied := r } : State).csf = s.csf := rfl
theorem with_ltApplied_side (s : State) (r : Option Nat) : ({ s with ltApplied := r } : State).side = s.side := rfl
theorem with_ltApplied_spi (s : State) (r : Option Nat) : ({ s with ltApplied := r } : State).spi = s.spi := rfl
theorem with_ltApplied_cmd (s : State) (r : Option Nat) : ({ s with ltApplied := r } : State).cmd = s.cmd := rfl
theorem with_ltApplied_cmp (s : State) (r : Option Nat) : ({ s with ltApplied := r } : State).cmp = s.cmp := rfl
theorem with_ltApplied_glare (s : State) (r : Option Nat) : ({ s with ltApplied := r } : State).glare = s.glare := rfl
theorem with_ltApplied_lanes (s : State) (r : Option Nat) : ({ s with ltApplied := r } : State).lanes = s.lanes := rfl
theorem with_ltApplied_tln (s : State) (r : Option Nat) : ({ s with ltApplied := r } : State).tln = s.tln := rfl
theorem with_ltApplied_gov (s : State) (r : Option Nat) : ({ s with ltApplied := r } : State).gov = s.gov := rfl
theorem with_ltApplied_cal (s : State) (r : Option Nat) : ({ s with ltApplied := r } : State).cal = s.cal := rfl
theorem with_ltApplied_flx (s : State) (r : Option Nat) : ({ s with ltApplied := r } : State).flx = s.flx := rfl
theorem with_ltApplied_seg (s : State) (r : Option Nat) : ({ s with ltApplied := r } : State).seg = s.seg := rfl
theorem with_ltApplied_thm (s : State) (r : Option Nat) : ({ s with ltApplied := r } : State).thm = s.thm := rfl
theorem with_ltApplied_pwr (s : State) (r : Option Nat) : ({ s with ltApplied := r } : State).pwr = s.pwr := rfl
theorem with_ltApplied_sec (s : State) (r : Option Nat) : ({ s with ltApplied := r } : State).sec = s.sec := rfl
theorem with_ltApplied_fus (s : State) (r : Option Nat) : ({ s with ltApplied := r } : State).fus = s.fus := rfl
theorem with_ltApplied_upd (s : State) (r : Option Nat) : ({ s with ltApplied := r } : State).upd = s.upd := rfl
theorem with_ltApplied_readData (s : State) (r : Option Nat) : ({ s with ltApplied := r } : State).readData = s.readData := rfl
theorem with_ltApplied_fresh (s : State) (r : Option Nat) : ({ s with ltApplied := r } : State).fresh = s.fresh := rfl
theorem with_ltApplied_pending (s : State) (r : Option Nat) : ({ s with ltApplied := r } : State).pending = s.pending := rfl
theorem with_readData_regs (s : State) (r : List Word) : ({ s with readData := r } : State).regs = s.regs := rfl
theorem with_readData_shadow (s : State) (r : List Word) : ({ s with readData := r } : State).shadow = s.shadow := rfl
theorem with_readData_pend (s : State) (r : List Word) : ({ s with readData := r } : State).pend = s.pend := rfl
theorem with_readData_pendPages (s : State) (r : List Word) : ({ s with readData := r } : State).pendPages = s.pendPages := rfl
theorem with_readData_mem (s : State) (r : List Word) : ({ s with readData := r } : State).mem = s.mem := rfl
theorem with_readData_latches (s : State) (r : List Word) : ({ s with readData := r } : State).latches = s.latches := rfl
theorem with_readData_now (s : State) (r : List Word) : ({ s with readData := r } : State).now = s.now := rfl
theorem with_readData_ohSub (s : State) (r : List Word) : ({ s with readData := r } : State).ohSub = s.ohSub := rfl
theorem with_readData_lt (s : State) (r : List Word) : ({ s with readData := r } : State).lt = s.lt := rfl
theorem with_readData_slew (s : State) (r : List Word) : ({ s with readData := r } : State).slew = s.slew := rfl
theorem with_readData_ltApplied (s : State) (r : List Word) : ({ s with readData := r } : State).ltApplied = s.ltApplied := rfl
theorem with_readData_flt (s : State) (r : List Word) : ({ s with readData := r } : State).flt = s.flt := rfl
theorem with_readData_evr (s : State) (r : List Word) : ({ s with readData := r } : State).evr = s.evr := rfl
theorem with_readData_saf (s : State) (r : List Word) : ({ s with readData := r } : State).saf = s.saf := rfl
theorem with_readData_rst (s : State) (r : List Word) : ({ s with readData := r } : State).rst = s.rst := rfl
theorem with_readData_quartz (s : State) (r : List Word) : ({ s with readData := r } : State).quartz = s.quartz := rfl
theorem with_readData_lnkA (s : State) (r : List Word) : ({ s with readData := r } : State).lnkA = s.lnkA := rfl
theorem with_readData_lnkB (s : State) (r : List Word) : ({ s with readData := r } : State).lnkB = s.lnkB := rfl
theorem with_readData_csf (s : State) (r : List Word) : ({ s with readData := r } : State).csf = s.csf := rfl
theorem with_readData_side (s : State) (r : List Word) : ({ s with readData := r } : State).side = s.side := rfl
theorem with_readData_spi (s : State) (r : List Word) : ({ s with readData := r } : State).spi = s.spi := rfl
theorem with_readData_cmd (s : State) (r : List Word) : ({ s with readData := r } : State).cmd = s.cmd := rfl
theorem with_readData_cmp (s : State) (r : List Word) : ({ s with readData := r } : State).cmp = s.cmp := rfl
theorem with_readData_glare (s : State) (r : List Word) : ({ s with readData := r } : State).glare = s.glare := rfl
theorem with_readData_lanes (s : State) (r : List Word) : ({ s with readData := r } : State).lanes = s.lanes := rfl
theorem with_readData_tln (s : State) (r : List Word) : ({ s with readData := r } : State).tln = s.tln := rfl
theorem with_readData_gov (s : State) (r : List Word) : ({ s with readData := r } : State).gov = s.gov := rfl
theorem with_readData_cal (s : State) (r : List Word) : ({ s with readData := r } : State).cal = s.cal := rfl
theorem with_readData_flx (s : State) (r : List Word) : ({ s with readData := r } : State).flx = s.flx := rfl
theorem with_readData_seg (s : State) (r : List Word) : ({ s with readData := r } : State).seg = s.seg := rfl
theorem with_readData_thm (s : State) (r : List Word) : ({ s with readData := r } : State).thm = s.thm := rfl
theorem with_readData_pwr (s : State) (r : List Word) : ({ s with readData := r } : State).pwr = s.pwr := rfl
theorem with_readData_sec (s : State) (r : List Word) : ({ s with readData := r } : State).sec = s.sec := rfl
theorem with_readData_fus (s : State) (r : List Word) : ({ s with readData := r } : State).fus = s.fus := rfl
theorem with_readData_upd (s : State) (r : List Word) : ({ s with readData := r } : State).upd = s.upd := rfl
theorem with_readData_fresh (s : State) (r : List Word) : ({ s with readData := r } : State).fresh = s.fresh := rfl
theorem with_readData_pending (s : State) (r : List Word) : ({ s with readData := r } : State).pending = s.pending := rfl
theorem with_fresh_regs (s : State) (r : Nat) : ({ s with fresh := r } : State).regs = s.regs := rfl
theorem with_fresh_shadow (s : State) (r : Nat) : ({ s with fresh := r } : State).shadow = s.shadow := rfl
theorem with_fresh_pend (s : State) (r : Nat) : ({ s with fresh := r } : State).pend = s.pend := rfl
theorem with_fresh_pendPages (s : State) (r : Nat) : ({ s with fresh := r } : State).pendPages = s.pendPages := rfl
theorem with_fresh_mem (s : State) (r : Nat) : ({ s with fresh := r } : State).mem = s.mem := rfl
theorem with_fresh_latches (s : State) (r : Nat) : ({ s with fresh := r } : State).latches = s.latches := rfl
theorem with_fresh_now (s : State) (r : Nat) : ({ s with fresh := r } : State).now = s.now := rfl
theorem with_fresh_ohSub (s : State) (r : Nat) : ({ s with fresh := r } : State).ohSub = s.ohSub := rfl
theorem with_fresh_lt (s : State) (r : Nat) : ({ s with fresh := r } : State).lt = s.lt := rfl
theorem with_fresh_slew (s : State) (r : Nat) : ({ s with fresh := r } : State).slew = s.slew := rfl
theorem with_fresh_ltApplied (s : State) (r : Nat) : ({ s with fresh := r } : State).ltApplied = s.ltApplied := rfl
theorem with_fresh_flt (s : State) (r : Nat) : ({ s with fresh := r } : State).flt = s.flt := rfl
theorem with_fresh_evr (s : State) (r : Nat) : ({ s with fresh := r } : State).evr = s.evr := rfl
theorem with_fresh_saf (s : State) (r : Nat) : ({ s with fresh := r } : State).saf = s.saf := rfl
theorem with_fresh_rst (s : State) (r : Nat) : ({ s with fresh := r } : State).rst = s.rst := rfl
theorem with_fresh_quartz (s : State) (r : Nat) : ({ s with fresh := r } : State).quartz = s.quartz := rfl
theorem with_fresh_lnkA (s : State) (r : Nat) : ({ s with fresh := r } : State).lnkA = s.lnkA := rfl
theorem with_fresh_lnkB (s : State) (r : Nat) : ({ s with fresh := r } : State).lnkB = s.lnkB := rfl
theorem with_fresh_csf (s : State) (r : Nat) : ({ s with fresh := r } : State).csf = s.csf := rfl
theorem with_fresh_side (s : State) (r : Nat) : ({ s with fresh := r } : State).side = s.side := rfl
theorem with_fresh_spi (s : State) (r : Nat) : ({ s with fresh := r } : State).spi = s.spi := rfl
theorem with_fresh_cmd (s : State) (r : Nat) : ({ s with fresh := r } : State).cmd = s.cmd := rfl
theorem with_fresh_cmp (s : State) (r : Nat) : ({ s with fresh := r } : State).cmp = s.cmp := rfl
theorem with_fresh_glare (s : State) (r : Nat) : ({ s with fresh := r } : State).glare = s.glare := rfl
theorem with_fresh_lanes (s : State) (r : Nat) : ({ s with fresh := r } : State).lanes = s.lanes := rfl
theorem with_fresh_tln (s : State) (r : Nat) : ({ s with fresh := r } : State).tln = s.tln := rfl
theorem with_fresh_gov (s : State) (r : Nat) : ({ s with fresh := r } : State).gov = s.gov := rfl
theorem with_fresh_cal (s : State) (r : Nat) : ({ s with fresh := r } : State).cal = s.cal := rfl
theorem with_fresh_flx (s : State) (r : Nat) : ({ s with fresh := r } : State).flx = s.flx := rfl
theorem with_fresh_seg (s : State) (r : Nat) : ({ s with fresh := r } : State).seg = s.seg := rfl
theorem with_fresh_thm (s : State) (r : Nat) : ({ s with fresh := r } : State).thm = s.thm := rfl
theorem with_fresh_pwr (s : State) (r : Nat) : ({ s with fresh := r } : State).pwr = s.pwr := rfl
theorem with_fresh_sec (s : State) (r : Nat) : ({ s with fresh := r } : State).sec = s.sec := rfl
theorem with_fresh_fus (s : State) (r : Nat) : ({ s with fresh := r } : State).fus = s.fus := rfl
theorem with_fresh_upd (s : State) (r : Nat) : ({ s with fresh := r } : State).upd = s.upd := rfl
theorem with_fresh_readData (s : State) (r : Nat) : ({ s with fresh := r } : State).readData = s.readData := rfl
theorem with_fresh_pending (s : State) (r : Nat) : ({ s with fresh := r } : State).pending = s.pending := rfl
theorem with_evr_regs (s : State) (r : Evr) : ({ s with evr := r } : State).regs = s.regs := rfl
theorem with_evr_shadow (s : State) (r : Evr) : ({ s with evr := r } : State).shadow = s.shadow := rfl
theorem with_evr_pend (s : State) (r : Evr) : ({ s with evr := r } : State).pend = s.pend := rfl
theorem with_evr_pendPages (s : State) (r : Evr) : ({ s with evr := r } : State).pendPages = s.pendPages := rfl
theorem with_evr_mem (s : State) (r : Evr) : ({ s with evr := r } : State).mem = s.mem := rfl
theorem with_evr_latches (s : State) (r : Evr) : ({ s with evr := r } : State).latches = s.latches := rfl
theorem with_evr_now (s : State) (r : Evr) : ({ s with evr := r } : State).now = s.now := rfl
theorem with_evr_ohSub (s : State) (r : Evr) : ({ s with evr := r } : State).ohSub = s.ohSub := rfl
theorem with_evr_lt (s : State) (r : Evr) : ({ s with evr := r } : State).lt = s.lt := rfl
theorem with_evr_slew (s : State) (r : Evr) : ({ s with evr := r } : State).slew = s.slew := rfl
theorem with_evr_ltApplied (s : State) (r : Evr) : ({ s with evr := r } : State).ltApplied = s.ltApplied := rfl
theorem with_evr_flt (s : State) (r : Evr) : ({ s with evr := r } : State).flt = s.flt := rfl
theorem with_evr_saf (s : State) (r : Evr) : ({ s with evr := r } : State).saf = s.saf := rfl
theorem with_evr_rst (s : State) (r : Evr) : ({ s with evr := r } : State).rst = s.rst := rfl
theorem with_evr_quartz (s : State) (r : Evr) : ({ s with evr := r } : State).quartz = s.quartz := rfl
theorem with_evr_lnkA (s : State) (r : Evr) : ({ s with evr := r } : State).lnkA = s.lnkA := rfl
theorem with_evr_lnkB (s : State) (r : Evr) : ({ s with evr := r } : State).lnkB = s.lnkB := rfl
theorem with_evr_csf (s : State) (r : Evr) : ({ s with evr := r } : State).csf = s.csf := rfl
theorem with_evr_side (s : State) (r : Evr) : ({ s with evr := r } : State).side = s.side := rfl
theorem with_evr_spi (s : State) (r : Evr) : ({ s with evr := r } : State).spi = s.spi := rfl
theorem with_evr_cmd (s : State) (r : Evr) : ({ s with evr := r } : State).cmd = s.cmd := rfl
theorem with_evr_cmp (s : State) (r : Evr) : ({ s with evr := r } : State).cmp = s.cmp := rfl
theorem with_evr_glare (s : State) (r : Evr) : ({ s with evr := r } : State).glare = s.glare := rfl
theorem with_evr_lanes (s : State) (r : Evr) : ({ s with evr := r } : State).lanes = s.lanes := rfl
theorem with_evr_tln (s : State) (r : Evr) : ({ s with evr := r } : State).tln = s.tln := rfl
theorem with_evr_gov (s : State) (r : Evr) : ({ s with evr := r } : State).gov = s.gov := rfl
theorem with_evr_cal (s : State) (r : Evr) : ({ s with evr := r } : State).cal = s.cal := rfl
theorem with_evr_flx (s : State) (r : Evr) : ({ s with evr := r } : State).flx = s.flx := rfl
theorem with_evr_seg (s : State) (r : Evr) : ({ s with evr := r } : State).seg = s.seg := rfl
theorem with_evr_thm (s : State) (r : Evr) : ({ s with evr := r } : State).thm = s.thm := rfl
theorem with_evr_pwr (s : State) (r : Evr) : ({ s with evr := r } : State).pwr = s.pwr := rfl
theorem with_evr_sec (s : State) (r : Evr) : ({ s with evr := r } : State).sec = s.sec := rfl
theorem with_evr_fus (s : State) (r : Evr) : ({ s with evr := r } : State).fus = s.fus := rfl
theorem with_evr_upd (s : State) (r : Evr) : ({ s with evr := r } : State).upd = s.upd := rfl
theorem with_evr_readData (s : State) (r : Evr) : ({ s with evr := r } : State).readData = s.readData := rfl
theorem with_evr_fresh (s : State) (r : Evr) : ({ s with evr := r } : State).fresh = s.fresh := rfl
theorem with_evr_pending (s : State) (r : Evr) : ({ s with evr := r } : State).pending = s.pending := rfl
theorem with_rst_regs (s : State) (r : Rst) : ({ s with rst := r } : State).regs = s.regs := rfl
theorem with_rst_shadow (s : State) (r : Rst) : ({ s with rst := r } : State).shadow = s.shadow := rfl
theorem with_rst_pend (s : State) (r : Rst) : ({ s with rst := r } : State).pend = s.pend := rfl
theorem with_rst_pendPages (s : State) (r : Rst) : ({ s with rst := r } : State).pendPages = s.pendPages := rfl
theorem with_rst_mem (s : State) (r : Rst) : ({ s with rst := r } : State).mem = s.mem := rfl
theorem with_rst_latches (s : State) (r : Rst) : ({ s with rst := r } : State).latches = s.latches := rfl
theorem with_rst_now (s : State) (r : Rst) : ({ s with rst := r } : State).now = s.now := rfl
theorem with_rst_ohSub (s : State) (r : Rst) : ({ s with rst := r } : State).ohSub = s.ohSub := rfl
theorem with_rst_lt (s : State) (r : Rst) : ({ s with rst := r } : State).lt = s.lt := rfl
theorem with_rst_slew (s : State) (r : Rst) : ({ s with rst := r } : State).slew = s.slew := rfl
theorem with_rst_ltApplied (s : State) (r : Rst) : ({ s with rst := r } : State).ltApplied = s.ltApplied := rfl
theorem with_rst_flt (s : State) (r : Rst) : ({ s with rst := r } : State).flt = s.flt := rfl
theorem with_rst_evr (s : State) (r : Rst) : ({ s with rst := r } : State).evr = s.evr := rfl
theorem with_rst_saf (s : State) (r : Rst) : ({ s with rst := r } : State).saf = s.saf := rfl
theorem with_rst_quartz (s : State) (r : Rst) : ({ s with rst := r } : State).quartz = s.quartz := rfl
theorem with_rst_lnkA (s : State) (r : Rst) : ({ s with rst := r } : State).lnkA = s.lnkA := rfl
theorem with_rst_lnkB (s : State) (r : Rst) : ({ s with rst := r } : State).lnkB = s.lnkB := rfl
theorem with_rst_csf (s : State) (r : Rst) : ({ s with rst := r } : State).csf = s.csf := rfl
theorem with_rst_side (s : State) (r : Rst) : ({ s with rst := r } : State).side = s.side := rfl
theorem with_rst_spi (s : State) (r : Rst) : ({ s with rst := r } : State).spi = s.spi := rfl
theorem with_rst_cmd (s : State) (r : Rst) : ({ s with rst := r } : State).cmd = s.cmd := rfl
theorem with_rst_cmp (s : State) (r : Rst) : ({ s with rst := r } : State).cmp = s.cmp := rfl
theorem with_rst_glare (s : State) (r : Rst) : ({ s with rst := r } : State).glare = s.glare := rfl
theorem with_rst_lanes (s : State) (r : Rst) : ({ s with rst := r } : State).lanes = s.lanes := rfl
theorem with_rst_tln (s : State) (r : Rst) : ({ s with rst := r } : State).tln = s.tln := rfl
theorem with_rst_gov (s : State) (r : Rst) : ({ s with rst := r } : State).gov = s.gov := rfl
theorem with_rst_cal (s : State) (r : Rst) : ({ s with rst := r } : State).cal = s.cal := rfl
theorem with_rst_flx (s : State) (r : Rst) : ({ s with rst := r } : State).flx = s.flx := rfl
theorem with_rst_seg (s : State) (r : Rst) : ({ s with rst := r } : State).seg = s.seg := rfl
theorem with_rst_thm (s : State) (r : Rst) : ({ s with rst := r } : State).thm = s.thm := rfl
theorem with_rst_pwr (s : State) (r : Rst) : ({ s with rst := r } : State).pwr = s.pwr := rfl
theorem with_rst_sec (s : State) (r : Rst) : ({ s with rst := r } : State).sec = s.sec := rfl
theorem with_rst_fus (s : State) (r : Rst) : ({ s with rst := r } : State).fus = s.fus := rfl
theorem with_rst_upd (s : State) (r : Rst) : ({ s with rst := r } : State).upd = s.upd := rfl
theorem with_rst_readData (s : State) (r : Rst) : ({ s with rst := r } : State).readData = s.readData := rfl
theorem with_rst_fresh (s : State) (r : Rst) : ({ s with rst := r } : State).fresh = s.fresh := rfl
theorem with_rst_pending (s : State) (r : Rst) : ({ s with rst := r } : State).pending = s.pending := rfl
theorem with_quartz_regs (s : State) (r : Quartz) : ({ s with quartz := r } : State).regs = s.regs := rfl
theorem with_quartz_shadow (s : State) (r : Quartz) : ({ s with quartz := r } : State).shadow = s.shadow := rfl
theorem with_quartz_pend (s : State) (r : Quartz) : ({ s with quartz := r } : State).pend = s.pend := rfl
theorem with_quartz_pendPages (s : State) (r : Quartz) : ({ s with quartz := r } : State).pendPages = s.pendPages := rfl
theorem with_quartz_mem (s : State) (r : Quartz) : ({ s with quartz := r } : State).mem = s.mem := rfl
theorem with_quartz_latches (s : State) (r : Quartz) : ({ s with quartz := r } : State).latches = s.latches := rfl
theorem with_quartz_now (s : State) (r : Quartz) : ({ s with quartz := r } : State).now = s.now := rfl
theorem with_quartz_ohSub (s : State) (r : Quartz) : ({ s with quartz := r } : State).ohSub = s.ohSub := rfl
theorem with_quartz_lt (s : State) (r : Quartz) : ({ s with quartz := r } : State).lt = s.lt := rfl
theorem with_quartz_slew (s : State) (r : Quartz) : ({ s with quartz := r } : State).slew = s.slew := rfl
theorem with_quartz_ltApplied (s : State) (r : Quartz) : ({ s with quartz := r } : State).ltApplied = s.ltApplied := rfl
theorem with_quartz_flt (s : State) (r : Quartz) : ({ s with quartz := r } : State).flt = s.flt := rfl
theorem with_quartz_evr (s : State) (r : Quartz) : ({ s with quartz := r } : State).evr = s.evr := rfl
theorem with_quartz_saf (s : State) (r : Quartz) : ({ s with quartz := r } : State).saf = s.saf := rfl
theorem with_quartz_rst (s : State) (r : Quartz) : ({ s with quartz := r } : State).rst = s.rst := rfl
theorem with_quartz_lnkA (s : State) (r : Quartz) : ({ s with quartz := r } : State).lnkA = s.lnkA := rfl
theorem with_quartz_lnkB (s : State) (r : Quartz) : ({ s with quartz := r } : State).lnkB = s.lnkB := rfl
theorem with_quartz_csf (s : State) (r : Quartz) : ({ s with quartz := r } : State).csf = s.csf := rfl
theorem with_quartz_side (s : State) (r : Quartz) : ({ s with quartz := r } : State).side = s.side := rfl
theorem with_quartz_spi (s : State) (r : Quartz) : ({ s with quartz := r } : State).spi = s.spi := rfl
theorem with_quartz_cmd (s : State) (r : Quartz) : ({ s with quartz := r } : State).cmd = s.cmd := rfl
theorem with_quartz_cmp (s : State) (r : Quartz) : ({ s with quartz := r } : State).cmp = s.cmp := rfl
theorem with_quartz_glare (s : State) (r : Quartz) : ({ s with quartz := r } : State).glare = s.glare := rfl
theorem with_quartz_lanes (s : State) (r : Quartz) : ({ s with quartz := r } : State).lanes = s.lanes := rfl
theorem with_quartz_tln (s : State) (r : Quartz) : ({ s with quartz := r } : State).tln = s.tln := rfl
theorem with_quartz_gov (s : State) (r : Quartz) : ({ s with quartz := r } : State).gov = s.gov := rfl
theorem with_quartz_cal (s : State) (r : Quartz) : ({ s with quartz := r } : State).cal = s.cal := rfl
theorem with_quartz_flx (s : State) (r : Quartz) : ({ s with quartz := r } : State).flx = s.flx := rfl
theorem with_quartz_seg (s : State) (r : Quartz) : ({ s with quartz := r } : State).seg = s.seg := rfl
theorem with_quartz_thm (s : State) (r : Quartz) : ({ s with quartz := r } : State).thm = s.thm := rfl
theorem with_quartz_pwr (s : State) (r : Quartz) : ({ s with quartz := r } : State).pwr = s.pwr := rfl
theorem with_quartz_sec (s : State) (r : Quartz) : ({ s with quartz := r } : State).sec = s.sec := rfl
theorem with_quartz_fus (s : State) (r : Quartz) : ({ s with quartz := r } : State).fus = s.fus := rfl
theorem with_quartz_upd (s : State) (r : Quartz) : ({ s with quartz := r } : State).upd = s.upd := rfl
theorem with_quartz_readData (s : State) (r : Quartz) : ({ s with quartz := r } : State).readData = s.readData := rfl
theorem with_quartz_fresh (s : State) (r : Quartz) : ({ s with quartz := r } : State).fresh = s.fresh := rfl
theorem with_quartz_pending (s : State) (r : Quartz) : ({ s with quartz := r } : State).pending = s.pending := rfl
theorem with_csf_regs (s : State) (r : Csf) : ({ s with csf := r } : State).regs = s.regs := rfl
theorem with_csf_shadow (s : State) (r : Csf) : ({ s with csf := r } : State).shadow = s.shadow := rfl
theorem with_csf_pend (s : State) (r : Csf) : ({ s with csf := r } : State).pend = s.pend := rfl
theorem with_csf_pendPages (s : State) (r : Csf) : ({ s with csf := r } : State).pendPages = s.pendPages := rfl
theorem with_csf_mem (s : State) (r : Csf) : ({ s with csf := r } : State).mem = s.mem := rfl
theorem with_csf_latches (s : State) (r : Csf) : ({ s with csf := r } : State).latches = s.latches := rfl
theorem with_csf_now (s : State) (r : Csf) : ({ s with csf := r } : State).now = s.now := rfl
theorem with_csf_ohSub (s : State) (r : Csf) : ({ s with csf := r } : State).ohSub = s.ohSub := rfl
theorem with_csf_lt (s : State) (r : Csf) : ({ s with csf := r } : State).lt = s.lt := rfl
theorem with_csf_slew (s : State) (r : Csf) : ({ s with csf := r } : State).slew = s.slew := rfl
theorem with_csf_ltApplied (s : State) (r : Csf) : ({ s with csf := r } : State).ltApplied = s.ltApplied := rfl
theorem with_csf_flt (s : State) (r : Csf) : ({ s with csf := r } : State).flt = s.flt := rfl
theorem with_csf_evr (s : State) (r : Csf) : ({ s with csf := r } : State).evr = s.evr := rfl
theorem with_csf_saf (s : State) (r : Csf) : ({ s with csf := r } : State).saf = s.saf := rfl
theorem with_csf_rst (s : State) (r : Csf) : ({ s with csf := r } : State).rst = s.rst := rfl
theorem with_csf_quartz (s : State) (r : Csf) : ({ s with csf := r } : State).quartz = s.quartz := rfl
theorem with_csf_lnkA (s : State) (r : Csf) : ({ s with csf := r } : State).lnkA = s.lnkA := rfl
theorem with_csf_lnkB (s : State) (r : Csf) : ({ s with csf := r } : State).lnkB = s.lnkB := rfl
theorem with_csf_side (s : State) (r : Csf) : ({ s with csf := r } : State).side = s.side := rfl
theorem with_csf_spi (s : State) (r : Csf) : ({ s with csf := r } : State).spi = s.spi := rfl
theorem with_csf_cmd (s : State) (r : Csf) : ({ s with csf := r } : State).cmd = s.cmd := rfl
theorem with_csf_cmp (s : State) (r : Csf) : ({ s with csf := r } : State).cmp = s.cmp := rfl
theorem with_csf_glare (s : State) (r : Csf) : ({ s with csf := r } : State).glare = s.glare := rfl
theorem with_csf_lanes (s : State) (r : Csf) : ({ s with csf := r } : State).lanes = s.lanes := rfl
theorem with_csf_tln (s : State) (r : Csf) : ({ s with csf := r } : State).tln = s.tln := rfl
theorem with_csf_gov (s : State) (r : Csf) : ({ s with csf := r } : State).gov = s.gov := rfl
theorem with_csf_cal (s : State) (r : Csf) : ({ s with csf := r } : State).cal = s.cal := rfl
theorem with_csf_flx (s : State) (r : Csf) : ({ s with csf := r } : State).flx = s.flx := rfl
theorem with_csf_seg (s : State) (r : Csf) : ({ s with csf := r } : State).seg = s.seg := rfl
theorem with_csf_thm (s : State) (r : Csf) : ({ s with csf := r } : State).thm = s.thm := rfl
theorem with_csf_pwr (s : State) (r : Csf) : ({ s with csf := r } : State).pwr = s.pwr := rfl
theorem with_csf_sec (s : State) (r : Csf) : ({ s with csf := r } : State).sec = s.sec := rfl
theorem with_csf_fus (s : State) (r : Csf) : ({ s with csf := r } : State).fus = s.fus := rfl
theorem with_csf_upd (s : State) (r : Csf) : ({ s with csf := r } : State).upd = s.upd := rfl
theorem with_csf_readData (s : State) (r : Csf) : ({ s with csf := r } : State).readData = s.readData := rfl
theorem with_csf_fresh (s : State) (r : Csf) : ({ s with csf := r } : State).fresh = s.fresh := rfl
theorem with_csf_pending (s : State) (r : Csf) : ({ s with csf := r } : State).pending = s.pending := rfl
theorem with_side_regs (s : State) (r : Side) : ({ s with side := r } : State).regs = s.regs := rfl
theorem with_side_shadow (s : State) (r : Side) : ({ s with side := r } : State).shadow = s.shadow := rfl
theorem with_side_pend (s : State) (r : Side) : ({ s with side := r } : State).pend = s.pend := rfl
theorem with_side_pendPages (s : State) (r : Side) : ({ s with side := r } : State).pendPages = s.pendPages := rfl
theorem with_side_mem (s : State) (r : Side) : ({ s with side := r } : State).mem = s.mem := rfl
theorem with_side_latches (s : State) (r : Side) : ({ s with side := r } : State).latches = s.latches := rfl
theorem with_side_now (s : State) (r : Side) : ({ s with side := r } : State).now = s.now := rfl
theorem with_side_ohSub (s : State) (r : Side) : ({ s with side := r } : State).ohSub = s.ohSub := rfl
theorem with_side_lt (s : State) (r : Side) : ({ s with side := r } : State).lt = s.lt := rfl
theorem with_side_slew (s : State) (r : Side) : ({ s with side := r } : State).slew = s.slew := rfl
theorem with_side_ltApplied (s : State) (r : Side) : ({ s with side := r } : State).ltApplied = s.ltApplied := rfl
theorem with_side_flt (s : State) (r : Side) : ({ s with side := r } : State).flt = s.flt := rfl
theorem with_side_evr (s : State) (r : Side) : ({ s with side := r } : State).evr = s.evr := rfl
theorem with_side_saf (s : State) (r : Side) : ({ s with side := r } : State).saf = s.saf := rfl
theorem with_side_rst (s : State) (r : Side) : ({ s with side := r } : State).rst = s.rst := rfl
theorem with_side_quartz (s : State) (r : Side) : ({ s with side := r } : State).quartz = s.quartz := rfl
theorem with_side_lnkA (s : State) (r : Side) : ({ s with side := r } : State).lnkA = s.lnkA := rfl
theorem with_side_lnkB (s : State) (r : Side) : ({ s with side := r } : State).lnkB = s.lnkB := rfl
theorem with_side_csf (s : State) (r : Side) : ({ s with side := r } : State).csf = s.csf := rfl
theorem with_side_spi (s : State) (r : Side) : ({ s with side := r } : State).spi = s.spi := rfl
theorem with_side_cmd (s : State) (r : Side) : ({ s with side := r } : State).cmd = s.cmd := rfl
theorem with_side_cmp (s : State) (r : Side) : ({ s with side := r } : State).cmp = s.cmp := rfl
theorem with_side_glare (s : State) (r : Side) : ({ s with side := r } : State).glare = s.glare := rfl
theorem with_side_lanes (s : State) (r : Side) : ({ s with side := r } : State).lanes = s.lanes := rfl
theorem with_side_tln (s : State) (r : Side) : ({ s with side := r } : State).tln = s.tln := rfl
theorem with_side_gov (s : State) (r : Side) : ({ s with side := r } : State).gov = s.gov := rfl
theorem with_side_cal (s : State) (r : Side) : ({ s with side := r } : State).cal = s.cal := rfl
theorem with_side_flx (s : State) (r : Side) : ({ s with side := r } : State).flx = s.flx := rfl
theorem with_side_seg (s : State) (r : Side) : ({ s with side := r } : State).seg = s.seg := rfl
theorem with_side_thm (s : State) (r : Side) : ({ s with side := r } : State).thm = s.thm := rfl
theorem with_side_pwr (s : State) (r : Side) : ({ s with side := r } : State).pwr = s.pwr := rfl
theorem with_side_sec (s : State) (r : Side) : ({ s with side := r } : State).sec = s.sec := rfl
theorem with_side_fus (s : State) (r : Side) : ({ s with side := r } : State).fus = s.fus := rfl
theorem with_side_upd (s : State) (r : Side) : ({ s with side := r } : State).upd = s.upd := rfl
theorem with_side_readData (s : State) (r : Side) : ({ s with side := r } : State).readData = s.readData := rfl
theorem with_side_fresh (s : State) (r : Side) : ({ s with side := r } : State).fresh = s.fresh := rfl
theorem with_side_pending (s : State) (r : Side) : ({ s with side := r } : State).pending = s.pending := rfl
theorem with_spi_regs (s : State) (r : Spi) : ({ s with spi := r } : State).regs = s.regs := rfl
theorem with_spi_shadow (s : State) (r : Spi) : ({ s with spi := r } : State).shadow = s.shadow := rfl
theorem with_spi_pend (s : State) (r : Spi) : ({ s with spi := r } : State).pend = s.pend := rfl
theorem with_spi_pendPages (s : State) (r : Spi) : ({ s with spi := r } : State).pendPages = s.pendPages := rfl
theorem with_spi_mem (s : State) (r : Spi) : ({ s with spi := r } : State).mem = s.mem := rfl
theorem with_spi_latches (s : State) (r : Spi) : ({ s with spi := r } : State).latches = s.latches := rfl
theorem with_spi_now (s : State) (r : Spi) : ({ s with spi := r } : State).now = s.now := rfl
theorem with_spi_ohSub (s : State) (r : Spi) : ({ s with spi := r } : State).ohSub = s.ohSub := rfl
theorem with_spi_lt (s : State) (r : Spi) : ({ s with spi := r } : State).lt = s.lt := rfl
theorem with_spi_slew (s : State) (r : Spi) : ({ s with spi := r } : State).slew = s.slew := rfl
theorem with_spi_ltApplied (s : State) (r : Spi) : ({ s with spi := r } : State).ltApplied = s.ltApplied := rfl
theorem with_spi_flt (s : State) (r : Spi) : ({ s with spi := r } : State).flt = s.flt := rfl
theorem with_spi_evr (s : State) (r : Spi) : ({ s with spi := r } : State).evr = s.evr := rfl
theorem with_spi_saf (s : State) (r : Spi) : ({ s with spi := r } : State).saf = s.saf := rfl
theorem with_spi_rst (s : State) (r : Spi) : ({ s with spi := r } : State).rst = s.rst := rfl
theorem with_spi_quartz (s : State) (r : Spi) : ({ s with spi := r } : State).quartz = s.quartz := rfl
theorem with_spi_lnkA (s : State) (r : Spi) : ({ s with spi := r } : State).lnkA = s.lnkA := rfl
theorem with_spi_lnkB (s : State) (r : Spi) : ({ s with spi := r } : State).lnkB = s.lnkB := rfl
theorem with_spi_csf (s : State) (r : Spi) : ({ s with spi := r } : State).csf = s.csf := rfl
theorem with_spi_side (s : State) (r : Spi) : ({ s with spi := r } : State).side = s.side := rfl
theorem with_spi_cmd (s : State) (r : Spi) : ({ s with spi := r } : State).cmd = s.cmd := rfl
theorem with_spi_cmp (s : State) (r : Spi) : ({ s with spi := r } : State).cmp = s.cmp := rfl
theorem with_spi_glare (s : State) (r : Spi) : ({ s with spi := r } : State).glare = s.glare := rfl
theorem with_spi_lanes (s : State) (r : Spi) : ({ s with spi := r } : State).lanes = s.lanes := rfl
theorem with_spi_tln (s : State) (r : Spi) : ({ s with spi := r } : State).tln = s.tln := rfl
theorem with_spi_gov (s : State) (r : Spi) : ({ s with spi := r } : State).gov = s.gov := rfl
theorem with_spi_cal (s : State) (r : Spi) : ({ s with spi := r } : State).cal = s.cal := rfl
theorem with_spi_flx (s : State) (r : Spi) : ({ s with spi := r } : State).flx = s.flx := rfl
theorem with_spi_seg (s : State) (r : Spi) : ({ s with spi := r } : State).seg = s.seg := rfl
theorem with_spi_thm (s : State) (r : Spi) : ({ s with spi := r } : State).thm = s.thm := rfl
theorem with_spi_pwr (s : State) (r : Spi) : ({ s with spi := r } : State).pwr = s.pwr := rfl
theorem with_spi_sec (s : State) (r : Spi) : ({ s with spi := r } : State).sec = s.sec := rfl
theorem with_spi_fus (s : State) (r : Spi) : ({ s with spi := r } : State).fus = s.fus := rfl
theorem with_spi_upd (s : State) (r : Spi) : ({ s with spi := r } : State).upd = s.upd := rfl
theorem with_spi_readData (s : State) (r : Spi) : ({ s with spi := r } : State).readData = s.readData := rfl
theorem with_spi_fresh (s : State) (r : Spi) : ({ s with spi := r } : State).fresh = s.fresh := rfl
theorem with_spi_pending (s : State) (r : Spi) : ({ s with spi := r } : State).pending = s.pending := rfl
theorem with_cmp_regs (s : State) (r : Cmp) : ({ s with cmp := r } : State).regs = s.regs := rfl
theorem with_cmp_shadow (s : State) (r : Cmp) : ({ s with cmp := r } : State).shadow = s.shadow := rfl
theorem with_cmp_pend (s : State) (r : Cmp) : ({ s with cmp := r } : State).pend = s.pend := rfl
theorem with_cmp_pendPages (s : State) (r : Cmp) : ({ s with cmp := r } : State).pendPages = s.pendPages := rfl
theorem with_cmp_mem (s : State) (r : Cmp) : ({ s with cmp := r } : State).mem = s.mem := rfl
theorem with_cmp_latches (s : State) (r : Cmp) : ({ s with cmp := r } : State).latches = s.latches := rfl
theorem with_cmp_now (s : State) (r : Cmp) : ({ s with cmp := r } : State).now = s.now := rfl
theorem with_cmp_ohSub (s : State) (r : Cmp) : ({ s with cmp := r } : State).ohSub = s.ohSub := rfl
theorem with_cmp_lt (s : State) (r : Cmp) : ({ s with cmp := r } : State).lt = s.lt := rfl
theorem with_cmp_slew (s : State) (r : Cmp) : ({ s with cmp := r } : State).slew = s.slew := rfl
theorem with_cmp_ltApplied (s : State) (r : Cmp) : ({ s with cmp := r } : State).ltApplied = s.ltApplied := rfl
theorem with_cmp_flt (s : State) (r : Cmp) : ({ s with cmp := r } : State).flt = s.flt := rfl
theorem with_cmp_evr (s : State) (r : Cmp) : ({ s with cmp := r } : State).evr = s.evr := rfl
theorem with_cmp_saf (s : State) (r : Cmp) : ({ s with cmp := r } : State).saf = s.saf := rfl
theorem with_cmp_rst (s : State) (r : Cmp) : ({ s with cmp := r } : State).rst = s.rst := rfl
theorem with_cmp_quartz (s : State) (r : Cmp) : ({ s with cmp := r } : State).quartz = s.quartz := rfl
theorem with_cmp_lnkA (s : State) (r : Cmp) : ({ s with cmp := r } : State).lnkA = s.lnkA := rfl
theorem with_cmp_lnkB (s : State) (r : Cmp) : ({ s with cmp := r } : State).lnkB = s.lnkB := rfl
theorem with_cmp_csf (s : State) (r : Cmp) : ({ s with cmp := r } : State).csf = s.csf := rfl
theorem with_cmp_side (s : State) (r : Cmp) : ({ s with cmp := r } : State).side = s.side := rfl
theorem with_cmp_spi (s : State) (r : Cmp) : ({ s with cmp := r } : State).spi = s.spi := rfl
theorem with_cmp_cmd (s : State) (r : Cmp) : ({ s with cmp := r } : State).cmd = s.cmd := rfl
theorem with_cmp_glare (s : State) (r : Cmp) : ({ s with cmp := r } : State).glare = s.glare := rfl
theorem with_cmp_lanes (s : State) (r : Cmp) : ({ s with cmp := r } : State).lanes = s.lanes := rfl
theorem with_cmp_tln (s : State) (r : Cmp) : ({ s with cmp := r } : State).tln = s.tln := rfl
theorem with_cmp_gov (s : State) (r : Cmp) : ({ s with cmp := r } : State).gov = s.gov := rfl
theorem with_cmp_cal (s : State) (r : Cmp) : ({ s with cmp := r } : State).cal = s.cal := rfl
theorem with_cmp_flx (s : State) (r : Cmp) : ({ s with cmp := r } : State).flx = s.flx := rfl
theorem with_cmp_seg (s : State) (r : Cmp) : ({ s with cmp := r } : State).seg = s.seg := rfl
theorem with_cmp_thm (s : State) (r : Cmp) : ({ s with cmp := r } : State).thm = s.thm := rfl
theorem with_cmp_pwr (s : State) (r : Cmp) : ({ s with cmp := r } : State).pwr = s.pwr := rfl
theorem with_cmp_sec (s : State) (r : Cmp) : ({ s with cmp := r } : State).sec = s.sec := rfl
theorem with_cmp_fus (s : State) (r : Cmp) : ({ s with cmp := r } : State).fus = s.fus := rfl
theorem with_cmp_upd (s : State) (r : Cmp) : ({ s with cmp := r } : State).upd = s.upd := rfl
theorem with_cmp_readData (s : State) (r : Cmp) : ({ s with cmp := r } : State).readData = s.readData := rfl
theorem with_cmp_fresh (s : State) (r : Cmp) : ({ s with cmp := r } : State).fresh = s.fresh := rfl
theorem with_cmp_pending (s : State) (r : Cmp) : ({ s with cmp := r } : State).pending = s.pending := rfl
theorem with_glare_regs (s : State) (r : Glare) : ({ s with glare := r } : State).regs = s.regs := rfl
theorem with_glare_shadow (s : State) (r : Glare) : ({ s with glare := r } : State).shadow = s.shadow := rfl
theorem with_glare_pend (s : State) (r : Glare) : ({ s with glare := r } : State).pend = s.pend := rfl
theorem with_glare_pendPages (s : State) (r : Glare) : ({ s with glare := r } : State).pendPages = s.pendPages := rfl
theorem with_glare_mem (s : State) (r : Glare) : ({ s with glare := r } : State).mem = s.mem := rfl
theorem with_glare_latches (s : State) (r : Glare) : ({ s with glare := r } : State).latches = s.latches := rfl
theorem with_glare_now (s : State) (r : Glare) : ({ s with glare := r } : State).now = s.now := rfl
theorem with_glare_ohSub (s : State) (r : Glare) : ({ s with glare := r } : State).ohSub = s.ohSub := rfl
theorem with_glare_lt (s : State) (r : Glare) : ({ s with glare := r } : State).lt = s.lt := rfl
theorem with_glare_slew (s : State) (r : Glare) : ({ s with glare := r } : State).slew = s.slew := rfl
theorem with_glare_ltApplied (s : State) (r : Glare) : ({ s with glare := r } : State).ltApplied = s.ltApplied := rfl
theorem with_glare_flt (s : State) (r : Glare) : ({ s with glare := r } : State).flt = s.flt := rfl
theorem with_glare_evr (s : State) (r : Glare) : ({ s with glare := r } : State).evr = s.evr := rfl
theorem with_glare_saf (s : State) (r : Glare) : ({ s with glare := r } : State).saf = s.saf := rfl
theorem with_glare_rst (s : State) (r : Glare) : ({ s with glare := r } : State).rst = s.rst := rfl
theorem with_glare_quartz (s : State) (r : Glare) : ({ s with glare := r } : State).quartz = s.quartz := rfl
theorem with_glare_lnkA (s : State) (r : Glare) : ({ s with glare := r } : State).lnkA = s.lnkA := rfl
theorem with_glare_lnkB (s : State) (r : Glare) : ({ s with glare := r } : State).lnkB = s.lnkB := rfl
theorem with_glare_csf (s : State) (r : Glare) : ({ s with glare := r } : State).csf = s.csf := rfl
theorem with_glare_side (s : State) (r : Glare) : ({ s with glare := r } : State).side = s.side := rfl
theorem with_glare_spi (s : State) (r : Glare) : ({ s with glare := r } : State).spi = s.spi := rfl
theorem with_glare_cmd (s : State) (r : Glare) : ({ s with glare := r } : State).cmd = s.cmd := rfl
theorem with_glare_cmp (s : State) (r : Glare) : ({ s with glare := r } : State).cmp = s.cmp := rfl
theorem with_glare_lanes (s : State) (r : Glare) : ({ s with glare := r } : State).lanes = s.lanes := rfl
theorem with_glare_tln (s : State) (r : Glare) : ({ s with glare := r } : State).tln = s.tln := rfl
theorem with_glare_gov (s : State) (r : Glare) : ({ s with glare := r } : State).gov = s.gov := rfl
theorem with_glare_cal (s : State) (r : Glare) : ({ s with glare := r } : State).cal = s.cal := rfl
theorem with_glare_flx (s : State) (r : Glare) : ({ s with glare := r } : State).flx = s.flx := rfl
theorem with_glare_seg (s : State) (r : Glare) : ({ s with glare := r } : State).seg = s.seg := rfl
theorem with_glare_thm (s : State) (r : Glare) : ({ s with glare := r } : State).thm = s.thm := rfl
theorem with_glare_pwr (s : State) (r : Glare) : ({ s with glare := r } : State).pwr = s.pwr := rfl
theorem with_glare_sec (s : State) (r : Glare) : ({ s with glare := r } : State).sec = s.sec := rfl
theorem with_glare_fus (s : State) (r : Glare) : ({ s with glare := r } : State).fus = s.fus := rfl
theorem with_glare_upd (s : State) (r : Glare) : ({ s with glare := r } : State).upd = s.upd := rfl
theorem with_glare_readData (s : State) (r : Glare) : ({ s with glare := r } : State).readData = s.readData := rfl
theorem with_glare_fresh (s : State) (r : Glare) : ({ s with glare := r } : State).fresh = s.fresh := rfl
theorem with_glare_pending (s : State) (r : Glare) : ({ s with glare := r } : State).pending = s.pending := rfl
theorem with_tln_regs (s : State) (r : Tln) : ({ s with tln := r } : State).regs = s.regs := rfl
theorem with_tln_shadow (s : State) (r : Tln) : ({ s with tln := r } : State).shadow = s.shadow := rfl
theorem with_tln_pend (s : State) (r : Tln) : ({ s with tln := r } : State).pend = s.pend := rfl
theorem with_tln_pendPages (s : State) (r : Tln) : ({ s with tln := r } : State).pendPages = s.pendPages := rfl
theorem with_tln_mem (s : State) (r : Tln) : ({ s with tln := r } : State).mem = s.mem := rfl
theorem with_tln_latches (s : State) (r : Tln) : ({ s with tln := r } : State).latches = s.latches := rfl
theorem with_tln_now (s : State) (r : Tln) : ({ s with tln := r } : State).now = s.now := rfl
theorem with_tln_ohSub (s : State) (r : Tln) : ({ s with tln := r } : State).ohSub = s.ohSub := rfl
theorem with_tln_lt (s : State) (r : Tln) : ({ s with tln := r } : State).lt = s.lt := rfl
theorem with_tln_slew (s : State) (r : Tln) : ({ s with tln := r } : State).slew = s.slew := rfl
theorem with_tln_ltApplied (s : State) (r : Tln) : ({ s with tln := r } : State).ltApplied = s.ltApplied := rfl
theorem with_tln_flt (s : State) (r : Tln) : ({ s with tln := r } : State).flt = s.flt := rfl
theorem with_tln_evr (s : State) (r : Tln) : ({ s with tln := r } : State).evr = s.evr := rfl
theorem with_tln_saf (s : State) (r : Tln) : ({ s with tln := r } : State).saf = s.saf := rfl
theorem with_tln_rst (s : State) (r : Tln) : ({ s with tln := r } : State).rst = s.rst := rfl
theorem with_tln_quartz (s : State) (r : Tln) : ({ s with tln := r } : State).quartz = s.quartz := rfl
theorem with_tln_lnkA (s : State) (r : Tln) : ({ s with tln := r } : State).lnkA = s.lnkA := rfl
theorem with_tln_lnkB (s : State) (r : Tln) : ({ s with tln := r } : State).lnkB = s.lnkB := rfl
theorem with_tln_csf (s : State) (r : Tln) : ({ s with tln := r } : State).csf = s.csf := rfl
theorem with_tln_side (s : State) (r : Tln) : ({ s with tln := r } : State).side = s.side := rfl
theorem with_tln_spi (s : State) (r : Tln) : ({ s with tln := r } : State).spi = s.spi := rfl
theorem with_tln_cmd (s : State) (r : Tln) : ({ s with tln := r } : State).cmd = s.cmd := rfl
theorem with_tln_cmp (s : State) (r : Tln) : ({ s with tln := r } : State).cmp = s.cmp := rfl
theorem with_tln_glare (s : State) (r : Tln) : ({ s with tln := r } : State).glare = s.glare := rfl
theorem with_tln_lanes (s : State) (r : Tln) : ({ s with tln := r } : State).lanes = s.lanes := rfl
theorem with_tln_gov (s : State) (r : Tln) : ({ s with tln := r } : State).gov = s.gov := rfl
theorem with_tln_cal (s : State) (r : Tln) : ({ s with tln := r } : State).cal = s.cal := rfl
theorem with_tln_flx (s : State) (r : Tln) : ({ s with tln := r } : State).flx = s.flx := rfl
theorem with_tln_seg (s : State) (r : Tln) : ({ s with tln := r } : State).seg = s.seg := rfl
theorem with_tln_thm (s : State) (r : Tln) : ({ s with tln := r } : State).thm = s.thm := rfl
theorem with_tln_pwr (s : State) (r : Tln) : ({ s with tln := r } : State).pwr = s.pwr := rfl
theorem with_tln_sec (s : State) (r : Tln) : ({ s with tln := r } : State).sec = s.sec := rfl
theorem with_tln_fus (s : State) (r : Tln) : ({ s with tln := r } : State).fus = s.fus := rfl
theorem with_tln_upd (s : State) (r : Tln) : ({ s with tln := r } : State).upd = s.upd := rfl
theorem with_tln_readData (s : State) (r : Tln) : ({ s with tln := r } : State).readData = s.readData := rfl
theorem with_tln_fresh (s : State) (r : Tln) : ({ s with tln := r } : State).fresh = s.fresh := rfl
theorem with_tln_pending (s : State) (r : Tln) : ({ s with tln := r } : State).pending = s.pending := rfl
theorem with_gov_regs (s : State) (r : Gov) : ({ s with gov := r } : State).regs = s.regs := rfl
theorem with_gov_shadow (s : State) (r : Gov) : ({ s with gov := r } : State).shadow = s.shadow := rfl
theorem with_gov_pend (s : State) (r : Gov) : ({ s with gov := r } : State).pend = s.pend := rfl
theorem with_gov_pendPages (s : State) (r : Gov) : ({ s with gov := r } : State).pendPages = s.pendPages := rfl
theorem with_gov_mem (s : State) (r : Gov) : ({ s with gov := r } : State).mem = s.mem := rfl
theorem with_gov_latches (s : State) (r : Gov) : ({ s with gov := r } : State).latches = s.latches := rfl
theorem with_gov_now (s : State) (r : Gov) : ({ s with gov := r } : State).now = s.now := rfl
theorem with_gov_ohSub (s : State) (r : Gov) : ({ s with gov := r } : State).ohSub = s.ohSub := rfl
theorem with_gov_lt (s : State) (r : Gov) : ({ s with gov := r } : State).lt = s.lt := rfl
theorem with_gov_slew (s : State) (r : Gov) : ({ s with gov := r } : State).slew = s.slew := rfl
theorem with_gov_ltApplied (s : State) (r : Gov) : ({ s with gov := r } : State).ltApplied = s.ltApplied := rfl
theorem with_gov_flt (s : State) (r : Gov) : ({ s with gov := r } : State).flt = s.flt := rfl
theorem with_gov_evr (s : State) (r : Gov) : ({ s with gov := r } : State).evr = s.evr := rfl
theorem with_gov_saf (s : State) (r : Gov) : ({ s with gov := r } : State).saf = s.saf := rfl
theorem with_gov_rst (s : State) (r : Gov) : ({ s with gov := r } : State).rst = s.rst := rfl
theorem with_gov_quartz (s : State) (r : Gov) : ({ s with gov := r } : State).quartz = s.quartz := rfl
theorem with_gov_lnkA (s : State) (r : Gov) : ({ s with gov := r } : State).lnkA = s.lnkA := rfl
theorem with_gov_lnkB (s : State) (r : Gov) : ({ s with gov := r } : State).lnkB = s.lnkB := rfl
theorem with_gov_csf (s : State) (r : Gov) : ({ s with gov := r } : State).csf = s.csf := rfl
theorem with_gov_side (s : State) (r : Gov) : ({ s with gov := r } : State).side = s.side := rfl
theorem with_gov_spi (s : State) (r : Gov) : ({ s with gov := r } : State).spi = s.spi := rfl
theorem with_gov_cmd (s : State) (r : Gov) : ({ s with gov := r } : State).cmd = s.cmd := rfl
theorem with_gov_cmp (s : State) (r : Gov) : ({ s with gov := r } : State).cmp = s.cmp := rfl
theorem with_gov_glare (s : State) (r : Gov) : ({ s with gov := r } : State).glare = s.glare := rfl
theorem with_gov_lanes (s : State) (r : Gov) : ({ s with gov := r } : State).lanes = s.lanes := rfl
theorem with_gov_tln (s : State) (r : Gov) : ({ s with gov := r } : State).tln = s.tln := rfl
theorem with_gov_cal (s : State) (r : Gov) : ({ s with gov := r } : State).cal = s.cal := rfl
theorem with_gov_flx (s : State) (r : Gov) : ({ s with gov := r } : State).flx = s.flx := rfl
theorem with_gov_seg (s : State) (r : Gov) : ({ s with gov := r } : State).seg = s.seg := rfl
theorem with_gov_thm (s : State) (r : Gov) : ({ s with gov := r } : State).thm = s.thm := rfl
theorem with_gov_pwr (s : State) (r : Gov) : ({ s with gov := r } : State).pwr = s.pwr := rfl
theorem with_gov_sec (s : State) (r : Gov) : ({ s with gov := r } : State).sec = s.sec := rfl
theorem with_gov_fus (s : State) (r : Gov) : ({ s with gov := r } : State).fus = s.fus := rfl
theorem with_gov_upd (s : State) (r : Gov) : ({ s with gov := r } : State).upd = s.upd := rfl
theorem with_gov_readData (s : State) (r : Gov) : ({ s with gov := r } : State).readData = s.readData := rfl
theorem with_gov_fresh (s : State) (r : Gov) : ({ s with gov := r } : State).fresh = s.fresh := rfl
theorem with_gov_pending (s : State) (r : Gov) : ({ s with gov := r } : State).pending = s.pending := rfl
theorem with_seg_regs (s : State) (r : Seg) : ({ s with seg := r } : State).regs = s.regs := rfl
theorem with_seg_shadow (s : State) (r : Seg) : ({ s with seg := r } : State).shadow = s.shadow := rfl
theorem with_seg_pend (s : State) (r : Seg) : ({ s with seg := r } : State).pend = s.pend := rfl
theorem with_seg_pendPages (s : State) (r : Seg) : ({ s with seg := r } : State).pendPages = s.pendPages := rfl
theorem with_seg_mem (s : State) (r : Seg) : ({ s with seg := r } : State).mem = s.mem := rfl
theorem with_seg_latches (s : State) (r : Seg) : ({ s with seg := r } : State).latches = s.latches := rfl
theorem with_seg_now (s : State) (r : Seg) : ({ s with seg := r } : State).now = s.now := rfl
theorem with_seg_ohSub (s : State) (r : Seg) : ({ s with seg := r } : State).ohSub = s.ohSub := rfl
theorem with_seg_lt (s : State) (r : Seg) : ({ s with seg := r } : State).lt = s.lt := rfl
theorem with_seg_slew (s : State) (r : Seg) : ({ s with seg := r } : State).slew = s.slew := rfl
theorem with_seg_ltApplied (s : State) (r : Seg) : ({ s with seg := r } : State).ltApplied = s.ltApplied := rfl
theorem with_seg_flt (s : State) (r : Seg) : ({ s with seg := r } : State).flt = s.flt := rfl
theorem with_seg_evr (s : State) (r : Seg) : ({ s with seg := r } : State).evr = s.evr := rfl
theorem with_seg_saf (s : State) (r : Seg) : ({ s with seg := r } : State).saf = s.saf := rfl
theorem with_seg_rst (s : State) (r : Seg) : ({ s with seg := r } : State).rst = s.rst := rfl
theorem with_seg_quartz (s : State) (r : Seg) : ({ s with seg := r } : State).quartz = s.quartz := rfl
theorem with_seg_lnkA (s : State) (r : Seg) : ({ s with seg := r } : State).lnkA = s.lnkA := rfl
theorem with_seg_lnkB (s : State) (r : Seg) : ({ s with seg := r } : State).lnkB = s.lnkB := rfl
theorem with_seg_csf (s : State) (r : Seg) : ({ s with seg := r } : State).csf = s.csf := rfl
theorem with_seg_side (s : State) (r : Seg) : ({ s with seg := r } : State).side = s.side := rfl
theorem with_seg_spi (s : State) (r : Seg) : ({ s with seg := r } : State).spi = s.spi := rfl
theorem with_seg_cmd (s : State) (r : Seg) : ({ s with seg := r } : State).cmd = s.cmd := rfl
theorem with_seg_cmp (s : State) (r : Seg) : ({ s with seg := r } : State).cmp = s.cmp := rfl
theorem with_seg_glare (s : State) (r : Seg) : ({ s with seg := r } : State).glare = s.glare := rfl
theorem with_seg_lanes (s : State) (r : Seg) : ({ s with seg := r } : State).lanes = s.lanes := rfl
theorem with_seg_tln (s : State) (r : Seg) : ({ s with seg := r } : State).tln = s.tln := rfl
theorem with_seg_gov (s : State) (r : Seg) : ({ s with seg := r } : State).gov = s.gov := rfl
theorem with_seg_cal (s : State) (r : Seg) : ({ s with seg := r } : State).cal = s.cal := rfl
theorem with_seg_flx (s : State) (r : Seg) : ({ s with seg := r } : State).flx = s.flx := rfl
theorem with_seg_thm (s : State) (r : Seg) : ({ s with seg := r } : State).thm = s.thm := rfl
theorem with_seg_pwr (s : State) (r : Seg) : ({ s with seg := r } : State).pwr = s.pwr := rfl
theorem with_seg_sec (s : State) (r : Seg) : ({ s with seg := r } : State).sec = s.sec := rfl
theorem with_seg_fus (s : State) (r : Seg) : ({ s with seg := r } : State).fus = s.fus := rfl
theorem with_seg_upd (s : State) (r : Seg) : ({ s with seg := r } : State).upd = s.upd := rfl
theorem with_seg_readData (s : State) (r : Seg) : ({ s with seg := r } : State).readData = s.readData := rfl
theorem with_seg_fresh (s : State) (r : Seg) : ({ s with seg := r } : State).fresh = s.fresh := rfl
theorem with_seg_pending (s : State) (r : Seg) : ({ s with seg := r } : State).pending = s.pending := rfl
theorem with_fus_regs (s : State) (r : Fus) : ({ s with fus := r } : State).regs = s.regs := rfl
theorem with_fus_shadow (s : State) (r : Fus) : ({ s with fus := r } : State).shadow = s.shadow := rfl
theorem with_fus_pend (s : State) (r : Fus) : ({ s with fus := r } : State).pend = s.pend := rfl
theorem with_fus_pendPages (s : State) (r : Fus) : ({ s with fus := r } : State).pendPages = s.pendPages := rfl
theorem with_fus_mem (s : State) (r : Fus) : ({ s with fus := r } : State).mem = s.mem := rfl
theorem with_fus_latches (s : State) (r : Fus) : ({ s with fus := r } : State).latches = s.latches := rfl
theorem with_fus_now (s : State) (r : Fus) : ({ s with fus := r } : State).now = s.now := rfl
theorem with_fus_ohSub (s : State) (r : Fus) : ({ s with fus := r } : State).ohSub = s.ohSub := rfl
theorem with_fus_lt (s : State) (r : Fus) : ({ s with fus := r } : State).lt = s.lt := rfl
theorem with_fus_slew (s : State) (r : Fus) : ({ s with fus := r } : State).slew = s.slew := rfl
theorem with_fus_ltApplied (s : State) (r : Fus) : ({ s with fus := r } : State).ltApplied = s.ltApplied := rfl
theorem with_fus_flt (s : State) (r : Fus) : ({ s with fus := r } : State).flt = s.flt := rfl
theorem with_fus_evr (s : State) (r : Fus) : ({ s with fus := r } : State).evr = s.evr := rfl
theorem with_fus_saf (s : State) (r : Fus) : ({ s with fus := r } : State).saf = s.saf := rfl
theorem with_fus_rst (s : State) (r : Fus) : ({ s with fus := r } : State).rst = s.rst := rfl
theorem with_fus_quartz (s : State) (r : Fus) : ({ s with fus := r } : State).quartz = s.quartz := rfl
theorem with_fus_lnkA (s : State) (r : Fus) : ({ s with fus := r } : State).lnkA = s.lnkA := rfl
theorem with_fus_lnkB (s : State) (r : Fus) : ({ s with fus := r } : State).lnkB = s.lnkB := rfl
theorem with_fus_csf (s : State) (r : Fus) : ({ s with fus := r } : State).csf = s.csf := rfl
theorem with_fus_side (s : State) (r : Fus) : ({ s with fus := r } : State).side = s.side := rfl
theorem with_fus_spi (s : State) (r : Fus) : ({ s with fus := r } : State).spi = s.spi := rfl
theorem with_fus_cmd (s : State) (r : Fus) : ({ s with fus := r } : State).cmd = s.cmd := rfl
theorem with_fus_cmp (s : State) (r : Fus) : ({ s with fus := r } : State).cmp = s.cmp := rfl
theorem with_fus_glare (s : State) (r : Fus) : ({ s with fus := r } : State).glare = s.glare := rfl
theorem with_fus_lanes (s : State) (r : Fus) : ({ s with fus := r } : State).lanes = s.lanes := rfl
theorem with_fus_tln (s : State) (r : Fus) : ({ s with fus := r } : State).tln = s.tln := rfl
theorem with_fus_gov (s : State) (r : Fus) : ({ s with fus := r } : State).gov = s.gov := rfl
theorem with_fus_cal (s : State) (r : Fus) : ({ s with fus := r } : State).cal = s.cal := rfl
theorem with_fus_flx (s : State) (r : Fus) : ({ s with fus := r } : State).flx = s.flx := rfl
theorem with_fus_seg (s : State) (r : Fus) : ({ s with fus := r } : State).seg = s.seg := rfl
theorem with_fus_thm (s : State) (r : Fus) : ({ s with fus := r } : State).thm = s.thm := rfl
theorem with_fus_pwr (s : State) (r : Fus) : ({ s with fus := r } : State).pwr = s.pwr := rfl
theorem with_fus_sec (s : State) (r : Fus) : ({ s with fus := r } : State).sec = s.sec := rfl
theorem with_fus_upd (s : State) (r : Fus) : ({ s with fus := r } : State).upd = s.upd := rfl
theorem with_fus_readData (s : State) (r : Fus) : ({ s with fus := r } : State).readData = s.readData := rfl
theorem with_fus_fresh (s : State) (r : Fus) : ({ s with fus := r } : State).fresh = s.fresh := rfl
theorem with_fus_pending (s : State) (r : Fus) : ({ s with fus := r } : State).pending = s.pending := rfl

/-! ### setWord -/

@[simp] theorem setWord_shadow (s : State) (a : Nat) (w : Word) : (s.setWord a w).shadow = s.shadow := with_regs_shadow s _
@[simp] theorem setWord_pend (s : State) (a : Nat) (w : Word) : (s.setWord a w).pend = s.pend := with_regs_pend s _
@[simp] theorem setWord_pendPages (s : State) (a : Nat) (w : Word) : (s.setWord a w).pendPages = s.pendPages := with_regs_pendPages s _
@[simp] theorem setWord_mem (s : State) (a : Nat) (w : Word) : (s.setWord a w).mem = s.mem := with_regs_mem s _
@[simp] theorem setWord_latches (s : State) (a : Nat) (w : Word) : (s.setWord a w).latches = s.latches := with_regs_latches s _
@[simp] theorem setWord_now (s : State) (a : Nat) (w : Word) : (s.setWord a w).now = s.now := with_regs_now s _
@[simp] theorem setWord_ohSub (s : State) (a : Nat) (w : Word) : (s.setWord a w).ohSub = s.ohSub := with_regs_ohSub s _
@[simp] theorem setWord_lt (s : State) (a : Nat) (w : Word) : (s.setWord a w).lt = s.lt := with_regs_lt s _
@[simp] theorem setWord_slew (s : State) (a : Nat) (w : Word) : (s.setWord a w).slew = s.slew := with_regs_slew s _
@[simp] theorem setWord_ltApplied (s : State) (a : Nat) (w : Word) : (s.setWord a w).ltApplied = s.ltApplied := with_regs_ltApplied s _
@[simp] theorem setWord_flt (s : State) (a : Nat) (w : Word) : (s.setWord a w).flt = s.flt := with_regs_flt s _
@[simp] theorem setWord_evr (s : State) (a : Nat) (w : Word) : (s.setWord a w).evr = s.evr := with_regs_evr s _
@[simp] theorem setWord_saf (s : State) (a : Nat) (w : Word) : (s.setWord a w).saf = s.saf := with_regs_saf s _
@[simp] theorem setWord_rst (s : State) (a : Nat) (w : Word) : (s.setWord a w).rst = s.rst := with_regs_rst s _
@[simp] theorem setWord_quartz (s : State) (a : Nat) (w : Word) : (s.setWord a w).quartz = s.quartz := with_regs_quartz s _
@[simp] theorem setWord_lnkA (s : State) (a : Nat) (w : Word) : (s.setWord a w).lnkA = s.lnkA := with_regs_lnkA s _
@[simp] theorem setWord_lnkB (s : State) (a : Nat) (w : Word) : (s.setWord a w).lnkB = s.lnkB := with_regs_lnkB s _
@[simp] theorem setWord_csf (s : State) (a : Nat) (w : Word) : (s.setWord a w).csf = s.csf := with_regs_csf s _
@[simp] theorem setWord_side (s : State) (a : Nat) (w : Word) : (s.setWord a w).side = s.side := with_regs_side s _
@[simp] theorem setWord_spi (s : State) (a : Nat) (w : Word) : (s.setWord a w).spi = s.spi := with_regs_spi s _
@[simp] theorem setWord_cmd (s : State) (a : Nat) (w : Word) : (s.setWord a w).cmd = s.cmd := with_regs_cmd s _
@[simp] theorem setWord_cmp (s : State) (a : Nat) (w : Word) : (s.setWord a w).cmp = s.cmp := with_regs_cmp s _
@[simp] theorem setWord_glare (s : State) (a : Nat) (w : Word) : (s.setWord a w).glare = s.glare := with_regs_glare s _
@[simp] theorem setWord_lanes (s : State) (a : Nat) (w : Word) : (s.setWord a w).lanes = s.lanes := with_regs_lanes s _
@[simp] theorem setWord_tln (s : State) (a : Nat) (w : Word) : (s.setWord a w).tln = s.tln := with_regs_tln s _
@[simp] theorem setWord_gov (s : State) (a : Nat) (w : Word) : (s.setWord a w).gov = s.gov := with_regs_gov s _
@[simp] theorem setWord_cal (s : State) (a : Nat) (w : Word) : (s.setWord a w).cal = s.cal := with_regs_cal s _
@[simp] theorem setWord_flx (s : State) (a : Nat) (w : Word) : (s.setWord a w).flx = s.flx := with_regs_flx s _
@[simp] theorem setWord_seg (s : State) (a : Nat) (w : Word) : (s.setWord a w).seg = s.seg := with_regs_seg s _
@[simp] theorem setWord_thm (s : State) (a : Nat) (w : Word) : (s.setWord a w).thm = s.thm := with_regs_thm s _
@[simp] theorem setWord_pwr (s : State) (a : Nat) (w : Word) : (s.setWord a w).pwr = s.pwr := with_regs_pwr s _
@[simp] theorem setWord_sec (s : State) (a : Nat) (w : Word) : (s.setWord a w).sec = s.sec := with_regs_sec s _
@[simp] theorem setWord_fus (s : State) (a : Nat) (w : Word) : (s.setWord a w).fus = s.fus := with_regs_fus s _
@[simp] theorem setWord_upd (s : State) (a : Nat) (w : Word) : (s.setWord a w).upd = s.upd := with_regs_upd s _
@[simp] theorem setWord_readData (s : State) (a : Nat) (w : Word) : (s.setWord a w).readData = s.readData := with_regs_readData s _
@[simp] theorem setWord_fresh (s : State) (a : Nat) (w : Word) : (s.setWord a w).fresh = s.fresh := with_regs_fresh s _
@[simp] theorem setWord_pending (s : State) (a : Nat) (w : Word) : (s.setWord a w).pending = s.pending := with_regs_pending s _
@[simp] theorem setWord_byte (s : State) (a : Nat) (w : Word) (a' : Nat) : (s.setWord a w).byte a' = s.byte a' := by simp [State.byte]

/-! ### put -/

@[simp] theorem put_shadow (s : State) (f : Fld) (v : Nat) : (s.put f v).shadow = s.shadow := with_regs_shadow s _
@[simp] theorem put_pend (s : State) (f : Fld) (v : Nat) : (s.put f v).pend = s.pend := with_regs_pend s _
@[simp] theorem put_pendPages (s : State) (f : Fld) (v : Nat) : (s.put f v).pendPages = s.pendPages := with_regs_pendPages s _
@[simp] theorem put_mem (s : State) (f : Fld) (v : Nat) : (s.put f v).mem = s.mem := with_regs_mem s _
@[simp] theorem put_latches (s : State) (f : Fld) (v : Nat) : (s.put f v).latches = s.latches := with_regs_latches s _
@[simp] theorem put_now (s : State) (f : Fld) (v : Nat) : (s.put f v).now = s.now := with_regs_now s _
@[simp] theorem put_ohSub (s : State) (f : Fld) (v : Nat) : (s.put f v).ohSub = s.ohSub := with_regs_ohSub s _
@[simp] theorem put_lt (s : State) (f : Fld) (v : Nat) : (s.put f v).lt = s.lt := with_regs_lt s _
@[simp] theorem put_slew (s : State) (f : Fld) (v : Nat) : (s.put f v).slew = s.slew := with_regs_slew s _
@[simp] theorem put_ltApplied (s : State) (f : Fld) (v : Nat) : (s.put f v).ltApplied = s.ltApplied := with_regs_ltApplied s _
@[simp] theorem put_flt (s : State) (f : Fld) (v : Nat) : (s.put f v).flt = s.flt := with_regs_flt s _
@[simp] theorem put_evr (s : State) (f : Fld) (v : Nat) : (s.put f v).evr = s.evr := with_regs_evr s _
@[simp] theorem put_saf (s : State) (f : Fld) (v : Nat) : (s.put f v).saf = s.saf := with_regs_saf s _
@[simp] theorem put_rst (s : State) (f : Fld) (v : Nat) : (s.put f v).rst = s.rst := with_regs_rst s _
@[simp] theorem put_quartz (s : State) (f : Fld) (v : Nat) : (s.put f v).quartz = s.quartz := with_regs_quartz s _
@[simp] theorem put_lnkA (s : State) (f : Fld) (v : Nat) : (s.put f v).lnkA = s.lnkA := with_regs_lnkA s _
@[simp] theorem put_lnkB (s : State) (f : Fld) (v : Nat) : (s.put f v).lnkB = s.lnkB := with_regs_lnkB s _
@[simp] theorem put_csf (s : State) (f : Fld) (v : Nat) : (s.put f v).csf = s.csf := with_regs_csf s _
@[simp] theorem put_side (s : State) (f : Fld) (v : Nat) : (s.put f v).side = s.side := with_regs_side s _
@[simp] theorem put_spi (s : State) (f : Fld) (v : Nat) : (s.put f v).spi = s.spi := with_regs_spi s _
@[simp] theorem put_cmd (s : State) (f : Fld) (v : Nat) : (s.put f v).cmd = s.cmd := with_regs_cmd s _
@[simp] theorem put_cmp (s : State) (f : Fld) (v : Nat) : (s.put f v).cmp = s.cmp := with_regs_cmp s _
@[simp] theorem put_glare (s : State) (f : Fld) (v : Nat) : (s.put f v).glare = s.glare := with_regs_glare s _
@[simp] theorem put_lanes (s : State) (f : Fld) (v : Nat) : (s.put f v).lanes = s.lanes := with_regs_lanes s _
@[simp] theorem put_tln (s : State) (f : Fld) (v : Nat) : (s.put f v).tln = s.tln := with_regs_tln s _
@[simp] theorem put_gov (s : State) (f : Fld) (v : Nat) : (s.put f v).gov = s.gov := with_regs_gov s _
@[simp] theorem put_cal (s : State) (f : Fld) (v : Nat) : (s.put f v).cal = s.cal := with_regs_cal s _
@[simp] theorem put_flx (s : State) (f : Fld) (v : Nat) : (s.put f v).flx = s.flx := with_regs_flx s _
@[simp] theorem put_seg (s : State) (f : Fld) (v : Nat) : (s.put f v).seg = s.seg := with_regs_seg s _
@[simp] theorem put_thm (s : State) (f : Fld) (v : Nat) : (s.put f v).thm = s.thm := with_regs_thm s _
@[simp] theorem put_pwr (s : State) (f : Fld) (v : Nat) : (s.put f v).pwr = s.pwr := with_regs_pwr s _
@[simp] theorem put_sec (s : State) (f : Fld) (v : Nat) : (s.put f v).sec = s.sec := with_regs_sec s _
@[simp] theorem put_fus (s : State) (f : Fld) (v : Nat) : (s.put f v).fus = s.fus := with_regs_fus s _
@[simp] theorem put_upd (s : State) (f : Fld) (v : Nat) : (s.put f v).upd = s.upd := with_regs_upd s _
@[simp] theorem put_readData (s : State) (f : Fld) (v : Nat) : (s.put f v).readData = s.readData := with_regs_readData s _
@[simp] theorem put_fresh (s : State) (f : Fld) (v : Nat) : (s.put f v).fresh = s.fresh := with_regs_fresh s _
@[simp] theorem put_pending (s : State) (f : Fld) (v : Nat) : (s.put f v).pending = s.pending := with_regs_pending s _
@[simp] theorem put_byte (s : State) (f : Fld) (v : Nat) (a' : Nat) : (s.put f v).byte a' = s.byte a' := by simp [State.byte]

/-! ### inc -/

@[simp] theorem inc_shadow (s : State) (f : Fld) : (s.inc f).shadow = s.shadow := with_regs_shadow s _
@[simp] theorem inc_pend (s : State) (f : Fld) : (s.inc f).pend = s.pend := with_regs_pend s _
@[simp] theorem inc_pendPages (s : State) (f : Fld) : (s.inc f).pendPages = s.pendPages := with_regs_pendPages s _
@[simp] theorem inc_mem (s : State) (f : Fld) : (s.inc f).mem = s.mem := with_regs_mem s _
@[simp] theorem inc_latches (s : State) (f : Fld) : (s.inc f).latches = s.latches := with_regs_latches s _
@[simp] theorem inc_now (s : State) (f : Fld) : (s.inc f).now = s.now := with_regs_now s _
@[simp] theorem inc_ohSub (s : State) (f : Fld) : (s.inc f).ohSub = s.ohSub := with_regs_ohSub s _
@[simp] theorem inc_lt (s : State) (f : Fld) : (s.inc f).lt = s.lt := with_regs_lt s _
@[simp] theorem inc_slew (s : State) (f : Fld) : (s.inc f).slew = s.slew := with_regs_slew s _
@[simp] theorem inc_ltApplied (s : State) (f : Fld) : (s.inc f).ltApplied = s.ltApplied := with_regs_ltApplied s _
@[simp] theorem inc_flt (s : State) (f : Fld) : (s.inc f).flt = s.flt := with_regs_flt s _
@[simp] theorem inc_evr (s : State) (f : Fld) : (s.inc f).evr = s.evr := with_regs_evr s _
@[simp] theorem inc_saf (s : State) (f : Fld) : (s.inc f).saf = s.saf := with_regs_saf s _
@[simp] theorem inc_rst (s : State) (f : Fld) : (s.inc f).rst = s.rst := with_regs_rst s _
@[simp] theorem inc_quartz (s : State) (f : Fld) : (s.inc f).quartz = s.quartz := with_regs_quartz s _
@[simp] theorem inc_lnkA (s : State) (f : Fld) : (s.inc f).lnkA = s.lnkA := with_regs_lnkA s _
@[simp] theorem inc_lnkB (s : State) (f : Fld) : (s.inc f).lnkB = s.lnkB := with_regs_lnkB s _
@[simp] theorem inc_csf (s : State) (f : Fld) : (s.inc f).csf = s.csf := with_regs_csf s _
@[simp] theorem inc_side (s : State) (f : Fld) : (s.inc f).side = s.side := with_regs_side s _
@[simp] theorem inc_spi (s : State) (f : Fld) : (s.inc f).spi = s.spi := with_regs_spi s _
@[simp] theorem inc_cmd (s : State) (f : Fld) : (s.inc f).cmd = s.cmd := with_regs_cmd s _
@[simp] theorem inc_cmp (s : State) (f : Fld) : (s.inc f).cmp = s.cmp := with_regs_cmp s _
@[simp] theorem inc_glare (s : State) (f : Fld) : (s.inc f).glare = s.glare := with_regs_glare s _
@[simp] theorem inc_lanes (s : State) (f : Fld) : (s.inc f).lanes = s.lanes := with_regs_lanes s _
@[simp] theorem inc_tln (s : State) (f : Fld) : (s.inc f).tln = s.tln := with_regs_tln s _
@[simp] theorem inc_gov (s : State) (f : Fld) : (s.inc f).gov = s.gov := with_regs_gov s _
@[simp] theorem inc_cal (s : State) (f : Fld) : (s.inc f).cal = s.cal := with_regs_cal s _
@[simp] theorem inc_flx (s : State) (f : Fld) : (s.inc f).flx = s.flx := with_regs_flx s _
@[simp] theorem inc_seg (s : State) (f : Fld) : (s.inc f).seg = s.seg := with_regs_seg s _
@[simp] theorem inc_thm (s : State) (f : Fld) : (s.inc f).thm = s.thm := with_regs_thm s _
@[simp] theorem inc_pwr (s : State) (f : Fld) : (s.inc f).pwr = s.pwr := with_regs_pwr s _
@[simp] theorem inc_sec (s : State) (f : Fld) : (s.inc f).sec = s.sec := with_regs_sec s _
@[simp] theorem inc_fus (s : State) (f : Fld) : (s.inc f).fus = s.fus := with_regs_fus s _
@[simp] theorem inc_upd (s : State) (f : Fld) : (s.inc f).upd = s.upd := with_regs_upd s _
@[simp] theorem inc_readData (s : State) (f : Fld) : (s.inc f).readData = s.readData := with_regs_readData s _
@[simp] theorem inc_fresh (s : State) (f : Fld) : (s.inc f).fresh = s.fresh := with_regs_fresh s _
@[simp] theorem inc_pending (s : State) (f : Fld) : (s.inc f).pending = s.pending := with_regs_pending s _
@[simp] theorem inc_byte (s : State) (f : Fld) (a' : Nat) : (s.inc f).byte a' = s.byte a' := by simp [State.byte]

/-! ### addSat -/

@[simp] theorem addSat_shadow (s : State) (f : Fld) (n : Nat) : (s.addSat f n).shadow = s.shadow := with_regs_shadow s _
@[simp] theorem addSat_pend (s : State) (f : Fld) (n : Nat) : (s.addSat f n).pend = s.pend := with_regs_pend s _
@[simp] theorem addSat_pendPages (s : State) (f : Fld) (n : Nat) : (s.addSat f n).pendPages = s.pendPages := with_regs_pendPages s _
@[simp] theorem addSat_mem (s : State) (f : Fld) (n : Nat) : (s.addSat f n).mem = s.mem := with_regs_mem s _
@[simp] theorem addSat_latches (s : State) (f : Fld) (n : Nat) : (s.addSat f n).latches = s.latches := with_regs_latches s _
@[simp] theorem addSat_now (s : State) (f : Fld) (n : Nat) : (s.addSat f n).now = s.now := with_regs_now s _
@[simp] theorem addSat_ohSub (s : State) (f : Fld) (n : Nat) : (s.addSat f n).ohSub = s.ohSub := with_regs_ohSub s _
@[simp] theorem addSat_lt (s : State) (f : Fld) (n : Nat) : (s.addSat f n).lt = s.lt := with_regs_lt s _
@[simp] theorem addSat_slew (s : State) (f : Fld) (n : Nat) : (s.addSat f n).slew = s.slew := with_regs_slew s _
@[simp] theorem addSat_ltApplied (s : State) (f : Fld) (n : Nat) : (s.addSat f n).ltApplied = s.ltApplied := with_regs_ltApplied s _
@[simp] theorem addSat_flt (s : State) (f : Fld) (n : Nat) : (s.addSat f n).flt = s.flt := with_regs_flt s _
@[simp] theorem addSat_evr (s : State) (f : Fld) (n : Nat) : (s.addSat f n).evr = s.evr := with_regs_evr s _
@[simp] theorem addSat_saf (s : State) (f : Fld) (n : Nat) : (s.addSat f n).saf = s.saf := with_regs_saf s _
@[simp] theorem addSat_rst (s : State) (f : Fld) (n : Nat) : (s.addSat f n).rst = s.rst := with_regs_rst s _
@[simp] theorem addSat_quartz (s : State) (f : Fld) (n : Nat) : (s.addSat f n).quartz = s.quartz := with_regs_quartz s _
@[simp] theorem addSat_lnkA (s : State) (f : Fld) (n : Nat) : (s.addSat f n).lnkA = s.lnkA := with_regs_lnkA s _
@[simp] theorem addSat_lnkB (s : State) (f : Fld) (n : Nat) : (s.addSat f n).lnkB = s.lnkB := with_regs_lnkB s _
@[simp] theorem addSat_csf (s : State) (f : Fld) (n : Nat) : (s.addSat f n).csf = s.csf := with_regs_csf s _
@[simp] theorem addSat_side (s : State) (f : Fld) (n : Nat) : (s.addSat f n).side = s.side := with_regs_side s _
@[simp] theorem addSat_spi (s : State) (f : Fld) (n : Nat) : (s.addSat f n).spi = s.spi := with_regs_spi s _
@[simp] theorem addSat_cmd (s : State) (f : Fld) (n : Nat) : (s.addSat f n).cmd = s.cmd := with_regs_cmd s _
@[simp] theorem addSat_cmp (s : State) (f : Fld) (n : Nat) : (s.addSat f n).cmp = s.cmp := with_regs_cmp s _
@[simp] theorem addSat_glare (s : State) (f : Fld) (n : Nat) : (s.addSat f n).glare = s.glare := with_regs_glare s _
@[simp] theorem addSat_lanes (s : State) (f : Fld) (n : Nat) : (s.addSat f n).lanes = s.lanes := with_regs_lanes s _
@[simp] theorem addSat_tln (s : State) (f : Fld) (n : Nat) : (s.addSat f n).tln = s.tln := with_regs_tln s _
@[simp] theorem addSat_gov (s : State) (f : Fld) (n : Nat) : (s.addSat f n).gov = s.gov := with_regs_gov s _
@[simp] theorem addSat_cal (s : State) (f : Fld) (n : Nat) : (s.addSat f n).cal = s.cal := with_regs_cal s _
@[simp] theorem addSat_flx (s : State) (f : Fld) (n : Nat) : (s.addSat f n).flx = s.flx := with_regs_flx s _
@[simp] theorem addSat_seg (s : State) (f : Fld) (n : Nat) : (s.addSat f n).seg = s.seg := with_regs_seg s _
@[simp] theorem addSat_thm (s : State) (f : Fld) (n : Nat) : (s.addSat f n).thm = s.thm := with_regs_thm s _
@[simp] theorem addSat_pwr (s : State) (f : Fld) (n : Nat) : (s.addSat f n).pwr = s.pwr := with_regs_pwr s _
@[simp] theorem addSat_sec (s : State) (f : Fld) (n : Nat) : (s.addSat f n).sec = s.sec := with_regs_sec s _
@[simp] theorem addSat_fus (s : State) (f : Fld) (n : Nat) : (s.addSat f n).fus = s.fus := with_regs_fus s _
@[simp] theorem addSat_upd (s : State) (f : Fld) (n : Nat) : (s.addSat f n).upd = s.upd := with_regs_upd s _
@[simp] theorem addSat_readData (s : State) (f : Fld) (n : Nat) : (s.addSat f n).readData = s.readData := with_regs_readData s _
@[simp] theorem addSat_fresh (s : State) (f : Fld) (n : Nat) : (s.addSat f n).fresh = s.fresh := with_regs_fresh s _
@[simp] theorem addSat_pending (s : State) (f : Fld) (n : Nat) : (s.addSat f n).pending = s.pending := with_regs_pending s _
@[simp] theorem addSat_byte (s : State) (f : Fld) (n : Nat) (a' : Nat) : (s.addSat f n).byte a' = s.byte a' := by simp [State.byte]

/-! ### incSat -/

@[simp] theorem incSat_shadow (s : State) (f : Fld) : (s.incSat f).shadow = s.shadow := by unfold State.incSat; split <;> first | exact with_regs_shadow s _ | rfl
@[simp] theorem incSat_pend (s : State) (f : Fld) : (s.incSat f).pend = s.pend := by unfold State.incSat; split <;> first | exact with_regs_pend s _ | rfl
@[simp] theorem incSat_pendPages (s : State) (f : Fld) : (s.incSat f).pendPages = s.pendPages := by unfold State.incSat; split <;> first | exact with_regs_pendPages s _ | rfl
@[simp] theorem incSat_mem (s : State) (f : Fld) : (s.incSat f).mem = s.mem := by unfold State.incSat; split <;> first | exact with_regs_mem s _ | rfl
@[simp] theorem incSat_latches (s : State) (f : Fld) : (s.incSat f).latches = s.latches := by unfold State.incSat; split <;> first | exact with_regs_latches s _ | rfl
@[simp] theorem incSat_now (s : State) (f : Fld) : (s.incSat f).now = s.now := by unfold State.incSat; split <;> first | exact with_regs_now s _ | rfl
@[simp] theorem incSat_ohSub (s : State) (f : Fld) : (s.incSat f).ohSub = s.ohSub := by unfold State.incSat; split <;> first | exact with_regs_ohSub s _ | rfl
@[simp] theorem incSat_lt (s : State) (f : Fld) : (s.incSat f).lt = s.lt := by unfold State.incSat; split <;> first | exact with_regs_lt s _ | rfl
@[simp] theorem incSat_slew (s : State) (f : Fld) : (s.incSat f).slew = s.slew := by unfold State.incSat; split <;> first | exact with_regs_slew s _ | rfl
@[simp] theorem incSat_ltApplied (s : State) (f : Fld) : (s.incSat f).ltApplied = s.ltApplied := by unfold State.incSat; split <;> first | exact with_regs_ltApplied s _ | rfl
@[simp] theorem incSat_flt (s : State) (f : Fld) : (s.incSat f).flt = s.flt := by unfold State.incSat; split <;> first | exact with_regs_flt s _ | rfl
@[simp] theorem incSat_evr (s : State) (f : Fld) : (s.incSat f).evr = s.evr := by unfold State.incSat; split <;> first | exact with_regs_evr s _ | rfl
@[simp] theorem incSat_saf (s : State) (f : Fld) : (s.incSat f).saf = s.saf := by unfold State.incSat; split <;> first | exact with_regs_saf s _ | rfl
@[simp] theorem incSat_rst (s : State) (f : Fld) : (s.incSat f).rst = s.rst := by unfold State.incSat; split <;> first | exact with_regs_rst s _ | rfl
@[simp] theorem incSat_quartz (s : State) (f : Fld) : (s.incSat f).quartz = s.quartz := by unfold State.incSat; split <;> first | exact with_regs_quartz s _ | rfl
@[simp] theorem incSat_lnkA (s : State) (f : Fld) : (s.incSat f).lnkA = s.lnkA := by unfold State.incSat; split <;> first | exact with_regs_lnkA s _ | rfl
@[simp] theorem incSat_lnkB (s : State) (f : Fld) : (s.incSat f).lnkB = s.lnkB := by unfold State.incSat; split <;> first | exact with_regs_lnkB s _ | rfl
@[simp] theorem incSat_csf (s : State) (f : Fld) : (s.incSat f).csf = s.csf := by unfold State.incSat; split <;> first | exact with_regs_csf s _ | rfl
@[simp] theorem incSat_side (s : State) (f : Fld) : (s.incSat f).side = s.side := by unfold State.incSat; split <;> first | exact with_regs_side s _ | rfl
@[simp] theorem incSat_spi (s : State) (f : Fld) : (s.incSat f).spi = s.spi := by unfold State.incSat; split <;> first | exact with_regs_spi s _ | rfl
@[simp] theorem incSat_cmd (s : State) (f : Fld) : (s.incSat f).cmd = s.cmd := by unfold State.incSat; split <;> first | exact with_regs_cmd s _ | rfl
@[simp] theorem incSat_cmp (s : State) (f : Fld) : (s.incSat f).cmp = s.cmp := by unfold State.incSat; split <;> first | exact with_regs_cmp s _ | rfl
@[simp] theorem incSat_glare (s : State) (f : Fld) : (s.incSat f).glare = s.glare := by unfold State.incSat; split <;> first | exact with_regs_glare s _ | rfl
@[simp] theorem incSat_lanes (s : State) (f : Fld) : (s.incSat f).lanes = s.lanes := by unfold State.incSat; split <;> first | exact with_regs_lanes s _ | rfl
@[simp] theorem incSat_tln (s : State) (f : Fld) : (s.incSat f).tln = s.tln := by unfold State.incSat; split <;> first | exact with_regs_tln s _ | rfl
@[simp] theorem incSat_gov (s : State) (f : Fld) : (s.incSat f).gov = s.gov := by unfold State.incSat; split <;> first | exact with_regs_gov s _ | rfl
@[simp] theorem incSat_cal (s : State) (f : Fld) : (s.incSat f).cal = s.cal := by unfold State.incSat; split <;> first | exact with_regs_cal s _ | rfl
@[simp] theorem incSat_flx (s : State) (f : Fld) : (s.incSat f).flx = s.flx := by unfold State.incSat; split <;> first | exact with_regs_flx s _ | rfl
@[simp] theorem incSat_seg (s : State) (f : Fld) : (s.incSat f).seg = s.seg := by unfold State.incSat; split <;> first | exact with_regs_seg s _ | rfl
@[simp] theorem incSat_thm (s : State) (f : Fld) : (s.incSat f).thm = s.thm := by unfold State.incSat; split <;> first | exact with_regs_thm s _ | rfl
@[simp] theorem incSat_pwr (s : State) (f : Fld) : (s.incSat f).pwr = s.pwr := by unfold State.incSat; split <;> first | exact with_regs_pwr s _ | rfl
@[simp] theorem incSat_sec (s : State) (f : Fld) : (s.incSat f).sec = s.sec := by unfold State.incSat; split <;> first | exact with_regs_sec s _ | rfl
@[simp] theorem incSat_fus (s : State) (f : Fld) : (s.incSat f).fus = s.fus := by unfold State.incSat; split <;> first | exact with_regs_fus s _ | rfl
@[simp] theorem incSat_upd (s : State) (f : Fld) : (s.incSat f).upd = s.upd := by unfold State.incSat; split <;> first | exact with_regs_upd s _ | rfl
@[simp] theorem incSat_readData (s : State) (f : Fld) : (s.incSat f).readData = s.readData := by unfold State.incSat; split <;> first | exact with_regs_readData s _ | rfl
@[simp] theorem incSat_fresh (s : State) (f : Fld) : (s.incSat f).fresh = s.fresh := by unfold State.incSat; split <;> first | exact with_regs_fresh s _ | rfl
@[simp] theorem incSat_pending (s : State) (f : Fld) : (s.incSat f).pending = s.pending := by unfold State.incSat; split <;> first | exact with_regs_pending s _ | rfl
@[simp] theorem incSat_byte (s : State) (f : Fld) (a' : Nat) : (s.incSat f).byte a' = s.byte a' := by simp [State.byte]

/-! ### evt -/

@[simp] theorem evt_shadow (s : State) (f : Fld) : (s.evt f).shadow = s.shadow := by unfold State.evt; split <;> first | exact (with_regs_shadow _ _).trans (with_regs_shadow s _) | rfl
@[simp] theorem evt_pend (s : State) (f : Fld) : (s.evt f).pend = s.pend := by unfold State.evt; split <;> first | exact (with_regs_pend _ _).trans (with_regs_pend s _) | rfl
@[simp] theorem evt_pendPages (s : State) (f : Fld) : (s.evt f).pendPages = s.pendPages := by unfold State.evt; split <;> first | exact (with_regs_pendPages _ _).trans (with_regs_pendPages s _) | rfl
@[simp] theorem evt_mem (s : State) (f : Fld) : (s.evt f).mem = s.mem := by unfold State.evt; split <;> first | exact (with_regs_mem _ _).trans (with_regs_mem s _) | rfl
@[simp] theorem evt_latches (s : State) (f : Fld) : (s.evt f).latches = s.latches := by unfold State.evt; split <;> first | exact (with_regs_latches _ _).trans (with_regs_latches s _) | rfl
@[simp] theorem evt_now (s : State) (f : Fld) : (s.evt f).now = s.now := by unfold State.evt; split <;> first | exact (with_regs_now _ _).trans (with_regs_now s _) | rfl
@[simp] theorem evt_ohSub (s : State) (f : Fld) : (s.evt f).ohSub = s.ohSub := by unfold State.evt; split <;> first | exact (with_regs_ohSub _ _).trans (with_regs_ohSub s _) | rfl
@[simp] theorem evt_lt (s : State) (f : Fld) : (s.evt f).lt = s.lt := by unfold State.evt; split <;> first | exact (with_regs_lt _ _).trans (with_regs_lt s _) | rfl
@[simp] theorem evt_slew (s : State) (f : Fld) : (s.evt f).slew = s.slew := by unfold State.evt; split <;> first | exact (with_regs_slew _ _).trans (with_regs_slew s _) | rfl
@[simp] theorem evt_ltApplied (s : State) (f : Fld) : (s.evt f).ltApplied = s.ltApplied := by unfold State.evt; split <;> first | exact (with_regs_ltApplied _ _).trans (with_regs_ltApplied s _) | rfl
@[simp] theorem evt_flt (s : State) (f : Fld) : (s.evt f).flt = s.flt := by unfold State.evt; split <;> first | exact (with_regs_flt _ _).trans (with_regs_flt s _) | rfl
@[simp] theorem evt_evr (s : State) (f : Fld) : (s.evt f).evr = s.evr := by unfold State.evt; split <;> first | exact (with_regs_evr _ _).trans (with_regs_evr s _) | rfl
@[simp] theorem evt_saf (s : State) (f : Fld) : (s.evt f).saf = s.saf := by unfold State.evt; split <;> first | exact (with_regs_saf _ _).trans (with_regs_saf s _) | rfl
@[simp] theorem evt_rst (s : State) (f : Fld) : (s.evt f).rst = s.rst := by unfold State.evt; split <;> first | exact (with_regs_rst _ _).trans (with_regs_rst s _) | rfl
@[simp] theorem evt_quartz (s : State) (f : Fld) : (s.evt f).quartz = s.quartz := by unfold State.evt; split <;> first | exact (with_regs_quartz _ _).trans (with_regs_quartz s _) | rfl
@[simp] theorem evt_lnkA (s : State) (f : Fld) : (s.evt f).lnkA = s.lnkA := by unfold State.evt; split <;> first | exact (with_regs_lnkA _ _).trans (with_regs_lnkA s _) | rfl
@[simp] theorem evt_lnkB (s : State) (f : Fld) : (s.evt f).lnkB = s.lnkB := by unfold State.evt; split <;> first | exact (with_regs_lnkB _ _).trans (with_regs_lnkB s _) | rfl
@[simp] theorem evt_csf (s : State) (f : Fld) : (s.evt f).csf = s.csf := by unfold State.evt; split <;> first | exact (with_regs_csf _ _).trans (with_regs_csf s _) | rfl
@[simp] theorem evt_side (s : State) (f : Fld) : (s.evt f).side = s.side := by unfold State.evt; split <;> first | exact (with_regs_side _ _).trans (with_regs_side s _) | rfl
@[simp] theorem evt_spi (s : State) (f : Fld) : (s.evt f).spi = s.spi := by unfold State.evt; split <;> first | exact (with_regs_spi _ _).trans (with_regs_spi s _) | rfl
@[simp] theorem evt_cmd (s : State) (f : Fld) : (s.evt f).cmd = s.cmd := by unfold State.evt; split <;> first | exact (with_regs_cmd _ _).trans (with_regs_cmd s _) | rfl
@[simp] theorem evt_cmp (s : State) (f : Fld) : (s.evt f).cmp = s.cmp := by unfold State.evt; split <;> first | exact (with_regs_cmp _ _).trans (with_regs_cmp s _) | rfl
@[simp] theorem evt_glare (s : State) (f : Fld) : (s.evt f).glare = s.glare := by unfold State.evt; split <;> first | exact (with_regs_glare _ _).trans (with_regs_glare s _) | rfl
@[simp] theorem evt_lanes (s : State) (f : Fld) : (s.evt f).lanes = s.lanes := by unfold State.evt; split <;> first | exact (with_regs_lanes _ _).trans (with_regs_lanes s _) | rfl
@[simp] theorem evt_tln (s : State) (f : Fld) : (s.evt f).tln = s.tln := by unfold State.evt; split <;> first | exact (with_regs_tln _ _).trans (with_regs_tln s _) | rfl
@[simp] theorem evt_gov (s : State) (f : Fld) : (s.evt f).gov = s.gov := by unfold State.evt; split <;> first | exact (with_regs_gov _ _).trans (with_regs_gov s _) | rfl
@[simp] theorem evt_cal (s : State) (f : Fld) : (s.evt f).cal = s.cal := by unfold State.evt; split <;> first | exact (with_regs_cal _ _).trans (with_regs_cal s _) | rfl
@[simp] theorem evt_flx (s : State) (f : Fld) : (s.evt f).flx = s.flx := by unfold State.evt; split <;> first | exact (with_regs_flx _ _).trans (with_regs_flx s _) | rfl
@[simp] theorem evt_seg (s : State) (f : Fld) : (s.evt f).seg = s.seg := by unfold State.evt; split <;> first | exact (with_regs_seg _ _).trans (with_regs_seg s _) | rfl
@[simp] theorem evt_thm (s : State) (f : Fld) : (s.evt f).thm = s.thm := by unfold State.evt; split <;> first | exact (with_regs_thm _ _).trans (with_regs_thm s _) | rfl
@[simp] theorem evt_pwr (s : State) (f : Fld) : (s.evt f).pwr = s.pwr := by unfold State.evt; split <;> first | exact (with_regs_pwr _ _).trans (with_regs_pwr s _) | rfl
@[simp] theorem evt_sec (s : State) (f : Fld) : (s.evt f).sec = s.sec := by unfold State.evt; split <;> first | exact (with_regs_sec _ _).trans (with_regs_sec s _) | rfl
@[simp] theorem evt_fus (s : State) (f : Fld) : (s.evt f).fus = s.fus := by unfold State.evt; split <;> first | exact (with_regs_fus _ _).trans (with_regs_fus s _) | rfl
@[simp] theorem evt_upd (s : State) (f : Fld) : (s.evt f).upd = s.upd := by unfold State.evt; split <;> first | exact (with_regs_upd _ _).trans (with_regs_upd s _) | rfl
@[simp] theorem evt_readData (s : State) (f : Fld) : (s.evt f).readData = s.readData := by unfold State.evt; split <;> first | exact (with_regs_readData _ _).trans (with_regs_readData s _) | rfl
@[simp] theorem evt_fresh (s : State) (f : Fld) : (s.evt f).fresh = s.fresh := by unfold State.evt; split <;> first | exact (with_regs_fresh _ _).trans (with_regs_fresh s _) | rfl
@[simp] theorem evt_pending (s : State) (f : Fld) : (s.evt f).pending = s.pending := by unfold State.evt; split <;> first | exact (with_regs_pending _ _).trans (with_regs_pending s _) | rfl
@[simp] theorem evt_byte (s : State) (f : Fld) (a' : Nat) : (s.evt f).byte a' = s.byte a' := by simp [State.byte]

/-! ### setShadow -/

@[simp] theorem setShadow_regs (s : State) (a : Nat) (w : Word) : (s.setShadow a w).regs = s.regs := with_shadow_regs s _
@[simp] theorem setShadow_pend (s : State) (a : Nat) (w : Word) : (s.setShadow a w).pend = s.pend := with_shadow_pend s _
@[simp] theorem setShadow_pendPages (s : State) (a : Nat) (w : Word) : (s.setShadow a w).pendPages = s.pendPages := with_shadow_pendPages s _
@[simp] theorem setShadow_mem (s : State) (a : Nat) (w : Word) : (s.setShadow a w).mem = s.mem := with_shadow_mem s _
@[simp] theorem setShadow_latches (s : State) (a : Nat) (w : Word) : (s.setShadow a w).latches = s.latches := with_shadow_latches s _
@[simp] theorem setShadow_now (s : State) (a : Nat) (w : Word) : (s.setShadow a w).now = s.now := with_shadow_now s _
@[simp] theorem setShadow_ohSub (s : State) (a : Nat) (w : Word) : (s.setShadow a w).ohSub = s.ohSub := with_shadow_ohSub s _
@[simp] theorem setShadow_lt (s : State) (a : Nat) (w : Word) : (s.setShadow a w).lt = s.lt := with_shadow_lt s _
@[simp] theorem setShadow_slew (s : State) (a : Nat) (w : Word) : (s.setShadow a w).slew = s.slew := with_shadow_slew s _
@[simp] theorem setShadow_ltApplied (s : State) (a : Nat) (w : Word) : (s.setShadow a w).ltApplied = s.ltApplied := with_shadow_ltApplied s _
@[simp] theorem setShadow_flt (s : State) (a : Nat) (w : Word) : (s.setShadow a w).flt = s.flt := with_shadow_flt s _
@[simp] theorem setShadow_evr (s : State) (a : Nat) (w : Word) : (s.setShadow a w).evr = s.evr := with_shadow_evr s _
@[simp] theorem setShadow_saf (s : State) (a : Nat) (w : Word) : (s.setShadow a w).saf = s.saf := with_shadow_saf s _
@[simp] theorem setShadow_rst (s : State) (a : Nat) (w : Word) : (s.setShadow a w).rst = s.rst := with_shadow_rst s _
@[simp] theorem setShadow_quartz (s : State) (a : Nat) (w : Word) : (s.setShadow a w).quartz = s.quartz := with_shadow_quartz s _
@[simp] theorem setShadow_lnkA (s : State) (a : Nat) (w : Word) : (s.setShadow a w).lnkA = s.lnkA := with_shadow_lnkA s _
@[simp] theorem setShadow_lnkB (s : State) (a : Nat) (w : Word) : (s.setShadow a w).lnkB = s.lnkB := with_shadow_lnkB s _
@[simp] theorem setShadow_csf (s : State) (a : Nat) (w : Word) : (s.setShadow a w).csf = s.csf := with_shadow_csf s _
@[simp] theorem setShadow_side (s : State) (a : Nat) (w : Word) : (s.setShadow a w).side = s.side := with_shadow_side s _
@[simp] theorem setShadow_spi (s : State) (a : Nat) (w : Word) : (s.setShadow a w).spi = s.spi := with_shadow_spi s _
@[simp] theorem setShadow_cmd (s : State) (a : Nat) (w : Word) : (s.setShadow a w).cmd = s.cmd := with_shadow_cmd s _
@[simp] theorem setShadow_cmp (s : State) (a : Nat) (w : Word) : (s.setShadow a w).cmp = s.cmp := with_shadow_cmp s _
@[simp] theorem setShadow_glare (s : State) (a : Nat) (w : Word) : (s.setShadow a w).glare = s.glare := with_shadow_glare s _
@[simp] theorem setShadow_lanes (s : State) (a : Nat) (w : Word) : (s.setShadow a w).lanes = s.lanes := with_shadow_lanes s _
@[simp] theorem setShadow_tln (s : State) (a : Nat) (w : Word) : (s.setShadow a w).tln = s.tln := with_shadow_tln s _
@[simp] theorem setShadow_gov (s : State) (a : Nat) (w : Word) : (s.setShadow a w).gov = s.gov := with_shadow_gov s _
@[simp] theorem setShadow_cal (s : State) (a : Nat) (w : Word) : (s.setShadow a w).cal = s.cal := with_shadow_cal s _
@[simp] theorem setShadow_flx (s : State) (a : Nat) (w : Word) : (s.setShadow a w).flx = s.flx := with_shadow_flx s _
@[simp] theorem setShadow_seg (s : State) (a : Nat) (w : Word) : (s.setShadow a w).seg = s.seg := with_shadow_seg s _
@[simp] theorem setShadow_thm (s : State) (a : Nat) (w : Word) : (s.setShadow a w).thm = s.thm := with_shadow_thm s _
@[simp] theorem setShadow_pwr (s : State) (a : Nat) (w : Word) : (s.setShadow a w).pwr = s.pwr := with_shadow_pwr s _
@[simp] theorem setShadow_sec (s : State) (a : Nat) (w : Word) : (s.setShadow a w).sec = s.sec := with_shadow_sec s _
@[simp] theorem setShadow_fus (s : State) (a : Nat) (w : Word) : (s.setShadow a w).fus = s.fus := with_shadow_fus s _
@[simp] theorem setShadow_upd (s : State) (a : Nat) (w : Word) : (s.setShadow a w).upd = s.upd := with_shadow_upd s _
@[simp] theorem setShadow_readData (s : State) (a : Nat) (w : Word) : (s.setShadow a w).readData = s.readData := with_shadow_readData s _
@[simp] theorem setShadow_fresh (s : State) (a : Nat) (w : Word) : (s.setShadow a w).fresh = s.fresh := with_shadow_fresh s _
@[simp] theorem setShadow_pending (s : State) (a : Nat) (w : Word) : (s.setShadow a w).pending = s.pending := with_shadow_pending s _
@[simp] theorem setShadow_word (s : State) (a : Nat) (w : Word) (a' : Nat) : (s.setShadow a w).word a' = s.word a' := by simp [State.word]
@[simp] theorem setShadow_g (s : State) (a : Nat) (w : Word) (x : Fld) : (s.setShadow a w).g x = s.g x := by simp [State.g]
@[simp] theorem setShadow_on (s : State) (a : Nat) (w : Word) (x : Fld) : (s.setShadow a w).on x = s.on x := by simp [State.on]
@[simp] theorem setShadow_byte (s : State) (a : Nat) (w : Word) (a' : Nat) : (s.setShadow a w).byte a' = s.byte a' := by simp [State.byte]

/-! ### setByte -/

@[simp] theorem setByte_regs (s : State) (a : Nat) (b : Byte) : (s.setByte a b).regs = s.regs := with_mem_regs s _
@[simp] theorem setByte_shadow (s : State) (a : Nat) (b : Byte) : (s.setByte a b).shadow = s.shadow := with_mem_shadow s _
@[simp] theorem setByte_pend (s : State) (a : Nat) (b : Byte) : (s.setByte a b).pend = s.pend := with_mem_pend s _
@[simp] theorem setByte_pendPages (s : State) (a : Nat) (b : Byte) : (s.setByte a b).pendPages = s.pendPages := with_mem_pendPages s _
@[simp] theorem setByte_latches (s : State) (a : Nat) (b : Byte) : (s.setByte a b).latches = s.latches := with_mem_latches s _
@[simp] theorem setByte_now (s : State) (a : Nat) (b : Byte) : (s.setByte a b).now = s.now := with_mem_now s _
@[simp] theorem setByte_ohSub (s : State) (a : Nat) (b : Byte) : (s.setByte a b).ohSub = s.ohSub := with_mem_ohSub s _
@[simp] theorem setByte_lt (s : State) (a : Nat) (b : Byte) : (s.setByte a b).lt = s.lt := with_mem_lt s _
@[simp] theorem setByte_slew (s : State) (a : Nat) (b : Byte) : (s.setByte a b).slew = s.slew := with_mem_slew s _
@[simp] theorem setByte_ltApplied (s : State) (a : Nat) (b : Byte) : (s.setByte a b).ltApplied = s.ltApplied := with_mem_ltApplied s _
@[simp] theorem setByte_flt (s : State) (a : Nat) (b : Byte) : (s.setByte a b).flt = s.flt := with_mem_flt s _
@[simp] theorem setByte_evr (s : State) (a : Nat) (b : Byte) : (s.setByte a b).evr = s.evr := with_mem_evr s _
@[simp] theorem setByte_saf (s : State) (a : Nat) (b : Byte) : (s.setByte a b).saf = s.saf := with_mem_saf s _
@[simp] theorem setByte_rst (s : State) (a : Nat) (b : Byte) : (s.setByte a b).rst = s.rst := with_mem_rst s _
@[simp] theorem setByte_quartz (s : State) (a : Nat) (b : Byte) : (s.setByte a b).quartz = s.quartz := with_mem_quartz s _
@[simp] theorem setByte_lnkA (s : State) (a : Nat) (b : Byte) : (s.setByte a b).lnkA = s.lnkA := with_mem_lnkA s _
@[simp] theorem setByte_lnkB (s : State) (a : Nat) (b : Byte) : (s.setByte a b).lnkB = s.lnkB := with_mem_lnkB s _
@[simp] theorem setByte_csf (s : State) (a : Nat) (b : Byte) : (s.setByte a b).csf = s.csf := with_mem_csf s _
@[simp] theorem setByte_side (s : State) (a : Nat) (b : Byte) : (s.setByte a b).side = s.side := with_mem_side s _
@[simp] theorem setByte_spi (s : State) (a : Nat) (b : Byte) : (s.setByte a b).spi = s.spi := with_mem_spi s _
@[simp] theorem setByte_cmd (s : State) (a : Nat) (b : Byte) : (s.setByte a b).cmd = s.cmd := with_mem_cmd s _
@[simp] theorem setByte_cmp (s : State) (a : Nat) (b : Byte) : (s.setByte a b).cmp = s.cmp := with_mem_cmp s _
@[simp] theorem setByte_glare (s : State) (a : Nat) (b : Byte) : (s.setByte a b).glare = s.glare := with_mem_glare s _
@[simp] theorem setByte_lanes (s : State) (a : Nat) (b : Byte) : (s.setByte a b).lanes = s.lanes := with_mem_lanes s _
@[simp] theorem setByte_tln (s : State) (a : Nat) (b : Byte) : (s.setByte a b).tln = s.tln := with_mem_tln s _
@[simp] theorem setByte_gov (s : State) (a : Nat) (b : Byte) : (s.setByte a b).gov = s.gov := with_mem_gov s _
@[simp] theorem setByte_cal (s : State) (a : Nat) (b : Byte) : (s.setByte a b).cal = s.cal := with_mem_cal s _
@[simp] theorem setByte_flx (s : State) (a : Nat) (b : Byte) : (s.setByte a b).flx = s.flx := with_mem_flx s _
@[simp] theorem setByte_seg (s : State) (a : Nat) (b : Byte) : (s.setByte a b).seg = s.seg := with_mem_seg s _
@[simp] theorem setByte_thm (s : State) (a : Nat) (b : Byte) : (s.setByte a b).thm = s.thm := with_mem_thm s _
@[simp] theorem setByte_pwr (s : State) (a : Nat) (b : Byte) : (s.setByte a b).pwr = s.pwr := with_mem_pwr s _
@[simp] theorem setByte_sec (s : State) (a : Nat) (b : Byte) : (s.setByte a b).sec = s.sec := with_mem_sec s _
@[simp] theorem setByte_fus (s : State) (a : Nat) (b : Byte) : (s.setByte a b).fus = s.fus := with_mem_fus s _
@[simp] theorem setByte_upd (s : State) (a : Nat) (b : Byte) : (s.setByte a b).upd = s.upd := with_mem_upd s _
@[simp] theorem setByte_readData (s : State) (a : Nat) (b : Byte) : (s.setByte a b).readData = s.readData := with_mem_readData s _
@[simp] theorem setByte_fresh (s : State) (a : Nat) (b : Byte) : (s.setByte a b).fresh = s.fresh := with_mem_fresh s _
@[simp] theorem setByte_pending (s : State) (a : Nat) (b : Byte) : (s.setByte a b).pending = s.pending := with_mem_pending s _
@[simp] theorem setByte_word (s : State) (a : Nat) (b : Byte) (a' : Nat) : (s.setByte a b).word a' = s.word a' := by simp [State.word]
@[simp] theorem setByte_g (s : State) (a : Nat) (b : Byte) (x : Fld) : (s.setByte a b).g x = s.g x := by simp [State.g]
@[simp] theorem setByte_on (s : State) (a : Nat) (b : Byte) (x : Fld) : (s.setByte a b).on x = s.on x := by simp [State.on]

/-! ### modLane -/

@[simp] theorem modLane_regs (s : State) (n : Nat) (f : Lane → Lane) : (s.modLane n f).regs = s.regs := with_lanes_regs s _
@[simp] theorem modLane_shadow (s : State) (n : Nat) (f : Lane → Lane) : (s.modLane n f).shadow = s.shadow := with_lanes_shadow s _
@[simp] theorem modLane_pend (s : State) (n : Nat) (f : Lane → Lane) : (s.modLane n f).pend = s.pend := with_lanes_pend s _
@[simp] theorem modLane_pendPages (s : State) (n : Nat) (f : Lane → Lane) : (s.modLane n f).pendPages = s.pendPages := with_lanes_pendPages s _
@[simp] theorem modLane_mem (s : State) (n : Nat) (f : Lane → Lane) : (s.modLane n f).mem = s.mem := with_lanes_mem s _
@[simp] theorem modLane_latches (s : State) (n : Nat) (f : Lane → Lane) : (s.modLane n f).latches = s.latches := with_lanes_latches s _
@[simp] theorem modLane_now (s : State) (n : Nat) (f : Lane → Lane) : (s.modLane n f).now = s.now := with_lanes_now s _
@[simp] theorem modLane_ohSub (s : State) (n : Nat) (f : Lane → Lane) : (s.modLane n f).ohSub = s.ohSub := with_lanes_ohSub s _
@[simp] theorem modLane_lt (s : State) (n : Nat) (f : Lane → Lane) : (s.modLane n f).lt = s.lt := with_lanes_lt s _
@[simp] theorem modLane_slew (s : State) (n : Nat) (f : Lane → Lane) : (s.modLane n f).slew = s.slew := with_lanes_slew s _
@[simp] theorem modLane_ltApplied (s : State) (n : Nat) (f : Lane → Lane) : (s.modLane n f).ltApplied = s.ltApplied := with_lanes_ltApplied s _
@[simp] theorem modLane_flt (s : State) (n : Nat) (f : Lane → Lane) : (s.modLane n f).flt = s.flt := with_lanes_flt s _
@[simp] theorem modLane_evr (s : State) (n : Nat) (f : Lane → Lane) : (s.modLane n f).evr = s.evr := with_lanes_evr s _
@[simp] theorem modLane_saf (s : State) (n : Nat) (f : Lane → Lane) : (s.modLane n f).saf = s.saf := with_lanes_saf s _
@[simp] theorem modLane_rst (s : State) (n : Nat) (f : Lane → Lane) : (s.modLane n f).rst = s.rst := with_lanes_rst s _
@[simp] theorem modLane_quartz (s : State) (n : Nat) (f : Lane → Lane) : (s.modLane n f).quartz = s.quartz := with_lanes_quartz s _
@[simp] theorem modLane_lnkA (s : State) (n : Nat) (f : Lane → Lane) : (s.modLane n f).lnkA = s.lnkA := with_lanes_lnkA s _
@[simp] theorem modLane_lnkB (s : State) (n : Nat) (f : Lane → Lane) : (s.modLane n f).lnkB = s.lnkB := with_lanes_lnkB s _
@[simp] theorem modLane_csf (s : State) (n : Nat) (f : Lane → Lane) : (s.modLane n f).csf = s.csf := with_lanes_csf s _
@[simp] theorem modLane_side (s : State) (n : Nat) (f : Lane → Lane) : (s.modLane n f).side = s.side := with_lanes_side s _
@[simp] theorem modLane_spi (s : State) (n : Nat) (f : Lane → Lane) : (s.modLane n f).spi = s.spi := with_lanes_spi s _
@[simp] theorem modLane_cmd (s : State) (n : Nat) (f : Lane → Lane) : (s.modLane n f).cmd = s.cmd := with_lanes_cmd s _
@[simp] theorem modLane_cmp (s : State) (n : Nat) (f : Lane → Lane) : (s.modLane n f).cmp = s.cmp := with_lanes_cmp s _
@[simp] theorem modLane_glare (s : State) (n : Nat) (f : Lane → Lane) : (s.modLane n f).glare = s.glare := with_lanes_glare s _
@[simp] theorem modLane_tln (s : State) (n : Nat) (f : Lane → Lane) : (s.modLane n f).tln = s.tln := with_lanes_tln s _
@[simp] theorem modLane_gov (s : State) (n : Nat) (f : Lane → Lane) : (s.modLane n f).gov = s.gov := with_lanes_gov s _
@[simp] theorem modLane_cal (s : State) (n : Nat) (f : Lane → Lane) : (s.modLane n f).cal = s.cal := with_lanes_cal s _
@[simp] theorem modLane_flx (s : State) (n : Nat) (f : Lane → Lane) : (s.modLane n f).flx = s.flx := with_lanes_flx s _
@[simp] theorem modLane_seg (s : State) (n : Nat) (f : Lane → Lane) : (s.modLane n f).seg = s.seg := with_lanes_seg s _
@[simp] theorem modLane_thm (s : State) (n : Nat) (f : Lane → Lane) : (s.modLane n f).thm = s.thm := with_lanes_thm s _
@[simp] theorem modLane_pwr (s : State) (n : Nat) (f : Lane → Lane) : (s.modLane n f).pwr = s.pwr := with_lanes_pwr s _
@[simp] theorem modLane_sec (s : State) (n : Nat) (f : Lane → Lane) : (s.modLane n f).sec = s.sec := with_lanes_sec s _
@[simp] theorem modLane_fus (s : State) (n : Nat) (f : Lane → Lane) : (s.modLane n f).fus = s.fus := with_lanes_fus s _
@[simp] theorem modLane_upd (s : State) (n : Nat) (f : Lane → Lane) : (s.modLane n f).upd = s.upd := with_lanes_upd s _
@[simp] theorem modLane_readData (s : State) (n : Nat) (f : Lane → Lane) : (s.modLane n f).readData = s.readData := with_lanes_readData s _
@[simp] theorem modLane_fresh (s : State) (n : Nat) (f : Lane → Lane) : (s.modLane n f).fresh = s.fresh := with_lanes_fresh s _
@[simp] theorem modLane_pending (s : State) (n : Nat) (f : Lane → Lane) : (s.modLane n f).pending = s.pending := with_lanes_pending s _
@[simp] theorem modLane_word (s : State) (n : Nat) (f : Lane → Lane) (a' : Nat) : (s.modLane n f).word a' = s.word a' := by simp [State.word]
@[simp] theorem modLane_g (s : State) (n : Nat) (f : Lane → Lane) (x : Fld) : (s.modLane n f).g x = s.g x := by simp [State.g]
@[simp] theorem modLane_on (s : State) (n : Nat) (f : Lane → Lane) (x : Fld) : (s.modLane n f).on x = s.on x := by simp [State.on]
@[simp] theorem modLane_byte (s : State) (n : Nat) (f : Lane → Lane) (a' : Nat) : (s.modLane n f).byte a' = s.byte a' := by simp [State.byte]

/-! ### modLink -/

@[simp] theorem modLink_regs (s : State) (l : Nat) (f : Link → Link) : (s.modLink l f).regs = s.regs := by unfold State.modLink; split <;> first | exact with_lnkA_regs s _ | exact with_lnkB_regs s _
@[simp] theorem modLink_shadow (s : State) (l : Nat) (f : Link → Link) : (s.modLink l f).shadow = s.shadow := by unfold State.modLink; split <;> first | exact with_lnkA_shadow s _ | exact with_lnkB_shadow s _
@[simp] theorem modLink_pend (s : State) (l : Nat) (f : Link → Link) : (s.modLink l f).pend = s.pend := by unfold State.modLink; split <;> first | exact with_lnkA_pend s _ | exact with_lnkB_pend s _
@[simp] theorem modLink_pendPages (s : State) (l : Nat) (f : Link → Link) : (s.modLink l f).pendPages = s.pendPages := by unfold State.modLink; split <;> first | exact with_lnkA_pendPages s _ | exact with_lnkB_pendPages s _
@[simp] theorem modLink_mem (s : State) (l : Nat) (f : Link → Link) : (s.modLink l f).mem = s.mem := by unfold State.modLink; split <;> first | exact with_lnkA_mem s _ | exact with_lnkB_mem s _
@[simp] theorem modLink_latches (s : State) (l : Nat) (f : Link → Link) : (s.modLink l f).latches = s.latches := by unfold State.modLink; split <;> first | exact with_lnkA_latches s _ | exact with_lnkB_latches s _
@[simp] theorem modLink_now (s : State) (l : Nat) (f : Link → Link) : (s.modLink l f).now = s.now := by unfold State.modLink; split <;> first | exact with_lnkA_now s _ | exact with_lnkB_now s _
@[simp] theorem modLink_ohSub (s : State) (l : Nat) (f : Link → Link) : (s.modLink l f).ohSub = s.ohSub := by unfold State.modLink; split <;> first | exact with_lnkA_ohSub s _ | exact with_lnkB_ohSub s _
@[simp] theorem modLink_lt (s : State) (l : Nat) (f : Link → Link) : (s.modLink l f).lt = s.lt := by unfold State.modLink; split <;> first | exact with_lnkA_lt s _ | exact with_lnkB_lt s _
@[simp] theorem modLink_slew (s : State) (l : Nat) (f : Link → Link) : (s.modLink l f).slew = s.slew := by unfold State.modLink; split <;> first | exact with_lnkA_slew s _ | exact with_lnkB_slew s _
@[simp] theorem modLink_ltApplied (s : State) (l : Nat) (f : Link → Link) : (s.modLink l f).ltApplied = s.ltApplied := by unfold State.modLink; split <;> first | exact with_lnkA_ltApplied s _ | exact with_lnkB_ltApplied s _
@[simp] theorem modLink_flt (s : State) (l : Nat) (f : Link → Link) : (s.modLink l f).flt = s.flt := by unfold State.modLink; split <;> first | exact with_lnkA_flt s _ | exact with_lnkB_flt s _
@[simp] theorem modLink_evr (s : State) (l : Nat) (f : Link → Link) : (s.modLink l f).evr = s.evr := by unfold State.modLink; split <;> first | exact with_lnkA_evr s _ | exact with_lnkB_evr s _
@[simp] theorem modLink_saf (s : State) (l : Nat) (f : Link → Link) : (s.modLink l f).saf = s.saf := by unfold State.modLink; split <;> first | exact with_lnkA_saf s _ | exact with_lnkB_saf s _
@[simp] theorem modLink_rst (s : State) (l : Nat) (f : Link → Link) : (s.modLink l f).rst = s.rst := by unfold State.modLink; split <;> first | exact with_lnkA_rst s _ | exact with_lnkB_rst s _
@[simp] theorem modLink_quartz (s : State) (l : Nat) (f : Link → Link) : (s.modLink l f).quartz = s.quartz := by unfold State.modLink; split <;> first | exact with_lnkA_quartz s _ | exact with_lnkB_quartz s _
@[simp] theorem modLink_csf (s : State) (l : Nat) (f : Link → Link) : (s.modLink l f).csf = s.csf := by unfold State.modLink; split <;> first | exact with_lnkA_csf s _ | exact with_lnkB_csf s _
@[simp] theorem modLink_side (s : State) (l : Nat) (f : Link → Link) : (s.modLink l f).side = s.side := by unfold State.modLink; split <;> first | exact with_lnkA_side s _ | exact with_lnkB_side s _
@[simp] theorem modLink_spi (s : State) (l : Nat) (f : Link → Link) : (s.modLink l f).spi = s.spi := by unfold State.modLink; split <;> first | exact with_lnkA_spi s _ | exact with_lnkB_spi s _
@[simp] theorem modLink_cmd (s : State) (l : Nat) (f : Link → Link) : (s.modLink l f).cmd = s.cmd := by unfold State.modLink; split <;> first | exact with_lnkA_cmd s _ | exact with_lnkB_cmd s _
@[simp] theorem modLink_cmp (s : State) (l : Nat) (f : Link → Link) : (s.modLink l f).cmp = s.cmp := by unfold State.modLink; split <;> first | exact with_lnkA_cmp s _ | exact with_lnkB_cmp s _
@[simp] theorem modLink_glare (s : State) (l : Nat) (f : Link → Link) : (s.modLink l f).glare = s.glare := by unfold State.modLink; split <;> first | exact with_lnkA_glare s _ | exact with_lnkB_glare s _
@[simp] theorem modLink_lanes (s : State) (l : Nat) (f : Link → Link) : (s.modLink l f).lanes = s.lanes := by unfold State.modLink; split <;> first | exact with_lnkA_lanes s _ | exact with_lnkB_lanes s _
@[simp] theorem modLink_tln (s : State) (l : Nat) (f : Link → Link) : (s.modLink l f).tln = s.tln := by unfold State.modLink; split <;> first | exact with_lnkA_tln s _ | exact with_lnkB_tln s _
@[simp] theorem modLink_gov (s : State) (l : Nat) (f : Link → Link) : (s.modLink l f).gov = s.gov := by unfold State.modLink; split <;> first | exact with_lnkA_gov s _ | exact with_lnkB_gov s _
@[simp] theorem modLink_cal (s : State) (l : Nat) (f : Link → Link) : (s.modLink l f).cal = s.cal := by unfold State.modLink; split <;> first | exact with_lnkA_cal s _ | exact with_lnkB_cal s _
@[simp] theorem modLink_flx (s : State) (l : Nat) (f : Link → Link) : (s.modLink l f).flx = s.flx := by unfold State.modLink; split <;> first | exact with_lnkA_flx s _ | exact with_lnkB_flx s _
@[simp] theorem modLink_seg (s : State) (l : Nat) (f : Link → Link) : (s.modLink l f).seg = s.seg := by unfold State.modLink; split <;> first | exact with_lnkA_seg s _ | exact with_lnkB_seg s _
@[simp] theorem modLink_thm (s : State) (l : Nat) (f : Link → Link) : (s.modLink l f).thm = s.thm := by unfold State.modLink; split <;> first | exact with_lnkA_thm s _ | exact with_lnkB_thm s _
@[simp] theorem modLink_pwr (s : State) (l : Nat) (f : Link → Link) : (s.modLink l f).pwr = s.pwr := by unfold State.modLink; split <;> first | exact with_lnkA_pwr s _ | exact with_lnkB_pwr s _
@[simp] theorem modLink_sec (s : State) (l : Nat) (f : Link → Link) : (s.modLink l f).sec = s.sec := by unfold State.modLink; split <;> first | exact with_lnkA_sec s _ | exact with_lnkB_sec s _
@[simp] theorem modLink_fus (s : State) (l : Nat) (f : Link → Link) : (s.modLink l f).fus = s.fus := by unfold State.modLink; split <;> first | exact with_lnkA_fus s _ | exact with_lnkB_fus s _
@[simp] theorem modLink_upd (s : State) (l : Nat) (f : Link → Link) : (s.modLink l f).upd = s.upd := by unfold State.modLink; split <;> first | exact with_lnkA_upd s _ | exact with_lnkB_upd s _
@[simp] theorem modLink_readData (s : State) (l : Nat) (f : Link → Link) : (s.modLink l f).readData = s.readData := by unfold State.modLink; split <;> first | exact with_lnkA_readData s _ | exact with_lnkB_readData s _
@[simp] theorem modLink_fresh (s : State) (l : Nat) (f : Link → Link) : (s.modLink l f).fresh = s.fresh := by unfold State.modLink; split <;> first | exact with_lnkA_fresh s _ | exact with_lnkB_fresh s _
@[simp] theorem modLink_pending (s : State) (l : Nat) (f : Link → Link) : (s.modLink l f).pending = s.pending := by unfold State.modLink; split <;> first | exact with_lnkA_pending s _ | exact with_lnkB_pending s _
@[simp] theorem modLink_word (s : State) (l : Nat) (f : Link → Link) (a' : Nat) : (s.modLink l f).word a' = s.word a' := by simp [State.word]
@[simp] theorem modLink_g (s : State) (l : Nat) (f : Link → Link) (x : Fld) : (s.modLink l f).g x = s.g x := by simp [State.g]
@[simp] theorem modLink_on (s : State) (l : Nat) (f : Link → Link) (x : Fld) : (s.modLink l f).on x = s.on x := by simp [State.on]
@[simp] theorem modLink_byte (s : State) (l : Nat) (f : Link → Link) (a' : Nat) : (s.modLink l f).byte a' = s.byte a' := by simp [State.byte]

/-! ### setRing -/

@[simp] theorem setRing_regs (s : State) (c : Nat) (l : List Packet) : (s.setRing c l).regs = s.regs := with_cmd_regs s _
@[simp] theorem setRing_shadow (s : State) (c : Nat) (l : List Packet) : (s.setRing c l).shadow = s.shadow := with_cmd_shadow s _
@[simp] theorem setRing_pend (s : State) (c : Nat) (l : List Packet) : (s.setRing c l).pend = s.pend := with_cmd_pend s _
@[simp] theorem setRing_pendPages (s : State) (c : Nat) (l : List Packet) : (s.setRing c l).pendPages = s.pendPages := with_cmd_pendPages s _
@[simp] theorem setRing_mem (s : State) (c : Nat) (l : List Packet) : (s.setRing c l).mem = s.mem := with_cmd_mem s _
@[simp] theorem setRing_latches (s : State) (c : Nat) (l : List Packet) : (s.setRing c l).latches = s.latches := with_cmd_latches s _
@[simp] theorem setRing_now (s : State) (c : Nat) (l : List Packet) : (s.setRing c l).now = s.now := with_cmd_now s _
@[simp] theorem setRing_ohSub (s : State) (c : Nat) (l : List Packet) : (s.setRing c l).ohSub = s.ohSub := with_cmd_ohSub s _
@[simp] theorem setRing_lt (s : State) (c : Nat) (l : List Packet) : (s.setRing c l).lt = s.lt := with_cmd_lt s _
@[simp] theorem setRing_slew (s : State) (c : Nat) (l : List Packet) : (s.setRing c l).slew = s.slew := with_cmd_slew s _
@[simp] theorem setRing_ltApplied (s : State) (c : Nat) (l : List Packet) : (s.setRing c l).ltApplied = s.ltApplied := with_cmd_ltApplied s _
@[simp] theorem setRing_flt (s : State) (c : Nat) (l : List Packet) : (s.setRing c l).flt = s.flt := with_cmd_flt s _
@[simp] theorem setRing_evr (s : State) (c : Nat) (l : List Packet) : (s.setRing c l).evr = s.evr := with_cmd_evr s _
@[simp] theorem setRing_saf (s : State) (c : Nat) (l : List Packet) : (s.setRing c l).saf = s.saf := with_cmd_saf s _
@[simp] theorem setRing_rst (s : State) (c : Nat) (l : List Packet) : (s.setRing c l).rst = s.rst := with_cmd_rst s _
@[simp] theorem setRing_quartz (s : State) (c : Nat) (l : List Packet) : (s.setRing c l).quartz = s.quartz := with_cmd_quartz s _
@[simp] theorem setRing_lnkA (s : State) (c : Nat) (l : List Packet) : (s.setRing c l).lnkA = s.lnkA := with_cmd_lnkA s _
@[simp] theorem setRing_lnkB (s : State) (c : Nat) (l : List Packet) : (s.setRing c l).lnkB = s.lnkB := with_cmd_lnkB s _
@[simp] theorem setRing_csf (s : State) (c : Nat) (l : List Packet) : (s.setRing c l).csf = s.csf := with_cmd_csf s _
@[simp] theorem setRing_side (s : State) (c : Nat) (l : List Packet) : (s.setRing c l).side = s.side := with_cmd_side s _
@[simp] theorem setRing_spi (s : State) (c : Nat) (l : List Packet) : (s.setRing c l).spi = s.spi := with_cmd_spi s _
@[simp] theorem setRing_cmp (s : State) (c : Nat) (l : List Packet) : (s.setRing c l).cmp = s.cmp := with_cmd_cmp s _
@[simp] theorem setRing_glare (s : State) (c : Nat) (l : List Packet) : (s.setRing c l).glare = s.glare := with_cmd_glare s _
@[simp] theorem setRing_lanes (s : State) (c : Nat) (l : List Packet) : (s.setRing c l).lanes = s.lanes := with_cmd_lanes s _
@[simp] theorem setRing_tln (s : State) (c : Nat) (l : List Packet) : (s.setRing c l).tln = s.tln := with_cmd_tln s _
@[simp] theorem setRing_gov (s : State) (c : Nat) (l : List Packet) : (s.setRing c l).gov = s.gov := with_cmd_gov s _
@[simp] theorem setRing_cal (s : State) (c : Nat) (l : List Packet) : (s.setRing c l).cal = s.cal := with_cmd_cal s _
@[simp] theorem setRing_flx (s : State) (c : Nat) (l : List Packet) : (s.setRing c l).flx = s.flx := with_cmd_flx s _
@[simp] theorem setRing_seg (s : State) (c : Nat) (l : List Packet) : (s.setRing c l).seg = s.seg := with_cmd_seg s _
@[simp] theorem setRing_thm (s : State) (c : Nat) (l : List Packet) : (s.setRing c l).thm = s.thm := with_cmd_thm s _
@[simp] theorem setRing_pwr (s : State) (c : Nat) (l : List Packet) : (s.setRing c l).pwr = s.pwr := with_cmd_pwr s _
@[simp] theorem setRing_sec (s : State) (c : Nat) (l : List Packet) : (s.setRing c l).sec = s.sec := with_cmd_sec s _
@[simp] theorem setRing_fus (s : State) (c : Nat) (l : List Packet) : (s.setRing c l).fus = s.fus := with_cmd_fus s _
@[simp] theorem setRing_upd (s : State) (c : Nat) (l : List Packet) : (s.setRing c l).upd = s.upd := with_cmd_upd s _
@[simp] theorem setRing_readData (s : State) (c : Nat) (l : List Packet) : (s.setRing c l).readData = s.readData := with_cmd_readData s _
@[simp] theorem setRing_fresh (s : State) (c : Nat) (l : List Packet) : (s.setRing c l).fresh = s.fresh := with_cmd_fresh s _
@[simp] theorem setRing_pending (s : State) (c : Nat) (l : List Packet) : (s.setRing c l).pending = s.pending := with_cmd_pending s _
@[simp] theorem setRing_word (s : State) (c : Nat) (l : List Packet) (a' : Nat) : (s.setRing c l).word a' = s.word a' := by simp [State.word]
@[simp] theorem setRing_g (s : State) (c : Nat) (l : List Packet) (x : Fld) : (s.setRing c l).g x = s.g x := by simp [State.g]
@[simp] theorem setRing_on (s : State) (c : Nat) (l : List Packet) (x : Fld) : (s.setRing c l).on x = s.on x := by simp [State.on]
@[simp] theorem setRing_byte (s : State) (c : Nat) (l : List Packet) (a' : Nat) : (s.setRing c l).byte a' = s.byte a' := by simp [State.byte]

/-! ### modCal -/

@[simp] theorem modCal_regs (s : State) (t : Nat) (f : CalTile → CalTile) : (s.modCal t f).regs = s.regs := with_cal_regs s _
@[simp] theorem modCal_shadow (s : State) (t : Nat) (f : CalTile → CalTile) : (s.modCal t f).shadow = s.shadow := with_cal_shadow s _
@[simp] theorem modCal_pend (s : State) (t : Nat) (f : CalTile → CalTile) : (s.modCal t f).pend = s.pend := with_cal_pend s _
@[simp] theorem modCal_pendPages (s : State) (t : Nat) (f : CalTile → CalTile) : (s.modCal t f).pendPages = s.pendPages := with_cal_pendPages s _
@[simp] theorem modCal_mem (s : State) (t : Nat) (f : CalTile → CalTile) : (s.modCal t f).mem = s.mem := with_cal_mem s _
@[simp] theorem modCal_latches (s : State) (t : Nat) (f : CalTile → CalTile) : (s.modCal t f).latches = s.latches := with_cal_latches s _
@[simp] theorem modCal_now (s : State) (t : Nat) (f : CalTile → CalTile) : (s.modCal t f).now = s.now := with_cal_now s _
@[simp] theorem modCal_ohSub (s : State) (t : Nat) (f : CalTile → CalTile) : (s.modCal t f).ohSub = s.ohSub := with_cal_ohSub s _
@[simp] theorem modCal_lt (s : State) (t : Nat) (f : CalTile → CalTile) : (s.modCal t f).lt = s.lt := with_cal_lt s _
@[simp] theorem modCal_slew (s : State) (t : Nat) (f : CalTile → CalTile) : (s.modCal t f).slew = s.slew := with_cal_slew s _
@[simp] theorem modCal_ltApplied (s : State) (t : Nat) (f : CalTile → CalTile) : (s.modCal t f).ltApplied = s.ltApplied := with_cal_ltApplied s _
@[simp] theorem modCal_flt (s : State) (t : Nat) (f : CalTile → CalTile) : (s.modCal t f).flt = s.flt := with_cal_flt s _
@[simp] theorem modCal_evr (s : State) (t : Nat) (f : CalTile → CalTile) : (s.modCal t f).evr = s.evr := with_cal_evr s _
@[simp] theorem modCal_saf (s : State) (t : Nat) (f : CalTile → CalTile) : (s.modCal t f).saf = s.saf := with_cal_saf s _
@[simp] theorem modCal_rst (s : State) (t : Nat) (f : CalTile → CalTile) : (s.modCal t f).rst = s.rst := with_cal_rst s _
@[simp] theorem modCal_quartz (s : State) (t : Nat) (f : CalTile → CalTile) : (s.modCal t f).quartz = s.quartz := with_cal_quartz s _
@[simp] theorem modCal_lnkA (s : State) (t : Nat) (f : CalTile → CalTile) : (s.modCal t f).lnkA = s.lnkA := with_cal_lnkA s _
@[simp] theorem modCal_lnkB (s : State) (t : Nat) (f : CalTile → CalTile) : (s.modCal t f).lnkB = s.lnkB := with_cal_lnkB s _
@[simp] theorem modCal_csf (s : State) (t : Nat) (f : CalTile → CalTile) : (s.modCal t f).csf = s.csf := with_cal_csf s _
@[simp] theorem modCal_side (s : State) (t : Nat) (f : CalTile → CalTile) : (s.modCal t f).side = s.side := with_cal_side s _
@[simp] theorem modCal_spi (s : State) (t : Nat) (f : CalTile → CalTile) : (s.modCal t f).spi = s.spi := with_cal_spi s _
@[simp] theorem modCal_cmd (s : State) (t : Nat) (f : CalTile → CalTile) : (s.modCal t f).cmd = s.cmd := with_cal_cmd s _
@[simp] theorem modCal_cmp (s : State) (t : Nat) (f : CalTile → CalTile) : (s.modCal t f).cmp = s.cmp := with_cal_cmp s _
@[simp] theorem modCal_glare (s : State) (t : Nat) (f : CalTile → CalTile) : (s.modCal t f).glare = s.glare := with_cal_glare s _
@[simp] theorem modCal_lanes (s : State) (t : Nat) (f : CalTile → CalTile) : (s.modCal t f).lanes = s.lanes := with_cal_lanes s _
@[simp] theorem modCal_tln (s : State) (t : Nat) (f : CalTile → CalTile) : (s.modCal t f).tln = s.tln := with_cal_tln s _
@[simp] theorem modCal_gov (s : State) (t : Nat) (f : CalTile → CalTile) : (s.modCal t f).gov = s.gov := with_cal_gov s _
@[simp] theorem modCal_flx (s : State) (t : Nat) (f : CalTile → CalTile) : (s.modCal t f).flx = s.flx := with_cal_flx s _
@[simp] theorem modCal_seg (s : State) (t : Nat) (f : CalTile → CalTile) : (s.modCal t f).seg = s.seg := with_cal_seg s _
@[simp] theorem modCal_thm (s : State) (t : Nat) (f : CalTile → CalTile) : (s.modCal t f).thm = s.thm := with_cal_thm s _
@[simp] theorem modCal_pwr (s : State) (t : Nat) (f : CalTile → CalTile) : (s.modCal t f).pwr = s.pwr := with_cal_pwr s _
@[simp] theorem modCal_sec (s : State) (t : Nat) (f : CalTile → CalTile) : (s.modCal t f).sec = s.sec := with_cal_sec s _
@[simp] theorem modCal_fus (s : State) (t : Nat) (f : CalTile → CalTile) : (s.modCal t f).fus = s.fus := with_cal_fus s _
@[simp] theorem modCal_upd (s : State) (t : Nat) (f : CalTile → CalTile) : (s.modCal t f).upd = s.upd := with_cal_upd s _
@[simp] theorem modCal_readData (s : State) (t : Nat) (f : CalTile → CalTile) : (s.modCal t f).readData = s.readData := with_cal_readData s _
@[simp] theorem modCal_fresh (s : State) (t : Nat) (f : CalTile → CalTile) : (s.modCal t f).fresh = s.fresh := with_cal_fresh s _
@[simp] theorem modCal_pending (s : State) (t : Nat) (f : CalTile → CalTile) : (s.modCal t f).pending = s.pending := with_cal_pending s _
@[simp] theorem modCal_word (s : State) (t : Nat) (f : CalTile → CalTile) (a' : Nat) : (s.modCal t f).word a' = s.word a' := by simp [State.word]
@[simp] theorem modCal_g (s : State) (t : Nat) (f : CalTile → CalTile) (x : Fld) : (s.modCal t f).g x = s.g x := by simp [State.g]
@[simp] theorem modCal_on (s : State) (t : Nat) (f : CalTile → CalTile) (x : Fld) : (s.modCal t f).on x = s.on x := by simp [State.on]
@[simp] theorem modCal_byte (s : State) (t : Nat) (f : CalTile → CalTile) (a' : Nat) : (s.modCal t f).byte a' = s.byte a' := by simp [State.byte]

/-! ### modFlx -/

@[simp] theorem modFlx_regs (s : State) (t : Nat) (f : FlxTile → FlxTile) : (s.modFlx t f).regs = s.regs := with_flx_regs s _
@[simp] theorem modFlx_shadow (s : State) (t : Nat) (f : FlxTile → FlxTile) : (s.modFlx t f).shadow = s.shadow := with_flx_shadow s _
@[simp] theorem modFlx_pend (s : State) (t : Nat) (f : FlxTile → FlxTile) : (s.modFlx t f).pend = s.pend := with_flx_pend s _
@[simp] theorem modFlx_pendPages (s : State) (t : Nat) (f : FlxTile → FlxTile) : (s.modFlx t f).pendPages = s.pendPages := with_flx_pendPages s _
@[simp] theorem modFlx_mem (s : State) (t : Nat) (f : FlxTile → FlxTile) : (s.modFlx t f).mem = s.mem := with_flx_mem s _
@[simp] theorem modFlx_latches (s : State) (t : Nat) (f : FlxTile → FlxTile) : (s.modFlx t f).latches = s.latches := with_flx_latches s _
@[simp] theorem modFlx_now (s : State) (t : Nat) (f : FlxTile → FlxTile) : (s.modFlx t f).now = s.now := with_flx_now s _
@[simp] theorem modFlx_ohSub (s : State) (t : Nat) (f : FlxTile → FlxTile) : (s.modFlx t f).ohSub = s.ohSub := with_flx_ohSub s _
@[simp] theorem modFlx_lt (s : State) (t : Nat) (f : FlxTile → FlxTile) : (s.modFlx t f).lt = s.lt := with_flx_lt s _
@[simp] theorem modFlx_slew (s : State) (t : Nat) (f : FlxTile → FlxTile) : (s.modFlx t f).slew = s.slew := with_flx_slew s _
@[simp] theorem modFlx_ltApplied (s : State) (t : Nat) (f : FlxTile → FlxTile) : (s.modFlx t f).ltApplied = s.ltApplied := with_flx_ltApplied s _
@[simp] theorem modFlx_flt (s : State) (t : Nat) (f : FlxTile → FlxTile) : (s.modFlx t f).flt = s.flt := with_flx_flt s _
@[simp] theorem modFlx_evr (s : State) (t : Nat) (f : FlxTile → FlxTile) : (s.modFlx t f).evr = s.evr := with_flx_evr s _
@[simp] theorem modFlx_saf (s : State) (t : Nat) (f : FlxTile → FlxTile) : (s.modFlx t f).saf = s.saf := with_flx_saf s _
@[simp] theorem modFlx_rst (s : State) (t : Nat) (f : FlxTile → FlxTile) : (s.modFlx t f).rst = s.rst := with_flx_rst s _
@[simp] theorem modFlx_quartz (s : State) (t : Nat) (f : FlxTile → FlxTile) : (s.modFlx t f).quartz = s.quartz := with_flx_quartz s _
@[simp] theorem modFlx_lnkA (s : State) (t : Nat) (f : FlxTile → FlxTile) : (s.modFlx t f).lnkA = s.lnkA := with_flx_lnkA s _
@[simp] theorem modFlx_lnkB (s : State) (t : Nat) (f : FlxTile → FlxTile) : (s.modFlx t f).lnkB = s.lnkB := with_flx_lnkB s _
@[simp] theorem modFlx_csf (s : State) (t : Nat) (f : FlxTile → FlxTile) : (s.modFlx t f).csf = s.csf := with_flx_csf s _
@[simp] theorem modFlx_side (s : State) (t : Nat) (f : FlxTile → FlxTile) : (s.modFlx t f).side = s.side := with_flx_side s _
@[simp] theorem modFlx_spi (s : State) (t : Nat) (f : FlxTile → FlxTile) : (s.modFlx t f).spi = s.spi := with_flx_spi s _
@[simp] theorem modFlx_cmd (s : State) (t : Nat) (f : FlxTile → FlxTile) : (s.modFlx t f).cmd = s.cmd := with_flx_cmd s _
@[simp] theorem modFlx_cmp (s : State) (t : Nat) (f : FlxTile → FlxTile) : (s.modFlx t f).cmp = s.cmp := with_flx_cmp s _
@[simp] theorem modFlx_glare (s : State) (t : Nat) (f : FlxTile → FlxTile) : (s.modFlx t f).glare = s.glare := with_flx_glare s _
@[simp] theorem modFlx_lanes (s : State) (t : Nat) (f : FlxTile → FlxTile) : (s.modFlx t f).lanes = s.lanes := with_flx_lanes s _
@[simp] theorem modFlx_tln (s : State) (t : Nat) (f : FlxTile → FlxTile) : (s.modFlx t f).tln = s.tln := with_flx_tln s _
@[simp] theorem modFlx_gov (s : State) (t : Nat) (f : FlxTile → FlxTile) : (s.modFlx t f).gov = s.gov := with_flx_gov s _
@[simp] theorem modFlx_cal (s : State) (t : Nat) (f : FlxTile → FlxTile) : (s.modFlx t f).cal = s.cal := with_flx_cal s _
@[simp] theorem modFlx_seg (s : State) (t : Nat) (f : FlxTile → FlxTile) : (s.modFlx t f).seg = s.seg := with_flx_seg s _
@[simp] theorem modFlx_thm (s : State) (t : Nat) (f : FlxTile → FlxTile) : (s.modFlx t f).thm = s.thm := with_flx_thm s _
@[simp] theorem modFlx_pwr (s : State) (t : Nat) (f : FlxTile → FlxTile) : (s.modFlx t f).pwr = s.pwr := with_flx_pwr s _
@[simp] theorem modFlx_sec (s : State) (t : Nat) (f : FlxTile → FlxTile) : (s.modFlx t f).sec = s.sec := with_flx_sec s _
@[simp] theorem modFlx_fus (s : State) (t : Nat) (f : FlxTile → FlxTile) : (s.modFlx t f).fus = s.fus := with_flx_fus s _
@[simp] theorem modFlx_upd (s : State) (t : Nat) (f : FlxTile → FlxTile) : (s.modFlx t f).upd = s.upd := with_flx_upd s _
@[simp] theorem modFlx_readData (s : State) (t : Nat) (f : FlxTile → FlxTile) : (s.modFlx t f).readData = s.readData := with_flx_readData s _
@[simp] theorem modFlx_fresh (s : State) (t : Nat) (f : FlxTile → FlxTile) : (s.modFlx t f).fresh = s.fresh := with_flx_fresh s _
@[simp] theorem modFlx_pending (s : State) (t : Nat) (f : FlxTile → FlxTile) : (s.modFlx t f).pending = s.pending := with_flx_pending s _
@[simp] theorem modFlx_word (s : State) (t : Nat) (f : FlxTile → FlxTile) (a' : Nat) : (s.modFlx t f).word a' = s.word a' := by simp [State.word]
@[simp] theorem modFlx_g (s : State) (t : Nat) (f : FlxTile → FlxTile) (x : Fld) : (s.modFlx t f).g x = s.g x := by simp [State.g]
@[simp] theorem modFlx_on (s : State) (t : Nat) (f : FlxTile → FlxTile) (x : Fld) : (s.modFlx t f).on x = s.on x := by simp [State.on]
@[simp] theorem modFlx_byte (s : State) (t : Nat) (f : FlxTile → FlxTile) (a' : Nat) : (s.modFlx t f).byte a' = s.byte a' := by simp [State.byte]

/-! ### modSlot -/

@[simp] theorem modSlot_regs (s : State) (n : Nat) (f : Slot → Slot) : (s.modSlot n f).regs = s.regs := with_upd_regs s _
@[simp] theorem modSlot_shadow (s : State) (n : Nat) (f : Slot → Slot) : (s.modSlot n f).shadow = s.shadow := with_upd_shadow s _
@[simp] theorem modSlot_pend (s : State) (n : Nat) (f : Slot → Slot) : (s.modSlot n f).pend = s.pend := with_upd_pend s _
@[simp] theorem modSlot_pendPages (s : State) (n : Nat) (f : Slot → Slot) : (s.modSlot n f).pendPages = s.pendPages := with_upd_pendPages s _
@[simp] theorem modSlot_mem (s : State) (n : Nat) (f : Slot → Slot) : (s.modSlot n f).mem = s.mem := with_upd_mem s _
@[simp] theorem modSlot_latches (s : State) (n : Nat) (f : Slot → Slot) : (s.modSlot n f).latches = s.latches := with_upd_latches s _
@[simp] theorem modSlot_now (s : State) (n : Nat) (f : Slot → Slot) : (s.modSlot n f).now = s.now := with_upd_now s _
@[simp] theorem modSlot_ohSub (s : State) (n : Nat) (f : Slot → Slot) : (s.modSlot n f).ohSub = s.ohSub := with_upd_ohSub s _
@[simp] theorem modSlot_lt (s : State) (n : Nat) (f : Slot → Slot) : (s.modSlot n f).lt = s.lt := with_upd_lt s _
@[simp] theorem modSlot_slew (s : State) (n : Nat) (f : Slot → Slot) : (s.modSlot n f).slew = s.slew := with_upd_slew s _
@[simp] theorem modSlot_ltApplied (s : State) (n : Nat) (f : Slot → Slot) : (s.modSlot n f).ltApplied = s.ltApplied := with_upd_ltApplied s _
@[simp] theorem modSlot_flt (s : State) (n : Nat) (f : Slot → Slot) : (s.modSlot n f).flt = s.flt := with_upd_flt s _
@[simp] theorem modSlot_evr (s : State) (n : Nat) (f : Slot → Slot) : (s.modSlot n f).evr = s.evr := with_upd_evr s _
@[simp] theorem modSlot_saf (s : State) (n : Nat) (f : Slot → Slot) : (s.modSlot n f).saf = s.saf := with_upd_saf s _
@[simp] theorem modSlot_rst (s : State) (n : Nat) (f : Slot → Slot) : (s.modSlot n f).rst = s.rst := with_upd_rst s _
@[simp] theorem modSlot_quartz (s : State) (n : Nat) (f : Slot → Slot) : (s.modSlot n f).quartz = s.quartz := with_upd_quartz s _
@[simp] theorem modSlot_lnkA (s : State) (n : Nat) (f : Slot → Slot) : (s.modSlot n f).lnkA = s.lnkA := with_upd_lnkA s _
@[simp] theorem modSlot_lnkB (s : State) (n : Nat) (f : Slot → Slot) : (s.modSlot n f).lnkB = s.lnkB := with_upd_lnkB s _
@[simp] theorem modSlot_csf (s : State) (n : Nat) (f : Slot → Slot) : (s.modSlot n f).csf = s.csf := with_upd_csf s _
@[simp] theorem modSlot_side (s : State) (n : Nat) (f : Slot → Slot) : (s.modSlot n f).side = s.side := with_upd_side s _
@[simp] theorem modSlot_spi (s : State) (n : Nat) (f : Slot → Slot) : (s.modSlot n f).spi = s.spi := with_upd_spi s _
@[simp] theorem modSlot_cmd (s : State) (n : Nat) (f : Slot → Slot) : (s.modSlot n f).cmd = s.cmd := with_upd_cmd s _
@[simp] theorem modSlot_cmp (s : State) (n : Nat) (f : Slot → Slot) : (s.modSlot n f).cmp = s.cmp := with_upd_cmp s _
@[simp] theorem modSlot_glare (s : State) (n : Nat) (f : Slot → Slot) : (s.modSlot n f).glare = s.glare := with_upd_glare s _
@[simp] theorem modSlot_lanes (s : State) (n : Nat) (f : Slot → Slot) : (s.modSlot n f).lanes = s.lanes := with_upd_lanes s _
@[simp] theorem modSlot_tln (s : State) (n : Nat) (f : Slot → Slot) : (s.modSlot n f).tln = s.tln := with_upd_tln s _
@[simp] theorem modSlot_gov (s : State) (n : Nat) (f : Slot → Slot) : (s.modSlot n f).gov = s.gov := with_upd_gov s _
@[simp] theorem modSlot_cal (s : State) (n : Nat) (f : Slot → Slot) : (s.modSlot n f).cal = s.cal := with_upd_cal s _
@[simp] theorem modSlot_flx (s : State) (n : Nat) (f : Slot → Slot) : (s.modSlot n f).flx = s.flx := with_upd_flx s _
@[simp] theorem modSlot_seg (s : State) (n : Nat) (f : Slot → Slot) : (s.modSlot n f).seg = s.seg := with_upd_seg s _
@[simp] theorem modSlot_thm (s : State) (n : Nat) (f : Slot → Slot) : (s.modSlot n f).thm = s.thm := with_upd_thm s _
@[simp] theorem modSlot_pwr (s : State) (n : Nat) (f : Slot → Slot) : (s.modSlot n f).pwr = s.pwr := with_upd_pwr s _
@[simp] theorem modSlot_sec (s : State) (n : Nat) (f : Slot → Slot) : (s.modSlot n f).sec = s.sec := with_upd_sec s _
@[simp] theorem modSlot_fus (s : State) (n : Nat) (f : Slot → Slot) : (s.modSlot n f).fus = s.fus := with_upd_fus s _
@[simp] theorem modSlot_readData (s : State) (n : Nat) (f : Slot → Slot) : (s.modSlot n f).readData = s.readData := with_upd_readData s _
@[simp] theorem modSlot_fresh (s : State) (n : Nat) (f : Slot → Slot) : (s.modSlot n f).fresh = s.fresh := with_upd_fresh s _
@[simp] theorem modSlot_pending (s : State) (n : Nat) (f : Slot → Slot) : (s.modSlot n f).pending = s.pending := with_upd_pending s _
@[simp] theorem modSlot_word (s : State) (n : Nat) (f : Slot → Slot) (a' : Nat) : (s.modSlot n f).word a' = s.word a' := by simp [State.word]
@[simp] theorem modSlot_g (s : State) (n : Nat) (f : Slot → Slot) (x : Fld) : (s.modSlot n f).g x = s.g x := by simp [State.g]
@[simp] theorem modSlot_on (s : State) (n : Nat) (f : Slot → Slot) (x : Fld) : (s.modSlot n f).on x = s.on x := by simp [State.on]
@[simp] theorem modSlot_byte (s : State) (n : Nat) (f : Slot → Slot) (a' : Nat) : (s.modSlot n f).byte a' = s.byte a' := by simp [State.byte]

/-! ### pwrTo -/

@[simp] theorem pwrTo_regs (s : State) (p : PwrState) : (s.pwrTo p).regs = s.regs := with_pwr_regs s _
@[simp] theorem pwrTo_shadow (s : State) (p : PwrState) : (s.pwrTo p).shadow = s.shadow := with_pwr_shadow s _
@[simp] theorem pwrTo_pend (s : State) (p : PwrState) : (s.pwrTo p).pend = s.pend := with_pwr_pend s _
@[simp] theorem pwrTo_pendPages (s : State) (p : PwrState) : (s.pwrTo p).pendPages = s.pendPages := with_pwr_pendPages s _
@[simp] theorem pwrTo_mem (s : State) (p : PwrState) : (s.pwrTo p).mem = s.mem := with_pwr_mem s _
@[simp] theorem pwrTo_latches (s : State) (p : PwrState) : (s.pwrTo p).latches = s.latches := with_pwr_latches s _
@[simp] theorem pwrTo_now (s : State) (p : PwrState) : (s.pwrTo p).now = s.now := with_pwr_now s _
@[simp] theorem pwrTo_ohSub (s : State) (p : PwrState) : (s.pwrTo p).ohSub = s.ohSub := with_pwr_ohSub s _
@[simp] theorem pwrTo_lt (s : State) (p : PwrState) : (s.pwrTo p).lt = s.lt := with_pwr_lt s _
@[simp] theorem pwrTo_slew (s : State) (p : PwrState) : (s.pwrTo p).slew = s.slew := with_pwr_slew s _
@[simp] theorem pwrTo_ltApplied (s : State) (p : PwrState) : (s.pwrTo p).ltApplied = s.ltApplied := with_pwr_ltApplied s _
@[simp] theorem pwrTo_flt (s : State) (p : PwrState) : (s.pwrTo p).flt = s.flt := with_pwr_flt s _
@[simp] theorem pwrTo_evr (s : State) (p : PwrState) : (s.pwrTo p).evr = s.evr := with_pwr_evr s _
@[simp] theorem pwrTo_saf (s : State) (p : PwrState) : (s.pwrTo p).saf = s.saf := with_pwr_saf s _
@[simp] theorem pwrTo_rst (s : State) (p : PwrState) : (s.pwrTo p).rst = s.rst := with_pwr_rst s _
@[simp] theorem pwrTo_quartz (s : State) (p : PwrState) : (s.pwrTo p).quartz = s.quartz := with_pwr_quartz s _
@[simp] theorem pwrTo_lnkA (s : State) (p : PwrState) : (s.pwrTo p).lnkA = s.lnkA := with_pwr_lnkA s _
@[simp] theorem pwrTo_lnkB (s : State) (p : PwrState) : (s.pwrTo p).lnkB = s.lnkB := with_pwr_lnkB s _
@[simp] theorem pwrTo_csf (s : State) (p : PwrState) : (s.pwrTo p).csf = s.csf := with_pwr_csf s _
@[simp] theorem pwrTo_side (s : State) (p : PwrState) : (s.pwrTo p).side = s.side := with_pwr_side s _
@[simp] theorem pwrTo_spi (s : State) (p : PwrState) : (s.pwrTo p).spi = s.spi := with_pwr_spi s _
@[simp] theorem pwrTo_cmd (s : State) (p : PwrState) : (s.pwrTo p).cmd = s.cmd := with_pwr_cmd s _
@[simp] theorem pwrTo_cmp (s : State) (p : PwrState) : (s.pwrTo p).cmp = s.cmp := with_pwr_cmp s _
@[simp] theorem pwrTo_glare (s : State) (p : PwrState) : (s.pwrTo p).glare = s.glare := with_pwr_glare s _
@[simp] theorem pwrTo_lanes (s : State) (p : PwrState) : (s.pwrTo p).lanes = s.lanes := with_pwr_lanes s _
@[simp] theorem pwrTo_tln (s : State) (p : PwrState) : (s.pwrTo p).tln = s.tln := with_pwr_tln s _
@[simp] theorem pwrTo_gov (s : State) (p : PwrState) : (s.pwrTo p).gov = s.gov := with_pwr_gov s _
@[simp] theorem pwrTo_cal (s : State) (p : PwrState) : (s.pwrTo p).cal = s.cal := with_pwr_cal s _
@[simp] theorem pwrTo_flx (s : State) (p : PwrState) : (s.pwrTo p).flx = s.flx := with_pwr_flx s _
@[simp] theorem pwrTo_seg (s : State) (p : PwrState) : (s.pwrTo p).seg = s.seg := with_pwr_seg s _
@[simp] theorem pwrTo_thm (s : State) (p : PwrState) : (s.pwrTo p).thm = s.thm := with_pwr_thm s _
@[simp] theorem pwrTo_sec (s : State) (p : PwrState) : (s.pwrTo p).sec = s.sec := with_pwr_sec s _
@[simp] theorem pwrTo_fus (s : State) (p : PwrState) : (s.pwrTo p).fus = s.fus := with_pwr_fus s _
@[simp] theorem pwrTo_upd (s : State) (p : PwrState) : (s.pwrTo p).upd = s.upd := with_pwr_upd s _
@[simp] theorem pwrTo_readData (s : State) (p : PwrState) : (s.pwrTo p).readData = s.readData := with_pwr_readData s _
@[simp] theorem pwrTo_fresh (s : State) (p : PwrState) : (s.pwrTo p).fresh = s.fresh := with_pwr_fresh s _
@[simp] theorem pwrTo_pending (s : State) (p : PwrState) : (s.pwrTo p).pending = s.pending := with_pwr_pending s _
@[simp] theorem pwrTo_word (s : State) (p : PwrState) (a' : Nat) : (s.pwrTo p).word a' = s.word a' := by simp [State.word]
@[simp] theorem pwrTo_g (s : State) (p : PwrState) (x : Fld) : (s.pwrTo p).g x = s.g x := by simp [State.g]
@[simp] theorem pwrTo_on (s : State) (p : PwrState) (x : Fld) : (s.pwrTo p).on x = s.on x := by simp [State.on]
@[simp] theorem pwrTo_byte (s : State) (p : PwrState) (a' : Nat) : (s.pwrTo p).byte a' = s.byte a' := by simp [State.byte]

/-! ### begin -/

@[simp] theorem begin_regs (s : State) : (s.begin).regs = s.regs :=  rfl
@[simp] theorem begin_shadow (s : State) : (s.begin).shadow = s.shadow :=  rfl
@[simp] theorem begin_pend (s : State) : (s.begin).pend = s.pend :=  rfl
@[simp] theorem begin_pendPages (s : State) : (s.begin).pendPages = s.pendPages :=  rfl
@[simp] theorem begin_mem (s : State) : (s.begin).mem = s.mem :=  rfl
@[simp] theorem begin_latches (s : State) : (s.begin).latches = s.latches :=  rfl
@[simp] theorem begin_now (s : State) : (s.begin).now = s.now :=  rfl
@[simp] theorem begin_ohSub (s : State) : (s.begin).ohSub = s.ohSub :=  rfl
@[simp] theorem begin_lt (s : State) : (s.begin).lt = s.lt :=  rfl
@[simp] theorem begin_slew (s : State) : (s.begin).slew = s.slew :=  rfl
@[simp] theorem begin_ltApplied (s : State) : (s.begin).ltApplied = s.ltApplied :=  rfl
@[simp] theorem begin_evr (s : State) : (s.begin).evr = s.evr :=  rfl
@[simp] theorem begin_rst (s : State) : (s.begin).rst = s.rst :=  rfl
@[simp] theorem begin_quartz (s : State) : (s.begin).quartz = s.quartz :=  rfl
@[simp] theorem begin_lnkA (s : State) : (s.begin).lnkA = s.lnkA :=  rfl
@[simp] theorem begin_lnkB (s : State) : (s.begin).lnkB = s.lnkB :=  rfl
@[simp] theorem begin_csf (s : State) : (s.begin).csf = s.csf :=  rfl
@[simp] theorem begin_side (s : State) : (s.begin).side = s.side :=  rfl
@[simp] theorem begin_spi (s : State) : (s.begin).spi = s.spi :=  rfl
@[simp] theorem begin_cmd (s : State) : (s.begin).cmd = s.cmd :=  rfl
@[simp] theorem begin_cmp (s : State) : (s.begin).cmp = s.cmp :=  rfl
@[simp] theorem begin_glare (s : State) : (s.begin).glare = s.glare :=  rfl
@[simp] theorem begin_lanes (s : State) : (s.begin).lanes = s.lanes :=  rfl
@[simp] theorem begin_tln (s : State) : (s.begin).tln = s.tln :=  rfl
@[simp] theorem begin_gov (s : State) : (s.begin).gov = s.gov :=  rfl
@[simp] theorem begin_cal (s : State) : (s.begin).cal = s.cal :=  rfl
@[simp] theorem begin_flx (s : State) : (s.begin).flx = s.flx :=  rfl
@[simp] theorem begin_seg (s : State) : (s.begin).seg = s.seg :=  rfl
@[simp] theorem begin_thm (s : State) : (s.begin).thm = s.thm :=  rfl
@[simp] theorem begin_pwr (s : State) : (s.begin).pwr = s.pwr :=  rfl
@[simp] theorem begin_sec (s : State) : (s.begin).sec = s.sec :=  rfl
@[simp] theorem begin_fus (s : State) : (s.begin).fus = s.fus :=  rfl
@[simp] theorem begin_upd (s : State) : (s.begin).upd = s.upd :=  rfl
@[simp] theorem begin_readData (s : State) : (s.begin).readData = s.readData :=  rfl
@[simp] theorem begin_fresh (s : State) : (s.begin).fresh = s.fresh :=  rfl
@[simp] theorem begin_pending (s : State) : (s.begin).pending = s.pending :=  rfl
@[simp] theorem begin_word (s : State) (a' : Nat) : (s.begin).word a' = s.word a' := by simp [State.word]
@[simp] theorem begin_g (s : State) (x : Fld) : (s.begin).g x = s.g x := by simp [State.g]
@[simp] theorem begin_on (s : State) (x : Fld) : (s.begin).on x = s.on x := by simp [State.on]
@[simp] theorem begin_byte (s : State) (a' : Nat) : (s.begin).byte a' = s.byte a' := by simp [State.byte]

/-! ### withRegs -/

@[simp] theorem withRegs_shadow (s : State) (v : List (Nat × Word)) : (s.withRegs v).shadow = s.shadow := with_regs_shadow s _
@[simp] theorem withRegs_pend (s : State) (v : List (Nat × Word)) : (s.withRegs v).pend = s.pend := with_regs_pend s _
@[simp] theorem withRegs_pendPages (s : State) (v : List (Nat × Word)) : (s.withRegs v).pendPages = s.pendPages := with_regs_pendPages s _
@[simp] theorem withRegs_mem (s : State) (v : List (Nat × Word)) : (s.withRegs v).mem = s.mem := with_regs_mem s _
@[simp] theorem withRegs_latches (s : State) (v : List (Nat × Word)) : (s.withRegs v).latches = s.latches := with_regs_latches s _
@[simp] theorem withRegs_now (s : State) (v : List (Nat × Word)) : (s.withRegs v).now = s.now := with_regs_now s _
@[simp] theorem withRegs_ohSub (s : State) (v : List (Nat × Word)) : (s.withRegs v).ohSub = s.ohSub := with_regs_ohSub s _
@[simp] theorem withRegs_lt (s : State) (v : List (Nat × Word)) : (s.withRegs v).lt = s.lt := with_regs_lt s _
@[simp] theorem withRegs_slew (s : State) (v : List (Nat × Word)) : (s.withRegs v).slew = s.slew := with_regs_slew s _
@[simp] theorem withRegs_ltApplied (s : State) (v : List (Nat × Word)) : (s.withRegs v).ltApplied = s.ltApplied := with_regs_ltApplied s _
@[simp] theorem withRegs_flt (s : State) (v : List (Nat × Word)) : (s.withRegs v).flt = s.flt := with_regs_flt s _
@[simp] theorem withRegs_evr (s : State) (v : List (Nat × Word)) : (s.withRegs v).evr = s.evr := with_regs_evr s _
@[simp] theorem withRegs_saf (s : State) (v : List (Nat × Word)) : (s.withRegs v).saf = s.saf := with_regs_saf s _
@[simp] theorem withRegs_rst (s : State) (v : List (Nat × Word)) : (s.withRegs v).rst = s.rst := with_regs_rst s _
@[simp] theorem withRegs_quartz (s : State) (v : List (Nat × Word)) : (s.withRegs v).quartz = s.quartz := with_regs_quartz s _
@[simp] theorem withRegs_lnkA (s : State) (v : List (Nat × Word)) : (s.withRegs v).lnkA = s.lnkA := with_regs_lnkA s _
@[simp] theorem withRegs_lnkB (s : State) (v : List (Nat × Word)) : (s.withRegs v).lnkB = s.lnkB := with_regs_lnkB s _
@[simp] theorem withRegs_csf (s : State) (v : List (Nat × Word)) : (s.withRegs v).csf = s.csf := with_regs_csf s _
@[simp] theorem withRegs_side (s : State) (v : List (Nat × Word)) : (s.withRegs v).side = s.side := with_regs_side s _
@[simp] theorem withRegs_spi (s : State) (v : List (Nat × Word)) : (s.withRegs v).spi = s.spi := with_regs_spi s _
@[simp] theorem withRegs_cmd (s : State) (v : List (Nat × Word)) : (s.withRegs v).cmd = s.cmd := with_regs_cmd s _
@[simp] theorem withRegs_cmp (s : State) (v : List (Nat × Word)) : (s.withRegs v).cmp = s.cmp := with_regs_cmp s _
@[simp] theorem withRegs_glare (s : State) (v : List (Nat × Word)) : (s.withRegs v).glare = s.glare := with_regs_glare s _
@[simp] theorem withRegs_lanes (s : State) (v : List (Nat × Word)) : (s.withRegs v).lanes = s.lanes := with_regs_lanes s _
@[simp] theorem withRegs_tln (s : State) (v : List (Nat × Word)) : (s.withRegs v).tln = s.tln := with_regs_tln s _
@[simp] theorem withRegs_gov (s : State) (v : List (Nat × Word)) : (s.withRegs v).gov = s.gov := with_regs_gov s _
@[simp] theorem withRegs_cal (s : State) (v : List (Nat × Word)) : (s.withRegs v).cal = s.cal := with_regs_cal s _
@[simp] theorem withRegs_flx (s : State) (v : List (Nat × Word)) : (s.withRegs v).flx = s.flx := with_regs_flx s _
@[simp] theorem withRegs_seg (s : State) (v : List (Nat × Word)) : (s.withRegs v).seg = s.seg := with_regs_seg s _
@[simp] theorem withRegs_thm (s : State) (v : List (Nat × Word)) : (s.withRegs v).thm = s.thm := with_regs_thm s _
@[simp] theorem withRegs_pwr (s : State) (v : List (Nat × Word)) : (s.withRegs v).pwr = s.pwr := with_regs_pwr s _
@[simp] theorem withRegs_sec (s : State) (v : List (Nat × Word)) : (s.withRegs v).sec = s.sec := with_regs_sec s _
@[simp] theorem withRegs_fus (s : State) (v : List (Nat × Word)) : (s.withRegs v).fus = s.fus := with_regs_fus s _
@[simp] theorem withRegs_upd (s : State) (v : List (Nat × Word)) : (s.withRegs v).upd = s.upd := with_regs_upd s _
@[simp] theorem withRegs_readData (s : State) (v : List (Nat × Word)) : (s.withRegs v).readData = s.readData := with_regs_readData s _
@[simp] theorem withRegs_fresh (s : State) (v : List (Nat × Word)) : (s.withRegs v).fresh = s.fresh := with_regs_fresh s _
@[simp] theorem withRegs_pending (s : State) (v : List (Nat × Word)) : (s.withRegs v).pending = s.pending := with_regs_pending s _
@[simp] theorem withRegs_byte (s : State) (v : List (Nat × Word)) (a' : Nat) : (s.withRegs v).byte a' = s.byte a' := by simp [State.byte]

/-! ### withShadow -/

@[simp] theorem withShadow_regs (s : State) (v : List (Nat × Word)) : (s.withShadow v).regs = s.regs := with_shadow_regs s _
@[simp] theorem withShadow_pend (s : State) (v : List (Nat × Word)) : (s.withShadow v).pend = s.pend := with_shadow_pend s _
@[simp] theorem withShadow_pendPages (s : State) (v : List (Nat × Word)) : (s.withShadow v).pendPages = s.pendPages := with_shadow_pendPages s _
@[simp] theorem withShadow_mem (s : State) (v : List (Nat × Word)) : (s.withShadow v).mem = s.mem := with_shadow_mem s _
@[simp] theorem withShadow_latches (s : State) (v : List (Nat × Word)) : (s.withShadow v).latches = s.latches := with_shadow_latches s _
@[simp] theorem withShadow_now (s : State) (v : List (Nat × Word)) : (s.withShadow v).now = s.now := with_shadow_now s _
@[simp] theorem withShadow_ohSub (s : State) (v : List (Nat × Word)) : (s.withShadow v).ohSub = s.ohSub := with_shadow_ohSub s _
@[simp] theorem withShadow_lt (s : State) (v : List (Nat × Word)) : (s.withShadow v).lt = s.lt := with_shadow_lt s _
@[simp] theorem withShadow_slew (s : State) (v : List (Nat × Word)) : (s.withShadow v).slew = s.slew := with_shadow_slew s _
@[simp] theorem withShadow_ltApplied (s : State) (v : List (Nat × Word)) : (s.withShadow v).ltApplied = s.ltApplied := with_shadow_ltApplied s _
@[simp] theorem withShadow_flt (s : State) (v : List (Nat × Word)) : (s.withShadow v).flt = s.flt := with_shadow_flt s _
@[simp] theorem withShadow_evr (s : State) (v : List (Nat × Word)) : (s.withShadow v).evr = s.evr := with_shadow_evr s _
@[simp] theorem withShadow_saf (s : State) (v : List (Nat × Word)) : (s.withShadow v).saf = s.saf := with_shadow_saf s _
@[simp] theorem withShadow_rst (s : State) (v : List (Nat × Word)) : (s.withShadow v).rst = s.rst := with_shadow_rst s _
@[simp] theorem withShadow_quartz (s : State) (v : List (Nat × Word)) : (s.withShadow v).quartz = s.quartz := with_shadow_quartz s _
@[simp] theorem withShadow_lnkA (s : State) (v : List (Nat × Word)) : (s.withShadow v).lnkA = s.lnkA := with_shadow_lnkA s _
@[simp] theorem withShadow_lnkB (s : State) (v : List (Nat × Word)) : (s.withShadow v).lnkB = s.lnkB := with_shadow_lnkB s _
@[simp] theorem withShadow_csf (s : State) (v : List (Nat × Word)) : (s.withShadow v).csf = s.csf := with_shadow_csf s _
@[simp] theorem withShadow_side (s : State) (v : List (Nat × Word)) : (s.withShadow v).side = s.side := with_shadow_side s _
@[simp] theorem withShadow_spi (s : State) (v : List (Nat × Word)) : (s.withShadow v).spi = s.spi := with_shadow_spi s _
@[simp] theorem withShadow_cmd (s : State) (v : List (Nat × Word)) : (s.withShadow v).cmd = s.cmd := with_shadow_cmd s _
@[simp] theorem withShadow_cmp (s : State) (v : List (Nat × Word)) : (s.withShadow v).cmp = s.cmp := with_shadow_cmp s _
@[simp] theorem withShadow_glare (s : State) (v : List (Nat × Word)) : (s.withShadow v).glare = s.glare := with_shadow_glare s _
@[simp] theorem withShadow_lanes (s : State) (v : List (Nat × Word)) : (s.withShadow v).lanes = s.lanes := with_shadow_lanes s _
@[simp] theorem withShadow_tln (s : State) (v : List (Nat × Word)) : (s.withShadow v).tln = s.tln := with_shadow_tln s _
@[simp] theorem withShadow_gov (s : State) (v : List (Nat × Word)) : (s.withShadow v).gov = s.gov := with_shadow_gov s _
@[simp] theorem withShadow_cal (s : State) (v : List (Nat × Word)) : (s.withShadow v).cal = s.cal := with_shadow_cal s _
@[simp] theorem withShadow_flx (s : State) (v : List (Nat × Word)) : (s.withShadow v).flx = s.flx := with_shadow_flx s _
@[simp] theorem withShadow_seg (s : State) (v : List (Nat × Word)) : (s.withShadow v).seg = s.seg := with_shadow_seg s _
@[simp] theorem withShadow_thm (s : State) (v : List (Nat × Word)) : (s.withShadow v).thm = s.thm := with_shadow_thm s _
@[simp] theorem withShadow_pwr (s : State) (v : List (Nat × Word)) : (s.withShadow v).pwr = s.pwr := with_shadow_pwr s _
@[simp] theorem withShadow_sec (s : State) (v : List (Nat × Word)) : (s.withShadow v).sec = s.sec := with_shadow_sec s _
@[simp] theorem withShadow_fus (s : State) (v : List (Nat × Word)) : (s.withShadow v).fus = s.fus := with_shadow_fus s _
@[simp] theorem withShadow_upd (s : State) (v : List (Nat × Word)) : (s.withShadow v).upd = s.upd := with_shadow_upd s _
@[simp] theorem withShadow_readData (s : State) (v : List (Nat × Word)) : (s.withShadow v).readData = s.readData := with_shadow_readData s _
@[simp] theorem withShadow_fresh (s : State) (v : List (Nat × Word)) : (s.withShadow v).fresh = s.fresh := with_shadow_fresh s _
@[simp] theorem withShadow_pending (s : State) (v : List (Nat × Word)) : (s.withShadow v).pending = s.pending := with_shadow_pending s _
@[simp] theorem withShadow_word (s : State) (v : List (Nat × Word)) (a' : Nat) : (s.withShadow v).word a' = s.word a' := by simp [State.word]
@[simp] theorem withShadow_g (s : State) (v : List (Nat × Word)) (x : Fld) : (s.withShadow v).g x = s.g x := by simp [State.g]
@[simp] theorem withShadow_on (s : State) (v : List (Nat × Word)) (x : Fld) : (s.withShadow v).on x = s.on x := by simp [State.on]
@[simp] theorem withShadow_byte (s : State) (v : List (Nat × Word)) (a' : Nat) : (s.withShadow v).byte a' = s.byte a' := by simp [State.byte]

/-! ### withPend -/

@[simp] theorem withPend_regs (s : State) (v : List (Nat × Word)) : (s.withPend v).regs = s.regs := with_pend_regs s _
@[simp] theorem withPend_shadow (s : State) (v : List (Nat × Word)) : (s.withPend v).shadow = s.shadow := with_pend_shadow s _
@[simp] theorem withPend_pendPages (s : State) (v : List (Nat × Word)) : (s.withPend v).pendPages = s.pendPages := with_pend_pendPages s _
@[simp] theorem withPend_mem (s : State) (v : List (Nat × Word)) : (s.withPend v).mem = s.mem := with_pend_mem s _
@[simp] theorem withPend_latches (s : State) (v : List (Nat × Word)) : (s.withPend v).latches = s.latches := with_pend_latches s _
@[simp] theorem withPend_now (s : State) (v : List (Nat × Word)) : (s.withPend v).now = s.now := with_pend_now s _
@[simp] theorem withPend_ohSub (s : State) (v : List (Nat × Word)) : (s.withPend v).ohSub = s.ohSub := with_pend_ohSub s _
@[simp] theorem withPend_lt (s : State) (v : List (Nat × Word)) : (s.withPend v).lt = s.lt := with_pend_lt s _
@[simp] theorem withPend_slew (s : State) (v : List (Nat × Word)) : (s.withPend v).slew = s.slew := with_pend_slew s _
@[simp] theorem withPend_ltApplied (s : State) (v : List (Nat × Word)) : (s.withPend v).ltApplied = s.ltApplied := with_pend_ltApplied s _
@[simp] theorem withPend_flt (s : State) (v : List (Nat × Word)) : (s.withPend v).flt = s.flt := with_pend_flt s _
@[simp] theorem withPend_evr (s : State) (v : List (Nat × Word)) : (s.withPend v).evr = s.evr := with_pend_evr s _
@[simp] theorem withPend_saf (s : State) (v : List (Nat × Word)) : (s.withPend v).saf = s.saf := with_pend_saf s _
@[simp] theorem withPend_rst (s : State) (v : List (Nat × Word)) : (s.withPend v).rst = s.rst := with_pend_rst s _
@[simp] theorem withPend_quartz (s : State) (v : List (Nat × Word)) : (s.withPend v).quartz = s.quartz := with_pend_quartz s _
@[simp] theorem withPend_lnkA (s : State) (v : List (Nat × Word)) : (s.withPend v).lnkA = s.lnkA := with_pend_lnkA s _
@[simp] theorem withPend_lnkB (s : State) (v : List (Nat × Word)) : (s.withPend v).lnkB = s.lnkB := with_pend_lnkB s _
@[simp] theorem withPend_csf (s : State) (v : List (Nat × Word)) : (s.withPend v).csf = s.csf := with_pend_csf s _
@[simp] theorem withPend_side (s : State) (v : List (Nat × Word)) : (s.withPend v).side = s.side := with_pend_side s _
@[simp] theorem withPend_spi (s : State) (v : List (Nat × Word)) : (s.withPend v).spi = s.spi := with_pend_spi s _
@[simp] theorem withPend_cmd (s : State) (v : List (Nat × Word)) : (s.withPend v).cmd = s.cmd := with_pend_cmd s _
@[simp] theorem withPend_cmp (s : State) (v : List (Nat × Word)) : (s.withPend v).cmp = s.cmp := with_pend_cmp s _
@[simp] theorem withPend_glare (s : State) (v : List (Nat × Word)) : (s.withPend v).glare = s.glare := with_pend_glare s _
@[simp] theorem withPend_lanes (s : State) (v : List (Nat × Word)) : (s.withPend v).lanes = s.lanes := with_pend_lanes s _
@[simp] theorem withPend_tln (s : State) (v : List (Nat × Word)) : (s.withPend v).tln = s.tln := with_pend_tln s _
@[simp] theorem withPend_gov (s : State) (v : List (Nat × Word)) : (s.withPend v).gov = s.gov := with_pend_gov s _
@[simp] theorem withPend_cal (s : State) (v : List (Nat × Word)) : (s.withPend v).cal = s.cal := with_pend_cal s _
@[simp] theorem withPend_flx (s : State) (v : List (Nat × Word)) : (s.withPend v).flx = s.flx := with_pend_flx s _
@[simp] theorem withPend_seg (s : State) (v : List (Nat × Word)) : (s.withPend v).seg = s.seg := with_pend_seg s _
@[simp] theorem withPend_thm (s : State) (v : List (Nat × Word)) : (s.withPend v).thm = s.thm := with_pend_thm s _
@[simp] theorem withPend_pwr (s : State) (v : List (Nat × Word)) : (s.withPend v).pwr = s.pwr := with_pend_pwr s _
@[simp] theorem withPend_sec (s : State) (v : List (Nat × Word)) : (s.withPend v).sec = s.sec := with_pend_sec s _
@[simp] theorem withPend_fus (s : State) (v : List (Nat × Word)) : (s.withPend v).fus = s.fus := with_pend_fus s _
@[simp] theorem withPend_upd (s : State) (v : List (Nat × Word)) : (s.withPend v).upd = s.upd := with_pend_upd s _
@[simp] theorem withPend_readData (s : State) (v : List (Nat × Word)) : (s.withPend v).readData = s.readData := with_pend_readData s _
@[simp] theorem withPend_fresh (s : State) (v : List (Nat × Word)) : (s.withPend v).fresh = s.fresh := with_pend_fresh s _
@[simp] theorem withPend_pending (s : State) (v : List (Nat × Word)) : (s.withPend v).pending = s.pending := with_pend_pending s _
@[simp] theorem withPend_word (s : State) (v : List (Nat × Word)) (a' : Nat) : (s.withPend v).word a' = s.word a' := by simp [State.word]
@[simp] theorem withPend_g (s : State) (v : List (Nat × Word)) (x : Fld) : (s.withPend v).g x = s.g x := by simp [State.g]
@[simp] theorem withPend_on (s : State) (v : List (Nat × Word)) (x : Fld) : (s.withPend v).on x = s.on x := by simp [State.on]
@[simp] theorem withPend_byte (s : State) (v : List (Nat × Word)) (a' : Nat) : (s.withPend v).byte a' = s.byte a' := by simp [State.byte]

/-! ### withPendPages -/

@[simp] theorem withPendPages_regs (s : State) (v : List Nat) : (s.withPendPages v).regs = s.regs := with_pendPages_regs s _
@[simp] theorem withPendPages_shadow (s : State) (v : List Nat) : (s.withPendPages v).shadow = s.shadow := with_pendPages_shadow s _
@[simp] theorem withPendPages_pend (s : State) (v : List Nat) : (s.withPendPages v).pend = s.pend := with_pendPages_pend s _
@[simp] theorem withPendPages_mem (s : State) (v : List Nat) : (s.withPendPages v).mem = s.mem := with_pendPages_mem s _
@[simp] theorem withPendPages_latches (s : State) (v : List Nat) : (s.withPendPages v).latches = s.latches := with_pendPages_latches s _
@[simp] theorem withPendPages_now (s : State) (v : List Nat) : (s.withPendPages v).now = s.now := with_pendPages_now s _
@[simp] theorem withPendPages_ohSub (s : State) (v : List Nat) : (s.withPendPages v).ohSub = s.ohSub := with_pendPages_ohSub s _
@[simp] theorem withPendPages_lt (s : State) (v : List Nat) : (s.withPendPages v).lt = s.lt := with_pendPages_lt s _
@[simp] theorem withPendPages_slew (s : State) (v : List Nat) : (s.withPendPages v).slew = s.slew := with_pendPages_slew s _
@[simp] theorem withPendPages_ltApplied (s : State) (v : List Nat) : (s.withPendPages v).ltApplied = s.ltApplied := with_pendPages_ltApplied s _
@[simp] theorem withPendPages_flt (s : State) (v : List Nat) : (s.withPendPages v).flt = s.flt := with_pendPages_flt s _
@[simp] theorem withPendPages_evr (s : State) (v : List Nat) : (s.withPendPages v).evr = s.evr := with_pendPages_evr s _
@[simp] theorem withPendPages_saf (s : State) (v : List Nat) : (s.withPendPages v).saf = s.saf := with_pendPages_saf s _
@[simp] theorem withPendPages_rst (s : State) (v : List Nat) : (s.withPendPages v).rst = s.rst := with_pendPages_rst s _
@[simp] theorem withPendPages_quartz (s : State) (v : List Nat) : (s.withPendPages v).quartz = s.quartz := with_pendPages_quartz s _
@[simp] theorem withPendPages_lnkA (s : State) (v : List Nat) : (s.withPendPages v).lnkA = s.lnkA := with_pendPages_lnkA s _
@[simp] theorem withPendPages_lnkB (s : State) (v : List Nat) : (s.withPendPages v).lnkB = s.lnkB := with_pendPages_lnkB s _
@[simp] theorem withPendPages_csf (s : State) (v : List Nat) : (s.withPendPages v).csf = s.csf := with_pendPages_csf s _
@[simp] theorem withPendPages_side (s : State) (v : List Nat) : (s.withPendPages v).side = s.side := with_pendPages_side s _
@[simp] theorem withPendPages_spi (s : State) (v : List Nat) : (s.withPendPages v).spi = s.spi := with_pendPages_spi s _
@[simp] theorem withPendPages_cmd (s : State) (v : List Nat) : (s.withPendPages v).cmd = s.cmd := with_pendPages_cmd s _
@[simp] theorem withPendPages_cmp (s : State) (v : List Nat) : (s.withPendPages v).cmp = s.cmp := with_pendPages_cmp s _
@[simp] theorem withPendPages_glare (s : State) (v : List Nat) : (s.withPendPages v).glare = s.glare := with_pendPages_glare s _
@[simp] theorem withPendPages_lanes (s : State) (v : List Nat) : (s.withPendPages v).lanes = s.lanes := with_pendPages_lanes s _
@[simp] theorem withPendPages_tln (s : State) (v : List Nat) : (s.withPendPages v).tln = s.tln := with_pendPages_tln s _
@[simp] theorem withPendPages_gov (s : State) (v : List Nat) : (s.withPendPages v).gov = s.gov := with_pendPages_gov s _
@[simp] theorem withPendPages_cal (s : State) (v : List Nat) : (s.withPendPages v).cal = s.cal := with_pendPages_cal s _
@[simp] theorem withPendPages_flx (s : State) (v : List Nat) : (s.withPendPages v).flx = s.flx := with_pendPages_flx s _
@[simp] theorem withPendPages_seg (s : State) (v : List Nat) : (s.withPendPages v).seg = s.seg := with_pendPages_seg s _
@[simp] theorem withPendPages_thm (s : State) (v : List Nat) : (s.withPendPages v).thm = s.thm := with_pendPages_thm s _
@[simp] theorem withPendPages_pwr (s : State) (v : List Nat) : (s.withPendPages v).pwr = s.pwr := with_pendPages_pwr s _
@[simp] theorem withPendPages_sec (s : State) (v : List Nat) : (s.withPendPages v).sec = s.sec := with_pendPages_sec s _
@[simp] theorem withPendPages_fus (s : State) (v : List Nat) : (s.withPendPages v).fus = s.fus := with_pendPages_fus s _
@[simp] theorem withPendPages_upd (s : State) (v : List Nat) : (s.withPendPages v).upd = s.upd := with_pendPages_upd s _
@[simp] theorem withPendPages_readData (s : State) (v : List Nat) : (s.withPendPages v).readData = s.readData := with_pendPages_readData s _
@[simp] theorem withPendPages_fresh (s : State) (v : List Nat) : (s.withPendPages v).fresh = s.fresh := with_pendPages_fresh s _
@[simp] theorem withPendPages_pending (s : State) (v : List Nat) : (s.withPendPages v).pending = s.pending := with_pendPages_pending s _
@[simp] theorem withPendPages_word (s : State) (v : List Nat) (a' : Nat) : (s.withPendPages v).word a' = s.word a' := by simp [State.word]
@[simp] theorem withPendPages_g (s : State) (v : List Nat) (x : Fld) : (s.withPendPages v).g x = s.g x := by simp [State.g]
@[simp] theorem withPendPages_on (s : State) (v : List Nat) (x : Fld) : (s.withPendPages v).on x = s.on x := by simp [State.on]
@[simp] theorem withPendPages_byte (s : State) (v : List Nat) (a' : Nat) : (s.withPendPages v).byte a' = s.byte a' := by simp [State.byte]

/-! ### withMem -/

@[simp] theorem withMem_regs (s : State) (v : List Host.Cell) : (s.withMem v).regs = s.regs := with_mem_regs s _
@[simp] theorem withMem_shadow (s : State) (v : List Host.Cell) : (s.withMem v).shadow = s.shadow := with_mem_shadow s _
@[simp] theorem withMem_pend (s : State) (v : List Host.Cell) : (s.withMem v).pend = s.pend := with_mem_pend s _
@[simp] theorem withMem_pendPages (s : State) (v : List Host.Cell) : (s.withMem v).pendPages = s.pendPages := with_mem_pendPages s _
@[simp] theorem withMem_latches (s : State) (v : List Host.Cell) : (s.withMem v).latches = s.latches := with_mem_latches s _
@[simp] theorem withMem_now (s : State) (v : List Host.Cell) : (s.withMem v).now = s.now := with_mem_now s _
@[simp] theorem withMem_ohSub (s : State) (v : List Host.Cell) : (s.withMem v).ohSub = s.ohSub := with_mem_ohSub s _
@[simp] theorem withMem_lt (s : State) (v : List Host.Cell) : (s.withMem v).lt = s.lt := with_mem_lt s _
@[simp] theorem withMem_slew (s : State) (v : List Host.Cell) : (s.withMem v).slew = s.slew := with_mem_slew s _
@[simp] theorem withMem_ltApplied (s : State) (v : List Host.Cell) : (s.withMem v).ltApplied = s.ltApplied := with_mem_ltApplied s _
@[simp] theorem withMem_flt (s : State) (v : List Host.Cell) : (s.withMem v).flt = s.flt := with_mem_flt s _
@[simp] theorem withMem_evr (s : State) (v : List Host.Cell) : (s.withMem v).evr = s.evr := with_mem_evr s _
@[simp] theorem withMem_saf (s : State) (v : List Host.Cell) : (s.withMem v).saf = s.saf := with_mem_saf s _
@[simp] theorem withMem_rst (s : State) (v : List Host.Cell) : (s.withMem v).rst = s.rst := with_mem_rst s _
@[simp] theorem withMem_quartz (s : State) (v : List Host.Cell) : (s.withMem v).quartz = s.quartz := with_mem_quartz s _
@[simp] theorem withMem_lnkA (s : State) (v : List Host.Cell) : (s.withMem v).lnkA = s.lnkA := with_mem_lnkA s _
@[simp] theorem withMem_lnkB (s : State) (v : List Host.Cell) : (s.withMem v).lnkB = s.lnkB := with_mem_lnkB s _
@[simp] theorem withMem_csf (s : State) (v : List Host.Cell) : (s.withMem v).csf = s.csf := with_mem_csf s _
@[simp] theorem withMem_side (s : State) (v : List Host.Cell) : (s.withMem v).side = s.side := with_mem_side s _
@[simp] theorem withMem_spi (s : State) (v : List Host.Cell) : (s.withMem v).spi = s.spi := with_mem_spi s _
@[simp] theorem withMem_cmd (s : State) (v : List Host.Cell) : (s.withMem v).cmd = s.cmd := with_mem_cmd s _
@[simp] theorem withMem_cmp (s : State) (v : List Host.Cell) : (s.withMem v).cmp = s.cmp := with_mem_cmp s _
@[simp] theorem withMem_glare (s : State) (v : List Host.Cell) : (s.withMem v).glare = s.glare := with_mem_glare s _
@[simp] theorem withMem_lanes (s : State) (v : List Host.Cell) : (s.withMem v).lanes = s.lanes := with_mem_lanes s _
@[simp] theorem withMem_tln (s : State) (v : List Host.Cell) : (s.withMem v).tln = s.tln := with_mem_tln s _
@[simp] theorem withMem_gov (s : State) (v : List Host.Cell) : (s.withMem v).gov = s.gov := with_mem_gov s _
@[simp] theorem withMem_cal (s : State) (v : List Host.Cell) : (s.withMem v).cal = s.cal := with_mem_cal s _
@[simp] theorem withMem_flx (s : State) (v : List Host.Cell) : (s.withMem v).flx = s.flx := with_mem_flx s _
@[simp] theorem withMem_seg (s : State) (v : List Host.Cell) : (s.withMem v).seg = s.seg := with_mem_seg s _
@[simp] theorem withMem_thm (s : State) (v : List Host.Cell) : (s.withMem v).thm = s.thm := with_mem_thm s _
@[simp] theorem withMem_pwr (s : State) (v : List Host.Cell) : (s.withMem v).pwr = s.pwr := with_mem_pwr s _
@[simp] theorem withMem_sec (s : State) (v : List Host.Cell) : (s.withMem v).sec = s.sec := with_mem_sec s _
@[simp] theorem withMem_fus (s : State) (v : List Host.Cell) : (s.withMem v).fus = s.fus := with_mem_fus s _
@[simp] theorem withMem_upd (s : State) (v : List Host.Cell) : (s.withMem v).upd = s.upd := with_mem_upd s _
@[simp] theorem withMem_readData (s : State) (v : List Host.Cell) : (s.withMem v).readData = s.readData := with_mem_readData s _
@[simp] theorem withMem_fresh (s : State) (v : List Host.Cell) : (s.withMem v).fresh = s.fresh := with_mem_fresh s _
@[simp] theorem withMem_pending (s : State) (v : List Host.Cell) : (s.withMem v).pending = s.pending := with_mem_pending s _
@[simp] theorem withMem_word (s : State) (v : List Host.Cell) (a' : Nat) : (s.withMem v).word a' = s.word a' := by simp [State.word]
@[simp] theorem withMem_g (s : State) (v : List Host.Cell) (x : Fld) : (s.withMem v).g x = s.g x := by simp [State.g]
@[simp] theorem withMem_on (s : State) (v : List Host.Cell) (x : Fld) : (s.withMem v).on x = s.on x := by simp [State.on]

/-! ### withLatches -/

@[simp] theorem withLatches_regs (s : State) (v : List ((Nat × Nat) × Word)) : (s.withLatches v).regs = s.regs := with_latches_regs s _
@[simp] theorem withLatches_shadow (s : State) (v : List ((Nat × Nat) × Word)) : (s.withLatches v).shadow = s.shadow := with_latches_shadow s _
@[simp] theorem withLatches_pend (s : State) (v : List ((Nat × Nat) × Word)) : (s.withLatches v).pend = s.pend := with_latches_pend s _
@[simp] theorem withLatches_pendPages (s : State) (v : List ((Nat × Nat) × Word)) : (s.withLatches v).pendPages = s.pendPages := with_latches_pendPages s _
@[simp] theorem withLatches_mem (s : State) (v : List ((Nat × Nat) × Word)) : (s.withLatches v).mem = s.mem := with_latches_mem s _
@[simp] theorem withLatches_now (s : State) (v : List ((Nat × Nat) × Word)) : (s.withLatches v).now = s.now := with_latches_now s _
@[simp] theorem withLatches_ohSub (s : State) (v : List ((Nat × Nat) × Word)) : (s.withLatches v).ohSub = s.ohSub := with_latches_ohSub s _
@[simp] theorem withLatches_lt (s : State) (v : List ((Nat × Nat) × Word)) : (s.withLatches v).lt = s.lt := with_latches_lt s _
@[simp] theorem withLatches_slew (s : State) (v : List ((Nat × Nat) × Word)) : (s.withLatches v).slew = s.slew := with_latches_slew s _
@[simp] theorem withLatches_ltApplied (s : State) (v : List ((Nat × Nat) × Word)) : (s.withLatches v).ltApplied = s.ltApplied := with_latches_ltApplied s _
@[simp] theorem withLatches_flt (s : State) (v : List ((Nat × Nat) × Word)) : (s.withLatches v).flt = s.flt := with_latches_flt s _
@[simp] theorem withLatches_evr (s : State) (v : List ((Nat × Nat) × Word)) : (s.withLatches v).evr = s.evr := with_latches_evr s _
@[simp] theorem withLatches_saf (s : State) (v : List ((Nat × Nat) × Word)) : (s.withLatches v).saf = s.saf := with_latches_saf s _
@[simp] theorem withLatches_rst (s : State) (v : List ((Nat × Nat) × Word)) : (s.withLatches v).rst = s.rst := with_latches_rst s _
@[simp] theorem withLatches_quartz (s : State) (v : List ((Nat × Nat) × Word)) : (s.withLatches v).quartz = s.quartz := with_latches_quartz s _
@[simp] theorem withLatches_lnkA (s : State) (v : List ((Nat × Nat) × Word)) : (s.withLatches v).lnkA = s.lnkA := with_latches_lnkA s _
@[simp] theorem withLatches_lnkB (s : State) (v : List ((Nat × Nat) × Word)) : (s.withLatches v).lnkB = s.lnkB := with_latches_lnkB s _
@[simp] theorem withLatches_csf (s : State) (v : List ((Nat × Nat) × Word)) : (s.withLatches v).csf = s.csf := with_latches_csf s _
@[simp] theorem withLatches_side (s : State) (v : List ((Nat × Nat) × Word)) : (s.withLatches v).side = s.side := with_latches_side s _
@[simp] theorem withLatches_spi (s : State) (v : List ((Nat × Nat) × Word)) : (s.withLatches v).spi = s.spi := with_latches_spi s _
@[simp] theorem withLatches_cmd (s : State) (v : List ((Nat × Nat) × Word)) : (s.withLatches v).cmd = s.cmd := with_latches_cmd s _
@[simp] theorem withLatches_cmp (s : State) (v : List ((Nat × Nat) × Word)) : (s.withLatches v).cmp = s.cmp := with_latches_cmp s _
@[simp] theorem withLatches_glare (s : State) (v : List ((Nat × Nat) × Word)) : (s.withLatches v).glare = s.glare := with_latches_glare s _
@[simp] theorem withLatches_lanes (s : State) (v : List ((Nat × Nat) × Word)) : (s.withLatches v).lanes = s.lanes := with_latches_lanes s _
@[simp] theorem withLatches_tln (s : State) (v : List ((Nat × Nat) × Word)) : (s.withLatches v).tln = s.tln := with_latches_tln s _
@[simp] theorem withLatches_gov (s : State) (v : List ((Nat × Nat) × Word)) : (s.withLatches v).gov = s.gov := with_latches_gov s _
@[simp] theorem withLatches_cal (s : State) (v : List ((Nat × Nat) × Word)) : (s.withLatches v).cal = s.cal := with_latches_cal s _
@[simp] theorem withLatches_flx (s : State) (v : List ((Nat × Nat) × Word)) : (s.withLatches v).flx = s.flx := with_latches_flx s _
@[simp] theorem withLatches_seg (s : State) (v : List ((Nat × Nat) × Word)) : (s.withLatches v).seg = s.seg := with_latches_seg s _
@[simp] theorem withLatches_thm (s : State) (v : List ((Nat × Nat) × Word)) : (s.withLatches v).thm = s.thm := with_latches_thm s _
@[simp] theorem withLatches_pwr (s : State) (v : List ((Nat × Nat) × Word)) : (s.withLatches v).pwr = s.pwr := with_latches_pwr s _
@[simp] theorem withLatches_sec (s : State) (v : List ((Nat × Nat) × Word)) : (s.withLatches v).sec = s.sec := with_latches_sec s _
@[simp] theorem withLatches_fus (s : State) (v : List ((Nat × Nat) × Word)) : (s.withLatches v).fus = s.fus := with_latches_fus s _
@[simp] theorem withLatches_upd (s : State) (v : List ((Nat × Nat) × Word)) : (s.withLatches v).upd = s.upd := with_latches_upd s _
@[simp] theorem withLatches_readData (s : State) (v : List ((Nat × Nat) × Word)) : (s.withLatches v).readData = s.readData := with_latches_readData s _
@[simp] theorem withLatches_fresh (s : State) (v : List ((Nat × Nat) × Word)) : (s.withLatches v).fresh = s.fresh := with_latches_fresh s _
@[simp] theorem withLatches_pending (s : State) (v : List ((Nat × Nat) × Word)) : (s.withLatches v).pending = s.pending := with_latches_pending s _
@[simp] theorem withLatches_word (s : State) (v : List ((Nat × Nat) × Word)) (a' : Nat) : (s.withLatches v).word a' = s.word a' := by simp [State.word]
@[simp] theorem withLatches_g (s : State) (v : List ((Nat × Nat) × Word)) (x : Fld) : (s.withLatches v).g x = s.g x := by simp [State.g]
@[simp] theorem withLatches_on (s : State) (v : List ((Nat × Nat) × Word)) (x : Fld) : (s.withLatches v).on x = s.on x := by simp [State.on]
@[simp] theorem withLatches_byte (s : State) (v : List ((Nat × Nat) × Word)) (a' : Nat) : (s.withLatches v).byte a' = s.byte a' := by simp [State.byte]

/-! ### withNow -/

@[simp] theorem withNow_regs (s : State) (v : Nat) : (s.withNow v).regs = s.regs := with_now_regs s _
@[simp] theorem withNow_shadow (s : State) (v : Nat) : (s.withNow v).shadow = s.shadow := with_now_shadow s _
@[simp] theorem withNow_pend (s : State) (v : Nat) : (s.withNow v).pend = s.pend := with_now_pend s _
@[simp] theorem withNow_pendPages (s : State) (v : Nat) : (s.withNow v).pendPages = s.pendPages := with_now_pendPages s _
@[simp] theorem withNow_mem (s : State) (v : Nat) : (s.withNow v).mem = s.mem := with_now_mem s _
@[simp] theorem withNow_latches (s : State) (v : Nat) : (s.withNow v).latches = s.latches := with_now_latches s _
@[simp] theorem withNow_ohSub (s : State) (v : Nat) : (s.withNow v).ohSub = s.ohSub := with_now_ohSub s _
@[simp] theorem withNow_lt (s : State) (v : Nat) : (s.withNow v).lt = s.lt := with_now_lt s _
@[simp] theorem withNow_slew (s : State) (v : Nat) : (s.withNow v).slew = s.slew := with_now_slew s _
@[simp] theorem withNow_ltApplied (s : State) (v : Nat) : (s.withNow v).ltApplied = s.ltApplied := with_now_ltApplied s _
@[simp] theorem withNow_flt (s : State) (v : Nat) : (s.withNow v).flt = s.flt := with_now_flt s _
@[simp] theorem withNow_evr (s : State) (v : Nat) : (s.withNow v).evr = s.evr := with_now_evr s _
@[simp] theorem withNow_saf (s : State) (v : Nat) : (s.withNow v).saf = s.saf := with_now_saf s _
@[simp] theorem withNow_rst (s : State) (v : Nat) : (s.withNow v).rst = s.rst := with_now_rst s _
@[simp] theorem withNow_quartz (s : State) (v : Nat) : (s.withNow v).quartz = s.quartz := with_now_quartz s _
@[simp] theorem withNow_lnkA (s : State) (v : Nat) : (s.withNow v).lnkA = s.lnkA := with_now_lnkA s _
@[simp] theorem withNow_lnkB (s : State) (v : Nat) : (s.withNow v).lnkB = s.lnkB := with_now_lnkB s _
@[simp] theorem withNow_csf (s : State) (v : Nat) : (s.withNow v).csf = s.csf := with_now_csf s _
@[simp] theorem withNow_side (s : State) (v : Nat) : (s.withNow v).side = s.side := with_now_side s _
@[simp] theorem withNow_spi (s : State) (v : Nat) : (s.withNow v).spi = s.spi := with_now_spi s _
@[simp] theorem withNow_cmd (s : State) (v : Nat) : (s.withNow v).cmd = s.cmd := with_now_cmd s _
@[simp] theorem withNow_cmp (s : State) (v : Nat) : (s.withNow v).cmp = s.cmp := with_now_cmp s _
@[simp] theorem withNow_glare (s : State) (v : Nat) : (s.withNow v).glare = s.glare := with_now_glare s _
@[simp] theorem withNow_lanes (s : State) (v : Nat) : (s.withNow v).lanes = s.lanes := with_now_lanes s _
@[simp] theorem withNow_tln (s : State) (v : Nat) : (s.withNow v).tln = s.tln := with_now_tln s _
@[simp] theorem withNow_gov (s : State) (v : Nat) : (s.withNow v).gov = s.gov := with_now_gov s _
@[simp] theorem withNow_cal (s : State) (v : Nat) : (s.withNow v).cal = s.cal := with_now_cal s _
@[simp] theorem withNow_flx (s : State) (v : Nat) : (s.withNow v).flx = s.flx := with_now_flx s _
@[simp] theorem withNow_seg (s : State) (v : Nat) : (s.withNow v).seg = s.seg := with_now_seg s _
@[simp] theorem withNow_thm (s : State) (v : Nat) : (s.withNow v).thm = s.thm := with_now_thm s _
@[simp] theorem withNow_pwr (s : State) (v : Nat) : (s.withNow v).pwr = s.pwr := with_now_pwr s _
@[simp] theorem withNow_sec (s : State) (v : Nat) : (s.withNow v).sec = s.sec := with_now_sec s _
@[simp] theorem withNow_fus (s : State) (v : Nat) : (s.withNow v).fus = s.fus := with_now_fus s _
@[simp] theorem withNow_upd (s : State) (v : Nat) : (s.withNow v).upd = s.upd := with_now_upd s _
@[simp] theorem withNow_readData (s : State) (v : Nat) : (s.withNow v).readData = s.readData := with_now_readData s _
@[simp] theorem withNow_fresh (s : State) (v : Nat) : (s.withNow v).fresh = s.fresh := with_now_fresh s _
@[simp] theorem withNow_pending (s : State) (v : Nat) : (s.withNow v).pending = s.pending := with_now_pending s _
@[simp] theorem withNow_word (s : State) (v : Nat) (a' : Nat) : (s.withNow v).word a' = s.word a' := by simp [State.word]
@[simp] theorem withNow_g (s : State) (v : Nat) (x : Fld) : (s.withNow v).g x = s.g x := by simp [State.g]
@[simp] theorem withNow_on (s : State) (v : Nat) (x : Fld) : (s.withNow v).on x = s.on x := by simp [State.on]
@[simp] theorem withNow_byte (s : State) (v : Nat) (a' : Nat) : (s.withNow v).byte a' = s.byte a' := by simp [State.byte]

/-! ### withOhSub -/

@[simp] theorem withOhSub_regs (s : State) (v : Nat) : (s.withOhSub v).regs = s.regs := with_ohSub_regs s _
@[simp] theorem withOhSub_shadow (s : State) (v : Nat) : (s.withOhSub v).shadow = s.shadow := with_ohSub_shadow s _
@[simp] theorem withOhSub_pend (s : State) (v : Nat) : (s.withOhSub v).pend = s.pend := with_ohSub_pend s _
@[simp] theorem withOhSub_pendPages (s : State) (v : Nat) : (s.withOhSub v).pendPages = s.pendPages := with_ohSub_pendPages s _
@[simp] theorem withOhSub_mem (s : State) (v : Nat) : (s.withOhSub v).mem = s.mem := with_ohSub_mem s _
@[simp] theorem withOhSub_latches (s : State) (v : Nat) : (s.withOhSub v).latches = s.latches := with_ohSub_latches s _
@[simp] theorem withOhSub_now (s : State) (v : Nat) : (s.withOhSub v).now = s.now := with_ohSub_now s _
@[simp] theorem withOhSub_lt (s : State) (v : Nat) : (s.withOhSub v).lt = s.lt := with_ohSub_lt s _
@[simp] theorem withOhSub_slew (s : State) (v : Nat) : (s.withOhSub v).slew = s.slew := with_ohSub_slew s _
@[simp] theorem withOhSub_ltApplied (s : State) (v : Nat) : (s.withOhSub v).ltApplied = s.ltApplied := with_ohSub_ltApplied s _
@[simp] theorem withOhSub_flt (s : State) (v : Nat) : (s.withOhSub v).flt = s.flt := with_ohSub_flt s _
@[simp] theorem withOhSub_evr (s : State) (v : Nat) : (s.withOhSub v).evr = s.evr := with_ohSub_evr s _
@[simp] theorem withOhSub_saf (s : State) (v : Nat) : (s.withOhSub v).saf = s.saf := with_ohSub_saf s _
@[simp] theorem withOhSub_rst (s : State) (v : Nat) : (s.withOhSub v).rst = s.rst := with_ohSub_rst s _
@[simp] theorem withOhSub_quartz (s : State) (v : Nat) : (s.withOhSub v).quartz = s.quartz := with_ohSub_quartz s _
@[simp] theorem withOhSub_lnkA (s : State) (v : Nat) : (s.withOhSub v).lnkA = s.lnkA := with_ohSub_lnkA s _
@[simp] theorem withOhSub_lnkB (s : State) (v : Nat) : (s.withOhSub v).lnkB = s.lnkB := with_ohSub_lnkB s _
@[simp] theorem withOhSub_csf (s : State) (v : Nat) : (s.withOhSub v).csf = s.csf := with_ohSub_csf s _
@[simp] theorem withOhSub_side (s : State) (v : Nat) : (s.withOhSub v).side = s.side := with_ohSub_side s _
@[simp] theorem withOhSub_spi (s : State) (v : Nat) : (s.withOhSub v).spi = s.spi := with_ohSub_spi s _
@[simp] theorem withOhSub_cmd (s : State) (v : Nat) : (s.withOhSub v).cmd = s.cmd := with_ohSub_cmd s _
@[simp] theorem withOhSub_cmp (s : State) (v : Nat) : (s.withOhSub v).cmp = s.cmp := with_ohSub_cmp s _
@[simp] theorem withOhSub_glare (s : State) (v : Nat) : (s.withOhSub v).glare = s.glare := with_ohSub_glare s _
@[simp] theorem withOhSub_lanes (s : State) (v : Nat) : (s.withOhSub v).lanes = s.lanes := with_ohSub_lanes s _
@[simp] theorem withOhSub_tln (s : State) (v : Nat) : (s.withOhSub v).tln = s.tln := with_ohSub_tln s _
@[simp] theorem withOhSub_gov (s : State) (v : Nat) : (s.withOhSub v).gov = s.gov := with_ohSub_gov s _
@[simp] theorem withOhSub_cal (s : State) (v : Nat) : (s.withOhSub v).cal = s.cal := with_ohSub_cal s _
@[simp] theorem withOhSub_flx (s : State) (v : Nat) : (s.withOhSub v).flx = s.flx := with_ohSub_flx s _
@[simp] theorem withOhSub_seg (s : State) (v : Nat) : (s.withOhSub v).seg = s.seg := with_ohSub_seg s _
@[simp] theorem withOhSub_thm (s : State) (v : Nat) : (s.withOhSub v).thm = s.thm := with_ohSub_thm s _
@[simp] theorem withOhSub_pwr (s : State) (v : Nat) : (s.withOhSub v).pwr = s.pwr := with_ohSub_pwr s _
@[simp] theorem withOhSub_sec (s : State) (v : Nat) : (s.withOhSub v).sec = s.sec := with_ohSub_sec s _
@[simp] theorem withOhSub_fus (s : State) (v : Nat) : (s.withOhSub v).fus = s.fus := with_ohSub_fus s _
@[simp] theorem withOhSub_upd (s : State) (v : Nat) : (s.withOhSub v).upd = s.upd := with_ohSub_upd s _
@[simp] theorem withOhSub_readData (s : State) (v : Nat) : (s.withOhSub v).readData = s.readData := with_ohSub_readData s _
@[simp] theorem withOhSub_fresh (s : State) (v : Nat) : (s.withOhSub v).fresh = s.fresh := with_ohSub_fresh s _
@[simp] theorem withOhSub_pending (s : State) (v : Nat) : (s.withOhSub v).pending = s.pending := with_ohSub_pending s _
@[simp] theorem withOhSub_word (s : State) (v : Nat) (a' : Nat) : (s.withOhSub v).word a' = s.word a' := by simp [State.word]
@[simp] theorem withOhSub_g (s : State) (v : Nat) (x : Fld) : (s.withOhSub v).g x = s.g x := by simp [State.g]
@[simp] theorem withOhSub_on (s : State) (v : Nat) (x : Fld) : (s.withOhSub v).on x = s.on x := by simp [State.on]
@[simp] theorem withOhSub_byte (s : State) (v : Nat) (a' : Nat) : (s.withOhSub v).byte a' = s.byte a' := by simp [State.byte]

/-! ### withLt -/

@[simp] theorem withLt_regs (s : State) (v : Nat) : (s.withLt v).regs = s.regs := with_lt_regs s _
@[simp] theorem withLt_shadow (s : State) (v : Nat) : (s.withLt v).shadow = s.shadow := with_lt_shadow s _
@[simp] theorem withLt_pend (s : State) (v : Nat) : (s.withLt v).pend = s.pend := with_lt_pend s _
@[simp] theorem withLt_pendPages (s : State) (v : Nat) : (s.withLt v).pendPages = s.pendPages := with_lt_pendPages s _
@[simp] theorem withLt_mem (s : State) (v : Nat) : (s.withLt v).mem = s.mem := with_lt_mem s _
@[simp] theorem withLt_latches (s : State) (v : Nat) : (s.withLt v).latches = s.latches := with_lt_latches s _
@[simp] theorem withLt_now (s : State) (v : Nat) : (s.withLt v).now = s.now := with_lt_now s _
@[simp] theorem withLt_ohSub (s : State) (v : Nat) : (s.withLt v).ohSub = s.ohSub := with_lt_ohSub s _
@[simp] theorem withLt_slew (s : State) (v : Nat) : (s.withLt v).slew = s.slew := with_lt_slew s _
@[simp] theorem withLt_ltApplied (s : State) (v : Nat) : (s.withLt v).ltApplied = s.ltApplied := with_lt_ltApplied s _
@[simp] theorem withLt_flt (s : State) (v : Nat) : (s.withLt v).flt = s.flt := with_lt_flt s _
@[simp] theorem withLt_evr (s : State) (v : Nat) : (s.withLt v).evr = s.evr := with_lt_evr s _
@[simp] theorem withLt_saf (s : State) (v : Nat) : (s.withLt v).saf = s.saf := with_lt_saf s _
@[simp] theorem withLt_rst (s : State) (v : Nat) : (s.withLt v).rst = s.rst := with_lt_rst s _
@[simp] theorem withLt_quartz (s : State) (v : Nat) : (s.withLt v).quartz = s.quartz := with_lt_quartz s _
@[simp] theorem withLt_lnkA (s : State) (v : Nat) : (s.withLt v).lnkA = s.lnkA := with_lt_lnkA s _
@[simp] theorem withLt_lnkB (s : State) (v : Nat) : (s.withLt v).lnkB = s.lnkB := with_lt_lnkB s _
@[simp] theorem withLt_csf (s : State) (v : Nat) : (s.withLt v).csf = s.csf := with_lt_csf s _
@[simp] theorem withLt_side (s : State) (v : Nat) : (s.withLt v).side = s.side := with_lt_side s _
@[simp] theorem withLt_spi (s : State) (v : Nat) : (s.withLt v).spi = s.spi := with_lt_spi s _
@[simp] theorem withLt_cmd (s : State) (v : Nat) : (s.withLt v).cmd = s.cmd := with_lt_cmd s _
@[simp] theorem withLt_cmp (s : State) (v : Nat) : (s.withLt v).cmp = s.cmp := with_lt_cmp s _
@[simp] theorem withLt_glare (s : State) (v : Nat) : (s.withLt v).glare = s.glare := with_lt_glare s _
@[simp] theorem withLt_lanes (s : State) (v : Nat) : (s.withLt v).lanes = s.lanes := with_lt_lanes s _
@[simp] theorem withLt_tln (s : State) (v : Nat) : (s.withLt v).tln = s.tln := with_lt_tln s _
@[simp] theorem withLt_gov (s : State) (v : Nat) : (s.withLt v).gov = s.gov := with_lt_gov s _
@[simp] theorem withLt_cal (s : State) (v : Nat) : (s.withLt v).cal = s.cal := with_lt_cal s _
@[simp] theorem withLt_flx (s : State) (v : Nat) : (s.withLt v).flx = s.flx := with_lt_flx s _
@[simp] theorem withLt_seg (s : State) (v : Nat) : (s.withLt v).seg = s.seg := with_lt_seg s _
@[simp] theorem withLt_thm (s : State) (v : Nat) : (s.withLt v).thm = s.thm := with_lt_thm s _
@[simp] theorem withLt_pwr (s : State) (v : Nat) : (s.withLt v).pwr = s.pwr := with_lt_pwr s _
@[simp] theorem withLt_sec (s : State) (v : Nat) : (s.withLt v).sec = s.sec := with_lt_sec s _
@[simp] theorem withLt_fus (s : State) (v : Nat) : (s.withLt v).fus = s.fus := with_lt_fus s _
@[simp] theorem withLt_upd (s : State) (v : Nat) : (s.withLt v).upd = s.upd := with_lt_upd s _
@[simp] theorem withLt_readData (s : State) (v : Nat) : (s.withLt v).readData = s.readData := with_lt_readData s _
@[simp] theorem withLt_fresh (s : State) (v : Nat) : (s.withLt v).fresh = s.fresh := with_lt_fresh s _
@[simp] theorem withLt_pending (s : State) (v : Nat) : (s.withLt v).pending = s.pending := with_lt_pending s _
@[simp] theorem withLt_word (s : State) (v : Nat) (a' : Nat) : (s.withLt v).word a' = s.word a' := by simp [State.word]
@[simp] theorem withLt_g (s : State) (v : Nat) (x : Fld) : (s.withLt v).g x = s.g x := by simp [State.g]
@[simp] theorem withLt_on (s : State) (v : Nat) (x : Fld) : (s.withLt v).on x = s.on x := by simp [State.on]
@[simp] theorem withLt_byte (s : State) (v : Nat) (a' : Nat) : (s.withLt v).byte a' = s.byte a' := by simp [State.byte]

/-! ### withSlew -/

@[simp] theorem withSlew_regs (s : State) (v : Int) : (s.withSlew v).regs = s.regs := with_slew_regs s _
@[simp] theorem withSlew_shadow (s : State) (v : Int) : (s.withSlew v).shadow = s.shadow := with_slew_shadow s _
@[simp] theorem withSlew_pend (s : State) (v : Int) : (s.withSlew v).pend = s.pend := with_slew_pend s _
@[simp] theorem withSlew_pendPages (s : State) (v : Int) : (s.withSlew v).pendPages = s.pendPages := with_slew_pendPages s _
@[simp] theorem withSlew_mem (s : State) (v : Int) : (s.withSlew v).mem = s.mem := with_slew_mem s _
@[simp] theorem withSlew_latches (s : State) (v : Int) : (s.withSlew v).latches = s.latches := with_slew_latches s _
@[simp] theorem withSlew_now (s : State) (v : Int) : (s.withSlew v).now = s.now := with_slew_now s _
@[simp] theorem withSlew_ohSub (s : State) (v : Int) : (s.withSlew v).ohSub = s.ohSub := with_slew_ohSub s _
@[simp] theorem withSlew_lt (s : State) (v : Int) : (s.withSlew v).lt = s.lt := with_slew_lt s _
@[simp] theorem withSlew_ltApplied (s : State) (v : Int) : (s.withSlew v).ltApplied = s.ltApplied := with_slew_ltApplied s _
@[simp] theorem withSlew_flt (s : State) (v : Int) : (s.withSlew v).flt = s.flt := with_slew_flt s _
@[simp] theorem withSlew_evr (s : State) (v : Int) : (s.withSlew v).evr = s.evr := with_slew_evr s _
@[simp] theorem withSlew_saf (s : State) (v : Int) : (s.withSlew v).saf = s.saf := with_slew_saf s _
@[simp] theorem withSlew_rst (s : State) (v : Int) : (s.withSlew v).rst = s.rst := with_slew_rst s _
@[simp] theorem withSlew_quartz (s : State) (v : Int) : (s.withSlew v).quartz = s.quartz := with_slew_quartz s _
@[simp] theorem withSlew_lnkA (s : State) (v : Int) : (s.withSlew v).lnkA = s.lnkA := with_slew_lnkA s _
@[simp] theorem withSlew_lnkB (s : State) (v : Int) : (s.withSlew v).lnkB = s.lnkB := with_slew_lnkB s _
@[simp] theorem withSlew_csf (s : State) (v : Int) : (s.withSlew v).csf = s.csf := with_slew_csf s _
@[simp] theorem withSlew_side (s : State) (v : Int) : (s.withSlew v).side = s.side := with_slew_side s _
@[simp] theorem withSlew_spi (s : State) (v : Int) : (s.withSlew v).spi = s.spi := with_slew_spi s _
@[simp] theorem withSlew_cmd (s : State) (v : Int) : (s.withSlew v).cmd = s.cmd := with_slew_cmd s _
@[simp] theorem withSlew_cmp (s : State) (v : Int) : (s.withSlew v).cmp = s.cmp := with_slew_cmp s _
@[simp] theorem withSlew_glare (s : State) (v : Int) : (s.withSlew v).glare = s.glare := with_slew_glare s _
@[simp] theorem withSlew_lanes (s : State) (v : Int) : (s.withSlew v).lanes = s.lanes := with_slew_lanes s _
@[simp] theorem withSlew_tln (s : State) (v : Int) : (s.withSlew v).tln = s.tln := with_slew_tln s _
@[simp] theorem withSlew_gov (s : State) (v : Int) : (s.withSlew v).gov = s.gov := with_slew_gov s _
@[simp] theorem withSlew_cal (s : State) (v : Int) : (s.withSlew v).cal = s.cal := with_slew_cal s _
@[simp] theorem withSlew_flx (s : State) (v : Int) : (s.withSlew v).flx = s.flx := with_slew_flx s _
@[simp] theorem withSlew_seg (s : State) (v : Int) : (s.withSlew v).seg = s.seg := with_slew_seg s _
@[simp] theorem withSlew_thm (s : State) (v : Int) : (s.withSlew v).thm = s.thm := with_slew_thm s _
@[simp] theorem withSlew_pwr (s : State) (v : Int) : (s.withSlew v).pwr = s.pwr := with_slew_pwr s _
@[simp] theorem withSlew_sec (s : State) (v : Int) : (s.withSlew v).sec = s.sec := with_slew_sec s _
@[simp] theorem withSlew_fus (s : State) (v : Int) : (s.withSlew v).fus = s.fus := with_slew_fus s _
@[simp] theorem withSlew_upd (s : State) (v : Int) : (s.withSlew v).upd = s.upd := with_slew_upd s _
@[simp] theorem withSlew_readData (s : State) (v : Int) : (s.withSlew v).readData = s.readData := with_slew_readData s _
@[simp] theorem withSlew_fresh (s : State) (v : Int) : (s.withSlew v).fresh = s.fresh := with_slew_fresh s _
@[simp] theorem withSlew_pending (s : State) (v : Int) : (s.withSlew v).pending = s.pending := with_slew_pending s _
@[simp] theorem withSlew_word (s : State) (v : Int) (a' : Nat) : (s.withSlew v).word a' = s.word a' := by simp [State.word]
@[simp] theorem withSlew_g (s : State) (v : Int) (x : Fld) : (s.withSlew v).g x = s.g x := by simp [State.g]
@[simp] theorem withSlew_on (s : State) (v : Int) (x : Fld) : (s.withSlew v).on x = s.on x := by simp [State.on]
@[simp] theorem withSlew_byte (s : State) (v : Int) (a' : Nat) : (s.withSlew v).byte a' = s.byte a' := by simp [State.byte]

/-! ### withLtApplied -/

@[simp] theorem withLtApplied_regs (s : State) (v : Option Nat) : (s.withLtApplied v).regs = s.regs := with_ltApplied_regs s _
@[simp] theorem withLtApplied_shadow (s : State) (v : Option Nat) : (s.withLtApplied v).shadow = s.shadow := with_ltApplied_shadow s _
@[simp] theorem withLtApplied_pend (s : State) (v : Option Nat) : (s.withLtApplied v).pend = s.pend := with_ltApplied_pend s _
@[simp] theorem withLtApplied_pendPages (s : State) (v : Option Nat) : (s.withLtApplied v).pendPages = s.pendPages := with_ltApplied_pendPages s _
@[simp] theorem withLtApplied_mem (s : State) (v : Option Nat) : (s.withLtApplied v).mem = s.mem := with_ltApplied_mem s _
@[simp] theorem withLtApplied_latches (s : State) (v : Option Nat) : (s.withLtApplied v).latches = s.latches := with_ltApplied_latches s _
@[simp] theorem withLtApplied_now (s : State) (v : Option Nat) : (s.withLtApplied v).now = s.now := with_ltApplied_now s _
@[simp] theorem withLtApplied_ohSub (s : State) (v : Option Nat) : (s.withLtApplied v).ohSub = s.ohSub := with_ltApplied_ohSub s _
@[simp] theorem withLtApplied_lt (s : State) (v : Option Nat) : (s.withLtApplied v).lt = s.lt := with_ltApplied_lt s _
@[simp] theorem withLtApplied_slew (s : State) (v : Option Nat) : (s.withLtApplied v).slew = s.slew := with_ltApplied_slew s _
@[simp] theorem withLtApplied_flt (s : State) (v : Option Nat) : (s.withLtApplied v).flt = s.flt := with_ltApplied_flt s _
@[simp] theorem withLtApplied_evr (s : State) (v : Option Nat) : (s.withLtApplied v).evr = s.evr := with_ltApplied_evr s _
@[simp] theorem withLtApplied_saf (s : State) (v : Option Nat) : (s.withLtApplied v).saf = s.saf := with_ltApplied_saf s _
@[simp] theorem withLtApplied_rst (s : State) (v : Option Nat) : (s.withLtApplied v).rst = s.rst := with_ltApplied_rst s _
@[simp] theorem withLtApplied_quartz (s : State) (v : Option Nat) : (s.withLtApplied v).quartz = s.quartz := with_ltApplied_quartz s _
@[simp] theorem withLtApplied_lnkA (s : State) (v : Option Nat) : (s.withLtApplied v).lnkA = s.lnkA := with_ltApplied_lnkA s _
@[simp] theorem withLtApplied_lnkB (s : State) (v : Option Nat) : (s.withLtApplied v).lnkB = s.lnkB := with_ltApplied_lnkB s _
@[simp] theorem withLtApplied_csf (s : State) (v : Option Nat) : (s.withLtApplied v).csf = s.csf := with_ltApplied_csf s _
@[simp] theorem withLtApplied_side (s : State) (v : Option Nat) : (s.withLtApplied v).side = s.side := with_ltApplied_side s _
@[simp] theorem withLtApplied_spi (s : State) (v : Option Nat) : (s.withLtApplied v).spi = s.spi := with_ltApplied_spi s _
@[simp] theorem withLtApplied_cmd (s : State) (v : Option Nat) : (s.withLtApplied v).cmd = s.cmd := with_ltApplied_cmd s _
@[simp] theorem withLtApplied_cmp (s : State) (v : Option Nat) : (s.withLtApplied v).cmp = s.cmp := with_ltApplied_cmp s _
@[simp] theorem withLtApplied_glare (s : State) (v : Option Nat) : (s.withLtApplied v).glare = s.glare := with_ltApplied_glare s _
@[simp] theorem withLtApplied_lanes (s : State) (v : Option Nat) : (s.withLtApplied v).lanes = s.lanes := with_ltApplied_lanes s _
@[simp] theorem withLtApplied_tln (s : State) (v : Option Nat) : (s.withLtApplied v).tln = s.tln := with_ltApplied_tln s _
@[simp] theorem withLtApplied_gov (s : State) (v : Option Nat) : (s.withLtApplied v).gov = s.gov := with_ltApplied_gov s _
@[simp] theorem withLtApplied_cal (s : State) (v : Option Nat) : (s.withLtApplied v).cal = s.cal := with_ltApplied_cal s _
@[simp] theorem withLtApplied_flx (s : State) (v : Option Nat) : (s.withLtApplied v).flx = s.flx := with_ltApplied_flx s _
@[simp] theorem withLtApplied_seg (s : State) (v : Option Nat) : (s.withLtApplied v).seg = s.seg := with_ltApplied_seg s _
@[simp] theorem withLtApplied_thm (s : State) (v : Option Nat) : (s.withLtApplied v).thm = s.thm := with_ltApplied_thm s _
@[simp] theorem withLtApplied_pwr (s : State) (v : Option Nat) : (s.withLtApplied v).pwr = s.pwr := with_ltApplied_pwr s _
@[simp] theorem withLtApplied_sec (s : State) (v : Option Nat) : (s.withLtApplied v).sec = s.sec := with_ltApplied_sec s _
@[simp] theorem withLtApplied_fus (s : State) (v : Option Nat) : (s.withLtApplied v).fus = s.fus := with_ltApplied_fus s _
@[simp] theorem withLtApplied_upd (s : State) (v : Option Nat) : (s.withLtApplied v).upd = s.upd := with_ltApplied_upd s _
@[simp] theorem withLtApplied_readData (s : State) (v : Option Nat) : (s.withLtApplied v).readData = s.readData := with_ltApplied_readData s _
@[simp] theorem withLtApplied_fresh (s : State) (v : Option Nat) : (s.withLtApplied v).fresh = s.fresh := with_ltApplied_fresh s _
@[simp] theorem withLtApplied_pending (s : State) (v : Option Nat) : (s.withLtApplied v).pending = s.pending := with_ltApplied_pending s _
@[simp] theorem withLtApplied_word (s : State) (v : Option Nat) (a' : Nat) : (s.withLtApplied v).word a' = s.word a' := by simp [State.word]
@[simp] theorem withLtApplied_g (s : State) (v : Option Nat) (x : Fld) : (s.withLtApplied v).g x = s.g x := by simp [State.g]
@[simp] theorem withLtApplied_on (s : State) (v : Option Nat) (x : Fld) : (s.withLtApplied v).on x = s.on x := by simp [State.on]
@[simp] theorem withLtApplied_byte (s : State) (v : Option Nat) (a' : Nat) : (s.withLtApplied v).byte a' = s.byte a' := by simp [State.byte]

/-! ### withFlt -/

@[simp] theorem withFlt_regs (s : State) (v : Flt) : (s.withFlt v).regs = s.regs := with_flt_regs s _
@[simp] theorem withFlt_shadow (s : State) (v : Flt) : (s.withFlt v).shadow = s.shadow := with_flt_shadow s _
@[simp] theorem withFlt_pend (s : State) (v : Flt) : (s.withFlt v).pend = s.pend := with_flt_pend s _
@[simp] theorem withFlt_pendPages (s : State) (v : Flt) : (s.withFlt v).pendPages = s.pendPages := with_flt_pendPages s _
@[simp] theorem withFlt_mem (s : State) (v : Flt) : (s.withFlt v).mem = s.mem := with_flt_mem s _
@[simp] theorem withFlt_latches (s : State) (v : Flt) : (s.withFlt v).latches = s.latches := with_flt_latches s _
@[simp] theorem withFlt_now (s : State) (v : Flt) : (s.withFlt v).now = s.now := with_flt_now s _
@[simp] theorem withFlt_ohSub (s : State) (v : Flt) : (s.withFlt v).ohSub = s.ohSub := with_flt_ohSub s _
@[simp] theorem withFlt_lt (s : State) (v : Flt) : (s.withFlt v).lt = s.lt := with_flt_lt s _
@[simp] theorem withFlt_slew (s : State) (v : Flt) : (s.withFlt v).slew = s.slew := with_flt_slew s _
@[simp] theorem withFlt_ltApplied (s : State) (v : Flt) : (s.withFlt v).ltApplied = s.ltApplied := with_flt_ltApplied s _
@[simp] theorem withFlt_evr (s : State) (v : Flt) : (s.withFlt v).evr = s.evr := with_flt_evr s _
@[simp] theorem withFlt_saf (s : State) (v : Flt) : (s.withFlt v).saf = s.saf := with_flt_saf s _
@[simp] theorem withFlt_rst (s : State) (v : Flt) : (s.withFlt v).rst = s.rst := with_flt_rst s _
@[simp] theorem withFlt_quartz (s : State) (v : Flt) : (s.withFlt v).quartz = s.quartz := with_flt_quartz s _
@[simp] theorem withFlt_lnkA (s : State) (v : Flt) : (s.withFlt v).lnkA = s.lnkA := with_flt_lnkA s _
@[simp] theorem withFlt_lnkB (s : State) (v : Flt) : (s.withFlt v).lnkB = s.lnkB := with_flt_lnkB s _
@[simp] theorem withFlt_csf (s : State) (v : Flt) : (s.withFlt v).csf = s.csf := with_flt_csf s _
@[simp] theorem withFlt_side (s : State) (v : Flt) : (s.withFlt v).side = s.side := with_flt_side s _
@[simp] theorem withFlt_spi (s : State) (v : Flt) : (s.withFlt v).spi = s.spi := with_flt_spi s _
@[simp] theorem withFlt_cmd (s : State) (v : Flt) : (s.withFlt v).cmd = s.cmd := with_flt_cmd s _
@[simp] theorem withFlt_cmp (s : State) (v : Flt) : (s.withFlt v).cmp = s.cmp := with_flt_cmp s _
@[simp] theorem withFlt_glare (s : State) (v : Flt) : (s.withFlt v).glare = s.glare := with_flt_glare s _
@[simp] theorem withFlt_lanes (s : State) (v : Flt) : (s.withFlt v).lanes = s.lanes := with_flt_lanes s _
@[simp] theorem withFlt_tln (s : State) (v : Flt) : (s.withFlt v).tln = s.tln := with_flt_tln s _
@[simp] theorem withFlt_gov (s : State) (v : Flt) : (s.withFlt v).gov = s.gov := with_flt_gov s _
@[simp] theorem withFlt_cal (s : State) (v : Flt) : (s.withFlt v).cal = s.cal := with_flt_cal s _
@[simp] theorem withFlt_flx (s : State) (v : Flt) : (s.withFlt v).flx = s.flx := with_flt_flx s _
@[simp] theorem withFlt_seg (s : State) (v : Flt) : (s.withFlt v).seg = s.seg := with_flt_seg s _
@[simp] theorem withFlt_thm (s : State) (v : Flt) : (s.withFlt v).thm = s.thm := with_flt_thm s _
@[simp] theorem withFlt_pwr (s : State) (v : Flt) : (s.withFlt v).pwr = s.pwr := with_flt_pwr s _
@[simp] theorem withFlt_sec (s : State) (v : Flt) : (s.withFlt v).sec = s.sec := with_flt_sec s _
@[simp] theorem withFlt_fus (s : State) (v : Flt) : (s.withFlt v).fus = s.fus := with_flt_fus s _
@[simp] theorem withFlt_upd (s : State) (v : Flt) : (s.withFlt v).upd = s.upd := with_flt_upd s _
@[simp] theorem withFlt_readData (s : State) (v : Flt) : (s.withFlt v).readData = s.readData := with_flt_readData s _
@[simp] theorem withFlt_fresh (s : State) (v : Flt) : (s.withFlt v).fresh = s.fresh := with_flt_fresh s _
@[simp] theorem withFlt_pending (s : State) (v : Flt) : (s.withFlt v).pending = s.pending := with_flt_pending s _
@[simp] theorem withFlt_word (s : State) (v : Flt) (a' : Nat) : (s.withFlt v).word a' = s.word a' := by simp [State.word]
@[simp] theorem withFlt_g (s : State) (v : Flt) (x : Fld) : (s.withFlt v).g x = s.g x := by simp [State.g]
@[simp] theorem withFlt_on (s : State) (v : Flt) (x : Fld) : (s.withFlt v).on x = s.on x := by simp [State.on]
@[simp] theorem withFlt_byte (s : State) (v : Flt) (a' : Nat) : (s.withFlt v).byte a' = s.byte a' := by simp [State.byte]

/-! ### withEvr -/

@[simp] theorem withEvr_regs (s : State) (v : Evr) : (s.withEvr v).regs = s.regs := with_evr_regs s _
@[simp] theorem withEvr_shadow (s : State) (v : Evr) : (s.withEvr v).shadow = s.shadow := with_evr_shadow s _
@[simp] theorem withEvr_pend (s : State) (v : Evr) : (s.withEvr v).pend = s.pend := with_evr_pend s _
@[simp] theorem withEvr_pendPages (s : State) (v : Evr) : (s.withEvr v).pendPages = s.pendPages := with_evr_pendPages s _
@[simp] theorem withEvr_mem (s : State) (v : Evr) : (s.withEvr v).mem = s.mem := with_evr_mem s _
@[simp] theorem withEvr_latches (s : State) (v : Evr) : (s.withEvr v).latches = s.latches := with_evr_latches s _
@[simp] theorem withEvr_now (s : State) (v : Evr) : (s.withEvr v).now = s.now := with_evr_now s _
@[simp] theorem withEvr_ohSub (s : State) (v : Evr) : (s.withEvr v).ohSub = s.ohSub := with_evr_ohSub s _
@[simp] theorem withEvr_lt (s : State) (v : Evr) : (s.withEvr v).lt = s.lt := with_evr_lt s _
@[simp] theorem withEvr_slew (s : State) (v : Evr) : (s.withEvr v).slew = s.slew := with_evr_slew s _
@[simp] theorem withEvr_ltApplied (s : State) (v : Evr) : (s.withEvr v).ltApplied = s.ltApplied := with_evr_ltApplied s _
@[simp] theorem withEvr_flt (s : State) (v : Evr) : (s.withEvr v).flt = s.flt := with_evr_flt s _
@[simp] theorem withEvr_saf (s : State) (v : Evr) : (s.withEvr v).saf = s.saf := with_evr_saf s _
@[simp] theorem withEvr_rst (s : State) (v : Evr) : (s.withEvr v).rst = s.rst := with_evr_rst s _
@[simp] theorem withEvr_quartz (s : State) (v : Evr) : (s.withEvr v).quartz = s.quartz := with_evr_quartz s _
@[simp] theorem withEvr_lnkA (s : State) (v : Evr) : (s.withEvr v).lnkA = s.lnkA := with_evr_lnkA s _
@[simp] theorem withEvr_lnkB (s : State) (v : Evr) : (s.withEvr v).lnkB = s.lnkB := with_evr_lnkB s _
@[simp] theorem withEvr_csf (s : State) (v : Evr) : (s.withEvr v).csf = s.csf := with_evr_csf s _
@[simp] theorem withEvr_side (s : State) (v : Evr) : (s.withEvr v).side = s.side := with_evr_side s _
@[simp] theorem withEvr_spi (s : State) (v : Evr) : (s.withEvr v).spi = s.spi := with_evr_spi s _
@[simp] theorem withEvr_cmd (s : State) (v : Evr) : (s.withEvr v).cmd = s.cmd := with_evr_cmd s _
@[simp] theorem withEvr_cmp (s : State) (v : Evr) : (s.withEvr v).cmp = s.cmp := with_evr_cmp s _
@[simp] theorem withEvr_glare (s : State) (v : Evr) : (s.withEvr v).glare = s.glare := with_evr_glare s _
@[simp] theorem withEvr_lanes (s : State) (v : Evr) : (s.withEvr v).lanes = s.lanes := with_evr_lanes s _
@[simp] theorem withEvr_tln (s : State) (v : Evr) : (s.withEvr v).tln = s.tln := with_evr_tln s _
@[simp] theorem withEvr_gov (s : State) (v : Evr) : (s.withEvr v).gov = s.gov := with_evr_gov s _
@[simp] theorem withEvr_cal (s : State) (v : Evr) : (s.withEvr v).cal = s.cal := with_evr_cal s _
@[simp] theorem withEvr_flx (s : State) (v : Evr) : (s.withEvr v).flx = s.flx := with_evr_flx s _
@[simp] theorem withEvr_seg (s : State) (v : Evr) : (s.withEvr v).seg = s.seg := with_evr_seg s _
@[simp] theorem withEvr_thm (s : State) (v : Evr) : (s.withEvr v).thm = s.thm := with_evr_thm s _
@[simp] theorem withEvr_pwr (s : State) (v : Evr) : (s.withEvr v).pwr = s.pwr := with_evr_pwr s _
@[simp] theorem withEvr_sec (s : State) (v : Evr) : (s.withEvr v).sec = s.sec := with_evr_sec s _
@[simp] theorem withEvr_fus (s : State) (v : Evr) : (s.withEvr v).fus = s.fus := with_evr_fus s _
@[simp] theorem withEvr_upd (s : State) (v : Evr) : (s.withEvr v).upd = s.upd := with_evr_upd s _
@[simp] theorem withEvr_readData (s : State) (v : Evr) : (s.withEvr v).readData = s.readData := with_evr_readData s _
@[simp] theorem withEvr_fresh (s : State) (v : Evr) : (s.withEvr v).fresh = s.fresh := with_evr_fresh s _
@[simp] theorem withEvr_pending (s : State) (v : Evr) : (s.withEvr v).pending = s.pending := with_evr_pending s _
@[simp] theorem withEvr_word (s : State) (v : Evr) (a' : Nat) : (s.withEvr v).word a' = s.word a' := by simp [State.word]
@[simp] theorem withEvr_g (s : State) (v : Evr) (x : Fld) : (s.withEvr v).g x = s.g x := by simp [State.g]
@[simp] theorem withEvr_on (s : State) (v : Evr) (x : Fld) : (s.withEvr v).on x = s.on x := by simp [State.on]
@[simp] theorem withEvr_byte (s : State) (v : Evr) (a' : Nat) : (s.withEvr v).byte a' = s.byte a' := by simp [State.byte]

/-! ### withSaf -/

@[simp] theorem withSaf_regs (s : State) (v : Saf) : (s.withSaf v).regs = s.regs := with_saf_regs s _
@[simp] theorem withSaf_shadow (s : State) (v : Saf) : (s.withSaf v).shadow = s.shadow := with_saf_shadow s _
@[simp] theorem withSaf_pend (s : State) (v : Saf) : (s.withSaf v).pend = s.pend := with_saf_pend s _
@[simp] theorem withSaf_pendPages (s : State) (v : Saf) : (s.withSaf v).pendPages = s.pendPages := with_saf_pendPages s _
@[simp] theorem withSaf_mem (s : State) (v : Saf) : (s.withSaf v).mem = s.mem := with_saf_mem s _
@[simp] theorem withSaf_latches (s : State) (v : Saf) : (s.withSaf v).latches = s.latches := with_saf_latches s _
@[simp] theorem withSaf_now (s : State) (v : Saf) : (s.withSaf v).now = s.now := with_saf_now s _
@[simp] theorem withSaf_ohSub (s : State) (v : Saf) : (s.withSaf v).ohSub = s.ohSub := with_saf_ohSub s _
@[simp] theorem withSaf_lt (s : State) (v : Saf) : (s.withSaf v).lt = s.lt := with_saf_lt s _
@[simp] theorem withSaf_slew (s : State) (v : Saf) : (s.withSaf v).slew = s.slew := with_saf_slew s _
@[simp] theorem withSaf_ltApplied (s : State) (v : Saf) : (s.withSaf v).ltApplied = s.ltApplied := with_saf_ltApplied s _
@[simp] theorem withSaf_flt (s : State) (v : Saf) : (s.withSaf v).flt = s.flt := with_saf_flt s _
@[simp] theorem withSaf_evr (s : State) (v : Saf) : (s.withSaf v).evr = s.evr := with_saf_evr s _
@[simp] theorem withSaf_rst (s : State) (v : Saf) : (s.withSaf v).rst = s.rst := with_saf_rst s _
@[simp] theorem withSaf_quartz (s : State) (v : Saf) : (s.withSaf v).quartz = s.quartz := with_saf_quartz s _
@[simp] theorem withSaf_lnkA (s : State) (v : Saf) : (s.withSaf v).lnkA = s.lnkA := with_saf_lnkA s _
@[simp] theorem withSaf_lnkB (s : State) (v : Saf) : (s.withSaf v).lnkB = s.lnkB := with_saf_lnkB s _
@[simp] theorem withSaf_csf (s : State) (v : Saf) : (s.withSaf v).csf = s.csf := with_saf_csf s _
@[simp] theorem withSaf_side (s : State) (v : Saf) : (s.withSaf v).side = s.side := with_saf_side s _
@[simp] theorem withSaf_spi (s : State) (v : Saf) : (s.withSaf v).spi = s.spi := with_saf_spi s _
@[simp] theorem withSaf_cmd (s : State) (v : Saf) : (s.withSaf v).cmd = s.cmd := with_saf_cmd s _
@[simp] theorem withSaf_cmp (s : State) (v : Saf) : (s.withSaf v).cmp = s.cmp := with_saf_cmp s _
@[simp] theorem withSaf_glare (s : State) (v : Saf) : (s.withSaf v).glare = s.glare := with_saf_glare s _
@[simp] theorem withSaf_lanes (s : State) (v : Saf) : (s.withSaf v).lanes = s.lanes := with_saf_lanes s _
@[simp] theorem withSaf_tln (s : State) (v : Saf) : (s.withSaf v).tln = s.tln := with_saf_tln s _
@[simp] theorem withSaf_gov (s : State) (v : Saf) : (s.withSaf v).gov = s.gov := with_saf_gov s _
@[simp] theorem withSaf_cal (s : State) (v : Saf) : (s.withSaf v).cal = s.cal := with_saf_cal s _
@[simp] theorem withSaf_flx (s : State) (v : Saf) : (s.withSaf v).flx = s.flx := with_saf_flx s _
@[simp] theorem withSaf_seg (s : State) (v : Saf) : (s.withSaf v).seg = s.seg := with_saf_seg s _
@[simp] theorem withSaf_thm (s : State) (v : Saf) : (s.withSaf v).thm = s.thm := with_saf_thm s _
@[simp] theorem withSaf_pwr (s : State) (v : Saf) : (s.withSaf v).pwr = s.pwr := with_saf_pwr s _
@[simp] theorem withSaf_sec (s : State) (v : Saf) : (s.withSaf v).sec = s.sec := with_saf_sec s _
@[simp] theorem withSaf_fus (s : State) (v : Saf) : (s.withSaf v).fus = s.fus := with_saf_fus s _
@[simp] theorem withSaf_upd (s : State) (v : Saf) : (s.withSaf v).upd = s.upd := with_saf_upd s _
@[simp] theorem withSaf_readData (s : State) (v : Saf) : (s.withSaf v).readData = s.readData := with_saf_readData s _
@[simp] theorem withSaf_fresh (s : State) (v : Saf) : (s.withSaf v).fresh = s.fresh := with_saf_fresh s _
@[simp] theorem withSaf_pending (s : State) (v : Saf) : (s.withSaf v).pending = s.pending := with_saf_pending s _
@[simp] theorem withSaf_word (s : State) (v : Saf) (a' : Nat) : (s.withSaf v).word a' = s.word a' := by simp [State.word]
@[simp] theorem withSaf_g (s : State) (v : Saf) (x : Fld) : (s.withSaf v).g x = s.g x := by simp [State.g]
@[simp] theorem withSaf_on (s : State) (v : Saf) (x : Fld) : (s.withSaf v).on x = s.on x := by simp [State.on]
@[simp] theorem withSaf_byte (s : State) (v : Saf) (a' : Nat) : (s.withSaf v).byte a' = s.byte a' := by simp [State.byte]

/-! ### withRst -/

@[simp] theorem withRst_regs (s : State) (v : Rst) : (s.withRst v).regs = s.regs := with_rst_regs s _
@[simp] theorem withRst_shadow (s : State) (v : Rst) : (s.withRst v).shadow = s.shadow := with_rst_shadow s _
@[simp] theorem withRst_pend (s : State) (v : Rst) : (s.withRst v).pend = s.pend := with_rst_pend s _
@[simp] theorem withRst_pendPages (s : State) (v : Rst) : (s.withRst v).pendPages = s.pendPages := with_rst_pendPages s _
@[simp] theorem withRst_mem (s : State) (v : Rst) : (s.withRst v).mem = s.mem := with_rst_mem s _
@[simp] theorem withRst_latches (s : State) (v : Rst) : (s.withRst v).latches = s.latches := with_rst_latches s _
@[simp] theorem withRst_now (s : State) (v : Rst) : (s.withRst v).now = s.now := with_rst_now s _
@[simp] theorem withRst_ohSub (s : State) (v : Rst) : (s.withRst v).ohSub = s.ohSub := with_rst_ohSub s _
@[simp] theorem withRst_lt (s : State) (v : Rst) : (s.withRst v).lt = s.lt := with_rst_lt s _
@[simp] theorem withRst_slew (s : State) (v : Rst) : (s.withRst v).slew = s.slew := with_rst_slew s _
@[simp] theorem withRst_ltApplied (s : State) (v : Rst) : (s.withRst v).ltApplied = s.ltApplied := with_rst_ltApplied s _
@[simp] theorem withRst_flt (s : State) (v : Rst) : (s.withRst v).flt = s.flt := with_rst_flt s _
@[simp] theorem withRst_evr (s : State) (v : Rst) : (s.withRst v).evr = s.evr := with_rst_evr s _
@[simp] theorem withRst_saf (s : State) (v : Rst) : (s.withRst v).saf = s.saf := with_rst_saf s _
@[simp] theorem withRst_quartz (s : State) (v : Rst) : (s.withRst v).quartz = s.quartz := with_rst_quartz s _
@[simp] theorem withRst_lnkA (s : State) (v : Rst) : (s.withRst v).lnkA = s.lnkA := with_rst_lnkA s _
@[simp] theorem withRst_lnkB (s : State) (v : Rst) : (s.withRst v).lnkB = s.lnkB := with_rst_lnkB s _
@[simp] theorem withRst_csf (s : State) (v : Rst) : (s.withRst v).csf = s.csf := with_rst_csf s _
@[simp] theorem withRst_side (s : State) (v : Rst) : (s.withRst v).side = s.side := with_rst_side s _
@[simp] theorem withRst_spi (s : State) (v : Rst) : (s.withRst v).spi = s.spi := with_rst_spi s _
@[simp] theorem withRst_cmd (s : State) (v : Rst) : (s.withRst v).cmd = s.cmd := with_rst_cmd s _
@[simp] theorem withRst_cmp (s : State) (v : Rst) : (s.withRst v).cmp = s.cmp := with_rst_cmp s _
@[simp] theorem withRst_glare (s : State) (v : Rst) : (s.withRst v).glare = s.glare := with_rst_glare s _
@[simp] theorem withRst_lanes (s : State) (v : Rst) : (s.withRst v).lanes = s.lanes := with_rst_lanes s _
@[simp] theorem withRst_tln (s : State) (v : Rst) : (s.withRst v).tln = s.tln := with_rst_tln s _
@[simp] theorem withRst_gov (s : State) (v : Rst) : (s.withRst v).gov = s.gov := with_rst_gov s _
@[simp] theorem withRst_cal (s : State) (v : Rst) : (s.withRst v).cal = s.cal := with_rst_cal s _
@[simp] theorem withRst_flx (s : State) (v : Rst) : (s.withRst v).flx = s.flx := with_rst_flx s _
@[simp] theorem withRst_seg (s : State) (v : Rst) : (s.withRst v).seg = s.seg := with_rst_seg s _
@[simp] theorem withRst_thm (s : State) (v : Rst) : (s.withRst v).thm = s.thm := with_rst_thm s _
@[simp] theorem withRst_pwr (s : State) (v : Rst) : (s.withRst v).pwr = s.pwr := with_rst_pwr s _
@[simp] theorem withRst_sec (s : State) (v : Rst) : (s.withRst v).sec = s.sec := with_rst_sec s _
@[simp] theorem withRst_fus (s : State) (v : Rst) : (s.withRst v).fus = s.fus := with_rst_fus s _
@[simp] theorem withRst_upd (s : State) (v : Rst) : (s.withRst v).upd = s.upd := with_rst_upd s _
@[simp] theorem withRst_readData (s : State) (v : Rst) : (s.withRst v).readData = s.readData := with_rst_readData s _
@[simp] theorem withRst_fresh (s : State) (v : Rst) : (s.withRst v).fresh = s.fresh := with_rst_fresh s _
@[simp] theorem withRst_pending (s : State) (v : Rst) : (s.withRst v).pending = s.pending := with_rst_pending s _
@[simp] theorem withRst_word (s : State) (v : Rst) (a' : Nat) : (s.withRst v).word a' = s.word a' := by simp [State.word]
@[simp] theorem withRst_g (s : State) (v : Rst) (x : Fld) : (s.withRst v).g x = s.g x := by simp [State.g]
@[simp] theorem withRst_on (s : State) (v : Rst) (x : Fld) : (s.withRst v).on x = s.on x := by simp [State.on]
@[simp] theorem withRst_byte (s : State) (v : Rst) (a' : Nat) : (s.withRst v).byte a' = s.byte a' := by simp [State.byte]

/-! ### withQuartz -/

@[simp] theorem withQuartz_regs (s : State) (v : Quartz) : (s.withQuartz v).regs = s.regs := with_quartz_regs s _
@[simp] theorem withQuartz_shadow (s : State) (v : Quartz) : (s.withQuartz v).shadow = s.shadow := with_quartz_shadow s _
@[simp] theorem withQuartz_pend (s : State) (v : Quartz) : (s.withQuartz v).pend = s.pend := with_quartz_pend s _
@[simp] theorem withQuartz_pendPages (s : State) (v : Quartz) : (s.withQuartz v).pendPages = s.pendPages := with_quartz_pendPages s _
@[simp] theorem withQuartz_mem (s : State) (v : Quartz) : (s.withQuartz v).mem = s.mem := with_quartz_mem s _
@[simp] theorem withQuartz_latches (s : State) (v : Quartz) : (s.withQuartz v).latches = s.latches := with_quartz_latches s _
@[simp] theorem withQuartz_now (s : State) (v : Quartz) : (s.withQuartz v).now = s.now := with_quartz_now s _
@[simp] theorem withQuartz_ohSub (s : State) (v : Quartz) : (s.withQuartz v).ohSub = s.ohSub := with_quartz_ohSub s _
@[simp] theorem withQuartz_lt (s : State) (v : Quartz) : (s.withQuartz v).lt = s.lt := with_quartz_lt s _
@[simp] theorem withQuartz_slew (s : State) (v : Quartz) : (s.withQuartz v).slew = s.slew := with_quartz_slew s _
@[simp] theorem withQuartz_ltApplied (s : State) (v : Quartz) : (s.withQuartz v).ltApplied = s.ltApplied := with_quartz_ltApplied s _
@[simp] theorem withQuartz_flt (s : State) (v : Quartz) : (s.withQuartz v).flt = s.flt := with_quartz_flt s _
@[simp] theorem withQuartz_evr (s : State) (v : Quartz) : (s.withQuartz v).evr = s.evr := with_quartz_evr s _
@[simp] theorem withQuartz_saf (s : State) (v : Quartz) : (s.withQuartz v).saf = s.saf := with_quartz_saf s _
@[simp] theorem withQuartz_rst (s : State) (v : Quartz) : (s.withQuartz v).rst = s.rst := with_quartz_rst s _
@[simp] theorem withQuartz_lnkA (s : State) (v : Quartz) : (s.withQuartz v).lnkA = s.lnkA := with_quartz_lnkA s _
@[simp] theorem withQuartz_lnkB (s : State) (v : Quartz) : (s.withQuartz v).lnkB = s.lnkB := with_quartz_lnkB s _
@[simp] theorem withQuartz_csf (s : State) (v : Quartz) : (s.withQuartz v).csf = s.csf := with_quartz_csf s _
@[simp] theorem withQuartz_side (s : State) (v : Quartz) : (s.withQuartz v).side = s.side := with_quartz_side s _
@[simp] theorem withQuartz_spi (s : State) (v : Quartz) : (s.withQuartz v).spi = s.spi := with_quartz_spi s _
@[simp] theorem withQuartz_cmd (s : State) (v : Quartz) : (s.withQuartz v).cmd = s.cmd := with_quartz_cmd s _
@[simp] theorem withQuartz_cmp (s : State) (v : Quartz) : (s.withQuartz v).cmp = s.cmp := with_quartz_cmp s _
@[simp] theorem withQuartz_glare (s : State) (v : Quartz) : (s.withQuartz v).glare = s.glare := with_quartz_glare s _
@[simp] theorem withQuartz_lanes (s : State) (v : Quartz) : (s.withQuartz v).lanes = s.lanes := with_quartz_lanes s _
@[simp] theorem withQuartz_tln (s : State) (v : Quartz) : (s.withQuartz v).tln = s.tln := with_quartz_tln s _
@[simp] theorem withQuartz_gov (s : State) (v : Quartz) : (s.withQuartz v).gov = s.gov := with_quartz_gov s _
@[simp] theorem withQuartz_cal (s : State) (v : Quartz) : (s.withQuartz v).cal = s.cal := with_quartz_cal s _
@[simp] theorem withQuartz_flx (s : State) (v : Quartz) : (s.withQuartz v).flx = s.flx := with_quartz_flx s _
@[simp] theorem withQuartz_seg (s : State) (v : Quartz) : (s.withQuartz v).seg = s.seg := with_quartz_seg s _
@[simp] theorem withQuartz_thm (s : State) (v : Quartz) : (s.withQuartz v).thm = s.thm := with_quartz_thm s _
@[simp] theorem withQuartz_pwr (s : State) (v : Quartz) : (s.withQuartz v).pwr = s.pwr := with_quartz_pwr s _
@[simp] theorem withQuartz_sec (s : State) (v : Quartz) : (s.withQuartz v).sec = s.sec := with_quartz_sec s _
@[simp] theorem withQuartz_fus (s : State) (v : Quartz) : (s.withQuartz v).fus = s.fus := with_quartz_fus s _
@[simp] theorem withQuartz_upd (s : State) (v : Quartz) : (s.withQuartz v).upd = s.upd := with_quartz_upd s _
@[simp] theorem withQuartz_readData (s : State) (v : Quartz) : (s.withQuartz v).readData = s.readData := with_quartz_readData s _
@[simp] theorem withQuartz_fresh (s : State) (v : Quartz) : (s.withQuartz v).fresh = s.fresh := with_quartz_fresh s _
@[simp] theorem withQuartz_pending (s : State) (v : Quartz) : (s.withQuartz v).pending = s.pending := with_quartz_pending s _
@[simp] theorem withQuartz_word (s : State) (v : Quartz) (a' : Nat) : (s.withQuartz v).word a' = s.word a' := by simp [State.word]
@[simp] theorem withQuartz_g (s : State) (v : Quartz) (x : Fld) : (s.withQuartz v).g x = s.g x := by simp [State.g]
@[simp] theorem withQuartz_on (s : State) (v : Quartz) (x : Fld) : (s.withQuartz v).on x = s.on x := by simp [State.on]
@[simp] theorem withQuartz_byte (s : State) (v : Quartz) (a' : Nat) : (s.withQuartz v).byte a' = s.byte a' := by simp [State.byte]

/-! ### withLnkA -/

@[simp] theorem withLnkA_regs (s : State) (v : Link) : (s.withLnkA v).regs = s.regs := with_lnkA_regs s _
@[simp] theorem withLnkA_shadow (s : State) (v : Link) : (s.withLnkA v).shadow = s.shadow := with_lnkA_shadow s _
@[simp] theorem withLnkA_pend (s : State) (v : Link) : (s.withLnkA v).pend = s.pend := with_lnkA_pend s _
@[simp] theorem withLnkA_pendPages (s : State) (v : Link) : (s.withLnkA v).pendPages = s.pendPages := with_lnkA_pendPages s _
@[simp] theorem withLnkA_mem (s : State) (v : Link) : (s.withLnkA v).mem = s.mem := with_lnkA_mem s _
@[simp] theorem withLnkA_latches (s : State) (v : Link) : (s.withLnkA v).latches = s.latches := with_lnkA_latches s _
@[simp] theorem withLnkA_now (s : State) (v : Link) : (s.withLnkA v).now = s.now := with_lnkA_now s _
@[simp] theorem withLnkA_ohSub (s : State) (v : Link) : (s.withLnkA v).ohSub = s.ohSub := with_lnkA_ohSub s _
@[simp] theorem withLnkA_lt (s : State) (v : Link) : (s.withLnkA v).lt = s.lt := with_lnkA_lt s _
@[simp] theorem withLnkA_slew (s : State) (v : Link) : (s.withLnkA v).slew = s.slew := with_lnkA_slew s _
@[simp] theorem withLnkA_ltApplied (s : State) (v : Link) : (s.withLnkA v).ltApplied = s.ltApplied := with_lnkA_ltApplied s _
@[simp] theorem withLnkA_flt (s : State) (v : Link) : (s.withLnkA v).flt = s.flt := with_lnkA_flt s _
@[simp] theorem withLnkA_evr (s : State) (v : Link) : (s.withLnkA v).evr = s.evr := with_lnkA_evr s _
@[simp] theorem withLnkA_saf (s : State) (v : Link) : (s.withLnkA v).saf = s.saf := with_lnkA_saf s _
@[simp] theorem withLnkA_rst (s : State) (v : Link) : (s.withLnkA v).rst = s.rst := with_lnkA_rst s _
@[simp] theorem withLnkA_quartz (s : State) (v : Link) : (s.withLnkA v).quartz = s.quartz := with_lnkA_quartz s _
@[simp] theorem withLnkA_lnkB (s : State) (v : Link) : (s.withLnkA v).lnkB = s.lnkB := with_lnkA_lnkB s _
@[simp] theorem withLnkA_csf (s : State) (v : Link) : (s.withLnkA v).csf = s.csf := with_lnkA_csf s _
@[simp] theorem withLnkA_side (s : State) (v : Link) : (s.withLnkA v).side = s.side := with_lnkA_side s _
@[simp] theorem withLnkA_spi (s : State) (v : Link) : (s.withLnkA v).spi = s.spi := with_lnkA_spi s _
@[simp] theorem withLnkA_cmd (s : State) (v : Link) : (s.withLnkA v).cmd = s.cmd := with_lnkA_cmd s _
@[simp] theorem withLnkA_cmp (s : State) (v : Link) : (s.withLnkA v).cmp = s.cmp := with_lnkA_cmp s _
@[simp] theorem withLnkA_glare (s : State) (v : Link) : (s.withLnkA v).glare = s.glare := with_lnkA_glare s _
@[simp] theorem withLnkA_lanes (s : State) (v : Link) : (s.withLnkA v).lanes = s.lanes := with_lnkA_lanes s _
@[simp] theorem withLnkA_tln (s : State) (v : Link) : (s.withLnkA v).tln = s.tln := with_lnkA_tln s _
@[simp] theorem withLnkA_gov (s : State) (v : Link) : (s.withLnkA v).gov = s.gov := with_lnkA_gov s _
@[simp] theorem withLnkA_cal (s : State) (v : Link) : (s.withLnkA v).cal = s.cal := with_lnkA_cal s _
@[simp] theorem withLnkA_flx (s : State) (v : Link) : (s.withLnkA v).flx = s.flx := with_lnkA_flx s _
@[simp] theorem withLnkA_seg (s : State) (v : Link) : (s.withLnkA v).seg = s.seg := with_lnkA_seg s _
@[simp] theorem withLnkA_thm (s : State) (v : Link) : (s.withLnkA v).thm = s.thm := with_lnkA_thm s _
@[simp] theorem withLnkA_pwr (s : State) (v : Link) : (s.withLnkA v).pwr = s.pwr := with_lnkA_pwr s _
@[simp] theorem withLnkA_sec (s : State) (v : Link) : (s.withLnkA v).sec = s.sec := with_lnkA_sec s _
@[simp] theorem withLnkA_fus (s : State) (v : Link) : (s.withLnkA v).fus = s.fus := with_lnkA_fus s _
@[simp] theorem withLnkA_upd (s : State) (v : Link) : (s.withLnkA v).upd = s.upd := with_lnkA_upd s _
@[simp] theorem withLnkA_readData (s : State) (v : Link) : (s.withLnkA v).readData = s.readData := with_lnkA_readData s _
@[simp] theorem withLnkA_fresh (s : State) (v : Link) : (s.withLnkA v).fresh = s.fresh := with_lnkA_fresh s _
@[simp] theorem withLnkA_pending (s : State) (v : Link) : (s.withLnkA v).pending = s.pending := with_lnkA_pending s _
@[simp] theorem withLnkA_word (s : State) (v : Link) (a' : Nat) : (s.withLnkA v).word a' = s.word a' := by simp [State.word]
@[simp] theorem withLnkA_g (s : State) (v : Link) (x : Fld) : (s.withLnkA v).g x = s.g x := by simp [State.g]
@[simp] theorem withLnkA_on (s : State) (v : Link) (x : Fld) : (s.withLnkA v).on x = s.on x := by simp [State.on]
@[simp] theorem withLnkA_byte (s : State) (v : Link) (a' : Nat) : (s.withLnkA v).byte a' = s.byte a' := by simp [State.byte]

/-! ### withLnkB -/

@[simp] theorem withLnkB_regs (s : State) (v : Link) : (s.withLnkB v).regs = s.regs := with_lnkB_regs s _
@[simp] theorem withLnkB_shadow (s : State) (v : Link) : (s.withLnkB v).shadow = s.shadow := with_lnkB_shadow s _
@[simp] theorem withLnkB_pend (s : State) (v : Link) : (s.withLnkB v).pend = s.pend := with_lnkB_pend s _
@[simp] theorem withLnkB_pendPages (s : State) (v : Link) : (s.withLnkB v).pendPages = s.pendPages := with_lnkB_pendPages s _
@[simp] theorem withLnkB_mem (s : State) (v : Link) : (s.withLnkB v).mem = s.mem := with_lnkB_mem s _
@[simp] theorem withLnkB_latches (s : State) (v : Link) : (s.withLnkB v).latches = s.latches := with_lnkB_latches s _
@[simp] theorem withLnkB_now (s : State) (v : Link) : (s.withLnkB v).now = s.now := with_lnkB_now s _
@[simp] theorem withLnkB_ohSub (s : State) (v : Link) : (s.withLnkB v).ohSub = s.ohSub := with_lnkB_ohSub s _
@[simp] theorem withLnkB_lt (s : State) (v : Link) : (s.withLnkB v).lt = s.lt := with_lnkB_lt s _
@[simp] theorem withLnkB_slew (s : State) (v : Link) : (s.withLnkB v).slew = s.slew := with_lnkB_slew s _
@[simp] theorem withLnkB_ltApplied (s : State) (v : Link) : (s.withLnkB v).ltApplied = s.ltApplied := with_lnkB_ltApplied s _
@[simp] theorem withLnkB_flt (s : State) (v : Link) : (s.withLnkB v).flt = s.flt := with_lnkB_flt s _
@[simp] theorem withLnkB_evr (s : State) (v : Link) : (s.withLnkB v).evr = s.evr := with_lnkB_evr s _
@[simp] theorem withLnkB_saf (s : State) (v : Link) : (s.withLnkB v).saf = s.saf := with_lnkB_saf s _
@[simp] theorem withLnkB_rst (s : State) (v : Link) : (s.withLnkB v).rst = s.rst := with_lnkB_rst s _
@[simp] theorem withLnkB_quartz (s : State) (v : Link) : (s.withLnkB v).quartz = s.quartz := with_lnkB_quartz s _
@[simp] theorem withLnkB_lnkA (s : State) (v : Link) : (s.withLnkB v).lnkA = s.lnkA := with_lnkB_lnkA s _
@[simp] theorem withLnkB_csf (s : State) (v : Link) : (s.withLnkB v).csf = s.csf := with_lnkB_csf s _
@[simp] theorem withLnkB_side (s : State) (v : Link) : (s.withLnkB v).side = s.side := with_lnkB_side s _
@[simp] theorem withLnkB_spi (s : State) (v : Link) : (s.withLnkB v).spi = s.spi := with_lnkB_spi s _
@[simp] theorem withLnkB_cmd (s : State) (v : Link) : (s.withLnkB v).cmd = s.cmd := with_lnkB_cmd s _
@[simp] theorem withLnkB_cmp (s : State) (v : Link) : (s.withLnkB v).cmp = s.cmp := with_lnkB_cmp s _
@[simp] theorem withLnkB_glare (s : State) (v : Link) : (s.withLnkB v).glare = s.glare := with_lnkB_glare s _
@[simp] theorem withLnkB_lanes (s : State) (v : Link) : (s.withLnkB v).lanes = s.lanes := with_lnkB_lanes s _
@[simp] theorem withLnkB_tln (s : State) (v : Link) : (s.withLnkB v).tln = s.tln := with_lnkB_tln s _
@[simp] theorem withLnkB_gov (s : State) (v : Link) : (s.withLnkB v).gov = s.gov := with_lnkB_gov s _
@[simp] theorem withLnkB_cal (s : State) (v : Link) : (s.withLnkB v).cal = s.cal := with_lnkB_cal s _
@[simp] theorem withLnkB_flx (s : State) (v : Link) : (s.withLnkB v).flx = s.flx := with_lnkB_flx s _
@[simp] theorem withLnkB_seg (s : State) (v : Link) : (s.withLnkB v).seg = s.seg := with_lnkB_seg s _
@[simp] theorem withLnkB_thm (s : State) (v : Link) : (s.withLnkB v).thm = s.thm := with_lnkB_thm s _
@[simp] theorem withLnkB_pwr (s : State) (v : Link) : (s.withLnkB v).pwr = s.pwr := with_lnkB_pwr s _
@[simp] theorem withLnkB_sec (s : State) (v : Link) : (s.withLnkB v).sec = s.sec := with_lnkB_sec s _
@[simp] theorem withLnkB_fus (s : State) (v : Link) : (s.withLnkB v).fus = s.fus := with_lnkB_fus s _
@[simp] theorem withLnkB_upd (s : State) (v : Link) : (s.withLnkB v).upd = s.upd := with_lnkB_upd s _
@[simp] theorem withLnkB_readData (s : State) (v : Link) : (s.withLnkB v).readData = s.readData := with_lnkB_readData s _
@[simp] theorem withLnkB_fresh (s : State) (v : Link) : (s.withLnkB v).fresh = s.fresh := with_lnkB_fresh s _
@[simp] theorem withLnkB_pending (s : State) (v : Link) : (s.withLnkB v).pending = s.pending := with_lnkB_pending s _
@[simp] theorem withLnkB_word (s : State) (v : Link) (a' : Nat) : (s.withLnkB v).word a' = s.word a' := by simp [State.word]
@[simp] theorem withLnkB_g (s : State) (v : Link) (x : Fld) : (s.withLnkB v).g x = s.g x := by simp [State.g]
@[simp] theorem withLnkB_on (s : State) (v : Link) (x : Fld) : (s.withLnkB v).on x = s.on x := by simp [State.on]
@[simp] theorem withLnkB_byte (s : State) (v : Link) (a' : Nat) : (s.withLnkB v).byte a' = s.byte a' := by simp [State.byte]

/-! ### withCsf -/

@[simp] theorem withCsf_regs (s : State) (v : Csf) : (s.withCsf v).regs = s.regs := with_csf_regs s _
@[simp] theorem withCsf_shadow (s : State) (v : Csf) : (s.withCsf v).shadow = s.shadow := with_csf_shadow s _
@[simp] theorem withCsf_pend (s : State) (v : Csf) : (s.withCsf v).pend = s.pend := with_csf_pend s _
@[simp] theorem withCsf_pendPages (s : State) (v : Csf) : (s.withCsf v).pendPages = s.pendPages := with_csf_pendPages s _
@[simp] theorem withCsf_mem (s : State) (v : Csf) : (s.withCsf v).mem = s.mem := with_csf_mem s _
@[simp] theorem withCsf_latches (s : State) (v : Csf) : (s.withCsf v).latches = s.latches := with_csf_latches s _
@[simp] theorem withCsf_now (s : State) (v : Csf) : (s.withCsf v).now = s.now := with_csf_now s _
@[simp] theorem withCsf_ohSub (s : State) (v : Csf) : (s.withCsf v).ohSub = s.ohSub := with_csf_ohSub s _
@[simp] theorem withCsf_lt (s : State) (v : Csf) : (s.withCsf v).lt = s.lt := with_csf_lt s _
@[simp] theorem withCsf_slew (s : State) (v : Csf) : (s.withCsf v).slew = s.slew := with_csf_slew s _
@[simp] theorem withCsf_ltApplied (s : State) (v : Csf) : (s.withCsf v).ltApplied = s.ltApplied := with_csf_ltApplied s _
@[simp] theorem withCsf_flt (s : State) (v : Csf) : (s.withCsf v).flt = s.flt := with_csf_flt s _
@[simp] theorem withCsf_evr (s : State) (v : Csf) : (s.withCsf v).evr = s.evr := with_csf_evr s _
@[simp] theorem withCsf_saf (s : State) (v : Csf) : (s.withCsf v).saf = s.saf := with_csf_saf s _
@[simp] theorem withCsf_rst (s : State) (v : Csf) : (s.withCsf v).rst = s.rst := with_csf_rst s _
@[simp] theorem withCsf_quartz (s : State) (v : Csf) : (s.withCsf v).quartz = s.quartz := with_csf_quartz s _
@[simp] theorem withCsf_lnkA (s : State) (v : Csf) : (s.withCsf v).lnkA = s.lnkA := with_csf_lnkA s _
@[simp] theorem withCsf_lnkB (s : State) (v : Csf) : (s.withCsf v).lnkB = s.lnkB := with_csf_lnkB s _
@[simp] theorem withCsf_side (s : State) (v : Csf) : (s.withCsf v).side = s.side := with_csf_side s _
@[simp] theorem withCsf_spi (s : State) (v : Csf) : (s.withCsf v).spi = s.spi := with_csf_spi s _
@[simp] theorem withCsf_cmd (s : State) (v : Csf) : (s.withCsf v).cmd = s.cmd := with_csf_cmd s _
@[simp] theorem withCsf_cmp (s : State) (v : Csf) : (s.withCsf v).cmp = s.cmp := with_csf_cmp s _
@[simp] theorem withCsf_glare (s : State) (v : Csf) : (s.withCsf v).glare = s.glare := with_csf_glare s _
@[simp] theorem withCsf_lanes (s : State) (v : Csf) : (s.withCsf v).lanes = s.lanes := with_csf_lanes s _
@[simp] theorem withCsf_tln (s : State) (v : Csf) : (s.withCsf v).tln = s.tln := with_csf_tln s _
@[simp] theorem withCsf_gov (s : State) (v : Csf) : (s.withCsf v).gov = s.gov := with_csf_gov s _
@[simp] theorem withCsf_cal (s : State) (v : Csf) : (s.withCsf v).cal = s.cal := with_csf_cal s _
@[simp] theorem withCsf_flx (s : State) (v : Csf) : (s.withCsf v).flx = s.flx := with_csf_flx s _
@[simp] theorem withCsf_seg (s : State) (v : Csf) : (s.withCsf v).seg = s.seg := with_csf_seg s _
@[simp] theorem withCsf_thm (s : State) (v : Csf) : (s.withCsf v).thm = s.thm := with_csf_thm s _
@[simp] theorem withCsf_pwr (s : State) (v : Csf) : (s.withCsf v).pwr = s.pwr := with_csf_pwr s _
@[simp] theorem withCsf_sec (s : State) (v : Csf) : (s.withCsf v).sec = s.sec := with_csf_sec s _
@[simp] theorem withCsf_fus (s : State) (v : Csf) : (s.withCsf v).fus = s.fus := with_csf_fus s _
@[simp] theorem withCsf_upd (s : State) (v : Csf) : (s.withCsf v).upd = s.upd := with_csf_upd s _
@[simp] theorem withCsf_readData (s : State) (v : Csf) : (s.withCsf v).readData = s.readData := with_csf_readData s _
@[simp] theorem withCsf_fresh (s : State) (v : Csf) : (s.withCsf v).fresh = s.fresh := with_csf_fresh s _
@[simp] theorem withCsf_pending (s : State) (v : Csf) : (s.withCsf v).pending = s.pending := with_csf_pending s _
@[simp] theorem withCsf_word (s : State) (v : Csf) (a' : Nat) : (s.withCsf v).word a' = s.word a' := by simp [State.word]
@[simp] theorem withCsf_g (s : State) (v : Csf) (x : Fld) : (s.withCsf v).g x = s.g x := by simp [State.g]
@[simp] theorem withCsf_on (s : State) (v : Csf) (x : Fld) : (s.withCsf v).on x = s.on x := by simp [State.on]
@[simp] theorem withCsf_byte (s : State) (v : Csf) (a' : Nat) : (s.withCsf v).byte a' = s.byte a' := by simp [State.byte]

/-! ### withSide -/

@[simp] theorem withSide_regs (s : State) (v : Side) : (s.withSide v).regs = s.regs := with_side_regs s _
@[simp] theorem withSide_shadow (s : State) (v : Side) : (s.withSide v).shadow = s.shadow := with_side_shadow s _
@[simp] theorem withSide_pend (s : State) (v : Side) : (s.withSide v).pend = s.pend := with_side_pend s _
@[simp] theorem withSide_pendPages (s : State) (v : Side) : (s.withSide v).pendPages = s.pendPages := with_side_pendPages s _
@[simp] theorem withSide_mem (s : State) (v : Side) : (s.withSide v).mem = s.mem := with_side_mem s _
@[simp] theorem withSide_latches (s : State) (v : Side) : (s.withSide v).latches = s.latches := with_side_latches s _
@[simp] theorem withSide_now (s : State) (v : Side) : (s.withSide v).now = s.now := with_side_now s _
@[simp] theorem withSide_ohSub (s : State) (v : Side) : (s.withSide v).ohSub = s.ohSub := with_side_ohSub s _
@[simp] theorem withSide_lt (s : State) (v : Side) : (s.withSide v).lt = s.lt := with_side_lt s _
@[simp] theorem withSide_slew (s : State) (v : Side) : (s.withSide v).slew = s.slew := with_side_slew s _
@[simp] theorem withSide_ltApplied (s : State) (v : Side) : (s.withSide v).ltApplied = s.ltApplied := with_side_ltApplied s _
@[simp] theorem withSide_flt (s : State) (v : Side) : (s.withSide v).flt = s.flt := with_side_flt s _
@[simp] theorem withSide_evr (s : State) (v : Side) : (s.withSide v).evr = s.evr := with_side_evr s _
@[simp] theorem withSide_saf (s : State) (v : Side) : (s.withSide v).saf = s.saf := with_side_saf s _
@[simp] theorem withSide_rst (s : State) (v : Side) : (s.withSide v).rst = s.rst := with_side_rst s _
@[simp] theorem withSide_quartz (s : State) (v : Side) : (s.withSide v).quartz = s.quartz := with_side_quartz s _
@[simp] theorem withSide_lnkA (s : State) (v : Side) : (s.withSide v).lnkA = s.lnkA := with_side_lnkA s _
@[simp] theorem withSide_lnkB (s : State) (v : Side) : (s.withSide v).lnkB = s.lnkB := with_side_lnkB s _
@[simp] theorem withSide_csf (s : State) (v : Side) : (s.withSide v).csf = s.csf := with_side_csf s _
@[simp] theorem withSide_spi (s : State) (v : Side) : (s.withSide v).spi = s.spi := with_side_spi s _
@[simp] theorem withSide_cmd (s : State) (v : Side) : (s.withSide v).cmd = s.cmd := with_side_cmd s _
@[simp] theorem withSide_cmp (s : State) (v : Side) : (s.withSide v).cmp = s.cmp := with_side_cmp s _
@[simp] theorem withSide_glare (s : State) (v : Side) : (s.withSide v).glare = s.glare := with_side_glare s _
@[simp] theorem withSide_lanes (s : State) (v : Side) : (s.withSide v).lanes = s.lanes := with_side_lanes s _
@[simp] theorem withSide_tln (s : State) (v : Side) : (s.withSide v).tln = s.tln := with_side_tln s _
@[simp] theorem withSide_gov (s : State) (v : Side) : (s.withSide v).gov = s.gov := with_side_gov s _
@[simp] theorem withSide_cal (s : State) (v : Side) : (s.withSide v).cal = s.cal := with_side_cal s _
@[simp] theorem withSide_flx (s : State) (v : Side) : (s.withSide v).flx = s.flx := with_side_flx s _
@[simp] theorem withSide_seg (s : State) (v : Side) : (s.withSide v).seg = s.seg := with_side_seg s _
@[simp] theorem withSide_thm (s : State) (v : Side) : (s.withSide v).thm = s.thm := with_side_thm s _
@[simp] theorem withSide_pwr (s : State) (v : Side) : (s.withSide v).pwr = s.pwr := with_side_pwr s _
@[simp] theorem withSide_sec (s : State) (v : Side) : (s.withSide v).sec = s.sec := with_side_sec s _
@[simp] theorem withSide_fus (s : State) (v : Side) : (s.withSide v).fus = s.fus := with_side_fus s _
@[simp] theorem withSide_upd (s : State) (v : Side) : (s.withSide v).upd = s.upd := with_side_upd s _
@[simp] theorem withSide_readData (s : State) (v : Side) : (s.withSide v).readData = s.readData := with_side_readData s _
@[simp] theorem withSide_fresh (s : State) (v : Side) : (s.withSide v).fresh = s.fresh := with_side_fresh s _
@[simp] theorem withSide_pending (s : State) (v : Side) : (s.withSide v).pending = s.pending := with_side_pending s _
@[simp] theorem withSide_word (s : State) (v : Side) (a' : Nat) : (s.withSide v).word a' = s.word a' := by simp [State.word]
@[simp] theorem withSide_g (s : State) (v : Side) (x : Fld) : (s.withSide v).g x = s.g x := by simp [State.g]
@[simp] theorem withSide_on (s : State) (v : Side) (x : Fld) : (s.withSide v).on x = s.on x := by simp [State.on]
@[simp] theorem withSide_byte (s : State) (v : Side) (a' : Nat) : (s.withSide v).byte a' = s.byte a' := by simp [State.byte]

/-! ### withSpi -/

@[simp] theorem withSpi_regs (s : State) (v : Spi) : (s.withSpi v).regs = s.regs := with_spi_regs s _
@[simp] theorem withSpi_shadow (s : State) (v : Spi) : (s.withSpi v).shadow = s.shadow := with_spi_shadow s _
@[simp] theorem withSpi_pend (s : State) (v : Spi) : (s.withSpi v).pend = s.pend := with_spi_pend s _
@[simp] theorem withSpi_pendPages (s : State) (v : Spi) : (s.withSpi v).pendPages = s.pendPages := with_spi_pendPages s _
@[simp] theorem withSpi_mem (s : State) (v : Spi) : (s.withSpi v).mem = s.mem := with_spi_mem s _
@[simp] theorem withSpi_latches (s : State) (v : Spi) : (s.withSpi v).latches = s.latches := with_spi_latches s _
@[simp] theorem withSpi_now (s : State) (v : Spi) : (s.withSpi v).now = s.now := with_spi_now s _
@[simp] theorem withSpi_ohSub (s : State) (v : Spi) : (s.withSpi v).ohSub = s.ohSub := with_spi_ohSub s _
@[simp] theorem withSpi_lt (s : State) (v : Spi) : (s.withSpi v).lt = s.lt := with_spi_lt s _
@[simp] theorem withSpi_slew (s : State) (v : Spi) : (s.withSpi v).slew = s.slew := with_spi_slew s _
@[simp] theorem withSpi_ltApplied (s : State) (v : Spi) : (s.withSpi v).ltApplied = s.ltApplied := with_spi_ltApplied s _
@[simp] theorem withSpi_flt (s : State) (v : Spi) : (s.withSpi v).flt = s.flt := with_spi_flt s _
@[simp] theorem withSpi_evr (s : State) (v : Spi) : (s.withSpi v).evr = s.evr := with_spi_evr s _
@[simp] theorem withSpi_saf (s : State) (v : Spi) : (s.withSpi v).saf = s.saf := with_spi_saf s _
@[simp] theorem withSpi_rst (s : State) (v : Spi) : (s.withSpi v).rst = s.rst := with_spi_rst s _
@[simp] theorem withSpi_quartz (s : State) (v : Spi) : (s.withSpi v).quartz = s.quartz := with_spi_quartz s _
@[simp] theorem withSpi_lnkA (s : State) (v : Spi) : (s.withSpi v).lnkA = s.lnkA := with_spi_lnkA s _
@[simp] theorem withSpi_lnkB (s : State) (v : Spi) : (s.withSpi v).lnkB = s.lnkB := with_spi_lnkB s _
@[simp] theorem withSpi_csf (s : State) (v : Spi) : (s.withSpi v).csf = s.csf := with_spi_csf s _
@[simp] theorem withSpi_side (s : State) (v : Spi) : (s.withSpi v).side = s.side := with_spi_side s _
@[simp] theorem withSpi_cmd (s : State) (v : Spi) : (s.withSpi v).cmd = s.cmd := with_spi_cmd s _
@[simp] theorem withSpi_cmp (s : State) (v : Spi) : (s.withSpi v).cmp = s.cmp := with_spi_cmp s _
@[simp] theorem withSpi_glare (s : State) (v : Spi) : (s.withSpi v).glare = s.glare := with_spi_glare s _
@[simp] theorem withSpi_lanes (s : State) (v : Spi) : (s.withSpi v).lanes = s.lanes := with_spi_lanes s _
@[simp] theorem withSpi_tln (s : State) (v : Spi) : (s.withSpi v).tln = s.tln := with_spi_tln s _
@[simp] theorem withSpi_gov (s : State) (v : Spi) : (s.withSpi v).gov = s.gov := with_spi_gov s _
@[simp] theorem withSpi_cal (s : State) (v : Spi) : (s.withSpi v).cal = s.cal := with_spi_cal s _
@[simp] theorem withSpi_flx (s : State) (v : Spi) : (s.withSpi v).flx = s.flx := with_spi_flx s _
@[simp] theorem withSpi_seg (s : State) (v : Spi) : (s.withSpi v).seg = s.seg := with_spi_seg s _
@[simp] theorem withSpi_thm (s : State) (v : Spi) : (s.withSpi v).thm = s.thm := with_spi_thm s _
@[simp] theorem withSpi_pwr (s : State) (v : Spi) : (s.withSpi v).pwr = s.pwr := with_spi_pwr s _
@[simp] theorem withSpi_sec (s : State) (v : Spi) : (s.withSpi v).sec = s.sec := with_spi_sec s _
@[simp] theorem withSpi_fus (s : State) (v : Spi) : (s.withSpi v).fus = s.fus := with_spi_fus s _
@[simp] theorem withSpi_upd (s : State) (v : Spi) : (s.withSpi v).upd = s.upd := with_spi_upd s _
@[simp] theorem withSpi_readData (s : State) (v : Spi) : (s.withSpi v).readData = s.readData := with_spi_readData s _
@[simp] theorem withSpi_fresh (s : State) (v : Spi) : (s.withSpi v).fresh = s.fresh := with_spi_fresh s _
@[simp] theorem withSpi_pending (s : State) (v : Spi) : (s.withSpi v).pending = s.pending := with_spi_pending s _
@[simp] theorem withSpi_word (s : State) (v : Spi) (a' : Nat) : (s.withSpi v).word a' = s.word a' := by simp [State.word]
@[simp] theorem withSpi_g (s : State) (v : Spi) (x : Fld) : (s.withSpi v).g x = s.g x := by simp [State.g]
@[simp] theorem withSpi_on (s : State) (v : Spi) (x : Fld) : (s.withSpi v).on x = s.on x := by simp [State.on]
@[simp] theorem withSpi_byte (s : State) (v : Spi) (a' : Nat) : (s.withSpi v).byte a' = s.byte a' := by simp [State.byte]

/-! ### withCmd -/

@[simp] theorem withCmd_regs (s : State) (v : Cmd) : (s.withCmd v).regs = s.regs := with_cmd_regs s _
@[simp] theorem withCmd_shadow (s : State) (v : Cmd) : (s.withCmd v).shadow = s.shadow := with_cmd_shadow s _
@[simp] theorem withCmd_pend (s : State) (v : Cmd) : (s.withCmd v).pend = s.pend := with_cmd_pend s _
@[simp] theorem withCmd_pendPages (s : State) (v : Cmd) : (s.withCmd v).pendPages = s.pendPages := with_cmd_pendPages s _
@[simp] theorem withCmd_mem (s : State) (v : Cmd) : (s.withCmd v).mem = s.mem := with_cmd_mem s _
@[simp] theorem withCmd_latches (s : State) (v : Cmd) : (s.withCmd v).latches = s.latches := with_cmd_latches s _
@[simp] theorem withCmd_now (s : State) (v : Cmd) : (s.withCmd v).now = s.now := with_cmd_now s _
@[simp] theorem withCmd_ohSub (s : State) (v : Cmd) : (s.withCmd v).ohSub = s.ohSub := with_cmd_ohSub s _
@[simp] theorem withCmd_lt (s : State) (v : Cmd) : (s.withCmd v).lt = s.lt := with_cmd_lt s _
@[simp] theorem withCmd_slew (s : State) (v : Cmd) : (s.withCmd v).slew = s.slew := with_cmd_slew s _
@[simp] theorem withCmd_ltApplied (s : State) (v : Cmd) : (s.withCmd v).ltApplied = s.ltApplied := with_cmd_ltApplied s _
@[simp] theorem withCmd_flt (s : State) (v : Cmd) : (s.withCmd v).flt = s.flt := with_cmd_flt s _
@[simp] theorem withCmd_evr (s : State) (v : Cmd) : (s.withCmd v).evr = s.evr := with_cmd_evr s _
@[simp] theorem withCmd_saf (s : State) (v : Cmd) : (s.withCmd v).saf = s.saf := with_cmd_saf s _
@[simp] theorem withCmd_rst (s : State) (v : Cmd) : (s.withCmd v).rst = s.rst := with_cmd_rst s _
@[simp] theorem withCmd_quartz (s : State) (v : Cmd) : (s.withCmd v).quartz = s.quartz := with_cmd_quartz s _
@[simp] theorem withCmd_lnkA (s : State) (v : Cmd) : (s.withCmd v).lnkA = s.lnkA := with_cmd_lnkA s _
@[simp] theorem withCmd_lnkB (s : State) (v : Cmd) : (s.withCmd v).lnkB = s.lnkB := with_cmd_lnkB s _
@[simp] theorem withCmd_csf (s : State) (v : Cmd) : (s.withCmd v).csf = s.csf := with_cmd_csf s _
@[simp] theorem withCmd_side (s : State) (v : Cmd) : (s.withCmd v).side = s.side := with_cmd_side s _
@[simp] theorem withCmd_spi (s : State) (v : Cmd) : (s.withCmd v).spi = s.spi := with_cmd_spi s _
@[simp] theorem withCmd_cmp (s : State) (v : Cmd) : (s.withCmd v).cmp = s.cmp := with_cmd_cmp s _
@[simp] theorem withCmd_glare (s : State) (v : Cmd) : (s.withCmd v).glare = s.glare := with_cmd_glare s _
@[simp] theorem withCmd_lanes (s : State) (v : Cmd) : (s.withCmd v).lanes = s.lanes := with_cmd_lanes s _
@[simp] theorem withCmd_tln (s : State) (v : Cmd) : (s.withCmd v).tln = s.tln := with_cmd_tln s _
@[simp] theorem withCmd_gov (s : State) (v : Cmd) : (s.withCmd v).gov = s.gov := with_cmd_gov s _
@[simp] theorem withCmd_cal (s : State) (v : Cmd) : (s.withCmd v).cal = s.cal := with_cmd_cal s _
@[simp] theorem withCmd_flx (s : State) (v : Cmd) : (s.withCmd v).flx = s.flx := with_cmd_flx s _
@[simp] theorem withCmd_seg (s : State) (v : Cmd) : (s.withCmd v).seg = s.seg := with_cmd_seg s _
@[simp] theorem withCmd_thm (s : State) (v : Cmd) : (s.withCmd v).thm = s.thm := with_cmd_thm s _
@[simp] theorem withCmd_pwr (s : State) (v : Cmd) : (s.withCmd v).pwr = s.pwr := with_cmd_pwr s _
@[simp] theorem withCmd_sec (s : State) (v : Cmd) : (s.withCmd v).sec = s.sec := with_cmd_sec s _
@[simp] theorem withCmd_fus (s : State) (v : Cmd) : (s.withCmd v).fus = s.fus := with_cmd_fus s _
@[simp] theorem withCmd_upd (s : State) (v : Cmd) : (s.withCmd v).upd = s.upd := with_cmd_upd s _
@[simp] theorem withCmd_readData (s : State) (v : Cmd) : (s.withCmd v).readData = s.readData := with_cmd_readData s _
@[simp] theorem withCmd_fresh (s : State) (v : Cmd) : (s.withCmd v).fresh = s.fresh := with_cmd_fresh s _
@[simp] theorem withCmd_pending (s : State) (v : Cmd) : (s.withCmd v).pending = s.pending := with_cmd_pending s _
@[simp] theorem withCmd_word (s : State) (v : Cmd) (a' : Nat) : (s.withCmd v).word a' = s.word a' := by simp [State.word]
@[simp] theorem withCmd_g (s : State) (v : Cmd) (x : Fld) : (s.withCmd v).g x = s.g x := by simp [State.g]
@[simp] theorem withCmd_on (s : State) (v : Cmd) (x : Fld) : (s.withCmd v).on x = s.on x := by simp [State.on]
@[simp] theorem withCmd_byte (s : State) (v : Cmd) (a' : Nat) : (s.withCmd v).byte a' = s.byte a' := by simp [State.byte]

/-! ### withCmp -/

@[simp] theorem withCmp_regs (s : State) (v : Cmp) : (s.withCmp v).regs = s.regs := with_cmp_regs s _
@[simp] theorem withCmp_shadow (s : State) (v : Cmp) : (s.withCmp v).shadow = s.shadow := with_cmp_shadow s _
@[simp] theorem withCmp_pend (s : State) (v : Cmp) : (s.withCmp v).pend = s.pend := with_cmp_pend s _
@[simp] theorem withCmp_pendPages (s : State) (v : Cmp) : (s.withCmp v).pendPages = s.pendPages := with_cmp_pendPages s _
@[simp] theorem withCmp_mem (s : State) (v : Cmp) : (s.withCmp v).mem = s.mem := with_cmp_mem s _
@[simp] theorem withCmp_latches (s : State) (v : Cmp) : (s.withCmp v).latches = s.latches := with_cmp_latches s _
@[simp] theorem withCmp_now (s : State) (v : Cmp) : (s.withCmp v).now = s.now := with_cmp_now s _
@[simp] theorem withCmp_ohSub (s : State) (v : Cmp) : (s.withCmp v).ohSub = s.ohSub := with_cmp_ohSub s _
@[simp] theorem withCmp_lt (s : State) (v : Cmp) : (s.withCmp v).lt = s.lt := with_cmp_lt s _
@[simp] theorem withCmp_slew (s : State) (v : Cmp) : (s.withCmp v).slew = s.slew := with_cmp_slew s _
@[simp] theorem withCmp_ltApplied (s : State) (v : Cmp) : (s.withCmp v).ltApplied = s.ltApplied := with_cmp_ltApplied s _
@[simp] theorem withCmp_flt (s : State) (v : Cmp) : (s.withCmp v).flt = s.flt := with_cmp_flt s _
@[simp] theorem withCmp_evr (s : State) (v : Cmp) : (s.withCmp v).evr = s.evr := with_cmp_evr s _
@[simp] theorem withCmp_saf (s : State) (v : Cmp) : (s.withCmp v).saf = s.saf := with_cmp_saf s _
@[simp] theorem withCmp_rst (s : State) (v : Cmp) : (s.withCmp v).rst = s.rst := with_cmp_rst s _
@[simp] theorem withCmp_quartz (s : State) (v : Cmp) : (s.withCmp v).quartz = s.quartz := with_cmp_quartz s _
@[simp] theorem withCmp_lnkA (s : State) (v : Cmp) : (s.withCmp v).lnkA = s.lnkA := with_cmp_lnkA s _
@[simp] theorem withCmp_lnkB (s : State) (v : Cmp) : (s.withCmp v).lnkB = s.lnkB := with_cmp_lnkB s _
@[simp] theorem withCmp_csf (s : State) (v : Cmp) : (s.withCmp v).csf = s.csf := with_cmp_csf s _
@[simp] theorem withCmp_side (s : State) (v : Cmp) : (s.withCmp v).side = s.side := with_cmp_side s _
@[simp] theorem withCmp_spi (s : State) (v : Cmp) : (s.withCmp v).spi = s.spi := with_cmp_spi s _
@[simp] theorem withCmp_cmd (s : State) (v : Cmp) : (s.withCmp v).cmd = s.cmd := with_cmp_cmd s _
@[simp] theorem withCmp_glare (s : State) (v : Cmp) : (s.withCmp v).glare = s.glare := with_cmp_glare s _
@[simp] theorem withCmp_lanes (s : State) (v : Cmp) : (s.withCmp v).lanes = s.lanes := with_cmp_lanes s _
@[simp] theorem withCmp_tln (s : State) (v : Cmp) : (s.withCmp v).tln = s.tln := with_cmp_tln s _
@[simp] theorem withCmp_gov (s : State) (v : Cmp) : (s.withCmp v).gov = s.gov := with_cmp_gov s _
@[simp] theorem withCmp_cal (s : State) (v : Cmp) : (s.withCmp v).cal = s.cal := with_cmp_cal s _
@[simp] theorem withCmp_flx (s : State) (v : Cmp) : (s.withCmp v).flx = s.flx := with_cmp_flx s _
@[simp] theorem withCmp_seg (s : State) (v : Cmp) : (s.withCmp v).seg = s.seg := with_cmp_seg s _
@[simp] theorem withCmp_thm (s : State) (v : Cmp) : (s.withCmp v).thm = s.thm := with_cmp_thm s _
@[simp] theorem withCmp_pwr (s : State) (v : Cmp) : (s.withCmp v).pwr = s.pwr := with_cmp_pwr s _
@[simp] theorem withCmp_sec (s : State) (v : Cmp) : (s.withCmp v).sec = s.sec := with_cmp_sec s _
@[simp] theorem withCmp_fus (s : State) (v : Cmp) : (s.withCmp v).fus = s.fus := with_cmp_fus s _
@[simp] theorem withCmp_upd (s : State) (v : Cmp) : (s.withCmp v).upd = s.upd := with_cmp_upd s _
@[simp] theorem withCmp_readData (s : State) (v : Cmp) : (s.withCmp v).readData = s.readData := with_cmp_readData s _
@[simp] theorem withCmp_fresh (s : State) (v : Cmp) : (s.withCmp v).fresh = s.fresh := with_cmp_fresh s _
@[simp] theorem withCmp_pending (s : State) (v : Cmp) : (s.withCmp v).pending = s.pending := with_cmp_pending s _
@[simp] theorem withCmp_word (s : State) (v : Cmp) (a' : Nat) : (s.withCmp v).word a' = s.word a' := by simp [State.word]
@[simp] theorem withCmp_g (s : State) (v : Cmp) (x : Fld) : (s.withCmp v).g x = s.g x := by simp [State.g]
@[simp] theorem withCmp_on (s : State) (v : Cmp) (x : Fld) : (s.withCmp v).on x = s.on x := by simp [State.on]
@[simp] theorem withCmp_byte (s : State) (v : Cmp) (a' : Nat) : (s.withCmp v).byte a' = s.byte a' := by simp [State.byte]

/-! ### withGlare -/

@[simp] theorem withGlare_regs (s : State) (v : Glare) : (s.withGlare v).regs = s.regs := with_glare_regs s _
@[simp] theorem withGlare_shadow (s : State) (v : Glare) : (s.withGlare v).shadow = s.shadow := with_glare_shadow s _
@[simp] theorem withGlare_pend (s : State) (v : Glare) : (s.withGlare v).pend = s.pend := with_glare_pend s _
@[simp] theorem withGlare_pendPages (s : State) (v : Glare) : (s.withGlare v).pendPages = s.pendPages := with_glare_pendPages s _
@[simp] theorem withGlare_mem (s : State) (v : Glare) : (s.withGlare v).mem = s.mem := with_glare_mem s _
@[simp] theorem withGlare_latches (s : State) (v : Glare) : (s.withGlare v).latches = s.latches := with_glare_latches s _
@[simp] theorem withGlare_now (s : State) (v : Glare) : (s.withGlare v).now = s.now := with_glare_now s _
@[simp] theorem withGlare_ohSub (s : State) (v : Glare) : (s.withGlare v).ohSub = s.ohSub := with_glare_ohSub s _
@[simp] theorem withGlare_lt (s : State) (v : Glare) : (s.withGlare v).lt = s.lt := with_glare_lt s _
@[simp] theorem withGlare_slew (s : State) (v : Glare) : (s.withGlare v).slew = s.slew := with_glare_slew s _
@[simp] theorem withGlare_ltApplied (s : State) (v : Glare) : (s.withGlare v).ltApplied = s.ltApplied := with_glare_ltApplied s _
@[simp] theorem withGlare_flt (s : State) (v : Glare) : (s.withGlare v).flt = s.flt := with_glare_flt s _
@[simp] theorem withGlare_evr (s : State) (v : Glare) : (s.withGlare v).evr = s.evr := with_glare_evr s _
@[simp] theorem withGlare_saf (s : State) (v : Glare) : (s.withGlare v).saf = s.saf := with_glare_saf s _
@[simp] theorem withGlare_rst (s : State) (v : Glare) : (s.withGlare v).rst = s.rst := with_glare_rst s _
@[simp] theorem withGlare_quartz (s : State) (v : Glare) : (s.withGlare v).quartz = s.quartz := with_glare_quartz s _
@[simp] theorem withGlare_lnkA (s : State) (v : Glare) : (s.withGlare v).lnkA = s.lnkA := with_glare_lnkA s _
@[simp] theorem withGlare_lnkB (s : State) (v : Glare) : (s.withGlare v).lnkB = s.lnkB := with_glare_lnkB s _
@[simp] theorem withGlare_csf (s : State) (v : Glare) : (s.withGlare v).csf = s.csf := with_glare_csf s _
@[simp] theorem withGlare_side (s : State) (v : Glare) : (s.withGlare v).side = s.side := with_glare_side s _
@[simp] theorem withGlare_spi (s : State) (v : Glare) : (s.withGlare v).spi = s.spi := with_glare_spi s _
@[simp] theorem withGlare_cmd (s : State) (v : Glare) : (s.withGlare v).cmd = s.cmd := with_glare_cmd s _
@[simp] theorem withGlare_cmp (s : State) (v : Glare) : (s.withGlare v).cmp = s.cmp := with_glare_cmp s _
@[simp] theorem withGlare_lanes (s : State) (v : Glare) : (s.withGlare v).lanes = s.lanes := with_glare_lanes s _
@[simp] theorem withGlare_tln (s : State) (v : Glare) : (s.withGlare v).tln = s.tln := with_glare_tln s _
@[simp] theorem withGlare_gov (s : State) (v : Glare) : (s.withGlare v).gov = s.gov := with_glare_gov s _
@[simp] theorem withGlare_cal (s : State) (v : Glare) : (s.withGlare v).cal = s.cal := with_glare_cal s _
@[simp] theorem withGlare_flx (s : State) (v : Glare) : (s.withGlare v).flx = s.flx := with_glare_flx s _
@[simp] theorem withGlare_seg (s : State) (v : Glare) : (s.withGlare v).seg = s.seg := with_glare_seg s _
@[simp] theorem withGlare_thm (s : State) (v : Glare) : (s.withGlare v).thm = s.thm := with_glare_thm s _
@[simp] theorem withGlare_pwr (s : State) (v : Glare) : (s.withGlare v).pwr = s.pwr := with_glare_pwr s _
@[simp] theorem withGlare_sec (s : State) (v : Glare) : (s.withGlare v).sec = s.sec := with_glare_sec s _
@[simp] theorem withGlare_fus (s : State) (v : Glare) : (s.withGlare v).fus = s.fus := with_glare_fus s _
@[simp] theorem withGlare_upd (s : State) (v : Glare) : (s.withGlare v).upd = s.upd := with_glare_upd s _
@[simp] theorem withGlare_readData (s : State) (v : Glare) : (s.withGlare v).readData = s.readData := with_glare_readData s _
@[simp] theorem withGlare_fresh (s : State) (v : Glare) : (s.withGlare v).fresh = s.fresh := with_glare_fresh s _
@[simp] theorem withGlare_pending (s : State) (v : Glare) : (s.withGlare v).pending = s.pending := with_glare_pending s _
@[simp] theorem withGlare_word (s : State) (v : Glare) (a' : Nat) : (s.withGlare v).word a' = s.word a' := by simp [State.word]
@[simp] theorem withGlare_g (s : State) (v : Glare) (x : Fld) : (s.withGlare v).g x = s.g x := by simp [State.g]
@[simp] theorem withGlare_on (s : State) (v : Glare) (x : Fld) : (s.withGlare v).on x = s.on x := by simp [State.on]
@[simp] theorem withGlare_byte (s : State) (v : Glare) (a' : Nat) : (s.withGlare v).byte a' = s.byte a' := by simp [State.byte]

/-! ### withLanes -/

@[simp] theorem withLanes_regs (s : State) (v : List Lane) : (s.withLanes v).regs = s.regs := with_lanes_regs s _
@[simp] theorem withLanes_shadow (s : State) (v : List Lane) : (s.withLanes v).shadow = s.shadow := with_lanes_shadow s _
@[simp] theorem withLanes_pend (s : State) (v : List Lane) : (s.withLanes v).pend = s.pend := with_lanes_pend s _
@[simp] theorem withLanes_pendPages (s : State) (v : List Lane) : (s.withLanes v).pendPages = s.pendPages := with_lanes_pendPages s _
@[simp] theorem withLanes_mem (s : State) (v : List Lane) : (s.withLanes v).mem = s.mem := with_lanes_mem s _
@[simp] theorem withLanes_latches (s : State) (v : List Lane) : (s.withLanes v).latches = s.latches := with_lanes_latches s _
@[simp] theorem withLanes_now (s : State) (v : List Lane) : (s.withLanes v).now = s.now := with_lanes_now s _
@[simp] theorem withLanes_ohSub (s : State) (v : List Lane) : (s.withLanes v).ohSub = s.ohSub := with_lanes_ohSub s _
@[simp] theorem withLanes_lt (s : State) (v : List Lane) : (s.withLanes v).lt = s.lt := with_lanes_lt s _
@[simp] theorem withLanes_slew (s : State) (v : List Lane) : (s.withLanes v).slew = s.slew := with_lanes_slew s _
@[simp] theorem withLanes_ltApplied (s : State) (v : List Lane) : (s.withLanes v).ltApplied = s.ltApplied := with_lanes_ltApplied s _
@[simp] theorem withLanes_flt (s : State) (v : List Lane) : (s.withLanes v).flt = s.flt := with_lanes_flt s _
@[simp] theorem withLanes_evr (s : State) (v : List Lane) : (s.withLanes v).evr = s.evr := with_lanes_evr s _
@[simp] theorem withLanes_saf (s : State) (v : List Lane) : (s.withLanes v).saf = s.saf := with_lanes_saf s _
@[simp] theorem withLanes_rst (s : State) (v : List Lane) : (s.withLanes v).rst = s.rst := with_lanes_rst s _
@[simp] theorem withLanes_quartz (s : State) (v : List Lane) : (s.withLanes v).quartz = s.quartz := with_lanes_quartz s _
@[simp] theorem withLanes_lnkA (s : State) (v : List Lane) : (s.withLanes v).lnkA = s.lnkA := with_lanes_lnkA s _
@[simp] theorem withLanes_lnkB (s : State) (v : List Lane) : (s.withLanes v).lnkB = s.lnkB := with_lanes_lnkB s _
@[simp] theorem withLanes_csf (s : State) (v : List Lane) : (s.withLanes v).csf = s.csf := with_lanes_csf s _
@[simp] theorem withLanes_side (s : State) (v : List Lane) : (s.withLanes v).side = s.side := with_lanes_side s _
@[simp] theorem withLanes_spi (s : State) (v : List Lane) : (s.withLanes v).spi = s.spi := with_lanes_spi s _
@[simp] theorem withLanes_cmd (s : State) (v : List Lane) : (s.withLanes v).cmd = s.cmd := with_lanes_cmd s _
@[simp] theorem withLanes_cmp (s : State) (v : List Lane) : (s.withLanes v).cmp = s.cmp := with_lanes_cmp s _
@[simp] theorem withLanes_glare (s : State) (v : List Lane) : (s.withLanes v).glare = s.glare := with_lanes_glare s _
@[simp] theorem withLanes_tln (s : State) (v : List Lane) : (s.withLanes v).tln = s.tln := with_lanes_tln s _
@[simp] theorem withLanes_gov (s : State) (v : List Lane) : (s.withLanes v).gov = s.gov := with_lanes_gov s _
@[simp] theorem withLanes_cal (s : State) (v : List Lane) : (s.withLanes v).cal = s.cal := with_lanes_cal s _
@[simp] theorem withLanes_flx (s : State) (v : List Lane) : (s.withLanes v).flx = s.flx := with_lanes_flx s _
@[simp] theorem withLanes_seg (s : State) (v : List Lane) : (s.withLanes v).seg = s.seg := with_lanes_seg s _
@[simp] theorem withLanes_thm (s : State) (v : List Lane) : (s.withLanes v).thm = s.thm := with_lanes_thm s _
@[simp] theorem withLanes_pwr (s : State) (v : List Lane) : (s.withLanes v).pwr = s.pwr := with_lanes_pwr s _
@[simp] theorem withLanes_sec (s : State) (v : List Lane) : (s.withLanes v).sec = s.sec := with_lanes_sec s _
@[simp] theorem withLanes_fus (s : State) (v : List Lane) : (s.withLanes v).fus = s.fus := with_lanes_fus s _
@[simp] theorem withLanes_upd (s : State) (v : List Lane) : (s.withLanes v).upd = s.upd := with_lanes_upd s _
@[simp] theorem withLanes_readData (s : State) (v : List Lane) : (s.withLanes v).readData = s.readData := with_lanes_readData s _
@[simp] theorem withLanes_fresh (s : State) (v : List Lane) : (s.withLanes v).fresh = s.fresh := with_lanes_fresh s _
@[simp] theorem withLanes_pending (s : State) (v : List Lane) : (s.withLanes v).pending = s.pending := with_lanes_pending s _
@[simp] theorem withLanes_word (s : State) (v : List Lane) (a' : Nat) : (s.withLanes v).word a' = s.word a' := by simp [State.word]
@[simp] theorem withLanes_g (s : State) (v : List Lane) (x : Fld) : (s.withLanes v).g x = s.g x := by simp [State.g]
@[simp] theorem withLanes_on (s : State) (v : List Lane) (x : Fld) : (s.withLanes v).on x = s.on x := by simp [State.on]
@[simp] theorem withLanes_byte (s : State) (v : List Lane) (a' : Nat) : (s.withLanes v).byte a' = s.byte a' := by simp [State.byte]

/-! ### withTln -/

@[simp] theorem withTln_regs (s : State) (v : Tln) : (s.withTln v).regs = s.regs := with_tln_regs s _
@[simp] theorem withTln_shadow (s : State) (v : Tln) : (s.withTln v).shadow = s.shadow := with_tln_shadow s _
@[simp] theorem withTln_pend (s : State) (v : Tln) : (s.withTln v).pend = s.pend := with_tln_pend s _
@[simp] theorem withTln_pendPages (s : State) (v : Tln) : (s.withTln v).pendPages = s.pendPages := with_tln_pendPages s _
@[simp] theorem withTln_mem (s : State) (v : Tln) : (s.withTln v).mem = s.mem := with_tln_mem s _
@[simp] theorem withTln_latches (s : State) (v : Tln) : (s.withTln v).latches = s.latches := with_tln_latches s _
@[simp] theorem withTln_now (s : State) (v : Tln) : (s.withTln v).now = s.now := with_tln_now s _
@[simp] theorem withTln_ohSub (s : State) (v : Tln) : (s.withTln v).ohSub = s.ohSub := with_tln_ohSub s _
@[simp] theorem withTln_lt (s : State) (v : Tln) : (s.withTln v).lt = s.lt := with_tln_lt s _
@[simp] theorem withTln_slew (s : State) (v : Tln) : (s.withTln v).slew = s.slew := with_tln_slew s _
@[simp] theorem withTln_ltApplied (s : State) (v : Tln) : (s.withTln v).ltApplied = s.ltApplied := with_tln_ltApplied s _
@[simp] theorem withTln_flt (s : State) (v : Tln) : (s.withTln v).flt = s.flt := with_tln_flt s _
@[simp] theorem withTln_evr (s : State) (v : Tln) : (s.withTln v).evr = s.evr := with_tln_evr s _
@[simp] theorem withTln_saf (s : State) (v : Tln) : (s.withTln v).saf = s.saf := with_tln_saf s _
@[simp] theorem withTln_rst (s : State) (v : Tln) : (s.withTln v).rst = s.rst := with_tln_rst s _
@[simp] theorem withTln_quartz (s : State) (v : Tln) : (s.withTln v).quartz = s.quartz := with_tln_quartz s _
@[simp] theorem withTln_lnkA (s : State) (v : Tln) : (s.withTln v).lnkA = s.lnkA := with_tln_lnkA s _
@[simp] theorem withTln_lnkB (s : State) (v : Tln) : (s.withTln v).lnkB = s.lnkB := with_tln_lnkB s _
@[simp] theorem withTln_csf (s : State) (v : Tln) : (s.withTln v).csf = s.csf := with_tln_csf s _
@[simp] theorem withTln_side (s : State) (v : Tln) : (s.withTln v).side = s.side := with_tln_side s _
@[simp] theorem withTln_spi (s : State) (v : Tln) : (s.withTln v).spi = s.spi := with_tln_spi s _
@[simp] theorem withTln_cmd (s : State) (v : Tln) : (s.withTln v).cmd = s.cmd := with_tln_cmd s _
@[simp] theorem withTln_cmp (s : State) (v : Tln) : (s.withTln v).cmp = s.cmp := with_tln_cmp s _
@[simp] theorem withTln_glare (s : State) (v : Tln) : (s.withTln v).glare = s.glare := with_tln_glare s _
@[simp] theorem withTln_lanes (s : State) (v : Tln) : (s.withTln v).lanes = s.lanes := with_tln_lanes s _
@[simp] theorem withTln_gov (s : State) (v : Tln) : (s.withTln v).gov = s.gov := with_tln_gov s _
@[simp] theorem withTln_cal (s : State) (v : Tln) : (s.withTln v).cal = s.cal := with_tln_cal s _
@[simp] theorem withTln_flx (s : State) (v : Tln) : (s.withTln v).flx = s.flx := with_tln_flx s _
@[simp] theorem withTln_seg (s : State) (v : Tln) : (s.withTln v).seg = s.seg := with_tln_seg s _
@[simp] theorem withTln_thm (s : State) (v : Tln) : (s.withTln v).thm = s.thm := with_tln_thm s _
@[simp] theorem withTln_pwr (s : State) (v : Tln) : (s.withTln v).pwr = s.pwr := with_tln_pwr s _
@[simp] theorem withTln_sec (s : State) (v : Tln) : (s.withTln v).sec = s.sec := with_tln_sec s _
@[simp] theorem withTln_fus (s : State) (v : Tln) : (s.withTln v).fus = s.fus := with_tln_fus s _
@[simp] theorem withTln_upd (s : State) (v : Tln) : (s.withTln v).upd = s.upd := with_tln_upd s _
@[simp] theorem withTln_readData (s : State) (v : Tln) : (s.withTln v).readData = s.readData := with_tln_readData s _
@[simp] theorem withTln_fresh (s : State) (v : Tln) : (s.withTln v).fresh = s.fresh := with_tln_fresh s _
@[simp] theorem withTln_pending (s : State) (v : Tln) : (s.withTln v).pending = s.pending := with_tln_pending s _
@[simp] theorem withTln_word (s : State) (v : Tln) (a' : Nat) : (s.withTln v).word a' = s.word a' := by simp [State.word]
@[simp] theorem withTln_g (s : State) (v : Tln) (x : Fld) : (s.withTln v).g x = s.g x := by simp [State.g]
@[simp] theorem withTln_on (s : State) (v : Tln) (x : Fld) : (s.withTln v).on x = s.on x := by simp [State.on]
@[simp] theorem withTln_byte (s : State) (v : Tln) (a' : Nat) : (s.withTln v).byte a' = s.byte a' := by simp [State.byte]

/-! ### withGov -/

@[simp] theorem withGov_regs (s : State) (v : Gov) : (s.withGov v).regs = s.regs := with_gov_regs s _
@[simp] theorem withGov_shadow (s : State) (v : Gov) : (s.withGov v).shadow = s.shadow := with_gov_shadow s _
@[simp] theorem withGov_pend (s : State) (v : Gov) : (s.withGov v).pend = s.pend := with_gov_pend s _
@[simp] theorem withGov_pendPages (s : State) (v : Gov) : (s.withGov v).pendPages = s.pendPages := with_gov_pendPages s _
@[simp] theorem withGov_mem (s : State) (v : Gov) : (s.withGov v).mem = s.mem := with_gov_mem s _
@[simp] theorem withGov_latches (s : State) (v : Gov) : (s.withGov v).latches = s.latches := with_gov_latches s _
@[simp] theorem withGov_now (s : State) (v : Gov) : (s.withGov v).now = s.now := with_gov_now s _
@[simp] theorem withGov_ohSub (s : State) (v : Gov) : (s.withGov v).ohSub = s.ohSub := with_gov_ohSub s _
@[simp] theorem withGov_lt (s : State) (v : Gov) : (s.withGov v).lt = s.lt := with_gov_lt s _
@[simp] theorem withGov_slew (s : State) (v : Gov) : (s.withGov v).slew = s.slew := with_gov_slew s _
@[simp] theorem withGov_ltApplied (s : State) (v : Gov) : (s.withGov v).ltApplied = s.ltApplied := with_gov_ltApplied s _
@[simp] theorem withGov_flt (s : State) (v : Gov) : (s.withGov v).flt = s.flt := with_gov_flt s _
@[simp] theorem withGov_evr (s : State) (v : Gov) : (s.withGov v).evr = s.evr := with_gov_evr s _
@[simp] theorem withGov_saf (s : State) (v : Gov) : (s.withGov v).saf = s.saf := with_gov_saf s _
@[simp] theorem withGov_rst (s : State) (v : Gov) : (s.withGov v).rst = s.rst := with_gov_rst s _
@[simp] theorem withGov_quartz (s : State) (v : Gov) : (s.withGov v).quartz = s.quartz := with_gov_quartz s _
@[simp] theorem withGov_lnkA (s : State) (v : Gov) : (s.withGov v).lnkA = s.lnkA := with_gov_lnkA s _
@[simp] theorem withGov_lnkB (s : State) (v : Gov) : (s.withGov v).lnkB = s.lnkB := with_gov_lnkB s _
@[simp] theorem withGov_csf (s : State) (v : Gov) : (s.withGov v).csf = s.csf := with_gov_csf s _
@[simp] theorem withGov_side (s : State) (v : Gov) : (s.withGov v).side = s.side := with_gov_side s _
@[simp] theorem withGov_spi (s : State) (v : Gov) : (s.withGov v).spi = s.spi := with_gov_spi s _
@[simp] theorem withGov_cmd (s : State) (v : Gov) : (s.withGov v).cmd = s.cmd := with_gov_cmd s _
@[simp] theorem withGov_cmp (s : State) (v : Gov) : (s.withGov v).cmp = s.cmp := with_gov_cmp s _
@[simp] theorem withGov_glare (s : State) (v : Gov) : (s.withGov v).glare = s.glare := with_gov_glare s _
@[simp] theorem withGov_lanes (s : State) (v : Gov) : (s.withGov v).lanes = s.lanes := with_gov_lanes s _
@[simp] theorem withGov_tln (s : State) (v : Gov) : (s.withGov v).tln = s.tln := with_gov_tln s _
@[simp] theorem withGov_cal (s : State) (v : Gov) : (s.withGov v).cal = s.cal := with_gov_cal s _
@[simp] theorem withGov_flx (s : State) (v : Gov) : (s.withGov v).flx = s.flx := with_gov_flx s _
@[simp] theorem withGov_seg (s : State) (v : Gov) : (s.withGov v).seg = s.seg := with_gov_seg s _
@[simp] theorem withGov_thm (s : State) (v : Gov) : (s.withGov v).thm = s.thm := with_gov_thm s _
@[simp] theorem withGov_pwr (s : State) (v : Gov) : (s.withGov v).pwr = s.pwr := with_gov_pwr s _
@[simp] theorem withGov_sec (s : State) (v : Gov) : (s.withGov v).sec = s.sec := with_gov_sec s _
@[simp] theorem withGov_fus (s : State) (v : Gov) : (s.withGov v).fus = s.fus := with_gov_fus s _
@[simp] theorem withGov_upd (s : State) (v : Gov) : (s.withGov v).upd = s.upd := with_gov_upd s _
@[simp] theorem withGov_readData (s : State) (v : Gov) : (s.withGov v).readData = s.readData := with_gov_readData s _
@[simp] theorem withGov_fresh (s : State) (v : Gov) : (s.withGov v).fresh = s.fresh := with_gov_fresh s _
@[simp] theorem withGov_pending (s : State) (v : Gov) : (s.withGov v).pending = s.pending := with_gov_pending s _
@[simp] theorem withGov_word (s : State) (v : Gov) (a' : Nat) : (s.withGov v).word a' = s.word a' := by simp [State.word]
@[simp] theorem withGov_g (s : State) (v : Gov) (x : Fld) : (s.withGov v).g x = s.g x := by simp [State.g]
@[simp] theorem withGov_on (s : State) (v : Gov) (x : Fld) : (s.withGov v).on x = s.on x := by simp [State.on]
@[simp] theorem withGov_byte (s : State) (v : Gov) (a' : Nat) : (s.withGov v).byte a' = s.byte a' := by simp [State.byte]

/-! ### withCal -/

@[simp] theorem withCal_regs (s : State) (v : Cal) : (s.withCal v).regs = s.regs := with_cal_regs s _
@[simp] theorem withCal_shadow (s : State) (v : Cal) : (s.withCal v).shadow = s.shadow := with_cal_shadow s _
@[simp] theorem withCal_pend (s : State) (v : Cal) : (s.withCal v).pend = s.pend := with_cal_pend s _
@[simp] theorem withCal_pendPages (s : State) (v : Cal) : (s.withCal v).pendPages = s.pendPages := with_cal_pendPages s _
@[simp] theorem withCal_mem (s : State) (v : Cal) : (s.withCal v).mem = s.mem := with_cal_mem s _
@[simp] theorem withCal_latches (s : State) (v : Cal) : (s.withCal v).latches = s.latches := with_cal_latches s _
@[simp] theorem withCal_now (s : State) (v : Cal) : (s.withCal v).now = s.now := with_cal_now s _
@[simp] theorem withCal_ohSub (s : State) (v : Cal) : (s.withCal v).ohSub = s.ohSub := with_cal_ohSub s _
@[simp] theorem withCal_lt (s : State) (v : Cal) : (s.withCal v).lt = s.lt := with_cal_lt s _
@[simp] theorem withCal_slew (s : State) (v : Cal) : (s.withCal v).slew = s.slew := with_cal_slew s _
@[simp] theorem withCal_ltApplied (s : State) (v : Cal) : (s.withCal v).ltApplied = s.ltApplied := with_cal_ltApplied s _
@[simp] theorem withCal_flt (s : State) (v : Cal) : (s.withCal v).flt = s.flt := with_cal_flt s _
@[simp] theorem withCal_evr (s : State) (v : Cal) : (s.withCal v).evr = s.evr := with_cal_evr s _
@[simp] theorem withCal_saf (s : State) (v : Cal) : (s.withCal v).saf = s.saf := with_cal_saf s _
@[simp] theorem withCal_rst (s : State) (v : Cal) : (s.withCal v).rst = s.rst := with_cal_rst s _
@[simp] theorem withCal_quartz (s : State) (v : Cal) : (s.withCal v).quartz = s.quartz := with_cal_quartz s _
@[simp] theorem withCal_lnkA (s : State) (v : Cal) : (s.withCal v).lnkA = s.lnkA := with_cal_lnkA s _
@[simp] theorem withCal_lnkB (s : State) (v : Cal) : (s.withCal v).lnkB = s.lnkB := with_cal_lnkB s _
@[simp] theorem withCal_csf (s : State) (v : Cal) : (s.withCal v).csf = s.csf := with_cal_csf s _
@[simp] theorem withCal_side (s : State) (v : Cal) : (s.withCal v).side = s.side := with_cal_side s _
@[simp] theorem withCal_spi (s : State) (v : Cal) : (s.withCal v).spi = s.spi := with_cal_spi s _
@[simp] theorem withCal_cmd (s : State) (v : Cal) : (s.withCal v).cmd = s.cmd := with_cal_cmd s _
@[simp] theorem withCal_cmp (s : State) (v : Cal) : (s.withCal v).cmp = s.cmp := with_cal_cmp s _
@[simp] theorem withCal_glare (s : State) (v : Cal) : (s.withCal v).glare = s.glare := with_cal_glare s _
@[simp] theorem withCal_lanes (s : State) (v : Cal) : (s.withCal v).lanes = s.lanes := with_cal_lanes s _
@[simp] theorem withCal_tln (s : State) (v : Cal) : (s.withCal v).tln = s.tln := with_cal_tln s _
@[simp] theorem withCal_gov (s : State) (v : Cal) : (s.withCal v).gov = s.gov := with_cal_gov s _
@[simp] theorem withCal_flx (s : State) (v : Cal) : (s.withCal v).flx = s.flx := with_cal_flx s _
@[simp] theorem withCal_seg (s : State) (v : Cal) : (s.withCal v).seg = s.seg := with_cal_seg s _
@[simp] theorem withCal_thm (s : State) (v : Cal) : (s.withCal v).thm = s.thm := with_cal_thm s _
@[simp] theorem withCal_pwr (s : State) (v : Cal) : (s.withCal v).pwr = s.pwr := with_cal_pwr s _
@[simp] theorem withCal_sec (s : State) (v : Cal) : (s.withCal v).sec = s.sec := with_cal_sec s _
@[simp] theorem withCal_fus (s : State) (v : Cal) : (s.withCal v).fus = s.fus := with_cal_fus s _
@[simp] theorem withCal_upd (s : State) (v : Cal) : (s.withCal v).upd = s.upd := with_cal_upd s _
@[simp] theorem withCal_readData (s : State) (v : Cal) : (s.withCal v).readData = s.readData := with_cal_readData s _
@[simp] theorem withCal_fresh (s : State) (v : Cal) : (s.withCal v).fresh = s.fresh := with_cal_fresh s _
@[simp] theorem withCal_pending (s : State) (v : Cal) : (s.withCal v).pending = s.pending := with_cal_pending s _
@[simp] theorem withCal_word (s : State) (v : Cal) (a' : Nat) : (s.withCal v).word a' = s.word a' := by simp [State.word]
@[simp] theorem withCal_g (s : State) (v : Cal) (x : Fld) : (s.withCal v).g x = s.g x := by simp [State.g]
@[simp] theorem withCal_on (s : State) (v : Cal) (x : Fld) : (s.withCal v).on x = s.on x := by simp [State.on]
@[simp] theorem withCal_byte (s : State) (v : Cal) (a' : Nat) : (s.withCal v).byte a' = s.byte a' := by simp [State.byte]

/-! ### withFlx -/

@[simp] theorem withFlx_regs (s : State) (v : Flx) : (s.withFlx v).regs = s.regs := with_flx_regs s _
@[simp] theorem withFlx_shadow (s : State) (v : Flx) : (s.withFlx v).shadow = s.shadow := with_flx_shadow s _
@[simp] theorem withFlx_pend (s : State) (v : Flx) : (s.withFlx v).pend = s.pend := with_flx_pend s _
@[simp] theorem withFlx_pendPages (s : State) (v : Flx) : (s.withFlx v).pendPages = s.pendPages := with_flx_pendPages s _
@[simp] theorem withFlx_mem (s : State) (v : Flx) : (s.withFlx v).mem = s.mem := with_flx_mem s _
@[simp] theorem withFlx_latches (s : State) (v : Flx) : (s.withFlx v).latches = s.latches := with_flx_latches s _
@[simp] theorem withFlx_now (s : State) (v : Flx) : (s.withFlx v).now = s.now := with_flx_now s _
@[simp] theorem withFlx_ohSub (s : State) (v : Flx) : (s.withFlx v).ohSub = s.ohSub := with_flx_ohSub s _
@[simp] theorem withFlx_lt (s : State) (v : Flx) : (s.withFlx v).lt = s.lt := with_flx_lt s _
@[simp] theorem withFlx_slew (s : State) (v : Flx) : (s.withFlx v).slew = s.slew := with_flx_slew s _
@[simp] theorem withFlx_ltApplied (s : State) (v : Flx) : (s.withFlx v).ltApplied = s.ltApplied := with_flx_ltApplied s _
@[simp] theorem withFlx_flt (s : State) (v : Flx) : (s.withFlx v).flt = s.flt := with_flx_flt s _
@[simp] theorem withFlx_evr (s : State) (v : Flx) : (s.withFlx v).evr = s.evr := with_flx_evr s _
@[simp] theorem withFlx_saf (s : State) (v : Flx) : (s.withFlx v).saf = s.saf := with_flx_saf s _
@[simp] theorem withFlx_rst (s : State) (v : Flx) : (s.withFlx v).rst = s.rst := with_flx_rst s _
@[simp] theorem withFlx_quartz (s : State) (v : Flx) : (s.withFlx v).quartz = s.quartz := with_flx_quartz s _
@[simp] theorem withFlx_lnkA (s : State) (v : Flx) : (s.withFlx v).lnkA = s.lnkA := with_flx_lnkA s _
@[simp] theorem withFlx_lnkB (s : State) (v : Flx) : (s.withFlx v).lnkB = s.lnkB := with_flx_lnkB s _
@[simp] theorem withFlx_csf (s : State) (v : Flx) : (s.withFlx v).csf = s.csf := with_flx_csf s _
@[simp] theorem withFlx_side (s : State) (v : Flx) : (s.withFlx v).side = s.side := with_flx_side s _
@[simp] theorem withFlx_spi (s : State) (v : Flx) : (s.withFlx v).spi = s.spi := with_flx_spi s _
@[simp] theorem withFlx_cmd (s : State) (v : Flx) : (s.withFlx v).cmd = s.cmd := with_flx_cmd s _
@[simp] theorem withFlx_cmp (s : State) (v : Flx) : (s.withFlx v).cmp = s.cmp := with_flx_cmp s _
@[simp] theorem withFlx_glare (s : State) (v : Flx) : (s.withFlx v).glare = s.glare := with_flx_glare s _
@[simp] theorem withFlx_lanes (s : State) (v : Flx) : (s.withFlx v).lanes = s.lanes := with_flx_lanes s _
@[simp] theorem withFlx_tln (s : State) (v : Flx) : (s.withFlx v).tln = s.tln := with_flx_tln s _
@[simp] theorem withFlx_gov (s : State) (v : Flx) : (s.withFlx v).gov = s.gov := with_flx_gov s _
@[simp] theorem withFlx_cal (s : State) (v : Flx) : (s.withFlx v).cal = s.cal := with_flx_cal s _
@[simp] theorem withFlx_seg (s : State) (v : Flx) : (s.withFlx v).seg = s.seg := with_flx_seg s _
@[simp] theorem withFlx_thm (s : State) (v : Flx) : (s.withFlx v).thm = s.thm := with_flx_thm s _
@[simp] theorem withFlx_pwr (s : State) (v : Flx) : (s.withFlx v).pwr = s.pwr := with_flx_pwr s _
@[simp] theorem withFlx_sec (s : State) (v : Flx) : (s.withFlx v).sec = s.sec := with_flx_sec s _
@[simp] theorem withFlx_fus (s : State) (v : Flx) : (s.withFlx v).fus = s.fus := with_flx_fus s _
@[simp] theorem withFlx_upd (s : State) (v : Flx) : (s.withFlx v).upd = s.upd := with_flx_upd s _
@[simp] theorem withFlx_readData (s : State) (v : Flx) : (s.withFlx v).readData = s.readData := with_flx_readData s _
@[simp] theorem withFlx_fresh (s : State) (v : Flx) : (s.withFlx v).fresh = s.fresh := with_flx_fresh s _
@[simp] theorem withFlx_pending (s : State) (v : Flx) : (s.withFlx v).pending = s.pending := with_flx_pending s _
@[simp] theorem withFlx_word (s : State) (v : Flx) (a' : Nat) : (s.withFlx v).word a' = s.word a' := by simp [State.word]
@[simp] theorem withFlx_g (s : State) (v : Flx) (x : Fld) : (s.withFlx v).g x = s.g x := by simp [State.g]
@[simp] theorem withFlx_on (s : State) (v : Flx) (x : Fld) : (s.withFlx v).on x = s.on x := by simp [State.on]
@[simp] theorem withFlx_byte (s : State) (v : Flx) (a' : Nat) : (s.withFlx v).byte a' = s.byte a' := by simp [State.byte]

/-! ### withSeg -/

@[simp] theorem withSeg_regs (s : State) (v : Seg) : (s.withSeg v).regs = s.regs := with_seg_regs s _
@[simp] theorem withSeg_shadow (s : State) (v : Seg) : (s.withSeg v).shadow = s.shadow := with_seg_shadow s _
@[simp] theorem withSeg_pend (s : State) (v : Seg) : (s.withSeg v).pend = s.pend := with_seg_pend s _
@[simp] theorem withSeg_pendPages (s : State) (v : Seg) : (s.withSeg v).pendPages = s.pendPages := with_seg_pendPages s _
@[simp] theorem withSeg_mem (s : State) (v : Seg) : (s.withSeg v).mem = s.mem := with_seg_mem s _
@[simp] theorem withSeg_latches (s : State) (v : Seg) : (s.withSeg v).latches = s.latches := with_seg_latches s _
@[simp] theorem withSeg_now (s : State) (v : Seg) : (s.withSeg v).now = s.now := with_seg_now s _
@[simp] theorem withSeg_ohSub (s : State) (v : Seg) : (s.withSeg v).ohSub = s.ohSub := with_seg_ohSub s _
@[simp] theorem withSeg_lt (s : State) (v : Seg) : (s.withSeg v).lt = s.lt := with_seg_lt s _
@[simp] theorem withSeg_slew (s : State) (v : Seg) : (s.withSeg v).slew = s.slew := with_seg_slew s _
@[simp] theorem withSeg_ltApplied (s : State) (v : Seg) : (s.withSeg v).ltApplied = s.ltApplied := with_seg_ltApplied s _
@[simp] theorem withSeg_flt (s : State) (v : Seg) : (s.withSeg v).flt = s.flt := with_seg_flt s _
@[simp] theorem withSeg_evr (s : State) (v : Seg) : (s.withSeg v).evr = s.evr := with_seg_evr s _
@[simp] theorem withSeg_saf (s : State) (v : Seg) : (s.withSeg v).saf = s.saf := with_seg_saf s _
@[simp] theorem withSeg_rst (s : State) (v : Seg) : (s.withSeg v).rst = s.rst := with_seg_rst s _
@[simp] theorem withSeg_quartz (s : State) (v : Seg) : (s.withSeg v).quartz = s.quartz := with_seg_quartz s _
@[simp] theorem withSeg_lnkA (s : State) (v : Seg) : (s.withSeg v).lnkA = s.lnkA := with_seg_lnkA s _
@[simp] theorem withSeg_lnkB (s : State) (v : Seg) : (s.withSeg v).lnkB = s.lnkB := with_seg_lnkB s _
@[simp] theorem withSeg_csf (s : State) (v : Seg) : (s.withSeg v).csf = s.csf := with_seg_csf s _
@[simp] theorem withSeg_side (s : State) (v : Seg) : (s.withSeg v).side = s.side := with_seg_side s _
@[simp] theorem withSeg_spi (s : State) (v : Seg) : (s.withSeg v).spi = s.spi := with_seg_spi s _
@[simp] theorem withSeg_cmd (s : State) (v : Seg) : (s.withSeg v).cmd = s.cmd := with_seg_cmd s _
@[simp] theorem withSeg_cmp (s : State) (v : Seg) : (s.withSeg v).cmp = s.cmp := with_seg_cmp s _
@[simp] theorem withSeg_glare (s : State) (v : Seg) : (s.withSeg v).glare = s.glare := with_seg_glare s _
@[simp] theorem withSeg_lanes (s : State) (v : Seg) : (s.withSeg v).lanes = s.lanes := with_seg_lanes s _
@[simp] theorem withSeg_tln (s : State) (v : Seg) : (s.withSeg v).tln = s.tln := with_seg_tln s _
@[simp] theorem withSeg_gov (s : State) (v : Seg) : (s.withSeg v).gov = s.gov := with_seg_gov s _
@[simp] theorem withSeg_cal (s : State) (v : Seg) : (s.withSeg v).cal = s.cal := with_seg_cal s _
@[simp] theorem withSeg_flx (s : State) (v : Seg) : (s.withSeg v).flx = s.flx := with_seg_flx s _
@[simp] theorem withSeg_thm (s : State) (v : Seg) : (s.withSeg v).thm = s.thm := with_seg_thm s _
@[simp] theorem withSeg_pwr (s : State) (v : Seg) : (s.withSeg v).pwr = s.pwr := with_seg_pwr s _
@[simp] theorem withSeg_sec (s : State) (v : Seg) : (s.withSeg v).sec = s.sec := with_seg_sec s _
@[simp] theorem withSeg_fus (s : State) (v : Seg) : (s.withSeg v).fus = s.fus := with_seg_fus s _
@[simp] theorem withSeg_upd (s : State) (v : Seg) : (s.withSeg v).upd = s.upd := with_seg_upd s _
@[simp] theorem withSeg_readData (s : State) (v : Seg) : (s.withSeg v).readData = s.readData := with_seg_readData s _
@[simp] theorem withSeg_fresh (s : State) (v : Seg) : (s.withSeg v).fresh = s.fresh := with_seg_fresh s _
@[simp] theorem withSeg_pending (s : State) (v : Seg) : (s.withSeg v).pending = s.pending := with_seg_pending s _
@[simp] theorem withSeg_word (s : State) (v : Seg) (a' : Nat) : (s.withSeg v).word a' = s.word a' := by simp [State.word]
@[simp] theorem withSeg_g (s : State) (v : Seg) (x : Fld) : (s.withSeg v).g x = s.g x := by simp [State.g]
@[simp] theorem withSeg_on (s : State) (v : Seg) (x : Fld) : (s.withSeg v).on x = s.on x := by simp [State.on]
@[simp] theorem withSeg_byte (s : State) (v : Seg) (a' : Nat) : (s.withSeg v).byte a' = s.byte a' := by simp [State.byte]

/-! ### withThm -/

@[simp] theorem withThm_regs (s : State) (v : Thm) : (s.withThm v).regs = s.regs := with_thm_regs s _
@[simp] theorem withThm_shadow (s : State) (v : Thm) : (s.withThm v).shadow = s.shadow := with_thm_shadow s _
@[simp] theorem withThm_pend (s : State) (v : Thm) : (s.withThm v).pend = s.pend := with_thm_pend s _
@[simp] theorem withThm_pendPages (s : State) (v : Thm) : (s.withThm v).pendPages = s.pendPages := with_thm_pendPages s _
@[simp] theorem withThm_mem (s : State) (v : Thm) : (s.withThm v).mem = s.mem := with_thm_mem s _
@[simp] theorem withThm_latches (s : State) (v : Thm) : (s.withThm v).latches = s.latches := with_thm_latches s _
@[simp] theorem withThm_now (s : State) (v : Thm) : (s.withThm v).now = s.now := with_thm_now s _
@[simp] theorem withThm_ohSub (s : State) (v : Thm) : (s.withThm v).ohSub = s.ohSub := with_thm_ohSub s _
@[simp] theorem withThm_lt (s : State) (v : Thm) : (s.withThm v).lt = s.lt := with_thm_lt s _
@[simp] theorem withThm_slew (s : State) (v : Thm) : (s.withThm v).slew = s.slew := with_thm_slew s _
@[simp] theorem withThm_ltApplied (s : State) (v : Thm) : (s.withThm v).ltApplied = s.ltApplied := with_thm_ltApplied s _
@[simp] theorem withThm_flt (s : State) (v : Thm) : (s.withThm v).flt = s.flt := with_thm_flt s _
@[simp] theorem withThm_evr (s : State) (v : Thm) : (s.withThm v).evr = s.evr := with_thm_evr s _
@[simp] theorem withThm_saf (s : State) (v : Thm) : (s.withThm v).saf = s.saf := with_thm_saf s _
@[simp] theorem withThm_rst (s : State) (v : Thm) : (s.withThm v).rst = s.rst := with_thm_rst s _
@[simp] theorem withThm_quartz (s : State) (v : Thm) : (s.withThm v).quartz = s.quartz := with_thm_quartz s _
@[simp] theorem withThm_lnkA (s : State) (v : Thm) : (s.withThm v).lnkA = s.lnkA := with_thm_lnkA s _
@[simp] theorem withThm_lnkB (s : State) (v : Thm) : (s.withThm v).lnkB = s.lnkB := with_thm_lnkB s _
@[simp] theorem withThm_csf (s : State) (v : Thm) : (s.withThm v).csf = s.csf := with_thm_csf s _
@[simp] theorem withThm_side (s : State) (v : Thm) : (s.withThm v).side = s.side := with_thm_side s _
@[simp] theorem withThm_spi (s : State) (v : Thm) : (s.withThm v).spi = s.spi := with_thm_spi s _
@[simp] theorem withThm_cmd (s : State) (v : Thm) : (s.withThm v).cmd = s.cmd := with_thm_cmd s _
@[simp] theorem withThm_cmp (s : State) (v : Thm) : (s.withThm v).cmp = s.cmp := with_thm_cmp s _
@[simp] theorem withThm_glare (s : State) (v : Thm) : (s.withThm v).glare = s.glare := with_thm_glare s _
@[simp] theorem withThm_lanes (s : State) (v : Thm) : (s.withThm v).lanes = s.lanes := with_thm_lanes s _
@[simp] theorem withThm_tln (s : State) (v : Thm) : (s.withThm v).tln = s.tln := with_thm_tln s _
@[simp] theorem withThm_gov (s : State) (v : Thm) : (s.withThm v).gov = s.gov := with_thm_gov s _
@[simp] theorem withThm_cal (s : State) (v : Thm) : (s.withThm v).cal = s.cal := with_thm_cal s _
@[simp] theorem withThm_flx (s : State) (v : Thm) : (s.withThm v).flx = s.flx := with_thm_flx s _
@[simp] theorem withThm_seg (s : State) (v : Thm) : (s.withThm v).seg = s.seg := with_thm_seg s _
@[simp] theorem withThm_pwr (s : State) (v : Thm) : (s.withThm v).pwr = s.pwr := with_thm_pwr s _
@[simp] theorem withThm_sec (s : State) (v : Thm) : (s.withThm v).sec = s.sec := with_thm_sec s _
@[simp] theorem withThm_fus (s : State) (v : Thm) : (s.withThm v).fus = s.fus := with_thm_fus s _
@[simp] theorem withThm_upd (s : State) (v : Thm) : (s.withThm v).upd = s.upd := with_thm_upd s _
@[simp] theorem withThm_readData (s : State) (v : Thm) : (s.withThm v).readData = s.readData := with_thm_readData s _
@[simp] theorem withThm_fresh (s : State) (v : Thm) : (s.withThm v).fresh = s.fresh := with_thm_fresh s _
@[simp] theorem withThm_pending (s : State) (v : Thm) : (s.withThm v).pending = s.pending := with_thm_pending s _
@[simp] theorem withThm_word (s : State) (v : Thm) (a' : Nat) : (s.withThm v).word a' = s.word a' := by simp [State.word]
@[simp] theorem withThm_g (s : State) (v : Thm) (x : Fld) : (s.withThm v).g x = s.g x := by simp [State.g]
@[simp] theorem withThm_on (s : State) (v : Thm) (x : Fld) : (s.withThm v).on x = s.on x := by simp [State.on]
@[simp] theorem withThm_byte (s : State) (v : Thm) (a' : Nat) : (s.withThm v).byte a' = s.byte a' := by simp [State.byte]

/-! ### withPwr -/

@[simp] theorem withPwr_regs (s : State) (v : Pwr) : (s.withPwr v).regs = s.regs := with_pwr_regs s _
@[simp] theorem withPwr_shadow (s : State) (v : Pwr) : (s.withPwr v).shadow = s.shadow := with_pwr_shadow s _
@[simp] theorem withPwr_pend (s : State) (v : Pwr) : (s.withPwr v).pend = s.pend := with_pwr_pend s _
@[simp] theorem withPwr_pendPages (s : State) (v : Pwr) : (s.withPwr v).pendPages = s.pendPages := with_pwr_pendPages s _
@[simp] theorem withPwr_mem (s : State) (v : Pwr) : (s.withPwr v).mem = s.mem := with_pwr_mem s _
@[simp] theorem withPwr_latches (s : State) (v : Pwr) : (s.withPwr v).latches = s.latches := with_pwr_latches s _
@[simp] theorem withPwr_now (s : State) (v : Pwr) : (s.withPwr v).now = s.now := with_pwr_now s _
@[simp] theorem withPwr_ohSub (s : State) (v : Pwr) : (s.withPwr v).ohSub = s.ohSub := with_pwr_ohSub s _
@[simp] theorem withPwr_lt (s : State) (v : Pwr) : (s.withPwr v).lt = s.lt := with_pwr_lt s _
@[simp] theorem withPwr_slew (s : State) (v : Pwr) : (s.withPwr v).slew = s.slew := with_pwr_slew s _
@[simp] theorem withPwr_ltApplied (s : State) (v : Pwr) : (s.withPwr v).ltApplied = s.ltApplied := with_pwr_ltApplied s _
@[simp] theorem withPwr_flt (s : State) (v : Pwr) : (s.withPwr v).flt = s.flt := with_pwr_flt s _
@[simp] theorem withPwr_evr (s : State) (v : Pwr) : (s.withPwr v).evr = s.evr := with_pwr_evr s _
@[simp] theorem withPwr_saf (s : State) (v : Pwr) : (s.withPwr v).saf = s.saf := with_pwr_saf s _
@[simp] theorem withPwr_rst (s : State) (v : Pwr) : (s.withPwr v).rst = s.rst := with_pwr_rst s _
@[simp] theorem withPwr_quartz (s : State) (v : Pwr) : (s.withPwr v).quartz = s.quartz := with_pwr_quartz s _
@[simp] theorem withPwr_lnkA (s : State) (v : Pwr) : (s.withPwr v).lnkA = s.lnkA := with_pwr_lnkA s _
@[simp] theorem withPwr_lnkB (s : State) (v : Pwr) : (s.withPwr v).lnkB = s.lnkB := with_pwr_lnkB s _
@[simp] theorem withPwr_csf (s : State) (v : Pwr) : (s.withPwr v).csf = s.csf := with_pwr_csf s _
@[simp] theorem withPwr_side (s : State) (v : Pwr) : (s.withPwr v).side = s.side := with_pwr_side s _
@[simp] theorem withPwr_spi (s : State) (v : Pwr) : (s.withPwr v).spi = s.spi := with_pwr_spi s _
@[simp] theorem withPwr_cmd (s : State) (v : Pwr) : (s.withPwr v).cmd = s.cmd := with_pwr_cmd s _
@[simp] theorem withPwr_cmp (s : State) (v : Pwr) : (s.withPwr v).cmp = s.cmp := with_pwr_cmp s _
@[simp] theorem withPwr_glare (s : State) (v : Pwr) : (s.withPwr v).glare = s.glare := with_pwr_glare s _
@[simp] theorem withPwr_lanes (s : State) (v : Pwr) : (s.withPwr v).lanes = s.lanes := with_pwr_lanes s _
@[simp] theorem withPwr_tln (s : State) (v : Pwr) : (s.withPwr v).tln = s.tln := with_pwr_tln s _
@[simp] theorem withPwr_gov (s : State) (v : Pwr) : (s.withPwr v).gov = s.gov := with_pwr_gov s _
@[simp] theorem withPwr_cal (s : State) (v : Pwr) : (s.withPwr v).cal = s.cal := with_pwr_cal s _
@[simp] theorem withPwr_flx (s : State) (v : Pwr) : (s.withPwr v).flx = s.flx := with_pwr_flx s _
@[simp] theorem withPwr_seg (s : State) (v : Pwr) : (s.withPwr v).seg = s.seg := with_pwr_seg s _
@[simp] theorem withPwr_thm (s : State) (v : Pwr) : (s.withPwr v).thm = s.thm := with_pwr_thm s _
@[simp] theorem withPwr_sec (s : State) (v : Pwr) : (s.withPwr v).sec = s.sec := with_pwr_sec s _
@[simp] theorem withPwr_fus (s : State) (v : Pwr) : (s.withPwr v).fus = s.fus := with_pwr_fus s _
@[simp] theorem withPwr_upd (s : State) (v : Pwr) : (s.withPwr v).upd = s.upd := with_pwr_upd s _
@[simp] theorem withPwr_readData (s : State) (v : Pwr) : (s.withPwr v).readData = s.readData := with_pwr_readData s _
@[simp] theorem withPwr_fresh (s : State) (v : Pwr) : (s.withPwr v).fresh = s.fresh := with_pwr_fresh s _
@[simp] theorem withPwr_pending (s : State) (v : Pwr) : (s.withPwr v).pending = s.pending := with_pwr_pending s _
@[simp] theorem withPwr_word (s : State) (v : Pwr) (a' : Nat) : (s.withPwr v).word a' = s.word a' := by simp [State.word]
@[simp] theorem withPwr_g (s : State) (v : Pwr) (x : Fld) : (s.withPwr v).g x = s.g x := by simp [State.g]
@[simp] theorem withPwr_on (s : State) (v : Pwr) (x : Fld) : (s.withPwr v).on x = s.on x := by simp [State.on]
@[simp] theorem withPwr_byte (s : State) (v : Pwr) (a' : Nat) : (s.withPwr v).byte a' = s.byte a' := by simp [State.byte]

/-! ### withSec -/

@[simp] theorem withSec_regs (s : State) (v : Sec) : (s.withSec v).regs = s.regs := with_sec_regs s _
@[simp] theorem withSec_shadow (s : State) (v : Sec) : (s.withSec v).shadow = s.shadow := with_sec_shadow s _
@[simp] theorem withSec_pend (s : State) (v : Sec) : (s.withSec v).pend = s.pend := with_sec_pend s _
@[simp] theorem withSec_pendPages (s : State) (v : Sec) : (s.withSec v).pendPages = s.pendPages := with_sec_pendPages s _
@[simp] theorem withSec_mem (s : State) (v : Sec) : (s.withSec v).mem = s.mem := with_sec_mem s _
@[simp] theorem withSec_latches (s : State) (v : Sec) : (s.withSec v).latches = s.latches := with_sec_latches s _
@[simp] theorem withSec_now (s : State) (v : Sec) : (s.withSec v).now = s.now := with_sec_now s _
@[simp] theorem withSec_ohSub (s : State) (v : Sec) : (s.withSec v).ohSub = s.ohSub := with_sec_ohSub s _
@[simp] theorem withSec_lt (s : State) (v : Sec) : (s.withSec v).lt = s.lt := with_sec_lt s _
@[simp] theorem withSec_slew (s : State) (v : Sec) : (s.withSec v).slew = s.slew := with_sec_slew s _
@[simp] theorem withSec_ltApplied (s : State) (v : Sec) : (s.withSec v).ltApplied = s.ltApplied := with_sec_ltApplied s _
@[simp] theorem withSec_flt (s : State) (v : Sec) : (s.withSec v).flt = s.flt := with_sec_flt s _
@[simp] theorem withSec_evr (s : State) (v : Sec) : (s.withSec v).evr = s.evr := with_sec_evr s _
@[simp] theorem withSec_saf (s : State) (v : Sec) : (s.withSec v).saf = s.saf := with_sec_saf s _
@[simp] theorem withSec_rst (s : State) (v : Sec) : (s.withSec v).rst = s.rst := with_sec_rst s _
@[simp] theorem withSec_quartz (s : State) (v : Sec) : (s.withSec v).quartz = s.quartz := with_sec_quartz s _
@[simp] theorem withSec_lnkA (s : State) (v : Sec) : (s.withSec v).lnkA = s.lnkA := with_sec_lnkA s _
@[simp] theorem withSec_lnkB (s : State) (v : Sec) : (s.withSec v).lnkB = s.lnkB := with_sec_lnkB s _
@[simp] theorem withSec_csf (s : State) (v : Sec) : (s.withSec v).csf = s.csf := with_sec_csf s _
@[simp] theorem withSec_side (s : State) (v : Sec) : (s.withSec v).side = s.side := with_sec_side s _
@[simp] theorem withSec_spi (s : State) (v : Sec) : (s.withSec v).spi = s.spi := with_sec_spi s _
@[simp] theorem withSec_cmd (s : State) (v : Sec) : (s.withSec v).cmd = s.cmd := with_sec_cmd s _
@[simp] theorem withSec_cmp (s : State) (v : Sec) : (s.withSec v).cmp = s.cmp := with_sec_cmp s _
@[simp] theorem withSec_glare (s : State) (v : Sec) : (s.withSec v).glare = s.glare := with_sec_glare s _
@[simp] theorem withSec_lanes (s : State) (v : Sec) : (s.withSec v).lanes = s.lanes := with_sec_lanes s _
@[simp] theorem withSec_tln (s : State) (v : Sec) : (s.withSec v).tln = s.tln := with_sec_tln s _
@[simp] theorem withSec_gov (s : State) (v : Sec) : (s.withSec v).gov = s.gov := with_sec_gov s _
@[simp] theorem withSec_cal (s : State) (v : Sec) : (s.withSec v).cal = s.cal := with_sec_cal s _
@[simp] theorem withSec_flx (s : State) (v : Sec) : (s.withSec v).flx = s.flx := with_sec_flx s _
@[simp] theorem withSec_seg (s : State) (v : Sec) : (s.withSec v).seg = s.seg := with_sec_seg s _
@[simp] theorem withSec_thm (s : State) (v : Sec) : (s.withSec v).thm = s.thm := with_sec_thm s _
@[simp] theorem withSec_pwr (s : State) (v : Sec) : (s.withSec v).pwr = s.pwr := with_sec_pwr s _
@[simp] theorem withSec_fus (s : State) (v : Sec) : (s.withSec v).fus = s.fus := with_sec_fus s _
@[simp] theorem withSec_upd (s : State) (v : Sec) : (s.withSec v).upd = s.upd := with_sec_upd s _
@[simp] theorem withSec_readData (s : State) (v : Sec) : (s.withSec v).readData = s.readData := with_sec_readData s _
@[simp] theorem withSec_fresh (s : State) (v : Sec) : (s.withSec v).fresh = s.fresh := with_sec_fresh s _
@[simp] theorem withSec_pending (s : State) (v : Sec) : (s.withSec v).pending = s.pending := with_sec_pending s _
@[simp] theorem withSec_word (s : State) (v : Sec) (a' : Nat) : (s.withSec v).word a' = s.word a' := by simp [State.word]
@[simp] theorem withSec_g (s : State) (v : Sec) (x : Fld) : (s.withSec v).g x = s.g x := by simp [State.g]
@[simp] theorem withSec_on (s : State) (v : Sec) (x : Fld) : (s.withSec v).on x = s.on x := by simp [State.on]
@[simp] theorem withSec_byte (s : State) (v : Sec) (a' : Nat) : (s.withSec v).byte a' = s.byte a' := by simp [State.byte]

/-! ### withFus -/

@[simp] theorem withFus_regs (s : State) (v : Fus) : (s.withFus v).regs = s.regs := with_fus_regs s _
@[simp] theorem withFus_shadow (s : State) (v : Fus) : (s.withFus v).shadow = s.shadow := with_fus_shadow s _
@[simp] theorem withFus_pend (s : State) (v : Fus) : (s.withFus v).pend = s.pend := with_fus_pend s _
@[simp] theorem withFus_pendPages (s : State) (v : Fus) : (s.withFus v).pendPages = s.pendPages := with_fus_pendPages s _
@[simp] theorem withFus_mem (s : State) (v : Fus) : (s.withFus v).mem = s.mem := with_fus_mem s _
@[simp] theorem withFus_latches (s : State) (v : Fus) : (s.withFus v).latches = s.latches := with_fus_latches s _
@[simp] theorem withFus_now (s : State) (v : Fus) : (s.withFus v).now = s.now := with_fus_now s _
@[simp] theorem withFus_ohSub (s : State) (v : Fus) : (s.withFus v).ohSub = s.ohSub := with_fus_ohSub s _
@[simp] theorem withFus_lt (s : State) (v : Fus) : (s.withFus v).lt = s.lt := with_fus_lt s _
@[simp] theorem withFus_slew (s : State) (v : Fus) : (s.withFus v).slew = s.slew := with_fus_slew s _
@[simp] theorem withFus_ltApplied (s : State) (v : Fus) : (s.withFus v).ltApplied = s.ltApplied := with_fus_ltApplied s _
@[simp] theorem withFus_flt (s : State) (v : Fus) : (s.withFus v).flt = s.flt := with_fus_flt s _
@[simp] theorem withFus_evr (s : State) (v : Fus) : (s.withFus v).evr = s.evr := with_fus_evr s _
@[simp] theorem withFus_saf (s : State) (v : Fus) : (s.withFus v).saf = s.saf := with_fus_saf s _
@[simp] theorem withFus_rst (s : State) (v : Fus) : (s.withFus v).rst = s.rst := with_fus_rst s _
@[simp] theorem withFus_quartz (s : State) (v : Fus) : (s.withFus v).quartz = s.quartz := with_fus_quartz s _
@[simp] theorem withFus_lnkA (s : State) (v : Fus) : (s.withFus v).lnkA = s.lnkA := with_fus_lnkA s _
@[simp] theorem withFus_lnkB (s : State) (v : Fus) : (s.withFus v).lnkB = s.lnkB := with_fus_lnkB s _
@[simp] theorem withFus_csf (s : State) (v : Fus) : (s.withFus v).csf = s.csf := with_fus_csf s _
@[simp] theorem withFus_side (s : State) (v : Fus) : (s.withFus v).side = s.side := with_fus_side s _
@[simp] theorem withFus_spi (s : State) (v : Fus) : (s.withFus v).spi = s.spi := with_fus_spi s _
@[simp] theorem withFus_cmd (s : State) (v : Fus) : (s.withFus v).cmd = s.cmd := with_fus_cmd s _
@[simp] theorem withFus_cmp (s : State) (v : Fus) : (s.withFus v).cmp = s.cmp := with_fus_cmp s _
@[simp] theorem withFus_glare (s : State) (v : Fus) : (s.withFus v).glare = s.glare := with_fus_glare s _
@[simp] theorem withFus_lanes (s : State) (v : Fus) : (s.withFus v).lanes = s.lanes := with_fus_lanes s _
@[simp] theorem withFus_tln (s : State) (v : Fus) : (s.withFus v).tln = s.tln := with_fus_tln s _
@[simp] theorem withFus_gov (s : State) (v : Fus) : (s.withFus v).gov = s.gov := with_fus_gov s _
@[simp] theorem withFus_cal (s : State) (v : Fus) : (s.withFus v).cal = s.cal := with_fus_cal s _
@[simp] theorem withFus_flx (s : State) (v : Fus) : (s.withFus v).flx = s.flx := with_fus_flx s _
@[simp] theorem withFus_seg (s : State) (v : Fus) : (s.withFus v).seg = s.seg := with_fus_seg s _
@[simp] theorem withFus_thm (s : State) (v : Fus) : (s.withFus v).thm = s.thm := with_fus_thm s _
@[simp] theorem withFus_pwr (s : State) (v : Fus) : (s.withFus v).pwr = s.pwr := with_fus_pwr s _
@[simp] theorem withFus_sec (s : State) (v : Fus) : (s.withFus v).sec = s.sec := with_fus_sec s _
@[simp] theorem withFus_upd (s : State) (v : Fus) : (s.withFus v).upd = s.upd := with_fus_upd s _
@[simp] theorem withFus_readData (s : State) (v : Fus) : (s.withFus v).readData = s.readData := with_fus_readData s _
@[simp] theorem withFus_fresh (s : State) (v : Fus) : (s.withFus v).fresh = s.fresh := with_fus_fresh s _
@[simp] theorem withFus_pending (s : State) (v : Fus) : (s.withFus v).pending = s.pending := with_fus_pending s _
@[simp] theorem withFus_word (s : State) (v : Fus) (a' : Nat) : (s.withFus v).word a' = s.word a' := by simp [State.word]
@[simp] theorem withFus_g (s : State) (v : Fus) (x : Fld) : (s.withFus v).g x = s.g x := by simp [State.g]
@[simp] theorem withFus_on (s : State) (v : Fus) (x : Fld) : (s.withFus v).on x = s.on x := by simp [State.on]
@[simp] theorem withFus_byte (s : State) (v : Fus) (a' : Nat) : (s.withFus v).byte a' = s.byte a' := by simp [State.byte]

/-! ### withUpd -/

@[simp] theorem withUpd_regs (s : State) (v : Upd) : (s.withUpd v).regs = s.regs := with_upd_regs s _
@[simp] theorem withUpd_shadow (s : State) (v : Upd) : (s.withUpd v).shadow = s.shadow := with_upd_shadow s _
@[simp] theorem withUpd_pend (s : State) (v : Upd) : (s.withUpd v).pend = s.pend := with_upd_pend s _
@[simp] theorem withUpd_pendPages (s : State) (v : Upd) : (s.withUpd v).pendPages = s.pendPages := with_upd_pendPages s _
@[simp] theorem withUpd_mem (s : State) (v : Upd) : (s.withUpd v).mem = s.mem := with_upd_mem s _
@[simp] theorem withUpd_latches (s : State) (v : Upd) : (s.withUpd v).latches = s.latches := with_upd_latches s _
@[simp] theorem withUpd_now (s : State) (v : Upd) : (s.withUpd v).now = s.now := with_upd_now s _
@[simp] theorem withUpd_ohSub (s : State) (v : Upd) : (s.withUpd v).ohSub = s.ohSub := with_upd_ohSub s _
@[simp] theorem withUpd_lt (s : State) (v : Upd) : (s.withUpd v).lt = s.lt := with_upd_lt s _
@[simp] theorem withUpd_slew (s : State) (v : Upd) : (s.withUpd v).slew = s.slew := with_upd_slew s _
@[simp] theorem withUpd_ltApplied (s : State) (v : Upd) : (s.withUpd v).ltApplied = s.ltApplied := with_upd_ltApplied s _
@[simp] theorem withUpd_flt (s : State) (v : Upd) : (s.withUpd v).flt = s.flt := with_upd_flt s _
@[simp] theorem withUpd_evr (s : State) (v : Upd) : (s.withUpd v).evr = s.evr := with_upd_evr s _
@[simp] theorem withUpd_saf (s : State) (v : Upd) : (s.withUpd v).saf = s.saf := with_upd_saf s _
@[simp] theorem withUpd_rst (s : State) (v : Upd) : (s.withUpd v).rst = s.rst := with_upd_rst s _
@[simp] theorem withUpd_quartz (s : State) (v : Upd) : (s.withUpd v).quartz = s.quartz := with_upd_quartz s _
@[simp] theorem withUpd_lnkA (s : State) (v : Upd) : (s.withUpd v).lnkA = s.lnkA := with_upd_lnkA s _
@[simp] theorem withUpd_lnkB (s : State) (v : Upd) : (s.withUpd v).lnkB = s.lnkB := with_upd_lnkB s _
@[simp] theorem withUpd_csf (s : State) (v : Upd) : (s.withUpd v).csf = s.csf := with_upd_csf s _
@[simp] theorem withUpd_side (s : State) (v : Upd) : (s.withUpd v).side = s.side := with_upd_side s _
@[simp] theorem withUpd_spi (s : State) (v : Upd) : (s.withUpd v).spi = s.spi := with_upd_spi s _
@[simp] theorem withUpd_cmd (s : State) (v : Upd) : (s.withUpd v).cmd = s.cmd := with_upd_cmd s _
@[simp] theorem withUpd_cmp (s : State) (v : Upd) : (s.withUpd v).cmp = s.cmp := with_upd_cmp s _
@[simp] theorem withUpd_glare (s : State) (v : Upd) : (s.withUpd v).glare = s.glare := with_upd_glare s _
@[simp] theorem withUpd_lanes (s : State) (v : Upd) : (s.withUpd v).lanes = s.lanes := with_upd_lanes s _
@[simp] theorem withUpd_tln (s : State) (v : Upd) : (s.withUpd v).tln = s.tln := with_upd_tln s _
@[simp] theorem withUpd_gov (s : State) (v : Upd) : (s.withUpd v).gov = s.gov := with_upd_gov s _
@[simp] theorem withUpd_cal (s : State) (v : Upd) : (s.withUpd v).cal = s.cal := with_upd_cal s _
@[simp] theorem withUpd_flx (s : State) (v : Upd) : (s.withUpd v).flx = s.flx := with_upd_flx s _
@[simp] theorem withUpd_seg (s : State) (v : Upd) : (s.withUpd v).seg = s.seg := with_upd_seg s _
@[simp] theorem withUpd_thm (s : State) (v : Upd) : (s.withUpd v).thm = s.thm := with_upd_thm s _
@[simp] theorem withUpd_pwr (s : State) (v : Upd) : (s.withUpd v).pwr = s.pwr := with_upd_pwr s _
@[simp] theorem withUpd_sec (s : State) (v : Upd) : (s.withUpd v).sec = s.sec := with_upd_sec s _
@[simp] theorem withUpd_fus (s : State) (v : Upd) : (s.withUpd v).fus = s.fus := with_upd_fus s _
@[simp] theorem withUpd_readData (s : State) (v : Upd) : (s.withUpd v).readData = s.readData := with_upd_readData s _
@[simp] theorem withUpd_fresh (s : State) (v : Upd) : (s.withUpd v).fresh = s.fresh := with_upd_fresh s _
@[simp] theorem withUpd_pending (s : State) (v : Upd) : (s.withUpd v).pending = s.pending := with_upd_pending s _
@[simp] theorem withUpd_word (s : State) (v : Upd) (a' : Nat) : (s.withUpd v).word a' = s.word a' := by simp [State.word]
@[simp] theorem withUpd_g (s : State) (v : Upd) (x : Fld) : (s.withUpd v).g x = s.g x := by simp [State.g]
@[simp] theorem withUpd_on (s : State) (v : Upd) (x : Fld) : (s.withUpd v).on x = s.on x := by simp [State.on]
@[simp] theorem withUpd_byte (s : State) (v : Upd) (a' : Nat) : (s.withUpd v).byte a' = s.byte a' := by simp [State.byte]

/-! ### withReadData -/

@[simp] theorem withReadData_regs (s : State) (v : List Word) : (s.withReadData v).regs = s.regs := with_readData_regs s _
@[simp] theorem withReadData_shadow (s : State) (v : List Word) : (s.withReadData v).shadow = s.shadow := with_readData_shadow s _
@[simp] theorem withReadData_pend (s : State) (v : List Word) : (s.withReadData v).pend = s.pend := with_readData_pend s _
@[simp] theorem withReadData_pendPages (s : State) (v : List Word) : (s.withReadData v).pendPages = s.pendPages := with_readData_pendPages s _
@[simp] theorem withReadData_mem (s : State) (v : List Word) : (s.withReadData v).mem = s.mem := with_readData_mem s _
@[simp] theorem withReadData_latches (s : State) (v : List Word) : (s.withReadData v).latches = s.latches := with_readData_latches s _
@[simp] theorem withReadData_now (s : State) (v : List Word) : (s.withReadData v).now = s.now := with_readData_now s _
@[simp] theorem withReadData_ohSub (s : State) (v : List Word) : (s.withReadData v).ohSub = s.ohSub := with_readData_ohSub s _
@[simp] theorem withReadData_lt (s : State) (v : List Word) : (s.withReadData v).lt = s.lt := with_readData_lt s _
@[simp] theorem withReadData_slew (s : State) (v : List Word) : (s.withReadData v).slew = s.slew := with_readData_slew s _
@[simp] theorem withReadData_ltApplied (s : State) (v : List Word) : (s.withReadData v).ltApplied = s.ltApplied := with_readData_ltApplied s _
@[simp] theorem withReadData_flt (s : State) (v : List Word) : (s.withReadData v).flt = s.flt := with_readData_flt s _
@[simp] theorem withReadData_evr (s : State) (v : List Word) : (s.withReadData v).evr = s.evr := with_readData_evr s _
@[simp] theorem withReadData_saf (s : State) (v : List Word) : (s.withReadData v).saf = s.saf := with_readData_saf s _
@[simp] theorem withReadData_rst (s : State) (v : List Word) : (s.withReadData v).rst = s.rst := with_readData_rst s _
@[simp] theorem withReadData_quartz (s : State) (v : List Word) : (s.withReadData v).quartz = s.quartz := with_readData_quartz s _
@[simp] theorem withReadData_lnkA (s : State) (v : List Word) : (s.withReadData v).lnkA = s.lnkA := with_readData_lnkA s _
@[simp] theorem withReadData_lnkB (s : State) (v : List Word) : (s.withReadData v).lnkB = s.lnkB := with_readData_lnkB s _
@[simp] theorem withReadData_csf (s : State) (v : List Word) : (s.withReadData v).csf = s.csf := with_readData_csf s _
@[simp] theorem withReadData_side (s : State) (v : List Word) : (s.withReadData v).side = s.side := with_readData_side s _
@[simp] theorem withReadData_spi (s : State) (v : List Word) : (s.withReadData v).spi = s.spi := with_readData_spi s _
@[simp] theorem withReadData_cmd (s : State) (v : List Word) : (s.withReadData v).cmd = s.cmd := with_readData_cmd s _
@[simp] theorem withReadData_cmp (s : State) (v : List Word) : (s.withReadData v).cmp = s.cmp := with_readData_cmp s _
@[simp] theorem withReadData_glare (s : State) (v : List Word) : (s.withReadData v).glare = s.glare := with_readData_glare s _
@[simp] theorem withReadData_lanes (s : State) (v : List Word) : (s.withReadData v).lanes = s.lanes := with_readData_lanes s _
@[simp] theorem withReadData_tln (s : State) (v : List Word) : (s.withReadData v).tln = s.tln := with_readData_tln s _
@[simp] theorem withReadData_gov (s : State) (v : List Word) : (s.withReadData v).gov = s.gov := with_readData_gov s _
@[simp] theorem withReadData_cal (s : State) (v : List Word) : (s.withReadData v).cal = s.cal := with_readData_cal s _
@[simp] theorem withReadData_flx (s : State) (v : List Word) : (s.withReadData v).flx = s.flx := with_readData_flx s _
@[simp] theorem withReadData_seg (s : State) (v : List Word) : (s.withReadData v).seg = s.seg := with_readData_seg s _
@[simp] theorem withReadData_thm (s : State) (v : List Word) : (s.withReadData v).thm = s.thm := with_readData_thm s _
@[simp] theorem withReadData_pwr (s : State) (v : List Word) : (s.withReadData v).pwr = s.pwr := with_readData_pwr s _
@[simp] theorem withReadData_sec (s : State) (v : List Word) : (s.withReadData v).sec = s.sec := with_readData_sec s _
@[simp] theorem withReadData_fus (s : State) (v : List Word) : (s.withReadData v).fus = s.fus := with_readData_fus s _
@[simp] theorem withReadData_upd (s : State) (v : List Word) : (s.withReadData v).upd = s.upd := with_readData_upd s _
@[simp] theorem withReadData_fresh (s : State) (v : List Word) : (s.withReadData v).fresh = s.fresh := with_readData_fresh s _
@[simp] theorem withReadData_pending (s : State) (v : List Word) : (s.withReadData v).pending = s.pending := with_readData_pending s _
@[simp] theorem withReadData_word (s : State) (v : List Word) (a' : Nat) : (s.withReadData v).word a' = s.word a' := by simp [State.word]
@[simp] theorem withReadData_g (s : State) (v : List Word) (x : Fld) : (s.withReadData v).g x = s.g x := by simp [State.g]
@[simp] theorem withReadData_on (s : State) (v : List Word) (x : Fld) : (s.withReadData v).on x = s.on x := by simp [State.on]
@[simp] theorem withReadData_byte (s : State) (v : List Word) (a' : Nat) : (s.withReadData v).byte a' = s.byte a' := by simp [State.byte]

/-! ### withFresh -/

@[simp] theorem withFresh_regs (s : State) (v : Nat) : (s.withFresh v).regs = s.regs := with_fresh_regs s _
@[simp] theorem withFresh_shadow (s : State) (v : Nat) : (s.withFresh v).shadow = s.shadow := with_fresh_shadow s _
@[simp] theorem withFresh_pend (s : State) (v : Nat) : (s.withFresh v).pend = s.pend := with_fresh_pend s _
@[simp] theorem withFresh_pendPages (s : State) (v : Nat) : (s.withFresh v).pendPages = s.pendPages := with_fresh_pendPages s _
@[simp] theorem withFresh_mem (s : State) (v : Nat) : (s.withFresh v).mem = s.mem := with_fresh_mem s _
@[simp] theorem withFresh_latches (s : State) (v : Nat) : (s.withFresh v).latches = s.latches := with_fresh_latches s _
@[simp] theorem withFresh_now (s : State) (v : Nat) : (s.withFresh v).now = s.now := with_fresh_now s _
@[simp] theorem withFresh_ohSub (s : State) (v : Nat) : (s.withFresh v).ohSub = s.ohSub := with_fresh_ohSub s _
@[simp] theorem withFresh_lt (s : State) (v : Nat) : (s.withFresh v).lt = s.lt := with_fresh_lt s _
@[simp] theorem withFresh_slew (s : State) (v : Nat) : (s.withFresh v).slew = s.slew := with_fresh_slew s _
@[simp] theorem withFresh_ltApplied (s : State) (v : Nat) : (s.withFresh v).ltApplied = s.ltApplied := with_fresh_ltApplied s _
@[simp] theorem withFresh_flt (s : State) (v : Nat) : (s.withFresh v).flt = s.flt := with_fresh_flt s _
@[simp] theorem withFresh_evr (s : State) (v : Nat) : (s.withFresh v).evr = s.evr := with_fresh_evr s _
@[simp] theorem withFresh_saf (s : State) (v : Nat) : (s.withFresh v).saf = s.saf := with_fresh_saf s _
@[simp] theorem withFresh_rst (s : State) (v : Nat) : (s.withFresh v).rst = s.rst := with_fresh_rst s _
@[simp] theorem withFresh_quartz (s : State) (v : Nat) : (s.withFresh v).quartz = s.quartz := with_fresh_quartz s _
@[simp] theorem withFresh_lnkA (s : State) (v : Nat) : (s.withFresh v).lnkA = s.lnkA := with_fresh_lnkA s _
@[simp] theorem withFresh_lnkB (s : State) (v : Nat) : (s.withFresh v).lnkB = s.lnkB := with_fresh_lnkB s _
@[simp] theorem withFresh_csf (s : State) (v : Nat) : (s.withFresh v).csf = s.csf := with_fresh_csf s _
@[simp] theorem withFresh_side (s : State) (v : Nat) : (s.withFresh v).side = s.side := with_fresh_side s _
@[simp] theorem withFresh_spi (s : State) (v : Nat) : (s.withFresh v).spi = s.spi := with_fresh_spi s _
@[simp] theorem withFresh_cmd (s : State) (v : Nat) : (s.withFresh v).cmd = s.cmd := with_fresh_cmd s _
@[simp] theorem withFresh_cmp (s : State) (v : Nat) : (s.withFresh v).cmp = s.cmp := with_fresh_cmp s _
@[simp] theorem withFresh_glare (s : State) (v : Nat) : (s.withFresh v).glare = s.glare := with_fresh_glare s _
@[simp] theorem withFresh_lanes (s : State) (v : Nat) : (s.withFresh v).lanes = s.lanes := with_fresh_lanes s _
@[simp] theorem withFresh_tln (s : State) (v : Nat) : (s.withFresh v).tln = s.tln := with_fresh_tln s _
@[simp] theorem withFresh_gov (s : State) (v : Nat) : (s.withFresh v).gov = s.gov := with_fresh_gov s _
@[simp] theorem withFresh_cal (s : State) (v : Nat) : (s.withFresh v).cal = s.cal := with_fresh_cal s _
@[simp] theorem withFresh_flx (s : State) (v : Nat) : (s.withFresh v).flx = s.flx := with_fresh_flx s _
@[simp] theorem withFresh_seg (s : State) (v : Nat) : (s.withFresh v).seg = s.seg := with_fresh_seg s _
@[simp] theorem withFresh_thm (s : State) (v : Nat) : (s.withFresh v).thm = s.thm := with_fresh_thm s _
@[simp] theorem withFresh_pwr (s : State) (v : Nat) : (s.withFresh v).pwr = s.pwr := with_fresh_pwr s _
@[simp] theorem withFresh_sec (s : State) (v : Nat) : (s.withFresh v).sec = s.sec := with_fresh_sec s _
@[simp] theorem withFresh_fus (s : State) (v : Nat) : (s.withFresh v).fus = s.fus := with_fresh_fus s _
@[simp] theorem withFresh_upd (s : State) (v : Nat) : (s.withFresh v).upd = s.upd := with_fresh_upd s _
@[simp] theorem withFresh_readData (s : State) (v : Nat) : (s.withFresh v).readData = s.readData := with_fresh_readData s _
@[simp] theorem withFresh_pending (s : State) (v : Nat) : (s.withFresh v).pending = s.pending := with_fresh_pending s _
@[simp] theorem withFresh_word (s : State) (v : Nat) (a' : Nat) : (s.withFresh v).word a' = s.word a' := by simp [State.word]
@[simp] theorem withFresh_g (s : State) (v : Nat) (x : Fld) : (s.withFresh v).g x = s.g x := by simp [State.g]
@[simp] theorem withFresh_on (s : State) (v : Nat) (x : Fld) : (s.withFresh v).on x = s.on x := by simp [State.on]
@[simp] theorem withFresh_byte (s : State) (v : Nat) (a' : Nat) : (s.withFresh v).byte a' = s.byte a' := by simp [State.byte]

/-! ### withPending -/

@[simp] theorem withPending_regs (s : State) (v : List Instr) : (s.withPending v).regs = s.regs := with_pending_regs s _
@[simp] theorem withPending_shadow (s : State) (v : List Instr) : (s.withPending v).shadow = s.shadow := with_pending_shadow s _
@[simp] theorem withPending_pend (s : State) (v : List Instr) : (s.withPending v).pend = s.pend := with_pending_pend s _
@[simp] theorem withPending_pendPages (s : State) (v : List Instr) : (s.withPending v).pendPages = s.pendPages := with_pending_pendPages s _
@[simp] theorem withPending_mem (s : State) (v : List Instr) : (s.withPending v).mem = s.mem := with_pending_mem s _
@[simp] theorem withPending_latches (s : State) (v : List Instr) : (s.withPending v).latches = s.latches := with_pending_latches s _
@[simp] theorem withPending_now (s : State) (v : List Instr) : (s.withPending v).now = s.now := with_pending_now s _
@[simp] theorem withPending_ohSub (s : State) (v : List Instr) : (s.withPending v).ohSub = s.ohSub := with_pending_ohSub s _
@[simp] theorem withPending_lt (s : State) (v : List Instr) : (s.withPending v).lt = s.lt := with_pending_lt s _
@[simp] theorem withPending_slew (s : State) (v : List Instr) : (s.withPending v).slew = s.slew := with_pending_slew s _
@[simp] theorem withPending_ltApplied (s : State) (v : List Instr) : (s.withPending v).ltApplied = s.ltApplied := with_pending_ltApplied s _
@[simp] theorem withPending_flt (s : State) (v : List Instr) : (s.withPending v).flt = s.flt := with_pending_flt s _
@[simp] theorem withPending_evr (s : State) (v : List Instr) : (s.withPending v).evr = s.evr := with_pending_evr s _
@[simp] theorem withPending_saf (s : State) (v : List Instr) : (s.withPending v).saf = s.saf := with_pending_saf s _
@[simp] theorem withPending_rst (s : State) (v : List Instr) : (s.withPending v).rst = s.rst := with_pending_rst s _
@[simp] theorem withPending_quartz (s : State) (v : List Instr) : (s.withPending v).quartz = s.quartz := with_pending_quartz s _
@[simp] theorem withPending_lnkA (s : State) (v : List Instr) : (s.withPending v).lnkA = s.lnkA := with_pending_lnkA s _
@[simp] theorem withPending_lnkB (s : State) (v : List Instr) : (s.withPending v).lnkB = s.lnkB := with_pending_lnkB s _
@[simp] theorem withPending_csf (s : State) (v : List Instr) : (s.withPending v).csf = s.csf := with_pending_csf s _
@[simp] theorem withPending_side (s : State) (v : List Instr) : (s.withPending v).side = s.side := with_pending_side s _
@[simp] theorem withPending_spi (s : State) (v : List Instr) : (s.withPending v).spi = s.spi := with_pending_spi s _
@[simp] theorem withPending_cmd (s : State) (v : List Instr) : (s.withPending v).cmd = s.cmd := with_pending_cmd s _
@[simp] theorem withPending_cmp (s : State) (v : List Instr) : (s.withPending v).cmp = s.cmp := with_pending_cmp s _
@[simp] theorem withPending_glare (s : State) (v : List Instr) : (s.withPending v).glare = s.glare := with_pending_glare s _
@[simp] theorem withPending_lanes (s : State) (v : List Instr) : (s.withPending v).lanes = s.lanes := with_pending_lanes s _
@[simp] theorem withPending_tln (s : State) (v : List Instr) : (s.withPending v).tln = s.tln := with_pending_tln s _
@[simp] theorem withPending_gov (s : State) (v : List Instr) : (s.withPending v).gov = s.gov := with_pending_gov s _
@[simp] theorem withPending_cal (s : State) (v : List Instr) : (s.withPending v).cal = s.cal := with_pending_cal s _
@[simp] theorem withPending_flx (s : State) (v : List Instr) : (s.withPending v).flx = s.flx := with_pending_flx s _
@[simp] theorem withPending_seg (s : State) (v : List Instr) : (s.withPending v).seg = s.seg := with_pending_seg s _
@[simp] theorem withPending_thm (s : State) (v : List Instr) : (s.withPending v).thm = s.thm := with_pending_thm s _
@[simp] theorem withPending_pwr (s : State) (v : List Instr) : (s.withPending v).pwr = s.pwr := with_pending_pwr s _
@[simp] theorem withPending_sec (s : State) (v : List Instr) : (s.withPending v).sec = s.sec := with_pending_sec s _
@[simp] theorem withPending_fus (s : State) (v : List Instr) : (s.withPending v).fus = s.fus := with_pending_fus s _
@[simp] theorem withPending_upd (s : State) (v : List Instr) : (s.withPending v).upd = s.upd := with_pending_upd s _
@[simp] theorem withPending_readData (s : State) (v : List Instr) : (s.withPending v).readData = s.readData := with_pending_readData s _
@[simp] theorem withPending_fresh (s : State) (v : List Instr) : (s.withPending v).fresh = s.fresh := with_pending_fresh s _
@[simp] theorem withPending_word (s : State) (v : List Instr) (a' : Nat) : (s.withPending v).word a' = s.word a' := by simp [State.word]
@[simp] theorem withPending_g (s : State) (v : List Instr) (x : Fld) : (s.withPending v).g x = s.g x := by simp [State.g]
@[simp] theorem withPending_on (s : State) (v : List Instr) (x : Fld) : (s.withPending v).on x = s.on x := by simp [State.on]
@[simp] theorem withPending_byte (s : State) (v : List Instr) (a' : Nat) : (s.withPending v).byte a' = s.byte a' := by simp [State.byte]

/-! ### popped -/

@[simp] theorem popped_regs (s : State) (l : List Instr) : (s.popped l).regs = s.regs := with_pending_regs s _
@[simp] theorem popped_shadow (s : State) (l : List Instr) : (s.popped l).shadow = s.shadow := with_pending_shadow s _
@[simp] theorem popped_pend (s : State) (l : List Instr) : (s.popped l).pend = s.pend := with_pending_pend s _
@[simp] theorem popped_pendPages (s : State) (l : List Instr) : (s.popped l).pendPages = s.pendPages := with_pending_pendPages s _
@[simp] theorem popped_mem (s : State) (l : List Instr) : (s.popped l).mem = s.mem := with_pending_mem s _
@[simp] theorem popped_latches (s : State) (l : List Instr) : (s.popped l).latches = s.latches := with_pending_latches s _
@[simp] theorem popped_now (s : State) (l : List Instr) : (s.popped l).now = s.now := with_pending_now s _
@[simp] theorem popped_ohSub (s : State) (l : List Instr) : (s.popped l).ohSub = s.ohSub := with_pending_ohSub s _
@[simp] theorem popped_lt (s : State) (l : List Instr) : (s.popped l).lt = s.lt := with_pending_lt s _
@[simp] theorem popped_slew (s : State) (l : List Instr) : (s.popped l).slew = s.slew := with_pending_slew s _
@[simp] theorem popped_ltApplied (s : State) (l : List Instr) : (s.popped l).ltApplied = s.ltApplied := with_pending_ltApplied s _
@[simp] theorem popped_flt (s : State) (l : List Instr) : (s.popped l).flt = s.flt := with_pending_flt s _
@[simp] theorem popped_evr (s : State) (l : List Instr) : (s.popped l).evr = s.evr := with_pending_evr s _
@[simp] theorem popped_saf (s : State) (l : List Instr) : (s.popped l).saf = s.saf := with_pending_saf s _
@[simp] theorem popped_rst (s : State) (l : List Instr) : (s.popped l).rst = s.rst := with_pending_rst s _
@[simp] theorem popped_quartz (s : State) (l : List Instr) : (s.popped l).quartz = s.quartz := with_pending_quartz s _
@[simp] theorem popped_lnkA (s : State) (l : List Instr) : (s.popped l).lnkA = s.lnkA := with_pending_lnkA s _
@[simp] theorem popped_lnkB (s : State) (l : List Instr) : (s.popped l).lnkB = s.lnkB := with_pending_lnkB s _
@[simp] theorem popped_csf (s : State) (l : List Instr) : (s.popped l).csf = s.csf := with_pending_csf s _
@[simp] theorem popped_side (s : State) (l : List Instr) : (s.popped l).side = s.side := with_pending_side s _
@[simp] theorem popped_spi (s : State) (l : List Instr) : (s.popped l).spi = s.spi := with_pending_spi s _
@[simp] theorem popped_cmd (s : State) (l : List Instr) : (s.popped l).cmd = s.cmd := with_pending_cmd s _
@[simp] theorem popped_cmp (s : State) (l : List Instr) : (s.popped l).cmp = s.cmp := with_pending_cmp s _
@[simp] theorem popped_glare (s : State) (l : List Instr) : (s.popped l).glare = s.glare := with_pending_glare s _
@[simp] theorem popped_lanes (s : State) (l : List Instr) : (s.popped l).lanes = s.lanes := with_pending_lanes s _
@[simp] theorem popped_tln (s : State) (l : List Instr) : (s.popped l).tln = s.tln := with_pending_tln s _
@[simp] theorem popped_gov (s : State) (l : List Instr) : (s.popped l).gov = s.gov := with_pending_gov s _
@[simp] theorem popped_cal (s : State) (l : List Instr) : (s.popped l).cal = s.cal := with_pending_cal s _
@[simp] theorem popped_flx (s : State) (l : List Instr) : (s.popped l).flx = s.flx := with_pending_flx s _
@[simp] theorem popped_seg (s : State) (l : List Instr) : (s.popped l).seg = s.seg := with_pending_seg s _
@[simp] theorem popped_thm (s : State) (l : List Instr) : (s.popped l).thm = s.thm := with_pending_thm s _
@[simp] theorem popped_pwr (s : State) (l : List Instr) : (s.popped l).pwr = s.pwr := with_pending_pwr s _
@[simp] theorem popped_sec (s : State) (l : List Instr) : (s.popped l).sec = s.sec := with_pending_sec s _
@[simp] theorem popped_fus (s : State) (l : List Instr) : (s.popped l).fus = s.fus := with_pending_fus s _
@[simp] theorem popped_upd (s : State) (l : List Instr) : (s.popped l).upd = s.upd := with_pending_upd s _
@[simp] theorem popped_readData (s : State) (l : List Instr) : (s.popped l).readData = s.readData := with_pending_readData s _
@[simp] theorem popped_fresh (s : State) (l : List Instr) : (s.popped l).fresh = s.fresh := with_pending_fresh s _
@[simp] theorem popped_word (s : State) (l : List Instr) (a' : Nat) : (s.popped l).word a' = s.word a' := by simp [State.word]
@[simp] theorem popped_g (s : State) (l : List Instr) (x : Fld) : (s.popped l).g x = s.g x := by simp [State.g]
@[simp] theorem popped_on (s : State) (l : List Instr) (x : Fld) : (s.popped l).on x = s.on x := by simp [State.on]
@[simp] theorem popped_byte (s : State) (l : List Instr) (a' : Nat) : (s.popped l).byte a' = s.byte a' := by simp [State.byte]

/-! ### tapInstr -/

@[simp] theorem tapInstr_regs (s : State) : (s.tapInstr).regs = s.regs := with_sec_regs s _
@[simp] theorem tapInstr_shadow (s : State) : (s.tapInstr).shadow = s.shadow := with_sec_shadow s _
@[simp] theorem tapInstr_pend (s : State) : (s.tapInstr).pend = s.pend := with_sec_pend s _
@[simp] theorem tapInstr_pendPages (s : State) : (s.tapInstr).pendPages = s.pendPages := with_sec_pendPages s _
@[simp] theorem tapInstr_mem (s : State) : (s.tapInstr).mem = s.mem := with_sec_mem s _
@[simp] theorem tapInstr_latches (s : State) : (s.tapInstr).latches = s.latches := with_sec_latches s _
@[simp] theorem tapInstr_now (s : State) : (s.tapInstr).now = s.now := with_sec_now s _
@[simp] theorem tapInstr_ohSub (s : State) : (s.tapInstr).ohSub = s.ohSub := with_sec_ohSub s _
@[simp] theorem tapInstr_lt (s : State) : (s.tapInstr).lt = s.lt := with_sec_lt s _
@[simp] theorem tapInstr_slew (s : State) : (s.tapInstr).slew = s.slew := with_sec_slew s _
@[simp] theorem tapInstr_ltApplied (s : State) : (s.tapInstr).ltApplied = s.ltApplied := with_sec_ltApplied s _
@[simp] theorem tapInstr_flt (s : State) : (s.tapInstr).flt = s.flt := with_sec_flt s _
@[simp] theorem tapInstr_evr (s : State) : (s.tapInstr).evr = s.evr := with_sec_evr s _
@[simp] theorem tapInstr_saf (s : State) : (s.tapInstr).saf = s.saf := with_sec_saf s _
@[simp] theorem tapInstr_rst (s : State) : (s.tapInstr).rst = s.rst := with_sec_rst s _
@[simp] theorem tapInstr_quartz (s : State) : (s.tapInstr).quartz = s.quartz := with_sec_quartz s _
@[simp] theorem tapInstr_lnkA (s : State) : (s.tapInstr).lnkA = s.lnkA := with_sec_lnkA s _
@[simp] theorem tapInstr_lnkB (s : State) : (s.tapInstr).lnkB = s.lnkB := with_sec_lnkB s _
@[simp] theorem tapInstr_csf (s : State) : (s.tapInstr).csf = s.csf := with_sec_csf s _
@[simp] theorem tapInstr_side (s : State) : (s.tapInstr).side = s.side := with_sec_side s _
@[simp] theorem tapInstr_spi (s : State) : (s.tapInstr).spi = s.spi := with_sec_spi s _
@[simp] theorem tapInstr_cmd (s : State) : (s.tapInstr).cmd = s.cmd := with_sec_cmd s _
@[simp] theorem tapInstr_cmp (s : State) : (s.tapInstr).cmp = s.cmp := with_sec_cmp s _
@[simp] theorem tapInstr_glare (s : State) : (s.tapInstr).glare = s.glare := with_sec_glare s _
@[simp] theorem tapInstr_lanes (s : State) : (s.tapInstr).lanes = s.lanes := with_sec_lanes s _
@[simp] theorem tapInstr_tln (s : State) : (s.tapInstr).tln = s.tln := with_sec_tln s _
@[simp] theorem tapInstr_gov (s : State) : (s.tapInstr).gov = s.gov := with_sec_gov s _
@[simp] theorem tapInstr_cal (s : State) : (s.tapInstr).cal = s.cal := with_sec_cal s _
@[simp] theorem tapInstr_flx (s : State) : (s.tapInstr).flx = s.flx := with_sec_flx s _
@[simp] theorem tapInstr_seg (s : State) : (s.tapInstr).seg = s.seg := with_sec_seg s _
@[simp] theorem tapInstr_thm (s : State) : (s.tapInstr).thm = s.thm := with_sec_thm s _
@[simp] theorem tapInstr_pwr (s : State) : (s.tapInstr).pwr = s.pwr := with_sec_pwr s _
@[simp] theorem tapInstr_fus (s : State) : (s.tapInstr).fus = s.fus := with_sec_fus s _
@[simp] theorem tapInstr_upd (s : State) : (s.tapInstr).upd = s.upd := with_sec_upd s _
@[simp] theorem tapInstr_readData (s : State) : (s.tapInstr).readData = s.readData := with_sec_readData s _
@[simp] theorem tapInstr_fresh (s : State) : (s.tapInstr).fresh = s.fresh := with_sec_fresh s _
@[simp] theorem tapInstr_pending (s : State) : (s.tapInstr).pending = s.pending := with_sec_pending s _
@[simp] theorem tapInstr_word (s : State) (a' : Nat) : (s.tapInstr).word a' = s.word a' := by simp [State.word]
@[simp] theorem tapInstr_g (s : State) (x : Fld) : (s.tapInstr).g x = s.g x := by simp [State.g]
@[simp] theorem tapInstr_on (s : State) (x : Fld) : (s.tapInstr).on x = s.on x := by simp [State.on]
@[simp] theorem tapInstr_byte (s : State) (a' : Nat) : (s.tapInstr).byte a' = s.byte a' := by simp [State.byte]

/-! ### defer -/

@[simp] theorem defer_regs (s : State) (d : Deferred) : (s.defer d).regs = s.regs := with_thm_regs s _
@[simp] theorem defer_shadow (s : State) (d : Deferred) : (s.defer d).shadow = s.shadow := with_thm_shadow s _
@[simp] theorem defer_pend (s : State) (d : Deferred) : (s.defer d).pend = s.pend := with_thm_pend s _
@[simp] theorem defer_pendPages (s : State) (d : Deferred) : (s.defer d).pendPages = s.pendPages := with_thm_pendPages s _
@[simp] theorem defer_mem (s : State) (d : Deferred) : (s.defer d).mem = s.mem := with_thm_mem s _
@[simp] theorem defer_latches (s : State) (d : Deferred) : (s.defer d).latches = s.latches := with_thm_latches s _
@[simp] theorem defer_now (s : State) (d : Deferred) : (s.defer d).now = s.now := with_thm_now s _
@[simp] theorem defer_ohSub (s : State) (d : Deferred) : (s.defer d).ohSub = s.ohSub := with_thm_ohSub s _
@[simp] theorem defer_lt (s : State) (d : Deferred) : (s.defer d).lt = s.lt := with_thm_lt s _
@[simp] theorem defer_slew (s : State) (d : Deferred) : (s.defer d).slew = s.slew := with_thm_slew s _
@[simp] theorem defer_ltApplied (s : State) (d : Deferred) : (s.defer d).ltApplied = s.ltApplied := with_thm_ltApplied s _
@[simp] theorem defer_flt (s : State) (d : Deferred) : (s.defer d).flt = s.flt := with_thm_flt s _
@[simp] theorem defer_evr (s : State) (d : Deferred) : (s.defer d).evr = s.evr := with_thm_evr s _
@[simp] theorem defer_saf (s : State) (d : Deferred) : (s.defer d).saf = s.saf := with_thm_saf s _
@[simp] theorem defer_rst (s : State) (d : Deferred) : (s.defer d).rst = s.rst := with_thm_rst s _
@[simp] theorem defer_quartz (s : State) (d : Deferred) : (s.defer d).quartz = s.quartz := with_thm_quartz s _
@[simp] theorem defer_lnkA (s : State) (d : Deferred) : (s.defer d).lnkA = s.lnkA := with_thm_lnkA s _
@[simp] theorem defer_lnkB (s : State) (d : Deferred) : (s.defer d).lnkB = s.lnkB := with_thm_lnkB s _
@[simp] theorem defer_csf (s : State) (d : Deferred) : (s.defer d).csf = s.csf := with_thm_csf s _
@[simp] theorem defer_side (s : State) (d : Deferred) : (s.defer d).side = s.side := with_thm_side s _
@[simp] theorem defer_spi (s : State) (d : Deferred) : (s.defer d).spi = s.spi := with_thm_spi s _
@[simp] theorem defer_cmd (s : State) (d : Deferred) : (s.defer d).cmd = s.cmd := with_thm_cmd s _
@[simp] theorem defer_cmp (s : State) (d : Deferred) : (s.defer d).cmp = s.cmp := with_thm_cmp s _
@[simp] theorem defer_glare (s : State) (d : Deferred) : (s.defer d).glare = s.glare := with_thm_glare s _
@[simp] theorem defer_lanes (s : State) (d : Deferred) : (s.defer d).lanes = s.lanes := with_thm_lanes s _
@[simp] theorem defer_tln (s : State) (d : Deferred) : (s.defer d).tln = s.tln := with_thm_tln s _
@[simp] theorem defer_gov (s : State) (d : Deferred) : (s.defer d).gov = s.gov := with_thm_gov s _
@[simp] theorem defer_cal (s : State) (d : Deferred) : (s.defer d).cal = s.cal := with_thm_cal s _
@[simp] theorem defer_flx (s : State) (d : Deferred) : (s.defer d).flx = s.flx := with_thm_flx s _
@[simp] theorem defer_seg (s : State) (d : Deferred) : (s.defer d).seg = s.seg := with_thm_seg s _
@[simp] theorem defer_pwr (s : State) (d : Deferred) : (s.defer d).pwr = s.pwr := with_thm_pwr s _
@[simp] theorem defer_sec (s : State) (d : Deferred) : (s.defer d).sec = s.sec := with_thm_sec s _
@[simp] theorem defer_fus (s : State) (d : Deferred) : (s.defer d).fus = s.fus := with_thm_fus s _
@[simp] theorem defer_upd (s : State) (d : Deferred) : (s.defer d).upd = s.upd := with_thm_upd s _
@[simp] theorem defer_readData (s : State) (d : Deferred) : (s.defer d).readData = s.readData := with_thm_readData s _
@[simp] theorem defer_fresh (s : State) (d : Deferred) : (s.defer d).fresh = s.fresh := with_thm_fresh s _
@[simp] theorem defer_pending (s : State) (d : Deferred) : (s.defer d).pending = s.pending := with_thm_pending s _
@[simp] theorem defer_word (s : State) (d : Deferred) (a' : Nat) : (s.defer d).word a' = s.word a' := by simp [State.word]
@[simp] theorem defer_g (s : State) (d : Deferred) (x : Fld) : (s.defer d).g x = s.g x := by simp [State.g]
@[simp] theorem defer_on (s : State) (d : Deferred) (x : Fld) : (s.defer d).on x = s.on x := by simp [State.on]
@[simp] theorem defer_byte (s : State) (d : Deferred) (a' : Nat) : (s.defer d).byte a' = s.byte a' := by simp [State.byte]

/-! ### What the updates write -/

@[simp] theorem popped_pending (s : State) (l : List Instr) : (s.popped l).pending = l := rfl
@[simp] theorem pwrTo_st (s : State) (p : PwrState) : (s.pwrTo p).pwr.st = p := rfl
@[simp] theorem pwrTo_since (s : State) (p : PwrState) : (s.pwrTo p).pwr.since = s.now := rfl
@[simp] theorem pwrTo_target (s : State) (p : PwrState) : (s.pwrTo p).pwr.target = s.pwr.target := rfl
@[simp] theorem begin_trigNow (s : State) : s.begin.saf.trigNow = 0 := rfl
@[simp] theorem begin_halted (s : State) : s.begin.saf.halted = s.saf.halted := rfl
@[simp] theorem begin_souts (s : State) : s.begin.saf.souts = s.saf.souts := rfl
@[simp] theorem begin_tpo (s : State) : s.begin.saf.tpo = s.saf.tpo := rfl
@[simp] theorem begin_held (s : State) : s.begin.flt.held = s.flt.held := rfl
@[simp] theorem setByte_byte_same (s : State) (a : Nat) (b : Byte) : (s.setByte a b).byte a = b := tabGet_tabPut_same ..
theorem setByte_byte_other (s : State) {a c : Nat} (b : Byte) (h : c ≠ a) : (s.setByte a b).byte c = s.byte c := tabGet_tabPut_other _ _ h

end Sys2Proof.Laws
end

