-- ==== Sys2Proof/Laws/Footprint.lean ====
section
/-! SUPPORT. The calculus of footprints: how the footprint of a meaning is put together from those of the operations it calls.
Each shared operation has one lemma, op_fits, in Sys2Proof/Laws; Fits.app applies it, Fits.via those with a result beside the state. -/

namespace Sys2Proof.Laws

open Sys2Proof.Machine

variable {f g : Foot} {s0 s t u : State}

/-! ### Footprints -/

theorem le_any (h : f.le g = true) (ha : f.any = true) : g.any = true := by
  simp [Foot.le, ha] at h; exact h

theorem le_units (h : f.le g = true) (hg : ¬ g.any = true) {u : Nat} (hu : u ∈ f.units) : u ∈ g.units := by
  simp [Foot.le, hg] at h; exact h.1.2 u hu

theorem le_parts (h : f.le g = true) (hg : ¬ g.any = true) {p : Part} (hp : p ∈ f.parts) : p ∈ g.parts := by
  simp [Foot.le, hg] at h; exact h.2 p hp

/-! ### What every operation keeps -/

theorem keeps_refl (s : State) : s.Keeps s := ⟨id, id, id, rfl, Nat.le_refl _, Nat.le_refl _, fun _ _ h => h⟩

theorem keeps_trans (h : s.Keeps t) (k : t.Keeps u) : s.Keeps u :=
  ⟨fun x => k.mem (h.mem x), fun x => k.regs (h.regs x), fun x => k.shape (h.shape x), k.pending.trans h.pending, Nat.le_trans h.fresh k.fresh,
    Nat.le_trans h.now k.now, fun r i x => k.fuses r i (h.fuses r i x)⟩

/-! ### Within -/

theorem partsWithin_refl (f : Foot) (s : State) : s.PartsWithin f s := by constructor <;> exact fun _ => rfl

theorem partsWithin_trans (h : s.PartsWithin f t) (k : t.PartsWithin f u) : s.PartsWithin f u := by
  constructor
  · exact fun x => (k.shadow x).trans (h.shadow x)
  · exact fun x => (k.pend x).trans (h.pend x)
  · exact fun x => (k.pendPages x).trans (h.pendPages x)
  · exact fun x => (k.mem x).trans (h.mem x)
  · exact fun x => (k.latches x).trans (h.latches x)
  · exact fun x => (k.now x).trans (h.now x)
  · exact fun x => (k.ohSub x).trans (h.ohSub x)
  · exact fun x => (k.lt x).trans (h.lt x)
  · exact fun x => (k.slew x).trans (h.slew x)
  · exact fun x => (k.ltApplied x).trans (h.ltApplied x)
  · exact fun x => (k.flt x).trans (h.flt x)
  · exact fun x => (k.evr x).trans (h.evr x)
  · exact fun x => (k.saf x).trans (h.saf x)
  · exact fun x => (k.rst x).trans (h.rst x)
  · exact fun x => (k.quartz x).trans (h.quartz x)
  · exact fun x => (k.lnkA x).trans (h.lnkA x)
  · exact fun x => (k.lnkB x).trans (h.lnkB x)
  · exact fun x => (k.csf x).trans (h.csf x)
  · exact fun x => (k.side x).trans (h.side x)
  · exact fun x => (k.spi x).trans (h.spi x)
  · exact fun x => (k.cmd x).trans (h.cmd x)
  · exact fun x => (k.cmp x).trans (h.cmp x)
  · exact fun x => (k.glare x).trans (h.glare x)
  · exact fun x => (k.lanes x).trans (h.lanes x)
  · exact fun x => (k.tln x).trans (h.tln x)
  · exact fun x => (k.gov x).trans (h.gov x)
  · exact fun x => (k.cal x).trans (h.cal x)
  · exact fun x => (k.flx x).trans (h.flx x)
  · exact fun x => (k.seg x).trans (h.seg x)
  · exact fun x => (k.thm x).trans (h.thm x)
  · exact fun x => (k.pwr x).trans (h.pwr x)
  · exact fun x => (k.sec x).trans (h.sec x)
  · exact fun x => (k.fus x).trans (h.fus x)
  · exact fun x => (k.upd x).trans (h.upd x)
  · exact fun x => (k.readData x).trans (h.readData x)
  · exact fun x => (k.fresh x).trans (h.fresh x)

theorem partsWithin_mono (hl : ∀ p, p ∈ f.parts → p ∈ g.parts) (h : s.PartsWithin f t) : s.PartsWithin g t := by
  constructor
  · exact fun x => h.shadow (fun y => x (hl _ y))
  · exact fun x => h.pend (fun y => x (hl _ y))
  · exact fun x => h.pendPages (fun y => x (hl _ y))
  · exact fun x => h.mem (fun y => x (hl _ y))
  · exact fun x => h.latches (fun y => x (hl _ y))
  · exact fun x => h.now (fun y => x (hl _ y))
  · exact fun x => h.ohSub (fun y => x (hl _ y))
  · exact fun x => h.lt (fun y => x (hl _ y))
  · exact fun x => h.slew (fun y => x (hl _ y))
  · exact fun x => h.ltApplied (fun y => x (hl _ y))
  · exact fun x => h.flt (fun y => x (hl _ y))
  · exact fun x => h.evr (fun y => x (hl _ y))
  · exact fun x => h.saf (fun y => x (hl _ y))
  · exact fun x => h.rst (fun y => x (hl _ y))
  · exact fun x => h.quartz (fun y => x (hl _ y))
  · exact fun x => h.lnkA (fun y => x (hl _ y))
  · exact fun x => h.lnkB (fun y => x (hl _ y))
  · exact fun x => h.csf (fun y => x (hl _ y))
  · exact fun x => h.side (fun y => x (hl _ y))
  · exact fun x => h.spi (fun y => x (hl _ y))
  · exact fun x => h.cmd (fun y => x (hl _ y))
  · exact fun x => h.cmp (fun y => x (hl _ y))
  · exact fun x => h.glare (fun y => x (hl _ y))
  · exact fun x => h.lanes (fun y => x (hl _ y))
  · exact fun x => h.tln (fun y => x (hl _ y))
  · exact fun x => h.gov (fun y => x (hl _ y))
  · exact fun x => h.cal (fun y => x (hl _ y))
  · exact fun x => h.flx (fun y => x (hl _ y))
  · exact fun x => h.seg (fun y => x (hl _ y))
  · exact fun x => h.thm (fun y => x (hl _ y))
  · exact fun x => h.pwr (fun y => x (hl _ y))
  · exact fun x => h.sec (fun y => x (hl _ y))
  · exact fun x => h.fus (fun y => x (hl _ y))
  · exact fun x => h.upd (fun y => x (hl _ y))
  · exact fun x => h.readData (fun y => x (hl _ y))
  · exact fun x => h.fresh (fun y => x (hl _ y))

theorem within_refl (f : Foot) (s : State) : s.Within f s := .inr ⟨fun _ _ => rfl, partsWithin_refl f s⟩

theorem within_trans (h : s.Within f t) (k : t.Within f u) : s.Within f u := by
  rcases h with h | ⟨h1, h2⟩
  · exact .inl h
  · rcases k with k | ⟨k1, k2⟩
    · exact .inl k
    · exact .inr ⟨fun a ha => (k1 a ha).trans (h1 a ha), partsWithin_trans h2 k2⟩

theorem within_mono (hl : f.le g = true) (h : s.Within f t) : s.Within g t := by
  by_cases hg : g.any = true
  · exact .inl hg
  · rcases h with h | ⟨h1, h2⟩
    · exact absurd (le_any hl h) hg
    · exact .inr ⟨fun a ha => h1 a (fun x => ha (le_units hl hg x)), partsWithin_mono (fun p => le_parts hl hg) h2⟩

/-! ### Fits -/

theorem fits_refl (f : Foot) (s : State) : s.Fits f s := ⟨within_refl f s, keeps_refl s⟩

theorem fits_trans (h : s.Fits f t) (k : t.Fits f u) : s.Fits f u := ⟨within_trans h.1 k.1, keeps_trans h.2 k.2⟩

theorem fits_mono (hl : f.le g = true) (h : s.Fits f t) : s.Fits g t := ⟨within_mono hl h.1, h.2⟩

/-- An operation whose footprint lies in g, after what lies in g. -/
theorem fits_app (hl : f.le g = true) (k : t.Fits f u) (h : s.Fits g t) : s.Fits g u := fits_trans h (fits_mono hl k)

/-- Footprints within a footprint that g takes in. -/
theorem le_via {e : Foot} (h : e.le f = true) (hle : f.le g = true) : e.le g = true := by
  by_cases hg : g.any = true
  · simp [Foot.le, hg]
  · have hf : ¬ f.any = true := fun x => hg (le_any hle x)
    have he : ¬ e.any = true := fun x => hf (le_any h x)
    simp only [Foot.le, Bool.or_eq_true, hg, Bool.false_eq_true, false_or, Bool.and_eq_true, Bool.not_eq_eq_eq_not, Bool.not_true, List.all_eq_true, List.contains_iff_mem]
    exact ⟨⟨by simpa using he, fun u hu => le_units hle hg (le_units h hf hu)⟩, fun p hp => le_parts hle hg (le_parts h hf hp)⟩

theorem unit_via {x : Nat} (h : f.hasUnit x = true) (hle : f.le g = true) : g.hasUnit x = true := by
  by_cases hg : g.any = true
  · simp [Foot.hasUnit, hg]
  · have hf : ¬ f.any = true := fun y => hg (le_any hle y)
    simp [Foot.hasUnit, hf] at h
    simp [Foot.hasUnit, le_units hle hg h]

theorem part_via {x : Part} (h : f.hasPart x = true) (hle : f.le g = true) : g.hasPart x = true := by
  by_cases hg : g.any = true
  · simp [Foot.hasPart, hg]
  · have hf : ¬ f.any = true := fun y => hg (le_any hle y)
    simp [Foot.hasPart, hf] at h
    simp [Foot.hasPart, le_parts hle hg h]

theorem groupPage_group (p : Nat) : groupPage (groupPage p) = groupPage p := by
  simp only [groupPage]
  (repeat' split) <;> omega

theorem list_unit {l : List Nat} {p : Nat} (h : (l.all (fun p => f.hasUnit (groupPage p))) = true) (hp : p ∈ l) : f.hasUnit (groupPage p) = true :=
  List.all_eq_true.1 h p hp

/-- A side condition on footprints, which evaluates. -/
theorem side_ok {b : Bool} (h : b = true) : b = true := h

/-- Proving a let-bound state once. -/
theorem fits_cut {p q : Prop} (h : p) (k : p → q) : q := k h

theorem fits_free (k : s.Keeps t) : s.Fits Foot.free t := ⟨.inl rfl, k⟩

theorem fits_ite {c : Prop} [Decidable c] (h : s.Fits f t) (k : s.Fits f u) : s.Fits f (if c then t else u) := by
  split
  · exact h
  · exact k

/-- A fold keeps to a footprint that its step keeps to. -/
theorem fits_foldl {α : Type} (l : List α) (h : State → α → State) (hs : ∀ x, x ∈ l → ∀ u, s.Fits f u → s.Fits f (h u x)) (h0 : s.Fits f t) :
    s.Fits f (l.foldl h t) := by
  induction l generalizing t with
  | nil => exact h0
  | cons a r ih => exact ih (fun x hx => hs x (List.mem_cons_of_mem a hx)) (hs a (List.mem_cons_self ..) t h0)

/-- A fold that carries a result beside the state. -/
theorem fits_foldl_fst {α β : Type} (l : List α) (h : State × β → α → State × β)
    (hs : ∀ x, x ∈ l → ∀ u b, s.Fits f u → s.Fits f (h (u, b) x).1) {c : State × β} (h0 : s.Fits f c.1) : s.Fits f (l.foldl h c).1 := by
  induction l generalizing c with
  | nil => exact h0
  | cons a r ih => exact ih (fun x hx => hs x (List.mem_cons_of_mem a hx)) (hs a (List.mem_cons_self ..) c.1 c.2 h0)

/-- A fold that carries a result before the state. -/
theorem fits_foldl_snd {α β : Type} (l : List α) (h : β × State → α → β × State)
    (hs : ∀ x, x ∈ l → ∀ b u, s.Fits f u → s.Fits f (h (b, u) x).2) {c : β × State} (h0 : s.Fits f c.2) : s.Fits f (l.foldl h c).2 := by
  induction l generalizing c with
  | nil => exact h0
  | cons a r ih => exact ih (fun x hx => hs x (List.mem_cons_of_mem a hx)) (hs a (List.mem_cons_self ..) c.1 c.2 h0)

/-- The state of a result that has been taken apart. -/
theorem fits_snd {α : Type} {p : α × State} {a : α} (h : p = (a, t)) (k : s.Fits f p.2) : s.Fits f t := by rw [h] at k; exact k

theorem fits_thd {α β : Type} {p : α × β × State} {a : α} {b : β} (h : p = (a, b, t)) (k : s.Fits f p.2.2) : s.Fits f t := by rw [h] at k; exact k

/-! ### The register banks -/

theorem regsWf_regs (h : s.regsWf = true) : tabWf resetWord s.regs = true := by
  simp only [State.regsWf, Bool.and_eq_true] at h; exact h.1.1

theorem regsWf_shadow (h : s.regsWf = true) : tabWf resetWord s.shadow = true := by
  simp only [State.regsWf, Bool.and_eq_true] at h; exact h.1.2

theorem regsWf_pend (h : s.regsWf = true) : tabWf resetWord s.pend = true := by
  simp only [State.regsWf, Bool.and_eq_true] at h; exact h.2

theorem regsWf_of (h1 : tabWf resetWord s.regs = true) (h2 : tabWf resetWord s.shadow = true) (h3 : tabWf resetWord s.pend = true) : s.regsWf = true := by
  simp [State.regsWf, h1, h2, h3]

/-! ### A part replaced -/

/-- A condition that a part keeps, as a goal of its own. -/
def Keep (p q : Prop) : Prop := p → q

theorem keep_ok {p q : Prop} (h : p → q) : Keep p q := h

theorem keep_refl {p : Prop} : Keep p p := id

theorem keep_goal {p q : Prop} (h : Keep p q) : Keep p q := h

/-- The types of the parts whose tables have a fixed length. -/
inductive PartTy : Type → Prop
  | lanes : PartTy (List Lane)
  | saf : PartTy Saf
  | quartz : PartTy Quartz
  | cmd : PartTy Cmd
  | glare : PartTy Glare
  | gov : PartTy Gov
  | cal : PartTy Cal
  | flx : PartTy Flx
  | fus : PartTy Fus
  | upd : PartTy Upd

theorem part_cut {α : Type} {q : Prop} (_ : PartTy α) (k : q) : q := k

theorem shaped_withLanes {v : List Lane} (hk : Keep (s.lanes.length = 8) (v.length = 8)) : s.shaped = true → (s.withLanes v).shaped = true := by
  intro h
  simp only [State.shaped, Bool.and_eq_true, decide_eq_true_eq] at h ⊢
  simp only [Keep] at hk
  simp only [State.withLanes]
  simp_all

theorem shaped_withSaf {v : Saf} (hk : Keep (s.saf.shaped = true) (v.shaped = true)) : s.shaped = true → (s.withSaf v).shaped = true := by
  intro h
  simp only [State.shaped, Bool.and_eq_true, decide_eq_true_eq] at h ⊢
  simp only [Keep] at hk
  simp only [State.withSaf]
  simp_all

theorem shaped_withQuartz {v : Quartz} (hk : Keep (s.quartz.shaped = true) (v.shaped = true)) : s.shaped = true → (s.withQuartz v).shaped = true := by
  intro h
  simp only [State.shaped, Bool.and_eq_true, decide_eq_true_eq] at h ⊢
  simp only [Keep] at hk
  simp only [State.withQuartz]
  simp_all

theorem shaped_withCmd {v : Cmd} (hk : Keep (s.cmd.shaped = true) (v.shaped = true)) : s.shaped = true → (s.withCmd v).shaped = true := by
  intro h
  simp only [State.shaped, Bool.and_eq_true, decide_eq_true_eq] at h ⊢
  simp only [Keep] at hk
  simp only [State.withCmd]
  simp_all

theorem shaped_withGlare {v : Glare} (hk : Keep (s.glare.shaped = true) (v.shaped = true)) : s.shaped = true → (s.withGlare v).shaped = true := by
  intro h
  simp only [State.shaped, Bool.and_eq_true, decide_eq_true_eq] at h ⊢
  simp only [Keep] at hk
  simp only [State.withGlare]
  simp_all

theorem shaped_withGov {v : Gov} (hk : Keep (s.gov.shaped = true) (v.shaped = true)) : s.shaped = true → (s.withGov v).shaped = true := by
  intro h
  simp only [State.shaped, Bool.and_eq_true, decide_eq_true_eq] at h ⊢
  simp only [Keep] at hk
  simp only [State.withGov]
  simp_all

theorem shaped_withCal {v : Cal} (hk : Keep (s.cal.shaped = true) (v.shaped = true)) : s.shaped = true → (s.withCal v).shaped = true := by
  intro h
  simp only [State.shaped, Bool.and_eq_true, decide_eq_true_eq] at h ⊢
  simp only [Keep] at hk
  simp only [State.withCal]
  simp_all

theorem shaped_withFlx {v : Flx} (hk : Keep (s.flx.shaped = true) (v.shaped = true)) : s.shaped = true → (s.withFlx v).shaped = true := by
  intro h
  simp only [State.shaped, Bool.and_eq_true, decide_eq_true_eq] at h ⊢
  simp only [Keep] at hk
  simp only [State.withFlx]
  simp_all

theorem shaped_withFus {v : Fus} (hk : Keep (s.fus.shaped = true) (v.shaped = true)) : s.shaped = true → (s.withFus v).shaped = true := by
  intro h
  simp only [State.shaped, Bool.and_eq_true, decide_eq_true_eq] at h ⊢
  simp only [Keep] at hk
  simp only [State.withFus]
  simp_all

theorem shaped_withUpd {v : Upd} (hk : Keep (s.upd.shaped = true) (v.shaped = true)) : s.shaped = true → (s.withUpd v).shaped = true := by
  intro h
  simp only [State.shaped, Bool.and_eq_true, decide_eq_true_eq] at h ⊢
  simp only [Keep] at hk
  simp only [State.withUpd]
  simp_all

/-- Nothing but one part changes. -/
theorem withRegs_fits (r : List (Nat × Word)) (hw : s.regsWf = true → tabWf resetWord r = true)
    (hr : f.any = true ∨ ∀ a, groupPage (a / 4096) ∉ f.units → tabGet resetWord r a = s.word a) (h0 : s0.Fits f s) : s0.Fits f (s.withRegs r) := by
  refine fits_trans h0 ⟨?_, ⟨id, ?_, id, rfl, Nat.le_refl _, Nat.le_refl _, fun _ _ h => h⟩⟩
  · rcases hr with hr | hr
    · exact .inl hr
    · exact .inr ⟨hr, by constructor <;> exact fun _ => rfl⟩
  · exact fun h => regsWf_of (hw h) (regsWf_shadow (s := s) h) (regsWf_pend (s := s) h)

theorem withShadow_fits (v : List (Nat × Word)) (hw : s.regsWf = true → tabWf resetWord v = true) (hp : f.hasPart Part.shadow = true) (h0 : s0.Fits f s) : s0.Fits f (s.withShadow v) := by
  refine fits_trans h0 ⟨?_, ⟨id, fun h => regsWf_of (regsWf_regs (s := s) h) (hw h) (regsWf_pend (s := s) h), id, rfl, Nat.le_refl _, Nat.le_refl _, fun _ _ h => h⟩⟩
  by_cases ha : f.any = true
  · exact .inl ha
  · have hm : Part.shadow ∈ f.parts := by simp [Foot.hasPart, ha] at hp; exact hp
    refine .inr ⟨fun _ _ => rfl, ?_⟩
    constructor <;> first | exact fun h => absurd hm h | exact fun _ => rfl

theorem withPend_fits (v : List (Nat × Word)) (hw : s.regsWf = true → tabWf resetWord v = true) (hp : f.hasPart Part.pend = true) (h0 : s0.Fits f s) : s0.Fits f (s.withPend v) := by
  refine fits_trans h0 ⟨?_, ⟨id, fun h => regsWf_of (regsWf_regs (s := s) h) (regsWf_shadow (s := s) h) (hw h), id, rfl, Nat.le_refl _, Nat.le_refl _, fun _ _ h => h⟩⟩
  by_cases ha : f.any = true
  · exact .inl ha
  · have hm : Part.pend ∈ f.parts := by simp [Foot.hasPart, ha] at hp; exact hp
    refine .inr ⟨fun _ _ => rfl, ?_⟩
    constructor <;> first | exact fun h => absurd hm h | exact fun _ => rfl

theorem withPendPages_fits (v : List Nat) (hp : f.hasPart Part.pendPages = true) (h0 : s0.Fits f s) : s0.Fits f (s.withPendPages v) := by
  refine fits_trans h0 ⟨?_, ⟨id, id, id, rfl, Nat.le_refl _, Nat.le_refl _, fun _ _ h => h⟩⟩
  by_cases ha : f.any = true
  · exact .inl ha
  · have hm : Part.pendPages ∈ f.parts := by simp [Foot.hasPart, ha] at hp; exact hp
    refine .inr ⟨fun _ _ => rfl, ?_⟩
    constructor <;> first | exact fun h => absurd hm h | exact fun _ => rfl

theorem withMem_fits (v : List Host.Cell) (hw : tabWf memDefault s.mem = true → tabWf memDefault v = true) (hp : f.hasPart Part.mem = true) (h0 : s0.Fits f s) : s0.Fits f (s.withMem v) := by
  refine fits_trans h0 ⟨?_, ⟨hw, id, id, rfl, Nat.le_refl _, Nat.le_refl _, fun _ _ h => h⟩⟩
  by_cases ha : f.any = true
  · exact .inl ha
  · have hm : Part.mem ∈ f.parts := by simp [Foot.hasPart, ha] at hp; exact hp
    refine .inr ⟨fun _ _ => rfl, ?_⟩
    constructor <;> first | exact fun h => absurd hm h | exact fun _ => rfl

theorem withLatches_fits (v : List ((Nat × Nat) × Word)) (hp : f.hasPart Part.latches = true) (h0 : s0.Fits f s) : s0.Fits f (s.withLatches v) := by
  refine fits_trans h0 ⟨?_, ⟨id, id, id, rfl, Nat.le_refl _, Nat.le_refl _, fun _ _ h => h⟩⟩
  by_cases ha : f.any = true
  · exact .inl ha
  · have hm : Part.latches ∈ f.parts := by simp [Foot.hasPart, ha] at hp; exact hp
    refine .inr ⟨fun _ _ => rfl, ?_⟩
    constructor <;> first | exact fun h => absurd hm h | exact fun _ => rfl

theorem withNow_fits (v : Nat) (hw : s.now ≤ v) (hp : f.hasPart Part.now = true) (h0 : s0.Fits f s) : s0.Fits f (s.withNow v) := by
  refine fits_trans h0 ⟨?_, ⟨id, id, id, rfl, Nat.le_refl _, hw, fun _ _ h => h⟩⟩
  by_cases ha : f.any = true
  · exact .inl ha
  · have hm : Part.now ∈ f.parts := by simp [Foot.hasPart, ha] at hp; exact hp
    refine .inr ⟨fun _ _ => rfl, ?_⟩
    constructor <;> first | exact fun h => absurd hm h | exact fun _ => rfl

theorem withOhSub_fits (v : Nat) (hp : f.hasPart Part.ohSub = true) (h0 : s0.Fits f s) : s0.Fits f (s.withOhSub v) := by
  refine fits_trans h0 ⟨?_, ⟨id, id, id, rfl, Nat.le_refl _, Nat.le_refl _, fun _ _ h => h⟩⟩
  by_cases ha : f.any = true
  · exact .inl ha
  · have hm : Part.ohSub ∈ f.parts := by simp [Foot.hasPart, ha] at hp; exact hp
    refine .inr ⟨fun _ _ => rfl, ?_⟩
    constructor <;> first | exact fun h => absurd hm h | exact fun _ => rfl

theorem withLt_fits (v : Nat) (hp : f.hasPart Part.lt = true) (h0 : s0.Fits f s) : s0.Fits f (s.withLt v) := by
  refine fits_trans h0 ⟨?_, ⟨id, id, id, rfl, Nat.le_refl _, Nat.le_refl _, fun _ _ h => h⟩⟩
  by_cases ha : f.any = true
  · exact .inl ha
  · have hm : Part.lt ∈ f.parts := by simp [Foot.hasPart, ha] at hp; exact hp
    refine .inr ⟨fun _ _ => rfl, ?_⟩
    constructor <;> first | exact fun h => absurd hm h | exact fun _ => rfl

theorem withSlew_fits (v : Int) (hp : f.hasPart Part.slew = true) (h0 : s0.Fits f s) : s0.Fits f (s.withSlew v) := by
  refine fits_trans h0 ⟨?_, ⟨id, id, id, rfl, Nat.le_refl _, Nat.le_refl _, fun _ _ h => h⟩⟩
  by_cases ha : f.any = true
  · exact .inl ha
  · have hm : Part.slew ∈ f.parts := by simp [Foot.hasPart, ha] at hp; exact hp
    refine .inr ⟨fun _ _ => rfl, ?_⟩
    constructor <;> first | exact fun h => absurd hm h | exact fun _ => rfl

theorem withLtApplied_fits (v : Option Nat) (hp : f.hasPart Part.ltApplied = true) (h0 : s0.Fits f s) : s0.Fits f (s.withLtApplied v) := by
  refine fits_trans h0 ⟨?_, ⟨id, id, id, rfl, Nat.le_refl _, Nat.le_refl _, fun _ _ h => h⟩⟩
  by_cases ha : f.any = true
  · exact .inl ha
  · have hm : Part.ltApplied ∈ f.parts := by simp [Foot.hasPart, ha] at hp; exact hp
    refine .inr ⟨fun _ _ => rfl, ?_⟩
    constructor <;> first | exact fun h => absurd hm h | exact fun _ => rfl

theorem withFlt_fits (v : Flt) (hp : f.hasPart Part.flt = true) (h0 : s0.Fits f s) : s0.Fits f (s.withFlt v) := by
  refine fits_trans h0 ⟨?_, ⟨id, id, id, rfl, Nat.le_refl _, Nat.le_refl _, fun _ _ h => h⟩⟩
  by_cases ha : f.any = true
  · exact .inl ha
  · have hm : Part.flt ∈ f.parts := by simp [Foot.hasPart, ha] at hp; exact hp
    refine .inr ⟨fun _ _ => rfl, ?_⟩
    constructor <;> first | exact fun h => absurd hm h | exact fun _ => rfl

theorem withEvr_fits (v : Evr) (hp : f.hasPart Part.evr = true) (h0 : s0.Fits f s) : s0.Fits f (s.withEvr v) := by
  refine fits_trans h0 ⟨?_, ⟨id, id, id, rfl, Nat.le_refl _, Nat.le_refl _, fun _ _ h => h⟩⟩
  by_cases ha : f.any = true
  · exact .inl ha
  · have hm : Part.evr ∈ f.parts := by simp [Foot.hasPart, ha] at hp; exact hp
    refine .inr ⟨fun _ _ => rfl, ?_⟩
    constructor <;> first | exact fun h => absurd hm h | exact fun _ => rfl

theorem withSaf_fits (v : Saf) (hk : Keep (s.saf.shaped = true) (v.shaped = true)) (hp : f.hasPart Part.saf = true) (h0 : s0.Fits f s) : s0.Fits f (s.withSaf v) := by
  refine fits_trans h0 ⟨?_, ⟨id, id, shaped_withSaf hk, rfl, Nat.le_refl _, Nat.le_refl _, fun _ _ h => h⟩⟩
  by_cases ha : f.any = true
  · exact .inl ha
  · have hm : Part.saf ∈ f.parts := by simp [Foot.hasPart, ha] at hp; exact hp
    refine .inr ⟨fun _ _ => rfl, ?_⟩
    constructor <;> first | exact fun h => absurd hm h | exact fun _ => rfl

theorem withRst_fits (v : Rst) (hp : f.hasPart Part.rst = true) (h0 : s0.Fits f s) : s0.Fits f (s.withRst v) := by
  refine fits_trans h0 ⟨?_, ⟨id, id, id, rfl, Nat.le_refl _, Nat.le_refl _, fun _ _ h => h⟩⟩
  by_cases ha : f.any = true
  · exact .inl ha
  · have hm : Part.rst ∈ f.parts := by simp [Foot.hasPart, ha] at hp; exact hp
    refine .inr ⟨fun _ _ => rfl, ?_⟩
    constructor <;> first | exact fun h => absurd hm h | exact fun _ => rfl

theorem withQuartz_fits (v : Quartz) (hk : Keep (s.quartz.shaped = true) (v.shaped = true)) (hp : f.hasPart Part.quartz = true) (h0 : s0.Fits f s) : s0.Fits f (s.withQuartz v) := by
  refine fits_trans h0 ⟨?_, ⟨id, id, shaped_withQuartz hk, rfl, Nat.le_refl _, Nat.le_refl _, fun _ _ h => h⟩⟩
  by_cases ha : f.any = true
  · exact .inl ha
  · have hm : Part.quartz ∈ f.parts := by simp [Foot.hasPart, ha] at hp; exact hp
    refine .inr ⟨fun _ _ => rfl, ?_⟩
    constructor <;> first | exact fun h => absurd hm h | exact fun _ => rfl

theorem withLnkA_fits (v : Link) (hp : f.hasPart Part.lnkA = true) (h0 : s0.Fits f s) : s0.Fits f (s.withLnkA v) := by
  refine fits_trans h0 ⟨?_, ⟨id, id, id, rfl, Nat.le_refl _, Nat.le_refl _, fun _ _ h => h⟩⟩
  by_cases ha : f.any = true
  · exact .inl ha
  · have hm : Part.lnkA ∈ f.parts := by simp [Foot.hasPart, ha] at hp; exact hp
    refine .inr ⟨fun _ _ => rfl, ?_⟩
    constructor <;> first | exact fun h => absurd hm h | exact fun _ => rfl

theorem withLnkB_fits (v : Link) (hp : f.hasPart Part.lnkB = true) (h0 : s0.Fits f s) : s0.Fits f (s.withLnkB v) := by
  refine fits_trans h0 ⟨?_, ⟨id, id, id, rfl, Nat.le_refl _, Nat.le_refl _, fun _ _ h => h⟩⟩
  by_cases ha : f.any = true
  · exact .inl ha
  · have hm : Part.lnkB ∈ f.parts := by simp [Foot.hasPart, ha] at hp; exact hp
    refine .inr ⟨fun _ _ => rfl, ?_⟩
    constructor <;> first | exact fun h => absurd hm h | exact fun _ => rfl

theorem withCsf_fits (v : Csf) (hp : f.hasPart Part.csf = true) (h0 : s0.Fits f s) : s0.Fits f (s.withCsf v) := by
  refine fits_trans h0 ⟨?_, ⟨id, id, id, rfl, Nat.le_refl _, Nat.le_refl _, fun _ _ h => h⟩⟩
  by_cases ha : f.any = true
  · exact .inl ha
  · have hm : Part.csf ∈ f.parts := by simp [Foot.hasPart, ha] at hp; exact hp
    refine .inr ⟨fun _ _ => rfl, ?_⟩
    constructor <;> first | exact fun h => absurd hm h | exact fun _ => rfl

theorem withSide_fits (v : Side) (hp : f.hasPart Part.side = true) (h0 : s0.Fits f s) : s0.Fits f (s.withSide v) := by
  refine fits_trans h0 ⟨?_, ⟨id, id, id, rfl, Nat.le_refl _, Nat.le_refl _, fun _ _ h => h⟩⟩
  by_cases ha : f.any = true
  · exact .inl ha
  · have hm : Part.side ∈ f.parts := by simp [Foot.hasPart, ha] at hp; exact hp
    refine .inr ⟨fun _ _ => rfl, ?_⟩
    constructor <;> first | exact fun h => absurd hm h | exact fun _ => rfl

theorem withSpi_fits (v : Spi) (hp : f.hasPart Part.spi = true) (h0 : s0.Fits f s) : s0.Fits f (s.withSpi v) := by
  refine fits_trans h0 ⟨?_, ⟨id, id, id, rfl, Nat.le_refl _, Nat.le_refl _, fun _ _ h => h⟩⟩
  by_cases ha : f.any = true
  · exact .inl ha
  · have hm : Part.spi ∈ f.parts := by simp [Foot.hasPart, ha] at hp; exact hp
    refine .inr ⟨fun _ _ => rfl, ?_⟩
    constructor <;> first | exact fun h => absurd hm h | exact fun _ => rfl

theorem withCmd_fits (v : Cmd) (hk : Keep (s.cmd.shaped = true) (v.shaped = true)) (hp : f.hasPart Part.cmd = true) (h0 : s0.Fits f s) : s0.Fits f (s.withCmd v) := by
  refine fits_trans h0 ⟨?_, ⟨id, id, shaped_withCmd hk, rfl, Nat.le_refl _, Nat.le_refl _, fun _ _ h => h⟩⟩
  by_cases ha : f.any = true
  · exact .inl ha
  · have hm : Part.cmd ∈ f.parts := by simp [Foot.hasPart, ha] at hp; exact hp
    refine .inr ⟨fun _ _ => rfl, ?_⟩
    constructor <;> first | exact fun h => absurd hm h | exact fun _ => rfl

theorem withCmp_fits (v : Cmp) (hp : f.hasPart Part.cmp = true) (h0 : s0.Fits f s) : s0.Fits f (s.withCmp v) := by
  refine fits_trans h0 ⟨?_, ⟨id, id, id, rfl, Nat.le_refl _, Nat.le_refl _, fun _ _ h => h⟩⟩
  by_cases ha : f.any = true
  · exact .inl ha
  · have hm : Part.cmp ∈ f.parts := by simp [Foot.hasPart, ha] at hp; exact hp
    refine .inr ⟨fun _ _ => rfl, ?_⟩
    constructor <;> first | exact fun h => absurd hm h | exact fun _ => rfl

theorem withGlare_fits (v : Glare) (hk : Keep (s.glare.shaped = true) (v.shaped = true)) (hp : f.hasPart Part.glare = true) (h0 : s0.Fits f s) : s0.Fits f (s.withGlare v) := by
  refine fits_trans h0 ⟨?_, ⟨id, id, shaped_withGlare hk, rfl, Nat.le_refl _, Nat.le_refl _, fun _ _ h => h⟩⟩
  by_cases ha : f.any = true
  · exact .inl ha
  · have hm : Part.glare ∈ f.parts := by simp [Foot.hasPart, ha] at hp; exact hp
    refine .inr ⟨fun _ _ => rfl, ?_⟩
    constructor <;> first | exact fun h => absurd hm h | exact fun _ => rfl

theorem withLanes_fits (v : List Lane) (hk : Keep (s.lanes.length = 8) (v.length = 8)) (hp : f.hasPart Part.lanes = true) (h0 : s0.Fits f s) : s0.Fits f (s.withLanes v) := by
  refine fits_trans h0 ⟨?_, ⟨id, id, shaped_withLanes hk, rfl, Nat.le_refl _, Nat.le_refl _, fun _ _ h => h⟩⟩
  by_cases ha : f.any = true
  · exact .inl ha
  · have hm : Part.lanes ∈ f.parts := by simp [Foot.hasPart, ha] at hp; exact hp
    refine .inr ⟨fun _ _ => rfl, ?_⟩
    constructor <;> first | exact fun h => absurd hm h | exact fun _ => rfl

theorem withTln_fits (v : Tln) (hp : f.hasPart Part.tln = true) (h0 : s0.Fits f s) : s0.Fits f (s.withTln v) := by
  refine fits_trans h0 ⟨?_, ⟨id, id, id, rfl, Nat.le_refl _, Nat.le_refl _, fun _ _ h => h⟩⟩
  by_cases ha : f.any = true
  · exact .inl ha
  · have hm : Part.tln ∈ f.parts := by simp [Foot.hasPart, ha] at hp; exact hp
    refine .inr ⟨fun _ _ => rfl, ?_⟩
    constructor <;> first | exact fun h => absurd hm h | exact fun _ => rfl

theorem withGov_fits (v : Gov) (hk : Keep (s.gov.shaped = true) (v.shaped = true)) (hp : f.hasPart Part.gov = true) (h0 : s0.Fits f s) : s0.Fits f (s.withGov v) := by
  refine fits_trans h0 ⟨?_, ⟨id, id, shaped_withGov hk, rfl, Nat.le_refl _, Nat.le_refl _, fun _ _ h => h⟩⟩
  by_cases ha : f.any = true
  · exact .inl ha
  · have hm : Part.gov ∈ f.parts := by simp [Foot.hasPart, ha] at hp; exact hp
    refine .inr ⟨fun _ _ => rfl, ?_⟩
    constructor <;> first | exact fun h => absurd hm h | exact fun _ => rfl

theorem withCal_fits (v : Cal) (hk : Keep (s.cal.shaped = true) (v.shaped = true)) (hp : f.hasPart Part.cal = true) (h0 : s0.Fits f s) : s0.Fits f (s.withCal v) := by
  refine fits_trans h0 ⟨?_, ⟨id, id, shaped_withCal hk, rfl, Nat.le_refl _, Nat.le_refl _, fun _ _ h => h⟩⟩
  by_cases ha : f.any = true
  · exact .inl ha
  · have hm : Part.cal ∈ f.parts := by simp [Foot.hasPart, ha] at hp; exact hp
    refine .inr ⟨fun _ _ => rfl, ?_⟩
    constructor <;> first | exact fun h => absurd hm h | exact fun _ => rfl

theorem withFlx_fits (v : Flx) (hk : Keep (s.flx.shaped = true) (v.shaped = true)) (hp : f.hasPart Part.flx = true) (h0 : s0.Fits f s) : s0.Fits f (s.withFlx v) := by
  refine fits_trans h0 ⟨?_, ⟨id, id, shaped_withFlx hk, rfl, Nat.le_refl _, Nat.le_refl _, fun _ _ h => h⟩⟩
  by_cases ha : f.any = true
  · exact .inl ha
  · have hm : Part.flx ∈ f.parts := by simp [Foot.hasPart, ha] at hp; exact hp
    refine .inr ⟨fun _ _ => rfl, ?_⟩
    constructor <;> first | exact fun h => absurd hm h | exact fun _ => rfl

theorem withSeg_fits (v : Seg) (hp : f.hasPart Part.seg = true) (h0 : s0.Fits f s) : s0.Fits f (s.withSeg v) := by
  refine fits_trans h0 ⟨?_, ⟨id, id, id, rfl, Nat.le_refl _, Nat.le_refl _, fun _ _ h => h⟩⟩
  by_cases ha : f.any = true
  · exact .inl ha
  · have hm : Part.seg ∈ f.parts := by simp [Foot.hasPart, ha] at hp; exact hp
    refine .inr ⟨fun _ _ => rfl, ?_⟩
    constructor <;> first | exact fun h => absurd hm h | exact fun _ => rfl

theorem withThm_fits (v : Thm) (hp : f.hasPart Part.thm = true) (h0 : s0.Fits f s) : s0.Fits f (s.withThm v) := by
  refine fits_trans h0 ⟨?_, ⟨id, id, id, rfl, Nat.le_refl _, Nat.le_refl _, fun _ _ h => h⟩⟩
  by_cases ha : f.any = true
  · exact .inl ha
  · have hm : Part.thm ∈ f.parts := by simp [Foot.hasPart, ha] at hp; exact hp
    refine .inr ⟨fun _ _ => rfl, ?_⟩
    constructor <;> first | exact fun h => absurd hm h | exact fun _ => rfl

theorem withPwr_fits (v : Pwr) (hp : f.hasPart Part.pwr = true) (h0 : s0.Fits f s) : s0.Fits f (s.withPwr v) := by
  refine fits_trans h0 ⟨?_, ⟨id, id, id, rfl, Nat.le_refl _, Nat.le_refl _, fun _ _ h => h⟩⟩
  by_cases ha : f.any = true
  · exact .inl ha
  · have hm : Part.pwr ∈ f.parts := by simp [Foot.hasPart, ha] at hp; exact hp
    refine .inr ⟨fun _ _ => rfl, ?_⟩
    constructor <;> first | exact fun h => absurd hm h | exact fun _ => rfl

theorem withSec_fits (v : Sec) (hp : f.hasPart Part.sec = true) (h0 : s0.Fits f s) : s0.Fits f (s.withSec v) := by
  refine fits_trans h0 ⟨?_, ⟨id, id, id, rfl, Nat.le_refl _, Nat.le_refl _, fun _ _ h => h⟩⟩
  by_cases ha : f.any = true
  · exact .inl ha
  · have hm : Part.sec ∈ f.parts := by simp [Foot.hasPart, ha] at hp; exact hp
    refine .inr ⟨fun _ _ => rfl, ?_⟩
    constructor <;> first | exact fun h => absurd hm h | exact fun _ => rfl

theorem withFus_fits (v : Fus) (hw : s.FusesKept (s.withFus v)) (hk : Keep (s.fus.shaped = true) (v.shaped = true)) (hp : f.hasPart Part.fus = true) (h0 : s0.Fits f s) : s0.Fits f (s.withFus v) := by
  refine fits_trans h0 ⟨?_, ⟨id, id, shaped_withFus hk, rfl, Nat.le_refl _, Nat.le_refl _, hw⟩⟩
  by_cases ha : f.any = true
  · exact .inl ha
  · have hm : Part.fus ∈ f.parts := by simp [Foot.hasPart, ha] at hp; exact hp
    refine .inr ⟨fun _ _ => rfl, ?_⟩
    constructor <;> first | exact fun h => absurd hm h | exact fun _ => rfl

theorem withUpd_fits (v : Upd) (hk : Keep (s.upd.shaped = true) (v.shaped = true)) (hp : f.hasPart Part.upd = true) (h0 : s0.Fits f s) : s0.Fits f (s.withUpd v) := by
  refine fits_trans h0 ⟨?_, ⟨id, id, shaped_withUpd hk, rfl, Nat.le_refl _, Nat.le_refl _, fun _ _ h => h⟩⟩
  by_cases ha : f.any = true
  · exact .inl ha
  · have hm : Part.upd ∈ f.parts := by simp [Foot.hasPart, ha] at hp; exact hp
    refine .inr ⟨fun _ _ => rfl, ?_⟩
    constructor <;> first | exact fun h => absurd hm h | exact fun _ => rfl

theorem withReadData_fits (v : List Word) (hp : f.hasPart Part.readData = true) (h0 : s0.Fits f s) : s0.Fits f (s.withReadData v) := by
  refine fits_trans h0 ⟨?_, ⟨id, id, id, rfl, Nat.le_refl _, Nat.le_refl _, fun _ _ h => h⟩⟩
  by_cases ha : f.any = true
  · exact .inl ha
  · have hm : Part.readData ∈ f.parts := by simp [Foot.hasPart, ha] at hp; exact hp
    refine .inr ⟨fun _ _ => rfl, ?_⟩
    constructor <;> first | exact fun h => absurd hm h | exact fun _ => rfl

theorem withFresh_fits (v : Nat) (hw : s.fresh ≤ v) (hp : f.hasPart Part.fresh = true) (h0 : s0.Fits f s) : s0.Fits f (s.withFresh v) := by
  refine fits_trans h0 ⟨?_, ⟨id, id, id, rfl, hw, Nat.le_refl _, fun _ _ h => h⟩⟩
  by_cases ha : f.any = true
  · exact .inl ha
  · have hm : Part.fresh ∈ f.parts := by simp [Foot.hasPart, ha] at hp; exact hp
    refine .inr ⟨fun _ _ => rfl, ?_⟩
    constructor <;> first | exact fun h => absurd hm h | exact fun _ => rfl

/-- Fuse rows as they were. -/
theorem fusesKept_rows {v : Fus} (h : v.rows = s.fus.rows) : s.FusesKept (s.withFus v) := by
  intro r i hb
  simpa [State.fuse, State.withFus, h] using hb

/-! ### Units of the fields of instance pages -/

theorem tl_unit {n : Nat} (h : f.hasUnit 0x50 = true) : f.hasUnit (groupPage (0x51 + n % 8)) = true := by
  rw [show groupPage (0x51 + n % 8) = 0x50 by have := Nat.mod_lt n (show 8 > 0 by omega); simp only [groupPage]; (repeat' split) <;> omega]; exact h

theorem be_unit {n : Nat} (h : f.hasUnit 0x30 = true) : f.hasUnit (groupPage (0x31 + n % 8)) = true := by
  rw [show groupPage (0x31 + n % 8) = 0x30 by have := Nat.mod_lt n (show 8 > 0 by omega); simp only [groupPage]; (repeat' split) <;> omega]; exact h

theorem lay_unit {n : Nat} (h : f.hasUnit 0x18 = true) : f.hasUnit (groupPage (0x19 + n % 16)) = true := by
  rw [show groupPage (0x19 + n % 16) = 0x18 by have := Nat.mod_lt n (show 16 > 0 by omega); simp only [groupPage]; (repeat' split) <;> omega]; exact h

theorem crc_unit {n : Nat} (h : f.hasUnit 0x88 = true) : f.hasUnit (groupPage (0x89 + n % 4)) = true := by
  rw [show groupPage (0x89 + n % 4) = 0x88 by have := Nat.mod_lt n (show 4 > 0 by omega); simp only [groupPage]; (repeat' split) <;> omega]; exact h

theorem lnk_unit {n : Nat} (h : (f.hasUnit 0x08 && f.hasUnit 0x09) = true) : f.hasUnit (groupPage (0x08 + n % 2)) = true := by
  rw [Bool.and_eq_true] at h
  rcases Nat.mod_two_eq_zero_or_one n with hn | hn <;> rw [hn]
  · exact h.1
  · exact h.2

theorem tl_page {n : Nat} (h : f.hasUnit 0x50 = true) (hn : n < 8) : f.hasUnit (groupPage (0x51 + n)) = true := by
  rw [show 0x51 + n = 0x51 + n % 8 by omega]; exact tl_unit h

theorem be_page {n : Nat} (h : f.hasUnit 0x30 = true) (hn : n < 8) : f.hasUnit (groupPage (0x31 + n)) = true := by
  rw [show 0x31 + n = 0x31 + n % 8 by omega]; exact be_unit h

/-! ### The primitive operations -/

theorem setWord_fits {a : Nat} (w : Word) (ha : f.hasUnit (groupPage (a / 4096)) = true) (h0 : s0.Fits f s) : s0.Fits f (s.setWord a w) := by
  refine withRegs_fits _ (fun h => tabWf_tabPut _ _ (regsWf_regs h)) ?_ h0
  by_cases hx : f.any = true
  · exact .inl hx
  · refine .inr (fun b hb => tabGet_tabPut_other _ _ ?_)
    have hm : groupPage (a / 4096) ∈ f.units := by simp [Foot.hasUnit, hx] at ha; exact ha
    exact fun hab => hb (hab ▸ hm)

theorem addr_page (x : Fld) : x.addr / 4096 = x.page := by simp only [Fld.addr]; omega

/-- A field set stays within the unit of the field. -/
theorem put_fits {x : Fld} (v : Nat) (ha : f.hasUnit (groupPage x.page) = true) (h0 : s0.Fits f s) : s0.Fits f (s.put x v) :=
  setWord_fits _ (by rw [addr_page]; exact ha) h0

theorem inc_fits {x : Fld} (ha : f.hasUnit (groupPage x.page) = true) (h0 : s0.Fits f s) : s0.Fits f (s.inc x) := put_fits _ ha h0

theorem incSat_fits {x : Fld} (ha : f.hasUnit (groupPage x.page) = true) (h0 : s0.Fits f s) : s0.Fits f (s.incSat x) := by
  unfold State.incSat
  split
  · exact put_fits _ ha h0
  · exact h0

theorem addSat_fits {x : Fld} (n : Nat) (ha : f.hasUnit (groupPage x.page) = true) (h0 : s0.Fits f s) : s0.Fits f (s.addSat x n) := put_fits _ ha h0

/-- An event bit stays within its unit. -/
theorem evt_fits {x : Fld} (ha : f.hasUnit (groupPage x.page) = true) (h0 : s0.Fits f s) : s0.Fits f (s.evt x) := by
  unfold State.evt
  split
  · exact h0
  · exact put_fits _ ha (put_fits _ ha h0)

theorem setShadow_fits (a : Nat) (w : Word) (hp : f.hasPart Part.shadow = true) (h0 : s0.Fits f s) : s0.Fits f (s.setShadow a w) :=
  withShadow_fits _ (fun h => tabWf_tabPut _ _ (regsWf_shadow h)) hp h0

theorem setByte_fits (a : Nat) (b : Byte) (hp : f.hasPart Part.mem = true) (h0 : s0.Fits f s) : s0.Fits f (s.setByte a b) :=
  withMem_fits _ (fun h => tabWf_tabPut _ _ h) hp h0

theorem setBytes_glare (s : State) (a : Nat) (l : List Byte) : (s.setBytes a l).glare = s.glare := by
  induction l generalizing s a with
  | nil => rfl
  | cons b t ih => exact (ih _ _).trans rfl

theorem setBytes_fits (a : Nat) (l : List Byte) (hp : f.hasPart Part.mem = true) (h0 : s0.Fits f s) : s0.Fits f (s.setBytes a l) := by
  induction l generalizing a s with
  | nil => exact h0
  | cons b t ih => exact ih (a + 1) (setByte_fits a b hp h0)

theorem free_fits (hp : f.hasPart Part.fresh = true) (h0 : s0.Fits f s) : s0.Fits f s.free.2 := withFresh_fits _ (Nat.le_succ _) hp h0

theorem free_fits_eq {n : Nat} (h : s.free = (n, t)) (hp : f.hasPart Part.fresh = true) (h0 : s0.Fits f s) : s0.Fits f t := by
  have k := free_fits hp h0
  rw [h] at k
  exact k

end Sys2Proof.Laws
end

