-- ==== Sys2Proof/Laws/FaultsFits.lean ====
section
/-! SUPPORT. Footprints of the operations of Machine/Faults.lean: one lemma for each, which says what it may touch and that it keeps what every command keeps. -/

set_option linter.unusedTactic false
set_option linter.unreachableTactic false

namespace Sys2Proof.Laws

open Sys2Proof.Machine

theorem loseRec_fits {g : Foot} {s0 : State} (s : State) (hle : (Foot.of [0x70, 0x71] [.evr]).le g = true) (h0 : s0.Fits g s) : s0.Fits g (State.loseRec s) := by
  refine fits_app hle ?_ h0
  unfold State.loseRec
  repeat' first
    | ((with_reducible refine side_ok ?_); exact rfl)
    | with_reducible assumption
    | ((with_reducible refine keep_goal ?_); exact keep_refl)
    | with_reducible exact fits_refl _ _
    | (extract_lets +onlyGivenNames x
       first
       | (refine fits_cut (p := State.Fits (Foot.of [0x70, 0x71] [.evr]) s x) ?_ ?_; rotate_left; intro hx; clear_value x; rotate_left; subst x)
       | (refine part_cut (α := type_of% x) (by constructor) ?_; subst x)
       | clear_value x)
    | with_reducible apply put_fits
    | with_reducible apply evt_fits
    | with_reducible apply incSat_fits
    | with_reducible apply withEvr_fits
    | with_reducible apply withEvr_fits
    | split

theorem queueRec_fits {g : Foot} {s0 : State} (s : State) (r : EvRec) (hle : (Foot.of [0x70, 0x71] [.evr]).le g = true) (h0 : s0.Fits g s) : s0.Fits g (State.queueRec s r) := by
  refine fits_app hle ?_ h0
  unfold State.queueRec
  repeat' first
    | ((with_reducible refine side_ok ?_); exact rfl)
    | with_reducible assumption
    | ((with_reducible refine keep_goal ?_); exact keep_refl)
    | with_reducible exact fits_refl _ _
    | (extract_lets +onlyGivenNames x
       first
       | (refine fits_cut (p := State.Fits (Foot.of [0x70, 0x71] [.evr]) s x) ?_ ?_; rotate_left; intro hx; clear_value x; rotate_left; subst x)
       | (refine part_cut (α := type_of% x) (by constructor) ?_; subst x)
       | clear_value x)
    | with_reducible apply loseRec_fits
    | with_reducible apply withEvr_fits
    | with_reducible apply withEvr_fits
    | split

theorem closeTracker_fits {g : Foot} {s0 : State} (s : State) (t : Tracker) (hle : (Foot.of [0x70, 0x71] [.evr]).le g = true) (h0 : s0.Fits g s) : s0.Fits g (State.closeTracker s t) := by
  refine fits_app hle ?_ h0
  unfold State.closeTracker
  repeat' first
    | ((with_reducible refine side_ok ?_); exact rfl)
    | with_reducible assumption
    | ((with_reducible refine keep_goal ?_); exact keep_refl)
    | with_reducible exact fits_refl _ _
    | (extract_lets +onlyGivenNames x
       first
       | (refine fits_cut (p := State.Fits (Foot.of [0x70, 0x71] [.evr]) s x) ?_ ?_; rotate_left; intro hx; clear_value x; rotate_left; subst x)
       | (refine part_cut (α := type_of% x) (by constructor) ?_; subst x)
       | clear_value x)
    | with_reducible apply queueRec_fits
    | with_reducible apply withEvr_fits
    | with_reducible apply withEvr_fits
    | split

theorem record_fits {g : Foot} {s0 : State} (s : State) (r : EvRec) (hle : (Foot.of [0x70, 0x71] [.evr]).le g = true) (h0 : s0.Fits g s) : s0.Fits g (State.record s r).2 := by
  refine fits_app hle ?_ h0
  unfold State.record
  repeat' first
    | ((with_reducible refine side_ok ?_); exact rfl)
    | with_reducible assumption
    | ((with_reducible refine keep_goal ?_); exact keep_refl)
    | with_reducible exact fits_refl _ _
    | (extract_lets +onlyGivenNames x
       first
       | (refine fits_cut (p := State.Fits (Foot.of [0x70, 0x71] [.evr]) s x) ?_ ?_; rotate_left; intro hx; clear_value x; rotate_left; subst x)
       | (refine part_cut (α := type_of% x) (by constructor) ?_; subst x)
       | clear_value x)
    | with_reducible apply closeTracker_fits
    | with_reducible apply queueRec_fits
    | with_reducible apply withEvr_fits
    | with_reducible apply withEvr_fits
    | split

theorem record_fits_eq {g : Foot} {s0 : State} {s : State} {r : EvRec} {t : State} {r0 : Bool} (h : (State.record s r) = (r0, t)) (hle : (Foot.of [0x70, 0x71] [.evr]).le g = true) (h0 : s0.Fits g s) : s0.Fits g t := by
  have k := record_fits s r hle h0
  rw [h] at k
  exact k

theorem event_fits {g : Foot} {s0 : State} (s : State) (code : Nat) (data : List Byte) (hle : (Foot.of [0x70, 0x71] [.evr]).le g = true) (h0 : s0.Fits g s) : s0.Fits g (State.event s code data) := by
  refine fits_app hle ?_ h0
  unfold State.event
  repeat' first
    | ((with_reducible refine side_ok ?_); exact rfl)
    | with_reducible assumption
    | ((with_reducible refine keep_goal ?_); exact keep_refl)
    | with_reducible exact fits_refl _ _
    | (extract_lets +onlyGivenNames x
       first
       | (refine fits_cut (p := State.Fits (Foot.of [0x70, 0x71] [.evr]) s x) ?_ ?_; rotate_left; intro hx; clear_value x; rotate_left; subst x)
       | (refine part_cut (α := type_of% x) (by constructor) ?_; subst x)
       | clear_value x)
    | with_reducible refine record_fits_eq (by assumption) ?_ ?_
    | with_reducible apply record_fits
    | split

theorem setOh_fits {g : Foot} {s0 : State} (s : State) (v : Nat) (hle : (Foot.of [0x71] []).le g = true) (h0 : s0.Fits g s) : s0.Fits g (State.setOh s v) := by
  refine fits_app hle ?_ h0
  unfold State.setOh
  repeat' first
    | ((with_reducible refine side_ok ?_); exact rfl)
    | with_reducible assumption
    | ((with_reducible refine keep_goal ?_); exact keep_refl)
    | with_reducible exact fits_refl _ _
    | (extract_lets +onlyGivenNames x
       first
       | (refine fits_cut (p := State.Fits (Foot.of [0x71] []) s x) ?_ ?_; rotate_left; intro hx; clear_value x; rotate_left; subst x)
       | (refine part_cut (α := type_of% x) (by constructor) ?_; subst x)
       | clear_value x)
    | with_reducible apply put_fits
    | split

theorem modLane_fits {g : Foot} {s0 : State} (s : State) (n : Nat) (f : Lane → Lane) (hle : (Foot.of [] [.lanes]).le g = true) (h0 : s0.Fits g s) : s0.Fits g (State.modLane s n f) := by
  refine fits_app hle ?_ h0
  unfold State.modLane
  repeat' first
    | ((with_reducible refine side_ok ?_); exact rfl)
    | with_reducible assumption
    | ((with_reducible refine keep_goal ?_); exact keep_refl)
    | ((with_reducible refine keep_ok ?_); intro h; simpa [Saf.shaped, Quartz.shaped, Cmd.shaped, Glare.shaped, Gov.shaped, Cal.shaped, Flx.shaped, Fus.shaped, Upd.shaped] using h)
    | with_reducible exact fits_refl _ _
    | (extract_lets +onlyGivenNames x
       first
       | (refine fits_cut (p := State.Fits (Foot.of [] [.lanes]) s x) ?_ ?_; rotate_left; intro hx; clear_value x; rotate_left; subst x)
       | (refine part_cut (α := type_of% x) (by constructor) ?_; subst x)
       | clear_value x)
    | with_reducible apply withLanes_fits
    | with_reducible apply withLanes_fits
    | split

theorem laneOff_fits {g : Foot} {s0 : State} (s : State) (n : Nat) (hle : (Foot.of [0x50] [.lanes]).le g = true) (h0 : s0.Fits g s) : s0.Fits g (State.laneOff s n) := by
  refine fits_app hle ?_ h0
  unfold State.laneOff
  repeat' first
    | ((with_reducible refine side_ok ?_); exact rfl)
    | with_reducible assumption
    | ((with_reducible refine keep_goal ?_); exact keep_refl)
    | with_reducible exact fits_refl _ _
    | (extract_lets +onlyGivenNames x
       first
       | (refine fits_cut (p := State.Fits (Foot.of [0x50] [.lanes]) s x) ?_ ?_; rotate_left; intro hx; clear_value x; rotate_left; subst x)
       | (refine part_cut (α := type_of% x) (by constructor) ?_; subst x)
       | clear_value x)
    | with_reducible apply put_fits
    | with_reducible apply modLane_fits
    | ((with_reducible refine side_ok ?_); exact tl_unit rfl)
    | split

theorem soutLow_fits {g : Foot} {s0 : State} (s : State) (k : Nat) (hle : (Foot.of [0x50, 0x68] [.saf, .lanes]).le g = true) (h0 : s0.Fits g s) : s0.Fits g (State.soutLow s k) := by
  refine fits_app hle ?_ h0
  unfold State.soutLow
  repeat' first
    | ((with_reducible refine side_ok ?_); exact rfl)
    | with_reducible assumption
    | ((with_reducible refine keep_goal ?_); exact keep_refl)
    | ((with_reducible refine keep_ok ?_); intro h; simpa [Saf.shaped, Quartz.shaped, Cmd.shaped, Glare.shaped, Gov.shaped, Cal.shaped, Flx.shaped, Fus.shaped, Upd.shaped] using h)
    | with_reducible exact fits_refl _ _
    | (extract_lets +onlyGivenNames x
       first
       | (refine fits_cut (p := State.Fits (Foot.of [0x50, 0x68] [.saf, .lanes]) s x) ?_ ?_; rotate_left; intro hx; clear_value x; rotate_left; subst x)
       | (refine part_cut (α := type_of% x) (by constructor) ?_; subst x)
       | clear_value x)
    | with_reducible refine fits_foldl _ _ (fun x hx u hu => ?_) ?_
    | with_reducible apply put_fits
    | with_reducible apply laneOff_fits
    | with_reducible apply withSaf_fits
    | with_reducible apply withSaf_fits
    | split

theorem soutsOff_fits {g : Foot} {s0 : State} (s : State) (hle : (Foot.of [0x50, 0x68] [.saf, .lanes]).le g = true) (h0 : s0.Fits g s) : s0.Fits g (State.soutsOff s) := by
  refine fits_app hle ?_ h0
  unfold State.soutsOff
  repeat' first
    | ((with_reducible refine side_ok ?_); exact rfl)
    | with_reducible assumption
    | ((with_reducible refine keep_goal ?_); exact keep_refl)
    | with_reducible exact fits_refl _ _
    | (extract_lets +onlyGivenNames x
       first
       | (refine fits_cut (p := State.Fits (Foot.of [0x50, 0x68] [.saf, .lanes]) s x) ?_ ?_; rotate_left; intro hx; clear_value x; rotate_left; subst x)
       | (refine part_cut (α := type_of% x) (by constructor) ?_; subst x)
       | clear_value x)
    | with_reducible apply put_fits
    | with_reducible apply soutLow_fits
    | split

theorem recordReact_fits {g : Foot} {s0 : State} (s : State) (code : Nat) (detail : Nat) (hle : (Foot.of [0x70, 0x71] [.evr]).le g = true) (h0 : s0.Fits g s) : s0.Fits g (State.recordReact s code detail) := by
  refine fits_app hle ?_ h0
  unfold State.recordReact
  repeat' first
    | ((with_reducible refine side_ok ?_); exact rfl)
    | with_reducible assumption
    | ((with_reducible refine keep_goal ?_); exact keep_refl)
    | with_reducible exact fits_refl _ _
    | (extract_lets +onlyGivenNames x
       first
       | (refine fits_cut (p := State.Fits (Foot.of [0x70, 0x71] [.evr]) s x) ?_ ?_; rotate_left; intro hx; clear_value x; rotate_left; subst x)
       | (refine part_cut (α := type_of% x) (by constructor) ?_; subst x)
       | clear_value x)
    | with_reducible apply event_fits
    | split

theorem trigger_fits {g : Foot} {s0 : State} (s : State) (code : Nat) (detail : Nat) (hle : (Foot.of [0x40, 0x50, 0x68, 0x70, 0x71] [.evr, .saf, .lanes]).le g = true) (h0 : s0.Fits g s) : s0.Fits g (State.trigger s code detail) := by
  refine fits_app hle ?_ h0
  unfold State.trigger
  repeat' first
    | ((with_reducible refine side_ok ?_); exact rfl)
    | with_reducible assumption
    | ((with_reducible refine keep_goal ?_); exact keep_refl)
    | with_reducible exact fits_refl _ _
    | (extract_lets +onlyGivenNames x
       first
       | (refine fits_cut (p := State.Fits (Foot.of [0x40, 0x50, 0x68, 0x70, 0x71] [.evr, .saf, .lanes]) s x) ?_ ?_; rotate_left; intro hx; clear_value x; rotate_left; subst x)
       | (refine part_cut (α := type_of% x) (by constructor) ?_; subst x)
       | clear_value x)
    | with_reducible apply put_fits
    | with_reducible apply evt_fits
    | with_reducible apply inc_fits
    | with_reducible apply incSat_fits
    | with_reducible apply recordReact_fits
    | with_reducible apply soutsOff_fits
    | with_reducible apply withSaf_fits
    | with_reducible apply withSaf_fits
    | split

theorem flintTrigger_fits {g : Foot} {s0 : State} (s : State) (i : Nat) (code : Nat) (detail : Nat) (hle : (Foot.of [0x40, 0x50, 0x68, 0x70, 0x71] [.evr, .saf, .lanes]).le g = true) (h0 : s0.Fits g s) : s0.Fits g (State.flintTrigger s i code detail) := by
  refine fits_app hle ?_ h0
  unfold State.flintTrigger
  repeat' first
    | ((with_reducible refine side_ok ?_); exact rfl)
    | with_reducible assumption
    | ((with_reducible refine keep_goal ?_); exact keep_refl)
    | with_reducible exact fits_refl _ _
    | (extract_lets +onlyGivenNames x
       first
       | (refine fits_cut (p := State.Fits (Foot.of [0x40, 0x50, 0x68, 0x70, 0x71] [.evr, .saf, .lanes]) s x) ?_ ?_; rotate_left; intro hx; clear_value x; rotate_left; subst x)
       | (refine part_cut (α := type_of% x) (by constructor) ?_; subst x)
       | clear_value x)
    | with_reducible apply trigger_fits
    | with_reducible apply withSaf_fits
    | with_reducible apply withSaf_fits
    | split

theorem flintResume_fits {g : Foot} {s0 : State} (s : State) (hle : (Foot.of [0x40, 0x50, 0x68, 0x70, 0x71] [.evr, .saf, .lanes]).le g = true) (h0 : s0.Fits g s) : s0.Fits g (State.flintResume s) := by
  refine fits_app hle ?_ h0
  unfold State.flintResume
  repeat' first
    | ((with_reducible refine side_ok ?_); exact rfl)
    | with_reducible assumption
    | ((with_reducible refine keep_goal ?_); exact keep_refl)
    | with_reducible exact fits_refl _ _
    | (extract_lets +onlyGivenNames x
       first
       | (refine fits_cut (p := State.Fits (Foot.of [0x40, 0x50, 0x68, 0x70, 0x71] [.evr, .saf, .lanes]) s x) ?_ ?_; rotate_left; intro hx; clear_value x; rotate_left; subst x)
       | (refine part_cut (α := type_of% x) (by constructor) ?_; subst x)
       | clear_value x)
    | with_reducible refine fits_foldl _ _ (fun x hx u hu => ?_) ?_
    | with_reducible apply flintTrigger_fits
    | with_reducible apply withSaf_fits
    | with_reducible apply withSaf_fits
    | split

theorem history_fits {g : Foot} {s0 : State} (s : State) (code : Nat) (eff : Nat) (esc : Bool) (conseq : Bool) (inj : Bool) (hle : (Foot.of [0x70] []).le g = true) (h0 : s0.Fits g s) : s0.Fits g (State.history s code eff esc conseq inj) := by
  refine fits_app hle ?_ h0
  unfold State.history
  repeat' first
    | ((with_reducible refine side_ok ?_); exact rfl)
    | with_reducible assumption
    | ((with_reducible refine keep_goal ?_); exact keep_refl)
    | with_reducible exact fits_refl _ _
    | (extract_lets +onlyGivenNames x
       first
       | (refine fits_cut (p := State.Fits (Foot.of [0x70] []) s x) ?_ ?_; rotate_left; intro hx; clear_value x; rotate_left; subst x)
       | (refine part_cut (α := type_of% x) (by constructor) ?_; subst x)
       | clear_value x)
    | with_reducible apply put_fits
    | with_reducible apply inc_fits
    | split

/-- UNIT_IRQ_STAT.FAULT changes in SYS and in the pages named. -/
theorem faultIrq_fits {f : Foot} {s0 : State} (old s : State) (pages : List Nat) (hp : ∀ p ∈ pages, f.hasUnit (groupPage p) = true)
    (h : f.hasUnit 0 = true) (h0 : s0.Fits f s) : s0.Fits f (State.faultIrq old s pages) := by
  unfold State.faultIrq
  extract_lets x
  refine fits_cut (p := State.Fits f s0 x) ?_ ?_
  · subst x
    refine fits_foldl _ _ (fun p hm u hu => ?_) h0
    split
    · exact hu
    · exact put_fits _ (hp p hm) hu
  · intro hx
    split
    · exact hx
    · exact put_fits _ h hx

/-- A source becomes pending: FLT, and UNIT_IRQ_STAT of its unit and of SYS. -/
theorem setPending_fits {g : Foot} {s0 : State} (s : State) (i inst eff : Nat) (esc inj : Bool) (hq : g.hasUnit (groupPage (srcPage i inst)) = true)
    (hle : (Foot.of [0x00, 0x70] [.flt]).le g = true) (h0 : s0.Fits g s) : s0.Fits g (s.setPending i inst eff esc inj) := by
  unfold State.setPending
  extract_lets old was f st x y q
  refine faultIrq_fits _ _ _ (fun p hp => ?_) (unit_via rfl hle) (put_fits _ (unit_via rfl hle) (put_fits _ (unit_via rfl hle) (put_fits _ (unit_via rfl hle) ?_)))
  · have hg : groupPage p = groupPage q := by
      split at hp
      · rw [List.mem_singleton.1 hp]
      · rcases List.mem_cons.1 hp with hp | hp
        · rw [hp, groupPage_group]
        · rw [List.mem_singleton.1 hp]
    rw [hg]; exact hq
  · exact withFlt_fits _ (part_via rfl hle) h0

theorem alarmLevel_fits {g : Foot} {s0 : State} (s : State) (eff : Nat) (hle : (Foot.of [0x70] []).le g = true) (h0 : s0.Fits g s) : s0.Fits g (State.alarmLevel s eff) := by
  refine fits_app hle ?_ h0
  unfold State.alarmLevel
  repeat' first
    | ((with_reducible refine side_ok ?_); exact rfl)
    | with_reducible assumption
    | ((with_reducible refine keep_goal ?_); exact keep_refl)
    | with_reducible exact fits_refl _ _
    | (extract_lets +onlyGivenNames x
       first
       | (refine fits_cut (p := State.Fits (Foot.of [0x70] []) s x) ?_ ?_; rotate_left; intro hx; clear_value x; rotate_left; subst x)
       | (refine part_cut (α := type_of% x) (by constructor) ?_; subst x)
       | clear_value x)
    | with_reducible apply put_fits
    | split

theorem raiseWith_fits {g : Foot} {s0 : State} (s : State) (i : Nat) (inst : Nat) (addr : Nat) (inj : Bool) (trig : Bool) (hq : g.hasUnit (groupPage (srcPage i inst)) = true) (hle : (Foot.of [0x00, 0x40, 0x50, 0x68, 0x70, 0x71] [.flt, .evr, .saf, .lanes]).le g = true) (h0 : s0.Fits g s) : s0.Fits g (State.raiseWith s i inst addr inj trig) := by
  unfold State.raiseWith
  repeat' first
    | with_reducible assumption
    | ((with_reducible refine keep_goal ?_); exact keep_refl)
    | ((with_reducible refine side_ok ?_); first | exact unit_via rfl hle | exact part_via rfl hle | exact le_via rfl hle)
    | with_reducible exact fits_refl _ _
    | (extract_lets +onlyGivenNames x
       first
       | (refine fits_cut (p := State.Fits g s0 x) ?_ ?_; rotate_left; intro hx; clear_value x; rotate_left; subst x)
       | (refine part_cut (α := type_of% x) (by constructor) ?_; subst x)
       | clear_value x)
    | with_reducible apply put_fits
    | with_reducible apply incSat_fits
    | with_reducible apply alarmLevel_fits
    | with_reducible apply flintTrigger_fits
    | with_reducible apply history_fits
    | with_reducible refine record_fits_eq (by assumption) ?_ ?_
    | with_reducible apply record_fits
    | with_reducible apply setPending_fits
    | with_reducible apply withFlt_fits
    | with_reducible apply withFlt_fits
    | split

theorem raise_fits {g : Foot} {s0 : State} (s : State) (i : Nat) (inst : Nat) (hq : g.hasUnit (groupPage (srcPage i inst)) = true) (hle : (Foot.of [0x00, 0x40, 0x50, 0x68, 0x70, 0x71] [.flt, .evr, .saf, .lanes]).le g = true) (h0 : s0.Fits g s) : s0.Fits g (State.raise s i inst) := by
  unfold State.raise
  repeat' first
    | with_reducible assumption
    | ((with_reducible refine keep_goal ?_); exact keep_refl)
    | ((with_reducible refine side_ok ?_); first | exact unit_via rfl hle | exact part_via rfl hle | exact le_via rfl hle)
    | with_reducible exact fits_refl _ _
    | (extract_lets +onlyGivenNames x
       first
       | (refine fits_cut (p := State.Fits g s0 x) ?_ ?_; rotate_left; intro hx; clear_value x; rotate_left; subst x)
       | (refine part_cut (α := type_of% x) (by constructor) ?_; subst x)
       | clear_value x)
    | with_reducible apply raiseWith_fits
    | ((with_reducible refine side_ok ?_); exact tl_unit rfl)
    | ((with_reducible refine side_ok ?_); exact be_unit rfl)
    | ((with_reducible refine side_ok ?_); exact lay_unit rfl)
    | ((with_reducible refine side_ok ?_); exact crc_unit rfl)
    | ((with_reducible refine side_ok ?_); exact lnk_unit rfl)
    | split

theorem raiseTrig_fits {g : Foot} {s0 : State} (s : State) (i : Nat) (inst : Nat) (code : Nat) (detail : Nat) (flint : Bool) (hq : g.hasUnit (groupPage (srcPage i inst)) = true) (hle : (Foot.of [0x00, 0x40, 0x50, 0x68, 0x70, 0x71] [.flt, .evr, .saf, .lanes]).le g = true) (h0 : s0.Fits g s) : s0.Fits g (State.raiseTrig s i inst code detail flint) := by
  unfold State.raiseTrig
  repeat' first
    | with_reducible assumption
    | ((with_reducible refine keep_goal ?_); exact keep_refl)
    | ((with_reducible refine side_ok ?_); first | exact unit_via rfl hle | exact part_via rfl hle | exact le_via rfl hle)
    | with_reducible exact fits_refl _ _
    | (extract_lets +onlyGivenNames x
       first
       | (refine fits_cut (p := State.Fits g s0 x) ?_ ?_; rotate_left; intro hx; clear_value x; rotate_left; subst x)
       | (refine part_cut (α := type_of% x) (by constructor) ?_; subst x)
       | clear_value x)
    | with_reducible apply flintTrigger_fits
    | with_reducible apply raiseWith_fits
    | with_reducible apply trigger_fits
    | ((with_reducible refine side_ok ?_); exact tl_unit rfl)
    | ((with_reducible refine side_ok ?_); exact be_unit rfl)
    | ((with_reducible refine side_ok ?_); exact lay_unit rfl)
    | ((with_reducible refine side_ok ?_); exact crc_unit rfl)
    | ((with_reducible refine side_ok ?_); exact lnk_unit rfl)
    | split

theorem condEndAll_fits {g : Foot} {s0 : State} (s : State) (i : Nat) (hle : (Foot.of [] [.flt]).le g = true) (h0 : s0.Fits g s) : s0.Fits g (State.condEndAll s i) := by
  refine fits_app hle ?_ h0
  unfold State.condEndAll
  repeat' first
    | ((with_reducible refine side_ok ?_); exact rfl)
    | with_reducible assumption
    | ((with_reducible refine keep_goal ?_); exact keep_refl)
    | with_reducible exact fits_refl _ _
    | (extract_lets +onlyGivenNames x
       first
       | (refine fits_cut (p := State.Fits (Foot.of [] [.flt]) s x) ?_ ?_; rotate_left; intro hx; clear_value x; rotate_left; subst x)
       | (refine part_cut (α := type_of% x) (by constructor) ?_; subst x)
       | clear_value x)
    | with_reducible apply withFlt_fits
    | with_reducible apply withFlt_fits
    | split

theorem condEnd_fits {g : Foot} {s0 : State} (s : State) (i : Nat) (inst : Nat) (hle : (Foot.of [] [.flt]).le g = true) (h0 : s0.Fits g s) : s0.Fits g (State.condEnd s i inst) := by
  refine fits_app hle ?_ h0
  unfold State.condEnd
  repeat' first
    | ((with_reducible refine side_ok ?_); exact rfl)
    | with_reducible assumption
    | ((with_reducible refine keep_goal ?_); exact keep_refl)
    | with_reducible exact fits_refl _ _
    | (extract_lets +onlyGivenNames x
       first
       | (refine fits_cut (p := State.Fits (Foot.of [] [.flt]) s x) ?_ ?_; rotate_left; intro hx; clear_value x; rotate_left; subst x)
       | (refine part_cut (α := type_of% x) (by constructor) ?_; subst x)
       | clear_value x)
    | with_reducible apply withFlt_fits
    | with_reducible apply withFlt_fits
    | split

theorem conseq_fits {g : Foot} {s0 : State} (s : State) (i : Nat) (inst : Nat) (addr : Nat) (hle : (Foot.of [0x02, 0x70, 0x71] [.evr]).le g = true) (h0 : s0.Fits g s) : s0.Fits g (State.conseq s i inst addr) := by
  refine fits_app hle ?_ h0
  unfold State.conseq
  repeat' first
    | ((with_reducible refine side_ok ?_); exact rfl)
    | with_reducible assumption
    | ((with_reducible refine keep_goal ?_); exact keep_refl)
    | with_reducible exact fits_refl _ _
    | (extract_lets +onlyGivenNames x
       first
       | (refine fits_cut (p := State.Fits (Foot.of [0x02, 0x70, 0x71] [.evr]) s x) ?_ ?_; rotate_left; intro hx; clear_value x; rotate_left; subst x)
       | (refine part_cut (α := type_of% x) (by constructor) ?_; subst x)
       | clear_value x)
    | with_reducible apply incSat_fits
    | with_reducible apply history_fits
    | with_reducible refine record_fits_eq (by assumption) ?_ ?_
    | with_reducible apply record_fits
    | split

theorem detect_fits {g : Foot} {s0 : State} (s : State) (pages : List Nat) (i : Nat) (inst : Nat) (addr : Nat) (inj : Bool) (hq : g.hasUnit (groupPage (srcPage i inst)) = true) (hle : (Foot.of [0x00, 0x02, 0x40, 0x50, 0x68, 0x70, 0x71] [.flt, .evr, .saf, .lanes]).le g = true) (h0 : s0.Fits g s) : s0.Fits g (State.detect s pages i inst addr inj) := by
  unfold State.detect
  repeat' first
    | with_reducible assumption
    | ((with_reducible refine keep_goal ?_); exact keep_refl)
    | ((with_reducible refine side_ok ?_); first | exact unit_via rfl hle | exact part_via rfl hle | exact le_via rfl hle)
    | with_reducible exact fits_refl _ _
    | (extract_lets +onlyGivenNames x
       first
       | (refine fits_cut (p := State.Fits g s0 x) ?_ ?_; rotate_left; intro hx; clear_value x; rotate_left; subst x)
       | (refine part_cut (α := type_of% x) (by constructor) ?_; subst x)
       | clear_value x)
    | with_reducible apply conseq_fits
    | with_reducible apply raiseWith_fits
    | ((with_reducible refine side_ok ?_); exact tl_unit rfl)
    | ((with_reducible refine side_ok ?_); exact be_unit rfl)
    | ((with_reducible refine side_ok ?_); exact lay_unit rfl)
    | ((with_reducible refine side_ok ?_); exact crc_unit rfl)
    | ((with_reducible refine side_ok ?_); exact lnk_unit rfl)
    | split

theorem consumeInj_fits {g : Foot} {s0 : State} (s : State) (i : Nat) (hle : (Foot.of [0x70] []).le g = true) (h0 : s0.Fits g s) : s0.Fits g (State.consumeInj s i) := by
  refine fits_app hle ?_ h0
  unfold State.consumeInj
  repeat' first
    | ((with_reducible refine side_ok ?_); exact rfl)
    | with_reducible assumption
    | ((with_reducible refine keep_goal ?_); exact keep_refl)
    | with_reducible exact fits_refl _ _
    | (extract_lets +onlyGivenNames x
       first
       | (refine fits_cut (p := State.Fits (Foot.of [0x70] []) s x) ?_ ?_; rotate_left; intro hx; clear_value x; rotate_left; subst x)
       | (refine part_cut (α := type_of% x) (by constructor) ?_; subst x)
       | clear_value x)
    | with_reducible apply put_fits
    | with_reducible apply evt_fits
    | with_reducible apply incSat_fits
    | split

theorem ackSource_fits {g : Foot} {s0 : State} (s : State) (i : Nat) (hle : (Foot.of [0x70] []).le g = true) (h0 : s0.Fits g s) : s0.Fits g (State.ackSource s i) := by
  refine fits_app hle ?_ h0
  unfold State.ackSource
  repeat' first
    | ((with_reducible refine side_ok ?_); exact rfl)
    | with_reducible assumption
    | ((with_reducible refine keep_goal ?_); exact keep_refl)
    | with_reducible exact fits_refl _ _
    | (extract_lets +onlyGivenNames x
       first
       | (refine fits_cut (p := State.Fits (Foot.of [0x70] []) s x) ?_ ?_; rotate_left; intro hx; clear_value x; rotate_left; subst x)
       | (refine part_cut (α := type_of% x) (by constructor) ?_; subst x)
       | clear_value x)
    | with_reducible apply put_fits
    | split

theorem clearSource_fits {g : Foot} {s0 : State} (s : State) (i : Nat) (hle : (Foot.of [0x70, 0x71] [.flt, .evr]).le g = true) (h0 : s0.Fits g s) : s0.Fits g (State.clearSource s i) := by
  refine fits_app hle ?_ h0
  unfold State.clearSource
  repeat' first
    | ((with_reducible refine side_ok ?_); exact rfl)
    | with_reducible assumption
    | ((with_reducible refine keep_goal ?_); exact keep_refl)
    | with_reducible exact fits_refl _ _
    | (extract_lets +onlyGivenNames x
       first
       | (refine fits_cut (p := State.Fits (Foot.of [0x70, 0x71] [.flt, .evr]) s x) ?_ ?_; rotate_left; intro hx; clear_value x; rotate_left; subst x)
       | (refine part_cut (α := type_of% x) (by constructor) ?_; subst x)
       | clear_value x)
    | with_reducible apply put_fits
    | with_reducible apply evt_fits
    | with_reducible apply event_fits
    | with_reducible apply withFlt_fits
    | with_reducible apply withFlt_fits
    | split

theorem begin_fits {g : Foot} {s0 : State} (s : State) (hle : (Foot.of [] [.flt, .saf]).le g = true) (h0 : s0.Fits g s) : s0.Fits g (State.begin s) := by
  refine fits_app hle ?_ h0
  unfold State.begin
  repeat' first
    | ((with_reducible refine side_ok ?_); exact rfl)
    | with_reducible assumption
    | ((with_reducible refine keep_goal ?_); exact keep_refl)
    | with_reducible exact fits_refl _ _
    | (extract_lets +onlyGivenNames x
       first
       | (refine fits_cut (p := State.Fits (Foot.of [] [.flt, .saf]) s x) ?_ ?_; rotate_left; intro hx; clear_value x; rotate_left; subst x)
       | (refine part_cut (α := type_of% x) (by constructor) ?_; subst x)
       | clear_value x)
    | with_reducible apply withFlt_fits
    | with_reducible apply withSaf_fits
    | with_reducible apply withFlt_fits
    | with_reducible apply withSaf_fits
    | split

end Sys2Proof.Laws
end

