-- ==== Sys2Proof/Laws/ResetFits.lean ====
section
/-! SUPPORT. Footprints of the operations of Machine/Reset.lean: one lemma for each, which says what it may touch and that it keeps what every command keeps. -/

set_option linter.unusedTactic false
set_option linter.unreachableTactic false

namespace Sys2Proof.Laws

open Sys2Proof.Machine

theorem senseRows_fits {g : Foot} {s0 : State} (s : State) (hle : (Foot.of [0x02, 0x40, 0x78, 0x7A, 0x80, 0x81] []).le g = true) (h0 : s0.Fits g s) : s0.Fits g (State.senseRows s) := by
  refine fits_app hle ?_ h0
  unfold State.senseRows
  repeat' first
    | (extract_lets +onlyGivenNames x
       first
       | (refine fits_cut (p := State.Fits (Foot.of [0x02, 0x40, 0x78, 0x7A, 0x80, 0x81] []) s x) ?_ ?_; rotate_left; intro hx; clear_value x; rotate_left; subst x)
       | (refine part_cut (α := type_of% x) (by constructor) ?_; subst x)
       | clear_value x
       | subst x)
    | ((with_reducible refine side_ok ?_); exact rfl)
    | with_reducible assumption
    | ((with_reducible refine keep_goal ?_); exact keep_refl)
    | with_reducible exact fits_refl _ _
    | with_reducible apply put_fits
    | split

theorem senseFuses_fits {g : Foot} {s0 : State} (s : State) (hle : (Foot.of [0x02, 0x40, 0x78, 0x7A, 0x80, 0x81] []).le g = true) (h0 : s0.Fits g s) : s0.Fits g (State.senseFuses s) := by
  refine fits_app hle ?_ h0
  unfold State.senseFuses
  repeat' first
    | (extract_lets +onlyGivenNames x
       first
       | (refine fits_cut (p := State.Fits (Foot.of [0x02, 0x40, 0x78, 0x7A, 0x80, 0x81] []) s x) ?_ ?_; rotate_left; intro hx; clear_value x; rotate_left; subst x)
       | (refine part_cut (α := type_of% x) (by constructor) ?_; subst x)
       | clear_value x
       | subst x)
    | ((with_reducible refine side_ok ?_); exact rfl)
    | with_reducible assumption
    | ((with_reducible refine keep_goal ?_); exact keep_refl)
    | with_reducible exact fits_refl _ _
    | with_reducible apply put_fits
    | with_reducible apply senseRows_fits
    | split

/-- A bit that is programmed adds to its row and takes nothing from any. -/
theorem fusesKept_set (s : State) (row b : Nat) : s.FusesKept (s.withFus { s.fus with rows := s.fus.rows.set row (s.fuse row ||| 2 ^ b) }) := by
  intro r i h
  simp only [State.fuse, State.withFus, List.getD_eq_getElem?_getD, List.getElem?_set, tbit] at h ⊢
  split
  · next hr =>
    subst hr
    by_cases hl : row < s.fus.rows.length
    · simp only [hl, if_pos, Option.getD_some] at h ⊢
      simp [Nat.testBit_or, h]
    · rw [List.getElem?_eq_none (by omega)] at h
      simp at h
  · exact h

theorem program_fits {g : Foot} {s0 : State} (s : State) (row : Nat) (b : Nat) (hle : (Foot.of [0x02, 0x40, 0x78, 0x7A, 0x80, 0x81] [.fus]).le g = true) (h0 : s0.Fits g s) : s0.Fits g (s.program row b) := by
  unfold State.program
  exact senseRows_fits _ (le_via rfl hle) (withFus_fits _ (fusesKept_set s row b) (by simp [Keep, Fus.shaped]) (part_via rfl hle) h0)

theorem jput_fits {g : Foot} {s0 : State} (s : State) (o : Nat) (n : Nat) (v : Nat) (hle : (Foot.of [] [.mem]).le g = true) (h0 : s0.Fits g s) : s0.Fits g (State.jput s o n v) := by
  refine fits_app hle ?_ h0
  unfold State.jput
  repeat' first
    | (extract_lets +onlyGivenNames x
       first
       | (refine fits_cut (p := State.Fits (Foot.of [] [.mem]) s x) ?_ ?_; rotate_left; intro hx; clear_value x; rotate_left; subst x)
       | (refine part_cut (α := type_of% x) (by constructor) ?_; subst x)
       | clear_value x
       | subst x)
    | ((with_reducible refine side_ok ?_); exact rfl)
    | with_reducible assumption
    | ((with_reducible refine keep_goal ?_); exact keep_refl)
    | with_reducible exact fits_refl _ _
    | with_reducible apply setBytes_fits
    | split

theorem jseal_fits {g : Foot} {s0 : State} (s : State) (hle : (Foot.of [] [.mem]).le g = true) (h0 : s0.Fits g s) : s0.Fits g (State.jseal s) := by
  refine fits_app hle ?_ h0
  unfold State.jseal
  repeat' first
    | (extract_lets +onlyGivenNames x
       first
       | (refine fits_cut (p := State.Fits (Foot.of [] [.mem]) s x) ?_ ?_; rotate_left; intro hx; clear_value x; rotate_left; subst x)
       | (refine part_cut (α := type_of% x) (by constructor) ?_; subst x)
       | clear_value x
       | subst x)
    | ((with_reducible refine side_ok ?_); exact rfl)
    | with_reducible assumption
    | ((with_reducible refine keep_goal ?_); exact keep_refl)
    | with_reducible exact fits_refl _ _
    | with_reducible apply jput_fits
    | split

theorem defer_fits {g : Foot} {s0 : State} (s : State) (d : Deferred) (hle : (Foot.of [] [.thm]).le g = true) (h0 : s0.Fits g s) : s0.Fits g (State.defer s d) := by
  refine fits_app hle ?_ h0
  unfold State.defer
  repeat' first
    | (extract_lets +onlyGivenNames x
       first
       | (refine fits_cut (p := State.Fits (Foot.of [] [.thm]) s x) ?_ ?_; rotate_left; intro hx; clear_value x; rotate_left; subst x)
       | (refine part_cut (α := type_of% x) (by constructor) ?_; subst x)
       | clear_value x
       | subst x)
    | ((with_reducible refine side_ok ?_); exact rfl)
    | with_reducible assumption
    | ((with_reducible refine keep_goal ?_); exact keep_refl)
    | with_reducible exact fits_refl _ _
    | with_reducible apply withThm_fits
    | with_reducible apply withThm_fits
    | split

theorem journalFlash_fits {g : Foot} {s0 : State} (s : State) (hle : (Foot.of [] [.mem, .rst, .thm]).le g = true) (h0 : s0.Fits g s) : s0.Fits g (State.journalFlash s) := by
  refine fits_app hle ?_ h0
  unfold State.journalFlash
  repeat' first
    | (extract_lets +onlyGivenNames x
       first
       | (refine fits_cut (p := State.Fits (Foot.of [] [.mem, .rst, .thm]) s x) ?_ ?_; rotate_left; intro hx; clear_value x; rotate_left; subst x)
       | (refine part_cut (α := type_of% x) (by constructor) ?_; subst x)
       | clear_value x
       | subst x)
    | ((with_reducible refine side_ok ?_); exact rfl)
    | with_reducible assumption
    | ((with_reducible refine keep_goal ?_); exact keep_refl)
    | with_reducible exact fits_refl _ _
    | with_reducible apply setBytes_fits
    | with_reducible apply defer_fits
    | with_reducible apply withRst_fits
    | with_reducible apply withRst_fits
    | split

theorem newEntry_fits {g : Foot} {s0 : State} (s : State) (step : Nat) (result : Nat) (path : Nat) (detail : Nat) (hle : (Foot.of [] [.mem, .rst]).le g = true) (h0 : s0.Fits g s) : s0.Fits g (State.newEntry s step result path detail) := by
  refine fits_app hle ?_ h0
  unfold State.newEntry
  repeat' first
    | (extract_lets +onlyGivenNames x
       first
       | (refine fits_cut (p := State.Fits (Foot.of [] [.mem, .rst]) s x) ?_ ?_; rotate_left; intro hx; clear_value x; rotate_left; subst x)
       | (refine part_cut (α := type_of% x) (by constructor) ?_; subst x)
       | clear_value x
       | subst x)
    | ((with_reducible refine side_ok ?_); exact rfl)
    | with_reducible assumption
    | ((with_reducible refine keep_goal ?_); exact keep_refl)
    | with_reducible exact fits_refl _ _
    | with_reducible apply setBytes_fits
    | with_reducible apply withRst_fits
    | with_reducible apply withRst_fits
    | split

theorem endEntry_fits {g : Foot} {s0 : State} (s : State) (result : Nat) (path : Nat) (detail : Nat) (hle : (Foot.of [] [.mem, .rst]).le g = true) (h0 : s0.Fits g s) : s0.Fits g (State.endEntry s result path detail) := by
  refine fits_app hle ?_ h0
  unfold State.endEntry
  repeat' first
    | (extract_lets +onlyGivenNames x
       first
       | (refine fits_cut (p := State.Fits (Foot.of [] [.mem, .rst]) s x) ?_ ?_; rotate_left; intro hx; clear_value x; rotate_left; subst x)
       | (refine part_cut (α := type_of% x) (by constructor) ?_; subst x)
       | clear_value x
       | subst x)
    | ((with_reducible refine side_ok ?_); exact rfl)
    | with_reducible assumption
    | ((with_reducible refine keep_goal ?_); exact keep_refl)
    | with_reducible exact fits_refl _ _
    | with_reducible apply setBytes_fits
    | with_reducible apply withRst_fits
    | with_reducible apply withRst_fits
    | split

theorem setAvoid_fits {g : Foot} {s0 : State} (s : State) (c : Nat) (hle : (Foot.of [0x02] [.mem, .rst]).le g = true) (h0 : s0.Fits g s) : s0.Fits g (State.setAvoid s c) := by
  refine fits_app hle ?_ h0
  unfold State.setAvoid
  repeat' first
    | (extract_lets +onlyGivenNames x
       first
       | (refine fits_cut (p := State.Fits (Foot.of [0x02] [.mem, .rst]) s x) ?_ ?_; rotate_left; intro hx; clear_value x; rotate_left; subst x)
       | (refine part_cut (α := type_of% x) (by constructor) ?_; subst x)
       | clear_value x
       | subst x)
    | ((with_reducible refine side_ok ?_); exact rfl)
    | with_reducible assumption
    | ((with_reducible refine keep_goal ?_); exact keep_refl)
    | with_reducible exact fits_refl _ _
    | with_reducible apply put_fits
    | with_reducible apply jput_fits
    | with_reducible apply jseal_fits
    | with_reducible apply withRst_fits
    | with_reducible apply withRst_fits
    | split

theorem clearAvoid_fits {g : Foot} {s0 : State} (s : State) (l : List Nat) (hle : (Foot.of [0x02] [.mem]).le g = true) (h0 : s0.Fits g s) : s0.Fits g (State.clearAvoid s l) := by
  refine fits_app hle ?_ h0
  unfold State.clearAvoid
  repeat' first
    | (extract_lets +onlyGivenNames x
       first
       | (refine fits_cut (p := State.Fits (Foot.of [0x02] [.mem]) s x) ?_ ?_; rotate_left; intro hx; clear_value x; rotate_left; subst x)
       | (refine part_cut (α := type_of% x) (by constructor) ?_; subst x)
       | clear_value x
       | subst x)
    | ((with_reducible refine side_ok ?_); exact rfl)
    | with_reducible assumption
    | ((with_reducible refine keep_goal ?_); exact keep_refl)
    | with_reducible exact fits_refl _ _
    | with_reducible refine fits_foldl _ _ (fun x hx u hu => ?_) ?_
    | with_reducible apply put_fits
    | with_reducible apply jput_fits
    | with_reducible apply jseal_fits
    | split

theorem setTries_fits {g : Foot} {s0 : State} (s : State) (n : Nat) (hle : (Foot.of [0x02] [.mem]).le g = true) (h0 : s0.Fits g s) : s0.Fits g (State.setTries s n) := by
  refine fits_app hle ?_ h0
  unfold State.setTries
  repeat' first
    | (extract_lets +onlyGivenNames x
       first
       | (refine fits_cut (p := State.Fits (Foot.of [0x02] [.mem]) s x) ?_ ?_; rotate_left; intro hx; clear_value x; rotate_left; subst x)
       | (refine part_cut (α := type_of% x) (by constructor) ?_; subst x)
       | clear_value x
       | subst x)
    | ((with_reducible refine side_ok ?_); exact rfl)
    | with_reducible assumption
    | ((with_reducible refine keep_goal ?_); exact keep_refl)
    | with_reducible exact fits_refl _ _
    | with_reducible apply put_fits
    | with_reducible apply jput_fits
    | with_reducible apply jseal_fits
    | split

theorem outcome_fits {g : Foot} {s0 : State} (s : State) (o : Nat) (hle : (Foot.of [] [.mem, .rst, .thm]).le g = true) (h0 : s0.Fits g s) : s0.Fits g (State.outcome s o) := by
  refine fits_app hle ?_ h0
  unfold State.outcome
  repeat' first
    | (extract_lets +onlyGivenNames x
       first
       | (refine fits_cut (p := State.Fits (Foot.of [] [.mem, .rst, .thm]) s x) ?_ ?_; rotate_left; intro hx; clear_value x; rotate_left; subst x)
       | (refine part_cut (α := type_of% x) (by constructor) ?_; subst x)
       | clear_value x
       | subst x)
    | ((with_reducible refine side_ok ?_); exact rfl)
    | with_reducible assumption
    | ((with_reducible refine keep_goal ?_); exact keep_refl)
    | with_reducible exact fits_refl _ _
    | with_reducible apply journalFlash_fits
    | with_reducible apply jput_fits
    | split

theorem startPlain_fits {g : Foot} {s0 : State} (s : State) (c : Nat) (hle : (Foot.of [0x00, 0x02, 0x40, 0x50, 0x68, 0x70, 0x71] [.mem, .flt, .evr, .saf, .rst, .lanes]).le g = true) (h0 : s0.Fits g s) : s0.Fits g (State.startPlain s c) := by
  refine fits_app hle ?_ h0
  unfold State.startPlain
  repeat' first
    | (extract_lets +onlyGivenNames x
       first
       | (refine fits_cut (p := State.Fits (Foot.of [0x00, 0x02, 0x40, 0x50, 0x68, 0x70, 0x71] [.mem, .flt, .evr, .saf, .rst, .lanes]) s x) ?_ ?_; rotate_left; intro hx; clear_value x; rotate_left; subst x)
       | (refine part_cut (α := type_of% x) (by constructor) ?_; subst x)
       | clear_value x
       | subst x)
    | ((with_reducible refine side_ok ?_); exact rfl)
    | with_reducible assumption
    | ((with_reducible refine keep_goal ?_); exact keep_refl)
    | with_reducible exact fits_refl _ _
    | with_reducible apply put_fits
    | with_reducible apply newEntry_fits
    | with_reducible apply raise_fits
    | with_reducible apply withRst_fits
    | ((with_reducible refine side_ok ?_); exact tl_unit rfl)
    | ((with_reducible refine side_ok ?_); exact be_unit rfl)
    | ((with_reducible refine side_ok ?_); exact lay_unit rfl)
    | ((with_reducible refine side_ok ?_); exact crc_unit rfl)
    | ((with_reducible refine side_ok ?_); exact lnk_unit rfl)
    | with_reducible apply withRst_fits
    | split

theorem startStep_fits {g : Foot} {s0 : State} (s : State) (c : Nat) (hle : (Foot.of [0x00, 0x02, 0x40, 0x50, 0x68, 0x70, 0x71] [.mem, .flt, .evr, .saf, .rst, .lanes]).le g = true) (h0 : s0.Fits g s) : s0.Fits g (State.startStep s c) := by
  refine fits_app hle ?_ h0
  unfold State.startStep
  repeat' first
    | (extract_lets +onlyGivenNames x
       first
       | (refine fits_cut (p := State.Fits (Foot.of [0x00, 0x02, 0x40, 0x50, 0x68, 0x70, 0x71] [.mem, .flt, .evr, .saf, .rst, .lanes]) s x) ?_ ?_; rotate_left; intro hx; clear_value x; rotate_left; subst x)
       | (refine part_cut (α := type_of% x) (by constructor) ?_; subst x)
       | clear_value x
       | subst x)
    | ((with_reducible refine side_ok ?_); exact rfl)
    | with_reducible assumption
    | ((with_reducible refine keep_goal ?_); exact keep_refl)
    | with_reducible exact fits_refl _ _
    | with_reducible apply put_fits
    | with_reducible apply newEntry_fits
    | with_reducible apply raise_fits
    | with_reducible apply startPlain_fits
    | ((with_reducible refine side_ok ?_); exact tl_unit rfl)
    | ((with_reducible refine side_ok ?_); exact be_unit rfl)
    | ((with_reducible refine side_ok ?_); exact lay_unit rfl)
    | ((with_reducible refine side_ok ?_); exact crc_unit rfl)
    | ((with_reducible refine side_ok ?_); exact lnk_unit rfl)
    | split

theorem stepDone_fits {g : Foot} {s0 : State} (s : State) (detail : Nat) (hle : (Foot.of [0x00, 0x02, 0x40, 0x50, 0x68, 0x70, 0x71] [.mem, .flt, .evr, .saf, .rst, .lanes]).le g = true) (h0 : s0.Fits g s) : s0.Fits g (State.stepDone s detail) := by
  refine fits_app hle ?_ h0
  unfold State.stepDone
  repeat' first
    | (extract_lets +onlyGivenNames x
       first
       | (refine fits_cut (p := State.Fits (Foot.of [0x00, 0x02, 0x40, 0x50, 0x68, 0x70, 0x71] [.mem, .flt, .evr, .saf, .rst, .lanes]) s x) ?_ ?_; rotate_left; intro hx; clear_value x; rotate_left; subst x)
       | (refine part_cut (α := type_of% x) (by constructor) ?_; subst x)
       | clear_value x
       | subst x)
    | ((with_reducible refine side_ok ?_); exact rfl)
    | with_reducible assumption
    | ((with_reducible refine keep_goal ?_); exact keep_refl)
    | with_reducible exact fits_refl _ _
    | with_reducible apply endEntry_fits
    | with_reducible apply startStep_fits
    | split

/-- Tables that a cold reset takes over keep their lengths; the others have those of reset. -/
theorem afterCold_shaped {s : State} (aon : Bool) (h : s.shaped = true) : (s.afterCold aon).shaped = true := by
  simp only [State.shaped, Bool.and_eq_true] at h
  simp only [State.shaped, Bool.and_eq_true]
  exact ⟨⟨⟨⟨⟨⟨⟨⟨⟨rfl, rfl⟩, rfl⟩, rfl⟩, rfl⟩, h.1.1.1.1.2⟩, rfl⟩, rfl⟩, h.1.2⟩, h.2⟩

/-- A cold reset starts from cold-reset values; nothing bounds it. -/
theorem afterCold_fits {g : Foot} {s0 : State} (s : State) (aon : Bool) (hle : Foot.free.le g = true) (h0 : s0.Fits g s) : s0.Fits g (s.afterCold aon) :=
  fits_app hle (fits_free ⟨fun h => tabWf_filter _ h, fun _ => rfl, afterCold_shaped aon, rfl, Nat.le_refl _, Nat.le_refl _, fun _ _ h => h⟩) h0

/-- A bank whose scoped bits took their reset values is in canonical form. -/
theorem resetBank_wf (mask : Nat → Word) {l : List (Nat × Word)} (h : tabWf resetWord l = true) : tabWf resetWord (resetBank mask l) = true :=
  tabWf_map (fun a w => (w &&& ~~~ (mask a)) ||| (resetWord a &&& mask a)) h

/-- A warm reset takes warm and block fields back; nothing bounds it. -/
theorem afterWarm_fits {g : Foot} {s0 : State} (s : State) (hle : Foot.free.le g = true) (h0 : s0.Fits g s) : s0.Fits g s.afterWarm := by
  refine fits_app hle ?_ h0
  unfold State.afterWarm
  extract_lets sig cdr crit bl fl r k c ga fx th pw se fu up t1 t2 t3 t4
  have h1 : s.Fits Foot.free t1 := fits_free ⟨fun h => h, fun h => regsWf_of (resetBank_wf _ (regsWf_regs h)) (resetBank_wf _ (regsWf_shadow h)) rfl,
    fun h => by
      simp only [State.shaped, Bool.and_eq_true] at h
      simp only [State.shaped, Bool.and_eq_true]
      exact ⟨⟨⟨⟨⟨⟨⟨⟨⟨rfl, rfl⟩, h.1.1.1.1.1.1.1.2⟩, h.1.1.1.1.1.1.2⟩, rfl⟩, h.1.1.1.1.2⟩, rfl⟩, rfl⟩, h.1.2⟩, h.2⟩,
    rfl, Nat.le_refl _, Nat.le_refl _, fun _ _ h => h⟩
  have h2 : s.Fits Foot.free t4 := put_fits _ rfl (put_fits _ rfl (put_fits _ rfl (put_fits _ rfl (put_fits _ rfl h1))))
  split
  · exact h2
  · exact put_fits _ rfl (addSat_fits _ rfl h2)

theorem endJob_fits {g : Foot} {s0 : State} (s : State) (hle : (Foot.of [0x02, 0x40, 0x78, 0x7A, 0x80, 0x81] [.fus]).le g = true) (h0 : s0.Fits g s) : s0.Fits g (State.endJob s) := by
  refine fits_app hle ?_ h0
  unfold State.endJob
  repeat' first
    | (extract_lets +onlyGivenNames x
       first
       | (refine fits_cut (p := State.Fits (Foot.of [0x02, 0x40, 0x78, 0x7A, 0x80, 0x81] [.fus]) s x) ?_ ?_; rotate_left; intro hx; clear_value x; rotate_left; subst x)
       | (refine part_cut (α := type_of% x) (by constructor) ?_; subst x)
       | clear_value x
       | subst x)
    | ((with_reducible refine side_ok ?_); exact rfl)
    | with_reducible assumption
    | ((with_reducible refine keep_goal ?_); exact keep_refl)
    | with_reducible exact fits_refl _ _
    | with_reducible refine fits_foldl _ _ (fun x hx u hu => ?_) ?_
    | with_reducible apply program_fits
    | split

theorem endJobFree_fits {g : Foot} {s0 : State} (s : State) (hle : (Foot.of [0x02, 0x40, 0x78, 0x7A, 0x80, 0x81] [.fus, .fresh]).le g = true) (h0 : s0.Fits g s) : s0.Fits g (State.endJobFree s) := by
  refine fits_app hle ?_ h0
  unfold State.endJobFree
  repeat' first
    | (extract_lets +onlyGivenNames x
       first
       | (refine fits_cut (p := State.Fits (Foot.of [0x02, 0x40, 0x78, 0x7A, 0x80, 0x81] [.fus, .fresh]) s x) ?_ ?_; rotate_left; intro hx; clear_value x; rotate_left; subst x)
       | (refine part_cut (α := type_of% x) (by constructor) ?_; subst x)
       | clear_value x
       | subst x)
    | ((with_reducible refine side_ok ?_); exact rfl)
    | with_reducible assumption
    | ((with_reducible refine keep_goal ?_); exact keep_refl)
    | with_reducible exact fits_refl _ _
    | with_reducible refine fits_foldl _ _ (fun x hx u hu => ?_) ?_
    | with_reducible refine free_fits_eq (by assumption) ?_ ?_
    | with_reducible apply free_fits
    | with_reducible apply program_fits
    | split
    | with_reducible refine fits_snd (by assumption) ?_
    | with_reducible refine fits_thd (by assumption) ?_
    | dsimp only

theorem tapReset_fits {g : Foot} {s0 : State} (s : State) (hle : (Foot.of [0x78] [.sec]).le g = true) (h0 : s0.Fits g s) : s0.Fits g (State.tapReset s) := by
  refine fits_app hle ?_ h0
  unfold State.tapReset
  repeat' first
    | (extract_lets +onlyGivenNames x
       first
       | (refine fits_cut (p := State.Fits (Foot.of [0x78] [.sec]) s x) ?_ ?_; rotate_left; intro hx; clear_value x; rotate_left; subst x)
       | (refine part_cut (α := type_of% x) (by constructor) ?_; subst x)
       | clear_value x
       | subst x)
    | ((with_reducible refine side_ok ?_); exact rfl)
    | with_reducible assumption
    | ((with_reducible refine keep_goal ?_); exact keep_refl)
    | with_reducible exact fits_refl _ _
    | with_reducible apply put_fits
    | with_reducible apply withSec_fits
    | with_reducible apply withSec_fits
    | split

theorem rcAttempt_fits {g : Foot} {s0 : State} (s : State) (n : Nat) (hle : (Foot.of [0x01] [.quartz]).le g = true) (h0 : s0.Fits g s) : s0.Fits g (State.rcAttempt s n) := by
  refine fits_app hle ?_ h0
  unfold State.rcAttempt
  repeat' first
    | (extract_lets +onlyGivenNames x
       first
       | (refine fits_cut (p := State.Fits (Foot.of [0x01] [.quartz]) s x) ?_ ?_; rotate_left; intro hx; clear_value x; rotate_left; subst x)
       | (refine part_cut (α := type_of% x) (by constructor) ?_; subst x)
       | clear_value x
       | subst x)
    | ((with_reducible refine side_ok ?_); exact rfl)
    | with_reducible assumption
    | ((with_reducible refine keep_goal ?_); exact keep_refl)
    | with_reducible exact fits_refl _ _
    | with_reducible apply put_fits
    | with_reducible apply withQuartz_fits
    | with_reducible apply withQuartz_fits
    | split

theorem coldReset_fits {g : Foot} {s0 : State} (s : State) (cause : Fld) (aon : Bool) (hle : (Foot.free).le g = true) (h0 : s0.Fits g s) : s0.Fits g (State.coldReset s cause aon) := by
  refine fits_app hle ?_ h0
  unfold State.coldReset
  repeat' first
    | (extract_lets +onlyGivenNames x
       first
       | (refine fits_cut (p := State.Fits (Foot.free) s x) ?_ ?_; rotate_left; intro hx; clear_value x; rotate_left; subst x)
       | (refine part_cut (α := type_of% x) (by constructor) ?_; subst x)
       | clear_value x
       | subst x)
    | ((with_reducible refine side_ok ?_); exact rfl)
    | with_reducible assumption
    | ((with_reducible refine keep_goal ?_); exact keep_refl)
    | with_reducible exact fits_refl _ _
    | with_reducible apply put_fits
    | with_reducible apply afterCold_fits
    | with_reducible apply endJobFree_fits
    | with_reducible apply rcAttempt_fits
    | with_reducible apply senseFuses_fits
    | with_reducible apply tapReset_fits
    | split

theorem rcRestart_fits {g : Foot} {s0 : State} (s : State) (pin : Bool) (hle : (Foot.of [0x01] [.quartz]).le g = true) (h0 : s0.Fits g s) : s0.Fits g (State.rcRestart s pin) := by
  refine fits_app hle ?_ h0
  unfold State.rcRestart
  repeat' first
    | (extract_lets +onlyGivenNames x
       first
       | (refine fits_cut (p := State.Fits (Foot.of [0x01] [.quartz]) s x) ?_ ?_; rotate_left; intro hx; clear_value x; rotate_left; subst x)
       | (refine part_cut (α := type_of% x) (by constructor) ?_; subst x)
       | clear_value x
       | subst x)
    | ((with_reducible refine side_ok ?_); exact rfl)
    | with_reducible assumption
    | ((with_reducible refine keep_goal ?_); exact keep_refl)
    | with_reducible exact fits_refl _ _
    | with_reducible apply rcAttempt_fits
    | split

theorem warmReset_fits {g : Foot} {s0 : State} (s : State) (cause : Fld) (pin : Bool) (hle : (Foot.free).le g = true) (h0 : s0.Fits g s) : s0.Fits g (State.warmReset s cause pin) := by
  refine fits_app hle ?_ h0
  unfold State.warmReset
  repeat' first
    | (extract_lets +onlyGivenNames x
       first
       | (refine fits_cut (p := State.Fits (Foot.free) s x) ?_ ?_; rotate_left; intro hx; clear_value x; rotate_left; subst x)
       | (refine part_cut (α := type_of% x) (by constructor) ?_; subst x)
       | clear_value x
       | subst x)
    | ((with_reducible refine side_ok ?_); exact rfl)
    | with_reducible assumption
    | ((with_reducible refine keep_goal ?_); exact keep_refl)
    | with_reducible exact fits_refl _ _
    | with_reducible apply put_fits
    | with_reducible apply afterWarm_fits
    | with_reducible apply endJob_fits
    | with_reducible apply rcRestart_fits
    | with_reducible apply senseFuses_fits
    | with_reducible apply tapReset_fits
    | split

theorem bistRaise_fits {g : Foot} {s0 : State} (s : State) (hle : (Foot.of [0x00, 0x40, 0x50, 0x68, 0x70, 0x71, 0x79] [.flt, .evr, .saf, .lanes, .sec]).le g = true) (h0 : s0.Fits g s) : s0.Fits g (State.bistRaise s) := by
  refine fits_app hle ?_ h0
  unfold State.bistRaise
  repeat' first
    | (extract_lets +onlyGivenNames x
       first
       | (refine fits_cut (p := State.Fits (Foot.of [0x00, 0x40, 0x50, 0x68, 0x70, 0x71, 0x79] [.flt, .evr, .saf, .lanes, .sec]) s x) ?_ ?_; rotate_left; intro hx; clear_value x; rotate_left; subst x)
       | (refine part_cut (α := type_of% x) (by constructor) ?_; subst x)
       | clear_value x
       | subst x)
    | ((with_reducible refine side_ok ?_); exact rfl)
    | with_reducible assumption
    | ((with_reducible refine keep_goal ?_); exact keep_refl)
    | with_reducible exact fits_refl _ _
    | with_reducible apply raise_fits
    | with_reducible apply withSec_fits
    | ((with_reducible refine side_ok ?_); exact tl_unit rfl)
    | ((with_reducible refine side_ok ?_); exact be_unit rfl)
    | ((with_reducible refine side_ok ?_); exact lay_unit rfl)
    | ((with_reducible refine side_ok ?_); exact crc_unit rfl)
    | ((with_reducible refine side_ok ?_); exact lnk_unit rfl)
    | with_reducible apply withSec_fits
    | split

theorem bootStop_fits {g : Foot} {s0 : State} (s : State) (hle : (Foot.free).le g = true) (h0 : s0.Fits g s) : s0.Fits g (State.bootStop s) := by
  refine fits_app hle ?_ h0
  unfold State.bootStop
  repeat' first
    | (extract_lets +onlyGivenNames x
       first
       | (refine fits_cut (p := State.Fits (Foot.free) s x) ?_ ?_; rotate_left; intro hx; clear_value x; rotate_left; subst x)
       | (refine part_cut (α := type_of% x) (by constructor) ?_; subst x)
       | clear_value x
       | subst x)
    | ((with_reducible refine side_ok ?_); exact rfl)
    | with_reducible assumption
    | ((with_reducible refine keep_goal ?_); exact keep_refl)
    | with_reducible exact fits_refl _ _
    | with_reducible apply put_fits
    | with_reducible apply bistRaise_fits
    | with_reducible apply outcome_fits
    | with_reducible apply setTries_fits
    | with_reducible apply soutsOff_fits
    | with_reducible apply warmReset_fits
    | with_reducible apply withCmd_fits
    | with_reducible apply withCmd_fits
    | split

theorem enterRecovery_fits {g : Foot} {s0 : State} (s : State) (hle : (Foot.of [0x00, 0x02, 0x08, 0x09, 0x0A, 0x10, 0x40, 0x50, 0x68, 0x70, 0x71, 0x79, 0x80] [.mem, .flt, .evr, .saf, .rst, .cmd, .lanes, .thm, .sec]).le g = true) (h0 : s0.Fits g s) : s0.Fits g (State.enterRecovery s) := by
  refine fits_app hle ?_ h0
  unfold State.enterRecovery
  repeat' first
    | (extract_lets +onlyGivenNames x
       first
       | (refine fits_cut (p := State.Fits (Foot.of [0x00, 0x02, 0x08, 0x09, 0x0A, 0x10, 0x40, 0x50, 0x68, 0x70, 0x71, 0x79, 0x80] [.mem, .flt, .evr, .saf, .rst, .cmd, .lanes, .thm, .sec]) s x) ?_ ?_; rotate_left; intro hx; clear_value x; rotate_left; subst x)
       | (refine part_cut (α := type_of% x) (by constructor) ?_; subst x)
       | clear_value x
       | subst x)
    | ((with_reducible refine side_ok ?_); exact rfl)
    | with_reducible assumption
    | ((with_reducible refine keep_goal ?_); exact keep_refl)
    | ((with_reducible refine keep_ok ?_); intro h; simpa [Saf.shaped, Quartz.shaped, Cmd.shaped, Glare.shaped, Gov.shaped, Cal.shaped, Flx.shaped, Fus.shaped, Upd.shaped] using h)
    | with_reducible exact fits_refl _ _
    | with_reducible apply put_fits
    | with_reducible apply bistRaise_fits
    | with_reducible apply outcome_fits
    | with_reducible apply soutsOff_fits
    | with_reducible apply withCmd_fits
    | ((with_reducible refine side_ok ?_); exact lnk_unit rfl)
    | with_reducible apply withCmd_fits
    | split

theorem stepFailed_fits {g : Foot} {s0 : State} (s : State) (detail : Nat) (hle : (Foot.of [0x00, 0x02, 0x40, 0x50, 0x68, 0x70, 0x71] [.mem, .flt, .evr, .saf, .rst, .lanes, .thm]).le g = true) (h0 : s0.Fits g s) : s0.Fits g (State.stepFailed s detail) := by
  refine fits_app hle ?_ h0
  unfold State.stepFailed
  repeat' first
    | (extract_lets +onlyGivenNames x
       first
       | (refine fits_cut (p := State.Fits (Foot.of [0x00, 0x02, 0x40, 0x50, 0x68, 0x70, 0x71] [.mem, .flt, .evr, .saf, .rst, .lanes, .thm]) s x) ?_ ?_; rotate_left; intro hx; clear_value x; rotate_left; subst x)
       | (refine part_cut (α := type_of% x) (by constructor) ?_; subst x)
       | clear_value x
       | subst x)
    | ((with_reducible refine side_ok ?_); exact rfl)
    | with_reducible assumption
    | ((with_reducible refine keep_goal ?_); exact keep_refl)
    | with_reducible exact fits_refl _ _
    | with_reducible apply endEntry_fits
    | with_reducible apply journalFlash_fits
    | with_reducible apply raise_fits
    | with_reducible apply setAvoid_fits
    | ((with_reducible refine side_ok ?_); exact tl_unit rfl)
    | ((with_reducible refine side_ok ?_); exact be_unit rfl)
    | ((with_reducible refine side_ok ?_); exact lay_unit rfl)
    | ((with_reducible refine side_ok ?_); exact crc_unit rfl)
    | ((with_reducible refine side_ok ?_); exact lnk_unit rfl)
    | split

theorem stepFails_fits {g : Foot} {s0 : State} (s : State) (detail : Nat) (hle : (Foot.free).le g = true) (h0 : s0.Fits g s) : s0.Fits g (State.stepFails s detail) := by
  refine fits_app hle ?_ h0
  unfold State.stepFails
  repeat' first
    | (extract_lets +onlyGivenNames x
       first
       | (refine fits_cut (p := State.Fits (Foot.free) s x) ?_ ?_; rotate_left; intro hx; clear_value x; rotate_left; subst x)
       | (refine part_cut (α := type_of% x) (by constructor) ?_; subst x)
       | clear_value x
       | subst x)
    | ((with_reducible refine side_ok ?_); exact rfl)
    | with_reducible assumption
    | ((with_reducible refine keep_goal ?_); exact keep_refl)
    | with_reducible exact fits_refl _ _
    | with_reducible apply bootStop_fits
    | with_reducible apply enterRecovery_fits
    | with_reducible apply newEntry_fits
    | with_reducible apply startStep_fits
    | with_reducible apply stepFailed_fits
    | with_reducible apply withRst_fits
    | with_reducible apply withRst_fits
    | split

theorem sampleStraps_fits {g : Foot} {s0 : State} (s : State) (hle : (Foot.of [0x02, 0x81] [.mem, .rst]).le g = true) (h0 : s0.Fits g s) : s0.Fits g (State.sampleStraps s) := by
  refine fits_app hle ?_ h0
  unfold State.sampleStraps
  repeat' first
    | (extract_lets +onlyGivenNames x
       first
       | (refine fits_cut (p := State.Fits (Foot.of [0x02, 0x81] [.mem, .rst]) s x) ?_ ?_; rotate_left; intro hx; clear_value x; rotate_left; subst x)
       | (refine part_cut (α := type_of% x) (by constructor) ?_; subst x)
       | clear_value x
       | subst x)
    | ((with_reducible refine side_ok ?_); exact rfl)
    | with_reducible assumption
    | ((with_reducible refine keep_goal ?_); exact keep_refl)
    | with_reducible exact fits_refl _ _
    | with_reducible apply put_fits
    | with_reducible apply evt_fits
    | with_reducible apply newEntry_fits
    | with_reducible apply withRst_fits
    | with_reducible apply withRst_fits
    | split

theorem bistRelease_fits {g : Foot} {s0 : State} (s : State) (hle : (Foot.of [0x70, 0x71, 0x79] [.evr, .sec, .fresh]).le g = true) (h0 : s0.Fits g s) : s0.Fits g (State.bistRelease s) := by
  refine fits_app hle ?_ h0
  unfold State.bistRelease
  repeat' first
    | (extract_lets +onlyGivenNames x
       first
       | (refine fits_cut (p := State.Fits (Foot.of [0x70, 0x71, 0x79] [.evr, .sec, .fresh]) s x) ?_ ?_; rotate_left; intro hx; clear_value x; rotate_left; subst x)
       | (refine part_cut (α := type_of% x) (by constructor) ?_; subst x)
       | clear_value x
       | subst x)
    | ((with_reducible refine side_ok ?_); exact rfl)
    | with_reducible assumption
    | ((with_reducible refine keep_goal ?_); exact keep_refl)
    | with_reducible exact fits_refl _ _
    | with_reducible apply put_fits
    | with_reducible apply evt_fits
    | with_reducible refine free_fits_eq (by assumption) ?_ ?_
    | with_reducible apply free_fits
    | with_reducible apply event_fits
    | with_reducible apply withSec_fits
    | with_reducible apply withSec_fits
    | split
    | with_reducible refine fits_snd (by assumption) ?_
    | with_reducible refine fits_thd (by assumption) ?_
    | dsimp only

theorem bootRoot_fits {g : Foot} {s0 : State} (s : State) (hle : (Foot.of [0x00, 0x02, 0x40, 0x50, 0x68, 0x70, 0x71] [.mem, .flt, .evr, .saf, .rst, .lanes]).le g = true) (h0 : s0.Fits g s) : s0.Fits g (State.bootRoot s) := by
  refine fits_app hle ?_ h0
  unfold State.bootRoot
  repeat' first
    | (extract_lets +onlyGivenNames x
       first
       | (refine fits_cut (p := State.Fits (Foot.of [0x00, 0x02, 0x40, 0x50, 0x68, 0x70, 0x71] [.mem, .flt, .evr, .saf, .rst, .lanes]) s x) ?_ ?_; rotate_left; intro hx; clear_value x; rotate_left; subst x)
       | (refine part_cut (α := type_of% x) (by constructor) ?_; subst x)
       | clear_value x
       | subst x)
    | ((with_reducible refine side_ok ?_); exact rfl)
    | with_reducible assumption
    | ((with_reducible refine keep_goal ?_); exact keep_refl)
    | with_reducible exact fits_refl _ _
    | with_reducible apply stepDone_fits
    | split

theorem release_fits {g : Foot} {s0 : State} (s : State) (hle : (Foot.of [0x00, 0x02, 0x08, 0x09, 0x40, 0x50, 0x68, 0x70, 0x71, 0x79, 0x81] [.mem, .flt, .evr, .saf, .rst, .lanes, .sec, .fresh]).le g = true) (h0 : s0.Fits g s) : s0.Fits g (State.release s) := by
  refine fits_app hle ?_ h0
  unfold State.release
  repeat' first
    | (extract_lets +onlyGivenNames x
       first
       | (refine fits_cut (p := State.Fits (Foot.of [0x00, 0x02, 0x08, 0x09, 0x40, 0x50, 0x68, 0x70, 0x71, 0x79, 0x81] [.mem, .flt, .evr, .saf, .rst, .lanes, .sec, .fresh]) s x) ?_ ?_; rotate_left; intro hx; clear_value x; rotate_left; subst x)
       | (refine part_cut (α := type_of% x) (by constructor) ?_; subst x)
       | clear_value x
       | subst x)
    | ((with_reducible refine side_ok ?_); exact rfl)
    | with_reducible assumption
    | ((with_reducible refine keep_goal ?_); exact keep_refl)
    | with_reducible exact fits_refl _ _
    | with_reducible apply put_fits
    | with_reducible apply bistRelease_fits
    | with_reducible apply bootRoot_fits
    | with_reducible apply newEntry_fits
    | with_reducible apply sampleStraps_fits
    | with_reducible apply startStep_fits
    | with_reducible apply withRst_fits
    | ((with_reducible refine side_ok ?_); exact lnk_unit rfl)
    | with_reducible apply withRst_fits
    | split

theorem tryRelease_fits {g : Foot} {s0 : State} (s : State) (hle : (Foot.of [0x00, 0x02, 0x08, 0x09, 0x40, 0x50, 0x68, 0x70, 0x71, 0x79, 0x81] [.mem, .flt, .evr, .saf, .rst, .lanes, .sec, .fresh]).le g = true) (h0 : s0.Fits g s) : s0.Fits g (State.tryRelease s) := by
  refine fits_app hle ?_ h0
  unfold State.tryRelease
  repeat' first
    | (extract_lets +onlyGivenNames x
       first
       | (refine fits_cut (p := State.Fits (Foot.of [0x00, 0x02, 0x08, 0x09, 0x40, 0x50, 0x68, 0x70, 0x71, 0x79, 0x81] [.mem, .flt, .evr, .saf, .rst, .lanes, .sec, .fresh]) s x) ?_ ?_; rotate_left; intro hx; clear_value x; rotate_left; subst x)
       | (refine part_cut (α := type_of% x) (by constructor) ?_; subst x)
       | clear_value x
       | subst x)
    | ((with_reducible refine side_ok ?_); exact rfl)
    | with_reducible assumption
    | ((with_reducible refine keep_goal ?_); exact keep_refl)
    | with_reducible exact fits_refl _ _
    | with_reducible apply release_fits
    | split

theorem holdPin_fits {g : Foot} {s0 : State} (s : State) (hle : (Foot.of [] [.rst]).le g = true) (h0 : s0.Fits g s) : s0.Fits g (State.holdPin s) := by
  refine fits_app hle ?_ h0
  unfold State.holdPin
  repeat' first
    | (extract_lets +onlyGivenNames x
       first
       | (refine fits_cut (p := State.Fits (Foot.of [] [.rst]) s x) ?_ ?_; rotate_left; intro hx; clear_value x; rotate_left; subst x)
       | (refine part_cut (α := type_of% x) (by constructor) ?_; subst x)
       | clear_value x
       | subst x)
    | ((with_reducible refine side_ok ?_); exact rfl)
    | with_reducible assumption
    | ((with_reducible refine keep_goal ?_); exact keep_refl)
    | with_reducible exact fits_refl _ _
    | with_reducible apply withRst_fits
    | with_reducible apply withRst_fits
    | split

theorem setStraps_fits {g : Foot} {s0 : State} (s : State) (t : Straps) (hle : (Foot.of [] [.rst]).le g = true) (h0 : s0.Fits g s) : s0.Fits g (State.setStraps s t) := by
  refine fits_app hle ?_ h0
  unfold State.setStraps
  repeat' first
    | (extract_lets +onlyGivenNames x
       first
       | (refine fits_cut (p := State.Fits (Foot.of [] [.rst]) s x) ?_ ?_; rotate_left; intro hx; clear_value x; rotate_left; subst x)
       | (refine part_cut (α := type_of% x) (by constructor) ?_; subst x)
       | clear_value x
       | subst x)
    | ((with_reducible refine side_ok ?_); exact rfl)
    | with_reducible assumption
    | ((with_reducible refine keep_goal ?_); exact keep_refl)
    | with_reducible exact fits_refl _ _
    | with_reducible apply withRst_fits
    | with_reducible apply withRst_fits
    | split

end Sys2Proof.Laws
end

