-- ==== Sys2Proof/Laws/LinkOpsFits.lean ====
section
/-! SUPPORT. Footprints of the operations of Machine/LinkOps.lean: one lemma for each, which says what it may touch and that it keeps what every command keeps. -/

set_option linter.unusedTactic false
set_option linter.unreachableTactic false

namespace Sys2Proof.Laws

open Sys2Proof.Machine

theorem settle_fits {g : Foot} {s0 : State} (s : State) (hle : (Foot.of [0x68] []).le g = true) (h0 : s0.Fits g s) : s0.Fits g (State.settle s) := by
  refine fits_app hle ?_ h0
  unfold State.settle
  repeat' first
    | ((with_reducible refine side_ok ?_); exact rfl)
    | with_reducible assumption
    | ((with_reducible refine keep_goal ?_); exact keep_refl)
    | with_reducible exact fits_refl _ _
    | (extract_lets +onlyGivenNames x
       first
       | (refine fits_cut (p := State.Fits (Foot.of [0x68] []) s x) ?_ ?_; rotate_left; intro hx; clear_value x; rotate_left; subst x)
       | (refine part_cut (α := type_of% x) (by constructor) ?_; subst x)
       | clear_value x)
    | with_reducible apply put_fits
    | split

theorem modLink_fits {g : Foot} {s0 : State} (s : State) (l : Nat) (f : Link → Link) (hle : (Foot.of [] [.lnkA, .lnkB]).le g = true) (h0 : s0.Fits g s) : s0.Fits g (State.modLink s l f) := by
  refine fits_app hle ?_ h0
  unfold State.modLink
  repeat' first
    | ((with_reducible refine side_ok ?_); exact rfl)
    | with_reducible assumption
    | ((with_reducible refine keep_goal ?_); exact keep_refl)
    | with_reducible exact fits_refl _ _
    | (extract_lets +onlyGivenNames x
       first
       | (refine fits_cut (p := State.Fits (Foot.of [] [.lnkA, .lnkB]) s x) ?_ ?_; rotate_left; intro hx; clear_value x; rotate_left; subst x)
       | (refine part_cut (α := type_of% x) (by constructor) ?_; subst x)
       | clear_value x)
    | with_reducible apply withLnkA_fits
    | with_reducible apply withLnkB_fits
    | with_reducible apply withLnkA_fits
    | with_reducible apply withLnkB_fits
    | split

theorem linkTo_fits {g : Foot} {s0 : State} (s : State) (l : Nat) (st : Nat) (hle : (Foot.of [0x08, 0x09] [.lnkA, .lnkB]).le g = true) (h0 : s0.Fits g s) : s0.Fits g (State.linkTo s l st) := by
  refine fits_app hle ?_ h0
  unfold State.linkTo
  repeat' first
    | ((with_reducible refine side_ok ?_); exact rfl)
    | with_reducible assumption
    | ((with_reducible refine keep_goal ?_); exact keep_refl)
    | with_reducible exact fits_refl _ _
    | (extract_lets +onlyGivenNames x
       first
       | (refine fits_cut (p := State.Fits (Foot.of [0x08, 0x09] [.lnkA, .lnkB]) s x) ?_ ?_; rotate_left; intro hx; clear_value x; rotate_left; subst x)
       | (refine part_cut (α := type_of% x) (by constructor) ?_; subst x)
       | clear_value x)
    | with_reducible apply put_fits
    | with_reducible apply modLink_fits
    | ((with_reducible refine side_ok ?_); exact lnk_unit rfl)
    | split

theorem abortFrame_fits {g : Foot} {s0 : State} (s : State) (l : Nat) (hle : (Foot.of [0x08, 0x09] []).le g = true) (h0 : s0.Fits g s) : s0.Fits g (State.abortFrame s l) := by
  refine fits_app hle ?_ h0
  unfold State.abortFrame
  repeat' first
    | ((with_reducible refine side_ok ?_); exact rfl)
    | with_reducible assumption
    | ((with_reducible refine keep_goal ?_); exact keep_refl)
    | with_reducible exact fits_refl _ _
    | (extract_lets +onlyGivenNames x
       first
       | (refine fits_cut (p := State.Fits (Foot.of [0x08, 0x09] []) s x) ?_ ?_; rotate_left; intro hx; clear_value x; rotate_left; subst x)
       | (refine part_cut (α := type_of% x) (by constructor) ?_; subst x)
       | clear_value x)
    | with_reducible apply incSat_fits
    | ((with_reducible refine side_ok ?_); exact lnk_unit rfl)
    | split

theorem linkOff_fits {g : Foot} {s0 : State} (s : State) (l : Nat) (hle : (Foot.of [0x08, 0x09] [.lnkA, .lnkB]).le g = true) (h0 : s0.Fits g s) : s0.Fits g (State.linkOff s l) := by
  refine fits_app hle ?_ h0
  unfold State.linkOff
  repeat' first
    | ((with_reducible refine side_ok ?_); exact rfl)
    | with_reducible assumption
    | ((with_reducible refine keep_goal ?_); exact keep_refl)
    | with_reducible exact fits_refl _ _
    | (extract_lets +onlyGivenNames x
       first
       | (refine fits_cut (p := State.Fits (Foot.of [0x08, 0x09] [.lnkA, .lnkB]) s x) ?_ ?_; rotate_left; intro hx; clear_value x; rotate_left; subst x)
       | (refine part_cut (α := type_of% x) (by constructor) ?_; subst x)
       | clear_value x)
    | with_reducible apply put_fits
    | with_reducible apply linkTo_fits
    | ((with_reducible refine side_ok ?_); exact lnk_unit rfl)
    | split

theorem queueAck_fits {g : Foot} {s0 : State} (s : State) (l : Nat) (p : List Byte) (hle : (Foot.of [] [.lnkA, .lnkB]).le g = true) (h0 : s0.Fits g s) : s0.Fits g (State.queueAck s l p) := by
  refine fits_app hle ?_ h0
  unfold State.queueAck
  repeat' first
    | ((with_reducible refine side_ok ?_); exact rfl)
    | with_reducible assumption
    | ((with_reducible refine keep_goal ?_); exact keep_refl)
    | with_reducible exact fits_refl _ _
    | (extract_lets +onlyGivenNames x
       first
       | (refine fits_cut (p := State.Fits (Foot.of [] [.lnkA, .lnkB]) s x) ?_ ?_; rotate_left; intro hx; clear_value x; rotate_left; subst x)
       | (refine part_cut (α := type_of% x) (by constructor) ?_; subst x)
       | clear_value x)
    | with_reducible apply modLink_fits
    | split

theorem queueSafe_fits {g : Foot} {s0 : State} (s : State) (l : Nat) (p : List Byte) (hle : (Foot.of [] [.lnkA, .lnkB]).le g = true) (h0 : s0.Fits g s) : s0.Fits g (State.queueSafe s l p) := by
  refine fits_app hle ?_ h0
  unfold State.queueSafe
  repeat' first
    | ((with_reducible refine side_ok ?_); exact rfl)
    | with_reducible assumption
    | ((with_reducible refine keep_goal ?_); exact keep_refl)
    | with_reducible exact fits_refl _ _
    | (extract_lets +onlyGivenNames x
       first
       | (refine fits_cut (p := State.Fits (Foot.of [] [.lnkA, .lnkB]) s x) ?_ ?_; rotate_left; intro hx; clear_value x; rotate_left; subst x)
       | (refine part_cut (α := type_of% x) (by constructor) ?_; subst x)
       | clear_value x)
    | with_reducible apply modLink_fits
    | split

theorem queueEvent_fits {g : Foot} {s0 : State} (s : State) (l : Nat) (p : List Byte) (hle : (Foot.of [0x08, 0x09, 0x70, 0x71] [.evr, .lnkA, .lnkB]).le g = true) (h0 : s0.Fits g s) : s0.Fits g (State.queueEvent s l p) := by
  refine fits_app hle ?_ h0
  unfold State.queueEvent
  repeat' first
    | ((with_reducible refine side_ok ?_); exact rfl)
    | with_reducible assumption
    | ((with_reducible refine keep_goal ?_); exact keep_refl)
    | with_reducible exact fits_refl _ _
    | (extract_lets +onlyGivenNames x
       first
       | (refine fits_cut (p := State.Fits (Foot.of [0x08, 0x09, 0x70, 0x71] [.evr, .lnkA, .lnkB]) s x) ?_ ?_; rotate_left; intro hx; clear_value x; rotate_left; subst x)
       | (refine part_cut (α := type_of% x) (by constructor) ?_; subst x)
       | clear_value x)
    | with_reducible apply put_fits
    | with_reducible apply incSat_fits
    | with_reducible apply event_fits
    | with_reducible apply modLink_fits
    | ((with_reducible refine side_ok ?_); exact lnk_unit rfl)
    | split

theorem queueStatus_fits {g : Foot} {s0 : State} (s : State) (l : Nat) (hle : (Foot.of [] [.lnkA, .lnkB]).le g = true) (h0 : s0.Fits g s) : s0.Fits g (State.queueStatus s l) := by
  refine fits_app hle ?_ h0
  unfold State.queueStatus
  repeat' first
    | ((with_reducible refine side_ok ?_); exact rfl)
    | with_reducible assumption
    | ((with_reducible refine keep_goal ?_); exact keep_refl)
    | with_reducible exact fits_refl _ _
    | (extract_lets +onlyGivenNames x
       first
       | (refine fits_cut (p := State.Fits (Foot.of [] [.lnkA, .lnkB]) s x) ?_ ?_; rotate_left; intro hx; clear_value x; rotate_left; subst x)
       | (refine part_cut (α := type_of% x) (by constructor) ?_; subst x)
       | clear_value x)
    | with_reducible apply modLink_fits
    | split

theorem enterActive_fits {g : Foot} {s0 : State} (s : State) (l : Nat) (hle : (Foot.of [0x08, 0x09] [.lnkA, .lnkB]).le g = true) (h0 : s0.Fits g s) : s0.Fits g (State.enterActive s l) := by
  refine fits_app hle ?_ h0
  unfold State.enterActive
  repeat' first
    | ((with_reducible refine side_ok ?_); exact rfl)
    | with_reducible assumption
    | ((with_reducible refine keep_goal ?_); exact keep_refl)
    | with_reducible exact fits_refl _ _
    | (extract_lets +onlyGivenNames x
       first
       | (refine fits_cut (p := State.Fits (Foot.of [0x08, 0x09] [.lnkA, .lnkB]) s x) ?_ ?_; rotate_left; intro hx; clear_value x; rotate_left; subst x)
       | (refine part_cut (α := type_of% x) (by constructor) ?_; subst x)
       | clear_value x)
    | with_reducible apply put_fits
    | with_reducible apply linkTo_fits
    | with_reducible apply modLink_fits
    | with_reducible apply queueStatus_fits
    | ((with_reducible refine side_ok ?_); exact lnk_unit rfl)
    | split

theorem stopFrames_fits {g : Foot} {s0 : State} (s : State) (hle : (Foot.of [] [.cmp, .glare, .tln]).le g = true) (h0 : s0.Fits g s) : s0.Fits g (State.stopFrames s) := by
  refine fits_app hle ?_ h0
  unfold State.stopFrames
  repeat' first
    | ((with_reducible refine side_ok ?_); exact rfl)
    | with_reducible assumption
    | ((with_reducible refine keep_goal ?_); exact keep_refl)
    | ((with_reducible refine keep_ok ?_); intro h; simpa [Saf.shaped, Quartz.shaped, Cmd.shaped, Glare.shaped, Gov.shaped, Cal.shaped, Flx.shaped, Fus.shaped, Upd.shaped] using h)
    | with_reducible exact fits_refl _ _
    | (extract_lets +onlyGivenNames x
       first
       | (refine fits_cut (p := State.Fits (Foot.of [] [.cmp, .glare, .tln]) s x) ?_ ?_; rotate_left; intro hx; clear_value x; rotate_left; subst x)
       | (refine part_cut (α := type_of% x) (by constructor) ?_; subst x)
       | clear_value x)
    | with_reducible apply withCmp_fits
    | with_reducible apply withGlare_fits
    | with_reducible apply withTln_fits
    | with_reducible apply withCmp_fits
    | with_reducible apply withGlare_fits
    | with_reducible apply withTln_fits
    | split

theorem lanesOff_fits {g : Foot} {s0 : State} (s : State) (hle : (Foot.of [0x50] [.lanes]).le g = true) (h0 : s0.Fits g s) : s0.Fits g (State.lanesOff s) := by
  refine fits_app hle ?_ h0
  unfold State.lanesOff
  repeat' first
    | ((with_reducible refine side_ok ?_); exact rfl)
    | with_reducible assumption
    | ((with_reducible refine keep_goal ?_); exact keep_refl)
    | with_reducible exact fits_refl _ _
    | (extract_lets +onlyGivenNames x
       first
       | (refine fits_cut (p := State.Fits (Foot.of [0x50] [.lanes]) s x) ?_ ?_; rotate_left; intro hx; clear_value x; rotate_left; subst x)
       | (refine part_cut (α := type_of% x) (by constructor) ?_; subst x)
       | clear_value x)
    | with_reducible refine fits_foldl _ _ (fun x hx u hu => ?_) ?_
    | with_reducible apply laneOff_fits
    | split

theorem timerStart_fits {g : Foot} {s0 : State} (s : State) (hle : (Foot.of [] [.tln]).le g = true) (h0 : s0.Fits g s) : s0.Fits g (State.timerStart s) := by
  refine fits_app hle ?_ h0
  unfold State.timerStart
  repeat' first
    | ((with_reducible refine side_ok ?_); exact rfl)
    | with_reducible assumption
    | ((with_reducible refine keep_goal ?_); exact keep_refl)
    | with_reducible exact fits_refl _ _
    | (extract_lets +onlyGivenNames x
       first
       | (refine fits_cut (p := State.Fits (Foot.of [] [.tln]) s x) ?_ ?_; rotate_left; intro hx; clear_value x; rotate_left; subst x)
       | (refine part_cut (α := type_of% x) (by constructor) ?_; subst x)
       | clear_value x)
    | with_reducible apply withTln_fits
    | with_reducible apply withTln_fits
    | split

theorem timerTry_fits {g : Foot} {s0 : State} (s : State) (hle : (Foot.of [] [.tln]).le g = true) (h0 : s0.Fits g s) : s0.Fits g (State.timerTry s) := by
  refine fits_app hle ?_ h0
  unfold State.timerTry
  repeat' first
    | ((with_reducible refine side_ok ?_); exact rfl)
    | with_reducible assumption
    | ((with_reducible refine keep_goal ?_); exact keep_refl)
    | with_reducible exact fits_refl _ _
    | (extract_lets +onlyGivenNames x
       first
       | (refine fits_cut (p := State.Fits (Foot.of [] [.tln]) s x) ?_ ?_; rotate_left; intro hx; clear_value x; rotate_left; subst x)
       | (refine part_cut (α := type_of% x) (by constructor) ?_; subst x)
       | clear_value x)
    | with_reducible apply timerStart_fits
    | split

theorem laneWake_fits {g : Foot} {s0 : State} (s : State) (n : Nat) (hle : (Foot.of [0x50] [.lanes]).le g = true) (h0 : s0.Fits g s) : s0.Fits g (State.laneWake s n) := by
  refine fits_app hle ?_ h0
  unfold State.laneWake
  repeat' first
    | ((with_reducible refine side_ok ?_); exact rfl)
    | with_reducible assumption
    | ((with_reducible refine keep_goal ?_); exact keep_refl)
    | with_reducible exact fits_refl _ _
    | (extract_lets +onlyGivenNames x
       first
       | (refine fits_cut (p := State.Fits (Foot.of [0x50] [.lanes]) s x) ?_ ?_; rotate_left; intro hx; clear_value x; rotate_left; subst x)
       | (refine part_cut (α := type_of% x) (by constructor) ?_; subst x)
       | clear_value x)
    | with_reducible apply put_fits
    | with_reducible apply modLane_fits
    | ((with_reducible refine side_ok ?_); exact tl_unit rfl)
    | split

theorem lanesWake_fits {g : Foot} {s0 : State} (s : State) (hle : (Foot.of [0x50] [.lanes]).le g = true) (h0 : s0.Fits g s) : s0.Fits g (State.lanesWake s) := by
  refine fits_app hle ?_ h0
  unfold State.lanesWake
  repeat' first
    | ((with_reducible refine side_ok ?_); exact rfl)
    | with_reducible assumption
    | ((with_reducible refine keep_goal ?_); exact keep_refl)
    | with_reducible exact fits_refl _ _
    | (extract_lets +onlyGivenNames x
       first
       | (refine fits_cut (p := State.Fits (Foot.of [0x50] [.lanes]) s x) ?_ ?_; rotate_left; intro hx; clear_value x; rotate_left; subst x)
       | (refine part_cut (α := type_of% x) (by constructor) ?_; subst x)
       | clear_value x)
    | with_reducible refine fits_foldl _ _ (fun x hx u hu => ?_) ?_
    | with_reducible apply laneWake_fits
    | split

theorem checkpointRet_fits {g : Foot} {s0 : State} (s : State) (hle : (Foot.of [] [.evr]).le g = true) (h0 : s0.Fits g s) : s0.Fits g (State.checkpointRet s) := by
  refine fits_app hle ?_ h0
  unfold State.checkpointRet
  repeat' first
    | ((with_reducible refine side_ok ?_); exact rfl)
    | with_reducible assumption
    | ((with_reducible refine keep_goal ?_); exact keep_refl)
    | with_reducible exact fits_refl _ _
    | (extract_lets +onlyGivenNames x
       first
       | (refine fits_cut (p := State.Fits (Foot.of [] [.evr]) s x) ?_ ?_; rotate_left; intro hx; clear_value x; rotate_left; subst x)
       | (refine part_cut (α := type_of% x) (by constructor) ?_; subst x)
       | clear_value x)
    | with_reducible apply withEvr_fits
    | with_reducible apply withEvr_fits
    | split

theorem checkpointFlash_fits {g : Foot} {s0 : State} (s : State) (hle : (Foot.of [] [.evr, .thm]).le g = true) (h0 : s0.Fits g s) : s0.Fits g (State.checkpointFlash s) := by
  refine fits_app hle ?_ h0
  unfold State.checkpointFlash
  repeat' first
    | ((with_reducible refine side_ok ?_); exact rfl)
    | with_reducible assumption
    | ((with_reducible refine keep_goal ?_); exact keep_refl)
    | with_reducible exact fits_refl _ _
    | (extract_lets +onlyGivenNames x
       first
       | (refine fits_cut (p := State.Fits (Foot.of [] [.evr, .thm]) s x) ?_ ?_; rotate_left; intro hx; clear_value x; rotate_left; subst x)
       | (refine part_cut (α := type_of% x) (by constructor) ?_; subst x)
       | clear_value x)
    | with_reducible apply defer_fits
    | with_reducible apply withEvr_fits
    | with_reducible apply withEvr_fits
    | split

theorem evrStart_fits {g : Foot} {s0 : State} (s : State) (kind : Nat) (hle : (Foot.of [] [.evr]).le g = true) (h0 : s0.Fits g s) : s0.Fits g (State.evrStart s kind) := by
  refine fits_app hle ?_ h0
  unfold State.evrStart
  repeat' first
    | ((with_reducible refine side_ok ?_); exact rfl)
    | with_reducible assumption
    | ((with_reducible refine keep_goal ?_); exact keep_refl)
    | with_reducible exact fits_refl _ _
    | (extract_lets +onlyGivenNames x
       first
       | (refine fits_cut (p := State.Fits (Foot.of [] [.evr]) s x) ?_ ?_; rotate_left; intro hx; clear_value x; rotate_left; subst x)
       | (refine part_cut (α := type_of% x) (by constructor) ?_; subst x)
       | clear_value x)
    | with_reducible apply withEvr_fits
    | with_reducible apply withEvr_fits
    | split

end Sys2Proof.Laws
end

