-- ==== Sys2Proof/Laws/SideOpsFits.lean ====
section
/-! SUPPORT. Footprints of the operations of Machine/SideOps.lean: one lemma for each, which says what it may touch and that it keeps what every command keeps. -/

set_option linter.unusedTactic false
set_option linter.unreachableTactic false

namespace Sys2Proof.Laws

open Sys2Proof.Machine

theorem enterSplit_fits {g : Foot} {s0 : State} (s : State) (hle : (Foot.of [0x00, 0x0A, 0x40, 0x50, 0x68, 0x70, 0x71] [.flt, .evr, .saf, .side, .lanes]).le g = true) (h0 : s0.Fits g s) : s0.Fits g (State.enterSplit s) := by
  refine fits_app hle ?_ h0
  unfold State.enterSplit
  repeat' first
    | ((with_reducible refine side_ok ?_); exact rfl)
    | with_reducible assumption
    | ((with_reducible refine keep_goal ?_); exact keep_refl)
    | with_reducible exact fits_refl _ _
    | (extract_lets +onlyGivenNames x
       first
       | (refine fits_cut (p := State.Fits (Foot.of [0x00, 0x0A, 0x40, 0x50, 0x68, 0x70, 0x71] [.flt, .evr, .saf, .side, .lanes]) s x) ?_ ?_; rotate_left; intro hx; clear_value x; rotate_left; subst x)
       | (refine part_cut (α := type_of% x) (by constructor) ?_; subst x)
       | clear_value x
       | subst x)
    | with_reducible apply put_fits
    | with_reducible apply evt_fits
    | with_reducible apply incSat_fits
    | with_reducible apply raise_fits
    | with_reducible apply withSide_fits
    | ((with_reducible refine side_ok ?_); exact tl_unit rfl)
    | ((with_reducible refine side_ok ?_); exact be_unit rfl)
    | ((with_reducible refine side_ok ?_); exact lay_unit rfl)
    | ((with_reducible refine side_ok ?_); exact crc_unit rfl)
    | ((with_reducible refine side_ok ?_); exact lnk_unit rfl)
    | with_reducible apply withSide_fits
    | split

theorem loseRx_fits {g : Foot} {s0 : State} (s : State) (hle : (Foot.of [0x00, 0x0A, 0x40, 0x50, 0x68, 0x70, 0x71] [.flt, .evr, .saf, .side, .lanes]).le g = true) (h0 : s0.Fits g s) : s0.Fits g (State.loseRx s) := by
  refine fits_app hle ?_ h0
  unfold State.loseRx
  repeat' first
    | ((with_reducible refine side_ok ?_); exact rfl)
    | with_reducible assumption
    | ((with_reducible refine keep_goal ?_); exact keep_refl)
    | with_reducible exact fits_refl _ _
    | (extract_lets +onlyGivenNames x
       first
       | (refine fits_cut (p := State.Fits (Foot.of [0x00, 0x0A, 0x40, 0x50, 0x68, 0x70, 0x71] [.flt, .evr, .saf, .side, .lanes]) s x) ?_ ?_; rotate_left; intro hx; clear_value x; rotate_left; subst x)
       | (refine part_cut (α := type_of% x) (by constructor) ?_; subst x)
       | clear_value x
       | subst x)
    | with_reducible apply put_fits
    | with_reducible apply enterSplit_fits
    | with_reducible apply withSide_fits
    | with_reducible apply withSide_fits
    | split

theorem sideTo_fits {g : Foot} {s0 : State} (s : State) (st : Nat) (hle : (Foot.of [0x00, 0x0A, 0x40, 0x50, 0x68, 0x70, 0x71] [.flt, .evr, .saf, .side, .lanes]).le g = true) (h0 : s0.Fits g s) : s0.Fits g (State.sideTo s st) := by
  refine fits_app hle ?_ h0
  unfold State.sideTo
  repeat' first
    | ((with_reducible refine side_ok ?_); exact rfl)
    | with_reducible assumption
    | ((with_reducible refine keep_goal ?_); exact keep_refl)
    | with_reducible exact fits_refl _ _
    | (extract_lets +onlyGivenNames x
       first
       | (refine fits_cut (p := State.Fits (Foot.of [0x00, 0x0A, 0x40, 0x50, 0x68, 0x70, 0x71] [.flt, .evr, .saf, .side, .lanes]) s x) ?_ ?_; rotate_left; intro hx; clear_value x; rotate_left; subst x)
       | (refine part_cut (α := type_of% x) (by constructor) ?_; subst x)
       | clear_value x
       | subst x)
    | with_reducible apply put_fits
    | with_reducible apply loseRx_fits
    | split

theorem sideOff_fits {g : Foot} {s0 : State} (s : State) (hle : (Foot.of [0x0A] [.flt, .side]).le g = true) (h0 : s0.Fits g s) : s0.Fits g (State.sideOff s) := by
  refine fits_app hle ?_ h0
  unfold State.sideOff
  repeat' first
    | ((with_reducible refine side_ok ?_); exact rfl)
    | with_reducible assumption
    | ((with_reducible refine keep_goal ?_); exact keep_refl)
    | with_reducible exact fits_refl _ _
    | (extract_lets +onlyGivenNames x
       first
       | (refine fits_cut (p := State.Fits (Foot.of [0x0A] [.flt, .side]) s x) ?_ ?_; rotate_left; intro hx; clear_value x; rotate_left; subst x)
       | (refine part_cut (α := type_of% x) (by constructor) ?_; subst x)
       | clear_value x
       | subst x)
    | with_reducible apply put_fits
    | with_reducible apply condEnd_fits
    | with_reducible apply withSide_fits
    | with_reducible apply withSide_fits
    | split

theorem sideStep_fits {g : Foot} {s0 : State} (s : State) (lo : Nat) (hi : Nat) (next : Nat) (hle : (Foot.of [0x00, 0x0A, 0x40, 0x50, 0x68, 0x70, 0x71] [.flt, .evr, .saf, .side, .lanes]).le g = true) (h0 : s0.Fits g s) : s0.Fits g (State.sideStep s lo hi next) := by
  refine fits_app hle ?_ h0
  unfold State.sideStep
  repeat' first
    | ((with_reducible refine side_ok ?_); exact rfl)
    | with_reducible assumption
    | ((with_reducible refine keep_goal ?_); exact keep_refl)
    | with_reducible exact fits_refl _ _
    | (extract_lets +onlyGivenNames x
       first
       | (refine fits_cut (p := State.Fits (Foot.of [0x00, 0x0A, 0x40, 0x50, 0x68, 0x70, 0x71] [.flt, .evr, .saf, .side, .lanes]) s x) ?_ ?_; rotate_left; intro hx; clear_value x; rotate_left; subst x)
       | (refine part_cut (α := type_of% x) (by constructor) ?_; subst x)
       | clear_value x
       | subst x)
    | with_reducible apply sideTo_fits
    | split

end Sys2Proof.Laws
end

