-- ==== Sys2Proof/Laws/CrcFits.lean ====
section
/-! SUPPORT. Footprints of the operations of Machine/Crc.lean: one lemma for each, which says what it may touch and that it keeps what every command keeps. -/

set_option linter.unusedTactic false
set_option linter.unreachableTactic false

namespace Sys2Proof.Laws

open Sys2Proof.Machine

theorem crcSeen_fits {g : Foot} {s0 : State} (s : State) (n : Nat) (v : Nat) (bad : Bool) (hle : (Foot.of [0x88] []).le g = true) (h0 : s0.Fits g s) : s0.Fits g (State.crcSeen s n v bad) := by
  refine fits_app hle ?_ h0
  unfold State.crcSeen
  repeat' first
    | ((with_reducible refine side_ok ?_); exact rfl)
    | with_reducible assumption
    | ((with_reducible refine keep_goal ?_); exact keep_refl)
    | with_reducible exact fits_refl _ _
    | (extract_lets +onlyGivenNames x
       first
       | (refine fits_cut (p := State.Fits (Foot.of [0x88] []) s x) ?_ ?_; rotate_left; intro hx; clear_value x; rotate_left; subst x)
       | (refine part_cut (α := type_of% x) (by constructor) ?_; subst x)
       | clear_value x
       | subst x)
    | with_reducible apply put_fits
    | with_reducible apply inc_fits
    | with_reducible apply incSat_fits
    | ((with_reducible refine side_ok ?_); exact crc_unit rfl)
    | split

theorem fwdCrc_fits {g : Foot} {s0 : State} (s : State) (l : Nat) (bytes : List Byte) (inj : Bool) (hle : (Foot.of [0x88] []).le g = true) (h0 : s0.Fits g s) : s0.Fits g (State.fwdCrc s l bytes inj).2 := by
  refine fits_app hle ?_ h0
  unfold State.fwdCrc
  repeat' first
    | ((with_reducible refine side_ok ?_); exact rfl)
    | with_reducible assumption
    | ((with_reducible refine keep_goal ?_); exact keep_refl)
    | with_reducible exact fits_refl _ _
    | (extract_lets +onlyGivenNames x
       first
       | (refine fits_cut (p := State.Fits (Foot.of [0x88] []) s x) ?_ ?_; rotate_left; intro hx; clear_value x; rotate_left; subst x)
       | (refine part_cut (α := type_of% x) (by constructor) ?_; subst x)
       | clear_value x
       | subst x)
    | with_reducible apply crcSeen_fits
    | split

theorem fwdCrc_fits_eq {g : Foot} {s0 : State} {s : State} {l : Nat} {bytes : List Byte} {inj : Bool} {t : State} {r0 : Bool} (h : (State.fwdCrc s l bytes inj) = (r0, t)) (hle : (Foot.of [0x88] []).le g = true) (h0 : s0.Fits g s) : s0.Fits g t := by
  have k := fwdCrc_fits s l bytes inj hle h0
  rw [h] at k
  exact k

theorem backCrc_fits {g : Foot} {s0 : State} (s : State) (l : Nat) (bytes : List Byte) (hle : (Foot.of [0x88] []).le g = true) (h0 : s0.Fits g s) : s0.Fits g (State.backCrc s l bytes) := by
  refine fits_app hle ?_ h0
  unfold State.backCrc
  repeat' first
    | ((with_reducible refine side_ok ?_); exact rfl)
    | with_reducible assumption
    | ((with_reducible refine keep_goal ?_); exact keep_refl)
    | with_reducible exact fits_refl _ _
    | (extract_lets +onlyGivenNames x
       first
       | (refine fits_cut (p := State.Fits (Foot.of [0x88] []) s x) ?_ ?_; rotate_left; intro hx; clear_value x; rotate_left; subst x)
       | (refine part_cut (α := type_of% x) (by constructor) ?_; subst x)
       | clear_value x
       | subst x)
    | with_reducible apply crcSeen_fits
    | split

theorem layerCrc_fits {g : Foot} {s0 : State} (s : State) (body : List Byte) (hle : (Foot.of [0x00, 0x02, 0x40, 0x50, 0x68, 0x70, 0x71, 0x88] [.flt, .evr, .saf, .lanes]).le g = true) (h0 : s0.Fits g s) : s0.Fits g (State.layerCrc s body) := by
  refine fits_app hle ?_ h0
  unfold State.layerCrc
  repeat' first
    | ((with_reducible refine side_ok ?_); exact rfl)
    | with_reducible assumption
    | ((with_reducible refine keep_goal ?_); exact keep_refl)
    | with_reducible exact fits_refl _ _
    | (extract_lets +onlyGivenNames x
       first
       | (refine fits_cut (p := State.Fits (Foot.of [0x00, 0x02, 0x40, 0x50, 0x68, 0x70, 0x71, 0x88] [.flt, .evr, .saf, .lanes]) s x) ?_ ?_; rotate_left; intro hx; clear_value x; rotate_left; subst x)
       | (refine part_cut (α := type_of% x) (by constructor) ?_; subst x)
       | clear_value x
       | subst x)
    | with_reducible apply consumeInj_fits
    | with_reducible apply crcSeen_fits
    | with_reducible apply detect_fits
    | ((with_reducible refine side_ok ?_); exact tl_unit rfl)
    | ((with_reducible refine side_ok ?_); exact be_unit rfl)
    | ((with_reducible refine side_ok ?_); exact lay_unit rfl)
    | ((with_reducible refine side_ok ?_); exact crc_unit rfl)
    | ((with_reducible refine side_ok ?_); exact lnk_unit rfl)
    | split

end Sys2Proof.Laws
end

