-- ==== Sys2Proof/Laws/QuartzFits.lean ====
section
/-! SUPPORT. Footprints of the operations of Machine/Quartz.lean: one lemma for each, which says what it may touch and that it keeps what every command keeps. -/

set_option linter.unusedTactic false
set_option linter.unreachableTactic false

namespace Sys2Proof.Laws

open Sys2Proof.Machine

theorem setLock_fits {g : Foot} {s0 : State} (s : State) (l : Nat) (b : Bool) (hle : (Foot.of [0x01, 0x08, 0x09] [.quartz]).le g = true) (h0 : s0.Fits g s) : s0.Fits g (State.setLock s l b) := by
  refine fits_app hle ?_ h0
  unfold State.setLock
  repeat' first
    | ((with_reducible refine side_ok ?_); exact rfl)
    | with_reducible assumption
    | ((with_reducible refine keep_goal ?_); exact keep_refl)
    | ((with_reducible refine keep_ok ?_); intro h; simpa [Saf.shaped, Quartz.shaped, Cmd.shaped, Glare.shaped, Gov.shaped, Cal.shaped, Flx.shaped, Fus.shaped, Upd.shaped] using h)
    | with_reducible exact fits_refl _ _
    | (extract_lets +onlyGivenNames x
       first
       | (refine fits_cut (p := State.Fits (Foot.of [0x01, 0x08, 0x09] [.quartz]) s x) ?_ ?_; rotate_left; intro hx; clear_value x; rotate_left; subst x)
       | (refine part_cut (α := type_of% x) (by constructor) ?_; subst x)
       | clear_value x
       | subst x)
    | with_reducible apply put_fits
    | with_reducible apply withQuartz_fits
    | ((with_reducible refine side_ok ?_); exact lnk_unit rfl)
    | with_reducible apply withQuartz_fits
    | ((with_reducible refine side_ok ?_); unfold lockFld; split <;> exact rfl)
    | split

theorem refConnect_fits {g : Foot} {s0 : State} (s : State) (l : Nat) (hle : (Foot.of [0x01] []).le g = true) (h0 : s0.Fits g s) : s0.Fits g (State.refConnect s l) := by
  refine fits_app hle ?_ h0
  unfold State.refConnect
  repeat' first
    | ((with_reducible refine side_ok ?_); exact rfl)
    | with_reducible assumption
    | ((with_reducible refine keep_goal ?_); exact keep_refl)
    | with_reducible exact fits_refl _ _
    | (extract_lets +onlyGivenNames x
       first
       | (refine fits_cut (p := State.Fits (Foot.of [0x01] []) s x) ?_ ?_; rotate_left; intro hx; clear_value x; rotate_left; subst x)
       | (refine part_cut (α := type_of% x) (by constructor) ?_; subst x)
       | clear_value x
       | subst x)
    | with_reducible apply put_fits
    | ((with_reducible refine side_ok ?_); exact lnk_unit rfl)
    | split

theorem refLost_fits {g : Foot} {s0 : State} (s : State) (hle : (Foot.of [0x01] [.quartz]).le g = true) (h0 : s0.Fits g s) : s0.Fits g (State.refLost s) := by
  refine fits_app hle ?_ h0
  unfold State.refLost
  repeat' first
    | ((with_reducible refine side_ok ?_); exact rfl)
    | with_reducible assumption
    | ((with_reducible refine keep_goal ?_); exact keep_refl)
    | ((with_reducible refine keep_ok ?_); intro h; simpa [Saf.shaped, Quartz.shaped, Cmd.shaped, Glare.shaped, Gov.shaped, Cal.shaped, Flx.shaped, Fus.shaped, Upd.shaped] using h)
    | with_reducible exact fits_refl _ _
    | (extract_lets +onlyGivenNames x
       first
       | (refine fits_cut (p := State.Fits (Foot.of [0x01] [.quartz]) s x) ?_ ?_; rotate_left; intro hx; clear_value x; rotate_left; subst x)
       | (refine part_cut (α := type_of% x) (by constructor) ?_; subst x)
       | clear_value x
       | subst x)
    | with_reducible apply put_fits
    | with_reducible apply evt_fits
    | with_reducible apply withQuartz_fits
    | with_reducible apply withQuartz_fits
    | ((with_reducible refine side_ok ?_); unfold lossFld; split <;> exact rfl)
    | split

theorem switchTo_fits {g : Foot} {s0 : State} (s : State) (l : Nat) (hle : (Foot.of [0x01] [.quartz]).le g = true) (h0 : s0.Fits g s) : s0.Fits g (State.switchTo s l) := by
  refine fits_app hle ?_ h0
  unfold State.switchTo
  repeat' first
    | ((with_reducible refine side_ok ?_); exact rfl)
    | with_reducible assumption
    | ((with_reducible refine keep_goal ?_); exact keep_refl)
    | with_reducible exact fits_refl _ _
    | (extract_lets +onlyGivenNames x
       first
       | (refine fits_cut (p := State.Fits (Foot.of [0x01] [.quartz]) s x) ?_ ?_; rotate_left; intro hx; clear_value x; rotate_left; subst x)
       | (refine part_cut (α := type_of% x) (by constructor) ?_; subst x)
       | clear_value x
       | subst x)
    | with_reducible apply put_fits
    | with_reducible apply withQuartz_fits
    | with_reducible apply withQuartz_fits
    | split

theorem leaveHoldover_fits {g : Foot} {s0 : State} (s : State) (hle : (Foot.of [0x01] [.quartz]).le g = true) (h0 : s0.Fits g s) : s0.Fits g (State.leaveHoldover s) := by
  refine fits_app hle ?_ h0
  unfold State.leaveHoldover
  repeat' first
    | ((with_reducible refine side_ok ?_); exact rfl)
    | with_reducible assumption
    | ((with_reducible refine keep_goal ?_); exact keep_refl)
    | with_reducible exact fits_refl _ _
    | (extract_lets +onlyGivenNames x
       first
       | (refine fits_cut (p := State.Fits (Foot.of [0x01] [.quartz]) s x) ?_ ?_; rotate_left; intro hx; clear_value x; rotate_left; subst x)
       | (refine part_cut (α := type_of% x) (by constructor) ?_; subst x)
       | clear_value x
       | subst x)
    | with_reducible apply switchTo_fits
    | split

theorem rootGate_fits {g : Foot} {s0 : State} (s : State) (next : Nat) (hle : (Foot.of [0x01, 0x0B] [.quartz]).le g = true) (h0 : s0.Fits g s) : s0.Fits g (State.rootGate s next) := by
  refine fits_app hle ?_ h0
  unfold State.rootGate
  repeat' first
    | ((with_reducible refine side_ok ?_); exact rfl)
    | with_reducible assumption
    | ((with_reducible refine keep_goal ?_); exact keep_refl)
    | ((with_reducible refine keep_ok ?_); intro h; simpa [Saf.shaped, Quartz.shaped, Cmd.shaped, Glare.shaped, Gov.shaped, Cal.shaped, Flx.shaped, Fus.shaped, Upd.shaped] using h)
    | with_reducible exact fits_refl _ _
    | (extract_lets +onlyGivenNames x
       first
       | (refine fits_cut (p := State.Fits (Foot.of [0x01, 0x0B] [.quartz]) s x) ?_ ?_; rotate_left; intro hx; clear_value x; rotate_left; subst x)
       | (refine part_cut (α := type_of% x) (by constructor) ?_; subst x)
       | clear_value x
       | subst x)
    | with_reducible apply put_fits
    | with_reducible apply withQuartz_fits
    | with_reducible apply withQuartz_fits
    | split

theorem linksLock_fits {g : Foot} {s0 : State} (s : State) (hle : (Foot.of [0x00, 0x08, 0x09, 0x0A, 0x40, 0x50, 0x68, 0x70, 0x71] [.flt, .evr, .saf, .lnkA, .lnkB, .side, .lanes]).le g = true) (h0 : s0.Fits g s) : s0.Fits g (State.linksLock s) := by
  refine fits_app hle ?_ h0
  unfold State.linksLock
  repeat' first
    | ((with_reducible refine side_ok ?_); exact rfl)
    | with_reducible assumption
    | ((with_reducible refine keep_goal ?_); exact keep_refl)
    | with_reducible exact fits_refl _ _
    | (extract_lets +onlyGivenNames x
       first
       | (refine fits_cut (p := State.Fits (Foot.of [0x00, 0x08, 0x09, 0x0A, 0x40, 0x50, 0x68, 0x70, 0x71] [.flt, .evr, .saf, .lnkA, .lnkB, .side, .lanes]) s x) ?_ ?_; rotate_left; intro hx; clear_value x; rotate_left; subst x)
       | (refine part_cut (α := type_of% x) (by constructor) ?_; subst x)
       | clear_value x
       | subst x)
    | with_reducible refine fits_foldl _ _ (fun x hx u hu => ?_) ?_
    | with_reducible apply abortFrame_fits
    | with_reducible apply linkTo_fits
    | with_reducible apply sideStep_fits
    | split

theorem linksAlign_fits {g : Foot} {s0 : State} (s : State) (hle : (Foot.of [0x08, 0x09] [.lnkA, .lnkB]).le g = true) (h0 : s0.Fits g s) : s0.Fits g (State.linksAlign s) := by
  refine fits_app hle ?_ h0
  unfold State.linksAlign
  repeat' first
    | ((with_reducible refine side_ok ?_); exact rfl)
    | with_reducible assumption
    | ((with_reducible refine keep_goal ?_); exact keep_refl)
    | with_reducible exact fits_refl _ _
    | (extract_lets +onlyGivenNames x
       first
       | (refine fits_cut (p := State.Fits (Foot.of [0x08, 0x09] [.lnkA, .lnkB]) s x) ?_ ?_; rotate_left; intro hx; clear_value x; rotate_left; subst x)
       | (refine part_cut (α := type_of% x) (by constructor) ?_; subst x)
       | clear_value x
       | subst x)
    | with_reducible refine fits_foldl _ _ (fun x hx u hu => ?_) ?_
    | with_reducible apply linkTo_fits
    | ((with_reducible refine side_ok ?_); exact lnk_unit rfl)
    | split

theorem rootLocked_fits {g : Foot} {s0 : State} (s : State) (hle : (Foot.of [0x00, 0x01, 0x02, 0x08, 0x09, 0x0B, 0x40, 0x50, 0x68, 0x70, 0x71] [.mem, .lt, .slew, .ltApplied, .flt, .evr, .saf, .rst, .quartz, .lnkA, .lnkB, .lanes, .tln, .pwr]).le g = true) (h0 : s0.Fits g s) : s0.Fits g (State.rootLocked s) := by
  refine fits_app hle ?_ h0
  unfold State.rootLocked
  repeat' first
    | ((with_reducible refine side_ok ?_); exact rfl)
    | with_reducible assumption
    | ((with_reducible refine keep_goal ?_); exact keep_refl)
    | ((with_reducible refine keep_ok ?_); intro h; simpa [Saf.shaped, Quartz.shaped, Cmd.shaped, Glare.shaped, Gov.shaped, Cal.shaped, Flx.shaped, Fus.shaped, Upd.shaped] using h)
    | with_reducible exact fits_refl _ _
    | (extract_lets +onlyGivenNames x
       first
       | (refine fits_cut (p := State.Fits (Foot.of [0x00, 0x01, 0x02, 0x08, 0x09, 0x0B, 0x40, 0x50, 0x68, 0x70, 0x71] [.mem, .lt, .slew, .ltApplied, .flt, .evr, .saf, .rst, .quartz, .lnkA, .lnkB, .lanes, .tln, .pwr]) s x) ?_ ?_; rotate_left; intro hx; clear_value x; rotate_left; subst x)
       | (refine part_cut (α := type_of% x) (by constructor) ?_; subst x)
       | clear_value x
       | subst x)
    | with_reducible apply put_fits
    | with_reducible apply bootRoot_fits
    | with_reducible apply evrStart_fits
    | with_reducible apply flintResume_fits
    | with_reducible apply lanesWake_fits
    | with_reducible apply linksAlign_fits
    | with_reducible apply settle_fits
    | with_reducible apply timerTry_fits
    | with_reducible apply withLt_fits
    | with_reducible apply withLtApplied_fits
    | with_reducible apply withPwr_fits
    | with_reducible apply withQuartz_fits
    | with_reducible apply withSlew_fits
    | with_reducible apply withLt_fits
    | with_reducible apply withLtApplied_fits
    | with_reducible apply withPwr_fits
    | with_reducible apply withQuartz_fits
    | with_reducible apply withSlew_fits
    | split

theorem refCmd_fits {g : Foot} {s0 : State} (s : State) (v : Word) (hle : (Foot.of [0x01] [.quartz]).le g = true) (h0 : s0.Fits g s) : s0.Fits g (State.refCmd s v) := by
  refine fits_app hle ?_ h0
  unfold State.refCmd
  repeat' first
    | ((with_reducible refine side_ok ?_); exact rfl)
    | with_reducible assumption
    | ((with_reducible refine keep_goal ?_); exact keep_refl)
    | with_reducible exact fits_refl _ _
    | (extract_lets +onlyGivenNames x
       first
       | (refine fits_cut (p := State.Fits (Foot.of [0x01] [.quartz]) s x) ?_ ?_; rotate_left; intro hx; clear_value x; rotate_left; subst x)
       | (refine part_cut (α := type_of% x) (by constructor) ?_; subst x)
       | clear_value x
       | subst x)
    | with_reducible apply evt_fits
    | with_reducible apply switchTo_fits
    | with_reducible apply withQuartz_fits
    | with_reducible apply withQuartz_fits
    | split

theorem muxDone_fits {g : Foot} {s0 : State} (s : State) (wait : Nat) (hle : (Foot.of [0x01] [.quartz]).le g = true) (h0 : s0.Fits g s) : s0.Fits g (State.muxDone s wait) := by
  refine fits_app hle ?_ h0
  unfold State.muxDone
  repeat' first
    | ((with_reducible refine side_ok ?_); exact rfl)
    | with_reducible assumption
    | ((with_reducible refine keep_goal ?_); exact keep_refl)
    | with_reducible exact fits_refl _ _
    | (extract_lets +onlyGivenNames x
       first
       | (refine fits_cut (p := State.Fits (Foot.of [0x01] [.quartz]) s x) ?_ ?_; rotate_left; intro hx; clear_value x; rotate_left; subst x)
       | (refine part_cut (α := type_of% x) (by constructor) ?_; subst x)
       | clear_value x
       | subst x)
    | with_reducible apply put_fits
    | with_reducible apply withQuartz_fits
    | with_reducible apply withQuartz_fits
    | split

theorem monitorTrip_fits {g : Foot} {s0 : State} (s : State) (mask : Nat) (hle : (Foot.of [0x00, 0x01, 0x40, 0x50, 0x68, 0x70, 0x71] [.flt, .evr, .saf, .lanes]).le g = true) (h0 : s0.Fits g s) : s0.Fits g (State.monitorTrip s mask) := by
  refine fits_app hle ?_ h0
  unfold State.monitorTrip
  repeat' first
    | ((with_reducible refine side_ok ?_); exact rfl)
    | with_reducible assumption
    | ((with_reducible refine keep_goal ?_); exact keep_refl)
    | with_reducible exact fits_refl _ _
    | (extract_lets +onlyGivenNames x
       first
       | (refine fits_cut (p := State.Fits (Foot.of [0x00, 0x01, 0x40, 0x50, 0x68, 0x70, 0x71] [.flt, .evr, .saf, .lanes]) s x) ?_ ?_; rotate_left; intro hx; clear_value x; rotate_left; subst x)
       | (refine part_cut (α := type_of% x) (by constructor) ?_; subst x)
       | clear_value x
       | subst x)
    | with_reducible refine fits_foldl _ _ (fun x hx u hu => ?_) ?_
    | with_reducible apply put_fits
    | with_reducible apply evt_fits
    | with_reducible apply raiseTrig_fits
    | with_reducible apply settle_fits
    | ((with_reducible refine side_ok ?_); exact tl_unit rfl)
    | ((with_reducible refine side_ok ?_); exact be_unit rfl)
    | ((with_reducible refine side_ok ?_); exact lay_unit rfl)
    | ((with_reducible refine side_ok ?_); exact crc_unit rfl)
    | ((with_reducible refine side_ok ?_); exact lnk_unit rfl)
    | split

end Sys2Proof.Laws
end

