-- ==== Sys2Proof/Laws/PowerOnFits.lean ====
section
/-! SUPPORT. Footprints of the operations of Machine/PowerOn.lean: one lemma for each, which says what it may touch and that it keeps what every command keeps. -/

set_option linter.unusedTactic false
set_option linter.unreachableTactic false

namespace Sys2Proof.Laws

open Sys2Proof.Machine

theorem rstCmd_fits {g : Foot} {s0 : State} (s : State) (v : Word) (hle : (Foot.free).le g = true) (h0 : s0.Fits g s) : s0.Fits g (State.rstCmd s v) := by
  refine fits_app hle ?_ h0
  unfold State.rstCmd
  repeat' first
    | ((with_reducible refine side_ok ?_); exact rfl)
    | with_reducible assumption
    | ((with_reducible refine keep_goal ?_); exact keep_refl)
    | with_reducible exact fits_refl _ _
    | (extract_lets +onlyGivenNames x
       first
       | (refine fits_cut (p := State.Fits (Foot.free) s x) ?_ ?_; rotate_left; intro hx; clear_value x; rotate_left; subst x)
       | (refine part_cut (α := type_of% x) (by constructor) ?_; subst x)
       | clear_value x
       | subst x)
    | with_reducible apply evt_fits
    | with_reducible apply warmReset_fits
    | split

theorem wdtCtrl_fits {g : Foot} {s0 : State} (s : State) (v : Word) (hle : (Foot.of [0x02] [.rst]).le g = true) (h0 : s0.Fits g s) : s0.Fits g (State.wdtCtrl s v) := by
  refine fits_app hle ?_ h0
  unfold State.wdtCtrl
  repeat' first
    | ((with_reducible refine side_ok ?_); exact rfl)
    | with_reducible assumption
    | ((with_reducible refine keep_goal ?_); exact keep_refl)
    | with_reducible exact fits_refl _ _
    | (extract_lets +onlyGivenNames x
       first
       | (refine fits_cut (p := State.Fits (Foot.of [0x02] [.rst]) s x) ?_ ?_; rotate_left; intro hx; clear_value x; rotate_left; subst x)
       | (refine part_cut (α := type_of% x) (by constructor) ?_; subst x)
       | clear_value x
       | subst x)
    | with_reducible apply put_fits
    | with_reducible apply withRst_fits
    | with_reducible apply withRst_fits
    | split

theorem wdtKick_fits {g : Foot} {s0 : State} (s : State) (v : Word) (hle : (Foot.of [] [.rst]).le g = true) (h0 : s0.Fits g s) : s0.Fits g (State.wdtKick s v) := by
  refine fits_app hle ?_ h0
  unfold State.wdtKick
  repeat' first
    | ((with_reducible refine side_ok ?_); exact rfl)
    | with_reducible assumption
    | ((with_reducible refine keep_goal ?_); exact keep_refl)
    | with_reducible exact fits_refl _ _
    | (extract_lets +onlyGivenNames x
       first
       | (refine fits_cut (p := State.Fits (Foot.of [] [.rst]) s x) ?_ ?_; rotate_left; intro hx; clear_value x; rotate_left; subst x)
       | (refine part_cut (α := type_of% x) (by constructor) ?_; subst x)
       | clear_value x
       | subst x)
    | with_reducible apply withRst_fits
    | with_reducible apply withRst_fits
    | split

theorem bjCtrl_fits {g : Foot} {s0 : State} (s : State) (v : Word) (hle : (Foot.of [0x02] [.mem, .rst, .thm]).le g = true) (h0 : s0.Fits g s) : s0.Fits g (State.bjCtrl s v) := by
  refine fits_app hle ?_ h0
  unfold State.bjCtrl
  repeat' first
    | ((with_reducible refine side_ok ?_); exact rfl)
    | with_reducible assumption
    | ((with_reducible refine keep_goal ?_); exact keep_refl)
    | with_reducible exact fits_refl _ _
    | (extract_lets +onlyGivenNames x
       first
       | (refine fits_cut (p := State.Fits (Foot.of [0x02] [.mem, .rst, .thm]) s x) ?_ ?_; rotate_left; intro hx; clear_value x; rotate_left; subst x)
       | (refine part_cut (α := type_of% x) (by constructor) ?_; subst x)
       | clear_value x
       | subst x)
    | with_reducible apply clearAvoid_fits
    | with_reducible apply journalFlash_fits
    | split

end Sys2Proof.Laws
end

