-- ==== Sys2Proof/Laws/LinksFits.lean ====
section
/-! SUPPORT. Footprints of the operations of Machine/Links.lean: one lemma for each, which says what it may touch and that it keeps what every command keeps. -/

set_option linter.unusedTactic false
set_option linter.unreachableTactic false

namespace Sys2Proof.Laws

open Sys2Proof.Machine

theorem checkFrame_fits {g : Foot} {s0 : State} (s : State) (l : Nat) (f : Wire) (hle : (Foot.of [0x00, 0x02, 0x08, 0x09, 0x40, 0x50, 0x68, 0x70, 0x71, 0x88] [.flt, .evr, .saf, .lanes]).le g = true) (h0 : s0.Fits g s) : s0.Fits g (State.checkFrame s l f).2 := by
  refine fits_app hle ?_ h0
  unfold State.checkFrame
  repeat' first
    | ((with_reducible refine side_ok ?_); exact rfl)
    | with_reducible assumption
    | ((with_reducible refine keep_goal ?_); exact keep_refl)
    | with_reducible exact fits_refl _ _
    | (extract_lets +onlyGivenNames x
       first
       | (refine fits_cut (p := State.Fits (Foot.of [0x00, 0x02, 0x08, 0x09, 0x40, 0x50, 0x68, 0x70, 0x71, 0x88] [.flt, .evr, .saf, .lanes]) s x) ?_ ?_; rotate_left; intro hx; clear_value x; rotate_left; subst x)
       | (refine part_cut (α := type_of% x) (by constructor) ?_; subst x)
       | clear_value x
       | subst x)
    | with_reducible apply evt_fits
    | with_reducible apply incSat_fits
    | with_reducible apply abortFrame_fits
    | with_reducible apply consumeInj_fits
    | with_reducible apply detect_fits
    | with_reducible refine fwdCrc_fits_eq (by assumption) ?_ ?_
    | with_reducible apply fwdCrc_fits
    | ((with_reducible refine side_ok ?_); exact tl_unit rfl)
    | ((with_reducible refine side_ok ?_); exact be_unit rfl)
    | ((with_reducible refine side_ok ?_); exact lay_unit rfl)
    | ((with_reducible refine side_ok ?_); exact crc_unit rfl)
    | ((with_reducible refine side_ok ?_); exact lnk_unit rfl)
    | split

theorem checkFrame_fits_eq {g : Foot} {s0 : State} {s : State} {l : Nat} {f : Wire} {t : State} {r0 : Bool} (h : (State.checkFrame s l f) = (r0, t)) (hle : (Foot.of [0x00, 0x02, 0x08, 0x09, 0x40, 0x50, 0x68, 0x70, 0x71, 0x88] [.flt, .evr, .saf, .lanes]).le g = true) (h0 : s0.Fits g s) : s0.Fits g t := by
  have k := checkFrame_fits s l f hle h0
  rw [h] at k
  exact k

theorem passLock_fits {g : Foot} {s0 : State} (s : State) (l : Nat) (hle : (Foot.of [0x08, 0x09] [.lnkA, .lnkB]).le g = true) (h0 : s0.Fits g s) : s0.Fits g (State.passLock s l) := by
  refine fits_app hle ?_ h0
  unfold State.passLock
  repeat' first
    | ((with_reducible refine side_ok ?_); exact rfl)
    | with_reducible assumption
    | ((with_reducible refine keep_goal ?_); exact keep_refl)
    | with_reducible exact fits_refl _ _
    | (extract_lets +onlyGivenNames x
       first
       | (refine fits_cut (p := State.Fits (Foot.of [0x08, 0x09] [.lnkA, .lnkB]) s x) ?_ ?_; rotate_left; intro hx; clear_value x; rotate_left; subst x)
       | (refine part_cut (α := type_of% x) (by constructor) ?_; subst x)
       | clear_value x
       | subst x)
    | with_reducible apply linkTo_fits
    | ((with_reducible refine side_ok ?_); exact lnk_unit rfl)
    | split

theorem cdrLost_fits {g : Foot} {s0 : State} (s : State) (l : Nat) (hle : (Foot.of [0x01, 0x08, 0x09] [.quartz]).le g = true) (h0 : s0.Fits g s) : s0.Fits g (State.cdrLost s l) := by
  refine fits_app hle ?_ h0
  unfold State.cdrLost
  repeat' first
    | ((with_reducible refine side_ok ?_); exact rfl)
    | with_reducible assumption
    | ((with_reducible refine keep_goal ?_); exact keep_refl)
    | with_reducible exact fits_refl _ _
    | (extract_lets +onlyGivenNames x
       first
       | (refine fits_cut (p := State.Fits (Foot.of [0x01, 0x08, 0x09] [.quartz]) s x) ?_ ?_; rotate_left; intro hx; clear_value x; rotate_left; subst x)
       | (refine part_cut (α := type_of% x) (by constructor) ?_; subst x)
       | clear_value x
       | subst x)
    | with_reducible apply refLost_fits
    | with_reducible apply setLock_fits
    | split

theorem slip_fits {g : Foot} {s0 : State} (s : State) (l : Nat) (hle : (Foot.of [0x00, 0x08, 0x09, 0x40, 0x50, 0x68, 0x70, 0x71] [.flt, .evr, .saf, .lnkA, .lnkB, .lanes]).le g = true) (h0 : s0.Fits g s) : s0.Fits g (State.slip s l) := by
  refine fits_app hle ?_ h0
  unfold State.slip
  repeat' first
    | ((with_reducible refine side_ok ?_); exact rfl)
    | with_reducible assumption
    | ((with_reducible refine keep_goal ?_); exact keep_refl)
    | with_reducible exact fits_refl _ _
    | (extract_lets +onlyGivenNames x
       first
       | (refine fits_cut (p := State.Fits (Foot.of [0x00, 0x08, 0x09, 0x40, 0x50, 0x68, 0x70, 0x71] [.flt, .evr, .saf, .lnkA, .lnkB, .lanes]) s x) ?_ ?_; rotate_left; intro hx; clear_value x; rotate_left; subst x)
       | (refine part_cut (α := type_of% x) (by constructor) ?_; subst x)
       | clear_value x
       | subst x)
    | with_reducible apply evt_fits
    | with_reducible apply incSat_fits
    | with_reducible apply abortFrame_fits
    | with_reducible apply modLink_fits
    | with_reducible apply raise_fits
    | ((with_reducible refine side_ok ?_); exact tl_unit rfl)
    | ((with_reducible refine side_ok ?_); exact be_unit rfl)
    | ((with_reducible refine side_ok ?_); exact lay_unit rfl)
    | ((with_reducible refine side_ok ?_); exact crc_unit rfl)
    | ((with_reducible refine side_ok ?_); exact lnk_unit rfl)
    | split

theorem correctLt_fits {g : Foot} {s0 : State} (s : State) (l : Nat) (θ : Int) (hle : (Foot.of [0x08, 0x09, 0x0B, 0x70, 0x71] [.lt, .slew, .ltApplied, .evr]).le g = true) (h0 : s0.Fits g s) : s0.Fits g (State.correctLt s l θ) := by
  refine fits_app hle ?_ h0
  unfold State.correctLt
  repeat' first
    | ((with_reducible refine side_ok ?_); exact rfl)
    | with_reducible assumption
    | ((with_reducible refine keep_goal ?_); exact keep_refl)
    | with_reducible exact fits_refl _ _
    | (extract_lets +onlyGivenNames x
       first
       | (refine fits_cut (p := State.Fits (Foot.of [0x08, 0x09, 0x0B, 0x70, 0x71] [.lt, .slew, .ltApplied, .evr]) s x) ?_ ?_; rotate_left; intro hx; clear_value x; rotate_left; subst x)
       | (refine part_cut (α := type_of% x) (by constructor) ?_; subst x)
       | clear_value x
       | subst x)
    | with_reducible apply put_fits
    | with_reducible apply evt_fits
    | with_reducible apply event_fits
    | with_reducible apply withLt_fits
    | with_reducible apply withLtApplied_fits
    | with_reducible apply withSlew_fits
    | ((with_reducible refine side_ok ?_); exact lnk_unit rfl)
    | with_reducible apply withLt_fits
    | with_reducible apply withLtApplied_fits
    | with_reducible apply withSlew_fits
    | split

theorem exchange_fits {g : Foot} {s0 : State} (s : State) (l : Nat) (x : Exchange) (t1 : Nat) (t4 : Nat) (hle : (Foot.of [0x08, 0x09, 0x0B, 0x70, 0x71] [.lt, .slew, .ltApplied, .evr]).le g = true) (h0 : s0.Fits g s) : s0.Fits g (State.exchange s l x t1 t4) := by
  refine fits_app hle ?_ h0
  unfold State.exchange
  repeat' first
    | ((with_reducible refine side_ok ?_); exact rfl)
    | with_reducible assumption
    | ((with_reducible refine keep_goal ?_); exact keep_refl)
    | with_reducible exact fits_refl _ _
    | (extract_lets +onlyGivenNames x
       first
       | (refine fits_cut (p := State.Fits (Foot.of [0x08, 0x09, 0x0B, 0x70, 0x71] [.lt, .slew, .ltApplied, .evr]) s x) ?_ ?_; rotate_left; intro hx; clear_value x; rotate_left; subst x)
       | (refine part_cut (α := type_of% x) (by constructor) ?_; subst x)
       | clear_value x
       | subst x)
    | with_reducible apply put_fits
    | with_reducible apply correctLt_fits
    | ((with_reducible refine side_ok ?_); exact lnk_unit rfl)
    | split

end Sys2Proof.Laws
end

