-- ==== Sys2Proof/Laws/SafeFramesFits.lean ====
section
/-! SUPPORT. Footprints of the operations of Machine/SafeFrames.lean: one lemma for each, which says what it may touch and that it keeps what every command keeps. -/

set_option linter.unusedTactic false
set_option linter.unreachableTactic false

namespace Sys2Proof.Laws

open Sys2Proof.Machine

theorem mismatch_fits {g : Foot} {s0 : State} (s : State) (hle : (Foot.of [0x00, 0x0B, 0x40, 0x50, 0x68, 0x70, 0x71] [.flt, .evr, .saf, .lanes]).le g = true) (h0 : s0.Fits g s) : s0.Fits g (State.mismatch s) := by
  refine fits_app hle ?_ h0
  unfold State.mismatch
  repeat' first
    | ((with_reducible refine side_ok ?_); exact rfl)
    | with_reducible assumption
    | ((with_reducible refine keep_goal ?_); exact keep_refl)
    | with_reducible exact fits_refl _ _
    | (extract_lets +onlyGivenNames x
       first
       | (refine fits_cut (p := State.Fits (Foot.of [0x00, 0x0B, 0x40, 0x50, 0x68, 0x70, 0x71] [.flt, .evr, .saf, .lanes]) s x) ?_ ?_; rotate_left; intro hx; clear_value x; rotate_left; subst x)
       | (refine part_cut (α := type_of% x) (by constructor) ?_; subst x)
       | clear_value x
       | subst x)
    | with_reducible apply put_fits
    | with_reducible apply evt_fits
    | with_reducible apply raiseTrig_fits
    | with_reducible apply settle_fits
    | ((with_reducible refine side_ok ?_); exact tl_unit rfl)
    | ((with_reducible refine side_ok ?_); exact be_unit rfl)
    | ((with_reducible refine side_ok ?_); exact lay_unit rfl)
    | ((with_reducible refine side_ok ?_); exact crc_unit rfl)
    | ((with_reducible refine side_ok ?_); exact lnk_unit rfl)
    | split

theorem unpaired_fits {g : Foot} {s0 : State} (s : State) (l : Nat) (hle : (Foot.of [0x0B] []).le g = true) (h0 : s0.Fits g s) : s0.Fits g (State.unpaired s l) := by
  refine fits_app hle ?_ h0
  unfold State.unpaired
  repeat' first
    | ((with_reducible refine side_ok ?_); exact rfl)
    | with_reducible assumption
    | ((with_reducible refine keep_goal ?_); exact keep_refl)
    | with_reducible exact fits_refl _ _
    | (extract_lets +onlyGivenNames x
       first
       | (refine fits_cut (p := State.Fits (Foot.of [0x0B] []) s x) ?_ ?_; rotate_left; intro hx; clear_value x; rotate_left; subst x)
       | (refine part_cut (α := type_of% x) (by constructor) ?_; subst x)
       | clear_value x
       | subst x)
    | with_reducible apply evt_fits
    | ((with_reducible refine side_ok ?_); split <;> exact rfl)
    | split

theorem dropOlder_fits {g : Foot} {s0 : State} (s : State) (l : Nat) (seq : Nat) (hle : (Foot.of [0x0B] [.csf]).le g = true) (h0 : s0.Fits g s) : s0.Fits g (State.dropOlder s l seq) := by
  refine fits_app hle ?_ h0
  unfold State.dropOlder
  repeat' first
    | ((with_reducible refine side_ok ?_); exact rfl)
    | with_reducible assumption
    | ((with_reducible refine keep_goal ?_); exact keep_refl)
    | with_reducible exact fits_refl _ _
    | (extract_lets +onlyGivenNames x
       first
       | (refine fits_cut (p := State.Fits (Foot.of [0x0B] [.csf]) s x) ?_ ?_; rotate_left; intro hx; clear_value x; rotate_left; subst x)
       | (refine part_cut (α := type_of% x) (by constructor) ?_; subst x)
       | clear_value x
       | subst x)
    | with_reducible apply unpaired_fits
    | with_reducible apply withCsf_fits
    | with_reducible apply withCsf_fits
    | split

theorem flintUnlock_fits {g : Foot} {s0 : State} (s : State) (cnt : Nat) (hle : (Foot.of [0x68, 0x70, 0x71] [.evr, .csf]).le g = true) (h0 : s0.Fits g s) : s0.Fits g (State.flintUnlock s cnt) := by
  refine fits_app hle ?_ h0
  unfold State.flintUnlock
  repeat' first
    | ((with_reducible refine side_ok ?_); exact rfl)
    | with_reducible assumption
    | ((with_reducible refine keep_goal ?_); exact keep_refl)
    | with_reducible exact fits_refl _ _
    | (extract_lets +onlyGivenNames x
       first
       | (refine fits_cut (p := State.Fits (Foot.of [0x68, 0x70, 0x71] [.evr, .csf]) s x) ?_ ?_; rotate_left; intro hx; clear_value x; rotate_left; subst x)
       | (refine part_cut (α := type_of% x) (by constructor) ?_; subst x)
       | clear_value x
       | subst x)
    | with_reducible apply put_fits
    | with_reducible apply evt_fits
    | with_reducible apply event_fits
    | with_reducible apply withCsf_fits
    | with_reducible apply withCsf_fits
    | split

theorem deliver_fits {g : Foot} {s0 : State} (s : State) (p : List Byte) (hle : (Foot.of [0x0B, 0x68, 0x70, 0x71] [.evr, .csf]).le g = true) (h0 : s0.Fits g s) : s0.Fits g (State.deliver s p) := by
  refine fits_app hle ?_ h0
  unfold State.deliver
  repeat' first
    | ((with_reducible refine side_ok ?_); exact rfl)
    | with_reducible assumption
    | ((with_reducible refine keep_goal ?_); exact keep_refl)
    | with_reducible exact fits_refl _ _
    | (extract_lets +onlyGivenNames x
       first
       | (refine fits_cut (p := State.Fits (Foot.of [0x0B, 0x68, 0x70, 0x71] [.evr, .csf]) s x) ?_ ?_; rotate_left; intro hx; clear_value x; rotate_left; subst x)
       | (refine part_cut (α := type_of% x) (by constructor) ?_; subst x)
       | clear_value x
       | subst x)
    | with_reducible apply put_fits
    | with_reducible apply inc_fits
    | with_reducible apply dropOlder_fits
    | with_reducible apply flintUnlock_fits
    | with_reducible apply withCsf_fits
    | with_reducible apply withCsf_fits
    | split

theorem pendCopy_fits {g : Foot} {s0 : State} (s : State) (l : Nat) (p : List Byte) (hle : (Foot.of [0x0B] [.csf]).le g = true) (h0 : s0.Fits g s) : s0.Fits g (State.pendCopy s l p) := by
  refine fits_app hle ?_ h0
  unfold State.pendCopy
  repeat' first
    | ((with_reducible refine side_ok ?_); exact rfl)
    | with_reducible assumption
    | ((with_reducible refine keep_goal ?_); exact keep_refl)
    | with_reducible exact fits_refl _ _
    | (extract_lets +onlyGivenNames x
       first
       | (refine fits_cut (p := State.Fits (Foot.of [0x0B] [.csf]) s x) ?_ ?_; rotate_left; intro hx; clear_value x; rotate_left; subst x)
       | (refine part_cut (α := type_of% x) (by constructor) ?_; subst x)
       | clear_value x
       | subst x)
    | with_reducible apply unpaired_fits
    | with_reducible apply withCsf_fits
    | with_reducible apply withCsf_fits
    | split

theorem unpend_fits {g : Foot} {s0 : State} (s : State) (l : Nat) (seq : Nat) (hle : (Foot.of [] [.csf]).le g = true) (h0 : s0.Fits g s) : s0.Fits g (State.unpend s l seq) := by
  refine fits_app hle ?_ h0
  unfold State.unpend
  repeat' first
    | ((with_reducible refine side_ok ?_); exact rfl)
    | with_reducible assumption
    | ((with_reducible refine keep_goal ?_); exact keep_refl)
    | with_reducible exact fits_refl _ _
    | (extract_lets +onlyGivenNames x
       first
       | (refine fits_cut (p := State.Fits (Foot.of [] [.csf]) s x) ?_ ?_; rotate_left; intro hx; clear_value x; rotate_left; subst x)
       | (refine part_cut (α := type_of% x) (by constructor) ?_; subst x)
       | clear_value x
       | subst x)
    | with_reducible apply withCsf_fits
    | with_reducible apply withCsf_fits
    | split

theorem pair_fits {g : Foot} {s0 : State} (s : State) (l : Nat) (p : List Byte) (hle : (Foot.of [0x00, 0x0B, 0x40, 0x50, 0x68, 0x70, 0x71] [.flt, .evr, .saf, .csf, .lanes]).le g = true) (h0 : s0.Fits g s) : s0.Fits g (State.pair s l p) := by
  refine fits_app hle ?_ h0
  unfold State.pair
  repeat' first
    | ((with_reducible refine side_ok ?_); exact rfl)
    | with_reducible assumption
    | ((with_reducible refine keep_goal ?_); exact keep_refl)
    | with_reducible exact fits_refl _ _
    | (extract_lets +onlyGivenNames x
       first
       | (refine fits_cut (p := State.Fits (Foot.of [0x00, 0x0B, 0x40, 0x50, 0x68, 0x70, 0x71] [.flt, .evr, .saf, .csf, .lanes]) s x) ?_ ?_; rotate_left; intro hx; clear_value x; rotate_left; subst x)
       | (refine part_cut (α := type_of% x) (by constructor) ?_; subst x)
       | clear_value x
       | subst x)
    | with_reducible apply evt_fits
    | with_reducible apply deliver_fits
    | with_reducible apply mismatch_fits
    | with_reducible apply pendCopy_fits
    | with_reducible apply unpaired_fits
    | with_reducible apply unpend_fits
    | with_reducible apply withCsf_fits
    | with_reducible apply withCsf_fits
    | split

end Sys2Proof.Laws
end

