-- ==== Sys2Proof/Laws/SideFits.lean ====
section
/-! SUPPORT. Footprints of the operations of Machine/Side.lean: one lemma for each, which says what it may touch and that it keeps what every command keeps. -/

set_option linter.unusedTactic false
set_option linter.unreachableTactic false

namespace Sys2Proof.Laws

open Sys2Proof.Machine

theorem checkSide_fits {g : Foot} {s0 : State} (s : State) (f : Wire) (hle : (Foot.of [0x0A] [.side]).le g = true) (h0 : s0.Fits g s) : s0.Fits g (State.checkSide s f).2 := by
  refine fits_app hle ?_ h0
  unfold State.checkSide
  repeat' first
    | ((with_reducible refine side_ok ?_); exact rfl)
    | with_reducible assumption
    | ((with_reducible refine keep_goal ?_); exact keep_refl)
    | with_reducible exact fits_refl _ _
    | (extract_lets +onlyGivenNames x
       first
       | (refine fits_cut (p := State.Fits (Foot.of [0x0A] [.side]) s x) ?_ ?_; rotate_left; intro hx; clear_value x; rotate_left; subst x)
       | (refine part_cut (α := type_of% x) (by constructor) ?_; subst x)
       | clear_value x
       | subst x)
    | with_reducible apply put_fits
    | with_reducible apply evt_fits
    | with_reducible apply incSat_fits
    | with_reducible apply withSide_fits
    | with_reducible apply withSide_fits
    | split

theorem checkSide_fits_eq {g : Foot} {s0 : State} {s : State} {f : Wire} {t : State} {r0 : Bool} (h : (State.checkSide s f) = (r0, t)) (hle : (Foot.of [0x0A] [.side]).le g = true) (h0 : s0.Fits g s) : s0.Fits g t := by
  have k := checkSide_fits s f hle h0
  rw [h] at k
  exact k

theorem peerRole_fits {g : Foot} {s0 : State} (s : State) (r : Nat) (hle : (Foot.of [0x00, 0x0A, 0x40, 0x50, 0x68, 0x70, 0x71] [.flt, .evr, .saf, .side, .lanes]).le g = true) (h0 : s0.Fits g s) : s0.Fits g (State.peerRole s r) := by
  refine fits_app hle ?_ h0
  unfold State.peerRole
  repeat' first
    | ((with_reducible refine side_ok ?_); exact rfl)
    | with_reducible assumption
    | ((with_reducible refine keep_goal ?_); exact keep_refl)
    | with_reducible exact fits_refl _ _
    | (extract_lets +onlyGivenNames x
       first
       | (refine fits_cut (p := State.Fits (Foot.of [0x00, 0x0A, 0x40, 0x50, 0x68, 0x70, 0x71] [.flt, .evr, .saf, .side, .lanes]) s x) ?_ ?_; rotate_left; intro hx; clear_value x; rotate_left; subst x)
       | (refine part_cut (α := type_of% x) (by constructor) ?_; subst x)
       | clear_value x
       | subst x)
    | with_reducible apply put_fits
    | with_reducible apply evt_fits
    | with_reducible apply condEnd_fits
    | with_reducible apply enterSplit_fits
    | with_reducible apply raise_fits
    | with_reducible apply withSide_fits
    | ((with_reducible refine side_ok ?_); exact tl_unit rfl)
    | ((with_reducible refine side_ok ?_); exact be_unit rfl)
    | ((with_reducible refine side_ok ?_); exact lay_unit rfl)
    | ((with_reducible refine side_ok ?_); exact crc_unit rfl)
    | ((with_reducible refine side_ok ?_); exact lnk_unit rfl)
    | with_reducible apply withSide_fits
    | split

theorem leaveSplit_fits {g : Foot} {s0 : State} (s : State) (hle : (Foot.of [0x00, 0x0A, 0x40, 0x50, 0x68, 0x70, 0x71] [.flt, .evr, .saf, .side, .lanes]).le g = true) (h0 : s0.Fits g s) : s0.Fits g (State.leaveSplit s) := by
  refine fits_app hle ?_ h0
  unfold State.leaveSplit
  repeat' first
    | ((with_reducible refine side_ok ?_); exact rfl)
    | with_reducible assumption
    | ((with_reducible refine keep_goal ?_); exact keep_refl)
    | with_reducible exact fits_refl _ _
    | (extract_lets +onlyGivenNames x
       first
       | (refine fits_cut (p := State.Fits (Foot.of [0x00, 0x0A, 0x40, 0x50, 0x68, 0x70, 0x71] [.flt, .evr, .saf, .side, .lanes]) s x) ?_ ?_; rotate_left; intro hx; clear_value x; rotate_left; subst x)
       | (refine part_cut (α := type_of% x) (by constructor) ?_; subst x)
       | clear_value x
       | subst x)
    | with_reducible apply put_fits
    | with_reducible apply evt_fits
    | with_reducible apply condEnd_fits
    | with_reducible apply event_fits
    | with_reducible apply peerRole_fits
    | split

theorem phaseError_fits {g : Foot} {s0 : State} (s : State) (peer : Int) (hle : (Foot.of [0x0A] [.side]).le g = true) (h0 : s0.Fits g s) : s0.Fits g (State.phaseError s peer) := by
  refine fits_app hle ?_ h0
  unfold State.phaseError
  repeat' first
    | ((with_reducible refine side_ok ?_); exact rfl)
    | with_reducible assumption
    | ((with_reducible refine keep_goal ?_); exact keep_refl)
    | with_reducible exact fits_refl _ _
    | (extract_lets +onlyGivenNames x
       first
       | (refine fits_cut (p := State.Fits (Foot.of [0x0A] [.side]) s x) ?_ ?_; rotate_left; intro hx; clear_value x; rotate_left; subst x)
       | (refine part_cut (α := type_of% x) (by constructor) ?_; subst x)
       | clear_value x
       | subst x)
    | with_reducible apply put_fits
    | with_reducible apply withSide_fits
    | with_reducible apply withSide_fits
    | split

end Sys2Proof.Laws
end

