-- ==== Sys2Proof/Laws/StoreFits.lean ====
section
/-! SUPPORT. Footprints of the operations of Machine/Store.lean: one lemma for each, which says what it may touch and that it keeps what every command keeps. -/

set_option linter.unusedTactic false
set_option linter.unreachableTactic false

namespace Sys2Proof.Laws

open Sys2Proof.Machine

theorem setRing_fits {g : Foot} {s0 : State} (s : State) (c : Nat) (l : List Packet) (hle : (Foot.of [] [.cmd]).le g = true) (h0 : s0.Fits g s) : s0.Fits g (State.setRing s c l) := by
  refine fits_app hle ?_ h0
  unfold State.setRing
  repeat' first
    | ((with_reducible refine side_ok ?_); exact rfl)
    | with_reducible assumption
    | ((with_reducible refine keep_goal ?_); exact keep_refl)
    | ((with_reducible refine keep_ok ?_); intro h; simpa [Saf.shaped, Quartz.shaped, Cmd.shaped, Glare.shaped, Gov.shaped, Cal.shaped, Flx.shaped, Fus.shaped, Upd.shaped] using h)
    | with_reducible exact fits_refl _ _
    | (extract_lets +onlyGivenNames x
       first
       | (refine fits_cut (p := State.Fits (Foot.of [] [.cmd]) s x) ?_ ?_; rotate_left; intro hx; clear_value x; rotate_left; subst x)
       | (refine part_cut (α := type_of% x) (by constructor) ?_; subst x)
       | clear_value x
       | subst x)
    | with_reducible apply withCmd_fits
    | with_reducible apply withCmd_fits
    | split

theorem respond_fits {g : Foot} {s0 : State} (s : State) (l : Nat) (f : List Byte) (hle : (Foot.of [] [.lnkA, .lnkB, .spi]).le g = true) (h0 : s0.Fits g s) : s0.Fits g (State.respond s l f) := by
  refine fits_app hle ?_ h0
  unfold State.respond
  repeat' first
    | ((with_reducible refine side_ok ?_); exact rfl)
    | with_reducible assumption
    | ((with_reducible refine keep_goal ?_); exact keep_refl)
    | with_reducible exact fits_refl _ _
    | (extract_lets +onlyGivenNames x
       first
       | (refine fits_cut (p := State.Fits (Foot.of [] [.lnkA, .lnkB, .spi]) s x) ?_ ?_; rotate_left; intro hx; clear_value x; rotate_left; subst x)
       | (refine part_cut (α := type_of% x) (by constructor) ?_; subst x)
       | clear_value x
       | subst x)
    | with_reducible apply queueAck_fits
    | with_reducible apply withSpi_fits
    | with_reducible apply withSpi_fits
    | split

theorem nack_fits {g : Foot} {s0 : State} (s : State) (l : Nat) (chan : Nat) (code : Nat) (seq : Nat) (exp : Nat) (aux : Nat) (hle : (Foot.of [0x10] [.lnkA, .lnkB, .spi]).le g = true) (h0 : s0.Fits g s) : s0.Fits g (State.nack s l chan code seq exp aux) := by
  refine fits_app hle ?_ h0
  unfold State.nack
  repeat' first
    | ((with_reducible refine side_ok ?_); exact rfl)
    | with_reducible assumption
    | ((with_reducible refine keep_goal ?_); exact keep_refl)
    | with_reducible exact fits_refl _ _
    | (extract_lets +onlyGivenNames x
       first
       | (refine fits_cut (p := State.Fits (Foot.of [0x10] [.lnkA, .lnkB, .spi]) s x) ?_ ?_; rotate_left; intro hx; clear_value x; rotate_left; subst x)
       | (refine part_cut (α := type_of% x) (by constructor) ?_; subst x)
       | clear_value x
       | subst x)
    | with_reducible apply evt_fits
    | with_reducible apply respond_fits
    | split

theorem replayNack_fits {g : Foot} {s0 : State} (s : State) (c : Nat) (seq : Nat) (hle : (Foot.of [] [.lnkA, .lnkB]).le g = true) (h0 : s0.Fits g s) : s0.Fits g (State.replayNack s c seq) := by
  refine fits_app hle ?_ h0
  unfold State.replayNack
  repeat' first
    | ((with_reducible refine side_ok ?_); exact rfl)
    | with_reducible assumption
    | ((with_reducible refine keep_goal ?_); exact keep_refl)
    | with_reducible exact fits_refl _ _
    | (extract_lets +onlyGivenNames x
       first
       | (refine fits_cut (p := State.Fits (Foot.of [] [.lnkA, .lnkB]) s x) ?_ ?_; rotate_left; intro hx; clear_value x; rotate_left; subst x)
       | (refine part_cut (α := type_of% x) (by constructor) ?_; subst x)
       | clear_value x
       | subst x)
    | with_reducible refine fits_foldl _ _ (fun x hx u hu => ?_) ?_
    | with_reducible apply queueAck_fits
    | split

theorem duplicate_fits {g : Foot} {s0 : State} (s : State) (p : Packet) (hle : (Foot.of [0x10] [.lnkA, .lnkB, .spi]).le g = true) (h0 : s0.Fits g s) : s0.Fits g (State.duplicate s p) := by
  refine fits_app hle ?_ h0
  unfold State.duplicate
  repeat' first
    | ((with_reducible refine side_ok ?_); exact rfl)
    | with_reducible assumption
    | ((with_reducible refine keep_goal ?_); exact keep_refl)
    | with_reducible exact fits_refl _ _
    | (extract_lets +onlyGivenNames x
       first
       | (refine fits_cut (p := State.Fits (Foot.of [0x10] [.lnkA, .lnkB, .spi]) s x) ?_ ?_; rotate_left; intro hx; clear_value x; rotate_left; subst x)
       | (refine part_cut (α := type_of% x) (by constructor) ?_; subst x)
       | clear_value x
       | subst x)
    | with_reducible apply incSat_fits
    | with_reducible apply respond_fits
    | split

theorem gap_fits {g : Foot} {s0 : State} (s : State) (p : Packet) (hle : (Foot.of [0x10] [.lnkA, .lnkB, .spi]).le g = true) (h0 : s0.Fits g s) : s0.Fits g (State.gap s p) := by
  refine fits_app hle ?_ h0
  unfold State.gap
  repeat' first
    | ((with_reducible refine side_ok ?_); exact rfl)
    | with_reducible assumption
    | ((with_reducible refine keep_goal ?_); exact keep_refl)
    | with_reducible exact fits_refl _ _
    | (extract_lets +onlyGivenNames x
       first
       | (refine fits_cut (p := State.Fits (Foot.of [0x10] [.lnkA, .lnkB, .spi]) s x) ?_ ?_; rotate_left; intro hx; clear_value x; rotate_left; subst x)
       | (refine part_cut (α := type_of% x) (by constructor) ?_; subst x)
       | clear_value x
       | subst x)
    | with_reducible apply incSat_fits
    | with_reducible apply modLink_fits
    | with_reducible apply nack_fits
    | split

theorem hold_fits {g : Foot} {s0 : State} (s : State) (p : Packet) (hle : (Foot.of [] [.lnkA, .lnkB, .spi]).le g = true) (h0 : s0.Fits g s) : s0.Fits g (State.hold s p) := by
  refine fits_app hle ?_ h0
  unfold State.hold
  repeat' first
    | ((with_reducible refine side_ok ?_); exact rfl)
    | with_reducible assumption
    | ((with_reducible refine keep_goal ?_); exact keep_refl)
    | with_reducible exact fits_refl _ _
    | (extract_lets +onlyGivenNames x
       first
       | (refine fits_cut (p := State.Fits (Foot.of [] [.lnkA, .lnkB, .spi]) s x) ?_ ?_; rotate_left; intro hx; clear_value x; rotate_left; subst x)
       | (refine part_cut (α := type_of% x) (by constructor) ?_; subst x)
       | clear_value x
       | subst x)
    | with_reducible apply modLink_fits
    | with_reducible apply withSpi_fits
    | with_reducible apply withSpi_fits
    | split

theorem sequence_fits {g : Foot} {s0 : State} (s : State) (p : Packet) (hle : (Foot.of [0x10, 0x18] [.lnkA, .lnkB, .spi]).le g = true) (h0 : s0.Fits g s) : s0.Fits g (State.sequence s p) := by
  refine fits_app hle ?_ h0
  unfold State.sequence
  repeat' first
    | ((with_reducible refine side_ok ?_); exact rfl)
    | with_reducible assumption
    | ((with_reducible refine keep_goal ?_); exact keep_refl)
    | with_reducible exact fits_refl _ _
    | (extract_lets +onlyGivenNames x
       first
       | (refine fits_cut (p := State.Fits (Foot.of [0x10, 0x18] [.lnkA, .lnkB, .spi]) s x) ?_ ?_; rotate_left; intro hx; clear_value x; rotate_left; subst x)
       | (refine part_cut (α := type_of% x) (by constructor) ?_; subst x)
       | clear_value x
       | subst x)
    | with_reducible apply evt_fits
    | with_reducible apply duplicate_fits
    | with_reducible apply gap_fits
    | with_reducible apply hold_fits
    | with_reducible apply nack_fits
    | ((with_reducible refine side_ok ?_); exact lay_unit rfl)
    | split

theorem classify_fits {g : Foot} {s0 : State} (s : State) (l : Nat) (b : List Byte) (hle : (Foot.of [0x10, 0x18] [.lnkA, .lnkB, .spi]).le g = true) (h0 : s0.Fits g s) : s0.Fits g (State.classify s l b) := by
  refine fits_app hle ?_ h0
  unfold State.classify
  repeat' first
    | ((with_reducible refine side_ok ?_); exact rfl)
    | with_reducible assumption
    | ((with_reducible refine keep_goal ?_); exact keep_refl)
    | with_reducible exact fits_refl _ _
    | (extract_lets +onlyGivenNames x
       first
       | (refine fits_cut (p := State.Fits (Foot.of [0x10, 0x18] [.lnkA, .lnkB, .spi]) s x) ?_ ?_; rotate_left; intro hx; clear_value x; rotate_left; subst x)
       | (refine part_cut (α := type_of% x) (by constructor) ?_; subst x)
       | clear_value x
       | subst x)
    | with_reducible apply nack_fits
    | with_reducible apply sequence_fits
    | split

theorem doneSeq_fits {g : Foot} {s0 : State} (s : State) (c : Nat) (seq : Nat) (hle : (Foot.of [0x10] [.cmd]).le g = true) (h0 : s0.Fits g s) : s0.Fits g (State.doneSeq s c seq) := by
  refine fits_app hle ?_ h0
  unfold State.doneSeq
  repeat' first
    | ((with_reducible refine side_ok ?_); exact rfl)
    | with_reducible assumption
    | ((with_reducible refine keep_goal ?_); exact keep_refl)
    | ((with_reducible refine keep_ok ?_); intro h; simpa [Saf.shaped, Quartz.shaped, Cmd.shaped, Glare.shaped, Gov.shaped, Cal.shaped, Flx.shaped, Fus.shaped, Upd.shaped] using h)
    | with_reducible exact fits_refl _ _
    | (extract_lets +onlyGivenNames x
       first
       | (refine fits_cut (p := State.Fits (Foot.of [0x10] [.cmd]) s x) ?_ ?_; rotate_left; intro hx; clear_value x; rotate_left; subst x)
       | (refine part_cut (α := type_of% x) (by constructor) ?_; subst x)
       | clear_value x
       | subst x)
    | with_reducible apply put_fits
    | with_reducible apply withCmd_fits
    | with_reducible apply withCmd_fits
    | split

theorem drainNoop_fits {g : Foot} {s0 : State} (s : State) (c : Nat) (k : Nat) (hle : (Foot.of [0x10] [.cmd]).le g = true) (h0 : s0.Fits g s) : s0.Fits g (State.drainNoop s c k) := by
  induction k generalizing s c with
  | zero => exact h0
  | succ k ih =>
    unfold State.drainNoop
    repeat' first
      | with_reducible assumption
      | ((with_reducible refine keep_goal ?_); exact keep_refl)
      | ((with_reducible refine keep_ok ?_); intro h; simpa [Saf.shaped, Quartz.shaped, Cmd.shaped, Glare.shaped, Gov.shaped, Cal.shaped, Flx.shaped, Fus.shaped, Upd.shaped] using h)
      | ((with_reducible refine side_ok ?_); first | exact unit_via rfl hle | exact part_via rfl hle | exact le_via rfl hle)
      | with_reducible exact fits_refl _ _
      | (extract_lets +onlyGivenNames x
         first
         | (refine fits_cut (p := State.Fits (g) s0 x) ?_ ?_; rotate_left; intro hx; clear_value x; rotate_left; subst x)
         | (refine part_cut (α := type_of% x) (by constructor) ?_; subst x)
         | clear_value x
         | subst x)
      | with_reducible apply ih
      | with_reducible apply doneSeq_fits
      | with_reducible apply setRing_fits
      | split

theorem doneHead_fits {g : Foot} {s0 : State} (s : State) (c : Nat) (hle : (Foot.of [0x10] [.cmd]).le g = true) (h0 : s0.Fits g s) : s0.Fits g (State.doneHead s c) := by
  refine fits_app hle ?_ h0
  unfold State.doneHead
  repeat' first
    | ((with_reducible refine side_ok ?_); exact rfl)
    | with_reducible assumption
    | ((with_reducible refine keep_goal ?_); exact keep_refl)
    | with_reducible exact fits_refl _ _
    | (extract_lets +onlyGivenNames x
       first
       | (refine fits_cut (p := State.Fits (Foot.of [0x10] [.cmd]) s x) ?_ ?_; rotate_left; intro hx; clear_value x; rotate_left; subst x)
       | (refine part_cut (α := type_of% x) (by constructor) ?_; subst x)
       | clear_value x
       | subst x)
    | with_reducible apply doneSeq_fits
    | with_reducible apply drainNoop_fits
    | with_reducible apply setRing_fits
    | split

theorem doneUpTo_fits {g : Foot} {s0 : State} (s : State) (seq : Nat) (superseded : Bool) (k : Nat) (hle : (Foot.of [0x10, 0x30] [.cmd]).le g = true) (h0 : s0.Fits g s) : s0.Fits g (State.doneUpTo s seq superseded k) := by
  induction k generalizing s seq superseded with
  | zero => exact h0
  | succ k ih =>
    unfold State.doneUpTo
    repeat' first
      | with_reducible assumption
      | ((with_reducible refine keep_goal ?_); exact keep_refl)
      | ((with_reducible refine keep_ok ?_); intro h; simpa [Saf.shaped, Quartz.shaped, Cmd.shaped, Glare.shaped, Gov.shaped, Cal.shaped, Flx.shaped, Fus.shaped, Upd.shaped] using h)
      | ((with_reducible refine side_ok ?_); first | exact unit_via rfl hle | exact part_via rfl hle | exact le_via rfl hle)
      | with_reducible exact fits_refl _ _
      | (extract_lets +onlyGivenNames x
         first
         | (refine fits_cut (p := State.Fits (g) s0 x) ?_ ?_; rotate_left; intro hx; clear_value x; rotate_left; subst x)
         | (refine part_cut (α := type_of% x) (by constructor) ?_; subst x)
         | clear_value x
         | subst x)
      | with_reducible apply ih
      | with_reducible apply incSat_fits
      | with_reducible apply doneSeq_fits
      | with_reducible apply setRing_fits
      | split

theorem checkCopies_fits {g : Foot} {s0 : State} (s : State) (copies : Nat) (hle : (Foot.of [0x00, 0x10, 0x40, 0x50, 0x68, 0x70, 0x71] [.flt, .evr, .saf, .lnkA, .lnkB, .cmd, .lanes]).le g = true) (h0 : s0.Fits g s) : s0.Fits g (State.checkCopies s copies).2 := by
  refine fits_app hle ?_ h0
  unfold State.checkCopies
  repeat' first
    | ((with_reducible refine side_ok ?_); exact rfl)
    | with_reducible assumption
    | ((with_reducible refine keep_goal ?_); exact keep_refl)
    | with_reducible exact fits_refl _ _
    | (extract_lets +onlyGivenNames x
       first
       | (refine fits_cut (p := State.Fits (Foot.of [0x00, 0x10, 0x40, 0x50, 0x68, 0x70, 0x71] [.flt, .evr, .saf, .lnkA, .lnkB, .cmd, .lanes]) s x) ?_ ?_; rotate_left; intro hx; clear_value x; rotate_left; subst x)
       | (refine part_cut (α := type_of% x) (by constructor) ?_; subst x)
       | clear_value x
       | subst x)
    | with_reducible refine fits_foldl _ _ (fun x hx u hu => ?_) ?_
    | with_reducible apply put_fits
    | with_reducible apply evt_fits
    | with_reducible apply consumeInj_fits
    | with_reducible apply raise_fits
    | with_reducible apply raiseWith_fits
    | with_reducible apply replayNack_fits
    | with_reducible apply setRing_fits
    | ((with_reducible refine side_ok ?_); exact tl_unit rfl)
    | ((with_reducible refine side_ok ?_); exact be_unit rfl)
    | ((with_reducible refine side_ok ?_); exact lay_unit rfl)
    | ((with_reducible refine side_ok ?_); exact crc_unit rfl)
    | ((with_reducible refine side_ok ?_); exact lnk_unit rfl)
    | split

theorem checkCopies_fits_eq {g : Foot} {s0 : State} {s : State} {copies : Nat} {t : State} {r0 : Bool} (h : (State.checkCopies s copies) = (r0, t)) (hle : (Foot.of [0x00, 0x10, 0x40, 0x50, 0x68, 0x70, 0x71] [.flt, .evr, .saf, .lnkA, .lnkB, .cmd, .lanes]).le g = true) (h0 : s0.Fits g s) : s0.Fits g t := by
  have k := checkCopies_fits s copies hle h0
  rw [h] at k
  exact k

theorem newList_fits {g : Foot} {s0 : State} (s : State) (p : Packet) (hle : (Foot.of [0x10, 0x30] [.cmd, .glare, .gov]).le g = true) (h0 : s0.Fits g s) : s0.Fits g (State.newList s p) := by
  refine fits_app hle ?_ h0
  unfold State.newList
  repeat' first
    | ((with_reducible refine side_ok ?_); exact rfl)
    | with_reducible assumption
    | ((with_reducible refine keep_goal ?_); exact keep_refl)
    | with_reducible exact fits_refl _ _
    | (extract_lets +onlyGivenNames x
       first
       | (refine fits_cut (p := State.Fits (Foot.of [0x10, 0x30] [.cmd, .glare, .gov]) s x) ?_ ?_; rotate_left; intro hx; clear_value x; rotate_left; subst x)
       | (refine part_cut (α := type_of% x) (by constructor) ?_; subst x)
       | clear_value x
       | subst x)
    | with_reducible apply doneUpTo_fits
    | with_reducible apply withGlare_fits
    | with_reducible apply withGov_fits
    | with_reducible apply withGlare_fits
    | with_reducible apply withGov_fits
    | split

theorem accept_fits {g : Foot} {s0 : State} (s : State) (p : Packet) (hle : (Foot.of [0x10, 0x30] [.lnkA, .lnkB, .spi, .cmd, .glare, .gov]).le g = true) (h0 : s0.Fits g s) : s0.Fits g (State.accept s p) := by
  refine fits_app hle ?_ h0
  unfold State.accept
  repeat' first
    | ((with_reducible refine side_ok ?_); exact rfl)
    | with_reducible assumption
    | ((with_reducible refine keep_goal ?_); exact keep_refl)
    | with_reducible exact fits_refl _ _
    | (extract_lets +onlyGivenNames x
       first
       | (refine fits_cut (p := State.Fits (Foot.of [0x10, 0x30] [.lnkA, .lnkB, .spi, .cmd, .glare, .gov]) s x) ?_ ?_; rotate_left; intro hx; clear_value x; rotate_left; subst x)
       | (refine part_cut (α := type_of% x) (by constructor) ?_; subst x)
       | clear_value x
       | subst x)
    | with_reducible apply inc_fits
    | with_reducible apply incSat_fits
    | with_reducible apply drainNoop_fits
    | with_reducible apply modLink_fits
    | with_reducible apply newList_fits
    | with_reducible apply respond_fits
    | with_reducible apply setRing_fits
    | split

theorem unhold_fits {g : Foot} {s0 : State} (s : State) (l : Nat) (hle : (Foot.of [0x10] [.flt, .lnkA, .lnkB, .spi]).le g = true) (h0 : s0.Fits g s) : s0.Fits g (State.unhold s l) := by
  refine fits_app hle ?_ h0
  unfold State.unhold
  repeat' first
    | ((with_reducible refine side_ok ?_); exact rfl)
    | with_reducible assumption
    | ((with_reducible refine keep_goal ?_); exact keep_refl)
    | with_reducible exact fits_refl _ _
    | (extract_lets +onlyGivenNames x
       first
       | (refine fits_cut (p := State.Fits (Foot.of [0x10] [.flt, .lnkA, .lnkB, .spi]) s x) ?_ ?_; rotate_left; intro hx; clear_value x; rotate_left; subst x)
       | (refine part_cut (α := type_of% x) (by constructor) ?_; subst x)
       | clear_value x
       | subst x)
    | with_reducible apply condEnd_fits
    | with_reducible apply modLink_fits
    | with_reducible apply withSpi_fits
    | with_reducible apply withSpi_fits
    | split

theorem storeWaiting_fits {g : Foot} {s0 : State} (s : State) (l : Nat) (copies : Nat) (hle : (Foot.of [0x00, 0x10, 0x18, 0x30, 0x40, 0x50, 0x68, 0x70, 0x71] [.flt, .evr, .saf, .lnkA, .lnkB, .spi, .cmd, .glare, .lanes, .gov]).le g = true) (h0 : s0.Fits g s) : s0.Fits g (State.storeWaiting s l copies) := by
  refine fits_app hle ?_ h0
  unfold State.storeWaiting
  repeat' first
    | ((with_reducible refine side_ok ?_); exact rfl)
    | with_reducible assumption
    | ((with_reducible refine keep_goal ?_); exact keep_refl)
    | with_reducible exact fits_refl _ _
    | (extract_lets +onlyGivenNames x
       first
       | (refine fits_cut (p := State.Fits (Foot.of [0x00, 0x10, 0x18, 0x30, 0x40, 0x50, 0x68, 0x70, 0x71] [.flt, .evr, .saf, .lnkA, .lnkB, .spi, .cmd, .glare, .lanes, .gov]) s x) ?_ ?_; rotate_left; intro hx; clear_value x; rotate_left; subst x)
       | (refine part_cut (α := type_of% x) (by constructor) ?_; subst x)
       | clear_value x
       | subst x)
    | with_reducible apply accept_fits
    | with_reducible refine checkCopies_fits_eq (by assumption) ?_ ?_
    | with_reducible apply checkCopies_fits
    | with_reducible apply sequence_fits
    | with_reducible apply unhold_fits
    | split

theorem replay_fits {g : Foot} {s0 : State} (s : State) (c : Nat) (hle : (Foot.of [0x00, 0x10, 0x40, 0x50, 0x68, 0x70, 0x71] [.flt, .evr, .saf, .lnkA, .lnkB, .cmd, .glare, .lanes, .fresh]).le g = true) (h0 : s0.Fits g s) : s0.Fits g (State.replay s c) := by
  refine fits_app hle ?_ h0
  unfold State.replay
  repeat' first
    | ((with_reducible refine side_ok ?_); exact rfl)
    | with_reducible assumption
    | ((with_reducible refine keep_goal ?_); exact keep_refl)
    | with_reducible exact fits_refl _ _
    | (extract_lets +onlyGivenNames x
       first
       | (refine fits_cut (p := State.Fits (Foot.of [0x00, 0x10, 0x40, 0x50, 0x68, 0x70, 0x71] [.flt, .evr, .saf, .lnkA, .lnkB, .cmd, .glare, .lanes, .fresh]) s x) ?_ ?_; rotate_left; intro hx; clear_value x; rotate_left; subst x)
       | (refine part_cut (α := type_of% x) (by constructor) ?_; subst x)
       | clear_value x
       | subst x)
    | with_reducible apply put_fits
    | with_reducible apply evt_fits
    | with_reducible refine free_fits_eq (by assumption) ?_ ?_
    | with_reducible apply free_fits
    | with_reducible apply consumeInj_fits
    | with_reducible apply raiseWith_fits
    | with_reducible apply replayNack_fits
    | with_reducible apply setRing_fits
    | with_reducible apply withGlare_fits
    | ((with_reducible refine side_ok ?_); exact tl_unit rfl)
    | ((with_reducible refine side_ok ?_); exact be_unit rfl)
    | ((with_reducible refine side_ok ?_); exact lay_unit rfl)
    | ((with_reducible refine side_ok ?_); exact crc_unit rfl)
    | ((with_reducible refine side_ok ?_); exact lnk_unit rfl)
    | with_reducible apply withGlare_fits
    | split

end Sys2Proof.Laws
end

