-- ==== Sys2Proof/Laws/BanksFits.lean ====
section
/-! SUPPORT. Footprints of the operations of Machine/Banks.lean: one lemma for each, which says what it may touch and that it keeps what every command keeps. -/

namespace Sys2Proof.Laws

open Sys2Proof.Machine

theorem keys_page {s : State} {bank : List (Nat × Word)} {p a : Nat} (h : a ∈ s.keys bank p) : a / 4096 = p := by
  simp only [State.keys, List.mem_filter, decide_eq_true_eq] at h; exact h.2

theorem mem_onlyPage {l : List (Nat × Word)} {p : Nat} {e : Nat × Word} (h : e ∈ onlyPage l p) : e.1 / 4096 = p := by
  simp only [onlyPage, List.mem_filter, decide_eq_true_eq] at h; exact h.2

/-- Entries of one page put in the place of those of another table keep the canonical form. -/
theorem replacePage_wf {l m : List (Nat × Word)} (p : Nat) (hl : tabWf resetWord l = true) (hm : tabWf resetWord m = true) :
    tabWf resetWord (replacePage l m p) = true := by
  unfold replacePage
  refine tabWf_append (tabWf_append (tabWf_filter _ hl) (tabWf_filter _ hm) ?_) (tabWf_filter _ hl) ?_
  · intro e he f hf
    have h1 := mem_onlyPage hf
    simp only [List.mem_filter, decide_eq_true_eq] at he
    omega
  · intro e he f hf
    simp only [List.mem_filter, decide_eq_true_eq] at hf
    rcases List.mem_append.1 he with he | he
    · simp only [List.mem_filter, decide_eq_true_eq] at he; omega
    · have h1 := mem_onlyPage he; omega

/-- Fields that land stay on their page. -/
theorem land_fits {g : Foot} {s0 : State} (s : State) (bank : List (Nat × Word)) (p : Nat) (hp : g.hasUnit (groupPage p) = true) (h0 : s0.Fits g s) :
    s0.Fits g (s.land bank p) := by
  unfold State.land
  refine fits_foldl _ _ (fun a ha u hu => ?_) h0
  exact setWord_fits _ (by rw [keys_page ha]; exact hp) hu

theorem land_pend (s : State) (bank : List (Nat × Word)) (p : Nat) : (s.land bank p).pend = s.pend := by
  unfold State.land
  generalize s.keys bank p = l
  induction l generalizing s with
  | nil => rfl
  | cons a t ih => exact (ih _).trans rfl

theorem acceptPage_fits {g : Foot} {s0 : State} (s : State) (p : Nat) (hp : g.hasUnit (groupPage p) = true)
    (hle : (Foot.of [] [.pend, .pendPages]).le g = true) (h0 : s0.Fits g s) : s0.Fits g (s.acceptPage p) := by
  unfold State.acceptPage
  exact put_fits _ hp (put_fits _ hp (inc_fits hp (withPendPages_fits _ (part_via rfl hle)
    (withPend_fits _ (fun h => replacePage_wf p (regsWf_pend h) (regsWf_shadow h)) (part_via rfl hle) h0))))

theorem rejectPage_fits {g : Foot} {s0 : State} (s : State) (p : Nat) (hp : g.hasUnit (groupPage p) = true) (h0 : s0.Fits g s) :
    s0.Fits g (s.rejectPage p) := put_fits _ hp (put_fits _ hp h0)

theorem apply_fits {g : Foot} {s0 : State} (s : State) (p : Nat) (hp : g.hasUnit (groupPage p) = true)
    (hle : (Foot.of [] [.pend, .pendPages]).le g = true) (h0 : s0.Fits g s) : s0.Fits g (s.apply p) := by
  unfold State.apply
  split
  · have h1 : s0.Fits g (s.land s.pend p) := land_fits s s.pend p hp h0
    refine withPendPages_fits _ (part_via rfl hle) ?_
    have h2 : s0.Fits g (s.withPend (dropPage s.pend p)) := withPend_fits _ (fun h => tabWf_filter _ (regsWf_pend h)) (part_via rfl hle) h0
    refine withPend_fits _ (fun h => ?_) (part_via rfl hle) h1
    have hpd : (s.land s.pend p).pend = s.pend := land_pend s s.pend p
    exact tabWf_filter _ (hpd ▸ regsWf_pend h)
  · exact h0

theorem discardPage_fits {g : Foot} {s0 : State} (s : State) (p : Nat) (hle : (Foot.of [] [.shadow]).le g = true) (h0 : s0.Fits g s) :
    s0.Fits g (s.discardPage p) := by
  unfold State.discardPage
  exact fits_foldl _ _ (fun a _ u hu => setShadow_fits _ _ (part_via rfl hle) hu) h0

end Sys2Proof.Laws
end

