-- ==== Sys2Proof/Laws/FrameOpsFits.lean ====
section
/-! SUPPORT. Footprints of the operations of Machine/FrameOps.lean: one lemma for each, which says what it may touch and that it keeps what every command keeps. -/

set_option linter.unusedTactic false
set_option linter.unreachableTactic false

namespace Sys2Proof.Laws

open Sys2Proof.Machine

theorem parityOutcome_fits {g : Foot} {s0 : State} (s : State) (l : List (Nat × Nat)) (unc : Bool) (inj : Bool) (hle : (Foot.of [0x00, 0x02, 0x18, 0x40, 0x50, 0x68, 0x70, 0x71] [.flt, .evr, .saf, .lanes]).le g = true) (h0 : s0.Fits g s) : s0.Fits g (State.parityOutcome s l unc inj) := by
  refine fits_app hle ?_ h0
  unfold State.parityOutcome
  repeat' first
    | ((with_reducible refine side_ok ?_); exact rfl)
    | with_reducible assumption
    | ((with_reducible refine keep_goal ?_); exact keep_refl)
    | with_reducible exact fits_refl _ _
    | (extract_lets +onlyGivenNames x
       first
       | (refine fits_cut (p := State.Fits (Foot.of [0x00, 0x02, 0x18, 0x40, 0x50, 0x68, 0x70, 0x71] [.flt, .evr, .saf, .lanes]) s x) ?_ ?_; rotate_left; intro hx; clear_value x; rotate_left; subst x)
       | (refine part_cut (α := type_of% x) (by constructor) ?_; subst x)
       | clear_value x
       | subst x)
    | with_reducible refine fits_foldl _ _ (fun x hx u hu => ?_) ?_
    | with_reducible apply detect_fits
    | ((with_reducible refine side_ok ?_); exact tl_unit rfl)
    | ((with_reducible refine side_ok ?_); exact be_unit rfl)
    | ((with_reducible refine side_ok ?_); exact lay_unit rfl)
    | ((with_reducible refine side_ok ?_); exact crc_unit rfl)
    | ((with_reducible refine side_ok ?_); exact lnk_unit rfl)
    | split

theorem noteParity_fits {g : Foot} {s0 : State} (s : State) (l : List (Nat × Nat)) (hle : (Foot.of [0x18] []).le g = true) (h0 : s0.Fits g s) : s0.Fits g (State.noteParity s l) := by
  refine fits_app hle ?_ h0
  unfold State.noteParity
  repeat' first
    | ((with_reducible refine side_ok ?_); exact rfl)
    | with_reducible assumption
    | ((with_reducible refine keep_goal ?_); exact keep_refl)
    | with_reducible exact fits_refl _ _
    | (extract_lets +onlyGivenNames x
       first
       | (refine fits_cut (p := State.Fits (Foot.of [0x18] []) s x) ?_ ?_; rotate_left; intro hx; clear_value x; rotate_left; subst x)
       | (refine part_cut (α := type_of% x) (by constructor) ?_; subst x)
       | clear_value x
       | subst x)
    | with_reducible refine fits_foldl _ _ (fun x hx u hu => ?_) ?_
    | with_reducible apply evt_fits
    | ((with_reducible refine side_ok ?_); exact lay_unit rfl)
    | split

theorem deferFlip_fits {g : Foot} {s0 : State} (s : State) (blk : Bool) (hle : (Foot.of [0x00, 0x02, 0x18, 0x40, 0x50, 0x68, 0x70, 0x71] [.flt, .evr, .saf, .cmp, .lanes, .tln]).le g = true) (h0 : s0.Fits g s) : s0.Fits g (State.deferFlip s blk) := by
  refine fits_app hle ?_ h0
  unfold State.deferFlip
  repeat' first
    | ((with_reducible refine side_ok ?_); exact rfl)
    | with_reducible assumption
    | ((with_reducible refine keep_goal ?_); exact keep_refl)
    | with_reducible exact fits_refl _ _
    | (extract_lets +onlyGivenNames x
       first
       | (refine fits_cut (p := State.Fits (Foot.of [0x00, 0x02, 0x18, 0x40, 0x50, 0x68, 0x70, 0x71] [.flt, .evr, .saf, .cmp, .lanes, .tln]) s x) ?_ ?_; rotate_left; intro hx; clear_value x; rotate_left; subst x)
       | (refine part_cut (α := type_of% x) (by constructor) ?_; subst x)
       | clear_value x
       | subst x)
    | with_reducible refine fits_foldl _ _ (fun x hx u hu => ?_) ?_
    | with_reducible apply put_fits
    | with_reducible apply evt_fits
    | with_reducible apply incSat_fits
    | with_reducible apply detect_fits
    | with_reducible apply parityOutcome_fits
    | with_reducible apply withCmp_fits
    | with_reducible apply withTln_fits
    | ((with_reducible refine side_ok ?_); exact tl_unit rfl)
    | ((with_reducible refine side_ok ?_); exact be_unit rfl)
    | ((with_reducible refine side_ok ?_); exact lay_unit rfl)
    | ((with_reducible refine side_ok ?_); exact crc_unit rfl)
    | ((with_reducible refine side_ok ?_); exact lnk_unit rfl)
    | with_reducible apply withCmp_fits
    | with_reducible apply withTln_fits
    | split

theorem blkDefer_fits {g : Foot} {s0 : State} (s : State) (hle : (Foot.of [0x00, 0x02, 0x18, 0x40, 0x50, 0x68, 0x70, 0x71] [.flt, .evr, .saf, .cmp, .lanes, .tln]).le g = true) (h0 : s0.Fits g s) : s0.Fits g (State.blkDefer s) := by
  refine fits_app hle ?_ h0
  unfold State.blkDefer
  repeat' first
    | ((with_reducible refine side_ok ?_); exact rfl)
    | with_reducible assumption
    | ((with_reducible refine keep_goal ?_); exact keep_refl)
    | with_reducible exact fits_refl _ _
    | (extract_lets +onlyGivenNames x
       first
       | (refine fits_cut (p := State.Fits (Foot.of [0x00, 0x02, 0x18, 0x40, 0x50, 0x68, 0x70, 0x71] [.flt, .evr, .saf, .cmp, .lanes, .tln]) s x) ?_ ?_; rotate_left; intro hx; clear_value x; rotate_left; subst x)
       | (refine part_cut (α := type_of% x) (by constructor) ?_; subst x)
       | clear_value x
       | subst x)
    | with_reducible apply deferFlip_fits
    | split

theorem requestRecomp_fits {g : Foot} {s0 : State} (s : State) (r : Recomp) (hle : (Foot.of [0x00, 0x02, 0x18, 0x40, 0x50, 0x68, 0x70, 0x71] [.flt, .evr, .saf, .cmp, .lanes, .tln]).le g = true) (h0 : s0.Fits g s) : s0.Fits g (State.requestRecomp s r) := by
  refine fits_app hle ?_ h0
  unfold State.requestRecomp
  repeat' first
    | ((with_reducible refine side_ok ?_); exact rfl)
    | with_reducible assumption
    | ((with_reducible refine keep_goal ?_); exact keep_refl)
    | with_reducible exact fits_refl _ _
    | (extract_lets +onlyGivenNames x
       first
       | (refine fits_cut (p := State.Fits (Foot.of [0x00, 0x02, 0x18, 0x40, 0x50, 0x68, 0x70, 0x71] [.flt, .evr, .saf, .cmp, .lanes, .tln]) s x) ?_ ?_; rotate_left; intro hx; clear_value x; rotate_left; subst x)
       | (refine part_cut (α := type_of% x) (by constructor) ?_; subst x)
       | clear_value x
       | subst x)
    | with_reducible apply deferFlip_fits
    | with_reducible apply parityOutcome_fits
    | with_reducible apply withCmp_fits
    | with_reducible apply withCmp_fits
    | split

end Sys2Proof.Laws
end

