-- ==== Sys2Proof/Laws/CalibFits.lean ====
section
/-! SUPPORT. Footprints of the operations of Machine/Calib.lean: one lemma for each, which says what it may touch and that it keeps what every command keeps. -/

set_option linter.unusedTactic false
set_option linter.unreachableTactic false

namespace Sys2Proof.Laws

open Sys2Proof.Machine

theorem modCal_fits {g : Foot} {s0 : State} (s : State) (t : Nat) (f : CalTile → CalTile) (hle : (Foot.of [] [.cal]).le g = true) (h0 : s0.Fits g s) : s0.Fits g (State.modCal s t f) := by
  refine fits_app hle ?_ h0
  unfold State.modCal
  repeat' first
    | ((with_reducible refine side_ok ?_); exact rfl)
    | with_reducible assumption
    | ((with_reducible refine keep_goal ?_); exact keep_refl)
    | ((with_reducible refine keep_ok ?_); intro h; simpa [Saf.shaped, Quartz.shaped, Cmd.shaped, Glare.shaped, Gov.shaped, Cal.shaped, Flx.shaped, Fus.shaped, Upd.shaped] using h)
    | with_reducible exact fits_refl _ _
    | (extract_lets +onlyGivenNames x
       first
       | (refine fits_cut (p := State.Fits (Foot.of [] [.cal]) s x) ?_ ?_; rotate_left; intro hx; clear_value x; rotate_left; subst x)
       | (refine part_cut (α := type_of% x) (by constructor) ?_; subst x)
       | clear_value x
       | subst x)
    | with_reducible apply withCal_fits
    | with_reducible apply withCal_fits
    | split

theorem modFlx_fits {g : Foot} {s0 : State} (s : State) (t : Nat) (f : FlxTile → FlxTile) (hle : (Foot.of [] [.flx]).le g = true) (h0 : s0.Fits g s) : s0.Fits g (State.modFlx s t f) := by
  refine fits_app hle ?_ h0
  unfold State.modFlx
  repeat' first
    | ((with_reducible refine side_ok ?_); exact rfl)
    | with_reducible assumption
    | ((with_reducible refine keep_goal ?_); exact keep_refl)
    | ((with_reducible refine keep_ok ?_); intro h; simpa [Saf.shaped, Quartz.shaped, Cmd.shaped, Glare.shaped, Gov.shaped, Cal.shaped, Flx.shaped, Fus.shaped, Upd.shaped] using h)
    | with_reducible exact fits_refl _ _
    | (extract_lets +onlyGivenNames x
       first
       | (refine fits_cut (p := State.Fits (Foot.of [] [.flx]) s x) ?_ ?_; rotate_left; intro hx; clear_value x; rotate_left; subst x)
       | (refine part_cut (α := type_of% x) (by constructor) ?_; subst x)
       | clear_value x
       | subst x)
    | with_reducible apply withFlx_fits
    | with_reducible apply withFlx_fits
    | split

theorem calStart_fits {g : Foot} {s0 : State} (s : State) (t : Nat) (temp : Int) (own : Bool) (hle : (Foot.of [] [.cal]).le g = true) (h0 : s0.Fits g s) : s0.Fits g (State.calStart s t temp own) := by
  refine fits_app hle ?_ h0
  unfold State.calStart
  repeat' first
    | ((with_reducible refine side_ok ?_); exact rfl)
    | with_reducible assumption
    | ((with_reducible refine keep_goal ?_); exact keep_refl)
    | with_reducible exact fits_refl _ _
    | (extract_lets +onlyGivenNames x
       first
       | (refine fits_cut (p := State.Fits (Foot.of [] [.cal]) s x) ?_ ?_; rotate_left; intro hx; clear_value x; rotate_left; subst x)
       | (refine part_cut (α := type_of% x) (by constructor) ?_; subst x)
       | clear_value x
       | subst x)
    | with_reducible apply modCal_fits
    | with_reducible apply withCal_fits
    | with_reducible apply withCal_fits
    | split

theorem calStartNow_fits {g : Foot} {s0 : State} (s : State) (t : Nat) (hle : (Foot.of [] [.cal]).le g = true) (h0 : s0.Fits g s) : s0.Fits g (State.calStartNow s t) := by
  refine fits_app hle ?_ h0
  unfold State.calStartNow
  repeat' first
    | ((with_reducible refine side_ok ?_); exact rfl)
    | with_reducible assumption
    | ((with_reducible refine keep_goal ?_); exact keep_refl)
    | with_reducible exact fits_refl _ _
    | (extract_lets +onlyGivenNames x
       first
       | (refine fits_cut (p := State.Fits (Foot.of [] [.cal]) s x) ?_ ?_; rotate_left; intro hx; clear_value x; rotate_left; subst x)
       | (refine part_cut (α := type_of% x) (by constructor) ?_; subst x)
       | clear_value x
       | subst x)
    | with_reducible apply calStart_fits
    | split

theorem calTrigger_fits {g : Foot} {s0 : State} (s : State) (t : Nat) (hle : (Foot.of [] [.cal]).le g = true) (h0 : s0.Fits g s) : s0.Fits g (State.calTrigger s t) := by
  refine fits_app hle ?_ h0
  unfold State.calTrigger
  repeat' first
    | ((with_reducible refine side_ok ?_); exact rfl)
    | with_reducible assumption
    | ((with_reducible refine keep_goal ?_); exact keep_refl)
    | with_reducible exact fits_refl _ _
    | (extract_lets +onlyGivenNames x
       first
       | (refine fits_cut (p := State.Fits (Foot.of [] [.cal]) s x) ?_ ?_; rotate_left; intro hx; clear_value x; rotate_left; subst x)
       | (refine part_cut (α := type_of% x) (by constructor) ?_; subst x)
       | clear_value x
       | subst x)
    | with_reducible apply calStart_fits
    | with_reducible apply modCal_fits
    | split

theorem tempLost_fits {g : Foot} {s0 : State} (s : State) (t : Nat) (hle : (Foot.of [0x00, 0x02, 0x40, 0x48, 0x50, 0x68, 0x70, 0x71] [.flt, .evr, .saf, .lanes, .cal]).le g = true) (h0 : s0.Fits g s) : s0.Fits g (State.tempLost s t) := by
  refine fits_app hle ?_ h0
  unfold State.tempLost
  repeat' first
    | ((with_reducible refine side_ok ?_); exact rfl)
    | with_reducible assumption
    | ((with_reducible refine keep_goal ?_); exact keep_refl)
    | with_reducible exact fits_refl _ _
    | (extract_lets +onlyGivenNames x
       first
       | (refine fits_cut (p := State.Fits (Foot.of [0x00, 0x02, 0x40, 0x48, 0x50, 0x68, 0x70, 0x71] [.flt, .evr, .saf, .lanes, .cal]) s x) ?_ ?_; rotate_left; intro hx; clear_value x; rotate_left; subst x)
       | (refine part_cut (α := type_of% x) (by constructor) ?_; subst x)
       | clear_value x
       | subst x)
    | with_reducible apply put_fits
    | with_reducible apply evt_fits
    | with_reducible apply detect_fits
    | with_reducible apply modCal_fits
    | ((with_reducible refine side_ok ?_); exact tl_unit rfl)
    | ((with_reducible refine side_ok ?_); exact be_unit rfl)
    | ((with_reducible refine side_ok ?_); exact lay_unit rfl)
    | ((with_reducible refine side_ok ?_); exact crc_unit rfl)
    | ((with_reducible refine side_ok ?_); exact lnk_unit rfl)
    | split

theorem calLatch_fits {g : Foot} {s0 : State} (s : State) (hle : (Foot.of [0x48] [.cal]).le g = true) (h0 : s0.Fits g s) : s0.Fits g (State.calLatch s) := by
  refine fits_app hle ?_ h0
  unfold State.calLatch
  repeat' first
    | ((with_reducible refine side_ok ?_); exact rfl)
    | with_reducible assumption
    | ((with_reducible refine keep_goal ?_); exact keep_refl)
    | with_reducible exact fits_refl _ _
    | (extract_lets +onlyGivenNames x
       first
       | (refine fits_cut (p := State.Fits (Foot.of [0x48] [.cal]) s x) ?_ ?_; rotate_left; intro hx; clear_value x; rotate_left; subst x)
       | (refine part_cut (α := type_of% x) (by constructor) ?_; subst x)
       | clear_value x
       | subst x)
    | with_reducible refine fits_foldl _ _ (fun x hx u hu => ?_) ?_
    | with_reducible apply put_fits
    | with_reducible apply evt_fits
    | with_reducible apply incSat_fits
    | with_reducible apply modCal_fits
    | split

theorem calLoadCommit_fits {g : Foot} {s0 : State} (s : State) (before : Nat) (hle : (Foot.of [] [.cal]).le g = true) (h0 : s0.Fits g s) : s0.Fits g (State.calLoadCommit s before) := by
  refine fits_app hle ?_ h0
  unfold State.calLoadCommit
  repeat' first
    | ((with_reducible refine side_ok ?_); exact rfl)
    | with_reducible assumption
    | ((with_reducible refine keep_goal ?_); exact keep_refl)
    | with_reducible exact fits_refl _ _
    | (extract_lets +onlyGivenNames x
       first
       | (refine fits_cut (p := State.Fits (Foot.of [] [.cal]) s x) ?_ ?_; rotate_left; intro hx; clear_value x; rotate_left; subst x)
       | (refine part_cut (α := type_of% x) (by constructor) ?_; subst x)
       | clear_value x
       | subst x)
    | with_reducible refine fits_foldl _ _ (fun x hx u hu => ?_) ?_
    | with_reducible apply calStartNow_fits
    | split

theorem calCmd_fits {g : Foot} {s0 : State} (s : State) (v : Word) (hle : (Foot.of [0x48] [.cal]).le g = true) (h0 : s0.Fits g s) : s0.Fits g (State.calCmd s v) := by
  refine fits_app hle ?_ h0
  unfold State.calCmd
  repeat' first
    | ((with_reducible refine side_ok ?_); exact rfl)
    | with_reducible assumption
    | ((with_reducible refine keep_goal ?_); exact keep_refl)
    | with_reducible exact fits_refl _ _
    | (extract_lets +onlyGivenNames x
       first
       | (refine fits_cut (p := State.Fits (Foot.of [0x48] [.cal]) s x) ?_ ?_; rotate_left; intro hx; clear_value x; rotate_left; subst x)
       | (refine part_cut (α := type_of% x) (by constructor) ?_; subst x)
       | clear_value x
       | subst x)
    | with_reducible refine fits_foldl _ _ (fun x hx u hu => ?_) ?_
    | with_reducible apply put_fits
    | with_reducible apply calStartNow_fits
    | with_reducible apply withCal_fits
    | with_reducible apply withCal_fits
    | split

theorem fluxSample_fits {g : Foot} {s0 : State} (s : State) (t : Nat) (code : Nat) (hle : (Foot.of [0x00, 0x02, 0x40, 0x49, 0x50, 0x68, 0x70, 0x71] [.flt, .evr, .saf, .lanes, .flx, .fresh]).le g = true) (h0 : s0.Fits g s) : s0.Fits g (State.fluxSample s t code) := by
  refine fits_app hle ?_ h0
  unfold State.fluxSample
  repeat' first
    | ((with_reducible refine side_ok ?_); exact rfl)
    | with_reducible assumption
    | ((with_reducible refine keep_goal ?_); exact keep_refl)
    | with_reducible exact fits_refl _ _
    | (extract_lets +onlyGivenNames x
       first
       | (refine fits_cut (p := State.Fits (Foot.of [0x00, 0x02, 0x40, 0x49, 0x50, 0x68, 0x70, 0x71] [.flt, .evr, .saf, .lanes, .flx, .fresh]) s x) ?_ ?_; rotate_left; intro hx; clear_value x; rotate_left; subst x)
       | (refine part_cut (α := type_of% x) (by constructor) ?_; subst x)
       | clear_value x
       | subst x)
    | with_reducible apply put_fits
    | with_reducible apply evt_fits
    | with_reducible refine free_fits_eq (by assumption) ?_ ?_
    | with_reducible apply free_fits
    | with_reducible apply detect_fits
    | with_reducible apply modFlx_fits
    | ((with_reducible refine side_ok ?_); exact tl_unit rfl)
    | ((with_reducible refine side_ok ?_); exact be_unit rfl)
    | ((with_reducible refine side_ok ?_); exact lay_unit rfl)
    | ((with_reducible refine side_ok ?_); exact crc_unit rfl)
    | ((with_reducible refine side_ok ?_); exact lnk_unit rfl)
    | split

theorem fluxAway_fits {g : Foot} {s0 : State} (s : State) (t : Nat) (hle : (Foot.of [] [.flx]).le g = true) (h0 : s0.Fits g s) : s0.Fits g (State.fluxAway s t) := by
  refine fits_app hle ?_ h0
  unfold State.fluxAway
  repeat' first
    | ((with_reducible refine side_ok ?_); exact rfl)
    | with_reducible assumption
    | ((with_reducible refine keep_goal ?_); exact keep_refl)
    | with_reducible exact fits_refl _ _
    | (extract_lets +onlyGivenNames x
       first
       | (refine fits_cut (p := State.Fits (Foot.of [] [.flx]) s x) ?_ ?_; rotate_left; intro hx; clear_value x; rotate_left; subst x)
       | (refine part_cut (α := type_of% x) (by constructor) ?_; subst x)
       | clear_value x
       | subst x)
    | with_reducible apply modFlx_fits
    | split

theorem writeFluxRecord_fits {g : Foot} {s0 : State} (s : State) (hle : (Foot.of [] [.flx, .thm]).le g = true) (h0 : s0.Fits g s) : s0.Fits g (State.writeFluxRecord s) := by
  refine fits_app hle ?_ h0
  unfold State.writeFluxRecord
  repeat' first
    | ((with_reducible refine side_ok ?_); exact rfl)
    | with_reducible assumption
    | ((with_reducible refine keep_goal ?_); exact keep_refl)
    | with_reducible exact fits_refl _ _
    | (extract_lets +onlyGivenNames x
       first
       | (refine fits_cut (p := State.Fits (Foot.of [] [.flx, .thm]) s x) ?_ ?_; rotate_left; intro hx; clear_value x; rotate_left; subst x)
       | (refine part_cut (α := type_of% x) (by constructor) ?_; subst x)
       | clear_value x
       | subst x)
    | with_reducible apply defer_fits
    | with_reducible apply withFlx_fits
    | with_reducible apply withFlx_fits
    | split

theorem calDefault_fits {g : Foot} {s0 : State} (s : State) (t : Nat) (hle : (Foot.of [0x49] [.mem]).le g = true) (h0 : s0.Fits g s) : s0.Fits g (State.calDefault s t) := by
  refine fits_app hle ?_ h0
  unfold State.calDefault
  repeat' first
    | ((with_reducible refine side_ok ?_); exact rfl)
    | with_reducible assumption
    | ((with_reducible refine keep_goal ?_); exact keep_refl)
    | with_reducible exact fits_refl _ _
    | (extract_lets +onlyGivenNames x
       first
       | (refine fits_cut (p := State.Fits (Foot.of [0x49] [.mem]) s x) ?_ ?_; rotate_left; intro hx; clear_value x; rotate_left; subst x)
       | (refine part_cut (α := type_of% x) (by constructor) ?_; subst x)
       | clear_value x
       | subst x)
    | with_reducible apply put_fits
    | with_reducible apply setBytes_fits
    | split

end Sys2Proof.Laws
end

