-- ==== Sys2Proof/Laws/LanesFits.lean ====
section
/-! SUPPORT. Footprints of the operations of Machine/Lanes.lean: one lemma for each, which says what it may touch and that it keeps what every command keeps. -/

set_option linter.unusedTactic false
set_option linter.unreachableTactic false

namespace Sys2Proof.Laws

open Sys2Proof.Machine

theorem dirtyAll_fits {g : Foot} {s0 : State} (s : State) (n : Nat) (hle : (Foot.of [] [.lanes]).le g = true) (h0 : s0.Fits g s) : s0.Fits g (State.dirtyAll s n) := by
  refine fits_app hle ?_ h0
  unfold State.dirtyAll
  repeat' first
    | ((with_reducible refine side_ok ?_); exact rfl)
    | with_reducible assumption
    | ((with_reducible refine keep_goal ?_); exact keep_refl)
    | with_reducible exact fits_refl _ _
    | (extract_lets +onlyGivenNames x
       first
       | (refine fits_cut (p := State.Fits (Foot.of [] [.lanes]) s x) ?_ ?_; rotate_left; intro hx; clear_value x; rotate_left; subst x)
       | (refine part_cut (α := type_of% x) (by constructor) ?_; subst x)
       | clear_value x
       | subst x)
    | with_reducible apply modLane_fits
    | split

theorem sendCtl_fits {g : Foot} {s0 : State} (s : State) (n : Nat) (c : Ctl) (hle : (Foot.of [] [.lanes]).le g = true) (h0 : s0.Fits g s) : s0.Fits g (State.sendCtl s n c) := by
  refine fits_app hle ?_ h0
  unfold State.sendCtl
  repeat' first
    | ((with_reducible refine side_ok ?_); exact rfl)
    | with_reducible assumption
    | ((with_reducible refine keep_goal ?_); exact keep_refl)
    | with_reducible exact fits_refl _ _
    | (extract_lets +onlyGivenNames x
       first
       | (refine fits_cut (p := State.Fits (Foot.of [] [.lanes]) s x) ?_ ?_; rotate_left; intro hx; clear_value x; rotate_left; subst x)
       | (refine part_cut (α := type_of% x) (by constructor) ?_; subst x)
       | clear_value x
       | subst x)
    | with_reducible apply modLane_fits
    | split

theorem startCtl_fits {g : Foot} {s0 : State} (s : State) (n : Nat) (c : Ctl) (hle : (Foot.of [] [.lanes]).le g = true) (h0 : s0.Fits g s) : s0.Fits g (State.startCtl s n c) := by
  refine fits_app hle ?_ h0
  unfold State.startCtl
  repeat' first
    | ((with_reducible refine side_ok ?_); exact rfl)
    | with_reducible assumption
    | ((with_reducible refine keep_goal ?_); exact keep_refl)
    | with_reducible exact fits_refl _ _
    | (extract_lets +onlyGivenNames x
       first
       | (refine fits_cut (p := State.Fits (Foot.of [] [.lanes]) s x) ?_ ?_; rotate_left; intro hx; clear_value x; rotate_left; subst x)
       | (refine part_cut (α := type_of% x) (by constructor) ?_; subst x)
       | clear_value x
       | subst x)
    | with_reducible apply modLane_fits
    | with_reducible apply sendCtl_fits
    | split

theorem queueBand_fits {g : Foot} {s0 : State} (s : State) (n : Nat) (b : Nat) (hle : (Foot.of [] [.lanes]).le g = true) (h0 : s0.Fits g s) : s0.Fits g (State.queueBand s n b) := by
  refine fits_app hle ?_ h0
  unfold State.queueBand
  repeat' first
    | ((with_reducible refine side_ok ?_); exact rfl)
    | with_reducible assumption
    | ((with_reducible refine keep_goal ?_); exact keep_refl)
    | with_reducible exact fits_refl _ _
    | (extract_lets +onlyGivenNames x
       first
       | (refine fits_cut (p := State.Fits (Foot.of [] [.lanes]) s x) ?_ ?_; rotate_left; intro hx; clear_value x; rotate_left; subst x)
       | (refine part_cut (α := type_of% x) (by constructor) ?_; subst x)
       | clear_value x
       | subst x)
    | with_reducible apply modLane_fits
    | split

theorem queueRepush_fits {g : Foot} {s0 : State} (s : State) (n : Nat) (b : Nat) (cell0 : Nat) (w : Nat) (hle : (Foot.of [] [.lanes]).le g = true) (h0 : s0.Fits g s) : s0.Fits g (State.queueRepush s n b cell0 w) := by
  refine fits_app hle ?_ h0
  unfold State.queueRepush
  repeat' first
    | ((with_reducible refine side_ok ?_); exact rfl)
    | with_reducible assumption
    | ((with_reducible refine keep_goal ?_); exact keep_refl)
    | with_reducible exact fits_refl _ _
    | (extract_lets +onlyGivenNames x
       first
       | (refine fits_cut (p := State.Fits (Foot.of [] [.lanes]) s x) ?_ ?_; rotate_left; intro hx; clear_value x; rotate_left; subst x)
       | (refine part_cut (α := type_of% x) (by constructor) ?_; subst x)
       | clear_value x
       | subst x)
    | with_reducible apply modLane_fits
    | split

theorem lateBlank_fits {g : Foot} {s0 : State} (s : State) (n : Nat) (hle : (Foot.of [0x00, 0x40, 0x50, 0x68, 0x70, 0x71] [.flt, .evr, .saf, .lanes, .tln]).le g = true) (h0 : s0.Fits g s) : s0.Fits g (State.lateBlank s n) := by
  refine fits_app hle ?_ h0
  unfold State.lateBlank
  repeat' first
    | ((with_reducible refine side_ok ?_); exact rfl)
    | with_reducible assumption
    | ((with_reducible refine keep_goal ?_); exact keep_refl)
    | with_reducible exact fits_refl _ _
    | (extract_lets +onlyGivenNames x
       first
       | (refine fits_cut (p := State.Fits (Foot.of [0x00, 0x40, 0x50, 0x68, 0x70, 0x71] [.flt, .evr, .saf, .lanes, .tln]) s x) ?_ ?_; rotate_left; intro hx; clear_value x; rotate_left; subst x)
       | (refine part_cut (α := type_of% x) (by constructor) ?_; subst x)
       | clear_value x
       | subst x)
    | with_reducible apply evt_fits
    | with_reducible apply incSat_fits
    | with_reducible apply raise_fits
    | with_reducible apply withTln_fits
    | ((with_reducible refine side_ok ?_); exact tl_unit rfl)
    | ((with_reducible refine side_ok ?_); exact be_unit rfl)
    | ((with_reducible refine side_ok ?_); exact lay_unit rfl)
    | ((with_reducible refine side_ok ?_); exact crc_unit rfl)
    | ((with_reducible refine side_ok ?_); exact lnk_unit rfl)
    | with_reducible apply withTln_fits
    | split

theorem regionFailed_fits {g : Foot} {s0 : State} (s : State) (n : Nat) (r : Rgn) (hle : (Foot.of [0x00, 0x02, 0x18, 0x40, 0x50, 0x68, 0x70, 0x71] [.flt, .evr, .saf, .cmp, .lanes, .tln]).le g = true) (h0 : s0.Fits g s) : s0.Fits g (State.regionFailed s n r) := by
  refine fits_app hle ?_ h0
  unfold State.regionFailed
  repeat' first
    | ((with_reducible refine side_ok ?_); exact rfl)
    | with_reducible assumption
    | ((with_reducible refine keep_goal ?_); exact keep_refl)
    | with_reducible exact fits_refl _ _
    | (extract_lets +onlyGivenNames x
       first
       | (refine fits_cut (p := State.Fits (Foot.of [0x00, 0x02, 0x18, 0x40, 0x50, 0x68, 0x70, 0x71] [.flt, .evr, .saf, .cmp, .lanes, .tln]) s x) ?_ ?_; rotate_left; intro hx; clear_value x; rotate_left; subst x)
       | (refine part_cut (α := type_of% x) (by constructor) ?_; subst x)
       | clear_value x
       | subst x)
    | with_reducible apply lateBlank_fits
    | with_reducible apply modLane_fits
    | with_reducible apply requestRecomp_fits
    | split

theorem abortPacket_fits {g : Foot} {s0 : State} (s : State) (n : Nat) (hle : (Foot.of [0x00, 0x02, 0x18, 0x40, 0x50, 0x68, 0x70, 0x71] [.flt, .evr, .saf, .cmp, .lanes, .tln]).le g = true) (h0 : s0.Fits g s) : s0.Fits g (State.abortPacket s n) := by
  refine fits_app hle ?_ h0
  unfold State.abortPacket
  repeat' first
    | ((with_reducible refine side_ok ?_); exact rfl)
    | with_reducible assumption
    | ((with_reducible refine keep_goal ?_); exact keep_refl)
    | with_reducible exact fits_refl _ _
    | (extract_lets +onlyGivenNames x
       first
       | (refine fits_cut (p := State.Fits (Foot.of [0x00, 0x02, 0x18, 0x40, 0x50, 0x68, 0x70, 0x71] [.flt, .evr, .saf, .cmp, .lanes, .tln]) s x) ?_ ?_; rotate_left; intro hx; clear_value x; rotate_left; subst x)
       | (refine part_cut (α := type_of% x) (by constructor) ?_; subst x)
       | clear_value x
       | subst x)
    | with_reducible apply modLane_fits
    | with_reducible apply regionFailed_fits
    | split

theorem tileFault_fits {g : Foot} {s0 : State} (s : State) (i : Nat) (n : Nat) (masked : Bool) (hq : g.hasUnit (groupPage (srcPage i n)) = true) (hle : (Foot.of [0x00, 0x02, 0x40, 0x50, 0x68, 0x70, 0x71] [.flt, .evr, .saf, .lanes]).le g = true) (h0 : s0.Fits g s) : s0.Fits g (State.tileFault s i n masked) := by
  unfold State.tileFault
  repeat' first
    | with_reducible assumption
    | ((with_reducible refine keep_goal ?_); exact keep_refl)
    | ((with_reducible refine side_ok ?_); first | exact unit_via rfl hle | exact part_via rfl hle | exact le_via rfl hle)
    | with_reducible exact fits_refl _ _
    | (extract_lets +onlyGivenNames x
       first
       | (refine fits_cut (p := State.Fits g s0 x) ?_ ?_; rotate_left; intro hx; clear_value x; rotate_left; subst x)
       | (refine part_cut (α := type_of% x) (by constructor) ?_; subst x)
       | clear_value x
       | subst x)
    | with_reducible apply conseq_fits
    | with_reducible apply raise_fits
    | with_reducible apply raiseTrig_fits
    | ((with_reducible refine side_ok ?_); exact tl_unit rfl)
    | ((with_reducible refine side_ok ?_); exact be_unit rfl)
    | ((with_reducible refine side_ok ?_); exact lay_unit rfl)
    | ((with_reducible refine side_ok ?_); exact crc_unit rfl)
    | ((with_reducible refine side_ok ?_); exact lnk_unit rfl)
    | split

theorem dropWork_fits {g : Foot} {s0 : State} (s : State) (n : Nat) (hle : (Foot.of [] [.cmp, .lanes]).le g = true) (h0 : s0.Fits g s) : s0.Fits g (State.dropWork s n) := by
  refine fits_app hle ?_ h0
  unfold State.dropWork
  repeat' first
    | ((with_reducible refine side_ok ?_); exact rfl)
    | with_reducible assumption
    | ((with_reducible refine keep_goal ?_); exact keep_refl)
    | with_reducible exact fits_refl _ _
    | (extract_lets +onlyGivenNames x
       first
       | (refine fits_cut (p := State.Fits (Foot.of [] [.cmp, .lanes]) s x) ?_ ?_; rotate_left; intro hx; clear_value x; rotate_left; subst x)
       | (refine part_cut (α := type_of% x) (by constructor) ?_; subst x)
       | clear_value x
       | subst x)
    | with_reducible apply modLane_fits
    | with_reducible apply withCmp_fits
    | with_reducible apply withCmp_fits
    | split

theorem laneFailed_fits {g : Foot} {s0 : State} (s : State) (n : Nat) (hle : (Foot.of [0x50] [.cmp, .lanes]).le g = true) (h0 : s0.Fits g s) : s0.Fits g (State.laneFailed s n) := by
  refine fits_app hle ?_ h0
  unfold State.laneFailed
  repeat' first
    | ((with_reducible refine side_ok ?_); exact rfl)
    | with_reducible assumption
    | ((with_reducible refine keep_goal ?_); exact keep_refl)
    | with_reducible exact fits_refl _ _
    | (extract_lets +onlyGivenNames x
       first
       | (refine fits_cut (p := State.Fits (Foot.of [0x50] [.cmp, .lanes]) s x) ?_ ?_; rotate_left; intro hx; clear_value x; rotate_left; subst x)
       | (refine part_cut (α := type_of% x) (by constructor) ?_; subst x)
       | clear_value x
       | subst x)
    | with_reducible apply put_fits
    | with_reducible apply dropWork_fits
    | with_reducible apply modLane_fits
    | ((with_reducible refine side_ok ?_); exact tl_unit rfl)
    | split

theorem tileLost_fits {g : Foot} {s0 : State} (s : State) (n : Nat) (masked : Bool) (hle : (Foot.of [0x00, 0x02, 0x40, 0x50, 0x68, 0x70, 0x71] [.flt, .evr, .saf, .cmp, .lanes]).le g = true) (h0 : s0.Fits g s) : s0.Fits g (State.tileLost s n masked) := by
  refine fits_app hle ?_ h0
  unfold State.tileLost
  repeat' first
    | ((with_reducible refine side_ok ?_); exact rfl)
    | with_reducible assumption
    | ((with_reducible refine keep_goal ?_); exact keep_refl)
    | with_reducible exact fits_refl _ _
    | (extract_lets +onlyGivenNames x
       first
       | (refine fits_cut (p := State.Fits (Foot.of [0x00, 0x02, 0x40, 0x50, 0x68, 0x70, 0x71] [.flt, .evr, .saf, .cmp, .lanes]) s x) ?_ ?_; rotate_left; intro hx; clear_value x; rotate_left; subst x)
       | (refine part_cut (α := type_of% x) (by constructor) ?_; subst x)
       | clear_value x
       | subst x)
    | with_reducible apply evt_fits
    | with_reducible apply laneFailed_fits
    | with_reducible apply tileFault_fits
    | ((with_reducible refine side_ok ?_); exact tl_unit rfl)
    | ((with_reducible refine side_ok ?_); exact be_unit rfl)
    | ((with_reducible refine side_ok ?_); exact lay_unit rfl)
    | ((with_reducible refine side_ok ?_); exact crc_unit rfl)
    | ((with_reducible refine side_ok ?_); exact lnk_unit rfl)
    | split

theorem discoveryFailed_fits {g : Foot} {s0 : State} (s : State) (n : Nat) (hle : (Foot.of [0x00, 0x02, 0x40, 0x50, 0x68, 0x70, 0x71] [.flt, .evr, .saf, .cmp, .lanes]).le g = true) (h0 : s0.Fits g s) : s0.Fits g (State.discoveryFailed s n) := by
  refine fits_app hle ?_ h0
  unfold State.discoveryFailed
  repeat' first
    | ((with_reducible refine side_ok ?_); exact rfl)
    | with_reducible assumption
    | ((with_reducible refine keep_goal ?_); exact keep_refl)
    | with_reducible exact fits_refl _ _
    | (extract_lets +onlyGivenNames x
       first
       | (refine fits_cut (p := State.Fits (Foot.of [0x00, 0x02, 0x40, 0x50, 0x68, 0x70, 0x71] [.flt, .evr, .saf, .cmp, .lanes]) s x) ?_ ?_; rotate_left; intro hx; clear_value x; rotate_left; subst x)
       | (refine part_cut (α := type_of% x) (by constructor) ?_; subst x)
       | clear_value x
       | subst x)
    | with_reducible apply evt_fits
    | with_reducible apply laneFailed_fits
    | with_reducible apply raise_fits
    | with_reducible apply tileLost_fits
    | ((with_reducible refine side_ok ?_); exact tl_unit rfl)
    | ((with_reducible refine side_ok ?_); exact be_unit rfl)
    | ((with_reducible refine side_ok ?_); exact lay_unit rfl)
    | ((with_reducible refine side_ok ?_); exact crc_unit rfl)
    | ((with_reducible refine side_ok ?_); exact lnk_unit rfl)
    | split

theorem laneActive_fits {g : Foot} {s0 : State} (s : State) (n : Nat) (hle : (Foot.of [0x50] [.lanes]).le g = true) (h0 : s0.Fits g s) : s0.Fits g (State.laneActive s n) := by
  refine fits_app hle ?_ h0
  unfold State.laneActive
  repeat' first
    | ((with_reducible refine side_ok ?_); exact rfl)
    | with_reducible assumption
    | ((with_reducible refine keep_goal ?_); exact keep_refl)
    | with_reducible exact fits_refl _ _
    | (extract_lets +onlyGivenNames x
       first
       | (refine fits_cut (p := State.Fits (Foot.of [0x50] [.lanes]) s x) ?_ ?_; rotate_left; intro hx; clear_value x; rotate_left; subst x)
       | (refine part_cut (α := type_of% x) (by constructor) ?_; subst x)
       | clear_value x
       | subst x)
    | with_reducible apply put_fits
    | with_reducible apply modLane_fits
    | ((with_reducible refine side_ok ?_); exact tl_unit rfl)
    | split

theorem retrain_fits {g : Foot} {s0 : State} (s : State) (n : Nat) (hle : (Foot.of [0x00, 0x02, 0x18, 0x40, 0x50, 0x68, 0x70, 0x71] [.flt, .evr, .saf, .cmp, .lanes, .tln]).le g = true) (h0 : s0.Fits g s) : s0.Fits g (State.retrain s n) := by
  refine fits_app hle ?_ h0
  unfold State.retrain
  repeat' first
    | ((with_reducible refine side_ok ?_); exact rfl)
    | with_reducible assumption
    | ((with_reducible refine keep_goal ?_); exact keep_refl)
    | with_reducible exact fits_refl _ _
    | (extract_lets +onlyGivenNames x
       first
       | (refine fits_cut (p := State.Fits (Foot.of [0x00, 0x02, 0x18, 0x40, 0x50, 0x68, 0x70, 0x71] [.flt, .evr, .saf, .cmp, .lanes, .tln]) s x) ?_ ?_; rotate_left; intro hx; clear_value x; rotate_left; subst x)
       | (refine part_cut (α := type_of% x) (by constructor) ?_; subst x)
       | clear_value x
       | subst x)
    | with_reducible apply put_fits
    | with_reducible apply evt_fits
    | with_reducible apply abortPacket_fits
    | with_reducible apply modLane_fits
    | with_reducible apply raise_fits
    | with_reducible apply tileLost_fits
    | ((with_reducible refine side_ok ?_); exact tl_unit rfl)
    | ((with_reducible refine side_ok ?_); exact be_unit rfl)
    | ((with_reducible refine side_ok ?_); exact lay_unit rfl)
    | ((with_reducible refine side_ok ?_); exact crc_unit rfl)
    | ((with_reducible refine side_ok ?_); exact lnk_unit rfl)
    | split

theorem shutdown_fits {g : Foot} {s0 : State} (s : State) (n : Nat) (hle : (Foot.of [0x00, 0x02, 0x40, 0x50, 0x68, 0x70, 0x71] [.flt, .evr, .saf, .cmp, .lanes, .flx]).le g = true) (h0 : s0.Fits g s) : s0.Fits g (State.shutdown s n) := by
  refine fits_app hle ?_ h0
  unfold State.shutdown
  repeat' first
    | ((with_reducible refine side_ok ?_); exact rfl)
    | with_reducible assumption
    | ((with_reducible refine keep_goal ?_); exact keep_refl)
    | with_reducible exact fits_refl _ _
    | (extract_lets +onlyGivenNames x
       first
       | (refine fits_cut (p := State.Fits (Foot.of [0x00, 0x02, 0x40, 0x50, 0x68, 0x70, 0x71] [.flt, .evr, .saf, .cmp, .lanes, .flx]) s x) ?_ ?_; rotate_left; intro hx; clear_value x; rotate_left; subst x)
       | (refine part_cut (α := type_of% x) (by constructor) ?_; subst x)
       | clear_value x
       | subst x)
    | with_reducible apply put_fits
    | with_reducible apply evt_fits
    | with_reducible apply dirtyAll_fits
    | with_reducible apply dropWork_fits
    | with_reducible apply fluxAway_fits
    | with_reducible apply modLane_fits
    | with_reducible apply startCtl_fits
    | with_reducible apply tileFault_fits
    | ((with_reducible refine side_ok ?_); exact tl_unit rfl)
    | ((with_reducible refine side_ok ?_); exact be_unit rfl)
    | ((with_reducible refine side_ok ?_); exact lay_unit rfl)
    | ((with_reducible refine side_ok ?_); exact crc_unit rfl)
    | ((with_reducible refine side_ok ?_); exact lnk_unit rfl)
    | split

theorem laneEnable_fits {g : Foot} {s0 : State} (s : State) (n : Nat) (hle : (Foot.of [0x50] [.lanes]).le g = true) (h0 : s0.Fits g s) : s0.Fits g (State.laneEnable s n) := by
  refine fits_app hle ?_ h0
  unfold State.laneEnable
  repeat' first
    | ((with_reducible refine side_ok ?_); exact rfl)
    | with_reducible assumption
    | ((with_reducible refine keep_goal ?_); exact keep_refl)
    | with_reducible exact fits_refl _ _
    | (extract_lets +onlyGivenNames x
       first
       | (refine fits_cut (p := State.Fits (Foot.of [0x50] [.lanes]) s x) ?_ ?_; rotate_left; intro hx; clear_value x; rotate_left; subst x)
       | (refine part_cut (α := type_of% x) (by constructor) ?_; subst x)
       | clear_value x
       | subst x)
    | with_reducible apply laneOff_fits
    | with_reducible apply laneWake_fits
    | split

theorem laneDisable_fits {g : Foot} {s0 : State} (s : State) (n : Nat) (hle : (Foot.of [0x40, 0x50, 0x68, 0x70, 0x71] [.flt, .evr, .saf, .lanes, .flx]).le g = true) (h0 : s0.Fits g s) : s0.Fits g (State.laneDisable s n) := by
  refine fits_app hle ?_ h0
  unfold State.laneDisable
  repeat' first
    | ((with_reducible refine side_ok ?_); exact rfl)
    | with_reducible assumption
    | ((with_reducible refine keep_goal ?_); exact keep_refl)
    | with_reducible exact fits_refl _ _
    | (extract_lets +onlyGivenNames x
       first
       | (refine fits_cut (p := State.Fits (Foot.of [0x40, 0x50, 0x68, 0x70, 0x71] [.flt, .evr, .saf, .lanes, .flx]) s x) ?_ ?_; rotate_left; intro hx; clear_value x; rotate_left; subst x)
       | (refine part_cut (α := type_of% x) (by constructor) ?_; subst x)
       | clear_value x
       | subst x)
    | with_reducible apply condEnd_fits
    | with_reducible apply flintTrigger_fits
    | with_reducible apply fluxAway_fits
    | with_reducible apply laneOff_fits
    | split

theorem nextReport_fits_eq {g : Foot} {s0 : State} {s : State} {n : Nat} {r : Rgn} {t : State} (h : s.nextReport n = some (r, t))
    (hle : (Foot.of [] [.lanes]).le g = true) (h0 : s0.Fits g s) : s0.Fits g t := by
  unfold State.nextReport at h
  extract_lets l at h
  have k : ∀ f, s0.Fits g (s.modLane n f) := fun f => modLane_fits s n f hle h0
  split at h
  · cases h; exact k _
  · split at h
    · cases h; exact k _
    · cases h

theorem report_fits {g : Foot} {s0 : State} (s : State) (n : Nat) (fail : Bool) (hle : (Foot.of [0x00, 0x02, 0x18, 0x40, 0x50, 0x68, 0x70, 0x71] [.flt, .evr, .saf, .cmp, .lanes, .tln]).le g = true) (h0 : s0.Fits g s) : s0.Fits g (State.report s n fail) := by
  refine fits_app hle ?_ h0
  unfold State.report
  repeat' first
    | ((with_reducible refine side_ok ?_); exact rfl)
    | with_reducible assumption
    | ((with_reducible refine keep_goal ?_); exact keep_refl)
    | with_reducible exact fits_refl _ _
    | (extract_lets +onlyGivenNames x
       first
       | (refine fits_cut (p := State.Fits (Foot.of [0x00, 0x02, 0x18, 0x40, 0x50, 0x68, 0x70, 0x71] [.flt, .evr, .saf, .cmp, .lanes, .tln]) s x) ?_ ?_; rotate_left; intro hx; clear_value x; rotate_left; subst x)
       | (refine part_cut (α := type_of% x) (by constructor) ?_; subst x)
       | clear_value x
       | subst x)
    | with_reducible apply evt_fits
    | with_reducible apply incSat_fits
    | with_reducible apply consumeInj_fits
    | with_reducible apply detect_fits
    | with_reducible apply modLane_fits
    | with_reducible refine nextReport_fits_eq (by assumption) ?_ ?_
    | with_reducible apply regionFailed_fits
    | ((with_reducible refine side_ok ?_); exact tl_unit rfl)
    | ((with_reducible refine side_ok ?_); exact be_unit rfl)
    | ((with_reducible refine side_ok ?_); exact lay_unit rfl)
    | ((with_reducible refine side_ok ?_); exact crc_unit rfl)
    | ((with_reducible refine side_ok ?_); exact lnk_unit rfl)
    | split

theorem slot_fits {g : Foot} {s0 : State} (s : State) (n : Nat) (v : Nat) (hle : (Foot.of [0x00, 0x02, 0x18, 0x40, 0x50, 0x68, 0x70, 0x71] [.flt, .evr, .saf, .cmp, .lanes, .tln]).le g = true) (h0 : s0.Fits g s) : s0.Fits g (State.slot s n v) := by
  refine fits_app hle ?_ h0
  unfold State.slot
  repeat' first
    | ((with_reducible refine side_ok ?_); exact rfl)
    | with_reducible assumption
    | ((with_reducible refine keep_goal ?_); exact keep_refl)
    | with_reducible exact fits_refl _ _
    | (extract_lets +onlyGivenNames x
       first
       | (refine fits_cut (p := State.Fits (Foot.of [0x00, 0x02, 0x18, 0x40, 0x50, 0x68, 0x70, 0x71] [.flt, .evr, .saf, .cmp, .lanes, .tln]) s x) ?_ ?_; rotate_left; intro hx; clear_value x; rotate_left; subst x)
       | (refine part_cut (α := type_of% x) (by constructor) ?_; subst x)
       | clear_value x
       | subst x)
    | with_reducible apply put_fits
    | with_reducible apply modLane_fits
    | with_reducible apply report_fits
    | with_reducible apply tileLost_fits
    | ((with_reducible refine side_ok ?_); exact tl_unit rfl)
    | split

theorem message_fits {g : Foot} {s0 : State} (s : State) (n : Nat) (w : BitVec 64) (hle : (Foot.of [0x00, 0x40, 0x50, 0x68, 0x70, 0x71] [.flt, .evr, .saf, .lanes]).le g = true) (h0 : s0.Fits g s) : s0.Fits g (State.message s n w).2 := by
  refine fits_app hle ?_ h0
  unfold State.message
  repeat' first
    | ((with_reducible refine side_ok ?_); exact rfl)
    | with_reducible assumption
    | ((with_reducible refine keep_goal ?_); exact keep_refl)
    | with_reducible exact fits_refl _ _
    | (extract_lets +onlyGivenNames x
       first
       | (refine fits_cut (p := State.Fits (Foot.of [0x00, 0x40, 0x50, 0x68, 0x70, 0x71] [.flt, .evr, .saf, .lanes]) s x) ?_ ?_; rotate_left; intro hx; clear_value x; rotate_left; subst x)
       | (refine part_cut (α := type_of% x) (by constructor) ?_; subst x)
       | clear_value x
       | subst x)
    | with_reducible apply evt_fits
    | with_reducible apply incSat_fits
    | with_reducible apply consumeInj_fits
    | with_reducible apply raiseWith_fits
    | ((with_reducible refine side_ok ?_); exact tl_unit rfl)
    | ((with_reducible refine side_ok ?_); exact be_unit rfl)
    | ((with_reducible refine side_ok ?_); exact lay_unit rfl)
    | ((with_reducible refine side_ok ?_); exact crc_unit rfl)
    | ((with_reducible refine side_ok ?_); exact lnk_unit rfl)
    | split

theorem message_fits_eq {g : Foot} {s0 : State} {s : State} {n : Nat} {w : BitVec 64} {t : State} {r0 : Bool} (h : (State.message s n w) = (r0, t)) (hle : (Foot.of [0x00, 0x40, 0x50, 0x68, 0x70, 0x71] [.flt, .evr, .saf, .lanes]).le g = true) (h0 : s0.Fits g s) : s0.Fits g t := by
  have k := message_fits s n w hle h0
  rw [h] at k
  exact k

theorem ctlStatus_fits {g : Foot} {s0 : State} (s : State) (n : Nat) (shut : Bool) (hle : (Foot.of [0x00, 0x02, 0x40, 0x50, 0x68, 0x70, 0x71] [.flt, .evr, .saf, .cmp, .lanes, .flx]).le g = true) (h0 : s0.Fits g s) : s0.Fits g (State.ctlStatus s n shut) := by
  refine fits_app hle ?_ h0
  unfold State.ctlStatus
  repeat' first
    | ((with_reducible refine side_ok ?_); exact rfl)
    | with_reducible assumption
    | ((with_reducible refine keep_goal ?_); exact keep_refl)
    | with_reducible exact fits_refl _ _
    | (extract_lets +onlyGivenNames x
       first
       | (refine fits_cut (p := State.Fits (Foot.of [0x00, 0x02, 0x40, 0x50, 0x68, 0x70, 0x71] [.flt, .evr, .saf, .cmp, .lanes, .flx]) s x) ?_ ?_; rotate_left; intro hx; clear_value x; rotate_left; subst x)
       | (refine part_cut (α := type_of% x) (by constructor) ?_; subst x)
       | clear_value x
       | subst x)
    | with_reducible apply evt_fits
    | with_reducible apply modLane_fits
    | with_reducible apply sendCtl_fits
    | with_reducible apply shutdown_fits
    | with_reducible apply tileLost_fits
    | ((with_reducible refine side_ok ?_); exact tl_unit rfl)
    | split

theorem flipCheck_fits {g : Foot} {s0 : State} (s : State) (n : Nat) (lo : Nat) (hle : (Foot.of [0x00, 0x40, 0x50, 0x68, 0x70, 0x71] [.flt, .evr, .saf, .lanes]).le g = true) (h0 : s0.Fits g s) : s0.Fits g (State.flipCheck s n lo) := by
  refine fits_app hle ?_ h0
  unfold State.flipCheck
  repeat' first
    | ((with_reducible refine side_ok ?_); exact rfl)
    | with_reducible assumption
    | ((with_reducible refine keep_goal ?_); exact keep_refl)
    | with_reducible exact fits_refl _ _
    | (extract_lets +onlyGivenNames x
       first
       | (refine fits_cut (p := State.Fits (Foot.of [0x00, 0x40, 0x50, 0x68, 0x70, 0x71] [.flt, .evr, .saf, .lanes]) s x) ?_ ?_; rotate_left; intro hx; clear_value x; rotate_left; subst x)
       | (refine part_cut (α := type_of% x) (by constructor) ?_; subst x)
       | clear_value x
       | subst x)
    | with_reducible apply evt_fits
    | with_reducible apply modLane_fits
    | with_reducible apply raise_fits
    | ((with_reducible refine side_ok ?_); exact tl_unit rfl)
    | ((with_reducible refine side_ok ?_); exact be_unit rfl)
    | ((with_reducible refine side_ok ?_); exact lay_unit rfl)
    | ((with_reducible refine side_ok ?_); exact crc_unit rfl)
    | ((with_reducible refine side_ok ?_); exact lnk_unit rfl)
    | split

theorem otCheck_fits {g : Foot} {s0 : State} (s : State) (n : Nat) (temp : Int) (self : Bool) (hle : (Foot.of [0x00, 0x02, 0x40, 0x50, 0x68, 0x70, 0x71] [.flt, .evr, .saf, .cmp, .lanes, .flx]).le g = true) (h0 : s0.Fits g s) : s0.Fits g (State.otCheck s n temp self) := by
  refine fits_app hle ?_ h0
  unfold State.otCheck
  repeat' first
    | ((with_reducible refine side_ok ?_); exact rfl)
    | with_reducible assumption
    | ((with_reducible refine keep_goal ?_); exact keep_refl)
    | with_reducible exact fits_refl _ _
    | (extract_lets +onlyGivenNames x
       first
       | (refine fits_cut (p := State.Fits (Foot.of [0x00, 0x02, 0x40, 0x50, 0x68, 0x70, 0x71] [.flt, .evr, .saf, .cmp, .lanes, .flx]) s x) ?_ ?_; rotate_left; intro hx; clear_value x; rotate_left; subst x)
       | (refine part_cut (α := type_of% x) (by constructor) ?_; subst x)
       | clear_value x
       | subst x)
    | with_reducible apply modLane_fits
    | with_reducible apply shutdown_fits
    | split

theorem identDone_fits {g : Foot} {s0 : State} (s : State) (n : Nat) (hle : (Foot.of [0x00, 0x02, 0x40, 0x50, 0x68, 0x70, 0x71] [.flt, .evr, .saf, .cmp, .lanes]).le g = true) (h0 : s0.Fits g s) : s0.Fits g (State.identDone s n) := by
  refine fits_app hle ?_ h0
  unfold State.identDone
  repeat' first
    | ((with_reducible refine side_ok ?_); exact rfl)
    | with_reducible assumption
    | ((with_reducible refine keep_goal ?_); exact keep_refl)
    | with_reducible exact fits_refl _ _
    | (extract_lets +onlyGivenNames x
       first
       | (refine fits_cut (p := State.Fits (Foot.of [0x00, 0x02, 0x40, 0x50, 0x68, 0x70, 0x71] [.flt, .evr, .saf, .cmp, .lanes]) s x) ?_ ?_; rotate_left; intro hx; clear_value x; rotate_left; subst x)
       | (refine part_cut (α := type_of% x) (by constructor) ?_; subst x)
       | clear_value x
       | subst x)
    | with_reducible apply put_fits
    | with_reducible apply evt_fits
    | with_reducible apply laneActive_fits
    | with_reducible apply laneFailed_fits
    | with_reducible apply raise_fits
    | with_reducible apply tileLost_fits
    | ((with_reducible refine side_ok ?_); exact tl_unit rfl)
    | ((with_reducible refine side_ok ?_); exact be_unit rfl)
    | ((with_reducible refine side_ok ?_); exact lay_unit rfl)
    | ((with_reducible refine side_ok ?_); exact crc_unit rfl)
    | ((with_reducible refine side_ok ?_); exact lnk_unit rfl)
    | split

end Sys2Proof.Laws
end

