-- ==== Sys2Proof/Laws/GovernorFits.lean ====
section
/-! SUPPORT. Footprints of the operations of Machine/Governor.lean: one lemma for each, which says what it may touch and that it keeps what every command keeps. -/

set_option linter.unusedTactic false
set_option linter.unreachableTactic false

namespace Sys2Proof.Laws

open Sys2Proof.Machine

theorem govLatch_fits {g : Foot} {s0 : State} (s : State) (hle : (Foot.of [0x40, 0x70, 0x71] [.evr, .gov]).le g = true) (h0 : s0.Fits g s) : s0.Fits g (State.govLatch s) := by
  refine fits_app hle ?_ h0
  unfold State.govLatch
  repeat' first
    | ((with_reducible refine side_ok ?_); exact rfl)
    | with_reducible assumption
    | ((with_reducible refine keep_goal ?_); exact keep_refl)
    | with_reducible exact fits_refl _ _
    | (extract_lets +onlyGivenNames x
       first
       | (refine fits_cut (p := State.Fits (Foot.of [0x40, 0x70, 0x71] [.evr, .gov]) s x) ?_ ?_; rotate_left; intro hx; clear_value x; rotate_left; subst x)
       | (refine part_cut (α := type_of% x) (by constructor) ?_; subst x)
       | clear_value x
       | subst x)
    | with_reducible refine fits_foldl _ _ (fun x hx u hu => ?_) ?_
    | with_reducible apply put_fits
    | with_reducible apply incSat_fits
    | with_reducible apply event_fits
    | with_reducible apply withGov_fits
    | with_reducible apply withGov_fits
    | split

theorem govRepeat_fits {g : Foot} {s0 : State} (s : State) (hle : (Foot.of [] [.gov]).le g = true) (h0 : s0.Fits g s) : s0.Fits g (State.govRepeat s) := by
  refine fits_app hle ?_ h0
  unfold State.govRepeat
  repeat' first
    | ((with_reducible refine side_ok ?_); exact rfl)
    | with_reducible assumption
    | ((with_reducible refine keep_goal ?_); exact keep_refl)
    | with_reducible exact fits_refl _ _
    | (extract_lets +onlyGivenNames x
       first
       | (refine fits_cut (p := State.Fits (Foot.of [] [.gov]) s x) ?_ ?_; rotate_left; intro hx; clear_value x; rotate_left; subst x)
       | (refine part_cut (α := type_of% x) (by constructor) ?_; subst x)
       | clear_value x
       | subst x)
    | with_reducible apply withGov_fits
    | with_reducible apply withGov_fits
    | split

theorem setReleased_fits {g : Foot} {s0 : State} (s : State) (b : Nat) (v : List (Nat × Nat)) (hle : (Foot.of [] [.cmp]).le g = true) (h0 : s0.Fits g s) : s0.Fits g (State.setReleased s b v) := by
  refine fits_app hle ?_ h0
  unfold State.setReleased
  repeat' first
    | ((with_reducible refine side_ok ?_); exact rfl)
    | with_reducible assumption
    | ((with_reducible refine keep_goal ?_); exact keep_refl)
    | with_reducible exact fits_refl _ _
    | (extract_lets +onlyGivenNames x
       first
       | (refine fits_cut (p := State.Fits (Foot.of [] [.cmp]) s x) ?_ ?_; rotate_left; intro hx; clear_value x; rotate_left; subst x)
       | (refine part_cut (α := type_of% x) (by constructor) ?_; subst x)
       | clear_value x
       | subst x)
    | with_reducible apply withCmp_fits
    | with_reducible apply withCmp_fits
    | split

theorem releaseBand_fits {g : Foot} {s0 : State} (s : State) (b : Nat) (vals : List Nat) (zero : Bool) (hle : (Foot.of [0x40] [.cmp, .lanes, .gov]).le g = true) (h0 : s0.Fits g s) : s0.Fits g (State.releaseBand s b vals zero) := by
  refine fits_app hle ?_ h0
  unfold State.releaseBand
  repeat' first
    | ((with_reducible refine side_ok ?_); exact rfl)
    | with_reducible assumption
    | ((with_reducible refine keep_goal ?_); unfold Gov.shaped; exact keep_refl)
    | with_reducible exact fits_refl _ _
    | (extract_lets +onlyGivenNames x
       first
       | (refine fits_cut (p := State.Fits (Foot.of [0x40] [.cmp, .lanes, .gov]) s x) ?_ ?_; rotate_left; intro hx; clear_value x; rotate_left; subst x)
       | (refine part_cut (α := type_of% x) (by constructor) ?_; subst x)
       | clear_value x
       | subst x)
    | with_reducible refine fits_foldl _ _ (fun x hx u hu => ?_) ?_
    | with_reducible apply evt_fits
    | with_reducible apply queueBand_fits
    | with_reducible apply setReleased_fits
    | with_reducible apply withGov_fits
    | with_reducible apply withGov_fits
    | split
    | with_reducible refine fits_snd (by assumption) ?_
    | with_reducible refine fits_thd (by assumption) ?_
    | dsimp only

theorem graniteFault_fits {g : Foot} {s0 : State} (s : State) (i : Nat) (detail : Nat) (addr : Nat) (inj : Bool) (hq : g.hasUnit (groupPage (srcPage i 0)) = true) (hle : (Foot.of [0x00, 0x40, 0x50, 0x68, 0x70, 0x71] [.flt, .evr, .saf, .lanes]).le g = true) (h0 : s0.Fits g s) : s0.Fits g (State.graniteFault s i detail addr inj) := by
  unfold State.graniteFault
  repeat' first
    | with_reducible assumption
    | ((with_reducible refine keep_goal ?_); exact keep_refl)
    | ((with_reducible refine side_ok ?_); first | exact unit_via rfl hle | exact part_via rfl hle | exact le_via rfl hle)
    | with_reducible exact fits_refl _ _
    | (extract_lets +onlyGivenNames x
       first
       | (refine fits_cut (p := State.Fits g s0 x) ?_ ?_; rotate_left; intro hx; clear_value x; rotate_left; subst x)
       | (refine part_cut (α := type_of% x) (by constructor) ?_; subst x)
       | clear_value x
       | subst x)
    | with_reducible apply flintTrigger_fits
    | with_reducible apply raiseWith_fits
    | with_reducible apply withSaf_fits
    | ((with_reducible refine side_ok ?_); exact tl_unit rfl)
    | ((with_reducible refine side_ok ?_); exact be_unit rfl)
    | ((with_reducible refine side_ok ?_); exact lay_unit rfl)
    | ((with_reducible refine side_ok ?_); exact crc_unit rfl)
    | ((with_reducible refine side_ok ?_); exact lnk_unit rfl)
    | with_reducible apply withSaf_fits
    | split

theorem gramCor_fits {g : Foot} {s0 : State} (s : State) (addr : Nat) (inj : Bool) (hle : (Foot.of [0x00, 0x40, 0x50, 0x68, 0x70, 0x71] [.flt, .evr, .saf, .lanes]).le g = true) (h0 : s0.Fits g s) : s0.Fits g (State.gramCor s addr inj) := by
  refine fits_app hle ?_ h0
  unfold State.gramCor
  repeat' first
    | ((with_reducible refine side_ok ?_); exact rfl)
    | with_reducible assumption
    | ((with_reducible refine keep_goal ?_); exact keep_refl)
    | with_reducible exact fits_refl _ _
    | (extract_lets +onlyGivenNames x
       first
       | (refine fits_cut (p := State.Fits (Foot.of [0x00, 0x40, 0x50, 0x68, 0x70, 0x71] [.flt, .evr, .saf, .lanes]) s x) ?_ ?_; rotate_left; intro hx; clear_value x; rotate_left; subst x)
       | (refine part_cut (α := type_of% x) (by constructor) ?_; subst x)
       | clear_value x
       | subst x)
    | with_reducible apply incSat_fits
    | with_reducible apply raiseWith_fits
    | ((with_reducible refine side_ok ?_); exact tl_unit rfl)
    | ((with_reducible refine side_ok ?_); exact be_unit rfl)
    | ((with_reducible refine side_ok ?_); exact lay_unit rfl)
    | ((with_reducible refine side_ok ?_); exact crc_unit rfl)
    | ((with_reducible refine side_ok ?_); exact lnk_unit rfl)
    | split

theorem gramUnc_fits {g : Foot} {s0 : State} (s : State) (addr : Nat) (inj : Bool) (hle : (Foot.of [0x00, 0x40, 0x50, 0x68, 0x70, 0x71] [.flt, .evr, .saf, .lanes]).le g = true) (h0 : s0.Fits g s) : s0.Fits g (State.gramUnc s addr inj) := by
  refine fits_app hle ?_ h0
  unfold State.gramUnc
  repeat' first
    | ((with_reducible refine side_ok ?_); exact rfl)
    | with_reducible assumption
    | ((with_reducible refine keep_goal ?_); exact keep_refl)
    | with_reducible exact fits_refl _ _
    | (extract_lets +onlyGivenNames x
       first
       | (refine fits_cut (p := State.Fits (Foot.of [0x00, 0x40, 0x50, 0x68, 0x70, 0x71] [.flt, .evr, .saf, .lanes]) s x) ?_ ?_; rotate_left; intro hx; clear_value x; rotate_left; subst x)
       | (refine part_cut (α := type_of% x) (by constructor) ?_; subst x)
       | clear_value x
       | subst x)
    | with_reducible apply evt_fits
    | with_reducible apply graniteFault_fits
    | ((with_reducible refine side_ok ?_); exact tl_unit rfl)
    | ((with_reducible refine side_ok ?_); exact be_unit rfl)
    | ((with_reducible refine side_ok ?_); exact lay_unit rfl)
    | ((with_reducible refine side_ok ?_); exact crc_unit rfl)
    | ((with_reducible refine side_ok ?_); exact lnk_unit rfl)
    | split

theorem freeAddr_fits {g : Foot} {s0 : State} (s : State) (base : Nat) (size : Nat) (hle : (Foot.of [] [.fresh]).le g = true) (h0 : s0.Fits g s) : s0.Fits g (State.freeAddr s base size).2 := by
  refine fits_app hle ?_ h0
  unfold State.freeAddr
  repeat' first
    | ((with_reducible refine side_ok ?_); exact rfl)
    | with_reducible assumption
    | ((with_reducible refine keep_goal ?_); exact keep_refl)
    | with_reducible exact fits_refl _ _
    | (extract_lets +onlyGivenNames x
       first
       | (refine fits_cut (p := State.Fits (Foot.of [] [.fresh]) s x) ?_ ?_; rotate_left; intro hx; clear_value x; rotate_left; subst x)
       | (refine part_cut (α := type_of% x) (by constructor) ?_; subst x)
       | clear_value x
       | subst x)
    | with_reducible refine free_fits_eq (by assumption) ?_ ?_
    | with_reducible apply free_fits
    | split
    | with_reducible refine fits_snd (by assumption) ?_
    | with_reducible refine fits_thd (by assumption) ?_
    | dsimp only

theorem freeAddr_fits_eq {g : Foot} {s0 : State} {s : State} {base : Nat} {size : Nat} {t : State} {r0 : Nat} (h : (State.freeAddr s base size) = (r0, t)) (hle : (Foot.of [] [.fresh]).le g = true) (h0 : s0.Fits g s) : s0.Fits g t := by
  have k := freeAddr_fits s base size hle h0
  rw [h] at k
  exact k

theorem gramInject_fits {g : Foot} {s0 : State} (s : State) (hle : (Foot.of [0x00, 0x40, 0x50, 0x68, 0x70, 0x71] [.flt, .evr, .saf, .lanes, .fresh]).le g = true) (h0 : s0.Fits g s) : s0.Fits g (State.gramInject s) := by
  refine fits_app hle ?_ h0
  unfold State.gramInject
  repeat' first
    | ((with_reducible refine side_ok ?_); exact rfl)
    | with_reducible assumption
    | ((with_reducible refine keep_goal ?_); exact keep_refl)
    | with_reducible exact fits_refl _ _
    | (extract_lets +onlyGivenNames x
       first
       | (refine fits_cut (p := State.Fits (Foot.of [0x00, 0x40, 0x50, 0x68, 0x70, 0x71] [.flt, .evr, .saf, .lanes, .fresh]) s x) ?_ ?_; rotate_left; intro hx; clear_value x; rotate_left; subst x)
       | (refine part_cut (α := type_of% x) (by constructor) ?_; subst x)
       | clear_value x
       | subst x)
    | with_reducible refine free_fits_eq (by assumption) ?_ ?_
    | with_reducible apply free_fits
    | with_reducible apply consumeInj_fits
    | with_reducible refine freeAddr_fits_eq (by assumption) ?_ ?_
    | with_reducible apply freeAddr_fits
    | with_reducible apply gramCor_fits
    | with_reducible apply gramUnc_fits
    | split
    | with_reducible refine fits_snd (by assumption) ?_
    | with_reducible refine fits_thd (by assumption) ?_
    | dsimp only

theorem calCor_fits {g : Foot} {s0 : State} (s : State) (t : Nat) (addr : Nat) (inj : Bool) (hle : (Foot.of [0x00, 0x40, 0x48, 0x50, 0x68, 0x70, 0x71] [.flt, .evr, .saf, .lanes]).le g = true) (h0 : s0.Fits g s) : s0.Fits g (State.calCor s t addr inj) := by
  refine fits_app hle ?_ h0
  unfold State.calCor
  repeat' first
    | ((with_reducible refine side_ok ?_); exact rfl)
    | with_reducible assumption
    | ((with_reducible refine keep_goal ?_); exact keep_refl)
    | with_reducible exact fits_refl _ _
    | (extract_lets +onlyGivenNames x
       first
       | (refine fits_cut (p := State.Fits (Foot.of [0x00, 0x40, 0x48, 0x50, 0x68, 0x70, 0x71] [.flt, .evr, .saf, .lanes]) s x) ?_ ?_; rotate_left; intro hx; clear_value x; rotate_left; subst x)
       | (refine part_cut (α := type_of% x) (by constructor) ?_; subst x)
       | clear_value x
       | subst x)
    | with_reducible apply evt_fits
    | with_reducible apply incSat_fits
    | with_reducible apply raiseWith_fits
    | ((with_reducible refine side_ok ?_); exact tl_unit rfl)
    | ((with_reducible refine side_ok ?_); exact be_unit rfl)
    | ((with_reducible refine side_ok ?_); exact lay_unit rfl)
    | ((with_reducible refine side_ok ?_); exact crc_unit rfl)
    | ((with_reducible refine side_ok ?_); exact lnk_unit rfl)
    | split

theorem calUnc_fits {g : Foot} {s0 : State} (s : State) (t : Nat) (addr : Nat) (inj : Bool) (hle : (Foot.of [0x00, 0x40, 0x48, 0x50, 0x68, 0x70, 0x71] [.flt, .evr, .saf, .lanes]).le g = true) (h0 : s0.Fits g s) : s0.Fits g (State.calUnc s t addr inj) := by
  refine fits_app hle ?_ h0
  unfold State.calUnc
  repeat' first
    | ((with_reducible refine side_ok ?_); exact rfl)
    | with_reducible assumption
    | ((with_reducible refine keep_goal ?_); exact keep_refl)
    | with_reducible exact fits_refl _ _
    | (extract_lets +onlyGivenNames x
       first
       | (refine fits_cut (p := State.Fits (Foot.of [0x00, 0x40, 0x48, 0x50, 0x68, 0x70, 0x71] [.flt, .evr, .saf, .lanes]) s x) ?_ ?_; rotate_left; intro hx; clear_value x; rotate_left; subst x)
       | (refine part_cut (α := type_of% x) (by constructor) ?_; subst x)
       | clear_value x
       | subst x)
    | with_reducible apply evt_fits
    | with_reducible apply raiseWith_fits
    | ((with_reducible refine side_ok ?_); exact tl_unit rfl)
    | ((with_reducible refine side_ok ?_); exact be_unit rfl)
    | ((with_reducible refine side_ok ?_); exact lay_unit rfl)
    | ((with_reducible refine side_ok ?_); exact crc_unit rfl)
    | ((with_reducible refine side_ok ?_); exact lnk_unit rfl)
    | split

theorem pipePar_fits {g : Foot} {s0 : State} (s : State) (t : Nat) (b : Nat) (inj : Bool) (hle : (Foot.of [0x00, 0x02, 0x18, 0x40, 0x48, 0x50, 0x68, 0x70, 0x71] [.flt, .evr, .saf, .cmp, .lanes, .tln]).le g = true) (h0 : s0.Fits g s) : s0.Fits g (State.pipePar s t b inj) := by
  refine fits_app hle ?_ h0
  unfold State.pipePar
  repeat' first
    | ((with_reducible refine side_ok ?_); exact rfl)
    | with_reducible assumption
    | ((with_reducible refine keep_goal ?_); exact keep_refl)
    | with_reducible exact fits_refl _ _
    | (extract_lets +onlyGivenNames x
       first
       | (refine fits_cut (p := State.Fits (Foot.of [0x00, 0x02, 0x18, 0x40, 0x48, 0x50, 0x68, 0x70, 0x71] [.flt, .evr, .saf, .cmp, .lanes, .tln]) s x) ?_ ?_; rotate_left; intro hx; clear_value x; rotate_left; subst x)
       | (refine part_cut (α := type_of% x) (by constructor) ?_; subst x)
       | clear_value x
       | subst x)
    | with_reducible apply evt_fits
    | with_reducible apply detect_fits
    | with_reducible apply requestRecomp_fits
    | ((with_reducible refine side_ok ?_); exact tl_unit rfl)
    | ((with_reducible refine side_ok ?_); exact be_unit rfl)
    | ((with_reducible refine side_ok ?_); exact lay_unit rfl)
    | ((with_reducible refine side_ok ?_); exact crc_unit rfl)
    | ((with_reducible refine side_ok ?_); exact lnk_unit rfl)
    | split

theorem freeGainWord_fits {g : Foot} {s0 : State} (s : State) (k : Nat) (hle : (Foot.of [] [.fresh]).le g = true) (h0 : s0.Fits g s) : s0.Fits g (State.freeGainWord s k).2 := by
  refine fits_app hle ?_ h0
  unfold State.freeGainWord
  repeat' first
    | ((with_reducible refine side_ok ?_); exact rfl)
    | with_reducible assumption
    | ((with_reducible refine keep_goal ?_); exact keep_refl)
    | with_reducible exact fits_refl _ _
    | (extract_lets +onlyGivenNames x
       first
       | (refine fits_cut (p := State.Fits (Foot.of [] [.fresh]) s x) ?_ ?_; rotate_left; intro hx; clear_value x; rotate_left; subst x)
       | (refine part_cut (α := type_of% x) (by constructor) ?_; subst x)
       | clear_value x
       | subst x)
    | with_reducible refine free_fits_eq (by assumption) ?_ ?_
    | with_reducible apply free_fits
    | split
    | with_reducible refine fits_snd (by assumption) ?_
    | with_reducible refine fits_thd (by assumption) ?_
    | dsimp only

theorem freeGainWord_fits_eq {g : Foot} {s0 : State} {s : State} {k : Nat} {t : State} {r0 : Nat × Nat} (h : (State.freeGainWord s k) = (r0, t)) (hle : (Foot.of [] [.fresh]).le g = true) (h0 : s0.Fits g s) : s0.Fits g t := by
  have k := freeGainWord_fits s k hle h0
  rw [h] at k
  exact k

theorem releaseChecks_fits {g : Foot} {s0 : State} (s : State) (k : Nat) (hit : Hit) (hle : (Foot.of [0x00, 0x40, 0x48, 0x50, 0x68, 0x70, 0x71] [.flt, .evr, .saf, .lanes, .fresh]).le g = true) (h0 : s0.Fits g s) : s0.Fits g (State.releaseChecks s k hit).2 := by
  refine fits_app hle ?_ h0
  unfold State.releaseChecks
  repeat' first
    | ((with_reducible refine side_ok ?_); exact rfl)
    | with_reducible assumption
    | ((with_reducible refine keep_goal ?_); exact keep_refl)
    | with_reducible exact fits_refl _ _
    | (extract_lets +onlyGivenNames x
       first
       | (refine fits_cut (p := State.Fits (Foot.of [0x00, 0x40, 0x48, 0x50, 0x68, 0x70, 0x71] [.flt, .evr, .saf, .lanes, .fresh]) s x) ?_ ?_; rotate_left; intro hx; clear_value x; rotate_left; subst x)
       | (refine part_cut (α := type_of% x) (by constructor) ?_; subst x)
       | clear_value x
       | subst x)
    | with_reducible refine free_fits_eq (by assumption) ?_ ?_
    | with_reducible apply free_fits
    | with_reducible apply calCor_fits
    | with_reducible apply calUnc_fits
    | with_reducible apply consumeInj_fits
    | with_reducible refine freeGainWord_fits_eq (by assumption) ?_ ?_
    | with_reducible apply freeGainWord_fits
    | with_reducible apply gramCor_fits
    | with_reducible apply gramInject_fits
    | with_reducible apply gramUnc_fits
    | split
    | with_reducible refine fits_snd (by assumption) ?_
    | with_reducible refine fits_thd (by assumption) ?_
    | dsimp only

theorem releaseChecks_fits_eq {g : Foot} {s0 : State} {s : State} {k : Nat} {hit : Hit} {t : State} {r0 : List Nat} (h : (State.releaseChecks s k hit) = (r0, t)) (hle : (Foot.of [0x00, 0x40, 0x48, 0x50, 0x68, 0x70, 0x71] [.flt, .evr, .saf, .lanes, .fresh]).le g = true) (h0 : s0.Fits g s) : s0.Fits g t := by
  have k := releaseChecks_fits s k hit hle h0
  rw [h] at k
  exact k

theorem pipeInject_fits {g : Foot} {s0 : State} (s : State) (b : Nat) (hle : (Foot.of [0x00, 0x02, 0x18, 0x40, 0x48, 0x50, 0x68, 0x70, 0x71] [.flt, .evr, .saf, .cmp, .lanes, .tln, .fresh]).le g = true) (h0 : s0.Fits g s) : s0.Fits g (State.pipeInject s b) := by
  refine fits_app hle ?_ h0
  unfold State.pipeInject
  repeat' first
    | ((with_reducible refine side_ok ?_); exact rfl)
    | with_reducible assumption
    | ((with_reducible refine keep_goal ?_); exact keep_refl)
    | with_reducible exact fits_refl _ _
    | (extract_lets +onlyGivenNames x
       first
       | (refine fits_cut (p := State.Fits (Foot.of [0x00, 0x02, 0x18, 0x40, 0x48, 0x50, 0x68, 0x70, 0x71] [.flt, .evr, .saf, .cmp, .lanes, .tln, .fresh]) s x) ?_ ?_; rotate_left; intro hx; clear_value x; rotate_left; subst x)
       | (refine part_cut (α := type_of% x) (by constructor) ?_; subst x)
       | clear_value x
       | subst x)
    | with_reducible refine free_fits_eq (by assumption) ?_ ?_
    | with_reducible apply free_fits
    | with_reducible apply consumeInj_fits
    | with_reducible apply pipePar_fits
    | split
    | with_reducible refine fits_snd (by assumption) ?_
    | with_reducible refine fits_thd (by assumption) ?_
    | dsimp only

theorem releaseOne_fits {g : Foot} {s0 : State} (s : State) (bad : List Nat) (hit : Hit) (b : Nat) (hle : (Foot.of [0x00, 0x02, 0x18, 0x40, 0x48, 0x50, 0x68, 0x70, 0x71] [.flt, .evr, .saf, .cmp, .lanes, .tln, .gov, .fresh]).le g = true) (h0 : s0.Fits g s) : s0.Fits g (State.releaseOne s bad hit b) := by
  refine fits_app hle ?_ h0
  unfold State.releaseOne
  repeat' first
    | ((with_reducible refine side_ok ?_); exact rfl)
    | with_reducible assumption
    | ((with_reducible refine keep_goal ?_); exact keep_refl)
    | with_reducible exact fits_refl _ _
    | (extract_lets +onlyGivenNames x
       first
       | (refine fits_cut (p := State.Fits (Foot.of [0x00, 0x02, 0x18, 0x40, 0x48, 0x50, 0x68, 0x70, 0x71] [.flt, .evr, .saf, .cmp, .lanes, .tln, .gov, .fresh]) s x) ?_ ?_; rotate_left; intro hx; clear_value x; rotate_left; subst x)
       | (refine part_cut (α := type_of% x) (by constructor) ?_; subst x)
       | clear_value x
       | subst x)
    | with_reducible apply evt_fits
    | with_reducible apply graniteFault_fits
    | with_reducible apply pipeInject_fits
    | with_reducible apply pipePar_fits
    | with_reducible apply releaseBand_fits
    | ((with_reducible refine side_ok ?_); exact tl_unit rfl)
    | ((with_reducible refine side_ok ?_); exact be_unit rfl)
    | ((with_reducible refine side_ok ?_); exact lay_unit rfl)
    | ((with_reducible refine side_ok ?_); exact crc_unit rfl)
    | ((with_reducible refine side_ok ?_); exact lnk_unit rfl)
    | split

theorem recomputeRegion_fits {g : Foot} {s0 : State} (s : State) (r : Recomp) (bad : List Nat) (hle : (Foot.of [] [.cmp]).le g = true) (h0 : s0.Fits g s) : s0.Fits g (State.recomputeRegion s r bad) := by
  refine fits_app hle ?_ h0
  unfold State.recomputeRegion
  repeat' first
    | ((with_reducible refine side_ok ?_); exact rfl)
    | with_reducible assumption
    | ((with_reducible refine keep_goal ?_); exact keep_refl)
    | with_reducible exact fits_refl _ _
    | (extract_lets +onlyGivenNames x
       first
       | (refine fits_cut (p := State.Fits (Foot.of [] [.cmp]) s x) ?_ ?_; rotate_left; intro hx; clear_value x; rotate_left; subst x)
       | (refine part_cut (α := type_of% x) (by constructor) ?_; subst x)
       | clear_value x
       | subst x)
    | with_reducible apply setReleased_fits
    | split

theorem govFlip_fits {g : Foot} {s0 : State} (s : State) (f : Nat) (hle : (Foot.of [0x40, 0x70, 0x71] [.evr, .gov]).le g = true) (h0 : s0.Fits g s) : s0.Fits g (State.govFlip s f) := by
  refine fits_app hle ?_ h0
  unfold State.govFlip
  repeat' first
    | ((with_reducible refine side_ok ?_); exact rfl)
    | with_reducible assumption
    | ((with_reducible refine keep_goal ?_); exact keep_refl)
    | with_reducible exact fits_refl _ _
    | (extract_lets +onlyGivenNames x
       first
       | (refine fits_cut (p := State.Fits (Foot.of [0x40, 0x70, 0x71] [.evr, .gov]) s x) ?_ ?_; rotate_left; intro hx; clear_value x; rotate_left; subst x)
       | (refine part_cut (α := type_of% x) (by constructor) ?_; subst x)
       | clear_value x
       | subst x)
    | with_reducible refine fits_foldl _ _ (fun x hx u hu => ?_) ?_
    | with_reducible apply put_fits
    | with_reducible apply incSat_fits
    | with_reducible apply event_fits
    | with_reducible apply withGov_fits
    | with_reducible apply withGov_fits
    | split

end Sys2Proof.Laws
end

