-- ==== Sys2Proof/Laws/SignatureFits.lean ====
section
/-! SUPPORT. Footprints of the operations of Machine/Signature.lean: one lemma for each, which says what it may touch and that it keeps what every command keeps. -/

set_option linter.unusedTactic false
set_option linter.unreachableTactic false

namespace Sys2Proof.Laws

open Sys2Proof.Machine

theorem sigCheck_fits {g : Foot} {s0 : State} (s : State) (blk : List Byte) (signed : Nat) (cls : Nat) (verdict : Bool) (hle : (Foot.of [0x78] []).le g = true) (h0 : s0.Fits g s) : s0.Fits g (State.sigCheck s blk signed cls verdict).2 := by
  refine fits_app hle ?_ h0
  unfold State.sigCheck
  repeat' first
    | ((with_reducible refine side_ok ?_); exact rfl)
    | with_reducible assumption
    | ((with_reducible refine keep_goal ?_); exact keep_refl)
    | with_reducible exact fits_refl _ _
    | (extract_lets +onlyGivenNames x
       first
       | (refine fits_cut (p := State.Fits (Foot.of [0x78] []) s x) ?_ ?_; rotate_left; intro hx; clear_value x; rotate_left; subst x)
       | (refine part_cut (α := type_of% x) (by constructor) ?_; subst x)
       | clear_value x
       | subst x)
    | with_reducible apply evt_fits
    | split
    | with_reducible refine fits_snd (by assumption) ?_
    | with_reducible refine fits_thd (by assumption) ?_
    | dsimp only

theorem sigCheck_fits_eq {g : Foot} {s0 : State} {s : State} {blk : List Byte} {signed : Nat} {cls : Nat} {verdict : Bool} {t : State} {r0 : Bool} (h : (State.sigCheck s blk signed cls verdict) = (r0, t)) (hle : (Foot.of [0x78] []).le g = true) (h0 : s0.Fits g s) : s0.Fits g t := by
  have k := sigCheck_fits s blk signed cls verdict hle h0
  rw [h] at k
  exact k

end Sys2Proof.Laws
end

