-- ==== Sys2Proof/Laws/GlareFits.lean ====
section
/-! SUPPORT. Footprints of the operations of Machine/Glare.lean: one lemma for each, which says what it may touch and that it keeps what every command keeps. -/

set_option linter.unusedTactic false
set_option linter.unreachableTactic false

namespace Sys2Proof.Laws

open Sys2Proof.Machine

theorem modEngine_fits {g : Foot} {s0 : State} (s : State) (n : Nat) (f : Engine → Engine) (hle : (Foot.of [] [.glare]).le g = true) (h0 : s0.Fits g s) : s0.Fits g (State.modEngine s n f) := by
  refine fits_app hle ?_ h0
  unfold State.modEngine
  repeat' first
    | ((with_reducible refine side_ok ?_); exact rfl)
    | with_reducible assumption
    | ((with_reducible refine keep_goal ?_); exact keep_refl)
    | ((with_reducible refine keep_ok ?_); intro h; simpa [Saf.shaped, Quartz.shaped, Cmd.shaped, Glare.shaped, Gov.shaped, Cal.shaped, Flx.shaped, Fus.shaped, Upd.shaped] using h)
    | with_reducible exact fits_refl _ _
    | (extract_lets +onlyGivenNames x
       first
       | (refine fits_cut (p := State.Fits (Foot.of [] [.glare]) s x) ?_ ?_; rotate_left; intro hx; clear_value x; rotate_left; subst x)
       | (refine part_cut (α := type_of% x) (by constructor) ?_; subst x)
       | clear_value x
       | subst x)
    | with_reducible apply withGlare_fits
    | with_reducible apply withGlare_fits
    | split

theorem writeBand_fits {g : Foot} {s0 : State} (s : State) (n : Nat) (b : Nat) (band : List Byte) (parity : Bool) (hle : (Foot.of [0x30] [.mem, .glare]).le g = true) (h0 : s0.Fits g s) : s0.Fits g (State.writeBand s n b band parity) := by
  refine fits_app hle ?_ h0
  unfold State.writeBand
  repeat' first
    | ((with_reducible refine side_ok ?_); exact rfl)
    | with_reducible assumption
    | ((with_reducible refine keep_goal ?_); exact keep_refl)
    | with_reducible exact fits_refl _ _
    | (extract_lets +onlyGivenNames x
       first
       | (refine fits_cut (p := State.Fits (Foot.of [0x30] [.mem, .glare]) s x) ?_ ?_; rotate_left; intro hx; clear_value x; rotate_left; subst x)
       | (refine part_cut (α := type_of% x) (by constructor) ?_; subst x)
       | clear_value x
       | subst x)
    | with_reducible apply put_fits
    | with_reducible apply setByte_fits
    | with_reducible apply setBytes_fits
    | with_reducible apply modEngine_fits
    | ((with_reducible refine side_ok ?_); exact be_unit rfl)
    | split

theorem cycles_fits {g : Foot} {s0 : State} (s : State) (n : Nat) (c : Nat) (hle : (Foot.of [0x30] []).le g = true) (h0 : s0.Fits g s) : s0.Fits g (State.cycles s n c) := by
  refine fits_app hle ?_ h0
  unfold State.cycles
  repeat' first
    | ((with_reducible refine side_ok ?_); exact rfl)
    | with_reducible assumption
    | ((with_reducible refine keep_goal ?_); exact keep_refl)
    | with_reducible exact fits_refl _ _
    | (extract_lets +onlyGivenNames x
       first
       | (refine fits_cut (p := State.Fits (Foot.of [0x30] []) s x) ?_ ?_; rotate_left; intro hx; clear_value x; rotate_left; subst x)
       | (refine part_cut (α := type_of% x) (by constructor) ?_; subst x)
       | clear_value x
       | subst x)
    | with_reducible apply put_fits
    | ((with_reducible refine side_ok ?_); exact be_unit rfl)
    | split

theorem kload_fits {g : Foot} {s0 : State} (s : State) (v : Word) (hle : (Foot.of [0x30] []).le g = true) (h0 : s0.Fits g s) : s0.Fits g (State.kload s v) := by
  refine fits_app hle ?_ h0
  unfold State.kload
  repeat' first
    | ((with_reducible refine side_ok ?_); exact rfl)
    | with_reducible assumption
    | ((with_reducible refine keep_goal ?_); exact keep_refl)
    | with_reducible exact fits_refl _ _
    | (extract_lets +onlyGivenNames x
       first
       | (refine fits_cut (p := State.Fits (Foot.of [0x30] []) s x) ?_ ?_; rotate_left; intro hx; clear_value x; rotate_left; subst x)
       | (refine part_cut (α := type_of% x) (by constructor) ?_; subst x)
       | clear_value x
       | subst x)
    | with_reducible apply put_fits
    | ((with_reducible refine side_ok ?_); unfold kstat; split <;> exact rfl)
    | split

theorem kernelRej_fits {g : Foot} {s0 : State} (s : State) (k : Nat) (sigOk : Bool) (hle : (Foot.of [0x78] []).le g = true) (h0 : s0.Fits g s) : s0.Fits g (State.kernelRej s k sigOk).2 := by
  refine fits_app hle ?_ h0
  unfold State.kernelRej
  repeat' first
    | ((with_reducible refine side_ok ?_); exact rfl)
    | with_reducible assumption
    | ((with_reducible refine keep_goal ?_); exact keep_refl)
    | with_reducible exact fits_refl _ _
    | (extract_lets +onlyGivenNames x
       first
       | (refine fits_cut (p := State.Fits (Foot.of [0x78] []) s x) ?_ ?_; rotate_left; intro hx; clear_value x; rotate_left; subst x)
       | (refine part_cut (α := type_of% x) (by constructor) ?_; subst x)
       | clear_value x
       | subst x)
    | with_reducible refine sigCheck_fits_eq (by assumption) ?_ ?_
    | with_reducible apply sigCheck_fits
    | split
    | with_reducible refine fits_snd (by assumption) ?_
    | with_reducible refine fits_thd (by assumption) ?_
    | dsimp only

theorem kernelRej_fits_eq {g : Foot} {s0 : State} {s : State} {k : Nat} {sigOk : Bool} {t : State} {r0 : Nat} (h : (State.kernelRej s k sigOk) = (r0, t)) (hle : (Foot.of [0x78] []).le g = true) (h0 : s0.Fits g s) : s0.Fits g t := by
  have k := kernelRej_fits s k sigOk hle h0
  rw [h] at k
  exact k

theorem pullAdjust_fits {g : Foot} {s0 : State} (s : State) (hle : (Foot.of [0x50] [.tln]).le g = true) (h0 : s0.Fits g s) : s0.Fits g (State.pullAdjust s) := by
  refine fits_app hle ?_ h0
  unfold State.pullAdjust
  repeat' first
    | ((with_reducible refine side_ok ?_); exact rfl)
    | with_reducible assumption
    | ((with_reducible refine keep_goal ?_); exact keep_refl)
    | with_reducible exact fits_refl _ _
    | (extract_lets +onlyGivenNames x
       first
       | (refine fits_cut (p := State.Fits (Foot.of [0x50] [.tln]) s x) ?_ ?_; rotate_left; intro hx; clear_value x; rotate_left; subst x)
       | (refine part_cut (α := type_of% x) (by constructor) ?_; subst x)
       | clear_value x
       | subst x)
    | with_reducible apply put_fits
    | with_reducible apply evt_fits
    | with_reducible apply incSat_fits
    | with_reducible apply withTln_fits
    | with_reducible apply withTln_fits
    | split
    | with_reducible refine fits_snd (by assumption) ?_
    | with_reducible refine fits_thd (by assumption) ?_
    | dsimp only

theorem govMonitor_fits {g : Foot} {s0 : State} (s : State) (hle : (Foot.of [0x40] []).le g = true) (h0 : s0.Fits g s) : s0.Fits g (State.govMonitor s) := by
  refine fits_app hle ?_ h0
  unfold State.govMonitor
  repeat' first
    | ((with_reducible refine side_ok ?_); exact rfl)
    | with_reducible assumption
    | ((with_reducible refine keep_goal ?_); exact keep_refl)
    | with_reducible exact fits_refl _ _
    | (extract_lets +onlyGivenNames x
       first
       | (refine fits_cut (p := State.Fits (Foot.of [0x40] []) s x) ?_ ?_; rotate_left; intro hx; clear_value x; rotate_left; subst x)
       | (refine part_cut (α := type_of% x) (by constructor) ?_; subst x)
       | clear_value x
       | subst x)
    | with_reducible apply put_fits
    | split
    | with_reducible refine fits_snd (by assumption) ?_
    | with_reducible refine fits_thd (by assumption) ?_
    | dsimp only

theorem glareCommits_fits {g : Foot} {s0 : State} (s : State) (hle : (Foot.of [0x30] [.pend, .pendPages, .glare]).le g = true) (h0 : s0.Fits g s) : s0.Fits g (State.glareCommits s) := by
  refine fits_app hle ?_ h0
  unfold State.glareCommits
  repeat' first
    | ((with_reducible refine side_ok ?_); exact rfl)
    | with_reducible assumption
    | ((with_reducible refine keep_goal ?_); exact keep_refl)
    | with_reducible exact fits_refl _ _
    | (extract_lets +onlyGivenNames x
       first
       | (refine fits_cut (p := State.Fits (Foot.of [0x30] [.pend, .pendPages, .glare]) s x) ?_ ?_; rotate_left; intro hx; clear_value x; rotate_left; subst x)
       | (refine part_cut (α := type_of% x) (by constructor) ?_; subst x)
       | clear_value x
       | subst x)
    | with_reducible refine fits_foldl _ _ (fun x hx u hu => ?_) ?_
    | with_reducible apply put_fits
    | with_reducible apply apply_fits
    | with_reducible apply modEngine_fits
    | ((with_reducible refine side_ok ?_); exact be_unit rfl)
    | ((with_reducible refine side_ok ?_); exact list_unit rfl (by assumption))
    | split

theorem boxEntry_fits {g : Foot} {s0 : State} (s : State) (hle : (Foot.of [0x00, 0x02, 0x30, 0x40, 0x50, 0x68, 0x70, 0x71] [.flt, .evr, .saf, .glare, .lanes]).le g = true) (h0 : s0.Fits g s) : s0.Fits g (State.boxEntry s) := by
  refine fits_app hle ?_ h0
  unfold State.boxEntry
  repeat' first
    | ((with_reducible refine side_ok ?_); exact rfl)
    | with_reducible assumption
    | ((with_reducible refine keep_goal ?_); exact keep_refl)
    | with_reducible exact fits_refl _ _
    | (extract_lets +onlyGivenNames x
       first
       | (refine fits_cut (p := State.Fits (Foot.of [0x00, 0x02, 0x30, 0x40, 0x50, 0x68, 0x70, 0x71] [.flt, .evr, .saf, .glare, .lanes]) s x) ?_ ?_; rotate_left; intro hx; clear_value x; rotate_left; subst x)
       | (refine part_cut (α := type_of% x) (by constructor) ?_; subst x)
       | clear_value x
       | subst x)
    | with_reducible refine fits_foldl _ _ (fun x hx u hu => ?_) ?_
    | with_reducible apply put_fits
    | with_reducible apply evt_fits
    | with_reducible apply detect_fits
    | with_reducible apply modEngine_fits
    | ((with_reducible refine side_ok ?_); exact tl_unit rfl)
    | ((with_reducible refine side_ok ?_); exact be_unit rfl)
    | ((with_reducible refine side_ok ?_); exact lay_unit rfl)
    | ((with_reducible refine side_ok ?_); exact crc_unit rfl)
    | ((with_reducible refine side_ok ?_); exact lnk_unit rfl)
    | split

theorem takeList_fits {g : Foot} {s0 : State} (s : State) (parity : Bool) (hle : (Foot.of [0x00, 0x10, 0x30, 0x40, 0x50, 0x68, 0x70, 0x71] [.mem, .flt, .evr, .saf, .lnkA, .lnkB, .cmd, .glare, .lanes, .fresh]).le g = true) (h0 : s0.Fits g s) : s0.Fits g (State.takeList s parity) := by
  refine fits_app hle ?_ h0
  unfold State.takeList
  repeat' first
    | ((with_reducible refine side_ok ?_); exact rfl)
    | with_reducible assumption
    | ((with_reducible refine keep_goal ?_); exact keep_refl)
    | with_reducible exact fits_refl _ _
    | (extract_lets +onlyGivenNames x
       first
       | (refine fits_cut (p := State.Fits (Foot.of [0x00, 0x10, 0x30, 0x40, 0x50, 0x68, 0x70, 0x71] [.mem, .flt, .evr, .saf, .lnkA, .lnkB, .cmd, .glare, .lanes, .fresh]) s x) ?_ ?_; rotate_left; intro hx; clear_value x; rotate_left; subst x)
       | (refine part_cut (α := type_of% x) (by constructor) ?_; subst x)
       | clear_value x
       | subst x)
    | with_reducible apply put_fits
    | with_reducible apply incSat_fits
    | with_reducible apply setBytes_fits
    | with_reducible apply doneUpTo_fits
    | with_reducible apply replay_fits
    | with_reducible apply withGlare_fits
    | with_reducible apply withGlare_fits
    | split

theorem importSeam_fits {g : Foot} {s0 : State} (s : State) (hle : (Foot.of [0x30] []).le g = true) (h0 : s0.Fits g s) : s0.Fits g (State.importSeam s).2 := by
  refine fits_app hle ?_ h0
  unfold State.importSeam
  repeat' first
    | ((with_reducible refine side_ok ?_); exact rfl)
    | with_reducible assumption
    | ((with_reducible refine keep_goal ?_); exact keep_refl)
    | with_reducible exact fits_refl _ _
    | (extract_lets +onlyGivenNames x
       first
       | (refine fits_cut (p := State.Fits (Foot.of [0x30] []) s x) ?_ ?_; rotate_left; intro hx; clear_value x; rotate_left; subst x)
       | (refine part_cut (α := type_of% x) (by constructor) ?_; subst x)
       | clear_value x
       | subst x)
    | with_reducible apply evt_fits
    | with_reducible apply incSat_fits
    | split
    | with_reducible refine fits_snd (by assumption) ?_
    | with_reducible refine fits_thd (by assumption) ?_
    | dsimp only

theorem importSeam_fits_eq {g : Foot} {s0 : State} {s : State} {t : State} {r0 : List Entry} (h : (State.importSeam s) = (r0, t)) (hle : (Foot.of [0x30] []).le g = true) (h0 : s0.Fits g s) : s0.Fits g t := by
  have k := importSeam_fits s hle h0
  rw [h] at k
  exact k

theorem seamSend_fits {g : Foot} {s0 : State} (s : State) (objs : List Entry) (hle : (Foot.of [0x30] [.side]).le g = true) (h0 : s0.Fits g s) : s0.Fits g (State.seamSend s objs) := by
  refine fits_app hle ?_ h0
  unfold State.seamSend
  repeat' first
    | ((with_reducible refine side_ok ?_); exact rfl)
    | with_reducible assumption
    | ((with_reducible refine keep_goal ?_); exact keep_refl)
    | with_reducible exact fits_refl _ _
    | (extract_lets +onlyGivenNames x
       first
       | (refine fits_cut (p := State.Fits (Foot.of [0x30] [.side]) s x) ?_ ?_; rotate_left; intro hx; clear_value x; rotate_left; subst x)
       | (refine part_cut (α := type_of% x) (by constructor) ?_; subst x)
       | clear_value x
       | subst x)
    | with_reducible apply incSat_fits
    | with_reducible apply withSide_fits
    | with_reducible apply withSide_fits
    | split

theorem setup_fits {g : Foot} {s0 : State} (s : State) (l : ObjList) (hle : (Foot.of [0x30] [.mem, .side, .glare]).le g = true) (h0 : s0.Fits g s) : s0.Fits g (State.setup s l) := by
  refine fits_app hle ?_ h0
  unfold State.setup
  repeat' first
    | ((with_reducible refine side_ok ?_); exact rfl)
    | with_reducible assumption
    | ((with_reducible refine keep_goal ?_); exact keep_refl)
    | with_reducible exact fits_refl _ _
    | (extract_lets +onlyGivenNames x
       first
       | (refine fits_cut (p := State.Fits (Foot.of [0x30] [.mem, .side, .glare]) s x) ?_ ?_; rotate_left; intro hx; clear_value x; rotate_left; subst x)
       | (refine part_cut (α := type_of% x) (by constructor) ?_; subst x)
       | clear_value x
       | subst x)
    | with_reducible refine fits_foldl _ _ (fun x hx u hu => ?_) ?_
    | with_reducible apply put_fits
    | with_reducible apply evt_fits
    | with_reducible apply setBytes_fits
    | with_reducible refine importSeam_fits_eq (by assumption) ?_ ?_
    | with_reducible apply importSeam_fits
    | with_reducible apply modEngine_fits
    | with_reducible apply seamSend_fits
    | with_reducible apply withGlare_fits
    | with_reducible apply withGlare_fits
    | split
    | with_reducible refine fits_snd (by assumption) ?_
    | with_reducible refine fits_thd (by assumption) ?_
    | dsimp only

end Sys2Proof.Laws
end

