-- ==== Sys2Proof/Laws/SegmentsFits.lean ====
section
/-! SUPPORT. Footprints of the operations of Machine/Segments.lean: one lemma for each, which says what it may touch and that it keeps what every command keeps. -/

set_option linter.unusedTactic false
set_option linter.unreachableTactic false

namespace Sys2Proof.Laws

open Sys2Proof.Machine

theorem modChan_fits {g : Foot} {s0 : State} (s : State) (c : Nat) (f : SegChan → SegChan) (hle : (Foot.of [] [.seg]).le g = true) (h0 : s0.Fits g s) : s0.Fits g (State.modChan s c f) := by
  refine fits_app hle ?_ h0
  unfold State.modChan
  repeat' first
    | (extract_lets +onlyGivenNames x
       first
       | (refine fits_cut (p := State.Fits (Foot.of [] [.seg]) s x) ?_ ?_; rotate_left; intro hx; clear_value x; rotate_left; subst x)
       | (refine part_cut (α := type_of% x) (by constructor) ?_; subst x)
       | clear_value x
       | subst x)
    | ((with_reducible refine side_ok ?_); exact rfl)
    | with_reducible assumption
    | ((with_reducible refine keep_goal ?_); exact keep_refl)
    | with_reducible exact fits_refl _ _
    | with_reducible apply withSeg_fits
    | with_reducible apply withSeg_fits
    | split

theorem setPresent_fits {g : Foot} {s0 : State} (s : State) (a : Nat) (b : Bool) (hle : (Foot.of [0x60] []).le g = true) (h0 : s0.Fits g s) : s0.Fits g (State.setPresent s a b) := by
  refine fits_app hle ?_ h0
  unfold State.setPresent
  repeat' first
    | (extract_lets +onlyGivenNames x
       first
       | (refine fits_cut (p := State.Fits (Foot.of [0x60] []) s x) ?_ ?_; rotate_left; intro hx; clear_value x; rotate_left; subst x)
       | (refine part_cut (α := type_of% x) (by constructor) ?_; subst x)
       | clear_value x
       | subst x)
    | ((with_reducible refine side_ok ?_); exact rfl)
    | with_reducible assumption
    | ((with_reducible refine keep_goal ?_); exact keep_refl)
    | with_reducible exact fits_refl _ _
    | with_reducible apply put_fits
    | split

theorem curveReport_fits {g : Foot} {s0 : State} (s : State) (k : Nat) (hle : (Foot.of [0x48] []).le g = true) (h0 : s0.Fits g s) : s0.Fits g (State.curveReport s k) := by
  refine fits_app hle ?_ h0
  unfold State.curveReport
  repeat' first
    | (extract_lets +onlyGivenNames x
       first
       | (refine fits_cut (p := State.Fits (Foot.of [0x48] []) s x) ?_ ?_; rotate_left; intro hx; clear_value x; rotate_left; subst x)
       | (refine part_cut (α := type_of% x) (by constructor) ?_; subst x)
       | clear_value x
       | subst x)
    | ((with_reducible refine side_ok ?_); exact rfl)
    | with_reducible assumption
    | ((with_reducible refine keep_goal ?_); exact keep_refl)
    | with_reducible exact fits_refl _ _
    | with_reducible apply evt_fits
    | split

theorem satReport_fits {g : Foot} {s0 : State} (s : State) (c : Nat) (q : Nat) (hle : (Foot.of [0x48] []).le g = true) (h0 : s0.Fits g s) : s0.Fits g (State.satReport s c q) := by
  refine fits_app hle ?_ h0
  unfold State.satReport
  repeat' first
    | (extract_lets +onlyGivenNames x
       first
       | (refine fits_cut (p := State.Fits (Foot.of [0x48] []) s x) ?_ ?_; rotate_left; intro hx; clear_value x; rotate_left; subst x)
       | (refine part_cut (α := type_of% x) (by constructor) ?_; subst x)
       | clear_value x
       | subst x)
    | ((with_reducible refine side_ok ?_); exact rfl)
    | with_reducible assumption
    | ((with_reducible refine keep_goal ?_); exact keep_refl)
    | with_reducible exact fits_refl _ _
    | with_reducible apply evt_fits
    | split

theorem keepFactor_fits {g : Foot} {s0 : State} (s : State) (c : Nat) (k : Nat) (q : Nat) (hle : (Foot.of [] [.seg]).le g = true) (h0 : s0.Fits g s) : s0.Fits g (State.keepFactor s c k q) := by
  refine fits_app hle ?_ h0
  unfold State.keepFactor
  repeat' first
    | (extract_lets +onlyGivenNames x
       first
       | (refine fits_cut (p := State.Fits (Foot.of [] [.seg]) s x) ?_ ?_; rotate_left; intro hx; clear_value x; rotate_left; subst x)
       | (refine part_cut (α := type_of% x) (by constructor) ?_; subst x)
       | clear_value x
       | subst x)
    | ((with_reducible refine side_ok ?_); exact rfl)
    | with_reducible assumption
    | ((with_reducible refine keep_goal ?_); exact keep_refl)
    | with_reducible exact fits_refl _ _
    | with_reducible apply withSeg_fits
    | with_reducible apply withSeg_fits
    | split

theorem classFactor_fits {g : Foot} {s0 : State} (s : State) (c : Nat) (hle : (Foot.of [0x48] [.seg]).le g = true) (h0 : s0.Fits g s) : s0.Fits g (State.classFactor s c) := by
  refine fits_app hle ?_ h0
  unfold State.classFactor
  repeat' first
    | (extract_lets +onlyGivenNames x
       first
       | (refine fits_cut (p := State.Fits (Foot.of [0x48] [.seg]) s x) ?_ ?_; rotate_left; intro hx; clear_value x; rotate_left; subst x)
       | (refine part_cut (α := type_of% x) (by constructor) ?_; subst x)
       | clear_value x
       | subst x)
    | ((with_reducible refine side_ok ?_); exact rfl)
    | with_reducible assumption
    | ((with_reducible refine keep_goal ?_); exact keep_refl)
    | with_reducible exact fits_refl _ _
    | with_reducible apply curveReport_fits
    | with_reducible apply keepFactor_fits
    | with_reducible apply satReport_fits
    | split

theorem classFactors_fits {g : Foot} {s0 : State} (s : State) (hle : (Foot.of [0x48] [.seg]).le g = true) (h0 : s0.Fits g s) : s0.Fits g (State.classFactors s) := by
  refine fits_app hle ?_ h0
  unfold State.classFactors
  repeat' first
    | (extract_lets +onlyGivenNames x
       first
       | (refine fits_cut (p := State.Fits (Foot.of [0x48] [.seg]) s x) ?_ ?_; rotate_left; intro hx; clear_value x; rotate_left; subst x)
       | (refine part_cut (α := type_of% x) (by constructor) ?_; subst x)
       | clear_value x
       | subst x)
    | ((with_reducible refine side_ok ?_); exact rfl)
    | with_reducible assumption
    | ((with_reducible refine keep_goal ?_); exact keep_refl)
    | with_reducible exact fits_refl _ _
    | with_reducible refine fits_foldl _ _ (fun x hx u hu => ?_) ?_
    | with_reducible apply put_fits
    | with_reducible apply classFactor_fits
    | split

theorem formChan_fits {g : Foot} {s0 : State} (s : State) (c : Nat) (hle : (Foot.of [0x60] [.seg]).le g = true) (h0 : s0.Fits g s) : s0.Fits g (State.formChan s c) := by
  refine fits_app hle ?_ h0
  unfold State.formChan
  repeat' first
    | (extract_lets +onlyGivenNames x
       first
       | (refine fits_cut (p := State.Fits (Foot.of [0x60] [.seg]) s x) ?_ ?_; rotate_left; intro hx; clear_value x; rotate_left; subst x)
       | (refine part_cut (α := type_of% x) (by constructor) ?_; subst x)
       | clear_value x
       | subst x)
    | ((with_reducible refine side_ok ?_); exact rfl)
    | with_reducible assumption
    | ((with_reducible refine keep_goal ?_); exact keep_refl)
    | with_reducible exact fits_refl _ _
    | with_reducible apply put_fits
    | with_reducible apply evt_fits
    | with_reducible apply incSat_fits
    | with_reducible apply modChan_fits
    | split

theorem segForm_fits {g : Foot} {s0 : State} (s : State) (hle : (Foot.of [0x60] [.pend, .pendPages, .seg]).le g = true) (h0 : s0.Fits g s) : s0.Fits g (State.segForm s) := by
  refine fits_app hle ?_ h0
  unfold State.segForm
  repeat' first
    | (extract_lets +onlyGivenNames x
       first
       | (refine fits_cut (p := State.Fits (Foot.of [0x60] [.pend, .pendPages, .seg]) s x) ?_ ?_; rotate_left; intro hx; clear_value x; rotate_left; subst x)
       | (refine part_cut (α := type_of% x) (by constructor) ?_; subst x)
       | clear_value x
       | subst x)
    | ((with_reducible refine side_ok ?_); exact rfl)
    | with_reducible assumption
    | ((with_reducible refine keep_goal ?_); exact keep_refl)
    | with_reducible exact fits_refl _ _
    | with_reducible refine fits_foldl _ _ (fun x hx u hu => ?_) ?_
    | with_reducible apply put_fits
    | with_reducible apply apply_fits
    | with_reducible apply formChan_fits
    | ((with_reducible refine side_ok ?_); exact list_unit rfl (by assumption))
    | split

theorem segSend_fits {g : Foot} {s0 : State} (s : State) (addr : Nat) (cmd : Nat) (data : List Byte) (hle : (Foot.of [] [.seg]).le g = true) (h0 : s0.Fits g s) : s0.Fits g (State.segSend s addr cmd data) := by
  refine fits_app hle ?_ h0
  unfold State.segSend
  repeat' first
    | (extract_lets +onlyGivenNames x
       first
       | (refine fits_cut (p := State.Fits (Foot.of [] [.seg]) s x) ?_ ?_; rotate_left; intro hx; clear_value x; rotate_left; subst x)
       | (refine part_cut (α := type_of% x) (by constructor) ?_; subst x)
       | clear_value x
       | subst x)
    | ((with_reducible refine side_ok ?_); exact rfl)
    | with_reducible assumption
    | ((with_reducible refine keep_goal ?_); exact keep_refl)
    | with_reducible exact fits_refl _ _
    | with_reducible apply withSeg_fits
    | with_reducible apply withSeg_fits
    | split

theorem segStart_fits {g : Foot} {s0 : State} (s : State) (cmd : Nat) (addr : Nat) (data : List Byte) (values : List (Nat × Nat)) (hle : (Foot.of [] [.seg]).le g = true) (h0 : s0.Fits g s) : s0.Fits g (State.segStart s cmd addr data values) := by
  refine fits_app hle ?_ h0
  unfold State.segStart
  repeat' first
    | (extract_lets +onlyGivenNames x
       first
       | (refine fits_cut (p := State.Fits (Foot.of [] [.seg]) s x) ?_ ?_; rotate_left; intro hx; clear_value x; rotate_left; subst x)
       | (refine part_cut (α := type_of% x) (by constructor) ?_; subst x)
       | clear_value x
       | subst x)
    | ((with_reducible refine side_ok ?_); exact rfl)
    | with_reducible assumption
    | ((with_reducible refine keep_goal ?_); exact keep_refl)
    | with_reducible exact fits_refl _ _
    | with_reducible apply segSend_fits
    | with_reducible apply withSeg_fits
    | with_reducible apply withSeg_fits
    | split

theorem driverLost_fits {g : Foot} {s0 : State} (s : State) (a : Nat) (hle : (Foot.of [0x00, 0x02, 0x40, 0x50, 0x60, 0x68, 0x70, 0x71] [.flt, .evr, .saf, .lanes, .seg]).le g = true) (h0 : s0.Fits g s) : s0.Fits g (State.driverLost s a) := by
  refine fits_app hle ?_ h0
  unfold State.driverLost
  repeat' first
    | (extract_lets +onlyGivenNames x
       first
       | (refine fits_cut (p := State.Fits (Foot.of [0x00, 0x02, 0x40, 0x50, 0x60, 0x68, 0x70, 0x71] [.flt, .evr, .saf, .lanes, .seg]) s x) ?_ ?_; rotate_left; intro hx; clear_value x; rotate_left; subst x)
       | (refine part_cut (α := type_of% x) (by constructor) ?_; subst x)
       | clear_value x
       | subst x)
    | ((with_reducible refine side_ok ?_); exact rfl)
    | with_reducible assumption
    | ((with_reducible refine keep_goal ?_); exact keep_refl)
    | with_reducible exact fits_refl _ _
    | with_reducible refine fits_foldl _ _ (fun x hx u hu => ?_) ?_
    | with_reducible apply put_fits
    | with_reducible apply evt_fits
    | with_reducible apply detect_fits
    | with_reducible apply modChan_fits
    | with_reducible apply setPresent_fits
    | with_reducible apply withSeg_fits
    | ((with_reducible refine side_ok ?_); exact tl_unit rfl)
    | ((with_reducible refine side_ok ?_); exact be_unit rfl)
    | ((with_reducible refine side_ok ?_); exact lay_unit rfl)
    | ((with_reducible refine side_ok ?_); exact crc_unit rfl)
    | ((with_reducible refine side_ok ?_); exact lnk_unit rfl)
    | with_reducible apply withSeg_fits
    | split

theorem segFail_fits {g : Foot} {s0 : State} (s : State) (hle : (Foot.of [0x00, 0x02, 0x40, 0x50, 0x60, 0x68, 0x70, 0x71] [.flt, .evr, .saf, .lanes, .seg]).le g = true) (h0 : s0.Fits g s) : s0.Fits g (State.segFail s) := by
  refine fits_app hle ?_ h0
  unfold State.segFail
  repeat' first
    | (extract_lets +onlyGivenNames x
       first
       | (refine fits_cut (p := State.Fits (Foot.of [0x00, 0x02, 0x40, 0x50, 0x60, 0x68, 0x70, 0x71] [.flt, .evr, .saf, .lanes, .seg]) s x) ?_ ?_; rotate_left; intro hx; clear_value x; rotate_left; subst x)
       | (refine part_cut (α := type_of% x) (by constructor) ?_; subst x)
       | clear_value x
       | subst x)
    | ((with_reducible refine side_ok ?_); exact rfl)
    | with_reducible assumption
    | ((with_reducible refine keep_goal ?_); exact keep_refl)
    | with_reducible exact fits_refl _ _
    | with_reducible apply driverLost_fits
    | with_reducible apply withSeg_fits
    | with_reducible apply withSeg_fits
    | split

theorem segAbort_fits {g : Foot} {s0 : State} (s : State) (hle : (Foot.of [0x00, 0x40, 0x50, 0x60, 0x68, 0x70, 0x71] [.flt, .evr, .saf, .lanes, .seg]).le g = true) (h0 : s0.Fits g s) : s0.Fits g (State.segAbort s) := by
  refine fits_app hle ?_ h0
  unfold State.segAbort
  repeat' first
    | (extract_lets +onlyGivenNames x
       first
       | (refine fits_cut (p := State.Fits (Foot.of [0x00, 0x40, 0x50, 0x60, 0x68, 0x70, 0x71] [.flt, .evr, .saf, .lanes, .seg]) s x) ?_ ?_; rotate_left; intro hx; clear_value x; rotate_left; subst x)
       | (refine part_cut (α := type_of% x) (by constructor) ?_; subst x)
       | clear_value x
       | subst x)
    | ((with_reducible refine side_ok ?_); exact rfl)
    | with_reducible assumption
    | ((with_reducible refine keep_goal ?_); exact keep_refl)
    | with_reducible exact fits_refl _ _
    | with_reducible apply evt_fits
    | with_reducible apply raise_fits
    | with_reducible apply withSeg_fits
    | ((with_reducible refine side_ok ?_); exact tl_unit rfl)
    | ((with_reducible refine side_ok ?_); exact be_unit rfl)
    | ((with_reducible refine side_ok ?_); exact lay_unit rfl)
    | ((with_reducible refine side_ok ?_); exact crc_unit rfl)
    | ((with_reducible refine side_ok ?_); exact lnk_unit rfl)
    | with_reducible apply withSeg_fits
    | split

theorem segGood_fits {g : Foot} {s0 : State} (s : State) (hle : (Foot.of [] [.seg]).le g = true) (h0 : s0.Fits g s) : s0.Fits g (State.segGood s) := by
  refine fits_app hle ?_ h0
  unfold State.segGood
  repeat' first
    | (extract_lets +onlyGivenNames x
       first
       | (refine fits_cut (p := State.Fits (Foot.of [] [.seg]) s x) ?_ ?_; rotate_left; intro hx; clear_value x; rotate_left; subst x)
       | (refine part_cut (α := type_of% x) (by constructor) ?_; subst x)
       | clear_value x
       | subst x)
    | ((with_reducible refine side_ok ?_); exact rfl)
    | with_reducible assumption
    | ((with_reducible refine keep_goal ?_); exact keep_refl)
    | with_reducible exact fits_refl _ _
    | with_reducible apply withSeg_fits
    | with_reducible apply withSeg_fits
    | split

theorem segRequest_fits {g : Foot} {s0 : State} (s : State) (cmd : Nat) (a : Nat) (data : List Byte) (values : List (Nat × Nat)) (readback : Bool) (hle : (Foot.of [0x00, 0x02, 0x40, 0x50, 0x60, 0x68, 0x70, 0x71] [.flt, .evr, .saf, .lanes, .seg]).le g = true) (h0 : s0.Fits g s) : s0.Fits g (State.segRequest s cmd a data values readback) := by
  refine fits_app hle ?_ h0
  unfold State.segRequest
  repeat' first
    | (extract_lets +onlyGivenNames x
       first
       | (refine fits_cut (p := State.Fits (Foot.of [0x00, 0x02, 0x40, 0x50, 0x60, 0x68, 0x70, 0x71] [.flt, .evr, .saf, .lanes, .seg]) s x) ?_ ?_; rotate_left; intro hx; clear_value x; rotate_left; subst x)
       | (refine part_cut (α := type_of% x) (by constructor) ?_; subst x)
       | clear_value x
       | subst x)
    | ((with_reducible refine side_ok ?_); exact rfl)
    | with_reducible assumption
    | ((with_reducible refine keep_goal ?_); exact keep_refl)
    | with_reducible exact fits_refl _ _
    | with_reducible apply segAbort_fits
    | with_reducible apply segFail_fits
    | with_reducible apply segGood_fits
    | with_reducible apply segStart_fits
    | split

theorem latchShow_fits {g : Foot} {s0 : State} (s : State) (hle : (Foot.of [0x60] [.seg]).le g = true) (h0 : s0.Fits g s) : s0.Fits g (State.latchShow s) := by
  refine fits_app hle ?_ h0
  unfold State.latchShow
  repeat' first
    | (extract_lets +onlyGivenNames x
       first
       | (refine fits_cut (p := State.Fits (Foot.of [0x60] [.seg]) s x) ?_ ?_; rotate_left; intro hx; clear_value x; rotate_left; subst x)
       | (refine part_cut (α := type_of% x) (by constructor) ?_; subst x)
       | clear_value x
       | subst x)
    | ((with_reducible refine side_ok ?_); exact rfl)
    | with_reducible assumption
    | ((with_reducible refine keep_goal ?_); exact keep_refl)
    | with_reducible exact fits_refl _ _
    | with_reducible refine fits_foldl _ _ (fun x hx u hu => ?_) ?_
    | with_reducible apply put_fits
    | with_reducible apply modChan_fits
    | split

theorem latchRepeat_fits {g : Foot} {s0 : State} (s : State) (hle : (Foot.of [0x00, 0x40, 0x50, 0x60, 0x68, 0x70, 0x71] [.flt, .evr, .saf, .lanes]).le g = true) (h0 : s0.Fits g s) : s0.Fits g (State.latchRepeat s) := by
  refine fits_app hle ?_ h0
  unfold State.latchRepeat
  repeat' first
    | (extract_lets +onlyGivenNames x
       first
       | (refine fits_cut (p := State.Fits (Foot.of [0x00, 0x40, 0x50, 0x60, 0x68, 0x70, 0x71] [.flt, .evr, .saf, .lanes]) s x) ?_ ?_; rotate_left; intro hx; clear_value x; rotate_left; subst x)
       | (refine part_cut (α := type_of% x) (by constructor) ?_; subst x)
       | clear_value x
       | subst x)
    | ((with_reducible refine side_ok ?_); exact rfl)
    | with_reducible assumption
    | ((with_reducible refine keep_goal ?_); exact keep_refl)
    | with_reducible exact fits_refl _ _
    | with_reducible refine fits_foldl _ _ (fun x hx u hu => ?_) ?_
    | with_reducible apply put_fits
    | with_reducible apply evt_fits
    | with_reducible apply incSat_fits
    | with_reducible apply raise_fits
    | ((with_reducible refine side_ok ?_); exact tl_unit rfl)
    | ((with_reducible refine side_ok ?_); exact be_unit rfl)
    | ((with_reducible refine side_ok ?_); exact lay_unit rfl)
    | ((with_reducible refine side_ok ?_); exact crc_unit rfl)
    | ((with_reducible refine side_ok ?_); exact lnk_unit rfl)
    | split

theorem segAllOff_fits {g : Foot} {s0 : State} (s : State) (hle : (Foot.of [] [.seg]).le g = true) (h0 : s0.Fits g s) : s0.Fits g (State.segAllOff s) := by
  refine fits_app hle ?_ h0
  unfold State.segAllOff
  repeat' first
    | (extract_lets +onlyGivenNames x
       first
       | (refine fits_cut (p := State.Fits (Foot.of [] [.seg]) s x) ?_ ?_; rotate_left; intro hx; clear_value x; rotate_left; subst x)
       | (refine part_cut (α := type_of% x) (by constructor) ?_; subst x)
       | clear_value x
       | subst x)
    | ((with_reducible refine side_ok ?_); exact rfl)
    | with_reducible assumption
    | ((with_reducible refine keep_goal ?_); exact keep_refl)
    | with_reducible exact fits_refl _ _
    | with_reducible apply segSend_fits
    | with_reducible apply withSeg_fits
    | with_reducible apply withSeg_fits
    | split

theorem diagnose_fits {g : Foot} {s0 : State} (s : State) (c : Nat) (v : Nat) (hle : (Foot.of [0x00, 0x02, 0x40, 0x50, 0x60, 0x68, 0x70, 0x71] [.flt, .evr, .saf, .lanes, .seg]).le g = true) (h0 : s0.Fits g s) : s0.Fits g (State.diagnose s c v) := by
  refine fits_app hle ?_ h0
  unfold State.diagnose
  repeat' first
    | (extract_lets +onlyGivenNames x
       first
       | (refine fits_cut (p := State.Fits (Foot.of [0x00, 0x02, 0x40, 0x50, 0x60, 0x68, 0x70, 0x71] [.flt, .evr, .saf, .lanes, .seg]) s x) ?_ ?_; rotate_left; intro hx; clear_value x; rotate_left; subst x)
       | (refine part_cut (α := type_of% x) (by constructor) ?_; subst x)
       | clear_value x
       | subst x)
    | ((with_reducible refine side_ok ?_); exact rfl)
    | with_reducible assumption
    | ((with_reducible refine keep_goal ?_); exact keep_refl)
    | with_reducible exact fits_refl _ _
    | with_reducible apply put_fits
    | with_reducible apply evt_fits
    | with_reducible apply detect_fits
    | with_reducible apply modChan_fits
    | ((with_reducible refine side_ok ?_); exact tl_unit rfl)
    | ((with_reducible refine side_ok ?_); exact be_unit rfl)
    | ((with_reducible refine side_ok ?_); exact lay_unit rfl)
    | ((with_reducible refine side_ok ?_); exact crc_unit rfl)
    | ((with_reducible refine side_ok ?_); exact lnk_unit rfl)
    | split

theorem pollDone_fits {g : Foot} {s0 : State} (s : State) (a : Nat) (d : List Byte) (hle : (Foot.of [0x00, 0x02, 0x40, 0x50, 0x60, 0x68, 0x70, 0x71] [.flt, .evr, .saf, .lanes, .seg]).le g = true) (h0 : s0.Fits g s) : s0.Fits g (State.pollDone s a d) := by
  refine fits_app hle ?_ h0
  unfold State.pollDone
  repeat' first
    | (extract_lets +onlyGivenNames x
       first
       | (refine fits_cut (p := State.Fits (Foot.of [0x00, 0x02, 0x40, 0x50, 0x60, 0x68, 0x70, 0x71] [.flt, .evr, .saf, .lanes, .seg]) s x) ?_ ?_; rotate_left; intro hx; clear_value x; rotate_left; subst x)
       | (refine part_cut (α := type_of% x) (by constructor) ?_; subst x)
       | clear_value x
       | subst x)
    | ((with_reducible refine side_ok ?_); exact rfl)
    | with_reducible assumption
    | ((with_reducible refine keep_goal ?_); exact keep_refl)
    | with_reducible exact fits_refl _ _
    | with_reducible refine fits_foldl _ _ (fun x hx u hu => ?_) ?_
    | with_reducible apply put_fits
    | with_reducible apply evt_fits
    | with_reducible apply detect_fits
    | with_reducible apply diagnose_fits
    | with_reducible apply withSeg_fits
    | ((with_reducible refine side_ok ?_); exact tl_unit rfl)
    | ((with_reducible refine side_ok ?_); exact be_unit rfl)
    | ((with_reducible refine side_ok ?_); exact lay_unit rfl)
    | ((with_reducible refine side_ok ?_); exact crc_unit rfl)
    | ((with_reducible refine side_ok ?_); exact lnk_unit rfl)
    | with_reducible apply withSeg_fits
    | split

theorem beyondCount_fits {g : Foot} {s0 : State} (s : State) (a : Nat) (hle : (Foot.of [0x60] []).le g = true) (h0 : s0.Fits g s) : s0.Fits g (State.beyondCount s a) := by
  refine fits_app hle ?_ h0
  unfold State.beyondCount
  repeat' first
    | (extract_lets +onlyGivenNames x
       first
       | (refine fits_cut (p := State.Fits (Foot.of [0x60] []) s x) ?_ ?_; rotate_left; intro hx; clear_value x; rotate_left; subst x)
       | (refine part_cut (α := type_of% x) (by constructor) ?_; subst x)
       | clear_value x
       | subst x)
    | ((with_reducible refine side_ok ?_); exact rfl)
    | with_reducible assumption
    | ((with_reducible refine keep_goal ?_); exact keep_refl)
    | with_reducible exact fits_refl _ _
    | with_reducible refine fits_foldl _ _ (fun x hx u hu => ?_) ?_
    | with_reducible apply put_fits
    | split

theorem driverBack_fits {g : Foot} {s0 : State} (s : State) (a : Nat) (hle : (Foot.of [0x60] [.seg]).le g = true) (h0 : s0.Fits g s) : s0.Fits g (State.driverBack s a) := by
  refine fits_app hle ?_ h0
  unfold State.driverBack
  repeat' first
    | (extract_lets +onlyGivenNames x
       first
       | (refine fits_cut (p := State.Fits (Foot.of [0x60] [.seg]) s x) ?_ ?_; rotate_left; intro hx; clear_value x; rotate_left; subst x)
       | (refine part_cut (α := type_of% x) (by constructor) ?_; subst x)
       | clear_value x
       | subst x)
    | ((with_reducible refine side_ok ?_); exact rfl)
    | with_reducible assumption
    | ((with_reducible refine keep_goal ?_); exact keep_refl)
    | with_reducible exact fits_refl _ _
    | with_reducible apply evt_fits
    | with_reducible apply withSeg_fits
    | with_reducible apply withSeg_fits
    | split

theorem segDone_fits {g : Foot} {s0 : State} (s : State) (t : SegTxn) (d : List Byte) (hle : (Foot.of [0x00, 0x02, 0x40, 0x50, 0x60, 0x68, 0x70, 0x71] [.flt, .evr, .saf, .lanes, .seg]).le g = true) (h0 : s0.Fits g s) : s0.Fits g (State.segDone s t d) := by
  refine fits_app hle ?_ h0
  unfold State.segDone
  repeat' first
    | (extract_lets +onlyGivenNames x
       first
       | (refine fits_cut (p := State.Fits (Foot.of [0x00, 0x02, 0x40, 0x50, 0x60, 0x68, 0x70, 0x71] [.flt, .evr, .saf, .lanes, .seg]) s x) ?_ ?_; rotate_left; intro hx; clear_value x; rotate_left; subst x)
       | (refine part_cut (α := type_of% x) (by constructor) ?_; subst x)
       | clear_value x
       | subst x)
    | ((with_reducible refine side_ok ?_); exact rfl)
    | with_reducible assumption
    | ((with_reducible refine keep_goal ?_); exact keep_refl)
    | with_reducible exact fits_refl _ _
    | with_reducible refine fits_foldl _ _ (fun x hx u hu => ?_) ?_
    | with_reducible apply put_fits
    | with_reducible apply beyondCount_fits
    | with_reducible apply driverBack_fits
    | with_reducible apply modChan_fits
    | with_reducible apply pollDone_fits
    | with_reducible apply setPresent_fits
    | with_reducible apply withSeg_fits
    | with_reducible apply withSeg_fits
    | split

theorem segFlip_fits {g : Foot} {s0 : State} (s : State) (hle : (Foot.of [0x60] [.seg]).le g = true) (h0 : s0.Fits g s) : s0.Fits g (State.segFlip s) := by
  refine fits_app hle ?_ h0
  unfold State.segFlip
  repeat' first
    | (extract_lets +onlyGivenNames x
       first
       | (refine fits_cut (p := State.Fits (Foot.of [0x60] [.seg]) s x) ?_ ?_; rotate_left; intro hx; clear_value x; rotate_left; subst x)
       | (refine part_cut (α := type_of% x) (by constructor) ?_; subst x)
       | clear_value x
       | subst x)
    | ((with_reducible refine side_ok ?_); exact rfl)
    | with_reducible assumption
    | ((with_reducible refine keep_goal ?_); exact keep_refl)
    | with_reducible exact fits_refl _ _
    | with_reducible apply evt_fits
    | with_reducible apply withSeg_fits
    | with_reducible apply withSeg_fits
    | split

theorem segOff_fits {g : Foot} {s0 : State} (s : State) (hle : (Foot.of [] [.seg]).le g = true) (h0 : s0.Fits g s) : s0.Fits g (State.segOff s) := by
  refine fits_app hle ?_ h0
  unfold State.segOff
  repeat' first
    | (extract_lets +onlyGivenNames x
       first
       | (refine fits_cut (p := State.Fits (Foot.of [] [.seg]) s x) ?_ ?_; rotate_left; intro hx; clear_value x; rotate_left; subst x)
       | (refine part_cut (α := type_of% x) (by constructor) ?_; subst x)
       | clear_value x
       | subst x)
    | ((with_reducible refine side_ok ?_); exact rfl)
    | with_reducible assumption
    | ((with_reducible refine keep_goal ?_); exact keep_refl)
    | with_reducible exact fits_refl _ _
    | with_reducible apply segAllOff_fits
    | with_reducible apply withSeg_fits
    | with_reducible apply withSeg_fits
    | split

end Sys2Proof.Laws
end

