-- ==== Sys2Proof/Laws/FrameFits.lean ====
section
/-! SUPPORT. Footprints of the operations of Machine/Frame.lean: one lemma for each, which says what it may touch and that it keeps what every command keeps. -/

set_option linter.unusedTactic false
set_option linter.unreachableTactic false

namespace Sys2Proof.Laws

open Sys2Proof.Machine

theorem landLayer_fits {g : Foot} {s0 : State} (s : State) (held : List Nat) (n : Nat) (hle : (Foot.of [0x18] [.pend, .pendPages]).le g = true) (h0 : s0.Fits g s) : s0.Fits g (State.landLayer s held n) := by
  refine fits_app hle ?_ h0
  unfold State.landLayer
  repeat' first
    | (extract_lets +onlyGivenNames x
       first
       | (refine fits_cut (p := State.Fits (Foot.of [0x18] [.pend, .pendPages]) s x) ?_ ?_; rotate_left; intro hx; clear_value x; rotate_left; subst x)
       | (refine part_cut (α := type_of% x) (by constructor) ?_; subst x)
       | clear_value x
       | subst x)
    | ((with_reducible refine side_ok ?_); exact rfl)
    | with_reducible assumption
    | ((with_reducible refine keep_goal ?_); exact keep_refl)
    | with_reducible exact fits_refl _ _
    | with_reducible apply put_fits
    | with_reducible apply evt_fits
    | with_reducible apply incSat_fits
    | with_reducible apply apply_fits
    | ((with_reducible refine side_ok ?_); exact lay_unit rfl)
    | ((with_reducible refine side_ok ?_); exact list_unit rfl (by assumption))
    | split

theorem landFrame_fits {g : Foot} {s0 : State} (s : State) (hle : (Foot.of [0x18, 0x50] [.pend, .pendPages, .cmp]).le g = true) (h0 : s0.Fits g s) : s0.Fits g (State.landFrame s) := by
  refine fits_app hle ?_ h0
  unfold State.landFrame
  repeat' first
    | (extract_lets +onlyGivenNames x
       first
       | (refine fits_cut (p := State.Fits (Foot.of [0x18, 0x50] [.pend, .pendPages, .cmp]) s x) ?_ ?_; rotate_left; intro hx; clear_value x; rotate_left; subst x)
       | (refine part_cut (α := type_of% x) (by constructor) ?_; subst x)
       | clear_value x
       | subst x)
    | ((with_reducible refine side_ok ?_); exact rfl)
    | with_reducible assumption
    | ((with_reducible refine keep_goal ?_); exact keep_refl)
    | with_reducible exact fits_refl _ _
    | with_reducible refine fits_foldl _ _ (fun x hx u hu => ?_) ?_
    | with_reducible apply put_fits
    | with_reducible apply apply_fits
    | with_reducible apply landLayer_fits
    | with_reducible apply withCmp_fits
    | with_reducible apply withCmp_fits
    | ((with_reducible refine side_ok ?_); exact list_unit rfl (by assumption))
    | split

theorem sampleEnables_fits {g : Foot} {s0 : State} (s : State) (hle : (Foot.of [0x18] [.cmp]).le g = true) (h0 : s0.Fits g s) : s0.Fits g (State.sampleEnables s) := by
  refine fits_app hle ?_ h0
  unfold State.sampleEnables
  repeat' first
    | (extract_lets +onlyGivenNames x
       first
       | (refine fits_cut (p := State.Fits (Foot.of [0x18] [.cmp]) s x) ?_ ?_; rotate_left; intro hx; clear_value x; rotate_left; subst x)
       | (refine part_cut (α := type_of% x) (by constructor) ?_; subst x)
       | clear_value x
       | subst x)
    | ((with_reducible refine side_ok ?_); exact rfl)
    | with_reducible assumption
    | ((with_reducible refine keep_goal ?_); exact keep_refl)
    | with_reducible exact fits_refl _ _
    | with_reducible refine fits_foldl _ _ (fun x hx u hu => ?_) ?_
    | with_reducible apply put_fits
    | with_reducible apply evt_fits
    | with_reducible apply withCmp_fits
    | ((with_reducible refine side_ok ?_); exact lay_unit rfl)
    | with_reducible apply withCmp_fits
    | split

theorem staleLayer_fits {g : Foot} {s0 : State} (s : State) (n : Nat) (hle : (Foot.of [0x18] [.cmp]).le g = true) (h0 : s0.Fits g s) : s0.Fits g (State.staleLayer s n) := by
  refine fits_app hle ?_ h0
  unfold State.staleLayer
  repeat' first
    | (extract_lets +onlyGivenNames x
       first
       | (refine fits_cut (p := State.Fits (Foot.of [0x18] [.cmp]) s x) ?_ ?_; rotate_left; intro hx; clear_value x; rotate_left; subst x)
       | (refine part_cut (α := type_of% x) (by constructor) ?_; subst x)
       | clear_value x
       | subst x)
    | ((with_reducible refine side_ok ?_); exact rfl)
    | with_reducible assumption
    | ((with_reducible refine keep_goal ?_); exact keep_refl)
    | with_reducible exact fits_refl _ _
    | with_reducible apply put_fits
    | with_reducible apply evt_fits
    | with_reducible apply withCmp_fits
    | ((with_reducible refine side_ok ?_); exact lay_unit rfl)
    | with_reducible apply withCmp_fits
    | split

theorem newFrame_fits {g : Foot} {s0 : State} (s : State) (hle : (Foot.of [0x18, 0x40, 0x48, 0x50, 0x60, 0x70, 0x71] [.pend, .pendPages, .evr, .cmp, .gov, .cal, .seg]).le g = true) (h0 : s0.Fits g s) : s0.Fits g (State.newFrame s) := by
  refine fits_app hle ?_ h0
  unfold State.newFrame
  repeat' first
    | (extract_lets +onlyGivenNames x
       first
       | (refine fits_cut (p := State.Fits (Foot.of [0x18, 0x40, 0x48, 0x50, 0x60, 0x70, 0x71] [.pend, .pendPages, .evr, .cmp, .gov, .cal, .seg]) s x) ?_ ?_; rotate_left; intro hx; clear_value x; rotate_left; subst x)
       | (refine part_cut (α := type_of% x) (by constructor) ?_; subst x)
       | clear_value x
       | subst x)
    | ((with_reducible refine side_ok ?_); exact rfl)
    | with_reducible assumption
    | ((with_reducible refine keep_goal ?_); exact keep_refl)
    | with_reducible exact fits_refl _ _
    | with_reducible refine fits_foldl _ _ (fun x hx u hu => ?_) ?_
    | with_reducible apply put_fits
    | with_reducible apply evt_fits
    | with_reducible apply calLatch_fits
    | with_reducible apply govLatch_fits
    | with_reducible apply landFrame_fits
    | with_reducible apply sampleEnables_fits
    | with_reducible apply segForm_fits
    | with_reducible apply staleLayer_fits
    | with_reducible apply withCmp_fits
    | with_reducible apply withCmp_fits
    | split

theorem repeatFrame_fits {g : Foot} {s0 : State} (s : State) (hle : (Foot.of [0x18] [.cmp, .lanes, .gov]).le g = true) (h0 : s0.Fits g s) : s0.Fits g (State.repeatFrame s) := by
  refine fits_app hle ?_ h0
  unfold State.repeatFrame
  repeat' first
    | (extract_lets +onlyGivenNames x
       first
       | (refine fits_cut (p := State.Fits (Foot.of [0x18] [.cmp, .lanes, .gov]) s x) ?_ ?_; rotate_left; intro hx; clear_value x; rotate_left; subst x)
       | (refine part_cut (α := type_of% x) (by constructor) ?_; subst x)
       | clear_value x
       | subst x)
    | ((with_reducible refine side_ok ?_); exact rfl)
    | with_reducible assumption
    | ((with_reducible refine keep_goal ?_); exact keep_refl)
    | with_reducible exact fits_refl _ _
    | with_reducible refine fits_foldl _ _ (fun x hx u hu => ?_) ?_
    | with_reducible apply put_fits
    | with_reducible apply dirtyAll_fits
    | with_reducible apply govRepeat_fits
    | with_reducible apply modLane_fits
    | with_reducible apply withCmp_fits
    | with_reducible apply withCmp_fits
    | split

theorem readGlare_fits {g : Foot} {s0 : State} (s : State) (b : Nat) (t : Nat) (hle : (Foot.of [0x00, 0x02, 0x30, 0x40, 0x50, 0x68, 0x70, 0x71] [.flt, .evr, .saf, .glare, .lanes]).le g = true) (h0 : s0.Fits g s) : s0.Fits g (State.readGlare s b t) := by
  refine fits_app hle ?_ h0
  unfold State.readGlare
  repeat' first
    | (extract_lets +onlyGivenNames x
       first
       | (refine fits_cut (p := State.Fits (Foot.of [0x00, 0x02, 0x30, 0x40, 0x50, 0x68, 0x70, 0x71] [.flt, .evr, .saf, .glare, .lanes]) s x) ?_ ?_; rotate_left; intro hx; clear_value x; rotate_left; subst x)
       | (refine part_cut (α := type_of% x) (by constructor) ?_; subst x)
       | clear_value x
       | subst x)
    | ((with_reducible refine side_ok ?_); exact rfl)
    | with_reducible assumption
    | ((with_reducible refine keep_goal ?_); exact keep_refl)
    | with_reducible exact fits_refl _ _
    | with_reducible apply evt_fits
    | with_reducible apply incSat_fits
    | with_reducible apply consumeInj_fits
    | with_reducible apply detect_fits
    | with_reducible apply modEngine_fits
    | ((with_reducible refine side_ok ?_); exact tl_unit rfl)
    | ((with_reducible refine side_ok ?_); exact be_unit rfl)
    | ((with_reducible refine side_ok ?_); exact lay_unit rfl)
    | ((with_reducible refine side_ok ?_); exact crc_unit rfl)
    | ((with_reducible refine side_ok ?_); exact lnk_unit rfl)
    | split

theorem injectParity_fits {g : Foot} {s0 : State} (s : State) (bands : List Nat) (hle : (Foot.of [0x18, 0x70] [.fresh]).le g = true) (h0 : s0.Fits g s) : s0.Fits g (State.injectParity s bands).2 := by
  refine fits_app hle ?_ h0
  unfold State.injectParity
  repeat' first
    | (extract_lets +onlyGivenNames x
       first
       | (refine fits_cut (p := State.Fits (Foot.of [0x18, 0x70] [.fresh]) s x) ?_ ?_; rotate_left; intro hx; clear_value x; rotate_left; subst x)
       | (refine part_cut (α := type_of% x) (by constructor) ?_; subst x)
       | clear_value x
       | subst x)
    | ((with_reducible refine side_ok ?_); exact rfl)
    | with_reducible assumption
    | ((with_reducible refine keep_goal ?_); exact keep_refl)
    | with_reducible exact fits_refl _ _
    | with_reducible refine free_fits_eq (by assumption) ?_ ?_
    | with_reducible apply free_fits
    | with_reducible apply consumeInj_fits
    | split
    | with_reducible refine fits_snd (by assumption) ?_
    | with_reducible refine fits_thd (by assumption) ?_
    | dsimp only

theorem injectParity_fits_eq {g : Foot} {s0 : State} {s : State} {bands : List Nat} {t : State} {r0 : List Nat} (h : (State.injectParity s bands) = (r0, t)) (hle : (Foot.of [0x18, 0x70] [.fresh]).le g = true) (h0 : s0.Fits g s) : s0.Fits g t := by
  have k := injectParity_fits s bands hle h0
  rw [h] at k
  exact k

theorem parityRegions_fits {g : Foot} {s0 : State} (s : State) (bad : List Nat) (inj : List Nat) (b : Nat) (hle : (Foot.of [0x00, 0x02, 0x18, 0x40, 0x50, 0x68, 0x70, 0x71] [.flt, .evr, .saf, .cmp, .lanes, .tln]).le g = true) (h0 : s0.Fits g s) : s0.Fits g (State.parityRegions s bad inj b) := by
  refine fits_app hle ?_ h0
  unfold State.parityRegions
  repeat' first
    | (extract_lets +onlyGivenNames x
       first
       | (refine fits_cut (p := State.Fits (Foot.of [0x00, 0x02, 0x18, 0x40, 0x50, 0x68, 0x70, 0x71] [.flt, .evr, .saf, .cmp, .lanes, .tln]) s x) ?_ ?_; rotate_left; intro hx; clear_value x; rotate_left; subst x)
       | (refine part_cut (α := type_of% x) (by constructor) ?_; subst x)
       | clear_value x
       | subst x)
    | ((with_reducible refine side_ok ?_); exact rfl)
    | with_reducible assumption
    | ((with_reducible refine keep_goal ?_); exact keep_refl)
    | with_reducible exact fits_refl _ _
    | with_reducible refine fits_foldl _ _ (fun x hx u hu => ?_) ?_
    | with_reducible refine fits_foldl_snd _ _ (fun x hx b u hu => ?_) ?_
    | with_reducible apply noteParity_fits
    | with_reducible apply requestRecomp_fits
    | split
    | with_reducible refine fits_snd (by assumption) ?_
    | with_reducible refine fits_thd (by assumption) ?_
    | dsimp only

theorem composeBand_fits {g : Foot} {s0 : State} (s : State) (bad : List Nat) (inj : List Nat) (b : Nat) (hle : (Foot.of [0x00, 0x02, 0x18, 0x40, 0x50, 0x68, 0x70, 0x71] [.flt, .evr, .saf, .cmp, .lanes, .tln]).le g = true) (h0 : s0.Fits g s) : s0.Fits g (State.composeBand s bad inj b) := by
  refine fits_app hle ?_ h0
  unfold State.composeBand
  repeat' first
    | (extract_lets +onlyGivenNames x
       first
       | (refine fits_cut (p := State.Fits (Foot.of [0x00, 0x02, 0x18, 0x40, 0x50, 0x68, 0x70, 0x71] [.flt, .evr, .saf, .cmp, .lanes, .tln]) s x) ?_ ?_; rotate_left; intro hx; clear_value x; rotate_left; subst x)
       | (refine part_cut (α := type_of% x) (by constructor) ?_; subst x)
       | clear_value x
       | subst x)
    | ((with_reducible refine side_ok ?_); exact rfl)
    | with_reducible assumption
    | ((with_reducible refine keep_goal ?_); exact keep_refl)
    | with_reducible exact fits_refl _ _
    | with_reducible apply parityRegions_fits
    | with_reducible apply withCmp_fits
    | with_reducible apply withCmp_fits
    | split

theorem decideFrame_fits {g : Foot} {s0 : State} (s : State) (hle : (Foot.of [0x00, 0x02, 0x18, 0x40, 0x50, 0x68, 0x70, 0x71] [.flt, .evr, .saf, .cmp, .lanes, .tln]).le g = true) (h0 : s0.Fits g s) : s0.Fits g (State.decideFrame s) := by
  refine fits_app hle ?_ h0
  unfold State.decideFrame
  repeat' first
    | (extract_lets +onlyGivenNames x
       first
       | (refine fits_cut (p := State.Fits (Foot.of [0x00, 0x02, 0x18, 0x40, 0x50, 0x68, 0x70, 0x71] [.flt, .evr, .saf, .cmp, .lanes, .tln]) s x) ?_ ?_; rotate_left; intro hx; clear_value x; rotate_left; subst x)
       | (refine part_cut (α := type_of% x) (by constructor) ?_; subst x)
       | clear_value x
       | subst x)
    | ((with_reducible refine side_ok ?_); exact rfl)
    | with_reducible assumption
    | ((with_reducible refine keep_goal ?_); exact keep_refl)
    | with_reducible exact fits_refl _ _
    | with_reducible apply deferFlip_fits
    | with_reducible apply withTln_fits
    | with_reducible apply withTln_fits
    | split

theorem fluxFrame_fits {g : Foot} {s0 : State} (s : State) (t : Nat) (hle : (Foot.of [] [.flx]).le g = true) (h0 : s0.Fits g s) : s0.Fits g (State.fluxFrame s t) := by
  refine fits_app hle ?_ h0
  unfold State.fluxFrame
  repeat' first
    | (extract_lets +onlyGivenNames x
       first
       | (refine fits_cut (p := State.Fits (Foot.of [] [.flx]) s x) ?_ ?_; rotate_left; intro hx; clear_value x; rotate_left; subst x)
       | (refine part_cut (α := type_of% x) (by constructor) ?_; subst x)
       | clear_value x
       | subst x)
    | ((with_reducible refine side_ok ?_); exact rfl)
    | with_reducible assumption
    | ((with_reducible refine keep_goal ?_); exact keep_refl)
    | with_reducible exact fits_refl _ _
    | with_reducible apply fluxAway_fits
    | with_reducible apply modFlx_fits
    | split

theorem laneFlip_fits {g : Foot} {s0 : State} (s : State) (n : Nat) (hle : (Foot.of [0x50] [.lanes]).le g = true) (h0 : s0.Fits g s) : s0.Fits g (State.laneFlip s n) := by
  refine fits_app hle ?_ h0
  unfold State.laneFlip
  repeat' first
    | (extract_lets +onlyGivenNames x
       first
       | (refine fits_cut (p := State.Fits (Foot.of [0x50] [.lanes]) s x) ?_ ?_; rotate_left; intro hx; clear_value x; rotate_left; subst x)
       | (refine part_cut (α := type_of% x) (by constructor) ?_; subst x)
       | clear_value x
       | subst x)
    | ((with_reducible refine side_ok ?_); exact rfl)
    | with_reducible assumption
    | ((with_reducible refine keep_goal ?_); exact keep_refl)
    | with_reducible exact fits_refl _ _
    | with_reducible apply put_fits
    | with_reducible apply modLane_fits
    | with_reducible apply sendCtl_fits
    | ((with_reducible refine side_ok ?_); exact tl_unit rfl)
    | split

theorem lightFlip_fits {g : Foot} {s0 : State} (s : State) (hle : (Foot.of [0x68] [.saf]).le g = true) (h0 : s0.Fits g s) : s0.Fits g (State.lightFlip s) := by
  refine fits_app hle ?_ h0
  unfold State.lightFlip
  repeat' first
    | (extract_lets +onlyGivenNames x
       first
       | (refine fits_cut (p := State.Fits (Foot.of [0x68] [.saf]) s x) ?_ ?_; rotate_left; intro hx; clear_value x; rotate_left; subst x)
       | (refine part_cut (α := type_of% x) (by constructor) ?_; subst x)
       | clear_value x
       | subst x)
    | ((with_reducible refine side_ok ?_); exact rfl)
    | with_reducible assumption
    | ((with_reducible refine keep_goal ?_); exact keep_refl)
    | with_reducible exact fits_refl _ _
    | with_reducible apply put_fits
    | with_reducible apply withSaf_fits
    | with_reducible apply withSaf_fits
    | split

theorem phaseSend_fits {g : Foot} {s0 : State} (s : State) (hle : (Foot.of [] [.side]).le g = true) (h0 : s0.Fits g s) : s0.Fits g (State.phaseSend s) := by
  refine fits_app hle ?_ h0
  unfold State.phaseSend
  repeat' first
    | (extract_lets +onlyGivenNames x
       first
       | (refine fits_cut (p := State.Fits (Foot.of [] [.side]) s x) ?_ ?_; rotate_left; intro hx; clear_value x; rotate_left; subst x)
       | (refine part_cut (α := type_of% x) (by constructor) ?_; subst x)
       | clear_value x
       | subst x)
    | ((with_reducible refine side_ok ?_); exact rfl)
    | with_reducible assumption
    | ((with_reducible refine keep_goal ?_); exact keep_refl)
    | with_reducible exact fits_refl _ _
    | with_reducible apply withSide_fits
    | with_reducible apply withSide_fits
    | split

theorem sscApply_fits {g : Foot} {s0 : State} (s : State) (hle : (Foot.of [0x01] [.pend, .pendPages, .quartz]).le g = true) (h0 : s0.Fits g s) : s0.Fits g (State.sscApply s) := by
  refine fits_app hle ?_ h0
  unfold State.sscApply
  repeat' first
    | (extract_lets +onlyGivenNames x
       first
       | (refine fits_cut (p := State.Fits (Foot.of [0x01] [.pend, .pendPages, .quartz]) s x) ?_ ?_; rotate_left; intro hx; clear_value x; rotate_left; subst x)
       | (refine part_cut (α := type_of% x) (by constructor) ?_; subst x)
       | clear_value x
       | subst x)
    | ((with_reducible refine side_ok ?_); exact rfl)
    | with_reducible assumption
    | ((with_reducible refine keep_goal ?_); exact keep_refl)
    | with_reducible exact fits_refl _ _
    | with_reducible apply put_fits
    | with_reducible apply apply_fits
    | with_reducible apply withQuartz_fits
    | with_reducible apply withQuartz_fits
    | ((with_reducible refine side_ok ?_); exact list_unit rfl (by assumption))
    | split

theorem landCmp_fits {g : Foot} {s0 : State} (s : State) (hle : (Foot.of [0x18] [.pend, .pendPages, .cmp]).le g = true) (h0 : s0.Fits g s) : s0.Fits g (State.landCmp s) := by
  refine fits_app hle ?_ h0
  unfold State.landCmp
  repeat' first
    | (extract_lets +onlyGivenNames x
       first
       | (refine fits_cut (p := State.Fits (Foot.of [0x18] [.pend, .pendPages, .cmp]) s x) ?_ ?_; rotate_left; intro hx; clear_value x; rotate_left; subst x)
       | (refine part_cut (α := type_of% x) (by constructor) ?_; subst x)
       | clear_value x
       | subst x)
    | ((with_reducible refine side_ok ?_); exact rfl)
    | with_reducible assumption
    | ((with_reducible refine keep_goal ?_); exact keep_refl)
    | with_reducible exact fits_refl _ _
    | with_reducible apply put_fits
    | with_reducible apply apply_fits
    | with_reducible apply withCmp_fits
    | with_reducible apply withCmp_fits
    | ((with_reducible refine side_ok ?_); exact list_unit rfl (by assumption))
    | split

theorem landStopped_fits {g : Foot} {s0 : State} (s : State) (p : Nat) (hp : g.hasUnit (groupPage p) = true) (hle : (Foot.of [0x01, 0x18, 0x30, 0x60] [.pend, .pendPages, .quartz, .cmp, .glare]).le g = true) (h0 : s0.Fits g s) : s0.Fits g (State.landStopped s p) := by
  unfold State.landStopped
  repeat' first
    | (extract_lets +onlyGivenNames x
       first
       | (refine fits_cut (p := State.Fits g s0 x) ?_ ?_; rotate_left; intro hx; clear_value x; rotate_left; subst x)
       | (refine part_cut (α := type_of% x) (by constructor) ?_; subst x)
       | clear_value x
       | subst x)
    | with_reducible assumption
    | ((with_reducible refine keep_goal ?_); exact keep_refl)
    | ((with_reducible refine side_ok ?_); first | exact unit_via rfl hle | exact part_via rfl hle | exact le_via rfl hle)
    | with_reducible exact fits_refl _ _
    | with_reducible apply put_fits
    | with_reducible apply apply_fits
    | with_reducible apply glareCommits_fits
    | with_reducible apply landCmp_fits
    | with_reducible apply landLayer_fits
    | with_reducible apply sscApply_fits
    | with_reducible apply withCmp_fits
    | with_reducible apply withCmp_fits
    | ((with_reducible refine side_ok ?_); exact list_unit rfl (by assumption))
    | split

theorem endFrames_fits {g : Foot} {s0 : State} (s : State) (hle : (Foot.of [0x01, 0x18, 0x30, 0x50, 0x60] [.pend, .pendPages, .quartz, .cmp, .glare, .tln]).le g = true) (h0 : s0.Fits g s) : s0.Fits g (State.endFrames s) := by
  refine fits_app hle ?_ h0
  unfold State.endFrames
  repeat' first
    | (extract_lets +onlyGivenNames x
       first
       | (refine fits_cut (p := State.Fits (Foot.of [0x01, 0x18, 0x30, 0x50, 0x60] [.pend, .pendPages, .quartz, .cmp, .glare, .tln]) s x) ?_ ?_; rotate_left; intro hx; clear_value x; rotate_left; subst x)
       | (refine part_cut (α := type_of% x) (by constructor) ?_; subst x)
       | clear_value x
       | subst x)
    | ((with_reducible refine side_ok ?_); exact rfl)
    | with_reducible assumption
    | ((with_reducible refine keep_goal ?_); exact keep_refl)
    | with_reducible exact fits_refl _ _
    | with_reducible refine fits_foldl _ _ (fun x hx u hu => ?_) ?_
    | with_reducible apply put_fits
    | with_reducible apply landStopped_fits
    | with_reducible apply stopFrames_fits
    | ((with_reducible refine side_ok ?_); exact tl_unit rfl)
    | ((with_reducible refine side_ok ?_); exact be_unit rfl)
    | ((with_reducible refine side_ok ?_); exact lay_unit rfl)
    | ((with_reducible refine side_ok ?_); exact crc_unit rfl)
    | ((with_reducible refine side_ok ?_); exact lnk_unit rfl)
    | ((with_reducible refine side_ok ?_); exact list_unit rfl (by assumption))
    | split

end Sys2Proof.Laws
end

