-- ==== Sys2Proof/Laws/SafetyUnitFits.lean ====
section
/-! SUPPORT. Footprints of the operations of Machine/SafetyUnit.lean: one lemma for each, which says what it may touch and that it keeps what every command keeps. -/

set_option linter.unusedTactic false
set_option linter.unreachableTactic false

namespace Sys2Proof.Laws

open Sys2Proof.Machine

theorem soutTry_fits {g : Foot} {s0 : State} (s : State) (k : Nat) (hle : (Foot.of [0x50, 0x68] [.saf, .lanes]).le g = true) (h0 : s0.Fits g s) : s0.Fits g (State.soutTry s k) := by
  refine fits_app hle ?_ h0
  unfold State.soutTry
  repeat' first
    | (extract_lets +onlyGivenNames x
       first
       | (refine fits_cut (p := State.Fits (Foot.of [0x50, 0x68] [.saf, .lanes]) s x) ?_ ?_; rotate_left; intro hx; clear_value x; rotate_left; subst x)
       | (refine part_cut (α := type_of% x) (by constructor) ?_; subst x)
       | clear_value x
       | subst x)
    | ((with_reducible refine side_ok ?_); exact rfl)
    | with_reducible assumption
    | ((with_reducible refine keep_goal ?_); exact keep_refl)
    | ((with_reducible refine keep_ok ?_); intro h; simpa [Saf.shaped, Quartz.shaped, Cmd.shaped, Glare.shaped, Gov.shaped, Cal.shaped, Flx.shaped, Fus.shaped, Upd.shaped] using h)
    | with_reducible exact fits_refl _ _
    | with_reducible apply put_fits
    | with_reducible apply soutLow_fits
    | with_reducible apply withSaf_fits
    | with_reducible apply withSaf_fits
    | split

theorem soutsTry_fits {g : Foot} {s0 : State} (s : State) (hle : (Foot.of [0x50, 0x68] [.saf, .lanes]).le g = true) (h0 : s0.Fits g s) : s0.Fits g (State.soutsTry s) := by
  refine fits_app hle ?_ h0
  unfold State.soutsTry
  repeat' first
    | (extract_lets +onlyGivenNames x
       first
       | (refine fits_cut (p := State.Fits (Foot.of [0x50, 0x68] [.saf, .lanes]) s x) ?_ ?_; rotate_left; intro hx; clear_value x; rotate_left; subst x)
       | (refine part_cut (α := type_of% x) (by constructor) ?_; subst x)
       | clear_value x
       | subst x)
    | ((with_reducible refine side_ok ?_); exact rfl)
    | with_reducible assumption
    | ((with_reducible refine keep_goal ?_); exact keep_refl)
    | with_reducible exact fits_refl _ _
    | with_reducible apply soutTry_fits
    | split

theorem soutCtrl_fits {g : Foot} {s0 : State} (s : State) (v : Word) (hle : (Foot.of [0x50, 0x68] [.saf, .lanes]).le g = true) (h0 : s0.Fits g s) : s0.Fits g (State.soutCtrl s v) := by
  refine fits_app hle ?_ h0
  unfold State.soutCtrl
  repeat' first
    | (extract_lets +onlyGivenNames x
       first
       | (refine fits_cut (p := State.Fits (Foot.of [0x50, 0x68] [.saf, .lanes]) s x) ?_ ?_; rotate_left; intro hx; clear_value x; rotate_left; subst x)
       | (refine part_cut (α := type_of% x) (by constructor) ?_; subst x)
       | clear_value x
       | subst x)
    | ((with_reducible refine side_ok ?_); exact rfl)
    | with_reducible assumption
    | ((with_reducible refine keep_goal ?_); exact keep_refl)
    | with_reducible exact fits_refl _ _
    | with_reducible apply put_fits
    | with_reducible apply settle_fits
    | with_reducible apply soutsTry_fits
    | split

theorem soutFault_fits {g : Foot} {s0 : State} (s : State) (k : Nat) (cause : Nat) (hle : (Foot.of [0x00, 0x40, 0x50, 0x68, 0x70, 0x71] [.flt, .evr, .saf, .lanes]).le g = true) (h0 : s0.Fits g s) : s0.Fits g (State.soutFault s k cause) := by
  refine fits_app hle ?_ h0
  unfold State.soutFault
  repeat' first
    | (extract_lets +onlyGivenNames x
       first
       | (refine fits_cut (p := State.Fits (Foot.of [0x00, 0x40, 0x50, 0x68, 0x70, 0x71] [.flt, .evr, .saf, .lanes]) s x) ?_ ?_; rotate_left; intro hx; clear_value x; rotate_left; subst x)
       | (refine part_cut (α := type_of% x) (by constructor) ?_; subst x)
       | clear_value x
       | subst x)
    | ((with_reducible refine side_ok ?_); exact rfl)
    | with_reducible assumption
    | ((with_reducible refine keep_goal ?_); exact keep_refl)
    | with_reducible exact fits_refl _ _
    | with_reducible apply put_fits
    | with_reducible apply evt_fits
    | with_reducible apply raiseTrig_fits
    | with_reducible apply settle_fits
    | with_reducible apply soutLow_fits
    | ((with_reducible refine side_ok ?_); exact tl_unit rfl)
    | ((with_reducible refine side_ok ?_); exact be_unit rfl)
    | ((with_reducible refine side_ok ?_); exact lay_unit rfl)
    | ((with_reducible refine side_ok ?_); exact crc_unit rfl)
    | ((with_reducible refine side_ok ?_); exact lnk_unit rfl)
    | split

theorem modChanS_fits {g : Foot} {s0 : State} (s : State) (n : Nat) (c : Nat) (f : SinChan → SinChan) (hle : (Foot.of [0x68] [.saf]).le g = true) (h0 : s0.Fits g s) : s0.Fits g (State.modChanS s n c f) := by
  refine fits_app hle ?_ h0
  unfold State.modChanS
  repeat' first
    | (extract_lets +onlyGivenNames x
       first
       | (refine fits_cut (p := State.Fits (Foot.of [0x68] [.saf]) s x) ?_ ?_; rotate_left; intro hx; clear_value x; rotate_left; subst x)
       | (refine part_cut (α := type_of% x) (by constructor) ?_; subst x)
       | clear_value x
       | subst x)
    | ((with_reducible refine side_ok ?_); exact rfl)
    | with_reducible assumption
    | ((with_reducible refine keep_goal ?_); exact keep_refl)
    | ((with_reducible refine keep_ok ?_); intro h; simpa [Saf.shaped, Quartz.shaped, Cmd.shaped, Glare.shaped, Gov.shaped, Cal.shaped, Flx.shaped, Fus.shaped, Upd.shaped] using h)
    | with_reducible exact fits_refl _ _
    | with_reducible apply put_fits
    | with_reducible apply withSaf_fits
    | with_reducible apply withSaf_fits
    | ((with_reducible refine side_ok ?_); split <;> exact rfl)
    | split

theorem clearTests_fits {g : Foot} {s0 : State} (s : State) (n : Nat) (hle : (Foot.of [0x68] [.saf]).le g = true) (h0 : s0.Fits g s) : s0.Fits g (State.clearTests s n) := by
  refine fits_app hle ?_ h0
  unfold State.clearTests
  repeat' first
    | (extract_lets +onlyGivenNames x
       first
       | (refine fits_cut (p := State.Fits (Foot.of [0x68] [.saf]) s x) ?_ ?_; rotate_left; intro hx; clear_value x; rotate_left; subst x)
       | (refine part_cut (α := type_of% x) (by constructor) ?_; subst x)
       | clear_value x
       | subst x)
    | ((with_reducible refine side_ok ?_); exact rfl)
    | with_reducible assumption
    | ((with_reducible refine keep_goal ?_); exact keep_refl)
    | with_reducible exact fits_refl _ _
    | with_reducible apply modChanS_fits
    | split

theorem setHealthyFor_fits {g : Foot} {s0 : State} (s : State) (n : Nat) (b : Bool) (hle : (Foot.of [] [.saf]).le g = true) (h0 : s0.Fits g s) : s0.Fits g (State.setHealthyFor s n b) := by
  refine fits_app hle ?_ h0
  unfold State.setHealthyFor
  repeat' first
    | (extract_lets +onlyGivenNames x
       first
       | (refine fits_cut (p := State.Fits (Foot.of [] [.saf]) s x) ?_ ?_; rotate_left; intro hx; clear_value x; rotate_left; subst x)
       | (refine part_cut (α := type_of% x) (by constructor) ?_; subst x)
       | clear_value x
       | subst x)
    | ((with_reducible refine side_ok ?_); exact rfl)
    | with_reducible assumption
    | ((with_reducible refine keep_goal ?_); exact keep_refl)
    | ((with_reducible refine keep_ok ?_); intro h; simpa [Saf.shaped, Quartz.shaped, Cmd.shaped, Glare.shaped, Gov.shaped, Cal.shaped, Flx.shaped, Fus.shaped, Upd.shaped] using h)
    | with_reducible exact fits_refl _ _
    | with_reducible apply withSaf_fits
    | with_reducible apply withSaf_fits
    | split

theorem sinFault_fits {g : Foot} {s0 : State} (s : State) (n : Nat) (cause : Nat) (hle : (Foot.of [0x00, 0x40, 0x50, 0x68, 0x70, 0x71] [.flt, .evr, .saf, .lanes]).le g = true) (h0 : s0.Fits g s) : s0.Fits g (State.sinFault s n cause) := by
  refine fits_app hle ?_ h0
  unfold State.sinFault
  repeat' first
    | (extract_lets +onlyGivenNames x
       first
       | (refine fits_cut (p := State.Fits (Foot.of [0x00, 0x40, 0x50, 0x68, 0x70, 0x71] [.flt, .evr, .saf, .lanes]) s x) ?_ ?_; rotate_left; intro hx; clear_value x; rotate_left; subst x)
       | (refine part_cut (α := type_of% x) (by constructor) ?_; subst x)
       | clear_value x
       | subst x)
    | ((with_reducible refine side_ok ?_); exact rfl)
    | with_reducible assumption
    | ((with_reducible refine keep_goal ?_); exact keep_refl)
    | with_reducible exact fits_refl _ _
    | with_reducible apply put_fits
    | with_reducible apply evt_fits
    | with_reducible apply clearTests_fits
    | with_reducible apply raise_fits
    | with_reducible apply raiseTrig_fits
    | with_reducible apply setHealthyFor_fits
    | with_reducible apply settle_fits
    | ((with_reducible refine side_ok ?_); exact tl_unit rfl)
    | ((with_reducible refine side_ok ?_); exact be_unit rfl)
    | ((with_reducible refine side_ok ?_); exact lay_unit rfl)
    | ((with_reducible refine side_ok ?_); exact crc_unit rfl)
    | ((with_reducible refine side_ok ?_); exact lnk_unit rfl)
    | split

theorem sinHealthy_fits {g : Foot} {s0 : State} (s : State) (n : Nat) (hle : (Foot.of [0x68] [.flt]).le g = true) (h0 : s0.Fits g s) : s0.Fits g (State.sinHealthy s n) := by
  refine fits_app hle ?_ h0
  unfold State.sinHealthy
  repeat' first
    | (extract_lets +onlyGivenNames x
       first
       | (refine fits_cut (p := State.Fits (Foot.of [0x68] [.flt]) s x) ?_ ?_; rotate_left; intro hx; clear_value x; rotate_left; subst x)
       | (refine part_cut (α := type_of% x) (by constructor) ?_; subst x)
       | clear_value x
       | subst x)
    | ((with_reducible refine side_ok ?_); exact rfl)
    | with_reducible assumption
    | ((with_reducible refine keep_goal ?_); exact keep_refl)
    | with_reducible exact fits_refl _ _
    | with_reducible apply put_fits
    | with_reducible apply condEnd_fits
    | with_reducible apply settle_fits
    | split

theorem pulsePass_fits {g : Foot} {s0 : State} (s : State) (t : Nat) (n : Nat) (c : Nat) (levels : List Bool) (hle : (Foot.of [0x68] [.saf]).le g = true) (h0 : s0.Fits g s) : s0.Fits g (State.pulsePass s t n c levels) := by
  refine fits_app hle ?_ h0
  unfold State.pulsePass
  repeat' first
    | (extract_lets +onlyGivenNames x
       first
       | (refine fits_cut (p := State.Fits (Foot.of [0x68] [.saf]) s x) ?_ ?_; rotate_left; intro hx; clear_value x; rotate_left; subst x)
       | (refine part_cut (α := type_of% x) (by constructor) ?_; subst x)
       | clear_value x
       | subst x)
    | ((with_reducible refine side_ok ?_); exact rfl)
    | with_reducible assumption
    | ((with_reducible refine keep_goal ?_); exact keep_refl)
    | with_reducible exact fits_refl _ _
    | with_reducible apply modChanS_fits
    | split

theorem pulseEnd_fits {g : Foot} {s0 : State} (s : State) (t : Nat) (levels : List Bool) (n : Nat) (hle : (Foot.of [0x00, 0x40, 0x50, 0x68, 0x70, 0x71] [.flt, .evr, .saf, .lanes, .fresh]).le g = true) (h0 : s0.Fits g s) : s0.Fits g (State.pulseEnd s t levels n) := by
  refine fits_app hle ?_ h0
  unfold State.pulseEnd
  repeat' first
    | (extract_lets +onlyGivenNames x
       first
       | (refine fits_cut (p := State.Fits (Foot.of [0x00, 0x40, 0x50, 0x68, 0x70, 0x71] [.flt, .evr, .saf, .lanes, .fresh]) s x) ?_ ?_; rotate_left; intro hx; clear_value x; rotate_left; subst x)
       | (refine part_cut (α := type_of% x) (by constructor) ?_; subst x)
       | clear_value x
       | subst x)
    | ((with_reducible refine side_ok ?_); exact rfl)
    | with_reducible assumption
    | ((with_reducible refine keep_goal ?_); exact keep_refl)
    | with_reducible exact fits_refl _ _
    | with_reducible apply put_fits
    | with_reducible refine free_fits_eq (by assumption) ?_ ?_
    | with_reducible apply free_fits
    | with_reducible apply clearTests_fits
    | with_reducible apply pulsePass_fits
    | with_reducible apply sinFault_fits
    | with_reducible apply sinHealthy_fits
    | split
    | with_reducible refine fits_snd (by assumption) ?_
    | with_reducible refine fits_thd (by assumption) ?_
    | dsimp only

theorem sinInit_fits {g : Foot} {s0 : State} (s : State) (hle : (Foot.of [0x68] [.flt, .saf]).le g = true) (h0 : s0.Fits g s) : s0.Fits g (State.sinInit s) := by
  refine fits_app hle ?_ h0
  unfold State.sinInit
  repeat' first
    | (extract_lets +onlyGivenNames x
       first
       | (refine fits_cut (p := State.Fits (Foot.of [0x68] [.flt, .saf]) s x) ?_ ?_; rotate_left; intro hx; clear_value x; rotate_left; subst x)
       | (refine part_cut (α := type_of% x) (by constructor) ?_; subst x)
       | clear_value x
       | subst x)
    | ((with_reducible refine side_ok ?_); exact rfl)
    | with_reducible assumption
    | ((with_reducible refine keep_goal ?_); exact keep_refl)
    | with_reducible exact fits_refl _ _
    | with_reducible refine fits_foldl _ _ (fun x hx u hu => ?_) ?_
    | with_reducible apply put_fits
    | with_reducible apply clearTests_fits
    | with_reducible apply condEnd_fits
    | with_reducible apply setHealthyFor_fits
    | split

theorem safCommit_fits {g : Foot} {s0 : State} (s : State) (hle : (Foot.of [0x50, 0x68] [.flt, .saf, .lanes]).le g = true) (h0 : s0.Fits g s) : s0.Fits g (State.safCommit s) := by
  refine fits_app hle ?_ h0
  unfold State.safCommit
  repeat' first
    | (extract_lets +onlyGivenNames x
       first
       | (refine fits_cut (p := State.Fits (Foot.of [0x50, 0x68] [.flt, .saf, .lanes]) s x) ?_ ?_; rotate_left; intro hx; clear_value x; rotate_left; subst x)
       | (refine part_cut (α := type_of% x) (by constructor) ?_; subst x)
       | clear_value x
       | subst x)
    | ((with_reducible refine side_ok ?_); exact rfl)
    | with_reducible assumption
    | ((with_reducible refine keep_goal ?_); exact keep_refl)
    | with_reducible exact fits_refl _ _
    | with_reducible refine fits_foldl _ _ (fun x hx u hu => ?_) ?_
    | with_reducible apply put_fits
    | with_reducible apply settle_fits
    | with_reducible apply sinInit_fits
    | with_reducible apply soutsTry_fits
    | split

theorem safReactWrite_fits {g : Foot} {s0 : State} (s : State) (v : Word) (hle : (Foot.of [0x40, 0x50, 0x68, 0x70, 0x71] [.evr, .saf, .lanes]).le g = true) (h0 : s0.Fits g s) : s0.Fits g (State.safReactWrite s v) := by
  refine fits_app hle ?_ h0
  unfold State.safReactWrite
  repeat' first
    | (extract_lets +onlyGivenNames x
       first
       | (refine fits_cut (p := State.Fits (Foot.of [0x40, 0x50, 0x68, 0x70, 0x71] [.evr, .saf, .lanes]) s x) ?_ ?_; rotate_left; intro hx; clear_value x; rotate_left; subst x)
       | (refine part_cut (α := type_of% x) (by constructor) ?_; subst x)
       | clear_value x
       | subst x)
    | ((with_reducible refine side_ok ?_); exact rfl)
    | with_reducible assumption
    | ((with_reducible refine keep_goal ?_); exact keep_refl)
    | with_reducible exact fits_refl _ _
    | with_reducible apply settle_fits
    | with_reducible apply trigger_fits
    | split

theorem unlockAccept_fits {g : Foot} {s0 : State} (s : State) (hle : (Foot.of [0x50, 0x68, 0x70, 0x71] [.evr, .saf, .lanes]).le g = true) (h0 : s0.Fits g s) : s0.Fits g (State.unlockAccept s) := by
  refine fits_app hle ?_ h0
  unfold State.unlockAccept
  repeat' first
    | (extract_lets +onlyGivenNames x
       first
       | (refine fits_cut (p := State.Fits (Foot.of [0x50, 0x68, 0x70, 0x71] [.evr, .saf, .lanes]) s x) ?_ ?_; rotate_left; intro hx; clear_value x; rotate_left; subst x)
       | (refine part_cut (α := type_of% x) (by constructor) ?_; subst x)
       | clear_value x
       | subst x)
    | ((with_reducible refine side_ok ?_); exact rfl)
    | with_reducible assumption
    | ((with_reducible refine keep_goal ?_); exact keep_refl)
    | with_reducible exact fits_refl _ _
    | with_reducible apply put_fits
    | with_reducible apply evt_fits
    | with_reducible apply incSat_fits
    | with_reducible apply event_fits
    | with_reducible apply settle_fits
    | with_reducible apply soutsTry_fits
    | split

theorem unlockRefuse_fits {g : Foot} {s0 : State} (s : State) (rej : Nat) (hle : (Foot.of [0x68, 0x70, 0x71] [.evr]).le g = true) (h0 : s0.Fits g s) : s0.Fits g (State.unlockRefuse s rej) := by
  refine fits_app hle ?_ h0
  unfold State.unlockRefuse
  repeat' first
    | (extract_lets +onlyGivenNames x
       first
       | (refine fits_cut (p := State.Fits (Foot.of [0x68, 0x70, 0x71] [.evr]) s x) ?_ ?_; rotate_left; intro hx; clear_value x; rotate_left; subst x)
       | (refine part_cut (α := type_of% x) (by constructor) ?_; subst x)
       | clear_value x
       | subst x)
    | ((with_reducible refine side_ok ?_); exact rfl)
    | with_reducible assumption
    | ((with_reducible refine keep_goal ?_); exact keep_refl)
    | with_reducible exact fits_refl _ _
    | with_reducible apply put_fits
    | with_reducible apply evt_fits
    | with_reducible apply event_fits
    | split

theorem safUnlockWrite_fits {g : Foot} {s0 : State} (s : State) (v : Word) (hle : (Foot.of [0x50, 0x68, 0x70, 0x71] [.evr, .saf, .csf, .lanes]).le g = true) (h0 : s0.Fits g s) : s0.Fits g (State.safUnlockWrite s v) := by
  refine fits_app hle ?_ h0
  unfold State.safUnlockWrite
  repeat' first
    | (extract_lets +onlyGivenNames x
       first
       | (refine fits_cut (p := State.Fits (Foot.of [0x50, 0x68, 0x70, 0x71] [.evr, .saf, .csf, .lanes]) s x) ?_ ?_; rotate_left; intro hx; clear_value x; rotate_left; subst x)
       | (refine part_cut (α := type_of% x) (by constructor) ?_; subst x)
       | clear_value x
       | subst x)
    | ((with_reducible refine side_ok ?_); exact rfl)
    | with_reducible assumption
    | ((with_reducible refine keep_goal ?_); exact keep_refl)
    | with_reducible exact fits_refl _ _
    | with_reducible apply put_fits
    | with_reducible apply unlockAccept_fits
    | with_reducible apply unlockRefuse_fits
    | with_reducible apply withCsf_fits
    | with_reducible apply withCsf_fits
    | split

theorem flintWdt_fits {g : Foot} {s0 : State} (s : State) (hle : (Foot.free).le g = true) (h0 : s0.Fits g s) : s0.Fits g (State.flintWdt s) := by
  refine fits_app hle ?_ h0
  unfold State.flintWdt
  repeat' first
    | (extract_lets +onlyGivenNames x
       first
       | (refine fits_cut (p := State.Fits (Foot.free) s x) ?_ ?_; rotate_left; intro hx; clear_value x; rotate_left; subst x)
       | (refine part_cut (α := type_of% x) (by constructor) ?_; subst x)
       | clear_value x
       | subst x)
    | ((with_reducible refine side_ok ?_); exact rfl)
    | with_reducible assumption
    | ((with_reducible refine keep_goal ?_); exact keep_refl)
    | with_reducible exact fits_refl _ _
    | with_reducible apply evt_fits
    | with_reducible apply raiseTrig_fits
    | with_reducible apply warmReset_fits
    | with_reducible apply withSaf_fits
    | ((with_reducible refine side_ok ?_); exact tl_unit rfl)
    | ((with_reducible refine side_ok ?_); exact be_unit rfl)
    | ((with_reducible refine side_ok ?_); exact lay_unit rfl)
    | ((with_reducible refine side_ok ?_); exact crc_unit rfl)
    | ((with_reducible refine side_ok ?_); exact lnk_unit rfl)
    | with_reducible apply withSaf_fits
    | split

theorem flintKick_fits {g : Foot} {s0 : State} (s : State) (v : Word) (hle : (Foot.free).le g = true) (h0 : s0.Fits g s) : s0.Fits g (State.flintKick s v) := by
  refine fits_app hle ?_ h0
  unfold State.flintKick
  repeat' first
    | (extract_lets +onlyGivenNames x
       first
       | (refine fits_cut (p := State.Fits (Foot.free) s x) ?_ ?_; rotate_left; intro hx; clear_value x; rotate_left; subst x)
       | (refine part_cut (α := type_of% x) (by constructor) ?_; subst x)
       | clear_value x
       | subst x)
    | ((with_reducible refine side_ok ?_); exact rfl)
    | with_reducible assumption
    | ((with_reducible refine keep_goal ?_); exact keep_refl)
    | with_reducible exact fits_refl _ _
    | with_reducible apply put_fits
    | with_reducible apply flintWdt_fits
    | with_reducible apply withSaf_fits
    | with_reducible apply withSaf_fits
    | split

end Sys2Proof.Laws
end

