-- ==== Sys2Proof/Laws/RecorderFits.lean ====
section
/-! SUPPORT. Footprints of the operations of Machine/Recorder.lean: one lemma for each, which says what it may touch and that it keeps what every command keeps. -/

set_option linter.unusedTactic false
set_option linter.unreachableTactic false

namespace Sys2Proof.Laws

open Sys2Proof.Machine

theorem unackWrite_fits {g : Foot} {s0 : State} (s : State) (k : Nat) (v : Word) (hle : (Foot.of [0x70] []).le g = true) (h0 : s0.Fits g s) : s0.Fits g (State.unackWrite s k v) := by
  refine fits_app hle ?_ h0
  unfold State.unackWrite
  repeat' first
    | (extract_lets +onlyGivenNames x
       first
       | (refine fits_cut (p := State.Fits (Foot.of [0x70] []) s x) ?_ ?_; rotate_left; intro hx; clear_value x; rotate_left; subst x)
       | (refine part_cut (α := type_of% x) (by constructor) ?_; subst x)
       | clear_value x
       | subst x)
    | ((with_reducible refine side_ok ?_); exact rfl)
    | with_reducible assumption
    | ((with_reducible refine keep_goal ?_); exact keep_refl)
    | with_reducible exact fits_refl _ _
    | with_reducible refine fits_foldl _ _ (fun x hx u hu => ?_) ?_
    | with_reducible apply ackSource_fits
    | split

theorem pendWrite_fits {g : Foot} {s0 : State} (s : State) (k : Nat) (v : Word) (hle : (Foot.of [0x70, 0x71] [.flt, .evr]).le g = true) (h0 : s0.Fits g s) : s0.Fits g (State.pendWrite s k v) := by
  refine fits_app hle ?_ h0
  unfold State.pendWrite
  repeat' first
    | (extract_lets +onlyGivenNames x
       first
       | (refine fits_cut (p := State.Fits (Foot.of [0x70, 0x71] [.flt, .evr]) s x) ?_ ?_; rotate_left; intro hx; clear_value x; rotate_left; subst x)
       | (refine part_cut (α := type_of% x) (by constructor) ?_; subst x)
       | clear_value x
       | subst x)
    | ((with_reducible refine side_ok ?_); exact rfl)
    | with_reducible assumption
    | ((with_reducible refine keep_goal ?_); exact keep_refl)
    | with_reducible exact fits_refl _ _
    | with_reducible refine fits_foldl _ _ (fun x hx u hu => ?_) ?_
    | with_reducible apply clearSource_fits
    | split

theorem injectWrite_fits {g : Foot} {s0 : State} (s : State) (m : Master) (v : Word) (hle : (Foot.of [0x70] []).le g = true) (h0 : s0.Fits g s) : s0.Fits g (State.injectWrite s m v) := by
  refine fits_app hle ?_ h0
  unfold State.injectWrite
  repeat' first
    | (extract_lets +onlyGivenNames x
       first
       | (refine fits_cut (p := State.Fits (Foot.of [0x70] []) s x) ?_ ?_; rotate_left; intro hx; clear_value x; rotate_left; subst x)
       | (refine part_cut (α := type_of% x) (by constructor) ?_; subst x)
       | clear_value x
       | subst x)
    | ((with_reducible refine side_ok ?_); exact rfl)
    | with_reducible assumption
    | ((with_reducible refine keep_goal ?_); exact keep_refl)
    | with_reducible exact fits_refl _ _
    | with_reducible apply put_fits
    | with_reducible apply evt_fits
    | split

theorem overwritten_fits {g : Foot} {s0 : State} (s : State) (seq : Nat) (hle : (Foot.of [0x70, 0x71] [.evr]).le g = true) (h0 : s0.Fits g s) : s0.Fits g (State.overwritten s seq) := by
  refine fits_app hle ?_ h0
  unfold State.overwritten
  repeat' first
    | (extract_lets +onlyGivenNames x
       first
       | (refine fits_cut (p := State.Fits (Foot.of [0x70, 0x71] [.evr]) s x) ?_ ?_; rotate_left; intro hx; clear_value x; rotate_left; subst x)
       | (refine part_cut (α := type_of% x) (by constructor) ?_; subst x)
       | clear_value x
       | subst x)
    | ((with_reducible refine side_ok ?_); exact rfl)
    | with_reducible assumption
    | ((with_reducible refine keep_goal ?_); exact keep_refl)
    | with_reducible exact fits_refl _ _
    | with_reducible apply put_fits
    | with_reducible apply evt_fits
    | with_reducible apply incSat_fits
    | with_reducible apply withEvr_fits
    | with_reducible apply withEvr_fits
    | split

theorem bcDrop_fits {g : Foot} {s0 : State} (s : State) (l : Nat) (hle : (Foot.of [0x70, 0x71] [.evr]).le g = true) (h0 : s0.Fits g s) : s0.Fits g (State.bcDrop s l) := by
  refine fits_app hle ?_ h0
  unfold State.bcDrop
  repeat' first
    | (extract_lets +onlyGivenNames x
       first
       | (refine fits_cut (p := State.Fits (Foot.of [0x70, 0x71] [.evr]) s x) ?_ ?_; rotate_left; intro hx; clear_value x; rotate_left; subst x)
       | (refine part_cut (α := type_of% x) (by constructor) ?_; subst x)
       | clear_value x
       | subst x)
    | ((with_reducible refine side_ok ?_); exact rfl)
    | with_reducible assumption
    | ((with_reducible refine keep_goal ?_); exact keep_refl)
    | with_reducible exact fits_refl _ _
    | with_reducible apply event_fits
    | with_reducible apply withEvr_fits
    | ((with_reducible refine side_ok ?_); exact lnk_unit rfl)
    | with_reducible apply withEvr_fits
    | split

theorem writeRec_fits {g : Foot} {s0 : State} (s : State) (r : EvRec) (rest : List EvRec) (hle : (Foot.of [0x08, 0x09, 0x10, 0x70, 0x71] [.mem, .evr, .lnkA, .lnkB, .spi]).le g = true) (h0 : s0.Fits g s) : s0.Fits g (State.writeRec s r rest) := by
  refine fits_app hle ?_ h0
  unfold State.writeRec
  repeat' first
    | (extract_lets +onlyGivenNames x
       first
       | (refine fits_cut (p := State.Fits (Foot.of [0x08, 0x09, 0x10, 0x70, 0x71] [.mem, .evr, .lnkA, .lnkB, .spi]) s x) ?_ ?_; rotate_left; intro hx; clear_value x; rotate_left; subst x)
       | (refine part_cut (α := type_of% x) (by constructor) ?_; subst x)
       | clear_value x
       | subst x)
    | ((with_reducible refine side_ok ?_); exact rfl)
    | with_reducible assumption
    | ((with_reducible refine keep_goal ?_); exact keep_refl)
    | with_reducible exact fits_refl _ _
    | with_reducible refine fits_foldl _ _ (fun x hx u hu => ?_) ?_
    | with_reducible apply put_fits
    | with_reducible apply setBytes_fits
    | with_reducible apply bcDrop_fits
    | with_reducible apply gap_fits
    | with_reducible apply overwritten_fits
    | with_reducible apply queueEvent_fits
    | with_reducible apply withEvr_fits
    | ((with_reducible refine side_ok ?_); exact lnk_unit rfl)
    | with_reducible apply withEvr_fits
    | split

theorem mirrorRec_fits {g : Foot} {s0 : State} (s : State) (seq : Nat) (hle : (Foot.of [0x71] [.mem]).le g = true) (h0 : s0.Fits g s) : s0.Fits g (State.mirrorRec s seq) := by
  refine fits_app hle ?_ h0
  unfold State.mirrorRec
  repeat' first
    | (extract_lets +onlyGivenNames x
       first
       | (refine fits_cut (p := State.Fits (Foot.of [0x71] [.mem]) s x) ?_ ?_; rotate_left; intro hx; clear_value x; rotate_left; subst x)
       | (refine part_cut (α := type_of% x) (by constructor) ?_; subst x)
       | clear_value x
       | subst x)
    | ((with_reducible refine side_ok ?_); exact rfl)
    | with_reducible assumption
    | ((with_reducible refine keep_goal ?_); exact keep_refl)
    | with_reducible exact fits_refl _ _
    | with_reducible apply put_fits
    | with_reducible apply setBytes_fits
    | split

theorem mirrorPage_fits {g : Foot} {s0 : State} (s : State) (n : Nat) (hle : (Foot.of [0x71] [.mem, .evr]).le g = true) (h0 : s0.Fits g s) : s0.Fits g (State.mirrorPage s n) := by
  refine fits_app hle ?_ h0
  unfold State.mirrorPage
  repeat' first
    | (extract_lets +onlyGivenNames x
       first
       | (refine fits_cut (p := State.Fits (Foot.of [0x71] [.mem, .evr]) s x) ?_ ?_; rotate_left; intro hx; clear_value x; rotate_left; subst x)
       | (refine part_cut (α := type_of% x) (by constructor) ?_; subst x)
       | clear_value x
       | subst x)
    | ((with_reducible refine side_ok ?_); exact rfl)
    | with_reducible assumption
    | ((with_reducible refine keep_goal ?_); exact keep_refl)
    | with_reducible exact fits_refl _ _
    | with_reducible refine fits_foldl _ _ (fun x hx u hu => ?_) ?_
    | with_reducible apply mirrorRec_fits
    | with_reducible apply withEvr_fits
    | with_reducible apply withEvr_fits
    | split

theorem attest_fits {g : Foot} {s0 : State} (s : State) (hle : (Foot.of [0x70, 0x71] [.evr]).le g = true) (h0 : s0.Fits g s) : s0.Fits g (State.attest s) := by
  refine fits_app hle ?_ h0
  unfold State.attest
  repeat' first
    | (extract_lets +onlyGivenNames x
       first
       | (refine fits_cut (p := State.Fits (Foot.of [0x70, 0x71] [.evr]) s x) ?_ ?_; rotate_left; intro hx; clear_value x; rotate_left; subst x)
       | (refine part_cut (α := type_of% x) (by constructor) ?_; subst x)
       | clear_value x
       | subst x)
    | ((with_reducible refine side_ok ?_); exact rfl)
    | with_reducible assumption
    | ((with_reducible refine keep_goal ?_); exact keep_refl)
    | with_reducible exact fits_refl _ _
    | with_reducible apply put_fits
    | with_reducible apply evt_fits
    | with_reducible apply event_fits
    | with_reducible apply withEvr_fits
    | with_reducible apply withEvr_fits
    | split

theorem recordRead_fits {g : Foot} {s0 : State} (s : State) (v : Word) (hle : (Foot.of [0x71] []).le g = true) (h0 : s0.Fits g s) : s0.Fits g (State.recordRead s v) := by
  refine fits_app hle ?_ h0
  unfold State.recordRead
  repeat' first
    | (extract_lets +onlyGivenNames x
       first
       | (refine fits_cut (p := State.Fits (Foot.of [0x71] []) s x) ?_ ?_; rotate_left; intro hx; clear_value x; rotate_left; subst x)
       | (refine part_cut (α := type_of% x) (by constructor) ?_; subst x)
       | clear_value x
       | subst x)
    | ((with_reducible refine side_ok ?_); exact rfl)
    | with_reducible assumption
    | ((with_reducible refine keep_goal ?_); exact keep_refl)
    | with_reducible exact fits_refl _ _
    | with_reducible refine fits_foldl _ _ (fun x hx u hu => ?_) ?_
    | with_reducible apply put_fits
    | split

end Sys2Proof.Laws
end

