-- ==== Sys2Proof/Laws/ThermalFits.lean ====
section
/-! SUPPORT. Footprints of the operations of Machine/Thermal.lean: one lemma for each, which says what it may touch and that it keeps what every command keeps. -/

set_option linter.unusedTactic false
set_option linter.unreachableTactic false

namespace Sys2Proof.Laws

open Sys2Proof.Machine

theorem saveEpoch_fits {g : Foot} {s0 : State} (s : State) (hle : (Foot.of [0x02] [.mem, .thm]).le g = true) (h0 : s0.Fits g s) : s0.Fits g (State.saveEpoch s) := by
  refine fits_app hle ?_ h0
  unfold State.saveEpoch
  repeat' first
    | (extract_lets +onlyGivenNames x
       first
       | (refine fits_cut (p := State.Fits (Foot.of [0x02] [.mem, .thm]) s x) ?_ ?_; rotate_left; intro hx; clear_value x; rotate_left; subst x)
       | (refine part_cut (α := type_of% x) (by constructor) ?_; subst x)
       | clear_value x
       | subst x)
    | ((with_reducible refine side_ok ?_); exact rfl)
    | with_reducible assumption
    | ((with_reducible refine keep_goal ?_); exact keep_refl)
    | with_reducible exact fits_refl _ _
    | with_reducible apply put_fits
    | with_reducible apply setBytes_fits
    | with_reducible apply defer_fits
    | split

theorem saveSettings_fits {g : Foot} {s0 : State} (s : State) (fmt : Nat) (hle : (Foot.of [] [.thm, .upd]).le g = true) (h0 : s0.Fits g s) : s0.Fits g (State.saveSettings s fmt) := by
  refine fits_app hle ?_ h0
  unfold State.saveSettings
  repeat' first
    | (extract_lets +onlyGivenNames x
       first
       | (refine fits_cut (p := State.Fits (Foot.of [] [.thm, .upd]) s x) ?_ ?_; rotate_left; intro hx; clear_value x; rotate_left; subst x)
       | (refine part_cut (α := type_of% x) (by constructor) ?_; subst x)
       | clear_value x
       | subst x)
    | ((with_reducible refine side_ok ?_); exact rfl)
    | with_reducible assumption
    | ((with_reducible refine keep_goal ?_); exact keep_refl)
    | with_reducible exact fits_refl _ _
    | with_reducible apply defer_fits
    | with_reducible apply withUpd_fits
    | with_reducible apply withUpd_fits
    | split

theorem retry_fits {g : Foot} {s0 : State} (s : State) (d : Deferred) (hle : (Foot.of [0x02, 0x71] [.mem, .evr, .rst, .flx, .thm, .upd]).le g = true) (h0 : s0.Fits g s) : s0.Fits g (State.retry s d) := by
  refine fits_app hle ?_ h0
  unfold State.retry
  repeat' first
    | (extract_lets +onlyGivenNames x
       first
       | (refine fits_cut (p := State.Fits (Foot.of [0x02, 0x71] [.mem, .evr, .rst, .flx, .thm, .upd]) s x) ?_ ?_; rotate_left; intro hx; clear_value x; rotate_left; subst x)
       | (refine part_cut (α := type_of% x) (by constructor) ?_; subst x)
       | clear_value x
       | subst x)
    | ((with_reducible refine side_ok ?_); exact rfl)
    | with_reducible assumption
    | ((with_reducible refine keep_goal ?_); exact keep_refl)
    | with_reducible exact fits_refl _ _
    | with_reducible apply checkpointFlash_fits
    | with_reducible apply journalFlash_fits
    | with_reducible apply mirrorPage_fits
    | with_reducible apply saveEpoch_fits
    | with_reducible apply saveSettings_fits
    | with_reducible apply writeFluxRecord_fits
    | split

theorem retryAll_fits {g : Foot} {s0 : State} (s : State) (hle : (Foot.of [0x02, 0x71] [.mem, .evr, .rst, .flx, .thm, .upd]).le g = true) (h0 : s0.Fits g s) : s0.Fits g (State.retryAll s) := by
  refine fits_app hle ?_ h0
  unfold State.retryAll
  repeat' first
    | (extract_lets +onlyGivenNames x
       first
       | (refine fits_cut (p := State.Fits (Foot.of [0x02, 0x71] [.mem, .evr, .rst, .flx, .thm, .upd]) s x) ?_ ?_; rotate_left; intro hx; clear_value x; rotate_left; subst x)
       | (refine part_cut (α := type_of% x) (by constructor) ?_; subst x)
       | clear_value x
       | subst x)
    | ((with_reducible refine side_ok ?_); exact rfl)
    | with_reducible assumption
    | ((with_reducible refine keep_goal ?_); exact keep_refl)
    | with_reducible exact fits_refl _ _
    | with_reducible refine fits_foldl _ _ (fun x hx u hu => ?_) ?_
    | with_reducible apply retry_fits
    | with_reducible apply withThm_fits
    | with_reducible apply withThm_fits
    | split

theorem flashWindow_fits {g : Foot} {s0 : State} (s : State) (cold : Int) (hot : Int) (hle : (Foot.of [0x02, 0x04, 0x71] [.mem, .evr, .rst, .flx, .thm, .upd]).le g = true) (h0 : s0.Fits g s) : s0.Fits g (State.flashWindow s cold hot) := by
  refine fits_app hle ?_ h0
  unfold State.flashWindow
  repeat' first
    | (extract_lets +onlyGivenNames x
       first
       | (refine fits_cut (p := State.Fits (Foot.of [0x02, 0x04, 0x71] [.mem, .evr, .rst, .flx, .thm, .upd]) s x) ?_ ?_; rotate_left; intro hx; clear_value x; rotate_left; subst x)
       | (refine part_cut (α := type_of% x) (by constructor) ?_; subst x)
       | clear_value x
       | subst x)
    | ((with_reducible refine side_ok ?_); exact rfl)
    | with_reducible assumption
    | ((with_reducible refine keep_goal ?_); exact keep_refl)
    | with_reducible exact fits_refl _ _
    | with_reducible apply put_fits
    | with_reducible apply evt_fits
    | with_reducible apply retryAll_fits
    | split

theorem fuseStart_fits {g : Foot} {s0 : State} (s : State) (row : Nat) (bits : List Nat) (lc : Bool) (hle : (Foot.of [0x7A] [.fus]).le g = true) (h0 : s0.Fits g s) : s0.Fits g (State.fuseStart s row bits lc) := by
  refine fits_app hle ?_ h0
  unfold State.fuseStart
  repeat' first
    | (extract_lets +onlyGivenNames x
       first
       | (refine fits_cut (p := State.Fits (Foot.of [0x7A] [.fus]) s x) ?_ ?_; rotate_left; intro hx; clear_value x; rotate_left; subst x)
       | subst x
       | (refine part_cut (α := type_of% x) (by constructor) ?_; subst x)
       | clear_value x)
    | ((with_reducible refine side_ok ?_); exact rfl)
    | with_reducible assumption
    | ((with_reducible refine keep_goal ?_); exact keep_refl)
    | with_reducible exact fits_refl _ _
    | with_reducible apply put_fits
    | with_reducible apply withFus_fits
    | with_reducible apply withFus_fits
    | ((with_reducible refine fusesKept_rows ?_); exact rfl)
    | split

theorem fuseWork_fits {g : Foot} {s0 : State} (s : State) (hle : (Foot.of [0x7A, 0x80] [.fus, .upd]).le g = true) (h0 : s0.Fits g s) : s0.Fits g (State.fuseWork s) := by
  refine fits_app hle ?_ h0
  unfold State.fuseWork
  repeat' first
    | (extract_lets +onlyGivenNames x
       first
       | (refine fits_cut (p := State.Fits (Foot.of [0x7A, 0x80] [.fus, .upd]) s x) ?_ ?_; rotate_left; intro hx; clear_value x; rotate_left; subst x)
       | (refine part_cut (α := type_of% x) (by constructor) ?_; subst x)
       | clear_value x
       | subst x)
    | ((with_reducible refine side_ok ?_); exact rfl)
    | with_reducible assumption
    | ((with_reducible refine keep_goal ?_); exact keep_refl)
    | with_reducible exact fits_refl _ _
    | with_reducible apply put_fits
    | with_reducible apply fuseStart_fits
    | with_reducible apply withUpd_fits
    | with_reducible apply withUpd_fits
    | split

theorem sensorTemp_fits {g : Foot} {s0 : State} (s : State) (n : Nat) (code : Nat) (hle : (Foot.of [] [.fresh]).le g = true) (h0 : s0.Fits g s) : s0.Fits g (State.sensorTemp s n code).2 := by
  refine fits_app hle ?_ h0
  unfold State.sensorTemp
  repeat' first
    | (extract_lets +onlyGivenNames x
       first
       | (refine fits_cut (p := State.Fits (Foot.of [] [.fresh]) s x) ?_ ?_; rotate_left; intro hx; clear_value x; rotate_left; subst x)
       | (refine part_cut (α := type_of% x) (by constructor) ?_; subst x)
       | clear_value x
       | subst x)
    | ((with_reducible refine side_ok ?_); exact rfl)
    | with_reducible assumption
    | ((with_reducible refine keep_goal ?_); exact keep_refl)
    | with_reducible exact fits_refl _ _
    | with_reducible refine free_fits_eq (by assumption) ?_ ?_
    | with_reducible apply free_fits
    | split
    | with_reducible refine fits_snd (by assumption) ?_
    | with_reducible refine fits_thd (by assumption) ?_
    | dsimp only

theorem sensorTemp_fits_eq {g : Foot} {s0 : State} {s : State} {n : Nat} {code : Nat} {t : State} {r0 : Int} (h : (State.sensorTemp s n code) = (r0, t)) (hle : (Foot.of [] [.fresh]).le g = true) (h0 : s0.Fits g s) : s0.Fits g t := by
  have k := sensorTemp_fits s n code hle h0
  rw [h] at k
  exact k

theorem readSensor_fits {g : Foot} {s0 : State} (s : State) (codes : List Nat) (n : Nat) (hle : (Foot.of [0x04] [.fresh]).le g = true) (h0 : s0.Fits g s) : s0.Fits g (State.readSensor s codes n) := by
  refine fits_app hle ?_ h0
  unfold State.readSensor
  repeat' first
    | (extract_lets +onlyGivenNames x
       first
       | (refine fits_cut (p := State.Fits (Foot.of [0x04] [.fresh]) s x) ?_ ?_; rotate_left; intro hx; clear_value x; rotate_left; subst x)
       | (refine part_cut (α := type_of% x) (by constructor) ?_; subst x)
       | clear_value x
       | subst x)
    | ((with_reducible refine side_ok ?_); exact rfl)
    | with_reducible assumption
    | ((with_reducible refine keep_goal ?_); exact keep_refl)
    | with_reducible exact fits_refl _ _
    | with_reducible apply put_fits
    | with_reducible refine sensorTemp_fits_eq (by assumption) ?_ ?_
    | with_reducible apply sensorTemp_fits
    | split
    | with_reducible refine fits_snd (by assumption) ?_
    | with_reducible refine fits_thd (by assumption) ?_
    | dsimp only

theorem dieTemps_fits {g : Foot} {s0 : State} (s : State) (hle : (Foot.of [] [.fresh]).le g = true) (h0 : s0.Fits g s) : s0.Fits g (State.dieTemps s).2.2.2 := by
  refine fits_app hle ?_ h0
  unfold State.dieTemps
  repeat' first
    | (extract_lets +onlyGivenNames x
       first
       | (refine fits_cut (p := State.Fits (Foot.of [] [.fresh]) s x) ?_ ?_; rotate_left; intro hx; clear_value x; rotate_left; subst x)
       | (refine part_cut (α := type_of% x) (by constructor) ?_; subst x)
       | clear_value x
       | subst x)
    | ((with_reducible refine side_ok ?_); exact rfl)
    | with_reducible assumption
    | ((with_reducible refine keep_goal ?_); exact keep_refl)
    | with_reducible exact fits_refl _ _
    | with_reducible refine fits_foldl _ _ (fun x hx u hu => ?_) ?_
    | with_reducible refine fits_foldl_snd _ _ (fun x hx b u hu => ?_) ?_
    | with_reducible refine free_fits_eq (by assumption) ?_ ?_
    | with_reducible apply free_fits
    | split
    | with_reducible refine fits_snd (by assumption) ?_
    | with_reducible refine fits_thd (by assumption) ?_
    | dsimp only

theorem dieTemps_fits_eq {g : Foot} {s0 : State} {s : State} {t : State} {r0 : Int} {r1 : Int} {r2 : Nat} (h : (State.dieTemps s) = (r0, r1, r2, t)) (hle : (Foot.of [] [.fresh]).le g = true) (h0 : s0.Fits g s) : s0.Fits g t := by
  have k := dieTemps_fits s hle h0
  rw [h] at k
  exact k

theorem orderlyStop_fits {g : Foot} {s0 : State} (s : State) (hot : Nat) (byRate : Bool) (hle : (Foot.of [0x00, 0x01, 0x04, 0x18, 0x30, 0x40, 0x50, 0x60, 0x68, 0x70, 0x71] [.pend, .pendPages, .flt, .evr, .saf, .quartz, .cmp, .glare, .lanes, .tln, .thm]).le g = true) (h0 : s0.Fits g s) : s0.Fits g (State.orderlyStop s hot byRate) := by
  refine fits_app hle ?_ h0
  unfold State.orderlyStop
  repeat' first
    | (extract_lets +onlyGivenNames x
       first
       | (refine fits_cut (p := State.Fits (Foot.of [0x00, 0x01, 0x04, 0x18, 0x30, 0x40, 0x50, 0x60, 0x68, 0x70, 0x71] [.pend, .pendPages, .flt, .evr, .saf, .quartz, .cmp, .glare, .lanes, .tln, .thm]) s x) ?_ ?_; rotate_left; intro hx; clear_value x; rotate_left; subst x)
       | (refine part_cut (α := type_of% x) (by constructor) ?_; subst x)
       | clear_value x
       | subst x)
    | ((with_reducible refine side_ok ?_); exact rfl)
    | with_reducible assumption
    | ((with_reducible refine keep_goal ?_); exact keep_refl)
    | with_reducible exact fits_refl _ _
    | with_reducible apply put_fits
    | with_reducible apply evt_fits
    | with_reducible apply incSat_fits
    | with_reducible apply checkpointFlash_fits
    | with_reducible apply checkpointRet_fits
    | with_reducible apply endFrames_fits
    | with_reducible apply lanesOff_fits
    | with_reducible apply raiseTrig_fits
    | with_reducible apply settle_fits
    | ((with_reducible refine side_ok ?_); exact tl_unit rfl)
    | ((with_reducible refine side_ok ?_); exact be_unit rfl)
    | ((with_reducible refine side_ok ?_); exact lay_unit rfl)
    | ((with_reducible refine side_ok ?_); exact crc_unit rfl)
    | ((with_reducible refine side_ok ?_); exact lnk_unit rfl)
    | split

theorem reportRise_fits {g : Foot} {s0 : State} (s : State) (die : Int) (hle : (Foot.of [0x04] []).le g = true) (h0 : s0.Fits g s) : s0.Fits g (State.reportRise s die) := by
  refine fits_app hle ?_ h0
  unfold State.reportRise
  repeat' first
    | (extract_lets +onlyGivenNames x
       first
       | (refine fits_cut (p := State.Fits (Foot.of [0x04] []) s x) ?_ ?_; rotate_left; intro hx; clear_value x; rotate_left; subst x)
       | (refine part_cut (α := type_of% x) (by constructor) ?_; subst x)
       | clear_value x
       | subst x)
    | ((with_reducible refine side_ok ?_); exact rfl)
    | with_reducible assumption
    | ((with_reducible refine keep_goal ?_); exact keep_refl)
    | with_reducible exact fits_refl _ _
    | with_reducible apply put_fits
    | split

theorem warnStep_fits {g : Foot} {s0 : State} (s : State) (die : Int) (rate : Bool) (hle : (Foot.of [0x00, 0x04, 0x40, 0x50, 0x68, 0x70, 0x71] [.flt, .evr, .saf, .lanes, .thm]).le g = true) (h0 : s0.Fits g s) : s0.Fits g (State.warnStep s die rate) := by
  refine fits_app hle ?_ h0
  unfold State.warnStep
  repeat' first
    | (extract_lets +onlyGivenNames x
       first
       | (refine fits_cut (p := State.Fits (Foot.of [0x00, 0x04, 0x40, 0x50, 0x68, 0x70, 0x71] [.flt, .evr, .saf, .lanes, .thm]) s x) ?_ ?_; rotate_left; intro hx; clear_value x; rotate_left; subst x)
       | (refine part_cut (α := type_of% x) (by constructor) ?_; subst x)
       | clear_value x
       | subst x)
    | ((with_reducible refine side_ok ?_); exact rfl)
    | with_reducible assumption
    | ((with_reducible refine keep_goal ?_); exact keep_refl)
    | with_reducible exact fits_refl _ _
    | with_reducible apply evt_fits
    | with_reducible apply condEndAll_fits
    | with_reducible apply raise_fits
    | with_reducible apply withThm_fits
    | ((with_reducible refine side_ok ?_); exact tl_unit rfl)
    | ((with_reducible refine side_ok ?_); exact be_unit rfl)
    | ((with_reducible refine side_ok ?_); exact lay_unit rfl)
    | ((with_reducible refine side_ok ?_); exact crc_unit rfl)
    | ((with_reducible refine side_ok ?_); exact lnk_unit rfl)
    | with_reducible apply withThm_fits
    | split

theorem stopStep_fits {g : Foot} {s0 : State} (s : State) (die : Int) (rate : Bool) (hot : Nat) (hle : (Foot.of [0x00, 0x01, 0x04, 0x18, 0x30, 0x40, 0x50, 0x60, 0x68, 0x70, 0x71] [.pend, .pendPages, .flt, .evr, .saf, .quartz, .cmp, .glare, .lanes, .tln, .thm]).le g = true) (h0 : s0.Fits g s) : s0.Fits g (State.stopStep s die rate hot) := by
  refine fits_app hle ?_ h0
  unfold State.stopStep
  repeat' first
    | (extract_lets +onlyGivenNames x
       first
       | (refine fits_cut (p := State.Fits (Foot.of [0x00, 0x01, 0x04, 0x18, 0x30, 0x40, 0x50, 0x60, 0x68, 0x70, 0x71] [.pend, .pendPages, .flt, .evr, .saf, .quartz, .cmp, .glare, .lanes, .tln, .thm]) s x) ?_ ?_; rotate_left; intro hx; clear_value x; rotate_left; subst x)
       | (refine part_cut (α := type_of% x) (by constructor) ?_; subst x)
       | clear_value x
       | subst x)
    | ((with_reducible refine side_ok ?_); exact rfl)
    | with_reducible assumption
    | ((with_reducible refine keep_goal ?_); exact keep_refl)
    | with_reducible exact fits_refl _ _
    | with_reducible apply evt_fits
    | with_reducible apply condEndAll_fits
    | with_reducible apply orderlyStop_fits
    | with_reducible apply withThm_fits
    | with_reducible apply withThm_fits
    | split

theorem thmLevel_fits {g : Foot} {s0 : State} (s : State) (hle : (Foot.of [0x04] []).le g = true) (h0 : s0.Fits g s) : s0.Fits g (State.thmLevel s) := by
  refine fits_app hle ?_ h0
  unfold State.thmLevel
  repeat' first
    | (extract_lets +onlyGivenNames x
       first
       | (refine fits_cut (p := State.Fits (Foot.of [0x04] []) s x) ?_ ?_; rotate_left; intro hx; clear_value x; rotate_left; subst x)
       | (refine part_cut (α := type_of% x) (by constructor) ?_; subst x)
       | clear_value x
       | subst x)
    | ((with_reducible refine side_ok ?_); exact rfl)
    | with_reducible assumption
    | ((with_reducible refine keep_goal ?_); exact keep_refl)
    | with_reducible exact fits_refl _ _
    | with_reducible apply put_fits
    | split

theorem peak_fits {g : Foot} {s0 : State} (s : State) (die : Int) (hle : (Foot.of [0x04] [.thm]).le g = true) (h0 : s0.Fits g s) : s0.Fits g (State.peak s die) := by
  refine fits_app hle ?_ h0
  unfold State.peak
  repeat' first
    | (extract_lets +onlyGivenNames x
       first
       | (refine fits_cut (p := State.Fits (Foot.of [0x04] [.thm]) s x) ?_ ?_; rotate_left; intro hx; clear_value x; rotate_left; subst x)
       | (refine part_cut (α := type_of% x) (by constructor) ?_; subst x)
       | clear_value x
       | subst x)
    | ((with_reducible refine side_ok ?_); exact rfl)
    | with_reducible assumption
    | ((with_reducible refine keep_goal ?_); exact keep_refl)
    | with_reducible exact fits_refl _ _
    | with_reducible apply put_fits
    | with_reducible apply withThm_fits
    | with_reducible apply withThm_fits
    | split

theorem feedTo_fits {g : Foot} {s0 : State} (s : State) (l : Nat) (c : Nat) (hle : (Foot.of [0x08, 0x09, 0x70, 0x71] [.evr]).le g = true) (h0 : s0.Fits g s) : s0.Fits g (State.feedTo s l c) := by
  refine fits_app hle ?_ h0
  unfold State.feedTo
  repeat' first
    | (extract_lets +onlyGivenNames x
       first
       | (refine fits_cut (p := State.Fits (Foot.of [0x08, 0x09, 0x70, 0x71] [.evr]) s x) ?_ ?_; rotate_left; intro hx; clear_value x; rotate_left; subst x)
       | (refine part_cut (α := type_of% x) (by constructor) ?_; subst x)
       | clear_value x
       | subst x)
    | ((with_reducible refine side_ok ?_); exact rfl)
    | with_reducible assumption
    | ((with_reducible refine keep_goal ?_); exact keep_refl)
    | with_reducible exact fits_refl _ _
    | with_reducible apply put_fits
    | with_reducible apply evt_fits
    | with_reducible apply event_fits
    | ((with_reducible refine side_ok ?_); exact lnk_unit rfl)
    | split

theorem feedRead_fits {g : Foot} {s0 : State} (s : State) (l : Nat) (code : Nat) (hle : (Foot.of [0x08, 0x09, 0x70, 0x71] [.evr]).le g = true) (h0 : s0.Fits g s) : s0.Fits g (State.feedRead s l code) := by
  refine fits_app hle ?_ h0
  unfold State.feedRead
  repeat' first
    | (extract_lets +onlyGivenNames x
       first
       | (refine fits_cut (p := State.Fits (Foot.of [0x08, 0x09, 0x70, 0x71] [.evr]) s x) ?_ ?_; rotate_left; intro hx; clear_value x; rotate_left; subst x)
       | (refine part_cut (α := type_of% x) (by constructor) ?_; subst x)
       | clear_value x
       | subst x)
    | ((with_reducible refine side_ok ?_); exact rfl)
    | with_reducible assumption
    | ((with_reducible refine keep_goal ?_); exact keep_refl)
    | with_reducible exact fits_refl _ _
    | with_reducible apply put_fits
    | with_reducible apply feedTo_fits
    | ((with_reducible refine side_ok ?_); exact lnk_unit rfl)
    | split

theorem discardRound_fits {g : Foot} {s0 : State} (s : State) (hle : (Foot.of [0x00, 0x02, 0x04, 0x40, 0x50, 0x68, 0x70, 0x71] [.flt, .evr, .saf, .lanes, .thm]).le g = true) (h0 : s0.Fits g s) : s0.Fits g (State.discardRound s) := by
  refine fits_app hle ?_ h0
  unfold State.discardRound
  repeat' first
    | (extract_lets +onlyGivenNames x
       first
       | (refine fits_cut (p := State.Fits (Foot.of [0x00, 0x02, 0x04, 0x40, 0x50, 0x68, 0x70, 0x71] [.flt, .evr, .saf, .lanes, .thm]) s x) ?_ ?_; rotate_left; intro hx; clear_value x; rotate_left; subst x)
       | (refine part_cut (α := type_of% x) (by constructor) ?_; subst x)
       | clear_value x
       | subst x)
    | ((with_reducible refine side_ok ?_); exact rfl)
    | with_reducible assumption
    | ((with_reducible refine keep_goal ?_); exact keep_refl)
    | with_reducible exact fits_refl _ _
    | with_reducible apply put_fits
    | with_reducible apply evt_fits
    | with_reducible apply detect_fits
    | with_reducible apply withThm_fits
    | ((with_reducible refine side_ok ?_); exact tl_unit rfl)
    | ((with_reducible refine side_ok ?_); exact be_unit rfl)
    | ((with_reducible refine side_ok ?_); exact lay_unit rfl)
    | ((with_reducible refine side_ok ?_); exact crc_unit rfl)
    | ((with_reducible refine side_ok ?_); exact lnk_unit rfl)
    | with_reducible apply withThm_fits
    | split

theorem fluxRound_fits {g : Foot} {s0 : State} (s : State) (codes : List Nat) (hle : (Foot.of [0x00, 0x02, 0x40, 0x49, 0x50, 0x68, 0x70, 0x71] [.flt, .evr, .saf, .lanes, .flx, .fresh]).le g = true) (h0 : s0.Fits g s) : s0.Fits g (State.fluxRound s codes) := by
  refine fits_app hle ?_ h0
  unfold State.fluxRound
  repeat' first
    | (extract_lets +onlyGivenNames x
       first
       | (refine fits_cut (p := State.Fits (Foot.of [0x00, 0x02, 0x40, 0x49, 0x50, 0x68, 0x70, 0x71] [.flt, .evr, .saf, .lanes, .flx, .fresh]) s x) ?_ ?_; rotate_left; intro hx; clear_value x; rotate_left; subst x)
       | (refine part_cut (α := type_of% x) (by constructor) ?_; subst x)
       | clear_value x
       | subst x)
    | ((with_reducible refine side_ok ?_); exact rfl)
    | with_reducible assumption
    | ((with_reducible refine keep_goal ?_); exact keep_refl)
    | with_reducible exact fits_refl _ _
    | with_reducible refine fits_foldl _ _ (fun x hx u hu => ?_) ?_
    | with_reducible apply fluxSample_fits
    | split

theorem trimRound_fits {g : Foot} {s0 : State} (s : State) (die : Int) (hle : (Foot.of [0x48] [.cal]).le g = true) (h0 : s0.Fits g s) : s0.Fits g (State.trimRound s die) := by
  refine fits_app hle ?_ h0
  unfold State.trimRound
  repeat' first
    | (extract_lets +onlyGivenNames x
       first
       | (refine fits_cut (p := State.Fits (Foot.of [0x48] [.cal]) s x) ?_ ?_; rotate_left; intro hx; clear_value x; rotate_left; subst x)
       | (refine part_cut (α := type_of% x) (by constructor) ?_; subst x)
       | clear_value x
       | subst x)
    | ((with_reducible refine side_ok ?_); exact rfl)
    | with_reducible assumption
    | ((with_reducible refine keep_goal ?_); exact keep_refl)
    | with_reducible exact fits_refl _ _
    | with_reducible apply put_fits
    | with_reducible apply withCal_fits
    | with_reducible apply withCal_fits
    | split

theorem thermalRound_fits {g : Foot} {s0 : State} (s : State) (codes : List Nat) (hle : (Foot.of [0x00, 0x01, 0x02, 0x04, 0x18, 0x30, 0x40, 0x48, 0x50, 0x60, 0x68, 0x70, 0x71, 0x7A, 0x80] [.pend, .pendPages, .mem, .flt, .evr, .saf, .rst, .quartz, .cmp, .glare, .lanes, .tln, .cal, .flx, .thm, .fus, .upd, .fresh]).le g = true) (h0 : s0.Fits g s) : s0.Fits g (State.thermalRound s codes) := by
  refine fits_app hle ?_ h0
  unfold State.thermalRound
  repeat' first
    | (extract_lets +onlyGivenNames x
       first
       | (refine fits_cut (p := State.Fits (Foot.of [0x00, 0x01, 0x02, 0x04, 0x18, 0x30, 0x40, 0x48, 0x50, 0x60, 0x68, 0x70, 0x71, 0x7A, 0x80] [.pend, .pendPages, .mem, .flt, .evr, .saf, .rst, .quartz, .cmp, .glare, .lanes, .tln, .cal, .flx, .thm, .fus, .upd, .fresh]) s x) ?_ ?_; rotate_left; intro hx; clear_value x; rotate_left; subst x)
       | (refine part_cut (α := type_of% x) (by constructor) ?_; subst x)
       | clear_value x
       | subst x)
    | ((with_reducible refine side_ok ?_); exact rfl)
    | with_reducible assumption
    | ((with_reducible refine keep_goal ?_); exact keep_refl)
    | with_reducible exact fits_refl _ _
    | with_reducible refine fits_foldl _ _ (fun x hx u hu => ?_) ?_
    | with_reducible apply put_fits
    | with_reducible apply evt_fits
    | with_reducible apply detect_fits
    | with_reducible refine dieTemps_fits_eq (by assumption) ?_ ?_
    | with_reducible apply dieTemps_fits
    | with_reducible apply flashWindow_fits
    | with_reducible apply fuseWork_fits
    | with_reducible apply peak_fits
    | with_reducible apply readSensor_fits
    | with_reducible apply reportRise_fits
    | with_reducible apply stopStep_fits
    | with_reducible apply thmLevel_fits
    | with_reducible apply trimRound_fits
    | with_reducible apply warnStep_fits
    | with_reducible apply withThm_fits
    | ((with_reducible refine side_ok ?_); exact tl_unit rfl)
    | ((with_reducible refine side_ok ?_); exact be_unit rfl)
    | ((with_reducible refine side_ok ?_); exact lay_unit rfl)
    | ((with_reducible refine side_ok ?_); exact crc_unit rfl)
    | ((with_reducible refine side_ok ?_); exact lnk_unit rfl)
    | with_reducible apply withThm_fits
    | split
    | with_reducible refine fits_snd (by assumption) ?_
    | with_reducible refine fits_thd (by assumption) ?_
    | dsimp only

theorem otherChannels_fits {g : Foot} {s0 : State} (s : State) (codes : List Nat) (hle : (Foot.of [0x00, 0x02, 0x08, 0x09, 0x40, 0x48, 0x49, 0x50, 0x68, 0x70, 0x71] [.flt, .evr, .saf, .lanes, .flx, .seg, .fresh]).le g = true) (h0 : s0.Fits g s) : s0.Fits g (State.otherChannels s codes) := by
  refine fits_app hle ?_ h0
  unfold State.otherChannels
  repeat' first
    | (extract_lets +onlyGivenNames x
       first
       | (refine fits_cut (p := State.Fits (Foot.of [0x00, 0x02, 0x08, 0x09, 0x40, 0x48, 0x49, 0x50, 0x68, 0x70, 0x71] [.flt, .evr, .saf, .lanes, .flx, .seg, .fresh]) s x) ?_ ?_; rotate_left; intro hx; clear_value x; rotate_left; subst x)
       | (refine part_cut (α := type_of% x) (by constructor) ?_; subst x)
       | clear_value x
       | subst x)
    | ((with_reducible refine side_ok ?_); exact rfl)
    | with_reducible assumption
    | ((with_reducible refine keep_goal ?_); exact keep_refl)
    | with_reducible exact fits_refl _ _
    | with_reducible apply classFactors_fits
    | with_reducible apply feedRead_fits
    | with_reducible apply fluxRound_fits
    | split

end Sys2Proof.Laws
end

