-- ==== Sys2Proof/Laws/PowerFits.lean ====
section
/-! SUPPORT. Footprints of the operations of Machine/Power.lean: one lemma for each, which says what it may touch and that it keeps what every command keeps. -/

set_option linter.unusedTactic false
set_option linter.unreachableTactic false

namespace Sys2Proof.Laws

open Sys2Proof.Machine

theorem refuse_fits {g : Foot} {s0 : State} (s : State) (code : Nat) (hle : (Foot.of [0x03, 0x10] []).le g = true) (h0 : s0.Fits g s) : s0.Fits g (State.refuse s code) := by
  refine fits_app hle ?_ h0
  unfold State.refuse
  repeat' first
    | (extract_lets +onlyGivenNames x
       first
       | (refine fits_cut (p := State.Fits (Foot.of [0x03, 0x10] []) s x) ?_ ?_; rotate_left; intro hx; clear_value x; rotate_left; subst x)
       | (refine part_cut (α := type_of% x) (by constructor) ?_; subst x)
       | clear_value x
       | subst x)
    | ((with_reducible refine side_ok ?_); exact rfl)
    | with_reducible assumption
    | ((with_reducible refine keep_goal ?_); exact keep_refl)
    | with_reducible exact fits_refl _ _
    | with_reducible apply put_fits
    | with_reducible apply evt_fits
    | split

theorem pwrTo_fits {g : Foot} {s0 : State} (s : State) (p : PwrState) (hle : (Foot.of [] [.pwr]).le g = true) (h0 : s0.Fits g s) : s0.Fits g (State.pwrTo s p) := by
  refine fits_app hle ?_ h0
  unfold State.pwrTo
  repeat' first
    | (extract_lets +onlyGivenNames x
       first
       | (refine fits_cut (p := State.Fits (Foot.of [] [.pwr]) s x) ?_ ?_; rotate_left; intro hx; clear_value x; rotate_left; subst x)
       | (refine part_cut (α := type_of% x) (by constructor) ?_; subst x)
       | clear_value x
       | subst x)
    | ((with_reducible refine side_ok ?_); exact rfl)
    | with_reducible assumption
    | ((with_reducible refine keep_goal ?_); exact keep_refl)
    | with_reducible exact fits_refl _ _
    | with_reducible apply withPwr_fits
    | with_reducible apply withPwr_fits
    | split

theorem pwrIdle_fits {g : Foot} {s0 : State} (s : State) (m : Master) (hle : (Foot.of [] [.pwr]).le g = true) (h0 : s0.Fits g s) : s0.Fits g (State.pwrIdle s m) := by
  refine fits_app hle ?_ h0
  unfold State.pwrIdle
  repeat' first
    | (extract_lets +onlyGivenNames x
       first
       | (refine fits_cut (p := State.Fits (Foot.of [] [.pwr]) s x) ?_ ?_; rotate_left; intro hx; clear_value x; rotate_left; subst x)
       | (refine part_cut (α := type_of% x) (by constructor) ?_; subst x)
       | clear_value x
       | subst x)
    | ((with_reducible refine side_ok ?_); exact rfl)
    | with_reducible assumption
    | ((with_reducible refine keep_goal ?_); exact keep_refl)
    | with_reducible exact fits_refl _ _
    | with_reducible apply pwrTo_fits
    | split

theorem pwrReq_fits {g : Foot} {s0 : State} (s : State) (m : Master) (v : Word) (hle : (Foot.of [0x03, 0x10] [.pwr]).le g = true) (h0 : s0.Fits g s) : s0.Fits g (State.pwrReq s m v) := by
  refine fits_app hle ?_ h0
  unfold State.pwrReq
  repeat' first
    | (extract_lets +onlyGivenNames x
       first
       | (refine fits_cut (p := State.Fits (Foot.of [0x03, 0x10] [.pwr]) s x) ?_ ?_; rotate_left; intro hx; clear_value x; rotate_left; subst x)
       | (refine part_cut (α := type_of% x) (by constructor) ?_; subst x)
       | clear_value x
       | subst x)
    | ((with_reducible refine side_ok ?_); exact rfl)
    | with_reducible assumption
    | ((with_reducible refine keep_goal ?_); exact keep_refl)
    | with_reducible exact fits_refl _ _
    | with_reducible apply pwrIdle_fits
    | with_reducible apply pwrTo_fits
    | with_reducible apply refuse_fits
    | with_reducible apply withPwr_fits
    | with_reducible apply withPwr_fits
    | split

theorem wdtSuspend_fits {g : Foot} {s0 : State} (s : State) (hle : (Foot.of [0x68] [.saf]).le g = true) (h0 : s0.Fits g s) : s0.Fits g (State.wdtSuspend s) := by
  refine fits_app hle ?_ h0
  unfold State.wdtSuspend
  repeat' first
    | (extract_lets +onlyGivenNames x
       first
       | (refine fits_cut (p := State.Fits (Foot.of [0x68] [.saf]) s x) ?_ ?_; rotate_left; intro hx; clear_value x; rotate_left; subst x)
       | (refine part_cut (α := type_of% x) (by constructor) ?_; subst x)
       | clear_value x
       | subst x)
    | ((with_reducible refine side_ok ?_); exact rfl)
    | with_reducible assumption
    | ((with_reducible refine keep_goal ?_); exact keep_refl)
    | with_reducible exact fits_refl _ _
    | with_reducible apply put_fits
    | with_reducible apply withSaf_fits
    | with_reducible apply withSaf_fits
    | split

theorem flintPrepare_fits {g : Foot} {s0 : State} (s : State) (hle : (Foot.of [0x40, 0x50, 0x68] [.saf, .lanes, .seg]).le g = true) (h0 : s0.Fits g s) : s0.Fits g (State.flintPrepare s) := by
  refine fits_app hle ?_ h0
  unfold State.flintPrepare
  repeat' first
    | (extract_lets +onlyGivenNames x
       first
       | (refine fits_cut (p := State.Fits (Foot.of [0x40, 0x50, 0x68] [.saf, .lanes, .seg]) s x) ?_ ?_; rotate_left; intro hx; clear_value x; rotate_left; subst x)
       | (refine part_cut (α := type_of% x) (by constructor) ?_; subst x)
       | clear_value x
       | subst x)
    | ((with_reducible refine side_ok ?_); exact rfl)
    | with_reducible assumption
    | ((with_reducible refine keep_goal ?_); exact keep_refl)
    | with_reducible exact fits_refl _ _
    | with_reducible apply put_fits
    | with_reducible apply segAllOff_fits
    | with_reducible apply soutCtrl_fits
    | split

theorem sleepEnter_fits {g : Foot} {s0 : State} (s : State) (hle : (Foot.of [0x00, 0x01, 0x08, 0x09, 0x0A, 0x18, 0x30, 0x40, 0x50, 0x60, 0x68, 0x70, 0x71] [.pend, .pendPages, .flt, .evr, .saf, .quartz, .lnkA, .lnkB, .side, .cmp, .glare, .lanes, .tln, .pwr]).le g = true) (h0 : s0.Fits g s) : s0.Fits g (State.sleepEnter s) := by
  refine fits_app hle ?_ h0
  unfold State.sleepEnter
  repeat' first
    | (extract_lets +onlyGivenNames x
       first
       | (refine fits_cut (p := State.Fits (Foot.of [0x00, 0x01, 0x08, 0x09, 0x0A, 0x18, 0x30, 0x40, 0x50, 0x60, 0x68, 0x70, 0x71] [.pend, .pendPages, .flt, .evr, .saf, .quartz, .lnkA, .lnkB, .side, .cmp, .glare, .lanes, .tln, .pwr]) s x) ?_ ?_; rotate_left; intro hx; clear_value x; rotate_left; subst x)
       | (refine part_cut (α := type_of% x) (by constructor) ?_; subst x)
       | clear_value x
       | subst x)
    | ((with_reducible refine side_ok ?_); exact rfl)
    | with_reducible assumption
    | ((with_reducible refine keep_goal ?_); exact keep_refl)
    | with_reducible exact fits_refl _ _
    | with_reducible refine fits_foldl _ _ (fun x hx u hu => ?_) ?_
    | with_reducible apply put_fits
    | with_reducible apply endFrames_fits
    | with_reducible apply lanesOff_fits
    | with_reducible apply linkTo_fits
    | with_reducible apply loseRx_fits
    | with_reducible apply pwrTo_fits
    | with_reducible apply settle_fits
    | with_reducible apply wdtSuspend_fits
    | split

theorem csfRestart_fits {g : Foot} {s0 : State} (s : State) (hle : (Foot.of [] [.csf]).le g = true) (h0 : s0.Fits g s) : s0.Fits g (State.csfRestart s) := by
  refine fits_app hle ?_ h0
  unfold State.csfRestart
  repeat' first
    | (extract_lets +onlyGivenNames x
       first
       | (refine fits_cut (p := State.Fits (Foot.of [] [.csf]) s x) ?_ ?_; rotate_left; intro hx; clear_value x; rotate_left; subst x)
       | (refine part_cut (α := type_of% x) (by constructor) ?_; subst x)
       | clear_value x
       | subst x)
    | ((with_reducible refine side_ok ?_); exact rfl)
    | with_reducible assumption
    | ((with_reducible refine keep_goal ?_); exact keep_refl)
    | with_reducible exact fits_refl _ _
    | with_reducible apply withCsf_fits
    | with_reducible apply withCsf_fits
    | split

theorem sleepExit_fits {g : Foot} {s0 : State} (s : State) (src : Nat) (hle : (Foot.of [0x03, 0x08, 0x09, 0x0A, 0x40, 0x50, 0x68, 0x70, 0x71] [.evr, .saf, .lnkA, .lnkB, .csf, .lanes, .tln, .pwr]).le g = true) (h0 : s0.Fits g s) : s0.Fits g (State.sleepExit s src) := by
  refine fits_app hle ?_ h0
  unfold State.sleepExit
  repeat' first
    | (extract_lets +onlyGivenNames x
       first
       | (refine fits_cut (p := State.Fits (Foot.of [0x03, 0x08, 0x09, 0x0A, 0x40, 0x50, 0x68, 0x70, 0x71] [.evr, .saf, .lnkA, .lnkB, .csf, .lanes, .tln, .pwr]) s x) ?_ ?_; rotate_left; intro hx; clear_value x; rotate_left; subst x)
       | (refine part_cut (α := type_of% x) (by constructor) ?_; subst x)
       | clear_value x
       | subst x)
    | ((with_reducible refine side_ok ?_); exact rfl)
    | with_reducible assumption
    | ((with_reducible refine keep_goal ?_); exact keep_refl)
    | with_reducible exact fits_refl _ _
    | with_reducible refine fits_foldl _ _ (fun x hx u hu => ?_) ?_
    | with_reducible apply put_fits
    | with_reducible apply csfRestart_fits
    | with_reducible apply flintResume_fits
    | with_reducible apply lanesWake_fits
    | with_reducible apply linkTo_fits
    | with_reducible apply pwrTo_fits
    | with_reducible apply queueStatus_fits
    | with_reducible apply settle_fits
    | with_reducible apply timerTry_fits
    | split

theorem drainQueue_fits {g : Foot} {s0 : State} (s : State) (k : Nat) (hle : (Foot.of [0x08, 0x09, 0x10, 0x70, 0x71] [.mem, .evr, .lnkA, .lnkB, .spi]).le g = true) (h0 : s0.Fits g s) : s0.Fits g (State.drainQueue k s) := by
  induction k generalizing s with
  | zero => exact h0
  | succ k ih =>
    unfold State.drainQueue
    repeat' first
      | (extract_lets +onlyGivenNames x
         first
         | (refine fits_cut (p := State.Fits (g) s0 x) ?_ ?_; rotate_left; intro hx; clear_value x; rotate_left; subst x)
         | (refine part_cut (α := type_of% x) (by constructor) ?_; subst x)
         | clear_value x
         | subst x)
      | with_reducible assumption
      | ((with_reducible refine keep_goal ?_); exact keep_refl)
      | ((with_reducible refine side_ok ?_); first | exact unit_via rfl hle | exact part_via rfl hle | exact le_via rfl hle)
      | with_reducible exact fits_refl _ _
      | with_reducible apply ih
      | with_reducible apply writeRec_fits
      | split

theorem entrySaves_fits {g : Foot} {s0 : State} (s : State) (hle : (Foot.of [0x08, 0x09, 0x10, 0x70, 0x71] [.mem, .evr, .lnkA, .lnkB, .spi, .flx, .thm]).le g = true) (h0 : s0.Fits g s) : s0.Fits g (State.entrySaves s) := by
  refine fits_app hle ?_ h0
  unfold State.entrySaves
  repeat' first
    | (extract_lets +onlyGivenNames x
       first
       | (refine fits_cut (p := State.Fits (Foot.of [0x08, 0x09, 0x10, 0x70, 0x71] [.mem, .evr, .lnkA, .lnkB, .spi, .flx, .thm]) s x) ?_ ?_; rotate_left; intro hx; clear_value x; rotate_left; subst x)
       | (refine part_cut (α := type_of% x) (by constructor) ?_; subst x)
       | clear_value x
       | subst x)
    | ((with_reducible refine side_ok ?_); exact rfl)
    | with_reducible assumption
    | ((with_reducible refine keep_goal ?_); exact keep_refl)
    | with_reducible exact fits_refl _ _
    | with_reducible apply checkpointFlash_fits
    | with_reducible apply checkpointRet_fits
    | with_reducible apply drainQueue_fits
    | with_reducible apply mirrorPage_fits
    | with_reducible apply writeFluxRecord_fits
    | split

theorem saveSticky_fits {g : Foot} {s0 : State} (s : State) (hle : (Foot.of [] [.pwr]).le g = true) (h0 : s0.Fits g s) : s0.Fits g (State.saveSticky s) := by
  refine fits_app hle ?_ h0
  unfold State.saveSticky
  repeat' first
    | (extract_lets +onlyGivenNames x
       first
       | (refine fits_cut (p := State.Fits (Foot.of [] [.pwr]) s x) ?_ ?_; rotate_left; intro hx; clear_value x; rotate_left; subst x)
       | (refine part_cut (α := type_of% x) (by constructor) ?_; subst x)
       | clear_value x
       | subst x)
    | ((with_reducible refine side_ok ?_); exact rfl)
    | with_reducible assumption
    | ((with_reducible refine keep_goal ?_); exact keep_refl)
    | with_reducible exact fits_refl _ _
    | with_reducible apply withPwr_fits
    | with_reducible apply withPwr_fits
    | split
    | with_reducible refine fits_snd (by assumption) ?_
    | with_reducible refine fits_thd (by assumption) ?_
    | dsimp only

theorem linksDeep_fits {g : Foot} {s0 : State} (s : State) (hle : (Foot.of [0x00, 0x01, 0x08, 0x09, 0x0A, 0x40, 0x50, 0x68, 0x70, 0x71] [.flt, .evr, .saf, .quartz, .lnkA, .lnkB, .side, .lanes]).le g = true) (h0 : s0.Fits g s) : s0.Fits g (State.linksDeep s) := by
  refine fits_app hle ?_ h0
  unfold State.linksDeep
  repeat' first
    | (extract_lets +onlyGivenNames x
       first
       | (refine fits_cut (p := State.Fits (Foot.of [0x00, 0x01, 0x08, 0x09, 0x0A, 0x40, 0x50, 0x68, 0x70, 0x71] [.flt, .evr, .saf, .quartz, .lnkA, .lnkB, .side, .lanes]) s x) ?_ ?_; rotate_left; intro hx; clear_value x; rotate_left; subst x)
       | (refine part_cut (α := type_of% x) (by constructor) ?_; subst x)
       | clear_value x
       | subst x)
    | ((with_reducible refine side_ok ?_); exact rfl)
    | with_reducible assumption
    | ((with_reducible refine keep_goal ?_); exact keep_refl)
    | with_reducible exact fits_refl _ _
    | with_reducible refine fits_foldl _ _ (fun x hx u hu => ?_) ?_
    | with_reducible apply put_fits
    | with_reducible apply linkTo_fits
    | with_reducible apply setLock_fits
    | with_reducible apply sideTo_fits
    | ((with_reducible refine side_ok ?_); exact lnk_unit rfl)
    | split

theorem linksLeaveDeep_fits {g : Foot} {s0 : State} (s : State) (hle : (Foot.of [0x08, 0x09, 0x0A] [.lnkA, .lnkB]).le g = true) (h0 : s0.Fits g s) : s0.Fits g (State.linksLeaveDeep s) := by
  refine fits_app hle ?_ h0
  unfold State.linksLeaveDeep
  repeat' first
    | (extract_lets +onlyGivenNames x
       first
       | (refine fits_cut (p := State.Fits (Foot.of [0x08, 0x09, 0x0A] [.lnkA, .lnkB]) s x) ?_ ?_; rotate_left; intro hx; clear_value x; rotate_left; subst x)
       | (refine part_cut (α := type_of% x) (by constructor) ?_; subst x)
       | clear_value x
       | subst x)
    | ((with_reducible refine side_ok ?_); exact rfl)
    | with_reducible assumption
    | ((with_reducible refine keep_goal ?_); exact keep_refl)
    | with_reducible exact fits_refl _ _
    | with_reducible refine fits_foldl _ _ (fun x hx u hu => ?_) ?_
    | with_reducible apply put_fits
    | with_reducible apply linkTo_fits
    | split

theorem entryOff_fits {g : Foot} {s0 : State} (s : State) (hle : (Foot.of [0x00, 0x01, 0x03, 0x08, 0x09, 0x0A, 0x0B, 0x18, 0x30, 0x40, 0x50, 0x60, 0x68, 0x70, 0x71] [.pend, .pendPages, .flt, .evr, .saf, .quartz, .lnkA, .lnkB, .side, .cmp, .glare, .lanes, .tln, .seg, .pwr]).le g = true) (h0 : s0.Fits g s) : s0.Fits g (State.entryOff s) := by
  refine fits_app hle ?_ h0
  unfold State.entryOff
  repeat' first
    | (extract_lets +onlyGivenNames x
       first
       | (refine fits_cut (p := State.Fits (Foot.of [0x00, 0x01, 0x03, 0x08, 0x09, 0x0A, 0x0B, 0x18, 0x30, 0x40, 0x50, 0x60, 0x68, 0x70, 0x71] [.pend, .pendPages, .flt, .evr, .saf, .quartz, .lnkA, .lnkB, .side, .cmp, .glare, .lanes, .tln, .seg, .pwr]) s x) ?_ ?_; rotate_left; intro hx; clear_value x; rotate_left; subst x)
       | (refine part_cut (α := type_of% x) (by constructor) ?_; subst x)
       | clear_value x
       | subst x)
    | ((with_reducible refine side_ok ?_); exact rfl)
    | with_reducible assumption
    | ((with_reducible refine keep_goal ?_); exact keep_refl)
    | with_reducible exact fits_refl _ _
    | with_reducible apply put_fits
    | with_reducible apply endFrames_fits
    | with_reducible apply lanesOff_fits
    | with_reducible apply linksDeep_fits
    | with_reducible apply pwrTo_fits
    | with_reducible apply rootGate_fits
    | with_reducible apply soutsOff_fits
    | with_reducible apply wdtSuspend_fits
    | with_reducible apply withPwr_fits
    | with_reducible apply withSaf_fits
    | with_reducible apply withSeg_fits
    | with_reducible apply withPwr_fits
    | with_reducible apply withSaf_fits
    | with_reducible apply withSeg_fits
    | split

theorem pmbFail_fits {g : Foot} {s0 : State} (s : State) (hle : (Foot.of [0x00, 0x03, 0x40, 0x50, 0x68, 0x70, 0x71] [.flt, .evr, .saf, .lanes]).le g = true) (h0 : s0.Fits g s) : s0.Fits g (State.pmbFail s) := by
  refine fits_app hle ?_ h0
  unfold State.pmbFail
  repeat' first
    | (extract_lets +onlyGivenNames x
       first
       | (refine fits_cut (p := State.Fits (Foot.of [0x00, 0x03, 0x40, 0x50, 0x68, 0x70, 0x71] [.flt, .evr, .saf, .lanes]) s x) ?_ ?_; rotate_left; intro hx; clear_value x; rotate_left; subst x)
       | (refine part_cut (α := type_of% x) (by constructor) ?_; subst x)
       | clear_value x
       | subst x)
    | ((with_reducible refine side_ok ?_); exact rfl)
    | with_reducible assumption
    | ((with_reducible refine keep_goal ?_); exact keep_refl)
    | with_reducible exact fits_refl _ _
    | with_reducible apply evt_fits
    | with_reducible apply incSat_fits
    | with_reducible apply raise_fits
    | ((with_reducible refine side_ok ?_); exact tl_unit rfl)
    | ((with_reducible refine side_ok ?_); exact be_unit rfl)
    | ((with_reducible refine side_ok ?_); exact lay_unit rfl)
    | ((with_reducible refine side_ok ?_); exact crc_unit rfl)
    | ((with_reducible refine side_ok ?_); exact lnk_unit rfl)
    | split

theorem deepEnter_fits {g : Foot} {s0 : State} (s : State) (lyOk : Bool) (hle : (Foot.of [0x00, 0x01, 0x03, 0x08, 0x09, 0x0A, 0x0B, 0x10, 0x18, 0x30, 0x40, 0x50, 0x60, 0x68, 0x70, 0x71] [.pend, .pendPages, .mem, .flt, .evr, .saf, .quartz, .lnkA, .lnkB, .side, .spi, .cmp, .glare, .lanes, .tln, .flx, .seg, .thm, .pwr]).le g = true) (h0 : s0.Fits g s) : s0.Fits g (State.deepEnter s lyOk) := by
  refine fits_app hle ?_ h0
  unfold State.deepEnter
  repeat' first
    | (extract_lets +onlyGivenNames x
       first
       | (refine fits_cut (p := State.Fits (Foot.of [0x00, 0x01, 0x03, 0x08, 0x09, 0x0A, 0x0B, 0x10, 0x18, 0x30, 0x40, 0x50, 0x60, 0x68, 0x70, 0x71] [.pend, .pendPages, .mem, .flt, .evr, .saf, .quartz, .lnkA, .lnkB, .side, .spi, .cmp, .glare, .lanes, .tln, .flx, .seg, .thm, .pwr]) s x) ?_ ?_; rotate_left; intro hx; clear_value x; rotate_left; subst x)
       | (refine part_cut (α := type_of% x) (by constructor) ?_; subst x)
       | clear_value x
       | subst x)
    | ((with_reducible refine side_ok ?_); exact rfl)
    | with_reducible assumption
    | ((with_reducible refine keep_goal ?_); exact keep_refl)
    | with_reducible exact fits_refl _ _
    | with_reducible apply evt_fits
    | with_reducible apply entryOff_fits
    | with_reducible apply entrySaves_fits
    | with_reducible apply pmbFail_fits
    | with_reducible apply pwrTo_fits
    | with_reducible apply saveSticky_fits
    | with_reducible apply withPwr_fits
    | with_reducible apply withPwr_fits
    | split

theorem restoreWord_fits {g : Foot} {s0 : State} (s : State) (e : Nat × Word) (hp : g.hasUnit (groupPage (e.1 / 4096)) = true) (hle : (Foot.of [] []).le g = true) (h0 : s0.Fits g s) : s0.Fits g (State.restoreWord s e) := by
  unfold State.restoreWord
  repeat' first
    | (extract_lets +onlyGivenNames x
       first
       | (refine fits_cut (p := State.Fits g s0 x) ?_ ?_; rotate_left; intro hx; clear_value x; rotate_left; subst x)
       | (refine part_cut (α := type_of% x) (by constructor) ?_; subst x)
       | clear_value x
       | subst x)
    | with_reducible assumption
    | ((with_reducible refine keep_goal ?_); exact keep_refl)
    | ((with_reducible refine side_ok ?_); first | exact unit_via rfl hle | exact part_via rfl hle | exact le_via rfl hle)
    | with_reducible exact fits_refl _ _
    | with_reducible apply setWord_fits
    | split
    | with_reducible refine fits_snd (by assumption) ?_
    | with_reducible refine fits_thd (by assumption) ?_
    | dsimp only

/-- The core logic after DEEP; nothing bounds it. -/
theorem afterDeep_fits {g : Foot} {s0 : State} (s : State) (hle : Foot.free.le g = true) (h0 : s0.Fits g s) : s0.Fits g s.afterDeep := by
  refine fits_app hle ?_ h0
  unfold State.afterDeep
  extract_lets lvl strap crit bl fl ev rs qu fx go th pw se fu up t1 t2 t3 t4 t5
  have h1 : s.Fits Foot.free t1 := fits_free ⟨fun h => tabWf_filter _ h, fun h => regsWf_of (tabWf_filter _ (regsWf_regs h)) (tabWf_filter _ (regsWf_shadow h)) rfl,
    fun h => by
      simp only [State.shaped, Bool.and_eq_true] at h
      simp only [State.shaped, Bool.and_eq_true]
      exact ⟨⟨⟨⟨⟨⟨⟨⟨⟨rfl, h.1.1.1.1.1.1.1.1.2⟩, rfl⟩, rfl⟩, rfl⟩, h.1.1.1.1.2⟩, rfl⟩, rfl⟩, h.1.2⟩, h.2⟩,
    rfl, Nat.le_refl _, Nat.le_refl _, fun _ _ h => h⟩
  have h2 : s.Fits Foot.free t2 := fits_foldl _ _ (fun e _ u hu => restoreWord_fits u e rfl rfl hu) h1
  have h3 : s.Fits Foot.free t3 := withShadow_fits _ (fun h => regsWf_regs h) rfl h2
  have h4 : s.Fits Foot.free t4 := put_fits _ rfl (put_fits _ rfl (tapReset_fits _ rfl (senseFuses_fits _ rfl h3)))
  have h5 : s.Fits Foot.free t5 := put_fits _ rfl (put_fits _ rfl h4)
  exact fits_foldl _ _ (fun k _ u hu => put_fits _ rfl hu) (put_fits _ rfl h5)

theorem exitReport_fits {g : Foot} {s0 : State} (s : State) (src : Nat) (t : Nat) (late : Bool) (hle : (Foot.of [0x03] [.pwr]).le g = true) (h0 : s0.Fits g s) : s0.Fits g (State.exitReport s src t late) := by
  refine fits_app hle ?_ h0
  unfold State.exitReport
  repeat' first
    | (extract_lets +onlyGivenNames x
       first
       | (refine fits_cut (p := State.Fits (Foot.of [0x03] [.pwr]) s x) ?_ ?_; rotate_left; intro hx; clear_value x; rotate_left; subst x)
       | (refine part_cut (α := type_of% x) (by constructor) ?_; subst x)
       | clear_value x
       | subst x)
    | ((with_reducible refine side_ok ?_); exact rfl)
    | with_reducible assumption
    | ((with_reducible refine keep_goal ?_); exact keep_refl)
    | with_reducible exact fits_refl _ _
    | with_reducible apply put_fits
    | with_reducible apply withPwr_fits
    | with_reducible apply withPwr_fits
    | split

theorem deepBoot_fits {g : Foot} {s0 : State} (s : State) (hle : (Foot.of [0x00, 0x01, 0x02, 0x03, 0x08, 0x09, 0x40, 0x50, 0x68, 0x70, 0x71] [.mem, .flt, .evr, .saf, .rst, .quartz, .lanes, .pwr]).le g = true) (h0 : s0.Fits g s) : s0.Fits g (State.deepBoot s) := by
  refine fits_app hle ?_ h0
  unfold State.deepBoot
  repeat' first
    | (extract_lets +onlyGivenNames x
       first
       | (refine fits_cut (p := State.Fits (Foot.of [0x00, 0x01, 0x02, 0x03, 0x08, 0x09, 0x40, 0x50, 0x68, 0x70, 0x71] [.mem, .flt, .evr, .saf, .rst, .quartz, .lanes, .pwr]) s x) ?_ ?_; rotate_left; intro hx; clear_value x; rotate_left; subst x)
       | (refine part_cut (α := type_of% x) (by constructor) ?_; subst x)
       | clear_value x
       | subst x)
    | ((with_reducible refine side_ok ?_); exact rfl)
    | with_reducible assumption
    | ((with_reducible refine keep_goal ?_); exact keep_refl)
    | with_reducible exact fits_refl _ _
    | with_reducible apply put_fits
    | with_reducible apply pwrTo_fits
    | with_reducible apply startStep_fits
    | with_reducible apply withQuartz_fits
    | ((with_reducible refine side_ok ?_); exact lnk_unit rfl)
    | with_reducible apply withQuartz_fits
    | split

theorem pinDeepReset_fits {g : Foot} {s0 : State} (s : State) (hle : (Foot.free).le g = true) (h0 : s0.Fits g s) : s0.Fits g (State.pinDeepReset s) := by
  refine fits_app hle ?_ h0
  unfold State.pinDeepReset
  repeat' first
    | (extract_lets +onlyGivenNames x
       first
       | (refine fits_cut (p := State.Fits (Foot.free) s x) ?_ ?_; rotate_left; intro hx; clear_value x; rotate_left; subst x)
       | (refine part_cut (α := type_of% x) (by constructor) ?_; subst x)
       | clear_value x
       | subst x)
    | ((with_reducible refine side_ok ?_); exact rfl)
    | with_reducible assumption
    | ((with_reducible refine keep_goal ?_); exact keep_refl)
    | with_reducible exact fits_refl _ _
    | with_reducible apply put_fits
    | with_reducible apply pwrTo_fits
    | with_reducible apply warmReset_fits
    | with_reducible apply withQuartz_fits
    | with_reducible apply withRst_fits
    | with_reducible apply withQuartz_fits
    | with_reducible apply withRst_fits
    | split

theorem wakeEvent_fits {g : Foot} {s0 : State} (s : State) (src : Nat) (hle : (Foot.of [0x03, 0x08, 0x09, 0x0A, 0x40, 0x50, 0x68, 0x70, 0x71] [.evr, .saf, .lnkA, .lnkB, .csf, .lanes, .tln, .pwr]).le g = true) (h0 : s0.Fits g s) : s0.Fits g (State.wakeEvent s src) := by
  refine fits_app hle ?_ h0
  unfold State.wakeEvent
  repeat' first
    | (extract_lets +onlyGivenNames x
       first
       | (refine fits_cut (p := State.Fits (Foot.of [0x03, 0x08, 0x09, 0x0A, 0x40, 0x50, 0x68, 0x70, 0x71] [.evr, .saf, .lnkA, .lnkB, .csf, .lanes, .tln, .pwr]) s x) ?_ ?_; rotate_left; intro hx; clear_value x; rotate_left; subst x)
       | (refine part_cut (α := type_of% x) (by constructor) ?_; subst x)
       | clear_value x
       | subst x)
    | ((with_reducible refine side_ok ?_); exact rfl)
    | with_reducible assumption
    | ((with_reducible refine keep_goal ?_); exact keep_refl)
    | with_reducible exact fits_refl _ _
    | with_reducible apply put_fits
    | with_reducible apply evt_fits
    | with_reducible apply pwrTo_fits
    | with_reducible apply sleepExit_fits
    | with_reducible apply withPwr_fits
    | with_reducible apply withPwr_fits
    | split

theorem readStatusWord_fits {g : Foot} {s0 : State} (s : State) (word : Nat) (ok : Bool) (hle : (Foot.of [0x00, 0x03, 0x40, 0x50, 0x68, 0x70, 0x71] [.flt, .evr, .saf, .lanes]).le g = true) (h0 : s0.Fits g s) : s0.Fits g (State.readStatusWord s word ok) := by
  refine fits_app hle ?_ h0
  unfold State.readStatusWord
  repeat' first
    | (extract_lets +onlyGivenNames x
       first
       | (refine fits_cut (p := State.Fits (Foot.of [0x00, 0x03, 0x40, 0x50, 0x68, 0x70, 0x71] [.flt, .evr, .saf, .lanes]) s x) ?_ ?_; rotate_left; intro hx; clear_value x; rotate_left; subst x)
       | (refine part_cut (α := type_of% x) (by constructor) ?_; subst x)
       | clear_value x
       | subst x)
    | ((with_reducible refine side_ok ?_); exact rfl)
    | with_reducible assumption
    | ((with_reducible refine keep_goal ?_); exact keep_refl)
    | with_reducible exact fits_refl _ _
    | with_reducible apply put_fits
    | with_reducible apply pmbFail_fits
    | split

theorem padWrite_fits {g : Foot} {s0 : State} (s : State) (v : Word) (hle : (Foot.of [0x03] []).le g = true) (h0 : s0.Fits g s) : s0.Fits g (State.padWrite s v) := by
  refine fits_app hle ?_ h0
  unfold State.padWrite
  repeat' first
    | (extract_lets +onlyGivenNames x
       first
       | (refine fits_cut (p := State.Fits (Foot.of [0x03] []) s x) ?_ ?_; rotate_left; intro hx; clear_value x; rotate_left; subst x)
       | (refine part_cut (α := type_of% x) (by constructor) ?_; subst x)
       | clear_value x
       | subst x)
    | ((with_reducible refine side_ok ?_); exact rfl)
    | with_reducible assumption
    | ((with_reducible refine keep_goal ?_); exact keep_refl)
    | with_reducible exact fits_refl _ _
    | with_reducible apply put_fits
    | split

theorem wakeClear_fits {g : Foot} {s0 : State} (s : State) (v : Word) (hle : (Foot.of [0x03] []).le g = true) (h0 : s0.Fits g s) : s0.Fits g (State.wakeClear s v) := by
  refine fits_app hle ?_ h0
  unfold State.wakeClear
  repeat' first
    | (extract_lets +onlyGivenNames x
       first
       | (refine fits_cut (p := State.Fits (Foot.of [0x03] []) s x) ?_ ?_; rotate_left; intro hx; clear_value x; rotate_left; subst x)
       | (refine part_cut (α := type_of% x) (by constructor) ?_; subst x)
       | clear_value x
       | subst x)
    | ((with_reducible refine side_ok ?_); exact rfl)
    | with_reducible assumption
    | ((with_reducible refine keep_goal ?_); exact keep_refl)
    | with_reducible exact fits_refl _ _
    | with_reducible apply put_fits
    | split

end Sys2Proof.Laws
end

