-- ==== Sys2Proof/Laws/SecurityFits.lean ====
section
/-! SUPPORT. Footprints of the operations of Machine/Security.lean: one lemma for each, which says what it may touch and that it keeps what every command keeps. -/

set_option linter.unusedTactic false
set_option linter.unreachableTactic false

namespace Sys2Proof.Laws

open Sys2Proof.Machine

theorem progRefuse_fits {g : Foot} {s0 : State} (s : State) (rej : Nat) (hle : (Foot.of [0x04, 0x7A] []).le g = true) (h0 : s0.Fits g s) : s0.Fits g (State.progRefuse s rej) := by
  refine fits_app hle ?_ h0
  unfold State.progRefuse
  repeat' first
    | (extract_lets +onlyGivenNames x
       first
       | (refine fits_cut (p := State.Fits (Foot.of [0x04, 0x7A] []) s x) ?_ ?_; rotate_left; intro hx; clear_value x; rotate_left; subst x)
       | (refine part_cut (α := type_of% x) (by constructor) ?_; subst x)
       | clear_value x
       | subst x)
    | ((with_reducible refine side_ok ?_); exact rfl)
    | with_reducible assumption
    | ((with_reducible refine keep_goal ?_); exact keep_refl)
    | with_reducible exact fits_refl _ _
    | with_reducible apply put_fits
    | with_reducible apply evt_fits
    | split

theorem progRequest_fits {g : Foot} {s0 : State} (s : State) (m : Master) (row : Nat) (b : Nat) (lc : Bool) (hle : (Foot.of [0x04, 0x7A] [.fus]).le g = true) (h0 : s0.Fits g s) : s0.Fits g (State.progRequest s m row b lc) := by
  refine fits_app hle ?_ h0
  unfold State.progRequest
  repeat' first
    | (extract_lets +onlyGivenNames x
       first
       | (refine fits_cut (p := State.Fits (Foot.of [0x04, 0x7A] [.fus]) s x) ?_ ?_; rotate_left; intro hx; clear_value x; rotate_left; subst x)
       | (refine part_cut (α := type_of% x) (by constructor) ?_; subst x)
       | clear_value x
       | subst x)
    | ((with_reducible refine side_ok ?_); exact rfl)
    | with_reducible assumption
    | ((with_reducible refine keep_goal ?_); exact keep_refl)
    | with_reducible exact fits_refl _ _
    | with_reducible apply put_fits
    | with_reducible apply fuseStart_fits
    | with_reducible apply progRefuse_fits
    | split

theorem fusProg_fits {g : Foot} {s0 : State} (s : State) (m : Master) (v : Word) (hle : (Foot.of [0x04, 0x7A] [.fus]).le g = true) (h0 : s0.Fits g s) : s0.Fits g (State.fusProg s m v) := by
  refine fits_app hle ?_ h0
  unfold State.fusProg
  repeat' first
    | (extract_lets +onlyGivenNames x
       first
       | (refine fits_cut (p := State.Fits (Foot.of [0x04, 0x7A] [.fus]) s x) ?_ ?_; rotate_left; intro hx; clear_value x; rotate_left; subst x)
       | (refine part_cut (α := type_of% x) (by constructor) ?_; subst x)
       | clear_value x
       | subst x)
    | ((with_reducible refine side_ok ?_); exact rfl)
    | with_reducible assumption
    | ((with_reducible refine keep_goal ?_); exact keep_refl)
    | with_reducible exact fits_refl _ _
    | with_reducible apply progRequest_fits
    | split

theorem lcTransition_fits {g : Foot} {s0 : State} (s : State) (m : Master) (target : Nat) (auth : Bool) (hle : (Foot.of [0x04, 0x78, 0x7A] [.fus]).le g = true) (h0 : s0.Fits g s) : s0.Fits g (State.lcTransition s m target auth) := by
  refine fits_app hle ?_ h0
  unfold State.lcTransition
  repeat' first
    | (extract_lets +onlyGivenNames x
       first
       | (refine fits_cut (p := State.Fits (Foot.of [0x04, 0x78, 0x7A] [.fus]) s x) ?_ ?_; rotate_left; intro hx; clear_value x; rotate_left; subst x)
       | (refine part_cut (α := type_of% x) (by constructor) ?_; subst x)
       | clear_value x
       | subst x)
    | ((with_reducible refine side_ok ?_); exact rfl)
    | with_reducible assumption
    | ((with_reducible refine keep_goal ?_); exact keep_refl)
    | with_reducible exact fits_refl _ _
    | with_reducible apply evt_fits
    | with_reducible apply fuseStart_fits
    | with_reducible apply progRefuse_fits
    | split

theorem lcReq_fits {g : Foot} {s0 : State} (s : State) (m : Master) (v : Word) (hle : (Foot.of [0x04, 0x78, 0x7A] [.fus]).le g = true) (h0 : s0.Fits g s) : s0.Fits g (State.lcReq s m v) := by
  refine fits_app hle ?_ h0
  unfold State.lcReq
  repeat' first
    | (extract_lets +onlyGivenNames x
       first
       | (refine fits_cut (p := State.Fits (Foot.of [0x04, 0x78, 0x7A] [.fus]) s x) ?_ ?_; rotate_left; intro hx; clear_value x; rotate_left; subst x)
       | (refine part_cut (α := type_of% x) (by constructor) ?_; subst x)
       | clear_value x
       | subst x)
    | ((with_reducible refine side_ok ?_); exact rfl)
    | with_reducible assumption
    | ((with_reducible refine keep_goal ?_); exact keep_refl)
    | with_reducible exact fits_refl _ _
    | with_reducible apply lcTransition_fits
    | split

theorem tapInstr_fits {g : Foot} {s0 : State} (s : State) (hle : (Foot.of [] [.sec]).le g = true) (h0 : s0.Fits g s) : s0.Fits g (State.tapInstr s) := by
  refine fits_app hle ?_ h0
  unfold State.tapInstr
  repeat' first
    | (extract_lets +onlyGivenNames x
       first
       | (refine fits_cut (p := State.Fits (Foot.of [] [.sec]) s x) ?_ ?_; rotate_left; intro hx; clear_value x; rotate_left; subst x)
       | (refine part_cut (α := type_of% x) (by constructor) ?_; subst x)
       | clear_value x
       | subst x)
    | ((with_reducible refine side_ok ?_); exact rfl)
    | with_reducible assumption
    | ((with_reducible refine keep_goal ?_); exact keep_refl)
    | with_reducible exact fits_refl _ _
    | with_reducible apply withSec_fits
    | with_reducible apply withSec_fits
    | split

theorem nonceWord_fits {g : Foot} {s0 : State} (s : State) (k : Nat) (hle : (Foot.of [0x78] [.fresh]).le g = true) (h0 : s0.Fits g s) : s0.Fits g (State.nonceWord s k) := by
  refine fits_app hle ?_ h0
  unfold State.nonceWord
  repeat' first
    | (extract_lets +onlyGivenNames x
       first
       | (refine fits_cut (p := State.Fits (Foot.of [0x78] [.fresh]) s x) ?_ ?_; rotate_left; intro hx; clear_value x; rotate_left; subst x)
       | (refine part_cut (α := type_of% x) (by constructor) ?_; subst x)
       | clear_value x
       | subst x)
    | ((with_reducible refine side_ok ?_); exact rfl)
    | with_reducible assumption
    | ((with_reducible refine keep_goal ?_); exact keep_refl)
    | with_reducible exact fits_refl _ _
    | with_reducible apply put_fits
    | with_reducible refine free_fits_eq (by assumption) ?_ ?_
    | with_reducible apply free_fits
    | split
    | with_reducible refine fits_snd (by assumption) ?_
    | with_reducible refine fits_thd (by assumption) ?_
    | dsimp only

theorem authFail_fits {g : Foot} {s0 : State} (s : State) (hle : (Foot.of [0x78] []).le g = true) (h0 : s0.Fits g s) : s0.Fits g (State.authFail s) := by
  refine fits_app hle ?_ h0
  unfold State.authFail
  repeat' first
    | (extract_lets +onlyGivenNames x
       first
       | (refine fits_cut (p := State.Fits (Foot.of [0x78] []) s x) ?_ ?_; rotate_left; intro hx; clear_value x; rotate_left; subst x)
       | (refine part_cut (α := type_of% x) (by constructor) ?_; subst x)
       | clear_value x
       | subst x)
    | ((with_reducible refine side_ok ?_); exact rfl)
    | with_reducible assumption
    | ((with_reducible refine keep_goal ?_); exact keep_refl)
    | with_reducible exact fits_refl _ _
    | with_reducible apply put_fits
    | with_reducible apply evt_fits
    | split

theorem clearStart_fits {g : Foot} {s0 : State} (s : State) (trig : Nat) (hle : (Foot.of [0x50, 0x68, 0x78] [.saf, .lanes, .sec]).le g = true) (h0 : s0.Fits g s) : s0.Fits g (State.clearStart s trig) := by
  refine fits_app hle ?_ h0
  unfold State.clearStart
  repeat' first
    | (extract_lets +onlyGivenNames x
       first
       | (refine fits_cut (p := State.Fits (Foot.of [0x50, 0x68, 0x78] [.saf, .lanes, .sec]) s x) ?_ ?_; rotate_left; intro hx; clear_value x; rotate_left; subst x)
       | (refine part_cut (α := type_of% x) (by constructor) ?_; subst x)
       | clear_value x
       | subst x)
    | ((with_reducible refine side_ok ?_); exact rfl)
    | with_reducible assumption
    | ((with_reducible refine keep_goal ?_); exact keep_refl)
    | with_reducible exact fits_refl _ _
    | with_reducible apply put_fits
    | with_reducible apply soutLow_fits
    | with_reducible apply soutsTry_fits
    | with_reducible apply withSaf_fits
    | with_reducible apply withSec_fits
    | with_reducible apply withSaf_fits
    | with_reducible apply withSec_fits
    | split

theorem tapOpen_fits {g : Foot} {s0 : State} (s : State) (level : Nat) (hle : (Foot.of [0x70, 0x71, 0x78] [.evr, .sec]).le g = true) (h0 : s0.Fits g s) : s0.Fits g (State.tapOpen s level) := by
  refine fits_app hle ?_ h0
  unfold State.tapOpen
  repeat' first
    | (extract_lets +onlyGivenNames x
       first
       | (refine fits_cut (p := State.Fits (Foot.of [0x70, 0x71, 0x78] [.evr, .sec]) s x) ?_ ?_; rotate_left; intro hx; clear_value x; rotate_left; subst x)
       | (refine part_cut (α := type_of% x) (by constructor) ?_; subst x)
       | clear_value x
       | subst x)
    | ((with_reducible refine side_ok ?_); exact rfl)
    | with_reducible assumption
    | ((with_reducible refine keep_goal ?_); exact keep_refl)
    | with_reducible exact fits_refl _ _
    | with_reducible apply put_fits
    | with_reducible apply evt_fits
    | with_reducible apply event_fits
    | with_reducible apply withSec_fits
    | with_reducible apply withSec_fits
    | split

theorem authAccept_fits {g : Foot} {s0 : State} (s : State) (level : Nat) (hle : (Foot.of [0x04, 0x50, 0x68, 0x70, 0x71, 0x78, 0x7A] [.evr, .saf, .lanes, .sec, .fus]).le g = true) (h0 : s0.Fits g s) : s0.Fits g (State.authAccept s level) := by
  refine fits_app hle ?_ h0
  unfold State.authAccept
  repeat' first
    | (extract_lets +onlyGivenNames x
       first
       | (refine fits_cut (p := State.Fits (Foot.of [0x04, 0x50, 0x68, 0x70, 0x71, 0x78, 0x7A] [.evr, .saf, .lanes, .sec, .fus]) s x) ?_ ?_; rotate_left; intro hx; clear_value x; rotate_left; subst x)
       | (refine part_cut (α := type_of% x) (by constructor) ?_; subst x)
       | clear_value x
       | subst x)
    | ((with_reducible refine side_ok ?_); exact rfl)
    | with_reducible assumption
    | ((with_reducible refine keep_goal ?_); exact keep_refl)
    | with_reducible exact fits_refl _ _
    | with_reducible apply put_fits
    | with_reducible apply clearStart_fits
    | with_reducible apply lcTransition_fits
    | with_reducible apply tapOpen_fits
    | split

theorem lbRefuse_fits {g : Foot} {s0 : State} (s : State) (rej : Nat) (hle : (Foot.of [0x79] []).le g = true) (h0 : s0.Fits g s) : s0.Fits g (State.lbRefuse s rej) := by
  refine fits_app hle ?_ h0
  unfold State.lbRefuse
  repeat' first
    | (extract_lets +onlyGivenNames x
       first
       | (refine fits_cut (p := State.Fits (Foot.of [0x79] []) s x) ?_ ?_; rotate_left; intro hx; clear_value x; rotate_left; subst x)
       | (refine part_cut (α := type_of% x) (by constructor) ?_; subst x)
       | clear_value x
       | subst x)
    | ((with_reducible refine side_ok ?_); exact rfl)
    | with_reducible assumption
    | ((with_reducible refine keep_goal ?_); exact keep_refl)
    | with_reducible exact fits_refl _ _
    | with_reducible apply put_fits
    | with_reducible apply evt_fits
    | split

theorem lbCtrl_fits {g : Foot} {s0 : State} (s : State) (v : Word) (hle : (Foot.of [0x50, 0x68, 0x78, 0x79] [.saf, .lanes, .sec]).le g = true) (h0 : s0.Fits g s) : s0.Fits g (State.lbCtrl s v) := by
  refine fits_app hle ?_ h0
  unfold State.lbCtrl
  repeat' first
    | (extract_lets +onlyGivenNames x
       first
       | (refine fits_cut (p := State.Fits (Foot.of [0x50, 0x68, 0x78, 0x79] [.saf, .lanes, .sec]) s x) ?_ ?_; rotate_left; intro hx; clear_value x; rotate_left; subst x)
       | (refine part_cut (α := type_of% x) (by constructor) ?_; subst x)
       | clear_value x
       | subst x)
    | ((with_reducible refine side_ok ?_); exact rfl)
    | with_reducible assumption
    | ((with_reducible refine keep_goal ?_); exact keep_refl)
    | with_reducible exact fits_refl _ _
    | with_reducible apply put_fits
    | with_reducible apply clearStart_fits
    | with_reducible apply lbRefuse_fits
    | split

theorem bistResult_fits {g : Foot} {s0 : State} (s : State) (part : Nat) (result : Nat) (exec_ : Nat) (hle : (Foot.of [0x70, 0x71] [.evr, .sec]).le g = true) (h0 : s0.Fits g s) : s0.Fits g (State.bistResult s part result exec_) := by
  refine fits_app hle ?_ h0
  unfold State.bistResult
  repeat' first
    | (extract_lets +onlyGivenNames x
       first
       | (refine fits_cut (p := State.Fits (Foot.of [0x70, 0x71] [.evr, .sec]) s x) ?_ ?_; rotate_left; intro hx; clear_value x; rotate_left; subst x)
       | (refine part_cut (α := type_of% x) (by constructor) ?_; subst x)
       | clear_value x
       | subst x)
    | ((with_reducible refine side_ok ?_); exact rfl)
    | with_reducible assumption
    | ((with_reducible refine keep_goal ?_); exact keep_refl)
    | with_reducible exact fits_refl _ _
    | with_reducible apply event_fits
    | with_reducible apply withSec_fits
    | with_reducible apply withSec_fits
    | split

theorem lbFinish_fits {g : Foot} {s0 : State} (s : State) (result : Nat) (hle : (Foot.free).le g = true) (h0 : s0.Fits g s) : s0.Fits g (State.lbFinish s result) := by
  refine fits_app hle ?_ h0
  unfold State.lbFinish
  repeat' first
    | (extract_lets +onlyGivenNames x
       first
       | (refine fits_cut (p := State.Fits (Foot.free) s x) ?_ ?_; rotate_left; intro hx; clear_value x; rotate_left; subst x)
       | (refine part_cut (α := type_of% x) (by constructor) ?_; subst x)
       | clear_value x
       | subst x)
    | ((with_reducible refine side_ok ?_); exact rfl)
    | with_reducible assumption
    | ((with_reducible refine keep_goal ?_); exact keep_refl)
    | with_reducible exact fits_refl _ _
    | with_reducible apply put_fits
    | with_reducible apply evt_fits
    | with_reducible apply bistResult_fits
    | with_reducible apply warmReset_fits
    | split

theorem softRepair_fits {g : Foot} {s0 : State} (s : State) (e : Nat) (hle : (Foot.of [0x79] [.fresh]).le g = true) (h0 : s0.Fits g s) : s0.Fits g (State.softRepair s e).2 := by
  refine fits_app hle ?_ h0
  unfold State.softRepair
  repeat' first
    | (extract_lets +onlyGivenNames x
       first
       | (refine fits_cut (p := State.Fits (Foot.of [0x79] [.fresh]) s x) ?_ ?_; rotate_left; intro hx; clear_value x; rotate_left; subst x)
       | (refine part_cut (α := type_of% x) (by constructor) ?_; subst x)
       | clear_value x
       | subst x)
    | ((with_reducible refine side_ok ?_); exact rfl)
    | with_reducible assumption
    | ((with_reducible refine keep_goal ?_); exact keep_refl)
    | with_reducible exact fits_refl _ _
    | with_reducible apply put_fits
    | with_reducible apply evt_fits
    | with_reducible refine free_fits_eq (by assumption) ?_ ?_
    | with_reducible apply free_fits
    | split
    | with_reducible refine fits_snd (by assumption) ?_
    | with_reducible refine fits_thd (by assumption) ?_
    | dsimp only

theorem softRepair_fits_eq {g : Foot} {s0 : State} {s : State} {e : Nat} {t : State} {r0 : Bool} (h : (State.softRepair s e) = (r0, t)) (hle : (Foot.of [0x79] [.fresh]).le g = true) (h0 : s0.Fits g s) : s0.Fits g t := by
  have k := softRepair_fits s e hle h0
  rw [h] at k
  exact k

theorem repairAll_fits {g : Foot} {s0 : State} (s : State) (fails : List Nat) (hle : (Foot.of [0x79] [.fresh]).le g = true) (h0 : s0.Fits g s) : s0.Fits g (State.repairAll s fails).2 := by
  refine fits_app hle ?_ h0
  unfold State.repairAll
  repeat' first
    | (extract_lets +onlyGivenNames x
       first
       | (refine fits_cut (p := State.Fits (Foot.of [0x79] [.fresh]) s x) ?_ ?_; rotate_left; intro hx; clear_value x; rotate_left; subst x)
       | (refine part_cut (α := type_of% x) (by constructor) ?_; subst x)
       | clear_value x
       | subst x)
    | ((with_reducible refine side_ok ?_); exact rfl)
    | with_reducible assumption
    | ((with_reducible refine keep_goal ?_); exact keep_refl)
    | with_reducible exact fits_refl _ _
    | with_reducible refine fits_foldl _ _ (fun x hx u hu => ?_) ?_
    | with_reducible refine fits_foldl_snd _ _ (fun x hx b u hu => ?_) ?_
    | with_reducible refine softRepair_fits_eq (by assumption) ?_ ?_
    | with_reducible apply softRepair_fits
    | split
    | with_reducible refine fits_snd (by assumption) ?_
    | with_reducible refine fits_thd (by assumption) ?_
    | dsimp only

theorem repairAll_fits_eq {g : Foot} {s0 : State} {s : State} {fails : List Nat} {t : State} {r0 : List Nat} (h : (State.repairAll s fails) = (r0, t)) (hle : (Foot.of [0x79] [.fresh]).le g = true) (h0 : s0.Fits g s) : s0.Fits g t := by
  have k := repairAll_fits s fails hle h0
  rw [h] at k
  exact k

theorem memResult_fits {g : Foot} {s0 : State} (s : State) (fails : List Nat) (hle : (Foot.of [0x79] [.fresh]).le g = true) (h0 : s0.Fits g s) : s0.Fits g (State.memResult s fails) := by
  refine fits_app hle ?_ h0
  unfold State.memResult
  repeat' first
    | (extract_lets +onlyGivenNames x
       first
       | (refine fits_cut (p := State.Fits (Foot.of [0x79] [.fresh]) s x) ?_ ?_; rotate_left; intro hx; clear_value x; rotate_left; subst x)
       | (refine part_cut (α := type_of% x) (by constructor) ?_; subst x)
       | clear_value x
       | subst x)
    | ((with_reducible refine side_ok ?_); exact rfl)
    | with_reducible assumption
    | ((with_reducible refine keep_goal ?_); exact keep_refl)
    | with_reducible exact fits_refl _ _
    | with_reducible apply put_fits
    | with_reducible apply evt_fits
    | with_reducible refine repairAll_fits_eq (by assumption) ?_ ?_
    | with_reducible apply repairAll_fits
    | split
    | with_reducible refine fits_snd (by assumption) ?_
    | with_reducible refine fits_thd (by assumption) ?_
    | dsimp only

theorem mbCtrl_fits {g : Foot} {s0 : State} (s : State) (v : Word) (hle : (Foot.of [0x50, 0x68, 0x78, 0x79] [.saf, .lanes, .sec]).le g = true) (h0 : s0.Fits g s) : s0.Fits g (State.mbCtrl s v) := by
  refine fits_app hle ?_ h0
  unfold State.mbCtrl
  repeat' first
    | (extract_lets +onlyGivenNames x
       first
       | (refine fits_cut (p := State.Fits (Foot.of [0x50, 0x68, 0x78, 0x79] [.saf, .lanes, .sec]) s x) ?_ ?_; rotate_left; intro hx; clear_value x; rotate_left; subst x)
       | (refine part_cut (α := type_of% x) (by constructor) ?_; subst x)
       | clear_value x
       | subst x)
    | ((with_reducible refine side_ok ?_); exact rfl)
    | with_reducible assumption
    | ((with_reducible refine keep_goal ?_); exact keep_refl)
    | with_reducible exact fits_refl _ _
    | with_reducible apply put_fits
    | with_reducible apply clearStart_fits
    | with_reducible apply withSec_fits
    | with_reducible apply withSec_fits
    | split

theorem clearSecrets_fits {g : Foot} {s0 : State} (s : State) (hle : (Foot.of [] [.mem, .pwr, .sec]).le g = true) (h0 : s0.Fits g s) : s0.Fits g (State.clearSecrets s) := by
  refine fits_app hle ?_ h0
  unfold State.clearSecrets
  repeat' first
    | (extract_lets +onlyGivenNames x
       first
       | (refine fits_cut (p := State.Fits (Foot.of [] [.mem, .pwr, .sec]) s x) ?_ ?_; rotate_left; intro hx; clear_value x; rotate_left; subst x)
       | (refine part_cut (α := type_of% x) (by constructor) ?_; subst x)
       | clear_value x
       | subst x)
    | ((with_reducible refine side_ok ?_); exact rfl)
    | with_reducible assumption
    | ((with_reducible refine keep_goal ?_); exact keep_refl)
    | with_reducible exact fits_refl _ _
    | with_reducible apply withMem_fits
    | with_reducible apply withPwr_fits
    | with_reducible apply withSec_fits
    | with_reducible apply withMem_fits
    | with_reducible apply withPwr_fits
    | with_reducible apply withSec_fits
    | exact fun h => tabWf_filter _ h
    | split

theorem clearOk_fits {g : Foot} {s0 : State} (s : State) (hle : (Foot.of [0x68, 0x70, 0x71, 0x78] [.evr, .saf, .sec]).le g = true) (h0 : s0.Fits g s) : s0.Fits g (State.clearOk s) := by
  refine fits_app hle ?_ h0
  unfold State.clearOk
  repeat' first
    | (extract_lets +onlyGivenNames x
       first
       | (refine fits_cut (p := State.Fits (Foot.of [0x68, 0x70, 0x71, 0x78] [.evr, .saf, .sec]) s x) ?_ ?_; rotate_left; intro hx; clear_value x; rotate_left; subst x)
       | (refine part_cut (α := type_of% x) (by constructor) ?_; subst x)
       | clear_value x
       | subst x)
    | ((with_reducible refine side_ok ?_); exact rfl)
    | with_reducible assumption
    | ((with_reducible refine keep_goal ?_); exact keep_refl)
    | with_reducible exact fits_refl _ _
    | with_reducible apply put_fits
    | with_reducible apply settle_fits
    | with_reducible apply tapOpen_fits
    | with_reducible apply withSaf_fits
    | with_reducible apply withSec_fits
    | with_reducible apply withSaf_fits
    | with_reducible apply withSec_fits
    | split

theorem clearBad_fits {g : Foot} {s0 : State} (s : State) (hle : (Foot.of [0x00, 0x40, 0x50, 0x68, 0x70, 0x71, 0x78, 0x79] [.mem, .flt, .evr, .saf, .lanes, .fresh]).le g = true) (h0 : s0.Fits g s) : s0.Fits g (State.clearBad s) := by
  refine fits_app hle ?_ h0
  unfold State.clearBad
  repeat' first
    | (extract_lets +onlyGivenNames x
       first
       | (refine fits_cut (p := State.Fits (Foot.of [0x00, 0x40, 0x50, 0x68, 0x70, 0x71, 0x78, 0x79] [.mem, .flt, .evr, .saf, .lanes, .fresh]) s x) ?_ ?_; rotate_left; intro hx; clear_value x; rotate_left; subst x)
       | (refine part_cut (α := type_of% x) (by constructor) ?_; subst x)
       | clear_value x
       | subst x)
    | ((with_reducible refine side_ok ?_); exact rfl)
    | with_reducible assumption
    | ((with_reducible refine keep_goal ?_); exact keep_refl)
    | with_reducible exact fits_refl _ _
    | with_reducible apply put_fits
    | with_reducible apply evt_fits
    | with_reducible apply setByte_fits
    | with_reducible refine free_fits_eq (by assumption) ?_ ?_
    | with_reducible apply free_fits
    | with_reducible apply lbRefuse_fits
    | with_reducible apply raise_fits
    | ((with_reducible refine side_ok ?_); exact tl_unit rfl)
    | ((with_reducible refine side_ok ?_); exact be_unit rfl)
    | ((with_reducible refine side_ok ?_); exact lay_unit rfl)
    | ((with_reducible refine side_ok ?_); exact crc_unit rfl)
    | ((with_reducible refine side_ok ?_); exact lnk_unit rfl)
    | split
    | with_reducible refine fits_snd (by assumption) ?_
    | with_reducible refine fits_thd (by assumption) ?_
    | dsimp only

end Sys2Proof.Laws
end

