-- ==== Sys2Proof/Laws/UpdateFits.lean ====
section
/-! SUPPORT. Footprints of the operations of Machine/Update.lean: one lemma for each, which says what it may touch and that it keeps what every command keeps. -/

set_option linter.unusedTactic false
set_option linter.unreachableTactic false

namespace Sys2Proof.Laws

open Sys2Proof.Machine

theorem modSlot_fits {g : Foot} {s0 : State} (s : State) (n : Nat) (f : Slot → Slot) (hle : (Foot.of [] [.upd]).le g = true) (h0 : s0.Fits g s) : s0.Fits g (State.modSlot s n f) := by
  refine fits_app hle ?_ h0
  unfold State.modSlot
  repeat' first
    | (extract_lets +onlyGivenNames x
       first
       | (refine fits_cut (p := State.Fits (Foot.of [] [.upd]) s x) ?_ ?_; rotate_left; intro hx; clear_value x; rotate_left; subst x)
       | (refine part_cut (α := type_of% x) (by constructor) ?_; subst x)
       | clear_value x
       | subst x)
    | ((with_reducible refine side_ok ?_); exact rfl)
    | with_reducible assumption
    | ((with_reducible refine keep_goal ?_); exact keep_refl)
    | ((with_reducible refine keep_ok ?_); intro h; simpa [Saf.shaped, Quartz.shaped, Cmd.shaped, Glare.shaped, Gov.shaped, Cal.shaped, Flx.shaped, Fus.shaped, Upd.shaped] using h)
    | with_reducible exact fits_refl _ _
    | with_reducible apply withUpd_fits
    | with_reducible apply withUpd_fits
    | split

theorem showMain_fits {g : Foot} {s0 : State} (s : State) (n : Nat) (hle : (Foot.of [0x80] []).le g = true) (h0 : s0.Fits g s) : s0.Fits g (State.showMain s n) := by
  refine fits_app hle ?_ h0
  unfold State.showMain
  repeat' first
    | (extract_lets +onlyGivenNames x
       first
       | (refine fits_cut (p := State.Fits (Foot.of [0x80] []) s x) ?_ ?_; rotate_left; intro hx; clear_value x; rotate_left; subst x)
       | (refine part_cut (α := type_of% x) (by constructor) ?_; subst x)
       | clear_value x
       | subst x)
    | ((with_reducible refine side_ok ?_); exact rfl)
    | with_reducible assumption
    | ((with_reducible refine keep_goal ?_); exact keep_refl)
    | with_reducible exact fits_refl _ _
    | with_reducible apply put_fits
    | split

theorem showCal_fits {g : Foot} {s0 : State} (s : State) (n : Nat) (hle : (Foot.of [0x80] []).le g = true) (h0 : s0.Fits g s) : s0.Fits g (State.showCal s n) := by
  refine fits_app hle ?_ h0
  unfold State.showCal
  repeat' first
    | (extract_lets +onlyGivenNames x
       first
       | (refine fits_cut (p := State.Fits (Foot.of [0x80] []) s x) ?_ ?_; rotate_left; intro hx; clear_value x; rotate_left; subst x)
       | (refine part_cut (α := type_of% x) (by constructor) ?_; subst x)
       | clear_value x
       | subst x)
    | ((with_reducible refine side_ok ?_); exact rfl)
    | with_reducible assumption
    | ((with_reducible refine keep_goal ?_); exact keep_refl)
    | with_reducible exact fits_refl _ _
    | with_reducible apply put_fits
    | split

theorem showGranite_fits {g : Foot} {s0 : State} (s : State) (n : Nat) (hle : (Foot.of [0x40] []).le g = true) (h0 : s0.Fits g s) : s0.Fits g (State.showGranite s n) := by
  refine fits_app hle ?_ h0
  unfold State.showGranite
  repeat' first
    | (extract_lets +onlyGivenNames x
       first
       | (refine fits_cut (p := State.Fits (Foot.of [0x40] []) s x) ?_ ?_; rotate_left; intro hx; clear_value x; rotate_left; subst x)
       | (refine part_cut (α := type_of% x) (by constructor) ?_; subst x)
       | clear_value x
       | subst x)
    | ((with_reducible refine side_ok ?_); exact rfl)
    | with_reducible assumption
    | ((with_reducible refine keep_goal ?_); exact keep_refl)
    | with_reducible exact fits_refl _ _
    | with_reducible apply put_fits
    | ((with_reducible refine side_ok ?_); split <;> exact rfl)
    | split

theorem showSlot_fits {g : Foot} {s0 : State} (s : State) (n : Nat) (hle : (Foot.of [0x40, 0x80] []).le g = true) (h0 : s0.Fits g s) : s0.Fits g (State.showSlot s n) := by
  refine fits_app hle ?_ h0
  unfold State.showSlot
  repeat' first
    | (extract_lets +onlyGivenNames x
       first
       | (refine fits_cut (p := State.Fits (Foot.of [0x40, 0x80] []) s x) ?_ ?_; rotate_left; intro hx; clear_value x; rotate_left; subst x)
       | (refine part_cut (α := type_of% x) (by constructor) ?_; subst x)
       | clear_value x
       | subst x)
    | ((with_reducible refine side_ok ?_); exact rfl)
    | with_reducible assumption
    | ((with_reducible refine keep_goal ?_); exact keep_refl)
    | with_reducible exact fits_refl _ _
    | with_reducible apply showCal_fits
    | with_reducible apply showGranite_fits
    | with_reducible apply showMain_fits
    | split

theorem plainSlotTo_fits {g : Foot} {s0 : State} (s : State) (n : Nat) (st : Nat) (rej : Nat) (hle : (Foot.of [0x40, 0x70, 0x71, 0x80] [.evr, .upd]).le g = true) (h0 : s0.Fits g s) : s0.Fits g (State.plainSlotTo s n st rej) := by
  refine fits_app hle ?_ h0
  unfold State.plainSlotTo
  repeat' first
    | (extract_lets +onlyGivenNames x
       first
       | (refine fits_cut (p := State.Fits (Foot.of [0x40, 0x70, 0x71, 0x80] [.evr, .upd]) s x) ?_ ?_; rotate_left; intro hx; clear_value x; rotate_left; subst x)
       | (refine part_cut (α := type_of% x) (by constructor) ?_; subst x)
       | clear_value x
       | subst x)
    | ((with_reducible refine side_ok ?_); exact rfl)
    | with_reducible assumption
    | ((with_reducible refine keep_goal ?_); exact keep_refl)
    | with_reducible exact fits_refl _ _
    | with_reducible apply event_fits
    | with_reducible apply modSlot_fits
    | with_reducible apply showSlot_fits
    | split

theorem graniteSlotTo_fits {g : Foot} {s0 : State} (s : State) (n : Nat) (st : Nat) (rej : Nat) (hle : (Foot.of [0x40, 0x70, 0x71, 0x80] [.evr, .gov]).le g = true) (h0 : s0.Fits g s) : s0.Fits g (State.graniteSlotTo s n st rej) := by
  refine fits_app hle ?_ h0
  unfold State.graniteSlotTo
  repeat' first
    | (extract_lets +onlyGivenNames x
       first
       | (refine fits_cut (p := State.Fits (Foot.of [0x40, 0x70, 0x71, 0x80] [.evr, .gov]) s x) ?_ ?_; rotate_left; intro hx; clear_value x; rotate_left; subst x)
       | (refine part_cut (α := type_of% x) (by constructor) ?_; subst x)
       | clear_value x
       | subst x)
    | ((with_reducible refine side_ok ?_); exact rfl)
    | with_reducible assumption
    | ((with_reducible refine keep_goal ?_); exact keep_refl)
    | ((with_reducible refine keep_ok ?_); intro h; simpa [Saf.shaped, Quartz.shaped, Cmd.shaped, Glare.shaped, Gov.shaped, Cal.shaped, Flx.shaped, Fus.shaped, Upd.shaped] using h)
    | with_reducible exact fits_refl _ _
    | with_reducible apply put_fits
    | with_reducible apply event_fits
    | with_reducible apply showSlot_fits
    | with_reducible apply withGov_fits
    | with_reducible apply withGov_fits
    | split

theorem toSlot_fits {g : Foot} {s0 : State} (s : State) (n : Nat) (st : Nat) (rej : Nat) (hle : (Foot.of [0x40, 0x70, 0x71, 0x80] [.evr, .gov, .upd]).le g = true) (h0 : s0.Fits g s) : s0.Fits g (State.toSlot s n st rej) := by
  refine fits_app hle ?_ h0
  unfold State.toSlot
  repeat' first
    | (extract_lets +onlyGivenNames x
       first
       | (refine fits_cut (p := State.Fits (Foot.of [0x40, 0x70, 0x71, 0x80] [.evr, .gov, .upd]) s x) ?_ ?_; rotate_left; intro hx; clear_value x; rotate_left; subst x)
       | (refine part_cut (α := type_of% x) (by constructor) ?_; subst x)
       | clear_value x
       | subst x)
    | ((with_reducible refine side_ok ?_); exact rfl)
    | with_reducible assumption
    | ((with_reducible refine keep_goal ?_); exact keep_refl)
    | with_reducible exact fits_refl _ _
    | with_reducible apply evt_fits
    | with_reducible apply graniteSlotTo_fits
    | with_reducible apply plainSlotTo_fits
    | split

theorem eraseSector_fits {g : Foot} {s0 : State} (s : State) (n : Nat) (k : Nat) (hle : (Foot.of [] [.mem, .upd]).le g = true) (h0 : s0.Fits g s) : s0.Fits g (State.eraseSector s n k) := by
  refine fits_app hle ?_ h0
  unfold State.eraseSector
  repeat' first
    | (extract_lets +onlyGivenNames x
       first
       | (refine fits_cut (p := State.Fits (Foot.of [] [.mem, .upd]) s x) ?_ ?_; rotate_left; intro hx; clear_value x; rotate_left; subst x)
       | (refine part_cut (α := type_of% x) (by constructor) ?_; subst x)
       | clear_value x
       | subst x)
    | ((with_reducible refine side_ok ?_); exact rfl)
    | with_reducible assumption
    | ((with_reducible refine keep_goal ?_); exact keep_refl)
    | with_reducible exact fits_refl _ _
    | with_reducible apply modSlot_fits
    | with_reducible apply withMem_fits
    | with_reducible apply withMem_fits
    | exact fun h => tabWf_filter _ h
    | split

theorem writePage_fits {g : Foot} {s0 : State} (s : State) (n : Nat) (ofs : Nat) (data : List Byte) (hle : (Foot.of [0x40, 0x80] [.mem, .upd]).le g = true) (h0 : s0.Fits g s) : s0.Fits g (State.writePage s n ofs data) := by
  refine fits_app hle ?_ h0
  unfold State.writePage
  repeat' first
    | (extract_lets +onlyGivenNames x
       first
       | (refine fits_cut (p := State.Fits (Foot.of [0x40, 0x80] [.mem, .upd]) s x) ?_ ?_; rotate_left; intro hx; clear_value x; rotate_left; subst x)
       | (refine part_cut (α := type_of% x) (by constructor) ?_; subst x)
       | clear_value x
       | subst x)
    | ((with_reducible refine side_ok ?_); exact rfl)
    | with_reducible assumption
    | ((with_reducible refine keep_goal ?_); exact keep_refl)
    | with_reducible exact fits_refl _ _
    | with_reducible apply evt_fits
    | with_reducible apply incSat_fits
    | with_reducible apply setBytes_fits
    | with_reducible apply modSlot_fits
    | with_reducible apply showSlot_fits
    | split

theorem writeBlock_fits {g : Foot} {s0 : State} (s : State) (n : Nat) (ofs : Nat) (body : List Byte) (hle : (Foot.of [0x40, 0x80] [.mem, .upd]).le g = true) (h0 : s0.Fits g s) : s0.Fits g (State.writeBlock s n ofs body) := by
  refine fits_app hle ?_ h0
  unfold State.writeBlock
  repeat' first
    | (extract_lets +onlyGivenNames x
       first
       | (refine fits_cut (p := State.Fits (Foot.of [0x40, 0x80] [.mem, .upd]) s x) ?_ ?_; rotate_left; intro hx; clear_value x; rotate_left; subst x)
       | (refine part_cut (α := type_of% x) (by constructor) ?_; subst x)
       | clear_value x
       | subst x)
    | ((with_reducible refine side_ok ?_); exact rfl)
    | with_reducible assumption
    | ((with_reducible refine keep_goal ?_); exact keep_refl)
    | with_reducible exact fits_refl _ _
    | with_reducible refine fits_foldl _ _ (fun x hx u hu => ?_) ?_
    | with_reducible apply incSat_fits
    | with_reducible apply eraseSector_fits
    | with_reducible apply writePage_fits
    | split

theorem updBlock_fits {g : Foot} {s0 : State} (s : State) (p : Packet) (hle : (Foot.of [0x10, 0x40, 0x70, 0x71, 0x80] [.mem, .evr, .cmd, .gov, .upd]).le g = true) (h0 : s0.Fits g s) : s0.Fits g (State.updBlock s p) := by
  refine fits_app hle ?_ h0
  unfold State.updBlock
  repeat' first
    | (extract_lets +onlyGivenNames x
       first
       | (refine fits_cut (p := State.Fits (Foot.of [0x10, 0x40, 0x70, 0x71, 0x80] [.mem, .evr, .cmd, .gov, .upd]) s x) ?_ ?_; rotate_left; intro hx; clear_value x; rotate_left; subst x)
       | (refine part_cut (α := type_of% x) (by constructor) ?_; subst x)
       | clear_value x
       | subst x)
    | ((with_reducible refine side_ok ?_); exact rfl)
    | with_reducible assumption
    | ((with_reducible refine keep_goal ?_); exact keep_refl)
    | with_reducible exact fits_refl _ _
    | with_reducible apply evt_fits
    | with_reducible apply doneHead_fits
    | with_reducible apply modSlot_fits
    | with_reducible apply toSlot_fits
    | with_reducible apply writeBlock_fits
    | split

theorem takeUpdate_fits {g : Foot} {s0 : State} (s : State) (op : Nat) (parity : Bool) (f : Packet → State) (hf : ∀ p, s0.Fits g (f p)) (hle : (Foot.of [0x00, 0x10, 0x40, 0x50, 0x68, 0x70, 0x71] [.flt, .evr, .saf, .lnkA, .lnkB, .cmd, .glare, .lanes, .fresh]).le g = true) (h0 : s0.Fits g s) : s0.Fits g (State.takeUpdate s op parity f) := by
  unfold State.takeUpdate
  repeat' first
    | (extract_lets +onlyGivenNames x
       first
       | (refine fits_cut (p := State.Fits g s0 x) ?_ ?_; rotate_left; intro hx; clear_value x; rotate_left; subst x)
       | (refine part_cut (α := type_of% x) (by constructor) ?_; subst x)
       | clear_value x
       | subst x)
    | with_reducible assumption
    | ((with_reducible refine keep_goal ?_); exact keep_refl)
    | ((with_reducible refine side_ok ?_); first | exact unit_via rfl hle | exact part_via rfl hle | exact le_via rfl hle)
    | with_reducible exact fits_refl _ _
    | with_reducible exact hf _
    | with_reducible apply replay_fits
    | split

theorem slotSig_fits {g : Foot} {s0 : State} (s : State) (n : Nat) (cls : Nat) (verdict : Bool) (total : Nat) (hle : (Foot.of [0x78] []).le g = true) (h0 : s0.Fits g s) : s0.Fits g (State.slotSig s n cls verdict total).2 := by
  refine fits_app hle ?_ h0
  unfold State.slotSig
  repeat' first
    | (extract_lets +onlyGivenNames x
       first
       | (refine fits_cut (p := State.Fits (Foot.of [0x78] []) s x) ?_ ?_; rotate_left; intro hx; clear_value x; rotate_left; subst x)
       | (refine part_cut (α := type_of% x) (by constructor) ?_; subst x)
       | clear_value x
       | subst x)
    | ((with_reducible refine side_ok ?_); exact rfl)
    | with_reducible assumption
    | ((with_reducible refine keep_goal ?_); exact keep_refl)
    | with_reducible exact fits_refl _ _
    | with_reducible apply evt_fits
    | with_reducible refine sigCheck_fits_eq (by assumption) ?_ ?_
    | with_reducible apply sigCheck_fits
    | split
    | with_reducible refine fits_snd (by assumption) ?_
    | with_reducible refine fits_thd (by assumption) ?_
    | dsimp only

theorem slotSig_fits_eq {g : Foot} {s0 : State} {s : State} {n : Nat} {cls : Nat} {verdict : Bool} {total : Nat} {t : State} {r0 : Bool} (h : (State.slotSig s n cls verdict total) = (r0, t)) (hle : (Foot.of [0x78] []).le g = true) (h0 : s0.Fits g s) : s0.Fits g t := by
  have k := slotSig_fits s n cls verdict total hle h0
  rw [h] at k
  exact k

theorem checkMain_fits {g : Foot} {s0 : State} (s : State) (n : Nat) (total : Nat) (sigOk : Bool) (hle : (Foot.of [0x78] []).le g = true) (h0 : s0.Fits g s) : s0.Fits g (State.checkMain s n total sigOk).2 := by
  refine fits_app hle ?_ h0
  unfold State.checkMain
  repeat' first
    | (extract_lets +onlyGivenNames x
       first
       | (refine fits_cut (p := State.Fits (Foot.of [0x78] []) s x) ?_ ?_; rotate_left; intro hx; clear_value x; rotate_left; subst x)
       | (refine part_cut (α := type_of% x) (by constructor) ?_; subst x)
       | clear_value x
       | subst x)
    | ((with_reducible refine side_ok ?_); exact rfl)
    | with_reducible assumption
    | ((with_reducible refine keep_goal ?_); exact keep_refl)
    | with_reducible exact fits_refl _ _
    | with_reducible refine slotSig_fits_eq (by assumption) ?_ ?_
    | with_reducible apply slotSig_fits
    | split
    | with_reducible refine fits_snd (by assumption) ?_
    | with_reducible refine fits_thd (by assumption) ?_
    | dsimp only

theorem checkMain_fits_eq {g : Foot} {s0 : State} {s : State} {n : Nat} {total : Nat} {sigOk : Bool} {t : State} {r0 : Nat} (h : (State.checkMain s n total sigOk) = (r0, t)) (hle : (Foot.of [0x78] []).le g = true) (h0 : s0.Fits g s) : s0.Fits g t := by
  have k := checkMain_fits s n total sigOk hle h0
  rw [h] at k
  exact k

theorem checkGranite_fits {g : Foot} {s0 : State} (s : State) (n : Nat) (sigOk : Bool) (hle : (Foot.of [0x78] []).le g = true) (h0 : s0.Fits g s) : s0.Fits g (State.checkGranite s n sigOk).2 := by
  refine fits_app hle ?_ h0
  unfold State.checkGranite
  repeat' first
    | (extract_lets +onlyGivenNames x
       first
       | (refine fits_cut (p := State.Fits (Foot.of [0x78] []) s x) ?_ ?_; rotate_left; intro hx; clear_value x; rotate_left; subst x)
       | (refine part_cut (α := type_of% x) (by constructor) ?_; subst x)
       | clear_value x
       | subst x)
    | ((with_reducible refine side_ok ?_); exact rfl)
    | with_reducible assumption
    | ((with_reducible refine keep_goal ?_); exact keep_refl)
    | with_reducible exact fits_refl _ _
    | with_reducible refine slotSig_fits_eq (by assumption) ?_ ?_
    | with_reducible apply slotSig_fits
    | split
    | with_reducible refine fits_snd (by assumption) ?_
    | with_reducible refine fits_thd (by assumption) ?_
    | dsimp only

theorem checkGranite_fits_eq {g : Foot} {s0 : State} {s : State} {n : Nat} {sigOk : Bool} {t : State} {r0 : Nat} (h : (State.checkGranite s n sigOk) = (r0, t)) (hle : (Foot.of [0x78] []).le g = true) (h0 : s0.Fits g s) : s0.Fits g t := by
  have k := checkGranite_fits s n sigOk hle h0
  rw [h] at k
  exact k

theorem checkSlot_fits {g : Foot} {s0 : State} (s : State) (n : Nat) (total : Nat) (sigOk : Bool) (hle : (Foot.of [0x78] []).le g = true) (h0 : s0.Fits g s) : s0.Fits g (State.checkSlot s n total sigOk).2 := by
  refine fits_app hle ?_ h0
  unfold State.checkSlot
  repeat' first
    | (extract_lets +onlyGivenNames x
       first
       | (refine fits_cut (p := State.Fits (Foot.of [0x78] []) s x) ?_ ?_; rotate_left; intro hx; clear_value x; rotate_left; subst x)
       | (refine part_cut (α := type_of% x) (by constructor) ?_; subst x)
       | clear_value x
       | subst x)
    | ((with_reducible refine side_ok ?_); exact rfl)
    | with_reducible assumption
    | ((with_reducible refine keep_goal ?_); exact keep_refl)
    | with_reducible exact fits_refl _ _
    | with_reducible refine checkGranite_fits_eq (by assumption) ?_ ?_
    | with_reducible apply checkGranite_fits
    | with_reducible refine checkMain_fits_eq (by assumption) ?_ ?_
    | with_reducible apply checkMain_fits
    | split
    | with_reducible refine fits_snd (by assumption) ?_
    | with_reducible refine fits_thd (by assumption) ?_
    | dsimp only

theorem checkSlot_fits_eq {g : Foot} {s0 : State} {s : State} {n : Nat} {total : Nat} {sigOk : Bool} {t : State} {r0 : Nat} (h : (State.checkSlot s n total sigOk) = (r0, t)) (hle : (Foot.of [0x78] []).le g = true) (h0 : s0.Fits g s) : s0.Fits g t := by
  have k := checkSlot_fits s n total sigOk hle h0
  rw [h] at k
  exact k

theorem opIgnored_fits {g : Foot} {s0 : State} (s : State) (hle : (Foot.of [0x10, 0x80] [.cmd]).le g = true) (h0 : s0.Fits g s) : s0.Fits g (State.opIgnored s) := by
  refine fits_app hle ?_ h0
  unfold State.opIgnored
  repeat' first
    | (extract_lets +onlyGivenNames x
       first
       | (refine fits_cut (p := State.Fits (Foot.of [0x10, 0x80] [.cmd]) s x) ?_ ?_; rotate_left; intro hx; clear_value x; rotate_left; subst x)
       | (refine part_cut (α := type_of% x) (by constructor) ?_; subst x)
       | clear_value x
       | subst x)
    | ((with_reducible refine side_ok ?_); exact rfl)
    | with_reducible assumption
    | ((with_reducible refine keep_goal ?_); exact keep_refl)
    | with_reducible exact fits_refl _ _
    | with_reducible apply evt_fits
    | with_reducible apply doneHead_fits
    | split

theorem activate_fits {g : Foot} {s0 : State} (s : State) (n : Nat) (restart : Bool) (hle : (Foot.of [0x40, 0x70, 0x71, 0x80] [.evr, .gov, .upd]).le g = true) (h0 : s0.Fits g s) : s0.Fits g (State.activate s n restart) := by
  refine fits_app hle ?_ h0
  unfold State.activate
  repeat' first
    | (extract_lets +onlyGivenNames x
       first
       | (refine fits_cut (p := State.Fits (Foot.of [0x40, 0x70, 0x71, 0x80] [.evr, .gov, .upd]) s x) ?_ ?_; rotate_left; intro hx; clear_value x; rotate_left; subst x)
       | (refine part_cut (α := type_of% x) (by constructor) ?_; subst x)
       | clear_value x
       | subst x)
    | ((with_reducible refine side_ok ?_); exact rfl)
    | with_reducible assumption
    | ((with_reducible refine keep_goal ?_); exact keep_refl)
    | with_reducible exact fits_refl _ _
    | with_reducible apply toSlot_fits
    | with_reducible apply withUpd_fits
    | with_reducible apply withUpd_fits
    | split

theorem confirm_fits {g : Foot} {s0 : State} (s : State) (n : Nat) (hle : (Foot.of [0x02, 0x40, 0x70, 0x71, 0x7A, 0x80] [.mem, .evr, .gov, .fus, .upd]).le g = true) (h0 : s0.Fits g s) : s0.Fits g (State.confirm s n) := by
  refine fits_app hle ?_ h0
  unfold State.confirm
  repeat' first
    | (extract_lets +onlyGivenNames x
       first
       | (refine fits_cut (p := State.Fits (Foot.of [0x02, 0x40, 0x70, 0x71, 0x7A, 0x80] [.mem, .evr, .gov, .fus, .upd]) s x) ?_ ?_; rotate_left; intro hx; clear_value x; rotate_left; subst x)
       | (refine part_cut (α := type_of% x) (by constructor) ?_; subst x)
       | clear_value x
       | subst x)
    | ((with_reducible refine side_ok ?_); exact rfl)
    | with_reducible assumption
    | ((with_reducible refine keep_goal ?_); exact keep_refl)
    | with_reducible exact fits_refl _ _
    | with_reducible apply put_fits
    | with_reducible apply evt_fits
    | with_reducible apply clearAvoid_fits
    | with_reducible apply event_fits
    | with_reducible apply fuseWork_fits
    | with_reducible apply toSlot_fits
    | with_reducible apply withUpd_fits
    | with_reducible apply withUpd_fits
    | split

end Sys2Proof.Laws
end

