-- ==== Sys2Proof/Laws/BlocksFits.lean ====
section
/-! SUPPORT. Footprints of the operations of Machine/Blocks.lean: one lemma for each, which says what it may touch and that it keeps what every command keeps. -/

set_option linter.unusedTactic false
set_option linter.unreachableTactic false

namespace Sys2Proof.Laws

open Sys2Proof.Machine

/-- Block fields take their reset values; nothing bounds it. -/
theorem blockFields_fits {g : Foot} {s0 : State} (s : State) (pages : List Nat) (hle : Foot.free.le g = true) (h0 : s0.Fits g s) :
    s0.Fits g (s.blockFields pages) :=
  fits_app (t := s) hle (fits_free ⟨fun h => h, fun h => regsWf_of (resetBank_wf _ (regsWf_regs (s := s) h)) (resetBank_wf _ (regsWf_shadow (s := s) h))
    (resetBank_wf _ (regsWf_pend (s := s) h)), id, rfl, Nat.le_refl _, Nat.le_refl _, fun _ _ h => h⟩) h0

theorem blkLink_fits {g : Foot} {s0 : State} (s : State) (l : Nat) (hle : (Foot.of [0x08, 0x09] [.lnkA, .lnkB]).le g = true) (h0 : s0.Fits g s) : s0.Fits g (State.blkLink s l) := by
  refine fits_app hle ?_ h0
  unfold State.blkLink
  repeat' first
    | (extract_lets +onlyGivenNames x
       first
       | (refine fits_cut (p := State.Fits (Foot.of [0x08, 0x09] [.lnkA, .lnkB]) s x) ?_ ?_; rotate_left; intro hx; clear_value x; rotate_left; subst x)
       | (refine part_cut (α := type_of% x) (by constructor) ?_; subst x)
       | clear_value x
       | subst x)
    | ((with_reducible refine side_ok ?_); exact rfl)
    | with_reducible assumption
    | ((with_reducible refine keep_goal ?_); exact keep_refl)
    | with_reducible exact fits_refl _ _
    | with_reducible apply linkTo_fits
    | with_reducible apply modLink_fits
    | split

theorem blkCsf_fits {g : Foot} {s0 : State} (s : State) (hle : (Foot.of [0x0B] [.csf]).le g = true) (h0 : s0.Fits g s) : s0.Fits g (State.blkCsf s) := by
  refine fits_app hle ?_ h0
  unfold State.blkCsf
  repeat' first
    | (extract_lets +onlyGivenNames x
       first
       | (refine fits_cut (p := State.Fits (Foot.of [0x0B] [.csf]) s x) ?_ ?_; rotate_left; intro hx; clear_value x; rotate_left; subst x)
       | (refine part_cut (α := type_of% x) (by constructor) ?_; subst x)
       | clear_value x
       | subst x)
    | ((with_reducible refine side_ok ?_); exact rfl)
    | with_reducible assumption
    | ((with_reducible refine keep_goal ?_); exact keep_refl)
    | with_reducible exact fits_refl _ _
    | with_reducible apply put_fits
    | with_reducible apply withCsf_fits
    | with_reducible apply withCsf_fits
    | split

theorem blkSaf_fits {g : Foot} {s0 : State} (s : State) (hle : (Foot.of [0x50, 0x68] [.flt, .saf, .lanes]).le g = true) (h0 : s0.Fits g s) : s0.Fits g (State.blkSaf s) := by
  refine fits_app hle ?_ h0
  unfold State.blkSaf
  repeat' first
    | (extract_lets +onlyGivenNames x
       first
       | (refine fits_cut (p := State.Fits (Foot.of [0x50, 0x68] [.flt, .saf, .lanes]) s x) ?_ ?_; rotate_left; intro hx; clear_value x; rotate_left; subst x)
       | (refine part_cut (α := type_of% x) (by constructor) ?_; subst x)
       | clear_value x
       | subst x)
    | ((with_reducible refine side_ok ?_); exact rfl)
    | with_reducible assumption
    | ((with_reducible refine keep_goal ?_); exact keep_refl)
    | with_reducible exact fits_refl _ _
    | with_reducible apply sinInit_fits
    | with_reducible apply soutsOff_fits
    | split

theorem blkEngine_fits {g : Foot} {s0 : State} (s : State) (n : Nat) (hle : (Foot.of [0x30] [.glare]).le g = true) (h0 : s0.Fits g s) : s0.Fits g (State.blkEngine s n) := by
  refine fits_app hle ?_ h0
  unfold State.blkEngine
  repeat' first
    | (extract_lets +onlyGivenNames x
       first
       | (refine fits_cut (p := State.Fits (Foot.of [0x30] [.glare]) s x) ?_ ?_; rotate_left; intro hx; clear_value x; rotate_left; subst x)
       | (refine part_cut (α := type_of% x) (by constructor) ?_; subst x)
       | clear_value x
       | subst x)
    | ((with_reducible refine side_ok ?_); exact rfl)
    | with_reducible assumption
    | ((with_reducible refine keep_goal ?_); exact keep_refl)
    | with_reducible exact fits_refl _ _
    | with_reducible apply put_fits
    | with_reducible apply modEngine_fits
    | ((with_reducible refine side_ok ?_); exact be_unit rfl)
    | split

theorem blkCal_fits {g : Foot} {s0 : State} (s : State) (hle : (Foot.of [] [.cal]).le g = true) (h0 : s0.Fits g s) : s0.Fits g (State.blkCal s) := by
  refine fits_app hle ?_ h0
  unfold State.blkCal
  repeat' first
    | (extract_lets +onlyGivenNames x
       first
       | (refine fits_cut (p := State.Fits (Foot.of [] [.cal]) s x) ?_ ?_; rotate_left; intro hx; clear_value x; rotate_left; subst x)
       | (refine part_cut (α := type_of% x) (by constructor) ?_; subst x)
       | clear_value x
       | subst x)
    | ((with_reducible refine side_ok ?_); exact rfl)
    | with_reducible assumption
    | ((with_reducible refine keep_goal ?_); exact keep_refl)
    | with_reducible exact fits_refl _ _
    | with_reducible refine fits_foldl _ _ (fun x hx u hu => ?_) ?_
    | with_reducible apply modCal_fits
    | with_reducible apply withCal_fits
    | with_reducible apply withCal_fits
    | split

theorem blkFlx_fits {g : Foot} {s0 : State} (s : State) (hle : (Foot.of [] [.flx]).le g = true) (h0 : s0.Fits g s) : s0.Fits g (State.blkFlx s) := by
  refine fits_app hle ?_ h0
  unfold State.blkFlx
  repeat' first
    | (extract_lets +onlyGivenNames x
       first
       | (refine fits_cut (p := State.Fits (Foot.of [] [.flx]) s x) ?_ ?_; rotate_left; intro hx; clear_value x; rotate_left; subst x)
       | (refine part_cut (α := type_of% x) (by constructor) ?_; subst x)
       | clear_value x
       | subst x)
    | ((with_reducible refine side_ok ?_); exact rfl)
    | with_reducible assumption
    | ((with_reducible refine keep_goal ?_); exact keep_refl)
    | with_reducible exact fits_refl _ _
    | with_reducible refine fits_foldl _ _ (fun x hx u hu => ?_) ?_
    | with_reducible apply modFlx_fits
    | split

theorem blkLane_fits {g : Foot} {s0 : State} (s : State) (n : Nat) (hle : (Foot.of [0x00, 0x02, 0x18, 0x40, 0x50, 0x68, 0x70, 0x71] [.flt, .evr, .saf, .cmp, .lanes, .tln]).le g = true) (h0 : s0.Fits g s) : s0.Fits g (State.blkLane s n) := by
  refine fits_app hle ?_ h0
  unfold State.blkLane
  repeat' first
    | (extract_lets +onlyGivenNames x
       first
       | (refine fits_cut (p := State.Fits (Foot.of [0x00, 0x02, 0x18, 0x40, 0x50, 0x68, 0x70, 0x71] [.flt, .evr, .saf, .cmp, .lanes, .tln]) s x) ?_ ?_; rotate_left; intro hx; clear_value x; rotate_left; subst x)
       | (refine part_cut (α := type_of% x) (by constructor) ?_; subst x)
       | clear_value x
       | subst x)
    | ((with_reducible refine side_ok ?_); exact rfl)
    | with_reducible assumption
    | ((with_reducible refine keep_goal ?_); exact keep_refl)
    | with_reducible exact fits_refl _ _
    | with_reducible apply put_fits
    | with_reducible apply abortPacket_fits
    | with_reducible apply laneOff_fits
    | with_reducible apply laneWake_fits
    | with_reducible apply modLane_fits
    | ((with_reducible refine side_ok ?_); exact tl_unit rfl)
    | split

theorem blkSeg_fits {g : Foot} {s0 : State} (s : State) (hle : (Foot.of [0x60] [.seg]).le g = true) (h0 : s0.Fits g s) : s0.Fits g (State.blkSeg s) := by
  refine fits_app hle ?_ h0
  unfold State.blkSeg
  repeat' first
    | (extract_lets +onlyGivenNames x
       first
       | (refine fits_cut (p := State.Fits (Foot.of [0x60] [.seg]) s x) ?_ ?_; rotate_left; intro hx; clear_value x; rotate_left; subst x)
       | (refine part_cut (α := type_of% x) (by constructor) ?_; subst x)
       | clear_value x
       | subst x)
    | ((with_reducible refine side_ok ?_); exact rfl)
    | with_reducible assumption
    | ((with_reducible refine keep_goal ?_); exact keep_refl)
    | with_reducible exact fits_refl _ _
    | with_reducible refine fits_foldl _ _ (fun x hx u hu => ?_) ?_
    | with_reducible apply put_fits
    | with_reducible apply withSeg_fits
    | with_reducible apply withSeg_fits
    | split

theorem blkUnit_fits {g : Foot} {s0 : State} (s : State) (p : Nat) (hle : (Foot.of [0x00, 0x02, 0x08, 0x09, 0x0B, 0x18, 0x30, 0x40, 0x50, 0x60, 0x68, 0x70, 0x71] [.flt, .evr, .saf, .lnkA, .lnkB, .csf, .cmp, .glare, .lanes, .tln, .cal, .flx, .seg, .thm]).le g = true) (h0 : s0.Fits g s) : s0.Fits g (State.blkUnit s p) := by
  refine fits_app hle ?_ h0
  unfold State.blkUnit
  repeat' first
    | (extract_lets +onlyGivenNames x
       first
       | (refine fits_cut (p := State.Fits (Foot.of [0x00, 0x02, 0x08, 0x09, 0x0B, 0x18, 0x30, 0x40, 0x50, 0x60, 0x68, 0x70, 0x71] [.flt, .evr, .saf, .lnkA, .lnkB, .csf, .cmp, .glare, .lanes, .tln, .cal, .flx, .seg, .thm]) s x) ?_ ?_; rotate_left; intro hx; clear_value x; rotate_left; subst x)
       | (refine part_cut (α := type_of% x) (by constructor) ?_; subst x)
       | clear_value x
       | subst x)
    | ((with_reducible refine side_ok ?_); exact rfl)
    | with_reducible assumption
    | ((with_reducible refine keep_goal ?_); exact keep_refl)
    | with_reducible exact fits_refl _ _
    | with_reducible apply blkCal_fits
    | with_reducible apply blkCsf_fits
    | with_reducible apply blkEngine_fits
    | with_reducible apply blkFlx_fits
    | with_reducible apply blkLane_fits
    | with_reducible apply blkLink_fits
    | with_reducible apply blkSaf_fits
    | with_reducible apply blkSeg_fits
    | with_reducible apply withThm_fits
    | with_reducible apply withThm_fits
    | split

theorem blkField_fits {g : Foot} {s0 : State} (s : State) (p : Nat) (hle : (Foot.of [0x68] []).le g = true) (h0 : s0.Fits g s) : s0.Fits g (State.blkField s p) := by
  refine fits_app hle ?_ h0
  unfold State.blkField
  repeat' first
    | (extract_lets +onlyGivenNames x
       first
       | (refine fits_cut (p := State.Fits (Foot.of [0x68] []) s x) ?_ ?_; rotate_left; intro hx; clear_value x; rotate_left; subst x)
       | (refine part_cut (α := type_of% x) (by constructor) ?_; subst x)
       | clear_value x
       | subst x)
    | ((with_reducible refine side_ok ?_); exact rfl)
    | with_reducible assumption
    | ((with_reducible refine keep_goal ?_); exact keep_refl)
    | with_reducible exact fits_refl _ _
    | with_reducible apply put_fits
    | split

theorem blkInject_fits {g : Foot} {s0 : State} (s : State) (pages : List Nat) (hle : (Foot.of [0x70] []).le g = true) (h0 : s0.Fits g s) : s0.Fits g (State.blkInject s pages) := by
  refine fits_app hle ?_ h0
  unfold State.blkInject
  repeat' first
    | (extract_lets +onlyGivenNames x
       first
       | (refine fits_cut (p := State.Fits (Foot.of [0x70] []) s x) ?_ ?_; rotate_left; intro hx; clear_value x; rotate_left; subst x)
       | (refine part_cut (α := type_of% x) (by constructor) ?_; subst x)
       | clear_value x
       | subst x)
    | ((with_reducible refine side_ok ?_); exact rfl)
    | with_reducible assumption
    | ((with_reducible refine keep_goal ?_); exact keep_refl)
    | with_reducible exact fits_refl _ _
    | with_reducible apply put_fits
    | split

theorem blkWrite_fits {g : Foot} {s0 : State} (s : State) (p : Nat) (hle : (Foot.free).le g = true) (h0 : s0.Fits g s) : s0.Fits g (State.blkWrite s p) := by
  refine fits_app hle ?_ h0
  unfold State.blkWrite
  repeat' first
    | (extract_lets +onlyGivenNames x
       first
       | (refine fits_cut (p := State.Fits (Foot.free) s x) ?_ ?_; rotate_left; intro hx; clear_value x; rotate_left; subst x)
       | (refine part_cut (α := type_of% x) (by constructor) ?_; subst x)
       | clear_value x
       | subst x)
    | ((with_reducible refine side_ok ?_); exact rfl)
    | with_reducible assumption
    | ((with_reducible refine keep_goal ?_); exact keep_refl)
    | with_reducible exact fits_refl _ _
    | with_reducible refine fits_foldl _ _ (fun x hx u hu => ?_) ?_
    | with_reducible apply put_fits
    | with_reducible apply evt_fits
    | with_reducible apply blkDefer_fits
    | with_reducible apply blkField_fits
    | with_reducible apply blkInject_fits
    | with_reducible apply blkUnit_fits
    | with_reducible apply blockFields_fits
    | with_reducible apply settle_fits
    | with_reducible apply withRst_fits
    | with_reducible apply withRst_fits
    | split

theorem calResume_fits {g : Foot} {s0 : State} (s : State) (hle : (Foot.of [] [.cal]).le g = true) (h0 : s0.Fits g s) : s0.Fits g (State.calResume s) := by
  refine fits_app hle ?_ h0
  unfold State.calResume
  repeat' first
    | (extract_lets +onlyGivenNames x
       first
       | (refine fits_cut (p := State.Fits (Foot.of [] [.cal]) s x) ?_ ?_; rotate_left; intro hx; clear_value x; rotate_left; subst x)
       | (refine part_cut (α := type_of% x) (by constructor) ?_; subst x)
       | clear_value x
       | subst x)
    | ((with_reducible refine side_ok ?_); exact rfl)
    | with_reducible assumption
    | ((with_reducible refine keep_goal ?_); exact keep_refl)
    | with_reducible exact fits_refl _ _
    | with_reducible refine fits_foldl _ _ (fun x hx u hu => ?_) ?_
    | with_reducible apply calStartNow_fits
    | split

end Sys2Proof.Laws
end

