-- ==== Sys2Proof/Laws/CommitsFits.lean ====
section
/-! SUPPORT. Footprints of the operations of Machine/Commits.lean: one lemma for each, which says what it may touch and that it keeps what every command keeps. -/

set_option linter.unusedTactic false
set_option linter.unreachableTactic false

namespace Sys2Proof.Laws

open Sys2Proof.Machine

theorem noteBad_fits {g : Foot} {s0 : State} (s : State) (t : State) (p : Nat) (hle : (Foot.of [0x01, 0x18, 0x30, 0x50, 0x60, 0x68, 0x70, 0x71] []).le g = true) (h0 : s0.Fits g s) : s0.Fits g (State.noteBad s t p) := by
  refine fits_app hle ?_ h0
  unfold State.noteBad
  repeat' first
    | (extract_lets +onlyGivenNames x
       first
       | (refine fits_cut (p := State.Fits (Foot.of [0x01, 0x18, 0x30, 0x50, 0x60, 0x68, 0x70, 0x71] []) s x) ?_ ?_; rotate_left; intro hx; clear_value x; rotate_left; subst x)
       | (refine part_cut (α := type_of% x) (by constructor) ?_; subst x)
       | clear_value x
       | subst x)
    | ((with_reducible refine side_ok ?_); exact rfl)
    | with_reducible assumption
    | ((with_reducible refine keep_goal ?_); exact keep_refl)
    | with_reducible exact fits_refl _ _
    | with_reducible apply put_fits
    | with_reducible apply evt_fits
    | ((with_reducible refine side_ok ?_); exact lay_unit rfl)
    | split

theorem keepFatal_fits {g : Foot} {s0 : State} (s : State) (hle : (Foot.of [0x70] [.shadow]).le g = true) (h0 : s0.Fits g s) : s0.Fits g (State.keepFatal s) := by
  refine fits_app hle ?_ h0
  unfold State.keepFatal
  repeat' first
    | (extract_lets +onlyGivenNames x
       first
       | (refine fits_cut (p := State.Fits (Foot.of [0x70] [.shadow]) s x) ?_ ?_; rotate_left; intro hx; clear_value x; rotate_left; subst x)
       | (refine part_cut (α := type_of% x) (by constructor) ?_; subst x)
       | clear_value x
       | subst x)
    | ((with_reducible refine side_ok ?_); exact rfl)
    | with_reducible assumption
    | ((with_reducible refine keep_goal ?_); exact keep_refl)
    | with_reducible exact fits_refl _ _
    | with_reducible refine fits_foldl _ _ (fun x hx u hu => ?_) ?_
    | with_reducible apply put_fits
    | with_reducible apply evt_fits
    | with_reducible apply setShadow_fits
    | split

theorem landNow_fits {g : Foot} {s0 : State} (s : State) (p : Nat) (hle : (Foot.free).le g = true) (h0 : s0.Fits g s) : s0.Fits g (State.landNow s p) := by
  refine fits_app hle ?_ h0
  unfold State.landNow
  repeat' first
    | (extract_lets +onlyGivenNames x
       first
       | (refine fits_cut (p := State.Fits (Foot.free) s x) ?_ ?_; rotate_left; intro hx; clear_value x; rotate_left; subst x)
       | (refine part_cut (α := type_of% x) (by constructor) ?_; subst x)
       | clear_value x
       | subst x)
    | ((with_reducible refine side_ok ?_); exact rfl)
    | with_reducible assumption
    | ((with_reducible refine keep_goal ?_); exact keep_refl)
    | with_reducible exact fits_refl _ _
    | with_reducible apply apply_fits
    | with_reducible apply attest_fits
    | with_reducible apply calLoadCommit_fits
    | with_reducible apply keepFatal_fits
    | with_reducible apply landStopped_fits
    | with_reducible apply safCommit_fits
    | ((with_reducible refine side_ok ?_); exact tl_unit rfl)
    | ((with_reducible refine side_ok ?_); exact be_unit rfl)
    | ((with_reducible refine side_ok ?_); exact lay_unit rfl)
    | ((with_reducible refine side_ok ?_); exact crc_unit rfl)
    | ((with_reducible refine side_ok ?_); exact lnk_unit rfl)
    | ((with_reducible refine side_ok ?_); exact list_unit rfl (by assumption))
    | split

theorem acceptAll_fits {g : Foot} {s0 : State} (s : State) (p : Nat) (pages : List Nat) (hle : (Foot.free).le g = true) (h0 : s0.Fits g s) : s0.Fits g (State.acceptAll s p pages) := by
  refine fits_app hle ?_ h0
  unfold State.acceptAll
  repeat' first
    | (extract_lets +onlyGivenNames x
       first
       | (refine fits_cut (p := State.Fits (Foot.free) s x) ?_ ?_; rotate_left; intro hx; clear_value x; rotate_left; subst x)
       | (refine part_cut (α := type_of% x) (by constructor) ?_; subst x)
       | clear_value x
       | subst x)
    | ((with_reducible refine side_ok ?_); exact rfl)
    | with_reducible assumption
    | ((with_reducible refine keep_goal ?_); exact keep_refl)
    | with_reducible exact fits_refl _ _
    | with_reducible refine fits_foldl _ _ (fun x hx u hu => ?_) ?_
    | with_reducible apply put_fits
    | with_reducible apply inc_fits
    | with_reducible apply acceptPage_fits
    | with_reducible apply landNow_fits
    | with_reducible apply withCmp_fits
    | ((with_reducible refine side_ok ?_); exact lay_unit rfl)
    | with_reducible apply withCmp_fits
    | ((with_reducible refine side_ok ?_); exact list_unit rfl (by assumption))
    | split

theorem rejectAll_fits {g : Foot} {s0 : State} (s : State) (t : State) (p : Nat) (bad : List Nat) (hle : (Foot.free).le g = true) (h0 : s0.Fits g s) : s0.Fits g (State.rejectAll s t p bad) := by
  refine fits_app hle ?_ h0
  unfold State.rejectAll
  repeat' first
    | (extract_lets +onlyGivenNames x
       first
       | (refine fits_cut (p := State.Fits (Foot.free) s x) ?_ ?_; rotate_left; intro hx; clear_value x; rotate_left; subst x)
       | (refine part_cut (α := type_of% x) (by constructor) ?_; subst x)
       | clear_value x
       | subst x)
    | ((with_reducible refine side_ok ?_); exact rfl)
    | with_reducible assumption
    | ((with_reducible refine keep_goal ?_); exact keep_refl)
    | with_reducible exact fits_refl _ _
    | with_reducible refine fits_foldl _ _ (fun x hx u hu => ?_) ?_
    | with_reducible apply noteBad_fits
    | with_reducible apply rejectPage_fits
    | ((with_reducible refine side_ok ?_); exact list_unit rfl (by assumption))
    | split

/-- GO may land commits of any page of a group; nothing bounds it here. -/
theorem go_fits {g : Foot} {s0 : State} (s : State) (p : Nat) (hle : Foot.free.le g = true) (h0 : s0.Fits g s) : s0.Fits g (s.go p) := by
  refine fits_app hle ?_ h0
  unfold State.go
  extract_lets pages t bad
  split
  · exact rejectPage_fits _ _ rfl (fits_refl _ _)
  · split
    · exact put_fits _ rfl (put_fits _ rfl (inc_fits rfl (fits_refl _ _)))
    · split
      · exact acceptAll_fits _ _ _ rfl (fits_refl _ _)
      · exact rejectAll_fits _ _ _ _ rfl (fits_refl _ _)

theorem commitWrite_fits {g : Foot} {s0 : State} (s : State) (p : Nat) (v : Word) (hle : (Foot.free).le g = true) (h0 : s0.Fits g s) : s0.Fits g (State.commitWrite s p v) := by
  refine fits_app hle ?_ h0
  unfold State.commitWrite
  repeat' first
    | (extract_lets +onlyGivenNames x
       first
       | (refine fits_cut (p := State.Fits (Foot.free) s x) ?_ ?_; rotate_left; intro hx; clear_value x; rotate_left; subst x)
       | (refine part_cut (α := type_of% x) (by constructor) ?_; subst x)
       | clear_value x
       | subst x)
    | ((with_reducible refine side_ok ?_); exact rfl)
    | with_reducible assumption
    | ((with_reducible refine keep_goal ?_); exact keep_refl)
    | with_reducible exact fits_refl _ _
    | with_reducible apply discardPage_fits
    | with_reducible apply go_fits
    | ((with_reducible refine side_ok ?_); exact list_unit rfl (by assumption))
    | split

end Sys2Proof.Laws
end

