-- ==== Sys2Proof/Laws/BootFits.lean ====
section
/-! SUPPORT. Footprints of the operations of Machine/Boot.lean: one lemma for each, which says what it may touch and that it keeps what every command keeps. -/

set_option linter.unusedTactic false
set_option linter.unreachableTactic false

namespace Sys2Proof.Laws

open Sys2Proof.Machine

theorem markParity_fits {g : Foot} {s0 : State} (s : State) (bad : List Nat) (hle : (Foot.of [0x7A] [.fus]).le g = true) (h0 : s0.Fits g s) : s0.Fits g (State.markParity s bad) := by
  refine fits_app hle ?_ h0
  unfold State.markParity
  repeat' first
    | (extract_lets +onlyGivenNames x
       first
       | (refine fits_cut (p := State.Fits (Foot.of [0x7A] [.fus]) s x) ?_ ?_; rotate_left; intro hx; clear_value x; rotate_left; subst x)
       | (refine part_cut (α := type_of% x) (by constructor) ?_; subst x)
       | clear_value x
       | subst x)
    | ((with_reducible refine side_ok ?_); exact rfl)
    | with_reducible assumption
    | ((with_reducible refine keep_goal ?_); exact keep_refl)
    | with_reducible exact fits_refl _ _
    | with_reducible apply put_fits
    | with_reducible apply evt_fits
    | with_reducible apply withFus_fits
    | with_reducible apply withFus_fits
    | ((with_reducible refine fusesKept_rows ?_); exact rfl)
    | split

theorem loadHuk_fits {g : Foot} {s0 : State} (s : State) (hle : (Foot.of [] [.sec]).le g = true) (h0 : s0.Fits g s) : s0.Fits g (State.loadHuk s) := by
  refine fits_app hle ?_ h0
  unfold State.loadHuk
  repeat' first
    | (extract_lets +onlyGivenNames x
       first
       | (refine fits_cut (p := State.Fits (Foot.of [] [.sec]) s x) ?_ ?_; rotate_left; intro hx; clear_value x; rotate_left; subst x)
       | (refine part_cut (α := type_of% x) (by constructor) ?_; subst x)
       | clear_value x
       | subst x)
    | ((with_reducible refine side_ok ?_); exact rfl)
    | with_reducible assumption
    | ((with_reducible refine keep_goal ?_); exact keep_refl)
    | with_reducible exact fits_refl _ _
    | with_reducible apply withSec_fits
    | with_reducible apply withSec_fits
    | split

theorem pmbBoot_fits {g : Foot} {s0 : State} (s : State) (ok : Bool) (hle : (Foot.of [0x00, 0x03, 0x40, 0x50, 0x68, 0x70, 0x71] [.flt, .evr, .saf, .lanes, .pwr]).le g = true) (h0 : s0.Fits g s) : s0.Fits g (State.pmbBoot s ok) := by
  refine fits_app hle ?_ h0
  unfold State.pmbBoot
  repeat' first
    | (extract_lets +onlyGivenNames x
       first
       | (refine fits_cut (p := State.Fits (Foot.of [0x00, 0x03, 0x40, 0x50, 0x68, 0x70, 0x71] [.flt, .evr, .saf, .lanes, .pwr]) s x) ?_ ?_; rotate_left; intro hx; clear_value x; rotate_left; subst x)
       | (refine part_cut (α := type_of% x) (by constructor) ?_; subst x)
       | clear_value x
       | subst x)
    | ((with_reducible refine side_ok ?_); exact rfl)
    | with_reducible assumption
    | ((with_reducible refine keep_goal ?_); exact keep_refl)
    | with_reducible exact fits_refl _ _
    | with_reducible apply pmbFail_fits
    | with_reducible apply withPwr_fits
    | with_reducible apply withPwr_fits
    | split

theorem freshJournal_fits {g : Foot} {s0 : State} (s : State) (hle : (Foot.of [0x02] [.mem]).le g = true) (h0 : s0.Fits g s) : s0.Fits g (State.freshJournal s) := by
  refine fits_app hle ?_ h0
  unfold State.freshJournal
  repeat' first
    | (extract_lets +onlyGivenNames x
       first
       | (refine fits_cut (p := State.Fits (Foot.of [0x02] [.mem]) s x) ?_ ?_; rotate_left; intro hx; clear_value x; rotate_left; subst x)
       | (refine part_cut (α := type_of% x) (by constructor) ?_; subst x)
       | clear_value x
       | subst x)
    | ((with_reducible refine side_ok ?_); exact rfl)
    | with_reducible assumption
    | ((with_reducible refine keep_goal ?_); exact keep_refl)
    | with_reducible exact fits_refl _ _
    | with_reducible apply evt_fits
    | with_reducible apply setBytes_fits
    | with_reducible apply jput_fits
    | with_reducible apply jseal_fits
    | split

theorem openJournal_fits {g : Foot} {s0 : State} (s : State) (hle : (Foot.of [0x02] [.mem, .rst]).le g = true) (h0 : s0.Fits g s) : s0.Fits g (State.openJournal s).2 := by
  refine fits_app hle ?_ h0
  unfold State.openJournal
  repeat' first
    | (extract_lets +onlyGivenNames x
       first
       | (refine fits_cut (p := State.Fits (Foot.of [0x02] [.mem, .rst]) s x) ?_ ?_; rotate_left; intro hx; clear_value x; rotate_left; subst x)
       | (refine part_cut (α := type_of% x) (by constructor) ?_; subst x)
       | clear_value x
       | subst x)
    | ((with_reducible refine side_ok ?_); exact rfl)
    | with_reducible assumption
    | ((with_reducible refine keep_goal ?_); exact keep_refl)
    | with_reducible exact fits_refl _ _
    | with_reducible apply setBytes_fits
    | with_reducible apply freshJournal_fits
    | with_reducible apply withRst_fits
    | with_reducible apply withRst_fits
    | split
    | with_reducible refine fits_snd (by assumption) ?_
    | with_reducible refine fits_thd (by assumption) ?_
    | dsimp only

theorem openJournal_fits_eq {g : Foot} {s0 : State} {s : State} {t : State} {r0 : Bool} (h : (State.openJournal s) = (r0, t)) (hle : (Foot.of [0x02] [.mem, .rst]).le g = true) (h0 : s0.Fits g s) : s0.Fits g t := by
  have k := openJournal_fits s hle h0
  rw [h] at k
  exact k

theorem closeRecord_fits {g : Foot} {s0 : State} (s : State) (hle : (Foot.of [0x02] [.mem, .rst, .thm]).le g = true) (h0 : s0.Fits g s) : s0.Fits g (State.closeRecord s) := by
  refine fits_app hle ?_ h0
  unfold State.closeRecord
  repeat' first
    | (extract_lets +onlyGivenNames x
       first
       | (refine fits_cut (p := State.Fits (Foot.of [0x02] [.mem, .rst, .thm]) s x) ?_ ?_; rotate_left; intro hx; clear_value x; rotate_left; subst x)
       | (refine part_cut (α := type_of% x) (by constructor) ?_; subst x)
       | clear_value x
       | subst x)
    | ((with_reducible refine side_ok ?_); exact rfl)
    | with_reducible assumption
    | ((with_reducible refine keep_goal ?_); exact keep_refl)
    | with_reducible exact fits_refl _ _
    | with_reducible refine fits_foldl _ _ (fun x hx u hu => ?_) ?_
    | with_reducible apply journalFlash_fits
    | with_reducible apply jput_fits
    | with_reducible apply setAvoid_fits
    | split

theorem newRecord_fits {g : Foot} {s0 : State} (s : State) (fresh : Bool) (hle : (Foot.of [] [.mem, .rst]).le g = true) (h0 : s0.Fits g s) : s0.Fits g (State.newRecord s fresh) := by
  refine fits_app hle ?_ h0
  unfold State.newRecord
  repeat' first
    | (extract_lets +onlyGivenNames x
       first
       | (refine fits_cut (p := State.Fits (Foot.of [] [.mem, .rst]) s x) ?_ ?_; rotate_left; intro hx; clear_value x; rotate_left; subst x)
       | (refine part_cut (α := type_of% x) (by constructor) ?_; subst x)
       | clear_value x
       | subst x)
    | ((with_reducible refine side_ok ?_); exact rfl)
    | with_reducible assumption
    | ((with_reducible refine keep_goal ?_); exact keep_refl)
    | with_reducible exact fits_refl _ _
    | with_reducible apply setBytes_fits
    | with_reducible apply jput_fits
    | with_reducible apply jseal_fits
    | with_reducible apply withRst_fits
    | with_reducible apply withRst_fits
    | split

theorem restoreTime_fits {g : Foot} {s0 : State} (s : State) (hle : (Foot.of [0x71] []).le g = true) (h0 : s0.Fits g s) : s0.Fits g (State.restoreTime s) := by
  refine fits_app hle ?_ h0
  unfold State.restoreTime
  repeat' first
    | (extract_lets +onlyGivenNames x
       first
       | (refine fits_cut (p := State.Fits (Foot.of [0x71] []) s x) ?_ ?_; rotate_left; intro hx; clear_value x; rotate_left; subst x)
       | (refine part_cut (α := type_of% x) (by constructor) ?_; subst x)
       | clear_value x
       | subst x)
    | ((with_reducible refine side_ok ?_); exact rfl)
    | with_reducible assumption
    | ((with_reducible refine keep_goal ?_); exact keep_refl)
    | with_reducible exact fits_refl _ _
    | with_reducible apply put_fits
    | with_reducible apply setOh_fits
    | split
    | with_reducible refine fits_snd (by assumption) ?_
    | with_reducible refine fits_thd (by assumption) ?_
    | dsimp only

theorem newEpoch_fits {g : Foot} {s0 : State} (s : State) (hle : (Foot.of [0x02] [.mem, .thm]).le g = true) (h0 : s0.Fits g s) : s0.Fits g (State.newEpoch s) := by
  refine fits_app hle ?_ h0
  unfold State.newEpoch
  repeat' first
    | (extract_lets +onlyGivenNames x
       first
       | (refine fits_cut (p := State.Fits (Foot.of [0x02] [.mem, .thm]) s x) ?_ ?_; rotate_left; intro hx; clear_value x; rotate_left; subst x)
       | (refine part_cut (α := type_of% x) (by constructor) ?_; subst x)
       | clear_value x
       | subst x)
    | ((with_reducible refine side_ok ?_); exact rfl)
    | with_reducible assumption
    | ((with_reducible refine keep_goal ?_); exact keep_refl)
    | with_reducible exact fits_refl _ _
    | with_reducible apply put_fits
    | with_reducible apply saveEpoch_fits
    | split
    | with_reducible refine fits_snd (by assumption) ?_
    | with_reducible refine fits_thd (by assumption) ?_
    | dsimp only

theorem dropReceiving_fits {g : Foot} {s0 : State} (s : State) (hle : (Foot.of [0x40, 0x70, 0x71, 0x80] [.evr, .gov, .upd]).le g = true) (h0 : s0.Fits g s) : s0.Fits g (State.dropReceiving s) := by
  refine fits_app hle ?_ h0
  unfold State.dropReceiving
  repeat' first
    | (extract_lets +onlyGivenNames x
       first
       | (refine fits_cut (p := State.Fits (Foot.of [0x40, 0x70, 0x71, 0x80] [.evr, .gov, .upd]) s x) ?_ ?_; rotate_left; intro hx; clear_value x; rotate_left; subst x)
       | (refine part_cut (α := type_of% x) (by constructor) ?_; subst x)
       | clear_value x
       | subst x)
    | ((with_reducible refine side_ok ?_); exact rfl)
    | with_reducible assumption
    | ((with_reducible refine keep_goal ?_); exact keep_refl)
    | with_reducible exact fits_refl _ _
    | with_reducible refine fits_foldl _ _ (fun x hx u hu => ?_) ?_
    | with_reducible apply modSlot_fits
    | with_reducible apply toSlot_fits
    | split

theorem journalCold_fits {g : Foot} {s0 : State} (s : State) (hle : (Foot.of [0x02, 0x40, 0x70, 0x71, 0x80] [.mem, .evr, .gov, .thm, .upd]).le g = true) (h0 : s0.Fits g s) : s0.Fits g (State.journalCold s) := by
  refine fits_app hle ?_ h0
  unfold State.journalCold
  repeat' first
    | (extract_lets +onlyGivenNames x
       first
       | (refine fits_cut (p := State.Fits (Foot.of [0x02, 0x40, 0x70, 0x71, 0x80] [.mem, .evr, .gov, .thm, .upd]) s x) ?_ ?_; rotate_left; intro hx; clear_value x; rotate_left; subst x)
       | (refine part_cut (α := type_of% x) (by constructor) ?_; subst x)
       | clear_value x
       | subst x)
    | ((with_reducible refine side_ok ?_); exact rfl)
    | with_reducible assumption
    | ((with_reducible refine keep_goal ?_); exact keep_refl)
    | with_reducible exact fits_refl _ _
    | with_reducible apply evt_fits
    | with_reducible apply dropReceiving_fits
    | with_reducible apply evrStart_fits
    | with_reducible apply newEpoch_fits
    | with_reducible apply restoreTime_fits
    | split

theorem journalDeep_fits {g : Foot} {s0 : State} (s : State) (hle : (Foot.of [0x00, 0x03, 0x40, 0x50, 0x68, 0x70, 0x71] [.flt, .evr, .saf, .lanes, .pwr]).le g = true) (h0 : s0.Fits g s) : s0.Fits g (State.journalDeep s) := by
  refine fits_app hle ?_ h0
  unfold State.journalDeep
  repeat' first
    | (extract_lets +onlyGivenNames x
       first
       | (refine fits_cut (p := State.Fits (Foot.of [0x00, 0x03, 0x40, 0x50, 0x68, 0x70, 0x71] [.flt, .evr, .saf, .lanes, .pwr]) s x) ?_ ?_; rotate_left; intro hx; clear_value x; rotate_left; subst x)
       | (refine part_cut (α := type_of% x) (by constructor) ?_; subst x)
       | clear_value x
       | subst x)
    | ((with_reducible refine side_ok ?_); exact rfl)
    | with_reducible assumption
    | ((with_reducible refine keep_goal ?_); exact keep_refl)
    | with_reducible exact fits_refl _ _
    | with_reducible apply put_fits
    | with_reducible apply inc_fits
    | with_reducible apply evrStart_fits
    | with_reducible apply flintResume_fits
    | with_reducible apply pwrTo_fits
    | with_reducible apply raise_fits
    | with_reducible apply setOh_fits
    | ((with_reducible refine side_ok ?_); exact tl_unit rfl)
    | ((with_reducible refine side_ok ?_); exact be_unit rfl)
    | ((with_reducible refine side_ok ?_); exact lay_unit rfl)
    | ((with_reducible refine side_ok ?_); exact crc_unit rfl)
    | ((with_reducible refine side_ok ?_); exact lnk_unit rfl)
    | split

theorem journalCauses_fits {g : Foot} {s0 : State} (s : State) (hle : (Foot.of [0x00, 0x02, 0x40, 0x50, 0x68, 0x70, 0x71] [.flt, .evr, .saf, .lanes]).le g = true) (h0 : s0.Fits g s) : s0.Fits g (State.journalCauses s) := by
  refine fits_app hle ?_ h0
  unfold State.journalCauses
  repeat' first
    | (extract_lets +onlyGivenNames x
       first
       | (refine fits_cut (p := State.Fits (Foot.of [0x00, 0x02, 0x40, 0x50, 0x68, 0x70, 0x71] [.flt, .evr, .saf, .lanes]) s x) ?_ ?_; rotate_left; intro hx; clear_value x; rotate_left; subst x)
       | (refine part_cut (α := type_of% x) (by constructor) ?_; subst x)
       | clear_value x
       | subst x)
    | ((with_reducible refine side_ok ?_); exact rfl)
    | with_reducible assumption
    | ((with_reducible refine keep_goal ?_); exact keep_refl)
    | with_reducible exact fits_refl _ _
    | with_reducible apply raise_fits
    | ((with_reducible refine side_ok ?_); exact tl_unit rfl)
    | ((with_reducible refine side_ok ?_); exact be_unit rfl)
    | ((with_reducible refine side_ok ?_); exact lay_unit rfl)
    | ((with_reducible refine side_ok ?_); exact crc_unit rfl)
    | ((with_reducible refine side_ok ?_); exact lnk_unit rfl)
    | split

theorem mainBad_fits {g : Foot} {s0 : State} (s : State) (n : Nat) (aOk : Bool) (bOk : Bool) (hle : (Foot.of [0x78] []).le g = true) (h0 : s0.Fits g s) : s0.Fits g (State.mainBad s n aOk bOk).2 := by
  refine fits_app hle ?_ h0
  unfold State.mainBad
  repeat' first
    | (extract_lets +onlyGivenNames x
       first
       | (refine fits_cut (p := State.Fits (Foot.of [0x78] []) s x) ?_ ?_; rotate_left; intro hx; clear_value x; rotate_left; subst x)
       | (refine part_cut (α := type_of% x) (by constructor) ?_; subst x)
       | clear_value x
       | subst x)
    | ((with_reducible refine side_ok ?_); exact rfl)
    | with_reducible assumption
    | ((with_reducible refine keep_goal ?_); exact keep_refl)
    | with_reducible exact fits_refl _ _
    | with_reducible refine checkMain_fits_eq (by assumption) ?_ ?_
    | with_reducible apply checkMain_fits
    | split
    | with_reducible refine fits_snd (by assumption) ?_
    | with_reducible refine fits_thd (by assumption) ?_
    | dsimp only

theorem mainBad_fits_eq {g : Foot} {s0 : State} {s : State} {n : Nat} {aOk : Bool} {bOk : Bool} {t : State} {r0 : Nat} (h : (State.mainBad s n aOk bOk) = (r0, t)) (hle : (Foot.of [0x78] []).le g = true) (h0 : s0.Fits g s) : s0.Fits g t := by
  have k := mainBad_fits s n aOk bOk hle h0
  rw [h] at k
  exact k

theorem loadEntries_fits {g : Foot} {s0 : State} (s : State) (n : Nat) (hle : (Foot.of [] [.mem]).le g = true) (h0 : s0.Fits g s) : s0.Fits g (State.loadEntries s n) := by
  refine fits_app hle ?_ h0
  unfold State.loadEntries
  repeat' first
    | (extract_lets +onlyGivenNames x
       first
       | (refine fits_cut (p := State.Fits (Foot.of [] [.mem]) s x) ?_ ?_; rotate_left; intro hx; clear_value x; rotate_left; subst x)
       | (refine part_cut (α := type_of% x) (by constructor) ?_; subst x)
       | clear_value x
       | subst x)
    | ((with_reducible refine side_ok ?_); exact rfl)
    | with_reducible assumption
    | ((with_reducible refine keep_goal ?_); exact keep_refl)
    | with_reducible exact fits_refl _ _
    | with_reducible refine fits_foldl _ _ (fun x hx u hu => ?_) ?_
    | with_reducible apply setBytes_fits
    | split

theorem bootMain_fits {g : Foot} {s0 : State} (s : State) (n : Nat) (hle : (Foot.of [0x00, 0x02, 0x40, 0x50, 0x68, 0x70, 0x71, 0x7A, 0x80, 0x81] [.mem, .flt, .evr, .saf, .rst, .lanes, .fus, .upd]).le g = true) (h0 : s0.Fits g s) : s0.Fits g (State.bootMain s n) := by
  refine fits_app hle ?_ h0
  unfold State.bootMain
  repeat' first
    | (extract_lets +onlyGivenNames x
       first
       | (refine fits_cut (p := State.Fits (Foot.of [0x00, 0x02, 0x40, 0x50, 0x68, 0x70, 0x71, 0x7A, 0x80, 0x81] [.mem, .flt, .evr, .saf, .rst, .lanes, .fus, .upd]) s x) ?_ ?_; rotate_left; intro hx; clear_value x; rotate_left; subst x)
       | (refine part_cut (α := type_of% x) (by constructor) ?_; subst x)
       | clear_value x
       | subst x)
    | ((with_reducible refine side_ok ?_); exact rfl)
    | with_reducible assumption
    | ((with_reducible refine keep_goal ?_); exact keep_refl)
    | with_reducible exact fits_refl _ _
    | with_reducible apply put_fits
    | with_reducible apply fuseWork_fits
    | with_reducible apply loadEntries_fits
    | with_reducible apply showMain_fits
    | with_reducible apply stepDone_fits
    | split

theorem endTrial_fits {g : Foot} {s0 : State} (s : State) (hle : (Foot.of [0x40, 0x70, 0x71, 0x80] [.evr, .gov, .upd]).le g = true) (h0 : s0.Fits g s) : s0.Fits g (State.endTrial s) := by
  refine fits_app hle ?_ h0
  unfold State.endTrial
  repeat' first
    | (extract_lets +onlyGivenNames x
       first
       | (refine fits_cut (p := State.Fits (Foot.of [0x40, 0x70, 0x71, 0x80] [.evr, .gov, .upd]) s x) ?_ ?_; rotate_left; intro hx; clear_value x; rotate_left; subst x)
       | (refine part_cut (α := type_of% x) (by constructor) ?_; subst x)
       | clear_value x
       | subst x)
    | ((with_reducible refine side_ok ?_); exact rfl)
    | with_reducible assumption
    | ((with_reducible refine keep_goal ?_); exact keep_refl)
    | ((with_reducible refine keep_ok ?_); intro h; simpa [Saf.shaped, Quartz.shaped, Cmd.shaped, Glare.shaped, Gov.shaped, Cal.shaped, Flx.shaped, Fus.shaped, Upd.shaped] using h)
    | with_reducible exact fits_refl _ _
    | with_reducible apply evt_fits
    | with_reducible apply event_fits
    | with_reducible apply toSlot_fits
    | with_reducible apply withUpd_fits
    | with_reducible apply withUpd_fits
    | split

theorem tryPending_fits {g : Foot} {s0 : State} (s : State) (n : Nat) (aOk : Bool) (bOk : Bool) (hle : (Foot.of [0x40, 0x70, 0x71, 0x78, 0x80] [.evr, .gov, .upd]).le g = true) (h0 : s0.Fits g s) : s0.Fits g (State.tryPending s n aOk bOk).2 := by
  refine fits_app hle ?_ h0
  unfold State.tryPending
  repeat' first
    | (extract_lets +onlyGivenNames x
       first
       | (refine fits_cut (p := State.Fits (Foot.of [0x40, 0x70, 0x71, 0x78, 0x80] [.evr, .gov, .upd]) s x) ?_ ?_; rotate_left; intro hx; clear_value x; rotate_left; subst x)
       | (refine part_cut (α := type_of% x) (by constructor) ?_; subst x)
       | clear_value x
       | subst x)
    | ((with_reducible refine side_ok ?_); exact rfl)
    | with_reducible assumption
    | ((with_reducible refine keep_goal ?_); exact keep_refl)
    | ((with_reducible refine keep_ok ?_); intro h; simpa [Saf.shaped, Quartz.shaped, Cmd.shaped, Glare.shaped, Gov.shaped, Cal.shaped, Flx.shaped, Fus.shaped, Upd.shaped] using h)
    | with_reducible exact fits_refl _ _
    | with_reducible refine mainBad_fits_eq (by assumption) ?_ ?_
    | with_reducible apply mainBad_fits
    | with_reducible apply toSlot_fits
    | with_reducible apply withUpd_fits
    | with_reducible apply withUpd_fits
    | split
    | with_reducible refine fits_snd (by assumption) ?_
    | with_reducible refine fits_thd (by assumption) ?_
    | dsimp only

theorem tryPending_fits_eq {g : Foot} {s0 : State} {s : State} {n : Nat} {aOk : Bool} {bOk : Bool} {t : State} {r0 : Bool} (h : (State.tryPending s n aOk bOk) = (r0, t)) (hle : (Foot.of [0x40, 0x70, 0x71, 0x78, 0x80] [.evr, .gov, .upd]).le g = true) (h0 : s0.Fits g s) : s0.Fits g t := by
  have k := tryPending_fits s n aOk bOk hle h0
  rw [h] at k
  exact k

theorem mainAlt_fits {g : Foot} {s0 : State} (s : State) (n : Nat) (aOk : Bool) (bOk : Bool) (hle : (Foot.free).le g = true) (h0 : s0.Fits g s) : s0.Fits g (State.mainAlt s n aOk bOk) := by
  refine fits_app hle ?_ h0
  unfold State.mainAlt
  repeat' first
    | (extract_lets +onlyGivenNames x
       first
       | (refine fits_cut (p := State.Fits (Foot.free) s x) ?_ ?_; rotate_left; intro hx; clear_value x; rotate_left; subst x)
       | (refine part_cut (α := type_of% x) (by constructor) ?_; subst x)
       | clear_value x
       | subst x)
    | ((with_reducible refine side_ok ?_); exact rfl)
    | with_reducible assumption
    | ((with_reducible refine keep_goal ?_); exact keep_refl)
    | with_reducible exact fits_refl _ _
    | with_reducible apply bootMain_fits
    | with_reducible refine mainBad_fits_eq (by assumption) ?_ ?_
    | with_reducible apply mainBad_fits
    | with_reducible apply stepFails_fits
    | with_reducible apply toSlot_fits
    | split
    | with_reducible refine fits_snd (by assumption) ?_
    | with_reducible refine fits_thd (by assumption) ?_
    | dsimp only

theorem mainActive_fits {g : Foot} {s0 : State} (s : State) (aOk : Bool) (bOk : Bool) (hle : (Foot.free).le g = true) (h0 : s0.Fits g s) : s0.Fits g (State.mainActive s aOk bOk) := by
  refine fits_app hle ?_ h0
  unfold State.mainActive
  repeat' first
    | (extract_lets +onlyGivenNames x
       first
       | (refine fits_cut (p := State.Fits (Foot.free) s x) ?_ ?_; rotate_left; intro hx; clear_value x; rotate_left; subst x)
       | (refine part_cut (α := type_of% x) (by constructor) ?_; subst x)
       | clear_value x
       | subst x)
    | ((with_reducible refine side_ok ?_); exact rfl)
    | with_reducible assumption
    | ((with_reducible refine keep_goal ?_); exact keep_refl)
    | with_reducible exact fits_refl _ _
    | with_reducible apply bootMain_fits
    | with_reducible apply mainAlt_fits
    | with_reducible refine mainBad_fits_eq (by assumption) ?_ ?_
    | with_reducible apply mainBad_fits
    | with_reducible apply stepFails_fits
    | split
    | with_reducible refine fits_snd (by assumption) ?_
    | with_reducible refine fits_thd (by assumption) ?_
    | dsimp only

theorem loadTables_fits {g : Foot} {s0 : State} (s : State) (n : Nat) (p : Nat) (hle : (Foot.of [0x40] [.mem]).le g = true) (h0 : s0.Fits g s) : s0.Fits g (State.loadTables s n p) := by
  refine fits_app hle ?_ h0
  unfold State.loadTables
  repeat' first
    | (extract_lets +onlyGivenNames x
       first
       | (refine fits_cut (p := State.Fits (Foot.of [0x40] [.mem]) s x) ?_ ?_; rotate_left; intro hx; clear_value x; rotate_left; subst x)
       | (refine part_cut (α := type_of% x) (by constructor) ?_; subst x)
       | clear_value x
       | subst x)
    | ((with_reducible refine side_ok ?_); exact rfl)
    | with_reducible assumption
    | ((with_reducible refine keep_goal ?_); exact keep_refl)
    | with_reducible exact fits_refl _ _
    | with_reducible apply put_fits
    | with_reducible apply setBytes_fits
    | split

theorem tryTables_fits {g : Foot} {s0 : State} (s : State) (n : Nat) (p : Nat) (hle : (Foot.of [0x00, 0x40, 0x50, 0x68, 0x70, 0x71] [.mem, .flt, .evr, .saf, .lanes]).le g = true) (h0 : s0.Fits g s) : s0.Fits g (State.tryTables s n p).2 := by
  refine fits_app hle ?_ h0
  unfold State.tryTables
  repeat' first
    | (extract_lets +onlyGivenNames x
       first
       | (refine fits_cut (p := State.Fits (Foot.of [0x00, 0x40, 0x50, 0x68, 0x70, 0x71] [.mem, .flt, .evr, .saf, .lanes]) s x) ?_ ?_; rotate_left; intro hx; clear_value x; rotate_left; subst x)
       | (refine part_cut (α := type_of% x) (by constructor) ?_; subst x)
       | clear_value x
       | subst x)
    | ((with_reducible refine side_ok ?_); exact rfl)
    | with_reducible assumption
    | ((with_reducible refine keep_goal ?_); exact keep_refl)
    | with_reducible exact fits_refl _ _
    | with_reducible apply put_fits
    | with_reducible apply evt_fits
    | with_reducible apply loadTables_fits
    | with_reducible apply raise_fits
    | ((with_reducible refine side_ok ?_); exact tl_unit rfl)
    | ((with_reducible refine side_ok ?_); exact be_unit rfl)
    | ((with_reducible refine side_ok ?_); exact lay_unit rfl)
    | ((with_reducible refine side_ok ?_); exact crc_unit rfl)
    | ((with_reducible refine side_ok ?_); exact lnk_unit rfl)
    | split
    | with_reducible refine fits_snd (by assumption) ?_
    | with_reducible refine fits_thd (by assumption) ?_
    | dsimp only

theorem tryTables_fits_eq {g : Foot} {s0 : State} {s : State} {n : Nat} {p : Nat} {t : State} {r0 : Bool} (h : (State.tryTables s n p) = (r0, t)) (hle : (Foot.of [0x00, 0x40, 0x50, 0x68, 0x70, 0x71] [.mem, .flt, .evr, .saf, .lanes]).le g = true) (h0 : s0.Fits g s) : s0.Fits g t := by
  have k := tryTables_fits s n p hle h0
  rw [h] at k
  exact k

theorem showBundle_fits {g : Foot} {s0 : State} (s : State) (n : Nat) (hle : (Foot.of [0x02, 0x40, 0x81] []).le g = true) (h0 : s0.Fits g s) : s0.Fits g (State.showBundle s n) := by
  refine fits_app hle ?_ h0
  unfold State.showBundle
  repeat' first
    | (extract_lets +onlyGivenNames x
       first
       | (refine fits_cut (p := State.Fits (Foot.of [0x02, 0x40, 0x81] []) s x) ?_ ?_; rotate_left; intro hx; clear_value x; rotate_left; subst x)
       | (refine part_cut (α := type_of% x) (by constructor) ?_; subst x)
       | clear_value x
       | subst x)
    | ((with_reducible refine side_ok ?_); exact rfl)
    | with_reducible assumption
    | ((with_reducible refine keep_goal ?_); exact keep_refl)
    | with_reducible exact fits_refl _ _
    | with_reducible refine fits_foldl _ _ (fun x hx u hu => ?_) ?_
    | with_reducible apply put_fits
    | with_reducible apply showGranite_fits
    | split

theorem flintSetup_fits {g : Foot} {s0 : State} (s : State) (hle : (Foot.free).le g = true) (h0 : s0.Fits g s) : s0.Fits g (State.flintSetup s) := by
  refine fits_app hle ?_ h0
  unfold State.flintSetup
  repeat' first
    | (extract_lets +onlyGivenNames x
       first
       | (refine fits_cut (p := State.Fits (Foot.free) s x) ?_ ?_; rotate_left; intro hx; clear_value x; rotate_left; subst x)
       | (refine part_cut (α := type_of% x) (by constructor) ?_; subst x)
       | clear_value x
       | subst x)
    | ((with_reducible refine side_ok ?_); exact rfl)
    | with_reducible assumption
    | ((with_reducible refine keep_goal ?_); exact keep_refl)
    | with_reducible exact fits_refl _ _
    | with_reducible apply flintKick_fits
    | with_reducible apply go_fits
    | ((with_reducible refine side_ok ?_); exact list_unit rfl (by assumption))
    | split

theorem bootGranite_fits {g : Foot} {s0 : State} (s : State) (n : Nat) (hle : (Foot.free).le g = true) (h0 : s0.Fits g s) : s0.Fits g (State.bootGranite s n) := by
  refine fits_app hle ?_ h0
  unfold State.bootGranite
  repeat' first
    | (extract_lets +onlyGivenNames x
       first
       | (refine fits_cut (p := State.Fits (Foot.free) s x) ?_ ?_; rotate_left; intro hx; clear_value x; rotate_left; subst x)
       | (refine part_cut (α := type_of% x) (by constructor) ?_; subst x)
       | clear_value x
       | subst x)
    | ((with_reducible refine side_ok ?_); exact rfl)
    | with_reducible assumption
    | ((with_reducible refine keep_goal ?_); exact keep_refl)
    | with_reducible exact fits_refl _ _
    | with_reducible apply setBytes_fits
    | with_reducible apply flintSetup_fits
    | with_reducible apply showBundle_fits
    | with_reducible apply stepDone_fits
    | with_reducible refine tryTables_fits_eq (by assumption) ?_ ?_
    | with_reducible apply tryTables_fits
    | split
    | with_reducible refine fits_snd (by assumption) ?_
    | with_reducible refine fits_thd (by assumption) ?_
    | dsimp only

theorem approvalEvent_fits {g : Foot} {s0 : State} (s : State) (n : Nat) (hle : (Foot.of [0x70, 0x71] [.evr]).le g = true) (h0 : s0.Fits g s) : s0.Fits g (State.approvalEvent s n) := by
  refine fits_app hle ?_ h0
  unfold State.approvalEvent
  repeat' first
    | (extract_lets +onlyGivenNames x
       first
       | (refine fits_cut (p := State.Fits (Foot.of [0x70, 0x71] [.evr]) s x) ?_ ?_; rotate_left; intro hx; clear_value x; rotate_left; subst x)
       | (refine part_cut (α := type_of% x) (by constructor) ?_; subst x)
       | clear_value x
       | subst x)
    | ((with_reducible refine side_ok ?_); exact rfl)
    | with_reducible assumption
    | ((with_reducible refine keep_goal ?_); exact keep_refl)
    | with_reducible exact fits_refl _ _
    | with_reducible apply event_fits
    | with_reducible refine record_fits_eq (by assumption) ?_ ?_
    | with_reducible apply record_fits
    | split
    | with_reducible refine fits_snd (by assumption) ?_
    | with_reducible refine fits_thd (by assumption) ?_
    | dsimp only

theorem approve_fits {g : Foot} {s0 : State} (s : State) (n : Nat) (hle : (Foot.of [0x02, 0x40, 0x70, 0x71, 0x78, 0x7A, 0x80, 0x81] [.evr, .fus]).le g = true) (h0 : s0.Fits g s) : s0.Fits g (State.approve s n) := by
  refine fits_app hle ?_ h0
  unfold State.approve
  repeat' first
    | (extract_lets +onlyGivenNames x
       first
       | (refine fits_cut (p := State.Fits (Foot.of [0x02, 0x40, 0x70, 0x71, 0x78, 0x7A, 0x80, 0x81] [.evr, .fus]) s x) ?_ ?_; rotate_left; intro hx; clear_value x; rotate_left; subst x)
       | (refine part_cut (α := type_of% x) (by constructor) ?_; subst x)
       | clear_value x
       | subst x)
    | ((with_reducible refine side_ok ?_); exact rfl)
    | with_reducible assumption
    | ((with_reducible refine keep_goal ?_); exact keep_refl)
    | with_reducible exact fits_refl _ _
    | with_reducible apply evt_fits
    | with_reducible apply approvalEvent_fits
    | with_reducible apply program_fits
    | split

theorem primary_fits {g : Foot} {s0 : State} (s : State) (hle : (Foot.of [] [.rst]).le g = true) (h0 : s0.Fits g s) : s0.Fits g (State.primary s) := by
  refine fits_app hle ?_ h0
  unfold State.primary
  repeat' first
    | (extract_lets +onlyGivenNames x
       first
       | (refine fits_cut (p := State.Fits (Foot.of [] [.rst]) s x) ?_ ?_; rotate_left; intro hx; clear_value x; rotate_left; subst x)
       | (refine part_cut (α := type_of% x) (by constructor) ?_; subst x)
       | clear_value x
       | subst x)
    | ((with_reducible refine side_ok ?_); exact rfl)
    | with_reducible assumption
    | ((with_reducible refine keep_goal ?_); exact keep_refl)
    | with_reducible exact fits_refl _ _
    | with_reducible apply withRst_fits
    | with_reducible apply withRst_fits
    | split

theorem graniteActive_fits {g : Foot} {s0 : State} (s : State) (n : Nat) (hle : (Foot.of [0x02, 0x40, 0x70, 0x71, 0x80] [.mem, .evr, .rst, .gov, .upd]).le g = true) (h0 : s0.Fits g s) : s0.Fits g (State.graniteActive s n) := by
  refine fits_app hle ?_ h0
  unfold State.graniteActive
  repeat' first
    | (extract_lets +onlyGivenNames x
       first
       | (refine fits_cut (p := State.Fits (Foot.of [0x02, 0x40, 0x70, 0x71, 0x80] [.mem, .evr, .rst, .gov, .upd]) s x) ?_ ?_; rotate_left; intro hx; clear_value x; rotate_left; subst x)
       | (refine part_cut (α := type_of% x) (by constructor) ?_; subst x)
       | clear_value x
       | subst x)
    | ((with_reducible refine side_ok ?_); exact rfl)
    | with_reducible assumption
    | ((with_reducible refine keep_goal ?_); exact keep_refl)
    | ((with_reducible refine keep_ok ?_); intro h; simpa [Saf.shaped, Quartz.shaped, Cmd.shaped, Glare.shaped, Gov.shaped, Cal.shaped, Flx.shaped, Fus.shaped, Upd.shaped] using h)
    | with_reducible exact fits_refl _ _
    | with_reducible apply clearAvoid_fits
    | with_reducible apply primary_fits
    | with_reducible apply toSlot_fits
    | with_reducible apply withGov_fits
    | with_reducible apply withGov_fits
    | split

theorem complete_fits {g : Foot} {s0 : State} (s : State) (n : Nat) (fuseOk : Bool) (hle : (Foot.of [0x02, 0x40, 0x70, 0x71, 0x78, 0x7A, 0x80, 0x81] [.mem, .evr, .rst, .gov, .fus, .upd]).le g = true) (h0 : s0.Fits g s) : s0.Fits g (State.complete s n fuseOk).2 := by
  refine fits_app hle ?_ h0
  unfold State.complete
  repeat' first
    | (extract_lets +onlyGivenNames x
       first
       | (refine fits_cut (p := State.Fits (Foot.of [0x02, 0x40, 0x70, 0x71, 0x78, 0x7A, 0x80, 0x81] [.mem, .evr, .rst, .gov, .fus, .upd]) s x) ?_ ?_; rotate_left; intro hx; clear_value x; rotate_left; subst x)
       | (refine part_cut (α := type_of% x) (by constructor) ?_; subst x)
       | clear_value x
       | subst x)
    | ((with_reducible refine side_ok ?_); exact rfl)
    | with_reducible assumption
    | ((with_reducible refine keep_goal ?_); exact keep_refl)
    | with_reducible exact fits_refl _ _
    | with_reducible apply put_fits
    | with_reducible apply approve_fits
    | with_reducible apply event_fits
    | with_reducible apply graniteActive_fits
    | with_reducible apply toSlot_fits
    | split
    | with_reducible refine fits_snd (by assumption) ?_
    | with_reducible refine fits_thd (by assumption) ?_
    | dsimp only

theorem complete_fits_eq {g : Foot} {s0 : State} {s : State} {n : Nat} {fuseOk : Bool} {t : State} {r0 : Bool} (h : (State.complete s n fuseOk) = (r0, t)) (hle : (Foot.of [0x02, 0x40, 0x70, 0x71, 0x78, 0x7A, 0x80, 0x81] [.mem, .evr, .rst, .gov, .fus, .upd]).le g = true) (h0 : s0.Fits g s) : s0.Fits g t := by
  have k := complete_fits s n fuseOk hle h0
  rw [h] at k
  exact k

theorem graniteAlt_fits {g : Foot} {s0 : State} (s : State) (n : Nat) (aOk : Bool) (bOk : Bool) (hle : (Foot.free).le g = true) (h0 : s0.Fits g s) : s0.Fits g (State.graniteAlt s n aOk bOk) := by
  refine fits_app hle ?_ h0
  unfold State.graniteAlt
  repeat' first
    | (extract_lets +onlyGivenNames x
       first
       | (refine fits_cut (p := State.Fits (Foot.free) s x) ?_ ?_; rotate_left; intro hx; clear_value x; rotate_left; subst x)
       | (refine part_cut (α := type_of% x) (by constructor) ?_; subst x)
       | clear_value x
       | subst x)
    | ((with_reducible refine side_ok ?_); exact rfl)
    | with_reducible assumption
    | ((with_reducible refine keep_goal ?_); exact keep_refl)
    | ((with_reducible refine keep_ok ?_); intro h; simpa [Saf.shaped, Quartz.shaped, Cmd.shaped, Glare.shaped, Gov.shaped, Cal.shaped, Flx.shaped, Fus.shaped, Upd.shaped] using h)
    | with_reducible exact fits_refl _ _
    | with_reducible apply bootGranite_fits
    | with_reducible refine checkGranite_fits_eq (by assumption) ?_ ?_
    | with_reducible apply checkGranite_fits
    | with_reducible apply stepFails_fits
    | with_reducible apply toSlot_fits
    | with_reducible apply withGov_fits
    | with_reducible apply withGov_fits
    | split
    | with_reducible refine fits_snd (by assumption) ?_
    | with_reducible refine fits_thd (by assumption) ?_
    | dsimp only

theorem graniteBoot_fits {g : Foot} {s0 : State} (s : State) (aOk : Bool) (bOk : Bool) (hle : (Foot.free).le g = true) (h0 : s0.Fits g s) : s0.Fits g (State.graniteBoot s aOk bOk) := by
  refine fits_app hle ?_ h0
  unfold State.graniteBoot
  repeat' first
    | (extract_lets +onlyGivenNames x
       first
       | (refine fits_cut (p := State.Fits (Foot.free) s x) ?_ ?_; rotate_left; intro hx; clear_value x; rotate_left; subst x)
       | (refine part_cut (α := type_of% x) (by constructor) ?_; subst x)
       | clear_value x
       | subst x)
    | ((with_reducible refine side_ok ?_); exact rfl)
    | with_reducible assumption
    | ((with_reducible refine keep_goal ?_); exact keep_refl)
    | with_reducible exact fits_refl _ _
    | with_reducible apply bootGranite_fits
    | with_reducible refine checkGranite_fits_eq (by assumption) ?_ ?_
    | with_reducible apply checkGranite_fits
    | with_reducible apply graniteAlt_fits
    | with_reducible apply stepFails_fits
    | split
    | with_reducible refine fits_snd (by assumption) ?_
    | with_reducible refine fits_thd (by assumption) ?_
    | dsimp only

theorem setReset_fits {g : Foot} {s0 : State} (s : State) (reason : Nat) (old : Nat) (hle : (Foot.of [0x70, 0x71, 0x80, 0x81] [.evr]).le g = true) (h0 : s0.Fits g s) : s0.Fits g (State.setReset s reason old) := by
  refine fits_app hle ?_ h0
  unfold State.setReset
  repeat' first
    | (extract_lets +onlyGivenNames x
       first
       | (refine fits_cut (p := State.Fits (Foot.of [0x70, 0x71, 0x80, 0x81] [.evr]) s x) ?_ ?_; rotate_left; intro hx; clear_value x; rotate_left; subst x)
       | (refine part_cut (α := type_of% x) (by constructor) ?_; subst x)
       | clear_value x
       | subst x)
    | ((with_reducible refine side_ok ?_); exact rfl)
    | with_reducible assumption
    | ((with_reducible refine keep_goal ?_); exact keep_refl)
    | with_reducible exact fits_refl _ _
    | with_reducible apply put_fits
    | with_reducible apply evt_fits
    | with_reducible apply event_fits
    | split

theorem shadowSeg_fits {g : Foot} {s0 : State} (s : State) (b : List Byte) (hle : (Foot.of [] [.shadow]).le g = true) (h0 : s0.Fits g s) : s0.Fits g (State.shadowSeg s b) := by
  refine fits_app hle ?_ h0
  unfold State.shadowSeg
  repeat' first
    | (extract_lets +onlyGivenNames x
       first
       | (refine fits_cut (p := State.Fits (Foot.of [] [.shadow]) s x) ?_ ?_; rotate_left; intro hx; clear_value x; rotate_left; subst x)
       | (refine part_cut (α := type_of% x) (by constructor) ?_; subst x)
       | clear_value x
       | subst x)
    | ((with_reducible refine side_ok ?_); exact rfl)
    | with_reducible assumption
    | ((with_reducible refine keep_goal ?_); exact keep_refl)
    | with_reducible exact fits_refl _ _
    | with_reducible refine fits_foldl _ _ (fun x hx u hu => ?_) ?_
    | with_reducible apply setShadow_fits
    | split

theorem shadowGeo_fits {g : Foot} {s0 : State} (s : State) (b : List Byte) (tiles : Nat) (hle : (Foot.of [] [.shadow]).le g = true) (h0 : s0.Fits g s) : s0.Fits g (State.shadowGeo s b tiles) := by
  refine fits_app hle ?_ h0
  unfold State.shadowGeo
  repeat' first
    | (extract_lets +onlyGivenNames x
       first
       | (refine fits_cut (p := State.Fits (Foot.of [] [.shadow]) s x) ?_ ?_; rotate_left; intro hx; clear_value x; rotate_left; subst x)
       | (refine part_cut (α := type_of% x) (by constructor) ?_; subst x)
       | clear_value x
       | subst x)
    | ((with_reducible refine side_ok ?_); exact rfl)
    | with_reducible assumption
    | ((with_reducible refine keep_goal ?_); exact keep_refl)
    | with_reducible exact fits_refl _ _
    | with_reducible refine fits_foldl _ _ (fun x hx u hu => ?_) ?_
    | with_reducible apply setShadow_fits
    | ((with_reducible refine side_ok ?_); exact be_unit rfl)
    | split

theorem applyProfile_fits {g : Foot} {s0 : State} (s : State) (b : List Byte) (p : Nat) (cmd : Bool) (hle : (Foot.free).le g = true) (h0 : s0.Fits g s) : s0.Fits g (State.applyProfile s b p cmd) := by
  refine fits_app hle ?_ h0
  unfold State.applyProfile
  repeat' first
    | (extract_lets +onlyGivenNames x
       first
       | (refine fits_cut (p := State.Fits (Foot.free) s x) ?_ ?_; rotate_left; intro hx; clear_value x; rotate_left; subst x)
       | (refine part_cut (α := type_of% x) (by constructor) ?_; subst x)
       | clear_value x
       | subst x)
    | ((with_reducible refine side_ok ?_); exact rfl)
    | with_reducible assumption
    | ((with_reducible refine keep_goal ?_); exact keep_refl)
    | with_reducible exact fits_refl _ _
    | with_reducible refine fits_foldl _ _ (fun x hx u hu => ?_) ?_
    | with_reducible apply put_fits
    | with_reducible apply go_fits
    | with_reducible apply jput_fits
    | with_reducible apply shadowGeo_fits
    | with_reducible apply shadowSeg_fits
    | ((with_reducible refine side_ok ?_); exact list_unit rfl (by assumption))
    | split

theorem tryProfile_fits {g : Foot} {s0 : State} (s : State) (p : Nat) (cmd : Bool) (hle : (Foot.free).le g = true) (h0 : s0.Fits g s) : s0.Fits g (State.tryProfile s p cmd).2 := by
  refine fits_app hle ?_ h0
  unfold State.tryProfile
  repeat' first
    | (extract_lets +onlyGivenNames x
       first
       | (refine fits_cut (p := State.Fits (Foot.free) s x) ?_ ?_; rotate_left; intro hx; clear_value x; rotate_left; subst x)
       | (refine part_cut (α := type_of% x) (by constructor) ?_; subst x)
       | clear_value x
       | subst x)
    | ((with_reducible refine side_ok ?_); exact rfl)
    | with_reducible assumption
    | ((with_reducible refine keep_goal ?_); exact keep_refl)
    | with_reducible exact fits_refl _ _
    | with_reducible apply applyProfile_fits
    | with_reducible apply shadowSeg_fits
    | with_reducible refine tryTables_fits_eq (by assumption) ?_ ?_
    | with_reducible apply tryTables_fits
    | split
    | with_reducible refine fits_snd (by assumption) ?_
    | with_reducible refine fits_thd (by assumption) ?_
    | dsimp only

theorem tryProfile_fits_eq {g : Foot} {s0 : State} {s : State} {p : Nat} {cmd : Bool} {t : State} {r0 : Nat} (h : (State.tryProfile s p cmd) = (r0, t)) (hle : (Foot.free).le g = true) (h0 : s0.Fits g s) : s0.Fits g t := by
  have k := tryProfile_fits s p cmd hle h0
  rw [h] at k
  exact k

theorem tileDefault_fits {g : Foot} {s0 : State} (s : State) (t : Nat) (src : Nat) (hle : (Foot.of [0x48, 0x49] [.mem]).le g = true) (h0 : s0.Fits g s) : s0.Fits g (State.tileDefault s t src) := by
  refine fits_app hle ?_ h0
  unfold State.tileDefault
  repeat' first
    | (extract_lets +onlyGivenNames x
       first
       | (refine fits_cut (p := State.Fits (Foot.of [0x48, 0x49] [.mem]) s x) ?_ ?_; rotate_left; intro hx; clear_value x; rotate_left; subst x)
       | (refine part_cut (α := type_of% x) (by constructor) ?_; subst x)
       | clear_value x
       | subst x)
    | ((with_reducible refine side_ok ?_); exact rfl)
    | with_reducible assumption
    | ((with_reducible refine keep_goal ?_); exact keep_refl)
    | with_reducible exact fits_refl _ _
    | with_reducible apply put_fits
    | with_reducible apply calDefault_fits
    | split

theorem tileLoad_fits {g : Foot} {s0 : State} (s : State) (n : Nat) (t : Nat) (b : List Byte) (hle : (Foot.of [0x48, 0x49, 0x70, 0x71] [.mem, .evr]).le g = true) (h0 : s0.Fits g s) : s0.Fits g (State.tileLoad s n t b) := by
  refine fits_app hle ?_ h0
  unfold State.tileLoad
  repeat' first
    | (extract_lets +onlyGivenNames x
       first
       | (refine fits_cut (p := State.Fits (Foot.of [0x48, 0x49, 0x70, 0x71] [.mem, .evr]) s x) ?_ ?_; rotate_left; intro hx; clear_value x; rotate_left; subst x)
       | (refine part_cut (α := type_of% x) (by constructor) ?_; subst x)
       | clear_value x
       | subst x)
    | ((with_reducible refine side_ok ?_); exact rfl)
    | with_reducible assumption
    | ((with_reducible refine keep_goal ?_); exact keep_refl)
    | with_reducible exact fits_refl _ _
    | with_reducible apply put_fits
    | with_reducible apply setBytes_fits
    | with_reducible refine record_fits_eq (by assumption) ?_ ?_
    | with_reducible apply record_fits
    | split
    | with_reducible refine fits_snd (by assumption) ?_
    | with_reducible refine fits_thd (by assumption) ?_
    | dsimp only

theorem calTileFrom_fits {g : Foot} {s0 : State} (s : State) (n : Nat) (t : Nat) (hle : (Foot.of [0x48, 0x49, 0x70, 0x71] [.mem, .evr]).le g = true) (h0 : s0.Fits g s) : s0.Fits g (State.calTileFrom s n t) := by
  refine fits_app hle ?_ h0
  unfold State.calTileFrom
  repeat' first
    | (extract_lets +onlyGivenNames x
       first
       | (refine fits_cut (p := State.Fits (Foot.of [0x48, 0x49, 0x70, 0x71] [.mem, .evr]) s x) ?_ ?_; rotate_left; intro hx; clear_value x; rotate_left; subst x)
       | (refine part_cut (α := type_of% x) (by constructor) ?_; subst x)
       | clear_value x
       | subst x)
    | ((with_reducible refine side_ok ?_); exact rfl)
    | with_reducible assumption
    | ((with_reducible refine keep_goal ?_); exact keep_refl)
    | with_reducible exact fits_refl _ _
    | with_reducible apply evt_fits
    | with_reducible apply tileDefault_fits
    | with_reducible apply tileLoad_fits
    | split

theorem calUp_fits {g : Foot} {s0 : State} (s : State) (hle : (Foot.of [0x48, 0x49] [.cal]).le g = true) (h0 : s0.Fits g s) : s0.Fits g (State.calUp s) := by
  refine fits_app hle ?_ h0
  unfold State.calUp
  repeat' first
    | (extract_lets +onlyGivenNames x
       first
       | (refine fits_cut (p := State.Fits (Foot.of [0x48, 0x49] [.cal]) s x) ?_ ?_; rotate_left; intro hx; clear_value x; rotate_left; subst x)
       | (refine part_cut (α := type_of% x) (by constructor) ?_; subst x)
       | clear_value x
       | subst x)
    | ((with_reducible refine side_ok ?_); exact rfl)
    | with_reducible assumption
    | ((with_reducible refine keep_goal ?_); exact keep_refl)
    | with_reducible exact fits_refl _ _
    | with_reducible apply put_fits
    | with_reducible apply calCmd_fits
    | split

theorem calAllDefault_fits {g : Foot} {s0 : State} (s : State) (hle : (Foot.of [0x02, 0x48, 0x49] [.mem]).le g = true) (h0 : s0.Fits g s) : s0.Fits g (State.calAllDefault s) := by
  refine fits_app hle ?_ h0
  unfold State.calAllDefault
  repeat' first
    | (extract_lets +onlyGivenNames x
       first
       | (refine fits_cut (p := State.Fits (Foot.of [0x02, 0x48, 0x49] [.mem]) s x) ?_ ?_; rotate_left; intro hx; clear_value x; rotate_left; subst x)
       | (refine part_cut (α := type_of% x) (by constructor) ?_; subst x)
       | clear_value x
       | subst x)
    | ((with_reducible refine side_ok ?_); exact rfl)
    | with_reducible assumption
    | ((with_reducible refine keep_goal ?_); exact keep_refl)
    | with_reducible exact fits_refl _ _
    | with_reducible refine fits_foldl _ _ (fun x hx u hu => ?_) ?_
    | with_reducible apply put_fits
    | with_reducible apply setBytes_fits
    | with_reducible apply tileDefault_fits
    | split

theorem calPending_fits {g : Foot} {s0 : State} (s : State) (hle : (Foot.of [0x02, 0x40, 0x70, 0x71, 0x80] [.mem, .evr, .rst, .gov, .upd]).le g = true) (h0 : s0.Fits g s) : s0.Fits g (State.calPending s) := by
  refine fits_app hle ?_ h0
  unfold State.calPending
  repeat' first
    | (extract_lets +onlyGivenNames x
       first
       | (refine fits_cut (p := State.Fits (Foot.of [0x02, 0x40, 0x70, 0x71, 0x80] [.mem, .evr, .rst, .gov, .upd]) s x) ?_ ?_; rotate_left; intro hx; clear_value x; rotate_left; subst x)
       | (refine part_cut (α := type_of% x) (by constructor) ?_; subst x)
       | clear_value x
       | subst x)
    | ((with_reducible refine side_ok ?_); exact rfl)
    | with_reducible assumption
    | ((with_reducible refine keep_goal ?_); exact keep_refl)
    | with_reducible exact fits_refl _ _
    | with_reducible apply clearAvoid_fits
    | with_reducible apply primary_fits
    | with_reducible apply toSlot_fits
    | split

theorem calLoad_fits {g : Foot} {s0 : State} (s : State) (n : Nat) (hle : (Foot.of [0x00, 0x02, 0x40, 0x48, 0x49, 0x50, 0x68, 0x70, 0x71, 0x80] [.mem, .flt, .evr, .saf, .rst, .lanes]).le g = true) (h0 : s0.Fits g s) : s0.Fits g (State.calLoad s n) := by
  refine fits_app hle ?_ h0
  unfold State.calLoad
  repeat' first
    | (extract_lets +onlyGivenNames x
       first
       | (refine fits_cut (p := State.Fits (Foot.of [0x00, 0x02, 0x40, 0x48, 0x49, 0x50, 0x68, 0x70, 0x71, 0x80] [.mem, .flt, .evr, .saf, .rst, .lanes]) s x) ?_ ?_; rotate_left; intro hx; clear_value x; rotate_left; subst x)
       | (refine part_cut (α := type_of% x) (by constructor) ?_; subst x)
       | clear_value x
       | subst x)
    | ((with_reducible refine side_ok ?_); exact rfl)
    | with_reducible assumption
    | ((with_reducible refine keep_goal ?_); exact keep_refl)
    | with_reducible exact fits_refl _ _
    | with_reducible refine fits_foldl _ _ (fun x hx u hu => ?_) ?_
    | with_reducible apply put_fits
    | with_reducible apply setBytes_fits
    | with_reducible apply calTileFrom_fits
    | with_reducible apply stepDone_fits
    | split

theorem glareUp_fits {g : Foot} {s0 : State} (s : State) (hle : (Foot.of [0x30] []).le g = true) (h0 : s0.Fits g s) : s0.Fits g (State.glareUp s) := by
  refine fits_app hle ?_ h0
  unfold State.glareUp
  repeat' first
    | (extract_lets +onlyGivenNames x
       first
       | (refine fits_cut (p := State.Fits (Foot.of [0x30] []) s x) ?_ ?_; rotate_left; intro hx; clear_value x; rotate_left; subst x)
       | (refine part_cut (α := type_of% x) (by constructor) ?_; subst x)
       | clear_value x
       | subst x)
    | ((with_reducible refine side_ok ?_); exact rfl)
    | with_reducible assumption
    | ((with_reducible refine keep_goal ?_); exact keep_refl)
    | with_reducible exact fits_refl _ _
    | ((with_reducible refine side_ok ?_); exact be_page rfl (List.mem_range.1 (by assumption)))
    | with_reducible refine fits_foldl _ _ (fun x hx u hu => ?_) ?_
    | with_reducible apply put_fits
    | split

theorem loadKernel_fits {g : Foot} {s0 : State} (s : State) (ok : Bool) (hle : (Foot.of [0x78] [.mem]).le g = true) (h0 : s0.Fits g s) : s0.Fits g (State.loadKernel s ok).2 := by
  refine fits_app hle ?_ h0
  unfold State.loadKernel
  repeat' first
    | (extract_lets +onlyGivenNames x
       first
       | (refine fits_cut (p := State.Fits (Foot.of [0x78] [.mem]) s x) ?_ ?_; rotate_left; intro hx; clear_value x; rotate_left; subst x)
       | (refine part_cut (α := type_of% x) (by constructor) ?_; subst x)
       | clear_value x
       | subst x)
    | ((with_reducible refine side_ok ?_); exact rfl)
    | with_reducible assumption
    | ((with_reducible refine keep_goal ?_); exact keep_refl)
    | with_reducible exact fits_refl _ _
    | with_reducible apply setBytes_fits
    | with_reducible refine kernelRej_fits_eq (by assumption) ?_ ?_
    | with_reducible apply kernelRej_fits
    | split
    | with_reducible refine fits_snd (by assumption) ?_
    | with_reducible refine fits_thd (by assumption) ?_
    | dsimp only

theorem loadKernel_fits_eq {g : Foot} {s0 : State} {s : State} {ok : Bool} {t : State} {r0 : Nat} (h : (State.loadKernel s ok) = (r0, t)) (hle : (Foot.of [0x78] [.mem]).le g = true) (h0 : s0.Fits g s) : s0.Fits g t := by
  have k := loadKernel_fits s ok hle h0
  rw [h] at k
  exact k

theorem tilesUp_fits {g : Foot} {s0 : State} (s : State) (hle : (Foot.of [0x50] [.lanes, .tln]).le g = true) (h0 : s0.Fits g s) : s0.Fits g (State.tilesUp s) := by
  refine fits_app hle ?_ h0
  unfold State.tilesUp
  repeat' first
    | (extract_lets +onlyGivenNames x
       first
       | (refine fits_cut (p := State.Fits (Foot.of [0x50] [.lanes, .tln]) s x) ?_ ?_; rotate_left; intro hx; clear_value x; rotate_left; subst x)
       | (refine part_cut (α := type_of% x) (by constructor) ?_; subst x)
       | clear_value x
       | subst x)
    | ((with_reducible refine side_ok ?_); exact rfl)
    | with_reducible assumption
    | ((with_reducible refine keep_goal ?_); exact keep_refl)
    | with_reducible exact fits_refl _ _
    | ((with_reducible refine side_ok ?_); exact tl_page rfl (List.mem_range.1 (List.mem_filter.1 (by assumption)).1))
    | with_reducible refine fits_foldl _ _ (fun x hx u hu => ?_) ?_
    | with_reducible apply put_fits
    | with_reducible apply lanesWake_fits
    | with_reducible apply timerTry_fits
    | split

theorem tileCheck_fits {g : Foot} {s0 : State} (s : State) (t : Nat) (hle : (Foot.of [0x48, 0x49, 0x70, 0x71] [.mem, .evr]).le g = true) (h0 : s0.Fits g s) : s0.Fits g (State.tileCheck s t) := by
  refine fits_app hle ?_ h0
  unfold State.tileCheck
  repeat' first
    | (extract_lets +onlyGivenNames x
       first
       | (refine fits_cut (p := State.Fits (Foot.of [0x48, 0x49, 0x70, 0x71] [.mem, .evr]) s x) ?_ ?_; rotate_left; intro hx; clear_value x; rotate_left; subst x)
       | (refine part_cut (α := type_of% x) (by constructor) ?_; subst x)
       | clear_value x
       | subst x)
    | ((with_reducible refine side_ok ?_); exact rfl)
    | with_reducible assumption
    | ((with_reducible refine keep_goal ?_); exact keep_refl)
    | with_reducible exact fits_refl _ _
    | with_reducible apply put_fits
    | with_reducible apply evt_fits
    | with_reducible refine record_fits_eq (by assumption) ?_ ?_
    | with_reducible apply record_fits
    | with_reducible apply tileDefault_fits
    | split

theorem tilesLeaveLoad_fits {g : Foot} {s0 : State} (s : State) (hle : (Foot.free).le g = true) (h0 : s0.Fits g s) : s0.Fits g (State.tilesLeaveLoad s) := by
  refine fits_app hle ?_ h0
  unfold State.tilesLeaveLoad
  repeat' first
    | (extract_lets +onlyGivenNames x
       first
       | (refine fits_cut (p := State.Fits (Foot.free) s x) ?_ ?_; rotate_left; intro hx; clear_value x; rotate_left; subst x)
       | (refine part_cut (α := type_of% x) (by constructor) ?_; subst x)
       | clear_value x
       | subst x)
    | ((with_reducible refine side_ok ?_); exact rfl)
    | with_reducible assumption
    | ((with_reducible refine keep_goal ?_); exact keep_refl)
    | with_reducible exact fits_refl _ _
    | with_reducible refine fits_foldl _ _ (fun x hx u hu => ?_) ?_
    | with_reducible apply setShadow_fits
    | with_reducible apply go_fits
    | ((with_reducible refine side_ok ?_); exact list_unit rfl (by assumption))
    | split

end Sys2Proof.Laws
end

