-- ==== Sys2Proof/Laws/PagesFits.lean ====
section
/-! SUPPORT. Footprints of the operations of Machine/Pages.lean: one lemma for each, which says what it may touch and that it keeps what every command keeps. -/

set_option linter.unusedTactic false
set_option linter.unreachableTactic false

namespace Sys2Proof.Laws

open Sys2Proof.Machine

theorem readReg_fits {g : Foot} {s0 : State} (s : State) (m : Master) (o : Nat) (hle : (Foot.of [] [.latches]).le g = true) (h0 : s0.Fits g s) : s0.Fits g (State.readReg s m o).2 := by
  refine fits_app hle ?_ h0
  unfold State.readReg
  repeat' first
    | (extract_lets +onlyGivenNames x
       first
       | (refine fits_cut (p := State.Fits (Foot.of [] [.latches]) s x) ?_ ?_; rotate_left; intro hx; clear_value x; rotate_left; subst x)
       | (refine part_cut (α := type_of% x) (by constructor) ?_; subst x)
       | clear_value x
       | subst x)
    | ((with_reducible refine side_ok ?_); exact rfl)
    | with_reducible assumption
    | ((with_reducible refine keep_goal ?_); exact keep_refl)
    | with_reducible exact fits_refl _ _
    | with_reducible apply withLatches_fits
    | with_reducible apply withLatches_fits
    | split
    | with_reducible refine fits_snd (by assumption) ?_
    | with_reducible refine fits_thd (by assumption) ?_
    | dsimp only

theorem readReg_fits_eq {g : Foot} {s0 : State} {s : State} {m : Master} {o : Nat} {t : State} {r0 : Word} (h : (State.readReg s m o) = (r0, t)) (hle : (Foot.of [] [.latches]).le g = true) (h0 : s0.Fits g s) : s0.Fits g t := by
  have k := readReg_fits s m o hle h0
  rw [h] at k
  exact k

end Sys2Proof.Laws
end

