-- ==== Sys2Proof/Laws/BusFits.lean ====
section
/-! SUPPORT. Footprints of the operations of Machine/Bus.lean: one lemma for each, which says what it may touch and that it keeps what every command keeps. -/

set_option linter.unusedTactic false
set_option linter.unreachableTactic false

namespace Sys2Proof.Laws

open Sys2Proof.Machine

theorem violation_fits {g : Foot} {s0 : State} (s : State) (m : Master) (a : Nat) (write : Bool) (hle : (Foot.of [0x00, 0x40, 0x50, 0x68, 0x70, 0x71, 0x78] [.flt, .evr, .saf, .lanes]).le g = true) (h0 : s0.Fits g s) : s0.Fits g (State.violation s m a write) := by
  refine fits_app hle ?_ h0
  unfold State.violation
  repeat' first
    | (extract_lets +onlyGivenNames x
       first
       | (refine fits_cut (p := State.Fits (Foot.of [0x00, 0x40, 0x50, 0x68, 0x70, 0x71, 0x78] [.flt, .evr, .saf, .lanes]) s x) ?_ ?_; rotate_left; intro hx; clear_value x; rotate_left; subst x)
       | (refine part_cut (α := type_of% x) (by constructor) ?_; subst x)
       | clear_value x
       | subst x)
    | ((with_reducible refine side_ok ?_); exact rfl)
    | with_reducible assumption
    | ((with_reducible refine keep_goal ?_); exact keep_refl)
    | with_reducible exact fits_refl _ _
    | with_reducible apply put_fits
    | with_reducible apply evt_fits
    | with_reducible apply incSat_fits
    | with_reducible apply raise_fits
    | ((with_reducible refine side_ok ?_); exact tl_unit rfl)
    | ((with_reducible refine side_ok ?_); exact be_unit rfl)
    | ((with_reducible refine side_ok ?_); exact lay_unit rfl)
    | ((with_reducible refine side_ok ?_); exact crc_unit rfl)
    | ((with_reducible refine side_ok ?_); exact lnk_unit rfl)
    | split

theorem worldBit_fits {g : Foot} {s0 : State} (s : State) (m : Master) (p : Nat) (b : Nat) (hle : (Foot.free).le g = true) (h0 : s0.Fits g s) : s0.Fits g (State.worldBit s m p b) := by
  refine fits_app hle ?_ h0
  unfold State.worldBit
  repeat' first
    | (extract_lets +onlyGivenNames x
       first
       | (refine fits_cut (p := State.Fits (Foot.free) s x) ?_ ?_; rotate_left; intro hx; clear_value x; rotate_left; subst x)
       | (refine part_cut (α := type_of% x) (by constructor) ?_; subst x)
       | clear_value x
       | subst x)
    | ((with_reducible refine side_ok ?_); exact rfl)
    | with_reducible assumption
    | ((with_reducible refine keep_goal ?_); exact keep_refl)
    | with_reducible exact fits_refl _ _
    | with_reducible apply put_fits
    | with_reducible apply violation_fits
    | split

theorem unitOff_fits {g : Foot} {s0 : State} (s : State) (p : Nat) (hle : (Foot.of [0x01, 0x08, 0x09, 0x0A, 0x18, 0x30, 0x40, 0x50, 0x60, 0x68, 0x70, 0x71] [.pend, .pendPages, .flt, .evr, .saf, .quartz, .lnkA, .lnkB, .side, .cmp, .glare, .lanes, .tln, .flx, .seg]).le g = true) (h0 : s0.Fits g s) : s0.Fits g (State.unitOff s p) := by
  refine fits_app hle ?_ h0
  unfold State.unitOff
  repeat' first
    | (extract_lets +onlyGivenNames x
       first
       | (refine fits_cut (p := State.Fits (Foot.of [0x01, 0x08, 0x09, 0x0A, 0x18, 0x30, 0x40, 0x50, 0x60, 0x68, 0x70, 0x71] [.pend, .pendPages, .flt, .evr, .saf, .quartz, .lnkA, .lnkB, .side, .cmp, .glare, .lanes, .tln, .flx, .seg]) s x) ?_ ?_; rotate_left; intro hx; clear_value x; rotate_left; subst x)
       | (refine part_cut (α := type_of% x) (by constructor) ?_; subst x)
       | clear_value x
       | subst x)
    | ((with_reducible refine side_ok ?_); exact rfl)
    | with_reducible assumption
    | ((with_reducible refine keep_goal ?_); exact keep_refl)
    | with_reducible exact fits_refl _ _
    | with_reducible refine fits_foldl _ _ (fun x hx u hu => ?_) ?_
    | with_reducible apply cdrLost_fits
    | with_reducible apply endFrames_fits
    | with_reducible apply laneDisable_fits
    | with_reducible apply linkOff_fits
    | with_reducible apply segOff_fits
    | with_reducible apply sideOff_fits
    | split

theorem unitOn_fits {g : Foot} {s0 : State} (s : State) (p : Nat) (hle : (Foot.of [0x08, 0x09, 0x0A, 0x50] [.lanes, .tln]).le g = true) (h0 : s0.Fits g s) : s0.Fits g (State.unitOn s p) := by
  refine fits_app hle ?_ h0
  unfold State.unitOn
  repeat' first
    | (extract_lets +onlyGivenNames x
       first
       | (refine fits_cut (p := State.Fits (Foot.of [0x08, 0x09, 0x0A, 0x50] [.lanes, .tln]) s x) ?_ ?_; rotate_left; intro hx; clear_value x; rotate_left; subst x)
       | (refine part_cut (α := type_of% x) (by constructor) ?_; subst x)
       | clear_value x
       | subst x)
    | ((with_reducible refine side_ok ?_); exact rfl)
    | with_reducible assumption
    | ((with_reducible refine keep_goal ?_); exact keep_refl)
    | with_reducible exact fits_refl _ _
    | with_reducible apply put_fits
    | with_reducible apply laneEnable_fits
    | with_reducible apply lanesWake_fits
    | with_reducible apply timerTry_fits
    | ((with_reducible refine side_ok ?_); exact lnk_unit rfl)
    | split

theorem enableBit_fits {g : Foot} {s0 : State} (s : State) (p : Nat) (b : Nat) (hle : (Foot.free).le g = true) (h0 : s0.Fits g s) : s0.Fits g (State.enableBit s p b) := by
  refine fits_app hle ?_ h0
  unfold State.enableBit
  repeat' first
    | (extract_lets +onlyGivenNames x
       first
       | (refine fits_cut (p := State.Fits (Foot.free) s x) ?_ ?_; rotate_left; intro hx; clear_value x; rotate_left; subst x)
       | (refine part_cut (α := type_of% x) (by constructor) ?_; subst x)
       | clear_value x
       | subst x)
    | ((with_reducible refine side_ok ?_); exact rfl)
    | with_reducible assumption
    | ((with_reducible refine keep_goal ?_); exact keep_refl)
    | with_reducible exact fits_refl _ _
    | exact fun _ _ => rfl
    | with_reducible apply put_fits
    | with_reducible apply faultIrq_fits
    | with_reducible apply unitOff_fits
    | with_reducible apply unitOn_fits
    | split

theorem ctrlWrite_fits {g : Foot} {s0 : State} (s : State) (m : Master) (p : Nat) (v : Word) (hle : (Foot.free).le g = true) (h0 : s0.Fits g s) : s0.Fits g (State.ctrlWrite s m p v) := by
  refine fits_app hle ?_ h0
  unfold State.ctrlWrite
  repeat' first
    | (extract_lets +onlyGivenNames x
       first
       | (refine fits_cut (p := State.Fits (Foot.free) s x) ?_ ?_; rotate_left; intro hx; clear_value x; rotate_left; subst x)
       | (refine part_cut (α := type_of% x) (by constructor) ?_; subst x)
       | clear_value x
       | subst x)
    | ((with_reducible refine side_ok ?_); exact rfl)
    | with_reducible assumption
    | ((with_reducible refine keep_goal ?_); exact keep_refl)
    | with_reducible exact fits_refl _ _
    | with_reducible apply blkWrite_fits
    | with_reducible apply enableBit_fits
    | with_reducible apply worldBit_fits
    | split

theorem fieldWrite_fits {g : Foot} {s0 : State} (s : State) (o : Nat) (v : Word) (hle : (Foot.free).le g = true) (h0 : s0.Fits g s) : s0.Fits g (State.fieldWrite s o v) := by
  refine fits_app hle ?_ h0
  unfold State.fieldWrite
  repeat' first
    | (extract_lets +onlyGivenNames x
       first
       | (refine fits_cut (p := State.Fits (Foot.free) s x) ?_ ?_; rotate_left; intro hx; clear_value x; rotate_left; subst x)
       | (refine part_cut (α := type_of% x) (by constructor) ?_; subst x)
       | clear_value x
       | subst x)
    | ((with_reducible refine side_ok ?_); exact rfl)
    | with_reducible assumption
    | ((with_reducible refine keep_goal ?_); exact keep_refl)
    | with_reducible exact fits_refl _ _
    | with_reducible apply setShadow_fits
    | with_reducible apply setWord_fits
    | split

theorem afterWrite_fits {g : Foot} {s0 : State} (s : State) (before : Nat) (p : Nat) (off : Nat) (hle : (Foot.of [0x08, 0x09, 0x70, 0x71] [.evr, .flx]).le g = true) (h0 : s0.Fits g s) : s0.Fits g (State.afterWrite s before p off) := by
  refine fits_app hle ?_ h0
  unfold State.afterWrite
  repeat' first
    | (extract_lets +onlyGivenNames x
       first
       | (refine fits_cut (p := State.Fits (Foot.of [0x08, 0x09, 0x70, 0x71] [.evr, .flx]) s x) ?_ ?_; rotate_left; intro hx; clear_value x; rotate_left; subst x)
       | (refine part_cut (α := type_of% x) (by constructor) ?_; subst x)
       | clear_value x
       | subst x)
    | ((with_reducible refine side_ok ?_); exact rfl)
    | with_reducible assumption
    | ((with_reducible refine keep_goal ?_); exact keep_refl)
    | with_reducible exact fits_refl _ _
    | with_reducible refine fits_foldl _ _ (fun x hx u hu => ?_) ?_
    | with_reducible apply feedTo_fits
    | with_reducible apply modFlx_fits
    | ((with_reducible refine side_ok ?_); exact lnk_unit rfl)
    | split

theorem plainWrite_fits {g : Foot} {s0 : State} (s : State) (p : Nat) (off : Nat) (v : Word) (hle : (Foot.free).le g = true) (h0 : s0.Fits g s) : s0.Fits g (State.plainWrite s p off v) := by
  refine fits_app hle ?_ h0
  unfold State.plainWrite
  repeat' first
    | (extract_lets +onlyGivenNames x
       first
       | (refine fits_cut (p := State.Fits (Foot.free) s x) ?_ ?_; rotate_left; intro hx; clear_value x; rotate_left; subst x)
       | (refine part_cut (α := type_of% x) (by constructor) ?_; subst x)
       | clear_value x
       | subst x)
    | ((with_reducible refine side_ok ?_); exact rfl)
    | with_reducible assumption
    | ((with_reducible refine keep_goal ?_); exact keep_refl)
    | with_reducible exact fits_refl _ _
    | with_reducible apply afterWrite_fits
    | with_reducible apply fieldWrite_fits
    | split

theorem specialB_fits {g : Foot} {s0 : State} (s : State) (m : Master) (p : Nat) (off : Nat) (v : Word) (hle : (Foot.free).le g = true) (h0 : s0.Fits g s) : s0.Fits g (State.specialB s m p off v) := by
  refine fits_app hle ?_ h0
  unfold State.specialB
  repeat' first
    | (extract_lets +onlyGivenNames x
       first
       | (refine fits_cut (p := State.Fits (Foot.free) s x) ?_ ?_; rotate_left; intro hx; clear_value x; rotate_left; subst x)
       | (refine part_cut (α := type_of% x) (by constructor) ?_; subst x)
       | clear_value x
       | subst x)
    | ((with_reducible refine side_ok ?_); exact rfl)
    | with_reducible assumption
    | ((with_reducible refine keep_goal ?_); exact keep_refl)
    | with_reducible exact fits_refl _ _
    | with_reducible apply fits_ite
    | with_reducible apply flintKick_fits
    | with_reducible apply fusProg_fits
    | with_reducible apply injectWrite_fits
    | with_reducible apply lbCtrl_fits
    | with_reducible apply lcReq_fits
    | with_reducible apply mbCtrl_fits
    | with_reducible apply pendWrite_fits
    | with_reducible apply plainWrite_fits
    | with_reducible apply recordRead_fits
    | with_reducible apply safReactWrite_fits
    | with_reducible apply safUnlockWrite_fits
    | with_reducible apply soutCtrl_fits
    | with_reducible apply unackWrite_fits
    | split

theorem specialA_fits {g : Foot} {s0 : State} (s : State) (m : Master) (p : Nat) (off : Nat) (v : Word) (hle : (Foot.free).le g = true) (h0 : s0.Fits g s) : s0.Fits g (State.specialA s m p off v) := by
  refine fits_app hle ?_ h0
  unfold State.specialA
  repeat' first
    | (extract_lets +onlyGivenNames x
       first
       | (refine fits_cut (p := State.Fits (Foot.free) s x) ?_ ?_; rotate_left; intro hx; clear_value x; rotate_left; subst x)
       | (refine part_cut (α := type_of% x) (by constructor) ?_; subst x)
       | clear_value x
       | subst x)
    | ((with_reducible refine side_ok ?_); exact rfl)
    | with_reducible assumption
    | ((with_reducible refine keep_goal ?_); exact keep_refl)
    | with_reducible exact fits_refl _ _
    | with_reducible apply fits_ite
    | with_reducible apply bjCtrl_fits
    | with_reducible apply calCmd_fits
    | with_reducible apply commitWrite_fits
    | with_reducible apply ctrlWrite_fits
    | with_reducible apply kload_fits
    | with_reducible apply padWrite_fits
    | with_reducible apply pwrReq_fits
    | with_reducible apply refCmd_fits
    | with_reducible apply rstCmd_fits
    | with_reducible apply specialB_fits
    | with_reducible apply wakeClear_fits
    | with_reducible apply wdtCtrl_fits
    | with_reducible apply wdtKick_fits
    | ((with_reducible refine side_ok ?_); exact list_unit rfl (by assumption))
    | split

theorem pageWrite_fits {g : Foot} {s0 : State} (s : State) (m : Master) (p : Nat) (off : Nat) (v : Word) (hle : (Foot.free).le g = true) (h0 : s0.Fits g s) : s0.Fits g (State.pageWrite s m p off v) := by
  refine fits_app hle ?_ h0
  unfold State.pageWrite
  repeat' first
    | (extract_lets +onlyGivenNames x
       first
       | (refine fits_cut (p := State.Fits (Foot.free) s x) ?_ ?_; rotate_left; intro hx; clear_value x; rotate_left; subst x)
       | (refine part_cut (α := type_of% x) (by constructor) ?_; subst x)
       | clear_value x
       | subst x)
    | ((with_reducible refine side_ok ?_); exact rfl)
    | with_reducible assumption
    | ((with_reducible refine keep_goal ?_); exact keep_refl)
    | with_reducible exact fits_refl _ _
    | with_reducible apply settle_fits
    | with_reducible apply specialA_fits
    | split

theorem memWrite_fits {g : Foot} {s0 : State} (s : State) (m : Master) (a : Nat) (b : List Byte) (hle : (Foot.of [0x00, 0x30, 0x40, 0x48, 0x50, 0x68, 0x70, 0x71, 0x78] [.mem, .flt, .evr, .saf, .lanes]).le g = true) (h0 : s0.Fits g s) : s0.Fits g (State.memWrite s m a b) := by
  refine fits_app hle ?_ h0
  unfold State.memWrite
  repeat' first
    | (extract_lets +onlyGivenNames x
       first
       | (refine fits_cut (p := State.Fits (Foot.of [0x00, 0x30, 0x40, 0x48, 0x50, 0x68, 0x70, 0x71, 0x78] [.mem, .flt, .evr, .saf, .lanes]) s x) ?_ ?_; rotate_left; intro hx; clear_value x; rotate_left; subst x)
       | (refine part_cut (α := type_of% x) (by constructor) ?_; subst x)
       | clear_value x
       | subst x)
    | ((with_reducible refine side_ok ?_); exact rfl)
    | with_reducible assumption
    | ((with_reducible refine keep_goal ?_); exact keep_refl)
    | with_reducible exact fits_refl _ _
    | with_reducible apply evt_fits
    | with_reducible apply setBytes_fits
    | with_reducible apply violation_fits
    | split

theorem eccCor_fits {g : Foot} {s0 : State} (s : State) (a : Nat) (inj : Bool) (hle : (Foot.of [0x00, 0x40, 0x48, 0x50, 0x68, 0x70, 0x71] [.flt, .evr, .saf, .lanes]).le g = true) (h0 : s0.Fits g s) : s0.Fits g (State.eccCor s a inj) := by
  refine fits_app hle ?_ h0
  unfold State.eccCor
  repeat' first
    | (extract_lets +onlyGivenNames x
       first
       | (refine fits_cut (p := State.Fits (Foot.of [0x00, 0x40, 0x48, 0x50, 0x68, 0x70, 0x71] [.flt, .evr, .saf, .lanes]) s x) ?_ ?_; rotate_left; intro hx; clear_value x; rotate_left; subst x)
       | (refine part_cut (α := type_of% x) (by constructor) ?_; subst x)
       | clear_value x
       | subst x)
    | ((with_reducible refine side_ok ?_); exact rfl)
    | with_reducible assumption
    | ((with_reducible refine keep_goal ?_); exact keep_refl)
    | with_reducible exact fits_refl _ _
    | with_reducible apply calCor_fits
    | with_reducible apply gramCor_fits
    | with_reducible apply raiseWith_fits
    | ((with_reducible refine side_ok ?_); exact tl_unit rfl)
    | ((with_reducible refine side_ok ?_); exact be_unit rfl)
    | ((with_reducible refine side_ok ?_); exact lay_unit rfl)
    | ((with_reducible refine side_ok ?_); exact crc_unit rfl)
    | ((with_reducible refine side_ok ?_); exact lnk_unit rfl)
    | split

theorem eccUnc_fits {g : Foot} {s0 : State} (s : State) (a : Nat) (inj : Bool) (hle : (Foot.of [0x00, 0x40, 0x48, 0x50, 0x68, 0x70, 0x71] [.flt, .evr, .saf, .lanes]).le g = true) (h0 : s0.Fits g s) : s0.Fits g (State.eccUnc s a inj) := by
  refine fits_app hle ?_ h0
  unfold State.eccUnc
  repeat' first
    | (extract_lets +onlyGivenNames x
       first
       | (refine fits_cut (p := State.Fits (Foot.of [0x00, 0x40, 0x48, 0x50, 0x68, 0x70, 0x71] [.flt, .evr, .saf, .lanes]) s x) ?_ ?_; rotate_left; intro hx; clear_value x; rotate_left; subst x)
       | (refine part_cut (α := type_of% x) (by constructor) ?_; subst x)
       | clear_value x
       | subst x)
    | ((with_reducible refine side_ok ?_); exact rfl)
    | with_reducible assumption
    | ((with_reducible refine keep_goal ?_); exact keep_refl)
    | with_reducible exact fits_refl _ _
    | with_reducible apply calUnc_fits
    | with_reducible apply gramUnc_fits
    | with_reducible apply raiseWith_fits
    | ((with_reducible refine side_ok ?_); exact tl_unit rfl)
    | ((with_reducible refine side_ok ?_); exact be_unit rfl)
    | ((with_reducible refine side_ok ?_); exact lay_unit rfl)
    | ((with_reducible refine side_ok ?_); exact crc_unit rfl)
    | ((with_reducible refine side_ok ?_); exact lnk_unit rfl)
    | split

theorem eccCheck_fits {g : Foot} {s0 : State} (s : State) (a : Nat) (ecc : Nat) (hle : (Foot.of [0x00, 0x40, 0x48, 0x50, 0x68, 0x70, 0x71] [.flt, .evr, .saf, .lanes]).le g = true) (h0 : s0.Fits g s) : s0.Fits g (State.eccCheck s a ecc).2 := by
  refine fits_app hle ?_ h0
  unfold State.eccCheck
  repeat' first
    | (extract_lets +onlyGivenNames x
       first
       | (refine fits_cut (p := State.Fits (Foot.of [0x00, 0x40, 0x48, 0x50, 0x68, 0x70, 0x71] [.flt, .evr, .saf, .lanes]) s x) ?_ ?_; rotate_left; intro hx; clear_value x; rotate_left; subst x)
       | (refine part_cut (α := type_of% x) (by constructor) ?_; subst x)
       | clear_value x
       | subst x)
    | ((with_reducible refine side_ok ?_); exact rfl)
    | with_reducible assumption
    | ((with_reducible refine keep_goal ?_); exact keep_refl)
    | with_reducible exact fits_refl _ _
    | with_reducible apply consumeInj_fits
    | with_reducible apply eccCor_fits
    | with_reducible apply eccUnc_fits
    | split
    | with_reducible refine fits_snd (by assumption) ?_
    | with_reducible refine fits_thd (by assumption) ?_
    | dsimp only

theorem eccCheck_fits_eq {g : Foot} {s0 : State} {s : State} {a : Nat} {ecc : Nat} {t : State} {r0 : Bool} (h : (State.eccCheck s a ecc) = (r0, t)) (hle : (Foot.of [0x00, 0x40, 0x48, 0x50, 0x68, 0x70, 0x71] [.flt, .evr, .saf, .lanes]).le g = true) (h0 : s0.Fits g s) : s0.Fits g t := by
  have k := eccCheck_fits s a ecc hle h0
  rw [h] at k
  exact k

theorem memRead_fits {g : Foot} {s0 : State} (s : State) (m : Master) (a : Nat) (size : Nat) (ecc : Nat) (hle : (Foot.of [0x00, 0x40, 0x48, 0x50, 0x68, 0x70, 0x71, 0x78] [.flt, .evr, .saf, .lanes, .fresh]).le g = true) (h0 : s0.Fits g s) : s0.Fits g (State.memRead s m a size ecc).2 := by
  refine fits_app hle ?_ h0
  unfold State.memRead
  repeat' first
    | (extract_lets +onlyGivenNames x
       first
       | (refine fits_cut (p := State.Fits (Foot.of [0x00, 0x40, 0x48, 0x50, 0x68, 0x70, 0x71, 0x78] [.flt, .evr, .saf, .lanes, .fresh]) s x) ?_ ?_; rotate_left; intro hx; clear_value x; rotate_left; subst x)
       | (refine part_cut (α := type_of% x) (by constructor) ?_; subst x)
       | clear_value x
       | subst x)
    | ((with_reducible refine side_ok ?_); exact rfl)
    | with_reducible assumption
    | ((with_reducible refine keep_goal ?_); exact keep_refl)
    | with_reducible exact fits_refl _ _
    | with_reducible apply evt_fits
    | with_reducible refine free_fits_eq (by assumption) ?_ ?_
    | with_reducible apply free_fits
    | with_reducible refine eccCheck_fits_eq (by assumption) ?_ ?_
    | with_reducible apply eccCheck_fits
    | with_reducible apply violation_fits
    | split
    | with_reducible refine fits_snd (by assumption) ?_
    | with_reducible refine fits_thd (by assumption) ?_
    | dsimp only

theorem memRead_fits_eq {g : Foot} {s0 : State} {s : State} {m : Master} {a : Nat} {size : Nat} {ecc : Nat} {t : State} {r0 : Word} (h : (State.memRead s m a size ecc) = (r0, t)) (hle : (Foot.of [0x00, 0x40, 0x48, 0x50, 0x68, 0x70, 0x71, 0x78] [.flt, .evr, .saf, .lanes, .fresh]).le g = true) (h0 : s0.Fits g s) : s0.Fits g t := by
  have k := memRead_fits s m a size ecc hle h0
  rw [h] at k
  exact k

theorem busWrite_fits {g : Foot} {s0 : State} (s : State) (m : Master) (a : Nat) (b : List Byte) (hle : (Foot.free).le g = true) (h0 : s0.Fits g s) : s0.Fits g (State.busWrite s m a b) := by
  refine fits_app hle ?_ h0
  unfold State.busWrite
  repeat' first
    | (extract_lets +onlyGivenNames x
       first
       | (refine fits_cut (p := State.Fits (Foot.free) s x) ?_ ?_; rotate_left; intro hx; clear_value x; rotate_left; subst x)
       | (refine part_cut (α := type_of% x) (by constructor) ?_; subst x)
       | clear_value x
       | subst x)
    | ((with_reducible refine side_ok ?_); exact rfl)
    | with_reducible assumption
    | ((with_reducible refine keep_goal ?_); exact keep_refl)
    | with_reducible exact fits_refl _ _
    | with_reducible apply evt_fits
    | with_reducible apply memWrite_fits
    | with_reducible apply pageWrite_fits
    | with_reducible apply violation_fits
    | split

theorem busRead_fits {g : Foot} {s0 : State} (s : State) (m : Master) (a : Nat) (size : Nat) (ecc : Nat) (hle : (Foot.of [0x00, 0x40, 0x48, 0x50, 0x68, 0x70, 0x71, 0x78] [.latches, .flt, .evr, .saf, .lanes, .fresh]).le g = true) (h0 : s0.Fits g s) : s0.Fits g (State.busRead s m a size ecc).2 := by
  refine fits_app hle ?_ h0
  unfold State.busRead
  repeat' first
    | (extract_lets +onlyGivenNames x
       first
       | (refine fits_cut (p := State.Fits (Foot.of [0x00, 0x40, 0x48, 0x50, 0x68, 0x70, 0x71, 0x78] [.latches, .flt, .evr, .saf, .lanes, .fresh]) s x) ?_ ?_; rotate_left; intro hx; clear_value x; rotate_left; subst x)
       | (refine part_cut (α := type_of% x) (by constructor) ?_; subst x)
       | clear_value x
       | subst x)
    | ((with_reducible refine side_ok ?_); exact rfl)
    | with_reducible assumption
    | ((with_reducible refine keep_goal ?_); exact keep_refl)
    | with_reducible exact fits_refl _ _
    | with_reducible apply evt_fits
    | with_reducible refine memRead_fits_eq (by assumption) ?_ ?_
    | with_reducible apply memRead_fits
    | with_reducible refine readReg_fits_eq (by assumption) ?_ ?_
    | with_reducible apply readReg_fits
    | with_reducible apply violation_fits
    | split
    | with_reducible refine fits_snd (by assumption) ?_
    | with_reducible refine fits_thd (by assumption) ?_
    | dsimp only

theorem busRead_fits_eq {g : Foot} {s0 : State} {s : State} {m : Master} {a : Nat} {size : Nat} {ecc : Nat} {t : State} {r0 : Word} (h : (State.busRead s m a size ecc) = (r0, t)) (hle : (Foot.of [0x00, 0x40, 0x48, 0x50, 0x68, 0x70, 0x71, 0x78] [.latches, .flt, .evr, .saf, .lanes, .fresh]).le g = true) (h0 : s0.Fits g s) : s0.Fits g t := by
  have k := busRead_fits s m a size ecc hle h0
  rw [h] at k
  exact k

theorem masterWrite_fits {g : Foot} {s0 : State} (s : State) (m : Master) (a : Nat) (v : Word) (hle : (Foot.free).le g = true) (h0 : s0.Fits g s) : s0.Fits g (State.masterWrite s m a v) := by
  refine fits_app hle ?_ h0
  unfold State.masterWrite
  repeat' first
    | (extract_lets +onlyGivenNames x
       first
       | (refine fits_cut (p := State.Fits (Foot.free) s x) ?_ ?_; rotate_left; intro hx; clear_value x; rotate_left; subst x)
       | (refine part_cut (α := type_of% x) (by constructor) ?_; subst x)
       | clear_value x
       | subst x)
    | ((with_reducible refine side_ok ?_); exact rfl)
    | with_reducible assumption
    | ((with_reducible refine keep_goal ?_); exact keep_refl)
    | with_reducible exact fits_refl _ _
    | with_reducible apply busWrite_fits
    | split

end Sys2Proof.Laws
end

