-- ==== Sys2Proof/Laws/BusWrites.lean ====
section
/-! SUPPORT. A register access of a master as the page's own meaning: what the fabric lets through, and what it refuses. -/

namespace Sys2Proof.Laws

open Sys2Proof.Machine

theorem leBytes_length (n v : Nat) : (leBytes n v).length = n := by
  induction n generalizing v with
  | zero => rfl
  | succ n ih => simp [leBytes, ih]

theorem ofLe_leBytes (n v : Nat) : ofLe (leBytes n v) = v % 256 ^ n := by
  induction n generalizing v with
  | zero => simp [leBytes, ofLe, Nat.mod_one]
  | succ n ih =>
    simp only [leBytes, ofLe, ih, BitVec.toNat_ofNat]
    rw [show (2 : Nat) ^ 8 = 256 from rfl, show 256 ^ (n + 1) = 256 * 256 ^ n from Nat.pow_succ', Nat.mod_mul]

/-- A word laid out in bytes and read back. -/
theorem word_ofLe_leBytes (v : Word) : BitVec.ofNat 32 (ofLe (leBytes 4 v.toNat)) = v := by
  rw [ofLe_leBytes]
  apply BitVec.eq_of_toNat_eq
  have := v.isLt
  simp only [BitVec.toNat_ofNat]
  omega

theorem regionOf_page {p off : Nat} (hp : p < 0x8D) (ho : off < 4096) : regionOf (pageAddr p off) = some .pages := by
  unfold regionOf pageAddr
  repeat' split
  all_goals first | rfl | omega

theorem pageOff_page (p off : Nat) : pageOff (pageAddr p off) = p * 4096 + off := by
  unfold pageOff pageAddr
  omega

/-- A write that the fabric lets through is the page's own. -/
theorem masterWrite_page {s : State} {m : Master} {p off : Nat} (v : Word) (hm : s.masterRuns m = true) (hw : s.mayWrite m p off = true)
    (hp : p < 0x8D) (ha : assigned p = true) (ho : off < 4096) (h4 : off % 4 = 0) : s.masterWrite m (pageAddr p off) v = s.pageWrite m p off v := by
  have hd : (p * 4096 + off) / 4096 = p := by omega
  have hr : (p * 4096 + off) % 4096 = off := by omega
  unfold State.masterWrite State.busWrite
  rw [if_pos hm, if_pos (regionOf_page hp ho)]
  simp only [pageOff_page, hd, hr, leBytes_length, word_ofLe_leBytes]
  have hx : pageAddr p off % 4 = 0 := by unfold pageAddr; omega
  rw [if_neg (by simp [hx]), if_neg (by simp [ha]), if_neg (by simp [hw])]

/-- A write that the fabric refuses is a world violation. -/
theorem masterWrite_refused {s : State} {m : Master} {p off : Nat} (v : Word) (hm : s.masterRuns m = true) (hw : s.mayWrite m p off = false)
    (hp : p < 0x8D) (ha : assigned p = true) (ho : off < 4096) (h4 : off % 4 = 0) :
    s.masterWrite m (pageAddr p off) v = s.violation m (pageAddr p off) true := by
  have hd : (p * 4096 + off) / 4096 = p := by omega
  have hr : (p * 4096 + off) % 4096 = off := by omega
  unfold State.masterWrite State.busWrite
  rw [if_pos hm, if_pos (regionOf_page hp ho)]
  simp only [pageOff_page, hd, hr, leBytes_length]
  have hx : pageAddr p off % 4 = 0 := by unfold pageAddr; omega
  rw [if_neg (by simp [hx]), if_neg (by simp [ha]), if_pos (by simp [hw])]

/-- A master that is not clocked makes no access. -/
theorem masterWrite_still {s : State} {m : Master} (a : Nat) (v : Word) (hm : s.masterRuns m = false) : s.masterWrite m a v = s := by
  unfold State.masterWrite
  rw [if_neg (by simp [hm])]

end Sys2Proof.Laws
end

