-- ==== Sys2Proof/Laws/EngineFits.lean ====
section
/-! SUPPORT. Footprints of the operations of Machine/Engine.lean: one lemma for each, which says what it may touch and that it keeps what every command keeps. -/

set_option linter.unusedTactic false
set_option linter.unreachableTactic false

namespace Sys2Proof.Laws

open Sys2Proof.Machine

theorem regReads_fits {g : Foot} {s0 : State} (s : State) (a : Nat) (k : Nat) (hle : (Foot.of [0x00, 0x40, 0x48, 0x50, 0x68, 0x70, 0x71, 0x78] [.latches, .flt, .evr, .saf, .lanes, .fresh]).le g = true) (h0 : s0.Fits g s) : s0.Fits g (State.regReads s a k).2.2 := by
  induction k generalizing s a with
  | zero => exact h0
  | succ k ih =>
    unfold State.regReads
    repeat' first
      | (extract_lets +onlyGivenNames x
         first
         | (refine fits_cut (p := State.Fits (g) s0 x) ?_ ?_; rotate_left; intro hx; clear_value x; rotate_left; subst x)
         | (refine part_cut (α := type_of% x) (by constructor) ?_; subst x)
         | clear_value x
         | subst x)
      | with_reducible assumption
      | ((with_reducible refine keep_goal ?_); exact keep_refl)
      | ((with_reducible refine side_ok ?_); first | exact unit_via rfl hle | exact part_via rfl hle | exact le_via rfl hle)
      | with_reducible exact fits_refl _ _
      | with_reducible apply ih
      | (with_reducible refine fits_thd (by assumption) ?_; with_reducible apply ih)
      | with_reducible refine busRead_fits_eq (by assumption) ?_ ?_
      | with_reducible apply busRead_fits
      | split
      | with_reducible refine fits_snd (by assumption) ?_
      | with_reducible refine fits_thd (by assumption) ?_
      | dsimp only

theorem regReads_fits_eq {g : Foot} {s0 : State} {s : State} {a : Nat} {k : Nat} {t : State} {r0 : Bool} {r1 : List Word} (h : (State.regReads s a k) = (r0, r1, t)) (hle : (Foot.of [0x00, 0x40, 0x48, 0x50, 0x68, 0x70, 0x71, 0x78] [.latches, .flt, .evr, .saf, .lanes, .fresh]).le g = true) (h0 : s0.Fits g s) : s0.Fits g t := by
  have k := regReads_fits s a k hle h0
  rw [h] at k
  exact k

theorem regWrites_fits {g : Foot} {s0 : State} (s : State) (a : Nat) (l : List Word) (hle : Foot.free.le g = true) (h0 : s0.Fits g s) :
    s0.Fits g (s.regWrites a l).2 := by
  induction l generalizing s a with
  | nil => exact h0
  | cons w l ih =>
    simp only [State.regWrites]
    split
    · exact h0
    · exact ih _ _ (busWrite_fits _ _ _ _ hle h0)

theorem regWrites_fits_eq {g : Foot} {s0 : State} {s : State} {a : Nat} {l : List Word} {b : Bool} {t : State} (h : s.regWrites a l = (b, t))
    (hle : Foot.free.le g = true) (h0 : s0.Fits g s) : s0.Fits g t := fits_snd h (regWrites_fits s a l hle h0)

theorem modifyWith_fits {g : Foot} {s0 : State} (r : Word × State) (a : Nat) (value mask : Word) (hle : Foot.free.le g = true) (h0 : s0.Fits g r.2) :
    s0.Fits g (r.1, r.2.busWrite .reg a (leBytes 4 (modified r.1 value mask).toNat)).2 := busWrite_fits _ _ _ _ hle h0

theorem modifyAt_fits {g : Foot} {s0 : State} (s : State) (a : Nat) (value mask : Word) (hle : Foot.free.le g = true) (h0 : s0.Fits g s) :
    s0.Fits g (s.modifyAt a value mask).2 := by
  have h1 : s0.Fits g (s.readReg .reg (pageOff a)).2 := readReg_fits _ _ _ (le_via rfl hle) h0
  unfold State.modifyAt
  exact modifyWith_fits (s.readReg .reg (pageOff a)) a value mask hle h1

theorem regModify_fits {g : Foot} {s0 : State} (s : State) (p : List Byte) (hle : Foot.free.le g = true) (h0 : s0.Fits g s) :
    s0.Fits g (s.regModify p).2.2 := by
  unfold State.regModify
  split
  · exact modifyAt_fits _ _ _ _ hle h0
  · exact violation_fits _ _ _ _ (le_via rfl hle) h0

theorem regModify_fits_eq {g : Foot} {s0 : State} {s : State} {p : List Byte} {b : Bool} {w : Word} {t : State} (h : s.regModify p = (b, w, t))
    (hle : Foot.free.le g = true) (h0 : s0.Fits g s) : s0.Fits g t := fits_thd h (regModify_fits s p hle h0)

theorem regRespond_fits {g : Foot} {s0 : State} (s : State) (l : Nat) (noop : Bool) (r : List Byte) (hle : (Foot.of [0x00] [.lnkA, .lnkB]).le g = true) (h0 : s0.Fits g s) : s0.Fits g (State.regRespond s l noop r) := by
  refine fits_app hle ?_ h0
  unfold State.regRespond
  repeat' first
    | (extract_lets +onlyGivenNames x
       first
       | (refine fits_cut (p := State.Fits (Foot.of [0x00] [.lnkA, .lnkB]) s x) ?_ ?_; rotate_left; intro hx; clear_value x; rotate_left; subst x)
       | (refine part_cut (α := type_of% x) (by constructor) ?_; subst x)
       | clear_value x
       | subst x)
    | ((with_reducible refine side_ok ?_); exact rfl)
    | with_reducible assumption
    | ((with_reducible refine keep_goal ?_); exact keep_refl)
    | with_reducible exact fits_refl _ _
    | with_reducible apply inc_fits
    | with_reducible apply incSat_fits
    | with_reducible apply modLink_fits
    | split

theorem regAccess_fits {g : Foot} {s0 : State} (s : State) (l : Nat) (p : List Byte) (hle : (Foot.free).le g = true) (h0 : s0.Fits g s) : s0.Fits g (State.regAccess s l p) := by
  refine fits_app hle ?_ h0
  unfold State.regAccess
  repeat' first
    | (extract_lets +onlyGivenNames x
       first
       | (refine fits_cut (p := State.Fits (Foot.free) s x) ?_ ?_; rotate_left; intro hx; clear_value x; rotate_left; subst x)
       | (refine part_cut (α := type_of% x) (by constructor) ?_; subst x)
       | clear_value x
       | subst x)
    | ((with_reducible refine side_ok ?_); exact rfl)
    | with_reducible assumption
    | ((with_reducible refine keep_goal ?_); exact keep_refl)
    | with_reducible exact fits_refl _ _
    | with_reducible refine regModify_fits_eq (by assumption) ?_ ?_
    | with_reducible apply regModify_fits
    | with_reducible refine regReads_fits_eq (by assumption) ?_ ?_
    | with_reducible apply regReads_fits
    | with_reducible apply regRespond_fits
    | with_reducible refine regWrites_fits_eq (by assumption) ?_ ?_
    | with_reducible apply regWrites_fits
    | split
    | with_reducible refine fits_snd (by assumption) ?_
    | with_reducible refine fits_thd (by assumption) ?_
    | dsimp only

theorem regServe_fits {g : Foot} {s0 : State} (s : State) (l : Nat) (p : List Byte) (hle : (Foot.free).le g = true) (h0 : s0.Fits g s) : s0.Fits g (State.regServe s l p) := by
  refine fits_app hle ?_ h0
  unfold State.regServe
  repeat' first
    | (extract_lets +onlyGivenNames x
       first
       | (refine fits_cut (p := State.Fits (Foot.free) s x) ?_ ?_; rotate_left; intro hx; clear_value x; rotate_left; subst x)
       | (refine part_cut (α := type_of% x) (by constructor) ?_; subst x)
       | clear_value x
       | subst x)
    | ((with_reducible refine side_ok ?_); exact rfl)
    | with_reducible assumption
    | ((with_reducible refine keep_goal ?_); exact keep_refl)
    | with_reducible exact fits_refl _ _
    | with_reducible apply evt_fits
    | with_reducible apply regAccess_fits
    | with_reducible apply regRespond_fits
    | split

theorem engineFrame_fits {g : Foot} {s0 : State} (s : State) (l : Nat) (f : RxFrame) (hle : (Foot.free).le g = true) (h0 : s0.Fits g s) : s0.Fits g (State.engineFrame s l f) := by
  refine fits_app hle ?_ h0
  unfold State.engineFrame
  repeat' first
    | (extract_lets +onlyGivenNames x
       first
       | (refine fits_cut (p := State.Fits (Foot.free) s x) ?_ ?_; rotate_left; intro hx; clear_value x; rotate_left; subst x)
       | (refine part_cut (α := type_of% x) (by constructor) ?_; subst x)
       | clear_value x
       | subst x)
    | ((with_reducible refine side_ok ?_); exact rfl)
    | with_reducible assumption
    | ((with_reducible refine keep_goal ?_); exact keep_refl)
    | with_reducible exact fits_refl _ _
    | with_reducible apply classify_fits
    | with_reducible apply regServe_fits
    | split

theorem engineRun_fits {g : Foot} {s0 : State} (s : State) (l : Nat) (k : Nat) (hle : (Foot.free).le g = true) (h0 : s0.Fits g s) : s0.Fits g (State.engineRun s l k) := by
  induction k generalizing s l with
  | zero => exact h0
  | succ k ih =>
    unfold State.engineRun
    repeat' first
      | (extract_lets +onlyGivenNames x
         first
         | (refine fits_cut (p := State.Fits (g) s0 x) ?_ ?_; rotate_left; intro hx; clear_value x; rotate_left; subst x)
         | (refine part_cut (α := type_of% x) (by constructor) ?_; subst x)
         | clear_value x
         | subst x)
      | with_reducible assumption
      | ((with_reducible refine keep_goal ?_); exact keep_refl)
      | ((with_reducible refine side_ok ?_); first | exact unit_via rfl hle | exact part_via rfl hle | exact le_via rfl hle)
      | with_reducible exact fits_refl _ _
      | with_reducible apply ih
      | with_reducible apply engineFrame_fits
      | with_reducible apply modLink_fits
      | split

theorem enginesRun_fits {g : Foot} {s0 : State} (s : State) (hle : (Foot.free).le g = true) (h0 : s0.Fits g s) : s0.Fits g (State.enginesRun s) := by
  refine fits_app hle ?_ h0
  unfold State.enginesRun
  repeat' first
    | (extract_lets +onlyGivenNames x
       first
       | (refine fits_cut (p := State.Fits (Foot.free) s x) ?_ ?_; rotate_left; intro hx; clear_value x; rotate_left; subst x)
       | (refine part_cut (α := type_of% x) (by constructor) ?_; subst x)
       | clear_value x
       | subst x)
    | ((with_reducible refine side_ok ?_); exact rfl)
    | with_reducible assumption
    | ((with_reducible refine keep_goal ?_); exact keep_refl)
    | with_reducible exact fits_refl _ _
    | with_reducible refine fits_foldl _ _ (fun x hx u hu => ?_) ?_
    | with_reducible apply engineRun_fits
    | split

theorem pauseTry_fits {g : Foot} {s0 : State} (s : State) (l : Nat) (hle : (Foot.of [0x08, 0x09] [.lnkA, .lnkB]).le g = true) (h0 : s0.Fits g s) : s0.Fits g (State.pauseTry s l) := by
  refine fits_app hle ?_ h0
  unfold State.pauseTry
  repeat' first
    | (extract_lets +onlyGivenNames x
       first
       | (refine fits_cut (p := State.Fits (Foot.of [0x08, 0x09] [.lnkA, .lnkB]) s x) ?_ ?_; rotate_left; intro hx; clear_value x; rotate_left; subst x)
       | (refine part_cut (α := type_of% x) (by constructor) ?_; subst x)
       | clear_value x
       | subst x)
    | ((with_reducible refine side_ok ?_); exact rfl)
    | with_reducible assumption
    | ((with_reducible refine keep_goal ?_); exact keep_refl)
    | with_reducible exact fits_refl _ _
    | with_reducible apply put_fits
    | with_reducible apply modLink_fits
    | ((with_reducible refine side_ok ?_); exact lnk_unit rfl)
    | split

theorem receive_fits {g : Foot} {s0 : State} (s : State) (l : Nat) (f : Wire) (ftype : Nat) (hle : (Foot.free).le g = true) (h0 : s0.Fits g s) : s0.Fits g (State.receive s l f ftype) := by
  refine fits_app hle ?_ h0
  unfold State.receive
  repeat' first
    | (extract_lets +onlyGivenNames x
       first
       | (refine fits_cut (p := State.Fits (Foot.free) s x) ?_ ?_; rotate_left; intro hx; clear_value x; rotate_left; subst x)
       | (refine part_cut (α := type_of% x) (by constructor) ?_; subst x)
       | clear_value x
       | subst x)
    | ((with_reducible refine side_ok ?_); exact rfl)
    | with_reducible assumption
    | ((with_reducible refine keep_goal ?_); exact keep_refl)
    | with_reducible exact fits_refl _ _
    | with_reducible apply evt_fits
    | with_reducible refine checkFrame_fits_eq (by assumption) ?_ ?_
    | with_reducible apply checkFrame_fits
    | with_reducible apply engineRun_fits
    | with_reducible apply modLink_fits
    | with_reducible apply pauseTry_fits
    | ((with_reducible refine side_ok ?_); exact lnk_unit rfl)
    | split
    | with_reducible refine fits_snd (by assumption) ?_
    | with_reducible refine fits_thd (by assumption) ?_
    | dsimp only

theorem applyEntries_fits {g : Foot} {s0 : State} (s : State) (m : Master) (l : List (Nat × Word)) (hle : (Foot.free).le g = true) (h0 : s0.Fits g s) : s0.Fits g (State.applyEntries s m l) := by
  refine fits_app hle ?_ h0
  unfold State.applyEntries
  repeat' first
    | (extract_lets +onlyGivenNames x
       first
       | (refine fits_cut (p := State.Fits (Foot.free) s x) ?_ ?_; rotate_left; intro hx; clear_value x; rotate_left; subst x)
       | (refine part_cut (α := type_of% x) (by constructor) ?_; subst x)
       | clear_value x
       | subst x)
    | ((with_reducible refine side_ok ?_); exact rfl)
    | with_reducible assumption
    | ((with_reducible refine keep_goal ?_); exact keep_refl)
    | with_reducible exact fits_refl _ _
    | with_reducible refine fits_foldl _ _ (fun x hx u hu => ?_) ?_
    | with_reducible refine fits_foldl_snd _ _ (fun x hx b u hu => ?_) ?_
    | with_reducible apply busWrite_fits
    | split
    | with_reducible refine fits_snd (by assumption) ?_
    | with_reducible refine fits_thd (by assumption) ?_
    | dsimp only

theorem spiErr_fits {g : Foot} {s0 : State} (s : State) (hle : (Foot.of [0x00] [.spi]).le g = true) (h0 : s0.Fits g s) : s0.Fits g (State.spiErr s) := by
  refine fits_app hle ?_ h0
  unfold State.spiErr
  repeat' first
    | (extract_lets +onlyGivenNames x
       first
       | (refine fits_cut (p := State.Fits (Foot.of [0x00] [.spi]) s x) ?_ ?_; rotate_left; intro hx; clear_value x; rotate_left; subst x)
       | (refine part_cut (α := type_of% x) (by constructor) ?_; subst x)
       | clear_value x
       | subst x)
    | ((with_reducible refine side_ok ?_); exact rfl)
    | with_reducible assumption
    | ((with_reducible refine keep_goal ?_); exact keep_refl)
    | with_reducible exact fits_refl _ _
    | with_reducible apply evt_fits
    | with_reducible apply withSpi_fits
    | with_reducible apply withSpi_fits
    | split

theorem pktErr_fits {g : Foot} {s0 : State} (s : State) (hle : (Foot.of [0x00] [.spi]).le g = true) (h0 : s0.Fits g s) : s0.Fits g (State.pktErr s) := by
  refine fits_app hle ?_ h0
  unfold State.pktErr
  repeat' first
    | (extract_lets +onlyGivenNames x
       first
       | (refine fits_cut (p := State.Fits (Foot.of [0x00] [.spi]) s x) ?_ ?_; rotate_left; intro hx; clear_value x; rotate_left; subst x)
       | (refine part_cut (α := type_of% x) (by constructor) ?_; subst x)
       | clear_value x
       | subst x)
    | ((with_reducible refine side_ok ?_); exact rfl)
    | with_reducible assumption
    | ((with_reducible refine keep_goal ?_); exact keep_refl)
    | with_reducible exact fits_refl _ _
    | with_reducible apply evt_fits
    | with_reducible apply withSpi_fits
    | with_reducible apply withSpi_fits
    | split

theorem spiReadWord_fits {g : Foot} {s0 : State} (s : State) (a : Nat) (hle : (Foot.of [0x00, 0x40, 0x48, 0x50, 0x68, 0x70, 0x71, 0x78] [.latches, .flt, .evr, .saf, .spi, .lanes, .fresh]).le g = true) (h0 : s0.Fits g s) : s0.Fits g (State.spiReadWord s a).2 := by
  refine fits_app hle ?_ h0
  unfold State.spiReadWord
  repeat' first
    | (extract_lets +onlyGivenNames x
       first
       | (refine fits_cut (p := State.Fits (Foot.of [0x00, 0x40, 0x48, 0x50, 0x68, 0x70, 0x71, 0x78] [.latches, .flt, .evr, .saf, .spi, .lanes, .fresh]) s x) ?_ ?_; rotate_left; intro hx; clear_value x; rotate_left; subst x)
       | (refine part_cut (α := type_of% x) (by constructor) ?_; subst x)
       | clear_value x
       | subst x)
    | ((with_reducible refine side_ok ?_); exact rfl)
    | with_reducible assumption
    | ((with_reducible refine keep_goal ?_); exact keep_refl)
    | with_reducible exact fits_refl _ _
    | with_reducible refine busRead_fits_eq (by assumption) ?_ ?_
    | with_reducible apply busRead_fits
    | with_reducible apply spiErr_fits
    | split
    | with_reducible refine fits_snd (by assumption) ?_
    | with_reducible refine fits_thd (by assumption) ?_
    | dsimp only

theorem spiReadWord_fits_eq {g : Foot} {s0 : State} {s : State} {a : Nat} {t : State} {r0 : Word} (h : (State.spiReadWord s a) = (r0, t)) (hle : (Foot.of [0x00, 0x40, 0x48, 0x50, 0x68, 0x70, 0x71, 0x78] [.latches, .flt, .evr, .saf, .spi, .lanes, .fresh]).le g = true) (h0 : s0.Fits g s) : s0.Fits g t := by
  have k := spiReadWord_fits s a hle h0
  rw [h] at k
  exact k

theorem spiReads_fits {g : Foot} {s0 : State} (s : State) (a : Nat) (k : Nat) (hle : (Foot.of [0x00, 0x40, 0x48, 0x50, 0x68, 0x70, 0x71, 0x78] [.latches, .flt, .evr, .saf, .spi, .lanes, .fresh]).le g = true) (h0 : s0.Fits g s) : s0.Fits g (State.spiReads s a k).2 := by
  induction k generalizing s a with
  | zero => exact h0
  | succ k ih =>
    unfold State.spiReads
    repeat' first
      | (extract_lets +onlyGivenNames x
         first
         | (refine fits_cut (p := State.Fits (g) s0 x) ?_ ?_; rotate_left; intro hx; clear_value x; rotate_left; subst x)
         | (refine part_cut (α := type_of% x) (by constructor) ?_; subst x)
         | clear_value x
         | subst x)
      | with_reducible assumption
      | ((with_reducible refine keep_goal ?_); exact keep_refl)
      | ((with_reducible refine side_ok ?_); first | exact unit_via rfl hle | exact part_via rfl hle | exact le_via rfl hle)
      | with_reducible exact fits_refl _ _
      | with_reducible apply ih
      | (with_reducible refine fits_snd (by assumption) ?_; with_reducible apply ih)
      | with_reducible refine spiReadWord_fits_eq (by assumption) ?_ ?_
      | with_reducible apply spiReadWord_fits
      | split
      | with_reducible refine fits_snd (by assumption) ?_
      | with_reducible refine fits_thd (by assumption) ?_
      | dsimp only

theorem spiReads_fits_eq {g : Foot} {s0 : State} {s : State} {a : Nat} {k : Nat} {t : State} {r0 : List Word} (h : (State.spiReads s a k) = (r0, t)) (hle : (Foot.of [0x00, 0x40, 0x48, 0x50, 0x68, 0x70, 0x71, 0x78] [.latches, .flt, .evr, .saf, .spi, .lanes, .fresh]).le g = true) (h0 : s0.Fits g s) : s0.Fits g t := by
  have k := spiReads_fits s a k hle h0
  rw [h] at k
  exact k

theorem spiWriteWord_fits {g : Foot} {s0 : State} (s : State) (a : Nat) (b : List Byte) (hle : (Foot.free).le g = true) (h0 : s0.Fits g s) : s0.Fits g (State.spiWriteWord s a b) := by
  refine fits_app hle ?_ h0
  unfold State.spiWriteWord
  repeat' first
    | (extract_lets +onlyGivenNames x
       first
       | (refine fits_cut (p := State.Fits (Foot.free) s x) ?_ ?_; rotate_left; intro hx; clear_value x; rotate_left; subst x)
       | (refine part_cut (α := type_of% x) (by constructor) ?_; subst x)
       | clear_value x
       | subst x)
    | ((with_reducible refine side_ok ?_); exact rfl)
    | with_reducible assumption
    | ((with_reducible refine keep_goal ?_); exact keep_refl)
    | with_reducible exact fits_refl _ _
    | with_reducible apply busWrite_fits
    | with_reducible apply spiErr_fits
    | split

end Sys2Proof.Laws
end

