-- ==== Sys2Proof/Laws/TickFits.lean ====
section
/-! SUPPORT. Footprints of the operations of Machine/Tick.lean: one lemma for each, which says what it may touch and that it keeps what every command keeps. -/

set_option linter.unusedTactic false
set_option linter.unreachableTactic false

namespace Sys2Proof.Laws

open Sys2Proof.Machine

theorem tickLinkTime_fits {g : Foot} {s0 : State} (s : State) (hle : (Foot.of [] [.lt, .slew]).le g = true) (h0 : s0.Fits g s) : s0.Fits g (State.tickLinkTime s) := by
  refine fits_app hle ?_ h0
  unfold State.tickLinkTime
  repeat' first
    | (extract_lets +onlyGivenNames x
       first
       | (refine fits_cut (p := State.Fits (Foot.of [] [.lt, .slew]) s x) ?_ ?_; rotate_left; intro hx; clear_value x; rotate_left; subst x)
       | (refine part_cut (α := type_of% x) (by constructor) ?_; subst x)
       | clear_value x
       | subst x)
    | ((with_reducible refine side_ok ?_); exact rfl)
    | with_reducible assumption
    | ((with_reducible refine keep_goal ?_); exact keep_refl)
    | with_reducible exact fits_refl _ _
    | with_reducible apply withLt_fits
    | with_reducible apply withSlew_fits
    | with_reducible apply withLt_fits
    | with_reducible apply withSlew_fits
    | split

theorem tickHours_fits {g : Foot} {s0 : State} (s : State) (hle : (Foot.of [0x71] [.ohSub]).le g = true) (h0 : s0.Fits g s) : s0.Fits g (State.tickHours s) := by
  refine fits_app hle ?_ h0
  unfold State.tickHours
  repeat' first
    | (extract_lets +onlyGivenNames x
       first
       | (refine fits_cut (p := State.Fits (Foot.of [0x71] [.ohSub]) s x) ?_ ?_; rotate_left; intro hx; clear_value x; rotate_left; subst x)
       | (refine part_cut (α := type_of% x) (by constructor) ?_; subst x)
       | clear_value x
       | subst x)
    | ((with_reducible refine side_ok ?_); exact rfl)
    | with_reducible assumption
    | ((with_reducible refine keep_goal ?_); exact keep_refl)
    | with_reducible exact fits_refl _ _
    | with_reducible apply setOh_fits
    | with_reducible apply withOhSub_fits
    | with_reducible apply withOhSub_fits
    | split

theorem startBack_fits {g : Foot} {s0 : State} (s : State) (l : Nat) (hle : (Foot.of [0x30, 0x88] [.lnkA, .lnkB]).le g = true) (h0 : s0.Fits g s) : s0.Fits g (State.startBack s l) := by
  refine fits_app hle ?_ h0
  unfold State.startBack
  repeat' first
    | (extract_lets +onlyGivenNames x
       first
       | (refine fits_cut (p := State.Fits (Foot.of [0x30, 0x88] [.lnkA, .lnkB]) s x) ?_ ?_; rotate_left; intro hx; clear_value x; rotate_left; subst x)
       | (refine part_cut (α := type_of% x) (by constructor) ?_; subst x)
       | clear_value x
       | subst x)
    | ((with_reducible refine side_ok ?_); exact rfl)
    | with_reducible assumption
    | ((with_reducible refine keep_goal ?_); exact keep_refl)
    | with_reducible exact fits_refl _ _
    | with_reducible apply backCrc_fits
    | with_reducible apply cycles_fits
    | with_reducible apply modLink_fits
    | split

theorem tickBack_fits {g : Foot} {s0 : State} (s : State) (l : Nat) (hle : (Foot.of [0x30, 0x88] [.lnkA, .lnkB]).le g = true) (h0 : s0.Fits g s) : s0.Fits g (State.tickBack s l) := by
  refine fits_app hle ?_ h0
  unfold State.tickBack
  repeat' first
    | (extract_lets +onlyGivenNames x
       first
       | (refine fits_cut (p := State.Fits (Foot.of [0x30, 0x88] [.lnkA, .lnkB]) s x) ?_ ?_; rotate_left; intro hx; clear_value x; rotate_left; subst x)
       | (refine part_cut (α := type_of% x) (by constructor) ?_; subst x)
       | clear_value x
       | subst x)
    | ((with_reducible refine side_ok ?_); exact rfl)
    | with_reducible assumption
    | ((with_reducible refine keep_goal ?_); exact keep_refl)
    | with_reducible exact fits_refl _ _
    | with_reducible apply modLink_fits
    | with_reducible apply startBack_fits
    | split

theorem tickSide_fits {g : Foot} {s0 : State} (s : State) (hle : (Foot.of [] [.side]).le g = true) (h0 : s0.Fits g s) : s0.Fits g (State.tickSide s) := by
  refine fits_app hle ?_ h0
  unfold State.tickSide
  repeat' first
    | (extract_lets +onlyGivenNames x
       first
       | (refine fits_cut (p := State.Fits (Foot.of [] [.side]) s x) ?_ ?_; rotate_left; intro hx; clear_value x; rotate_left; subst x)
       | (refine part_cut (α := type_of% x) (by constructor) ?_; subst x)
       | clear_value x
       | subst x)
    | ((with_reducible refine side_ok ?_); exact rfl)
    | with_reducible assumption
    | ((with_reducible refine keep_goal ?_); exact keep_refl)
    | with_reducible exact fits_refl _ _
    | with_reducible apply withSide_fits
    | with_reducible apply withSide_fits
    | split

theorem tick_fits {g : Foot} {s0 : State} (s : State) (hle : (Foot.free).le g = true) (h0 : s0.Fits g s) : s0.Fits g (State.tick s) := by
  refine fits_app hle ?_ h0
  unfold State.tick
  repeat' first
    | (extract_lets +onlyGivenNames x
       first
       | (refine fits_cut (p := State.Fits (Foot.free) s x) ?_ ?_; rotate_left; intro hx; clear_value x; rotate_left; subst x)
       | (refine part_cut (α := type_of% x) (by constructor) ?_; subst x)
       | clear_value x
       | subst x)
    | ((with_reducible refine side_ok ?_); exact rfl)
    | with_reducible assumption
    | ((with_reducible refine keep_goal ?_); exact keep_refl)
    | with_reducible exact fits_refl _ _
    | exact Nat.le_succ _
    | with_reducible refine fits_foldl _ _ (fun x hx u hu => ?_) ?_
    | with_reducible apply begin_fits
    | with_reducible apply enginesRun_fits
    | with_reducible apply tempLost_fits
    | with_reducible apply tickBack_fits
    | with_reducible apply tickHours_fits
    | with_reducible apply tickLinkTime_fits
    | with_reducible apply tickSide_fits
    | with_reducible apply withNow_fits
    | with_reducible apply withNow_fits
    | split

end Sys2Proof.Laws
end

