-- ==== Sys2Proof/Laws/Does.lean ====
section
/-! SUPPORT. The form in which the footprint of a whole command is said, for Sys2Proof/Laws/ExecFits.lean. -/

namespace Sys2Proof.Laws

open Sys2Proof.Machine

/-- A command answers a next state that fits a footprint. -/
def Does (f : Foot) (s : State) (o : Host.Outcome State Fault Refusal) : Prop := ∃ t, o = .next t ∧ s.Fits f t

theorem does_next {f : Foot} {s t : State} (h : s.Fits f t) : Does f s (.next t) := ⟨t, rfl, h⟩

/-- Every event of a rejected safe frame is one of CSF. -/
theorem sfReject_page {s : State} {l : Nat} {p : List Byte} {e : Fld} (h : s.sfReject l p = some e) : e.page = 0x0B := by
  unfold State.sfReject at h
  repeat' (split at h)
  all_goals first | (cases h; rfl) | cases h

end Sys2Proof.Laws
end

