-- ==== Sys2Proof/Laws/ExecFits.lean ====
section
/-! SUPPORT. What each command may touch, and that it answers a next state and keeps what every command keeps: one lemma for each
meaning. -/

set_option linter.unusedTactic false
set_option linter.unreachableTactic false

namespace Sys2Proof.Laws

open Sys2Proof.Machine

theorem execRcStart_fits (fail : Nat) (s : State) : Does (Foot.of [0x00, 0x01, 0x02, 0x08, 0x09, 0x0A, 0x0B, 0x40, 0x50, 0x68, 0x70, 0x71, 0x79, 0x81] [.mem, .flt, .evr, .saf, .rst, .quartz, .lnkA, .lnkB, .side, .lanes, .sec, .fresh]) s (execRcStart fail s) := by
  unfold execRcStart
  repeat' first
    | (extract_lets +onlyGivenNames x
       first
       | (refine fits_cut (p := State.Fits (Foot.of [0x00, 0x01, 0x02, 0x08, 0x09, 0x0A, 0x0B, 0x40, 0x50, 0x68, 0x70, 0x71, 0x79, 0x81] [.mem, .flt, .evr, .saf, .rst, .quartz, .lnkA, .lnkB, .side, .lanes, .sec, .fresh]) s x) ?_ ?_; rotate_left; intro hx; clear_value x; rotate_left; subst x)
       | (refine part_cut (α := type_of% x) (by constructor) ?_; subst x)
       | clear_value x
       | subst x)
    | ((with_reducible refine side_ok ?_); exact rfl)
    | with_reducible assumption
    | ((with_reducible refine keep_goal ?_); exact keep_refl)
    | with_reducible exact fits_refl _ _
    | with_reducible refine does_next ?_
    | with_reducible apply put_fits
    | with_reducible apply begin_fits
    | with_reducible apply linksLock_fits
    | with_reducible apply rootGate_fits
    | with_reducible apply tryRelease_fits
    | with_reducible apply withQuartz_fits
    | with_reducible apply withQuartz_fits
    | split

theorem execRcRetry_fits (s : State) : Does (Foot.of [0x01] [.flt, .saf, .quartz]) s (execRcRetry s) := by
  unfold execRcRetry
  repeat' first
    | (extract_lets +onlyGivenNames x
       first
       | (refine fits_cut (p := State.Fits (Foot.of [0x01] [.flt, .saf, .quartz]) s x) ?_ ?_; rotate_left; intro hx; clear_value x; rotate_left; subst x)
       | (refine part_cut (α := type_of% x) (by constructor) ?_; subst x)
       | clear_value x
       | subst x)
    | ((with_reducible refine side_ok ?_); exact rfl)
    | with_reducible assumption
    | ((with_reducible refine keep_goal ?_); exact keep_refl)
    | with_reducible exact fits_refl _ _
    | with_reducible refine does_next ?_
    | with_reducible apply begin_fits
    | with_reducible apply rcAttempt_fits
    | split

theorem execRefCdrLock_fits (s : State) : Does (Foot.of [0x01, 0x08, 0x09] [.flt, .saf, .quartz]) s (execRefCdrLock s) := by
  unfold execRefCdrLock
  repeat' first
    | (extract_lets +onlyGivenNames x
       first
       | (refine fits_cut (p := State.Fits (Foot.of [0x01, 0x08, 0x09] [.flt, .saf, .quartz]) s x) ?_ ?_; rotate_left; intro hx; clear_value x; rotate_left; subst x)
       | (refine part_cut (α := type_of% x) (by constructor) ?_; subst x)
       | clear_value x
       | subst x)
    | ((with_reducible refine side_ok ?_); exact rfl)
    | with_reducible assumption
    | ((with_reducible refine keep_goal ?_); exact keep_refl)
    | with_reducible exact fits_refl _ _
    | with_reducible refine does_next ?_
    | with_reducible apply begin_fits
    | with_reducible apply refConnect_fits
    | with_reducible apply setLock_fits
    | split

theorem execAcqTmoExpiry_fits (s : State) : Does (Foot.of [0x01] [.flt, .saf, .quartz]) s (execAcqTmoExpiry s) := by
  unfold execAcqTmoExpiry
  repeat' first
    | (extract_lets +onlyGivenNames x
       first
       | (refine fits_cut (p := State.Fits (Foot.of [0x01] [.flt, .saf, .quartz]) s x) ?_ ?_; rotate_left; intro hx; clear_value x; rotate_left; subst x)
       | (refine part_cut (α := type_of% x) (by constructor) ?_; subst x)
       | clear_value x
       | subst x)
    | ((with_reducible refine side_ok ?_); exact rfl)
    | with_reducible assumption
    | ((with_reducible refine keep_goal ?_); exact keep_refl)
    | ((with_reducible refine keep_ok ?_); intro h; simpa [Saf.shaped, Quartz.shaped, Cmd.shaped, Glare.shaped, Gov.shaped, Cal.shaped, Flx.shaped, Fus.shaped, Upd.shaped] using h)
    | with_reducible exact fits_refl _ _
    | with_reducible refine does_next ?_
    | with_reducible apply evt_fits
    | with_reducible apply begin_fits
    | with_reducible apply refConnect_fits
    | with_reducible apply withQuartz_fits
    | with_reducible apply withQuartz_fits
    | split

theorem execRootLoopLock_fits (s : State) : Does (Foot.of [0x01] [.flt, .saf]) s (execRootLoopLock s) := by
  unfold execRootLoopLock
  repeat' first
    | (extract_lets +onlyGivenNames x
       first
       | (refine fits_cut (p := State.Fits (Foot.of [0x01] [.flt, .saf]) s x) ?_ ?_; rotate_left; intro hx; clear_value x; rotate_left; subst x)
       | (refine part_cut (α := type_of% x) (by constructor) ?_; subst x)
       | clear_value x
       | subst x)
    | ((with_reducible refine side_ok ?_); exact rfl)
    | with_reducible assumption
    | ((with_reducible refine keep_goal ?_); exact keep_refl)
    | with_reducible exact fits_refl _ _
    | with_reducible refine does_next ?_
    | with_reducible apply put_fits
    | with_reducible apply begin_fits
    | split

theorem execAcquireTimeout_fits (s : State) : Does (Foot.of [0x01] [.flt, .saf]) s (execAcquireTimeout s) := by
  unfold execAcquireTimeout
  repeat' first
    | (extract_lets +onlyGivenNames x
       first
       | (refine fits_cut (p := State.Fits (Foot.of [0x01] [.flt, .saf]) s x) ?_ ?_; rotate_left; intro hx; clear_value x; rotate_left; subst x)
       | (refine part_cut (α := type_of% x) (by constructor) ?_; subst x)
       | clear_value x
       | subst x)
    | ((with_reducible refine side_ok ?_); exact rfl)
    | with_reducible assumption
    | ((with_reducible refine keep_goal ?_); exact keep_refl)
    | with_reducible exact fits_refl _ _
    | with_reducible refine does_next ?_
    | with_reducible apply put_fits
    | with_reducible apply begin_fits
    | split

theorem execDividersRunning_fits (s : State) : Does (Foot.of [0x00, 0x01, 0x02, 0x08, 0x09, 0x0B, 0x40, 0x50, 0x68, 0x70, 0x71] [.mem, .lt, .slew, .ltApplied, .flt, .evr, .saf, .rst, .quartz, .lnkA, .lnkB, .lanes, .tln, .pwr]) s (execDividersRunning s) := by
  unfold execDividersRunning
  repeat' first
    | (extract_lets +onlyGivenNames x
       first
       | (refine fits_cut (p := State.Fits (Foot.of [0x00, 0x01, 0x02, 0x08, 0x09, 0x0B, 0x40, 0x50, 0x68, 0x70, 0x71] [.mem, .lt, .slew, .ltApplied, .flt, .evr, .saf, .rst, .quartz, .lnkA, .lnkB, .lanes, .tln, .pwr]) s x) ?_ ?_; rotate_left; intro hx; clear_value x; rotate_left; subst x)
       | (refine part_cut (α := type_of% x) (by constructor) ?_; subst x)
       | clear_value x
       | subst x)
    | ((with_reducible refine side_ok ?_); exact rfl)
    | with_reducible assumption
    | ((with_reducible refine keep_goal ?_); exact keep_refl)
    | with_reducible exact fits_refl _ _
    | with_reducible refine does_next ?_
    | with_reducible apply begin_fits
    | with_reducible apply rootLocked_fits
    | split

theorem execReferenceLoss_fits (s : State) : Does (Foot.of [0x01] [.flt, .saf, .quartz]) s (execReferenceLoss s) := by
  unfold execReferenceLoss
  repeat' first
    | (extract_lets +onlyGivenNames x
       first
       | (refine fits_cut (p := State.Fits (Foot.of [0x01] [.flt, .saf, .quartz]) s x) ?_ ?_; rotate_left; intro hx; clear_value x; rotate_left; subst x)
       | (refine part_cut (α := type_of% x) (by constructor) ?_; subst x)
       | clear_value x
       | subst x)
    | ((with_reducible refine side_ok ?_); exact rfl)
    | with_reducible assumption
    | ((with_reducible refine keep_goal ?_); exact keep_refl)
    | with_reducible exact fits_refl _ _
    | with_reducible refine does_next ?_
    | with_reducible apply begin_fits
    | with_reducible apply refLost_fits
    | split

theorem execLinkEligible_fits (s : State) : Does (Foot.of [0x01] [.flt, .saf, .quartz]) s (execLinkEligible s) := by
  unfold execLinkEligible
  repeat' first
    | (extract_lets +onlyGivenNames x
       first
       | (refine fits_cut (p := State.Fits (Foot.of [0x01] [.flt, .saf, .quartz]) s x) ?_ ?_; rotate_left; intro hx; clear_value x; rotate_left; subst x)
       | (refine part_cut (α := type_of% x) (by constructor) ?_; subst x)
       | clear_value x
       | subst x)
    | ((with_reducible refine side_ok ?_); exact rfl)
    | with_reducible assumption
    | ((with_reducible refine keep_goal ?_); exact keep_refl)
    | with_reducible exact fits_refl _ _
    | with_reducible refine does_next ?_
    | with_reducible apply begin_fits
    | with_reducible apply leaveHoldover_fits
    | split

theorem execFreqWindowEnd_fits (l : Nat) (ppm : Int) (s : State) : Does (Foot.of [0x01] [.flt, .saf, .quartz]) s (execFreqWindowEnd l ppm s) := by
  unfold execFreqWindowEnd
  repeat' first
    | (extract_lets +onlyGivenNames x
       first
       | (refine fits_cut (p := State.Fits (Foot.of [0x01] [.flt, .saf, .quartz]) s x) ?_ ?_; rotate_left; intro hx; clear_value x; rotate_left; subst x)
       | (refine part_cut (α := type_of% x) (by constructor) ?_; subst x)
       | clear_value x
       | subst x)
    | ((with_reducible refine side_ok ?_); exact rfl)
    | with_reducible assumption
    | ((with_reducible refine keep_goal ?_); exact keep_refl)
    | ((with_reducible refine keep_ok ?_); intro h; simpa [Saf.shaped, Quartz.shaped, Cmd.shaped, Glare.shaped, Gov.shaped, Cal.shaped, Flx.shaped, Fus.shaped, Upd.shaped] using h)
    | with_reducible exact fits_refl _ _
    | with_reducible refine does_next ?_
    | with_reducible apply put_fits
    | with_reducible apply begin_fits
    | with_reducible apply withQuartz_fits
    | ((with_reducible refine side_ok ?_); exact lnk_unit rfl)
    | with_reducible apply withQuartz_fits
    | split

theorem execMuxSwitch_fits (wait : Nat) (s : State) : Does (Foot.of [0x01] [.flt, .saf, .quartz]) s (execMuxSwitch wait s) := by
  unfold execMuxSwitch
  repeat' first
    | (extract_lets +onlyGivenNames x
       first
       | (refine fits_cut (p := State.Fits (Foot.of [0x01] [.flt, .saf, .quartz]) s x) ?_ ?_; rotate_left; intro hx; clear_value x; rotate_left; subst x)
       | (refine part_cut (α := type_of% x) (by constructor) ?_; subst x)
       | clear_value x
       | subst x)
    | ((with_reducible refine side_ok ?_); exact rfl)
    | with_reducible assumption
    | ((with_reducible refine keep_goal ?_); exact keep_refl)
    | with_reducible exact fits_refl _ _
    | with_reducible refine does_next ?_
    | with_reducible apply begin_fits
    | with_reducible apply muxDone_fits
    | split

theorem execForcedSwitch_fits (s : State) : Does (Foot.of [0x00, 0x01, 0x40, 0x50, 0x68, 0x70, 0x71] [.flt, .evr, .saf, .quartz, .lanes]) s (execForcedSwitch s) := by
  unfold execForcedSwitch
  repeat' first
    | (extract_lets +onlyGivenNames x
       first
       | (refine fits_cut (p := State.Fits (Foot.of [0x00, 0x01, 0x40, 0x50, 0x68, 0x70, 0x71] [.flt, .evr, .saf, .quartz, .lanes]) s x) ?_ ?_; rotate_left; intro hx; clear_value x; rotate_left; subst x)
       | (refine part_cut (α := type_of% x) (by constructor) ?_; subst x)
       | clear_value x
       | subst x)
    | ((with_reducible refine side_ok ?_); exact rfl)
    | with_reducible assumption
    | ((with_reducible refine keep_goal ?_); exact keep_refl)
    | with_reducible exact fits_refl _ _
    | with_reducible refine does_next ?_
    | with_reducible apply evt_fits
    | with_reducible apply incSat_fits
    | with_reducible apply begin_fits
    | with_reducible apply muxDone_fits
    | with_reducible apply raise_fits
    | ((with_reducible refine side_ok ?_); exact tl_unit rfl)
    | ((with_reducible refine side_ok ?_); exact be_unit rfl)
    | ((with_reducible refine side_ok ?_); exact lay_unit rfl)
    | ((with_reducible refine side_ok ?_); exact crc_unit rfl)
    | ((with_reducible refine side_ok ?_); exact lnk_unit rfl)
    | split

theorem execSlewLock_fits (s : State) : Does (Foot.of [0x01] [.flt, .saf, .quartz]) s (execSlewLock s) := by
  unfold execSlewLock
  repeat' first
    | (extract_lets +onlyGivenNames x
       first
       | (refine fits_cut (p := State.Fits (Foot.of [0x01] [.flt, .saf, .quartz]) s x) ?_ ?_; rotate_left; intro hx; clear_value x; rotate_left; subst x)
       | (refine part_cut (α := type_of% x) (by constructor) ?_; subst x)
       | clear_value x
       | subst x)
    | ((with_reducible refine side_ok ?_); exact rfl)
    | with_reducible assumption
    | ((with_reducible refine keep_goal ?_); exact keep_refl)
    | with_reducible exact fits_refl _ _
    | with_reducible refine does_next ?_
    | with_reducible apply put_fits
    | with_reducible apply inc_fits
    | with_reducible apply begin_fits
    | with_reducible apply withQuartz_fits
    | with_reducible apply withQuartz_fits
    | split

theorem execStoppingGate_fits (s : State) : Does (Foot.of [0x00, 0x01, 0x08, 0x09, 0x0A, 0x0B, 0x40, 0x50, 0x68, 0x70, 0x71] [.flt, .evr, .saf, .quartz, .lnkA, .lnkB, .side, .lanes]) s (execStoppingGate s) := by
  unfold execStoppingGate
  repeat' first
    | (extract_lets +onlyGivenNames x
       first
       | (refine fits_cut (p := State.Fits (Foot.of [0x00, 0x01, 0x08, 0x09, 0x0A, 0x0B, 0x40, 0x50, 0x68, 0x70, 0x71] [.flt, .evr, .saf, .quartz, .lnkA, .lnkB, .side, .lanes]) s x) ?_ ?_; rotate_left; intro hx; clear_value x; rotate_left; subst x)
       | (refine part_cut (α := type_of% x) (by constructor) ?_; subst x)
       | clear_value x
       | subst x)
    | ((with_reducible refine side_ok ?_); exact rfl)
    | with_reducible assumption
    | ((with_reducible refine keep_goal ?_); exact keep_refl)
    | with_reducible exact fits_refl _ _
    | with_reducible refine does_next ?_
    | with_reducible apply begin_fits
    | with_reducible apply linksLock_fits
    | with_reducible apply refConnect_fits
    | with_reducible apply rootGate_fits
    | with_reducible apply withQuartz_fits
    | with_reducible apply withQuartz_fits
    | split

theorem execMonitorWindowEnd_fits (lane : Nat) (pix : Nat) (core : Nat) (peri : Nat) (hk : Nat) (s : State) : Does (Foot.of [0x00, 0x01, 0x40, 0x50, 0x68, 0x70, 0x71] [.flt, .evr, .saf, .lanes]) s (execMonitorWindowEnd lane pix core peri hk s) := by
  unfold execMonitorWindowEnd
  repeat' first
    | (extract_lets +onlyGivenNames x
       first
       | (refine fits_cut (p := State.Fits (Foot.of [0x00, 0x01, 0x40, 0x50, 0x68, 0x70, 0x71] [.flt, .evr, .saf, .lanes]) s x) ?_ ?_; rotate_left; intro hx; clear_value x; rotate_left; subst x)
       | (refine part_cut (α := type_of% x) (by constructor) ?_; subst x)
       | clear_value x
       | subst x)
    | ((with_reducible refine side_ok ?_); exact rfl)
    | with_reducible assumption
    | ((with_reducible refine keep_goal ?_); exact keep_refl)
    | with_reducible exact fits_refl _ _
    | with_reducible refine does_next ?_
    | with_reducible apply put_fits
    | with_reducible apply begin_fits
    | with_reducible apply monitorTrip_fits
    | split

theorem execRcCheckWindowEnd_fits (count : Nat) (s : State) : Does (Foot.of [0x00, 0x01, 0x40, 0x50, 0x68, 0x70, 0x71] [.flt, .evr, .saf, .quartz, .lanes]) s (execRcCheckWindowEnd count s) := by
  unfold execRcCheckWindowEnd
  repeat' first
    | (extract_lets +onlyGivenNames x
       first
       | (refine fits_cut (p := State.Fits (Foot.of [0x00, 0x01, 0x40, 0x50, 0x68, 0x70, 0x71] [.flt, .evr, .saf, .quartz, .lanes]) s x) ?_ ?_; rotate_left; intro hx; clear_value x; rotate_left; subst x)
       | (refine part_cut (α := type_of% x) (by constructor) ?_; subst x)
       | clear_value x
       | subst x)
    | ((with_reducible refine side_ok ?_); exact rfl)
    | with_reducible assumption
    | ((with_reducible refine keep_goal ?_); exact keep_refl)
    | with_reducible exact fits_refl _ _
    | with_reducible refine does_next ?_
    | with_reducible apply put_fits
    | with_reducible apply begin_fits
    | with_reducible apply monitorTrip_fits
    | with_reducible apply withQuartz_fits
    | with_reducible apply withQuartz_fits
    | split

theorem execPmicPgRise_fits (st : Straps) (s : State) : Does (Foot.free) s (execPmicPgRise st s) := by
  unfold execPmicPgRise
  repeat' first
    | (extract_lets +onlyGivenNames x
       first
       | (refine fits_cut (p := State.Fits (Foot.free) s x) ?_ ?_; rotate_left; intro hx; clear_value x; rotate_left; subst x)
       | (refine part_cut (α := type_of% x) (by constructor) ?_; subst x)
       | clear_value x
       | subst x)
    | ((with_reducible refine side_ok ?_); exact rfl)
    | with_reducible assumption
    | ((with_reducible refine keep_goal ?_); exact keep_refl)
    | with_reducible exact fits_refl _ _
    | with_reducible refine does_next ?_
    | with_reducible apply begin_fits
    | with_reducible apply coldReset_fits
    | with_reducible apply holdPin_fits
    | with_reducible apply rcAttempt_fits
    | with_reducible apply senseFuses_fits
    | with_reducible apply setStraps_fits
    | with_reducible apply tapReset_fits
    | with_reducible apply tryRelease_fits
    | with_reducible apply withRst_fits
    | with_reducible apply withRst_fits
    | split

theorem execPgLoss_fits (rstLow : Bool) (s : State) : Does (Foot.free) s (execPgLoss rstLow s) := by
  unfold execPgLoss
  repeat' first
    | (extract_lets +onlyGivenNames x
       first
       | (refine fits_cut (p := State.Fits (Foot.free) s x) ?_ ?_; rotate_left; intro hx; clear_value x; rotate_left; subst x)
       | (refine part_cut (α := type_of% x) (by constructor) ?_; subst x)
       | clear_value x
       | subst x)
    | ((with_reducible refine side_ok ?_); exact rfl)
    | with_reducible assumption
    | ((with_reducible refine keep_goal ?_); exact keep_refl)
    | with_reducible exact fits_refl _ _
    | with_reducible refine does_next ?_
    | with_reducible apply put_fits
    | with_reducible apply begin_fits
    | with_reducible apply coldReset_fits
    | with_reducible apply withRst_fits
    | with_reducible apply withRst_fits
    | split

theorem execSupplyLow_fits (s : State) : Does (Foot.free) s (execSupplyLow s) := by
  unfold execSupplyLow
  repeat' first
    | (extract_lets +onlyGivenNames x
       first
       | (refine fits_cut (p := State.Fits (Foot.free) s x) ?_ ?_; rotate_left; intro hx; clear_value x; rotate_left; subst x)
       | (refine part_cut (α := type_of% x) (by constructor) ?_; subst x)
       | clear_value x
       | subst x)
    | ((with_reducible refine side_ok ?_); exact rfl)
    | with_reducible assumption
    | ((with_reducible refine keep_goal ?_); exact keep_refl)
    | with_reducible exact fits_refl _ _
    | with_reducible refine does_next ?_
    | with_reducible apply begin_fits
    | with_reducible apply coldReset_fits
    | with_reducible apply holdPin_fits
    | split

theorem execPor_fits (s : State) : Does (Foot.free) s (execPor s) := by
  unfold execPor
  repeat' first
    | (extract_lets +onlyGivenNames x
       first
       | (refine fits_cut (p := State.Fits (Foot.free) s x) ?_ ?_; rotate_left; intro hx; clear_value x; rotate_left; subst x)
       | (refine part_cut (α := type_of% x) (by constructor) ?_; subst x)
       | clear_value x
       | subst x)
    | ((with_reducible refine side_ok ?_); exact rfl)
    | with_reducible assumption
    | ((with_reducible refine keep_goal ?_); exact keep_refl)
    | with_reducible exact fits_refl _ _
    | with_reducible refine does_next ?_
    | with_reducible apply begin_fits
    | with_reducible apply coldReset_fits
    | with_reducible apply holdPin_fits
    | split

theorem execThmCritTrip_fits (s : State) : Does (Foot.free) s (execThmCritTrip s) := by
  unfold execThmCritTrip
  repeat' first
    | (extract_lets +onlyGivenNames x
       first
       | (refine fits_cut (p := State.Fits (Foot.free) s x) ?_ ?_; rotate_left; intro hx; clear_value x; rotate_left; subst x)
       | (refine part_cut (α := type_of% x) (by constructor) ?_; subst x)
       | clear_value x
       | subst x)
    | ((with_reducible refine side_ok ?_); exact rfl)
    | with_reducible assumption
    | ((with_reducible refine keep_goal ?_); exact keep_refl)
    | with_reducible exact fits_refl _ _
    | with_reducible refine does_next ?_
    | with_reducible apply put_fits
    | with_reducible apply begin_fits
    | with_reducible apply coldReset_fits
    | with_reducible apply holdPin_fits
    | with_reducible apply withRst_fits
    | with_reducible apply withRst_fits
    | split

theorem execThmCritRelease_fits (st : Straps) (s : State) : Does (Foot.of [0x00, 0x02, 0x04, 0x08, 0x09, 0x40, 0x50, 0x68, 0x70, 0x71, 0x79, 0x81] [.mem, .flt, .evr, .saf, .rst, .lanes, .sec, .fresh]) s (execThmCritRelease st s) := by
  unfold execThmCritRelease
  repeat' first
    | (extract_lets +onlyGivenNames x
       first
       | (refine fits_cut (p := State.Fits (Foot.of [0x00, 0x02, 0x04, 0x08, 0x09, 0x40, 0x50, 0x68, 0x70, 0x71, 0x79, 0x81] [.mem, .flt, .evr, .saf, .rst, .lanes, .sec, .fresh]) s x) ?_ ?_; rotate_left; intro hx; clear_value x; rotate_left; subst x)
       | (refine part_cut (α := type_of% x) (by constructor) ?_; subst x)
       | clear_value x
       | subst x)
    | ((with_reducible refine side_ok ?_); exact rfl)
    | with_reducible assumption
    | ((with_reducible refine keep_goal ?_); exact keep_refl)
    | with_reducible exact fits_refl _ _
    | with_reducible refine does_next ?_
    | with_reducible apply put_fits
    | with_reducible apply begin_fits
    | with_reducible apply setStraps_fits
    | with_reducible apply tryRelease_fits
    | with_reducible apply withRst_fits
    | with_reducible apply withRst_fits
    | split

theorem execRstNLow_fits (s : State) : Does (Foot.free) s (execRstNLow s) := by
  unfold execRstNLow
  repeat' first
    | (extract_lets +onlyGivenNames x
       first
       | (refine fits_cut (p := State.Fits (Foot.free) s x) ?_ ?_; rotate_left; intro hx; clear_value x; rotate_left; subst x)
       | (refine part_cut (α := type_of% x) (by constructor) ?_; subst x)
       | clear_value x
       | subst x)
    | ((with_reducible refine side_ok ?_); exact rfl)
    | with_reducible assumption
    | ((with_reducible refine keep_goal ?_); exact keep_refl)
    | with_reducible exact fits_refl _ _
    | with_reducible refine does_next ?_
    | with_reducible apply put_fits
    | with_reducible apply begin_fits
    | with_reducible apply warmReset_fits
    | with_reducible apply withRst_fits
    | with_reducible apply withRst_fits
    | split

theorem execRstNRelease_fits (st : Straps) (s : State) : Does (Foot.of [0x00, 0x02, 0x08, 0x09, 0x40, 0x50, 0x68, 0x70, 0x71, 0x79, 0x81] [.mem, .flt, .evr, .saf, .rst, .lanes, .sec, .fresh]) s (execRstNRelease st s) := by
  unfold execRstNRelease
  repeat' first
    | (extract_lets +onlyGivenNames x
       first
       | (refine fits_cut (p := State.Fits (Foot.of [0x00, 0x02, 0x08, 0x09, 0x40, 0x50, 0x68, 0x70, 0x71, 0x79, 0x81] [.mem, .flt, .evr, .saf, .rst, .lanes, .sec, .fresh]) s x) ?_ ?_; rotate_left; intro hx; clear_value x; rotate_left; subst x)
       | (refine part_cut (α := type_of% x) (by constructor) ?_; subst x)
       | clear_value x
       | subst x)
    | ((with_reducible refine side_ok ?_); exact rfl)
    | with_reducible assumption
    | ((with_reducible refine keep_goal ?_); exact keep_refl)
    | with_reducible exact fits_refl _ _
    | with_reducible refine does_next ?_
    | with_reducible apply put_fits
    | with_reducible apply begin_fits
    | with_reducible apply setStraps_fits
    | with_reducible apply tryRelease_fits
    | with_reducible apply withRst_fits
    | with_reducible apply withRst_fits
    | split

theorem execPinDeep_fits (s : State) : Does (Foot.of [0x02] [.flt, .saf, .pwr]) s (execPinDeep s) := by
  unfold execPinDeep
  repeat' first
    | (extract_lets +onlyGivenNames x
       first
       | (refine fits_cut (p := State.Fits (Foot.of [0x02] [.flt, .saf, .pwr]) s x) ?_ ?_; rotate_left; intro hx; clear_value x; rotate_left; subst x)
       | (refine part_cut (α := type_of% x) (by constructor) ?_; subst x)
       | clear_value x
       | subst x)
    | ((with_reducible refine side_ok ?_); exact rfl)
    | with_reducible assumption
    | ((with_reducible refine keep_goal ?_); exact keep_refl)
    | with_reducible exact fits_refl _ _
    | with_reducible refine does_next ?_
    | with_reducible apply put_fits
    | with_reducible apply begin_fits
    | with_reducible apply withPwr_fits
    | with_reducible apply withPwr_fits
    | split

theorem execRstStuckTimeout_fits (st : Straps) (s : State) : Does (Foot.of [0x00, 0x02, 0x08, 0x09, 0x40, 0x50, 0x68, 0x70, 0x71, 0x79, 0x81] [.mem, .flt, .evr, .saf, .rst, .lanes, .sec, .fresh]) s (execRstStuckTimeout st s) := by
  unfold execRstStuckTimeout
  repeat' first
    | (extract_lets +onlyGivenNames x
       first
       | (refine fits_cut (p := State.Fits (Foot.of [0x00, 0x02, 0x08, 0x09, 0x40, 0x50, 0x68, 0x70, 0x71, 0x79, 0x81] [.mem, .flt, .evr, .saf, .rst, .lanes, .sec, .fresh]) s x) ?_ ?_; rotate_left; intro hx; clear_value x; rotate_left; subst x)
       | (refine part_cut (α := type_of% x) (by constructor) ?_; subst x)
       | clear_value x
       | subst x)
    | ((with_reducible refine side_ok ?_); exact rfl)
    | with_reducible assumption
    | ((with_reducible refine keep_goal ?_); exact keep_refl)
    | with_reducible exact fits_refl _ _
    | with_reducible refine does_next ?_
    | with_reducible apply put_fits
    | with_reducible apply incSat_fits
    | with_reducible apply begin_fits
    | with_reducible apply raise_fits
    | with_reducible apply setStraps_fits
    | with_reducible apply tryRelease_fits
    | with_reducible apply withRst_fits
    | ((with_reducible refine side_ok ?_); exact tl_unit rfl)
    | ((with_reducible refine side_ok ?_); exact be_unit rfl)
    | ((with_reducible refine side_ok ?_); exact lay_unit rfl)
    | ((with_reducible refine side_ok ?_); exact crc_unit rfl)
    | ((with_reducible refine side_ok ?_); exact lnk_unit rfl)
    | with_reducible apply withRst_fits
    | split

theorem execStuckIgnoreEnd_fits (s : State) : Does (Foot.of [0x02] [.flt, .saf]) s (execStuckIgnoreEnd s) := by
  unfold execStuckIgnoreEnd
  repeat' first
    | (extract_lets +onlyGivenNames x
       first
       | (refine fits_cut (p := State.Fits (Foot.of [0x02] [.flt, .saf]) s x) ?_ ?_; rotate_left; intro hx; clear_value x; rotate_left; subst x)
       | (refine part_cut (α := type_of% x) (by constructor) ?_; subst x)
       | clear_value x
       | subst x)
    | ((with_reducible refine side_ok ?_); exact rfl)
    | with_reducible assumption
    | ((with_reducible refine keep_goal ?_); exact keep_refl)
    | with_reducible exact fits_refl _ _
    | with_reducible refine does_next ?_
    | with_reducible apply put_fits
    | with_reducible apply begin_fits
    | split

theorem execWdtAppExpiry_fits (st : Straps) (s : State) : Does (Foot.free) s (execWdtAppExpiry st s) := by
  unfold execWdtAppExpiry
  repeat' first
    | (extract_lets +onlyGivenNames x
       first
       | (refine fits_cut (p := State.Fits (Foot.free) s x) ?_ ?_; rotate_left; intro hx; clear_value x; rotate_left; subst x)
       | (refine part_cut (α := type_of% x) (by constructor) ?_; subst x)
       | clear_value x
       | subst x)
    | ((with_reducible refine side_ok ?_); exact rfl)
    | with_reducible assumption
    | ((with_reducible refine keep_goal ?_); exact keep_refl)
    | with_reducible exact fits_refl _ _
    | with_reducible refine does_next ?_
    | with_reducible apply begin_fits
    | with_reducible apply setStraps_fits
    | with_reducible apply warmReset_fits
    | split

theorem execBootTimeout_fits (st : Straps) (s : State) : Does (Foot.free) s (execBootTimeout st s) := by
  unfold execBootTimeout
  repeat' first
    | (extract_lets +onlyGivenNames x
       first
       | (refine fits_cut (p := State.Fits (Foot.free) s x) ?_ ?_; rotate_left; intro hx; clear_value x; rotate_left; subst x)
       | (refine part_cut (α := type_of% x) (by constructor) ?_; subst x)
       | clear_value x
       | subst x)
    | ((with_reducible refine side_ok ?_); exact rfl)
    | with_reducible assumption
    | ((with_reducible refine keep_goal ?_); exact keep_refl)
    | with_reducible exact fits_refl _ _
    | with_reducible refine does_next ?_
    | with_reducible apply begin_fits
    | with_reducible apply setStraps_fits
    | with_reducible apply warmReset_fits
    | split

theorem execSignalDetect_fits (l : Nat) (s : State) : Does (Foot.of [0x00, 0x08, 0x09, 0x0A, 0x40, 0x50, 0x68, 0x70, 0x71] [.flt, .evr, .saf, .lnkA, .lnkB, .side, .lanes]) s (execSignalDetect l s) := by
  unfold execSignalDetect
  repeat' first
    | (extract_lets +onlyGivenNames x
       first
       | (refine fits_cut (p := State.Fits (Foot.of [0x00, 0x08, 0x09, 0x0A, 0x40, 0x50, 0x68, 0x70, 0x71] [.flt, .evr, .saf, .lnkA, .lnkB, .side, .lanes]) s x) ?_ ?_; rotate_left; intro hx; clear_value x; rotate_left; subst x)
       | (refine part_cut (α := type_of% x) (by constructor) ?_; subst x)
       | clear_value x
       | subst x)
    | ((with_reducible refine side_ok ?_); exact rfl)
    | with_reducible assumption
    | ((with_reducible refine keep_goal ?_); exact keep_refl)
    | with_reducible exact fits_refl _ _
    | with_reducible refine does_next ?_
    | with_reducible apply put_fits
    | with_reducible apply begin_fits
    | with_reducible apply linkTo_fits
    | with_reducible apply passLock_fits
    | with_reducible apply sideStep_fits
    | ((with_reducible refine side_ok ?_); exact lnk_unit rfl)
    | split

theorem execCdrLock_fits (l : Nat) (s : State) : Does (Foot.of [0x00, 0x01, 0x08, 0x09, 0x0A, 0x40, 0x50, 0x68, 0x70, 0x71] [.flt, .evr, .saf, .quartz, .lnkA, .lnkB, .side, .lanes]) s (execCdrLock l s) := by
  unfold execCdrLock
  repeat' first
    | (extract_lets +onlyGivenNames x
       first
       | (refine fits_cut (p := State.Fits (Foot.of [0x00, 0x01, 0x08, 0x09, 0x0A, 0x40, 0x50, 0x68, 0x70, 0x71] [.flt, .evr, .saf, .quartz, .lnkA, .lnkB, .side, .lanes]) s x) ?_ ?_; rotate_left; intro hx; clear_value x; rotate_left; subst x)
       | (refine part_cut (α := type_of% x) (by constructor) ?_; subst x)
       | clear_value x
       | subst x)
    | ((with_reducible refine side_ok ?_); exact rfl)
    | with_reducible assumption
    | ((with_reducible refine keep_goal ?_); exact keep_refl)
    | with_reducible exact fits_refl _ _
    | with_reducible refine does_next ?_
    | with_reducible apply begin_fits
    | with_reducible apply passLock_fits
    | with_reducible apply refConnect_fits
    | with_reducible apply setLock_fits
    | with_reducible apply sideStep_fits
    | split

theorem execCdrLockTimeout_fits (l : Nat) (s : State) : Does (Foot.of [0x00, 0x08, 0x09, 0x0A, 0x40, 0x50, 0x68, 0x70, 0x71] [.flt, .evr, .saf, .lnkA, .lnkB, .side, .lanes]) s (execCdrLockTimeout l s) := by
  unfold execCdrLockTimeout
  repeat' first
    | (extract_lets +onlyGivenNames x
       first
       | (refine fits_cut (p := State.Fits (Foot.of [0x00, 0x08, 0x09, 0x0A, 0x40, 0x50, 0x68, 0x70, 0x71] [.flt, .evr, .saf, .lnkA, .lnkB, .side, .lanes]) s x) ?_ ?_; rotate_left; intro hx; clear_value x; rotate_left; subst x)
       | (refine part_cut (α := type_of% x) (by constructor) ?_; subst x)
       | clear_value x
       | subst x)
    | ((with_reducible refine side_ok ?_); exact rfl)
    | with_reducible assumption
    | ((with_reducible refine keep_goal ?_); exact keep_refl)
    | with_reducible exact fits_refl _ _
    | with_reducible refine does_next ?_
    | with_reducible apply begin_fits
    | with_reducible apply linkTo_fits
    | with_reducible apply sideStep_fits
    | ((with_reducible refine side_ok ?_); exact lnk_unit rfl)
    | split

theorem execCommaAlign_fits (l : Nat) (s : State) : Does (Foot.of [0x00, 0x08, 0x09, 0x0A, 0x40, 0x50, 0x68, 0x70, 0x71] [.flt, .evr, .saf, .lnkA, .lnkB, .side, .lanes]) s (execCommaAlign l s) := by
  unfold execCommaAlign
  repeat' first
    | (extract_lets +onlyGivenNames x
       first
       | (refine fits_cut (p := State.Fits (Foot.of [0x00, 0x08, 0x09, 0x0A, 0x40, 0x50, 0x68, 0x70, 0x71] [.flt, .evr, .saf, .lnkA, .lnkB, .side, .lanes]) s x) ?_ ?_; rotate_left; intro hx; clear_value x; rotate_left; subst x)
       | (refine part_cut (α := type_of% x) (by constructor) ?_; subst x)
       | clear_value x
       | subst x)
    | ((with_reducible refine side_ok ?_); exact rfl)
    | with_reducible assumption
    | ((with_reducible refine keep_goal ?_); exact keep_refl)
    | with_reducible exact fits_refl _ _
    | with_reducible refine does_next ?_
    | with_reducible apply begin_fits
    | with_reducible apply linkTo_fits
    | with_reducible apply modLink_fits
    | with_reducible apply sideStep_fits
    | split

theorem execTrainingDone_fits (l : Nat) (s : State) : Does (Foot.of [0x08, 0x09] [.flt, .saf, .lnkA, .lnkB]) s (execTrainingDone l s) := by
  unfold execTrainingDone
  repeat' first
    | (extract_lets +onlyGivenNames x
       first
       | (refine fits_cut (p := State.Fits (Foot.of [0x08, 0x09] [.flt, .saf, .lnkA, .lnkB]) s x) ?_ ?_; rotate_left; intro hx; clear_value x; rotate_left; subst x)
       | (refine part_cut (α := type_of% x) (by constructor) ?_; subst x)
       | clear_value x
       | subst x)
    | ((with_reducible refine side_ok ?_); exact rfl)
    | with_reducible assumption
    | ((with_reducible refine keep_goal ?_); exact keep_refl)
    | with_reducible exact fits_refl _ _
    | with_reducible refine does_next ?_
    | with_reducible apply incSat_fits
    | with_reducible apply begin_fits
    | with_reducible apply enterActive_fits
    | with_reducible apply modLink_fits
    | ((with_reducible refine side_ok ?_); exact lnk_unit rfl)
    | split

theorem execTrainingTimeout_fits (l : Nat) (s : State) : Does (Foot.of [0x00, 0x08, 0x09, 0x0A, 0x40, 0x50, 0x68, 0x70, 0x71] [.flt, .evr, .saf, .lnkA, .lnkB, .side, .lanes]) s (execTrainingTimeout l s) := by
  unfold execTrainingTimeout
  repeat' first
    | (extract_lets +onlyGivenNames x
       first
       | (refine fits_cut (p := State.Fits (Foot.of [0x00, 0x08, 0x09, 0x0A, 0x40, 0x50, 0x68, 0x70, 0x71] [.flt, .evr, .saf, .lnkA, .lnkB, .side, .lanes]) s x) ?_ ?_; rotate_left; intro hx; clear_value x; rotate_left; subst x)
       | (refine part_cut (α := type_of% x) (by constructor) ?_; subst x)
       | clear_value x
       | subst x)
    | ((with_reducible refine side_ok ?_); exact rfl)
    | with_reducible assumption
    | ((with_reducible refine keep_goal ?_); exact keep_refl)
    | with_reducible exact fits_refl _ _
    | with_reducible refine does_next ?_
    | with_reducible apply evt_fits
    | with_reducible apply begin_fits
    | with_reducible apply linkTo_fits
    | with_reducible apply raise_fits
    | with_reducible apply sideStep_fits
    | ((with_reducible refine side_ok ?_); exact tl_unit rfl)
    | ((with_reducible refine side_ok ?_); exact be_unit rfl)
    | ((with_reducible refine side_ok ?_); exact lay_unit rfl)
    | ((with_reducible refine side_ok ?_); exact crc_unit rfl)
    | ((with_reducible refine side_ok ?_); exact lnk_unit rfl)
    | split

theorem execTsReceived_fits (l : Nat) (s : State) : Does (Foot.of [0x00, 0x08, 0x09, 0x0A, 0x40, 0x50, 0x68, 0x70, 0x71] [.flt, .evr, .saf, .lnkA, .lnkB, .side, .lanes]) s (execTsReceived l s) := by
  unfold execTsReceived
  repeat' first
    | (extract_lets +onlyGivenNames x
       first
       | (refine fits_cut (p := State.Fits (Foot.of [0x00, 0x08, 0x09, 0x0A, 0x40, 0x50, 0x68, 0x70, 0x71] [.flt, .evr, .saf, .lnkA, .lnkB, .side, .lanes]) s x) ?_ ?_; rotate_left; intro hx; clear_value x; rotate_left; subst x)
       | (refine part_cut (α := type_of% x) (by constructor) ?_; subst x)
       | clear_value x
       | subst x)
    | ((with_reducible refine side_ok ?_); exact rfl)
    | with_reducible assumption
    | ((with_reducible refine keep_goal ?_); exact keep_refl)
    | with_reducible exact fits_refl _ _
    | with_reducible refine does_next ?_
    | with_reducible apply abortFrame_fits
    | with_reducible apply begin_fits
    | with_reducible apply linkTo_fits
    | with_reducible apply modLink_fits
    | with_reducible apply sideStep_fits
    | split

theorem execAlignmentLoss_fits (l : Nat) (s : State) : Does (Foot.of [0x00, 0x08, 0x09, 0x0A, 0x40, 0x50, 0x68, 0x70, 0x71] [.flt, .evr, .saf, .lnkA, .lnkB, .side, .lanes]) s (execAlignmentLoss l s) := by
  unfold execAlignmentLoss
  repeat' first
    | (extract_lets +onlyGivenNames x
       first
       | (refine fits_cut (p := State.Fits (Foot.of [0x00, 0x08, 0x09, 0x0A, 0x40, 0x50, 0x68, 0x70, 0x71] [.flt, .evr, .saf, .lnkA, .lnkB, .side, .lanes]) s x) ?_ ?_; rotate_left; intro hx; clear_value x; rotate_left; subst x)
       | (refine part_cut (α := type_of% x) (by constructor) ?_; subst x)
       | clear_value x
       | subst x)
    | ((with_reducible refine side_ok ?_); exact rfl)
    | with_reducible assumption
    | ((with_reducible refine keep_goal ?_); exact keep_refl)
    | with_reducible exact fits_refl _ _
    | with_reducible refine does_next ?_
    | with_reducible apply evt_fits
    | with_reducible apply abortFrame_fits
    | with_reducible apply begin_fits
    | with_reducible apply linkTo_fits
    | with_reducible apply sideStep_fits
    | ((with_reducible refine side_ok ?_); exact lnk_unit rfl)
    | split

theorem execLossOfSignal_fits (l : Nat) (s : State) : Does (Foot.of [0x00, 0x01, 0x08, 0x09, 0x0A, 0x40, 0x50, 0x68, 0x70, 0x71] [.flt, .evr, .saf, .quartz, .lnkA, .lnkB, .side, .lanes]) s (execLossOfSignal l s) := by
  unfold execLossOfSignal
  repeat' first
    | (extract_lets +onlyGivenNames x
       first
       | (refine fits_cut (p := State.Fits (Foot.of [0x00, 0x01, 0x08, 0x09, 0x0A, 0x40, 0x50, 0x68, 0x70, 0x71] [.flt, .evr, .saf, .quartz, .lnkA, .lnkB, .side, .lanes]) s x) ?_ ?_; rotate_left; intro hx; clear_value x; rotate_left; subst x)
       | (refine part_cut (α := type_of% x) (by constructor) ?_; subst x)
       | clear_value x
       | subst x)
    | ((with_reducible refine side_ok ?_); exact rfl)
    | with_reducible assumption
    | ((with_reducible refine keep_goal ?_); exact keep_refl)
    | with_reducible exact fits_refl _ _
    | with_reducible refine does_next ?_
    | with_reducible apply put_fits
    | with_reducible apply evt_fits
    | with_reducible apply incSat_fits
    | with_reducible apply abortFrame_fits
    | with_reducible apply begin_fits
    | with_reducible apply cdrLost_fits
    | with_reducible apply linkTo_fits
    | with_reducible apply raise_fits
    | with_reducible apply sideStep_fits
    | ((with_reducible refine side_ok ?_); exact tl_unit rfl)
    | ((with_reducible refine side_ok ?_); exact be_unit rfl)
    | ((with_reducible refine side_ok ?_); exact lay_unit rfl)
    | ((with_reducible refine side_ok ?_); exact crc_unit rfl)
    | ((with_reducible refine side_ok ?_); exact lnk_unit rfl)
    | split

theorem execCdrLossOfLock_fits (l : Nat) (s : State) : Does (Foot.of [0x00, 0x01, 0x08, 0x09, 0x0A, 0x40, 0x50, 0x68, 0x70, 0x71] [.flt, .evr, .saf, .quartz, .lnkA, .lnkB, .side, .lanes]) s (execCdrLossOfLock l s) := by
  unfold execCdrLossOfLock
  repeat' first
    | (extract_lets +onlyGivenNames x
       first
       | (refine fits_cut (p := State.Fits (Foot.of [0x00, 0x01, 0x08, 0x09, 0x0A, 0x40, 0x50, 0x68, 0x70, 0x71] [.flt, .evr, .saf, .quartz, .lnkA, .lnkB, .side, .lanes]) s x) ?_ ?_; rotate_left; intro hx; clear_value x; rotate_left; subst x)
       | (refine part_cut (α := type_of% x) (by constructor) ?_; subst x)
       | clear_value x
       | subst x)
    | ((with_reducible refine side_ok ?_); exact rfl)
    | with_reducible assumption
    | ((with_reducible refine keep_goal ?_); exact keep_refl)
    | with_reducible exact fits_refl _ _
    | with_reducible refine does_next ?_
    | with_reducible apply evt_fits
    | with_reducible apply abortFrame_fits
    | with_reducible apply begin_fits
    | with_reducible apply cdrLost_fits
    | with_reducible apply linkTo_fits
    | with_reducible apply raise_fits
    | with_reducible apply sideStep_fits
    | ((with_reducible refine side_ok ?_); exact tl_unit rfl)
    | ((with_reducible refine side_ok ?_); exact be_unit rfl)
    | ((with_reducible refine side_ok ?_); exact lay_unit rfl)
    | ((with_reducible refine side_ok ?_); exact crc_unit rfl)
    | ((with_reducible refine side_ok ?_); exact lnk_unit rfl)
    | split

theorem execSkp_fits (l : Nat) (fill : Nat) (s : State) : Does (Foot.of [0x00, 0x08, 0x09, 0x0A, 0x40, 0x50, 0x68, 0x70, 0x71] [.flt, .evr, .saf, .lnkA, .lnkB, .lanes]) s (execSkp l fill s) := by
  unfold execSkp
  repeat' first
    | (extract_lets +onlyGivenNames x
       first
       | (refine fits_cut (p := State.Fits (Foot.of [0x00, 0x08, 0x09, 0x0A, 0x40, 0x50, 0x68, 0x70, 0x71] [.flt, .evr, .saf, .lnkA, .lnkB, .lanes]) s x) ?_ ?_; rotate_left; intro hx; clear_value x; rotate_left; subst x)
       | (refine part_cut (α := type_of% x) (by constructor) ?_; subst x)
       | clear_value x
       | subst x)
    | ((with_reducible refine side_ok ?_); exact rfl)
    | with_reducible assumption
    | ((with_reducible refine keep_goal ?_); exact keep_refl)
    | with_reducible exact fits_refl _ _
    | with_reducible refine does_next ?_
    | with_reducible apply evt_fits
    | with_reducible apply incSat_fits
    | with_reducible apply begin_fits
    | with_reducible apply modLink_fits
    | with_reducible apply slip_fits
    | ((with_reducible refine side_ok ?_); exact lnk_unit rfl)
    | split

theorem execLtm_fits (l : Nat) (dly : Nat) (s : State) : Does (Foot.of [] [.flt, .saf, .lnkA, .lnkB]) s (execLtm l dly s) := by
  unfold execLtm
  repeat' first
    | (extract_lets +onlyGivenNames x
       first
       | (refine fits_cut (p := State.Fits (Foot.of [] [.flt, .saf, .lnkA, .lnkB]) s x) ?_ ?_; rotate_left; intro hx; clear_value x; rotate_left; subst x)
       | (refine part_cut (α := type_of% x) (by constructor) ?_; subst x)
       | clear_value x
       | subst x)
    | ((with_reducible refine side_ok ?_); exact rfl)
    | with_reducible assumption
    | ((with_reducible refine keep_goal ?_); exact keep_refl)
    | with_reducible exact fits_refl _ _
    | with_reducible refine does_next ?_
    | with_reducible apply begin_fits
    | with_reducible apply modLink_fits
    | split

theorem execLctlTime_fits (l : Nat) (f : Wire) (s : State) : Does (Foot.of [0x00, 0x02, 0x08, 0x09, 0x0B, 0x40, 0x50, 0x68, 0x70, 0x71, 0x88] [.lt, .slew, .ltApplied, .flt, .evr, .saf, .lanes]) s (execLctlTime l f s) := by
  unfold execLctlTime
  repeat' first
    | (extract_lets +onlyGivenNames x
       first
       | (refine fits_cut (p := State.Fits (Foot.of [0x00, 0x02, 0x08, 0x09, 0x0B, 0x40, 0x50, 0x68, 0x70, 0x71, 0x88] [.lt, .slew, .ltApplied, .flt, .evr, .saf, .lanes]) s x) ?_ ?_; rotate_left; intro hx; clear_value x; rotate_left; subst x)
       | (refine part_cut (α := type_of% x) (by constructor) ?_; subst x)
       | clear_value x
       | subst x)
    | ((with_reducible refine side_ok ?_); exact rfl)
    | with_reducible assumption
    | ((with_reducible refine keep_goal ?_); exact keep_refl)
    | with_reducible exact fits_refl _ _
    | with_reducible refine does_next ?_
    | with_reducible apply evt_fits
    | with_reducible apply begin_fits
    | with_reducible refine checkFrame_fits_eq (by assumption) ?_ ?_
    | with_reducible apply checkFrame_fits
    | with_reducible apply exchange_fits
    | ((with_reducible refine side_ok ?_); exact lnk_unit rfl)
    | split
    | with_reducible refine fits_snd (by assumption) ?_
    | with_reducible refine fits_thd (by assumption) ?_
    | dsimp only

theorem execLtValidTimeout_fits (s : State) : Does (Foot.of [0x0B] [.ltApplied, .flt, .saf]) s (execLtValidTimeout s) := by
  unfold execLtValidTimeout
  repeat' first
    | (extract_lets +onlyGivenNames x
       first
       | (refine fits_cut (p := State.Fits (Foot.of [0x0B] [.ltApplied, .flt, .saf]) s x) ?_ ?_; rotate_left; intro hx; clear_value x; rotate_left; subst x)
       | (refine part_cut (α := type_of% x) (by constructor) ?_; subst x)
       | clear_value x
       | subst x)
    | ((with_reducible refine side_ok ?_); exact rfl)
    | with_reducible assumption
    | ((with_reducible refine keep_goal ?_); exact keep_refl)
    | with_reducible exact fits_refl _ _
    | with_reducible refine does_next ?_
    | with_reducible apply put_fits
    | with_reducible apply begin_fits
    | with_reducible apply withLtApplied_fits
    | with_reducible apply withLtApplied_fits
    | split

theorem execStatusFrame_fits (l : Nat) (s : State) : Does (Foot.of [] [.flt, .saf, .lnkA, .lnkB]) s (execStatusFrame l s) := by
  unfold execStatusFrame
  repeat' first
    | (extract_lets +onlyGivenNames x
       first
       | (refine fits_cut (p := State.Fits (Foot.of [] [.flt, .saf, .lnkA, .lnkB]) s x) ?_ ?_; rotate_left; intro hx; clear_value x; rotate_left; subst x)
       | (refine part_cut (α := type_of% x) (by constructor) ?_; subst x)
       | clear_value x
       | subst x)
    | ((with_reducible refine side_ok ?_); exact rfl)
    | with_reducible assumption
    | ((with_reducible refine keep_goal ?_); exact keep_refl)
    | with_reducible exact fits_refl _ _
    | with_reducible refine does_next ?_
    | with_reducible apply begin_fits
    | with_reducible apply queueStatus_fits
    | split

theorem execSafeFrame_fits (l : Nat) (f : Wire) (s : State) : Does (Foot.of [0x00, 0x02, 0x08, 0x09, 0x0B, 0x40, 0x50, 0x68, 0x70, 0x71, 0x88] [.flt, .evr, .saf, .csf, .lanes]) s (execSafeFrame l f s) := by
  unfold execSafeFrame
  repeat' first
    | (extract_lets +onlyGivenNames x
       first
       | (refine fits_cut (p := State.Fits (Foot.of [0x00, 0x02, 0x08, 0x09, 0x0B, 0x40, 0x50, 0x68, 0x70, 0x71, 0x88] [.flt, .evr, .saf, .csf, .lanes]) s x) ?_ ?_; rotate_left; intro hx; clear_value x; rotate_left; subst x)
       | (refine part_cut (α := type_of% x) (by constructor) ?_; subst x)
       | clear_value x
       | subst x)
    | ((with_reducible refine side_ok ?_); exact rfl)
    | with_reducible assumption
    | ((with_reducible refine keep_goal ?_); exact keep_refl)
    | with_reducible exact fits_refl _ _
    | with_reducible refine does_next ?_
    | ((with_reducible refine side_ok ?_); rw [sfReject_page (by assumption)]; exact rfl)
    | with_reducible apply evt_fits
    | with_reducible apply incSat_fits
    | with_reducible apply begin_fits
    | with_reducible refine checkFrame_fits_eq (by assumption) ?_ ?_
    | with_reducible apply checkFrame_fits
    | with_reducible apply consumeInj_fits
    | with_reducible apply pair_fits
    | with_reducible apply raiseWith_fits
    | ((with_reducible refine side_ok ?_); exact tl_unit rfl)
    | ((with_reducible refine side_ok ?_); exact be_unit rfl)
    | ((with_reducible refine side_ok ?_); exact lay_unit rfl)
    | ((with_reducible refine side_ok ?_); exact crc_unit rfl)
    | ((with_reducible refine side_ok ?_); exact lnk_unit rfl)
    | split
    | with_reducible refine fits_snd (by assumption) ?_
    | with_reducible refine fits_thd (by assumption) ?_
    | dsimp only

theorem execPendingExpiry_fits (l : Nat) (s : State) : Does (Foot.of [0x0B] [.flt, .saf, .csf]) s (execPendingExpiry l s) := by
  unfold execPendingExpiry
  repeat' first
    | (extract_lets +onlyGivenNames x
       first
       | (refine fits_cut (p := State.Fits (Foot.of [0x0B] [.flt, .saf, .csf]) s x) ?_ ?_; rotate_left; intro hx; clear_value x; rotate_left; subst x)
       | (refine part_cut (α := type_of% x) (by constructor) ?_; subst x)
       | clear_value x
       | subst x)
    | ((with_reducible refine side_ok ?_); exact rfl)
    | with_reducible assumption
    | ((with_reducible refine keep_goal ?_); exact keep_refl)
    | with_reducible exact fits_refl _ _
    | with_reducible refine does_next ?_
    | with_reducible apply begin_fits
    | with_reducible apply unpaired_fits
    | with_reducible apply withCsf_fits
    | with_reducible apply withCsf_fits
    | split

theorem execCsfStaleTimeout_fits (s : State) : Does (Foot.of [0x00, 0x0B, 0x40, 0x50, 0x68, 0x70, 0x71] [.flt, .evr, .saf, .lanes]) s (execCsfStaleTimeout s) := by
  unfold execCsfStaleTimeout
  repeat' first
    | (extract_lets +onlyGivenNames x
       first
       | (refine fits_cut (p := State.Fits (Foot.of [0x00, 0x0B, 0x40, 0x50, 0x68, 0x70, 0x71] [.flt, .evr, .saf, .lanes]) s x) ?_ ?_; rotate_left; intro hx; clear_value x; rotate_left; subst x)
       | (refine part_cut (α := type_of% x) (by constructor) ?_; subst x)
       | clear_value x
       | subst x)
    | ((with_reducible refine side_ok ?_); exact rfl)
    | with_reducible assumption
    | ((with_reducible refine keep_goal ?_); exact keep_refl)
    | with_reducible exact fits_refl _ _
    | with_reducible refine does_next ?_
    | with_reducible apply put_fits
    | with_reducible apply evt_fits
    | with_reducible apply begin_fits
    | with_reducible apply raiseTrig_fits
    | with_reducible apply settle_fits
    | ((with_reducible refine side_ok ?_); exact tl_unit rfl)
    | ((with_reducible refine side_ok ?_); exact be_unit rfl)
    | ((with_reducible refine side_ok ?_); exact lay_unit rfl)
    | ((with_reducible refine side_ok ?_); exact crc_unit rfl)
    | ((with_reducible refine side_ok ?_); exact lnk_unit rfl)
    | split

theorem execDevStatus_fits (s : State) : Does (Foot.of [0x0B] [.flt, .saf, .lnkA, .lnkB]) s (execDevStatus s) := by
  unfold execDevStatus
  repeat' first
    | (extract_lets +onlyGivenNames x
       first
       | (refine fits_cut (p := State.Fits (Foot.of [0x0B] [.flt, .saf, .lnkA, .lnkB]) s x) ?_ ?_; rotate_left; intro hx; clear_value x; rotate_left; subst x)
       | (refine part_cut (α := type_of% x) (by constructor) ?_; subst x)
       | clear_value x
       | subst x)
    | ((with_reducible refine side_ok ?_); exact rfl)
    | with_reducible assumption
    | ((with_reducible refine keep_goal ?_); exact keep_refl)
    | with_reducible exact fits_refl _ _
    | with_reducible refine does_next ?_
    | with_reducible apply inc_fits
    | with_reducible apply begin_fits
    | with_reducible apply queueSafe_fits
    | split

theorem execSideTrainingDone_fits (s : State) : Does (Foot.of [0x00, 0x0A, 0x40, 0x50, 0x68, 0x70, 0x71] [.flt, .evr, .saf, .side, .lanes]) s (execSideTrainingDone s) := by
  unfold execSideTrainingDone
  repeat' first
    | (extract_lets +onlyGivenNames x
       first
       | (refine fits_cut (p := State.Fits (Foot.of [0x00, 0x0A, 0x40, 0x50, 0x68, 0x70, 0x71] [.flt, .evr, .saf, .side, .lanes]) s x) ?_ ?_; rotate_left; intro hx; clear_value x; rotate_left; subst x)
       | (refine part_cut (α := type_of% x) (by constructor) ?_; subst x)
       | clear_value x
       | subst x)
    | ((with_reducible refine side_ok ?_); exact rfl)
    | with_reducible assumption
    | ((with_reducible refine keep_goal ?_); exact keep_refl)
    | with_reducible exact fits_refl _ _
    | with_reducible refine does_next ?_
    | with_reducible apply begin_fits
    | with_reducible apply sideStep_fits
    | split

theorem execPhaseFrame_fits (f : Wire) (s : State) : Does (Foot.of [0x00, 0x0A, 0x40, 0x50, 0x68, 0x70, 0x71] [.flt, .evr, .saf, .side, .lanes]) s (execPhaseFrame f s) := by
  unfold execPhaseFrame
  repeat' first
    | (extract_lets +onlyGivenNames x
       first
       | (refine fits_cut (p := State.Fits (Foot.of [0x00, 0x0A, 0x40, 0x50, 0x68, 0x70, 0x71] [.flt, .evr, .saf, .side, .lanes]) s x) ?_ ?_; rotate_left; intro hx; clear_value x; rotate_left; subst x)
       | (refine part_cut (α := type_of% x) (by constructor) ?_; subst x)
       | clear_value x
       | subst x)
    | ((with_reducible refine side_ok ?_); exact rfl)
    | with_reducible assumption
    | ((with_reducible refine keep_goal ?_); exact keep_refl)
    | with_reducible exact fits_refl _ _
    | with_reducible refine does_next ?_
    | with_reducible apply begin_fits
    | with_reducible refine checkSide_fits_eq (by assumption) ?_ ?_
    | with_reducible apply checkSide_fits
    | with_reducible apply leaveSplit_fits
    | with_reducible apply peerRole_fits
    | with_reducible apply phaseError_fits
    | with_reducible apply withSide_fits
    | with_reducible apply withSide_fits
    | split
    | with_reducible refine fits_snd (by assumption) ?_
    | with_reducible refine fits_thd (by assumption) ?_
    | dsimp only

theorem execSeamFrame_fits (f : Wire) (s : State) : Does (Foot.of [0x0A] [.mem, .flt, .saf, .side, .glare]) s (execSeamFrame f s) := by
  unfold execSeamFrame
  repeat' first
    | (extract_lets +onlyGivenNames x
       first
       | (refine fits_cut (p := State.Fits (Foot.of [0x0A] [.mem, .flt, .saf, .side, .glare]) s x) ?_ ?_; rotate_left; intro hx; clear_value x; rotate_left; subst x)
       | (refine part_cut (α := type_of% x) (by constructor) ?_; subst x)
       | clear_value x
       | subst x)
    | ((with_reducible refine side_ok ?_); exact rfl)
    | with_reducible assumption
    | ((with_reducible refine keep_ok ?_); intro h; rw [setBytes_glare] at h; exact h)
    | with_reducible exact fits_refl _ _
    | with_reducible refine does_next ?_
    | with_reducible apply setBytes_fits
    | with_reducible apply begin_fits
    | with_reducible refine checkSide_fits_eq (by assumption) ?_ ?_
    | with_reducible apply checkSide_fits
    | with_reducible apply withGlare_fits
    | with_reducible apply withGlare_fits
    | split
    | with_reducible refine fits_snd (by assumption) ?_
    | with_reducible refine fits_thd (by assumption) ?_
    | dsimp only

theorem execSstatFrame_fits (f : Wire) (s : State) : Does (Foot.of [0x00, 0x0A, 0x40, 0x50, 0x68, 0x70, 0x71] [.flt, .evr, .saf, .side, .lanes]) s (execSstatFrame f s) := by
  unfold execSstatFrame
  repeat' first
    | (extract_lets +onlyGivenNames x
       first
       | (refine fits_cut (p := State.Fits (Foot.of [0x00, 0x0A, 0x40, 0x50, 0x68, 0x70, 0x71] [.flt, .evr, .saf, .side, .lanes]) s x) ?_ ?_; rotate_left; intro hx; clear_value x; rotate_left; subst x)
       | (refine part_cut (α := type_of% x) (by constructor) ?_; subst x)
       | clear_value x
       | subst x)
    | ((with_reducible refine side_ok ?_); exact rfl)
    | with_reducible assumption
    | ((with_reducible refine keep_goal ?_); exact keep_refl)
    | with_reducible exact fits_refl _ _
    | with_reducible refine does_next ?_
    | with_reducible apply put_fits
    | with_reducible apply begin_fits
    | with_reducible refine checkSide_fits_eq (by assumption) ?_ ?_
    | with_reducible apply checkSide_fits
    | with_reducible apply enterSplit_fits
    | with_reducible apply leaveSplit_fits
    | with_reducible apply peerRole_fits
    | split
    | with_reducible refine fits_snd (by assumption) ?_
    | with_reducible refine fits_thd (by assumption) ?_
    | dsimp only

theorem execSideRxTimeout_fits (s : State) : Does (Foot.of [0x00, 0x0A, 0x40, 0x50, 0x68, 0x70, 0x71] [.flt, .evr, .saf, .side, .lanes]) s (execSideRxTimeout s) := by
  unfold execSideRxTimeout
  repeat' first
    | (extract_lets +onlyGivenNames x
       first
       | (refine fits_cut (p := State.Fits (Foot.of [0x00, 0x0A, 0x40, 0x50, 0x68, 0x70, 0x71] [.flt, .evr, .saf, .side, .lanes]) s x) ?_ ?_; rotate_left; intro hx; clear_value x; rotate_left; subst x)
       | (refine part_cut (α := type_of% x) (by constructor) ?_; subst x)
       | clear_value x
       | subst x)
    | ((with_reducible refine side_ok ?_); exact rfl)
    | with_reducible assumption
    | ((with_reducible refine keep_goal ?_); exact keep_refl)
    | with_reducible exact fits_refl _ _
    | with_reducible refine does_next ?_
    | with_reducible apply begin_fits
    | with_reducible apply loseRx_fits
    | split

theorem execSstatSend_fits (s : State) : Does (Foot.of [] [.flt, .saf, .side]) s (execSstatSend s) := by
  unfold execSstatSend
  repeat' first
    | (extract_lets +onlyGivenNames x
       first
       | (refine fits_cut (p := State.Fits (Foot.of [] [.flt, .saf, .side]) s x) ?_ ?_; rotate_left; intro hx; clear_value x; rotate_left; subst x)
       | (refine part_cut (α := type_of% x) (by constructor) ?_; subst x)
       | clear_value x
       | subst x)
    | ((with_reducible refine side_ok ?_); exact rfl)
    | with_reducible assumption
    | ((with_reducible refine keep_goal ?_); exact keep_refl)
    | with_reducible exact fits_refl _ _
    | with_reducible refine does_next ?_
    | with_reducible apply begin_fits
    | with_reducible apply withSide_fits
    | with_reducible apply withSide_fits
    | split

theorem execStoreTimeout_fits (l : Nat) (s : State) : Does (Foot.of [0x00, 0x02, 0x10, 0x40, 0x50, 0x68, 0x70, 0x71] [.flt, .evr, .saf, .lanes]) s (execStoreTimeout l s) := by
  unfold execStoreTimeout
  repeat' first
    | (extract_lets +onlyGivenNames x
       first
       | (refine fits_cut (p := State.Fits (Foot.of [0x00, 0x02, 0x10, 0x40, 0x50, 0x68, 0x70, 0x71] [.flt, .evr, .saf, .lanes]) s x) ?_ ?_; rotate_left; intro hx; clear_value x; rotate_left; subst x)
       | (refine part_cut (α := type_of% x) (by constructor) ?_; subst x)
       | clear_value x
       | subst x)
    | ((with_reducible refine side_ok ?_); exact rfl)
    | with_reducible assumption
    | ((with_reducible refine keep_goal ?_); exact keep_refl)
    | with_reducible exact fits_refl _ _
    | with_reducible refine does_next ?_
    | with_reducible apply evt_fits
    | with_reducible apply begin_fits
    | with_reducible apply detect_fits
    | ((with_reducible refine side_ok ?_); exact tl_unit rfl)
    | ((with_reducible refine side_ok ?_); exact be_unit rfl)
    | ((with_reducible refine side_ok ?_); exact lay_unit rfl)
    | ((with_reducible refine side_ok ?_); exact crc_unit rfl)
    | ((with_reducible refine side_ok ?_); exact lnk_unit rfl)
    | split

theorem execGapHoldExpiry_fits (l : Nat) (ch : Nat) (s : State) : Does (Foot.of [] [.flt, .saf, .lnkA, .lnkB]) s (execGapHoldExpiry l ch s) := by
  unfold execGapHoldExpiry
  repeat' first
    | (extract_lets +onlyGivenNames x
       first
       | (refine fits_cut (p := State.Fits (Foot.of [] [.flt, .saf, .lnkA, .lnkB]) s x) ?_ ?_; rotate_left; intro hx; clear_value x; rotate_left; subst x)
       | (refine part_cut (α := type_of% x) (by constructor) ?_; subst x)
       | clear_value x
       | subst x)
    | ((with_reducible refine side_ok ?_); exact rfl)
    | with_reducible assumption
    | ((with_reducible refine keep_goal ?_); exact keep_refl)
    | with_reducible exact fits_refl _ _
    | with_reducible refine does_next ?_
    | with_reducible apply begin_fits
    | with_reducible apply modLink_fits
    | split

theorem execResume_fits (l : Nat) (s : State) : Does (Foot.of [0x08, 0x09] [.flt, .saf, .lnkA, .lnkB]) s (execResume l s) := by
  unfold execResume
  repeat' first
    | (extract_lets +onlyGivenNames x
       first
       | (refine fits_cut (p := State.Fits (Foot.of [0x08, 0x09] [.flt, .saf, .lnkA, .lnkB]) s x) ?_ ?_; rotate_left; intro hx; clear_value x; rotate_left; subst x)
       | (refine part_cut (α := type_of% x) (by constructor) ?_; subst x)
       | clear_value x
       | subst x)
    | ((with_reducible refine side_ok ?_); exact rfl)
    | with_reducible assumption
    | ((with_reducible refine keep_goal ?_); exact keep_refl)
    | with_reducible exact fits_refl _ _
    | with_reducible refine does_next ?_
    | with_reducible apply put_fits
    | with_reducible apply begin_fits
    | with_reducible apply modLink_fits
    | ((with_reducible refine side_ok ?_); exact lnk_unit rfl)
    | split

theorem execDoneFrame_fits (ch : Nat) (copies : Nat) (s : State) : Does (Foot.of [0x00, 0x10, 0x40, 0x50, 0x68, 0x70, 0x71] [.flt, .evr, .saf, .lnkA, .lnkB, .spi, .cmd, .lanes]) s (execDoneFrame ch copies s) := by
  unfold execDoneFrame
  repeat' first
    | (extract_lets +onlyGivenNames x
       first
       | (refine fits_cut (p := State.Fits (Foot.of [0x00, 0x10, 0x40, 0x50, 0x68, 0x70, 0x71] [.flt, .evr, .saf, .lnkA, .lnkB, .spi, .cmd, .lanes]) s x) ?_ ?_; rotate_left; intro hx; clear_value x; rotate_left; subst x)
       | (refine part_cut (α := type_of% x) (by constructor) ?_; subst x)
       | clear_value x
       | subst x)
    | ((with_reducible refine side_ok ?_); exact rfl)
    | with_reducible assumption
    | ((with_reducible refine keep_goal ?_); exact keep_refl)
    | ((with_reducible refine keep_ok ?_); intro h; simpa [Saf.shaped, Quartz.shaped, Cmd.shaped, Glare.shaped, Gov.shaped, Cal.shaped, Flx.shaped, Fus.shaped, Upd.shaped] using h)
    | with_reducible exact fits_refl _ _
    | with_reducible refine does_next ?_
    | with_reducible refine fits_foldl _ _ (fun x hx u hu => ?_) ?_
    | with_reducible apply begin_fits
    | with_reducible refine checkCopies_fits_eq (by assumption) ?_ ?_
    | with_reducible apply checkCopies_fits
    | with_reducible apply modLink_fits
    | with_reducible apply queueAck_fits
    | with_reducible apply withCmd_fits
    | with_reducible apply withSpi_fits
    | with_reducible apply withCmd_fits
    | with_reducible apply withSpi_fits
    | split
    | with_reducible refine fits_snd (by assumption) ?_
    | with_reducible refine fits_thd (by assumption) ?_
    | dsimp only

theorem execLayerConsume_fits (parity : Bool) (s : State) : Does (Foot.of [0x00, 0x02, 0x10, 0x18, 0x40, 0x50, 0x68, 0x70, 0x71, 0x88] [.mem, .flt, .evr, .saf, .lnkA, .lnkB, .cmd, .glare, .lanes, .fresh]) s (execLayerConsume parity s) := by
  unfold execLayerConsume
  repeat' first
    | (extract_lets +onlyGivenNames x
       first
       | (refine fits_cut (p := State.Fits (Foot.of [0x00, 0x02, 0x10, 0x18, 0x40, 0x50, 0x68, 0x70, 0x71, 0x88] [.mem, .flt, .evr, .saf, .lnkA, .lnkB, .cmd, .glare, .lanes, .fresh]) s x) ?_ ?_; rotate_left; intro hx; clear_value x; rotate_left; subst x)
       | (refine part_cut (α := type_of% x) (by constructor) ?_; subst x)
       | clear_value x
       | subst x)
    | ((with_reducible refine side_ok ?_); exact rfl)
    | with_reducible assumption
    | ((with_reducible refine keep_goal ?_); exact keep_refl)
    | with_reducible exact fits_refl _ _
    | with_reducible refine does_next ?_
    | with_reducible apply inc_fits
    | with_reducible apply setBytes_fits
    | with_reducible apply begin_fits
    | with_reducible apply doneHead_fits
    | with_reducible apply layerCrc_fits
    | with_reducible apply replay_fits
    | ((with_reducible refine side_ok ?_); exact lay_unit rfl)
    | split

/-- The jobs of CAL change alone. -/
theorem calJobs_fits {f : Foot} {s0 : State} (s : State) (l : List (Nat × Int × Bool)) (hp : f.hasPart Part.cal = true) (h0 : s0.Fits f s) :
    s0.Fits f (s.withCal { s.cal with jobs := l }) := withCal_fits _ keep_refl hp h0

theorem execInterpDone_fits (tile : Nat) (s : State) : Does (Foot.of [] [.mem, .flt, .saf, .cal]) s (execInterpDone tile s) := by
  unfold execInterpDone
  repeat' first
    | (extract_lets +onlyGivenNames x
       first
       | (refine fits_cut (p := State.Fits (Foot.of [] [.mem, .flt, .saf, .cal]) s x) ?_ ?_; rotate_left; intro hx; clear_value x; rotate_left; subst x)
       | (refine part_cut (α := type_of% x) (by constructor) ?_; subst x)
       | clear_value x
       | subst x)
    | ((with_reducible refine side_ok ?_); exact rfl)
    | with_reducible assumption
    | with_reducible exact fits_refl _ _
    | with_reducible refine does_next ?_
    | with_reducible apply setBytes_fits
    | with_reducible apply begin_fits
    | with_reducible apply modCal_fits
    | with_reducible apply calJobs_fits
    | split

theorem execTrimDone_fits (codes : List (Option Nat)) (s : State) : Does (Foot.of [0x00, 0x40, 0x48, 0x50, 0x68, 0x70, 0x71] [.flt, .evr, .saf, .lanes, .cal]) s (execTrimDone codes s) := by
  unfold execTrimDone
  repeat' first
    | (extract_lets +onlyGivenNames x
       first
       | (refine fits_cut (p := State.Fits (Foot.of [0x00, 0x40, 0x48, 0x50, 0x68, 0x70, 0x71] [.flt, .evr, .saf, .lanes, .cal]) s x) ?_ ?_; rotate_left; intro hx; clear_value x; rotate_left; subst x)
       | (refine part_cut (α := type_of% x) (by constructor) ?_; subst x)
       | clear_value x
       | subst x)
    | ((with_reducible refine side_ok ?_); exact rfl)
    | with_reducible assumption
    | ((with_reducible refine keep_goal ?_); exact keep_refl)
    | with_reducible exact fits_refl _ _
    | with_reducible refine does_next ?_
    | with_reducible apply put_fits
    | with_reducible apply evt_fits
    | with_reducible apply incSat_fits
    | with_reducible apply begin_fits
    | with_reducible apply raise_fits
    | with_reducible apply withCal_fits
    | ((with_reducible refine side_ok ?_); exact tl_unit rfl)
    | ((with_reducible refine side_ok ?_); exact be_unit rfl)
    | ((with_reducible refine side_ok ?_); exact lay_unit rfl)
    | ((with_reducible refine side_ok ?_); exact crc_unit rfl)
    | ((with_reducible refine side_ok ?_); exact lnk_unit rfl)
    | with_reducible apply withCal_fits
    | split

theorem execFluxRecordWrite_fits (s : State) : Does (Foot.of [] [.flt, .saf, .flx, .thm]) s (execFluxRecordWrite s) := by
  unfold execFluxRecordWrite
  repeat' first
    | (extract_lets +onlyGivenNames x
       first
       | (refine fits_cut (p := State.Fits (Foot.of [] [.flt, .saf, .flx, .thm]) s x) ?_ ?_; rotate_left; intro hx; clear_value x; rotate_left; subst x)
       | (refine part_cut (α := type_of% x) (by constructor) ?_; subst x)
       | clear_value x
       | subst x)
    | ((with_reducible refine side_ok ?_); exact rfl)
    | with_reducible assumption
    | ((with_reducible refine keep_goal ?_); exact keep_refl)
    | with_reducible exact fits_refl _ _
    | with_reducible refine does_next ?_
    | with_reducible apply begin_fits
    | with_reducible apply writeFluxRecord_fits
    | split

theorem execLaneSerialiserReady_fits (n : Nat) (s : State) : Does (Foot.of [0x50] [.flt, .saf]) s (execLaneSerialiserReady n s) := by
  unfold execLaneSerialiserReady
  repeat' first
    | (extract_lets +onlyGivenNames x
       first
       | (refine fits_cut (p := State.Fits (Foot.of [0x50] [.flt, .saf]) s x) ?_ ?_; rotate_left; intro hx; clear_value x; rotate_left; subst x)
       | (refine part_cut (α := type_of% x) (by constructor) ?_; subst x)
       | clear_value x
       | subst x)
    | ((with_reducible refine side_ok ?_); exact rfl)
    | with_reducible assumption
    | ((with_reducible refine keep_goal ?_); exact keep_refl)
    | with_reducible exact fits_refl _ _
    | with_reducible refine does_next ?_
    | with_reducible apply put_fits
    | with_reducible apply begin_fits
    | ((with_reducible refine side_ok ?_); exact tl_unit rfl)
    | split

theorem execLaneTrainDone_fits (n : Nat) (s : State) : Does (Foot.of [0x50] [.flt, .saf, .lanes]) s (execLaneTrainDone n s) := by
  unfold execLaneTrainDone
  repeat' first
    | (extract_lets +onlyGivenNames x
       first
       | (refine fits_cut (p := State.Fits (Foot.of [0x50] [.flt, .saf, .lanes]) s x) ?_ ?_; rotate_left; intro hx; clear_value x; rotate_left; subst x)
       | (refine part_cut (α := type_of% x) (by constructor) ?_; subst x)
       | clear_value x
       | subst x)
    | ((with_reducible refine side_ok ?_); exact rfl)
    | with_reducible assumption
    | ((with_reducible refine keep_goal ?_); exact keep_refl)
    | with_reducible exact fits_refl _ _
    | with_reducible refine does_next ?_
    | with_reducible apply put_fits
    | with_reducible apply begin_fits
    | with_reducible apply laneActive_fits
    | with_reducible apply sendCtl_fits
    | ((with_reducible refine side_ok ?_); exact tl_unit rfl)
    | split

theorem execAssignTimeout_fits (n : Nat) (s : State) : Does (Foot.of [0x00, 0x02, 0x40, 0x50, 0x68, 0x70, 0x71] [.flt, .evr, .saf, .cmp, .lanes]) s (execAssignTimeout n s) := by
  unfold execAssignTimeout
  repeat' first
    | (extract_lets +onlyGivenNames x
       first
       | (refine fits_cut (p := State.Fits (Foot.of [0x00, 0x02, 0x40, 0x50, 0x68, 0x70, 0x71] [.flt, .evr, .saf, .cmp, .lanes]) s x) ?_ ?_; rotate_left; intro hx; clear_value x; rotate_left; subst x)
       | (refine part_cut (α := type_of% x) (by constructor) ?_; subst x)
       | clear_value x
       | subst x)
    | ((with_reducible refine side_ok ?_); exact rfl)
    | with_reducible assumption
    | ((with_reducible refine keep_goal ?_); exact keep_refl)
    | with_reducible exact fits_refl _ _
    | with_reducible refine does_next ?_
    | with_reducible apply put_fits
    | with_reducible apply begin_fits
    | with_reducible apply discoveryFailed_fits
    | with_reducible apply modLane_fits
    | ((with_reducible refine side_ok ?_); exact tl_unit rfl)
    | split

theorem execIdentTimeout_fits (n : Nat) (s : State) : Does (Foot.of [0x00, 0x02, 0x40, 0x50, 0x68, 0x70, 0x71] [.flt, .evr, .saf, .cmp, .lanes]) s (execIdentTimeout n s) := by
  unfold execIdentTimeout
  repeat' first
    | (extract_lets +onlyGivenNames x
       first
       | (refine fits_cut (p := State.Fits (Foot.of [0x00, 0x02, 0x40, 0x50, 0x68, 0x70, 0x71] [.flt, .evr, .saf, .cmp, .lanes]) s x) ?_ ?_; rotate_left; intro hx; clear_value x; rotate_left; subst x)
       | (refine part_cut (α := type_of% x) (by constructor) ?_; subst x)
       | clear_value x
       | subst x)
    | ((with_reducible refine side_ok ?_); exact rfl)
    | with_reducible assumption
    | ((with_reducible refine keep_goal ?_); exact keep_refl)
    | with_reducible exact fits_refl _ _
    | with_reducible refine does_next ?_
    | with_reducible apply begin_fits
    | with_reducible apply discoveryFailed_fits
    | split

theorem execLaneScheduledWake_fits (s : State) : Does (Foot.of [0x50] [.flt, .saf, .lanes]) s (execLaneScheduledWake s) := by
  unfold execLaneScheduledWake
  repeat' first
    | (extract_lets +onlyGivenNames x
       first
       | (refine fits_cut (p := State.Fits (Foot.of [0x50] [.flt, .saf, .lanes]) s x) ?_ ?_; rotate_left; intro hx; clear_value x; rotate_left; subst x)
       | (refine part_cut (α := type_of% x) (by constructor) ?_; subst x)
       | clear_value x
       | subst x)
    | ((with_reducible refine side_ok ?_); exact rfl)
    | with_reducible assumption
    | ((with_reducible refine keep_goal ?_); exact keep_refl)
    | with_reducible exact fits_refl _ _
    | with_reducible refine does_next ?_
    | with_reducible refine fits_foldl _ _ (fun x hx u hu => ?_) ?_
    | with_reducible apply put_fits
    | with_reducible apply begin_fits
    | with_reducible apply modLane_fits
    | ((with_reducible refine side_ok ?_); exact tl_unit rfl)
    | split

theorem execLaneDead_fits (n : Nat) (s : State) : Does (Foot.of [0x00, 0x02, 0x40, 0x50, 0x68, 0x70, 0x71] [.flt, .evr, .saf, .cmp, .lanes]) s (execLaneDead n s) := by
  unfold execLaneDead
  repeat' first
    | (extract_lets +onlyGivenNames x
       first
       | (refine fits_cut (p := State.Fits (Foot.of [0x00, 0x02, 0x40, 0x50, 0x68, 0x70, 0x71] [.flt, .evr, .saf, .cmp, .lanes]) s x) ?_ ?_; rotate_left; intro hx; clear_value x; rotate_left; subst x)
       | (refine part_cut (α := type_of% x) (by constructor) ?_; subst x)
       | clear_value x
       | subst x)
    | ((with_reducible refine side_ok ?_); exact rfl)
    | with_reducible assumption
    | ((with_reducible refine keep_goal ?_); exact keep_refl)
    | with_reducible exact fits_refl _ _
    | with_reducible refine does_next ?_
    | with_reducible apply evt_fits
    | with_reducible apply begin_fits
    | with_reducible apply laneFailed_fits
    | with_reducible apply tileFault_fits
    | ((with_reducible refine side_ok ?_); exact tl_unit rfl)
    | ((with_reducible refine side_ok ?_); exact be_unit rfl)
    | ((with_reducible refine side_ok ?_); exact lay_unit rfl)
    | ((with_reducible refine side_ok ?_); exact crc_unit rfl)
    | ((with_reducible refine side_ok ?_); exact lnk_unit rfl)
    | split

theorem execTempInvalidTimeout_fits (n : Nat) (s : State) : Does (Foot.of [0x00, 0x02, 0x40, 0x50, 0x68, 0x70, 0x71] [.flt, .evr, .saf, .cmp, .lanes, .flx]) s (execTempInvalidTimeout n s) := by
  unfold execTempInvalidTimeout
  repeat' first
    | (extract_lets +onlyGivenNames x
       first
       | (refine fits_cut (p := State.Fits (Foot.of [0x00, 0x02, 0x40, 0x50, 0x68, 0x70, 0x71] [.flt, .evr, .saf, .cmp, .lanes, .flx]) s x) ?_ ?_; rotate_left; intro hx; clear_value x; rotate_left; subst x)
       | (refine part_cut (α := type_of% x) (by constructor) ?_; subst x)
       | clear_value x
       | subst x)
    | ((with_reducible refine side_ok ?_); exact rfl)
    | with_reducible assumption
    | ((with_reducible refine keep_goal ?_); exact keep_refl)
    | with_reducible exact fits_refl _ _
    | with_reducible refine does_next ?_
    | with_reducible apply begin_fits
    | with_reducible apply shutdown_fits
    | split

theorem execCoolDownComplete_fits (n : Nat) (s : State) : Does (Foot.of [0x50] [.flt, .saf, .lanes]) s (execCoolDownComplete n s) := by
  unfold execCoolDownComplete
  repeat' first
    | (extract_lets +onlyGivenNames x
       first
       | (refine fits_cut (p := State.Fits (Foot.of [0x50] [.flt, .saf, .lanes]) s x) ?_ ?_; rotate_left; intro hx; clear_value x; rotate_left; subst x)
       | (refine part_cut (α := type_of% x) (by constructor) ?_; subst x)
       | clear_value x
       | subst x)
    | ((with_reducible refine side_ok ?_); exact rfl)
    | with_reducible assumption
    | ((with_reducible refine keep_goal ?_); exact keep_refl)
    | with_reducible exact fits_refl _ _
    | with_reducible refine does_next ?_
    | with_reducible apply put_fits
    | with_reducible apply evt_fits
    | with_reducible apply begin_fits
    | with_reducible apply condEnd_fits
    | with_reducible apply dirtyAll_fits
    | with_reducible apply modLane_fits
    | with_reducible apply startCtl_fits
    | ((with_reducible refine side_ok ?_); exact tl_unit rfl)
    | split

theorem execRegionPush_fits (n : Nat) (s : State) : Does (Foot.of [0x50] [.flt, .saf, .lanes]) s (execRegionPush n s) := by
  unfold execRegionPush
  repeat' first
    | (extract_lets +onlyGivenNames x
       first
       | (refine fits_cut (p := State.Fits (Foot.of [0x50] [.flt, .saf, .lanes]) s x) ?_ ?_; rotate_left; intro hx; clear_value x; rotate_left; subst x)
       | (refine part_cut (α := type_of% x) (by constructor) ?_; subst x)
       | clear_value x
       | subst x)
    | ((with_reducible refine side_ok ?_); exact rfl)
    | with_reducible assumption
    | ((with_reducible refine keep_goal ?_); exact keep_refl)
    | with_reducible exact fits_refl _ _
    | with_reducible refine does_next ?_
    | with_reducible refine fits_foldl _ _ (fun x hx u hu => ?_) ?_
    | with_reducible apply inc_fits
    | with_reducible apply incSat_fits
    | with_reducible apply begin_fits
    | with_reducible apply modLane_fits
    | ((with_reducible refine side_ok ?_); exact tl_unit rfl)
    | split

theorem execReportTimeout_fits (n : Nat) (s : State) : Does (Foot.of [0x00, 0x02, 0x18, 0x40, 0x50, 0x68, 0x70, 0x71] [.flt, .evr, .saf, .cmp, .lanes, .tln]) s (execReportTimeout n s) := by
  unfold execReportTimeout
  repeat' first
    | (extract_lets +onlyGivenNames x
       first
       | (refine fits_cut (p := State.Fits (Foot.of [0x00, 0x02, 0x18, 0x40, 0x50, 0x68, 0x70, 0x71] [.flt, .evr, .saf, .cmp, .lanes, .tln]) s x) ?_ ?_; rotate_left; intro hx; clear_value x; rotate_left; subst x)
       | (refine part_cut (α := type_of% x) (by constructor) ?_; subst x)
       | clear_value x
       | subst x)
    | ((with_reducible refine side_ok ?_); exact rfl)
    | with_reducible assumption
    | ((with_reducible refine keep_goal ?_); exact keep_refl)
    | with_reducible exact fits_refl _ _
    | with_reducible refine does_next ?_
    | with_reducible apply evt_fits
    | with_reducible apply incSat_fits
    | with_reducible apply begin_fits
    | with_reducible apply detect_fits
    | with_reducible apply modLane_fits
    | with_reducible refine nextReport_fits_eq (by assumption) ?_ ?_
    | with_reducible apply regionFailed_fits
    | with_reducible apply retrain_fits
    | ((with_reducible refine side_ok ?_); exact tl_unit rfl)
    | ((with_reducible refine side_ok ?_); exact be_unit rfl)
    | ((with_reducible refine side_ok ?_); exact lay_unit rfl)
    | ((with_reducible refine side_ok ?_); exact crc_unit rfl)
    | ((with_reducible refine side_ok ?_); exact lnk_unit rfl)
    | split

theorem execTsbRound_fits (slots : List Nat) (readback : Bool) (start : Bool) (s : State) : Does (Foot.of [0x00, 0x02, 0x18, 0x40, 0x48, 0x50, 0x68, 0x70, 0x71] [.flt, .evr, .saf, .cmp, .lanes, .tln, .cal]) s (execTsbRound slots readback start s) := by
  unfold execTsbRound
  repeat' first
    | (extract_lets +onlyGivenNames x
       first
       | (refine fits_cut (p := State.Fits (Foot.of [0x00, 0x02, 0x18, 0x40, 0x48, 0x50, 0x68, 0x70, 0x71] [.flt, .evr, .saf, .cmp, .lanes, .tln, .cal]) s x) ?_ ?_; rotate_left; intro hx; clear_value x; rotate_left; subst x)
       | (refine part_cut (α := type_of% x) (by constructor) ?_; subst x)
       | clear_value x
       | subst x)
    | ((with_reducible refine side_ok ?_); exact rfl)
    | with_reducible assumption
    | ((with_reducible refine keep_goal ?_); exact keep_refl)
    | ((with_reducible refine keep_ok ?_); intro h; simpa [Saf.shaped, Quartz.shaped, Cmd.shaped, Glare.shaped, Gov.shaped, Cal.shaped, Flx.shaped, Fus.shaped, Upd.shaped] using h)
    | with_reducible exact fits_refl _ _
    | with_reducible refine does_next ?_
    | with_reducible refine fits_foldl _ _ (fun x hx u hu => ?_) ?_
    | with_reducible apply put_fits
    | with_reducible apply evt_fits
    | with_reducible apply begin_fits
    | with_reducible apply raise_fits
    | with_reducible apply slot_fits
    | with_reducible apply tempLost_fits
    | with_reducible apply withLanes_fits
    | with_reducible apply withTln_fits
    | ((with_reducible refine side_ok ?_); exact tl_unit rfl)
    | ((with_reducible refine side_ok ?_); exact be_unit rfl)
    | ((with_reducible refine side_ok ?_); exact lay_unit rfl)
    | ((with_reducible refine side_ok ?_); exact crc_unit rfl)
    | ((with_reducible refine side_ok ?_); exact lnk_unit rfl)
    | with_reducible apply withLanes_fits
    | with_reducible apply withTln_fits
    | split

theorem execTsbStatus_fits (n : Nat) (w : BitVec 64) (s : State) : Does (Foot.of [0x00, 0x02, 0x18, 0x40, 0x50, 0x68, 0x70, 0x71] [.flt, .evr, .saf, .cmp, .lanes, .tln, .cal, .flx]) s (execTsbStatus n w s) := by
  unfold execTsbStatus
  repeat' first
    | (extract_lets +onlyGivenNames x
       first
       | (refine fits_cut (p := State.Fits (Foot.of [0x00, 0x02, 0x18, 0x40, 0x50, 0x68, 0x70, 0x71] [.flt, .evr, .saf, .cmp, .lanes, .tln, .cal, .flx]) s x) ?_ ?_; rotate_left; intro hx; clear_value x; rotate_left; subst x)
       | (refine part_cut (α := type_of% x) (by constructor) ?_; subst x)
       | clear_value x
       | subst x)
    | ((with_reducible refine side_ok ?_); exact rfl)
    | with_reducible assumption
    | ((with_reducible refine keep_goal ?_); exact keep_refl)
    | with_reducible exact fits_refl _ _
    | with_reducible refine does_next ?_
    | with_reducible apply put_fits
    | with_reducible apply begin_fits
    | with_reducible apply calTrigger_fits
    | with_reducible apply condEnd_fits
    | with_reducible apply ctlStatus_fits
    | with_reducible apply dirtyAll_fits
    | with_reducible apply flipCheck_fits
    | with_reducible refine message_fits_eq (by assumption) ?_ ?_
    | with_reducible apply message_fits
    | with_reducible apply modLane_fits
    | with_reducible apply otCheck_fits
    | with_reducible apply retrain_fits
    | ((with_reducible refine side_ok ?_); exact tl_unit rfl)
    | split
    | with_reducible refine fits_snd (by assumption) ?_
    | with_reducible refine fits_thd (by assumption) ?_
    | dsimp only

theorem execTsbUidLo_fits (n : Nat) (w : BitVec 64) (s : State) : Does (Foot.of [0x00, 0x02, 0x40, 0x50, 0x68, 0x70, 0x71] [.flt, .evr, .saf, .cmp, .lanes]) s (execTsbUidLo n w s) := by
  unfold execTsbUidLo
  repeat' first
    | (extract_lets +onlyGivenNames x
       first
       | (refine fits_cut (p := State.Fits (Foot.of [0x00, 0x02, 0x40, 0x50, 0x68, 0x70, 0x71] [.flt, .evr, .saf, .cmp, .lanes]) s x) ?_ ?_; rotate_left; intro hx; clear_value x; rotate_left; subst x)
       | (refine part_cut (α := type_of% x) (by constructor) ?_; subst x)
       | clear_value x
       | subst x)
    | ((with_reducible refine side_ok ?_); exact rfl)
    | with_reducible assumption
    | ((with_reducible refine keep_goal ?_); exact keep_refl)
    | with_reducible exact fits_refl _ _
    | with_reducible refine does_next ?_
    | with_reducible apply begin_fits
    | with_reducible apply identDone_fits
    | with_reducible refine message_fits_eq (by assumption) ?_ ?_
    | with_reducible apply message_fits
    | with_reducible apply modLane_fits
    | split
    | with_reducible refine fits_snd (by assumption) ?_
    | with_reducible refine fits_thd (by assumption) ?_
    | dsimp only

theorem execTsbUidHi_fits (n : Nat) (w : BitVec 64) (s : State) : Does (Foot.of [0x00, 0x02, 0x40, 0x50, 0x68, 0x70, 0x71] [.flt, .evr, .saf, .cmp, .lanes]) s (execTsbUidHi n w s) := by
  unfold execTsbUidHi
  repeat' first
    | (extract_lets +onlyGivenNames x
       first
       | (refine fits_cut (p := State.Fits (Foot.of [0x00, 0x02, 0x40, 0x50, 0x68, 0x70, 0x71] [.flt, .evr, .saf, .cmp, .lanes]) s x) ?_ ?_; rotate_left; intro hx; clear_value x; rotate_left; subst x)
       | (refine part_cut (α := type_of% x) (by constructor) ?_; subst x)
       | clear_value x
       | subst x)
    | ((with_reducible refine side_ok ?_); exact rfl)
    | with_reducible assumption
    | ((with_reducible refine keep_goal ?_); exact keep_refl)
    | with_reducible exact fits_refl _ _
    | with_reducible refine does_next ?_
    | with_reducible apply begin_fits
    | with_reducible apply identDone_fits
    | with_reducible refine message_fits_eq (by assumption) ?_ ?_
    | with_reducible apply message_fits
    | with_reducible apply modLane_fits
    | split
    | with_reducible refine fits_snd (by assumption) ?_
    | with_reducible refine fits_thd (by assumption) ?_
    | dsimp only

theorem execTsbCap_fits (n : Nat) (w : BitVec 64) (s : State) : Does (Foot.of [0x00, 0x02, 0x40, 0x50, 0x68, 0x70, 0x71] [.flt, .evr, .saf, .cmp, .lanes]) s (execTsbCap n w s) := by
  unfold execTsbCap
  repeat' first
    | (extract_lets +onlyGivenNames x
       first
       | (refine fits_cut (p := State.Fits (Foot.of [0x00, 0x02, 0x40, 0x50, 0x68, 0x70, 0x71] [.flt, .evr, .saf, .cmp, .lanes]) s x) ?_ ?_; rotate_left; intro hx; clear_value x; rotate_left; subst x)
       | (refine part_cut (α := type_of% x) (by constructor) ?_; subst x)
       | clear_value x
       | subst x)
    | ((with_reducible refine side_ok ?_); exact rfl)
    | with_reducible assumption
    | ((with_reducible refine keep_goal ?_); exact keep_refl)
    | with_reducible exact fits_refl _ _
    | with_reducible refine does_next ?_
    | with_reducible apply begin_fits
    | with_reducible apply identDone_fits
    | with_reducible refine message_fits_eq (by assumption) ?_ ?_
    | with_reducible apply message_fits
    | with_reducible apply modLane_fits
    | split
    | with_reducible refine fits_snd (by assumption) ?_
    | with_reducible refine fits_thd (by assumption) ?_
    | dsimp only

theorem execFsyncEdge_fits (s : State) : Does (Foot.of [0x50] [.flt, .saf, .tln]) s (execFsyncEdge s) := by
  unfold execFsyncEdge
  repeat' first
    | (extract_lets +onlyGivenNames x
       first
       | (refine fits_cut (p := State.Fits (Foot.of [0x50] [.flt, .saf, .tln]) s x) ?_ ?_; rotate_left; intro hx; clear_value x; rotate_left; subst x)
       | (refine part_cut (α := type_of% x) (by constructor) ?_; subst x)
       | clear_value x
       | subst x)
    | ((with_reducible refine side_ok ?_); exact rfl)
    | with_reducible assumption
    | ((with_reducible refine keep_goal ?_); exact keep_refl)
    | with_reducible exact fits_refl _ _
    | with_reducible refine does_next ?_
    | with_reducible apply put_fits
    | with_reducible apply evt_fits
    | with_reducible apply begin_fits
    | with_reducible apply withTln_fits
    | with_reducible apply withTln_fits
    | split

theorem execFsyncLost_fits (s : State) : Does (Foot.of [0x50] [.flt, .saf, .tln]) s (execFsyncLost s) := by
  unfold execFsyncLost
  repeat' first
    | (extract_lets +onlyGivenNames x
       first
       | (refine fits_cut (p := State.Fits (Foot.of [0x50] [.flt, .saf, .tln]) s x) ?_ ?_; rotate_left; intro hx; clear_value x; rotate_left; subst x)
       | (refine part_cut (α := type_of% x) (by constructor) ?_; subst x)
       | clear_value x
       | subst x)
    | ((with_reducible refine side_ok ?_); exact rfl)
    | with_reducible assumption
    | ((with_reducible refine keep_goal ?_); exact keep_refl)
    | with_reducible exact fits_refl _ _
    | with_reducible refine does_next ?_
    | with_reducible apply put_fits
    | with_reducible apply evt_fits
    | with_reducible apply begin_fits
    | with_reducible apply withTln_fits
    | with_reducible apply withTln_fits
    | split

theorem execBandRelease_fits (k : Nat) (hit : Hit) (s : State) : Does (Foot.of [0x00, 0x02, 0x18, 0x40, 0x48, 0x50, 0x68, 0x70, 0x71] [.flt, .evr, .saf, .cmp, .lanes, .tln, .gov, .fresh]) s (execBandRelease k hit s) := by
  unfold execBandRelease
  repeat' first
    | (extract_lets +onlyGivenNames x
       first
       | (refine fits_cut (p := State.Fits (Foot.of [0x00, 0x02, 0x18, 0x40, 0x48, 0x50, 0x68, 0x70, 0x71] [.flt, .evr, .saf, .cmp, .lanes, .tln, .gov, .fresh]) s x) ?_ ?_; rotate_left; intro hx; clear_value x; rotate_left; subst x)
       | (refine part_cut (α := type_of% x) (by constructor) ?_; subst x)
       | clear_value x
       | subst x)
    | ((with_reducible refine side_ok ?_); exact rfl)
    | with_reducible assumption
    | ((with_reducible refine keep_goal ?_); exact keep_refl)
    | with_reducible exact fits_refl _ _
    | with_reducible refine does_next ?_
    | with_reducible apply begin_fits
    | with_reducible refine releaseChecks_fits_eq (by assumption) ?_ ?_
    | with_reducible apply releaseChecks_fits
    | with_reducible apply releaseOne_fits
    | split
    | with_reducible refine fits_snd (by assumption) ?_
    | with_reducible refine fits_thd (by assumption) ?_
    | dsimp only

theorem execRegionRecompute_fits (bad : List Nat) (s : State) : Does (Foot.of [0x00, 0x02, 0x18, 0x40, 0x50, 0x68, 0x70, 0x71] [.flt, .evr, .saf, .cmp, .lanes, .tln]) s (execRegionRecompute bad s) := by
  unfold execRegionRecompute
  repeat' first
    | (extract_lets +onlyGivenNames x
       first
       | (refine fits_cut (p := State.Fits (Foot.of [0x00, 0x02, 0x18, 0x40, 0x50, 0x68, 0x70, 0x71] [.flt, .evr, .saf, .cmp, .lanes, .tln]) s x) ?_ ?_; rotate_left; intro hx; clear_value x; rotate_left; subst x)
       | (refine part_cut (α := type_of% x) (by constructor) ?_; subst x)
       | clear_value x
       | subst x)
    | ((with_reducible refine side_ok ?_); exact rfl)
    | with_reducible assumption
    | ((with_reducible refine keep_goal ?_); exact keep_refl)
    | with_reducible exact fits_refl _ _
    | with_reducible refine does_next ?_
    | with_reducible apply evt_fits
    | with_reducible apply incSat_fits
    | with_reducible apply begin_fits
    | with_reducible apply consumeInj_fits
    | with_reducible apply noteParity_fits
    | with_reducible apply parityOutcome_fits
    | with_reducible apply queueRepush_fits
    | with_reducible apply recomputeRegion_fits
    | with_reducible apply requestRecomp_fits
    | with_reducible apply withCmp_fits
    | with_reducible apply withCmp_fits
    | split
    | with_reducible refine fits_snd (by assumption) ?_
    | with_reducible refine fits_thd (by assumption) ?_
    | dsimp only

theorem execDigestCheck_fits (ok : Bool) (ecc : Nat) (s : State) : Does (Foot.of [0x00, 0x40, 0x50, 0x68, 0x70, 0x71] [.flt, .evr, .saf, .lanes, .fresh]) s (execDigestCheck ok ecc s) := by
  unfold execDigestCheck
  repeat' first
    | (extract_lets +onlyGivenNames x
       first
       | (refine fits_cut (p := State.Fits (Foot.of [0x00, 0x40, 0x50, 0x68, 0x70, 0x71] [.flt, .evr, .saf, .lanes, .fresh]) s x) ?_ ?_; rotate_left; intro hx; clear_value x; rotate_left; subst x)
       | (refine part_cut (α := type_of% x) (by constructor) ?_; subst x)
       | clear_value x
       | subst x)
    | ((with_reducible refine side_ok ?_); exact rfl)
    | with_reducible assumption
    | ((with_reducible refine keep_goal ?_); exact keep_refl)
    | with_reducible exact fits_refl _ _
    | with_reducible refine does_next ?_
    | with_reducible apply evt_fits
    | with_reducible refine free_fits_eq (by assumption) ?_ ?_
    | with_reducible apply free_fits
    | with_reducible apply begin_fits
    | with_reducible refine freeAddr_fits_eq (by assumption) ?_ ?_
    | with_reducible apply freeAddr_fits
    | with_reducible apply gramCor_fits
    | with_reducible apply gramInject_fits
    | with_reducible apply gramUnc_fits
    | with_reducible apply graniteFault_fits
    | ((with_reducible refine side_ok ?_); exact tl_unit rfl)
    | ((with_reducible refine side_ok ?_); exact be_unit rfl)
    | ((with_reducible refine side_ok ?_); exact lay_unit rfl)
    | ((with_reducible refine side_ok ?_); exact crc_unit rfl)
    | ((with_reducible refine side_ok ?_); exact lnk_unit rfl)
    | split
    | with_reducible refine fits_snd (by assumption) ?_
    | with_reducible refine fits_thd (by assumption) ?_
    | dsimp only

theorem execKernelBandRender_fits (n : Nat) (b : Nat) (cycles : Nat) (band : List Byte) (parity : Bool) (s : State) : Does (Foot.of [0x30] [.mem, .flt, .saf, .glare]) s (execKernelBandRender n b cycles band parity s) := by
  unfold execKernelBandRender
  repeat' first
    | (extract_lets +onlyGivenNames x
       first
       | (refine fits_cut (p := State.Fits (Foot.of [0x30] [.mem, .flt, .saf, .glare]) s x) ?_ ?_; rotate_left; intro hx; clear_value x; rotate_left; subst x)
       | (refine part_cut (α := type_of% x) (by constructor) ?_; subst x)
       | clear_value x
       | subst x)
    | ((with_reducible refine side_ok ?_); exact rfl)
    | with_reducible assumption
    | ((with_reducible refine keep_goal ?_); exact keep_refl)
    | with_reducible exact fits_refl _ _
    | with_reducible refine does_next ?_
    | with_reducible apply begin_fits
    | with_reducible apply cycles_fits
    | with_reducible apply writeBand_fits
    | split

theorem execKernelOverrun_fits (n : Nat) (b : Nat) (window : Bool) (parity : Bool) (s : State) : Does (Foot.of [0x00, 0x02, 0x30, 0x40, 0x50, 0x68, 0x70, 0x71] [.mem, .flt, .evr, .saf, .glare, .lanes]) s (execKernelOverrun n b window parity s) := by
  unfold execKernelOverrun
  repeat' first
    | (extract_lets +onlyGivenNames x
       first
       | (refine fits_cut (p := State.Fits (Foot.of [0x00, 0x02, 0x30, 0x40, 0x50, 0x68, 0x70, 0x71] [.mem, .flt, .evr, .saf, .glare, .lanes]) s x) ?_ ?_; rotate_left; intro hx; clear_value x; rotate_left; subst x)
       | (refine part_cut (α := type_of% x) (by constructor) ?_; subst x)
       | clear_value x
       | subst x)
    | ((with_reducible refine side_ok ?_); exact rfl)
    | with_reducible assumption
    | ((with_reducible refine keep_goal ?_); exact keep_refl)
    | with_reducible exact fits_refl _ _
    | with_reducible refine does_next ?_
    | with_reducible apply evt_fits
    | with_reducible apply incSat_fits
    | with_reducible apply begin_fits
    | with_reducible apply cycles_fits
    | with_reducible apply detect_fits
    | with_reducible apply modEngine_fits
    | with_reducible apply writeBand_fits
    | ((with_reducible refine side_ok ?_); exact tl_unit rfl)
    | ((with_reducible refine side_ok ?_); exact be_unit rfl)
    | ((with_reducible refine side_ok ?_); exact lay_unit rfl)
    | ((with_reducible refine side_ok ?_); exact crc_unit rfl)
    | ((with_reducible refine side_ok ?_); exact lnk_unit rfl)
    | ((with_reducible refine side_ok ?_); split <;> exact rfl)
    | split

theorem execKernelVerifyDone_fits (slot : Nat) (sigOk : Bool) (s : State) : Does (Foot.of [0x30, 0x78] [.flt, .saf]) s (execKernelVerifyDone slot sigOk s) := by
  unfold execKernelVerifyDone
  repeat' first
    | (extract_lets +onlyGivenNames x
       first
       | (refine fits_cut (p := State.Fits (Foot.of [0x30, 0x78] [.flt, .saf]) s x) ?_ ?_; rotate_left; intro hx; clear_value x; rotate_left; subst x)
       | (refine part_cut (α := type_of% x) (by constructor) ?_; subst x)
       | clear_value x
       | subst x)
    | ((with_reducible refine side_ok ?_); exact rfl)
    | with_reducible assumption
    | ((with_reducible refine keep_goal ?_); exact keep_refl)
    | with_reducible exact fits_refl _ _
    | with_reducible refine does_next ?_
    | with_reducible apply put_fits
    | with_reducible apply evt_fits
    | with_reducible apply begin_fits
    | with_reducible refine kernelRej_fits_eq (by assumption) ?_ ?_
    | with_reducible apply kernelRej_fits
    | ((with_reducible refine side_ok ?_); unfold kstat; split <;> exact rfl)
    | split
    | with_reducible refine fits_snd (by assumption) ?_
    | with_reducible refine fits_thd (by assumption) ?_
    | dsimp only

theorem execObjectCutoff_fits (parity : Bool) (s : State) : Does (Foot.of [0x00, 0x02, 0x10, 0x30, 0x40, 0x50, 0x68, 0x70, 0x71] [.pend, .pendPages, .mem, .flt, .evr, .saf, .lnkA, .lnkB, .side, .cmd, .glare, .lanes, .tln, .fresh]) s (execObjectCutoff parity s) := by
  unfold execObjectCutoff
  repeat' first
    | (extract_lets +onlyGivenNames x
       first
       | (refine fits_cut (p := State.Fits (Foot.of [0x00, 0x02, 0x10, 0x30, 0x40, 0x50, 0x68, 0x70, 0x71] [.pend, .pendPages, .mem, .flt, .evr, .saf, .lnkA, .lnkB, .side, .cmd, .glare, .lanes, .tln, .fresh]) s x) ?_ ?_; rotate_left; intro hx; clear_value x; rotate_left; subst x)
       | (refine part_cut (α := type_of% x) (by constructor) ?_; subst x)
       | clear_value x
       | subst x)
    | ((with_reducible refine side_ok ?_); exact rfl)
    | with_reducible assumption
    | ((with_reducible refine keep_goal ?_); exact keep_refl)
    | with_reducible exact fits_refl _ _
    | with_reducible refine does_next ?_
    | with_reducible apply put_fits
    | with_reducible apply evt_fits
    | with_reducible apply begin_fits
    | with_reducible apply boxEntry_fits
    | with_reducible apply glareCommits_fits
    | with_reducible apply govMonitor_fits
    | with_reducible apply pullAdjust_fits
    | with_reducible apply setup_fits
    | with_reducible apply takeList_fits
    | with_reducible apply withGlare_fits
    | with_reducible apply withTln_fits
    | with_reducible apply withGlare_fits
    | with_reducible apply withTln_fits
    | split
    | with_reducible refine fits_snd (by assumption) ?_
    | with_reducible refine fits_thd (by assumption) ?_
    | dsimp only

theorem execSegIdent_fits (a : Nat) (s : State) : Does (Foot.of [0x00, 0x02, 0x40, 0x50, 0x60, 0x68, 0x70, 0x71] [.flt, .evr, .saf, .lanes, .seg]) s (execSegIdent a s) := by
  unfold execSegIdent
  repeat' first
    | (extract_lets +onlyGivenNames x
       first
       | (refine fits_cut (p := State.Fits (Foot.of [0x00, 0x02, 0x40, 0x50, 0x60, 0x68, 0x70, 0x71] [.flt, .evr, .saf, .lanes, .seg]) s x) ?_ ?_; rotate_left; intro hx; clear_value x; rotate_left; subst x)
       | (refine part_cut (α := type_of% x) (by constructor) ?_; subst x)
       | clear_value x
       | subst x)
    | ((with_reducible refine side_ok ?_); exact rfl)
    | with_reducible assumption
    | ((with_reducible refine keep_goal ?_); exact keep_refl)
    | with_reducible exact fits_refl _ _
    | with_reducible refine does_next ?_
    | with_reducible apply begin_fits
    | with_reducible apply segRequest_fits
    | split

theorem execSegConfig_fits (a : Nat) (s : State) : Does (Foot.of [0x00, 0x02, 0x40, 0x50, 0x60, 0x68, 0x70, 0x71] [.flt, .evr, .saf, .lanes, .seg]) s (execSegConfig a s) := by
  unfold execSegConfig
  repeat' first
    | (extract_lets +onlyGivenNames x
       first
       | (refine fits_cut (p := State.Fits (Foot.of [0x00, 0x02, 0x40, 0x50, 0x60, 0x68, 0x70, 0x71] [.flt, .evr, .saf, .lanes, .seg]) s x) ?_ ?_; rotate_left; intro hx; clear_value x; rotate_left; subst x)
       | (refine part_cut (α := type_of% x) (by constructor) ?_; subst x)
       | clear_value x
       | subst x)
    | ((with_reducible refine side_ok ?_); exact rfl)
    | with_reducible assumption
    | ((with_reducible refine keep_goal ?_); exact keep_refl)
    | with_reducible exact fits_refl _ _
    | with_reducible refine does_next ?_
    | with_reducible apply begin_fits
    | with_reducible apply segRequest_fits
    | with_reducible apply segSend_fits
    | with_reducible apply withSeg_fits
    | with_reducible apply withSeg_fits
    | split

theorem execSegSet_fits (a : Nat) (readback : Bool) (s : State) : Does (Foot.of [0x00, 0x02, 0x40, 0x50, 0x60, 0x68, 0x70, 0x71] [.flt, .evr, .saf, .lanes, .seg]) s (execSegSet a readback s) := by
  unfold execSegSet
  repeat' first
    | (extract_lets +onlyGivenNames x
       first
       | (refine fits_cut (p := State.Fits (Foot.of [0x00, 0x02, 0x40, 0x50, 0x60, 0x68, 0x70, 0x71] [.flt, .evr, .saf, .lanes, .seg]) s x) ?_ ?_; rotate_left; intro hx; clear_value x; rotate_left; subst x)
       | (refine part_cut (α := type_of% x) (by constructor) ?_; subst x)
       | clear_value x
       | subst x)
    | ((with_reducible refine side_ok ?_); exact rfl)
    | with_reducible assumption
    | ((with_reducible refine keep_goal ?_); exact keep_refl)
    | with_reducible exact fits_refl _ _
    | with_reducible refine does_next ?_
    | with_reducible apply begin_fits
    | with_reducible apply segRequest_fits
    | split

theorem execSegPoll_fits (a : Nat) (readback : Bool) (s : State) : Does (Foot.of [0x00, 0x02, 0x40, 0x50, 0x60, 0x68, 0x70, 0x71] [.flt, .evr, .saf, .lanes, .seg]) s (execSegPoll a readback s) := by
  unfold execSegPoll
  repeat' first
    | (extract_lets +onlyGivenNames x
       first
       | (refine fits_cut (p := State.Fits (Foot.of [0x00, 0x02, 0x40, 0x50, 0x60, 0x68, 0x70, 0x71] [.flt, .evr, .saf, .lanes, .seg]) s x) ?_ ?_; rotate_left; intro hx; clear_value x; rotate_left; subst x)
       | (refine part_cut (α := type_of% x) (by constructor) ?_; subst x)
       | clear_value x
       | subst x)
    | ((with_reducible refine side_ok ?_); exact rfl)
    | with_reducible assumption
    | ((with_reducible refine keep_goal ?_); exact keep_refl)
    | with_reducible exact fits_refl _ _
    | with_reducible refine does_next ?_
    | with_reducible apply begin_fits
    | with_reducible apply segRequest_fits
    | split

theorem execSegLatch_fits (readback : Bool) (s : State) : Does (Foot.of [0x00, 0x40, 0x50, 0x60, 0x68, 0x70, 0x71] [.flt, .evr, .saf, .lanes, .seg]) s (execSegLatch readback s) := by
  unfold execSegLatch
  repeat' first
    | (extract_lets +onlyGivenNames x
       first
       | (refine fits_cut (p := State.Fits (Foot.of [0x00, 0x40, 0x50, 0x60, 0x68, 0x70, 0x71] [.flt, .evr, .saf, .lanes, .seg]) s x) ?_ ?_; rotate_left; intro hx; clear_value x; rotate_left; subst x)
       | (refine part_cut (α := type_of% x) (by constructor) ?_; subst x)
       | clear_value x
       | subst x)
    | ((with_reducible refine side_ok ?_); exact rfl)
    | with_reducible assumption
    | ((with_reducible refine keep_goal ?_); exact keep_refl)
    | with_reducible exact fits_refl _ _
    | with_reducible refine does_next ?_
    | with_reducible refine fits_foldl _ _ (fun x hx u hu => ?_) ?_
    | with_reducible apply begin_fits
    | with_reducible apply latchRepeat_fits
    | with_reducible apply latchShow_fits
    | with_reducible apply modChan_fits
    | with_reducible apply segAbort_fits
    | with_reducible apply segGood_fits
    | with_reducible apply segSend_fits
    | split

theorem execSegAllOff_fits (s : State) : Does (Foot.of [] [.flt, .saf, .seg]) s (execSegAllOff s) := by
  unfold execSegAllOff
  repeat' first
    | (extract_lets +onlyGivenNames x
       first
       | (refine fits_cut (p := State.Fits (Foot.of [] [.flt, .saf, .seg]) s x) ?_ ?_; rotate_left; intro hx; clear_value x; rotate_left; subst x)
       | (refine part_cut (α := type_of% x) (by constructor) ?_; subst x)
       | clear_value x
       | subst x)
    | ((with_reducible refine side_ok ?_); exact rfl)
    | with_reducible assumption
    | ((with_reducible refine keep_goal ?_); exact keep_refl)
    | with_reducible exact fits_refl _ _
    | with_reducible refine does_next ?_
    | with_reducible apply begin_fits
    | with_reducible apply segAllOff_fits
    | split

theorem execSegResponse_fits (bytes : List Byte) (s : State) : Does (Foot.of [0x00, 0x02, 0x40, 0x50, 0x60, 0x68, 0x70, 0x71] [.flt, .evr, .saf, .lanes, .seg]) s (execSegResponse bytes s) := by
  unfold execSegResponse
  repeat' first
    | (extract_lets +onlyGivenNames x
       first
       | (refine fits_cut (p := State.Fits (Foot.of [0x00, 0x02, 0x40, 0x50, 0x60, 0x68, 0x70, 0x71] [.flt, .evr, .saf, .lanes, .seg]) s x) ?_ ?_; rotate_left; intro hx; clear_value x; rotate_left; subst x)
       | (refine part_cut (α := type_of% x) (by constructor) ?_; subst x)
       | clear_value x
       | subst x)
    | ((with_reducible refine side_ok ?_); exact rfl)
    | with_reducible assumption
    | ((with_reducible refine keep_goal ?_); exact keep_refl)
    | with_reducible exact fits_refl _ _
    | with_reducible refine does_next ?_
    | with_reducible apply evt_fits
    | with_reducible apply incSat_fits
    | with_reducible apply begin_fits
    | with_reducible apply consumeInj_fits
    | with_reducible apply raiseWith_fits
    | with_reducible apply segDone_fits
    | with_reducible apply segFail_fits
    | ((with_reducible refine side_ok ?_); exact tl_unit rfl)
    | ((with_reducible refine side_ok ?_); exact be_unit rfl)
    | ((with_reducible refine side_ok ?_); exact lay_unit rfl)
    | ((with_reducible refine side_ok ?_); exact crc_unit rfl)
    | ((with_reducible refine side_ok ?_); exact lnk_unit rfl)
    | split

theorem execSegResponseTimeout_fits (s : State) : Does (Foot.of [0x00, 0x02, 0x40, 0x50, 0x60, 0x68, 0x70, 0x71] [.flt, .evr, .saf, .lanes, .seg]) s (execSegResponseTimeout s) := by
  unfold execSegResponseTimeout
  repeat' first
    | (extract_lets +onlyGivenNames x
       first
       | (refine fits_cut (p := State.Fits (Foot.of [0x00, 0x02, 0x40, 0x50, 0x60, 0x68, 0x70, 0x71] [.flt, .evr, .saf, .lanes, .seg]) s x) ?_ ?_; rotate_left; intro hx; clear_value x; rotate_left; subst x)
       | (refine part_cut (α := type_of% x) (by constructor) ?_; subst x)
       | clear_value x
       | subst x)
    | ((with_reducible refine side_ok ?_); exact rfl)
    | with_reducible assumption
    | ((with_reducible refine keep_goal ?_); exact keep_refl)
    | with_reducible exact fits_refl _ _
    | with_reducible refine does_next ?_
    | with_reducible apply evt_fits
    | with_reducible apply begin_fits
    | with_reducible apply segFail_fits
    | split

theorem execScanRowSlot_fits (s : State) : Does (Foot.of [0x00, 0x02, 0x18, 0x40, 0x50, 0x68, 0x70, 0x71] [.flt, .evr, .saf, .cmp, .lanes, .tln, .seg]) s (execScanRowSlot s) := by
  unfold execScanRowSlot
  repeat' first
    | (extract_lets +onlyGivenNames x
       first
       | (refine fits_cut (p := State.Fits (Foot.of [0x00, 0x02, 0x18, 0x40, 0x50, 0x68, 0x70, 0x71] [.flt, .evr, .saf, .cmp, .lanes, .tln, .seg]) s x) ?_ ?_; rotate_left; intro hx; clear_value x; rotate_left; subst x)
       | (refine part_cut (α := type_of% x) (by constructor) ?_; subst x)
       | clear_value x
       | subst x)
    | ((with_reducible refine side_ok ?_); exact rfl)
    | with_reducible assumption
    | ((with_reducible refine keep_goal ?_); exact keep_refl)
    | with_reducible exact fits_refl _ _
    | with_reducible refine does_next ?_
    | with_reducible apply begin_fits
    | with_reducible apply slot_fits
    | with_reducible apply withSeg_fits
    | with_reducible apply withSeg_fits
    | split

theorem execLatchPoint_fits (s : State) : Does (Foot.of [0x00, 0x02, 0x18, 0x40, 0x48, 0x50, 0x60, 0x68, 0x70, 0x71] [.pend, .pendPages, .flt, .evr, .saf, .cmp, .lanes, .tln, .gov, .cal, .seg]) s (execLatchPoint s) := by
  unfold execLatchPoint
  repeat' first
    | (extract_lets +onlyGivenNames x
       first
       | (refine fits_cut (p := State.Fits (Foot.of [0x00, 0x02, 0x18, 0x40, 0x48, 0x50, 0x60, 0x68, 0x70, 0x71] [.pend, .pendPages, .flt, .evr, .saf, .cmp, .lanes, .tln, .gov, .cal, .seg]) s x) ?_ ?_; rotate_left; intro hx; clear_value x; rotate_left; subst x)
       | (refine part_cut (α := type_of% x) (by constructor) ?_; subst x)
       | clear_value x
       | subst x)
    | ((with_reducible refine side_ok ?_); exact rfl)
    | with_reducible assumption
    | ((with_reducible refine keep_goal ?_); exact keep_refl)
    | with_reducible exact fits_refl _ _
    | with_reducible refine does_next ?_
    | with_reducible apply put_fits
    | with_reducible apply begin_fits
    | with_reducible apply deferFlip_fits
    | with_reducible apply newFrame_fits
    | with_reducible apply repeatFrame_fits
    | with_reducible apply withCmp_fits
    | with_reducible apply withTln_fits
    | with_reducible apply withCmp_fits
    | with_reducible apply withTln_fits
    | split

theorem execBandSlot_fits (k : Nat) (bad : List Nat) (s : State) : Does (Foot.of [0x00, 0x02, 0x18, 0x30, 0x40, 0x50, 0x68, 0x70, 0x71] [.flt, .evr, .saf, .cmp, .glare, .lanes, .tln, .fresh]) s (execBandSlot k bad s) := by
  unfold execBandSlot
  repeat' first
    | (extract_lets +onlyGivenNames x
       first
       | (refine fits_cut (p := State.Fits (Foot.of [0x00, 0x02, 0x18, 0x30, 0x40, 0x50, 0x68, 0x70, 0x71] [.flt, .evr, .saf, .cmp, .glare, .lanes, .tln, .fresh]) s x) ?_ ?_; rotate_left; intro hx; clear_value x; rotate_left; subst x)
       | (refine part_cut (α := type_of% x) (by constructor) ?_; subst x)
       | clear_value x
       | subst x)
    | ((with_reducible refine side_ok ?_); exact rfl)
    | with_reducible assumption
    | ((with_reducible refine keep_goal ?_); exact keep_refl)
    | with_reducible exact fits_refl _ _
    | with_reducible refine does_next ?_
    | with_reducible refine fits_foldl _ _ (fun x hx u hu => ?_) ?_
    | with_reducible apply begin_fits
    | with_reducible apply composeBand_fits
    | with_reducible refine injectParity_fits_eq (by assumption) ?_ ?_
    | with_reducible apply injectParity_fits
    | with_reducible apply readGlare_fits
    | split
    | with_reducible refine fits_snd (by assumption) ?_
    | with_reducible refine fits_thd (by assumption) ?_
    | dsimp only

theorem execPushDeadline_fits (s : State) : Does (Foot.of [0x00, 0x02, 0x18, 0x40, 0x50, 0x68, 0x70, 0x71] [.flt, .evr, .saf, .cmp, .lanes, .tln]) s (execPushDeadline s) := by
  unfold execPushDeadline
  repeat' first
    | (extract_lets +onlyGivenNames x
       first
       | (refine fits_cut (p := State.Fits (Foot.of [0x00, 0x02, 0x18, 0x40, 0x50, 0x68, 0x70, 0x71] [.flt, .evr, .saf, .cmp, .lanes, .tln]) s x) ?_ ?_; rotate_left; intro hx; clear_value x; rotate_left; subst x)
       | (refine part_cut (α := type_of% x) (by constructor) ?_; subst x)
       | clear_value x
       | subst x)
    | ((with_reducible refine side_ok ?_); exact rfl)
    | with_reducible assumption
    | ((with_reducible refine keep_goal ?_); exact keep_refl)
    | with_reducible exact fits_refl _ _
    | with_reducible refine does_next ?_
    | with_reducible apply begin_fits
    | with_reducible apply decideFrame_fits
    | split

theorem execFlipCommit_fits (s : State) : Does (Foot.of [0x00, 0x02, 0x18, 0x40, 0x50, 0x68, 0x70, 0x71] [.flt, .evr, .saf, .cmp, .lanes, .tln]) s (execFlipCommit s) := by
  unfold execFlipCommit
  repeat' first
    | (extract_lets +onlyGivenNames x
       first
       | (refine fits_cut (p := State.Fits (Foot.of [0x00, 0x02, 0x18, 0x40, 0x50, 0x68, 0x70, 0x71] [.flt, .evr, .saf, .cmp, .lanes, .tln]) s x) ?_ ?_; rotate_left; intro hx; clear_value x; rotate_left; subst x)
       | (refine part_cut (α := type_of% x) (by constructor) ?_; subst x)
       | clear_value x
       | subst x)
    | ((with_reducible refine side_ok ?_); exact rfl)
    | with_reducible assumption
    | ((with_reducible refine keep_goal ?_); exact keep_refl)
    | with_reducible exact fits_refl _ _
    | with_reducible refine does_next ?_
    | with_reducible apply begin_fits
    | with_reducible apply decideFrame_fits
    | with_reducible apply withTln_fits
    | with_reducible apply withTln_fits
    | split

theorem execFlip_fits (s : State) : Does (Foot.of [0x01, 0x18, 0x40, 0x50, 0x60, 0x68, 0x70, 0x71] [.pend, .pendPages, .flt, .evr, .saf, .quartz, .side, .cmp, .lanes, .tln, .gov, .flx, .seg]) s (execFlip s) := by
  unfold execFlip
  repeat' first
    | (extract_lets +onlyGivenNames x
       first
       | (refine fits_cut (p := State.Fits (Foot.of [0x01, 0x18, 0x40, 0x50, 0x60, 0x68, 0x70, 0x71] [.pend, .pendPages, .flt, .evr, .saf, .quartz, .side, .cmp, .lanes, .tln, .gov, .flx, .seg]) s x) ?_ ?_; rotate_left; intro hx; clear_value x; rotate_left; subst x)
       | (refine part_cut (α := type_of% x) (by constructor) ?_; subst x)
       | clear_value x
       | subst x)
    | ((with_reducible refine side_ok ?_); exact rfl)
    | with_reducible assumption
    | ((with_reducible refine keep_goal ?_); exact keep_refl)
    | with_reducible exact fits_refl _ _
    | with_reducible refine does_next ?_
    | with_reducible refine fits_foldl _ _ (fun x hx u hu => ?_) ?_
    | with_reducible apply put_fits
    | with_reducible apply inc_fits
    | with_reducible apply begin_fits
    | with_reducible apply fluxFrame_fits
    | with_reducible apply govFlip_fits
    | with_reducible apply laneFlip_fits
    | with_reducible apply lightFlip_fits
    | with_reducible apply phaseSend_fits
    | with_reducible apply segFlip_fits
    | with_reducible apply settle_fits
    | with_reducible apply sscApply_fits
    | with_reducible apply withCmp_fits
    | with_reducible apply withTln_fits
    | with_reducible apply withCmp_fits
    | with_reducible apply withTln_fits
    | split

theorem execHoldoverExpiry_fits (s : State) : Does (Foot.of [0x00, 0x01, 0x0B, 0x18, 0x30, 0x40, 0x50, 0x60, 0x68, 0x70, 0x71] [.pend, .pendPages, .flt, .evr, .saf, .quartz, .cmp, .glare, .lanes, .tln]) s (execHoldoverExpiry s) := by
  unfold execHoldoverExpiry
  repeat' first
    | (extract_lets +onlyGivenNames x
       first
       | (refine fits_cut (p := State.Fits (Foot.of [0x00, 0x01, 0x0B, 0x18, 0x30, 0x40, 0x50, 0x60, 0x68, 0x70, 0x71] [.pend, .pendPages, .flt, .evr, .saf, .quartz, .cmp, .glare, .lanes, .tln]) s x) ?_ ?_; rotate_left; intro hx; clear_value x; rotate_left; subst x)
       | (refine part_cut (α := type_of% x) (by constructor) ?_; subst x)
       | clear_value x
       | subst x)
    | ((with_reducible refine side_ok ?_); exact rfl)
    | with_reducible assumption
    | ((with_reducible refine keep_goal ?_); exact keep_refl)
    | with_reducible exact fits_refl _ _
    | with_reducible refine does_next ?_
    | with_reducible apply put_fits
    | with_reducible apply evt_fits
    | with_reducible apply begin_fits
    | with_reducible apply checkpointRet_fits
    | with_reducible apply endFrames_fits
    | with_reducible apply lanesOff_fits
    | with_reducible apply raiseTrig_fits
    | with_reducible apply settle_fits
    | ((with_reducible refine side_ok ?_); exact tl_unit rfl)
    | ((with_reducible refine side_ok ?_); exact be_unit rfl)
    | ((with_reducible refine side_ok ?_); exact lay_unit rfl)
    | ((with_reducible refine side_ok ?_); exact crc_unit rfl)
    | ((with_reducible refine side_ok ?_); exact lnk_unit rfl)
    | split

theorem execOffPulseStart_fits (k : Nat) (s : State) : Does (Foot.of [] [.flt, .saf]) s (execOffPulseStart k s) := by
  unfold execOffPulseStart
  repeat' first
    | (extract_lets +onlyGivenNames x
       first
       | (refine fits_cut (p := State.Fits (Foot.of [] [.flt, .saf]) s x) ?_ ?_; rotate_left; intro hx; clear_value x; rotate_left; subst x)
       | (refine part_cut (α := type_of% x) (by constructor) ?_; subst x)
       | clear_value x
       | subst x)
    | ((with_reducible refine side_ok ?_); exact rfl)
    | with_reducible assumption
    | ((with_reducible refine keep_goal ?_); exact keep_refl)
    | ((with_reducible refine keep_ok ?_); intro h; simpa [Saf.shaped, Quartz.shaped, Cmd.shaped, Glare.shaped, Gov.shaped, Cal.shaped, Flx.shaped, Fus.shaped, Upd.shaped] using h)
    | with_reducible exact fits_refl _ _
    | with_reducible refine does_next ?_
    | with_reducible apply begin_fits
    | with_reducible apply withSaf_fits
    | with_reducible apply withSaf_fits
    | split

theorem execOffPulseEnd_fits (k : Nat) (rb : Bool) (s : State) : Does (Foot.of [0x00, 0x40, 0x50, 0x68, 0x70, 0x71] [.flt, .evr, .saf, .lanes]) s (execOffPulseEnd k rb s) := by
  unfold execOffPulseEnd
  repeat' first
    | (extract_lets +onlyGivenNames x
       first
       | (refine fits_cut (p := State.Fits (Foot.of [0x00, 0x40, 0x50, 0x68, 0x70, 0x71] [.flt, .evr, .saf, .lanes]) s x) ?_ ?_; rotate_left; intro hx; clear_value x; rotate_left; subst x)
       | (refine part_cut (α := type_of% x) (by constructor) ?_; subst x)
       | clear_value x
       | subst x)
    | ((with_reducible refine side_ok ?_); exact rfl)
    | with_reducible assumption
    | ((with_reducible refine keep_goal ?_); exact keep_refl)
    | ((with_reducible refine keep_ok ?_); intro h; simpa [Saf.shaped, Quartz.shaped, Cmd.shaped, Glare.shaped, Gov.shaped, Cal.shaped, Flx.shaped, Fus.shaped, Upd.shaped] using h)
    | with_reducible exact fits_refl _ _
    | with_reducible refine does_next ?_
    | with_reducible apply put_fits
    | with_reducible apply inc_fits
    | with_reducible apply begin_fits
    | with_reducible apply soutFault_fits
    | with_reducible apply withSaf_fits
    | with_reducible apply withSaf_fits
    | split

theorem execSoutReadbackFault_fits (k : Nat) (rb : Bool) (s : State) : Does (Foot.of [0x00, 0x40, 0x50, 0x68, 0x70, 0x71] [.flt, .evr, .saf, .lanes]) s (execSoutReadbackFault k rb s) := by
  unfold execSoutReadbackFault
  repeat' first
    | (extract_lets +onlyGivenNames x
       first
       | (refine fits_cut (p := State.Fits (Foot.of [0x00, 0x40, 0x50, 0x68, 0x70, 0x71] [.flt, .evr, .saf, .lanes]) s x) ?_ ?_; rotate_left; intro hx; clear_value x; rotate_left; subst x)
       | (refine part_cut (α := type_of% x) (by constructor) ?_; subst x)
       | clear_value x
       | subst x)
    | ((with_reducible refine side_ok ?_); exact rfl)
    | with_reducible assumption
    | ((with_reducible refine keep_goal ?_); exact keep_refl)
    | with_reducible exact fits_refl _ _
    | with_reducible refine does_next ?_
    | with_reducible apply put_fits
    | with_reducible apply begin_fits
    | with_reducible apply soutFault_fits
    | split

theorem execSoutFaultClear_fits (k : Nat) (s : State) : Does (Foot.of [0x50, 0x68] [.flt, .saf, .lanes]) s (execSoutFaultClear k s) := by
  unfold execSoutFaultClear
  repeat' first
    | (extract_lets +onlyGivenNames x
       first
       | (refine fits_cut (p := State.Fits (Foot.of [0x50, 0x68] [.flt, .saf, .lanes]) s x) ?_ ?_; rotate_left; intro hx; clear_value x; rotate_left; subst x)
       | (refine part_cut (α := type_of% x) (by constructor) ?_; subst x)
       | clear_value x
       | subst x)
    | ((with_reducible refine side_ok ?_); exact rfl)
    | with_reducible assumption
    | ((with_reducible refine keep_goal ?_); exact keep_refl)
    | with_reducible exact fits_refl _ _
    | with_reducible refine does_next ?_
    | with_reducible apply put_fits
    | with_reducible apply begin_fits
    | with_reducible apply condEnd_fits
    | with_reducible apply settle_fits
    | with_reducible apply soutTry_fits
    | split

theorem execTilePowerUp_fits (k : Nat) (s : State) : Does (Foot.of [0x50, 0x68] [.flt, .saf, .lanes]) s (execTilePowerUp k s) := by
  unfold execTilePowerUp
  repeat' first
    | (extract_lets +onlyGivenNames x
       first
       | (refine fits_cut (p := State.Fits (Foot.of [0x50, 0x68] [.flt, .saf, .lanes]) s x) ?_ ?_; rotate_left; intro hx; clear_value x; rotate_left; subst x)
       | (refine part_cut (α := type_of% x) (by constructor) ?_; subst x)
       | clear_value x
       | subst x)
    | ((with_reducible refine side_ok ?_); exact rfl)
    | with_reducible assumption
    | ((with_reducible refine keep_goal ?_); exact keep_refl)
    | ((with_reducible refine keep_ok ?_); intro h; simpa [Saf.shaped, Quartz.shaped, Cmd.shaped, Glare.shaped, Gov.shaped, Cal.shaped, Flx.shaped, Fus.shaped, Upd.shaped] using h)
    | with_reducible exact fits_refl _ _
    | with_reducible refine does_next ?_
    | with_reducible refine fits_foldl _ _ (fun x hx u hu => ?_) ?_
    | with_reducible apply put_fits
    | with_reducible apply begin_fits
    | with_reducible apply laneWake_fits
    | with_reducible apply withSaf_fits
    | with_reducible apply withSaf_fits
    | split

theorem execSinFilterExpiry_fits (n : Nat) (b : Bool) (s : State) : Does (Foot.of [0x00, 0x40, 0x50, 0x68, 0x70, 0x71] [.flt, .evr, .saf, .lanes]) s (execSinFilterExpiry n b s) := by
  unfold execSinFilterExpiry
  repeat' first
    | (extract_lets +onlyGivenNames x
       first
       | (refine fits_cut (p := State.Fits (Foot.of [0x00, 0x40, 0x50, 0x68, 0x70, 0x71] [.flt, .evr, .saf, .lanes]) s x) ?_ ?_; rotate_left; intro hx; clear_value x; rotate_left; subst x)
       | (refine part_cut (α := type_of% x) (by constructor) ?_; subst x)
       | clear_value x
       | subst x)
    | ((with_reducible refine side_ok ?_); exact rfl)
    | with_reducible assumption
    | ((with_reducible refine keep_goal ?_); exact keep_refl)
    | with_reducible exact fits_refl _ _
    | with_reducible refine does_next ?_
    | with_reducible apply put_fits
    | with_reducible apply evt_fits
    | with_reducible apply incSat_fits
    | with_reducible apply begin_fits
    | with_reducible apply modChanS_fits
    | with_reducible apply raiseTrig_fits
    | with_reducible apply setHealthyFor_fits
    | with_reducible apply settle_fits
    | ((with_reducible refine side_ok ?_); exact tl_unit rfl)
    | ((with_reducible refine side_ok ?_); exact be_unit rfl)
    | ((with_reducible refine side_ok ?_); exact lay_unit rfl)
    | ((with_reducible refine side_ok ?_); exact crc_unit rfl)
    | ((with_reducible refine side_ok ?_); exact lnk_unit rfl)
    | split

theorem execSinHealthyFilter_fits (n : Nat) (s : State) : Does (Foot.of [0x68] [.flt, .saf]) s (execSinHealthyFilter n s) := by
  unfold execSinHealthyFilter
  repeat' first
    | (extract_lets +onlyGivenNames x
       first
       | (refine fits_cut (p := State.Fits (Foot.of [0x68] [.flt, .saf]) s x) ?_ ?_; rotate_left; intro hx; clear_value x; rotate_left; subst x)
       | (refine part_cut (α := type_of% x) (by constructor) ?_; subst x)
       | clear_value x
       | subst x)
    | ((with_reducible refine side_ok ?_); exact rfl)
    | with_reducible assumption
    | ((with_reducible refine keep_goal ?_); exact keep_refl)
    | with_reducible exact fits_refl _ _
    | with_reducible refine does_next ?_
    | with_reducible apply begin_fits
    | with_reducible apply modChanS_fits
    | with_reducible apply setHealthyFor_fits
    | with_reducible apply sinHealthy_fits
    | split

theorem execSinDiscrepancyTimeout_fits (n : Nat) (s : State) : Does (Foot.of [0x00, 0x40, 0x50, 0x68, 0x70, 0x71] [.flt, .evr, .saf, .lanes]) s (execSinDiscrepancyTimeout n s) := by
  unfold execSinDiscrepancyTimeout
  repeat' first
    | (extract_lets +onlyGivenNames x
       first
       | (refine fits_cut (p := State.Fits (Foot.of [0x00, 0x40, 0x50, 0x68, 0x70, 0x71] [.flt, .evr, .saf, .lanes]) s x) ?_ ?_; rotate_left; intro hx; clear_value x; rotate_left; subst x)
       | (refine part_cut (α := type_of% x) (by constructor) ?_; subst x)
       | clear_value x
       | subst x)
    | ((with_reducible refine side_ok ?_); exact rfl)
    | with_reducible assumption
    | ((with_reducible refine keep_goal ?_); exact keep_refl)
    | with_reducible exact fits_refl _ _
    | with_reducible refine does_next ?_
    | with_reducible apply begin_fits
    | with_reducible apply sinFault_fits
    | split

theorem execTestPulseStart_fits (n : Nat) (levels : List Bool) (s : State) : Does (Foot.of [0x68] [.flt, .saf]) s (execTestPulseStart n levels s) := by
  unfold execTestPulseStart
  repeat' first
    | (extract_lets +onlyGivenNames x
       first
       | (refine fits_cut (p := State.Fits (Foot.of [0x68] [.flt, .saf]) s x) ?_ ?_; rotate_left; intro hx; clear_value x; rotate_left; subst x)
       | (refine part_cut (α := type_of% x) (by constructor) ?_; subst x)
       | clear_value x
       | subst x)
    | ((with_reducible refine side_ok ?_); exact rfl)
    | with_reducible assumption
    | ((with_reducible refine keep_goal ?_); exact keep_refl)
    | with_reducible exact fits_refl _ _
    | with_reducible refine does_next ?_
    | with_reducible refine fits_foldl _ _ (fun x hx u hu => ?_) ?_
    | with_reducible apply begin_fits
    | with_reducible apply modChanS_fits
    | with_reducible apply withSaf_fits
    | with_reducible apply withSaf_fits
    | split

theorem execTestPulseEnd_fits (levels : List Bool) (s : State) : Does (Foot.of [0x00, 0x40, 0x50, 0x68, 0x70, 0x71] [.flt, .evr, .saf, .lanes, .fresh]) s (execTestPulseEnd levels s) := by
  unfold execTestPulseEnd
  repeat' first
    | (extract_lets +onlyGivenNames x
       first
       | (refine fits_cut (p := State.Fits (Foot.of [0x00, 0x40, 0x50, 0x68, 0x70, 0x71] [.flt, .evr, .saf, .lanes, .fresh]) s x) ?_ ?_; rotate_left; intro hx; clear_value x; rotate_left; subst x)
       | (refine part_cut (α := type_of% x) (by constructor) ?_; subst x)
       | clear_value x
       | subst x)
    | ((with_reducible refine side_ok ?_); exact rfl)
    | with_reducible assumption
    | ((with_reducible refine keep_goal ?_); exact keep_refl)
    | with_reducible exact fits_refl _ _
    | with_reducible refine does_next ?_
    | with_reducible refine fits_foldl _ _ (fun x hx u hu => ?_) ?_
    | with_reducible apply begin_fits
    | with_reducible apply pulseEnd_fits
    | with_reducible apply withSaf_fits
    | with_reducible apply withSaf_fits
    | split

theorem execFlintEvaluation_fits (s : State) : Does (Foot.of [0x40, 0x68] [.flt, .saf]) s (execFlintEvaluation s) := by
  unfold execFlintEvaluation
  repeat' first
    | (extract_lets +onlyGivenNames x
       first
       | (refine fits_cut (p := State.Fits (Foot.of [0x40, 0x68] [.flt, .saf]) s x) ?_ ?_; rotate_left; intro hx; clear_value x; rotate_left; subst x)
       | (refine part_cut (α := type_of% x) (by constructor) ?_; subst x)
       | clear_value x
       | subst x)
    | ((with_reducible refine side_ok ?_); exact rfl)
    | with_reducible assumption
    | ((with_reducible refine keep_goal ?_); exact keep_refl)
    | with_reducible exact fits_refl _ _
    | with_reducible refine does_next ?_
    | with_reducible apply put_fits
    | with_reducible apply begin_fits
    | with_reducible apply settle_fits
    | split

theorem execFlintWdtExpiry_fits (st : Straps) (s : State) : Does (Foot.free) s (execFlintWdtExpiry st s) := by
  unfold execFlintWdtExpiry
  repeat' first
    | (extract_lets +onlyGivenNames x
       first
       | (refine fits_cut (p := State.Fits (Foot.free) s x) ?_ ?_; rotate_left; intro hx; clear_value x; rotate_left; subst x)
       | (refine part_cut (α := type_of% x) (by constructor) ?_; subst x)
       | clear_value x
       | subst x)
    | ((with_reducible refine side_ok ?_); exact rfl)
    | with_reducible assumption
    | ((with_reducible refine keep_goal ?_); exact keep_refl)
    | with_reducible exact fits_refl _ _
    | with_reducible refine does_next ?_
    | with_reducible apply begin_fits
    | with_reducible apply flintWdt_fits
    | with_reducible apply setStraps_fits
    | split

theorem execLockstepMismatch_fits (s : State) : Does (Foot.of [0x00, 0x40, 0x50, 0x68, 0x70, 0x71] [.flt, .evr, .saf, .lanes]) s (execLockstepMismatch s) := by
  unfold execLockstepMismatch
  repeat' first
    | (extract_lets +onlyGivenNames x
       first
       | (refine fits_cut (p := State.Fits (Foot.of [0x00, 0x40, 0x50, 0x68, 0x70, 0x71] [.flt, .evr, .saf, .lanes]) s x) ?_ ?_; rotate_left; intro hx; clear_value x; rotate_left; subst x)
       | (refine part_cut (α := type_of% x) (by constructor) ?_; subst x)
       | clear_value x
       | subst x)
    | ((with_reducible refine side_ok ?_); exact rfl)
    | with_reducible assumption
    | ((with_reducible refine keep_goal ?_); exact keep_refl)
    | with_reducible exact fits_refl _ _
    | with_reducible refine does_next ?_
    | with_reducible apply evt_fits
    | with_reducible apply begin_fits
    | with_reducible apply raiseTrig_fits
    | with_reducible apply settle_fits
    | with_reducible apply withSaf_fits
    | ((with_reducible refine side_ok ?_); exact tl_unit rfl)
    | ((with_reducible refine side_ok ?_); exact be_unit rfl)
    | ((with_reducible refine side_ok ?_); exact lay_unit rfl)
    | ((with_reducible refine side_ok ?_); exact crc_unit rfl)
    | ((with_reducible refine side_ok ?_); exact lnk_unit rfl)
    | with_reducible apply withSaf_fits
    | split

theorem execFokReadbackMismatch_fits (s : State) : Does (Foot.of [0x00, 0x40, 0x50, 0x68, 0x70, 0x71] [.flt, .evr, .saf, .lanes]) s (execFokReadbackMismatch s) := by
  unfold execFokReadbackMismatch
  repeat' first
    | (extract_lets +onlyGivenNames x
       first
       | (refine fits_cut (p := State.Fits (Foot.of [0x00, 0x40, 0x50, 0x68, 0x70, 0x71] [.flt, .evr, .saf, .lanes]) s x) ?_ ?_; rotate_left; intro hx; clear_value x; rotate_left; subst x)
       | (refine part_cut (α := type_of% x) (by constructor) ?_; subst x)
       | clear_value x
       | subst x)
    | ((with_reducible refine side_ok ?_); exact rfl)
    | with_reducible assumption
    | ((with_reducible refine keep_goal ?_); exact keep_refl)
    | with_reducible exact fits_refl _ _
    | with_reducible refine does_next ?_
    | with_reducible apply evt_fits
    | with_reducible apply begin_fits
    | with_reducible apply raise_fits
    | with_reducible apply settle_fits
    | ((with_reducible refine side_ok ?_); exact tl_unit rfl)
    | ((with_reducible refine side_ok ?_); exact be_unit rfl)
    | ((with_reducible refine side_ok ?_); exact lay_unit rfl)
    | ((with_reducible refine side_ok ?_); exact crc_unit rfl)
    | ((with_reducible refine side_ok ?_); exact lnk_unit rfl)
    | split

theorem execRecordWrite_fits (s : State) : Does (Foot.of [0x08, 0x09, 0x10, 0x70, 0x71] [.mem, .flt, .evr, .saf, .lnkA, .lnkB, .spi]) s (execRecordWrite s) := by
  unfold execRecordWrite
  repeat' first
    | (extract_lets +onlyGivenNames x
       first
       | (refine fits_cut (p := State.Fits (Foot.of [0x08, 0x09, 0x10, 0x70, 0x71] [.mem, .flt, .evr, .saf, .lnkA, .lnkB, .spi]) s x) ?_ ?_; rotate_left; intro hx; clear_value x; rotate_left; subst x)
       | (refine part_cut (α := type_of% x) (by constructor) ?_; subst x)
       | clear_value x
       | subst x)
    | ((with_reducible refine side_ok ?_); exact rfl)
    | with_reducible assumption
    | ((with_reducible refine keep_goal ?_); exact keep_refl)
    | with_reducible exact fits_refl _ _
    | with_reducible refine does_next ?_
    | with_reducible apply begin_fits
    | with_reducible apply writeRec_fits
    | split

theorem execTrackerClose_fits (s : State) : Does (Foot.of [0x70, 0x71] [.flt, .evr, .saf]) s (execTrackerClose s) := by
  unfold execTrackerClose
  repeat' first
    | (extract_lets +onlyGivenNames x
       first
       | (refine fits_cut (p := State.Fits (Foot.of [0x70, 0x71] [.flt, .evr, .saf]) s x) ?_ ?_; rotate_left; intro hx; clear_value x; rotate_left; subst x)
       | (refine part_cut (α := type_of% x) (by constructor) ?_; subst x)
       | clear_value x
       | subst x)
    | ((with_reducible refine side_ok ?_); exact rfl)
    | with_reducible assumption
    | ((with_reducible refine keep_goal ?_); exact keep_refl)
    | with_reducible exact fits_refl _ _
    | with_reducible refine does_next ?_
    | with_reducible apply begin_fits
    | with_reducible apply closeTracker_fits
    | split

theorem execMirrorPageWrite_fits (ok : Bool) (s : State) : Does (Foot.of [0x00, 0x40, 0x50, 0x68, 0x70, 0x71] [.mem, .flt, .evr, .saf, .lanes, .thm]) s (execMirrorPageWrite ok s) := by
  unfold execMirrorPageWrite
  repeat' first
    | (extract_lets +onlyGivenNames x
       first
       | (refine fits_cut (p := State.Fits (Foot.of [0x00, 0x40, 0x50, 0x68, 0x70, 0x71] [.mem, .flt, .evr, .saf, .lanes, .thm]) s x) ?_ ?_; rotate_left; intro hx; clear_value x; rotate_left; subst x)
       | (refine part_cut (α := type_of% x) (by constructor) ?_; subst x)
       | clear_value x
       | subst x)
    | ((with_reducible refine side_ok ?_); exact rfl)
    | with_reducible assumption
    | ((with_reducible refine keep_goal ?_); exact keep_refl)
    | with_reducible exact fits_refl _ _
    | with_reducible refine does_next ?_
    | with_reducible apply put_fits
    | with_reducible apply evt_fits
    | with_reducible apply begin_fits
    | with_reducible apply defer_fits
    | with_reducible apply mirrorPage_fits
    | with_reducible apply raise_fits
    | ((with_reducible refine side_ok ?_); exact tl_unit rfl)
    | ((with_reducible refine side_ok ?_); exact be_unit rfl)
    | ((with_reducible refine side_ok ?_); exact lay_unit rfl)
    | ((with_reducible refine side_ok ?_); exact crc_unit rfl)
    | ((with_reducible refine side_ok ?_); exact lnk_unit rfl)
    | split

theorem execCheckpoint_fits (s : State) : Does (Foot.of [] [.flt, .evr, .saf]) s (execCheckpoint s) := by
  unfold execCheckpoint
  repeat' first
    | (extract_lets +onlyGivenNames x
       first
       | (refine fits_cut (p := State.Fits (Foot.of [] [.flt, .evr, .saf]) s x) ?_ ?_; rotate_left; intro hx; clear_value x; rotate_left; subst x)
       | (refine part_cut (α := type_of% x) (by constructor) ?_; subst x)
       | clear_value x
       | subst x)
    | ((with_reducible refine side_ok ?_); exact rfl)
    | with_reducible assumption
    | ((with_reducible refine keep_goal ?_); exact keep_refl)
    | with_reducible exact fits_refl _ _
    | with_reducible refine does_next ?_
    | with_reducible apply begin_fits
    | with_reducible apply checkpointRet_fits
    | split

theorem execCheckpointFlash_fits (s : State) : Does (Foot.of [] [.flt, .evr, .saf, .thm]) s (execCheckpointFlash s) := by
  unfold execCheckpointFlash
  repeat' first
    | (extract_lets +onlyGivenNames x
       first
       | (refine fits_cut (p := State.Fits (Foot.of [] [.flt, .evr, .saf, .thm]) s x) ?_ ?_; rotate_left; intro hx; clear_value x; rotate_left; subst x)
       | (refine part_cut (α := type_of% x) (by constructor) ?_; subst x)
       | clear_value x
       | subst x)
    | ((with_reducible refine side_ok ?_); exact rfl)
    | with_reducible assumption
    | ((with_reducible refine keep_goal ?_); exact keep_refl)
    | with_reducible exact fits_refl _ _
    | with_reducible refine does_next ?_
    | with_reducible apply begin_fits
    | with_reducible apply checkpointFlash_fits
    | split

theorem execHousekeepingRoundStart_fits (s : State) : Does (Foot.of [] [.flt, .saf, .thm]) s (execHousekeepingRoundStart s) := by
  unfold execHousekeepingRoundStart
  repeat' first
    | (extract_lets +onlyGivenNames x
       first
       | (refine fits_cut (p := State.Fits (Foot.of [] [.flt, .saf, .thm]) s x) ?_ ?_; rotate_left; intro hx; clear_value x; rotate_left; subst x)
       | (refine part_cut (α := type_of% x) (by constructor) ?_; subst x)
       | clear_value x
       | subst x)
    | ((with_reducible refine side_ok ?_); exact rfl)
    | with_reducible assumption
    | ((with_reducible refine keep_goal ?_); exact keep_refl)
    | with_reducible exact fits_refl _ _
    | with_reducible refine does_next ?_
    | with_reducible apply begin_fits
    | with_reducible apply withThm_fits
    | with_reducible apply withThm_fits
    | split

theorem execHousekeepingRoundEnd_fits (codes : List Nat) (s : State) : Does (Foot.of [0x00, 0x01, 0x02, 0x04, 0x08, 0x09, 0x18, 0x30, 0x40, 0x48, 0x49, 0x50, 0x60, 0x68, 0x70, 0x71, 0x7A, 0x80] [.pend, .pendPages, .mem, .flt, .evr, .saf, .rst, .quartz, .cmp, .glare, .lanes, .tln, .cal, .flx, .seg, .thm, .fus, .upd, .fresh]) s (execHousekeepingRoundEnd codes s) := by
  unfold execHousekeepingRoundEnd
  repeat' first
    | (extract_lets +onlyGivenNames x
       first
       | (refine fits_cut (p := State.Fits (Foot.of [0x00, 0x01, 0x02, 0x04, 0x08, 0x09, 0x18, 0x30, 0x40, 0x48, 0x49, 0x50, 0x60, 0x68, 0x70, 0x71, 0x7A, 0x80] [.pend, .pendPages, .mem, .flt, .evr, .saf, .rst, .quartz, .cmp, .glare, .lanes, .tln, .cal, .flx, .seg, .thm, .fus, .upd, .fresh]) s x) ?_ ?_; rotate_left; intro hx; clear_value x; rotate_left; subst x)
       | (refine part_cut (α := type_of% x) (by constructor) ?_; subst x)
       | clear_value x
       | subst x)
    | ((with_reducible refine side_ok ?_); exact rfl)
    | with_reducible assumption
    | ((with_reducible refine keep_goal ?_); exact keep_refl)
    | with_reducible exact fits_refl _ _
    | with_reducible refine does_next ?_
    | with_reducible refine fits_foldl _ _ (fun x hx u hu => ?_) ?_
    | with_reducible apply put_fits
    | with_reducible apply inc_fits
    | with_reducible apply begin_fits
    | with_reducible apply discardRound_fits
    | with_reducible apply otherChannels_fits
    | with_reducible apply thermalRound_fits
    | with_reducible apply withThm_fits
    | with_reducible apply withThm_fits
    | split

theorem execRoundTimeout_fits (s : State) : Does (Foot.of [0x00, 0x02, 0x04, 0x40, 0x50, 0x68, 0x70, 0x71] [.flt, .evr, .saf, .lanes, .thm]) s (execRoundTimeout s) := by
  unfold execRoundTimeout
  repeat' first
    | (extract_lets +onlyGivenNames x
       first
       | (refine fits_cut (p := State.Fits (Foot.of [0x00, 0x02, 0x04, 0x40, 0x50, 0x68, 0x70, 0x71] [.flt, .evr, .saf, .lanes, .thm]) s x) ?_ ?_; rotate_left; intro hx; clear_value x; rotate_left; subst x)
       | (refine part_cut (α := type_of% x) (by constructor) ?_; subst x)
       | clear_value x
       | subst x)
    | ((with_reducible refine side_ok ?_); exact rfl)
    | with_reducible assumption
    | ((with_reducible refine keep_goal ?_); exact keep_refl)
    | with_reducible exact fits_refl _ _
    | with_reducible refine does_next ?_
    | with_reducible apply begin_fits
    | with_reducible apply discardRound_fits
    | split

theorem execIdleWake_fits (s : State) : Does (Foot.of [] [.flt, .saf, .pwr]) s (execIdleWake s) := by
  unfold execIdleWake
  repeat' first
    | (extract_lets +onlyGivenNames x
       first
       | (refine fits_cut (p := State.Fits (Foot.of [] [.flt, .saf, .pwr]) s x) ?_ ?_; rotate_left; intro hx; clear_value x; rotate_left; subst x)
       | (refine part_cut (α := type_of% x) (by constructor) ?_; subst x)
       | clear_value x
       | subst x)
    | ((with_reducible refine side_ok ?_); exact rfl)
    | with_reducible assumption
    | ((with_reducible refine keep_goal ?_); exact keep_refl)
    | with_reducible exact fits_refl _ _
    | with_reducible refine does_next ?_
    | with_reducible apply begin_fits
    | with_reducible apply pwrTo_fits
    | split

theorem execPrepTimeout_fits (s : State) : Does (Foot.of [0x03, 0x10] [.flt, .saf, .pwr]) s (execPrepTimeout s) := by
  unfold execPrepTimeout
  repeat' first
    | (extract_lets +onlyGivenNames x
       first
       | (refine fits_cut (p := State.Fits (Foot.of [0x03, 0x10] [.flt, .saf, .pwr]) s x) ?_ ?_; rotate_left; intro hx; clear_value x; rotate_left; subst x)
       | (refine part_cut (α := type_of% x) (by constructor) ?_; subst x)
       | clear_value x
       | subst x)
    | ((with_reducible refine side_ok ?_); exact rfl)
    | with_reducible assumption
    | ((with_reducible refine keep_goal ?_); exact keep_refl)
    | with_reducible exact fits_refl _ _
    | with_reducible refine does_next ?_
    | with_reducible apply begin_fits
    | with_reducible apply pwrTo_fits
    | with_reducible apply refuse_fits
    | split

theorem execFlintPrepConfirm_fits (lyOk : Bool) (s : State) : Does (Foot.of [0x00, 0x01, 0x03, 0x08, 0x09, 0x0A, 0x0B, 0x10, 0x18, 0x30, 0x40, 0x50, 0x60, 0x68, 0x70, 0x71] [.pend, .pendPages, .mem, .flt, .evr, .saf, .quartz, .lnkA, .lnkB, .side, .spi, .cmp, .glare, .lanes, .tln, .flx, .seg, .thm, .pwr]) s (execFlintPrepConfirm lyOk s) := by
  unfold execFlintPrepConfirm
  repeat' first
    | (extract_lets +onlyGivenNames x
       first
       | (refine fits_cut (p := State.Fits (Foot.of [0x00, 0x01, 0x03, 0x08, 0x09, 0x0A, 0x0B, 0x10, 0x18, 0x30, 0x40, 0x50, 0x60, 0x68, 0x70, 0x71] [.pend, .pendPages, .mem, .flt, .evr, .saf, .quartz, .lnkA, .lnkB, .side, .spi, .cmp, .glare, .lanes, .tln, .flx, .seg, .thm, .pwr]) s x) ?_ ?_; rotate_left; intro hx; clear_value x; rotate_left; subst x)
       | (refine part_cut (α := type_of% x) (by constructor) ?_; subst x)
       | clear_value x
       | subst x)
    | ((with_reducible refine side_ok ?_); exact rfl)
    | with_reducible assumption
    | ((with_reducible refine keep_goal ?_); exact keep_refl)
    | with_reducible exact fits_refl _ _
    | with_reducible refine does_next ?_
    | with_reducible apply begin_fits
    | with_reducible apply deepEnter_fits
    | with_reducible apply flintPrepare_fits
    | with_reducible apply sleepEnter_fits
    | split

theorem execPmicAck_fits (t : Nat) (s : State) : Does (Foot.of [0x03] [.flt, .saf, .rst, .pwr]) s (execPmicAck t s) := by
  unfold execPmicAck
  repeat' first
    | (extract_lets +onlyGivenNames x
       first
       | (refine fits_cut (p := State.Fits (Foot.of [0x03] [.flt, .saf, .rst, .pwr]) s x) ?_ ?_; rotate_left; intro hx; clear_value x; rotate_left; subst x)
       | (refine part_cut (α := type_of% x) (by constructor) ?_; subst x)
       | clear_value x
       | subst x)
    | ((with_reducible refine side_ok ?_); exact rfl)
    | with_reducible assumption
    | ((with_reducible refine keep_goal ?_); exact keep_refl)
    | with_reducible exact fits_refl _ _
    | with_reducible refine does_next ?_
    | with_reducible apply put_fits
    | with_reducible apply begin_fits
    | with_reducible apply pwrTo_fits
    | with_reducible apply withRst_fits
    | with_reducible apply withRst_fits
    | split

theorem execAckTimeout_fits (s : State) : Does (Foot.of [0x00, 0x03, 0x08, 0x09, 0x0A, 0x40, 0x50, 0x68, 0x70, 0x71] [.flt, .evr, .saf, .lnkA, .lnkB, .csf, .lanes, .pwr]) s (execAckTimeout s) := by
  unfold execAckTimeout
  repeat' first
    | (extract_lets +onlyGivenNames x
       first
       | (refine fits_cut (p := State.Fits (Foot.of [0x00, 0x03, 0x08, 0x09, 0x0A, 0x40, 0x50, 0x68, 0x70, 0x71] [.flt, .evr, .saf, .lnkA, .lnkB, .csf, .lanes, .pwr]) s x) ?_ ?_; rotate_left; intro hx; clear_value x; rotate_left; subst x)
       | (refine part_cut (α := type_of% x) (by constructor) ?_; subst x)
       | clear_value x
       | subst x)
    | ((with_reducible refine side_ok ?_); exact rfl)
    | with_reducible assumption
    | ((with_reducible refine keep_goal ?_); exact keep_refl)
    | with_reducible exact fits_refl _ _
    | with_reducible refine does_next ?_
    | with_reducible apply evt_fits
    | with_reducible apply begin_fits
    | with_reducible apply csfRestart_fits
    | with_reducible apply linksLeaveDeep_fits
    | with_reducible apply pwrTo_fits
    | with_reducible apply raise_fits
    | with_reducible apply withPwr_fits
    | ((with_reducible refine side_ok ?_); exact tl_unit rfl)
    | ((with_reducible refine side_ok ?_); exact be_unit rfl)
    | ((with_reducible refine side_ok ?_); exact lay_unit rfl)
    | ((with_reducible refine side_ok ?_); exact crc_unit rfl)
    | ((with_reducible refine side_ok ?_); exact lnk_unit rfl)
    | with_reducible apply withPwr_fits
    | split

theorem execDeepExit_fits (st : Straps) (t : Nat) (s : State) : Does (Foot.free) s (execDeepExit st t s) := by
  unfold execDeepExit
  repeat' first
    | (extract_lets +onlyGivenNames x
       first
       | (refine fits_cut (p := State.Fits (Foot.free) s x) ?_ ?_; rotate_left; intro hx; clear_value x; rotate_left; subst x)
       | (refine part_cut (α := type_of% x) (by constructor) ?_; subst x)
       | clear_value x
       | subst x)
    | ((with_reducible refine side_ok ?_); exact rfl)
    | with_reducible assumption
    | ((with_reducible refine keep_goal ?_); exact keep_refl)
    | with_reducible exact fits_refl _ _
    | with_reducible refine does_next ?_
    | with_reducible apply afterDeep_fits
    | with_reducible apply begin_fits
    | with_reducible apply deepBoot_fits
    | with_reducible apply exitReport_fits
    | with_reducible apply pinDeepReset_fits
    | with_reducible apply setStraps_fits
    | with_reducible apply tryRelease_fits
    | with_reducible apply withPwr_fits
    | with_reducible apply withPwr_fits
    | split

theorem execWakeRequest_fits (s : State) : Does (Foot.of [0x03, 0x08, 0x09, 0x0A, 0x40, 0x50, 0x68, 0x70, 0x71] [.flt, .evr, .saf, .lnkA, .lnkB, .csf, .lanes, .tln, .pwr]) s (execWakeRequest s) := by
  unfold execWakeRequest
  repeat' first
    | (extract_lets +onlyGivenNames x
       first
       | (refine fits_cut (p := State.Fits (Foot.of [0x03, 0x08, 0x09, 0x0A, 0x40, 0x50, 0x68, 0x70, 0x71] [.flt, .evr, .saf, .lnkA, .lnkB, .csf, .lanes, .tln, .pwr]) s x) ?_ ?_; rotate_left; intro hx; clear_value x; rotate_left; subst x)
       | (refine part_cut (α := type_of% x) (by constructor) ?_; subst x)
       | clear_value x
       | subst x)
    | ((with_reducible refine side_ok ?_); exact rfl)
    | with_reducible assumption
    | ((with_reducible refine keep_goal ?_); exact keep_refl)
    | with_reducible exact fits_refl _ _
    | with_reducible refine does_next ?_
    | with_reducible apply begin_fits
    | with_reducible apply wakeEvent_fits
    | with_reducible apply withPwr_fits
    | with_reducible apply withPwr_fits
    | split

theorem execWakeRelease_fits (s : State) : Does (Foot.of [] [.flt, .saf, .pwr]) s (execWakeRelease s) := by
  unfold execWakeRelease
  repeat' first
    | (extract_lets +onlyGivenNames x
       first
       | (refine fits_cut (p := State.Fits (Foot.of [] [.flt, .saf, .pwr]) s x) ?_ ?_; rotate_left; intro hx; clear_value x; rotate_left; subst x)
       | (refine part_cut (α := type_of% x) (by constructor) ?_; subst x)
       | clear_value x
       | subst x)
    | ((with_reducible refine side_ok ?_); exact rfl)
    | with_reducible assumption
    | ((with_reducible refine keep_goal ?_); exact keep_refl)
    | with_reducible exact fits_refl _ _
    | with_reducible refine does_next ?_
    | with_reducible apply begin_fits
    | with_reducible apply withPwr_fits
    | with_reducible apply withPwr_fits
    | split

theorem execWakeTimer_fits (s : State) : Does (Foot.of [0x03, 0x08, 0x09, 0x0A, 0x40, 0x50, 0x68, 0x70, 0x71] [.flt, .evr, .saf, .lnkA, .lnkB, .csf, .lanes, .tln, .pwr]) s (execWakeTimer s) := by
  unfold execWakeTimer
  repeat' first
    | (extract_lets +onlyGivenNames x
       first
       | (refine fits_cut (p := State.Fits (Foot.of [0x03, 0x08, 0x09, 0x0A, 0x40, 0x50, 0x68, 0x70, 0x71] [.flt, .evr, .saf, .lnkA, .lnkB, .csf, .lanes, .tln, .pwr]) s x) ?_ ?_; rotate_left; intro hx; clear_value x; rotate_left; subst x)
       | (refine part_cut (α := type_of% x) (by constructor) ?_; subst x)
       | clear_value x
       | subst x)
    | ((with_reducible refine side_ok ?_); exact rfl)
    | with_reducible assumption
    | ((with_reducible refine keep_goal ?_); exact keep_refl)
    | with_reducible exact fits_refl _ _
    | with_reducible refine does_next ?_
    | with_reducible apply begin_fits
    | with_reducible apply wakeEvent_fits
    | split

theorem execLctlWake_fits (l : Nat) (f : Wire) (s : State) : Does (Foot.of [0x00, 0x02, 0x03, 0x08, 0x09, 0x0A, 0x40, 0x50, 0x68, 0x70, 0x71, 0x88] [.flt, .evr, .saf, .lnkA, .lnkB, .csf, .lanes, .tln, .pwr]) s (execLctlWake l f s) := by
  unfold execLctlWake
  repeat' first
    | (extract_lets +onlyGivenNames x
       first
       | (refine fits_cut (p := State.Fits (Foot.of [0x00, 0x02, 0x03, 0x08, 0x09, 0x0A, 0x40, 0x50, 0x68, 0x70, 0x71, 0x88] [.flt, .evr, .saf, .lnkA, .lnkB, .csf, .lanes, .tln, .pwr]) s x) ?_ ?_; rotate_left; intro hx; clear_value x; rotate_left; subst x)
       | (refine part_cut (α := type_of% x) (by constructor) ?_; subst x)
       | clear_value x
       | subst x)
    | ((with_reducible refine side_ok ?_); exact rfl)
    | with_reducible assumption
    | ((with_reducible refine keep_goal ?_); exact keep_refl)
    | with_reducible exact fits_refl _ _
    | with_reducible refine does_next ?_
    | with_reducible apply evt_fits
    | with_reducible apply begin_fits
    | with_reducible refine checkFrame_fits_eq (by assumption) ?_ ?_
    | with_reducible apply checkFrame_fits
    | with_reducible apply wakeEvent_fits
    | ((with_reducible refine side_ok ?_); exact lnk_unit rfl)
    | split
    | with_reducible refine fits_snd (by assumption) ?_
    | with_reducible refine fits_thd (by assumption) ?_
    | dsimp only

theorem execLightSleepEntry_fits (bank : Nat) (s : State) : Does (Foot.of [] [.flt, .saf, .pwr]) s (execLightSleepEntry bank s) := by
  unfold execLightSleepEntry
  repeat' first
    | (extract_lets +onlyGivenNames x
       first
       | (refine fits_cut (p := State.Fits (Foot.of [] [.flt, .saf, .pwr]) s x) ?_ ?_; rotate_left; intro hx; clear_value x; rotate_left; subst x)
       | (refine part_cut (α := type_of% x) (by constructor) ?_; subst x)
       | clear_value x
       | subst x)
    | ((with_reducible refine side_ok ?_); exact rfl)
    | with_reducible assumption
    | ((with_reducible refine keep_goal ?_); exact keep_refl)
    | with_reducible exact fits_refl _ _
    | with_reducible refine does_next ?_
    | with_reducible apply begin_fits
    | with_reducible apply withPwr_fits
    | with_reducible apply withPwr_fits
    | split

theorem execLightSleepWake_fits (bank : Nat) (access : Bool) (s : State) : Does (Foot.of [0x03] [.flt, .saf, .pwr]) s (execLightSleepWake bank access s) := by
  unfold execLightSleepWake
  repeat' first
    | (extract_lets +onlyGivenNames x
       first
       | (refine fits_cut (p := State.Fits (Foot.of [0x03] [.flt, .saf, .pwr]) s x) ?_ ?_; rotate_left; intro hx; clear_value x; rotate_left; subst x)
       | (refine part_cut (α := type_of% x) (by constructor) ?_; subst x)
       | clear_value x
       | subst x)
    | ((with_reducible refine side_ok ?_); exact rfl)
    | with_reducible assumption
    | ((with_reducible refine keep_goal ?_); exact keep_refl)
    | with_reducible exact fits_refl _ _
    | with_reducible refine does_next ?_
    | with_reducible apply evt_fits
    | with_reducible apply incSat_fits
    | with_reducible apply begin_fits
    | with_reducible apply withPwr_fits
    | with_reducible apply withPwr_fits
    | split

theorem execPmbAlert_fits (word : Nat) (ok : Bool) (s : State) : Does (Foot.of [0x00, 0x03, 0x40, 0x50, 0x68, 0x70, 0x71] [.flt, .evr, .saf, .lanes]) s (execPmbAlert word ok s) := by
  unfold execPmbAlert
  repeat' first
    | (extract_lets +onlyGivenNames x
       first
       | (refine fits_cut (p := State.Fits (Foot.of [0x00, 0x03, 0x40, 0x50, 0x68, 0x70, 0x71] [.flt, .evr, .saf, .lanes]) s x) ?_ ?_; rotate_left; intro hx; clear_value x; rotate_left; subst x)
       | (refine part_cut (α := type_of% x) (by constructor) ?_; subst x)
       | clear_value x
       | subst x)
    | ((with_reducible refine side_ok ?_); exact rfl)
    | with_reducible assumption
    | ((with_reducible refine keep_goal ?_); exact keep_refl)
    | with_reducible exact fits_refl _ _
    | with_reducible refine does_next ?_
    | with_reducible apply evt_fits
    | with_reducible apply begin_fits
    | with_reducible apply raise_fits
    | with_reducible apply readStatusWord_fits
    | ((with_reducible refine side_ok ?_); exact tl_unit rfl)
    | ((with_reducible refine side_ok ?_); exact be_unit rfl)
    | ((with_reducible refine side_ok ?_); exact lay_unit rfl)
    | ((with_reducible refine side_ok ?_); exact crc_unit rfl)
    | ((with_reducible refine side_ok ?_); exact lnk_unit rfl)
    | split

theorem execPmbStatusPoll_fits (word : Nat) (ok : Bool) (s : State) : Does (Foot.of [0x00, 0x03, 0x40, 0x50, 0x68, 0x70, 0x71] [.flt, .evr, .saf, .lanes]) s (execPmbStatusPoll word ok s) := by
  unfold execPmbStatusPoll
  repeat' first
    | (extract_lets +onlyGivenNames x
       first
       | (refine fits_cut (p := State.Fits (Foot.of [0x00, 0x03, 0x40, 0x50, 0x68, 0x70, 0x71] [.flt, .evr, .saf, .lanes]) s x) ?_ ?_; rotate_left; intro hx; clear_value x; rotate_left; subst x)
       | (refine part_cut (α := type_of% x) (by constructor) ?_; subst x)
       | clear_value x
       | subst x)
    | ((with_reducible refine side_ok ?_); exact rfl)
    | with_reducible assumption
    | ((with_reducible refine keep_goal ?_); exact keep_refl)
    | with_reducible exact fits_refl _ _
    | with_reducible refine does_next ?_
    | with_reducible apply begin_fits
    | with_reducible apply readStatusWord_fits
    | split

theorem execFuseProgramDone_fits (ok : Bool) (s : State) : Does (Foot.of [0x02, 0x40, 0x70, 0x71, 0x78, 0x7A, 0x80, 0x81] [.flt, .evr, .saf, .fus, .upd]) s (execFuseProgramDone ok s) := by
  unfold execFuseProgramDone
  repeat' first
    | (extract_lets +onlyGivenNames x
       first
       | (refine fits_cut (p := State.Fits (Foot.of [0x02, 0x40, 0x70, 0x71, 0x78, 0x7A, 0x80, 0x81] [.flt, .evr, .saf, .fus, .upd]) s x) ?_ ?_; rotate_left; intro hx; clear_value x; rotate_left; subst x)
       | subst x
       | (refine part_cut (α := type_of% x) (by constructor) ?_; subst x)
       | clear_value x)
    | ((with_reducible refine side_ok ?_); exact rfl)
    | with_reducible assumption
    | ((with_reducible refine keep_goal ?_); exact keep_refl)
    | with_reducible exact fits_refl _ _
    | with_reducible refine does_next ?_
    | with_reducible apply put_fits
    | with_reducible apply evt_fits
    | with_reducible apply begin_fits
    | with_reducible apply event_fits
    | with_reducible apply fuseWork_fits
    | with_reducible apply program_fits
    | with_reducible apply withFus_fits
    | with_reducible apply withFus_fits
    | ((with_reducible refine fusesKept_rows ?_); exact rfl)
    | split

theorem execIdcode_fits (s : State) : Does (Foot.of [] [.flt, .saf, .sec, .readData]) s (execIdcode s) := by
  unfold execIdcode
  repeat' first
    | (extract_lets +onlyGivenNames x
       first
       | (refine fits_cut (p := State.Fits (Foot.of [] [.flt, .saf, .sec, .readData]) s x) ?_ ?_; rotate_left; intro hx; clear_value x; rotate_left; subst x)
       | (refine part_cut (α := type_of% x) (by constructor) ?_; subst x)
       | clear_value x
       | subst x)
    | ((with_reducible refine side_ok ?_); exact rfl)
    | with_reducible assumption
    | ((with_reducible refine keep_goal ?_); exact keep_refl)
    | with_reducible exact fits_refl _ _
    | with_reducible refine does_next ?_
    | with_reducible apply begin_fits
    | with_reducible apply tapInstr_fits
    | with_reducible apply withReadData_fits
    | with_reducible apply withReadData_fits
    | split

theorem execSamplePreload_fits (bits : List Bool) (s : State) : Does (Foot.of [] [.flt, .saf, .sec]) s (execSamplePreload bits s) := by
  unfold execSamplePreload
  repeat' first
    | (extract_lets +onlyGivenNames x
       first
       | (refine fits_cut (p := State.Fits (Foot.of [] [.flt, .saf, .sec]) s x) ?_ ?_; rotate_left; intro hx; clear_value x; rotate_left; subst x)
       | (refine part_cut (α := type_of% x) (by constructor) ?_; subst x)
       | clear_value x
       | subst x)
    | ((with_reducible refine side_ok ?_); exact rfl)
    | with_reducible assumption
    | ((with_reducible refine keep_goal ?_); exact keep_refl)
    | with_reducible exact fits_refl _ _
    | with_reducible refine does_next ?_
    | with_reducible apply begin_fits
    | with_reducible apply tapInstr_fits
    | with_reducible apply withSec_fits
    | with_reducible apply withSec_fits
    | split

theorem execExtest_fits (s : State) : Does (Foot.of [] [.flt, .saf, .sec]) s (execExtest s) := by
  unfold execExtest
  repeat' first
    | (extract_lets +onlyGivenNames x
       first
       | (refine fits_cut (p := State.Fits (Foot.of [] [.flt, .saf, .sec]) s x) ?_ ?_; rotate_left; intro hx; clear_value x; rotate_left; subst x)
       | (refine part_cut (α := type_of% x) (by constructor) ?_; subst x)
       | clear_value x
       | subst x)
    | ((with_reducible refine side_ok ?_); exact rfl)
    | with_reducible assumption
    | ((with_reducible refine keep_goal ?_); exact keep_refl)
    | with_reducible exact fits_refl _ _
    | with_reducible refine does_next ?_
    | with_reducible apply begin_fits
    | with_reducible apply tapInstr_fits
    | with_reducible apply withSec_fits
    | with_reducible apply withSec_fits
    | split

theorem execAuthNonce_fits (s : State) : Does (Foot.of [0x78] [.flt, .saf, .sec, .readData, .fresh]) s (execAuthNonce s) := by
  unfold execAuthNonce
  repeat' first
    | (extract_lets +onlyGivenNames x
       first
       | (refine fits_cut (p := State.Fits (Foot.of [0x78] [.flt, .saf, .sec, .readData, .fresh]) s x) ?_ ?_; rotate_left; intro hx; clear_value x; rotate_left; subst x)
       | (refine part_cut (α := type_of% x) (by constructor) ?_; subst x)
       | clear_value x
       | subst x)
    | ((with_reducible refine side_ok ?_); exact rfl)
    | with_reducible assumption
    | ((with_reducible refine keep_goal ?_); exact keep_refl)
    | with_reducible exact fits_refl _ _
    | with_reducible refine does_next ?_
    | with_reducible refine fits_foldl _ _ (fun x hx u hu => ?_) ?_
    | with_reducible apply begin_fits
    | with_reducible apply nonceWord_fits
    | with_reducible apply tapInstr_fits
    | with_reducible apply withReadData_fits
    | with_reducible apply withSec_fits
    | with_reducible apply withReadData_fits
    | with_reducible apply withSec_fits
    | split

theorem execNonceExpiry_fits (s : State) : Does (Foot.of [] [.flt, .saf, .sec]) s (execNonceExpiry s) := by
  unfold execNonceExpiry
  repeat' first
    | (extract_lets +onlyGivenNames x
       first
       | (refine fits_cut (p := State.Fits (Foot.of [] [.flt, .saf, .sec]) s x) ?_ ?_; rotate_left; intro hx; clear_value x; rotate_left; subst x)
       | (refine part_cut (α := type_of% x) (by constructor) ?_; subst x)
       | clear_value x
       | subst x)
    | ((with_reducible refine side_ok ?_); exact rfl)
    | with_reducible assumption
    | ((with_reducible refine keep_goal ?_); exact keep_refl)
    | with_reducible exact fits_refl _ _
    | with_reducible refine does_next ?_
    | with_reducible apply begin_fits
    | with_reducible apply withSec_fits
    | with_reducible apply withSec_fits
    | split

theorem execAuthResp_fits (resp : List Byte) (s : State) : Does (Foot.of [0x78] [.flt, .saf, .sec]) s (execAuthResp resp s) := by
  unfold execAuthResp
  repeat' first
    | (extract_lets +onlyGivenNames x
       first
       | (refine fits_cut (p := State.Fits (Foot.of [0x78] [.flt, .saf, .sec]) s x) ?_ ?_; rotate_left; intro hx; clear_value x; rotate_left; subst x)
       | (refine part_cut (α := type_of% x) (by constructor) ?_; subst x)
       | clear_value x
       | subst x)
    | ((with_reducible refine side_ok ?_); exact rfl)
    | with_reducible assumption
    | ((with_reducible refine keep_goal ?_); exact keep_refl)
    | with_reducible exact fits_refl _ _
    | with_reducible refine does_next ?_
    | with_reducible apply put_fits
    | with_reducible apply evt_fits
    | with_reducible apply begin_fits
    | with_reducible apply tapInstr_fits
    | with_reducible apply withSec_fits
    | with_reducible apply withSec_fits
    | split

theorem execAuthCheckDone_fits (sigOk : Bool) (s : State) : Does (Foot.of [0x04, 0x50, 0x68, 0x70, 0x71, 0x78, 0x7A] [.flt, .evr, .saf, .lanes, .sec, .fus]) s (execAuthCheckDone sigOk s) := by
  unfold execAuthCheckDone
  repeat' first
    | (extract_lets +onlyGivenNames x
       first
       | (refine fits_cut (p := State.Fits (Foot.of [0x04, 0x50, 0x68, 0x70, 0x71, 0x78, 0x7A] [.flt, .evr, .saf, .lanes, .sec, .fus]) s x) ?_ ?_; rotate_left; intro hx; clear_value x; rotate_left; subst x)
       | (refine part_cut (α := type_of% x) (by constructor) ?_; subst x)
       | clear_value x
       | subst x)
    | ((with_reducible refine side_ok ?_); exact rfl)
    | with_reducible assumption
    | ((with_reducible refine keep_goal ?_); exact keep_refl)
    | with_reducible exact fits_refl _ _
    | with_reducible refine does_next ?_
    | with_reducible apply put_fits
    | with_reducible apply evt_fits
    | with_reducible apply authAccept_fits
    | with_reducible apply authFail_fits
    | with_reducible apply begin_fits
    | with_reducible apply withSec_fits
    | with_reducible apply withSec_fits
    | split

theorem execAuthStat_fits (s : State) : Does (Foot.of [] [.flt, .saf, .sec, .readData]) s (execAuthStat s) := by
  unfold execAuthStat
  repeat' first
    | (extract_lets +onlyGivenNames x
       first
       | (refine fits_cut (p := State.Fits (Foot.of [] [.flt, .saf, .sec, .readData]) s x) ?_ ?_; rotate_left; intro hx; clear_value x; rotate_left; subst x)
       | (refine part_cut (α := type_of% x) (by constructor) ?_; subst x)
       | clear_value x
       | subst x)
    | ((with_reducible refine side_ok ?_); exact rfl)
    | with_reducible assumption
    | ((with_reducible refine keep_goal ?_); exact keep_refl)
    | with_reducible exact fits_refl _ _
    | with_reducible refine does_next ?_
    | with_reducible apply begin_fits
    | with_reducible apply tapInstr_fits
    | with_reducible apply withReadData_fits
    | with_reducible apply withReadData_fits
    | split

theorem execRcStat_fits (s : State) : Does (Foot.of [] [.flt, .saf, .sec, .readData]) s (execRcStat s) := by
  unfold execRcStat
  repeat' first
    | (extract_lets +onlyGivenNames x
       first
       | (refine fits_cut (p := State.Fits (Foot.of [] [.flt, .saf, .sec, .readData]) s x) ?_ ?_; rotate_left; intro hx; clear_value x; rotate_left; subst x)
       | (refine part_cut (α := type_of% x) (by constructor) ?_; subst x)
       | clear_value x
       | subst x)
    | ((with_reducible refine side_ok ?_); exact rfl)
    | with_reducible assumption
    | ((with_reducible refine keep_goal ?_); exact keep_refl)
    | with_reducible exact fits_refl _ _
    | with_reducible refine does_next ?_
    | with_reducible apply begin_fits
    | with_reducible apply tapInstr_fits
    | with_reducible apply withReadData_fits
    | with_reducible apply withReadData_fits
    | split

theorem execScan_fits (s : State) : Does (Foot.of [0x50, 0x68, 0x78] [.flt, .saf, .lanes, .sec]) s (execScan s) := by
  unfold execScan
  repeat' first
    | (extract_lets +onlyGivenNames x
       first
       | (refine fits_cut (p := State.Fits (Foot.of [0x50, 0x68, 0x78] [.flt, .saf, .lanes, .sec]) s x) ?_ ?_; rotate_left; intro hx; clear_value x; rotate_left; subst x)
       | (refine part_cut (α := type_of% x) (by constructor) ?_; subst x)
       | clear_value x
       | subst x)
    | ((with_reducible refine side_ok ?_); exact rfl)
    | with_reducible assumption
    | ((with_reducible refine keep_goal ?_); exact keep_refl)
    | with_reducible exact fits_refl _ _
    | with_reducible refine does_next ?_
    | with_reducible apply begin_fits
    | with_reducible apply clearStart_fits
    | with_reducible apply tapInstr_fits
    | split

theorem execReset_fits (st : Straps) (s : State) : Does (Foot.free) s (execReset st s) := by
  unfold execReset
  repeat' first
    | (extract_lets +onlyGivenNames x
       first
       | (refine fits_cut (p := State.Fits (Foot.free) s x) ?_ ?_; rotate_left; intro hx; clear_value x; rotate_left; subst x)
       | (refine part_cut (α := type_of% x) (by constructor) ?_; subst x)
       | clear_value x
       | subst x)
    | ((with_reducible refine side_ok ?_); exact rfl)
    | with_reducible assumption
    | ((with_reducible refine keep_goal ?_); exact keep_refl)
    | with_reducible exact fits_refl _ _
    | with_reducible refine does_next ?_
    | with_reducible apply begin_fits
    | with_reducible apply setStraps_fits
    | with_reducible apply tapInstr_fits
    | with_reducible apply warmReset_fits
    | split

theorem execBypass_fits (s : State) : Does (Foot.of [] [.flt, .saf, .sec]) s (execBypass s) := by
  unfold execBypass
  repeat' first
    | (extract_lets +onlyGivenNames x
       first
       | (refine fits_cut (p := State.Fits (Foot.of [] [.flt, .saf, .sec]) s x) ?_ ?_; rotate_left; intro hx; clear_value x; rotate_left; subst x)
       | (refine part_cut (α := type_of% x) (by constructor) ?_; subst x)
       | clear_value x
       | subst x)
    | ((with_reducible refine side_ok ?_); exact rfl)
    | with_reducible assumption
    | ((with_reducible refine keep_goal ?_); exact keep_refl)
    | with_reducible exact fits_refl _ _
    | with_reducible refine does_next ?_
    | with_reducible apply begin_fits
    | with_reducible apply tapInstr_fits
    | split

theorem execTrstNLow_fits (s : State) : Does (Foot.of [0x78] [.flt, .saf, .sec]) s (execTrstNLow s) := by
  unfold execTrstNLow
  repeat' first
    | (extract_lets +onlyGivenNames x
       first
       | (refine fits_cut (p := State.Fits (Foot.of [0x78] [.flt, .saf, .sec]) s x) ?_ ?_; rotate_left; intro hx; clear_value x; rotate_left; subst x)
       | (refine part_cut (α := type_of% x) (by constructor) ?_; subst x)
       | clear_value x
       | subst x)
    | ((with_reducible refine side_ok ?_); exact rfl)
    | with_reducible assumption
    | ((with_reducible refine keep_goal ?_); exact keep_refl)
    | with_reducible exact fits_refl _ _
    | with_reducible refine does_next ?_
    | with_reducible apply put_fits
    | with_reducible apply begin_fits
    | with_reducible apply tapInstr_fits
    | with_reducible apply withSec_fits
    | with_reducible apply withSec_fits
    | split

theorem execTestModeHigh_fits (s : State) : Does (Foot.of [0x78] [.flt, .saf, .sec]) s (execTestModeHigh s) := by
  unfold execTestModeHigh
  repeat' first
    | (extract_lets +onlyGivenNames x
       first
       | (refine fits_cut (p := State.Fits (Foot.of [0x78] [.flt, .saf, .sec]) s x) ?_ ?_; rotate_left; intro hx; clear_value x; rotate_left; subst x)
       | (refine part_cut (α := type_of% x) (by constructor) ?_; subst x)
       | clear_value x
       | subst x)
    | ((with_reducible refine side_ok ?_); exact rfl)
    | with_reducible assumption
    | ((with_reducible refine keep_goal ?_); exact keep_refl)
    | with_reducible exact fits_refl _ _
    | with_reducible refine does_next ?_
    | with_reducible apply evt_fits
    | with_reducible apply begin_fits
    | with_reducible apply withSec_fits
    | with_reducible apply withSec_fits
    | split

theorem execLbistEnd_fits (misr : BitVec 64) (s : State) : Does (Foot.free) s (execLbistEnd misr s) := by
  unfold execLbistEnd
  repeat' first
    | (extract_lets +onlyGivenNames x
       first
       | (refine fits_cut (p := State.Fits (Foot.free) s x) ?_ ?_; rotate_left; intro hx; clear_value x; rotate_left; subst x)
       | (refine part_cut (α := type_of% x) (by constructor) ?_; subst x)
       | clear_value x
       | subst x)
    | ((with_reducible refine side_ok ?_); exact rfl)
    | with_reducible assumption
    | ((with_reducible refine keep_goal ?_); exact keep_refl)
    | with_reducible exact fits_refl _ _
    | with_reducible refine does_next ?_
    | with_reducible apply put_fits
    | with_reducible apply begin_fits
    | with_reducible apply lbFinish_fits
    | split

theorem execLbistTimeout_fits (s : State) : Does (Foot.free) s (execLbistTimeout s) := by
  unfold execLbistTimeout
  repeat' first
    | (extract_lets +onlyGivenNames x
       first
       | (refine fits_cut (p := State.Fits (Foot.free) s x) ?_ ?_; rotate_left; intro hx; clear_value x; rotate_left; subst x)
       | (refine part_cut (α := type_of% x) (by constructor) ?_; subst x)
       | clear_value x
       | subst x)
    | ((with_reducible refine side_ok ?_); exact rfl)
    | with_reducible assumption
    | ((with_reducible refine keep_goal ?_); exact keep_refl)
    | with_reducible exact fits_refl _ _
    | with_reducible refine does_next ?_
    | with_reducible apply put_fits
    | with_reducible refine free_fits_eq (by assumption) ?_ ?_
    | with_reducible apply free_fits
    | with_reducible apply begin_fits
    | with_reducible apply lbFinish_fits
    | split
    | with_reducible refine fits_snd (by assumption) ?_
    | with_reducible refine fits_thd (by assumption) ?_
    | dsimp only

theorem execMemoryBistEnd_fits (fails : List Nat) (done : Bool) (s : State) : Does (Foot.free) s (execMemoryBistEnd fails done s) := by
  unfold execMemoryBistEnd
  repeat' first
    | (extract_lets +onlyGivenNames x
       first
       | (refine fits_cut (p := State.Fits (Foot.free) s x) ?_ ?_; rotate_left; intro hx; clear_value x; rotate_left; subst x)
       | (refine part_cut (α := type_of% x) (by constructor) ?_; subst x)
       | clear_value x
       | subst x)
    | ((with_reducible refine side_ok ?_); exact rfl)
    | with_reducible assumption
    | ((with_reducible refine keep_goal ?_); exact keep_refl)
    | with_reducible exact fits_refl _ _
    | with_reducible refine does_next ?_
    | with_reducible apply put_fits
    | with_reducible apply evt_fits
    | with_reducible apply begin_fits
    | with_reducible apply event_fits
    | with_reducible apply memResult_fits
    | with_reducible apply warmReset_fits
    | with_reducible apply withMem_fits
    | with_reducible apply withSec_fits
    | with_reducible apply withMem_fits
    | with_reducible apply withSec_fits
    | exact fun h => tabWf_filter _ h
    | split

theorem execSecretClearDone_fits (ok : Bool) (s : State) : Does (Foot.of [0x00, 0x40, 0x50, 0x68, 0x70, 0x71, 0x78, 0x79] [.mem, .flt, .evr, .saf, .lanes, .pwr, .sec, .fresh]) s (execSecretClearDone ok s) := by
  unfold execSecretClearDone
  repeat' first
    | (extract_lets +onlyGivenNames x
       first
       | (refine fits_cut (p := State.Fits (Foot.of [0x00, 0x40, 0x50, 0x68, 0x70, 0x71, 0x78, 0x79] [.mem, .flt, .evr, .saf, .lanes, .pwr, .sec, .fresh]) s x) ?_ ?_; rotate_left; intro hx; clear_value x; rotate_left; subst x)
       | (refine part_cut (α := type_of% x) (by constructor) ?_; subst x)
       | clear_value x
       | subst x)
    | ((with_reducible refine side_ok ?_); exact rfl)
    | with_reducible assumption
    | ((with_reducible refine keep_goal ?_); exact keep_refl)
    | with_reducible exact fits_refl _ _
    | with_reducible refine does_next ?_
    | with_reducible apply put_fits
    | with_reducible apply begin_fits
    | with_reducible apply clearBad_fits
    | with_reducible apply clearOk_fits
    | with_reducible apply clearSecrets_fits
    | split

theorem execUpdWrite_fits (parity : Bool) (s : State) : Does (Foot.of [0x00, 0x10, 0x40, 0x50, 0x68, 0x70, 0x71, 0x80] [.mem, .flt, .evr, .saf, .lnkA, .lnkB, .cmd, .glare, .lanes, .gov, .upd, .fresh]) s (execUpdWrite parity s) := by
  unfold execUpdWrite
  repeat' first
    | (extract_lets +onlyGivenNames x
       first
       | (refine fits_cut (p := State.Fits (Foot.of [0x00, 0x10, 0x40, 0x50, 0x68, 0x70, 0x71, 0x80] [.mem, .flt, .evr, .saf, .lnkA, .lnkB, .cmd, .glare, .lanes, .gov, .upd, .fresh]) s x) ?_ ?_; rotate_left; intro hx; clear_value x; rotate_left; subst x)
       | (refine part_cut (α := type_of% x) (by constructor) ?_; subst x)
       | clear_value x
       | subst x)
    | ((with_reducible refine side_ok ?_); exact rfl)
    | with_reducible assumption
    | ((with_reducible refine keep_goal ?_); exact keep_refl)
    | with_reducible exact fits_refl _ _
    | with_reducible refine does_next ?_
    | intro p
    | with_reducible apply begin_fits
    | with_reducible apply takeUpdate_fits
    | with_reducible apply updBlock_fits
    | ((with_reducible refine side_ok ?_); exact tl_unit rfl)
    | ((with_reducible refine side_ok ?_); exact be_unit rfl)
    | ((with_reducible refine side_ok ?_); exact lay_unit rfl)
    | ((with_reducible refine side_ok ?_); exact crc_unit rfl)
    | ((with_reducible refine side_ok ?_); exact lnk_unit rfl)
    | split

theorem execUpdVerify_fits (parity : Bool) (s : State) : Does (Foot.of [0x00, 0x10, 0x40, 0x50, 0x68, 0x70, 0x71, 0x80] [.flt, .evr, .saf, .lnkA, .lnkB, .cmd, .glare, .lanes, .gov, .upd, .fresh]) s (execUpdVerify parity s) := by
  unfold execUpdVerify
  repeat' first
    | (extract_lets +onlyGivenNames x
       first
       | (refine fits_cut (p := State.Fits (Foot.of [0x00, 0x10, 0x40, 0x50, 0x68, 0x70, 0x71, 0x80] [.flt, .evr, .saf, .lnkA, .lnkB, .cmd, .glare, .lanes, .gov, .upd, .fresh]) s x) ?_ ?_; rotate_left; intro hx; clear_value x; rotate_left; subst x)
       | (refine part_cut (α := type_of% x) (by constructor) ?_; subst x)
       | clear_value x
       | subst x)
    | ((with_reducible refine side_ok ?_); exact rfl)
    | with_reducible assumption
    | ((with_reducible refine keep_goal ?_); exact keep_refl)
    | with_reducible exact fits_refl _ _
    | with_reducible refine does_next ?_
    | intro p
    | with_reducible apply begin_fits
    | with_reducible apply opIgnored_fits
    | with_reducible apply takeUpdate_fits
    | with_reducible apply toSlot_fits
    | with_reducible apply withUpd_fits
    | ((with_reducible refine side_ok ?_); exact tl_unit rfl)
    | ((with_reducible refine side_ok ?_); exact be_unit rfl)
    | ((with_reducible refine side_ok ?_); exact lay_unit rfl)
    | ((with_reducible refine side_ok ?_); exact crc_unit rfl)
    | ((with_reducible refine side_ok ?_); exact lnk_unit rfl)
    | with_reducible apply withUpd_fits
    | split

theorem execVerifyDone_fits (sigOk : Bool) (s : State) : Does (Foot.of [0x10, 0x40, 0x70, 0x71, 0x78, 0x80] [.flt, .evr, .saf, .cmd, .gov, .upd]) s (execVerifyDone sigOk s) := by
  unfold execVerifyDone
  repeat' first
    | (extract_lets +onlyGivenNames x
       first
       | (refine fits_cut (p := State.Fits (Foot.of [0x10, 0x40, 0x70, 0x71, 0x78, 0x80] [.flt, .evr, .saf, .cmd, .gov, .upd]) s x) ?_ ?_; rotate_left; intro hx; clear_value x; rotate_left; subst x)
       | (refine part_cut (α := type_of% x) (by constructor) ?_; subst x)
       | clear_value x
       | subst x)
    | ((with_reducible refine side_ok ?_); exact rfl)
    | with_reducible assumption
    | ((with_reducible refine keep_goal ?_); exact keep_refl)
    | with_reducible exact fits_refl _ _
    | with_reducible refine does_next ?_
    | with_reducible apply begin_fits
    | with_reducible refine checkSlot_fits_eq (by assumption) ?_ ?_
    | with_reducible apply checkSlot_fits
    | with_reducible apply doneHead_fits
    | with_reducible apply toSlot_fits
    | with_reducible apply withUpd_fits
    | with_reducible apply withUpd_fits
    | split
    | with_reducible refine fits_snd (by assumption) ?_
    | with_reducible refine fits_thd (by assumption) ?_
    | dsimp only

theorem execUpdActivate_fits (parity : Bool) (s : State) : Does (Foot.of [0x00, 0x10, 0x40, 0x50, 0x68, 0x70, 0x71, 0x80] [.flt, .evr, .saf, .lnkA, .lnkB, .cmd, .glare, .lanes, .gov, .upd, .fresh]) s (execUpdActivate parity s) := by
  unfold execUpdActivate
  repeat' first
    | (extract_lets +onlyGivenNames x
       first
       | (refine fits_cut (p := State.Fits (Foot.of [0x00, 0x10, 0x40, 0x50, 0x68, 0x70, 0x71, 0x80] [.flt, .evr, .saf, .lnkA, .lnkB, .cmd, .glare, .lanes, .gov, .upd, .fresh]) s x) ?_ ?_; rotate_left; intro hx; clear_value x; rotate_left; subst x)
       | (refine part_cut (α := type_of% x) (by constructor) ?_; subst x)
       | clear_value x
       | subst x)
    | ((with_reducible refine side_ok ?_); exact rfl)
    | with_reducible assumption
    | ((with_reducible refine keep_goal ?_); exact keep_refl)
    | with_reducible exact fits_refl _ _
    | with_reducible refine does_next ?_
    | intro p
    | with_reducible apply activate_fits
    | with_reducible apply begin_fits
    | with_reducible apply doneHead_fits
    | with_reducible apply opIgnored_fits
    | with_reducible apply takeUpdate_fits
    | with_reducible apply withUpd_fits
    | ((with_reducible refine side_ok ?_); exact tl_unit rfl)
    | ((with_reducible refine side_ok ?_); exact be_unit rfl)
    | ((with_reducible refine side_ok ?_); exact lay_unit rfl)
    | ((with_reducible refine side_ok ?_); exact crc_unit rfl)
    | ((with_reducible refine side_ok ?_); exact lnk_unit rfl)
    | with_reducible apply withUpd_fits
    | split

theorem execRestartReset_fits (s : State) : Does (Foot.free) s (execRestartReset s) := by
  unfold execRestartReset
  repeat' first
    | (extract_lets +onlyGivenNames x
       first
       | (refine fits_cut (p := State.Fits (Foot.free) s x) ?_ ?_; rotate_left; intro hx; clear_value x; rotate_left; subst x)
       | (refine part_cut (α := type_of% x) (by constructor) ?_; subst x)
       | clear_value x
       | subst x)
    | ((with_reducible refine side_ok ?_); exact rfl)
    | with_reducible assumption
    | ((with_reducible refine keep_goal ?_); exact keep_refl)
    | with_reducible exact fits_refl _ _
    | with_reducible refine does_next ?_
    | with_reducible apply begin_fits
    | with_reducible apply setTries_fits
    | with_reducible apply warmReset_fits
    | split

theorem execUpdConfirm_fits (parity : Bool) (s : State) : Does (Foot.of [0x00, 0x02, 0x10, 0x40, 0x50, 0x68, 0x70, 0x71, 0x7A, 0x80] [.mem, .flt, .evr, .saf, .lnkA, .lnkB, .cmd, .glare, .lanes, .gov, .fus, .upd, .fresh]) s (execUpdConfirm parity s) := by
  unfold execUpdConfirm
  repeat' first
    | (extract_lets +onlyGivenNames x
       first
       | (refine fits_cut (p := State.Fits (Foot.of [0x00, 0x02, 0x10, 0x40, 0x50, 0x68, 0x70, 0x71, 0x7A, 0x80] [.mem, .flt, .evr, .saf, .lnkA, .lnkB, .cmd, .glare, .lanes, .gov, .fus, .upd, .fresh]) s x) ?_ ?_; rotate_left; intro hx; clear_value x; rotate_left; subst x)
       | (refine part_cut (α := type_of% x) (by constructor) ?_; subst x)
       | clear_value x
       | subst x)
    | ((with_reducible refine side_ok ?_); exact rfl)
    | with_reducible assumption
    | ((with_reducible refine keep_goal ?_); exact keep_refl)
    | with_reducible exact fits_refl _ _
    | with_reducible refine does_next ?_
    | intro p
    | with_reducible apply begin_fits
    | with_reducible apply confirm_fits
    | with_reducible apply doneHead_fits
    | with_reducible apply opIgnored_fits
    | with_reducible apply takeUpdate_fits
    | ((with_reducible refine side_ok ?_); exact tl_unit rfl)
    | ((with_reducible refine side_ok ?_); exact be_unit rfl)
    | ((with_reducible refine side_ok ?_); exact lay_unit rfl)
    | ((with_reducible refine side_ok ?_); exact crc_unit rfl)
    | ((with_reducible refine side_ok ?_); exact lnk_unit rfl)
    | split

theorem execTrialTimeout_fits (s : State) : Does (Foot.free) s (execTrialTimeout s) := by
  unfold execTrialTimeout
  repeat' first
    | (extract_lets +onlyGivenNames x
       first
       | (refine fits_cut (p := State.Fits (Foot.free) s x) ?_ ?_; rotate_left; intro hx; clear_value x; rotate_left; subst x)
       | (refine part_cut (α := type_of% x) (by constructor) ?_; subst x)
       | clear_value x
       | subst x)
    | ((with_reducible refine side_ok ?_); exact rfl)
    | with_reducible assumption
    | ((with_reducible refine keep_goal ?_); exact keep_refl)
    | with_reducible exact fits_refl _ _
    | with_reducible refine does_next ?_
    | with_reducible apply begin_fits
    | with_reducible apply warmReset_fits
    | split

theorem execGraniteCopyDone_fits (s : State) : Does (Foot.of [0x40, 0x70, 0x71, 0x80] [.mem, .flt, .evr, .saf, .gov, .upd]) s (execGraniteCopyDone s) := by
  unfold execGraniteCopyDone
  repeat' first
    | (extract_lets +onlyGivenNames x
       first
       | (refine fits_cut (p := State.Fits (Foot.of [0x40, 0x70, 0x71, 0x80] [.mem, .flt, .evr, .saf, .gov, .upd]) s x) ?_ ?_; rotate_left; intro hx; clear_value x; rotate_left; subst x)
       | (refine part_cut (α := type_of% x) (by constructor) ?_; subst x)
       | clear_value x
       | subst x)
    | ((with_reducible refine side_ok ?_); exact rfl)
    | with_reducible assumption
    | ((with_reducible refine keep_goal ?_); exact keep_refl)
    | with_reducible exact fits_refl _ _
    | with_reducible refine does_next ?_
    | with_reducible apply setBytes_fits
    | with_reducible apply begin_fits
    | with_reducible apply toSlot_fits
    | with_reducible apply withGov_fits
    | with_reducible apply withMem_fits
    | with_reducible apply withGov_fits
    | with_reducible apply withMem_fits
    | exact fun h => tabWf_filter _ h
    | split

theorem execProfileChange_fits (s : State) : Does (Foot.free) s (execProfileChange s) := by
  unfold execProfileChange
  repeat' first
    | (extract_lets +onlyGivenNames x
       first
       | (refine fits_cut (p := State.Fits (Foot.free) s x) ?_ ?_; rotate_left; intro hx; clear_value x; rotate_left; subst x)
       | (refine part_cut (α := type_of% x) (by constructor) ?_; subst x)
       | clear_value x
       | subst x)
    | ((with_reducible refine side_ok ?_); exact rfl)
    | with_reducible assumption
    | ((with_reducible refine keep_goal ?_); exact keep_refl)
    | with_reducible exact fits_refl _ _
    | with_reducible refine does_next ?_
    | with_reducible apply put_fits
    | with_reducible apply evt_fits
    | with_reducible apply incSat_fits
    | with_reducible apply begin_fits
    | with_reducible apply event_fits
    | with_reducible apply saveSettings_fits
    | with_reducible apply warmReset_fits
    | with_reducible apply withCsf_fits
    | with_reducible apply withCsf_fits
    | split

theorem execBlockResetEnd_fits (page : Nat) (s : State) : Does (Foot.of [0x68] [.flt, .saf, .rst, .cal]) s (execBlockResetEnd page s) := by
  unfold execBlockResetEnd
  repeat' first
    | (extract_lets +onlyGivenNames x
       first
       | (refine fits_cut (p := State.Fits (Foot.of [0x68] [.flt, .saf, .rst, .cal]) s x) ?_ ?_; rotate_left; intro hx; clear_value x; rotate_left; subst x)
       | (refine part_cut (α := type_of% x) (by constructor) ?_; subst x)
       | clear_value x
       | subst x)
    | ((with_reducible refine side_ok ?_); exact rfl)
    | with_reducible assumption
    | ((with_reducible refine keep_goal ?_); exact keep_refl)
    | with_reducible exact fits_refl _ _
    | with_reducible refine does_next ?_
    | with_reducible apply begin_fits
    | with_reducible apply calResume_fits
    | with_reducible apply settle_fits
    | with_reducible apply withRst_fits
    | with_reducible apply withRst_fits
    | split

theorem execQuiescenceEnd_fits (page : Nat) (s : State) : Does (Foot.of [] [.flt, .saf, .rst]) s (execQuiescenceEnd page s) := by
  unfold execQuiescenceEnd
  repeat' first
    | (extract_lets +onlyGivenNames x
       first
       | (refine fits_cut (p := State.Fits (Foot.of [] [.flt, .saf, .rst]) s x) ?_ ?_; rotate_left; intro hx; clear_value x; rotate_left; subst x)
       | (refine part_cut (α := type_of% x) (by constructor) ?_; subst x)
       | clear_value x
       | subst x)
    | ((with_reducible refine side_ok ?_); exact rfl)
    | with_reducible assumption
    | ((with_reducible refine keep_goal ?_); exact keep_refl)
    | with_reducible exact fits_refl _ _
    | with_reducible refine does_next ?_
    | with_reducible apply begin_fits
    | with_reducible apply withRst_fits
    | with_reducible apply withRst_fits
    | split

theorem execFuseLoad_fits (pmb : Bool) (badRows : List Nat) (s : State) : Does (Foot.free) s (execFuseLoad pmb badRows s) := by
  unfold execFuseLoad
  repeat' first
    | (extract_lets +onlyGivenNames x
       first
       | (refine fits_cut (p := State.Fits (Foot.free) s x) ?_ ?_; rotate_left; intro hx; clear_value x; rotate_left; subst x)
       | (refine part_cut (α := type_of% x) (by constructor) ?_; subst x)
       | clear_value x
       | subst x)
    | ((with_reducible refine side_ok ?_); exact rfl)
    | with_reducible assumption
    | ((with_reducible refine keep_goal ?_); exact keep_refl)
    | with_reducible exact fits_refl _ _
    | with_reducible refine does_next ?_
    | with_reducible apply put_fits
    | with_reducible apply begin_fits
    | with_reducible apply bootStop_fits
    | with_reducible apply endEntry_fits
    | with_reducible apply enterRecovery_fits
    | with_reducible apply loadHuk_fits
    | with_reducible apply markParity_fits
    | with_reducible apply pmbBoot_fits
    | with_reducible apply senseRows_fits
    | with_reducible apply stepDone_fits
    | split

theorem execMbist_fits (fails : List Nat) (s : State) : Does (Foot.free) s (execMbist fails s) := by
  unfold execMbist
  repeat' first
    | (extract_lets +onlyGivenNames x
       first
       | (refine fits_cut (p := State.Fits (Foot.free) s x) ?_ ?_; rotate_left; intro hx; clear_value x; rotate_left; subst x)
       | (refine part_cut (α := type_of% x) (by constructor) ?_; subst x)
       | clear_value x
       | subst x)
    | ((with_reducible refine side_ok ?_); exact rfl)
    | with_reducible assumption
    | ((with_reducible refine keep_goal ?_); exact keep_refl)
    | with_reducible exact fits_refl _ _
    | with_reducible refine does_next ?_
    | with_reducible apply begin_fits
    | with_reducible apply memResult_fits
    | with_reducible apply raise_fits
    | with_reducible apply stepDone_fits
    | with_reducible apply stepFails_fits
    | ((with_reducible refine side_ok ?_); exact tl_unit rfl)
    | ((with_reducible refine side_ok ?_); exact be_unit rfl)
    | ((with_reducible refine side_ok ?_); exact lay_unit rfl)
    | ((with_reducible refine side_ok ?_); exact crc_unit rfl)
    | ((with_reducible refine side_ok ?_); exact lnk_unit rfl)
    | split

theorem execJournal_fits (s : State) : Does (Foot.of [0x00, 0x02, 0x03, 0x08, 0x09, 0x0A, 0x10, 0x40, 0x50, 0x68, 0x70, 0x71, 0x79, 0x80] [.mem, .flt, .evr, .saf, .rst, .cmd, .lanes, .gov, .thm, .pwr, .sec, .upd]) s (execJournal s) := by
  unfold execJournal
  repeat' first
    | (extract_lets +onlyGivenNames x
       first
       | (refine fits_cut (p := State.Fits (Foot.of [0x00, 0x02, 0x03, 0x08, 0x09, 0x0A, 0x10, 0x40, 0x50, 0x68, 0x70, 0x71, 0x79, 0x80] [.mem, .flt, .evr, .saf, .rst, .cmd, .lanes, .gov, .thm, .pwr, .sec, .upd]) s x) ?_ ?_; rotate_left; intro hx; clear_value x; rotate_left; subst x)
       | (refine part_cut (α := type_of% x) (by constructor) ?_; subst x)
       | clear_value x
       | subst x)
    | ((with_reducible refine side_ok ?_); exact rfl)
    | with_reducible assumption
    | ((with_reducible refine keep_goal ?_); exact keep_refl)
    | with_reducible exact fits_refl _ _
    | with_reducible refine does_next ?_
    | with_reducible apply put_fits
    | with_reducible apply begin_fits
    | with_reducible apply closeRecord_fits
    | with_reducible apply endEntry_fits
    | with_reducible apply enterRecovery_fits
    | with_reducible apply journalCauses_fits
    | with_reducible apply journalCold_fits
    | with_reducible apply journalDeep_fits
    | with_reducible apply jput_fits
    | with_reducible apply jseal_fits
    | with_reducible apply newRecord_fits
    | with_reducible refine openJournal_fits_eq (by assumption) ?_ ?_
    | with_reducible apply openJournal_fits
    | with_reducible apply setTries_fits
    | with_reducible apply stepDone_fits
    | split
    | with_reducible refine fits_snd (by assumption) ?_
    | with_reducible refine fits_thd (by assumption) ?_
    | dsimp only

theorem execMainImage_fits (aOk : Bool) (bOk : Bool) (s : State) : Does (Foot.free) s (execMainImage aOk bOk s) := by
  unfold execMainImage
  repeat' first
    | (extract_lets +onlyGivenNames x
       first
       | (refine fits_cut (p := State.Fits (Foot.free) s x) ?_ ?_; rotate_left; intro hx; clear_value x; rotate_left; subst x)
       | (refine part_cut (α := type_of% x) (by constructor) ?_; subst x)
       | clear_value x
       | subst x)
    | ((with_reducible refine side_ok ?_); exact rfl)
    | with_reducible assumption
    | ((with_reducible refine keep_goal ?_); exact keep_refl)
    | with_reducible exact fits_refl _ _
    | with_reducible refine does_next ?_
    | with_reducible apply begin_fits
    | with_reducible apply bootMain_fits
    | with_reducible apply endTrial_fits
    | with_reducible apply mainActive_fits
    | with_reducible refine tryPending_fits_eq (by assumption) ?_ ?_
    | with_reducible apply tryPending_fits
    | split
    | with_reducible refine fits_snd (by assumption) ?_
    | with_reducible refine fits_thd (by assumption) ?_
    | dsimp only

theorem execGranite_fits (aOk : Bool) (bOk : Bool) (fuseOk : Bool) (s : State) : Does (Foot.free) s (execGranite aOk bOk fuseOk s) := by
  unfold execGranite
  repeat' first
    | (extract_lets +onlyGivenNames x
       first
       | (refine fits_cut (p := State.Fits (Foot.free) s x) ?_ ?_; rotate_left; intro hx; clear_value x; rotate_left; subst x)
       | (refine part_cut (α := type_of% x) (by constructor) ?_; subst x)
       | clear_value x
       | subst x)
    | ((with_reducible refine side_ok ?_); exact rfl)
    | with_reducible assumption
    | ((with_reducible refine keep_goal ?_); exact keep_refl)
    | with_reducible exact fits_refl _ _
    | with_reducible refine does_next ?_
    | with_reducible apply begin_fits
    | with_reducible refine checkGranite_fits_eq (by assumption) ?_ ?_
    | with_reducible apply checkGranite_fits
    | with_reducible refine complete_fits_eq (by assumption) ?_ ?_
    | with_reducible apply complete_fits
    | with_reducible apply graniteBoot_fits
    | with_reducible apply toSlot_fits
    | split
    | with_reducible refine fits_snd (by assumption) ?_
    | with_reducible refine fits_thd (by assumption) ?_
    | dsimp only

theorem execSettings_fits (ok : Bool) (s : State) : Does (Foot.free) s (execSettings ok s) := by
  unfold execSettings
  repeat' first
    | (extract_lets +onlyGivenNames x
       first
       | (refine fits_cut (p := State.Fits (Foot.free) s x) ?_ ?_; rotate_left; intro hx; clear_value x; rotate_left; subst x)
       | (refine part_cut (α := type_of% x) (by constructor) ?_; subst x)
       | clear_value x
       | subst x)
    | ((with_reducible refine side_ok ?_); exact rfl)
    | with_reducible assumption
    | ((with_reducible refine keep_goal ?_); exact keep_refl)
    | with_reducible exact fits_refl _ _
    | with_reducible refine does_next ?_
    | with_reducible apply put_fits
    | with_reducible apply begin_fits
    | with_reducible apply saveSettings_fits
    | with_reducible apply setReset_fits
    | with_reducible apply stepDone_fits
    | with_reducible apply stepFails_fits
    | split

theorem execProfile_fits (ok : Bool) (s : State) : Does (Foot.free) s (execProfile ok s) := by
  unfold execProfile
  repeat' first
    | (extract_lets +onlyGivenNames x
       first
       | (refine fits_cut (p := State.Fits (Foot.free) s x) ?_ ?_; rotate_left; intro hx; clear_value x; rotate_left; subst x)
       | (refine part_cut (α := type_of% x) (by constructor) ?_; subst x)
       | clear_value x
       | subst x)
    | ((with_reducible refine side_ok ?_); exact rfl)
    | with_reducible assumption
    | ((with_reducible refine keep_goal ?_); exact keep_refl)
    | with_reducible exact fits_refl _ _
    | with_reducible refine does_next ?_
    | with_reducible apply begin_fits
    | with_reducible apply stepDone_fits
    | with_reducible apply stepFails_fits
    | with_reducible refine tryProfile_fits_eq (by assumption) ?_ ?_
    | with_reducible apply tryProfile_fits
    | split
    | with_reducible refine fits_snd (by assumption) ?_
    | with_reducible refine fits_thd (by assumption) ?_
    | dsimp only

theorem execCalib_fits (ok : Bool) (s : State) : Does (Foot.free) s (execCalib ok s) := by
  unfold execCalib
  repeat' first
    | (extract_lets +onlyGivenNames x
       first
       | (refine fits_cut (p := State.Fits (Foot.free) s x) ?_ ?_; rotate_left; intro hx; clear_value x; rotate_left; subst x)
       | (refine part_cut (α := type_of% x) (by constructor) ?_; subst x)
       | clear_value x
       | subst x)
    | ((with_reducible refine side_ok ?_); exact rfl)
    | with_reducible assumption
    | ((with_reducible refine keep_goal ?_); exact keep_refl)
    | with_reducible exact fits_refl _ _
    | with_reducible refine does_next ?_
    | with_reducible apply begin_fits
    | with_reducible apply calAllDefault_fits
    | with_reducible apply calLoad_fits
    | with_reducible apply calPending_fits
    | with_reducible apply calUp_fits
    | with_reducible apply showCal_fits
    | with_reducible apply stepDone_fits
    | with_reducible apply stepFails_fits
    | split

theorem execKernels_fits (ok : Bool) (s : State) : Does (Foot.free) s (execKernels ok s) := by
  unfold execKernels
  repeat' first
    | (extract_lets +onlyGivenNames x
       first
       | (refine fits_cut (p := State.Fits (Foot.free) s x) ?_ ?_; rotate_left; intro hx; clear_value x; rotate_left; subst x)
       | (refine part_cut (α := type_of% x) (by constructor) ?_; subst x)
       | clear_value x
       | subst x)
    | ((with_reducible refine side_ok ?_); exact rfl)
    | with_reducible assumption
    | ((with_reducible refine keep_goal ?_); exact keep_refl)
    | with_reducible exact fits_refl _ _
    | with_reducible refine does_next ?_
    | with_reducible apply put_fits
    | with_reducible apply evt_fits
    | with_reducible apply setShadow_fits
    | with_reducible apply begin_fits
    | with_reducible apply glareUp_fits
    | with_reducible apply go_fits
    | with_reducible refine loadKernel_fits_eq (by assumption) ?_ ?_
    | with_reducible apply loadKernel_fits
    | with_reducible apply stepDone_fits
    | with_reducible apply stepFails_fits
    | ((with_reducible refine side_ok ?_); exact list_unit rfl (by assumption))
    | split
    | with_reducible refine fits_snd (by assumption) ?_
    | with_reducible refine fits_thd (by assumption) ?_
    | dsimp only

theorem execLinks_fits (copies : Nat) (s : State) : Does (Foot.of [0x00, 0x02, 0x10, 0x40, 0x50, 0x68, 0x70, 0x71] [.mem, .flt, .evr, .saf, .rst, .lnkA, .lnkB, .cmd, .lanes]) s (execLinks copies s) := by
  unfold execLinks
  repeat' first
    | (extract_lets +onlyGivenNames x
       first
       | (refine fits_cut (p := State.Fits (Foot.of [0x00, 0x02, 0x10, 0x40, 0x50, 0x68, 0x70, 0x71] [.mem, .flt, .evr, .saf, .rst, .lnkA, .lnkB, .cmd, .lanes]) s x) ?_ ?_; rotate_left; intro hx; clear_value x; rotate_left; subst x)
       | (refine part_cut (α := type_of% x) (by constructor) ?_; subst x)
       | clear_value x
       | subst x)
    | ((with_reducible refine side_ok ?_); exact rfl)
    | with_reducible assumption
    | ((with_reducible refine keep_goal ?_); exact keep_refl)
    | with_reducible exact fits_refl _ _
    | with_reducible refine does_next ?_
    | with_reducible refine fits_foldl _ _ (fun x hx u hu => ?_) ?_
    | with_reducible refine fits_foldl_snd _ _ (fun x hx b u hu => ?_) ?_
    | with_reducible apply begin_fits
    | with_reducible refine checkCopies_fits_eq (by assumption) ?_ ?_
    | with_reducible apply checkCopies_fits
    | with_reducible apply queueStatus_fits
    | with_reducible apply soutCtrl_fits
    | with_reducible apply stepDone_fits
    | with_reducible apply withCmd_fits
    | with_reducible apply withCmd_fits
    | split
    | with_reducible refine fits_snd (by assumption) ?_
    | with_reducible refine fits_thd (by assumption) ?_
    | dsimp only

theorem execTiles_fits (s : State) : Does (Foot.free) s (execTiles s) := by
  unfold execTiles
  repeat' first
    | (extract_lets +onlyGivenNames x
       first
       | (refine fits_cut (p := State.Fits (Foot.free) s x) ?_ ?_; rotate_left; intro hx; clear_value x; rotate_left; subst x)
       | (refine part_cut (α := type_of% x) (by constructor) ?_; subst x)
       | clear_value x
       | subst x)
    | ((with_reducible refine side_ok ?_); exact rfl)
    | with_reducible assumption
    | ((with_reducible refine keep_goal ?_); exact keep_refl)
    | with_reducible exact fits_refl _ _
    | with_reducible refine does_next ?_
    | with_reducible refine fits_foldl _ _ (fun x hx u hu => ?_) ?_
    | with_reducible apply put_fits
    | with_reducible apply begin_fits
    | with_reducible apply stepDone_fits
    | with_reducible apply tileCheck_fits
    | with_reducible apply tilesLeaveLoad_fits
    | with_reducible apply tilesUp_fits
    | split

theorem execSafeReady_fits (s : State) : Does (Foot.of [0x00, 0x02, 0x40, 0x50, 0x68, 0x70, 0x71] [.mem, .flt, .evr, .saf, .rst, .lanes]) s (execSafeReady s) := by
  unfold execSafeReady
  repeat' first
    | (extract_lets +onlyGivenNames x
       first
       | (refine fits_cut (p := State.Fits (Foot.of [0x00, 0x02, 0x40, 0x50, 0x68, 0x70, 0x71] [.mem, .flt, .evr, .saf, .rst, .lanes]) s x) ?_ ?_; rotate_left; intro hx; clear_value x; rotate_left; subst x)
       | (refine part_cut (α := type_of% x) (by constructor) ?_; subst x)
       | clear_value x
       | subst x)
    | ((with_reducible refine side_ok ?_); exact rfl)
    | with_reducible assumption
    | ((with_reducible refine keep_goal ?_); exact keep_refl)
    | with_reducible exact fits_refl _ _
    | with_reducible refine does_next ?_
    | with_reducible apply begin_fits
    | with_reducible apply stepDone_fits
    | split

theorem execFirstLight_fits (s : State) : Does (Foot.of [0x00, 0x02, 0x40, 0x50, 0x68, 0x70, 0x71, 0x79, 0x7A, 0x80] [.mem, .flt, .evr, .saf, .rst, .lanes, .gov, .thm, .sec, .fus, .upd]) s (execFirstLight s) := by
  unfold execFirstLight
  repeat' first
    | (extract_lets +onlyGivenNames x
       first
       | (refine fits_cut (p := State.Fits (Foot.of [0x00, 0x02, 0x40, 0x50, 0x68, 0x70, 0x71, 0x79, 0x7A, 0x80] [.mem, .flt, .evr, .saf, .rst, .lanes, .gov, .thm, .sec, .fus, .upd]) s x) ?_ ?_; rotate_left; intro hx; clear_value x; rotate_left; subst x)
       | (refine part_cut (α := type_of% x) (by constructor) ?_; subst x)
       | clear_value x
       | subst x)
    | ((with_reducible refine side_ok ?_); exact rfl)
    | with_reducible assumption
    | ((with_reducible refine keep_goal ?_); exact keep_refl)
    | with_reducible exact fits_refl _ _
    | with_reducible refine does_next ?_
    | with_reducible apply put_fits
    | with_reducible apply begin_fits
    | with_reducible apply bistRaise_fits
    | with_reducible apply confirm_fits
    | with_reducible apply endEntry_fits
    | with_reducible apply outcome_fits
    | with_reducible apply setTries_fits
    | with_reducible apply withRst_fits
    | with_reducible apply withUpd_fits
    | with_reducible apply withRst_fits
    | with_reducible apply withUpd_fits
    | split

theorem execEpochSave_fits (s : State) : Does (Foot.of [0x02] [.mem, .flt, .saf, .thm]) s (execEpochSave s) := by
  unfold execEpochSave
  repeat' first
    | (extract_lets +onlyGivenNames x
       first
       | (refine fits_cut (p := State.Fits (Foot.of [0x02] [.mem, .flt, .saf, .thm]) s x) ?_ ?_; rotate_left; intro hx; clear_value x; rotate_left; subst x)
       | (refine part_cut (α := type_of% x) (by constructor) ?_; subst x)
       | clear_value x
       | subst x)
    | ((with_reducible refine side_ok ?_); exact rfl)
    | with_reducible assumption
    | ((with_reducible refine keep_goal ?_); exact keep_refl)
    | with_reducible exact fits_refl _ _
    | with_reducible refine does_next ?_
    | with_reducible apply begin_fits
    | with_reducible apply saveEpoch_fits
    | split

theorem execRstCmdWrite_fits (m : Master) (v : Word) (st : Straps) (s : State) : Does (Foot.free) s (execRstCmdWrite m v st s) := by
  unfold execRstCmdWrite
  repeat' first
    | (extract_lets +onlyGivenNames x
       first
       | (refine fits_cut (p := State.Fits (Foot.free) s x) ?_ ?_; rotate_left; intro hx; clear_value x; rotate_left; subst x)
       | (refine part_cut (α := type_of% x) (by constructor) ?_; subst x)
       | clear_value x
       | subst x)
    | ((with_reducible refine side_ok ?_); exact rfl)
    | with_reducible assumption
    | ((with_reducible refine keep_goal ?_); exact keep_refl)
    | with_reducible exact fits_refl _ _
    | with_reducible refine does_next ?_
    | with_reducible apply begin_fits
    | with_reducible apply masterWrite_fits
    | with_reducible apply setStraps_fits
    | split

theorem execWdtAppEnable_fits (m : Master) (v : Word) (s : State) : Does (Foot.free) s (execWdtAppEnable m v s) := by
  unfold execWdtAppEnable
  repeat' first
    | (extract_lets +onlyGivenNames x
       first
       | (refine fits_cut (p := State.Fits (Foot.free) s x) ?_ ?_; rotate_left; intro hx; clear_value x; rotate_left; subst x)
       | (refine part_cut (α := type_of% x) (by constructor) ?_; subst x)
       | clear_value x
       | subst x)
    | ((with_reducible refine side_ok ?_); exact rfl)
    | with_reducible assumption
    | ((with_reducible refine keep_goal ?_); exact keep_refl)
    | with_reducible exact fits_refl _ _
    | with_reducible refine does_next ?_
    | with_reducible apply begin_fits
    | with_reducible apply masterWrite_fits
    | split

theorem execWdtKick_fits (m : Master) (v : Word) (s : State) : Does (Foot.free) s (execWdtKick m v s) := by
  unfold execWdtKick
  repeat' first
    | (extract_lets +onlyGivenNames x
       first
       | (refine fits_cut (p := State.Fits (Foot.free) s x) ?_ ?_; rotate_left; intro hx; clear_value x; rotate_left; subst x)
       | (refine part_cut (α := type_of% x) (by constructor) ?_; subst x)
       | clear_value x
       | subst x)
    | ((with_reducible refine side_ok ?_); exact rfl)
    | with_reducible assumption
    | ((with_reducible refine keep_goal ?_); exact keep_refl)
    | with_reducible exact fits_refl _ _
    | with_reducible refine does_next ?_
    | with_reducible apply begin_fits
    | with_reducible apply masterWrite_fits
    | split

theorem execBlkReset_fits (m : Master) (page : Nat) (s : State) : Does (Foot.free) s (execBlkReset m page s) := by
  unfold execBlkReset
  repeat' first
    | (extract_lets +onlyGivenNames x
       first
       | (refine fits_cut (p := State.Fits (Foot.free) s x) ?_ ?_; rotate_left; intro hx; clear_value x; rotate_left; subst x)
       | (refine part_cut (α := type_of% x) (by constructor) ?_; subst x)
       | clear_value x
       | subst x)
    | ((with_reducible refine side_ok ?_); exact rfl)
    | with_reducible assumption
    | ((with_reducible refine keep_goal ?_); exact keep_refl)
    | with_reducible exact fits_refl _ _
    | with_reducible refine does_next ?_
    | with_reducible apply begin_fits
    | with_reducible apply masterWrite_fits
    | split

theorem execClkRefCmd_fits (m : Master) (v : Word) (s : State) : Does (Foot.free) s (execClkRefCmd m v s) := by
  unfold execClkRefCmd
  repeat' first
    | (extract_lets +onlyGivenNames x
       first
       | (refine fits_cut (p := State.Fits (Foot.free) s x) ?_ ?_; rotate_left; intro hx; clear_value x; rotate_left; subst x)
       | (refine part_cut (α := type_of% x) (by constructor) ?_; subst x)
       | clear_value x
       | subst x)
    | ((with_reducible refine side_ok ?_); exact rfl)
    | with_reducible assumption
    | ((with_reducible refine keep_goal ?_); exact keep_refl)
    | with_reducible exact fits_refl _ _
    | with_reducible refine does_next ?_
    | with_reducible apply begin_fits
    | with_reducible apply masterWrite_fits
    | split

theorem execClrAvoid_fits (m : Master) (v : Word) (s : State) : Does (Foot.free) s (execClrAvoid m v s) := by
  unfold execClrAvoid
  repeat' first
    | (extract_lets +onlyGivenNames x
       first
       | (refine fits_cut (p := State.Fits (Foot.free) s x) ?_ ?_; rotate_left; intro hx; clear_value x; rotate_left; subst x)
       | (refine part_cut (α := type_of% x) (by constructor) ?_; subst x)
       | clear_value x
       | subst x)
    | ((with_reducible refine side_ok ?_); exact rfl)
    | with_reducible assumption
    | ((with_reducible refine keep_goal ?_); exact keep_refl)
    | with_reducible exact fits_refl _ _
    | with_reducible refine does_next ?_
    | with_reducible apply begin_fits
    | with_reducible apply masterWrite_fits
    | split

theorem execMirrorNow_fits (m : Master) (v : Word) (s : State) : Does (Foot.free) s (execMirrorNow m v s) := by
  unfold execMirrorNow
  repeat' first
    | (extract_lets +onlyGivenNames x
       first
       | (refine fits_cut (p := State.Fits (Foot.free) s x) ?_ ?_; rotate_left; intro hx; clear_value x; rotate_left; subst x)
       | (refine part_cut (α := type_of% x) (by constructor) ?_; subst x)
       | clear_value x
       | subst x)
    | ((with_reducible refine side_ok ?_); exact rfl)
    | with_reducible assumption
    | ((with_reducible refine keep_goal ?_); exact keep_refl)
    | with_reducible exact fits_refl _ _
    | with_reducible refine does_next ?_
    | with_reducible apply begin_fits
    | with_reducible apply masterWrite_fits
    | split

theorem execPwrReqIdle_fits (m : Master) (v : Word) (s : State) : Does (Foot.free) s (execPwrReqIdle m v s) := by
  unfold execPwrReqIdle
  repeat' first
    | (extract_lets +onlyGivenNames x
       first
       | (refine fits_cut (p := State.Fits (Foot.free) s x) ?_ ?_; rotate_left; intro hx; clear_value x; rotate_left; subst x)
       | (refine part_cut (α := type_of% x) (by constructor) ?_; subst x)
       | clear_value x
       | subst x)
    | ((with_reducible refine side_ok ?_); exact rfl)
    | with_reducible assumption
    | ((with_reducible refine keep_goal ?_); exact keep_refl)
    | with_reducible exact fits_refl _ _
    | with_reducible refine does_next ?_
    | with_reducible apply begin_fits
    | with_reducible apply masterWrite_fits
    | split

theorem execPwrReqSleep_fits (m : Master) (v : Word) (s : State) : Does (Foot.free) s (execPwrReqSleep m v s) := by
  unfold execPwrReqSleep
  repeat' first
    | (extract_lets +onlyGivenNames x
       first
       | (refine fits_cut (p := State.Fits (Foot.free) s x) ?_ ?_; rotate_left; intro hx; clear_value x; rotate_left; subst x)
       | (refine part_cut (α := type_of% x) (by constructor) ?_; subst x)
       | clear_value x
       | subst x)
    | ((with_reducible refine side_ok ?_); exact rfl)
    | with_reducible assumption
    | ((with_reducible refine keep_goal ?_); exact keep_refl)
    | with_reducible exact fits_refl _ _
    | with_reducible refine does_next ?_
    | with_reducible apply begin_fits
    | with_reducible apply masterWrite_fits
    | split

theorem execPwrReqDeep_fits (m : Master) (v : Word) (s : State) : Does (Foot.free) s (execPwrReqDeep m v s) := by
  unfold execPwrReqDeep
  repeat' first
    | (extract_lets +onlyGivenNames x
       first
       | (refine fits_cut (p := State.Fits (Foot.free) s x) ?_ ?_; rotate_left; intro hx; clear_value x; rotate_left; subst x)
       | (refine part_cut (α := type_of% x) (by constructor) ?_; subst x)
       | clear_value x
       | subst x)
    | ((with_reducible refine side_ok ?_); exact rfl)
    | with_reducible assumption
    | ((with_reducible refine keep_goal ?_); exact keep_refl)
    | with_reducible exact fits_refl _ _
    | with_reducible refine does_next ?_
    | with_reducible apply begin_fits
    | with_reducible apply masterWrite_fits
    | split

theorem execPwrReqOff_fits (m : Master) (v : Word) (s : State) : Does (Foot.free) s (execPwrReqOff m v s) := by
  unfold execPwrReqOff
  repeat' first
    | (extract_lets +onlyGivenNames x
       first
       | (refine fits_cut (p := State.Fits (Foot.free) s x) ?_ ?_; rotate_left; intro hx; clear_value x; rotate_left; subst x)
       | (refine part_cut (α := type_of% x) (by constructor) ?_; subst x)
       | clear_value x
       | subst x)
    | ((with_reducible refine side_ok ?_); exact rfl)
    | with_reducible assumption
    | ((with_reducible refine keep_goal ?_); exact keep_refl)
    | with_reducible exact fits_refl _ _
    | with_reducible refine does_next ?_
    | with_reducible apply begin_fits
    | with_reducible apply masterWrite_fits
    | split

theorem execPadRelease_fits (m : Master) (v : Word) (s : State) : Does (Foot.free) s (execPadRelease m v s) := by
  unfold execPadRelease
  repeat' first
    | (extract_lets +onlyGivenNames x
       first
       | (refine fits_cut (p := State.Fits (Foot.free) s x) ?_ ?_; rotate_left; intro hx; clear_value x; rotate_left; subst x)
       | (refine part_cut (α := type_of% x) (by constructor) ?_; subst x)
       | clear_value x
       | subst x)
    | ((with_reducible refine side_ok ?_); exact rfl)
    | with_reducible assumption
    | ((with_reducible refine keep_goal ?_); exact keep_refl)
    | with_reducible exact fits_refl _ _
    | with_reducible refine does_next ?_
    | with_reducible apply begin_fits
    | with_reducible apply masterWrite_fits
    | split

theorem execGlrKload_fits (m : Master) (v : Word) (s : State) : Does (Foot.free) s (execGlrKload m v s) := by
  unfold execGlrKload
  repeat' first
    | (extract_lets +onlyGivenNames x
       first
       | (refine fits_cut (p := State.Fits (Foot.free) s x) ?_ ?_; rotate_left; intro hx; clear_value x; rotate_left; subst x)
       | (refine part_cut (α := type_of% x) (by constructor) ?_; subst x)
       | clear_value x
       | subst x)
    | ((with_reducible refine side_ok ?_); exact rfl)
    | with_reducible assumption
    | ((with_reducible refine keep_goal ?_); exact keep_refl)
    | with_reducible exact fits_refl _ _
    | with_reducible refine does_next ?_
    | with_reducible apply begin_fits
    | with_reducible apply masterWrite_fits
    | split

theorem execInterpCmd_fits (m : Master) (v : Word) (s : State) : Does (Foot.free) s (execInterpCmd m v s) := by
  unfold execInterpCmd
  repeat' first
    | (extract_lets +onlyGivenNames x
       first
       | (refine fits_cut (p := State.Fits (Foot.free) s x) ?_ ?_; rotate_left; intro hx; clear_value x; rotate_left; subst x)
       | (refine part_cut (α := type_of% x) (by constructor) ?_; subst x)
       | clear_value x
       | subst x)
    | ((with_reducible refine side_ok ?_); exact rfl)
    | with_reducible assumption
    | ((with_reducible refine keep_goal ?_); exact keep_refl)
    | with_reducible exact fits_refl _ _
    | with_reducible refine does_next ?_
    | with_reducible apply begin_fits
    | with_reducible apply masterWrite_fits
    | split

theorem execTrimCmd_fits (m : Master) (v : Word) (s : State) : Does (Foot.free) s (execTrimCmd m v s) := by
  unfold execTrimCmd
  repeat' first
    | (extract_lets +onlyGivenNames x
       first
       | (refine fits_cut (p := State.Fits (Foot.free) s x) ?_ ?_; rotate_left; intro hx; clear_value x; rotate_left; subst x)
       | (refine part_cut (α := type_of% x) (by constructor) ?_; subst x)
       | clear_value x
       | subst x)
    | ((with_reducible refine side_ok ?_); exact rfl)
    | with_reducible assumption
    | ((with_reducible refine keep_goal ?_); exact keep_refl)
    | with_reducible exact fits_refl _ _
    | with_reducible refine does_next ?_
    | with_reducible apply begin_fits
    | with_reducible apply masterWrite_fits
    | split

theorem execSafReact_fits (m : Master) (v : Word) (s : State) : Does (Foot.free) s (execSafReact m v s) := by
  unfold execSafReact
  repeat' first
    | (extract_lets +onlyGivenNames x
       first
       | (refine fits_cut (p := State.Fits (Foot.free) s x) ?_ ?_; rotate_left; intro hx; clear_value x; rotate_left; subst x)
       | (refine part_cut (α := type_of% x) (by constructor) ?_; subst x)
       | clear_value x
       | subst x)
    | ((with_reducible refine side_ok ?_); exact rfl)
    | with_reducible assumption
    | ((with_reducible refine keep_goal ?_); exact keep_refl)
    | with_reducible exact fits_refl _ _
    | with_reducible refine does_next ?_
    | with_reducible apply begin_fits
    | with_reducible apply masterWrite_fits
    | split

theorem execSafUnlock_fits (m : Master) (v : Word) (s : State) : Does (Foot.free) s (execSafUnlock m v s) := by
  unfold execSafUnlock
  repeat' first
    | (extract_lets +onlyGivenNames x
       first
       | (refine fits_cut (p := State.Fits (Foot.free) s x) ?_ ?_; rotate_left; intro hx; clear_value x; rotate_left; subst x)
       | (refine part_cut (α := type_of% x) (by constructor) ?_; subst x)
       | clear_value x
       | subst x)
    | ((with_reducible refine side_ok ?_); exact rfl)
    | with_reducible assumption
    | ((with_reducible refine keep_goal ?_); exact keep_refl)
    | with_reducible exact fits_refl _ _
    | with_reducible refine does_next ?_
    | with_reducible apply begin_fits
    | with_reducible apply masterWrite_fits
    | split

theorem execFlintWdtKick_fits (m : Master) (v : Word) (s : State) : Does (Foot.free) s (execFlintWdtKick m v s) := by
  unfold execFlintWdtKick
  repeat' first
    | (extract_lets +onlyGivenNames x
       first
       | (refine fits_cut (p := State.Fits (Foot.free) s x) ?_ ?_; rotate_left; intro hx; clear_value x; rotate_left; subst x)
       | (refine part_cut (α := type_of% x) (by constructor) ?_; subst x)
       | clear_value x
       | subst x)
    | ((with_reducible refine side_ok ?_); exact rfl)
    | with_reducible assumption
    | ((with_reducible refine keep_goal ?_); exact keep_refl)
    | with_reducible exact fits_refl _ _
    | with_reducible refine does_next ?_
    | with_reducible apply begin_fits
    | with_reducible apply masterWrite_fits
    | split

theorem execFaultAck_fits (m : Master) (r : Nat) (v : Word) (s : State) : Does (Foot.free) s (execFaultAck m r v s) := by
  unfold execFaultAck
  repeat' first
    | (extract_lets +onlyGivenNames x
       first
       | (refine fits_cut (p := State.Fits (Foot.free) s x) ?_ ?_; rotate_left; intro hx; clear_value x; rotate_left; subst x)
       | (refine part_cut (α := type_of% x) (by constructor) ?_; subst x)
       | clear_value x
       | subst x)
    | ((with_reducible refine side_ok ?_); exact rfl)
    | with_reducible assumption
    | ((with_reducible refine keep_goal ?_); exact keep_refl)
    | with_reducible exact fits_refl _ _
    | with_reducible refine does_next ?_
    | with_reducible apply begin_fits
    | with_reducible apply masterWrite_fits
    | split

theorem execFaultClear_fits (m : Master) (r : Nat) (v : Word) (s : State) : Does (Foot.free) s (execFaultClear m r v s) := by
  unfold execFaultClear
  repeat' first
    | (extract_lets +onlyGivenNames x
       first
       | (refine fits_cut (p := State.Fits (Foot.free) s x) ?_ ?_; rotate_left; intro hx; clear_value x; rotate_left; subst x)
       | (refine part_cut (α := type_of% x) (by constructor) ?_; subst x)
       | clear_value x
       | subst x)
    | ((with_reducible refine side_ok ?_); exact rfl)
    | with_reducible assumption
    | ((with_reducible refine keep_goal ?_); exact keep_refl)
    | with_reducible exact fits_refl _ _
    | with_reducible refine does_next ?_
    | with_reducible apply begin_fits
    | with_reducible apply masterWrite_fits
    | split

theorem execInjectArm_fits (m : Master) (v : Word) (s : State) : Does (Foot.free) s (execInjectArm m v s) := by
  unfold execInjectArm
  repeat' first
    | (extract_lets +onlyGivenNames x
       first
       | (refine fits_cut (p := State.Fits (Foot.free) s x) ?_ ?_; rotate_left; intro hx; clear_value x; rotate_left; subst x)
       | (refine part_cut (α := type_of% x) (by constructor) ?_; subst x)
       | clear_value x
       | subst x)
    | ((with_reducible refine side_ok ?_); exact rfl)
    | with_reducible assumption
    | ((with_reducible refine keep_goal ?_); exact keep_refl)
    | with_reducible exact fits_refl _ _
    | with_reducible refine does_next ?_
    | with_reducible apply begin_fits
    | with_reducible apply masterWrite_fits
    | split

theorem execInjectCancel_fits (m : Master) (v : Word) (s : State) : Does (Foot.free) s (execInjectCancel m v s) := by
  unfold execInjectCancel
  repeat' first
    | (extract_lets +onlyGivenNames x
       first
       | (refine fits_cut (p := State.Fits (Foot.free) s x) ?_ ?_; rotate_left; intro hx; clear_value x; rotate_left; subst x)
       | (refine part_cut (α := type_of% x) (by constructor) ?_; subst x)
       | clear_value x
       | subst x)
    | ((with_reducible refine side_ok ?_); exact rfl)
    | with_reducible assumption
    | ((with_reducible refine keep_goal ?_); exact keep_refl)
    | with_reducible exact fits_refl _ _
    | with_reducible refine does_next ?_
    | with_reducible apply begin_fits
    | with_reducible apply masterWrite_fits
    | split

theorem execAttestCommit_fits (m : Master) (s : State) : Does (Foot.free) s (execAttestCommit m s) := by
  unfold execAttestCommit
  repeat' first
    | (extract_lets +onlyGivenNames x
       first
       | (refine fits_cut (p := State.Fits (Foot.free) s x) ?_ ?_; rotate_left; intro hx; clear_value x; rotate_left; subst x)
       | (refine part_cut (α := type_of% x) (by constructor) ?_; subst x)
       | clear_value x
       | subst x)
    | ((with_reducible refine side_ok ?_); exact rfl)
    | with_reducible assumption
    | ((with_reducible refine keep_goal ?_); exact keep_refl)
    | with_reducible exact fits_refl _ _
    | with_reducible refine does_next ?_
    | with_reducible apply begin_fits
    | with_reducible apply masterWrite_fits
    | split

theorem execRecordRead_fits (m : Master) (v : Word) (s : State) : Does (Foot.free) s (execRecordRead m v s) := by
  unfold execRecordRead
  repeat' first
    | (extract_lets +onlyGivenNames x
       first
       | (refine fits_cut (p := State.Fits (Foot.free) s x) ?_ ?_; rotate_left; intro hx; clear_value x; rotate_left; subst x)
       | (refine part_cut (α := type_of% x) (by constructor) ?_; subst x)
       | clear_value x
       | subst x)
    | ((with_reducible refine side_ok ?_); exact rfl)
    | with_reducible assumption
    | ((with_reducible refine keep_goal ?_); exact keep_refl)
    | with_reducible exact fits_refl _ _
    | with_reducible refine does_next ?_
    | with_reducible apply begin_fits
    | with_reducible apply masterWrite_fits
    | split

theorem execWorldWrite_fits (m : Master) (page : Nat) (v : Word) (s : State) : Does (Foot.free) s (execWorldWrite m page v s) := by
  unfold execWorldWrite
  repeat' first
    | (extract_lets +onlyGivenNames x
       first
       | (refine fits_cut (p := State.Fits (Foot.free) s x) ?_ ?_; rotate_left; intro hx; clear_value x; rotate_left; subst x)
       | (refine part_cut (α := type_of% x) (by constructor) ?_; subst x)
       | clear_value x
       | subst x)
    | ((with_reducible refine side_ok ?_); exact rfl)
    | with_reducible assumption
    | ((with_reducible refine keep_goal ?_); exact keep_refl)
    | with_reducible exact fits_refl _ _
    | with_reducible refine does_next ?_
    | with_reducible apply begin_fits
    | with_reducible apply masterWrite_fits
    | split

theorem execLcRequest_fits (m : Master) (v : Word) (s : State) : Does (Foot.free) s (execLcRequest m v s) := by
  unfold execLcRequest
  repeat' first
    | (extract_lets +onlyGivenNames x
       first
       | (refine fits_cut (p := State.Fits (Foot.free) s x) ?_ ?_; rotate_left; intro hx; clear_value x; rotate_left; subst x)
       | (refine part_cut (α := type_of% x) (by constructor) ?_; subst x)
       | clear_value x
       | subst x)
    | ((with_reducible refine side_ok ?_); exact rfl)
    | with_reducible assumption
    | ((with_reducible refine keep_goal ?_); exact keep_refl)
    | with_reducible exact fits_refl _ _
    | with_reducible refine does_next ?_
    | with_reducible apply begin_fits
    | with_reducible apply masterWrite_fits
    | split

theorem execLbistStart_fits (m : Master) (v : Word) (s : State) : Does (Foot.free) s (execLbistStart m v s) := by
  unfold execLbistStart
  repeat' first
    | (extract_lets +onlyGivenNames x
       first
       | (refine fits_cut (p := State.Fits (Foot.free) s x) ?_ ?_; rotate_left; intro hx; clear_value x; rotate_left; subst x)
       | (refine part_cut (α := type_of% x) (by constructor) ?_; subst x)
       | clear_value x
       | subst x)
    | ((with_reducible refine side_ok ?_); exact rfl)
    | with_reducible assumption
    | ((with_reducible refine keep_goal ?_); exact keep_refl)
    | with_reducible exact fits_refl _ _
    | with_reducible refine does_next ?_
    | with_reducible apply begin_fits
    | with_reducible apply masterWrite_fits
    | split

theorem execMbistRequest_fits (m : Master) (v : Word) (s : State) : Does (Foot.free) s (execMbistRequest m v s) := by
  unfold execMbistRequest
  repeat' first
    | (extract_lets +onlyGivenNames x
       first
       | (refine fits_cut (p := State.Fits (Foot.free) s x) ?_ ?_; rotate_left; intro hx; clear_value x; rotate_left; subst x)
       | (refine part_cut (α := type_of% x) (by constructor) ?_; subst x)
       | clear_value x
       | subst x)
    | ((with_reducible refine side_ok ?_); exact rfl)
    | with_reducible assumption
    | ((with_reducible refine keep_goal ?_); exact keep_refl)
    | with_reducible exact fits_refl _ _
    | with_reducible refine does_next ?_
    | with_reducible apply begin_fits
    | with_reducible apply masterWrite_fits
    | split

theorem execFuseProgram_fits (m : Master) (v : Word) (s : State) : Does (Foot.free) s (execFuseProgram m v s) := by
  unfold execFuseProgram
  repeat' first
    | (extract_lets +onlyGivenNames x
       first
       | (refine fits_cut (p := State.Fits (Foot.free) s x) ?_ ?_; rotate_left; intro hx; clear_value x; rotate_left; subst x)
       | (refine part_cut (α := type_of% x) (by constructor) ?_; subst x)
       | clear_value x
       | subst x)
    | ((with_reducible refine side_ok ?_); exact rfl)
    | with_reducible assumption
    | ((with_reducible refine keep_goal ?_); exact keep_refl)
    | with_reducible exact fits_refl _ _
    | with_reducible refine does_next ?_
    | with_reducible apply begin_fits
    | with_reducible apply masterWrite_fits
    | split

theorem execUnitCommit_fits (m : Master) (page : Nat) (v : Word) (s : State) : Does (Foot.free) s (execUnitCommit m page v s) := by
  unfold execUnitCommit
  repeat' first
    | (extract_lets +onlyGivenNames x
       first
       | (refine fits_cut (p := State.Fits (Foot.free) s x) ?_ ?_; rotate_left; intro hx; clear_value x; rotate_left; subst x)
       | (refine part_cut (α := type_of% x) (by constructor) ?_; subst x)
       | clear_value x
       | subst x)
    | ((with_reducible refine side_ok ?_); exact rfl)
    | with_reducible assumption
    | ((with_reducible refine keep_goal ?_); exact keep_refl)
    | with_reducible exact fits_refl _ _
    | with_reducible refine does_next ?_
    | with_reducible apply begin_fits
    | with_reducible apply masterWrite_fits
    | split

theorem execDiscard_fits (m : Master) (page : Nat) (v : Word) (s : State) : Does (Foot.free) s (execDiscard m page v s) := by
  unfold execDiscard
  repeat' first
    | (extract_lets +onlyGivenNames x
       first
       | (refine fits_cut (p := State.Fits (Foot.free) s x) ?_ ?_; rotate_left; intro hx; clear_value x; rotate_left; subst x)
       | (refine part_cut (α := type_of% x) (by constructor) ?_; subst x)
       | clear_value x
       | subst x)
    | ((with_reducible refine side_ok ?_); exact rfl)
    | with_reducible assumption
    | ((with_reducible refine keep_goal ?_); exact keep_refl)
    | with_reducible exact fits_refl _ _
    | with_reducible refine does_next ?_
    | with_reducible apply begin_fits
    | with_reducible apply masterWrite_fits
    | split

theorem execRegisterWrite_fits (m : Master) (a : Nat) (v : Word) (s : State) : Does (Foot.free) s (execRegisterWrite m a v s) := by
  unfold execRegisterWrite
  repeat' first
    | (extract_lets +onlyGivenNames x
       first
       | (refine fits_cut (p := State.Fits (Foot.free) s x) ?_ ?_; rotate_left; intro hx; clear_value x; rotate_left; subst x)
       | (refine part_cut (α := type_of% x) (by constructor) ?_; subst x)
       | clear_value x
       | subst x)
    | ((with_reducible refine side_ok ?_); exact rfl)
    | with_reducible assumption
    | ((with_reducible refine keep_goal ?_); exact keep_refl)
    | with_reducible exact fits_refl _ _
    | with_reducible refine does_next ?_
    | with_reducible apply begin_fits
    | with_reducible apply masterWrite_fits
    | split

theorem execRegisterRead_fits (m : Master) (a : Nat) (size : Nat) (ecc : Nat) (s : State) : Does (Foot.of [0x00, 0x40, 0x48, 0x50, 0x68, 0x70, 0x71, 0x78] [.latches, .flt, .evr, .saf, .lanes, .readData, .fresh]) s (execRegisterRead m a size ecc s) := by
  unfold execRegisterRead
  repeat' first
    | (extract_lets +onlyGivenNames x
       first
       | (refine fits_cut (p := State.Fits (Foot.of [0x00, 0x40, 0x48, 0x50, 0x68, 0x70, 0x71, 0x78] [.latches, .flt, .evr, .saf, .lanes, .readData, .fresh]) s x) ?_ ?_; rotate_left; intro hx; clear_value x; rotate_left; subst x)
       | (refine part_cut (α := type_of% x) (by constructor) ?_; subst x)
       | clear_value x
       | subst x)
    | ((with_reducible refine side_ok ?_); exact rfl)
    | with_reducible assumption
    | ((with_reducible refine keep_goal ?_); exact keep_refl)
    | with_reducible exact fits_refl _ _
    | with_reducible refine does_next ?_
    | with_reducible apply begin_fits
    | with_reducible refine busRead_fits_eq (by assumption) ?_ ?_
    | with_reducible apply busRead_fits
    | with_reducible apply withReadData_fits
    | with_reducible apply withReadData_fits
    | split
    | with_reducible refine fits_snd (by assumption) ?_
    | with_reducible refine fits_thd (by assumption) ?_
    | dsimp only

theorem execMemoryWrite_fits (m : Master) (a : Nat) (bytes : List Byte) (s : State) : Does (Foot.free) s (execMemoryWrite m a bytes s) := by
  unfold execMemoryWrite
  repeat' first
    | (extract_lets +onlyGivenNames x
       first
       | (refine fits_cut (p := State.Fits (Foot.free) s x) ?_ ?_; rotate_left; intro hx; clear_value x; rotate_left; subst x)
       | (refine part_cut (α := type_of% x) (by constructor) ?_; subst x)
       | clear_value x
       | subst x)
    | ((with_reducible refine side_ok ?_); exact rfl)
    | with_reducible assumption
    | ((with_reducible refine keep_goal ?_); exact keep_refl)
    | with_reducible exact fits_refl _ _
    | with_reducible refine does_next ?_
    | with_reducible apply begin_fits
    | with_reducible apply busWrite_fits
    | split

theorem execBus_fits (write : Bool) (a : Nat) (v : Word) (s : State) : Does (Foot.free) s (execBus write a v s) := by
  unfold execBus
  repeat' first
    | (extract_lets +onlyGivenNames x
       first
       | (refine fits_cut (p := State.Fits (Foot.free) s x) ?_ ?_; rotate_left; intro hx; clear_value x; rotate_left; subst x)
       | (refine part_cut (α := type_of% x) (by constructor) ?_; subst x)
       | clear_value x
       | subst x)
    | ((with_reducible refine side_ok ?_); exact rfl)
    | with_reducible assumption
    | ((with_reducible refine keep_goal ?_); exact keep_refl)
    | with_reducible exact fits_refl _ _
    | with_reducible refine does_next ?_
    | with_reducible apply begin_fits
    | with_reducible refine busRead_fits_eq (by assumption) ?_ ?_
    | with_reducible apply busRead_fits
    | with_reducible apply busWrite_fits
    | with_reducible apply tapInstr_fits
    | with_reducible apply withReadData_fits
    | with_reducible apply withReadData_fits
    | split
    | with_reducible refine fits_snd (by assumption) ?_
    | with_reducible refine fits_thd (by assumption) ?_
    | dsimp only

theorem execWorkFrame_fits (l : Nat) (f : Wire) (s : State) : Does (Foot.free) s (execWorkFrame l f s) := by
  unfold execWorkFrame
  repeat' first
    | (extract_lets +onlyGivenNames x
       first
       | (refine fits_cut (p := State.Fits (Foot.free) s x) ?_ ?_; rotate_left; intro hx; clear_value x; rotate_left; subst x)
       | (refine part_cut (α := type_of% x) (by constructor) ?_; subst x)
       | clear_value x
       | subst x)
    | ((with_reducible refine side_ok ?_); exact rfl)
    | with_reducible assumption
    | ((with_reducible refine keep_goal ?_); exact keep_refl)
    | with_reducible exact fits_refl _ _
    | with_reducible refine does_next ?_
    | with_reducible apply begin_fits
    | with_reducible apply receive_fits
    | split

theorem execRegRead_fits (l : Nat) (f : Wire) (s : State) : Does (Foot.free) s (execRegRead l f s) := by
  unfold execRegRead
  repeat' first
    | (extract_lets +onlyGivenNames x
       first
       | (refine fits_cut (p := State.Fits (Foot.free) s x) ?_ ?_; rotate_left; intro hx; clear_value x; rotate_left; subst x)
       | (refine part_cut (α := type_of% x) (by constructor) ?_; subst x)
       | clear_value x
       | subst x)
    | ((with_reducible refine side_ok ?_); exact rfl)
    | with_reducible assumption
    | ((with_reducible refine keep_goal ?_); exact keep_refl)
    | with_reducible exact fits_refl _ _
    | with_reducible refine does_next ?_
    | with_reducible apply begin_fits
    | with_reducible apply receive_fits
    | split

theorem execRegWrite_fits (l : Nat) (f : Wire) (s : State) : Does (Foot.free) s (execRegWrite l f s) := by
  unfold execRegWrite
  repeat' first
    | (extract_lets +onlyGivenNames x
       first
       | (refine fits_cut (p := State.Fits (Foot.free) s x) ?_ ?_; rotate_left; intro hx; clear_value x; rotate_left; subst x)
       | (refine part_cut (α := type_of% x) (by constructor) ?_; subst x)
       | clear_value x
       | subst x)
    | ((with_reducible refine side_ok ?_); exact rfl)
    | with_reducible assumption
    | ((with_reducible refine keep_goal ?_); exact keep_refl)
    | with_reducible exact fits_refl _ _
    | with_reducible refine does_next ?_
    | with_reducible apply begin_fits
    | with_reducible apply receive_fits
    | split

theorem execRegModify_fits (l : Nat) (f : Wire) (s : State) : Does (Foot.free) s (execRegModify l f s) := by
  unfold execRegModify
  repeat' first
    | (extract_lets +onlyGivenNames x
       first
       | (refine fits_cut (p := State.Fits (Foot.free) s x) ?_ ?_; rotate_left; intro hx; clear_value x; rotate_left; subst x)
       | (refine part_cut (α := type_of% x) (by constructor) ?_; subst x)
       | clear_value x
       | subst x)
    | ((with_reducible refine side_ok ?_); exact rfl)
    | with_reducible assumption
    | ((with_reducible refine keep_goal ?_); exact keep_refl)
    | with_reducible exact fits_refl _ _
    | with_reducible refine does_next ?_
    | with_reducible apply begin_fits
    | with_reducible apply receive_fits
    | split

theorem execPacketStore_fits (l : Nat) (copies : Nat) (s : State) : Does (Foot.free) s (execPacketStore l copies s) := by
  unfold execPacketStore
  repeat' first
    | (extract_lets +onlyGivenNames x
       first
       | (refine fits_cut (p := State.Fits (Foot.free) s x) ?_ ?_; rotate_left; intro hx; clear_value x; rotate_left; subst x)
       | (refine part_cut (α := type_of% x) (by constructor) ?_; subst x)
       | clear_value x
       | subst x)
    | ((with_reducible refine side_ok ?_); exact rfl)
    | with_reducible assumption
    | ((with_reducible refine keep_goal ?_); exact keep_refl)
    | with_reducible exact fits_refl _ _
    | with_reducible refine does_next ?_
    | with_reducible apply begin_fits
    | with_reducible apply engineRun_fits
    | with_reducible apply storeWaiting_fits
    | split

theorem execControlConsume_fits (parity : Bool) (s : State) : Does (Foot.free) s (execControlConsume parity s) := by
  unfold execControlConsume
  repeat' first
    | (extract_lets +onlyGivenNames x
       first
       | (refine fits_cut (p := State.Fits (Foot.free) s x) ?_ ?_; rotate_left; intro hx; clear_value x; rotate_left; subst x)
       | (refine part_cut (α := type_of% x) (by constructor) ?_; subst x)
       | clear_value x
       | subst x)
    | ((with_reducible refine side_ok ?_); exact rfl)
    | with_reducible assumption
    | ((with_reducible refine keep_goal ?_); exact keep_refl)
    | with_reducible exact fits_refl _ _
    | with_reducible refine does_next ?_
    | with_reducible apply applyEntries_fits
    | with_reducible apply begin_fits
    | with_reducible apply doneHead_fits
    | with_reducible apply replay_fits
    | split

theorem execSpiStatus_fits (s : State) : Does (Foot.of [] [.flt, .saf, .spi, .readData]) s (execSpiStatus s) := by
  unfold execSpiStatus
  repeat' first
    | (extract_lets +onlyGivenNames x
       first
       | (refine fits_cut (p := State.Fits (Foot.of [] [.flt, .saf, .spi, .readData]) s x) ?_ ?_; rotate_left; intro hx; clear_value x; rotate_left; subst x)
       | (refine part_cut (α := type_of% x) (by constructor) ?_; subst x)
       | clear_value x
       | subst x)
    | ((with_reducible refine side_ok ?_); exact rfl)
    | with_reducible assumption
    | ((with_reducible refine keep_goal ?_); exact keep_refl)
    | with_reducible exact fits_refl _ _
    | with_reducible refine does_next ?_
    | with_reducible apply begin_fits
    | with_reducible apply withReadData_fits
    | with_reducible apply withSpi_fits
    | with_reducible apply withReadData_fits
    | with_reducible apply withSpi_fits
    | split

theorem execSpiRead_fits (a : Nat) (n : Nat) (s : State) : Does (Foot.of [0x00, 0x40, 0x48, 0x50, 0x68, 0x70, 0x71, 0x78] [.latches, .flt, .evr, .saf, .spi, .lanes, .readData, .fresh]) s (execSpiRead a n s) := by
  unfold execSpiRead
  repeat' first
    | (extract_lets +onlyGivenNames x
       first
       | (refine fits_cut (p := State.Fits (Foot.of [0x00, 0x40, 0x48, 0x50, 0x68, 0x70, 0x71, 0x78] [.latches, .flt, .evr, .saf, .spi, .lanes, .readData, .fresh]) s x) ?_ ?_; rotate_left; intro hx; clear_value x; rotate_left; subst x)
       | (refine part_cut (α := type_of% x) (by constructor) ?_; subst x)
       | clear_value x
       | subst x)
    | ((with_reducible refine side_ok ?_); exact rfl)
    | with_reducible assumption
    | ((with_reducible refine keep_goal ?_); exact keep_refl)
    | with_reducible exact fits_refl _ _
    | with_reducible refine does_next ?_
    | with_reducible apply begin_fits
    | with_reducible refine spiReads_fits_eq (by assumption) ?_ ?_
    | with_reducible apply spiReads_fits
    | with_reducible apply withReadData_fits
    | with_reducible apply withReadData_fits
    | split
    | with_reducible refine fits_snd (by assumption) ?_
    | with_reducible refine fits_thd (by assumption) ?_
    | dsimp only

theorem execSpiWrite_fits (a : Nat) (bytes : List Byte) (s : State) : Does (Foot.free) s (execSpiWrite a bytes s) := by
  unfold execSpiWrite
  repeat' first
    | (extract_lets +onlyGivenNames x
       first
       | (refine fits_cut (p := State.Fits (Foot.free) s x) ?_ ?_; rotate_left; intro hx; clear_value x; rotate_left; subst x)
       | (refine part_cut (α := type_of% x) (by constructor) ?_; subst x)
       | clear_value x
       | subst x)
    | ((with_reducible refine side_ok ?_); exact rfl)
    | with_reducible assumption
    | ((with_reducible refine keep_goal ?_); exact keep_refl)
    | with_reducible exact fits_refl _ _
    | with_reducible refine does_next ?_
    | with_reducible refine fits_foldl _ _ (fun x hx u hu => ?_) ?_
    | with_reducible apply begin_fits
    | with_reducible apply spiWriteWord_fits
    | split

theorem execPktWrite_fits (len : Nat) (bytes : List Byte) (crc : Nat) (s : State) : Does (Foot.of [0x00, 0x10, 0x18] [.flt, .saf, .lnkA, .lnkB, .spi]) s (execPktWrite len bytes crc s) := by
  unfold execPktWrite
  repeat' first
    | (extract_lets +onlyGivenNames x
       first
       | (refine fits_cut (p := State.Fits (Foot.of [0x00, 0x10, 0x18] [.flt, .saf, .lnkA, .lnkB, .spi]) s x) ?_ ?_; rotate_left; intro hx; clear_value x; rotate_left; subst x)
       | (refine part_cut (α := type_of% x) (by constructor) ?_; subst x)
       | clear_value x
       | subst x)
    | ((with_reducible refine side_ok ?_); exact rfl)
    | with_reducible assumption
    | ((with_reducible refine keep_goal ?_); exact keep_refl)
    | with_reducible exact fits_refl _ _
    | with_reducible refine does_next ?_
    | with_reducible apply begin_fits
    | with_reducible apply classify_fits
    | with_reducible apply pktErr_fits
    | split

theorem execRspRead_fits (s : State) : Does (Foot.of [] [.flt, .saf, .spi, .readData]) s (execRspRead s) := by
  unfold execRspRead
  repeat' first
    | (extract_lets +onlyGivenNames x
       first
       | (refine fits_cut (p := State.Fits (Foot.of [] [.flt, .saf, .spi, .readData]) s x) ?_ ?_; rotate_left; intro hx; clear_value x; rotate_left; subst x)
       | (refine part_cut (α := type_of% x) (by constructor) ?_; subst x)
       | clear_value x
       | subst x)
    | ((with_reducible refine side_ok ?_); exact rfl)
    | with_reducible assumption
    | ((with_reducible refine keep_goal ?_); exact keep_refl)
    | with_reducible exact fits_refl _ _
    | with_reducible refine does_next ?_
    | with_reducible apply begin_fits
    | with_reducible apply withReadData_fits
    | with_reducible apply withSpi_fits
    | with_reducible apply withReadData_fits
    | with_reducible apply withSpi_fits
    | split

end Sys2Proof.Laws
end

