-- ==== Sys2Proof/Laws/Only.lean ====
section
/-! SUPPORT. How a frame is used and how the fine form of one is put together: what a footprint says of one field or one part,
and one lemma for each primitive update, op_only. -/

namespace Sys2Proof.Laws

open Sys2Proof.Machine

variable {f : Foot} {s0 s t : State} {fs : List Fld} {ps : List Part}

/-! ### What a footprint says of one field, of one part -/

theorem within_g (h : s.Within f t) (ha : f.any = false) (x : Fld) (hu : f.units.contains (groupPage x.page) = false) : t.g x = s.g x := by
  rcases h with h | ⟨h, -⟩
  · rw [ha] at h; cases h
  · have := h x.addr (by rw [addr_page]; simpa using hu)
    simp only [State.g, this]

theorem within_shadow (h : s.Within f t) (ha : f.any = false) (hp : f.parts.contains Part.shadow = false) : t.shadow = s.shadow := by
  rcases h with h | ⟨-, h⟩
  · rw [ha] at h; cases h
  · exact h.shadow (by simpa using hp)

theorem within_pend (h : s.Within f t) (ha : f.any = false) (hp : f.parts.contains Part.pend = false) : t.pend = s.pend := by
  rcases h with h | ⟨-, h⟩
  · rw [ha] at h; cases h
  · exact h.pend (by simpa using hp)

theorem within_pendPages (h : s.Within f t) (ha : f.any = false) (hp : f.parts.contains Part.pendPages = false) : t.pendPages = s.pendPages := by
  rcases h with h | ⟨-, h⟩
  · rw [ha] at h; cases h
  · exact h.pendPages (by simpa using hp)

theorem within_mem (h : s.Within f t) (ha : f.any = false) (hp : f.parts.contains Part.mem = false) : t.mem = s.mem := by
  rcases h with h | ⟨-, h⟩
  · rw [ha] at h; cases h
  · exact h.mem (by simpa using hp)

theorem within_latches (h : s.Within f t) (ha : f.any = false) (hp : f.parts.contains Part.latches = false) : t.latches = s.latches := by
  rcases h with h | ⟨-, h⟩
  · rw [ha] at h; cases h
  · exact h.latches (by simpa using hp)

theorem within_now (h : s.Within f t) (ha : f.any = false) (hp : f.parts.contains Part.now = false) : t.now = s.now := by
  rcases h with h | ⟨-, h⟩
  · rw [ha] at h; cases h
  · exact h.now (by simpa using hp)

theorem within_ohSub (h : s.Within f t) (ha : f.any = false) (hp : f.parts.contains Part.ohSub = false) : t.ohSub = s.ohSub := by
  rcases h with h | ⟨-, h⟩
  · rw [ha] at h; cases h
  · exact h.ohSub (by simpa using hp)

theorem within_lt (h : s.Within f t) (ha : f.any = false) (hp : f.parts.contains Part.lt = false) : t.lt = s.lt := by
  rcases h with h | ⟨-, h⟩
  · rw [ha] at h; cases h
  · exact h.lt (by simpa using hp)

theorem within_slew (h : s.Within f t) (ha : f.any = false) (hp : f.parts.contains Part.slew = false) : t.slew = s.slew := by
  rcases h with h | ⟨-, h⟩
  · rw [ha] at h; cases h
  · exact h.slew (by simpa using hp)

theorem within_ltApplied (h : s.Within f t) (ha : f.any = false) (hp : f.parts.contains Part.ltApplied = false) : t.ltApplied = s.ltApplied := by
  rcases h with h | ⟨-, h⟩
  · rw [ha] at h; cases h
  · exact h.ltApplied (by simpa using hp)

theorem within_flt (h : s.Within f t) (ha : f.any = false) (hp : f.parts.contains Part.flt = false) : t.flt = s.flt := by
  rcases h with h | ⟨-, h⟩
  · rw [ha] at h; cases h
  · exact h.flt (by simpa using hp)

theorem within_evr (h : s.Within f t) (ha : f.any = false) (hp : f.parts.contains Part.evr = false) : t.evr = s.evr := by
  rcases h with h | ⟨-, h⟩
  · rw [ha] at h; cases h
  · exact h.evr (by simpa using hp)

theorem within_saf (h : s.Within f t) (ha : f.any = false) (hp : f.parts.contains Part.saf = false) : t.saf = s.saf := by
  rcases h with h | ⟨-, h⟩
  · rw [ha] at h; cases h
  · exact h.saf (by simpa using hp)

theorem within_rst (h : s.Within f t) (ha : f.any = false) (hp : f.parts.contains Part.rst = false) : t.rst = s.rst := by
  rcases h with h | ⟨-, h⟩
  · rw [ha] at h; cases h
  · exact h.rst (by simpa using hp)

theorem within_quartz (h : s.Within f t) (ha : f.any = false) (hp : f.parts.contains Part.quartz = false) : t.quartz = s.quartz := by
  rcases h with h | ⟨-, h⟩
  · rw [ha] at h; cases h
  · exact h.quartz (by simpa using hp)

theorem within_lnkA (h : s.Within f t) (ha : f.any = false) (hp : f.parts.contains Part.lnkA = false) : t.lnkA = s.lnkA := by
  rcases h with h | ⟨-, h⟩
  · rw [ha] at h; cases h
  · exact h.lnkA (by simpa using hp)

theorem within_lnkB (h : s.Within f t) (ha : f.any = false) (hp : f.parts.contains Part.lnkB = false) : t.lnkB = s.lnkB := by
  rcases h with h | ⟨-, h⟩
  · rw [ha] at h; cases h
  · exact h.lnkB (by simpa using hp)

theorem within_csf (h : s.Within f t) (ha : f.any = false) (hp : f.parts.contains Part.csf = false) : t.csf = s.csf := by
  rcases h with h | ⟨-, h⟩
  · rw [ha] at h; cases h
  · exact h.csf (by simpa using hp)

theorem within_side (h : s.Within f t) (ha : f.any = false) (hp : f.parts.contains Part.side = false) : t.side = s.side := by
  rcases h with h | ⟨-, h⟩
  · rw [ha] at h; cases h
  · exact h.side (by simpa using hp)

theorem within_spi (h : s.Within f t) (ha : f.any = false) (hp : f.parts.contains Part.spi = false) : t.spi = s.spi := by
  rcases h with h | ⟨-, h⟩
  · rw [ha] at h; cases h
  · exact h.spi (by simpa using hp)

theorem within_cmd (h : s.Within f t) (ha : f.any = false) (hp : f.parts.contains Part.cmd = false) : t.cmd = s.cmd := by
  rcases h with h | ⟨-, h⟩
  · rw [ha] at h; cases h
  · exact h.cmd (by simpa using hp)

theorem within_cmp (h : s.Within f t) (ha : f.any = false) (hp : f.parts.contains Part.cmp = false) : t.cmp = s.cmp := by
  rcases h with h | ⟨-, h⟩
  · rw [ha] at h; cases h
  · exact h.cmp (by simpa using hp)

theorem within_glare (h : s.Within f t) (ha : f.any = false) (hp : f.parts.contains Part.glare = false) : t.glare = s.glare := by
  rcases h with h | ⟨-, h⟩
  · rw [ha] at h; cases h
  · exact h.glare (by simpa using hp)

theorem within_lanes (h : s.Within f t) (ha : f.any = false) (hp : f.parts.contains Part.lanes = false) : t.lanes = s.lanes := by
  rcases h with h | ⟨-, h⟩
  · rw [ha] at h; cases h
  · exact h.lanes (by simpa using hp)

theorem within_tln (h : s.Within f t) (ha : f.any = false) (hp : f.parts.contains Part.tln = false) : t.tln = s.tln := by
  rcases h with h | ⟨-, h⟩
  · rw [ha] at h; cases h
  · exact h.tln (by simpa using hp)

theorem within_gov (h : s.Within f t) (ha : f.any = false) (hp : f.parts.contains Part.gov = false) : t.gov = s.gov := by
  rcases h with h | ⟨-, h⟩
  · rw [ha] at h; cases h
  · exact h.gov (by simpa using hp)

theorem within_cal (h : s.Within f t) (ha : f.any = false) (hp : f.parts.contains Part.cal = false) : t.cal = s.cal := by
  rcases h with h | ⟨-, h⟩
  · rw [ha] at h; cases h
  · exact h.cal (by simpa using hp)

theorem within_flx (h : s.Within f t) (ha : f.any = false) (hp : f.parts.contains Part.flx = false) : t.flx = s.flx := by
  rcases h with h | ⟨-, h⟩
  · rw [ha] at h; cases h
  · exact h.flx (by simpa using hp)

theorem within_seg (h : s.Within f t) (ha : f.any = false) (hp : f.parts.contains Part.seg = false) : t.seg = s.seg := by
  rcases h with h | ⟨-, h⟩
  · rw [ha] at h; cases h
  · exact h.seg (by simpa using hp)

theorem within_thm (h : s.Within f t) (ha : f.any = false) (hp : f.parts.contains Part.thm = false) : t.thm = s.thm := by
  rcases h with h | ⟨-, h⟩
  · rw [ha] at h; cases h
  · exact h.thm (by simpa using hp)

theorem within_pwr (h : s.Within f t) (ha : f.any = false) (hp : f.parts.contains Part.pwr = false) : t.pwr = s.pwr := by
  rcases h with h | ⟨-, h⟩
  · rw [ha] at h; cases h
  · exact h.pwr (by simpa using hp)

theorem within_sec (h : s.Within f t) (ha : f.any = false) (hp : f.parts.contains Part.sec = false) : t.sec = s.sec := by
  rcases h with h | ⟨-, h⟩
  · rw [ha] at h; cases h
  · exact h.sec (by simpa using hp)

theorem within_fus (h : s.Within f t) (ha : f.any = false) (hp : f.parts.contains Part.fus = false) : t.fus = s.fus := by
  rcases h with h | ⟨-, h⟩
  · rw [ha] at h; cases h
  · exact h.fus (by simpa using hp)

theorem within_upd (h : s.Within f t) (ha : f.any = false) (hp : f.parts.contains Part.upd = false) : t.upd = s.upd := by
  rcases h with h | ⟨-, h⟩
  · rw [ha] at h; cases h
  · exact h.upd (by simpa using hp)

theorem within_readData (h : s.Within f t) (ha : f.any = false) (hp : f.parts.contains Part.readData = false) : t.readData = s.readData := by
  rcases h with h | ⟨-, h⟩
  · rw [ha] at h; cases h
  · exact h.readData (by simpa using hp)

theorem within_fresh (h : s.Within f t) (ha : f.any = false) (hp : f.parts.contains Part.fresh = false) : t.fresh = s.fresh := by
  rcases h with h | ⟨-, h⟩
  · rw [ha] at h; cases h
  · exact h.fresh (by simpa using hp)

/-! ### The fine form -/

theorem only_refl (fs : List Fld) (ps : List Part) (s : State) : s.Only fs ps s := ⟨fun _ _ => rfl, partsWithin_refl _ s⟩

theorem only_put {x : Fld} (v : Nat) (hm : x ∈ fs) (hh : x.hi < 32) (h : s0.Only fs ps s) : s0.Only fs ps (s.put x v) :=
  ⟨fun g hg => (g_put_other s x g v hh (hg x hm)).trans (h.fields g hg), partsWithin_trans h.parts (by constructor <;> exact fun _ => by simp)⟩

theorem only_inc {x : Fld} (hm : x ∈ fs) (hh : x.hi < 32) (h : s0.Only fs ps s) : s0.Only fs ps (s.inc x) := only_put _ hm hh h

theorem only_incSat {x : Fld} (hm : x ∈ fs) (hh : x.hi < 32) (h : s0.Only fs ps s) : s0.Only fs ps (s.incSat x) := by
  unfold State.incSat
  split
  · exact only_put _ hm hh h
  · exact h

theorem only_addSat {x : Fld} (n : Nat) (hm : x ∈ fs) (hh : x.hi < 32) (h : s0.Only fs ps s) : s0.Only fs ps (s.addSat x n) := only_put _ hm hh h

theorem only_evt {x : Fld} (hm : x ∈ fs) (hq : F.UNIT_IRQ_STAT_EVT x.page ∈ fs) (hh : x.hi < 32) (h : s0.Only fs ps s) : s0.Only fs ps (s.evt x) := by
  unfold State.evt
  split
  · exact h
  · exact only_put _ hq (by simp [F.UNIT_IRQ_STAT_EVT]) (only_put _ hm hh h)

theorem only_withShadow {v} (hm : Part.shadow ∈ ps) (h : s0.Only fs ps s) : s0.Only fs ps (s.withShadow v) :=
  ⟨fun g hg => h.fields g hg, partsWithin_trans h.parts (by constructor <;> first | exact fun _ => rfl | exact fun x => absurd hm x)⟩

theorem only_withPend {v} (hm : Part.pend ∈ ps) (h : s0.Only fs ps s) : s0.Only fs ps (s.withPend v) :=
  ⟨fun g hg => h.fields g hg, partsWithin_trans h.parts (by constructor <;> first | exact fun _ => rfl | exact fun x => absurd hm x)⟩

theorem only_withPendPages {v} (hm : Part.pendPages ∈ ps) (h : s0.Only fs ps s) : s0.Only fs ps (s.withPendPages v) :=
  ⟨fun g hg => h.fields g hg, partsWithin_trans h.parts (by constructor <;> first | exact fun _ => rfl | exact fun x => absurd hm x)⟩

theorem only_withMem {v} (hm : Part.mem ∈ ps) (h : s0.Only fs ps s) : s0.Only fs ps (s.withMem v) :=
  ⟨fun g hg => h.fields g hg, partsWithin_trans h.parts (by constructor <;> first | exact fun _ => rfl | exact fun x => absurd hm x)⟩

theorem only_withLatches {v} (hm : Part.latches ∈ ps) (h : s0.Only fs ps s) : s0.Only fs ps (s.withLatches v) :=
  ⟨fun g hg => h.fields g hg, partsWithin_trans h.parts (by constructor <;> first | exact fun _ => rfl | exact fun x => absurd hm x)⟩

theorem only_withNow {v} (hm : Part.now ∈ ps) (h : s0.Only fs ps s) : s0.Only fs ps (s.withNow v) :=
  ⟨fun g hg => h.fields g hg, partsWithin_trans h.parts (by constructor <;> first | exact fun _ => rfl | exact fun x => absurd hm x)⟩

theorem only_withOhSub {v} (hm : Part.ohSub ∈ ps) (h : s0.Only fs ps s) : s0.Only fs ps (s.withOhSub v) :=
  ⟨fun g hg => h.fields g hg, partsWithin_trans h.parts (by constructor <;> first | exact fun _ => rfl | exact fun x => absurd hm x)⟩

theorem only_withLt {v} (hm : Part.lt ∈ ps) (h : s0.Only fs ps s) : s0.Only fs ps (s.withLt v) :=
  ⟨fun g hg => h.fields g hg, partsWithin_trans h.parts (by constructor <;> first | exact fun _ => rfl | exact fun x => absurd hm x)⟩

theorem only_withSlew {v} (hm : Part.slew ∈ ps) (h : s0.Only fs ps s) : s0.Only fs ps (s.withSlew v) :=
  ⟨fun g hg => h.fields g hg, partsWithin_trans h.parts (by constructor <;> first | exact fun _ => rfl | exact fun x => absurd hm x)⟩

theorem only_withLtApplied {v} (hm : Part.ltApplied ∈ ps) (h : s0.Only fs ps s) : s0.Only fs ps (s.withLtApplied v) :=
  ⟨fun g hg => h.fields g hg, partsWithin_trans h.parts (by constructor <;> first | exact fun _ => rfl | exact fun x => absurd hm x)⟩

theorem only_withFlt {v} (hm : Part.flt ∈ ps) (h : s0.Only fs ps s) : s0.Only fs ps (s.withFlt v) :=
  ⟨fun g hg => h.fields g hg, partsWithin_trans h.parts (by constructor <;> first | exact fun _ => rfl | exact fun x => absurd hm x)⟩

theorem only_withEvr {v} (hm : Part.evr ∈ ps) (h : s0.Only fs ps s) : s0.Only fs ps (s.withEvr v) :=
  ⟨fun g hg => h.fields g hg, partsWithin_trans h.parts (by constructor <;> first | exact fun _ => rfl | exact fun x => absurd hm x)⟩

theorem only_withSaf {v} (hm : Part.saf ∈ ps) (h : s0.Only fs ps s) : s0.Only fs ps (s.withSaf v) :=
  ⟨fun g hg => h.fields g hg, partsWithin_trans h.parts (by constructor <;> first | exact fun _ => rfl | exact fun x => absurd hm x)⟩

theorem only_withRst {v} (hm : Part.rst ∈ ps) (h : s0.Only fs ps s) : s0.Only fs ps (s.withRst v) :=
  ⟨fun g hg => h.fields g hg, partsWithin_trans h.parts (by constructor <;> first | exact fun _ => rfl | exact fun x => absurd hm x)⟩

theorem only_withQuartz {v} (hm : Part.quartz ∈ ps) (h : s0.Only fs ps s) : s0.Only fs ps (s.withQuartz v) :=
  ⟨fun g hg => h.fields g hg, partsWithin_trans h.parts (by constructor <;> first | exact fun _ => rfl | exact fun x => absurd hm x)⟩

theorem only_withLnkA {v} (hm : Part.lnkA ∈ ps) (h : s0.Only fs ps s) : s0.Only fs ps (s.withLnkA v) :=
  ⟨fun g hg => h.fields g hg, partsWithin_trans h.parts (by constructor <;> first | exact fun _ => rfl | exact fun x => absurd hm x)⟩

theorem only_withLnkB {v} (hm : Part.lnkB ∈ ps) (h : s0.Only fs ps s) : s0.Only fs ps (s.withLnkB v) :=
  ⟨fun g hg => h.fields g hg, partsWithin_trans h.parts (by constructor <;> first | exact fun _ => rfl | exact fun x => absurd hm x)⟩

theorem only_withCsf {v} (hm : Part.csf ∈ ps) (h : s0.Only fs ps s) : s0.Only fs ps (s.withCsf v) :=
  ⟨fun g hg => h.fields g hg, partsWithin_trans h.parts (by constructor <;> first | exact fun _ => rfl | exact fun x => absurd hm x)⟩

theorem only_withSide {v} (hm : Part.side ∈ ps) (h : s0.Only fs ps s) : s0.Only fs ps (s.withSide v) :=
  ⟨fun g hg => h.fields g hg, partsWithin_trans h.parts (by constructor <;> first | exact fun _ => rfl | exact fun x => absurd hm x)⟩

theorem only_withSpi {v} (hm : Part.spi ∈ ps) (h : s0.Only fs ps s) : s0.Only fs ps (s.withSpi v) :=
  ⟨fun g hg => h.fields g hg, partsWithin_trans h.parts (by constructor <;> first | exact fun _ => rfl | exact fun x => absurd hm x)⟩

theorem only_withCmd {v} (hm : Part.cmd ∈ ps) (h : s0.Only fs ps s) : s0.Only fs ps (s.withCmd v) :=
  ⟨fun g hg => h.fields g hg, partsWithin_trans h.parts (by constructor <;> first | exact fun _ => rfl | exact fun x => absurd hm x)⟩

theorem only_withCmp {v} (hm : Part.cmp ∈ ps) (h : s0.Only fs ps s) : s0.Only fs ps (s.withCmp v) :=
  ⟨fun g hg => h.fields g hg, partsWithin_trans h.parts (by constructor <;> first | exact fun _ => rfl | exact fun x => absurd hm x)⟩

theorem only_withGlare {v} (hm : Part.glare ∈ ps) (h : s0.Only fs ps s) : s0.Only fs ps (s.withGlare v) :=
  ⟨fun g hg => h.fields g hg, partsWithin_trans h.parts (by constructor <;> first | exact fun _ => rfl | exact fun x => absurd hm x)⟩

theorem only_withLanes {v} (hm : Part.lanes ∈ ps) (h : s0.Only fs ps s) : s0.Only fs ps (s.withLanes v) :=
  ⟨fun g hg => h.fields g hg, partsWithin_trans h.parts (by constructor <;> first | exact fun _ => rfl | exact fun x => absurd hm x)⟩

theorem only_withTln {v} (hm : Part.tln ∈ ps) (h : s0.Only fs ps s) : s0.Only fs ps (s.withTln v) :=
  ⟨fun g hg => h.fields g hg, partsWithin_trans h.parts (by constructor <;> first | exact fun _ => rfl | exact fun x => absurd hm x)⟩

theorem only_withGov {v} (hm : Part.gov ∈ ps) (h : s0.Only fs ps s) : s0.Only fs ps (s.withGov v) :=
  ⟨fun g hg => h.fields g hg, partsWithin_trans h.parts (by constructor <;> first | exact fun _ => rfl | exact fun x => absurd hm x)⟩

theorem only_withCal {v} (hm : Part.cal ∈ ps) (h : s0.Only fs ps s) : s0.Only fs ps (s.withCal v) :=
  ⟨fun g hg => h.fields g hg, partsWithin_trans h.parts (by constructor <;> first | exact fun _ => rfl | exact fun x => absurd hm x)⟩

theorem only_withFlx {v} (hm : Part.flx ∈ ps) (h : s0.Only fs ps s) : s0.Only fs ps (s.withFlx v) :=
  ⟨fun g hg => h.fields g hg, partsWithin_trans h.parts (by constructor <;> first | exact fun _ => rfl | exact fun x => absurd hm x)⟩

theorem only_withSeg {v} (hm : Part.seg ∈ ps) (h : s0.Only fs ps s) : s0.Only fs ps (s.withSeg v) :=
  ⟨fun g hg => h.fields g hg, partsWithin_trans h.parts (by constructor <;> first | exact fun _ => rfl | exact fun x => absurd hm x)⟩

theorem only_withThm {v} (hm : Part.thm ∈ ps) (h : s0.Only fs ps s) : s0.Only fs ps (s.withThm v) :=
  ⟨fun g hg => h.fields g hg, partsWithin_trans h.parts (by constructor <;> first | exact fun _ => rfl | exact fun x => absurd hm x)⟩

theorem only_withPwr {v} (hm : Part.pwr ∈ ps) (h : s0.Only fs ps s) : s0.Only fs ps (s.withPwr v) :=
  ⟨fun g hg => h.fields g hg, partsWithin_trans h.parts (by constructor <;> first | exact fun _ => rfl | exact fun x => absurd hm x)⟩

theorem only_withSec {v} (hm : Part.sec ∈ ps) (h : s0.Only fs ps s) : s0.Only fs ps (s.withSec v) :=
  ⟨fun g hg => h.fields g hg, partsWithin_trans h.parts (by constructor <;> first | exact fun _ => rfl | exact fun x => absurd hm x)⟩

theorem only_withFus {v} (hm : Part.fus ∈ ps) (h : s0.Only fs ps s) : s0.Only fs ps (s.withFus v) :=
  ⟨fun g hg => h.fields g hg, partsWithin_trans h.parts (by constructor <;> first | exact fun _ => rfl | exact fun x => absurd hm x)⟩

theorem only_withUpd {v} (hm : Part.upd ∈ ps) (h : s0.Only fs ps s) : s0.Only fs ps (s.withUpd v) :=
  ⟨fun g hg => h.fields g hg, partsWithin_trans h.parts (by constructor <;> first | exact fun _ => rfl | exact fun x => absurd hm x)⟩

theorem only_withReadData {v} (hm : Part.readData ∈ ps) (h : s0.Only fs ps s) : s0.Only fs ps (s.withReadData v) :=
  ⟨fun g hg => h.fields g hg, partsWithin_trans h.parts (by constructor <;> first | exact fun _ => rfl | exact fun x => absurd hm x)⟩

theorem only_withFresh {v} (hm : Part.fresh ∈ ps) (h : s0.Only fs ps s) : s0.Only fs ps (s.withFresh v) :=
  ⟨fun g hg => h.fields g hg, partsWithin_trans h.parts (by constructor <;> first | exact fun _ => rfl | exact fun x => absurd hm x)⟩

end Sys2Proof.Laws
end

