-- ==== Sys2Proof/Laws/Raise.lean ====
section
/-! SUPPORT. What raising a fault and taking a trigger leave: the source is pending, the device locked out, and which fields stand. -/

namespace Sys2Proof.Laws

open Sys2Proof.Machine

/-- A field shares no bit with any of a list. -/
def clear (l : List Fld) (f : Fld) : Bool := l.all (fun x => x.apart f)

theorem clear_apart {l : List Fld} {f x : Fld} (h : clear l f = true) (hx : x ∈ l) : x.apart f = true := List.all_eq_true.mp h x hx

theorem g_incSat_other (s : State) (f g : Fld) (hh : f.hi < 32) (h : f.apart g = true) : (s.incSat f).g g = s.g g := by
  unfold State.incSat
  split
  · exact g_put_other _ _ _ _ hh h
  · rfl

theorem g_inc_other (s : State) (f g : Fld) (hh : f.hi < 32) (h : f.apart g = true) : (s.inc f).g g = s.g g := g_put_other _ _ _ _ hh h

theorem g_evt_other (s : State) (f g : Fld) (hh : f.hi < 32) (h : f.apart g = true) (hq : (F.UNIT_IRQ_STAT_EVT f.page).apart g = true) :
    (s.evt f).g g = s.g g := by
  unfold State.evt
  split
  · rfl
  · rw [g_put_other _ _ _ _ (by simp [F.UNIT_IRQ_STAT_EVT]) hq, g_put_other _ _ _ _ hh h]

/-! ### Records -/

/-- The fields a lost record changes. -/
def recordFields : List Fld := [F.EVR_CNT_DROP, F.FLT_ALARM_EVR_DROP, F.EVR_EVT_DROP, F.UNIT_IRQ_STAT_EVT 0x71]

theorem loseRec_g (s : State) {f : Fld} (h : clear recordFields f = true) : s.loseRec.g f = s.g f := by
  show (((s.incSat F.EVR_CNT_DROP).put F.FLT_ALARM_EVR_DROP 1).evt F.EVR_EVT_DROP).g f = s.g f
  rw [g_evt_other _ _ _ (by decide) (clear_apart h (by simp [recordFields])) (clear_apart h (by simp [recordFields, F.EVR_EVT_DROP])),
    g_put_other _ _ _ _ (by decide) (clear_apart h (by simp [recordFields])),
    g_incSat_other _ _ _ (by decide) (clear_apart h (by simp [recordFields]))]

theorem queueRec_g (s : State) (r : EvRec) {f : Fld} (h : clear recordFields f = true) : (s.queueRec r).g f = s.g f := by
  unfold State.queueRec
  extract_lets room
  split
  · rfl
  · exact loseRec_g s h

theorem closeTracker_g (s : State) (t : Tracker) {f : Fld} (h : clear recordFields f = true) : (s.closeTracker t).g f = s.g f := by
  unfold State.closeTracker
  simp only
  split
  · rfl
  · exact queueRec_g _ _ h

theorem record_g (s : State) (r : EvRec) {f : Fld} (h : clear recordFields f = true) : (s.record r).2.g f = s.g f := by
  unfold State.record
  split
  · split
    · rfl
    · show ((State.queueRec _ r)).g f = s.g f
      rw [queueRec_g _ _ h]
      split
      · split
        · exact closeTracker_g _ _ h
        · rfl
      · rfl
  · exact queueRec_g _ _ h

theorem event_g (s : State) (code : Nat) (d : List Byte) {f : Fld} (h : clear recordFields f = true) : (s.event code d).g f = s.g f := record_g s _ h

/-! ### Triggers -/

/-- The fields a trigger changes beside the lanes of tiles that lose power. -/
def triggerFields : List Fld :=
  recordFields ++ [F.SAF_REASON_REASON, F.SAF_REASON_DETAIL, F.SAF_REASON_LAST, F.SAF_CNT_REACTIONS, F.SAF_STAT_LOCKED, F.SAF_LOCK_CNT_LOCK_CNT,
    F.SAF_FIELD_REQ, F.GOV_MODE_RELEASE, F.SAF_EVT_REACT, F.SAF_EVT_LOCK, F.UNIT_IRQ_STAT_EVT 0x68, F.SAF_STAT_FSTATE, F.SAF_SOUT_CTRL_ON,
    F.SAF_SOUT_STAT_STATE 0, F.SAF_SOUT_STAT_STATE 1]

theorem clear_record {f : Fld} (h : clear triggerFields f = true) : clear recordFields f = true := by
  simp only [clear, triggerFields, List.all_append, Bool.and_eq_true] at h ⊢
  exact h.1

theorem laneOff_g (s : State) (n : Nat) {f : Fld} (hp : groupPage f.page ≠ 0x50) : (s.laneOff n).g f = s.g f :=
  within_g (laneOff_fits (g := Foot.of [0x50] [.lanes]) s n (by decide) (fits_refl _ s)).within rfl f (by simpa [Foot.of] using hp)

theorem soutLow_g (s : State) (k : Nat) {f : Fld} (h : (F.SAF_SOUT_STAT_STATE k).apart f = true) (hh : (F.SAF_SOUT_STAT_STATE k).hi < 32)
    (hp : groupPage f.page ≠ 0x50) : (s.soutLow k).g f = s.g f := by
  unfold State.soutLow
  simp only
  have key : ∀ (l : List Nat) (u : State), (l.foldl (fun s n => if tbit (s.soutTiles k) n then s.laneOff n else s) u).g f = u.g f := by
    intro l
    induction l with
    | nil => intro u; rfl
    | cons a l ih =>
      intro u
      rw [List.foldl_cons, ih]
      split
      · exact laneOff_g _ _ hp
      · rfl
  rw [key]
  split
  · rw [g_put_other _ _ _ _ hh h]; rfl
  · rfl

theorem soutsOff_g (s : State) {f : Fld} (h : clear triggerFields f = true) (hp : groupPage f.page ≠ 0x50) : s.soutsOff.g f = s.g f := by
  unfold State.soutsOff
  rw [soutLow_g _ _ (clear_apart h (by simp [triggerFields])) (by decide) hp, soutLow_g _ _ (clear_apart h (by simp [triggerFields])) (by decide) hp,
    g_put_other _ _ _ _ (by decide) (clear_apart h (by simp [triggerFields]))]

/-- A trigger leaves every field that it does not name. -/
theorem trigger_g (s : State) (code detail : Nat) {f : Fld} (h : clear triggerFields f = true) (hp : groupPage f.page ≠ 0x50) :
    (s.trigger code detail).g f = s.g f := by
  have hr := clear_record h
  have p : ∀ (x : Fld) (u : State) (v : Nat), x ∈ triggerFields → x.hi < 32 → (u.put x v).g f = u.g f :=
    fun x u v hx hh => g_put_other _ _ _ _ hh (clear_apart h hx)
  have e : ∀ (x : Fld) (u : State), x ∈ triggerFields → F.UNIT_IRQ_STAT_EVT x.page ∈ triggerFields → x.hi < 32 → (u.evt x).g f = u.g f :=
    fun x u hx hq hh => g_evt_other _ _ _ hh (clear_apart h hx) (clear_apart h hq)
  have c : ∀ (x : Fld) (u : State), x ∈ triggerFields → x.hi < 32 → (u.incSat x).g f = u.g f :=
    fun x u hx hh => g_incSat_other _ _ _ hh (clear_apart h hx)
  unfold State.trigger State.recordReact
  split
  · split
    · rw [p _ _ _ (by simp [triggerFields]) (by decide), p _ _ _ (by simp [triggerFields]) (by decide), p _ _ _ (by simp [triggerFields]) (by decide)]
    · rfl
  · split
    · split
      · rw [p _ _ _ (by simp [triggerFields]) (by decide)]
      · rfl
    · split
      · rw [event_g _ _ _ hr]
        show (State.incSat _ _).g f = _
        rw [c _ _ (by simp [triggerFields]) (by decide), p _ _ _ (by simp [triggerFields]) (by decide)]
      · simp only
        rw [event_g _ _ _ hr]
        have base : ∀ u : State, (((u.evt F.SAF_EVT_REACT).evt F.SAF_EVT_LOCK).incSat F.SAF_CNT_REACTIONS).g f = u.g f := fun u => by
          rw [c _ _ (by simp [triggerFields]) (by decide), e _ _ (by simp [triggerFields]) (by simp [triggerFields, F.SAF_EVT_LOCK]) (by decide),
            e _ _ (by simp [triggerFields]) (by simp [triggerFields, F.SAF_EVT_REACT]) (by decide)]
        have first : ∀ u : State, ((((((u.put F.SAF_STAT_LOCKED 1).inc F.SAF_LOCK_CNT_LOCK_CNT).put F.SAF_REASON_REASON code).put F.SAF_REASON_DETAIL detail).put
            F.SAF_REASON_LAST code).put F.SAF_FIELD_REQ 0 |>.put F.GOV_MODE_RELEASE 0).g f = u.g f := fun u => by
          rw [p _ _ _ (by simp [triggerFields]) (by decide), p _ _ _ (by simp [triggerFields]) (by decide), p _ _ _ (by simp [triggerFields]) (by decide),
            p _ _ _ (by simp [triggerFields]) (by decide), p _ _ _ (by simp [triggerFields]) (by decide),
            g_inc_other _ _ _ (by decide) (clear_apart h (by simp [triggerFields])), p _ _ _ (by simp [triggerFields]) (by decide)]
        show (if _ then _ else _ : State).g f = _
        split
        · rw [base, first]
        · rw [soutsOff_g _ h hp, p _ _ _ (by simp [triggerFields]) (by decide), base, first]

theorem flintTrigger_g (s : State) (i code detail : Nat) {f : Fld} (h : clear triggerFields f = true) (hp : groupPage f.page ≠ 0x50) :
    (s.flintTrigger i code detail).g f = s.g f := by
  unfold State.flintTrigger
  split
  · rfl
  · split
    · rfl
    · exact trigger_g _ _ _ h hp

/-- A trigger that no other of its command preceded leaves the device locked out. -/
theorem trigger_locked (s : State) (code detail : Nat) (h : s.saf.trigNow = 0) : (s.trigger code detail).on F.SAF_STAT_LOCKED = true := by
  have hr : clear recordFields F.SAF_STAT_LOCKED = true := by decide
  have k : ∀ (x : Fld) (u : State) (v : Nat), x.hi < 32 → x.apart F.SAF_STAT_LOCKED = true → u.on F.SAF_STAT_LOCKED = true →
      (u.put x v).on F.SAF_STAT_LOCKED = true := fun x u v hh ha hu => by rw [on_put_other _ _ _ _ hh ha]; exact hu
  have e : ∀ (x : Fld) (u : State), x.hi < 32 → x.apart F.SAF_STAT_LOCKED = true → (F.UNIT_IRQ_STAT_EVT x.page).apart F.SAF_STAT_LOCKED = true →
      u.on F.SAF_STAT_LOCKED = true → (u.evt x).on F.SAF_STAT_LOCKED = true := fun x u hh ha hq hu => by
    simpa [State.on, g_evt_other _ _ _ hh ha hq] using hu
  have c : ∀ (x : Fld) (u : State), x.hi < 32 → x.apart F.SAF_STAT_LOCKED = true → u.on F.SAF_STAT_LOCKED = true →
      (u.incSat x).on F.SAF_STAT_LOCKED = true := fun x u hh ha hu => by simpa [State.on, g_incSat_other _ _ _ hh ha] using hu
  have o : ∀ (u : State), u.on F.SAF_STAT_LOCKED = true → (u.put F.SAF_STAT_FSTATE 4).soutsOff.on F.SAF_STAT_LOCKED = true := fun u hu => by
    have h1 : (u.put F.SAF_STAT_FSTATE 4).soutsOff.g F.SAF_STAT_LOCKED = u.g F.SAF_STAT_LOCKED := by
      unfold State.soutsOff
      rw [soutLow_g _ _ (by decide) (by decide) (by decide), soutLow_g _ _ (by decide) (by decide) (by decide),
        g_put_other _ _ _ _ (by decide) (by decide), g_put_other _ _ _ _ (by decide) (by decide)]
    simpa [State.on, h1] using hu
  have v : ∀ (u : State) (cd : Nat) (d : List Byte), u.on F.SAF_STAT_LOCKED = true → (u.event cd d).on F.SAF_STAT_LOCKED = true :=
    fun u cd d hu => by simpa [State.on, event_g _ _ _ hr] using hu
  unfold State.trigger State.recordReact
  rw [if_neg (by rw [h]; decide), if_neg (by rw [h]; decide)]
  split
  · rename_i hl
    exact v _ _ _ (c _ _ (by decide) (by decide) (k _ _ _ (by decide) (by decide) hl))
  · refine v _ _ _ ?_
    have first : ((((((((s.put F.SAF_STAT_LOCKED 1).inc F.SAF_LOCK_CNT_LOCK_CNT).put F.SAF_REASON_REASON code).put F.SAF_REASON_DETAIL detail).put
        F.SAF_REASON_LAST code).put F.SAF_FIELD_REQ 0 |>.put F.GOV_MODE_RELEASE 0).evt F.SAF_EVT_REACT).evt F.SAF_EVT_LOCK).on F.SAF_STAT_LOCKED = true := by
      refine e _ _ (by decide) (by decide) (by decide) (e _ _ (by decide) (by decide) (by decide) ?_)
      refine k _ _ _ (by decide) (by decide) (k _ _ _ (by decide) (by decide) (k _ _ _ (by decide) (by decide) ?_))
      refine k _ _ _ (by decide) (by decide) (k _ _ _ (by decide) (by decide) (k _ _ _ (by decide) (by decide) ?_))
      exact on_put_one _ _ (by decide) (by decide)
    show (if _ then _ else _ : State).on _ = true
    split
    · exact c _ _ (by decide) (by decide) first
    · exact o _ (c _ _ (by decide) (by decide) first)

/-! ### Raising -/

theorem faultIrq_g (old s : State) (l : List Nat) {f : Fld} (h : f.off % 4096 ≠ 0x18) : (State.faultIrq old s l).g f = s.g f := by
  have ap : ∀ p, (F.UNIT_IRQ_STAT_FAULT p).apart f = true := by
    intro p
    have : (F.UNIT_IRQ_STAT_FAULT p).addr ≠ f.addr := by
      simp only [Fld.addr, F.UNIT_IRQ_STAT_FAULT]
      omega
    simp [Fld.apart, this]
  have put : ∀ (u : State) (p : Nat), (u.put (F.UNIT_IRQ_STAT_FAULT p) 1).g f = u.g f := fun u p => g_put_other _ _ _ _ (by simp [F.UNIT_IRQ_STAT_FAULT]) (ap p)
  have key : ∀ (l : List Nat) (u : State), (l.foldl (fun s p => if s.faultWord p &&& (old.faultWord p ^^^ s.faultWord p) = 0 then s
      else s.put (F.UNIT_IRQ_STAT_FAULT p) 1) u).g f = u.g f := by
    intro l
    induction l with
    | nil => intro u; rfl
    | cons a l ih =>
      intro u
      rw [List.foldl_cons, ih]
      split
      · rfl
      · exact put _ _
  unfold State.faultIrq
  extract_lets x
  split
  · exact key l s
  · rw [put]; exact key l s

theorem fltPend_clear {i : Nat} (hi : i < 75) : clear triggerFields (fltPend i) = true := by
  have : ∀ j : Fin 75, clear triggerFields (fltPend j.val) = true := by decide
  exact this ⟨i, hi⟩

theorem fltPend_apart {i : Nat} (hi : i < 75) : (fltUnack i).apart (fltPend i) = true ∧ (fltLvl i).apart (fltPend i) = true := by
  have : ∀ j : Fin 75, (fltUnack j.val).apart (fltPend j.val) = true ∧ (fltLvl j.val).apart (fltPend j.val) = true := by decide
  exact this ⟨i, hi⟩

theorem setPending_pend (s : State) {i : Nat} (inst eff : Nat) (esc inj : Bool) (hi : i < 75) : (s.setPending i inst eff esc inj).on (fltPend i) = true := by
  unfold State.setPending
  extract_lets old was f st u v
  have h1 : (State.faultIrq old (v.put (fltLvl i) (max (v.g (fltLvl i)) eff)) (let q := srcPage i inst; if groupPage q = q then [q] else [groupPage q, q])).g (fltPend i)
      = 1 := by
    rw [faultIrq_g _ _ _ (by simp only [fltPend]; omega), g_put_other _ _ _ _ (by simp only [fltLvl]; omega) (fltPend_apart hi).2]
    show ((u.put (fltPend i) 1).put (fltUnack i) 1).g (fltPend i) = 1
    rw [g_put_other _ _ _ _ (by simp only [fltUnack]; omega) (fltPend_apart hi).1, g_put_same _ _ _ (by simp only [fltPend]; omega) (by simp only [fltPend]; omega)]
    simp [fltPend]
  simpa [State.on] using h1

/-- A fault whose level is not IGNORED leaves its source pending. -/
theorem raiseWith_pend (s : State) {i : Nat} (inst addr : Nat) (inj trig : Bool) (hi : i < 75) (hd : s.defLevel i ≠ 0) :
    (s.raiseWith i inst addr inj trig).on (fltPend i) = true := by
  unfold State.raiseWith
  extract_lets d esc e s1
  split
  rename_i coal s2 _
  extract_lets s3 s4 s5 s6
  have he : e ≠ 0 := by
    show (if esc then min 3 (d + 1) else d) ≠ 0
    split
    · omega
    · exact hd
  have h6 : s6.on (fltPend i) = true := by
    show (if e = 0 then s5 else s5.setPending i inst e esc inj).on (fltPend i) = true
    rw [if_neg he]
    exact setPending_pend _ _ _ _ _ hi
  split
  · have := flintTrigger_g s6 i 12 (srcCode i / 256) (fltPend_clear hi) (by simp [fltPend, groupPage])
    simpa [State.on, this] using h6
  · exact h6

theorem raise_pend (s : State) {i : Nat} (inst : Nat) (hi : i < 75) (hd : s.defLevel i ≠ 0) : (s.raise i inst).on (fltPend i) = true :=
  raiseWith_pend s inst 0 false false hi hd

/-- Without a trigger of its own a fault leaves the safety domain as it was. -/
theorem raiseWith_saf (s : State) (i inst addr : Nat) (inj : Bool) : (s.raiseWith i inst addr inj true).saf = s.saf := by
  unfold State.raiseWith
  extract_lets d esc e fl s1
  have h1 : s1.saf = s.saf := by
    show (if srcHeld i then _ else s : State).saf = s.saf
    split <;> rfl
  split
  rename_i coal s2 heq
  have h2 : s2.saf = s1.saf := by
    have := within_saf (record_fits (g := Foot.of [0x70, 0x71] [.evr]) s1 (s1.faultRec i inst addr d e esc false inj) (by decide) (fits_refl _ _)).within rfl rfl
    rw [heq] at this; exact this
  extract_lets s3 s4 s5 s6
  have h3 : s3.saf = s2.saf := by
    show (if coal then s2 else _ : State).saf = s2.saf
    split
    · rfl
    · exact within_saf (history_fits (g := Foot.of [0x70, 0x71] [.evr]) _ _ _ _ _ _ (by decide) (fits_refl _ _)).within rfl rfl
  have h4 : s4.saf = s3.saf := within_saf (alarmLevel_fits (g := Foot.of [0x70] []) _ _ (by decide) (fits_refl _ _)).within rfl rfl
  have h5 : s5.saf = s4.saf := by
    show (if esc then _ else s4 : State).saf = s4.saf
    split <;> simp
  have h6 : s6.saf = s5.saf := by
    show (if e = 0 then s5 else s5.setPending i inst e esc inj).saf = s5.saf
    split
    · rfl
    · unfold State.setPending
      extract_lets old was f st u v
      have key : ∀ (x y : State) (l : List Nat), (State.faultIrq x y l).saf = y.saf := by
        intro x y l
        have fold : ∀ (l : List Nat) (u : State), (l.foldl (fun s p => if s.faultWord p &&& (x.faultWord p ^^^ s.faultWord p) = 0 then s
            else s.put (F.UNIT_IRQ_STAT_FAULT p) 1) u).saf = u.saf := by
          intro l
          induction l with
          | nil => intro u; rfl
          | cons a l ih => intro u; rw [List.foldl_cons, ih]; split <;> simp
        unfold State.faultIrq
        extract_lets z
        split
        · exact fold l y
        · simp only [put_saf]; exact fold l y
      rw [key]; simp [v, u]
  rw [if_neg (by simp)]
  rw [h6, h5, h4, h3, h2, h1]

/-- A field that no fault touches: outside FLT, EVR and the lanes, none of a trigger's, and not in UNIT_IRQ_STAT. -/
def quietField (f : Fld) : Bool :=
  clear triggerFields f && f.page != 0x70 && f.page != 0x71 && groupPage f.page != 0x50 && f.off % 4096 != 0x18

theorem page_group {f : Fld} (h0 : f.page ≠ 0x70) (h1 : f.page ≠ 0x71) : groupPage f.page ≠ 0x70 ∧ groupPage f.page ≠ 0x71 := by
  unfold groupPage
  repeat' split
  all_goals first | exact ⟨h0, h1⟩ | decide

/-- A fault leaves a quiet field as it was. -/
theorem raiseWith_g (s : State) (i inst addr : Nat) (inj trig : Bool) {f : Fld} (h : quietField f = true) :
    (s.raiseWith i inst addr inj trig).g f = s.g f := by
  simp only [quietField, Bool.and_eq_true, bne_iff_ne, ne_eq] at h
  obtain ⟨⟨⟨⟨hc, hp0⟩, hp1⟩, hl⟩, ho⟩ := h
  have hg := page_group hp0 hp1
  have hu : (Foot.of [0x70, 0x71] [.evr]).units.contains (groupPage f.page) = false := by simpa [Foot.of] using hg
  have hu' : (Foot.of [0x70] ([] : List Part)).units.contains (groupPage f.page) = false := by simpa [Foot.of] using hg.1
  have ap : ∀ x : Fld, x.page = 0x70 → x.apart f = true := by
    intro x hx
    have : x.addr ≠ f.addr := by simp only [Fld.addr, hx]; omega
    simp [Fld.apart, this]
  unfold State.raiseWith
  extract_lets d esc e fl s1
  have h1 : s1.g f = s.g f := by
    show (if srcHeld i then _ else s : State).g f = s.g f
    split <;> rfl
  split
  rename_i coal s2 heq
  have h2 : s2.g f = s1.g f := by
    have := within_g (record_fits (g := Foot.of [0x70, 0x71] [.evr]) s1 (s1.faultRec i inst addr d e esc false inj) (by decide) (fits_refl _ _)).within rfl f hu
    rw [heq] at this; exact this
  extract_lets s3 s4 s5 s6
  have h3 : s3.g f = s2.g f := by
    show (if coal then s2 else _ : State).g f = s2.g f
    split
    · rfl
    · exact within_g (history_fits (g := Foot.of [0x70] []) _ _ _ _ _ _ (by decide) (fits_refl _ _)).within rfl f hu'
  have h4 : s4.g f = s3.g f := within_g (alarmLevel_fits (g := Foot.of [0x70] []) _ _ (by decide) (fits_refl _ _)).within rfl f hu'
  have h5 : s5.g f = s4.g f := by
    show (if esc then _ else s4 : State).g f = s4.g f
    split
    · rw [g_put_other _ _ _ _ (by decide) (ap _ rfl), g_incSat_other _ _ _ (by decide) (ap _ rfl)]
    · rfl
  have h6 : s6.g f = s5.g f := by
    show (if e = 0 then s5 else s5.setPending i inst e esc inj).g f = s5.g f
    split
    · rfl
    · unfold State.setPending
      extract_lets old was fl st u v
      rw [faultIrq_g _ _ _ ho, g_put_other _ _ _ _ (by simp only [fltLvl]; omega) (ap _ rfl)]
      show ((u.put (fltPend i) 1).put (fltUnack i) 1).g f = s5.g f
      rw [g_put_other _ _ _ _ (by simp only [fltUnack]; omega) (ap _ rfl), g_put_other _ _ _ _ (by simp only [fltPend]; omega) (ap _ rfl)]
      rfl
  split
  · rw [flintTrigger_g _ _ _ _ hc hl, h6, h5, h4, h3, h2, h1]
  · rw [h6, h5, h4, h3, h2, h1]

theorem raise_g (s : State) (i inst : Nat) {f : Fld} (h : quietField f = true) : (s.raise i inst).g f = s.g f := raiseWith_g s i inst 0 false false h

theorem raiseTrig_g (s : State) (i inst code detail : Nat) (flint : Bool) {f : Fld} (h : quietField f = true) :
    (s.raiseTrig i inst code detail flint).g f = s.g f := by
  have hr := raiseWith_g s i inst 0 false true h
  simp only [quietField, Bool.and_eq_true, bne_iff_ne, ne_eq] at h
  obtain ⟨⟨⟨⟨hc, -⟩, -⟩, hl⟩, -⟩ := h
  unfold State.raiseTrig
  extract_lets u
  split
  · rw [flintTrigger_g _ _ _ _ hc hl]; exact hr
  · rw [trigger_g _ _ _ hc hl]; exact hr

/-- A fault with a trigger of the safety domain's own leaves the device locked out. -/
theorem raiseTrig_locked (s : State) (i inst code detail : Nat) (h : s.saf.trigNow = 0) :
    (s.raiseTrig i inst code detail false).on F.SAF_STAT_LOCKED = true := by
  have hs : (s.raiseWith i inst 0 false true).saf.trigNow = 0 := by rw [raiseWith_saf]; exact h
  unfold State.raiseTrig
  rw [if_neg (by decide)]
  exact trigger_locked _ _ _ hs

/-- A fault with a trigger leaves its source pending. -/
theorem raiseTrig_pend (s : State) {i : Nat} (inst code detail : Nat) (flint : Bool) (hi : i < 75) (hd : s.defLevel i ≠ 0) :
    (s.raiseTrig i inst code detail flint).on (fltPend i) = true := by
  have h := raiseWith_pend s inst 0 false true hi hd
  unfold State.raiseTrig
  extract_lets u
  split
  · have := flintTrigger_g u i code detail (fltPend_clear hi) (by simp [fltPend, groupPage])
    simpa [State.on, this] using h
  · have := trigger_g u code detail (fltPend_clear hi) (by simp [fltPend, groupPage])
    simpa [State.on, this] using h

end Sys2Proof.Laws
end

