-- ==== Sys2Proof/Laws/Release.lean ====
section
/-! SUPPORT. The release of a reset: what the boot steps it starts leave of the reset unit's hidden state. -/

namespace Sys2Proof.Laws

open Sys2Proof.Machine

theorem raise_rst (s : State) (i inst : Nat) : (s.raise i inst).rst = s.rst := by
  have h := raise_fits (g := ⟨false, groupPage (srcPage i inst) :: [0x00, 0x40, 0x50, 0x68, 0x70, 0x71], [.flt, .evr, .saf, .lanes]⟩) s i inst
    (by simp [Foot.hasUnit]) (by simp [Foot.le, Foot.of]) (fits_refl _ s)
  exact within_rst h.within rfl rfl

theorem newEntry_scope (s : State) (a b c d : Nat) : (s.newEntry a b c d).rst.scope = s.rst.scope := by
  unfold State.newEntry
  extract_lets e
  split
  · split
    · show (State.withRst _ _).rst.scope = _
      rfl
    · rfl
  · rfl

theorem endEntry_scope (s : State) (a b c : Nat) : (s.endEntry a b c).rst.scope = s.rst.scope := by
  unfold State.endEntry
  extract_lets e
  split
  · exact congrArg _ (within_rst (setBytes_fits (f := Foot.of [] [.mem]) _ _ (by decide) (fits_refl _ s)).within rfl rfl)
  · rfl

theorem startPlain_scope (s : State) (c : Nat) : (s.startPlain c).rst.scope = s.rst.scope := by
  unfold State.startPlain
  extract_lets s1
  split
  · show (State.newEntry (State.raise s1 _ _) _ _ _ _).rst.scope = _
    rw [newEntry_scope, raise_rst]; simp [s1]
  · show (State.newEntry s1 _ _ _ _).rst.scope = _
    rw [newEntry_scope]; simp [s1]

theorem startStep_scope (s : State) (c : Nat) : (s.startStep c).rst.scope = s.rst.scope := by
  unfold State.startStep
  split
  · exact startPlain_scope _ _
  · split
    · rw [startPlain_scope, newEntry_scope, raise_rst]; simp
    · exact startPlain_scope _ _

theorem stepDone_scope (s : State) (d : Nat) : (s.stepDone d).rst.scope = s.rst.scope := by
  unfold State.stepDone
  extract_lets c
  rw [startStep_scope, endEntry_scope]

theorem bootRoot_scope (s : State) : s.bootRoot.rst.scope = s.rst.scope := by
  unfold State.bootRoot
  split
  · exact stepDone_scope _ _
  · rfl

/-- A release leaves no reset in progress. -/
theorem release_scope (s : State) : s.release.rst.scope = none := by
  unfold State.release
  extract_lets s1 stuck src s2 s3 s4 s5 s6
  rw [bootRoot_scope, startStep_scope]
  have h2 : s2.rst.scope = none := rfl
  have h3 : s3.rst.scope = none := by
    show (if stuck = true then s2.newEntry _ _ _ _ else s2).rst.scope = none
    split
    · rw [newEntry_scope]; exact h2
    · exact h2
  have h4 : s4.rst.scope = none := by
    show (s3.newEntry _ _ _ _).rst.scope = none
    rw [newEntry_scope]; exact h3
  have hs : s4.sampleStraps.rst.scope = none := by
    unfold State.sampleStraps
    extract_lets t d u v
    split
    · rw [newEntry_scope]; show s4.rst.scope = none; exact h4
    · rw [newEntry_scope]; simp [v, u]; exact h4
  have h5 : s5.rst.scope = none := by
    have := within_rst (bistRelease_fits (g := Foot.of [0x70, 0x71, 0x79] [.evr, .sec, .fresh]) s4.sampleStraps (by decide) (fits_refl _ _)).within rfl rfl
    show s4.sampleStraps.bistRelease.rst.scope = none
    rw [this]; exact hs
  simp [s6]; exact h5

end Sys2Proof.Laws
end

