-- ==== Sys2Proof/Laws/Resets.lean ====
section
/-! SUPPORT. What a cold and a warm reset leave, said once for all their sources. -/

namespace Sys2Proof.Laws

open Sys2Proof.Machine

/-! ### Banks and memories after a filter -/

theorem tabGet_keep {β : Type} {d : Nat → β} (l : List (Nat × β)) (p : Nat → Bool) (a : Nat) (h : p a = true) :
    tabGet d (l.filter (fun e => p e.1)) a = tabGet d l a := by
  induction l with
  | nil => rfl
  | cons e t ih =>
    obtain ⟨k, v⟩ := e
    by_cases hk : p k = true
    · simp only [List.filter_cons, hk, if_true]
      by_cases ha : k = a
      · simp [tabGet, ha]
      · simp only [tabGet, ih]
    · simp only [List.filter_cons, hk, Bool.false_eq_true, if_false, ih]
      have : k ≠ a := fun x => hk (x ▸ h)
      simp [tabGet, this]

theorem tabGet_gone {β : Type} {d : Nat → β} (l : List (Nat × β)) (p : Nat → Bool) (a : Nat) (h : p a = false) :
    tabGet d (l.filter (fun e => p e.1)) a = d a := by
  induction l with
  | nil => rfl
  | cons e t ih =>
    obtain ⟨k, v⟩ := e
    by_cases hk : p k = true
    · simp only [List.filter_cons, hk, if_true]
      have : k ≠ a := fun x => by rw [x, h] at hk; cases hk
      simp [tabGet, this, ih]
    · simp only [List.filter_cons, hk, Bool.false_eq_true, if_false, ih]

/-- An address below every listed one is not listed. -/
theorem tabGet_below {β : Type} {d : Nat → β} {l : List (Nat × β)} {a : Nat} (h : l.all (fun e => decide (a < e.1)) = true) : tabGet d l a = d a := by
  induction l with
  | nil => rfl
  | cons e u iu =>
    obtain ⟨j, w⟩ := e
    simp only [List.all_cons, Bool.and_eq_true, decide_eq_true_eq] at h
    simp only [tabGet, Nat.ne_of_gt h.1, if_false]
    exact iu h.2

/-- A register after the bits of a mask have been set to their reset values. -/
theorem word_resetBank (mask : Nat → Word) (l : List (Nat × Word)) (a : Nat) (hw : tabWf resetWord l = true) :
    tabGet resetWord (resetBank mask l) a = (tabGet resetWord l a &&& ~~~ (mask a)) ||| (resetWord a &&& mask a) := by
  have same : (resetWord a &&& ~~~ (mask a)) ||| (resetWord a &&& mask a) = resetWord a := by
    apply BitVec.eq_of_getLsbD_eq; intro i hi
    simp only [BitVec.getLsbD_or, BitVec.getLsbD_and, BitVec.getLsbD_not]
    cases (resetWord a).getLsbD i <;> cases (mask a).getLsbD i <;> simp [hi]
  unfold resetBank
  induction l with
  | nil => simp only [List.map_nil, List.filter_nil, tabGet]; exact same.symm
  | cons e t ih =>
    obtain ⟨k, v⟩ := e
    simp only [tabWf, Bool.and_eq_true, decide_eq_true_eq] at hw
    obtain ⟨⟨_, hg⟩, ht⟩ := hw
    have ih := ih ht
    simp only [List.map_cons, List.filter_cons]
    by_cases hk : k = a
    · subst hk
      split
      · simp [tabGet]
      · rename_i h
        simp only [ne_eq, decide_not, Bool.not_eq_eq_eq_not, Bool.not_true, decide_eq_false_iff_not, Decidable.not_not] at h
        rw [ih]
        rw [tabGet_below hg, same]
        simp only [tabGet, if_true, h]
    · split
      · simp only [tabGet, hk, if_false, ih]
      · simp only [tabGet, hk, if_false, ih]

end Sys2Proof.Laws
end

