-- ==== Sys2Proof/WellFormed.lean ====
section
/-! DEFINITION. Which terms of Instr name something the hardware has: links, tiles, bands, masters and widths within the spec's ranges. -/

namespace Sys2Proof

/-- A master of R519: two link engines, eight beam engines. -/
def Master.wf : Master → Bool
  | .link l => decide (l < 2)
  | .beam n => decide (n < 8)
  | _ => true

/-- The operands of a command are within the ranges the spec gives them. -/
def Instr.wf : Instr → Bool
  | .pmicPgRise _ => true
  | .pgLoss _ => true
  | .supplyLow => true
  | .por => true
  | .thmCritTrip => true
  | .thmCritRelease _ => true
  | .rstNLow => true
  | .rstNRelease _ => true
  | .pinDeep => true
  | .rstStuckTimeout _ => true
  | .stuckIgnoreEnd => true
  | .rstCmdWrite m _ _ => m.wf
  | .wdtAppEnable m _ => m.wf
  | .wdtKick m _ => m.wf
  | .wdtAppExpiry _ => true
  | .blkReset m page => m.wf && decide (page < 0x8D)
  | .blockResetEnd page => decide (page < 0x8D)
  | .quiescenceEnd page => decide (page < 0x8D)
  | .rcStart fail => decide (fail ≤ 4)
  | .rcRetry => true
  | .refCdrLock => true
  | .acqTmoExpiry => true
  | .rootLoopLock => true
  | .acquireTimeout => true
  | .dividersRunning => true
  | .referenceLoss => true
  | .clkRefCmd m _ => m.wf
  | .linkEligible => true
  | .freqWindowEnd l _ => decide (l < 2)
  | .muxSwitch wait => decide (wait < 64)
  | .forcedSwitch => true
  | .slewLock => true
  | .holdoverExpiry => true
  | .stoppingGate => true
  | .monitorWindowEnd _ _ _ _ _ => true
  | .rcCheckWindowEnd _ => true
  | .signalDetect l => decide (l < 3)
  | .cdrLock l => decide (l < 3)
  | .cdrLockTimeout l => decide (l < 3)
  | .commaAlign l => decide (l < 3)
  | .trainingDone l => decide (l < 2)
  | .trainingTimeout l => decide (l < 3)
  | .tsReceived l => decide (l < 3)
  | .alignmentLoss l => decide (l < 3)
  | .lossOfSignal l => decide (l < 3)
  | .cdrLossOfLock l => decide (l < 3)
  | .skp l _ => decide (l < 3)
  | .ltm l _ => decide (l < 2)
  | .lctlTime l _ => decide (l < 2)
  | .lctlWake l _ => decide (l < 2)
  | .workFrame l _ => decide (l < 2)
  | .resume l => decide (l < 2)
  | .packetStore l copies => decide (l < 3) && decide (copies < 4)
  | .storeTimeout l => decide (l < 2)
  | .gapHoldExpiry l ch => decide (l < 2) && decide (ch < 4)
  | .doneFrame ch copies => decide (ch < 4) && decide (copies < 4)
  | .controlConsume _ => true
  | .layerConsume _ => true
  | .regRead l _ => decide (l < 2)
  | .regWrite l _ => decide (l < 2)
  | .regModify l _ => decide (l < 2)
  | .statusFrame l => decide (l < 2)
  | .devStatus => true
  | .ltValidTimeout => true
  | .safeFrame l _ => decide (l < 2)
  | .pendingExpiry l => decide (l < 2)
  | .csfStaleTimeout => true
  | .profileChange => true
  | .sideTrainingDone => true
  | .phaseFrame _ => true
  | .seamFrame _ => true
  | .sstatFrame _ => true
  | .sideRxTimeout => true
  | .sstatSend => true
  | .latchPoint => true
  | .bandSlot k _ => decide (k < 16)
  | .bandRelease k _ => decide (k < 16)
  | .regionPush n => decide (n < 8)
  | .regionRecompute _ => true
  | .reportTimeout n => decide (n < 8)
  | .pushDeadline => true
  | .flipCommit => true
  | .flip => true
  | .objectCutoff _ => true
  | .kernelBandRender n b _ band _ => decide (n < 8) && decide (b < 16) && band.length = 16384
  | .kernelOverrun n b _ _ => decide (n < 8) && decide (b < 16)
  | .glrKload m _ => m.wf
  | .kernelVerifyDone slot _ => decide (slot < 2)
  | .lightSleepEntry bank => decide (bank < 32)
  | .lightSleepWake bank _ => decide (bank < 32)
  | .digestCheck _ ecc => decide (ecc < 3)
  | .interpCmd m _ => m.wf
  | .interpDone tile => decide (tile < 8)
  | .trimCmd m _ => m.wf
  | .trimDone _ => true
  | .fluxRecordWrite => true
  | .tsbRound slots _ _ => slots.length = 8 && slots.all (· < 16)
  | .assignTimeout n => decide (n < 8)
  | .tsbStatus n _ => decide (n < 8)
  | .tsbUidLo n _ => decide (n < 8)
  | .tsbUidHi n _ => decide (n < 8)
  | .tsbCap n _ => decide (n < 8)
  | .identTimeout n => decide (n < 8)
  | .laneSerialiserReady n => decide (n < 8)
  | .laneTrainDone n => decide (n < 8)
  | .laneScheduledWake => true
  | .laneDead n => decide (n < 8)
  | .tempInvalidTimeout n => decide (n < 8)
  | .coolDownComplete n => decide (n < 8)
  | .fsyncEdge => true
  | .fsyncLost => true
  | .segIdent a => decide (a < 64)
  | .segConfig a => decide (a < 64)
  | .segSet a _ => decide (a < 64)
  | .segPoll a _ => decide (a < 64)
  | .segLatch _ => true
  | .segAllOff => true
  | .segResponse _ => true
  | .segResponseTimeout => true
  | .scanRowSlot => true
  | .sinFilterExpiry n _ => decide (n < 4)
  | .sinHealthyFilter n => decide (n < 4)
  | .sinDiscrepancyTimeout n => decide (n < 4)
  | .testPulseStart n levels => decide (n < 4) && levels.length = 8
  | .testPulseEnd levels => levels.length = 8
  | .offPulseStart k => decide (k < 2)
  | .offPulseEnd k _ => decide (k < 2)
  | .soutReadbackFault k _ => decide (k < 2)
  | .soutFaultClear k => decide (k < 2)
  | .tilePowerUp k => decide (k < 2)
  | .flintEvaluation => true
  | .safReact m _ => m.wf
  | .safUnlock m _ => m.wf
  | .flintWdtKick m _ => m.wf
  | .flintWdtExpiry _ => true
  | .lockstepMismatch => true
  | .fokReadbackMismatch => true
  | .faultAck m r _ => m.wf && decide (r < 3)
  | .faultClear m r _ => m.wf && decide (r < 3)
  | .injectArm m _ => m.wf
  | .injectCancel m _ => m.wf
  | .trackerClose => true
  | .recordWrite => true
  | .mirrorPageWrite _ => true
  | .checkpoint => true
  | .checkpointFlash => true
  | .attestCommit m => m.wf
  | .recordRead m _ => m.wf
  | .housekeepingRoundStart => true
  | .housekeepingRoundEnd _ => true
  | .roundTimeout => true
  | .pwrReqIdle m _ => m.wf
  | .idleWake => true
  | .pwrReqSleep m _ => m.wf
  | .pwrReqDeep m _ => m.wf
  | .pwrReqOff m _ => m.wf
  | .flintPrepConfirm _ => true
  | .prepTimeout => true
  | .pmicAck _ => true
  | .ackTimeout => true
  | .deepExit _ _ => true
  | .wakeRequest => true
  | .wakeTimer => true
  | .pmbAlert word _ => decide (word < 65536)
  | .pmbStatusPoll word _ => decide (word < 65536)
  | .padRelease m _ => m.wf
  | .idcode => true
  | .samplePreload _ => true
  | .extest => true
  | .authNonce => true
  | .authResp resp => resp.length = 132
  | .authCheckDone _ => true
  | .authStat => true
  | .rcStat => true
  | .bus _ a _ => decide (a < 2 ^ 32)
  | .scan => true
  | .reset _ => true
  | .bypass => true
  | .trstNLow => true
  | .nonceExpiry => true
  | .worldWrite m page _ => m.wf && decide (page < 0x8D)
  | .lcRequest m _ => m.wf
  | .secretClearDone _ => true
  | .lbistStart m _ => m.wf
  | .lbistEnd _ => true
  | .lbistTimeout => true
  | .mbistRequest m _ => m.wf
  | .fuseProgram m _ => m.wf
  | .fuseProgramDone _ => true
  | .updWrite _ => true
  | .updVerify _ => true
  | .verifyDone _ => true
  | .updActivate _ => true
  | .restartReset => true
  | .updConfirm _ => true
  | .trialTimeout => true
  | .fuseLoad _ _ => true
  | .mbist _ => true
  | .journal => true
  | .mainImage _ _ => true
  | .granite _ _ _ => true
  | .settings _ => true
  | .profile _ => true
  | .calib _ => true
  | .kernels _ => true
  | .links copies => decide (copies < 4)
  | .tiles => true
  | .safeReady => true
  | .firstLight => true
  | .bootTimeout _ => true
  | .epochSave => true
  | .clrAvoid m _ => m.wf
  | .mirrorNow m _ => m.wf
  | .unitCommit m page _ => m.wf && decide (page < 0x8D)
  | .discard m page _ => m.wf && decide (page < 0x8D)
  | .registerWrite m a _ => m.wf && decide (a < 2 ^ 32)
  | .spiStatus => true
  | .spiRead a _ => decide (a < 2 ^ 32)
  | .spiWrite a _ => decide (a < 2 ^ 32)
  | .pktWrite _ _ _ => true
  | .rspRead => true
  | .testModeHigh => true
  | .memoryBistEnd _ _ => true
  | .wakeRelease => true
  | .registerRead m a size ecc => m.wf && decide (a < 2 ^ 32) && (size = 1 || size = 2 || size = 4) && decide (ecc < 3)
  | .memoryWrite m a bytes => m.wf && decide (a < 2 ^ 32) && (bytes.length = 1 || bytes.length = 2 || bytes.length = 4)
  | .graniteCopyDone => true

end Sys2Proof
end

