-- ==== Sys2Proof/Tests/Slice0.lean ====
section
/-! SUPPORT. Tests: what WellFormed refuses; check values and worked numbers from outside the model; and for every statement with hypotheses, a state and
operands that meet the hypotheses of each of its clauses. -/

set_option Elab.async false

namespace Sys2Proof.Tests
open Sys2Proof Sys2Proof.Machine

/-! ### Ill-formed operands are refused: at least one term for each check of Instr.wf -/

theorem test_wf_refuses_a : ([
    .rstCmdWrite (.link 2) 0 .default_,
    .wdtAppEnable (.link 2) 0,
    .wdtKick (.link 2) 0,
    .blkReset (.link 2) 0,
    .blkReset .app (0x8D),
    .blockResetEnd (0x8D),
    .quiescenceEnd (0x8D),
    .rcStart 5,
    .clkRefCmd (.link 2) 0,
    .freqWindowEnd (2) 0,
    .muxSwitch (64),
    .signalDetect (3),
    .cdrLock (3),
    .cdrLockTimeout (3),
    .commaAlign (3),
    .trainingDone (2),
    .trainingTimeout (3),
    .tsReceived (3),
    .alignmentLoss (3),
    .lossOfSignal (3),
    .cdrLossOfLock (3),
    .skp (3) 0,
    .ltm (2) 0,
    .lctlTime (2) ⟨[], false, false⟩,
    .lctlWake (2) ⟨[], false, false⟩,
    .workFrame (2) ⟨[], false, false⟩,
    .resume (2),
    .packetStore (3) 0,
    .packetStore 0 (4),
    .storeTimeout (2),
    .gapHoldExpiry (2) 0,
    .gapHoldExpiry 0 (4),
    .doneFrame (4) 0,
    .doneFrame 0 (4),
    .regRead (2) ⟨[], false, false⟩,
    .regWrite (2) ⟨[], false, false⟩,
    .regModify (2) ⟨[], false, false⟩,
    .statusFrame (2),
    .safeFrame (2) ⟨[], false, false⟩,
    .pendingExpiry (2)] : List Instr).all (fun i => !i.wf) = true := by decide +kernel

theorem test_wf_refuses_b : ([
    .bandSlot (16) [],
    .bandRelease (16) .none_,
    .regionPush (8),
    .reportTimeout (8),
    .kernelBandRender (8) 0 0 (List.replicate 16384 0) true,
    .kernelBandRender 0 (16) 0 (List.replicate 16384 0) true,
    .kernelBandRender 0 0 0 [] true,
    .kernelOverrun (8) 0 true true,
    .kernelOverrun 0 (16) true true,
    .glrKload (.link 2) 0,
    .kernelVerifyDone (2) true,
    .lightSleepEntry (32),
    .lightSleepWake (32) true,
    .digestCheck true (3),
    .interpCmd (.link 2) 0,
    .interpDone (8),
    .trimCmd (.link 2) 0,
    .tsbRound [] true true,
    .tsbRound (List.replicate 8 16) true true,
    .assignTimeout (8),
    .tsbStatus (8) 0,
    .tsbUidLo (8) 0,
    .tsbUidHi (8) 0,
    .tsbCap (8) 0,
    .identTimeout (8),
    .laneSerialiserReady (8),
    .laneTrainDone (8),
    .laneDead (8),
    .tempInvalidTimeout (8),
    .coolDownComplete (8),
    .segIdent (64),
    .segConfig (64),
    .segSet (64) true,
    .segPoll (64) true,
    .sinFilterExpiry (4) true,
    .sinHealthyFilter (4),
    .sinDiscrepancyTimeout (4),
    .testPulseStart (4) (List.replicate 8 true),
    .testPulseStart 0 [],
    .testPulseEnd []] : List Instr).all (fun i => !i.wf) = true := by decide +kernel

theorem test_wf_refuses_c : ([
    .offPulseStart (2),
    .offPulseEnd (2) true,
    .soutReadbackFault (2) true,
    .soutFaultClear (2),
    .tilePowerUp (2),
    .safReact (.link 2) 0,
    .safUnlock (.link 2) 0,
    .flintWdtKick (.link 2) 0,
    .faultAck (.link 2) 0 0,
    .faultAck .app (3) 0,
    .faultClear (.link 2) 0 0,
    .faultClear .app (3) 0,
    .injectArm (.link 2) 0,
    .injectCancel (.link 2) 0,
    .attestCommit (.link 2),
    .recordRead (.link 2) 0,
    .pwrReqIdle (.link 2) 0,
    .pwrReqSleep (.link 2) 0,
    .pwrReqDeep (.link 2) 0,
    .pwrReqOff (.link 2) 0,
    .pmbAlert (65536) true,
    .pmbStatusPoll (65536) true,
    .padRelease (.link 2) 0,
    .authResp [],
    .bus true (2 ^ 32) 0,
    .worldWrite (.link 2) 0 0,
    .worldWrite .app (0x8D) 0,
    .lcRequest (.link 2) 0,
    .lbistStart (.link 2) 0,
    .mbistRequest (.link 2) 0,
    .fuseProgram (.link 2) 0,
    .links (4),
    .clrAvoid (.link 2) 0,
    .mirrorNow (.link 2) 0,
    .unitCommit (.link 2) 0 0,
    .unitCommit .app (0x8D) 0,
    .discard (.link 2) 0 0,
    .discard .app (0x8D) 0,
    .registerWrite (.link 2) 0 0,
    .registerWrite .app (2 ^ 32) 0] : List Instr).all (fun i => !i.wf) = true := by decide +kernel

theorem test_wf_refuses_d : ([
    .spiRead (2 ^ 32) 0,
    .spiWrite (2 ^ 32) [],
    .registerRead (.link 2) 0 1 0,
    .registerRead .app (2 ^ 32) 1 0,
    .registerRead .app 0 3 0,
    .registerRead .app 0 1 (3),
    .memoryWrite (.link 2) 0 (List.replicate 1 0),
    .memoryWrite .app (2 ^ 32) (List.replicate 1 0),
    .memoryWrite .app 0 []] : List Instr).all (fun i => !i.wf) = true := by decide +kernel

/-- Operands at the top of their ranges are accepted. -/
theorem test_wf_accepts : ([.rcStart 4, .muxSwitch 63, .signalDetect 2, .trainingDone 1, .packetStore 2 3, .bandSlot 15 [], .kernelOverrun 7 15 true false,
    .kernelVerifyDone 1 true, .lightSleepEntry 31, .segPoll 63 true, .sinHealthyFilter 3, .tilePowerUp 1, .pmbAlert 65535 true,
    .registerWrite (.beam 7) (2 ^ 32 - 1) 0, .registerRead (.link 1) 0x40000000 4 2, .unitCommit .garnet 0x8C 1] : List Instr).all Instr.wf = true := by decide +kernel

/-! ### Check values published for the codes the spec names -/

/-- The nine bytes of the usual check string, 31 to 39 in hexadecimal. -/
def nine : List Byte := [0x31, 0x32, 0x33, 0x34, 0x35, 0x36, 0x37, 0x38, 0x39]

set_option maxRecDepth 100000 in
/-- CRC-32 of IEEE 802.3 (R150). -/
theorem test_crc32 : crc32 nine = 0xCBF43926 := by decide +kernel
set_option maxRecDepth 100000 in
/-- CRC-32C (R173). -/
theorem test_crc32c : crc32c nine = 0xE3069283 := by decide +kernel
/-- CRC-16 with polynomial 0x1021 from 0xFFFF (R401). -/
theorem test_crc16 : crc16 nine = 0x29B1 := by decide +kernel
/-- SHA-256 of "abc" as FIPS 180-4 gives it. -/
theorem test_sha256 : sha256 [0x61, 0x62, 0x63] = beBytes 32 0xba7816bf8f01cfea414140de5dae2223b00361a396177a9cb410ff61f20015ad := by decide +kernel

/-! ### Numbers worked by hand from the spec's tables -/

/-- Two codes in three bytes (R363). -/
theorem test_packCodes : packCodes [0x123, 0x456] = [0x12, 0x34, 0x56] := by decide +kernel
/-- An SBC1 block between 0 and 65,535: the four indices give 0, a third, two thirds and full scale (R233). -/
theorem test_sbc1 : (List.range 4).map (fun x => sbc1 [0x00, 0x00, 0xFF, 0xFF, 0xE4, 0, 0, 0] x 0) = [0, 21845, 43690, 65535] := by decide +kernel
/-- Full coverage is 256 and half is 128 (R222). -/
theorem test_coverage : coverage 255 = 256 ∧ coverage 0 = 0 := by decide +kernel
/-- The largest value stays at code 4,095 under dither, and half a code is lifted at column 1 of row 0, where B is 8 (R240). -/
theorem test_quantise : quantise true 65535 3 2 1 = 4095 ∧ quantise true 8 0 0 0 = 0 ∧ quantise true 8 1 0 0 = 1 := by decide +kernel
/-- CLK_REF_CTRL after a cold reset: AUTO 1, ACQ_TMO 50, HOLD_MAX 10 (R112). -/
theorem test_reset_clk : State.reset.word 0x01044 = 0x000A3202 := by decide +kernel
/-- Where slots A and G-A begin (R548). -/
theorem test_slotBase : slotBase 0 = 0x60200000 ∧ slotBase 2 = 0x60A00000 := by decide +kernel
/-- A queued command runs and leaves the queue (step). -/
theorem test_step_front : (match step { State.reset with pending := [.rcRetry, .flip] } with
    | .next t => t.pending
    | _ => []) = [.flip] := by decide +kernel
/-- No word spells a command, since no row of the table has bits. -/
theorem test_no_words : decodeTableWord 32 0 = none ∧ State.reset.withFetchWord 32 0 = State.reset := ⟨rfl, rfl⟩

/-! ### States that meet the hypotheses of the statements -/

/-- Fields set one after another. -/
def put_ (s : State) (l : List (Fld × Nat)) : State := l.foldl (fun s e => s.put e.1 e.2) s

/-- The root is locked, the boot is over, and the lifecycle state is PROD. -/
def up0 : State := put_ State.reset [(F.CLK_STAT_STATE, 4), (F.CLK_STAT_ROOT_OK, 1), (F.RST_BOOT_STAT_STEP, 16), (F.RST_BOOT_STAT_PHASE, 1), (F.SEC_LC_STATE, 2)]

/-- The device runs: no reset, root locked, links served. -/
def up : State := { up0 with rst := { Rst.init with scope := none, pg := true, journalOpen := true }, quartz := { Quartz.init with rc := .running, masked := false }, cmd := { Cmd.init with served := true } }

/-- A good frame of type ft on link l. -/
def wire (l ft : Nat) (p : List Byte) : Wire := let h := [b8 (16 * ft + 1), b8 l] ++ beBytes 2 p.length ++ p; ⟨h ++ beBytes 4 (crc32 h), false, false⟩

/-- A work packet. -/
def pkt (ch epoch seq target arg : Nat) (body : List Byte) : List Byte := [b8 ch, 0] ++ beBytes 2 body.length ++ beBytes 4 epoch ++ beBytes 4 seq ++ beBytes 4 target ++ beBytes 4 arg ++ body

/-- Both links are ACTIVE, and the epoch is 7. -/
def act : State := put_ up [(F.LNK_STAT_STATE 0, 5), (F.LNK_STAT_STATE 1, 5), (F.UNIT_CTRL_ENABLE 8, 1), (F.UNIT_CTRL_ENABLE 9, 1), (F.LNK_STAT_CDR_LOCK 0, 1), (F.LNK_STAT_CDR_LOCK 1, 1), (F.LNK_STAT_SIG_DET 0, 1), (F.LNK_STAT_SIG_DET 1, 1), (F.RST_EPOCH_EPOCH, 7), (F.RST_EPOCH_STAT_SAVED, 1)]

set_option maxRecDepth 1000000 in
theorem test_hypsRcOscillatorStart :
    (∃ s : State, (s.quartz.rc = .attempt) ∧ (s.rst.scope = none))
    ∧ (∃ s : State, (s.quartz.rc = .attempt) ∧ (s.rst.scope.isSome = true) ∧ (s.rst.pg = true) ∧ (s.rst.pinHeld = false) ∧ (s.rst.thmHeld = false))
    ∧ (∃ s : State, ∃ fail : Nat, (s.quartz.rc = .attempt) ∧ (1 ≤ fail) ∧ (fail ≤ 4) ∧ (s.quartz.tries < 8))
    ∧ (∃ s : State, ∃ fail : Nat, (s.quartz.rc = .attempt) ∧ (1 ≤ fail) ∧ (fail ≤ 4) ∧ (8 ≤ s.quartz.tries) ∧ (s.root = 0))
    ∧ (∃ s : State, ∃ fail : Nat, (s.quartz.rc = .attempt) ∧ (1 ≤ fail) ∧ (fail ≤ 4) ∧ (8 ≤ s.quartz.tries) ∧ (s.root ≠ 0))
    ∧ (∃ s : State, (s.quartz.rc = .pause)) :=
  ⟨⟨{ up with quartz := { Quartz.init with rc := .attempt, tries := 1 } }, by decide +kernel⟩,
   ⟨{ State.reset with rst := { Rst.init with pg := true }, quartz := { Quartz.init with rc := .attempt, tries := 1 } }, by decide +kernel⟩,
   ⟨{ State.reset with quartz := { Quartz.init with rc := .attempt, tries := 1 } }, 1, by decide +kernel⟩,
   ⟨{ put_ up [(F.CLK_STAT_STATE, 0)] with quartz := { Quartz.init with rc := .attempt, tries := 8 } }, 1, by decide +kernel⟩,
   ⟨{ up with quartz := { Quartz.init with rc := .attempt, tries := 8 } }, 1, by decide +kernel⟩,
   ⟨{ State.reset with rst := { Rst.init with pg := true }, quartz := { Quartz.init with rc := .pause, tries := 7 } }, by decide +kernel⟩⟩

set_option maxRecDepth 1000000 in
theorem test_hypsRootAcquisition :
    (∃ s : State, (s.root = 1) ∧ (s.quartz.acq < 2) ∧ (s.rst.scope = none) ∧ (s.on (F.UNIT_CTRL_ENABLE (lnkPage s.quartz.acq)) = true))
    ∧ (∃ s : State, (s.root = 1) ∧ (s.quartz.acq < 2) ∧ (s.on F.CLK_REF_CTRL_AUTO = true))
    ∧ (∃ s : State, (s.root = 2))
    ∧ (∃ s : State, (s.root = 3))
    ∧ (∃ s : State, (s.root ≠ 1))
    ∧ (∃ s : State, (s.root ≠ 2))
    ∧ (∃ s : State, (s.root ≠ 3))
    ∧ (∃ s : State, (s.root = 5 ∨ s.root = 6 ∨ s.root = 7) ∧ (s.quartz.holdSince.isSome = true) ∧ (s.on F.SAF_STAT_LOCKED = false))
    ∧ (∃ s : State, (s.root = 8)) :=
  ⟨⟨put_ up [(F.CLK_STAT_STATE, 1), (F.CLK_STAT_ROOT_OK, 0)], by decide +kernel⟩,
   ⟨put_ up [(F.CLK_STAT_STATE, 1), (F.CLK_STAT_ROOT_OK, 0)], by decide +kernel⟩,
   ⟨put_ up [(F.CLK_STAT_STATE, 2)], by decide +kernel⟩,
   ⟨put_ up [(F.CLK_STAT_STATE, 3)], by decide +kernel⟩,
   ⟨up, by decide +kernel⟩,
   ⟨up, by decide +kernel⟩,
   ⟨up, by decide +kernel⟩,
   ⟨{ put_ up [(F.CLK_STAT_STATE, 5)] with quartz := { up.quartz with holdSince := some 0 } }, by decide +kernel⟩,
   ⟨put_ up [(F.CLK_STAT_STATE, 8)], by decide +kernel⟩⟩

namespace ReferenceSwitching
def good (n : Nat) : State := { put_ up [(F.CLK_STAT_STATE, n), (F.CLK_REF_CTRL_AUTO, 1), (F.UNIT_CTRL_ENABLE 8, 1), (F.UNIT_CTRL_ENABLE 9, 1), (F.LNK_STAT_CDR_LOCK 0, 1), (F.LNK_STAT_CDR_LOCK 1, 1)] with quartz := { up.quartz with window := [some true, some true], holdSince := some 0 } }
set_option maxRecDepth 1000000 in
theorem test_hypsReferenceSwitching :
    (∃ s : State, (s.root = 4 ∨ s.root = 7))
    ∧ (∃ s : State, (s.root = 5) ∧ (s.on F.CLK_REF_CTRL_AUTO = true) ∧ (s.eligible (1 - s.quartz.lost) = true))
    ∧ (∃ s : State, (s.root = 5) ∧ ((s.on F.CLK_REF_CTRL_AUTO && s.eligible (1 - s.quartz.lost)) = false) ∧ (s.eligible s.quartz.lost = true))
    ∧ (∃ s : State, ∃ m : Master, ∃ v : Word, (s.masterRuns m = true) ∧ (s.mayWrite m 0x01 0x48 = true) ∧ (wordField v 0 0 = 1) ∧ (s.root = 4) ∧ (wordField v 1 1 ≠ s.g F.CLK_STAT_REF_ACT) ∧ (s.eligible (wordField v 1 1) = true))
    ∧ (∃ s : State, ∃ m : Master, ∃ v : Word, (s.masterRuns m = true) ∧ (s.mayWrite m 0x01 0x48 = true) ∧ (wordField v 0 0 = 1) ∧ (s.root ≠ 4))
    ∧ (∃ s : State, ∃ m : Master, ∃ v : Word, (s.masterRuns m = true) ∧ (s.mayWrite m 0x01 0x48 = true) ∧ (wordField v 0 0 = 0))
    ∧ (∃ s : State, ∃ wait : Nat, (s.root = 6) ∧ (wait < 64))
    ∧ (∃ s : State, (s.root = 6))
    ∧ (∃ s : State, (s.root = 7)) :=
  ⟨⟨up, by decide +kernel⟩,
   ⟨good 5, by decide +kernel⟩,
   ⟨put_ (good 5) [(F.CLK_REF_CTRL_AUTO, 0)], by decide +kernel⟩,
   ⟨good 4, .garnet, 3, by decide +kernel⟩,
   ⟨good 5, .garnet, 1, by decide +kernel⟩,
   ⟨up, .garnet, 0, by decide +kernel⟩,
   ⟨good 6, 0, by decide +kernel⟩,
   ⟨good 6, by decide +kernel⟩,
   ⟨good 7, by decide +kernel⟩⟩
end ReferenceSwitching

namespace ClockSupervision
def sup (n : Nat) : State := put_ up [(F.CLK_STAT_STATE, n), (F.UNIT_CTRL_ENABLE 8, 1), (F.UNIT_CTRL_ENABLE 9, 1), (F.LNK_STAT_CDR_LOCK 0, 1), (F.LNK_STAT_CDR_LOCK 1, 1)]
set_option maxRecDepth 1000000 in
theorem test_hypsClockSupervision :
    (∃ s : State, ∃ l : Nat, (s.rootUp = true) ∧ (l < 2) ∧ (s.on (F.LNK_STAT_CDR_LOCK l) = true) ∧ (s.g F.CLK_STAT_REF_ACT ≠ l))
    ∧ (∃ s : State, ∃ l : Nat, (s.rootUp = true) ∧ (l < 2) ∧ (s.on (F.LNK_STAT_CDR_LOCK l) = true) ∧ (s.g F.CLK_STAT_REF_ACT = l))
    ∧ (∃ s : State, ∃ lane : Nat, ∃ pix : Nat, ∃ core : Nat, ∃ peri : Nat, ∃ hk : Nat, (s.quartz.rc = .running) ∧ (s.on F.CLK_STAT_RF_ACTIVE = false) ∧ ((∀ n, n ∈ [lane, pix, core, peri] → 180 ≤ n ∧ n ≤ 220)) ∧ (45 ≤ hk) ∧ (hk ≤ 55))
    ∧ (∃ s : State, ∃ lane : Nat, (s.quartz.rc = .running) ∧ (s.quartz.masked = false) ∧ (s.pwr.st ≠ .sleep) ∧ (lane < 180 ∨ 220 < lane))
    ∧ (∃ s : State, ∃ peri : Nat, (s.quartz.rc = .running) ∧ (s.quartz.masked = false) ∧ (peri < 180 ∨ 220 < peri))
    ∧ (∃ s : State, ∃ count : Nat, (s.root = 4) ∧ (s.quartz.rc = .running) ∧ (4876 ≤ count) ∧ (count ≤ 5610))
    ∧ (∃ s : State, ∃ count : Nat, (s.root = 4) ∧ (s.quartz.rc = .running) ∧ (s.quartz.masked = false) ∧ (count < 4876 ∨ 5610 < count)) :=
  ⟨⟨sup 4, 1, by decide +kernel⟩,
   ⟨sup 4, 0, by decide +kernel⟩,
   ⟨sup 4, 180, 180, 180, 180, 45, by decide +kernel⟩,
   ⟨sup 4, 179, by decide +kernel⟩,
   ⟨sup 4, 179, by decide +kernel⟩,
   ⟨sup 4, 4876, by decide +kernel⟩,
   ⟨sup 4, 4875, by decide +kernel⟩⟩
end ClockSupervision

namespace ColdResetSources
def mess : State := { put_ up [(F.CMP_PERIOD_PER_NS, 3000000), (F.SEC_KEYREV_MAIN, 3), (F.RST_PIN_LEVEL, 1)] with mem := [(0x10000000, 1), (0x18000000, 5), (0x20000000, 7), (0x60000000, 3)], shadow := [(0x18040, 5)], fus := { up.fus with job := some (19, [3], false) } }
set_option maxRecDepth 1000000 in
theorem test_hypsColdResetSources :
    (∃ s : State, (s.poweredStop = false) ∧ (s.rst.pg = true))
    ∧ (∃ s : State, (s.poweredStop = false))
    ∧ (∃ s : State, (s.pwr.st ≠ .off))
    ∧ (∃ s : State, ∃ st : Straps, (s.pwr.st = .off)) :=
  ⟨⟨up, by decide +kernel⟩,
   ⟨up, by decide +kernel⟩,
   ⟨up, by decide +kernel⟩,
   ⟨{ mess with pwr := { up.pwr with st := .off } }, Straps.default_, by decide +kernel⟩⟩
end ColdResetSources

namespace WarmResetSources
def mess2 : State := { put_ up [(F.CMP_PERIOD_PER_NS, 3000000), (F.SEC_KEYREV_MAIN, 3), (F.RST_PIN_LEVEL, 1), (F.RST_WDT_CTRL_EN, 1), (F.SEC_TAP_OPEN, 1), (F.UPD_CTRL_MANUAL, 1), (F.SAF_WDT_ARMED, 1), (F.LNK_CTRL_PWR_SENSE 0, 1), (F.SAF_STAT_FSTATE, 3), (F.TL_STAT_STATE 3, 5), (F.EVR_HEAD_SEQ, 77), (F.CMP_CNT_RECOMP, 9)] with mem := [(0x10000000, 1), (0x18000000, 5), (0x20000000, 7), (0x60000000, 3)], shadow := [(0x18040, 5)], pend := [(0x18044, 5)], pendPages := [0x18], fus := { up.fus with job := some (19, [3], false) }, upd := { up.upd with trial := some 0, trialAt := some 1 } }
set_option maxRecDepth 1000000 in
theorem test_hypsWarmResetSources :
    (∃ s : State, (s.pwr.st ≠ .deep) ∧ (s.pwr.st ≠ .off) ∧ (s.pwr.st ≠ .ackExit) ∧ (s.on F.RST_PIN_STUCK = false) ∧ (s.rst.scope ≠ some .cold))
    ∧ (∃ s : State, ∃ m : Master, ∃ v : Word, (s.masterRuns m = true) ∧ (s.mayWrite m 0x02 0x44 = true) ∧ (wordField v 0 0 = 1) ∧ (wordField v 15 8 = 0xA5))
    ∧ (∃ s : State, ∃ m : Master, ∃ v : Word, (s.masterRuns m = true) ∧ (s.mayWrite m 0x02 0x44 = true) ∧ ((wordField v 0 0 ≠ 1 ∨ wordField v 15 8 ≠ 0xA5)))
    ∧ (∃ s : State, (s.on F.RST_WDT_CTRL_EN = true) ∧ (s.rst.scope = none))
    ∧ (∃ s : State, (s.rst.scope = none) ∧ (s.g F.RST_BOOT_STAT_PHASE = 0) ∧ (4 ≤ s.g F.RST_BOOT_STAT_STEP) ∧ (s.g F.RST_BOOT_STAT_STEP ≤ 14))
    ∧ (∃ s : State, (s.tapUp = true) ∧ (s.on F.SEC_TAP_OPEN = true) ∧ (s.rst.scope ≠ some .cold))
    ∧ (∃ s : State, (s.upd.trial.isSome = true) ∧ (s.upd.trialAt.isSome = true) ∧ (s.on F.UPD_CTRL_MANUAL = true) ∧ (s.rst.scope ≠ some .cold)) :=
  ⟨⟨up, by decide +kernel⟩,
   ⟨up, .garnet, 0xA501, by decide +kernel⟩,
   ⟨up, .garnet, 0, by decide +kernel⟩,
   ⟨mess2, by decide +kernel⟩,
   ⟨put_ mess2 [(F.RST_BOOT_STAT_PHASE, 0), (F.RST_BOOT_STAT_STEP, 4)], by decide +kernel⟩,
   ⟨mess2, by decide +kernel⟩,
   ⟨mess2, by decide +kernel⟩⟩
end WarmResetSources

namespace WarmResetsAfterWork
def work : State := { put_ up [(F.SAF_WDT_ARMED, 1), (F.BST_LB_STAT_RESULT, 1), (F.SEC_CLR_STATE, 2), (F.SEC_CLR_TRIGGER, 2), (F.CMP_PERIOD_PER_NS, 3000000)] with upd := { up.upd with restart := true }, csf := { up.csf with profile := some 1 }, mem := [(0x10000000, 1), (0x18000000, 5)] }
def work2 : State := put_ work [(F.BST_LB_STAT_RESULT, 0), (F.BST_MB_STAT_RESULT, 1), (F.SEC_CLR_TRIGGER, 4)]
def work3 : State := { put_ work2 [(F.UPD_STAT_RECOVERY, 0)] with csf := { up.csf with profile := some 0 } }
set_option maxRecDepth 1000000 in
theorem test_hypsWarmResetsAfterWork :
    (∃ s : State, (s.on F.SAF_WDT_ARMED = true) ∧ (s.rst.scope ≠ some .cold))
    ∧ (∃ s : State, (s.upd.restart = true) ∧ (s.inRecovery = false) ∧ (s.rst.scope ≠ some .cold))
    ∧ (∃ s : State, ∃ n : Nat, (s.csf.profile = some n) ∧ (s.saf.halted = false) ∧ (s.flintStopped = false) ∧ (s.profileRej n = 0) ∧ (s.rst.scope ≠ some .cold) ∧ ((s.g F.PRF_STAT_IN_FORCE ≠ n ∨ s.on F.PRF_SEL_VALID = false ∨ s.g F.PRF_SEL_PROF ≠ n)))
    ∧ (∃ s : State, (s.lbRunning = true) ∧ (s.rst.scope ≠ some .cold))
    ∧ (∃ s : State, (s.g F.BST_MB_STAT_RESULT = 1) ∧ (s.g F.SEC_CLR_STATE = 2) ∧ (s.rst.scope ≠ some .cold)) :=
  ⟨⟨work, by decide +kernel⟩,
   ⟨work, by decide +kernel⟩,
   ⟨{ put_ work3 [(F.PRF_STAT_RECORDS, 15), (F.PRF_STAT_TABLES, 15), (F.PRF_STAT_CMD_OK, 1)] with csf := { up.csf with profile := some 3 } }, 3, by decide +kernel⟩,
   ⟨work, by decide +kernel⟩,
   ⟨work2, by decide +kernel⟩⟩
end WarmResetsAfterWork

namespace ResetRelease
def held : State := { put_ State.reset [(F.RST_PIN_STUCK_IGNORE, 1), (F.SAF_STAT_LOCKED, 1)] with quartz := { Quartz.init with rc := .running }, rst := { Rst.init with pg := true, pinHeld := true } }
set_option maxRecDepth 1000000 in
theorem test_hypsResetRelease :
    (∃ s : State, ∃ st : Straps, (s.pwr.st ≠ .off) ∧ (s.pwr.st ≠ .deep) ∧ (s.pwr.st ≠ .ackExit) ∧ (s.rst.pg = false))
    ∧ (∃ s : State, (s.rst.pinHeld = true) ∧ (s.rst.thmHeld = false) ∧ (s.rst.pg = true) ∧ (s.quartz.rc = .running) ∧ (s.rst.scope.isSome = true))
    ∧ (∃ s : State, (s.rst.pinHeld = false))
    ∧ (∃ s : State, (s.rst.thmHeld = true) ∧ (s.rst.pinHeld = false) ∧ (s.rst.pg = true) ∧ (s.quartz.rc = .running) ∧ (s.rst.scope.isSome = true))
    ∧ (∃ s : State, (s.on F.RST_PIN_STUCK_IGNORE = true) ∧ (s.rst.pinHeld = true) ∧ (s.rst.thmHeld = false) ∧ (s.rst.pg = true) ∧ (s.quartz.rc = .running) ∧ (s.rst.scope.isSome = true)) :=
  ⟨⟨State.reset, Straps.default_, by decide +kernel⟩,
   ⟨held, by decide +kernel⟩,
   ⟨State.reset, by decide +kernel⟩,
   ⟨{ held with rst := { held.rst with pinHeld := false, thmHeld := true } }, by decide +kernel⟩,
   ⟨held, by decide +kernel⟩⟩
end ResetRelease

set_option maxRecDepth 1000000 in
theorem test_hypsPinsAndWatchdog :
    (∃ s : State, (s.pwr.st = .deep))
    ∧ (∃ s : State, (s.on F.RST_PIN_STUCK = true) ∧ (s.on F.RST_PIN_LEVEL = true))
    ∧ (∃ s : State, ∃ m : Master, ∃ v : Word, (s.masterRuns m = true) ∧ (s.mayWrite m 0x02 0x68 = true) ∧ (s.on F.RST_WDT_CTRL_EN = false) ∧ (wordField v 0 0 = 1))
    ∧ (∃ s : State, ∃ m : Master, (s.masterRuns m = true) ∧ (s.mayWrite m 0x02 0x68 = true) ∧ (s.on F.RST_WDT_CTRL_EN = true))
    ∧ (∃ s : State, ∃ m : Master, ∃ v : Word, (s.masterRuns m = true) ∧ (s.mayWrite m 0x02 0x6C = true) ∧ (s.on F.RST_WDT_CTRL_EN = true) ∧ (wordField v 7 0 = 0x5A))
    ∧ (∃ s : State, ∃ m : Master, ∃ v : Word, (s.masterRuns m = true) ∧ (s.mayWrite m 0x02 0x6C = true) ∧ (wordField v 7 0 ≠ 0x5A)) :=
  ⟨⟨{ up with pwr := { up.pwr with st := .deep } }, by decide +kernel⟩,
   ⟨put_ up [(F.RST_PIN_STUCK, 1), (F.RST_PIN_LEVEL, 1)], by decide +kernel⟩,
   ⟨up, .garnet, 1, by decide +kernel⟩,
   ⟨put_ up [(F.RST_WDT_CTRL_EN, 1)], .garnet, by decide +kernel⟩,
   ⟨put_ up [(F.RST_WDT_CTRL_EN, 1)], .garnet, 0x5A, by decide +kernel⟩,
   ⟨up, .garnet, 0, by decide +kernel⟩⟩

namespace LinkBringUp
def lk (n : Nat) : State := put_ up [(F.LNK_STAT_STATE 0, n), (F.LNK_STAT_STATE 1, n), (F.UNIT_CTRL_ENABLE 8, 1), (F.UNIT_CTRL_ENABLE 9, 1), (F.UNIT_CTRL_ENABLE 10, 1), (F.SIDE_STAT_STATE, n)]
set_option maxRecDepth 1000000 in
theorem test_hypsLinkBringUp :
    (∃ s : State, ∃ l : Nat, (l < 2) ∧ (s.lst l = 1))
    ∧ (∃ s : State, ∃ l : Nat, (l < 2) ∧ (s.lst l = 2) ∧ (s.root ≠ 1))
    ∧ (∃ s : State, ∃ l : Nat, (l < 2) ∧ (s.lst l = 2) ∧ (s.on (F.LNK_STAT_CDR_LOCK l) = false))
    ∧ (∃ s : State, ∃ l : Nat, (l < 2) ∧ (s.lst l = 3) ∧ (s.rootServes = true))
    ∧ (∃ s : State, ∃ l : Nat, (l < 2) ∧ (s.lst l = 4))
    ∧ (∃ s : State, ∃ l : Nat, (l < 2) ∧ (s.lst l = 5))
    ∧ (∃ s : State, (s.on (F.UNIT_CTRL_ENABLE 0x0A) = true) ∧ (s.sst = 1))
    ∧ (∃ s : State, (s.on (F.UNIT_CTRL_ENABLE 0x0A) = true) ∧ (s.sst = 2) ∧ (s.rootServes = true))
    ∧ (∃ s : State, (s.on (F.UNIT_CTRL_ENABLE 0x0A) = true) ∧ (s.sst = 2))
    ∧ (∃ s : State, (s.on (F.UNIT_CTRL_ENABLE 0x0A) = true) ∧ (s.sst = 3) ∧ (s.rootServes = true))
    ∧ (∃ s : State, (s.on (F.UNIT_CTRL_ENABLE 0x0A) = true) ∧ (s.sst = 4))
    ∧ (∃ s : State, (s.on (F.UNIT_CTRL_ENABLE 0x0A) = true) ∧ (s.sst = 5))
    ∧ (∃ s : State, ∃ l : Nat, (l < 2) ∧ (s.lst l ≠ 1))
    ∧ (∃ s : State, ∃ l : Nat, (l < 2) ∧ (s.lst l ≠ 2))
    ∧ (∃ s : State, ∃ l : Nat, (l < 2) ∧ (s.lst l ≠ 3))
    ∧ (∃ s : State, ∃ l : Nat, (l < 2) ∧ (s.lst l ≠ 4))
    ∧ (∃ s : State, ∃ l : Nat, (l < 2) ∧ (s.lst l ≠ 5)) :=
  ⟨⟨lk 1, 0, by decide +kernel⟩,
   ⟨lk 2, 0, by decide +kernel⟩,
   ⟨lk 2, 0, by decide +kernel⟩,
   ⟨lk 3, 0, by decide +kernel⟩,
   ⟨lk 4, 0, by decide +kernel⟩,
   ⟨lk 5, 0, by decide +kernel⟩,
   ⟨lk 1, by decide +kernel⟩,
   ⟨lk 2, by decide +kernel⟩,
   ⟨lk 2, by decide +kernel⟩,
   ⟨lk 3, by decide +kernel⟩,
   ⟨lk 4, by decide +kernel⟩,
   ⟨lk 5, by decide +kernel⟩,
   ⟨up, 0, by decide +kernel⟩,
   ⟨up, 0, by decide +kernel⟩,
   ⟨up, 0, by decide +kernel⟩,
   ⟨up, 0, by decide +kernel⟩,
   ⟨up, 0, by decide +kernel⟩⟩
end LinkBringUp

namespace LinkLossAndRate
def lk (n : Nat) : State := put_ up [(F.LNK_STAT_STATE 0, n), (F.LNK_STAT_STATE 1, n), (F.UNIT_CTRL_ENABLE 8, 1), (F.UNIT_CTRL_ENABLE 9, 1), (F.LNK_STAT_CDR_LOCK 0, 1), (F.LNK_STAT_CDR_LOCK 1, 1), (F.LNK_STAT_SIG_DET 0, 1), (F.LNK_STAT_SIG_DET 1, 1)]
set_option maxRecDepth 1000000 in
theorem test_hypsLinkLossAndRate :
    (∃ s : State, ∃ l : Nat, (l < 2) ∧ (4 ≤ s.lst l) ∧ (s.lst l ≤ 6))
    ∧ (∃ s : State, ∃ l : Nat, (l < 2) ∧ (2 ≤ s.lst l) ∧ (s.lst l ≤ 6))
    ∧ (∃ s : State, ∃ l : Nat, (l < 2) ∧ (3 ≤ s.lst l) ∧ (s.lst l ≤ 6))
    ∧ (∃ s : State, ∃ l : Nat, ∃ fill : Nat, (l < 2) ∧ (3 ≤ s.lst l) ∧ (s.lst l ≤ 6) ∧ (18 ≤ fill) ∧ (fill ≤ 32))
    ∧ (∃ s : State, ∃ l : Nat, ∃ fill : Nat, (l < 2) ∧ (3 ≤ s.lst l) ∧ (s.lst l ≤ 6) ∧ (1 ≤ fill) ∧ (fill ≤ 14))
    ∧ (∃ s : State, ∃ l : Nat, ∃ fill : Nat, (l < 2) ∧ (3 ≤ s.lst l) ∧ (s.lst l ≤ 6) ∧ (15 ≤ fill) ∧ (fill ≤ 17))
    ∧ (∃ s : State, ∃ l : Nat, ∃ fill : Nat, (l < 2) ∧ (3 ≤ s.lst l) ∧ (s.lst l ≤ 6) ∧ (fill = 0 ∨ 32 < fill))
    ∧ (∃ s : State, ∃ l : Nat, (l < 2) ∧ (s.lst l < 2 ∨ s.lst l = 7)) :=
  ⟨⟨lk 4, 0, by decide +kernel⟩,
   ⟨lk 2, 0, by decide +kernel⟩,
   ⟨lk 3, 0, by decide +kernel⟩,
   ⟨lk 3, 0, 18, by decide +kernel⟩,
   ⟨lk 3, 0, 1, by decide +kernel⟩,
   ⟨lk 3, 0, 15, by decide +kernel⟩,
   ⟨lk 3, 0, 0, by decide +kernel⟩,
   ⟨up, 0, by decide +kernel⟩⟩
end LinkLossAndRate

namespace LinkTime
def lt5 : State := { act with lt := 65536 * 1000000, lnkA := { act.lnkA with exch := [⟨3, 500, 600⟩], ltm := 5, greeted := true }, lnkB := { act.lnkB with exch := [⟨3, 900000, 900600⟩], ltm := 5 } }
set_option maxRecDepth 1000000 in
theorem test_hypsLinkTime :
    (∃ s : State, ∃ l : Nat, (l < 2) ∧ (s.lst l = 5) ∧ (s.linkServed l = true))
    ∧ (∃ s : State, ∃ l : Nat, (l < 2) ∧ (s.lst l = 5) ∧ (s.linkServed l = false))
    ∧ (∃ s : State, ∃ l : Nat, (l < 2) ∧ (s.lst l ≠ 5))
    ∧ (∃ s : State, ∃ l : Nat, ∃ f : Wire, ∃ x : Exchange, (l < 2) ∧ (s.lst l = 5) ∧ ((s.begin.checkFrame l f).1 = true) ∧ (f.ftype = 3) ∧ (f.payload.length = 20) ∧ (f.payload.getD 0 0 = 1) ∧ ((s.link l).exch.find? (fun x => x.xno = (f.payload.getD 1 0).toNat) = some x))
    ∧ (∃ s : State, ∃ l : Nat, ∃ f : Wire, (l < 2) ∧ ((s.begin.checkFrame l f).1 = true) ∧ (f.ftype = 3) ∧ (f.payload.length = 20) ∧ (f.payload.getD 0 0 = 1) ∧ ((s.link l).exch.find? (fun x => x.xno = (f.payload.getD 1 0).toNat) = none)) :=
  ⟨⟨act, 0, by decide +kernel⟩,
   ⟨{ lt5 with cmd := Cmd.init }, 0, by decide +kernel⟩,
   ⟨up, 0, by decide +kernel⟩,
   ⟨lt5, 0, wire 0 3 ([1, 3, 0, 0] ++ beBytes 8 100 ++ beBytes 8 1100), ⟨3, 500, 600⟩, by decide +kernel⟩,
   ⟨act, 0, wire 0 3 ([1, 3, 0, 0] ++ beBytes 8 100 ++ beBytes 8 1100), by decide +kernel⟩⟩
end LinkTime

namespace BackChannel
def pz : State := { put_ act [(F.LNK_STAT_PAUSED 0, 1), (F.LNK_STAT_PAUSED 1, 1)] with lnkA := { act.lnkA with greeted := true, gapHold := [true, true, true, true] }, lnkB := { act.lnkB with rx := [⟨1, List.replicate 20000 0⟩], greeted := true } }
set_option maxRecDepth 1000000 in
theorem test_hypsBackChannel :
    (∃ s : State, ∃ l : Nat, (l < 2) ∧ (s.lst l = 5) ∧ (s.linkServed l = true))
    ∧ (∃ s : State, ∃ l : Nat, (l < 2) ∧ (s.lst l ≠ 5 ∨ s.linkServed l = false))
    ∧ (∃ s : State, (s.saf.halted = false) ∧ (s.canSafe 0 = true ∨ s.canSafe 1 = true))
    ∧ (∃ s : State, (s.saf.halted = true ∨ (s.canSafe 0 = false ∧ s.canSafe 1 = false)))
    ∧ (∃ s : State, ∃ l : Nat, (l < 2) ∧ (s.on (F.LNK_STAT_PAUSED l) = true) ∧ ((s.link l).fill ≤ 16384))
    ∧ (∃ s : State, ∃ l : Nat, (l < 2) ∧ (s.on (F.LNK_STAT_PAUSED l) = false ∨ 16384 < (s.link l).fill))
    ∧ (∃ l : Nat, (l < 2)) :=
  ⟨⟨act, 0, by decide +kernel⟩,
   ⟨up, 0, by decide +kernel⟩,
   ⟨pz, by decide +kernel⟩,
   ⟨up, by decide +kernel⟩,
   ⟨pz, 0, by decide +kernel⟩,
   ⟨up, 0, by decide +kernel⟩,
   ⟨0, by decide +kernel⟩⟩
end BackChannel

namespace WorkFrames
def wk : State := put_ act [(F.CMD_EXP_EXP 0, 5), (F.CMD_EXP_EXP 1, 0)]
set_option maxRecDepth 1000000 in
theorem test_hypsWorkFrames :
    (∃ s : State, ∃ l : Nat, ∃ f : Wire, let p := packetOf l f.payload; (l < 2) ∧ (s.begin.takes l f 1 = true) ∧ (badHeader f.payload = false) ∧ (s.inRecovery = false) ∧ (ofBe (slice f.payload 4 4) = s.g F.RST_EPOCH_EPOCH) ∧ (s.g F.RST_EPOCH_EPOCH ≠ 0) ∧ (s.seqDist p = 0) ∧ (s.check5 p = 0))
    ∧ (∃ s : State, ∃ l : Nat, ∃ f : Wire, let p := packetOf l f.payload; (l < 2) ∧ (s.begin.takes l f 1 = true) ∧ (badHeader f.payload = false) ∧ (s.inRecovery = false) ∧ (ofBe (slice f.payload 4 4) = s.g F.RST_EPOCH_EPOCH) ∧ (s.g F.RST_EPOCH_EPOCH ≠ 0) ∧ (2 ^ 31 ≤ s.seqDist p))
    ∧ (∃ s : State, ∃ l : Nat, ∃ f : Wire, let p := packetOf l f.payload; (l < 2) ∧ (s.begin.takes l f 1 = true) ∧ (badHeader f.payload = false) ∧ (s.inRecovery = false) ∧ (ofBe (slice f.payload 4 4) = s.g F.RST_EPOCH_EPOCH) ∧ (s.g F.RST_EPOCH_EPOCH ≠ 0) ∧ (s.seqDist p ≠ 0) ∧ (s.seqDist p < 2 ^ 31) ∧ (s.gapHeld l p.chan = false))
    ∧ (∃ s : State, ∃ l : Nat, ∃ f : Wire, let p := packetOf l f.payload; (l < 2) ∧ (s.begin.takes l f 1 = true) ∧ (badHeader f.payload = false) ∧ (s.inRecovery = false) ∧ (ofBe (slice f.payload 4 4) = s.g F.RST_EPOCH_EPOCH) ∧ (s.g F.RST_EPOCH_EPOCH ≠ 0) ∧ (s.seqDist p ≠ 0) ∧ (s.seqDist p < 2 ^ 31) ∧ (s.gapHeld l p.chan = true))
    ∧ (∃ s : State, ∃ l : Nat, ∃ f : Wire, (l < 2) ∧ (s.begin.takes l f 1 = true) ∧ (badHeader f.payload = false) ∧ (s.inRecovery = false) ∧ (ofBe (slice f.payload 4 4) ≠ s.g F.RST_EPOCH_EPOCH))
    ∧ (∃ s : State, ∃ l : Nat, ∃ f : Wire, ((s.begin.checkFrame l f).1 = false))
    ∧ (∃ s : State, ∃ len : Nat, ∃ bytes : List Byte, ∃ crc : Nat, let p := packetOf 2 bytes; (s.spiReady = true) ∧ (s.pktBad len bytes crc = false) ∧ (badHeader bytes = false) ∧ (s.inRecovery = false) ∧ (ofBe (slice bytes 4 4) = s.g F.RST_EPOCH_EPOCH) ∧ (s.g F.RST_EPOCH_EPOCH ≠ 0) ∧ (s.seqDist p = 0) ∧ (s.check5 p = 0))
    ∧ (∃ s : State, ∃ len : Nat, ∃ bytes : List Byte, ∃ crc : Nat, let p := packetOf 2 bytes; (s.spiReady = true) ∧ (s.pktBad len bytes crc = false) ∧ (badHeader bytes = false) ∧ (s.inRecovery = false) ∧ (ofBe (slice bytes 4 4) = s.g F.RST_EPOCH_EPOCH) ∧ (s.g F.RST_EPOCH_EPOCH ≠ 0) ∧ (2 ^ 31 ≤ s.seqDist p))
    ∧ (∃ s : State, ∃ len : Nat, ∃ bytes : List Byte, ∃ crc : Nat, (s.spiReady = true) ∧ (s.pktBad len bytes crc = true))
    ∧ (∃ s : State, (s.spiReady = false)) :=
  ⟨⟨wk, 0, wire 0 1 (pkt 0 7 5 0 0 (beBytes 4 0x40010040 ++ beBytes 4 3)), by decide +kernel⟩,
   ⟨act, 0, wire 0 1 (pkt 1 7 0 1 0 (List.replicate 64 3)), by decide +kernel⟩,
   ⟨act, 0, wire 0 1 (pkt 0 7 5 0 0 (beBytes 4 0x40010040 ++ beBytes 4 3)), by decide +kernel⟩,
   ⟨{ wk with lnkA := { act.lnkA with gapHold := [true, true, true, true] } }, 0, wire 0 1 (pkt 0 7 6 0 0 []), by decide +kernel⟩,
   ⟨act, 1, wire 1 1 (pkt 0 8 5 0 0 []), by decide +kernel⟩,
   ⟨act, 0, wire 1 1 (pkt 0 7 5 0 0 []), by decide +kernel⟩,
   ⟨put_ wk [(F.SEC_LC_STATE, 1)], 20, pkt 0 7 5 0 0 [], crc32 (pkt 0 7 5 0 0 []), by decide +kernel⟩,
   ⟨put_ wk [(F.SEC_LC_STATE, 1)], 20, pkt 0 7 4 0 0 [], crc32 (pkt 0 7 4 0 0 []), by decide +kernel⟩,
   ⟨act, 20, pkt 0 7 5 0 0 (beBytes 4 0x40010040 ++ beBytes 4 3), crc32 (pkt 0 7 5 0 0 (beBytes 4 0x40010040 ++ beBytes 4 3)), by decide +kernel⟩,
   ⟨{ wk with pwr := { wk.pwr with st := .deep } }, by decide +kernel⟩⟩
end WorkFrames

namespace CommandStore
def p0 : Packet := ⟨0, 0, 5, 0, 0, beBytes 4 0x40010040 ++ beBytes 4 3⟩
def p1 : Packet := ⟨1, 1, 0, 0, 0, List.replicate 64 3⟩
def st0 : State := { put_ act [(F.CMD_EXP_EXP 0, 5)] with lnkA := { act.lnkA with waiting := some p0 }, lnkB := { act.lnkB with waiting := some p1 }, spi := { act.spi with waiting := some p0 } }
set_option maxRecDepth 1000000 in
theorem test_hypsCommandStore :
    (∃ s : State, ∃ l : Nat, ∃ copies : Nat, ∃ p : Packet, (s.rst.scope = none) ∧ (s.on F.CLK_STAT_ROOT_OK = true) ∧ (s.flintStopped = false) ∧ ((l < 2 → (s.link l).rx = [])) ∧ (s.held l = some p) ∧ (s.seqDist p = 0) ∧ (p.chan < 4) ∧ (p.chan ≠ 2) ∧ (p.body ≠ []) ∧ (s.cmd.rings.length = 4) ∧ (s.ringUsed p.chan + p.size ≤ s.ringSize p.chan) ∧ ((∀ q, (s.ring p.chan).head? = some q → q.body ≠ [])) ∧ (copies % 4 = 0) ∧ (s.armed S.CMD_STATE_COPY = false))
    ∧ (∃ s : State, ∃ l : Nat, ∃ p : Packet, (s.rst.scope = none) ∧ (s.on F.CLK_STAT_ROOT_OK = true) ∧ (s.flintStopped = false) ∧ ((l < 2 → (s.link l).rx = [])) ∧ (s.held l = some p) ∧ (s.seqDist p = 0) ∧ (s.ringSize p.chan < s.ringUsed p.chan + p.size))
    ∧ (∃ s : State, ∃ l : Nat, ∃ copies : Nat, ∃ p : Packet, (s.rst.scope = none) ∧ (s.on F.CLK_STAT_ROOT_OK = true) ∧ (s.flintStopped = false) ∧ ((l < 2 → (s.link l).rx = [])) ∧ (s.held l = some p) ∧ (s.seqDist p = 0) ∧ (s.cmd.rings.length = 4) ∧ (s.ringUsed p.chan + p.size ≤ s.ringSize p.chan) ∧ (copies % 4 = 3))
    ∧ (∃ s : State, ∃ l : Nat, (l < 2) ∧ ((s.link l).waiting.isSome = true) ∧ (s.quiet 0x10 = false))
    ∧ (∃ s : State, ∃ ch : Nat, ∃ copies : Nat, (ch < 4) ∧ (s.cmd.doneDue.getD ch false = true) ∧ (copies % 4 = 0) ∧ (s.armed S.CMD_STATE_COPY = false))
    ∧ (∃ s : State, ∃ ch : Nat, (s.cmd.doneDue.getD ch false = false)) :=
  ⟨⟨st0, 0, 0, p0, by decide +kernel⟩,
   ⟨{ put_ st0 [(⟨0x10, 0x48, 7, 0⟩, 0), (⟨0x10, 0x48, 15, 8⟩, 0)] with cmd := { st0.cmd with rings := [[p0], [p1], [], []] } }, 0, p0, by decide +kernel⟩,
   ⟨st0, 0, 3, p0, by decide +kernel⟩,
   ⟨st0, 0, by decide +kernel⟩,
   ⟨{ st0 with cmd := { st0.cmd with doneDue := [true, false, true, true] } }, 0, 0, by decide +kernel⟩,
   ⟨act, 0, by decide +kernel⟩⟩
end CommandStore

namespace Consumption
def c0 : Packet := ⟨0, 0, 4, 0, 0, beBytes 4 0x40010070 ++ beBytes 4 0x123456⟩
def c1 : Packet := ⟨1, 1, 0, 0x10003, 128, List.replicate 64 3⟩
def c2 : Packet := ⟨0, 0, 4, 0, 0, beBytes 4 0x40018060 ++ beBytes 4 3 ++ beBytes 4 0x40018040 ++ beBytes 4 5⟩
def cs : State := { act with cmd := { act.cmd with rings := [[c0], [c1], [], []] } }
set_option maxRecDepth 1000000 in
theorem test_hypsConsumption :
    (∃ s : State, ∃ p : Packet, (s.consuming 1 = true) ∧ (s.ring 1 = [p]) ∧ (s.cmd.rings.length = 4) ∧ (s.armed S.CMD_REPLAY = false) ∧ (s.crcUnit 3 5 = none))
    ∧ (∃ s : State, ∃ p : Packet, (s.consuming 0 = true) ∧ (s.ring 0 = [p]) ∧ (s.armed S.CMD_REPLAY = false))
    ∧ (∃ s : State, ∃ p : Packet, ∃ pg : Nat, ∃ off : Nat, ∃ v : Word, (s.consuming 0 = true) ∧ (s.ring 0 = [p]) ∧ (s.cmd.rings.length = 4) ∧ (s.armed S.CMD_REPLAY = false) ∧ (ctlEntries p.body = [(pageAddr pg off, v)]) ∧ (plainReg pg off = true) ∧ (pg ≠ 0x10) ∧ (s.mayWrite p.master pg off = true))
    ∧ (∃ s : State, ∃ p : Packet, ∃ q : List Packet, (s.consuming 1 = true) ∧ (s.ring 1 = p :: q) ∧ (s.cmd.rings.length = 4))
    ∧ (∃ s : State, ∃ p : Packet, ∃ q : List Packet, (s.consuming 0 = true) ∧ (s.ring 0 = p :: q) ∧ (s.cmd.rings.length = 4))
    ∧ (∃ s : State, (s.consuming 0 = false ∨ s.ring 0 = []))
    ∧ (∃ s : State, (s.consuming 1 = false ∨ s.ring 1 = [])) :=
  ⟨⟨cs, c1, by decide +kernel⟩,
   ⟨cs, c0, by decide +kernel⟩,
   ⟨{ cs with cmd := { act.cmd with rings := [[⟨0, 0, 4, 0, 0, beBytes 4 0x40018048 ++ beBytes 4 0x7⟩], [⟨0, 1, 0, 0x15, 0, [1, 2, 3]⟩], [], []] } }, ⟨0, 0, 4, 0, 0, beBytes 4 0x40018048 ++ beBytes 4 0x7⟩, 0x18, 0x48, 7, by decide +kernel⟩,
   ⟨cs, c1, [], by decide +kernel⟩,
   ⟨cs, c0, [], by decide +kernel⟩,
   ⟨act, by decide +kernel⟩,
   ⟨act, by decide +kernel⟩⟩
end Consumption

namespace RegFrames
def rq (op cnt a : Nat) (d : List Nat) : List Byte := [b8 op, 9] ++ beBytes 2 cnt ++ beBytes 4 a ++ d.flatMap (beBytes 4)
set_option maxRecDepth 1000000 in
theorem test_hypsRegFrames :
    (∃ s : State, ∃ l : Nat, ∃ f : Wire, let p := f.payload; let o := pageOff (regAddr p); (l < 2) ∧ (s.begin.takes l f 4 = true) ∧ (s.inRecovery = false) ∧ (regFormOk f.payload = true) ∧ (regCount f.payload = 1) ∧ (regRangeOk f.payload = true) ∧ (regOp p = 1) ∧ (s.mayRead .reg (o / 4096) = true))
    ∧ (∃ s : State, ∃ l : Nat, ∃ f : Wire, let p := f.payload; let o := pageOff (regAddr p); (l < 2) ∧ (s.begin.takes l f 4 = true) ∧ (s.inRecovery = false) ∧ (regFormOk f.payload = true) ∧ (regCount f.payload = 1) ∧ (regRangeOk f.payload = true) ∧ (regOp p = 2) ∧ (s.mayWrite .reg (o / 4096) (o % 4096) = true) ∧ (plainReg (o / 4096) (o % 4096) = true) ∧ (o ≠ 0x4C))
    ∧ (∃ s : State, ∃ l : Nat, ∃ f : Wire, let p := f.payload; let o := pageOff (regAddr p); (l < 2) ∧ (s.begin.takes l f 4 = true) ∧ (s.inRecovery = false) ∧ (regFormOk f.payload = true) ∧ (regCount f.payload = 1) ∧ (regRangeOk f.payload = true) ∧ (regOp p = 3) ∧ (s.mayModify o = true) ∧ (plainReg (o / 4096) (o % 4096) = true) ∧ (o ≠ 0x4C))
    ∧ (∃ s : State, ∃ l : Nat, ∃ f : Wire, (l < 2) ∧ (s.begin.takes l f 4 = true) ∧ (s.inRecovery = false) ∧ (f.payload ≠ []) ∧ (regFormOk f.payload = false))
    ∧ (∃ s : State, ∃ l : Nat, ∃ f : Wire, (l < 2) ∧ (s.begin.takes l f 4 = true) ∧ (s.inRecovery = false) ∧ (f.payload ≠ []) ∧ (regFormOk f.payload = true) ∧ (regCount f.payload ≠ 0) ∧ (regRangeOk f.payload = false))
    ∧ (∃ s : State, ∃ l : Nat, ∃ f : Wire, (l < 2) ∧ (s.begin.takes l f 4 = true) ∧ (s.inRecovery = false) ∧ (f.payload ≠ []) ∧ (regFormOk f.payload = true) ∧ (regCount f.payload = 0)) :=
  ⟨⟨act, 0, wire 0 4 (rq 1 1 0x40018044 []), by decide +kernel⟩,
   ⟨act, 0, wire 0 4 (rq 2 1 0x40018044 [0x55]), by decide +kernel⟩,
   ⟨act, 0, wire 0 4 (rq 3 1 0x40018048 [0xF, 0xFF]), by decide +kernel⟩,
   ⟨act, 0, wire 0 4 (rq 2 2 0x40018044 [0x55]), by decide +kernel⟩,
   ⟨act, 0, wire 0 4 (rq 2 1 0x4018044 [0x55]), by decide +kernel⟩,
   ⟨act, 0, wire 0 4 (rq 1 0 0x40018044 []), by decide +kernel⟩⟩
end RegFrames

namespace SpiTarget
def sp : State := act
set_option maxRecDepth 1000000 in
theorem test_hypsSpiTarget :
    (∃ s : State, (s.spiReady = true))
    ∧ (∃ s : State, (s.spiReady = false))
    ∧ (∃ s : State, ∃ a : Nat, (s.spiReady = true) ∧ (inPages a = true) ∧ (a % 4 = 0) ∧ (s.mayRead .spi (pageOff a / 4096) = true))
    ∧ (∃ s : State, ∃ a : Nat, (s.spiReady = true) ∧ (inPages a = false))
    ∧ (∃ s : State, ∃ p : Nat, ∃ off : Nat, ∃ bytes : List Byte, (s.spiReady = true) ∧ (plainReg p off = true) ∧ (s.mayWrite .spi p off = true) ∧ (s.g F.SEC_LC_STATE ≠ 4) ∧ (bytes.length = 4))
    ∧ (∃ s : State, ∃ a : Nat, ∃ bytes : List Byte, (s.spiReady = true) ∧ (inPages a = false) ∧ (bytes.length = 4))
    ∧ (∃ s : State, ∃ f : List Byte, ∃ q : List (List Byte), (s.spiReady = true) ∧ (s.spi.rsp = f :: q))
    ∧ (∃ s : State, (s.spiReady = true) ∧ (s.spi.rsp = [])) :=
  ⟨⟨act, by decide +kernel⟩,
   ⟨State.reset, by decide +kernel⟩,
   ⟨act, 0x40018044, by decide +kernel⟩,
   ⟨act, 0x10000000, by decide +kernel⟩,
   ⟨act, 0x18, 0x44, [1, 2, 3, 4], by decide +kernel⟩,
   ⟨act, 0x10000000, [1, 2, 3, 4], by decide +kernel⟩,
   ⟨{ act with spi := { act.spi with rsp := [ackFrame 0 0 1 5 6 7, ackFrame 1 0 1 5 6 7] } }, ackFrame 0 0 1 5 6 7, [ackFrame 1 0 1 5 6 7], by decide +kernel⟩,
   ⟨act, by decide +kernel⟩⟩
end SpiTarget

namespace SafeFrames
def sfx (src dst seq ts ty : Nat) (rest : List Byte) : List Byte := let b := beBytes 2 src ++ beBytes 2 dst ++ beBytes 4 seq ++ beBytes 8 ts ++ [b8 ty, 1, 0, 0] ++ beBytes 4 7 ++ [0, 0, 0, 0] ++ rest ++ List.replicate (32 - rest.length) 0; b ++ beBytes 4 (crc32c b)
def sf5 : State := { put_ act [(F.CSF_STAT_LT_VALID, 1), (F.CSF_ID_OWN_ID, 5), (F.CSF_ID_HOST_ID, 9), (F.CSF_CFG_WIN, 5), (F.CSF_CFG_TMO, 5), (F.CSF_CFG_AGE_MAX, 5), (F.SAF_STAT_FSTATE, 1)] with lt := 65536 * 5000000, now := 100 }
def cpy : Copy := ⟨sfx 9 5 3 4000000 1 [2, 0, 1, 0], 90⟩
def cpy2 : Copy := ⟨sfx 9 5 3 4000000 1 [1, 0, 1, 0], 90⟩
set_option maxRecDepth 1000000 in
theorem test_hypsSafeFrames :
    (∃ s : State, ∃ l : Nat, ∃ f : Wire, ∃ e : Fld, (l < 2) ∧ ((s.begin.checkFrame l f).1 = true) ∧ (f.ftype = 2) ∧ (s.blockRunning 0x0B = false) ∧ ((s.begin.checkFrame l f).2.sfReject l f.payload = some e))
    ∧ (∃ s : State, ∃ l : Nat, ∃ f : Wire, let seq := sfField f.payload 4 4; let same := fun c : Copy => sfField c.bytes 4 4 = seq; (l < 2) ∧ ((s.begin.checkFrame l f).1 = true) ∧ (f.ftype = 2) ∧ (s.blockRunning 0x0B = false) ∧ ((s.begin.checkFrame l f).2.sfReject l f.payload = none) ∧ ((s.csf.pendOf l).find? same = none) ∧ ((s.csf.pendOf (1 - l)).find? same = none))
    ∧ (∃ s : State, ∃ l : Nat, ∃ f : Wire, ∃ c : Copy, let seq := sfField f.payload 4 4; let same := fun c : Copy => sfField c.bytes 4 4 = seq; (l < 2) ∧ ((s.begin.checkFrame l f).1 = true) ∧ (f.ftype = 2) ∧ (s.blockRunning 0x0B = false) ∧ ((s.begin.checkFrame l f).2.sfReject l f.payload = none) ∧ ((s.csf.pendOf l).find? same = none) ∧ ((s.csf.pendOf (1 - l)).find? same = some c) ∧ (c.bytes = f.payload) ∧ (s.now - c.at_ ≤ s.win))
    ∧ (∃ s : State, ∃ l : Nat, ∃ f : Wire, ∃ c : Copy, let seq := sfField f.payload 4 4; let same := fun c : Copy => sfField c.bytes 4 4 = seq; (l < 2) ∧ ((s.begin.checkFrame l f).1 = true) ∧ (f.ftype = 2) ∧ (s.blockRunning 0x0B = false) ∧ ((s.begin.checkFrame l f).2.sfReject l f.payload = none) ∧ ((s.csf.pendOf l).find? same = none) ∧ ((s.csf.pendOf (1 - l)).find? same = some c) ∧ (c.bytes ≠ f.payload))
    ∧ (∃ s : State, ∃ l : Nat, ∃ c : Copy, ∃ q : List Copy, (l < 2) ∧ (s.csf.pendOf l = c :: q))
    ∧ (∃ s : State, ∃ l : Nat, (s.csf.pendOf l = []))
    ∧ (∃ s : State, (s.on F.CSF_STAT_CURRENT = true) ∧ (s.pwr.st ≠ .sleep) ∧ (s.poweredStop = false))
    ∧ (∃ s : State, (s.on F.CSF_STAT_CURRENT = false ∨ s.pwr.st = .sleep)) :=
  ⟨⟨sf5, 0, wire 0 2 (sfx 9 5 3 4000000 1 [3, 0, 1, 0]), F.CSF_EVT_FORMAT, by decide +kernel⟩,
   ⟨sf5, 0, wire 0 2 (sfx 9 5 3 4000000 1 [2, 0, 1, 0]), by decide +kernel⟩,
   ⟨{ sf5 with csf := { sf5.csf with pendB := [cpy] } }, 0, wire 0 2 (sfx 9 5 3 4000000 1 [2, 0, 1, 0]), cpy, by decide +kernel⟩,
   ⟨{ sf5 with csf := { sf5.csf with pendA := [cpy2] } }, 1, wire 1 2 (sfx 9 5 3 4000000 1 [2, 0, 1, 0]), cpy2, by decide +kernel⟩,
   ⟨{ sf5 with csf := { sf5.csf with pendA := [cpy], pendB := [cpy2] } }, 0, cpy, [], by decide +kernel⟩,
   ⟨sf5, 0, by decide +kernel⟩,
   ⟨put_ sf5 [(F.CSF_STAT_CURRENT, 1), (F.SAF_STAT_FSTATE, 3)], by decide +kernel⟩,
   ⟨sf5, by decide +kernel⟩⟩
end SafeFrames

namespace SideLinkStates
def sd (n : Nat) : State := put_ act [(F.UNIT_CTRL_ENABLE 0x0A, 1), (F.SIDE_STAT_STATE, n), (F.SIDE_STAT_RX_OK, if n = 5 then 1 else 0)]
set_option maxRecDepth 1000000 in
theorem test_hypsSideLinkStates :
    (∃ s : State, (s.on (F.UNIT_CTRL_ENABLE 0x0A) = true) ∧ (s.rootServes = true) ∧ (1 ≤ s.sst) ∧ (s.sst ≤ 4))
    ∧ (∃ s : State, (s.sst = 5) ∧ (s.on F.SIDE_STAT_RX_OK = true) ∧ (s.on (F.UNIT_CTRL_ENABLE 0x0A) = true) ∧ (s.on F.SIDE_STAT_SPLIT = false))
    ∧ (∃ s : State, (s.sst = 5) ∧ (s.on F.SIDE_STAT_RX_OK = true) ∧ (s.on F.SIDE_STAT_SPLIT = true))
    ∧ (∃ s : State, (s.sst = 5))
    ∧ (∃ s : State, (s.sst ≠ 5)) :=
  ⟨⟨sd 1, by decide +kernel⟩,
   ⟨sd 5, by decide +kernel⟩,
   ⟨put_ (sd 5) [(F.SIDE_STAT_SPLIT, 1)], by decide +kernel⟩,
   ⟨sd 5, by decide +kernel⟩,
   ⟨act, by decide +kernel⟩⟩
end SideLinkStates

namespace SideLinkFrames
def sw (ft : Nat) (p : List Byte) : Wire := let h := [b8 (16 * ft + 1), 0] ++ beBytes 2 p.length ++ p; ⟨h ++ beBytes 4 (crc32 h), false, false⟩
def sd (n : Nat) : State := { put_ act [(F.UNIT_CTRL_ENABLE 0x0A, 1), (F.SIDE_STAT_STATE, n), (F.SIDE_STAT_RX_OK, if n = 5 then 1 else 0)] with lt := 65536 * 5000000, now := 400000 }
set_option maxRecDepth 1000000 in
theorem test_hypsSideLinkFrames :
    (∃ s : State, ∃ f : Wire, let p := f.payload; let flags := (p.getD 8 0).toNat; ((s.begin.checkSide f).1 = true) ∧ (f.ftype = 8) ∧ (flags % 2 ≠ s.role))
    ∧ (∃ s : State, ∃ f : Wire, let p := f.payload; let flags := (p.getD 8 0).toNat; ((s.begin.checkSide f).1 = true) ∧ (f.ftype = 8) ∧ (flags % 2 = s.role) ∧ (s.on F.SIDE_STAT_ROLE_CONFLICT = false) ∧ (s.on (F.UNIT_CTRL_ENABLE 0x0A) = true))
    ∧ (∃ s : State, ∃ f : Wire, ((s.begin.checkSide f).1 = true) ∧ (f.ftype = 9) ∧ (16 ≤ f.len) ∧ (f.len = 16 + 16 * ofBe (slice f.payload 12 2)))
    ∧ (∃ s : State, ∃ f : Wire, ((s.begin.checkSide f).1 = true) ∧ (f.ftype = 10))
    ∧ (∃ s : State, ∃ f : Wire, ((s.begin.checkSide f).1 = false))
    ∧ (∃ s : State, ∃ f : Wire, (s.sst = 5) ∧ (s.blockRunning 0x0A = false) ∧ (f.crcOk = false) ∧ (f.abt = false) ∧ (f.codeErr = false)) :=
  ⟨⟨sd 5, sw 8 (beBytes 8 4000000 ++ [1, 0, 0, 0]), by decide +kernel⟩,
   ⟨sd 5, sw 8 (beBytes 8 4000000 ++ [0, 0, 0, 0]), by decide +kernel⟩,
   ⟨sd 5, sw 9 (beBytes 8 4000000 ++ [0, 0, 0, 1] ++ [0, 0, 0, 0]), by decide +kernel⟩,
   ⟨sd 5, sw 10 [0, 0, 0, 0], by decide +kernel⟩,
   ⟨act, sw 8 (beBytes 8 4000000 ++ [0, 0, 0, 0]), by decide +kernel⟩,
   ⟨sd 5, ⟨[0x81, 0, 0, 1, 2, 3, 4, 5, 6], false, false⟩, by decide +kernel⟩⟩
end SideLinkFrames

namespace LatchPoint
def fr0 : State := let s := put_ act [(F.UNIT_CTRL_ENABLE 0x18, 1), (F.UNIT_CTRL_ENABLE 0x50, 1), (F.UNIT_CTRL_ENABLE 0x51, 1), (F.UNIT_CTRL_ENABLE 0x19, 1), (F.TL_STAT_STATE 0, 5), (F.GOV_STAT_TABLES_OK, 1), (F.GOV_MODE_RELEASE, 1), (F.LAY_SIZE_W 0, 64), (F.LAY_SIZE_H 0, 64)]; { s with tln := { s.tln with running := true, nextFlip := 9000000 } }
def lay (l : List (Fld × Nat)) (s : State) : State := { s with pend := (put_ { s with regs := [] } l).regs, pendPages := [0x19] }
set_option maxRecDepth 1000000 in
theorem test_hypsLatchPoint :
    (∃ s : State, (s.tln.running = true) ∧ (s.cmp.deferred = false) ∧ (s.frameBlocked = false))
    ∧ (∃ s : State, ∃ n : Nat, (n < 16) ∧ (s.tln.running = true) ∧ (s.cmp.deferred = false) ∧ (s.frameBlocked = false) ∧ (s.pendPages.contains (layPage n) = true))
    ∧ (∃ s : State, (s.tln.running = true) ∧ (s.cmp.deferred = true) ∧ (s.frameBlocked = false) ∧ (s.shaped = true))
    ∧ (∃ s : State, (s.tln.running = true) ∧ (s.frameBlocked = true))
    ∧ (∃ s : State, (s.tln.running = false)) :=
  ⟨⟨fr0, by decide +kernel⟩,
   ⟨lay [(F.LAY_SIZE_W 0, 32), (F.LAY_CTRL_FRONT 0, 1)] fr0, 0, by decide +kernel⟩,
   ⟨{ fr0 with cmp := { fr0.cmp with deferred := true, bands := [(0, [])] }, tln := { fr0.tln with committed := true } }, by decide +kernel⟩,
   ⟨{ fr0 with rst := { fr0.rst with blocks := [⟨0x18, true⟩] } }, by decide +kernel⟩,
   ⟨State.reset, by decide +kernel⟩⟩
end LatchPoint

namespace BandSlot
theorem mem_join (l m : List (Nat × Nat)) (e : Nat × Nat) (h : e ∈ m ∨ e ∈ l) : e ∈ l.foldl (fun l e => if l.contains e then l else l ++ [e]) m := by
  induction l generalizing m with
  | nil => simpa using h
  | cons x t ih =>
    rw [List.foldl_cons]
    apply ih
    rcases h with h | h
    · left; split <;> simp [h]
    · rcases List.mem_cons.mp h with rfl | h
      · left; split
        · rename_i hc; simpa using hc
        · simp
      · exact Or.inr h

/-- A failing word on which the first pixel depends is among those on which a rectangle depends. -/
theorem mem_parityIn {s : State} {bad : List Nat} {b x0 w : Nat} {e : Nat × Nat}
    (h : bad.isEmpty = false ∧ 0 < 32 * w ∧ e ∈ s.parityAt bad (x0 + 0 % w) (32 * b + 0 / w)) : e ∈ s.parityIn bad b x0 w := by
  obtain ⟨hb, hw, h⟩ := h
  have keep : ∀ (r : List Nat) (m : List (Nat × Nat)), e ∈ m → e ∈ r.foldl (fun l i =>
      (s.parityAt bad (x0 + i % w) (32 * b + i / w)).foldl (fun l e => if l.contains e then l else l ++ [e]) l) m := by
    intro r
    induction r with
    | nil => exact fun m hm => hm
    | cons i t ih => exact fun m hm => by rw [List.foldl_cons]; exact ih _ (mem_join _ _ _ (Or.inl hm))
  obtain ⟨k, hk⟩ := Nat.exists_eq_succ_of_ne_zero (Nat.ne_of_gt hw)
  rw [State.parityIn, hb, hk, List.range_succ_eq_map, List.foldl_cons]
  exact keep _ _ (mem_join _ _ _ (Or.inr h))

def fr0 : State := let s := put_ act [(F.UNIT_CTRL_ENABLE 0x18, 1), (F.UNIT_CTRL_ENABLE 0x50, 1), (F.UNIT_CTRL_ENABLE 0x51, 1), (F.UNIT_CTRL_ENABLE 0x19, 1), (F.TL_STAT_STATE 0, 5), (F.GOV_STAT_TABLES_OK, 1), (F.GOV_MODE_RELEASE, 1), (F.LAY_SIZE_W 0, 64), (F.LAY_SIZE_H 0, 64), (F.CMP_STAT_COMPOSING, 1)]; { s with tln := { s.tln with running := true, nextFlip := 9000000, latched := true } }
def frg : State := let s := put_ fr0 [(F.UNIT_CTRL_ENABLE 0x30, 1), (F.LAY_CTRL_SRC 0, 1)]; { s with cmp := { s.cmp with active := [0] } }
def frl : State := let s := put_ fr0 [(F.LAY_STRIDE_STRIDE 0, 2)]; { s with cmp := { s.cmp with active := [0] } }
set_option maxRecDepth 1000000 in
theorem test_hypsBandSlot :
    (∃ s : State, ∃ k : Nat, (k < 16) ∧ (s.tln.latched = true) ∧ (s.tln.closed = false) ∧ (s.on F.CMP_STAT_COMPOSING = true) ∧ (s.g F.FLT_INJ_STATE ≠ 1) ∧ ((∀ b, b ∈ s.slotBands k → s.composedBand b = none)) ∧ ((∀ b, b ∈ s.slotBands k → ∀ n, n ∈ s.glareReads b → (s.engine n).written.contains (b % 16) = true)))
    ∧ (∃ s : State, ∃ k : Nat, ∃ b : Nat, ∃ n : Nat, (k < 16) ∧ (s.tln.latched = true) ∧ (s.tln.closed = false) ∧ (s.on F.CMP_STAT_COMPOSING = true) ∧ (s.g F.FLT_INJ_STATE ≠ 1) ∧ ((∀ b, b ∈ s.slotBands k → s.composedBand b = none)) ∧ (b ∈ s.slotBands k) ∧ (n ∈ s.glareReads b) ∧ ((s.engine n).written.contains (b % 16) = false))
    ∧ (∃ s : State, ∃ k : Nat, ∃ b : Nat, ∃ bad : List Nat, ∃ h : Nat, ∃ e : Nat × Nat, (k < 16) ∧ (s.tln.latched = true) ∧ (s.tln.closed = false) ∧ (s.on F.CMP_STAT_COMPOSING = true) ∧ (s.g F.FLT_INJ_STATE ≠ 1) ∧ (s.slotBands k = [b]) ∧ (s.composedBand b = none) ∧ (s.glareReads b = []) ∧ (h < 8) ∧ (e ∈ s.parityIn bad b (256 * h) 256))
    ∧ (∃ s : State, (s.tln.latched = false ∨ s.tln.closed = true ∨ s.on F.CMP_STAT_COMPOSING = false)) :=
  ⟨⟨frl, 0, by decide +kernel⟩,
   ⟨frg, 0, 0, 0, by decide +kernel⟩,
   ⟨frl, 0, 0, [0x20000000], 0, (0, 0x20000000), by decide +kernel, by decide +kernel, by decide +kernel, by decide +kernel, by decide +kernel, by decide +kernel, by decide +kernel, by decide +kernel, by decide, mem_parityIn (by decide +kernel)⟩,
   ⟨{ fr0 with tln := { fr0.tln with closed := true } }, by decide +kernel⟩⟩
end BandSlot

namespace BandRelease
def fr0 : State := let s := put_ act [(F.UNIT_CTRL_ENABLE 0x18, 1), (F.UNIT_CTRL_ENABLE 0x50, 1), (F.UNIT_CTRL_ENABLE 0x51, 1), (F.UNIT_CTRL_ENABLE 0x19, 1), (F.TL_STAT_STATE 0, 5), (F.GOV_STAT_TABLES_OK, 1), (F.GOV_MODE_RELEASE, 1), (F.LAY_SIZE_W 0, 64), (F.LAY_SIZE_H 0, 64), (F.CMP_STAT_COMPOSING, 1)]; { s with tln := { s.tln with running := true, nextFlip := 9000000, latched := true } }
def vv : List Nat := [40000, 30000, 65535]
def fra : State := let s := put_ fr0 [(F.GOV_MODE_CUR, 2)]; { s with cmp := { s.cmp with bands := [(0, vv)] }, cal := { s.cal with tiles := [{ CalTile.init with load := false }] }, gov := { s.gov with limits := List.replicate 256 (1000 * 2 ^ 14) }, mem := [⟨0x30020000, 5⟩, ⟨0x30020001, 0x83⟩, ⟨0x30060000 + 1286, 0⟩, ⟨0x30060000 + 1287, 0x40⟩, ⟨0x3007A008, 0⟩, ⟨0x3007A009, 0x10⟩] }
set_option maxRecDepth 1000000 in
theorem test_hypsBandRelease :
    (∃ s : State, ∃ k : Nat, ∃ b : Nat, ∃ o : Nat, ∃ v : List Nat, ((b = k ∧ o = k + 16) ∨ (b = k + 16 ∧ o = k)) ∧ (s.tln.latched = true) ∧ (s.g F.FLT_INJ_STATE ≠ 1) ∧ (b ∈ s.slotBands k) ∧ (s.composedBand b = some v) ∧ (s.composedBand o = none) ∧ (s.cmp.released.any (fun e => e.1 = b) = false))
    ∧ (∃ s : State, ∃ k : Nat, ∃ b : Nat, (s.tln.latched = true) ∧ (s.g F.FLT_INJ_STATE ≠ 1) ∧ (b ∈ s.slotBands k) ∧ ((s.composedBand b).isSome = true))
    ∧ (∃ s : State, ∃ k : Nat, ((∀ b, b ∈ s.slotBands k → s.composedBand b = none) ∨ s.tln.latched = false)) :=
  ⟨⟨fra, 0, 0, 16, vv, by decide +kernel⟩,
   ⟨fra, 0, 0, by decide +kernel⟩,
   ⟨fr0, 0, by decide +kernel⟩⟩
end BandRelease

namespace GovernorNeverExceeds
def full : State := { act with gov := { act.gov with sums := [3, 7], limits := [5, 7] } }
set_option maxRecDepth 1000000 in
theorem test_hypsGovernorNeverExceeds :
    (∃ s : State, ∃ t : State, (step s = .next t) ∧ ((∀ z, s.gov.sums.getD z 0 ≤ s.gov.limits.getD z 0))) :=
  ⟨full, full.tick, rfl, fun z => match z with | 0 => by decide +kernel | 1 => by decide +kernel | _ + 2 => by simp [full]⟩
end GovernorNeverExceeds

namespace RegionsAndReports
def fr0 : State := let s := put_ act [(F.UNIT_CTRL_ENABLE 0x18, 1), (F.UNIT_CTRL_ENABLE 0x50, 1), (F.UNIT_CTRL_ENABLE 0x51, 1), (F.UNIT_CTRL_ENABLE 0x19, 1), (F.TL_STAT_STATE 0, 5), (F.GOV_STAT_TABLES_OK, 1), (F.GOV_MODE_RELEASE, 1), (F.CMP_STAT_COMPOSING, 1), (F.GOV_MODE_CUR, 2)]; { s with tln := { s.tln with running := true, nextFlip := 9000000, latched := true } }
def frr (c : Nat) (p : List (Nat × Nat)) : State := { fr0 with cmp := { fr0.cmp with recomp := [⟨0, 0, 8, c, p, false⟩], released := [(0, List.replicate 300 (5, 0))] } }
def rg (b : Nat) : Rgn := ⟨b, 8, 2, 1, true, false⟩
def rp (s : State) (m : Nat) (snd_ : Option Rgn) : State := { s with lanes := s.lanes.set 0 { s.lane 0 with due := [rg 3, rg 4], queue := [rg 0, rg 15], missRun := m, sending := snd_ } }
set_option maxRecDepth 1000000 in
theorem test_hypsRegionsAndReports :
    (∃ s : State, ∃ r, ∃ rest, (s.cmp.recomp = r :: rest) ∧ (s.tln.latched = true) ∧ (s.tln.closed = false) ∧ (s.cmp.released.any (fun e => e.1 = r.band) = true) ∧ (s.armed S.CMP_PARITY_UNC = false) ∧ (r.parity = []))
    ∧ (∃ s : State, ∃ r, ∃ rest, ∃ e, (s.cmp.recomp = r :: rest) ∧ (s.tln.latched = true) ∧ (s.tln.closed = false) ∧ (s.cmp.released.any (fun e => e.1 = r.band) = true) ∧ (s.armed S.CMP_PARITY_UNC = false) ∧ (cmpPages.any s.quiet = false) ∧ (e ∈ r.parity))
    ∧ (∃ s : State, (s.cmp.recomp = []))
    ∧ (∃ s : State, ∃ n : Nat, ∃ r, ∃ rest, (s.shaped = true) ∧ (n < 8) ∧ (s.tlst n = 5) ∧ ((s.lane n).queue = r :: rest))
    ∧ (∃ s : State, ∃ n : Nat, (s.tlst n ≠ 5 ∨ (s.lane n).queue = []))
    ∧ (∃ s : State, ∃ n : Nat, ∃ r, ∃ rest, (s.shaped = true) ∧ (n < 8) ∧ ((s.lane n).due = r :: rest) ∧ ((s.lane n).missRun = 0) ∧ (s.defLevel S.TL_REPORT_MISS ≤ 1) ∧ (s.tln.closed = false) ∧ ((s.tln.latched = true → r.frame = s.frameNo % 65536 → s.triesOf (fieldBand n r.band, n, r.cell0) < s.g F.CMP_CTRL_RETRY_MAX)))
    ∧ (∃ s : State, ∃ n : Nat, ∃ r, ∃ rest, (s.shaped = true) ∧ (n < 8) ∧ ((s.lane n).due = r :: rest) ∧ (1 ≤ (s.lane n).missRun) ∧ (s.tlst n = 5) ∧ ((s.lane n).sending = none) ∧ (s.tln.latched = false) ∧ ((s.lane n).retrains < s.g (F.TL_CTRL_TRIES n)) ∧ (s.defLevel S.TL_REPORT_MISS ≤ 1) ∧ (s.defLevel S.TL_RETRAIN ≤ 1))
    ∧ (∃ s : State, ∃ n : Nat, ((s.lane n).due = []) ∧ ((s.lane n).sending = none)) :=
  ⟨⟨frr 2 [], ⟨0, 0, 8, 2, [], false⟩, [], by decide +kernel⟩,
   ⟨frr 8 [(3, 0x20000000), (15, 0x20000010)], ⟨0, 0, 8, 8, [(3, 0x20000000), (15, 0x20000010)], false⟩, [], (3, 0x20000000), by decide +kernel⟩,
   ⟨fr0, by decide +kernel⟩,
   ⟨rp fr0 0 none, 0, rg 0, [rg 15], by decide +kernel⟩,
   ⟨frr 2 [], 0, by decide +kernel⟩,
   ⟨rp fr0 0 none, 0, rg 3, [rg 4], by decide +kernel⟩,
   ⟨rp { fr0 with tln := { fr0.tln with latched := false } } 1 none, 0, rg 3, [rg 4], by decide +kernel⟩,
   ⟨frr 2 [], 0, by decide +kernel⟩⟩
end RegionsAndReports

namespace DeadlineAndFlip
def fr0 : State := let s := put_ act [(F.UNIT_CTRL_ENABLE 0x18, 1), (F.UNIT_CTRL_ENABLE 0x50, 1), (F.UNIT_CTRL_ENABLE 0x51, 1), (F.TL_STAT_STATE 0, 5), (F.GOV_STAT_TABLES_OK, 1), (F.GOV_MODE_RELEASE, 1), (F.GOV_MODE_CUR, 2), (F.TL_CTRL_SR_EN 0, 1), (F.SIDE_STAT_STATE, 5)]; { s with lt := 65536 * 70000000000, tln := { s.tln with running := true, nextFlip := 9000000, latched := true, adj := -5 } }
def cm (s : State) : State := { s with tln := { s.tln with committed := true, closed := true } }
def frc : State := let s := put_ fr0 [(F.CMP_STAT_COMPOSING, 1), (F.CMP_FRAME_FRAME_NO, 41), (F.CMP_STAT_REPEATING, 1)]; { s with pendPages := [1], gov := { s.gov with u := List.replicate 256 3, factors := [(0, List.replicate 256 65535)] } }
def ok3 (f : Nat) (s : State) : State := let t := put_ s [(F.SAF_STAT_FSTATE, f), (F.CMP_STAT_DEFER_RUN, 2)]; { t with saf := { t.saf with lastKick := some 0, healthyFor := [true, true, true, true] } }
set_option maxRecDepth 1000000 in
theorem test_hypsDeadlineAndFlip :
    (∃ s : State, (s.tln.latched = true) ∧ (s.tln.closed = false) ∧ (s.frameDone = true))
    ∧ (∃ s : State, (s.tln.latched = true) ∧ (s.tln.closed = true))
    ∧ (∃ s : State, (s.tln.latched = true) ∧ (s.tln.closed = false) ∧ (s.frameDone = false))
    ∧ (∃ s : State, (s.tln.latched = false))
    ∧ (∃ s : State, (s.tln.committed = true))
    ∧ (∃ s : State, (s.tln.committed = false)) :=
  ⟨⟨fr0, by decide +kernel⟩,
   ⟨cm fr0, by decide +kernel⟩,
   ⟨frc, by decide +kernel⟩,
   ⟨State.reset, by decide +kernel⟩,
   ⟨cm fr0, by decide +kernel⟩,
   ⟨fr0, by decide +kernel⟩⟩
end DeadlineAndFlip

namespace ObjectCutoff
def fr0 : State := let s := put_ act [(F.UNIT_CTRL_ENABLE 0x50, 1), (F.UNIT_CTRL_ENABLE 0x51, 1), (F.GLR_KSEL_ROM, 0), (F.CSF_STAT_LT_VALID, 1)]; { s with lt := 65536 * 5000000000, now := 100, tln := { s.tln with running := true, nextFlip := 9000000 } }
def ob1 : Obj := ⟨1, 2, 1, -100, 300, -200, 500, 40, -40, 3, -3, 4990000000⟩
def ol (t : Nat) : ObjList := ⟨7, t, [ob1, { ob1 with tObs := 5000000001, mclass := 2 }]⟩
def gl (t : Nat) : State := let s := put_ fr0 [(F.UNIT_CTRL_ENABLE 0x30, 1), (F.UNIT_CTRL_ENABLE 0x31, 1), (F.BE_GEO1_PH 0, 2000), (F.BE_GEO1_PV 0, 2000)]; { s with glare := { s.glare with newest := some (ol t) }, cmd := { s.cmd with rings := [[], [], [⟨0, 2, 7, 0, 0, List.replicate 8 1⟩], []] } }
set_option maxRecDepth 1000000 in
theorem test_hypsObjectCutoff :
    (∃ s : State, (s.tln.running = true))
    ∧ (∃ s : State, ∃ l : ObjList, (s.tln.running = true) ∧ (s.on (F.UNIT_CTRL_ENABLE 0x30) = true) ∧ (s.blockRunning 0x30 = false) ∧ (s.glare.newest = some l) ∧ (s.consuming 2 = true) ∧ (s.armed S.CMD_REPLAY = false) ∧ (s.glare.store = none) ∧ (s.shaped = true))
    ∧ (∃ s : State, ∃ l : ObjList, ∃ p : Packet, ∃ q : List Packet, (s.tln.running = true) ∧ (s.on (F.UNIT_CTRL_ENABLE 0x30) = true) ∧ (s.blockRunning 0x30 = false) ∧ (s.glare.newest = some l) ∧ (s.ring 2 = p :: q) ∧ (s.cmd.rings.length = 4))
    ∧ (∃ s : State, (s.tln.running = true) ∧ (s.on (F.UNIT_CTRL_ENABLE 0x30) = false))
    ∧ (∃ s : State, (s.tln.running = false)) :=
  ⟨⟨fr0, by decide +kernel⟩,
   ⟨gl 4990000000, ol 4990000000, by decide +kernel⟩,
   ⟨gl 4990000000, ol 4990000000, ⟨0, 2, 7, 0, 0, List.replicate 8 1⟩, [], by decide +kernel⟩,
   ⟨fr0, by decide +kernel⟩,
   ⟨{ (gl 4990000000) with tln := { (gl 1).tln with running := false } }, by decide +kernel⟩⟩
end ObjectCutoff

namespace KernelBands
def g0 : State := let s := put_ act [(F.UNIT_CTRL_ENABLE 0x30, 1), (F.UNIT_CTRL_ENABLE 0x31, 1), (F.UNIT_CTRL_ENABLE 0x38, 1), (F.GLR_KSEL_ROM, 0), (F.BE_CYC_MAX 0, 9)]; { s with tln := { s.tln with running := true }, glare := { s.glare with engines := List.replicate 8 { Engine.init with boxes := [⟨-3, 5, 30, 40⟩, ⟨100, 90, 0, 3⟩] } } }
set_option maxRecDepth 1000000 in
theorem test_hypsKernelBands :
    (∃ s : State, ∃ n : Nat, ∃ b : Nat, (s.renders n b = true) ∧ (s.runsKernel n = true) ∧ (s.glare.engines.length = 8))
    ∧ (∃ s : State, ∃ n : Nat, ∃ b : Nat, (s.renders n b = true) ∧ (s.runsKernel n = false) ∧ (s.glare.engines.length = 8))
    ∧ (∃ s : State, ∃ n : Nat, ∃ b : Nat, (s.renders n b = true))
    ∧ (∃ s : State, ∃ n : Nat, ∃ b : Nat, (s.renders n b = false)) :=
  ⟨⟨put_ g0 [(F.BE_STAT_MISS_RUN 7, 2), (F.GLR_CTRL_MISS_MAX, 3)], 7, 15, by decide +kernel⟩,
   ⟨put_ { g0 with glare := { g0.glare with engines := List.replicate 8 Engine.init } } [(F.GLR_KSEL_ROM, 1)], 0, 15, by decide +kernel⟩,
   ⟨put_ g0 [(F.BE_STAT_MISS_RUN 7, 2), (F.GLR_CTRL_MISS_MAX, 3)], 0, 15, by decide +kernel⟩,
   ⟨act, 0, 15, by decide +kernel⟩⟩
end KernelBands

namespace KernelLoading
def ks : State := put_ act [(F.GLR_KSEL_ROM, 0), (F.GLR_KSEL_SLOT, 1), (kstat 0, 1), (kstat 1, 1)]
def big : State := ks.setBytes (ks.beamWin + 12) [0xFF, 0xFF, 0, 0]
set_option maxRecDepth 1000000 in
theorem test_hypsKernelLoading :
    (∃ s : State, ∃ m : Master, ∃ v : Word, (s.masterRuns m = true) ∧ (s.mayWrite m 0x30 0x48 = true) ∧ (v.toNat % 2 = 1) ∧ (s.slotActive (v.toNat / 2 % 2) = false))
    ∧ (∃ s : State, ∃ m : Master, ∃ v : Word, (s.masterRuns m = true) ∧ (s.mayWrite m 0x30 0x48 = true) ∧ (v.toNat % 2 = 0 ∨ s.slotActive (v.toNat / 2 % 2) = true))
    ∧ (∃ s : State, ∃ k : Nat, (k < 2) ∧ (s.g (kstat k) = 1))
    ∧ (∃ s : State, ∃ k : Nat, (32768 < 64 + ofLe (slice (s.bytes (s.beamWin + 0x8000 * k) 32768) 12 4) + 192))
    ∧ (∃ s : State, ∃ k : Nat, (64 + ofLe (slice (s.bytes (s.beamWin + 0x8000 * k) 32768) 12 4) + 192 ≤ 32768))
    ∧ (∃ s : State, ∃ k : Nat, (s.g (kstat k) ≠ 1)) :=
  ⟨⟨ks, .app, 1, by decide +kernel⟩,
   ⟨ks, .app, 3, by decide +kernel⟩,
   ⟨ks, 0, by decide +kernel⟩,
   ⟨big, 0, by decide +kernel⟩,
   ⟨ks, 0, by decide +kernel⟩,
   ⟨act, 0, by decide +kernel⟩⟩
end KernelLoading

namespace Calibration
def c0 : State := { act with cal := { act.cal with tiles := List.replicate 8 { CalTile.init with load := false, hadTemp := true } } }
def c1 : State := (c0.setBytes (0x28260100 + 8) [0, 0, 100, 0, 200, 0]).setBytes 0x28200000 [0, 0x80, 0, 0x90, 0, 0xA0]
set_option maxRecDepth 1000000 in
theorem test_hypsCalibration :
    (∃ s : State, ∃ m : Master, ∃ v : Word, ∃ n : Nat, (s.masterRuns m = true) ∧ (s.mayWrite m 0x48 0x48 = true) ∧ (n < 8) ∧ (v.toNat % 512 = 2 ^ n) ∧ ((s.calTile n).load = false) ∧ (s.cal.jobs = []))
    ∧ (∃ s : State, ∃ m : Master, ∃ v : Word, ∃ n : Nat, (s.masterRuns m = true) ∧ (s.mayWrite m 0x48 0x48 = true) ∧ (n < 8) ∧ (v.toNat % 512 = 2 ^ n) ∧ ((s.calTile n).load = true))
    ∧ (∃ s : State, ∃ n : Nat, ∃ temp : Int, ∃ own : Bool, ∃ rest : List (Nat × Int × Bool), (s.cal.jobs = (n, temp, own) :: rest) ∧ (s.cal.tiles.length = 8) ∧ (n < 8))
    ∧ (∃ s : State, ∃ n : Nat, ((∀ j, s.cal.jobs.head? = some j → j.1 ≠ n)))
    ∧ (∃ s : State, ∃ m : Master, ∃ v : Word, (s.masterRuns m = true) ∧ (s.mayWrite m 0x48 0x48 = true) ∧ (v.toNat % 512 = 256) ∧ (s.on F.CAL_STAT_TRIM_BUSY = false))
    ∧ (∃ s : State, ∃ m : Master, ∃ v : Word, (s.masterRuns m = true) ∧ (s.mayWrite m 0x48 0x48 = true) ∧ (v.toNat % 512 = 256) ∧ (s.on F.CAL_STAT_TRIM_BUSY = true))
    ∧ (∃ s : State, (s.on F.CAL_STAT_TRIM_BUSY = true))
    ∧ (∃ s : State, (s.on F.CAL_STAT_TRIM_BUSY = false)) :=
  ⟨⟨c0, .app, 1, 0, by decide +kernel⟩,
   ⟨act, .app, 1, 0, by decide +kernel⟩,
   ⟨{ c1 with cal := { c1.cal with jobs := [(0, 50, true), (7, 30, false)] } }, 0, 50, true, [(7, 30, false)], by decide +kernel⟩,
   ⟨act, 0, by decide +kernel⟩,
   ⟨act, .app, 256, by decide +kernel⟩,
   ⟨put_ { c0 with lanes := act.lanes.map (fun l => { l with statusAt := some 0 }) } [(F.CAL_STAT_TRIM_BUSY, 1)], .app, 256, by decide +kernel⟩,
   ⟨put_ { c0 with lanes := act.lanes.map (fun l => { l with statusAt := some 0 }) } [(F.CAL_STAT_TRIM_BUSY, 1)], by decide +kernel⟩,
   ⟨act, by decide +kernel⟩⟩
end Calibration

namespace DigestAndFluxRecord
def d0 : State := put_ act [(F.GOV_STAT_TABLES_OK, 1), (F.THM_STAT_FLASH_OK, 1), (F.FLX_GAIN_F23 0, 70000)]
set_option maxRecDepth 1000000 in
theorem test_hypsDigestAndFluxRecord :
    (∃ s : State, (s.on F.GOV_STAT_TABLES_OK = true) ∧ (s.saf.halted = false) ∧ (s.g F.FLT_INJ_STATE ≠ 1))
    ∧ (∃ s : State, (s.on F.GOV_STAT_TABLES_OK = false ∨ s.saf.halted = true))
    ∧ (∃ s : State, (s.fluxMoved = true) ∧ ((∀ w, s.flx.writtenAt = some w → ms 60000 ≤ s.now - w)) ∧ (s.on F.THM_STAT_FLASH_OK = true))
    ∧ (∃ s : State, (s.fluxMoved = true) ∧ ((∀ w, s.flx.writtenAt = some w → ms 60000 ≤ s.now - w)) ∧ (s.on F.THM_STAT_FLASH_OK = false))
    ∧ (∃ s : State, (s.fluxMoved = false ∨ (∃ w, s.flx.writtenAt = some w ∧ s.now - w < ms 60000))) :=
  ⟨⟨d0, by decide +kernel⟩,
   ⟨act, by decide +kernel⟩,
   ⟨d0, by decide +kernel⟩,
   ⟨act, by decide +kernel⟩,
   ⟨put_ { d0 with flx := { d0.flx with record := some ⟨0, List.replicate 8 (0, 70000)⟩, writtenAt := some 0 }, now := 100 } [(F.THM_STAT_FLASH_OK, 0)], by decide +kernel⟩⟩
end DigestAndFluxRecord

namespace LaneDiscovery
def la (st : Nat) : State := let s := put_ act ([(F.UNIT_CTRL_ENABLE 0x50, 1), (F.UNIT_CTRL_ENABLE 0x51, 1), (F.UNIT_CTRL_ENABLE 0x58, 1)] ++ (List.range 8).map (fun n => (F.TL_STAT_STATE n, st))); { s with now := 123456 }
def md (f : Lane → Lane) (s : State) : State := { s with lanes := s.lanes.map f }
set_option maxRecDepth 1000000 in
theorem test_hypsLaneDiscovery :
    (∃ s : State, ∃ n : Nat, (n < 8) ∧ (s.tlst n = 1))
    ∧ (∃ s : State, ∃ n : Nat, (n < 8) ∧ (s.tlst n = 2) ∧ ((s.lane n).assigned = true) ∧ (s.shaped = true))
    ∧ (∃ s : State, ∃ n : Nat, (n < 8) ∧ (s.tlst n = 2) ∧ ((s.lane n).assigned = false) ∧ (s.shaped = true))
    ∧ (∃ s : State, ∃ n : Nat, (n < 8) ∧ (s.tlst n = 3) ∧ ((s.lane n).tries < s.g (F.TL_CTRL_TRIES n)) ∧ (s.shaped = true))
    ∧ (∃ s : State, ∃ n : Nat, ∃ c : Instr, (n < 8) ∧ (c = Instr.assignTimeout n ∧ s.tlst n = 3 ∧ s.g (F.TL_CTRL_TRIES n) ≤ (s.lane n).tries ∨ c = .identTimeout n ∧ s.tlst n = 4))
    ∧ (∃ s : State, ∃ n : Nat, (n < 8) ∧ (s.tlst n ≠ 1))
    ∧ (∃ s : State, ∃ n : Nat, (n < 8) ∧ (s.tlst n ≠ 2))
    ∧ (∃ s : State, ∃ n : Nat, (n < 8) ∧ (s.tlst n ≠ 3))
    ∧ (∃ s : State, ∃ n : Nat, (n < 8) ∧ (s.tlst n ≠ 4))
    ∧ (∃ s : State, ∃ n : Nat, (n < 8) ∧ (5 ≤ s.tlst n) ∧ (s.tlst n ≤ 7))
    ∧ (∃ s : State, ∃ n : Nat, (n < 8) ∧ (s.tlst n < 5 ∨ 7 < s.tlst n))
    ∧ (∃ s : State, (s.on (F.UNIT_CTRL_ENABLE 0x50) = true) ∧ (s.on F.CLK_STAT_ROOT_OK = true))
    ∧ (∃ s : State, (s.on (F.UNIT_CTRL_ENABLE 0x50) = false ∨ s.on F.CLK_STAT_ROOT_OK = false)) :=
  ⟨⟨la 1, 0, by decide +kernel⟩,
   ⟨md (fun l => { l with assigned := true }) (la 2), 0, by decide +kernel⟩,
   ⟨la 2, 0, by decide +kernel⟩,
   ⟨la 3, 0, by decide +kernel⟩,
   ⟨md (fun l => { l with tries := 7 }) (la 3), 0, .assignTimeout 0, by decide +kernel⟩,
   ⟨la 0, 0, by decide +kernel⟩,
   ⟨la 0, 0, by decide +kernel⟩,
   ⟨la 0, 0, by decide +kernel⟩,
   ⟨la 0, 0, by decide +kernel⟩,
   ⟨la 5, 0, by decide +kernel⟩,
   ⟨la 0, 0, by decide +kernel⟩,
   ⟨la 0, by decide +kernel⟩,
   ⟨State.reset, by decide +kernel⟩⟩
end LaneDiscovery

namespace LaneTemperature
def la (st : Nat) : State := let s := put_ act ([(F.UNIT_CTRL_ENABLE 0x50, 1), (F.UNIT_CTRL_ENABLE 0x51, 1), (F.UNIT_CTRL_ENABLE 0x58, 1)] ++ (List.range 8).map (fun n => (F.TL_STAT_STATE n, st))); { s with now := 123456 }
def md (f : Lane → Lane) (s : State) : State := { s with lanes := s.lanes.map f }
set_option maxRecDepth 1000000 in
theorem test_hypsLaneTemperature :
    (∃ s : State, ∃ n : Nat, (n < 8) ∧ (s.tlst n = 5 ∨ s.tlst n = 6) ∧ (s.shaped = true))
    ∧ (∃ s : State, ∃ n : Nat, (n < 8) ∧ (s.tlst n ≠ 5) ∧ (s.tlst n ≠ 6))
    ∧ (∃ s : State, ∃ n : Nat, (n < 8) ∧ (s.tlst n = 7) ∧ ((s.lane n).coolSince.isSome = true) ∧ (s.shaped = true))
    ∧ (∃ s : State, ∃ n : Nat, (n < 8) ∧ (s.tlst n ≠ 7 ∨ (s.lane n).coolSince = none)) :=
  ⟨⟨la 5, 0, by decide +kernel⟩,
   ⟨la 0, 0, by decide +kernel⟩,
   ⟨md (fun l => { l with coolSince := some 3 }) (la 7), 0, by decide +kernel⟩,
   ⟨la 0, 0, by decide +kernel⟩⟩
end LaneTemperature

namespace TsbRounds
def la (st : Nat) : State := let s := put_ act ([(F.UNIT_CTRL_ENABLE 0x50, 1), (F.TLN_CTRL_TSB_EN, 1), (F.UNIT_CTRL_ENABLE 0x51, 1), (F.TL_STAT_STATE 0, st)]); { s with now := 123456 }
def md (f : Lane → Lane) (s : State) : State := { s with lanes := s.lanes.set 0 (f (s.lane 0)) }
def rg (b : Nat) : Rgn := ⟨b, 8, 2, 1, true, false⟩
set_option maxRecDepth 1000000 in
theorem test_hypsTsbRounds :
    (∃ s : State, (s.tsbRuns = true) ∧ ((∀ n, n < 8 → s.tlst n = 0 ∧ (s.calTile n).hadTemp = false)))
    ∧ (∃ s : State, (s.tsbRuns = true) ∧ (s.tln.tsbMiss = 3) ∧ ((∀ n, n < 8 → s.tlst n = 0 ∧ (s.calTile n).hadTemp = false)))
    ∧ (∃ s : State, ∃ n : Nat, ∃ slots : List Nat, (n < 8) ∧ (s.alone n = true) ∧ (s.tsbRuns = true) ∧ (s.shaped = true) ∧ (s.tlst n = 3) ∧ (slots.getD n 15 % 2 = 0))
    ∧ (∃ s : State, ∃ n : Nat, ∃ slots : List Nat, (n < 8) ∧ (s.alone n = true) ∧ (s.tsbRuns = true) ∧ (s.shaped = true) ∧ (s.tlst n ≠ 0) ∧ (s.tlst n ≠ 3) ∧ (s.tlst n ≠ 8) ∧ ((s.lane n).assigned = true) ∧ ((s.lane n).noAlive = 7) ∧ (slots.getD n 15 % 2 = 1))
    ∧ (∃ s : State, ∃ n : Nat, ∃ slots : List Nat, ∃ r : Rgn, ∃ q : List Rgn, (n < 8) ∧ (s.alone n = true) ∧ (s.tsbRuns = true) ∧ (s.shaped = true) ∧ (s.tlst n = 5) ∧ ((s.lane n).assigned = true) ∧ (slots.getD n 15 % 4 = 2 ∨ slots.getD n 15 % 8 = 4) ∧ ((s.lane n).msg.length < 64) ∧ ((s.lane n).due = r :: q) ∧ (s.armed S.TL_CRC = false))
    ∧ (∃ s : State, ∃ n : Nat, ∃ slots : List Nat, ∃ r : Rgn, ∃ q : List Rgn, (n < 8) ∧ (s.alone n = true) ∧ (s.tsbRuns = true) ∧ (s.shaped = true) ∧ (s.tlst n = 5) ∧ ((s.lane n).assigned = true) ∧ (slots.getD n 15 % 8 = 0) ∧ ((s.lane n).due = r :: q) ∧ (s.tln.latched = false) ∧ (s.armed S.TL_CRC = false))
    ∧ (∃ s : State, (s.tsbRuns = false)) :=
  ⟨⟨la 0, by decide +kernel⟩,
   ⟨{ (la 0) with tln := { (la 0).tln with tsbMiss := 3 } }, by decide +kernel⟩,
   ⟨la 3, 0, [0], by decide +kernel⟩,
   ⟨md (fun l => { l with assigned := true, noAlive := 7 }) (la 5), 0, [], by decide +kernel⟩,
   ⟨md (fun l => { l with assigned := true, due := [rg 1, rg 2] }) (la 5), 0, [2], rg 1, [rg 2], by decide +kernel⟩,
   ⟨md (fun l => { l with assigned := true, due := [rg 1, rg 2] }) (la 5), 0, [0], rg 1, [rg 2], by decide +kernel⟩,
   ⟨State.reset, by decide +kernel⟩⟩
end TsbRounds

namespace TsbMessages
def la (st : Nat) : State := let s := put_ act ([(F.UNIT_CTRL_ENABLE 0x50, 1), (F.TLN_CTRL_TSB_EN, 1), (F.UNIT_CTRL_ENABLE 0x51, 1), (F.TL_STAT_STATE 0, st)]); { s with now := 123456, lanes := s.lanes.set 0 { s.lane 0 with assigned := true } }
def md (f : Lane → Lane) (s : State) : State := { s with lanes := s.lanes.set 0 (f (s.lane 0)) }
def mw (ty temp flags frame : Nat) : BitVec 64 := let v := BitVec.ofNat 64 (ty * 2 ^ 60 + temp * 2 ^ 40 + flags * 2 ^ 24 + frame * 2 ^ 8); v + BitVec.ofNat 64 (crc8 v)
def capw (c : Nat) : BitVec 64 := let v := BitVec.ofNat 64 (4 * 2 ^ 60 + c * 2 ^ 8); v + BitVec.ofNat 64 (crc8 v)
set_option maxRecDepth 1000000 in
theorem test_hypsTsbMessages :
    (∃ s : State, ∃ n : Nat, ∃ w : BitVec 64, ∃ c : Instr, (s.hears n = true) ∧ (c ∈ [Instr.tsbStatus n w, .tsbUidLo n w, .tsbUidHi n w, .tsbCap n w]) ∧ (crc8 w ≠ w.toNat % 256))
    ∧ (∃ s : State, ∃ n : Nat, ∃ w : BitVec 64, (s.hears n = true) ∧ (crc8 w = w.toNat % 256) ∧ (s.armed S.TL_MSG_CRC = false) ∧ (mfield w 63 60 = 1))
    ∧ (∃ s : State, ∃ n : Nat, ∃ w : BitVec 64, (s.hears n = true) ∧ (s.shaped = true) ∧ (crc8 w = w.toNat % 256) ∧ (s.armed S.TL_MSG_CRC = false) ∧ (mfield w 63 60 = 1) ∧ (s.tlst n = 5) ∧ ((s.lane n).ctl = none) ∧ (tbit (mfield w 39 24) 3 = true) ∧ (s.defLevel S.TL_FLIP_MISS ≤ 1 ∨ (s.lane n).flipRun = 0) ∧ (tbit (mfield w 39 24) 1 = true ∨ signed 16 (s.g F.TLN_OT_OT_C) ≤ signed 16 (mfield w 55 40) ∧ 1 ≤ (s.lane n).otRun))
    ∧ (∃ s : State, ∃ n : Nat, ∃ w : BitVec 64, (s.hears n = true) ∧ (s.shaped = true) ∧ (crc8 w = w.toNat % 256) ∧ (s.armed S.TL_MSG_CRC = false) ∧ (mfield w 63 60 = 1) ∧ (s.tlst n = 5) ∧ ((s.lane n).ctl = none) ∧ (tbit (mfield w 39 24) 3 = false) ∧ (tbit (mfield w 39 24) 1 = false) ∧ (signed 16 (mfield w 55 40) < signed 16 (s.g F.TLN_OT_OT_C)) ∧ (s.defLevel S.TL_FLIP_MISS ≤ 1 ∨ (s.lane n).flipRun = 0) ∧ ((s.lane n).sending = none) ∧ ((s.lane n).retrains < s.g (F.TL_CTRL_TRIES n)))
    ∧ (∃ s : State, ∃ n : Nat, ∃ w : BitVec 64, ∃ lo : Nat × Nat, ∃ hi : Nat × Nat, ∃ cap : Nat, ∃ c : Instr, (s.hears n = true) ∧ (s.shaped = true) ∧ (crc8 w = w.toNat % 256) ∧ (s.armed S.TL_MSG_CRC = false) ∧ (s.tlst n = 4) ∧ (cap = 512 * 2 ^ 32 + 512 * 2 ^ 16 + 256) ∧ (c = Instr.tsbUidLo n w ∧ mfield w 63 60 = 2 ∧ lo = (mfield w 55 24, mfield w 23 8) ∧ (s.lane n).uidHi = some hi ∧ (s.lane n).cap = some cap ∨ c = .tsbUidHi n w ∧ mfield w 63 60 = 3 ∧ hi = (mfield w 55 24, mfield w 23 8) ∧ (s.lane n).uidLo = some lo ∧ (s.lane n).cap = some cap ∨ c = .tsbCap n w ∧ mfield w 63 60 = 4 ∧ mfield w 55 8 = cap ∧ (s.lane n).uidLo = some lo ∧ (s.lane n).uidHi = some hi))
    ∧ (∃ s : State, ∃ n : Nat, ∃ w : BitVec 64, ∃ lo : Nat × Nat, ∃ hi : Nat × Nat, (s.hears n = true) ∧ (s.shaped = true) ∧ (crc8 w = w.toNat % 256) ∧ (s.armed S.TL_MSG_CRC = false) ∧ (s.tlst n = 4) ∧ (mfield w 63 60 = 4) ∧ (mfield w 55 8 ≠ 512 * 2 ^ 32 + 512 * 2 ^ 16 + 256) ∧ ((s.lane n).uidLo = some lo) ∧ ((s.lane n).uidHi = some hi) ∧ ((s.lane n).everActive = false))
    ∧ (∃ s : State, ∃ n : Nat, ∃ w : BitVec 64, ∃ c : Instr, (s.hears n = false) ∧ (c ∈ [Instr.tsbStatus n w, .tsbUidLo n w, .tsbUidHi n w, .tsbCap n w])) :=
  ⟨⟨la 5, 0, 12345, .tsbStatus 0 12345, by decide +kernel⟩,
   ⟨la 5, 0, mw 1 0x200 8 0, by decide +kernel⟩,
   ⟨la 5, 0, mw 1 0x200 10 0xFFFF, by decide +kernel⟩,
   ⟨la 5, 0, mw 1 0x200 0 0, by decide +kernel⟩,
   ⟨md (fun l => { l with uidLo := some (1, 2), uidHi := some (3, 4) }) (la 4), 0, capw (512 * 2 ^ 32 + 512 * 2 ^ 16 + 256), (1, 2), (3, 4), 512 * 2 ^ 32 + 512 * 2 ^ 16 + 256, .tsbCap 0 (capw (512 * 2 ^ 32 + 512 * 2 ^ 16 + 256)), by decide +kernel⟩,
   ⟨md (fun l => { l with uidLo := some (1, 2), uidHi := some (3, 4) }) (la 4), 0, capw 7, (1, 2), (3, 4), by decide +kernel⟩,
   ⟨la 0, 0, 12345, .tsbStatus 0 12345, by decide +kernel⟩⟩
end TsbMessages

namespace SegmentBus
def sg0 : State := put_ act [(F.UNIT_CTRL_ENABLE 0x60, 1), (F.SEG_CH_ADDR 0, 5), (F.SEG_CH_DCH 0, 2), (F.SEG_CH_ADDR 255, 5), (F.SEG_CH_DCH 255, 9), (F.SEG_CH_ADDR 7, 63), (F.SEG_CH_INT 0, 100), (F.SEG_CTRL_RETRY, 2)]
def sg : State := let s := (sg0.setPresent 5 true).setPresent 63 true; { put_ s [(F.SEG_DRV_NCH 5, 4)] with seg := { s.seg with configured := [5, 63], chans := [(0, { SegChan.init with due := 3, shownCmd := 4 }), (7, { SegChan.init with due := 9, opens := 1 })] }, now := 77 }
def tx (u : SegTxn) : State := { sg with seg := { sg.seg with txn := some u } }
def rsp (a : Nat) (d : List Byte) : List Byte := let body := [b8 (128 + a), 0, b8 d.length] ++ d; 0x55 :: body ++ beBytes 2 (crc16 body)
set_option maxRecDepth 1000000 in
theorem test_hypsSegmentBus :
    (∃ s : State, ∃ a : Nat, ∃ cmd : Nat, ∃ data : List Byte, ∃ values : List (Nat × Nat), ∃ c, (s.segRuns = true) ∧ (s.seg.txn = none) ∧ (c = Instr.segIdent a ∧ s.segNamed a = true ∧ cmd = 1 ∧ data = [] ∧ values = [] ∨ c = .segConfig a ∧ a ≠ 0 ∧ s.segNamed a = true ∧ s.segPresent a = true ∧ cmd = 2 ∧ data = s.configData a ∧ values = [] ∨ c = .segSet a true ∧ s.segPresent a = true ∧ a ∈ s.seg.configured ∧ s.setRow a ≠ [] ∧ cmd = 3 ∧ data = s.setData (s.setRow a) ∧ values = (s.setRow a).map (fun k => (k, (s.segChan k).due)) ∨ c = .segPoll a true ∧ s.segPresent a = true ∧ cmd = 4 ∧ data = [] ∧ values = []))
    ∧ (∃ s : State, (s.segRuns = true))
    ∧ (∃ s : State, ∃ a : Nat, (s.segRuns = true) ∧ (s.seg.txn = none) ∧ (s.segPresent a = true) ∧ (1 ≤ s.g F.SEG_CTRL_RETRY))
    ∧ (∃ s : State, ∃ a : Nat, ∃ u : SegTxn, ∃ c, (s.seg.txn = some u) ∧ (u.addr ≠ a) ∧ (a ≠ 0) ∧ (c ∈ [Instr.segIdent a, .segConfig a, .segSet a true, .segSet a false, .segPoll a true, .segPoll a false]))
    ∧ (∃ s : State, ∃ u : SegTxn, ∃ d : List Byte, ∃ bytes : List Byte, ∃ body : List Byte, (s.segRuns = true) ∧ (s.seg.txn = some u) ∧ (s.armed S.SEG_CRC = false) ∧ (d.length ≤ 40) ∧ (1 ≤ u.addr) ∧ (u.addr < 64) ∧ (body = [b8 (128 + u.addr), 0, b8 d.length] ++ d) ∧ (bytes = 0x55 :: body ++ beBytes 2 (crc16 body)))
    ∧ (∃ s : State, ∃ u : SegTxn, ∃ bytes : List Byte, (s.segRuns = true) ∧ (s.seg.txn = some u) ∧ (s.armed S.SEG_CRC = false) ∧ (bytes.getD 0 0 ≠ 0x55 ∨ bytes.getD 2 0 = 1))
    ∧ (∃ s : State, ∃ u : SegTxn, (s.segRuns = true) ∧ (s.seg.txn = some u) ∧ (u.attempts ≤ s.g F.SEG_CTRL_RETRY))
    ∧ (∃ s : State, ∃ u : SegTxn, (s.segRuns = true) ∧ (s.seg.txn = some u) ∧ (s.g F.SEG_CTRL_RETRY < u.attempts) ∧ (u.addr < 64) ∧ (u.addr ∉ s.seg.lost))
    ∧ (∃ s : State, ∃ a : Nat, ∃ readback : Bool, ∃ bytes : List Byte, ∃ c, (s.segRuns = false) ∧ (c ∈ [Instr.segIdent a, .segConfig a, .segSet a readback, .segPoll a readback, .segResponse bytes, .segResponseTimeout])) :=
  ⟨⟨sg, 5, 1, [], [], .segIdent 5, by decide +kernel⟩,
   ⟨sg, by decide +kernel⟩,
   ⟨sg, 5, by decide +kernel⟩,
   ⟨tx ⟨1, 5, 1, []⟩, 6, ⟨1, 5, 1, []⟩, .segIdent 6, by decide +kernel⟩,
   ⟨tx ⟨1, 5, 1, []⟩, ⟨1, 5, 1, []⟩, [], rsp 5 [], [133, 0, 0], by decide +kernel⟩,
   ⟨tx ⟨1, 5, 1, []⟩, ⟨1, 5, 1, []⟩, [], by decide +kernel⟩,
   ⟨tx ⟨1, 5, 1, []⟩, ⟨1, 5, 1, []⟩, by decide +kernel⟩,
   ⟨tx ⟨3, 5, 3, [(0, 3)]⟩, ⟨3, 5, 3, [(0, 3)]⟩, by decide +kernel⟩,
   ⟨State.reset, 5, true, [], .segIdent 5, by decide +kernel⟩⟩
end SegmentBus

namespace SegmentFrames
def sg0 : State := let s := put_ act [(F.UNIT_CTRL_ENABLE 0x60, 1), (F.SEG_CH_ADDR 0, 5), (F.SEG_CH_DCH 0, 2), (F.SEG_CH_ADDR 255, 5), (F.SEG_CH_DCH 255, 9), (F.SEG_CH_ADDR 7, 63), (F.SEG_CH_INT 0, 100), (F.SEG_CTRL_RETRY, 2), (F.SEG_CHS_DEBT 0, 65000), (F.SEG_CHS_RUN 0, 16)]; { s with tln := { s.tln with latched := true } }
def sg (sh : Option Nat) : State := let s := (sg0.setPresent 5 true).setPresent 63 true; { put_ s [(F.SEG_DRV_NCH 5, 4)] with seg := { s.seg with configured := [5, 63], chans := [(0, { SegChan.init with due := 3, shadow := some 3, cmd := 4, shown := 60000, next := some (60, 50) }), (7, { SegChan.init with shadow := sh, due := 9, opens := 1 }), (255, { SegChan.init with shadow := some 0 })] }, now := 77 }
set_option maxRecDepth 1000000 in
theorem test_hypsSegmentFrames :
    (∃ s : State, (s.segRuns = true) ∧ (s.tln.latched = true) ∧ (s.setComplete = true))
    ∧ (∃ s : State, (s.segRuns = true) ∧ (s.tln.latched = true) ∧ (s.setComplete = false))
    ∧ (∃ s : State, (s.segRuns = true) ∧ (s.tln.latched = true))
    ∧ (∃ s : State, (s.segRuns = false ∨ s.tln.latched = false))
    ∧ (∃ s : State, (s.on F.CLK_STAT_ROOT_OK = true) ∧ (s.blockRunning 0x60 = false))
    ∧ (∃ s : State, (s.on F.CLK_STAT_ROOT_OK = false ∨ s.blockRunning 0x60 = true)) :=
  ⟨⟨sg (some 9), by decide +kernel⟩,
   ⟨sg none, by decide +kernel⟩,
   ⟨sg (some 9), by decide +kernel⟩,
   ⟨State.reset, by decide +kernel⟩,
   ⟨sg (some 9), by decide +kernel⟩,
   ⟨State.reset, by decide +kernel⟩⟩
end SegmentFrames

namespace SafetyInputs
def si (st : Nat) : State := let s := put_ act ((List.range 4).flatMap (fun n => [(F.SAF_SIN_CFG_USED n, 1), (F.SAF_SIN_STAT_STATE n, st)]) ++ [(F.SAF_STAT_FSTATE, 3), (F.SAF_SIN_CFG_MODE 1, 1), (F.SAF_SIN_CFG_FEED_B 0, 1)]); { s with saf := { s.saf with healthyFor := [true, true, true, true] } }
def hi (k : Nat) (s : State) : State := { s with saf := { s.saf with chans := List.replicate 8 { high := true, wasHigh := true, passed := k } } }
def tp (p : Nat) (s : State) : State := { s with saf := { s.saf with tpo := some p } }
set_option maxRecDepth 1000000 in
theorem test_hypsSafetyInputs :
    (∃ s : State, ∃ n : Nat, (n < 4) ∧ (s.on (F.SAF_SIN_CFG_USED n) = true) ∧ (s.sinState n = 2) ∧ (s.shaped = true))
    ∧ (∃ s : State, ∃ n : Nat, (n < 4) ∧ (s.on (F.SAF_SIN_CFG_USED n) = true) ∧ (s.sinState n ≠ 2) ∧ (s.shaped = true))
    ∧ (∃ s : State, ∃ n : Nat, (n < 4) ∧ (s.on (F.SAF_SIN_CFG_USED n) = true) ∧ (s.shaped = true))
    ∧ (∃ s : State, ∃ n : Nat, (4 ≤ n ∨ s.on (F.SAF_SIN_CFG_USED n) = false))
    ∧ (∃ s : State, ∃ n : Nat, (n < 4) ∧ (s.sinState n = 3) ∧ (s.shaped = true))
    ∧ (∃ s : State, ∃ n : Nat, (s.sinState n ≠ 3))
    ∧ (∃ s : State, ∃ n : Nat, (n < 4) ∧ (s.saf.tpo = none) ∧ (s.tpoUsed n = true) ∧ (s.shaped = true))
    ∧ (∃ s : State, ∃ n : Nat, (s.saf.tpo ≠ none ∨ s.tpoUsed n = false))
    ∧ (∃ s : State, ∃ p : Nat, (s.saf.tpo = some p) ∧ (s.shaped = true))
    ∧ (∃ s : State, (s.saf.tpo = none)) :=
  ⟨⟨si 2, 0, by decide +kernel⟩,
   ⟨si 1, 0, by decide +kernel⟩,
   ⟨si 1, 0, by decide +kernel⟩,
   ⟨act, 0, by decide +kernel⟩,
   ⟨si 3, 0, by decide +kernel⟩,
   ⟨act, 0, by decide +kernel⟩,
   ⟨si 1, 0, by decide +kernel⟩,
   ⟨act, 0, by decide +kernel⟩,
   ⟨tp 0 (hi 1 (si 2)), 0, by decide +kernel⟩,
   ⟨act, by decide +kernel⟩⟩
end SafetyInputs

namespace SafetyOutputs
def so (st : Nat) (o : Sout) : State := let s := put_ act [(F.SAF_SOUT_CFG_USED 0, 1), (F.SAF_SOUT_CFG_USED 1, 1), (F.SAF_SOUT_STAT_STATE 0, st), (F.SAF_SOUT_STAT_STATE 1, st), (F.SAF_SOUT_CFG_TILES 0, 0x0F), (F.SAF_SOUT_CFG_TILES 1, 0xF0), (F.SAF_SOUT_CTRL_ON, 3), (F.SAF_STAT_FSTATE, 2), (F.UNIT_CTRL_ENABLE 0x50, 1), (F.UNIT_CTRL_ENABLE 0x51, 1)]; { s with saf := { s.saf with souts := [o, o] } }
set_option maxRecDepth 1000000 in
theorem test_hypsSafetyOutputs :
    (∃ s : State, ∃ k : Nat, (k < 2) ∧ ((s.saf.souts.getD k Sout.init).high = true) ∧ ((s.saf.souts.getD k Sout.init).pulse = false) ∧ (s.shaped = true))
    ∧ (∃ s : State, ∃ k : Nat, ((s.saf.souts.getD k Sout.init).high = false ∨ (s.saf.souts.getD k Sout.init).pulse = true))
    ∧ (∃ s : State, ∃ k : Nat, (k < 2) ∧ ((s.saf.souts.getD k Sout.init).pulse = true) ∧ (s.shaped = true))
    ∧ (∃ s : State, ∃ k : Nat, ∃ rb : Bool, ∃ c : Instr, ∃ cause : Nat, (k < 2) ∧ (s.shaped = true) ∧ (c = Instr.offPulseEnd k true ∧ rb = true ∧ cause = 3 ∧ (s.saf.souts.getD k Sout.init).pulse = true ∨ c = .soutReadbackFault k rb ∧ s.on (F.SAF_SOUT_CFG_USED k) = true ∧ 1 ≤ s.g (F.SAF_SOUT_STAT_STATE k) ∧ s.g (F.SAF_SOUT_STAT_STATE k) ≤ 2 ∧ (s.saf.souts.getD k Sout.init).pulse = false ∧ (s.saf.souts.getD k Sout.init).high = !rb ∧ cause = (if rb then 2 else 1)))
    ∧ (∃ s : State, ∃ k : Nat, ((s.saf.souts.getD k Sout.init).pulse = false))
    ∧ (∃ s : State, ∃ k : Nat, ∃ rb : Bool, (k < 2) ∧ (s.on (F.SAF_SOUT_CFG_USED k) = false ∨ s.g (F.SAF_SOUT_STAT_STATE k) = 3 ∨ (s.saf.souts.getD k Sout.init).high = rb))
    ∧ (∃ s : State, ∃ k : Nat, (k < 2) ∧ (s.g (F.SAF_SOUT_STAT_STATE k) = 3) ∧ ((s.saf.souts.getD k Sout.init).high = false) ∧ (s.shaped = true))
    ∧ (∃ s : State, ∃ k : Nat, (k < 2) ∧ (s.g (F.SAF_SOUT_STAT_STATE k) ≠ 3))
    ∧ (∃ s : State, ∃ k : Nat, (k < 2) ∧ ((s.saf.souts.getD k Sout.init).high = true) ∧ ((s.saf.souts.getD k Sout.init).powered = false) ∧ (s.shaped = true))
    ∧ (∃ s : State, ∃ k : Nat, ((s.saf.souts.getD k Sout.init).high = false ∨ (s.saf.souts.getD k Sout.init).powered = true)) :=
  ⟨⟨so 2 ⟨true, false, false⟩, 0, by decide +kernel⟩,
   ⟨act, 0, by decide +kernel⟩,
   ⟨so 2 ⟨true, true, true⟩, 0, by decide +kernel⟩,
   ⟨so 1 ⟨false, false, false⟩, 0, true, .soutReadbackFault 0 true, 2, by decide +kernel⟩,
   ⟨act, 0, by decide +kernel⟩,
   ⟨act, 0, true, by decide +kernel⟩,
   ⟨so 3 ⟨false, false, false⟩, 0, by decide +kernel⟩,
   ⟨act, 0, by decide +kernel⟩,
   ⟨so 2 ⟨true, false, false⟩, 0, by decide +kernel⟩,
   ⟨act, 0, by decide +kernel⟩⟩
end SafetyOutputs

namespace FlintAndLockOut
def f0 : State := let s := put_ act ((List.range 4).map (fun n => (F.SAF_SIN_STAT_STATE n, 2)) ++ [(F.SAF_STAT_FSTATE, 1), (F.CLK_STAT_MON_GOOD, 1), (F.CSF_STAT_CURRENT, 1), (F.GOV_STAT_TABLES_OK, 1), (F.SAF_WDT_ARMED, 1), (F.UNIT_CTRL_ENABLE 0x50, 1), (F.UNIT_CTRL_ENABLE 0x51, 1), (F.SAF_SOUT_CFG_USED 1, 1), (F.SAF_SOUT_STAT_STATE 1, 1)]); { s with now := us 30, saf := { s.saf with lastKick := some 0 } }
def lk : State := { put_ f0 [(F.SAF_STAT_LOCKED, 1), (F.SAF_STAT_FSTATE, 4), (F.SAF_LOCK_CNT_LOCK_CNT, 6), (F.SAF_REASON_REASON, 3)] with csf := { f0.csf with unlock := some 6 } }
set_option maxRecDepth 1000000 in
theorem test_hypsFlintAndLockOut :
    (∃ s : State, (s.saf.halted = false) ∧ (s.rst.scope = none))
    ∧ (∃ s : State, (s.saf.halted = true ∨ s.rst.scope ≠ none))
    ∧ (∃ s : State, ∃ m : Master, ∃ v : Word, (s.masterRuns m = true) ∧ (s.mayWrite m 0x68 0x50 = true) ∧ (wordField v 0 0 = 1) ∧ (8 ≤ wordField v 15 8) ∧ (wordField v 15 8 ≤ 13) ∧ (s.on F.SAF_STAT_LOCKED = false))
    ∧ (∃ s : State, ∃ m : Master, ∃ v : Word, (s.masterRuns m = true) ∧ (s.mayWrite m 0x68 0x50 = true) ∧ (wordField v 0 0 = 1) ∧ (8 ≤ wordField v 15 8) ∧ (wordField v 15 8 ≤ 13) ∧ (s.on F.SAF_STAT_LOCKED = true))
    ∧ (∃ s : State, ∃ m : Master, ∃ v : Word, (s.masterRuns m = true) ∧ (s.mayWrite m 0x68 0x50 = true) ∧ (wordField v 0 0 = 0 ∨ wordField v 15 8 < 8 ∨ 13 < wordField v 15 8))
    ∧ (∃ s : State, ∃ m : Master, ∃ v : Word, (s.masterRuns m = true) ∧ (s.mayWrite m 0x68 0x54 = true) ∧ (wordField v 0 0 = 1) ∧ (s.unlockRej = 0) ∧ (s.shaped = true))
    ∧ (∃ s : State, ∃ m : Master, ∃ v : Word, (s.masterRuns m = true) ∧ (s.mayWrite m 0x68 0x54 = true) ∧ (wordField v 0 0 = 1) ∧ (s.unlockRej ≠ 0))
    ∧ (∃ s : State, ∃ m : Master, ∃ v : Word, (s.masterRuns m = true) ∧ (s.mayWrite m 0x68 0x58 = true) ∧ (wordField v 7 0 = 0xC3) ∧ (s.saf.lastKick = none))
    ∧ (∃ s : State, ∃ m : Master, ∃ v : Word, ∃ k : Nat, (s.masterRuns m = true) ∧ (s.mayWrite m 0x68 0x58 = true) ∧ (wordField v 7 0 = 0xC3) ∧ (s.saf.lastKick = some k) ∧ (us 25 ≤ s.now - k))
    ∧ (∃ s : State, ∃ m : Master, ∃ v : Word, ∃ k : Nat, (s.masterRuns m = true) ∧ (s.mayWrite m 0x68 0x58 = true) ∧ (wordField v 7 0 = 0xC3) ∧ (s.saf.lastKick = some k) ∧ (s.now - k < us 25))
    ∧ (∃ s : State, ∃ m : Master, ∃ v : Word, (s.masterRuns m = true) ∧ (s.mayWrite m 0x68 0x58 = true) ∧ (wordField v 7 0 ≠ 0xC3))
    ∧ (∃ s : State, (s.saf.halted = false))
    ∧ (∃ s : State, (s.saf.halted = true))
    ∧ (∃ s : State, (s.g F.SAF_STAT_FSTATE ≠ 0))
    ∧ (∃ s : State, (s.g F.SAF_STAT_FSTATE = 0)) :=
  ⟨⟨f0, by decide +kernel⟩,
   ⟨State.reset, by decide +kernel⟩,
   ⟨f0, .flint, 0x00090801, by decide +kernel⟩,
   ⟨lk, .flint, 0x00090801, by decide +kernel⟩,
   ⟨f0, .flint, 0x00070701, by decide +kernel⟩,
   ⟨lk, .flint, 0x00090801, by decide +kernel⟩,
   ⟨f0, .flint, 0x00090801, by decide +kernel⟩,
   ⟨{ f0 with saf := { f0.saf with lastKick := none } }, .flint, 0xC3, by decide +kernel⟩,
   ⟨f0, .flint, 0xC3, 0, by decide +kernel⟩,
   ⟨{ f0 with now := us 24 }, .flint, 0xC3, 0, by decide +kernel⟩,
   ⟨f0, .flint, 0x00090801, by decide +kernel⟩,
   ⟨f0, by decide +kernel⟩,
   ⟨{ f0 with saf := { f0.saf with halted := true } }, by decide +kernel⟩,
   ⟨f0, by decide +kernel⟩,
   ⟨State.reset, by decide +kernel⟩⟩
end FlintAndLockOut

namespace FaultRegisters
def g0 : State := (((act.raise S.TL_CRC 3).begin).raise S.SAF_LOCKSTEP 0).raise S.TSB_ERR 0
set_option maxRecDepth 1000000 in
theorem test_hypsFaultRegisters :
    (∃ s : State, ∃ m : Master, ∃ r : Nat, (s.masterRuns m = true) ∧ (s.mayWrite m 0x70 (0x54 + 4 * (r % 3)) = true))
    ∧ (∃ s : State, ∃ m : Master, ∃ r : Nat, (s.masterRuns m = true) ∧ (s.mayWrite m 0x70 (0x48 + 4 * (r % 3)) = true))
    ∧ (∃ s : State, ∃ m : Master, ∃ r : Nat, ∃ v : Word, ∃ i : Nat, (s.masterRuns m = true) ∧ (s.mayWrite m 0x70 (0x48 + 4 * (r % 3)) = true) ∧ (namedSources (r % 3) v = [i]) ∧ (s.on (fltPend i) = true) ∧ (s.flt.held.any (fun e => e.1 = i) = false) ∧ (s.evr.queue.length < 56))
    ∧ (∃ s : State, ∃ m : Master, ∃ v : Word, (s.masterRuns m = true) ∧ (s.mayWrite m 0x70 0x90 = true) ∧ (wordField v 8 8 = 1) ∧ (s.injectRej m (wordField v 6 0) = 0))
    ∧ (∃ s : State, ∃ m : Master, ∃ v : Word, (s.masterRuns m = true) ∧ (s.mayWrite m 0x70 0x90 = true) ∧ (wordField v 8 8 = 1) ∧ (s.injectRej m (wordField v 6 0) ≠ 0))
    ∧ (∃ s : State, ∃ m : Master, ∃ v : Word, (s.masterRuns m = true) ∧ (s.mayWrite m 0x70 0x90 = true) ∧ (wordField v 8 8 = 0)) :=
  ⟨⟨act, .app, 0, by decide +kernel⟩,
   ⟨act, .app, 0, by decide +kernel⟩,
   ⟨g0, .app, 1, 0x400, 42, by decide +kernel⟩,
   ⟨act, .app, 0x011A, by decide +kernel⟩,
   ⟨act, .app, 0xFFFFFFFF, by decide +kernel⟩,
   ⟨act, .app, 0, by decide +kernel⟩⟩
end FaultRegisters

namespace EventRecorder
def ev0 : State := let s := put_ act [(F.EVR_CTRL_MIRROR_EN, 1), (F.THM_STAT_FLASH_OK, 1), (F.LNK_CTRL_EVT_EN 0, 1)]; { s with now := 123456 }
def rc (c n : Nat) : EvRec := ⟨c, 9, 0, n, [1, 2, 3, 4, 5, 6]⟩
def ev (s : State) : State := { s with evr := { s.evr with queue := [rc 0x5001 1, rc 0x7181 1], trackers := [⟨rc 0x5002 1, 3, rc 0x5002 1, 5⟩], waiting := [1, 2], gap := some 7, ckRet := none } }
def at_ (s : State) : State := { s with shadow := (put_ { s with regs := [] } [(F.EVR_ATT_HI_GAP, 7), (F.EVR_ATT_LO_MS_LO, 99)]).regs }
set_option maxRecDepth 1000000 in
theorem test_hypsEventRecorder :
    (∃ s : State, ∃ k : Tracker, ∃ q, (s.evr.trackers = k :: q))
    ∧ (∃ s : State, (s.evr.trackers = []))
    ∧ (∃ s : State, ∃ r : EvRec, ∃ rest : List EvRec, (s.evr.queue = r :: rest) ∧ (s.recorderRuns = true) ∧ (r.data.length = 6))
    ∧ (∃ s : State, (s.evr.queue = [] ∨ s.recorderRuns = false))
    ∧ (∃ s : State, (s.on F.EVR_CTRL_MIRROR_EN = true) ∧ (s.evr.waiting ≠ []) ∧ (s.recorderRuns = true) ∧ (s.on F.THM_STAT_FLASH_OK = true))
    ∧ (∃ s : State, (s.on F.EVR_CTRL_MIRROR_EN = true) ∧ (s.evr.waiting ≠ []) ∧ (s.recorderRuns = true) ∧ (s.on F.THM_STAT_FLASH_OK = false))
    ∧ (∃ s : State, (s.on F.EVR_CTRL_MIRROR_EN = false ∨ s.evr.waiting = [] ∨ s.recorderRuns = false))
    ∧ (∃ s : State, (s.recorderRuns = true))
    ∧ (∃ s : State, (s.recorderRuns = true) ∧ (s.on F.THM_STAT_FLASH_OK = true))
    ∧ (∃ s : State, (s.recorderRuns = true) ∧ (s.on F.THM_STAT_FLASH_OK = false))
    ∧ (∃ s : State, (s.recorderRuns = false))
    ∧ (∃ s : State, ∃ m : Master, (s.masterRuns m = true) ∧ (s.mayWrite m 0x71 0x30 = true) ∧ (s.blockRunning 0x71 = false) ∧ (s.regsWf = true) ∧ (s.evr.attested = false) ∧ (s.attestOk (s.candidate [0x71]) = true))
    ∧ (∃ s : State, ∃ m : Master, (s.masterRuns m = true) ∧ (s.mayWrite m 0x71 0x30 = true) ∧ (s.blockRunning 0x71 = false) ∧ (s.evr.gap = none))
    ∧ (∃ s : State, ∃ m : Master, (s.masterRuns m = true) ∧ (s.mayWrite m 0x71 0x6C = true)) :=
  ⟨⟨ev ev0, ⟨rc 0x5002 1, 3, rc 0x5002 1, 5⟩, [], by decide +kernel⟩,
   ⟨ev0, by decide +kernel⟩,
   ⟨ev ev0, rc 0x5001 1, [rc 0x7181 1], by decide +kernel⟩,
   ⟨ev0, by decide +kernel⟩,
   ⟨ev ev0, by decide +kernel⟩,
   ⟨ev (put_ ev0 [(F.THM_STAT_FLASH_OK, 0)]), by decide +kernel⟩,
   ⟨ev0, by decide +kernel⟩,
   ⟨ev ev0, by decide +kernel⟩,
   ⟨ev ev0, by decide +kernel⟩,
   ⟨ev (put_ ev0 [(F.THM_STAT_FLASH_OK, 0)]), by decide +kernel⟩,
   ⟨{ ev ev0 with rst := { ev0.rst with scope := some .warm } }, by decide +kernel⟩,
   ⟨at_ (ev ev0), .app, by decide +kernel⟩,
   ⟨ev0, .app, by decide +kernel⟩,
   ⟨ev ev0, .app, by decide +kernel⟩⟩
end EventRecorder

namespace Housekeeping
def h0 : State := { act with now := ms 30, fus := { act.fus with rows := act.fus.rows.set 5 ((List.range 4).foldl (fun a n => a + (400 * 2 ^ 0 + 1000 * 2 ^ 16 + (2000) * 2 ^ 28 + 3000 * 2 ^ 44) * 2 ^ (56 * n)) 0) } }
def h1 : State := { h0 with thm := { h0.thm with round := some (ms 29) } }
set_option maxRecDepth 1000000 in
theorem test_hypsHousekeeping :
    (∃ s : State, (s.roundRuns = true) ∧ (s.thm.round = none))
    ∧ (∃ s : State, (s.roundRuns = false ∨ s.thm.round ≠ none))
    ∧ (∃ s : State, ∃ codes : List Nat, ∃ at_ : Nat, ∃ die : Int, ∃ cold : Int, let code := fun n => codes.getD n 0 % 4096; let T := fun n => s.thsTrim n 0 + Int.fdiv (((code n : Nat) - s.thsTrim n 1) * (s.thsTrim n 2 - s.thsTrim n 0)) (s.thsTrim n 3 - s.thsTrim n 1); let good := (List.range 4).filter (fun n => readingOk (code n) (T n)); (s.thm.round = some at_) ∧ (s.now - at_ ≤ ms (2 * s.g F.THM_CTRL_ROUND_MS)) ∧ (1966 ≤ codes.getD 4 0 % 4096) ∧ (codes.getD 4 0 % 4096 ≤ 2130) ∧ ((∀ n, n < 4 → s.thsTrim n 3 ≠ s.thsTrim n 1)) ∧ (die ∈ good.map T) ∧ ((∀ n, n ∈ good → T n ≤ die)) ∧ (cold ∈ good.map T) ∧ ((∀ n, n ∈ good → cold ≤ T n)))
    ∧ (∃ s : State, ∃ c : Instr, ∃ at_ : Nat, ∃ codes : List Nat, (s.thm.round = some at_) ∧ (c = Instr.roundTimeout ∨ (c = .housekeepingRoundEnd codes ∧ (ms (2 * s.g F.THM_CTRL_ROUND_MS) < s.now - at_ ∨ codes.getD 4 0 % 4096 < 1966 ∨ 2130 < codes.getD 4 0 % 4096))))
    ∧ (∃ s : State, (s.thm.round = none)) :=
  ⟨⟨h0, by decide +kernel⟩,
   ⟨h1, by decide +kernel⟩,
   ⟨h1, [1500, 1600, 1700, 1800, 2048, 100, 200, 300], ms 29, 1040, 800, by decide +kernel⟩,
   ⟨h1, .roundTimeout, ms 29, [1500, 1600, 1700, 1800, 2048, 100, 200, 300], by decide +kernel⟩,
   ⟨h0, by decide +kernel⟩⟩
end Housekeeping

namespace PowerRequests
def pw (st : PwrState) (tg : Nat) : State := { act with now := us 7, pwr := { act.pwr with st := st, target := tg, stby := true } }
set_option maxRecDepth 1000000 in
theorem test_hypsPowerRequests :
    (∃ s : State, ∃ m : Master, ∃ v : Word, ∃ c : Instr, (s.masterRuns m = true) ∧ (s.mayWrite m 0x03 0x40 = true) ∧ (c ∈ [Instr.pwrReqIdle m v, .pwrReqSleep m v, .pwrReqDeep m v, .pwrReqOff m v]) ∧ (wordField v 2 0 = 1) ∧ (m = .app) ∧ (s.pwr.st = .run) ∧ (s.appIrq = false))
    ∧ (∃ s : State, ∃ m : Master, ∃ v : Word, ∃ c : Instr, (s.masterRuns m = true) ∧ (s.mayWrite m 0x03 0x40 = true) ∧ (c ∈ [Instr.pwrReqIdle m v, .pwrReqSleep m v, .pwrReqDeep m v, .pwrReqOff m v]) ∧ (wordField v 2 0 = 1) ∧ (m ≠ .app ∨ s.pwr.st ≠ .run ∨ s.appIrq = true))
    ∧ (∃ s : State, ∃ m : Master, ∃ v : Word, ∃ c : Instr, (s.masterRuns m = true) ∧ (s.mayWrite m 0x03 0x40 = true) ∧ (c ∈ [Instr.pwrReqIdle m v, .pwrReqSleep m v, .pwrReqDeep m v, .pwrReqOff m v]) ∧ (wordField v 2 0 ≠ 1) ∧ (s.pwrRefuse (wordField v 2 0) (wordField v 15 8) = 0))
    ∧ (∃ s : State, ∃ m : Master, ∃ v : Word, ∃ c : Instr, (s.masterRuns m = true) ∧ (s.mayWrite m 0x03 0x40 = true) ∧ (c ∈ [Instr.pwrReqIdle m v, .pwrReqSleep m v, .pwrReqDeep m v, .pwrReqOff m v]) ∧ (wordField v 2 0 ≠ 1) ∧ (s.pwrRefuse (wordField v 2 0) (wordField v 15 8) ≠ 0))
    ∧ (∃ s : State, (s.pwr.st = .idle))
    ∧ (∃ s : State, (s.pwr.st ≠ .idle))
    ∧ (∃ s : State, (s.pwr.st = .prep))
    ∧ (∃ s : State, (s.pwr.st ≠ .prep))
    ∧ (∃ s : State, (s.pwr.st = .prep) ∧ (s.saf.halted = false) ∧ (s.pwr.target = 2))
    ∧ (∃ s : State, (s.pwr.st = .prep) ∧ (s.saf.halted = false) ∧ (s.pwr.target = 3 ∨ s.pwr.target = 4))
    ∧ (∃ s : State, (s.pwr.st ≠ .prep ∨ s.saf.halted = true))
    ∧ (∃ s : State, (s.pwr.st = .ackEntry) ∧ (s.pwr.stby = true))
    ∧ (∃ s : State, (s.pwr.st ≠ .ackEntry ∨ s.pwr.stby = false))
    ∧ (∃ s : State, (s.pwr.st = .ackEntry))
    ∧ (∃ s : State, (s.pwr.st = .ackExit))
    ∧ (∃ s : State, (s.pwr.st ≠ .ackEntry) ∧ (s.pwr.st ≠ .ackExit)) :=
  ⟨⟨act, .app, 1, .pwrReqIdle .app 1, by decide +kernel⟩,
   ⟨act, .flint, 1, .pwrReqIdle .flint 1, by decide +kernel⟩,
   ⟨act, .app, 0x5A02, .pwrReqSleep .app 0x5A02, by decide +kernel⟩,
   ⟨act, .app, 2, .pwrReqOff .app 2, by decide +kernel⟩,
   ⟨pw .idle 0, by decide +kernel⟩,
   ⟨act, by decide +kernel⟩,
   ⟨pw .prep 2, by decide +kernel⟩,
   ⟨act, by decide +kernel⟩,
   ⟨pw .prep 2, by decide +kernel⟩,
   ⟨pw .prep 3, by decide +kernel⟩,
   ⟨act, by decide +kernel⟩,
   ⟨pw .ackEntry 3, by decide +kernel⟩,
   ⟨act, by decide +kernel⟩,
   ⟨pw .ackEntry 3, by decide +kernel⟩,
   ⟨pw .ackExit 3, by decide +kernel⟩,
   ⟨act, by decide +kernel⟩⟩
end PowerRequests

namespace WakeAndExit
def pw (st : PwrState) (tg : Nat) : State := { put_ act [(F.PWR_WAKE_EN_TIMER, 1), (F.PWR_WTMR_MS, 5), (F.PWR_WAKE_EN_LINK_A, 1)] with now := us 7, pwr := { act.pwr with st := st, target := tg, stby := true } }
def lw (b : List Byte) (l : Nat) : Wire := wire l 3 b
def ls (k : Nat) : State := { put_ act [(F.CMD_BASE_BASE, 40), (F.PWR_LS_MIN_US, 5), (F.UNIT_CTRL_ENABLE 0x18, 1)] with tln := { act.tln with running := true, nextFlip := 9000000, latched := k = 1 }, pwr := { act.pwr with banks := if k = 1 then [3, 0] else [] } }
set_option maxRecDepth 1000000 in
theorem test_hypsWakeAndExit :
    (∃ s : State, (s.on F.PWR_WAKE_EN_TIMER = true) ∧ (s.g F.PWR_WTMR_MS ≠ 0) ∧ (s.pwr.st = .sleep))
    ∧ (∃ s : State, (s.on F.PWR_WAKE_EN_TIMER = true) ∧ (s.g F.PWR_WTMR_MS ≠ 0) ∧ (s.pwr.st = .deep))
    ∧ (∃ s : State, (s.on F.PWR_WAKE_EN_TIMER = false ∨ s.g F.PWR_WTMR_MS = 0 ∨ (s.pwr.st ≠ .sleep ∧ s.pwr.st ≠ .deep)))
    ∧ (∃ s : State, ∃ l : Nat, ∃ f : Wire, let ok := (s.begin.checkFrame l f).1; let w := (s.begin.checkFrame l f).2; let en := w.on (if l = 0 then F.PWR_WAKE_EN_LINK_A else F.PWR_WAKE_EN_LINK_B); (l < 2) ∧ (ok = true) ∧ (f.ftype = 3) ∧ (lctlOk f.payload = true) ∧ (f.payload.getD 0 0 = 2) ∧ (w.lst l = 6) ∧ (en = true) ∧ (w.pwr.st = .sleep))
    ∧ (∃ s : State, ∃ l : Nat, ∃ f : Wire, let ok := (s.begin.checkFrame l f).1; let w := (s.begin.checkFrame l f).2; let en := w.on (if l = 0 then F.PWR_WAKE_EN_LINK_A else F.PWR_WAKE_EN_LINK_B); (l < 2) ∧ (ok = false ∨ f.ftype ≠ 3 ∨ (lctlOk f.payload = true ∧ (f.payload.getD 0 0 ≠ 2 ∨ w.lst l ≠ 6 ∨ en = false))))
    ∧ (∃ s : State, ∃ l : Nat, ∃ f : Wire, let ok := (s.begin.checkFrame l f).1; (l < 2) ∧ (ok = true) ∧ (f.ftype = 3) ∧ (lctlOk f.payload = false))
    ∧ (∃ s : State, ∃ st : Straps, (s.pwr.st = .ackExit) ∧ (s.pwr.pinDeep = false) ∧ ((s.pwr.saved.map Prod.fst).Nodup))
    ∧ (∃ s : State, ∃ st : Straps, (s.pwr.st = .ackExit) ∧ (s.pwr.pinDeep = true))
    ∧ (∃ s : State, ∃ st : Straps, (s.pwr.st ≠ .ackExit))
    ∧ (∃ s : State, ∃ b : Nat, (b < 32) ∧ (0x20000000 + 0x40000 * (b + 1) ≤ s.cmdBase) ∧ (s.g F.PWR_LS_MIN_US ≠ 0) ∧ (s.g F.PWR_LS_MIN_US ≤ s.ltrUs) ∧ (b ∉ s.pwr.banks))
    ∧ (∃ s : State, ∃ b : Nat, (s.cmdBase < 0x20000000 + 0x40000 * (b + 1) ∨ s.g F.PWR_LS_MIN_US = 0 ∨ s.ltrUs < s.g F.PWR_LS_MIN_US ∨ b ∈ s.pwr.banks))
    ∧ (∃ s : State, ∃ b : Nat, (b ∈ s.pwr.banks))
    ∧ (∃ s : State, ∃ b : Nat, (b ∈ s.pwr.banks) ∧ (s.ltrUs = 0))
    ∧ (∃ s : State, ∃ b : Nat, (b ∈ s.pwr.banks) ∧ (s.ltrUs ≠ 0))
    ∧ (∃ s : State, ∃ b : Nat, (b ∉ s.pwr.banks))
    ∧ (∃ s : State, (s.pmbRuns = true))
    ∧ (∃ s : State, (s.pmbRuns = true) ∧ (s.pwr.st = .run))
    ∧ (∃ s : State, (s.pmbRuns = false))
    ∧ (∃ s : State, ∃ m : Master, ∃ v : Word, (s.masterRuns m = true) ∧ (s.mayWrite m 0x03 0x50 = true) ∧ (wordField v 0 0 = 1))
    ∧ (∃ s : State, ∃ m : Master, ∃ v : Word, (s.masterRuns m = true) ∧ (s.mayWrite m 0x03 0x50 = true) ∧ (wordField v 0 0 = 0)) :=
  ⟨⟨pw .sleep 2, by decide +kernel⟩,
   ⟨pw .deep 3, by decide +kernel⟩,
   ⟨act, by decide +kernel⟩,
   ⟨put_ (pw .sleep 2) [(F.LNK_STAT_STATE 0, 6)], 0, lw [2] 0, by decide +kernel⟩,
   ⟨act, 0, lw ([1, 0, 0, 0] ++ List.replicate 16 0) 0, by decide +kernel⟩,
   ⟨act, 0, lw ([2, 0, 0, 0] ++ List.replicate 16 0) 0, by decide +kernel⟩,
   ⟨pw .ackExit 3, Straps.default_, by decide +kernel⟩,
   ⟨{ (pw .ackExit 3) with pwr := { (pw .ackExit 3).pwr with pinDeep := true } }, Straps.default_, by decide +kernel⟩,
   ⟨act, Straps.default_, by decide +kernel⟩,
   ⟨act, 0, by decide +kernel⟩,
   ⟨act, 31, by decide +kernel⟩,
   ⟨ls 1, 0, by decide +kernel⟩,
   ⟨ls 1, 0, by decide +kernel⟩,
   ⟨{ (ls 0) with pwr := { (ls 0).pwr with banks := [5] } }, 5, by decide +kernel⟩,
   ⟨act, 0, by decide +kernel⟩,
   ⟨act, by decide +kernel⟩,
   ⟨act, by decide +kernel⟩,
   ⟨pw .deep 3, by decide +kernel⟩,
   ⟨act, .flint, 1, by decide +kernel⟩,
   ⟨act, .flint, 0, by decide +kernel⟩⟩
end WakeAndExit

namespace TestAccess
def ta : State := { put_ act [(F.SEC_TAP_OPEN, 1)] with now := us 9, sec := { act.sec with tapLevel := 2, trst := false, resp := some (1, true, true) } }
def lv (n : Nat) : State := put_ { ta with sec := { ta.sec with resp := some (n, true, true) }, fus := { ta.fus with rows := ta.fus.rows.set 0 3 } } [(F.THM_STAT_FUSE_OK, 1), (F.FUS_STAT_BUSY, 0)]
set_option maxRecDepth 1000000 in
theorem test_hypsTestAccess :
    (∃ s : State, (s.tapUp = true))
    ∧ (∃ s : State, let sec := { s.sec with trst := false, extest := false, scan := false }; (s.tapUp = true) ∧ (s.on F.SEC_TAP_OPEN = true) ∧ (s.sec.tapLevel = 2) ∧ (s.g F.SEC_CLR_STATE ≠ 1))
    ∧ (∃ s : State, let sec := { s.sec with trst := false, extest := false, scan := false }; (s.tapUp = true) ∧ (s.on F.SEC_TAP_OPEN = false ∨ s.sec.tapLevel ≠ 2 ∨ s.g F.SEC_CLR_STATE = 1))
    ∧ (∃ s : State, (s.tapUp = true) ∧ (s.garnetRuns = true))
    ∧ (∃ s : State, (s.tapUp = true) ∧ (s.garnetRuns = true) ∧ (s.on F.SEC_TAP_BUSY = false) ∧ (s.on F.SEC_TAP_LOCKED = false))
    ∧ (∃ s : State, (s.tapUp = true) ∧ (s.garnetRuns = true) ∧ (s.on F.SEC_TAP_BUSY = false) ∧ (s.on F.SEC_TAP_LOCKED = true))
    ∧ (∃ s : State, ∃ bits : List Bool, ∃ c : Instr, (s.tapUp = false) ∧ (c ∈ [Instr.idcode, .authStat, .rcStat, .bypass, .samplePreload bits, .extest, .scan]))
    ∧ (∃ s : State, (s.tapUp = false ∨ s.garnetRuns = false))
    ∧ (∃ s : State, ∃ level : Nat, ∃ ok : Bool, ∃ key : Bool, ∃ sig : Bool, (s.sec.resp = some (level, ok, key)) ∧ (sig = true) ∧ (key = true) ∧ (ok = true) ∧ (level = 1))
    ∧ (∃ s : State, ∃ level : Nat, ∃ ok : Bool, ∃ key : Bool, ∃ sig : Bool, (s.sec.resp = some (level, ok, key)) ∧ (sig = true) ∧ (key = true) ∧ (ok = true) ∧ (level = 2))
    ∧ (∃ s : State, ∃ level : Nat, ∃ ok : Bool, ∃ key : Bool, ∃ sig : Bool, (s.sec.resp = some (level, ok, key)) ∧ (sig = true) ∧ (key = true) ∧ (ok = true) ∧ (level = 3) ∧ (s.fuse 0 = 3) ∧ (s.lc = 2) ∧ (s.on F.FUS_STAT_BUSY = false) ∧ (s.progRej .garnet 0 2 = 0))
    ∧ (∃ s : State, ∃ level : Nat, ∃ ok : Bool, ∃ key : Bool, ∃ sig : Bool, (s.sec.resp = some (level, ok, key)) ∧ ((sig && key && ok) = false))
    ∧ (∃ s : State, (s.sec.resp = none))
    ∧ (∃ s : State, (s.lc = 0))
    ∧ (∃ s : State, (s.lc ≠ 0)) :=
  ⟨⟨act, by decide +kernel⟩,
   ⟨ta, by decide +kernel⟩,
   ⟨act, by decide +kernel⟩,
   ⟨act, by decide +kernel⟩,
   ⟨act, by decide +kernel⟩,
   ⟨put_ act [(F.SEC_TAP_LOCKED, 1)], by decide +kernel⟩,
   ⟨{ act with pwr := { act.pwr with st := .deep } }, [true, false], .idcode, by decide +kernel⟩,
   ⟨{ act with pwr := { act.pwr with st := .deep } }, by decide +kernel⟩,
   ⟨ta, 1, true, true, true, by decide +kernel⟩,
   ⟨lv 2, 2, true, true, true, by decide +kernel⟩,
   ⟨lv 3, 3, true, true, true, by decide +kernel⟩,
   ⟨ta, 1, true, true, false, by decide +kernel⟩,
   ⟨act, by decide +kernel⟩,
   ⟨put_ act [(F.SEC_LC_STATE, 0)], by decide +kernel⟩,
   ⟨act, by decide +kernel⟩⟩
end TestAccess

namespace SecretsTestsAndFuses
def fz (l : List (Nat × Nat)) (lc : Nat) : State := { put_ act [(F.SEC_LC_STATE, lc), (F.THM_STAT_FUSE_OK, 1), (F.BST_LB_CNT_COUNT, 5), (F.BST_LB_SEED_LO_VALUE, 1)] with fus := { act.fus with rows := l.foldl (fun r e => r.set e.1 e.2) act.fus.rows } }
set_option maxRecDepth 1000000 in
theorem test_hypsSecretsTestsAndFuses :
    (∃ s : State, ∃ m : Master, ∃ v : Word, (s.masterRuns m = true) ∧ (s.mayWrite m 0x78 0x44 = true) ∧ (m = .garnet ∨ (m = .tap ∧ s.sec.tapLevel = 2 ∧ s.lc < 2)) ∧ (wordField v 15 8 = 0x3C) ∧ (s.lc < wordField v 2 0) ∧ (wordField v 2 0 ≤ 4) ∧ (s.on F.FUS_STAT_BUSY = true ∨ (s.lc = 1 ∧ wordField v 2 0 = 2 ∧ ∃ r, r ∈ [7, 8, 12, 16] ∧ s.rowSet r = false) ∨ (s.lc = 2 ∧ wordField v 2 0 = 3)))
    ∧ (∃ s : State, ∃ m : Master, ∃ v : Word, ∃ b : Nat, (s.masterRuns m = true) ∧ (s.mayWrite m 0x78 0x44 = true) ∧ (m = .garnet ∨ (m = .tap ∧ s.sec.tapLevel = 2 ∧ s.lc < 2)) ∧ (wordField v 15 8 = 0x3C) ∧ (s.lc < wordField v 2 0) ∧ (wordField v 2 0 ≤ 4) ∧ (s.lc = 0) ∧ (wordField v 2 0 = 1) ∧ (s.on F.FUS_STAT_BUSY = false) ∧ (s.fuse 0 = 0) ∧ (s.progRej .garnet 0 0 = 0) ∧ (b = 0))
    ∧ (∃ s : State, ∃ m : Master, ∃ v : Word, ∃ b : Nat, (s.masterRuns m = true) ∧ (s.mayWrite m 0x78 0x44 = true) ∧ (m = .garnet ∨ (m = .tap ∧ s.sec.tapLevel = 2 ∧ s.lc < 2)) ∧ (wordField v 15 8 = 0x3C) ∧ (s.lc < wordField v 2 0) ∧ (wordField v 2 0 ≤ 4) ∧ (s.lc = 1) ∧ (wordField v 2 0 = 2) ∧ (s.on F.FUS_STAT_BUSY = false) ∧ ((∀ r, r ∈ [7, 8, 12, 16] → s.rowSet r = true)) ∧ (s.fuse 0 = 1) ∧ (s.progRej .garnet 0 1 = 0) ∧ (b = 1))
    ∧ (∃ s : State, ∃ m : Master, ∃ v : Word, (s.masterRuns m = true) ∧ (s.mayWrite m 0x78 0x44 = true) ∧ (wordField v 15 8 ≠ 0x3C ∨ wordField v 2 0 ≤ s.lc ∨ 4 < wordField v 2 0))
    ∧ (∃ s : State, (s.g F.SEC_CLR_STATE = 1))
    ∧ (∃ s : State, (s.g F.SEC_CLR_STATE ≠ 1))
    ∧ (∃ s : State, ∃ m : Master, ∃ v : Word, (s.masterRuns m = true) ∧ (s.mayWrite m 0x79 0x40 = true) ∧ (s.bistRuns = false) ∧ (wordField v 0 0 = 1) ∧ (wordField v 15 8 = 0xB5) ∧ (s.lbRej = 0))
    ∧ (∃ s : State, ∃ m : Master, ∃ v : Word, (s.masterRuns m = true) ∧ (s.mayWrite m 0x79 0x40 = true) ∧ (s.bistRuns = false) ∧ (wordField v 0 0 = 1) ∧ (wordField v 15 8 = 0xB5) ∧ (s.lbRej ≠ 0))
    ∧ (∃ s : State, ∃ m : Master, ∃ v : Word, (s.masterRuns m = true) ∧ (s.mayWrite m 0x79 0x64 = true) ∧ (s.bistRuns = false) ∧ (wordField v 0 0 = 1) ∧ (wordField v 15 8 = 0xB5) ∧ (s.lc ≠ 2) ∧ (s.lc ≠ 4) ∧ (s.bistIdle = 0))
    ∧ (∃ s : State, ∃ m : Master, ∃ v : Word, (s.masterRuns m = true) ∧ (s.mayWrite m 0x79 0x64 = true) ∧ (s.bistRuns = false) ∧ (wordField v 0 0 = 1) ∧ (wordField v 15 8 = 0xB5) ∧ (s.lc = 2 ∨ s.lc = 4 ∨ s.bistIdle ≠ 0))
    ∧ (∃ s : State, ∃ m : Master, ∃ v : Word, (s.masterRuns m = true) ∧ (s.mayWrite m 0x79 0x40 = true) ∧ (s.bistRuns = true ∨ wordField v 0 0 = 0 ∨ wordField v 15 8 ≠ 0xB5))
    ∧ (∃ s : State, ∃ m : Master, ∃ v : Word, (s.masterRuns m = true) ∧ (s.mayWrite m 0x79 0x64 = true) ∧ (s.bistRuns = true ∨ wordField v 0 0 = 0 ∨ wordField v 15 8 ≠ 0xB5))
    ∧ (∃ s : State, ∃ m : Master, ∃ v : Word, let row := wordField v 5 0; let b := wordField v 15 8; (s.masterRuns m = true) ∧ (s.mayWrite m 0x7A 0x44 = true) ∧ (wordField v 24 24 = 1) ∧ (wordField v 23 16 = 0x96) ∧ (s.progRej m row b = 0) ∧ (tbit (s.fuse row) b = false))
    ∧ (∃ s : State, ∃ m : Master, ∃ v : Word, let row := wordField v 5 0; let b := wordField v 15 8; (s.masterRuns m = true) ∧ (s.mayWrite m 0x7A 0x44 = true) ∧ (wordField v 24 24 = 1) ∧ (wordField v 23 16 = 0x96) ∧ (s.progRej m row b = 0) ∧ (tbit (s.fuse row) b = true))
    ∧ (∃ s : State, ∃ m : Master, ∃ v : Word, let row := wordField v 5 0; let b := wordField v 15 8; (s.masterRuns m = true) ∧ (s.mayWrite m 0x7A 0x44 = true) ∧ (wordField v 24 24 = 1) ∧ (wordField v 23 16 = 0x96) ∧ (s.progRej m row b ≠ 0))
    ∧ (∃ s : State, ∃ m : Master, ∃ v : Word, (s.masterRuns m = true) ∧ (s.mayWrite m 0x7A 0x44 = true) ∧ (wordField v 24 24 = 0 ∨ wordField v 23 16 ≠ 0x96))
    ∧ (∃ s : State, ∃ row : Nat, ∃ b : Nat, ∃ rest : List Nat, ∃ lc : Bool, (s.fus.job = some (row, b :: rest, lc)) ∧ (row < 29) ∧ (s.shaped = true))
    ∧ (∃ s : State, (s.fus.job = none)) :=
  ⟨⟨act, .garnet, 0x3C03, by decide +kernel⟩,
   ⟨fz [] 0, .garnet, 0x3C01, 0, by decide +kernel⟩,
   ⟨fz [(0, 1), (7, 1), (8, 1), (12, 1), (16, 1)] 1, .garnet, 0x3C02, 1, by decide +kernel⟩,
   ⟨act, .garnet, 0x3C01, by decide +kernel⟩,
   ⟨put_ act [(F.SEC_CLR_STATE, 1)], by decide +kernel⟩,
   ⟨act, by decide +kernel⟩,
   ⟨fz [] 0, .garnet, 0xB501, by decide +kernel⟩,
   ⟨act, .garnet, 0xB501, by decide +kernel⟩,
   ⟨fz [] 0, .garnet, 0xB501, by decide +kernel⟩,
   ⟨act, .garnet, 0xB501, by decide +kernel⟩,
   ⟨act, .garnet, 0x3C01, by decide +kernel⟩,
   ⟨act, .garnet, 0x3C01, by decide +kernel⟩,
   ⟨fz [] 0, .garnet, 0x0196FF1C, by decide +kernel⟩,
   ⟨fz [(0, 1), (28, 1)] 1, .garnet, 0x0196001C, by decide +kernel⟩,
   ⟨act, .garnet, 0x01960006, by decide +kernel⟩,
   ⟨act, .garnet, 0x3C01, by decide +kernel⟩,
   ⟨{ fz [(0, 3)] 2 with fus := { (fz [(0, 3), (1, 4)] 2).fus with job := some (1, [31, 3], false) } }, 1, 31, [3], false, by decide +kernel⟩,
   ⟨act, by decide +kernel⟩⟩
end SecretsTestsAndFuses

namespace UpdateOperations
def ub : State := { put_ act [(F.THM_STAT_FLASH_OK, 1)] with fus := { act.fus with rows := (act.fus.rows.set 8 1).set 12 1 } }
def pk (op n arg : Nat) (b : List Byte) : Packet := ⟨0, 3, 5, n + 16 * op, arg, b⟩
def upk (st : Nat) (gst : Nat) (p : Packet) : State := { ub with cmd := { ub.cmd with rings := [[], [], [], [p]] }, upd := { ub.upd with slots := List.replicate 6 { Slot.init with st := st } }, gov := { ub.gov with slots := [gst, gst], active := some 1 } }
def P0 : Packet := pk 0 0 0 [1, 2, 3]
def P1 : Packet := pk 0 2 256 (List.replicate 300 7)
def P2 : Packet := pk 1 0 0 (beBytes 4 880)
def P3 : Packet := pk 2 5 0 (beBytes 4 0xFFFFFFFF ++ beBytes 4 1)
def P4 : Packet := pk 3 1 0 (beBytes 4 0xFFFFFFFF)
def P5 : Packet := pk 2 0 0 (beBytes 4 0xFFFFFFFF ++ beBytes 4 0)
def ver (n : Nat) (s : State) : State := { s with upd := { s.upd with verifying := some (n, 880) } }
set_option maxRecDepth 1000000 in
theorem test_hypsUpdateOperations :
    (∃ s : State, ∃ p : Packet, let n := p.updSlot; (s.consuming 3 = true) ∧ (s.ring 3 = [p]) ∧ (s.armed S.CMD_REPLAY = false) ∧ (s.shaped = true) ∧ (p.updSlot < 6) ∧ (p.body ≠ []) ∧ (p.updOp = 0) ∧ (s.writeRefused n = true))
    ∧ (∃ s : State, ∃ p : Packet, let n := p.updSlot; (s.consuming 3 = true) ∧ (s.ring 3 = [p]) ∧ (s.armed S.CMD_REPLAY = false) ∧ (s.shaped = true) ∧ (p.updSlot < 6) ∧ (p.body ≠ []) ∧ (p.updOp = 0) ∧ (s.writeRefused n = false) ∧ (s.on F.THM_STAT_FLASH_OK = false ∨ ((n = 2 ∨ n = 3) ∧ s.saf.halted = true)))
    ∧ (∃ s : State, ∃ p : Packet, let n := p.updSlot; (s.consuming 3 = true) ∧ (s.ring 3 = [p]) ∧ (s.armed S.CMD_REPLAY = false) ∧ (s.shaped = true) ∧ (p.updSlot < 6) ∧ (p.body ≠ []) ∧ (p.updOp = 0) ∧ (s.writeRefused n = false) ∧ (s.on F.THM_STAT_FLASH_OK = true) ∧ (s.saf.halted = false) ∧ (s.slotState n ≠ 1))
    ∧ (∃ s : State, ∃ p : Packet, let n := p.updSlot; (s.consuming 3 = true) ∧ (s.ring 3 = [p]) ∧ (s.armed S.CMD_REPLAY = false) ∧ (s.shaped = true) ∧ (p.updSlot < 6) ∧ (p.body ≠ []) ∧ (p.updOp = 1) ∧ (s.upd.verifying = none) ∧ (s.slotState n = 1))
    ∧ (∃ s : State, ∃ p : Packet, let n := p.updSlot; (s.consuming 3 = true) ∧ (s.ring 3 = [p]) ∧ (s.armed S.CMD_REPLAY = false) ∧ (s.shaped = true) ∧ (p.updSlot < 6) ∧ (p.body ≠ []) ∧ (p.updOp = 1) ∧ (s.upd.verifying = none) ∧ (s.slotState n ≠ 1))
    ∧ (∃ s : State, ∃ p : Packet, let n := p.updSlot; (s.consuming 3 = true) ∧ (s.ring 3 = [p]) ∧ (s.armed S.CMD_REPLAY = false) ∧ (s.shaped = true) ∧ (p.updSlot < 6) ∧ (p.body ≠ []) ∧ (p.updOp = 2) ∧ (s.slotState n = 3) ∧ (s.slotVersion n = ofBe (slice p.body 0 4)) ∧ (2 ≤ n ∨ s.upd.trial = none))
    ∧ (∃ s : State, ∃ p : Packet, let n := p.updSlot; (s.consuming 3 = true) ∧ (s.ring 3 = [p]) ∧ (s.armed S.CMD_REPLAY = false) ∧ (s.shaped = true) ∧ (p.updSlot < 6) ∧ (p.body ≠ []) ∧ (p.updOp = 2) ∧ (s.slotState n ≠ 3 ∨ s.slotVersion n ≠ ofBe (slice p.body 0 4) ∨ (n < 2 ∧ s.upd.trial ≠ none)))
    ∧ (∃ s : State, ∃ p : Packet, let n := p.updSlot; (s.consuming 3 = true) ∧ (s.ring 3 = [p]) ∧ (s.armed S.CMD_REPLAY = false) ∧ (s.shaped = true) ∧ (p.updSlot < 6) ∧ (p.body ≠ []) ∧ (p.updOp = 3) ∧ (n < 2) ∧ (s.slotState n = 5) ∧ (s.slotVersion n = ofBe p.body))
    ∧ (∃ s : State, ∃ p : Packet, let n := p.updSlot; (s.consuming 3 = true) ∧ (s.ring 3 = [p]) ∧ (s.armed S.CMD_REPLAY = false) ∧ (s.shaped = true) ∧ (p.updSlot < 6) ∧ (p.body ≠ []) ∧ (p.updOp = 3) ∧ (2 ≤ n ∨ s.slotState n ≠ 5 ∨ s.slotVersion n ≠ ofBe p.body))
    ∧ (∃ s : State, ∃ c : Instr, ∃ p : Packet, ∃ q : List Packet, (s.consuming 3 = true) ∧ (s.ring 3 = p :: q) ∧ (s.cmd.rings.length = 4) ∧ ((c, p.updOp) ∈ [(Instr.updWrite true, 0), (.updVerify true, 1), (.updActivate true, 2), (.updConfirm true, 3)]))
    ∧ (∃ s : State, ∃ c : Instr, ∃ op : Nat, ∃ parity : Bool, ((c, op) ∈ [(Instr.updWrite parity, 0), (.updVerify parity, 1), (.updActivate parity, 2), (.updConfirm parity, 3)]) ∧ (s.consuming 3 = false ∨ (∀ p, (s.ring 3).head? = some p → Packet.updOp p ≠ op)))
    ∧ (∃ s : State, ∃ n : Nat, ∃ total : Nat, (s.upd.verifying = some (n, total)) ∧ (n < 6) ∧ (s.shaped = true))
    ∧ (∃ s : State, (s.upd.verifying = none))
    ∧ (∃ s : State, ∃ a : Nat, (s.gov.active = some a) ∧ (a < 2) ∧ (s.gov.copyDue = true) ∧ (s.g F.RST_BOOT_STAT_PHASE = 1) ∧ (s.on F.THM_STAT_FLASH_OK = true) ∧ (s.saf.halted = false) ∧ (s.shaped = true))
    ∧ (∃ s : State, (s.gov.active = none ∨ s.gov.copyDue = false ∨ s.g F.RST_BOOT_STAT_PHASE ≠ 1 ∨ s.on F.THM_STAT_FLASH_OK = false ∨ s.saf.halted = true)) :=
  ⟨⟨upk 2 2 P0, P0, by decide +kernel⟩,
   ⟨put_ (upk 0 0 P0) [(F.THM_STAT_FLASH_OK, 0)], P0, by decide +kernel⟩,
   ⟨upk 0 0 P0, P0, by decide +kernel⟩,
   ⟨upk 1 1 P2, P2, by decide +kernel⟩,
   ⟨upk 3 3 P2, P2, by decide +kernel⟩,
   ⟨upk 3 3 P3, P3, by decide +kernel⟩,
   ⟨upk 1 1 P3, P3, by decide +kernel⟩,
   ⟨upk 5 5 P4, P4, by decide +kernel⟩,
   ⟨upk 3 3 P4, P4, by decide +kernel⟩,
   ⟨upk 0 0 P0, Instr.updWrite true, P0, [], by decide +kernel⟩,
   ⟨upk 0 0 P0, Instr.updVerify true, 1, true, by decide +kernel⟩,
   ⟨(ver 0 (upk 2 2 P2)), 0, 880, by decide +kernel⟩,
   ⟨upk 0 0 P0, by decide +kernel⟩,
   ⟨(put_ { (upk 0 0 P0) with gov := { ub.gov with active := some 0, copyDue := true } } [(F.RST_BOOT_STAT_PHASE, 1)]), 0, by decide +kernel⟩,
   ⟨upk 0 0 P0, by decide +kernel⟩⟩
end UpdateOperations

/-- Memory cells of a byte string from an address. -/
def cells (a : Nat) (b : List Byte) : List (Nat × Byte) := b.zipIdx.map (fun e => (a + e.2, e.1))

theorem tabGet_cells (d : Nat → Byte) (b : List Byte) (a k i : Nat) (h : i < b.length) :
    tabGet d ((b.zipIdx k).map (fun e => (a + e.2, e.1))) (a + (k + i)) = b.getD i 0 := by
  induction b generalizing k i with
  | nil => simp at h
  | cons x t ih =>
    cases i with
    | zero => simp [tabGet]
    | succ i =>
      simp only [List.zipIdx_cons, List.map_cons, tabGet]
      have h2 := ih (k + 1) i (by simpa using h)
      rw [show a + (k + (i + 1)) = a + (k + 1 + i) by omega, if_neg (by omega), h2]
      simp

theorem bytes_cells {s : State} {a : Nat} {b : List Byte} (h : s.mem = cells a b) (x n : Nat) (hx : x + n ≤ b.length) :
    s.bytes (a + x) n = (b.drop x).take n := by
  induction n generalizing x with
  | zero => simp [State.bytes]
  | succ n ih =>
    have hb : s.byte (a + x) = b.getD x 0 := by
      have := tabGet_cells memDefault b a 0 x (by omega)
      simpa [State.byte, h, cells] using this
    rw [State.bytes, hb, show a + x + 1 = a + (x + 1) by omega, ih (x + 1) (by omega)]
    rw [List.drop_eq_getElem_cons (by omega : x < b.length), List.take_succ_cons]
    simp [List.getD_eq_getElem?_getD, List.getElem?_eq_getElem (by omega : x < b.length)]

/-- The part of a byte string from an offset. -/
def part (b : List Byte) (x n : Nat) : List Byte := (b.drop x).take n

/-- A slot whose bytes a string holds reads as the string. -/
theorem slot_cells {s : State} {n : Nat} {b : List Byte} (h : s.mem = cells (slotBase n) b) (x k : Nat) :
    s.slotBytes n x k = if x + k ≤ b.length then part b x k else s.bytes (slotBase n + x) k := by
  split
  · exact bytes_cells h x k ‹_›
  · rfl

theorem slotField_eq (s : State) (n x k : Nat) : s.slotField n x k = ofLe (s.slotBytes n x k) := rfl

def sigBlk (cls signed : Nat) : List Byte := leBytes 4 0x4C595331 ++ [b8 cls, 0, 0, 0] ++ leBytes 4 signed ++ List.replicate 180 0
/-- SHA-256 of no bytes. -/
def shaEmpty : List Byte := beBytes 32 0xe3b0c44298fc1c149afbf4c8996fb92427ae41e4649b934ca495991b7852b855
def ent (ty ofs size : Nat) (b : List Byte) : List Byte := [b8 ty, 0, 0, 0] ++ leBytes 4 ofs ++ leBytes 4 size ++ leBytes 4 0 ++ b
/-- A main bundle whose five entries are empty. -/
def mainB (ver : Nat) : List Byte :=
  leBytes 4 0x4C594D31 ++ [1, 0, 0, 0] ++ leBytes 4 0 ++ leBytes 8 0 ++ leBytes 4 0 ++ leBytes 4 ver ++ leBytes 4 496 ++ leBytes 4 64 ++ [5, 0]
    ++ List.replicate 26 0 ++ [1, 2, 3, 4, 5].flatMap (fun t => ent t 304 0 shaEmpty) ++ sigBlk 1 304
def bt (c : Nat) : State := let s := put_ up [(F.RST_BOOT_STAT_STEP, c), (F.RST_BOOT_STAT_PHASE, 0)]; { s with fus := { s.fus with rows := ((s.fus.rows.set 8 1).set 12 1).set 7 5 } }
def sl (l : List Nat) (s : State) : State := { s with upd := { s.upd with slots := l.map (fun k => { Slot.init with st := k }) } }

theorem sha_empty : sha256 [] = shaEmpty := by decide +kernel
theorem mainB_length : (mainB 9).length = 496 := by decide +kernel

/-- A state whose slot A holds the bundle, with the fuses and registers of `bt 7`, finds the bundle good. -/
theorem mainBad_zero {s : State} (hm : s.mem = cells (slotBase 0) (mainB 9)) (hf : s.fus = (bt 7).fus)
    (ho : (s.slot_ 0).overlap = false) (bOk : Bool) : (s.mainBad 0 true bOk).1 = 0 := by
  have sb := fun x k (h : x + k ≤ 496) => (slot_cells hm x k).trans (if_pos (by rw [mainB_length]; exact h))
  have fld := fun x k (h : x + k ≤ 496) => (slotField_eq s 0 x k).trans (congrArg ofLe (sb x k h))
  have size : s.slotField 0 28 4 = 496 := (fld 28 4 (by decide)).trans (by decide +kernel)
  have ofs : s.slotField 0 32 4 = 64 := (fld 32 4 (by decide)).trans (by decide +kernel)
  have num : s.slotField 0 36 1 = 5 := (fld 36 1 (by decide)).trans (by decide +kernel)
  have key : ∀ k, s.keyUsable 1 k = (bt 7).keyUsable 1 k := by
    intro k; unfold State.keyUsable State.fuse; rw [hf]
  have sig : s.slotSig 0 1 true 496 = (true, s) := by
    have hs : s.sigFields (part (mainB 9) 304 192) 304 1 = true := by
      simp only [State.sigFields, key]; decide +kernel
    simp only [State.slotSig, State.sigCheck]
    rw [sb 304 192 (by decide), hs]
    rfl
  have ents : s.mainEntries 0 = [1, 2, 3, 4, 5].map (fun t => ent t 304 0 shaEmpty) := by
    have : s.mainEntries 0 = (List.range 5).map (fun i => part (mainB 9) (64 + 48 * i) 48) := by
      rw [State.mainEntries, num]
      exact List.map_congr_left (fun i hi => by rw [State.mainEntry, ofs]; exact sb _ _ (by have := List.mem_range.mp hi; omega))
    rw [this]; decide +kernel
  have eOk : ∀ t, t ∈ [1, 2, 3, 4, 5] → s.entryOk 0 496 (ent t 304 0 shaEmpty) = true := by
    intro t ht
    have hd : entOfs (ent t 304 0 shaEmpty) = 304 ∧ entSize (ent t 304 0 shaEmpty) = 0 ∧ slice (ent t 304 0 shaEmpty) 16 32 = shaEmpty := by
      revert t; decide +kernel
    rw [State.entryOk, hd.1, hd.2.1, hd.2.2, show s.slotBytes 0 304 0 = [] from rfl, sha_empty]
    decide +kernel
  have all : ([1, 2, 3, 4, 5].map (fun t => ent t 304 0 shaEmpty)).all (s.entryOk 0 496) = true := by
    simpa [List.all_eq_true] using ⟨eOk 1 (by decide), eOk 2 (by decide), eOk 3 (by decide), eOk 4 (by decide), eOk 5 (by decide)⟩
  have unit : s.wrongUnit 0 = false := rfl
  have rest : ofLe (slice (part (mainB 9) 0 64) 12 8) = 0 ∧ ofLe (s.slotBytes 0 (496 - 192 + 5) 1) = 0 ∧ ofLe (slice (part (mainB 9) 0 64) 37 1) = 0 := by
    rw [sb _ _ (by decide)]; decide +kernel
  have rev : s.revokeBad 0 0 = false := rfl
  simp only [State.mainBad, State.checkMain, size, sig, ents, ofs, all, ho, if_true]
  rw [sb 0 64 (by decide), rest.1, rest.2.1, rest.2.2, unit, rev, State.fuse, State.fuse, hf]
  decide +kernel
/-- GRANITE is under way, with the two slots' states and the active one; slot G-A holds a bundle of empty parts. -/
def granB : List Byte :=
  leBytes 4 0x4C594731 ++ [1, 0, 0, 0] ++ leBytes 4 0 ++ leBytes 8 0 ++ leBytes 4 0 ++ List.replicate 16 7 ++ leBytes 4 3 ++ leBytes 4 456 ++ leBytes 4 64
    ++ List.replicate 12 0 ++ [0, 1, 2, 3, 4].flatMap (fun _ => leBytes 4 264 ++ leBytes 4 0 ++ shaEmpty) ++ sigBlk 2 264
def gr (a b : Nat) (act_ : Option Nat) : State := { bt 8 with gov := { (bt 8).gov with slots := [a, b], active := act_ }, mem := cells (slotBase 2) granB }

theorem granB_length : granB.length = 456 := by decide +kernel

theorem checkGranite_zero {s : State} (hm : s.mem = cells (slotBase 2) granB) (hf : s.fus = (bt 8).fus)
    (hs : s.slotState 2 = 4 ∨ s.gov.active = some 0) : s.slotField 2 20 4 = s.approvals ∧ (s.checkGranite 2 (graniteOk 2 true true)).1 = 0 := by
  have sb := fun x k (h : x + k ≤ 456) => (slot_cells hm x k).trans (if_pos (by rw [granB_length]; exact h))
  have fld := fun x k (h : x + k ≤ 456) => (slotField_eq s 2 x k).trans (congrArg ofLe (sb x k h))
  have size : s.slotField 2 44 4 = 456 := (fld 44 4 (by decide)).trans (by decide +kernel)
  have ofs : s.slotField 2 48 4 = 64 := (fld 48 4 (by decide)).trans (by decide +kernel)
  have app : s.approvals = 0 := by rw [State.approvals, State.fuse, hf]; decide +kernel
  have key : ∀ k, s.keyUsable 2 k = (bt 8).keyUsable 2 k := by
    intro k; unfold State.keyUsable State.fuse; rw [hf]
  have sig : s.slotSig 2 2 true 456 = (true, s) := by
    have hs : s.sigFields (part granB 264 192) 264 2 = true := by
      simp only [State.sigFields, key]; decide +kernel
    simp only [State.slotSig, State.sigCheck]
    rw [sb 264 192 (by decide), hs]
    rfl
  have ge : ∀ i, i < 5 → s.graniteEntry 2 i = (264, 0, shaEmpty) := by
    intro i hi
    rw [State.graniteEntry, ofs, sb _ _ (by omega)]
    revert i; decide +kernel
  have po : (List.range 5).all (fun i => s.partOk 2 i 456) = true := by
    rw [List.all_eq_true]
    intro i hi
    have hi := List.mem_range.mp hi
    have hp : s.granitePart 2 i = [] := by rw [State.granitePart, ge i hi]; rfl
    simp only [State.partOk, ge i hi, hp, sha_empty]
    simp
  have unit : s.wrongUnit 0 = false := rfl
  have id : ofLe (slice (part granB 0 64) 12 8) = 0 := by decide +kernel
  refine ⟨by rw [fld 20 4 (by decide), app]; decide +kernel, ?_⟩
  simp only [State.checkGranite, graniteOk, size, sig, ofs, po, app, if_true]
  rw [sb 0 64 (by decide), id, unit, State.fuse, hf]
  rcases hs with h | h
  · simp only [h, ne_eq, not_true_eq_false, decide_false, Bool.and_false]
    decide +kernel
  · simp only [h, Nat.add_zero, decide_true, Bool.not_true, Bool.and_false, Bool.false_and]
    decide +kernel

/-- A bundle with one profile record and no other entry. -/
def prof0 : List Byte := leBytes 4 0x4C595031 ++ [0, 0, 1, 0] ++ List.replicate 120 0
def recB : List Byte := List.replicate 32 0 ++ leBytes 4 64 ++ [1] ++ List.replicate 27 0 ++ ent 4 112 128 shaEmpty ++ prof0
def pr : State := { put_ (bt 10) [(F.GOV_STAT_TABLES_OK, 1)] with mem := cells (slotBase 0) recB, gov := { (bt 10).gov with active := some 0 } }
theorem recB_length : recB.length = 240 := by decide +kernel
theorem tryProfile_pr (cmd : Bool) : (pr.tryProfile 0 cmd).1 = 0 := by
  have sb := fun x k (h : x + k ≤ 240) => (slot_cells (s := pr) rfl x k).trans (if_pos (by rw [recB_length]; exact h))
  have fld := fun x k (h : x + k ≤ 240) => (slotField_eq pr 0 x k).trans (congrArg ofLe (sb x k h))
  have ofs : pr.slotField 0 32 4 = 64 := (fld 32 4 (by decide)).trans (by decide +kernel)
  have num : pr.slotField 0 36 1 = 1 := (fld 36 1 (by decide)).trans (by decide +kernel)
  have ents : pr.mainEntries 0 = [ent 4 112 128 shaEmpty] := by
    rw [State.mainEntries, num]
    show [pr.mainEntry 0 0] = _
    rw [State.mainEntry, ofs, sb _ _ (by decide)]; decide +kernel
  have main : pr.g F.UPD_STAT_MAIN_ACT = 0 := by decide +kernel
  have pos : entOfs (ent 4 112 128 shaEmpty) = 112 ∧ entSize (ent 4 112 128 shaEmpty) = 128
      ∧ (entType (ent 4 112 128 shaEmpty) = 4 ∧ entIndex (ent 4 112 128 shaEmpty) = 0) := by decide +kernel
  have rec0 : pr.profRecord 0 = some prof0 := by
    simp only [State.profRecord, main, ents, List.find?_cons, pos.2.2.1, pos.2.2.2, decide_true, Bool.and_true, Option.map_some, pos.1, pos.2.1]
    rw [show pr.slotBytes 0 112 128 = prof0 from (sb 112 128 (by decide)).trans (by decide +kernel)]
  have tabs : (pr.on F.GOV_STAT_TABLES_OK && decide (pr.g F.GOV_PROF_PROFILE = 0)) = true := by decide +kernel
  have act : pr.gov.active = some 0 := rfl
  simp only [State.tryProfile, rec0, act, tabs, if_true]
  have ok : recordOk prof0 0 = true := by decide +kernel
  have cut : pr.g F.GOV_PROF_CUTOFF_TILES = 0 := by decide +kernel
  have seg : ((pr.shadowSeg prof0).candidate [0x60]).segRej = 0 := by decide +kernel
  simp [ok, cut, seg]

/-- A header of a calibration set. -/
def calB : List Byte := let h := leBytes 4 0x4C594331 ++ [1, 0, 0, 0] ++ List.replicate 12 0 ++ leBytes 4 77 ++ List.replicate 228 0; h ++ leBytes 4 (crc32 h)
def ca : State := { sl [0, 0, 0, 0, 6, 0] (bt 11) with mem := cells (slotBase 4) calB }
set_option maxRecDepth 100000 in
theorem calHeader_ca : ca.calHeaderOk 4 = true := by
  have sb := (slot_cells (s := ca) (n := 4) rfl 0 256).trans (if_pos (by decide +kernel))
  rw [State.calHeaderOk, sb]; decide +kernel

def alt (s : State) : State := { s with rst := { s.rst with alt := true } }
def jn (tries : Nat) : State := let s := (bt 6).freshJournal; ((s.jput 0xC 1 tries).jseal)
/-- A slot A without entries. -/
def noEntries (s : State) : State := { s with mem := [(slotBase 0 + 36, 0)] }
def mB (a b : Nat) : State := noEntries (sl [a, b, 0, 0, 0, 0] (bt 7))
def grB (a b : Nat) (act_ : Option Nat) : State := { bt 8 with gov := { (bt 8).gov with slots := [a, b], active := act_ } }
def sr (f : Nat) : SetRec := ⟨f, 2, 7, 0⟩
def st9 (l : List (Option SetRec)) : State := let s := bt 9; { s with upd := { s.upd with settings := l } }
/-- MAIN_IMAGE is under way, with the states of slots A and B; slot A holds a bundle. -/
def mA (a b : Nat) : State := { sl [a, b, 0, 0, 0, 0] (bt 7) with mem := cells (slotBase 0) (mainB 9) }
theorem granite_pending : (gr 4 0 none).slotField 2 20 4 = (gr 4 0 none).approvals ∧ ((gr 4 0 none).checkGranite 2 (graniteOk 2 true true)).1 = 0 :=
  checkGranite_zero (s := gr 4 0 none) rfl rfl (Or.inl (by decide +kernel))
theorem granite_active : ((gr 5 0 (some 0)).checkGranite 2 (graniteOk 2 true true)).1 = 0 :=
  (checkGranite_zero (s := gr 5 0 (some 0)) rfl rfl (Or.inr rfl)).2
theorem main_pending : ((mA 4 0).mainBad 0 true true).1 = 0 := mainBad_zero (s := mA 4 0) rfl rfl (by decide +kernel) true
theorem main_active : ((mA 6 0).mainBad 0 true true).1 = 0 := mainBad_zero (s := mA 6 0) rfl rfl (by decide +kernel) true
theorem main_other : ((alt (mA 3 6)).mainBad 0 true false).1 = 0 := mainBad_zero (s := alt (mA 3 6)) rfl rfl (by decide +kernel) false

set_option maxRecDepth 1000000 in
theorem test_hypsBootStepsOfGarnet :
    (∃ s : State, (s.bootRuns 4 = true) ∧ (s.lc ≠ 0) ∧ (s.lc ≠ 4))
    ∧ (∃ s : State, (s.bootRuns 4 = true) ∧ (s.lc = 0))
    ∧ (∃ s : State, (s.bootRuns 4 = true) ∧ (s.lc = 4) ∧ (s.upd.trial = none))
    ∧ (∃ s : State, (s.bootRuns 5 = true))
    ∧ (∃ s : State, (s.bootRuns 6 = true) ∧ (headerOk (s.bytes journalBase 32) = true) ∧ (s.rst.recoveryStrap = false) ∧ (s.jget 0xC 1 < 8))
    ∧ (∃ s : State, (s.bootRuns 6 = true) ∧ (headerOk (s.bytes journalBase 32) = true) ∧ (s.rst.recoveryStrap = true ∨ 8 ≤ s.jget 0xC 1))
    ∧ (∃ s : State, (s.bootRuns 6 = true) ∧ (headerOk (s.bytes journalBase 32) = false) ∧ (s.copyOk 0 = false) ∧ (s.copyOk 1 = false) ∧ (s.rst.recoveryStrap = false))
    ∧ (∃ s : State, ∃ aOk : Bool, ∃ bOk : Bool, ∃ p : Nat, (s.bootRuns 7 = true) ∧ (s.upd.trial = none) ∧ (s.shaped = true) ∧ (s.slotIn [0, 1] 4 = some p) ∧ ((s.mainBad p aOk bOk).1 = 0))
    ∧ (∃ s : State, ∃ aOk : Bool, ∃ bOk : Bool, ∃ p : Nat, (s.bootRuns 7 = true) ∧ (s.upd.trial = none) ∧ (s.shaped = true) ∧ (s.slotIn [0, 1] 4 = some p) ∧ ((s.mainBad p aOk bOk).1 ≠ 0))
    ∧ (∃ s : State, ∃ aOk : Bool, ∃ bOk : Bool, ∃ n : Nat, (s.bootRuns 7 = true) ∧ (s.upd.trial = none) ∧ (s.shaped = true) ∧ (s.slotIn [0, 1] 4 = none) ∧ (s.slotIn [0, 1] 6 = some n) ∧ ((s.mainBad n aOk bOk).1 = 0) ∧ (s.rst.alt = false))
    ∧ (∃ s : State, ∃ aOk : Bool, ∃ bOk : Bool, ∃ n : Nat, (s.bootRuns 7 = true) ∧ (s.upd.trial = none) ∧ (s.shaped = true) ∧ (s.slotIn [0, 1] 4 = none) ∧ (s.slotIn [0, 1] 6 = some n) ∧ ((s.mainBad n aOk bOk).1 ≠ 0) ∧ (s.rst.alt = false))
    ∧ (∃ s : State, ∃ aOk : Bool, ∃ bOk : Bool, ∃ n : Nat, (s.bootRuns 7 = true) ∧ (s.upd.trial = none) ∧ (s.shaped = true) ∧ (s.slotIn [0, 1] 4 = none) ∧ (s.slotIn [0, 1] 6 = some n) ∧ ((s.mainBad n aOk bOk).1 ≠ 0) ∧ (s.rst.alt = true) ∧ (s.slotState (otherSlot n) ≠ 3))
    ∧ (∃ s : State, ∃ aOk : Bool, ∃ bOk : Bool, ∃ n : Nat, (s.bootRuns 7 = true) ∧ (s.upd.trial = none) ∧ (s.shaped = true) ∧ (s.slotIn [0, 1] 4 = none) ∧ (s.slotIn [0, 1] 6 = some n) ∧ ((s.mainBad n aOk bOk).1 ≠ 0) ∧ (s.rst.alt = true) ∧ (s.slotState (otherSlot n) = 3) ∧ ((s.mainBad (otherSlot n) aOk bOk).1 = 0))
    ∧ (∃ s : State, (s.bootRuns 4 = false))
    ∧ (∃ s : State, (s.bootRuns 5 = false))
    ∧ (∃ s : State, (s.bootRuns 6 = false))
    ∧ (∃ s : State, (s.bootRuns 7 = false)) :=
  ⟨⟨bt 4, by decide +kernel⟩,
   ⟨put_ (bt 4) [(F.SEC_LC_STATE, 0)], by decide +kernel⟩,
   ⟨put_ (bt 4) [(F.SEC_LC_STATE, 4)], by decide +kernel⟩,
   ⟨bt 5, by decide +kernel⟩,
   ⟨jn 0, by decide +kernel⟩,
   ⟨jn 8, by decide +kernel⟩,
   ⟨{ bt 6 with rst := { (bt 6).rst with journalOpen := false } }, by decide +kernel⟩,
   ⟨mA 4 0, true, true, 0, by decide +kernel, rfl, by decide +kernel, by decide +kernel, main_pending⟩,
   ⟨mB 4 0, true, true, 0, by decide +kernel⟩,
   ⟨mA 6 0, true, true, 0, by decide +kernel, rfl, by decide +kernel, by decide +kernel, by decide +kernel, main_active, rfl⟩,
   ⟨mB 6 0, true, true, 0, by decide +kernel⟩,
   ⟨alt (mB 6 0), true, true, 0, by decide +kernel⟩,
   ⟨alt (mA 3 6), true, false, 1, by decide +kernel, rfl, by decide +kernel, by decide +kernel, by decide +kernel, by decide +kernel, rfl, by decide +kernel, main_other⟩,
   ⟨bt 5, by decide +kernel⟩,
   ⟨bt 4, by decide +kernel⟩,
   ⟨bt 4, by decide +kernel⟩,
   ⟨bt 4, by decide +kernel⟩⟩

set_option maxRecDepth 1000000 in
theorem test_hypsBootStepsToKernels :
    (∃ s : State, ∃ aOk : Bool, ∃ bOk : Bool, ∃ p : Nat, (s.bootRuns 8 = true) ∧ (s.saf.halted = false) ∧ (s.shaped = true) ∧ (s.slotIn [2, 3] 4 = some p) ∧ (s.fus.job = none) ∧ ((s.checkGranite p (graniteOk p aOk bOk)).1 ≠ 0))
    ∧ (∃ s : State, ∃ aOk : Bool, ∃ bOk : Bool, ∃ p : Nat, (s.bootRuns 8 = true) ∧ (s.saf.halted = false) ∧ (s.shaped = true) ∧ (s.slotIn [2, 3] 4 = some p) ∧ (s.fus.job = none) ∧ ((s.checkGranite p (graniteOk p aOk bOk)).1 = 0) ∧ (s.slotField p 20 4 = s.approvals))
    ∧ (∃ s : State, ∃ aOk : Bool, ∃ bOk : Bool, ∃ a : Nat, (s.bootRuns 8 = true) ∧ (s.saf.halted = false) ∧ (s.shaped = true) ∧ (s.slotIn [2, 3] 4 = none) ∧ (s.gov.active = some a) ∧ (a < 2) ∧ (s.rst.alt = false) ∧ ((s.checkGranite (2 + a) (graniteOk (2 + a) aOk bOk)).1 = 0))
    ∧ (∃ s : State, ∃ aOk : Bool, ∃ bOk : Bool, ∃ a : Nat, (s.bootRuns 8 = true) ∧ (s.saf.halted = false) ∧ (s.shaped = true) ∧ (s.slotIn [2, 3] 4 = none) ∧ (s.gov.active = some a) ∧ (a < 2) ∧ (s.rst.alt = false) ∧ ((s.checkGranite (2 + a) (graniteOk (2 + a) aOk bOk)).1 ≠ 0))
    ∧ (∃ s : State, ∃ r : SetRec, (s.bootRuns 9 = true) ∧ (s.setBest = some r) ∧ (r.fmt = s.runFmt) ∧ (s.thm.deferred.contains .settings = false))
    ∧ (∃ s : State, ∃ r : SetRec, (s.bootRuns 9 = true) ∧ (s.setBest = some r) ∧ (r.fmt ≠ s.runFmt))
    ∧ (∃ s : State, (s.bootRuns 9 = true) ∧ (s.setBest = none))
    ∧ (∃ s : State, (s.bootRuns 9 = true))
    ∧ (∃ s : State, ∃ p : Nat, let cmd := !s.rst.alt && s.on F.PRF_SEL_VALID && s.on F.FUS_OPT_PROF_CMD; (s.bootRuns 10 = true) ∧ (s.saf.halted = false) ∧ (p = (if s.rst.alt then 0 else if cmd then s.g F.PRF_SEL_PROF else s.g F.PRF_STAT_STRAP)) ∧ ((s.tryProfile p cmd).1 = 0))
    ∧ (∃ s : State, ∃ p : Nat, let cmd := !s.rst.alt && s.on F.PRF_SEL_VALID && s.on F.FUS_OPT_PROF_CMD; (s.bootRuns 10 = true) ∧ (s.saf.halted = false) ∧ (p = (if s.rst.alt then 0 else if cmd then s.g F.PRF_SEL_PROF else s.g F.PRF_STAT_STRAP)) ∧ (s.rst.alt = false))
    ∧ (∃ s : State, ∃ ok : Bool, ∃ n : Nat, (s.bootRuns 11 = true) ∧ (s.shaped = true) ∧ (s.slotIn [4, 5] 4 = some n ∨ (s.slotIn [4, 5] 4 = none ∧ s.rst.alt = false ∧ s.slotIn [4, 5] 6 = some n)) ∧ (ok = true) ∧ (s.calHeaderOk n = true))
    ∧ (∃ s : State, ∃ ok : Bool, ∃ n : Nat, (s.bootRuns 11 = true) ∧ (s.shaped = true) ∧ (s.slotIn [4, 5] 4 = some n ∨ (s.slotIn [4, 5] 4 = none ∧ s.rst.alt = false ∧ s.slotIn [4, 5] 6 = some n)) ∧ (ok = false ∨ s.calHeaderOk n = false))
    ∧ (∃ s : State, (s.bootRuns 11 = true) ∧ (s.slotIn [4, 5] 4 = none) ∧ (s.rst.alt = true))
    ∧ (∃ s : State, ∃ ok : Bool, (s.bootRuns 12 = true) ∧ (s.rst.alt = true ∨ (s.loadKernel ok).1 = 0))
    ∧ (∃ s : State, ∃ ok : Bool, (s.bootRuns 12 = true) ∧ (s.rst.alt = false) ∧ ((s.loadKernel ok).1 ≠ 0))
    ∧ (∃ s : State, (s.bootRuns 8 = false ∨ s.saf.halted = true))
    ∧ (∃ s : State, (s.bootRuns 9 = false))
    ∧ (∃ s : State, (s.bootRuns 10 = false ∨ s.saf.halted = true))
    ∧ (∃ s : State, (s.bootRuns 11 = false))
    ∧ (∃ s : State, (s.bootRuns 12 = false)) :=
  ⟨⟨grB 4 0 none, true, true, 2, by decide +kernel⟩,
   ⟨gr 4 0 none, true, true, 2, by decide +kernel, rfl, by decide +kernel, by decide +kernel, rfl, granite_pending.2, granite_pending.1⟩,
   ⟨gr 5 0 (some 0), true, true, 0, by decide +kernel, rfl, by decide +kernel, by decide +kernel, rfl, by decide, rfl, granite_active⟩,
   ⟨grB 5 0 (some 0), true, true, 0, by decide +kernel⟩,
   ⟨st9 [some (sr 65535), none], sr 65535, by decide +kernel⟩,
   ⟨st9 [none, some (sr 2)], sr 2, by decide +kernel⟩,
   ⟨st9 [none, none], by decide +kernel⟩,
   ⟨bt 9, by decide +kernel⟩,
   ⟨pr, 0, by decide +kernel, rfl, by decide +kernel, tryProfile_pr _⟩,
   ⟨bt 10, 0, by decide +kernel⟩,
   ⟨ca, true, 4, by decide +kernel, by decide +kernel, Or.inr (by decide +kernel), rfl, calHeader_ca⟩,
   ⟨ca, false, 4, by decide +kernel, by decide +kernel, Or.inr (by decide +kernel), Or.inl rfl⟩,
   ⟨alt (bt 11), by decide +kernel⟩,
   ⟨alt (bt 12), true, by decide +kernel, Or.inl rfl⟩,
   ⟨noEntries (bt 12), true, by decide +kernel⟩,
   ⟨bt 9, by decide +kernel⟩,
   ⟨bt 8, by decide +kernel⟩,
   ⟨bt 8, by decide +kernel⟩,
   ⟨bt 8, by decide +kernel⟩,
   ⟨bt 8, by decide +kernel⟩⟩

namespace BootEnd
def bt (c : Nat) : State := put_ act [(F.RST_BOOT_STAT_STEP, c), (F.RST_BOOT_STAT_PHASE, 0), (F.THM_STAT_FLASH_OK, 1), (F.SAF_STAT_FSTATE, if c = 16 then 3 else 2), (F.PRF_STAT_TILES, 0x81), (F.RST_EPOCH_STAT_SAVED, 0), (F.SAF_SOUT_CFG_USED 0, 1), (F.SAF_SOUT_STAT_STATE 0, 1)]
set_option maxRecDepth 1000000 in
theorem test_hypsBootEnd :
    (∃ s : State, (s.bootRuns 13 = true))
    ∧ (∃ s : State, (s.bootRuns 14 = true))
    ∧ (∃ s : State, (s.bootRuns 15 = true) ∧ (s.g F.SAF_STAT_FSTATE = 2 ∨ s.g F.SAF_STAT_FSTATE = 3))
    ∧ (∃ s : State, (s.bootRuns 16 = true) ∧ (s.g F.SAF_STAT_FSTATE = 3) ∧ (s.tilePower = true) ∧ (s.shaped = true))
    ∧ (∃ s : State, (s.g F.RST_EPOCH_EPOCH ≠ 0) ∧ (s.on F.RST_EPOCH_STAT_SAVED = false) ∧ (s.garnetRuns = true) ∧ (s.on F.THM_STAT_FLASH_OK = true) ∧ (s.epochStored.1 < 0xFFFFFFFF))
    ∧ (∃ s : State, (s.g F.RST_EPOCH_EPOCH ≠ 0) ∧ (s.on F.RST_EPOCH_STAT_SAVED = false) ∧ (s.garnetRuns = true) ∧ (s.on F.THM_STAT_FLASH_OK = false))
    ∧ (∃ s : State, ∃ m : Master, ∃ v : Word, (s.masterRuns m = true) ∧ (s.mayWrite m 0x02 0x5C = true) ∧ (wordField v 0 0 = 1) ∧ (s.rst.journalOpen = true))
    ∧ (∃ s : State, ∃ m : Master, ∃ v : Word, (s.masterRuns m = true) ∧ (s.mayWrite m 0x02 0x5C = true) ∧ (wordField v 0 0 = 0) ∧ (wordField v 1 1 = 1) ∧ (s.on F.THM_STAT_FLASH_OK = true))
    ∧ (∃ s : State, ∃ m : Master, ∃ v : Word, (s.masterRuns m = true) ∧ (s.mayWrite m 0x02 0x5C = true) ∧ (wordField v 0 0 = 0) ∧ (wordField v 1 1 = 1) ∧ (s.on F.THM_STAT_FLASH_OK = false))
    ∧ (∃ s : State, ∃ m : Master, ∃ v : Word, (s.masterRuns m = true) ∧ (s.mayWrite m 0x02 0x5C = true) ∧ (wordField v 1 0 = 0))
    ∧ (∃ s : State, (s.bootRuns 13 = false))
    ∧ (∃ s : State, (s.bootRuns 14 = false))
    ∧ (∃ s : State, (s.bootRuns 15 = false ∨ (s.g F.SAF_STAT_FSTATE ≠ 2 ∧ s.g F.SAF_STAT_FSTATE ≠ 3)))
    ∧ (∃ s : State, (s.bootRuns 16 = false ∨ s.g F.SAF_STAT_FSTATE ≠ 3 ∨ s.tilePower = false))
    ∧ (∃ s : State, (s.g F.RST_EPOCH_EPOCH = 0 ∨ s.on F.RST_EPOCH_STAT_SAVED = true ∨ s.garnetRuns = false)) :=
  ⟨⟨bt 13, by decide +kernel⟩,
   ⟨bt 14, by decide +kernel⟩,
   ⟨bt 15, by decide +kernel⟩,
   ⟨bt 16, by decide +kernel⟩,
   ⟨bt 13, by decide +kernel⟩,
   ⟨put_ (bt 16) [(F.THM_STAT_FLASH_OK, 0)], by decide +kernel⟩,
   ⟨bt 13, .garnet, 1, by decide +kernel⟩,
   ⟨bt 13, .garnet, 2, by decide +kernel⟩,
   ⟨put_ (bt 16) [(F.THM_STAT_FLASH_OK, 0)], .garnet, 2, by decide +kernel⟩,
   ⟨bt 13, .garnet, 0, by decide +kernel⟩,
   ⟨bt 14, by decide +kernel⟩,
   ⟨bt 13, by decide +kernel⟩,
   ⟨bt 13, by decide +kernel⟩,
   ⟨bt 13, by decide +kernel⟩,
   ⟨State.reset, by decide +kernel⟩⟩
end BootEnd

namespace BlockResetsAndWorlds
def w0 : State := { put_ act [(F.UNIT_CTRL_WORLD 0x18, 1), (F.TL_STAT_STATE 0, 5), (F.UNIT_CTRL_ENABLE 0x51, 1)] with lnkA := { act.lnkA with rx := [⟨1, [1]⟩] } }
set_option maxRecDepth 1000000 in
theorem test_hypsBlockResetsAndWorlds :
    (∃ s : State, ∃ m : Master, (s.masterRuns m = true) ∧ (s.mayWrite m 0x00 0x08 = true))
    ∧ (∃ s : State, ∃ m : Master, ∃ p : Nat, (p ∈ [0x02, 0x70, 0x71, 0x78, 0x7A]) ∧ (s.masterRuns m = true) ∧ (s.mayWrite m p 0x08 = true))
    ∧ (∃ s : State, ∃ m : Master, ∃ p : Nat, (p < 0x8D) ∧ (assigned p = true) ∧ (p ≠ 0x00) ∧ (blkRefused p = false) ∧ (s.masterRuns m = true) ∧ (s.mayWrite m p 0x08 = true) ∧ ((p = 0x79 → s.bistRuns = false)))
    ∧ (∃ s : State, ∃ p : Nat, (s.rst.blocks.any (fun b => b.page = p && b.running) = true))
    ∧ (∃ s : State, ∃ p : Nat, (s.rst.blocks.any (fun b => b.page = p && b.running) = false))
    ∧ (∃ s : State, ∃ p : Nat, ∃ v : Word, (p < 0x8D) ∧ (assigned p = true) ∧ (worldFixed p = false) ∧ (groupPage p = p) ∧ (s.masterRuns .garnet = true) ∧ (s.mayWrite .garnet p 0x08 = true) ∧ ((p = 0x79 → s.bistRuns = false)) ∧ (wordField v 1 1 = 0) ∧ (wordField v 0 0 = s.g (F.UNIT_CTRL_ENABLE p)))
    ∧ (∃ s : State, ∃ m : Master, ∃ p : Nat, ∃ v : Word, (p < 0x8D) ∧ (assigned p = true) ∧ (m ≠ .garnet) ∧ (s.masterRuns m = true) ∧ (s.mayWrite m p 0x08 = true) ∧ ((p = 0x79 → s.bistRuns = false)) ∧ (wordField v 1 1 = 0) ∧ (wordField v 0 0 = s.g (F.UNIT_CTRL_ENABLE p)) ∧ (wordField v 2 2 = s.world p))
    ∧ (∃ s : State, ∃ m : Master, ∃ p : Nat, ∃ v : Word, (p < 0x8D) ∧ (assigned p = true) ∧ (m ≠ .garnet) ∧ (s.masterRuns m = true) ∧ (s.mayWrite m p 0x08 = true) ∧ ((p = 0x79 → s.bistRuns = false)) ∧ (wordField v 1 1 = 0) ∧ (wordField v 0 0 = s.g (F.UNIT_CTRL_ENABLE p)) ∧ (wordField v 2 2 ≠ s.world p))
    ∧ (∃ s : State, ∃ m : Master, ∃ p : Nat, ∃ v : Word, (p < 0x8D) ∧ (assigned p = true) ∧ (s.masterRuns m = true) ∧ (s.mayWrite m p 0x08 = true) ∧ ((p = 0x79 → s.bistRuns = false)) ∧ (wordField v 1 1 = 0) ∧ (wordField v 2 2 = s.world p) ∧ (wordField v 0 0 ≠ s.g (F.UNIT_CTRL_ENABLE p)) ∧ (wordField v 0 0 = 1 ∨ s.enableHeld p = false))
    ∧ (∃ s : State, ∃ m : Master, (s.masterRuns m = true) ∧ (s.mayWrite m 0x79 0x08 = true) ∧ (s.bistRuns = true)) :=
  ⟨⟨w0, .garnet, by decide +kernel⟩,
   ⟨w0, .garnet, 0x02, by decide +kernel⟩,
   ⟨w0, .garnet, 0x03, by decide +kernel⟩,
   ⟨{ w0 with rst := { w0.rst with blocks := [⟨0x18, true⟩, ⟨0x40, false⟩] } }, 0x18, by decide +kernel⟩,
   ⟨w0, 0x02, by decide +kernel⟩,
   ⟨w0, 0x02, 1, by decide +kernel⟩,
   ⟨w0, .app, 0x08, 1, by decide +kernel⟩,
   ⟨w0, .app, 0x08, 5, by decide +kernel⟩,
   ⟨w0, .garnet, 0x08, 0, by decide +kernel⟩,
   ⟨put_ w0 [(F.BST_LB_STAT_RESULT, 1)], .garnet, by decide +kernel⟩⟩
end BlockResetsAndWorlds

namespace CommitsAndDiscard
def sh (p : Nat) (l : List (Nat × Nat)) (s : State) : State := l.foldl (fun s e => s.setShadow (p * 4096 + e.1) (BitVec.ofNat 32 e.2)) s
def w0 : State := sh 0x68 [(0x60, 0), (0x64, 0x100)] (sh 0x19 [(0x44, 5)] (sh 0x04 [(0x44, 3)] (sh 0x18 [(0x44, 4000000)] act)))
def run_ (s : State) : State := { s with tln := { s.tln with running := true } }
def saf : State := (List.range 4).foldl (fun s n => s.setShadow (F.SAF_SIN_CFG_USED n).addr (BitVec.ofNat 32 0)) act
set_option maxRecDepth 1000000 in
theorem test_hypsCommitsAndDiscard :
    (∃ s : State, ∃ m : Master, ∃ p : Nat, ∃ v : Word, let bad := (if (commitPages p).contains p then commitPages p else p :: commitPages p).filter (s.pageBad (s.candidate (commitPages p))); (p < 0x8D) ∧ (assigned p = true) ∧ (s.masterRuns m = true) ∧ (s.mayWrite m p 0x30 = true) ∧ (p ≠ 0x68) ∧ (p ≠ 0x40) ∧ ((p = 0x79 → s.bistRuns = false)) ∧ (wordField v 1 1 = 0) ∧ (wordField v 0 0 = 1) ∧ (s.blockRunning p = false) ∧ (commitPages p ≠ []) ∧ (bad = []))
    ∧ (∃ s : State, ∃ m : Master, ∃ p : Nat, ∃ v : Word, (p < 0x8D) ∧ (assigned p = true) ∧ (s.masterRuns m = true) ∧ (s.mayWrite m p 0x30 = true) ∧ (p ≠ 0x68) ∧ (p ≠ 0x40) ∧ ((p = 0x79 → s.bistRuns = false)) ∧ (wordField v 1 1 = 0) ∧ (wordField v 0 0 = 1) ∧ (s.blockRunning p = false) ∧ (commitPages p = []))
    ∧ (∃ s : State, ∃ m : Master, ∃ p : Nat, ∃ v : Word, let bad := (if (commitPages p).contains p then commitPages p else p :: commitPages p).filter (s.pageBad (s.candidate (commitPages p))); (p < 0x8D) ∧ (assigned p = true) ∧ (s.masterRuns m = true) ∧ (s.mayWrite m p 0x30 = true) ∧ (p ≠ 0x68) ∧ (p ≠ 0x40) ∧ ((p = 0x79 → s.bistRuns = false)) ∧ (wordField v 1 1 = 0) ∧ (wordField v 0 0 = 1) ∧ (s.blockRunning p = false) ∧ (bad ≠ []) ∧ (commitPages p ≠ []))
    ∧ (∃ s : State, ∃ m : Master, ∃ p : Nat, ∃ v : Word, (p < 0x8D) ∧ (assigned p = true) ∧ (s.masterRuns m = true) ∧ (s.mayWrite m p 0x30 = true) ∧ (p ≠ 0x68) ∧ (p ≠ 0x40) ∧ ((p = 0x79 → s.bistRuns = false)) ∧ (wordField v 1 1 = 0) ∧ (wordField v 0 0 = 1) ∧ (s.blockRunning p = true))
    ∧ (∃ s : State, ∃ m : Master, ∃ p : Nat, ∃ v : Word, (p < 0x8D) ∧ (assigned p = true) ∧ (s.masterRuns m = true) ∧ (s.mayWrite m p 0x30 = true) ∧ (p ≠ 0x68) ∧ (p ≠ 0x40) ∧ ((p = 0x79 → s.bistRuns = false)) ∧ (wordField v 1 1 = 1) ∧ (s.regsWf = true))
    ∧ (∃ s : State, ∃ m : Master, ∃ p : Nat, ∃ v : Word, (p < 0x8D) ∧ (assigned p = true) ∧ (s.masterRuns m = true) ∧ (s.mayWrite m p 0x30 = true) ∧ (p ≠ 0x68) ∧ (p ≠ 0x40) ∧ ((p = 0x79 → s.bistRuns = false)) ∧ (wordField v 1 1 = 0) ∧ (wordField v 0 0 = 0))
    ∧ (∃ s : State, ∃ m : Master, (s.masterRuns m = true) ∧ (s.mayWrite m 0x79 0x30 = true) ∧ (s.bistRuns = true))
    ∧ (∃ s : State, ∃ p : Nat, ∃ v : Word, (s.masterRuns .flint = true) ∧ (p = 0x40 ∨ p = 0x68) ∧ (wordField v 1 1 = 0) ∧ (wordField v 0 0 = 0))
    ∧ (∃ s : State, ∃ p : Nat, ∃ v : Word, (s.masterRuns .flint = true) ∧ (p = 0x40 ∨ p = 0x68) ∧ (wordField v 1 1 = 1) ∧ (s.regsWf = true))
    ∧ (∃ s : State, ∃ p : Nat, ∃ v : Word, (s.masterRuns .flint = true) ∧ (p = 0x40 ∨ p = 0x68) ∧ (wordField v 1 1 = 0) ∧ (wordField v 0 0 = 1) ∧ (s.blockRunning p = true))
    ∧ (∃ s : State, ∃ p : Nat, ∃ v : Word, (s.masterRuns .flint = true) ∧ (p = 0x40 ∨ p = 0x68) ∧ (wordField v 1 1 = 0) ∧ (wordField v 0 0 = 1) ∧ (s.blockRunning p = false) ∧ (p = 0x40))
    ∧ (∃ s : State, ∃ p : Nat, ∃ v : Word, (s.masterRuns .flint = true) ∧ (p = 0x40 ∨ p = 0x68) ∧ (wordField v 1 1 = 0) ∧ (wordField v 0 0 = 1) ∧ (s.blockRunning p = false) ∧ (p = 0x68) ∧ (s.safRej (s.candidate [0x68]) = 0) ∧ (s.regsWf = true))
    ∧ (∃ s : State, ∃ p : Nat, ∃ v : Word, (s.masterRuns .flint = true) ∧ (p = 0x40 ∨ p = 0x68) ∧ (wordField v 1 1 = 0) ∧ (wordField v 0 0 = 1) ∧ (s.blockRunning p = false) ∧ (p = 0x68) ∧ (s.safRej (s.candidate [0x68]) ≠ 0)) :=
  ⟨⟨w0, .app, 0x10, 1, by decide +kernel⟩,
   ⟨w0, .app, 0x00, 1, by decide +kernel⟩,
   ⟨w0, .app, 0x71, 1, by decide +kernel⟩,
   ⟨{ run_ w0 with rst := { w0.rst with blocks := [⟨0x18, true⟩, ⟨0x40, true⟩] } }, .app, 0x18, 1, by decide +kernel⟩,
   ⟨w0, .app, 0x00, 2, by decide +kernel⟩,
   ⟨w0, .app, 0x00, 0, by decide +kernel⟩,
   ⟨put_ w0 [(F.BST_LB_STAT_RESULT, 1)], .flint, by decide +kernel⟩,
   ⟨w0, 0x40, 0, by decide +kernel⟩,
   ⟨w0, 0x40, 2, by decide +kernel⟩,
   ⟨{ run_ w0 with rst := { w0.rst with blocks := [⟨0x18, true⟩, ⟨0x40, true⟩] } }, 0x40, 1, by decide +kernel⟩,
   ⟨w0, 0x40, 1, by decide +kernel⟩,
   ⟨w0, 0x68, 1, by decide +kernel⟩,
   ⟨act.setShadow F.SAF_TP_CFG_TP_W_US.addr 0#32, 0x68, 1, by decide +kernel⟩⟩
end CommitsAndDiscard

namespace RegisterAndMemoryAccess
def w0 : State := put_ { act with latches := [((masterId .app, 0x71068), 99)] } [(F.UNIT_CTRL_WORLD 0x18, 1), (F.SYS_EVT_NOMAP, 1), (F.SEC_TAP_OPEN, 1)]
def tp : State := { w0 with sec := { w0.sec with tapLevel := 2, trst := false } }
set_option maxRecDepth 1000000 in
theorem test_hypsRegisterAndMemoryAccess :
    (∃ s : State, ∃ m : Master, ∃ p : Nat, ∃ off : Nat, (s.masterRuns m = true) ∧ (plainReg p off = true) ∧ (s.mayWrite m p off = true))
    ∧ (∃ s : State, ∃ m : Master, ∃ p : Nat, ∃ off : Nat, (s.masterRuns m = true) ∧ (plainReg p off = true) ∧ (s.mayWrite m p off = false))
    ∧ (∃ s : State, ∃ p : Nat, ∃ off : Nat, (s.masterRuns .flint = true) ∧ (p = 0x40 ∨ p = 0x68) ∧ (off < 4096) ∧ (off % 4 = 0) ∧ (off ≠ 0x08) ∧ (off ≠ 0x30) ∧ (¬ (p = 0x68 ∧ off ∈ [0x50, 0x54, 0x58, 0x80])))
    ∧ (∃ s : State, ∃ m : Master, ∃ off : Nat, (s.masterRuns m = true) ∧ (off < 4096) ∧ (off % 4 = 0) ∧ (s.mayWrite m 0x79 off = true) ∧ (s.bistRuns = true))
    ∧ (∃ s : State, ∃ m : Master, ∃ off : Nat, (s.masterRuns m = true) ∧ (off < 4096) ∧ (off % 4 = 0) ∧ (s.mayWrite m 0x79 off = true) ∧ (s.bistRuns = false) ∧ (off ∉ [0x08, 0x30, 0x40, 0x64]))
    ∧ (∃ s : State, ∃ m : Master, ∃ a : Nat, (s.masterRuns m = true) ∧ (regionOf a = some .pages) ∧ (a % 4 ≠ 0))
    ∧ (∃ s : State, ∃ m : Master, ∃ p : Nat, ∃ off : Nat, (s.masterRuns m = true) ∧ (p < 0x8D) ∧ (off < 4096) ∧ (off % 4 = 0) ∧ (assigned p = false))
    ∧ (∃ s : State, ∃ m : Master, ∃ p : Nat, ∃ off : Nat, let o := p * 4096 + off; (s.masterRuns m = true) ∧ (p < 0x8D) ∧ (off < 4096) ∧ (off % 4 = 0) ∧ (assigned p = true) ∧ (s.mayRead m p = true) ∧ (hiOf o = none) ∧ (s.latches.find? (fun e => e.1 = (masterId m, o)) = none))
    ∧ (∃ s : State, ∃ m : Master, ∃ p : Nat, ∃ off : Nat, ∃ h : Nat, let o := p * 4096 + off; (s.masterRuns m = true) ∧ (p < 0x8D) ∧ (off < 4096) ∧ (off % 4 = 0) ∧ (assigned p = true) ∧ (s.mayRead m p = true) ∧ (hiOf o = some h))
    ∧ (∃ s : State, ∃ m : Master, ∃ p : Nat, ∃ off : Nat, ∃ w, let o := p * 4096 + off; (s.masterRuns m = true) ∧ (p < 0x8D) ∧ (off < 4096) ∧ (off % 4 = 0) ∧ (assigned p = true) ∧ (s.mayRead m p = true) ∧ (hiOf o = none) ∧ (s.latches.find? (fun e => e.1 = (masterId m, o)) = some ((masterId m, o), w)))
    ∧ (∃ s : State, ∃ m : Master, ∃ p : Nat, ∃ off : Nat, (s.masterRuns m = true) ∧ (p < 0x8D) ∧ (off < 4096) ∧ (off % 4 = 0) ∧ (assigned p = true) ∧ (s.mayRead m p = false))
    ∧ (∃ s : State, ∃ m : Master, ∃ a : Nat, ∃ size : Nat, (s.masterRuns m = true) ∧ (size = 1 ∨ size = 2 ∨ size = 4) ∧ ((∀ i, i < size → s.readRefused m (a + i) = false ∧ ∃ r, regionOf (a + i) = some r ∧ r ≠ .pages ∧ (r = .flash → a + i - 0x60000000 < Config.flashSize))) ∧ (eccSource (a - a % 4) = none ∨ (∃ c u, eccSource (a - a % 4) = some (c, u) ∧ s.armed c = false ∧ s.armed u = false)))
    ∧ (∃ s : State, ∃ m : Master, ∃ a : Nat, ∃ size : Nat, (s.masterRuns m = true) ∧ (size = 1 ∨ size = 2 ∨ size = 4) ∧ ((∀ i, i < size → s.readRefused m (a + i) = false ∧ ∃ r, regionOf (a + i) = some r ∧ r ≠ .pages ∧ (r = .flash → a + i - 0x60000000 < Config.flashSize))) ∧ (regionOf (a - a % 4) = some .sram) ∧ (s.armed S.SRAM_ECC_COR = false) ∧ (s.armed S.SRAM_ECC_UNC = false))
    ∧ (∃ s : State, ∃ m : Master, ∃ a : Nat, ∃ size : Nat, (s.masterRuns m = true) ∧ (regionOf a = none) ∧ (0 < size) ∧ (s.readRefused m a = false) ∧ ((∀ i, i < size → s.readRefused m (a + i) = false)))
    ∧ (∃ s : State, ∃ m : Master, ∃ a : Nat, ∃ b : List Byte, (s.masterRuns m = true) ∧ (b ≠ []) ∧ ((∀ i, i < b.length → s.writeViolates m (a + i) = false ∧ ∃ r, regionOf (a + i) = some r ∧ r ≠ .pages ∧ r ≠ .rom)) ∧ ((∀ i, i < b.length → s.storeRefuses (a + i) = false ∧ s.kslotRefuses (a + i) = false)))
    ∧ (∃ s : State, ∃ m : Master, ∃ a : Nat, ∃ b : List Byte, (s.masterRuns m = true) ∧ (b ≠ []) ∧ ((∀ i, i < b.length → s.writeViolates m (a + i) = false ∧ ∃ r, regionOf (a + i) = some r ∧ r ≠ .pages ∧ r ≠ .rom)) ∧ ((∃ i, i < b.length ∧ s.storeRefuses (a + i) = true)))
    ∧ (∃ s : State, ∃ m : Master, ∃ a : Nat, ∃ b : List Byte, (s.masterRuns m = true) ∧ (b ≠ []) ∧ ((∀ i, i < b.length → s.writeViolates m (a + i) = false ∧ ∃ r, regionOf (a + i) = some r ∧ r ≠ .pages ∧ r ≠ .rom)) ∧ ((∀ i, i < b.length → s.storeRefuses (a + i) = false)) ∧ ((∃ i, i < b.length ∧ s.kslotRefuses (a + i) = true)))
    ∧ (∃ s : State, ∃ m : Master, ∃ a : Nat, ∃ b : List Byte, (s.masterRuns m = true) ∧ (b ≠ []) ∧ (regionOf a ≠ some .pages) ∧ (s.writeViolates m a = true))
    ∧ (∃ s : State, ∃ p : Nat, ∃ off : Nat, (s.tapUp = true) ∧ (s.on F.SEC_TAP_OPEN = true) ∧ (s.masterRuns .tap = true) ∧ (plainReg p off = true) ∧ (s.mayWrite .tap p off = true))
    ∧ (∃ s : State, ∃ p : Nat, ∃ off : Nat, (s.tapUp = true) ∧ (s.on F.SEC_TAP_OPEN = true) ∧ (s.masterRuns .tap = true) ∧ (plainReg p off = true) ∧ (s.mayRead .tap p = true) ∧ (hiOf (p * 4096 + off) = none) ∧ (s.latches.find? (fun e => e.1 = (masterId .tap, p * 4096 + off)) = none))
    ∧ (∃ s : State, (s.tapUp = true) ∧ (s.on F.SEC_TAP_OPEN = false ∨ s.masterRuns .tap = false))
    ∧ (∃ s : State, (s.tapUp = false))
    ∧ (∃ s : State, ∃ m : Master, (s.masterRuns m = false)) :=
  ⟨⟨w0, .app, 0x00, 0x0, by decide +kernel⟩,
   ⟨w0, .app, 0x18, 0x0, by decide +kernel⟩,
   ⟨w0, 0x40, 0x0, by decide +kernel⟩,
   ⟨put_ tp [(F.BST_LB_STAT_RESULT, 1), (F.SAF_STAT_FSTATE, 2)], .flint, 0x0, by decide +kernel⟩,
   ⟨w0, .flint, 0x0, by decide +kernel⟩,
   ⟨w0, .app, 0x40000001, by decide +kernel⟩,
   ⟨w0, .app, 0x05, 0x0, by decide +kernel⟩,
   ⟨w0, .app, 0x00, 0x0, by decide +kernel⟩,
   ⟨w0, .app, 0x71, 0x64, 0x71068, by decide +kernel⟩,
   ⟨w0, .app, 0x71, 0x68, 99, by decide +kernel⟩,
   ⟨w0, .app, 0x18, 0x0, by decide +kernel⟩,
   ⟨w0, .app, 0x20000000, 1, by decide +kernel, by decide, fun i hi => by obtain rfl : i = 0 := (by simpa using hi); exact ⟨by decide +kernel, .slate, by decide +kernel⟩, Or.inl (by decide +kernel)⟩,
   ⟨w0, .app, act.beamWin + 5, 1, by decide +kernel, by decide, fun i hi => by obtain rfl : i = 0 := (by simpa using hi); exact ⟨by decide +kernel, .sram, by decide +kernel⟩, by decide +kernel⟩,
   ⟨w0, .app, 0x50000000, 1, by decide +kernel⟩,
   ⟨w0, .app, act.beamWin + 5, [1], by decide +kernel, by decide, fun i hi => by obtain rfl : i = 0 := (by simpa using hi); exact ⟨by decide +kernel, .sram, by decide +kernel⟩, by decide +kernel⟩,
   ⟨w0, .app, 0x28240000, [1], by decide +kernel, by decide, fun i hi => by obtain rfl : i = 0 := (by simpa using hi); exact ⟨by decide +kernel, .calStore, by decide +kernel⟩, by decide +kernel⟩,
   ⟨put_ act [(kstat 0, 1)], .app, act.beamWin + 5, [1], by decide +kernel, by decide, fun i hi => by obtain rfl : i = 0 := (by simpa using hi); exact ⟨by decide +kernel, .sram, by decide +kernel⟩, by decide +kernel⟩,
   ⟨w0, .app, 0x101C0000, [1], by decide +kernel⟩,
   ⟨w0, 0x00, 0x0, by decide +kernel⟩,
   ⟨w0, 0x00, 0x0, by decide +kernel⟩,
   ⟨put_ act [(kstat 0, 1)], by decide +kernel⟩,
   ⟨{ act with pwr := { act.pwr with st := .off } }, by decide +kernel⟩,
   ⟨{ act with pwr := { act.pwr with st := .off } }, .app, by decide +kernel⟩⟩
end RegisterAndMemoryAccess

set_option maxRecDepth 1000000 in
theorem test_hypsGraniteWritesFromFlintAlone :
    (∃ s : State, ∃ m : Master, ∃ p : Nat, ∃ off : Nat, (m ≠ .flint) ∧ (s.masterRuns m = true) ∧ (p ∈ [0x0B, 0x40, 0x68]) ∧ (off < 4096) ∧ (off % 4 = 0))
    ∧ (∃ s : State, ∃ m : Master, ∃ a : Nat, ∃ b : List Byte, (m ≠ .flint) ∧ (s.masterRuns m = true) ∧ (b ≠ []) ∧ (regionOf a = some .graniteRam))
    ∧ (∃ m : Master, ∃ a : Nat, ∃ b : List Byte, ∃ i : Nat, (m ≠ .flint) ∧ (i < b.length) ∧ (regionOf (a + i) = some .graniteRam))
    ∧ (∃ o : Nat, (o / 4096 = 0x0B))
    ∧ (∃ p : Nat, (p ∈ [0x0B, 0x40, 0x68]))
    ∧ (∃ a : Nat, (regionOf a = some .graniteRam)) :=
  ⟨⟨act, .app, 0x0B, 0, by decide +kernel⟩,
   ⟨act, .app, 0x30000000, [1], by decide +kernel⟩,
   ⟨.app, 0x30000000, [1], 0, by decide +kernel⟩,
   ⟨0x0B040, by decide +kernel⟩,
   ⟨0x0B, by decide +kernel⟩,
   ⟨0x30000000, by decide +kernel⟩⟩

namespace DiscardWinsOverGo
def w0 : State := act.setShadow 0x18044 4000000
set_option maxRecDepth 1000000 in
theorem test_hypsDiscardWinsOverGo :
    (∃ s : State, ∃ m : Master, ∃ p : Nat, ∃ v : Word, (p < 0x8D) ∧ (assigned p = true) ∧ (s.masterRuns m = true) ∧ (s.mayWrite m p 0x30 = true) ∧ (p ≠ 0x68) ∧ (p ≠ 0x40) ∧ ((p = 0x79 → s.bistRuns = false)) ∧ (wordField v 0 0 = 1) ∧ (wordField v 1 1 = 1)) :=
  ⟨w0, .app, 0x18, 3, by decide +kernel⟩
end DiscardWinsOverGo

set_option maxRecDepth 1000000 in
theorem test_hypsStepRunsTheFront :
    (∃ s : State, ∃ c : Instr, ∃ rest : List Instr, (s.pending = c :: rest))
    ∧ (∃ s : State, ∃ c : Instr, ∃ t : State, (exec c s = .next t))
    ∧ (∃ s : State, (s.pending = [])) :=
  ⟨⟨{ act with pending := [.flip, .latchPoint] }, .flip, [.latchPoint], rfl⟩,
   ⟨act, .rcRetry, act.begin, rfl⟩,
   ⟨act, by decide +kernel⟩⟩

set_option maxRecDepth 1000000 in
theorem test_hypsResetState :
    (∃ a : Nat, (a ≠ 0x02040))
    ∧ (∃ n : Nat, (n < 8))
    ∧ (∃ l : Nat, (l < 2))
    ∧ (∃ p : Nat, (p < 0x8D) ∧ (assigned p = true)) :=
  ⟨⟨0, by decide +kernel⟩,
   ⟨0, by decide +kernel⟩,
   ⟨0, by decide +kernel⟩,
   ⟨0, by decide +kernel⟩⟩

end Sys2Proof.Tests
end

section
/-! PROOF. The statement of the architecture family: the Granite resources take writes from Flint alone (01_architecture, R40). -/

namespace Sys2Proof.Proofs.Architecture

open Sys2Proof.Machine Sys2Proof.Laws

/-! ### The two write commands as accesses of a master that runs -/

@[simp] theorem begin_masterRuns (s : State) (m : Master) : s.begin.masterRuns m = s.masterRuns m := rfl

theorem exec_registerWrite (m : Master) (a : Nat) (v : Word) (s : State) :
    exec (.registerWrite m a v) s = .next (s.begin.masterWrite m a v) := rfl

theorem exec_memoryWrite {m : Master} {s : State} (a : Nat) (b : List Byte) (hm : s.masterRuns m = true) :
    exec (.memoryWrite m a b) s = .next (s.begin.busWrite m a b) :=
  congrArg Host.Outcome.next (if_pos ((begin_masterRuns s m).trans hm))

/-! ### What a world violation sets and what it leaves -/

/-- An event bit that no interrupt status bit of its page overlaps is set by its event. -/
theorem evt_on (s : State) (f : Fld) (hh : f.hi < 32) (hl : f.lo = f.hi) (hq : (F.UNIT_IRQ_STAT_EVT f.page).apart f = true) :
    (s.evt f).on f = true := by
  unfold State.evt
  split
  · assumption
  · rw [on_put_other _ _ _ _ (by simp [F.UNIT_IRQ_STAT_EVT]) hq]
    exact on_put_one s f hh hl

theorem violation_on_viol (s : State) (m : Master) (a : Nat) (w : Bool) : (s.violation m a w).on F.SEC_EVT_VIOL = true := by
  have hquiet : quietField F.SEC_EVT_VIOL = true := by decide
  unfold State.violation
  simp only [State.on, raise_g _ _ _ hquiet]
  exact evt_on _ _ (by decide) rfl (by decide)

/-- The units and parts of the state that a violation may change: SEC, and those of a raised fault. -/
def violationFoot : Foot := Foot.of [0x00, 0x40, 0x50, 0x68, 0x70, 0x71, 0x78] [.flt, .evr, .saf, .lanes]

theorem violation_within (s : State) (m : Master) (a : Nat) (w : Bool) : s.Within violationFoot (s.violation m a w) :=
  (violation_fits s m a w (by decide) (fits_refl _ s)).within

theorem violation_mem (s : State) (m : Master) (a : Nat) (w : Bool) : (s.violation m a w).mem = s.mem :=
  within_mem (violation_within s m a w) rfl rfl

/-- A footprint that does not take in the unit of a register leaves its word as it was. -/
theorem within_word {f : Foot} {s t : State} (h : s.Within f t) (ha : f.any = false) {o : Nat} (hu : groupPage (o / 4096) ∉ f.units) :
    t.word o = s.word o := by
  rcases h with h | ⟨h, -⟩
  · rw [ha] at h; cases h
  · exact h o hu

theorem violation_csf_word (s : State) (m : Master) (a : Nat) (w : Bool) {o : Nat} (ho : o / 4096 = 0x0B) :
    (s.violation m a w).word o = s.word o :=
  within_word (violation_within s m a w) rfl (by rw [ho]; decide)

/-! ### The pages that Flint alone writes -/

theorem mayWrite_flintOnly (s : State) (m : Master) {p : Nat} (off : Nat) (hp : flintOnly p = true) :
    s.mayWrite m p off = decide (m = .flint) := if_pos hp

theorem flintOnly_iff_mem (p : Nat) : flintOnly p = true ↔ p ∈ [0x0B, 0x40, 0x68] := by
  simp [flintOnly, or_assoc]

/-- CSF, GOV and SAF are assigned pages. -/
theorem flintOnly_assigned {p : Nat} (hp : flintOnly p = true) : p < 0x8D ∧ assigned p = true := by
  have hall : ∀ q ∈ [0x0B, 0x40, 0x68], q < 0x8D ∧ assigned q = true := by decide
  exact hall p ((flintOnly_iff_mem p).1 hp)

/-! ### Granite RAM on the bus -/

theorem regionOf_graniteRam {a : Nat} (h : regionOf a = some .graniteRam) : 0x30000000 ≤ a ∧ a < 0x30080000 := by
  unfold regionOf at h
  split_ifs at h <;> simp_all

theorem regionOf_pages {a : Nat} (h : regionOf a = some .pages) : 0x40000000 ≤ a := by
  unfold regionOf at h
  split_ifs at h <;> simp_all

/-- Granite RAM holds no address of world S, and refuses a write exactly to masters other than Flint. -/
theorem writeViolates_graniteRam (s : State) (m : Master) {a : Nat} (h : regionOf a = some .graniteRam) :
    s.writeViolates m a = decide (m ≠ .flint) := by
  have hsec : secureAddr a = false := by
    obtain ⟨hlo, hhi⟩ := regionOf_graniteRam h
    simp [secureAddr]
    omega
  simp [State.writeViolates, hsec, h]

/-- A memory write that would reach a refused byte is the violation at the first refused byte. -/
theorem memWrite_violates {s : State} {m : Master} {a i : Nat} {b : List Byte} (hi : i < b.length) (hv : s.writeViolates m (a + i) = true) :
    ∃ j, j ≤ i ∧ s.memWrite m a b = s.violation m (a + j) true := by
  have hsome : ((List.range b.length).find? (s.writeViolates m ∘ (a + ·))).isSome = true :=
    List.find?_isSome.2 ⟨i, List.mem_range.2 hi, hv⟩
  obtain ⟨j, hj⟩ := Option.isSome_iff_exists.1 hsome
  obtain ⟨-, -, hmin⟩ := List.find?_range_eq_some.1 hj
  refine ⟨j, ?_, ?_⟩
  · by_contra hlt
    simpa [hv] using hmin i (by omega)
  · simp only [State.memWrite, List.find?_map, hj, Option.map_some]

/-- A write that would reach a byte of Granite RAM does not begin at a register: it is a memory write. -/
theorem busWrite_graniteRam (s : State) (m : Master) {a i : Nat} (b : List Byte) (h : regionOf (a + i) = some .graniteRam) :
    s.busWrite m a b = s.memWrite m a b := by
  refine if_neg fun hp => ?_
  have hlo := regionOf_pages hp
  have hhi := (regionOf_graniteRam h).2
  omega

/-- A write by a master other than Flint that would reach a byte of Granite RAM is a violation at that byte or before it. -/
theorem busWrite_graniteRam_refused (s : State) {m : Master} (hm : m ≠ .flint) {a i : Nat} {b : List Byte} (hi : i < b.length)
    (h : regionOf (a + i) = some .graniteRam) : ∃ j, j ≤ i ∧ s.busWrite m a b = s.violation m (a + j) true := by
  rw [busWrite_graniteRam s m b h]
  exact memWrite_violates hi (by simp [writeViolates_graniteRam s m h, hm])

/-! ### The statement -/

/-- A register write to CSF, GOV or SAF by a master other than Flint is the violation alone. -/
theorem exec_registerWrite_flintOnly {s : State} {m : Master} {p off : Nat} (v : Word) (hm : m ≠ .flint) (hr : s.masterRuns m = true)
    (hp : flintOnly p = true) (ho : off < 4096) (h4 : off % 4 = 0) :
    exec (.registerWrite m (pageAddr p off) v) s = .next (s.begin.violation m (pageAddr p off) true) := by
  obtain ⟨hlt, has⟩ := flintOnly_assigned hp
  have hw : s.begin.mayWrite m p off = false := by simp [mayWrite_flintOnly s.begin m off hp, hm]
  rw [exec_registerWrite, masterWrite_refused v ((begin_masterRuns s m).trans hr) hw hlt has ho h4]

/-- A memory write by a master other than Flint that begins in Granite RAM is the violation alone. -/
theorem exec_memoryWrite_graniteRam {s : State} {m : Master} {a : Nat} {b : List Byte} (hm : m ≠ .flint) (hr : s.masterRuns m = true)
    (hb : b ≠ []) (h : regionOf a = some .graniteRam) : exec (.memoryWrite m a b) s = .next (s.begin.violation m a true) := by
  obtain ⟨j, hj, hw⟩ := busWrite_graniteRam_refused s.begin hm (i := 0) (List.length_pos_of_ne_nil hb) h
  obtain rfl := Nat.le_zero.1 hj
  rw [exec_memoryWrite a b hr, hw, Nat.add_zero]

/-- Settles O56: the fabric's page rule and its memory rule each reduce a refused write to the violation, whose footprint holds neither memory,
nor the shadow and pending banks, nor CSF. -/
theorem graniteWritesFromFlintAlone : Obligations.GraniteWritesFromFlintAlone := by
  unfold Obligations.GraniteWritesFromFlintAlone
  refine ⟨?registers, ?memory, ?frame, ?violation, ?flintPages, ?flintRam⟩
  case registers =>
    intro s m p off v hm hr hp ho h4
    exact exec_registerWrite_flintOnly v hm hr ((flintOnly_iff_mem p).2 hp) ho h4
  case memory =>
    intro s m a b hm hr hb h
    exact exec_memoryWrite_graniteRam hm hr hb h
  case frame =>
    intro s m a b i hm hi h
    obtain ⟨j, -, hw⟩ := busWrite_graniteRam_refused s hm hi h
    rw [hw, violation_mem]
  case violation =>
    intro s m a w
    have hin := violation_within s m a w
    exact ⟨violation_on_viol s m a w, violation_mem s m a w, within_shadow hin rfl rfl, within_pend hin rfl rfl, within_gov hin rfl rfl,
      within_csf hin rfl rfl, fun _ ho => violation_csf_word s m a w ho⟩
  case flintPages =>
    intro s p off hp
    simp [mayWrite_flintOnly s .flint off ((flintOnly_iff_mem p).2 hp)]
  case flintRam =>
    intro s a h
    simp [writeViolates_graniteRam s .flint h]

end Sys2Proof.Proofs.Architecture
end

section
/-! PROOF. The statement of the register map family: a write of UNIT_COMMIT with GO and DISCARD discards alone (18_register_map, R581, R582). -/

namespace Sys2Proof.Proofs.RegisterMap

open Sys2Proof.Machine Sys2Proof.Laws Sys2Proof.Proofs.Architecture

/-! ### Bits merged under a mask -/

theorem merge_and_mask (w v m : Word) : ((w &&& ~~~m) ||| (v &&& m)) &&& m = v &&& m := by
  ext i hi
  simp only [BitVec.getElem_and, BitVec.getElem_or, BitVec.getElem_not]
  cases m[i] <;> simp

theorem merge_self (w m : Word) : (w &&& ~~~m) ||| (w &&& m) = w := by
  ext i hi
  simp only [BitVec.getElem_and, BitVec.getElem_or, BitVec.getElem_not]
  cases m[i] <;> simp

/-! ### Registers that a bank does not list -/

theorem tabGet_unlisted {β : Type} {d : Nat → β} {l : List (Nat × β)} {a : Nat} (h : a ∉ l.map (fun e => e.1)) : tabGet d l a = d a := by
  induction l with
  | nil => rfl
  | cons e t ih =>
    obtain ⟨hne, ht⟩ := not_or.1 (List.mem_cons.not.1 h)
    exact (if_neg (Ne.symm hne)).trans (ih ht)

/-- The registers of page p that keys leaves out: neither the bank nor the active bank lists them. -/
theorem not_mem_keys {s : State} {bank : List (Nat × Word)} {p a : Nat} (ha : a / 4096 = p) :
    a ∉ s.keys bank p ↔ a ∉ bank.map (fun e => e.1) ∧ a ∉ s.regs.map (fun e => e.1) := by
  rw [← not_or, ← List.mem_append, ← List.map_append]
  simp only [State.keys, List.mem_filter, ha, decide_true, and_true]

/-! ### What every pending commit would leave (R578) -/

/-- A register whose reset value stands in both banks keeps it when the page lands. -/
theorem land_word_reset {s : State} {bank : List (Nat × Word)} {a : Nat} (p : Nat) (hb : tabGet resetWord bank a = resetWord a)
    (hw : s.word a = resetWord a) : (s.land bank p).word a = resetWord a := by
  unfold State.land
  generalize s.keys bank p = l
  induction l generalizing s with
  | nil => exact hw
  | cons b l ih =>
    refine ih ?_
    by_cases hab : a = b
    · subst hab
      simp only [word_setWord_same, hw, hb, merge_self]
    · exact (word_setWord_other _ _ hab).trans hw

theorem afterPending_word_reset {s : State} {a : Nat} (hp : tabGet resetWord s.pend a = resetWord a) (hw : s.word a = resetWord a) :
    s.afterPending.word a = resetWord a :=
  List.foldlRecOn (motive := fun t : State => t.word a = resetWord a) s.pendPages _ hw (fun _ ht p _ => land_word_reset p hp ht)

theorem land_begin (s : State) (bank : List (Nat × Word)) (p : Nat) : s.begin.land bank p = (s.land bank p).begin :=
  List.foldl_hom State.begin (fun _ _ => rfl)

theorem afterPending_begin (s : State) : s.begin.afterPending = s.afterPending.begin :=
  List.foldl_hom State.begin (fun t p => land_begin t s.pend p)

/-! ### DISCARD (R582) -/

@[simp] theorem shadowWord_setShadow_same (s : State) (a : Nat) (w : Word) : (s.setShadow a w).shadowWord a = w := tabGet_tabPut_same ..

theorem shadowWord_setShadow_other (s : State) {a b : Nat} (w : Word) (h : b ≠ a) : (s.setShadow a w).shadowWord b = s.shadowWord b :=
  tabGet_tabPut_other _ _ h

/-- The shadow RWC bits of register a in s are those in force in t. -/
def Agrees (t s : State) (a : Nat) : Prop := s.shadowWord a &&& accMask .rwc a = t.word a &&& accMask .rwc a

/-- DISCARD at one register: its shadow RWC bits are taken from those in force in t. -/
def discardAt (t s : State) (a : Nat) : State :=
  s.setShadow a ((s.shadowWord a &&& ~~~ accMask .rwc a) ||| (t.word a &&& accMask .rwc a))

theorem discardPage_eq_foldl (s : State) (p : Nat) :
    s.discardPage p = (s.keys (s.shadow ++ s.pend) p).foldl (discardAt s.afterPending) s := rfl

theorem discardAt_agrees (t s : State) (a : Nat) : Agrees t (discardAt t s a) a := by
  simp only [Agrees, discardAt, shadowWord_setShadow_same, merge_and_mask]

theorem discardAt_keeps_agrees {t s : State} {a : Nat} (b : Nat) (h : Agrees t s a) : Agrees t (discardAt t s b) a := by
  by_cases hab : a = b
  · subst hab
    exact discardAt_agrees t s a
  · simpa only [Agrees, discardAt, shadowWord_setShadow_other _ _ hab] using h

/-- After DISCARD has gone through a list of registers, those of the list agree, and those that agreed before. -/
theorem foldl_discardAt_agrees {t s : State} {l : List Nat} {a : Nat} (h : a ∈ l ∨ Agrees t s a) : Agrees t (l.foldl (discardAt t) s) a := by
  induction l generalizing s with
  | nil => simpa using h
  | cons b l ih =>
    refine ih ?_
    rcases h with hmem | hag
    · rcases List.mem_cons.1 hmem with rfl | hmem
      · exact .inr (discardAt_agrees t s a)
      · exact .inl hmem
    · exact .inr (discardAt_keeps_agrees b hag)

/-- A register that no bank lists needs no DISCARD: every bank holds its reset value. -/
theorem agrees_of_not_mem_keys {s : State} {p a : Nat} (ha : a / 4096 = p) (h : a ∉ s.keys (s.shadow ++ s.pend) p) :
    Agrees s.afterPending s a := by
  obtain ⟨hbanks, hregs⟩ := (not_mem_keys ha).1 h
  rw [List.map_append, List.mem_append, not_or] at hbanks
  obtain ⟨hshadow, hpend⟩ := hbanks
  have hforce : s.afterPending.word a = resetWord a := afterPending_word_reset (tabGet_unlisted hpend) (tabGet_unlisted hregs)
  rw [Agrees, hforce, State.shadowWord, tabGet_unlisted hshadow]

/-- DISCARD gives the shadow RWC bits of the page the values in force after every pending commit. -/
theorem discardPage_agrees (s : State) {p a : Nat} (ha : a / 4096 = p) : Agrees s.afterPending (s.discardPage p) a := by
  rw [discardPage_eq_foldl]
  refine foldl_discardAt_agrees ?_
  by_cases h : a ∈ s.keys (s.shadow ++ s.pend) p
  · exact .inl h
  · exact .inr (agrees_of_not_mem_keys ha h)

/-- A frame without units is a fine frame without fields. -/
theorem only_of_within {s t : State} {ps : List Part} (hin : s.Within (Foot.of [] ps) t) : s.Only [] ps t := by
  rcases hin with hany | ⟨hregs, hparts⟩
  · cases hany
  · exact ⟨fun x _ => within_g (.inr ⟨hregs, hparts⟩) rfl x rfl, hparts⟩

theorem discardPage_only (s : State) (p : Nat) : s.Only [] [.shadow] (s.discardPage p) :=
  only_of_within (discardPage_fits s p rfl (fits_refl _ s)).within

/-! ### A write of UNIT_COMMIT -/

/-- On a page other than GOV and SAF, outside a self-test run, a write at UNIT_COMMIT is GO or DISCARD and nothing beside. -/
theorem pageWrite_unitCommit {s : State} {p : Nat} (m : Master) (v : Word) (hsaf : p ≠ 0x68) (hgov : p ≠ 0x40)
    (hbist : p = 0x79 → s.bistRuns = false) : s.pageWrite m p 0x30 v = s.commitWrite p v := by
  have hrun : ¬ (decide (p = 0x79) && s.bistRuns) = true := by simpa using hbist
  have hflint : ¬ (decide (p = 0x68) || decide (p = 0x40)) = true := by simp [hsaf, hgov]
  have hcommit : s.specialA m p 0x30 v = s.commitWrite p v := rfl
  exact ((if_neg hrun).trans (if_neg hflint)).trans hcommit

/-- A UNIT_COMMIT that the fabric lets through is the page's own GO or DISCARD. -/
theorem exec_unitCommit {s : State} {m : Master} {p : Nat} (v : Word) (hp : p < 0x8D) (ha : assigned p = true) (hm : s.masterRuns m = true)
    (hw : s.mayWrite m p 0x30 = true) (hsaf : p ≠ 0x68) (hgov : p ≠ 0x40) (hbist : p = 0x79 → s.bistRuns = false) :
    exec (.unitCommit m p v) s = .next (s.begin.commitWrite p v) := by
  have hrun : s.begin.masterWrite m (pageAddr p 0x30) v = s.begin.pageWrite m p 0x30 v :=
    masterWrite_page v ((begin_masterRuns s m).trans hm) hw hp ha (by decide) (by decide)
  exact congrArg Host.Outcome.next (hrun.trans (pageWrite_unitCommit m v hsaf hgov hbist))

/-- DISCARD = 1 is performed whatever GO is (R581). -/
theorem commitWrite_discard (s : State) (p : Nat) {v : Word} (hd : wordField v 1 1 = 1) : s.commitWrite p v = s.discardPage p := if_pos hd

/-- Settles O57: UNIT_COMMIT looks at DISCARD before GO, and DISCARD goes through every register that some bank of the page lists; the others
hold their reset value in every bank. -/
theorem discardWinsOverGo : Obligations.DiscardWinsOverGo := by
  unfold Obligations.DiscardWinsOverGo
  intro s m p v hp ha hm hw hsaf hgov hbist _ hd
  refine ⟨s.begin.discardPage p, ?_, discardPage_only s.begin p, ?_⟩
  · rw [exec_unitCommit v hp ha hm hw hsaf hgov hbist, commitWrite_discard _ p hd]
  · intro a hpage
    have hagree : Agrees s.begin.afterPending (s.begin.discardPage p) a := discardPage_agrees s.begin hpage
    rwa [Agrees, afterPending_begin, begin_word] at hagree

end Sys2Proof.Proofs.RegisterMap
end

section
/-! PROOF. What every step does: it answers a next state and keeps the canonical form (EveryStepKeepsForm), it runs the command at the front of
the queue (StepRunsTheFront), and the state that the power-on reset leaves (ResetState). -/

namespace Sys2Proof.Proofs.Steps

open Sys2Proof.Machine Sys2Proof.Laws

/-! ### Every command answers a next state and keeps what no command undoes -/

theorem answers_of_does {f : Foot} {s : State} {o : Host.Outcome State Fault Refusal} (h : Does f s o) : ∃ t, o = .next t ∧ s.Keeps t := by
  obtain ⟨t, ho, hfits⟩ := h
  exact ⟨t, ho, hfits.keeps⟩

theorem exec_answers (c : Instr) (s : State) : ∃ t, exec c s = .next t ∧ s.Keeps t :=
  match c with
  | .pmicPgRise st => answers_of_does (execPmicPgRise_fits st s)
  | .pgLoss rstLow => answers_of_does (execPgLoss_fits rstLow s)
  | .supplyLow => answers_of_does (execSupplyLow_fits s)
  | .por => answers_of_does (execPor_fits s)
  | .thmCritTrip => answers_of_does (execThmCritTrip_fits s)
  | .thmCritRelease st => answers_of_does (execThmCritRelease_fits st s)
  | .rstNLow => answers_of_does (execRstNLow_fits s)
  | .rstNRelease st => answers_of_does (execRstNRelease_fits st s)
  | .pinDeep => answers_of_does (execPinDeep_fits s)
  | .rstStuckTimeout st => answers_of_does (execRstStuckTimeout_fits st s)
  | .stuckIgnoreEnd => answers_of_does (execStuckIgnoreEnd_fits s)
  | .rstCmdWrite m v st => answers_of_does (execRstCmdWrite_fits m v st s)
  | .wdtAppEnable m v => answers_of_does (execWdtAppEnable_fits m v s)
  | .wdtKick m v => answers_of_does (execWdtKick_fits m v s)
  | .wdtAppExpiry st => answers_of_does (execWdtAppExpiry_fits st s)
  | .blkReset m page => answers_of_does (execBlkReset_fits m page s)
  | .blockResetEnd page => answers_of_does (execBlockResetEnd_fits page s)
  | .quiescenceEnd page => answers_of_does (execQuiescenceEnd_fits page s)
  | .rcStart fail => answers_of_does (execRcStart_fits fail s)
  | .rcRetry => answers_of_does (execRcRetry_fits s)
  | .refCdrLock => answers_of_does (execRefCdrLock_fits s)
  | .acqTmoExpiry => answers_of_does (execAcqTmoExpiry_fits s)
  | .rootLoopLock => answers_of_does (execRootLoopLock_fits s)
  | .acquireTimeout => answers_of_does (execAcquireTimeout_fits s)
  | .dividersRunning => answers_of_does (execDividersRunning_fits s)
  | .referenceLoss => answers_of_does (execReferenceLoss_fits s)
  | .clkRefCmd m v => answers_of_does (execClkRefCmd_fits m v s)
  | .linkEligible => answers_of_does (execLinkEligible_fits s)
  | .freqWindowEnd l ppm => answers_of_does (execFreqWindowEnd_fits l ppm s)
  | .muxSwitch wait => answers_of_does (execMuxSwitch_fits wait s)
  | .forcedSwitch => answers_of_does (execForcedSwitch_fits s)
  | .slewLock => answers_of_does (execSlewLock_fits s)
  | .holdoverExpiry => answers_of_does (execHoldoverExpiry_fits s)
  | .stoppingGate => answers_of_does (execStoppingGate_fits s)
  | .monitorWindowEnd lane pix core peri hk => answers_of_does (execMonitorWindowEnd_fits lane pix core peri hk s)
  | .rcCheckWindowEnd count => answers_of_does (execRcCheckWindowEnd_fits count s)
  | .signalDetect l => answers_of_does (execSignalDetect_fits l s)
  | .cdrLock l => answers_of_does (execCdrLock_fits l s)
  | .cdrLockTimeout l => answers_of_does (execCdrLockTimeout_fits l s)
  | .commaAlign l => answers_of_does (execCommaAlign_fits l s)
  | .trainingDone l => answers_of_does (execTrainingDone_fits l s)
  | .trainingTimeout l => answers_of_does (execTrainingTimeout_fits l s)
  | .tsReceived l => answers_of_does (execTsReceived_fits l s)
  | .alignmentLoss l => answers_of_does (execAlignmentLoss_fits l s)
  | .lossOfSignal l => answers_of_does (execLossOfSignal_fits l s)
  | .cdrLossOfLock l => answers_of_does (execCdrLossOfLock_fits l s)
  | .skp l fill => answers_of_does (execSkp_fits l fill s)
  | .ltm l dly => answers_of_does (execLtm_fits l dly s)
  | .lctlTime l f => answers_of_does (execLctlTime_fits l f s)
  | .lctlWake l f => answers_of_does (execLctlWake_fits l f s)
  | .workFrame l f => answers_of_does (execWorkFrame_fits l f s)
  | .resume l => answers_of_does (execResume_fits l s)
  | .packetStore l copies => answers_of_does (execPacketStore_fits l copies s)
  | .storeTimeout l => answers_of_does (execStoreTimeout_fits l s)
  | .gapHoldExpiry l ch => answers_of_does (execGapHoldExpiry_fits l ch s)
  | .doneFrame ch copies => answers_of_does (execDoneFrame_fits ch copies s)
  | .controlConsume parity => answers_of_does (execControlConsume_fits parity s)
  | .layerConsume parity => answers_of_does (execLayerConsume_fits parity s)
  | .regRead l f => answers_of_does (execRegRead_fits l f s)
  | .regWrite l f => answers_of_does (execRegWrite_fits l f s)
  | .regModify l f => answers_of_does (execRegModify_fits l f s)
  | .statusFrame l => answers_of_does (execStatusFrame_fits l s)
  | .devStatus => answers_of_does (execDevStatus_fits s)
  | .ltValidTimeout => answers_of_does (execLtValidTimeout_fits s)
  | .safeFrame l f => answers_of_does (execSafeFrame_fits l f s)
  | .pendingExpiry l => answers_of_does (execPendingExpiry_fits l s)
  | .csfStaleTimeout => answers_of_does (execCsfStaleTimeout_fits s)
  | .profileChange => answers_of_does (execProfileChange_fits s)
  | .sideTrainingDone => answers_of_does (execSideTrainingDone_fits s)
  | .phaseFrame f => answers_of_does (execPhaseFrame_fits f s)
  | .seamFrame f => answers_of_does (execSeamFrame_fits f s)
  | .sstatFrame f => answers_of_does (execSstatFrame_fits f s)
  | .sideRxTimeout => answers_of_does (execSideRxTimeout_fits s)
  | .sstatSend => answers_of_does (execSstatSend_fits s)
  | .latchPoint => answers_of_does (execLatchPoint_fits s)
  | .bandSlot k bad => answers_of_does (execBandSlot_fits k bad s)
  | .bandRelease k hit => answers_of_does (execBandRelease_fits k hit s)
  | .regionPush n => answers_of_does (execRegionPush_fits n s)
  | .regionRecompute bad => answers_of_does (execRegionRecompute_fits bad s)
  | .reportTimeout n => answers_of_does (execReportTimeout_fits n s)
  | .pushDeadline => answers_of_does (execPushDeadline_fits s)
  | .flipCommit => answers_of_does (execFlipCommit_fits s)
  | .flip => answers_of_does (execFlip_fits s)
  | .objectCutoff parity => answers_of_does (execObjectCutoff_fits parity s)
  | .kernelBandRender n b cycles band parity => answers_of_does (execKernelBandRender_fits n b cycles band parity s)
  | .kernelOverrun n b window parity => answers_of_does (execKernelOverrun_fits n b window parity s)
  | .glrKload m v => answers_of_does (execGlrKload_fits m v s)
  | .kernelVerifyDone slot sigOk => answers_of_does (execKernelVerifyDone_fits slot sigOk s)
  | .lightSleepEntry bank => answers_of_does (execLightSleepEntry_fits bank s)
  | .lightSleepWake bank access => answers_of_does (execLightSleepWake_fits bank access s)
  | .digestCheck ok ecc => answers_of_does (execDigestCheck_fits ok ecc s)
  | .interpCmd m v => answers_of_does (execInterpCmd_fits m v s)
  | .interpDone tile => answers_of_does (execInterpDone_fits tile s)
  | .trimCmd m v => answers_of_does (execTrimCmd_fits m v s)
  | .trimDone codes => answers_of_does (execTrimDone_fits codes s)
  | .fluxRecordWrite => answers_of_does (execFluxRecordWrite_fits s)
  | .tsbRound slots readback start => answers_of_does (execTsbRound_fits slots readback start s)
  | .assignTimeout n => answers_of_does (execAssignTimeout_fits n s)
  | .tsbStatus n w => answers_of_does (execTsbStatus_fits n w s)
  | .tsbUidLo n w => answers_of_does (execTsbUidLo_fits n w s)
  | .tsbUidHi n w => answers_of_does (execTsbUidHi_fits n w s)
  | .tsbCap n w => answers_of_does (execTsbCap_fits n w s)
  | .identTimeout n => answers_of_does (execIdentTimeout_fits n s)
  | .laneSerialiserReady n => answers_of_does (execLaneSerialiserReady_fits n s)
  | .laneTrainDone n => answers_of_does (execLaneTrainDone_fits n s)
  | .laneScheduledWake => answers_of_does (execLaneScheduledWake_fits s)
  | .laneDead n => answers_of_does (execLaneDead_fits n s)
  | .tempInvalidTimeout n => answers_of_does (execTempInvalidTimeout_fits n s)
  | .coolDownComplete n => answers_of_does (execCoolDownComplete_fits n s)
  | .fsyncEdge => answers_of_does (execFsyncEdge_fits s)
  | .fsyncLost => answers_of_does (execFsyncLost_fits s)
  | .segIdent a => answers_of_does (execSegIdent_fits a s)
  | .segConfig a => answers_of_does (execSegConfig_fits a s)
  | .segSet a readback => answers_of_does (execSegSet_fits a readback s)
  | .segPoll a readback => answers_of_does (execSegPoll_fits a readback s)
  | .segLatch readback => answers_of_does (execSegLatch_fits readback s)
  | .segAllOff => answers_of_does (execSegAllOff_fits s)
  | .segResponse bytes => answers_of_does (execSegResponse_fits bytes s)
  | .segResponseTimeout => answers_of_does (execSegResponseTimeout_fits s)
  | .scanRowSlot => answers_of_does (execScanRowSlot_fits s)
  | .sinFilterExpiry n b => answers_of_does (execSinFilterExpiry_fits n b s)
  | .sinHealthyFilter n => answers_of_does (execSinHealthyFilter_fits n s)
  | .sinDiscrepancyTimeout n => answers_of_does (execSinDiscrepancyTimeout_fits n s)
  | .testPulseStart n levels => answers_of_does (execTestPulseStart_fits n levels s)
  | .testPulseEnd levels => answers_of_does (execTestPulseEnd_fits levels s)
  | .offPulseStart k => answers_of_does (execOffPulseStart_fits k s)
  | .offPulseEnd k rb => answers_of_does (execOffPulseEnd_fits k rb s)
  | .soutReadbackFault k rb => answers_of_does (execSoutReadbackFault_fits k rb s)
  | .soutFaultClear k => answers_of_does (execSoutFaultClear_fits k s)
  | .tilePowerUp k => answers_of_does (execTilePowerUp_fits k s)
  | .flintEvaluation => answers_of_does (execFlintEvaluation_fits s)
  | .safReact m v => answers_of_does (execSafReact_fits m v s)
  | .safUnlock m v => answers_of_does (execSafUnlock_fits m v s)
  | .flintWdtKick m v => answers_of_does (execFlintWdtKick_fits m v s)
  | .flintWdtExpiry st => answers_of_does (execFlintWdtExpiry_fits st s)
  | .lockstepMismatch => answers_of_does (execLockstepMismatch_fits s)
  | .fokReadbackMismatch => answers_of_does (execFokReadbackMismatch_fits s)
  | .faultAck m r v => answers_of_does (execFaultAck_fits m r v s)
  | .faultClear m r v => answers_of_does (execFaultClear_fits m r v s)
  | .injectArm m v => answers_of_does (execInjectArm_fits m v s)
  | .injectCancel m v => answers_of_does (execInjectCancel_fits m v s)
  | .trackerClose => answers_of_does (execTrackerClose_fits s)
  | .recordWrite => answers_of_does (execRecordWrite_fits s)
  | .mirrorPageWrite ok => answers_of_does (execMirrorPageWrite_fits ok s)
  | .checkpoint => answers_of_does (execCheckpoint_fits s)
  | .checkpointFlash => answers_of_does (execCheckpointFlash_fits s)
  | .attestCommit m => answers_of_does (execAttestCommit_fits m s)
  | .recordRead m v => answers_of_does (execRecordRead_fits m v s)
  | .housekeepingRoundStart => answers_of_does (execHousekeepingRoundStart_fits s)
  | .housekeepingRoundEnd codes => answers_of_does (execHousekeepingRoundEnd_fits codes s)
  | .roundTimeout => answers_of_does (execRoundTimeout_fits s)
  | .pwrReqIdle m v => answers_of_does (execPwrReqIdle_fits m v s)
  | .idleWake => answers_of_does (execIdleWake_fits s)
  | .pwrReqSleep m v => answers_of_does (execPwrReqSleep_fits m v s)
  | .pwrReqDeep m v => answers_of_does (execPwrReqDeep_fits m v s)
  | .pwrReqOff m v => answers_of_does (execPwrReqOff_fits m v s)
  | .flintPrepConfirm lyOk => answers_of_does (execFlintPrepConfirm_fits lyOk s)
  | .prepTimeout => answers_of_does (execPrepTimeout_fits s)
  | .pmicAck t => answers_of_does (execPmicAck_fits t s)
  | .ackTimeout => answers_of_does (execAckTimeout_fits s)
  | .deepExit st t => answers_of_does (execDeepExit_fits st t s)
  | .wakeRequest => answers_of_does (execWakeRequest_fits s)
  | .wakeTimer => answers_of_does (execWakeTimer_fits s)
  | .pmbAlert word ok => answers_of_does (execPmbAlert_fits word ok s)
  | .pmbStatusPoll word ok => answers_of_does (execPmbStatusPoll_fits word ok s)
  | .padRelease m v => answers_of_does (execPadRelease_fits m v s)
  | .idcode => answers_of_does (execIdcode_fits s)
  | .samplePreload bits => answers_of_does (execSamplePreload_fits bits s)
  | .extest => answers_of_does (execExtest_fits s)
  | .authNonce => answers_of_does (execAuthNonce_fits s)
  | .authResp resp => answers_of_does (execAuthResp_fits resp s)
  | .authCheckDone sigOk => answers_of_does (execAuthCheckDone_fits sigOk s)
  | .authStat => answers_of_does (execAuthStat_fits s)
  | .rcStat => answers_of_does (execRcStat_fits s)
  | .bus write a v => answers_of_does (execBus_fits write a v s)
  | .scan => answers_of_does (execScan_fits s)
  | .reset st => answers_of_does (execReset_fits st s)
  | .bypass => answers_of_does (execBypass_fits s)
  | .trstNLow => answers_of_does (execTrstNLow_fits s)
  | .nonceExpiry => answers_of_does (execNonceExpiry_fits s)
  | .worldWrite m page v => answers_of_does (execWorldWrite_fits m page v s)
  | .lcRequest m v => answers_of_does (execLcRequest_fits m v s)
  | .secretClearDone ok => answers_of_does (execSecretClearDone_fits ok s)
  | .lbistStart m v => answers_of_does (execLbistStart_fits m v s)
  | .lbistEnd misr => answers_of_does (execLbistEnd_fits misr s)
  | .lbistTimeout => answers_of_does (execLbistTimeout_fits s)
  | .mbistRequest m v => answers_of_does (execMbistRequest_fits m v s)
  | .fuseProgram m v => answers_of_does (execFuseProgram_fits m v s)
  | .fuseProgramDone ok => answers_of_does (execFuseProgramDone_fits ok s)
  | .updWrite parity => answers_of_does (execUpdWrite_fits parity s)
  | .updVerify parity => answers_of_does (execUpdVerify_fits parity s)
  | .verifyDone sigOk => answers_of_does (execVerifyDone_fits sigOk s)
  | .updActivate parity => answers_of_does (execUpdActivate_fits parity s)
  | .restartReset => answers_of_does (execRestartReset_fits s)
  | .updConfirm parity => answers_of_does (execUpdConfirm_fits parity s)
  | .trialTimeout => answers_of_does (execTrialTimeout_fits s)
  | .fuseLoad pmb badRows => answers_of_does (execFuseLoad_fits pmb badRows s)
  | .mbist fails => answers_of_does (execMbist_fits fails s)
  | .journal => answers_of_does (execJournal_fits s)
  | .mainImage aOk bOk => answers_of_does (execMainImage_fits aOk bOk s)
  | .granite aOk bOk fuseOk => answers_of_does (execGranite_fits aOk bOk fuseOk s)
  | .settings ok => answers_of_does (execSettings_fits ok s)
  | .profile ok => answers_of_does (execProfile_fits ok s)
  | .calib ok => answers_of_does (execCalib_fits ok s)
  | .kernels ok => answers_of_does (execKernels_fits ok s)
  | .links copies => answers_of_does (execLinks_fits copies s)
  | .tiles => answers_of_does (execTiles_fits s)
  | .safeReady => answers_of_does (execSafeReady_fits s)
  | .firstLight => answers_of_does (execFirstLight_fits s)
  | .bootTimeout st => answers_of_does (execBootTimeout_fits st s)
  | .epochSave => answers_of_does (execEpochSave_fits s)
  | .clrAvoid m v => answers_of_does (execClrAvoid_fits m v s)
  | .mirrorNow m v => answers_of_does (execMirrorNow_fits m v s)
  | .unitCommit m page v => answers_of_does (execUnitCommit_fits m page v s)
  | .discard m page v => answers_of_does (execDiscard_fits m page v s)
  | .registerWrite m a v => answers_of_does (execRegisterWrite_fits m a v s)
  | .spiStatus => answers_of_does (execSpiStatus_fits s)
  | .spiRead a n => answers_of_does (execSpiRead_fits a n s)
  | .spiWrite a bytes => answers_of_does (execSpiWrite_fits a bytes s)
  | .pktWrite len bytes crc => answers_of_does (execPktWrite_fits len bytes crc s)
  | .rspRead => answers_of_does (execRspRead_fits s)
  | .testModeHigh => answers_of_does (execTestModeHigh_fits s)
  | .memoryBistEnd fails done => answers_of_does (execMemoryBistEnd_fits fails done s)
  | .wakeRelease => answers_of_does (execWakeRelease_fits s)
  | .registerRead m a size ecc => answers_of_does (execRegisterRead_fits m a size ecc s)
  | .memoryWrite m a bytes => answers_of_does (execMemoryWrite_fits m a bytes s)
  | .graniteCopyDone => answers_of_does (execGraniteCopyDone_fits s)

theorem tick_keeps (s : State) : s.Keeps s.tick := (tick_fits (g := Foot.free) s rfl (fits_refl _ s)).keeps

/-- A step with an empty queue is a cycle; otherwise it is the front command's. -/
theorem step_eq_tick {s : State} (h : s.pending = []) : step s = .next s.tick := by simp only [step, h]

theorem step_eq_exec {s : State} {c : Instr} {rest : List Instr} (h : s.pending = c :: rest) : step s = exec c (s.popped rest) := by
  simp only [step, h]

/-- Taking the front command off the queue touches nothing that a Canonical state, its fuses, its clock or its free values speak of. -/
theorem step_keeps (s : State) : ∃ t u, step s = .next t ∧ u.Keeps t ∧ ∃ rest, u = s.popped rest := by
  rcases hp : s.pending with _ | ⟨c, rest⟩
  · refine ⟨s.tick, s, step_eq_tick hp, tick_keeps s, [], ?_⟩
    rw [← hp]; rfl
  · obtain ⟨t, ht, hk⟩ := exec_answers c (s.popped rest)
    exact ⟨t, s.popped rest, (step_eq_exec hp).trans ht, hk, rest, rfl⟩

/-- Settles O60: every meaning answers a next state and keeps the canonical form (exec_answers), and so does a cycle (tick_keeps). -/
theorem everyStepKeepsForm : Obligations.EveryStepKeepsForm := by
  unfold Obligations.EveryStepKeepsForm
  intro s
  obtain ⟨t, u, ht, hk, rest, rfl⟩ := step_keeps s
  refine ⟨t, ht, ?_, hk.fuses, hk.now, hk.fresh⟩
  rintro ⟨hmem, hregs, hshape⟩
  exact ⟨hk.mem hmem, hk.regs hregs, hk.shape hshape⟩

/-- Settles O58: step looks at the queue alone, and no meaning touches the rest of it. -/
theorem stepRunsTheFront : Obligations.StepRunsTheFront := by
  unfold Obligations.StepRunsTheFront
  refine ⟨fun s c rest h => step_eq_exec h, ?_, fun s rest => ⟨rfl, rfl⟩, fun s h => step_eq_tick h⟩
  intro s c t h
  obtain ⟨u, hu, hk⟩ := exec_answers c s
  obtain rfl : u = t := by simpa using hu.symm.trans h
  exact hk.pending

/-! ### The state that the power-on reset leaves -/

theorem reset_word_cause : State.reset.word 0x02040 = 1 := rfl

/-- RST_CAUSE is the one register that the active bank lists. -/
theorem reset_word {a : Nat} (h : a ≠ 0x02040) : State.reset.word a = resetWord a := if_neg (Ne.symm h)

theorem reset_lane {n : Nat} (h : n < 8) : State.reset.tlst n = 0 := by
  have hall : ∀ k, k < 8 → State.reset.tlst k = 0 := by decide
  exact hall n h

theorem reset_link {l : Nat} (h : l < 2) : State.reset.lst l = 0 := by
  have hall : ∀ k, k < 2 → State.reset.lst k = 0 := by decide
  exact hall l h

set_option maxRecDepth 10000 in
/-- The units of R38 are those of world S. -/
theorem reset_world {p : Nat} (h : p < 0x8D) (ha : assigned p = true) :
    State.reset.world p = 1 ↔ p ∈ [0x01, 0x02, 0x03, 0x04, 0x0B, 0x40, 0x68, 0x78, 0x79, 0x7A, 0x81] := by
  have hall : ∀ q, q < 0x8D → assigned q = true →
      (State.reset.world q = 1 ↔ q ∈ [0x01, 0x02, 0x03, 0x04, 0x0B, 0x40, 0x68, 0x78, 0x79, 0x7A, 0x81]) := by decide
  exact hall p h ha

theorem reset_canonical : State.reset.Canonical := ⟨by decide, by decide, by decide⟩

theorem reset_sums_le (z : Nat) : State.reset.gov.sums.getD z 0 ≤ State.reset.gov.limits.getD z 0 := Nat.le_refl _

/-- Settles O59: the reset state is evaluated field by field; words and bytes that no bank lists read their default. -/
theorem resetState : Obligations.ResetState := by
  unfold Obligations.ResetState
  refine ⟨rfl, rfl, by decide, reset_word_cause, fun a h => reset_word h, fun _ => rfl, rfl, rfl, fun _ => rfl, rfl, rfl, by decide,
    by decide, by decide, by decide, fun n h => reset_lane h, fun l h => reset_link h, by decide, fun p h ha => reset_world h ha, rfl,
    reset_canonical, reset_sums_le⟩

end Sys2Proof.Proofs.Steps
end

section
/-! PROOF. No zone's clamped sum exceeds its limit (GovernorNeverExceeds; 09_granite_governor, R314, R315, R317). First what leaves the
Governor's state as it was, then what leaves its limits and sums, then the four places that set them: a reset, a latch point, a repeated
frame and the release of a band. -/

namespace Sys2Proof.Proofs.GovernorSums

open Sys2Proof.Machine Sys2Proof.Laws

/-! ### Operations that leave the Governor as it was -/

theorem le_self (f : Foot) : f.le f = true := by simp [Foot.le]

/-- An operation whose footprint leaves out the Governor leaves it as it was. -/
theorem gov_of_fits {f : Foot} {s t : State} (h : s.Fits f t) (ha : f.any = false) (hp : f.parts.contains Part.gov = false) :
    t.gov = s.gov := within_gov h.within ha hp

@[simp] theorem afterWrite_gov (s : State) (before : Nat) (p : Nat) (off : Nat) : (State.afterWrite s before p off).gov = s.gov :=
  gov_of_fits (afterWrite_fits s before p off (le_self _) (fits_refl _ s)) rfl rfl
@[simp] theorem approve_gov (s : State) (n : Nat) : (State.approve s n).gov = s.gov :=
  gov_of_fits (approve_fits s n (le_self _) (fits_refl _ s)) rfl rfl
@[simp] theorem attest_gov (s : State) : (State.attest s).gov = s.gov :=
  gov_of_fits (attest_fits s (le_self _) (fits_refl _ s)) rfl rfl
@[simp] theorem bistRaise_gov (s : State) : (State.bistRaise s).gov = s.gov :=
  gov_of_fits (bistRaise_fits s (le_self _) (fits_refl _ s)) rfl rfl
@[simp] theorem bistResult_gov (s : State) (part : Nat) (result : Nat) (exec_ : Nat) : (State.bistResult s part result exec_).gov = s.gov :=
  gov_of_fits (bistResult_fits s part result exec_ (le_self _) (fits_refl _ s)) rfl rfl
@[simp] theorem bjCtrl_gov (s : State) (v : Word) : (State.bjCtrl s v).gov = s.gov :=
  gov_of_fits (bjCtrl_fits s v (le_self _) (fits_refl _ s)) rfl rfl
@[simp] theorem blkDefer_gov (s : State) : (State.blkDefer s).gov = s.gov :=
  gov_of_fits (blkDefer_fits s (le_self _) (fits_refl _ s)) rfl rfl
@[simp] theorem blkField_gov (s : State) (p : Nat) : (State.blkField s p).gov = s.gov :=
  gov_of_fits (blkField_fits s p (le_self _) (fits_refl _ s)) rfl rfl
@[simp] theorem blkInject_gov (s : State) (pages : List Nat) : (State.blkInject s pages).gov = s.gov :=
  gov_of_fits (blkInject_fits s pages (le_self _) (fits_refl _ s)) rfl rfl
@[simp] theorem blkUnit_gov (s : State) (p : Nat) : (State.blkUnit s p).gov = s.gov :=
  gov_of_fits (blkUnit_fits s p (le_self _) (fits_refl _ s)) rfl rfl
@[simp] theorem bootMain_gov (s : State) (n : Nat) : (State.bootMain s n).gov = s.gov :=
  gov_of_fits (bootMain_fits s n (le_self _) (fits_refl _ s)) rfl rfl
@[simp] theorem busRead_gov (s : State) (m : Master) (a : Nat) (size : Nat) (ecc : Nat) : ((State.busRead s m a size ecc).2).gov = s.gov :=
  gov_of_fits (busRead_fits s m a size ecc (le_self _) (fits_refl _ s)) rfl rfl
@[simp] theorem calAllDefault_gov (s : State) : (State.calAllDefault s).gov = s.gov :=
  gov_of_fits (calAllDefault_fits s (le_self _) (fits_refl _ s)) rfl rfl
@[simp] theorem calCmd_gov (s : State) (v : Word) : (State.calCmd s v).gov = s.gov :=
  gov_of_fits (calCmd_fits s v (le_self _) (fits_refl _ s)) rfl rfl
@[simp] theorem calLatch_gov (s : State) : (State.calLatch s).gov = s.gov :=
  gov_of_fits (calLatch_fits s (le_self _) (fits_refl _ s)) rfl rfl
@[simp] theorem calLoad_gov (s : State) (n : Nat) : (State.calLoad s n).gov = s.gov :=
  gov_of_fits (calLoad_fits s n (le_self _) (fits_refl _ s)) rfl rfl
@[simp] theorem calLoadCommit_gov (s : State) (before : Nat) : (State.calLoadCommit s before).gov = s.gov :=
  gov_of_fits (calLoadCommit_fits s before (le_self _) (fits_refl _ s)) rfl rfl
@[simp] theorem calUp_gov (s : State) : (State.calUp s).gov = s.gov :=
  gov_of_fits (calUp_fits s (le_self _) (fits_refl _ s)) rfl rfl
@[simp] theorem checkCopies_gov (s : State) (copies : Nat) : ((State.checkCopies s copies).2).gov = s.gov :=
  gov_of_fits (checkCopies_fits s copies (le_self _) (fits_refl _ s)) rfl rfl
@[simp] theorem checkFrame_gov (s : State) (l : Nat) (f : Wire) : ((State.checkFrame s l f).2).gov = s.gov :=
  gov_of_fits (checkFrame_fits s l f (le_self _) (fits_refl _ s)) rfl rfl
@[simp] theorem checkGranite_gov (s : State) (n : Nat) (sigOk : Bool) : ((State.checkGranite s n sigOk).2).gov = s.gov :=
  gov_of_fits (checkGranite_fits s n sigOk (le_self _) (fits_refl _ s)) rfl rfl
@[simp] theorem checkSlot_gov (s : State) (n : Nat) (total : Nat) (sigOk : Bool) : ((State.checkSlot s n total sigOk).2).gov = s.gov :=
  gov_of_fits (checkSlot_fits s n total sigOk (le_self _) (fits_refl _ s)) rfl rfl
@[simp] theorem classify_gov (s : State) (l : Nat) (b : List Byte) : (State.classify s l b).gov = s.gov :=
  gov_of_fits (classify_fits s l b (le_self _) (fits_refl _ s)) rfl rfl
@[simp] theorem clearAvoid_gov (s : State) (l : List Nat) : (State.clearAvoid s l).gov = s.gov :=
  gov_of_fits (clearAvoid_fits s l (le_self _) (fits_refl _ s)) rfl rfl
@[simp] theorem closeRecord_gov (s : State) : (State.closeRecord s).gov = s.gov :=
  gov_of_fits (closeRecord_fits s (le_self _) (fits_refl _ s)) rfl rfl
@[simp] theorem deepBoot_gov (s : State) : (State.deepBoot s).gov = s.gov :=
  gov_of_fits (deepBoot_fits s (le_self _) (fits_refl _ s)) rfl rfl
@[simp] theorem deferFlip_gov (s : State) (blk : Bool) : (State.deferFlip s blk).gov = s.gov :=
  gov_of_fits (deferFlip_fits s blk (le_self _) (fits_refl _ s)) rfl rfl
@[simp] theorem dirtyAll_gov (s : State) (n : Nat) : (State.dirtyAll s n).gov = s.gov :=
  gov_of_fits (dirtyAll_fits s n (le_self _) (fits_refl _ s)) rfl rfl
@[simp] theorem discardPage_gov (s : State) (p : Nat) : ((s.discardPage p)).gov = s.gov :=
  gov_of_fits (discardPage_fits s p (le_self _) (fits_refl _ s)) rfl rfl
@[simp] theorem doneHead_gov (s : State) (c : Nat) : (State.doneHead s c).gov = s.gov :=
  gov_of_fits (doneHead_fits s c (le_self _) (fits_refl _ s)) rfl rfl
@[simp] theorem doneUpTo_gov (s : State) (seq : Nat) (superseded : Bool) (k : Nat) : (State.doneUpTo s seq superseded k).gov = s.gov :=
  gov_of_fits (doneUpTo_fits s seq superseded k (le_self _) (fits_refl _ s)) rfl rfl
@[simp] theorem drainNoop_gov (s : State) (c : Nat) (k : Nat) : (State.drainNoop s c k).gov = s.gov :=
  gov_of_fits (drainNoop_fits s c k (le_self _) (fits_refl _ s)) rfl rfl
@[simp] theorem endEntry_gov (s : State) (result : Nat) (path : Nat) (detail : Nat) : (State.endEntry s result path detail).gov = s.gov :=
  gov_of_fits (endEntry_fits s result path detail (le_self _) (fits_refl _ s)) rfl rfl
@[simp] theorem endJob_gov (s : State) : (State.endJob s).gov = s.gov :=
  gov_of_fits (endJob_fits s (le_self _) (fits_refl _ s)) rfl rfl
@[simp] theorem endJobFree_gov (s : State) : (State.endJobFree s).gov = s.gov :=
  gov_of_fits (endJobFree_fits s (le_self _) (fits_refl _ s)) rfl rfl
@[simp] theorem enterRecovery_gov (s : State) : (State.enterRecovery s).gov = s.gov :=
  gov_of_fits (enterRecovery_fits s (le_self _) (fits_refl _ s)) rfl rfl
@[simp] theorem event_gov (s : State) (code : Nat) (data : List Byte) : (State.event s code data).gov = s.gov :=
  gov_of_fits (event_fits s code data (le_self _) (fits_refl _ s)) rfl rfl
@[simp] theorem evrStart_gov (s : State) (kind : Nat) : (State.evrStart s kind).gov = s.gov :=
  gov_of_fits (evrStart_fits s kind (le_self _) (fits_refl _ s)) rfl rfl
@[simp] theorem exitReport_gov (s : State) (src : Nat) (t : Nat) (late : Bool) : (State.exitReport s src t late).gov = s.gov :=
  gov_of_fits (exitReport_fits s src t late (le_self _) (fits_refl _ s)) rfl rfl
@[simp] theorem fluxFrame_gov (s : State) (t : Nat) : (State.fluxFrame s t).gov = s.gov :=
  gov_of_fits (fluxFrame_fits s t (le_self _) (fits_refl _ s)) rfl rfl
@[simp] theorem fusProg_gov (s : State) (m : Master) (v : Word) : (State.fusProg s m v).gov = s.gov :=
  gov_of_fits (fusProg_fits s m v (le_self _) (fits_refl _ s)) rfl rfl
@[simp] theorem fuseWork_gov (s : State) : (State.fuseWork s).gov = s.gov :=
  gov_of_fits (fuseWork_fits s (le_self _) (fits_refl _ s)) rfl rfl
@[simp] theorem glareUp_gov (s : State) : (State.glareUp s).gov = s.gov :=
  gov_of_fits (glareUp_fits s (le_self _) (fits_refl _ s)) rfl rfl
@[simp] theorem holdPin_gov (s : State) : (State.holdPin s).gov = s.gov :=
  gov_of_fits (holdPin_fits s (le_self _) (fits_refl _ s)) rfl rfl
@[simp] theorem injectWrite_gov (s : State) (m : Master) (v : Word) : (State.injectWrite s m v).gov = s.gov :=
  gov_of_fits (injectWrite_fits s m v (le_self _) (fits_refl _ s)) rfl rfl
@[simp] theorem journalCauses_gov (s : State) : (State.journalCauses s).gov = s.gov :=
  gov_of_fits (journalCauses_fits s (le_self _) (fits_refl _ s)) rfl rfl
@[simp] theorem journalDeep_gov (s : State) : (State.journalDeep s).gov = s.gov :=
  gov_of_fits (journalDeep_fits s (le_self _) (fits_refl _ s)) rfl rfl
@[simp] theorem jput_gov (s : State) (o : Nat) (n : Nat) (v : Nat) : (State.jput s o n v).gov = s.gov :=
  gov_of_fits (jput_fits s o n v (le_self _) (fits_refl _ s)) rfl rfl
@[simp] theorem jseal_gov (s : State) : (State.jseal s).gov = s.gov :=
  gov_of_fits (jseal_fits s (le_self _) (fits_refl _ s)) rfl rfl
@[simp] theorem keepFatal_gov (s : State) : (State.keepFatal s).gov = s.gov :=
  gov_of_fits (keepFatal_fits s (le_self _) (fits_refl _ s)) rfl rfl
@[simp] theorem kload_gov (s : State) (v : Word) : (State.kload s v).gov = s.gov :=
  gov_of_fits (kload_fits s v (le_self _) (fits_refl _ s)) rfl rfl
@[simp] theorem landFrame_gov (s : State) : (State.landFrame s).gov = s.gov :=
  gov_of_fits (landFrame_fits s (le_self _) (fits_refl _ s)) rfl rfl
@[simp] theorem laneFlip_gov (s : State) (n : Nat) : (State.laneFlip s n).gov = s.gov :=
  gov_of_fits (laneFlip_fits s n (le_self _) (fits_refl _ s)) rfl rfl
@[simp] theorem lbCtrl_gov (s : State) (v : Word) : (State.lbCtrl s v).gov = s.gov :=
  gov_of_fits (lbCtrl_fits s v (le_self _) (fits_refl _ s)) rfl rfl
@[simp] theorem lcReq_gov (s : State) (m : Master) (v : Word) : (State.lcReq s m v).gov = s.gov :=
  gov_of_fits (lcReq_fits s m v (le_self _) (fits_refl _ s)) rfl rfl
@[simp] theorem lightFlip_gov (s : State) : (State.lightFlip s).gov = s.gov :=
  gov_of_fits (lightFlip_fits s (le_self _) (fits_refl _ s)) rfl rfl
@[simp] theorem loadHuk_gov (s : State) : (State.loadHuk s).gov = s.gov :=
  gov_of_fits (loadHuk_fits s (le_self _) (fits_refl _ s)) rfl rfl
@[simp] theorem loadKernel_gov (s : State) (ok : Bool) : ((State.loadKernel s ok).2).gov = s.gov :=
  gov_of_fits (loadKernel_fits s ok (le_self _) (fits_refl _ s)) rfl rfl
@[simp] theorem mainBad_gov (s : State) (n : Nat) (aOk : Bool) (bOk : Bool) : ((State.mainBad s n aOk bOk).2).gov = s.gov :=
  gov_of_fits (mainBad_fits s n aOk bOk (le_self _) (fits_refl _ s)) rfl rfl
@[simp] theorem markParity_gov (s : State) (bad : List Nat) : (State.markParity s bad).gov = s.gov :=
  gov_of_fits (markParity_fits s bad (le_self _) (fits_refl _ s)) rfl rfl
@[simp] theorem mbCtrl_gov (s : State) (v : Word) : (State.mbCtrl s v).gov = s.gov :=
  gov_of_fits (mbCtrl_fits s v (le_self _) (fits_refl _ s)) rfl rfl
@[simp] theorem memResult_gov (s : State) (fails : List Nat) : (State.memResult s fails).gov = s.gov :=
  gov_of_fits (memResult_fits s fails (le_self _) (fits_refl _ s)) rfl rfl
@[simp] theorem memWrite_gov (s : State) (m : Master) (a : Nat) (b : List Byte) : (State.memWrite s m a b).gov = s.gov :=
  gov_of_fits (memWrite_fits s m a b (le_self _) (fits_refl _ s)) rfl rfl
@[simp] theorem newEntry_gov (s : State) (step : Nat) (result : Nat) (path : Nat) (detail : Nat) : (State.newEntry s step result path detail).gov = s.gov :=
  gov_of_fits (newEntry_fits s step result path detail (le_self _) (fits_refl _ s)) rfl rfl
@[simp] theorem newEpoch_gov (s : State) : (State.newEpoch s).gov = s.gov :=
  gov_of_fits (newEpoch_fits s (le_self _) (fits_refl _ s)) rfl rfl
@[simp] theorem newRecord_gov (s : State) (fresh : Bool) : (State.newRecord s fresh).gov = s.gov :=
  gov_of_fits (newRecord_fits s fresh (le_self _) (fits_refl _ s)) rfl rfl
@[simp] theorem noteBad_gov (s : State) (t : State) (p : Nat) : (State.noteBad s t p).gov = s.gov :=
  gov_of_fits (noteBad_fits s t p (le_self _) (fits_refl _ s)) rfl rfl
@[simp] theorem opIgnored_gov (s : State) : (State.opIgnored s).gov = s.gov :=
  gov_of_fits (opIgnored_fits s (le_self _) (fits_refl _ s)) rfl rfl
@[simp] theorem openJournal_gov (s : State) : ((State.openJournal s).2).gov = s.gov :=
  gov_of_fits (openJournal_fits s (le_self _) (fits_refl _ s)) rfl rfl
@[simp] theorem outcome_gov (s : State) (o : Nat) : (State.outcome s o).gov = s.gov :=
  gov_of_fits (outcome_fits s o (le_self _) (fits_refl _ s)) rfl rfl
@[simp] theorem padWrite_gov (s : State) (v : Word) : (State.padWrite s v).gov = s.gov :=
  gov_of_fits (padWrite_fits s v (le_self _) (fits_refl _ s)) rfl rfl
@[simp] theorem pauseTry_gov (s : State) (l : Nat) : (State.pauseTry s l).gov = s.gov :=
  gov_of_fits (pauseTry_fits s l (le_self _) (fits_refl _ s)) rfl rfl
@[simp] theorem pendWrite_gov (s : State) (k : Nat) (v : Word) : (State.pendWrite s k v).gov = s.gov :=
  gov_of_fits (pendWrite_fits s k v (le_self _) (fits_refl _ s)) rfl rfl
@[simp] theorem phaseSend_gov (s : State) : (State.phaseSend s).gov = s.gov :=
  gov_of_fits (phaseSend_fits s (le_self _) (fits_refl _ s)) rfl rfl
@[simp] theorem pipeInject_gov (s : State) (b : Nat) : (State.pipeInject s b).gov = s.gov :=
  gov_of_fits (pipeInject_fits s b (le_self _) (fits_refl _ s)) rfl rfl
@[simp] theorem pipePar_gov (s : State) (t : Nat) (b : Nat) (inj : Bool) : (State.pipePar s t b inj).gov = s.gov :=
  gov_of_fits (pipePar_fits s t b inj (le_self _) (fits_refl _ s)) rfl rfl
@[simp] theorem plainSlotTo_gov (s : State) (n : Nat) (st : Nat) (rej : Nat) : (State.plainSlotTo s n st rej).gov = s.gov :=
  gov_of_fits (plainSlotTo_fits s n st rej (le_self _) (fits_refl _ s)) rfl rfl
@[simp] theorem pmbBoot_gov (s : State) (ok : Bool) : (State.pmbBoot s ok).gov = s.gov :=
  gov_of_fits (pmbBoot_fits s ok (le_self _) (fits_refl _ s)) rfl rfl
@[simp] theorem primary_gov (s : State) : (State.primary s).gov = s.gov :=
  gov_of_fits (primary_fits s (le_self _) (fits_refl _ s)) rfl rfl
@[simp] theorem pwrReq_gov (s : State) (m : Master) (v : Word) : (State.pwrReq s m v).gov = s.gov :=
  gov_of_fits (pwrReq_fits s m v (le_self _) (fits_refl _ s)) rfl rfl
@[simp] theorem queueBand_gov (s : State) (n : Nat) (b : Nat) : (State.queueBand s n b).gov = s.gov :=
  gov_of_fits (queueBand_fits s n b (le_self _) (fits_refl _ s)) rfl rfl
@[simp] theorem rcAttempt_gov (s : State) (n : Nat) : (State.rcAttempt s n).gov = s.gov :=
  gov_of_fits (rcAttempt_fits s n (le_self _) (fits_refl _ s)) rfl rfl
@[simp] theorem rcRestart_gov (s : State) (pin : Bool) : (State.rcRestart s pin).gov = s.gov :=
  gov_of_fits (rcRestart_fits s pin (le_self _) (fits_refl _ s)) rfl rfl
@[simp] theorem recordRead_gov (s : State) (v : Word) : (State.recordRead s v).gov = s.gov :=
  gov_of_fits (recordRead_fits s v (le_self _) (fits_refl _ s)) rfl rfl
@[simp] theorem refCmd_gov (s : State) (v : Word) : (State.refCmd s v).gov = s.gov :=
  gov_of_fits (refCmd_fits s v (le_self _) (fits_refl _ s)) rfl rfl
@[simp] theorem regReads_gov (s : State) (a : Nat) (k : Nat) : ((State.regReads s a k).2.2).gov = s.gov :=
  gov_of_fits (regReads_fits s a k (le_self _) (fits_refl _ s)) rfl rfl
@[simp] theorem regRespond_gov (s : State) (l : Nat) (noop : Bool) (r : List Byte) : (State.regRespond s l noop r).gov = s.gov :=
  gov_of_fits (regRespond_fits s l noop r (le_self _) (fits_refl _ s)) rfl rfl
@[simp] theorem releaseChecks_gov (s : State) (k : Nat) (hit : Hit) : ((State.releaseChecks s k hit).2).gov = s.gov :=
  gov_of_fits (releaseChecks_fits s k hit (le_self _) (fits_refl _ s)) rfl rfl
@[simp] theorem replay_gov (s : State) (c : Nat) : (State.replay s c).gov = s.gov :=
  gov_of_fits (replay_fits s c (le_self _) (fits_refl _ s)) rfl rfl
@[simp] theorem respond_gov (s : State) (l : Nat) (f : List Byte) : (State.respond s l f).gov = s.gov :=
  gov_of_fits (respond_fits s l f (le_self _) (fits_refl _ s)) rfl rfl
@[simp] theorem restoreTime_gov (s : State) : (State.restoreTime s).gov = s.gov :=
  gov_of_fits (restoreTime_fits s (le_self _) (fits_refl _ s)) rfl rfl
@[simp] theorem safCommit_gov (s : State) : (State.safCommit s).gov = s.gov :=
  gov_of_fits (safCommit_fits s (le_self _) (fits_refl _ s)) rfl rfl
@[simp] theorem safReactWrite_gov (s : State) (v : Word) : (State.safReactWrite s v).gov = s.gov :=
  gov_of_fits (safReactWrite_fits s v (le_self _) (fits_refl _ s)) rfl rfl
@[simp] theorem safUnlockWrite_gov (s : State) (v : Word) : (State.safUnlockWrite s v).gov = s.gov :=
  gov_of_fits (safUnlockWrite_fits s v (le_self _) (fits_refl _ s)) rfl rfl
@[simp] theorem sampleEnables_gov (s : State) : (State.sampleEnables s).gov = s.gov :=
  gov_of_fits (sampleEnables_fits s (le_self _) (fits_refl _ s)) rfl rfl
@[simp] theorem saveSettings_gov (s : State) (fmt : Nat) : (State.saveSettings s fmt).gov = s.gov :=
  gov_of_fits (saveSettings_fits s fmt (le_self _) (fits_refl _ s)) rfl rfl
@[simp] theorem segFlip_gov (s : State) : (State.segFlip s).gov = s.gov :=
  gov_of_fits (segFlip_fits s (le_self _) (fits_refl _ s)) rfl rfl
@[simp] theorem segForm_gov (s : State) : (State.segForm s).gov = s.gov :=
  gov_of_fits (segForm_fits s (le_self _) (fits_refl _ s)) rfl rfl
@[simp] theorem senseFuses_gov (s : State) : (State.senseFuses s).gov = s.gov :=
  gov_of_fits (senseFuses_fits s (le_self _) (fits_refl _ s)) rfl rfl
@[simp] theorem senseRows_gov (s : State) : (State.senseRows s).gov = s.gov :=
  gov_of_fits (senseRows_fits s (le_self _) (fits_refl _ s)) rfl rfl
@[simp] theorem sequence_gov (s : State) (p : Packet) : (State.sequence s p).gov = s.gov :=
  gov_of_fits (sequence_fits s p (le_self _) (fits_refl _ s)) rfl rfl
@[simp] theorem setReleased_gov (s : State) (b : Nat) (v : List (Nat × Nat)) : (State.setReleased s b v).gov = s.gov :=
  gov_of_fits (setReleased_fits s b v (le_self _) (fits_refl _ s)) rfl rfl
@[simp] theorem setReset_gov (s : State) (reason : Nat) (old : Nat) : (State.setReset s reason old).gov = s.gov :=
  gov_of_fits (setReset_fits s reason old (le_self _) (fits_refl _ s)) rfl rfl
@[simp] theorem setStraps_gov (s : State) (t : Straps) : (State.setStraps s t).gov = s.gov :=
  gov_of_fits (setStraps_fits s t (le_self _) (fits_refl _ s)) rfl rfl
@[simp] theorem setTries_gov (s : State) (n : Nat) : (State.setTries s n).gov = s.gov :=
  gov_of_fits (setTries_fits s n (le_self _) (fits_refl _ s)) rfl rfl
@[simp] theorem settle_gov (s : State) : (State.settle s).gov = s.gov :=
  gov_of_fits (settle_fits s (le_self _) (fits_refl _ s)) rfl rfl
@[simp] theorem shadowGeo_gov (s : State) (b : List Byte) (tiles : Nat) : (State.shadowGeo s b tiles).gov = s.gov :=
  gov_of_fits (shadowGeo_fits s b tiles (le_self _) (fits_refl _ s)) rfl rfl
@[simp] theorem shadowSeg_gov (s : State) (b : List Byte) : (State.shadowSeg s b).gov = s.gov :=
  gov_of_fits (shadowSeg_fits s b (le_self _) (fits_refl _ s)) rfl rfl
@[simp] theorem showBundle_gov (s : State) (n : Nat) : (State.showBundle s n).gov = s.gov :=
  gov_of_fits (showBundle_fits s n (le_self _) (fits_refl _ s)) rfl rfl
@[simp] theorem showCal_gov (s : State) (n : Nat) : (State.showCal s n).gov = s.gov :=
  gov_of_fits (showCal_fits s n (le_self _) (fits_refl _ s)) rfl rfl
@[simp] theorem showSlot_gov (s : State) (n : Nat) : (State.showSlot s n).gov = s.gov :=
  gov_of_fits (showSlot_fits s n (le_self _) (fits_refl _ s)) rfl rfl
@[simp] theorem soutCtrl_gov (s : State) (v : Word) : (State.soutCtrl s v).gov = s.gov :=
  gov_of_fits (soutCtrl_fits s v (le_self _) (fits_refl _ s)) rfl rfl
@[simp] theorem soutsOff_gov (s : State) : (State.soutsOff s).gov = s.gov :=
  gov_of_fits (soutsOff_fits s (le_self _) (fits_refl _ s)) rfl rfl
@[simp] theorem spiErr_gov (s : State) : (State.spiErr s).gov = s.gov :=
  gov_of_fits (spiErr_fits s (le_self _) (fits_refl _ s)) rfl rfl
@[simp] theorem sscApply_gov (s : State) : (State.sscApply s).gov = s.gov :=
  gov_of_fits (sscApply_fits s (le_self _) (fits_refl _ s)) rfl rfl
@[simp] theorem staleLayer_gov (s : State) (n : Nat) : (State.staleLayer s n).gov = s.gov :=
  gov_of_fits (staleLayer_fits s n (le_self _) (fits_refl _ s)) rfl rfl
@[simp] theorem startStep_gov (s : State) (c : Nat) : (State.startStep s c).gov = s.gov :=
  gov_of_fits (startStep_fits s c (le_self _) (fits_refl _ s)) rfl rfl
@[simp] theorem stepDone_gov (s : State) (detail : Nat) : (State.stepDone s detail).gov = s.gov :=
  gov_of_fits (stepDone_fits s detail (le_self _) (fits_refl _ s)) rfl rfl
@[simp] theorem stepFailed_gov (s : State) (detail : Nat) : (State.stepFailed s detail).gov = s.gov :=
  gov_of_fits (stepFailed_fits s detail (le_self _) (fits_refl _ s)) rfl rfl
@[simp] theorem tapReset_gov (s : State) : (State.tapReset s).gov = s.gov :=
  gov_of_fits (tapReset_fits s (le_self _) (fits_refl _ s)) rfl rfl
@[simp] theorem tempLost_gov (s : State) (t : Nat) : (State.tempLost s t).gov = s.gov :=
  gov_of_fits (tempLost_fits s t (le_self _) (fits_refl _ s)) rfl rfl
@[simp] theorem tickBack_gov (s : State) (l : Nat) : (State.tickBack s l).gov = s.gov :=
  gov_of_fits (tickBack_fits s l (le_self _) (fits_refl _ s)) rfl rfl
@[simp] theorem tickHours_gov (s : State) : (State.tickHours s).gov = s.gov :=
  gov_of_fits (tickHours_fits s (le_self _) (fits_refl _ s)) rfl rfl
@[simp] theorem tickLinkTime_gov (s : State) : (State.tickLinkTime s).gov = s.gov :=
  gov_of_fits (tickLinkTime_fits s (le_self _) (fits_refl _ s)) rfl rfl
@[simp] theorem tickSide_gov (s : State) : (State.tickSide s).gov = s.gov :=
  gov_of_fits (tickSide_fits s (le_self _) (fits_refl _ s)) rfl rfl
@[simp] theorem tileCheck_gov (s : State) (t : Nat) : (State.tileCheck s t).gov = s.gov :=
  gov_of_fits (tileCheck_fits s t (le_self _) (fits_refl _ s)) rfl rfl
@[simp] theorem tilesUp_gov (s : State) : (State.tilesUp s).gov = s.gov :=
  gov_of_fits (tilesUp_fits s (le_self _) (fits_refl _ s)) rfl rfl
@[simp] theorem tryRelease_gov (s : State) : (State.tryRelease s).gov = s.gov :=
  gov_of_fits (tryRelease_fits s (le_self _) (fits_refl _ s)) rfl rfl
@[simp] theorem tryTables_gov (s : State) (n : Nat) (p : Nat) : ((State.tryTables s n p).2).gov = s.gov :=
  gov_of_fits (tryTables_fits s n p (le_self _) (fits_refl _ s)) rfl rfl
@[simp] theorem unackWrite_gov (s : State) (k : Nat) (v : Word) : (State.unackWrite s k v).gov = s.gov :=
  gov_of_fits (unackWrite_fits s k v (le_self _) (fits_refl _ s)) rfl rfl
@[simp] theorem unhold_gov (s : State) (l : Nat) : (State.unhold s l).gov = s.gov :=
  gov_of_fits (unhold_fits s l (le_self _) (fits_refl _ s)) rfl rfl
@[simp] theorem unitOff_gov (s : State) (p : Nat) : (State.unitOff s p).gov = s.gov :=
  gov_of_fits (unitOff_fits s p (le_self _) (fits_refl _ s)) rfl rfl
@[simp] theorem unitOn_gov (s : State) (p : Nat) : (State.unitOn s p).gov = s.gov :=
  gov_of_fits (unitOn_fits s p (le_self _) (fits_refl _ s)) rfl rfl
@[simp] theorem violation_gov (s : State) (m : Master) (a : Nat) (write : Bool) : (State.violation s m a write).gov = s.gov :=
  gov_of_fits (violation_fits s m a write (le_self _) (fits_refl _ s)) rfl rfl
@[simp] theorem wakeClear_gov (s : State) (v : Word) : (State.wakeClear s v).gov = s.gov :=
  gov_of_fits (wakeClear_fits s v (le_self _) (fits_refl _ s)) rfl rfl
@[simp] theorem wdtCtrl_gov (s : State) (v : Word) : (State.wdtCtrl s v).gov = s.gov :=
  gov_of_fits (wdtCtrl_fits s v (le_self _) (fits_refl _ s)) rfl rfl
@[simp] theorem wdtKick_gov (s : State) (v : Word) : (State.wdtKick s v).gov = s.gov :=
  gov_of_fits (wdtKick_fits s v (le_self _) (fits_refl _ s)) rfl rfl
@[simp] theorem writeBlock_gov (s : State) (n : Nat) (ofs : Nat) (body : List Byte) : (State.writeBlock s n ofs body).gov = s.gov :=
  gov_of_fits (writeBlock_fits s n ofs body (le_self _) (fits_refl _ s)) rfl rfl

/-! The same for an operation on a page or a source that its caller names. -/

@[simp] theorem setBytes_gov (s : State) (a : Nat) (l : List Byte) : (s.setBytes a l).gov = s.gov :=
  gov_of_fits (setBytes_fits (f := Foot.of [] [.mem]) a l rfl (fits_refl _ s)) rfl rfl

theorem hasUnit_head (p : Nat) (l : List Nat) (ps : List Part) : (Foot.of (p :: l) ps).hasUnit p = true := by
  simp [Foot.hasUnit, Foot.of]

theorem le_cons (p : Nat) (l : List Nat) (ps : List Part) : (Foot.of l ps).le (Foot.of (p :: l) ps) = true := by
  simp +contextual [Foot.le, Foot.of]

@[simp] theorem acceptPage_gov (s : State) (p : Nat) : (s.acceptPage p).gov = s.gov :=
  gov_of_fits (acceptPage_fits s p (hasUnit_head _ _ _) (le_cons _ _ _) (fits_refl _ s)) rfl rfl

@[simp] theorem rejectPage_gov (s : State) (p : Nat) : (s.rejectPage p).gov = s.gov := by simp [State.rejectPage]

@[simp] theorem apply_gov (s : State) (p : Nat) : (s.apply p).gov = s.gov :=
  gov_of_fits (apply_fits s p (hasUnit_head _ _ _) (le_cons _ _ _) (fits_refl _ s)) rfl rfl

@[simp] theorem landStopped_gov (s : State) (p : Nat) : (s.landStopped p).gov = s.gov :=
  gov_of_fits (landStopped_fits s p (hasUnit_head _ _ _) (le_cons _ _ _) (fits_refl _ s)) rfl rfl

@[simp] theorem raise_gov (s : State) (i inst : Nat) : (s.raise i inst).gov = s.gov :=
  gov_of_fits (raise_fits s i inst (hasUnit_head _ _ _) (le_cons _ _ _) (fits_refl _ s)) rfl rfl

@[simp] theorem raiseTrig_gov (s : State) (i inst code detail : Nat) (flint : Bool) : (s.raiseTrig i inst code detail flint).gov = s.gov :=
  gov_of_fits (raiseTrig_fits s i inst code detail flint (hasUnit_head _ _ _) (le_cons _ _ _) (fits_refl _ s)) rfl rfl

@[simp] theorem graniteFault_gov (s : State) (i detail addr : Nat) (inj : Bool) : (s.graniteFault i detail addr inj).gov = s.gov :=
  gov_of_fits (graniteFault_fits s i detail addr inj (hasUnit_head _ _ _) (le_cons _ _ _) (fits_refl _ s)) rfl rfl

@[simp] theorem free_gov (s : State) : s.free.2.gov = s.gov := rfl

/-- A fold of operations that each leave the Governor as it was leaves it as it was. -/
theorem foldl_gov {α : Type} {f : State → α → State} (hf : ∀ s x, (f s x).gov = s.gov) (l : List α) (s : State) : (l.foldl f s).gov = s.gov :=
  List.foldlRecOn (motive := fun t => t.gov = s.gov) l f rfl (fun t ht x _ => (hf t x).trans ht)

@[simp] theorem faultIrq_gov (old s : State) (l : List Nat) : (State.faultIrq old s l).gov = s.gov := by
  have hfold := foldl_gov (f := fun (s : State) p => if s.faultWord p &&& (old.faultWord p ^^^ s.faultWord p) = 0 then s
    else s.put (F.UNIT_IRQ_STAT_FAULT p) 1) (fun s p => by split_ifs <;> simp) l s
  unfold State.faultIrq
  extract_lets t
  split_ifs
  · exact hfold
  · exact (put_gov t _ _).trans hfold

/-! ### Commits, block resets and register writes -/

@[simp] theorem blkWrite_gov (s : State) (p : Nat) : (s.blkWrite p).gov = s.gov := by
  have hunits : ∀ (l : List Nat) (t : State), (l.foldl (fun s q => s.blkUnit q) t).gov = t.gov := foldl_gov (fun _ _ => blkUnit_gov ..)
  unfold State.blkWrite
  extract_lets pages old s1 s2 s3 s4
  split_ifs <;> simp [s4, s3, s2, s1, hunits, State.blockFields]

@[simp] theorem landNow_gov (s : State) (p : Nat) : (s.landNow p).gov = s.gov := by
  unfold State.landNow
  split
  · split <;> [skip; skip; skip; skip; split] <;> simp
  · rfl

@[simp] theorem acceptAll_gov (s : State) (p : Nat) (pages : List Nat) : (s.acceptAll p pages).gov = s.gov := by
  unfold State.acceptAll
  extract_lets s1 s2 group old s3
  have h1 : s1.gov = s.gov := foldl_gov (fun _ _ => acceptPage_gov ..) _ _
  have h2 : s2.gov = s1.gov := by
    simp only [s2]
    split_ifs <;> simp
  calc (pages.foldl (fun s q => s.landNow q) s3).gov = s3.gov := foldl_gov (fun _ _ => landNow_gov ..) _ _
    _ = s.gov := h2.trans h1

@[simp] theorem rejectAll_gov (s t : State) (p : Nat) (bad : List Nat) : (s.rejectAll t p bad).gov = s.gov := by
  unfold State.rejectAll
  rw [rejectPage_gov]
  exact foldl_gov (fun _ _ => by simp) _ _

@[simp] theorem go_gov (s : State) (p : Nat) : (s.go p).gov = s.gov := by
  unfold State.go
  extract_lets pages t bad
  split_ifs <;> simp

@[simp] theorem commitWrite_gov (s : State) (p : Nat) (v : Word) : (s.commitWrite p v).gov = s.gov := by
  unfold State.commitWrite
  split_ifs <;> simp

@[simp] theorem worldBit_gov (s : State) (m : Master) (p b : Nat) : (s.worldBit m p b).gov = s.gov := by
  unfold State.worldBit
  split_ifs <;> simp

@[simp] theorem enableBit_gov (s : State) (p b : Nat) : (s.enableBit p b).gov = s.gov := by
  unfold State.enableBit
  extract_lets t
  split_ifs <;> simp [t]

@[simp] theorem ctrlWrite_gov (s : State) (m : Master) (p : Nat) (v : Word) : (s.ctrlWrite m p v).gov = s.gov := by
  unfold State.ctrlWrite
  extract_lets t
  split_ifs <;> simp [t]

@[simp] theorem fieldWrite_gov (s : State) (o : Nat) (v : Word) : (s.fieldWrite o v).gov = s.gov := by
  unfold State.fieldWrite
  extract_lets rw t rwc
  split_ifs <;> simp [t]

@[simp] theorem plainWrite_gov (s : State) (p off : Nat) (v : Word) : (s.plainWrite p off v).gov = s.gov := by simp [State.plainWrite]

/-! ### The limits and the sums -/

/-- The Governor's limits and sums, all that the clamp is about. -/
def ledger (v : Gov) : List Nat × List Nat := (v.limits, v.sums)

/-- No zone's clamped sum exceeds its limit. -/
def Fair (v : Gov) : Prop := ∀ z, v.sums.getD z 0 ≤ v.limits.getD z 0

theorem fair_of_ledger {v w : Gov} (h : ledger w = ledger v) (hv : Fair v) : Fair w := by
  obtain ⟨hlim, hsum⟩ := Prod.mk.inj h
  intro z
  rw [hlim, hsum]
  exact hv z

theorem fair_of_gov {s t : State} (h : t.gov = s.gov) (hs : Fair s.gov) : Fair t.gov := h ▸ hs

theorem ite_fair {c : Prop} [Decidable c] {s t : State} (hs : Fair s.gov) (ht : Fair t.gov) : Fair (if c then s else t).gov := by
  split_ifs
  · exact hs
  · exact ht

@[simp] theorem withGov_gov_self (s : State) (v : Gov) : (s.withGov v).gov = v := rfl

/-! ### Slots and lists: the ledger stays -/

@[simp] theorem graniteSlotTo_ledger (s : State) (n st rej : Nat) : ledger (s.graniteSlotTo n st rej).gov = ledger s.gov := by
  unfold State.graniteSlotTo
  extract_lets g old s1 s2 s3
  have h1 : ledger s1.gov = ledger s.gov := rfl
  have h3 : s3.gov = s1.gov := by
    simp only [s3]
    split_ifs <;> simp [s2]
  split_ifs <;> simp [h3, h1]

@[simp] theorem toSlot_ledger (s : State) (n st rej : Nat) : ledger (s.toSlot n st rej).gov = ledger s.gov := by
  unfold State.toSlot
  extract_lets s1
  have h1 : ledger s1.gov = ledger s.gov := by
    simp only [s1]
    split_ifs <;> simp
  split_ifs <;> simp [h1]

@[simp] theorem newList_ledger (s : State) (p : Packet) : ledger (s.newList p).gov = ledger s.gov := by
  unfold State.newList
  extract_lets older s1 l
  have h1 : s1.gov = s.gov := doneUpTo_gov ..
  exact (show _ = ledger s1.gov from rfl).trans (congrArg ledger h1)

@[simp] theorem accept_ledger (s : State) (p : Packet) : ledger (s.accept p).gov = ledger s.gov := by
  unfold State.accept
  extract_lets s1 s2 s3 s4 s5 s6
  have h1 : ledger s1.gov = ledger s.gov := by
    simp only [s1]
    split_ifs <;> simp
  have h4 : s4.gov = s1.gov := by
    simp only [s4, s3, s2]
    split_ifs <;> simp
  simp [s6, s5, h4, h1]

theorem checkCopies_gov' {s t : State} {c : Nat} {ok : Bool} (h : s.checkCopies c = (ok, t)) : t.gov = s.gov := by
  have := checkCopies_gov s c
  rwa [h] at this

@[simp] theorem storeWaiting_ledger (s : State) (l copies : Nat) : ledger (s.storeWaiting l copies).gov = ledger s.gov := by
  unfold State.storeWaiting
  split
  · rfl
  · split
    · simp
    · split
      · split
        rename_i ok t heq
        have ht : t.gov = s.gov := (checkCopies_gov' heq).trans (unhold_gov ..)
        split_ifs <;> simp [ht]
      · rfl

@[simp] theorem updBlock_ledger (s : State) (p : Packet) : ledger (s.updBlock p).gov = ledger s.gov := by
  unfold State.updBlock
  extract_lets n s1
  split_ifs
  · simp
  · rfl
  · simp only [s1]
    split_ifs <;> simp

@[simp] theorem activate_ledger (s : State) (n : Nat) (restart : Bool) : ledger (s.activate n restart).gov = ledger s.gov := by
  unfold State.activate
  extract_lets s1 s2
  simp only [withUpd_gov, s2]
  split_ifs <;> simp [s1]

@[simp] theorem confirm_ledger (s : State) (n : Nat) : ledger (s.confirm n).gov = ledger s.gov := by
  unfold State.confirm
  extract_lets s1 s2 s3 s4 old s5
  have h2 : ledger s2.gov = ledger s.gov := by
    simp only [s2]
    split_ifs <;> simp [s1]
  simp [s5, s4, s3, h2]

/-- A fold of operations that each leave the ledger leaves it. -/
theorem foldl_ledger {α : Type} {f : State → α → State} (hf : ∀ s x, ledger (f s x).gov = ledger s.gov) (l : List α) (s : State) :
    ledger (l.foldl f s).gov = ledger s.gov :=
  List.foldlRecOn (motive := fun t => ledger t.gov = ledger s.gov) l f rfl (fun t ht x _ => (hf t x).trans ht)

@[simp] theorem dropReceiving_ledger (s : State) : ledger s.dropReceiving.gov = ledger s.gov :=
  foldl_ledger (fun s n => by split_ifs <;> simp) _ _

@[simp] theorem journalCold_ledger (s : State) : ledger s.journalCold.gov = ledger s.gov := by
  unfold State.journalCold
  extract_lets lost s1
  simp only [s1, evrStart_gov, dropReceiving_ledger, newEpoch_gov, restoreTime_gov]
  split_ifs <;> simp

@[simp] theorem endTrial_ledger (s : State) : ledger s.endTrial.gov = ledger s.gov := by
  unfold State.endTrial
  split
  · split_ifs <;> simp
  · rfl

/-! A result that has been taken apart. -/

theorem gov_of_snd {α : Type} {p : α × State} {a : α} {s t : State} (h : p = (a, t)) (hp : p.2.gov = s.gov) : t.gov = s.gov := by
  rw [h] at hp
  exact hp

@[simp] theorem tryPending_ledger (s : State) (n : Nat) (aOk bOk : Bool) : ledger (s.tryPending n aOk bOk).2.gov = ledger s.gov := by
  unfold State.tryPending
  split
  rename_i r t heq
  have ht : t.gov = s.gov := gov_of_snd heq (mainBad_gov ..)
  split_ifs <;> simp [ht]

@[simp] theorem graniteActive_ledger (s : State) (n : Nat) : ledger (s.graniteActive n).gov = ledger s.gov := by
  unfold State.graniteActive
  extract_lets s1 s2
  have h2 : ledger s2.gov = ledger s.gov := by
    simp only [s2]
    split
    · split_ifs <;> simp [s1]
    · simp [s1]
  simpa [ledger] using h2

@[simp] theorem complete_ledger (s : State) (n : Nat) (fuseOk : Bool) : ledger (s.complete n fuseOk).2.gov = ledger s.gov := by
  unfold State.complete
  split_ifs <;> simp

@[simp] theorem calPending_ledger (s : State) : ledger s.calPending.gov = ledger s.gov := by
  unfold State.calPending
  split
  · simp only [primary_gov, clearAvoid_gov]
    split_ifs <;> simp
  · rfl

@[simp] theorem applyProfile_gov (s : State) (b : List Byte) (p : Nat) (cmd : Bool) : (s.applyProfile b p cmd).gov = s.gov := by
  unfold State.applyProfile
  extract_lets tiles s1 s2 s3 s4 s5 s6
  have h3 : s3.gov = s.gov := by
    rw [show s3.gov = s2.gov from foldl_gov (fun s n => by split_ifs <;> simp) _ _]
    simp [s2, s1]
  have h4 : s4.gov = s3.gov := by
    simp only [s4]
    split_ifs <;> simp
  simp [s6, s5, h4, h3]

@[simp] theorem tryProfile_gov (s : State) (p : Nat) (cmd : Bool) : (s.tryProfile p cmd).2.gov = s.gov := by
  unfold State.tryProfile
  split
  · rename_i b a _ _
    split
    · rfl
    · split
      rename_i ok t heq
      have ht : t.gov = s.gov := by
        split_ifs at heq
        · exact congrArg State.gov (Prod.mk.inj heq).2.symm
        · exact gov_of_snd heq (tryTables_gov ..)
      split_ifs <;> simp [ht]
  · rfl

@[simp] theorem tilesLeaveLoad_gov (s : State) : s.tilesLeaveLoad.gov = s.gov := by simp [State.tilesLeaveLoad]

@[simp] theorem govFlip_ledger (s : State) (f : Nat) : ledger (s.govFlip f).gov = ledger s.gov := by
  unfold State.govFlip
  extract_lets adaptive clamped gained low clamp s1 s2 s3
  have h1 : s1.gov = s.gov := foldl_gov (fun _ _ => by simp) _ _
  have h3 : s3.gov = s.gov := by
    simp only [s3]
    split_ifs <;> simp [s2, h1]
  simpa [ledger] using congrArg ledger h3

/-! ### Where the ledger is set: a reset, a latch point, a repeated frame, the release of a band -/

theorem getD_replicate_zero (n z : Nat) : (List.replicate n 0).getD z 0 = 0 := by
  by_cases h : z < n <;> simp [List.getD_eq_getElem?_getD, h]

/-- Sums that are all 0 exceed no limit. -/
theorem fair_of_zero {v : Gov} (h : v.sums = List.replicate 256 0) : Fair v := by
  intro z
  rw [h, getD_replicate_zero]
  exact Nat.zero_le _

theorem afterCold_fair (s : State) (aon : Bool) : Fair (s.afterCold aon).gov := fair_of_zero rfl

theorem afterWarm_fair (s : State) : Fair s.afterWarm.gov := by
  unfold State.afterWarm
  simp only [apply_ite State.gov, put_gov, addSat_gov, ite_self]
  exact fair_of_zero rfl

theorem restoreWord_gov (s : State) (e : Nat × Word) : (s.restoreWord e).gov = s.gov := setWord_gov ..

theorem afterDeep_fair (s : State) : Fair s.afterDeep.gov := by
  unfold State.afterDeep
  simp only [foldl_gov (fun (t : State) k => put_gov t (F.BST_MB_REP_ENTRY k) 0), foldl_gov restoreWord_gov, put_gov, withShadow_gov,
    tapReset_gov, senseFuses_gov]
  exact fair_of_zero rfl

theorem coldReset_fair (s : State) (cause : Fld) (aon : Bool) : Fair (s.coldReset cause aon).gov := by
  unfold State.coldReset
  extract_lets lvl s1
  have h1 : Fair s1.gov := fair_of_gov (by simp [s1]) (afterCold_fair s.endJobFree aon)
  split_ifs
  · exact fair_of_gov (rcAttempt_gov ..) h1
  · exact h1

theorem warmReset_fair {s : State} (cause : Fld) (pin : Bool) (h : Fair s.gov) : Fair (s.warmReset cause pin).gov := by
  unfold State.warmReset
  extract_lets rf s1 s2
  split_ifs
  · exact h
  · exact fair_of_gov (by simp [s2, s1]) (afterWarm_fair s.endJob)

theorem govLatch_fair (s : State) : Fair s.govLatch.gov := by
  unfold State.govLatch
  extract_lets reason mode old s1 s2 s3 thr setB s4 limits both gains was old' s5
  have h5 : Fair s5.gov := fair_of_zero rfl
  exact fair_of_gov (foldl_gov (fun _ _ => by extract_lets; split_ifs <;> simp) _ _) h5

theorem govRepeat_fair (s : State) : Fair s.govRepeat.gov := fair_of_zero rfl

/-- A contribution scaled by its factor and rounded up stays within what the limit leaves: the largest such factor is rounded down (R315). -/
theorem bandFactor_le {lim sum cb : Nat} (h : sum ≤ lim) : sum + (cb * bandFactor lim sum cb + 65535) / 65536 ≤ lim := by
  unfold bandFactor
  split_ifs with hcb hfits
  · subst hcb
    omega
  · have : cb * 65536 + 65535 < (cb + 1) * 65536 := by omega
    omega
  · have hle : cb * ((lim - sum) * 65536 / cb) ≤ (lim - sum) * 65536 := Nat.mul_div_le _ _
    omega

theorem getD_map_range {f : Nat → Nat} {n z d : Nat} (h : z < n) : ((List.range n).map f).getD z d = f z := by
  simp [List.getD_eq_getElem?_getD, h]

theorem getD_of_length_le {l : List Nat} {z d : Nat} (h : l.length ≤ z) : l.getD z d = d := by
  simp [List.getD_eq_getElem?_getD, h]

/-- The sums that a release leaves: in each zone the old sum and the clamped contribution of the band. -/
def clampedSums (limits sums cb : List Nat) : List Nat :=
  (List.range 256).map (fun z => sums.getD z 0
    + (cb.getD z 0 * ((List.range 256).map (fun z => bandFactor (limits.getD z 0) (sums.getD z 0) (cb.getD z 0))).getD z 65536 + 65535) / 65536)

theorem clampedSums_le {limits sums : List Nat} (cb : List Nat) (h : ∀ z, sums.getD z 0 ≤ limits.getD z 0) (z : Nat) :
    (clampedSums limits sums cb).getD z 0 ≤ limits.getD z 0 := by
  by_cases hz : z < 256
  · rw [clampedSums, getD_map_range hz, getD_map_range hz]
    exact bandFactor_le (h z)
  · rw [getD_of_length_le (by simp [clampedSums]; omega)]
    exact Nat.zero_le _

theorem releaseBand_fair {s : State} (b : Nat) (vals : List Nat) (zero : Bool) (h : Fair s.gov) : Fair (s.releaseBand b vals zero).gov := by
  unfold State.releaseBand
  split
  rename_i u cb _
  extract_lets f sums clamp out old s1 s2 s3
  have h1 : Fair s1.gov := clampedSums_le cb h
  have h3 : s3.gov = s1.gov := by
    simp only [s3, s2]
    split_ifs <;> simp
  refine fair_of_gov (foldl_gov (fun _ _ => by split_ifs <;> simp) _ _) (fair_of_gov h3 h1)

theorem releaseOne_fair {s : State} (bad : List Nat) (hit : Hit) (b : Nat) (h : Fair s.gov) : Fair (s.releaseOne bad hit b).gov := by
  unfold State.releaseOne
  split
  · exact h
  · split
    · exact h
    · extract_lets vals s1 s2 s3
      have h1 : Fair s1.gov := releaseBand_fair _ _ _ h
      have h2 : s2.gov = s1.gov := by
        simp only [s2]
        split_ifs <;> simp
      have h3 : s3.gov = s2.gov := by
        simp only [s3]
        split
        · split_ifs <;> simp
        · rfl
      exact fair_of_gov ((pipeInject_gov ..).trans (h3.trans h2)) h1

/-! ### Frames -/

theorem newFrame_fair (s : State) : Fair s.newFrame.gov := by
  unfold State.newFrame
  exact govLatch_fair _

theorem repeatFrame_fair (s : State) : Fair s.repeatFrame.gov := govRepeat_fair _

/-! ### Boot -/

theorem bootStop_fair {s : State} (h : Fair s.gov) : Fair s.bootStop.gov := by
  unfold State.bootStop
  extract_lets s1 s2 old s3
  have h3 : Fair s3.gov := fair_of_gov (by simp [s3, s2, s1]) h
  split_ifs
  · exact warmReset_fair _ _ h3
  · exact h3

theorem stepFails_fair {s : State} (detail : Nat) (h : Fair s.gov) : Fair (s.stepFails detail).gov := by
  unfold State.stepFails
  extract_lets c was s1 s2
  have h1 : Fair s1.gov := fair_of_gov (stepFailed_gov ..) h
  split_ifs
  · exact fair_of_gov (startStep_gov ..) h1
  · exact fair_of_gov (by simp [s2]) h1
  · exact fair_of_gov (enterRecovery_gov ..) h1
  · exact bootStop_fair h1

theorem flintWdt_fair {s : State} (h : Fair s.gov) : Fair s.flintWdt.gov :=
  warmReset_fair _ _ (fair_of_gov (by simp) h)

theorem flintKick_fair {s : State} (v : Word) (h : Fair s.gov) : Fair (s.flintKick v).gov := by
  unfold State.flintKick
  split_ifs
  · split
    · split_ifs
      · exact flintWdt_fair h
      · exact h
    · exact fair_of_gov (by simp) h
  · exact h

theorem flintSetup_fair {s : State} (h : Fair s.gov) : Fair s.flintSetup.gov :=
  flintKick_fair _ (fair_of_gov (go_gov ..) h)

theorem bootGranite_fair {s : State} (n : Nat) (h : Fair s.gov) : Fair (s.bootGranite n).gov := by
  unfold State.bootGranite
  extract_lets s1 s2 s3 p s4
  have h4 : s4.gov = s.gov := by
    simp only [s4]
    split_ifs <;> simp [s3, s2, s1]
  exact fair_of_gov (stepDone_gov ..) (flintSetup_fair (fair_of_gov h4 h))

theorem mainAlt_fair {s : State} (n : Nat) (aOk bOk : Bool) (h : Fair s.gov) : Fair (s.mainAlt n aOk bOk).gov := by
  unfold State.mainAlt
  extract_lets o
  split
  rename_i rn t ht
  have hft : Fair t.gov := fair_of_gov (gov_of_snd ht (mainBad_gov ..)) h
  split_ifs
  · split
    rename_i ro u hu
    have hfu : Fair u.gov := fair_of_gov (gov_of_snd hu (mainBad_gov ..)) hft
    split_ifs
    · exact fair_of_ledger (by simp) hfu
    · exact stepFails_fair _ hfu
  · exact fair_of_gov (bootMain_gov ..) hft
  · exact stepFails_fair _ hft

theorem mainActive_fair {s : State} (aOk bOk : Bool) (h : Fair s.gov) : Fair (s.mainActive aOk bOk).gov := by
  unfold State.mainActive
  split
  · exact stepFails_fair _ h
  · split_ifs
    · exact mainAlt_fair _ _ _ h
    · split
      rename_i r t ht
      have hft : Fair t.gov := fair_of_gov (gov_of_snd ht (mainBad_gov ..)) h
      split_ifs
      · exact fair_of_gov (bootMain_gov ..) hft
      · exact stepFails_fair _ hft

theorem graniteAlt_fair {s : State} (n : Nat) (aOk bOk : Bool) (h : Fair s.gov) : Fair (s.graniteAlt n aOk bOk).gov := by
  unfold State.graniteAlt
  extract_lets o
  split
  rename_i rn t ht
  have hft : Fair t.gov := fair_of_gov (gov_of_snd ht (checkGranite_gov ..)) h
  split_ifs
  · extract_lets old v
    split
    rename_i ro u hu
    have hfu : Fair u.gov := fair_of_ledger (congrArg ledger (gov_of_snd hu (checkGranite_gov ..))) hft
    split_ifs
    · exact bootGranite_fair _ (fair_of_ledger (by simp) hfu)
    · exact stepFails_fair _ hft
  · exact bootGranite_fair _ hft
  · exact stepFails_fair _ hft

theorem graniteBoot_fair {s : State} (aOk bOk : Bool) (h : Fair s.gov) : Fair (s.graniteBoot aOk bOk).gov := by
  unfold State.graniteBoot
  split
  · exact stepFails_fair _ h
  · split_ifs
    · exact graniteAlt_fair _ _ _ h
    · split
      rename_i r t ht
      have hft : Fair t.gov := fair_of_gov (gov_of_snd ht (checkGranite_gov ..)) h
      split_ifs
      · exact bootGranite_fair _ hft
      · exact stepFails_fair _ hft

theorem pinDeepReset_fair {s : State} (h : Fair s.gov) : Fair s.pinDeepReset.gov := by
  have hw : Fair (s.warmReset F.RST_CAUSE_PIN_DEEP true).gov := warmReset_fair _ _ h
  exact fair_of_gov (by simp [State.pinDeepReset]) hw

theorem lbFinish_fair {s : State} (result : Nat) (h : Fair s.gov) : Fair (s.lbFinish result).gov :=
  warmReset_fair _ _ (fair_of_gov (by simp) h)

/-! ### The bus and the link engines -/

theorem rstCmd_fair {s : State} (v : Word) (h : Fair s.gov) : Fair (s.rstCmd v).gov := by
  unfold State.rstCmd
  split_ifs
  · exact warmReset_fair _ _ h
  · exact fair_of_gov (evt_gov ..) h

theorem specialB_fair {s : State} (m : Master) (p off : Nat) (v : Word) (h : Fair s.gov) : Fair (s.specialB m p off v).gov := by
  unfold State.specialB
  refine ite_fair (fair_of_gov (safReactWrite_gov ..) h) (ite_fair (fair_of_gov (safUnlockWrite_gov ..) h) (ite_fair (flintKick_fair v h) ?_))
  split_ifs <;> exact fair_of_gov (by simp) h

theorem specialA_fair {s : State} (m : Master) (p off : Nat) (v : Word) (h : Fair s.gov) : Fair (s.specialA m p off v).gov := by
  unfold State.specialA
  refine ite_fair (fair_of_gov (ctrlWrite_gov ..) h) (ite_fair (fair_of_gov (commitWrite_gov ..) h) (ite_fair (fair_of_gov (refCmd_gov ..) h)
    (ite_fair (rstCmd_fair v h) ?_)))
  split_ifs <;> first | exact specialB_fair m p off v h | exact fair_of_gov (by simp) h

theorem pageWrite_fair {s : State} (m : Master) (p off : Nat) (v : Word) (h : Fair s.gov) : Fair (s.pageWrite m p off v).gov := by
  have hs := specialA_fair m p off v h
  unfold State.pageWrite
  extract_lets t
  split_ifs
  · exact h
  · exact fair_of_gov (settle_gov t) hs
  · exact hs

theorem busWrite_fair {s : State} (m : Master) (a : Nat) (b : List Byte) (h : Fair s.gov) : Fair (s.busWrite m a b).gov := by
  unfold State.busWrite
  extract_lets o p
  split_ifs
  · exact fair_of_gov (evt_gov ..) h
  · exact fair_of_gov (evt_gov ..) h
  · exact fair_of_gov (violation_gov ..) h
  · exact pageWrite_fair m p _ _ h
  · exact fair_of_gov (memWrite_gov ..) h

theorem masterWrite_fair {s : State} (m : Master) (a : Nat) (v : Word) (h : Fair s.gov) : Fair (s.masterWrite m a v).gov :=
  ite_fair (busWrite_fair m a _ h) h

theorem regWrites_fair {s : State} (a : Nat) (l : List Word) (h : Fair s.gov) : Fair (s.regWrites a l).2.gov := by
  induction l generalizing s a with
  | nil => exact h
  | cons w ws ih =>
    unfold State.regWrites
    split_ifs
    · exact h
    · extract_lets bad t
      have ht : Fair t.gov := busWrite_fair .reg a _ h
      clear_value t
      split
      rename_i bads u hu
      exact (congrArg (fun r => Fair r.2.gov) hu).mp (ih (a + 4) ht)

theorem readReg_gov (s : State) (m : Master) (o : Nat) : (s.readReg m o).2.gov = s.gov :=
  gov_of_fits (readReg_fits s m o (le_self _) (fits_refl _ s)) rfl rfl

theorem modifyAt_fair {s : State} (a : Nat) (value mask : Word) (h : Fair s.gov) : Fair (s.modifyAt a value mask).2.gov :=
  busWrite_fair .reg a _ (fair_of_gov (readReg_gov ..) h)

theorem regModify_fair {s : State} (p : List Byte) (h : Fair s.gov) : Fair (s.regModify p).2.2.gov := by
  unfold State.regModify
  split_ifs
  · exact modifyAt_fair _ _ _ h
  · exact fair_of_gov (violation_gov ..) h

theorem regAccess_fair {s : State} (l : Nat) (p : List Byte) (h : Fair s.gov) : Fair (s.regAccess l p).gov := by
  unfold State.regAccess
  extract_lets n
  split_ifs
  · exact fair_of_gov ((regRespond_gov ..).trans (regReads_gov ..)) h
  · exact fair_of_gov (regRespond_gov ..) (regWrites_fair _ _ h)
  · exact fair_of_gov (regRespond_gov ..) (regModify_fair p h)

theorem regServe_fair {s : State} (l : Nat) (p : List Byte) (h : Fair s.gov) : Fair (s.regServe l p).gov := by
  unfold State.regServe
  split_ifs
  · exact fair_of_gov (by simp) h
  · exact h
  · exact fair_of_gov (by simp) h
  · exact fair_of_gov (by simp) h
  · exact fair_of_gov (by simp) h
  · exact regAccess_fair l p h

theorem engineFrame_fair {s : State} (l : Nat) (f : RxFrame) (h : Fair s.gov) : Fair (s.engineFrame l f).gov := by
  unfold State.engineFrame
  split_ifs
  · exact regServe_fair l _ h
  · exact h
  · exact fair_of_gov (classify_gov ..) h

theorem engineRun_fair {s : State} (l n : Nat) (h : Fair s.gov) : Fair (s.engineRun l n).gov := by
  induction n generalizing s with
  | zero => exact h
  | succ n ih =>
    unfold State.engineRun
    split
    · exact h
    · split_ifs
      · exact ih (engineFrame_fair l _ (fair_of_gov (modLink_gov ..) h))
      · exact h

/-- A fold of operations that each keep a fair ledger keeps it. -/
theorem foldl_fair {α : Type} {f : State → α → State} (hf : ∀ {s : State} x, Fair s.gov → Fair (f s x).gov) (l : List α) {s : State}
    (h : Fair s.gov) : Fair (l.foldl f s).gov :=
  List.foldlRecOn (motive := fun t : State => Fair t.gov) l f h (fun _ ht x _ => hf x ht)

theorem enginesRun_fair {s : State} (h : Fair s.gov) : Fair s.enginesRun.gov := foldl_fair (fun l h => engineRun_fair l _ h) _ h

theorem receive_fair {s : State} (l : Nat) (f : Wire) (ftype : Nat) (h : Fair s.gov) : Fair (s.receive l f ftype).gov := by
  unfold State.receive
  split
  rename_i ok t ht
  have hft : Fair t.gov := fair_of_gov (gov_of_snd ht (checkFrame_gov ..)) h
  extract_lets r u
  split_ifs
  · exact fair_of_gov (evt_gov ..) hft
  · exact fair_of_gov (evt_gov ..) hft
  · exact engineRun_fair l _ (fair_of_gov (by simp [u]) hft)
  · exact hft

theorem applyEntries_fair {s : State} (m : Master) (l : List (Nat × Word)) (h : Fair s.gov) : Fair (s.applyEntries m l).gov :=
  foldl_fair (fun _ h => busWrite_fair m _ _ h) l h

theorem spiWriteWord_fair {s : State} (a : Nat) (b : List Byte) (h : Fair s.gov) : Fair (s.spiWriteWord a b).gov := by
  unfold State.spiWriteWord
  extract_lets o t
  have ht : Fair t.gov := by
    simp only [t]
    split_ifs
    · exact h
    · exact fair_of_gov (spiErr_gov s) h
  split_ifs
  · exact h
  · exact busWrite_fair _ _ _ ht
  · exact fair_of_gov (spiErr_gov s) h

theorem tick_fair {s : State} (h : Fair s.gov) : Fair s.tick.gov := by
  unfold State.tick
  extract_lets s1 s2 s3 s4
  have h4 : s4.gov = s.gov := (foldl_gov (fun _ _ => tempLost_gov ..) _ _).trans (by simp [s3, s2, s1])
  exact enginesRun_fair (fair_of_gov h4 h)

/-! ### Commands -/

/-- A command answers a next state with a fair ledger. -/
def AnswersFair (o : Host.Outcome State Fault Refusal) : Prop := ∃ t, o = .next t ∧ Fair t.gov

theorem answersFair_next {t : State} (h : Fair t.gov) : AnswersFair (.next t) := ⟨t, rfl, h⟩

theorem begin_fair {s : State} (h : Fair s.gov) : Fair s.begin.gov := fair_of_gov (begin_gov s) h

theorem answersFair_of_does {f : Foot} {s : State} {o : Host.Outcome State Fault Refusal} (hd : Does f s o) (ha : f.any = false)
    (hp : f.parts.contains Part.gov = false) (h : Fair s.gov) : AnswersFair o := by
  obtain ⟨t, ho, ht⟩ := hd
  exact ⟨t, ho, fair_of_gov (gov_of_fits ht ha hp) h⟩

/-- A write of one register by a master, after the start of the command. -/
theorem answersFair_masterWrite {s : State} (m : Master) (a : Nat) (v : Word) (h : Fair s.gov) :
    AnswersFair (.next (s.begin.masterWrite m a v)) := answersFair_next (masterWrite_fair m a v (begin_fair h))

section
variable {s : State} (h : Fair s.gov)
include h

theorem execPmicPgRise_fair (st : Straps) : AnswersFair (execPmicPgRise st s) := by
  refine answersFair_next (ite_fair ?_ (ite_fair (begin_fair h) (fair_of_gov ?_ h)))
  · exact fair_of_gov (holdPin_gov _) (coldReset_fair _ _ _)
  · simp

theorem execPgLoss_fair (rstLow : Bool) : AnswersFair (execPgLoss rstLow s) := by
  refine answersFair_next (ite_fair (begin_fair h) (ite_fair ?_ (coldReset_fair _ _ _)))
  exact fair_of_gov (put_gov ..) (coldReset_fair _ _ _)

theorem execSupplyLow_fair : AnswersFair (execSupplyLow s) :=
  answersFair_next (ite_fair (begin_fair h) (fair_of_gov (holdPin_gov _) (coldReset_fair _ _ _)))

omit h in
theorem execPor_fair : AnswersFair (execPor s) := answersFair_next (fair_of_gov (holdPin_gov _) (coldReset_fair _ _ _))

theorem execThmCritTrip_fair : AnswersFair (execThmCritTrip s) := by
  refine answersFair_next (ite_fair (begin_fair h) ?_)
  exact fair_of_gov (by simp) (coldReset_fair s.begin F.RST_CAUSE_THM_CRIT true)

theorem execRstNLow_fair : AnswersFair (execRstNLow s) := by
  have hput : Fair (s.begin.put F.RST_PIN_LEVEL 0).gov := fair_of_gov (put_gov ..) (begin_fair h)
  exact answersFair_next (ite_fair (begin_fair h) (ite_fair hput (fair_of_gov (withRst_gov ..) (warmReset_fair _ _ hput))))

theorem execRstCmdWrite_fair (m : Master) (v : Word) (st : Straps) : AnswersFair (execRstCmdWrite m v st s) := by
  have hw := masterWrite_fair m (pageAddr 0x02 0x44) v (begin_fair h)
  exact answersFair_next (ite_fair (fair_of_gov (setStraps_gov ..) hw) hw)

theorem execWdtAppExpiry_fair (st : Straps) : AnswersFair (execWdtAppExpiry st s) :=
  answersFair_next (ite_fair (warmReset_fair _ _ (fair_of_gov (setStraps_gov ..) (begin_fair h))) (begin_fair h))

theorem execBlkReset_fair (m : Master) (page : Nat) : AnswersFair (execBlkReset m page s) :=
  answersFair_next (masterWrite_fair m _ _ (begin_fair h))

theorem execWorkFrame_fair (l : Nat) (f : Wire) : AnswersFair (execWorkFrame l f s) := answersFair_next (receive_fair l f 1 (begin_fair h))

theorem execRegRead_fair (l : Nat) (f : Wire) : AnswersFair (execRegRead l f s) := answersFair_next (receive_fair l f 4 (begin_fair h))

theorem execRegWrite_fair (l : Nat) (f : Wire) : AnswersFair (execRegWrite l f s) := answersFair_next (receive_fair l f 4 (begin_fair h))

theorem execRegModify_fair (l : Nat) (f : Wire) : AnswersFair (execRegModify l f s) := answersFair_next (receive_fair l f 4 (begin_fair h))

theorem execPacketStore_fair (l copies : Nat) : AnswersFair (execPacketStore l copies s) := by
  have hs := fair_of_ledger (storeWaiting_ledger s.begin l copies) (begin_fair h)
  exact answersFair_next (ite_fair (ite_fair (engineRun_fair l _ hs) hs) (begin_fair h))

theorem execControlConsume_fair (parity : Bool) : AnswersFair (execControlConsume parity s) := by
  refine answersFair_next ?_
  split
  · exact begin_fair h
  · exact ite_fair (fair_of_gov (replay_gov ..) (begin_fair h)) (fair_of_gov (doneHead_gov ..) (applyEntries_fair _ _ (begin_fair h)))

theorem execProfileChange_fair : AnswersFair (execProfileChange s) := by
  refine answersFair_next ?_
  split
  · exact begin_fair h
  · refine ite_fair (begin_fair h) (ite_fair (fair_of_gov ?_ h) (ite_fair (fair_of_gov ?_ h) (warmReset_fair _ _ (fair_of_gov ?_ h)))) <;> simp

theorem execLatchPoint_fair : AnswersFair (execLatchPoint s) := by
  refine answersFair_next (ite_fair ?_ (begin_fair h))
  extract_lets s1 tln cmp s2 s3
  have h1 : Fair s1.gov := ite_fair (repeatFrame_fair _) (newFrame_fair _)
  have h4 : Fair s3.gov := fair_of_gov (by simp only [s3, s2, put_gov, withCmp_gov, withTln_gov]) h1
  exact ite_fair (fair_of_gov (deferFlip_gov ..) h4) h4

theorem execBandRelease_fair (k : Nat) (hit : Hit) : AnswersFair (execBandRelease k hit s) := by
  refine answersFair_next (ite_fair ?_ (begin_fair h))
  split
  rename_i bad t ht
  have hft : Fair t.gov := fair_of_gov (gov_of_snd ht (releaseChecks_gov ..)) (begin_fair h)
  exact releaseOne_fair _ _ _ (releaseOne_fair _ _ _ hft)

theorem execFlip_fair : AnswersFair (execFlip s) := by
  refine answersFair_next (ite_fair ?_ (begin_fair h))
  extract_lets t s1 s2 s3 s4 s5 s6 old s7 s8
  have h4 : s4.gov = s.gov := (foldl_gov (fun _ _ => fluxFrame_gov ..) _ _).trans (by simp only [s3, s2, s1, put_gov, inc_gov, begin_gov])
  have h5 : Fair s5.gov := fair_of_gov (lightFlip_gov _) (fair_of_ledger (govFlip_ledger ..) (fair_of_gov h4 h))
  have h8 : s8.gov = s5.gov := (foldl_gov (fun _ _ => laneFlip_gov ..) _ _).trans (by simp only [s7, withTln_gov, withCmp_gov])
  exact fair_of_gov (by simp [h8]) h5

theorem execFlintWdtExpiry_fair (st : Straps) : AnswersFair (execFlintWdtExpiry st s) :=
  answersFair_next (ite_fair (flintWdt_fair (fair_of_gov (setStraps_gov ..) (begin_fair h))) (begin_fair h))

theorem execDeepExit_fair (st : Straps) (t : Nat) : AnswersFair (execDeepExit st t s) := by
  refine answersFair_next (ite_fair ?_ (begin_fair h))
  extract_lets s1 late pin src s2 old s3
  have h3 : Fair s3.gov := fair_of_gov (withPwr_gov ..) (afterDeep_fair s1)
  exact ite_fair (fair_of_gov (by simp) (pinDeepReset_fair h3)) (fair_of_gov (by simp) h3)

theorem execBus_fair (write : Bool) (a : Nat) (v : Word) : AnswersFair (execBus write a v s) := by
  have ht : Fair s.begin.tapInstr.gov := fair_of_gov (by simp) h
  refine answersFair_next (ite_fair (ite_fair (ite_fair (busWrite_fair _ _ _ ht) ?_) ht) (begin_fair h))
  exact fair_of_gov (by simp) h

theorem execReset_fair (st : Straps) : AnswersFair (execReset st s) := by
  have ht : Fair s.begin.tapInstr.gov := fair_of_gov (by simp) h
  exact answersFair_next (ite_fair (ite_fair (warmReset_fair _ _ (fair_of_gov (setStraps_gov ..) ht)) ht) (begin_fair h))

theorem execLbistEnd_fair (misr : BitVec 64) : AnswersFair (execLbistEnd misr s) :=
  answersFair_next (ite_fair (lbFinish_fair _ (fair_of_gov (by simp) h)) (begin_fair h))

theorem execLbistTimeout_fair : AnswersFair (execLbistTimeout s) :=
  answersFair_next (ite_fair (lbFinish_fair _ (fair_of_gov (by simp) h)) (begin_fair h))

omit h in
/-- An UPDATE packet at the head is taken by f, replayed, or left. -/
theorem takeUpdate_fair {op : Nat} {parity : Bool} {f : Packet → State} {u : State} (hu : Fair u.gov) (hf : ∀ p, Fair (f p).gov) :
    Fair (u.takeUpdate op parity f).gov := by
  unfold State.takeUpdate
  split
  · exact hu
  · exact ite_fair hu (ite_fair (fair_of_gov (replay_gov ..) hu) (hf _))

theorem execUpdWrite_fair (parity : Bool) : AnswersFair (execUpdWrite parity s) :=
  answersFair_next (takeUpdate_fair (begin_fair h) (fun p => fair_of_ledger (updBlock_ledger _ p) (begin_fair h)))

theorem execUpdVerify_fair (parity : Bool) : AnswersFair (execUpdVerify parity s) := by
  refine answersFair_next (takeUpdate_fair (begin_fair h) (fun p => ?_))
  refine ite_fair (begin_fair h) (ite_fair (fair_of_ledger ?_ h) (fair_of_gov ?_ h)) <;> simp

theorem execVerifyDone_fair (sigOk : Bool) : AnswersFair (execVerifyDone sigOk s) := by
  refine answersFair_next ?_
  split
  · exact begin_fair h
  · extract_lets old s1
    split
    rename_i r t ht
    have hft : Fair t.gov := fair_of_gov ((gov_of_snd ht (checkSlot_gov ..)).trans (withUpd_gov ..)) (begin_fair h)
    extract_lets u
    have hfu : Fair u.gov := fair_of_ledger (toSlot_ledger ..) hft
    split
    · exact ite_fair (fair_of_gov (doneHead_gov ..) hfu) hfu
    · exact hfu

theorem execUpdActivate_fair (parity : Bool) : AnswersFair (execUpdActivate parity s) := by
  refine answersFair_next (takeUpdate_fair (begin_fair h) (fun p => ?_))
  extract_lets n ok t
  have ht : Fair t.gov := ite_fair (fair_of_ledger (by simp) h) (fair_of_gov (by simp) h)
  exact ite_fair (fair_of_gov (withUpd_gov ..) ht) ht

theorem execUpdConfirm_fair (parity : Bool) : AnswersFair (execUpdConfirm parity s) := by
  refine answersFair_next (takeUpdate_fair (begin_fair h) (fun p => ite_fair (fair_of_ledger ?_ h) (fair_of_gov ?_ h))) <;> simp

theorem execRestartReset_fair : AnswersFair (execRestartReset s) := by
  refine answersFair_next (ite_fair (warmReset_fair _ _ (ite_fair (fair_of_gov ?_ h) (begin_fair h))) (begin_fair h))
  simp

theorem execTrialTimeout_fair : AnswersFair (execTrialTimeout s) :=
  answersFair_next (ite_fair (warmReset_fair _ _ (begin_fair h)) (begin_fair h))

theorem execFuseLoad_fair (pmb : Bool) (badRows : List Nat) : AnswersFair (execFuseLoad pmb badRows s) := by
  refine answersFair_next (ite_fair ?_ (begin_fair h))
  extract_lets s1 s2
  have h2 : Fair s2.gov := fair_of_gov (by simp [s2, s1]) h
  exact ite_fair (fair_of_gov (by simp) h2) (ite_fair (bootStop_fair (fair_of_gov (endEntry_gov ..) h2)) (fair_of_gov (stepDone_gov ..) h2))

theorem execMbist_fair (fails : List Nat) : AnswersFair (execMbist fails s) := by
  refine answersFair_next (ite_fair (ite_fair (stepFails_fair _ (fair_of_gov ?_ h)) (fair_of_gov ?_ h)) (begin_fair h)) <;> simp

theorem execJournal_fair : AnswersFair (execJournal s) := by
  refine answersFair_next (ite_fair ?_ (begin_fair h))
  split
  rename_i fresh t ht
  have hft : Fair t.gov := fair_of_gov (gov_of_snd ht (openJournal_gov ..)) (begin_fair h)
  extract_lets s1 s2 s3 tries s4 s5 s6
  have h1 : Fair s1.gov := ite_fair hft (fair_of_gov (closeRecord_gov _) hft)
  have h3 : Fair s3.gov := fair_of_gov (by simp [s3, s2]) h1
  have h4 : Fair s4.gov := ite_fair (fair_of_ledger (journalCold_ledger _) h3) (ite_fair (fair_of_gov (journalDeep_gov _) h3) h3)
  have h6 : Fair s6.gov := fair_of_gov (by simp [s6, s5]) h4
  exact ite_fair (fair_of_gov (by simp) h6) (fair_of_gov (stepDone_gov ..) h6)

theorem execMainImage_fair (aOk bOk : Bool) : AnswersFair (execMainImage aOk bOk s) := by
  refine answersFair_next (ite_fair ?_ (begin_fair h))
  extract_lets s1
  have he : Fair s1.gov := fair_of_ledger (endTrial_ledger _) (begin_fair h)
  split
  · rename_i p _
    have ht := fair_of_ledger (tryPending_ledger s1 p aOk bOk) he
    exact ite_fair (fair_of_gov (bootMain_gov ..) ht) (mainActive_fair _ _ ht)
  · exact mainActive_fair _ _ he

theorem execGranite_fair (aOk bOk fuseOk : Bool) : AnswersFair (execGranite aOk bOk fuseOk s) := by
  refine answersFair_next (ite_fair ?_ (begin_fair h))
  split
  · refine ite_fair (begin_fair h) ?_
    split
    rename_i r t ht
    have hft : Fair t.gov := fair_of_gov (gov_of_snd ht (checkGranite_gov ..)) (begin_fair h)
    refine ite_fair ?_ (graniteBoot_fair _ _ (fair_of_ledger (toSlot_ledger ..) hft))
    exact graniteBoot_fair _ _ (fair_of_ledger (complete_ledger t _ fuseOk) hft)
  · exact graniteBoot_fair _ _ (begin_fair h)

theorem execSettings_fair (ok : Bool) : AnswersFair (execSettings ok s) := by
  refine answersFair_next (ite_fair (ite_fair (stepFails_fair _ (fair_of_gov (by simp) h)) (fair_of_gov (stepDone_gov ..) ?_)) (begin_fair h))
  split
  · exact ite_fair (ite_fair (fair_of_gov (by simp) h) (fair_of_gov (by simp) h)) (fair_of_gov (by simp) h)
  · exact fair_of_gov (by simp) h

theorem execProfile_fair (ok : Bool) : AnswersFair (execProfile ok s) := by
  refine answersFair_next (ite_fair (ite_fair (stepFails_fair _ (begin_fair h)) ?_) (begin_fair h))
  split
  rename_i r t ht
  have hft : Fair t.gov := fair_of_gov (gov_of_snd ht (tryProfile_gov ..)) (begin_fair h)
  exact ite_fair (fair_of_gov (stepDone_gov ..) hft) (stepFails_fair _ hft)

theorem execCalib_fair (ok : Bool) : AnswersFair (execCalib ok s) := by
  refine answersFair_next (ite_fair ?_ (begin_fair h))
  extract_lets s1
  have h1 : Fair s1.gov := fair_of_ledger (by simp [s1]) h
  refine ite_fair (fair_of_gov (by simp) h1) ?_
  split
  · exact ite_fair (fair_of_gov (calLoad_gov ..) h1) (stepFails_fair _ h1)
  · exact stepFails_fair _ h1

theorem execKernels_fair (ok : Bool) : AnswersFair (execKernels ok s) := by
  have hg : Fair s.begin.glareUp.gov := fair_of_gov (by simp) h
  refine answersFair_next (ite_fair (ite_fair (fair_of_gov (stepDone_gov ..) hg) ?_) (begin_fair h))
  split
  rename_i r t ht
  have hft : Fair t.gov := fair_of_gov (gov_of_snd ht (loadKernel_gov ..)) hg
  refine ite_fair ?_ (stepFails_fair _ (fair_of_gov (by simp) hft))
  exact ite_fair (stepFails_fair _ (fair_of_gov (by simp) hft)) (fair_of_gov (by simp) hft)

theorem execTiles_fair : AnswersFair (execTiles s) := by
  have ht : Fair s.begin.tilesUp.gov := fair_of_gov (by simp) h
  refine answersFair_next (ite_fair (ite_fair (fair_of_gov ?_ ht) ht) (begin_fair h))
  simp only [stepDone_gov, put_gov, tilesLeaveLoad_gov]
  exact foldl_gov tileCheck_gov _ _

theorem execFirstLight_fair : AnswersFair (execFirstLight s) := by
  refine answersFair_next (ite_fair ?_ (begin_fair h))
  extract_lets s1 s2 old s3
  have h3 : Fair s3.gov := fair_of_gov (by simp [s3, s2, s1]) h
  split
  · exact ite_fair (fair_of_gov (withUpd_gov ..) h3) (fair_of_ledger (confirm_ledger ..) h3)
  · exact h3

theorem execBootTimeout_fair (st : Straps) : AnswersFair (execBootTimeout st s) :=
  answersFair_next (ite_fair (warmReset_fair _ _ (fair_of_gov (setStraps_gov ..) (begin_fair h))) (begin_fair h))

theorem execSpiWrite_fair (a : Nat) (bytes : List Byte) : AnswersFair (execSpiWrite a bytes s) :=
  answersFair_next (ite_fair (foldl_fair (fun _ h => spiWriteWord_fair _ _ h) _ (begin_fair h)) (begin_fair h))

theorem execMemoryBistEnd_fair (fails : List Nat) (done : Bool) : AnswersFair (execMemoryBistEnd fails done s) := by
  refine answersFair_next (ite_fair ?_ (begin_fair h))
  extract_lets s1 s2 r s3 old s4
  have h2 : s2.gov = s.gov := by
    simp only [s2, evt_gov]
    split_ifs <;> simp [s1]
  refine warmReset_fair _ _ (fair_of_gov ?_ h)
  simp only [s4]
  split_ifs <;> simp [s3, h2]

theorem execMemoryWrite_fair (m : Master) (a : Nat) (bytes : List Byte) : AnswersFair (execMemoryWrite m a bytes s) :=
  answersFair_next (ite_fair (busWrite_fair _ _ _ (begin_fair h)) (begin_fair h))

theorem execGraniteCopyDone_fair : AnswersFair (execGraniteCopyDone s) := by
  refine answersFair_next ?_
  split
  · refine ite_fair (fair_of_ledger (v := s.gov) ?_ h) (begin_fair h)
    rw [toSlot_ledger, setBytes_gov]
    rfl
  · exact begin_fair h

end

/-- Every command keeps a fair ledger: those whose footprint leaves out the Governor, and each of the others by its own lemma. -/
theorem exec_fair (c : Instr) {s : State} (h : Fair s.gov) : AnswersFair (exec c s) :=
  match c with
  | .pmicPgRise st => execPmicPgRise_fair h st
  | .pgLoss rstLow => execPgLoss_fair h rstLow
  | .supplyLow => execSupplyLow_fair h
  | .por => execPor_fair
  | .thmCritTrip => execThmCritTrip_fair h
  | .thmCritRelease st => answersFair_of_does (execThmCritRelease_fits st s) rfl rfl h
  | .rstNLow => execRstNLow_fair h
  | .rstNRelease st => answersFair_of_does (execRstNRelease_fits st s) rfl rfl h
  | .pinDeep => answersFair_of_does (execPinDeep_fits s) rfl rfl h
  | .rstStuckTimeout st => answersFair_of_does (execRstStuckTimeout_fits st s) rfl rfl h
  | .stuckIgnoreEnd => answersFair_of_does (execStuckIgnoreEnd_fits s) rfl rfl h
  | .rstCmdWrite m v st => execRstCmdWrite_fair h m v st
  | .wdtAppEnable m v => answersFair_masterWrite m _ v h
  | .wdtKick m v => answersFair_masterWrite m _ v h
  | .wdtAppExpiry st => execWdtAppExpiry_fair h st
  | .blkReset m page => execBlkReset_fair h m page
  | .blockResetEnd page => answersFair_of_does (execBlockResetEnd_fits page s) rfl rfl h
  | .quiescenceEnd page => answersFair_of_does (execQuiescenceEnd_fits page s) rfl rfl h
  | .rcStart fail => answersFair_of_does (execRcStart_fits fail s) rfl rfl h
  | .rcRetry => answersFair_of_does (execRcRetry_fits s) rfl rfl h
  | .refCdrLock => answersFair_of_does (execRefCdrLock_fits s) rfl rfl h
  | .acqTmoExpiry => answersFair_of_does (execAcqTmoExpiry_fits s) rfl rfl h
  | .rootLoopLock => answersFair_of_does (execRootLoopLock_fits s) rfl rfl h
  | .acquireTimeout => answersFair_of_does (execAcquireTimeout_fits s) rfl rfl h
  | .dividersRunning => answersFair_of_does (execDividersRunning_fits s) rfl rfl h
  | .referenceLoss => answersFair_of_does (execReferenceLoss_fits s) rfl rfl h
  | .clkRefCmd m v => answersFair_masterWrite m _ v h
  | .linkEligible => answersFair_of_does (execLinkEligible_fits s) rfl rfl h
  | .freqWindowEnd l ppm => answersFair_of_does (execFreqWindowEnd_fits l ppm s) rfl rfl h
  | .muxSwitch wait => answersFair_of_does (execMuxSwitch_fits wait s) rfl rfl h
  | .forcedSwitch => answersFair_of_does (execForcedSwitch_fits s) rfl rfl h
  | .slewLock => answersFair_of_does (execSlewLock_fits s) rfl rfl h
  | .holdoverExpiry => answersFair_of_does (execHoldoverExpiry_fits s) rfl rfl h
  | .stoppingGate => answersFair_of_does (execStoppingGate_fits s) rfl rfl h
  | .monitorWindowEnd lane pix core peri hk => answersFair_of_does (execMonitorWindowEnd_fits lane pix core peri hk s) rfl rfl h
  | .rcCheckWindowEnd count => answersFair_of_does (execRcCheckWindowEnd_fits count s) rfl rfl h
  | .signalDetect l => answersFair_of_does (execSignalDetect_fits l s) rfl rfl h
  | .cdrLock l => answersFair_of_does (execCdrLock_fits l s) rfl rfl h
  | .cdrLockTimeout l => answersFair_of_does (execCdrLockTimeout_fits l s) rfl rfl h
  | .commaAlign l => answersFair_of_does (execCommaAlign_fits l s) rfl rfl h
  | .trainingDone l => answersFair_of_does (execTrainingDone_fits l s) rfl rfl h
  | .trainingTimeout l => answersFair_of_does (execTrainingTimeout_fits l s) rfl rfl h
  | .tsReceived l => answersFair_of_does (execTsReceived_fits l s) rfl rfl h
  | .alignmentLoss l => answersFair_of_does (execAlignmentLoss_fits l s) rfl rfl h
  | .lossOfSignal l => answersFair_of_does (execLossOfSignal_fits l s) rfl rfl h
  | .cdrLossOfLock l => answersFair_of_does (execCdrLossOfLock_fits l s) rfl rfl h
  | .skp l fill => answersFair_of_does (execSkp_fits l fill s) rfl rfl h
  | .ltm l dly => answersFair_of_does (execLtm_fits l dly s) rfl rfl h
  | .lctlTime l f => answersFair_of_does (execLctlTime_fits l f s) rfl rfl h
  | .lctlWake l f => answersFair_of_does (execLctlWake_fits l f s) rfl rfl h
  | .workFrame l f => execWorkFrame_fair h l f
  | .resume l => answersFair_of_does (execResume_fits l s) rfl rfl h
  | .packetStore l copies => execPacketStore_fair h l copies
  | .storeTimeout l => answersFair_of_does (execStoreTimeout_fits l s) rfl rfl h
  | .gapHoldExpiry l ch => answersFair_of_does (execGapHoldExpiry_fits l ch s) rfl rfl h
  | .doneFrame ch copies => answersFair_of_does (execDoneFrame_fits ch copies s) rfl rfl h
  | .controlConsume parity => execControlConsume_fair h parity
  | .layerConsume parity => answersFair_of_does (execLayerConsume_fits parity s) rfl rfl h
  | .regRead l f => execRegRead_fair h l f
  | .regWrite l f => execRegWrite_fair h l f
  | .regModify l f => execRegModify_fair h l f
  | .statusFrame l => answersFair_of_does (execStatusFrame_fits l s) rfl rfl h
  | .devStatus => answersFair_of_does (execDevStatus_fits s) rfl rfl h
  | .ltValidTimeout => answersFair_of_does (execLtValidTimeout_fits s) rfl rfl h
  | .safeFrame l f => answersFair_of_does (execSafeFrame_fits l f s) rfl rfl h
  | .pendingExpiry l => answersFair_of_does (execPendingExpiry_fits l s) rfl rfl h
  | .csfStaleTimeout => answersFair_of_does (execCsfStaleTimeout_fits s) rfl rfl h
  | .profileChange => execProfileChange_fair h
  | .sideTrainingDone => answersFair_of_does (execSideTrainingDone_fits s) rfl rfl h
  | .phaseFrame f => answersFair_of_does (execPhaseFrame_fits f s) rfl rfl h
  | .seamFrame f => answersFair_of_does (execSeamFrame_fits f s) rfl rfl h
  | .sstatFrame f => answersFair_of_does (execSstatFrame_fits f s) rfl rfl h
  | .sideRxTimeout => answersFair_of_does (execSideRxTimeout_fits s) rfl rfl h
  | .sstatSend => answersFair_of_does (execSstatSend_fits s) rfl rfl h
  | .latchPoint => execLatchPoint_fair h
  | .bandSlot k bad => answersFair_of_does (execBandSlot_fits k bad s) rfl rfl h
  | .bandRelease k hit => execBandRelease_fair h k hit
  | .regionPush n => answersFair_of_does (execRegionPush_fits n s) rfl rfl h
  | .regionRecompute bad => answersFair_of_does (execRegionRecompute_fits bad s) rfl rfl h
  | .reportTimeout n => answersFair_of_does (execReportTimeout_fits n s) rfl rfl h
  | .pushDeadline => answersFair_of_does (execPushDeadline_fits s) rfl rfl h
  | .flipCommit => answersFair_of_does (execFlipCommit_fits s) rfl rfl h
  | .flip => execFlip_fair h
  | .objectCutoff parity => answersFair_of_does (execObjectCutoff_fits parity s) rfl rfl h
  | .kernelBandRender n b cycles band parity => answersFair_of_does (execKernelBandRender_fits n b cycles band parity s) rfl rfl h
  | .kernelOverrun n b window parity => answersFair_of_does (execKernelOverrun_fits n b window parity s) rfl rfl h
  | .glrKload m v => answersFair_masterWrite m _ v h
  | .kernelVerifyDone slot sigOk => answersFair_of_does (execKernelVerifyDone_fits slot sigOk s) rfl rfl h
  | .lightSleepEntry bank => answersFair_of_does (execLightSleepEntry_fits bank s) rfl rfl h
  | .lightSleepWake bank access => answersFair_of_does (execLightSleepWake_fits bank access s) rfl rfl h
  | .digestCheck ok ecc => answersFair_of_does (execDigestCheck_fits ok ecc s) rfl rfl h
  | .interpCmd m v => answersFair_masterWrite m _ v h
  | .interpDone tile => answersFair_of_does (execInterpDone_fits tile s) rfl rfl h
  | .trimCmd m v => answersFair_masterWrite m _ v h
  | .trimDone codes => answersFair_of_does (execTrimDone_fits codes s) rfl rfl h
  | .fluxRecordWrite => answersFair_of_does (execFluxRecordWrite_fits s) rfl rfl h
  | .tsbRound slots readback start => answersFair_of_does (execTsbRound_fits slots readback start s) rfl rfl h
  | .assignTimeout n => answersFair_of_does (execAssignTimeout_fits n s) rfl rfl h
  | .tsbStatus n w => answersFair_of_does (execTsbStatus_fits n w s) rfl rfl h
  | .tsbUidLo n w => answersFair_of_does (execTsbUidLo_fits n w s) rfl rfl h
  | .tsbUidHi n w => answersFair_of_does (execTsbUidHi_fits n w s) rfl rfl h
  | .tsbCap n w => answersFair_of_does (execTsbCap_fits n w s) rfl rfl h
  | .identTimeout n => answersFair_of_does (execIdentTimeout_fits n s) rfl rfl h
  | .laneSerialiserReady n => answersFair_of_does (execLaneSerialiserReady_fits n s) rfl rfl h
  | .laneTrainDone n => answersFair_of_does (execLaneTrainDone_fits n s) rfl rfl h
  | .laneScheduledWake => answersFair_of_does (execLaneScheduledWake_fits s) rfl rfl h
  | .laneDead n => answersFair_of_does (execLaneDead_fits n s) rfl rfl h
  | .tempInvalidTimeout n => answersFair_of_does (execTempInvalidTimeout_fits n s) rfl rfl h
  | .coolDownComplete n => answersFair_of_does (execCoolDownComplete_fits n s) rfl rfl h
  | .fsyncEdge => answersFair_of_does (execFsyncEdge_fits s) rfl rfl h
  | .fsyncLost => answersFair_of_does (execFsyncLost_fits s) rfl rfl h
  | .segIdent a => answersFair_of_does (execSegIdent_fits a s) rfl rfl h
  | .segConfig a => answersFair_of_does (execSegConfig_fits a s) rfl rfl h
  | .segSet a readback => answersFair_of_does (execSegSet_fits a readback s) rfl rfl h
  | .segPoll a readback => answersFair_of_does (execSegPoll_fits a readback s) rfl rfl h
  | .segLatch readback => answersFair_of_does (execSegLatch_fits readback s) rfl rfl h
  | .segAllOff => answersFair_of_does (execSegAllOff_fits s) rfl rfl h
  | .segResponse bytes => answersFair_of_does (execSegResponse_fits bytes s) rfl rfl h
  | .segResponseTimeout => answersFair_of_does (execSegResponseTimeout_fits s) rfl rfl h
  | .scanRowSlot => answersFair_of_does (execScanRowSlot_fits s) rfl rfl h
  | .sinFilterExpiry n b => answersFair_of_does (execSinFilterExpiry_fits n b s) rfl rfl h
  | .sinHealthyFilter n => answersFair_of_does (execSinHealthyFilter_fits n s) rfl rfl h
  | .sinDiscrepancyTimeout n => answersFair_of_does (execSinDiscrepancyTimeout_fits n s) rfl rfl h
  | .testPulseStart n levels => answersFair_of_does (execTestPulseStart_fits n levels s) rfl rfl h
  | .testPulseEnd levels => answersFair_of_does (execTestPulseEnd_fits levels s) rfl rfl h
  | .offPulseStart k => answersFair_of_does (execOffPulseStart_fits k s) rfl rfl h
  | .offPulseEnd k rb => answersFair_of_does (execOffPulseEnd_fits k rb s) rfl rfl h
  | .soutReadbackFault k rb => answersFair_of_does (execSoutReadbackFault_fits k rb s) rfl rfl h
  | .soutFaultClear k => answersFair_of_does (execSoutFaultClear_fits k s) rfl rfl h
  | .tilePowerUp k => answersFair_of_does (execTilePowerUp_fits k s) rfl rfl h
  | .flintEvaluation => answersFair_of_does (execFlintEvaluation_fits s) rfl rfl h
  | .safReact m v => answersFair_masterWrite m _ v h
  | .safUnlock m v => answersFair_masterWrite m _ v h
  | .flintWdtKick m v => answersFair_masterWrite m _ v h
  | .flintWdtExpiry st => execFlintWdtExpiry_fair h st
  | .lockstepMismatch => answersFair_of_does (execLockstepMismatch_fits s) rfl rfl h
  | .fokReadbackMismatch => answersFair_of_does (execFokReadbackMismatch_fits s) rfl rfl h
  | .faultAck m _ v => answersFair_masterWrite m _ v h
  | .faultClear m _ v => answersFair_masterWrite m _ v h
  | .injectArm m v => answersFair_masterWrite m _ v h
  | .injectCancel m v => answersFair_masterWrite m _ v h
  | .trackerClose => answersFair_of_does (execTrackerClose_fits s) rfl rfl h
  | .recordWrite => answersFair_of_does (execRecordWrite_fits s) rfl rfl h
  | .mirrorPageWrite ok => answersFair_of_does (execMirrorPageWrite_fits ok s) rfl rfl h
  | .checkpoint => answersFair_of_does (execCheckpoint_fits s) rfl rfl h
  | .checkpointFlash => answersFair_of_does (execCheckpointFlash_fits s) rfl rfl h
  | .attestCommit m => answersFair_masterWrite m _ _ h
  | .recordRead m v => answersFair_masterWrite m _ v h
  | .housekeepingRoundStart => answersFair_of_does (execHousekeepingRoundStart_fits s) rfl rfl h
  | .housekeepingRoundEnd codes => answersFair_of_does (execHousekeepingRoundEnd_fits codes s) rfl rfl h
  | .roundTimeout => answersFair_of_does (execRoundTimeout_fits s) rfl rfl h
  | .pwrReqIdle m v => answersFair_masterWrite m _ v h
  | .idleWake => answersFair_of_does (execIdleWake_fits s) rfl rfl h
  | .pwrReqSleep m v => answersFair_masterWrite m _ v h
  | .pwrReqDeep m v => answersFair_masterWrite m _ v h
  | .pwrReqOff m v => answersFair_masterWrite m _ v h
  | .flintPrepConfirm lyOk => answersFair_of_does (execFlintPrepConfirm_fits lyOk s) rfl rfl h
  | .prepTimeout => answersFair_of_does (execPrepTimeout_fits s) rfl rfl h
  | .pmicAck t => answersFair_of_does (execPmicAck_fits t s) rfl rfl h
  | .ackTimeout => answersFair_of_does (execAckTimeout_fits s) rfl rfl h
  | .deepExit st t => execDeepExit_fair h st t
  | .wakeRequest => answersFair_of_does (execWakeRequest_fits s) rfl rfl h
  | .wakeTimer => answersFair_of_does (execWakeTimer_fits s) rfl rfl h
  | .pmbAlert word ok => answersFair_of_does (execPmbAlert_fits word ok s) rfl rfl h
  | .pmbStatusPoll word ok => answersFair_of_does (execPmbStatusPoll_fits word ok s) rfl rfl h
  | .padRelease m v => answersFair_masterWrite m _ v h
  | .idcode => answersFair_of_does (execIdcode_fits s) rfl rfl h
  | .samplePreload bits => answersFair_of_does (execSamplePreload_fits bits s) rfl rfl h
  | .extest => answersFair_of_does (execExtest_fits s) rfl rfl h
  | .authNonce => answersFair_of_does (execAuthNonce_fits s) rfl rfl h
  | .authResp resp => answersFair_of_does (execAuthResp_fits resp s) rfl rfl h
  | .authCheckDone sigOk => answersFair_of_does (execAuthCheckDone_fits sigOk s) rfl rfl h
  | .authStat => answersFair_of_does (execAuthStat_fits s) rfl rfl h
  | .rcStat => answersFair_of_does (execRcStat_fits s) rfl rfl h
  | .bus write a v => execBus_fair h write a v
  | .scan => answersFair_of_does (execScan_fits s) rfl rfl h
  | .reset st => execReset_fair h st
  | .bypass => answersFair_of_does (execBypass_fits s) rfl rfl h
  | .trstNLow => answersFair_of_does (execTrstNLow_fits s) rfl rfl h
  | .nonceExpiry => answersFair_of_does (execNonceExpiry_fits s) rfl rfl h
  | .worldWrite m _ v => answersFair_masterWrite m _ v h
  | .lcRequest m v => answersFair_masterWrite m _ v h
  | .secretClearDone ok => answersFair_of_does (execSecretClearDone_fits ok s) rfl rfl h
  | .lbistStart m v => answersFair_masterWrite m _ v h
  | .lbistEnd misr => execLbistEnd_fair h misr
  | .lbistTimeout => execLbistTimeout_fair h
  | .mbistRequest m v => answersFair_masterWrite m _ v h
  | .fuseProgram m v => answersFair_masterWrite m _ v h
  | .fuseProgramDone ok => answersFair_of_does (execFuseProgramDone_fits ok s) rfl rfl h
  | .updWrite parity => execUpdWrite_fair h parity
  | .updVerify parity => execUpdVerify_fair h parity
  | .verifyDone sigOk => execVerifyDone_fair h sigOk
  | .updActivate parity => execUpdActivate_fair h parity
  | .restartReset => execRestartReset_fair h
  | .updConfirm parity => execUpdConfirm_fair h parity
  | .trialTimeout => execTrialTimeout_fair h
  | .fuseLoad pmb badRows => execFuseLoad_fair h pmb badRows
  | .mbist fails => execMbist_fair h fails
  | .journal => execJournal_fair h
  | .mainImage aOk bOk => execMainImage_fair h aOk bOk
  | .granite aOk bOk fuseOk => execGranite_fair h aOk bOk fuseOk
  | .settings ok => execSettings_fair h ok
  | .profile ok => execProfile_fair h ok
  | .calib ok => execCalib_fair h ok
  | .kernels ok => execKernels_fair h ok
  | .links copies => answersFair_of_does (execLinks_fits copies s) rfl rfl h
  | .tiles => execTiles_fair h
  | .safeReady => answersFair_of_does (execSafeReady_fits s) rfl rfl h
  | .firstLight => execFirstLight_fair h
  | .bootTimeout st => execBootTimeout_fair h st
  | .epochSave => answersFair_of_does (execEpochSave_fits s) rfl rfl h
  | .clrAvoid m v => answersFair_masterWrite m _ v h
  | .mirrorNow m v => answersFair_masterWrite m _ v h
  | .unitCommit m _ v => answersFair_masterWrite m _ v h
  | .discard m _ v => answersFair_masterWrite m _ v h
  | .registerWrite m _ v => answersFair_masterWrite m _ v h
  | .spiStatus => answersFair_of_does (execSpiStatus_fits s) rfl rfl h
  | .spiRead a n => answersFair_of_does (execSpiRead_fits a n s) rfl rfl h
  | .spiWrite a bytes => execSpiWrite_fair h a bytes
  | .pktWrite len bytes crc => answersFair_of_does (execPktWrite_fits len bytes crc s) rfl rfl h
  | .rspRead => answersFair_of_does (execRspRead_fits s) rfl rfl h
  | .testModeHigh => answersFair_of_does (execTestModeHigh_fits s) rfl rfl h
  | .memoryBistEnd fails done => execMemoryBistEnd_fair h fails done
  | .wakeRelease => answersFair_of_does (execWakeRelease_fits s) rfl rfl h
  | .registerRead m a size ecc => answersFair_of_does (execRegisterRead_fits m a size ecc s) rfl rfl h
  | .memoryWrite m a bytes => execMemoryWrite_fair h m a bytes
  | .graniteCopyDone => execGraniteCopyDone_fair h

/-- Settles O25: a cycle keeps a fair ledger (tick_fair) and so does every command (exec_fair); the clamp rests on bandFactor_le. -/
theorem governorNeverExceeds : Obligations.GovernorNeverExceeds := by
  unfold Obligations.GovernorNeverExceeds
  intro s t hst h
  rcases hp : s.pending with _ | ⟨c, rest⟩
  · obtain rfl : s.tick = t := by simpa [step, hp] using hst
    exact tick_fair h
  · obtain ⟨u, hu, hfair⟩ := exec_fair c (s := s.popped rest) h
    obtain rfl : u = t := by simpa [step, hp, hu] using hst
    exact hfair

end Sys2Proof.Proofs.GovernorSums
end

section
/-! PROOF. How fields and parts are read off a chain of updates: the rules that the proofs about single commands share. -/

namespace Sys2Proof.Proofs.Reading

open Sys2Proof.Machine Sys2Proof.Laws Sys2Proof.Proofs.GovernorSums Sys2Proof.Proofs.Architecture

variable {s t : State} {f x : Fld} {fs : List Fld} {ps : List Part}

/-! ### Fields -/

/-- A field reads as the value that was put, where the value fits. -/
theorem g_put_self {v : Nat} (hh : f.hi < 32) (hl : f.lo ≤ f.hi) (hv : v < 2 ^ (f.hi + 1 - f.lo)) : (s.put f v).g f = v :=
  (g_put_same s f v hh hl).trans (Nat.mod_eq_of_lt hv)

theorem on_put_zero (hh : f.hi < 32) (hl : f.lo ≤ f.hi) : (s.put f 0).on f = false := by
  simp [State.on, g_put_same s f 0 hh hl]

theorem on_eq_true_iff : s.on f = true ↔ s.g f = 1 := by simp [State.on]

theorem on_congr (h : t.g f = s.g f) : t.on f = s.on f := by simp only [State.on, h]

theorem on_evt_other (h : f.hi < 32) (ha : f.apart x = true) (hq : (F.UNIT_IRQ_STAT_EVT f.page).apart x = true) : (s.evt f).on x = s.on x :=
  on_congr (g_evt_other s f x h ha hq)

/-- A counter that saturates reads one more, or its top. -/
theorem g_incSat (hh : f.hi < 32) (hl : f.lo ≤ f.hi) (hb : s.g f ≤ f.top) : (s.incSat f).g f = min f.top (s.g f + 1) := by
  unfold State.incSat
  have hp : 0 < 2 ^ (f.hi + 1 - f.lo) := Nat.two_pow_pos _
  split_ifs with h
  · rw [g_put_self hh hl (by simp only [Fld.top] at h; omega)]
    omega
  · omega

/-- A field reads no more than its top. -/
theorem g_le_top (s : State) (f : Fld) : s.g f ≤ f.top := by
  have hlt : s.g f < 2 ^ (f.hi + 1 - f.lo) := Nat.mod_lt _ (Nat.two_pow_pos _)
  simp only [Fld.top]
  omega

/-- A field of one bit reads 0 or 1. -/
theorem on_eq_false_iff (hl : f.lo = f.hi) : s.on f = false ↔ s.g f = 0 := by
  have htop := g_le_top s f
  simp only [Fld.top, hl, Nat.add_sub_cancel_left] at htop
  simp [State.on]
  omega

/-! ### Fields by their place

A field of a numbered page stands on a page that depends on the number, but its offset and its bits do not: `sep` evaluates for every
number, where `Fld.apart` waits for the page. -/

/-- Two fields apart by offset, by bits or else by page, the first within a word. -/
def sep (f x : Fld) : Bool :=
  decide (f.hi < 32) && (!(f.off % 4096 == x.off % 4096) || decide (x.hi < f.lo) || decide (f.hi < x.lo) || !(f.page == x.page))

theorem sep_hi (h : sep f x = true) : f.hi < 32 := by
  simp only [sep, Bool.and_eq_true, decide_eq_true_eq] at h
  exact h.1

theorem sep_apart (h : sep f x = true) : f.apart x = true := by
  simp only [sep, Bool.and_eq_true, Bool.or_eq_true, decide_eq_true_eq, Bool.not_eq_true', beq_eq_false_iff_ne, ne_eq] at h
  simp only [Fld.apart, Fld.addr, Bool.or_eq_true, decide_eq_true_eq]
  rcases h with ⟨-, ((h | h) | h) | h⟩
  · exact .inl (.inl (decide_eq_true (by omega)))
  · exact .inl (.inr h)
  · exact .inr h
  · exact .inl (.inl (decide_eq_true (by omega)))

theorem g_put_sep (s : State) (v : Nat) (h : sep f x = true) : (s.put f v).g x = s.g x := g_put_other _ _ _ _ (sep_hi h) (sep_apart h)

theorem on_put_sep (s : State) (v : Nat) (h : sep f x = true) : (s.put f v).on x = s.on x := on_put_other _ _ _ _ (sep_hi h) (sep_apart h)

theorem g_evt_sep (s : State) (h : sep f x = true) (hq : sep (F.UNIT_IRQ_STAT_EVT f.page) x = true) : (s.evt f).g x = s.g x :=
  g_evt_other _ _ _ (sep_hi h) (sep_apart h) (sep_apart hq)

theorem on_evt_sep (s : State) (h : sep f x = true) (hq : sep (F.UNIT_IRQ_STAT_EVT f.page) x = true) : (s.evt f).on x = s.on x :=
  on_congr (g_evt_sep s h hq)

theorem g_incSat_sep (s : State) (h : sep f x = true) : (s.incSat f).g x = s.g x := g_incSat_other _ _ _ (sep_hi h) (sep_apart h)

theorem on_incSat_sep (s : State) (h : sep f x = true) : (s.incSat f).on x = s.on x := on_congr (g_incSat_sep s h)

/-- A value within a field. -/
def room (f : Fld) (v : Nat) : Bool := decide (f.hi < 32) && decide (f.lo ≤ f.hi) && decide (v < 2 ^ (f.hi + 1 - f.lo))

theorem g_put_room (s : State) {v : Nat} (h : room f v = true) : (s.put f v).g f = v := by
  simp only [room, Bool.and_eq_true, decide_eq_true_eq] at h
  obtain ⟨⟨hh, hl⟩, hv⟩ := h
  exact g_put_self hh hl hv

theorem on_put_set (s : State) (h : room f 1 = true) : (s.put f 1).on f = true := on_eq_true_iff.2 (g_put_room s h)

theorem on_put_clear (s : State) (h : room f 0 = true) : (s.put f 0).on f = false := by
  simp [State.on, g_put_room s h]

/-- One bit of a word. -/
def oneBit (f : Fld) : Bool := decide (f.hi < 32) && f.lo == f.hi && sep (F.UNIT_IRQ_STAT_EVT f.page) f

theorem on_evt_self (s : State) (h : oneBit f = true) : (s.evt f).on f = true := by
  simp only [oneBit, Bool.and_eq_true, decide_eq_true_eq, beq_iff_eq] at h
  obtain ⟨⟨hh, hl⟩, hq⟩ := h
  exact evt_on s f hh hl (sep_apart hq)

/-! ### What a fine frame says of one field and one part -/

theorem only_g (h : s.Only fs ps t) (hx : clear fs x = true) : t.g x = s.g x := h.fields x (fun _ hf => clear_apart hx hf)

theorem only_on (h : s.Only fs ps t) (hx : clear fs x = true) : t.on x = s.on x := on_congr (only_g h hx)

/-- A field that both branches leave as it was. -/
theorem ite_g {c : Prop} [Decidable c] {u : State} (h : c → t.g x = s.g x) (k : ¬ c → u.g x = s.g x) : (if c then t else u).g x = s.g x := by
  split_ifs with hc
  · exact h hc
  · exact k hc

theorem only_trans {u : State} (h : s.Only fs ps t) (k : t.Only fs ps u) : s.Only fs ps u :=
  ⟨fun g hg => (k.fields g hg).trans (h.fields g hg), partsWithin_trans h.parts k.parts⟩

theorem only_mono {fs' : List Fld} {ps' : List Part} (hf : fs ⊆ fs') (hp : ps ⊆ ps') (h : s.Only fs ps t) : s.Only fs' ps' t :=
  ⟨fun g hg => h.fields g (fun f m => hg f (hf m)), partsWithin_mono (f := Foot.of [] ps) (g := Foot.of [] ps') (fun _ m => hp m) h.parts⟩

/-- After what lies within a fine frame, an operation with a fine frame of its own inside it. -/
theorem only_app {u : State} {fs' : List Fld} {ps' : List Part} (hf : fs' ⊆ fs) (hp : ps' ⊆ ps) (k : t.Only fs' ps' u) (h : s.Only fs ps t) :
    s.Only fs ps u := only_trans h (only_mono hf hp k)

theorem only_ite {c : Prop} [Decidable c] {u : State} (h : c → s.Only fs ps t) (k : ¬ c → s.Only fs ps u) :
    s.Only fs ps (if c then t else u) := by
  split_ifs with hc
  · exact h hc
  · exact k hc

/-! ### Commits that land: only the RWC bits of a register move -/

/-- A field whose bits are none of the mask's reads the same after the mask's bits have been replaced. -/
theorem wordField_merge {w v m : Word} {hi lo : Nat} (hh : hi < 32) (hm : m &&& fieldMask hi lo = 0) :
    wordField ((w &&& ~~~m) ||| (v &&& m)) hi lo = wordField w hi lo := by
  apply Nat.eq_of_testBit_eq
  intro i
  rw [wordField_bit, wordField_bit]
  by_cases hi' : i < hi + 1 - lo
  · have hbit : (m &&& fieldMask hi lo).getLsbD (lo + i) = false := by simp [hm]
    have hmask : (fieldMask hi lo).getLsbD (lo + i) = true := by
      rw [fieldMask_bit _ _ _ hh]
      simp
      omega
    have hmi : m.getLsbD (lo + i) = false := by simpa [BitVec.getLsbD_and, hmask] using hbit
    have hlt : lo + i < 32 := by omega
    simp only [BitVec.getLsbD_or, BitVec.getLsbD_and, BitVec.getLsbD_not, hmi, hlt, decide_true, Bool.not_false,
      Bool.and_true, Bool.and_false, Bool.or_false]
  · simp [hi']

/-- No bit of a field is taken by a commit. -/
def uncommitted (x : Fld) : Bool := decide (x.hi < 32) && decide (accMask .rwc x.addr &&& fieldMask x.hi x.lo = 0)

theorem land_g (s : State) (bank : List (Nat × Word)) (p : Nat) (hx : uncommitted x = true) : (s.land bank p).g x = s.g x := by
  obtain ⟨hh, hm⟩ : x.hi < 32 ∧ accMask .rwc x.addr &&& fieldMask x.hi x.lo = 0 := by simpa [uncommitted] using hx
  refine List.foldlRecOn (motive := fun t : State => t.g x = s.g x) (s.keys bank p) _ rfl (fun t ht a _ => ?_)
  by_cases ha : x.addr = a
  · subst ha
    simpa only [State.g, word_setWord_same, wordField_merge hh hm] using ht
  · simpa only [State.g, word_setWord_other t _ ha] using ht

theorem apply_g (s : State) (p : Nat) (hx : uncommitted x = true) : (s.apply p).g x = s.g x := by
  unfold State.apply
  split_ifs
  · exact land_g s s.pend p hx
  · rfl

/-! ### Writes to a page -/

/-- A write that the fabric lets through to a page that neither Flint alone nor a self-test run holds. -/
theorem masterWrite_special {m : Master} {p off : Nat} (v : Word) (hm : s.masterRuns m = true) (hw : s.mayWrite m p off = true)
    (hp : p < 0x8D) (ha : assigned p = true) (ho : off < 4096) (h4 : off % 4 = 0) (hsaf : p ≠ 0x68) (hgov : p ≠ 0x40) (hbst : p ≠ 0x79) :
    s.masterWrite m (pageAddr p off) v = s.specialA m p off v := by
  have hrun : ¬ (decide (p = 0x79) && s.bistRuns) = true := by simp [hbst]
  have hflint : ¬ (decide (p = 0x68) || decide (p = 0x40)) = true := by simp [hsaf, hgov]
  exact (masterWrite_page v hm hw hp ha ho h4).trans ((if_neg hrun).trans (if_neg hflint))

/-! ### Footprints -/

/-- The start of a command lies in every reaction, and in every footprint with the parts that it touches. -/
theorem begin_within {g : Foot} (h : (Foot.of [] [.flt, .saf]).le g = true) (s : State) : s.Within g s.begin :=
  (begin_fits s h (fits_refl _ s)).within

/-- A fold of operations that each leave a field as it was leaves it as it was. -/
theorem foldl_g {α : Type} {h : State → α → State} (hh : ∀ u a, (h u a).g x = u.g x) (l : List α) (s : State) : (l.foldl h s).g x = s.g x :=
  List.foldlRecOn (motive := fun u : State => u.g x = s.g x) l h rfl (fun u hu a _ => (hh u a).trans hu)

/-- A field of a unit that an operation's footprint leaves out. -/
theorem fits_g {g : Foot} (h : s.Fits g t) (ha : g.any = false) (hu : g.units.contains (groupPage x.page) = false) : t.g x = s.g x :=
  within_g h.within ha x hu

/-- The level that a fault has by its class or its setting, after an operation that leaves FLT. -/
theorem fits_defLevel {g : Foot} (h : s.Fits g t) (ha : g.any = false) (hu : g.units.contains 0x70 = false) (i : Nat) :
    t.defLevel i = s.defLevel i := by
  rw [State.defLevel, State.defLevel, on_congr (fits_g h ha (x := F.FLT_CTRL_MODE) hu), fits_g h ha (x := fltSev i) hu]

/-! ### Faults and the lock-out -/

/-- A fault but for the trigger that level 3 takes. -/
theorem raiseCore_fits (s : State) (i inst addr : Nat) (inj : Bool) :
    s.Fits (Foot.of [0x00, 0x70, 0x71, groupPage (srcPage i inst)] [.flt, .evr]) (s.raiseWith i inst addr inj true) := by
  unfold State.raiseWith
  extract_lets d esc e fl s1
  split
  rename_i coal s2 heq
  extract_lets s3 s4 s5 s6
  have h1 : s.Fits (Foot.of [0x00, 0x70, 0x71, groupPage (srcPage i inst)] [.flt, .evr]) s1 :=
    fits_ite (withFlt_fits _ rfl (fits_refl ..)) (fits_refl ..)
  have h2 : s.Fits (Foot.of [0x00, 0x70, 0x71, groupPage (srcPage i inst)] [.flt, .evr]) s2 :=
    record_fits_eq heq (by simp [Foot.le, Foot.of]) h1
  have h5 : s.Fits (Foot.of [0x00, 0x70, 0x71, groupPage (srcPage i inst)] [.flt, .evr]) s5 := by
    have h4 := alarmLevel_fits s3 e (by simp [Foot.le, Foot.of]) (fits_ite h2 (history_fits s2 (srcCode i) e esc false inj (by simp [Foot.le, Foot.of]) h2))
    exact fits_ite (put_fits _ (by simp [Foot.hasUnit, Foot.of, F.FLT_ALARM_ESC_SEEN, groupPage]) (incSat_fits
      (by simp [Foot.hasUnit, Foot.of, F.FLT_CNT_ESCALATED, groupPage]) h4)) h4
  rw [if_neg (by simp)]
  exact fits_ite h5 (setPending_fits _ _ _ _ _ _ (by simp [Foot.hasUnit, Foot.of]) (by simp [Foot.le, Foot.of]) h5)

/-- A fault of level 3 without a trigger of its own asks Flint for the reaction; any other ends with its source pending. -/
theorem raise_eq_core (s : State) (i inst : Nat) :
    s.raise i inst = s.raiseWith i inst 0 false true ∨ s.raise i inst = (s.raiseWith i inst 0 false true).flintTrigger i 12 (srcCode i / 256) := by
  unfold State.raise State.raiseWith
  extract_lets d esc e fl s1
  split
  extract_lets s3 s4 s5 s6
  by_cases he : e = 3
  · exact .inr (by simp [he])
  · exact .inl (by simp [he])

/-- A trigger never unlocks. -/
theorem trigger_keeps_locked {s : State} (code detail : Nat) (h : s.on F.SAF_STAT_LOCKED = true) :
    (s.trigger code detail).on F.SAF_STAT_LOCKED = true := by
  have hcount : ∀ v : Saf, (((s.put F.SAF_REASON_LAST code).incSat F.SAF_CNT_REACTIONS).withSaf v).on F.SAF_STAT_LOCKED = true := fun v => by
    rw [withSaf_on, on_congr (g_incSat_other _ _ _ (by decide) (by decide)), on_put_other _ _ _ _ (by decide) (by decide), h]
  by_cases h0 : s.saf.trigNow = 0
  · exact trigger_locked s code detail h0
  · unfold State.trigger State.recordReact
    rw [if_pos h]
    split_ifs
    · simpa (disch := decide) only [on_put_other] using h
    · exact h
    · simpa (disch := decide) only [on_put_other] using h
    · exact h
    · exact (on_congr (event_g _ _ _ (by decide))).trans (hcount _)

theorem flintTrigger_keeps_locked {s : State} (i code detail : Nat) (h : s.on F.SAF_STAT_LOCKED = true) :
    (s.flintTrigger i code detail).on F.SAF_STAT_LOCKED = true := by
  unfold State.flintTrigger
  split_ifs
  · exact h
  · exact h
  · exact trigger_keeps_locked code detail h

/-- A fault never unlocks. -/
theorem raise_keeps_locked {s : State} (i inst : Nat) (hp : groupPage (srcPage i inst) ≠ 0x68) (h : s.on F.SAF_STAT_LOCKED = true) :
    (s.raise i inst).on F.SAF_STAT_LOCKED = true := by
  have hcore : (s.raiseWith i inst 0 false true).on F.SAF_STAT_LOCKED = true :=
    (on_congr (fits_g (raiseCore_fits s i inst 0 false) rfl (by simpa [Foot.of, F.SAF_STAT_LOCKED, groupPage] using hp.symm))).trans h
  rcases raise_eq_core s i inst with he | he <;> rw [he]
  · exact hcore
  · exact flintTrigger_keeps_locked i 12 _ hcore

end Sys2Proof.Proofs.Reading
end

section
/-! PROOF. A write to a register whose fields act by their access codes alone: what it leaves, by the bus or by a master that runs. -/

namespace Sys2Proof.Proofs.PlainRegisters

open Sys2Proof.Machine Sys2Proof.Laws Sys2Proof.Proofs.Architecture Sys2Proof.Proofs.RegisterMap Sys2Proof.Proofs.Reading
  Sys2Proof.Proofs.GovernorSums

variable {s t : State} {p off : Nat}

/-- What a plain register is. -/
theorem plainReg_iff : plainReg p off = true ↔ p < 0x8D ∧ assigned p = true ∧ off < 4096 ∧ off % 4 = 0 ∧ off ≠ 0x08 ∧ off ≠ 0x30
    ∧ p ∉ [0x40, 0x68, 0x79] ∧ (p, off) ∉ commandRegs := by
  simp [plainReg, and_assoc]

/-- A plain register is none of the commands. -/
theorem plainReg_ne (h : plainReg p off = true) {q o : Nat} (hm : (q, o) ∈ commandRegs) : ¬ (p = q ∧ off = o) := by
  obtain ⟨-, -, -, -, -, -, -, hc⟩ := plainReg_iff.1 h
  rintro ⟨rfl, rfl⟩
  exact hc hm

theorem plainReg_page_ne (h : plainReg p off = true) {q : Nat} (hm : q ∈ [0x40, 0x68, 0x79]) (o : Prop) : ¬ (p = q ∧ o) := by
  obtain ⟨-, -, -, -, -, -, hp, -⟩ := plainReg_iff.1 h
  rintro ⟨rfl, -⟩
  exact hp hm

theorem specialB_plain (m : Master) (v : Word) (h : plainReg p off = true) : s.specialB m p off v = s.plainWrite p off v := by
  have h4 : off % 4 = 0 := (plainReg_iff.1 h).2.2.2.1
  have hc : ∀ q o, (q, o) ∈ commandRegs → ¬ (p = q ∧ off = o) := fun q o => plainReg_ne h
  have hp : ∀ q ∈ [0x40, 0x68, 0x79], ∀ o : Prop, ¬ (p = q ∧ o) := fun q hq o => plainReg_page_ne h hq o
  have hpend : ¬ ((p = 0x70 ∧ 0x48 ≤ off) ∧ off ≤ 0x50) := fun hx => by
    have h1 := hc 0x70 0x48 (by decide)
    have h2 := hc 0x70 0x4C (by decide)
    have h3 := hc 0x70 0x50 (by decide)
    omega
  have hunack : ¬ ((p = 0x70 ∧ 0x54 ≤ off) ∧ off ≤ 0x5C) := fun hx => by
    have h1 := hc 0x70 0x54 (by decide)
    have h2 := hc 0x70 0x58 (by decide)
    have h3 := hc 0x70 0x5C (by decide)
    omega
  unfold State.specialB
  simp only [Bool.and_eq_true, decide_eq_true_eq]
  rw [if_neg (hp _ (by decide) _), if_neg (hp _ (by decide) _), if_neg (hp _ (by decide) _), if_neg (hp _ (by decide) _), if_neg hpend, if_neg hunack,
    if_neg (hc _ _ (by decide)), if_neg (hc _ _ (by decide)), if_neg (hc _ _ (by decide)), if_neg (hp _ (by decide) _), if_neg (hp _ (by decide) _),
    if_neg (hc _ _ (by decide))]

/-- The write of a plain register is none that has a meaning of its own. -/
theorem specialA_plain (m : Master) (v : Word) (h : plainReg p off = true) : s.specialA m p off v = s.plainWrite p off v := by
  obtain ⟨-, -, -, -, h8, h30, -, -⟩ := plainReg_iff.1 h
  have hc : ∀ q o, (q, o) ∈ commandRegs → ¬ (p = q ∧ off = o) := fun q o => plainReg_ne h
  unfold State.specialA
  simp only [Bool.and_eq_true, decide_eq_true_eq]
  rw [if_neg h8, if_neg h30, if_neg (hc _ _ (by decide)), if_neg (hc _ _ (by decide)), if_neg (hc _ _ (by decide)), if_neg (hc _ _ (by decide)),
    if_neg (hc _ _ (by decide)), if_neg (hc _ _ (by decide)), if_neg (hc _ _ (by decide)), if_neg (hc _ _ (by decide)), if_neg (hc _ _ (by decide)),
    if_neg (hc _ _ (by decide)), specialB_plain m v h]

theorem plainWrite_eq (v : Word) (h8 : ¬ (p = 0x08 ∧ off = 0x40)) (h9 : ¬ (p = 0x09 ∧ off = 0x40)) (h49 : ¬ (p = 0x49 ∧ off = 0x40)) :
    s.plainWrite p off v = s.fieldWrite (p * 4096 + off) (s.takeWord p off v) := by
  unfold State.plainWrite State.afterWrite
  have hfeed : ¬ (((p = 0x08 ∨ p = 0x09) ∧ off = 0x40) ∧
      (!(s.fieldWrite (p * 4096 + off) (s.takeWord p off v)).on (F.LNK_CTRL_PWR_SENSE (p - 8))) = true) := by
    rintro ⟨⟨hp | hp, ho⟩, -⟩
    · exact h8 ⟨hp, ho⟩
    · exact h9 ⟨hp, ho⟩
  simp only [Bool.and_eq_true, Bool.or_eq_true, decide_eq_true_eq]
  rw [if_neg hfeed, if_neg h49]

theorem pageWrite_plain (m : Master) (v : Word) (h : plainReg p off = true) :
    s.pageWrite m p off v = s.fieldWrite (p * 4096 + off) (s.takeWord p off v) := by
  have hbst : ¬ (decide (p = 0x79) && s.bistRuns) = true := by
    simpa using fun hq => absurd ⟨hq, trivial⟩ (plainReg_page_ne h (q := 0x79) (by decide) True)
  have hfok : ¬ (decide (p = 0x68) || decide (p = 0x40)) = true := by
    simpa using And.intro (fun hq => plainReg_page_ne h (q := 0x68) (by decide) True ⟨hq, trivial⟩)
      (fun hq => plainReg_page_ne h (q := 0x40) (by decide) True ⟨hq, trivial⟩)
  unfold State.pageWrite
  rw [if_neg hbst]
  refine (if_neg hfok).trans ?_
  rw [specialA_plain m v h, plainWrite_eq v (plainReg_ne h (by decide)) (plainReg_ne h (by decide)) (plainReg_ne h (by decide))]

/-! ### What the fields' codes leave (R9, R577) -/

theorem fieldWrite_word (s : State) (o : Nat) (v : Word) : (s.fieldWrite o v).word o = s.written o v := by
  unfold State.fieldWrite
  extract_lets rw v' rwc
  split_ifs
  · exact word_setWord_same ..
  · exact word_setWord_same ..

theorem fieldWrite_shadow (s : State) (o : Nat) (v : Word) :
    (s.fieldWrite o v).shadowWord o = (s.shadowWord o &&& ~~~ (accMask .rwc o)) ||| (v &&& accMask .rwc o) := by
  unfold State.fieldWrite
  extract_lets rw v' rwc
  split_ifs with h
  · rw [show accMask .rwc o = 0#32 from h]
    rw [BitVec.and_zero, BitVec.or_zero, BitVec.not_zero, BitVec.and_allOnes]
    rfl
  · exact shadowWord_setShadow_same ..

theorem fieldWrite_others (s : State) {o a : Nat} (v : Word) (h : a ≠ o) :
    (s.fieldWrite o v).word a = s.word a ∧ (s.fieldWrite o v).shadowWord a = s.shadowWord a := by
  unfold State.fieldWrite
  extract_lets rw v' rwc
  have hset : (v'.word a = s.word a) ∧ v'.shadowWord a = s.shadowWord a := ⟨word_setWord_other _ _ h, rfl⟩
  split_ifs
  · exact hset
  · exact ⟨hset.1, (shadowWord_setShadow_other _ _ h).trans hset.2⟩

theorem fieldWrite_fits (s : State) (o : Nat) (v : Word) : s.Fits (Foot.of [groupPage (o / 4096)] [.shadow]) (s.fieldWrite o v) := by
  unfold State.fieldWrite
  extract_lets rw v' rwc
  have hset : s.Fits (Foot.of [groupPage (o / 4096)] [.shadow]) v' := setWord_fits _ (by simp [Foot.hasUnit, Foot.of]) (fits_refl _ s)
  exact fits_ite hset (setShadow_fits _ _ rfl hset)

theorem fieldWrite_parts (s : State) (o : Nat) (v : Word) : s.PartsWithin (Foot.of [] [.shadow]) (s.fieldWrite o v) :=
  partsWithin_mono (f := Foot.of [groupPage (o / 4096)] [.shadow]) (fun _ m => m) ((fieldWrite_fits s o v).within.resolve_left (by simp [Foot.of])).2

/-- What a plain write leaves. -/
theorem fieldWrite_leaves (s : State) (p off : Nat) (v : Word) : s.WriteLeaves p off v (s.fieldWrite (p * 4096 + off) (s.takeWord p off v)) where
  word := fieldWrite_word ..
  shadow := fieldWrite_shadow ..
  others := fun _ ho => fieldWrite_others _ _ ho

/-! ### On the bus -/

theorem regionOf_page (p off : Nat) (hp : p < 0x8D) (ho : off < 4096) : regionOf (pageAddr p off) = some .pages := by
  unfold regionOf pageAddr
  repeat rw [if_neg (by omega)]
  rw [if_pos (by omega)]

/-- A word on the bus to a page that the master may write. -/
theorem busWrite_page {m : Master} (v : Word) (hw : s.mayWrite m p off = true) (hp : p < 0x8D) (ha : assigned p = true) (ho : off < 4096) (h4 : off % 4 = 0) :
    s.busWrite m (pageAddr p off) (leBytes 4 v.toNat) = s.pageWrite m p off v := by
  have hd : (p * 4096 + off) / 4096 = p := by omega
  have hr : (p * 4096 + off) % 4096 = off := by omega
  have ha4 : pageAddr p off % 4 = 0 := by unfold pageAddr; omega
  unfold State.busWrite
  rw [if_pos (regionOf_page p off hp ho)]
  simp [pageOff_page, hd, hr, leBytes_length, word_ofLe_leBytes, ha, hw, ha4]

theorem busWrite_plain {m : Master} (v : Word) (hw : s.mayWrite m p off = true) (h : plainReg p off = true) :
    s.busWrite m (pageAddr p off) (leBytes 4 v.toNat) = s.fieldWrite (p * 4096 + off) (s.takeWord p off v) := by
  obtain ⟨hp, ha, ho, h4, -⟩ := plainReg_iff.1 h
  rw [busWrite_page v hw hp ha ho h4, pageWrite_plain m v h]

end Sys2Proof.Proofs.PlainRegisters
end

section
/-! PROOF. A fault that pends stays pending while others are raised. -/

namespace Sys2Proof.Proofs.PendingFaults

open Sys2Proof.Machine Sys2Proof.Laws Sys2Proof.Proofs.Architecture Sys2Proof.Proofs.Reading Sys2Proof.Proofs.GovernorSums

variable {s t : State} {i j : Nat}

/-- A field of FLT apart from the registers of the pending bits by its offset. -/
def offPend (f : Fld) : Bool := decide (f.hi < 32) && (decide (f.off % 4096 < 0x48) || decide (0x54 ≤ f.off % 4096))

theorem fltPend_off (hj : j < 75) : 0x48 ≤ (fltPend j).off % 4096 ∧ (fltPend j).off % 4096 < 0x54 := by
  simp only [fltPend]
  omega

theorem pend_put_off (s : State) (v : Nat) {f : Fld} (hj : j < 75) (h : offPend f = true) : (s.put f v).on (fltPend j) = s.on (fltPend j) := by
  obtain ⟨h1, h2⟩ := fltPend_off hj
  simp only [offPend, Bool.and_eq_true, Bool.or_eq_true, decide_eq_true_eq] at h
  obtain ⟨hh, ho⟩ := h
  exact on_put_sep _ _ (by simp only [sep, Bool.and_eq_true, Bool.or_eq_true, decide_eq_true_eq, Bool.not_eq_true', beq_eq_false_iff_ne]; omega)

/-- Two sources pend in bits of their own. -/
theorem fltPend_sep (hi : i < 75) (hj : j < 75) (h : i ≠ j) : sep (fltPend i) (fltPend j) = true := by
  have hne : i / 32 ≠ j / 32 ∨ i % 32 ≠ j % 32 := by omega
  unfold sep fltPend
  simp only [Bool.and_eq_true, Bool.or_eq_true, decide_eq_true_eq, Bool.not_eq_true', beq_eq_false_iff_ne, ne_eq]
  refine ⟨Nat.mod_lt _ (by decide), ?_⟩
  rcases hne with h | h
  · exact .inl (.inl (.inl (by omega)))
  · rcases Nat.lt_or_gt_of_ne h with h | h
    · exact .inl (.inr h)
    · exact .inl (.inl (.inr h))

theorem fltPend_room : ∀ i < 75, room (fltPend i) 1 = true ∧ offPend (fltUnack i) = true ∧ offPend (fltLvl i) = true := by decide

theorem pend_put_one (s : State) (hi : i < 75) (hj : j < 75) (h : s.on (fltPend j) = true) : (s.put (fltPend i) 1).on (fltPend j) = true := by
  by_cases hij : i = j
  · subst hij
    exact on_put_set _ (fltPend_room i hi).1
  · exact (on_put_sep _ _ (fltPend_sep hi hj hij)).trans h

theorem history_pend (s : State) (code eff : Nat) (esc conseq inj : Bool) (hj : j < 75) :
    (s.history code eff esc conseq inj).on (fltPend j) = s.on (fltPend j) := by
  unfold State.history
  extract_lets k v v1 v2
  have hk : k < 16 := Nat.mod_lt _ (by decide)
  have hplace : ∀ k < 16, ∀ f ∈ [F.FLT_HIST_CODE k, F.FLT_HIST_LVL k, F.FLT_HIST_ESC k, F.FLT_HIST_CONSEQ k, F.FLT_HIST_INJ k, F.FLT_HIST_SEQ_LO k],
      offPend f = true := by decide
  have hp : ∀ f ∈ [F.FLT_HIST_CODE k, F.FLT_HIST_LVL k, F.FLT_HIST_ESC k, F.FLT_HIST_CONSEQ k, F.FLT_HIST_INJ k, F.FLT_HIST_SEQ_LO k],
      ∀ (u : State) (n : Nat), (u.put f n).on (fltPend j) = u.on (fltPend j) := fun f hf u n => pend_put_off u n hj (hplace k hk f hf)
  have hv : v.on (fltPend j) = s.on (fltPend j) := by
    show (if _ then s else _ : State).on _ = _
    split_ifs
    · rfl
    · exact pend_put_off _ _ hj (by decide)
  rw [pend_put_off _ _ hj (by decide), State.inc, pend_put_off _ _ hj (by decide)]
  simp only [v2, v1]
  rw [hp _ (by simp), hp _ (by simp), hp _ (by simp), hp _ (by simp), hp _ (by simp), hp _ (by simp), hv]

theorem alarmLevel_pend (s : State) (e : Nat) (hj : j < 75) : (s.alarmLevel e).on (fltPend j) = s.on (fltPend j) := by
  unfold State.alarmLevel
  split_ifs
  · exact pend_put_off _ _ hj (by decide)
  · exact pend_put_off _ _ hj (by decide)
  · exact pend_put_off _ _ hj (by decide)
  · rfl

theorem setPending_keeps_pend (s : State) (inst eff : Nat) (esc inj : Bool) (hi : i < 75) (hj : j < 75) (h : s.on (fltPend j) = true) :
    (s.setPending i inst eff esc inj).on (fltPend j) = true := by
  unfold State.setPending
  extract_lets old was f st u v
  have hv : v.on (fltPend j) = true := by
    exact (pend_put_off _ _ hj (fltPend_room i hi).2.1).trans (pend_put_one _ hi hj h)
  exact (on_congr (faultIrq_g _ _ _ (by simp only [fltPend]; omega))).trans ((pend_put_off _ _ hj (fltPend_room i hi).2.2).trans hv)

/-- Raising a fault leaves every other that pends pending. -/
theorem raiseWith_keeps_pend (s : State) (inst addr : Nat) (inj trig : Bool) (hi : i < 75) (hj : j < 75) (h : s.on (fltPend j) = true) :
    (s.raiseWith i inst addr inj trig).on (fltPend j) = true := by
  have hrec : clear recordFields (fltPend j) = true := (by decide : ∀ j < 75, clear recordFields (fltPend j) = true) j hj
  unfold State.raiseWith
  extract_lets d esc e fl s1
  have h1 : s1.on (fltPend j) = true := by
    show (if srcHeld i then _ else s : State).on _ = true
    split_ifs <;> exact h
  split
  rename_i coal s2 heq
  have h2 : s2.on (fltPend j) = true := by
    have hg := record_g s1 (s1.faultRec i inst addr d e esc false inj) hrec
    rw [heq] at hg
    exact (on_congr hg).trans h1
  extract_lets s3 s4 s5 s6
  have h3 : s3.on (fltPend j) = true := by
    show (if coal then s2 else _ : State).on _ = true
    split_ifs
    · exact h2
    · exact (history_pend _ _ _ _ _ _ hj).trans h2
  have h4 : s4.on (fltPend j) = true := (alarmLevel_pend _ _ hj).trans h3
  have h5 : s5.on (fltPend j) = true := by
    show (if esc then _ else s4 : State).on _ = true
    split_ifs
    · refine (pend_put_off _ _ hj (by decide)).trans ?_
      unfold State.incSat
      split_ifs
      · exact (pend_put_off _ _ hj (by decide)).trans h4
      · exact h4
    · exact h4
  have h6 : s6.on (fltPend j) = true := by
    show (if e = 0 then s5 else s5.setPending i inst e esc inj).on _ = true
    split_ifs
    · exact h5
    · exact setPending_keeps_pend _ _ _ _ _ hi hj h5
  split
  · exact (on_congr (flintTrigger_g _ _ _ _ (fltPend_clear hj) (by simp [fltPend, groupPage]))).trans h6
  · exact h6

theorem raise_keeps_pend (s : State) (inst : Nat) (hi : i < 75) (hj : j < 75) (h : s.on (fltPend j) = true) :
    (s.raise i inst).on (fltPend j) = true := raiseWith_keeps_pend s inst 0 false false hi hj h

end Sys2Proof.Proofs.PendingFaults
end

section
/-! PROOF. What a fault or a trigger can do to a state, said once as a principle: it writes fields of FLT, EVR, the interrupt registers and the
lock-out, and it switches lanes off only where it locks an unlocked device out. -/

namespace Sys2Proof.Proofs.LampReactions

open Sys2Proof.Machine Sys2Proof.Laws Sys2Proof.Proofs.Architecture Sys2Proof.Proofs.Reading Sys2Proof.Proofs.GovernorSums

variable {s t u : State} {x : Fld} {P : State → Prop}

/-- The fields that a fault or a trigger may write, but for the states of the outputs, and that it writes LOCKED with 1 alone. -/
def reacts (x : Fld) (v : Nat) : Bool :=
  decide (x.hi < 32) && (x.page == 0x70 || x.page == 0x71 || x.off % 4096 == 0x18 || triggerFields.contains x)
    && x.apart (F.SAF_SOUT_STAT_STATE 0) && x.apart (F.SAF_SOUT_STAT_STATE 1) && (decide (x = F.SAF_STAT_LOCKED ∧ v = 1) || x.apart F.SAF_STAT_LOCKED)

/-- The fields that a fault but for its trigger may write: FLT, EVR and the interrupt registers. -/
def coreField (x : Fld) : Bool := decide (x.hi < 32) && (x.page == 0x70 || x.page == 0x71 || x.off % 4096 == 0x18)

theorem irq_core (x : Fld) (h : x.off % 4096 = 0x18) (hh : x.hi < 32) : coreField x = true := by simp [coreField, h, hh]

/-- A property that every write of a fault but for its trigger keeps. -/
structure CoreReacts (P : State → Prop) : Prop where
  put : ∀ {u : State} (x : Fld) (v : Nat), coreField x = true → P u → P (u.put x v)
  flt : ∀ {u : State} v, P u → P (u.withFlt v)
  evr : ∀ {u : State} v, P u → P (u.withEvr v)

namespace CoreReacts

variable (h : CoreReacts P)

include h

theorem evt (hx : coreField x = true) (hu : P u) : P (u.evt x) := by
  unfold State.evt
  split_ifs
  · exact hu
  · exact h.put _ _ (irq_core _ rfl (by simp [F.UNIT_IRQ_STAT_EVT])) (h.put _ _ hx hu)

theorem incSat (hx : coreField x = true) (hu : P u) : P (u.incSat x) := by
  unfold State.incSat
  split_ifs
  · exact h.put _ _ hx hu
  · exact hu

/-! ### Records -/

theorem loseRec (hu : P u) : P u.loseRec :=
  h.evr _ (h.evt (by decide) (h.put _ _ (by decide) (h.incSat (by decide) hu)))

theorem queueRec (r : EvRec) (hu : P u) : P (u.queueRec r) := by
  unfold State.queueRec
  extract_lets room
  split_ifs
  · exact h.evr _ hu
  · exact h.loseRec hu

theorem closeTracker (r : Tracker) (hu : P u) : P (u.closeTracker r) := by
  unfold State.closeTracker
  extract_lets v
  split_ifs
  · exact h.evr _ hu
  · exact h.queueRec _ (h.evr _ hu)

theorem record (r : EvRec) (hu : P u) : P (u.record r).2 := by
  unfold State.record
  split_ifs
  · split
    · exact h.evr _ hu
    · refine h.evr _ (h.queueRec _ ?_)
      split
      · split_ifs
        · exact h.closeTracker _ hu
        · exact hu
      · exact hu
  · exact h.queueRec _ hu

theorem event (code : Nat) (d : List Byte) (hu : P u) : P (u.event code d) := h.record _ hu

/-! ### Faults -/

theorem fltPut (x : Fld) (v : Nat) (hp : x.page = 0x70) (hh : x.hi < 32) (hu : P u) : P (u.put x v) :=
  h.put x v (by simp [coreField, hp, hh]) hu

theorem faultIrq (old : State) (l : List Nat) (hu : P u) : P (State.faultIrq old u l) := by
  unfold State.faultIrq
  extract_lets v
  have hv : P v := List.foldlRecOn (motive := P) _ _ hu (fun u hu p _ => by
    split_ifs
    · exact hu
    · exact h.put _ _ (irq_core _ rfl (by simp [F.UNIT_IRQ_STAT_FAULT])) hu)
  split_ifs
  · exact hv
  · exact h.put _ _ (by decide) hv

theorem setPending (i inst eff : Nat) (esc inj : Bool) (hu : P u) : P (u.setPending i inst eff esc inj) := by
  unfold State.setPending
  extract_lets old was f st v w
  have hw : P w := h.fltPut _ _ rfl (by simp only [fltUnack]; omega) (h.fltPut _ _ rfl (by simp only [fltPend]; omega) (h.flt _ hu))
  exact h.faultIrq _ _ (h.fltPut _ _ rfl (by simp only [fltLvl]; omega) hw)

theorem history (code eff : Nat) (esc conseq inj : Bool) (hu : P u) : P (u.history code eff esc conseq inj) := by
  unfold State.history
  extract_lets k v v1 v2
  have hv : P v := by
    show P (ite _ _ _)
    split_ifs
    · exact hu
    · exact h.fltPut _ _ rfl (by decide) hu
  have h1 : P v1 := h.fltPut _ _ rfl (by simp [F.FLT_HIST_ESC]) (h.fltPut _ _ rfl (by simp [F.FLT_HIST_LVL])
    (h.fltPut _ _ rfl (by simp [F.FLT_HIST_CODE]) hv))
  have h2 : P v2 := h.fltPut _ _ rfl (by simp [F.FLT_HIST_SEQ_LO]) (h.fltPut _ _ rfl (by simp [F.FLT_HIST_INJ])
    (h.fltPut _ _ rfl (by simp [F.FLT_HIST_CONSEQ]) h1))
  exact h.fltPut _ _ rfl (by decide) (h.fltPut _ _ rfl (by decide) h2)

theorem alarmLevel (e : Nat) (hu : P u) : P (u.alarmLevel e) := by
  unfold State.alarmLevel
  split_ifs
  · exact h.fltPut _ _ rfl (by decide) hu
  · exact h.fltPut _ _ rfl (by decide) hu
  · exact h.fltPut _ _ rfl (by decide) hu
  · exact hu

/-- A fault but for the trigger that level 3 takes. -/
theorem raiseCore (i inst addr : Nat) (inj : Bool) (hu : P u) : P (u.raiseWith i inst addr inj true) := by
  unfold State.raiseWith
  extract_lets d esc e fl s1
  have h1 : P s1 := by
    show P (ite _ _ _)
    split_ifs
    · exact h.flt _ hu
    · exact hu
  split
  rename_i coal s2 heq
  have h2 : P s2 := by
    have := h.record (s1.faultRec i inst addr d e esc false inj) h1
    rwa [heq] at this
  extract_lets s3 s4 s5 s6
  have h3 : P s3 := by
    show P (ite _ _ _)
    split_ifs
    · exact h2
    · exact h.history _ _ _ _ _ h2
  have h5 : P s5 := by
    show P (ite _ _ _)
    split_ifs
    · refine h.fltPut _ _ rfl (by decide) ?_
      unfold State.incSat
      split_ifs
      · exact h.fltPut _ _ rfl (by decide) (h.alarmLevel _ h3)
      · exact h.alarmLevel _ h3
    · exact h.alarmLevel _ h3
  have h6 : P s6 := by
    show P (ite _ _ _)
    split_ifs
    · exact h5
    · exact h.setPending _ _ _ _ _ h5
  rw [if_neg (by simp)]
  exact h6

end CoreReacts

/-- A property that every write of a fault or a trigger keeps, begun in s. -/
structure Reacts (s : State) (P : State → Prop) : Prop where
  put : ∀ {u : State} (x : Fld) (v : Nat), reacts x v = true → P u → P (u.put x v)
  flt : ∀ {u : State} v, P u → P (u.withFlt v)
  evr : ∀ {u : State} v, P u → P (u.withEvr v)
  saf : ∀ {u : State} v w, P u → P (u.withSaf { u.saf with trigNow := v, due := w })
  low : ∀ {u : State} (k : Nat), k < 2 → s.on F.SAF_STAT_LOCKED = false → P u →
    P (u.withSaf { u.saf with souts := u.saf.souts.set k Sout.init })
  fall : ∀ {u : State} (k : Nat), k < 2 → s.on F.SAF_STAT_LOCKED = false → u.g (F.SAF_SOUT_STAT_STATE k) = 2 → P u →
    P (u.put (F.SAF_SOUT_STAT_STATE k) 1)
  off : ∀ {u : State} (k : Nat), k < 8 → s.on F.SAF_STAT_LOCKED = false → u.on F.SAF_STAT_LOCKED = true → P u → P (u.laneOff k)

/-- What a fault but for its trigger may write, a trigger's fault may. -/
theorem core_reacts (h : coreField x = true) (v : Nat) : reacts x v = true := by
  simp only [coreField, Bool.and_eq_true, Bool.or_eq_true, decide_eq_true_eq, beq_iff_eq] at h
  obtain ⟨hh, hx⟩ := h
  have ha : ∀ y : Fld, y.page = 0x68 → y.off % 4096 ≠ 0x18 → x.apart y = true := fun y hy ho => by
    have hne : x.addr ≠ y.addr := by
      simp only [Fld.addr, hy]
      omega
    simp [Fld.apart, hne]
  have h0 := ha (F.SAF_SOUT_STAT_STATE 0) rfl (by decide)
  have h1 := ha (F.SAF_SOUT_STAT_STATE 1) rfl (by decide)
  have hl := ha F.SAF_STAT_LOCKED rfl (by decide)
  simp only [reacts, hh, h0, h1, hl, decide_true, Bool.true_and, Bool.and_true, Bool.or_true, Bool.or_eq_true, beq_iff_eq]
  tauto

/-- A field apart from LOCKED may be written with any value. -/
theorem reacts_of_zero (h : reacts x 0 = true) (v : Nat) : reacts x v = true := by
  simp only [reacts, Bool.and_eq_true, Bool.or_eq_true, decide_eq_true_eq] at h ⊢
  obtain ⟨h, ⟨-, h0⟩ | ha⟩ := h
  · exact absurd h0 (by decide)
  · exact ⟨h, .inr ha⟩

theorem irq_reacts (p : Nat) : reacts (F.UNIT_IRQ_STAT_EVT p) 1 = true := by
  have ha : (F.UNIT_IRQ_STAT_EVT p).apart F.SAF_STAT_LOCKED = true := sep_apart rfl
  have h0 : (F.UNIT_IRQ_STAT_EVT p).apart (F.SAF_SOUT_STAT_STATE 0) = true := sep_apart rfl
  have h1 : (F.UNIT_IRQ_STAT_EVT p).apart (F.SAF_SOUT_STAT_STATE 1) = true := sep_apart rfl
  simp only [reacts, ha, h0, h1, Bool.or_true, Bool.and_true]
  simp [F.UNIT_IRQ_STAT_EVT]

namespace Reacts

variable (h : Reacts s P)

include h

theorem evt (hx : reacts x 1 = true) (hu : P u) : P (u.evt x) := by
  unfold State.evt
  split_ifs
  · exact hu
  · exact h.put _ _ (irq_reacts x.page) (h.put _ _ hx hu)

theorem inc (hx : ∀ v, reacts x v = true) (hu : P u) : P (u.inc x) := h.put _ _ (hx _) hu

theorem incSat (hx : ∀ v, reacts x v = true) (hu : P u) : P (u.incSat x) := by
  unfold State.incSat
  split_ifs
  · exact h.put _ _ (hx _) hu
  · exact hu

theorem core : CoreReacts P := ⟨fun x v hx => h.put x v (core_reacts hx v), h.flt, h.evr⟩

/-! ### Triggers -/

/-- Two properties at once. -/
theorem and {Q : State → Prop} (k : Reacts s Q) : Reacts s (fun u => P u ∧ Q u) :=
  ⟨fun x v hx hu => ⟨h.put x v hx hu.1, k.put x v hx hu.2⟩, fun v hu => ⟨h.flt v hu.1, k.flt v hu.2⟩, fun v hu => ⟨h.evr v hu.1, k.evr v hu.2⟩,
    fun v w hu => ⟨h.saf v w hu.1, k.saf v w hu.2⟩, fun n hn hs hu => ⟨h.low n hn hs hu.1, k.low n hn hs hu.2⟩,
    fun n hn hs h2 hu => ⟨h.fall n hn hs h2 hu.1, k.fall n hn hs h2 hu.2⟩, fun n hn hs hl hu => ⟨h.off n hn hs hl hu.1, k.off n hn hs hl hu.2⟩⟩

end Reacts

theorem sout_sep_locked : ∀ k < 2, sep (F.SAF_SOUT_STAT_STATE k) F.SAF_STAT_LOCKED = true := by decide

/-- Neither a fault nor a trigger unlocks. -/
theorem locked_reacts (s : State) : Reacts s (fun u => u.on F.SAF_STAT_LOCKED = true) := by
  refine ⟨fun {u} x v hx hu => ?_, fun _ hu => hu, fun _ hu => hu, fun _ _ hu => hu, fun _ _ _ hu => hu,
    fun k hk _ _ hu => (on_put_sep _ _ (sout_sep_locked k hk)).trans hu, fun n _ _ _ hu => (on_congr (laneOff_g _ n (by decide))).trans hu⟩
  simp only [reacts, Bool.and_eq_true, Bool.or_eq_true, decide_eq_true_eq] at hx
  obtain ⟨⟨⟨⟨hh, -⟩, -⟩, -⟩, ⟨rfl, rfl⟩ | ha⟩ := hx
  · exact on_put_one _ _ (by decide) (by decide)
  · exact (on_put_other _ _ _ _ hh ha).trans hu

namespace Reacts

variable (h : Reacts s P)

include h

theorem soutLow (k : Nat) (hk : k < 2) (hl : s.on F.SAF_STAT_LOCKED = false)
    (hu : P u ∧ u.on F.SAF_STAT_LOCKED = true) : P (u.soutLow k) ∧ (u.soutLow k).on F.SAF_STAT_LOCKED = true := by
  have hb := h.and (locked_reacts s)
  unfold State.soutLow
  extract_lets vs v w
  have hw : P w ∧ w.on F.SAF_STAT_LOCKED = true := by
    simp only [w]
    split_ifs
    · exact hb.fall k hk hl ‹_› (hb.low k hk hl hu)
    · exact hb.low k hk hl hu
  refine List.foldlRecOn (motive := fun u : State => P u ∧ u.on F.SAF_STAT_LOCKED = true) (List.range 8) _ hw (fun u hu n hn => ?_)
  split_ifs
  · exact hb.off n (List.mem_range.1 hn) hl hu.2 hu
  · exact hu

theorem soutsOff (hl : s.on F.SAF_STAT_LOCKED = false) (hu : P u ∧ u.on F.SAF_STAT_LOCKED = true) :
    P u.soutsOff ∧ u.soutsOff.on F.SAF_STAT_LOCKED = true :=
  h.soutLow 1 (by decide) hl (h.soutLow 0 (by decide) hl ((h.and (locked_reacts s)).put _ _ (by decide) hu))

/-- A trigger. Lanes are switched off in the branch that locks an unlocked device. -/
theorem trigger (code detail : Nat) (hl : u.on F.SAF_STAT_LOCKED = false → s.on F.SAF_STAT_LOCKED = false) (hu : P u) : P (u.trigger code detail) := by
  have hb := h.and (locked_reacts s)
  have hcount : ∀ v, reacts F.SAF_CNT_REACTIONS v = true := reacts_of_zero (by decide)
  have hreason : ∀ v, reacts F.SAF_REASON_REASON v = true := reacts_of_zero (by decide)
  have hdetail : ∀ v, reacts F.SAF_REASON_DETAIL v = true := reacts_of_zero (by decide)
  have hlast : ∀ v, reacts F.SAF_REASON_LAST v = true := reacts_of_zero (by decide)
  have hlocks : ∀ v, reacts F.SAF_LOCK_CNT_LOCK_CNT v = true := reacts_of_zero (by decide)
  unfold State.trigger State.recordReact
  split_ifs with h2 h3 h1 h4 hk
  · exact h.put _ _ (hlast _) (h.put _ _ (hdetail _) (h.put _ _ (hreason _) hu))
  · exact hu
  · exact h.put _ _ (hlast _) hu
  · exact hu
  · exact h.core.event _ _ (h.saf _ _ (h.incSat hcount (h.put _ _ (hlast _) hu)))
  · have hs := hl (by simpa using hk)
    extract_lets hiz v1 v2 v3 v4 v5
    have h1 : P v1 ∧ v1.on F.SAF_STAT_LOCKED = true :=
      hb.inc hlocks ⟨h.put _ _ (by decide) hu, on_put_one _ _ (by decide) (by decide)⟩
    have h4 : P v4 ∧ v4.on F.SAF_STAT_LOCKED = true :=
      hb.incSat hcount (hb.evt (by decide) (hb.evt (by decide) (hb.put _ _ (by decide) (hb.put _ _ (by decide)
        (hb.put _ _ (hlast _) (hb.put _ _ (hdetail _) (hb.put _ _ (hreason _) h1)))))))
    have h5 : P v5 := by
      show P (ite _ _ _)
      split_ifs
      · exact h4.1
      · exact (h.soutsOff hs (hb.put _ _ (by decide) h4)).1
    exact h.core.event _ _ (h.saf _ _ h5)

theorem flintTrigger (i code detail : Nat) (hl : u.on F.SAF_STAT_LOCKED = false → s.on F.SAF_STAT_LOCKED = false) (hu : P u) :
    P (u.flintTrigger i code detail) := by
  unfold State.flintTrigger
  split_ifs
  · exact hu
  · exact h.saf _ _ hu
  · exact h.trigger code detail hl hu

/-! ### Faults -/

omit h in
/-- A fault of level 3 without a trigger of its own asks Flint for the reaction; any other ends with its source pending. -/
theorem raiseWith_eq_core (s : State) (i inst addr : Nat) (inj trig : Bool) :
    s.raiseWith i inst addr inj trig = s.raiseWith i inst addr inj true
      ∨ s.raiseWith i inst addr inj trig = (s.raiseWith i inst addr inj true).flintTrigger i 12 (srcCode i / 256) := by
  unfold State.raiseWith
  extract_lets d esc e fl s1
  split
  extract_lets s3 s4 s5 s6
  by_cases he : (decide (e = 3) && !inj && !trig) = true
  · exact .inr (by simp [he])
  · exact .inl (by simp [he])

omit h in
/-- A trigger after a fault finds the device locked where it was locked before. -/
theorem core_unlocked (i inst addr : Nat) (inj : Bool) (hu : (u.raiseWith i inst addr inj true).on F.SAF_STAT_LOCKED = false) :
    u.on F.SAF_STAT_LOCKED = false := by
  by_contra hk
  simp [(locked_reacts u).core.raiseCore i inst addr inj (by simpa using hk)] at hu

theorem raiseWith (i inst addr : Nat) (inj trig : Bool) (hl : u.on F.SAF_STAT_LOCKED = false → s.on F.SAF_STAT_LOCKED = false) (hu : P u) :
    P (u.raiseWith i inst addr inj trig) := by
  rcases raiseWith_eq_core u i inst addr inj trig with he | he <;> rw [he]
  · exact h.core.raiseCore i inst addr inj hu
  · exact h.flintTrigger i 12 _ (fun hk => hl (core_unlocked i inst addr inj hk)) (h.core.raiseCore i inst addr inj hu)

theorem raise (i inst : Nat) (hl : u.on F.SAF_STAT_LOCKED = false → s.on F.SAF_STAT_LOCKED = false) (hu : P u) : P (u.raise i inst) :=
  h.raiseWith i inst 0 false false hl hu

theorem raiseTrig (i inst code detail : Nat) (flint : Bool) (hl : u.on F.SAF_STAT_LOCKED = false → s.on F.SAF_STAT_LOCKED = false) (hu : P u) :
    P (u.raiseTrig i inst code detail flint) := by
  have hl' := fun hk => hl (core_unlocked i inst 0 false hk)
  unfold State.raiseTrig
  extract_lets v
  split_ifs
  · exact h.flintTrigger i code detail hl' (h.core.raiseCore i inst 0 false hu)
  · exact h.trigger code detail hl' (h.core.raiseCore i inst 0 false hu)

theorem conseq (i inst addr : Nat) (hu : P u) (hc : ∀ v, P (u.put F.RST_BLK_STAT_CONSEQ_CNT v)) : P (u.conseq i inst addr) := by
  have hi : P (u.incSat F.RST_BLK_STAT_CONSEQ_CNT) := by
    unfold State.incSat
    split_ifs
    · exact hc _
    · exact hu
  unfold State.conseq
  extract_lets d v
  split
  rename_i coal w heq
  have hw : P w := by
    have := h.core.record (v.faultRec i inst addr d d false true false) hi
    rwa [heq] at this
  split_ifs
  · exact hw
  · exact h.core.history _ _ _ _ _ hw

end Reacts

/-! ### Fields that stand -/

/-- A field outside FLT, EVR and the interrupt registers: a fault leaves it until a trigger follows. -/
theorem core_g (s : State) (i inst addr : Nat) (inj : Bool) {f : Fld} (h0 : f.page ≠ 0x70) (h1 : f.page ≠ 0x71) (ho : f.off % 4096 ≠ 0x18) :
    (s.raiseWith i inst addr inj true).g f = s.g f := by
  refine CoreReacts.raiseCore (P := fun u => u.g f = s.g f) ⟨fun {u} x v hx hu => ?_, fun _ hu => hu, fun _ hu => hu⟩ i inst addr inj rfl
  simp only [coreField, Bool.and_eq_true, Bool.or_eq_true, decide_eq_true_eq, beq_iff_eq] at hx
  obtain ⟨hh, hx⟩ := hx
  have hne : x.addr ≠ f.addr := by
    simp only [Fld.addr]
    rcases hx with (hx | hx) | hx <;> omega
  exact (g_put_other _ _ _ _ hh (by simp [Fld.apart, hne])).trans hu


/-- A field that neither a fault nor a trigger touches, on a lane's page or on another. -/
def lampField (f : Fld) : Bool :=
  clear triggerFields f && f.page != 0x70 && f.page != 0x71 && f.off % 4096 != 0x18 && (f.off % 4096 != 0x44 || decide (3 < f.lo))

theorem reacts_apart {f : Fld} {v : Nat} (hx : reacts x v = true) (hf : lampField f = true) : x.hi < 32 ∧ x.apart f = true := by
  simp only [reacts, lampField, Bool.and_eq_true, Bool.or_eq_true, decide_eq_true_eq, beq_iff_eq, bne_iff_ne, ne_eq, List.contains_iff_mem] at hx hf
  obtain ⟨⟨⟨⟨hh, hx⟩, -⟩, -⟩, -⟩ := hx
  obtain ⟨⟨⟨⟨hc, h0⟩, h1⟩, ho⟩, -⟩ := hf
  refine ⟨hh, ?_⟩
  have haddr : x.addr ≠ f.addr → x.apart f = true := fun hne => by simp [Fld.apart, hne]
  rcases hx with ((hx | hx) | hx) | hx
  · exact haddr (by simp only [Fld.addr, hx]; omega)
  · exact haddr (by simp only [Fld.addr, hx]; omega)
  · exact haddr (by simp only [Fld.addr, hx]; omega)
  · exact clear_apart hc hx

theorem lane_apart {f : Fld} (k : Nat) (hf : lampField f = true) : (F.TL_STAT_STATE k).apart f = true := by
  simp only [lampField, Bool.and_eq_true, Bool.or_eq_true, decide_eq_true_eq, bne_iff_ne, ne_eq] at hf
  obtain ⟨-, ho⟩ := hf
  have haddr : f.off % 4096 ≠ 0x44 → (F.TL_STAT_STATE k).addr ≠ f.addr := fun hne => by
    simp only [Fld.addr, F.TL_STAT_STATE]
    omega
  rcases ho with ho | ho
  · simp [Fld.apart, haddr ho]
  · simp [Fld.apart, F.TL_STAT_STATE, ho]

theorem state_apart_lamp {f : Fld} {k : Nat} (hk : k < 2) (hf : lampField f = true) : (F.SAF_SOUT_STAT_STATE k).apart f = true := by
  simp only [lampField, Bool.and_eq_true] at hf
  have hc := hf.1.1.1.1
  interval_cases k
  · exact clear_apart hc (by simp [triggerFields])
  · exact clear_apart hc (by simp [triggerFields])

theorem field_reacts (s : State) {f : Fld} (hf : lampField f = true) (v : Nat) : Reacts s (fun u => u.g f = v) := by
  refine ⟨fun {u} x n hx hu => ?_, fun _ hu => hu, fun _ hu => hu, fun _ _ hu => hu, fun _ _ _ hu => hu, fun {u} k hk _ _ hu => ?_,
    fun {u} k _ _ _ hu => ?_⟩
  · obtain ⟨hh, ha⟩ := reacts_apart hx hf
    exact (g_put_other _ _ _ _ hh ha).trans hu
  · exact (g_put_other u (F.SAF_SOUT_STAT_STATE k) f 1 (by simp [F.SAF_SOUT_STAT_STATE]) (state_apart_lamp hk hf)).trans hu
  · exact (g_put_other u (F.TL_STAT_STATE k) f 0 (by simp [F.TL_STAT_STATE]) (lane_apart k hf)).trans hu

theorem raise_lamp (s : State) (i inst : Nat) {f : Fld} (hf : lampField f = true) : (s.raise i inst).g f = s.g f :=
  (field_reacts s hf _).raise i inst id rfl

theorem raiseTrig_lamp (s : State) (i inst code detail : Nat) (flint : Bool) {f : Fld} (hf : lampField f = true) :
    (s.raiseTrig i inst code detail flint).g f = s.g f := (field_reacts s hf _).raiseTrig i inst code detail flint id rfl

theorem conseq_lamp (s : State) (i inst addr : Nat) {f : Fld} (hf : lampField f = true) (hc : F.RST_BLK_STAT_CONSEQ_CNT.apart f = true) :
    (s.conseq i inst addr).g f = s.g f := (field_reacts s hf _).conseq i inst addr rfl (fun _ => g_put_other _ _ _ _ (by decide) hc)

/-! ### Lanes -/

/-- A lane whose tile has lost its power. -/
def darkLane (l : Lane) : Lane :=
  { l with assigned := false, viaService := false, queue := [], sending := none, due := [], noAlive := 0, missRun := 0, msg := [], ctl := none }

/-- Of a lane, that it is as it was, or that the device was locked out and it is off. -/
def LaneRests (s t : State) (n : Nat) : Prop :=
  (t.tlst n = s.tlst n ∧ t.lane n = s.lane n)
    ∨ (t.tlst n = 0 ∧ t.lane n = darkLane (s.lane n) ∧ s.on F.SAF_STAT_LOCKED = false ∧ t.on F.SAF_STAT_LOCKED = true)

theorem laneRests_refl (s : State) (n : Nat) : LaneRests s s n := .inl ⟨rfl, rfl⟩

theorem tlst_put (s : State) (v : Nat) {n : Nat} (h : x.apart (F.TL_STAT_STATE n) = true) (hh : x.hi < 32) : (s.put x v).tlst n = s.tlst n :=
  g_put_other _ _ _ _ hh h

theorem reacts_apart_state {v : Nat} (n : Nat) (hx : reacts x v = true) : x.hi < 32 ∧ x.apart (F.TL_STAT_STATE n) = true := by
  simp only [reacts, Bool.and_eq_true, Bool.or_eq_true, decide_eq_true_eq, beq_iff_eq, List.contains_iff_mem] at hx
  obtain ⟨⟨⟨⟨hh, hx⟩, -⟩, -⟩, -⟩ := hx
  refine ⟨hh, ?_⟩
  have haddr : x.addr ≠ (F.TL_STAT_STATE n).addr → x.apart (F.TL_STAT_STATE n) = true := fun hne => by simp [Fld.apart, hne]
  rcases hx with ((hx | hx) | hx) | hx
  · exact haddr (by simp only [Fld.addr, hx, F.TL_STAT_STATE]; omega)
  · exact haddr (by simp only [Fld.addr, hx, F.TL_STAT_STATE]; omega)
  · exact haddr (by simp only [Fld.addr, hx, F.TL_STAT_STATE]; omega)
  · have hpages : ∀ y ∈ triggerFields, y.page < 0x51 ∨ 0x59 ≤ y.page := by decide
    have hp := hpages x hx
    exact haddr (by simp only [Fld.addr, F.TL_STAT_STATE]; omega)

/-- What a lane reads after one was rewritten. -/
theorem modLane_lane (s : State) (k n : Nat) (f : Lane → Lane) :
    (s.modLane k f).lane n = if k = n ∧ n < s.lanes.length then f (s.lane n) else s.lane n := by
  simp only [State.lane, State.modLane, State.withLanes, List.getD_eq_getElem?_getD, List.getElem?_set]
  by_cases hk : k = n
  · subst hk
    by_cases hl : k < s.lanes.length <;> simp [hl]
  · simp [hk]

theorem modLane_lane_same (s : State) (f : Lane → Lane) {n : Nat} (h : n < s.lanes.length) : (s.modLane n f).lane n = f (s.lane n) :=
  (modLane_lane s n n f).trans (if_pos ⟨rfl, h⟩)

theorem modLane_lane_other (s : State) (f : Lane → Lane) {k n : Nat} (h : k ≠ n) : (s.modLane k f).lane n = s.lane n :=
  (modLane_lane s k n f).trans (if_neg (fun hk => h hk.1))

theorem darkLane_init : darkLane Lane.init = Lane.init := by
  simp only [darkLane, Lane.init]

/-- A lane beyond the table reads as a lane that is off. -/
theorem dark_beyond (s : State) {n : Nat} (h : ¬ n < s.lanes.length) : darkLane (s.lane n) = s.lane n := by
  have hl : s.lane n = Lane.init := by simp [State.lane, List.getD_eq_getElem?_getD, List.getElem?_eq_none (Nat.not_lt.1 h)]
  exact (congrArg darkLane hl).trans (darkLane_init.trans hl.symm)

theorem laneOff_lane (s : State) (k n : Nat) : (s.laneOff k).lane n = if k = n then darkLane (s.lane n) else s.lane n := by
  have hl : (s.laneOff k).lane n = if k = n ∧ n < s.lanes.length then darkLane (s.lane n) else s.lane n := modLane_lane (s.put (F.TL_STAT_STATE k) 0) k n darkLane
  rw [hl]
  by_cases hk : k = n
  · by_cases hn : n < s.lanes.length
    · simp [hk, hn]
    · simp [hk, hn, dark_beyond]
  · simp [hk]

theorem laneOff_tlst (s : State) {k n : Nat} (hk : k < 8) (hn : n < 8) : (s.laneOff k).tlst n = if k = n then 0 else s.tlst n := by
  by_cases h : k = n
  · subst h
    exact (g_put_room s (f := F.TL_STAT_STATE k) rfl).trans (if_pos rfl).symm
  · have haddr : (F.TL_STAT_STATE k).addr ≠ (F.TL_STAT_STATE n).addr := by
      simp only [Fld.addr, F.TL_STAT_STATE]
      omega
    exact (g_put_other s (F.TL_STAT_STATE k) (F.TL_STAT_STATE n) 0 (by simp [F.TL_STAT_STATE]) (by simp [Fld.apart, haddr])).trans (if_neg h).symm

theorem sout_sep_state (k n : Nat) : sep (F.SAF_SOUT_STAT_STATE k) (F.TL_STAT_STATE n) = true := by
  have hp : (0x68 : Nat) ≠ 0x51 + n % 8 := by omega
  simp [sep, F.SAF_SOUT_STAT_STATE, F.TL_STAT_STATE, hp]

/-- Faults and triggers leave a lane as it is, or switch it off where they lock an unlocked device out. -/
theorem lane_reacts (s : State) {n : Nat} (hn : n < 8) : Reacts s (fun u => LaneRests s u n) := by
  refine ⟨fun {u} x v hx hu => ?_, fun _ hu => hu, fun _ hu => hu, fun _ _ hu => hu, fun _ _ _ hu => hu, fun {u} k hk _ _ hu => ?_,
    fun {u} k hk hs hl hu => ?_⟩
  · obtain ⟨hh, ha⟩ := reacts_apart_state n hx
    rcases hu with ⟨h1, h2⟩ | ⟨h1, h2, h3, h4⟩
    · exact .inl ⟨(tlst_put u v ha hh).trans h1, h2⟩
    · exact .inr ⟨(tlst_put u v ha hh).trans h1, h2, h3, (locked_reacts s).put x v hx h4⟩
  · have htl : (u.put (F.SAF_SOUT_STAT_STATE k) 1).tlst n = u.tlst n := g_put_sep u 1 (sout_sep_state k n)
    rcases hu with ⟨h1, h2⟩ | ⟨h1, h2, h3, h4⟩
    · exact .inl ⟨htl.trans h1, h2⟩
    · exact .inr ⟨htl.trans h1, h2, h3, (on_put_sep _ _ (sout_sep_locked k hk)).trans h4⟩
  · have hlock := (locked_reacts s).off k hk hs hl hl
    by_cases h : k = n
    · subst h
      have hdark : darkLane (u.lane k) = darkLane (s.lane k) := by
        rcases hu with ⟨-, h2⟩ | ⟨-, h2, -, -⟩ <;> rw [h2]
        rfl
      exact .inr ⟨(laneOff_tlst u hk hk).trans (if_pos rfl), ((laneOff_lane u k k).trans (if_pos rfl)).trans hdark, hs, hlock⟩
    · have h1 := (laneOff_tlst u hk hn).trans (if_neg h)
      have h2 := (laneOff_lane u k n).trans (if_neg h)
      rcases hu with ⟨h3, h4⟩ | ⟨h3, h4, h5, -⟩
      · exact .inl ⟨h1.trans h3, h2.trans h4⟩
      · exact .inr ⟨h1.trans h3, h2.trans h4, h5, hlock⟩

end Sys2Proof.Proofs.LampReactions
end

section
/-! PROOF. Quartz: the RC oscillator's attempts (RcOscillatorStart), the root (RootAcquisition), the switch of reference (ReferenceSwitching)
and the clock monitor (ClockSupervision). -/

namespace Sys2Proof.Proofs.QuartzRoot

open Sys2Proof.Machine Sys2Proof.Laws Sys2Proof.Proofs.Reading Sys2Proof.Proofs.GovernorSums Sys2Proof.Proofs.Architecture

/-! ### The RC oscillator -/

/-- An attempt without failure: the oscillator runs, the root leaves HOLD, and the monitor of a running root is unmasked. -/
def rcRuns (s : State) : State :=
  let s := s.withQuartz { s.quartz with rc := .running }
  let s := if s.root = 0 then ((s.put F.CLK_STAT_STATE 1).withQuartz { s.quartz with acq := s.g F.CLK_REF_CTRL_SEL }) else s
  if s.rootUp || s.root = 8 then ((s.put F.CLK_STAT_MON_GOOD 1).withQuartz { s.quartz with masked := false }) else s

theorem exec_rcStart_ok {s : State} (h : s.quartz.rc = .attempt) : exec (.rcStart 0) s = .next (rcRuns s.begin).tryRelease :=
  (if_pos h).trans (if_pos rfl)

theorem rcRuns_only (s : State) : s.Only [F.CLK_STAT_STATE, F.CLK_STAT_MON_GOOD] [.quartz] (rcRuns s) := by
  refine only_ite (fun _ => only_withQuartz (by simp) (only_put _ (by simp) (by decide) ?_)) (fun _ => ?_) <;>
  exact only_ite (fun _ => only_withQuartz (by simp) (only_put _ (by simp) (by decide) (only_withQuartz (by simp) (only_refl ..))))
    (fun _ => only_withQuartz (by simp) (only_refl ..))

theorem rcRuns_rc (s : State) : (rcRuns s).quartz.rc = .running := by
  unfold rcRuns
  simp only [apply_ite State.quartz, apply_ite Quartz.rc]
  split_ifs <;> rfl

theorem rcRuns_of_hold {s : State} (h : s.root = 0) : (rcRuns s).root = 1 ∧ (rcRuns s).quartz.acq = s.g F.CLK_REF_CTRL_SEL := by
  simp only [State.root] at h
  simp (disch := decide) [rcRuns, State.root, State.rootUp, h, g_put_self]
  rfl

theorem rcRuns_of_up {s : State} (h : s.rootUp = true) :
    (rcRuns s).on F.CLK_STAT_MON_GOOD = true ∧ (rcRuns s).quartz.masked = false := by
  have h0 : s.g F.CLK_STAT_STATE ≠ 0 := by
    simp [State.rootUp] at h
    omega
  simp only [State.rootUp] at h
  simp (disch := decide) [rcRuns, State.root, State.rootUp, h, h0, on_put_one]
  rfl

theorem tryRelease_of_none {s : State} (h : s.rst.scope = none) : s.tryRelease = s := by simp [State.tryRelease, h]

theorem tryRelease_of_held {s : State} (hs : s.rst.scope.isSome = true) (hg : s.rst.pg = true) (hp : s.rst.pinHeld = false)
    (ht : s.rst.thmHeld = false) (hr : s.quartz.rc = .running) : s.tryRelease = s.release := by
  simp [State.tryRelease, hs, hg, hp, ht, hr]

/-- A failed attempt before the eighth: its step is recorded and the oscillator pauses. -/
theorem exec_rcStart_pause {s : State} {fail : Nat} (h : s.quartz.rc = .attempt) (h1 : 1 ≤ fail) (h4 : fail ≤ 4) (ht : s.quartz.tries < 8) :
    exec (.rcStart fail) s = .next ((s.begin.put F.CLK_RC_START_FAIL_STEP fail).withQuartz { s.quartz with rc := .pause }) :=
  (if_pos h).trans ((if_neg (by omega)).trans ((if_pos h4).trans (if_pos ht)))

/-- The eighth failed attempt: the oscillator is dead. -/
def rcDies (s : State) (fail : Nat) : State :=
  ((s.put F.CLK_RC_START_FAIL_STEP fail).put F.CLK_RC_START_DEAD 1).withQuartz { s.quartz with rc := .off }

theorem rcDies_root (s : State) (fail : Nat) : (rcDies s fail).root = s.root := by
  simp (disch := decide) only [rcDies, State.root, withQuartz_g, g_put_other]

theorem exec_rcStart_dead {s : State} {fail : Nat} (h : s.quartz.rc = .attempt) (h1 : 1 ≤ fail) (h4 : fail ≤ 4) (ht : 8 ≤ s.quartz.tries) :
    exec (.rcStart fail) s = if s.root = 0 then .next (rcDies s.begin fail) else .next ((rcDies s.begin fail).rootGate 0).linksLock := by
  have hroot : (rcDies s.begin fail).root = s.root := rcDies_root s.begin fail
  rw [← hroot]
  exact (if_pos h).trans ((if_neg (by omega)).trans ((if_pos h4).trans (if_neg (Nat.not_lt.2 ht))))

theorem release_quartz (s : State) : s.release.quartz = s.quartz :=
  within_quartz (release_fits s (le_self _) (fits_refl _ s)).within rfl rfl

theorem linksLock_quartz (s : State) : s.linksLock.quartz = s.quartz :=
  within_quartz (linksLock_fits s (le_self _) (fits_refl _ s)).within rfl rfl

/-- Settles O1: each outcome of RC_START and RC_RETRY as one chain of updates, read field by field. -/
theorem rcOscillatorStart : Obligations.RcOscillatorStart := by
  unfold Obligations.RcOscillatorStart
  refine ⟨?runs, ?releases, ?pauses, ?deadInHold, ?deadLater, ?retry⟩
  case runs =>
    intro s hrc hscope
    refine ⟨rcRuns s.begin, ?_, rcRuns_rc _, fun h0 => rcRuns_of_hold h0, fun hup => rcRuns_of_up hup, rcRuns_only _⟩
    have hnone : (rcRuns s.begin).rst.scope = none := by
      rw [(rcRuns_only s.begin).parts.rst (by decide)]
      exact hscope
    rw [exec_rcStart_ok hrc, tryRelease_of_none hnone]
  case releases =>
    intro s hrc hscope hpg hpin hthm
    have hrst : (rcRuns s.begin).rst = s.rst := (rcRuns_only s.begin).parts.rst (by decide)
    have hrel : (rcRuns s.begin).tryRelease = (rcRuns s.begin).release :=
      tryRelease_of_held (hrst ▸ hscope) (hrst ▸ hpg) (hrst ▸ hpin) (hrst ▸ hthm) (rcRuns_rc _)
    refine ⟨(rcRuns s.begin).release, by rw [exec_rcStart_ok hrc, hrel], ?_, release_scope _⟩
    rw [release_quartz, rcRuns_rc]
  case pauses =>
    intro s fail hrc h1 h4 htries
    refine ⟨_, exec_rcStart_pause hrc h1 h4 htries, ?_, ?_, ?_⟩
    · rw [withQuartz_g]
      exact g_put_self (by decide) (by decide) (lt_of_le_of_lt h4 (by decide))
    · rfl
    · exact only_withQuartz (by simp) (only_put _ (by simp) (by decide) (only_refl ..))
  case deadInHold =>
    intro s fail hrc h1 h4 htries h0
    refine ⟨rcDies s.begin fail, (exec_rcStart_dead hrc h1 h4 htries).trans (if_pos h0), ?_, ?_, rfl, ?_⟩
    · rw [rcDies, withQuartz_g, g_put_other _ _ _ _ (by decide) (by decide)]
      exact g_put_self (by decide) (by decide) (lt_of_le_of_lt h4 (by decide))
    · exact (withQuartz_on ..).trans (on_put_one _ _ (by decide) rfl)
    · exact only_withQuartz (by simp) (only_put _ (by simp) (by decide) (only_put _ (by simp) (by decide) (only_refl ..)))
  case deadLater =>
    intro s fail hrc h1 h4 htries h0
    refine ⟨_, (exec_rcStart_dead hrc h1 h4 htries).trans (if_neg h0), ?_, ?_, ?_⟩ <;> rw [linksLock_quartz] <;> rfl
  case retry =>
    intro s hrc
    refine ⟨s.begin.rcAttempt (s.quartz.tries + 1), congrArg Host.Outcome.next (if_pos hrc), ?_, rfl, ?_⟩
    · exact (withQuartz_g ..).trans (g_put_same _ _ _ (by decide) (by decide))
    · exact only_withQuartz (by simp) (only_put _ (by simp) (by decide) (only_refl ..))

/-! ### The root -/

theorem setLock_only (s : State) (l : Nat) (b : Bool) :
    s.Only [F.LNK_STAT_CDR_LOCK l, lockFld l, F.CLK_FREQ_ERR_VALID] [.quartz] (s.setLock l b) := by
  have hh : (lockFld l).hi < 32 := by unfold lockFld; split_ifs <;> decide
  unfold State.setLock
  extract_lets s1 s2
  have h1 : s.Only [F.LNK_STAT_CDR_LOCK l, lockFld l, F.CLK_FREQ_ERR_VALID] [.quartz] s1 :=
    only_put _ (by simp) hh (only_put _ (by simp) (by simp [F.LNK_STAT_CDR_LOCK]) (only_refl ..))
  exact only_withQuartz (by simp) (only_ite (fun _ => h1) (fun _ => only_put _ (by simp) (by decide) h1))

theorem setLock_on {l : Nat} (hl : l < 2) (s : State) :
    (s.setLock l true).on (F.LNK_STAT_CDR_LOCK l) = true ∧ (s.setLock l true).on (lockFld l) = true := by
  have hv (f : Fld) (u : State) (c : Prop) [Decidable c] (hf : F.CLK_FREQ_ERR_VALID.apart f = true) :
      (if c then u else u.put F.CLK_FREQ_ERR_VALID 0).on f = u.on f := by
    split_ifs
    · rfl
    · exact on_put_other _ _ _ _ (by decide) hf
  unfold State.setLock
  obtain rfl | rfl : l = 0 ∨ l = 1 := by omega
  · exact ⟨(hv _ _ _ (by decide)).trans ((on_put_other _ _ _ _ (by decide) (by decide)).trans (on_put_one _ _ (by decide) rfl)),
      (hv _ _ _ (by decide)).trans (on_put_one _ _ (by decide) rfl)⟩
  · exact ⟨(hv _ _ _ (by decide)).trans ((on_put_other _ _ _ _ (by decide) (by decide)).trans (on_put_one _ _ (by decide) rfl)),
      (hv _ _ _ (by decide)).trans (on_put_one _ _ (by decide) rfl)⟩

theorem refConnect_only (s : State) (l : Nat) : s.Only [F.CLK_STAT_REF_ACT, F.CLK_STAT_STATE] [] (s.refConnect l) :=
  only_ite (fun _ => only_put _ (by simp) (by decide) (only_put _ (by simp) (by decide) (only_refl ..))) (fun _ => only_refl ..)

/-- What connects the link: the root waits for it, no reset is in progress, the link is enabled and its CDR locked. -/
theorem refConnect_of {s : State} {l : Nat} (h1 : s.root = 1) (ha : s.quartz.acq = l) (hr : s.rst.scope = none)
    (he : s.on (F.UNIT_CTRL_ENABLE (lnkPage l)) = true) (hk : s.on (F.LNK_STAT_CDR_LOCK l) = true) :
    s.refConnect l = (s.put F.CLK_STAT_REF_ACT l).put F.CLK_STAT_STATE 2 := by
  simp [State.refConnect, h1, ha, hr, he, hk]

theorem refConnect_root {s : State} (h1 : s.root = 1) (l : Nat) : (s.refConnect l).root = 1 ∨ (s.refConnect l).root = 2 := by
  unfold State.refConnect
  split_ifs
  · exact .inr (g_put_self (by decide) (by decide) (by decide))
  · exact .inl h1

/-- REF_CDR_LOCK in WAIT_REF, of a link that nothing keeps from being connected. -/
theorem lock_connects {s : State} (h1 : s.root = 1) (hl : s.quartz.acq < 2) (hr : s.rst.scope = none)
    (he : s.on (F.UNIT_CTRL_ENABLE (lnkPage s.quartz.acq)) = true) :
    (s.setLock s.quartz.acq true).refConnect s.quartz.acq =
      ((s.setLock s.quartz.acq true).put F.CLK_STAT_REF_ACT s.quartz.acq).put F.CLK_STAT_STATE 2 := by
  have hO := setLock_only s s.quartz.acq true
  have hclear : clear [F.LNK_STAT_CDR_LOCK s.quartz.acq, lockFld s.quartz.acq, F.CLK_FREQ_ERR_VALID] F.CLK_STAT_STATE = true
      ∧ clear [F.LNK_STAT_CDR_LOCK s.quartz.acq, lockFld s.quartz.acq, F.CLK_FREQ_ERR_VALID] (F.UNIT_CTRL_ENABLE (lnkPage s.quartz.acq)) = true :=
    (by decide : ∀ l < 2, clear [F.LNK_STAT_CDR_LOCK l, lockFld l, F.CLK_FREQ_ERR_VALID] F.CLK_STAT_STATE = true
      ∧ clear [F.LNK_STAT_CDR_LOCK l, lockFld l, F.CLK_FREQ_ERR_VALID] (F.UNIT_CTRL_ENABLE (lnkPage l)) = true) _ hl
  refine refConnect_of ((only_g hO hclear.1).trans h1) ?_ ((congrArg Rst.scope (hO.parts.rst (by decide))).trans hr)
    ((only_on hO hclear.2).trans he) (setLock_on hl s).1
  unfold State.setLock
  simp only
  split_ifs <;> rfl

/-- ACQ_TMO with AUTO: the other link is to be tried. -/
def acqAlt (s : State) : State := (s.evt F.CLK_EVT_ACQ_ALT).withQuartz { s.quartz with acq := 1 - s.quartz.acq }

/-- The root is back: what the other units do then leaves its state as it stands. -/
theorem rootLocked_reads (s : State) :
    s.rootLocked.root = 4 ∧ s.rootLocked.on F.CLK_STAT_ROOT_OK = true ∧ s.rootLocked.on F.CLK_STAT_ALIGNED = true := by
  unfold State.rootLocked
  extract_lets s1 ok q1 s3 s4 s5 s6 q6 s7 p7 s8
  have h1 : s1.root = 4 ∧ s1.on F.CLK_STAT_ROOT_OK = true ∧ s1.on F.CLK_STAT_ALIGNED = true := by
    simp (disch := decide) [s1, State.root, g_put_self, g_put_other, on_put_one, on_put_other]
  have keep : ∀ x : Fld, x.page = 0x01 → F.CLK_STAT_MON_GOOD.apart x = true → s8.settle.g x = s1.g x := by
    intro x hx hm
    have hp : ∀ l : List Nat, l.contains 0x01 = false → l.contains (groupPage x.page) = false := fun l hl => by rw [hx]; exact hl
    have hv : F.CSF_STAT_LT_VALID.apart x = true := by
      simp only [Fld.apart, Fld.addr, F.CSF_STAT_LT_VALID, hx]
      simp
      omega
    have h3 : s3.g x = s1.g x := by
      simp only [s3, withLtApplied_g, withSlew_g, withLt_g, withQuartz_g]
      exact (g_put_other _ _ _ _ (by decide) hv).trans (ite_g (fun _ => g_put_other _ _ _ _ (by decide) hm) (fun _ => rfl))
    have h5 : s5.g x = s3.g x :=
      ((fits_g (lanesWake_fits _ (le_self _) (fits_refl _ _)) rfl (hp _ (by decide))).trans
        (fits_g (timerTry_fits _ (le_self _) (fits_refl _ _)) rfl (hp _ (by decide)))).trans
        (fits_g (linksAlign_fits _ (le_self _) (fits_refl _ _)) rfl (hp _ (by decide)))
    have h6 : s6.g x = s5.g x :=
      ite_g (fun _ => fits_g (bootRoot_fits _ (le_self _) (fits_refl _ _)) rfl (hp _ (by decide)))
        (fun _ => ite_g (fun _ => fits_g (evrStart_fits _ 3 (le_self _) (fits_refl _ _)) rfl (hp _ (by decide))) (fun _ => rfl))
    have h8 : s8.g x = s7.g x :=
      ite_g (fun _ => (fits_g (flintResume_fits _ (le_self _) (fits_refl _ _)) rfl (hp _ (by decide))).trans (withPwr_g ..)) (fun _ => rfl)
    exact (fits_g (settle_fits s8 (le_self _) (fits_refl _ s8)) rfl (hp _ (by decide))).trans (h8.trans ((withQuartz_g ..).trans (h6.trans (h5.trans h3))))
  exact ⟨(keep _ rfl (by decide)).trans h1.1, (on_congr (keep _ rfl (by decide))).trans h1.2.1,
    (on_congr (keep _ rfl (by decide))).trans h1.2.2⟩

/-- A commit that lands with the frames stopped leaves the root's own fields. -/
theorem landStopped_g (s : State) (p : Nat) {x : Fld} (hx : x.page = 0x01) (hu : uncommitted x = true)
    (ha : F.CLK_STAT_SSC_ACTIVE.apart x = true) : (s.landStopped p).g x = s.g x := by
  have hg : ∀ l : List Nat, l.contains 0x01 = false → l.contains (groupPage x.page) = false := fun l hl => by rw [hx]; exact hl
  have hssc : s.sscApply.g x = s.g x :=
    ite_g (fun _ => ((withQuartz_g ..).trans (g_put_other _ _ _ _ (by decide) ha)).trans (apply_g s 0x01 hu)) (fun _ => rfl)
  have hseg : F.SEG_COMMIT_FRAME_FRAME.apart x = true := by
    simp only [Fld.apart, Fld.addr, F.SEG_COMMIT_FRAME_FRAME, hx]
    simp
    omega
  refine ite_g (fun _ => rfl) (fun _ => ite_g (fun _ => hssc) (fun _ => ite_g (fun _ => ?_) (fun _ => ite_g (fun _ => ?_) (fun _ =>
    ite_g (fun _ => ?_) (fun _ => ite_g (fun _ => ?_) (fun _ => apply_g s p hu))))))
  · exact fits_g (landCmp_fits s (le_self _) (fits_refl _ s)) rfl (hg _ (by decide))
  · exact (g_put_other _ _ _ _ (by decide) hseg).trans (apply_g s 0x60 hu)
  · exact (withCmp_g ..).trans (fits_g (landLayer_fits s [] (p - 0x19) (le_self _) (fits_refl _ s)) rfl (hg _ (by decide)))
  · exact fits_g (glareCommits_fits s (le_self _) (fits_refl _ s)) rfl (hg _ (by decide))

theorem endFrames_g (s : State) {x : Fld} (hx : x.page = 0x01) (hu : uncommitted x = true) (ha : F.CLK_STAT_SSC_ACTIVE.apart x = true) :
    s.endFrames.g x = s.g x := by
  have hc : F.CMP_STAT_COMPOSING.apart x = true ∧ F.CMP_STAT_REPEATING.apart x = true := by
    simp only [Fld.apart, Fld.addr, F.CMP_STAT_COMPOSING, F.CMP_STAT_REPEATING, hx]
    simp
    omega
  refine (List.foldlRecOn (motive := fun u : State => u.g x = s.g x) framePages _ ?_ (fun u hu' p _ => (landStopped_g u p hx hu ha).trans hu'))
  rw [g_put_other _ _ _ _ (by decide) hc.2, g_put_other _ _ _ _ (by decide) hc.1]
  exact fits_g (stopFrames_fits s (le_self _) (fits_refl _ s)) rfl rfl

theorem settle_g (s : State) {x : Fld} (hx : F.SAF_STAT_FSTATE.apart x = true) : s.settle.g x = s.g x :=
  ite_g (fun _ => g_put_other _ _ _ _ (by decide) hx) (fun _ => ite_g (fun _ => g_put_other _ _ _ _ (by decide) hx) (fun _ => rfl))

/-- The end of the holdover timer: the root stops, the device is locked out, and no frame and no lane runs. -/
def holdoverEnds (s : State) : State :=
  let s := ((s.put F.CLK_STAT_STATE 8).evt F.CLK_EVT_HOLD_EXP).raiseTrig S.CLK_HOLD_EXP 0 5 0 false
  ((s.endFrames.lanesOff).put F.CSF_STAT_LT_VALID 0).checkpointRet.settle

theorem exec_holdoverExpiry {s : State} (h : s.root = 5 ∨ s.root = 6 ∨ s.root = 7) : exec .holdoverExpiry s = .next (holdoverEnds s.begin) :=
  congrArg Host.Outcome.next (if_pos (by simpa [or_assoc] using (show s.begin.root = 5 ∨ s.begin.root = 6 ∨ s.begin.root = 7 from h)))

/-- What follows the trigger leaves the root's own fields and the lock-out. -/
theorem holdoverEnds_reads (s : State) (hs : s.saf.trigNow = 0) :
    (holdoverEnds s).on F.CLK_EVT_HOLD_EXP = true ∧ (holdoverEnds s).root = 8 ∧ (holdoverEnds s).on F.SAF_STAT_LOCKED = true := by
  unfold holdoverEnds
  extract_lets u
  have hroot : ∀ x : Fld, x.page = 0x01 → uncommitted x = true → F.CLK_STAT_SSC_ACTIVE.apart x = true → F.CSF_STAT_LT_VALID.apart x = true →
      ((u.endFrames.lanesOff.put F.CSF_STAT_LT_VALID 0).checkpointRet.settle).g x = u.g x := by
    intro x hx hu ha hv
    have hg : ∀ l : List Nat, l.contains 0x01 = false → l.contains (groupPage x.page) = false := fun l hl => by rw [hx]; exact hl
    rw [fits_g (settle_fits _ (le_self _) (fits_refl _ _)) rfl (hg _ (by decide)), State.checkpointRet, withEvr_g, g_put_other _ _ _ _ (by decide) hv,
      fits_g (lanesOff_fits _ (le_self _) (fits_refl _ _)) rfl (hg _ (by decide)), endFrames_g u hx hu ha]
  have hu : u.g F.CLK_EVT_HOLD_EXP = 1 ∧ u.g F.CLK_STAT_STATE = 8 := by
    constructor
    · rw [raiseTrig_g _ _ _ _ _ _ (by decide)]
      exact on_eq_true_iff.1 (evt_on _ _ (by decide) (by decide) (by decide))
    · rw [raiseTrig_g _ _ _ _ _ _ (by decide), g_evt_other _ _ _ (by decide) (by decide) (by decide)]
      exact g_put_self (by decide) (by decide) (by decide)
  refine ⟨?_, ?_, ?_⟩
  · exact on_eq_true_iff.2 ((hroot _ rfl (by decide) (by decide) (by decide)).trans hu.1)
  · exact (hroot _ rfl (by decide) (by decide) (by decide)).trans hu.2
  · have hlock : u.on F.SAF_STAT_LOCKED = true := raiseTrig_locked _ _ _ _ _ (by simpa using hs)
    refine (on_congr ?_).trans hlock
    rw [settle_g _ (by decide), State.checkpointRet, withEvr_g, g_put_other _ _ _ _ (by decide) (by decide),
      fits_g (lanesOff_fits _ (le_self _) (fits_refl _ _)) rfl rfl, fits_g (endFrames_fits u (le_self _) (fits_refl _ u)) rfl rfl]

theorem holdoverEnds_mem (s : State) : (holdoverEnds s).mem = s.mem := by
  let f : Foot := Foot.of [0x00, 0x01, 0x0B, 0x18, 0x30, 0x40, 0x50, 0x60, 0x68, 0x70, 0x71]
    [.flt, .evr, .saf, .lanes, .pend, .pendPages, .quartz, .cmp, .glare, .tln]
  have h1 : s.Fits f ((s.put F.CLK_STAT_STATE 8).evt F.CLK_EVT_HOLD_EXP) := evt_fits rfl (put_fits _ rfl (fits_refl f s))
  have h2 := endFrames_fits (g := f) _ rfl (raiseTrig_fits _ S.CLK_HOLD_EXP 0 5 0 false rfl rfl h1)
  exact within_mem (settle_fits _ rfl (checkpointRet_fits _ rfl (put_fits _ rfl (lanesOff_fits _ rfl h2)))).within rfl rfl

/-- The root's sequence of stopping ends. -/
def gateStops (s : State) : State := ((s.rootGate 1).linksLock.withQuartz { (s.rootGate 1).linksLock.quartz with stopped := true })

theorem exec_stoppingGate {s : State} (h : s.root = 8) :
    exec .stoppingGate s = .next ((gateStops s.begin).refConnect ((s.begin.rootGate 1).linksLock.g F.CLK_REF_CTRL_SEL)) :=
  congrArg Host.Outcome.next (if_pos h)

theorem gateStops_g (s : State) {x : Fld} (hx : [0x00, 0x08, 0x09, 0x0A, 0x40, 0x50, 0x68, 0x70, 0x71].contains (groupPage x.page) = false) :
    (gateStops s).g x = (s.rootGate 1).g x :=
  (withQuartz_g ..).trans (fits_g (linksLock_fits (s.rootGate 1) (le_self _) (fits_refl _ _)) rfl hx)

theorem gateStops_parts (s : State) :
    (gateStops s).quartz.masked = true ∧ (gateStops s).quartz.frozen = true ∧ (gateStops s).mem = s.mem := by
  have hm : (s.rootGate 1).linksLock.mem = (s.rootGate 1).mem :=
    within_mem (linksLock_fits (s.rootGate 1) (le_self _) (fits_refl _ _)).within rfl rfl
  have hq : (gateStops s).quartz = { (s.rootGate 1).linksLock.quartz with stopped := true } := rfl
  have hmem : (gateStops s).mem = s.mem := by
    unfold gateStops
    rw [withQuartz_mem, hm]
    simp [State.rootGate]
  rw [hq, linksLock_quartz]
  exact ⟨rfl, rfl, hmem⟩

theorem rootGate_reads (s : State) : (s.rootGate 1).root = 1 ∧ (s.rootGate 1).on F.CLK_STAT_ROOT_OK = false
    ∧ (s.rootGate 1).on F.CLK_STAT_ALIGNED = false ∧ (s.rootGate 1).on F.CSF_STAT_LT_VALID = false := by
  simp (disch := decide) [State.rootGate, State.root, g_put_self, g_put_other, on_put_zero, on_put_other]

/-- Settles O2: the acquisition chain field by field, and what the other units do at the end of the holdover and of the stopping sequence within
their footprints. -/
theorem rootAcquisition : Obligations.RootAcquisition := by
  unfold Obligations.RootAcquisition
  refine ⟨?lock, ?tmo, ?loop, ?acquire, ?dividers, ?notWaiting, ?notAcquiring, ?notAligning, ?expiry, ?gate⟩
  case lock =>
    intro s h1 hl hr he
    have hc := lock_connects (s := s.begin) h1 hl hr he
    have hk := setLock_on hl s.begin
    have hclear : ∀ l < 2, F.CLK_STAT_STATE.apart (F.LNK_STAT_CDR_LOCK l) = true ∧ F.CLK_STAT_REF_ACT.apart (F.LNK_STAT_CDR_LOCK l) = true
        ∧ F.CLK_STAT_STATE.apart (lockFld l) = true ∧ F.CLK_STAT_REF_ACT.apart (lockFld l) = true := by decide
    obtain ⟨a1, a2, a3, a4⟩ := hclear _ hl
    refine ⟨_, congrArg Host.Outcome.next ((if_pos h1).trans hc), ?_, ?_, ?_, ?_, ?_⟩
    · exact g_put_self (by decide) (by decide) (by decide)
    · rw [g_put_other _ _ _ _ (by decide) (by decide)]
      exact g_put_self (by decide) (by decide) hl
    · rw [on_put_other _ _ _ _ (by decide) a1, on_put_other _ _ _ _ (by decide) a2]
      exact hk.1
    · rw [on_put_other _ _ _ _ (by decide) a3, on_put_other _ _ _ _ (by decide) a4]
      exact hk.2
    · exact (put_fits _ rfl (put_fits _ rfl (setLock_fits _ _ _ (le_self _) (fits_refl _ _)))).within
  case tmo =>
    intro s h1 _ ha
    have hg : (s.begin.root = 1 && s.begin.on F.CLK_REF_CTRL_AUTO) = true := by simpa [State.root] using And.intro h1 ha
    have hO := refConnect_only (acqAlt s.begin) (1 - s.quartz.acq)
    refine ⟨_, congrArg Host.Outcome.next (if_pos hg), (only_on hO (by decide)).trans ?_, hO.parts.quartz (by decide), ?_⟩
    · exact (withQuartz_on ..).trans (evt_on _ _ (by decide) (by decide) (by decide))
    · exact only_trans (only_withQuartz (by simp) (only_evt (by simp) (by simp [F.CLK_EVT_ACQ_ALT]) (by decide) (only_refl ..)))
        (only_mono (by simp) (by simp) hO)
  case loop =>
    intro s h2
    exact ⟨_, congrArg Host.Outcome.next (if_pos h2), g_put_self (by decide) (by decide) (by decide), only_put _ (by simp) (by decide) (only_refl ..)⟩
  case acquire =>
    intro s h2
    exact ⟨_, congrArg Host.Outcome.next (if_pos h2), g_put_self (by decide) (by decide) (by decide), only_put _ (by simp) (by decide) (only_refl ..)⟩
  case dividers =>
    intro s h3
    exact ⟨_, congrArg Host.Outcome.next (if_pos h3), rootLocked_reads s.begin⟩
  case notWaiting =>
    intro s h1
    exact ⟨congrArg Host.Outcome.next (if_neg h1), congrArg Host.Outcome.next (if_neg (by simp [show s.begin.root ≠ 1 from h1]))⟩
  case notAcquiring =>
    intro s h2
    exact ⟨congrArg Host.Outcome.next (if_neg h2), congrArg Host.Outcome.next (if_neg h2)⟩
  case notAligning =>
    intro s h3
    exact congrArg Host.Outcome.next (if_neg h3)
  case expiry =>
    intro s h _ _
    obtain ⟨he, hr, hl⟩ := holdoverEnds_reads s.begin (begin_trigNow s)
    exact ⟨_, exec_holdoverExpiry h, he, hr, hl, holdoverEnds_mem _⟩
  case gate =>
    intro s h8
    obtain ⟨hr, hok, hal, hlt⟩ := rootGate_reads s.begin
    obtain ⟨hm, hf, hmem⟩ := gateStops_parts s.begin
    have hroot : (gateStops s.begin).root = 1 := (gateStops_g _ (by decide)).trans hr
    have hO := refConnect_only (gateStops s.begin) ((s.begin.rootGate 1).linksLock.g F.CLK_REF_CTRL_SEL)
    refine ⟨_, exec_stoppingGate h8, refConnect_root hroot _, ?_, ?_, ?_, ?_, ?_, ?_⟩
    · exact (only_on hO (by decide)).trans ((on_congr (gateStops_g _ (by decide))).trans hok)
    · exact (only_on hO (by decide)).trans ((on_congr (gateStops_g _ (by decide))).trans hal)
    · exact (only_on hO (by decide)).trans ((on_congr (gateStops_g _ (by decide))).trans hlt)
    · rw [hO.parts.quartz (by decide)]
      exact hm
    · rw [hO.parts.quartz (by decide)]
      exact hf
    · rw [hO.parts.mem (by decide)]
      exact hmem

end Sys2Proof.Proofs.QuartzRoot
end

section
/-! PROOF. Quartz: the switch of reference (ReferenceSwitching) and the clock monitor (ClockSupervision). -/

namespace Sys2Proof.Proofs.QuartzReference

open Sys2Proof.Machine Sys2Proof.Laws Sys2Proof.Proofs.Architecture Sys2Proof.Proofs.Reading Sys2Proof.Proofs.GovernorSums

/-! ### The switch of reference -/

/-- A lost reference: HOLDOVER, with the loss of that link as its event. -/
def lossEnters (s : State) : State := (s.put F.CLK_STAT_STATE 5).evt (lossFld (s.g F.CLK_STAT_REF_ACT))

theorem lossFld_cases (l : Nat) : lossFld l = F.CLK_EVT_LOSS_A ∨ lossFld l = F.CLK_EVT_LOSS_B := by
  unfold lossFld
  split_ifs <;> simp

theorem lossEnters_reads (s : State) : (lossEnters s).root = 5 ∧ (lossEnters s).on (lossFld (s.g F.CLK_STAT_REF_ACT)) = true
    ∧ s.Only [F.CLK_STAT_STATE, lossFld (s.g F.CLK_STAT_REF_ACT), F.UNIT_IRQ_STAT_EVT 0x01] [] (lossEnters s) := by
  unfold lossEnters
  generalize lossFld (s.g F.CLK_STAT_REF_ACT) = f, lossFld_cases (s.g F.CLK_STAT_REF_ACT) = hf
  have hroot : (s.put F.CLK_STAT_STATE 5).g F.CLK_STAT_STATE = 5 := g_put_self (by decide) (by decide) (by decide)
  rcases hf with rfl | rfl
  · exact ⟨(g_evt_other _ _ _ (by decide) (by decide) (by decide)).trans hroot, evt_on _ _ (by decide) (by decide) (by decide),
      only_evt (by simp) (by simp [F.CLK_EVT_LOSS_A]) (by decide) (only_put _ (by simp) (by decide) (only_refl ..))⟩
  · exact ⟨(g_evt_other _ _ _ (by decide) (by decide) (by decide)).trans hroot, evt_on _ _ (by decide) (by decide) (by decide),
      only_evt (by simp) (by simp [F.CLK_EVT_LOSS_B]) (by decide) (only_put _ (by simp) (by decide) (only_refl ..))⟩

theorem leaveHoldover_of_other {s : State} (h5 : s.root = 5) (ha : s.on F.CLK_REF_CTRL_AUTO = true) (he : s.eligible (1 - s.quartz.lost) = true) :
    s.leaveHoldover = s.switchTo (1 - s.quartz.lost) := by
  simp [State.leaveHoldover, h5, ha, he]

theorem leaveHoldover_of_same {s : State} (h5 : s.root = 5) (ho : (s.on F.CLK_REF_CTRL_AUTO && s.eligible (1 - s.quartz.lost)) = false)
    (he : s.eligible s.quartz.lost = true) : s.leaveHoldover = s.switchTo s.quartz.lost := by
  rw [Bool.and_eq_false_iff] at ho
  rcases ho with ho | ho <;> simp [State.leaveHoldover, h5, ho, he]

theorem switchTo_reads (s : State) (l : Nat) :
    (s.switchTo l).root = 6 ∧ (s.switchTo l).quartz = { s.quartz with target := l } ∧ s.Only [F.CLK_STAT_STATE] [.quartz] (s.switchTo l) :=
  ⟨(withQuartz_g ..).trans (g_put_self (by decide) (by decide) (by decide)), rfl,
    only_withQuartz (by simp) (only_put _ (by simp) (by decide) (only_refl ..))⟩

theorem exec_clkRefCmd {s : State} {m : Master} (v : Word) (hm : s.masterRuns m = true) (hw : s.mayWrite m 0x01 0x48 = true) :
    exec (.clkRefCmd m v) s = .next (s.begin.refCmd v) :=
  congrArg Host.Outcome.next (masterWrite_special v hm hw (by decide) (by decide) (by decide) (by decide) (by decide) (by decide) (by decide))

theorem muxDone_reads (s : State) (wait : Nat) (hw : wait < 128) :
    (s.muxDone wait).root = 7 ∧ (s.muxDone wait).g F.CLK_STAT_REF_ACT = s.quartz.target % 2 ∧ (s.muxDone wait).g F.CLK_SW_FORCED_WAIT = wait
      ∧ (s.muxDone wait).quartz = { s.quartz with frozen := false, lost := 2 }
      ∧ s.Only [F.CLK_SW_FORCED_WAIT, F.CLK_STAT_REF_ACT, F.CLK_STAT_STATE, F.CLK_FREQ_ERR_VALID] [.quartz] (s.muxDone wait) := by
  refine ⟨?_, ?_, ?_, rfl, ?_⟩
  · exact ((withQuartz_g ..).trans (g_put_other _ _ _ _ (by decide) (by decide))).trans (g_put_self (by decide) (by decide) (by decide))
  · refine (((withQuartz_g ..).trans (g_put_other _ _ _ _ (by decide) (by decide))).trans (g_put_other _ _ _ _ (by decide) (by decide))).trans ?_
    exact g_put_same _ _ _ (by decide) (by decide)
  · refine (((withQuartz_g ..).trans (g_put_other _ _ _ _ (by decide) (by decide))).trans (g_put_other _ _ _ _ (by decide) (by decide))).trans ?_
    exact (g_put_other _ _ _ _ (by decide) (by decide)).trans (g_put_self (by decide) (by decide) hw)
  · exact only_withQuartz (by simp) (only_put _ (by simp) (by decide) (only_put _ (by simp) (by decide) (only_put _ (by simp) (by decide)
      (only_put _ (by simp) (by decide) (only_refl ..)))))

/-- The forced switch before its fault is raised. -/
def forcedDone (s : State) : State := ((s.evt F.CLK_SW_FORCED_FLAG).incSat F.CLK_SW_FORCED_COUNT).muxDone 64

theorem forcedDone_reads (s : State) : (forcedDone s).root = 7 ∧ (forcedDone s).g F.CLK_STAT_REF_ACT = s.quartz.target % 2
    ∧ (forcedDone s).g F.CLK_SW_FORCED_WAIT = 64 ∧ (forcedDone s).on F.CLK_SW_FORCED_FLAG = true := by
  obtain ⟨h7, hact, hwait, -, hO⟩ := muxDone_reads ((s.evt F.CLK_SW_FORCED_FLAG).incSat F.CLK_SW_FORCED_COUNT) 64 (by decide)
  refine ⟨h7, ?_, hwait, ?_⟩
  · rwa [incSat_quartz, evt_quartz] at hact
  · refine (only_on hO (by decide)).trans ((on_congr (g_incSat_other _ _ _ (by decide) (by decide))).trans ?_)
    exact evt_on _ _ (by decide) (by decide) (by decide)

theorem forcedDone_fits (s : State) : s.Fits (Foot.of [0x01] [.quartz]) (forcedDone s) :=
  muxDone_fits _ _ (by decide) (incSat_fits (by decide) (evt_fits (by decide) (fits_refl _ s)))

/-- Settles O3: the moves between HOLDOVER, SWITCH, SLEW and LOCKED, each as the chain of updates that makes it. -/
theorem referenceSwitching : Obligations.ReferenceSwitching := by
  unfold Obligations.ReferenceSwitching
  refine ⟨?loss, ?other, ?same, ?command, ?rejected, ?idle, ?mux, ?forced, ?lock⟩
  case loss =>
    intro s hr
    have hg : (s.begin.root = 4 || s.begin.root = 7) = true := by
      simpa using (show s.begin.root = 4 ∨ s.begin.root = 7 from hr)
    obtain ⟨h5, hev, hO⟩ := lossEnters_reads s.begin
    exact ⟨_, congrArg Host.Outcome.next (if_pos hg), (withQuartz_g ..).trans h5, (withQuartz_on ..).trans hev, rfl, rfl, rfl,
      only_withQuartz (by simp) (only_mono (by simp) (by simp) hO)⟩
  case other =>
    intro s h5 ha he
    exact ⟨_, congrArg Host.Outcome.next (leaveHoldover_of_other (s := s.begin) h5 ha he), switchTo_reads ..⟩
  case same =>
    intro s h5 ho he
    exact ⟨_, congrArg Host.Outcome.next (leaveHoldover_of_same (s := s.begin) h5 ho he), switchTo_reads ..⟩
  case command =>
    intro s m v hm hw hgo h4 hne he
    have hgo' : wordField v 0 0 ≠ 0 := by omega
    have hel : ¬ (!s.begin.eligible (wordField v 1 1)) = true := by simpa using (show s.begin.eligible (wordField v 1 1) = true from he)
    have hcmd : s.begin.refCmd v = (s.begin.switchTo (wordField v 1 1)).withQuartz
        { s.begin.quartz with target := wordField v 1 1, frozen := true, holdSince := some s.begin.now, lost := 2 } :=
      (if_neg hgo').trans ((if_neg (not_not_intro h4)).trans ((if_neg hne).trans (if_neg hel)))
    obtain ⟨h6, -, hO⟩ := switchTo_reads s.begin (wordField v 1 1)
    exact ⟨_, (exec_clkRefCmd v hm hw).trans (congrArg Host.Outcome.next hcmd), (withQuartz_g ..).trans h6, rfl, only_withQuartz (by simp) hO⟩
  case rejected =>
    intro s m v hm hw hgo h4
    have hcmd : s.begin.refCmd v = s.begin.evt F.CLK_EVT_CMD_REJ := (if_neg (by omega)).trans (if_pos h4)
    exact ⟨_, (exec_clkRefCmd v hm hw).trans (congrArg Host.Outcome.next hcmd), evt_on _ _ (by decide) (by decide) (by decide),
      only_evt (by simp) (by simp [F.CLK_EVT_CMD_REJ]) (by decide) (only_refl ..)⟩
  case idle =>
    intro s m v hm hw hgo
    exact (exec_clkRefCmd v hm hw).trans (congrArg Host.Outcome.next (if_pos hgo))
  case mux =>
    intro s wait h6 hw
    have hg : (s.begin.root = 6 && decide (wait < 64)) = true := by simpa [State.root] using And.intro h6 hw
    obtain ⟨h7, hact, hwait, hq, hO⟩ := muxDone_reads s.begin (if s.quartz.lost = 2 then 0 else wait) (by split_ifs <;> omega)
    exact ⟨_, congrArg Host.Outcome.next (if_pos hg), h7, hact, hwait, hq, hO⟩
  case forced =>
    intro s h6
    obtain ⟨h7, hact, hwait, hflag⟩ := forcedDone_reads s.begin
    refine ⟨(forcedDone s.begin).raise S.CLK_SW_FORCED 0, congrArg Host.Outcome.next (if_pos h6), ?_, ?_, ?_, ?_, ?_, ?_⟩
    · exact (raise_g _ _ _ (by decide)).trans h7
    · exact (raise_g _ _ _ (by decide)).trans hact
    · exact (raise_g _ _ _ (by decide)).trans hwait
    · exact (on_congr (raise_g _ _ _ (by decide))).trans hflag
    · intro hd
      refine raise_pend _ 0 (by decide) ?_
      rwa [fits_defLevel (forcedDone_fits s.begin) rfl rfl]
    · exact within_trans (begin_within (by decide) s) (raise_fits _ _ 0 (by decide) (by decide) (fits_mono (by decide) (forcedDone_fits s.begin))).within
  case lock =>
    intro s h7
    refine ⟨_, congrArg Host.Outcome.next (if_pos h7), ?_, ?_, rfl, ?_⟩
    · exact ((withQuartz_g ..).trans (g_put_other _ _ _ _ (by decide) (by decide))).trans (g_put_self (by decide) (by decide) (by decide))
    · refine ((withQuartz_g ..).trans (g_put_same _ _ _ (by decide) (by decide))).trans ?_
      rw [g_put_other _ _ _ _ (by decide) (by decide)]
      rfl
    · exact only_withQuartz (by simp) (only_inc (by simp) (by decide) (only_put _ (by simp) (by decide) (only_refl ..)))

/-! ### The clock monitor -/

theorem tbit_mask (a b c d e : Bool) : tbit (bit a + 2 * bit b + 4 * bit c + 8 * bit d + 16 * bit e) 0 = a
    ∧ tbit (bit a + 2 * bit b + 4 * bit c + 8 * bit d + 16 * bit e) 3 = d
    ∧ tbit ((bit a + 2 * bit b + 4 * bit c + 8 * bit d + 16 * bit e) &&& 0x1C) 3 = d := by
  revert a b c d e
  decide

/-- The bit of CLK_MON_STAT for clock i. -/
def monBit (i : Nat) : Fld := ⟨0x01, 0x54, i, i⟩

theorem evt_monBit_on {s : State} {i j : Nat} (hi : i < 32) (hj : j < 32) (h : j = i ∨ s.on (monBit i) = true) :
    (s.evt (monBit j)).on (monBit i) = true := by
  by_cases hij : j = i
  · subst hij
    exact evt_on _ _ hj rfl (by simp [Fld.apart, Fld.addr, monBit, F.UNIT_IRQ_STAT_EVT])
  · refine (on_evt_other hj ?_ (by simp [Fld.apart, Fld.addr, monBit, F.UNIT_IRQ_STAT_EVT])).trans (h.resolve_left hij)
    simp only [Fld.apart, Fld.addr, monBit]
    rcases Nat.lt_or_gt_of_ne hij with hlt | hlt <;> simp [hlt]

/-- The events of a mask's bits, shown one after the other. -/
def monEvents (mask : Nat) (s : State) (l : List Nat) : State := l.foldl (fun s i => if tbit mask i then s.evt (monBit i) else s) s

theorem monEvents_on {mask i : Nat} (hi : i < 32) (ht : tbit mask i = true) (l : List Nat) (hl : ∀ j ∈ l, j < 32) (s : State)
    (h : i ∈ l ∨ s.on (monBit i) = true) : (monEvents mask s l).on (monBit i) = true := by
  induction l generalizing s with
  | nil => simpa [monEvents] using h
  | cons j l ih =>
    have hj : j < 32 := hl j (by simp)
    refine ih (fun k hk => hl k (by simp [hk])) _ ?_
    show i ∈ l ∨ (if tbit mask j then s.evt (monBit j) else s).on (monBit i) = true
    rcases h with hmem | hon
    · rcases List.mem_cons.1 hmem with rfl | hmem
      · rw [if_pos ht]
        exact .inr (evt_monBit_on hi hj (.inl rfl))
      · exact .inl hmem
    · split_ifs
      · exact .inr (evt_monBit_on hi hj (.inr hon))
      · exact .inr hon

theorem monEvents_good (mask : Nat) (s : State) (l : List Nat) : (monEvents mask s l).g F.CLK_STAT_MON_GOOD = s.g F.CLK_STAT_MON_GOOD := by
  refine foldl_g (fun u j => ite_g (fun _ => ?_) (fun _ => rfl)) l s
  unfold State.evt
  refine ite_g (fun _ => rfl) (fun _ => ?_)
  rw [g_put_other _ _ _ _ (by simp [F.UNIT_IRQ_STAT_EVT]) (by simp [Fld.apart, Fld.addr, monBit, F.UNIT_IRQ_STAT_EVT, F.CLK_STAT_MON_GOOD])]
  simp only [State.g]
  rw [word_put_other _ _ _ (by simp [Fld.addr, monBit, F.CLK_STAT_MON_GOOD])]

/-- A trip of the monitor shows each bit of its mask, and MON_GOOD reads 0. -/
theorem monitorTrip_reads (s : State) {mask i : Nat} (hi : i < 6) (ht : tbit mask i = true) :
    (s.monitorTrip mask).on (monBit i) = true ∧ (s.monitorTrip mask).on F.CLK_STAT_MON_GOOD = false := by
  have htrip : s.monitorTrip mask = ((monEvents mask (s.put F.CLK_STAT_MON_GOOD 0) (List.range 6)).raiseTrig S.CLK_MON 0 4
      (((monEvents mask (s.put F.CLK_STAT_MON_GOOD 0) (List.range 6)).word 0x1054).toNat % 64) false).settle := rfl
  have hquiet : ∀ j < 6, quietField (monBit j) = true := by decide
  have hkeep : ∀ x : Fld, quietField x = true → groupPage x.page ≠ 0x68 →
      (s.monitorTrip mask).g x = (monEvents mask (s.put F.CLK_STAT_MON_GOOD 0) (List.range 6)).g x := fun x hq hx => by
    rw [htrip, fits_g (settle_fits _ (le_self _) (fits_refl _ _)) rfl (by simpa [Foot.of] using hx), raiseTrig_g _ _ _ _ _ _ hq]
  constructor
  · refine (on_congr (hkeep _ (hquiet i hi) (by simp [monBit, groupPage]))).trans ?_
    exact monEvents_on (by omega) ht _ (by decide) _ (.inl (by simpa using hi))
  · refine (on_congr ((hkeep _ (by decide) (by decide)).trans (monEvents_good ..))).trans ?_
    exact on_put_zero (by decide) (by decide)

/-- The counts of a window of the clock monitor, as its registers show them. -/
def monitorCounts (s : State) (lane pix core peri hk : Nat) : State :=
  ((((s.put (F.CLK_MON_CNT_CNT_LO 0) pix).put (F.CLK_MON_CNT_CNT_HI 0) core).put (F.CLK_MON_CNT_CNT_LO 1) peri).put (F.CLK_MON_CNT_CNT_HI 1) hk).put
    (F.CLK_MON_CNT_CNT_LO 2) lane

/-- The counts that lie outside: a bit for each clock. -/
def monitorMask (s : State) (lane pix core peri hk : Nat) : Nat :=
  bit (outside lane 180 220 1 1)
    + 2 * bit (if s.on F.CLK_STAT_RF_ACTIVE then outside pix 180 220 (8 * 65536) (s.g F.CLK_RF_PIX_DIV) else outside pix 180 220 1 1)
    + 4 * bit (if s.on F.CLK_STAT_RF_ACTIVE then outside core 180 220 (16 * 65536) (s.g F.CLK_RF_CORE_DIV) else outside core 180 220 1 1)
    + 8 * bit (outside peri 180 220 1 1) + 16 * bit (outside hk 45 55 1 1)

/-- Of them, those that are judged in the power state. -/
def monitorJudged (s : State) (lane pix core peri hk : Nat) : Nat :=
  if s.pwr.st = .sleep then monitorMask s lane pix core peri hk &&& 0x1C else monitorMask s lane pix core peri hk

theorem exec_monitorWindowEnd {s : State} (lane pix core peri hk : Nat) (h : s.quartz.rc = .running) :
    exec (.monitorWindowEnd lane pix core peri hk) s = .next (
      if (monitorCounts s.begin lane pix core peri hk).quartz.masked
          || monitorJudged (monitorCounts s.begin lane pix core peri hk) lane pix core peri hk = 0 then
        monitorCounts s.begin lane pix core peri hk
      else (monitorCounts s.begin lane pix core peri hk).monitorTrip
        (monitorJudged (monitorCounts s.begin lane pix core peri hk) lane pix core peri hk)) :=
  congrArg Host.Outcome.next (if_pos h)

theorem monitorCounts_only (s : State) (lane pix core peri hk : Nat) :
    s.Only [F.CLK_MON_CNT_CNT_LO 0, F.CLK_MON_CNT_CNT_HI 0, F.CLK_MON_CNT_CNT_LO 1, F.CLK_MON_CNT_CNT_HI 1, F.CLK_MON_CNT_CNT_LO 2] []
      (monitorCounts s lane pix core peri hk) :=
  only_put _ (by simp) (by decide) (only_put _ (by simp) (by decide) (only_put _ (by simp) (by decide) (only_put _ (by simp) (by decide)
    (only_put _ (by simp) (by decide) (only_refl ..)))))

theorem monitorCounts_fits (s : State) (lane pix core peri hk : Nat) : s.Fits (Foot.of [0x01] []) (monitorCounts s lane pix core peri hk) :=
  put_fits _ rfl (put_fits _ rfl (put_fits _ rfl (put_fits _ rfl (put_fits _ rfl (fits_refl ..)))))

theorem monitorCounts_reads (s : State) {lane pix core peri hk : Nat} (hl : lane < 65536) (hp : pix < 65536) (hc : core < 65536)
    (hr : peri < 65536) (hh : hk < 65536) :
    (monitorCounts s lane pix core peri hk).g (F.CLK_MON_CNT_CNT_LO 0) = pix ∧ (monitorCounts s lane pix core peri hk).g (F.CLK_MON_CNT_CNT_HI 0) = core
      ∧ (monitorCounts s lane pix core peri hk).g (F.CLK_MON_CNT_CNT_LO 1) = peri
      ∧ (monitorCounts s lane pix core peri hk).g (F.CLK_MON_CNT_CNT_HI 1) = hk
      ∧ (monitorCounts s lane pix core peri hk).g (F.CLK_MON_CNT_CNT_LO 2) = lane := by
  unfold monitorCounts
  refine ⟨?_, ?_, ?_, ?_, g_put_self (by decide) (by decide) hl⟩ <;> simp (disch := decide) only [g_put_other]
  · exact g_put_self (by decide) (by decide) hp
  · exact g_put_self (by decide) (by decide) hc
  · exact g_put_self (by decide) (by decide) hr
  · exact g_put_self (by decide) (by decide) hh

/-- A judged count outside its limits trips the monitor. -/
theorem window_trips {s : State} {lane pix core peri hk i : Nat} (hrc : s.quartz.rc = .running) (hm : s.quartz.masked = false) (hi : i < 6)
    (ht : tbit (monitorJudged (monitorCounts s.begin lane pix core peri hk) lane pix core peri hk) i = true) :
    ∃ t, exec (.monitorWindowEnd lane pix core peri hk) s = .next t ∧ t.on (monBit i) = true ∧ t.on F.CLK_STAT_MON_GOOD = false
      ∧ s.Within (Foot.reaction [0x01] []) t := by
  have h0 : monitorJudged (monitorCounts s.begin lane pix core peri hk) lane pix core peri hk ≠ 0 := by
    intro h0
    simp [h0, tbit] at ht
  have hg : ¬ ((monitorCounts s.begin lane pix core peri hk).quartz.masked
      || monitorJudged (monitorCounts s.begin lane pix core peri hk) lane pix core peri hk = 0) = true := by
    simp [(monitorCounts_only s.begin lane pix core peri hk).parts.quartz (by decide), hm, h0]
  obtain ⟨hon, hgood⟩ := monitorTrip_reads (monitorCounts s.begin lane pix core peri hk) hi ht
  refine ⟨_, (exec_monitorWindowEnd lane pix core peri hk hrc).trans (congrArg Host.Outcome.next (if_neg hg)), hon, hgood, ?_⟩
  exact within_trans (begin_within (by decide) s) (monitorTrip_fits _ _ (by decide) (fits_mono (by decide) (monitorCounts_fits ..))).within

theorem outside_of {n lo hi : Nat} (h : n < lo ∨ hi < n) : outside n lo hi 1 1 = true := by simpa [outside] using h

theorem outside_within {n lo hi : Nat} (h1 : lo ≤ n) (h2 : n ≤ hi) : outside n lo hi 1 1 = false := by
  simp [outside, h1, h2]

theorem freq_judged {s : State} {l : Nat} (hup : s.rootUp = true) (hl : l < 2) (hk : s.on (F.LNK_STAT_CDR_LOCK l) = true) :
    (s.begin.rootUp && decide (l < 2) && s.begin.on (F.LNK_STAT_CDR_LOCK l)) = true := by
  simp [show s.begin.rootUp = true from hup, hl, hk]

theorem rc_checked {s : State} (h4 : s.root = 4) (hrc : s.quartz.rc = .running) : (s.begin.root = 4 && s.begin.quartz.rc = .running) = true := by
  simp [show s.begin.root = 4 from h4, hrc]

theorem unsigned_lt (n : Nat) (i : Int) : unsigned n i < 2 ^ n := by
  have hpos : (0 : Int) < ((2 ^ n : Nat) : Int) := by exact_mod_cast Nat.two_pow_pos n
  have h := Int.emod_lt_of_pos i hpos
  unfold unsigned
  omega

/-- The RC check outside its limits: the count is stored and the oscillator marked. -/
def rcMarked (s : State) (count : Nat) : State := (s.put (F.CLK_MON_CNT_CNT_HI 2) count).withQuartz { s.quartz with rcTrip := true }

theorem rcMarked_fits (s : State) (count : Nat) : s.Fits (Foot.reaction [0x01] [.quartz]) (rcMarked s count) :=
  withQuartz_fits _ id (by decide) (put_fits _ (by decide) (fits_refl ..))

/-- Settles O4: the windows store what they measured, and the monitor trips on a judged count outside its limits. -/
theorem clockSupervision : Obligations.ClockSupervision := by
  unfold Obligations.ClockSupervision
  refine ⟨?freqOther, ?freqRef, ?within, ?lane, ?peri, ?rcWithin, ?rcOutside⟩
  case freqOther =>
    intro s l ppm hup hl hk hne
    have hg : (s.begin.rootUp && decide (l < 2) && s.begin.on (F.LNK_STAT_CDR_LOCK l)) = true := freq_judged hup hl hk
    refine ⟨_, congrArg Host.Outcome.next ((if_pos hg).trans (if_neg hne)), ?_, on_put_one _ _ (by decide) rfl, rfl, ?_⟩
    · rw [g_put_other _ _ _ _ (by decide) (by decide)]
      exact g_put_self (by decide) (by decide) (unsigned_lt 16 ppm)
    · exact only_put _ (by simp) (by decide) (only_put _ (by simp) (by decide) (only_withQuartz (by simp) (only_refl ..)))
  case freqRef =>
    intro s l ppm hup hl hk he
    have hg : (s.begin.rootUp && decide (l < 2) && s.begin.on (F.LNK_STAT_CDR_LOCK l)) = true := freq_judged hup hl hk
    exact ⟨_, congrArg Host.Outcome.next ((if_pos hg).trans (if_pos he)), rfl, only_withQuartz (by simp) (only_refl ..)⟩
  case within =>
    intro s lane pix core peri hk hrc hrf hin h45 h55
    simp only [List.mem_cons, List.not_mem_nil, or_false, forall_eq_or_imp, forall_eq] at hin
    obtain ⟨hlane, hpix, hcore, hperi⟩ := hin
    have hrf' : (monitorCounts s.begin lane pix core peri hk).on F.CLK_STAT_RF_ACTIVE = false :=
      (only_on (monitorCounts_only ..) (by decide)).trans hrf
    have h0 : monitorJudged (monitorCounts s.begin lane pix core peri hk) lane pix core peri hk = 0 := by
      simp [monitorJudged, monitorMask, hrf', outside_within hlane.1 hlane.2, outside_within hpix.1 hpix.2, outside_within hcore.1 hcore.2,
        outside_within hperi.1 hperi.2, outside_within h45 h55, bit]
    obtain ⟨r1, r2, r3, r4, r5⟩ := monitorCounts_reads s.begin (lane := lane) (pix := pix) (core := core) (peri := peri) (hk := hk) (by omega)
      (by omega) (by omega) (by omega) (by omega)
    exact ⟨_, (exec_monitorWindowEnd lane pix core peri hk hrc).trans (congrArg Host.Outcome.next (if_pos (by simp [h0]))), r1, r2, r3, r4, r5,
      monitorCounts_only ..⟩
  case lane =>
    intro s lane pix core peri hk hrc hm hst ho
    refine window_trips (i := 0) hrc hm (by decide) ?_
    have hst' : (monitorCounts s.begin lane pix core peri hk).pwr.st ≠ .sleep := by
      rw [(monitorCounts_only s.begin lane pix core peri hk).parts.pwr (by decide)]
      exact hst
    rw [monitorJudged, if_neg hst', monitorMask, (tbit_mask ..).1, outside_of ho]
  case peri =>
    intro s lane pix core peri hk hrc hm ho
    refine window_trips (i := 3) hrc hm (by decide) ?_
    rw [monitorJudged, monitorMask]
    by_cases hst : (monitorCounts s.begin lane pix core peri hk).pwr.st = .sleep
    · rw [if_pos hst, (tbit_mask ..).2.2, outside_of ho]
    · rw [if_neg hst, (tbit_mask ..).2.1, outside_of ho]
  case rcWithin =>
    intro s count h4 hrc h1 h2
    have hg : (s.begin.root = 4 && s.begin.quartz.rc = .running) = true := rc_checked h4 hrc
    have hin : ¬ (!(s.begin.put (F.CLK_MON_CNT_CNT_HI 2) count).quartz.masked && (decide (count < 4876) || decide (5610 < count))) = true := by
      simp [Nat.not_lt.2 h1, Nat.not_lt.2 h2]
    exact ⟨_, congrArg Host.Outcome.next ((if_pos hg).trans (if_neg hin)), g_put_self (by decide) (by decide) (lt_of_le_of_lt h2 (by decide)),
      only_put _ (by simp) (by decide) (only_refl ..)⟩
  case rcOutside =>
    intro s count h4 hrc hm ho
    have hg : (s.begin.root = 4 && s.begin.quartz.rc = .running) = true := rc_checked h4 hrc
    have hout : (!(s.begin.put (F.CLK_MON_CNT_CNT_HI 2) count).quartz.masked && (decide (count < 4876) || decide (5610 < count))) = true := by
      simpa [hm] using ho
    obtain ⟨hon, hgood⟩ := monitorTrip_reads (rcMarked s.begin count) (mask := 32) (i := 5) (by decide) (by decide)
    refine ⟨(rcMarked s.begin count).monitorTrip 32, congrArg Host.Outcome.next ((if_pos hg).trans (if_pos hout)), hon, hgood, ?_, ?_⟩
    · rw [within_quartz (monitorTrip_fits (rcMarked s.begin count) 32 (le_self _) (fits_refl _ _)).within rfl rfl]
      rfl
    · exact within_trans (begin_within (by decide) s) (monitorTrip_fits _ _ (by decide) (rcMarked_fits s.begin count)).within

end Sys2Proof.Proofs.QuartzReference
end

section
/-! PROOF. Whole-device resets: what a cold reset leaves (ColdResetSources), what a warm reset leaves (WarmResetSources, WarmResetsAfterWork)
and their release (ResetRelease). -/

namespace Sys2Proof.Proofs.DeviceResets

open Sys2Proof.Machine Sys2Proof.Laws Sys2Proof.Proofs.Architecture Sys2Proof.Proofs.Reading Sys2Proof.Proofs.GovernorSums

/-! ### Cold resets -/

theorem fits_word {g : Foot} {s t : State} (h : s.Fits g t) (ha : g.any = false) {a : Nat} (hu : groupPage (a / 4096) ∉ g.units) :
    t.word a = s.word a := by
  rcases h.within with hany | ⟨hregs, -⟩
  · rw [ha] at hany
    cases hany
  · exact hregs a hu

/-- Memory after a cold reset: what keeps its contents stands, and the rest reads as never written. -/
theorem afterCold_byte (s : State) (aon : Bool) (a : Nat) :
    (s.afterCold aon).byte a = if coldKeeps aon a then s.byte a else memDefault a := by
  split_ifs with hk
  · exact tabGet_keep s.mem (coldKeeps aon) a hk
  · exact tabGet_gone s.mem (coldKeeps aon) a (by simpa using hk)

/-- A cold reset with the fuses sensed, before its cause is shown. -/
def coldSensed (s : State) (aon : Bool) : State := (s.endJobFree.afterCold aon).senseFuses.tapReset

theorem coldSensed_fits (s : State) (aon : Bool) :
    (s.endJobFree.afterCold aon).Fits (Foot.of [0x02, 0x40, 0x78, 0x7A, 0x80, 0x81] [.sec]) (coldSensed s aon) :=
  tapReset_fits _ (by decide) (senseFuses_fits _ (by decide) (fits_refl ..))

theorem coldReset_eq (s : State) (cause : Fld) (aon : Bool) :
    s.coldReset cause aon =
      if (((coldSensed s aon).put cause 1).put F.RST_PIN_LEVEL (s.g F.RST_PIN_LEVEL)).rst.pg then
        (((coldSensed s aon).put cause 1).put F.RST_PIN_LEVEL (s.g F.RST_PIN_LEVEL)).rcAttempt 1
      else ((coldSensed s aon).put cause 1).put F.RST_PIN_LEVEL (s.g F.RST_PIN_LEVEL) := rfl

/-- A cause bit of RST_CAUSE. -/
def causeBit (f : Fld) : Bool := f.page = 0x02 && f.lo = f.hi && decide (f.hi < 32) && F.RST_PIN_LEVEL.apart f

theorem coldReset_fits_sensed (s : State) (aon : Bool) {cause : Fld} (hc : causeBit cause = true) :
    (s.endJobFree.afterCold aon).Fits (Foot.of [0x01, 0x02, 0x40, 0x78, 0x7A, 0x80, 0x81] [.sec, .quartz]) (s.coldReset cause aon) := by
  have hp : cause.page = 0x02 := by simp [causeBit] at hc; exact hc.1.1.1
  have hb : (s.endJobFree.afterCold aon).Fits (Foot.of [0x01, 0x02, 0x40, 0x78, 0x7A, 0x80, 0x81] [.sec, .quartz])
      (((coldSensed s aon).put cause 1).put F.RST_PIN_LEVEL (s.g F.RST_PIN_LEVEL)) :=
    put_fits _ (by decide) (put_fits _ (by rw [hp]; decide) (fits_mono (by decide) (coldSensed_fits s aon)))
  rw [coldReset_eq]
  exact fits_ite (rcAttempt_fits _ 1 (by decide) hb) hb

theorem coldReset_rst (s : State) (aon : Bool) {cause : Fld} (hc : causeBit cause = true) :
    (s.coldReset cause aon).rst = (s.endJobFree.afterCold aon).rst :=
  within_rst (coldReset_fits_sensed s aon hc).within rfl rfl

theorem endJobFree_parts (s : State) : s.endJobFree.mem = s.mem ∧ s.endJobFree.rst = s.rst := by
  have h := (endJobFree_fits s (le_self _) (fits_refl _ s)).within
  exact ⟨within_mem h rfl rfl, within_rst h rfl rfl⟩

theorem group_coldPages {p : Nat} (h : p ∉ coldPages) : groupPage p ∉ [0x01, 0x02, 0x04, 0x40, 0x78, 0x7A, 0x80, 0x81] := by
  unfold groupPage
  split_ifs
  · decide
  · decide
  · decide
  · decide
  · exact h

/-- A field that neither the cause, nor the pin, nor the RC start-up changes. -/
theorem coldReset_g (s : State) (aon : Bool) (cause : Fld) {x : Fld} (hh : cause.hi < 32) (hc : cause.apart x = true)
    (hp : F.RST_PIN_LEVEL.apart x = true) (hr : F.CLK_RC_START_ATTEMPTS.apart x = true) :
    (s.coldReset cause aon).g x = (coldSensed s aon).g x := by
  have hb : (((coldSensed s aon).put cause 1).put F.RST_PIN_LEVEL (s.g F.RST_PIN_LEVEL)).g x = (coldSensed s aon).g x := by
    rw [g_put_other _ _ _ _ (by decide) hp, g_put_other _ _ _ _ hh hc]
  rw [coldReset_eq]
  exact ite_g (fun _ => ((withQuartz_g ..).trans (g_put_other _ _ _ _ (by decide) hr)).trans hb) (fun _ => hb)

theorem coldReset_cause (s : State) (aon : Bool) {cause : Fld} (hc : causeBit cause = true) : (s.coldReset cause aon).on cause = true := by
  simp only [causeBit, Bool.and_eq_true, decide_eq_true_eq] at hc
  obtain ⟨⟨⟨hpage, hone⟩, hh⟩, hpin⟩ := hc
  have hb : (((coldSensed s aon).put cause 1).put F.RST_PIN_LEVEL (s.g F.RST_PIN_LEVEL)).on cause = true :=
    (on_put_other _ _ _ _ (by decide) hpin).trans (on_put_one _ _ hh hone)
  have hrc : F.CLK_RC_START_ATTEMPTS.apart cause = true := by
    simp only [Fld.apart, Fld.addr, F.CLK_RC_START_ATTEMPTS, hpage]
    simp
    omega
  rw [coldReset_eq]
  split_ifs
  · exact ((withQuartz_on ..).trans (on_put_other _ _ _ _ (by decide) hrc)).trans hb
  · exact hb

theorem coldReset_pin (s : State) (aon : Bool) (cause : Fld) : (s.coldReset cause aon).g F.RST_PIN_LEVEL = s.g F.RST_PIN_LEVEL := by
  have hb : (((coldSensed s aon).put cause 1).put F.RST_PIN_LEVEL (s.g F.RST_PIN_LEVEL)).g F.RST_PIN_LEVEL = s.g F.RST_PIN_LEVEL :=
    g_put_self (by decide) (by decide) (by have := g_le_top s F.RST_PIN_LEVEL; simp [Fld.top, F.RST_PIN_LEVEL] at this ⊢; omega)
  rw [coldReset_eq]
  split_ifs
  · exact ((withQuartz_g ..).trans (g_put_other _ _ _ _ (by decide) (by decide))).trans hb
  · exact hb

/-- With PMIC_PG high a cold reset starts the oscillator's first attempt (R64). -/
theorem coldReset_attempt (s : State) (cause : Fld) (aon : Bool) (hpg : s.rst.pg = true) : (s.coldReset cause aon).quartz.rc = .attempt := by
  have hrst : (coldSensed s aon).rst = (s.endJobFree.afterCold aon).rst := within_rst (coldSensed_fits s aon).within rfl rfl
  have hpost : (((coldSensed s aon).put cause 1).put F.RST_PIN_LEVEL (s.g F.RST_PIN_LEVEL)).rst.pg = true := by
    rw [put_rst, put_rst, hrst]
    exact (congrArg Rst.pg (endJobFree_parts s).2).trans hpg
  rw [coldReset_eq, if_pos hpost]
  rfl

theorem coldReset_byte (s : State) (aon : Bool) {cause : Fld} (hc : causeBit cause = true) (a : Nat) :
    (s.coldReset cause aon).byte a = if coldKeeps aon a then s.byte a else memDefault a := by
  have hmem : (s.coldReset cause aon).mem = (s.endJobFree.afterCold aon).mem := within_mem (coldReset_fits_sensed s aon hc).within rfl rfl
  have hs : s.endJobFree.byte a = s.byte a := by rw [State.byte, (endJobFree_parts s).1, State.byte]
  rw [State.byte, hmem, ← State.byte, afterCold_byte, hs]

/-- What a cold reset by a source leaves. -/
theorem coldReset_leaves (s : State) (aon : Bool) {cause : Fld} (hc : causeBit cause = true) :
    s.ColdReset cause aon (s.coldReset cause aon) where
  scope := congrArg Rst.scope (coldReset_rst s aon hc)
  cause := coldReset_cause s aon hc
  root := by
    have hcl : cause.hi < 32 ∧ cause.apart F.CLK_STAT_STATE = true := by
      simp only [causeBit, Bool.and_eq_true, decide_eq_true_eq] at hc
      obtain ⟨⟨⟨hpage, -⟩, hh⟩, -⟩ := hc
      refine ⟨hh, ?_⟩
      simp only [Fld.apart, Fld.addr, F.CLK_STAT_STATE, hpage]
      simp
      omega
    rw [State.root, coldReset_g s aon cause hcl.1 hcl.2 (by decide) (by decide), fits_g (coldSensed_fits s aon) rfl rfl]
    exact (by decide : wordField (resetWord F.CLK_STAT_STATE.addr) F.CLK_STAT_STATE.hi F.CLK_STAT_STATE.lo = 0)
  words := fun a ha => (fits_word (coldReset_fits_sensed s aon hc) rfl (fun h => group_coldPages ha (by
    simp only [Foot.of, List.mem_cons, List.not_mem_nil, or_false] at h ⊢
    omega))).trans rfl
  flash := fun a ha => by rw [coldReset_byte s aon hc, if_pos (by simp [coldKeeps, ha])]
  slate := fun a ha => by rw [coldReset_byte s aon hc, if_neg (by simp [coldKeeps, ha])]
  retention := fun a ha => by rw [coldReset_byte s aon hc]; simp [coldKeeps, ha]

/-- What a source does beside its cold reset: the hidden state of RST that is no scope, and fields of the pages that a cold reset leaves out. -/
theorem cold_withRst {s t : State} {cause : Fld} {aon : Bool} (h : s.ColdReset cause aon t) {r : Rst} (hr : r.scope = some .cold) :
    s.ColdReset cause aon (t.withRst r) :=
  ⟨hr, (withRst_on ..).trans h.cause, (withRst_g ..).trans h.root, h.words, h.flash, h.slate, h.retention⟩

theorem cold_put {s t : State} {cause : Fld} {aon : Bool} (h : s.ColdReset cause aon t) {x : Fld} (v : Nat) (hh : x.hi < 32)
    (hp : x.page ∈ coldPages) (hc : x.apart cause = true) (hr : x.apart F.CLK_STAT_STATE = true) : s.ColdReset cause aon (t.put x v) := by
  refine ⟨?_, (on_put_other _ _ _ _ hh hc).trans h.cause, (g_put_other _ _ _ _ hh hr).trans h.root, fun a ha => ?_, h.flash, h.slate, h.retention⟩
  · rw [put_rst]
    exact h.scope
  · refine (word_put_other _ _ _ (fun hx => ha ?_)).trans (h.words a ha)
    rw [hx, addr_page]
    exact hp

theorem cold_holdPin {s t : State} {cause : Fld} {aon : Bool} (h : s.ColdReset cause aon t) : s.ColdReset cause aon t.holdPin :=
  cold_withRst h h.scope

/-- A cold reset is said of the state that the command found, whose memory the source has left. -/
theorem cold_mem {s s' t : State} {cause : Fld} {aon : Bool} (h : s'.ColdReset cause aon t) (hm : s'.mem = s.mem) : s.ColdReset cause aon t := by
  have hb : ∀ a, s'.byte a = s.byte a := fun a => by rw [State.byte, hm, State.byte]
  exact ⟨h.scope, h.cause, h.root, h.words, fun a ha => (h.flash a ha).trans (hb a), h.slate, fun a ha => by rw [h.retention a ha, hb]⟩

/-- PMIC_PG goes low, and comes back in OFF. -/
def pgGone (s : State) : State := s.begin.withRst { s.begin.rst with pg := false }

def pgBack (s : State) (st : Straps) : State := (s.begin.withRst { s.begin.rst with pg := true }).setStraps st

/-- Settles O5: each source is the one cold reset, with what the source does beside it. -/
theorem coldResetSources : Obligations.ColdResetSources := by
  unfold Obligations.ColdResetSources
  refine ⟨?pgLoss, ?supply, ?por, ?crit, ?rise⟩
  case pgLoss =>
    intro s rstLow hp hpg
    have hg : ¬ (s.begin.poweredStop || !s.begin.rst.pg) = true := by
      simp [show s.begin.poweredStop = false from hp, hpg]
    have hcold := cold_mem (s := s) (coldReset_leaves (pgGone s) true (cause := F.RST_CAUSE_PG_LOSS) (by decide)) rfl
    have hpgone : ((pgGone s).coldReset F.RST_CAUSE_PG_LOSS true).rst.pg = false := by
      rw [coldReset_rst _ _ (by decide)]
      exact congrArg Rst.pg (endJobFree_parts (pgGone s)).2
    refine ⟨_, congrArg Host.Outcome.next (if_neg hg), ?_⟩
    cases rstLow
    · exact ⟨hcold, hpgone, coldReset_pin ..⟩
    · refine ⟨cold_put hcold 0 (by decide) (by decide) (by decide) (by decide), ?_, g_put_self (by decide) (by decide) (by decide)⟩
      exact (congrArg Rst.pg (put_rst ..)).trans hpgone
  case supply =>
    intro s hp
    exact ⟨_, congrArg Host.Outcome.next (if_neg (by simp [show s.begin.poweredStop = false from hp])),
      cold_mem (cold_holdPin (coldReset_leaves s.begin true (by decide))) rfl⟩
  case por =>
    intro s
    exact ⟨_, rfl, cold_mem (cold_holdPin (coldReset_leaves s.begin false (by decide))) rfl⟩
  case crit =>
    intro s hoff
    have hcold := cold_mem (s := s) (cold_holdPin (coldReset_leaves s.begin true (cause := F.RST_CAUSE_THM_CRIT) (by decide))) rfl
    have hput := cold_put hcold (x := F.THM_STAT_CRIT_CLR) 0 (by decide) (by decide) (by decide) (by decide)
    exact ⟨_, congrArg Host.Outcome.next (if_neg hoff), cold_withRst hput hput.scope, rfl,
      (withRst_g ..).trans (g_put_self (by decide) (by decide) (by decide))⟩
  case rise =>
    intro s st hoff
    have hpg : ((pgBack s st).coldReset F.RST_CAUSE_POR false).rst.pg = true := by
      rw [coldReset_rst _ _ (by decide)]
      exact congrArg Rst.pg (endJobFree_parts (pgBack s st)).2
    exact ⟨((pgBack s st).coldReset F.RST_CAUSE_POR false).holdPin, congrArg Host.Outcome.next (if_pos hoff),
      cold_mem (cold_holdPin (coldReset_leaves (pgBack s st) false (by decide))) rfl, hpg,
      coldReset_attempt (pgBack s st) F.RST_CAUSE_POR false rfl⟩

/-! ### Warm resets -/

/-- A field of the root's page that a warm reset's own updates leave: it stands as the banks' reset has left it. -/
theorem warmReset_g {s : State} (hs : s.rst.scope ≠ some .cold) {cause : Fld} (hc : causeBit cause = true) (pin : Bool) {x : Fld}
    (hp : x.page = 0x01) (hrf : F.CLK_STAT_RF_ACTIVE.apart x = true) (hssc : F.CLK_STAT_SSC_ACTIVE.apart x = true)
    (hrc : F.CLK_RC_START_ATTEMPTS.apart x = true) : (s.warmReset cause pin).g x = s.endJob.afterWarm.g x := by
  simp only [causeBit, Bool.and_eq_true, decide_eq_true_eq] at hc
  obtain ⟨⟨⟨hpage, -⟩, hh⟩, -⟩ := hc
  have hcx : cause.apart x = true := by
    simp only [Fld.apart, Fld.addr, hpage, hp]
    simp
    omega
  have hsense : s.endJob.afterWarm.senseFuses.tapReset.g x = s.endJob.afterWarm.g x :=
    fits_g (tapReset_fits (g := Foot.of [0x02, 0x40, 0x78, 0x7A, 0x80, 0x81] [.sec]) _ (by decide) (senseFuses_fits _ (by decide) (fits_refl ..)))
      rfl (by rw [hp]; decide)
  have hclk : ∀ v, (((s.endJob.afterWarm.senseFuses.tapReset.put cause 1).put F.CLK_STAT_RF_ACTIVE v).put F.CLK_STAT_SSC_ACTIVE 0).g x =
      s.endJob.afterWarm.g x := fun v => by
    rw [g_put_other _ _ _ _ (by decide) hssc, g_put_other _ _ _ _ (by decide) hrf, g_put_other _ _ _ _ hh hcx, hsense]
  refine (congrArg (State.g · x) (if_neg hs)).trans ?_
  exact ite_g (fun _ => hclk _) (fun _ => ((withQuartz_g ..).trans (g_put_other _ _ _ _ (by decide) hrc)).trans (hclk _))

/-- A machine out of reset whose active bank lists CLK_STAT twice: the entry that counts holds the reset value, STATE 0, and the one behind it
STATE 4. A warm reset drops entries that hold the reset value, and the one behind shows. -/
def clkStatTwice : State :=
  { State.blank with
    regs := [(F.CLK_STAT_STATE.addr, resetWord F.CLK_STAT_STATE.addr), (F.CLK_STAT_STATE.addr, putField 0 3 0 4)]
    rst := { Rst.init with scope := none }
    upd := { Upd.init with restart := true } }

theorem clkStatTwice_root : clkStatTwice.root = 0 := by decide

/-- Refutes O6: WarmKept asks for the root's state as it was in every state, and in one whose active bank is not canonical an RST_N that goes
low changes it. -/
theorem not_warmResetSources : ¬ Obligations.WarmResetSources := by
  unfold Obligations.WarmResetSources
  rintro ⟨hpin, -⟩
  obtain ⟨t, hexec, -, hkept, -⟩ := hpin clkStatTwice (by decide) (by decide) (by decide) (by decide) (by decide)
  have hrun : exec .rstNLow clkStatTwice = .next (((clkStatTwice.begin.put F.RST_PIN_LEVEL 0).warmReset F.RST_CAUSE_PIN true).withRst
      { ((clkStatTwice.begin.put F.RST_PIN_LEVEL 0).warmReset F.RST_CAUSE_PIN true).rst with pinHeld := true }) := rfl
  obtain rfl := Host.Outcome.next.inj (hrun.symm.trans hexec)
  have hroot := hkept.root
  rw [State.root, withRst_g, warmReset_g (by decide) (by decide) true rfl (by decide) (by decide) (by decide), clkStatTwice_root] at hroot
  exact absurd hroot (by decide)

/-- Refutes O7: the restart that an ACTIVATE asked for is a warm reset too, and in the same state it does not keep the root's state. -/
theorem not_warmResetsAfterWork : ¬ Obligations.WarmResetsAfterWork := by
  unfold Obligations.WarmResetsAfterWork
  rintro ⟨-, hrestart, -⟩
  obtain ⟨t, hexec, -, hkept⟩ := hrestart clkStatTwice (by decide) (by decide) (by decide)
  have hrun : exec .restartReset clkStatTwice = .next (clkStatTwice.begin.warmReset F.RST_CAUSE_SW false) := rfl
  obtain rfl := Host.Outcome.next.inj (hrun.symm.trans hexec)
  have hroot := hkept.root
  rw [State.root, warmReset_g (by decide) (by decide) false rfl (by decide) (by decide) (by decide), clkStatTwice_root] at hroot
  exact absurd hroot (by decide)

/-! ### The release of a reset -/

theorem newEntry_g (s : State) (a b c d : Nat) (x : Fld) : (s.newEntry a b c d).g x = s.g x :=
  fits_g (newEntry_fits s a b c d (le_self _) (fits_refl _ s)) rfl rfl

/-- Steps 3 and 4 have no alternative and are not optional: what their start writes is STEP and an entry. -/
theorem startStep_g (s : State) {c : Nat} (hc : c = 3 ∨ c = 4) {x : Fld} (hx : F.RST_BOOT_STAT_STEP.apart x = true) :
    (s.startStep c).g x = s.g x := by
  have hstart : s.startStep c = ((s.put F.RST_BOOT_STAT_STEP c).newEntry c 1 0 0).withRst
      { ((s.put F.RST_BOOT_STAT_STEP c).newEntry c 1 0 0).rst with alt := false } := by
    rcases hc with rfl | rfl <;> rfl
  rw [hstart, withRst_g, newEntry_g, g_put_other _ _ _ _ (by decide) hx]

theorem bootRoot_g (s : State) {x : Fld} (hx : F.RST_BOOT_STAT_STEP.apart x = true) : s.bootRoot.g x = s.g x := by
  unfold State.bootRoot
  split_ifs with h
  · have h3 : s.g F.RST_BOOT_STAT_STEP = 3 := by
      simp only [State.inStep, Bool.and_eq_true, decide_eq_true_eq] at h
      exact h.1.1.2
    unfold State.stepDone
    extract_lets c
    have hc : c + 1 = 3 ∨ c + 1 = 4 := .inr (by simp only [c, h3])
    rw [startStep_g _ hc hx]
    exact fits_g (endEntry_fits s _ _ _ (le_self _) (fits_refl _ s)) rfl rfl
  · rfl

theorem sampleStraps_g (s : State) {x : Fld} (hs : F.PRF_STAT_STRAP.apart x = true) (he : F.RST_EVT_STRAP.apart x = true)
    (hq : (F.UNIT_IRQ_STAT_EVT 0x02).apart x = true) : s.sampleStraps.g x = s.g x := by
  unfold State.sampleStraps
  extract_lets t d u r v
  have hv : v.g x = s.g x := (withRst_g ..).trans (g_put_other _ _ _ _ (by decide) hs)
  exact ite_g (fun _ => (newEntry_g ..).trans hv) (fun _ => (newEntry_g ..).trans ((g_evt_other _ _ _ (by decide) he hq).trans hv))

theorem newEntry_straps (s : State) (a b c d : Nat) : (s.newEntry a b c d).rst.straps = s.rst.straps := by
  unfold State.newEntry
  split_ifs <;> rfl

theorem strapProfile_lt (t : Straps) : strapProfile t < 4 := by
  have hbit : ∀ b : Bool, bit b ≤ 1 := by decide
  have h0 := hbit (t.prof0.getD 0 false)
  have h1 := hbit (t.prof1.getD 0 false)
  unfold strapProfile
  split_ifs <;> omega

theorem sampleStraps_strap (s : State) : s.sampleStraps.g F.PRF_STAT_STRAP = strapProfile s.rst.straps := by
  unfold State.sampleStraps
  extract_lets t d u r v
  have hv : v.g F.PRF_STAT_STRAP = strapProfile s.rst.straps :=
    (withRst_g ..).trans (g_put_self (by decide) (by decide) (strapProfile_lt _))
  split_ifs
  · exact (newEntry_g ..).trans hv
  · exact (newEntry_g ..).trans ((g_evt_other _ _ _ (by decide) (by decide) (by decide)).trans hv)

/-- The release up to the sampling of the straps. -/
def releaseEntries (s : State) : State :=
  let s := if s.rst.pinClears then s.put F.SAF_STAT_LOCKED 0 else s
  let stuck := s.rst.stuckDue
  let s := s.withRst { s.rst with scope := none, released := s.now, lit := false, stuckDue := false, pinClears := false, early := [], journalOpen := false, entry := 0 }
  let s := if stuck then s.newEntry 0x20 2 0 (s.g F.RST_PIN_STUCK_CNT % 65536) else s
  s.newEntry 1 2 0 (s.g F.CLK_RC_START_FAIL_STEP)

theorem release_eq (s : State) :
    s.release = (((((releaseEntries s).sampleStraps.bistRelease.put (F.LNK_STAT_STATE 0) 1).put (F.LNK_STAT_STATE 1) 1).startStep 3).bootRoot) := rfl

/-- The fields that a release writes after the entries of the new boot. -/
def releaseFields : List Fld :=
  [F.PRF_STAT_STRAP, F.RST_EVT_STRAP, F.UNIT_IRQ_STAT_EVT 0x02, F.LNK_STAT_STATE 0, F.LNK_STAT_STATE 1, F.RST_BOOT_STAT_STEP]

theorem release_g_entries (s : State) {x : Fld} (hc : clear releaseFields x = true)
    (hp : [0x70, 0x71, 0x79].contains (groupPage x.page) = false) : s.release.g x = (releaseEntries s).g x := by
  have ha : ∀ f ∈ releaseFields, f.apart x = true := fun f hf => clear_apart hc hf
  rw [release_eq, bootRoot_g _ (ha _ (by simp [releaseFields])), startStep_g _ (.inl rfl) (ha _ (by simp [releaseFields])),
    g_put_other _ _ _ _ (by decide) (ha _ (by simp [releaseFields])), g_put_other _ _ _ _ (by decide) (ha _ (by simp [releaseFields])),
    fits_g (bistRelease_fits _ (le_self _) (fits_refl _ _)) rfl hp,
    sampleStraps_g _ (ha _ (by simp [releaseFields])) (ha _ (by simp [releaseFields])) (ha _ (by simp [releaseFields]))]

theorem releaseEntries_g (s : State) {x : Fld} (hl : s.rst.pinClears = true → F.SAF_STAT_LOCKED.apart x = true) :
    (releaseEntries s).g x = s.g x := by
  unfold releaseEntries
  extract_lets u stuck v r w
  have hu : u.g x = s.g x := ite_g (fun h => g_put_other _ _ _ _ (by decide) (hl h)) (fun _ => rfl)
  rw [newEntry_g]
  exact (ite_g (fun _ => newEntry_g ..) (fun _ => rfl)).trans ((withRst_g ..).trans hu)

theorem releaseEntries_unlocked {s : State} (h : s.rst.pinClears = true) : (releaseEntries s).on F.SAF_STAT_LOCKED = false := by
  unfold releaseEntries
  extract_lets u stuck v r w
  have hu : u.on F.SAF_STAT_LOCKED = false := by
    simp only [u, if_pos h]
    exact on_put_zero (by decide) (by decide)
  refine (on_congr ?_).trans hu
  rw [newEntry_g]
  exact (ite_g (fun _ => newEntry_g ..) (fun _ => rfl)).trans (withRst_g ..)

theorem releaseEntries_straps (s : State) : (releaseEntries s).rst.straps = s.rst.straps := by
  unfold releaseEntries
  extract_lets u stuck v r w
  have hu : u.rst.straps = s.rst.straps := by
    simp only [u]
    split_ifs <;> simp
  rw [newEntry_straps]
  have hw : w.rst.straps = r.rst.straps := by
    simp only [w]
    split_ifs
    · exact newEntry_straps ..
    · rfl
  exact hw.trans hu

/-- The profile straps that a release samples show. -/
theorem release_strap (s : State) : s.release.g F.PRF_STAT_STRAP = strapProfile s.rst.straps := by
  rw [release_eq, bootRoot_g _ (by decide), startStep_g _ (.inl rfl) (by decide), g_put_other _ _ _ _ (by decide) (by decide),
    g_put_other _ _ _ _ (by decide) (by decide), fits_g (bistRelease_fits _ (le_self _) (fits_refl _ _)) rfl rfl, sampleStraps_strap,
    releaseEntries_straps]

theorem tryRelease_of_free {s : State} (hs : s.rst.scope.isSome = true) (hg : s.rst.pg = true) (hp : s.rst.pinHeld = false)
    (ht : s.rst.thmHeld = false) (hr : s.quartz.rc = .running) : s.tryRelease = s.release :=
  if_pos (by simp [hs, hg, hp, ht, hr])

theorem tryRelease_of_attempt {s : State} (hr : s.quartz.rc = .attempt) : s.tryRelease = s := if_neg (by simp [hr])

/-- PMIC_PG comes back: the pin is looked at and the fuses are sensed. -/
def pgRisen (s : State) (st : Straps) : State := (s.begin.setStraps st).withRst { (s.begin.setStraps st).rst with pg := true }

def pgSensed (s : State) (st : Straps) : State := (pgRisen s st).holdPin.senseFuses.tapReset

theorem pgSensed_fits (s : State) (st : Straps) :
    (pgRisen s st).holdPin.Fits (Foot.of [0x02, 0x40, 0x78, 0x7A, 0x80, 0x81] [.sec]) (pgSensed s st) :=
  tapReset_fits _ (by decide) (senseFuses_fits _ (by decide) (fits_refl ..))

theorem exec_pmicPgRise {s : State} (st : Straps) (hoff : s.pwr.st ≠ .off) (hdeep : s.pwr.st ≠ .deep) (hexit : s.pwr.st ≠ .ackExit)
    (hpg : s.rst.pg = false) : exec (.pmicPgRise st) s = .next ((pgSensed s st).rcAttempt 1) := by
  have hg : ¬ (s.begin.rst.pg || s.begin.pwr.st = .deep || s.begin.pwr.st = .ackExit) = true := by simp [hpg, hdeep, hexit]
  have hrun : exec (.pmicPgRise st) s = .next ((pgSensed s st).rcAttempt 1).tryRelease :=
    congrArg Host.Outcome.next ((if_neg hoff).trans (if_neg hg))
  rw [hrun, tryRelease_of_attempt]
  rfl

/-- RST_N goes high: the pin holds no longer, and the release ends lock-out. -/
def pinHigh (s : State) (st : Straps) : State :=
  ((s.begin.put F.RST_PIN_LEVEL 1).setStraps st).withRst { ((s.begin.put F.RST_PIN_LEVEL 1).setStraps st).rst with pinHeld := false, pinClears := true }

/-- CRIT is released. -/
def critClear (s : State) (st : Straps) : State :=
  ((s.begin.setStraps st).put F.THM_STAT_CRIT_CLR 1).withRst { ((s.begin.setStraps st).put F.THM_STAT_CRIT_CLR 1).rst with thmHeld := false }

/-- A pin stuck low past its time shows, and its fault is raised. -/
def stuckShown (s : State) : State :=
  (((s.put F.RST_CAUSE_STUCK 1).put F.RST_PIN_STUCK 1).incSat F.RST_PIN_STUCK_CNT).raise S.RST_STUCK 0

/-- From then on the pin holds nothing. -/
def stuckMarked (s : State) (st : Straps) : State :=
  (s.setStraps st).withRst { (s.setStraps st).rst with pinHeld := false, pinClears := false, stuckDue := true }

theorem stuckMarked_released (s : State) (st : Straps) (hs : s.rst.scope.isSome = true) (hg : s.rst.pg = true) (ht : s.rst.thmHeld = false)
    (hr : s.quartz.rc = .running) : (stuckMarked s st).tryRelease = (stuckMarked s st).release := tryRelease_of_free hs hg rfl ht hr

/-- The release that follows leaves RST's own fields and the lock-out. -/
theorem stuckMarked_release_g (s : State) (st : Straps) {x : Fld} (hc : clear releaseFields x = true)
    (hx : [0x70, 0x71, 0x79].contains (groupPage x.page) = false) : (stuckMarked s st).release.g x = s.g x :=
  ((release_g_entries _ hc hx).trans (releaseEntries_g _ (fun h => by cases h))).trans ((withRst_g ..).trans (withRst_g ..))

theorem stuckShown_fits (s : State) : s.Fits (Foot.reaction [0x02] []) (stuckShown s) :=
  raise_fits _ _ 0 (by decide) (by decide) (incSat_fits (by decide) (put_fits _ (by decide) (put_fits _ (by decide) (fits_refl ..))))

theorem stuckShown_reads (s : State) : (stuckShown s).on F.RST_PIN_STUCK = true ∧ (stuckShown s).on F.RST_CAUSE_STUCK = true
    ∧ (s.on F.SAF_STAT_LOCKED = true → (stuckShown s).on F.SAF_STAT_LOCKED = true) := by
  refine ⟨?_, ?_, fun h => ?_⟩
  · refine (on_congr (raise_g _ _ _ (by decide))).trans ?_
    rw [on_congr (g_incSat_other _ _ _ (by decide) (by decide))]
    exact on_put_one _ _ (by decide) rfl
  · refine (on_congr (raise_g _ _ _ (by decide))).trans ?_
    rw [on_congr (g_incSat_other _ _ _ (by decide) (by decide)), on_put_other _ _ _ _ (by decide) (by decide)]
    exact on_put_one _ _ (by decide) rfl
  · refine raise_keeps_locked _ _ (by decide) ?_
    rwa [on_congr (g_incSat_other _ _ _ (by decide) (by decide)), on_put_other _ _ _ _ (by decide) (by decide), on_put_other _ _ _ _ (by decide) (by decide)]

/-- Settles O8: the four commands up to the release, and what the release leaves of each field. -/
theorem resetRelease : Obligations.ResetRelease := by
  unfold Obligations.ResetRelease
  refine ⟨?rise, ?pin, ?pinAlone, ?crit, ?stuck⟩
  case rise =>
    intro s st hoff hdeep hexit hpg
    have hfit : (pgRisen s st).holdPin.Fits (Foot.of [0x01, 0x02, 0x40, 0x78, 0x7A, 0x80, 0x81] [.sec, .quartz]) ((pgSensed s st).rcAttempt 1) :=
      rcAttempt_fits (pgSensed s st) 1 (by decide) (fits_mono (by decide) (pgSensed_fits s st))
    have hrst : ((pgSensed s st).rcAttempt 1).rst = (pgRisen s st).holdPin.rst := within_rst hfit.within rfl rfl
    have hmem : ((pgSensed s st).rcAttempt 1).mem = (pgRisen s st).holdPin.mem := within_mem hfit.within rfl rfl
    refine ⟨(pgSensed s st).rcAttempt 1, exec_pmicPgRise st hoff hdeep hexit hpg, ?_, ?_, rfl, rfl, ?_, hmem.trans rfl⟩
    · rw [hrst]
      rfl
    · rw [hrst]
      rfl
    · exact (withQuartz_g ..).trans (g_put_self (by decide) (by decide) (by decide))
  case pin =>
    intro s st hp ht hg hr hs
    have hrel : (pinHigh s st).tryRelease = (pinHigh s st).release := tryRelease_of_free hs hg rfl ht hr
    refine ⟨(pinHigh s st).release, congrArg Host.Outcome.next ((if_pos hp).trans hrel), release_scope _, ?_, ?_, ?_⟩
    · refine (on_congr ((release_g_entries (pinHigh s st) (by decide) (by decide)).trans (releaseEntries_g _ (fun _ => by decide)))).trans ?_
      exact ((withRst_on ..).trans (withRst_on ..)).trans (on_put_one _ _ (by decide) rfl)
    · exact (on_congr (release_g_entries _ (by decide) (by decide))).trans (releaseEntries_unlocked rfl)
    · exact release_strap _
  case pinAlone =>
    intro s st hp
    exact ⟨_, congrArg Host.Outcome.next (if_neg (by simp [hp])), on_put_one _ _ (by decide) rfl, only_put _ (by simp) (by decide) (only_refl ..)⟩
  case crit =>
    intro s st ht hp hg hr hs
    have hrel : (critClear s st).tryRelease = (critClear s st).release := tryRelease_of_free hs hg hp rfl hr
    refine ⟨(critClear s st).release, congrArg Host.Outcome.next ((if_pos ht).trans hrel), release_scope _, ?_, release_strap _⟩
    refine (on_congr ((release_g_entries _ (by decide) (by decide)).trans (releaseEntries_g _ (fun _ => by decide)))).trans ?_
    exact (withRst_on ..).trans (on_put_one _ _ (by decide) rfl)
  case stuck =>
    intro s st hi hp ht hg hr hs
    have hgo : (s.begin.on F.RST_PIN_STUCK_IGNORE && s.begin.rst.pinHeld && s.begin.quartz.rc = .running) = true := by simp [hi, hp, hr]
    have hrst : (stuckShown s.begin).rst = s.begin.rst := within_rst (stuckShown_fits s.begin).within rfl rfl
    have hquartz : (stuckShown s.begin).quartz = s.begin.quartz := within_quartz (stuckShown_fits s.begin).within rfl rfl
    have hrel : (stuckMarked (stuckShown s.begin) st).tryRelease = (stuckMarked (stuckShown s.begin) st).release := by
      refine stuckMarked_released _ st ?_ ?_ ?_ ?_
      · rw [hrst]
        exact hs
      · rw [hrst]
        exact hg
      · rw [hrst]
        exact ht
      · rw [hquartz]
        exact hr
    refine ⟨(stuckMarked (stuckShown s.begin) st).release, congrArg Host.Outcome.next ((if_pos hgo).trans hrel), release_scope _, ?_, ?_, ?_⟩
    · exact (on_congr (stuckMarked_release_g _ st (by decide) (by decide))).trans (stuckShown_reads s.begin).1
    · exact (on_congr (stuckMarked_release_g _ st (by decide) (by decide))).trans (stuckShown_reads s.begin).2.1
    · exact fun hl => (on_congr (stuckMarked_release_g _ st (by decide) (by decide))).trans ((stuckShown_reads s.begin).2.2 hl)

end Sys2Proof.Proofs.DeviceResets
end

section
/-! PROOF. Gylys: a link comes up (LinkBringUp), is lost (LinkLossAndRate), keeps link time (LinkTime) and sends by itself (BackChannel). -/

namespace Sys2Proof.Proofs.GylysLinks

open Sys2Proof.Machine Sys2Proof.Laws Sys2Proof.Proofs.Architecture Sys2Proof.Proofs.Reading Sys2Proof.Proofs.GovernorSums
  Sys2Proof.Proofs.QuartzRoot Sys2Proof.Proofs.QuartzReference

variable {s t u : State} {l : Nat}

/-! ### The record of a link -/

@[simp] theorem modLink_link (s : State) (l : Nat) (f : Link → Link) : (s.modLink l f).link l = f (s.link l) := by
  unfold State.modLink State.link
  split_ifs <;> rfl

@[simp] theorem put_link (s : State) (f : Fld) (v l : Nat) : (s.put f v).link l = s.link l := rfl

@[simp] theorem evt_link (s : State) (f : Fld) (l : Nat) : (s.evt f).link l = s.link l := by simp [State.link]

@[simp] theorem incSat_link (s : State) (f : Fld) (l : Nat) : (s.incSat f).link l = s.link l := by simp [State.link]

@[simp] theorem withQuartz_link (s : State) (q : Quartz) (l : Nat) : (s.withQuartz q).link l = s.link l := rfl

theorem only_modLink {fs : List Fld} {ps : List Part} (hl : l < 2) {f : Link → Link} (hm : lnkPart l ∈ ps) (h : s.Only fs ps t) :
    s.Only fs ps (t.modLink l f) := by
  unfold State.modLink
  obtain rfl | rfl : l = 0 ∨ l = 1 := by omega
  · exact only_withLnkA hm h
  · exact only_withLnkB hm h

/-! ### A link's states -/

theorem linkTo_lst (s : State) (l : Nat) {st : Nat} (hst : st < 16) : (s.linkTo l st).lst l = st := by
  have h : (s.put (F.LNK_STAT_STATE l) st).g (F.LNK_STAT_STATE l) = st := g_put_self (by simp [F.LNK_STAT_STATE]) (by simp [F.LNK_STAT_STATE]) hst
  unfold State.linkTo State.lst
  extract_lets was u
  split_ifs
  · exact (modLink_g ..).trans h
  · exact h

theorem linkTo_g {x : Fld} (st : Nat) (hx : sep (F.LNK_STAT_STATE l) x = true) : (s.linkTo l st).g x = s.g x :=
  ite_g (fun _ => (modLink_g ..).trans (g_put_sep _ _ hx)) (fun _ => g_put_sep _ _ hx)

theorem linkTo_only (hl : l < 2) (s : State) (st : Nat) : s.Only [F.LNK_STAT_STATE l] [lnkPart l] (s.linkTo l st) :=
  only_ite (fun _ => only_modLink hl (by simp) (only_put _ (by simp) (by simp [F.LNK_STAT_STATE]) (only_refl ..)))
    (fun _ => only_put _ (by simp) (by simp [F.LNK_STAT_STATE]) (only_refl ..))

/-- A link that was not ACTIVE has no frame to drop. -/
theorem linkTo_of_inactive {st : Nat} (h : s.lst l ≠ 5) : s.linkTo l st = s.put (F.LNK_STAT_STATE l) st :=
  if_neg (by simp [State.active, h])

theorem rootServes_congr (hst : t.g F.CLK_STAT_STATE = s.g F.CLK_STAT_STATE) (hok : t.g F.CLK_STAT_ROOT_OK = s.g F.CLK_STAT_ROOT_OK) :
    t.rootServes = s.rootServes := by
  simp only [State.rootServes, State.rootUp, State.on, hst, hok]

theorem passLock_of_lock (h : s.lst l = 2) :
    s.passLock l = if s.on (F.LNK_STAT_CDR_LOCK l) && s.rootServes then s.put (F.LNK_STAT_STATE l) 3 else s := by
  simp [State.passLock, h, linkTo_of_inactive (s := s) (l := l) (st := 3) (by omega)]

theorem passLock_only (h : s.lst l = 2) : s.Only [F.LNK_STAT_STATE l] [] (s.passLock l) := by
  rw [passLock_of_lock h]
  exact only_ite (fun _ => only_put _ (by simp) (by simp [F.LNK_STAT_STATE]) (only_refl ..)) (fun _ => only_refl ..)

theorem passLock_lst (h : s.lst l = 2) :
    (s.passLock l).lst l = if s.on (F.LNK_STAT_CDR_LOCK l) && s.rootServes then 3 else 2 := by
  rw [passLock_of_lock h]
  split_ifs
  · exact g_put_room _ rfl
  · exact h

/-! ### Bring-up -/

theorem exec_signalDetect (hl : l < 2) (h : s.lst l = 1) :
    exec (.signalDetect l) s = .next (((s.begin.put (F.LNK_STAT_SIG_DET l) 1).put (F.LNK_STAT_STATE l) 2).passLock l) := by
  have hg : (decide (l < 2) && s.begin.lst l = 1) = true := by simp [hl, show s.begin.lst l = 1 from h]
  have h1 : (s.begin.put (F.LNK_STAT_SIG_DET l) 1).lst l ≠ 5 := by
    have : (s.begin.put (F.LNK_STAT_SIG_DET l) 1).lst l = 1 := (g_put_sep _ _ rfl).trans h
    omega
  have hrun : exec (.signalDetect l) s = .next (((s.begin.put (F.LNK_STAT_SIG_DET l) 1).linkTo l 2).passLock l) :=
    congrArg Host.Outcome.next ((if_neg (by omega)).trans (if_pos hg))
  rw [hrun, linkTo_of_inactive h1]

theorem signalDetect_reads (l : Nat) (s : State) :
    let u := (s.put (F.LNK_STAT_SIG_DET l) 1).put (F.LNK_STAT_STATE l) 2
    (u.passLock l).on (F.LNK_STAT_SIG_DET l) = true
      ∧ (u.passLock l).lst l = (if s.on (F.LNK_STAT_CDR_LOCK l) && s.rootServes then 3 else 2)
      ∧ s.Only [F.LNK_STAT_SIG_DET l, F.LNK_STAT_STATE l] [] (u.passLock l) := by
  intro u
  have h2 : u.lst l = 2 := g_put_room _ rfl
  have hO : s.Only [F.LNK_STAT_SIG_DET l, F.LNK_STAT_STATE l] [] u :=
    only_put _ (by simp) (by simp [F.LNK_STAT_STATE]) (only_put _ (by simp) (by simp [F.LNK_STAT_SIG_DET]) (only_refl ..))
  have hsig : u.on (F.LNK_STAT_SIG_DET l) = true := (on_put_sep _ _ rfl).trans (on_put_set _ rfl)
  have hcdr : u.on (F.LNK_STAT_CDR_LOCK l) = s.on (F.LNK_STAT_CDR_LOCK l) := (on_put_sep _ _ rfl).trans (on_put_sep _ _ rfl)
  have hroot : u.rootServes = s.rootServes :=
    rootServes_congr ((g_put_sep _ _ rfl).trans (g_put_sep _ _ rfl)) ((g_put_sep _ _ rfl).trans (g_put_sep _ _ rfl))
  refine ⟨?_, ?_, only_app (by simp) (by simp) (passLock_only h2) hO⟩
  · rw [passLock_of_lock h2]
    split_ifs
    · exact (on_put_sep _ _ rfl).trans hsig
    · exact hsig
  · rw [passLock_lst h2, hcdr, hroot]

/-- The CDR locks: what the lock leaves of the link, the root and the gate of R157. -/
theorem setLock_leaves (hl : l < 2) (s : State) : (s.setLock l true).lst l = s.lst l ∧ (s.setLock l true).root = s.root
    ∧ (s.setLock l true).rootServes = s.rootServes := by
  have hO := setLock_only s l true
  have hclear : ∀ l < 2, clear [F.LNK_STAT_CDR_LOCK l, lockFld l, F.CLK_FREQ_ERR_VALID] (F.LNK_STAT_STATE l) = true
      ∧ clear [F.LNK_STAT_CDR_LOCK l, lockFld l, F.CLK_FREQ_ERR_VALID] F.CLK_STAT_STATE = true
      ∧ clear [F.LNK_STAT_CDR_LOCK l, lockFld l, F.CLK_FREQ_ERR_VALID] F.CLK_STAT_ROOT_OK = true := by decide
  obtain ⟨hlst, hst, hok⟩ := hclear l hl
  exact ⟨only_g hO hlst, only_g hO hst, rootServes_congr (only_g hO hst) (only_g hO hok)⟩

theorem exec_cdrLock (hl : l < 2) (h : s.lst l = 2) (hr : s.root ≠ 1) :
    exec (.cdrLock l) s = .next ((s.begin.setLock l true).passLock l) := by
  have hg : (decide (l < 2) && s.begin.lst l = 2) = true := by simp [hl, show s.begin.lst l = 2 from h]
  have hrun : exec (.cdrLock l) s = .next (((s.begin.setLock l true).passLock l).refConnect l) :=
    congrArg Host.Outcome.next ((if_neg (by omega)).trans (if_pos hg))
  obtain ⟨hlst, hroot, -⟩ := setLock_leaves hl s.begin
  have hpass : ((s.begin.setLock l true).passLock l).root = s.root := by
    have hclear : ∀ l < 2, clear [F.LNK_STAT_STATE l] F.CLK_STAT_STATE = true := by decide
    exact (only_g (passLock_only (hlst.trans h)) (hclear l hl)).trans hroot
  rw [hrun, State.refConnect, if_neg (by simp [hpass, hr])]

theorem exec_cdrLockTimeout (hl : l < 2) (h : s.lst l = 2) (hk : s.on (F.LNK_STAT_CDR_LOCK l) = false) :
    exec (.cdrLockTimeout l) s = .next (s.begin.put (F.LNK_STAT_STATE l) 1) := by
  have hg : (decide (l < 2) && s.begin.lst l = 2 && !s.begin.on (F.LNK_STAT_CDR_LOCK l)) = true := by
    simp [hl, show s.begin.lst l = 2 from h, hk]
  rw [← linkTo_of_inactive (s := s.begin) (l := l) (show s.begin.lst l ≠ 5 by rw [show s.begin.lst l = 2 from h]; decide)]
  exact congrArg Host.Outcome.next ((if_neg (by omega)).trans (if_pos hg))

theorem exec_commaAlign (hl : l < 2) (h : s.lst l = 3) (hr : s.rootServes = true) :
    exec (.commaAlign l) s = .next ((s.begin.put (F.LNK_STAT_STATE l) 4).modLink l (fun k => k.send .ts)) := by
  have hg : (decide (l < 2) && s.begin.lst l = 3 && s.begin.rootServes) = true := by
    simp [hl, show s.begin.lst l = 3 from h, show s.begin.rootServes = true from hr]
  rw [← linkTo_of_inactive (s := s.begin) (l := l) (show s.begin.lst l ≠ 5 by rw [show s.begin.lst l = 3 from h]; decide)]
  exact congrArg Host.Outcome.next ((if_neg (by omega)).trans (if_pos hg))

/-- The end of training up to the entry of ACTIVE. -/
def trained (s : State) (l : Nat) : State := (s.modLink l (fun k => k.send .tsd)).incSat (F.LNK_TRN_CNT_CNT_LO l)

theorem exec_trainingDone (hl : l < 2) (h : s.lst l = 4) : exec (.trainingDone l) s = .next ((trained s.begin l).enterActive l) :=
  congrArg Host.Outcome.next (if_pos (by simp [hl, show s.begin.lst l = 4 from h]))

theorem exec_trainingTimeout (hl : l < 2) (h : s.lst l = 4) :
    exec (.trainingTimeout l) s = .next (((s.begin.put (F.LNK_STAT_STATE l) 1).evt (F.LNK_EVT_TRN_TMO l)).raise S.LNK_TRN_TMO l) := by
  have hg : (decide (l < 2) && s.begin.lst l = 4) = true := by simp [hl, show s.begin.lst l = 4 from h]
  rw [← linkTo_of_inactive (s := s.begin) (l := l) (show s.begin.lst l ≠ 5 by rw [show s.begin.lst l = 4 from h]; decide)]
  exact congrArg Host.Outcome.next ((if_neg (by omega)).trans (if_pos hg))

theorem exec_tsReceived (hl : l < 2) (h : s.lst l = 5) :
    exec (.tsReceived l) s = .next (((s.begin.abortFrame l).linkTo l 4).modLink l (fun k => k.send .ts)) :=
  congrArg Host.Outcome.next ((if_neg (by omega)).trans (if_pos (by simp [hl, show s.begin.lst l = 5 from h])))

/-- A link that enters ACTIVE, before its STATUS is queued. -/
def entered (s : State) (l : Nat) : State :=
  ((s.put (F.LNK_STAT_STATE l) 5).put (F.LNK_LT_DLY_VALID l) 0).modLink l (fun k => { k with ltm := 0, exch := [] })

theorem enterActive_of_inactive (h : s.lst l ≠ 5) : s.enterActive l = (entered s l).queueStatus l := by
  rw [State.enterActive, linkTo_of_inactive h]
  rfl

theorem linkServed_congr (hc : t.cmd.served = s.cmd.served) (hp : t.g F.RST_BOOT_STAT_PHASE = s.g F.RST_BOOT_STAT_PHASE)
    (hlc : t.g F.SEC_LC_STATE = s.g F.SEC_LC_STATE) (l : Nat) : t.linkServed l = s.linkServed l := by
  simp only [State.linkServed, hc, hp, hlc]

theorem queueStatus_only (hl : l < 2) (s : State) : s.Only [] [lnkPart l] (s.queueStatus l) :=
  only_ite (fun _ => only_modLink hl (by simp) (only_refl ..)) (fun _ => only_refl ..)

theorem queueStatus_link (h : s.lst l = 5) : (s.queueStatus l).link l =
    if s.linkServed l then { s.link l with status := some (s.statusPayload l), greeted := true } else s.link l := by
  unfold State.queueStatus
  simp only [State.active, h, decide_true, Bool.true_and]
  split_ifs
  · exact modLink_link ..
  · rfl

theorem entered_only (hl : l < 2) (s : State) :
    s.Only [F.LNK_STAT_STATE l, F.LNK_LT_DLY_VALID l, F.LNK_TRN_CNT_CNT_LO l] [lnkPart l] (entered (trained s l) l) :=
  only_modLink hl (by simp) (only_put _ (by simp) (by simp [F.LNK_LT_DLY_VALID]) (only_put _ (by simp) (by simp [F.LNK_STAT_STATE])
    (only_incSat (by simp) (by simp [F.LNK_TRN_CNT_CNT_LO]) (only_modLink hl (by simp) (only_refl ..)))))

/-! ### A link's unit -/

theorem link_group (hl : l < 2) : groupPage (0x08 + l % 2) = 0x08 + l := by
  obtain rfl | rfl : l = 0 ∨ l = 1 := by omega
  · rfl
  · rfl

/-- A field of link l's page within a footprint that takes in that page. -/
theorem link_unit {g : Foot} (hl : l < 2) (hg : g.hasUnit (0x08 + l) = true) : g.hasUnit (groupPage (0x08 + l % 2)) = true := by
  rwa [link_group hl]

theorem link_units_flt {ps : List Part} (hl : l < 2) : (Foot.of [0x08 + l] ps).units.contains 0x70 = false := by
  obtain rfl | rfl : l = 0 ∨ l = 1 := by omega
  · rfl
  · rfl

theorem srcPage_link {g : Foot} {i : Nat} (hl : l < 2) (hi : ∀ l < 2, srcPage i l = 0x08 + l) (hg : g.hasUnit (0x08 + l) = true) :
    g.hasUnit (groupPage (srcPage i l)) = true := by
  rw [hi l hl]
  obtain rfl | rfl : l = 0 ∨ l = 1 := by omega
  · exact hg
  · exact hg

theorem linkTo_of_active {st : Nat} (h : s.lst l = 5) (hst : st ≠ 5) :
    s.linkTo l st = (s.put (F.LNK_STAT_STATE l) st).modLink l (fun k => { k with safe := [], wire := none, busy := 0, greeted := false, opened := false }) :=
  if_pos (by simp [State.active, h, hst])

/-! ### The side link -/

/-- The side link in the state that the event names, out of ACTIVE: it moves, and nothing is lost. -/
theorem sideStep_of {n : Nat} (next : Nat) (he : s.on (F.UNIT_CTRL_ENABLE 0x0A) = true) (h : s.sst = n) (h5 : n ≠ 5) :
    s.begin.sideStep n n next = s.begin.put F.SIDE_STAT_STATE next := by
  have hs : s.begin.sst = n := h
  have hto : s.begin.sideTo next = s.begin.put F.SIDE_STAT_STATE next := if_neg (by simp [hs, h5])
  exact (if_pos (by simp [hs, he])).trans hto

/-- Leaving ACTIVE loses reception. -/
theorem sideStep_of_active {lo hi next : Nat} (he : s.on (F.UNIT_CTRL_ENABLE 0x0A) = true) (h1 : lo ≤ 5) (h2 : 5 ≤ hi) (h : s.sst = 5) (hn : next ≠ 5) :
    s.begin.sideStep lo hi next = (s.begin.put F.SIDE_STAT_STATE next).loseRx := by
  have h5 : s.begin.sst = 5 := h
  have hto : s.begin.sideTo next = (s.begin.put F.SIDE_STAT_STATE next).loseRx := if_pos (by simp [h5, hn])
  exact (if_pos (by simp [h1, h2, he, h5])).trans hto

/-- RX_OK is 0, and the state of the side link stands, also where the loss splits the lamp. -/
theorem loseRx_reads (s : State) : s.loseRx.on F.SIDE_STAT_RX_OK = false ∧ s.loseRx.sst = s.sst := by
  unfold State.loseRx
  extract_lets had u v w
  have hw : w.on F.SIDE_STAT_RX_OK = false ∧ w.sst = s.sst :=
    ⟨(withSide_on ..).trans (on_put_clear _ rfl), (withSide_g ..).trans (g_put_sep _ _ rfl)⟩
  have hsplit : ∀ x : Fld, quietField x = true → sep F.SIDE_STAT_SPLIT x = true → sep F.SIDE_STAT_PHASE_LOCK x = true →
      sep F.SIDE_EVT_LOST x = true → sep F.SIDE_CNT_SPLITS x = true → sep (F.UNIT_IRQ_STAT_EVT 0x0A) x = true → w.enterSplit.g x = w.g x :=
    fun x hq h1 h2 h3 h4 h5 => ite_g (fun _ => (raise_g _ _ _ hq).trans ((g_incSat_sep _ h4).trans ((withSide_g ..).trans
      ((g_evt_sep _ h3 h5).trans ((g_put_sep _ _ h2).trans (g_put_sep _ _ h1)))))) (fun _ => rfl)
  constructor
  · exact (on_congr (ite_g (fun _ => hsplit _ (by decide) (by decide) (by decide) (by decide) (by decide) (by decide)) (fun _ => rfl))).trans hw.1
  · exact (ite_g (x := F.SIDE_STAT_STATE) (fun _ => hsplit _ (by decide) (by decide) (by decide) (by decide) (by decide) (by decide)) (fun _ => rfl)).trans hw.2

theorem loseRx_within (s : State) : s.Fits (Foot.reaction [0x0A] [.side]) s.loseRx := loseRx_fits s (by decide) (fits_refl ..)

/-- Settles O10: each event as the chain of updates that it makes, read field by field. -/
theorem linkBringUp : Obligations.LinkBringUp := by
  unfold Obligations.LinkBringUp
  refine ⟨?signal, ?cdr, ?cdrTimeout, ?comma, ?done, ?timeout, ?ts, ?side, ?other⟩
  case signal =>
    intro s l hl h1
    exact ⟨_, exec_signalDetect hl h1, signalDetect_reads l s.begin⟩
  case cdr =>
    intro s l hl h2 hroot
    obtain ⟨hlst, -, hserves⟩ := setLock_leaves hl s.begin
    obtain ⟨hcdr, hfld⟩ := setLock_on hl s.begin
    have hl2 : (s.begin.setLock l true).lst l = 2 := hlst.trans h2
    have hpass := passLock_only hl2
    have hclear : ∀ l < 2, clear [F.LNK_STAT_STATE l] (F.LNK_STAT_CDR_LOCK l) = true ∧ clear [F.LNK_STAT_STATE l] (lockFld l) = true := by decide
    refine ⟨_, exec_cdrLock hl h2 hroot, (only_on hpass (hclear l hl).1).trans hcdr, (only_on hpass (hclear l hl).2).trans hfld, ?_, ?_⟩
    · rw [passLock_lst hl2, hcdr, hserves, Bool.true_and]
      rfl
    · exact only_trans (only_mono (by simp) (by simp) (setLock_only s.begin l true)) (only_mono (by simp) (by simp) hpass)
  case cdrTimeout =>
    intro s l hl h2 hk
    exact ⟨_, exec_cdrLockTimeout hl h2 hk, g_put_room _ rfl, only_put _ (by simp) (by simp [F.LNK_STAT_STATE]) (only_refl ..)⟩
  case comma =>
    intro s l hl h3 hr
    exact ⟨_, exec_commaAlign hl h3 hr, (modLink_g ..).trans (g_put_room _ rfl), modLink_link ..,
      only_modLink hl (by simp) (only_put _ (by simp) (by simp [F.LNK_STAT_STATE]) (only_refl ..))⟩
  case done =>
    intro s l hl h4
    have h4' : (trained s.begin l).lst l ≠ 5 := by
      have h : (trained s.begin l).lst l = 4 := ((g_incSat_sep _ rfl).trans (modLink_g ..)).trans h4
      omega
    have hrun : exec (.trainingDone l) s = .next ((entered (trained s.begin l) l).queueStatus l) := by
      rw [exec_trainingDone hl h4, enterActive_of_inactive h4']
    have h5 : (entered (trained s.begin l) l).lst l = 5 := ((modLink_g ..).trans (g_put_sep _ _ rfl)).trans (g_put_room _ rfl)
    have hO := queueStatus_only hl (entered (trained s.begin l) l)
    have hE := entered_only hl s.begin
    have hclear : ∀ l < 2, clear [F.LNK_STAT_STATE l, F.LNK_LT_DLY_VALID l, F.LNK_TRN_CNT_CNT_LO l] F.RST_BOOT_STAT_PHASE = true
        ∧ clear [F.LNK_STAT_STATE l, F.LNK_LT_DLY_VALID l, F.LNK_TRN_CNT_CNT_LO l] F.SEC_LC_STATE = true := by decide
    have hlink : (entered (trained s.begin l) l).link l = { (s.link l).send .tsd with ltm := 0, exch := [] } := by
      simp only [entered, trained, modLink_link, put_link, incSat_link]
      rfl
    have hq := queueStatus_link h5
    rw [hlink] at hq
    refine ⟨_, hrun, (only_g hO rfl).trans h5, (only_g hO rfl).trans ?_, ?_, ?_, ?_, ?_, (only_g hO rfl).trans ?_, ?_⟩
    · exact (modLink_g ..).trans (g_put_room _ rfl)
    · rw [hq]
      split_ifs <;> rfl
    · rw [hq]
      split_ifs <;> rfl
    · rw [hq]
      split_ifs <;> rfl
    · intro hs
      have hs' : (entered (trained s.begin l) l).linkServed l = true :=
        (linkServed_congr (by simp [entered, trained]) (only_g hE (hclear l hl).1) (only_g hE (hclear l hl).2) l).trans hs
      rw [hq, if_pos hs']
      exact ⟨rfl, rfl⟩
    · refine ((modLink_g ..).trans ((g_put_sep _ _ rfl).trans (g_put_sep _ _ rfl))).trans ?_
      rw [trained, g_incSat (by simp [F.LNK_TRN_CNT_CNT_LO]) (by simp [F.LNK_TRN_CNT_CNT_LO]) (g_le_top _ _), modLink_g]
      rfl
    · exact only_trans hE (only_mono (by simp) (by simp) hO)
  case timeout =>
    intro s l hl h4
    have hquiet : ∀ l < 2, quietField (F.LNK_STAT_STATE l) = true ∧ quietField (F.LNK_EVT_TRN_TMO l) = true := by decide
    obtain ⟨q1, q2⟩ := hquiet l hl
    have hf : s.begin.Fits (Foot.of [0x08 + l] []) ((s.begin.put (F.LNK_STAT_STATE l) 1).evt (F.LNK_EVT_TRN_TMO l)) :=
      evt_fits (link_unit hl (by simp [Foot.hasUnit, Foot.of])) (put_fits _ (link_unit hl (by simp [Foot.hasUnit, Foot.of])) (fits_refl ..))
    refine ⟨_, exec_trainingTimeout hl h4, ?_, ?_, fun hd => ?_, ?_⟩
    · exact (raise_g _ _ _ q1).trans ((g_evt_sep _ rfl rfl).trans (g_put_room _ rfl))
    · exact (on_congr (raise_g _ _ _ q2)).trans (on_evt_self _ rfl)
    · refine raise_pend _ _ (by decide) ?_
      rw [fits_defLevel hf rfl (link_units_flt hl)]
      exact hd
    · exact within_trans (begin_within (by simp [Foot.le, Foot.of, Foot.reaction]) s) (raise_fits _ _ l (srcPage_link hl (by decide) (by simp [Foot.hasUnit, Foot.of, Foot.reaction]))
        (by simp [Foot.le, Foot.of, Foot.reaction]) (fits_mono (by simp [Foot.le, Foot.of, Foot.reaction]) hf)).within
  case ts =>
    intro s l hl h5
    have h5' : (s.begin.abortFrame l).lst l = 5 := (g_incSat_sep _ rfl).trans h5
    refine ⟨_, exec_tsReceived hl h5, (modLink_g ..).trans (linkTo_lst _ _ (by decide)), ?_, ?_, ?_, ?_⟩
    · rw [modLink_link, linkTo_of_active h5' (by decide), modLink_link]
      simp [Link.send, State.abortFrame]
      rfl
    · rw [modLink_link, linkTo_of_active h5' (by decide), modLink_link]
      rfl
    · rw [modLink_link, linkTo_of_active h5' (by decide), modLink_link]
      rfl
    · exact only_modLink hl (by simp) (only_trans (only_incSat (by simp) (by simp [F.LNK_FRM_CNT_CNT_LO]) (only_refl ..))
        (only_mono (by simp) (by simp) (linkTo_only hl (s.begin.abortFrame l) 4)))
  case side =>
    intro s he
    have hserve : s.rootServes = true → s.begin.rootServes = true := id
    have honly : ∀ n, s.begin.Only [F.SIDE_STAT_STATE] [] (s.begin.put F.SIDE_STAT_STATE n) :=
      fun n => only_put _ (by simp) (by decide) (only_refl ..)
    refine ⟨fun h => ?_, fun h hr => ?_, fun h => ?_, fun h hr => ?_, fun h => ?_, fun h => ?_⟩
    · exact ⟨_, congrArg Host.Outcome.next (sideStep_of 2 he h (by decide)), g_put_room _ rfl, honly 2⟩
    · exact ⟨_, congrArg Host.Outcome.next ((if_pos (hserve hr)).trans (sideStep_of 3 he h (by decide))), g_put_room _ rfl, honly 3⟩
    · exact ⟨_, congrArg Host.Outcome.next (sideStep_of 1 he h (by decide)), g_put_room _ rfl, honly 1⟩
    · exact ⟨_, congrArg Host.Outcome.next ((if_pos (hserve hr)).trans (sideStep_of 4 he h (by decide))), g_put_room _ rfl, honly 4⟩
    · refine ⟨_, congrArg Host.Outcome.next ((if_pos h).trans (congrArg (State.evt · F.SIDE_EVT_TRN_TMO) (sideStep_of 1 he h (by decide)))), ?_, ?_, ?_⟩
      · exact (g_evt_sep _ rfl rfl).trans (g_put_room _ rfl)
      · exact on_evt_self _ rfl
      · exact only_evt (by simp) (by simp [F.SIDE_EVT_TRN_TMO]) (by decide) (only_mono (by simp) (by simp) (honly 1))
    · obtain ⟨hrx, hst⟩ := loseRx_reads (s.begin.put F.SIDE_STAT_STATE 4)
      refine ⟨_, congrArg Host.Outcome.next (sideStep_of_active he (by decide) (by decide) h (by decide)), hst.trans (g_put_room _ rfl), hrx, ?_⟩
      exact within_trans (begin_within (by decide) s) (fits_trans (put_fits _ (by decide) (fits_refl ..)) (loseRx_within _)).within
  case other =>
    intro s l hl
    have hne : l ≠ 2 := by omega
    refine ⟨fun h => ?_, fun h => ?_, fun h => ?_, fun h => ?_, fun h => ?_, fun h => ?_, fun h => ?_⟩
    · exact congrArg Host.Outcome.next ((if_neg hne).trans (if_neg (by simp [show s.begin.lst l ≠ 1 from h])))
    · exact congrArg Host.Outcome.next ((if_neg hne).trans (if_neg (by simp [show s.begin.lst l ≠ 2 from h])))
    · exact congrArg Host.Outcome.next ((if_neg hne).trans (if_neg (by simp [show s.begin.lst l ≠ 2 from h])))
    · exact congrArg Host.Outcome.next ((if_neg hne).trans (if_neg (by simp [show s.begin.lst l ≠ 3 from h])))
    · exact congrArg Host.Outcome.next (if_neg (by simp [show s.begin.lst l ≠ 4 from h]))
    · exact congrArg Host.Outcome.next ((if_neg hne).trans (if_neg (by simp [show s.begin.lst l ≠ 4 from h])))
    · exact congrArg Host.Outcome.next ((if_neg hne).trans (if_neg (by simp [show s.begin.lst l ≠ 5 from h])))

/-! ### Loss of a link -/

/-- The CDR loses lock, whether or not the link is the reference. -/
theorem setLock_off (hl : l < 2) (s : State) :
    (s.setLock l false).g (F.LNK_STAT_CDR_LOCK l) = 0 ∧ (s.setLock l false).g (lockFld l) = 0 := by
  have hv (f : Fld) (u : State) (c : Prop) [Decidable c] (hf : F.CLK_FREQ_ERR_VALID.apart f = true) :
      (if c then u else u.put F.CLK_FREQ_ERR_VALID 0).g f = u.g f := ite_g (fun _ => rfl) (fun _ => g_put_other _ _ _ _ (by decide) hf)
  unfold State.setLock
  obtain rfl | rfl : l = 0 ∨ l = 1 := by omega
  · exact ⟨(hv _ _ _ (by decide)).trans ((g_put_other _ _ _ _ (by decide) (by decide)).trans (g_put_room _ (by decide))),
      (hv _ _ _ (by decide)).trans (g_put_room _ (by decide))⟩
  · exact ⟨(hv _ _ _ (by decide)).trans ((g_put_other _ _ _ _ (by decide) (by decide)).trans (g_put_room _ (by decide))),
      (hv _ _ _ (by decide)).trans (g_put_room _ (by decide))⟩

/-- The fields of the link's clock that the loss of its CDR changes, and of the root's where it was the reference. -/
def cdrFields (l : Nat) : List Fld :=
  [F.LNK_STAT_CDR_LOCK l, lockFld l, F.CLK_FREQ_ERR_VALID, F.CLK_STAT_STATE, F.CLK_EVT_LOSS_A, F.CLK_EVT_LOSS_B, F.UNIT_IRQ_STAT_EVT 0x01]

theorem refLost_only (s : State) :
    s.Only [F.CLK_STAT_STATE, F.CLK_EVT_LOSS_A, F.CLK_EVT_LOSS_B, F.UNIT_IRQ_STAT_EVT 0x01] [.quartz] s.refLost := by
  refine only_ite (fun _ => only_withQuartz (by simp) ?_) (fun _ => only_refl ..)
  refine only_mono ?_ (by simp) (lossEnters_reads s).2.2
  rcases lossFld_cases (s.g F.CLK_STAT_REF_ACT) with h | h <;> simp [h]

theorem refLost_root (h : s.root = 4 ∨ s.root = 7) : s.refLost.root = 5 :=
  (congrArg State.root (if_pos (by simpa using h))).trans ((withQuartz_g ..).trans (lossEnters_reads s).1)

theorem cdrLost_only (s : State) (l : Nat) : s.Only (cdrFields l) [.quartz] (s.cdrLost l) := by
  have hlock := only_mono (fs' := cdrFields l) (ps' := [.quartz]) (by simp [cdrFields]) (by simp) (setLock_only s l false)
  exact only_ite (fun _ => only_app (by simp [cdrFields]) (by simp) (refLost_only _) hlock) (fun _ => hlock)

theorem cdrLost_off (hl : l < 2) (s : State) : (s.cdrLost l).g (F.LNK_STAT_CDR_LOCK l) = 0 ∧ (s.cdrLost l).g (lockFld l) = 0 := by
  have hclear : ∀ l < 2, clear [F.CLK_STAT_STATE, F.CLK_EVT_LOSS_A, F.CLK_EVT_LOSS_B, F.UNIT_IRQ_STAT_EVT 0x01] (F.LNK_STAT_CDR_LOCK l) = true
      ∧ clear [F.CLK_STAT_STATE, F.CLK_EVT_LOSS_A, F.CLK_EVT_LOSS_B, F.UNIT_IRQ_STAT_EVT 0x01] (lockFld l) = true := by decide
  obtain ⟨h1, h2⟩ := setLock_off hl s
  unfold State.cdrLost
  extract_lets u
  split_ifs
  · exact ⟨(only_g (refLost_only u) (hclear l hl).1).trans h1, (only_g (refLost_only u) (hclear l hl).2).trans h2⟩
  · exact ⟨h1, h2⟩

/-- A link that was the reference takes the root from LOCKED or SLEW to HOLDOVER. -/
theorem cdrLost_root (hl : l < 2) (hr : s.g F.CLK_STAT_REF_ACT = l) (h : s.root = 4 ∨ s.root = 7) : (s.cdrLost l).root = 5 := by
  have hclear : ∀ l < 2, clear [F.LNK_STAT_CDR_LOCK l, lockFld l, F.CLK_FREQ_ERR_VALID] F.CLK_STAT_REF_ACT = true
      ∧ clear [F.LNK_STAT_CDR_LOCK l, lockFld l, F.CLK_FREQ_ERR_VALID] F.CLK_STAT_STATE = true := by decide
  have hO := setLock_only s l false
  have hact : (s.setLock l false).g F.CLK_STAT_REF_ACT = l := (only_g hO (hclear l hl).1).trans hr
  have hroot : (s.setLock l false).root = s.root := only_g hO (hclear l hl).2
  exact (congrArg State.root (if_pos hact)).trans (refLost_root (by rwa [hroot]))

/-- A link that leaves its state for st with an event, before its CDR's loss. -/
def leaves (s : State) (l st : Nat) (ev : Fld) : State := ((s.abortFrame l).linkTo l st).evt ev

theorem exec_alignmentLoss (hl : l < 2) (h1 : 4 ≤ s.lst l) (h2 : s.lst l ≤ 6) :
    exec (.alignmentLoss l) s = .next (leaves s.begin l 3 (F.LNK_EVT_ALIGN_LOST l)) :=
  congrArg Host.Outcome.next ((if_neg (by omega)).trans (if_pos (by
    simp [hl, show 4 ≤ s.begin.lst l from h1, show s.begin.lst l ≤ 6 from h2])))

theorem leaves_lst (s : State) {l st : Nat} {ev : Fld} (hst : st < 16) (he : sep ev (F.LNK_STAT_STATE l) = true)
    (hq : sep (F.UNIT_IRQ_STAT_EVT ev.page) (F.LNK_STAT_STATE l) = true) : (leaves s l st ev).lst l = st :=
  (g_evt_sep _ he hq).trans (linkTo_lst _ _ hst)

theorem leaves_only (hl : l < 2) (s : State) (st : Nat) {ev : Fld} (hh : ev.hi < 32) :
    s.Only [F.LNK_FRM_CNT_CNT_LO l, F.LNK_STAT_STATE l, ev, F.UNIT_IRQ_STAT_EVT ev.page] [lnkPart l] (leaves s l st ev) :=
  only_evt (by simp) (by simp) hh (only_trans (only_incSat (by simp) (by simp [F.LNK_FRM_CNT_CNT_LO]) (only_refl ..))
    (only_mono (by simp) (by simp) (linkTo_only hl (s.abortFrame l) st)))

theorem modLink_part_fits {g : Foot} {s0 : State} (hl : l < 2) (s : State) (f : Link → Link) (hp : g.hasPart (lnkPart l) = true) (h0 : s0.Fits g s) :
    s0.Fits g (s.modLink l f) := by
  unfold State.modLink
  obtain rfl | rfl : l = 0 ∨ l = 1 := by omega
  · exact withLnkA_fits _ hp h0
  · exact withLnkB_fits _ hp h0

theorem leaves_fits {g : Foot} {s0 : State} (hl : l < 2) (s : State) (st : Nat) {ev : Fld} (hev : ev.page = 0x08 + l % 2)
    (hu : g.hasUnit (0x08 + l) = true) (hp : g.hasPart (lnkPart l) = true) (h0 : s0.Fits g s) : s0.Fits g (leaves s l st ev) := by
  have hput := put_fits (x := F.LNK_STAT_STATE l) st (link_unit hl hu) (incSat_fits (x := F.LNK_FRM_CNT_CNT_LO l) (link_unit hl hu) h0)
  exact evt_fits (by rw [hev]; exact link_unit hl hu) (fits_ite (modLink_part_fits hl _ _ hp hput) hput)

theorem cdrLost_part_fits {g : Foot} {s0 : State} (hl : l < 2) (s : State) (hle : (Foot.of [0x01] [.quartz]).le g = true)
    (hu : g.hasUnit (0x08 + l) = true) (h0 : s0.Fits g s) : s0.Fits g (s.cdrLost l) := by
  have hc : g.hasUnit 0x01 = true := unit_via rfl hle
  have hlock : s0.Fits g (s.setLock l false) := by
    have hpage : (lockFld l).page = 0x01 := by unfold lockFld; split_ifs <;> rfl
    have h1 := put_fits (x := lockFld l) (bit false) (by rw [hpage]; exact hc)
      (put_fits (x := F.LNK_STAT_CDR_LOCK l) (bit false) (link_unit hl hu) h0)
    refine withQuartz_fits _ ?_ (part_via rfl hle) (fits_ite h1 (put_fits _ hc h1))
    simp [Keep, Quartz.shaped]
  exact fits_ite (refLost_fits _ hle hlock) hlock

/-- The loss of a signal up to its fault. -/
def signalLost (s : State) (l : Nat) : State :=
  (((leaves s l 1 (F.LNK_EVT_LOS l)).incSat (F.LNK_TRN_CNT_CNT_HI l)).put (F.LNK_STAT_SIG_DET l) 0).cdrLost l

theorem exec_lossOfSignal (hl : l < 2) (h1 : 2 ≤ s.lst l) (h2 : s.lst l ≤ 6) :
    exec (.lossOfSignal l) s = .next (if s.active l then (signalLost s.begin l).raise S.LNK_LOS l else signalLost s.begin l) :=
  congrArg Host.Outcome.next ((if_neg (by omega)).trans (if_pos (by
    simp [hl, show 2 ≤ s.begin.lst l from h1, show s.begin.lst l ≤ 6 from h2])))

/-- The loss of a CDR's lock up to its fault. -/
def lockLost (s : State) (l : Nat) : State := (leaves s l 2 (F.LNK_EVT_LOL l)).cdrLost l

theorem exec_cdrLossOfLock (hl : l < 2) (h1 : 3 ≤ s.lst l) (h2 : s.lst l ≤ 6) :
    exec (.cdrLossOfLock l) s = .next (if s.active l then (lockLost s.begin l).raise S.LNK_LOS l else lockLost s.begin l) :=
  congrArg Host.Outcome.next ((if_neg (by omega)).trans (if_pos (by
    simp [hl, show 3 ≤ s.begin.lst l from h1, show s.begin.lst l ≤ 6 from h2])))

/-- The fields that the loss of a CDR leaves. -/
theorem cdrFields_clear : ∀ l < 2, clear (cdrFields l) (F.LNK_STAT_STATE l) = true ∧ clear (cdrFields l) (F.LNK_STAT_SIG_DET l) = true
    ∧ clear (cdrFields l) (F.LNK_EVT_LOS l) = true ∧ clear (cdrFields l) (F.LNK_EVT_LOL l) = true := by decide

theorem signalLost_reads (hl : l < 2) (s : State) :
    (signalLost s l).lst l = 1 ∧ (signalLost s l).g (F.LNK_STAT_SIG_DET l) = 0 ∧ (signalLost s l).on (F.LNK_EVT_LOS l) = true
      ∧ (signalLost s l).g (F.LNK_STAT_CDR_LOCK l) = 0 ∧ (signalLost s l).g (lockFld l) = 0
      ∧ (s.g F.CLK_STAT_REF_ACT = l → s.root = 4 ∨ s.root = 7 → (signalLost s l).root = 5) := by
  let u := ((leaves s l 1 (F.LNK_EVT_LOS l)).incSat (F.LNK_TRN_CNT_CNT_HI l)).put (F.LNK_STAT_SIG_DET l) 0
  have hO := cdrLost_only u l
  obtain ⟨c1, c2, c3, -⟩ := cdrFields_clear l hl
  obtain ⟨hcdr, hfld⟩ := cdrLost_off hl u
  refine ⟨(only_g hO c1).trans ?_, (only_g hO c2).trans (g_put_room _ rfl), (only_on hO c3).trans ?_, hcdr, hfld, fun hr h => ?_⟩
  · exact ((g_put_sep _ _ rfl).trans (g_incSat_sep _ rfl)).trans (leaves_lst s (by decide) rfl rfl)
  · exact ((on_put_sep _ _ rfl).trans (on_incSat_sep _ rfl)).trans (on_evt_self _ rfl)
  · have hclear : ∀ l < 2, clear [F.LNK_TRN_CNT_CNT_HI l, F.LNK_STAT_SIG_DET l, F.LNK_FRM_CNT_CNT_LO l, F.LNK_STAT_STATE l, F.LNK_EVT_LOS l,
        F.UNIT_IRQ_STAT_EVT (0x08 + l % 2)] F.CLK_STAT_STATE = true ∧ clear [F.LNK_TRN_CNT_CNT_HI l, F.LNK_STAT_SIG_DET l, F.LNK_FRM_CNT_CNT_LO l,
        F.LNK_STAT_STATE l, F.LNK_EVT_LOS l, F.UNIT_IRQ_STAT_EVT (0x08 + l % 2)] F.CLK_STAT_REF_ACT = true := by decide
    have hu : s.Only [F.LNK_TRN_CNT_CNT_HI l, F.LNK_STAT_SIG_DET l, F.LNK_FRM_CNT_CNT_LO l, F.LNK_STAT_STATE l, F.LNK_EVT_LOS l,
        F.UNIT_IRQ_STAT_EVT (0x08 + l % 2)] [lnkPart l] u :=
      only_put _ (by simp) (by simp [F.LNK_STAT_SIG_DET]) (only_incSat (by simp) (by simp [F.LNK_TRN_CNT_CNT_HI])
        (only_mono (by simp [F.LNK_EVT_LOS]) (by simp) (leaves_only hl s 1 (ev := F.LNK_EVT_LOS l) (by simp [F.LNK_EVT_LOS]))))
    have hroot : u.root = s.root := only_g hu (hclear l hl).1
    exact cdrLost_root hl ((only_g hu (hclear l hl).2).trans hr) (by rwa [hroot])

theorem signalLost_fits (hl : l < 2) (s : State) : s.Fits (Foot.of [0x01, 0x08 + l] [.quartz, lnkPart l]) (signalLost s l) := by
  have hu : (Foot.of [0x01, 0x08 + l] [.quartz, lnkPart l]).hasUnit (0x08 + l) = true := by simp [Foot.hasUnit, Foot.of]
  have hm := leaves_fits hl s 1 (ev := F.LNK_EVT_LOS l) rfl hu (by simp [Foot.hasPart, Foot.of]) (fits_refl _ s)
  exact cdrLost_part_fits hl _ (by simp [Foot.le, Foot.of]) hu (put_fits _ (link_unit hl hu) (incSat_fits (link_unit hl hu) hm))

theorem lockLost_reads (hl : l < 2) (s : State) :
    (lockLost s l).lst l = 2 ∧ (lockLost s l).on (F.LNK_EVT_LOL l) = true ∧ (lockLost s l).g (F.LNK_STAT_CDR_LOCK l) = 0
      ∧ (lockLost s l).g (lockFld l) = 0
      ∧ (s.g F.CLK_STAT_REF_ACT = l → s.root = 4 ∨ s.root = 7 → (lockLost s l).root = 5) := by
  have hO := cdrLost_only (leaves s l 2 (F.LNK_EVT_LOL l)) l
  obtain ⟨c1, -, -, c4⟩ := cdrFields_clear l hl
  obtain ⟨hcdr, hfld⟩ := cdrLost_off hl (leaves s l 2 (F.LNK_EVT_LOL l))
  refine ⟨(only_g hO c1).trans (leaves_lst s (by decide) rfl rfl), (only_on hO c4).trans (on_evt_self _ rfl), hcdr, hfld, fun hr h => ?_⟩
  have hclear : ∀ l < 2, clear [F.LNK_FRM_CNT_CNT_LO l, F.LNK_STAT_STATE l, F.LNK_EVT_LOL l, F.UNIT_IRQ_STAT_EVT (0x08 + l % 2)] F.CLK_STAT_STATE = true
      ∧ clear [F.LNK_FRM_CNT_CNT_LO l, F.LNK_STAT_STATE l, F.LNK_EVT_LOL l, F.UNIT_IRQ_STAT_EVT (0x08 + l % 2)] F.CLK_STAT_REF_ACT = true := by decide
  have hu := leaves_only hl s 2 (ev := F.LNK_EVT_LOL l) (by simp [F.LNK_EVT_LOL])
  have hroot : (leaves s l 2 (F.LNK_EVT_LOL l)).root = s.root := only_g hu (hclear l hl).1
  exact cdrLost_root hl ((only_g hu (hclear l hl).2).trans hr) (by rwa [hroot])

theorem lockLost_fits (hl : l < 2) (s : State) : s.Fits (Foot.of [0x01, 0x08 + l] [.quartz, lnkPart l]) (lockLost s l) := by
  have hu : (Foot.of [0x01, 0x08 + l] [.quartz, lnkPart l]).hasUnit (0x08 + l) = true := by simp [Foot.hasUnit, Foot.of]
  exact cdrLost_part_fits hl _ (by simp [Foot.le, Foot.of]) hu
    (leaves_fits hl s 2 (ev := F.LNK_EVT_LOL l) rfl hu (by simp [Foot.hasPart, Foot.of]) (fits_refl _ s))

/-! ### Rate matching -/

theorem exec_skp (hl : l < 2) (fill : Nat) (h1 : 3 ≤ s.lst l) (h2 : s.lst l ≤ 6) :
    exec (.skp l fill) s = .next (
      if fill = 0 || decide (32 < fill) then s.begin.slip l
      else if 18 ≤ fill then (s.begin.modLink l (fun k => { k with rate := fill - 2 })).incSat (F.LNK_SKP_CNT_CNT_HI l)
      else if fill ≤ 14 then (s.begin.modLink l (fun k => { k with rate := fill + 2 })).incSat (F.LNK_SKP_CNT_CNT_LO l)
      else s.begin.modLink l (fun k => { k with rate := fill })) :=
  congrArg Host.Outcome.next ((if_neg (by omega)).trans (if_pos (by
    simp [hl, show 3 ≤ s.begin.lst l from h1, show s.begin.lst l ≤ 6 from h2])))

/-- A slip up to its fault. -/
def slipped (s : State) (l : Nat) : State :=
  (((s.abortFrame l).modLink l (fun k => { k with rate := 16 })).evt (F.LNK_EVT_SLIP l)).incSat (F.LNK_ERR_CNT_CNT_LO l)

theorem slipped_fits (hl : l < 2) (s : State) : s.Fits (Foot.of [0x08 + l] [lnkPart l]) (slipped s l) := by
  have hu : (Foot.of [0x08 + l] [lnkPart l]).hasUnit (groupPage (0x08 + l % 2)) = true := link_unit hl (by simp [Foot.hasUnit, Foot.of])
  exact incSat_fits hu (evt_fits hu (modLink_part_fits hl _ _ (by simp [Foot.hasPart, Foot.of]) (incSat_fits hu (fits_refl ..))))

theorem raise_link (s : State) (i inst l : Nat) : (s.raise i inst).link l = s.link l := by
  have h := (raiseWith_fits (g := Foot.reaction [groupPage (srcPage i inst)] []) s i inst 0 false false
    (by simp [Foot.hasUnit, Foot.reaction, Foot.of]) (by simp [Foot.le, Foot.reaction, Foot.of]) (fits_refl _ s)).within
  have hA : (s.raise i inst).lnkA = s.lnkA := within_lnkA h rfl rfl
  have hB : (s.raise i inst).lnkB = s.lnkB := within_lnkB h rfl rfl
  rw [State.link, hA, hB, State.link]

/-- The fault of a link that was ACTIVE, after the loss itself. -/
def losFault (s : State) (l : Nat) (was : Bool) : State := if was then s.raise S.LNK_LOS l else s

theorem losFault_g (s : State) (l : Nat) (was : Bool) {x : Fld} (hx : quietField x = true) : (losFault s l was).g x = s.g x :=
  ite_g (fun _ => raise_g _ _ _ hx) (fun _ => rfl)

theorem losFault_within (hl : l < 2) {v : State} (was : Bool) (hv : s.begin.Fits (Foot.of [0x01, 0x08 + l] [.quartz, lnkPart l]) v) :
    s.Within (Foot.reaction [0x01, 0x08 + l] [.quartz, lnkPart l]) (losFault v l was) := by
  have hv' : s.begin.Fits (Foot.reaction [0x01, 0x08 + l] [.quartz, lnkPart l]) v :=
    fits_mono (by simp [Foot.le, Foot.of, Foot.reaction]) hv
  refine within_trans (begin_within (by simp [Foot.le, Foot.of, Foot.reaction]) s) (fits_ite ?_ hv').within
  exact raise_fits _ _ l (srcPage_link hl (by decide) (by simp [Foot.hasUnit, Foot.of, Foot.reaction])) (by simp [Foot.le, Foot.of, Foot.reaction]) hv'

theorem losFault_pend (hl : l < 2) {v : State} (hv : s.begin.Fits (Foot.of [0x01, 0x08 + l] [.quartz, lnkPart l]) v) (ha : s.lst l = 5)
    (hd : s.defLevel S.LNK_LOS ≠ 0) : (losFault v l (s.active l)).on (fltPend S.LNK_LOS) = true := by
  have hflt : (Foot.of [0x01, 0x08 + l] [.quartz, lnkPart l]).units.contains 0x70 = false := by
    obtain rfl | rfl : l = 0 ∨ l = 1 := by omega
    · rfl
    · rfl
  have hact : s.active l = true := by simp [State.active, ha]
  rw [losFault, if_pos hact]
  refine raise_pend _ _ (by decide) ?_
  rw [fits_defLevel hv rfl hflt]
  exact hd

theorem quiet_link : ∀ l < 2, quietField (F.LNK_STAT_STATE l) = true ∧ quietField (F.LNK_STAT_SIG_DET l) = true
    ∧ quietField (F.LNK_EVT_LOS l) = true ∧ quietField (F.LNK_EVT_LOL l) = true ∧ quietField (F.LNK_STAT_CDR_LOCK l) = true
    ∧ quietField (lockFld l) = true ∧ quietField (F.LNK_EVT_SLIP l) = true := by decide

/-- The root and its reference, which a link's own move leaves. -/
theorem leaves_root (hl : l < 2) (s : State) (st : Nat) {ev : Fld} (hh : ev.hi < 32)
    (hc : clear [F.LNK_FRM_CNT_CNT_LO l, F.LNK_STAT_STATE l, ev, F.UNIT_IRQ_STAT_EVT ev.page] F.CLK_STAT_STATE = true)
    (hr : clear [F.LNK_FRM_CNT_CNT_LO l, F.LNK_STAT_STATE l, ev, F.UNIT_IRQ_STAT_EVT ev.page] F.CLK_STAT_REF_ACT = true) :
    (leaves s l st ev).root = s.root ∧ (leaves s l st ev).g F.CLK_STAT_REF_ACT = s.g F.CLK_STAT_REF_ACT :=
  ⟨only_g (leaves_only hl s st hh) hc, only_g (leaves_only hl s st hh) hr⟩

/-- Settles O11: a loss is the link's move with its event, the loss of its CDR, and the fault of a link that was ACTIVE. -/
theorem linkLossAndRate : Obligations.LinkLossAndRate := by
  unfold Obligations.LinkLossAndRate
  refine ⟨?align, ?signal, ?lock, ?long, ?short, ?even, ?slip, ?other⟩
  case align =>
    intro s l hl h1 h2
    exact ⟨_, exec_alignmentLoss hl h1 h2, leaves_lst _ (by decide) rfl rfl, on_evt_self _ rfl,
      only_mono (by simp [F.LNK_EVT_ALIGN_LOST, Nat.mod_eq_of_lt hl]) (by simp) (leaves_only hl s.begin 3 (by simp [F.LNK_EVT_ALIGN_LOST]))⟩
  case signal =>
    intro s l hl h1 h2
    obtain ⟨q1, q2, q3, -, q5, q6, -⟩ := quiet_link l hl
    obtain ⟨hlst, hsig, hev, hcdr, hfld, hroot⟩ := signalLost_reads hl s.begin
    have hf := signalLost_fits hl s.begin
    refine ⟨losFault (signalLost s.begin l) l (s.active l), exec_lossOfSignal hl h1 h2, (losFault_g _ _ _ q1).trans hlst,
      (on_congr (losFault_g _ _ _ q3)).trans hev, (losFault_g _ _ _ q2).trans hsig, (losFault_g _ _ _ q5).trans hcdr,
      (losFault_g _ _ _ q6).trans hfld, fun ha hr => ?_, fun ha hd => losFault_pend hl hf ha hd, losFault_within hl _ hf⟩
    exact (losFault_g _ _ _ (by decide)).trans (hroot ha hr)
  case lock =>
    intro s l hl h1 h2
    obtain ⟨q1, -, -, q4, q5, q6, -⟩ := quiet_link l hl
    obtain ⟨hlst, hev, hcdr, hfld, hroot⟩ := lockLost_reads hl s.begin
    have hf := lockLost_fits hl s.begin
    refine ⟨losFault (lockLost s.begin l) l (s.active l), exec_cdrLossOfLock hl h1 h2, (losFault_g _ _ _ q1).trans hlst,
      (on_congr (losFault_g _ _ _ q4)).trans hev, (losFault_g _ _ _ q5).trans hcdr,
      (losFault_g _ _ _ q6).trans hfld, fun ha hr => ?_, fun ha hd => losFault_pend hl hf ha hd, losFault_within hl _ hf⟩
    exact (losFault_g _ _ _ (by decide)).trans (hroot ha hr)
  case long =>
    intro s l fill hl h1 h2 h18 h32
    have hn : ¬ (fill = 0 || decide (32 < fill)) = true := by simp; omega
    refine ⟨_, (exec_skp hl fill h1 h2).trans (congrArg Host.Outcome.next ((if_neg hn).trans (if_pos h18))), ?_, ?_, ?_⟩
    · exact (incSat_link ..).trans (modLink_link ..)
    · rw [g_incSat (by simp [F.LNK_SKP_CNT_CNT_HI]) (by simp [F.LNK_SKP_CNT_CNT_HI]) (g_le_top _ _), modLink_g]
      rfl
    · exact only_incSat (by simp) (by simp [F.LNK_SKP_CNT_CNT_HI]) (only_modLink hl (by simp) (only_refl ..))
  case short =>
    intro s l fill hl h1 h2 h1' h14
    have hn : ¬ (fill = 0 || decide (32 < fill)) = true := by simp; omega
    refine ⟨_, (exec_skp hl fill h1 h2).trans (congrArg Host.Outcome.next ((if_neg hn).trans ((if_neg (by omega)).trans (if_pos h14)))), ?_, ?_, ?_⟩
    · exact (incSat_link ..).trans (modLink_link ..)
    · rw [g_incSat (by simp [F.LNK_SKP_CNT_CNT_LO]) (by simp [F.LNK_SKP_CNT_CNT_LO]) (g_le_top _ _), modLink_g]
      rfl
    · exact only_incSat (by simp) (by simp [F.LNK_SKP_CNT_CNT_LO]) (only_modLink hl (by simp) (only_refl ..))
  case even =>
    intro s l fill hl h1 h2 h15 h17
    have hn : ¬ (fill = 0 || decide (32 < fill)) = true := by simp; omega
    exact ⟨_, (exec_skp hl fill h1 h2).trans (congrArg Host.Outcome.next ((if_neg hn).trans ((if_neg (by omega)).trans (if_neg (by omega))))),
      modLink_link .., only_modLink hl (by simp) (only_refl ..)⟩
  case slip =>
    intro s l fill hl h1 h2 hf
    have hp : (fill = 0 || decide (32 < fill)) = true := by simpa using hf
    refine ⟨(slipped s.begin l).raise S.LNK_SLIP l, (exec_skp hl fill h1 h2).trans (congrArg Host.Outcome.next (if_pos hp)), ?_, ?_, fun hd => ?_, ?_⟩
    · rw [raise_link, slipped, incSat_link, evt_link, modLink_link]
    · refine (on_congr (raise_g _ _ _ (quiet_link l hl).2.2.2.2.2.2)).trans ?_
      exact (on_incSat_sep _ rfl).trans (on_evt_self _ rfl)
    · refine raise_pend _ _ (by decide) ?_
      rw [fits_defLevel (slipped_fits hl s.begin) rfl (link_units_flt hl)]
      exact hd
    · refine within_trans (begin_within (by simp [Foot.le, Foot.of, Foot.reaction]) s) (raise_fits _ _ l
        (srcPage_link hl (by decide) (by simp [Foot.hasUnit, Foot.of, Foot.reaction])) (by simp [Foot.le, Foot.of, Foot.reaction]) ?_).within
      exact fits_mono (by simp [Foot.le, Foot.of, Foot.reaction]) (slipped_fits hl s.begin)
  case other =>
    intro s l fill hl h
    have hne : l ≠ 2 := by omega
    have h4 : ¬ (4 ≤ s.begin.lst l ∧ s.begin.lst l ≤ 6) := show ¬ (4 ≤ s.lst l ∧ s.lst l ≤ 6) by omega
    have h2 : ¬ (2 ≤ s.begin.lst l ∧ s.begin.lst l ≤ 6) := show ¬ (2 ≤ s.lst l ∧ s.lst l ≤ 6) by omega
    have h3 : ¬ (3 ≤ s.begin.lst l ∧ s.begin.lst l ≤ 6) := show ¬ (3 ≤ s.lst l ∧ s.lst l ≤ 6) by omega
    refine ⟨?_, ?_, ?_, ?_⟩
    · exact congrArg Host.Outcome.next ((if_neg hne).trans (if_neg (by simpa [hl] using h4)))
    · exact congrArg Host.Outcome.next ((if_neg hne).trans (if_neg (by simpa [hl] using h2)))
    · exact congrArg Host.Outcome.next ((if_neg hne).trans (if_neg (by simpa [hl] using h3)))
    · exact congrArg Host.Outcome.next ((if_neg hne).trans (if_neg (by simpa [hl] using h3)))

end Sys2Proof.Proofs.GylysLinks
end

section
/-! PROOF. Gylys: link time (LinkTime) and what the device sends by itself (BackChannel). -/

namespace Sys2Proof.Proofs.GylysTime

open Sys2Proof.Machine Sys2Proof.Laws Sys2Proof.Proofs.Architecture Sys2Proof.Proofs.Reading Sys2Proof.Proofs.GovernorSums
  Sys2Proof.Proofs.GylysLinks Sys2Proof.Proofs.QuartzReference

variable {s t u : State} {l : Nat}

/-! ### A frame that passes its checks -/

/-- Beside a discard the check touches the armed injection and the unit of the CRC alone. -/
theorem checkFrame_ok_fits {f : Wire} (h : (s.checkFrame l f).1 = true) : s.Fits (Foot.of [0x70, 0x88] []) (s.checkFrame l f).2 := by
  generalize hp : s.checkFrame l f = p at h ⊢
  unfold State.checkFrame at hp
  split at hp
  · subst hp; cases h
  split at hp
  · subst hp; cases h
  split at hp
  · subst hp; cases h
  extract_lets inj n at hp
  split at hp
  next ok v heq =>
    have hv : s.Fits (Foot.of [0x70, 0x88] []) v := fwdCrc_fits_eq heq (by decide) (consumeInj_fits s _ (by decide) (fits_refl _ s))
    split at hp
    · subst hp; cases h
    split at hp
    · subst hp; cases h
    split at hp
    · subst hp; cases h
    · subst hp
      exact hv

theorem checkFrame_ok_link {f : Wire} (h : (s.checkFrame l f).1 = true) (k : Nat) : (s.checkFrame l f).2.link k = s.link k := by
  have hw := (checkFrame_ok_fits h).within
  rw [State.link, within_lnkA hw rfl rfl, within_lnkB hw rfl rfl, State.link]

theorem checkFrame_ok_g {f : Wire} (h : (s.checkFrame l f).1 = true) (x : Fld) (hx : [0x70, 0x88].contains (groupPage x.page) = false) :
    (s.checkFrame l f).2.g x = s.g x := fits_g (checkFrame_ok_fits h) rfl hx

/-! ### Exchanges -/

theorem exec_lctlTime {f : Wire} (hok : (s.begin.checkFrame l f).1 = true) (h3 : f.ftype = 3) (h20 : f.payload.length = 20)
    (h1 : f.payload.getD 0 0 = 1) : exec (.lctlTime l f) s = .next (
      if (s.begin.checkFrame l f).2.active l then
        match ((s.begin.checkFrame l f).2.link l).exch.find? (fun x => x.xno = (f.payload.getD 1 0).toNat) with
        | some x => (s.begin.checkFrame l f).2.exchange l x (ofBe (slice f.payload 4 8)) (ofBe (slice f.payload 12 8))
        | none => (s.begin.checkFrame l f).2
      else (s.begin.checkFrame l f).2) := by
  have hl : lctlOk f.payload = true := by
    rw [lctlOk, h1, h20]
    rfl
  show execLctlTime l f s = _
  unfold execLctlTime
  generalize s.begin.checkFrame l f = p at hok ⊢
  obtain ⟨ok, v⟩ := p
  have hgo : (ok && f.ftype = 3) = true := by simp [show ok = true from hok, h3]
  refine congrArg Host.Outcome.next ((if_pos hgo).trans ((if_neg (by rw [hl]; decide)).trans ?_))
  by_cases ha : v.active l = true
  · exact (if_pos (by rw [h1, ha]; rfl)).trans (if_pos ha).symm
  · rw [if_neg (by simp [ha]), if_neg ha]

/-- Offset and delay of an exchange (R166). -/
def offsetOf (x : Exchange) (t1 t4 : Nat) : Int :=
  (signed 64 (unsigned 64 ((x.t2 : Int) - t1)) + signed 64 (unsigned 64 ((x.t3 : Int) - t4))) / 2

def delayOf (x : Exchange) (t1 t4 : Nat) : Int :=
  (signed 64 (unsigned 64 ((t4 : Int) - t1)) - signed 64 (unsigned 64 ((x.t3 : Int) - x.t2))) / 2

/-- An exchange that is reported. -/
def reported (s : State) (l : Nat) (x : Exchange) (t1 t4 : Nat) : State :=
  (((s.put (F.LNK_LT_OFS_OFS l) (unsigned 32 (clampInt (-(2 ^ 31 - 1)) (2 ^ 31 - 1) (offsetOf x t1 t4)))).put (F.LNK_LT_DLY_DLY l)
    (min 65535 (delayOf x t1 t4).toNat)).put (F.LNK_LT_DLY_XNO l) x.xno).put (F.LNK_LT_DLY_VALID l) 1

theorem exchange_eq (s : State) (l : Nat) (x : Exchange) (t1 t4 : Nat) :
    s.exchange l x t1 t4 = if (reported s l x t1 t4).g F.CLK_STAT_REF_ACT = l && (reported s l x t1 t4).rootUp then
      (reported s l x t1 t4).correctLt l (offsetOf x t1 t4) else reported s l x t1 t4 := rfl

theorem reported_reads (s : State) (l : Nat) (x : Exchange) (t1 t4 : Nat) :
    (reported s l x t1 t4).g (F.LNK_LT_OFS_OFS l) = unsigned 32 (clampInt (-(2 ^ 31 - 1)) (2 ^ 31 - 1) (offsetOf x t1 t4))
      ∧ (reported s l x t1 t4).g (F.LNK_LT_DLY_DLY l) = min 65535 (delayOf x t1 t4).toNat
      ∧ (reported s l x t1 t4).g (F.LNK_LT_DLY_XNO l) = x.xno % 256 ∧ (reported s l x t1 t4).on (F.LNK_LT_DLY_VALID l) = true := by
  refine ⟨?_, ?_, ?_, on_put_set _ rfl⟩
  · refine ((g_put_sep _ _ rfl).trans ((g_put_sep _ _ rfl).trans (g_put_sep _ _ rfl))).trans ?_
    exact g_put_self (by simp [F.LNK_LT_OFS_OFS]) (by simp [F.LNK_LT_OFS_OFS]) (unsigned_lt 32 _)
  · refine ((g_put_sep _ _ rfl).trans (g_put_sep _ _ rfl)).trans ?_
    exact g_put_self (by simp [F.LNK_LT_DLY_DLY]) (by simp [F.LNK_LT_DLY_DLY]) (by simp [F.LNK_LT_DLY_DLY])
  · exact (g_put_sep _ _ rfl).trans (g_put_same _ _ _ (by simp [F.LNK_LT_DLY_XNO]) (by simp [F.LNK_LT_DLY_XNO]))

/-- A field that a report leaves. -/
def unreported (l : Nat) (f : Fld) : Bool :=
  sep (F.LNK_LT_OFS_OFS l) f && sep (F.LNK_LT_DLY_DLY l) f && sep (F.LNK_LT_DLY_XNO l) f && sep (F.LNK_LT_DLY_VALID l) f

theorem reported_g (s : State) (x : Exchange) (t1 t4 : Nat) {f : Fld} (h : unreported l f = true) : (reported s l x t1 t4).g f = s.g f := by
  simp only [unreported, Bool.and_eq_true] at h
  obtain ⟨⟨⟨h1, h2⟩, h3⟩, h4⟩ := h
  exact (g_put_sep _ _ h4).trans ((g_put_sep _ _ h3).trans ((g_put_sep _ _ h2).trans (g_put_sep _ _ h1)))

/-! ### Corrections (R166) -/

/-- The step of the link time with its event and record. -/
def stepped (s : State) (l : Nat) (θ : Int) : State :=
  (s.evt (F.LNK_EVT_LT_STEP l)).event 0x0881 (b8 l :: leBytes 4 (unsigned 32 (clampInt (-(2 ^ 31 - 1)) (2 ^ 31 - 1) θ)))

theorem correctLt_slews {θ : Int} (hv : s.on F.CSF_STAT_LT_VALID = true) (hθ : θ.natAbs ≤ 1000) :
    s.correctLt l θ = ((s.withSlew (-θ * 65536)).put F.CSF_STAT_LT_VALID 1).withLtApplied (some s.now) := by
  simp [State.correctLt, hv, hθ]

theorem correctLt_steps {θ : Int} (h : s.on F.CSF_STAT_LT_VALID = false ∨ 1000 < θ.natAbs) :
    s.correctLt l θ = ((((stepped s l θ).withLt (unsigned 80 (((stepped s l θ).lt : Int) - θ * 65536))).withSlew 0).put F.CSF_STAT_LT_VALID 1).withLtApplied
      (some (stepped s l θ).now) := by
  have hn : ¬ (s.on F.CSF_STAT_LT_VALID && decide (θ.natAbs ≤ 1000)) = true := by
    rcases h with h | h <;> simp [h]
  unfold State.correctLt
  rw [if_neg hn]
  rfl

theorem stepped_fits (hl : l < 2) (s : State) (θ : Int) : s.Fits (Foot.of [0x08 + l, 0x70, 0x71] [.evr]) (stepped s l θ) :=
  event_fits _ _ _ (by simp [Foot.le, Foot.of]) (evt_fits (link_unit hl (by simp [Foot.hasUnit, Foot.of])) (fits_refl ..))

theorem stepped_parts (hl : l < 2) (s : State) (θ : Int) : (stepped s l θ).lt = s.lt ∧ (stepped s l θ).now = s.now := by
  have h := (stepped_fits hl s θ).within
  exact ⟨within_lt h rfl rfl, within_now h rfl rfl⟩

/-- A field of a link that the step's event and record leave. -/
theorem stepped_g (s : State) (θ : Int) {f : Fld} (hr : clear recordFields f = true) (h : sep (F.LNK_EVT_LT_STEP l) f = true)
    (hq : sep (F.UNIT_IRQ_STAT_EVT (0x08 + l % 2)) f = true) : (stepped s l θ).g f = s.g f :=
  (event_g _ _ _ hr).trans (g_evt_sep _ h hq)

/-- The two ways of a correction. -/
theorem slews_or_steps (s : State) (θ : Int) :
    (s.on F.CSF_STAT_LT_VALID = true ∧ θ.natAbs ≤ 1000) ∨ (s.on F.CSF_STAT_LT_VALID = false ∨ 1000 < θ.natAbs) := by
  rcases Nat.lt_or_ge 1000 θ.natAbs with hθ | hθ
  · exact .inr (.inr hθ)
  · cases hv : s.on F.CSF_STAT_LT_VALID
    · exact .inr (.inl rfl)
    · exact .inl ⟨rfl, hθ⟩

theorem correctLt_g (s : State) (θ : Int) {f : Fld} (hr : clear recordFields f = true) (h : sep (F.LNK_EVT_LT_STEP l) f = true)
    (hq : sep (F.UNIT_IRQ_STAT_EVT (0x08 + l % 2)) f = true) (hv : sep F.CSF_STAT_LT_VALID f = true) : (s.correctLt l θ).g f = s.g f := by
  rcases slews_or_steps s θ with ⟨hvalid, hθ⟩ | hs
  · rw [correctLt_slews hvalid hθ, withLtApplied_g, g_put_sep _ _ hv, withSlew_g]
  · rw [correctLt_steps hs, withLtApplied_g, g_put_sep _ _ hv, withSlew_g, withLt_g, stepped_g s θ hr h hq]

theorem correctLt_valid (hl : l < 2) (s : State) (θ : Int) :
    (s.correctLt l θ).on F.CSF_STAT_LT_VALID = true ∧ (s.correctLt l θ).ltApplied = some s.now := by
  rcases slews_or_steps s θ with ⟨hvalid, hθ⟩ | hs
  · rw [correctLt_slews hvalid hθ]
    exact ⟨(withLtApplied_on ..).trans (on_put_set _ rfl), rfl⟩
  · rw [correctLt_steps hs]
    exact ⟨(withLtApplied_on ..).trans (on_put_set _ rfl), congrArg some (stepped_parts hl s θ).2⟩

theorem stepped_evt (hl : l < 2) (s : State) (θ : Int) : (stepped s l θ).on (F.LNK_EVT_LT_STEP l) = true :=
  (on_congr (event_g _ _ _ ((by decide : ∀ l < 2, clear recordFields (F.LNK_EVT_LT_STEP l) = true) l hl))).trans (on_evt_self _ rfl)

theorem correctLt_near {θ : Int} (hv : s.on F.CSF_STAT_LT_VALID = true) (hθ : θ.natAbs ≤ 1000) :
    (s.correctLt l θ).slew = -θ * 65536 ∧ (s.correctLt l θ).lt = s.lt := by
  rw [correctLt_slews hv hθ]
  exact ⟨by simp [State.withSlew], by simp⟩

theorem correctLt_far (hl : l < 2) (s : State) {θ : Int} (hθ : 1000 < θ.natAbs) :
    (s.correctLt l θ).slew = 0 ∧ (s.correctLt l θ).lt = unsigned 80 ((s.lt : Int) - θ * 65536)
      ∧ (s.correctLt l θ).on (F.LNK_EVT_LT_STEP l) = true := by
  rw [correctLt_steps (.inr hθ)]
  refine ⟨rfl, congrArg (fun n : Nat => unsigned 80 ((n : Int) - θ * 65536)) (stepped_parts hl s θ).1, ?_⟩
  exact (withLtApplied_on ..).trans ((on_put_sep _ _ rfl).trans ((withSlew_on ..).trans ((withLt_on ..).trans (stepped_evt hl s θ))))

/-- The fields of a report stand through a correction. -/
theorem correctLt_report (hl : l < 2) (s : State) (θ : Int) : ∀ f ∈ [F.LNK_LT_OFS_OFS l, F.LNK_LT_DLY_DLY l, F.LNK_LT_DLY_XNO l, F.LNK_LT_DLY_VALID l],
    (s.correctLt l θ).g f = s.g f := by
  intro f hf
  have hplace : ∀ l < 2, ∀ f ∈ [F.LNK_LT_OFS_OFS l, F.LNK_LT_DLY_DLY l, F.LNK_LT_DLY_XNO l, F.LNK_LT_DLY_VALID l],
      clear recordFields f = true ∧ sep (F.LNK_EVT_LT_STEP l) f = true ∧ sep (F.UNIT_IRQ_STAT_EVT (0x08 + l % 2)) f = true
        ∧ sep F.CSF_STAT_LT_VALID f = true := by decide
  obtain ⟨hr, he, hq, hv⟩ := hplace l hl f hf
  exact correctLt_g s θ hr he hq hv

/-- An exchange shows its report, whether or not it corrects the link time. -/
theorem exchange_reports (hl : l < 2) (s : State) (x : Exchange) (t1 t4 : Nat) :
    ∀ f ∈ [F.LNK_LT_OFS_OFS l, F.LNK_LT_DLY_DLY l, F.LNK_LT_DLY_XNO l, F.LNK_LT_DLY_VALID l],
      (s.exchange l x t1 t4).g f = (reported s l x t1 t4).g f := by
  intro f hf
  rw [exchange_eq]
  exact ite_g (fun _ => correctLt_report hl _ _ f hf) (fun _ => rfl)

theorem rootUp_congr (h : t.g F.CLK_STAT_STATE = s.g F.CLK_STAT_STATE) : t.rootUp = s.rootUp := by
  simp only [State.rootUp, h]

/-- On the reference link, with the root running, an exchange corrects the link time. -/
theorem exchange_corrects (s : State) (x : Exchange) (t1 t4 : Nat) (hr : s.g F.CLK_STAT_REF_ACT = l) (hup : s.rootUp = true) :
    s.exchange l x t1 t4 = (reported s l x t1 t4).correctLt l (offsetOf x t1 t4) := by
  rw [exchange_eq, if_pos]
  simp only [Bool.and_eq_true, decide_eq_true_eq]
  exact ⟨(reported_g s x t1 t4 rfl).trans hr, (rootUp_congr (reported_g s x t1 t4 rfl)).trans hup⟩

theorem exchange_reports_only (s : State) (x : Exchange) (t1 t4 : Nat) (hr : s.g F.CLK_STAT_REF_ACT ≠ l) :
    s.exchange l x t1 t4 = reported s l x t1 t4 := by
  rw [exchange_eq, if_neg]
  simp only [Bool.and_eq_true, decide_eq_true_eq]
  exact fun h => hr ((reported_g s x t1 t4 rfl).symm.trans h.1)

/-! ### LTM -/

theorem exec_ltm_inactive {dly : Nat} (h : s.lst l ≠ 5) : exec (.ltm l dly) s = .next s.begin :=
  congrArg Host.Outcome.next (if_neg (by simp [State.active, show s.begin.lst l ≠ 5 from h]))

/-- The answer to an LTM. -/
def answered (s : State) (l : Nat) : State := s.modLink l (fun k => { k.send .ltr with ltm := (s.link l).ltm + 1 })

/-- An exchange that a served link notes and reports (R165). -/
def noted (x : Exchange) (k : Link) : Link :=
  { k with exch := (k.exch ++ [x]).drop (k.exch.length - 3), lctl := k.lctl ++ [[0x81, b8 x.xno, 0, 0] ++ beBytes 8 x.t2 ++ beBytes 8 x.t3] }

theorem exec_ltm {dly : Nat} (hl : l < 2) (h : s.lst l = 5) : exec (.ltm l dly) s = .next (
    if (answered s.begin l).linkServed l then
      (answered s.begin l).modLink l (noted ⟨((s.link l).ltm + 1) % 256, s.ltNs, (s.ltNs + min dly 20000) % 2 ^ 64⟩)
    else answered s.begin l) :=
  congrArg Host.Outcome.next (if_pos (by simp [State.active, hl, show s.begin.lst l = 5 from h]))

theorem modLink_within (hl : l < 2) (s : State) (f : Link → Link) : s.Within (Foot.of [] [lnkPart l]) (s.modLink l f) :=
  (modLink_part_fits hl s f (by simp [Foot.hasPart, Foot.of]) (fits_refl ..)).within

theorem modLink_served (hl : l < 2) (s : State) (f : Link → Link) : (s.modLink l f).linkServed l = s.linkServed l := by
  have hw := modLink_within hl s f
  have hcmd : (s.modLink l f).cmd = s.cmd := within_cmd hw rfl (by rcases (by omega : l = 0 ∨ l = 1) with rfl | rfl <;> decide)
  exact linkServed_congr (congrArg Cmd.served hcmd) (within_g hw rfl _ rfl) (within_g hw rfl _ rfl) l

/-- Settles O12. -/
theorem linkTime : Obligations.LinkTime := by
  unfold Obligations.LinkTime
  refine ⟨?served, ?unserved, ?inactive, ?time, ?unknown, ?timeout⟩
  case served =>
    intro s l dly hl hst hs
    have hserved : (answered s.begin l).linkServed l = true := (modLink_served hl _ _).trans hs
    refine ⟨_, (exec_ltm hl hst).trans (congrArg Host.Outcome.next (if_pos hserved)), ?_⟩
    simp only [answered, modLink_link, noted]
    refine ⟨rfl, rfl, rfl, by simp [Link.send]; rfl, ?_⟩
    exact only_modLink hl (by simp) (only_modLink hl (by simp) (only_refl _ _ _))
  case unserved =>
    intro s l dly hl hst hs
    have hserved : ¬ (answered s.begin l).linkServed l = true := by
      rw [answered, modLink_served hl]
      exact ne_true_of_eq_false hs
    refine ⟨_, (exec_ltm hl hst).trans (congrArg Host.Outcome.next (if_neg hserved)), ?_⟩
    exact ⟨modLink_link _ _ _, only_modLink hl (by simp) (only_refl _ _ _)⟩
  case inactive => exact fun s l dly _ h => exec_ltm_inactive h
  case time =>
    intro s l f x hl hst hok h3 h20 h1 hx t1 t4 θ δ
    have hcg : ∀ y : Fld, [0x70, 0x88].contains (groupPage y.page) = false → (s.begin.checkFrame l f).2.g y = s.g y :=
      fun y hy => checkFrame_ok_g hok y hy
    have hw : s.begin.Within (Foot.of [0x70, 0x88] []) (s.begin.checkFrame l f).2 := (checkFrame_ok_fits hok).within
    have hact : (s.begin.checkFrame l f).2.active l = true := by
      rw [State.active, State.lst, hcg _ (by rcases (by omega : l = 0 ∨ l = 1) with rfl | rfl <;> decide)]
      simpa [State.active, State.lst] using hst
    have hrun : exec (.lctlTime l f) s = .next ((s.begin.checkFrame l f).2.exchange l x t1 t4) := by
      rw [exec_lctlTime hok h3 h20 h1, if_pos hact, checkFrame_ok_link hok, show (s.begin.link l) = s.link l from rfl, hx]
    have hup : (s.begin.checkFrame l f).2.rootUp = s.rootUp := rootUp_congr (hcg _ (by decide))
    have hlt : (s.begin.checkFrame l f).2.lt = s.lt := (within_lt hw rfl rfl).trans rfl
    have hslew : (s.begin.checkFrame l f).2.slew = s.slew := (within_slew hw rfl rfl).trans rfl
    have hnow : (s.begin.checkFrame l f).2.now = s.now := (within_now hw rfl rfl).trans rfl
    generalize (s.begin.checkFrame l f).2 = c at hrun hact hcg hup hlt hslew hnow
    have href : c.g F.CLK_STAT_REF_ACT = s.g F.CLK_STAT_REF_ACT := hcg _ (by decide)
    obtain ⟨hofs, hdly, hxno, hval⟩ := reported_reads c l x t1 t4
    have hrep := exchange_reports hl c x t1 t4
    refine ⟨_, hrun, (hrep _ (by simp)).trans hofs, (hrep _ (by simp)).trans hdly, (hrep _ (by simp)).trans hxno,
      (on_congr (hrep _ (by simp))).trans hval, ?_, ?_, ?_, ?_⟩
    · intro hr hu
      rw [exchange_corrects c x t1 t4 (href.trans hr) (hup.trans hu)]
      obtain ⟨hv, ha⟩ := correctLt_valid hl (reported c l x t1 t4) (offsetOf x t1 t4)
      exact ⟨hv, ha.trans (congrArg some hnow)⟩
    · intro hr hu hv hθ
      have hv' : (reported c l x t1 t4).on F.CSF_STAT_LT_VALID = true :=
        (on_congr ((reported_g c x t1 t4 rfl).trans (hcg _ (by decide)))).trans hv
      rw [exchange_corrects c x t1 t4 (href.trans hr) (hup.trans hu)]
      obtain ⟨hs, ht⟩ := correctLt_near (l := l) hv' (θ := offsetOf x t1 t4) hθ
      exact ⟨hs, ht.trans hlt⟩
    · intro hr hu hθ
      rw [exchange_corrects c x t1 t4 (href.trans hr) (hup.trans hu)]
      obtain ⟨hs, ht, he⟩ := correctLt_far hl (reported c l x t1 t4) (θ := offsetOf x t1 t4) hθ
      exact ⟨hs, ht.trans (congrArg (fun n : Nat => unsigned 80 ((n : Int) - θ * 65536)) hlt), he⟩
    · intro hr
      rw [exchange_reports_only c x t1 t4 (by rwa [href])]
      exact ⟨hlt, hslew⟩
  case unknown =>
    intro s l f hl hok h3 h20 h1 hx
    rw [exec_lctlTime hok h3 h20 h1, checkFrame_ok_link hok, show (s.begin.link l) = s.link l from rfl, hx]
    exact congrArg Host.Outcome.next (ite_self _)
  case timeout =>
    intro s
    refine ⟨_, rfl, (withLtApplied_on ..).trans (on_put_clear _ rfl), rfl, ?_⟩
    exact only_withLtApplied (by simp) (only_put _ (by simp) (by decide) (only_refl _ _ _))

/-! ### What the device sends by itself -/

theorem canSafe_congr (hg : t.g (F.LNK_STAT_STATE l) = s.g (F.LNK_STAT_STATE l)) (hk : t.link l = s.link l) : t.canSafe l = s.canSafe l := by
  unfold State.canSafe State.active State.lst
  rw [hg, hk]

theorem queueSafe_of (h : s.canSafe l = true) (p : List Byte) : s.queueSafe l p =
    s.modLink l (fun k => { k with safe := (if k.safe.length < 4 then k.safe else k.safe.drop 1) ++ [p] }) := if_pos h

theorem queueSafe_not (h : s.canSafe l = false) (p : List Byte) : s.queueSafe l p = s := if_neg (ne_true_of_eq_false h)

theorem queueSafe_only (hl : l < 2) (s : State) (p : List Byte) : s.Only [] [lnkPart l] (s.queueSafe l p) :=
  only_ite (fun _ => only_modLink hl (by simp) (only_refl _ _ _)) (fun _ => only_refl _ _ _)

/-- A message for Flint leaves the other link. -/
theorem queueSafe_other {k : Nat} (h : (l = 0) ≠ (k = 0)) (s : State) (p : List Byte) : (s.queueSafe l p).link k = s.link k := by
  unfold State.queueSafe State.modLink State.link
  by_cases hl : l = 0 <;> by_cases hk : k = 0 <;> simp_all <;> split_ifs <;> rfl

theorem exec_devStatus (hh : s.saf.halted = false) (h : s.canSafe 0 = true ∨ s.canSafe 1 = true) : exec .devStatus s = .next (
    let v := s.begin.inc F.CSF_TX_SEQ_SEQ
    (v.queueSafe 0 (v.devStatus (v.g F.CSF_TX_SEQ_SEQ))).queueSafe 1 (v.devStatus (v.g F.CSF_TX_SEQ_SEQ))) :=
  congrArg Host.Outcome.next (if_pos (by
    rw [show s.begin.saf.halted = s.saf.halted from rfl, hh]
    simp [show s.begin.canSafe 0 = s.canSafe 0 from rfl, show s.begin.canSafe 1 = s.canSafe 1 from rfl, h]))

theorem txSeq_g {x : Fld} (hx : sep F.CSF_TX_SEQ_SEQ x = true) : (s.inc F.CSF_TX_SEQ_SEQ).g x = s.g x := g_put_sep _ _ hx

/-- The message says nothing of the number that is sent beside what it is given. -/
theorem devStatus_inc (s : State) (n : Nat) : (s.inc F.CSF_TX_SEQ_SEQ).devStatus n = s.devStatus n := by
  unfold State.devStatus
  simp (disch := decide) only [txSeq_g]
  have hlt : (s.inc F.CSF_TX_SEQ_SEQ).ltNs = s.ltNs := by simp [State.ltNs, State.inc]
  have hcsf : (s.inc F.CSF_TX_SEQ_SEQ).csf = s.csf := put_csf ..
  rw [hlt, hcsf]

/-- What DEV_STATUS leaves on a link: its message last where it may be sent, and the link as it was where not. -/
theorem queueSafe_last (h : s.canSafe l = true) (p : List Byte) : ((s.queueSafe l p).link l).safe.getLast? = some p := by
  rw [queueSafe_of h, modLink_link]
  simp

/-- Settles O13. -/
theorem backChannel : Obligations.BackChannel := by
  unfold Obligations.BackChannel
  refine ⟨?status, ?unsent, ?devStatus, ?idle, ?length, ?resume, ?standing, ?gap⟩
  case status =>
    intro s l hl hst hs
    refine ⟨s.begin.queueStatus l, congrArg Host.Outcome.next (if_pos hl), ?_, queueStatus_only hl s.begin⟩
    exact (queueStatus_link (s := s.begin) hst).trans (by rw [show s.begin.linkServed l = true from hs]; rfl)
  case unsent =>
    intro s l hl h
    refine congrArg Host.Outcome.next ((if_pos hl).trans (if_neg ?_))
    rcases h with h | h
    · simp [State.active, show s.begin.lst l ≠ 5 from h]
    · simp [show s.begin.linkServed l = false from h]
  case devStatus =>
    intro s hh h
    have hseq : (s.begin.inc F.CSF_TX_SEQ_SEQ).g F.CSF_TX_SEQ_SEQ = (s.g F.CSF_TX_SEQ_SEQ + 1) % 2 ^ 32 := g_put_same _ _ _ (by decide) (by decide)
    have hdev : ∀ n, (s.begin.inc F.CSF_TX_SEQ_SEQ).devStatus n = s.devStatus n := fun n => devStatus_inc s.begin n
    have hcan : ∀ l < 2, (s.begin.inc F.CSF_TX_SEQ_SEQ).canSafe l = s.canSafe l := fun l hl => canSafe_congr (txSeq_g rfl) (put_link ..)
    have hlink : ∀ l, (s.begin.inc F.CSF_TX_SEQ_SEQ).link l = s.link l := fun l => put_link ..
    have hO : s.begin.Only [F.CSF_TX_SEQ_SEQ] [.lnkA, .lnkB] (s.begin.inc F.CSF_TX_SEQ_SEQ) := only_inc (by simp) (by decide) (only_refl _ _ _)
    refine ⟨_, exec_devStatus hh h, ?_⟩
    dsimp only
    rw [hseq, hdev]
    generalize s.devStatus ((s.g F.CSF_TX_SEQ_SEQ + 1) % 2 ^ 32) = p
    generalize s.begin.inc F.CSF_TX_SEQ_SEQ = v at *
    have hcan1 : (v.queueSafe 0 p).canSafe 1 = v.canSafe 1 :=
      canSafe_congr (only_g (queueSafe_only (by decide) v p) rfl) (queueSafe_other (by decide) v p)
    refine ⟨(only_g (queueSafe_only (by decide) _ p) rfl).trans ((only_g (queueSafe_only (by decide) _ p) rfl).trans hseq), ?_, ?_, ?_⟩
    · intro l hl hc
      rcases (by omega : l = 0 ∨ l = 1) with rfl | rfl
      · rw [queueSafe_other (by decide)]
        exact queueSafe_last ((hcan 0 hl).trans hc) p
      · exact queueSafe_last (hcan1.trans ((hcan 1 hl).trans hc)) p
    · intro l hl hc
      rcases (by omega : l = 0 ∨ l = 1) with rfl | rfl
      · rw [queueSafe_other (by decide), queueSafe_not ((hcan 0 hl).trans hc), hlink]
      · rw [queueSafe_not (hcan1.trans ((hcan 1 hl).trans hc)), queueSafe_other (by decide), hlink]
    · exact only_app (by simp) (by simp [lnkPart]) (queueSafe_only (by decide) _ p) (only_app (by simp) (by simp [lnkPart]) (queueSafe_only (by decide) v p) hO)
  case idle =>
    intro s h
    refine congrArg Host.Outcome.next (if_neg ?_)
    rw [show s.begin.saf.halted = s.saf.halted from rfl]
    rcases h with h | ⟨h0, h1⟩
    · simp [h]
    · simp [show s.begin.canSafe 0 = false from h0, show s.begin.canSafe 1 = false from h1]
  case length =>
    intro s seq
    simp [State.devStatus, beBytes, leBytes_length]
  case resume =>
    intro s l hl hp hf
    refine ⟨_, congrArg Host.Outcome.next (if_pos (by simp [hl, show s.begin.on (F.LNK_STAT_PAUSED l) = true from hp, show (s.begin.link l).fill ≤ 16384 from hf])), ?_⟩
    refine ⟨(modLink_on ..).trans (on_put_clear _ rfl), modLink_link _ _ _, ?_⟩
    exact only_modLink hl (by simp) (only_put _ (by simp) (by simp [F.LNK_STAT_PAUSED]) (only_refl _ _ _))
  case standing =>
    intro s l hl h
    refine congrArg Host.Outcome.next (if_neg ?_)
    rcases h with h | h
    · simp [show s.begin.on (F.LNK_STAT_PAUSED l) = false from h]
    · simp [show 16384 < (s.begin.link l).fill from h]
  case gap =>
    intro s l ch hl
    exact ⟨_, congrArg Host.Outcome.next (if_pos hl), modLink_link _ _ _, only_modLink hl (by simp) (only_refl _ _ _)⟩

end Sys2Proof.Proofs.GylysTime
end

section
/-! PROOF. Work packets: how a packet is classified (WorkFrames), stored and reported (CommandStore), and consumed (Consumption). -/

namespace Sys2Proof.Proofs.WorkPackets

open Sys2Proof.Machine Sys2Proof.Laws Sys2Proof.Proofs.Architecture Sys2Proof.Proofs.Reading Sys2Proof.Proofs.GovernorSums
  Sys2Proof.Proofs.GylysLinks Sys2Proof.Proofs.GylysTime

variable {s t u : State} {l : Nat}

/-! ### A frame that passes its checks leaves what the classification reads -/

theorem consumeInj_of_idle {i : Nat} (h : s.armed i = false) : s.consumeInj i = s := if_neg (ne_true_of_eq_false h)

/-- A frame that passes has been seen by a unit of the CRC, or by none. -/
theorem checkFrame_ok_cases {f : Wire} (h : (s.checkFrame l f).1 = true) :
    (s.checkFrame l f).2 = s ∨ ∃ n v, (s.checkFrame l f).2 = s.crcSeen n v false := by
  generalize hp : s.checkFrame l f = p at h ⊢
  unfold State.checkFrame at hp
  split at hp
  · subst hp; cases h
  split at hp
  · subst hp; cases h
  split at hp
  · subst hp; cases h
  extract_lets inj n at hp
  split at hp
  next ok v heq =>
    split at hp
    · subst hp; cases h
    next hok =>
    split at hp
    · subst hp; cases h
    split at hp
    · subst hp; cases h
    subst hp
    have hok' : ok = true := by simpa using hok
    subst hok'
    unfold State.fwdCrc at heq
    extract_lets n' body got at heq
    split at heq
    · obtain ⟨hc, hv⟩ := Prod.mk.inj heq
      have hinj : s.armed S.LNK_CRC = false := by simp only [Bool.and_eq_true, Bool.not_eq_true'] at hc; exact hc.2
      rw [hc, consumeInj_of_idle hinj] at hv
      exact .inr ⟨_, _, hv.symm⟩
    · obtain ⟨hc, hv⟩ := Prod.mk.inj heq
      have hinj : s.armed S.LNK_CRC = false := by simp only [Bool.and_eq_true, Bool.not_eq_true'] at hc; exact hc.2
      exact .inl (hv.symm.trans (consumeInj_of_idle hinj))

theorem checkFrame_ok_place {f : Wire} (h : (s.checkFrame l f).1 = true) {x : Fld} (h4 : x.off % 4096 ≠ 0x54) (h8 : x.off % 4096 ≠ 0x58) :
    (s.checkFrame l f).2.g x = s.g x := by
  have hval : ∀ n, sep (F.CRC_VAL_VAL n) x = true := fun n => by simp [sep, F.CRC_VAL_VAL, Ne.symm h4]
  have hcnt : ∀ n, sep (F.CRC_CNT_FRAMES n) x = true := fun n => by simp [sep, F.CRC_CNT_FRAMES, Ne.symm h8]
  rcases checkFrame_ok_cases h with he | ⟨n, v, he⟩
  · rw [he]
  · rw [he]
    exact (g_put_sep _ _ (hcnt n)).trans (g_put_sep _ _ (hval n))

theorem layer_group (n : Nat) : groupPage (0x19 + n % 16) = 0x18 := by
  have : 0x19 ≤ 0x19 + n % 16 ∧ 0x19 + n % 16 ≤ 0x28 := by omega
  rw [groupPage, if_pos this]

theorem checkFrame_ok_exp {f : Wire} (h : (s.checkFrame l f).1 = true) (c : Nat) : (s.checkFrame l f).2.exp c = s.exp c := checkFrame_ok_g h _ rfl

theorem checkFrame_ok_dist {f : Wire} (h : (s.checkFrame l f).1 = true) (p : Packet) : (s.checkFrame l f).2.seqDist p = s.seqDist p := by
  rw [State.seqDist, State.seqDist, checkFrame_ok_exp h]

theorem checkFrame_ok_check5 {f : Wire} (h : (s.checkFrame l f).1 = true) (p : Packet) : (s.checkFrame l f).2.check5 p = s.check5 p := by
  have hw : s.Within (Foot.of [0x70, 0x88] []) (s.checkFrame l f).2 := (checkFrame_ok_fits h).within
  have hgov : (s.checkFrame l f).2.gov = s.gov := within_gov hw rfl rfl
  have hupd : (s.checkFrame l f).2.upd = s.upd := within_upd hw rfl rfl
  have hplace : ∀ x : Fld, x.off % 4096 ≠ 0x54 → x.off % 4096 ≠ 0x58 → (s.checkFrame l f).2.g x = s.g x := fun x h4 h8 => checkFrame_ok_place h h4 h8
  have hlay : ∀ n k, (s.checkFrame l f).2.bufBase n k = s.bufBase n k := fun n k => by
    unfold State.bufBase
    rw [checkFrame_ok_g h _ (by rw [show (F.LAY_BUF_BASE n k).page = 0x19 + n % 16 from rfl, layer_group]; decide)]
  have hrec : (s.checkFrame l f).2.inRecovery = s.inRecovery := by rw [State.inRecovery, State.inRecovery, checkFrame_ok_g h _ (by decide)]
  generalize (s.checkFrame l f).2 = c at *
  have hforb : ∀ a, c.forbidden a = s.forbidden a := fun a => by
    have hworld : ∀ q, c.world q = s.world q := fun q => hplace _ (by simp [F.UNIT_CTRL_WORLD]) (by simp [F.UNIT_CTRL_WORLD])
    simp only [State.forbidden, hworld]
  have hsrc : ∀ n, c.on (F.LAY_CTRL_SRC n) = s.on (F.LAY_CTRL_SRC n) := fun n => on_congr (hplace _ (by simp [F.LAY_CTRL_SRC]) (by simp [F.LAY_CTRL_SRC]))
  have hen : ∀ n, c.on (F.UNIT_CTRL_ENABLE n) = s.on (F.UNIT_CTRL_ENABLE n) := fun n =>
    on_congr (hplace _ (by simp [F.UNIT_CTRL_ENABLE]) (by simp [F.UNIT_CTRL_ENABLE]))
  have hfront : ∀ n, c.g (F.LAY_CTRL_FRONT n) = s.g (F.LAY_CTRL_FRONT n) := fun n => hplace _ (by simp [F.LAY_CTRL_FRONT]) (by simp [F.LAY_CTRL_FRONT])
  have hbase : c.cmdBase = s.cmdBase := by rw [State.cmdBase, State.cmdBase, hplace _ (by decide) (by decide)]
  have hring : ∀ n, c.ringSize n = s.ringSize n := fun n => by rw [State.ringSize, State.ringSize, hplace _ (by simp) (by simp)]
  have hctl : ∀ b, c.checkControl b = s.checkControl b := fun b => by unfold State.checkControl; simp only [hforb]
  have hlayer : ∀ x y z, c.checkLayer x y z = s.checkLayer x y z := fun x y z => by simp only [State.checkLayer, hsrc, hen, hfront, hbase, hlay]
  have hslot : ∀ n, c.slotState n = s.slotState n := fun n => by unfold State.slotState; rw [hgov, hupd]
  have hupdate : ∀ x y z, c.checkUpdate x y z = s.checkUpdate x y z := fun x y z => by unfold State.checkUpdate; simp only [hslot, hrec, hgov]
  unfold State.check5
  rw [hctl, hlayer, hupdate, hring]

/-! ### What a frame that the engine takes becomes -/

theorem takes_iff {f : Wire} {ft : Nat} : s.takes l f ft = true ↔ (s.checkFrame l f).1 = true ∧ f.ftype = ft ∧ s.lst l = 5 ∧ (s.link l).rx = []
    ∧ s.engineTakes l = true ∧ s.g F.SEC_LC_STATE ≠ 4 ∧ 4 + f.payload.length < 40960 ∧ (ft ≠ 1 ∨ 20 ≤ f.len) := by
  simp only [State.takes, Bool.and_eq_true, Bool.or_eq_true, decide_eq_true_eq, List.isEmpty_iff, and_assoc]

theorem withLnkA_self (s : State) : s.withLnkA s.lnkA = s := rfl

theorem withLnkB_self (s : State) : s.withLnkB s.lnkB = s := rfl

theorem modLink_self {f : Link → Link} (h : f (s.link l) = s.link l) : s.modLink l f = s := by
  unfold State.modLink
  unfold State.link at h
  split_ifs at h ⊢
  · rw [h, withLnkA_self]
  · rw [h, withLnkB_self]

theorem modLink_modLink (s : State) (l : Nat) (f g : Link → Link) : (s.modLink l f).modLink l g = s.modLink l (fun k => g (f k)) := by
  unfold State.modLink
  split_ifs <;> rfl

theorem engineTakes_waiting (h : s.engineTakes l = true) : (s.link l).waiting = none := by
  simp only [State.engineTakes, Bool.and_eq_true, Option.isNone_iff_eq_none] at h
  exact h.2

/-- The receive buffer is none of what decides whether the engine takes. -/
theorem engineTakes_rx (hl : l < 2) (s : State) (q : List RxFrame) : (s.modLink l (fun k => { k with rx := q })).engineTakes l = s.engineTakes l := by
  have hw := modLink_within hl s (fun k => { k with rx := q })
  have hcase : l = 0 ∨ l = 1 := by omega
  have hrst : (s.modLink l (fun k => { k with rx := q })).rst = s.rst := within_rst hw rfl (by rcases hcase with rfl | rfl <;> decide)
  have hpwr : (s.modLink l (fun k => { k with rx := q })).pwr = s.pwr := within_pwr hw rfl (by rcases hcase with rfl | rfl <;> decide)
  unfold State.engineTakes State.flintStopped State.blockRunning
  rw [modLink_served hl, hrst, hpwr, modLink_link, modLink_on, modLink_g]

/-- A frame at the head of the receive buffer, where the engine takes it. -/
theorem engineRun_one {r : RxFrame} (h : (s.link l).rx = [r]) (ht : s.engineTakes l = true) :
    s.engineRun l 1 = (s.modLink l (fun k => { k with rx := [] })).engineFrame l r := by
  simp only [State.engineRun, h, if_pos ht]

/-- A frame that the engine takes is served at once (R154). -/
theorem receive_engine {f : Wire} {ft : Nat} (hl : l < 2) (h : s.takes l f ft = true) :
    s.receive l f ft = (s.checkFrame l f).2.engineFrame l ⟨ft, f.payload⟩ := by
  obtain ⟨hok, ht, hst, hrx, heng, hlc, hroom, hlen⟩ := takes_iff.1 h
  have hlink : (s.checkFrame l f).2.link l = s.link l := checkFrame_ok_link hok l
  have hw : s.Within (Foot.of [0x70, 0x88] []) (s.checkFrame l f).2 := (checkFrame_ok_fits hok).within
  have hgrp : ∀ l < 2, ∀ x ∈ [F.LNK_STAT_STATE l, F.SEC_LC_STATE, F.CLK_STAT_ROOT_OK, F.RST_BOOT_STAT_PHASE],
      [0x70, 0x88].contains (groupPage x.page) = false := by decide
  have hg : ∀ x ∈ [F.LNK_STAT_STATE l, F.SEC_LC_STATE, F.CLK_STAT_ROOT_OK, F.RST_BOOT_STAT_PHASE], (s.checkFrame l f).2.g x = s.g x :=
    fun x hx => checkFrame_ok_g hok x (hgrp l hl x hx)
  have hcst : (s.checkFrame l f).2.lst l = 5 := (hg _ (by simp)).trans hst
  have hceng : (s.checkFrame l f).2.engineTakes l = true := by
    have hrst : (s.checkFrame l f).2.rst = s.rst := within_rst hw rfl rfl
    have hpwr : (s.checkFrame l f).2.pwr = s.pwr := within_pwr hw rfl rfl
    have hcmd : (s.checkFrame l f).2.cmd = s.cmd := within_cmd hw rfl rfl
    have hserved : (s.checkFrame l f).2.linkServed l = s.linkServed l :=
      linkServed_congr (congrArg Cmd.served hcmd) (hg _ (by simp)) (hg _ (by simp)) l
    rw [← heng]
    unfold State.engineTakes State.flintStopped State.blockRunning
    rw [hserved, hrst, hpwr, hlink, hg _ (by simp), on_congr (hg F.CLK_STAT_ROOT_OK (by simp))]
  unfold State.receive
  generalize s.checkFrame l f = r at hok hlink hcst hceng
  obtain ⟨ok, c⟩ := r
  have hlong : ¬ (decide (ft = 1) && decide (f.len < 20)) = true := by
    simp only [Bool.and_eq_true, decide_eq_true_eq]
    omega
  have hgo : (ok && f.ftype = ft && c.lst l = 5) = true := by simp [show ok = true from hok, ht, hcst]
  have hsize : RxFrame.size ⟨ft, f.payload⟩ = 4 + f.payload.length := rfl
  have hwait : (c.link l).waiting = none := by
    rw [hlink]
    exact engineTakes_waiting heng
  have hfill : (c.link l).fill = 0 := by simp [Link.fill, hlink ▸ hrx, hwait]
  dsimp only
  rw [if_pos hgo, if_neg hlong, if_neg (by rw [hfill, hsize]; omega)]
  have hrx' : (c.link l).rx = [] := hlink ▸ hrx
  have hone : c.modLink l (fun k => { k with rx := k.rx ++ [⟨ft, f.payload⟩] }) = c.modLink l (fun k => { k with rx := [⟨ft, f.payload⟩] }) := by
    unfold State.modLink
    unfold State.link at hrx'
    split_ifs at hrx' ⊢ <;> simp [hrx']
  have hpause : (c.modLink l (fun k => { k with rx := [⟨ft, f.payload⟩] })).pauseTry l = c.modLink l (fun k => { k with rx := [⟨ft, f.payload⟩] }) := by
    refine if_neg ?_
    simp [modLink_link, Link.fill, hwait, RxFrame.size, hroom]
  rw [hone, hpause, modLink_link]
  refine (engineRun_one (by rw [modLink_link]) ((engineTakes_rx hl c _).trans hceng)).trans ?_
  rw [modLink_modLink, modLink_self (by rw [← hrx'])]

theorem checkFrame_ok_lc {f : Wire} (h : (s.checkFrame l f).1 = true) : (s.checkFrame l f).2.g F.SEC_LC_STATE = s.g F.SEC_LC_STATE :=
  checkFrame_ok_g h _ (by decide)

/-- A WORK frame that the engine takes is classified. -/
theorem receive_taken {f : Wire} (hl : l < 2) (h : s.takes l f 1 = true) : s.receive l f 1 = (s.checkFrame l f).2.classify l f.payload := by
  obtain ⟨hok, -, -, -, -, hlc, -⟩ := takes_iff.1 h
  rw [receive_engine hl h]
  exact (if_neg (by simp)).trans (if_neg (by rwa [checkFrame_ok_lc hok]))

/-! ### Classification (R200) -/

theorem classify_good {b : List Byte} (hb : badHeader b = false) (hr : s.inRecovery = false) (he : ofBe (slice b 4 4) = s.g F.RST_EPOCH_EPOCH)
    (h0 : s.g F.RST_EPOCH_EPOCH ≠ 0) : s.classify l b = s.sequence (packetOf l b) := by
  simp [State.classify, hb, hr, he, h0]

theorem classify_epoch {b : List Byte} (hb : badHeader b = false) (hr : s.inRecovery = false) (he : ofBe (slice b 4 4) ≠ s.g F.RST_EPOCH_EPOCH) :
    s.classify l b = s.nack l (packetOf l b).chan 2 (packetOf l b).seq (s.exp (packetOf l b).chan) (s.g F.RST_EPOCH_EPOCH) := by
  simp [State.classify, hb, hr, he]

theorem sequence_next {p : Packet} (hd : s.seqDist p = 0) (hc : s.check5 p = 0) : s.sequence p = s.hold p := by
  simp [State.sequence, hd, hc]

theorem sequence_duplicate {p : Packet} (hd : 2 ^ 31 ≤ s.seqDist p) : s.sequence p = s.duplicate p := if_pos hd

theorem sequence_gap {p : Packet} (h0 : s.seqDist p ≠ 0) (hd : s.seqDist p < 2 ^ 31) : s.sequence p = s.gap p :=
  (if_neg (by omega)).trans (if_pos h0)

/-- The event that a NACK's code sets. -/
def nackEvt (code : Nat) : Fld :=
  if code = 1 then F.CMD_EVT_GAP else if code = 2 then F.CMD_EVT_EPOCH else if code = 3 then F.CMD_EVT_FORMAT else F.CMD_EVT_FORBIDDEN

theorem nack_eq (s : State) (l chan code seq exp aux : Nat) :
    s.nack l chan code seq exp aux = (s.evt (nackEvt code)).respond l (ackFrame 1 chan code seq exp aux) := by
  unfold State.nack nackEvt
  split_ifs <;> rfl

theorem respond_link (hl : l < 2) (s : State) (b : List Byte) : (s.respond l b).link l = { s.link l with ack := (s.link l).ack ++ [b] } := by
  rw [State.respond, if_pos hl]
  exact modLink_link ..

theorem respond_on (s : State) (b : List Byte) (x : Fld) : (s.respond l b).on x = s.on x := by
  unfold State.respond State.queueAck
  split_ifs
  · exact modLink_on ..
  · exact withSpi_on ..
  · rfl

theorem nack_link (hl : l < 2) (s : State) (chan code seq exp aux : Nat) : (s.nack l chan code seq exp aux).link l =
    { s.link l with ack := (s.link l).ack ++ [ackFrame 1 chan code seq exp aux] } := by
  rw [nack_eq, respond_link hl, evt_link]

theorem nack_evt (s : State) (chan code seq exp aux : Nat) : (s.nack l chan code seq exp aux).on (nackEvt code) = true := by
  rw [nack_eq, respond_on]
  refine on_evt_self _ ?_
  unfold nackEvt
  split_ifs <;> rfl


/-- A state that a frame that passed has left, as the classification reads it. -/
theorem checkFrame_ok_reads {f : Wire} (h : (s.checkFrame l f).1 = true) :
    (s.checkFrame l f).2.inRecovery = s.inRecovery ∧ (s.checkFrame l f).2.g F.RST_EPOCH_EPOCH = s.g F.RST_EPOCH_EPOCH
      ∧ (∀ c, (s.checkFrame l f).2.ring c = s.ring c) := by
  have hw : s.Within (Foot.of [0x70, 0x88] []) (s.checkFrame l f).2 := (checkFrame_ok_fits h).within
  have hcmd : (s.checkFrame l f).2.cmd = s.cmd := within_cmd hw rfl rfl
  refine ⟨?_, checkFrame_ok_g h _ (by decide), fun c => ?_⟩
  · rw [State.inRecovery, State.inRecovery, checkFrame_ok_g h _ (by decide)]
  · rw [State.ring, hcmd, State.ring]

theorem exec_workFrame {f : Wire} (hl : l < 2) (h : s.begin.takes l f 1 = true) :
    exec (.workFrame l f) s = .next ((s.begin.checkFrame l f).2.classify l f.payload) := congrArg Host.Outcome.next (receive_taken hl h)

theorem exec_pktWrite {len crc : Nat} {bytes : List Byte} (hr : s.spiReady = true) (hb : s.pktBad len bytes crc = false) :
    exec (.pktWrite len bytes crc) s = .next (s.begin.classify 2 bytes) :=
  congrArg Host.Outcome.next ((if_pos hr).trans (if_neg (ne_true_of_eq_false hb)))

theorem ring_modLink (s : State) (l c : Nat) (f : Link → Link) : (s.modLink l f).ring c = s.ring c := by
  unfold State.modLink State.ring
  split_ifs <;> rfl

theorem badHeader_chan {b : List Byte} (h : badHeader b = false) : (packetOf l b).chan < 4 := by
  simp only [badHeader, Bool.or_eq_false_iff, decide_eq_false_iff_not] at h
  obtain ⟨⟨⟨⟨h3, -⟩, -⟩, -⟩, -⟩ := h
  exact Nat.not_le.1 h3

/-- One more in the count of link A or of link B. -/
def countOf (a b : Fld) (l : Nat) (s : State) : State := if l = 0 then s.incSat a else if l = 1 then s.incSat b else s

theorem duplicate_eq (s : State) (p : Packet) : s.duplicate p = (countOf F.CMD_CNT_DUP_CNT_A F.CMD_CNT_DUP_CNT_B p.link s).respond p.link
    (ackFrame 0 p.chan 1 p.seq ((countOf F.CMD_CNT_DUP_CNT_A F.CMD_CNT_DUP_CNT_B p.link s).exp p.chan) 0) := rfl

theorem countOf_link (a b : Fld) (l : Nat) (s : State) (k : Nat) : (countOf a b l s).link k = s.link k := by
  unfold countOf
  split_ifs
  · exact incSat_link ..
  · exact incSat_link ..
  · rfl

theorem countOf_g {a b x : Fld} (ha : sep a x = true) (hb : sep b x = true) (l : Nat) (s : State) : (countOf a b l s).g x = s.g x := by
  unfold countOf
  split_ifs
  · exact g_incSat_sep _ ha
  · exact g_incSat_sep _ hb
  · rfl

theorem countOf_exp {c : Nat} (hc : c < 4) (l : Nat) (s : State) :
    (countOf F.CMD_CNT_DUP_CNT_A F.CMD_CNT_DUP_CNT_B l s).exp c = s.exp c ∧ (countOf F.CMD_CNT_GAP_CNT_A F.CMD_CNT_GAP_CNT_B l s).exp c = s.exp c := by
  have hplace : ∀ c < 4, ∀ f ∈ [F.CMD_CNT_DUP_CNT_A, F.CMD_CNT_DUP_CNT_B, F.CMD_CNT_GAP_CNT_A, F.CMD_CNT_GAP_CNT_B],
      sep f (F.CMD_EXP_EXP c) = true := by decide
  exact ⟨countOf_g (hplace c hc _ (by simp)) (hplace c hc _ (by simp)) l s, countOf_g (hplace c hc _ (by simp)) (hplace c hc _ (by simp)) l s⟩

theorem duplicate_link (hl : l < 2) {p : Packet} (hp : p.link = l) (hc : p.chan < 4) : (s.duplicate p).link l =
    { s.link l with ack := (s.link l).ack ++ [ackFrame 0 p.chan 1 p.seq (s.exp p.chan) 0] } := by
  subst hp
  rw [duplicate_eq, respond_link hl, countOf_link, (countOf_exp hc _ s).1]

theorem duplicate_window {p : Packet} (hp : p.link = 2) (hroom : s.spi.rsp.length < 64) :
    s.duplicate p = s.withSpi { s.spi with rsp := s.spi.rsp ++ [ackFrame 0 p.chan 1 p.seq (s.exp p.chan) 0] } := by
  rw [duplicate_eq, hp]
  exact (if_neg (by decide)).trans (if_pos hroom)

theorem gap_eq (s : State) (p : Packet) : s.gap p =
    if (countOf F.CMD_CNT_GAP_CNT_A F.CMD_CNT_GAP_CNT_B p.link s).gapHeld p.link p.chan then countOf F.CMD_CNT_GAP_CNT_A F.CMD_CNT_GAP_CNT_B p.link s
    else
      let v := if p.link < 2 then (countOf F.CMD_CNT_GAP_CNT_A F.CMD_CNT_GAP_CNT_B p.link s).modLink p.link (fun k => { k with gapHold := k.gapHold.set p.chan true })
        else countOf F.CMD_CNT_GAP_CNT_A F.CMD_CNT_GAP_CNT_B p.link s
      v.nack p.link p.chan 1 p.seq (v.exp p.chan) 0 := rfl

theorem gapHeld_congr (h : t.link l = s.link l) (c : Nat) : t.gapHeld l c = s.gapHeld l c := by rw [State.gapHeld, State.gapHeld, h]

theorem gap_held {p : Packet} (h : s.gapHeld p.link p.chan = true) : s.gap p = countOf F.CMD_CNT_GAP_CNT_A F.CMD_CNT_GAP_CNT_B p.link s := by
  rw [gap_eq, if_pos ((gapHeld_congr (countOf_link ..) _).trans h)]

theorem gap_answered {p : Packet} (hl : p.link < 2) (hc : p.chan < 4) (h : s.gapHeld p.link p.chan = false) :
    (s.gap p).on F.CMD_EVT_GAP = true ∧ (s.gap p).link p.link = { s.link p.link with
      gapHold := (s.link p.link).gapHold.set p.chan true, ack := (s.link p.link).ack ++ [ackFrame 1 p.chan 1 p.seq (s.exp p.chan) 0] } := by
  have hn : ¬ (countOf F.CMD_CNT_GAP_CNT_A F.CMD_CNT_GAP_CNT_B p.link s).gapHeld p.link p.chan = true := by
    rw [gapHeld_congr (countOf_link ..), h]
    decide
  rw [gap_eq, if_neg hn]
  dsimp only
  rw [if_pos hl]
  refine ⟨nack_evt _ _ 1 _ _ _, ?_⟩
  rw [nack_link hl, modLink_link, countOf_link, State.exp, modLink_g]
  rw [show State.g _ (F.CMD_EXP_EXP p.chan) = s.exp p.chan from (countOf_exp hc p.link s).2]

/-- Settles O14. -/
theorem workFrames : Obligations.WorkFrames := by
  unfold Obligations.WorkFrames
  refine ⟨?present, ?other, ?failed, ?window, ?bad, ?unready⟩
  case present =>
    intro s l f hl ht hb hr he h0 p
    obtain ⟨hok, -, hst, hrx, heng, -⟩ := takes_iff.1 ht
    obtain ⟨hcr, hce, hcring⟩ := checkFrame_ok_reads hok
    have hlink : (s.begin.checkFrame l f).2.link l = s.link l := checkFrame_ok_link hok l
    have hwait : (s.link l).waiting = none := engineTakes_waiting heng
    have hexp : ∀ c, (s.begin.checkFrame l f).2.exp c = s.exp c := fun c => checkFrame_ok_exp hok c
    have hchan : p.chan < 4 := badHeader_chan hb
    have hdist : (s.begin.checkFrame l f).2.seqDist p = s.seqDist p := checkFrame_ok_dist hok p
    have hrun : exec (.workFrame l f) s = .next ((s.begin.checkFrame l f).2.sequence p) :=
      (exec_workFrame hl ht).trans (congrArg Host.Outcome.next (classify_good hb (hcr.trans hr) (he.trans hce.symm) (hce.trans_ne h0)))
    have hcheck : (s.begin.checkFrame l f).2.check5 p = s.check5 p := checkFrame_ok_check5 hok p
    generalize (s.begin.checkFrame l f).2 = c at *
    refine ⟨fun hd hc => ?_, fun hd => ?_, fun hd0 hd hg => ?_, fun hd0 hd hg => ?_⟩
    · refine ⟨_, hrun.trans (congrArg Host.Outcome.next (sequence_next (hdist.trans hd) (hcheck.trans hc))), ?_⟩
      rw [show c.hold p = c.modLink l (fun k => { k with waiting := some p, waitSince := c.now }) from if_pos hl, modLink_link, hlink]
      exact ⟨rfl, hrx, fun k => ⟨(ring_modLink ..).trans (hcring k), (modLink_g ..).trans (hexp k)⟩⟩
    · refine ⟨_, hrun.trans (congrArg Host.Outcome.next (sequence_duplicate (hdist.ge.trans' hd))), ?_⟩
      rw [duplicate_link hl (p := p) rfl hchan, hlink, hexp]
      exact ⟨rfl, hrx, hwait⟩
    · refine ⟨_, hrun.trans (congrArg Host.Outcome.next (sequence_gap (hdist.trans_ne hd0) (hdist.trans_lt hd))), ?_⟩
      obtain ⟨hevt, hgap⟩ := gap_answered (s := c) (p := p) hl hchan ((gapHeld_congr hlink _).trans hg)
      rw [show (c.gap p).link l = (c.gap p).link p.link from rfl, hgap, hexp, show c.link p.link = s.link l from hlink]
      exact ⟨rfl, hevt, rfl⟩
    · refine ⟨_, hrun.trans (congrArg Host.Outcome.next (sequence_gap (hdist.trans_ne hd0) (hdist.trans_lt hd))), ?_⟩
      rw [gap_held ((gapHeld_congr (l := p.link) hlink _).trans hg), countOf_link, hlink]
  case other =>
    intro s l f hl ht hb hr he p
    obtain ⟨hok, -⟩ := takes_iff.1 ht
    obtain ⟨hcr, hce, hcring⟩ := checkFrame_ok_reads hok
    refine ⟨_, (exec_workFrame hl ht).trans (congrArg Host.Outcome.next (classify_epoch hb (hcr.trans hr) (hce ▸ he))), nack_evt _ _ 2 _ _ _, ?_⟩
    rw [nack_link hl, checkFrame_ok_link hok, checkFrame_ok_exp hok, hce]
    rfl
  case failed =>
    intro s l f h
    show Host.Outcome.next (s.begin.receive l f 1) = _
    unfold State.receive
    generalize s.begin.checkFrame l f = r at h ⊢
    obtain ⟨ok, c⟩ := r
    exact congrArg Host.Outcome.next (if_neg (by simp [show ok = false from h]))
  case window =>
    intro s len bytes crc hr hb hh hrec he h0 p
    have hrun : exec (.pktWrite len bytes crc) s = .next (s.begin.sequence p) :=
      (exec_pktWrite hr hb).trans (congrArg Host.Outcome.next (classify_good hh hrec he h0))
    refine ⟨fun hd hc => ?_, fun hd => ?_⟩
    · refine ⟨_, hrun.trans (congrArg Host.Outcome.next (sequence_next (s := s.begin) hd hc)), ?_⟩
      rw [show s.begin.hold p = s.begin.withSpi { s.begin.spi with waiting := some p, pktBusy := true } from if_neg (show ¬ p.link < 2 by simp [show p.link = 2 from rfl])]
      exact ⟨rfl, only_withSpi (by simp) (only_refl _ _ _)⟩
    · refine ⟨_, hrun.trans (congrArg Host.Outcome.next (sequence_duplicate (s := s.begin) hd)), ?_⟩
      have hroom : s.begin.spi.rsp.length < 64 := by
        simp only [State.pktBad, Bool.or_eq_false_iff, decide_eq_false_iff_not] at hb
        have := hb.2
        show s.spi.rsp.length < 64
        omega
      rw [duplicate_window (s := s.begin) (p := p) rfl hroom]
      exact ⟨rfl, only_withSpi (by simp) (only_refl _ _ _)⟩
  case bad =>
    intro s len bytes crc hr hb
    refine ⟨_, congrArg Host.Outcome.next ((if_pos hr).trans (if_pos hb)), (withSpi_on ..).trans (on_evt_self _ rfl), congrArg (fun v : Spi => { v with pktErr := true }) (evt_spi ..), ?_⟩
    exact only_withSpi (by simp) (only_evt (by simp) (by simp [F.SYS_EVT_SPT_ERR]) (by decide) (only_refl _ _ _))
  case unready =>
    intro s len bytes crc hr
    exact congrArg Host.Outcome.next (if_neg (ne_true_of_eq_false hr))

end Sys2Proof.Proofs.WorkPackets
end

section
/-! PROOF. Work packets: storing and reporting (CommandStore). -/

namespace Sys2Proof.Proofs.PacketStore

open Sys2Proof.Machine Sys2Proof.Laws Sys2Proof.Proofs.Architecture Sys2Proof.Proofs.RegisterMap Sys2Proof.Proofs.Reading
  Sys2Proof.Proofs.GovernorSums Sys2Proof.Proofs.GylysLinks Sys2Proof.Proofs.GylysTime Sys2Proof.Proofs.WorkPackets

variable {s t u : State} {l : Nat}

/-! ### A packet that waits no more -/

/-- A path without its packet. -/
def unheld (s : State) (l : Nat) : State :=
  if l < 2 then s.modLink l (fun k => { k with waiting := none }) else s.withSpi { s.spi with waiting := none, pktBusy := false }

theorem unhold_eq (s : State) (l : Nat) : s.unhold l =
    if (unheld s l).lnkA.waiting.isNone && (unheld s l).lnkB.waiting.isNone then (unheld s l).condEnd S.CMD_STORE_TMO 0 else unheld s l := rfl

theorem unhold_link (s : State) (l k : Nat) : (s.unhold l).link k = (unheld s l).link k := by
  rw [unhold_eq]
  split_ifs <;> rfl

theorem unhold_only (s : State) (l : Nat) : s.Only [] [.flt, .lnkA, .lnkB, .spi] (s.unhold l) := by
  have hv : s.Only [] [.flt, .lnkA, .lnkB, .spi] (unheld s l) := by
    refine only_ite (fun hl => ?_) (fun _ => only_withSpi (by simp) (only_refl _ _ _))
    exact only_modLink hl (by unfold lnkPart; split_ifs <;> simp) (only_refl _ _ _)
  rw [unhold_eq]
  exact only_ite (fun _ => only_withFlt (by simp) hv) (fun _ => hv)

theorem unhold_held (s : State) (l : Nat) : (s.unhold l).held l = none := by
  unfold State.held
  split_ifs with hl
  · rw [unhold_link, unheld, if_pos hl, modLink_link]
  · rw [unhold_eq, unheld, if_neg hl]
    split_ifs <;> rfl

theorem unhold_cmd (s : State) (l : Nat) : (s.unhold l).cmd = s.cmd := (unhold_only s l).parts.cmd (by simp [Foot.of])

theorem unhold_rx (s : State) (hl : l < 2) : ((s.unhold l).link l).rx = (s.link l).rx := by
  rw [unhold_link, unheld, if_pos hl, modLink_link]

/-! ### Packets without a body -/

theorem drainNoop_of_head {c : Nat} (h : ∀ q, (s.ring c).head? = some q → q.body ≠ []) (n : Nat) : s.drainNoop c n = s := by
  cases n with
  | zero => rfl
  | succ n =>
    unfold State.drainNoop
    split
    next p q hr =>
      have hp : p.body ≠ [] := h p (by rw [hr]; rfl)
      rw [if_neg (by simpa using hp)]
    next => rfl

/-! ### Acceptance -/

theorem setRing_ring (s : State) {c : Nat} (q : List Packet) (hc : c < s.cmd.rings.length) (k : Nat) :
    (s.setRing c q).ring k = if k = c then q else s.ring k := by
  unfold State.setRing State.ring
  show (s.cmd.rings.set c q).getD k [] = _
  simp only [List.getD_eq_getElem?_getD, List.getElem?_set]
  by_cases hk : k = c
  · simp [hk, hc]
  · simp [hk, Ne.symm hk]

theorem respond_only (s : State) (l : Nat) (b : List Byte) : s.Only [] [.lnkA, .lnkB, .spi] (s.respond l b) :=
  only_of_within (respond_fits s l b (by decide) (fits_refl _ s)).within

theorem respond_held (s : State) (l k : Nat) (b : List Byte) : (s.respond l b).held k = s.held k := by
  unfold State.respond State.queueAck State.held State.modLink State.link
  split_ifs <;> rfl

/-- What a change of a link leaves alone stands on every link. -/
theorem modLink_proj {α : Type} (π : Link → α) {f : Link → Link} (s : State) (k l : Nat) (hf : ∀ k, π (f k) = π k) :
    π ((s.modLink k f).link l) = π (s.link l) := by
  unfold State.modLink State.link
  by_cases hk : k = 0
  · by_cases hl : l = 0
    · rw [if_pos hk, if_pos hl, if_pos hl]
      exact hf _
    · rw [if_pos hk, if_neg hl, if_neg hl]
      rfl
  · by_cases hl : l = 0
    · rw [if_neg hk, if_pos hl, if_pos hl]
      rfl
    · rw [if_neg hk, if_neg hl, if_neg hl]
      exact hf _

theorem modLink_held {f : Link → Link} (s : State) (k l : Nat) (hf : ∀ k, (f k).waiting = k.waiting) : (s.modLink k f).held l = s.held l := by
  have hspi : (s.modLink k f).spi = s.spi := modLink_spi ..
  unfold State.held
  rw [modLink_proj Link.waiting s k l hf, hspi]

theorem setRing_link (s : State) (c : Nat) (q : List Packet) (l : Nat) : (s.setRing c q).link l = s.link l := rfl

/-- A link without the hold on gaps of a channel. -/
def noGap (c : Nat) (k : Link) : Link := { k with gapHold := k.gapHold.set c false }

/-- A packet as it is accepted, before packets without a body leave. -/
def accepted (s : State) (p : Packet) : State :=
  (((((s.setRing p.chan (s.ring p.chan ++ [p])).inc (F.CMD_EXP_EXP p.chan)).inc F.CMD_CNT_ACC_ACC).modLink 0
    (noGap p.chan)).modLink 1 (noGap p.chan)).respond p.link
    (ackFrame 0 p.chan 0 p.seq ((((((s.setRing p.chan (s.ring p.chan ++ [p])).inc (F.CMD_EXP_EXP p.chan)).inc F.CMD_CNT_ACC_ACC).modLink 0
    (noGap p.chan)).modLink 1 (noGap p.chan)).exp p.chan) 0)

theorem accept_eq {p : Packet} (h2 : p.chan ≠ 2) (hb : p.body ≠ []) :
    s.accept p = (accepted s p).drainNoop p.chan ((accepted s p).ring p.chan).length := by
  have he : p.body.isEmpty = false := by simpa using hb
  unfold State.accept
  simp only [h2, he, decide_false, Bool.false_and, Bool.false_eq_true, if_false]
  rfl

theorem accepted_cmd (s : State) (p : Packet) : (accepted s p).cmd = (s.setRing p.chan (s.ring p.chan ++ [p])).cmd := by
  unfold accepted
  rw [(respond_only _ _ _).parts.cmd (by simp [Foot.of])]
  rfl

theorem accepted_only (s : State) (p : Packet) :
    s.Only [F.CMD_EXP_EXP p.chan, F.CMD_CNT_ACC_ACC] [.cmd, .lnkA, .lnkB, .spi] (accepted s p) := by
  refine only_app (by simp) (by simp) (respond_only _ _ _) ?_
  refine only_modLink (by decide) (by simp [lnkPart]) (only_modLink (by decide) (by simp [lnkPart]) ?_)
  exact only_inc (by simp) (by decide) (only_inc (by simp) (by simp [F.CMD_EXP_EXP]) (only_withCmd (by simp) (only_refl _ _ _)))

theorem accepted_counts {p : Packet} (hp : p.chan < 4) (s : State) :
    (accepted s p).exp p.chan = (s.exp p.chan + 1) % 2 ^ 32 ∧ (accepted s p).g F.CMD_CNT_ACC_ACC = (s.g F.CMD_CNT_ACC_ACC + 1) % 2 ^ 32 := by
  have hplace : ∀ c < 4, sep F.CMD_CNT_ACC_ACC (F.CMD_EXP_EXP c) = true ∧ sep (F.CMD_EXP_EXP c) F.CMD_CNT_ACC_ACC = true := by decide
  obtain ⟨h1, h2⟩ := hplace p.chan hp
  unfold accepted
  constructor
  · rw [State.exp, only_g (respond_only _ _ _) rfl, modLink_g, modLink_g]
    exact (g_put_sep _ _ h1).trans (g_put_same _ _ _ (by simp [F.CMD_EXP_EXP]) (by simp [F.CMD_EXP_EXP]))
  · rw [only_g (respond_only _ _ _) rfl, modLink_g, modLink_g]
    refine (g_put_same _ _ _ (by decide) (by decide)).trans ?_
    rw [show ((s.setRing p.chan (s.ring p.chan ++ [p])).inc (F.CMD_EXP_EXP p.chan)).g F.CMD_CNT_ACC_ACC = s.g F.CMD_CNT_ACC_ACC from g_put_sep _ _ h2]
    rfl

theorem accepted_held (s : State) (p : Packet) (l : Nat) : (accepted s p).held l = s.held l := by
  unfold accepted
  have hgap : ∀ k, (noGap p.chan k).waiting = k.waiting := fun _ => rfl
  rw [respond_held, modLink_held _ _ _ hgap, modLink_held _ _ _ hgap]
  unfold State.held
  rw [State.inc, State.inc, put_link, put_link, put_spi, put_spi, setRing_link, setRing_spi]

theorem queueAck_rx (s : State) (k l : Nat) (b : List Byte) : ((s.queueAck k b).link l).rx = (s.link l).rx :=
  modLink_proj Link.rx s k l (f := fun k => { k with ack := k.ack ++ [b] }) (fun _ => rfl)

theorem respond_rx (s : State) (k l : Nat) (b : List Byte) : ((s.respond k b).link l).rx = (s.link l).rx := by
  unfold State.respond
  split_ifs
  · exact queueAck_rx ..
  · rfl
  · rfl

theorem accepted_rx (s : State) (p : Packet) (l : Nat) : ((accepted s p).link l).rx = (s.link l).rx := by
  have hgap : ∀ k, (noGap p.chan k).rx = k.rx := fun _ => rfl
  unfold accepted
  rw [respond_rx, modLink_proj Link.rx _ _ _ hgap, modLink_proj Link.rx _ _ _ hgap, State.inc, State.inc, put_link, put_link, setRing_link]

/-! ### PACKET_STORE -/

/-- The command works where the clocks are up and Flint is not stopped; the receive buffer of its path is empty. -/
theorem exec_packetStore {copies : Nat} (h1 : s.rst.scope = none) (h2 : s.on F.CLK_STAT_ROOT_OK = true) (h3 : s.flintStopped = false)
    (hrx : l < 2 → ((s.begin.storeWaiting l copies).link l).rx = []) : exec (.packetStore l copies) s = .next (s.begin.storeWaiting l copies) := by
  have hgo : (s.begin.rst.scope.isNone && s.begin.on F.CLK_STAT_ROOT_OK && !s.begin.flintStopped) = true := by
    show (s.rst.scope.isNone && s.on F.CLK_STAT_ROOT_OK && !s.flintStopped) = true
    simp [h1, h2, h3]
  refine congrArg Host.Outcome.next ((if_pos hgo).trans ?_)
  by_cases hl : l < 2
  · exact (if_pos hl).trans (by rw [hrx hl]; rfl)
  · exact if_neg hl

theorem storeWaiting_full {copies : Nat} {p : Packet} (h : s.held l = some p) (hd : s.seqDist p = 0) (hr : s.ringSize p.chan < s.ringUsed p.chan + p.size) :
    s.storeWaiting l copies = s := by
  simp [State.storeWaiting, h, hd, Nat.not_le.2 hr]

theorem storeWaiting_room {copies : Nat} {p : Packet} (h : s.held l = some p) (hd : s.seqDist p = 0) (hr : s.ringUsed p.chan + p.size ≤ s.ringSize p.chan) :
    s.storeWaiting l copies =
      if ((s.unhold l).checkCopies copies).1 then ((s.unhold l).checkCopies copies).2.accept p else ((s.unhold l).checkCopies copies).2 := by
  simp [State.storeWaiting, h, hd, hr]

theorem checkCopies_good {copies : Nat} (hc : copies % 4 = 0) (ha : s.armed S.CMD_STATE_COPY = false) : s.checkCopies copies = (true, s) := by
  simp [State.checkCopies, hc, ha, consumeInj_of_idle ha]

/-- The rings and sequence numbers of a lost store state. -/
def ringLost (s : State) (k : Nat) : State := (((s.setRing k []).put (F.CMD_EXP_EXP k) 0).put (F.CMD_DONE_DONE_SEQ k) 0).replayNack k 0

theorem checkCopies_lost {copies : Nat} (hc : copies % 4 = 3) :
    s.checkCopies copies = (false, (List.range 4).foldl ringLost (((s.consumeInj S.CMD_STATE_COPY).evt F.CMD_EVT_STORE_LOST).raise S.CMD_STORE_LOST 0)) := by
  simp [State.checkCopies, hc]
  rfl

theorem armed_congr (hst : t.g F.FLT_INJ_STATE = s.g F.FLT_INJ_STATE) (hix : t.g F.FLT_INJ_INDEX = s.g F.FLT_INJ_INDEX) (i : Nat) :
    t.armed i = s.armed i := by rw [State.armed, State.armed, hst, hix]

theorem replayNack_only (s : State) (c n : Nat) : s.Only [] [.lnkA, .lnkB] (s.replayNack c n) :=
  only_of_within (replayNack_fits s c n (by decide) (fits_refl _ s)).within

theorem ringLost_only (s : State) (k : Nat) : s.Only [F.CMD_EXP_EXP k, F.CMD_DONE_DONE_SEQ k] [.cmd, .lnkA, .lnkB] (ringLost s k) :=
  only_app (by simp) (by simp) (replayNack_only _ _ _)
    (only_put _ (by simp) (by simp [F.CMD_DONE_DONE_SEQ]) (only_put _ (by simp) (by simp [F.CMD_EXP_EXP]) (only_withCmd (by simp) (only_refl _ _ _))))

theorem ringLost_rings (s : State) (k : Nat) : (ringLost s k).cmd.rings = s.cmd.rings.set k [] := by
  unfold ringLost
  rw [(replayNack_only _ _ _).parts.cmd (by simp [Foot.of])]
  simp [State.setRing, State.withCmd]

theorem ringLost_counts (s : State) {k : Nat} (hk : k < 4) : (ringLost s k).exp k = 0 ∧ (ringLost s k).g (F.CMD_DONE_DONE_SEQ k) = 0 := by
  have hplace : ∀ k < 4, sep (F.CMD_DONE_DONE_SEQ k) (F.CMD_EXP_EXP k) = true := by decide
  unfold ringLost
  constructor
  · rw [State.exp, only_g (replayNack_only _ _ _) rfl, g_put_sep _ _ (hplace k hk)]
    exact g_put_room _ rfl
  · rw [only_g (replayNack_only _ _ _) rfl]
    exact g_put_room _ rfl

/-- A ring that is lost leaves the counts of every other channel. -/
theorem ringLost_other (s : State) {k c : Nat} (hk : k < 4) (hc : c < 4) (h : k ≠ c) :
    (ringLost s k).exp c = s.exp c ∧ (ringLost s k).g (F.CMD_DONE_DONE_SEQ c) = s.g (F.CMD_DONE_DONE_SEQ c) := by
  have hplace : ∀ k < 4, ∀ c < 4, k ≠ c → clear [F.CMD_EXP_EXP k, F.CMD_DONE_DONE_SEQ k] (F.CMD_EXP_EXP c) = true
      ∧ clear [F.CMD_EXP_EXP k, F.CMD_DONE_DONE_SEQ k] (F.CMD_DONE_DONE_SEQ c) = true := by decide
  obtain ⟨h1, h2⟩ := hplace k hk c hc h
  exact ⟨only_g (ringLost_only s k) h1, only_g (ringLost_only s k) h2⟩

/-- After the four channels have been lost each is empty and counts from 0. -/
theorem ringsLost (s : State) {c : Nat} (hc : c < 4) : ((List.range 4).foldl ringLost s).ring c = []
    ∧ ((List.range 4).foldl ringLost s).exp c = 0 ∧ ((List.range 4).foldl ringLost s).g (F.CMD_DONE_DONE_SEQ c) = 0 := by
  have hstep : ∀ (v : State) (k : Nat), k < 4 → (k = c ∨ v.cmd.rings.getD c [] = [] ∧ v.exp c = 0 ∧ v.g (F.CMD_DONE_DONE_SEQ c) = 0) →
      (ringLost v k).cmd.rings.getD c [] = [] ∧ (ringLost v k).exp c = 0 ∧ (ringLost v k).g (F.CMD_DONE_DONE_SEQ c) = 0 := by
    intro v k hk h
    by_cases hkc : k = c
    · subst hkc
      refine ⟨?_, ringLost_counts v hk⟩
      rw [ringLost_rings]
      simp [List.getD_eq_getElem?_getD, List.getElem?_set]
      split_ifs <;> simp
    · obtain ⟨hr, he, hd⟩ := h.resolve_left hkc
      obtain ⟨he', hd'⟩ := ringLost_other v hk hc hkc
      refine ⟨?_, he'.trans he, hd'.trans hd⟩
      rw [ringLost_rings]
      simpa [List.getD_eq_getElem?_getD, List.getElem?_set, hkc] using hr
  have h4 : c = 0 ∨ c = 1 ∨ c = 2 ∨ c = 3 := by omega
  show (ringLost (ringLost (ringLost (ringLost s 0) 1) 2) 3).cmd.rings.getD c [] = [] ∧ _
  rcases h4 with rfl | rfl | rfl | rfl
  · exact hstep _ 3 (by decide) (.inr (hstep _ 2 (by decide) (.inr (hstep _ 1 (by decide) (.inr (hstep _ 0 (by decide) (.inl rfl)))))))
  · exact hstep _ 3 (by decide) (.inr (hstep _ 2 (by decide) (.inr (hstep _ 1 (by decide) (.inl rfl)))))
  · exact hstep _ 3 (by decide) (.inr (hstep _ 2 (by decide) (.inl rfl)))
  · exact hstep _ 3 (by decide) (.inl rfl)

theorem ringLost_rx (s : State) (k l : Nat) : ((ringLost s k).link l).rx = (s.link l).rx := by
  have hnack : ∀ (v : State) (c n : Nat), ((v.replayNack c n).link l).rx = (v.link l).rx := fun v c n =>
    List.foldlRecOn (motive := fun u : State => (u.link l).rx = (v.link l).rx) (List.range 2) _ rfl fun u hu k _ => by
      split_ifs
      · rw [queueAck_rx, hu]
      · exact hu
  unfold ringLost
  rw [hnack, put_link, put_link, setRing_link]

theorem ringsLost_rx (s : State) (l : Nat) : (((List.range 4).foldl ringLost s).link l).rx = (s.link l).rx :=
  List.foldlRecOn (motive := fun u : State => (u.link l).rx = (s.link l).rx) (List.range 4) ringLost rfl fun u hu k _ => (ringLost_rx u k l).trans hu

theorem ringsLost_g {x : Fld} (h : ∀ k < 4, clear [F.CMD_EXP_EXP k, F.CMD_DONE_DONE_SEQ k] x = true) (s : State) :
    ((List.range 4).foldl ringLost s).g x = s.g x :=
  List.foldlRecOn (motive := fun u : State => u.g x = s.g x) (List.range 4) ringLost rfl fun u hu k hk =>
    (only_g (ringLost_only u k) (h k (List.mem_range.1 hk))).trans hu

theorem consumeInj_only (s : State) (i : Nat) :
    s.Only [F.FLT_INJ_STATE, F.FLT_INJ_ARM, F.FLT_EVT_INJ_DONE, F.UNIT_IRQ_STAT_EVT 0x70, F.FLT_CNT_INJECTED, F.FLT_ALARM_INJ_SEEN] []
      (s.consumeInj i) := by
  unfold State.consumeInj
  refine only_ite (fun _ => ?_) (fun _ => only_refl _ _ _)
  exact only_put _ (by simp) (by decide) (only_incSat (by simp) (by decide) (only_evt (by simp) (by simp [F.FLT_EVT_INJ_DONE]) (by decide)
    (only_put _ (by simp) (by decide) (only_put _ (by simp) (by decide) (only_refl _ _ _)))))

theorem consumeInj_g (s : State) (i : Nat) {x : Fld}
    (h : clear [F.FLT_INJ_STATE, F.FLT_INJ_ARM, F.FLT_EVT_INJ_DONE, F.UNIT_IRQ_STAT_EVT 0x70, F.FLT_CNT_INJECTED, F.FLT_ALARM_INJ_SEEN] x = true) :
    (s.consumeInj i).g x = s.g x := only_g (consumeInj_only s i) h

theorem consumeInj_link (s : State) (i l : Nat) : (s.consumeInj i).link l = s.link l := by
  have hw : s.Within (Foot.of [0x70] []) (s.consumeInj i) := (consumeInj_fits s i (by decide) (fits_refl _ s)).within
  rw [State.link, within_lnkA hw rfl rfl, within_lnkB hw rfl rfl, State.link]

/-! ### DONE frames (R209) -/

/-- A DONE frame to a link that may take it. -/
def tell (ch : Nat) (b : List Byte) (s : State) (l : Nat) : State :=
  if s.doneMay l ch then (s.queueAck l b).modLink l (fun k => { k with doneAt := k.doneAt.set ch (some s.now) }) else s

theorem doneMay_congr (hg : t.g (F.LNK_STAT_STATE l) = s.g (F.LNK_STAT_STATE l)) (hk : t.link l = s.link l) (hn : t.now = s.now) (ch : Nat) :
    t.doneMay l ch = s.doneMay l ch := by
  unfold State.doneMay State.active State.lst
  rw [hg, hk, hn]

theorem tell_only (hl : l < 2) (ch : Nat) (b : List Byte) (s : State) : s.Only [] [lnkPart l] (tell ch b s l) :=
  only_ite (fun _ => only_modLink hl (by simp) (only_modLink hl (by simp) (only_refl _ _ _))) (fun _ => only_refl _ _ _)

theorem tell_ack (s : State) (l ch : Nat) (b : List Byte) :
    ((tell ch b s l).link l).ack = if s.doneMay l ch then (s.link l).ack ++ [b] else (s.link l).ack := by
  unfold tell
  split_ifs
  · rw [modLink_link, State.queueAck, modLink_link]
  · rfl

theorem modLink_link_other {k : Nat} (h : ¬ (l = 0 ↔ k = 0)) (s : State) (f : Link → Link) : (s.modLink l f).link k = s.link k := by
  unfold State.modLink State.link
  by_cases hl : l = 0 <;> by_cases hk : k = 0 <;> simp_all

theorem tell_other {k : Nat} (h : ¬ (l = 0 ↔ k = 0)) (s : State) (ch : Nat) (b : List Byte) : (tell ch b s l).link k = s.link k := by
  unfold tell
  split_ifs
  · rw [modLink_link_other h, State.queueAck, modLink_link_other h]
  · rfl

/-- What follows the two links: the packet window, and whether the host has been told. -/
def doneRest (ch : Nat) (b : List Byte) (s : State) : State :=
  let spi := s.winEnabled && decide (s.spi.rsp.length ≤ 60)
    && (match s.spi.doneAt.getD ch none with | some t => decide (ms 1 ≤ s.now - t) | none => true)
  let s : State := if spi then (s.withSpi { s.spi with rsp := s.spi.rsp ++ [b], doneAt := s.spi.doneAt.set ch (some s.now) }) else s
  let told := (List.range 2).all (fun l => !s.active l || (s.link l).ack.any (fun f => f.getD 1 0 = b8 ch))
  s.withCmd { s.cmd with doneDue := s.cmd.doneDue.set ch (!told) }

theorem exec_doneFrame {ch copies : Nat} (hch : ch < 4) (hd : s.cmd.doneDue.getD ch false = true) (hc : copies % 4 = 0)
    (ha : s.armed S.CMD_STATE_COPY = false) : exec (.doneFrame ch copies) s = .next (doneRest ch (ackFrame 2 ch 0 0 (s.exp ch) 0)
      (tell ch (ackFrame 2 ch 0 0 (s.exp ch) 0) (tell ch (ackFrame 2 ch 0 0 (s.exp ch) 0) s.begin 0) 1)) := by
  have hgo : (decide (ch < 4) && s.begin.cmd.doneDue.getD ch false) = true := by
    show (decide (ch < 4) && s.cmd.doneDue.getD ch false) = true
    simp only [hch, hd, decide_true, Bool.and_self]
  refine congrArg Host.Outcome.next ((if_pos hgo).trans ?_)
  rw [checkCopies_good (s := s.begin) hc ha]
  rfl

theorem doneRest_only (ch : Nat) (b : List Byte) (s : State) : s.Only [] [.spi, .cmd] (doneRest ch b s) :=
  only_withCmd (by simp) (only_ite (fun _ => only_withSpi (by simp) (only_refl _ _ _)) (fun _ => only_refl _ _ _))

theorem doneRest_link (ch : Nat) (b : List Byte) (s : State) (l : Nat) : (doneRest ch b s).link l = s.link l := by
  have h := (doneRest_only ch b s).parts
  rw [State.link, h.lnkA (by simp [Foot.of]), h.lnkB (by simp [Foot.of]), State.link]

/-- Settles O15. -/
theorem commandStore : Obligations.CommandStore := by
  unfold Obligations.CommandStore
  refine ⟨?stored, ?full, ?lost, ?timeout, ?done, ?notDue⟩
  case stored =>
    intro s l copies p h1 h2 h3 hrx hheld hd hch hch2 hb hlen hroom hhead hc ha
    have hU := unhold_only s.begin l
    have harm : (s.begin.unhold l).armed S.CMD_STATE_COPY = false :=
      (armed_congr (only_g hU rfl) (only_g hU rfl) _).trans ha
    have hcmd : (s.begin.unhold l).cmd = s.cmd := unhold_cmd s.begin l
    have hlen' : p.chan < (s.begin.unhold l).cmd.rings.length := by rw [hcmd, hlen]; exact hch
    have hring : ∀ c, (s.begin.unhold l).ring c = s.ring c := fun c => by rw [State.ring, hcmd, State.ring]
    have hafter : ∀ k, (accepted (s.begin.unhold l) p).ring k = if k = p.chan then s.ring p.chan ++ [p] else s.ring k := fun k => by
      rw [State.ring, accepted_cmd, ← State.ring, setRing_ring _ _ hlen', hring, hring]
    have hnoop : (s.begin.unhold l).accept p = accepted (s.begin.unhold l) p := by
      rw [accept_eq hch2 hb, drainNoop_of_head]
      intro q hq
      rw [hafter, if_pos rfl] at hq
      cases hr : s.ring p.chan with
      | nil =>
        rw [hr] at hq
        obtain rfl : p = q := by simpa using hq
        exact hb
      | cons x xs =>
        rw [hr] at hq
        exact hhead q (by rw [hr]; simpa using hq)
    have hstore : s.begin.storeWaiting l copies = accepted (s.begin.unhold l) p := by
      rw [storeWaiting_room (s := s.begin) hheld hd hroom, checkCopies_good hc harm, ← hnoop]
      rfl
    have hO : s.begin.Only [F.CMD_EXP_EXP p.chan, F.CMD_CNT_ACC_ACC] [.flt, .cmd, .lnkA, .lnkB, .spi] (accepted (s.begin.unhold l) p) :=
      only_app (by simp) (by simp) (accepted_only _ p) (only_mono (by simp) (by simp) hU)
    have hrun : exec (.packetStore l copies) s = .next (accepted (s.begin.unhold l) p) := by
      rw [exec_packetStore h1 h2 h3 (fun hl => ?_), hstore]
      rw [hstore, accepted_rx, unhold_rx _ hl]
      exact hrx hl
    obtain ⟨hexp, hacc⟩ := accepted_counts hch (s.begin.unhold l)
    refine ⟨_, hrun, (hafter _).trans (if_pos rfl), fun c hcc => (hafter c).trans (if_neg hcc), hexp.trans ?_, hacc.trans ?_,
      (accepted_held ..).trans (unhold_held ..), hO⟩
    · rw [State.exp, only_g hU (by rfl)]
      rfl
    · rw [only_g hU rfl]
      rfl
  case full =>
    intro s l copies p h1 h2 h3 hrx hheld hd hr
    have hstore : s.begin.storeWaiting l copies = s.begin := storeWaiting_full (s := s.begin) hheld hd hr
    rw [exec_packetStore h1 h2 h3 (by rw [hstore]; exact hrx), hstore]
  case lost =>
    intro s l copies p h1 h2 h3 hrx hheld hd hlen hroom hc
    have hU := unhold_only s.begin l
    have hstore : s.begin.storeWaiting l copies = (List.range 4).foldl ringLost ((((s.begin.unhold l).consumeInj S.CMD_STATE_COPY).evt
        F.CMD_EVT_STORE_LOST).raise S.CMD_STORE_LOST 0) := by
      rw [storeWaiting_room (s := s.begin) hheld hd hroom, checkCopies_lost hc]
      rfl
    have hrun := exec_packetStore (l := l) (copies := copies) h1 h2 h3 (fun hl => by
      rw [hstore, ringsLost_rx, raise_link, evt_link, consumeInj_link, unhold_rx _ hl]
      exact hrx hl)
    refine ⟨_, hrun.trans (congrArg Host.Outcome.next hstore), ?_, ?_, ?_⟩
    · refine (on_congr ((ringsLost_g (by decide) _).trans (raise_g _ _ _ (by decide)))).trans (on_evt_self _ rfl)
    · intro c hcc
      obtain ⟨hr, he, hdn⟩ := ringsLost ((((s.begin.unhold l).consumeInj S.CMD_STATE_COPY).evt F.CMD_EVT_STORE_LOST).raise S.CMD_STORE_LOST 0) hcc
      exact ⟨hr, he, hdn⟩
    · intro hlev
      refine (on_congr (ringsLost_g (by decide) _)).trans (raise_pend _ _ (by decide) ?_)
      have hg : ∀ x ∈ [F.FLT_CTRL_MODE, fltSev S.CMD_STORE_LOST], (((s.begin.unhold l).consumeInj S.CMD_STATE_COPY).evt F.CMD_EVT_STORE_LOST).g x = s.g x := by
        intro x hx
        have hplace : ∀ x ∈ [F.FLT_CTRL_MODE, fltSev S.CMD_STORE_LOST], sep F.CMD_EVT_STORE_LOST x = true ∧ sep (F.UNIT_IRQ_STAT_EVT 0x10) x = true
            ∧ clear [F.FLT_INJ_STATE, F.FLT_INJ_ARM, F.FLT_EVT_INJ_DONE, F.UNIT_IRQ_STAT_EVT 0x70, F.FLT_CNT_INJECTED, F.FLT_ALARM_INJ_SEEN] x = true := by
          decide
        obtain ⟨h1, h2, h3⟩ := hplace x hx
        exact (g_evt_sep _ h1 h2).trans ((consumeInj_g _ _ h3).trans ((hU.fields x (by simp)).trans rfl))
      rwa [State.defLevel, on_congr (hg F.FLT_CTRL_MODE (by simp)), hg _ (by simp)]
  case timeout =>
    intro s l hl hw hq
    have hq' : (s.begin.evt F.CMD_EVT_STORE_TMO).quiet 0x10 = false := by
      rw [State.quiet, evt_rst]
      exact hq
    have hrun : exec (.storeTimeout l) s = .next ((s.begin.evt F.CMD_EVT_STORE_TMO).raise S.CMD_STORE_TMO 0) := by
      refine congrArg Host.Outcome.next ((if_pos ?_).trans (if_neg ?_))
      · simp only [hl, decide_true, Bool.true_and]
        exact hw
      · simp [hq']
    refine ⟨_, hrun, (on_congr (raise_g _ _ _ (by decide))).trans (on_evt_self _ rfl), fun hlev => raise_pend _ _ (by decide) ?_, ?_⟩
    · rwa [fits_defLevel (evt_fits (f := Foot.of [0x10] []) (x := F.CMD_EVT_STORE_TMO) (by decide) (fits_refl _ s.begin)) rfl rfl]
    · exact (raise_fits _ _ _ (by decide) (by decide) (evt_fits (by decide) (begin_fits s (by decide) (fits_refl _ s)))).within
  case done =>
    intro s ch copies hch hd hc ha
    refine ⟨_, exec_doneFrame hch hd hc ha, ?_⟩
    generalize ackFrame 2 ch 0 0 (s.exp ch) 0 = b
    have h0 := tell_only (l := 0) (by decide) ch b s.begin
    have hmay : (tell ch b s.begin 0).doneMay 1 ch = s.doneMay 1 ch :=
      doneMay_congr (only_g h0 rfl) (tell_other (by decide) _ _ _) (h0.parts.now (by simp [Foot.of, lnkPart])) ch
    have hack : ∀ l < 2, ((doneRest ch b (tell ch b (tell ch b s.begin 0) 1)).link l).ack =
        if s.doneMay l ch then (s.link l).ack ++ [b] else (s.link l).ack := by
      intro l hl
      rw [doneRest_link]
      rcases (by omega : l = 0 ∨ l = 1) with rfl | rfl
      · rw [tell_other (by decide)]
        exact tell_ack ..
      · rw [tell_ack, hmay, tell_other (by decide)]
        rfl
    refine ⟨fun l hl hm => (hack l hl).trans (if_pos hm), fun l hl hm => (hack l hl).trans (if_neg (ne_true_of_eq_false hm)), ?_⟩
    exact only_app (by simp) (by simp) (doneRest_only ch b _) (only_app (by simp) (by simp [lnkPart]) (tell_only (by decide) ch b _)
      (only_mono (by simp) (by simp [lnkPart]) h0))
  case notDue =>
    intro s ch copies hd
    refine congrArg Host.Outcome.next (if_neg ?_)
    rw [show s.begin.cmd.doneDue.getD ch false = s.cmd.doneDue.getD ch false from rfl, hd]
    simp

end Sys2Proof.Proofs.PacketStore
end

section
/-! PROOF. Work packets: consuming the oldest packet (Consumption). -/

namespace Sys2Proof.Proofs.PacketConsumption

open Sys2Proof.Machine Sys2Proof.Laws Sys2Proof.Proofs.Architecture Sys2Proof.Proofs.RegisterMap Sys2Proof.Proofs.Reading
  Sys2Proof.Proofs.GovernorSums Sys2Proof.Proofs.GylysLinks Sys2Proof.Proofs.PlainRegisters Sys2Proof.Proofs.WorkPackets
  Sys2Proof.Proofs.PacketStore

variable {s t u : State} {p : Packet}

/-! ### Bytes of memory -/

theorem setByte_byte (s : State) (a x : Nat) (b : Byte) : (s.setByte a b).byte x = if x = a then b else s.byte x := by
  unfold State.byte State.setByte
  split_ifs with h
  · subst h
    exact tabGet_tabPut_same ..
  · exact tabGet_tabPut_other _ _ h

/-- A string of bytes lies where it was written, and every other byte is as it was. -/
theorem setBytes_byte (l : List Byte) : ∀ (s : State) (a x : Nat),
    (s.setBytes a l).byte x = if a ≤ x ∧ x < a + l.length then l.getD (x - a) 0 else s.byte x := by
  induction l with
  | nil =>
    intro s a x
    rw [if_neg (by simp)]
    rfl
  | cons b t ih =>
    intro s a x
    rw [State.setBytes, ih, setByte_byte]
    rcases Nat.lt_trichotomy x a with h | h | h
    · rw [if_neg (by omega), if_neg (by omega), if_neg (by omega)]
    · subst h
      rw [if_neg (by omega), if_pos rfl, if_pos (by simp)]
      simp
    · have hsub : x - a = (x - (a + 1)) + 1 := by omega
      rw [if_neg (show ¬ x = a by omega), hsub, List.getD_cons_succ]
      exact if_congr (by simp only [List.length_cons]; omega) rfl rfl

theorem setBytes_only (s : State) (a : Nat) (l : List Byte) : s.Only [] [.mem] (s.setBytes a l) :=
  only_of_within (setBytes_fits a l rfl (fits_refl _ s)).within

/-! ### The oldest packet is done -/

theorem doneHead_one {c : Nat} (h : s.ring c = [p]) : s.doneHead c = (s.setRing c []).doneSeq c p.seq := by
  unfold State.doneHead
  rw [h]
  rfl

theorem doneHead_reads {c : Nat} (h : s.ring c = [p]) (hc : c < s.cmd.rings.length) :
    (s.doneHead c).ring c = [] ∧ (s.doneHead c).g (F.CMD_DONE_DONE_SEQ c) = p.seq % 2 ^ 32
      ∧ s.Only [F.CMD_DONE_DONE_SEQ c] [.cmd] (s.doneHead c) := by
  rw [doneHead_one h]
  refine ⟨?_, g_put_same _ _ _ (by simp [F.CMD_DONE_DONE_SEQ]) (by simp [F.CMD_DONE_DONE_SEQ]), ?_⟩
  · exact (setRing_ring s [] hc c).trans (if_pos rfl)
  · exact only_withCmd (by simp) (only_put _ (by simp) (by simp [F.CMD_DONE_DONE_SEQ]) (only_withCmd (by simp) (only_refl _ _ _)))

theorem doneSeq_word (s : State) (c n : Nat) {a : Nat} (h : a ≠ (F.CMD_DONE_DONE_SEQ c).addr) : (s.doneSeq c n).word a = s.word a :=
  word_put_other s _ _ h

theorem head_of {c : Nat} {q : List Packet} (hc : s.consuming c = true) (h : s.ring c = p :: q) : s.head c = some p := by
  rw [State.head, if_pos hc, h]
  rfl

theorem head_none {c : Nat} (h : s.consuming c = false ∨ s.ring c = []) : s.head c = none := by
  unfold State.head
  rcases h with h | h
  · rw [if_neg (ne_true_of_eq_false h)]
  · rw [h]
    exact ite_self _

theorem crcUnit_congr (h : ∀ x, t.g x = s.g x) (m n : Nat) : t.crcUnit m n = s.crcUnit m n := by
  unfold State.crcUnit
  congr 1
  funext k
  rw [State.crcEnabled, State.crcEnabled, on_congr (h _), on_congr (h _), h, h]

/-- The body of a LAYER packet in its buffer, with the fence that it asks for. -/
def layered (s : State) (p : Packet) : State :=
  let v := s.setBytes (s.bufBase (p.target % 16) (p.target / 16 % 2) + p.arg) p.body
  if tbit p.target 8 then v.inc (F.LAY_FENCE_CNT (p.target % 16)) else v

theorem exec_layerConsume (hc : s.consuming 1 = true) (h : s.ring 1 = [p]) (ha : s.armed S.CMD_REPLAY = false) (hu : s.crcUnit 3 5 = none) :
    exec (.layerConsume false) s = .next ((layered s.begin p).doneHead 1) := by
  have hcrc : ∀ a l, (s.begin.setBytes a l).layerCrc p.body = s.begin.setBytes a l := fun a l => by
    have hcu : (s.begin.setBytes a l).crcUnit 3 5 = none := (crcUnit_congr (fun x => only_g (setBytes_only s.begin a l) rfl) 3 5).trans hu
    rw [State.layerCrc, hcu]
  show execLayerConsume false s = _
  unfold execLayerConsume
  dsimp only
  rw [head_of (s := s.begin) hc h]
  dsimp only
  rw [show s.begin.armed S.CMD_REPLAY = s.armed S.CMD_REPLAY from rfl, ha, hcrc]
  rfl

theorem layered_only (s : State) (p : Packet) : s.Only [F.LAY_FENCE_CNT (p.target % 16)] [.mem] (layered s p) :=
  only_ite (fun _ => only_inc (by simp) (by simp [F.LAY_FENCE_CNT]) (only_mono (by simp) (by simp) (setBytes_only _ _ _)))
    (fun _ => only_mono (by simp) (by simp) (setBytes_only _ _ _))

theorem layered_byte (s : State) (p : Packet) (x : Nat) : (layered s p).byte x =
    (s.setBytes (s.bufBase (p.target % 16) (p.target / 16 % 2) + p.arg) p.body).byte x := by
  unfold layered
  dsimp only
  split_ifs
  · exact inc_byte ..
  · rfl

theorem layered_fence (s : State) (p : Packet) : (layered s p).g (F.LAY_FENCE_CNT (p.target % 16)) =
    (s.g (F.LAY_FENCE_CNT (p.target % 16)) + bit (tbit p.target 8)) % 2 ^ 16 := by
  have hset : ∀ a l x, (s.setBytes a l).g x = s.g x := fun a l x => only_g (setBytes_only s a l) rfl
  unfold layered
  dsimp only
  split_ifs with h
  · refine (g_put_same _ _ _ (by simp [F.LAY_FENCE_CNT]) (by simp [F.LAY_FENCE_CNT])).trans ?_
    rw [hset, h]
    rfl
  · have hb : s.g (F.LAY_FENCE_CNT (p.target % 16)) < 2 ^ 16 := by
      have := g_le_top s (F.LAY_FENCE_CNT (p.target % 16))
      simp only [Fld.top, F.LAY_FENCE_CNT] at this ⊢
      omega
    rw [hset, Bool.eq_false_iff.2 h]
    exact (Nat.mod_eq_of_lt hb).symm

theorem exec_controlConsume (hc : s.consuming 0 = true) (h : s.ring 0 = [p]) (ha : s.armed S.CMD_REPLAY = false) :
    exec (.controlConsume false) s = .next ((s.begin.applyEntries p.master (ctlEntries p.body)).doneHead 0) := by
  show execControlConsume false s = _
  unfold execControlConsume
  dsimp only
  rw [head_of (s := s.begin) hc h]
  dsimp only
  rw [show s.begin.armed S.CMD_REPLAY = s.armed S.CMD_REPLAY from rfl, ha]
  rfl

/-! ### Replay (R212) -/

theorem exec_layerConsume_parity {q : List Packet} (hc : s.consuming 1 = true) (h : s.ring 1 = p :: q) :
    exec (.layerConsume true) s = .next (s.begin.replay 1) := by
  show execLayerConsume true s = _
  unfold execLayerConsume
  dsimp only
  rw [head_of (s := s.begin) hc h]
  rfl

theorem exec_controlConsume_parity {q : List Packet} (hc : s.consuming 0 = true) (h : s.ring 0 = p :: q) :
    exec (.controlConsume true) s = .next (s.begin.replay 0) := by
  show execControlConsume true s = _
  unfold execControlConsume
  dsimp only
  rw [head_of (s := s.begin) hc h]
  rfl

/-- A ring that starts anew from its oldest packet, with the event. -/
def renewed (s : State) (c n : Nat) : State :=
  ((((s.consumeInj S.CMD_REPLAY).setRing c []).put (F.CMD_EXP_EXP c) n).replayNack c n).evt F.CMD_EVT_REPLAY

theorem replay_eq {c : Nat} {q : List Packet} (h : s.ring c = p :: q) (hc : c ≠ 2) :
    s.replay c = (renewed s c p.seq).free.2.raiseWith S.CMD_REPLAY 0 ((renewed s c p.seq).free.1 % 2 ^ 32) (s.armed S.CMD_REPLAY) false := by
  unfold State.replay
  rw [h]
  dsimp only
  rw [if_neg hc]
  rfl

/-- What a ring that starts anew may change. -/
def renewFields (c : Nat) : List Fld :=
  [F.FLT_INJ_STATE, F.FLT_INJ_ARM, F.FLT_EVT_INJ_DONE, F.UNIT_IRQ_STAT_EVT 0x70, F.FLT_CNT_INJECTED, F.FLT_ALARM_INJ_SEEN, F.CMD_EXP_EXP c,
    F.CMD_EVT_REPLAY, F.UNIT_IRQ_STAT_EVT 0x10]

theorem renewed_only (s : State) (c n : Nat) : s.Only (renewFields c) [.cmd, .lnkA, .lnkB] (renewed s c n) := by
  unfold renewed
  refine only_evt (by simp [renewFields]) (by simp [renewFields, F.CMD_EVT_REPLAY]) (by decide) (only_app (by simp) (by simp) (replayNack_only _ _ _) ?_)
  refine only_put _ (by simp [renewFields]) (by simp [F.CMD_EXP_EXP]) (only_withCmd (by simp) ?_)
  exact only_mono (by simp [renewFields]) (by simp) (consumeInj_only s _)

theorem renewed_reads (s : State) {c : Nat} (n : Nat) (hc : c < 4) (hl : s.cmd.rings.length = 4) :
    (renewed s c n).ring c = [] ∧ (renewed s c n).exp c = n % 2 ^ 32 ∧ (renewed s c n).on F.CMD_EVT_REPLAY = true
      ∧ (renewed s c n).defLevel S.CMD_REPLAY = s.defLevel S.CMD_REPLAY := by
  have hinj : (s.consumeInj S.CMD_REPLAY).cmd = s.cmd := (consumeInj_only s _).parts.cmd (by simp [Foot.of])
  have hcmd : (renewed s c n).cmd = ((s.consumeInj S.CMD_REPLAY).setRing c []).cmd := by
    unfold renewed
    rw [evt_cmd, (replayNack_only _ _ _).parts.cmd (by simp [Foot.of]), put_cmd]
  have hplace : ∀ c < 4, sep F.CMD_EVT_REPLAY (F.CMD_EXP_EXP c) = true ∧ sep (F.UNIT_IRQ_STAT_EVT 0x10) (F.CMD_EXP_EXP c) = true
      ∧ clear (renewFields c) F.FLT_CTRL_MODE = true ∧ clear (renewFields c) (fltSev S.CMD_REPLAY) = true := by decide
  obtain ⟨h1, h2, h3, h4⟩ := hplace c hc
  refine ⟨?_, ?_, on_evt_self _ rfl, ?_⟩
  · rw [State.ring, hcmd]
    refine (setRing_ring _ [] ?_ c).trans (if_pos rfl)
    rw [hinj, hl]
    omega
  · refine (g_evt_sep _ h1 h2).trans ((only_g (replayNack_only _ _ _) rfl).trans ?_)
    exact g_put_same _ _ _ (by simp [F.CMD_EXP_EXP]) (by simp [F.CMD_EXP_EXP])
  · rw [State.defLevel, on_congr (only_g (renewed_only s c n) h3), only_g (renewed_only s c n) h4, State.defLevel]

theorem replay_reads {c : Nat} {q : List Packet} (h : s.ring c = p :: q) (hc : c < 4) (h2 : c ≠ 2) (hl : s.cmd.rings.length = 4) :
    (s.replay c).ring c = [] ∧ (s.replay c).exp c = p.seq % 2 ^ 32 ∧ (s.replay c).on F.CMD_EVT_REPLAY = true ∧ (s.replay c).mem = s.mem
      ∧ (s.defLevel S.CMD_REPLAY ≠ 0 → (s.replay c).on (fltPend S.CMD_REPLAY) = true) := by
  rw [replay_eq h h2]
  have hU := renewed_only s c p.seq
  obtain ⟨hring, hexp, hevt, hlev⟩ := renewed_reads s p.seq hc hl
  have hF : s.Only (renewFields c) [.cmd, .lnkA, .lnkB, .fresh] (renewed s c p.seq).free.2 :=
    only_withFresh (by simp) (only_mono (by simp) (by simp) hU)
  have hw : (renewed s c p.seq).free.2.Within (Foot.of [0x00, 0x10, 0x40, 0x50, 0x68, 0x70, 0x71] [.flt, .evr, .saf, .lanes])
      ((renewed s c p.seq).free.2.raiseWith S.CMD_REPLAY 0 ((renewed s c p.seq).free.1 % 2 ^ 32) (s.armed S.CMD_REPLAY) false) :=
    (raiseWith_fits _ _ _ _ _ _ (by decide) (by decide) (fits_refl _ _)).within
  have hplace : ∀ c < 4, quietField (F.CMD_EXP_EXP c) = true := by decide
  refine ⟨?_, ?_, ?_, ?_, fun hd => raiseWith_pend _ _ _ _ _ (by decide) ?_⟩
  · rw [State.ring, within_cmd hw rfl rfl]
    exact hring
  · exact (raiseWith_g _ _ _ _ _ _ (hplace c hc)).trans hexp
  · exact (on_congr (raiseWith_g _ _ _ _ _ _ (by decide))).trans hevt
  · exact (within_mem hw rfl rfl).trans (hF.parts.mem (by simp [Foot.of]))
  · exact hlev.trans_ne hd

/-- Settles O16. -/
theorem consumption : Obligations.Consumption := by
  unfold Obligations.Consumption
  refine ⟨?layer, ?control, ?entry, ?layerParity, ?controlParity, ?nothing⟩
  case layer =>
    intro s p hc h hlen ha hu b
    have hO := layered_only s.begin p
    have hcmd : (layered s.begin p).cmd = s.cmd := hO.parts.cmd (by simp [Foot.of])
    have hring : (layered s.begin p).ring 1 = [p] := by rw [State.ring, hcmd]; exact h
    obtain ⟨hr, hd, hD⟩ := doneHead_reads hring (by rw [hcmd, hlen]; decide)
    have hbyte : ∀ x, ((layered s.begin p).doneHead 1).byte x = (s.begin.setBytes b p.body).byte x := fun x =>
      (congrArg (fun m => tabGet memDefault m x) (hD.parts.mem (by simp [Foot.of]))).trans (layered_byte s.begin p x)
    refine ⟨_, exec_layerConsume hc h ha hu, ?_, ?_, hr, hd, ?_, ?_⟩
    · intro i hi
      rw [hbyte, setBytes_byte, if_pos (by omega), Nat.add_sub_cancel_left]
    · intro a hab
      rw [hbyte, setBytes_byte, if_neg (by omega)]
      rfl
    · exact (only_g hD (by simp [clear, Fld.apart, Fld.addr, F.CMD_DONE_DONE_SEQ, F.LAY_FENCE_CNT]; omega)).trans (layered_fence s.begin p)
    · exact only_app (by simp) (by simp) hD (only_mono (by simp) (by simp) hO)
  case control => exact fun s p hc h ha => exec_controlConsume hc h ha
  case entry =>
    intro s p pg off v hc h hlen ha he hp hpg hw
    have happ : s.begin.applyEntries p.master (ctlEntries p.body) = s.begin.fieldWrite (pg * 4096 + off) (s.takeWord pg off v) := by
      rw [he]
      exact busWrite_plain (s := s.begin) v hw hp
    obtain ⟨-, -, hoff, -⟩ := plainReg_iff.1 hp
    have hparts := fieldWrite_parts s.begin (pg * 4096 + off) (s.takeWord pg off v)
    have hcmd : (s.begin.fieldWrite (pg * 4096 + off) (s.takeWord pg off v)).cmd = s.cmd := hparts.cmd (by simp [Foot.of])
    have hring : (s.begin.fieldWrite (pg * 4096 + off) (s.takeWord pg off v)).ring 0 = [p] := by rw [State.ring, hcmd]; exact h
    obtain ⟨hr, hd, hD⟩ := doneHead_reads hring (by rw [hcmd, hlen]; decide)
    refine ⟨_, (exec_controlConsume hc h ha).trans (by rw [happ]), ?_, hr, hd, ?_⟩
    · rw [doneHead_one hring]
      have hne : pg * 4096 + off ≠ (F.CMD_DONE_DONE_SEQ 0).addr := by
        simp only [Fld.addr, F.CMD_DONE_DONE_SEQ]
        omega
      exact (doneSeq_word _ _ _ hne).trans (fieldWrite_word s.begin _ _)
    · exact (hD.parts.mem (by simp [Foot.of])).trans (hparts.mem (by simp [Foot.of]))
  case layerParity =>
    intro s p q hc h hlen
    exact ⟨_, exec_layerConsume_parity hc h, replay_reads (s := s.begin) h (by decide) (by decide) hlen⟩
  case controlParity =>
    intro s p q hc h hlen
    obtain ⟨hr, he, hv, hm, -⟩ := replay_reads (s := s.begin) (c := 0) h (by decide) (by decide) hlen
    exact ⟨_, exec_controlConsume_parity hc h, hr, he, hv, hm⟩
  case nothing =>
    intro s parity
    refine ⟨fun h => ?_, fun h => ?_⟩
    · show execControlConsume parity s = _
      unfold execControlConsume
      dsimp only
      rw [head_none (s := s.begin) h]
    · show execLayerConsume parity s = _
      unfold execLayerConsume
      dsimp only
      rw [head_none (s := s.begin) h]

end Sys2Proof.Proofs.PacketConsumption
end

section
/-! PROOF. The agents that reach registers from outside: REG frames (RegFrames) and the SPI target (SpiTarget). -/

namespace Sys2Proof.Proofs.RegisterAgents

open Sys2Proof.Machine Sys2Proof.Laws Sys2Proof.Proofs.Architecture Sys2Proof.Proofs.RegisterMap Sys2Proof.Proofs.Reading
  Sys2Proof.Proofs.GovernorSums Sys2Proof.Proofs.GylysLinks Sys2Proof.Proofs.GylysTime Sys2Proof.Proofs.PlainRegisters
  Sys2Proof.Proofs.WorkPackets

variable {s t u c : State} {l : Nat}

/-! ### Answers -/

/-- An answer that is counted and queued. -/
def answered (s : State) (l : Nat) (noop : Bool) (r : List Byte) : State :=
  let v := s.inc F.SYS_CNT_REG
  (if noop then v.incSat F.SYS_CNT_REG_NOOP else v).modLink l (fun k => { k with reg := k.reg ++ [r] })

theorem regRespond_of (h : s.rst.scope = none) (l : Nat) (noop : Bool) (r : List Byte) : s.regRespond l noop r = answered s l noop r :=
  if_neg (by simp [h])

theorem answered_link (s : State) (l : Nat) (noop : Bool) (r : List Byte) :
    (answered s l noop r).link l = { s.link l with reg := (s.link l).reg ++ [r] } := by
  unfold answered
  dsimp only
  rw [modLink_link]
  have hv : (if noop then (s.inc F.SYS_CNT_REG).incSat F.SYS_CNT_REG_NOOP else s.inc F.SYS_CNT_REG).link l = s.link l := by
    split_ifs
    · rw [incSat_link]
      exact put_link ..
    · exact put_link ..
  rw [hv]

theorem answered_count (s : State) (l : Nat) (r : List Byte) :
    (answered s l false r).g F.SYS_CNT_REG = (s.g F.SYS_CNT_REG + 1) % 2 ^ 16 :=
  (modLink_g ..).trans (g_put_same _ _ _ (by decide) (by decide))

theorem answered_noop (s : State) (l : Nat) (r : List Byte) :
    (answered s l true r).g F.SYS_CNT_REG_NOOP = min F.SYS_CNT_REG_NOOP.top (s.g F.SYS_CNT_REG_NOOP + 1) := by
  refine (modLink_g ..).trans ((g_incSat (by decide) (by decide) (g_le_top _ _)).trans ?_)
  rw [show (s.inc F.SYS_CNT_REG).g F.SYS_CNT_REG_NOOP = s.g F.SYS_CNT_REG_NOOP from g_put_sep _ _ rfl]

theorem answered_word (s : State) (l : Nat) (r : List Byte) {o : Nat} (h : o ≠ 0x4C) : (answered s l false r).word o = s.word o := by
  have hm : ∀ (v : State) f, (v.modLink l f).word o = v.word o := fun v f => by unfold State.modLink; split_ifs <;> rfl
  exact (hm _ _).trans (word_put_other s F.SYS_CNT_REG _ (by simpa [Fld.addr, F.SYS_CNT_REG] using h))

theorem answered_mem (s : State) (l : Nat) (r : List Byte) : (answered s l false r).mem = s.mem := by
  unfold answered
  simp [State.inc]

theorem answered_on (s : State) (l : Nat) (noop : Bool) (r : List Byte) {x : Fld} (hx : clear [F.SYS_CNT_REG, F.SYS_CNT_REG_NOOP] x = true) :
    (answered s l noop r).on x = s.on x := by
  have h : s.Only [F.SYS_CNT_REG, F.SYS_CNT_REG_NOOP] [] (if noop then (s.inc F.SYS_CNT_REG).incSat F.SYS_CNT_REG_NOOP else s.inc F.SYS_CNT_REG) :=
    only_ite (fun _ => only_incSat (by simp) (by decide) (only_inc (by simp) (by decide) (only_refl _ _ _)))
      (fun _ => only_inc (by simp) (by decide) (only_refl _ _ _))
  exact (modLink_on ..).trans (only_on h hx)

/-! ### A REG frame that the engine takes -/

/-- What the frame's check leaves of what the agent reads. -/
theorem checkFrame_ok_rest {f : Wire} (h : (s.checkFrame l f).1 = true) :
    (s.checkFrame l f).2.rst = s.rst ∧ (s.checkFrame l f).2.mem = s.mem ∧ (∀ p, (s.checkFrame l f).2.world p = s.world p) := by
  have hw : s.Within (Foot.of [0x70, 0x88] []) (s.checkFrame l f).2 := (checkFrame_ok_fits h).within
  exact ⟨within_rst hw rfl rfl, within_mem hw rfl rfl, fun p => checkFrame_ok_place h (by simp [F.UNIT_CTRL_WORLD]) (by simp [F.UNIT_CTRL_WORLD])⟩

theorem engineTakes_scope (h : s.engineTakes l = true) : s.rst.scope = none := by
  simp only [State.engineTakes, Bool.and_eq_true, Option.isNone_iff_eq_none] at h
  tauto

/-- A REG frame that the engine takes is served, outside recovery and DECOM. -/
theorem receive_served {f : Wire} (hl : l < 2) (h : s.begin.takes l f 4 = true) (hr : s.inRecovery = false) :
    s.begin.receive l f 4 = (s.begin.checkFrame l f).2.regServe l f.payload ∧ (s.begin.checkFrame l f).2.rst.scope = none
      ∧ (s.begin.checkFrame l f).2.inRecovery = false ∧ (s.begin.checkFrame l f).2.g F.SEC_LC_STATE ≠ 4 := by
  obtain ⟨hok, -, -, -, heng, hlc, -⟩ := takes_iff.1 h
  obtain ⟨hrst, -⟩ := checkFrame_ok_rest hok
  refine ⟨(receive_engine hl h).trans (if_pos rfl), ?_, ((checkFrame_ok_reads hok).1).trans hr, by rwa [checkFrame_ok_lc hok]⟩
  rw [hrst]
  exact engineTakes_scope heng

theorem regServe_access {p : List Byte} (hr : s.inRecovery = false) (hlc : s.g F.SEC_LC_STATE ≠ 4) (hne : p ≠ []) (hf : regFormOk p = true)
    (hc : regCount p ≠ 0) (hg : regRangeOk p = true) : s.regServe l p = s.regAccess l p := by
  simp [State.regServe, hne, hr, hlc, hf, hc, hg]

theorem regServe_form {p : List Byte} (hr : s.inRecovery = false) (hlc : s.g F.SEC_LC_STATE ≠ 4) (hne : p ≠ []) (hf : regFormOk p = false) :
    s.regServe l p = (s.evt F.SYS_EVT_REG_FMT).regRespond l false (regAnswer p 1 0 []) := by
  simp [State.regServe, hne, hr, hlc, hf]

theorem regServe_none {p : List Byte} (hr : s.inRecovery = false) (hlc : s.g F.SEC_LC_STATE ≠ 4) (hne : p ≠ []) (hf : regFormOk p = true)
    (hc : regCount p = 0) : s.regServe l p = s.regRespond l true (regAnswer p 0 0 []) := by
  simp [State.regServe, hne, hr, hlc, hf, hc]

theorem regServe_range {p : List Byte} (hr : s.inRecovery = false) (hlc : s.g F.SEC_LC_STATE ≠ 4) (hne : p ≠ []) (hf : regFormOk p = true)
    (hc : regCount p ≠ 0) (hg : regRangeOk p = false) :
    s.regServe l p = (s.evt F.SYS_EVT_REG_RANGE).regRespond l false (regAnswer p 2 0 []) := by
  simp [State.regServe, hne, hr, hlc, hf, hc, hg]

/-- A request of good form holds its operation and an aligned address. -/
theorem regForm_reads {p : List Byte} (hf : regFormOk p = true) : p ≠ [] ∧ regAddr p % 4 = 0 := by
  simp only [regFormOk, Bool.and_eq_true, decide_eq_true_eq] at hf
  obtain ⟨⟨-, hlen⟩, h4⟩ := hf
  refine ⟨?_, h4⟩
  rintro rfl
  simp only [regLen, List.length_nil] at hlen
  split_ifs at hlen
  omega

/-- An aligned address in the pages, by page and offset. -/
structure InPage (a : Nat) : Prop where
  page : pageOff a / 4096 < 0x8D
  assigned : assigned (pageOff a / 4096) = true
  aligned : pageOff a % 4096 % 4 = 0
  addr : pageAddr (pageOff a / 4096) (pageOff a % 4096) = a

theorem inPage_of {a : Nat} (hlo : 0x40000000 ≤ a) (hhi : a < 0x4008D000) (ha : assigned (pageOff a / 4096) = true) (h4 : a % 4 = 0) : InPage a where
  page := by unfold pageOff; omega
  assigned := ha
  aligned := by unfold pageOff; omega
  addr := by unfold pageAddr pageOff; omega

theorem pageOff_split (a : Nat) : pageOff a / 4096 * 4096 + pageOff a % 4096 = pageOff a := Nat.div_add_mod' ..

/-- The one word of a request lies in its page. -/
theorem regRange_page {p : List Byte} (h1 : regCount p = 1) (h4 : regAddr p % 4 = 0) (hg : regRangeOk p = true) : InPage (regAddr p) := by
  simp only [regRangeOk, h1, Bool.and_eq_true, decide_eq_true_eq] at hg
  obtain ⟨⟨⟨hlo, hhi⟩, -⟩, ha⟩ := hg
  exact inPage_of hlo hhi ha h4

/-- A word on the bus from a page that the master may read. -/
theorem busRead_page {m : Master} {p off : Nat} (hr : s.mayRead m p = true) (hp : p < 0x8D) (ha : assigned p = true) (ho : off < 4096) (h4 : off % 4 = 0) :
    s.busRead m (pageAddr p off) 4 0 = s.readReg m (p * 4096 + off) := by
  have hd : (p * 4096 + off) / 4096 = p := by omega
  have ha4 : pageAddr p off % 4 = 0 := by unfold pageAddr; omega
  unfold State.busRead
  rw [if_pos (regionOf_page p off hp ho)]
  simp [pageOff_page, hd, ha, hr, ha4]

/-- Where the agent may reach a register, as its worlds say. -/
theorem mayRead_congr {m : Master} (hw : ∀ p, t.world p = s.world p) (hm : m ≠ .tap) (p : Nat) : t.mayRead m p = s.mayRead m p := by
  unfold State.mayRead
  rw [hw]
  cases m <;> first | rfl | exact absurd rfl hm

theorem busRead_at {m : Master} {a : Nat} (ha : InPage a) (hr : s.mayRead m (pageOff a / 4096) = true) :
    s.busRead m a 4 0 = s.readReg m (pageOff a) := by
  have h := busRead_page hr ha.page ha.assigned (Nat.mod_lt _ (by decide)) ha.aligned
  rwa [ha.addr, pageOff_split] at h

theorem busWrite_at {m : Master} {a : Nat} (v : Word) (ha : InPage a) (hw : s.mayWrite m (pageOff a / 4096) (pageOff a % 4096) = true)
    (hp : plainReg (pageOff a / 4096) (pageOff a % 4096) = true) :
    s.busWrite m a (leBytes 4 v.toNat) = s.fieldWrite (pageOff a) (s.takeWord (pageOff a / 4096) (pageOff a % 4096) v) := by
  have h := busWrite_plain v hw hp
  rwa [ha.addr, pageOff_split] at h

theorem regReads_one {a : Nat} (ha : InPage a) (hr : s.mayRead .reg (pageOff a / 4096) = true) :
    s.regReads a 1 = (false, [(s.readReg .reg (pageOff a)).1], (s.readReg .reg (pageOff a)).2) := by
  have hstep : s.regReads a 1 = (!s.mayRead .reg (pageOff a / 4096) || false, [(s.busRead .reg a 4 0).1], (s.busRead .reg a 4 0).2) := rfl
  rw [hstep, busRead_at ha hr, hr]
  rfl

theorem regWrites_one {a : Nat} (w : Word) (hs : s.rst.scope = none) (ha : InPage a)
    (hw : s.mayWrite .reg (pageOff a / 4096) (pageOff a % 4096) = true) (hp : plainReg (pageOff a / 4096) (pageOff a % 4096) = true) :
    s.regWrites a [w] = (false, s.fieldWrite (pageOff a) (s.takeWord (pageOff a / 4096) (pageOff a % 4096) w)) := by
  simp [State.regWrites, hs, hw, busWrite_at w ha hw hp]

/-- READ of one word. -/
theorem regAccess_read {p : List Byte} (h1 : regCount p = 1) (ho : regOp p = 1) (ha : InPage (regAddr p))
    (hr : s.mayRead .reg (pageOff (regAddr p) / 4096) = true) : s.regAccess l p =
      (s.readReg .reg (pageOff (regAddr p))).2.regRespond l false (regAnswer p 0 1 [(s.readReg .reg (pageOff (regAddr p))).1]) := by
  unfold State.regAccess
  rw [ho, h1, if_pos rfl, regReads_one ha hr]
  rfl

/-- WRITE of one word to a plain register. -/
theorem regAccess_write {p : List Byte} (h1 : regCount p = 1) (ho : regOp p = 2) (hs : s.rst.scope = none) (ha : InPage (regAddr p))
    (hw : s.mayWrite .reg (pageOff (regAddr p) / 4096) (pageOff (regAddr p) % 4096) = true)
    (hp : plainReg (pageOff (regAddr p) / 4096) (pageOff (regAddr p) % 4096) = true) : s.regAccess l p =
      (s.fieldWrite (pageOff (regAddr p)) (s.takeWord (pageOff (regAddr p) / 4096) (pageOff (regAddr p) % 4096) ((regData p 1).getD 0 0))).regRespond l false
        (regAnswer p 0 1 []) := by
  obtain ⟨w, hdata⟩ : ∃ w, regData p 1 = [w] := ⟨_, rfl⟩
  unfold State.regAccess
  rw [ho, h1]
  dsimp only
  rw [if_neg (by decide), if_pos rfl, hdata, regWrites_one _ hs ha hw hp]
  rfl

/-- MODIFY of a plain register. -/
theorem regAccess_modify {p : List Byte} (h1 : regCount p = 1) (ho : regOp p = 3) (hm : s.mayModify (pageOff (regAddr p)) = true) :
    s.regAccess l p = ((s.readReg .reg (pageOff (regAddr p))).2.busWrite .reg (regAddr p) (leBytes 4
      (modified (s.readReg .reg (pageOff (regAddr p))).1 ((regData p 2).getD 0 0) ((regData p 2).getD 1 0)).toNat)).regRespond l false
        (regAnswer p 0 1 [(s.readReg .reg (pageOff (regAddr p))).1]) := by
  unfold State.regAccess
  rw [ho, h1, if_neg (by decide), if_neg (by decide), State.regModify, if_pos hm]
  rfl

theorem readReg_only (s : State) (m : Master) (o : Nat) : s.Only [] [.latches] (s.readReg m o).2 :=
  only_of_within (readReg_fits s m o (by decide) (fits_refl _ s)).within

theorem fieldWrite_rst (s : State) (o : Nat) (v : Word) : (s.fieldWrite o v).rst = s.rst := (fieldWrite_parts s o v).rst (by simp [Foot.of])

theorem fieldWrite_mem (s : State) (o : Nat) (v : Word) : (s.fieldWrite o v).mem = s.mem := (fieldWrite_parts s o v).mem (by simp [Foot.of])

theorem fieldWrite_link (s : State) (o : Nat) (v : Word) (l : Nat) : (s.fieldWrite o v).link l = s.link l := by
  have h := fieldWrite_parts s o v
  rw [State.link, h.lnkA (by simp [Foot.of]), h.lnkB (by simp [Foot.of]), State.link]

/-- A state that differs in its latches alone. -/
theorem readReg_reads (s : State) (m : Master) (o : Nat) : (s.readReg m o).2.regs = s.regs ∧ (s.readReg m o).2.rst = s.rst
    ∧ (s.readReg m o).2.mem = s.mem ∧ ∀ l, (s.readReg m o).2.link l = s.link l := by
  unfold State.readReg
  split
  · exact ⟨rfl, rfl, rfl, fun _ => rfl⟩
  · split <;> exact ⟨rfl, rfl, rfl, fun _ => rfl⟩

theorem word_congr (h : t.regs = s.regs) (o : Nat) : t.word o = s.word o := by rw [State.word, h, State.word]

theorem g_congr (h : t.regs = s.regs) (x : Fld) : t.g x = s.g x := by rw [State.g, word_congr h, State.g]

theorem takeWord_congr (h : t.regs = s.regs) (p off : Nat) (v : Word) : t.takeWord p off v = s.takeWord p off v := by
  have hon : ∀ x, t.on x = s.on x := fun x => on_congr (g_congr h x)
  unfold State.takeWord
  simp only [word_congr h, g_congr h, hon]

theorem written_congr (h : t.regs = s.regs) (o : Nat) (v : Word) : t.written o v = s.written o v := by
  rw [State.written, word_congr h, State.written]

theorem mayWrite_congr {m : Master} (hw : ∀ p, t.world p = s.world p) (hm : m ≠ .tap) (p off : Nat) : t.mayWrite m p off = s.mayWrite m p off := by
  unfold State.mayWrite
  rw [hw]
  cases m <;> first | rfl | exact absurd rfl hm

/-- A request that reaches no register touches SYS, the unit of the CRC and the link. -/
theorem checkFrame_regFoot {f : Wire} (hok : (s.begin.checkFrame l f).1 = true) :
    s.Fits (Foot.of [0x00, 0x88] [.flt, .saf, .lnkA, .lnkB]) (s.begin.checkFrame l f).2 := by
  have hb : s.Fits (Foot.of [0x00, 0x88] [.flt, .saf, .lnkA, .lnkB]) s.begin := begin_fits s (by decide) (fits_refl _ s)
  rcases checkFrame_ok_cases hok with he | ⟨n, v, he⟩
  · rw [he]
    exact hb
  · rw [he]
    exact crcSeen_fits _ n v false (by decide) hb

/-- Settles O17. -/
theorem regFrames : Obligations.RegFrames := by
  unfold Obligations.RegFrames
  refine ⟨?access, ?form, ?range, ?none⟩
  case access =>
    intro s l f hl ht hr hf h1 hg p o c
    obtain ⟨hne, h4⟩ := regForm_reads hf
    have hpage : InPage (regAddr p) := regRange_page h1 h4 hg
    obtain ⟨hok, -⟩ := takes_iff.1 ht
    obtain ⟨hserve, hscope, hrec, hlc⟩ := receive_served hl ht hr
    obtain ⟨-, hmem, hworld⟩ := checkFrame_ok_rest hok
    have hlink : c.link l = s.link l := checkFrame_ok_link hok l
    have hrun : s.begin.receive l f 4 = c.regAccess l p := hserve.trans (regServe_access hrec hlc hne hf (by omega) hg)
    have hread : ∀ q, c.mayRead .reg q = s.mayRead .reg q := mayRead_congr hworld (by decide)
    have hwrite : ∀ q x, c.mayWrite .reg q x = s.mayWrite .reg q x := mayWrite_congr hworld (by decide)
    have hcount : c.g F.SYS_CNT_REG = s.g F.SYS_CNT_REG := checkFrame_ok_g hok _ (by decide)
    change c.rst.scope = none at hscope
    change c.mem = s.mem at hmem
    clear_value c
    obtain ⟨hregs, hrst, hrmem, hrlink⟩ := readReg_reads c .reg o
    refine ⟨fun ho hm => ?_, fun ho hm hp ho4 => ?_, fun ho hm hp ho4 => ?_⟩
    · have ht : s.begin.receive l f 4 = answered (c.readReg .reg o).2 l false (regAnswer p 0 1 [(c.readReg .reg o).1]) := by
        rw [hrun, regAccess_read h1 ho hpage ((hread _).trans hm), regRespond_of ((congrArg Rst.scope hrst).trans hscope)]
      refine ⟨_, congrArg Host.Outcome.next ht, ?_, ?_, ?_⟩
      · rw [answered_link, hrlink, hlink]
      · rw [answered_count, g_congr hregs, hcount]
      · rw [answered_mem, hrmem, hmem]
    · have ht : s.begin.receive l f 4 = answered (c.fieldWrite o (c.takeWord (o / 4096) (o % 4096) ((regData p 1).getD 0 0))) l false (regAnswer p 0 1 []) := by
        rw [hrun, regAccess_write h1 ho hscope hpage ((hwrite _ _).trans hm) hp, regRespond_of (by rw [fieldWrite_rst, hscope])]
      refine ⟨_, congrArg Host.Outcome.next ht, ?_, ?_, ?_⟩
      · rw [answered_link, fieldWrite_link, hlink]
      · rw [answered_word _ _ _ ho4, fieldWrite_word]
      · rw [answered_mem, fieldWrite_mem, hmem]
    · have hbus : (c.readReg .reg o).2.busWrite .reg (regAddr p) (leBytes 4
          (modified (c.readReg .reg o).1 ((regData p 2).getD 0 0) ((regData p 2).getD 1 0)).toNat) = (c.readReg .reg o).2.fieldWrite o
          (c.takeWord (o / 4096) (o % 4096) (modified (c.readReg .reg o).1 ((regData p 2).getD 0 0) ((regData p 2).getD 1 0))) := by
        obtain ⟨-, hmw⟩ : s.mayRead .reg (o / 4096) = true ∧ s.mayWrite .reg (o / 4096) (o % 4096) = true := by
          simpa only [State.mayModify, Bool.and_eq_true] using hm
        have hworld' : ∀ q, (c.readReg .reg o).2.world q = c.world q := fun q => g_congr hregs _
        rw [busWrite_at _ hpage ((mayWrite_congr hworld' (by decide) _ _).trans ((hwrite _ _).trans hmw)) hp, takeWord_congr hregs]
      have hmod : c.mayModify o = true := by
        rw [State.mayModify, hread, hwrite]
        exact hm
      have ht : s.begin.receive l f 4 = answered ((c.readReg .reg o).2.fieldWrite o
          (c.takeWord (o / 4096) (o % 4096) (modified (c.readReg .reg o).1 ((regData p 2).getD 0 0) ((regData p 2).getD 1 0)))) l false
          (regAnswer p 0 1 [(c.readReg .reg o).1]) := by
        rw [hrun, regAccess_modify h1 ho hmod, hbus, regRespond_of (by rw [fieldWrite_rst, hrst, hscope])]
      refine ⟨_, congrArg Host.Outcome.next ht, ?_, ?_, ?_⟩
      · rw [answered_link, fieldWrite_link, hrlink, hlink]
      · rw [answered_word _ _ _ ho4, fieldWrite_word, written_congr hregs]
      · rw [answered_mem, fieldWrite_mem, hrmem, hmem]
  case form =>
    intro s l f hl ht hr hne hf
    obtain ⟨hok, -⟩ := takes_iff.1 ht
    obtain ⟨hserve, hscope, hrec, hlc⟩ := receive_served hl ht hr
    have hrun := hserve.trans (regServe_form hrec hlc hne hf)
    refine ⟨_, congrArg Host.Outcome.next hrun, ?_, ?_, ?_⟩
    · rw [regRespond_of (by rw [evt_rst, hscope]), answered_on _ _ _ _ (by decide)]
      exact on_evt_self _ rfl
    · rw [regRespond_of (by rw [evt_rst, hscope]), answered_link, evt_link, checkFrame_ok_link hok]
      rfl
    · exact (regRespond_fits _ _ _ _ (by decide) (evt_fits (by decide) (checkFrame_regFoot hok))).within
  case range =>
    intro s l f hl ht hr hne hf hc hg
    obtain ⟨hok, -⟩ := takes_iff.1 ht
    obtain ⟨hserve, hscope, hrec, hlc⟩ := receive_served hl ht hr
    have hrun := hserve.trans (regServe_range hrec hlc hne hf hc hg)
    refine ⟨_, congrArg Host.Outcome.next hrun, ?_, ?_, ?_⟩
    · rw [regRespond_of (by rw [evt_rst, hscope]), answered_on _ _ _ _ (by decide)]
      exact on_evt_self _ rfl
    · rw [regRespond_of (by rw [evt_rst, hscope]), answered_link, evt_link, checkFrame_ok_link hok]
      rfl
    · exact (regRespond_fits _ _ _ _ (by decide) (evt_fits (by decide) (checkFrame_regFoot hok))).within
  case none =>
    intro s l f hl ht hr hne hf hc
    obtain ⟨hok, -⟩ := takes_iff.1 ht
    obtain ⟨hserve, hscope, hrec, hlc⟩ := receive_served hl ht hr
    have hrun := hserve.trans (regServe_none hrec hlc hne hf hc)
    refine ⟨_, congrArg Host.Outcome.next hrun, ?_, ?_, ?_⟩
    · rw [regRespond_of hscope, answered_link, checkFrame_ok_link hok]
      rfl
    · rw [regRespond_of hscope, answered_noop, checkFrame_ok_g hok _ (by decide)]
      rfl
    · exact (regRespond_fits _ _ _ _ (by decide) (checkFrame_regFoot hok)).within

/-! ### The SPI target -/

theorem slice_all (l : List Byte) : slice l 0 l.length = l := by
  apply List.ext_getElem
  · simp [slice]
  · intro i h1 h2
    simp [slice, h2]

theorem ofLe_lt (l : List Byte) : ofLe l < 256 ^ l.length := by
  induction l with
  | nil => decide
  | cons b t ih =>
    have hb : b.toNat < 256 := b.isLt
    simp only [ofLe, List.length_cons, pow_succ]
    omega

theorem inPages_page {a : Nat} (h : inPages a = true) (h4 : a % 4 = 0) : InPage a := by
  simp only [inPages, Bool.and_eq_true, decide_eq_true_eq] at h
  obtain ⟨hr, ha⟩ := h
  have hb : 0x40000000 ≤ a ∧ a < 0x4008D000 := by
    by_contra hn
    simp only [regionOf, hn, if_false] at hr
    split_ifs at hr <;> cases hr
  exact inPage_of hb.1 hb.2 ha h4

theorem spiErr_reads (s : State) : s.spiErr.on F.SYS_EVT_SPT_ERR = true ∧ s.spiErr.spi = { s.spi with err := true }
    ∧ s.Only [F.SYS_EVT_SPT_ERR, F.UNIT_IRQ_STAT_EVT 0x00] [.spi] s.spiErr := by
  refine ⟨(withSpi_on ..).trans (on_evt_self _ rfl), congrArg (fun v : Spi => { v with err := true }) (evt_spi ..), ?_⟩
  exact only_withSpi (by simp) (only_evt (by simp) (by simp [F.SYS_EVT_SPT_ERR]) (by decide) (only_refl _ _ _))

theorem spiReads_one (s : State) (a : Nat) : s.spiReads a 1 = ([(s.spiReadWord a).1], (s.spiReadWord a).2) := rfl

theorem spiReadWord_page {a : Nat} (ha : inPages a = true) (h4 : a % 4 = 0) (hr : s.mayRead .spi (pageOff a / 4096) = true) :
    s.spiReadWord a = s.readReg .spi (pageOff a) := by
  unfold State.spiReadWord
  rw [if_pos ha]
  dsimp only
  rw [if_pos (by simp [h4, hr]), busRead_at (inPages_page ha h4) hr]

theorem spiReadWord_outside {a : Nat} (ha : inPages a = false) : s.spiReadWord a = (0, s.spiErr) := if_neg (ne_true_of_eq_false ha)

theorem exec_spiRead {a n : Nat} (hr : s.spiReady = true) :
    exec (.spiRead a n) s = .next ((s.begin.spiReads a n).2.withReadData (s.begin.spiReads a n).1) := congrArg Host.Outcome.next (if_pos hr)

/-- Four bytes are one word. -/
theorem exec_spiWrite {a : Nat} {bytes : List Byte} (hr : s.spiReady = true) (hb : bytes.length = 4) :
    exec (.spiWrite a bytes) s = .next (s.begin.spiWriteWord a bytes) := by
  refine congrArg Host.Outcome.next ((if_pos hr).trans ?_)
  rw [hb]
  have hs : slice bytes 0 4 = bytes := hb ▸ slice_all bytes
  show s.begin.spiWriteWord (a + 4 * 0) (slice bytes (4 * 0) 4) = _
  rw [Nat.mul_zero, Nat.add_zero, hs]

theorem spiReady_scope (hr : s.spiReady = true) : s.rst.scope = none := by
  simp only [State.spiReady, State.masterRuns, Bool.and_eq_true, Option.isNone_iff_eq_none] at hr
  tauto

theorem spiWriteWord_plain {p off : Nat} {b : List Byte} (hs : s.rst.scope = none) (hp : plainReg p off = true) (hw : s.mayWrite .spi p off = true)
    (hlc : s.g F.SEC_LC_STATE ≠ 4) (hb : b.length = 4) :
    s.spiWriteWord (pageAddr p off) b = s.fieldWrite (p * 4096 + off) (s.takeWord p off (BitVec.ofNat 32 (ofBe b))) := by
  obtain ⟨hlt, ha, ho, h4, -⟩ := plainReg_iff.1 hp
  have hd : (p * 4096 + off) / 4096 = p := by omega
  have hm : (p * 4096 + off) % 4096 = off := by omega
  have hin : inPages (pageAddr p off) = true := by
    simp only [inPages, regionOf_page p off hlt ho, pageOff_page, hd, ha, decide_true, Bool.and_self]
  have ha4 : pageAddr p off % 4 = 0 := by unfold pageAddr; omega
  have hval : leBytes 4 (ofBe b) = leBytes 4 (BitVec.ofNat 32 (ofBe b)).toNat := by
    have hlt' : ofBe b < 2 ^ 32 := by
      have h := ofLe_lt b.reverse
      rw [List.length_reverse, hb] at h
      exact h
    rw [BitVec.toNat_ofNat, Nat.mod_eq_of_lt hlt']
  unfold State.spiWriteWord
  rw [if_neg (by simp [hs]), if_pos (by simp [hin, hlc])]
  dsimp only
  rw [pageOff_page, hd, hm, if_pos (by simp [ha4, hw]), hval, busWrite_plain _ hw hp]

theorem spiWriteWord_outside {a : Nat} {b : List Byte} (hs : s.rst.scope = none) (ha : inPages a = false) : s.spiWriteWord a b = s.spiErr := by
  unfold State.spiWriteWord
  rw [if_neg (by simp [hs]), if_neg (by simp [ha])]

theorem exec_spiRead_one {a : Nat} {r : Word × State} (hr : s.spiReady = true) (hword : s.begin.spiReads a 1 = ([r.1], r.2)) :
    exec (.spiRead a 1) s = .next (r.2.withReadData [r.1]) := (exec_spiRead hr).trans (by rw [hword])

/-- One word of a page that the target may read. -/
theorem spiRead_reads {a : Nat} (hr : s.spiReady = true) (ha : inPages a = true) (h4 : a % 4 = 0)
    (hm : s.begin.mayRead .spi (pageOff a / 4096) = true) :
    ∃ t, exec (.spiRead a 1) s = .next t ∧ t.readData = [(s.begin.readReg .spi (pageOff a)).1] ∧ s.begin.Only [] [.latches, .readData] t := by
  have hword : s.begin.spiReads a 1 = ([(s.begin.readReg .spi (pageOff a)).1], (s.begin.readReg .spi (pageOff a)).2) := by
    rw [spiReads_one, spiReadWord_page ha h4 hm]
  exact ⟨_, exec_spiRead_one hr hword, rfl, only_withReadData (by simp) (only_mono (by simp) (by simp) (readReg_only _ _ _))⟩

/-- Settles O18. -/
theorem spiTarget : Obligations.SpiTarget := by
  unfold Obligations.SpiTarget
  refine ⟨?status, ?unready, ?read, ?outside, ?write, ?writeOutside, ?rsp, ?empty⟩
  case status =>
    intro s hr
    exact ⟨_, congrArg Host.Outcome.next (if_pos hr), rfl, rfl, only_withSpi (by simp) (only_withReadData (by simp) (only_refl _ _ _))⟩
  case unready =>
    intro s a n bytes hr
    have hn : ¬ s.begin.spiReady = true := ne_true_of_eq_false hr
    refine ⟨⟨_, congrArg Host.Outcome.next (if_neg hn), rfl, only_withReadData (by simp) (only_refl _ _ _)⟩,
      ⟨_, congrArg Host.Outcome.next (if_neg hn), rfl, only_withReadData (by simp) (only_refl _ _ _)⟩, congrArg Host.Outcome.next (if_neg hn),
      ⟨_, congrArg Host.Outcome.next (if_neg hn), rfl, only_withReadData (by simp) (only_refl _ _ _)⟩⟩
  case read =>
    intro s a hr ha h4 hm
    exact spiRead_reads hr ha h4 ((mayRead_congr (s := s) (t := s.begin) (fun _ => rfl) (by decide) _).trans hm)
  case outside =>
    intro s a hr ha
    obtain ⟨hon, hspi, hO⟩ := spiErr_reads s.begin
    refine ⟨s.begin.spiErr.withReadData [0], (exec_spiRead hr).trans (by rw [spiReads_one, spiReadWord_outside ha]), rfl, (withReadData_on ..).trans hon, hspi, ?_⟩
    exact only_withReadData (by simp) (only_mono (by simp) (by simp) hO)
  case write =>
    intro s p off bytes hr hp hw hlc hb
    refine ⟨_, (exec_spiWrite hr hb).trans (congrArg Host.Outcome.next (spiWriteWord_plain (s := s.begin) (spiReady_scope hr) hp hw hlc hb)), ?_,
      fieldWrite_parts _ _ _⟩
    obtain ⟨h1, h2, h3⟩ := fieldWrite_leaves s.begin p off (BitVec.ofNat 32 (ofBe bytes))
    exact ⟨h1, h2, h3⟩
  case writeOutside =>
    intro s a bytes hr ha hb
    exact ⟨_, (exec_spiWrite hr hb).trans (congrArg Host.Outcome.next (spiWriteWord_outside (s := s.begin) (spiReady_scope hr) ha)), spiErr_reads s.begin⟩
  case rsp =>
    intro s f q hr hq
    refine ⟨(s.begin.withReadData (rspWords (s.fillAux f))).withSpi { s.spi with rsp := q }, ?_, rfl, rfl,
      only_withSpi (by simp) (only_withReadData (by simp) (only_refl _ _ _))⟩
    refine congrArg Host.Outcome.next ((if_pos hr).trans ?_)
    rw [show s.begin.spi.rsp = f :: q from hq]
    rfl
  case empty =>
    intro s hr hq
    refine ⟨s.begin.withReadData (List.replicate 4 0xFFFFFFFF), ?_, rfl, only_withReadData (by simp) (only_refl _ _ _)⟩
    refine congrArg Host.Outcome.next ((if_pos hr).trans ?_)
    rw [show s.begin.spi.rsp = [] from hq]

end Sys2Proof.Proofs.RegisterAgents
end

section
/-! PROOF. Safe frames (SafeFrames): rejected copies, pairs, expiry and staleness. -/

namespace Sys2Proof.Proofs.SafeCopies

open Sys2Proof.Machine Sys2Proof.Laws Sys2Proof.Proofs.Architecture Sys2Proof.Proofs.RegisterMap Sys2Proof.Proofs.Reading
  Sys2Proof.Proofs.GovernorSums Sys2Proof.Proofs.GylysLinks Sys2Proof.Proofs.QuartzRoot Sys2Proof.Proofs.GylysTime Sys2Proof.Proofs.WorkPackets
  Sys2Proof.Proofs.PacketStore

variable {s t u : State} {l : Nat}

/-! ### A copy that arrives -/

theorem exec_safeFrame {f : Wire} (hok : (s.begin.checkFrame l f).1 = true) (h2 : f.ftype = 2) (hb : s.blockRunning 0x0B = false) :
    exec (.safeFrame l f) s = .next (
      match (s.begin.checkFrame l f).2.sfReject l f.payload with
      | some e => ((((s.begin.checkFrame l f).2.consumeInj S.CSF_REJECT).evt e).incSat F.CSF_CNT_REJECTED).raiseWith S.CSF_REJECT 0 0
          ((s.begin.checkFrame l f).2.armed S.CSF_REJECT) false
      | none => (s.begin.checkFrame l f).2.pair l f.payload) := by
  have hrst : (s.begin.checkFrame l f).2.rst = s.rst :=
    (within_rst (show s.begin.Within (Foot.of [0x70, 0x88] []) (s.begin.checkFrame l f).2 from (checkFrame_ok_fits hok).within) rfl rfl).trans rfl
  have hrun : (s.begin.checkFrame l f).2.blockRunning 0x0B = false := by
    rw [State.blockRunning, hrst]
    exact hb
  show execSafeFrame l f s = _
  unfold execSafeFrame
  generalize s.begin.checkFrame l f = r at hok hrun ⊢
  obtain ⟨ok, c⟩ := r
  exact congrArg Host.Outcome.next ((if_pos (by simp [show ok = true from hok, h2, show c.blockRunning 0x0B = false from hrun])).trans rfl)

/-- The events of the checks of R176. -/
def rejectEvts : List Fld :=
  [F.CSF_EVT_CRC, F.CSF_EVT_FORMAT, F.CSF_EVT_ID, F.CSF_EVT_EPOCH, F.CSF_EVT_AGE, F.CSF_EVT_OLD]

theorem sfReject_mem {p : List Byte} {e : Fld} (h : s.sfReject l p = some e) : e ∈ rejectEvts := by
  unfold State.sfReject at h
  split_ifs at h <;> (obtain rfl := Option.some.inj h; simp [rejectEvts])

/-- What stays of a state through the check of a frame. -/
theorem checkFrame_ok_csf {f : Wire} (hok : (s.begin.checkFrame l f).1 = true) :
    (s.begin.checkFrame l f).2.csf = s.csf ∧ (s.begin.checkFrame l f).2.now = s.now ∧ (s.begin.checkFrame l f).2.saf = s.begin.saf
      ∧ (s.begin.checkFrame l f).2.pwr = s.pwr := by
  have hw : s.begin.Within (Foot.of [0x70, 0x88] []) (s.begin.checkFrame l f).2 := (checkFrame_ok_fits hok).within
  exact ⟨(within_csf hw rfl rfl).trans rfl, (within_now hw rfl rfl).trans rfl, (within_saf hw rfl rfl).trans rfl, (within_pwr hw rfl rfl).trans rfl⟩

/-- The level of a fault is none of what the check of a frame touches. -/
theorem checkFrame_ok_level {f : Wire} (hok : (s.checkFrame l f).1 = true) (i : Nat) (hi : i < 75) : (s.checkFrame l f).2.defLevel i = s.defLevel i := by
  have hoff : ∀ i < 75, (fltSev i).off % 4096 ≠ 0x54 ∧ (fltSev i).off % 4096 ≠ 0x58 := by decide
  rw [State.defLevel, on_congr (checkFrame_ok_place hok (x := F.FLT_CTRL_MODE) (by decide) (by decide)),
    checkFrame_ok_place hok (hoff i hi).1 (hoff i hi).2, State.defLevel]

theorem consumeInj_level (s : State) (j i : Nat) (hi : i < 75) : (s.consumeInj j).defLevel i = s.defLevel i := by
  have hclear : ∀ i < 75, clear [F.FLT_INJ_STATE, F.FLT_INJ_ARM, F.FLT_EVT_INJ_DONE, F.UNIT_IRQ_STAT_EVT 0x70, F.FLT_CNT_INJECTED,
      F.FLT_ALARM_INJ_SEEN] (fltSev i) = true := by decide
  rw [State.defLevel, on_congr (consumeInj_g s j (x := F.FLT_CTRL_MODE) (by decide)), consumeInj_g s j (hclear i hi), State.defLevel]

/-! ### A rejected copy -/

theorem rejected_reads (c : State) {e : Fld} (he : e ∈ rejectEvts) (inj : Bool) :
    let t := (((c.consumeInj S.CSF_REJECT).evt e).incSat F.CSF_CNT_REJECTED).raiseWith S.CSF_REJECT 0 0 inj false
    t.on e = true ∧ t.g F.CSF_CNT_REJECTED = min F.CSF_CNT_REJECTED.top (c.g F.CSF_CNT_REJECTED + 1) ∧ t.csf = c.csf
      ∧ (c.defLevel S.CSF_REJECT ≠ 0 → t.on (fltPend S.CSF_REJECT) = true) := by
  intro t
  have hplace : ∀ e ∈ rejectEvts, quietField e = true ∧ sep F.CSF_CNT_REJECTED e = true ∧ oneBit e = true ∧ sep e F.CSF_CNT_REJECTED = true
      ∧ sep (F.UNIT_IRQ_STAT_EVT e.page) F.CSF_CNT_REJECTED = true ∧ groupPage e.page = 0x0B := by decide
  obtain ⟨hq, hc, h1, hr, hi, hp⟩ := hplace e he
  have hv : c.Fits (Foot.of [0x0B, 0x70] []) (((c.consumeInj S.CSF_REJECT).evt e).incSat F.CSF_CNT_REJECTED) :=
    incSat_fits (by decide) (evt_fits (by simp [Foot.hasUnit, Foot.of, hp]) (consumeInj_fits c _ (by decide) (fits_refl _ c)))
  have hinj := consumeInj_level c S.CSF_REJECT S.CSF_REJECT (by decide)
  have hlev : (((c.consumeInj S.CSF_REJECT).evt e).incSat F.CSF_CNT_REJECTED).defLevel S.CSF_REJECT = (c.consumeInj S.CSF_REJECT).defLevel S.CSF_REJECT :=
    fits_defLevel (g := Foot.of [0x0B] []) (incSat_fits (by decide) (evt_fits (by simp [Foot.hasUnit, Foot.of, hp]) (fits_refl _ _))) rfl rfl _
  refine ⟨?_, ?_, ?_, fun hd => raiseWith_pend _ _ _ _ _ (by decide) (by rwa [hlev, hinj])⟩
  · exact (on_congr (raiseWith_g _ _ _ _ _ _ hq)).trans ((on_incSat_sep _ hc).trans (on_evt_self _ h1))
  · refine (raiseWith_g _ _ _ _ _ _ (by decide)).trans ((g_incSat (by decide) (by decide) (g_le_top _ _)).trans ?_)
    rw [g_evt_sep _ hr hi, consumeInj_g _ _ (by decide)]
  · have hw : State.Within (Foot.of [0x00, 0x0B, 0x40, 0x50, 0x68, 0x70, 0x71] [.flt, .evr, .saf, .lanes])
        (((c.consumeInj S.CSF_REJECT).evt e).incSat F.CSF_CNT_REJECTED) t := (raiseWith_fits _ _ _ _ _ _ (by decide) (by decide) (fits_refl _ _)).within
    exact (within_csf hw rfl rfl).trans (within_csf hv.within rfl rfl)

/-! ### A copy that is paired (R177) -/

/-- The reference SEQ of a link, once a copy has passed. -/
def referred (s : State) (l seq : Nat) : State := s.withCsf (if l = 0 then { s.csf with refA := some seq } else { s.csf with refB := some seq })

theorem referred_csf (s : State) (l seq : Nat) :
    (referred s l seq).csf.ref l = some seq ∧ ∀ k, (referred s l seq).csf.pendOf k = s.csf.pendOf k := by
  unfold referred Csf.ref Csf.pendOf State.withCsf
  by_cases hl : l = 0 <;> simp [hl]

theorem setPend_pendOf (c : Csf) (l k : Nat) (q : List Copy) : (c.setPend l q).pendOf k = if (l = 0 ↔ k = 0) then q else c.pendOf k := by
  unfold Csf.setPend Csf.pendOf
  by_cases hl : l = 0 <;> by_cases hk : k = 0 <;> simp [hl, hk]

theorem setPend_ref (c : Csf) (l k : Nat) (q : List Copy) : (c.setPend l q).ref k = c.ref k := by
  unfold Csf.setPend Csf.ref
  by_cases hl : l = 0 <;> simp [hl]

/-- A copy of the same SEQ. -/
def sameSeq (b : List Byte) (c : Copy) : Bool := sfField c.bytes 4 4 = sfField b 4 4

theorem pair_eq (s : State) (l : Nat) (b : List Byte) : s.pair l b =
    match (s.csf.pendOf l).find? (sameSeq b) with
    | some c => if c.bytes = b then (referred s l (sfField b 4 4)).evt F.CSF_EVT_DUP else ((referred s l (sfField b 4 4)).unpend l (sfField b 4 4)).mismatch
    | none =>
      match (s.csf.pendOf (1 - l)).find? (sameSeq b) with
      | some c =>
        let v := (referred s l (sfField b 4 4)).unpend (1 - l) (sfField b 4 4)
        if c.bytes ≠ b then v.mismatch else if v.now - c.at_ ≤ v.win then v.deliver b else (v.unpaired (1 - l)).pendCopy l b
      | none => (referred s l (sfField b 4 4)).pendCopy l b := by
  obtain ⟨-, hp⟩ := referred_csf s l (sfField b 4 4)
  rw [← hp l, ← hp (1 - l)]
  rfl

theorem pair_alone {b : List Byte} (h : (s.csf.pendOf l).find? (sameSeq b) = none) (ho : (s.csf.pendOf (1 - l)).find? (sameSeq b) = none) :
    s.pair l b = (referred s l (sfField b 4 4)).pendCopy l b := by
  rw [pair_eq, h, ho]

theorem pair_equal {b : List Byte} {c : Copy} (h : (s.csf.pendOf l).find? (sameSeq b) = none) (ho : (s.csf.pendOf (1 - l)).find? (sameSeq b) = some c)
    (hb : c.bytes = b) (hw : s.now - c.at_ ≤ s.win) : s.pair l b = ((referred s l (sfField b 4 4)).unpend (1 - l) (sfField b 4 4)).deliver b := by
  rw [pair_eq, h, ho]
  exact (if_neg (by simp [hb])).trans (if_pos hw)

theorem pair_differs {b : List Byte} {c : Copy} (h : (s.csf.pendOf l).find? (sameSeq b) = none) (ho : (s.csf.pendOf (1 - l)).find? (sameSeq b) = some c)
    (hb : c.bytes ≠ b) : s.pair l b = ((referred s l (sfField b 4 4)).unpend (1 - l) (sfField b 4 4)).mismatch := by
  rw [pair_eq, h, ho]
  exact if_pos hb

/-- A copy in its table, the oldest of eight pushed out. -/
theorem pendCopy_csf (s : State) (l : Nat) (b : List Byte) : (s.pendCopy l b).csf =
    s.csf.setPend l ((s.csf.pendOf l ++ [(⟨b, s.now⟩ : Copy)]).drop (if (s.csf.pendOf l).length < 8 then 0 else 1)) := by
  unfold State.pendCopy
  extract_lets q
  have hq : q.length = (s.csf.pendOf l).length + 1 := by simp [q]
  by_cases h : (s.csf.pendOf l).length < 8
  · rw [if_pos (by omega), if_pos h]
    rfl
  · rw [if_neg (by omega), if_neg h, State.unpaired, evt_csf]
    rfl

/-! ### A MISMATCH -/

/-- A fault with a trigger through Flint, while Flint runs, leaves the device locked out. -/
theorem raiseTrig_flint_locked (i inst code detail : Nat) (h0 : s.saf.trigNow = 0) (hh : s.saf.halted = false) (hf : s.flintStopped = false) :
    (s.raiseTrig i inst code detail true).on F.SAF_STAT_LOCKED = true := by
  have hsaf : (s.raiseWith i inst 0 false true).saf = s.saf := raiseWith_saf s i inst 0 false
  have hstop : (s.raiseWith i inst 0 false true).flintStopped = false := by
    have hp : (s.raiseWith i inst 0 false true).pwr = s.pwr := within_pwr (raiseCore_fits s i inst 0 false).within rfl rfl
    rw [State.flintStopped, hp]
    exact hf
  unfold State.raiseTrig State.flintTrigger
  rw [if_pos rfl, hsaf, hh, hstop]
  exact trigger_locked _ _ _ (by rw [hsaf]; exact h0)

theorem mismatch_reads (s : State) : s.mismatch.g F.CSF_STAT_VERDICT = 1 ∧ s.mismatch.on F.CSF_EVT_MISMATCH = true
    ∧ (s.defLevel S.CSF_MISMATCH ≠ 0 → s.mismatch.on (fltPend S.CSF_MISMATCH) = true)
    ∧ (s.saf.trigNow = 0 → s.saf.halted = false → s.flintStopped = false → s.mismatch.on F.SAF_STAT_LOCKED = true) := by
  unfold State.mismatch
  have hlev : ((s.put F.CSF_STAT_VERDICT 1).evt F.CSF_EVT_MISMATCH).defLevel S.CSF_MISMATCH = s.defLevel S.CSF_MISMATCH :=
    fits_defLevel (g := Foot.of [0x0B] []) (evt_fits (by decide) (put_fits _ (by decide) (fits_refl _ s))) rfl rfl _
  refine ⟨?_, ?_, fun hd => ?_, fun h0 hh hf => ?_⟩
  · refine (settle_g _ (by decide)).trans ((raiseTrig_g _ _ _ _ _ _ (by decide)).trans ((g_evt_sep _ rfl rfl).trans (g_put_room _ rfl)))
  · exact (on_congr (settle_g _ (by decide))).trans ((on_congr (raiseTrig_g _ _ _ _ _ _ (by decide))).trans (on_evt_self _ rfl))
  · exact (on_congr (settle_g _ (by decide))).trans (raiseTrig_pend _ _ _ _ _ (by decide) (by rwa [hlev]))
  · exact (on_congr (settle_g _ (by decide))).trans (raiseTrig_flint_locked _ _ _ _ (by simpa using h0) (by simpa using hh) (by simpa [State.flintStopped] using hf))

/-! ### A pair that is delivered -/

/-- What the older copies leave when they go. -/
def dropFields : List Fld := [F.CSF_EVT_UNPAIRED_A, F.CSF_EVT_UNPAIRED_B, F.UNIT_IRQ_STAT_EVT 0x0B]

theorem unpaired_only (s : State) (l : Nat) : s.Only dropFields [] (s.unpaired l) := by
  unfold State.unpaired
  split_ifs
  · exact only_evt (by simp [dropFields]) (by simp [dropFields, F.CSF_EVT_UNPAIRED_B]) (by decide) (only_refl _ _ _)
  · exact only_evt (by simp [dropFields]) (by simp [dropFields, F.CSF_EVT_UNPAIRED_A]) (by decide) (only_refl _ _ _)

theorem dropOlder_only (s : State) (l seq : Nat) : s.Only dropFields [.csf] (s.dropOlder l seq) := by
  unfold State.dropOlder
  extract_lets q old v
  have hv : s.Only dropFields [.csf] v := only_withCsf (by simp) (only_refl _ _ _)
  exact only_ite (fun _ => hv) (fun _ => only_app (by simp) (by simp) (unpaired_only v l) hv)

/-- A pair as it is counted, before its type is looked at. -/
def counted (s : State) (seq : Nat) : State :=
  let v := (((s.dropOlder 0 seq).dropOlder 1 seq).put F.CSF_LAST_SEQ_SEQ seq).inc F.CSF_CNT_MATCHED
  v.withCsf { v.csf with matched := true }

theorem deliver_eq (s : State) (b : List Byte) : s.deliver b =
    match sfField b 0x10 1 with
    | 1 => ((counted s (sfField b 4 4)).put F.CSF_STAT_CURRENT 1).withCsf { (counted s (sfField b 4 4)).csf with
        stateAt := some (counted s (sfField b 4 4)).now, beamReq := some (sfField b 0x1C 1), speed := sfField b 0x1E 2 }
    | 2 => (counted s (sfField b 4 4)).flintUnlock (sfField b 0x1C 4)
    | _ => (counted s (sfField b 4 4)).withCsf { (counted s (sfField b 4 4)).csf with profile := some (sfField b 0x1C 1) } := rfl

theorem counted_reads (s : State) (seq : Nat) : (counted s seq).csf.matched = true ∧ (counted s seq).g F.CSF_LAST_SEQ_SEQ = seq % 2 ^ 32
    ∧ (counted s seq).g F.CSF_CNT_MATCHED = (s.g F.CSF_CNT_MATCHED + 1) % 2 ^ 16 ∧ (counted s seq).now = s.now := by
  have hO : s.Only dropFields [.csf] ((s.dropOlder 0 seq).dropOlder 1 seq) :=
    only_app (by simp) (by simp) (dropOlder_only _ 1 seq) (dropOlder_only s 0 seq)
  refine ⟨rfl, ?_, ?_, ?_⟩
  · exact (withCsf_g ..).trans ((g_put_sep _ _ rfl).trans (g_put_same _ _ _ (by decide) (by decide)))
  · refine (withCsf_g ..).trans ((g_put_same _ _ _ (by decide) (by decide)).trans ?_)
    rw [g_put_sep _ _ rfl, only_g hO (by decide)]
    rfl
  · unfold counted
    simp only [State.inc]
    rw [show ∀ (v : State) c, (v.withCsf c).now = v.now from fun _ _ => rfl, put_now, put_now]
    exact hO.parts.now (by simp [Foot.of])

/-- A matched UNLOCK leaves the count of the pair. -/
theorem flintUnlock_leaves (s : State) (n : Nat) : (s.flintUnlock n).csf.matched = s.csf.matched
    ∧ (s.flintUnlock n).g F.CSF_LAST_SEQ_SEQ = s.g F.CSF_LAST_SEQ_SEQ ∧ (s.flintUnlock n).g F.CSF_CNT_MATCHED = s.g F.CSF_CNT_MATCHED := by
  have hrej : ∀ (k c : Nat) (b : List Byte), (((s.put F.SAF_UNLOCK_REJ k).evt F.SAF_EVT_UNLOCK_REJ).event c b).csf = s.csf
      ∧ ∀ x ∈ [F.CSF_LAST_SEQ_SEQ, F.CSF_CNT_MATCHED], (((s.put F.SAF_UNLOCK_REJ k).evt F.SAF_EVT_UNLOCK_REJ).event c b).g x = s.g x := by
    intro k c b
    have hw : s.Within (Foot.of [0x68, 0x70, 0x71] [.evr]) (((s.put F.SAF_UNLOCK_REJ k).evt F.SAF_EVT_UNLOCK_REJ).event c b) :=
      (event_fits _ _ _ (by decide) (evt_fits (by decide) (put_fits _ (by decide) (fits_refl _ s)))).within
    have hx : ∀ x ∈ [F.CSF_LAST_SEQ_SEQ, F.CSF_CNT_MATCHED], (Foot.of [0x68, 0x70, 0x71] [.evr]).units.contains (groupPage x.page) = false := by decide
    exact ⟨within_csf hw rfl rfl, fun x hm => within_g hw rfl x (hx x hm)⟩
  unfold State.flintUnlock
  split_ifs
  · exact ⟨rfl, rfl, rfl⟩
  · obtain ⟨hc, hg⟩ := hrej 1 0x6882 [1]
    exact ⟨congrArg Csf.matched hc, hg _ (by simp), hg _ (by simp)⟩
  · obtain ⟨hc, hg⟩ := hrej 2 0x6882 [2]
    exact ⟨congrArg Csf.matched hc, hg _ (by simp), hg _ (by simp)⟩
  · exact ⟨rfl, rfl, rfl⟩

theorem deliver_reads (s : State) (b : List Byte) : (s.deliver b).csf.matched = true ∧ (s.deliver b).g F.CSF_LAST_SEQ_SEQ = sfField b 4 4 % 2 ^ 32
    ∧ (s.deliver b).g F.CSF_CNT_MATCHED = (s.g F.CSF_CNT_MATCHED + 1) % 2 ^ 16
    ∧ (sfField b 0x10 1 = 1 → (s.deliver b).on F.CSF_STAT_CURRENT = true ∧ (s.deliver b).csf.stateAt = some s.now
        ∧ (s.deliver b).csf.beamReq = some (sfField b 0x1C 1) ∧ (s.deliver b).csf.speed = sfField b 0x1E 2)
    ∧ (sfField b 0x10 1 = 3 → (s.deliver b).csf.profile = some (sfField b 0x1C 1)) := by
  obtain ⟨hm, hs, hc, hn⟩ := counted_reads s (sfField b 4 4)
  rw [deliver_eq]
  generalize counted s (sfField b 4 4) = v at *
  split
  next h =>
    refine ⟨hm, (withCsf_g ..).trans ((g_put_sep _ _ rfl).trans hs), (withCsf_g ..).trans ((g_put_sep _ _ rfl).trans hc), fun _ => ?_, fun h3 => ?_⟩
    · exact ⟨(withCsf_on ..).trans (on_put_set _ rfl), congrArg some hn, rfl, rfl⟩
    · omega
  next h =>
    obtain ⟨h1, h2, h3⟩ := flintUnlock_leaves v (sfField b 0x1C 4)
    exact ⟨h1.trans hm, h2.trans hs, h3.trans hc, fun h1 => by omega, fun h3 => by omega⟩
  next h1 h2 =>
    exact ⟨hm, (withCsf_g ..).trans hs, (withCsf_g ..).trans hc, fun h => absurd h h1, fun _ => rfl⟩

theorem unpaired_on (s : State) (l : Nat) : (s.unpaired l).on (if l = 0 then F.CSF_EVT_UNPAIRED_B else F.CSF_EVT_UNPAIRED_A) = true := by
  unfold State.unpaired
  split_ifs
  · exact on_evt_self _ rfl
  · exact on_evt_self _ rfl

/-- What reading a copy's partner off its table leaves. -/
theorem unpend_reads (s : State) (l k seq : Nat) : ((referred s l seq).unpend k seq).now = s.now ∧ ((referred s l seq).unpend k seq).saf = s.saf
    ∧ ((referred s l seq).unpend k seq).pwr = s.pwr ∧ ∀ x, ((referred s l seq).unpend k seq).g x = s.g x := ⟨rfl, rfl, rfl, fun _ => rfl⟩

theorem stale_reads (s : State) :
    let t := ((((s.put F.CSF_STAT_CURRENT 0).put F.CSF_STAT_VERDICT 2).evt F.CSF_EVT_STALE).raiseTrig S.CSF_STALE 0 9 0 true).settle
    t.on F.CSF_STAT_CURRENT = false ∧ t.g F.CSF_STAT_VERDICT = 2 ∧ t.on F.CSF_EVT_STALE = true
      ∧ (s.defLevel S.CSF_STALE ≠ 0 → t.on (fltPend S.CSF_STALE) = true)
      ∧ (s.saf.trigNow = 0 → s.saf.halted = false → s.flintStopped = false → t.on F.SAF_STAT_LOCKED = true)
      ∧ ∀ {s0 : State}, s0.Fits (Foot.reaction [0x0B] []) s → s0.Fits (Foot.reaction [0x0B] []) t := by
  intro t
  have hlev : (((s.put F.CSF_STAT_CURRENT 0).put F.CSF_STAT_VERDICT 2).evt F.CSF_EVT_STALE).defLevel S.CSF_STALE = s.defLevel S.CSF_STALE :=
    fits_defLevel (g := Foot.of [0x0B] []) (evt_fits (by decide) (put_fits _ (by decide) (put_fits _ (by decide) (fits_refl _ s)))) rfl rfl _
  have hg : ∀ x, F.SAF_STAT_FSTATE.apart x = true → quietField x = true →
      t.g x = (((s.put F.CSF_STAT_CURRENT 0).put F.CSF_STAT_VERDICT 2).evt F.CSF_EVT_STALE).g x :=
    fun x h1 h2 => (settle_g _ h1).trans (raiseTrig_g _ _ _ _ _ _ h2)
  refine ⟨?_, ?_, ?_, fun hd => ?_, fun h0 hh hf => ?_, fun h0 => ?_⟩
  · exact (on_congr (hg _ (by decide) (by decide))).trans ((on_evt_sep _ rfl rfl).trans ((on_put_sep _ _ rfl).trans (on_put_clear _ rfl)))
  · exact (hg _ (by decide) (by decide)).trans ((g_evt_sep _ rfl rfl).trans (g_put_room _ rfl))
  · exact (on_congr (hg _ (by decide) (by decide))).trans (on_evt_self _ rfl)
  · exact (on_congr (settle_g _ (by decide))).trans (raiseTrig_pend _ _ _ _ _ (by decide) (by rwa [hlev]))
  · exact (on_congr (settle_g _ (by decide))).trans (raiseTrig_flint_locked _ _ _ _ (by simpa using h0) (by simpa using hh) (by simpa [State.flintStopped] using hf))
  · exact settle_fits _ (by decide) (raiseTrig_fits _ _ _ _ _ _ (by decide) (by decide) (evt_fits (by decide) (put_fits _ (by decide) (put_fits _ (by decide) h0))))

/-- Settles O19. -/
theorem safeFrames : Obligations.SafeFrames := by
  unfold Obligations.SafeFrames
  refine ⟨?reject, ?pass, ?expiry, ?noneWaits, ?stale, ?current⟩
  case reject =>
    intro s l f e hl hok h2 hb he
    obtain ⟨hcsf, -, -, -⟩ := checkFrame_ok_csf hok
    have hcnt : (s.begin.checkFrame l f).2.g F.CSF_CNT_REJECTED = s.g F.CSF_CNT_REJECTED := checkFrame_ok_g hok _ (by decide)
    have hlev : (s.begin.checkFrame l f).2.defLevel S.CSF_REJECT = s.defLevel S.CSF_REJECT := checkFrame_ok_level hok _ (by decide)
    obtain ⟨hon, hc, hp, hd⟩ := rejected_reads (s.begin.checkFrame l f).2 (sfReject_mem he) ((s.begin.checkFrame l f).2.armed S.CSF_REJECT)
    refine ⟨_, (exec_safeFrame hok h2 hb).trans (by rw [he]), hon, hc.trans (by rw [hcnt]), hp.trans hcsf, fun h => hd (by rwa [hlev])⟩
  case pass =>
    intro s l f hl hok h2 hb he seq same
    obtain ⟨hcsf, hnow, hsaf, hpwr⟩ := checkFrame_ok_csf hok
    have hrun : exec (.safeFrame l f) s = .next ((s.begin.checkFrame l f).2.pair l f.payload) := (exec_safeFrame hok h2 hb).trans (by rw [he])
    have hcg : ∀ x ∈ [F.CSF_CNT_MATCHED, F.CSF_CFG_WIN], (s.begin.checkFrame l f).2.g x = s.g x :=
      fun x hx => checkFrame_ok_g hok x ((by decide : ∀ x ∈ [F.CSF_CNT_MATCHED, F.CSF_CFG_WIN], [0x70, 0x88].contains (groupPage x.page) = false) x hx)
    have hlev : (s.begin.checkFrame l f).2.defLevel S.CSF_MISMATCH = s.defLevel S.CSF_MISMATCH := checkFrame_ok_level hok _ (by decide)
    have hwin : (s.begin.checkFrame l f).2.win = s.win := by rw [State.win, State.win, hcg _ (by simp)]
    generalize (s.begin.checkFrame l f).2 = c at *
    refine ⟨fun h1 ho => ?_, fun k h1 ho hk hw => ?_, fun k h1 ho hk => ?_⟩
    · have hpair : c.pair l f.payload = (referred c l seq).pendCopy l f.payload := pair_alone (by rw [hcsf]; exact h1) (by rw [hcsf]; exact ho)
      obtain ⟨href, hpend⟩ := referred_csf c l seq
      have hp := pendCopy_csf (referred c l seq) l f.payload
      refine ⟨_, hrun.trans (congrArg Host.Outcome.next hpair), ?_, ?_, ?_⟩
      · rw [hp, setPend_ref, href]
      · rw [hp, setPend_pendOf, if_neg (by omega), hpend, hcsf]
      · rw [hp, setPend_pendOf, if_pos Iff.rfl, hpend, hcsf, show (referred c l seq).now = s.now from hnow]
    · have hpair : c.pair l f.payload = ((referred c l seq).unpend (1 - l) seq).deliver f.payload :=
        pair_equal (by rw [hcsf]; exact h1) (by rw [hcsf]; exact ho) hk (by rw [hnow, hwin]; exact hw)
      obtain ⟨hmn, -, -, hmg⟩ := unpend_reads c l (1 - l) seq
      obtain ⟨hm, hs, hc, hst, hpr⟩ := deliver_reads ((referred c l seq).unpend (1 - l) seq) f.payload
      refine ⟨_, hrun.trans (congrArg Host.Outcome.next hpair), hm, hs, hc.trans (by rw [hmg, hcg _ (by simp)]), fun h => ?_, hpr⟩
      obtain ⟨hcur, hat, hbr, hsp⟩ := hst h
      exact ⟨hcur, hat.trans (congrArg some (hmn.trans hnow)), hbr, hsp⟩
    · have hpair : c.pair l f.payload = ((referred c l seq).unpend (1 - l) seq).mismatch :=
        pair_differs (by rw [hcsf]; exact h1) (by rw [hcsf]; exact ho) hk
      obtain ⟨-, hms, hmp, hmg⟩ := unpend_reads c l (1 - l) seq
      obtain ⟨hv, hm, hd, hlock⟩ := mismatch_reads ((referred c l seq).unpend (1 - l) seq)
      refine ⟨_, hrun.trans (congrArg Host.Outcome.next hpair), hv, hm, fun h => hd ?_, fun hh hf => hlock ?_ ?_ ?_⟩
      · rwa [State.defLevel, on_congr (hmg F.FLT_CTRL_MODE), hmg, ← State.defLevel, hlev]
      · rw [hms, hsaf]
        rfl
      · rw [hms, hsaf]
        exact hh
      · rw [State.flintStopped, hmp, hpwr]
        exact hf
  case expiry =>
    intro s l c q hl h
    refine ⟨(s.begin.withCsf (s.csf.setPend l q)).unpaired l, ?_, evt_csf .., unpaired_on .., ?_⟩
    · show Host.Outcome.next (match s.begin.csf.pendOf l with | [] => _ | _ :: t => _) = _
      rw [show s.begin.csf.pendOf l = c :: q from h]
      rfl
    · unfold State.unpaired
      refine only_evt (by simp) ?_ ?_ (only_withCsf (by simp) (only_refl _ _ _))
      · split_ifs <;> simp [F.CSF_EVT_UNPAIRED_B, F.CSF_EVT_UNPAIRED_A]
      · split_ifs <;> decide
  case noneWaits =>
    intro s l h
    show Host.Outcome.next (match s.begin.csf.pendOf l with | [] => _ | _ :: t => _) = _
    rw [show s.begin.csf.pendOf l = [] from h]
  case stale =>
    intro s hc hst hp
    have hgo : (s.begin.on F.CSF_STAT_CURRENT && s.begin.pwr.st ≠ .sleep && !s.begin.poweredStop) = true := by
      rw [show s.begin.on F.CSF_STAT_CURRENT = s.on F.CSF_STAT_CURRENT from rfl, show s.begin.pwr = s.pwr from rfl,
        show s.begin.poweredStop = s.poweredStop from rfl, hc, hp]
      simp [hst]
    obtain ⟨hcur, hver, hevt, hpend, hlock, hfits⟩ := stale_reads s.begin
    refine ⟨_, congrArg Host.Outcome.next (if_pos hgo), hcur, hver, hevt, hpend, hlock rfl, ?_⟩
    exact (hfits (begin_fits s (by decide) (fits_refl _ s))).within
  case current =>
    intro s h
    refine congrArg Host.Outcome.next (if_neg ?_)
    rcases h with h | h
    · simp [show s.begin.on F.CSF_STAT_CURRENT = false from h]
    · rw [show s.begin.pwr = s.pwr from rfl, h]
      simp

end Sys2Proof.Proofs.SafeCopies
end

section
/-! PROOF. The side link: its reception (SideLinkStates) and its frames (SideLinkFrames). -/

namespace Sys2Proof.Proofs.SideLink

open Sys2Proof.Machine Sys2Proof.Laws Sys2Proof.Proofs.Architecture Sys2Proof.Proofs.RegisterMap Sys2Proof.Proofs.Reading
  Sys2Proof.Proofs.GovernorSums Sys2Proof.Proofs.PendingFaults Sys2Proof.Proofs.QuartzReference Sys2Proof.Proofs.GylysLinks
  Sys2Proof.Proofs.PacketConsumption

variable {s t u : State}

/-! ### The split state (R188 to R190) -/

/-- The split state as it is entered, before its fault. -/
def split (s : State) : State :=
  let v := ((s.put F.SIDE_STAT_SPLIT 1).put F.SIDE_STAT_PHASE_LOCK 0).evt F.SIDE_EVT_LOST
  (v.withSide { v.side with phases := 0, lockRun := 0 }).incSat F.SIDE_CNT_SPLITS

/-- What the split state may change of SIDE. -/
def splitFields : List Fld :=
  [F.SIDE_STAT_SPLIT, F.SIDE_STAT_PHASE_LOCK, F.SIDE_EVT_LOST, F.UNIT_IRQ_STAT_EVT 0x0A, F.SIDE_CNT_SPLITS]

theorem split_only (s : State) : s.Only splitFields [.side] (split s) :=
  only_incSat (by simp [splitFields]) (by decide) (only_withSide (by simp) (only_evt (by simp [splitFields]) (by simp [splitFields, F.SIDE_EVT_LOST])
    (by decide) (only_put _ (by simp [splitFields]) (by decide) (only_put _ (by simp [splitFields]) (by decide) (only_refl _ _ _)))))

theorem enterSplit_of (he : s.on (F.UNIT_CTRL_ENABLE 0x0A) = true) (hs : s.on F.SIDE_STAT_SPLIT = false) :
    s.enterSplit = (split s).raise S.SIDE_LOST 0 := if_pos (by simp [he, hs])

theorem enterSplit_split (hs : s.on F.SIDE_STAT_SPLIT = true) : s.enterSplit = s := if_neg (by simp [hs])

theorem split_reads (s : State) : (split s).on F.SIDE_STAT_SPLIT = true ∧ (split s).on F.SIDE_STAT_PHASE_LOCK = false
    ∧ (split s).on F.SIDE_EVT_LOST = true ∧ (split s).g F.SIDE_CNT_SPLITS = min F.SIDE_CNT_SPLITS.top (s.g F.SIDE_CNT_SPLITS + 1) := by
  refine ⟨?_, ?_, ?_, ?_⟩
  · exact (on_incSat_sep _ rfl).trans ((withSide_on ..).trans ((on_evt_sep _ rfl rfl).trans ((on_put_sep _ _ rfl).trans (on_put_set _ rfl))))
  · exact (on_incSat_sep _ rfl).trans ((withSide_on ..).trans ((on_evt_sep _ rfl rfl).trans (on_put_clear _ rfl)))
  · exact (on_incSat_sep _ rfl).trans ((withSide_on ..).trans (on_evt_self _ rfl))
  · refine (g_incSat (by decide) (by decide) (g_le_top _ _)).trans ?_
    rw [withSide_g, g_evt_sep _ rfl rfl, g_put_sep _ _ rfl, g_put_sep _ _ rfl]

/-- Entering the split state leaves a quiet field that is none of its own. -/
theorem enterSplit_g (s : State) {x : Fld} (hq : quietField x = true) (hc : clear splitFields x = true) : s.enterSplit.g x = s.g x :=
  ite_g (fun _ => (raise_g _ _ _ hq).trans (only_g (split_only s) hc)) (fun _ => rfl)

/-- An enabled lamp that enters the split state is in it. -/
theorem enterSplit_on (s : State) (he : s.on (F.UNIT_CTRL_ENABLE 0x0A) = true) : s.enterSplit.on F.SIDE_STAT_SPLIT = true := by
  cases hs : s.on F.SIDE_STAT_SPLIT
  · rw [enterSplit_of he hs]
    exact (on_congr (raise_g _ _ _ (by decide))).trans (split_reads s).1
  · rw [enterSplit_split hs]
    exact hs

/-- Entering the split state leaves a fault that pends pending. -/
theorem enterSplit_keeps_pend (s : State) {i : Nat} (hi : i < 75) (h : s.on (fltPend i) = true) : s.enterSplit.on (fltPend i) = true := by
  show (if _ then (split s).raise S.SIDE_LOST 0 else s).on (fltPend i) = true
  have hclear : ∀ i < 75, clear splitFields (fltPend i) = true := by decide
  split_ifs
  · exact raise_keeps_pend _ _ (by decide) hi ((only_on (split_only s) (hclear i hi)).trans h)
  · exact h

theorem raise_side (s : State) (i inst : Nat) : (s.raise i inst).side = s.side := by
  have h := raise_fits (g := ⟨false, groupPage (srcPage i inst) :: [0x00, 0x40, 0x50, 0x68, 0x70, 0x71], [.flt, .evr, .saf, .lanes]⟩) s i inst
    (by simp [Foot.hasUnit]) (by simp [Foot.le, Foot.of]) (fits_refl _ s)
  exact within_side h.within rfl rfl

/-- The peer's role stands through the split. -/
theorem enterSplit_peerRole (s : State) : s.enterSplit.side.peerRole = s.side.peerRole := by
  show (if _ then (split s).raise S.SIDE_LOST 0 else s).side.peerRole = _
  split_ifs
  · rw [raise_side]
    simp [split, State.withSide]
  · rfl

/-! ### Reception (R185 to R188) -/

/-- Own reception as it is lost. -/
def deaf (s : State) : State :=
  let v := s.put F.SIDE_STAT_RX_OK 0
  v.withSide { v.side with phases := 0, lastRx := none }

theorem loseRx_of (h : s.on F.SIDE_STAT_RX_OK = true) : s.loseRx = (deaf s).enterSplit := if_pos h

theorem deaf_only (s : State) : s.Only [F.SIDE_STAT_RX_OK] [.side] (deaf s) :=
  only_withSide (by simp) (only_put _ (by simp) (by decide) (only_refl _ _ _))

theorem deaf_rx (s : State) : (deaf s).on F.SIDE_STAT_RX_OK = false := (withSide_on ..).trans (on_put_clear _ rfl)

theorem exec_sideRxTimeout (h : s.sst = 5) (hr : s.on F.SIDE_STAT_RX_OK = true) : exec .sideRxTimeout s = .next ((deaf s.begin).enterSplit) := by
  refine congrArg Host.Outcome.next ((if_pos ?_).trans (loseRx_of (s := s.begin) hr))
  simp only [Bool.and_eq_true, decide_eq_true_eq]
  exact ⟨h, hr⟩

/-- Settles O20. -/
theorem sideLinkStates : Obligations.SideLinkStates := by
  unfold Obligations.SideLinkStates
  refine ⟨?training, ?splits, ?stays, ?send, ?inactive⟩
  case training =>
    intro s he hr h1 h4
    have hstep : s.begin.sideStep 1 4 5 = s.begin.put F.SIDE_STAT_STATE 5 := by
      have hgo : (decide (1 ≤ s.begin.sst) && decide (s.begin.sst ≤ 4) && s.begin.on (F.UNIT_CTRL_ENABLE 0x0A)) = true := by
        simp only [Bool.and_eq_true, decide_eq_true_eq]
        exact ⟨⟨h1, h4⟩, he⟩
      exact (if_pos hgo).trans (if_neg (by simp))
    refine ⟨_, congrArg Host.Outcome.next ((if_pos hr).trans hstep), g_put_room _ rfl, only_put _ (by simp) (by decide) (only_refl _ _ _)⟩
  case splits =>
    intro s h hr he hs
    have hD := deaf_only s.begin
    have he' : (deaf s.begin).on (F.UNIT_CTRL_ENABLE 0x0A) = true := (only_on hD (by decide)).trans he
    have hs' : (deaf s.begin).on F.SIDE_STAT_SPLIT = false := (only_on hD (by decide)).trans hs
    obtain ⟨h1, h2, h3, h4⟩ := split_reads (deaf s.begin)
    have hlev : (split (deaf s.begin)).defLevel S.SIDE_LOST = s.defLevel S.SIDE_LOST := by
      have hS := split_only (deaf s.begin)
      rw [State.defLevel, only_on hS (by decide), only_g hS (by decide), only_on hD (by decide), only_g hD (by decide)]
      rfl
    refine ⟨_, (exec_sideRxTimeout h hr).trans (by rw [enterSplit_of he' hs']), ?_, ?_, ?_, ?_, ?_, fun hd => raise_pend _ _ (by decide) (by rwa [hlev]), ?_⟩
    · exact (on_congr (raise_g _ _ _ (by decide))).trans ((only_on (split_only _) (by decide)).trans (deaf_rx _))
    · exact (on_congr (raise_g _ _ _ (by decide))).trans h1
    · exact (on_congr (raise_g _ _ _ (by decide))).trans h2
    · exact (on_congr (raise_g _ _ _ (by decide))).trans h3
    · refine (raise_g _ _ _ (by decide)).trans (h4.trans ?_)
      rw [only_g hD (by decide)]
      rfl
    · have hrun : (deaf s.begin).enterSplit = s.begin.loseRx := (loseRx_of (s := s.begin) hr).symm
      rw [← enterSplit_of he' hs', hrun]
      exact (loseRx_fits _ (by decide) (begin_fits s (by decide) (fits_refl _ s))).within
  case stays =>
    intro s h hr hs
    have hD := deaf_only s.begin
    have hs' : (deaf s.begin).on F.SIDE_STAT_SPLIT = true := (only_on hD (by decide)).trans hs
    exact ⟨_, (exec_sideRxTimeout h hr).trans (by rw [enterSplit_split hs']), deaf_rx _, hD⟩
  case send =>
    intro s h
    exact ⟨_, congrArg Host.Outcome.next (if_pos h), rfl, only_withSide (by simp) (only_refl _ _ _)⟩
  case inactive =>
    intro s h
    refine ⟨congrArg Host.Outcome.next (if_neg h), congrArg Host.Outcome.next (if_neg ?_)⟩
    simp [show s.begin.sst ≠ 5 from h]

/-! ### A frame of the side link that passes -/

theorem checkSide_ok {f : Wire} (h : (s.checkSide f).1 = true) :
    (s.checkSide f).2 = (s.put F.SIDE_STAT_RX_OK 1).withSide { s.side with lastRx := some s.now } ∧ f.bytes.length = 8 + f.len := by
  unfold State.checkSide at h ⊢
  split_ifs at h ⊢ with h1 h2
  refine ⟨by simp, ?_⟩
  simp only [sideForm, Bool.and_eq_true, decide_eq_true_eq] at h2
  tauto

/-- A state that a good frame has left. -/
def heard (s : State) : State := (s.put F.SIDE_STAT_RX_OK 1).withSide { s.side with lastRx := some s.now }

theorem heard_only (s : State) : s.Only [F.SIDE_STAT_RX_OK] [.side] (heard s) :=
  only_withSide (by simp) (only_put _ (by simp) (by decide) (only_refl _ _ _))

theorem checkSide_heard {f : Wire} (h : (s.begin.checkSide f).1 = true) : s.begin.checkSide f = (true, heard s.begin) :=
  Prod.ext h (checkSide_ok h).1

/-! ### The peer's role (R188) -/

/-- The peer's role as it is noted. -/
def peered (s : State) (r : Nat) : State := s.withSide { s.side with peerRole := some r }

theorem peerRole_other {r : Nat} (h : r ≠ s.role) : s.peerRole r = ((peered s r).put F.SIDE_STAT_ROLE_CONFLICT 0).condEnd S.SIDE_ROLE 0 := if_neg h

theorem peerRole_same {r : Nat} (h : r = s.role) : s.peerRole r =
    (((if (peered s r).on F.SIDE_STAT_ROLE_CONFLICT then peered s r else (peered s r).raise S.SIDE_ROLE 0).put F.SIDE_STAT_ROLE_CONFLICT 1).evt
      F.SIDE_EVT_ROLE_CONFLICT).enterSplit := if_pos h

/-- A role that is the same raises at most its fault. -/
theorem conflicted_g (s : State) (r : Nat) {x : Fld} (hq : quietField x = true) (h1 : sep F.SIDE_STAT_ROLE_CONFLICT x = true)
    (h2 : sep F.SIDE_EVT_ROLE_CONFLICT x = true) (h3 : sep (F.UNIT_IRQ_STAT_EVT 0x0A) x = true) :
    (((if (peered s r).on F.SIDE_STAT_ROLE_CONFLICT then peered s r else (peered s r).raise S.SIDE_ROLE 0).put F.SIDE_STAT_ROLE_CONFLICT 1).evt
      F.SIDE_EVT_ROLE_CONFLICT).g x = s.g x := by
  rw [g_evt_sep _ h2 h3, g_put_sep _ _ h1]
  exact ite_g (fun _ => rfl) (fun _ => raise_g _ _ _ hq)

/-- The role leaves a quiet field that is none of the split's and none of the conflict's. -/
theorem peerRole_g (s : State) (r : Nat) {x : Fld} (hq : quietField x = true) (hc : clear splitFields x = true)
    (h1 : sep F.SIDE_STAT_ROLE_CONFLICT x = true) (h2 : sep F.SIDE_EVT_ROLE_CONFLICT x = true) (h3 : sep (F.UNIT_IRQ_STAT_EVT 0x0A) x = true) :
    (s.peerRole r).g x = s.g x := by
  by_cases h : r = s.role
  · rw [peerRole_same h, enterSplit_g _ hq hc, conflicted_g s r hq h1 h2 h3]
  · rw [peerRole_other h]
    exact (withFlt_g ..).trans ((g_put_sep (peered s r) _ h1).trans (withSide_g ..))

theorem peerRole_keeps_split (s : State) (r : Nat) (h : s.on F.SIDE_STAT_SPLIT = true) : (s.peerRole r).on F.SIDE_STAT_SPLIT = true := by
  by_cases hr : r = s.role
  · rw [peerRole_same hr]
    have hv := conflicted_g s r (x := F.SIDE_STAT_SPLIT) (by decide) rfl rfl rfl
    rw [enterSplit_split ((on_congr hv).trans h)]
    exact (on_congr hv).trans h
  · rw [peerRole_other hr]
    exact (withFlt_on ..).trans ((on_put_sep (peered s r) _ rfl).trans h)

theorem peerRole_side (s : State) (r : Nat) : (s.peerRole r).side.peerRole = some r := by
  by_cases h : r = s.role
  · rw [peerRole_same h, enterSplit_peerRole, evt_side, put_side]
    split_ifs
    · rfl
    · rw [raise_side]
      rfl
  · rw [peerRole_other h]
    rfl

/-! ### Leaving the split state (R190) -/

theorem leaveSplit_stays (h : s.on F.SIDE_STAT_SPLIT = false ∨ s.side.phases < 16 ∨ s.on F.SIDE_STAT_PEER_RX_OK = false ∨ s.side.peerRole = some s.role) :
    s.leaveSplit = s := by
  refine if_neg ?_
  rcases h with h | h | h | h
  · simp [h]
  · simp [h]
  · simp [h]
  · simp [h]

theorem leaveSplit_leaves {r : Nat} (h1 : s.on F.SIDE_STAT_SPLIT = true) (h2 : 16 ≤ s.side.phases) (h3 : s.on F.SIDE_STAT_PEER_RX_OK = true)
    (h4 : s.side.peerRole = some r) (h5 : r ≠ s.role) :
    s.leaveSplit = (((s.put F.SIDE_STAT_SPLIT 0).evt F.SIDE_EVT_RESTORED).event 0x0A80 []).condEnd S.SIDE_LOST 0 := by
  refine if_pos ?_
  simp [h1, h2, h3, h4, h5]

theorem leaveSplit_g (s : State) {x : Fld} (hr : clear recordFields x = true) (h1 : sep F.SIDE_STAT_SPLIT x = true) (h2 : sep F.SIDE_EVT_RESTORED x = true)
    (h3 : sep (F.UNIT_IRQ_STAT_EVT 0x0A) x = true) : s.leaveSplit.g x = s.g x :=
  ite_g (fun _ => (event_g _ _ _ hr).trans ((g_evt_sep _ h2 h3).trans (g_put_sep _ _ h1))) (fun _ => rfl)

theorem leaveSplit_side (s : State) : s.leaveSplit.side = s.side := by
  unfold State.leaveSplit
  split_ifs
  · have hw : s.Within (Foot.of [0x0A, 0x70, 0x71] [.evr]) (((s.put F.SIDE_STAT_SPLIT 0).evt F.SIDE_EVT_RESTORED).event 0x0A80 []) :=
      (event_fits _ _ _ (by decide) (evt_fits (by decide) (put_fits _ (by decide) (fits_refl _ s)))).within
    have h := within_side hw rfl rfl
    exact h
  · rfl

/-! ### The phase error (R187) -/

theorem phaseError_only (s : State) (peer : Int) :
    s.Only [F.SIDE_PHASE_ERR_NS, F.SIDE_STAT_PHASE_LOCK] [.side] (s.phaseError peer) := by
  unfold State.phaseError
  extract_lets e v lock run src w
  have hw : s.Only [F.SIDE_PHASE_ERR_NS, F.SIDE_STAT_PHASE_LOCK] [.side] w :=
    only_withSide (by simp) (only_put _ (by simp) (by decide) (only_refl _ _ _))
  refine only_ite (fun _ => only_ite (fun _ => only_put _ (by simp) (by decide) hw) (fun _ => only_ite (fun _ => only_put _ (by simp) (by decide) hw)
    (fun _ => hw))) (fun _ => only_refl _ _ _)

theorem phaseError_err (s : State) (peer : Int) (h : s.tln.running = true) :
    (s.phaseError peer).g F.SIDE_PHASE_ERR_NS = unsigned 32 (nearest ((s.tln.nextFlip : Int) - peer) s.cmp.period) := by
  unfold State.phaseError
  rw [if_pos h]
  extract_lets e v lock run src w
  have hw : w.g F.SIDE_PHASE_ERR_NS = unsigned 32 e := (withSide_g ..).trans (g_put_self (by decide) (by decide) (unsigned_lt 32 _))
  refine (ite_g (s := w) (fun _ => g_put_sep _ _ rfl) (fun _ => ite_g (fun _ => g_put_sep _ _ rfl) (fun _ => rfl))).trans hw

theorem phaseError_side (s : State) (peer : Int) : ∃ n, (s.phaseError peer).side = { s.side with lockRun := n } := by
  unfold State.phaseError
  extract_lets e v lock run src w
  have hw : w.side = { s.side with lockRun := run } := by simp [w, v, src, State.withSide]
  split_ifs
  · exact ⟨run, (put_side ..).trans hw⟩
  · exact ⟨run, (put_side ..).trans hw⟩
  · exact ⟨run, hw⟩
  · exact ⟨s.side.lockRun, rfl⟩

/-! ### PHASE frames -/

/-- A PHASE frame as it is noted. -/
def phased (s : State) (b : List Byte) : State :=
  s.withSide { s.side with
    phases := s.side.phases + 1, peerFlip := some (((s.ns : Int) - 2000 - s.g F.SIDE_CTRL_DLY_NS)).toNat, peerFrame := ofBe (slice b 0 4),
    peerPeriod := ofBe (slice b 4 4), peerLocked := tbit (b.getD 8 0).toNat 1 }

theorem phased_parts (u : State) (b : List Byte) :
    (phased u b).side.phases = u.side.phases + 1 ∧ (phased u b).tln = u.tln ∧ (phased u b).cmp = u.cmp :=
  ⟨rfl, rfl, rfl⟩

theorem exec_phaseFrame {f : Wire} (h : (s.begin.checkSide f).1 = true) (h8 : f.ftype = 8) : exec (.phaseFrame f) s = .next
    ((((phased (heard s.begin) f.payload).peerRole ((f.payload.getD 8 0).toNat % 2)).phaseError
      (((heard s.begin).ns : Int) - 2000 - (heard s.begin).g F.SIDE_CTRL_DLY_NS)).leaveSplit) := by
  show execPhaseFrame f s = _
  unfold execPhaseFrame
  rw [checkSide_heard h]
  exact congrArg Host.Outcome.next (if_pos (by simp [h8]))

theorem exec_seamFrame {f : Wire} (h : (s.begin.checkSide f).1 = true) (h9 : f.ftype = 9) (h16 : 16 ≤ f.len)
    (hlen : f.len = 16 + 16 * ofBe (slice f.payload 12 2)) : exec (.seamFrame f) s = .next
      (((heard s.begin).setBytes ((heard s.begin).beamWin + 0x48000) f.payload).withGlare { (heard s.begin).glare with store := some (seamFrame f.payload) }) := by
  show execSeamFrame f s = _
  unfold execSeamFrame
  rw [checkSide_heard h]
  have hgo : (true && decide (f.ftype = 9) && decide (16 ≤ f.len) && decide (f.len = 16 + 16 * ofBe (slice f.payload 12 2))) = true := by
    simp only [Bool.true_and, Bool.and_eq_true, decide_eq_true_eq]
    exact ⟨⟨h9, h16⟩, hlen⟩
  exact congrArg Host.Outcome.next ((if_pos hgo).trans rfl)

theorem exec_sstatFrame {f : Wire} (h : (s.begin.checkSide f).1 = true) (h10 : f.ftype = 10) : exec (.sstatFrame f) s = .next
    ((((if (f.payload.getD 0 0).toNat % 2 = 0 then ((heard s.begin).put F.SIDE_STAT_PEER_RX_OK ((f.payload.getD 0 0).toNat % 2)).enterSplit
        else (heard s.begin).put F.SIDE_STAT_PEER_RX_OK ((f.payload.getD 0 0).toNat % 2))).peerRole ((f.payload.getD 0 0).toNat / 8 % 2)).leaveSplit) := by
  show execSstatFrame f s = _
  unfold execSstatFrame
  rw [checkSide_heard h]
  exact congrArg Host.Outcome.next (if_pos (by simp [h10]))

theorem exec_side_failed {f : Wire} (h : (s.begin.checkSide f).1 = false) :
    exec (.phaseFrame f) s = .next (s.begin.checkSide f).2 ∧ exec (.seamFrame f) s = .next (s.begin.checkSide f).2
      ∧ exec (.sstatFrame f) s = .next (s.begin.checkSide f).2 := by
  have hp : s.begin.checkSide f = (false, (s.begin.checkSide f).2) := Prod.ext h rfl
  refine ⟨?_, ?_, ?_⟩
  · show execPhaseFrame f s = _
    unfold execPhaseFrame
    rw [hp]
    rfl
  · show execSeamFrame f s = _
    unfold execSeamFrame
    rw [hp]
    rfl
  · show execSstatFrame f s = _
    unfold execSstatFrame
    rw [hp]
    rfl

theorem payload_length (f : Wire) : f.payload.length = f.len := by simp [Wire.payload, slice]

theorem heard_ns (s : State) : (heard s).ns = s.ns := by
  unfold State.ns
  rw [show (heard s).now = s.now from (heard_only s).parts.now (by simp [Foot.of])]

theorem ended_parts (u : State) (src : Nat) :
    (u.condEnd src 0).side = u.side ∧ (u.condEnd src 0).tln = u.tln ∧ (u.condEnd src 0).cmp = u.cmp :=
  ⟨rfl, rfl, rfl⟩

theorem conflict_ended_parts (u : State) (x : Fld) (n src : Nat) :
    ((u.put x n).condEnd src 0).side = u.side ∧ ((u.put x n).condEnd src 0).tln = u.tln
      ∧ ((u.put x n).condEnd src 0).cmp = u.cmp := by
  obtain ⟨h1, h2, h3⟩ := ended_parts (u.put x n) src
  exact ⟨h1.trans (put_side u x n), h2.trans (put_tln u x n), h3.trans (put_cmp u x n)⟩

/-- A peer of the other role ends a conflict, and is looked at for the end of the split. -/
theorem phase_other {v : State} {r : Nat} (hr : r ≠ v.role) (peer : Int) :
    let t := ((v.peerRole r).phaseError peer).leaveSplit
    (∃ n, t.side = { v.side with peerRole := some r, lockRun := n }) ∧ t.on F.SIDE_STAT_RX_OK = v.on F.SIDE_STAT_RX_OK
      ∧ t.on F.SIDE_STAT_ROLE_CONFLICT = false
      ∧ (v.tln.running = true → t.g F.SIDE_PHASE_ERR_NS = unsigned 32 (nearest ((v.tln.nextFlip : Int) - peer) v.cmp.period))
      ∧ (v.on F.SIDE_STAT_SPLIT = true → 16 ≤ v.side.phases → v.on F.SIDE_STAT_PEER_RX_OK = true →
          t.on F.SIDE_STAT_SPLIT = false ∧ t.on F.SIDE_EVT_RESTORED = true)
      ∧ (v.side.phases < 16 → t.on F.SIDE_STAT_SPLIT = v.on F.SIDE_STAT_SPLIT) := by
  intro t
  have hP := phaseError_only (v.peerRole r) peer
  have hg : ∀ x, sep F.SIDE_STAT_ROLE_CONFLICT x = true → (v.peerRole r).g x = v.g x := fun x hx => by
    rw [peerRole_other hr]
    exact (withFlt_g ..).trans ((g_put_sep (peered v r) _ hx).trans (withSide_g ..))
  have hconf : (v.peerRole r).on F.SIDE_STAT_ROLE_CONFLICT = false := by
    rw [peerRole_other hr]
    exact (withFlt_on ..).trans (on_put_clear _ rfl)
  have hparts : (v.peerRole r).side = { v.side with peerRole := some r } ∧ (v.peerRole r).tln = v.tln ∧ (v.peerRole r).cmp = v.cmp := by
    rw [peerRole_other hr]
    exact conflict_ended_parts (peered v r) F.SIDE_STAT_ROLE_CONFLICT 0 S.SIDE_ROLE
  obtain ⟨hside, htln, hcmp⟩ := hparts
  obtain ⟨n, hn⟩ := phaseError_side (v.peerRole r) peer
  have hn' : ((v.peerRole r).phaseError peer).side = { v.side with peerRole := some r, lockRun := n } := by rw [hn, hside]
  refine ⟨⟨n, (leaveSplit_side _).trans hn'⟩, ?_, ?_, fun hrun => ?_, fun h1 h2 h3 => ?_, fun h => ?_⟩
  · exact (on_congr (leaveSplit_g _ (by decide) rfl rfl rfl)).trans ((only_on hP (by decide)).trans (on_congr (hg _ rfl)))
  · exact (on_congr (leaveSplit_g _ (by decide) rfl rfl rfl)).trans ((only_on hP (by decide)).trans hconf)
  · refine (leaveSplit_g _ (by decide) rfl rfl rfl).trans ((phaseError_err _ _ (by rw [htln]; exact hrun)).trans ?_)
    rw [htln, hcmp]
  · have hleave := leaveSplit_leaves (s := (v.peerRole r).phaseError peer) (r := r)
      ((only_on hP (by decide)).trans ((on_congr (hg _ rfl)).trans h1)) (by rw [hn']; exact h2)
      ((only_on hP (by decide)).trans ((on_congr (hg _ rfl)).trans h3)) (by rw [hn'])
      (by rw [State.role, only_g hP (by decide), hg _ rfl]; exact hr)
    simp only [t, hleave]
    exact ⟨(withFlt_on ..).trans ((on_congr (event_g _ _ _ (by decide))).trans ((on_evt_sep _ rfl rfl).trans (on_put_clear _ rfl))),
      (withFlt_on ..).trans ((on_congr (event_g _ _ _ (by decide))).trans (on_evt_self _ rfl))⟩
  · have hstay := leaveSplit_stays (s := (v.peerRole r).phaseError peer) (.inr (.inl (by rw [hn']; exact h)))
    simp only [t, hstay]
    exact (only_on hP (by decide)).trans (on_congr (hg _ rfl))

/-- The same role on both lamps is a conflict, which splits. -/
theorem phase_same {v : State} {r : Nat} (hr : r = v.role) (hc : v.on F.SIDE_STAT_ROLE_CONFLICT = false) (he : v.on (F.UNIT_CTRL_ENABLE 0x0A) = true)
    (peer : Int) :
    let t := ((v.peerRole r).phaseError peer).leaveSplit
    t.on F.SIDE_STAT_ROLE_CONFLICT = true ∧ t.on F.SIDE_EVT_ROLE_CONFLICT = true ∧ t.on F.SIDE_STAT_SPLIT = true
      ∧ (v.defLevel S.SIDE_ROLE ≠ 0 → t.on (fltPend S.SIDE_ROLE) = true) := by
  intro t
  have hP := phaseError_only (v.peerRole r) peer
  have hpeer : v.peerRole r = ((((peered v r).raise S.SIDE_ROLE 0).put F.SIDE_STAT_ROLE_CONFLICT 1).evt F.SIDE_EVT_ROLE_CONFLICT).enterSplit := by
    rw [peerRole_same hr, if_neg (by simpa [peered] using hc)]
  have hrole : ((v.peerRole r).phaseError peer).role = v.role := by
    rw [State.role, only_g hP (by decide), peerRole_g v r (by decide) (by decide) rfl rfl rfl, State.role]
  have hstay : t = (v.peerRole r).phaseError peer := by
    refine leaveSplit_stays (.inr (.inr (.inr ?_)))
    obtain ⟨n, hn⟩ := phaseError_side (v.peerRole r) peer
    rw [hn, hrole, ← hr]
    exact peerRole_side v r
  rw [hstay]
  refine ⟨?_, ?_, ?_, fun hd => ?_⟩
  · refine (only_on hP (by decide)).trans ?_
    rw [hpeer]
    exact (on_congr (enterSplit_g _ (by decide) (by decide))).trans ((on_evt_sep _ rfl rfl).trans (on_put_set _ rfl))
  · refine (only_on hP (by decide)).trans ?_
    rw [hpeer]
    exact (on_congr (enterSplit_g _ (by decide) (by decide))).trans (on_evt_self _ rfl)
  · refine (only_on hP (by decide)).trans ?_
    rw [hpeer]
    refine enterSplit_on _ ((on_evt_sep _ rfl rfl).trans ((on_put_sep _ _ rfl).trans ((on_congr (raise_g _ _ _ (by decide))).trans he)))
  · refine (only_on hP (by decide)).trans ?_
    rw [hpeer]
    refine enterSplit_keeps_pend _ (by decide) ((on_evt_sep _ rfl rfl).trans ((on_put_sep _ _ rfl).trans (raise_pend _ _ (by decide) hd)))

/-- What an SSTAT frame leaves. -/
theorem sstat_reads (v : State) (flags : Nat) :
    let w := if flags % 2 = 0 then (v.put F.SIDE_STAT_PEER_RX_OK (flags % 2)).enterSplit else v.put F.SIDE_STAT_PEER_RX_OK (flags % 2)
    let t := (w.peerRole (flags / 8 % 2)).leaveSplit
    t.g F.SIDE_STAT_PEER_RX_OK = flags % 2 ∧ t.side.peerRole = some (flags / 8 % 2)
      ∧ (flags % 2 = 0 → v.on (F.UNIT_CTRL_ENABLE 0x0A) = true → t.on F.SIDE_STAT_SPLIT = true)
      ∧ ∀ {s0 : State}, s0.Fits (Foot.reaction [0x0A] [.side]) v → s0.Fits (Foot.reaction [0x0A] [.side]) t := by
  intro w t
  have hput : (v.put F.SIDE_STAT_PEER_RX_OK (flags % 2)).g F.SIDE_STAT_PEER_RX_OK = flags % 2 :=
    g_put_self (by decide) (by decide) (Nat.mod_lt _ (by decide))
  have hw : w.g F.SIDE_STAT_PEER_RX_OK = flags % 2 :=
    (ite_g (s := v.put F.SIDE_STAT_PEER_RX_OK (flags % 2)) (fun _ => enterSplit_g _ (by decide) (by decide)) (fun _ => rfl)).trans hput
  have hr : (w.peerRole (flags / 8 % 2)).g F.SIDE_STAT_PEER_RX_OK = flags % 2 := (peerRole_g w _ (by decide) (by decide) rfl rfl rfl).trans hw
  refine ⟨(leaveSplit_g _ (by decide) rfl rfl rfl).trans hr, (congrArg Side.peerRole (leaveSplit_side _)).trans (peerRole_side w _), fun h0 he => ?_,
    fun h0 => ?_⟩
  · have hsplit : w.on F.SIDE_STAT_SPLIT = true := by
      simp only [w, if_pos h0]
      exact enterSplit_on _ ((on_put_sep _ _ rfl).trans he)
    have hstay : t = w.peerRole (flags / 8 % 2) := leaveSplit_stays (.inr (.inr (.inl (by rw [State.on, hr, h0]; rfl))))
    rw [hstay]
    exact peerRole_keeps_split w _ hsplit
  · refine leaveSplit_fits _ (by decide) (peerRole_fits _ _ (by decide) ?_)
    exact fits_ite (enterSplit_fits _ (by decide) (put_fits _ (by decide) h0)) (put_fits _ (by decide) h0)

/-- Settles O21. -/
theorem sideLinkFrames : Obligations.SideLinkFrames := by
  unfold Obligations.SideLinkFrames
  refine ⟨?phase, ?seam, ?sstat, ?failed, ?crc⟩
  case phase =>
    intro s f hok h8 p flags
    have hH := heard_only s.begin
    have hrole : (phased (heard s.begin) p).role = s.role := (withSide_g ..).trans ((hH.fields F.SIDE_CTRL_ROLE (by decide)).trans rfl)
    have hrun := exec_phaseFrame hok h8
    rw [heard_ns, only_g hH (by decide)] at hrun
    have hg : ∀ x, clear [F.SIDE_STAT_RX_OK] x = true → (phased (heard s.begin) p).g x = s.g x := fun x hx => (withSide_g ..).trans ((only_g hH hx).trans rfl)
    have hrx : (phased (heard s.begin) p).on F.SIDE_STAT_RX_OK = true := (withSide_on ..).trans ((withSide_on ..).trans (on_put_set _ rfl))
    have hphases : (phased (heard s.begin) p).side.phases = s.side.phases + 1 := (phased_parts (heard s.begin) p).1
    have htln : (phased (heard s.begin) p).tln = s.tln := (phased_parts (heard s.begin) p).2.1.trans <| hH.parts.tln (by simp [Foot.of])
    have hcmp : (phased (heard s.begin) p).cmp = s.cmp := (phased_parts (heard s.begin) p).2.2.trans <| hH.parts.cmp (by simp [Foot.of])
    refine ⟨fun hr => ?_, fun hr hc he => ?_⟩
    · obtain ⟨⟨n, hn⟩, h1, h2, h3, h4, h5⟩ := phase_other (v := phased (heard s.begin) p) (r := flags % 2) (fun h => hr (h.trans hrole))
        ((s.ns : Int) - 2000 - s.begin.g F.SIDE_CTRL_DLY_NS)
      refine ⟨_, hrun, h1.trans hrx, h2, (congrArg Side.phases hn).trans hphases, congrArg Side.peerFrame hn, congrArg Side.peerPeriod hn,
        congrArg Side.peerLocked hn, fun ht => ?_, fun ha hb hp => ?_, fun hlt => ?_⟩
      · refine (h3 (by rw [htln]; exact ht)).trans ?_
        rw [htln, hcmp]
        rfl
      · exact h4 ((on_congr (hg _ (by decide))).trans ha) (by omega) ((on_congr (hg _ (by decide))).trans hp)
      · exact (h5 (by omega)).trans (on_congr (hg _ (by decide)))
    · obtain ⟨h1, h2, h3, h4⟩ := phase_same (v := phased (heard s.begin) p) (r := flags % 2) (hr.trans hrole.symm)
        ((on_congr (hg _ (by decide))).trans hc) ((on_congr (hg _ (by decide))).trans he) ((s.ns : Int) - 2000 - s.begin.g F.SIDE_CTRL_DLY_NS)
      refine ⟨_, hrun, h1, h2, h3, fun hd => h4 ?_⟩
      rwa [State.defLevel, on_congr (hg F.FLT_CTRL_MODE (by decide)), hg _ (by decide)]
  case seam =>
    intro s f hok h9 h16 hlen
    have hH := heard_only s.begin
    have hwin : (heard s.begin).beamWin = s.beamWin := by
      unfold State.beamWin
      rw [only_g hH (by decide)]
      rfl
    have hmem : ∀ a, (heard s.begin).byte a = s.byte a := fun a => congrArg (fun m => tabGet memDefault m a) (hH.parts.mem (by simp [Foot.of]))
    have hrun := exec_seamFrame hok h9 h16 hlen
    rw [hwin] at hrun
    refine ⟨_, hrun, congrArg (fun v : Glare => { v with store := some (seamFrame f.payload) }) (hH.parts.glare (by simp [Foot.of])), ?_, ?_, ?_⟩
    · intro i hi
      exact (setBytes_byte _ _ _ _).trans (by rw [if_pos (by rw [payload_length]; omega), Nat.add_sub_cancel_left])
    · intro a ha
      exact (setBytes_byte _ _ _ _).trans (by rw [if_neg (by rw [payload_length]; omega), hmem])
    · exact only_withGlare (by simp) (only_app (by simp) (by simp) (setBytes_only _ _ _) (only_mono (by simp) (by simp) hH))
  case sstat =>
    intro s f hok h10 flags
    have hH := heard_only s.begin
    have hen : (heard s.begin).on (F.UNIT_CTRL_ENABLE 0x0A) = s.on (F.UNIT_CTRL_ENABLE 0x0A) := (only_on hH (by decide)).trans rfl
    obtain ⟨h1, h2, h3, h4⟩ := sstat_reads (heard s.begin) flags
    refine ⟨_, exec_sstatFrame hok h10, h1, h2, fun h0 he => h3 h0 (hen.trans he), (h4 ?_).within⟩
    exact withSide_fits _ (by decide) (put_fits _ (by decide) (begin_fits s (by decide) (fits_refl _ s)))
  case failed => exact fun s f h => exec_side_failed h
  case crc =>
    intro s f hs hb hcrc habt hcode
    have hcheck : s.begin.checkSide f = (false, ((s.begin.withSide { s.side with phases := 0 }).evt F.SIDE_EVT_CRC_ERR).incSat F.SIDE_CNT_CRC) := by
      have h1 : ¬ (s.begin.sst ≠ 5 || s.begin.blockRunning 0x0A) = true := by
        simp [show s.begin.sst = 5 from hs, show s.begin.blockRunning 0x0A = false from hb]
      unfold State.checkSide
      rw [if_neg h1, if_neg (by simp [hcrc])]
      exact congrArg (Prod.mk false) (if_pos (by simp [hcrc, habt, hcode]))
    have hrun : exec (.phaseFrame f) s = .next (((s.begin.withSide { s.side with phases := 0 }).evt F.SIDE_EVT_CRC_ERR).incSat F.SIDE_CNT_CRC) :=
      (exec_side_failed (by rw [hcheck])).1.trans (by rw [hcheck])
    refine ⟨_, hrun, by simp [State.withSide], (on_incSat_sep _ rfl).trans (on_evt_self _ rfl), ?_⟩
    exact only_incSat (by simp) (by decide) (only_evt (by simp) (by simp [F.SIDE_EVT_CRC_ERR]) (by decide) (only_withSide (by simp) (only_refl _ _ _)))

end Sys2Proof.Proofs.SideLink
end

section
/-! PROOF. Kernels are loaded and verified (KernelLoading). -/

namespace Sys2Proof.Proofs.Kernels

open Sys2Proof.Machine Sys2Proof.Laws Sys2Proof.Proofs.Architecture Sys2Proof.Proofs.RegisterMap Sys2Proof.Proofs.Reading
  Sys2Proof.Proofs.GovernorSums

variable {s : State} {m : Master} {v : Word} {k : Nat}

/-- A write to GLR_KLOAD that the fabric lets through. -/
theorem exec_glrKload (hm : s.masterRuns m = true) (hw : s.mayWrite m 0x30 0x48 = true) :
    exec (.glrKload m v) s = .next (s.begin.kload v) :=
  congrArg Host.Outcome.next (masterWrite_special (s := s.begin) v hm hw (by decide) (by decide) (by decide) (by decide) (by decide) (by decide)
    (by decide))

theorem kload_taken (hv : v.toNat % 2 = 1) (ha : s.slotActive (v.toNat / 2 % 2) = false) :
    s.kload v = s.put (kstat (v.toNat / 2 % 2)) 1 :=
  if_pos (by simp [tbit, hv, ha])

theorem kload_left (h : v.toNat % 2 = 0 ∨ s.slotActive (v.toNat / 2 % 2) = true) : s.kload v = s :=
  if_neg (by rcases h with h | h <;> simp [tbit, h])

/-- A slot's state is one of two fields of KSTAT. -/
theorem kstat_eq (k : Nat) : kstat k = F.GLR_KSTAT_STATE0 ∨ kstat k = F.GLR_KSTAT_STATE1 := by
  unfold kstat
  split_ifs
  · exact .inl rfl
  · exact .inr rfl

theorem kstat_put (s : State) (k : Nat) {n : Nat} (hn : n < 4) : (s.put (kstat k) n).g (kstat k) = n := by
  rcases kstat_eq k with h | h <;> rw [h] <;> exact g_put_self (by decide) (by decide) hn

/-! ### The check of an image -/

/-- The image that a kernel slot holds. -/
def kernelImage (s : State) (k : Nat) : List Byte := s.bytes (s.beamWin + 0x8000 * k) 32768

/-- The reason of a signed image's refusal by its header, or 0. -/
def headerRej (h : List Byte) (profile : Nat) : Nat :=
  if ofLe (slice h 8 4) ≠ profile then 2
  else if ofLe (slice h 0 4) ≠ 0x4C594B31 || ofLe (slice h 4 2) ≠ 1 || !allZero h 6 2 || !allZero h 32 32
      || decide (64 + ofLe (slice h 12 4) ≤ ofLe (slice h 16 4)) then 3
  else if 31744 < ofLe (slice h 20 4) then 5
  else 0

theorem headerRej_le (h : List Byte) (profile : Nat) : headerRej h profile ≤ 5 := by
  unfold headerRej
  split_ifs <;> simp

/-- The check of an image: its length, its signature, its header. -/
theorem kernelRej_eq (s : State) (k : Nat) (ok : Bool) :
    s.kernelRej k ok =
      if 32768 < 64 + ofLe (slice (kernelImage s k) 12 4) + 192 then (4, s)
      else if (ok && s.sigFields (slice (kernelImage s k) (64 + ofLe (slice (kernelImage s k) 12 4)) 192)
          (64 + ofLe (slice (kernelImage s k) 12 4)) 1) = true
      then (headerRej (kernelImage s k) (s.fuse 1), s)
      else (1, s.evt F.SEC_EVT_SIG_FAIL) := by
  unfold State.kernelRej State.sigCheck
  extract_lets h code
  have himage : h = kernelImage s k := rfl
  clear_value h
  rw [← himage]
  refine if_congr Iff.rfl rfl ?_
  by_cases hsig : (ok && s.sigFields (slice h (64 + ofLe (slice h 12 4)) 192) (64 + ofLe (slice h 12 4)) 1) = true
  · rw [if_pos hsig, if_pos hsig, headerRej, apply_ite (Prod.mk · s), apply_ite (Prod.mk · s), apply_ite (Prod.mk · s)]
    rfl
  · rw [if_neg hsig, if_neg hsig]
    rfl

/-- What the check of an image leaves: the state as it was, or the event of a signature that failed with the reason 1. -/
theorem kernelRej_cases (s : State) (k : Nat) (ok : Bool) :
    (s.kernelRej k ok).1 ≤ 5 ∧ ((s.kernelRej k ok).2 = s ∨ (s.kernelRej k ok).1 = 1 ∧ (s.kernelRej k ok).2 = s.evt F.SEC_EVT_SIG_FAIL) := by
  have hle := headerRej_le (kernelImage s k) (s.fuse 1)
  rw [kernelRej_eq]
  split_ifs
  · exact ⟨Nat.le_succ 4, .inl rfl⟩
  · exact ⟨hle, .inl rfl⟩
  · exact ⟨Nat.le_add_left 1 4, .inr ⟨rfl, rfl⟩⟩

theorem kernelRej_only (s : State) (k : Nat) (ok : Bool) : s.Only [F.SEC_EVT_SIG_FAIL, F.UNIT_IRQ_STAT_EVT 0x78] [] (s.kernelRej k ok).2 := by
  rcases (kernelRej_cases s k ok).2 with h | ⟨-, h⟩ <;> rw [h]
  · exact only_refl _ _ _
  · exact only_evt (by simp) (by simp [F.SEC_EVT_SIG_FAIL]) (by decide) (only_refl _ _ _)

theorem begin_bytes (s : State) (a n : Nat) : s.begin.bytes a n = s.bytes a n := by
  induction n generalizing a with
  | zero => rfl
  | succ n ih => simp only [State.bytes, begin_byte, ih]

/-- The start of a command does not touch what the check reads. -/
theorem kernelRej_begin (s : State) (k : Nat) (ok : Bool) : (s.begin.kernelRej k ok).1 = (s.kernelRej k ok).1 := by
  have himage : kernelImage s.begin k = kernelImage s k := by simp only [kernelImage, begin_bytes, State.beamWin, begin_g]
  rw [kernelRej_eq, kernelRej_eq, himage]
  simp only [show s.begin.fuse 1 = s.fuse 1 from rfl, show ∀ b n c, s.begin.sigFields b n c = s.sigFields b n c from fun _ _ _ => rfl,
    apply_ite Prod.fst]

/-- The end of a check: the slot is READY, or REJECTED with the reason. -/
def verified (s : State) (k r : Nat) : State :=
  if r = 0 then s.put (kstat k) 2 else ((s.put (kstat k) 3).put F.GLR_KSTAT_REJ r).evt F.GLR_EVT_KERN_REJ

theorem exec_kernelVerifyDone (hk : k < 2) (h : s.g (kstat k) = 1) (ok : Bool) :
    exec (.kernelVerifyDone k ok) s = .next (verified (s.begin.kernelRej k ok).2 k (s.kernelRej k ok).1) := by
  rw [← kernelRej_begin]
  change execKernelVerifyDone k ok s = _
  unfold execKernelVerifyDone
  simp [hk, h, verified]

theorem verified_only (s : State) (k r : Nat) :
    s.Only [kstat k, F.GLR_KSTAT_REJ, F.GLR_EVT_KERN_REJ, F.UNIT_IRQ_STAT_EVT 0x30] [] (verified s k r) := by
  have hk : (kstat k).hi < 32 := by rcases kstat_eq k with h | h <;> rw [h] <;> decide
  exact only_ite (fun _ => only_put _ (by simp) hk (only_refl _ _ _))
    (fun _ => only_evt (by simp) (by simp [F.GLR_EVT_KERN_REJ]) (by decide)
      (only_put _ (by simp) (by decide) (only_put _ (by simp) hk (only_refl _ _ _))))

theorem verified_ready (s : State) (k : Nat) : (verified s k 0).g (kstat k) = 2 ∧ s.Only [kstat k] [] (verified s k 0) :=
  ⟨kstat_put s k (by decide), only_put _ (by simp) (by rcases kstat_eq k with h | h <;> rw [h] <;> decide) (only_refl _ _ _)⟩

theorem verified_rejected (s : State) (k : Nat) {r : Nat} (h0 : r ≠ 0) (h5 : r ≤ 5) :
    (verified s k r).g (kstat k) = 3 ∧ (verified s k r).g F.GLR_KSTAT_REJ = r ∧ (verified s k r).on F.GLR_EVT_KERN_REJ = true := by
  have hrej : r < 2 ^ (F.GLR_KSTAT_REJ.hi + 1 - F.GLR_KSTAT_REJ.lo) := Nat.lt_of_le_of_lt h5 (by decide)
  rw [verified, if_neg h0]
  refine ⟨?_, ?_, on_evt_self _ rfl⟩
  · refine (?_ : _ = ((s.put (kstat k) 3).g (kstat k))).trans (kstat_put s k (by decide))
    rcases kstat_eq k with h | h <;> rw [h] <;> exact (g_evt_sep _ rfl rfl).trans (g_put_sep _ _ rfl)
  · exact (g_evt_sep _ rfl rfl).trans (g_put_self (by decide) (by decide) hrej)

/-- A signature that fails, of an image that fits its slot. -/
theorem kernelRej_unsigned (h : 64 + ofLe (slice (s.bytes (s.beamWin + 0x8000 * k) 32768) 12 4) + 192 ≤ 32768) :
    s.kernelRej k false = (1, s.evt F.SEC_EVT_SIG_FAIL) :=
  (kernelRej_eq s k false).trans ((if_neg (Nat.not_lt.2 h)).trans (if_neg (by simp)))

/-- Settles O30, along the two writes of a load request and the outcomes of the check. -/
theorem kernelLoading : Obligations.KernelLoading := by
  unfold Obligations.KernelLoading
  refine ⟨?load, ?left, ?verify, ?long, ?signature, ?idle⟩
  case load =>
    intro s m v hm hw hv ha
    refine ⟨_, (exec_glrKload hm hw).trans (congrArg Host.Outcome.next (kload_taken (s := s.begin) hv ha)), kstat_put _ _ (by decide), ?_⟩
    exact only_put _ (by simp) (by rcases kstat_eq (v.toNat / 2 % 2) with h | h <;> rw [h] <;> decide) (only_refl _ _ _)
  case left =>
    intro s m v hm hw h
    exact (exec_glrKload hm hw).trans (congrArg Host.Outcome.next (kload_left (s := s.begin) h))
  case verify =>
    intro s k ok hk h1
    have hcheck := kernelRej_only s.begin k ok
    obtain ⟨hle, hcases⟩ := kernelRej_cases s.begin k ok
    rw [kernelRej_begin] at hle hcases
    refine ⟨_, exec_kernelVerifyDone hk h1 ok, fun h0 => ?_, fun h0 => verified_rejected _ k h0 hle, ?_⟩
    · have hsame : (s.begin.kernelRej k ok).2 = s.begin := hcases.resolve_right (fun h => by omega)
      rw [h0, hsame]
      exact verified_ready s.begin k
    · exact only_app (by simp) (by simp) (verified_only _ k _) (only_mono (by simp) (by simp) hcheck)
  case long => exact fun s k h ok => congrArg Prod.fst ((kernelRej_eq s k ok).trans (if_pos h))
  case signature =>
    intro s k h
    rw [kernelRej_unsigned h]
    exact ⟨rfl, on_evt_self s rfl⟩
  case idle =>
    intro s k ok h
    exact congrArg Host.Outcome.next (if_neg (by simp [h]))

end Sys2Proof.Proofs.Kernels
end

section
/-! PROOF. The lanes of the lamp: discovery, self-refresh and FSYNC_IN (LaneDiscovery), over-temperature (LaneTemperature). -/

namespace Sys2Proof.Proofs.LampLanes

open Sys2Proof.Machine Sys2Proof.Laws Sys2Proof.Proofs.Architecture Sys2Proof.Proofs.Reading Sys2Proof.Proofs.GovernorSums
  Sys2Proof.Proofs.LampReactions

variable {s t u v : State} {n i : Nat}

/-! ### Lanes through the operations of a lane -/

theorem put_lane (s : State) (x : Fld) (w n : Nat) : (s.put x w).lane n = s.lane n := by simp [State.lane]

theorem evt_lane (s : State) (x : Fld) (n : Nat) : (s.evt x).lane n = s.lane n := by simp [State.lane]

theorem modLane_lanes_length (s : State) (k : Nat) (f : Lane → Lane) : (s.modLane k f).lanes.length = s.lanes.length := by
  simp [State.modLane, State.withLanes]

theorem shaped_lanes (h : s.shaped = true) : s.lanes.length = 8 := by
  simp only [State.shaped, Bool.and_eq_true, decide_eq_true_eq] at h
  tauto

theorem shaped_flx (h : s.shaped = true) : s.flx.tiles.length = 8 := by
  simp only [State.shaped, Flx.shaped, Bool.and_eq_true, decide_eq_true_eq] at h
  tauto

theorem tlst_put_state (s : State) (n : Nat) {w : Nat} (h : w < 16) : (s.put (F.TL_STAT_STATE n) w).tlst n = w :=
  g_put_self (by simp [F.TL_STAT_STATE]) (by simp [F.TL_STAT_STATE]) (by simpa [F.TL_STAT_STATE] using h)

theorem laneAt_of_rests {w : Nat} (h : LaneRests v t n) (hv : v.tlst n = w) (hl : v.on F.SAF_STAT_LOCKED = s.on F.SAF_STAT_LOCKED) :
    s.laneAt t n w := by
  rcases h with ⟨h, -⟩ | ⟨h, -, hs, ht⟩
  · exact .inl (h.trans hv)
  · exact .inr ⟨h, hl.symm.trans hs, ht⟩

/-- What a lane keeps, whether it rests or not. -/
theorem rests_keeps (h : LaneRests v t n) : (t.lane n).packet = (v.lane n).packet ∧ (t.lane n).dirty = (v.lane n).dirty
    ∧ ((v.lane n).queue = [] → (t.lane n).queue = []) ∧ ((v.lane n).sending = none → (t.lane n).sending = none) := by
  rcases h with ⟨-, h⟩ | ⟨-, h, -⟩ <;> rw [h]
  · exact ⟨rfl, rfl, id, id⟩
  · exact ⟨rfl, rfl, fun _ => rfl, fun _ => rfl⟩

/-! ### The fault of a tile -/


theorem tile_page (hc : srcCode i / 256 = 0x50) (hne : i ≠ 53 ∧ i ≠ 25 ∧ i ≠ 26) (n : Nat) : groupPage (srcPage i n) = 0x50 := by
  have hp : srcPage i n = 0x51 + n % 8 := by simp [srcPage, hc, hne]
  rw [hp, groupPage, if_neg (by omega), if_neg (by omega), if_pos (by omega)]

theorem tileFault_reacts {P : State → Prop} (h : Reacts s P) (i n : Nat) (masked : Bool)
    (hl : u.on F.SAF_STAT_LOCKED = false → s.on F.SAF_STAT_LOCKED = false) (hu : P u) (hc : ∀ w, P (u.put F.RST_BLK_STAT_CONSEQ_CNT w)) :
    P (u.tileFault i n masked) := by
  unfold State.tileFault
  split_ifs
  · exact h.conseq i n 0 hu hc
  · exact h.raiseTrig i n 11 n true hl hu
  · exact h.raise i n hl hu

theorem tileFault_lamp (s : State) (i n : Nat) (masked : Bool) {f : Fld} (hf : lampField f = true) (hc : sep F.RST_BLK_STAT_CONSEQ_CNT f = true) :
    (s.tileFault i n masked).g f = s.g f :=
  tileFault_reacts (field_reacts s hf _) i n masked id rfl (fun _ => g_put_sep _ _ hc)

theorem tileFault_rests (s : State) (i k : Nat) (masked : Bool) (hn : n < 8) : LaneRests s (s.tileFault i k masked) n :=
  tileFault_reacts (lane_reacts s hn) i k masked id (laneRests_refl s n) (fun _ => .inl ⟨g_put_sep _ _ rfl, put_lane ..⟩)

theorem tileFault_pend (s : State) (n : Nat) (masked : Bool) (hi : i < 75) (hd : s.defLevel i ≠ 0)
    (hq : masked = false ∨ (s.quiet 0x50 = false ∧ s.quiet (0x51 + n) = false)) : (s.tileFault i n masked).on (fltPend i) = true := by
  unfold State.tileFault
  rw [if_neg (by rcases hq with h | ⟨h, h'⟩ <;> simp [*])]
  split_ifs
  · exact raiseTrig_pend _ _ _ _ _ hi hd
  · exact raise_pend _ _ hi hd

theorem tileFault_unmasked_fits {g : Foot} {s0 : State} (s : State) (i n : Nat) (hq : g.hasUnit (groupPage (srcPage i n)) = true)
    (hle : (Foot.of [0x00, 0x40, 0x50, 0x68, 0x70, 0x71] [.flt, .evr, .saf, .lanes]).le g = true) (h0 : s0.Fits g s) :
    s0.Fits g (s.tileFault i n false) := by
  unfold State.tileFault
  rw [if_neg (by simp)]
  split_ifs
  · exact raiseTrig_fits _ _ _ _ _ _ hq hle h0
  · exact raise_fits _ _ _ hq hle h0

/-- A fault that is CORRECTED at most takes no trigger. -/
theorem raise_low (s : State) (n : Nat) (hd : s.defLevel i ≤ 1) : s.raise i n = s.raiseWith i n 0 false true := by
  unfold State.raise State.raiseWith
  extract_lets d esc e fl s1
  split
  extract_lets s3 s4 s5 s6
  have he : e ≠ 3 := by
    show (if esc then min 3 (d + 1) else d) ≠ 3
    split_ifs <;> omega
  simp [he]

/-- Such a fault leaves every lane as it was. -/
theorem raise_low_lane (s : State) (n k : Nat) (hd : s.defLevel i ≤ 1) :
    (s.raise i k).tlst n = s.tlst n ∧ (s.raise i k).lane n = s.lane n := by
  rw [raise_low s k hd]
  have hlock : (s.put F.SAF_STAT_LOCKED 1).on F.SAF_STAT_LOCKED = true := on_put_set _ rfl
  have hR : Reacts (s.put F.SAF_STAT_LOCKED 1) (fun u => u.tlst n = s.tlst n ∧ u.lane n = s.lane n) :=
    ⟨fun {u} x w hx hu => ⟨(tlst_put u w (reacts_apart_state n hx).2 (reacts_apart_state n hx).1).trans hu.1, (put_lane ..).trans hu.2⟩,
      fun _ hu => hu, fun _ hu => hu, fun _ _ hu => hu, fun _ _ hs => absurd hlock (by simp [hs]), fun _ _ hs => absurd hlock (by simp [hs]),
      fun _ _ hs => absurd hlock (by simp [hs])⟩
  exact hR.core.raiseCore i k 0 false ⟨rfl, rfl⟩

/-! ### Over-temperature -/

/-- A tile that is shut down, before its fault is raised. -/
def shut (s : State) (n : Nat) : State :=
  let v := (((s.put (F.TL_STAT_STATE n) 7).put (F.TL_STAT_SHUT n) 1).dropWork n).dirtyAll n
  let v := (v.startCtl n .shutdown).modLane n (fun l => { l with coolSince := none, otRun := 0 })
  ((v.evt (F.TL_EVT_OT_SHUT n)).evt F.TLN_EVT_OT_SHUT).fluxAway n

def shutLane (n : Nat) (l : Lane) : Lane :=
  { l with queue := [], sending := none, due := [], viaService := false, dirty := List.range 256, packet := ctlPacket n .shutdown,
           ctl := some .shutdown, ctlSends := 1, ctlWait := 0, coolSince := none, otRun := 0 }

theorem shutLane_dirty (n : Nat) (l : Lane) : (shutLane n l).dirty = List.range 256 := by simp only [shutLane]

theorem shutdown_of (h : s.tlst n = 5 ∨ s.tlst n = 6) : s.shutdown n = (shut s n).tileFault S.TL_OT n false :=
  if_pos (by simpa using h)

theorem dropWork_lane (h : n < s.lanes.length) :
    (s.dropWork n).lane n = { s.lane n with queue := [], sending := none, due := [], ctl := none, viaService := false } :=
  modLane_lane_same s (fun l => { l with queue := [], sending := none, due := [], ctl := none, viaService := false }) h

theorem dropWork_lanes (s : State) (n : Nat) : (s.dropWork n).lanes.length = s.lanes.length :=
  modLane_lanes_length s n (fun l => { l with queue := [], sending := none, due := [], ctl := none, viaService := false })

theorem dirtyAll_lane (h : n < s.lanes.length) : (s.dirtyAll n).lane n = { s.lane n with dirty := List.range 256 } := modLane_lane_same s _ h

theorem startCtl_lane (h : n < s.lanes.length) (c : Ctl) :
    (s.startCtl n c).lane n = { s.lane n with packet := ctlPacket n c, ctl := some c, ctlSends := 1, ctlWait := 0 } := by
  unfold State.startCtl State.sendCtl
  rw [modLane_lane_same _ _ (by rwa [modLane_lanes_length]), modLane_lane_same _ _ h]

theorem startCtl_lanes (s : State) (n : Nat) (c : Ctl) : (s.startCtl n c).lanes.length = s.lanes.length :=
  (modLane_lanes_length ..).trans (modLane_lanes_length ..)

theorem shut_lane (h : n < s.lanes.length) : (shut s n).lane n = shutLane n (s.lane n) := by
  have h2 : n < ((s.put (F.TL_STAT_STATE n) 7).put (F.TL_STAT_SHUT n) 1).lanes.length := by simpa using h
  have h3 : n < (((s.put (F.TL_STAT_STATE n) 7).put (F.TL_STAT_SHUT n) 1).dropWork n).lanes.length := by rwa [dropWork_lanes]
  have h4 : n < ((((s.put (F.TL_STAT_STATE n) 7).put (F.TL_STAT_SHUT n) 1).dropWork n).dirtyAll n).lanes.length := by
    rwa [State.dirtyAll, modLane_lanes_length]
  refine (evt_lane ..).trans ((evt_lane ..).trans ?_)
  rw [modLane_lane_same _ _ (by rwa [startCtl_lanes]), startCtl_lane h4, dirtyAll_lane h3, dropWork_lane h2, put_lane, put_lane, shutLane]

/-- The fields that a shut-down leaves. -/
theorem shut_g (s : State) (n : Nat) {f : Fld} (h1 : sep (F.TL_STAT_STATE n) f = true) (h2 : sep (F.TL_STAT_SHUT n) f = true)
    (h3 : sep (F.TL_EVT_OT_SHUT n) f = true) (h4 : sep F.TLN_EVT_OT_SHUT f = true) (h5 : sep (F.UNIT_IRQ_STAT_EVT (0x51 + n % 8)) f = true)
    (h6 : sep (F.UNIT_IRQ_STAT_EVT 0x50) f = true) : (shut s n).g f = s.g f :=
  (g_evt_sep (f := F.TLN_EVT_OT_SHUT) _ h4 h6).trans ((g_evt_sep (f := F.TL_EVT_OT_SHUT n) _ h3 h5).trans
    ((g_put_sep (f := F.TL_STAT_SHUT n) (s.put (F.TL_STAT_STATE n) 7) 1 h2).trans (g_put_sep s 7 h1)))

theorem shut_tlst (s : State) (n : Nat) : (shut s n).tlst n = 7 :=
  (g_evt_sep (f := F.TLN_EVT_OT_SHUT) (x := F.TL_STAT_STATE n) _ rfl rfl).trans ((g_evt_sep (f := F.TL_EVT_OT_SHUT n) (x := F.TL_STAT_STATE n) _ rfl rfl).trans
    ((g_put_sep (f := F.TL_STAT_SHUT n) (x := F.TL_STAT_STATE n) (s.put (F.TL_STAT_STATE n) 7) 1 rfl).trans (tlst_put_state s n (by decide))))

theorem shut_shows (s : State) (n : Nat) : (shut s n).on (F.TL_STAT_SHUT n) = true ∧ (shut s n).on (F.TL_EVT_OT_SHUT n) = true
    ∧ (shut s n).on F.TLN_EVT_OT_SHUT = true :=
  ⟨(on_evt_sep (f := F.TLN_EVT_OT_SHUT) (x := F.TL_STAT_SHUT n) _ rfl rfl).trans
      ((on_evt_sep (f := F.TL_EVT_OT_SHUT n) (x := F.TL_STAT_SHUT n) _ rfl rfl).trans (on_put_set (f := F.TL_STAT_SHUT n) (s.put (F.TL_STAT_STATE n) 7) rfl)),
    (on_evt_sep (f := F.TLN_EVT_OT_SHUT) (x := F.TL_EVT_OT_SHUT n) _ rfl rfl).trans (on_evt_self (f := F.TL_EVT_OT_SHUT n) _ rfl),
    on_evt_self (f := F.TLN_EVT_OT_SHUT) _ rfl⟩

theorem shut_fits {s0 : State} (s : State) (n : Nat) (h0 : s0.Fits (Foot.reaction [] [.cmp, .flx]) s) :
    s0.Fits (Foot.reaction [] [.cmp, .flx]) (shut s n) := by
  have hu : (Foot.reaction [] [.cmp, .flx]).hasUnit (groupPage (0x51 + n % 8)) = true := tl_unit (by decide)
  refine fluxAway_fits _ _ (by decide) (evt_fits (by decide) (evt_fits hu ?_))
  refine modLane_fits _ _ _ (by decide) (startCtl_fits _ _ _ (by decide) (dirtyAll_fits _ _ (by decide) (dropWork_fits _ _ (by decide) ?_)))
  exact put_fits _ hu (put_fits _ hu h0)

theorem shut_away (h : n < s.flx.tiles.length) : ((shut s n).flxTile n).away = true := by
  have hset : ∀ (u : State), n < u.flx.tiles.length → ((u.fluxAway n).flxTile n).away = true := fun u hu => by
    simp [State.fluxAway, State.modFlx, State.flxTile, State.withFlx, List.getD_eq_getElem?_getD, hu]
  refine hset _ ?_
  simpa [State.startCtl, State.sendCtl, State.dirtyAll, State.dropWork, State.modLane, State.withLanes, State.withCmp] using h

theorem lamp_places : ∀ n < 8, lampField (F.TL_STAT_SHUT n) = true ∧ lampField (F.TL_EVT_OT_SHUT n) = true := by decide

/-- A tile that has cooled down, in service again. -/
def cooled (s : State) (n : Nat) : State :=
  let v := (((s.put (F.TL_STAT_STATE n) 5).put (F.TL_STAT_SHUT n) 0).dirtyAll n).startCtl n .resume
  ((v.evt (F.TL_EVT_OT_CLEAR n)).condEnd S.TL_OT n).modLane n (fun l => { l with coolSince := none, rseq := 0, missRun := 0 })

theorem only_modLane {fs : List Fld} {ps : List Part} {k : Nat} {f : Lane → Lane} (hm : Part.lanes ∈ ps) (h : s.Only fs ps u) :
    s.Only fs ps (u.modLane k f) := only_withLanes hm h

theorem only_startCtl {fs : List Fld} {ps : List Part} {k : Nat} {c : Ctl} (hm : Part.lanes ∈ ps) (h : s.Only fs ps u) :
    s.Only fs ps (u.startCtl k c) := only_modLane hm (only_modLane hm h)

theorem condEnd_lane (u : State) (i inst n : Nat) : (u.condEnd i inst).lane n = u.lane n := rfl

theorem cooled_lane (h : n < s.lanes.length) :
    (cooled s n).lane n = { s.lane n with dirty := List.range 256, packet := ctlPacket n .resume, ctl := some .resume, ctlSends := 1, ctlWait := 0,
                                          coolSince := none, rseq := 0, missRun := 0 } := by
  have h2 : n < ((s.put (F.TL_STAT_STATE n) 5).put (F.TL_STAT_SHUT n) 0).lanes.length := by simpa using h
  have h3 : n < (((s.put (F.TL_STAT_STATE n) 5).put (F.TL_STAT_SHUT n) 0).dirtyAll n).lanes.length := by rwa [State.dirtyAll, modLane_lanes_length]
  have hl : n < (((((s.put (F.TL_STAT_STATE n) 5).put (F.TL_STAT_SHUT n) 0).dirtyAll n).startCtl n .resume).evt (F.TL_EVT_OT_CLEAR n)).lanes.length := by
    rwa [evt_lanes, startCtl_lanes]
  have hev := evt_lane ((((s.put (F.TL_STAT_STATE n) 5).put (F.TL_STAT_SHUT n) 0).dirtyAll n).startCtl n .resume) (F.TL_EVT_OT_CLEAR n) n
  rw [startCtl_lane h3, dirtyAll_lane h2, put_lane, put_lane] at hev
  refine (modLane_lane_same (State.condEnd _ S.TL_OT n) _ hl).trans ?_
  rw [condEnd_lane, hev]

theorem cooled_held (s : State) (n : Nat) : (S.TL_OT, n) ∉ (cooled s n).flt.held := by
  have hend : ∀ u : State, (S.TL_OT, n) ∉ (u.condEnd S.TL_OT n).flt.held := fun u => by simp [State.condEnd, State.withFlt]
  exact hend _

theorem cooled_only (s : State) (hn : n < 8) :
    s.Only [F.TL_STAT_STATE n, F.TL_STAT_SHUT n, F.TL_EVT_OT_CLEAR n, F.UNIT_IRQ_STAT_EVT (0x51 + n)] [.lanes, .flt] (cooled s n) := by
  have hpage : F.UNIT_IRQ_STAT_EVT (F.TL_EVT_OT_CLEAR n).page = F.UNIT_IRQ_STAT_EVT (0x51 + n) := by simp [F.TL_EVT_OT_CLEAR, Nat.mod_eq_of_lt hn]
  unfold cooled
  refine only_modLane (by simp) (only_withFlt (by simp) (only_evt (x := F.TL_EVT_OT_CLEAR n) (by simp) (by rw [hpage]; simp) (by simp [F.TL_EVT_OT_CLEAR]) ?_))
  refine only_startCtl (by simp) (only_modLane (by simp) ?_)
  exact only_put _ (by simp) (by simp [F.TL_STAT_SHUT]) (only_put _ (by simp) (by simp [F.TL_STAT_STATE]) (only_refl _ _ _))

/-- Settles O34. -/
theorem laneTemperature : Obligations.LaneTemperature := by
  unfold Obligations.LaneTemperature
  refine ⟨?shut, ?other, ?cool, ?stays⟩
  case shut =>
    intro s n hn hst hshape
    have hlen : n < s.begin.lanes.length := by rw [begin_lanes, shaped_lanes hshape]; exact hn
    have hrun : exec (.tempInvalidTimeout n) s = .next ((shut s.begin n).tileFault S.TL_OT n false) :=
      congrArg Host.Outcome.next ((if_pos hn).trans (shutdown_of (s := s.begin) hst))
    have hrest := tileFault_rests (shut s.begin n) S.TL_OT n false hn
    obtain ⟨hshut, hevt, htln⟩ := shut_shows s.begin n
    have hlane := shut_lane hlen
    have hkeep : ∀ {f}, lampField f = true → sep F.RST_BLK_STAT_CONSEQ_CNT f = true → ((shut s.begin n).tileFault S.TL_OT n false).on f = (shut s.begin n).on f :=
      fun hf hc => on_congr (tileFault_lamp _ _ _ _ hf hc)
    have hq : groupPage (srcPage S.TL_OT n) = 0x50 := tile_page rfl (by decide) n
    have hdef : (shut s.begin n).defLevel S.TL_OT = s.defLevel S.TL_OT := by
      rw [State.defLevel, State.defLevel, on_congr (shut_g s.begin n (f := F.FLT_CTRL_MODE) rfl rfl rfl rfl rfl rfl),
        shut_g s.begin n (f := fltSev S.TL_OT) rfl rfl rfl rfl rfl rfl]
      rfl
    have hcut : (shut s.begin n).cutoffTile n = s.cutoffTile n := by
      rw [State.cutoffTile, shut_g s.begin n (f := F.GOV_PROF_CUTOFF_TILES) rfl rfl rfl rfl rfl rfl]
      rfl
    refine ⟨_, hrun, laneAt_of_rests hrest (shut_tlst _ _) ((on_congr (shut_g s.begin n rfl rfl rfl rfl rfl rfl)).trans rfl),
      (hkeep (lamp_places n hn).1 rfl).trans hshut, (hkeep (lamp_places n hn).2 rfl).trans hevt, (hkeep (by decide) rfl).trans htln, ?_, ?_, ?_, ?_,
      fun hd hc => ?_, ?_, fun hd => tileFault_pend _ n false (by decide) (by rwa [hdef]) (.inl rfl), ?_⟩
    · exact (rests_keeps hrest).1.trans (congrArg Lane.packet hlane)
    · exact (rests_keeps hrest).2.1.trans ((congrArg Lane.dirty hlane).trans (shutLane_dirty ..))
    · exact (rests_keeps hrest).2.2.1 (congrArg Lane.queue hlane)
    · exact (rests_keeps hrest).2.2.2 (congrArg Lane.sending hlane)
    · have hlow : (shut s.begin n).tileFault S.TL_OT n false = (shut s.begin n).raise S.TL_OT n :=
        (if_neg (by simp)).trans (if_neg (by rw [hcut, hc]; simp))
      obtain ⟨h1, h2⟩ := raise_low_lane (shut s.begin n) n n (by rwa [hdef])
      rw [hlow]
      exact ⟨h1.trans (shut_tlst _ _), (congrArg Lane.ctl h2).trans (congrArg Lane.ctl hlane)⟩
    · have hflx := within_flx (tileFault_unmasked_fits (g := Foot.reaction [] []) (shut s.begin n) S.TL_OT n (by rw [hq]; decide) (by decide) (fits_refl ..)).within rfl rfl
      rw [State.flxTile, hflx]
      exact shut_away (by rw [begin_flx, shaped_flx hshape]; exact hn)
    · refine (tileFault_unmasked_fits _ S.TL_OT n (by rw [hq]; decide) (by decide) (shut_fits s.begin n ?_)).within
      exact begin_fits s (by decide) (fits_refl _ s)
  case other =>
    intro s n hn h5 h6
    exact congrArg Host.Outcome.next ((if_pos hn).trans (if_neg (by simpa using ⟨h5, h6⟩)))
  case cool =>
    intro s n hn hst hcool hshape
    have hlen : n < s.begin.lanes.length := by rw [begin_lanes, shaped_lanes hshape]; exact hn
    refine ⟨cooled s.begin n, ?_, ?_, ?_, ?_, cooled_lane hlen, ?_, ?_⟩
    · refine congrArg Host.Outcome.next (if_pos ?_)
      rw [show s.begin.tlst n = s.tlst n from rfl, show s.begin.lane n = s.lane n from rfl]
      simp [hn, hst, hcool]
    · exact (g_evt_sep (f := F.TL_EVT_OT_CLEAR n) (x := F.TL_STAT_STATE n) _ rfl rfl).trans
        ((g_put_sep (f := F.TL_STAT_SHUT n) (x := F.TL_STAT_STATE n) _ 0 rfl).trans (tlst_put_state _ n (by decide)))
    · exact (on_evt_sep (f := F.TL_EVT_OT_CLEAR n) (x := F.TL_STAT_SHUT n) _ rfl rfl).trans (on_put_clear (f := F.TL_STAT_SHUT n) _ rfl)
    · exact on_evt_self (f := F.TL_EVT_OT_CLEAR n) _ rfl
    · exact cooled_held s.begin n
    · exact cooled_only s.begin hn
  case stays =>
    intro s n hn h
    exact congrArg Host.Outcome.next (if_neg (by
      rw [show s.begin.lane n = s.lane n from rfl, show s.begin.tlst n = s.tlst n from rfl]
      rcases h with h | h <;> simp [h]))

/-! ### Discovery -/

theorem laneActive_lane (h : n < s.lanes.length) : (s.laneActive n).lane n =
    { s.lane n with everActive := true, viaService := false, rseq := 0, dirty := List.range 256, missRun := 0, noAlive := 0 } := by
  have h2 : n < (s.put (F.TL_STAT_STATE n) 5).lanes.length := by simpa using h
  refine (modLane_lane_same (s.put (F.TL_STAT_STATE n) 5) _ h2).trans ?_
  rw [put_lane]

theorem laneActive_other {k : Nat} (h : k ≠ n) : (s.laneActive n).lane k = s.lane k :=
  (modLane_lane_other _ _ h.symm).trans (put_lane ..)

theorem state_hi (n : Nat) : (F.TL_STAT_STATE n).hi < 32 := by simp [F.TL_STAT_STATE]

/-- A lane whose tile is lost, off the bus. -/
theorem laneFailed_lane (h : n < s.lanes.length) : (s.laneFailed n).lane n =
    { s.lane n with queue := [], sending := none, due := [], ctl := none, viaService := false, assigned := false, noAlive := 0, missRun := 0 } := by
  have h2 : n < (s.put (F.TL_STAT_STATE n) 8).lanes.length := by simpa using h
  have h3 : n < ((s.put (F.TL_STAT_STATE n) 8).dropWork n).lanes.length := by rwa [dropWork_lanes]
  refine (modLane_lane_same ((s.put (F.TL_STAT_STATE n) 8).dropWork n) _ h3).trans ?_
  rw [dropWork_lane h2, put_lane]

/-- Whether the table has the lane or not, it is no more assigned and has nothing to push. -/
theorem laneFailed_off (s : State) (n : Nat) : ((s.laneFailed n).lane n).assigned = false ∧ ((s.laneFailed n).lane n).queue = [] := by
  by_cases h : n < s.lanes.length
  · rw [laneFailed_lane h]
    exact ⟨rfl, rfl⟩
  · have hl : (s.laneFailed n).lanes.length = s.lanes.length := (modLane_lanes_length ..).trans ((dropWork_lanes ..).trans (by simp))
    have hd := dark_beyond (s.laneFailed n) (n := n) (by rwa [hl])
    rw [← hd]
    exact ⟨rfl, rfl⟩

theorem laneFailed_g (s : State) (n : Nat) {f : Fld} (h : sep (F.TL_STAT_STATE n) f = true) : (s.laneFailed n).g f = s.g f := g_put_sep s 8 h

theorem laneFailed_tlst (s : State) (n : Nat) : (s.laneFailed n).tlst n = 8 := tlst_put_state s n (by decide)

/-- A lane given up for its own event and fault: failed, with the event set, its fault raised after. -/
theorem failed_then {w : State} {e : Fld} (hw : w = (s.laneFailed n).evt e) (h1 : sep e (F.TL_STAT_STATE n) = true)
    (h2 : sep (F.UNIT_IRQ_STAT_EVT e.page) (F.TL_STAT_STATE n) = true) :
    w.tlst n = 8 ∧ (w.lane n).assigned = false ∧ (w.lane n).queue = [] := by
  obtain ⟨ha, hq⟩ := laneFailed_off s n
  subst hw
  exact ⟨(g_evt_sep _ h1 h2).trans (laneFailed_tlst s n), by rw [evt_lane]; exact ha, by rw [evt_lane]; exact hq⟩

theorem rests_off (h : LaneRests v t n) (ha : (v.lane n).assigned = false) : (t.lane n).assigned = false := by
  rcases h with ⟨-, h⟩ | ⟨-, h, -⟩ <;> rw [h]
  · exact ha
  · rfl

/-- What a lane that is given up leaves, of a tile that has never been ACTIVE. -/
def neverUp (s : State) (n : Nat) : State := (s.laneFailed n).evt (F.TL_EVT_TRN_FAIL n)

/-- What a lane that is given up leaves, of a tile that has been ACTIVE. -/
def goneTile (s : State) (n : Nat) : State := ((s.laneFailed n).evt (F.TL_EVT_TILE_LOST n)).evt F.TLN_EVT_TILE_LOST

theorem discoveryFailed_eq (s : State) (n : Nat) :
    s.discoveryFailed n = if (s.lane n).everActive then (goneTile s n).tileFault S.TL_TILE_LOST n false else (neverUp s n).raise S.TL_TRN_FAIL n := rfl

theorem failure_places : ∀ n < 8, lampField (F.TL_EVT_TRN_FAIL n) = true ∧ lampField (F.TL_EVT_TILE_LOST n) = true ∧ lampField (F.TL_EVT_LANE_DEAD n) = true := by
  decide

theorem raise_rests (s : State) (i k : Nat) (hn : n < 8) : LaneRests s (s.raise i k) n := (lane_reacts s hn).raise i k id (laneRests_refl s n)

theorem neverUp_g (s : State) (n : Nat) {f : Fld} (h1 : sep (F.TL_STAT_STATE n) f = true) (h2 : sep (F.TL_EVT_TRN_FAIL n) f = true)
    (h3 : sep (F.UNIT_IRQ_STAT_EVT (0x51 + n % 8)) f = true) : (neverUp s n).g f = s.g f :=
  (g_evt_sep (f := F.TL_EVT_TRN_FAIL n) _ h2 h3).trans (laneFailed_g s n h1)

theorem goneTile_g (s : State) (n : Nat) {f : Fld} (h1 : sep (F.TL_STAT_STATE n) f = true) (h2 : sep (F.TL_EVT_TILE_LOST n) f = true)
    (h3 : sep (F.UNIT_IRQ_STAT_EVT (0x51 + n % 8)) f = true) (h4 : sep F.TLN_EVT_TILE_LOST f = true) (h5 : sep (F.UNIT_IRQ_STAT_EVT 0x50) f = true) :
    (goneTile s n).g f = s.g f :=
  (g_evt_sep (f := F.TLN_EVT_TILE_LOST) _ h4 h5).trans ((g_evt_sep (f := F.TL_EVT_TILE_LOST n) _ h2 h3).trans (laneFailed_g s n h1))

/-- A lane that discovery gives up. -/
theorem discoveryFailed_leaves (s : State) (hn : n < 8) :
    let t := s.discoveryFailed n
    s.laneAt t n 8 ∧ (t.lane n).assigned = false ∧ (t.lane n).queue = []
      ∧ ((s.lane n).everActive = false → t.on (F.TL_EVT_TRN_FAIL n) = true ∧ (s.defLevel S.TL_TRN_FAIL ≠ 0 → t.on (fltPend S.TL_TRN_FAIL) = true))
      ∧ ((s.lane n).everActive = true → t.on (F.TL_EVT_TILE_LOST n) = true ∧ t.on F.TLN_EVT_TILE_LOST = true
          ∧ (s.defLevel S.TL_TILE_LOST ≠ 0 → t.on (fltPend S.TL_TILE_LOST) = true)) := by
  intro t
  obtain ⟨p1, p2, -⟩ := failure_places n hn
  by_cases he : (s.lane n).everActive = true
  · have ht : t = (goneTile s n).tileFault S.TL_TILE_LOST n false := (discoveryFailed_eq s n).trans (if_pos he)
    rw [ht]
    have hrest := tileFault_rests (goneTile s n) S.TL_TILE_LOST n false hn
    obtain ⟨ha, hq⟩ := laneFailed_off s n
    have hlane : (goneTile s n).lane n = (s.laneFailed n).lane n := (evt_lane ..).trans (evt_lane ..)
    have hst : (goneTile s n).tlst n = 8 := (g_evt_sep (f := F.TLN_EVT_TILE_LOST) (x := F.TL_STAT_STATE n) _ rfl rfl).trans
      ((g_evt_sep (f := F.TL_EVT_TILE_LOST n) (x := F.TL_STAT_STATE n) _ rfl rfl).trans (laneFailed_tlst s n))
    have hdef : (goneTile s n).defLevel S.TL_TILE_LOST = s.defLevel S.TL_TILE_LOST := by
      rw [State.defLevel, State.defLevel, on_congr (goneTile_g s n (f := F.FLT_CTRL_MODE) rfl rfl rfl rfl rfl),
        goneTile_g s n (f := fltSev S.TL_TILE_LOST) rfl rfl rfl rfl rfl]
    refine ⟨laneAt_of_rests hrest hst (on_congr (goneTile_g s n rfl rfl rfl rfl rfl)), rests_off hrest (by rw [hlane]; exact ha),
      (rests_keeps hrest).2.2.1 (by rw [hlane]; exact hq), fun h => absurd h (by simp [he]), fun _ => ⟨?_, ?_, fun hd => ?_⟩⟩
    · exact (on_congr (tileFault_lamp _ _ _ _ p2 rfl)).trans ((on_evt_sep (f := F.TLN_EVT_TILE_LOST) (x := F.TL_EVT_TILE_LOST n) _ rfl rfl).trans
        (on_evt_self (f := F.TL_EVT_TILE_LOST n) _ rfl))
    · exact (on_congr (tileFault_lamp _ _ _ _ (by decide) rfl)).trans (on_evt_self (f := F.TLN_EVT_TILE_LOST) _ rfl)
    · exact tileFault_pend _ n false (by decide) (by rwa [hdef]) (.inl rfl)
  · have ht : t = (neverUp s n).raise S.TL_TRN_FAIL n := (discoveryFailed_eq s n).trans (if_neg he)
    rw [ht]
    have hrest := raise_rests (neverUp s n) S.TL_TRN_FAIL n hn
    obtain ⟨hst, ha, hq⟩ := failed_then (w := neverUp s n) (s := s) (n := n) rfl rfl rfl
    have hdef : (neverUp s n).defLevel S.TL_TRN_FAIL = s.defLevel S.TL_TRN_FAIL := by
      rw [State.defLevel, State.defLevel, on_congr (neverUp_g s n (f := F.FLT_CTRL_MODE) rfl rfl rfl),
        neverUp_g s n (f := fltSev S.TL_TRN_FAIL) rfl rfl rfl]
    refine ⟨laneAt_of_rests hrest hst (on_congr (neverUp_g s n rfl rfl rfl)), rests_off hrest ha, (rests_keeps hrest).2.2.1 hq,
      fun _ => ⟨?_, fun hd => raise_pend _ n (by decide) (by rwa [hdef])⟩, fun h => absurd h he⟩
    exact (on_congr (raise_lamp _ _ _ p1)).trans (on_evt_self (f := F.TL_EVT_TRN_FAIL n) _ rfl)

theorem discoveryFailed_within (s : State) (n : Nat) {s0 : State} (h0 : s0.Fits (Foot.reaction [] [.cmp]) s) :
    s0.Within (Foot.reaction [] [.cmp]) (s.discoveryFailed n) := by
  have hu : (Foot.reaction [] [.cmp]).hasUnit (groupPage (0x51 + n % 8)) = true := tl_unit (by decide)
  have hf : s0.Fits (Foot.reaction [] [.cmp]) (s.laneFailed n) := laneFailed_fits _ _ (by decide) h0
  rw [discoveryFailed_eq]
  refine (fits_ite ?_ ?_).within
  · exact tileFault_unmasked_fits _ _ _ (by rw [tile_page rfl (by decide)]; decide) (by decide) (evt_fits (by decide) (evt_fits hu hf))
  · exact raise_fits _ _ _ (by rw [tile_page rfl (by decide)]; decide) (by decide) (evt_fits hu hf)

/-! ### The scheduled wake -/

/-- The wake of one lane. -/
def wakeLane (s : State) (n : Nat) : State :=
  if s.tlst n = 6 then (s.put (F.TL_STAT_STATE n) 1).modLane n (fun l => { l with viaService := true, tries := 1 }) else s

theorem state_apart {k n : Nat} (hk : k < 8) (hn : n < 8) (h : k ≠ n) : (F.TL_STAT_STATE k).apart (F.TL_STAT_STATE n) = true := by
  have haddr : (F.TL_STAT_STATE k).addr ≠ (F.TL_STAT_STATE n).addr := by
    simp only [Fld.addr, F.TL_STAT_STATE]
    omega
  simp [Fld.apart, haddr]

theorem wakeLane_tlst (s : State) {k n : Nat} (hk : k < 8) (hn : n < 8) :
    (wakeLane s k).tlst n = if k = n ∧ s.tlst n = 6 then 1 else s.tlst n := by
  unfold wakeLane
  by_cases h : k = n
  · subst h
    by_cases h6 : s.tlst k = 6
    · rw [if_pos h6, if_pos ⟨rfl, h6⟩]
      exact tlst_put_state s k (by decide)
    · rw [if_neg h6, if_neg (c := k = k ∧ s.tlst k = 6) (fun hc => h6 hc.2)]
  · rw [if_neg (c := k = n ∧ s.tlst n = 6) (fun hc => h hc.1)]
    split_ifs
    · exact tlst_put s 1 (state_apart hk hn h) (state_hi k)
    · rfl

theorem wakeLane_lanes (s : State) (k : Nat) : (wakeLane s k).lanes.length = s.lanes.length := by
  unfold wakeLane
  split_ifs
  · exact (modLane_lanes_length ..).trans (by simp)
  · rfl

theorem wakeLane_lane (s : State) {k n : Nat} (h : k ≠ n) : (wakeLane s k).lane n = s.lane n := by
  unfold wakeLane
  split_ifs
  · exact (modLane_lane_other _ _ h).trans (put_lane ..)
  · rfl

theorem wakeLane_wakes (h : n < s.lanes.length) (h6 : s.tlst n = 6) :
    ((wakeLane s n).lane n).viaService = true ∧ ((wakeLane s n).lane n).tries = 1 := by
  have h2 : n < (s.put (F.TL_STAT_STATE n) 1).lanes.length := by simpa using h
  rw [wakeLane, if_pos h6, modLane_lane_same _ _ h2]
  exact ⟨rfl, rfl⟩

theorem wakeLane_only {s0 : State} {k : Nat} (hk : k < 8) (h : s0.Only ((List.range 8).map F.TL_STAT_STATE) [.lanes] s) :
    s0.Only ((List.range 8).map F.TL_STAT_STATE) [.lanes] (wakeLane s k) :=
  only_ite (fun _ => only_modLane (by simp) (only_put _ (List.mem_map_of_mem (List.mem_range.2 hk)) (state_hi k) h)) (fun _ => h)

/-- The lanes that the first m steps of the wake have reached. -/
theorem wake_upto (s : State) (m : Nat) (hm : m ≤ 8) :
    let t := (List.range m).foldl wakeLane s
    (∀ n, n < 8 → t.tlst n = if n < m ∧ s.tlst n = 6 then 1 else s.tlst n)
      ∧ (∀ n, m ≤ n → t.lane n = s.lane n)
      ∧ (s.lanes.length = 8 → ∀ n, n < m → s.tlst n = 6 → (t.lane n).viaService = true ∧ (t.lane n).tries = 1)
      ∧ t.lanes.length = s.lanes.length ∧ s.Only ((List.range 8).map F.TL_STAT_STATE) [.lanes] t := by
  induction m with
  | zero => exact ⟨fun n _ => by simp, fun _ _ => rfl, fun _ n h => absurd h (Nat.not_lt_zero n), rfl, only_refl _ _ _⟩
  | succ m ih =>
    obtain ⟨h1, h2, h3, h4, h5⟩ := ih (by omega)
    rw [List.range_succ, List.foldl_append]
    generalize (List.range m).foldl wakeLane s = u at h1 h2 h3 h4 h5
    refine ⟨fun n hn => ?_, fun n hn => ?_, fun hl n hn h6 => ?_, (wakeLane_lanes u m).trans h4, wakeLane_only (by omega) h5⟩
    · refine (wakeLane_tlst u (by omega) hn).trans ?_
      rw [h1 n hn]
      by_cases hmn : m = n
      · subst hmn
        simp
      · have hlt : n < m + 1 ↔ n < m := by omega
        simp [hmn, hlt]
    · exact (wakeLane_lane u (by omega)).trans (h2 n (by omega))
    · by_cases hmn : m = n
      · subst hmn
        exact wakeLane_wakes (by omega) ((h1 m (by omega)).trans (by simp [h6]))
      · have := wakeLane_lane u hmn
        simp only [List.foldl_cons, List.foldl_nil, this]
        exact h3 hl n (by omega) h6

/-! ### A lane that lies dead -/

/-- A lane without swing, before its fault is raised. -/
def deadLane (s : State) (n : Nat) : State := (s.laneFailed n).evt (F.TL_EVT_LANE_DEAD n)

theorem deadLane_g (s : State) (n : Nat) {f : Fld} (h1 : sep (F.TL_STAT_STATE n) f = true) (h2 : sep (F.TL_EVT_LANE_DEAD n) f = true)
    (h3 : sep (F.UNIT_IRQ_STAT_EVT (0x51 + n % 8)) f = true) : (deadLane s n).g f = s.g f :=
  (g_evt_sep (f := F.TL_EVT_LANE_DEAD n) _ h2 h3).trans (laneFailed_g s n h1)

theorem quiet_congr (h : t.rst = s.rst) (p : Nat) : t.quiet p = s.quiet p := by rw [State.quiet, State.quiet, h]

/-! ### FSYNC_IN -/

/-- The period that an edge of FSYNC_IN closes. -/
def periodClosed (s : State) (d : Nat) : State :=
  let v := s.put F.TLN_FS_PER_T_FS (min d (2 ^ 32 - 1))
  if v.fsOutOfRange d then (v.put F.TLN_STAT_FS_RANGE 1).evt F.TLN_EVT_FS_RANGE else v.put F.TLN_STAT_FS_RANGE 0

/-- What an edge leaves of the timer. -/
def edgeSeen (s : State) (x : Tln) (ns : Nat) : State :=
  (s.put F.TLN_STAT_FS_SEEN 1).withTln { x with fsEdge := some ns, fsSeen := x.fsSeen + 1, fsLost := false }

theorem edgeSeen_g (s : State) (x : Tln) (ns : Nat) {f : Fld} (h : sep F.TLN_STAT_FS_SEEN f = true) : (edgeSeen s x ns).g f = s.g f :=
  (withTln_g ..).trans (g_put_sep s 1 h)

theorem fsOutOfRange_put (s : State) (d w : Nat) : (s.put F.TLN_FS_PER_T_FS w).fsOutOfRange d = s.fsOutOfRange d := by
  unfold State.fsOutOfRange
  simp (disch := decide) only [g_put_other, put_cmp]

theorem fsOutOfRange_begin (s : State) (d : Nat) : s.begin.fsOutOfRange d = s.fsOutOfRange d := by
  simp only [State.fsOutOfRange, begin_g, begin_cmp]

theorem periodClosed_reads (s : State) (d : Nat) :
    (periodClosed s d).g F.TLN_FS_PER_T_FS = min d (2 ^ 32 - 1) ∧ (periodClosed s d).on F.TLN_STAT_FS_RANGE = s.fsOutOfRange d
      ∧ (s.fsOutOfRange d = true → (periodClosed s d).on F.TLN_EVT_FS_RANGE = true) := by
  have hfit : min d (2 ^ 32 - 1) < 2 ^ 32 := Nat.lt_of_le_of_lt (Nat.min_le_right _ _) (by decide)
  unfold periodClosed
  generalize min d (2 ^ 32 - 1) = w at hfit
  extract_lets v
  have hp : v.g F.TLN_FS_PER_T_FS = w := g_put_self (by decide) (by decide) hfit
  have hr : v.fsOutOfRange d = s.fsOutOfRange d := fsOutOfRange_put s d w
  clear_value v
  rw [hr]
  by_cases h : s.fsOutOfRange d = true
  · rw [if_pos h, h]
    exact ⟨(g_evt_sep _ rfl rfl).trans ((g_put_sep _ _ rfl).trans hp), (on_evt_sep _ rfl rfl).trans (on_put_set _ rfl), fun _ => on_evt_self _ rfl⟩
  · rw [if_neg h, Bool.eq_false_iff.2 h]
    exact ⟨(g_put_sep _ _ rfl).trans hp, on_put_clear _ rfl, fun hc => absurd hc (by simp)⟩

theorem periodClosed_only (s : State) (d : Nat) :
    s.Only [F.TLN_STAT_FS_SEEN, F.TLN_STAT_FS_RANGE, F.TLN_FS_PER_T_FS, F.TLN_EVT_FS_RANGE, F.UNIT_IRQ_STAT_EVT 0x50] [.tln] (periodClosed s d) := by
  unfold periodClosed
  extract_lets v
  have hv : s.Only [F.TLN_STAT_FS_SEEN, F.TLN_STAT_FS_RANGE, F.TLN_FS_PER_T_FS, F.TLN_EVT_FS_RANGE, F.UNIT_IRQ_STAT_EVT 0x50] [.tln] v :=
    only_put _ (by simp) (by decide) (only_refl _ _ _)
  clear_value v
  split_ifs
  · exact only_evt (by simp) (by simp [F.TLN_EVT_FS_RANGE]) (by decide) (only_put _ (by simp) (by decide) hv)
  · exact only_put _ (by simp) (by decide) hv

/-- What an edge of FSYNC_IN makes of the period. -/
def edgePeriod (s : State) (e : Option Nat) (ns : Nat) : State :=
  match e with
  | some e => periodClosed s (ns - e)
  | none => s

theorem edgePeriod_only (s : State) (e : Option Nat) (ns : Nat) :
    s.Only [F.TLN_STAT_FS_SEEN, F.TLN_STAT_FS_RANGE, F.TLN_FS_PER_T_FS, F.TLN_EVT_FS_RANGE, F.UNIT_IRQ_STAT_EVT 0x50] [.tln] (edgePeriod s e ns) := by
  cases e with
  | none => exact only_refl _ _ _
  | some e => exact periodClosed_only s (ns - e)

theorem edgePeriod_tln (s : State) (e : Option Nat) (ns : Nat) : (edgePeriod s e ns).tln = s.tln := by
  cases e with
  | none => rfl
  | some e =>
    show (periodClosed s (ns - e)).tln = s.tln
    unfold periodClosed
    extract_lets v
    split_ifs <;> simp [v]

/-- What the loss of FSYNC_IN leaves. -/
def edgeLost (s : State) : State :=
  ((s.put F.TLN_STAT_FS_SEEN 0).evt F.TLN_EVT_FS_LOST).withTln { s.tln with fsLost := true, fsEdge := none, fsSeen := 0 }

theorem edgeLost_tln (s : State) : (edgeLost s).tln = { s.tln with fsLost := true, fsEdge := none, fsSeen := 0 } := rfl

theorem exec_fsyncEdge (he : s.on (F.UNIT_CTRL_ENABLE 0x50) = true) (hr : s.on F.CLK_STAT_ROOT_OK = true) :
    exec .fsyncEdge s = .next (edgeSeen (edgePeriod s.begin s.tln.fsEdge s.ns) (edgePeriod s.begin s.tln.fsEdge s.ns).tln s.ns) := by
  refine congrArg Host.Outcome.next ((if_pos (by rw [begin_on, begin_on, he, hr]; rfl)).trans ?_)
  rw [show s.begin.tln.fsEdge = s.tln.fsEdge from rfl]
  cases s.tln.fsEdge <;> rfl

/-- Settles O33, along the states of a lane. -/
theorem laneDiscovery : Obligations.LaneDiscovery := by
  unfold Obligations.LaneDiscovery
  refine ⟨?ready, ?trained, ?unassigned, ?again, ?given, ?n1, ?n2, ?n3, ?n4, ?wake, ?dead, ?alive, ?fsync, ?idle⟩
  case ready =>
    intro s n hn h1
    exact ⟨_, congrArg Host.Outcome.next (if_pos (by rw [show s.begin.tlst n = s.tlst n from rfl]; simp [hn, h1])), tlst_put_state _ n (by decide),
      only_put _ (by simp) (state_hi n) (only_refl _ _ _)⟩
  case trained =>
    intro s n hn h2 ha hshape
    have hlen : n < s.begin.lanes.length := by rw [begin_lanes, shaped_lanes hshape]; exact hn
    have hgo : (decide (n < 8) && decide (s.begin.tlst n = 2)) = true := by rw [show s.begin.tlst n = s.tlst n from rfl]; simp [hn, h2]
    refine ⟨_, congrArg Host.Outcome.next ((if_pos hgo).trans (if_pos ha)), tlst_put_state _ n (by decide), laneActive_lane hlen,
      fun k hk => laneActive_other hk, only_modLane (by simp) (only_put _ (by simp) (state_hi n) (only_refl _ _ _))⟩
  case unassigned =>
    intro s n hn h2 ha hshape
    have hlen : n < (s.begin.put (F.TL_STAT_STATE n) 3).lanes.length := by rw [put_lanes, begin_lanes, shaped_lanes hshape]; exact hn
    have hgo : (decide (n < 8) && decide (s.begin.tlst n = 2)) = true := by rw [show s.begin.tlst n = s.tlst n from rfl]; simp [hn, h2]
    refine ⟨_, congrArg Host.Outcome.next ((if_pos hgo).trans (if_neg (show ¬ (s.lane n).assigned = true by simp [ha]))), tlst_put_state _ n (by decide),
      (modLane_lane_same _ _ hlen).trans (by rw [put_lane]; rfl), fun k hk => (modLane_lane_other _ _ hk.symm).trans (put_lane ..),
      only_modLane (by simp) (only_put _ (by simp) (state_hi n) (only_refl _ _ _))⟩
  case again =>
    intro s n hn h3 ht hshape
    have hlen : n < (s.begin.put (F.TL_STAT_STATE n) 1).lanes.length := by rw [put_lanes, begin_lanes, shaped_lanes hshape]; exact hn
    have hgo : (decide (n < 8) && decide (s.begin.tlst n = 3)) = true := by rw [show s.begin.tlst n = s.tlst n from rfl]; simp [hn, h3]
    exact ⟨_, congrArg Host.Outcome.next ((if_pos hgo).trans (if_pos ht)), tlst_put_state _ n (by decide),
      (modLane_lane_same _ _ hlen).trans (by rw [put_lane]; rfl), only_modLane (by simp) (only_put _ (by simp) (state_hi n) (only_refl _ _ _))⟩
  case given =>
    intro s n c hn hc
    have hrun : exec c s = .next (s.begin.discoveryFailed n) := by
      rcases hc with ⟨rfl, h3, ht⟩ | ⟨rfl, h4⟩
      · have hgo : (decide (n < 8) && decide (s.begin.tlst n = 3)) = true := by rw [show s.begin.tlst n = s.tlst n from rfl]; simp [hn, h3]
        exact congrArg Host.Outcome.next ((if_pos hgo).trans (if_neg (Nat.not_lt.2 ht)))
      · exact congrArg Host.Outcome.next (if_pos (by rw [show s.begin.tlst n = s.tlst n from rfl]; simp [hn, h4]))
    obtain ⟨h1, h2, h3, h4, h5⟩ := discoveryFailed_leaves s.begin hn
    exact ⟨_, hrun, h1, h2, h3, h4, h5, discoveryFailed_within s.begin n (begin_fits s (by decide) (fits_refl _ s))⟩
  case n1 => exact fun s n hn h => congrArg Host.Outcome.next (if_neg (by rw [show s.begin.tlst n = s.tlst n from rfl]; simp [h]))
  case n2 => exact fun s n hn h => congrArg Host.Outcome.next (if_neg (by rw [show s.begin.tlst n = s.tlst n from rfl]; simp [h]))
  case n3 => exact fun s n hn h => congrArg Host.Outcome.next (if_neg (by rw [show s.begin.tlst n = s.tlst n from rfl]; simp [h]))
  case n4 => exact fun s n hn h => congrArg Host.Outcome.next (if_neg (by rw [show s.begin.tlst n = s.tlst n from rfl]; simp [h]))
  case wake =>
    intro s
    obtain ⟨h1, -, h3, -, h5⟩ := wake_upto s.begin 8 (Nat.le_refl 8)
    refine ⟨_, rfl, fun n hn => (h1 n hn).trans ?_, fun hshape n hn h6 => h3 (shaped_lanes hshape) n hn h6, h5⟩
    simp only [hn, true_and]
    rfl
  case dead =>
    intro s n hn h5 h7
    have hrun : exec (.laneDead n) s = .next ((deadLane s.begin n).tileFault S.TL_LANE_DEAD n true) :=
      congrArg Host.Outcome.next (if_pos (by rw [show s.begin.tlst n = s.tlst n from rfl]; simp [hn, h5, h7]))
    have hrest := tileFault_rests (deadLane s.begin n) S.TL_LANE_DEAD n true hn
    obtain ⟨hst, ha, -⟩ := failed_then (w := deadLane s.begin n) (s := s.begin) (n := n) rfl rfl rfl
    have hdef : (deadLane s.begin n).defLevel S.TL_LANE_DEAD = s.defLevel S.TL_LANE_DEAD := by
      rw [State.defLevel, State.defLevel, on_congr (deadLane_g s.begin n (f := F.FLT_CTRL_MODE) rfl rfl rfl),
        deadLane_g s.begin n (f := fltSev S.TL_LANE_DEAD) rfl rfl rfl]
      rfl
    have hrst : (deadLane s.begin n).rst = s.rst := (evt_rst _ _).trans ((put_rst s.begin (F.TL_STAT_STATE n) 8).trans rfl)
    have hu : (Foot.reaction [0x02] [.cmp]).hasUnit (groupPage (0x51 + n % 8)) = true := tl_unit (by decide)
    refine ⟨_, hrun, laneAt_of_rests hrest hst ((on_congr (deadLane_g s.begin n rfl rfl rfl)).trans rfl),
      (on_congr (tileFault_lamp _ _ _ _ (failure_places n hn).2.2 rfl)).trans (on_evt_self (f := F.TL_EVT_LANE_DEAD n) _ rfl), rests_off hrest ha,
      fun hq1 hq2 hd => tileFault_pend _ n true (by decide) (by rwa [hdef]) (.inr ⟨(quiet_congr hrst _).trans hq1, (quiet_congr hrst _).trans hq2⟩), ?_⟩
    refine (tileFault_fits _ _ _ _ (by rw [tile_page rfl (by decide)]; decide) (by decide) (evt_fits hu (laneFailed_fits _ _ (by decide) ?_))).within
    exact begin_fits s (by decide) (fits_refl _ s)
  case alive =>
    intro s n hn h
    refine congrArg Host.Outcome.next (if_neg ?_)
    rw [show s.begin.tlst n = s.tlst n from rfl]
    simp only [Bool.and_eq_true, decide_eq_true_eq]
    omega
  case fsync =>
    intro s he hr
    refine ⟨?_, ?_⟩
    · refine ⟨_, exec_fsyncEdge he hr, (withTln_on ..).trans (on_put_set _ rfl), ?_, ?_, ?_⟩
      · have ht := edgePeriod_tln s.begin s.tln.fsEdge s.ns
        rw [ht]
        rfl
      · intro e hedge
        obtain ⟨h1, h2, h3⟩ := periodClosed_reads s.begin (s.ns - e)
        rw [fsOutOfRange_begin] at h2 h3
        rw [hedge]
        exact ⟨(edgeSeen_g _ _ _ rfl).trans h1, (on_congr (edgeSeen_g _ _ _ rfl)).trans h2, fun hr => (on_congr (edgeSeen_g _ _ _ rfl)).trans (h3 hr)⟩
      · exact only_withTln (by simp) (only_put _ (by simp) (by decide) (edgePeriod_only ..))
    · refine ⟨edgeLost s.begin, congrArg Host.Outcome.next (if_pos (by rw [begin_on, begin_on, he, hr]; rfl)), ?_, (withTln_on ..).trans (on_evt_self _ rfl),
        edgeLost_tln s.begin, ?_⟩
      · exact (withTln_on ..).trans ((on_evt_sep _ rfl rfl).trans (on_put_clear _ rfl))
      · exact only_withTln (by simp) (only_evt (by simp) (by simp [F.TLN_EVT_FS_LOST]) (by decide) (only_put _ (by simp) (by decide) (only_refl _ _ _)))
  case idle =>
    intro s h
    have hno : ¬ (s.begin.on (F.UNIT_CTRL_ENABLE 0x50) && s.begin.on F.CLK_STAT_ROOT_OK) = true := by
      rw [begin_on, begin_on]
      rcases h with h | h <;> simp [h]
    exact ⟨congrArg Host.Outcome.next (if_neg hno), congrArg Host.Outcome.next (if_neg hno)⟩


end Sys2Proof.Proofs.LampLanes
end

section
/-! PROOF. Acknowledging, clearing and injecting faults (FaultRegisters). -/

namespace Sys2Proof.Proofs.FaultPages

open Sys2Proof.Machine Sys2Proof.Laws Sys2Proof.Proofs.Architecture Sys2Proof.Proofs.RegisterMap Sys2Proof.Proofs.Reading
  Sys2Proof.Proofs.GovernorSums Sys2Proof.Proofs.PendingFaults

variable {s t u : State} {m : Master} {v : Word} {i j : Nat}

/-! ### The fields of a source -/

/-- The three fields of a source. -/
def sourceFields (i : Nat) : List Fld := [fltPend i, fltUnack i, fltLvl i]

/-- The fields of two sources share no bit. -/
theorem sourceFields_sep (hi : i < 75) (hj : j < 75) (h : i ≠ j) {f x : Fld} (hf : f ∈ sourceFields i) (hx : x ∈ sourceFields j) :
    sep f x = true := by
  simp only [sourceFields, List.mem_cons, List.not_mem_nil, or_false] at hf hx
  have bits : ∀ {f x : Fld}, f.hi < 32 → (f.off % 4096 ≠ x.off % 4096 ∨ x.hi < f.lo ∨ f.hi < x.lo) → sep f x = true := fun hh h => by
    simp only [sep, Bool.and_eq_true, Bool.or_eq_true, decide_eq_true_eq, Bool.not_eq_true', beq_eq_false_iff_ne, ne_eq]
    exact ⟨hh, by tauto⟩
  rcases hf with rfl | rfl | rfl <;> rcases hx with rfl | rfl | rfl <;>
    exact bits (by simp only [fltPend, fltUnack, fltLvl]; omega) (by simp only [fltPend, fltUnack, fltLvl]; omega)

/-- The fields of one source among themselves, and what a clearing writes beside them. -/
theorem source_places : ∀ i < 75,
    (sep (fltUnack i) (fltPend i) && sep (fltLvl i) (fltPend i) && sep (fltLvl i) (fltUnack i) && room (fltPend i) 0 && room (fltUnack i) 0 && room (fltLvl i) 0
      && (sourceFields i).all (fun x => clear recordFields x && sep F.FLT_EVT_CLR_REJ x && sep (F.UNIT_IRQ_STAT_EVT 0x70) x && sep x F.FLT_EVT_CLR_REJ)) = true := by
  decide

/-! ### Acknowledging -/

theorem named_nodup (k : Nat) (v : Word) : (namedSources k v).Nodup := by
  unfold namedSources
  exact ((List.nodup_range.filter _).map (fun a b h => by simpa using h)).filter _

theorem named_lt {k : Nat} (h : i ∈ namedSources k v) : i < 75 := by
  simpa using (List.mem_filter.1 h).2

theorem ack_fold (l : List Nat) (hl : ∀ i ∈ l, i < 75) (s : State) :
    (∀ i ∈ l, (l.foldl State.ackSource s).on (fltUnack i) = false) ∧ s.Only (l.map fltUnack) [] (l.foldl State.ackSource s) := by
  induction l generalizing s with
  | nil => exact ⟨fun i h => absurd h (List.not_mem_nil), only_refl _ _ _⟩
  | cons a l ih =>
    obtain ⟨h1, h2⟩ := ih (fun i h => hl i (List.mem_cons_of_mem _ h)) (s.ackSource a)
    have ha := hl a List.mem_cons_self
    have hhi : (fltUnack a).hi < 32 := by simp only [fltUnack]; omega
    refine ⟨fun i hi => ?_, ?_⟩
    · by_cases hil : i ∈ l
      · exact h1 i hil
      · obtain rfl : i = a := by simpa [hil] using hi
        have hclear : clear (l.map fltUnack) (fltUnack i) = true := by
          simp only [clear, List.all_map, List.all_eq_true, Function.comp]
          intro k hk
          exact sep_apart (sourceFields_sep (hl k (List.mem_cons_of_mem _ hk)) ha (fun h => hil (h ▸ hk)) (by simp [sourceFields]) (by simp [sourceFields]))
        have hp := source_places i ha
        simp only [Bool.and_eq_true] at hp
        exact (only_on h2 hclear).trans (on_put_clear s hp.1.1.2)
    · refine only_trans ?_ (only_mono (by simp) (by simp) h2)
      exact only_put _ (by simp) hhi (only_refl _ _ _)

/-! ### Clearing -/

/-- Clearing a source that pends and whose condition is not held. -/
def clearedSource (s : State) (i : Nat) : State :=
  let v := ((s.put (fltPend i) 0).put (fltUnack i) 0).put (fltLvl i) 0
  let v := v.withFlt { v.flt with injOnly := v.flt.injOnly.filter (· ≠ i), escalated := v.flt.escalated.filter (· ≠ i), order := v.flt.order.filter (· ≠ i) }
  if s.g (fltLvl i) ≥ 2 then v.event 0x7080 (leBytes 2 (srcCode i) ++ [b8 (s.g (fltLvl i))]) else v

theorem clearSource_eq (s : State) (i : Nat) : s.clearSource i =
    if s.on (fltPend i) then if s.flt.held.any (fun e => e.1 = i) then s.evt F.FLT_EVT_CLR_REJ else clearedSource s i else s := rfl

theorem clearedSource_g (s : State) (i : Nat) {x : Fld} (hx : clear recordFields x = true) (hs : ∀ f ∈ sourceFields i, sep f x = true) :
    (clearedSource s i).g x = s.g x := by
  have hput : (((s.put (fltPend i) 0).put (fltUnack i) 0).put (fltLvl i) 0).g x = s.g x :=
    (g_put_sep _ _ (hs _ (by simp [sourceFields]))).trans ((g_put_sep _ _ (hs _ (by simp [sourceFields]))).trans (g_put_sep _ _ (hs _ (by simp [sourceFields]))))
  unfold clearedSource
  extract_lets v w
  split_ifs
  · exact (event_g _ _ _ hx).trans ((withFlt_g ..).trans hput)
  · exact (withFlt_g ..).trans hput

theorem clearedSource_clears (s : State) (hi : i < 75) :
    (clearedSource s i).on (fltPend i) = false ∧ (clearedSource s i).on (fltUnack i) = false ∧ (clearedSource s i).g (fltLvl i) = 0 := by
  have hp := source_places i hi
  simp only [sourceFields, List.all_cons, List.all_nil, Bool.and_true, Bool.and_eq_true] at hp
  obtain ⟨⟨⟨⟨⟨⟨hup, hlp⟩, hlu⟩, rp⟩, ru⟩, rl⟩, ⟨⟨⟨cp, -⟩, -⟩, -⟩, ⟨⟨⟨cu, -⟩, -⟩, -⟩, ⟨⟨cl, -⟩, -⟩, -⟩ := hp
  have key : ∀ {x : Fld}, clear recordFields x = true →
      (clearedSource s i).g x = (((s.put (fltPend i) 0).put (fltUnack i) 0).put (fltLvl i) 0).g x := fun hx => by
    unfold clearedSource
    extract_lets v w
    split_ifs
    · exact event_g _ _ _ hx
    · rfl
  refine ⟨(on_congr (key cp)).trans ?_, (on_congr (key cu)).trans ?_, (key cl).trans (g_put_room _ rl)⟩
  · exact (on_put_sep _ _ hlp).trans ((on_put_sep _ _ hup).trans (on_put_clear _ rp))
  · exact (on_put_sep _ _ hlu).trans (on_put_clear _ ru)

theorem record_held (s : State) (r : EvRec) : (s.record r).2.flt = s.flt :=
  within_flt (record_fits (g := Foot.of [0x70, 0x71] [.evr]) s r (by decide) (fits_refl _ _)).within rfl rfl

theorem clearSource_held (s : State) (i : Nat) : (s.clearSource i).flt.held = s.flt.held := by
  rw [clearSource_eq]
  split_ifs
  · rw [evt_flt]
  · unfold clearedSource
    extract_lets v f w
    split_ifs
    · exact (congrArg Flt.held (record_held w _)).trans rfl
    · rfl
  · rfl

/-- Clearing one source leaves the fields of another. -/
theorem clearSource_other (s : State) (hi : i < 75) (hj : j < 75) (h : i ≠ j) {x : Fld} (hx : x ∈ sourceFields j) : (s.clearSource i).g x = s.g x := by
  have hp := source_places j hj
  simp only [Bool.and_eq_true, List.all_eq_true] at hp
  obtain ⟨⟨⟨hc, he⟩, hq⟩, -⟩ := hp.2 x hx
  rw [clearSource_eq]
  refine ite_g (fun _ => ite_g (fun _ => g_evt_sep _ he hq) (fun _ => clearedSource_g s i hc (fun f hf => sourceFields_sep hi hj h hf hx))) (fun _ => rfl)

theorem clearSource_rej (s : State) (hi : i < 75) (h : s.on F.FLT_EVT_CLR_REJ = true) : (s.clearSource i).on F.FLT_EVT_CLR_REJ = true := by
  have hp := source_places i hi
  simp only [Bool.and_eq_true, List.all_eq_true] at hp
  rw [clearSource_eq]
  split_ifs
  · exact on_evt_self _ rfl
  · exact (on_congr (clearedSource_g s i (by decide) (fun f hf => (hp.2 f hf).2))).trans h
  · exact h

/-- A list of sources cleared one after the other. -/
theorem clear_fold (l : List Nat) (hnd : l.Nodup) (hl : ∀ i ∈ l, i < 75) (s : State) :
    let t := l.foldl State.clearSource s
    (∀ i ∈ l, s.on (fltPend i) = true → s.flt.held.any (fun e => e.1 = i) = false →
        t.on (fltPend i) = false ∧ t.on (fltUnack i) = false ∧ t.g (fltLvl i) = 0)
      ∧ (∀ i ∈ l, s.on (fltPend i) = true → s.flt.held.any (fun e => e.1 = i) = true →
        t.on (fltPend i) = true ∧ t.g (fltLvl i) = s.g (fltLvl i) ∧ t.on F.FLT_EVT_CLR_REJ = true)
      ∧ (∀ j, j < 75 → j ∉ l → ∀ x ∈ sourceFields j, t.g x = s.g x)
      ∧ (s.on F.FLT_EVT_CLR_REJ = true → t.on F.FLT_EVT_CLR_REJ = true) ∧ t.flt.held = s.flt.held := by
  induction l generalizing s with
  | nil => exact ⟨fun i h => absurd h (List.not_mem_nil), fun i h => absurd h (List.not_mem_nil), fun _ _ _ _ _ => rfl, id, rfl⟩
  | cons a l ih =>
    obtain ⟨hal, hnd'⟩ := List.nodup_cons.1 hnd
    have ha := hl a List.mem_cons_self
    have hl' : ∀ i ∈ l, i < 75 := fun i h => hl i (List.mem_cons_of_mem _ h)
    obtain ⟨h1, h2, h3, h4, h5⟩ := ih hnd' hl' (s.clearSource a)
    have hheld := clearSource_held s a
    have hkeep : ∀ i ∈ l, ∀ x ∈ sourceFields i, (s.clearSource a).g x = s.g x :=
      fun i hi x hx => clearSource_other s ha (hl' i hi) (fun h => hal (h ▸ hi)) hx
    have hself : ∀ x ∈ sourceFields a, (l.foldl State.clearSource (s.clearSource a)).g x = (s.clearSource a).g x := h3 a ha hal
    rw [hheld] at h1 h2 h5
    refine ⟨fun i hi hp hh => ?_, fun i hi hp hh => ?_, fun j hj hjl x hx => ?_, fun h => h4 (clearSource_rej s ha h), h5⟩
    · rcases List.mem_cons.1 hi with rfl | hi
      · have heq : s.clearSource i = clearedSource s i := (if_pos hp).trans (if_neg (by simp [hh]))
        obtain ⟨c1, c2, c3⟩ := clearedSource_clears s ha
        rw [← heq] at c1 c2 c3
        exact ⟨(on_congr (hself _ (by simp [sourceFields]))).trans c1, (on_congr (hself _ (by simp [sourceFields]))).trans c2,
          (hself _ (by simp [sourceFields])).trans c3⟩
      · exact h1 i hi ((on_congr (hkeep i hi _ (by simp [sourceFields]))).trans hp) hh
    · rcases List.mem_cons.1 hi with rfl | hi
      · have heq : s.clearSource i = s.evt F.FLT_EVT_CLR_REJ := (if_pos hp).trans (if_pos hh)
        have hpl := source_places i ha
        simp only [Bool.and_eq_true, List.all_eq_true] at hpl
        have hfld : ∀ x ∈ sourceFields i, (s.clearSource i).g x = s.g x := fun x hx => by
          rw [heq]
          exact g_evt_sep _ (hpl.2 x hx).1.1.2 (hpl.2 x hx).1.2
        refine ⟨?_, ?_, h4 (by rw [heq]; exact on_evt_self _ rfl)⟩
        · exact (on_congr ((hself _ (by simp [sourceFields])).trans (hfld _ (by simp [sourceFields])))).trans hp
        · exact (hself _ (by simp [sourceFields])).trans (hfld _ (by simp [sourceFields]))
      · obtain ⟨k1, k2, k3⟩ := h2 i hi ((on_congr (hkeep i hi _ (by simp [sourceFields]))).trans hp) hh
        exact ⟨k1, k2.trans (hkeep i hi _ (by simp [sourceFields])), k3⟩
    · have hja : a ≠ j := fun h => hjl (h ▸ List.mem_cons_self)
      exact (h3 j hj (fun h => hjl (List.mem_cons_of_mem _ h)) x hx).trans (clearSource_other s ha hj hja hx)

/-! ### The writes to the pages -/

theorem specialA_pend (s : State) (m : Master) (v : Word) {k : Nat} (hk : k < 3) : s.specialA m 0x70 (0x48 + 4 * k) v = s.pendWrite k v := by
  interval_cases k <;> rfl

theorem specialA_unack (s : State) (m : Master) (v : Word) {k : Nat} (hk : k < 3) : s.specialA m 0x70 (0x54 + 4 * k) v = s.unackWrite k v := by
  interval_cases k <;> rfl

theorem exec_faultAck {r : Nat} (hm : s.masterRuns m = true) (hw : s.mayWrite m 0x70 (0x54 + 4 * (r % 3)) = true) :
    exec (.faultAck m r v) s = .next (s.begin.unackWrite (r % 3) v) := by
  have hr : r % 3 < 3 := Nat.mod_lt _ (by decide)
  exact congrArg Host.Outcome.next ((masterWrite_special (s := s.begin) v hm hw (by decide) (by decide) (by omega) (by omega) (by decide) (by decide)
    (by decide)).trans (specialA_unack _ m v hr))

theorem exec_faultClear {r : Nat} (hm : s.masterRuns m = true) (hw : s.mayWrite m 0x70 (0x48 + 4 * (r % 3)) = true) :
    exec (.faultClear m r v) s = .next (s.begin.pendWrite (r % 3) v) := by
  have hr : r % 3 < 3 := Nat.mod_lt _ (by decide)
  exact congrArg Host.Outcome.next ((masterWrite_special (s := s.begin) v hm hw (by decide) (by decide) (by omega) (by omega) (by decide) (by decide)
    (by decide)).trans (specialA_pend _ m v hr))

theorem exec_inject {c : Instr} (hc : c = .injectArm m v ∨ c = .injectCancel m v) (hm : s.masterRuns m = true) (hw : s.mayWrite m 0x70 0x90 = true) :
    exec c s = .next (s.begin.injectWrite m v) := by
  have hrun := masterWrite_special (s := s.begin) (p := 0x70) (off := 0x90) v hm hw (by decide) (by decide) (by decide) (by decide) (by decide) (by decide) (by decide)
  rcases hc with rfl | rfl <;> exact congrArg Host.Outcome.next (hrun.trans rfl)

theorem injectRej_le (s : State) (m : Master) (i : Nat) : s.injectRej m i ≤ 4 := by
  unfold State.injectRej
  extract_lets f
  split_ifs <;> decide

/-- The record of a clearing goes to the queue past every tracker. -/
theorem record_cleared (s : State) (d : List Byte) (hq : s.evr.queue.length < 56) :
    (s.event 0x7080 d).evr.queue = s.evr.queue ++ [(⟨0x7080, 0, 0, 1, data6 d⟩ : EvRec)] := by
  have hplain : EvRec.plain ⟨0x7080, 0, 0, 1, data6 d⟩ = true := by simp [EvRec.plain]
  have hroom : s.evr.queue.length < (if EvRec.eff ⟨0x7080, 0, 0, 1, data6 d⟩ = 3 || 0x7080 / 256 = 0x68 then 64 else 56) := by
    split_ifs <;> omega
  unfold State.event State.record
  rw [if_neg (by simp [hplain])]
  exact congrArg (fun t : State => t.evr.queue) (if_pos hroom)

theorem clearedSource_queue (s : State) (hq : s.evr.queue.length < 56) :
    (clearedSource s i).evr.queue = s.evr.queue ++ (if 2 ≤ s.g (fltLvl i)
      then [(⟨0x7080, 0, 0, 1, data6 (leBytes 2 (srcCode i) ++ [b8 (s.g (fltLvl i))])⟩ : EvRec)] else []) := by
  unfold clearedSource
  extract_lets v f w
  have hw : w.evr = s.evr := by
    show (((s.put (fltPend i) 0).put (fltUnack i) 0).put (fltLvl i) 0).evr = s.evr
    rw [put_evr, put_evr, put_evr]
  by_cases h : 2 ≤ s.g (fltLvl i)
  · rw [if_pos h, if_pos h, record_cleared w _ (by rwa [hw]), hw]
  · rw [if_neg h, if_neg h, hw, List.append_nil]

/-- What ends an injection that is armed. -/
def disarmed (s : State) (i : Nat) : State :=
  let v := (s.put F.FLT_INJ_INDEX i).put F.FLT_INJ_ARM 0
  if v.g F.FLT_INJ_STATE = 1 then v.put F.FLT_INJ_STATE 0 else v

theorem disarmed_leaves (s : State) (hi : room F.FLT_INJ_INDEX i = true) :
    (disarmed s i).on F.FLT_INJ_ARM = false
      ∧ (disarmed s i).g F.FLT_INJ_STATE = (if s.g F.FLT_INJ_STATE = 1 then 0 else s.g F.FLT_INJ_STATE)
      ∧ (disarmed s i).g F.FLT_INJ_INDEX = i ∧ s.Only [F.FLT_INJ_INDEX, F.FLT_INJ_ARM, F.FLT_INJ_STATE] [] (disarmed s i) := by
  unfold disarmed
  extract_lets v
  have hst : v.g F.FLT_INJ_STATE = s.g F.FLT_INJ_STATE := (g_put_sep _ _ rfl).trans (g_put_sep _ _ rfl)
  have harm : v.on F.FLT_INJ_ARM = false := on_put_clear _ rfl
  have hidx : v.g F.FLT_INJ_INDEX = i := (g_put_sep _ _ rfl).trans (g_put_room _ hi)
  have hv : s.Only [F.FLT_INJ_INDEX, F.FLT_INJ_ARM, F.FLT_INJ_STATE] [] v :=
    only_put _ (by simp) (by decide) (only_put _ (by simp) (by decide) (only_refl _ _ _))
  clear_value v
  rw [hst]
  by_cases h : s.g F.FLT_INJ_STATE = 1
  · rw [if_pos h, if_pos h]
    exact ⟨(on_put_sep _ _ rfl).trans harm, g_put_room _ rfl, (g_put_sep _ _ rfl).trans hidx, only_put _ (by simp) (by decide) hv⟩
  · rw [if_neg h, if_neg h]
    exact ⟨harm, hst, hidx, hv⟩

/-- Settles O42, along the four writes to FLT. -/
theorem faultRegisters : Obligations.FaultRegisters := by
  unfold Obligations.FaultRegisters
  refine ⟨?ack, ?clear, ?record, ?arm, ?refused, ?cancel⟩
  case ack =>
    intro s m r v hm hw
    obtain ⟨h1, h2⟩ := ack_fold (namedSources (r % 3) v) (fun i h => named_lt h) s.begin
    exact ⟨_, exec_faultAck hm hw, h1, h2⟩
  case clear =>
    intro s m r v hm hw
    obtain ⟨h1, h2, h3, -, h5⟩ := clear_fold (namedSources (r % 3) v) (named_nodup _ _) (fun i h => named_lt h) s.begin
    refine ⟨_, exec_faultClear hm hw, h1, h2, fun i hi hn => ⟨h3 i hi hn _ (by simp [sourceFields]), h3 i hi hn _ (by simp [sourceFields]),
      h3 i hi hn _ (by simp [sourceFields])⟩, h5, ?_⟩
    exact (pendWrite_fits _ _ _ (by decide) (begin_fits s (by decide) (fits_refl _ s))).within
  case record =>
    intro s m r v i hm hw hn hp hh hq
    have hone : s.begin.pendWrite (r % 3) v = clearedSource s.begin i := by
      rw [State.pendWrite, hn]
      exact (if_pos hp).trans (if_neg (by rw [show s.begin.flt.held = s.flt.held from rfl, hh]; simp))
    exact ⟨_, (exec_faultClear hm hw).trans (congrArg Host.Outcome.next hone), clearedSource_queue s.begin hq⟩
  case arm =>
    intro s m v hm hw h8 hrej
    have hi : room F.FLT_INJ_INDEX (wordField v 6 0) = true := by
      have hlt : wordField v 6 0 < 2 ^ 7 := Nat.mod_lt _ (by decide)
      simpa [room, F.FLT_INJ_INDEX] using hlt
    refine ⟨_, (exec_inject (.inl rfl) hm hw).trans (congrArg Host.Outcome.next ((if_pos h8).trans (if_pos hrej))), ?_, ?_, ?_, ?_, ?_⟩
    · exact (g_put_sep _ _ rfl).trans ((g_put_sep _ _ rfl).trans ((g_put_sep _ _ rfl).trans (g_put_room _ hi)))
    · exact (on_put_sep _ _ rfl).trans ((on_put_sep _ _ rfl).trans (on_put_set _ rfl))
    · exact (g_put_sep _ _ rfl).trans (g_put_room _ rfl)
    · exact g_put_room _ rfl
    · exact only_put _ (by simp) (by decide) (only_put _ (by simp) (by decide) (only_put _ (by simp) (by decide) (only_put _ (by simp) (by decide)
        (only_refl _ _ _))))
  case refused =>
    intro s m v hm hw h8 hrej
    have hr : s.injectRej m (wordField v 6 0) < 2 ^ (F.FLT_INJ_REJ.hi + 1 - F.FLT_INJ_REJ.lo) := Nat.lt_of_le_of_lt (injectRej_le ..) (by decide)
    refine ⟨_, (exec_inject (.inl rfl) hm hw).trans (congrArg Host.Outcome.next ((if_pos h8).trans (if_neg hrej))), ?_, on_evt_self _ rfl, ?_⟩
    · exact (g_evt_sep _ rfl rfl).trans (g_put_self (by decide) (by decide) hr)
    · exact only_evt (by simp) (by simp [F.FLT_EVT_INJ_REJ]) (by decide) (only_put _ (by simp) (by decide) (only_refl _ _ _))
  case cancel =>
    intro s m v hm hw h8
    have hi : room F.FLT_INJ_INDEX (wordField v 6 0) = true := by
      have hlt : wordField v 6 0 < 2 ^ 7 := Nat.mod_lt _ (by decide)
      simpa [room, F.FLT_INJ_INDEX] using hlt
    have h8' : ¬ wordField v 8 8 = 1 := by omega
    obtain ⟨h1, h2, h3, h4⟩ := disarmed_leaves s.begin hi
    exact ⟨_, (exec_inject (.inr rfl) hm hw).trans (congrArg Host.Outcome.next (if_neg h8')), h1, h2, h3, h4⟩

end Sys2Proof.Proofs.FaultPages
end

section
/-! PROOF. Interpolations and trims (Calibration). -/

namespace Sys2Proof.Proofs.CalibrationRuns

open Sys2Proof.Machine Sys2Proof.Laws Sys2Proof.Proofs.Architecture Sys2Proof.Proofs.RegisterMap Sys2Proof.Proofs.Reading
  Sys2Proof.Proofs.GovernorSums Sys2Proof.Proofs.PacketConsumption Sys2Proof.Proofs.QuartzReference

variable {s t u : State} {m : Master} {v : Word} {n : Nat}

/-! ### Tables of two-byte words in memory -/

/-- The two bytes of one entry of a table of words. -/
theorem table_bytes (l : List Nat) : ∀ i, i < l.length →
    (l.flatMap (leBytes 2)).getD (2 * i) 0 = BitVec.ofNat 8 (l.getD i 0) ∧ (l.flatMap (leBytes 2)).getD (2 * i + 1) 0 = BitVec.ofNat 8 (l.getD i 0 / 256) := by
  induction l with
  | nil => exact fun i h => absurd h (Nat.not_lt_zero i)
  | cons a l ih =>
    intro i hi
    cases i with
    | zero => exact ⟨rfl, rfl⟩
    | succ i => exact ih i (Nat.lt_of_succ_lt_succ hi)

theorem table_length (l : List Nat) : (l.flatMap (leBytes 2)).length = 2 * l.length := by
  induction l with
  | nil => rfl
  | cons a l ih =>
    rw [List.flatMap_cons, List.length_append, leBytes_length, ih, List.length_cons]
    omega

/-- A table that was written reads back word by word. -/
theorem table_le (s : State) (a : Nat) (l : List Nat) {i : Nat} (hi : i < l.length) :
    (s.setBytes a (l.flatMap (leBytes 2))).le (a + 2 * i) 2 = l.getD i 0 % 65536 := by
  have hlen := table_length l
  obtain ⟨h0, h1⟩ := table_bytes l i hi
  have hb0 : (s.setBytes a (l.flatMap (leBytes 2))).byte (a + 2 * i) = BitVec.ofNat 8 (l.getD i 0) := by
    rw [setBytes_byte, if_pos (by omega), show a + 2 * i - a = 2 * i by omega, h0]
  have hb1 : (s.setBytes a (l.flatMap (leBytes 2))).byte (a + 2 * i + 1) = BitVec.ofNat 8 (l.getD i 0 / 256) := by
    rw [setBytes_byte, if_pos (by omega), show a + 2 * i + 1 - a = 2 * i + 1 by omega, h1]
  simp only [State.le, State.bytes, hb0, hb1]
  exact ofLe_leBytes 2 _

/-! ### Interpolation -/

theorem exec_interpCmd (hm : s.masterRuns m = true) (hw : s.mayWrite m 0x48 0x48 = true) : exec (.interpCmd m v) s = .next (s.begin.calCmd v) :=
  congrArg Host.Outcome.next (masterWrite_special (s := s.begin) v hm hw (by decide) (by decide) (by decide) (by decide) (by decide) (by decide)
    (by decide))

theorem exec_trimCmd (hm : s.masterRuns m = true) (hw : s.mayWrite m 0x48 0x48 = true) : exec (.trimCmd m v) s = .next (s.begin.calCmd v) :=
  congrArg Host.Outcome.next (masterWrite_special (s := s.begin) v hm hw (by decide) (by decide) (by decide) (by decide) (by decide) (by decide)
    (by decide))

/-- A command word that names tile n alone, or the trims for n = 8. -/
theorem command_bit {k : Nat} (hv : v.toNat % 512 = 2 ^ n) (hk : k < 9) : tbit v.toNat k = decide (n = k) := by
  have hmod : (v.toNat % 2 ^ 9).testBit k = v.toNat.testBit k := by rw [Nat.testBit_mod_two_pow]; simp [hk]
  rw [tbit, ← hmod, show v.toNat % 2 ^ 9 = 2 ^ n from hv, Nat.testBit_two_pow]

/-- A fold that acts at one place alone. -/
theorem foldl_single {α : Type} {f : State → α → State} {a : α} (l : List α) (hnd : l.Nodup) (ha : a ∈ l)
    (hf : ∀ b ∈ l, b ≠ a → ∀ u, f u b = u) (s : State) : l.foldl f s = f s a := by
  have hid : ∀ (l : List α), (∀ b ∈ l, ∀ u, f u b = u) → ∀ u, l.foldl f u = u := fun l hl u =>
    List.foldlRecOn (motive := fun w => w = u) l f rfl (fun w hw b hb => (hl b hb w).trans hw)
  induction l generalizing s with
  | nil => exact absurd ha List.not_mem_nil
  | cons b l ih =>
    obtain ⟨hb, hnd'⟩ := List.nodup_cons.1 hnd
    rcases List.mem_cons.1 ha with rfl | hal
    · exact hid l (fun c hc => hf c (List.mem_cons_of_mem _ hc) (fun h => hb (h ▸ hc))) _
    · rw [List.foldl_cons, hf b List.mem_cons_self (fun h => hb (h ▸ hal)) s]
      exact ih hnd' hal (fun c hc => hf c (List.mem_cons_of_mem _ hc)) s

/-- A command for one tile starts that one alone. -/
theorem calCmd_one (hn : n < 8) (hv : v.toNat % 512 = 2 ^ n) : s.calCmd v = if (s.calTile n).load then s else s.calStartNow n := by
  have h8 : tbit v.toNat 8 = false := (command_bit hv (by decide)).trans (by simp; omega)
  have hstart : ∀ u : State, (if tbit v.toNat n && !(u.calTile n).load then u.calStartNow n else u) = if (u.calTile n).load then u else u.calStartNow n :=
    fun u => by
      rw [command_bit hv (by omega)]
      cases (u.calTile n).load <;> simp
  unfold State.calCmd
  rw [foldl_single (List.range 8) List.nodup_range (List.mem_range.2 hn) (fun k hk hkn u => ?_) s, h8, hstart]
  · rfl
  · rw [command_bit hv (by have := List.mem_range.1 hk; omega)]
    simp [hkn.symm]

/-- A command for the trims starts no tile. -/
theorem calCmd_trims (hv : v.toNat % 512 = 256) :
    s.calCmd v = if s.on F.CAL_STAT_TRIM_BUSY then s.withCal { s.cal with trimAgain := true } else s.put F.CAL_STAT_TRIM_BUSY 1 := by
  have h8 : v.toNat % 512 = 2 ^ 8 := hv
  unfold State.calCmd
  simp only [show List.range 8 = [0, 1, 2, 3, 4, 5, 6, 7] from rfl, List.foldl_cons, List.foldl_nil, command_bit h8 (show 0 < 9 by decide),
    command_bit h8 (show 1 < 9 by decide), command_bit h8 (show 2 < 9 by decide), command_bit h8 (show 3 < 9 by decide),
    command_bit h8 (show 4 < 9 by decide), command_bit h8 (show 5 < 9 by decide), command_bit h8 (show 6 < 9 by decide),
    command_bit h8 (show 7 < 9 by decide), command_bit h8 (show 8 < 9 by decide)]
  simp

/-- What a tile reads after one was rewritten. -/
theorem modCal_tile (s : State) (k n : Nat) (f : CalTile → CalTile) :
    (s.modCal k f).calTile n = if k = n ∧ n < s.cal.tiles.length then f (s.calTile n) else s.calTile n := by
  simp only [State.calTile, State.modCal, State.withCal, List.getD_eq_getElem?_getD, List.getElem?_set]
  by_cases hk : k = n
  · subst hk
    by_cases hl : k < s.cal.tiles.length <;> simp [hl]
  · simp [hk]

/-- With no interpolation under way one starts at once. -/
theorem calStart_idle (hj : s.cal.jobs = []) (temp : Int) (own : Bool) :
    ((s.calStart n temp own).calTile n).waiting = none ∧ (s.calStart n temp own).cal.jobs = [(n, temp, own)]
      ∧ s.Only [] [.cal] (s.calStart n temp own) := by
  have hjobs : (s.modCal n (fun c => { c with waiting := none })).cal.jobs = [] := hj
  have htile : ((s.modCal n (fun c => { c with waiting := none })).calTile n).waiting = none := by
    rw [modCal_tile]
    split_ifs with h
    · rfl
    · have hlen : s.cal.tiles.length ≤ n := by simpa using h
      simp [State.calTile, List.getD_eq_getElem?_getD, List.getElem?_eq_none hlen, CalTile.init]
  unfold State.calStart
  extract_lets w jobs new
  have hnew : new = [(n, temp, own)] := by
    simp only [new, jobs, w, hjobs]
  refine ⟨htile, hnew, only_withCal (by simp) (only_withCal (by simp) (only_refl _ _ _))⟩

/-- The gains of a tile at a temperature. -/
def gains (s : State) (n : Nat) (temp : Int) : List Nat := (List.range 4096).map (fun i => s.gainAt n i temp)

theorem gains_length (s : State) (n : Nat) (temp : Int) : (gains s n temp).length = 4096 := by simp [gains]

theorem gains_at (s : State) (temp : Int) {i : Nat} (hi : i < 4096) : (gains s n temp).getD i 0 = s.gainAt n i temp := by
  simp [gains, List.getD_eq_getElem?_getD, hi]

/-- An interpolation that has ended. -/
def interpolated (s : State) (n : Nat) (temp : Int) (own : Bool) (rest : List (Nat × Int × Bool)) : State :=
  let v := s.setBytes (bankAddr n (1 - (s.calTile n).bank) 0) ((gains s n temp).flatMap (leBytes 2))
  (v.withCal { v.cal with jobs := rest }).modCal n (fun c => { c with waiting := some (temp, own) })

theorem exec_interpDone {temp : Int} {own : Bool} {rest : List (Nat × Int × Bool)} (hj : s.cal.jobs = (n, temp, own) :: rest) :
    exec (.interpDone n) s = .next (interpolated s.begin n temp own rest) := by
  show execInterpDone n s = _
  unfold execInterpDone
  dsimp only
  rw [show s.begin.cal.jobs = (n, temp, own) :: rest from hj]
  dsimp only
  rw [if_pos rfl, interpolated, gains]

theorem begin_le (s : State) (a k : Nat) : s.begin.le a k = s.le a k := by
  have hb : ∀ k a, s.begin.bytes a k = s.bytes a k := fun k => by
    induction k with
    | zero => exact fun _ => rfl
    | succ k ih => exact fun a => by simp only [State.bytes, begin_byte, ih]
  rw [State.le, State.le, hb]

theorem begin_gainAt (s : State) (n i : Nat) (temp : Int) : s.begin.gainAt n i temp = s.gainAt n i temp := by
  unfold State.gainAt State.blockK State.calT
  simp only [begin_le]

/-- The banks' entries stand two bytes apart. -/
theorem bankAddr_entry (n b i : Nat) : bankAddr n b i = bankAddr n b 0 + 2 * i := by
  simp only [bankAddr]
  omega

theorem jobsDone_mem (s : State) (rest : List (Nat × Int × Bool)) (n : Nat) (f : CalTile → CalTile) :
    ((s.withCal { s.cal with jobs := rest }).modCal n f).mem = s.mem := rfl

theorem jobsDone_tile (s : State) (rest : List (Nat × Int × Bool)) (n k : Nat) (f : CalTile → CalTile) :
    ((s.withCal { s.cal with jobs := rest }).modCal n f).calTile k = if n = k ∧ k < s.cal.tiles.length then f (s.calTile k) else s.calTile k :=
  modCal_tile (s.withCal { s.cal with jobs := rest }) n k f

theorem interpolated_leaves (s : State) (temp : Int) (own : Bool) (rest : List (Nat × Int × Bool)) (hl : s.cal.tiles.length = 8) (hn : n < 8) :
    let a := bankAddr n (1 - (s.calTile n).bank)
    let t := interpolated s n temp own rest
    (∀ i, i < 4096 → t.le (a i) 2 = s.gainAt n i temp % 65536) ∧ (∀ x, x < a 0 ∨ a 0 + 8192 ≤ x → t.byte x = s.byte x) ∧ t.cal.jobs = rest
      ∧ t.calTile n = { s.calTile n with waiting := some (temp, own) } ∧ (∀ k, k ≠ n → t.calTile k = s.calTile k) ∧ s.Only [] [.mem, .cal] t := by
  intro a t
  have hcal : ∀ (a : Nat) (l : List Byte), (s.setBytes a l).cal = s.cal := fun a l =>
    within_cal (setBytes_fits (f := Foot.of [] [.mem]) a l rfl (fits_refl _ s)).within rfl rfl
  have hcalTile : ∀ (a : Nat) (l : List Byte) (k : Nat), (s.setBytes a l).calTile k = s.calTile k := fun a l k => by
    rw [State.calTile, State.calTile, hcal]
  have hmem : t.mem = (s.setBytes (a 0) ((gains s n temp).flatMap (leBytes 2))).mem := by
    simp only [t, interpolated, a]
    exact jobsDone_mem ..
  have hbyte : ∀ x, t.byte x = (s.setBytes (a 0) ((gains s n temp).flatMap (leBytes 2))).byte x := fun x => by rw [State.byte, State.byte, hmem]
  have hle : ∀ x, t.le x 2 = (s.setBytes (a 0) ((gains s n temp).flatMap (leBytes 2))).le x 2 := fun x => by
    simp only [State.le, State.bytes, hbyte]
  have htile : ∀ k, t.calTile k = if n = k ∧ k < 8 then { s.calTile k with waiting := some (temp, own) } else s.calTile k := fun k => by
    simp only [t, interpolated]
    rw [jobsDone_tile, hcalTile, hcal, hl]
  refine ⟨fun i hi => ?_, fun x hx => ?_, rfl, (htile n).trans (if_pos ⟨rfl, hn⟩), fun k hk => (htile k).trans (if_neg (fun h => hk h.1.symm)), ?_⟩
  · rw [hle, show a i = a 0 + 2 * i from bankAddr_entry ..]
    rw [table_le s (a 0) (gains s n temp) (by rwa [gains_length]), gains_at s temp hi]
  · rw [hbyte, setBytes_byte, if_neg (by rw [table_length, gains_length]; omega)]
  · exact only_withCal (by simp) (only_withCal (by simp) (only_mono (by simp) (by simp) (setBytes_only s _ _)))

/-! ### Trims -/

/-- The codes after a run: those found, and the old ones where the search failed. -/
def newCodes (s : State) (codes : List (Option Nat)) : Cal :=
  { s.cal with
    trimAgain := false
    codes := (List.range (max codes.length s.cal.codes.length)).map (fun i => (codes.getD i none).getD (s.cal.codes.getD i 0)) }

/-- A run whose search failed somewhere. -/
def trimSearched (s : State) (codes : List (Option Nat)) : State :=
  if codes.any Option.isNone then ((s.withCal (newCodes s codes)).evt F.CAL_EVT_TRIM_FAIL).raise S.CAL_TRIM_FAIL 0 else s.withCal (newCodes s codes)

/-- The end of a run. -/
def trimEnded (s : State) (again : Bool) : State :=
  (((s.evt F.CAL_EVT_TRIM_DONE).put F.CAL_TRIM_T_TRIM (unsigned 16 s.dieMax)).incSat F.CAL_TRIM_RUNS).put F.CAL_STAT_TRIM_BUSY (bit again)

theorem exec_trimDone {codes : List (Option Nat)} (h : s.on F.CAL_STAT_TRIM_BUSY = true) :
    exec (.trimDone codes) s = .next (trimEnded (trimSearched s.begin codes) s.cal.trimAgain) :=
  congrArg Host.Outcome.next (if_pos h)

theorem trimSearched_g (s : State) (codes : List (Option Nat)) {x : Fld} (hx : quietField x = true) (h1 : sep F.CAL_EVT_TRIM_FAIL x = true)
    (h2 : sep (F.UNIT_IRQ_STAT_EVT 0x48) x = true) : (trimSearched s codes).g x = s.g x :=
  ite_g (fun _ => (raise_g _ _ _ hx).trans ((g_evt_sep _ h1 h2).trans (withCal_g ..))) (fun _ => withCal_g ..)

theorem trimSearched_cal (s : State) (codes : List (Option Nat)) : (trimSearched s codes).cal = newCodes s codes := by
  unfold trimSearched
  split_ifs
  · exact (within_cal (raise_fits (g := Foot.reaction [0x48] []) _ S.CAL_TRIM_FAIL 0 (by decide) (by decide) (fits_refl _ _)).within rfl rfl).trans
      ((evt_cal ..).trans rfl)
  · rfl

theorem trimEnded_g (s : State) (again : Bool) {x : Fld} (h1 : sep F.CAL_EVT_TRIM_DONE x = true) (h2 : sep (F.UNIT_IRQ_STAT_EVT 0x48) x = true)
    (h3 : sep F.CAL_TRIM_T_TRIM x = true) (h4 : sep F.CAL_TRIM_RUNS x = true) (h5 : sep F.CAL_STAT_TRIM_BUSY x = true) :
    (trimEnded s again).g x = s.g x :=
  (g_put_sep _ _ h5).trans ((g_incSat_sep _ h4).trans ((g_put_sep _ _ h3).trans (g_evt_sep _ h1 h2)))

theorem trimEnded_reads (s : State) (again : Bool) :
    (trimEnded s again).on F.CAL_STAT_TRIM_BUSY = again ∧ (trimEnded s again).on F.CAL_EVT_TRIM_DONE = true
      ∧ (trimEnded s again).g F.CAL_TRIM_T_TRIM = unsigned 16 s.dieMax
      ∧ (trimEnded s again).g F.CAL_TRIM_RUNS = min F.CAL_TRIM_RUNS.top (s.g F.CAL_TRIM_RUNS + 1) ∧ (trimEnded s again).cal = s.cal := by
  refine ⟨?_, ?_, ?_, ?_, ?_⟩
  · cases again
    · exact on_put_clear _ rfl
    · exact on_put_set _ rfl
  · exact (on_put_sep _ _ rfl).trans ((on_incSat_sep _ rfl).trans ((on_put_sep _ _ rfl).trans (on_evt_self _ rfl)))
  · exact (g_put_sep _ _ rfl).trans ((g_incSat_sep _ rfl).trans (g_put_self (by decide) (by decide) (unsigned_lt ..)))
  · refine (g_put_sep _ _ rfl).trans ((g_incSat (by decide) (by decide) (g_le_top _ _)).trans ?_)
    rw [show ((s.evt F.CAL_EVT_TRIM_DONE).put F.CAL_TRIM_T_TRIM (unsigned 16 s.dieMax)).g F.CAL_TRIM_RUNS = s.g F.CAL_TRIM_RUNS from
      (g_put_sep _ _ rfl).trans (g_evt_sep _ rfl rfl)]
  · simp [trimEnded]

theorem trimEnded_only (s : State) (again : Bool) :
    s.Only [F.CAL_EVT_TRIM_DONE, F.UNIT_IRQ_STAT_EVT 0x48, F.CAL_TRIM_T_TRIM, F.CAL_TRIM_RUNS, F.CAL_STAT_TRIM_BUSY] [.cal] (trimEnded s again) :=
  only_put _ (by simp) (by decide) (only_incSat (by simp) (by decide) (only_put _ (by simp) (by decide)
    (only_evt (by simp) (by simp [F.CAL_EVT_TRIM_DONE]) (by decide) (only_refl _ _ _))))

theorem trimEnded_fits (s : State) (again : Bool) {s0 : State} (h : s0.Fits (Foot.reaction [0x48] [.cal]) s) :
    s0.Fits (Foot.reaction [0x48] [.cal]) (trimEnded s again) :=
  put_fits _ (by decide) (incSat_fits (by decide) (put_fits _ (by decide) (evt_fits (by decide) h)))

/-- Settles O31, along the commands and the ends of the two kinds of run. -/
theorem calibration : Obligations.Calibration := by
  unfold Obligations.Calibration
  refine ⟨?start, ?load, ?done, ?idle, ?trim, ?again, ?ended, ?quiet⟩
  case start =>
    intro s m v n hm hw hn hv hl hj
    have hcmd : s.begin.calCmd v = s.begin.calStartNow n := (calCmd_one hn hv).trans (if_neg (show ¬ (s.calTile n).load = true by simp [hl]))
    refine ⟨_, (exec_interpCmd hm hw).trans (congrArg Host.Outcome.next hcmd), ?_⟩
    unfold State.calStartNow
    rw [show s.begin.lane n = s.lane n from rfl]
    cases (s.lane n).statusAt.isSome
    · rw [show s.begin.calT n 1 = s.calT n 1 by simp only [State.calT, begin_le]]
      exact calStart_idle (s := s.begin) hj _ _
    · exact calStart_idle (s := s.begin) hj _ _
  case load =>
    intro s m v n hm hw hn hv hl
    exact (exec_interpCmd hm hw).trans (congrArg Host.Outcome.next ((calCmd_one hn hv).trans (if_pos hl)))
  case done =>
    intro s n temp own rest hj hl hn
    obtain ⟨h1, h2, h3, h4, h5, h6⟩ := interpolated_leaves s.begin temp own rest hl hn
    exact ⟨_, exec_interpDone hj, fun i hi => (h1 i hi).trans (by rw [begin_gainAt]), fun x hx => (h2 x hx).trans (begin_byte ..), h3, h4, h5, h6⟩
  case idle =>
    intro s n h
    show execInterpDone n s = _
    unfold execInterpDone
    dsimp only
    rw [show s.begin.cal.jobs = s.cal.jobs from rfl]
    cases hj : s.cal.jobs with
    | nil => rfl
    | cons j rest => exact congrArg Host.Outcome.next (if_neg (h j (by rw [hj]; rfl)))
  case trim =>
    intro s m v hm hw hv hb
    refine ⟨_, (exec_trimCmd hm hw).trans (congrArg Host.Outcome.next ((calCmd_trims hv).trans (if_neg (by rw [begin_on, hb]; decide)))), on_put_set _ rfl,
      only_put _ (by simp) (by decide) (only_refl _ _ _)⟩
  case again =>
    intro s m v hm hw hv hb
    exact ⟨_, (exec_trimCmd hm hw).trans (congrArg Host.Outcome.next ((calCmd_trims hv).trans (if_pos hb))), rfl,
      only_withCal (by simp) (only_refl _ _ _)⟩
  case ended =>
    intro s codes hb
    obtain ⟨h1, h2, h3, h4, h5⟩ := trimEnded_reads (trimSearched s.begin codes) s.cal.trimAgain
    have hmax : (trimSearched s.begin codes).dieMax = s.dieMax := by
      rw [State.dieMax, trimSearched_g _ _ (by decide) rfl rfl, begin_g, State.dieMax]
    have hfits : s.Fits (Foot.reaction [0x48] [.cal]) (trimSearched s.begin codes) := by
      have h0 : s.Fits (Foot.reaction [0x48] [.cal]) (s.begin.withCal (newCodes s.begin codes)) :=
        withCal_fits _ keep_refl rfl (begin_fits s (by decide) (fits_refl _ s))
      exact fits_ite (raise_fits _ _ _ (by decide) (by decide) (evt_fits (by decide) h0)) h0
    refine ⟨_, exec_trimDone hb, ?_, h1, h2, by rw [h3, hmax], ?_, fun hf => ⟨?_, fun hd => ?_⟩, fun hf => ?_, (trimEnded_fits _ _ hfits).within⟩
    · rw [h5, trimSearched_cal]
      rfl
    · rw [h4, trimSearched_g _ _ (by decide) rfl rfl, begin_g]
    · refine (on_congr (trimEnded_g _ _ rfl rfl rfl rfl rfl)).trans ?_
      rw [trimSearched, if_pos hf]
      exact (on_congr (raise_g _ _ _ (by decide))).trans (on_evt_self _ rfl)
    · refine (on_congr (trimEnded_g _ _ rfl rfl rfl rfl rfl)).trans ?_
      rw [trimSearched, if_pos hf]
      refine raise_pend _ _ (by decide) ?_
      rw [State.defLevel, on_evt_sep _ rfl rfl, g_evt_sep _ rfl rfl]
      exact hd
    · refine only_trans ?_ (trimEnded_only _ _)
      rw [trimSearched, if_neg (by simp [hf])]
      exact only_withCal (by simp) (only_refl _ _ _)
  case quiet => exact fun s codes hb => congrArg Host.Outcome.next (if_neg (by rw [begin_on, hb]; decide))

end Sys2Proof.Proofs.CalibrationRuns
end

section
/-! PROOF. The safety outputs (SafetyOutputs). -/

namespace Sys2Proof.Proofs.SafetyOuts

open Sys2Proof.Machine Sys2Proof.Laws Sys2Proof.Proofs.Architecture Sys2Proof.Proofs.Reading Sys2Proof.Proofs.GovernorSums
  Sys2Proof.Proofs.QuartzRoot Sys2Proof.Proofs.LampReactions Sys2Proof.Proofs.LampLanes

variable {s t u : State} {k n : Nat}

/-! ### A lock-out that begins -/

/-- A field that the switching off of both outputs leaves. -/
theorem soutsOff_keeps (s : State) {f : Fld} (h0 : (F.SAF_SOUT_STAT_STATE 0).apart f = true) (h1 : (F.SAF_SOUT_STAT_STATE 1).apart f = true)
    (hc : F.SAF_SOUT_CTRL_ON.apart f = true) (hp : groupPage f.page ≠ 0x50) : s.soutsOff.g f = s.g f := by
  unfold State.soutsOff
  rw [soutLow_g _ _ h1 (by decide) hp, soutLow_g _ _ h0 (by decide) hp, g_put_other _ _ _ _ (by decide) hc]

/-- The first trigger of a command on an unlocked device fixes the reason, and takes the field from every state but INIT. -/
theorem trigger_fresh (s : State) {code detail : Nat} (h0 : s.saf.trigNow = 0) (hl : s.on F.SAF_STAT_LOCKED = false)
    (hc : room F.SAF_REASON_REASON code = true) (hd : room F.SAF_REASON_DETAIL detail = true) :
    (s.trigger code detail).g F.SAF_REASON_REASON = code ∧ (s.trigger code detail).g F.SAF_REASON_DETAIL = detail
      ∧ (s.trigger code detail).g F.SAF_STAT_FSTATE = if s.g F.SAF_STAT_FSTATE = 0 then 0 else 4 := by
  unfold State.trigger State.recordReact
  rw [if_neg (by rw [h0]; decide), if_neg (by rw [h0]; decide), if_neg (by rw [hl]; decide)]
  extract_lets hiz v1 v2 v3 v4 v5
  have hbase : ∀ {x : Fld}, sep F.SAF_EVT_REACT x = true → sep F.SAF_EVT_LOCK x = true → sep (F.UNIT_IRQ_STAT_EVT 0x68) x = true →
      sep F.SAF_CNT_REACTIONS x = true → v4.g x = v3.g x := fun h1 h2 h3 h4 =>
    (g_incSat_sep _ h4).trans ((g_evt_sep _ h2 h3).trans (g_evt_sep _ h1 h3))
  have hreason : v4.g F.SAF_REASON_REASON = code := (hbase rfl rfl rfl rfl).trans ((g_put_sep _ _ rfl).trans ((g_put_sep _ _ rfl).trans
    ((g_put_sep _ _ rfl).trans ((g_put_sep _ _ rfl).trans (g_put_room _ hc)))))
  have hdetail : v4.g F.SAF_REASON_DETAIL = detail := (hbase rfl rfl rfl rfl).trans ((g_put_sep _ _ rfl).trans ((g_put_sep _ _ rfl).trans
    ((g_put_sep _ _ rfl).trans (g_put_room _ hd))))
  have hstate : v4.g F.SAF_STAT_FSTATE = s.g F.SAF_STAT_FSTATE := (hbase rfl rfl rfl rfl).trans ((g_put_sep _ _ rfl).trans ((g_put_sep _ _ rfl).trans
    ((g_put_sep _ _ rfl).trans ((g_put_sep _ _ rfl).trans ((g_put_sep _ _ rfl).trans ((g_put_sep _ _ rfl).trans (g_put_sep _ _ rfl)))))))
  have hev : ∀ {x : Fld}, clear recordFields x = true → ∀ (w : Saf) (d : List Byte), ((v5.withSaf w).event 0x6880 d).g x = v5.g x :=
    fun hx w d => (event_g _ _ _ hx).trans (withSaf_g ..)
  have h5 : ∀ {x : Fld}, (F.SAF_SOUT_STAT_STATE 0).apart x = true → (F.SAF_SOUT_STAT_STATE 1).apart x = true → F.SAF_SOUT_CTRL_ON.apart x = true →
      groupPage x.page ≠ 0x50 → sep F.SAF_STAT_FSTATE x = true → v5.g x = v4.g x := fun a b c d e => by
    show (ite _ _ _ : State).g _ = _
    split_ifs
    · rfl
    · exact (soutsOff_keeps _ a b c d).trans (g_put_sep _ _ e)
  refine ⟨(hev (by decide) _ _).trans ((h5 (by decide) (by decide) (by decide) (by decide) rfl).trans hreason),
    (hev (by decide) _ _).trans ((h5 (by decide) (by decide) (by decide) (by decide) rfl).trans hdetail), (hev (by decide) _ _).trans ?_⟩
  show (ite _ _ _ : State).g _ = _
  by_cases hz : s.g F.SAF_STAT_FSTATE = 0
  · rw [if_pos (c := hiz) hz, if_pos hz, hstate, hz]
  · rw [if_neg (c := hiz) hz, if_neg hz]
    exact (soutsOff_keeps _ (by decide) (by decide) (by decide) (by decide)).trans (g_put_room _ rfl)

/-! ### Outputs through a fault -/

theorem sout_places : ∀ k < 2, lampField (F.SAF_SOUT_STAT_CAUSE k) = true ∧ lampField (F.SAF_SOUT_STAT_RB k) = true
    ∧ room (F.SAF_SOUT_STAT_STATE k) 3 = true ∧ room (F.SAF_SOUT_STAT_STATE k) 2 = true ∧ room (F.SAF_SOUT_STAT_STATE k) 1 = true := by decide

theorem sout_others : ∀ k < 2, ∀ j < 2, k ≠ j → sep (F.SAF_SOUT_STAT_STATE k) (F.SAF_SOUT_STAT_STATE j) = true := by decide

/-- A state of an output that is not ON stands through faults and triggers. -/
theorem state_reacts (s : State) (hk : k < 2) {v : Nat} (hv : v ≠ 2) : Reacts s (fun u => u.g (F.SAF_SOUT_STAT_STATE k) = v) := by
  refine ⟨fun {u} x w hx hu => ?_, fun _ hu => hu, fun _ hu => hu, fun _ _ hu => hu, fun _ _ _ hu => hu, fun {u} j hj _ h2 hu => ?_,
    fun {u} j _ _ _ hu => ?_⟩
  · simp only [reacts, Bool.and_eq_true, decide_eq_true_eq] at hx
    obtain ⟨⟨⟨⟨hh, -⟩, h0⟩, h1⟩, -⟩ := hx
    refine (g_put_other _ _ _ _ hh ?_).trans hu
    interval_cases k
    · exact h0
    · exact h1
  · have hjk : j ≠ k := fun h => hv (by rw [← hu, ← h]; exact h2)
    exact (g_put_sep _ _ (sout_others j hj k hk hjk)).trans hu
  · exact (laneOff_g u j (by simp [F.SAF_SOUT_STAT_STATE, groupPage])).trans hu

theorem getD_set_init (l : List Sout) (j k : Nat) (h : l.getD k Sout.init = Sout.init) : (l.set j Sout.init).getD k Sout.init = Sout.init := by
  simp only [List.getD_eq_getElem?_getD, List.getElem?_set] at h ⊢
  split_ifs
  · rfl
  · rfl
  · exact h

/-- An output that is off stays so. -/
theorem low_reacts (s : State) (k : Nat) : Reacts s (fun u => u.saf.souts.getD k Sout.init = Sout.init) :=
  ⟨fun x v _ hu => by rw [put_saf]; exact hu, fun _ hu => hu, fun _ hu => hu, fun _ _ hu => hu, fun j _ _ hu => getD_set_init _ j k hu,
    fun j _ _ _ hu => by rw [put_saf]; exact hu, fun {u} j _ _ _ hu => by
      rw [within_saf (laneOff_fits (g := Foot.of [0x50] [.lanes]) u j (by decide) (fits_refl _ u)).within rfl rfl]
      exact hu⟩

/-- A tile without power. -/
def TileDark (n : Nat) (u : State) : Prop := u.tlst n = 0 ∧ (u.lane n).assigned = false

theorem laneOff_dark (u : State) {j : Nat} (hj : j < 8) (hn : n < 8) (h : TileDark n u ∨ j = n) : TileDark n (u.laneOff j) := by
  rw [TileDark, laneOff_tlst u hj hn, laneOff_lane]
  by_cases hjn : j = n
  · rw [if_pos hjn, if_pos hjn]
    exact ⟨rfl, rfl⟩
  · rw [if_neg hjn, if_neg hjn]
    exact h.resolve_right hjn

theorem dark_reacts (s : State) (hn : n < 8) : Reacts s (TileDark n) :=
  ⟨fun {u} x v hx hu => ⟨(tlst_put u v (reacts_apart_state n hx).2 (reacts_apart_state n hx).1).trans hu.1, by rw [put_lane]; exact hu.2⟩,
    fun _ hu => hu, fun _ hu => hu, fun _ _ hu => hu, fun _ _ _ hu => hu,
    fun {u} k _ _ _ hu => ⟨(g_put_sep u 1 (sout_sep_state k n)).trans hu.1, by rw [put_lane]; exact hu.2⟩,
    fun {u} j hj _ _ hu => laneOff_dark u hj hn (.inl hu)⟩

/-- What switching one output off leaves of it. -/
theorem soutLow_sout (s : State) (k : Nat) : (s.soutLow k).saf.souts.getD k Sout.init = Sout.init := by
  have hset : ∀ l : List Sout, (l.set k Sout.init).getD k Sout.init = Sout.init := fun l => by
    simp only [List.getD_eq_getElem?_getD, List.getElem?_set]
    split_ifs <;> rfl
  unfold State.soutLow
  extract_lets vs v w
  have hw : w.saf.souts.getD k Sout.init = Sout.init := by
    simp only [w]
    split_ifs
    · rw [put_saf]
      exact hset _
    · exact hset _
  refine List.foldlRecOn (motive := fun u : State => u.saf.souts.getD k Sout.init = Sout.init) (List.range 8) _ hw (fun u hu j _ => ?_)
  split_ifs
  · rw [within_saf (laneOff_fits (g := Foot.of [0x50] [.lanes]) u j (by decide) (fits_refl _ u)).within rfl rfl]
    exact hu
  · exact hu

theorem soutLow_trigNow (s : State) (k : Nat) : (s.soutLow k).saf.trigNow = s.saf.trigNow := by
  unfold State.soutLow
  extract_lets vs v w
  have hw : w.saf.trigNow = s.saf.trigNow := by
    simp only [w]
    split_ifs
    · rw [put_saf]
      rfl
    · rfl
  refine List.foldlRecOn (motive := fun u : State => u.saf.trigNow = s.saf.trigNow) (List.range 8) _ hw (fun u hu j _ => ?_)
  split_ifs
  · rw [within_saf (laneOff_fits (g := Foot.of [0x50] [.lanes]) u j (by decide) (fits_refl _ u)).within rfl rfl]
    exact hu
  · exact hu

theorem soutLow_state (s : State) (h : s.g (F.SAF_SOUT_STAT_STATE k) ≠ 2) :
    (s.soutLow k).g (F.SAF_SOUT_STAT_STATE k) = s.g (F.SAF_SOUT_STAT_STATE k) := by
  unfold State.soutLow
  extract_lets vs v w
  have hw : w.g (F.SAF_SOUT_STAT_STATE k) = s.g (F.SAF_SOUT_STAT_STATE k) := by
    have hv : ¬ v.g (F.SAF_SOUT_STAT_STATE k) = 2 := h
    simp only [w, if_neg hv]
    rfl
  refine List.foldlRecOn (motive := fun u : State => u.g (F.SAF_SOUT_STAT_STATE k) = s.g (F.SAF_SOUT_STAT_STATE k)) (List.range 8) _ hw (fun u hu j _ => ?_)
  split_ifs
  · exact (laneOff_g u j (by simp [F.SAF_SOUT_STAT_STATE, groupPage])).trans hu
  · exact hu

/-- The tiles of an output that is switched off lose their power. -/
theorem lanesOff_dark (k : Nat) (hn : n < 8) (l : List Nat) (hl : ∀ j ∈ l, j < 8) (u : State)
    (h : TileDark n u ∨ (n ∈ l ∧ tbit (u.soutTiles k) n = true)) :
    TileDark n (l.foldl (fun s j => if tbit (s.soutTiles k) j then s.laneOff j else s) u) := by
  induction l generalizing u with
  | nil => exact h.resolve_right (fun h => absurd h.1 List.not_mem_nil)
  | cons j l ih =>
    have hj := hl j List.mem_cons_self
    refine ih (fun i hi => hl i (List.mem_cons_of_mem _ hi)) _ ?_
    have htiles : (if tbit (u.soutTiles k) j then u.laneOff j else u).soutTiles k = u.soutTiles k := by
      split_ifs
      · exact laneOff_g u j (by simp [groupPage])
      · rfl
    dsimp only
    rw [htiles]
    rcases h with h | ⟨hmem, ht⟩
    · left
      split_ifs
      · exact laneOff_dark u hj hn (.inl h)
      · exact h
    · rcases List.mem_cons.1 hmem with rfl | hmem
      · left
        rw [if_pos ht]
        exact laneOff_dark u hj hn (.inr rfl)
      · exact .inr ⟨hmem, ht⟩

theorem soutLow_dark (s : State) (hn : n < 8) (h : tbit (s.soutTiles k) n = true) (hs : sep (F.SAF_SOUT_STAT_STATE k) ⟨0x68, 0x74 + 4 * k, 15, 8⟩ = true) :
    TileDark n (s.soutLow k) := by
  unfold State.soutLow
  extract_lets vs v w
  have hw : w.soutTiles k = s.soutTiles k := by
    simp only [w]
    split_ifs
    · exact g_put_sep v 1 hs
    · rfl
  exact lanesOff_dark k hn (List.range 8) (fun j hj => List.mem_range.1 hj) w (.inr ⟨List.mem_range.2 hn, by rw [hw]; exact h⟩)

/-! ### A fault of an output -/

theorem settle_idle (h : s.g F.SAF_STAT_FSTATE = 0 ∨ s.g F.SAF_STAT_FSTATE = 4) : s.settle = s := by
  unfold State.settle
  extract_lets f
  have hf : f = 0 ∨ f = 4 := h
  rw [if_neg (by rcases hf with hf | hf <;> simp [hf]), if_neg (by rcases hf with hf | hf <;> simp [hf])]

theorem settle_lane (s : State) (n : Nat) : s.settle.lane n = s.lane n := by
  rw [State.lane, within_lanes (settle_fits (g := Foot.of [0x68] []) s (by decide) (fits_refl _ s)).within rfl rfl, State.lane]

theorem settle_saf (s : State) : s.settle.saf = s.saf := within_saf (settle_fits (g := Foot.of [0x68] []) s (by decide) (fits_refl _ s)).within rfl rfl

/-- An output in FAULT, before the fault is raised. -/
def soutFailed (s : State) (k cause : Nat) : State :=
  (((s.put (F.SAF_SOUT_STAT_STATE k) 3).put (F.SAF_SOUT_STAT_CAUSE k) cause).soutLow k).evt F.SAF_EVT_SOUT_FAULT

theorem soutFault_eq (s : State) (k cause : Nat) : s.soutFault k cause = ((soutFailed s k cause).raiseTrig S.SAF_SOUT_FAULT k 3 k false).settle := rfl

theorem sout_marks : ∀ k < 2, sep (F.SAF_SOUT_STAT_CAUSE k) (F.SAF_SOUT_STAT_STATE k) = true
    ∧ sep F.SAF_EVT_SOUT_FAULT (F.SAF_SOUT_STAT_STATE k) = true ∧ sep F.SAF_EVT_SOUT_FAULT (F.SAF_SOUT_STAT_CAUSE k) = true
    ∧ sep (F.SAF_SOUT_STAT_STATE k) (F.SAF_SOUT_STAT_CAUSE k) = true
    ∧ (F.SAF_STAT_FSTATE.apart (F.SAF_SOUT_STAT_STATE k) && F.SAF_STAT_FSTATE.apart (F.SAF_SOUT_STAT_CAUSE k)) = true := by decide

/-- A field outside the outputs' state words, as the failing of an output leaves it. -/
theorem soutFailed_g (s : State) (k cause : Nat) {f : Fld} (h1 : sep (F.SAF_SOUT_STAT_STATE k) f = true) (h2 : sep (F.SAF_SOUT_STAT_CAUSE k) f = true)
    (h3 : sep F.SAF_EVT_SOUT_FAULT f = true) (h4 : sep (F.UNIT_IRQ_STAT_EVT 0x68) f = true) (hp : groupPage f.page ≠ 0x50) :
    (soutFailed s k cause).g f = s.g f :=
  (g_evt_sep _ h3 h4).trans ((soutLow_g _ _ (sep_apart h1) (sep_hi h1) hp).trans ((g_put_sep _ _ h2).trans (g_put_sep _ _ h1)))

theorem soutFailed_trigNow (s : State) (k cause : Nat) : (soutFailed s k cause).saf.trigNow = s.saf.trigNow := by
  unfold soutFailed
  rw [evt_saf, soutLow_trigNow, put_saf, put_saf]

theorem sout_seps : ∀ k < 2, F.SAF_STAT_FSTATE.apart (F.SAF_SOUT_STAT_RB k) = true ∧ sep (F.SAF_SOUT_STAT_STATE k) (F.SAF_SOUT_STAT_RB k) = true
    ∧ sep (F.SAF_SOUT_STAT_CAUSE k) (F.SAF_SOUT_STAT_RB k) = true ∧ sep F.SAF_EVT_SOUT_FAULT (F.SAF_SOUT_STAT_RB k) = true
    ∧ sep (F.UNIT_IRQ_STAT_EVT 0x68) (F.SAF_SOUT_STAT_RB k) = true ∧ sep (F.SAF_SOUT_STAT_STATE k) ⟨0x68, 0x74 + 4 * k, 15, 8⟩ = true
    ∧ sep (F.SAF_SOUT_STAT_CAUSE k) ⟨0x68, 0x74 + 4 * k, 15, 8⟩ = true ∧ sep (F.SAF_SOUT_STAT_STATE k) F.FLT_CTRL_MODE = true
    ∧ sep (F.SAF_SOUT_STAT_CAUSE k) F.FLT_CTRL_MODE = true ∧ sep (F.SAF_SOUT_STAT_STATE k) (fltSev S.SAF_SOUT_FAULT) = true
    ∧ sep (F.SAF_SOUT_STAT_CAUSE k) (fltSev S.SAF_SOUT_FAULT) = true := by decide

theorem sout_more : ∀ k < 2, sep (F.SAF_SOUT_STAT_CAUSE k) F.SAF_STAT_LOCKED = true ∧ room F.SAF_REASON_DETAIL k = true
    ∧ sep (F.SAF_SOUT_STAT_STATE k) F.SAF_STAT_FSTATE = true ∧ sep (F.SAF_SOUT_STAT_CAUSE k) F.SAF_STAT_FSTATE = true := by decide

theorem f_state_apart (n : Nat) : F.SAF_STAT_FSTATE.apart (F.TL_STAT_STATE n) = true := sep_apart rfl

theorem soutFault_leaves (s : State) {k cause : Nat} (hk : k < 2) (hc : cause < 4) (h0 : s.saf.trigNow = 0) :
    let t := s.soutFault k cause
    t.g (F.SAF_SOUT_STAT_STATE k) = 3 ∧ t.g (F.SAF_SOUT_STAT_CAUSE k) = cause ∧ t.g (F.SAF_SOUT_STAT_RB k) = s.g (F.SAF_SOUT_STAT_RB k)
      ∧ t.saf.souts.getD k Sout.init = Sout.init ∧ (∀ n, n < 8 → tbit (s.soutTiles k) n = true → TileDark n t)
      ∧ t.on F.SAF_EVT_SOUT_FAULT = true ∧ (s.defLevel S.SAF_SOUT_FAULT ≠ 0 → t.on (fltPend S.SAF_SOUT_FAULT) = true)
      ∧ t.on F.SAF_STAT_LOCKED = true
      ∧ (s.on F.SAF_STAT_LOCKED = false → t.g F.SAF_REASON_REASON = 3 ∧ t.g F.SAF_REASON_DETAIL = k
          ∧ (s.g F.SAF_STAT_FSTATE ≠ 0 → t.g F.SAF_STAT_FSTATE = 4)) := by
  intro t
  obtain ⟨lc, lr, r3, -, -⟩ := sout_places k hk
  obtain ⟨m1, m2, m3, m4, m5⟩ := sout_marks k hk
  rw [Bool.and_eq_true] at m5
  have hirq : ∀ k < 2, sep (F.UNIT_IRQ_STAT_EVT 0x68) (F.SAF_SOUT_STAT_STATE k) = true ∧ sep (F.UNIT_IRQ_STAT_EVT 0x68) (F.SAF_SOUT_STAT_CAUSE k) = true
      ∧ room (F.SAF_SOUT_STAT_CAUSE k) 3 = true ∧ (F.SAF_SOUT_STAT_STATE k).page = 0x68 := by decide
  obtain ⟨i1, i2, i3, -⟩ := hirq k hk
  have hw := soutFailed_trigNow s k cause
  have hst : (soutFailed s k cause).g (F.SAF_SOUT_STAT_STATE k) = 3 := by
    have h3 : ((s.put (F.SAF_SOUT_STAT_STATE k) 3).put (F.SAF_SOUT_STAT_CAUSE k) cause).g (F.SAF_SOUT_STAT_STATE k) = 3 :=
      (g_put_sep _ _ m1).trans (g_put_room _ r3)
    exact (g_evt_sep _ m2 i1).trans ((soutLow_state _ (by rw [h3]; decide)).trans h3)
  have hcause : (soutFailed s k cause).g (F.SAF_SOUT_STAT_CAUSE k) = cause := by
    refine (g_evt_sep _ m3 i2).trans ((soutLow_g _ _ (sep_apart m4) (sep_hi m4) (by simp [F.SAF_SOUT_STAT_CAUSE, groupPage])).trans ?_)
    exact g_put_self (by simp [F.SAF_SOUT_STAT_CAUSE]) (by simp [F.SAF_SOUT_STAT_CAUSE]) (by simpa [F.SAF_SOUT_STAT_CAUSE] using hc)
  generalize hwdef : soutFailed s k cause = w at hw hst hcause
  have hwg : ∀ {f : Fld}, sep (F.SAF_SOUT_STAT_STATE k) f = true → sep (F.SAF_SOUT_STAT_CAUSE k) f = true → sep F.SAF_EVT_SOUT_FAULT f = true →
      sep (F.UNIT_IRQ_STAT_EVT 0x68) f = true → groupPage f.page ≠ 0x50 → w.g f = s.g f := fun a b c d e => hwdef ▸ soutFailed_g s k cause a b c d e
  have ht : t = (w.raiseTrig S.SAF_SOUT_FAULT k 3 k false).settle := by rw [← hwdef]; exact soutFault_eq s k cause
  have htrig : w.raiseTrig S.SAF_SOUT_FAULT k 3 k false = (w.raiseWith S.SAF_SOUT_FAULT k 0 false true).trigger 3 k := rfl
  have hcore : (w.raiseWith S.SAF_SOUT_FAULT k 0 false true).saf.trigNow = 0 := by rw [raiseWith_saf, hw, h0]
  have hkeep : ∀ {f : Fld}, lampField f = true → F.SAF_STAT_FSTATE.apart f = true → t.g f = w.g f := fun hf ha => by
    rw [ht, settle_g _ ha]
    exact raiseTrig_lamp w _ _ _ _ _ hf
  obtain ⟨r1, r2, r3, r4, r5, r6, r7, r8, r9, r10⟩ := sout_seps k hk
  have hlocked : (w.raiseTrig S.SAF_SOUT_FAULT k 3 k false).on F.SAF_STAT_LOCKED = true := by rw [htrig]; exact trigger_locked _ _ _ hcore
  refine ⟨?_, (hkeep lc m5.2).trans hcause, (hkeep lr r1).trans (hwg r2 r3 r4 r5 (by simp [F.SAF_SOUT_STAT_RB, groupPage])), ?_, fun n hn htile => ?_, ?_,
    fun hd => ?_, ?_, fun hl => ?_⟩
  · rw [ht, settle_g _ m5.1]
    exact (state_reacts w hk (by decide)).raiseTrig _ _ _ _ _ id hst
  · rw [ht, settle_saf]
    refine (low_reacts w k).raiseTrig _ _ _ _ _ id ?_
    rw [← hwdef, soutFailed, evt_saf]
    exact soutLow_sout _ k
  · have hdark : TileDark n w := by
      rw [← hwdef]
      have h := soutLow_dark ((s.put (F.SAF_SOUT_STAT_STATE k) 3).put (F.SAF_SOUT_STAT_CAUSE k) cause) (k := k) hn
        (by rw [State.soutTiles, g_put_sep _ _ r7, g_put_sep _ _ r6]; exact htile) r6
      exact ⟨(g_evt_sep _ rfl rfl).trans h.1, by rw [soutFailed, evt_lane]; exact h.2⟩
    obtain ⟨h1, h2⟩ := (dark_reacts w hn).raiseTrig S.SAF_SOUT_FAULT k 3 k false id hdark
    rw [ht]
    exact ⟨(settle_g _ (f_state_apart n)).trans h1, by rw [settle_lane]; exact h2⟩
  · refine (on_congr (hkeep (by decide) (by decide))).trans ?_
    rw [← hwdef]
    exact on_evt_self _ rfl
  · rw [ht]
    refine (on_congr (settle_g _ (by decide))).trans (raiseTrig_pend _ _ _ _ _ (by decide) ?_)
    rw [State.defLevel, on_congr (hwg r8 r9 (by decide) (by decide) (by decide)), hwg r10.1 r10.2 (by decide) (by decide) (by decide)]
    exact hd
  · rw [ht]
    exact (on_congr (settle_g _ (by decide))).trans hlocked
  · have hcl : (w.raiseWith S.SAF_SOUT_FAULT k 0 false true).on F.SAF_STAT_LOCKED = false := by
      rw [on_congr (core_g w _ _ _ _ (f := F.SAF_STAT_LOCKED) (by decide) (by decide) (by decide)), on_congr (hwg (sout_sep_locked k hk) (sout_more k hk).1 rfl rfl (by decide))]
      exact hl
    obtain ⟨h1, h2, h3⟩ := trigger_fresh (w.raiseWith S.SAF_SOUT_FAULT k 0 false true) (code := 3) (detail := k) hcore hcl (by decide) ((sout_more k hk).2.1)
    have hfs : (w.raiseWith S.SAF_SOUT_FAULT k 0 false true).g F.SAF_STAT_FSTATE = s.g F.SAF_STAT_FSTATE := by
      rw [core_g w _ _ _ _ (f := F.SAF_STAT_FSTATE) (by decide) (by decide) (by decide), hwg (sout_more k hk).2.2.1 (sout_more k hk).2.2.2 rfl rfl (by decide)]
    rw [hfs] at h3
    have hidle : (w.raiseTrig S.SAF_SOUT_FAULT k 3 k false).settle = w.raiseTrig S.SAF_SOUT_FAULT k 3 k false := settle_idle (by
      rw [htrig, h3]
      split_ifs
      · exact .inl rfl
      · exact .inr rfl)
    rw [ht, hidle, htrig]
    exact ⟨h1, h2, fun hn => h3.trans (if_neg hn)⟩

/-! ### Tiles that gain power -/

/-- What decides whether a lane wakes, beside its own state. -/
def laneGate (s : State) (n : Nat) : Bool :=
  s.on (F.UNIT_CTRL_ENABLE (0x51 + n)) && s.on (F.UNIT_CTRL_ENABLE 0x50) && s.on F.CLK_STAT_ROOT_OK && !s.laneHeld n

/-- One lane of an output that gains power. -/
def powerLane (k : Nat) (s : State) (j : Nat) : State := if tbit (s.soutTiles k) j then s.laneWake j else s

theorem laneWake_eq (s : State) (n : Nat) :
    s.laneWake n = if s.tlst n = 0 ∧ laneGate s n = true then (s.put (F.TL_STAT_STATE n) 1).modLane n (fun l => { l with tries := 1 }) else s := by
  have hc : (decide (s.g (F.TL_STAT_STATE n) = 0) && s.on (F.UNIT_CTRL_ENABLE (0x51 + n)) && s.on (F.UNIT_CTRL_ENABLE 0x50) && s.on F.CLK_STAT_ROOT_OK
      && !s.laneHeld n) = true ↔ s.tlst n = 0 ∧ laneGate s n = true := by
    simp only [laneGate, State.tlst, Bool.and_eq_true, decide_eq_true_eq, and_assoc]
  unfold State.laneWake
  by_cases h : s.tlst n = 0 ∧ laneGate s n = true
  · rw [if_pos h, if_pos (hc.2 h)]
  · rw [if_neg h, if_neg (fun hk => h (hc.1 hk))]

theorem powerLane_cases (k : Nat) (s : State) (j : Nat) :
    powerLane k s j = s ∨ powerLane k s j = (s.put (F.TL_STAT_STATE j) 1).modLane j (fun l => { l with tries := 1 }) := by
  unfold powerLane
  rw [laneWake_eq]
  split_ifs
  · exact .inr rfl
  · exact .inl rfl
  · exact .inl rfl

theorem powerLane_g (k : Nat) (s : State) (j : Nat) {f : Fld} (hf : sep (F.TL_STAT_STATE j) f = true) : (powerLane k s j).g f = s.g f := by
  rcases powerLane_cases k s j with h | h <;> rw [h]
  exact g_put_sep s 1 hf

theorem powerLane_saf (k : Nat) (s : State) (j : Nat) : (powerLane k s j).saf = s.saf := by
  rcases powerLane_cases k s j with h | h <;> rw [h]
  exact put_saf s (F.TL_STAT_STATE j) 1

theorem powerLane_lanes (k : Nat) (s : State) (j : Nat) : (powerLane k s j).lanes.length = s.lanes.length := by
  rcases powerLane_cases k s j with h | h <;> rw [h]
  exact (modLane_lanes_length ..).trans (by simp)

theorem state_sep_tiles (j i : Nat) : sep (F.TL_STAT_STATE j) ⟨0x68, 0x74 + 4 * i, 15, 8⟩ = true := by
  simp [sep, F.TL_STAT_STATE]

theorem powerLane_gate (k : Nat) (s : State) (j n : Nat) : laneGate (powerLane k s j) n = laneGate s n := by
  have hheld : (powerLane k s j).laneHeld n = s.laneHeld n := by
    unfold State.laneHeld State.soutTiles
    simp only [powerLane_saf, powerLane_g k s j (state_sep_tiles j _)]
  rw [laneGate, laneGate, hheld, on_congr (powerLane_g k s j (f := F.UNIT_CTRL_ENABLE (0x51 + n)) rfl),
    on_congr (powerLane_g k s j (f := F.UNIT_CTRL_ENABLE 0x50) rfl), on_congr (powerLane_g k s j (f := F.CLK_STAT_ROOT_OK) rfl)]

theorem powerLane_other (k : Nat) (s : State) {j n : Nat} (hj : j < 8) (hn : n < 8) (h : j ≠ n) :
    (powerLane k s j).tlst n = s.tlst n ∧ (powerLane k s j).lane n = s.lane n := by
  rcases powerLane_cases k s j with he | he <;> rw [he]
  · exact ⟨rfl, rfl⟩
  · exact ⟨tlst_put s 1 (state_apart hj hn h) (state_hi j), (modLane_lane_other _ _ h).trans (put_lane ..)⟩

/-- The lanes of an output that gains power, one after the other. -/
theorem power_fold (k : Nat) (l : List Nat) (hnd : l.Nodup) (hl : ∀ j ∈ l, j < 8) (s : State) {n : Nat} (hn : n < 8) :
    let t := l.foldl (powerLane k) s
    (n ∉ l → t.tlst n = s.tlst n ∧ t.lane n = s.lane n)
      ∧ (tbit (s.soutTiles k) n = false → t.tlst n = s.tlst n)
      ∧ (n ∈ l → tbit (s.soutTiles k) n = true → s.tlst n = 0 → laneGate s n = true → n < s.lanes.length → t.tlst n = 1 ∧ (t.lane n).tries = 1) := by
  induction l generalizing s with
  | nil => exact ⟨fun _ => ⟨rfl, rfl⟩, fun _ => rfl, fun h => absurd h List.not_mem_nil⟩
  | cons j l ih =>
    obtain ⟨hjl, hnd'⟩ := List.nodup_cons.1 hnd
    have hj := hl j List.mem_cons_self
    obtain ⟨h1, h2, h3⟩ := ih hnd' (fun i hi => hl i (List.mem_cons_of_mem _ hi)) (powerLane k s j)
    have htiles : (powerLane k s j).soutTiles k = s.soutTiles k := powerLane_g k s j (state_sep_tiles j k)
    rw [htiles] at h2 h3
    rw [powerLane_gate, powerLane_lanes] at h3
    refine ⟨fun hnl => ?_, fun ht => ?_, fun hnl ht h0 hg hlen => ?_⟩
    · obtain ⟨hnj, hnl⟩ := not_or.1 (fun h => hnl (List.mem_cons.2 h))
      obtain ⟨k1, k2⟩ := powerLane_other k s hj hn (Ne.symm hnj)
      exact ⟨(h1 hnl).1.trans k1, (h1 hnl).2.trans k2⟩
    · refine (h2 ht).trans ?_
      by_cases hjn : j = n
      · subst hjn
        rw [powerLane, if_neg (by simp [ht])]
      · exact (powerLane_other k s hj hn hjn).1
    · rcases List.mem_cons.1 hnl with rfl | hmem
      · have hp : powerLane k s n = (s.put (F.TL_STAT_STATE n) 1).modLane n (fun l => { l with tries := 1 }) := by
          rw [powerLane, if_pos ht, laneWake_eq, if_pos ⟨h0, hg⟩]
        obtain ⟨k1, k2⟩ := h1 hjl
        have hlen' : n < (s.put (F.TL_STAT_STATE n) 1).lanes.length := by simpa using hlen
        have hup : (powerLane k s n).tlst n = 1 ∧ ((powerLane k s n).lane n).tries = 1 := by
          rw [hp, modLane_lane_same _ _ hlen']
          exact ⟨tlst_put_state s n (by decide), rfl⟩
        exact ⟨k1.trans hup.1, (congrArg Lane.tries k2).trans hup.2⟩
      · have hjn : j ≠ n := fun h => hjl (h ▸ hmem)
        exact h3 hmem ht ((powerLane_other k s hj hn hjn).1.trans h0) hg hlen

theorem power_fold_only (k : Nat) (l : List Nat) (hl : ∀ j ∈ l, j < 8) {s0 : State} (x : Fld) (ps : List Part) (hm : Part.lanes ∈ ps)
    (h : s0.Only (x :: (List.range 8).map F.TL_STAT_STATE) ps s) : s0.Only (x :: (List.range 8).map F.TL_STAT_STATE) ps (l.foldl (powerLane k) s) := by
  induction l generalizing s with
  | nil => exact h
  | cons j l ih =>
    refine ih (fun i hi => hl i (List.mem_cons_of_mem _ hi)) ?_
    rcases powerLane_cases k s j with he | he <;> rw [he]
    · exact h
    · exact only_modLane hm (only_put _ (List.mem_cons_of_mem _ (List.mem_map_of_mem (List.mem_range.2 (hl j List.mem_cons_self)))) (state_hi j) h)

theorem power_fold_saf (k : Nat) (l : List Nat) (s : State) : (l.foldl (powerLane k) s).saf = s.saf :=
  List.foldlRecOn (motive := fun u : State => u.saf = s.saf) l _ rfl (fun u hu j _ => (powerLane_saf k u j).trans hu)

theorem power_fold_g (k : Nat) (l : List Nat) (s : State) {f : Fld} (hf : ∀ j, sep (F.TL_STAT_STATE j) f = true) : (l.foldl (powerLane k) s).g f = s.g f :=
  foldl_g (fun u j => powerLane_g k u j (hf j)) l s

/-! ### The commands -/

theorem shaped_souts (h : s.shaped = true) : s.saf.souts.length = 2 := by
  simp only [State.shaped, Saf.shaped, Bool.and_eq_true, decide_eq_true_eq] at h
  tauto

theorem getD_set_self {l : List Sout} (h : k < l.length) (o : Sout) : (l.set k o).getD k Sout.init = o := by
  simp [List.getD_eq_getElem?_getD, h]

/-- An output may be ON. -/
def mayGo (s : State) (k : Nat) : Bool :=
  s.on (F.SAF_SOUT_CFG_USED k) && tbit (s.g F.SAF_SOUT_CTRL_ON) k && decide (1 ≤ s.g F.SAF_STAT_FSTATE) && decide (s.g F.SAF_STAT_FSTATE ≤ 3) && !s.saf.padGate

theorem soutTry_of_may (h : mayGo s k = true) (h3 : s.g (F.SAF_SOUT_STAT_STATE k) ≠ 3) :
    s.soutTry k = (s.put (F.SAF_SOUT_STAT_STATE k) 2).withSaf
      { s.saf with souts := s.saf.souts.set k { s.saf.souts.getD k Sout.init with high := true } } := by
  simp only [mayGo, Bool.and_eq_true, decide_eq_true_eq] at h
  obtain ⟨⟨⟨⟨hu, hc⟩, h1⟩, h2⟩, hp⟩ := h
  have hf : s.g F.SAF_STAT_FSTATE = 1 ∨ s.g F.SAF_STAT_FSTATE = 2 ∨ s.g F.SAF_STAT_FSTATE = 3 := by omega
  unfold State.soutTry
  dsimp only
  rw [if_pos (by rcases hf with hf | hf | hf <;> simp [hu, hc, hf, h3] <;> simpa using hp), put_saf]

theorem soutTry_stays (h : mayGo s k = false) (hl : (s.saf.souts.getD k Sout.init).high = false) : s.soutTry k = s := by
  unfold State.soutTry
  extract_lets f st o v
  have ho : o.high = false := hl
  rw [if_neg, if_neg (by rw [ho]; decide)]
  intro hc
  simp only [Bool.and_eq_true, Bool.or_eq_true, decide_eq_true_eq, f] at hc
  obtain ⟨⟨⟨⟨hu, hcmd⟩, hf⟩, -⟩, hp⟩ := hc
  have hge : 1 ≤ s.g F.SAF_STAT_FSTATE ∧ s.g F.SAF_STAT_FSTATE ≤ 3 := by omega
  simp [mayGo, hu, hcmd, hge] at h
  simp [h] at hp

/-- An output whose fault is cleared, before it may go on. -/
def soutCleared (s : State) (k : Nat) : State := ((s.put (F.SAF_SOUT_STAT_STATE k) 1).put (F.SAF_SOUT_STAT_RB k) 0).condEnd S.SAF_SOUT_FAULT k

theorem clear_seps : ∀ k < 2, sep (F.SAF_SOUT_STAT_STATE k) (F.SAF_SOUT_STAT_RB k) = true ∧ sep (F.SAF_SOUT_STAT_RB k) (F.SAF_SOUT_STAT_STATE k) = true
    ∧ room (F.SAF_SOUT_STAT_RB k) 0 = true ∧ room (F.SAF_SOUT_STAT_RB k) 1 = true
    ∧ sep (F.SAF_SOUT_STAT_STATE k) (F.SAF_SOUT_CFG_USED k) = true ∧ sep (F.SAF_SOUT_STAT_RB k) (F.SAF_SOUT_CFG_USED k) = true
    ∧ sep (F.SAF_SOUT_STAT_STATE k) F.SAF_SOUT_CTRL_ON = true ∧ sep (F.SAF_SOUT_STAT_RB k) F.SAF_SOUT_CTRL_ON = true
    ∧ sep (F.SAF_SOUT_STAT_STATE k) F.SAF_STAT_FSTATE = true ∧ sep (F.SAF_SOUT_STAT_RB k) F.SAF_STAT_FSTATE = true
    ∧ F.SAF_STAT_FSTATE.apart (F.SAF_SOUT_STAT_STATE k) = true ∧ F.SAF_STAT_FSTATE.apart (F.SAF_SOUT_STAT_RB k) = true
    ∧ sep (F.SAF_SOUT_STAT_PULSES k) (F.SAF_SOUT_STAT_RB k) = true ∧ sep (F.SAF_SOUT_STAT_RB k) (F.SAF_SOUT_STAT_PULSES k) = true := by decide

theorem soutCleared_g (s : State) {f : Fld} (h1 : sep (F.SAF_SOUT_STAT_STATE k) f = true) (h2 : sep (F.SAF_SOUT_STAT_RB k) f = true) :
    (soutCleared s k).g f = s.g f := (withFlt_g ..).trans ((g_put_sep _ _ h2).trans (g_put_sep _ _ h1))

theorem soutCleared_saf (s : State) (k : Nat) : (soutCleared s k).saf = s.saf := by
  have hend : ∀ (u : State) i j, (u.condEnd i j).saf = u.saf := fun _ _ _ => rfl
  rw [soutCleared, hend, put_saf, put_saf]

theorem soutCleared_may (s : State) (hk : k < 2) : mayGo (soutCleared s k) k = mayGo s k := by
  obtain ⟨-, -, -, -, c1, c2, c3, c4, c5, c6, -⟩ := clear_seps k hk
  rw [mayGo, mayGo, on_congr (soutCleared_g s c1 c2), soutCleared_g s c3 c4, soutCleared_g s c5 c6, soutCleared_saf]

theorem soutCleared_try (s : State) (hk : k < 2) (hlen : s.saf.souts.length = 2) (hl : (s.saf.souts.getD k Sout.init).high = false) :
    let t := ((soutCleared s k).soutTry k).settle
    t.g (F.SAF_SOUT_STAT_STATE k) = (if mayGo s k then 2 else 1) ∧ (t.saf.souts.getD k Sout.init).high = mayGo s k ∧ t.on (F.SAF_SOUT_STAT_RB k) = false
      ∧ (S.SAF_SOUT_FAULT, k) ∉ t.flt.held ∧ s.Only [F.SAF_SOUT_STAT_STATE k, F.SAF_SOUT_STAT_RB k, F.SAF_STAT_FSTATE] [.saf, .flt] t := by
  obtain ⟨d1, d2, d3, -, -, -, -, -, -, -, d4, d5, -⟩ := clear_seps k hk
  obtain ⟨-, -, -, r2, r1⟩ := sout_places k hk
  have hst : (soutCleared s k).g (F.SAF_SOUT_STAT_STATE k) = 1 := (withFlt_g ..).trans ((g_put_sep _ _ d2).trans (g_put_room _ r1))
  have hrb : (soutCleared s k).on (F.SAF_SOUT_STAT_RB k) = false := (withFlt_on ..).trans (on_put_clear _ d3)
  have hheld : (S.SAF_SOUT_FAULT, k) ∉ (soutCleared s k).flt.held := by
    have hend : ∀ u : State, (S.SAF_SOUT_FAULT, k) ∉ (u.condEnd S.SAF_SOUT_FAULT k).flt.held := fun u => by simp [State.condEnd, State.withFlt]
    exact hend _
  have hmay := soutCleared_may s hk
  have hsaf := soutCleared_saf s k
  have honly : s.Only [F.SAF_SOUT_STAT_STATE k, F.SAF_SOUT_STAT_RB k, F.SAF_STAT_FSTATE] [.saf, .flt] (soutCleared s k) :=
    only_withFlt (by simp) (only_put _ (by simp) (sep_hi d2) (only_put _ (by simp) (sep_hi d1) (only_refl _ _ _)))
  have hset : ∀ {u : State}, s.Only [F.SAF_SOUT_STAT_STATE k, F.SAF_SOUT_STAT_RB k, F.SAF_STAT_FSTATE] [.saf, .flt] u →
      s.Only [F.SAF_SOUT_STAT_STATE k, F.SAF_SOUT_STAT_RB k, F.SAF_STAT_FSTATE] [.saf, .flt] u.settle := fun {u} h => by
    unfold State.settle
    extract_lets f
    split_ifs
    · exact only_put _ (by simp) (by decide) h
    · exact only_put _ (by simp) (by decide) h
    · exact h
  have hflt : ∀ u : State, u.settle.flt = u.flt := fun u => within_flt (settle_fits (g := Foot.of [0x68] []) u (by decide) (fits_refl _ u)).within rfl rfl
  generalize soutCleared s k = c at hst hrb hheld hmay hsaf honly
  intro t
  cases hm : mayGo s k with
  | true =>
    have ht : t = ((c.put (F.SAF_SOUT_STAT_STATE k) 2).withSaf { c.saf with souts := c.saf.souts.set k { c.saf.souts.getD k Sout.init with high := true } }).settle :=
      congrArg State.settle (soutTry_of_may (hmay.trans hm) (by rw [hst]; decide))
    rw [ht]
    refine ⟨(settle_g _ d4).trans ((withSaf_g ..).trans (g_put_room _ r2)), ?_, (on_congr (settle_g _ d5)).trans ((withSaf_on ..).trans ((on_put_sep _ _ d1).trans hrb)),
      ?_, hset (only_withSaf (by simp) (only_put _ (by simp) (sep_hi d1) honly))⟩
    · rw [settle_saf]
      exact congrArg Sout.high (getD_set_self (by rw [hsaf, hlen]; exact hk) _)
    · rw [hflt]
      exact (put_flt c (F.SAF_SOUT_STAT_STATE k) 2).symm ▸ hheld
  | false =>
    have ht : t = c.settle := congrArg State.settle (soutTry_stays (hmay.trans hm) (by rw [hsaf]; exact hl))
    rw [ht]
    exact ⟨(settle_g _ d4).trans hst, by rw [settle_saf, hsaf]; exact hl, (on_congr (settle_g _ d5)).trans hrb, by rw [hflt]; exact hheld, hset honly⟩

/-- An off-pulse that the output answered. -/
def pulsePassed (s : State) (k : Nat) : State :=
  ((s.withSaf { s.saf with souts := s.saf.souts.set k { s.saf.souts.getD k Sout.init with pulse := false } }).put (F.SAF_SOUT_STAT_RB k) 0).inc
    (F.SAF_SOUT_STAT_PULSES k)

/-- An off-pulse that has ended. -/
def pulseOver (s : State) (k : Nat) : State := s.withSaf { s.saf with souts := s.saf.souts.set k { s.saf.souts.getD k Sout.init with pulse := false } }

theorem pulseOver_fits (k : Nat) (h : s.Fits (Foot.reaction [] []) u) : s.Fits (Foot.reaction [] []) (pulseOver u k) :=
  withSaf_fits _ (fun h => by simpa [Saf.shaped] using h) rfl h

/-- An output whose tiles have power. -/
def poweredUp (s : State) (k : Nat) : State :=
  let v := s.put (F.SAF_SOUT_STAT_RB k) 1
  v.withSaf { v.saf with souts := v.saf.souts.set k { s.saf.souts.getD k Sout.init with powered := true } }

theorem poweredUp_lanes (s : State) (k : Nat) : (poweredUp s k).lanes = s.lanes := put_lanes s (F.SAF_SOUT_STAT_RB k) 1

/-- An output that fails, its read-back shown, after a change that left every field. -/
theorem faulted_leaves {v : State} {cause : Nat} (hk : k < 2) (hc : cause < 4) (hg : ∀ x, v.g x = s.g x) (h0 : v.saf.trigNow = 0) (rb : Bool)
    (hf : s.Fits (Foot.reaction [] []) v) :
    let t := (v.put (F.SAF_SOUT_STAT_RB k) (bit rb)).soutFault k cause
    t.g (F.SAF_SOUT_STAT_STATE k) = 3 ∧ t.g (F.SAF_SOUT_STAT_CAUSE k) = cause ∧ t.on (F.SAF_SOUT_STAT_RB k) = rb
      ∧ t.saf.souts.getD k Sout.init = Sout.init ∧ (∀ n, n < 8 → tbit (s.soutTiles k) n = true → t.tlst n = 0 ∧ (t.lane n).assigned = false)
      ∧ t.on F.SAF_EVT_SOUT_FAULT = true ∧ (s.defLevel S.SAF_SOUT_FAULT ≠ 0 → t.on (fltPend S.SAF_SOUT_FAULT) = true)
      ∧ t.on F.SAF_STAT_LOCKED = true
      ∧ (s.on F.SAF_STAT_LOCKED = false → t.g F.SAF_REASON_REASON = 3 ∧ t.g F.SAF_REASON_DETAIL = k ∧ (s.g F.SAF_STAT_FSTATE ≠ 0 → t.g F.SAF_STAT_FSTATE = 4))
      ∧ s.Within (Foot.reaction [] []) t := by
  intro t
  obtain ⟨-, d2, r0, r1, -⟩ := clear_seps k hk
  have hseps : ∀ k < 2, sep (F.SAF_SOUT_STAT_RB k) ⟨0x68, 0x74 + 4 * k, 15, 8⟩ = true ∧ sep (F.SAF_SOUT_STAT_RB k) F.FLT_CTRL_MODE = true
      ∧ sep (F.SAF_SOUT_STAT_RB k) (fltSev S.SAF_SOUT_FAULT) = true ∧ sep (F.SAF_SOUT_STAT_RB k) F.SAF_STAT_LOCKED = true
      ∧ sep (F.SAF_SOUT_STAT_RB k) F.SAF_STAT_FSTATE = true := by decide
  obtain ⟨e1, e2, e3, e4, e5⟩ := hseps k hk
  have hw : ∀ {x : Fld}, sep (F.SAF_SOUT_STAT_RB k) x = true → (v.put (F.SAF_SOUT_STAT_RB k) (bit rb)).g x = s.g x := fun hx => (g_put_sep _ _ hx).trans (hg _)
  have hrb : (v.put (F.SAF_SOUT_STAT_RB k) (bit rb)).on (F.SAF_SOUT_STAT_RB k) = rb := by
    cases rb
    · exact on_put_clear _ r0
    · exact on_put_set _ r1
  obtain ⟨h1, h2, h3, h4, h5, h6, h7, h8, h9⟩ := soutFault_leaves (v.put (F.SAF_SOUT_STAT_RB k) (bit rb)) hk hc (by rw [put_saf]; exact h0)
  rw [State.soutTiles, hw e1] at h5
  rw [State.defLevel, on_congr (hw e2), hw e3] at h7
  rw [on_congr (hw e4), hw e5] at h9
  refine ⟨h1, h2, (on_congr h3).trans hrb, h4, fun n hn ht => h5 n hn ht, h6, fun hd => h7 hd, h8, h9, ?_⟩
  exact (soutFault_fits _ _ _ (by decide) (put_fits _ (by simp [F.SAF_SOUT_STAT_RB, groupPage]; decide) hf)).within

/-- Settles O40, along the pulses, the faults and the power of an output. -/
theorem safetyOutputs : Obligations.SafetyOutputs := by
  unfold Obligations.SafetyOutputs
  refine ⟨?start, ?noStart, ?passed, ?fault, ?noEnd, ?agrees, ?clear, ?noClear, ?power, ?noPower⟩
  case start =>
    intro s k hk hh hp hshape
    refine ⟨_, congrArg Host.Outcome.next (if_pos ?_), rfl, only_withSaf (by simp) (only_refl _ _ _)⟩
    rw [show s.begin.saf.souts = s.saf.souts from rfl, hh, hp]
    rfl
  case noStart =>
    intro s k h
    refine congrArg Host.Outcome.next (if_neg ?_)
    rw [show s.begin.saf.souts = s.saf.souts from rfl]
    rcases h with h | h <;> rw [h] <;> simp
  case passed =>
    intro s k hk hp hshape
    obtain ⟨-, -, d3, -, -, -, -, -, -, -, -, -, d5, d6⟩ := clear_seps k hk
    have hlen : k < s.begin.saf.souts.length := by rw [show s.begin.saf.souts = s.saf.souts from rfl, shaped_souts hshape]; exact hk
    have hfld : (F.SAF_SOUT_STAT_PULSES k).hi < 32 ∧ (F.SAF_SOUT_STAT_PULSES k).lo ≤ (F.SAF_SOUT_STAT_PULSES k).hi := by simp [F.SAF_SOUT_STAT_PULSES]
    refine ⟨pulsePassed s.begin k, congrArg Host.Outcome.next (if_pos hp), ?_, ?_, ?_, ?_⟩
    · rw [pulsePassed, State.inc, put_saf, put_saf]
      exact getD_set_self hlen _
    · refine (g_put_same _ _ _ hfld.1 hfld.2).trans ?_
      rw [g_put_sep _ _ d6, withSaf_g]
      rfl
    · exact (on_put_sep _ _ d5).trans (on_put_clear _ d3)
    · exact only_inc (by simp) hfld.1 (only_put _ (by simp) (sep_hi d6) (only_withSaf (by simp) (only_refl _ _ _)))
  case fault =>
    intro s k rb c cause hk hshape hc
    rcases hc with ⟨rfl, rfl, rfl, hp⟩ | ⟨rfl, hu, h1, h2, hp, hh, rfl⟩
    · have hf : s.Fits (Foot.reaction [] []) (pulseOver s.begin k) := pulseOver_fits k (begin_fits s (by decide) (fits_refl _ s))
      exact ⟨_, congrArg Host.Outcome.next ((if_pos hp).trans (if_pos rfl)), faulted_leaves (s := s) (v := pulseOver s.begin k) hk (by decide) (fun x => rfl) rfl true hf⟩
    · have hgo : (decide (k < 2) && s.begin.on (F.SAF_SOUT_CFG_USED k) && (decide (s.begin.g (F.SAF_SOUT_STAT_STATE k) = 1) || decide (s.begin.g (F.SAF_SOUT_STAT_STATE k) = 2))
          && !(s.begin.saf.souts.getD k Sout.init).pulse && (s.begin.saf.souts.getD k Sout.init).high != rb) = true := by
        have h12 : s.g (F.SAF_SOUT_STAT_STATE k) = 1 ∨ s.g (F.SAF_SOUT_STAT_STATE k) = 2 := by omega
        rw [show s.begin.saf.souts = s.saf.souts from rfl, begin_on, begin_g, hu, hp, hh]
        rcases h12 with h | h <;> cases rb <;> simp [hk, h]
      have hcause : (if (s.begin.saf.souts.getD k Sout.init).high then 1 else 2) = if rb then 2 else 1 := by
        rw [show s.begin.saf.souts = s.saf.souts from rfl, hh]
        cases rb <;> rfl
      have hrun : exec (.soutReadbackFault k rb) s = .next ((s.begin.put (F.SAF_SOUT_STAT_RB k) (bit rb)).soutFault k (if rb then 2 else 1)) := by
        rw [← hcause]
        exact congrArg Host.Outcome.next (if_pos hgo)
      exact ⟨_, hrun, faulted_leaves (s := s) (v := s.begin) hk (by split_ifs <;> decide) (fun x => rfl) rfl rb (begin_fits s (by decide) (fits_refl _ s))⟩
  case noEnd =>
    intro s k rb hp
    refine congrArg Host.Outcome.next (if_neg ?_)
    rw [show s.begin.saf.souts = s.saf.souts from rfl, hp]
    decide
  case agrees =>
    intro s k rb hk h
    refine congrArg Host.Outcome.next (if_neg ?_)
    rw [show s.begin.saf.souts = s.saf.souts from rfl, begin_on, begin_g]
    rcases h with h | h | h <;> rw [h] <;> simp
  case clear =>
    intro s k hk h3 hh hshape
    have hlen : s.begin.saf.souts.length = 2 := shaped_souts hshape
    have hrun : exec (.soutFaultClear k) s = .next (((soutCleared s.begin k).soutTry k).settle) :=
      congrArg Host.Outcome.next (if_pos (by rw [begin_g]; simp [hk, h3]))
    obtain ⟨h1, h2, h4, h5, h6⟩ := soutCleared_try s.begin hk hlen hh
    exact ⟨_, hrun, h1, h2, h4, h5, h6⟩
  case noClear =>
    intro s k hk h3
    exact congrArg Host.Outcome.next (if_neg (by rw [begin_g]; simp [h3]))
  case power =>
    intro s k hk hh hp hshape
    obtain ⟨d1, d2, -, r1, -⟩ := clear_seps k hk
    have hlen : s.lanes.length = 8 := shaped_lanes hshape
    have hgo : ((s.begin.saf.souts.getD k Sout.init).high && !(s.begin.saf.souts.getD k Sout.init).powered) = true := by
      rw [show s.begin.saf.souts = s.saf.souts from rfl, hh, hp]
      rfl
    have hrb : ∀ j, sep (F.TL_STAT_STATE j) (F.SAF_SOUT_STAT_RB k) = true := fun j => by
      have hne : (0x51 + j % 8 : Nat) ≠ 0x68 := by omega
      simp [sep, F.TL_STAT_STATE, F.SAF_SOUT_STAT_RB]
      omega
    have hrbt : ∀ {f : Fld}, f.page ≠ 0x68 → sep (F.SAF_SOUT_STAT_RB k) f = true := fun {f} hf => by
      simp [sep, F.SAF_SOUT_STAT_RB, Ne.symm hf]
    have hu : ∀ {f : Fld}, f.page ≠ 0x68 → (poweredUp s.begin k).g f = s.g f := fun hf => (withSaf_g ..).trans ((g_put_sep _ _ (hrbt hf)).trans (begin_g ..))
    have htiles : (poweredUp s.begin k).soutTiles k = s.soutTiles k :=
      (withSaf_g ..).trans ((g_put_sep _ _ ((by decide : ∀ k < 2, sep (F.SAF_SOUT_STAT_RB k) ⟨0x68, 0x74 + 4 * k, 15, 8⟩ = true) k hk)).trans (begin_g ..))
    have hfold : ∀ {n}, n < 8 → _ := fun {n} hn => power_fold k (List.range 8) List.nodup_range (fun j hj => List.mem_range.1 hj) (poweredUp s.begin k) hn
    refine ⟨(List.range 8).foldl (powerLane k) (poweredUp s.begin k), congrArg Host.Outcome.next ((if_pos hgo).trans rfl), ?_, ?_, fun n hn ht h0 he h5 hr hheld => ?_,
      fun n hn ht => ?_, ?_⟩
    · exact (on_congr (power_fold_g k _ _ hrb)).trans ((withSaf_on ..).trans (on_put_set _ r1))
    · rw [power_fold_saf]
      rfl
    · obtain ⟨-, -, h3⟩ := hfold hn
      have hheld' : (poweredUp s.begin k).laneHeld n = false := by
        rw [← hheld]
        unfold State.laneHeld State.soutTiles
        simp only [power_fold_saf, power_fold_g k _ _ (fun j => state_sep_tiles j _)]
      refine h3 (List.mem_range.2 hn) (htiles.symm ▸ ht) ((hu (by simp [F.TL_STAT_STATE]; omega)).trans h0) ?_ ?_
      · rw [laneGate, on_congr (hu (f := F.UNIT_CTRL_ENABLE (0x51 + n)) (by simp [F.UNIT_CTRL_ENABLE]; omega)), on_congr (hu (f := F.UNIT_CTRL_ENABLE 0x50) (by decide)),
          on_congr (hu (f := F.CLK_STAT_ROOT_OK) (by decide)), he, h5, hr, hheld']
        rfl
      · rw [poweredUp_lanes, begin_lanes, hlen]
        exact hn
    · obtain ⟨-, h2, -⟩ := hfold hn
      exact (h2 (htiles.symm ▸ ht)).trans (hu (by simp [F.TL_STAT_STATE]; omega))
    · exact power_fold_only k _ (fun j hj => List.mem_range.1 hj) _ _ (by simp)
        (only_withSaf (by simp) (only_put _ (by simp) (sep_hi d2) (only_refl _ _ _)))
  case noPower =>
    intro s k h
    refine congrArg Host.Outcome.next (if_neg ?_)
    rw [show s.begin.saf.souts = s.saf.souts from rfl]
    rcases h with h | h <;> rw [h] <;> simp

end Sys2Proof.Proofs.SafetyOuts
end

section
/-! PROOF. Flint's evaluation, lock-out and unlock, and Flint's own faults (FlintAndLockOut). -/

namespace Sys2Proof.Proofs.FlintLockOut

open Sys2Proof.Machine Sys2Proof.Laws Sys2Proof.Proofs.Architecture Sys2Proof.Proofs.RegisterMap Sys2Proof.Proofs.Reading
  Sys2Proof.Proofs.GovernorSums Sys2Proof.Proofs.QuartzRoot Sys2Proof.Proofs.DeviceResets Sys2Proof.Proofs.LampReactions Sys2Proof.Proofs.LampLanes
  Sys2Proof.Proofs.SafetyOuts

variable {s t u : State} {m : Master} {v : Word} {k : Nat}

/-! ### FIELD_OK and its terms -/

theorem on_put_bit (s : State) {f : Fld} (b : Bool) (h0 : room f 0 = true) (h1 : room f 1 = true) : (s.put f (bit b)).on f = b := by
  cases b
  · exact on_put_clear s h0
  · exact on_put_set s h1

theorem range_all_congr {n : Nat} {f g : Nat → Bool} (h : ∀ i < n, f i = g i) : (List.range n).all f = (List.range n).all g := by
  rw [Bool.eq_iff_iff, List.all_eq_true, List.all_eq_true]
  exact forall₂_congr (fun i hi => by rw [h i (List.mem_range.1 hi)])

theorem range_any_congr {n : Nat} {f g : Nat → Bool} (h : ∀ i < n, f i = g i) : (List.range n).any f = (List.range n).any g := by
  rw [Bool.eq_iff_iff, List.any_eq_true, List.any_eq_true]
  exact exists_congr (fun i => and_congr_right (fun hi => by rw [h i (List.mem_range.1 hi)]))

/-- The fields that a request for the field and its refusal write, and that no term rests on. -/
def requestFields : List Fld := [F.SAF_FIELD_REQ, F.GOV_MODE_RELEASE, F.SAF_UNLOCK_REJ]

theorem request_inputs : ∀ n < 4, clear requestFields (F.SAF_SIN_CFG_USED n) = true ∧ clear requestFields (F.SAF_SIN_STAT_STATE n) = true := by decide

theorem request_outputs : ∀ k < 2, clear requestFields (F.SAF_SOUT_CFG_USED k) = true ∧ clear requestFields (F.SAF_SOUT_STAT_STATE k) = true := by decide

section
variable (hg : ∀ f, clear requestFields f = true → t.g f = s.g f) (hsaf : t.saf = s.saf) (hpwr : t.pwr = s.pwr)

include hg

theorem inputsOk_congr : t.inputsOk = s.inputsOk :=
  range_all_congr (fun n hn => by rw [on_congr (hg _ (request_inputs n hn).1), hg _ (request_inputs n hn).2])

theorem clocksOk_congr : t.clocksOk = s.clocksOk := by
  rw [State.clocksOk, State.clocksOk, State.rootUp, State.rootUp, on_congr (hg _ (by decide)), hg _ (by decide)]

include hsaf hpwr

omit hg in
theorem flintOk_congr : t.flintOk = s.flintOk := by
  rw [State.flintOk, State.flintOk, State.flintStopped, State.flintStopped, hsaf, hpwr]

/-- The hardware terms rest on fields of the clocks and of the lock-out and on Flint's own state. -/
theorem hwTerms_congr : t.hwTerms = s.hwTerms := by
  have hout : t.outputsOk = s.outputsOk :=
    range_all_congr (fun k hk => by rw [on_congr (hg _ (request_outputs k hk).1), hg _ (request_outputs k hk).2])
  rw [State.hwTerms, State.hwTerms, inputsOk_congr hg, hout, clocksOk_congr hg, flintOk_congr hsaf hpwr, on_congr (hg _ (by decide))]

end

theorem settle_rises (h1 : s.g F.SAF_STAT_FSTATE = 1) (ha : s.allTerms = true) (hb : s.safetyBlock = false) : s.settle.g F.SAF_STAT_FSTATE = 2 := by
  unfold State.settle
  dsimp only
  rw [if_pos (by rw [h1, ha, hb]; rfl)]
  exact g_put_room s rfl

theorem settle_falls (h1 : s.g F.SAF_STAT_FSTATE = 2 ∨ s.g F.SAF_STAT_FSTATE = 3) (ha : s.allTerms = false) : s.settle.g F.SAF_STAT_FSTATE = 1 := by
  unfold State.settle
  dsimp only
  rw [if_neg (by rw [ha]; simp), if_pos (by rw [ha]; rcases h1 with h | h <;> rw [h] <;> rfl)]
  exact g_put_room s rfl

theorem only_settle {s0 : State} {fs : List Fld} {ps : List Part} (hm : F.SAF_STAT_FSTATE ∈ fs) (h : s0.Only fs ps s) : s0.Only fs ps s.settle := by
  unfold State.settle
  extract_lets f
  exact only_ite (fun _ => only_put _ hm (by decide) h) (fun _ => only_ite (fun _ => only_put _ hm (by decide) h) (fun _ => h))

/-- What Flint evaluates. -/
def evaluated (s : State) : State := (s.put F.SAF_FIELD_REQ (bit s.flintTerms)).put F.GOV_MODE_RELEASE (bit (s.hwTerms && s.flintTerms))

theorem evaluated_eq (s : State) :
    (s.put F.SAF_FIELD_REQ (bit s.flintTerms)).put F.GOV_MODE_RELEASE (bit (s.put F.SAF_FIELD_REQ (bit s.flintTerms)).allTerms) = evaluated s := by
  have hterms : (s.put F.SAF_FIELD_REQ (bit s.flintTerms)).allTerms = (s.hwTerms && s.flintTerms) := by
    rw [State.allTerms, on_put_bit s _ rfl rfl, hwTerms_congr (s := s) (fun f hf => g_put_other _ _ _ _ (by decide) (clear_apart hf (by simp [requestFields]))) (put_saf ..) (put_pwr ..)]
  rw [hterms, evaluated]

theorem evaluated_terms (s : State) : (evaluated s).allTerms = (s.hwTerms && s.flintTerms) := by
  have hreq : (evaluated s).on F.SAF_FIELD_REQ = s.flintTerms := (on_put_sep _ _ rfl).trans (on_put_bit s _ rfl rfl)
  have hhw : (evaluated s).hwTerms = s.hwTerms := hwTerms_congr (fun f hf => (g_put_other _ _ _ _ (by decide) (clear_apart hf (by simp [requestFields]))).trans
    (g_put_other _ _ _ _ (by decide) (clear_apart hf (by simp [requestFields])))) (by rw [evaluated, put_saf, put_saf]) (by rw [evaluated, put_pwr, put_pwr])
  rw [State.allTerms, hreq, hhw]

/-! ### Writes to Flint's page -/

/-- A write that the fabric lets through to Flint's page. -/
theorem masterWrite_flint {off : Nat} (v : Word) (hm : s.masterRuns m = true) (hw : s.mayWrite m 0x68 off = true) (ho : off < 4096) (h4 : off % 4 = 0) :
    s.masterWrite m (pageAddr 0x68 off) v = (s.specialA m 0x68 off v).settle :=
  (masterWrite_page v hm hw (by decide) (by decide) ho h4).trans ((if_neg (by simp)).trans (if_pos (by simp)))

theorem exec_safReact (hm : s.masterRuns m = true) (hw : s.mayWrite m 0x68 0x50 = true) :
    exec (.safReact m v) s = .next (s.begin.safReactWrite v).settle :=
  congrArg Host.Outcome.next ((masterWrite_flint (s := s.begin) v hm hw (by decide) (by decide)).trans rfl)

theorem exec_safUnlock (hm : s.masterRuns m = true) (hw : s.mayWrite m 0x68 0x54 = true) :
    exec (.safUnlock m v) s = .next (s.begin.safUnlockWrite v).settle :=
  congrArg Host.Outcome.next ((masterWrite_flint (s := s.begin) v hm hw (by decide) (by decide)).trans rfl)

theorem exec_flintWdtKick (hm : s.masterRuns m = true) (hw : s.mayWrite m 0x68 0x58 = true) :
    exec (.flintWdtKick m v) s = .next (s.begin.flintKick v).settle :=
  congrArg Host.Outcome.next ((masterWrite_flint (s := s.begin) v hm hw (by decide) (by decide)).trans rfl)

/-! ### A reaction asked for -/

/-- Switching an output off rests its part of Flint's state alone. -/
theorem soutLow_souts (s : State) (k : Nat) : ∃ o, (s.soutLow k).saf.souts = s.saf.souts.set k o := by
  unfold State.soutLow
  extract_lets vs v w
  have hw : w.saf.souts = s.saf.souts.set k Sout.init := by
    simp only [w]
    split_ifs
    · rw [put_saf]
      rfl
    · rfl
  refine ⟨Sout.init, List.foldlRecOn (motive := fun u : State => u.saf.souts = s.saf.souts.set k Sout.init) (List.range 8) _ hw (fun u hu j _ => ?_)⟩
  split_ifs
  · rw [within_saf (laneOff_fits (g := Foot.of [0x50] [.lanes]) u j (by decide) (fits_refl _ u)).within rfl rfl]
    exact hu
  · exact hu

/-- An unlocked device that locks, before its outputs fall. -/
def lockedOut (s : State) (code detail : Nat) : State :=
  let s := (s.put F.SAF_STAT_LOCKED 1).inc F.SAF_LOCK_CNT_LOCK_CNT
  let s := ((s.put F.SAF_REASON_REASON code).put F.SAF_REASON_DETAIL detail).put F.SAF_REASON_LAST code
  let s := (s.put F.SAF_FIELD_REQ 0).put F.GOV_MODE_RELEASE 0
  ((s.evt F.SAF_EVT_REACT).evt F.SAF_EVT_LOCK).incSat F.SAF_CNT_REACTIONS

/-- Its outputs fall, but for INIT. -/
def dropped (s : State) (code detail : Nat) : State :=
  if s.g F.SAF_STAT_FSTATE = 0 then lockedOut s code detail else ((lockedOut s code detail).put F.SAF_STAT_FSTATE 4).soutsOff

theorem trigger_eq_dropped {code detail : Nat} (h0 : s.saf.trigNow = 0) (hl : s.on F.SAF_STAT_LOCKED = false) :
    s.trigger code detail = ((dropped s code detail).withSaf { (dropped s code detail).saf with trigNow := 2 }).recordReact code detail :=
  (if_neg (by rw [h0]; decide)).trans ((if_neg (by rw [h0]; decide)).trans ((if_neg (by rw [hl]; decide)).trans rfl))

theorem recordReact_saf (s : State) (code detail : Nat) : (s.recordReact code detail).saf = s.saf :=
  within_saf (event_fits (g := Foot.of [0x70, 0x71] [.evr]) s _ _ (by decide) (fits_refl _ s)).within rfl rfl

/-- A field that the fall of the outputs and the record leave. -/
theorem trigger_g_locked {code detail : Nat} {f : Fld} (h0 : s.saf.trigNow = 0) (hl : s.on F.SAF_STAT_LOCKED = false) (hr : clear recordFields f = true)
    (hf : clear [F.SAF_STAT_FSTATE, F.SAF_SOUT_STAT_STATE 0, F.SAF_SOUT_STAT_STATE 1, F.SAF_SOUT_CTRL_ON] f = true) (hp : groupPage f.page ≠ 0x50) :
    (s.trigger code detail).g f = (lockedOut s code detail).g f := by
  rw [trigger_eq_dropped h0 hl]
  refine (event_g _ _ _ hr).trans ((withSaf_g ..).trans (ite_g (fun _ => rfl) (fun _ => ?_)))
  exact (soutsOff_keeps _ (clear_apart hf (by simp)) (clear_apart hf (by simp)) (clear_apart hf (by simp)) hp).trans
    (g_put_other _ _ _ _ (by decide) (clear_apart hf (by simp)))

/-- What a lock-out that begins leaves beside its reason and state. -/
theorem trigger_locks (s : State) {code detail : Nat} (h0 : s.saf.trigNow = 0) (hl : s.on F.SAF_STAT_LOCKED = false) (hc : room F.SAF_REASON_LAST code = true) :
    let t := s.trigger code detail
    t.g F.SAF_REASON_LAST = code ∧ t.g F.SAF_LOCK_CNT_LOCK_CNT = (s.g F.SAF_LOCK_CNT_LOCK_CNT + 1) % 2 ^ 32
      ∧ t.on F.SAF_EVT_REACT = true ∧ t.on F.SAF_EVT_LOCK = true ∧ t.on F.SAF_FIELD_REQ = false ∧ t.on F.GOV_MODE_RELEASE = false := by
  intro t
  have hk : ∀ {f : Fld}, clear recordFields f = true → clear [F.SAF_STAT_FSTATE, F.SAF_SOUT_STAT_STATE 0, F.SAF_SOUT_STAT_STATE 1, F.SAF_SOUT_CTRL_ON] f = true →
      groupPage f.page ≠ 0x50 → t.g f = (lockedOut s code detail).g f := fun a b c => trigger_g_locked h0 hl a b c
  refine ⟨(hk (by decide) (by decide) (by decide)).trans ?_, (hk (by decide) (by decide) (by decide)).trans ?_, (on_congr (hk (by decide) (by decide) (by decide))).trans ?_,
    (on_congr (hk (by decide) (by decide) (by decide))).trans ?_, (on_congr (hk (by decide) (by decide) (by decide))).trans ?_, (on_congr (hk (by decide) (by decide) (by decide))).trans ?_⟩ <;> unfold lockedOut <;> dsimp only
  · rw [g_incSat_sep _ rfl, g_evt_sep _ rfl rfl, g_evt_sep _ rfl rfl, g_put_sep _ _ rfl, g_put_sep _ _ rfl]
    exact g_put_room _ hc
  · rw [g_incSat_sep _ rfl, g_evt_sep _ rfl rfl, g_evt_sep _ rfl rfl, g_put_sep _ _ rfl, g_put_sep _ _ rfl, g_put_sep _ _ rfl, g_put_sep _ _ rfl, g_put_sep _ _ rfl,
      State.inc, g_put_sep s 1 (x := F.SAF_LOCK_CNT_LOCK_CNT) rfl]
    exact g_put_same _ _ _ (by decide) (by decide)
  · rw [on_incSat_sep _ rfl, on_evt_sep _ rfl rfl]
    exact on_evt_self _ rfl
  · rw [on_incSat_sep _ rfl]
    exact on_evt_self _ rfl
  · rw [on_incSat_sep _ rfl, on_evt_sep _ rfl rfl, on_evt_sep _ rfl rfl, on_put_sep _ _ rfl]
    exact on_put_clear _ rfl
  · rw [on_incSat_sep _ rfl, on_evt_sep _ rfl rfl, on_evt_sep _ rfl rfl]
    exact on_put_clear _ rfl

theorem soutsOff_low (s : State) (hk : k < 2) : s.soutsOff.g F.SAF_SOUT_CTRL_ON = 0 ∧ s.soutsOff.saf.souts.getD k Sout.init = Sout.init := by
  have h01 : ((s.put F.SAF_SOUT_CTRL_ON 0).soutLow 0).g F.SAF_SOUT_CTRL_ON = 0 := (soutLow_g _ _ (by decide) (by decide) (by decide)).trans (g_put_room _ rfl)
  refine ⟨(soutLow_g _ _ (by decide) (by decide) (by decide)).trans h01, ?_⟩
  obtain rfl | rfl : k = 0 ∨ k = 1 := by omega
  · obtain ⟨o, ho⟩ := soutLow_souts ((s.put F.SAF_SOUT_CTRL_ON 0).soutLow 0) 1
    have h0 := soutLow_sout (s.put F.SAF_SOUT_CTRL_ON 0) 0
    rw [State.soutsOff, ho]
    simpa [List.getD_eq_getElem?_getD] using h0
  · exact soutLow_sout _ 1

theorem trigger_drops (s : State) {code detail : Nat} (h0 : s.saf.trigNow = 0) (hl : s.on F.SAF_STAT_LOCKED = false) (hf : s.g F.SAF_STAT_FSTATE ≠ 0) (hk : k < 2) :
    (s.trigger code detail).g F.SAF_SOUT_CTRL_ON = 0 ∧ (s.trigger code detail).saf.souts.getD k Sout.init = Sout.init := by
  have hd : dropped s code detail = ((lockedOut s code detail).put F.SAF_STAT_FSTATE 4).soutsOff := if_neg hf
  obtain ⟨h1, h2⟩ := soutsOff_low ((lockedOut s code detail).put F.SAF_STAT_FSTATE 4) hk
  rw [← hd] at h1 h2
  rw [trigger_eq_dropped h0 hl]
  exact ⟨(event_g _ _ _ (by decide)).trans ((withSaf_g ..).trans h1), by rw [recordReact_saf]; exact h2⟩


/-- A trigger on a locked device is noted as the last. -/
theorem trigger_again (s : State) {code detail : Nat} (h0 : s.saf.trigNow = 0) (hl : s.on F.SAF_STAT_LOCKED = true) (hc : room F.SAF_REASON_LAST code = true) :
    let t := s.trigger code detail
    t.g F.SAF_REASON_LAST = code ∧ t.g F.SAF_REASON_REASON = s.g F.SAF_REASON_REASON ∧ t.g F.SAF_LOCK_CNT_LOCK_CNT = s.g F.SAF_LOCK_CNT_LOCK_CNT
      ∧ t.g F.SAF_CNT_REACTIONS = min F.SAF_CNT_REACTIONS.top (s.g F.SAF_CNT_REACTIONS + 1) ∧ s.Fits (Foot.of [0x68, 0x70, 0x71] [.flt, .evr, .saf]) t := by
  intro t
  have ht : t = (((s.put F.SAF_REASON_LAST code).incSat F.SAF_CNT_REACTIONS).withSaf
      { ((s.put F.SAF_REASON_LAST code).incSat F.SAF_CNT_REACTIONS).saf with trigNow := 1 }).recordReact code detail :=
    (if_neg (by rw [h0]; decide)).trans ((if_neg (by rw [h0]; decide)).trans (if_pos hl))
  have hg : ∀ {f : Fld}, clear recordFields f = true → t.g f = ((s.put F.SAF_REASON_LAST code).incSat F.SAF_CNT_REACTIONS).g f := fun hf => by
    rw [ht]
    exact (event_g _ _ _ hf).trans (withSaf_g ..)
  refine ⟨(hg (by decide)).trans ?_, (hg (by decide)).trans ?_, (hg (by decide)).trans ?_, (hg (by decide)).trans ?_, ?_⟩
  · exact (g_incSat_sep _ rfl).trans (g_put_room _ hc)
  · exact (g_incSat_sep _ rfl).trans (g_put_sep _ _ rfl)
  · exact (g_incSat_sep _ rfl).trans (g_put_sep _ _ rfl)
  · rw [g_incSat (by decide) (by decide) (g_le_top _ _), g_put_sep _ _ rfl]
  · rw [ht]
    exact event_fits _ _ _ (by decide) (withSaf_fits _ keep_refl rfl (incSat_fits (by decide) (put_fits _ (by decide) (fits_refl _ s))))

/-! ### Unlocking -/

theorem request_faults {f : Fld} (h : f.page = 0x70) : clear requestFields f = true := by
  simp only [clear, List.all_eq_true]
  intro x hx
  have hpage : ∀ x ∈ requestFields, x.page ≠ 0x70 ∧ x.hi < 32 := by decide
  refine sep_apart ?_
  simp [sep, h, (hpage x hx).1, (hpage x hx).2]

theorem unlockRej_congr (hg : ∀ f, clear requestFields f = true → t.g f = s.g f) (hsaf : t.saf = s.saf) (hpwr : t.pwr = s.pwr) (hcsf : t.csf = s.csf) :
    t.unlockRej = s.unlockRej := by
  have hout : (List.range 2).any (fun k => t.on (F.SAF_SOUT_CFG_USED k) && t.g (F.SAF_SOUT_STAT_STATE k) = 3)
      = (List.range 2).any (fun k => s.on (F.SAF_SOUT_CFG_USED k) && s.g (F.SAF_SOUT_STAT_STATE k) = 3) :=
    range_any_congr (fun k hk => by rw [on_congr (hg _ (request_outputs k hk).1), hg _ (request_outputs k hk).2])
  have hfatal : t.fatalPending = s.fatalPending :=
    range_any_congr (fun i _ => by rw [on_congr (hg (fltPend i) (request_faults rfl)), hg (fltLvl i) (request_faults rfl)])
  unfold State.unlockRej
  rw [hout, hfatal, inputsOk_congr hg, clocksOk_congr hg, flintOk_congr hsaf hpwr, hcsf, on_congr (hg F.SAF_STAT_LOCKED (by decide)),
    hg F.SAF_LOCK_CNT_LOCK_CNT (by decide), on_congr (hg F.CSF_STAT_CURRENT (by decide)), on_congr (hg F.GOV_STAT_TABLES_OK (by decide))]

/-- An unlock that is asked for, before it is judged. -/
def unlockAsked (s : State) (v : Word) : State := (s.put F.SAF_UNLOCK_REJ (wordField v 11 8)).withCsf { s.csf with unlock := none }

theorem unlockAsked_g (s : State) (v : Word) {f : Fld} (hf : F.SAF_UNLOCK_REJ.apart f = true) : (unlockAsked s v).g f = s.g f :=
  (withCsf_g ..).trans (g_put_other _ _ _ _ (by decide) hf)

theorem unlockAsked_saf (s : State) (v : Word) : (unlockAsked s v).saf = s.saf := by
  rw [unlockAsked, withCsf_saf, put_saf]

theorem safUnlockWrite_eq (s : State) (h : wordField v 0 0 = 1) :
    s.safUnlockWrite v = if s.unlockRej = 0 then (unlockAsked s v).unlockAccept else (unlockAsked s v).unlockRefuse s.unlockRej := by
  have hrej : (s.put F.SAF_UNLOCK_REJ (wordField v 11 8)).unlockRej = s.unlockRej :=
    unlockRej_congr (fun f hf => g_put_other _ _ _ _ (by decide) (clear_apart hf (by simp [requestFields]))) (put_saf ..) (put_pwr ..) (put_csf ..)
  have hcsf := put_csf s F.SAF_UNLOCK_REJ (wordField v 11 8)
  unfold State.safUnlockWrite unlockAsked
  dsimp only
  rw [if_pos h, hrej, hcsf]

theorem unlockRej_le (s : State) : s.unlockRej ≤ 8 := by
  unfold State.unlockRej
  split_ifs <;> decide

theorem unlockRej_outputs (h : s.unlockRej = 0) (hk : k < 2) (hu : s.on (F.SAF_SOUT_CFG_USED k) = true) : s.g (F.SAF_SOUT_STAT_STATE k) ≠ 3 := by
  intro h3
  have hany : (List.range 2).any (fun k => s.on (F.SAF_SOUT_CFG_USED k) && s.g (F.SAF_SOUT_STAT_STATE k) = 3) = true :=
    List.any_eq_true.2 ⟨k, List.mem_range.2 hk, by rw [hu, h3]; rfl⟩
  unfold State.unlockRej at h
  split_ifs at h

/-- Trying an output touches its own place among the outputs alone. -/
theorem soutTry_souts (s : State) (k : Nat) : ∃ o, (s.soutTry k).saf.souts = s.saf.souts.set k o := by
  unfold State.soutTry
  extract_lets f st o v
  split_ifs
  · exact ⟨{ o with high := true }, rfl⟩
  · exact soutLow_souts s k
  · refine ⟨s.saf.souts.getD k Sout.init, ?_⟩
    by_cases hk : k < s.saf.souts.length
    · simp [List.getD_eq_getElem?_getD, hk]
    · exact (List.set_eq_of_length_le (Nat.not_lt.1 hk)).symm

theorem soutTry_g (s : State) {f : Fld} (h : sep (F.SAF_SOUT_STAT_STATE k) f = true) (hp : groupPage f.page ≠ 0x50) : (s.soutTry k).g f = s.g f := by
  unfold State.soutTry
  extract_lets f st o v
  exact ite_g (fun _ => (withSaf_g ..).trans (g_put_sep _ _ h)) (fun _ => ite_g (fun _ => soutLow_g _ _ (sep_apart h) (sep_hi h) hp) (fun _ => rfl))

theorem soutLow_padGate (s : State) (k : Nat) : (s.soutLow k).saf.padGate = s.saf.padGate := by
  unfold State.soutLow
  extract_lets vs v w
  have hw : w.saf.padGate = s.saf.padGate := by
    simp only [w]
    split_ifs
    · rw [put_saf]
      rfl
    · rfl
  refine List.foldlRecOn (motive := fun u : State => u.saf.padGate = s.saf.padGate) (List.range 8) _ hw (fun u hu j _ => ?_)
  split_ifs
  · rw [within_saf (laneOff_fits (g := Foot.of [0x50] [.lanes]) u j (by decide) (fits_refl _ u)).within rfl rfl]
    exact hu
  · exact hu

theorem soutTry_padGate (s : State) (k : Nat) : (s.soutTry k).saf.padGate = s.saf.padGate := by
  unfold State.soutTry
  extract_lets f st o v
  split_ifs
  · rfl
  · exact soutLow_padGate s k
  · rfl

/-- An output that may go on is on. -/
theorem soutTry_goes (h : mayGo s k = true) (h3 : s.g (F.SAF_SOUT_STAT_STATE k) ≠ 3) (hk : k < 2) (hlen : s.saf.souts.length = 2) :
    (s.soutTry k).g (F.SAF_SOUT_STAT_STATE k) = 2 ∧ ((s.soutTry k).saf.souts.getD k Sout.init).high = true := by
  obtain ⟨-, -, -, r2, -⟩ := sout_places k hk
  rw [soutTry_of_may h h3]
  exact ⟨(withSaf_g ..).trans (g_put_room _ r2), congrArg Sout.high (getD_set_self (by rw [hlen]; exact hk) _)⟩

theorem try_seps : ∀ k < 2, ∀ j < 2, sep (F.SAF_SOUT_STAT_STATE k) (F.SAF_SOUT_CFG_USED j) = true ∧ sep (F.SAF_SOUT_STAT_STATE k) F.SAF_SOUT_CTRL_ON = true
    ∧ sep (F.SAF_SOUT_STAT_STATE k) F.SAF_STAT_FSTATE = true := by decide

/-- Both outputs tried: each that may go on is on. -/
theorem soutsTry_goes (hmay : mayGo s k = true) (h3 : s.g (F.SAF_SOUT_STAT_STATE k) ≠ 3) (hk : k < 2) (hlen : s.saf.souts.length = 2) :
    s.soutsTry.g (F.SAF_SOUT_STAT_STATE k) = 2 ∧ (s.soutsTry.saf.souts.getD k Sout.init).high = true := by
  obtain ⟨o, ho⟩ := soutTry_souts s 0
  obtain ⟨o', ho'⟩ := soutTry_souts (s.soutTry 0) 1
  obtain rfl | rfl : k = 0 ∨ k = 1 := by omega
  · obtain ⟨h1, h2⟩ := soutTry_goes hmay h3 hk hlen
    refine ⟨(soutTry_g _ rfl (by decide)).trans h1, ?_⟩
    rw [State.soutsTry, ho']
    simpa [List.getD_eq_getElem?_getD] using h2
  · obtain ⟨c1, c2, c3⟩ := try_seps 0 (by decide) 1 (by decide)
    have hmay' : mayGo (s.soutTry 0) 1 = true := by
      rw [mayGo, on_congr (soutTry_g s c1 (by decide)), soutTry_g s c2 (by decide), soutTry_g s c3 (by decide), soutTry_padGate]
      exact hmay
    exact soutTry_goes hmay' (by rw [soutTry_g s rfl (by decide)]; exact h3) hk (by rw [ho, List.length_set]; exact hlen)

/-- An unlock that is accepted, before the outputs go on. -/
def unlocked (s : State) : State :=
  let s : State := ((s.put F.SAF_STAT_LOCKED 0).evt F.SAF_EVT_UNLOCK).incSat F.SAF_CNT_UNLOCKS
  let s : State := s.event 0x6881 (0 :: 0 :: leBytes 4 (s.g F.SAF_LOCK_CNT_LOCK_CNT))
  let s : State := if s.g F.SAF_STAT_FSTATE = 4 then s.put F.SAF_STAT_FSTATE 1 else s
  s.put F.SAF_SOUT_CTRL_ON s.usedOuts

theorem unlockAccept_eq (s : State) : s.unlockAccept = (unlocked s).soutsTry.settle := rfl

/-- A field that neither the unlock nor its record writes. -/
theorem unlocked_g (s : State) {f : Fld} (hr : clear recordFields f = true)
    (hf : clear [F.SAF_STAT_LOCKED, F.SAF_EVT_UNLOCK, F.UNIT_IRQ_STAT_EVT 0x68, F.SAF_CNT_UNLOCKS, F.SAF_STAT_FSTATE, F.SAF_SOUT_CTRL_ON] f = true) :
    (unlocked s).g f = s.g f := by
  have ha : ∀ x ∈ [F.SAF_STAT_LOCKED, F.SAF_EVT_UNLOCK, F.UNIT_IRQ_STAT_EVT 0x68, F.SAF_CNT_UNLOCKS, F.SAF_STAT_FSTATE, F.SAF_SOUT_CTRL_ON], x.apart f = true :=
    fun x hx => clear_apart hf hx
  have hq : (F.UNIT_IRQ_STAT_EVT F.SAF_EVT_UNLOCK.page).apart f = true := ha (F.UNIT_IRQ_STAT_EVT 0x68) (by simp)
  unfold unlocked
  extract_lets a b c
  refine (g_put_other _ _ _ _ (by decide) (ha _ (by simp))).trans (Eq.trans (b := b.g f) (ite_g (fun _ => g_put_other _ _ _ _ (by decide) (ha _ (by simp))) (fun _ => rfl)) ?_)
  exact (event_g _ _ _ hr).trans ((g_incSat_other _ _ _ (by decide) (ha _ (by simp))).trans ((g_evt_other _ _ _ (by decide) (ha _ (by simp)) hq).trans
    (g_put_other _ _ _ _ (by decide) (ha _ (by simp)))))

theorem usedOuts_congr (h0 : t.g (F.SAF_SOUT_CFG_USED 0) = s.g (F.SAF_SOUT_CFG_USED 0)) (h1 : t.g (F.SAF_SOUT_CFG_USED 1) = s.g (F.SAF_SOUT_CFG_USED 1)) :
    t.usedOuts = s.usedOuts := by rw [State.usedOuts, State.usedOuts, h0, h1]

theorem used_le (s : State) (k : Nat) : s.g (F.SAF_SOUT_CFG_USED k) ≤ 1 := by
  have h := g_le_top s (F.SAF_SOUT_CFG_USED k)
  simpa [Fld.top, F.SAF_SOUT_CFG_USED] using h

theorem usedOuts_lt (s : State) : s.usedOuts < 4 := by
  have h0 := used_le s 0
  have h1 := used_le s 1
  rw [State.usedOuts]
  omega

theorem usedOuts_bit (s : State) (hk : k < 2) (hu : s.on (F.SAF_SOUT_CFG_USED k) = true) : tbit s.usedOuts k = true := by
  have h0 := used_le s 0
  have h1 := used_le s 1
  have h := on_eq_true_iff.1 hu
  rw [State.usedOuts]
  obtain rfl | rfl : k = 0 ∨ k = 1 := by omega
  · rw [h]
    interval_cases s.g (F.SAF_SOUT_CFG_USED 1) <;> rfl
  · rw [h]
    interval_cases s.g (F.SAF_SOUT_CFG_USED 0) <;> rfl

theorem unlocked_leaves (s : State) :
    (unlocked s).on F.SAF_STAT_LOCKED = false ∧ (unlocked s).on F.SAF_EVT_UNLOCK = true
      ∧ (unlocked s).g F.SAF_CNT_UNLOCKS = min F.SAF_CNT_UNLOCKS.top (s.g F.SAF_CNT_UNLOCKS + 1)
      ∧ (unlocked s).g F.SAF_SOUT_CTRL_ON = s.usedOuts ∧ (s.g F.SAF_STAT_FSTATE = 4 → (unlocked s).g F.SAF_STAT_FSTATE = 1) := by
  have hused : ∀ k < 2, clear recordFields (F.SAF_SOUT_CFG_USED k) = true ∧ sep F.SAF_CNT_UNLOCKS (F.SAF_SOUT_CFG_USED k) = true ∧ sep F.SAF_EVT_UNLOCK (F.SAF_SOUT_CFG_USED k) = true
      ∧ sep F.SAF_STAT_LOCKED (F.SAF_SOUT_CFG_USED k) = true ∧ sep F.SAF_STAT_FSTATE (F.SAF_SOUT_CFG_USED k) = true := by decide
  unfold unlocked
  extract_lets a b c
  have hb : ∀ {f : Fld}, clear recordFields f = true → b.g f = a.g f := fun hf => event_g _ _ _ hf
  have hc : ∀ {f : Fld}, clear recordFields f = true → sep F.SAF_STAT_FSTATE f = true → c.g f = a.g f := fun hf hs => by
    show (ite _ _ _ : State).g _ = _
    exact (ite_g (fun _ => g_put_sep _ _ hs) (fun _ => rfl)).trans (hb hf)
  have hu : c.usedOuts = s.usedOuts := by
    have h : ∀ k < 2, c.g (F.SAF_SOUT_CFG_USED k) = s.g (F.SAF_SOUT_CFG_USED k) := fun k hk => by
      obtain ⟨u1, u2, u3, u4, u5⟩ := hused k hk
      exact (hc u1 u5).trans ((g_incSat_sep _ u2).trans ((g_evt_sep _ u3 (by simp [sep, F.UNIT_IRQ_STAT_EVT, F.SAF_SOUT_CFG_USED, F.SAF_EVT_UNLOCK]; omega)).trans (g_put_sep _ _ u4)))
    exact usedOuts_congr (h 0 (by decide)) (h 1 (by decide))
  refine ⟨(on_put_sep _ _ rfl).trans ((on_congr (hc (by decide) rfl)).trans ?_), (on_put_sep _ _ rfl).trans ((on_congr (hc (by decide) rfl)).trans ?_),
    (g_put_sep _ _ rfl).trans ((hc (by decide) rfl).trans ?_), ?_, fun h4 => (g_put_sep _ _ rfl).trans ?_⟩
  · exact (on_incSat_sep _ rfl).trans ((on_evt_sep _ rfl rfl).trans (on_put_clear _ rfl))
  · exact (on_incSat_sep _ rfl).trans (on_evt_self _ rfl)
  · rw [show a = ((s.put F.SAF_STAT_LOCKED 0).evt F.SAF_EVT_UNLOCK).incSat F.SAF_CNT_UNLOCKS from rfl, g_incSat (by decide) (by decide) (g_le_top _ _), g_evt_sep _ rfl rfl,
      g_put_sep _ _ rfl]
  · rw [hu]
    exact g_put_self (by decide) (by decide) (usedOuts_lt s)
  · have h4' : b.g F.SAF_STAT_FSTATE = 4 := (hb (by decide)).trans ((g_incSat_sep _ rfl).trans ((g_evt_sep _ rfl rfl).trans ((g_put_sep _ _ rfl).trans h4)))
    rw [show c = if b.g F.SAF_STAT_FSTATE = 4 then b.put F.SAF_STAT_FSTATE 1 else b from rfl, if_pos h4']
    exact g_put_room _ rfl

theorem unlocked_saf (s : State) : (unlocked s).saf = s.saf := by
  unfold unlocked
  extract_lets a b c
  have hb : b.saf = s.saf := by
    rw [show b = a.event 0x6881 (0 :: 0 :: leBytes 4 (a.g F.SAF_LOCK_CNT_LOCK_CNT)) from rfl,
      within_saf (event_fits (g := Foot.of [0x70, 0x71] [.evr]) a _ _ (by decide) (fits_refl _ a)).within rfl rfl]
    simp only [a, incSat_saf, evt_saf, put_saf]
  rw [put_saf]
  show (ite _ _ _ : State).saf = _
  split_ifs
  · rw [put_saf]
    exact hb
  · exact hb

theorem soutsTry_g (s : State) {f : Fld} (h0 : sep (F.SAF_SOUT_STAT_STATE 0) f = true) (h1 : sep (F.SAF_SOUT_STAT_STATE 1) f = true) (hp : groupPage f.page ≠ 0x50) :
    s.soutsTry.g f = s.g f := (soutTry_g _ h1 hp).trans (soutTry_g _ h0 hp)

theorem settle_low2 (h : s.g F.SAF_STAT_FSTATE = 1 ∨ s.g F.SAF_STAT_FSTATE = 2) : s.settle.g F.SAF_STAT_FSTATE = 1 ∨ s.settle.g F.SAF_STAT_FSTATE = 2 := by
  unfold State.settle
  dsimp only
  split_ifs
  · exact .inr (g_put_room s rfl)
  · exact .inl (g_put_room s rfl)
  · exact h

/-- What an accepted unlock leaves. -/
theorem unlockAccept_leaves (s : State) :
    let t := s.unlockAccept.settle
    t.on F.SAF_STAT_LOCKED = false ∧ t.on F.SAF_EVT_UNLOCK = true ∧ t.g F.SAF_CNT_UNLOCKS = min F.SAF_CNT_UNLOCKS.top (s.g F.SAF_CNT_UNLOCKS + 1)
      ∧ t.g F.SAF_SOUT_CTRL_ON = s.usedOuts
      ∧ (s.g F.SAF_STAT_FSTATE = 4 → (t.g F.SAF_STAT_FSTATE = 1 ∨ t.g F.SAF_STAT_FSTATE = 2)
          ∧ ∀ k, k < 2 → s.on (F.SAF_SOUT_CFG_USED k) = true → s.g (F.SAF_SOUT_STAT_STATE k) ≠ 3 → s.saf.padGate = false → s.saf.souts.length = 2 →
            t.g (F.SAF_SOUT_STAT_STATE k) = 2 ∧ (t.saf.souts.getD k Sout.init).high = true) := by
  intro t
  obtain ⟨h1, h2, h3, h4, h5⟩ := unlocked_leaves s
  have hg : ∀ {f : Fld}, sep (F.SAF_SOUT_STAT_STATE 0) f = true → sep (F.SAF_SOUT_STAT_STATE 1) f = true → groupPage f.page ≠ 0x50 →
      F.SAF_STAT_FSTATE.apart f = true → t.g f = (unlocked s).g f := fun a b c d => (settle_g _ d).trans ((settle_g _ d).trans (soutsTry_g _ a b c))
  refine ⟨(on_congr (hg (by decide) (by decide) (by decide) (by decide))).trans h1, (on_congr (hg (by decide) (by decide) (by decide) (by decide))).trans h2,
    (hg (by decide) (by decide) (by decide) (by decide)).trans h3, (hg (by decide) (by decide) (by decide) (by decide)).trans h4, fun hf => ⟨?_, fun k hk hu hne hpad hlen => ?_⟩⟩
  · exact settle_low2 (settle_low2 (.inl ((soutsTry_g _ (by decide) (by decide) (by decide)).trans (h5 hf))))
  · have hkeep : ∀ k < 2, clear recordFields (F.SAF_SOUT_CFG_USED k) = true ∧ clear recordFields (F.SAF_SOUT_STAT_STATE k) = true
        ∧ clear [F.SAF_STAT_LOCKED, F.SAF_EVT_UNLOCK, F.UNIT_IRQ_STAT_EVT 0x68, F.SAF_CNT_UNLOCKS, F.SAF_STAT_FSTATE, F.SAF_SOUT_CTRL_ON] (F.SAF_SOUT_CFG_USED k) = true
        ∧ clear [F.SAF_STAT_LOCKED, F.SAF_EVT_UNLOCK, F.UNIT_IRQ_STAT_EVT 0x68, F.SAF_CNT_UNLOCKS, F.SAF_STAT_FSTATE, F.SAF_SOUT_CTRL_ON] (F.SAF_SOUT_STAT_STATE k) = true
        ∧ F.SAF_STAT_FSTATE.apart (F.SAF_SOUT_STAT_STATE k) = true := by decide
    obtain ⟨k1, k2, k3, k4, k5⟩ := hkeep k hk
    have hmay : mayGo (unlocked s) k = true := by
      rw [mayGo, on_congr (unlocked_g s k1 k3), hu, h4, usedOuts_bit s hk hu, h5 hf, unlocked_saf, hpad]
      rfl
    obtain ⟨g1, g2⟩ := soutsTry_goes hmay (by rw [unlocked_g s k2 k4]; exact hne) hk (by rw [unlocked_saf]; exact hlen)
    exact ⟨(settle_g _ k5).trans ((settle_g _ k5).trans g1), by rw [settle_saf, unlockAccept_eq, settle_saf]; exact g2⟩


/-! ### Flint's watchdog and its faults -/

theorem endJob_parts (s : State) : s.endJob.mem = s.mem ∧ s.endJob.rst = s.rst := by
  have h := (endJob_fits s (le_self _) (fits_refl _ s)).within
  exact ⟨within_mem h rfl rfl, within_rst h rfl rfl⟩

theorem afterWarm_scope (s : State) : s.afterWarm.rst.scope = some .warm ∧ s.afterWarm.mem = s.mem := by
  unfold State.afterWarm
  split_ifs
  · simp only [put_rst, put_mem, and_self]
  · simp only [State.addSat, put_rst, put_mem, and_self]

/-- A warm reset with the fuses sensed, before its cause is shown. -/
def warmSensed (s : State) : State := s.endJob.afterWarm.senseFuses.tapReset

/-- The end of a warm reset: its cause and the root's flags. -/
def warmShown (s : State) (cause : Fld) (rf : Nat) (pin : Bool) : State :=
  (((s.put cause 1).put F.CLK_STAT_RF_ACTIVE rf).put F.CLK_STAT_SSC_ACTIVE 0).rcRestart pin

theorem warmReset_eq (s : State) (cause : Fld) (pin : Bool) :
    s.warmReset cause pin = if s.rst.scope = some .cold then s else warmShown (warmSensed s) cause (s.g F.CLK_MODE_RATIO_FREE) pin := rfl

theorem warmSensed_begins (s : State) : (warmSensed s).rst.scope = some .warm ∧ (warmSensed s).mem = s.mem := by
  have hf : s.endJob.afterWarm.Within (Foot.of [0x02, 0x40, 0x78, 0x7A, 0x80, 0x81] [.sec]) (warmSensed s) :=
    (tapReset_fits _ (by decide) (senseFuses_fits s.endJob.afterWarm (by decide) (fits_refl ..))).within
  obtain ⟨h1, h2⟩ := afterWarm_scope s.endJob
  exact ⟨(congrArg Rst.scope (within_rst hf rfl rfl)).trans h1, (within_mem hf rfl rfl).trans (h2.trans (endJob_parts s).1)⟩

theorem warmShown_cause (s : State) {cause : Fld} (hc : causeBit cause = true) (rf : Nat) (pin : Bool) :
    (warmShown s cause rf pin).rst = s.rst ∧ (warmShown s cause rf pin).mem = s.mem ∧ (warmShown s cause rf pin).on cause = true := by
  simp only [causeBit, Bool.and_eq_true, decide_eq_true_eq] at hc
  obtain ⟨⟨⟨hpage, hone⟩, hh⟩, -⟩ := hc
  have hclk : ∀ x : Fld, x.page = 0x01 → x.apart cause = true := fun x hx => by
    simp only [Fld.apart, Fld.addr, hpage, hx]
    simp
    omega
  have hr : ∀ w : State, w.Within (Foot.of [0x01] [.quartz]) (w.rcRestart pin) := fun w => (rcRestart_fits w pin (by decide) (fits_refl _ w)).within
  unfold warmShown
  refine ⟨(within_rst (hr _) rfl rfl).trans ?_, (within_mem (hr _) rfl rfl).trans ?_, (on_congr (within_g (hr _) rfl cause (by rw [hpage]; decide))).trans ?_⟩
  · rw [put_rst, put_rst, put_rst]
  · rw [put_mem, put_mem, put_mem]
  · exact (on_put_other _ _ _ _ (by decide) (hclk _ rfl)).trans ((on_put_other _ _ _ _ (by decide) (hclk _ rfl)).trans (on_put_one _ _ hh hone))

/-- A warm reset that begins: its scope, its cause, and memory as it was. -/
theorem warmReset_begins (s : State) {cause : Fld} (hs : s.rst.scope = none) (hc : causeBit cause = true) (pin : Bool) :
    (s.warmReset cause pin).rst.scope = some .warm ∧ (s.warmReset cause pin).on cause = true ∧ (s.warmReset cause pin).mem = s.mem := by
  have he : s.warmReset cause pin = warmShown (warmSensed s) cause (s.g F.CLK_MODE_RATIO_FREE) pin :=
    (warmReset_eq s cause pin).trans (if_neg (by rw [hs]; decide))
  obtain ⟨h1, h2⟩ := warmSensed_begins s
  obtain ⟨h3, h4, h5⟩ := warmShown_cause (warmSensed s) hc (s.g F.CLK_MODE_RATIO_FREE) pin
  rw [he]
  exact ⟨(congrArg Rst.scope h3).trans h1, h5, h4.trans h2⟩

/-- Flint's own state but for the lock-out of the command and the outputs stands through faults and triggers. -/
theorem flint_reacts (s : State) {Q : Saf → Prop} (ht : ∀ a v w, Q a → Q { a with trigNow := v, due := w }) (hs : ∀ a l, Q a → Q { a with souts := l }) :
    Reacts s (fun u => Q u.saf) :=
  ⟨fun x v _ hu => by rw [put_saf]; exact hu, fun _ hu => hu, fun _ hu => hu, fun _ _ hu => ht _ _ _ hu, fun _ _ _ hu => hs _ _ hu,
    fun j _ _ _ hu => by rw [put_saf]; exact hu, fun {u} j _ _ _ hu => by
      rw [within_saf (laneOff_fits (g := Foot.of [0x50] [.lanes]) u j (by decide) (fits_refl _ u)).within rfl rfl]
      exact hu⟩

/-- The lockstep has failed: Flint is halted. -/
def lockstepLost (s : State) : State :=
  (s.evt F.SAF_EVT_LOCKSTEP).withSaf { (s.evt F.SAF_EVT_LOCKSTEP).saf with halted := true, lockstep := true }

/-- Flint's watchdog has expired, before the reset. -/
def wdtExpired (s : State) : State :=
  ((s.evt F.SAF_EVT_WDT_EXP).withSaf { (s.evt F.SAF_EVT_WDT_EXP).saf with wdtExpired := true }).raiseTrig S.SAF_FLINT_WDT 0 6 0 false

theorem wdtExpired_fits (s : State) : s.Fits (Foot.reaction [] []) (wdtExpired s) :=
  raiseTrig_fits _ _ _ _ _ _ (by decide) (by decide) (withSaf_fits _ keep_refl rfl (evt_fits (by decide) (fits_refl _ s)))

theorem masterRuns_scope (hm : s.masterRuns m = true) : s.rst.scope = none := by
  simp only [State.masterRuns, Bool.and_eq_true] at hm
  simpa using hm.1.1.1

theorem reason_room (h : wordField v 15 8 ≤ 13) : room F.SAF_REASON_REASON (wordField v 15 8) = true ∧ room F.SAF_REASON_LAST (wordField v 15 8) = true := by
  have h256 : wordField v 15 8 < 256 := by omega
  simp [room, F.SAF_REASON_REASON, F.SAF_REASON_LAST, h256]

theorem detail_room (v : Word) : room F.SAF_REASON_DETAIL (wordField v 23 16) = true := by
  have h : wordField v 23 16 < 2 ^ (23 + 1 - 16) := Nat.mod_lt _ (by decide)
  simp only [room, Bool.and_eq_true, decide_eq_true_eq]
  exact ⟨⟨by decide, by decide⟩, h⟩

theorem safReactWrite_go (s : State) (h1 : wordField v 0 0 = 1) (h8 : 8 ≤ wordField v 15 8) (h13 : wordField v 15 8 ≤ 13) :
    s.safReactWrite v = (s.trigger (wordField v 15 8) (wordField v 23 16)).settle := if_pos (by simp [h1, h8, h13])

theorem safReactWrite_none (s : State) (h : wordField v 0 0 = 0 ∨ wordField v 15 8 < 8 ∨ 13 < wordField v 15 8) : s.safReactWrite v = s := if_neg (by
  rcases h with h | h | h <;> simp [h])

/-- Settles O41, along Flint's evaluation, the writes to its page, and its faults. -/
theorem flintAndLockOut : Obligations.FlintAndLockOut := by
  unfold Obligations.FlintAndLockOut
  refine ⟨?eval, ?noEval, ?react, ?noReact, ?unlock, ?refuse, ?kick, ?noKick, ?lockstep, ?noLockstep, ?readback, ?noReadback⟩
  case eval =>
    intro s hh hs
    have hgo : ¬ (s.begin.saf.halted || s.begin.rst.scope.isSome) = true := by
      rw [show s.begin.saf.halted = s.saf.halted from rfl, show s.begin.rst = s.rst from rfl, hh, hs]
      decide
    have hf : (evaluated s.begin).g F.SAF_STAT_FSTATE = s.g F.SAF_STAT_FSTATE := (g_put_sep _ _ rfl).trans (g_put_sep _ _ rfl)
    have hterms : (evaluated s.begin).allTerms = (s.hwTerms && s.flintTerms) := evaluated_terms s.begin
    have hrun : exec .flintEvaluation s = .next (evaluated s.begin).settle :=
      congrArg Host.Outcome.next ((if_neg hgo).trans (congrArg State.settle (evaluated_eq s.begin)))
    refine ⟨_, hrun, ?_, ?_, fun h1 ha hb hblk => settle_rises (hf.trans h1) (by rw [hterms, ha, hb]; rfl) ?_, fun h23 ha => settle_falls (by rw [hf]; exact h23)
      (hterms.trans ha), ?_⟩
    · exact (on_congr (settle_g _ (by decide))).trans ((on_put_sep _ _ rfl).trans (on_put_bit _ _ rfl rfl))
    · exact (on_congr (settle_g _ (by decide))).trans (on_put_bit _ _ rfl rfl)
    · have hrst : (evaluated s.begin).rst = s.rst := by
        rw [evaluated, put_rst, put_rst]
        rfl
      rw [State.safetyBlock, State.blockRunning, State.blockRunning, State.blockRunning, hrst]
      exact hblk
    · exact only_settle (by simp) (only_put _ (by simp) (by decide) (only_put _ (by simp) (by decide) (only_refl _ _ _)))
  case noEval =>
    intro s h
    refine congrArg Host.Outcome.next (if_pos ?_)
    rw [show s.begin.saf.halted = s.saf.halted from rfl, show s.begin.rst = s.rst from rfl]
    rcases h with h | h
    · simp [h]
    · simp [Option.isSome_iff_ne_none.2 h]
  case react =>
    intro s m v hm hw h1 h8 h13
    obtain ⟨hr, hl⟩ := reason_room h13
    have hrun : exec (.safReact m v) s = .next ((s.begin.trigger (wordField v 15 8) (wordField v 23 16)).settle.settle) :=
      (exec_safReact hm hw).trans (by rw [safReactWrite_go _ h1 h8 h13])
    refine ⟨fun hu => ?_, fun hk => ?_⟩
    · obtain ⟨f1, f2, f3⟩ := trigger_fresh s.begin (code := wordField v 15 8) (detail := wordField v 23 16) rfl hu hr (detail_room v)
      obtain ⟨l1, l2, l3, l4, l5, l6⟩ := trigger_locks s.begin (code := wordField v 15 8) (detail := wordField v 23 16) rfl hu hl
      have hidle : (s.begin.trigger (wordField v 15 8) (wordField v 23 16)).settle = s.begin.trigger (wordField v 15 8) (wordField v 23 16) := settle_idle (by
        rw [f3]
        split_ifs
        · exact .inl rfl
        · exact .inr rfl)
      rw [hidle, hidle] at hrun
      refine ⟨_, hrun, trigger_locked _ _ _ rfl, f1, f2, l1, l2, l3, l4, l5, l6, fun hf => ⟨f3.trans (if_neg hf), ?_, fun k hk => ?_⟩, ?_⟩
      · exact (trigger_drops s.begin rfl hu hf (k := 0) (by decide)).1
      · exact (trigger_drops s.begin rfl hu hf hk).2
      · exact (trigger_fits _ _ _ (by decide) (begin_fits s (by decide) (fits_refl _ s))).within
    · obtain ⟨a1, a2, a3, a4, a5⟩ := trigger_again s.begin (code := wordField v 15 8) (detail := wordField v 23 16) rfl hk hl
      have hset : ∀ {w : State} {x : Fld}, F.SAF_STAT_FSTATE.apart x = true → w.settle.settle.g x = w.g x := fun hx => (settle_g _ hx).trans (settle_g _ hx)
      refine ⟨_, hrun, (hset (by decide)).trans a1, (hset (by decide)).trans a2, (hset (by decide)).trans a3, (hset (by decide)).trans a4, ?_⟩
      exact (settle_fits _ (by decide) (settle_fits _ (by decide) (fits_app (by decide) a5 (begin_fits s (by decide) (fits_refl _ s))))).within
  case noReact =>
    intro s m v hm hw h
    exact (exec_safReact hm hw).trans (by rw [safReactWrite_none _ h])
  case unlock =>
    intro s m v hm hw h1 hrej hshape
    have hrun : exec (.safUnlock m v) s = .next ((unlockAsked s.begin v).unlockAccept.settle) :=
      (exec_safUnlock hm hw).trans (by rw [safUnlockWrite_eq _ h1]; exact congrArg Host.Outcome.next (congrArg State.settle (if_pos hrej)))
    obtain ⟨k1, k2, k3, k4, k5⟩ := unlockAccept_leaves (unlockAsked s.begin v)
    have hsaf : (unlockAsked s.begin v).saf = s.begin.saf := unlockAsked_saf _ _
    have hused : (unlockAsked s.begin v).usedOuts = s.usedOuts := usedOuts_congr (unlockAsked_g _ _ (by decide)) (unlockAsked_g _ _ (by decide))
    have hout : ∀ k < 2, F.SAF_UNLOCK_REJ.apart (F.SAF_SOUT_CFG_USED k) = true ∧ F.SAF_UNLOCK_REJ.apart (F.SAF_SOUT_STAT_STATE k) = true := by decide
    have hfit : s.Fits (Foot.of [0x50, 0x68, 0x70, 0x71] [.flt, .evr, .saf, .csf, .lanes]) (unlockAsked s.begin v) :=
      withCsf_fits _ rfl (put_fits _ (by decide) (begin_fits s (by decide) (fits_refl _ s)))
    have hcsf : ∀ w : State, w.unlockAccept.settle.csf = w.csf := fun w =>
      within_csf (settle_fits (g := Foot.of [0x50, 0x68, 0x70, 0x71] [.evr, .saf, .lanes]) _ (by decide) (unlockAccept_fits w (by decide) (fits_refl _ w))).within rfl rfl
    refine ⟨_, hrun, k1, k2, (hcsf _).trans rfl, ?_, k4.trans hused, fun h4 => ?_, ?_⟩
    · rw [k3, unlockAsked_g _ _ (by decide)]
      rfl
    · obtain ⟨c1, c2⟩ := k5 ((unlockAsked_g _ _ (by decide)).trans h4)
      refine ⟨c1, fun k hk hu hpad => c2 k hk ((on_congr (unlockAsked_g _ _ (hout k hk).1)).trans hu) ?_ (by rw [hsaf]; exact hpad) (by rw [hsaf]; exact shaped_souts hshape)⟩
      rw [unlockAsked_g _ _ (hout k hk).2]
      exact unlockRej_outputs hrej hk hu
    · exact (settle_fits _ (by decide) (unlockAccept_fits _ (by decide) hfit)).within
  case refuse =>
    intro s m v hm hw h1 hrej
    have hrun : exec (.safUnlock m v) s = .next (((unlockAsked s.begin v).unlockRefuse s.unlockRej).settle) :=
      (exec_safUnlock hm hw).trans (by rw [safUnlockWrite_eq _ h1]; exact congrArg Host.Outcome.next (congrArg State.settle (if_neg hrej)))
    have hfit : s.Fits (Foot.of [0x68, 0x70, 0x71] [.flt, .evr, .saf, .csf]) (unlockAsked s.begin v) :=
      withCsf_fits _ rfl (put_fits _ (by decide) (begin_fits s (by decide) (fits_refl _ s)))
    have hcsf : ∀ w : State, (w.unlockRefuse s.unlockRej).settle.csf = w.csf := fun w =>
      within_csf (settle_fits (g := Foot.of [0x68, 0x70, 0x71] [.evr]) _ (by decide) (unlockRefuse_fits w _ (by decide) (fits_refl _ w))).within rfl rfl
    have hk : ∀ {w : State} {x : Fld}, F.SAF_STAT_FSTATE.apart x = true → clear recordFields x = true →
        (w.unlockRefuse s.unlockRej).settle.g x = ((w.put F.SAF_UNLOCK_REJ s.unlockRej).evt F.SAF_EVT_UNLOCK_REJ).g x :=
      fun ha hr => (settle_g _ ha).trans (event_g _ _ _ hr)
    refine ⟨_, hrun, (hk (by decide) (by decide)).trans ?_, (on_congr (hk (by decide) (by decide))).trans (on_evt_self _ rfl), (on_congr (hk (by decide) (by decide))).trans ?_,
      (hcsf _).trans rfl, (settle_fits _ (by decide) (unlockRefuse_fits _ _ (by decide) hfit)).within⟩
    · exact (g_evt_sep _ rfl rfl).trans (g_put_self (by decide) (by decide) (Nat.lt_of_le_of_lt (unlockRej_le s) (by decide)))
    · exact (on_evt_sep _ rfl rfl).trans ((on_put_sep _ _ rfl).trans (on_congr (unlockAsked_g _ _ (by decide))))
  case kick =>
    intro s m v hm hw hkey
    refine ⟨fun hk => ?_, fun k hk hle => ?_, fun k hk hlt => ?_⟩
    · have hrun : exec (.flintWdtKick m v) s = .next (((s.begin.put F.SAF_WDT_ARMED 1).withSaf { (s.begin.put F.SAF_WDT_ARMED 1).saf with lastKick := some s.now }).settle) := by
        rw [exec_flintWdtKick hm hw, State.flintKick, if_pos hkey, show s.begin.saf.lastKick = none from hk, put_saf]
        rfl
      refine ⟨_, hrun, ?_, by rw [settle_saf]; rfl, only_settle (by simp) (only_withSaf (by simp) (only_put _ (by simp) (by decide) (only_refl _ _ _)))⟩
      exact (on_congr (settle_g _ (by decide))).trans ((withSaf_on ..).trans (on_put_set _ rfl))
    · have hrun : exec (.flintWdtKick m v) s = .next ((s.begin.withSaf { s.begin.saf with lastKick := some s.now }).settle) := by
        rw [exec_flintWdtKick hm hw, State.flintKick, if_pos hkey, show s.begin.saf.lastKick = some k from hk]
        exact congrArg Host.Outcome.next (congrArg State.settle (if_neg (Nat.not_lt.2 hle)))
      exact ⟨_, hrun, by rw [settle_saf]; rfl, only_settle (by simp) (only_withSaf (by simp) (only_refl _ _ _))⟩
    · have hrun : exec (.flintWdtKick m v) s = .next (((wdtExpired s.begin).warmReset F.RST_CAUSE_WDT_FLINT false).settle) := by
        rw [exec_flintWdtKick hm hw, State.flintKick, if_pos hkey, show s.begin.saf.lastKick = some k from hk]
        exact congrArg Host.Outcome.next (congrArg State.settle (if_pos hlt))
      have hw' := (wdtExpired_fits s.begin).within
      obtain ⟨w1, w2, w3⟩ := warmReset_begins (wdtExpired s.begin) (cause := F.RST_CAUSE_WDT_FLINT)
        ((congrArg Rst.scope (within_rst hw' rfl rfl)).trans (masterRuns_scope hm)) (by decide) false
      have hset := (settle_fits (g := Foot.of [0x68] []) ((wdtExpired s.begin).warmReset F.RST_CAUSE_WDT_FLINT false) (by decide) (fits_refl _ _)).within
      exact ⟨_, hrun, (congrArg Rst.scope (within_rst hset rfl rfl)).trans w1, (on_congr (settle_g _ (by decide))).trans w2,
        (within_mem hset rfl rfl).trans (w3.trans ((within_mem hw' rfl rfl).trans rfl))⟩
  case noKick =>
    intro s m v hm hw hkey
    exact (exec_flintWdtKick hm hw).trans (congrArg Host.Outcome.next (congrArg State.settle (if_neg hkey)))
  case lockstep =>
    intro s hh
    have h0 : (lockstepLost s.begin).saf.trigNow = 0 := by
      rw [lockstepLost, evt_saf]
      rfl
    have hrun : exec .lockstepMismatch s = .next (((lockstepLost s.begin).raiseTrig S.SAF_LOCKSTEP 0 7 0 false).settle) :=
      congrArg Host.Outcome.next (if_neg (by rw [show s.begin.saf.halted = s.saf.halted from rfl, hh]; decide))
    have hsaf := (flint_reacts (lockstepLost s.begin) (Q := fun a => a.halted = true ∧ a.lockstep = true) (fun _ _ _ h => h) (fun _ _ h => h)).raiseTrig
      S.SAF_LOCKSTEP 0 7 0 false id ⟨rfl, rfl⟩
    have hf : s.Fits (Foot.reaction [] []) (lockstepLost s.begin) :=
      withSaf_fits _ keep_refl rfl (evt_fits (by decide) (begin_fits s (by decide) (fits_refl _ s)))
    refine ⟨_, hrun, ?_, ?_, ?_, ?_, fun hd => ?_, (settle_fits _ (by decide) (raiseTrig_fits _ _ _ _ _ _ (by decide) (by decide) hf)).within⟩
    · rw [settle_saf]
      exact hsaf.1
    · rw [settle_saf]
      exact hsaf.2
    · exact (on_congr ((settle_g _ (by decide)).trans (raiseTrig_lamp _ _ _ _ _ _ (by decide)))).trans ((withSaf_on ..).trans (on_evt_self _ rfl))
    · refine (on_congr (settle_g _ (by decide))).trans (trigger_locked _ _ _ ?_)
      rw [raiseWith_saf]
      exact h0
    · refine (on_congr (settle_g _ (by decide))).trans (raiseTrig_pend _ _ _ _ _ (by decide) ?_)
      rw [State.defLevel, lockstepLost, withSaf_on, withSaf_g, on_evt_sep _ rfl rfl, g_evt_sep _ rfl rfl]
      exact hd
  case noLockstep =>
    intro s hh
    exact congrArg Host.Outcome.next (if_pos hh)
  case readback =>
    intro s hf
    have hrun : exec .fokReadbackMismatch s = .next (((s.begin.evt F.SAF_EVT_FOK_RB).raise S.SAF_FOK_RB 0).settle) :=
      congrArg Host.Outcome.next (if_neg hf)
    refine ⟨_, hrun, ?_, fun hd => ?_, (settle_fits _ (by decide) (raise_fits _ _ _ (by decide) (by decide) (evt_fits (by decide)
      (begin_fits s (by decide) (fits_refl _ s))))).within⟩
    · exact (on_congr ((settle_g _ (by decide)).trans (raise_lamp _ _ _ (by decide)))).trans (on_evt_self _ rfl)
    · refine (on_congr (settle_g _ (by decide))).trans (raise_pend _ _ (by decide) ?_)
      rw [State.defLevel, on_evt_sep _ rfl rfl, g_evt_sep _ rfl rfl]
      exact hd
  case noReadback =>
    intro s hf
    exact congrArg Host.Outcome.next (if_pos hf)


end Sys2Proof.Proofs.FlintLockOut
end

section
/-! PROOF. The safety inputs (SafetyInputs). -/

namespace Sys2Proof.Proofs.SafetyIns

open Sys2Proof.Machine Sys2Proof.Laws Sys2Proof.Proofs.Architecture Sys2Proof.Proofs.Reading Sys2Proof.Proofs.GovernorSums
  Sys2Proof.Proofs.PendingFaults Sys2Proof.Proofs.QuartzRoot Sys2Proof.Proofs.LampReactions Sys2Proof.Proofs.LampLanes Sys2Proof.Proofs.SafetyOuts
  Sys2Proof.Proofs.FlintLockOut

variable {s t u : State} {i j k n c d : Nat}

/-! ### The fields of an input -/

/-- The state word of an input. -/
def inputFields (n : Nat) : List Fld :=
  [F.SAF_SIN_STAT_STATE n, F.SAF_SIN_STAT_CAUSE n, F.SAF_SIN_STAT_XSRC n, F.SAF_SIN_STAT_A n, F.SAF_SIN_STAT_B n, F.SAF_SIN_STAT_DEMANDS n]

/-- The settings of the inputs. -/
def inputSettings : List Fld :=
  (List.range 4).flatMap (fun n => [F.SAF_SIN_CFG_USED n, F.SAF_SIN_CFG_MODE n, F.SAF_SIN_CFG_FEED_B n])

/-- What a fault of an input shows beside its state, and what its level rests on. -/
def inputMarks : List Fld := [F.SAF_EVT_SIN_FAULT, F.SAF_STAT_LOCKED, fltPend S.SAF_SIN_FAULT, F.FLT_CTRL_MODE, fltSev S.SAF_SIN_FAULT]

/-- Two fields of one word, apart by their bits. -/
def bitsApart (f x : Fld) : Bool := decide (f.hi < 32) && (decide (x.hi < f.lo) || decide (f.hi < x.lo))

theorem sep_of_bits {f x : Fld} (h : bitsApart f x = true) : sep f x = true := by
  simp only [bitsApart, Bool.and_eq_true, Bool.or_eq_true, decide_eq_true_eq] at h
  simp only [sep, Bool.and_eq_true, Bool.or_eq_true, decide_eq_true_eq]
  tauto

theorem inputs_sep : ∀ j < 4, ∀ n < 4, j ≠ n → ∀ f ∈ inputFields j, ∀ x ∈ inputFields n, sep f x = true := by decide

theorem input_sep_marks : ∀ j < 4, ∀ f ∈ inputFields j, (∀ x ∈ inputMarks, sep f x = true) ∧ (∀ x ∈ inputSettings, sep f x = true) := by decide

theorem input_lamp : ∀ n < 4, ∀ f ∈ inputFields n, lampField f = true ∧ sep F.SAF_STAT_FSTATE f = true ∧ sep F.SAF_EVT_SIN_FAULT f = true
    ∧ sep F.SAF_EVT_SIN_DEMAND f = true ∧ sep (F.UNIT_IRQ_STAT_EVT 0x68) f = true := by decide

theorem settings_lamp : ∀ f ∈ inputSettings, lampField f = true ∧ sep F.SAF_STAT_FSTATE f = true ∧ sep F.SAF_EVT_SIN_FAULT f = true
    ∧ sep F.SAF_EVT_SIN_DEMAND f = true ∧ sep (F.UNIT_IRQ_STAT_EVT 0x68) f = true := by decide

/-- The level that a channel shows. -/
def levelField (n c : Nat) : Fld := if c = 0 then F.SAF_SIN_STAT_A n else F.SAF_SIN_STAT_B n

theorem levelField_mem (n c : Nat) : levelField n c ∈ inputFields n := by
  unfold levelField inputFields
  split_ifs <;> simp

/-! ### Channels -/

theorem modChanS_g (s : State) (n c : Nat) (f : SinChan → SinChan) {x : Fld} (h : sep (levelField n c) x = true) : (s.modChanS n c f).g x = s.g x :=
  (withSaf_g ..).trans (g_put_sep _ _ h)

theorem modChanS_chan (s : State) (f : SinChan → SinChan) (h : 2 * n + c < s.saf.chans.length) (hc : c < 2) (hd : d < 2) :
    (s.modChanS n c f).chan i d = if n = i ∧ c = d then f (s.chan n c) else s.chan i d := by
  show (s.saf.chans.set (2 * n + c) (f (s.chan n c))).getD (2 * i + d) SinChan.init = _
  by_cases hk : n = i ∧ c = d
  · obtain ⟨rfl, rfl⟩ := hk
    simp [List.getD_eq_getElem?_getD, h]
  · have hne : 2 * n + c ≠ 2 * i + d := by omega
    rw [if_neg hk, List.getD_eq_getElem?_getD, List.getElem?_set_ne hne]
    rfl

theorem modChanS_length (s : State) (n c : Nat) (f : SinChan → SinChan) : (s.modChanS n c f).saf.chans.length = s.saf.chans.length :=
  List.length_set

theorem modChanS_healthyFor (s : State) (n c : Nat) (f : SinChan → SinChan) : (s.modChanS n c f).saf.healthyFor = s.saf.healthyFor := rfl

theorem setHealthyFor_self (s : State) (b : Bool) (h : n < s.saf.healthyFor.length) : (s.setHealthyFor n b).saf.healthyFor.getD n false = b := by
  simp [State.setHealthyFor, State.withSaf, List.getD_eq_getElem?_getD, h]

/-- What a fault or a trigger leaves of Flint's own state: the channels and whether they have been healthy. -/
def ChansRest (s t : State) : Prop := t.saf.chans = s.saf.chans ∧ t.saf.healthyFor = s.saf.healthyFor

theorem chansRest_trans (h : ChansRest s t) (k : ChansRest t u) : ChansRest s u := ⟨k.1.trans h.1, k.2.trans h.2⟩

theorem chansRest_saf (h : t.saf = s.saf) : ChansRest s t := ⟨by rw [h], by rw [h]⟩

theorem chansRest_settle (s : State) : ChansRest s s.settle := chansRest_saf (settle_saf s)

theorem chansRest_reacts (s : State) : Reacts s (ChansRest s) :=
  flint_reacts s (Q := fun a => a.chans = s.saf.chans ∧ a.healthyFor = s.saf.healthyFor) (fun _ _ _ h => h) (fun _ _ h => h)

theorem chansRest_raise (s : State) (i inst : Nat) : ChansRest s (s.raise i inst) := (chansRest_reacts s).raise i inst id ⟨rfl, rfl⟩

theorem chansRest_raiseTrig (s : State) (i inst code detail : Nat) (flint : Bool) : ChansRest s (s.raiseTrig i inst code detail flint) :=
  (chansRest_reacts s).raiseTrig i inst code detail flint id ⟨rfl, rfl⟩

theorem chan_congr (h : ChansRest s t) (n c : Nat) : t.chan n c = s.chan n c := by rw [State.chan, State.chan, h.1]

theorem used_mem (h : n < 4) : F.SAF_SIN_CFG_USED n ∈ inputSettings :=
  List.mem_flatMap.2 ⟨n, List.mem_range.2 h, by simp⟩

theorem mode_mem (h : n < 4) : F.SAF_SIN_CFG_MODE n ∈ inputSettings :=
  List.mem_flatMap.2 ⟨n, List.mem_range.2 h, by simp⟩

theorem feed_mem (h : n < 4) : F.SAF_SIN_CFG_FEED_B n ∈ inputSettings :=
  List.mem_flatMap.2 ⟨n, List.mem_range.2 h, by simp⟩

section
variable (hg : ∀ f ∈ inputSettings, t.g f = s.g f) (hn : n < 4)

include hg hn

theorem healthyLevel_congr (c : Nat) : t.healthyLevel n c = s.healthyLevel n c := by
  rw [State.healthyLevel, State.healthyLevel, on_congr (hg _ (mode_mem hn))]

theorem feed_congr (c : Nat) : t.feed n c = s.feed n c := by
  rw [State.feed, State.feed, on_congr (hg _ (feed_mem hn))]

theorem testsPassed_congr (h : ∀ c < 2, (t.chan n c).passed = (s.chan n c).passed) (k : Nat) : t.testsPassed n k = s.testsPassed n k := by
  simp only [State.testsPassed, List.all_cons, List.all_nil, healthyLevel_congr hg hn, h 0 (by decide), h 1 (by decide)]

theorem atHealthy_congr (h : (t.chan n c).high = (s.chan n c).high) : t.atHealthy n c = s.atHealthy n c := by
  rw [State.atHealthy, State.atHealthy, h, healthyLevel_congr hg hn]

end

/-! ### An input that may be healthy -/

/-- An input may become HEALTHY. -/
def mayHeal (s : State) (n : Nat) : Bool :=
  let st := s.sinState n
  if st = 1 then s.saf.healthyFor.getD n false && s.testsPassed n 1
  else if st = 3 then s.saf.healthyFor.getD n false
  else st = 4 && s.atHealthy n 0 && s.atHealthy n 1 && s.testsPassed n 2

theorem sinHealthy_eq (s : State) (n : Nat) :
    s.sinHealthy n = if mayHeal s n then ((s.put (F.SAF_SIN_STAT_STATE n) 2).condEnd S.SAF_SIN_FAULT n).settle else s := rfl

theorem sinHealthy_state (s : State) (hn : n < 4) : (s.sinHealthy n).sinState n = if mayHeal s n then 2 else s.sinState n := by
  have hr : ∀ n < 4, room (F.SAF_SIN_STAT_STATE n) 2 = true := by decide
  rw [sinHealthy_eq]
  split_ifs
  · exact (settle_g _ (sep_apart (input_lamp n hn _ (by simp [inputFields])).2.1)).trans ((withFlt_g ..).trans (g_put_room _ (hr n hn)))
  · rfl

theorem sinHealthy_saf (s : State) (n : Nat) : (s.sinHealthy n).saf = s.saf := by
  have hend : ∀ u : State, (u.condEnd S.SAF_SIN_FAULT n).saf = u.saf := fun _ => rfl
  rw [sinHealthy_eq]
  split_ifs
  · rw [settle_saf, hend, put_saf]
  · rfl

theorem sinHealthy_only (s : State) (n : Nat) {s0 : State} {fs : List Fld} {ps : List Part} (h1 : F.SAF_SIN_STAT_STATE n ∈ fs) (h2 : F.SAF_STAT_FSTATE ∈ fs)
    (h3 : Part.flt ∈ ps) (h : s0.Only fs ps s) : s0.Only fs ps (s.sinHealthy n) := by
  rw [sinHealthy_eq]
  exact only_ite (fun _ => only_settle h2 (only_withFlt h3 (only_put _ h1 (by simp [F.SAF_SIN_STAT_STATE]) h))) (fun _ => h)

/-! ### An input that fails -/

/-- A trigger of the present command has locked the device, or none has been taken. -/
def Armed (s : State) : Prop := s.saf.trigNow = 0 ∨ s.on F.SAF_STAT_LOCKED = true

theorem armed_congr (hs : t.saf.trigNow = s.saf.trigNow) (hl : t.on F.SAF_STAT_LOCKED = s.on F.SAF_STAT_LOCKED) (h : Armed s) : Armed t := by
  rw [Armed, hs, hl]
  exact h

theorem trigger_takes (s : State) (code detail : Nat) (h : Armed s) : (s.trigger code detail).on F.SAF_STAT_LOCKED = true := by
  rcases h with h | h
  · exact trigger_locked s code detail h
  · exact trigger_keeps_locked code detail h

theorem armed_core (s : State) (i inst : Nat) (h : Armed s) : Armed (s.raiseWith i inst 0 false true) :=
  armed_congr (by rw [raiseWith_saf]) (on_congr (core_g s i inst 0 false (f := F.SAF_STAT_LOCKED) (by decide) (by decide) (by decide))) h

theorem raiseTrig_takes (s : State) (i inst code detail : Nat) (h : Armed s) : (s.raiseTrig i inst code detail false).on F.SAF_STAT_LOCKED = true :=
  trigger_takes _ code detail (armed_core s i inst h)

theorem armed_raise (s : State) (i inst : Nat) (h : Armed s) : Armed (s.raise i inst) := by
  have hflint : ∀ w : State, Armed w → Armed (w.flintTrigger i 12 (srcCode i / 256)) := fun w hw => by
    unfold State.flintTrigger
    split_ifs
    · exact hw
    · exact hw
    · exact .inr (trigger_takes w _ _ hw)
  rcases raise_eq_core s i inst with he | he <;> rw [he]
  · exact armed_core s i inst h
  · exact hflint _ (armed_core s i inst h)

/-- An input in FAULT, before the fault is raised. -/
def failing (s : State) (n cause : Nat) : State :=
  ((((s.put (F.SAF_SIN_STAT_STATE n) 4).put (F.SAF_SIN_STAT_CAUSE n) cause).clearTests n).setHealthyFor n false).evt F.SAF_EVT_SIN_FAULT

theorem sinFault_eq (s : State) (n cause : Nat) : s.sinFault n cause =
    (if s.sinState n = 1 then (failing s n cause).raise S.SAF_SIN_FAULT n else (failing s n cause).raiseTrig S.SAF_SIN_FAULT n 2 n false).settle := rfl

theorem clearTests_g (s : State) {x : Fld} (h : ∀ f ∈ inputFields n, sep f x = true) : (s.clearTests n).g x = s.g x :=
  (modChanS_g _ _ _ _ (h _ (levelField_mem n 1))).trans (modChanS_g _ _ _ _ (h _ (levelField_mem n 0)))

theorem level_sep_state (n c : Nat) : sep (levelField n c) (F.SAF_SIN_STAT_STATE n) = true ∧ sep (levelField n c) (F.SAF_SIN_STAT_CAUSE n) = true
    ∧ sep (levelField n c) (F.SAF_SIN_STAT_XSRC n) = true ∧ sep (levelField n c) (F.SAF_SIN_STAT_DEMANDS n) = true := by
  unfold levelField
  split_ifs
  · exact ⟨sep_of_bits rfl, sep_of_bits rfl, sep_of_bits rfl, sep_of_bits rfl⟩
  · exact ⟨sep_of_bits rfl, sep_of_bits rfl, sep_of_bits rfl, sep_of_bits rfl⟩

theorem clearTests_passed (s : State) (hn : n < 4) (hl : s.saf.chans.length = 8) (hc : c < 2) : ((s.clearTests n).chan n c).passed = 0 := by
  unfold State.clearTests
  rw [modChanS_chan _ _ (by rw [modChanS_length]; omega) (by decide) hc]
  split_ifs with h
  · rfl
  · have hc0 : c = 0 := by omega
    rw [modChanS_chan _ _ (by omega) (by decide) hc, if_pos ⟨rfl, hc0.symm⟩]

theorem failing_g (s : State) (cause : Nat) {x : Fld} (h : ∀ f ∈ inputFields n, sep f x = true) (he : sep F.SAF_EVT_SIN_FAULT x = true)
    (hq : sep (F.UNIT_IRQ_STAT_EVT 0x68) x = true) : (failing s n cause).g x = s.g x :=
  (g_evt_sep _ he hq).trans ((withSaf_g ..).trans ((clearTests_g _ h).trans ((g_put_sep _ _ (h _ (by simp [inputFields]))).trans
    (g_put_sep _ _ (h _ (by simp [inputFields]))))))

theorem failing_saf (s : State) (n cause : Nat) :
    (failing s n cause).saf = { (((s.put (F.SAF_SIN_STAT_STATE n) 4).put (F.SAF_SIN_STAT_CAUSE n) cause).clearTests n).saf with
      healthyFor := (((s.put (F.SAF_SIN_STAT_STATE n) 4).put (F.SAF_SIN_STAT_CAUSE n) cause).clearTests n).saf.healthyFor.set n false } :=
  evt_saf ..

theorem clearTests_rest (s : State) (n : Nat) : (s.clearTests n).saf.trigNow = s.saf.trigNow ∧ (s.clearTests n).saf.healthyFor = s.saf.healthyFor
    ∧ (s.clearTests n).saf.chans.length = s.saf.chans.length := ⟨rfl, rfl, (modChanS_length ..).trans (modChanS_length ..)⟩

theorem failing_chan (s : State) (n cause i c : Nat) :
    (failing s n cause).chan i c = (((s.put (F.SAF_SIN_STAT_STATE n) 4).put (F.SAF_SIN_STAT_CAUSE n) cause).clearTests n).chan i c := by
  rw [State.chan, failing_saf]
  rfl

theorem failing_trigNow (s : State) (n cause : Nat) : (failing s n cause).saf.trigNow = s.saf.trigNow := by
  have h : ∀ (a : Saf) l, ({ a with healthyFor := l } : Saf).trigNow = a.trigNow := fun _ _ => rfl
  rw [failing_saf, h, (clearTests_rest _ n).1, put_saf, put_saf]

theorem sinFault_rest (s : State) (n cause : Nat) : ChansRest (failing s n cause) (s.sinFault n cause) := by
  rw [sinFault_eq]
  refine chansRest_trans ?_ (chansRest_settle _)
  split_ifs
  · exact chansRest_raise ..
  · exact chansRest_raiseTrig ..

/-- A field that faults leave, as the failing of an input leaves it. -/
theorem sinFault_g (s : State) (n cause : Nat) {x : Fld} (hl : lampField x = true) (hf : F.SAF_STAT_FSTATE.apart x = true) :
    (s.sinFault n cause).g x = (failing s n cause).g x := by
  rw [sinFault_eq]
  refine (settle_g _ hf).trans (ite_g (fun _ => raise_lamp _ _ _ hl) (fun _ => raiseTrig_lamp _ _ _ _ _ _ hl))

/-- What an input that fails shows. -/
theorem sinFault_leaves (s : State) {cause : Nat} (hn : n < 4) (hc : cause < 8) (hl : s.saf.chans.length = 8) :
    let t := s.sinFault n cause
    t.sinState n = 4 ∧ t.g (F.SAF_SIN_STAT_CAUSE n) = cause ∧ t.g (F.SAF_SIN_STAT_XSRC n) = s.g (F.SAF_SIN_STAT_XSRC n) ∧ t.on F.SAF_EVT_SIN_FAULT = true
      ∧ (∀ c, c < 2 → (t.chan n c).passed = 0) ∧ (s.defLevel S.SAF_SIN_FAULT ≠ 0 → t.on (fltPend S.SAF_SIN_FAULT) = true)
      ∧ (s.sinState n ≠ 1 → Armed s → t.on F.SAF_STAT_LOCKED = true) := by
  intro t
  obtain ⟨l1, l2, l3, -⟩ := level_sep_state n 0
  obtain ⟨m1, m2, m3, -⟩ := level_sep_state n 1
  have hown := input_lamp n hn
  have hsplit : ∀ {x : Fld}, x ∈ inputFields n → sep (levelField n 0) x = true → sep (levelField n 1) x = true →
      t.g x = ((s.put (F.SAF_SIN_STAT_STATE n) 4).put (F.SAF_SIN_STAT_CAUSE n) cause).g x := fun {x} hx h0 h1 => by
    obtain ⟨o1, o2, o3, -, o5⟩ := hown x hx
    exact (sinFault_g s n cause o1 (sep_apart o2)).trans ((g_evt_sep _ o3 o5).trans ((withSaf_g ..).trans ((modChanS_g _ _ _ _ h1).trans (modChanS_g _ _ _ _ h0))))
  have hroom : ∀ n < 4, room (F.SAF_SIN_STAT_STATE n) 4 = true := by decide
  have hcause : room (F.SAF_SIN_STAT_CAUSE n) cause = true := by simp [room, F.SAF_SIN_STAT_CAUSE, hc]
  have hmark := input_sep_marks n hn
  have hlev : (failing s n cause).defLevel S.SAF_SIN_FAULT = s.defLevel S.SAF_SIN_FAULT := by
    have hm : ∀ x ∈ [F.FLT_CTRL_MODE, fltSev S.SAF_SIN_FAULT], x ∈ inputMarks ∧ sep F.SAF_EVT_SIN_FAULT x = true ∧ sep (F.UNIT_IRQ_STAT_EVT 0x68) x = true := by decide
    obtain ⟨a1, a2, a3⟩ := hm F.FLT_CTRL_MODE (by simp)
    obtain ⟨b1, b2, b3⟩ := hm (fltSev S.SAF_SIN_FAULT) (by simp)
    rw [State.defLevel, on_congr (failing_g s cause (fun f hf => (hmark f hf).1 _ a1) a2 a3), failing_g s cause (fun f hf => (hmark f hf).1 _ b1) b2 b3]
    rfl
  refine ⟨(hsplit (by simp [inputFields]) l1 m1).trans ?_, (hsplit (by simp [inputFields]) l2 m2).trans (g_put_room _ hcause), (hsplit (by simp [inputFields]) l3 m3).trans ?_,
    ?_, fun c hc2 => ?_, fun hd => ?_, fun h1 ha => ?_⟩
  · exact (g_put_sep _ _ (sep_of_bits rfl)).trans (g_put_room _ (hroom n hn))
  · exact (g_put_sep _ _ (sep_of_bits rfl)).trans (g_put_sep _ _ (sep_of_bits rfl))
  · exact (on_congr (sinFault_g s n cause (by decide) (by decide))).trans (on_evt_self _ rfl)
  · rw [chan_congr (sinFault_rest s n cause), failing_chan]
    exact clearTests_passed _ hn (by rw [put_saf, put_saf]; exact hl) hc2
  · refine (on_congr (settle_g _ (by decide))).trans ?_
    split_ifs
    · exact raise_pend _ _ (by decide) (fun h => hd (hlev.symm.trans h))
    · exact raiseTrig_pend _ _ _ _ _ (by decide) (fun h => hd (hlev.symm.trans h))
  · have hs : t = ((failing s n cause).raiseTrig S.SAF_SIN_FAULT n 2 n false).settle := (sinFault_eq s n cause).trans (congrArg State.settle (if_neg h1))
    rw [hs]
    refine (on_congr (settle_g _ (by decide))).trans (raiseTrig_takes _ _ _ _ _ (armed_congr (failing_trigNow s n cause) ?_ ha))
    exact on_congr (failing_g s cause (fun f hf => (hmark f hf).1 _ (by simp [inputMarks])) (by decide) (by decide))


/-! ### What the others leave of an input -/

/-- The fields of one input, the settings, and the marks of a fault. -/
def watched (n : Nat) : List Fld := [F.SAF_SIN_STAT_STATE n, F.SAF_SIN_STAT_CAUSE n, F.SAF_SIN_STAT_XSRC n] ++ inputSettings

/-- Of an input, that it is as it was; of the marks of a fault, that they stand. -/
structure InputRests (n : Nat) (s t : State) : Prop where
  length : t.saf.chans.length = s.saf.chans.length
  chan : ∀ c, c < 2 → t.chan n c = s.chan n c
  healthy : t.saf.healthyFor.getD n false = s.saf.healthyFor.getD n false
  field : ∀ f ∈ watched n, t.g f = s.g f
  stays : ∀ f ∈ [F.SAF_EVT_SIN_FAULT, F.SAF_STAT_LOCKED, fltPend S.SAF_SIN_FAULT], s.on f = true → t.on f = true
  armed : Armed s → Armed t
  level : s.defLevel S.SAF_SIN_FAULT ≠ 0 → t.on (fltPend S.SAF_SIN_FAULT) = true ∨ t.defLevel S.SAF_SIN_FAULT = s.defLevel S.SAF_SIN_FAULT

theorem inputRests_refl (n : Nat) (s : State) : InputRests n s s := ⟨rfl, fun _ _ => rfl, rfl, fun _ _ => rfl, fun _ _ h => h, id, fun _ => .inr rfl⟩

theorem inputRests_trans (h : InputRests n s t) (k : InputRests n t u) : InputRests n s u where
  length := k.length.trans h.length
  chan c hc := (k.chan c hc).trans (h.chan c hc)
  healthy := k.healthy.trans h.healthy
  field f hf := (k.field f hf).trans (h.field f hf)
  stays f hf hs := k.stays f hf (h.stays f hf hs)
  armed ha := k.armed (h.armed ha)
  level hs := by
    rcases h.level hs with h1 | h1
    · exact .inl (k.stays _ (by simp) h1)
    · rcases k.level (by rw [h1]; exact hs) with h2 | h2
      · exact .inl h2
      · exact .inr (h2.trans h1)

/-- An operation that leaves the channels and every field in question. -/
theorem inputRests_of_fields (hlen : t.saf.chans.length = s.saf.chans.length) (hc : ∀ c, c < 2 → t.chan n c = s.chan n c)
    (hh : t.saf.healthyFor.getD n false = s.saf.healthyFor.getD n false) (hn : t.saf.trigNow = s.saf.trigNow)
    (hg : ∀ f ∈ watched n ++ inputMarks, t.g f = s.g f) : InputRests n s t where
  length := hlen
  chan := hc
  healthy := hh
  field f hf := hg f (List.mem_append_left _ hf)
  stays f hf hs := by
    have hm : f ∈ inputMarks := by
      simp only [List.mem_cons, List.not_mem_nil, or_false] at hf
      simp only [inputMarks, List.mem_cons, List.not_mem_nil, or_false]
      tauto
    exact (on_congr (hg f (List.mem_append_right _ hm))).trans hs
  armed := armed_congr hn (on_congr (hg _ (by simp [inputMarks])))
  level _ := .inr (by rw [State.defLevel, on_congr (hg F.FLT_CTRL_MODE (by simp [inputMarks])), hg (fltSev S.SAF_SIN_FAULT) (by simp [inputMarks]), State.defLevel])

theorem watched_sep (hj : j < 4) (hn : n < 4) (h : j ≠ n) {f x : Fld} (hf : f ∈ inputFields j) (hx : x ∈ watched n ++ inputMarks) : sep f x = true := by
  simp only [watched, List.mem_append] at hx
  rcases hx with (hx | hx) | hx
  · refine inputs_sep j hj n hn h f hf x ?_
    simp only [List.mem_cons, List.not_mem_nil, or_false] at hx
    simp only [inputFields, List.mem_cons, List.not_mem_nil, or_false]
    tauto
  · exact (input_sep_marks j hj f hf).2 x hx
  · exact (input_sep_marks j hj f hf).1 x hx

theorem watched_lamp (hn : n < 4) {x : Fld} (hx : x ∈ watched n) : lampField x = true ∧ sep F.SAF_STAT_FSTATE x = true
    ∧ sep F.SAF_EVT_SIN_FAULT x = true ∧ sep F.SAF_EVT_SIN_DEMAND x = true ∧ sep (F.UNIT_IRQ_STAT_EVT 0x68) x = true := by
  simp only [watched, List.mem_append] at hx
  rcases hx with hx | hx
  · refine input_lamp n hn x ?_
    simp only [List.mem_cons, List.not_mem_nil, or_false] at hx
    simp only [inputFields, List.mem_cons, List.not_mem_nil, or_false]
    tauto
  · exact settings_lamp x hx

theorem marks_sep_state : ∀ x ∈ inputMarks, sep F.SAF_STAT_FSTATE x = true ∧ sep (F.UNIT_IRQ_STAT_EVT 0x68) x = true := by decide

section
variable (hj : j < 4) (hn : n < 4) (h : j ≠ n)

include hj hn h

theorem inputRests_put (s : State) (v : Nat) {f : Fld} (hf : f ∈ inputFields j) : InputRests n s (s.put f v) :=
  inputRests_of_fields (by rw [put_saf]) (fun c _ => by rw [State.chan, State.chan, put_saf]) (by rw [put_saf]) (by rw [put_saf])
    (fun _ hx => g_put_sep _ _ (watched_sep hj hn h hf hx))

theorem inputRests_modChan (s : State) (f : SinChan → SinChan) (hc : c < 2) (hl : s.saf.chans.length = 8) : InputRests n s (s.modChanS j c f) :=
  inputRests_of_fields (modChanS_length ..) (fun d hd => (modChanS_chan s f (by omega) hc hd).trans (if_neg (fun hk => h hk.1))) rfl rfl
    (fun _ hx => modChanS_g _ _ _ _ (watched_sep hj hn h (levelField_mem j c) hx))

theorem inputRests_clearTests (s : State) (hl : s.saf.chans.length = 8) : InputRests n s (s.clearTests j) :=
  inputRests_trans (inputRests_modChan hj hn h s _ (by decide) hl) (inputRests_modChan hj hn h _ _ (by decide) (by rw [modChanS_length]; exact hl))

end

theorem inputRests_settle (hn : n < 4) (s : State) : InputRests n s s.settle :=
  inputRests_of_fields (by rw [settle_saf]) (fun c _ => by rw [State.chan, State.chan, settle_saf]) (by rw [settle_saf]) (by rw [settle_saf]) (fun x hx => by
    rcases List.mem_append.1 hx with hx | hx
    · exact settle_g _ (sep_apart (watched_lamp hn hx).2.1)
    · exact settle_g _ (sep_apart (marks_sep_state x hx).1))

/-- A fault, which shows the event where it is raised, leaves an input. -/
theorem inputRests_raise (hn : n < 4) (s : State) (i : Nat) : InputRests n s (s.raise S.SAF_SIN_FAULT i) := by
  have hr := chansRest_raise s S.SAF_SIN_FAULT i
  refine ⟨by rw [hr.1], fun c _ => chan_congr hr n c, by rw [hr.2], fun f hf => raise_lamp _ _ _ (watched_lamp hn hf).1, fun f hf hs => ?_, armed_raise s _ i,
    fun hd => .inl (raise_pend _ _ (by decide) hd)⟩
  simp only [List.mem_cons, List.not_mem_nil, or_false] at hf
  rcases hf with rfl | rfl | rfl
  · exact (on_congr (raise_lamp _ _ _ (by decide))).trans hs
  · exact (locked_reacts s).raise _ _ id hs
  · exact raise_keeps_pend _ _ (by decide) (by decide) hs

theorem trigger_keeps_pend (s : State) (code detail : Nat) (hi : i < 75) (h : s.on (fltPend i) = true) : (s.trigger code detail).on (fltPend i) = true :=
  (on_congr (trigger_g _ _ _ ((by decide : ∀ i < 75, clear triggerFields (fltPend i) = true) i hi) (by simp [fltPend, groupPage]))).trans h

theorem inputRests_raiseTrig (hn : n < 4) (s : State) (i code detail : Nat) : InputRests n s (s.raiseTrig S.SAF_SIN_FAULT i code detail false) := by
  have hr := chansRest_raiseTrig s S.SAF_SIN_FAULT i code detail false
  have hlock : ∀ f ∈ watched n, (s.raiseTrig S.SAF_SIN_FAULT i code detail false).g f = s.g f := fun f hf => raiseTrig_lamp _ _ _ _ _ _ (watched_lamp hn hf).1
  refine ⟨by rw [hr.1], fun c _ => chan_congr hr n c, by rw [hr.2], hlock, fun f hf hs => ?_, fun ha => .inr (raiseTrig_takes _ _ _ _ _ ha),
    fun hd => .inl (raiseTrig_pend _ _ _ _ _ (by decide) hd)⟩
  simp only [List.mem_cons, List.not_mem_nil, or_false] at hf
  rcases hf with rfl | rfl | rfl
  · exact (on_congr (raiseTrig_lamp _ _ _ _ _ _ (by decide))).trans hs
  · exact (locked_reacts s).raiseTrig _ _ _ _ _ id hs
  · exact trigger_keeps_pend _ _ _ (by decide) (raiseWith_keeps_pend s _ _ _ _ (by decide) (by decide) hs)

theorem inputRests_healthyFor (h : j ≠ n) (s : State) (b : Bool) : InputRests n s (s.setHealthyFor j b) :=
  inputRests_of_fields rfl (fun _ _ => rfl) (by
    show (s.saf.healthyFor.set j b).getD n false = _
    rw [List.getD_eq_getElem?_getD, List.getElem?_set_ne h, List.getD_eq_getElem?_getD]) rfl (fun _ _ => rfl)

theorem inputRests_evt (hn : n < 4) (s : State) : InputRests n s (s.evt F.SAF_EVT_SIN_FAULT) where
  length := by rw [evt_saf]
  chan c _ := by rw [State.chan, State.chan, evt_saf]
  healthy := by rw [evt_saf]
  field f hf := g_evt_sep _ (watched_lamp hn hf).2.2.1 (watched_lamp hn hf).2.2.2.2
  stays f hf hs := by
    simp only [List.mem_cons, List.not_mem_nil, or_false] at hf
    rcases hf with rfl | rfl | rfl
    · exact on_evt_self _ rfl
    · exact (on_evt_sep _ rfl rfl).trans hs
    · exact (on_evt_sep _ (by decide) (by decide)).trans hs
  armed := armed_congr (by rw [evt_saf]) (on_evt_sep _ rfl rfl)
  level _ := .inr (by rw [State.defLevel, on_evt_sep _ (by decide) (by decide), g_evt_sep _ (by decide) (by decide), State.defLevel])

section
variable (hj : j < 4) (hn : n < 4) (h : j ≠ n)

include hj hn h

theorem inputRests_failing (s : State) (cause : Nat) (hl : s.saf.chans.length = 8) : InputRests n s (failing s j cause) := by
  have h1 := inputRests_put hj hn h s 4 (f := F.SAF_SIN_STAT_STATE j) (by simp [inputFields])
  have h2 := inputRests_put hj hn h (s.put (F.SAF_SIN_STAT_STATE j) 4) cause (f := F.SAF_SIN_STAT_CAUSE j) (by simp [inputFields])
  have h3 := inputRests_clearTests hj hn h ((s.put (F.SAF_SIN_STAT_STATE j) 4).put (F.SAF_SIN_STAT_CAUSE j) cause) (by rw [h2.length, h1.length]; exact hl)
  exact inputRests_trans h1 (inputRests_trans h2 (inputRests_trans h3 (inputRests_trans (inputRests_healthyFor h _ _) (inputRests_evt hn _))))

theorem inputRests_sinFault (s : State) (cause : Nat) (hl : s.saf.chans.length = 8) : InputRests n s (s.sinFault j cause) := by
  rw [sinFault_eq]
  refine inputRests_trans (inputRests_failing hj hn h s cause hl) (inputRests_trans ?_ (inputRests_settle hn _))
  split_ifs
  · exact inputRests_raise hn _ _
  · exact inputRests_raiseTrig hn _ _ _ _

theorem inputRests_sinHealthy (s : State) : InputRests n s (s.sinHealthy j) := by
  rw [sinHealthy_eq]
  split_ifs
  · refine inputRests_trans (inputRests_put hj hn h s 2 (f := F.SAF_SIN_STAT_STATE j) (by simp [inputFields])) (inputRests_trans ?_ (inputRests_settle hn _))
    exact inputRests_of_fields rfl (fun _ _ => rfl) rfl rfl (fun _ _ => rfl)
  · exact inputRests_refl n s

theorem inputRests_pulsePass (s : State) (p : Nat) (levels : List Bool) (hc : c < 2) (hl : s.saf.chans.length = 8) : InputRests n s (s.pulsePass p j c levels) := by
  unfold State.pulsePass
  split_ifs
  · exact inputRests_modChan hj hn h s _ hc hl
  · exact inputRests_refl n s

end

theorem inputRests_free (s : State) (n : Nat) : InputRests n s s.free.2 :=
  inputRests_of_fields rfl (fun _ _ => rfl) rfl rfl (fun _ _ => rfl)

/-- Both channels of an input that the pulse feeds. -/
def passedBoth (s : State) (p : Nat) (levels : List Bool) (n : Nat) : State := (s.pulsePass p n 0 levels).pulsePass p n 1 levels

/-- The cause that is kept of those that the pulse shows, with the source that shows it. -/
def causeKept (s : State) (p : Nat) (levels : List Bool) (n : Nat) : Nat :=
  (s.pulseFaults p n levels).getD ((passedBoth s p levels n).free.1 % (s.pulseFaults p n levels).length) 0

def sourceShown (s : State) (p : Nat) (levels : List Bool) (n : Nat) : State :=
  if 3 ≤ causeKept s p levels n then (passedBoth s p levels n).free.2.put (F.SAF_SIN_STAT_XSRC n) p else (passedBoth s p levels n).free.2

theorem pulseEnd_eq (s : State) (p : Nat) (levels : List Bool) (n : Nat) : s.pulseEnd p levels n =
    if s.on (F.SAF_SIN_CFG_USED n) then
      if (s.pulseFaults p n levels).isEmpty then (passedBoth s p levels n).sinHealthy n
      else if (sourceShown s p levels n).sinState n = 4 then
        ((sourceShown s p levels n).put (F.SAF_SIN_STAT_CAUSE n) (causeKept s p levels n)).clearTests n
      else (sourceShown s p levels n).sinFault n (causeKept s p levels n)
    else s := rfl

theorem inputRests_pulseEnd (hj : j < 4) (hn : n < 4) (h : j ≠ n) (s : State) (p : Nat) (levels : List Bool) (hl : s.saf.chans.length = 8) :
    InputRests n s (s.pulseEnd p levels j) := by
  have h1 := inputRests_pulsePass hj hn h s p levels (c := 0) (by decide) hl
  have h2 : InputRests n s (passedBoth s p levels j) :=
    inputRests_trans h1 (inputRests_pulsePass hj hn h _ p levels (by decide) (by rw [h1.length]; exact hl))
  have h3 : InputRests n s (sourceShown s p levels j) := by
    unfold sourceShown
    split_ifs
    · exact inputRests_trans h2 (inputRests_trans (inputRests_free _ n) (inputRests_put hj hn h _ p (by simp [inputFields])))
    · exact inputRests_trans h2 (inputRests_free _ n)
  rw [pulseEnd_eq]
  split_ifs
  · exact inputRests_trans h2 (inputRests_sinHealthy hj hn h _)
  · have h4 := inputRests_put hj hn h (sourceShown s p levels j) (causeKept s p levels j) (f := F.SAF_SIN_STAT_CAUSE j) (by simp [inputFields])
    exact inputRests_trans h3 (inputRests_trans h4 (inputRests_clearTests hj hn h _ (by rw [h4.length, h3.length]; exact hl)))
  · exact inputRests_trans h3 (inputRests_sinFault hj hn h _ _ (by rw [h3.length]; exact hl))
  · exact inputRests_refl n s


/-! ### The pulse's own input -/

/-- A channel after the pulse: one that the pulse feeds has passed it, or has not. -/
def pulsedChan (h : SinChan) (fed level : Bool) : SinChan :=
  if fed then { h with passed := if h.wasHigh && !level then h.passed + 1 else 0 } else h

theorem pulsedChan_high (h : SinChan) (fed level : Bool) : (pulsedChan h fed level).high = h.high := by
  unfold pulsedChan
  split_ifs <;> rfl

theorem pulsePass_chan (s : State) (p : Nat) (levels : List Bool) (hn : n < 4) (hc : c < 2) (hd : d < 2) (hl : s.saf.chans.length = 8) :
    (s.pulsePass p n c levels).chan n d = if c = d then pulsedChan (s.chan n c) (decide (s.feed n c = p)) (levelOf levels n c) else s.chan n d := by
  unfold State.pulsePass pulsedChan
  by_cases hf : s.feed n c = p
  · rw [if_pos hf, modChanS_chan s _ (by omega) hc hd]
    simp [hf]
  · rw [if_neg hf]
    by_cases hcd : c = d
    · subst hcd
      simp [hf]
    · rw [if_neg hcd]

theorem pulsePass_length (s : State) (p n c : Nat) (levels : List Bool) : (s.pulsePass p n c levels).saf.chans.length = s.saf.chans.length := by
  unfold State.pulsePass
  split_ifs
  · exact modChanS_length ..
  · rfl

theorem pulsePass_g (s : State) (p n c : Nat) (levels : List Bool) {x : Fld} (h : sep (levelField n c) x = true) : (s.pulsePass p n c levels).g x = s.g x := by
  unfold State.pulsePass
  exact ite_g (fun _ => modChanS_g _ _ _ _ h) (fun _ => rfl)

theorem pulsePass_saf (s : State) (p n c : Nat) (levels : List Bool) : (s.pulsePass p n c levels).saf.healthyFor = s.saf.healthyFor
    ∧ (s.pulsePass p n c levels).saf.trigNow = s.saf.trigNow := by
  unfold State.pulsePass
  split_ifs
  · exact ⟨rfl, rfl⟩
  · exact ⟨rfl, rfl⟩

theorem passedBoth_g (s : State) (p : Nat) (levels : List Bool) (n : Nat) {x : Fld} (h0 : sep (levelField n 0) x = true) (h1 : sep (levelField n 1) x = true) :
    (passedBoth s p levels n).g x = s.g x := (pulsePass_g _ _ _ _ _ h1).trans (pulsePass_g _ _ _ _ _ h0)

theorem passedBoth_chan (s : State) (p : Nat) (levels : List Bool) (hn : n < 4) (hd : d < 2) (hl : s.saf.chans.length = 8) :
    (passedBoth s p levels n).chan n d = pulsedChan (s.chan n d) (decide (s.feed n d = p)) (levelOf levels n d) := by
  have hfeed : (s.pulsePass p n 0 levels).feed n 1 = s.feed n 1 :=
    feed_congr (fun f hf => pulsePass_g _ _ _ _ _ ((input_sep_marks n hn _ (levelField_mem n 0)).2 f hf)) hn 1
  unfold passedBoth
  rw [pulsePass_chan _ p levels hn (by decide) hd (by rw [pulsePass_length]; exact hl), pulsePass_chan s p levels hn (by decide) (by decide) hl,
    pulsePass_chan s p levels hn (by decide) hd hl, hfeed]
  obtain rfl | rfl : d = 0 ∨ d = 1 := by omega
  · rfl
  · rfl

theorem passedBoth_settings (s : State) (p : Nat) (levels : List Bool) (hn : n < 4) : ∀ f ∈ inputSettings, (passedBoth s p levels n).g f = s.g f := fun f hf =>
  passedBoth_g _ _ _ _ ((input_sep_marks n hn _ (levelField_mem n 0)).2 f hf) ((input_sep_marks n hn _ (levelField_mem n 1)).2 f hf)

theorem passedBoth_state (s : State) (p : Nat) (levels : List Bool) (n : Nat) : (passedBoth s p levels n).sinState n = s.sinState n :=
  passedBoth_g _ _ _ _ (level_sep_state n 0).1 (level_sep_state n 1).1

/-- The end of a pulse that shows no fault on an input. -/
theorem pulseEnd_passes (s : State) (p : Nat) (levels : List Bool) (hn : n < 4) (hl : s.saf.chans.length = 8) (hu : s.on (F.SAF_SIN_CFG_USED n) = true)
    (hf : s.pulseFaults p n levels = []) :
    let t := s.pulseEnd p levels n
    (∀ c, c < 2 → t.chan n c = pulsedChan (s.chan n c) (decide (s.feed n c = p)) (levelOf levels n c))
      ∧ (s.sinState n = 1 → s.saf.healthyFor.getD n false = true → t.testsPassed n 1 = true → t.sinState n = 2)
      ∧ (s.sinState n = 4 → s.atHealthy n 0 = true → s.atHealthy n 1 = true → t.testsPassed n 2 = true → t.sinState n = 2) := by
  intro t
  have ht : t = (passedBoth s p levels n).sinHealthy n := (pulseEnd_eq s p levels n).trans ((if_pos hu).trans (if_pos (by rw [hf]; rfl)))
  have hrest : ChansRest (passedBoth s p levels n) t := chansRest_saf (by rw [ht]; exact sinHealthy_saf _ n)
  have hchan : ∀ c, c < 2 → t.chan n c = pulsedChan (s.chan n c) (decide (s.feed n c = p)) (levelOf levels n c) := fun c hc =>
    (chan_congr hrest n c).trans (passedBoth_chan s p levels hn hc hl)
  have hset : ∀ f ∈ inputSettings, t.g f = (passedBoth s p levels n).g f := fun f hf => by
    have hs := (input_sep_marks n hn _ (by simp [inputFields] : F.SAF_SIN_STAT_STATE n ∈ inputFields n)).2 f hf
    rw [ht, sinHealthy_eq]
    exact ite_g (fun _ => (settle_g _ (sep_apart (settings_lamp f hf).2.1)).trans ((withFlt_g ..).trans (g_put_sep _ _ hs))) (fun _ => rfl)
  have htests : ∀ k, t.testsPassed n k = (passedBoth s p levels n).testsPassed n k :=
    testsPassed_congr hset hn (fun c _ => by rw [chan_congr hrest])
  have hstate : t.sinState n = if mayHeal (passedBoth s p levels n) n then 2 else s.sinState n := by
    rw [ht, sinHealthy_state _ hn, passedBoth_state]
  have hhealthy : ∀ c < 2, (passedBoth s p levels n).atHealthy n c = s.atHealthy n c := fun c hc =>
    atHealthy_congr (passedBoth_settings s p levels hn) hn (by rw [passedBoth_chan s p levels hn hc hl, pulsedChan_high])
  have hfor : (passedBoth s p levels n).saf.healthyFor = s.saf.healthyFor := (pulsePass_saf ..).1.trans (pulsePass_saf ..).1
  refine ⟨hchan, fun h1 hh h => ?_, fun h4 h0 h1 h => ?_⟩
  · rw [hstate, if_pos]
    rw [mayHeal, passedBoth_state, h1, hfor, hh, (htests 1).symm.trans h]
    rfl
  · rw [hstate, if_pos]
    rw [mayHeal, passedBoth_state, h4, hhealthy 0 (by decide), hhealthy 1 (by decide), h0, h1, (htests 2).symm.trans h]
    rfl

theorem pulseFaults_le {p : Nat} {levels : List Bool} {cause : Nat} (h : cause ∈ s.pulseFaults p n levels) : 1 ≤ cause ∧ cause < 8 := by
  simp only [State.pulseFaults, List.mem_filterMap] at h
  obtain ⟨c, hc, h⟩ := h
  have hc2 : c = 0 ∨ c = 1 := by simpa using hc
  split_ifs at h <;> simp only [Option.some.injEq] at h <;> omega

theorem causeKept_mem (s : State) (p : Nat) (levels : List Bool) (n : Nat) (h : s.pulseFaults p n levels ≠ []) : causeKept s p levels n ∈ s.pulseFaults p n levels := by
  have hlt := Nat.mod_lt ((passedBoth s p levels n).free.1) (List.length_pos_iff.2 h)
  rw [causeKept, List.getD_eq_getElem?_getD, List.getElem?_eq_getElem hlt]
  exact List.getElem_mem hlt

theorem sourceShown_parts (s : State) (p : Nat) (levels : List Bool) (n : Nat) : (sourceShown s p levels n).saf = (passedBoth s p levels n).saf := by
  have hfree : ∀ u : State, u.free.2.saf = u.saf := fun _ => rfl
  unfold sourceShown
  split_ifs
  · rw [put_saf, hfree]
  · exact hfree _

theorem sourceShown_g (s : State) (p : Nat) (levels : List Bool) (n : Nat) {x : Fld} (hx : sep (F.SAF_SIN_STAT_XSRC n) x = true) :
    (sourceShown s p levels n).g x = (passedBoth s p levels n).g x := by
  have hfree : ∀ u : State, u.free.2.g x = u.g x := fun _ => rfl
  unfold sourceShown
  exact ite_g (fun _ => (g_put_sep _ _ hx).trans (hfree _)) (fun _ => hfree _)

/-- The end of a pulse that shows a fault on an input. -/
theorem pulseEnd_fails (s : State) (p : Nat) (levels : List Bool) (hn : n < 4) (hl : s.saf.chans.length = 8) (hu : s.on (F.SAF_SIN_CFG_USED n) = true)
    (hf : s.pulseFaults p n levels ≠ []) :
    let t := s.pulseEnd p levels n
    (∀ c, c < 2 → (t.chan n c).passed = 0)
      ∧ (s.sinState n ≠ 4 → t.sinState n = 4 ∧ t.on F.SAF_EVT_SIN_FAULT = true
        ∧ (∃ cause, cause ∈ s.pulseFaults p n levels ∧ t.g (F.SAF_SIN_STAT_CAUSE n) = cause ∧ (3 ≤ cause → p < 4 → t.g (F.SAF_SIN_STAT_XSRC n) = p))
        ∧ (s.defLevel S.SAF_SIN_FAULT ≠ 0 → t.on (fltPend S.SAF_SIN_FAULT) = true) ∧ (s.sinState n ≠ 1 → Armed s → t.on F.SAF_STAT_LOCKED = true)) := by
  intro t
  have hempty : ¬ (s.pulseFaults p n levels).isEmpty = true := by simpa using hf
  have hx : sep (F.SAF_SIN_STAT_XSRC n) (F.SAF_SIN_STAT_STATE n) = true := sep_of_bits rfl
  have hst : (sourceShown s p levels n).sinState n = s.sinState n := (sourceShown_g _ _ _ _ hx).trans (passedBoth_state s p levels n)
  have hlen : (sourceShown s p levels n).saf.chans.length = 8 := by
    rw [sourceShown_parts, passedBoth, pulsePass_length, pulsePass_length]
    exact hl
  have ht : t = if s.sinState n = 4 then ((sourceShown s p levels n).put (F.SAF_SIN_STAT_CAUSE n) (causeKept s p levels n)).clearTests n
      else (sourceShown s p levels n).sinFault n (causeKept s p levels n) := by
    rw [← hst]
    exact (pulseEnd_eq s p levels n).trans ((if_pos hu).trans (if_neg hempty))
  have hmem := causeKept_mem s p levels n hf
  have hmarks : ∀ f ∈ inputMarks, (sourceShown s p levels n).g f = s.g f := fun f hf =>
    (sourceShown_g _ _ _ _ ((input_sep_marks n hn _ (by simp [inputFields])).1 f hf)).trans
      (passedBoth_g _ _ _ _ ((input_sep_marks n hn _ (levelField_mem n 0)).1 f hf) ((input_sep_marks n hn _ (levelField_mem n 1)).1 f hf))
  obtain ⟨f1, f2, f3, f4, f5, f6, f7⟩ := sinFault_leaves (sourceShown s p levels n) (cause := causeKept s p levels n) hn (pulseFaults_le hmem).2 hlen
  by_cases h4 : s.sinState n = 4
  · rw [if_pos h4] at ht
    refine ⟨fun c hc => ?_, fun h => absurd h4 h⟩
    rw [ht]
    exact clearTests_passed _ hn (by rw [put_saf]; exact hlen) hc
  · rw [if_neg h4] at ht
    rw [← ht] at f1 f2 f3 f4 f5 f6 f7
    refine ⟨f5, fun _ => ⟨f1, f4, ⟨_, hmem, f2, fun h3 hp => f3.trans ?_⟩, fun hd => f6 ?_, fun h1 ha => f7 (by rw [hst]; exact h1) (armed_congr ?_ ?_ ha)⟩⟩
    · have hroom : room (F.SAF_SIN_STAT_XSRC n) p = true := by simp [room, F.SAF_SIN_STAT_XSRC, hp]
      unfold sourceShown
      rw [if_pos h3]
      exact g_put_room _ hroom
    · rw [State.defLevel, on_congr (hmarks F.FLT_CTRL_MODE (by simp [inputMarks])), hmarks (fltSev S.SAF_SIN_FAULT) (by simp [inputMarks])]
      exact hd
    · rw [sourceShown_parts]
      exact (pulsePass_saf ..).2.trans (pulsePass_saf ..).2
    · exact on_congr (hmarks _ (by simp [inputMarks]))

/-- Of the inputs that a pulse's end visits one after the other, each is as it was when its turn comes, and stays as its turn leaves it. -/
theorem pulse_turn (p : Nat) (levels : List Bool) (l : List Nat) (hnd : l.Nodup) (hl4 : ∀ j ∈ l, j < 4) (hn : n ∈ l) (s : State) (hl : s.saf.chans.length = 8)
    (hlen : ∀ (u : State) j, u.saf.chans.length = 8 → (u.pulseEnd p levels j).saf.chans.length = 8) :
    ∃ u, InputRests n s u ∧ InputRests n (u.pulseEnd p levels n) (l.foldl (fun s n => s.pulseEnd p levels n) s) := by
  have hn4 := hl4 n hn
  induction l generalizing s with
  | nil => exact absurd hn List.not_mem_nil
  | cons j l ih =>
    obtain ⟨hjl, hnd'⟩ := List.nodup_cons.1 hnd
    have hl4' : ∀ i ∈ l, i < 4 := fun i hi => hl4 i (List.mem_cons_of_mem _ hi)
    rcases List.mem_cons.1 hn with rfl | hmem
    · refine ⟨s, inputRests_refl n s, ?_⟩
      have hrest : ∀ (m : List Nat) (w : State), n ∉ m → (∀ i ∈ m, i < 4) → w.saf.chans.length = 8 →
          InputRests n w (m.foldl (fun s n => s.pulseEnd p levels n) w) := fun m => by
        induction m with
        | nil => exact fun w _ _ _ => inputRests_refl n w
        | cons i m ihm =>
          intro w hnm hm hw
          obtain ⟨hni, hnm⟩ := not_or.1 (fun h => hnm (List.mem_cons.2 h))
          exact inputRests_trans (inputRests_pulseEnd (hm i List.mem_cons_self) hn4 (Ne.symm hni) w p levels hw)
            (ihm _ hnm (fun i hi => hm i (List.mem_cons_of_mem _ hi)) (hlen w i hw))
      exact hrest l _ hjl hl4' (hlen s n hl)
    · have hjn : j ≠ n := fun h => hjl (h ▸ hmem)
      obtain ⟨u, h1, h2⟩ := ih hnd' hl4' hmem (s.pulseEnd p levels j) (hlen s j hl)
      exact ⟨u, inputRests_trans (inputRests_pulseEnd (hl4 j List.mem_cons_self) hn4 hjn s p levels hl) h1, h2⟩


theorem pulseEnd_length (s : State) (p : Nat) (levels : List Bool) (n : Nat) : (s.pulseEnd p levels n).saf.chans.length = s.saf.chans.length := by
  have hboth : (passedBoth s p levels n).saf.chans.length = s.saf.chans.length := (pulsePass_length ..).trans (pulsePass_length ..)
  have hshown : (sourceShown s p levels n).saf.chans.length = s.saf.chans.length := by rw [sourceShown_parts, hboth]
  have hfail : ∀ (w : State) cause, (failing w n cause).saf.chans.length = w.saf.chans.length := fun w cause => by
    have h : ∀ (a : Saf) l, ({ a with healthyFor := l } : Saf).chans = a.chans := fun _ _ => rfl
    rw [failing_saf, h, (clearTests_rest _ n).2.2, put_saf, put_saf]
  rw [pulseEnd_eq]
  split_ifs
  · rw [sinHealthy_saf, hboth]
  · rw [(clearTests_rest _ n).2.2, put_saf, hshown]
  · rw [(sinFault_rest _ n _).1, hfail, hshown]
  · rfl

theorem pulseEnd_tpo (s : State) (p : Nat) (levels : List Bool) (n : Nat) : (s.pulseEnd p levels n).saf.tpo = s.saf.tpo := by
  have hpass : ∀ (w : State) c, (w.pulsePass p n c levels).saf.tpo = w.saf.tpo := fun w c => by
    unfold State.pulsePass
    split_ifs <;> rfl
  have hboth : (passedBoth s p levels n).saf.tpo = s.saf.tpo := (hpass _ 1).trans (hpass s 0)
  have hshown : (sourceShown s p levels n).saf.tpo = s.saf.tpo := by rw [sourceShown_parts, hboth]
  have hclear : ∀ w : State, (w.clearTests n).saf.tpo = w.saf.tpo := fun _ => rfl
  have hfail : ∀ (w : State) cause, (failing w n cause).saf.tpo = w.saf.tpo := fun w cause => by
    have h : ∀ (a : Saf) l, ({ a with healthyFor := l } : Saf).tpo = a.tpo := fun _ _ => rfl
    rw [failing_saf, h, hclear, put_saf, put_saf]
  have hreacts : ∀ w : State, Reacts w (fun u => u.saf.tpo = w.saf.tpo) := fun w =>
    flint_reacts w (Q := fun a => a.tpo = w.saf.tpo) (fun _ _ _ h => h) (fun _ _ h => h)
  have hfault : ∀ (w : State) cause, (w.sinFault n cause).saf.tpo = w.saf.tpo := fun w cause => by
    rw [sinFault_eq, settle_saf]
    split_ifs
    · exact ((hreacts _).raise _ _ id rfl).trans (hfail w cause)
    · exact ((hreacts _).raiseTrig _ _ _ _ _ id rfl).trans (hfail w cause)
  rw [pulseEnd_eq]
  split_ifs
  · rw [sinHealthy_saf, hboth]
  · rw [hclear, put_saf, hshown]
  · rw [hfault, hshown]
  · rfl

/-! ### The commands -/

theorem shaped_chans (h : s.shaped = true) : s.saf.chans.length = 8 ∧ s.saf.healthyFor.length = 4 := by
  simp only [State.shaped, Saf.shaped, Bool.and_eq_true, decide_eq_true_eq] at h
  tauto

/-- A channel that has stood at its demand level. -/
def demanding (s : State) (n c : Nat) : State := (s.modChanS n c (fun h => { h with high := !s.healthyLevel n c })).setHealthyFor n false

/-- A demand, before the fault is raised. -/
def demanded (s : State) (n : Nat) : State :=
  ((s.put (F.SAF_SIN_STAT_STATE n) 3).incSat (F.SAF_SIN_STAT_DEMANDS n)).evt F.SAF_EVT_SIN_DEMAND

theorem exec_sinFilterExpiry (b : Bool) (hn : n < 4) (hu : s.on (F.SAF_SIN_CFG_USED n) = true) :
    exec (.sinFilterExpiry n b) s = .next (if (demanding s.begin n (bit b)).sinState n = 2
      then ((demanded (demanding s.begin n (bit b)) n).raiseTrig S.SAF_SIN_DEMAND n 1 n false).settle else demanding s.begin n (bit b)) :=
  congrArg Host.Outcome.next (if_pos (by rw [begin_on, hu]; simp [hn]))

theorem bit_lt (b : Bool) : bit b < 2 := by cases b <;> decide

theorem demanding_chan (s : State) (hn : n < 4) (hc : c < 2) (hl : s.saf.chans.length = 8) : ((demanding s n c).chan n c).high = !s.healthyLevel n c := by
  have h : (s.modChanS n c (fun h => { h with high := !s.healthyLevel n c })).chan n c = { s.chan n c with high := !s.healthyLevel n c } :=
    (modChanS_chan s _ (by omega) hc hc).trans (if_pos ⟨rfl, rfl⟩)
  exact congrArg SinChan.high h

theorem demanding_g (s : State) (n c : Nat) {x : Fld} (h : sep (levelField n c) x = true) : (demanding s n c).g x = s.g x :=
  (withSaf_g ..).trans (modChanS_g _ _ _ _ h)

theorem level_hi (n c : Nat) : (levelField n c).hi < 32 := by
  unfold levelField
  split_ifs <;> simp [F.SAF_SIN_STAT_A, F.SAF_SIN_STAT_B]

theorem only_modChanS {s0 : State} {fs : List Fld} {ps : List Part} (c : Nat) (f : SinChan → SinChan) (hf : levelField n c ∈ fs) (hp : Part.saf ∈ ps)
    (h : s0.Only fs ps s) : s0.Only fs ps (s.modChanS n c f) := only_withSaf hp (only_put _ hf (level_hi n c) h)

/-- What a demand leaves. -/
theorem demand_leaves (s : State) (hn : n < 4) (h0 : s.saf.trigNow = 0) :
    let t := ((demanded s n).raiseTrig S.SAF_SIN_DEMAND n 1 n false).settle
    t.sinState n = 3 ∧ ChansRest s t ∧ t.g (F.SAF_SIN_STAT_DEMANDS n) = min (F.SAF_SIN_STAT_DEMANDS n).top (s.g (F.SAF_SIN_STAT_DEMANDS n) + 1)
      ∧ t.on F.SAF_EVT_SIN_DEMAND = true ∧ (s.defLevel S.SAF_SIN_DEMAND ≠ 0 → t.on (fltPend S.SAF_SIN_DEMAND) = true) ∧ t.on F.SAF_STAT_LOCKED = true
      ∧ (s.on F.SAF_STAT_LOCKED = false → t.g F.SAF_REASON_REASON = 1 ∧ t.g F.SAF_REASON_DETAIL = n ∧ t.on F.SAF_FIELD_REQ = false
          ∧ t.g F.SAF_LOCK_CNT_LOCK_CNT = (s.g F.SAF_LOCK_CNT_LOCK_CNT + 1) % 2 ^ 32 ∧ (s.g F.SAF_STAT_FSTATE ≠ 0 → t.g F.SAF_STAT_FSTATE = 4)) := by
  have hown := input_lamp n hn
  have hst := hown (F.SAF_SIN_STAT_STATE n) (by simp [inputFields])
  have hdm := hown (F.SAF_SIN_STAT_DEMANDS n) (by simp [inputFields])
  have hroom : ∀ n < 4, room (F.SAF_SIN_STAT_STATE n) 3 = true ∧ room F.SAF_REASON_DETAIL n = true ∧ (F.SAF_SIN_STAT_DEMANDS n).hi < 32
      ∧ (F.SAF_SIN_STAT_DEMANDS n).lo ≤ (F.SAF_SIN_STAT_DEMANDS n).hi := by decide
  obtain ⟨r3, rd, rh, rl⟩ := hroom n hn
  have hothers : ∀ n < 4, ∀ x ∈ [F.FLT_CTRL_MODE, fltSev S.SAF_SIN_DEMAND, F.SAF_STAT_LOCKED, F.SAF_STAT_FSTATE, F.SAF_LOCK_CNT_LOCK_CNT],
      sep (F.SAF_SIN_STAT_STATE n) x = true ∧ sep (F.SAF_SIN_STAT_DEMANDS n) x = true ∧ sep F.SAF_EVT_SIN_DEMAND x = true ∧ sep (F.UNIT_IRQ_STAT_EVT 0x68) x = true := by
    decide
  have hoth : ∀ x ∈ [F.FLT_CTRL_MODE, fltSev S.SAF_SIN_DEMAND, F.SAF_STAT_LOCKED, F.SAF_STAT_FSTATE, F.SAF_LOCK_CNT_LOCK_CNT], (demanded s n).g x = s.g x :=
    fun x hx => by
      obtain ⟨o1, o2, o3, o4⟩ := hothers n hn x hx
      exact (g_evt_sep _ o3 o4).trans ((g_incSat_sep _ o2).trans (g_put_sep _ _ o1))
  have hsaf : (demanded s n).saf = s.saf := by rw [demanded, evt_saf, incSat_saf, put_saf]
  have hdem : (demanded s n).g (F.SAF_SIN_STAT_DEMANDS n) = min (F.SAF_SIN_STAT_DEMANDS n).top (s.g (F.SAF_SIN_STAT_DEMANDS n) + 1) := by
    refine (g_evt_sep _ hdm.2.2.2.1 hdm.2.2.2.2).trans ?_
    rw [g_incSat rh rl (g_le_top _ _), g_put_sep _ _ (sep_of_bits rfl)]
  have hstate : (demanded s n).sinState n = 3 := (g_evt_sep _ hst.2.2.2.1 hst.2.2.2.2).trans ((g_incSat_sep _ (sep_of_bits rfl)).trans (g_put_room _ r3))
  have hevt : (demanded s n).on F.SAF_EVT_SIN_DEMAND = true := on_evt_self _ rfl
  generalize demanded s n = w at hoth hsaf hdem hstate hevt ⊢
  intro t
  have hlamp : ∀ {x : Fld}, lampField x = true → F.SAF_STAT_FSTATE.apart x = true → t.g x = w.g x := fun hx hf =>
    (settle_g _ hf).trans (raiseTrig_lamp _ _ _ _ _ _ hx)
  have htn : w.saf.trigNow = 0 := by rw [hsaf, h0]
  refine ⟨(hlamp hst.1 (sep_apart hst.2.1)).trans hstate, ?_, (hlamp hdm.1 (sep_apart hdm.2.1)).trans hdem, (on_congr (hlamp (by decide) (by decide))).trans hevt,
    fun hd => ?_, ?_, fun hl => ?_⟩
  · exact chansRest_trans (chansRest_saf hsaf) (chansRest_trans (chansRest_raiseTrig w _ _ _ _ _) (chansRest_settle _))
  · refine (on_congr (settle_g _ (by decide))).trans (raiseTrig_pend _ _ _ _ _ (by decide) ?_)
    rw [State.defLevel, on_congr (hoth F.FLT_CTRL_MODE (by simp)), hoth (fltSev S.SAF_SIN_DEMAND) (by simp)]
    exact hd
  · exact (on_congr (settle_g _ (by decide))).trans (raiseTrig_takes _ _ _ _ _ (.inl htn))
  · have hcg : ∀ x ∈ [F.FLT_CTRL_MODE, fltSev S.SAF_SIN_DEMAND, F.SAF_STAT_LOCKED, F.SAF_STAT_FSTATE, F.SAF_LOCK_CNT_LOCK_CNT],
        x.page ≠ 0x70 → (w.raiseWith S.SAF_SIN_DEMAND n 0 false true).g x = s.g x := fun x hx hp => by
      have hoff : ∀ x ∈ [F.FLT_CTRL_MODE, fltSev S.SAF_SIN_DEMAND, F.SAF_STAT_LOCKED, F.SAF_STAT_FSTATE, F.SAF_LOCK_CNT_LOCK_CNT], x.page ≠ 0x71 ∧ x.off % 4096 ≠ 0x18 := by
        decide
      exact (core_g w _ _ _ _ hp (hoff x hx).1 (hoff x hx).2).trans (hoth x hx)
    have htrig : w.raiseTrig S.SAF_SIN_DEMAND n 1 n false = (w.raiseWith S.SAF_SIN_DEMAND n 0 false true).trigger 1 n := rfl
    have hc0 : (w.raiseWith S.SAF_SIN_DEMAND n 0 false true).saf.trigNow = 0 := by rw [raiseWith_saf, htn]
    have hcl : (w.raiseWith S.SAF_SIN_DEMAND n 0 false true).on F.SAF_STAT_LOCKED = false := (on_congr (hcg _ (by simp) (by decide))).trans hl
    obtain ⟨f1, f2, f3⟩ := trigger_fresh _ (code := 1) (detail := n) hc0 hcl (by decide) rd
    obtain ⟨-, l2, -, -, l5, -⟩ := trigger_locks _ (code := 1) (detail := n) hc0 hcl (by decide)
    rw [hcg _ (by simp) (by decide)] at f3 l2
    have hidle : ((w.raiseWith S.SAF_SIN_DEMAND n 0 false true).trigger 1 n).settle = (w.raiseWith S.SAF_SIN_DEMAND n 0 false true).trigger 1 n := settle_idle (by
      rw [f3]
      split_ifs
      · exact .inl rfl
      · exact .inr rfl)
    have ht : t = (w.raiseWith S.SAF_SIN_DEMAND n 0 false true).trigger 1 n := (congrArg State.settle htrig).trans hidle
    rw [ht]
    exact ⟨f1, f2, l5, l2, fun hf => f3.trans (if_neg hf)⟩


/-- The two channels at their healthy levels. -/
def healed (s : State) (n : Nat) : State :=
  let s := s.modChanS n 0 (fun h => { h with high := s.healthyLevel n 0 })
  let s := s.modChanS n 1 (fun h => { h with high := s.healthyLevel n 1 })
  s.setHealthyFor n true

theorem healed_g (s : State) (n : Nat) {x : Fld} (h0 : sep (levelField n 0) x = true) (h1 : sep (levelField n 1) x = true) : (healed s n).g x = s.g x :=
  (withSaf_g ..).trans ((modChanS_g _ _ _ _ h1).trans (modChanS_g _ _ _ _ h0))

theorem healed_settings (s : State) (hn : n < 4) : ∀ f ∈ inputSettings, (healed s n).g f = s.g f := fun f hf =>
  healed_g _ _ ((input_sep_marks n hn _ (levelField_mem n 0)).2 f hf) ((input_sep_marks n hn _ (levelField_mem n 1)).2 f hf)

theorem healed_chan (s : State) (hn : n < 4) (hl : s.saf.chans.length = 8) (hc : c < 2) :
    (healed s n).chan n c = { s.chan n c with high := s.healthyLevel n c } := by
  have hset : ∀ (u : State) b i d, (u.setHealthyFor n b).chan i d = u.chan i d := fun _ _ _ _ => rfl
  unfold healed
  dsimp only
  rw [hset, modChanS_chan _ _ (by rw [modChanS_length]; omega) (by decide) hc, modChanS_chan _ _ (by omega) (by decide) (by decide),
    modChanS_chan _ _ (by omega) (by decide) hc,
    healthyLevel_congr (s := s) (fun f hf => modChanS_g _ _ _ _ ((input_sep_marks n hn _ (levelField_mem n 0)).2 f hf)) hn]
  obtain rfl | rfl : c = 0 ∨ c = 1 := by omega
  · simp
  · simp

theorem healed_healthy (s : State) (hn : n < 4) (hl : s.saf.chans.length = 8) (hc : c < 2) : (healed s n).atHealthy n c = true := by
  rw [State.atHealthy, healed_chan s hn hl hc, healthyLevel_congr (healed_settings s hn) hn]
  simp

theorem mayHeal_healed (s : State) (hn : n < 4) (hl : s.saf.chans.length = 8) (hh : s.saf.healthyFor.length = 4) :
    mayHeal (healed s n) n = true ↔ s.sinState n = 3 ∨ (s.sinState n = 1 ∧ s.testsPassed n 1 = true) ∨ (s.sinState n = 4 ∧ s.testsPassed n 2 = true) := by
  have hst : (healed s n).sinState n = s.sinState n := healed_g _ _ (level_sep_state n 0).1 (level_sep_state n 1).1
  have hfor : (healed s n).saf.healthyFor.getD n false = true := setHealthyFor_self _ true (by
    rw [modChanS_healthyFor, modChanS_healthyFor]
    omega)
  have ht : ∀ k, (healed s n).testsPassed n k = s.testsPassed n k :=
    testsPassed_congr (healed_settings s hn) hn (fun c hc => by rw [healed_chan s hn hl hc])
  simp only [mayHeal, hst, hfor, ht, healed_healthy s hn hl (c := 0) (by decide), healed_healthy s hn hl (c := 1) (by decide), Bool.true_and, Bool.and_true]
  by_cases h1 : s.sinState n = 1
  · simp [h1]
  · by_cases h3 : s.sinState n = 3
    · simp [h3]
    · simp [h1, h3]

/-- One channel sampled at the start of a pulse. -/
def sampled (levels : List Bool) (s : State) (i : Nat) : State :=
  if s.on (F.SAF_SIN_CFG_USED (i / 2)) then
    s.modChanS (i / 2) (i % 2) (fun h => { h with high := levelOf levels (i / 2) (i % 2), wasHigh := levelOf levels (i / 2) (i % 2) })
  else s

theorem sampled_g (levels : List Bool) (s : State) (i : Nat) {x : Fld} (h : sep (levelField (i / 2) (i % 2)) x = true) : (sampled levels s i).g x = s.g x := by
  unfold sampled
  exact ite_g (fun _ => modChanS_g _ _ _ _ h) (fun _ => rfl)

theorem sampled_length (levels : List Bool) (s : State) (i : Nat) : (sampled levels s i).saf.chans.length = s.saf.chans.length := by
  unfold sampled
  split_ifs
  · exact modChanS_length ..
  · rfl

theorem sampled_tpo (levels : List Bool) (s : State) (i : Nat) : (sampled levels s i).saf.tpo = s.saf.tpo := by
  unfold sampled
  split_ifs <;> rfl

theorem sampled_chan (levels : List Bool) (s : State) {j : Nat} (hj : j < 8) (hd : d < 2) (hl : s.saf.chans.length = 8) :
    (sampled levels s j).chan i d = if j / 2 = i ∧ j % 2 = d ∧ s.on (F.SAF_SIN_CFG_USED i) = true
      then { s.chan i d with high := levelOf levels i d, wasHigh := levelOf levels i d } else s.chan i d := by
  unfold sampled
  by_cases hk : j / 2 = i ∧ j % 2 = d
  · obtain ⟨rfl, rfl⟩ := hk
    split_ifs
    · rw [modChanS_chan _ _ (by omega) (by omega) hd, if_pos ⟨rfl, rfl⟩]
    · simp_all
    · simp_all
    · rfl
  · rw [if_neg (c := j / 2 = i ∧ j % 2 = d ∧ _) (fun h => hk ⟨h.1, h.2.1⟩)]
    split_ifs
    · rw [modChanS_chan _ _ (by omega) (by omega) hd, if_neg hk]
    · rfl

/-- The eight channels sampled one after the other. -/
theorem sampled_fold (levels : List Bool) (l : List Nat) (hl8 : ∀ j ∈ l, j < 8) (s : State) (hi : i < 4) (hd : d < 2) (hl : s.saf.chans.length = 8)
    (hu : s.on (F.SAF_SIN_CFG_USED i) = true) :
    (l.foldl (sampled levels) s).chan i d = if 2 * i + d ∈ l then { s.chan i d with high := levelOf levels i d, wasHigh := levelOf levels i d } else s.chan i d := by
  induction l generalizing s with
  | nil => simp
  | cons j l ih =>
    have hj := hl8 j List.mem_cons_self
    have hu' : (sampled levels s j).on (F.SAF_SIN_CFG_USED i) = true :=
      (on_congr (sampled_g levels s j ((input_sep_marks (j / 2) (by omega) _ (levelField_mem _ _)).2 _ (used_mem hi)))).trans hu
    rw [List.foldl_cons, ih (fun k hk => hl8 k (List.mem_cons_of_mem _ hk)) _ (by rw [sampled_length]; exact hl) hu', sampled_chan levels s hj hd hl]
    by_cases hk : j / 2 = i ∧ j % 2 = d
    · have hm : 2 * i + d = j := by omega
      rw [if_pos (c := j / 2 = i ∧ _) ⟨hk.1, hk.2, hu⟩, if_pos (c := _ ∈ j :: l) (by rw [hm]; exact List.mem_cons_self)]
      split_ifs <;> rfl
    · have hm : 2 * i + d ≠ j := by omega
      rw [if_neg (c := j / 2 = i ∧ _) (fun h => hk ⟨h.1, h.2.1⟩)]
      simp [hm]

theorem levelFields_mem {j : Nat} (hj : j < 8) :
    levelField (j / 2) (j % 2) ∈ (List.range 4).flatMap (fun i => [F.SAF_SIN_STAT_A i, F.SAF_SIN_STAT_B i]) := by
  refine List.mem_flatMap.2 ⟨j / 2, List.mem_range.2 (by omega), ?_⟩
  unfold levelField
  split_ifs <;> simp

/-- Settles O39, along the filters, the discrepancy and the test pulses. -/
theorem safetyInputs : Obligations.SafetyInputs := by
  unfold Obligations.SafetyInputs
  refine ⟨?demand, ?level, ?healthy, ?unused, ?discrepancy, ?noDiscrepancy, ?start, ?noStart, ?finish, ?noFinish⟩
  case demand =>
    intro s n b hn hu h2 hshape
    obtain ⟨hlen, -⟩ := shaped_chans hshape
    have hst := level_sep_state n (bit b)
    have hmark := (input_sep_marks n hn _ (levelField_mem n (bit b)))
    have hstate : (demanding s.begin n (bit b)).sinState n = 2 := (demanding_g _ _ _ hst.1).trans h2
    obtain ⟨d1, d2, d3, d4, d5, d6, d7⟩ := demand_leaves (demanding s.begin n (bit b)) hn rfl
    have hlock : (demanding s.begin n (bit b)).on F.SAF_STAT_LOCKED = s.on F.SAF_STAT_LOCKED := on_congr (demanding_g _ _ _ (hmark.1 _ (by simp [inputMarks])))
    have hothers : ∀ n < 4, ∀ f ∈ inputFields n, sep f F.FLT_CTRL_MODE = true ∧ sep f (fltSev S.SAF_SIN_DEMAND) = true ∧ sep f F.SAF_LOCK_CNT_LOCK_CNT = true
        ∧ sep f F.SAF_STAT_FSTATE = true := by decide
    obtain ⟨o1, o2, o3, o4⟩ := hothers n hn _ (levelField_mem n (bit b))
    rw [State.defLevel, on_congr (demanding_g _ _ _ o1), demanding_g _ _ _ o2] at d5
    rw [demanding_g _ _ _ o3, demanding_g _ _ _ o4, hlock] at d7
    refine ⟨_, (exec_sinFilterExpiry b hn hu).trans (congrArg Host.Outcome.next (if_pos hstate)), d1, ?_, d3.trans ?_, d4, d5, d6, d7, ?_⟩
    · rw [chan_congr d2]
      exact demanding_chan s.begin hn (bit_lt b) hlen
    · rw [demanding_g _ _ _ hst.2.2.2]
      rfl
    · refine (settle_fits _ (by decide) (raiseTrig_fits _ _ _ _ _ _ rfl (by decide) (evt_fits (by decide) (incSat_fits ?_ (put_fits _ ?_ ?_))))).within
      · rfl
      · rfl
      · exact withSaf_fits _ (fun h => by simpa [Saf.shaped] using h) rfl (modChanS_fits _ _ _ _ (by decide) (begin_fits s (by decide) (fits_refl _ s)))
  case level =>
    intro s n b hn hu h2 hshape
    obtain ⟨hlen, hfor⟩ := shaped_chans hshape
    have hst := level_sep_state n (bit b)
    have hstate : (demanding s.begin n (bit b)).sinState n ≠ 2 := fun h => h2 ((demanding_g _ _ _ hst.1).symm.trans h)
    refine ⟨_, (exec_sinFilterExpiry b hn hu).trans (congrArg Host.Outcome.next (if_neg hstate)), demanding_chan s.begin hn (bit_lt b) hlen,
      setHealthyFor_self _ false (by rw [modChanS_healthyFor]; exact hfor.symm ▸ hn), ?_⟩
    exact only_withSaf (by simp) (only_modChanS _ _ (by unfold levelField; split_ifs <;> simp) (by simp) (only_refl _ _ _))
  case healthy =>
    intro s n hn hu hshape
    obtain ⟨hlen, hfor⟩ := shaped_chans hshape
    have hrun : exec (.sinHealthyFilter n) s = .next ((healed s.begin n).sinHealthy n) :=
      congrArg Host.Outcome.next (if_pos (by rw [begin_on, hu]; simp [hn]))
    have hsaf := sinHealthy_saf (healed s.begin n) n
    have hkeep : ∀ f ∈ inputSettings, ((healed s.begin n).sinHealthy n).g f = (healed s.begin n).g f := fun f hf => by
      have hs := (input_sep_marks n hn _ (by simp [inputFields] : F.SAF_SIN_STAT_STATE n ∈ inputFields n)).2 f hf
      rw [sinHealthy_eq]
      exact ite_g (fun _ => (settle_g _ (sep_apart (settings_lamp f hf).2.1)).trans ((withFlt_g ..).trans (g_put_sep _ _ hs))) (fun _ => rfl)
    have hat : ∀ c < 2, ((healed s.begin n).sinHealthy n).atHealthy n c = true := fun c hc =>
      (atHealthy_congr hkeep hn (by rw [chan_congr (chansRest_saf hsaf)])).trans (healed_healthy s.begin hn hlen hc)
    refine ⟨_, hrun, hat 0 (by decide), hat 1 (by decide), ?_, ?_, ?_⟩
    · rw [hsaf]
      exact setHealthyFor_self _ true (by rw [modChanS_healthyFor, modChanS_healthyFor]; exact hfor.symm ▸ hn)
    · have hst : (healed s.begin n).sinState n = s.sinState n := healed_g _ _ (level_sep_state n 0).1 (level_sep_state n 1).1
      rw [sinHealthy_state _ hn, hst]
      exact if_congr (mayHeal_healed s.begin hn hlen hfor) rfl rfl
    · refine sinHealthy_only _ n (by simp) (by simp) (by simp) (only_withSaf (by simp) (only_modChanS _ _ ?_ (by simp) (only_modChanS _ _ ?_ (by simp) (only_refl _ _ _))))
      · simp [levelField]
      · simp [levelField]
  case unused =>
    intro s n b h
    have hno : ¬ (decide (n < 4) && s.begin.on (F.SAF_SIN_CFG_USED n)) = true := by
      rw [begin_on]
      rcases h with h | h
      · simp [Nat.not_lt.2 h]
      · simp [h]
    exact ⟨congrArg Host.Outcome.next (if_neg hno), congrArg Host.Outcome.next (if_neg hno)⟩
  case discrepancy =>
    intro s n hn h3 hshape
    have hrun : exec (.sinDiscrepancyTimeout n) s = .next (s.begin.sinFault n 5) :=
      congrArg Host.Outcome.next (if_pos (by rw [show s.begin.sinState n = s.sinState n from rfl, h3]; simp [hn]))
    obtain ⟨f1, f2, -, f4, f5, f6, f7⟩ := sinFault_leaves s.begin (cause := 5) hn (by decide) (shaped_chans hshape).1
    refine ⟨_, hrun, f1, f2, f4, f5, f7 (fun h => ?_) (.inl rfl), f6, (sinFault_fits _ _ _ (by decide) (begin_fits s (by decide) (fits_refl _ s))).within⟩
    exact absurd (h3.symm.trans h) (by decide)
  case noDiscrepancy =>
    intro s n h3
    exact congrArg Host.Outcome.next (if_neg (by rw [show s.begin.sinState n = s.sinState n from rfl]; simp [h3]))
  case start =>
    intro s n levels hn ht hu hshape
    have hgo : (decide (n < 4) && s.begin.saf.tpo.isNone && s.begin.tpoUsed n) = true := by
      rw [show s.begin.saf.tpo = s.saf.tpo from rfl, show s.begin.tpoUsed n = s.tpoUsed n from rfl, ht, hu]
      simp [hn]
    have hrange : ∀ j ∈ List.range 8, j < 8 := fun j hj => List.mem_range.1 hj
    refine ⟨(List.range 8).foldl (sampled levels) (s.begin.withSaf { s.begin.saf with tpo := some n }), congrArg Host.Outcome.next (if_pos hgo), ?_,
      fun i c hi hc hused => ?_, ?_⟩
    · exact List.foldlRecOn (motive := fun u : State => u.saf.tpo = some n) _ _ rfl (fun u hu j _ => (sampled_tpo levels u j).trans hu)
    · exact (sampled_fold levels (List.range 8) hrange (s.begin.withSaf { s.begin.saf with tpo := some n }) hi hc (shaped_chans hshape).1 hused).trans
        (if_pos (List.mem_range.2 (by omega)))
    · refine List.foldlRecOn (motive := fun u : State => s.begin.Only _ [.saf] u) _ _ (only_withSaf (by simp) (only_refl _ _ _)) (fun u hu j hj => ?_)
      unfold sampled
      exact only_ite (fun _ => only_modChanS _ _ (levelFields_mem (hrange j hj)) (by simp) hu) (fun _ => hu)
  case noStart =>
    intro s n levels h
    refine congrArg Host.Outcome.next (if_neg ?_)
    rw [show s.begin.saf.tpo = s.saf.tpo from rfl, show s.begin.tpoUsed n = s.tpoUsed n from rfl]
    rcases h with h | h
    · simp [Option.isNone_iff_eq_none, h]
    · simp [h]
  case finish =>
    intro s p levels hp hshape
    have hlen := (shaped_chans hshape).1
    have hrun : exec (.testPulseEnd levels) s =
        .next ((List.range 4).foldl (fun s n => s.pulseEnd p levels n) (s.begin.withSaf { s.begin.saf with tpo := none })) := by
      show execTestPulseEnd levels s = _
      unfold execTestPulseEnd
      dsimp only
      rw [show s.begin.saf.tpo = some p from hp]
    have hfit : s.Fits (Foot.reaction [] [.fresh]) (s.begin.withSaf { s.begin.saf with tpo := none }) :=
      withSaf_fits _ (fun h => h) rfl (begin_fits s (by decide) (fits_refl _ s))
    have hpar : ∀ n < 4, ∃ u, InputRests n (s.begin.withSaf { s.begin.saf with tpo := none }) u ∧ InputRests n (u.pulseEnd p levels n)
        ((List.range 4).foldl (fun s n => s.pulseEnd p levels n) (s.begin.withSaf { s.begin.saf with tpo := none })) := fun n hn =>
      pulse_turn p levels (List.range 4) List.nodup_range (fun j hj => List.mem_range.1 hj) (List.mem_range.2 hn) _ hlen (fun u j hu => by rw [pulseEnd_length, hu])
    refine ⟨_, hrun, ?_, ?_, fun n hn hu => ?_⟩
    · exact List.foldlRecOn (motive := fun u : State => u.saf.tpo = none) _ _ rfl (fun u hu j _ => (pulseEnd_tpo u p levels j).trans hu)
    · exact (List.foldlRecOn (motive := fun u : State => s.Fits (Foot.reaction [] [.fresh]) u) _ _ hfit (fun u hu j _ => pulseEnd_fits u _ _ _ (by decide) hu)).within
    · obtain ⟨u, h1, h2⟩ := hpar n hn
      have hset : ∀ f ∈ inputSettings, u.g f = s.g f := fun f hf => h1.field f (List.mem_append_right _ hf)
      have hset' : ∀ f ∈ inputSettings, ((List.range 4).foldl (fun s n => s.pulseEnd p levels n) (s.begin.withSaf { s.begin.saf with tpo := none })).g f
          = (u.pulseEnd p levels n).g f := fun f hf => h2.field f (List.mem_append_right _ hf)
      have hchan : ∀ c, c < 2 → u.chan n c = s.chan n c := h1.chan
      have hfaults : u.pulseFaults p n levels = s.pulseFaults p n levels := by
        simp only [State.pulseFaults, List.filterMap_cons, List.filterMap_nil, hchan 0 (by decide), hchan 1 (by decide), feed_congr hset hn]
      have hulen : u.saf.chans.length = 8 := h1.length.trans hlen
      have huu : u.on (F.SAF_SIN_CFG_USED n) = true := (on_congr (hset _ (used_mem hn))).trans hu
      have hust : u.sinState n = s.sinState n := h1.field (F.SAF_SIN_STAT_STATE n) (by simp [watched])
      have hat : ∀ c < 2, u.atHealthy n c = s.atHealthy n c := fun c hc => atHealthy_congr hset hn (by rw [hchan c hc])
      have hstate := h2.field (F.SAF_SIN_STAT_STATE n) (by simp [watched])
      have hcause := h2.field (F.SAF_SIN_STAT_CAUSE n) (by simp [watched])
      have hxsrc := h2.field (F.SAF_SIN_STAT_XSRC n) (by simp [watched])
      have hfor : u.saf.healthyFor.getD n false = s.saf.healthyFor.getD n false := h1.healthy
      have htests : ∀ k, ((List.range 4).foldl (fun s n => s.pulseEnd p levels n) (s.begin.withSaf { s.begin.saf with tpo := none })).testsPassed n k
          = (u.pulseEnd p levels n).testsPassed n k := testsPassed_congr hset' hn (fun c hc => by rw [h2.chan c hc])
      generalize (List.range 4).foldl (fun s n => s.pulseEnd p levels n) (s.begin.withSaf { s.begin.saf with tpo := none }) = t at h2 hset' htests hstate hcause hxsrc
      have hpass := fun h => pulseEnd_passes u p levels hn hulen huu (hfaults.trans h)
      have hfail := fun h : s.pulseFaults p n levels ≠ [] => pulseEnd_fails u p levels hn hulen huu (fun hk => h (hfaults.symm.trans hk))
      refine ⟨fun h c hc => ?_, fun h h1' hh ht => ?_, fun h h4 a0 a1 ht => ?_, fun h h4 => ?_, fun h c hc => ?_⟩
      · rw [h2.chan c hc, (hpass h).1 c hc, hchan c hc, feed_congr hset hn]
        unfold pulsedChan
        split_ifs <;> simp_all
      · exact hstate.trans ((hpass h).2.1 (hust.trans h1') (hfor.trans hh) ((htests 1).symm.trans ht))
      · exact hstate.trans ((hpass h).2.2 (hust.trans h4) ((hat 0 (by decide)).trans a0) ((hat 1 (by decide)).trans a1) ((htests 2).symm.trans ht))
      · obtain ⟨k1, k2, ⟨cause, k3, k4, k5⟩, k6, k7⟩ := (hfail h).2 (fun hk => h4 (hust.symm.trans hk))
        refine ⟨hstate.trans k1, h2.stays _ (by simp) k2, ⟨cause, hfaults ▸ k3, hcause.trans k4, fun h3 hp4 => hxsrc.trans (k5 h3 hp4)⟩, fun hd => ?_, fun hne => ?_⟩
        · refine h2.stays _ (by simp) ?_
          rcases h1.level hd with hl | hl
          · exact (inputRests_pulseEnd hn (n := (n + 1) % 4) (by omega) (by omega) u p levels hulen).stays _ (by simp) hl
          · exact k6 (by rw [hl]; exact hd)
        · exact h2.stays _ (by simp) (k7 (fun hk => hne (hust.symm.trans hk)) (h1.armed (.inl rfl)))
      · rw [h2.chan c hc]
        exact (hfail h).1 c hc
  case noFinish =>
    intro s levels h
    show execTestPulseEnd levels s = _
    unfold execTestPulseEnd
    dsimp only
    rw [show s.begin.saf.tpo = none from h]


end Sys2Proof.Proofs.SafetyIns
end

section
/-! PROOF. The periodic digest and the flux record (DigestAndFluxRecord). -/

namespace Sys2Proof.Proofs.DigestChecks

open Sys2Proof.Machine Sys2Proof.Laws Sys2Proof.Proofs.Architecture Sys2Proof.Proofs.Reading Sys2Proof.Proofs.GovernorSums
  Sys2Proof.Proofs.PendingFaults Sys2Proof.Proofs.LampReactions Sys2Proof.Proofs.FlintLockOut Sys2Proof.Proofs.SafetyIns

variable {s t u : State} {i j : Nat}

/-! ### A fault of Granite -/

/-- A Granite fault that is not injected, up to the trigger. -/
def granitePend (s : State) (i addr : Nat) : State := (s.withSaf { s.saf with granFault := true }).raiseWith i 0 addr false true

theorem graniteFault_eq (s : State) (i detail addr : Nat) : s.graniteFault i detail addr false = (granitePend s i addr).flintTrigger i 10 detail := rfl

theorem graniteFault_g (s : State) (i detail addr : Nat) {x : Fld} (hx : lampField x = true) : (s.graniteFault i detail addr false).g x = s.g x := by
  have hc : (granitePend s i addr).g x = s.g x := ((field_reacts s hx _).core.raiseCore i 0 addr false rfl).trans (withSaf_g ..)
  exact ((field_reacts (granitePend s i addr) hx _).flintTrigger i 10 detail id rfl).trans hc

theorem graniteFault_marks (s : State) (i detail addr : Nat) : (s.graniteFault i detail addr false).saf.granFault = true := by
  have hq := flint_reacts (granitePend s i addr) (Q := fun a => a.granFault = true) (fun _ _ _ h => h) (fun _ _ h => h)
  exact hq.flintTrigger i 10 detail id (congrArg Saf.granFault (raiseWith_saf (s.withSaf { s.saf with granFault := true }) i 0 addr false))

theorem flintTrigger_pend (s : State) (i code detail : Nat) (hj : j < 75) (h : s.on (fltPend j) = true) : (s.flintTrigger i code detail).on (fltPend j) = true := by
  unfold State.flintTrigger
  split_ifs
  · exact h
  · exact h
  · exact trigger_keeps_pend s code detail hj h

theorem graniteFault_pend (s : State) (detail addr : Nat) (hi : i < 75) (hd : s.defLevel i ≠ 0) : (s.graniteFault i detail addr false).on (fltPend i) = true :=
  flintTrigger_pend _ _ _ _ hi (raiseWith_pend _ _ _ _ _ hi hd)

theorem graniteFault_keeps_pend (s : State) (detail addr : Nat) (hi : i < 75) (hj : j < 75) (h : s.on (fltPend j) = true) :
    (s.graniteFault i detail addr false).on (fltPend j) = true :=
  flintTrigger_pend _ _ _ _ hj (raiseWith_keeps_pend _ _ _ _ _ hi hj h)

/-- While Flint runs, a Granite fault locks the device out. -/
theorem graniteFault_locks (s : State) (i detail addr : Nat) (h0 : s.saf.trigNow = 0) (hh : s.saf.halted = false) (hf : s.flintStopped = false) :
    (s.graniteFault i detail addr false).on F.SAF_STAT_LOCKED = true := by
  have hsaf : (granitePend s i addr).saf = { s.saf with granFault := true } := raiseWith_saf _ i 0 addr false
  have hcore := (raiseCore_fits (s.withSaf { s.saf with granFault := true }) i 0 addr false).within
  have hpwr : ((s.withSaf { s.saf with granFault := true }).raiseWith i 0 addr false true).pwr = (s.withSaf { s.saf with granFault := true }).pwr :=
    within_pwr hcore rfl rfl
  change (granitePend s i addr).pwr = s.pwr at hpwr
  rw [graniteFault_eq, State.flintTrigger, if_neg (by rw [hsaf, hh]; decide), if_neg (by rw [State.flintStopped, hpwr]; rw [State.flintStopped] at hf; rw [hf]; decide)]
  exact trigger_locked _ _ _ (by rw [hsaf]; exact h0)

/-! ### The digest -/

/-- With no injection armed, Granite RAM reads as it is. -/
theorem gramInject_idle (h : s.g F.FLT_INJ_STATE ≠ 1) : s.gramInject = s := by
  have ha : ∀ i, s.armed i = false := fun i => by simp [State.armed, h]
  unfold State.gramInject
  rw [if_neg (by rw [ha]; decide), if_neg (by rw [ha]; decide)]

/-- The end of a digest check. -/
def judged (ok : Bool) (s : State) : State := if ok then s else (s.evt F.GOV_EVT_DIGEST).graniteFault S.GOV_DIGEST 3 0 false

/-- A word that reads with an error. -/
def readWith (ecc : Nat) (s : State) : State :=
  if ecc = 1 then (s.freeAddr 0x30000000 0x80000).2.gramCor (s.freeAddr 0x30000000 0x80000).1 false
  else if ecc = 2 then (s.freeAddr 0x30000000 0x80000).2.gramUnc (s.freeAddr 0x30000000 0x80000).1 false
  else s

theorem exec_digestCheck (ok : Bool) (ecc : Nat) (ht : s.on F.GOV_STAT_TABLES_OK = true) (hh : s.saf.halted = false) (hi : s.g F.FLT_INJ_STATE ≠ 1) :
    exec (.digestCheck ok ecc) s = .next (judged ok (readWith ecc s.begin)) := by
  have hgo : (s.begin.on F.GOV_STAT_TABLES_OK && !s.begin.saf.halted) = true := by
    rw [begin_on, show s.begin.saf.halted = s.saf.halted from rfl, ht, hh]
    rfl
  have hidle : s.begin.gramInject = s.begin := gramInject_idle (by rw [begin_g]; exact hi)
  show execDigestCheck ok ecc s = _
  unfold execDigestCheck
  dsimp only
  rw [if_pos hgo, hidle]
  rfl

theorem judged_g (ok : Bool) (s : State) {x : Fld} (hx : lampField x = true) (hd : sep F.GOV_EVT_DIGEST x = true) (hq : sep (F.UNIT_IRQ_STAT_EVT 0x40) x = true) :
    (judged ok s).g x = s.g x := by
  unfold judged
  exact ite_g (fun _ => rfl) (fun _ => (graniteFault_g _ _ _ _ hx).trans (g_evt_sep _ hd hq))

theorem judged_pend (ok : Bool) (s : State) (hj : j < 75) (h : s.on (fltPend j) = true) : (judged ok s).on (fltPend j) = true := by
  unfold judged
  split_ifs
  · exact h
  · refine graniteFault_keeps_pend _ _ _ (by decide) hj ((on_evt_sep _ ?_ ?_).trans h)
    · exact (by decide : ∀ j < 75, sep F.GOV_EVT_DIGEST (fltPend j) = true) j hj
    · exact (by decide : ∀ j < 75, sep (F.UNIT_IRQ_STAT_EVT F.GOV_EVT_DIGEST.page) (fltPend j) = true) j hj

theorem judged_marks (ok : Bool) (h : s.saf.granFault = true) : (judged ok s).saf.granFault = true := by
  unfold judged
  split_ifs
  · exact h
  · exact graniteFault_marks ..

theorem gramCor_counts (s : State) (addr : Nat) : (s.gramCor addr false).g F.GOV_ECC_COR = min F.GOV_ECC_COR.top (s.g F.GOV_ECC_COR + 1) :=
  (raiseWith_g _ _ _ _ _ _ (by decide)).trans (g_incSat (by decide) (by decide) (g_le_top _ _))

theorem gramCor_pends (s : State) (addr : Nat) (hd : s.defLevel S.GRAM_COR ≠ 0) : (s.gramCor addr false).on (fltPend S.GRAM_COR) = true := by
  refine raiseWith_pend _ _ _ _ _ (by decide) ?_
  rw [State.defLevel, on_incSat_sep _ (by decide), g_incSat_sep _ (by decide)]
  exact hd

/-- What an uncorrectable word leaves. -/
theorem gramUnc_leaves (s : State) (addr : Nat) : (s.gramUnc addr false).on F.GOV_EVT_ECC_UNC = true ∧ (s.gramUnc addr false).saf.granFault = true
    ∧ (s.defLevel S.GRAM_UNC ≠ 0 → (s.gramUnc addr false).on (fltPend S.GRAM_UNC) = true) := by
  refine ⟨(on_congr (graniteFault_g _ _ _ _ (by decide))).trans (on_evt_self _ rfl), graniteFault_marks _ _ _ _, fun hd => graniteFault_pend _ _ _ (by decide) ?_⟩
  rw [State.defLevel, on_evt_sep _ (by decide) (by decide), g_evt_sep _ (by decide) (by decide)]
  exact hd

theorem freeAddr_leaves (s : State) (base size : Nat) (x : Fld) (i : Nat) : (s.freeAddr base size).2.g x = s.g x ∧ (s.freeAddr base size).2.defLevel i = s.defLevel i :=
  ⟨rfl, rfl⟩

theorem readWith_cor (s : State) : readWith 1 s = (s.freeAddr 0x30000000 0x80000).2.gramCor (s.freeAddr 0x30000000 0x80000).1 false := if_pos rfl

theorem readWith_none (s : State) : readWith 0 s = s := rfl

theorem judged_holds (s : State) : judged true s = s := rfl

theorem judged_fails (s : State) : judged false s = (s.evt F.GOV_EVT_DIGEST).graniteFault S.GOV_DIGEST 3 0 false := by
  unfold judged
  rw [if_neg (by decide)]

theorem readWith_unc {w : State} {a : Nat} (hw : (s.freeAddr 0x30000000 0x80000).2 = w) (ha : (s.freeAddr 0x30000000 0x80000).1 = a) :
    readWith 2 s = w.gramUnc a false := by
  subst hw ha
  unfold readWith
  rw [if_neg (by decide), if_pos rfl]

/-! ### The flux record -/

theorem exec_fluxRecordWrite (hm : s.fluxMoved = true) (hw : ∀ w, s.flx.writtenAt = some w → ms 60000 ≤ s.now - w) :
    exec .fluxRecordWrite s = .next s.begin.writeFluxRecord := by
  refine congrArg Host.Outcome.next (if_pos ?_)
  rw [show s.begin.fluxMoved = s.fluxMoved from rfl, show s.begin.flx = s.flx from rfl, show s.begin.now = s.now from rfl, hm]
  cases hwr : s.flx.writtenAt with
  | none => rfl
  | some w => simp [hw w hwr]

theorem defer_mem (s : State) (d : Deferred) : d ∈ (s.defer d).thm.deferred := by
  show d ∈ (if s.thm.deferred.contains d then s.thm.deferred else s.thm.deferred ++ [d])
  split_ifs with h
  · exact List.contains_iff_mem.1 h
  · simp

/-- Settles O32, along the checks of the digest and the conditions of the record. -/
theorem digestAndFluxRecord : Obligations.DigestAndFluxRecord := by
  unfold Obligations.DigestAndFluxRecord
  refine ⟨?holds, ?fails, ?words, ?none, ?written, ?deferred, ?still⟩
  case holds =>
    intro s ht hh hi
    exact (exec_digestCheck true 0 ht hh hi).trans (congrArg Host.Outcome.next ((judged_holds _).trans (readWith_none _)))
  case fails =>
    intro s ht hh hi
    have hrun := exec_digestCheck false 0 ht hh hi
    rw [readWith_none, judged_fails] at hrun
    refine ⟨_, hrun, ?_, graniteFault_marks _ _ _ _, fun hd => ?_, fun hf => ?_,
      (graniteFault_fits _ _ _ _ _ (by decide) (by decide) (evt_fits (by decide) (begin_fits s (by decide) (fits_refl _ s)))).within⟩
    · exact (on_congr (graniteFault_g _ _ _ _ (by decide))).trans (on_evt_self _ rfl)
    · refine graniteFault_pend _ _ _ (by decide) ?_
      rw [State.defLevel, on_evt_sep _ (by decide) (by decide), g_evt_sep _ (by decide) (by decide)]
      exact hd
    · refine graniteFault_locks _ _ _ _ ?_ ?_ ?_
      · rw [evt_saf]
        rfl
      · rw [evt_saf]
        exact hh
      · rw [State.flintStopped, evt_pwr]
        exact hf
  case words =>
    intro s ok ht hh hi
    obtain ⟨hg, hl⟩ := freeAddr_leaves s.begin 0x30000000 0x80000 F.GOV_ECC_COR S.GRAM_COR
    obtain ⟨-, hl'⟩ := freeAddr_leaves s.begin 0x30000000 0x80000 F.GOV_ECC_COR S.GRAM_UNC
    have hcor := exec_digestCheck ok 1 ht hh hi
    have hunc := exec_digestCheck ok 2 ht hh hi
    rw [readWith_cor] at hcor
    generalize hw : (s.begin.freeAddr 0x30000000 0x80000).2 = w at hg hl hl' hcor
    generalize ha : (s.begin.freeAddr 0x30000000 0x80000).1 = a at hcor
    rw [readWith_unc hw ha] at hunc
    obtain ⟨u1, u2, u3⟩ := gramUnc_leaves w a
    refine ⟨⟨_, hcor, (judged_g _ _ (by decide) (by decide) (by decide)).trans ?_, fun hd => judged_pend ok _ (by decide) (gramCor_pends w a (fun h => hd (hl.symm.trans h)))⟩,
      ⟨_, hunc, (on_congr (judged_g _ _ (by decide) (by decide) (by decide))).trans u1, judged_marks ok u2,
        fun hd => judged_pend ok _ (by decide) (u3 (fun h => hd (hl'.symm.trans h)))⟩⟩
    rw [gramCor_counts, hg]
    rfl
  case none =>
    intro s ok ecc h
    refine congrArg Host.Outcome.next (if_neg ?_)
    rw [begin_on, show s.begin.saf.halted = s.saf.halted from rfl]
    rcases h with h | h <;> rw [h] <;> simp
  case written =>
    intro s hm hw hok
    exact ⟨_, (exec_fluxRecordWrite hm hw).trans (congrArg Host.Outcome.next (if_pos hok)), rfl, only_withFlx (by simp) (only_refl _ _ _)⟩
  case deferred =>
    intro s hm hw hok
    exact ⟨_, (exec_fluxRecordWrite hm hw).trans (congrArg Host.Outcome.next (if_neg (by rw [begin_on, hok]; decide))), defer_mem _ _,
      only_withThm (by simp) (only_refl _ _ _)⟩
  case still =>
    intro s h
    refine congrArg Host.Outcome.next (if_neg ?_)
    rw [show s.begin.fluxMoved = s.fluxMoved from rfl, show s.begin.flx = s.flx from rfl, show s.begin.now = s.now from rfl]
    rcases h with h | ⟨w, hw, hlt⟩
    · simp [h]
    · rw [hw]
      simp [hlt]

end Sys2Proof.Proofs.DigestChecks
end

section
/-! PROOF. Commits: what a page that goes into force leaves in its registers, and what an accepted or a rejected GO writes (R577 to R582). -/

namespace Sys2Proof.Proofs.Commits

open Sys2Proof.Machine Sys2Proof.Laws Sys2Proof.Proofs.Architecture Sys2Proof.Proofs.RegisterMap Sys2Proof.Proofs.Reading Sys2Proof.Proofs.GovernorSums

variable {s t : State} {bank : List (Nat × Word)} {p q a : Nat} {f : Fld}

/-! ### A page that goes into force -/

/-- The bits of a mask replaced. -/
def merged (m w v : Word) : Word := (w &&& ~~~ m) ||| (v &&& m)

theorem merged_again (m w v : Word) : merged m (merged m w v) v = merged m w v := by
  ext i hi
  simp only [merged, BitVec.getElem_and, BitVec.getElem_or, BitVec.getElem_not]
  cases m[i] <;> simp

theorem land_eq (s : State) (bank : List (Nat × Word)) (p : Nat) :
    s.land bank p = (s.keys bank p).foldl (fun s a => s.setWord a (merged (accMask .rwc a) (s.word a) (tabGet resetWord bank a))) s := rfl

theorem land_fold_word (l : List Nat) (s : State) (bank : List (Nat × Word)) (a : Nat) :
    (l.foldl (fun s a => s.setWord a (merged (accMask .rwc a) (s.word a) (tabGet resetWord bank a))) s).word a =
      if a ∈ l then merged (accMask .rwc a) (s.word a) (tabGet resetWord bank a) else s.word a := by
  induction l generalizing s with
  | nil => simp
  | cons b l ih =>
    rw [List.foldl_cons, ih]
    by_cases hab : a = b
    · subst hab
      rw [word_setWord_same, merged_again, if_pos List.mem_cons_self]
      split_ifs <;> rfl
    · rw [word_setWord_other _ _ hab]
      simp [hab]

/-- A register of a page that lands takes the bank's RWC bits. -/
theorem land_word (s : State) (bank : List (Nat × Word)) (hp : a / 4096 = p) :
    (s.land bank p).word a = merged (accMask .rwc a) (s.word a) (tabGet resetWord bank a) := by
  rw [land_eq, land_fold_word]
  split_ifs with h
  · rfl
  · obtain ⟨hb, hr⟩ := (not_mem_keys hp).1 h
    rw [tabGet_unlisted hb, State.word, tabGet_unlisted hr]
    exact (merge_self _ _).symm

theorem land_word_off (s : State) (bank : List (Nat × Word)) (hp : a / 4096 ≠ p) : (s.land bank p).word a = s.word a := by
  rw [land_eq, land_fold_word, if_neg (fun h => hp (keys_page h))]

/-- Every bit of a field is taken by a commit. -/
def committed (f : Fld) : Bool := decide (f.hi < 32) && decide (accMask .rwc f.addr &&& fieldMask f.hi f.lo = fieldMask f.hi f.lo)

theorem wordField_merged {m w v : Word} {hi lo : Nat} (hh : hi < 32) (hm : m &&& fieldMask hi lo = fieldMask hi lo) :
    wordField (merged m w v) hi lo = wordField v hi lo := by
  apply Nat.eq_of_testBit_eq
  intro i
  rw [wordField_bit, wordField_bit]
  by_cases hi' : i < hi + 1 - lo
  · have hmask : (fieldMask hi lo).getLsbD (lo + i) = true := by
      rw [fieldMask_bit _ _ _ hh]
      simp
      omega
    have hmi : m.getLsbD (lo + i) = true := by
      have := congrArg (fun b : Word => b.getLsbD (lo + i)) hm
      simpa [BitVec.getLsbD_and, hmask] using this
    have hlt : lo + i < 32 := by omega
    simp only [merged, BitVec.getLsbD_or, BitVec.getLsbD_and, BitVec.getLsbD_not, hmi, hlt, decide_true, Bool.not_true, Bool.and_true, Bool.and_false, Bool.false_or]
  · simp [hi']

/-- A field that a commit takes reads as the bank has it. -/
theorem land_g_committed (s : State) (bank : List (Nat × Word)) (hf : committed f = true) (hp : f.addr / 4096 = p) :
    (s.land bank p).g f = wordField (tabGet resetWord bank f.addr) f.hi f.lo := by
  simp only [committed, Bool.and_eq_true, decide_eq_true_eq] at hf
  rw [State.g, land_word s bank hp, wordField_merged hf.1 hf.2]

/-! ### Banks -/

theorem tabGet_append {β : Type} (d : Nat → β) (l m : List (Nat × β)) (a : Nat) :
    tabGet d (l ++ m) a = if a ∈ l.map (fun e => e.1) then tabGet d l a else tabGet d m a := by
  induction l with
  | nil => simp
  | cons e l ih =>
    obtain ⟨k, v⟩ := e
    by_cases hk : k = a
    · simp [tabGet, hk]
    · simp only [List.cons_append, tabGet, if_neg hk, ih]
      have : (a = k) = False := by simp [Ne.symm hk]
      simp only [List.map_cons, List.mem_cons, this, false_or]

theorem tabGet_filter_keep {β : Type} (d : Nat → β) (l : List (Nat × β)) (P : Nat × β → Bool) (a : Nat) (h : ∀ v, P (a, v) = true) :
    tabGet d (l.filter P) a = tabGet d l a := by
  induction l with
  | nil => rfl
  | cons e l ih =>
    obtain ⟨k, v⟩ := e
    by_cases hk : k = a
    · subst hk
      rw [List.filter_cons_of_pos (h v)]
      simp [tabGet]
    · by_cases hP : P (k, v) = true
      · rw [List.filter_cons_of_pos hP]
        simp only [tabGet, if_neg hk, ih]
      · rw [List.filter_cons_of_neg hP, ih]
        simp only [tabGet, if_neg hk]

/-- A page replaced in a bank reads as the page that replaces it. -/
theorem tabGet_replacePage (l m : List (Nat × Word)) (hp : a / 4096 = p) : tabGet resetWord (replacePage l m p) a = tabGet resetWord m a := by
  have hlow : a ∉ (l.filter (fun e => e.1 / 4096 < p)).map (fun e => e.1) := by
    simp only [List.mem_map, List.mem_filter, decide_eq_true_eq, not_exists, not_and, and_imp, Prod.forall]
    rintro b v - hb rfl
    omega
  have hhigh : a ∉ (l.filter (fun e => p < e.1 / 4096)).map (fun e => e.1) := by
    simp only [List.mem_map, List.mem_filter, decide_eq_true_eq, not_exists, not_and, and_imp, Prod.forall]
    rintro b v - hb rfl
    omega
  have honly : tabGet resetWord (onlyPage m p) a = tabGet resetWord m a := tabGet_filter_keep _ _ _ _ (fun v => by simp [hp])
  rw [replacePage, List.append_assoc, tabGet_append, if_neg hlow, tabGet_append]
  split_ifs with h
  · exact honly
  · rw [tabGet_unlisted hhigh, ← honly, tabGet_unlisted h]

/-! ### What a GO writes -/

/-- The marks of a page's commit. -/
def commitMarks (p : Nat) : List Fld := [F.UNIT_COMMIT_COUNT p, F.UNIT_STATUS_COMMIT_ERR p, F.UNIT_IRQ_STAT_COMMIT p]

/-- A commit that is counted, without error. -/
def countCommit (s : State) (p : Nat) : State :=
  ((s.inc (F.UNIT_COMMIT_COUNT p)).put (F.UNIT_STATUS_COMMIT_ERR p) 0).put (F.UNIT_IRQ_STAT_COMMIT p) 1

theorem acceptPage_eq (s : State) (p : Nat) :
    s.acceptPage p = countCommit ((s.withPend (replacePage s.pend s.shadow p)).withPendPages (p :: s.pendPages.filter (· ≠ p))) p := rfl

theorem countCommit_leaves (s : State) (p : Nat) :
    (countCommit s p).g (F.UNIT_COMMIT_COUNT p) = (s.g (F.UNIT_COMMIT_COUNT p) + 1) % 2 ^ 16
      ∧ (countCommit s p).on (F.UNIT_STATUS_COMMIT_ERR p) = false ∧ (countCommit s p).on (F.UNIT_IRQ_STAT_COMMIT p) = true := by
  refine ⟨?_, (on_put_sep _ _ rfl).trans (on_put_clear _ rfl), on_put_set _ rfl⟩
  exact (g_put_sep _ _ rfl).trans ((g_put_sep _ _ rfl).trans (g_put_same _ _ _ (by simp [F.UNIT_COMMIT_COUNT]) (by simp [F.UNIT_COMMIT_COUNT])))

theorem only_countCommit {s0 : State} {fs : List Fld} {ps : List Part} (hm : commitMarks p ⊆ fs) (h : s0.Only fs ps s) : s0.Only fs ps (countCommit s p) :=
  only_put _ (hm (by simp [commitMarks])) (by simp [F.UNIT_IRQ_STAT_COMMIT]) (only_put _ (hm (by simp [commitMarks])) (by simp [F.UNIT_STATUS_COMMIT_ERR])
    (only_put _ (hm (by simp [commitMarks])) (by simp [F.UNIT_COMMIT_COUNT]) h))

theorem countCommit_pend (s : State) (p : Nat) : (countCommit s p).pend = s.pend := by
  rw [countCommit, State.inc, put_pend, put_pend, put_pend]

theorem countCommit_pendPages (s : State) (p : Nat) : (countCommit s p).pendPages = s.pendPages := by
  rw [countCommit, State.inc, put_pendPages, put_pendPages, put_pendPages]

theorem rejectPage_leaves (s : State) (p : Nat) :
    (s.rejectPage p).on (F.UNIT_STATUS_COMMIT_ERR p) = true ∧ (s.rejectPage p).on (F.UNIT_IRQ_STAT_COMMIT p) = true :=
  ⟨(on_put_sep _ _ rfl).trans (on_put_set _ rfl), on_put_set _ rfl⟩

theorem only_rejectPage {s0 : State} {fs : List Fld} {ps : List Part} (h1 : F.UNIT_STATUS_COMMIT_ERR p ∈ fs) (h2 : F.UNIT_IRQ_STAT_COMMIT p ∈ fs)
    (h : s0.Only fs ps s) : s0.Only fs ps (s.rejectPage p) :=
  only_put _ h2 (by simp [F.UNIT_IRQ_STAT_COMMIT]) (only_put _ h1 (by simp [F.UNIT_STATUS_COMMIT_ERR]) h)

theorem commitWrite_go (s : State) (p : Nat) {v : Word} (hd : wordField v 1 1 = 0) (hg : wordField v 0 0 = 1) : s.commitWrite p v = s.go p :=
  (if_neg (by omega)).trans (if_pos hg)

theorem commitWrite_none (s : State) (p : Nat) {v : Word} (hd : wordField v 1 1 = 0) (hg : wordField v 0 0 = 0) : s.commitWrite p v = s :=
  (if_neg (by omega)).trans (if_neg (by omega))

/-- The pages of a GO that fail their checks. -/
def badPages (s : State) (p : Nat) : List Nat :=
  (if (commitPages p).contains p then commitPages p else p :: commitPages p).filter (s.pageBad (s.candidate (commitPages p)))

theorem go_blocked (s : State) (h : s.blockRunning p = true) : s.go p = s.rejectPage p := if_pos h

theorem go_empty (s : State) (hb : s.blockRunning p = false) (he : commitPages p = []) : s.go p = countCommit s p :=
  (if_neg (by simp [hb])).trans (if_pos (by rw [he]; rfl))

theorem go_accepted (s : State) (hb : s.blockRunning p = false) (he : commitPages p ≠ []) (hbad : badPages s p = []) :
    s.go p = s.acceptAll p (commitPages p) := by
  have he' : ¬ (commitPages p).isEmpty = true := by simpa using he
  exact (if_neg (by simp [hb])).trans ((if_neg he').trans (if_pos (by rw [badPages] at hbad; rw [hbad]; rfl)))

theorem go_rejected (s : State) (hb : s.blockRunning p = false) (he : commitPages p ≠ []) (hbad : badPages s p ≠ []) :
    s.go p = s.rejectAll (s.candidate (commitPages p)) p (badPages s p) := by
  have he' : ¬ (commitPages p).isEmpty = true := by simpa using he
  exact (if_neg (by simp [hb])).trans ((if_neg he').trans (if_neg (by rw [badPages] at hbad; simpa using hbad)))

/-! ### A page accepted alone -/

/-- A page's commit accepted, with what it leaves of the held commits. -/
def accepted (s : State) (p : Nat) (c : Cmp) : State := (s.acceptPage p).withCmp c

section
variable (s : State) (c : Cmp)

theorem accepted_pend (p : Nat) : (accepted s p c).pend = replacePage s.pend s.shadow p :=
  (withCmp_pend ..).trans ((congrArg State.pend (acceptPage_eq s p)).trans (countCommit_pend ..))

theorem accepted_pendPages (p : Nat) : (accepted s p c).pendPages = p :: s.pendPages.filter (· ≠ p) :=
  (withCmp_pendPages ..).trans ((congrArg State.pendPages (acceptPage_eq s p)).trans (countCommit_pendPages ..))

theorem accepted_pends (p : Nat) : (accepted s p c).pendPages.contains p = true := by
  rw [accepted_pendPages]
  simp

theorem accepted_g (h : (commitMarks p).all (fun x => sep x f) = true) : (accepted s p c).g f = s.g f := by
  have hm : ∀ x ∈ commitMarks p, sep x f = true := by simpa using h
  exact (withCmp_g ..).trans ((g_put_sep _ _ (hm _ (by simp [commitMarks]))).trans ((g_put_sep _ _ (hm _ (by simp [commitMarks]))).trans
    ((g_put_sep _ _ (hm _ (by simp [commitMarks]))).trans ((withPendPages_g ..).trans (withPend_g ..)))))

theorem accepted_only (p : Nat) : s.Only (commitMarks p) [.pend, .pendPages, .cmp] (accepted s p c) :=
  only_withCmp (by simp) (only_countCommit (fun _ hx => hx) (only_withPendPages (by simp) (only_withPend (by simp) (only_refl _ _ s))))

theorem apply_accepted (p : Nat) : (accepted s p c).apply p = (((accepted s p c).land (accepted s p c).pend p).withPend
    (dropPage (accepted s p c).pend p)).withPendPages ((accepted s p c).pendPages.filter (· ≠ p)) := if_pos (accepted_pends s c p)

/-- A field of the page that a commit takes reads as the shadow bank had it. -/
theorem applied_committed (hf : committed f = true) (hp : f.addr / 4096 = p) :
    ((accepted s p c).apply p).g f = wordField (tabGet resetWord s.shadow f.addr) f.hi f.lo := by
  rw [apply_accepted, withPendPages_g, withPend_g, land_g_committed _ _ hf hp, accepted_pend, tabGet_replacePage _ _ hp]

end

theorem land_parts (s : State) (bank : List (Nat × Word)) (p : Nat) : s.PartsWithin (Foot.of [] []) (s.land bank p) := by
  have h : s.Within (Foot.of [groupPage p] []) (s.land bank p) :=
    (land_fits (g := Foot.of [groupPage p] []) s bank p (by simp [Foot.hasUnit, Foot.of]) (fits_refl _ s)).within
  rcases h with h | h
  · exact absurd h (by simp [Foot.of])
  · exact partsWithin_mono (by simp [Foot.of]) h.2

theorem apply_parts (s : State) (p : Nat) : s.PartsWithin (Foot.of [] [.pend, .pendPages]) (s.apply p) := by
  have h := (only_withPendPages (fs := []) (ps := [.pend, .pendPages]) (v := s.pendPages.filter (· ≠ p)) (by simp)
    (only_withPend (v := dropPage s.pend p) (by simp) (only_refl [] [.pend, .pendPages] (s.land s.pend p)))).parts
  unfold State.apply
  split_ifs
  · exact partsWithin_trans (partsWithin_mono (by simp [Foot.of]) (land_parts s s.pend p)) h
  · exact partsWithin_refl _ s


end Sys2Proof.Proofs.Commits
end

section
/-! PROOF. What a fault writes on its own pages: a mark of FLT or EVR that no fault writes stands through one. -/

namespace Sys2Proof.Proofs.FaultWrites

open Sys2Proof.Machine Sys2Proof.Laws Sys2Proof.Proofs.Architecture Sys2Proof.Proofs.Reading Sys2Proof.Proofs.GovernorSums

variable {s : State} {f : Fld} {i : Nat}

/-- The fields of FLT beside the sources and the history's places that a fault writes. -/
def faultMarks : List Fld :=
  [F.FLT_ALARM_HIST_WRAP, F.FLT_HIST_HEAD_TOTAL, F.FLT_HIST_HEAD_NEWEST, F.FLT_ALARM_CORR_SEEN, F.FLT_ALARM_UCC_SEEN, F.FLT_ALARM_FATAL_SEEN,
    F.FLT_CNT_ESCALATED, F.FLT_ALARM_ESC_SEEN]

/-- The history's places. -/
def historyFields : List Fld :=
  (List.range 16).flatMap (fun k => [F.FLT_HIST_CODE k, F.FLT_HIST_LVL k, F.FLT_HIST_ESC k, F.FLT_HIST_CONSEQ k, F.FLT_HIST_INJ k, F.FLT_HIST_SEQ_LO k])

/-- A field that no fault writes, though it may stand on the pages of FLT and EVR. -/
def markField (f : Fld) : Bool :=
  clear triggerFields f && faultMarks.all (fun x => sep x f) && historyFields.all (fun x => sep x f) && groupPage f.page != 0x50 && f.off % 4096 != 0x18
    && (f.page != 0x70 || decide (f.off % 4096 < 0x48) || decide (0x74 ≤ f.off % 4096))

theorem markField_iff : markField f = true ↔ clear triggerFields f = true ∧ (∀ x ∈ faultMarks, sep x f = true) ∧ (∀ x ∈ historyFields, sep x f = true)
    ∧ groupPage f.page ≠ 0x50 ∧ f.off % 4096 ≠ 0x18 ∧ (f.page ≠ 0x70 ∨ f.off % 4096 < 0x48 ∨ 0x74 ≤ f.off % 4096) := by
  simp only [markField, Bool.and_eq_true, Bool.or_eq_true, List.all_eq_true, bne_iff_ne, decide_eq_true_eq, and_assoc, or_assoc]

section
variable (hf : markField f = true)

include hf

theorem history_mark (s : State) (code eff : Nat) (esc conseq inj : Bool) : (s.history code eff esc conseq inj).g f = s.g f := by
  obtain ⟨-, hm, hh, -⟩ := markField_iff.1 hf
  unfold State.history
  extract_lets k v v1 v2
  have hk : k < 16 := Nat.mod_lt _ (by decide)
  have hp : ∀ x ∈ [F.FLT_HIST_CODE k, F.FLT_HIST_LVL k, F.FLT_HIST_ESC k, F.FLT_HIST_CONSEQ k, F.FLT_HIST_INJ k, F.FLT_HIST_SEQ_LO k],
      ∀ (u : State) (n : Nat), (u.put x n).g f = u.g f := fun x hx u n =>
    g_put_sep u n (hh x (List.mem_flatMap.2 ⟨k, List.mem_range.2 hk, hx⟩))
  have hv : v.g f = s.g f := by
    show (if _ then s else _ : State).g _ = _
    exact ite_g (fun _ => rfl) (fun _ => g_put_sep _ _ (hm _ (by simp [faultMarks])))
  rw [g_put_sep _ _ (hm _ (by simp [faultMarks])), State.inc, g_put_sep _ _ (hm _ (by simp [faultMarks]))]
  simp only [v2, v1]
  rw [hp _ (by simp), hp _ (by simp), hp _ (by simp), hp _ (by simp), hp _ (by simp), hp _ (by simp), hv]

theorem alarmLevel_mark (s : State) (e : Nat) : (s.alarmLevel e).g f = s.g f := by
  obtain ⟨-, hm, -⟩ := markField_iff.1 hf
  unfold State.alarmLevel
  exact ite_g (fun _ => g_put_sep _ _ (hm _ (by simp [faultMarks]))) (fun _ => ite_g (fun _ => g_put_sep _ _ (hm _ (by simp [faultMarks])))
    (fun _ => ite_g (fun _ => g_put_sep _ _ (hm _ (by simp [faultMarks]))) (fun _ => rfl)))

theorem setPending_mark (s : State) (inst eff : Nat) (esc inj : Bool) (hi : i < 75) : (s.setPending i inst eff esc inj).g f = s.g f := by
  obtain ⟨-, -, -, -, h18, hp⟩ := markField_iff.1 hf
  have hsrc : ∀ {x : Fld}, x.page = 0x70 → x.hi < 32 → 0x48 ≤ x.off % 4096 → x.off % 4096 < 0x74 → sep x f = true := fun {x} h1 h2 h3 h4 => by
    simp only [sep, Bool.and_eq_true, Bool.or_eq_true, decide_eq_true_eq, Bool.not_eq_true', beq_eq_false_iff_ne, ne_eq, h1]
    exact ⟨h2, by omega⟩
  have hpend : sep (fltPend i) f = true := hsrc rfl (by simp only [fltPend]; omega) (by simp only [fltPend]; omega) (by simp only [fltPend]; omega)
  have hunack : sep (fltUnack i) f = true := hsrc rfl (by simp only [fltUnack]; omega) (by simp only [fltUnack]; omega) (by simp only [fltUnack]; omega)
  have hlvl : sep (fltLvl i) f = true := hsrc rfl (by simp only [fltLvl]; omega) (by simp only [fltLvl]; omega) (by simp only [fltLvl]; omega)
  unfold State.setPending
  extract_lets old was fl st u v
  exact (faultIrq_g _ _ _ h18).trans ((g_put_sep _ _ hlvl).trans ((g_put_sep _ _ hunack).trans ((g_put_sep _ _ hpend).trans (withFlt_g ..))))

/-- A mark stands through a fault. -/
theorem raiseWith_mark (s : State) (inst addr : Nat) (inj trig : Bool) (hi : i < 75) : (s.raiseWith i inst addr inj trig).g f = s.g f := by
  obtain ⟨htr, hm, -, h50, -⟩ := markField_iff.1 hf
  unfold State.raiseWith
  extract_lets d esc e fl s1
  have h1 : s1.g f = s.g f := by
    show (ite _ _ _ : State).g _ = _
    exact ite_g (fun _ => withFlt_g ..) (fun _ => rfl)
  split
  rename_i coal s2 heq
  have h2 : s2.g f = s.g f := by
    have hg := record_g s1 (s1.faultRec i inst addr d e esc false inj) (clear_record htr)
    rw [heq] at hg
    exact hg.trans h1
  extract_lets s3 s4 s5 s6
  have h3 : s3.g f = s.g f := by
    show (ite _ _ _ : State).g _ = _
    exact ite_g (fun _ => h2) (fun _ => (history_mark hf _ _ _ _ _ _).trans h2)
  have h5 : s5.g f = s.g f := by
    show (ite _ _ _ : State).g _ = _
    exact ite_g (fun _ => (g_put_sep _ _ (hm _ (by simp [faultMarks]))).trans ((g_incSat_sep _ (hm _ (by simp [faultMarks]))).trans ((alarmLevel_mark hf _ _).trans h3)))
      (fun _ => (alarmLevel_mark hf _ _).trans h3)
  have h6 : s6.g f = s.g f := by
    show (ite _ _ _ : State).g _ = _
    exact ite_g (fun _ => h5) (fun _ => (setPending_mark hf _ _ _ _ _ hi).trans h5)
  exact ite_g (fun _ => (flintTrigger_g _ _ _ _ htr h50).trans h6) (fun _ => h6)

theorem raise_mark (s : State) (inst : Nat) (hi : i < 75) : (s.raise i inst).g f = s.g f := raiseWith_mark hf s inst 0 false false hi

end

end Sys2Proof.Proofs.FaultWrites
end

section
/-! PROOF. The event recorder (EventRecorder). -/

namespace Sys2Proof.Proofs.RecorderRuns

open Sys2Proof.Machine Sys2Proof.Laws Sys2Proof.Proofs.Architecture Sys2Proof.Proofs.RegisterMap Sys2Proof.Proofs.Reading
  Sys2Proof.Proofs.GovernorSums Sys2Proof.Proofs.GylysLinks Sys2Proof.Proofs.PacketStore Sys2Proof.Proofs.PacketConsumption Sys2Proof.Proofs.Commits Sys2Proof.Proofs.FaultWrites
  Sys2Proof.Proofs.DigestChecks

variable {s t u : State} {l seq : Nat} {r : EvRec}

/-! ### Records -/

/-- What records leave of the recorder: what waits for the mirror, the gap, the checkpoints, and the drops seen. -/
structure EvrRests (s t : State) : Prop where
  waiting : t.evr.waiting = s.evr.waiting
  gap : t.evr.gap = s.evr.gap
  attested : t.evr.attested = s.evr.attested

theorem evrRests_refl (s : State) : EvrRests s s := ⟨rfl, rfl, rfl⟩

theorem evrRests_trans (h : EvrRests s t) (k : EvrRests t u) : EvrRests s u :=
  ⟨k.waiting.trans h.waiting, k.gap.trans h.gap, k.attested.trans h.attested⟩

theorem evrRests_of (h : t.evr = s.evr) : EvrRests s t := ⟨by rw [h], by rw [h], by rw [h]⟩

theorem withEvr_rests (s : State) {e : Evr} (h1 : e.waiting = s.evr.waiting) (h2 : e.gap = s.evr.gap) (h3 : e.attested = s.evr.attested) :
    EvrRests s (s.withEvr e) := ⟨h1, h2, h3⟩

theorem loseRec_evr (s : State) : s.loseRec.evr = { s.evr with loss := true } := by
  unfold State.loseRec
  extract_lets v
  have hv : v.evr = s.evr := by simp only [v, evt_evr, put_evr, incSat_evr]
  exact congrArg (fun e : Evr => { e with loss := true }) hv

theorem queueRec_rests (s : State) (r : EvRec) : EvrRests s (s.queueRec r) := by
  unfold State.queueRec
  extract_lets room
  split_ifs
  · exact ⟨rfl, rfl, rfl⟩
  · have h := loseRec_evr s
    exact ⟨by rw [h], by rw [h], by rw [h]⟩

theorem queueRec_trackers (s : State) (r : EvRec) : (s.queueRec r).evr.trackers = s.evr.trackers := by
  unfold State.queueRec
  extract_lets room
  split_ifs
  · rfl
  · rw [loseRec_evr]

/-- With room a record is queued. -/
theorem queueRec_room (s : State) (r : EvRec) (h : s.evr.queue.length < 56) : s.queueRec r = s.withEvr { s.evr with queue := s.evr.queue ++ [r] } := by
  unfold State.queueRec
  extract_lets room
  refine if_pos ?_
  simp only [room]
  split_ifs <;> omega

theorem closeTracker_rests (s : State) (k : Tracker) : EvrRests s (s.closeTracker k) := by
  unfold State.closeTracker
  dsimp only
  split_ifs
  · exact ⟨rfl, rfl, rfl⟩
  · exact evrRests_trans (⟨rfl, rfl, rfl⟩ : EvrRests s (s.withEvr { s.evr with trackers := s.evr.trackers.filter (fun u => !(u.first.sameKey k.first)) }))
      (queueRec_rests _ _)

theorem record_rests (s : State) (r : EvRec) : EvrRests s (s.record r).2 := by
  unfold State.record
  split_ifs
  · split
    · exact ⟨rfl, rfl, rfl⟩
    · rename_i hfind
      have hopen : ∀ w : State, EvrRests s w → EvrRests s ((w.queueRec r).withEvr
          { (w.queueRec r).evr with trackers := (w.queueRec r).evr.trackers ++ [⟨r, 0, r, (w.queueRec r).now⟩] }) := fun w hw =>
        evrRests_trans (evrRests_trans hw (queueRec_rests w r)) ⟨rfl, rfl, rfl⟩
      refine hopen _ ?_
      split
      · split_ifs
        · exact closeTracker_rests s _
        · exact evrRests_refl s
      · exact evrRests_refl s
  · exact queueRec_rests s r

theorem event_rests (s : State) (code : Nat) (d : List Byte) : EvrRests s (s.event code d) := record_rests s _

/-- A record of its own kind goes to the queue past every tracker. -/
theorem event_queued (s : State) (code : Nat) (d : List Byte) (hp : EvRec.plain ⟨code, 0, 0, 1, data6 d⟩ = true) (hq : s.evr.queue.length < 56) :
    s.event code d = s.withEvr { s.evr with queue := s.evr.queue ++ [(⟨code, 0, 0, 1, data6 d⟩ : EvRec)] } := by
  unfold State.event State.record
  rw [if_neg (by simp [hp])]
  exact queueRec_room s _ hq

/-! ### Closing a tracker -/

theorem closeTracker_quiet (s : State) (k : Tracker) (h : k.repeats = 0) :
    s.closeTracker k = s.withEvr { s.evr with trackers := s.evr.trackers.filter (fun u => !(u.first.sameKey k.first)) } := if_pos h

theorem closeTracker_counts (s : State) (k : Tracker) (h : k.repeats ≠ 0) :
    s.closeTracker k = (s.withEvr { s.evr with trackers := s.evr.trackers.filter (fun u => !(u.first.sameKey k.first)) }).queueRec
      { k.last with flags := k.last.flags ||| 0x20, count := min 65535 k.repeats } := if_neg h

theorem closeTracker_room (s : State) (k : Tracker) (h : k.repeats ≠ 0) (hq : s.evr.queue.length < 56) :
    s.closeTracker k = (s.withEvr { s.evr with trackers := s.evr.trackers.filter (fun u => !(u.first.sameKey k.first)) }).withEvr
      { s.evr with trackers := s.evr.trackers.filter (fun u => !(u.first.sameKey k.first)),
                   queue := s.evr.queue ++ [{ k.last with flags := k.last.flags ||| 0x20, count := min 65535 k.repeats }] } :=
  (closeTracker_counts s k h).trans (queueRec_room (s.withEvr { s.evr with trackers := s.evr.trackers.filter (fun u => !(u.first.sameKey k.first)) }) _ hq)

theorem closeTracker_trackers (s : State) (k : Tracker) : (s.closeTracker k).evr.trackers = s.evr.trackers.filter (fun u => !(u.first.sameKey k.first)) := by
  by_cases h : k.repeats = 0
  · rw [closeTracker_quiet s k h]
    rfl
  · rw [closeTracker_counts s k h, queueRec_trackers]
    rfl

/-! ### Memory -/

theorem bytes_getD (s : State) (a n i : Nat) (h : i < n) : (s.bytes a n).getD i 0 = s.byte (a + i) := by
  induction n generalizing a i with
  | zero => omega
  | succ n ih =>
    cases i with
    | zero => rfl
    | succ i =>
      rw [State.bytes, List.getD_cons_succ, ih (a + 1) i (by omega)]
      congr 1
      omega

theorem bytes_length (s : State) (a n : Nat) : (s.bytes a n).length = n := by
  induction n generalizing a with
  | zero => rfl
  | succ n ih => rw [State.bytes, List.length_cons, ih]

theorem bytes_mem (h : t.mem = s.mem) (a n : Nat) : t.bytes a n = s.bytes a n := by
  induction n generalizing a with
  | zero => rfl
  | succ n ih => rw [State.bytes, State.bytes, ih, State.byte, State.byte, h]

theorem le_mem (h : t.mem = s.mem) (a n : Nat) : t.le a n = s.le a n := by rw [State.le, State.le, bytes_mem h]

theorem byte_mem (h : t.mem = s.mem) (a : Nat) : t.byte a = s.byte a := by rw [State.byte, State.byte, h]

/-! ### Writing the oldest record -/

/-- The record is taken from the queue. -/
def taken (s : State) (r : EvRec) (rest : List EvRec) : State :=
  s.withEvr { s.evr with
    queue := rest, loss := false, gap := if r.code = 0x7180 then some (nextSeq (s.g F.EVR_HEAD_SEQ)) else s.evr.gap,
    attested := s.evr.attested && !decide (r.code = 0x7180) }

/-- The bytes of the record. -/
def recordOf (s : State) (r : EvRec) (rest : List EvRec) : List Byte :=
  s.recBytes (nextSeq (s.g F.EVR_HEAD_SEQ))
    (r.flags ||| (2 * bit (s.evr.attested && !decide (r.code = 0x7180) && !(r :: rest).any (fun q => q.code = 0x7181))) ||| (128 * bit s.evr.loss)) r

/-- The record is the newest of the ring, and waits for the mirror. -/
def stamped (s : State) (seq : Nat) : State :=
  let s := s.put F.EVR_HEAD_SEQ seq
  s.withEvr { s.evr with waiting := s.evr.waiting ++ [seq] }

/-- The record is in its place. -/
def placed (s : State) (seq : Nat) (b : List Byte) : State := stamped (s.setBytes (ringAddr seq) b) seq

/-- A link gets the record, where it carries its level. -/
def sentTo (r : EvRec) (b : List Byte) (s : State) (l : Nat) : State :=
  (if decide (s.g F.EVR_CTRL_BC_MIN ≤ r.eff) && s.active l && s.on (F.LNK_CTRL_EVT_EN l) then s.queueEvent l (eventBytes b) else s).bcDrop l

theorem overwritten_g (s : State) (seq : Nat) {f : Fld} (hf : sep F.EVR_CNT_UNMIRRORED f = true) (ha : sep F.FLT_ALARM_EVR_UNMIRRORED f = true)
    (he : sep F.EVR_EVT_UNMIRRORED f = true) (hq : sep (F.UNIT_IRQ_STAT_EVT 0x71) f = true) : (s.overwritten seq).g f = s.g f := by
  unfold State.overwritten
  exact ite_g (fun _ => (g_evt_sep _ he hq).trans ((g_put_sep _ _ ha).trans ((g_incSat_sep _ hf).trans (withEvr_g ..)))) (fun _ => rfl)

theorem overwritten_evr (s : State) (seq : Nat) : ∃ w, (s.overwritten seq).evr = { s.evr with waiting := w } := by
  unfold State.overwritten
  split_ifs
  · refine ⟨s.evr.waiting.filter (fun q => q % 4096 ≠ seq % 4096), ?_⟩
    dsimp only
    rw [evt_evr, put_evr, incSat_evr]
    rfl
  · exact ⟨s.evr.waiting, rfl⟩

theorem recBytes_congr (h1 : t.ohMs = s.ohMs) (h2 : t.g F.EVR_PCC_COUNT = s.g F.EVR_PCC_COUNT) (h3 : t.g F.EVR_WKC_COUNT = s.g F.EVR_WKC_COUNT) (seq fl : Nat) (r : EvRec) :
    t.recBytes seq fl r = s.recBytes seq fl r := by rw [State.recBytes, State.recBytes, h1, h2, h3]

/-! ### The record on a link -/

theorem bcDrop_rests (s : State) (l : Nat) : EvrRests s (s.bcDrop l) := by
  unfold State.bcDrop
  dsimp only
  split_ifs
  · refine evrRests_trans ?_ (event_rests _ _ _)
    exact withEvr_rests s rfl rfl rfl
  · exact evrRests_refl s

theorem bcDrop_g (s : State) (l : Nat) {f : Fld} (h : clear recordFields f = true) : (s.bcDrop l).g f = s.g f := by
  unfold State.bcDrop
  dsimp only
  exact ite_g (fun _ => (event_g _ _ _ h).trans (withEvr_g ..)) (fun _ => rfl)

theorem bcDrop_small (s : State) (l : Nat) : s.Fits (Foot.of [0x70, 0x71] [.evr]) (s.bcDrop l) := bcDrop_fits s l (le_self _) (fits_refl _ s)

/-- Without a drop that has not been reported, nothing is. -/
theorem bcDrop_idle (h : s.g (F.LNK_BC_DROP_DROP l) ≤ s.evr.bcSeen.getD l 0) : s.bcDrop l = s := by
  unfold State.bcDrop
  extract_lets d due
  exact if_neg (by simp only [d, Bool.and_eq_true, decide_eq_true_eq]; omega)

theorem queueEvent_evr (s : State) (l : Nat) (p : List Byte) : (s.queueEvent l p).evr = s.evr := by
  unfold State.queueEvent
  split_ifs
  · rw [State.modLink]
    split_ifs <;> rfl
  · rw [put_evr, incSat_evr]

theorem queueEvent_g (s : State) (l : Nat) (p : List Byte) {f : Fld} (h1 : sep (F.LNK_BC_DROP_DROP l) f = true) (h2 : sep F.FLT_ALARM_BC_DROP f = true) :
    (s.queueEvent l p).g f = s.g f := by
  unfold State.queueEvent
  exact ite_g (fun _ => modLink_g _ _ _ _) (fun _ => (g_put_sep _ _ h2).trans (g_incSat_sep _ h1))

theorem queueEvent_small (s : State) (l : Nat) (p : List Byte) : s.Fits (Foot.of [0x08, 0x09, 0x70, 0x71] [.evr, .lnkA, .lnkB]) (s.queueEvent l p) :=
  queueEvent_fits s l p (le_self _) (fits_refl _ s)

theorem queueEvent_room {p : List Byte} (h : (s.link l).event.length < 64) : (s.queueEvent l p).link l = { s.link l with event := (s.link l).event ++ [p] } := by
  exact (congrArg (fun u : State => u.link l) (if_pos h)).trans (modLink_link ..)

theorem queueEvent_other {p : List Byte} {k : Nat} (h : ¬ (l = 0 ↔ k = 0)) : (s.queueEvent l p).link k = s.link k := by
  unfold State.queueEvent
  split_ifs
  · exact modLink_link_other h s _
  · rw [State.link, put_lnkA, incSat_lnkA, put_lnkB, incSat_lnkB, ← State.link]

/-- What carries the record to a link: the link serves, and carries its level. -/
def carries (s : State) (r : EvRec) (l : Nat) : Bool := decide (s.g F.EVR_CTRL_BC_MIN ≤ r.eff) && s.active l && s.on (F.LNK_CTRL_EVT_EN l)

section
variable {b : List Byte}

theorem sentTo_eq (s : State) : sentTo r b s l = (if carries s r l then s.queueEvent l (eventBytes b) else s).bcDrop l := rfl

theorem offered_evr (s : State) : (if carries s r l then s.queueEvent l (eventBytes b) else s).evr = s.evr := by
  split_ifs
  · exact queueEvent_evr s l _
  · rfl

theorem sentTo_rests (s : State) : EvrRests s (sentTo r b s l) := by
  rw [sentTo_eq]
  exact evrRests_trans (evrRests_of (offered_evr s)) (bcDrop_rests _ l)

theorem sentTo_g (s : State) {f : Fld} (h : clear recordFields f = true) (h1 : sep (F.LNK_BC_DROP_DROP l) f = true) (h2 : sep F.FLT_ALARM_BC_DROP f = true) :
    (sentTo r b s l).g f = s.g f := by
  rw [sentTo_eq, bcDrop_g _ l h]
  exact ite_g (fun _ => queueEvent_g s l _ h1 h2) (fun _ => rfl)

theorem sentTo_small (s : State) : s.Fits (Foot.of [0x08, 0x09, 0x70, 0x71] [.evr, .lnkA, .lnkB]) (sentTo r b s l) := by
  rw [sentTo_eq]
  exact fits_app (by decide) (bcDrop_small _ l) (fits_ite (queueEvent_small s l _) (fits_refl _ s))

theorem sentTo_mem (s : State) : (sentTo r b s l).mem = s.mem := within_mem (sentTo_small s).within rfl (by decide)

theorem bcDrop_link (s : State) (l k : Nat) : (s.bcDrop l).link k = s.link k := by
  have h := (bcDrop_small s l).within
  rw [State.link, within_lnkA h rfl (by decide), within_lnkB h rfl (by decide), ← State.link]

theorem sentTo_event (hc : carries s r l = true) (h : (s.link l).event.length < 64) : ((sentTo r b s l).link l).event = (s.link l).event ++ [eventBytes b] := by
  rw [sentTo_eq, bcDrop_link, if_pos hc, queueEvent_room h]

theorem sentTo_other (s : State) {k : Nat} (h : ¬ (l = 0 ↔ k = 0)) : (sentTo r b s l).link k = s.link k := by
  rw [sentTo_eq, bcDrop_link]
  split_ifs
  · exact queueEvent_other h
  · rfl

/-- A link that is not served and has no drop to report gets nothing. -/
theorem sentTo_idle (ha : s.active l = false) (hd : s.g (F.LNK_BC_DROP_DROP l) ≤ s.evr.bcSeen.getD l 0) : sentTo r b s l = s := by
  have hc : ¬ carries s r l = true := by simp [carries, ha]
  rw [sentTo_eq, if_neg hc, bcDrop_idle hd]

end


/-! ### The record in its place -/

theorem writeRec_eq (s : State) (r : EvRec) (rest : List EvRec) :
    s.writeRec r rest = sentTo r (recordOf s r rest) (sentTo r (recordOf s r rest)
      (placed ((taken s r rest).overwritten (nextSeq (s.g F.EVR_HEAD_SEQ))) (nextSeq (s.g F.EVR_HEAD_SEQ)) (recordOf s r rest)) 0) 1 := by
  have hg : ∀ {f : Fld}, sep F.EVR_CNT_UNMIRRORED f = true → sep F.FLT_ALARM_EVR_UNMIRRORED f = true → sep F.EVR_EVT_UNMIRRORED f = true →
      sep (F.UNIT_IRQ_STAT_EVT 0x71) f = true → ((taken s r rest).overwritten (nextSeq (s.g F.EVR_HEAD_SEQ))).g f = s.g f := fun h1 h2 h3 h4 =>
    (overwritten_g _ _ h1 h2 h3 h4).trans (withEvr_g ..)
  have hoh : ((taken s r rest).overwritten (nextSeq (s.g F.EVR_HEAD_SEQ))).ohMs = s.ohMs := by
    rw [State.ohMs, State.ohMs, hg (by decide) (by decide) (by decide) (by decide), hg (by decide) (by decide) (by decide) (by decide)]
  rw [recordOf, ← recBytes_congr hoh (hg (by decide) (by decide) (by decide) (by decide)) (hg (by decide) (by decide) (by decide) (by decide))]
  rfl

theorem stamped_g (s : State) (seq : Nat) {f : Fld} (h : sep F.EVR_HEAD_SEQ f = true) : (stamped s seq).g f = s.g f :=
  (withEvr_g ..).trans (g_put_sep _ _ h)

theorem stamped_mem (s : State) (seq : Nat) : (stamped s seq).mem = s.mem := (withEvr_mem ..).trans (put_mem ..)

theorem stamped_evr (s : State) (seq : Nat) : (stamped s seq).evr = { s.evr with waiting := s.evr.waiting ++ [seq] } :=
  congrArg (fun e : Evr => { e with waiting := e.waiting ++ [seq] }) (put_evr ..)

theorem stamped_link (s : State) (seq l : Nat) : (stamped s seq).link l = s.link l := by
  have ha : (stamped s seq).lnkA = s.lnkA := (withEvr_lnkA ..).trans (put_lnkA ..)
  have hb : (stamped s seq).lnkB = s.lnkB := (withEvr_lnkB ..).trans (put_lnkB ..)
  rw [State.link, ha, hb, ← State.link]

theorem stamped_small (s : State) (seq : Nat) : s.Fits (Foot.of [0x71] [.evr]) (stamped s seq) :=
  withEvr_fits _ rfl (put_fits _ (by decide) (fits_refl _ s))

theorem setBytes_small (s : State) (a : Nat) (b : List Byte) : s.Fits (Foot.of [] [.mem]) (s.setBytes a b) := setBytes_fits a b rfl (fits_refl _ s)

theorem placed_g (s : State) (seq : Nat) (b : List Byte) {f : Fld} (h : sep F.EVR_HEAD_SEQ f = true) : (placed s seq b).g f = s.g f :=
  (stamped_g _ seq h).trans (only_g (setBytes_only s _ b) rfl)

theorem placed_evr (s : State) (seq : Nat) (b : List Byte) : (placed s seq b).evr = { s.evr with waiting := s.evr.waiting ++ [seq] } := by
  rw [placed, stamped_evr, within_evr (setBytes_small s (ringAddr seq) b).within rfl (by decide)]

theorem placed_small (s : State) (seq : Nat) (b : List Byte) : s.Fits (Foot.of [0x71] [.mem, .evr]) (placed s seq b) :=
  fits_app (by decide) (stamped_small _ seq) (fits_mono (by decide) (setBytes_small s (ringAddr seq) b))

theorem placed_byte (s : State) (seq : Nat) (b : List Byte) (x : Nat) : (placed s seq b).byte x = (s.setBytes (ringAddr seq) b).byte x :=
  byte_mem (stamped_mem _ seq) x

theorem leBytes_length (n v : Nat) : (leBytes n v).length = n := by
  induction n generalizing v with
  | zero => rfl
  | succ n ih => rw [leBytes, List.length_cons, ih]

theorem recBytes_length (s : State) (seq fl : Nat) (hd : r.data.length = 6) : (s.recBytes seq fl r).length = 32 := by
  simp only [State.recBytes, List.length_append, leBytes_length, List.length_cons, List.length_nil, hd]


/-! ### What the write leaves -/

/-- What the write of a record may change of the registers, beside a lost record's marks. -/
def writeMarks : List Fld :=
  [F.EVR_HEAD_SEQ, F.EVR_CNT_UNMIRRORED, F.FLT_ALARM_EVR_UNMIRRORED, F.EVR_EVT_UNMIRRORED, F.UNIT_IRQ_STAT_EVT 0x71, F.LNK_BC_DROP_DROP 0,
    F.LNK_BC_DROP_DROP 1, F.FLT_ALARM_BC_DROP]

/-- A field that the write of a record leaves. -/
def writeQuiet (f : Fld) : Bool := clear recordFields f && writeMarks.all (fun x => sep x f)

section
variable (s : State) (rest : List EvRec)

/-- The record in its place, before the links have it. -/
def inPlace (r : EvRec) : State :=
  placed ((taken s r rest).overwritten (nextSeq (s.g F.EVR_HEAD_SEQ))) (nextSeq (s.g F.EVR_HEAD_SEQ)) (recordOf s r rest)

theorem inPlace_g {f : Fld} (h : writeQuiet f = true) : (inPlace s rest r).g f = s.g f := by
  simp only [writeQuiet, Bool.and_eq_true, List.all_eq_true] at h
  have hm : ∀ x ∈ writeMarks, sep x f = true := h.2
  exact (placed_g _ _ _ (hm _ (by simp [writeMarks]))).trans ((overwritten_g _ _ (hm _ (by simp [writeMarks])) (hm _ (by simp [writeMarks]))
    (hm _ (by simp [writeMarks])) (hm _ (by simp [writeMarks]))).trans (withEvr_g ..))

theorem taken_over_small (s : State) (rest : List EvRec) (seq : Nat) : s.Fits (Foot.of [0x70, 0x71] [.evr]) ((taken s r rest).overwritten seq) :=
  overwritten_fits _ seq (le_self _) (withEvr_fits _ rfl (fits_refl _ s))

theorem inPlace_small : s.Fits (Foot.of [0x70, 0x71] [.mem, .evr]) (inPlace s rest r) :=
  fits_app (by decide) (placed_small _ _ _) (fits_mono (by decide) (taken_over_small s rest _))

theorem inPlace_link (l : Nat) : (inPlace s rest r).link l = s.link l := by
  have h := (inPlace_small (r := r) s rest).within
  rw [State.link, within_lnkA h rfl (by decide), within_lnkB h rfl (by decide), ← State.link]

theorem inPlace_evr : ∃ w, (inPlace s rest r).evr = { (taken s r rest).evr with waiting := w ++ [nextSeq (s.g F.EVR_HEAD_SEQ)] } := by
  obtain ⟨w, hw⟩ := overwritten_evr (taken s r rest) (nextSeq (s.g F.EVR_HEAD_SEQ))
  exact ⟨w, by rw [inPlace, placed_evr, hw]⟩

theorem inPlace_byte (hd : r.data.length = 6) (x : Nat) : (inPlace s rest r).byte x =
    if ringAddr (nextSeq (s.g F.EVR_HEAD_SEQ)) ≤ x ∧ x < ringAddr (nextSeq (s.g F.EVR_HEAD_SEQ)) + 32 then
      (recordOf s r rest).getD (x - ringAddr (nextSeq (s.g F.EVR_HEAD_SEQ))) 0
    else s.byte x := by
  have hl : (recordOf s r rest).length = 32 := recBytes_length s _ _ hd
  have hm := within_mem (taken_over_small (r := r) s rest (nextSeq (s.g F.EVR_HEAD_SEQ))).within rfl (by decide)
  rw [inPlace, placed_byte, setBytes_byte, hl, byte_mem hm]

theorem carries_congr {t : State} (hc : t.g F.EVR_CTRL_BC_MIN = s.g F.EVR_CTRL_BC_MIN) (ha : t.g (F.LNK_STAT_STATE l) = s.g (F.LNK_STAT_STATE l))
    (he : t.g (F.LNK_CTRL_EVT_EN l) = s.g (F.LNK_CTRL_EVT_EN l)) : carries t r l = carries s r l := by
  rw [carries, carries, hc, on_congr he, State.active, State.active, State.lst, State.lst, ha]

end


section
variable (s : State) (rest : List EvRec)

theorem writeRec_sends : s.writeRec r rest = sentTo r (recordOf s r rest) (sentTo r (recordOf s r rest) (inPlace s rest r) 0) 1 := writeRec_eq s r rest

theorem sentTo_quiet {b : List Byte} (s : State) {f : Fld} (h : writeQuiet f = true) (hl : l < 2) : (sentTo r b s l).g f = s.g f := by
  simp only [writeQuiet, Bool.and_eq_true, List.all_eq_true] at h
  have hm : ∀ x ∈ writeMarks, sep x f = true := h.2
  have hdrop : ∀ l < 2, F.LNK_BC_DROP_DROP l ∈ writeMarks := by decide
  exact sentTo_g s h.1 (hm _ (hdrop l hl)) (hm _ (by simp [writeMarks]))

theorem carries_sent {b : List Byte} (s : State) {k : Nat} (hk : k < 2) (hl : l < 2) : carries (sentTo r b s k) r l = carries s r l :=
  carries_congr s (sentTo_quiet s (by decide) hk) (sentTo_quiet s ((by decide : ∀ l < 2, writeQuiet (F.LNK_STAT_STATE l) = true) l hl) hk)
    (sentTo_quiet s ((by decide : ∀ l < 2, writeQuiet (F.LNK_CTRL_EVT_EN l) = true) l hl) hk)

theorem carries_inPlace (hl : l < 2) : carries (inPlace s rest r) r l = carries s r l :=
  carries_congr s (inPlace_g s rest (by decide)) (inPlace_g s rest ((by decide : ∀ l < 2, writeQuiet (F.LNK_STAT_STATE l) = true) l hl))
    (inPlace_g s rest ((by decide : ∀ l < 2, writeQuiet (F.LNK_CTRL_EVT_EN l) = true) l hl))

theorem writeRec_head : (s.writeRec r rest).g F.EVR_HEAD_SEQ = nextSeq (s.g F.EVR_HEAD_SEQ) % 2 ^ 32 := by
  rw [writeRec_sends, sentTo_g _ (by decide) (by decide) (by decide), sentTo_g _ (by decide) (by decide) (by decide)]
  exact (withEvr_g ..).trans (g_put_same _ _ _ (by decide) (by decide))

theorem writeRec_rests : EvrRests (inPlace s rest r) (s.writeRec r rest) := by
  rw [writeRec_sends]
  exact evrRests_trans (sentTo_rests _) (sentTo_rests _)

theorem writeRec_waiting : nextSeq (s.g F.EVR_HEAD_SEQ) ∈ (s.writeRec r rest).evr.waiting := by
  obtain ⟨w, hw⟩ := inPlace_evr (r := r) s rest
  rw [(writeRec_rests s rest).waiting, hw]
  simp

theorem writeRec_gap (h : r.code = 0x7180) : (s.writeRec r rest).evr.gap = some (nextSeq (s.g F.EVR_HEAD_SEQ)) ∧ (s.writeRec r rest).evr.attested = false := by
  obtain ⟨w, hw⟩ := inPlace_evr (r := r) s rest
  rw [(writeRec_rests s rest).gap, (writeRec_rests s rest).attested, hw]
  refine ⟨if_pos h, ?_⟩
  show (s.evr.attested && !decide (r.code = 0x7180)) = false
  rw [decide_eq_true h, Bool.not_true, Bool.and_false]

theorem writeRec_mem : (s.writeRec r rest).mem = (inPlace s rest r).mem := by rw [writeRec_sends, sentTo_mem, sentTo_mem]

theorem writeRec_event (hl : l < 2) (hc : carries s r l = true) (hroom : (s.link l).event.length < 64) :
    ((s.writeRec r rest).link l).event = (s.link l).event ++ [eventBytes (recordOf s r rest)] := by
  have hin := inPlace_link (r := r) s rest l
  rw [← carries_inPlace (r := r) s rest hl] at hc
  rw [writeRec_sends]
  obtain rfl | rfl : l = 0 ∨ l = 1 := by omega
  · rw [sentTo_other _ (by decide), sentTo_event hc (by rw [hin]; exact hroom), hin]
  · have ho : (sentTo r (recordOf s r rest) (inPlace s rest r) 0).link 1 = s.link 1 := (sentTo_other _ (by decide)).trans hin
    rw [sentTo_event ((carries_sent _ (by decide) (by decide)).trans hc) (by rw [ho]; exact hroom), ho]

/-- With no link to serve and no drop to report the record in its place is all. -/
theorem writeRec_idle (h : ∀ l, l < 2 → s.active l = false ∧ s.g (F.LNK_BC_DROP_DROP l) ≤ s.evr.bcSeen.getD l 0) : s.writeRec r rest = inPlace s rest r := by
  obtain ⟨w, hw⟩ := inPlace_evr (r := r) s rest
  have hi : ∀ l < 2, sentTo r (recordOf s r rest) (inPlace s rest r) l = inPlace s rest r := fun l hl => by
    refine sentTo_idle ?_ ?_
    · rw [State.active, State.lst, inPlace_g s rest ((by decide : ∀ l < 2, writeQuiet (F.LNK_STAT_STATE l) = true) l hl)]
      exact (h l hl).1
    · rw [within_g (inPlace_small (r := r) s rest).within rfl _ ((by decide : ∀ l < 2,
        [0x70, 0x71].contains (groupPage (F.LNK_BC_DROP_DROP l).page) = false) l hl), hw]
      exact (h l hl).2
  rw [writeRec_sends, hi 0 (by decide), hi 1 (by decide)]

theorem writeRec_small : s.Fits (Foot.of [0x08, 0x09, 0x70, 0x71] [.mem, .evr, .lnkA, .lnkB]) (s.writeRec r rest) := by
  rw [writeRec_sends]
  exact fits_app (by decide) (sentTo_small _) (fits_app (by decide) (sentTo_small _) (fits_mono (by decide) (inPlace_small s rest)))

end


/-! ### The mirror -/

/-- A sector of the mirror is erased where its first record comes. -/
def erased (s : State) (seq : Nat) (e : List Byte) : State := if seq % 128 = 0 then s.setBytes (mirrorAddr seq) e else s

theorem mirrorRec_eq (s : State) (seq : Nat) : s.mirrorRec seq =
    ((erased s seq (List.replicate 4096 0xFF)).setBytes (mirrorAddr seq) ((erased s seq (List.replicate 4096 0xFF)).bytes (ringAddr seq) 32)).put F.EVR_MIRROR_SEQ seq := rfl

section
variable {e : List Byte} (s : State) (seq : Nat)

/-- The record in the mirror. -/
def mirrored (e : List Byte) : State := ((erased s seq e).setBytes (mirrorAddr seq) ((erased s seq e).bytes (ringAddr seq) 32)).put F.EVR_MIRROR_SEQ seq

theorem mirrorAddr_low : 0x60100000 ≤ mirrorAddr seq := by
  simp only [mirrorAddr]
  omega

theorem mirrorAddr_high : mirrorAddr seq + 32 ≤ 0x60200000 := by
  simp only [mirrorAddr]
  omega

theorem mirrorAddr_sector (h : seq % 128 = 0) : mirrorAddr seq + 4096 ≤ 0x60200000 := by
  simp only [mirrorAddr]
  omega

theorem ringAddr_high : ringAddr seq + 32 ≤ 0x60100000 := by
  simp only [ringAddr]
  omega

theorem erased_byte (he : e.length ≤ 4096) {x : Nat} (hx : x < 0x60100000 ∨ 0x60200000 ≤ x) : (erased s seq e).byte x = s.byte x := by
  unfold erased
  split_ifs with h
  · have h1 := mirrorAddr_low seq
    have h2 := mirrorAddr_sector seq h
    exact (setBytes_byte e s _ x).trans (if_neg (by omega))
  · rfl

theorem mirrored_byte_off (he : e.length ≤ 4096) {x : Nat} (hx : x < 0x60100000 ∨ 0x60200000 ≤ x) : (mirrored s seq e).byte x = s.byte x := by
  have h1 := mirrorAddr_low seq
  have h2 := mirrorAddr_high seq
  rw [mirrored, byte_mem (put_mem ..), setBytes_byte, bytes_length, if_neg (by omega), erased_byte s seq he hx]

theorem mirrored_byte (he : e.length ≤ 4096) {i : Nat} (hi : i < 32) : (mirrored s seq e).byte (mirrorAddr seq + i) = s.byte (ringAddr seq + i) := by
  have h1 := ringAddr_high seq
  rw [mirrored, byte_mem (put_mem ..), setBytes_byte, bytes_length, if_pos (by omega), Nat.add_sub_cancel_left, bytes_getD _ _ _ _ hi,
    erased_byte s seq he (by omega)]

theorem erased_only (e : List Byte) : s.Only [] [.mem] (erased s seq e) := only_ite (fun _ => setBytes_only s _ e) (fun _ => only_refl _ _ s)

theorem mirrored_only (e : List Byte) : s.Only [F.EVR_MIRROR_SEQ] [.mem] (mirrored s seq e) :=
  only_put _ (by simp) (by decide) (only_trans (only_mono (by simp) (by simp) (erased_only s seq e)) (only_mono (by simp) (by simp) (setBytes_only _ _ _)))

theorem mirrored_seq (e : List Byte) : (mirrored s seq e).g F.EVR_MIRROR_SEQ = seq % 2 ^ 32 := g_put_same _ _ _ (by decide) (by decide)

end

theorem mirrorRec_mirrored (s : State) (seq : Nat) : s.mirrorRec seq = mirrored s seq (List.replicate 4096 0xFF) := mirrorRec_eq s seq

theorem sector_length (n : Nat) : (List.replicate n (0xFF : Byte)).length ≤ n := Nat.le_of_eq List.length_replicate

theorem mirrorFold_only (l : List Nat) (s : State) : s.Only [F.EVR_MIRROR_SEQ] [.mem] (l.foldl (fun s q => s.mirrorRec q) s) := by
  induction l generalizing s with
  | nil => exact only_refl _ _ s
  | cons q l ih =>
    rw [List.foldl_cons, mirrorRec_mirrored]
    exact only_trans (mirrored_only s q _) (ih _)

theorem mirrorFold_byte (l : List Nat) (s : State) {x : Nat} (hx : x < 0x60100000 ∨ 0x60200000 ≤ x) :
    (l.foldl (fun s q => s.mirrorRec q) s).byte x = s.byte x := by
  induction l generalizing s with
  | nil => rfl
  | cons q l ih => rw [List.foldl_cons, ih, mirrorRec_mirrored, mirrored_byte_off s q (sector_length _) hx]

theorem mirrorPage_eq (s : State) (n : Nat) :
    s.mirrorPage n = (s.evr.waiting.take n).foldl (fun s q => s.mirrorRec q) (s.withEvr { s.evr with waiting := s.evr.waiting.drop n }) := rfl

theorem mirrorPage_only (s : State) (n : Nat) : s.Only [F.EVR_MIRROR_SEQ] [.mem, .evr] (s.mirrorPage n) := by
  rw [mirrorPage_eq]
  exact only_app (by simp) (by simp) (mirrorFold_only _ _) (only_withEvr (by simp) (only_refl _ _ s))

theorem mirrorPage_evr (s : State) (n : Nat) : (s.mirrorPage n).evr = { s.evr with waiting := s.evr.waiting.drop n } := by
  rw [mirrorPage_eq]
  exact (mirrorFold_only _ _).parts.evr (by decide)


/-! ### The gap's confirmation -/

/-- The sum with a gap's time. -/
def attSum (s : State) : Nat := (s.g F.EVR_ATT_SUM_LO_SUM + 2 ^ 32 * s.g F.EVR_ATT_SUM_HI_SUM + s.attestMs) % 2 ^ 48

/-- The sum is written. -/
def summed (s : State) : State := (s.put F.EVR_ATT_SUM_LO_SUM (attSum s)).put F.EVR_ATT_SUM_HI_SUM (attSum s / 2 ^ 32)

theorem plain_code {r : EvRec} (h : [0x7080, 0x4083, 0x4084, 0x7180, 0x7181].contains r.code = true) : r.plain = true := by
  simp only [EvRec.plain, h, Bool.or_true]

/-- The confirmation is on record. -/
def attestedBy (s : State) (ms : Nat) : State :=
  let s := (s.event 0x7181 (leBytes 6 ms)).evt F.EVR_EVT_ATTEST
  s.withEvr { s.evr with attested := true }

theorem summed_ms (s : State) : (summed s).attestMs = s.attestMs := by
  rw [State.attestMs, State.attestMs, summed, g_put_sep _ _ (by decide), g_put_sep _ _ (by decide), g_put_sep _ _ (by decide), g_put_sep _ _ (by decide)]

theorem attest_eq (s : State) (h : s.evr.attested = false) : s.attest = attestedBy (summed s) s.attestMs := by
  have h1 : s.attest = attestedBy (summed s) (summed s).attestMs := if_neg (by simp [h])
  rw [h1, summed_ms]

theorem summed_sum (s : State) : (summed s).g F.EVR_ATT_SUM_LO_SUM = attSum s % 2 ^ 32 ∧ (summed s).g F.EVR_ATT_SUM_HI_SUM = attSum s / 2 ^ 32 := by
  have hlt : attSum s < 2 ^ 48 := Nat.mod_lt _ (by decide)
  refine ⟨(g_put_sep _ _ (by decide)).trans (g_put_same _ _ _ (by decide) (by decide)), (g_put_same _ _ _ (by decide) (by decide)).trans (Nat.mod_eq_of_lt ?_)⟩
  have hw : F.EVR_ATT_SUM_HI_SUM.hi + 1 - F.EVR_ATT_SUM_HI_SUM.lo = 32 := rfl
  rw [hw]
  omega

theorem attestedBy_g (s : State) (ms : Nat) {f : Fld} (h : clear recordFields f = true) (h1 : sep F.EVR_EVT_ATTEST f = true)
    (h2 : sep (F.UNIT_IRQ_STAT_EVT 0x71) f = true) : (attestedBy s ms).g f = s.g f :=
  (withEvr_g ..).trans ((g_evt_sep _ h1 h2).trans (event_g _ _ _ h))

theorem attestedBy_evt (s : State) (ms : Nat) : (attestedBy s ms).on F.EVR_EVT_ATTEST = true :=
  (withEvr_on ..).trans (on_evt_self _ rfl)

theorem attestedBy_queue (s : State) (ms : Nat) (h : s.evr.queue.length < 56) :
    (attestedBy s ms).evr.queue = s.evr.queue ++ [(⟨0x7181, 0, 0, 1, data6 (leBytes 6 ms)⟩ : EvRec)] := by
  have hq : ((s.event 0x7181 (leBytes 6 ms)).evt F.EVR_EVT_ATTEST).evr = (s.event 0x7181 (leBytes 6 ms)).evr := evt_evr ..
  show ((s.event 0x7181 (leBytes 6 ms)).evt F.EVR_EVT_ATTEST).evr.queue = _
  rw [hq, event_queued s _ _ (plain_code rfl) h]
  rfl


theorem acceptAll_evr (s : State) : ∃ c, s.acceptAll 0x71 [0x71] = (accepted s 0x71 c).landNow 0x71 := ⟨_, rfl⟩

/-- What lands of EVR is confirmed at once. -/
theorem evr_lands (s : State) (c : Cmp) : (accepted s 0x71 c).landNow 0x71 = ((accepted s 0x71 c).apply 0x71).attest := by
  have hat : (accepted s 0x71 c).atOnce 0x71 = true := by
    simp only [State.atOnce, show [0x04, 0x0B, 0x10, 0x48, 0x49, 0x68, 0x70, 0x71].contains 0x71 = true from rfl, Bool.or_true, Bool.true_or]
  have hgo : ((accepted s 0x71 c).pendPages.contains 0x71 && (accepted s 0x71 c).atOnce 0x71) = true := by
    rw [accepted_pends, hat, Bool.and_true]
  exact if_pos hgo

theorem candidate_committed (s : State) {f : Fld} (hf : committed f = true) (hp : f.addr / 4096 = 0x71) :
    (s.candidate [0x71]).g f = wordField (tabGet resetWord s.shadow f.addr) f.hi f.lo := land_g_committed s.afterPending s.shadow hf hp

theorem attestOk_begin (s : State) : s.begin.attestOk (s.begin.candidate [0x71]) = s.attestOk (s.candidate [0x71]) := by
  have h : (s.begin.candidate [0x71]).g F.EVR_ATT_HI_GAP = (s.candidate [0x71]).g F.EVR_ATT_HI_GAP := by
    rw [candidate_committed s.begin (by decide) (by decide), candidate_committed s (by decide) (by decide)]
    rfl
  rw [State.attestOk, State.attestOk, show s.begin.evr = s.evr from rfl, h]

theorem attestMs_begin (s : State) : (s.begin.candidate [0x71]).attestMs = (s.candidate [0x71]).attestMs := by
  have h : ∀ f : Fld, committed f = true → f.addr / 4096 = 0x71 → (s.begin.candidate [0x71]).g f = (s.candidate [0x71]).g f := fun f hf hp => by
    rw [candidate_committed s.begin hf hp, candidate_committed s hf hp]
    rfl
  rw [State.attestMs, State.attestMs, h _ (by decide) (by decide), h _ (by decide) (by decide)]

theorem applied_ms (s : State) (c : Cmp) : ((accepted s 0x71 c).apply 0x71).attestMs = (s.candidate [0x71]).attestMs := by
  rw [State.attestMs, State.attestMs, applied_committed s c (by decide) (by decide), applied_committed s c (by decide) (by decide),
    candidate_committed s (by decide) (by decide), candidate_committed s (by decide) (by decide)]

theorem applied_sum (s : State) (c : Cmp) : attSum ((accepted s 0x71 c).apply 0x71) =
    (s.g F.EVR_ATT_SUM_LO_SUM + 2 ^ 32 * s.g F.EVR_ATT_SUM_HI_SUM + (s.candidate [0x71]).attestMs) % 2 ^ 48 := by
  rw [attSum, applied_ms, apply_g _ _ (by decide), apply_g _ _ (by decide), accepted_g s c (by decide), accepted_g s c (by decide)]

theorem exec_attestCommit {m : Master} (hm : s.masterRuns m = true) (hw : s.mayWrite m 0x71 0x30 = true) :
    exec (.attestCommit m) s = .next (s.begin.go 0x71) :=
  congrArg Host.Outcome.next ((masterWrite_special (s := s.begin) 1 hm hw (by decide) (by decide) (by decide) (by decide) (by decide) (by decide)
    (by decide)).trans ((show s.begin.specialA m 0x71 0x30 1 = s.begin.commitWrite 0x71 1 from rfl).trans (commitWrite_go s.begin 0x71 (by decide) (by decide))))

theorem commitPages_evr : commitPages 0x71 = [0x71] := by decide

theorem badPages_evr (s : State) : badPages s 0x71 = if s.attestOk (s.candidate [0x71]) then [] else [0x71] := by
  have hb : s.pageBad (s.candidate [0x71]) 0x71 = !s.attestOk (s.candidate [0x71]) := rfl
  have hf : badPages s 0x71 = [0x71].filter (s.pageBad (s.candidate [0x71])) := by
    unfold badPages
    rw [commitPages_evr]
    rfl
  rw [hf, List.filter_cons, hb]
  cases s.attestOk (s.candidate [0x71]) <;> rfl


/-- An accepted confirmation of the gap. -/
theorem attest_leaves (s : State) (c : Cmp) (h : s.evr.attested = false) {ms sum : Nat} (hms : (s.candidate [0x71]).attestMs = ms)
    (hsum : (s.g F.EVR_ATT_SUM_LO_SUM + 2 ^ 32 * s.g F.EVR_ATT_SUM_HI_SUM + ms) % 2 ^ 48 = sum) :
    let t := ((accepted s 0x71 c).apply 0x71).attest
    t.evr.attested = true ∧ t.on F.EVR_EVT_ATTEST = true ∧ t.g F.EVR_ATT_SUM_LO_SUM = sum % 2 ^ 32 ∧ t.g F.EVR_ATT_SUM_HI_SUM = sum / 2 ^ 32
      ∧ (s.evr.queue.length < 56 → t.evr.queue = s.evr.queue ++ [(⟨0x7181, 0, 0, 1, data6 (leBytes 6 ms)⟩ : EvRec)]) := by
  have hevr : ((accepted s 0x71 c).apply 0x71).evr = s.evr := ((apply_parts _ 0x71).evr (by decide)).trans ((accepted_only s c 0x71).parts.evr (by decide))
  have hs := applied_sum s c
  have hm := applied_ms s c
  rw [hms] at hs hm
  rw [hsum] at hs
  generalize (accepted s 0x71 c).apply 0x71 = w at hevr hs hm ⊢
  intro t
  have ht : t = attestedBy (summed w) ms := by rw [← hm]; exact attest_eq w (by rw [hevr]; exact h)
  obtain ⟨hlo, hhi⟩ := summed_sum w
  rw [hs] at hlo hhi
  have hevr' : (summed w).evr = s.evr := (put_evr ..).trans ((put_evr ..).trans hevr)
  rw [ht]
  refine ⟨rfl, attestedBy_evt _ _, ?_, ?_, fun hq => ?_⟩
  · rw [attestedBy_g _ _ (by decide) (by decide) (by decide), hlo]
  · rw [attestedBy_g _ _ (by decide) (by decide) (by decide), hhi]
  · rw [attestedBy_queue _ _ (by rw [hevr']; exact hq), hevr']

/-- A confirmation that names no gap. -/
theorem reject_evr (s t : State) : s.rejectAll t 0x71 [0x71] = ((s.evt F.EVR_EVT_ATT_REJ).rejectPage 0x71).rejectPage 0x71 := rfl

theorem rejected_leaves (s : State) :
    let t := ((s.evt F.EVR_EVT_ATT_REJ).rejectPage 0x71).rejectPage 0x71
    t.on F.EVR_EVT_ATT_REJ = true ∧ t.on (F.UNIT_STATUS_COMMIT_ERR 0x71) = true ∧ t.evr = s.evr
      ∧ s.Only [F.EVR_EVT_ATT_REJ, F.UNIT_IRQ_STAT_EVT 0x71, F.UNIT_STATUS_COMMIT_ERR 0x71, F.UNIT_IRQ_STAT_COMMIT 0x71] [] t := by
  have honly : s.Only [F.EVR_EVT_ATT_REJ, F.UNIT_IRQ_STAT_EVT 0x71, F.UNIT_STATUS_COMMIT_ERR 0x71, F.UNIT_IRQ_STAT_COMMIT 0x71] []
      (((s.evt F.EVR_EVT_ATT_REJ).rejectPage 0x71).rejectPage 0x71) :=
    only_rejectPage (by simp) (by simp) (only_rejectPage (by simp) (by simp) (only_evt (by simp) (by simp [F.EVR_EVT_ATT_REJ]) (by decide) (only_refl _ _ s)))
  refine ⟨?_, (rejectPage_leaves _ _).1, honly.parts.evr (by decide), honly⟩
  unfold State.rejectPage
  rw [on_put_sep _ _ (by decide), on_put_sep _ _ (by decide), on_put_sep _ _ (by decide), on_put_sep _ _ (by decide)]
  exact on_evt_self _ (by decide)

/-! ### Reading a record -/

/-- The record's words are read. -/
def wordsRead (s : State) (a : Nat) : State :=
  (List.range 8).foldl (fun s k => s.put (F.EVR_RD_WORD k) (s.le (a + 4 * k) 4)) (s.put F.EVR_RD_STAT_RESULT 1)

theorem recordRead_found (s : State) (v : Word) (h0 : v.toNat ≠ 0) (h1 : s.le (ringAddr v.toNat) 4 = v.toNat) (h2 : s.le (ringAddr v.toNat + 28) 4 = v.toNat) :
    s.recordRead v = wordsRead (s.put F.EVR_RD_SEQ_SEQ v.toNat) (ringAddr v.toNat) := by
  have hc : (decide ((s.put F.EVR_RD_SEQ_SEQ v.toNat).le (ringAddr v.toNat) 4 = v.toNat) && decide (v.toNat ≠ 0) &&
      decide ((s.put F.EVR_RD_SEQ_SEQ v.toNat).le (ringAddr v.toNat + 28) 4 = v.toNat)) = true := by
    rw [le_mem (put_mem ..), le_mem (put_mem ..), h1, h2]
    simp [h0]
  exact if_pos hc

theorem recordRead_lost (s : State) (v : Word) (h : v.toNat = 0 ∨ s.le (ringAddr v.toNat) 4 ≠ v.toNat ∨ s.le (ringAddr v.toNat + 28) 4 ≠ v.toNat) :
    s.recordRead v = (s.put F.EVR_RD_SEQ_SEQ v.toNat).put F.EVR_RD_STAT_RESULT
      (if v.toNat < s.le (ringAddr v.toNat) 4 ∨ s.le (ringAddr v.toNat) 4 = 0 then 2 else 3) := by
  have hc : ¬ (decide ((s.put F.EVR_RD_SEQ_SEQ v.toNat).le (ringAddr v.toNat) 4 = v.toNat) && decide (v.toNat ≠ 0) &&
      decide ((s.put F.EVR_RD_SEQ_SEQ v.toNat).le (ringAddr v.toNat + 28) 4 = v.toNat)) = true := by
    rw [le_mem (put_mem ..), le_mem (put_mem ..)]
    simp only [Bool.and_eq_true, decide_eq_true_eq]
    tauto
  refine (if_neg hc).trans ?_
  rw [le_mem (put_mem ..)]
  simp only [Bool.or_eq_true, decide_eq_true_eq]

theorem le_lt (s : State) (a n : Nat) : s.le a n < 256 ^ n := by simpa only [State.le, bytes_length] using RegisterAgents.ofLe_lt (s.bytes a n)

/-- The registers that a read of a record writes. -/
def readFields : List Fld := F.EVR_RD_SEQ_SEQ :: F.EVR_RD_STAT_RESULT :: (List.range 8).map F.EVR_RD_WORD

theorem words_fold (l : List Nat) (s : State) (a : Nat) (hn : l.Nodup) (hl : ∀ k ∈ l, k < 8) :
    let t := l.foldl (fun s k => s.put (F.EVR_RD_WORD k) (s.le (a + 4 * k) 4)) s
    (∀ f, (∀ k < 8, sep (F.EVR_RD_WORD k) f = true) → t.g f = s.g f) ∧ (∀ k < 8, t.g (F.EVR_RD_WORD k) = if k ∈ l then s.le (a + 4 * k) 4 else s.g (F.EVR_RD_WORD k))
      ∧ s.Only readFields [] t := by
  induction l generalizing s with
  | nil => exact ⟨fun _ _ => rfl, fun _ _ => rfl, only_refl _ _ s⟩
  | cons j l ih =>
    obtain ⟨hj, hn'⟩ := List.nodup_cons.1 hn
    have hj8 : j < 8 := hl j List.mem_cons_self
    obtain ⟨h1, h2, h3⟩ := ih (s.put (F.EVR_RD_WORD j) (s.le (a + 4 * j) 4)) hn' (fun k hk => hl k (List.mem_cons_of_mem _ hk))
    refine ⟨fun f hf => (h1 f hf).trans (g_put_sep _ _ (hf j hj8)), fun k hk => (h2 k hk).trans ?_, only_trans (only_put _ ?_ (by simp [F.EVR_RD_WORD]) (only_refl _ _ s)) h3⟩
    · by_cases hkj : k = j
      · subst hkj
        rw [if_neg hj, if_pos List.mem_cons_self]
        exact (g_put_same _ _ _ (by simp [F.EVR_RD_WORD]) (by simp [F.EVR_RD_WORD])).trans (Nat.mod_eq_of_lt (le_lt s _ 4))
      · have hsep : sep (F.EVR_RD_WORD j) (F.EVR_RD_WORD k) = true :=
          (by decide : ∀ j < 8, ∀ k < 8, k ≠ j → sep (F.EVR_RD_WORD j) (F.EVR_RD_WORD k) = true) j hj8 k hk hkj
        rw [le_mem (put_mem ..), g_put_sep _ _ hsep]
        simp [hkj]
    · exact List.mem_cons_of_mem _ (List.mem_cons_of_mem _ (List.mem_map.2 ⟨j, List.mem_range.2 hj8, rfl⟩))

theorem exec_recordRead {m : Master} {v : Word} (hm : s.masterRuns m = true) (hw : s.mayWrite m 0x71 0x6C = true) :
    exec (.recordRead m v) s = .next (s.begin.recordRead v) :=
  congrArg Host.Outcome.next ((masterWrite_special (s := s.begin) v hm hw (by decide) (by decide) (by decide) (by decide) (by decide) (by decide)
    (by decide)).trans rfl)


theorem wordsRead_leaves (s : State) (a : Nat) :
    (wordsRead s a).g F.EVR_RD_STAT_RESULT = 1 ∧ (∀ k < 8, (wordsRead s a).g (F.EVR_RD_WORD k) = s.le (a + 4 * k) 4)
      ∧ (wordsRead s a).g F.EVR_RD_SEQ_SEQ = s.g F.EVR_RD_SEQ_SEQ ∧ s.Only readFields [] (wordsRead s a) := by
  obtain ⟨h1, h2, h3⟩ := words_fold (List.range 8) (s.put F.EVR_RD_STAT_RESULT 1) a List.nodup_range (fun k hk => List.mem_range.1 hk)
  refine ⟨(h1 _ (by decide)).trans (g_put_same _ _ _ (by decide) (by decide)), fun k hk => (h2 k hk).trans ?_,
    (h1 _ (by decide)).trans (g_put_sep _ _ (by decide)), only_trans (only_put _ (by simp [readFields]) (by decide) (only_refl _ _ s)) h3⟩
  rw [if_pos (List.mem_range.2 hk), le_mem (put_mem ..)]

/-- A record's reading, found or not. -/
theorem recordRead_leaves (s : State) (v : Word) :
    (s.recordRead v).g F.EVR_RD_SEQ_SEQ = v.toNat
      ∧ (v.toNat ≠ 0 → s.le (ringAddr v.toNat) 4 = v.toNat → s.le (ringAddr v.toNat + 28) 4 = v.toNat →
          (s.recordRead v).g F.EVR_RD_STAT_RESULT = 1 ∧ ∀ k, k < 8 → (s.recordRead v).g (F.EVR_RD_WORD k) = s.le (ringAddr v.toNat + 4 * k) 4)
      ∧ (v.toNat = 0 ∨ s.le (ringAddr v.toNat) 4 ≠ v.toNat ∨ s.le (ringAddr v.toNat + 28) 4 ≠ v.toNat →
          (s.recordRead v).g F.EVR_RD_STAT_RESULT = if v.toNat < s.le (ringAddr v.toNat) 4 ∨ s.le (ringAddr v.toNat) 4 = 0 then 2 else 3)
      ∧ s.Only readFields [] (s.recordRead v) := by
  have hseq : (s.put F.EVR_RD_SEQ_SEQ v.toNat).g F.EVR_RD_SEQ_SEQ = v.toNat :=
    (g_put_same _ _ _ (by decide) (by decide)).trans (Nat.mod_eq_of_lt v.isLt)
  have honly : s.Only readFields [] (s.put F.EVR_RD_SEQ_SEQ v.toNat) := only_put _ (by simp [readFields]) (by decide) (only_refl _ _ s)
  by_cases h : v.toNat ≠ 0 ∧ s.le (ringAddr v.toNat) 4 = v.toNat ∧ s.le (ringAddr v.toNat + 28) 4 = v.toNat
  · obtain ⟨h0, h1, h2⟩ := h
    obtain ⟨hres, hw, hsq, ho⟩ := wordsRead_leaves (s.put F.EVR_RD_SEQ_SEQ v.toNat) (ringAddr v.toNat)
    rw [recordRead_found s v h0 h1 h2]
    refine ⟨hsq.trans hseq, fun _ _ _ => ⟨hres, fun k hk => (hw k hk).trans (le_mem (put_mem ..) _ _)⟩, fun hn => ?_, only_trans honly ho⟩
    exact absurd hn (by simp [h0, h1, h2])
  · have hn : v.toNat = 0 ∨ s.le (ringAddr v.toNat) 4 ≠ v.toNat ∨ s.le (ringAddr v.toNat + 28) 4 ≠ v.toNat := by tauto
    rw [recordRead_lost s v hn]
    refine ⟨(g_put_sep _ _ (by decide)).trans hseq, fun h0 h1 h2 => absurd ⟨h0, h1, h2⟩ h, fun _ => ?_, only_put _ (by simp [readFields]) (by decide) honly⟩
    have hr : ∀ n, n = 2 ∨ n = 3 → ((s.put F.EVR_RD_SEQ_SEQ v.toNat).put F.EVR_RD_STAT_RESULT n).g F.EVR_RD_STAT_RESULT = n := fun n hn => by
      rw [g_put_same _ _ _ (by decide) (by decide)]
      rcases hn with rfl | rfl <;> rfl
    exact hr _ (by split_ifs <;> simp)

/-! ### The commands -/

theorem exec_recordWrite {rest : List EvRec} (h : s.evr.queue = r :: rest) (hr : s.recorderRuns = true) :
    exec .recordWrite s = .next (s.begin.writeRec r rest) := by
  show execRecordWrite s = _
  unfold execRecordWrite
  dsimp only
  rw [show s.begin.evr = s.evr from rfl, h]
  exact congrArg Host.Outcome.next (if_pos hr)

theorem exec_recordWrite_none (h : s.evr.queue = [] ∨ s.recorderRuns = false) : exec .recordWrite s = .next s.begin := by
  show execRecordWrite s = _
  unfold execRecordWrite
  dsimp only
  rw [show s.begin.evr = s.evr from rfl]
  cases hq : s.evr.queue with
  | nil => rfl
  | cons r rest =>
    have hr : s.begin.recorderRuns = false := h.resolve_left (by simp [hq])
    exact congrArg Host.Outcome.next (if_neg (by simp [hr]))

theorem exec_trackerClose {k : Tracker} {q : List Tracker} (h : s.evr.trackers = k :: q) : exec .trackerClose s = .next (s.begin.closeTracker k) := by
  show execTrackerClose s = _
  unfold execTrackerClose
  dsimp only
  rw [show s.begin.evr = s.evr from rfl, h]

theorem exec_trackerClose_none (h : s.evr.trackers = []) : exec .trackerClose s = .next s.begin := by
  show execTrackerClose s = _
  unfold execTrackerClose
  dsimp only
  rw [show s.begin.evr = s.evr from rfl, h]

/-- The mirror's write, by whether flash is open and writes well. -/
def mirrorWrite (s : State) (ok : Bool) : State :=
  if !s.on F.THM_STAT_FLASH_OK then s.defer .mirror
  else if ok then s.mirrorPage 8
  else ((s.evt F.EVR_EVT_MIRROR_FAIL).put F.FLT_ALARM_MIRROR_FAIL 1).raise S.EVR_MIRROR_FAIL 0

theorem exec_mirror (ok : Bool) (hen : s.on F.EVR_CTRL_MIRROR_EN = true) (hw : s.evr.waiting ≠ []) (hr : s.recorderRuns = true) :
    exec (.mirrorPageWrite ok) s = .next (mirrorWrite s.begin ok) := by
  have hc : (s.begin.on F.EVR_CTRL_MIRROR_EN && !s.begin.evr.waiting.isEmpty && s.begin.recorderRuns) = true := by
    rw [begin_on, hen, show s.begin.evr = s.evr from rfl, show s.begin.recorderRuns = s.recorderRuns from rfl, hr]
    simpa using hw
  exact congrArg Host.Outcome.next (if_pos hc)

theorem exec_mirror_none (ok : Bool) (h : s.on F.EVR_CTRL_MIRROR_EN = false ∨ s.evr.waiting = [] ∨ s.recorderRuns = false) :
    exec (.mirrorPageWrite ok) s = .next s.begin := by
  have hc : ¬ (s.begin.on F.EVR_CTRL_MIRROR_EN && !s.begin.evr.waiting.isEmpty && s.begin.recorderRuns) = true := by
    rw [begin_on, show s.begin.evr = s.evr from rfl, show s.begin.recorderRuns = s.recorderRuns from rfl]
    rcases h with h | h | h <;> simp [h]
  exact congrArg Host.Outcome.next (if_neg hc)


/-! ### A fault leaves what waits for the mirror -/

theorem fits_rests {g : Foot} (h : s.Fits g t) (ha : g.any = false) (hp : g.parts.contains Part.evr = false) : EvrRests s t :=
  evrRests_of (within_evr h.within ha hp)

/-- A reaction that is recorded. -/
theorem react_rests (s : State) (w : Saf) (code detail : Nat) : EvrRests s ((s.withSaf w).recordReact code detail) := by
  rw [State.recordReact]
  refine evrRests_trans ?_ (event_rests _ _ _)
  exact evrRests_of rfl

theorem trigger_rests (s : State) (code detail : Nat) : EvrRests s (s.trigger code detail) := by
  unfold State.trigger
  extract_lets v1 w1 hiz v3 v4 v5 v6 v7 w7
  have h1 : EvrRests s v1 := evrRests_of (by simp only [v1, incSat_evr, put_evr])
  have h6 : EvrRests s v6 := evrRests_of (by simp only [v6, v5, v4, v3, incSat_evr, evt_evr, put_evr, State.inc])
  have h7 : EvrRests v6 v7 := by
    show EvrRests v6 (ite _ _ _)
    split_ifs
    · exact evrRests_refl _
    · have hs := soutsOff_fits (g := Foot.of [0x50, 0x68] [.saf, .lanes]) (v6.put F.SAF_STAT_FSTATE 4) (le_self _) (fits_refl _ _)
      exact evrRests_trans (evrRests_of (put_evr ..)) (fits_rests hs rfl (by decide))
  split_ifs
  · exact evrRests_of (by simp only [put_evr])
  · exact evrRests_refl s
  · exact evrRests_of (put_evr ..)
  · exact evrRests_refl s
  · exact evrRests_trans h1 (react_rests v1 _ _ _)
  · exact evrRests_trans (evrRests_trans h6 h7) (react_rests v7 _ _ _)

theorem flintTrigger_rests (s : State) (i code detail : Nat) : EvrRests s (s.flintTrigger i code detail) := by
  unfold State.flintTrigger
  split_ifs
  · exact evrRests_refl s
  · exact evrRests_of rfl
  · exact trigger_rests s _ _

theorem raiseWith_rests (s : State) (i inst addr : Nat) (inj trig : Bool) : EvrRests s (s.raiseWith i inst addr inj trig) := by
  unfold State.raiseWith
  extract_lets d esc e fl s1
  have h1 : EvrRests s s1 := by
    show EvrRests s (ite _ _ _)
    split_ifs
    · exact evrRests_of rfl
    · exact evrRests_refl s
  split
  rename_i coal s2 heq
  have h2 : EvrRests s1 s2 := by
    have h := record_rests s1 (s1.faultRec i inst addr d e esc false inj)
    rw [heq] at h
    exact h
  extract_lets s3 s4 s5 s6
  have h3 : EvrRests s2 s3 := by
    show EvrRests s2 (ite _ _ _)
    split_ifs
    · exact evrRests_refl s2
    · exact fits_rests (history_fits s2 _ _ _ _ _ (le_self _) (fits_refl _ _)) rfl (by decide)
  have h4 : EvrRests s3 s4 := fits_rests (alarmLevel_fits s3 _ (le_self _) (fits_refl _ _)) rfl (by decide)
  have h5 : EvrRests s4 s5 := by
    show EvrRests s4 (ite _ _ _)
    split_ifs
    · exact evrRests_of ((put_evr ..).trans (incSat_evr ..))
    · exact evrRests_refl s4
  have h6 : EvrRests s5 s6 := by
    show EvrRests s5 (ite _ _ _)
    split_ifs
    · exact evrRests_refl s5
    · have hle : (Foot.of [0x00, 0x70] [.flt]).le (Foot.of [0x00, 0x70, groupPage (srcPage i inst)] [.flt]) = true := by simp [Foot.le, Foot.of]
      exact fits_rests (setPending_fits (g := Foot.of [0x00, 0x70, groupPage (srcPage i inst)] [.flt]) s5 i inst e esc inj (by simp [Foot.hasUnit, Foot.of])
        hle (fits_refl _ _)) rfl rfl
  have h : EvrRests s s6 := evrRests_trans (evrRests_trans (evrRests_trans (evrRests_trans (evrRests_trans h1 h2) h3) h4) h5) h6
  split_ifs
  · exact evrRests_trans h (flintTrigger_rests s6 _ _ _)
  · exact h


/-- What a failed mirror write leaves. -/
theorem mirrorFail_leaves (s : State) :
    let t := ((s.evt F.EVR_EVT_MIRROR_FAIL).put F.FLT_ALARM_MIRROR_FAIL 1).raise S.EVR_MIRROR_FAIL 0
    t.on F.EVR_EVT_MIRROR_FAIL = true ∧ t.on F.FLT_ALARM_MIRROR_FAIL = true ∧ t.evr.waiting = s.evr.waiting
      ∧ (s.defLevel S.EVR_MIRROR_FAIL ≠ 0 → t.on (fltPend S.EVR_MIRROR_FAIL) = true) ∧ s.Fits (Foot.reaction [] []) t := by
  have he : ((s.evt F.EVR_EVT_MIRROR_FAIL).put F.FLT_ALARM_MIRROR_FAIL 1).evr = s.evr := (put_evr ..).trans (evt_evr ..)
  have h1 : ((s.evt F.EVR_EVT_MIRROR_FAIL).put F.FLT_ALARM_MIRROR_FAIL 1).on F.EVR_EVT_MIRROR_FAIL = true :=
    (on_put_sep _ _ (by decide)).trans (on_evt_self _ (by decide))
  have h2 : ((s.evt F.EVR_EVT_MIRROR_FAIL).put F.FLT_ALARM_MIRROR_FAIL 1).on F.FLT_ALARM_MIRROR_FAIL = true := on_put_set _ (by decide)
  have hl : ((s.evt F.EVR_EVT_MIRROR_FAIL).put F.FLT_ALARM_MIRROR_FAIL 1).defLevel S.EVR_MIRROR_FAIL = s.defLevel S.EVR_MIRROR_FAIL := by
    rw [State.defLevel, State.defLevel, on_put_sep _ _ (by decide), on_evt_sep _ (by decide) (by decide), g_put_sep _ _ (by decide),
      g_evt_sep _ (by decide) (by decide)]
  have hf : s.Fits (Foot.reaction [] []) ((s.evt F.EVR_EVT_MIRROR_FAIL).put F.FLT_ALARM_MIRROR_FAIL 1) :=
    put_fits _ (by decide) (evt_fits (by decide) (fits_refl _ s))
  generalize (s.evt F.EVR_EVT_MIRROR_FAIL).put F.FLT_ALARM_MIRROR_FAIL 1 = w at he h1 h2 hl hf ⊢
  intro t
  refine ⟨?_, ?_, ?_, fun hd => raise_pend w 0 (by decide) (by rw [hl]; exact hd), raise_fits w _ 0 (by decide) (by decide) hf⟩
  · rw [← h1]
    exact on_congr (raise_mark (by decide) w 0 (by decide))
  · rw [← h2]
    exact on_congr (raise_mark (by decide) w 0 (by decide))
  · rw [← he]
    exact (raiseWith_rests w _ 0 0 false false).waiting

theorem recordOf_eq (s : State) (r : EvRec) (rest : List EvRec) : recordOf s r rest = s.recBytes (nextSeq (s.g F.EVR_HEAD_SEQ))
    (r.flags ||| (2 * bit (s.evr.attested && r.code ≠ 0x7180 && !(r :: rest).any (fun q => q.code = 0x7181))) ||| (128 * bit s.evr.loss)) r := by
  rw [recordOf, decide_not]

theorem mirrorWrite_page (h : s.on F.THM_STAT_FLASH_OK = true) : mirrorWrite s true = s.mirrorPage 8 :=
  (if_neg (by simp [h])).trans (if_pos rfl)

theorem mirrorWrite_fail (h : s.on F.THM_STAT_FLASH_OK = true) :
    mirrorWrite s false = ((s.evt F.EVR_EVT_MIRROR_FAIL).put F.FLT_ALARM_MIRROR_FAIL 1).raise S.EVR_MIRROR_FAIL 0 :=
  (if_neg (by simp [h])).trans (if_neg (by decide))

theorem mirrorWrite_defer (ok : Bool) (h : s.on F.THM_STAT_FLASH_OK = false) : mirrorWrite s ok = s.defer .mirror := if_pos (by simp [h])

/-- The mirror of one record. -/
theorem mirrorPage_one (s : State) {q : Nat} (h : s.evr.waiting = [q]) :
    (s.mirrorPage 8).g F.EVR_MIRROR_SEQ = q % 2 ^ 32 ∧ ∀ i, i < 32 → (s.mirrorPage 8).byte (mirrorAddr q + i) = s.byte (ringAddr q + i) := by
  rw [mirrorPage_eq, h, show [q].take 8 = [q] from rfl, List.foldl_cons, List.foldl_nil, mirrorRec_mirrored]
  exact ⟨mirrored_seq _ q _, fun i hi => mirrored_byte _ q (sector_length _) hi⟩

theorem mirrorPage_byte (s : State) (n : Nat) {x : Nat} (hx : x < 0x60100000 ∨ 0x60200000 ≤ x) : (s.mirrorPage n).byte x = s.byte x := by
  rw [mirrorPage_eq]
  exact mirrorFold_byte _ _ hx

theorem exec_checkpoint (h : s.recorderRuns = true) : exec .checkpoint s = .next (s.begin.withEvr { s.begin.evr with ckRet := some s.begin.checkpointNow }) :=
  congrArg Host.Outcome.next (if_pos h)

theorem exec_checkpointFlash (h : s.recorderRuns = true) : exec .checkpointFlash s = .next s.begin.checkpointFlash :=
  congrArg Host.Outcome.next (if_pos h)

theorem defer_only (s : State) (d : Deferred) : s.Only [] [.thm] (s.defer d) := only_withThm (by simp) (only_refl _ _ s)

/-- Settles O43, command by command: the record and its links by `writeRec_sends`, the mirror record by record, the confirmation through the commit of EVR. -/
theorem eventRecorder : Obligations.EventRecorder := by
  refine ⟨fun s k q h => ?_, fun s h => exec_trackerClose_none h, fun s r rest h hr hd => ?_, fun s h => exec_recordWrite_none h,
    fun s ok hen hw hr => ⟨fun hf => ?_, fun hf => ?_, fun hf => ?_⟩, fun s ok h => exec_mirror_none ok h, fun s hr => ⟨?_, fun hf => ?_, fun hf => ?_⟩,
    fun s hr => ?_, fun s m hm hw hb _ ha hok => ?_, fun s m hm hw hb hg => ?_, fun s m v hm hw => ?_⟩
  · refine ⟨_, exec_trackerClose h, closeTracker_trackers _ _, fun h0 => ?_, fun h0 hq => ?_, within_trans (begin_within (by decide) s)
      (closeTracker_fits _ k (by decide) (fits_refl _ _)).within⟩
    · rw [closeTracker_quiet _ k h0]
      exact ⟨rfl, only_withEvr (by simp) (only_refl _ _ _)⟩
    · rw [closeTracker_room s.begin k h0 hq]
      exact ⟨rfl, only_withEvr (by simp) (only_withEvr (by simp) (only_refl _ _ _))⟩
  · intro seq att b
    have hb : recordOf s.begin r rest = b := recordOf_eq s.begin r rest
    have hbyte : ∀ x, (s.begin.writeRec r rest).byte x = if ringAddr seq ≤ x ∧ x < ringAddr seq + 32 then b.getD (x - ringAddr seq) 0 else s.byte x := fun x => by
      rw [byte_mem (writeRec_mem s.begin rest), inPlace_byte s.begin rest hd, hb]
      rfl
    refine ⟨_, exec_recordWrite h hr, writeRec_head s.begin rest, writeRec_waiting s.begin rest, fun i hi => ?_, fun a ha => ?_,
      fun hc => writeRec_gap s.begin rest hc, fun l hl hact hen hlev hroom => ?_, fun hq => ?_, ?_⟩
    · rw [hbyte, if_pos (by omega), Nat.add_sub_cancel_left]
    · rw [hbyte, if_neg (by omega)]
    · rw [← hb]
      refine writeRec_event s.begin rest hl ?_ hroom
      show (decide (s.g F.EVR_CTRL_BC_MIN ≤ r.eff) && s.active l && s.on (F.LNK_CTRL_EVT_EN l)) = true
      rw [hact, hen, decide_eq_true hlev]
      rfl
    · rw [writeRec_idle s.begin rest hq]
      obtain ⟨w, hw⟩ := inPlace_evr (r := r) s.begin rest
      have hsmall : s.begin.Within (Foot.of [0x70, 0x71] [.mem, .evr]) (inPlace s.begin rest r) := (inPlace_small (r := r) s.begin rest).within
      have hA := within_lnkA hsmall rfl (by decide)
      have hB := within_lnkB hsmall rfl (by decide)
      exact ⟨by rw [hw]; rfl, by rw [hw]; rfl, hA, hB⟩
    · exact within_trans (begin_within (by decide) s) (within_mono (by decide) (writeRec_small s.begin rest).within)
  · refine ⟨_, (exec_mirror true hen hw hr).trans (congrArg _ (mirrorWrite_page (s := s.begin) hf)), mirrorPage_evr _ 8, fun q hq => mirrorPage_one s.begin hq,
      fun a ha => mirrorPage_byte _ 8 ha, mirrorPage_only _ 8⟩
  · obtain ⟨h1, h2, h3, h4, h5⟩ := mirrorFail_leaves s.begin
    exact ⟨_, (exec_mirror false hen hw hr).trans (congrArg _ (mirrorWrite_fail (s := s.begin) hf)), h1, h2, h3, h4,
      within_trans (begin_within (by decide) s) h5.within⟩
  · exact ⟨_, (exec_mirror ok hen hw hr).trans (congrArg _ (mirrorWrite_defer (s := s.begin) ok hf)), List.contains_iff_mem.2 (defer_mem _ _), defer_only _ _⟩
  · exact ⟨_, exec_checkpoint hr, rfl, only_withEvr (by simp) (only_refl _ _ _)⟩
  · exact ⟨_, (exec_checkpointFlash hr).trans (congrArg _ (if_pos hf)), rfl, only_withEvr (by simp) (only_refl _ _ _)⟩
  · have hn : ¬ s.begin.on F.THM_STAT_FLASH_OK = true := by simp [hf]
    exact ⟨_, (exec_checkpointFlash hr).trans (congrArg _ (if_neg hn)), List.contains_iff_mem.2 (defer_mem _ _), defer_only _ _⟩
  · exact ⟨congrArg Host.Outcome.next (if_neg (by simp [show s.begin.recorderRuns = false from hr])),
      congrArg Host.Outcome.next (if_neg (by simp [show s.begin.recorderRuns = false from hr]))⟩
  · intro ms sum
    have hbad : badPages s.begin 0x71 = [] := (badPages_evr _).trans (if_pos ((attestOk_begin s).trans hok))
    obtain ⟨c, hc⟩ := acceptAll_evr s.begin
    have hexec : exec (.attestCommit m) s = .next ((accepted s.begin 0x71 c).apply 0x71).attest := by
      rw [exec_attestCommit hm hw, go_accepted s.begin hb (by rw [commitPages_evr]; exact List.cons_ne_nil _ _) hbad, commitPages_evr, hc, evr_lands]
    exact ⟨_, hexec, attest_leaves s.begin c ha (attestMs_begin s) rfl⟩
  · have hnot : s.begin.attestOk (s.begin.candidate [0x71]) = false := by
      unfold State.attestOk
      rw [show s.begin.evr = s.evr from rfl, hg]
    have hbad : badPages s.begin 0x71 = [0x71] := (badPages_evr _).trans (if_neg (by simp [hnot]))
    have hexec : exec (.attestCommit m) s = .next (((s.begin.evt F.EVR_EVT_ATT_REJ).rejectPage 0x71).rejectPage 0x71) := by
      rw [exec_attestCommit hm hw, go_rejected s.begin hb (by rw [commitPages_evr]; exact List.cons_ne_nil _ _) (by rw [hbad]; exact List.cons_ne_nil _ _), hbad,
        reject_evr]
    exact ⟨_, hexec, rejected_leaves s.begin⟩
  · intro a
    exact ⟨_, exec_recordRead hm hw, recordRead_leaves s.begin v⟩


end Sys2Proof.Proofs.RecorderRuns
end

section
/-! PROOF. Commits and discards of every page (CommitsAndDiscard). -/

namespace Sys2Proof.Proofs.PageCommits

open Sys2Proof.Machine Sys2Proof.Laws Sys2Proof.Proofs.Architecture Sys2Proof.Proofs.RegisterMap Sys2Proof.Proofs.Reading
  Sys2Proof.Proofs.GovernorSums Sys2Proof.Proofs.Commits Sys2Proof.Proofs.QuartzRoot Sys2Proof.Proofs.LampLanes Sys2Proof.Proofs.FlintLockOut Sys2Proof.Proofs.SafetyIns

variable {s t u : State} {f x : Fld} {p q a : Nat}

/-! ### Bits that a commit takes -/

/-- Changes of fields that no commit takes leave the committed bits of every register. -/
theorem only_rwc {fs : List Fld} {ps : List Part} (hu : ∀ x ∈ fs, uncommitted x = true) (h : s.Only fs ps t) (a : Nat) :
    t.word a &&& accMask .rwc a = s.word a &&& accMask .rwc a := by
  ext i hi
  rw [BitVec.getElem_and, BitVec.getElem_and]
  cases hm : (accMask .rwc a)[i] with
  | false => simp
  | true =>
    have haddr : (⟨a / 4096, a % 4096, i, i⟩ : Fld).addr = a := by
      simp only [Fld.addr]
      omega
    have hap : ∀ x ∈ fs, x.apart ⟨a / 4096, a % 4096, i, i⟩ = true := by
      intro x hx
      by_contra hn
      simp only [Fld.apart, haddr, Bool.or_eq_true, decide_eq_true_eq, not_or, not_not, not_lt] at hn
      obtain ⟨⟨hxa, hlo⟩, hhi⟩ := hn
      obtain ⟨hh, hmask⟩ : x.hi < 32 ∧ accMask .rwc x.addr &&& fieldMask x.hi x.lo = 0 := by simpa [uncommitted] using hu x hx
      have hb := congrArg (fun b : Word => b.getLsbD i) hmask
      have hf : (fieldMask x.hi x.lo).getLsbD i = true := by
        rw [fieldMask_bit _ _ _ hh]
        simp
        omega
      have hm' : (accMask .rwc a).getLsbD i = true := by simpa [BitVec.getLsbD_eq_getElem hi] using hm
      rw [hxa] at hb
      simp [BitVec.getLsbD_and, hf, hm'] at hb
    have hbit := congrArg (fun n : Nat => n.testBit 0) (h.fields _ hap)
    have hone : i + 1 - i = 1 := by omega
    simp only [State.g, haddr, wordField_bit, hone, Nat.add_zero, BitVec.getLsbD_eq_getElem hi] at hbit
    simpa using hbit

/-! ### The header's marks -/

/-- A mark of a page's header that no commit takes and no record writes. -/
structure HeadMark (f : Fld) : Prop where
  low : f.off % 4096 < 0x38
  free : uncommitted f = true
  event : ∀ q, sep (F.UNIT_IRQ_STAT_EVT q) f = true
  rests : clear recordFields f = true

theorem commitMarks_uncommitted (hp : p < 0x8D) : ∀ x ∈ commitMarks p, uncommitted x = true := by
  have h : (List.range 0x8D).all (fun p => (commitMarks p).all uncommitted) = true := by decide +kernel
  rw [List.all_eq_true] at h
  exact List.all_eq_true.1 (h p (List.mem_range.2 hp))

theorem clear_of_sep (h : ∀ x ∈ recordFields, sep x f = true) : clear recordFields f = true := List.all_eq_true.2 (fun x hx => sep_apart (h x hx))

/-- The marks of a commit are such marks. -/
theorem headMark_of (hp : p < 0x8D) (h : f ∈ commitMarks p) : HeadMark f := by
  have hu := commitMarks_uncommitted hp f h
  simp only [commitMarks, List.mem_cons, List.not_mem_nil, or_false] at h
  rcases h with rfl | rfl | rfl
  · exact ⟨by simp [F.UNIT_COMMIT_COUNT], hu, fun q => by simp [sep, F.UNIT_COMMIT_COUNT, F.UNIT_IRQ_STAT_EVT], clear_of_sep (by simp [recordFields, sep, F.EVR_CNT_DROP, F.FLT_ALARM_EVR_DROP, F.EVR_EVT_DROP, F.UNIT_IRQ_STAT_EVT, F.UNIT_COMMIT_COUNT])⟩
  · exact ⟨by simp [F.UNIT_STATUS_COMMIT_ERR], hu, fun q => by simp [sep, F.UNIT_STATUS_COMMIT_ERR, F.UNIT_IRQ_STAT_EVT],
      clear_of_sep (by simp [recordFields, sep, F.EVR_CNT_DROP, F.FLT_ALARM_EVR_DROP, F.EVR_EVT_DROP, F.UNIT_IRQ_STAT_EVT, F.UNIT_STATUS_COMMIT_ERR])⟩
  · exact ⟨by simp [F.UNIT_IRQ_STAT_COMMIT], hu, fun q => by simp [sep, F.UNIT_IRQ_STAT_COMMIT, F.UNIT_IRQ_STAT_EVT],
      clear_of_sep (by simp [recordFields, sep, F.EVR_CNT_DROP, F.FLT_ALARM_EVR_DROP, F.EVR_EVT_DROP, F.UNIT_IRQ_STAT_EVT, F.UNIT_IRQ_STAT_COMMIT])⟩

/-- A field past the header. -/
def pastHead (x : Fld) : Bool := decide (x.hi < 32) && decide (0x40 ≤ x.off % 4096)

theorem fltSev_past {i : Nat} (hi : i < 75) : pastHead (fltSev i) = true := by
  have h1 : (fltSev i).hi = 2 * (i % 16) + 1 := rfl
  have h2 : (fltSev i).off = 0x78 + 4 * (i / 16) := rfl
  rw [pastHead, h1, h2, Bool.and_eq_true, decide_eq_true_eq, decide_eq_true_eq]
  omega

section
variable (hf : HeadMark f)

include hf

theorem head_sep (h : pastHead x = true) : sep x f = true := by
  have := hf.low
  simp only [pastHead, Bool.and_eq_true, decide_eq_true_eq] at h
  simp only [sep, Bool.and_eq_true, Bool.or_eq_true, decide_eq_true_eq, Bool.not_eq_true', beq_eq_false_iff_ne, ne_eq]
  exact ⟨h.1, by omega⟩

theorem head_put (s : State) (v : Nat) (h : pastHead x = true) : (s.put x v).g f = s.g f := g_put_sep s v (head_sep hf h)

theorem head_incSat (s : State) (h : pastHead x = true) : (s.incSat x).g f = s.g f := g_incSat_sep s (head_sep hf h)

theorem head_evt (s : State) (h : pastHead x = true) : (s.evt x).g f = s.g f := g_evt_sep s (head_sep hf h) (hf.event _)

theorem head_apply (s : State) (p : Nat) : (s.apply p).g f = s.g f := apply_g s p hf.free

/-! ### What a landing page leaves -/

theorem head_sscApply (s : State) : s.sscApply.g f = s.g f := by
  unfold State.sscApply
  exact ite_g (fun _ => (withQuartz_g ..).trans ((head_put hf _ _ rfl).trans (head_apply hf s 1))) (fun _ => rfl)

theorem head_landCmp (s : State) : s.landCmp.g f = s.g f :=
  (withCmp_g ..).trans ((head_put hf _ _ rfl).trans (head_apply hf s 0x18))

theorem head_landLayer (s : State) (held : List Nat) (n : Nat) : (s.landLayer held n).g f = s.g f := by
  unfold State.landLayer
  have hc : ∀ (u : State) v, (u.put (F.LAY_COMMIT_FRAME_FRAME n) v).g f = u.g f := fun u v => head_put hf u v rfl
  have hw : ∀ (u : State) v, (u.put (F.LAY_STAT_FENCE_WAIT n) v).g f = u.g f := fun u v => head_put hf u v rfl
  have hd : ∀ (u : State) v, (u.put (F.LAY_STAT_DATA_WAIT n) v).g f = u.g f := fun u v => head_put hf u v rfl
  refine ite_g (fun _ => ite_g (fun _ => ?_) (fun _ => ?_)) (fun _ => rfl)
  · rw [head_evt hf _ rfl, head_incSat hf _ rfl, hd, hw]
    exact ite_g (fun _ => rfl) (fun _ => hc _ _)
  · rw [hd, hw, hc, head_apply hf]
    exact ite_g (fun _ => head_incSat hf _ rfl) (fun _ => rfl)

theorem head_glareCommits (s : State) : s.glareCommits.g f = s.g f := by
  have happ : ∀ (l : List Nat) (u : State), (l.foldl (fun s p => s.apply p) u).g f = u.g f := fun l u =>
    foldl_g (fun w p => head_apply hf w p) l u
  unfold State.glareCommits
  dsimp only
  refine ite_g (fun _ => happ _ _) (fun _ => ?_)
  have hbox : ∀ (u : State) (n : Nat), ((u.put (F.BE_STAT_BOX_ONLY n) 0).modEngine n (fun e => { e with boxDue := false })).g f = u.g f := fun u n =>
    (withGlare_g ..).trans (head_put hf u 0 rfl)
  exact (foldl_g hbox _ _).trans (happ _ _)

omit hf in
theorem head_calLoadCommit (s : State) (before : Nat) : (s.calLoadCommit before).g f = s.g f := by
  have hstart : ∀ (u : State) (n : Nat), (u.calStartNow n).g f = u.g f := fun u n => by
    unfold State.calStartNow
    exact ite_g (fun _ => withCal_g ..) (fun _ => withCal_g ..)
  exact foldl_g (fun u n => ite_g (fun _ => hstart u n) (fun _ => rfl)) _ s

theorem head_keepFatal (s : State) : s.keepFatal.g f = s.g f := by
  refine List.foldlRecOn (motive := fun u : State => u.g f = s.g f) (List.range 75) _ rfl (fun u hu i hi => ?_)
  have hput := head_put hf u 3 (fltSev_past (List.mem_range.1 hi))
  generalize hw : u.put (fltSev i) 3 = w at hput ⊢
  dsimp only
  split_ifs
  · exact ((setShadow_g _ _ _ _).trans (head_evt hf w rfl)).trans (hput.trans hu)
  · exact hu

theorem head_attest (s : State) : s.attest.g f = s.g f := by
  unfold State.attest
  refine ite_g (fun _ => rfl) (fun _ => ?_)
  exact (withEvr_g ..).trans ((head_evt hf _ rfl).trans ((event_g _ _ _ hf.rests).trans
    ((head_put hf _ _ rfl).trans (head_put hf _ _ rfl))))

end


/-! ### A commit of SAF -/

/-- What outputs and the safety state write. -/
def outFields : List Fld := F.SAF_STAT_FSTATE :: (List.range 2).map F.SAF_SOUT_STAT_STATE ++ (List.range 8).map F.TL_STAT_STATE

/-- The fields that a commit of SAF writes beside its page's own bits. -/
def safFields : List Fld :=
  (List.range 4).map F.SAF_SIN_STAT_STATE ++ (List.range 4).map F.SAF_SIN_STAT_A ++ (List.range 4).map F.SAF_SIN_STAT_B ++ outFields

/-- The parts that it writes. -/
def safParts : List Part := [.saf, .flt, .lanes]

theorem sin_mem {n : Nat} (hn : n < 4) : F.SAF_SIN_STAT_STATE n ∈ safFields := (by decide : ∀ n < 4, F.SAF_SIN_STAT_STATE n ∈ safFields) n hn
theorem chan_mem {n : Nat} (c : Nat) (hn : n < 4) : levelField n c ∈ safFields := by
  unfold levelField
  split_ifs
  · exact (by decide : ∀ n < 4, F.SAF_SIN_STAT_A n ∈ safFields) n hn
  · exact (by decide : ∀ n < 4, F.SAF_SIN_STAT_B n ∈ safFields) n hn
theorem sout_mem {k : Nat} (hk : k < 2) : F.SAF_SOUT_STAT_STATE k ∈ outFields := (by decide : ∀ k < 2, F.SAF_SOUT_STAT_STATE k ∈ outFields) k hk
theorem lane_mem {n : Nat} (hn : n < 8) : F.TL_STAT_STATE n ∈ outFields := (by decide : ∀ n < 8, F.TL_STAT_STATE n ∈ outFields) n hn
theorem fstate_mem : F.SAF_STAT_FSTATE ∈ outFields := List.mem_cons_self

theorem only_foldl {α : Type} {s0 : State} {fs : List Fld} {ps : List Part} (l : List α) (h : State → α → State)
    (hs : ∀ x ∈ l, ∀ u, s0.Only fs ps u → s0.Only fs ps (h u x)) (h0 : s0.Only fs ps s) : s0.Only fs ps (l.foldl h s) :=
  List.foldlRecOn (motive := fun u : State => s0.Only fs ps u) l h h0 (fun u hu x hx => hs x hx u hu)

section
variable {s0 : State}

theorem only_clearTests {n : Nat} (hn : n < 4) (h : s0.Only safFields safParts s) : s0.Only safFields safParts (s.clearTests n) :=
  only_modChanS 1 _ (chan_mem 1 hn) (by simp [safParts]) (only_modChanS 0 _ (chan_mem 0 hn) (by simp [safParts]) h)

/-- An input starts anew. -/
def inputAnew (s : State) (n : Nat) : State :=
  ((s.put (F.SAF_SIN_STAT_STATE n) (s.g (F.SAF_SIN_CFG_USED n))).clearTests n).setHealthyFor n false |>.condEnd S.SAF_SIN_FAULT n

theorem sinInit_eq (s : State) : s.sinInit = (List.range 4).foldl inputAnew s := rfl

theorem only_inputAnew {n : Nat} (hn : n < 4) (h : s0.Only safFields safParts s) : s0.Only safFields safParts (inputAnew s n) :=
  only_withFlt (by simp [safParts]) (only_withSaf (by simp [safParts]) (only_clearTests hn (only_put _ (sin_mem hn) (by simp [F.SAF_SIN_STAT_STATE]) h)))

theorem only_sinInit (h : s0.Only safFields safParts s) : s0.Only safFields safParts s.sinInit := by
  rw [sinInit_eq]
  exact only_foldl _ _ (fun n hn u hu => only_inputAnew (List.mem_range.1 hn) hu) h

/-- An output's state follows its use. -/
def outputUsed (s : State) (k : Nat) : State :=
  if s.on (F.SAF_SOUT_CFG_USED k) then (if s.g (F.SAF_SOUT_STAT_STATE k) = 0 then s.put (F.SAF_SOUT_STAT_STATE k) 1 else s)
  else s.put (F.SAF_SOUT_STAT_STATE k) 0

/-- The safety state leaves INIT. -/
def stateSet (s : State) : State :=
  if s.g F.SAF_STAT_FSTATE = 0 then s.put F.SAF_STAT_FSTATE (if s.on F.SAF_STAT_LOCKED then 4 else 1) else s

theorem safCommit_eq (s : State) : s.safCommit = (stateSet ((List.range 2).foldl outputUsed s.sinInit)).soutsTry.settle := rfl

section
variable {fs : List Fld} (hfs : outFields ⊆ fs)

include hfs

theorem only_outputUsed {k : Nat} (hk : k < 2) (h : s0.Only fs safParts s) : s0.Only fs safParts (outputUsed s k) := by
  have hput : ∀ v, s0.Only fs safParts (s.put (F.SAF_SOUT_STAT_STATE k) v) := fun v => only_put _ (hfs (sout_mem hk)) (by simp [F.SAF_SOUT_STAT_STATE]) h
  exact only_ite (fun _ => only_ite (fun _ => hput 1) (fun _ => h)) (fun _ => hput 0)

theorem only_stateSet (h : s0.Only fs safParts s) : s0.Only fs safParts (stateSet s) :=
  only_ite (fun _ => only_put _ (hfs fstate_mem) (by decide) h) (fun _ => h)

theorem only_soutLow {k : Nat} (hk : k < 2) (h : s0.Only fs safParts s) : s0.Only fs safParts (s.soutLow k) := by
  unfold State.soutLow
  extract_lets w0 v w
  have hv : s0.Only fs safParts v := only_withSaf (by simp [safParts]) h
  have hw : s0.Only fs safParts w := only_ite (fun _ => only_put _ (hfs (sout_mem hk)) (by simp [F.SAF_SOUT_STAT_STATE]) hv) (fun _ => hv)
  exact only_foldl _ _ (fun n hn u hu => only_ite (fun _ => only_modLane (by simp [safParts]) (only_put _ (hfs (lane_mem (List.mem_range.1 hn)))
    (state_hi n) hu)) (fun _ => hu)) hw

theorem only_soutTry {k : Nat} (hk : k < 2) (h : s0.Only fs safParts s) : s0.Only fs safParts (s.soutTry k) := by
  unfold State.soutTry
  extract_lets
  exact only_ite (fun _ => only_withSaf (by simp [safParts]) (only_put _ (hfs (sout_mem hk)) (by simp [F.SAF_SOUT_STAT_STATE]) h))
    (fun _ => only_ite (fun _ => only_soutLow hfs hk h) (fun _ => h))

theorem only_safTail (h : s0.Only fs safParts s) : s0.Only fs safParts (stateSet ((List.range 2).foldl outputUsed s)).soutsTry.settle :=
  only_settle (hfs fstate_mem) (only_soutTry hfs (by decide) (only_soutTry hfs (by decide) (only_stateSet hfs
    (only_foldl _ _ (fun k hk u hu => only_outputUsed hfs (List.mem_range.1 hk) hu) h))))

end

theorem only_safCommit (h : s0.Only safFields safParts s) : s0.Only safFields safParts s.safCommit := by
  rw [safCommit_eq]
  exact only_safTail (List.subset_append_right _ _) (only_sinInit h)

end

theorem safFields_uncommitted : ∀ x ∈ safFields, uncommitted x = true := by decide +kernel

theorem head_safCommit (hf : HeadMark f) (s : State) : s.safCommit.g f = s.g f := by
  have h : ∀ x ∈ safFields, pastHead x = true := by decide
  exact (only_safCommit (only_refl _ _ s)).fields f (fun x hx => sep_apart (head_sep hf (h x hx)))


/-! ### Pages that land -/

/-- A page that lands leaves the header's marks. -/
theorem head_landStopped (hf : HeadMark f) (s : State) (p : Nat) : (s.landStopped p).g f = s.g f := by
  unfold State.landStopped
  split_ifs
  · rfl
  · exact head_sscApply hf s
  · exact head_landCmp hf s
  · exact (head_put hf _ _ rfl).trans (head_apply hf s 0x60)
  · exact (withCmp_g ..).trans (head_landLayer hf s [] _)
  · exact head_glareCommits hf s
  · exact head_apply hf s p

theorem head_landNow (hf : HeadMark f) (s : State) (p : Nat) : (s.landNow p).g f = s.g f := by
  unfold State.landNow
  refine ite_g (fun _ => ?_) (fun _ => rfl)
  split
  · exact (head_calLoadCommit _ _).trans (head_apply hf s 0x48)
  · exact (head_safCommit hf _).trans (head_apply hf s 0x68)
  · exact (head_keepFatal hf _).trans (head_apply hf s 0x70)
  · exact (head_attest hf _).trans (head_apply hf s 0x71)
  · exact ite_g (fun _ => head_landStopped hf s p) (fun _ => head_apply hf s p)

theorem head_landAll (hf : HeadMark f) (l : List Nat) (s : State) : (l.foldl (fun s q => s.landNow q) s).g f = s.g f := foldl_g (fun u q => head_landNow hf u q) l s

/-! ### A list of pages accepted -/

/-- The pages of a commit accepted. -/
def acceptedAll (s : State) (l : List Nat) : State := l.foldl (fun s q => s.acceptPage q) s

/-- Every page of the commit accepted, with the count of the page that asked. -/
def counted (s : State) (p : Nat) (l : List Nat) : State := if l.contains p then acceptedAll s l else countCommit (acceptedAll s l) p

theorem acceptAll_eq (s : State) (p : Nat) (l : List Nat) : ∃ c, s.acceptAll p l = l.foldl (fun s q => s.landNow q) ((counted s p l).withCmp c) := ⟨_, rfl⟩

theorem only_acceptPage {s0 : State} {fs : List Fld} (hm : commitMarks p ⊆ fs) (h : s0.Only fs [.pend, .pendPages] s) :
    s0.Only fs [.pend, .pendPages] (s.acceptPage p) := by
  rw [acceptPage_eq]
  exact only_countCommit hm (only_withPendPages (by simp) (only_withPend (by simp) h))

theorem acceptPage_other (s : State) (hq : q ≠ p) (h : f ∈ commitMarks p) : (s.acceptPage q).g f = s.g f := by
  have hsep : ∀ x ∈ commitMarks q, sep x f = true := by
    simp only [commitMarks, List.mem_cons, List.not_mem_nil, or_false] at h ⊢
    rcases h with rfl | rfl | rfl <;> rintro x (rfl | rfl | rfl) <;>
      simp [sep, hq, F.UNIT_COMMIT_COUNT, F.UNIT_STATUS_COMMIT_ERR, F.UNIT_IRQ_STAT_COMMIT]
  rw [acceptPage_eq, countCommit, g_put_sep _ _ (hsep _ (by simp [commitMarks])), g_put_sep _ _ (hsep _ (by simp [commitMarks])), State.inc,
    g_put_sep _ _ (hsep _ (by simp [commitMarks])), withPendPages_g, withPend_g]

theorem acceptedAll_other (l : List Nat) (s : State) (hp : p ∉ l) (h : f ∈ commitMarks p) : (acceptedAll s l).g f = s.g f := by
  induction l generalizing s with
  | nil => rfl
  | cons q l ih =>
    exact (ih _ (fun hm => hp (List.mem_cons_of_mem _ hm))).trans (acceptPage_other s (fun hqp => hp (hqp ▸ List.mem_cons_self)) h)

/-- A page's commit counted. -/
structure Counted (s t : State) (p : Nat) : Prop where
  count : t.g (F.UNIT_COMMIT_COUNT p) = (s.g (F.UNIT_COMMIT_COUNT p) + 1) % 2 ^ 16
  clean : t.on (F.UNIT_STATUS_COMMIT_ERR p) = false
  told : t.on (F.UNIT_IRQ_STAT_COMMIT p) = true

theorem counted_of (s : State) (p : Nat) : Counted s (countCommit s p) p := by
  obtain ⟨h1, h2, h3⟩ := countCommit_leaves s p
  exact ⟨h1, h2, h3⟩

theorem counted_before (hs : Counted s t p) (h : ∀ f ∈ commitMarks p, s.g f = u.g f) : Counted u t p :=
  ⟨hs.count.trans (by rw [h _ (by simp [commitMarks])]), hs.clean, hs.told⟩

theorem counted_after (hs : Counted s t p) (h : ∀ f ∈ commitMarks p, u.g f = t.g f) : Counted s u p :=
  ⟨(h _ (by simp [commitMarks])).trans hs.count, (on_congr (h _ (by simp [commitMarks]))).trans hs.clean, (on_congr (h _ (by simp [commitMarks]))).trans hs.told⟩

theorem acceptPage_counted (s : State) (p : Nat) : Counted s (s.acceptPage p) p := by
  rw [acceptPage_eq]
  exact counted_before (counted_of _ p) (fun f _ => (withPendPages_g ..).trans (withPend_g ..))

theorem acceptedAll_counted (l : List Nat) (s : State) (hn : l.Nodup) (hp : p ∈ l) : Counted s (acceptedAll s l) p := by
  induction l generalizing s with
  | nil => simp at hp
  | cons q l ih =>
    obtain ⟨hq, hn'⟩ := List.nodup_cons.1 hn
    by_cases hqp : q = p
    · subst hqp
      exact counted_after (acceptPage_counted s q) (fun f hf => acceptedAll_other l _ hq hf)
    · refine counted_before (ih (s.acceptPage q) hn' ?_) (fun f hf => acceptPage_other s hqp hf)
      simpa [Ne.symm hqp] using hp

theorem counted_counted (s : State) (p : Nat) {l : List Nat} (hn : l.Nodup) : Counted s (counted s p l) p := by
  unfold counted
  split_ifs with h
  · exact acceptedAll_counted l s hn (by simpa using h)
  · exact counted_before (counted_of _ p) (fun f hf => acceptedAll_other l s (by simpa using h) hf)

/-- An accepted GO counts. -/
theorem acceptAll_counted (s : State) {l : List Nat} (hp : p < 0x8D) (hn : l.Nodup) : Counted s (s.acceptAll p l) p := by
  obtain ⟨c, hc⟩ := acceptAll_eq s p l
  rw [hc]
  exact counted_after (counted_counted s p hn) (fun f hf => (head_landAll (headMark_of hp hf) l _).trans (withCmp_g ..))

theorem commitPages_nodup (p : Nat) : (commitPages p).Nodup := by
  refine List.Nodup.filter _ ?_
  unfold unitPages childPages
  split
  · decide
  · decide
  · decide
  · decide
  · exact List.nodup_singleton p


/-! ### Checks -/

theorem candidate_begin (s : State) (l : List Nat) : s.begin.candidate l = (s.candidate l).begin := by
  rw [State.candidate, State.candidate, afterPending_begin]
  exact List.foldl_hom State.begin (fun t p => land_begin t s.shadow p)

theorem pageBad_begin (s t : State) (p : Nat) : s.begin.pageBad t.begin p = s.pageBad t p := rfl

theorem badPages_begin (s : State) (p : Nat) : badPages s.begin p = badPages s p := by
  rw [badPages, badPages, candidate_begin]
  exact List.filter_congr (fun q _ => pageBad_begin s _ q)

/-! ### Pages whose commits are in force at once -/

theorem applied_rwc (s : State) (c : Cmp) (hp : a / 4096 = p) :
    ((accepted s p c).apply p).word a &&& accMask .rwc a = s.shadowWord a &&& accMask .rwc a := by
  have hw : ((accepted s p c).apply p).word a = ((accepted s p c).land (accepted s p c).pend p).word a := by rw [apply_accepted, withPendPages_word, withPend_word]
  rw [hw, land_word _ _ hp, accepted_pend, tabGet_replacePage _ _ hp]
  exact merge_and_mask _ _ _

/-! ### Pages that wait -/

/-- A page replaced in a bank leaves the others. -/
theorem tabGet_replacePage_other (l m : List (Nat × Word)) (hq : a / 4096 ≠ q) : tabGet resetWord (replacePage l m q) a = tabGet resetWord l a := by
  have honly : a ∉ (onlyPage m q).map (fun e => e.1) := by
    simp only [onlyPage, List.mem_map, List.mem_filter, decide_eq_true_eq, not_exists, not_and, and_imp, Prod.forall]
    rintro b v - hb rfl
    exact hq hb
  rw [replacePage, List.append_assoc, tabGet_append, tabGet_append, if_neg honly]
  rcases Nat.lt_or_gt_of_ne hq with hlt | hgt
  · have hhigh : a ∉ (l.filter (fun e => q < e.1 / 4096)).map (fun e => e.1) := by
      simp only [List.mem_map, List.mem_filter, decide_eq_true_eq, not_exists, not_and, and_imp, Prod.forall]
      rintro b v - hb rfl
      omega
    have hlow : tabGet resetWord (l.filter (fun e => e.1 / 4096 < q)) a = tabGet resetWord l a := tabGet_filter_keep _ _ _ _ (fun v => by simp [hlt])
    split_ifs with h
    · exact hlow
    · rw [tabGet_unlisted hhigh, ← hlow, tabGet_unlisted h]
  · have hlow : a ∉ (l.filter (fun e => e.1 / 4096 < q)).map (fun e => e.1) := by
      simp only [List.mem_map, List.mem_filter, decide_eq_true_eq, not_exists, not_and, and_imp, Prod.forall]
      rintro b v - hb rfl
      omega
    rw [if_neg hlow]
    exact tabGet_filter_keep _ _ _ _ (fun v => by simpa using hgt)

theorem acceptPage_pend (s : State) (q : Nat) : (s.acceptPage q).pend = replacePage s.pend s.shadow q :=
  (congrArg State.pend (acceptPage_eq s q)).trans (countCommit_pend ..)

theorem acceptPage_pendPages (s : State) (q : Nat) : (s.acceptPage q).pendPages = q :: s.pendPages.filter (· ≠ q) :=
  (congrArg State.pendPages (acceptPage_eq s q)).trans (countCommit_pendPages ..)

theorem acceptPage_only (s : State) (q : Nat) : s.Only (commitMarks q) [.pend, .pendPages] (s.acceptPage q) :=
  only_acceptPage (fun _ hx => hx) (only_refl _ _ s)

/-- A page of the commit pends with what the shadow bank had. -/
theorem acceptedAll_pend (l : List Nat) (s : State) (hp : a / 4096 ∈ l) : tabGet resetWord (acceptedAll s l).pend a = tabGet resetWord s.shadow a := by
  have hall : ∀ (l : List Nat) (u : State), tabGet resetWord u.pend a = tabGet resetWord u.shadow a →
      tabGet resetWord (acceptedAll u l).pend a = tabGet resetWord u.shadow a := fun l => by
    induction l with
    | nil => exact fun u hu => hu
    | cons q l ih =>
      intro u hu
      have hsh : (u.acceptPage q).shadow = u.shadow := (acceptPage_only u q).parts.shadow (by decide)
      refine (ih (u.acceptPage q) ?_).trans (by rw [hsh])
      rw [acceptPage_pend, hsh]
      by_cases hq : a / 4096 = q
      · exact tabGet_replacePage _ _ hq
      · exact (tabGet_replacePage_other _ _ hq).trans hu
  induction l generalizing s with
  | nil => simp at hp
  | cons q l ih =>
    have hsh : (s.acceptPage q).shadow = s.shadow := (acceptPage_only s q).parts.shadow (by decide)
    by_cases hq : a / 4096 = q
    · refine (hall l (s.acceptPage q) ?_).trans (by rw [hsh])
      rw [acceptPage_pend, hsh]
      exact tabGet_replacePage _ _ hq
    · refine (ih (s.acceptPage q) ?_).trans (by rw [hsh])
      simpa [hq] using hp

theorem acceptedAll_pends (l : List Nat) (s : State) (hp : p ∈ l) : p ∈ (acceptedAll s l).pendPages := by
  have hstep : ∀ (u : State) q, p = q ∨ p ∈ u.pendPages → p ∈ (u.acceptPage q).pendPages := fun u q h => by
    rw [acceptPage_pendPages]
    by_cases hq : p = q
    · simp [hq]
    · simpa [hq] using h
  have hall : ∀ (l : List Nat) (u : State), p ∈ u.pendPages → p ∈ (acceptedAll u l).pendPages := fun l => by
    induction l with
    | nil => exact fun u hu => hu
    | cons q l ih => exact fun u hu => ih _ (hstep u q (.inr hu))
  induction l generalizing s with
  | nil => simp at hp
  | cons q l ih =>
    rcases List.mem_cons.1 hp with rfl | hp
    · exact hall l _ (hstep s p (.inl rfl))
    · exact ih _ hp

theorem acceptedAll_only (l : List Nat) (s : State) : s.Only (l.flatMap commitMarks) [.pend, .pendPages] (acceptedAll s l) :=
  only_foldl l _ (fun q hq _ hu => only_acceptPage (fun _ hx => List.mem_flatMap.2 ⟨q, hq, hx⟩) hu) (only_refl _ _ s)

/-- The pages that take a commit at once while the frame timer runs. -/
def promptPage (p : Nat) : Bool := [0x04, 0x0B, 0x10, 0x48, 0x49, 0x68, 0x70, 0x71].contains p || (decide (0x88 ≤ p) && decide (p ≤ 0x8C))

theorem atOnce_eq (s : State) (p : Nat) : s.atOnce p = (!s.tln.running || promptPage p) := Bool.or_assoc _ _ _

theorem waits_together (hp : p < 0x8D) (hw : promptPage p = false) (hq : q ∈ commitPages p) : promptPage q = false ∧ q < 0x8D := by
  have h : (List.range 0x8D).all (fun p => promptPage p || (commitPages p).all (fun q => !promptPage q && decide (q < 0x8D))) = true := by decide +kernel
  have hp' := List.all_eq_true.1 h p (List.mem_range.2 hp)
  rw [hw, Bool.false_or, List.all_eq_true] at hp'
  have hq' := hp' q hq
  simp only [Bool.and_eq_true, Bool.not_eq_true', decide_eq_true_eq] at hq'
  exact hq'

theorem landNow_waits (s : State) (h : s.atOnce p = false) : s.landNow p = s := if_neg (by simp [h])

/-- A commit that waits for a point of the frame. -/
theorem acceptAll_waits (s : State) (hp : p < 0x8D) (hw : s.atOnce p = false) (hm : p ∈ commitPages p) :
    (s.acceptAll p (commitPages p)).pendPages.contains p = true
      ∧ ∀ a, a / 4096 = p → tabGet resetWord (s.acceptAll p (commitPages p)).pend a = s.shadowWord a
        ∧ (s.acceptAll p (commitPages p)).word a &&& accMask .rwc a = s.word a &&& accMask .rwc a := by
  rw [atOnce_eq, Bool.or_eq_false_iff] at hw
  obtain ⟨hrun, hpr⟩ := hw
  obtain ⟨c, hc⟩ := acceptAll_eq s p (commitPages p)
  have hcount : counted s p (commitPages p) = acceptedAll s (commitPages p) := if_pos (by simpa using hm)
  have honly := only_withCmp (v := c) (ps := [.pend, .pendPages, .cmp]) (by simp) (only_mono (fun _ hx => hx) (by simp) (acceptedAll_only (commitPages p) s))
  have hland : ∀ l ⊆ commitPages p, l.foldl (fun s q => s.landNow q) ((acceptedAll s (commitPages p)).withCmp c) = (acceptedAll s (commitPages p)).withCmp c := by
    intro l hl
    refine List.foldlRecOn (motive := fun u : State => u = (acceptedAll s (commitPages p)).withCmp c) l _ rfl (fun u hu q hq => ?_)
    have hat : u.atOnce q = false := by
      rw [atOnce_eq, (waits_together hp hpr (hl hq)).1, hu, honly.parts.tln (by decide), hrun]
      rfl
    rw [landNow_waits u hat, hu]
  rw [hc, hcount, hland _ (fun _ hx => hx)]
  refine ⟨by simpa using acceptedAll_pends (commitPages p) s hm, fun a ha => ⟨?_, only_rwc ?_ honly a⟩⟩
  · exact acceptedAll_pend (commitPages p) s (by rw [ha]; exact hm)
  · intro x hx
    obtain ⟨q, hq, hxq⟩ := List.mem_flatMap.1 hx
    exact commitMarks_uncommitted (waits_together hp hpr hq).2 x hxq

/-! ### A rejected commit -/

/-- The fields that a rejected page writes. -/
def rejectFields (q : Nat) : List Fld := [F.UNIT_STATUS_COMMIT_ERR q, F.UNIT_IRQ_STAT_COMMIT q]

/-- The fields that a failed check writes. -/
def noteFields : List Fld :=
  [F.CLK_EVT_SSC_REJ, F.UNIT_IRQ_STAT_EVT 0x01, F.CMP_EVT_PERIOD_REJ, F.UNIT_IRQ_STAT_EVT 0x18, F.GLR_EVT_KSEL_REJ, F.UNIT_IRQ_STAT_EVT 0x30, F.TLN_EVT_CLONE_REJ,
    F.UNIT_IRQ_STAT_EVT 0x50, F.SEG_REJ_REASON, F.SAF_REJ_REASON, F.FLT_EVT_MODE_REJ, F.UNIT_IRQ_STAT_EVT 0x70, F.EVR_EVT_ATT_REJ, F.UNIT_IRQ_STAT_EVT 0x71]
    ++ (List.range 16).map F.LAY_REJ_REASON

theorem noteFields_uncommitted : ∀ x ∈ noteFields, uncommitted x = true := by decide +kernel

theorem only_noteBad {s0 : State} {fs : List Fld} {ps : List Part} (hm : noteFields ⊆ fs) (t : State) (h : s0.Only fs ps s) : s0.Only fs ps (s.noteBad t p) := by
  have hevt : ∀ x, x ∈ noteFields → F.UNIT_IRQ_STAT_EVT x.page ∈ noteFields → x.hi < 32 → s0.Only fs ps (s.evt x) := fun x h1 h2 h3 =>
    only_evt (hm h1) (hm h2) h3 h
  unfold State.noteBad
  split
  · exact hevt _ (by decide) (by decide) (by decide)
  · exact hevt _ (by decide) (by decide) (by decide)
  · exact only_ite (fun _ => hevt _ (by decide) (by decide) (by decide)) (fun _ => h)
  · exact only_ite (fun _ => hevt _ (by decide) (by decide) (by decide)) (fun _ => h)
  · exact only_put _ (hm (by decide)) (by decide) h
  · exact only_put _ (hm (by decide)) (by decide) h
  · exact only_ite (fun _ => hevt _ (by decide) (by decide) (by decide)) (fun _ => h)
  · exact hevt _ (by decide) (by decide) (by decide)
  · refine only_ite (fun hr => ?_) (fun _ => h)
    have hn : ∀ n < 16, F.LAY_REJ_REASON n ∈ noteFields ∧ (F.LAY_REJ_REASON n).hi < 32 := by decide
    obtain ⟨h1, h2⟩ := hn (p - 0x19) (by omega)
    exact only_put _ (hm h1) h2 h

/-- What a rejected commit may write. -/
def rejectedFields (p : Nat) (l : List Nat) : List Fld := noteFields ++ (p :: l).flatMap rejectFields

theorem only_rejectAll (s t : State) (p : Nat) (l : List Nat) : s.Only (rejectedFields p l) [] (s.rejectAll t p l) := by
  have hm : ∀ q ∈ p :: l, rejectFields q ⊆ rejectedFields p l := fun q hq x hx => List.mem_append_right _ (List.mem_flatMap.2 ⟨q, hq, hx⟩)
  have hrej : ∀ q ∈ p :: l, ∀ u, s.Only (rejectedFields p l) [] u → s.Only (rejectedFields p l) [] (u.rejectPage q) := fun q hq u hu =>
    only_rejectPage (hm q hq (by simp [rejectFields])) (hm q hq (by simp [rejectFields])) hu
  unfold State.rejectAll
  exact hrej p List.mem_cons_self _ (only_foldl l _ (fun q hq u hu => hrej q (List.mem_cons_of_mem _ hq) _
    (only_noteBad (fun x hx => List.mem_append_left _ hx) t hu)) (only_refl _ _ s))


/-! ### Discards -/

/-- A discard leaves the shadow bank of every other page. -/
theorem discardPage_other (s : State) (h : a / 4096 ≠ p) : (s.discardPage p).shadowWord a = s.shadowWord a := by
  rw [discardPage_eq_foldl]
  refine List.foldlRecOn (motive := fun u : State => u.shadowWord a = s.shadowWord a) _ _ rfl (fun u hu b hb => ?_)
  have hab : a ≠ b := fun he => h (he ▸ keys_page hb)
  exact (shadowWord_setShadow_other u _ hab).trans hu

/-- What a discard leaves. -/
theorem discard_leaves (s : State) (p : Nat) : s.begin.Only [] [.shadow] (s.begin.discardPage p)
    ∧ (∀ a, a / 4096 = p → (s.begin.discardPage p).shadowWord a &&& accMask .rwc a = s.afterPending.word a &&& accMask .rwc a)
    ∧ (∀ a, a / 4096 ≠ p → (s.begin.discardPage p).shadowWord a = s.shadowWord a) := by
  refine ⟨discardPage_only s.begin p, fun a ha => ?_, fun a ha => discardPage_other s.begin ha⟩
  have hagree : Agrees s.begin.afterPending (s.begin.discardPage p) a := discardPage_agrees s.begin ha
  rwa [Agrees, afterPending_begin, begin_word] at hagree

/-! ### The pages of Flint -/

theorem flintPage_write (hp : p = 0x40 ∨ p = 0x68) (v : Word) (hm : s.masterRuns .flint = true) :
    exec (.unitCommit .flint p v) s = .next (s.begin.commitWrite p v).settle := by
  have hw : s.begin.mayWrite .flint p 0x30 = true := by
    rcases hp with rfl | rfl <;> rfl
  have hlt : p < 0x8D ∧ assigned p = true := by rcases hp with rfl | rfl <;> decide
  have hpage : (s.begin.commitWrite p v).settle = s.begin.pageWrite .flint p 0x30 v := by
    rcases hp with rfl | rfl <;> rfl
  rw [hpage]
  exact congrArg Host.Outcome.next (masterWrite_page v ((begin_masterRuns s .flint).trans hm) hw hlt.1 hlt.2 (by decide) (by decide))


/-- An input that starts anew is INIT where it is used. -/
theorem inputAnew_state (s : State) {n : Nat} (hn : n < 4) : (inputAnew s n).g (F.SAF_SIN_STAT_STATE n) = s.g (F.SAF_SIN_CFG_USED n) := by
  have hsep : ∀ n < 4, ∀ c < 2, sep (levelField n c) (F.SAF_SIN_STAT_STATE n) = true := by decide
  have hle : s.g (F.SAF_SIN_CFG_USED n) < 2 := Nat.lt_succ_of_le (g_le_top s _)
  refine (withFlt_g ..).trans ((withSaf_g ..).trans ((modChanS_g _ n 1 _ (hsep n hn 1 (by decide))).trans ((modChanS_g _ n 0 _ (hsep n hn 0 (by decide))).trans ?_)))
  rw [g_put_same _ _ _ (by simp [F.SAF_SIN_STAT_STATE]) (by simp [F.SAF_SIN_STAT_STATE])]
  have h2 : (F.SAF_SIN_STAT_STATE n).hi + 1 - (F.SAF_SIN_STAT_STATE n).lo = 3 := rfl
  rw [h2]
  omega

theorem inputAnew_other (s : State) {j : Nat} (hs : sep (F.SAF_SIN_STAT_STATE j) f = true) (h0 : sep (levelField j 0) f = true) (h1 : sep (levelField j 1) f = true) :
    (inputAnew s j).g f = s.g f :=
  (withFlt_g ..).trans ((withSaf_g ..).trans ((modChanS_g _ j 1 _ h1).trans ((modChanS_g _ j 0 _ h0).trans (g_put_sep _ _ hs))))

theorem sinInit_state (s : State) {n : Nat} (hn : n < 4) : s.sinInit.g (F.SAF_SIN_STAT_STATE n) = s.g (F.SAF_SIN_CFG_USED n) := by
  have hother : ∀ j < 4, ∀ n < 4, (j ≠ n → sep (F.SAF_SIN_STAT_STATE j) (F.SAF_SIN_STAT_STATE n) = true) ∧ sep (levelField j 0) (F.SAF_SIN_STAT_STATE n) = true
      ∧ sep (levelField j 1) (F.SAF_SIN_STAT_STATE n) = true ∧ sep (F.SAF_SIN_STAT_STATE j) (F.SAF_SIN_CFG_USED n) = true
      ∧ sep (levelField j 0) (F.SAF_SIN_CFG_USED n) = true ∧ sep (levelField j 1) (F.SAF_SIN_CFG_USED n) = true := by decide
  have hfold : ∀ (l : List Nat), (∀ j ∈ l, j < 4) → ∀ u : State, (n ∈ l ∨ u.g (F.SAF_SIN_STAT_STATE n) = u.g (F.SAF_SIN_CFG_USED n)) →
      (l.foldl inputAnew u).g (F.SAF_SIN_STAT_STATE n) = u.g (F.SAF_SIN_CFG_USED n) := fun l => by
    induction l with
    | nil => exact fun _ u h => h.resolve_left (by simp)
    | cons j l ih =>
      intro hl u h
      obtain ⟨h1, h2, h3, h4, h5, h6⟩ := hother j (hl j List.mem_cons_self) n hn
      have hused : (inputAnew u j).g (F.SAF_SIN_CFG_USED n) = u.g (F.SAF_SIN_CFG_USED n) := inputAnew_other u h4 h5 h6
      refine (ih (fun i hi => hl i (List.mem_cons_of_mem _ hi)) (inputAnew u j) ?_).trans hused
      by_cases hj : j = n
      · subst hj
        exact .inr ((inputAnew_state u hn).trans hused.symm)
      · refine h.imp (fun hm => ?_) (fun he => ?_)
        · simpa [Ne.symm hj] using hm
        · rw [inputAnew_other u (h1 hj) h2 h3, hused]
          exact he
  rw [sinInit_eq]
  exact hfold _ (fun j hj => List.mem_range.1 hj) s (.inl (List.mem_range.2 hn))

theorem sinState_after {w : State} (s : State) (hall : s.Only safFields safParts w) (htail : s.sinInit.Only outFields safParts w) {n : Nat} (hn : n < 4) :
    w.sinState n = w.g (F.SAF_SIN_CFG_USED n) := by
  have hfs : ∀ x ∈ safFields, ∀ n < 4, x.apart (F.SAF_SIN_CFG_USED n) = true := by decide
  have hout : ∀ x ∈ outFields, ∀ n < 4, x.apart (F.SAF_SIN_STAT_STATE n) = true := by decide
  rw [State.sinState, htail.fields _ (fun x hx => hout x hx n hn), sinInit_state s hn, hall.fields _ (fun x hx => hfs x hx n hn)]

/-- After a commit of SAF every input is INIT where it is used. -/
theorem safCommit_sinState (s : State) {n : Nat} (hn : n < 4) : s.safCommit.settle.sinState n = s.safCommit.settle.g (F.SAF_SIN_CFG_USED n) := by
  refine sinState_after s (only_settle (by decide) (only_safCommit (only_refl _ _ s))) ?_ hn
  rw [safCommit_eq]
  exact only_settle (by decide) (only_safTail (fun _ hx => hx) (only_refl _ _ s.sinInit))

/-! ### The obligation -/

theorem candidate_safRej (s : State) : s.begin.safRej (s.begin.candidate [0x68]) = s.safRej (s.candidate [0x68]) := by
  rw [candidate_begin]
  rfl

theorem commitPages_saf : commitPages 0x68 = [0x68] := by decide +kernel

theorem commitPages_gov : commitPages 0x40 = [] := by decide +kernel

theorem badPages_saf (s : State) : badPages s 0x68 = if s.safRej (s.candidate [0x68]) = 0 then [] else [0x68] := by
  have hb : s.pageBad (s.candidate [0x68]) 0x68 = decide (s.safRej (s.candidate [0x68]) ≠ 0) := rfl
  have hf : badPages s 0x68 = [0x68].filter (s.pageBad (s.candidate [0x68])) := by
    unfold badPages
    rw [commitPages_saf]
    rfl
  rw [hf, List.filter_cons, hb]
  by_cases h : s.safRej (s.candidate [0x68]) = 0 <;> simp [h]

/-- A page's marks after a settling of FIELD_OK. -/
theorem counted_settle (h : Counted s t p) : Counted s t.settle p :=
  counted_after h (fun f hf => settle_g t (by
    simp only [commitMarks, List.mem_cons, List.not_mem_nil, or_false] at hf
    rcases hf with rfl | rfl | rfl <;> exact sep_apart rfl))


theorem counted_begin (h : Counted s.begin t p) : Counted s t p := counted_before h (fun f _ => begin_g s f)

/-- A rejected GO. -/
theorem rejectAll_leaves (s t : State) (hp : p < 0x8D) {l : List Nat} (hl : ∀ q ∈ l, q < 0x8D) :
    (s.rejectAll t p l).on (F.UNIT_STATUS_COMMIT_ERR p) = true ∧ (s.rejectAll t p l).on (F.UNIT_IRQ_STAT_COMMIT p) = true
      ∧ (s.rejectAll t p l).g (F.UNIT_COMMIT_COUNT p) = s.g (F.UNIT_COMMIT_COUNT p)
      ∧ (∀ a, (s.rejectAll t p l).word a &&& accMask .rwc a = s.word a &&& accMask .rwc a) ∧ s.PartsWithin (Foot.of [] []) (s.rejectAll t p l) := by
  have honly := only_rejectAll s t p l
  have hunc : ∀ x ∈ rejectedFields p l, uncommitted x = true := by
    intro x hx
    rcases List.mem_append.1 hx with hx | hx
    · exact noteFields_uncommitted x hx
    · obtain ⟨q, hq, hxq⟩ := List.mem_flatMap.1 hx
      have hlt : q < 0x8D := by
        rcases List.mem_cons.1 hq with rfl | hq
        · exact hp
        · exact hl q hq
      exact commitMarks_uncommitted hlt x (by
        simp only [rejectFields, commitMarks, List.mem_cons, List.not_mem_nil, or_false] at hxq ⊢
        exact .inr hxq)
  have hcount : ∀ x ∈ rejectedFields p l, x.apart (F.UNIT_COMMIT_COUNT p) = true := by
    intro x hx
    rcases List.mem_append.1 hx with hx | hx
    · have hoff : ∀ x ∈ noteFields, x.off % 4096 ≠ 0x30 ∧ x.hi < 32 := by decide
      obtain ⟨h1, -⟩ := hoff x hx
      have haddr : x.addr ≠ (F.UNIT_COMMIT_COUNT p).addr := by
        simp only [Fld.addr, F.UNIT_COMMIT_COUNT]
        omega
      simp [Fld.apart, haddr]
    · obtain ⟨q, -, hxq⟩ := List.mem_flatMap.1 hx
      simp only [rejectFields, List.mem_cons, List.not_mem_nil, or_false] at hxq
      rcases hxq with rfl | rfl
      · exact sep_apart rfl
      · exact sep_apart rfl
  refine ⟨(rejectPage_leaves _ p).1, (rejectPage_leaves _ p).2, honly.fields _ hcount, fun a => only_rwc hunc honly a, honly.parts⟩

theorem badPages_small (s : State) (hp : p < 0x8D) : ∀ q ∈ badPages s p, q < 0x8D := by
  intro q hq
  have hm : q ∈ p :: commitPages p := by
    have h := (List.mem_filter.1 hq).1
    split_ifs at h
    · exact List.mem_cons_of_mem _ h
    · exact h
  rcases List.mem_cons.1 hm with rfl | hm
  · exact hp
  · have h : (List.range 0x8D).all (fun p => (commitPages p).all (fun q => decide (q < 0x8D))) = true := by decide +kernel
    have hall := List.all_eq_true.1 (List.all_eq_true.1 h p (List.mem_range.2 hp)) q hm
    simpa using hall

/-- A page whose accepted commit is in force at once, without work of its own. -/
theorem acceptAll_direct (s : State) (hp : p ∈ [0x04, 0x0B, 0x10, 0x89, 0x8A, 0x8B, 0x8C]) (hat : s.atOnce p = true) (ha : a / 4096 = p) :
    (s.acceptAll p (commitPages p)).word a &&& accMask .rwc a = s.shadowWord a &&& accMask .rwc a := by
  obtain ⟨hpages, hland⟩ : commitPages p = [p] ∧ ∀ u : State, u.pendPages.contains p = true → u.atOnce p = true → u.landNow p = u.apply p := by
    have hnow : ∀ u : State, u.pendPages.contains p = true → u.atOnce p = true → (u.pendPages.contains p && u.atOnce p) = true := fun u h1 h2 => by rw [h1, h2]; rfl
    simp only [List.mem_cons, List.not_mem_nil, or_false] at hp
    rcases hp with rfl | rfl | rfl | rfl | rfl | rfl | rfl <;> exact ⟨by decide +kernel, fun u h1 h2 => if_pos (hnow u h1 h2)⟩
  obtain ⟨c, hc⟩ := acceptAll_eq s p [p]
  have hcount : (counted s p [p]).withCmp c = accepted s p c := congrArg (fun u : State => u.withCmp c) (if_pos (by simp))
  have hat' : (accepted s p c).atOnce p = true := by
    rw [atOnce_eq, (accepted_only s c p).parts.tln (by decide), ← atOnce_eq]
    exact hat
  rw [hpages, hc, hcount, List.foldl_cons, List.foldl_nil, hland _ (accepted_pends s c p) hat']
  exact applied_rwc s c ha

/-- A commit of SAF that passes. -/
theorem acceptAll_saf (s : State) : ∃ c, s.acceptAll 0x68 [0x68] = ((accepted s 0x68 c).apply 0x68).safCommit := by
  obtain ⟨c, hc⟩ := acceptAll_eq s 0x68 [0x68]
  have hcount : (counted s 0x68 [0x68]).withCmp c = accepted s 0x68 c := congrArg (fun u : State => u.withCmp c) (if_pos (by simp))
  have hat : (accepted s 0x68 c).atOnce 0x68 = true := by
    rw [atOnce_eq, show promptPage 0x68 = true from rfl, Bool.or_true]
  have hnow : ((accepted s 0x68 c).pendPages.contains 0x68 && (accepted s 0x68 c).atOnce 0x68) = true := by rw [accepted_pends, hat]; rfl
  refine ⟨c, ?_⟩
  rw [hc, hcount]
  exact if_pos hnow


theorem rejectAll_saf (s t : State) : s.rejectAll t 0x68 [0x68] = ((s.put F.SAF_REJ_REASON (s.safRej t)).rejectPage 0x68).rejectPage 0x68 := rfl

theorem safRej_le (s t : State) : s.safRej t ≤ 7 := by
  unfold State.safRej
  extract_lets
  split_ifs <;> decide

/-- A commit of SAF that fails shows the case that it meets. -/
theorem safRejected_leaves (s : State) {n : Nat} (hn : n ≤ 7) :
    let t := (((s.put F.SAF_REJ_REASON n).rejectPage 0x68).rejectPage 0x68).settle
    t.g F.SAF_REJ_REASON = n ∧ t.on (F.UNIT_STATUS_COMMIT_ERR 0x68) = true ∧ t.on (F.UNIT_IRQ_STAT_COMMIT 0x68) = true
      ∧ s.Only [F.SAF_REJ_REASON, F.UNIT_STATUS_COMMIT_ERR 0x68, F.UNIT_IRQ_STAT_COMMIT 0x68, F.SAF_STAT_FSTATE] [] t := by
  have hreason : ∀ u : State, (u.rejectPage 0x68).g F.SAF_REJ_REASON = u.g F.SAF_REJ_REASON := fun u =>
    (g_put_sep _ _ (by decide)).trans (g_put_sep _ _ (by decide))
  obtain ⟨herr, htold⟩ := rejectPage_leaves ((s.put F.SAF_REJ_REASON n).rejectPage 0x68) 0x68
  refine ⟨?_, (on_congr (settle_g _ (by decide))).trans herr, (on_congr (settle_g _ (by decide))).trans htold,
    only_settle (by simp) (only_rejectPage (by simp) (by simp) (only_rejectPage (by simp) (by simp) (only_put _ (by simp) (by decide) (only_refl _ _ s))))⟩
  rw [settle_g _ (by decide), hreason, hreason, g_put_same _ _ _ (by decide) (by decide)]
  exact Nat.mod_eq_of_lt (Nat.lt_of_le_of_lt hn (by decide))

/-- The pages of Flint (GOV and SAF). -/
theorem flintCommits (s : State) (p : Nat) (v : Word) (hm : s.masterRuns .flint = true) (hp : p = 0x40 ∨ p = 0x68) :
    (wordField v 1 1 = 0 → wordField v 0 0 = 0 → exec (.unitCommit .flint p v) s = .next s.begin.settle ∧ exec (.discard .flint p v) s = .next s.begin.settle)
    ∧ (wordField v 1 1 = 1 → s.regsWf = true →
      ∃ t, exec (.discard .flint p v) s = .next t ∧ s.begin.Only [F.SAF_STAT_FSTATE] [.shadow] t
        ∧ (∀ a, a / 4096 = p → t.shadowWord a &&& accMask .rwc a = s.afterPending.word a &&& accMask .rwc a)
        ∧ (∀ a, a / 4096 ≠ p → t.shadowWord a = s.shadowWord a))
    ∧ (wordField v 1 1 = 0 → wordField v 0 0 = 1 → s.blockRunning p = true →
      ∃ t, exec (.unitCommit .flint p v) s = .next t ∧ t.on (F.UNIT_STATUS_COMMIT_ERR p) = true ∧ t.on (F.UNIT_IRQ_STAT_COMMIT p) = true
        ∧ s.begin.Only [F.UNIT_STATUS_COMMIT_ERR p, F.UNIT_IRQ_STAT_COMMIT p, F.SAF_STAT_FSTATE] [] t)
    ∧ (wordField v 1 1 = 0 → wordField v 0 0 = 1 → s.blockRunning p = false → p = 0x40 →
      ∃ t, exec (.unitCommit .flint p v) s = .next t ∧ t.g (F.UNIT_COMMIT_COUNT p) = (s.g (F.UNIT_COMMIT_COUNT p) + 1) % 2 ^ 16
        ∧ t.on (F.UNIT_STATUS_COMMIT_ERR p) = false ∧ t.on (F.UNIT_IRQ_STAT_COMMIT p) = true
        ∧ s.begin.Only [F.UNIT_COMMIT_COUNT p, F.UNIT_STATUS_COMMIT_ERR p, F.UNIT_IRQ_STAT_COMMIT p, F.SAF_STAT_FSTATE] [] t)
    ∧ (wordField v 1 1 = 0 → wordField v 0 0 = 1 → s.blockRunning p = false → p = 0x68 → s.safRej (s.candidate [0x68]) = 0 → s.regsWf = true →
      ∃ t, exec (.unitCommit .flint p v) s = .next t ∧ t.g (F.UNIT_COMMIT_COUNT p) = (s.g (F.UNIT_COMMIT_COUNT p) + 1) % 2 ^ 16
        ∧ t.on (F.UNIT_STATUS_COMMIT_ERR p) = false ∧ t.on (F.UNIT_IRQ_STAT_COMMIT p) = true
        ∧ (∀ a, a / 4096 = p → t.word a &&& accMask .rwc a = s.shadowWord a &&& accMask .rwc a)
        ∧ (∀ n, n < 4 → t.sinState n = t.g (F.SAF_SIN_CFG_USED n)))
    ∧ (wordField v 1 1 = 0 → wordField v 0 0 = 1 → s.blockRunning p = false → p = 0x68 → s.safRej (s.candidate [0x68]) ≠ 0 →
      ∃ t, exec (.unitCommit .flint p v) s = .next t ∧ t.g F.SAF_REJ_REASON = s.safRej (s.candidate [0x68])
        ∧ t.on (F.UNIT_STATUS_COMMIT_ERR p) = true ∧ t.on (F.UNIT_IRQ_STAT_COMMIT p) = true
        ∧ s.begin.Only [F.SAF_REJ_REASON, F.UNIT_STATUS_COMMIT_ERR p, F.UNIT_IRQ_STAT_COMMIT p, F.SAF_STAT_FSTATE] [] t) := by
  have hrun := flintPage_write hp v hm
  have hlt : p < 0x8D := by rcases hp with rfl | rfl <;> decide
  have hmarks : ∀ (u : State) {f : Fld}, f ∈ commitMarks p → u.settle.g f = u.g f := fun u f hf => settle_g u (sep_apart (head_sep (headMark_of hlt hf) (by decide)))
  refine ⟨fun hd hg => ?_, fun hd _ => ?_, fun hd hg hb => ?_, fun hd hg hb h40 => ?_, fun hd hg hb h68 hok _ => ?_, fun hd hg hb h68 hbad => ?_⟩
  · rw [commitWrite_none _ p hd hg] at hrun
    exact ⟨hrun, hrun⟩
  · rw [commitWrite_discard _ p hd] at hrun
    obtain ⟨h1, h2, h3⟩ := discard_leaves s p
    have hsh : (s.begin.discardPage p).settle.shadow = (s.begin.discardPage p).shadow :=
      (only_settle (fs := [F.SAF_STAT_FSTATE]) (ps := []) (by simp) (only_refl _ _ (s.begin.discardPage p))).parts.shadow (by decide)
    have hword : ∀ a, (s.begin.discardPage p).settle.shadowWord a = (s.begin.discardPage p).shadowWord a := fun a => by rw [State.shadowWord, hsh, ← State.shadowWord]
    exact ⟨_, hrun, only_settle (by simp) (only_mono (by simp) (fun _ h => h) h1), fun a ha => by rw [hword]; exact h2 a ha, fun a ha => by rw [hword]; exact h3 a ha⟩
  · rw [commitWrite_go _ p hd hg, go_blocked s.begin hb] at hrun
    obtain ⟨h1, h2⟩ := rejectPage_leaves s.begin p
    exact ⟨_, hrun, (on_congr (hmarks _ (by simp [commitMarks]))).trans h1, (on_congr (hmarks _ (by simp [commitMarks]))).trans h2,
      only_settle (by simp) (only_rejectPage (by simp) (by simp) (only_refl _ _ _))⟩
  · have he : commitPages p = [] := by rw [h40]; exact commitPages_gov
    rw [commitWrite_go _ p hd hg, go_empty s.begin hb he] at hrun
    obtain ⟨h1, h2, h3⟩ := counted_begin (counted_settle (counted_of s.begin p))
    exact ⟨_, hrun, h1, h2, h3, only_settle (by simp) (only_countCommit (by simp [commitMarks]) (only_refl _ _ _))⟩
  · subst h68
    have hgo : s.begin.go 0x68 = s.begin.acceptAll 0x68 [0x68] := by
      rw [go_accepted s.begin hb (by rw [commitPages_saf]; exact List.cons_ne_nil _ _) ((badPages_saf s.begin).trans (if_pos ((candidate_safRej s).trans hok))), commitPages_saf]
    rw [commitWrite_go _ _ hd hg, hgo] at hrun
    obtain ⟨h1, h2, h3⟩ := counted_begin (counted_settle (acceptAll_counted s.begin (p := 0x68) (by decide) (List.nodup_singleton 0x68)))
    obtain ⟨c, hc⟩ := acceptAll_saf s.begin
    refine ⟨_, hrun, h1, h2, h3, ?_⟩
    rw [hc]
    refine ⟨fun a ha => ?_, fun n hn => safCommit_sinState _ hn⟩
    rw [only_rwc safFields_uncommitted (only_settle (by decide) (only_safCommit (only_refl _ _ _))) a]
    exact applied_rwc s.begin c ha
  · subst h68
    have hn : s.begin.safRej (s.begin.candidate [0x68]) = s.safRej (s.candidate [0x68]) := candidate_safRej s
    have hlist : badPages s.begin 0x68 = [0x68] := (badPages_saf s.begin).trans (if_neg (by rw [hn]; exact hbad))
    have hgo : s.begin.go 0x68 = ((s.begin.put F.SAF_REJ_REASON (s.safRej (s.candidate [0x68]))).rejectPage 0x68).rejectPage 0x68 := by
      rw [go_rejected s.begin hb (by rw [commitPages_saf]; exact List.cons_ne_nil _ _) (by rw [hlist]; exact List.cons_ne_nil _ _), hlist, rejectAll_saf, commitPages_saf, hn]
    rw [commitWrite_go _ _ hd hg, hgo] at hrun
    exact ⟨_, hrun, safRejected_leaves s.begin (safRej_le _ _)⟩

/-- Settles O54: a GO is one of blocked, empty, accepted and rejected; what lands at once leaves the header's marks, a landed page holds the
shadow bank's committed bits, a waiting one keeps its own. -/
theorem commitsAndDiscard : Obligations.CommitsAndDiscard := by
  refine ⟨fun s m p v hp ha hm hw hsaf hgov hbst => ?_, fun s m v hm hw hb => ?_, fun s p v hm hp => flintCommits s p v hm hp⟩
  · intro bad
    have hrun := exec_unitCommit v hp ha hm hw hsaf hgov hbst
    have hbad : badPages s.begin p = bad := badPages_begin s p
    have hat : s.begin.atOnce p = s.atOnce p := rfl
    refine ⟨fun hd hg hb he hok => ?_, fun hd hg hb he => ?_, fun hd hg hb hne he => ?_, fun hd hg hb => ?_, fun hd _ => ?_, fun hd hg => ?_⟩
    · rw [commitWrite_go _ p hd hg, go_accepted s.begin hb he (hbad.trans hok)] at hrun
      obtain ⟨h1, h2, h3⟩ := counted_begin (acceptAll_counted s.begin hp (commitPages_nodup p))
      exact ⟨_, hrun, h1, h2, h3, fun hl _ hnow a hpa => acceptAll_direct s.begin hl (hat.trans hnow) hpa,
        fun hnow _ hmem => acceptAll_waits s.begin hp (hat.trans hnow) hmem⟩
    · rw [commitWrite_go _ p hd hg, go_empty s.begin hb he] at hrun
      obtain ⟨h1, h2, h3⟩ := counted_begin (counted_of s.begin p)
      exact ⟨_, hrun, h1, h2, h3, only_countCommit (by simp [commitMarks]) (only_refl _ _ _)⟩
    · rw [commitWrite_go _ p hd hg, go_rejected s.begin hb he (by rw [hbad]; exact hne)] at hrun
      exact ⟨_, hrun, rejectAll_leaves s.begin _ hp (badPages_small s.begin hp)⟩
    · rw [commitWrite_go _ p hd hg, go_blocked s.begin hb] at hrun
      obtain ⟨h1, h2⟩ := rejectPage_leaves s.begin p
      exact ⟨_, hrun, h1, h2, only_rejectPage (by simp) (by simp) (only_refl _ _ _)⟩
    · rw [commitWrite_discard _ p hd] at hrun
      exact ⟨_, hrun, discard_leaves s p⟩
    · rw [commitWrite_none _ p hd hg] at hrun
      exact ⟨hrun, hrun⟩
  · have hpage : s.begin.pageWrite m 0x79 0x30 v = s.begin := by
      have hb' : (decide (0x79 = 0x79) && s.begin.bistRuns) = true := by rw [show s.begin.bistRuns = s.bistRuns from rfl, hb]; rfl
      exact if_pos hb'
    have hrun : exec (.unitCommit m 0x79 v) s = .next s.begin := congrArg Host.Outcome.next
      ((masterWrite_page v ((begin_masterRuns s m).trans hm) hw (by decide) (by decide) (by decide) (by decide)).trans hpage)
    exact ⟨hrun, hrun⟩


end Sys2Proof.Proofs.PageCommits
end

section
/-! PROOF. What a detected fault, a deferred flip and a failed region leave: a field of another unit stands through them. -/

namespace Sys2Proof.Proofs.FrameDeferral

open Sys2Proof.Machine Sys2Proof.Laws Sys2Proof.Proofs.Architecture Sys2Proof.Proofs.Reading Sys2Proof.Proofs.GovernorSums Sys2Proof.Proofs.LampReactions

variable {s : State} {f : Fld}

/-- The fields that a detected fault, a deferral or a failed region write beside the fault itself. -/
def deferFields : List Fld :=
  [F.RST_BLK_STAT_CONSEQ_CNT, F.CMP_EVT_DEFER, F.CMP_CNT_DEFER, F.CMP_EVT_BLK_DEFER, F.CMP_STAT_DEFER_RUN, F.CMP_STAT_COMPOSING, F.CMP_EVT_DEFER_FATAL,
    F.TLN_EVT_LATE_BLANK, F.TLN_CNT_LATE_BLANK] ++ (List.range 8).map F.TL_EVT_LATE_BLANK

/-- A field that none of them writes. -/
structure Aside (f : Fld) : Prop where
  lamp : lampField f = true
  apart : ∀ x ∈ deferFields, sep x f = true

/-- The same, as a test. -/
def aside (f : Fld) : Bool := lampField f && deferFields.all (fun x => sep x f)

theorem aside_iff : aside f = true ↔ Aside f := by
  simp only [aside, Bool.and_eq_true, List.all_eq_true]
  exact ⟨fun h => ⟨h.1, h.2⟩, fun h => ⟨h.lamp, h.apart⟩⟩

section
variable (hf : Aside f)

include hf

theorem aside_event (p : Nat) : sep (F.UNIT_IRQ_STAT_EVT p) f = true := by
  have h := hf.lamp
  simp only [lampField, Bool.and_eq_true, bne_iff_ne] at h
  obtain ⟨⟨-, hoff⟩, -⟩ := h
  have hn : 0x18 % 4096 ≠ f.off % 4096 := fun h => hoff h.symm
  simp [sep, F.UNIT_IRQ_STAT_EVT, hn]

theorem aside_put {x : Fld} (s : State) (v : Nat) (hx : x ∈ deferFields) : (s.put x v).g f = s.g f := g_put_sep s v (hf.apart x hx)

theorem aside_incSat {x : Fld} (s : State) (hx : x ∈ deferFields) : (s.incSat x).g f = s.g f := g_incSat_sep s (hf.apart x hx)

theorem aside_evt {x : Fld} (s : State) (hx : x ∈ deferFields) : (s.evt x).g f = s.g f := g_evt_sep s (hf.apart x hx) (aside_event hf _)

theorem detect_aside (s : State) (pages : List Nat) (i inst addr : Nat) (inj : Bool) : (s.detect pages i inst addr inj).g f = s.g f := by
  unfold State.detect
  refine ite_g (fun _ => conseq_lamp s i inst addr hf.lamp (sep_apart (hf.apart _ (by simp [deferFields])))) (fun _ => ?_)
  exact (field_reacts s hf.lamp _).raiseWith i inst addr inj false id rfl

theorem parityOutcome_aside (s : State) (l : List (Nat × Nat)) (unc inj : Bool) : (s.parityOutcome l unc inj).g f = s.g f :=
  foldl_g (fun u _ => detect_aside hf u _ _ _ _ _) l s

end

/-- A deferral's counts. -/
def deferCounted (s : State) (blk : Bool) : State :=
  let s := (s.evt F.CMP_EVT_DEFER).incSat F.CMP_CNT_DEFER
  if blk then s.evt F.CMP_EVT_BLK_DEFER else s

/-- The run of deferrals with this one. -/
def deferRun (s : State) : Nat := min 7 (s.g F.CMP_STAT_DEFER_RUN + 1)

/-- The frame is put off by a period. -/
def putOff (s : State) (run : Nat) : State :=
  let s := (s.put F.CMP_STAT_DEFER_RUN run).put F.CMP_STAT_COMPOSING 0
  (s.withTln { s.tln with nextFlip := s.tln.nextFlip + s.cmp.period, latched := false, committed := false, closed := false }).withCmp { s.cmp with deferred := true, recomp := [] }

/-- The deferral's faults. -/
def deferFaults (s : State) (run : Nat) : State :=
  let s := s.detect cmpPages S.CMP_DEFER 0 0 false
  if run = s.g F.CMP_CTRL_DEFER_MAX then (s.evt F.CMP_EVT_DEFER_FATAL).detect cmpPages S.CMP_DEFER_FATAL 0 0 false else s

/-- The regions still to be recomputed are lost with the frame. -/
def recompLost (s : State) : State := s.cmp.recomp.foldl (fun s r => s.parityOutcome r.parity true r.inj) s

theorem deferFlip_eq (s : State) (blk : Bool) :
    s.deferFlip blk = deferFaults (putOff (deferCounted (recompLost s) blk) (deferRun (deferCounted (recompLost s) blk))) (deferRun (deferCounted (recompLost s) blk)) := rfl

section
variable (hf : Aside f)

include hf

theorem recompLost_aside (s : State) : (recompLost s).g f = s.g f := foldl_g (fun u _ => parityOutcome_aside hf u _ _ _) _ s

theorem deferCounted_aside (s : State) (blk : Bool) : (deferCounted s blk).g f = s.g f := by
  have hc : ((s.evt F.CMP_EVT_DEFER).incSat F.CMP_CNT_DEFER).g f = s.g f :=
    (aside_incSat hf _ (by simp [deferFields])).trans (aside_evt hf s (by simp [deferFields]))
  exact ite_g (fun _ => (aside_evt hf _ (by simp [deferFields])).trans hc) (fun _ => hc)

theorem putOff_aside (s : State) (run : Nat) : (putOff s run).g f = s.g f :=
  (withCmp_g ..).trans ((withTln_g ..).trans ((aside_put hf _ _ (by simp [deferFields])).trans (aside_put hf s _ (by simp [deferFields]))))

theorem deferFaults_aside (s : State) (run : Nat) : (deferFaults s run).g f = s.g f := by
  have hd := detect_aside hf s cmpPages S.CMP_DEFER 0 0 false
  exact ite_g (fun _ => (detect_aside hf _ _ _ _ _ _).trans ((aside_evt hf _ (by simp [deferFields])).trans hd)) (fun _ => hd)

theorem deferFlip_aside (s : State) (blk : Bool) : (s.deferFlip blk).g f = s.g f := by
  rw [deferFlip_eq, deferFaults_aside hf, putOff_aside hf, deferCounted_aside hf, recompLost_aside hf]

theorem requestRecomp_aside (s : State) (r : Recomp) : (s.requestRecomp r).g f = s.g f := by
  unfold State.requestRecomp
  exact ite_g (fun _ => ite_g (fun _ => withCmp_g ..) (fun _ => (deferFlip_aside hf _ _).trans (parityOutcome_aside hf s _ _ _)))
    (fun _ => parityOutcome_aside hf s _ _ _)

theorem lateBlank_aside (s : State) {n : Nat} (hn : n < 8) : (s.lateBlank n).g f = s.g f := by
  have hm : F.TL_EVT_LATE_BLANK n ∈ deferFields := (by decide : ∀ n < 8, F.TL_EVT_LATE_BLANK n ∈ deferFields) n hn
  have he : ((s.evt (F.TL_EVT_LATE_BLANK n)).evt F.TLN_EVT_LATE_BLANK).g f = s.g f := (aside_evt hf _ (by simp [deferFields])).trans (aside_evt hf s hm)
  unfold State.lateBlank
  refine (raise_lamp _ _ _ hf.lamp).trans ((withTln_g ..).trans (ite_g (fun _ => he) (fun _ => (aside_incSat hf _ (by simp [deferFields])).trans he)))

theorem regionFailed_aside (s : State) {n : Nat} (hn : n < 8) (r : Rgn) : (s.regionFailed n r).g f = s.g f := by
  unfold State.regionFailed
  have hd : (s.modLane n (fun l => l.dirtyCells r.band r.cell0 r.cells)).g f = s.g f := modLane_g ..
  exact ite_g (fun _ => ite_g (fun _ => (lateBlank_aside hf _ hn).trans hd) (fun _ => (requestRecomp_aside hf _ _).trans hd)) (fun _ => hd)

theorem abortPacket_aside (s : State) {n : Nat} (hn : n < 8) : (s.abortPacket n).g f = s.g f := by
  unfold State.abortPacket
  split
  · exact (regionFailed_aside hf _ hn _).trans (modLane_g ..)
  · rfl

end

end Sys2Proof.Proofs.FrameDeferral
end

section
/-! PROOF. UNIT_CTRL: block resets, worlds and enables (BlockResetsAndWorlds). -/

namespace Sys2Proof.Proofs.BlockResets

open Sys2Proof.Machine Sys2Proof.Laws Sys2Proof.Proofs.Architecture Sys2Proof.Proofs.RegisterMap Sys2Proof.Proofs.Reading
  Sys2Proof.Proofs.GovernorSums Sys2Proof.Proofs.LampReactions Sys2Proof.Proofs.Commits Sys2Proof.Proofs.QuartzRoot Sys2Proof.Proofs.LampLanes
  Sys2Proof.Proofs.FlintLockOut Sys2Proof.Proofs.PageCommits Sys2Proof.Proofs.FrameDeferral
  Sys2Proof.Proofs.FaultWrites

variable {s t u : State} {f x : Fld} {p q a n l : Nat} {m : Master} {v : Word}

/-! ### The header's enable and world -/

theorem ctrl_uncommitted (hp : p < 0x8D) : uncommitted (F.UNIT_CTRL_ENABLE p) = true ∧ uncommitted (F.UNIT_CTRL_WORLD p) = true := by
  have h : (List.range 0x8D).all (fun p => uncommitted (F.UNIT_CTRL_ENABLE p) && uncommitted (F.UNIT_CTRL_WORLD p)) = true := by decide +kernel
  simpa using List.all_eq_true.1 h p (List.mem_range.2 hp)

theorem headMark_enable (hp : p < 0x8D) : HeadMark (F.UNIT_CTRL_ENABLE p) :=
  ⟨by simp [F.UNIT_CTRL_ENABLE], (ctrl_uncommitted hp).1, fun q => by simp [sep, F.UNIT_CTRL_ENABLE, F.UNIT_IRQ_STAT_EVT],
    clear_of_sep (by simp [recordFields, sep, F.EVR_CNT_DROP, F.FLT_ALARM_EVR_DROP, F.EVR_EVT_DROP, F.UNIT_IRQ_STAT_EVT, F.UNIT_CTRL_ENABLE])⟩

/-- A unit whose enable has effects. -/
def switched (p : Nat) : Bool := [0x08, 0x09, 0x0A, 0x50, 0x60].contains p || (decide (0x51 ≤ p) && decide (p ≤ 0x58))

theorem enable_lamp (h : switched p = true) : lampField (F.UNIT_CTRL_ENABLE p) = true := by
  have hall : (List.range 0x8D).all (fun p => !switched p || lampField (F.UNIT_CTRL_ENABLE p)) = true := by decide +kernel
  have hp : p < 0x8D := by
    simp only [switched, Bool.or_eq_true, Bool.and_eq_true, decide_eq_true_eq, List.contains_eq_mem, List.mem_cons, List.not_mem_nil, or_false] at h
    omega
  have hq := List.all_eq_true.1 hall p (List.mem_range.2 hp)
  rw [h] at hq
  simpa using hq

section
variable (hf : HeadMark f) (hl : lampField f = true)

include hf

theorem head_refLost (s : State) : s.refLost.g f = s.g f := by
  have hloss : ∀ l, pastHead (lossFld l) = true := fun l => by
    unfold lossFld
    split_ifs <;> rfl
  unfold State.refLost
  exact ite_g (fun _ => (withQuartz_g ..).trans ((head_evt hf _ (hloss _)).trans (head_put hf s 5 rfl))) (fun _ => rfl)

theorem head_cdrLost (s : State) (l : Nat) : (s.cdrLost l).g f = s.g f := by
  have hlock : pastHead (lockFld l) = true := by
    unfold lockFld
    split_ifs <;> rfl
  have hset : (s.setLock l false).g f = s.g f := by
    unfold State.setLock
    refine (withQuartz_g ..).trans (ite_g (fun _ => ?_) (fun _ => (head_put hf _ 0 rfl).trans ?_)) <;>
      exact (head_put hf _ _ hlock).trans (head_put hf s _ rfl)
  exact ite_g (fun _ => (head_refLost hf _).trans hset) (fun _ => hset)

theorem head_linkOff (s : State) (l : Nat) : (s.linkOff l).g f = s.g f := by
  have hto : (s.linkTo l 0).g f = s.g f := by
    unfold State.linkTo
    exact ite_g (fun _ => (modLink_g ..).trans (head_put hf s 0 rfl)) (fun _ => head_put hf s 0 rfl)
  exact (head_put hf _ 0 rfl).trans ((head_put hf _ 0 rfl).trans hto)

theorem head_sideOff (s : State) : s.sideOff.g f = s.g f := by
  unfold State.sideOff
  refine (withFlt_g ..).trans ((withFlt_g ..).trans ((withSide_g ..).trans ?_))
  rw [head_put hf _ _ rfl, head_put hf _ _ rfl, head_put hf _ _ rfl, head_put hf _ _ rfl, head_put hf _ _ rfl, head_put hf _ _ rfl]

theorem head_endFrames (s : State) : s.endFrames.g f = s.g f :=
  (foldl_g (fun u q => head_landStopped hf u q) _ _).trans ((head_put hf _ 0 rfl).trans ((head_put hf _ 0 rfl).trans
    ((withGlare_g ..).trans ((withCmp_g ..).trans (withTln_g ..)))))

include hl

theorem head_laneDisable (s : State) (n : Nat) : (s.laneDisable n).g f = s.g f := by
  have hoff : (((s.laneOff n).fluxAway n).condEnd S.TL_OT n).g f = s.g f :=
    (withFlt_g ..).trans ((withFlx_g ..).trans ((modLane_g ..).trans (head_put hf s 0 rfl)))
  have htrig : ∀ u : State, (u.flintTrigger 75 11 n).g f = u.g f := fun u => (field_reacts u hl _).flintTrigger 75 11 n id rfl
  unfold State.laneDisable
  exact ite_g (fun _ => (htrig _).trans hoff) (fun _ => hoff)

end

theorem segOff_g (s : State) (f : Fld) : s.segOff.g f = s.g f := (withSeg_g ..).trans ((withSeg_g ..).trans (withSeg_g ..))

/-- A unit that goes off keeps its enable. -/
theorem unitOff_enable (s : State) (hp : p < 0x8D) : (s.unitOff p).g (F.UNIT_CTRL_ENABLE p) = s.g (F.UNIT_CTRL_ENABLE p) := by
  have hf := headMark_enable hp
  unfold State.unitOff
  split_ifs with h1 h2 h3 h4 h5
  · exact (head_linkOff hf _ _).trans (head_cdrLost hf s _)
  · exact head_sideOff hf s
  · have hl := enable_lamp (p := p) (by rw [h3]; rfl)
    exact (foldl_g (fun u n => ite_g (fun _ => rfl) (fun _ => head_laneDisable hf hl u n)) _ _).trans (head_endFrames hf s)
  · exact head_laneDisable hf (enable_lamp (by simp [switched]; omega)) s _
  · exact segOff_g s _
  · rfl

/-- A unit that goes on keeps its enable. -/
theorem unitOn_enable (s : State) (hp : p < 0x8D) : (s.unitOn p).g (F.UNIT_CTRL_ENABLE p) = s.g (F.UNIT_CTRL_ENABLE p) := by
  have hf := headMark_enable hp
  have hwake : ∀ (u : State) n, (u.laneWake n).g (F.UNIT_CTRL_ENABLE p) = u.g (F.UNIT_CTRL_ENABLE p) := fun u n =>
    ite_g (fun _ => (modLane_g ..).trans (head_put hf u 1 rfl)) (fun _ => rfl)
  have hoff : ∀ (u : State) n, (u.laneOff n).g (F.UNIT_CTRL_ENABLE p) = u.g (F.UNIT_CTRL_ENABLE p) := fun u n => (modLane_g ..).trans (head_put hf u 0 rfl)
  unfold State.unitOn
  split_ifs
  · exact head_put hf s 1 rfl
  · rfl
  · exact head_put hf s 1 rfl
  · rfl
  · refine (foldl_g hwake _ _).trans ?_
    unfold State.timerTry State.timerStart
    exact ite_g (fun _ => ite_g (fun _ => rfl) (fun _ => withTln_g ..)) (fun _ => rfl)
  · unfold State.laneEnable
    exact ite_g (fun _ => (hwake _ _).trans (hoff s _)) (fun _ => hwake s _)
  · rfl

/-- A change of ENABLE that is not held takes place. -/
theorem enableBit_leaves (s : State) {b : Nat} (hp : p < 0x8D) (hb : b < 2) (hh : b = 1 ∨ s.enableHeld p = false) :
    (s.enableBit p b).g (F.UNIT_CTRL_ENABLE p) = b := by
  have hput : (s.put (F.UNIT_CTRL_ENABLE p) b).g (F.UNIT_CTRL_ENABLE p) = b :=
    (g_put_same _ _ _ (by simp [F.UNIT_CTRL_ENABLE]) (by simp [F.UNIT_CTRL_ENABLE])).trans (Nat.mod_eq_of_lt hb)
  unfold State.enableBit
  split_ifs with h1 h2
  · simp only [Bool.or_eq_true, decide_eq_true_eq, Bool.and_eq_true] at h1
    rcases h1 with h1 | ⟨h0, hheld⟩
    · exact h1
    · rcases hh with h | h
      · omega
      · rw [h] at hheld
        cases hheld
  · exact (unitOff_enable _ hp).trans hput
  · exact (faultIrq_g _ _ _ (by simp [F.UNIT_CTRL_ENABLE])).trans ((unitOn_enable _ hp).trans hput)

/-! ### Writes of UNIT_CTRL -/

/-- FIELD_OK follows its terms after a write to a page of Flint. -/
def flintSettles (p : Nat) (s : State) : State := if p = 0x68 ∨ p = 0x40 then s.settle else s

theorem exec_ctrl (hp : p < 0x8D) (ha : assigned p = true) (hm : s.masterRuns m = true) (hw : s.mayWrite m p 0x08 = true)
    (hbst : p = 0x79 → s.bistRuns = false) (v : Word) : s.begin.masterWrite m (pageAddr p 0x08) v = flintSettles p (s.begin.ctrlWrite m p v) := by
  have hrun : ¬ (decide (p = 0x79) && s.begin.bistRuns) = true := by
    rw [show s.begin.bistRuns = s.bistRuns from rfl]
    simpa using hbst
  have hpage : s.begin.pageWrite m p 0x08 v = flintSettles p (s.begin.ctrlWrite m p v) := by
    refine (if_neg hrun).trans ?_
    by_cases hfl : p = 0x68 ∨ p = 0x40
    · exact (if_pos (by simpa using hfl)).trans (if_pos hfl).symm
    · exact (if_neg (by simpa using hfl)).trans (if_neg hfl).symm
  exact (masterWrite_page v ((begin_masterRuns s m).trans hm) hw hp ha (by decide) (by decide)).trans hpage

theorem putField_self (w : Word) (hi lo : Nat) (hh : hi < 32) : putField w hi lo (wordField w hi lo) = w := by
  apply BitVec.eq_of_getLsbD_eq
  intro i _
  rw [putField_bit _ _ _ _ _ hh, wordField_bit]
  split_ifs with h
  · have h1 : i - lo < hi + 1 - lo := by omega
    have h2 : lo + (i - lo) = i := by omega
    simp [h1, h2]
  · rfl

/-- A field that is given its value again. -/
theorem put_again_word (s : State) (hh : f.hi < 32) (a : Nat) : (s.put f (s.g f)).word a = s.word a := by
  by_cases ha : a = f.addr
  · rw [ha, State.put, word_setWord_same]
    exact putField_self _ _ _ hh
  · exact word_put_other s f _ ha

/-- A write that gives the world its value again. -/
def worldKept (m : Master) (p : Nat) (s : State) : State :=
  if m = .garnet ∧ worldFixed p = false ∧ groupPage p = p then s.put (F.UNIT_CTRL_WORLD p) (s.g (F.UNIT_CTRL_WORLD p)) else s

theorem worldBit_same {b : Nat} (h : b = s.world p) : s.worldBit m p b = worldKept m p s := by
  unfold State.worldBit worldKept
  by_cases hm : m = .garnet
  · rw [if_pos hm]
    by_cases hg : worldFixed p = true ∨ groupPage p ≠ p
    · rw [if_pos (by simpa using hg), if_neg (by
        rintro ⟨-, h1, h2⟩
        simp [h1, h2] at hg)]
    · simp only [not_or, Bool.not_eq_true, not_not] at hg
      rw [if_neg (by simp [hg.1, hg.2]), if_pos ⟨hm, hg⟩, h, State.world, hg.2]
  · rw [if_neg hm, if_pos h.symm, if_neg (fun hh => hm hh.1)]

theorem enableBit_same {b : Nat} (h : s.g (F.UNIT_CTRL_ENABLE p) = b) : s.enableBit p b = s := if_pos (by simp [h])

theorem worldKept_word (m : Master) (p : Nat) (s : State) (a : Nat) : (worldKept m p s).word a = s.word a := by
  unfold worldKept
  split_ifs
  · exact put_again_word s (by simp [F.UNIT_CTRL_WORLD]) a
  · rfl

theorem worldKept_only (m : Master) (p : Nat) (s : State) : s.Only [] [] (worldKept m p s) := by
  refine ⟨fun g _ => by rw [State.g, worldKept_word, ← State.g], ?_⟩
  unfold worldKept
  split_ifs
  · exact (only_put (fs := [F.UNIT_CTRL_WORLD p]) _ (by simp) (by simp [F.UNIT_CTRL_WORLD]) (only_refl _ _ s)).parts
  · exact partsWithin_refl _ s

theorem worldKept_g (m : Master) (p : Nat) (s : State) (f : Fld) : (worldKept m p s).g f = s.g f := (worldKept_only m p s).fields f (by simp)

/-- The word that a block reset writes gives world and enable their values again. -/
theorem ctrlWord_fields (s : State) (p : Nat) : wordField (s.ctrlWord p ||| 2) 0 0 = s.g (F.UNIT_CTRL_ENABLE p) ∧ wordField (s.ctrlWord p ||| 2) 1 1 = 1
    ∧ wordField (s.ctrlWord p ||| 2) 2 2 = s.world p := by
  have he : s.g (F.UNIT_CTRL_ENABLE p) ≤ 1 := g_le_top s _
  have hw : s.world p ≤ 1 := g_le_top s _
  have hall : ∀ e ≤ 1, ∀ w ≤ 1, wordField (BitVec.ofNat 32 (e + 4 * w) ||| 2) 0 0 = e ∧ wordField (BitVec.ofNat 32 (e + 4 * w) ||| 2) 1 1 = 1
      ∧ wordField (BitVec.ofNat 32 (e + 4 * w) ||| 2) 2 2 = w := by decide
  exact hall _ he _ hw

/-- A block reset as the page sees it. -/
theorem exec_blkReset (hp : p < 0x8D) (ha : assigned p = true) (hm : s.masterRuns m = true) (hw : s.mayWrite m p 0x08 = true)
    (hbst : p = 0x79 → s.bistRuns = false) : exec (.blkReset m p) s = .next (flintSettles p ((worldKept m p s.begin).blkWrite p)) := by
  obtain ⟨he, h1, hwd⟩ := ctrlWord_fields s.begin p
  have hctrl : s.begin.ctrlWrite m p (s.begin.ctrlWord p ||| 2) = (worldKept m p s.begin).blkWrite p := by
    refine (if_pos h1).trans ?_
    rw [worldBit_same hwd, he, enableBit_same (worldKept_g ..)]
  exact congrArg Host.Outcome.next ((exec_ctrl hp ha hm hw hbst _).trans (by rw [hctrl]))

/-- A write of UNIT_CTRL without a block reset. -/
theorem exec_worldWrite (hp : p < 0x8D) (ha : assigned p = true) (hm : s.masterRuns m = true) (hw : s.mayWrite m p 0x08 = true)
    (hbst : p = 0x79 → s.bistRuns = false) (h1 : wordField v 1 1 = 0) :
    exec (.worldWrite m p v) s = .next (flintSettles p ((s.begin.worldBit m p (wordField v 2 2)).enableBit p (wordField v 0 0))) := by
  have hctrl : s.begin.ctrlWrite m p v = (s.begin.worldBit m p (wordField v 2 2)).enableBit p (wordField v 0 0) := if_neg (by omega)
  exact congrArg Host.Outcome.next ((exec_ctrl hp ha hm hw hbst v).trans (by rw [hctrl]))


/-! ### A bank whose block bits are reset -/

/-- A register apart from the mask, whose value is not its reset value, stands. -/
theorem resetBank_keeps {mask : Nat → Word} {l : List (Nat × Word)} (hm : mask a = 0) (hne : tabGet resetWord l a ≠ resetWord a) :
    tabGet resetWord (resetBank mask l) a = tabGet resetWord l a := by
  unfold resetBank
  induction l with
  | nil => exact absurd rfl hne
  | cons e t ih =>
    obtain ⟨k, w⟩ := e
    by_cases hk : k = a
    · subst hk
      have hw : tabGet resetWord ((k, w) :: t) k = w := by simp [tabGet]
      rw [hw] at hne ⊢
      have hv : (w &&& ~~~ (mask k)) ||| (resetWord k &&& mask k) = w := by
        rw [hm]
        simp only [BitVec.not_zero, BitVec.and_allOnes, BitVec.and_zero, BitVec.or_zero, BitVec.ofNat_eq_ofNat]
      rw [List.map_cons, List.filter_cons, if_pos (by simpa [hv] using hne)]
      simp [tabGet, hv]
    · have ht : tabGet resetWord ((k, w) :: t) a = tabGet resetWord t a := by simp [tabGet, hk]
      rw [ht] at hne ⊢
      rw [List.map_cons, List.filter_cons]
      split
      · simpa [tabGet, hk] using ih hne
      · exact ih hne

/-- The bits of the mask are at their reset value, whatever the bank held. -/
theorem resetBank_mask (mask : Nat → Word) (l : List (Nat × Word)) (a : Nat) :
    tabGet resetWord (resetBank mask l) a &&& mask a = resetWord a &&& mask a := by
  unfold resetBank
  induction l with
  | nil => rfl
  | cons e t ih =>
    obtain ⟨k, w⟩ := e
    rw [List.map_cons, List.filter_cons]
    split
    · by_cases hk : k = a
      · subst hk
        simp only [tabGet, if_true]
        exact merge_and_mask _ _ _
      · simpa [tabGet, hk] using ih
    · exact ih

/-- Outside the mask a canonical bank stands. -/
theorem resetBank_rest (mask : Nat → Word) {l : List (Nat × Word)} (a : Nat) (hw : tabWf resetWord l = true) :
    tabGet resetWord (resetBank mask l) a &&& ~~~ (mask a) = tabGet resetWord l a &&& ~~~ (mask a) := by
  rw [word_resetBank mask l a hw]
  ext i hi
  simp only [BitVec.getElem_and, BitVec.getElem_or, BitVec.getElem_not]
  cases (mask a)[i] <;> simp

/-! ### What a block reset leaves -/

/-- The reset is under way, and named. -/
def blkMarked (s : State) (p : Nat) : State :=
  ((s.withRst { s.rst with blocks := ⟨p, true⟩ :: s.rst.blocks.filter (fun b => b.page ≠ p) }).put F.RST_BLK_STAT_LAST_UNIT p).blkInject (unitPages p)

/-- The unit's block bits are at their reset values. -/
def blkCleared (s : State) (p : Nat) : State := ((blkMarked s p).blockFields (unitPages p)).blkField p

/-- The unit and its children start anew. -/
def blkAnew (s : State) (p : Nat) : State := (unitPages p).foldl (fun s q => s.blkUnit q) (blkCleared s p)

theorem blkWrite_eq (s : State) (hs : s.rst.scope.isSome = false) (h0 : p ≠ 0) (hr : blkRefused p = false) :
    s.blkWrite p = (if blkDefers p then (blkAnew s p).blkDefer else blkAnew s p).settle :=
  (if_neg (by simp [hs, h0])).trans (if_neg (by simp [hr]))

theorem blkWrite_refused (s : State) (hs : s.rst.scope.isSome = false) (h0 : p ≠ 0) (hr : blkRefused p = true) : s.blkWrite p = s.evt F.RST_EVT_BLK_REJ :=
  (if_neg (by simp [hs, h0])).trans (if_pos hr)

theorem blkMarked_fits (s : State) (p : Nat) : s.Fits (Foot.of [0x02, 0x70] [.rst]) (blkMarked s p) :=
  blkInject_fits _ _ (by decide) (put_fits _ (by decide) (withRst_fits _ rfl (fits_refl _ s)))

theorem blkInject_rst (s : State) (l : List Nat) : (s.blkInject l).rst = s.rst :=
  within_rst (blkInject_fits s l (le_self _) (fits_refl _ s)).within rfl (by decide)

theorem blkMarked_rst (s : State) (p : Nat) : (blkMarked s p).rst = { s.rst with blocks := ⟨p, true⟩ :: s.rst.blocks.filter (fun b => b.page ≠ p) } :=
  (blkInject_rst _ _).trans (put_rst ..)

theorem blkMarked_last (s : State) (hp : p < 0x8D) : (blkMarked s p).g F.RST_BLK_STAT_LAST_UNIT = p := by
  have h : ∀ u : State, (u.blkInject (unitPages p)).g F.RST_BLK_STAT_LAST_UNIT = u.g F.RST_BLK_STAT_LAST_UNIT := fun u =>
    ite_g (fun _ => (g_put_sep _ _ (by decide)).trans (g_put_sep _ _ (by decide))) (fun _ => rfl)
  rw [blkMarked, h]
  exact g_put_self (by decide) (by decide) (Nat.lt_of_lt_of_le hp (by decide))

theorem blockFields_rst (s : State) (l : List Nat) : (s.blockFields l).rst = s.rst := rfl
theorem blockFields_mem (s : State) (l : List Nat) : (s.blockFields l).mem = s.mem := rfl
theorem blockFields_word (s : State) (l : List Nat) (a : Nat) : (s.blockFields l).word a = tabGet resetWord (resetBank (pagesMask l) s.regs) a := rfl
theorem blockFields_shadow (s : State) (l : List Nat) (a : Nat) : (s.blockFields l).shadowWord a = tabGet resetWord (resetBank (pagesMask l) s.shadow) a := rfl

/-- A field outside the pages, in a register off its reset value, stands. -/
theorem blockFields_keeps (s : State) {l : List Nat} (hm : pagesMask l f.addr = 0) (hne : s.g f ≠ wordField (resetWord f.addr) f.hi f.lo) :
    (s.blockFields l).g f = s.g f := by
  have hw : s.word f.addr ≠ resetWord f.addr := fun h => hne (by rw [State.g, h])
  rw [State.g, blockFields_word, resetBank_keeps hm hw, ← State.word, ← State.g]

theorem unitPages_reset (hp : p < 0x8D) (h2 : blkRefused p = false) : 2 ∉ unitPages p := by
  have h : (List.range 0x8D).all (fun p => blkRefused p || !(unitPages p).contains 2) = true := by decide +kernel
  have hq := List.all_eq_true.1 h p (List.mem_range.2 hp)
  rw [h2] at hq
  simpa using hq

theorem blkField_fits' (s : State) (p : Nat) : s.Fits (Foot.of [0x68] []) (s.blkField p) := blkField_fits s p (le_self _) (fits_refl _ s)

theorem blkCleared_rst (s : State) (p : Nat) : (blkCleared s p).rst = { s.rst with blocks := ⟨p, true⟩ :: s.rst.blocks.filter (fun b => b.page ≠ p) } := by
  rw [blkCleared, within_rst (blkField_fits' _ p).within rfl (by decide), blockFields_rst, blkMarked_rst]

theorem blkCleared_mem (s : State) (p : Nat) : (blkCleared s p).mem = s.mem := by
  rw [blkCleared, within_mem (blkField_fits' _ p).within rfl (by decide), blockFields_mem, within_mem (blkMarked_fits s p).within rfl (by decide)]

theorem blkCleared_last (s : State) (hp : p < 0x8D) (h0 : p ≠ 0) (h2 : blkRefused p = false) : (blkCleared s p).g F.RST_BLK_STAT_LAST_UNIT = p := by
  have hmask : pagesMask (unitPages p) F.RST_BLK_STAT_LAST_UNIT.addr = 0 := if_neg (by
    rw [show F.RST_BLK_STAT_LAST_UNIT.addr / 4096 = 2 from rfl]
    simpa using unitPages_reset hp h2)
  have hr : wordField (resetWord F.RST_BLK_STAT_LAST_UNIT.addr) F.RST_BLK_STAT_LAST_UNIT.hi F.RST_BLK_STAT_LAST_UNIT.lo = 0 := by decide +kernel
  rw [blkCleared, within_g (blkField_fits' _ p).within rfl _ (by decide), blockFields_keeps _ hmask (by rw [blkMarked_last s hp, hr]; exact h0), blkMarked_last s hp]

/-- A field of the unit itself, in a register without block bits, stands off its reset value. -/
theorem blkCleared_own (s : State) (hmask : blockMask f.addr = 0) (hne : s.g f ≠ wordField (resetWord f.addr) f.hi f.lo)
    (hpage : groupPage f.page ≠ 0x02 ∧ groupPage f.page ≠ 0x70 ∧ groupPage f.page ≠ 0x68) : (blkCleared s p).g f = s.g f := by
  obtain ⟨h2, h70, h68⟩ := hpage
  have hm : pagesMask (unitPages p) f.addr = 0 := by
    unfold pagesMask
    split_ifs
    · exact hmask
    · rfl
  have hmarked : (blkMarked s p).g f = s.g f := within_g (blkMarked_fits s p).within rfl f (by simp [Foot.of, h2, h70])
  rw [blkCleared, within_g (blkField_fits' _ p).within rfl f (by simp [Foot.of, h68]), blockFields_keeps _ hm (by rw [hmarked]; exact hne), hmarked]

/-! ### The units of the reset -/

/-- A unit's own reset leaves the name of the unit. -/
theorem blkUnit_last (s : State) (q : Nat) : (s.blkUnit q).g F.RST_BLK_STAT_LAST_UNIT = s.g F.RST_BLK_STAT_LAST_UNIT := by
  have hf : Aside F.RST_BLK_STAT_LAST_UNIT := aside_iff.1 (by decide)
  have hleave : ∀ {t : State} {units : List Nat} {parts : List Part}, s.Fits (Foot.of units parts) t → units.contains 0x02 = false →
      t.g F.RST_BLK_STAT_LAST_UNIT = s.g F.RST_BLK_STAT_LAST_UNIT := fun h hu => fits_g h rfl hu
  unfold State.blkUnit
  split_ifs with h1 h2 h3 h4 h5 h6 h7
  · exact hleave (blkLink_fits s _ (le_self _) (fits_refl _ s)) rfl
  · exact hleave (blkCsf_fits s (le_self _) (fits_refl _ s)) rfl
  · exact hleave (blkSaf_fits s (le_self _) (fits_refl _ s)) rfl
  · exact hleave (blkEngine_fits s _ (le_self _) (fits_refl _ s)) rfl
  · exact hleave (blkCal_fits s (le_self _) (fits_refl _ s)) rfl
  · exact hleave (blkFlx_fits s (le_self _) (fits_refl _ s)) rfl
  · have hn : q - 0x51 < 8 := by omega
    have hput : ∀ (u : State) v, (u.put (F.TL_STAT_STATE (q - 0x51)) v).g F.RST_BLK_STAT_LAST_UNIT = u.g F.RST_BLK_STAT_LAST_UNIT := fun u v =>
      g_put_sep _ _ ((by decide : ∀ n < 8, sep (F.TL_STAT_STATE n) F.RST_BLK_STAT_LAST_UNIT = true) _ hn)
    have hwake : ∀ u : State, (u.laneWake (q - 0x51)).g F.RST_BLK_STAT_LAST_UNIT = u.g F.RST_BLK_STAT_LAST_UNIT := fun u =>
      ite_g (fun _ => (modLane_g ..).trans (hput u 1)) (fun _ => rfl)
    unfold State.blkLane
    extract_lets st v
    refine ite_g (fun _ => (hwake _).trans ((modLane_g ..).trans (hput s 0))) (fun _ => ite_g (fun _ => rfl) (fun _ => (hput _ 1).trans ?_))
    exact (modLane_g ..).trans (abortPacket_aside hf s hn)
  · exact hleave (blkSeg_fits s (le_self _) (fits_refl _ s)) rfl
  · rfl
  · rfl

/-- The parts and pages that a unit's own reset may touch. -/
def unitFoot : Foot :=
  Foot.of [0x00, 0x02, 0x08, 0x09, 0x0B, 0x18, 0x30, 0x40, 0x50, 0x60, 0x68, 0x70, 0x71]
    [.flt, .evr, .saf, .lnkA, .lnkB, .csf, .cmp, .glare, .lanes, .tln, .cal, .flx, .seg, .thm]

/-- What the units' resets leave of the state before. -/
theorem blkUnits_fits (l : List Nat) (s : State) : s.Fits unitFoot (l.foldl (fun s q => s.blkUnit q) s) :=
  fits_foldl l _ (fun q _ u hu => blkUnit_fits u q (le_self _) hu) (fits_refl _ s)

/-- The whole of a block reset but for its beginning. -/
def blkRest (s : State) (p : Nat) : State := (if blkDefers p then (blkAnew s p).blkDefer else blkAnew s p).settle

theorem blkRest_fits (s : State) (p : Nat) : (blkCleared s p).Fits unitFoot (blkRest s p) := by
  have h := blkUnits_fits (unitPages p) (blkCleared s p)
  exact settle_fits _ (by decide) (fits_ite (blkDefer_fits _ (by decide) h) h)

theorem blkRest_last (s : State) (hp : p < 0x8D) (h0 : p ≠ 0) (h2 : blkRefused p = false) : (blkRest s p).g F.RST_BLK_STAT_LAST_UNIT = p := by
  have hf : Aside F.RST_BLK_STAT_LAST_UNIT := aside_iff.1 (by decide)
  have h := (foldl_g (h := fun s q => State.blkUnit s q) (fun u q => blkUnit_last u q) (unitPages p) _).trans (blkCleared_last s hp h0 h2)
  refine (settle_g _ (by decide)).trans ?_
  refine ite_g (s := blkAnew s p) (fun _ => ?_) (fun _ => rfl) |>.trans h
  exact ite_g (fun _ => deferFlip_aside hf _ _) (fun _ => rfl)

/-- The units without a duty of their own at a block reset. -/
def plainUnit (p : Nat) : Bool := [0x03, 0x0A, 0x10, 0x40, 0x80, 0x81, 0x88, 0x89, 0x8A, 0x8B, 0x8C].contains p

theorem blkRest_plain (s : State) (h : plainUnit p = true) : blkRest s p = (blkCleared s p).settle := by
  have hunit : ∀ q ∈ [0x03, 0x0A, 0x10, 0x40, 0x80, 0x81, 0x88, 0x89, 0x8A, 0x8B, 0x8C], ∀ u : State, u.blkUnit q = u := by
    intro q hq u
    simp only [List.mem_cons, List.not_mem_nil, or_false] at hq
    rcases hq with rfl | rfl | rfl | rfl | rfl | rfl | rfl | rfl | rfl | rfl | rfl <;> rfl
  have hpages : ∀ p ∈ [0x03, 0x0A, 0x10, 0x40, 0x80, 0x81, 0x88, 0x89, 0x8A, 0x8B, 0x8C], blkDefers p = false ∧
      unitPages p ⊆ [0x03, 0x0A, 0x10, 0x40, 0x80, 0x81, 0x88, 0x89, 0x8A, 0x8B, 0x8C] := by decide
  obtain ⟨hdef, hsub⟩ := hpages p (by simpa [plainUnit] using h)
  have hanew : blkAnew s p = blkCleared s p :=
    List.foldlRecOn (motive := fun u : State => u = blkCleared s p) _ _ rfl (fun u hu q hq => by rw [hunit q (hsub hq), hu])
  rw [blkRest, hdef, hanew]
  rfl

/-- The registers of such a unit: block bits at their reset values, the others as they were. -/
theorem blkRest_words (s : State) (h : plainUnit p = true) (ha : a / 4096 = p) :
    (blkRest s p).word a &&& blockMask a = resetWord a &&& blockMask a ∧ (blkRest s p).shadowWord a &&& blockMask a = resetWord a &&& blockMask a
      ∧ (s.regsWf = true → (blkRest s p).word a &&& ~~~ (blockMask a) = s.word a &&& ~~~ (blockMask a)) := by
  have hin : p ∈ [0x03, 0x0A, 0x10, 0x40, 0x80, 0x81, 0x88, 0x89, 0x8A, 0x8B, 0x8C] := by simpa [plainUnit] using h
  have hpage : groupPage p ∉ [0x02, 0x70] ∧ groupPage p ∉ [0x68] := (by decide : ∀ p ∈ [0x03, 0x0A, 0x10, 0x40, 0x80, 0x81, 0x88, 0x89, 0x8A, 0x8B, 0x8C],
    groupPage p ∉ [0x02, 0x70] ∧ groupPage p ∉ [0x68]) p hin
  have hmask : pagesMask (unitPages p) a = blockMask a := if_pos (by rw [ha]; simp [unitPages])
  have hset : (blkCleared s p).Fits (Foot.of [0x68] []) (blkCleared s p).settle := settle_fits _ (le_self _) (fits_refl _ _)
  have hword : (blkRest s p).word a = tabGet resetWord (resetBank (pagesMask (unitPages p)) (blkMarked s p).regs) a := by
    rw [blkRest_plain s h, within_word hset.within rfl (by rw [ha]; exact hpage.2), blkCleared,
      within_word (blkField_fits' _ p).within rfl (by rw [ha]; exact hpage.2), blockFields_word]
  have hshadow : (blkRest s p).shadowWord a = tabGet resetWord (resetBank (pagesMask (unitPages p)) (blkMarked s p).shadow) a := by
    have h1 : (blkRest s p).shadow = ((blkMarked s p).blockFields (unitPages p)).shadow := by
      rw [blkRest_plain s h, within_shadow hset.within rfl (by decide), blkCleared, within_shadow (blkField_fits' _ p).within rfl (by decide)]
    rw [State.shadowWord, h1, ← State.shadowWord, blockFields_shadow]
  refine ⟨?_, ?_, fun hw => ?_⟩
  · rw [hword, ← hmask]
    exact resetBank_mask _ _ a
  · rw [hshadow, ← hmask]
    exact resetBank_mask _ _ a
  · have hwf := regsWf_regs ((blkMarked_fits s p).keeps.regs hw)
    rw [hword, ← hmask, resetBank_rest _ a hwf, ← State.word, within_word (blkMarked_fits s p).within rfl (by rw [ha]; exact hpage.1)]


/-- A link that starts anew aligns again, its buffer empty. -/
theorem blkRest_link (s : State) (hl : l < 2) :
    ((blkRest s (8 + l)).link l).rx = [] ∧ (4 ≤ s.lst l → s.lst l ≤ 6 → (blkRest s (8 + l)).lst l = 3) := by
  obtain ⟨hunit, hpages, hdef⟩ : (∀ u : State, u.blkUnit (8 + l) = u.blkLink l) ∧ unitPages (8 + l) = [8 + l] ∧ blkDefers (8 + l) = false := by
    obtain rfl | rfl : l = 0 ∨ l = 1 := by omega
    · exact ⟨fun _ => rfl, rfl, rfl⟩
    · exact ⟨fun _ => rfl, rfl, rfl⟩
  have hrest : blkRest s (8 + l) = ((blkCleared s (8 + l)).blkLink l).settle := by
    rw [blkRest, blkAnew, hdef, hpages, List.foldl_cons, List.foldl_nil, hunit]
    rfl
  have hset := (settle_fits ((blkCleared s (8 + l)).blkLink l) (le_self _) (fits_refl _ _)).within
  have hlink : ((blkCleared s (8 + l)).blkLink l).settle.link l = ((blkCleared s (8 + l)).blkLink l).link l := by
    rw [State.link, within_lnkA hset rfl (by decide), within_lnkB hset rfl (by decide), ← State.link]
  rw [hrest]
  generalize hc : blkCleared s (8 + l) = c at hset hlink ⊢
  refine ⟨?_, fun h4 h6 => ?_⟩
  · rw [hlink]
    unfold State.blkLink
    extract_lets v
    have hv : (v.link l).rx = [] := by simp only [v, GylysLinks.modLink_link]
    split_ifs
    · have hrx : ((v.linkTo l 3).link l).rx = (v.link l).rx := by
        unfold State.linkTo
        extract_lets was w
        split_ifs
        · rw [GylysLinks.modLink_link, GylysLinks.put_link]
        · rw [GylysLinks.put_link]
      exact hrx.trans hv
    · exact hv
  · have hown : c.lst l = s.lst l := by
      have hfacts : ∀ l < 2, blockMask (F.LNK_STAT_STATE l).addr = 0 ∧ wordField (resetWord (F.LNK_STAT_STATE l).addr) (F.LNK_STAT_STATE l).hi (F.LNK_STAT_STATE l).lo = 0 := by
        decide +kernel
      obtain ⟨hm, hr⟩ := hfacts l hl
      rw [← hc]
      refine blkCleared_own s hm ?_ ((by decide : ∀ l < 2, groupPage (F.LNK_STAT_STATE l).page ≠ 0x02 ∧ groupPage (F.LNK_STAT_STATE l).page ≠ 0x70
        ∧ groupPage (F.LNK_STAT_STATE l).page ≠ 0x68) l hl)
      rw [hr]
      have : 4 ≤ s.g (F.LNK_STAT_STATE l) := h4
      omega
    have hst : ((c.blkLink l).settle).lst l = (c.blkLink l).lst l := settle_g _ ((by decide : ∀ l < 2, F.SAF_STAT_FSTATE.apart (F.LNK_STAT_STATE l) = true) l hl)
    rw [hst]
    unfold State.blkLink
    extract_lets v
    have hv : v.lst l = s.lst l := (modLink_g ..).trans hown
    have hto : (v.linkTo l 3).lst l = 3 := by
      have hput : (v.put (F.LNK_STAT_STATE l) 3).g (F.LNK_STAT_STATE l) = 3 := g_put_self (by simp [F.LNK_STAT_STATE]) (by simp [F.LNK_STAT_STATE]) (by simp [F.LNK_STAT_STATE])
      unfold State.linkTo
      exact ite_g (fun _ => (modLink_g ..).trans rfl) (fun _ => rfl) |>.trans hput
    rw [if_pos (by rw [hv]; simp [h4, h6])]
    exact hto

/-- A lane that starts anew trains from the beginning. -/
theorem blkRest_lane (s : State) (hn : n < 8) (h0 : s.tlst n ≠ 0) (h8 : s.tlst n ≠ 8) : (blkRest s (0x51 + n)).tlst n = 1 := by
  obtain ⟨hunit, hpages, hdef⟩ : (∀ u : State, u.blkUnit (0x51 + n) = u.blkLane n) ∧ unitPages (0x51 + n) = [0x51 + n] ∧ blkDefers (0x51 + n) = false := by
    obtain rfl | rfl | rfl | rfl | rfl | rfl | rfl | rfl : n = 0 ∨ n = 1 ∨ n = 2 ∨ n = 3 ∨ n = 4 ∨ n = 5 ∨ n = 6 ∨ n = 7 := by omega
    all_goals exact ⟨fun _ => rfl, rfl, rfl⟩
  have hfacts : ∀ n < 8, blockMask (F.TL_STAT_STATE n).addr = 0 ∧ wordField (resetWord (F.TL_STAT_STATE n).addr) (F.TL_STAT_STATE n).hi (F.TL_STAT_STATE n).lo = 0 := by
    decide +kernel
  obtain ⟨hm, hr⟩ := hfacts n hn
  have hown : (blkCleared s (0x51 + n)).tlst n = s.tlst n :=
    blkCleared_own s hm (by rw [hr]; exact h0) ((by decide : ∀ n < 8, groupPage (F.TL_STAT_STATE n).page ≠ 0x02 ∧ groupPage (F.TL_STAT_STATE n).page ≠ 0x70
      ∧ groupPage (F.TL_STAT_STATE n).page ≠ 0x68) n hn)
  have hrest : blkRest s (0x51 + n) = ((blkCleared s (0x51 + n)).blkLane n).settle := by
    rw [blkRest, blkAnew, hdef, hpages, List.foldl_cons, List.foldl_nil, hunit]
    rfl
  rw [hrest]
  refine (settle_g _ ((by decide : ∀ n < 8, F.SAF_STAT_FSTATE.apart (F.TL_STAT_STATE n) = true) n hn)).trans ?_
  unfold State.blkLane
  extract_lets st v
  have hst : st = s.tlst n := hown
  rw [if_neg (by rw [hst]; exact h8), if_neg (by rw [hst]; exact h0)]
  exact g_put_self (by simp [F.TL_STAT_STATE]) (by simp [F.TL_STAT_STATE]) (by simp [F.TL_STAT_STATE])

/-! ### A refused world -/

/-- The first violation is on record. -/
def violNoted (s : State) (m : Master) (a : Nat) (w : Bool) : State :=
  if s.on F.SEC_EVT_VIOL then s else ((s.put F.SEC_VIOL_MASTER (masterId m)).put F.SEC_VIOL_WRITE (bit w)).put F.SEC_VIOL_ADDR_ADDR a

/-- It is counted. -/
def violCounted (s : State) (m : Master) (a : Nat) (w : Bool) : State := ((violNoted s m a w).incSat F.SEC_VIOL_COUNT).evt F.SEC_EVT_VIOL

/-- The fields of a violation. -/
def violFields : List Fld := [F.SEC_VIOL_MASTER, F.SEC_VIOL_WRITE, F.SEC_VIOL_ADDR_ADDR, F.SEC_VIOL_COUNT, F.SEC_EVT_VIOL, F.UNIT_IRQ_STAT_EVT 0x78]

theorem violCounted_only (s : State) (m : Master) (a : Nat) (w : Bool) : s.Only violFields [] (violCounted s m a w) := by
  have hput : ∀ {u : State} {x : Fld} (v : Nat), x ∈ violFields → x.hi < 32 → s.Only violFields [] u → s.Only violFields [] (u.put x v) := fun v h1 h2 h => only_put v h1 h2 h
  have h0 : s.Only violFields [] (violNoted s m a w) := by
    refine only_ite (fun _ => only_refl _ _ s) (fun _ => ?_)
    exact hput _ (by simp [violFields]) (by decide) (hput _ (by simp [violFields]) (by decide) (hput _ (by simp [violFields]) (by decide) (only_refl _ _ s)))
  exact only_evt (by simp [violFields]) (by simp [violFields, F.SEC_EVT_VIOL]) (by decide) (only_incSat (by simp [violFields]) (by decide) h0)

/-- What a violation leaves. -/
theorem violation_leaves (s : State) (m : Master) (a : Nat) (w : Bool) (hm : masterId m < 32) (ha : a < 2 ^ 32) :
    (s.violation m a w).on F.SEC_EVT_VIOL = true ∧ (s.violation m a w).g F.SEC_VIOL_COUNT = min F.SEC_VIOL_COUNT.top (s.g F.SEC_VIOL_COUNT + 1)
      ∧ (s.on F.SEC_EVT_VIOL = false → (s.violation m a w).g F.SEC_VIOL_MASTER = masterId m ∧ (s.violation m a w).g F.SEC_VIOL_WRITE = bit w
          ∧ (s.violation m a w).g F.SEC_VIOL_ADDR_ADDR = a)
      ∧ (s.defLevel S.SEC_WORLD ≠ 0 → (s.violation m a w).on (fltPend S.SEC_WORLD) = true) := by
  have hquiet : ∀ {f : Fld}, quietField f = true → (s.violation m a w).g f = (violCounted s m a w).g f := fun h => raise_g _ _ _ h
  have hevt : ∀ {f : Fld} (u : State), sep F.SEC_EVT_VIOL f = true → sep (F.UNIT_IRQ_STAT_EVT 0x78) f = true → (u.evt F.SEC_EVT_VIOL).g f = u.g f := fun u h1 h2 =>
    g_evt_sep u h1 h2
  have hcount : (violNoted s m a w).g F.SEC_VIOL_COUNT = s.g F.SEC_VIOL_COUNT :=
    ite_g (fun _ => rfl) (fun _ => (g_put_sep _ _ (by decide)).trans ((g_put_sep _ _ (by decide)).trans (g_put_sep _ _ (by decide))))
  refine ⟨(on_congr (hquiet (by decide))).trans (on_evt_self _ (by decide)), ?_, fun hoff => ?_, fun hd => ?_⟩
  · rw [hquiet (by decide), violCounted, hevt _ (by decide) (by decide), g_incSat (by decide) (by decide) (g_le_top _ _), hcount]
  · have hn : violNoted s m a w = ((s.put F.SEC_VIOL_MASTER (masterId m)).put F.SEC_VIOL_WRITE (bit w)).put F.SEC_VIOL_ADDR_ADDR a := if_neg (by simp [hoff])
    have hstep : ∀ {f : Fld}, quietField f = true → sep F.SEC_EVT_VIOL f = true → sep (F.UNIT_IRQ_STAT_EVT 0x78) f = true → sep F.SEC_VIOL_COUNT f = true →
        (s.violation m a w).g f = (violNoted s m a w).g f := fun h1 h2 h3 h4 => (hquiet h1).trans ((hevt _ h2 h3).trans (g_incSat_sep _ h4))
    have hb : bit w < 2 := by cases w <;> decide
    refine ⟨?_, ?_, ?_⟩
    · rw [hstep (by decide) (by decide) (by decide) (by decide), hn, g_put_sep _ _ (by decide), g_put_sep _ _ (by decide)]
      exact g_put_self (by decide) (by decide) hm
    · rw [hstep (by decide) (by decide) (by decide) (by decide), hn, g_put_sep _ _ (by decide)]
      exact g_put_self (by decide) (by decide) hb
    · rw [hstep (by decide) (by decide) (by decide) (by decide), hn]
      exact g_put_self (by decide) (by decide) ha
  · refine raise_pend (violCounted s m a w) 0 (by decide) ?_
    have hl : (violCounted s m a w).defLevel S.SEC_WORLD = s.defLevel S.SEC_WORLD := by
      have hf := (violCounted_only s m a w).fields
      rw [State.defLevel, State.defLevel, on_congr (hf F.FLT_CTRL_MODE (by decide)), hf (fltSev S.SEC_WORLD) (by decide)]
    rw [hl]
    exact hd

/-- A page's world and enable stand through a violation. -/
theorem violation_ctrl (s : State) (m : Master) (a : Nat) (w : Bool) (hf : markField f = true ∨ lampField f = true) (hs : ∀ x ∈ violFields, x.apart f = true) :
    (s.violation m a w).g f = s.g f := by
  refine Eq.trans ?_ ((violCounted_only s m a w).fields f hs)
  rcases hf with hf | hf
  · exact FaultWrites.raise_mark hf _ 0 (by decide)
  · exact raise_lamp _ _ 0 hf

/-! ### The obligation -/

theorem flintSettles_g (p : Nat) (s : State) (h : F.SAF_STAT_FSTATE.apart f = true) : (flintSettles p s).g f = s.g f := by
  unfold flintSettles
  exact ite_g (fun _ => settle_g s h) (fun _ => rfl)

theorem flintSettles_plain (s : State) (h : p ≠ 0x68 ∧ p ≠ 0x40) : flintSettles p s = s := if_neg (by simp [h.1, h.2])

theorem flintSettles_fits (p : Nat) (s : State) : s.Fits (Foot.of [0x68] []) (flintSettles p s) :=
  fits_ite (settle_fits s (le_self _) (fits_refl _ s)) (fits_refl _ s)

theorem scope_running (hm : s.masterRuns m = true) : s.rst.scope.isSome = false := by
  have h := masterRuns_scope hm
  cases hs : s.rst.scope <;> simp_all

theorem enableHeld_congr (h : ∀ f, t.g f = s.g f) (p : Nat) : t.enableHeld p = s.enableHeld p := by
  have hc : ∀ n, t.crcServes n = s.crcServes n := fun n => by simp only [State.crcServes, h, fun f => on_congr (h f)]
  simp only [State.enableHeld, hc, show t.crcServes = s.crcServes from funext hc]

/-- A block reset of a unit that takes one. -/
theorem blkReset_leaves (hp : p < 0x8D) (ha : assigned p = true) (h0 : p ≠ 0) (hr : blkRefused p = false) (hm : s.masterRuns m = true)
    (hw : s.mayWrite m p 0x08 = true) (hbst : p = 0x79 → s.bistRuns = false) :
    ∃ t, exec (.blkReset m p) s = .next t ∧ t.blockRunning p = true ∧ t.quiet p = true ∧ t.g F.RST_BLK_STAT_LAST_UNIT = p
      ∧ t.rst = { s.rst with blocks := ⟨p, true⟩ :: s.rst.blocks.filter (fun b => b.page ≠ p) }
      ∧ (p ∈ [0x03, 0x0A, 0x10, 0x40, 0x80, 0x81, 0x88, 0x89, 0x8A, 0x8B, 0x8C] →
        (∀ a, a / 4096 = p → t.word a &&& blockMask a = resetWord a &&& blockMask a ∧ t.shadowWord a &&& blockMask a = resetWord a &&& blockMask a
          ∧ (s.regsWf = true → t.word a &&& ~~~ (blockMask a) = s.word a &&& ~~~ (blockMask a)))
        ∧ t.mem = s.mem)
      ∧ (∀ l, l < 2 → p = 8 + l → (t.link l).rx = [] ∧ (4 ≤ s.lst l → s.lst l ≤ 6 → t.lst l = 3))
      ∧ (∀ n, n < 8 → p = 0x51 + n → s.tlst n ≠ 0 → s.tlst n ≠ 8 → t.tlst n = 1) := by
  have hk := worldKept_only m p s.begin
  have hscope : (worldKept m p s.begin).rst.scope.isSome = false := by
    rw [hk.parts.rst (by decide)]
    exact scope_running hm
  have hrun := exec_blkReset hp ha hm hw hbst
  rw [blkWrite_eq _ hscope h0 hr] at hrun
  change exec (.blkReset m p) s = .next (flintSettles p (blkRest (worldKept m p s.begin) p)) at hrun
  have hkg := worldKept_g m p s.begin
  have hkw := worldKept_word m p s.begin
  have hkwf : s.regsWf = true → (worldKept m p s.begin).regsWf = true := fun h => by
    unfold worldKept
    split_ifs
    · exact (put_fits (f := Foot.of [groupPage p] []) _ (by simp [Foot.hasUnit, Foot.of, F.UNIT_CTRL_WORLD]) (fits_refl _ s.begin)).keeps.regs h
    · exact h
  generalize worldKept m p s.begin = w at hk hscope hrun hkg hkw hkwf
  have hset := flintSettles_fits p (blkRest w p)
  have hrst : (flintSettles p (blkRest w p)).rst = { s.rst with blocks := ⟨p, true⟩ :: s.rst.blocks.filter (fun b => b.page ≠ p) } := by
    rw [within_rst hset.within rfl (by decide), within_rst (blkRest_fits w p).within rfl (by decide), blkCleared_rst, hk.parts.rst (by decide)]
    rfl
  refine ⟨_, hrun, ?_, ?_, ?_, hrst, fun hin => ⟨fun a hpa => ?_, ?_⟩, fun l hl hpl => ?_, fun n hn hpn h0 h8 => ?_⟩
  · simp [State.blockRunning, hrst]
  · simp [State.quiet, hrst]
  · rw [flintSettles_g p _ (by decide), blkRest_last w hp h0 hr]
  · have hplain : plainUnit p = true := by simpa [plainUnit] using hin
    have hpage : groupPage p ≠ 0x68 := (by decide : ∀ p ∈ [0x03, 0x0A, 0x10, 0x40, 0x80, 0x81, 0x88, 0x89, 0x8A, 0x8B, 0x8C], groupPage p ≠ 0x68) p hin
    obtain ⟨h1, h2, h3⟩ := blkRest_words w hplain hpa
    have hsh : (flintSettles p (blkRest w p)).shadowWord a = (blkRest w p).shadowWord a := by
      rw [State.shadowWord, within_shadow hset.within rfl (by decide), ← State.shadowWord]
    rw [hsh, within_word hset.within rfl (by rw [hpa]; simpa [Foot.of] using hpage)]
    exact ⟨h1, h2, fun hwf => (h3 (hkwf hwf)).trans (by rw [hkw]; rfl)⟩
  · rw [within_mem hset.within rfl (by decide), within_mem (blkRest_fits w p).within rfl (by decide), blkCleared_mem, hk.parts.mem (by decide)]
    rfl
  · have hpl' : p ≠ 0x68 ∧ p ≠ 0x40 := by omega
    rw [flintSettles_plain _ hpl', hpl]
    obtain ⟨h1, h2⟩ := blkRest_link w hl
    have hl4 : w.lst l = s.lst l := hkg _
    rw [hl4] at h2
    exact ⟨h1, h2⟩
  · have hpn' : p ≠ 0x68 ∧ p ≠ 0x40 := by omega
    rw [flintSettles_plain _ hpn', hpn]
    have ht : w.tlst n = s.tlst n := hkg _
    exact blkRest_lane w hn (by rw [ht]; exact h0) (by rw [ht]; exact h8)


theorem worldFlags (hp : p < 0x8D) : (markField (F.UNIT_CTRL_WORLD (groupPage p)) = true ∨ lampField (F.UNIT_CTRL_WORLD (groupPage p)) = true)
    ∧ (markField (F.UNIT_CTRL_ENABLE p) = true ∨ lampField (F.UNIT_CTRL_ENABLE p) = true) := by
  have h : (List.range 0x8D).all (fun p => (markField (F.UNIT_CTRL_WORLD (groupPage p)) || lampField (F.UNIT_CTRL_WORLD (groupPage p)))
      && (markField (F.UNIT_CTRL_ENABLE p) || lampField (F.UNIT_CTRL_ENABLE p))) = true := by decide +kernel
  simpa using List.all_eq_true.1 h p (List.mem_range.2 hp)

theorem viol_apart_world (q : Nat) : ∀ x ∈ violFields, x.apart (F.UNIT_CTRL_WORLD q) = true := by
  intro x hx
  have hoff : ∀ x ∈ violFields, x.off % 4096 ≠ 0x08 := by decide
  have hne : x.addr ≠ (F.UNIT_CTRL_WORLD q).addr := by
    have := hoff x hx
    simp only [Fld.addr, F.UNIT_CTRL_WORLD]
    omega
  simp [Fld.apart, hne]

theorem viol_apart_enable (q : Nat) : ∀ x ∈ violFields, x.apart (F.UNIT_CTRL_ENABLE q) = true := by
  intro x hx
  have hoff : ∀ x ∈ violFields, x.off % 4096 ≠ 0x08 := by decide
  have hne : x.addr ≠ (F.UNIT_CTRL_ENABLE q).addr := by
    have := hoff x hx
    simp only [Fld.addr, F.UNIT_CTRL_ENABLE]
    omega
  simp [Fld.apart, hne]

theorem fstate_apart_ctrl (q : Nat) : F.SAF_STAT_FSTATE.apart (F.UNIT_CTRL_WORLD q) = true ∧ F.SAF_STAT_FSTATE.apart (F.UNIT_CTRL_ENABLE q) = true :=
  ⟨sep_apart (by simp [sep, F.SAF_STAT_FSTATE, F.UNIT_CTRL_WORLD]), sep_apart (by simp [sep, F.SAF_STAT_FSTATE, F.UNIT_CTRL_ENABLE])⟩

theorem bit_field_lt (v : Word) (k : Nat) : wordField v k k < 2 := by
  have h : k + 1 - k = 1 := by omega
  simp only [wordField, h]
  omega

/-- Garnet changes the world of a unit. -/
theorem garnet_world (hp : p < 0x8D) (ha : assigned p = true) (hfix : worldFixed p = false) (hg : groupPage p = p) (hm : s.masterRuns .garnet = true)
    (hw : s.mayWrite .garnet p 0x08 = true) (hbst : p = 0x79 → s.bistRuns = false) (h1 : wordField v 1 1 = 0) (he : wordField v 0 0 = s.g (F.UNIT_CTRL_ENABLE p)) :
    ∃ t, exec (.worldWrite .garnet p v) s = .next t ∧ t.world p = wordField v 2 2 ∧ s.begin.Only [F.UNIT_CTRL_WORLD p] [] t := by
  have hplain : p ≠ 0x68 ∧ p ≠ 0x40 := by
    refine ⟨?_, ?_⟩ <;> rintro rfl <;> exact absurd hfix (by decide)
  have hbit : s.begin.worldBit .garnet p (wordField v 2 2) = s.begin.put (F.UNIT_CTRL_WORLD p) (wordField v 2 2) :=
    (if_pos rfl).trans (if_neg (by simp [hfix, hg]))
  have hen : (s.begin.put (F.UNIT_CTRL_WORLD p) (wordField v 2 2)).g (F.UNIT_CTRL_ENABLE p) = wordField v 0 0 :=
    (g_put_sep _ _ (by simp [sep, F.UNIT_CTRL_WORLD, F.UNIT_CTRL_ENABLE])).trans he.symm
  refine ⟨s.begin.put (F.UNIT_CTRL_WORLD p) (wordField v 2 2), ?_, ?_, only_put _ (by simp) (by simp [F.UNIT_CTRL_WORLD]) (only_refl _ _ _)⟩
  · rw [exec_worldWrite hp ha hm hw hbst h1, flintSettles_plain _ hplain, hbit, enableBit_same hen]
  · rw [State.world, hg]
    exact g_put_self (by simp [F.UNIT_CTRL_WORLD]) (by simp [F.UNIT_CTRL_WORLD]) (bit_field_lt v 2)

/-- A master that runs has an identity of its own. -/
theorem masterId_small (hm : s.masterRuns m = true) : masterId m < 32 := by
  cases m with
  | link l =>
    have hl : l < 2 := by
      simp only [State.masterRuns, Bool.and_eq_true, decide_eq_true_eq] at hm
      exact hm.2.1.1
    show 3 + l < 32
    omega
  | beam n =>
    have hn : n < 8 := by
      simp only [State.masterRuns, Bool.and_eq_true, decide_eq_true_eq] at hm
      exact hm.2.1
    show 5 + n < 32
    omega
  | garnet => decide
  | flint => decide
  | app => decide
  | reg => decide
  | spi => decide
  | tap => decide
  | qspi => decide

/-- Another master's world is recorded as a violation where it is another one. -/
theorem other_world (hp : p < 0x8D) (ha : assigned p = true) (hmg : m ≠ .garnet) (hm : s.masterRuns m = true) (hw : s.mayWrite m p 0x08 = true)
    (hbst : p = 0x79 → s.bistRuns = false) (h1 : wordField v 1 1 = 0) (he : wordField v 0 0 = s.g (F.UNIT_CTRL_ENABLE p)) (hne : wordField v 2 2 ≠ s.world p) :
    ∃ t, exec (.worldWrite m p v) s = .next t ∧ t.world p = s.world p ∧ t.on F.SEC_EVT_VIOL = true
      ∧ t.g F.SEC_VIOL_COUNT = min F.SEC_VIOL_COUNT.top (s.g F.SEC_VIOL_COUNT + 1)
      ∧ (s.on F.SEC_EVT_VIOL = false → t.g F.SEC_VIOL_MASTER = masterId m ∧ t.g F.SEC_VIOL_WRITE = 1 ∧ t.g F.SEC_VIOL_ADDR_ADDR = 0x40000008 + 0x1000 * p)
      ∧ (s.defLevel S.SEC_WORLD ≠ 0 → t.on (fltPend S.SEC_WORLD) = true) ∧ s.Within (Foot.reaction [0x78] []) t := by
  have hbit : s.begin.worldBit m p (wordField v 2 2) = s.begin.violation m (0x40000008 + 0x1000 * p) true :=
    (if_neg hmg).trans (if_neg (fun h => hne h.symm))
  obtain ⟨hfw, hfe⟩ := worldFlags hp
  have hen : (s.begin.violation m (0x40000008 + 0x1000 * p) true).g (F.UNIT_CTRL_ENABLE p) = wordField v 0 0 :=
    (violation_ctrl _ _ _ _ hfe (viol_apart_enable p)).trans he.symm
  obtain ⟨h2, h3, h4, h5⟩ := violation_leaves s.begin m (0x40000008 + 0x1000 * p) true (masterId_small hm) (by omega)
  have hworld := violation_ctrl s.begin m (0x40000008 + 0x1000 * p) true hfw (viol_apart_world _)
  have hfits := violation_fits (g := Foot.reaction [0x78] []) s.begin m (0x40000008 + 0x1000 * p) true (by decide) (fits_refl _ _)
  have hrun := exec_worldWrite hp ha hm hw hbst h1
  rw [hbit, enableBit_same hen] at hrun
  generalize s.begin.violation m (0x40000008 + 0x1000 * p) true = w at hrun h2 h3 h4 h5 hworld hfits
  refine ⟨_, hrun, (flintSettles_g p w (fstate_apart_ctrl _).1).trans hworld, (on_congr (flintSettles_g p w (by decide))).trans h2,
    (flintSettles_g p w (by decide)).trans h3, fun hoff => ?_, fun hd => (on_congr (flintSettles_g p w (by decide))).trans (h5 hd), ?_⟩
  · obtain ⟨ha, hb, hc⟩ := h4 hoff
    exact ⟨(flintSettles_g p w (by decide)).trans ha, (flintSettles_g p w (by decide)).trans hb, (flintSettles_g p w (by decide)).trans hc⟩
  · exact within_trans (begin_within (by decide) s) (within_trans hfits.within (within_mono (by decide) (flintSettles_fits p w).within))

/-- The end of a block reset. -/
theorem blockResetEnd_leaves (h : s.rst.blocks.any (fun b => b.page = p && b.running) = true) :
    ∃ t, exec (.blockResetEnd p) s = .next t ∧ t.rst = { s.rst with blocks := s.rst.blocks.map (fun b => if b.page = p then { b with running := false } else b) }
      ∧ t.quiet p = true ∧ s.Within (Foot.of [0x68] [.flt, .saf, .rst, .cal]) t := by
  have hex : exec (.blockResetEnd p) s = .next ((if p = 0x48 then
      (s.begin.withRst { s.begin.rst with blocks := s.begin.rst.blocks.map (fun b => if b.page = p then { b with running := false } else b) }).calResume
      else s.begin.withRst { s.begin.rst with blocks := s.begin.rst.blocks.map (fun b => if b.page = p then { b with running := false } else b) }).settle) :=
    congrArg Host.Outcome.next (if_pos h)
  have hrst : (s.begin.withRst { s.begin.rst with blocks := s.begin.rst.blocks.map (fun b => if b.page = p then { b with running := false } else b) }).rst
      = { s.rst with blocks := s.rst.blocks.map (fun b => if b.page = p then { b with running := false } else b) } := rfl
  have hfits : s.begin.Fits (Foot.of [0x68] [.flt, .saf, .rst, .cal])
      (s.begin.withRst { s.begin.rst with blocks := s.begin.rst.blocks.map (fun b => if b.page = p then { b with running := false } else b) }) :=
    withRst_fits _ (by decide) (fits_refl _ _)
  generalize s.begin.withRst { s.begin.rst with blocks := s.begin.rst.blocks.map (fun b => if b.page = p then { b with running := false } else b) } = w at hex hrst hfits
  have hrest : w.Fits (Foot.of [0x68] [.cal]) ((if p = 0x48 then w.calResume else w).settle) :=
    settle_fits _ (by decide) (fits_ite (calResume_fits w (by decide) (fits_refl _ w)) (fits_refl _ w))
  have ht := (within_rst hrest.within rfl (by decide)).trans hrst
  refine ⟨_, hex, ht, ?_, within_trans (begin_within (by decide) s) (within_trans hfits.within (within_mono (by decide) hrest.within))⟩
  obtain ⟨b, hb, hbp⟩ := List.any_eq_true.1 h
  simp only [Bool.and_eq_true, decide_eq_true_eq] at hbp
  unfold State.quiet
  rw [ht, List.any_eq_true]
  exact ⟨_, List.mem_map_of_mem hb, by simp [hbp.1]⟩

/-- Settles O53: a write of UNIT_CTRL is a change of world, then of enable, then a block reset; each reads its own bits. -/
theorem blockResetsAndWorlds : Obligations.BlockResetsAndWorlds := by
  refine ⟨fun s m hm hw => ?_, fun s m p hp hm hw => ?_, fun s m p hp ha h0 hr hm hw hbst => blkReset_leaves hp ha h0 hr hm hw hbst,
    fun s p h => blockResetEnd_leaves h, fun s p h => ?_, fun s p => ?_, fun s p v hp ha hfix hg hm hw hbst h1 he => garnet_world hp ha hfix hg hm hw hbst h1 he,
    fun s m p v hp ha hmg hm hw hbst h1 he => ⟨fun hsame => ?_, fun hne => other_world hp ha hmg hm hw hbst h1 he hne⟩,
    fun s m p v hp ha hm hw hbst h1 hsame _ hheld => ?_, fun s m v hm hw hb => ?_⟩
  · have hk : worldKept m 0 s.begin = s.begin := if_neg (fun h => absurd h.2.1 (by decide))
    rw [exec_blkReset (by decide) (by decide) hm hw (fun h => absurd h (by decide)), hk]
    exact congrArg Host.Outcome.next ((flintSettles_plain _ (by decide)).trans (if_pos (by simp)))
  · obtain ⟨hlt, has, h0, hr, hn⟩ : p < 0x8D ∧ assigned p = true ∧ p ≠ 0 ∧ blkRefused p = true ∧ p ≠ 0x68 ∧ p ≠ 0x40 ∧ p ≠ 0x79 := by
      simp only [List.mem_cons, List.not_mem_nil, or_false] at hp
      rcases hp with rfl | rfl | rfl | rfl | rfl <;> decide
    have hk := worldKept_only m p s.begin
    have hscope : (worldKept m p s.begin).rst.scope.isSome = false := by
      rw [hk.parts.rst (by decide)]
      exact scope_running hm
    refine ⟨_, (exec_blkReset hlt has hm hw (fun h => absurd h hn.2.2)).trans (congrArg Host.Outcome.next ((flintSettles_plain _ ⟨hn.1, hn.2.1⟩).trans
      (blkWrite_refused _ hscope h0 hr))), on_evt_self _ (by decide), ?_⟩
    exact only_evt (by simp) (by simp [F.RST_EVT_BLK_REJ]) (by decide) (only_mono (by simp) (by simp) hk)
  · exact congrArg Host.Outcome.next (if_neg (by
      rw [show s.begin.rst = s.rst from rfl, h]
      decide))
  · exact ⟨_, rfl, rfl, only_withRst (by simp) (only_refl _ _ _)⟩
  · have hbit : s.begin.worldBit m p (wordField v 2 2) = s.begin := (if_neg hmg).trans (if_pos hsame.symm)
    rw [exec_worldWrite hp ha hm hw hbst h1, hbit, enableBit_same (s := s.begin) he.symm]
    rfl
  · have hk := worldKept_g m p s.begin
    refine ⟨_, exec_worldWrite hp ha hm hw hbst h1, (flintSettles_g p _ (fstate_apart_ctrl p).2).trans ?_⟩
    rw [worldBit_same (s := s.begin) hsame]
    refine enableBit_leaves _ hp (bit_field_lt v 0) (hheld.imp_right (fun h => ?_))
    rw [enableHeld_congr hk]
    exact h
  · have hpage : ∀ off w, s.begin.pageWrite m 0x79 off w = s.begin := fun off w => if_pos (by
      rw [show s.begin.bistRuns = s.bistRuns from rfl, hb]
      rfl)
    have hrun : ∀ w, s.begin.masterWrite m (pageAddr 0x79 0x08) w = s.begin := fun w =>
      (masterWrite_page w ((begin_masterRuns s m).trans hm) hw (by decide) (by decide) (by decide) (by decide)).trans (hpage 0x08 w)
    exact ⟨congrArg Host.Outcome.next (hrun v), congrArg Host.Outcome.next (hrun _)⟩


end Sys2Proof.Proofs.BlockResets
end

section
/-! PROOF. Accesses on the bus (RegisterAndMemoryAccess). -/

namespace Sys2Proof.Proofs.BusAccess

open Sys2Proof.Machine Sys2Proof.Laws Sys2Proof.Proofs.Architecture Sys2Proof.Proofs.RegisterMap Sys2Proof.Proofs.Reading
  Sys2Proof.Proofs.GovernorSums Sys2Proof.Proofs.PlainRegisters Sys2Proof.Proofs.QuartzRoot Sys2Proof.Proofs.PacketConsumption
  Sys2Proof.Proofs.RegisterAgents Sys2Proof.Proofs.RecorderRuns Sys2Proof.Proofs.BlockResets Sys2Proof.Proofs.FlintLockOut

variable {s t u : State} {f : Fld} {p off a size : Nat} {m : Master} {v : Word} {b : List Byte}

/-! ### What each access is -/

theorem exec_write (hm : s.masterRuns m = true) : exec (.registerWrite m a v) s = .next (s.begin.busWrite m a (leBytes 4 v.toNat)) :=
  congrArg Host.Outcome.next (if_pos hm)

theorem exec_read {r : Word × State} (hm : s.masterRuns m = true) (n ecc : Nat) (h : s.begin.busRead m a n ecc = r) :
    exec (.registerRead m a n ecc) s = .next (r.2.withReadData [r.1]) := by
  subst h
  exact congrArg Host.Outcome.next (if_pos hm)

theorem exec_memory (hm : s.masterRuns m = true) : exec (.memoryWrite m a b) s = .next (s.begin.busWrite m a b) :=
  congrArg Host.Outcome.next (if_pos hm)

theorem exec_off (hm : s.masterRuns m = false) (a size ecc : Nat) (v : Word) (b : List Byte) :
    exec (.registerWrite m a v) s = .next s.begin ∧ exec (.registerRead m a size ecc) s = .next s.begin ∧ exec (.memoryWrite m a b) s = .next s.begin := by
  have hn : ¬ s.begin.masterRuns m = true := by rw [begin_masterRuns, hm]; decide
  exact ⟨congrArg Host.Outcome.next (if_neg hn), congrArg Host.Outcome.next (if_neg hn), congrArg Host.Outcome.next (if_neg hn)⟩

theorem pageAddr_small (hp : p < 0x8D) (ho : off < 4096) : pageAddr p off < 2 ^ 32 := by
  unfold pageAddr
  omega

/-! ### Refusals of the fabric -/

theorem busWrite_refused (hp : p < 0x8D) (ha : assigned p = true) (ho : off < 4096) (h4 : off % 4 = 0) (hw : s.mayWrite m p off = false) :
    s.busWrite m (pageAddr p off) (leBytes 4 v.toNat) = s.violation m (pageAddr p off) true := by
  have hd : (p * 4096 + off) / 4096 = p := by omega
  have hr : (p * 4096 + off) % 4096 = off := by omega
  have ha4 : pageAddr p off % 4 = 0 := by unfold pageAddr; omega
  unfold State.busWrite
  rw [if_pos (regionOf_page p off hp ho)]
  simp [pageOff_page, hd, hr, RecorderRuns.leBytes_length, ha, hw, ha4]

theorem busRead_refused (hp : p < 0x8D) (ha : assigned p = true) (ho : off < 4096) (h4 : off % 4 = 0) (hr : s.mayRead m p = false) :
    s.busRead m (pageAddr p off) 4 0 = (0, s.violation m (pageAddr p off) false) := by
  have hd : (p * 4096 + off) / 4096 = p := by omega
  have ha4 : pageAddr p off % 4 = 0 := by unfold pageAddr; omega
  unfold State.busRead
  rw [if_pos (regionOf_page p off hp ho)]
  simp [pageOff_page, hd, ha, hr, ha4]

theorem busWrite_width (h : regionOf a = some .pages) (h4 : a % 4 ≠ 0) : s.busWrite m a b = s.evt F.SYS_EVT_WIDTH :=
  (if_pos h).trans (if_pos (by simp [h4]))

theorem busWrite_nopage (hp : p < 0x8D) (ha : assigned p = false) (ho : off < 4096) (h4 : off % 4 = 0) :
    s.busWrite m (pageAddr p off) (leBytes 4 v.toNat) = s.evt F.SYS_EVT_NOPAGE := by
  have hd : (p * 4096 + off) / 4096 = p := by omega
  have ha4 : pageAddr p off % 4 = 0 := by unfold pageAddr; omega
  unfold State.busWrite
  rw [if_pos (regionOf_page p off hp ho)]
  simp [pageOff_page, hd, RecorderRuns.leBytes_length, ha, ha4]

theorem busRead_nopage (hp : p < 0x8D) (ha : assigned p = false) (ho : off < 4096) (h4 : off % 4 = 0) :
    s.busRead m (pageAddr p off) 4 0 = (0, s.evt F.SYS_EVT_NOPAGE) := by
  have hd : (p * 4096 + off) / 4096 = p := by omega
  have ha4 : pageAddr p off % 4 = 0 := by unfold pageAddr; omega
  unfold State.busRead
  rw [if_pos (regionOf_page p off hp ho)]
  simp [pageOff_page, hd, ha, ha4]

/-! ### Reads of a register -/

theorem readReg_plain {o : Nat} (hh : hiOf o = none) (hl : s.latches.find? (fun e => e.1 = (masterId m, o)) = none) : s.readReg m o = (s.readWord o, s) := by
  unfold State.readReg
  rw [hh, hl]

theorem readReg_low {o h : Nat} (hh : hiOf o = some h) : s.readReg m o =
    (s.readWord o, s.withLatches (((masterId m, h), s.readWord h) :: s.latches.filter (fun e => e.1 ≠ (masterId m, h)))) := by
  unfold State.readReg
  rw [hh]

theorem readReg_latched {o : Nat} {w : Word} (hh : hiOf o = none) (hl : s.latches.find? (fun e => e.1 = (masterId m, o)) = some ((masterId m, o), w)) :
    s.readReg m o = (w, s.withLatches (s.latches.filter (fun e => e.1 ≠ (masterId m, o)))) := by
  unfold State.readReg
  rw [hh, hl]

/-! ### Reads of memory -/

theorem memRead_open (h : ∀ i, i < size → s.readRefused m (a + i) = false ∧ ∃ r, regionOf (a + i) = some r ∧ r ≠ .pages ∧ (r = .flash → a + i - 0x60000000 < Config.flashSize))
    (ecc : Nat) : s.memRead m a size ecc = (let (ok, s) := s.eccCheck (a - a % 4) ecc
      if ok then (BitVec.ofNat 32 (s.le a size), s)
      else
        let (w, s) := s.free
        (BitVec.ofNat 32 (w % 256 ^ size), s)) := by
  have hfind : ((List.range size).map (a + ·)).find? (s.readRefused m) = none := by
    rw [List.find?_eq_none]
    intro x hx
    obtain ⟨i, hi, rfl⟩ := List.mem_map.1 hx
    simp [(h i (List.mem_range.1 hi)).1]
  have hmap : ((List.range size).map (a + ·)).any (fun x => (regionOf x).isNone ||
      (decide (regionOf x = some .flash) && decide (Config.flashSize ≤ x - 0x60000000))) = false := by
    rw [List.any_eq_false]
    intro x hx
    obtain ⟨i, hi, rfl⟩ := List.mem_map.1 hx
    obtain ⟨-, r, hr, -, hfl⟩ := h i (List.mem_range.1 hi)
    rw [hr]
    by_cases hrf : r = .flash
    · have := hfl hrf
      simp [hrf]
      omega
    · simp [hrf]
  unfold State.memRead
  dsimp only
  rw [hfind]
  exact if_neg (by rw [hmap]; decide)

theorem busRead_memory (h : regionOf a ≠ some .pages) (ecc : Nat) : s.busRead m a size ecc = s.memRead m a size ecc := if_neg h

/-- A read whose word needs no correction. -/
theorem eccCheck_clean (h : eccSource a = none ∨ (∃ c u, eccSource a = some (c, u) ∧ s.armed c = false ∧ s.armed u = false)) : s.eccCheck a 0 = (true, s) := by
  unfold State.eccCheck
  rcases h with h | ⟨c, u, h, hc, hu⟩
  · rw [h]
  · rw [h]
    simp [hc, hu]

theorem eccCheck_sram (h : regionOf a = some .sram) (hc : s.armed S.SRAM_ECC_COR = false) (hu : s.armed S.SRAM_ECC_UNC = false) :
    s.eccCheck a 1 = (true, s.raiseWith S.SRAM_ECC_COR 0 a false false) ∧ s.eccCheck a 2 = (false, s.raiseWith S.SRAM_ECC_UNC 0 a false false) := by
  have hs : eccSource a = some (S.SRAM_ECC_COR, S.SRAM_ECC_UNC) := by
    unfold eccSource
    rw [h]
  have h1 : s.eccCor a false = s.raiseWith S.SRAM_ECC_COR 0 a false false := by
    unfold State.eccCor
    rw [h]
  have h2 : s.eccUnc a false = s.raiseWith S.SRAM_ECC_UNC 0 a false false := by
    unfold State.eccUnc
    rw [h]
  unfold State.eccCheck
  rw [hs]
  simp [hc, hu, h1, h2]

theorem le_congr (h : t.mem = s.mem) (a n : Nat) : t.le a n = s.le a n := le_mem h a n

/-- A fault of memory leaves memory, and no value is taken for it. -/
theorem sramFault_leaves (s : State) (i a : Nat) (hi : i = S.SRAM_ECC_COR ∨ i = S.SRAM_ECC_UNC) :
    (s.raiseWith i 0 a false false).mem = s.mem ∧ (s.raiseWith i 0 a false false).fresh = s.fresh
      ∧ (s.defLevel i ≠ 0 → (s.raiseWith i 0 a false false).on (fltPend i) = true) := by
  have hunit : (Foot.of [0x00, 0x40, 0x50, 0x68, 0x70, 0x71] [.flt, .evr, .saf, .lanes]).hasUnit (groupPage (srcPage i 0)) = true := by
    rcases hi with rfl | rfl <;> decide
  have hlt : i < 75 := by rcases hi with rfl | rfl <;> decide
  have h := (raiseWith_fits (g := Foot.of [0x00, 0x40, 0x50, 0x68, 0x70, 0x71] [.flt, .evr, .saf, .lanes]) s i 0 a false false hunit (le_self _) (fits_refl _ s)).within
  exact ⟨within_mem h rfl (by decide), within_fresh h rfl (by decide), fun hd => raiseWith_pend s 0 a false false hlt hd⟩

/-! ### Writes of memory -/

theorem busWrite_memory (h : regionOf a ≠ some .pages) : s.busWrite m a b = s.memWrite m a b := if_neg h

theorem find_clear {P : Nat → Bool} {n : Nat} (h : ∀ i, i < n → P (a + i) = false) : ((List.range n).map (a + ·)).find? P = none := by
  rw [List.find?_eq_none]
  intro x hx
  obtain ⟨i, hi, rfl⟩ := List.mem_map.1 hx
  simp [h i (List.mem_range.1 hi)]

theorem any_clear {P : Nat → Bool} {n : Nat} (h : ∀ i, i < n → P (a + i) = false) : ((List.range n).map (a + ·)).any P = false := by
  rw [List.any_eq_false]
  intro x hx
  obtain ⟨i, hi, rfl⟩ := List.mem_map.1 hx
  simp [h i (List.mem_range.1 hi)]

theorem any_found {P : Nat → Bool} {n i : Nat} (hi : i < n) (h : P (a + i) = true) : ((List.range n).map (a + ·)).any P = true :=
  List.any_eq_true.2 ⟨a + i, List.mem_map.2 ⟨i, List.mem_range.2 hi, rfl⟩, h⟩

/-- A write whose every byte lies in memory that the master may write. -/
theorem memWrite_open (h : ∀ i, i < b.length → s.writeViolates m (a + i) = false ∧ ∃ r, regionOf (a + i) = some r ∧ r ≠ .pages ∧ r ≠ .rom) :
    s.memWrite m a b =
      if ((List.range b.length).map (a + ·)).any s.storeRefuses then s.evt F.CAL_EVT_STORE_WR
      else if ((List.range b.length).map (a + ·)).any s.kslotRefuses then s.evt F.GLR_EVT_KSLOT_WR
      else s.setBytes a b := by
  have hnone : ((List.range b.length).map (a + ·)).any (fun x => (regionOf x).isNone) = false := any_clear (fun i hi => by
    obtain ⟨-, r, hr, -⟩ := h i hi
    simp [hr])
  have hrom : ((List.range b.length).map (a + ·)).any (fun x => decide (regionOf x = some .rom) || decide (regionOf x = some .pages)) = false := any_clear (fun i hi => by
    obtain ⟨-, r, hr, hp, hm⟩ := h i hi
    simp [hr, hp, hm])
  unfold State.memWrite
  dsimp only
  rw [find_clear (fun i hi => (h i hi).1)]
  dsimp only
  rw [hnone, hrom]
  rfl

theorem setBytes_reads (s : State) (a : Nat) (b : List Byte) : (s.setBytes a b).bytes a b.length = b := by
  apply List.ext_getElem (by rw [bytes_length])
  intro i h1 h2
  have hg := bytes_getD (s.setBytes a b) a b.length i h2
  rw [List.getD_eq_getElem _ _ h1] at hg
  rw [hg, setBytes_byte, if_pos (by omega), Nat.add_sub_cancel_left, List.getD_eq_getElem _ _ h2]

/-- What a write of memory leaves. -/
theorem memoryWrite_leaves (hm : s.masterRuns m = true) (hb : b ≠ [])
    (h : ∀ i, i < b.length → s.writeViolates m (a + i) = false ∧ ∃ r, regionOf (a + i) = some r ∧ r ≠ .pages ∧ r ≠ .rom) :
    ((∀ i, i < b.length → s.storeRefuses (a + i) = false ∧ s.kslotRefuses (a + i) = false) →
      ∃ t, exec (.memoryWrite m a b) s = .next t ∧ t.bytes a b.length = b ∧ (∀ x, x < a ∨ a + b.length ≤ x → t.byte x = s.byte x)
        ∧ s.begin.Only [] [.mem] t)
    ∧ ((∃ i, i < b.length ∧ s.storeRefuses (a + i) = true) →
      ∃ t, exec (.memoryWrite m a b) s = .next t ∧ t.on F.CAL_EVT_STORE_WR = true ∧ s.begin.Only [F.CAL_EVT_STORE_WR, F.UNIT_IRQ_STAT_EVT 0x48] [] t)
    ∧ ((∀ i, i < b.length → s.storeRefuses (a + i) = false) → (∃ i, i < b.length ∧ s.kslotRefuses (a + i) = true) →
      ∃ t, exec (.memoryWrite m a b) s = .next t ∧ t.on F.GLR_EVT_KSLOT_WR = true ∧ s.begin.Only [F.GLR_EVT_KSLOT_WR, F.UNIT_IRQ_STAT_EVT 0x30] [] t) := by
  have hpos : 0 < b.length := List.length_pos_iff.2 hb
  have hpages : regionOf a ≠ some .pages := by
    obtain ⟨-, r, hr, hp, -⟩ := h 0 hpos
    rw [Nat.add_zero] at hr
    rw [hr]
    exact fun he => hp (Option.some.inj he)
  have hrun : exec (.memoryWrite m a b) s = .next (s.begin.memWrite m a b) := by rw [exec_memory hm, busWrite_memory hpages]
  rw [memWrite_open (s := s.begin) h] at hrun
  refine ⟨fun hok => ?_, fun ⟨i, hi, hr⟩ => ?_, fun hok ⟨i, hi, hr⟩ => ?_⟩
  · rw [if_neg (by rw [any_clear (P := s.begin.storeRefuses) (fun i hi => (hok i hi).1)]; decide),
      if_neg (by rw [any_clear (P := s.begin.kslotRefuses) (fun i hi => (hok i hi).2)]; decide)] at hrun
    exact ⟨_, hrun, setBytes_reads _ a b, fun x hx => (setBytes_byte b s.begin a x).trans (if_neg (by omega)), setBytes_only _ a b⟩
  · rw [if_pos (any_found (P := s.begin.storeRefuses) hi hr)] at hrun
    exact ⟨_, hrun, on_evt_self _ (by decide), only_evt (by simp) (by simp [F.CAL_EVT_STORE_WR]) (by decide) (only_refl _ _ _)⟩
  · rw [if_neg (by rw [any_clear (P := s.begin.storeRefuses) hok]; decide), if_pos (any_found (P := s.begin.kslotRefuses) hi hr)] at hrun
    exact ⟨_, hrun, on_evt_self _ (by decide), only_evt (by simp) (by simp [F.GLR_EVT_KSLOT_WR]) (by decide) (only_refl _ _ _)⟩

/-! ### Writes on Flint's pages and in the page BST -/

/-- A register of Flint's pages without an effect of its own. -/
theorem specialA_flint (hp : p = 0x40 ∨ p = 0x68) (ho : off ≠ 0x08) (h3 : off ≠ 0x30) (hs : ¬ (p = 0x68 ∧ off ∈ [0x50, 0x54, 0x58, 0x80])) (v : Word) :
    s.specialA m p off v = s.fieldWrite (p * 4096 + off) (s.takeWord p off v) := by
  have hplain : s.plainWrite p off v = s.fieldWrite (p * 4096 + off) (s.takeWord p off v) :=
    plainWrite_eq v (by omega) (by omega) (by omega)
  have hq : ∀ q o, q ≠ 0x40 → q ≠ 0x68 → ¬ (p = q ∧ o) := fun q o h1 h2 h => by omega
  have h68 : ∀ o ∈ [0x50, 0x54, 0x58, 0x80], ¬ (p = 0x68 ∧ off = o) := fun o ho' h => hs ⟨h.1, h.2 ▸ ho'⟩
  have hr : ∀ q, q ≠ 0x40 → q ≠ 0x68 → ∀ P Q : Prop, ¬ ((p = q ∧ P) ∧ Q) := fun q h1 h2 P Q h => by
    obtain ⟨⟨h, -⟩, -⟩ := h
    omega
  unfold State.specialA State.specialB
  simp only [Bool.and_eq_true, decide_eq_true_eq]
  rw [if_neg ho, if_neg h3, if_neg (hq _ _ (by decide) (by decide)), if_neg (hq _ _ (by decide) (by decide)), if_neg (hq _ _ (by decide) (by decide)),
    if_neg (hq _ _ (by decide) (by decide)), if_neg (hq _ _ (by decide) (by decide)), if_neg (hq _ _ (by decide) (by decide)),
    if_neg (hq _ _ (by decide) (by decide)), if_neg (hq _ _ (by decide) (by decide)), if_neg (hq _ _ (by decide) (by decide)),
    if_neg (hq _ _ (by decide) (by decide)), if_neg (h68 _ (by decide)), if_neg (h68 _ (by decide)), if_neg (h68 _ (by decide)), if_neg (h68 _ (by decide)),
    if_neg (hr _ (by decide) (by decide) _ _), if_neg (hr _ (by decide) (by decide) _ _), if_neg (hq _ _ (by decide) (by decide)),
    if_neg (hq _ _ (by decide) (by decide)), if_neg (hq _ _ (by decide) (by decide)), if_neg (hq _ _ (by decide) (by decide)),
    if_neg (hq _ _ (by decide) (by decide)), if_neg (hq _ _ (by decide) (by decide)), hplain]

/-- A register of BST without an effect of its own. -/
theorem specialA_bst (ho : off ∉ [0x08, 0x30, 0x40, 0x64]) (v : Word) :
    s.specialA m 0x79 off v = s.fieldWrite (0x79 * 4096 + off) (s.takeWord 0x79 off v) := by
  have hplain : s.plainWrite 0x79 off v = s.fieldWrite (0x79 * 4096 + off) (s.takeWord 0x79 off v) :=
    plainWrite_eq v (by omega) (by omega) (by omega)
  simp only [List.mem_cons, List.not_mem_nil, or_false, not_or] at ho
  obtain ⟨h8, h30, h40, h64⟩ := ho
  unfold State.specialA State.specialB
  simp [h8, h30, h40, h64, hplain]


theorem settle_word (s : State) {o : Nat} (h : o ≠ F.SAF_STAT_FSTATE.addr) : s.settle.word o = s.word o := by
  unfold State.settle
  dsimp only
  split_ifs
  · exact word_put_other s _ _ h
  · exact word_put_other s _ _ h
  · rfl

/-! ### The test access port -/

theorem exec_bus (hup : s.tapUp = true) (ho : s.on F.SEC_TAP_OPEN = true) (hm : s.masterRuns .tap = true) (v : Word) :
    exec (.bus true a v) s = .next (s.begin.tapInstr.busWrite .tap a (leBytes 4 v.toNat))
      ∧ exec (.bus false a v) s = .next ((s.begin.tapInstr.busRead .tap a 4 0).2.withReadData [(s.begin.tapInstr.busRead .tap a 4 0).1]) := by
  have hc : (s.begin.tapInstr.on F.SEC_TAP_OPEN && s.begin.tapInstr.masterRuns .tap) = true := by
    rw [show s.begin.tapInstr.on F.SEC_TAP_OPEN = s.on F.SEC_TAP_OPEN from rfl, show s.begin.tapInstr.masterRuns .tap = s.masterRuns .tap from rfl, ho, hm]
    rfl
  exact ⟨congrArg Host.Outcome.next ((if_pos hup).trans (if_pos hc)), congrArg Host.Outcome.next ((if_pos hup).trans (if_pos hc))⟩

theorem tapInstr_only (s : State) : s.Only [] [.sec] s.tapInstr := only_withSec (by simp) (only_refl _ _ s)

/-! ### The obligation -/

/-- A refused access. -/
theorem violation_case (hm : s.masterRuns m = true) {a : Nat} (ha : a < 2 ^ 32) (w : Bool) :
    (s.begin.violation m a w).on F.SEC_EVT_VIOL = true
      ∧ (s.begin.violation m a w).g F.SEC_VIOL_COUNT = min F.SEC_VIOL_COUNT.top (s.g F.SEC_VIOL_COUNT + 1)
      ∧ (s.on F.SEC_EVT_VIOL = false → (s.begin.violation m a w).g F.SEC_VIOL_MASTER = masterId m ∧ (s.begin.violation m a w).g F.SEC_VIOL_WRITE = bit w
          ∧ (s.begin.violation m a w).g F.SEC_VIOL_ADDR_ADDR = a)
      ∧ (s.defLevel S.SEC_WORLD ≠ 0 → (s.begin.violation m a w).on (fltPend S.SEC_WORLD) = true) :=
  violation_leaves s.begin m a w (masterId_small hm) ha

theorem violation_foot (s : State) (m : Master) (a : Nat) (w : Bool) : s.Within (Foot.reaction [0x78] []) (s.begin.violation m a w) :=
  within_trans (begin_within (by decide) s) (violation_fits (g := Foot.reaction [0x78] []) s.begin m a w (by decide) (fits_refl _ _)).within

/-- A write whose first byte the fabric refuses. -/
theorem memWrite_refused (hb : b ≠ []) (h : s.writeViolates m a = true) : s.memWrite m a b = s.violation m a true := by
  obtain ⟨n, hn⟩ : ∃ n, b.length = n + 1 := ⟨b.length - 1, by have := List.length_pos_iff.2 hb; omega⟩
  have hl : (List.range b.length).map (a + ·) = a :: ((List.range n).map Nat.succ).map (a + ·) := by
    rw [hn, List.range_succ_eq_map]
    rfl
  unfold State.memWrite
  dsimp only
  rw [hl, List.find?_cons, h]

/-- The address of a violation, whatever its width. -/
theorem violation_addr (s : State) (m : Master) (a : Nat) (w : Bool) (h : s.on F.SEC_EVT_VIOL = false) :
    (s.violation m a w).g F.SEC_VIOL_ADDR_ADDR = a % 2 ^ 32 := by
  have hn : violNoted s m a w = ((s.put F.SEC_VIOL_MASTER (masterId m)).put F.SEC_VIOL_WRITE (bit w)).put F.SEC_VIOL_ADDR_ADDR a := if_neg (by simp [h])
  have hq : (s.violation m a w).g F.SEC_VIOL_ADDR_ADDR = (violCounted s m a w).g F.SEC_VIOL_ADDR_ADDR := raise_g _ _ _ (by decide)
  rw [hq, violCounted, g_evt_sep _ (by decide) (by decide), g_incSat_sep _ (by decide), hn, g_put_same _ _ _ (by decide) (by decide)]
  rfl

theorem violation_on (s : State) (m : Master) (a : Nat) (w : Bool) : (s.violation m a w).on F.SEC_EVT_VIOL = true :=
  (on_congr (raise_g (violCounted s m a w) S.SEC_WORLD 0 (by decide))).trans (on_evt_self _ (by decide))

theorem writeLeaves_of (hr : u.regs = s.regs) (hs : u.shadow = s.shadow) (h : u.WriteLeaves p off v t) : s.WriteLeaves p off v t := by
  have hword : ∀ o, u.word o = s.word o := word_congr hr
  have hshadow : ∀ o, u.shadowWord o = s.shadowWord o := fun o => by rw [State.shadowWord, hs, ← State.shadowWord]
  have htake : u.takeWord p off v = s.takeWord p off v := takeWord_congr hr p off v
  refine ⟨?_, ?_, fun o ho => ⟨(h.others o ho).1.trans (hword o), (h.others o ho).2.trans (hshadow o)⟩⟩
  · rw [h.word, htake, written_congr hr]
  · rw [h.shadow, htake, hshadow]

/-- A read that the fabric refuses. -/
theorem refusedRead_leaves (hm : s.masterRuns m = true) (hp : p < 0x8D) (ho : off < 4096) (h4 : off % 4 = 0) (ha : assigned p = true) (hr : s.mayRead m p = false) :
    ∃ t, exec (.registerRead m (pageAddr p off) 4 0) s = .next t ∧ t.readData = [0] ∧ t.on F.SEC_EVT_VIOL = true
      ∧ (s.on F.SEC_EVT_VIOL = false → t.g F.SEC_VIOL_MASTER = masterId m ∧ t.g F.SEC_VIOL_WRITE = 0 ∧ t.g F.SEC_VIOL_ADDR_ADDR = pageAddr p off)
      ∧ s.Within (Foot.reaction [0x78] [.readData]) t := by
  obtain ⟨h1, -, h3, -⟩ := violation_case hm (pageAddr_small hp ho) false
  have hrun := exec_read hm 4 0 (busRead_refused (s := s.begin) hp ha ho h4 hr)
  have hfoot := violation_foot s m (pageAddr p off) false
  generalize s.begin.violation m (pageAddr p off) false = w at hrun h1 h3 hfoot
  have hdata : w.Fits (Foot.reaction [0x78] [.readData]) (w.withReadData [0]) := withReadData_fits _ (by decide) (fits_refl _ w)
  refine ⟨_, hrun, rfl, (withReadData_on ..).trans h1, fun hoff => ?_, within_trans (within_mono (by decide) hfoot) hdata.within⟩
  obtain ⟨ha, hb, hc⟩ := h3 hoff
  exact ⟨(withReadData_g ..).trans ha, (withReadData_g ..).trans hb, (withReadData_g ..).trans hc⟩

/-- Reads of a register's word. -/
theorem registerRead_leaves (hm : s.masterRuns m = true) (hp : p < 0x8D) (ho : off < 4096) (h4 : off % 4 = 0) (ha : assigned p = true) (hr : s.mayRead m p = true) :
    (hiOf (p * 4096 + off) = none → s.latches.find? (fun e => e.1 = (masterId m, p * 4096 + off)) = none →
      ∃ t, exec (.registerRead m (pageAddr p off) 4 0) s = .next t ∧ t.readData = [s.begin.readWord (p * 4096 + off)] ∧ s.begin.Only [] [.readData] t)
    ∧ (∀ h, hiOf (p * 4096 + off) = some h →
      ∃ t, exec (.registerRead m (pageAddr p off) 4 0) s = .next t ∧ t.readData = [s.begin.readWord (p * 4096 + off)]
        ∧ t.latches.find? (fun e => e.1 = (masterId m, h)) = some ((masterId m, h), s.begin.readWord h) ∧ s.begin.Only [] [.latches, .readData] t)
    ∧ (∀ w, hiOf (p * 4096 + off) = none → s.latches.find? (fun e => e.1 = (masterId m, p * 4096 + off)) = some ((masterId m, p * 4096 + off), w) →
      ∃ t, exec (.registerRead m (pageAddr p off) 4 0) s = .next t ∧ t.readData = [w] ∧ t.latches.find? (fun e => e.1 = (masterId m, p * 4096 + off)) = none
        ∧ s.begin.Only [] [.latches, .readData] t) := by
  have hread : ∀ r, s.begin.readReg m (p * 4096 + off) = r → exec (.registerRead m (pageAddr p off) 4 0) s = .next (r.2.withReadData [r.1]) :=
    fun r h => exec_read hm 4 0 ((busRead_page (s := s.begin) hr hp ha ho h4).trans h)
  generalize p * 4096 + off = o at hread
  refine ⟨fun hh hl => ?_, fun h hh => ?_, fun w hh hl => ?_⟩
  · exact ⟨_, hread _ (readReg_plain (s := s.begin) hh hl), rfl, only_withReadData (by simp) (only_refl _ _ _)⟩
  · refine ⟨_, hread _ (readReg_low (s := s.begin) hh), rfl, ?_, only_withReadData (by simp) (only_withLatches (by simp) (only_refl _ _ _))⟩
    show List.find? _ (((masterId m, h), s.begin.readWord h) :: _) = _
    simp
  · refine ⟨_, hread _ (readReg_latched (s := s.begin) hh hl), rfl, ?_, only_withReadData (by simp) (only_withLatches (by simp) (only_refl _ _ _))⟩
    show List.find? _ (s.latches.filter (fun e => e.1 ≠ (masterId m, o))) = none
    rw [List.find?_eq_none]
    intro e he
    simpa using (List.mem_filter.1 he).2

/-- Reads of memory. -/
theorem memoryRead_leaves (hm : s.masterRuns m = true) (hsz : 0 < size)
    (h : ∀ i, i < size → s.readRefused m (a + i) = false ∧ ∃ r, regionOf (a + i) = some r ∧ r ≠ .pages ∧ (r = .flash → a + i - 0x60000000 < Config.flashSize)) :
    (eccSource (a - a % 4) = none ∨ (∃ c u, eccSource (a - a % 4) = some (c, u) ∧ s.armed c = false ∧ s.armed u = false) →
      ∃ t, exec (.registerRead m a size 0) s = .next t ∧ t.readData = [BitVec.ofNat 32 (s.le a size)] ∧ s.begin.Only [] [.readData] t)
    ∧ (regionOf (a - a % 4) = some .sram → s.armed S.SRAM_ECC_COR = false → s.armed S.SRAM_ECC_UNC = false →
      (∃ t, exec (.registerRead m a size 1) s = .next t ∧ t.readData = [BitVec.ofNat 32 (s.le a size)]
        ∧ (s.defLevel S.SRAM_ECC_COR ≠ 0 → t.on (fltPend S.SRAM_ECC_COR) = true))
      ∧ (∃ t, exec (.registerRead m a size 2) s = .next t ∧ t.fresh = s.fresh + 1
        ∧ (s.defLevel S.SRAM_ECC_UNC ≠ 0 → t.on (fltPend S.SRAM_ECC_UNC) = true))) := by
  have hpages : regionOf a ≠ some .pages := by
    obtain ⟨-, r, hr, hp, -⟩ := h 0 hsz
    rw [Nat.add_zero] at hr
    rw [hr]
    exact fun he => hp (Option.some.inj he)
  have hopen : ∀ ecc, s.begin.busRead m a size ecc = _ := fun ecc => (busRead_memory (s := s.begin) hpages ecc).trans (memRead_open (s := s.begin) h ecc)
  refine ⟨fun hecc => ?_, fun hreg hc hu => ⟨?_, ?_⟩⟩
  · have hr := hopen 0
    rw [eccCheck_clean (s := s.begin) hecc] at hr
    have hle := congrArg (fun n => [BitVec.ofNat 32 n]) (le_congr (t := s.begin) (s := s) rfl a size)
    exact ⟨_, exec_read hm size 0 (hr.trans (if_pos rfl)), hle, only_withReadData (by simp) (only_refl _ _ _)⟩
  · obtain ⟨hmem, -, hpend⟩ := sramFault_leaves s.begin S.SRAM_ECC_COR (a - a % 4) (.inl rfl)
    have hr := hopen 1
    rw [(eccCheck_sram (s := s.begin) hreg hc hu).1] at hr
    generalize s.begin.raiseWith S.SRAM_ECC_COR 0 (a - a % 4) false false = w at hmem hpend hr
    refine ⟨_, exec_read hm size 1 hr, ?_, fun hd => (withReadData_on ..).trans (hpend hd)⟩
    show [BitVec.ofNat 32 (w.le a size)] = _
    rw [le_congr hmem, le_congr (t := s.begin) (s := s) rfl]
  · obtain ⟨-, hfresh, hpend⟩ := sramFault_leaves s.begin S.SRAM_ECC_UNC (a - a % 4) (.inr rfl)
    have hr := hopen 2
    rw [(eccCheck_sram (s := s.begin) hreg hc hu).2] at hr
    generalize s.begin.raiseWith S.SRAM_ECC_UNC 0 (a - a % 4) false false = w at hfresh hpend hr
    refine ⟨_, exec_read hm size 2 hr, ?_, fun hd => hpend hd⟩
    show w.fresh + 1 = _
    rw [hfresh]
    rfl

/-- A read where no region lies. -/
theorem unmappedRead_leaves (hm : s.masterRuns m = true) (hr : regionOf a = none) (hsz : 0 < size) (h : ∀ i, i < size → s.readRefused m (a + i) = false) :
    ∃ t, exec (.registerRead m a size 0) s = .next t ∧ t.readData = [0] ∧ t.on F.SYS_EVT_NOMAP = true
      ∧ s.begin.Only [F.SYS_EVT_NOMAP, F.UNIT_IRQ_STAT_EVT 0x00] [.readData] t := by
  have hread : s.begin.busRead m a size 0 = (0, s.begin.evt F.SYS_EVT_NOMAP) := by
    refine (busRead_memory (s := s.begin) (by rw [hr]; decide) 0).trans ?_
    unfold State.memRead
    dsimp only
    rw [find_clear (P := s.begin.readRefused m) h]
    exact if_pos (any_found (P := fun x => (regionOf x).isNone || (decide (regionOf x = some .flash) && decide (Config.flashSize ≤ x - 0x60000000))) hsz
      (by simp [hr]))
  exact ⟨_, exec_read hm size 0 hread, rfl, (withReadData_on ..).trans (on_evt_self _ (by decide)),
    only_withReadData (by simp) (only_evt (by simp) (by simp [F.SYS_EVT_NOMAP]) (by decide) (only_refl _ _ _))⟩

/-- Settles O55: each access by where its address lies and what the fabric says of it. -/
theorem registerAndMemoryAccess : Obligations.RegisterAndMemoryAccess := by
  refine ⟨fun s m p off v hm hpl => ⟨fun hw => ?_, fun hw => ?_⟩, fun s p off v hm hp ho h4 h8 h30 hs => ?_,
    fun s m off v hm ho h4 hw => ⟨fun hb => ?_, fun hb hoff => ?_⟩, fun s m v a hm ha h4 => ?_, fun s m v p off hm hp ho h4 ha => ⟨?_, ?_⟩,
    fun s m p off hm hp ho h4 ha => ?_, fun s m a size hm hsz h => ?_, fun s m a size hm hr hsz _ hrf => ?_,
    fun s m a b hm hb h => memoryWrite_leaves hm hb h, fun s m a b hm hb hr hv => ?_, fun s p off v hup hop hm hpl => ⟨fun hw => ?_, fun hr hh hl => ?_⟩,
    fun s w a v hup h => ?_, fun s w a v hup => congrArg Host.Outcome.next (if_neg (by rw [show s.begin.tapUp = s.tapUp from rfl, hup]; decide)),
    fun s m a v size ecc b hm => exec_off hm a size ecc v b⟩
  · refine ⟨_, (exec_write hm).trans (congrArg Host.Outcome.next (busWrite_plain (s := s.begin) v hw hpl)), writeLeaves_of (u := s.begin) (s := s) rfl rfl (fieldWrite_leaves s.begin p off v),
      fieldWrite_parts s.begin _ _⟩
  · obtain ⟨hp, ha, ho, h4, -⟩ := plainReg_iff.1 hpl
    obtain ⟨h1, h2, h3, h5⟩ := violation_case hm (pageAddr_small hp ho) true
    exact ⟨_, (exec_write hm).trans (congrArg Host.Outcome.next (busWrite_refused (s := s.begin) hp ha ho h4 hw)), h1, h2, h3, h5, violation_foot ..⟩
  · have hlt : p < 0x8D ∧ assigned p = true := by rcases hp with rfl | rfl <;> decide
    have hw : s.begin.mayWrite .flint p off = true := by rcases hp with rfl | rfl <;> rfl
    have hpage : s.begin.pageWrite .flint p off v = (s.begin.fieldWrite (p * 4096 + off) (s.begin.takeWord p off v)).settle := by
      have hb : ¬ (decide (p = 0x79) && s.begin.bistRuns) = true := by
        have : p ≠ 0x79 := by omega
        simp [this]
      refine (if_neg hb).trans ((if_pos ?_).trans ?_)
      · rcases hp with rfl | rfl <;> rfl
      · rw [specialA_flint hp h8 h30 hs]
    have hset := (settle_fits (s.begin.fieldWrite (p * 4096 + off) (s.begin.takeWord p off v)) (le_self _) (fits_refl _ _)).within
    have hsh : ∀ o, (s.begin.fieldWrite (p * 4096 + off) (s.begin.takeWord p off v)).settle.shadowWord o
        = (s.begin.fieldWrite (p * 4096 + off) (s.begin.takeWord p off v)).shadowWord o := fun o => by
      rw [State.shadowWord, within_shadow hset rfl (by decide), ← State.shadowWord]
    have hl := fieldWrite_leaves s.begin p off v
    refine ⟨_, (exec_write hm).trans (congrArg Host.Outcome.next ((busWrite_page (s := s.begin) v hw hlt.1 hlt.2 ho h4).trans hpage)),
      fun hne => (settle_word _ hne).trans hl.word, (hsh _).trans hl.shadow, fun o hne hns => (settle_word _ hns).trans (hl.others o hne).1,
      fun o hne => (hsh o).trans (hl.others o hne).2, partsWithin_trans (fieldWrite_parts s.begin (p * 4096 + off) (s.begin.takeWord p off v)) ?_⟩
    exact (only_settle (fs := [F.SAF_STAT_FSTATE]) (ps := [.shadow]) (by simp) (only_refl _ _ _)).parts
  · refine (exec_write hm).trans (congrArg Host.Outcome.next ((busWrite_page (s := s.begin) v hw (by decide) (by decide) ho h4).trans (if_pos ?_)))
    rw [show s.begin.bistRuns = s.bistRuns from rfl, hb]
    rfl
  · have hpage : s.begin.pageWrite m 0x79 off v = s.begin.fieldWrite (0x79 * 4096 + off) (s.begin.takeWord 0x79 off v) := by
      refine (if_neg ?_).trans ((if_neg (by decide)).trans (specialA_bst hoff v))
      rw [show s.begin.bistRuns = s.bistRuns from rfl, hb]
      decide
    exact ⟨_, (exec_write hm).trans (congrArg Host.Outcome.next ((busWrite_page (s := s.begin) v hw (by decide) (by decide) ho h4).trans hpage)),
      writeLeaves_of (u := s.begin) (s := s) rfl rfl (fieldWrite_leaves s.begin 0x79 off v), fieldWrite_parts s.begin _ _⟩
  · exact ⟨_, (exec_write hm).trans (congrArg Host.Outcome.next (busWrite_width ha h4)), on_evt_self _ (by decide),
      only_evt (by simp) (by simp [F.SYS_EVT_WIDTH]) (by decide) (only_refl _ _ _)⟩
  · exact ⟨_, (exec_write hm).trans (congrArg Host.Outcome.next (busWrite_nopage hp ha ho h4)), on_evt_self _ (by decide),
      only_evt (by simp) (by simp [F.SYS_EVT_NOPAGE]) (by decide) (only_refl _ _ _)⟩
  · exact ⟨_, exec_read hm 4 0 (busRead_nopage hp ha ho h4), (withReadData_on ..).trans (on_evt_self _ (by decide)), rfl,
      only_withReadData (by simp) (only_evt (by simp) (by simp [F.SYS_EVT_NOPAGE]) (by decide) (only_refl _ _ _))⟩
  · intro o
    exact ⟨fun hr => (registerRead_leaves hm hp ho h4 ha hr).1, fun h hr => (registerRead_leaves hm hp ho h4 ha hr).2.1 h,
      fun w hr => (registerRead_leaves hm hp ho h4 ha hr).2.2 w, fun hr => refusedRead_leaves hm hp ho h4 ha hr⟩
  · exact memoryRead_leaves hm (by omega) h
  · exact unmappedRead_leaves hm hr hsz hrf
  · have hrun : exec (.memoryWrite m a b) s = .next (s.begin.violation m a true) := by
      rw [exec_memory hm, busWrite_memory hr, memWrite_refused (s := s.begin) hb hv]
    exact ⟨_, hrun, violation_on .., fun hoff => violation_addr s.begin m a true hoff, violation_foot ..⟩
  · refine ⟨_, (exec_bus hup hop hm v).1.trans (congrArg Host.Outcome.next (busWrite_plain (s := s.begin.tapInstr) v hw hpl)),
      writeLeaves_of (u := s.begin.tapInstr) (s := s) rfl rfl (fieldWrite_leaves s.begin.tapInstr p off v), ?_⟩
    exact partsWithin_trans (partsWithin_mono (by simp [Foot.of]) (tapInstr_only s.begin).parts) (partsWithin_mono (by simp [Foot.of]) (fieldWrite_parts s.begin.tapInstr (p * 4096 + off) (s.begin.tapInstr.takeWord p off v)))
  · obtain ⟨hp, ha, ho, h4, -⟩ := plainReg_iff.1 hpl
    have hread := (exec_bus (a := pageAddr p off) hup hop hm v).2
    rw [busRead_page (s := s.begin.tapInstr) (m := .tap) (p := p) (off := off) (show s.mayRead .tap p = true from hr) hp ha ho h4, readReg_plain (s := s.begin.tapInstr) hh hl] at hread
    exact ⟨_, hread, rfl, only_withReadData (by simp) (only_mono (by simp) (by simp) (tapInstr_only s.begin))⟩
  · have hc : ¬ (s.begin.tapInstr.on F.SEC_TAP_OPEN && s.begin.tapInstr.masterRuns .tap) = true := by
      rw [show s.begin.tapInstr.on F.SEC_TAP_OPEN = s.on F.SEC_TAP_OPEN from rfl, show s.begin.tapInstr.masterRuns .tap = s.masterRuns .tap from rfl]
      rcases h with h | h <;> simp [h]
    exact ⟨_, congrArg Host.Outcome.next ((if_pos hup).trans (if_neg hc)), rfl, tapInstr_only s.begin⟩

end Sys2Proof.Proofs.BusAccess
end

section
/-! PROOF. The Segment Bus: what a LATCH shows (SegmentFrames), and a transaction with a driver past the table of drivers (SegmentBus). -/

namespace Sys2Proof.Proofs.SegmentLine

open Sys2Proof.Machine Sys2Proof.Laws Sys2Proof.Proofs.Architecture Sys2Proof.Proofs.Reading Sys2Proof.Proofs.GovernorSums Sys2Proof.Proofs.PageCommits

variable {s t u : State} {f : Fld} {c d : Nat}

/-! ### A transaction past the table of drivers

PRESENT has a bit for each of the 64 addresses of a driver. The word of address 64 would be the event register. -/

/-- SEG serves, and a transaction to address 64 has used its attempts. -/
def lateAddress : State :=
  { ((State.blank.put (F.UNIT_CTRL_ENABLE 0x60) 1).put F.CLK_STAT_ROOT_OK 1) with
    seg := { Seg.init with txn := some ⟨4, 64, 16, []⟩ } }

/-- The event of a damaged response after a command. -/
def crcShown : Host.Outcome State Fault Refusal → Bool
  | .next t => t.on F.SEG_EVT_CRC
  | _ => true

/-- Refutes O37: a damaged response sets its event in every transaction only where the address is one of the table; in one with address 64 the
driver that is then absent clears a bit of PRESENT whose place is that of the event. -/
theorem not_segmentBus : ¬ Obligations.SegmentBus := by
  rintro ⟨-, -, -, -, -, hbad, -⟩
  obtain ⟨t, hexec, hcrc, -⟩ := hbad lateAddress ⟨4, 64, 16, []⟩ [] (by decide +kernel) rfl (by decide +kernel) (.inl (by decide))
  have hlost : crcShown (exec (.segResponse []) lateAddress) = false := by decide +kernel
  rw [hexec] at hlost
  exact Bool.noConfusion (hcrc.symm.trans hlost)

/-! ### The record of a channel -/

theorem find_tabInsert_same {β : Type} (l : List (Nat × β)) (w : β) : (tabInsert l c w).find? (fun e => e.1 = c) = some (c, w) := by
  induction l with
  | nil => simp [tabInsert]
  | cons e l ih =>
    obtain ⟨k, v⟩ := e
    unfold tabInsert
    split_ifs with h1 h2
    · simp
    · simp
    · rw [List.find?_cons_of_neg (by simpa using Ne.symm h2), ih]

theorem find_tabInsert_other {β : Type} (l : List (Nat × β)) (w : β) (h : c ≠ d) :
    (tabInsert l d w).find? (fun e => e.1 = c) = l.find? (fun e => e.1 = c) := by
  induction l with
  | nil => simp [tabInsert, Ne.symm h]
  | cons e l ih =>
    obtain ⟨k, v⟩ := e
    unfold tabInsert
    split_ifs with h1 h2
    · rw [List.find?_cons_of_neg (by simpa using Ne.symm h)]
    · subst h2
      rw [List.find?_cons_of_neg (by simpa using Ne.symm h), List.find?_cons_of_neg (by simpa using Ne.symm h)]
    · simp only [List.find?_cons, ih]

theorem segChan_modChan_same (s : State) (c : Nat) (m : SegChan → SegChan) : (s.modChan c m).segChan c = m (s.segChan c) := by
  rw [State.segChan, show (s.modChan c m).seg.chans = tabInsert s.seg.chans c (m (s.segChan c)) from rfl, find_tabInsert_same]
  rfl

theorem segChan_modChan_other (s : State) (m : SegChan → SegChan) (h : c ≠ d) : (s.modChan d m).segChan c = s.segChan c := by
  rw [State.segChan, show (s.modChan d m).seg.chans = tabInsert s.seg.chans d (m (s.segChan d)) from rfl, find_tabInsert_other _ _ h, ← State.segChan]

theorem segChan_congr (h : t.seg.chans = s.seg.chans) (c : Nat) : t.segChan c = s.segChan c := by rw [State.segChan, State.segChan, h]

/-! ### The fields of SEG -/

theorem seg_quiet (hp : f.page = 0x60) (ho : f.off % 4096 ≠ 0x18) : quietField f = true := by
  have hpage : ∀ x ∈ triggerFields, x.hi < 32 ∧ x.page ≠ 0x60 := by decide
  have hclear : clear triggerFields f = true := List.all_eq_true.2 fun x hx => by
    obtain ⟨hh, hne⟩ := hpage x hx
    have hsep : sep x f = true := by simp [sep, hh, hp, hne]
    simp [sep_apart hsep]
  simp [quietField, hclear, hp, ho, groupPage]

/-- A fold that visits each element of a list once: what holds until an element is visited and what its visit gives. -/
theorem foldl_visit {α : Type} {P Q : State → Prop} {h : State → α → State} {a : α} (l : List α) (hnd : l.Nodup) (ha : a ∈ l)
    (hP : ∀ b ∈ l, b ≠ a → ∀ u, P u → P (h u b)) (hstep : ∀ u, P u → Q (h u a)) (hQ : ∀ b ∈ l, b ≠ a → ∀ u, Q u → Q (h u b)) (hs : P s) :
    Q (l.foldl h s) := by
  induction l generalizing s with
  | nil => exact absurd ha List.not_mem_nil
  | cons b l ih =>
    obtain ⟨hb, hnd'⟩ := List.nodup_cons.1 hnd
    rcases List.mem_cons.1 ha with rfl | hal
    · exact List.foldlRecOn (motive := Q) l h (hstep s hs) (fun u hu c hc => hQ c (List.mem_cons_of_mem _ hc) (fun e => hb (e ▸ hc)) u hu)
    · exact ih hnd' hal (fun c hc => hP c (List.mem_cons_of_mem _ hc)) (fun c hc => hQ c (List.mem_cons_of_mem _ hc))
        (hP b List.mem_cons_self (fun e => hb (e ▸ hal)) s hs)

theorem usedChans_nodup (s : State) : s.usedChans.Nodup := List.nodup_range.filter _

theorem usedChans_lt (h : c ∈ s.usedChans) : c < 256 := List.mem_range.1 (List.mem_filter.1 h).1


/-- A field of the tables of SEG: below the channels' states, and none of the unit's own state, events and counters. -/
def inTable (x : Fld) : Bool :=
  x.page == 0x60 && decide (x.off % 4096 < 0x800 ∧ x.off % 4096 ≠ 0x18 ∧ x.off % 4096 ≠ 0x58 ∧ x.off % 4096 ≠ 0x64 ∧ x.off % 4096 ≠ 0x68)

theorem inTable_of (hp : f.page = 0x60)
    (h : f.off % 4096 < 0x800 ∧ f.off % 4096 ≠ 0x18 ∧ f.off % 4096 ≠ 0x58 ∧ f.off % 4096 ≠ 0x64 ∧ f.off % 4096 ≠ 0x68) : inTable f = true := by
  simp only [inTable, hp, beq_self_eq_true, Bool.true_and]
  exact decide_eq_true h

theorem inTable_parts (h : inTable f = true) :
    f.page = 0x60 ∧ f.off % 4096 < 0x800 ∧ f.off % 4096 ≠ 0x18 ∧ f.off % 4096 ≠ 0x58 ∧ f.off % 4096 ≠ 0x64 ∧ f.off % 4096 ≠ 0x68 := by
  simpa [inTable] using h

theorem diag_table (hc : c < 256) (hx : inTable f = true) : sep (F.SEG_CHS_DIAG c) f = true := by
  have ho := (inTable_parts hx).2.1
  simp [sep, F.SEG_CHS_DIAG]
  omega

theorem run_table (hc : c < 256) (hx : inTable f = true) : sep (F.SEG_CHS_RUN c) f = true := by
  have ho := (inTable_parts hx).2.1
  simp [sep, F.SEG_CHS_RUN]
  omega

theorem debt_table (hc : c < 256) (hx : inTable f = true) : sep (F.SEG_CHS_DEBT c) f = true := by
  have ho := (inTable_parts hx).2.1
  simp [sep, F.SEG_CHS_DEBT]
  omega

theorem chan_table (hc : c < 256) : inTable (F.SEG_CH_ADDR c) = true :=
  inTable_of rfl (by simp only [F.SEG_CH_ADDR]; omega)

/-- States of two channels stand in words of their own. -/
theorem chans_apart (hc : c < 256) (hd : d < 256) (h : d ≠ c) : (2048 + 4 * d) % 4096 ≠ (2048 + 4 * c) % 4096 := by omega

/-- The tables of SEG are as they were. -/
def TableRests (s u : State) : Prop := ∀ x, inTable x = true → u.g x = s.g x

theorem usedChans_congr (h : TableRests s u) : u.usedChans = s.usedChans :=
  List.filter_congr fun c hc => by rw [h _ (chan_table (List.mem_range.1 hc))]

theorem chanAddr_lt (s : State) (c : Nat) : s.g (F.SEG_CH_ADDR c) < 64 := Nat.lt_succ_of_le (g_le_top s (F.SEG_CH_ADDR c))

theorem segPresent_congr (h : TableRests s u) {a : Nat} (ha : a < 64) : u.segPresent a = s.segPresent a := by
  have hk : inTable (F.SEG_PRESENT_PRESENT (a / 32)) = true :=
    inTable_of rfl (by simp only [F.SEG_PRESENT_PRESENT]; omega)
  rw [State.segPresent, State.segPresent, h _ hk]

theorem present_congr (h : TableRests s u) (hc : c < 256) : u.segPresent (u.g (F.SEG_CH_ADDR c)) = s.segPresent (s.g (F.SEG_CH_ADDR c)) := by
  rw [h _ (chan_table hc), segPresent_congr h (chanAddr_lt s c)]

theorem d4_congr (h : TableRests s u) (hc : c < 256) : u.d4 c = s.d4 c := by
  have hk : inTable (F.SEG_MTX_MTX (s.g (F.SEG_CH_ADDR c) / 32)) = true := by
    have := chanAddr_lt s c
    exact inTable_of rfl (by simp only [F.SEG_MTX_MTX]; omega)
  have hpulse : u.pulseT c = s.pulseT c := by
    simp only [State.pulseT, State.isMatrix, h _ (chan_table hc), h _ hk, h F.SEG_SCAN_T_T_ROW_US rfl, h F.SEG_SCAN_BLANK_US rfl,
      h F.SEG_PWM_TMAX_US rfl]
    rfl
  rw [State.d4, State.d4, hpulse]

/-! ### What a LATCH does to one channel -/

/-- A channel's shadow is shown. -/
def showChan (s : State) (c : Nat) : State :=
  let t := if (s.segChan c).cmd = 0 then s.put (F.SEG_CHS_DIAG c) (if s.segPresent (s.g (F.SEG_CH_ADDR c)) then 0 else 4) else s
  t.modChan c (fun k => { k with shown := k.due, shownCmd := k.cmd })

theorem latchShow_eq (s : State) : s.latchShow = s.usedChans.foldl showChan (s.put F.SEG_STAT_LATE_RUN 0) := rfl

/-- The record of a channel whose shadow is shown. -/
def shownChan (k : SegChan) : SegChan := { k with shown := k.due, shownCmd := k.cmd }

theorem showChan_same (s : State) (c : Nat) : (showChan s c).segChan c = shownChan (s.segChan c) := by
  unfold showChan
  extract_lets t
  have ht : t.segChan c = s.segChan c := segChan_congr (by unfold t; split_ifs <;> rfl) c
  rw [segChan_modChan_same, ht]
  rfl

theorem showChan_other (s : State) (h : c ≠ d) : (showChan s d).segChan c = s.segChan c := by
  unfold showChan
  extract_lets t
  rw [segChan_modChan_other _ _ h]
  exact segChan_congr (by unfold t; split_ifs <;> rfl) c

theorem showChan_g (s : State) (h : sep (F.SEG_CHS_DIAG c) f = true) : (showChan s c).g f = s.g f := by
  refine (withSeg_g ..).trans ?_
  exact ite_g (fun _ => g_put_sep _ _ h) (fun _ => rfl)

theorem showChan_diag (s : State) (h : (s.segChan c).cmd = 0) :
    (showChan s c).g (F.SEG_CHS_DIAG c) = if s.segPresent (s.g (F.SEG_CH_ADDR c)) then 0 else 4 := by
  refine (withSeg_g ..).trans ?_
  rw [if_pos h]
  split_ifs
  · exact g_put_room _ rfl
  · exact g_put_room _ rfl

/-- The next set's part of a channel becomes the one due. -/
def promoted (k : SegChan) : SegChan :=
  match k.next with
  | some (d, cmd) => { k with due := d, cmd := cmd, next := none }
  | none => k

/-- A LATCH that has read back well: the set after it becomes the set due. -/
def promoteAll (s : State) : State := s.usedChans.foldl (fun u c => u.modChan c promoted) s

theorem promoteAll_g (s : State) (x : Fld) : (promoteAll s).g x = s.g x := foldl_g (fun _ _ => withSeg_g ..) _ s

theorem promoteAll_chan (h : c ∈ s.usedChans) : (promoteAll s).segChan c = promoted (s.segChan c) :=
  foldl_visit (P := fun u => u.segChan c = s.segChan c) (Q := fun u => u.segChan c = promoted (s.segChan c)) s.usedChans (usedChans_nodup s) h
    (fun _ _ hb u hu => (segChan_modChan_other u _ hb.symm).trans hu) (fun u hu => (segChan_modChan_same u c _).trans (congrArg promoted hu))
    (fun _ _ hb u hu => (segChan_modChan_other u _ hb.symm).trans hu) rfl

theorem promoteAll_seg (s : State) : (promoteAll s).seg.aborts = s.seg.aborts ∧ (promoteAll s).seg.sent = s.seg.sent :=
  List.foldlRecOn (motive := fun u : State => u.seg.aborts = s.seg.aborts ∧ u.seg.sent = s.seg.sent) s.usedChans _ ⟨rfl, rfl⟩ (fun _ hu _ _ => hu)

theorem promoteAll_only (s : State) : s.Only [] [.seg] (promoteAll s) :=
  only_foldl _ _ (fun _ _ _ hu => only_withSeg (by simp) hu) (only_refl _ _ _)

/-- A channel's deviation is owed. -/
def oweChan (s : State) (c : Nat) : State :=
  let k := s.segChan c
  let run := if k.cmd = 0 then 0 else if k.shown < s.d4 c then min 16 (s.g (F.SEG_CHS_RUN c) + 1) else 0
  (s.put (F.SEG_CHS_DEBT c) (unsigned 16 (satDebt (s.debt c + k.shown - k.cmd)))).put (F.SEG_CHS_RUN c) run

/-- A LATCH with REPEAT, up to what the channels owe. -/
def lateMarks (s : State) : State := (((s.evt F.SEG_EVT_LATE).incSat F.SEG_CNT_LATE).incSat F.SEG_STAT_LATE_RUN).raise S.SEG_LATE 0

theorem latchRepeat_eq (s : State) : s.latchRepeat = (lateMarks s).usedChans.foldl oweChan (lateMarks s) := rfl

theorem oweChan_g (s : State) (h : sep (F.SEG_CHS_DEBT c) f = true) (h' : sep (F.SEG_CHS_RUN c) f = true) : (oweChan s c).g f = s.g f :=
  (g_put_sep _ _ h').trans (g_put_sep _ _ h)

theorem unsigned_lt (i : Int) : unsigned 16 i < 2 ^ 16 := by
  unfold unsigned
  omega

theorem oweChan_debt (s : State) (c : Nat) :
    (oweChan s c).g (F.SEG_CHS_DEBT c) = unsigned 16 (satDebt (s.debt c + (s.segChan c).shown - (s.segChan c).cmd)) := by
  refine (g_put_sep _ _ (by simp [sep, F.SEG_CHS_RUN, F.SEG_CHS_DEBT])).trans (g_put_room _ ?_)
  exact decide_eq_true (unsigned_lt _)

theorem oweChan_run (s : State) (h : (s.segChan c).cmd ≠ 0) :
    (oweChan s c).g (F.SEG_CHS_RUN c) = if (s.segChan c).shown < s.d4 c then min 16 (s.g (F.SEG_CHS_RUN c) + 1) else 0 := by
  unfold oweChan
  dsimp only
  rw [if_neg h]
  refine g_put_room _ ?_
  have hrun : (if (s.segChan c).shown < s.d4 c then min 16 (s.g (F.SEG_CHS_RUN c) + 1) else 0) < 32 := by split_ifs <;> omega
  exact decide_eq_true hrun

theorem owe_apart (hc : c < 256) (hd : d < 256) (h : d ≠ c) (hf : f = F.SEG_CHS_DEBT c ∨ f = F.SEG_CHS_RUN c ∨ f = F.SEG_CHS_DIAG c) :
    sep (F.SEG_CHS_DEBT d) f = true ∧ sep (F.SEG_CHS_RUN d) f = true ∧ sep (F.SEG_CHS_DIAG d) f = true := by
  have ho := chans_apart hc hd h
  rcases hf with rfl | rfl | rfl <;>
    simp [sep, F.SEG_CHS_DEBT, F.SEG_CHS_RUN, F.SEG_CHS_DIAG, ho]


/-! ### A LATCH -/

theorem table_trans (h : TableRests s t) (k : TableRests t u) : TableRests s u := fun x hx => (k x hx).trans (h x hx)

/-- A put on the unit's own words leaves the tables. -/
theorem table_put (v : Nat) (hh : f.hi < 32) (ho : f.off % 4096 = 0x18 ∨ f.off % 4096 = 0x58 ∨ f.off % 4096 = 0x64 ∨ f.off % 4096 = 0x68)
    (h : TableRests s u) : TableRests s (u.put f v) := fun x hx => by
  obtain ⟨-, -, h18, h58, h64, h68⟩ := inTable_parts hx
  refine (g_put_sep u v ?_).trans (h x hx)
  have hne : f.off % 4096 ≠ x.off % 4096 := by omega
  simp [sep, hh, hne]

theorem lateMarks_table (s : State) : TableRests s (lateMarks s) := fun x hx => by
  obtain ⟨hp, -, h18, h58, h64, h68⟩ := inTable_parts hx
  refine (raise_g _ _ _ (seg_quiet hp h18)).trans ?_
  rw [g_incSat_sep, g_incSat_sep, g_evt_sep]
  all_goals
    simp [sep, F.SEG_STAT_LATE_RUN, F.SEG_CNT_LATE, F.SEG_EVT_LATE, F.UNIT_IRQ_STAT_EVT]
    omega

theorem latchShow_table (s : State) : TableRests s s.latchShow := by
  rw [latchShow_eq]
  refine table_trans (table_put (f := F.SEG_STAT_LATE_RUN) 0 (by decide) (by decide) (fun x _ => rfl)) (fun x hx => ?_)
  refine List.foldlRecOn (motive := fun u : State => u.g x = (s.put F.SEG_STAT_LATE_RUN 0).g x) _ _ rfl (fun u hu c hc => ?_)
  exact (showChan_g u (diag_table (usedChans_lt hc) hx)).trans hu

/-- A LATCH without REPEAT: each used channel shows what was due, and one whose command is 0 reads whether its driver is there. -/
theorem latchShow_chan (h : c ∈ s.usedChans) :
    s.latchShow.segChan c = shownChan (s.segChan c)
      ∧ ((s.segChan c).cmd = 0 → s.latchShow.g (F.SEG_CHS_DIAG c) = if s.segPresent (s.g (F.SEG_CH_ADDR c)) then 0 else 4) := by
  have hc := usedChans_lt h
  rw [latchShow_eq]
  refine foldl_visit (P := fun u => u.segChan c = s.segChan c ∧ TableRests s u)
    (Q := fun u => u.segChan c = shownChan (s.segChan c)
      ∧ ((s.segChan c).cmd = 0 → u.g (F.SEG_CHS_DIAG c) = if s.segPresent (s.g (F.SEG_CH_ADDR c)) then 0 else 4))
    s.usedChans (usedChans_nodup s) h (fun d hd hne u hu => ?_) (fun u hu => ?_) (fun d hd hne u hu => ?_)
    ⟨segChan_congr (congrArg Seg.chans (put_seg ..)) c, table_put (f := F.SEG_STAT_LATE_RUN) 0 (by decide) (by decide) (fun _ _ => rfl)⟩
  · exact ⟨(showChan_other u hne.symm).trans hu.1, fun x hx => (showChan_g u (diag_table (usedChans_lt hd) hx)).trans (hu.2 x hx)⟩
  · obtain ⟨hk, ht⟩ := hu
    refine ⟨(showChan_same u c).trans (congrArg shownChan hk), fun h0 => ?_⟩
    rw [showChan_diag u (by rw [hk]; exact h0), present_congr ht hc]
  · exact ⟨(showChan_other u hne.symm).trans hu.1,
      fun h0 => (showChan_g u (owe_apart hc (usedChans_lt hd) hne (.inr (.inr rfl))).2.2).trans (hu.2 h0)⟩

theorem latchShow_run (s : State) : s.latchShow.g F.SEG_STAT_LATE_RUN = 0 := by
  rw [latchShow_eq]
  refine List.foldlRecOn (motive := fun u : State => u.g F.SEG_STAT_LATE_RUN = 0) _ _ (g_put_room _ (by decide)) (fun u hu c hc => ?_)
  have := usedChans_lt hc
  refine (showChan_g u ?_).trans hu
  simp [sep, F.SEG_CHS_DIAG, F.SEG_STAT_LATE_RUN]

theorem latchShow_only (s : State) : s.Only (F.SEG_STAT_LATE_RUN :: (List.range 256).map F.SEG_CHS_DIAG) [.seg] s.latchShow := by
  rw [latchShow_eq]
  refine only_foldl _ _ (fun c hc u hu => ?_) (only_put 0 (by simp) (by decide) (only_refl _ _ _))
  have hm : F.SEG_CHS_DIAG c ∈ F.SEG_STAT_LATE_RUN :: (List.range 256).map F.SEG_CHS_DIAG :=
    List.mem_cons_of_mem _ (List.mem_map_of_mem (List.mem_range.2 (usedChans_lt hc)))
  exact only_withSeg (by simp) (only_ite (fun _ => only_put _ hm (by simp [F.SEG_CHS_DIAG]) hu) (fun _ => hu))

theorem latchShow_seg (s : State) : s.latchShow.seg.aborts = s.seg.aborts ∧ s.latchShow.seg.sent = s.seg.sent := by
  rw [latchShow_eq]
  refine List.foldlRecOn (motive := fun u : State => u.seg.aborts = s.seg.aborts ∧ u.seg.sent = s.seg.sent) _ _ ⟨rfl, rfl⟩ (fun u hu c _ => ?_)
  unfold showChan
  dsimp only
  split_ifs
  · exact hu
  · exact hu
  · exact hu

/-- A fault of SEG leaves the bus as it was. -/
theorem raise_seg (s : State) {i : Nat} (hi : (Foot.reaction [0x60] []).hasUnit (groupPage (srcPage i 0)) = true) : (s.raise i 0).seg = s.seg :=
  within_seg (raise_fits _ _ _ hi (by decide) (fits_refl _ _)).within rfl (by decide)

theorem lateMarks_seg (s : State) : (lateMarks s).seg = s.seg := by
  refine (raise_seg _ (by decide)).trans ?_
  rw [incSat_seg, incSat_seg, evt_seg]


/-- Up to what the channels owe, a LATCH with REPEAT leaves the channels' states. -/
theorem lateMarks_g (s : State) (hp : f.page = 0x60) (ho : f.off % 4096 ≠ 0x18 ∧ f.off % 4096 ≠ 0x58 ∧ f.off % 4096 ≠ 0x64 ∧ f.off % 4096 ≠ 0x68) :
    (lateMarks s).g f = s.g f := by
  obtain ⟨h18, h58, h64, h68⟩ := ho
  refine (raise_g _ _ _ (seg_quiet hp h18)).trans ?_
  rw [g_incSat_sep, g_incSat_sep, g_evt_sep]
  all_goals
    simp [sep, F.SEG_STAT_LATE_RUN, F.SEG_CNT_LATE, F.SEG_EVT_LATE, F.UNIT_IRQ_STAT_EVT]
    omega

theorem owes_seg (l : List Nat) (s : State) : (l.foldl oweChan s).seg = s.seg :=
  List.foldlRecOn (motive := fun u : State => u.seg = s.seg) l oweChan rfl (fun _ hu _ _ => ((put_seg ..).trans (put_seg ..)).trans hu)

theorem latchRepeat_seg (s : State) : s.latchRepeat.seg = s.seg := by
  rw [latchRepeat_eq, owes_seg, lateMarks_seg]

theorem latchRepeat_g (s : State) (h : ∀ c, c < 256 → sep (F.SEG_CHS_DEBT c) f = true ∧ sep (F.SEG_CHS_RUN c) f = true) :
    s.latchRepeat.g f = (lateMarks s).g f := by
  rw [latchRepeat_eq]
  refine List.foldlRecOn (motive := fun u : State => u.g f = (lateMarks s).g f) _ _ rfl (fun u hu c hc => ?_)
  obtain ⟨hd, hr⟩ := h c (usedChans_lt hc)
  exact (oweChan_g u hd hr).trans hu

theorem latchRepeat_table (s : State) : TableRests s s.latchRepeat := fun x hx =>
  (latchRepeat_g s (fun _ hc => ⟨debt_table hc hx, run_table hc hx⟩)).trans (lateMarks_table s x hx)

/-- A LATCH with REPEAT: each used channel owes the deviation from what was due. -/
theorem latchRepeat_chan (h : c ∈ s.usedChans) :
    s.latchRepeat.g (F.SEG_CHS_DEBT c) = unsigned 16 (satDebt (s.debt c + (s.segChan c).shown - (s.segChan c).cmd))
      ∧ ((s.segChan c).cmd ≠ 0 →
        s.latchRepeat.g (F.SEG_CHS_RUN c) = if (s.segChan c).shown < s.d4 c then min 16 (s.g (F.SEG_CHS_RUN c) + 1) else 0) := by
  have hc := usedChans_lt h
  have hdebt : (lateMarks s).g (F.SEG_CHS_DEBT c) = s.g (F.SEG_CHS_DEBT c) :=
    lateMarks_g s rfl (by simp only [F.SEG_CHS_DEBT]; omega)
  have hrun : (lateMarks s).g (F.SEG_CHS_RUN c) = s.g (F.SEG_CHS_RUN c) :=
    lateMarks_g s rfl (by simp only [F.SEG_CHS_RUN]; omega)
  rw [latchRepeat_eq, usedChans_congr (lateMarks_table s)]
  refine foldl_visit (P := fun u => u.segChan c = s.segChan c ∧ TableRests s u ∧ u.g (F.SEG_CHS_DEBT c) = s.g (F.SEG_CHS_DEBT c)
      ∧ u.g (F.SEG_CHS_RUN c) = s.g (F.SEG_CHS_RUN c))
    (Q := fun u => u.g (F.SEG_CHS_DEBT c) = unsigned 16 (satDebt (s.debt c + (s.segChan c).shown - (s.segChan c).cmd))
      ∧ ((s.segChan c).cmd ≠ 0 → u.g (F.SEG_CHS_RUN c) = if (s.segChan c).shown < s.d4 c then min 16 (s.g (F.SEG_CHS_RUN c) + 1) else 0))
    s.usedChans (usedChans_nodup s) h (fun d hd hne u hu => ?_) (fun u hu => ?_) (fun d hd hne u hu => ?_)
    ⟨segChan_congr (congrArg Seg.chans (lateMarks_seg s)) c, lateMarks_table s, hdebt, hrun⟩
  · have hd := usedChans_lt hd
    obtain ⟨h1, h2, -⟩ := owe_apart hc hd hne (.inl rfl)
    obtain ⟨h3, h4, -⟩ := owe_apart hc hd hne (.inr (.inl rfl))
    obtain ⟨hk, ht, hde, hru⟩ := hu
    exact ⟨(segChan_congr (congrArg Seg.chans ((put_seg ..).trans (put_seg ..))) c).trans hk,
      fun x hx => (oweChan_g u (debt_table hd hx) (run_table hd hx)).trans (ht x hx), (oweChan_g u h1 h2).trans hde, (oweChan_g u h3 h4).trans hru⟩
  · obtain ⟨hk, ht, hde, hru⟩ := hu
    refine ⟨?_, fun h0 => ?_⟩
    · rw [oweChan_debt, hk, State.debt, hde, ← State.debt]
    · rw [oweChan_run u (by rw [hk]; exact h0), hk, d4_congr ht hc, hru]
  · have hd := usedChans_lt hd
    obtain ⟨h1, h2, -⟩ := owe_apart hc hd hne (.inl rfl)
    obtain ⟨h3, h4, -⟩ := owe_apart hc hd hne (.inr (.inl rfl))
    exact ⟨(oweChan_g u h1 h2).trans hu.1, fun h0 => (oweChan_g u h3 h4).trans (hu.2 h0)⟩

/-! ### The commands -/

/-- A LATCH on the line. -/
def latchSent (s : State) : State := s.begin.segSend 0 5 (beBytes 4 s.frameNo ++ [b8 (bit (!s.setComplete))])

theorem exec_segLatch (hr : s.segRuns = true) (hl : s.tln.latched = true) :
    exec (.segLatch true) s
        = .next (promoteAll (if (!s.setComplete) = true then (latchSent s).segGood.latchRepeat else (latchSent s).segGood.latchShow))
      ∧ exec (.segLatch false) s = .next (latchSent s).segAbort := by
  have hgo : (s.begin.segRuns && s.begin.tln.latched) = true := by
    rw [show s.begin.segRuns = s.segRuns from rfl, hr, begin_tln, hl]
    rfl
  exact ⟨congrArg Host.Outcome.next (if_pos hgo), congrArg Host.Outcome.next (if_pos hgo)⟩

/-- With every driver's part there, the LATCH shows the set due. -/
theorem latch_shows (hr : s.segRuns = true) (hl : s.tln.latched = true) (hset : s.setComplete = true) :
    ∃ t, exec (.segLatch true) s = .next t ∧ t.seg.sent = segFrame 0 5 (beBytes 4 s.frameNo ++ [0]) ∧ t.seg.aborts = 0
      ∧ t.g F.SEG_STAT_LATE_RUN = 0
      ∧ (∀ c, c ∈ s.usedChans → t.segChan c = promoted (shownChan (s.segChan c))
          ∧ ((s.segChan c).cmd = 0 → t.g (F.SEG_CHS_DIAG c) = if s.segPresent (s.g (F.SEG_CH_ADDR c)) then 0 else 4))
      ∧ s.begin.Only (F.SEG_STAT_LATE_RUN :: (List.range 256).map F.SEG_CHS_DIAG) [.seg] t := by
  have hrun := (exec_segLatch hr hl).1
  rw [if_neg (by rw [hset]; decide)] at hrun
  have hsent : (latchSent s).segGood.seg.sent = segFrame 0 5 (beBytes 4 s.frameNo ++ [0]) := by
    show segFrame 0 5 (beBytes 4 s.frameNo ++ [b8 (bit (!s.setComplete))]) = _
    rw [hset]
    rfl
  have honly : s.begin.Only [] [.seg] (latchSent s).segGood := only_withSeg (by simp) (only_withSeg (by simp) (only_refl _ _ _))
  have hchan : ∀ c, (latchSent s).segGood.segChan c = s.segChan c := fun _ => rfl
  have hused : (latchSent s).segGood.usedChans = s.usedChans := rfl
  have hpres : ∀ a, (latchSent s).segGood.segPresent a = s.segPresent a := fun _ => rfl
  have hg : ∀ x, (latchSent s).segGood.g x = s.g x := fun _ => rfl
  have hab : (latchSent s).segGood.seg.aborts = 0 := rfl
  generalize (latchSent s).segGood = u at hrun hsent honly hchan hused hpres hg hab
  obtain ⟨habs, hsnt⟩ := latchShow_seg u
  have husd : u.latchShow.usedChans = s.usedChans := (usedChans_congr (latchShow_table u)).trans hused
  refine ⟨_, hrun, (promoteAll_seg _).2.trans (hsnt.trans hsent), (promoteAll_seg _).1.trans (habs.trans hab),
    (promoteAll_g _ _).trans (latchShow_run u), fun c hc => ?_, ?_⟩
  · obtain ⟨hk, hd⟩ := latchShow_chan (s := u) (hused.symm ▸ hc)
    refine ⟨(promoteAll_chan (husd.symm ▸ hc)).trans (by rw [hk, hchan]), fun h0 => (promoteAll_g _ _).trans ?_⟩
    rw [hd (by rw [hchan]; exact h0), hpres, hg]
  · exact only_app (by simp) (by simp) (promoteAll_only _) (only_app (by simp) (by simp) (latchShow_only u) (only_mono (by simp) (by simp) honly))

/-- With a driver's part missing, the LATCH says repeat. -/
theorem latch_repeats (hr : s.segRuns = true) (hl : s.tln.latched = true) (hset : s.setComplete = false) :
    ∃ t, exec (.segLatch true) s = .next t ∧ t.seg.sent = segFrame 0 5 (beBytes 4 s.frameNo ++ [1]) ∧ t.on F.SEG_EVT_LATE = true
      ∧ t.g F.SEG_CNT_LATE = min F.SEG_CNT_LATE.top (s.g F.SEG_CNT_LATE + 1)
      ∧ t.g F.SEG_STAT_LATE_RUN = min F.SEG_STAT_LATE_RUN.top (s.g F.SEG_STAT_LATE_RUN + 1)
      ∧ (∀ c, c ∈ s.usedChans → (t.segChan c).shown = (s.segChan c).shown ∧ (t.segChan c).next = none
          ∧ (t.segChan c).due = (((s.segChan c).next.map Prod.fst).getD (s.segChan c).due)
          ∧ t.g (F.SEG_CHS_DEBT c) = unsigned 16 (satDebt (s.debt c + (s.segChan c).shown - (s.segChan c).cmd))
          ∧ ((s.segChan c).cmd ≠ 0 → t.g (F.SEG_CHS_RUN c) = if (s.segChan c).shown < s.d4 c then min 16 (s.g (F.SEG_CHS_RUN c) + 1) else 0))
      ∧ (s.defLevel S.SEG_LATE ≠ 0 → t.on (fltPend S.SEG_LATE) = true) ∧ s.Within (Foot.reaction [0x60] [.seg]) t := by
  have hrun := (exec_segLatch hr hl).1
  rw [if_pos (by rw [hset]; decide)] at hrun
  have hsent : (latchSent s).segGood.seg.sent = segFrame 0 5 (beBytes 4 s.frameNo ++ [1]) := by
    show segFrame 0 5 (beBytes 4 s.frameNo ++ [b8 (bit (!s.setComplete))]) = _
    rw [hset]
    rfl
  have hchan : ∀ c, (latchSent s).segGood.segChan c = s.segChan c := fun _ => rfl
  have hused : (latchSent s).segGood.usedChans = s.usedChans := rfl
  have hg : ∀ x, (latchSent s).segGood.g x = s.g x := fun _ => rfl
  have hd4 : ∀ c, (latchSent s).segGood.d4 c = s.d4 c := fun _ => rfl
  have hlev : ∀ i, (latchSent s).segGood.defLevel i = s.defLevel i := fun _ => rfl
  have hdbt : ∀ c, (latchSent s).segGood.debt c = s.debt c := fun _ => rfl
  have hwithin : s.Within (Foot.reaction [0x60] [.seg]) (promoteAll (latchSent s).segGood.latchRepeat) := by
    obtain ⟨t, ht, hfits⟩ := execSegLatch_fits true s
    obtain rfl := Host.Outcome.next.inj (hrun.symm.trans ht)
    exact within_mono (by decide) hfits.within
  generalize (latchSent s).segGood = u at hrun hsent hchan hused hg hd4 hlev hdbt hwithin
  have hseg := latchRepeat_seg u
  have hused' : u.latchRepeat.usedChans = s.usedChans := (usedChans_congr (latchRepeat_table u)).trans hused
  have hmark : ∀ x : Fld, x = F.SEG_EVT_LATE ∨ x = F.SEG_CNT_LATE ∨ x = F.SEG_STAT_LATE_RUN →
      (promoteAll u.latchRepeat).g x = (((u.evt F.SEG_EVT_LATE).incSat F.SEG_CNT_LATE).incSat F.SEG_STAT_LATE_RUN).g x := fun x hx => by
    refine (promoteAll_g _ _).trans ((latchRepeat_g u (fun c hc => ?_)).trans (raise_g _ _ _ ?_))
    · rcases hx with rfl | rfl | rfl <;>
        simp [sep, F.SEG_CHS_DEBT, F.SEG_CHS_RUN, F.SEG_EVT_LATE, F.SEG_CNT_LATE, F.SEG_STAT_LATE_RUN] <;> omega
    · rcases hx with rfl | rfl | rfl <;> exact seg_quiet rfl (by decide)
  refine ⟨_, hrun, ?_, ?_, ?_, ?_, fun c hc => ?_, fun hd => ?_, hwithin⟩
  · rw [(promoteAll_seg _).2, hseg, hsent]
  · rw [on_congr (hmark _ (.inl rfl)), on_incSat_sep _ (by decide), on_incSat_sep _ (by decide), on_evt_self _ (by decide)]
  · rw [hmark _ (.inr (.inl rfl)), g_incSat_sep _ (by decide), g_incSat (by decide) (by decide) (g_le_top _ _),
      g_evt_sep _ (by decide) (by decide), hg]
  · rw [hmark _ (.inr (.inr rfl)), g_incSat (by decide) (by decide) (g_le_top _ _), g_incSat_sep _ (by decide),
      g_evt_sep _ (by decide) (by decide), hg]
  · obtain ⟨hde, hru⟩ := latchRepeat_chan (s := u) (hused.symm ▸ hc)
    have hk : (promoteAll u.latchRepeat).segChan c = promoted (s.segChan c) := by
      rw [promoteAll_chan (hused'.symm ▸ hc), segChan_congr (congrArg Seg.chans hseg), hchan]
    rw [hk]
    refine ⟨?_, ?_, ?_, ?_, fun h0 => ?_⟩
    · unfold promoted
      split <;> rfl
    · unfold promoted
      split
      · rfl
      · assumption
    · unfold promoted
      split
      next d cmd hn => rw [hn]; rfl
      next hn => rw [hn]; rfl
    · rw [promoteAll_g, hde, hchan, hdbt]
    · rw [promoteAll_g, hru (by rw [hchan]; exact h0), hchan, hd4, hg]
  · rw [on_congr (promoteAll_g _ _), on_congr (latchRepeat_g u (fun c hc => ?_))]
    · exact raise_pend _ _ (by decide) (by
        rw [← hlev S.SEG_LATE] at hd
        rwa [State.defLevel, on_incSat_sep _ (by decide), g_incSat_sep _ (by decide), on_incSat_sep _ (by decide), g_incSat_sep _ (by decide),
          on_evt_sep _ (by decide) (by decide), g_evt_sep _ (by decide) (by decide), ← State.defLevel])
    · simp [sep, F.SEG_CHS_DEBT, F.SEG_CHS_RUN, fltPend]

/-- A transmission that reads back wrong. -/
theorem segAbort_leaves (s : State) :
    s.segAbort.on F.SEG_EVT_BUS_ERR = true ∧ s.segAbort.seg = { s.seg with aborts := (s.seg.aborts + 1) % 4 }
      ∧ (s.seg.aborts = 3 → s.defLevel S.SEG_BUS ≠ 0 → s.segAbort.on (fltPend S.SEG_BUS) = true)
      ∧ (s.seg.aborts ≠ 3 → s.Only [F.SEG_EVT_BUS_ERR, F.UNIT_IRQ_STAT_EVT 0x60] [.seg] s.segAbort) := by
  let u := (s.evt F.SEG_EVT_BUS_ERR).withSeg { s.seg with aborts := (s.seg.aborts + 1) % 4 }
  have habort : s.segAbort = if s.seg.aborts + 1 = 4 then u.raise S.SEG_BUS 0 else u := by
    unfold State.segAbort
    dsimp only
    rw [evt_seg]
  have hon : u.on F.SEG_EVT_BUS_ERR = true := (withSeg_on ..).trans (on_evt_self _ (by decide))
  have hseg : u.seg = { s.seg with aborts := (s.seg.aborts + 1) % 4 } := rfl
  have honly : s.Only [F.SEG_EVT_BUS_ERR, F.UNIT_IRQ_STAT_EVT 0x60] [.seg] u :=
    only_withSeg (by simp) (only_evt (by simp) (by simp [F.SEG_EVT_BUS_ERR]) (by decide) (only_refl _ _ _))
  have hlev : u.defLevel S.SEG_BUS = s.defLevel S.SEG_BUS := by
    rw [State.defLevel, State.defLevel, only_on honly (by decide), only_g honly (by decide)]
  clear_value u
  rw [habort]
  by_cases h4 : s.seg.aborts + 1 = 4
  · rw [if_pos h4]
    exact ⟨(on_congr (raise_g _ _ _ (seg_quiet rfl (by decide)))).trans hon, (raise_seg _ (by decide)).trans hseg,
      fun _ hd => raise_pend _ _ (by decide) (hlev.symm ▸ hd), fun h => absurd h4 (by omega)⟩
  · rw [if_neg h4]
    exact ⟨hon, hseg, fun h => absurd h (by omega), fun _ => honly⟩

theorem segAllOff_shown (s : State) (c : Nat) : (s.segAllOff.segChan c).shown = 0 := by
  have hfind : s.segAllOff.seg.chans.find? (fun e => e.1 = c)
      = (s.seg.chans.find? (fun e => e.1 = c)).map (fun e => (e.1, { e.2 with shown := 0, shownCmd := 0 })) :=
    List.find?_map ..
  rw [State.segChan, hfind]
  cases s.seg.chans.find? (fun e => e.1 = c) <;> rfl

theorem exec_scanRowSlot (s : State) : exec .scanRowSlot s = .next (if s.segRuns then
    if (decide (0 < s.g F.SEG_SCAN_ROWS) && decide (s.seg.slot < s.g F.SEG_SCAN_REP * s.g F.SEG_SCAN_ROWS)) = true then
      s.begin.withSeg { s.seg with high := some (s.seg.slot % s.g F.SEG_SCAN_ROWS), slot := s.seg.slot + 1 }
    else s.begin.withSeg { s.seg with high := none }
  else s.begin.withSeg { s.seg with high := none }) := rfl

/-- Settles O38: the two LATCHes, the one that reads back wrong, ALL_OFF, and the scan. -/
theorem segmentFrames : Obligations.SegmentFrames := by
  refine ⟨fun s hr hl hset => latch_shows hr hl hset, fun s hr hl hset => latch_repeats hr hl hset, fun s hr hl => ?_, fun s readback h => ?_,
    fun s hroot hblk => ?_, fun s h => ?_, fun s => ?_⟩
  · obtain ⟨hon, hseg, hpend, honly⟩ := segAbort_leaves (latchSent s)
    exact ⟨_, (exec_segLatch hr hl).2, hon, (congrArg Seg.chans hseg).trans rfl, (congrArg Seg.aborts hseg).trans rfl, hpend,
      fun h => only_app (by simp) (by simp) (honly h) (only_withSeg (by simp) (only_refl _ _ _))⟩
  · refine congrArg Host.Outcome.next (if_neg ?_)
    rw [show s.begin.segRuns = s.segRuns from rfl, begin_tln]
    rcases h with h | h <;> simp [h]
  · refine ⟨s.begin.segAllOff, congrArg Host.Outcome.next (if_pos ?_), rfl, segAllOff_shown s.begin,
      only_withSeg (by simp) (only_withSeg (by simp) (only_refl _ _ _))⟩
    rw [begin_on, hroot, show s.begin.blockRunning 0x60 = s.blockRunning 0x60 from rfl, hblk]
    rfl
  · refine congrArg Host.Outcome.next (if_neg ?_)
    rw [begin_on, show s.begin.blockRunning 0x60 = s.blockRunning 0x60 from rfl]
    rcases h with h | h <;> simp [h]
  · refine ⟨_, exec_scanRowSlot s, ?_, fun hr hslot => ?_, fun h => ?_⟩
    · split_ifs <;> exact only_withSeg (by simp) (only_refl _ _ _)
    · have hrows : 0 < s.g F.SEG_SCAN_ROWS := Nat.pos_of_ne_zero fun h0 => by simp [h0] at hslot
      rw [if_pos hr, if_pos (by simp [hrows, hslot])]
      rfl
    · rcases h with h | h
      · rw [if_neg (by simp [h])]
        rfl
      · by_cases hr : s.segRuns = true
        · rw [if_pos hr, if_neg (by simp; omega)]
          rfl
        · rw [if_neg hr]
          rfl

end Sys2Proof.Proofs.SegmentLine
end

section
/-! PROOF. An engine renders a band, or its kernel is cut off (KernelBands). -/

namespace Sys2Proof.Proofs.GlareBands

open Sys2Proof.Machine Sys2Proof.Laws Sys2Proof.Proofs.Architecture Sys2Proof.Proofs.RegisterMap Sys2Proof.Proofs.Reading Sys2Proof.Proofs.GovernorSums
  Sys2Proof.Proofs.PendingFaults Sys2Proof.Proofs.LampReactions Sys2Proof.Proofs.PacketConsumption

variable {s t u : State} {f : Fld} {n b i a : Nat} {band : List Byte}

/-! ### Detections, and the fields of the compositor's and the engines' pages -/

theorem detect_lamp (s : State) (pages : List Nat) (i inst addr : Nat) (inj : Bool) (hf : lampField f = true)
    (hc : F.RST_BLK_STAT_CONSEQ_CNT.apart f = true) : (s.detect pages i inst addr inj).g f = s.g f := by
  unfold State.detect
  refine ite_g (fun _ => conseq_lamp s i inst addr hf hc) (fun _ => ?_)
  exact (field_reacts s hf _).raiseWith i inst addr inj false id rfl

/-- Outside a quiescence window a detection makes its source pending. -/
theorem detect_pend (s : State) {pages : List Nat} (inst addr : Nat) (inj : Bool) (hq : pages.any s.quiet = false) (hi : i < 75)
    (hd : s.defLevel i ≠ 0) : (s.detect pages i inst addr inj).on (fltPend i) = true := by
  have hnot : ¬ pages.any s.quiet = true := by simp [hq]
  rw [State.detect, if_neg hnot]
  exact raiseWith_pend s inst addr inj false hi hd

/-- Fields of pages 0x18 to 0x38 are written by no reaction, but for the interrupt word. -/
theorem picture_lamp (hp : 0x18 ≤ f.page ∧ f.page ≤ 0x38) (h18 : f.off % 4096 ≠ 0x18) (h44 : f.off % 4096 ≠ 0x44) : lampField f = true := by
  have hpage : ∀ x ∈ triggerFields, x.hi < 32 ∧ 0x38 < x.page := by decide
  have hclear : clear triggerFields f = true := List.all_eq_true.2 fun x hx => by
    obtain ⟨hh, hlt⟩ := hpage x hx
    have hne : x.page ≠ f.page := by omega
    have hsep : sep x f = true := by simp [sep, hh, hne]
    simp [sep_apart hsep]
  have h70 : f.page ≠ 0x70 := by omega
  have h71 : f.page ≠ 0x71 := by omega
  simp [lampField, hclear, h70, h71, h18, h44]

theorem picture_conseq (hp : 0x18 ≤ f.page) : F.RST_BLK_STAT_CONSEQ_CNT.apart f = true := by
  have hne : (0x02 : Nat) ≠ f.page := by omega
  exact sep_apart (by simp [sep, F.RST_BLK_STAT_CONSEQ_CNT, hne])

/-! ### A band of the mask -/

/-- A pixel of a band of an engine's mask: black in a box, else the kernel's. -/
def bandPixel (s : State) (n b : Nat) (band : List Byte) (i : Nat) : Byte :=
  if (s.engine n).boxes.any (fun p => p.holds (i % 512) (32 * b + i / 512)) then 0 else band.getD i 0xFF

/-- A band of an engine's mask. -/
def bandBytes (s : State) (n b : Nat) (band : List Byte) : List Byte := (List.range 16384).map (bandPixel s n b band)

theorem bandBytes_length (s : State) (n b : Nat) (band : List Byte) : (bandBytes s n b band).length = 16384 := by simp [bandBytes]

theorem bandBytes_getD (s : State) (n b : Nat) (band : List Byte) (h : i < 16384) : (bandBytes s n b band).getD i 0 = bandPixel s n b band i := by
  rw [List.getD_eq_getElem _ _ (by rw [bandBytes_length]; exact h)]
  simp [bandBytes]

section
variable (s : State) (n b : Nat) (l : List Byte)

/-- The bytes of a band in the engine's window, and its number in the BAND byte and the register. -/
def windowed : State :=
  ((s.setBytes (s.beamWin + 0x28000 + 0x4000 * n) l).setByte (s.beamWin + 0x18000 + 0x2000 * n + 20) (b8 b)).put (F.BE_STAT_BAND n) b

/-- The bytes of a band in the mask too, where it is marked written. -/
def masked : State :=
  ((windowed s n b l).setBytes (s.maskAddr n 0 (32 * b)) l).modEngine n (fun e => { e with written := b :: e.written.filter (· ≠ b) })

theorem mem_only (a c : Nat) (v : Byte) : s.Only [] [.mem] ((s.setBytes a l).setByte c v) :=
  only_of_within (setByte_fits c v rfl (setBytes_fits a l rfl (fits_refl _ s))).within

theorem band_sep (h : f.off % 4096 ≠ 0x48) : sep (F.BE_STAT_BAND n) f = true := by
  have hne : (0x48 : Nat) ≠ f.off % 4096 := fun e => h e.symm
  simp [sep, F.BE_STAT_BAND, hne]

theorem windowed_only : s.Only [F.BE_STAT_BAND n] [.mem] (windowed s n b l) :=
  only_put _ (by simp) (by simp [F.BE_STAT_BAND]) (only_mono (by simp) (by simp) (mem_only s l _ _ _))

theorem windowed_byte (hl : l.length = 16384) (h : a < s.beamWin + 0x28000 + 0x4000 * n ∨ s.beamWin + 0x28000 + 0x4000 * n + 16384 ≤ a)
    (hb : a ≠ s.beamWin + 0x18000 + 0x2000 * n + 20) : (windowed s n b l).byte a = s.byte a := by
  have hput : ∀ (v : State) (x : Fld) (k : Nat), (v.put x k).byte a = v.byte a := fun _ _ _ => rfl
  rw [windowed, hput, setByte_byte, if_neg hb, setBytes_byte, hl, if_neg (by omega)]

theorem windowed_band (hb : b < 16) : (windowed s n b l).g (F.BE_STAT_BAND n) = b := g_put_room _ (decide_eq_true (show b < 2 ^ (5 + 1 - 2) by omega))

end

theorem writeBand_eq (s : State) (n b : Nat) (band : List Byte) (parity : Bool) :
    s.writeBand n b band parity = if parity then windowed s n b (bandBytes s n b band) else masked s n b (bandBytes s n b band) := by
  have hout : (List.range 16384).map (fun i =>
    if (s.engine n).boxes.any (fun p => p.holds (i % 512) (32 * b + i / 512)) then (0 : Byte) else band.getD i 0xFF) = bandBytes s n b band := rfl
  unfold State.writeBand
  dsimp only
  rw [hout]
  generalize bandBytes s n b band = l
  have hbeam : (s.setBytes (s.beamWin + 0x28000 + 0x4000 * n) l).beamWin = s.beamWin := by
    rw [State.beamWin, only_g (setBytes_only s _ _) rfl, ← State.beamWin]
  have hmask : (windowed s n b l).maskAddr n 0 (32 * b) = s.maskAddr n 0 (32 * b) := by
    rw [State.maskAddr, only_g (windowed_only s n b l) (by simp [clear, sep_apart (band_sep n (f := F.GLR_MASK_BASE) (by decide))]), ← State.maskAddr]
  rw [hbeam, masked, ← hmask]
  rfl

theorem modEngine_engine (m : Engine → Engine) (h : n < s.glare.engines.length) : (s.modEngine n m).engine n = m (s.engine n) := by
  rw [State.engine, show (s.modEngine n m).glare.engines = s.glare.engines.set n (m (s.engine n)) from rfl, List.getD_eq_getElem _ _ (by simpa using h),
    List.getElem_set_self]

/-- What a band that is written leaves. -/
structure BandLeaves (s : State) (n b : Nat) (pixel : Nat → Byte) (t : State) : Prop where
  mask : ∀ i, i < 16384 → t.byte (s.maskAddr n 0 (32 * b) + i) = pixel i
  rests : ∀ a, (a < s.maskAddr n 0 (32 * b) ∨ s.maskAddr n 0 (32 * b) + 16384 ≤ a) →
    (a < s.beamWin + 0x28000 + 0x4000 * n ∨ s.beamWin + 0x28000 + 0x4000 * n + 16384 ≤ a) →
    a ≠ s.beamWin + 0x18000 + 0x2000 * n + 20 → t.byte a = s.byte a
  engine : t.engine n = { s.engine n with written := b :: (s.engine n).written.filter (· ≠ b) }
  band : t.g (F.BE_STAT_BAND n) = b
  only : s.Only [F.BE_STAT_BAND n] [.mem, .glare] t

theorem masked_leaves (s : State) (l : List Byte) (hn : n < s.glare.engines.length) (hb : b < 16) (hl : l.length = 16384) :
    BandLeaves s n b (fun i => l.getD i 0) (masked s n b l) := by
  have hglare : ((windowed s n b l).setBytes (s.maskAddr n 0 (32 * b)) l).glare = s.glare :=
    (setBytes_glare _ _ _).trans ((windowed_only s n b l).parts.glare (by decide))
  have honly : s.Only [F.BE_STAT_BAND n] [.mem, .glare] ((windowed s n b l).setBytes (s.maskAddr n 0 (32 * b)) l) :=
    only_app (by simp) (by simp) (setBytes_only _ _ _) (only_mono (by simp) (by simp) (windowed_only s n b l))
  have hmem : ∀ a, (masked s n b l).byte a = ((windowed s n b l).setBytes (s.maskAddr n 0 (32 * b)) l).byte a := fun _ => rfl
  refine ⟨fun i hi => ?_, fun a hm hw hbyte => ?_, ?_, ?_, only_withGlare (by simp) honly⟩
  · rw [hmem, setBytes_byte, hl, if_pos (by omega), Nat.add_sub_cancel_left]
  · rw [hmem, setBytes_byte, hl, if_neg (by omega), windowed_byte s n b l hl hw hbyte]
  · refine (modEngine_engine _ (by rw [hglare]; exact hn)).trans ?_
    rw [State.engine, hglare, ← State.engine]
  · exact (withGlare_g ..).trans ((only_g (setBytes_only _ _ _) rfl).trans (windowed_band s n b l hb))

theorem writeBand_leaves (s : State) (band : List Byte) (hn : n < s.glare.engines.length) (hb : b < 16) :
    BandLeaves s n b (bandPixel s n b band) (s.writeBand n b band false) := by
  have h := masked_leaves s (bandBytes s n b band) hn hb (bandBytes_length ..)
  rw [writeBand_eq, if_neg (by decide)]
  exact ⟨fun i hi => (h.mask i hi).trans (bandBytes_getD s n b band hi), h.rests, h.engine, h.band, h.only⟩


/-! ### The commands -/

theorem renders_parts (h : s.renders n b = true) : n < 8 ∧ b < 16 := by
  simp only [State.renders, Bool.and_eq_true, decide_eq_true_eq] at h
  obtain ⟨⟨⟨⟨⟨hn, hb⟩, -⟩, -⟩, -⟩, -⟩ := h
  exact ⟨hn, hb⟩

theorem exec_render (cycles : Nat) (band : List Byte) (parity : Bool) (h : s.renders n b = true) : exec (.kernelBandRender n b cycles band parity) s =
    .next (if s.runsKernel n then (s.begin.cycles n cycles).writeBand n b band parity else s.begin.writeBand n b [] parity) :=
  congrArg Host.Outcome.next (if_pos h)

theorem cycles_only (s : State) (n c : Nat) : s.Only [F.BE_CYC_LAST n, F.BE_CYC_MAX n] [] (s.cycles n c) :=
  only_put _ (by simp) (by simp [F.BE_CYC_MAX]) (only_put _ (by simp) (by simp [F.BE_CYC_LAST]) (only_refl _ _ _))

theorem cycles_last (s : State) (n c : Nat) : (s.cycles n c).g (F.BE_CYC_LAST n) = c % 65536 :=
  (g_put_sep _ _ (by simp [sep, F.BE_CYC_MAX, F.BE_CYC_LAST])).trans (g_put_same _ _ _ (by simp [F.BE_CYC_LAST]) (by simp [F.BE_CYC_LAST]))

theorem cycles_max (s : State) (n c : Nat) : (s.cycles n c).g (F.BE_CYC_MAX n) = max c (s.g (F.BE_CYC_MAX n)) % 65536 :=
  g_put_same _ _ _ (by simp [F.BE_CYC_MAX]) (by simp [F.BE_CYC_MAX])

/-- A state with the engine's boxes and windows where another has them. -/
structure SameBand (n : Nat) (s u : State) : Prop where
  mem : u.mem = s.mem
  base : u.g F.GLR_MASK_BASE = s.g F.GLR_MASK_BASE
  window : u.g F.GLR_WIN_BLOCK = s.g F.GLR_WIN_BLOCK
  boxes : (u.engine n).boxes = (s.engine n).boxes
  engines : u.glare.engines.length = s.glare.engines.length

/-- A band written to a state with the same boxes and windows. -/
theorem writeBand_same (h : SameBand n s u) (band : List Byte) (hn : n < 8) (hl : s.glare.engines.length = 8) (hb : b < 16) :
    (∀ i, i < 16384 → (u.writeBand n b band false).byte (s.maskAddr n 0 (32 * b) + i) = bandPixel s n b band i)
      ∧ (∀ a, (a < s.maskAddr n 0 (32 * b) ∨ s.maskAddr n 0 (32 * b) + 16384 ≤ a) →
          (a < s.beamWin + 0x28000 + 0x4000 * n ∨ s.beamWin + 0x28000 + 0x4000 * n + 16384 ≤ a) →
          a ≠ s.beamWin + 0x18000 + 0x2000 * n + 20 → (u.writeBand n b band false).byte a = s.byte a)
      ∧ (u.writeBand n b band false).engine n = { u.engine n with written := b :: (u.engine n).written.filter (· ≠ b) }
      ∧ (u.writeBand n b band false).g (F.BE_STAT_BAND n) = b
      ∧ u.Only [F.BE_STAT_BAND n] [.mem, .glare] (u.writeBand n b band false) := by
  have hw := writeBand_leaves u (b := b) band (by rw [h.engines, hl]; exact hn) hb
  have hmask : u.maskAddr n 0 (32 * b) = s.maskAddr n 0 (32 * b) := by rw [State.maskAddr, h.base, ← State.maskAddr]
  have hbeam : u.beamWin = s.beamWin := by rw [State.beamWin, h.window, ← State.beamWin]
  have hpixel : bandPixel u n b band = bandPixel s n b band := by
    funext i
    rw [bandPixel, h.boxes, ← bandPixel]
  have hbyte : ∀ a, u.byte a = s.byte a := fun a => by rw [State.byte, h.mem, ← State.byte]
  refine ⟨fun i hi => ?_, fun a h1 h2 h3 => ?_, hw.engine, hw.band, hw.only⟩
  · rw [← hmask, hw.mask i hi, hpixel]
  · rw [hw.rests a (by rw [hmask]; exact h1) (by rw [hbeam]; exact h2) (by rw [hbeam]; exact h3), hbyte]

theorem cycles_same (s : State) (n c : Nat) : SameBand n s (s.begin.cycles n c) := by
  have h := cycles_only s.begin n c
  refine ⟨h.parts.mem (by decide), (only_g h ?_).trans (begin_g ..), (only_g h ?_).trans (begin_g ..), ?_, ?_⟩
  · simp [clear, Fld.apart, Fld.addr, F.BE_CYC_LAST, F.BE_CYC_MAX, F.GLR_MASK_BASE]
    omega
  · simp [clear, Fld.apart, Fld.addr, F.BE_CYC_LAST, F.BE_CYC_MAX, F.GLR_WIN_BLOCK]
    omega
  · rw [State.engine, h.parts.glare (by decide)]
    rfl
  · rw [h.parts.glare (by decide)]
    rfl

theorem begin_same (s : State) (n : Nat) : SameBand n s s.begin := ⟨rfl, rfl, rfl, rfl, rfl⟩

/-- A kernel's band is written. -/
theorem kernelBand_leaves (s : State) (cycles : Nat) (band : List Byte) (h : s.renders n b = true) (hk : s.runsKernel n = true)
    (hl : s.glare.engines.length = 8) :
    ∃ t, exec (.kernelBandRender n b cycles band false) s = .next t
      ∧ (∀ i, i < 16384 → t.byte (s.maskAddr n 0 (32 * b) + i) = bandPixel s n b band i)
      ∧ (∀ a, (a < s.maskAddr n 0 (32 * b) ∨ s.maskAddr n 0 (32 * b) + 16384 ≤ a) →
          (a < s.beamWin + 0x28000 + 0x4000 * n ∨ s.beamWin + 0x28000 + 0x4000 * n + 16384 ≤ a) →
          a ≠ s.beamWin + 0x18000 + 0x2000 * n + 20 → t.byte a = s.byte a)
      ∧ b ∈ (t.engine n).written ∧ t.g (F.BE_STAT_BAND n) = b ∧ t.g (F.BE_CYC_LAST n) = cycles % 65536
      ∧ t.g (F.BE_CYC_MAX n) = max cycles (s.g (F.BE_CYC_MAX n)) % 65536
      ∧ s.begin.Only [F.BE_CYC_LAST n, F.BE_CYC_MAX n, F.BE_STAT_BAND n] [.mem, .glare] t := by
  obtain ⟨hn, hb⟩ := renders_parts h
  have hrun := exec_render cycles band false h
  rw [if_pos hk] at hrun
  obtain ⟨hmask, hrest, heng, hband, honly⟩ := writeBand_same (cycles_same s n cycles) band hn hl hb
  have hword : ∀ x : Fld, x.off % 4096 ≠ 0x48 → clear [F.BE_STAT_BAND n] x = true := fun x hx => by simp [clear, sep_apart (band_sep n hx)]
  refine ⟨_, hrun, hmask, hrest, ?_, hband, ?_, ?_, ?_⟩
  · rw [heng]
    exact List.mem_cons_self
  · exact (only_g honly (hword _ (by simp [F.BE_CYC_LAST]))).trans (cycles_last ..)
  · exact (only_g honly (hword _ (by simp [F.BE_CYC_MAX]))).trans (cycles_max ..)
  · exact only_app (by simp) (by simp) honly (only_mono (by simp) (by simp) (cycles_only s.begin n cycles))

/-- An engine without a kernel leaves its boxes. -/
theorem boxBand_leaves (s : State) (cycles : Nat) (band : List Byte) (h : s.renders n b = true) (hk : s.runsKernel n = false)
    (hl : s.glare.engines.length = 8) :
    ∃ t, exec (.kernelBandRender n b cycles band false) s = .next t
      ∧ (∀ i, i < 16384 → t.byte (s.maskAddr n 0 (32 * b) + i) = bandPixel s n b [] i)
      ∧ b ∈ (t.engine n).written ∧ s.begin.Only [F.BE_STAT_BAND n] [.mem, .glare] t := by
  obtain ⟨hn, hb⟩ := renders_parts h
  have hrun := exec_render cycles band false h
  rw [if_neg (by rw [hk]; decide)] at hrun
  obtain ⟨hmask, -, heng, -, honly⟩ := writeBand_same (begin_same s n) [] hn hl hb
  refine ⟨_, hrun, hmask, ?_, honly⟩
  rw [heng]
  exact List.mem_cons_self

/-- A parity error on the write leaves the band unmarked. -/
theorem parityBand_leaves (s : State) (cycles : Nat) (band : List Byte) (h : s.renders n b = true) :
    ∃ t, exec (.kernelBandRender n b cycles band true) s = .next t ∧ t.glare = s.glare ∧ t.g (F.BE_STAT_BAND n) = b
      ∧ s.begin.Only [F.BE_CYC_LAST n, F.BE_CYC_MAX n, F.BE_STAT_BAND n] [.mem] t := by
  obtain ⟨-, hb⟩ := renders_parts h
  have hrun := exec_render cycles band true h
  simp only [writeBand_eq, if_true] at hrun
  split_ifs at hrun
  · have honly := only_app (by simp) (by simp) (windowed_only (s.begin.cycles n cycles) n b (bandBytes (s.begin.cycles n cycles) n b band))
      (only_mono (fs' := [F.BE_CYC_LAST n, F.BE_CYC_MAX n, F.BE_STAT_BAND n]) (ps' := [.mem]) (by simp) (by simp) (cycles_only s.begin n cycles))
    exact ⟨_, hrun, honly.parts.glare (by decide), windowed_band _ _ _ _ hb, honly⟩
  · have honly := only_mono (fs' := [F.BE_CYC_LAST n, F.BE_CYC_MAX n, F.BE_STAT_BAND n]) (ps' := [.mem]) (by simp) (by simp)
      (windowed_only s.begin n b (bandBytes s.begin n b []))
    exact ⟨_, hrun, honly.parts.glare (by decide), windowed_band _ _ _ _ hb, honly⟩


/-! ### A kernel that is cut off -/

/-- The event of a kernel that is cut off. -/
def cutEvent (n : Nat) (window : Bool) : Fld := if window then F.BE_EVT_WIN_FAULT n else F.BE_EVT_OVERRUN n

/-- A kernel is cut off: cycles and events. -/
def cutOff (s : State) (n : Nat) (window : Bool) : State := (((s.cycles n 31744).evt (cutEvent n window)).evt F.GLR_EVT_MISS).incSat (F.BE_CNT_MISS n)

/-- The miss is detected. -/
def missFault (s : State) (n : Nat) : State := s.detect [0x30, 0x31 + n] S.BE_MISS n 0 false

/-- A miss counts once for a frame. -/
def missCounted (s : State) (n : Nat) : State :=
  if (s.engine n).missed then s else (s.incSat (F.BE_STAT_MISS_RUN n)).modEngine n (fun e => { e with missed := true })

/-- A run of misses makes box-only mode due. -/
def missJudged (s : State) (n : Nat) : State :=
  if s.g F.GLR_CTRL_MISS_MAX ≤ s.g (F.BE_STAT_MISS_RUN n) then s.modEngine n (fun e => { e with boxDue := true }) else s

theorem exec_overrun (window : Bool) (h : s.renders n b = true) (hk : s.runsKernel n = true) : exec (.kernelOverrun n b window false) s =
    .next ((missJudged (missCounted (missFault (cutOff s.begin n window) n) n) n).writeBand n b [] false) :=
  congrArg Host.Outcome.next (if_pos (show (s.renders n b && s.runsKernel n) = true by rw [h, hk]; rfl))

section
variable (window : Bool)

/-- Fields of the engines and of GLR that a cut-off leaves up to its count. -/
theorem cutOff_g (s : State) (hp : f.page = 0x30 ∨ f.page = 0x31 + n % 8) (ho : f.off % 4096 ≠ 0x18)
    (h30 : f.page = 0x30 → f.off % 4096 ≠ F.GLR_EVT_MISS.off) (h31 : f.page = 0x31 + n % 8 → f.off % 4096 ≠ 0x4C ∧ f.off % 4096 ≠ 0x50 ∧ f.off % 4096 ≠ 0x54) :
    (cutOff s n window).g f = s.g f := by
  have hirq : ∀ p, sep (F.UNIT_IRQ_STAT_EVT p) f = true := fun p => by
    have hne : (0x18 : Nat) ≠ f.off % 4096 := fun e => ho e.symm
    simp [sep, F.UNIT_IRQ_STAT_EVT, hne]
  have hbe : ∀ off hi lo, hi < 32 → off < 4096 → (off = 0x4C ∨ off = 0x50 ∨ off = 0x54) → sep ⟨0x31 + n % 8, off, hi, lo⟩ f = true := by
    intro off hi lo hh hlt hoff
    rcases hp with hp | hp
    · have hne : 0x31 + n % 8 ≠ f.page := by omega
      simp [sep, hh, hne]
    · obtain ⟨h1, h2, h3⟩ := h31 hp
      have hne : off % 4096 ≠ f.off % 4096 := by omega
      simp [sep, hh, hne]
  have hev : sep (cutEvent n window) f = true := by
    unfold cutEvent
    split_ifs
    · exact hbe 0x50 1 1 (by decide) (by decide) (by decide)
    · exact hbe 0x50 0 0 (by decide) (by decide) (by decide)
  have hmiss : sep F.GLR_EVT_MISS f = true := by
    rcases hp with hp | hp
    · have hne : F.GLR_EVT_MISS.off % 4096 ≠ f.off % 4096 := fun e => h30 hp e.symm
      simp [sep, hne]
      decide
    · have hne : F.GLR_EVT_MISS.page ≠ f.page := by
        rw [hp]
        simp only [F.GLR_EVT_MISS]
        omega
      simp [sep, hne]
      decide
  have hcnt : sep (F.BE_CNT_MISS n) f = true := hbe 0x54 15 0 (by decide) (by decide) (by decide)
  have hmax : sep (F.BE_CYC_MAX n) f = true := hbe 0x4C 31 16 (by decide) (by decide) (by decide)
  have hlast : sep (F.BE_CYC_LAST n) f = true := hbe 0x4C 15 0 (by decide) (by decide) (by decide)
  rw [cutOff, g_incSat_sep _ hcnt, g_evt_sep _ hmiss (hirq _), g_evt_sep _ hev (hirq _), State.cycles, g_put_sep _ _ hmax, g_put_sep _ _ hlast]

theorem cutOff_glare (s : State) : (cutOff s n window).glare = s.glare := by
  rw [cutOff, incSat_glare, evt_glare, evt_glare, State.cycles, put_glare, put_glare]

theorem cutOff_mem (s : State) : (cutOff s n window).mem = s.mem := by
  rw [cutOff, incSat_mem, evt_mem, evt_mem, State.cycles, put_mem, put_mem]

theorem cutOff_level (s : State) : (cutOff s.begin n window).defLevel S.BE_MISS = s.defLevel S.BE_MISS := by
  have hfits : s.begin.Fits (Foot.of [0x30] []) (cutOff s.begin n window) := by
    have hbe : ∀ k, (Foot.of [0x30] []).hasUnit (groupPage (0x31 + k % 8)) = true := fun k => by
      have h : ∀ j < 8, (Foot.of [0x30] []).hasUnit (groupPage (0x31 + j)) = true := by decide
      exact h _ (Nat.mod_lt _ (by decide))
    refine incSat_fits (hbe n) (evt_fits (by decide) (evt_fits ?_ (put_fits _ (hbe n) (put_fits _ (hbe n) (fits_refl _ _)))))
    cases window <;> exact hbe n
  exact fits_defLevel hfits rfl rfl _

theorem cutOff_quiet (s : State) (p : Nat) : (cutOff s.begin n window).quiet p = s.quiet p := by
  have hrst : (cutOff s.begin n window).rst = s.rst := by
    rw [cutOff, incSat_rst, evt_rst, evt_rst, State.cycles, put_rst, put_rst]
    rfl
  rw [State.quiet, hrst, ← State.quiet]

theorem missFault_fits (s : State) (hn : n < 8) : s.Fits (Foot.reaction [0x02, 0x30] []) (missFault s n) :=
  detect_fits s _ _ _ _ _ (by
    have h : ∀ k < 8, (Foot.reaction [0x02, 0x30] []).hasUnit (groupPage (srcPage S.BE_MISS k)) = true := by decide
    exact h n hn) (by decide) (fits_refl _ s)

theorem missFault_g (s : State) (hp : f.page = 0x30 ∨ f.page = 0x31 + n % 8) (h18 : f.off % 4096 ≠ 0x18) (h44 : f.off % 4096 ≠ 0x44) :
    (missFault s n).g f = s.g f :=
  detect_lamp s _ _ _ _ _ (picture_lamp (by omega) h18 h44) (picture_conseq (by omega))

end

theorem missCounted_g (s : State) (h : sep (F.BE_STAT_MISS_RUN n) f = true) : (missCounted s n).g f = s.g f := by
  unfold missCounted
  exact ite_g (fun _ => rfl) (fun _ => (withGlare_g ..).trans (g_incSat_sep s h))

theorem missJudged_g (s : State) (n : Nat) (x : Fld) : (missJudged s n).g x = s.g x := by
  unfold missJudged
  exact ite_g (fun _ => withGlare_g ..) (fun _ => rfl)

/-- The engine after the miss has been counted and judged. -/
theorem missed_engine (s : State) (h : n < s.glare.engines.length) :
    ((missJudged (missCounted s n) n).engine n).boxes = (s.engine n).boxes ∧ ((missJudged (missCounted s n) n).engine n).missed = true
      ∧ ((missCounted s n).g F.GLR_CTRL_MISS_MAX ≤ (missCounted s n).g (F.BE_STAT_MISS_RUN n) →
        ((missJudged (missCounted s n) n).engine n).boxDue = true)
      ∧ (missJudged (missCounted s n) n).glare.engines.length = s.glare.engines.length
      ∧ (missJudged (missCounted s n) n).mem = s.mem := by
  have hc : ((missCounted s n).engine n).boxes = (s.engine n).boxes ∧ ((missCounted s n).engine n).missed = true
      ∧ (missCounted s n).glare.engines.length = s.glare.engines.length ∧ (missCounted s n).mem = s.mem := by
    unfold missCounted
    split_ifs with hm
    · exact ⟨rfl, hm, rfl, rfl⟩
    · have hg : (s.incSat (F.BE_STAT_MISS_RUN n)).glare = s.glare := incSat_glare ..
      have he := modEngine_engine (s := s.incSat (F.BE_STAT_MISS_RUN n)) (fun e => { e with missed := true }) (by rw [hg]; exact h)
      have hs : (s.incSat (F.BE_STAT_MISS_RUN n)).engine n = s.engine n := by rw [State.engine, hg, ← State.engine]
      refine ⟨by rw [he, hs], by rw [he], ?_, incSat_mem ..⟩
      show (List.set _ _ _).length = _
      rw [List.length_set, hg]
  obtain ⟨hbox, hmiss, hlen, hmem⟩ := hc
  unfold missJudged
  generalize missCounted s n = u at hbox hmiss hlen hmem ⊢
  split_ifs with hj
  · rw [modEngine_engine (s := u) _ (by rw [hlen]; exact h)]
    refine ⟨hbox, hmiss, fun _ => rfl, ?_, hmem⟩
    show (List.set _ _ _).length = _
    rw [List.length_set, hlen]
  · exact ⟨hbox, hmiss, fun h => absurd h hj, hlen, hmem⟩

theorem missCounted_run (s : State) (n : Nat) (h : (s.engine n).missed = false) :
    (missCounted s n).g (F.BE_STAT_MISS_RUN n) = min (F.BE_STAT_MISS_RUN n).top (s.g (F.BE_STAT_MISS_RUN n) + 1) := by
  unfold missCounted
  rw [if_neg (by simp [h])]
  exact (withGlare_g ..).trans (g_incSat (by simp [F.BE_STAT_MISS_RUN]) (by simp [F.BE_STAT_MISS_RUN]) (g_le_top _ _))

/-- The marks of a cut-off. -/
theorem cutOff_marks (s : State) (n : Nat) (window : Bool) :
    (cutOff s n window).on (cutEvent n window) = true ∧ (cutOff s n window).on F.GLR_EVT_MISS = true
      ∧ (cutOff s n window).g (F.BE_CYC_LAST n) = 31744
      ∧ (cutOff s n window).g (F.BE_CNT_MISS n) = min (F.BE_CNT_MISS n).top (s.g (F.BE_CNT_MISS n) + 1) := by
  have hone : oneBit (cutEvent n window) = true := by cases window <;> simp [cutEvent, oneBit, sep, F.BE_EVT_WIN_FAULT, F.BE_EVT_OVERRUN, F.UNIT_IRQ_STAT_EVT]
  have hpage : F.GLR_EVT_MISS.page ≠ 0x31 + n % 8 := by
    simp only [F.GLR_EVT_MISS]
    omega
  have hmissEv : sep F.GLR_EVT_MISS (cutEvent n window) = true := by cases window <;> simp [cutEvent, sep, F.GLR_EVT_MISS, F.BE_EVT_WIN_FAULT, F.BE_EVT_OVERRUN]
  have hirqEv : ∀ p, sep (F.UNIT_IRQ_STAT_EVT p) (cutEvent n window) = true := fun p => by
    cases window <;> simp [cutEvent, sep, F.UNIT_IRQ_STAT_EVT, F.BE_EVT_WIN_FAULT, F.BE_EVT_OVERRUN]
  have hcntEv : sep (F.BE_CNT_MISS n) (cutEvent n window) = true := by cases window <;> simp [cutEvent, sep, F.BE_CNT_MISS, F.BE_EVT_WIN_FAULT, F.BE_EVT_OVERRUN]
  have hlastEv : ∀ f : Fld, f = F.BE_CYC_LAST n ∨ f = F.BE_CNT_MISS n → sep (cutEvent n window) f = true ∧ sep F.GLR_EVT_MISS f = true
      ∧ ∀ p, sep (F.UNIT_IRQ_STAT_EVT p) f = true := by
    intro f hf
    rcases hf with rfl | rfl <;> cases window <;>
      simp [cutEvent, sep, F.GLR_EVT_MISS, F.UNIT_IRQ_STAT_EVT, F.BE_EVT_WIN_FAULT, F.BE_EVT_OVERRUN, F.BE_CYC_LAST, F.BE_CNT_MISS]
  refine ⟨?_, ?_, ?_, ?_⟩
  · rw [cutOff, on_incSat_sep _ hcntEv, on_evt_sep _ hmissEv (hirqEv _), on_evt_self _ hone]
  · rw [cutOff, on_incSat_sep _ (by simp [sep, F.BE_CNT_MISS, F.GLR_EVT_MISS]), on_evt_self _ (by decide)]
  · obtain ⟨h1, h2, h3⟩ := hlastEv _ (.inl rfl)
    rw [cutOff, g_incSat_sep _ (by simp [sep, F.BE_CNT_MISS, F.BE_CYC_LAST]), g_evt_sep _ h2 (h3 _), g_evt_sep _ h1 (h3 _), cycles_last]
  · obtain ⟨h1, h2, h3⟩ := hlastEv _ (.inr rfl)
    rw [cutOff, g_incSat (by simp [F.BE_CNT_MISS]) (by simp [F.BE_CNT_MISS]) (g_le_top _ _), g_evt_sep _ h2 (h3 _), g_evt_sep _ h1 (h3 _), State.cycles,
      g_put_sep _ _ (by simp [sep, F.BE_CYC_MAX, F.BE_CNT_MISS]), g_put_sep _ _ (by simp [sep, F.BE_CYC_LAST, F.BE_CNT_MISS])]

/-- What a cut-off leaves. -/
theorem overrun_leaves (s : State) (window : Bool) (h : s.renders n b = true) (hk : s.runsKernel n = true) (hl : s.glare.engines.length = 8) :
    ∃ t, exec (.kernelOverrun n b window false) s = .next t
      ∧ (∀ i, i < 16384 → t.byte (s.maskAddr n 0 (32 * b) + i) = bandPixel s n b [] i)
      ∧ t.on (cutEvent n window) = true ∧ t.on F.GLR_EVT_MISS = true
      ∧ t.g (F.BE_CYC_LAST n) = 31744 ∧ t.g (F.BE_CNT_MISS n) = min (F.BE_CNT_MISS n).top (s.g (F.BE_CNT_MISS n) + 1)
      ∧ b ∈ (t.engine n).written ∧ (t.engine n).missed = true
      ∧ ((s.engine n).missed = false → t.g (F.BE_STAT_MISS_RUN n) = min (F.BE_STAT_MISS_RUN n).top (s.g (F.BE_STAT_MISS_RUN n) + 1))
      ∧ (s.g F.GLR_CTRL_MISS_MAX ≤ t.g (F.BE_STAT_MISS_RUN n) → (t.engine n).boxDue = true)
      ∧ (s.quiet 0x30 = false → s.quiet (0x31 + n) = false → s.defLevel S.BE_MISS ≠ 0 → t.on (fltPend S.BE_MISS) = true)
      ∧ s.Within (Foot.reaction [0x02, 0x30] [.mem, .glare]) t := by
  obtain ⟨hn, hb⟩ := renders_parts h
  have hrun := exec_overrun window h hk
  have hwithin : s.Within (Foot.reaction [0x02, 0x30] [.mem, .glare])
      ((missJudged (missCounted (missFault (cutOff s.begin n window) n) n) n).writeBand n b [] false) := by
    obtain ⟨t, ht, hfits⟩ := execKernelOverrun_fits n b window false s
    obtain rfl := Host.Outcome.next.inj (hrun.symm.trans ht)
    exact within_mono (by decide) hfits.within
  have hfault := missFault_fits (cutOff s.begin n window) hn
  have hglare : (missFault (cutOff s.begin n window) n).glare = s.glare := (within_glare hfault.within rfl (by decide)).trans (cutOff_glare window s.begin)
  have hmem : (missFault (cutOff s.begin n window) n).mem = s.mem := (within_mem hfault.within rfl (by decide)).trans (cutOff_mem window s.begin)
  have heng : (missFault (cutOff s.begin n window) n).engine n = s.engine n := by rw [State.engine, hglare, ← State.engine]
  obtain ⟨hev, hmiss, hlast, hcnt⟩ := cutOff_marks s.begin n window
  have hkeep : ∀ x : Fld, x.page = 0x30 ∨ x.page = 0x31 + n % 8 → x.off % 4096 ≠ 0x18 → x.off % 4096 ≠ 0x44 →
      (missFault (cutOff s.begin n window) n).g x = (cutOff s.begin n window).g x := fun x hp h18 h44 => missFault_g _ hp h18 h44
  have hcut : ∀ x : Fld, (x.page = 0x30 ∧ x.off % 4096 ≠ F.GLR_EVT_MISS.off ∨ x.page = 0x31 + n % 8 ∧ x.off % 4096 = 0x48) → x.off % 4096 ≠ 0x18 →
      (cutOff s.begin n window).g x = s.g x := fun x hx h18 =>
    cutOff_g window s.begin (by omega) h18 (by omega) (by omega)
  have hpend : s.quiet 0x30 = false → s.quiet (0x31 + n) = false → s.defLevel S.BE_MISS ≠ 0 →
      (missFault (cutOff s.begin n window) n).on (fltPend S.BE_MISS) = true := fun h0 h1 hd => by
    have hlev : (cutOff s.begin n window).defLevel S.BE_MISS = s.defLevel S.BE_MISS := cutOff_level window s
    have hq : ∀ p, (cutOff s.begin n window).quiet p = s.quiet p := cutOff_quiet window s
    exact detect_pend _ _ _ _ (by simp [hq, h0, h1]) (by decide) (hlev.symm ▸ hd)
  generalize missFault (cutOff s.begin n window) n = u at hrun hwithin hglare hmem heng hkeep hpend
  obtain ⟨hbox, hmissed, hdue, hlen, hmem'⟩ := missed_engine u (n := n) (by rw [hglare, hl]; exact hn)
  have hrest : ∀ x : Fld, sep (F.BE_STAT_MISS_RUN n) x = true → (missJudged (missCounted u n) n).g x = u.g x := fun x hx =>
    (missJudged_g _ _ _).trans (missCounted_g u hx)
  have hsame : SameBand n s (missJudged (missCounted u n) n) := by
    refine ⟨hmem'.trans hmem, ?_, ?_, hbox.trans (congrArg Engine.boxes heng), hlen.trans (congrArg (fun e => e.engines.length) hglare)⟩
    · rw [hrest _ (by simp [sep, F.BE_STAT_MISS_RUN, F.GLR_MASK_BASE]), hkeep _ (.inl rfl) (by decide) (by decide), hcut _ (.inl (by decide)) (by decide)]
    · rw [hrest _ (by simp [sep, F.BE_STAT_MISS_RUN, F.GLR_WIN_BLOCK]), hkeep _ (.inl rfl) (by decide) (by decide), hcut _ (.inl (by decide)) (by decide)]
  obtain ⟨hmask, -, hengine, -, honly⟩ := writeBand_same hsame [] hn hl hb
  have hword : ∀ x : Fld, sep (F.BE_STAT_BAND n) x = true → ((missJudged (missCounted u n) n).writeBand n b [] false).g x
      = (missJudged (missCounted u n) n).g x := fun x hx => only_g honly (by simp [clear, sep_apart hx])
  have hall : ∀ x : Fld, x.page = 0x30 ∨ x.page = 0x31 + n % 8 → x.off % 4096 ≠ 0x18 → x.off % 4096 ≠ 0x44 → x.off % 4096 ≠ 0x48 →
      ((missJudged (missCounted u n) n).writeBand n b [] false).g x = (cutOff s.begin n window).g x := fun x hp h18 h44 h48 => by
    have hne : (0x48 : Nat) ≠ x.off % 4096 := fun e => h48 e.symm
    rw [hword x (band_sep n h48), hrest x (by simp [sep, F.BE_STAT_MISS_RUN, hne]), hkeep x hp h18 h44]
  have hrunsep : sep (F.BE_STAT_BAND n) (F.BE_STAT_MISS_RUN n) = true := by simp [sep, F.BE_STAT_BAND, F.BE_STAT_MISS_RUN]
  have hrunval : ((missJudged (missCounted u n) n).writeBand n b [] false).g (F.BE_STAT_MISS_RUN n) = (missCounted u n).g (F.BE_STAT_MISS_RUN n) :=
    (hword _ hrunsep).trans (missJudged_g _ _ _)
  refine ⟨_, hrun, hmask, ?_, ?_, ?_, ?_, ?_, ?_, fun hm => ?_, fun hm => ?_, fun h0 h1 hd => ?_, hwithin⟩
  · refine (on_congr (hall _ (.inr ?_) ?_ ?_ ?_)).trans hev <;> cases window <;> simp [cutEvent, F.BE_EVT_WIN_FAULT, F.BE_EVT_OVERRUN]
  · exact (on_congr (hall _ (.inl rfl) (by decide) (by decide) (by decide))).trans hmiss
  · exact (hall _ (.inr rfl) (by simp [F.BE_CYC_LAST]) (by simp [F.BE_CYC_LAST]) (by simp [F.BE_CYC_LAST])).trans hlast
  · exact (hall _ (.inr rfl) (by simp [F.BE_CNT_MISS]) (by simp [F.BE_CNT_MISS]) (by simp [F.BE_CNT_MISS])).trans hcnt
  · rw [hengine]
    exact List.mem_cons_self
  · rw [hengine]
    exact hmissed
  · rw [hrunval, missCounted_run u n (by rw [heng]; exact hm), hkeep _ (.inr rfl) (by simp [F.BE_STAT_MISS_RUN]) (by simp [F.BE_STAT_MISS_RUN]),
      hcut _ (.inr ⟨rfl, by simp [F.BE_STAT_MISS_RUN]⟩) (by simp [F.BE_STAT_MISS_RUN])]
  · rw [hengine]
    refine hdue ?_
    rw [missCounted_g u (by simp [sep, F.BE_STAT_MISS_RUN, F.GLR_CTRL_MISS_MAX]), hkeep _ (.inl rfl) (by decide) (by decide),
      hcut _ (.inl (by decide)) (by decide), ← hrunval]
    exact hm
  · have hsep : ∀ off hi lo, hi < 32 → sep ⟨0x31 + n % 8, off, hi, lo⟩ (fltPend S.BE_MISS) = true := fun off hi lo hh => by
      simp [sep, hh, fltPend]
      omega
    rw [on_congr (hword _ (hsep _ _ _ (by decide))), on_congr (hrest _ (hsep _ _ _ (by decide)))]
    exact hpend h0 h1 hd

/-- Settles O29: a kernel's band, a band of boxes alone, one with a parity error, and a kernel that is cut off. -/
theorem kernelBands : Obligations.KernelBands := by
  refine ⟨fun s n b cycles band h hk hl => ?_, fun s n b cycles band h hk hl => ?_, fun s n b cycles band h => parityBand_leaves s cycles band h,
    fun s n b window h hk hl => ?_, fun s n b cycles band window parity h => ⟨?_, ?_⟩⟩
  · intro inBox
    exact kernelBand_leaves s cycles band h hk hl
  · intro inBox
    exact boxBand_leaves s cycles band h hk hl
  · intro inBox
    exact overrun_leaves s window h hk hl
  · exact congrArg Host.Outcome.next (if_neg (show ¬ s.renders n b = true by simp [h]))
  · exact congrArg Host.Outcome.next (if_neg (show ¬ (s.renders n b && s.runsKernel n) = true by simp [h]))

end Sys2Proof.Proofs.GlareBands
end

section
/-! PROOF. Deadline, commit and flip (DeadlineAndFlip). -/

namespace Sys2Proof.Proofs.FrameFlips

open Sys2Proof.Machine Sys2Proof.Laws Sys2Proof.Proofs.Architecture Sys2Proof.Proofs.Reading Sys2Proof.Proofs.GovernorSums
  Sys2Proof.Proofs.PendingFaults Sys2Proof.Proofs.LampReactions Sys2Proof.Proofs.FrameDeferral Sys2Proof.Proofs.GlareBands Sys2Proof.Proofs.FlintLockOut
  Sys2Proof.Proofs.SegmentLine Sys2Proof.Proofs.FaultWrites

variable {s t u v : State} {f x : Fld} {n : Nat}

/-! ### Detections leave the levels of faults -/

theorem conseq_mark (hf : markField f = true) (s : State) (i inst addr : Nat) (hc : sep F.RST_BLK_STAT_CONSEQ_CNT f = true) :
    (s.conseq i inst addr).g f = s.g f := by
  have hrec := record_g (s.incSat F.RST_BLK_STAT_CONSEQ_CNT) (s.incSat F.RST_BLK_STAT_CONSEQ_CNT |>.faultRec i inst addr (s.defLevel i) (s.defLevel i) false true false)
    (clear_record (markField_iff.1 hf).1)
  unfold State.conseq
  dsimp only
  exact ite_g (fun _ => hrec.trans (g_incSat_sep s hc)) (fun _ => (history_mark hf _ _ _ _ _ _).trans (hrec.trans (g_incSat_sep s hc)))

theorem detect_level (s : State) (pages : List Nat) {i k : Nat} (inst addr : Nat) (inj : Bool) (hi : i < 75) (hk : k < 75) :
    (s.detect pages i inst addr inj).defLevel k = s.defLevel k := by
  have hfield : ∀ y : Fld, markField y = true → sep F.RST_BLK_STAT_CONSEQ_CNT y = true → (s.detect pages i inst addr inj).g y = s.g y := fun y hy hc => by
    unfold State.detect
    exact ite_g (fun _ => conseq_mark hy s i inst addr hc) (fun _ => raiseWith_mark hy s inst addr inj false hi)
  have hsev : ∀ j < 75, markField (fltSev j) = true ∧ sep F.RST_BLK_STAT_CONSEQ_CNT (fltSev j) = true := by decide
  rw [State.defLevel, State.defLevel, on_congr (hfield F.FLT_CTRL_MODE (by decide) (by decide)), hfield _ (hsev k hk).1 (hsev k hk).2]

theorem conseq_pend (s : State) (i inst addr : Nat) {j : Nat} (hj : j < 75) : (s.conseq i inst addr).on (fltPend j) = s.on (fltPend j) := by
  have hclear : clear recordFields (fltPend j) = true ∧ sep F.RST_BLK_STAT_CONSEQ_CNT (fltPend j) = true :=
    (by decide : ∀ j < 75, clear recordFields (fltPend j) = true ∧ sep F.RST_BLK_STAT_CONSEQ_CNT (fltPend j) = true) j hj
  have hrec : ∀ r : EvRec, ((s.incSat F.RST_BLK_STAT_CONSEQ_CNT).record r).2.on (fltPend j) = s.on (fltPend j) := fun r =>
    (on_congr (record_g _ r hclear.1)).trans (on_incSat_sep s hclear.2)
  unfold State.conseq
  dsimp only
  split_ifs
  · exact hrec _
  · exact (history_pend _ _ _ _ _ _ hj).trans (hrec _)

theorem detect_keeps_pend (s : State) (pages : List Nat) {i j : Nat} (inst addr : Nat) (inj : Bool) (hi : i < 75) (hj : j < 75)
    (h : s.on (fltPend j) = true) : (s.detect pages i inst addr inj).on (fltPend j) = true := by
  unfold State.detect
  split_ifs
  · exact (conseq_pend s i inst addr hj).trans h
  · exact raiseWith_keeps_pend s inst addr inj false hi hj h

/-! ### A deferral -/

theorem recompLost_g (s : State) (hf : lampField f = true) (hc : F.RST_BLK_STAT_CONSEQ_CNT.apart f = true) : (recompLost s).g f = s.g f :=
  foldl_g (fun u (r : Recomp) => foldl_g (fun v (e : Nat × Nat) => detect_lamp v cmpPages S.CMP_PARITY_UNC e.1 e.2 r.inj hf hc) r.parity u) _ s

theorem recompLost_fits (s : State) : s.Fits (Foot.reaction [0x02, 0x18] []) (recompLost s) :=
  fits_foldl _ _ (fun r _ _ hu => parityOutcome_fits _ r.parity true r.inj (by decide) hu) (fits_refl _ s)

/-- A field of the compositor's page that is not the interrupt word. -/
theorem cmp_quiet (hp : x.page = 0x18) (h18 : x.off % 4096 ≠ 0x18) (h44 : x.off % 4096 ≠ 0x44) :
    lampField x = true ∧ F.RST_BLK_STAT_CONSEQ_CNT.apart x = true :=
  ⟨picture_lamp (by omega) h18 h44, picture_conseq (by omega)⟩

/-- A deferral up to its faults. -/
def deferBase (s : State) : State := putOff (deferCounted (recompLost s) false) (deferRun (deferCounted (recompLost s) false))

theorem deferRun_eq (s : State) : deferRun (deferCounted (recompLost s) false) = min 7 (s.g F.CMP_STAT_DEFER_RUN + 1) := by
  have hq := cmp_quiet (x := F.CMP_STAT_DEFER_RUN) rfl (by decide) (by decide)
  have hg : (deferCounted (recompLost s) false).g F.CMP_STAT_DEFER_RUN = s.g F.CMP_STAT_DEFER_RUN := by
    rw [deferCounted, if_neg (by decide), g_incSat_sep _ (by decide), g_evt_sep _ (by decide) (by decide), recompLost_g s hq.1 hq.2]
  rw [deferRun, hg]

theorem deferFlip_base (s : State) : s.deferFlip false = deferFaults (deferBase s) (min 7 (s.g F.CMP_STAT_DEFER_RUN + 1)) := by
  rw [deferFlip_eq, deferRun_eq, deferBase, deferRun_eq]

theorem deferFaults_g (s : State) (run : Nat) (hf : lampField f = true) (hc : F.RST_BLK_STAT_CONSEQ_CNT.apart f = true)
    (he : sep F.CMP_EVT_DEFER_FATAL f = true) (hq : sep (F.UNIT_IRQ_STAT_EVT 0x18) f = true) : (deferFaults s run).g f = s.g f := by
  have hd := detect_lamp s cmpPages S.CMP_DEFER 0 0 false hf hc
  unfold deferFaults
  exact ite_g (fun _ => (detect_lamp _ _ _ _ _ _ hf hc).trans ((g_evt_sep _ he hq).trans hd)) (fun _ => hd)

theorem deferFaults_fits (s : State) (run : Nat) : s.Fits (Foot.reaction [0x02, 0x18] []) (deferFaults s run) := by
  have hd : s.Fits (Foot.reaction [0x02, 0x18] []) (s.detect cmpPages S.CMP_DEFER 0 0 false) :=
    detect_fits s _ _ _ _ _ (by decide) (by decide) (fits_refl _ s)
  exact fits_ite (detect_fits _ _ _ _ _ _ (by decide) (by decide) (evt_fits (by decide) hd)) hd

theorem putOff_parts (s : State) (run : Nat) :
    (putOff s run).cmp = { s.cmp with deferred := true, recomp := [] }
      ∧ (putOff s run).tln = { s.tln with nextFlip := s.tln.nextFlip + s.cmp.period, latched := false, committed := false, closed := false }
      ∧ (putOff s run).gov = s.gov ∧ (putOff s run).rst = s.rst := by
  have hcmp : ((s.put F.CMP_STAT_DEFER_RUN run).put F.CMP_STAT_COMPOSING 0).cmp = s.cmp := (put_cmp ..).trans (put_cmp ..)
  have htln : ((s.put F.CMP_STAT_DEFER_RUN run).put F.CMP_STAT_COMPOSING 0).tln = s.tln := (put_tln ..).trans (put_tln ..)
  have hgov : ((s.put F.CMP_STAT_DEFER_RUN run).put F.CMP_STAT_COMPOSING 0).gov = s.gov := (put_gov ..).trans (put_gov ..)
  have hrst : ((s.put F.CMP_STAT_DEFER_RUN run).put F.CMP_STAT_COMPOSING 0).rst = s.rst := (put_rst ..).trans (put_rst ..)
  unfold putOff
  generalize (s.put F.CMP_STAT_DEFER_RUN run).put F.CMP_STAT_COMPOSING 0 = u at hcmp htln hgov hrst ⊢
  rw [← hcmp, ← htln]
  exact ⟨rfl, rfl, hgov, hrst⟩

/-- The frame as a deferral puts it off. -/
theorem deferBase_parts (s : State) :
    (deferBase s).cmp = { s.cmp with deferred := true, recomp := [] }
      ∧ (deferBase s).tln = { s.tln with nextFlip := s.tln.nextFlip + s.cmp.period, latched := false, committed := false, closed := false }
      ∧ (deferBase s).gov = s.gov ∧ (deferBase s).rst = s.rst := by
  have hfits := (recompLost_fits s).within
  have hcmp : (deferCounted (recompLost s) false).cmp = s.cmp := by
    rw [deferCounted, if_neg (by decide), incSat_cmp, evt_cmp, within_cmp hfits rfl (by decide)]
  have htln : (deferCounted (recompLost s) false).tln = s.tln := by
    rw [deferCounted, if_neg (by decide), incSat_tln, evt_tln, within_tln hfits rfl (by decide)]
  have hgov : (deferCounted (recompLost s) false).gov = s.gov := by
    rw [deferCounted, if_neg (by decide), incSat_gov, evt_gov, within_gov hfits rfl (by decide)]
  have hrst : (deferCounted (recompLost s) false).rst = s.rst := by
    rw [deferCounted, if_neg (by decide), incSat_rst, evt_rst, within_rst hfits rfl (by decide)]
  obtain ⟨h1, h2, h3, h4⟩ := putOff_parts (deferCounted (recompLost s) false) (deferRun (deferCounted (recompLost s) false))
  rw [hcmp] at h1 h2
  rw [htln] at h2
  exact ⟨h1, h2, h3.trans hgov, h4.trans hrst⟩

theorem deferBase_marks (s : State) :
    (deferBase s).on F.CMP_EVT_DEFER = true ∧ (deferBase s).g F.CMP_CNT_DEFER = min F.CMP_CNT_DEFER.top (s.g F.CMP_CNT_DEFER + 1)
      ∧ (deferBase s).g F.CMP_STAT_DEFER_RUN = min 7 (s.g F.CMP_STAT_DEFER_RUN + 1) ∧ (deferBase s).g F.CMP_STAT_COMPOSING = 0
      ∧ (deferBase s).g F.CMP_CTRL_DEFER_MAX = s.g F.CMP_CTRL_DEFER_MAX := by
  have hcount : deferCounted (recompLost s) false = ((recompLost s).evt F.CMP_EVT_DEFER).incSat F.CMP_CNT_DEFER := rfl
  have hput : ∀ (w : State) (run : Nat) (y : Fld), (putOff w run).g y = ((w.put F.CMP_STAT_DEFER_RUN run).put F.CMP_STAT_COMPOSING 0).g y :=
    fun w run y => (withCmp_g ..).trans (withTln_g ..)
  have hq : ∀ y : Fld, y.page = 0x18 → y.off % 4096 ≠ 0x18 → y.off % 4096 ≠ 0x44 → (recompLost s).g y = s.g y := fun y hp h18 h44 =>
    recompLost_g s (cmp_quiet hp h18 h44).1 (cmp_quiet hp h18 h44).2
  refine ⟨?_, ?_, ?_, ?_, ?_⟩
  · rw [deferBase, on_congr (hput _ _ _), on_put_sep _ _ (by decide), on_put_sep _ _ (by decide), hcount, on_incSat_sep _ (by decide), on_evt_self _ (by decide)]
  · rw [deferBase, hput, g_put_sep _ _ (by decide), g_put_sep _ _ (by decide), hcount, g_incSat (by decide) (by decide) (g_le_top _ _),
      g_evt_sep _ (by decide) (by decide), hq _ rfl (by decide) (by decide)]
  · rw [deferBase, hput, deferRun_eq, g_put_sep _ _ (by decide)]
    exact g_put_self (by decide) (by decide) (show min 7 (s.g F.CMP_STAT_DEFER_RUN + 1) < 8 by omega)
  · rw [deferBase, hput]
    exact g_put_room _ (by decide)
  · rw [deferBase, hput, g_put_sep _ _ (by decide), g_put_sep _ _ (by decide), hcount, g_incSat_sep _ (by decide),
      g_evt_sep _ (by decide) (by decide), hq _ rfl (by decide) (by decide)]

theorem deferBase_level (s : State) {i : Nat} (hi : i < 75) : (deferBase s).defLevel i = s.defLevel i := by
  have hc : (recompLost s).Fits (Foot.of [0x18] [.cmp, .tln]) (deferBase s) :=
    withCmp_fits _ rfl (withTln_fits _ rfl (put_fits _ (by decide) (put_fits _ (by decide) (incSat_fits (by decide) (evt_fits (by decide) (fits_refl _ _))))))
  refine (fits_defLevel hc rfl rfl i).trans ?_
  refine List.foldlRecOn (motive := fun w : State => w.defLevel i = s.defLevel i) s.cmp.recomp _ rfl (fun w hw r _ => ?_)
  refine (List.foldlRecOn (motive := fun w' : State => w'.defLevel i = w.defLevel i) r.parity _ rfl (fun w' hw' e _ => ?_)).trans hw
  exact (detect_level w' cmpPages e.1 e.2 r.inj (by decide) hi).trans hw'

/-- A deferral of a frame whose work is not done. -/
theorem deferFlip_leaves (s : State) :
    (s.deferFlip false).cmp.deferred = true ∧ (s.deferFlip false).cmp.recomp = [] ∧ (s.deferFlip false).tln.latched = false
      ∧ (s.deferFlip false).tln.committed = false ∧ (s.deferFlip false).tln.nextFlip = s.tln.nextFlip + s.cmp.period
      ∧ (s.deferFlip false).on F.CMP_EVT_DEFER = true
      ∧ (s.deferFlip false).g F.CMP_CNT_DEFER = min F.CMP_CNT_DEFER.top (s.g F.CMP_CNT_DEFER + 1)
      ∧ (s.deferFlip false).g F.CMP_STAT_DEFER_RUN = min 7 (s.g F.CMP_STAT_DEFER_RUN + 1) ∧ (s.deferFlip false).g F.CMP_STAT_COMPOSING = 0
      ∧ (cmpPages.any s.quiet = false → s.defLevel S.CMP_DEFER ≠ 0 → (s.deferFlip false).on (fltPend S.CMP_DEFER) = true)
      ∧ (min 7 (s.g F.CMP_STAT_DEFER_RUN + 1) = s.g F.CMP_CTRL_DEFER_MAX → (s.deferFlip false).on F.CMP_EVT_DEFER_FATAL = true
          ∧ (cmpPages.any s.quiet = false → s.defLevel S.CMP_DEFER_FATAL ≠ 0 → (s.deferFlip false).on (fltPend S.CMP_DEFER_FATAL) = true))
      ∧ (s.deferFlip false).gov = s.gov := by
  obtain ⟨hcmp, htln, hgov, hrst⟩ := deferBase_parts s
  obtain ⟨hon, hcnt, hrun, hcomp, hmax⟩ := deferBase_marks s
  have hl1 := deferBase_level s (i := S.CMP_DEFER) (by decide)
  have hl2 := deferBase_level s (i := S.CMP_DEFER_FATAL) (by decide)
  have hq : cmpPages.any (deferBase s).quiet = cmpPages.any s.quiet := by
    have h : (deferBase s).quiet = s.quiet := funext fun p => by rw [State.quiet, hrst, ← State.quiet]
    rw [h]
  rw [deferFlip_base]
  generalize min 7 (s.g F.CMP_STAT_DEFER_RUN + 1) = run at hrun ⊢
  generalize deferBase s = u at hcmp htln hgov hrst hon hcnt hrun hcomp hmax hl1 hl2 hq ⊢
  have hfits := (deferFaults_fits u run).within
  have hcmp' := (within_cmp hfits rfl (by decide)).trans hcmp
  have htln' := (within_tln hfits rfl (by decide)).trans htln
  have hg : ∀ y : Fld, y.page = 0x18 → y.off % 4096 ≠ 0x18 → y.off % 4096 ≠ 0x44 → sep F.CMP_EVT_DEFER_FATAL y = true →
      sep (F.UNIT_IRQ_STAT_EVT 0x18) y = true → (deferFaults u run).g y = u.g y := fun y hp h18 h44 he hq =>
    deferFaults_g u run (cmp_quiet hp h18 h44).1 (cmp_quiet hp h18 h44).2 he hq
  refine ⟨by rw [hcmp'], by rw [hcmp'], by rw [htln'], by rw [htln'], by rw [htln'], ?_, ?_, ?_, ?_, fun h0 hd => ?_, fun hm => ⟨?_, fun h0 hd => ?_⟩, ?_⟩
  · exact (on_congr (hg _ rfl (by decide) (by decide) (by decide) (by decide))).trans hon
  · exact (hg _ rfl (by decide) (by decide) (by decide) (by decide)).trans hcnt
  · exact (hg _ rfl (by decide) (by decide) (by decide) (by decide)).trans hrun
  · exact (hg _ rfl (by decide) (by decide) (by decide) (by decide)).trans hcomp
  · have hp : (u.detect cmpPages S.CMP_DEFER 0 0 false).on (fltPend S.CMP_DEFER) = true := detect_pend u 0 0 false (hq.trans h0) (by decide) (hl1.symm ▸ hd)
    unfold deferFaults
    dsimp only
    split_ifs
    · exact detect_keeps_pend _ _ _ _ _ (by decide) (by decide) ((on_evt_sep _ (by decide) (by decide)).trans hp)
    · exact hp
  · unfold deferFaults
    dsimp only
    rw [if_pos ?_]
    · exact (on_congr (detect_lamp _ _ _ _ _ _ (cmp_quiet rfl (by decide) (by decide)).1 (cmp_quiet rfl (by decide) (by decide)).2)).trans (on_evt_self _ (by decide))
    · rw [detect_lamp _ _ _ _ _ _ (cmp_quiet rfl (by decide) (by decide)).1 (cmp_quiet rfl (by decide) (by decide)).2, hmax]
      exact hm
  · have hmx : (u.detect cmpPages S.CMP_DEFER 0 0 false).g F.CMP_CTRL_DEFER_MAX = s.g F.CMP_CTRL_DEFER_MAX :=
      (detect_lamp _ _ _ _ _ _ (cmp_quiet rfl (by decide) (by decide)).1 (cmp_quiet rfl (by decide) (by decide)).2).trans hmax
    have hlev := detect_level u cmpPages (i := S.CMP_DEFER) (k := S.CMP_DEFER_FATAL) 0 0 false (by decide) (by decide)
    have hrst' : (u.detect cmpPages S.CMP_DEFER 0 0 false).rst = u.rst :=
      within_rst (detect_fits (g := Foot.reaction [0x02, 0x18] []) u _ _ _ _ _ (by decide) (by decide) (fits_refl _ u)).within rfl (by decide)
    unfold deferFaults
    dsimp only
    generalize u.detect cmpPages S.CMP_DEFER 0 0 false = w at hmx hlev hrst' ⊢
    rw [if_pos (hm.trans hmx.symm)]
    refine detect_pend _ _ _ _ ?_ (by decide) ?_
    · have h : (w.evt F.CMP_EVT_DEFER_FATAL).quiet = u.quiet := funext fun p => by rw [State.quiet, evt_rst, hrst', ← State.quiet]
      rw [h, hq, h0]
    · have h : (w.evt F.CMP_EVT_DEFER_FATAL).defLevel S.CMP_DEFER_FATAL = w.defLevel S.CMP_DEFER_FATAL :=
        fits_defLevel (evt_fits (f := Foot.of [0x18] []) (by decide) (fits_refl _ w)) rfl rfl _
      rw [h, hlev, hl2]
      exact hd
  · exact (within_gov hfits rfl (by decide)).trans hgov


/-! ### The flip, stage by stage -/

/-- The compositor's registers at a flip. -/
def flipMarked (s : State) : State :=
  let s := (s.inc F.CMP_FRAME_FRAME_NO).put F.CMP_STAT_DEFER_RUN 0
  let s := ((s.put F.CMP_FLIP_LT_LO_LT s.ltNs).put F.CMP_FLIP_LT_HI_LT (s.ltNs / 2 ^ 32)).put F.CMP_STAT_COMPOSING 0
  s.put F.CMP_STAT_REPEATING 0

/-- The flux loop's sums over the frame. -/
def flipFlux (s : State) : State := (List.range 8).foldl (fun s n => s.fluxFrame n) s

/-- The Governor's and FIELD_OK's part. -/
def flipLight (s : State) : State := (s.govFlip (s.g F.CMP_FRAME_FRAME_NO)).lightFlip

/-- The next period comes into force. -/
def flipTurned (s : State) (flip : Nat) : State :=
  (s.withCmp { s.cmp with period := s.cmp.periodNext, deferred := false }).withTln { s.tln with
    nextFlip := (((flip + s.cmp.periodNext : Nat) : Int) + s.tln.adj).toNat
    latched := false, committed := false, closed := false }

/-- The lanes at a flip. -/
def flipLanes (s : State) : State := (List.range 8).foldl (fun s n => s.laneFlip n) s

/-- The spread spectrum, the drivers' scan and the side link's frame. -/
def flipTail (s : State) : State := (s.sscApply.segFlip).phaseSend

theorem exec_flip (h : s.tln.committed = true) :
    exec .flip s = .next (flipTail (flipLanes (flipTurned (flipLight (flipFlux (flipMarked s.begin))) s.tln.nextFlip))).settle := by
  have hb : s.begin.tln = s.tln := rfl
  show execFlip s = _
  unfold execFlip
  dsimp only
  rw [hb, if_pos h]
  unfold flipTail flipLanes flipLight flipFlux flipMarked flipTurned
  dsimp only

theorem flipMarked_fits (s : State) : s.Fits (Foot.of [0x18] []) (flipMarked s) :=
  put_fits _ (by decide) (put_fits _ (by decide) (put_fits _ (by decide) (put_fits _ (by decide) (put_fits _ (by decide) (inc_fits (by decide)
    (fits_refl _ s))))))

theorem flipFlux_fits (s : State) : s.Fits (Foot.of [] [.flx]) (flipFlux s) :=
  fits_foldl _ _ (fun n _ _ hu => fluxFrame_fits _ n (le_self _) hu) (fits_refl _ s)

theorem flipLanes_fits (s : State) : s.Fits (Foot.of [0x50] [.lanes]) (flipLanes s) :=
  fits_foldl _ _ (fun n _ _ hu => laneFlip_fits _ n (le_self _) hu) (fits_refl _ s)

theorem flipTail_fits (s : State) : s.Fits (Foot.of [0x01, 0x60] [.pend, .pendPages, .quartz, .seg, .side]) (flipTail s) :=
  phaseSend_fits _ (by decide) (segFlip_fits _ (by decide) (sscApply_fits _ (by decide) (fits_refl _ s)))

theorem flipTurned_fits (s : State) (flip : Nat) : s.Fits (Foot.of [] [.cmp, .tln]) (flipTurned s flip) :=
  withTln_fits _ rfl (withCmp_fits _ rfl (fits_refl _ s))

theorem govFlip_small (s : State) (f : Nat) : s.Fits (Foot.of [0x40, 0x70, 0x71] [.evr, .gov]) (s.govFlip f) := govFlip_fits s f (le_self _) (fits_refl _ s)

/-- What the flip does after the Governor's part, but for FIELD_OK. -/
theorem afterLight_fits (s : State) (flip : Nat) :
    s.Fits (Foot.of [0x01, 0x50, 0x60] [.pend, .pendPages, .quartz, .seg, .side, .cmp, .tln, .lanes]) (flipTail (flipLanes (flipTurned s flip))) :=
  fits_app (by decide) (flipTail_fits _) (fits_app (by decide) (flipLanes_fits _) (fits_mono (by decide) (flipTurned_fits s flip)))

theorem flipMarked_g (s : State) :
    (flipMarked s).g F.CMP_FRAME_FRAME_NO = (s.g F.CMP_FRAME_FRAME_NO + 1) % 2 ^ 32 ∧ (flipMarked s).g F.CMP_STAT_DEFER_RUN = 0
      ∧ (flipMarked s).g F.CMP_STAT_COMPOSING = 0 ∧ (flipMarked s).g F.CMP_STAT_REPEATING = 0
      ∧ (flipMarked s).g F.CMP_FLIP_LT_LO_LT = s.ltNs % 2 ^ 32 ∧ (flipMarked s).g F.CMP_FLIP_LT_HI_LT = s.ltNs / 2 ^ 32 := by
  have hlt : s.ltNs / 2 ^ 32 < 2 ^ 32 := by
    have h : s.ltNs < 2 ^ 64 := Nat.mod_lt _ (by decide)
    omega
  have hns : ∀ (w : State) (y : Fld) (k : Nat), (w.put y k).ltNs = w.ltNs := fun w y k => by rw [State.ltNs, put_lt, ← State.ltNs]
  unfold flipMarked
  dsimp only
  have hinc : (s.inc F.CMP_FRAME_FRAME_NO).ltNs = s.ltNs := hns s _ _
  simp only [hns, hinc]
  refine ⟨?_, ?_, ?_, ?_, ?_, ?_⟩
  · rw [g_put_sep _ _ (by decide), g_put_sep _ _ (by decide), g_put_sep _ _ (by decide), g_put_sep _ _ (by decide), g_put_sep _ _ (by decide)]
    exact g_put_same _ _ _ (by decide) (by decide)
  · rw [g_put_sep _ _ (by decide), g_put_sep _ _ (by decide), g_put_sep _ _ (by decide), g_put_sep _ _ (by decide)]
    exact g_put_room _ (by decide)
  · rw [g_put_sep _ _ (by decide)]
    exact g_put_room _ (by decide)
  · exact g_put_room _ (by decide)
  · rw [g_put_sep _ _ (by decide), g_put_sep _ _ (by decide), g_put_sep _ _ (by decide)]
    exact g_put_same _ _ _ (by decide) (by decide)
  · rw [g_put_sep _ _ (by decide), g_put_sep _ _ (by decide)]
    exact g_put_self (by decide) (by decide) hlt

theorem govFlip_parts (s : State) (f : Nat) :
    (s.govFlip f).g F.GOV_FRAME_FRAME = f % 2 ^ 32 ∧ (s.govFlip f).g F.GOV_MODE_CUR = s.g F.GOV_MODE_CUR
      ∧ (s.govFlip f).gov.uPrev = s.gov.u ∧ (s.govFlip f).gov.gPrev = s.gov.gains ∧ (s.govFlip f).gov.wasAdaptive = decide (s.g F.GOV_MODE_CUR = 2) := by
  have hmaps : ∀ j < 8, sep (F.GOV_CLAMP_MAP_ZONES j) F.GOV_MODE_CUR = true ∧ sep (F.GOV_GAIN_MAP_ZONES j) F.GOV_MODE_CUR = true
      ∧ sep (F.GOV_LOW_MAP_ZONES j) F.GOV_MODE_CUR = true := by decide
  unfold State.govFlip
  extract_lets adaptive clamped gained low clamp s1 s2 s3
  have h1 : s1.g F.GOV_MODE_CUR = s.g F.GOV_MODE_CUR :=
    List.foldlRecOn (motive := fun w : State => w.g F.GOV_MODE_CUR = s.g F.GOV_MODE_CUR) (List.range 8) _ rfl (fun w hw j hj => by
      obtain ⟨ha, hb, hc⟩ := hmaps j (List.mem_range.1 hj)
      rw [g_put_sep _ _ hc, g_put_sep _ _ hb, g_put_sep _ _ ha, hw])
  have hg1 : s1.gov = s.gov := foldl_gov (fun _ _ => (put_gov ..).trans ((put_gov ..).trans (put_gov ..))) _ s
  have h3 : ∀ y : Fld, clear recordFields y = true → sep F.GOV_CNT_CLAMP_FRAMES y = true → s3.g y = s2.g y := fun y hy hc =>
    ite_g (fun _ => (event_g _ _ _ hy).trans (g_incSat_sep _ hc)) (fun _ => rfl)
  have hg3 : s3.gov = s.gov := by
    have hg2 : s2.gov = s.gov := ((put_gov ..).trans ((put_gov ..).trans (put_gov ..))).trans hg1
    show (if clamp then _ else s2 : State).gov = _
    split_ifs
    · exact ((event_gov ..).trans (incSat_gov ..)).trans hg2
    · exact hg2
  refine ⟨?_, ?_, ?_, ?_, ?_⟩
  · refine (withGov_g ..).trans ((h3 _ (by decide) (by decide)).trans ?_)
    show (((s1.put F.GOV_FRAME_FRAME f).put F.GOV_STAT_CLAMP_LAST _).put F.GOV_STAT_GAIN_LAST _).g _ = _
    rw [g_put_sep _ _ (by decide), g_put_sep _ _ (by decide)]
    exact g_put_same _ _ _ (by decide) (by decide)
  · refine (withGov_g ..).trans ((h3 _ (by decide) (by decide)).trans ?_)
    show (((s1.put F.GOV_FRAME_FRAME f).put F.GOV_STAT_CLAMP_LAST _).put F.GOV_STAT_GAIN_LAST _).g _ = _
    rw [g_put_sep _ _ (by decide), g_put_sep _ _ (by decide), g_put_sep _ _ (by decide), h1]
  · exact congrArg Gov.u hg3
  · exact congrArg Gov.gains hg3
  · rfl


/-! ### FIELD_OK at a flip -/

/-- The terms of FIELD_OK rest on the inputs, the outputs, the lock-out, the clocks and Flint. -/
theorem allTerms_rests (h68 : ∀ y : Fld, y.page = 0x68 → sep F.SAF_STAT_FSTATE y = true → t.g y = s.g y)
    (h1 : t.g F.CLK_STAT_MON_GOOD = s.g F.CLK_STAT_MON_GOOD) (h4 : t.g F.CLK_STAT_STATE = s.g F.CLK_STAT_STATE) (hf : t.flintOk = s.flintOk) :
    t.allTerms = s.allTerms := by
  have hin : t.inputsOk = s.inputsOk := range_all_congr (fun n hn => by
    obtain ⟨ha, hb⟩ := (by decide : ∀ n < 4, sep F.SAF_STAT_FSTATE (F.SAF_SIN_CFG_USED n) = true ∧ sep F.SAF_STAT_FSTATE (F.SAF_SIN_STAT_STATE n) = true) n hn
    rw [on_congr (h68 _ rfl ha), h68 _ rfl hb])
  have hout : t.outputsOk = s.outputsOk := range_all_congr (fun k hk => by
    obtain ⟨ha, hb⟩ := (by decide : ∀ n < 2, sep F.SAF_STAT_FSTATE (F.SAF_SOUT_CFG_USED n) = true ∧ sep F.SAF_STAT_FSTATE (F.SAF_SOUT_STAT_STATE n) = true) k hk
    rw [on_congr (h68 _ rfl ha), h68 _ rfl hb])
  have hclk : t.clocksOk = s.clocksOk := by rw [State.clocksOk, State.clocksOk, State.rootUp, State.rootUp, on_congr h1, h4]
  rw [State.allTerms, State.allTerms, State.hwTerms, State.hwTerms, hin, hout, hclk, hf, on_congr (h68 F.SAF_STAT_LOCKED rfl (by decide)),
    on_congr (h68 F.SAF_FIELD_REQ rfl (by decide))]

theorem lightFlip_g (s : State) (h : sep F.SAF_STAT_FSTATE x = true) : s.lightFlip.g x = s.g x := by
  unfold State.lightFlip
  extract_lets lit f s1
  exact ite_g (fun _ => (g_put_sep _ _ h).trans (withSaf_g ..)) (fun _ => ite_g (fun _ => (g_put_sep _ _ h).trans (withSaf_g ..)) (fun _ => withSaf_g ..))

theorem lightFlip_saf (s : State) : s.lightFlip.saf = { s.saf with beamLit := decide (s.g F.GOV_MODE_CUR ≠ 0) } := by
  unfold State.lightFlip
  extract_lets lit f s1
  split_ifs
  · exact put_saf ..
  · exact put_saf ..
  · rfl

/-- FIELD_OK's state at a flip: it rises with light and falls without. -/
theorem lightFlip_state (s : State) (hb : s.safetyBlock = false) :
    (s.g F.SAF_STAT_FSTATE = 2 → s.g F.GOV_MODE_CUR ≠ 0 → s.lightFlip.g F.SAF_STAT_FSTATE = 3)
      ∧ (s.g F.SAF_STAT_FSTATE = 3 → s.g F.GOV_MODE_CUR = 0 → s.lightFlip.g F.SAF_STAT_FSTATE = 2)
      ∧ (s.g F.SAF_STAT_FSTATE = 3 → s.g F.GOV_MODE_CUR ≠ 0 → s.lightFlip.g F.SAF_STAT_FSTATE = 3) := by
  have hblk : ∀ w : Saf, (s.withSaf w).safetyBlock = false := fun _ => hb
  unfold State.lightFlip
  dsimp only
  refine ⟨fun h2 hm => ?_, fun h3 hm => ?_, fun h3 hm => ?_⟩
  · rw [if_pos (by simp [h2, hm, hblk])]
    exact g_put_room _ (by decide)
  · rw [if_neg (by simp [h3]), if_pos (by simp [h3, hm])]
    exact g_put_room _ (by decide)
  · rw [if_neg (by simp [h3]), if_neg (by simp [hm]), withSaf_g, h3]

/-- With every term there, a state of 2 or 3 stands. -/
theorem settle_stands (h : s.g F.SAF_STAT_FSTATE = 2 ∨ s.g F.SAF_STAT_FSTATE = 3) (ha : s.allTerms = true) : s.settle = s := by
  unfold State.settle
  dsimp only
  rw [if_neg (by rcases h with h | h <;> simp [h]), if_neg (by simp [ha])]

/-! ### The lanes at a flip -/

theorem laneFlip_fields (s : State) {m : Nat} (hm : m < 8) (hn : n < 8) (h : m ≠ n) :
    (s.laneFlip m).g (F.TL_STAT_STATE n) = s.g (F.TL_STAT_STATE n) ∧ (s.laneFlip m).g (F.TL_CTRL_SR_EN n) = s.g (F.TL_CTRL_SR_EN n)
      ∧ (s.laneFlip m).lane n = s.lane n := by
  have hpage : ¬ m % 8 = n % 8 := by omega
  have hstate : sep (F.TL_STAT_STATE m) (F.TL_STAT_STATE n) = true := by simp [sep, F.TL_STAT_STATE, hpage]
  have hsr : sep (F.TL_STAT_STATE m) (F.TL_CTRL_SR_EN n) = true := by simp [sep, F.TL_STAT_STATE, F.TL_CTRL_SR_EN]
  have hlane : ∀ (w : State) (g : Lane → Lane), (w.modLane m g).lane n = w.lane n := fun w g => by
    rw [State.lane, show (w.modLane m g).lanes = w.lanes.set m (g (w.lane m)) from rfl, List.getD_eq_getElem?_getD, List.getElem?_set_ne h,
      ← List.getD_eq_getElem?_getD, ← State.lane]
  unfold State.laneFlip
  split_ifs with h5
  · extract_lets w
    split_ifs
    · refine ⟨(g_put_sep _ _ hstate).trans ((modLane_g ..).trans (modLane_g ..)), (g_put_sep _ _ hsr).trans ((modLane_g ..).trans (modLane_g ..)), ?_⟩
      exact (show (w.sendCtl m .sleep).lane n = w.lane n from hlane w _).trans (hlane s _)
    · exact ⟨modLane_g .., modLane_g .., hlane _ _⟩
  · exact ⟨rfl, rfl, rfl⟩

/-- A lane whose pushes are done falls asleep. -/
theorem laneFlip_sleeps (s : State) (h5 : s.tlst n = 5) (hsr : s.on (F.TL_CTRL_SR_EN n) = true) (hq : (s.lane n).queue = []) (hs : (s.lane n).sending = none) :
    (s.laneFlip n).tlst n = 6 := by
  have hlane : ((s.modLane n (fun l => { l with retrains := 0 })).lane n).queue = [] ∧ ((s.modLane n (fun l => { l with retrains := 0 })).lane n).sending = none := by
    rw [State.lane, show (s.modLane n (fun l => { l with retrains := 0 })).lanes = s.lanes.set n { s.lane n with retrains := 0 } from rfl]
    by_cases hl : n < s.lanes.length
    · rw [List.getD_eq_getElem _ _ (by simpa using hl), List.getElem_set_self]
      exact ⟨hq, hs⟩
    · rw [List.set_eq_of_length_le (by omega), ← State.lane]
      exact ⟨hq, hs⟩
  unfold State.laneFlip
  dsimp only
  rw [if_pos h5, if_pos (by simp [modLane_on, hsr, hlane.1, hlane.2])]
  refine g_put_room _ ?_
  exact decide_eq_true (show 6 < 2 ^ (3 + 1 - 0) by decide)

theorem flipLanes_sleeps (s : State) (hn : n < 8) (h5 : s.tlst n = 5) (hsr : s.on (F.TL_CTRL_SR_EN n) = true) (hq : (s.lane n).queue = [])
    (hs : (s.lane n).sending = none) : (flipLanes s).tlst n = 6 :=
  foldl_visit (P := fun w => w.tlst n = 5 ∧ w.on (F.TL_CTRL_SR_EN n) = true ∧ (w.lane n).queue = [] ∧ (w.lane n).sending = none)
    (Q := fun w => w.tlst n = 6) (List.range 8) List.nodup_range (List.mem_range.2 hn)
    (fun m hm hne w hw => by
      obtain ⟨ha, hb, hc⟩ := laneFlip_fields w (List.mem_range.1 hm) hn hne
      obtain ⟨h1, h2, h3, h4⟩ := hw
      exact ⟨ha.trans h1, (on_congr hb).trans h2, by rw [hc]; exact h3, by rw [hc]; exact h4⟩)
    (fun w hw => laneFlip_sleeps w hw.1 hw.2.1 hw.2.2.1 hw.2.2.2)
    (fun m hm hne w hw => (laneFlip_fields w (List.mem_range.1 hm) hn hne).1.trans hw) ⟨h5, hsr, hq, hs⟩

/-- A field of the clocks that no commit takes, beside the spread spectrum's own. -/
theorem flipTail_clock (s : State) (hu : uncommitted x = true) (hs : sep F.CLK_STAT_SSC_ACTIVE x = true) (hp : groupPage x.page ≠ 0x60) :
    (flipTail s).g x = s.g x := by
  have hssc : s.sscApply.g x = s.g x := by
    unfold State.sscApply
    exact ite_g (fun _ => (withQuartz_g ..).trans ((g_put_sep _ _ hs).trans (apply_g s 0x01 hu))) (fun _ => rfl)
  have hseg : s.sscApply.segFlip.g x = s.sscApply.g x :=
    fits_g (segFlip_fits s.sscApply (le_self _) (fits_refl _ _)) rfl (by simpa [Foot.of] using hp)
  exact (fits_g (phaseSend_fits _ (le_self _) (fits_refl _ _)) rfl (by simp [Foot.of])).trans (hseg.trans hssc)


/-! ### The commands -/

theorem decide_defers (h : s.tln.latched = true) (hc : s.tln.closed = false) (hd : s.frameDone = false) : s.begin.decideFrame = s.begin.deferFlip false := by
  unfold State.decideFrame
  rw [begin_tln, show s.begin.frameDone = s.frameDone from rfl, if_pos (by simp [h, hc]), if_neg (by simp [hd])]

theorem decide_closes (h : s.tln.latched = true) (hc : s.tln.closed = false) (hd : s.frameDone = true) :
    s.begin.decideFrame = s.begin.withTln { s.tln with closed := true } := by
  unfold State.decideFrame
  rw [begin_tln, show s.begin.frameDone = s.frameDone from rfl, if_pos (by simp [h, hc]), if_pos hd]

theorem decide_rests (h : s.tln.latched = false ∨ s.tln.closed = true) : s.begin.decideFrame = s.begin := by
  unfold State.decideFrame
  rw [begin_tln, if_neg (by rcases h with h | h <;> simp [h])]

theorem exec_flipCommit (h : s.begin.decideFrame = u) : exec .flipCommit s = .next (if (u.tln.latched && u.tln.closed) = true then u.withTln { u.tln with committed := true } else u) := by
  rw [← h]
  rfl

/-- The state that the Governor meets at a flip. -/
structure FlipHead (s u : State) : Prop where
  frame : u.g F.CMP_FRAME_FRAME_NO = (s.g F.CMP_FRAME_FRAME_NO + 1) % 2 ^ 32
  run : u.g F.CMP_STAT_DEFER_RUN = 0
  composing : u.g F.CMP_STAT_COMPOSING = 0
  repeating : u.g F.CMP_STAT_REPEATING = 0
  lo : u.g F.CMP_FLIP_LT_LO_LT = s.ltNs % 2 ^ 32
  hi : u.g F.CMP_FLIP_LT_HI_LT = s.ltNs / 2 ^ 32
  field : ∀ y : Fld, groupPage y.page ≠ 0x18 → u.g y = s.g y
  parts : s.Fits (Foot.of [0x18] [.flx]) u

theorem flipHead (s : State) : FlipHead s (flipFlux (flipMarked s)) := by
  obtain ⟨hno, hrun, hcomp, hrep, hlo, hhi⟩ := flipMarked_g s
  have hu : s.Fits (Foot.of [0x18] [.flx]) (flipFlux (flipMarked s)) := fits_app (by decide) (flipFlux_fits _) (fits_mono (by decide) (flipMarked_fits s))
  have h18 : ∀ y : Fld, (flipFlux (flipMarked s)).g y = (flipMarked s).g y := fun y => fits_g (flipFlux_fits _) rfl (by simp [Foot.of])
  exact ⟨(h18 _).trans hno, (h18 _).trans hrun, (h18 _).trans hcomp, (h18 _).trans hrep, (h18 _).trans hlo, (h18 _).trans hhi,
    fun y hy => fits_g hu rfl (by simpa [Foot.of] using hy), hu⟩

/-- The Governor's and FIELD_OK's part of a flip. -/
theorem flipLight_fits (s : State) : s.Fits (Foot.of [0x40, 0x68, 0x70, 0x71] [.evr, .gov, .saf]) (flipLight s) :=
  fits_app (by decide) (lightFlip_fits _ (le_self _) (fits_refl _ _)) (fits_mono (by decide) (govFlip_small s _))

theorem flipLight_gov (s : State) :
    (flipLight s).g F.GOV_FRAME_FRAME = s.g F.CMP_FRAME_FRAME_NO ∧ (flipLight s).gov.uPrev = s.gov.u ∧ (flipLight s).gov.gPrev = s.gov.gains
      ∧ (flipLight s).gov.wasAdaptive = decide (s.g F.GOV_MODE_CUR = 2)
      ∧ (flipLight s).saf = { s.saf with beamLit := decide (s.g F.GOV_MODE_CUR ≠ 0) } := by
  obtain ⟨hframe, hmode, hu, hg, hwas⟩ := govFlip_parts s (s.g F.CMP_FRAME_FRAME_NO)
  have hgov : (flipLight s).gov = (s.govFlip (s.g F.CMP_FRAME_FRAME_NO)).gov := within_gov (lightFlip_fits _ (le_self _) (fits_refl _ _)).within rfl (by decide)
  have hsaf : (s.govFlip (s.g F.CMP_FRAME_FRAME_NO)).saf = s.saf := within_saf (govFlip_small s _).within rfl (by decide)
  refine ⟨?_, by rw [hgov, hu], by rw [hgov, hg], by rw [hgov, hwas], ?_⟩
  · refine (lightFlip_g _ (by decide)).trans (hframe.trans (Nat.mod_eq_of_lt ?_))
    exact Nat.lt_succ_of_le (g_le_top s F.CMP_FRAME_FRAME_NO)
  · refine (lightFlip_saf _).trans ?_
    rw [hsaf, hmode]

/-- FIELD_OK's state after the Governor's part. -/
theorem flipLight_state (s : State) (hb : s.safetyBlock = false) :
    (s.g F.SAF_STAT_FSTATE = 2 → s.g F.GOV_MODE_CUR ≠ 0 → (flipLight s).g F.SAF_STAT_FSTATE = 3)
      ∧ (s.g F.SAF_STAT_FSTATE = 3 → s.g F.GOV_MODE_CUR = 0 → (flipLight s).g F.SAF_STAT_FSTATE = 2)
      ∧ (s.g F.SAF_STAT_FSTATE = 3 → s.g F.GOV_MODE_CUR ≠ 0 → (flipLight s).g F.SAF_STAT_FSTATE = 3) := by
  obtain ⟨-, hmode, -⟩ := govFlip_parts s (s.g F.CMP_FRAME_FRAME_NO)
  have hfits := govFlip_small s (s.g F.CMP_FRAME_FRAME_NO)
  have hrst : (s.govFlip (s.g F.CMP_FRAME_FRAME_NO)).rst = s.rst := within_rst hfits.within rfl (by decide)
  have hstate : (s.govFlip (s.g F.CMP_FRAME_FRAME_NO)).g F.SAF_STAT_FSTATE = s.g F.SAF_STAT_FSTATE := fits_g hfits rfl (by decide)
  have hblk : (s.govFlip (s.g F.CMP_FRAME_FRAME_NO)).safetyBlock = false := by
    rw [State.safetyBlock, State.blockRunning, State.blockRunning, State.blockRunning, hrst]
    exact hb
  rw [← hmode, ← hstate]
  exact lightFlip_state _ hblk

/-- What comes after the Governor's part. -/
def flipRest (s : State) (flip : Nat) : State := flipTail (flipLanes (flipTurned s flip))

theorem flipRest_parts (s : State) (flip : Nat) :
    (flipRest s flip).cmp = { s.cmp with period := s.cmp.periodNext, deferred := false }
      ∧ (flipRest s flip).tln = { s.tln with
          nextFlip := (((flip + s.cmp.periodNext : Nat) : Int) + s.tln.adj).toNat, latched := false, committed := false, closed := false } := by
  have hfits : (flipTurned s flip).Fits (Foot.of [0x01, 0x50, 0x60] [.pend, .pendPages, .quartz, .seg, .side, .lanes]) (flipRest s flip) :=
    fits_app (by decide) (flipTail_fits _) (fits_mono (by decide) (flipLanes_fits _))
  exact ⟨(within_cmp hfits.within rfl (by decide)).trans rfl, (within_tln hfits.within rfl (by decide)).trans rfl⟩

theorem flipRest_sleeps (s : State) (flip : Nat) (hn : n < 8) (h5 : s.tlst n = 5) (hsr : s.on (F.TL_CTRL_SR_EN n) = true) (hq : (s.lane n).queue = [])
    (hs : (s.lane n).sending = none) : (flipRest s flip).tlst n = 6 := by
  have hpage : (Foot.of [0x01, 0x60] [.pend, .pendPages, .quartz, .seg, .side]).units.contains (groupPage (F.TL_STAT_STATE n).page) = false :=
    (by decide : ∀ n < 8, (Foot.of [0x01, 0x60] [.pend, .pendPages, .quartz, .seg, .side]).units.contains (groupPage (F.TL_STAT_STATE n).page) = false) n hn
  exact (fits_g (flipTail_fits _) rfl hpage).trans (flipLanes_sleeps (flipTurned s flip) hn h5 hsr hq hs)

/-- The terms of FIELD_OK after a flip but for its settling. -/
theorem flip_terms (s : State) (flip : Nat) : (flipRest (flipLight (flipFlux (flipMarked s))) flip).allTerms = s.allTerms := by
  have hhead := flipHead s
  generalize flipFlux (flipMarked s) = u at hhead ⊢
  have hgov := govFlip_small u (u.g F.CMP_FRAME_FRAME_NO)
  have hrest := afterLight_fits (flipLight u) flip
  obtain ⟨-, -, -, -, hsaf⟩ := flipLight_gov u
  have hclock : ∀ y : Fld, y.page = 0x01 → uncommitted y = true → sep F.CLK_STAT_SSC_ACTIVE y = true →
      (flipRest (flipLight u) flip).g y = s.g y := fun y hp hu hs => by
    have hg : groupPage y.page = 0x01 := by rw [hp]; decide
    refine (flipTail_clock _ hu hs (by rw [hg]; decide)).trans ?_
    refine (fits_g (flipLanes_fits _) rfl (by rw [hg]; decide)).trans ((fits_g (flipTurned_fits _ flip) rfl (by rw [hg]; decide)).trans ?_)
    exact (fits_g (flipLight_fits u) rfl (by rw [hg]; decide)).trans (hhead.field y (by rw [hg]; decide))
  refine allTerms_rests (fun y hp hs => ?_) (hclock _ rfl (by decide) (by decide)) (hclock _ rfl (by decide) (by decide)) ?_
  · have hg : groupPage y.page = 0x68 := by rw [hp]; decide
    refine (fits_g hrest rfl (by rw [hg]; decide)).trans ((lightFlip_g _ hs).trans ?_)
    exact (fits_g hgov rfl (by rw [hg]; decide)).trans (hhead.field y (by rw [hg]; decide))
  · have hs1 : (flipRest (flipLight u) flip).saf = (flipLight u).saf := within_saf hrest.within rfl (by decide)
    have hp1 : (flipRest (flipLight u) flip).pwr = s.pwr := (within_pwr hrest.within rfl (by decide)).trans
      ((within_pwr (flipLight_fits u).within rfl (by decide)).trans (within_pwr hhead.parts.within rfl (by decide)))
    have hs0 : u.saf = s.saf := within_saf hhead.parts.within rfl (by decide)
    rw [State.flintOk, State.flintOk, State.flintStopped, State.flintStopped, hs1, hp1, hsaf, hs0]

/-- What the footprint of a command says of the state that it answers. -/
theorem does_within {g : Foot} {o : Host.Outcome State Fault Refusal} (h : Does g s o) (ho : o = .next t) : s.Within g t := by
  obtain ⟨w, hw, hfits⟩ := h
  obtain rfl := Host.Outcome.next.inj (ho.symm.trans hw)
  exact hfits.within

/-- A flip of a committed frame. -/
theorem flip_leaves (s : State) (hc : s.tln.committed = true) :
    ∃ t, exec .flip s = .next t ∧ t.g F.CMP_FRAME_FRAME_NO = (s.g F.CMP_FRAME_FRAME_NO + 1) % 2 ^ 32 ∧ t.g F.CMP_STAT_DEFER_RUN = 0
      ∧ t.g F.CMP_STAT_COMPOSING = 0 ∧ t.g F.CMP_STAT_REPEATING = 0 ∧ t.cmp.deferred = false ∧ t.cmp.period = s.cmp.periodNext
      ∧ t.g F.CMP_FLIP_LT_LO_LT = s.ltNs % 2 ^ 32 ∧ t.g F.CMP_FLIP_LT_HI_LT = s.ltNs / 2 ^ 32
      ∧ t.tln = { s.tln with
          nextFlip := (((s.tln.nextFlip + s.cmp.periodNext : Nat) : Int) + s.tln.adj).toNat, latched := false, committed := false, closed := false }
      ∧ t.g F.GOV_FRAME_FRAME = (s.g F.CMP_FRAME_FRAME_NO + 1) % 2 ^ 32 ∧ t.gov.uPrev = s.gov.u ∧ t.gov.gPrev = s.gov.gains
      ∧ t.gov.wasAdaptive = decide (s.g F.GOV_MODE_CUR = 2) ∧ t.saf.beamLit = decide (s.g F.GOV_MODE_CUR ≠ 0)
      ∧ (s.allTerms = true → s.safetyBlock = false → s.g F.SAF_STAT_FSTATE = 2 → s.g F.GOV_MODE_CUR ≠ 0 → t.g F.SAF_STAT_FSTATE = 3)
      ∧ (s.allTerms = true → s.safetyBlock = false → s.g F.SAF_STAT_FSTATE = 3 → s.g F.GOV_MODE_CUR = 0 → t.g F.SAF_STAT_FSTATE = 2)
      ∧ (s.allTerms = true → s.safetyBlock = false → s.g F.SAF_STAT_FSTATE = 3 → s.g F.GOV_MODE_CUR ≠ 0 → t.g F.SAF_STAT_FSTATE = 3)
      ∧ (∀ n, n < 8 → s.tlst n = 5 → s.on (F.TL_CTRL_SR_EN n) = true → (s.lane n).queue = [] → (s.lane n).sending = none → t.tlst n = 6)
      ∧ s.Within (Foot.of [0x01, 0x18, 0x40, 0x50, 0x60, 0x68, 0x70, 0x71]
          [.pend, .pendPages, .flt, .evr, .saf, .quartz, .side, .cmp, .lanes, .tln, .gov, .flx, .seg]) t := by
  have hrun := exec_flip hc
  have hwithin := does_within (execFlip_fits s) hrun
  have hterms : (flipRest (flipLight (flipFlux (flipMarked s.begin))) s.tln.nextFlip).allTerms = s.allTerms := flip_terms s.begin s.tln.nextFlip
  have hhead := flipHead s.begin
  rw [show ∀ w, flipTail (flipLanes (flipTurned w s.tln.nextFlip)) = flipRest w s.tln.nextFlip from fun _ => rfl] at hrun hwithin
  generalize flipFlux (flipMarked s.begin) = u at hrun hwithin hterms hhead
  have hucmp : u.cmp = s.cmp := (within_cmp hhead.parts.within rfl (by decide)).trans (begin_cmp s)
  have hutln : u.tln = s.tln := (within_tln hhead.parts.within rfl (by decide)).trans (begin_tln s)
  have hugov : u.gov = s.gov := (within_gov hhead.parts.within rfl (by decide)).trans (begin_gov s)
  have hulanes : u.lanes = s.lanes := (within_lanes hhead.parts.within rfl (by decide)).trans (begin_lanes s)
  have hurst : u.rst = s.rst := (within_rst hhead.parts.within rfl (by decide)).trans (begin_rst s)
  have hug : ∀ y : Fld, groupPage y.page ≠ 0x18 → u.g y = s.g y := fun y hy => (hhead.field y hy).trans (begin_g ..)
  have hublk : u.safetyBlock = s.safetyBlock := by
    rw [State.safetyBlock, State.blockRunning, State.blockRunning, State.blockRunning, hurst]
    rfl
  have humode : u.g F.GOV_MODE_CUR = s.g F.GOV_MODE_CUR := hug _ (by decide)
  have hustate : u.g F.SAF_STAT_FSTATE = s.g F.SAF_STAT_FSTATE := hug _ (by decide)
  obtain ⟨hframe, huprev, hgprev, hwas, hsaf⟩ := flipLight_gov u
  obtain ⟨hcmp, htln⟩ := flipRest_parts (flipLight u) s.tln.nextFlip
  have hlight := (flipLight_fits u).within
  have hrest := afterLight_fits (flipLight u) s.tln.nextFlip
  rw [within_cmp hlight rfl (by decide), hucmp] at hcmp htln
  rw [within_tln hlight rfl (by decide), hutln] at htln
  have hset := (settle_fits (flipRest (flipLight u) s.tln.nextFlip) (le_self _) (fits_refl _ _)).within
  have h18 : ∀ y : Fld, groupPage y.page = 0x18 → (flipRest (flipLight u) s.tln.nextFlip).settle.g y = u.g y := fun y hy => by
    refine (within_g hset rfl y (by rw [hy]; decide)).trans ((fits_g hrest rfl (by rw [hy]; decide)).trans ?_)
    exact within_g hlight rfl y (by rw [hy]; decide)
  have hgov : (flipRest (flipLight u) s.tln.nextFlip).settle.gov = (flipLight u).gov :=
    (within_gov hset rfl (by decide)).trans (within_gov hrest.within rfl (by decide))
  have hstate : (flipRest (flipLight u) s.tln.nextFlip).g F.SAF_STAT_FSTATE = (flipLight u).g F.SAF_STAT_FSTATE := fits_g hrest rfl (by decide)
  have hstands : ∀ k, k = 2 ∨ k = 3 → s.allTerms = true → (flipLight u).g F.SAF_STAT_FSTATE = k →
      (flipRest (flipLight u) s.tln.nextFlip).settle.g F.SAF_STAT_FSTATE = k := fun k hk ha hv => by
    rw [settle_stands (by rw [hstate, hv]; exact hk) (hterms.trans ha), hstate, hv]
  refine ⟨_, hrun, (h18 _ rfl).trans hhead.frame, (h18 _ rfl).trans hhead.run, (h18 _ rfl).trans hhead.composing, (h18 _ rfl).trans hhead.repeating,
    ?_, ?_, (h18 _ rfl).trans hhead.lo, (h18 _ rfl).trans hhead.hi, (within_tln hset rfl (by decide)).trans htln, ?_, ?_, ?_, ?_, ?_,
    fun ha hb h2 hm => ?_, fun ha hb h3 hm => ?_, fun ha hb h3 hm => ?_, fun n hn h5 hsr hq hs => ?_, hwithin⟩
  · rw [within_cmp hset rfl (by decide), hcmp]
  · rw [within_cmp hset rfl (by decide), hcmp]
  · exact (within_g hset rfl _ (by decide)).trans ((fits_g hrest rfl (by decide)).trans (hframe.trans hhead.frame))
  · rw [hgov, huprev, hugov]
  · rw [hgov, hgprev, hugov]
  · rw [hgov, hwas, humode]
  · rw [within_saf hset rfl (by decide), flipRest, within_saf hrest.within rfl (by decide), hsaf, humode]
  · exact hstands 3 (.inr rfl) ha ((flipLight_state u (hublk.trans hb)).1 (hustate.trans h2) (by rw [humode]; exact hm))
  · exact hstands 2 (.inl rfl) ha ((flipLight_state u (hublk.trans hb)).2.1 (hustate.trans h3) (by rw [humode]; exact hm))
  · exact hstands 3 (.inr rfl) ha ((flipLight_state u (hublk.trans hb)).2.2 (hustate.trans h3) (by rw [humode]; exact hm))
  · have hpage : ∀ m < 8, groupPage (F.TL_STAT_STATE m).page = 0x50 ∧ groupPage (F.TL_CTRL_SR_EN m).page = 0x50 := by decide
    obtain ⟨hp1, hp2⟩ := hpage n hn
    have hl1 : (flipLight u).g (F.TL_STAT_STATE n) = s.g (F.TL_STAT_STATE n) :=
      (within_g hlight rfl _ (by rw [hp1]; decide)).trans (hug _ (by rw [hp1]; decide))
    have hl2 : (flipLight u).g (F.TL_CTRL_SR_EN n) = s.g (F.TL_CTRL_SR_EN n) :=
      (within_g hlight rfl _ (by rw [hp2]; decide)).trans (hug _ (by rw [hp2]; decide))
    have hl3 : (flipLight u).lane n = s.lane n := by
      rw [State.lane, within_lanes hlight rfl (by decide), hulanes, ← State.lane]
    refine (within_g hset rfl _ (by rw [hp1]; decide)).trans (flipRest_sleeps (flipLight u) _ hn (hl1.trans h5) ((on_congr hl2).trans hsr) ?_ ?_)
    · rw [hl3, hq]
    · rw [hl3, hs]

/-- Settles O27: a frame that is done, one that is closed, one that is deferred, no frame, and the flip. -/
theorem deadlineAndFlip : Obligations.DeadlineAndFlip := by
  refine ⟨fun s hl hc hd => ⟨?_, ?_⟩, fun s hl hc => ⟨?_, ?_⟩, fun s hl hc hd => ?_, fun s hl => ⟨?_, ?_⟩, fun s hc => flip_leaves s hc,
    fun s hc => congrArg Host.Outcome.next (if_neg (by rw [begin_tln, hc]; decide))⟩
  · exact ⟨_, congrArg Host.Outcome.next (decide_closes hl hc hd), rfl, only_withTln (by simp) (only_refl _ _ _)⟩
  · refine ⟨_, (exec_flipCommit (decide_closes hl hc hd)).trans (congrArg Host.Outcome.next (if_pos ?_)), rfl,
      only_withTln (by simp) (only_withTln (by simp) (only_refl _ _ _))⟩
    show (s.tln.latched && true) = true
    rw [hl]
    rfl
  · refine ⟨_, (exec_flipCommit (decide_rests (.inr hc))).trans (congrArg Host.Outcome.next (if_pos ?_)), rfl, only_withTln (by simp) (only_refl _ _ _)⟩
    rw [begin_tln, hl, hc]
    rfl
  · exact congrArg Host.Outcome.next (decide_rests (.inr hc))
  · obtain ⟨h1, h2, h3, h4⟩ := deferFlip_leaves s.begin
    have hrun : exec .pushDeadline s = .next (s.begin.deferFlip false) := congrArg Host.Outcome.next (decide_defers hl hc hd)
    have hcommit : exec .flipCommit s = .next (s.begin.deferFlip false) :=
      (exec_flipCommit (decide_defers hl hc hd)).trans (congrArg Host.Outcome.next (if_neg (by simp [h3])))
    obtain ⟨h4, h5, h6, h7, h8, h9, h10, h11, h12⟩ := h4
    exact ⟨_, hrun, hcommit, h1, h2, h3, h4, h5, h6, h7, h8, h9, h10, h11, h12, within_mono (by decide) (does_within (execPushDeadline_fits s) hrun)⟩
  · exact congrArg Host.Outcome.next (decide_rests (.inl hl))
  · refine (exec_flipCommit (decide_rests (.inl hl))).trans (congrArg Host.Outcome.next (if_neg ?_))
    simp [hl]

end Sys2Proof.Proofs.FrameFlips
end

section
/-! PROOF. The TAP (TestAccess). -/

namespace Sys2Proof.Proofs.TestPort

open Sys2Proof.Machine Sys2Proof.Laws Sys2Proof.Proofs.Architecture Sys2Proof.Proofs.Reading Sys2Proof.Proofs.GovernorSums
  Sys2Proof.Proofs.SafetyOuts Sys2Proof.Proofs.PageCommits Sys2Proof.Proofs.FlintLockOut

variable {s t u : State} {f x : Fld}

/-! ### The start of a clear of secrets -/

theorem laneOff_saf (s : State) (n : Nat) : (s.laneOff n).saf = s.saf :=
  within_saf (laneOff_fits (g := Foot.of [0x50] [.lanes]) s n (by decide) (fits_refl _ s)).within rfl rfl

/-- Switching an output off touches its own record of the safety domain alone. -/
theorem soutLow_saf (s : State) (k : Nat) : (s.soutLow k).saf = { s.saf with souts := s.saf.souts.set k Sout.init } := by
  unfold State.soutLow
  extract_lets vs v w
  have hw : w.saf = { s.saf with souts := s.saf.souts.set k Sout.init } := by
    simp only [w]
    split_ifs
    · exact put_saf ..
    · rfl
  refine List.foldlRecOn (motive := fun u : State => u.saf = { s.saf with souts := s.saf.souts.set k Sout.init }) (List.range 8) _ hw (fun u hu j _ => ?_)
  split_ifs
  · exact (laneOff_saf u j).trans hu
  · exact hu

theorem soutTry_gate (s : State) (k : Nat) : (s.soutTry k).saf.padGate = s.saf.padGate := by
  unfold State.soutTry
  extract_lets f st o u
  split_ifs
  · rfl
  · rw [soutLow_saf]
  · rfl

/-- Both outputs low after a trial, behind the gate. -/
theorem gatedLow (s : State) :
    ((s.soutsTry.soutLow 0).soutLow 1).saf.padGate = s.saf.padGate
      ∧ ∀ k, k < 2 → ((s.soutsTry.soutLow 0).soutLow 1).saf.souts.getD k Sout.init = Sout.init := by
  refine ⟨?_, fun k hk => ?_⟩
  · rw [soutLow_saf, soutLow_saf, State.soutsTry]
    exact (soutTry_gate _ 1).trans (soutTry_gate s 0)
  · have h0 := soutLow_sout s.soutsTry 0
    have hcases : k = 0 ∨ k = 1 := by omega
    rcases hcases with rfl | rfl
    · rw [soutLow_saf]
      exact getD_set_init _ 1 0 h0
    · exact soutLow_sout _ 1

/-- The gate over the outputs and the time of a clear that starts. -/
def gateNoted (s : State) : State := (s.withSaf { s.saf with padGate := true }).withSec { s.sec with clrAt := s.now }

theorem gateNoted_parts (s : State) : (gateNoted s).sec = { s.sec with clrAt := s.now } ∧ (gateNoted s).saf.padGate = true ∧ (gateNoted s).mem = s.mem :=
  ⟨rfl, rfl, rfl⟩

theorem gateNoted_g (s : State) (y : Fld) : (gateNoted s).g y = s.g y := (withSec_g ..).trans (withSaf_g ..)

/-- The registers of a clear that starts. -/
def clearMarks (s : State) (trig : Nat) : State := (s.put F.SEC_CLR_STATE 1).put F.SEC_CLR_TRIGGER trig

theorem clearMarks_parts (s : State) (trig : Nat) : (clearMarks s trig).sec = s.sec ∧ (clearMarks s trig).now = s.now ∧ (clearMarks s trig).mem = s.mem :=
  ⟨(put_sec ..).trans (put_sec ..), (put_now ..).trans (put_now ..), (put_mem ..).trans (put_mem ..)⟩

theorem clearStart_eq (s : State) (trig : Nat) : s.clearStart trig = ((gateNoted (clearMarks s trig)).soutsTry.soutLow 0).soutLow 1 := rfl

theorem clearTail_fits (s : State) : s.Fits (Foot.of [0x50, 0x68] [.saf, .lanes]) ((s.soutsTry.soutLow 0).soutLow 1) :=
  soutLow_fits _ 1 (le_self _) (soutLow_fits _ 0 (le_self _) (soutsTry_fits s (le_self _) (fits_refl _ s)))

/-- A clear starts: its state and trigger, the gate over low outputs, and beside them the lanes alone. -/
theorem clearStart_leaves (s : State) {trig : Nat} (ht : trig < 8) :
    (s.clearStart trig).g F.SEC_CLR_STATE = 1 ∧ (s.clearStart trig).g F.SEC_CLR_TRIGGER = trig ∧ (s.clearStart trig).saf.padGate = true
      ∧ (s.clearStart trig).sec = { s.sec with clrAt := s.now } ∧ (∀ k, k < 2 → (s.clearStart trig).saf.souts.getD k Sout.init = Sout.init)
      ∧ (s.clearStart trig).mem = s.mem
      ∧ ∀ y : Fld, groupPage y.page ≠ 0x50 → groupPage y.page ≠ 0x68 → sep F.SEC_CLR_STATE y = true → sep F.SEC_CLR_TRIGGER y = true →
          (s.clearStart trig).g y = s.g y := by
  obtain ⟨hsec, hgate, hmem⟩ := gateNoted_parts (clearMarks s trig)
  obtain ⟨h1, h2, h3⟩ := clearMarks_parts s trig
  rw [h1, h2] at hsec
  rw [h3] at hmem
  have hstate : (gateNoted (clearMarks s trig)).g F.SEC_CLR_STATE = 1 := by
    rw [gateNoted_g, clearMarks, g_put_sep _ _ (by decide)]
    exact g_put_room _ (by decide)
  have htrig : (gateNoted (clearMarks s trig)).g F.SEC_CLR_TRIGGER = trig := (gateNoted_g _ _).trans (g_put_self (by decide) (by decide) ht)
  have hrest : ∀ y : Fld, sep F.SEC_CLR_STATE y = true → sep F.SEC_CLR_TRIGGER y = true → (gateNoted (clearMarks s trig)).g y = s.g y := fun y h1 h2 => by
    rw [gateNoted_g, clearMarks, g_put_sep _ _ h2, g_put_sep _ _ h1]
  rw [clearStart_eq]
  generalize gateNoted (clearMarks s trig) = u at hstate htrig hrest hsec hgate hmem ⊢
  obtain ⟨hpad, hlow⟩ := gatedLow u
  have hfits := clearTail_fits u
  refine ⟨(fits_g hfits rfl (by decide)).trans hstate, (fits_g hfits rfl (by decide)).trans htrig, hpad.trans hgate,
    (within_sec hfits.within rfl (by decide)).trans hsec, hlow, (within_mem hfits.within rfl (by decide)).trans hmem, fun y h5 h6 h1 h2 => ?_⟩
  exact (fits_g hfits rfl (by simp [Foot.of, h5, h6])).trans (hrest y h1 h2)

/-! ### Instructions -/

/-- The TAP's notes after an instruction. -/
def tapSec (c : Sec) : Sec := { c with trst := false, extest := false, scan := false }

theorem tapInstr_only (s : State) : s.Only [] [.sec] s.tapInstr := only_withSec (by simp) (only_refl _ _ _)

/-- Every instruction but SCAN that works whatever Garnet does. -/
theorem instructions_leave (s : State) (h : s.tapUp = true) :
    (∃ t, exec .idcode s = .next t ∧ t.sec = tapSec s.sec ∧ s.begin.Only [] [.sec, .readData] t
      ∧ t.readData = [BitVec.ofNat 32 (Config.silicon.toNat * 2 ^ 28 + 0x2048 * 2 ^ 12 + Config.manufacturer.toNat * 2 + 1)])
    ∧ (∃ t, exec .authStat s = .next t ∧ t.sec = tapSec s.sec ∧ t.readData = [s.word 0x78048 &&& 0xFF] ∧ s.begin.Only [] [.sec, .readData] t)
    ∧ (∃ t, exec .rcStat s = .next t ∧ t.sec = tapSec s.sec ∧ t.readData = [s.word F.CLK_RC_START_ATTEMPTS.addr &&& 0xFF]
      ∧ s.begin.Only [] [.sec, .readData] t)
    ∧ (∃ t, exec .bypass s = .next t ∧ t.sec = tapSec s.sec ∧ s.begin.Only [] [.sec] t)
    ∧ (∀ bits, ∃ t, exec (.samplePreload bits) s = .next t ∧ s.begin.Only [] [.sec] t
      ∧ t.sec = { tapSec s.sec with bscan := if s.on F.SEC_TAP_OPEN then bits else s.sec.bscan })
    ∧ (∃ t, exec .extest s = .next t ∧ t.sec = { tapSec s.sec with extest := s.on F.SEC_TAP_OPEN } ∧ s.begin.Only [] [.sec] t) := by
  have hup : s.begin.tapUp = true := h
  have hread : ∀ v, s.begin.Only [] [.sec, .readData] (s.begin.tapInstr.withReadData v) := fun v =>
    only_withReadData (by simp) (only_mono (by simp) (by simp) (tapInstr_only s.begin))
  have hopen : s.begin.tapInstr.on F.SEC_TAP_OPEN = s.on F.SEC_TAP_OPEN := rfl
  refine ⟨⟨_, congrArg Host.Outcome.next (if_pos hup), rfl, hread _, rfl⟩, ⟨_, congrArg Host.Outcome.next (if_pos hup), rfl, rfl, hread _⟩,
    ⟨_, congrArg Host.Outcome.next (if_pos hup), rfl, rfl, hread _⟩, ⟨_, congrArg Host.Outcome.next (if_pos hup), rfl, tapInstr_only s.begin⟩, fun bits => ?_, ?_⟩
  · refine ⟨_, congrArg Host.Outcome.next (if_pos hup), ?_, ?_⟩
    · exact only_ite (fun _ => only_withSec (by simp) (tapInstr_only s.begin)) (fun _ => tapInstr_only s.begin)
    · dsimp only
      rw [hopen]
      split_ifs <;> rfl
  · refine ⟨_, congrArg Host.Outcome.next (if_pos hup), ?_, ?_⟩
    · dsimp only
      rw [hopen]
      by_cases ho : s.on F.SEC_TAP_OPEN = true
      · rw [if_pos ho, ho]
        rfl
      · rw [if_neg ho, Bool.eq_false_iff.2 ho]
        rfl
    · exact only_ite (fun _ => only_withSec (by simp) (tapInstr_only s.begin)) (fun _ => tapInstr_only s.begin)

theorem exec_scan (h : s.tapUp = true) : exec .scan s = .next (if (s.on F.SEC_TAP_OPEN && decide (s.sec.tapLevel = 2) && decide (s.g F.SEC_CLR_STATE ≠ 1)) = true
    then s.begin.tapInstr.clearStart 1 else s.begin.tapInstr) := congrArg Host.Outcome.next (if_pos h)


/-- SCAN. -/
theorem scan_leaves (s : State) (h : s.tapUp = true) :
    (s.on F.SEC_TAP_OPEN = true → s.sec.tapLevel = 2 → s.g F.SEC_CLR_STATE ≠ 1 →
      ∃ t, exec .scan s = .next t ∧ t.g F.SEC_CLR_STATE = 1 ∧ t.g F.SEC_CLR_TRIGGER = 1 ∧ t.saf.padGate = true
        ∧ t.sec = { tapSec s.sec with clrAt := s.now } ∧ (∀ k, k < 2 → t.saf.souts.getD k Sout.init = Sout.init) ∧ t.mem = s.mem)
    ∧ (s.on F.SEC_TAP_OPEN = false ∨ s.sec.tapLevel ≠ 2 ∨ s.g F.SEC_CLR_STATE = 1 →
      ∃ t, exec .scan s = .next t ∧ t.sec = tapSec s.sec ∧ s.begin.Only [] [.sec] t) := by
  refine ⟨fun ho hl hc => ?_, fun hn => ?_⟩
  · obtain ⟨h1, h2, h3, h4, h5, h6, -⟩ := clearStart_leaves s.begin.tapInstr (trig := 1) (by decide)
    exact ⟨_, (exec_scan h).trans (congrArg Host.Outcome.next (if_pos (by simp [ho, hl, hc]))), h1, h2, h3, h4, h5, h6⟩
  · refine ⟨_, (exec_scan h).trans (congrArg Host.Outcome.next (if_neg ?_)), rfl, tapInstr_only s.begin⟩
    rcases hn with h | h | h <;> simp [h]

/-! ### Nonce and response -/

theorem nonceWord_eq (s : State) (k : Nat) : s.nonceWord k = (s.withFresh (s.fresh + 1)).put (F.SEC_NONCE_NONCE k) (Config.freeWord s.fresh).toNat := rfl

theorem nonceWords_fresh (l : List Nat) (s : State) : (l.foldl (fun s k => s.nonceWord k) s).fresh = s.fresh + l.length := by
  induction l generalizing s with
  | nil => rfl
  | cons k l ih =>
    rw [List.foldl_cons, ih, nonceWord_eq, put_fresh, List.length_cons, show (s.withFresh (s.fresh + 1)).fresh = s.fresh + 1 from rfl]
    omega

theorem nonceWords_only (l : List Nat) (hl : ∀ k ∈ l, k < 8) (s : State) :
    s.Only ((List.range 8).map F.SEC_NONCE_NONCE) [.fresh] (l.foldl (fun s k => s.nonceWord k) s) :=
  only_foldl l _ (fun k hk _ hu => only_put _ (List.mem_map_of_mem (List.mem_range.2 (hl k hk))) (by simp [F.SEC_NONCE_NONCE])
    (only_withFresh (by simp) hu)) (only_refl _ _ _)

/-- The nonce's eight words. -/
def nonceAll (s : State) : State := (List.range 8).foldl (fun s k => s.nonceWord k) s

/-- The nonce's time is noted and its words are read. -/
def nonceRead (s : State) : State :=
  (s.withSec { s.sec with nonceAt := some s.now }).withReadData ((List.range 8).map (fun k => s.word (F.SEC_NONCE_NONCE k).addr))

theorem exec_authNonce (h : s.tapUp = true) (hg : s.garnetRuns = true) : exec .authNonce s = .next (nonceRead (nonceAll s.begin.tapInstr)) := by
  have hup : (s.begin.tapUp && s.begin.garnetRuns) = true := show (s.tapUp && s.garnetRuns) = true by rw [h, hg]; rfl
  show execAuthNonce s = _
  unfold execAuthNonce nonceRead nonceAll
  dsimp only
  rw [if_pos hup]

theorem nonceAll_fresh (s : State) : (nonceAll s).fresh = s.fresh + 8 := by
  rw [nonceAll, nonceWords_fresh, List.length_range]

theorem nonceAll_only (s : State) : s.Only ((List.range 8).map F.SEC_NONCE_NONCE) [.fresh] (nonceAll s) :=
  nonceWords_only _ (fun _ hk => List.mem_range.1 hk) s

theorem nonceRead_word (s : State) (a : Nat) : (nonceRead s).word a = s.word a := (withReadData_word ..).trans (withSec_word ..)

theorem nonceRead_data (s : State) : (nonceRead s).readData = (List.range 8).map (fun k => (nonceRead s).word (F.SEC_NONCE_NONCE k).addr) := by
  simp only [nonceRead_word]
  rfl

theorem nonceRead_parts (s : State) : (nonceRead s).sec = { s.sec with nonceAt := some s.now } ∧ (nonceRead s).fresh = s.fresh := ⟨rfl, rfl⟩

/-- A nonce is placed and read. -/
theorem nonce_leaves (s : State) (h : s.tapUp = true) (hg : s.garnetRuns = true) :
    ∃ t, exec .authNonce s = .next t ∧ t.sec = { tapSec s.sec with nonceAt := some s.now } ∧ t.fresh = s.fresh + 8
      ∧ t.readData = (List.range 8).map (fun k => t.word (F.SEC_NONCE_NONCE k).addr)
      ∧ s.begin.Only ((List.range 8).map F.SEC_NONCE_NONCE) [.sec, .fresh, .readData] t := by
  have hrun := exec_authNonce h hg
  have honly := nonceAll_only s.begin.tapInstr
  have hfresh := nonceAll_fresh s.begin.tapInstr
  have hstart := tapInstr_only s.begin
  have hsec0 : s.begin.tapInstr.sec = tapSec s.sec := rfl
  have hnow0 : s.begin.tapInstr.now = s.now := rfl
  have hfresh0 : s.begin.tapInstr.fresh = s.fresh := rfl
  generalize s.begin.tapInstr = v at hrun honly hfresh hstart hsec0 hnow0 hfresh0
  generalize nonceAll v = u at hrun honly hfresh
  have hsec : u.sec = tapSec s.sec := (honly.parts.sec (by decide)).trans hsec0
  have hnow : u.now = s.now := (honly.parts.now (by decide)).trans hnow0
  obtain ⟨hs, hf⟩ := nonceRead_parts u
  refine ⟨_, hrun, ?_, ?_, nonceRead_data u, ?_⟩
  · rw [hs, hsec, hnow]
  · rw [hf, hfresh, hfresh0]
  · exact only_withReadData (by simp) (only_withSec (by simp) (only_app (List.Subset.refl _) (by simp) honly (only_mono (by simp) (by simp) hstart)))

theorem exec_authResp (resp : List Byte) (h : s.tapUp = true) (hg : s.garnetRuns = true) (hb : s.on F.SEC_TAP_BUSY = false) :
    exec (.authResp resp) s = .next (if s.on F.SEC_TAP_LOCKED = true then (s.begin.tapInstr.evt F.SEC_EVT_AUTH_FAIL).evt F.SEC_EVT_AUTH_LOCK
      else (s.begin.tapInstr.put F.SEC_TAP_BUSY 1).withSec { s.begin.tapInstr.sec with
        nonceAt := none
        resp := some (ofLe (slice resp 0 1), (match s.sec.nonceAt with | some a => decide (s.now - a ≤ ms 10000) | none => false) && s.levelOk (ofLe (slice resp 0 1)),
          s.keyUsable 3 (ofLe (slice resp 1 1)) && allZero resp 2 2 && resp.length = 132) }) :=
  congrArg Host.Outcome.next (if_pos (show (s.tapUp && s.garnetRuns && !s.on F.SEC_TAP_BUSY) = true by rw [h, hg, hb]; rfl))

/-- A response is taken for checking, or fails on a locked TAP. -/
theorem response_leaves (s : State) (resp : List Byte) (h : s.tapUp = true) (hg : s.garnetRuns = true) (hb : s.on F.SEC_TAP_BUSY = false) :
    (s.on F.SEC_TAP_LOCKED = false →
      ∃ t, exec (.authResp resp) s = .next t ∧ t.on F.SEC_TAP_BUSY = true ∧ s.begin.Only [F.SEC_TAP_BUSY] [.sec] t
        ∧ t.sec = { tapSec s.sec with
            nonceAt := none,
            resp := some (ofLe (slice resp 0 1), (match s.sec.nonceAt with | some a => decide (s.now - a ≤ ms 10000) | none => false) && s.levelOk (ofLe (slice resp 0 1)),
              s.keyUsable 3 (ofLe (slice resp 1 1)) && allZero resp 2 2 && resp.length = 132) })
    ∧ (s.on F.SEC_TAP_LOCKED = true →
      ∃ t, exec (.authResp resp) s = .next t ∧ t.on F.SEC_EVT_AUTH_FAIL = true ∧ t.on F.SEC_EVT_AUTH_LOCK = true ∧ t.sec = tapSec s.sec
        ∧ s.begin.Only [F.SEC_EVT_AUTH_FAIL, F.SEC_EVT_AUTH_LOCK, F.UNIT_IRQ_STAT_EVT 0x78] [.sec] t) := by
  have hrun := exec_authResp resp h hg hb
  refine ⟨fun hl => ?_, fun hl => ?_⟩
  · rw [if_neg (by rw [hl]; decide)] at hrun
    exact ⟨_, hrun, (withSec_on ..).trans (on_put_set _ (by decide)),
      only_withSec (by simp) (only_put _ (by simp) (by decide) (only_mono (by simp) (by simp) (tapInstr_only s.begin))), rfl⟩
  · rw [if_pos hl] at hrun
    exact ⟨_, hrun, (on_evt_sep _ (by decide) (by decide)).trans (on_evt_self _ (by decide)), on_evt_self _ (by decide),
      (evt_sec ..).trans ((evt_sec ..).trans rfl),
      only_evt (by simp) (by simp [F.SEC_EVT_AUTH_LOCK]) (by decide) (only_evt (by simp) (by simp [F.SEC_EVT_AUTH_FAIL]) (by decide)
        (only_mono (by simp) (by simp) (tapInstr_only s.begin)))⟩

/-! ### The check of a response -/

/-- A response's check begins its end: it is no longer busy. -/
def checked (s : State) : State := (s.put F.SEC_TAP_BUSY 0).withSec { s.sec with resp := none }

theorem exec_check {level : Nat} {ok key : Bool} (sig : Bool) (h : s.sec.resp = some (level, ok, key)) :
    exec (.authCheckDone sig) s = .next (if (sig && key) = true then (if ok = true then (checked s.begin).authAccept level else (checked s.begin).authFail)
      else ((checked s.begin).evt F.SEC_EVT_SIG_FAIL).authFail) := by
  have hb : s.begin.sec.resp = some (level, ok, key) := h
  show execAuthCheckDone sig s = _
  unfold execAuthCheckDone
  dsimp only
  rw [hb]
  rfl

theorem checked_g (s : State) (h : sep F.SEC_TAP_BUSY x = true) : (checked s).g x = s.g x := (withSec_g ..).trans (g_put_sep s 0 h)

theorem checked_busy (s : State) : (checked s).on F.SEC_TAP_BUSY = false := (withSec_on ..).trans (on_put_clear s (by decide))

/-- A failed response. -/
theorem authFail_leaves (s : State) :
    s.authFail.on F.SEC_EVT_AUTH_FAIL = true ∧ s.authFail.g F.SEC_TAP_FAILS = min 3 (s.g F.SEC_TAP_FAILS + 1)
      ∧ (2 ≤ s.g F.SEC_TAP_FAILS → s.authFail.on F.SEC_TAP_LOCKED = true ∧ s.authFail.on F.SEC_EVT_AUTH_LOCK = true)
      ∧ s.authFail.on F.SEC_TAP_BUSY = s.on F.SEC_TAP_BUSY ∧ s.authFail.on F.SEC_EVT_SIG_FAIL = s.on F.SEC_EVT_SIG_FAIL ∧ s.authFail.sec = s.sec := by
  have hn : (s.evt F.SEC_EVT_AUTH_FAIL).g F.SEC_TAP_FAILS = s.g F.SEC_TAP_FAILS := g_evt_sep _ (by decide) (by decide)
  have hlt : min 3 (s.g F.SEC_TAP_FAILS + 1) < 4 := by omega
  unfold State.authFail
  dsimp only
  rw [hn]
  split_ifs with h3
  · refine ⟨?_, ?_, fun _ => ⟨?_, on_evt_self _ (by decide)⟩, ?_, ?_, ?_⟩
    · rw [on_evt_sep _ (by decide) (by decide), on_put_sep _ _ (by decide), on_put_sep _ _ (by decide), on_evt_self _ (by decide)]
    · rw [g_evt_sep _ (by decide) (by decide), g_put_sep _ _ (by decide)]
      exact g_put_self (by decide) (by decide) hlt
    · rw [on_evt_sep _ (by decide) (by decide)]
      exact on_put_set _ (by decide)
    · rw [on_evt_sep _ (by decide) (by decide), on_put_sep _ _ (by decide), on_put_sep _ _ (by decide), on_evt_sep _ (by decide) (by decide)]
    · rw [on_evt_sep _ (by decide) (by decide), on_put_sep _ _ (by decide), on_put_sep _ _ (by decide), on_evt_sep _ (by decide) (by decide)]
    · rw [evt_sec, put_sec, put_sec, evt_sec]
  · refine ⟨?_, g_put_self (by decide) (by decide) hlt, fun h2 => absurd (show min 3 (s.g F.SEC_TAP_FAILS + 1) = 3 by omega) h3, ?_, ?_, ?_⟩
    · rw [on_put_sep _ _ (by decide), on_evt_self _ (by decide)]
    · rw [on_put_sep _ _ (by decide), on_evt_sep _ (by decide) (by decide)]
    · rw [on_put_sep _ _ (by decide), on_evt_sep _ (by decide) (by decide)]
    · rw [put_sec, evt_sec]

/-- The TAP opens. -/
theorem tapOpen_leaves (s : State) (level : Nat) :
    (s.tapOpen level).on F.SEC_TAP_OPEN = true ∧ (s.tapOpen level).on F.SEC_EVT_AUTH_OK = true ∧ (s.tapOpen level).sec = { s.sec with tapLevel := level }
      ∧ ∀ y : Fld, clear recordFields y = true → sep F.SEC_TAP_OPEN y = true → sep F.SEC_EVT_AUTH_OK y = true → sep (F.UNIT_IRQ_STAT_EVT 0x78) y = true →
        (s.tapOpen level).g y = s.g y := by
  have hg : ∀ y : Fld, clear recordFields y = true → (s.tapOpen level).g y = ((s.put F.SEC_TAP_OPEN 1).evt F.SEC_EVT_AUTH_OK).g y := fun y hy =>
    (withSec_g ..).trans (event_g _ _ _ hy)
  have hsec : (((s.put F.SEC_TAP_OPEN 1).evt F.SEC_EVT_AUTH_OK).event 0x7880 [b8 level]).sec = s.sec := by
    rw [within_sec (event_fits (g := Foot.of [0x70, 0x71] [.evr]) _ _ _ (le_self _) (fits_refl _ _)).within rfl rfl, evt_sec, put_sec]
  refine ⟨?_, ?_, ?_, fun y hc h1 h2 h3 => ?_⟩
  · rw [on_congr (hg _ (by decide)), on_evt_sep _ (by decide) (by decide)]
    exact on_put_set _ (by decide)
  · rw [on_congr (hg _ (by decide)), on_evt_self _ (by decide)]
  · unfold State.tapOpen
    dsimp only
    rw [hsec]
    rfl
  · rw [hg y hc, g_evt_sep _ h2 h3, g_put_sep _ _ h1]

/-- The step to RMA: bit 2 of LC is to be programmed. -/
theorem lcTransition_rma (s : State) (hf : s.fuse 0 = 3) (hlc : s.lc = 2) (hb : s.on F.FUS_STAT_BUSY = false) (hr : s.progRej .garnet 0 2 = 0) :
    s.lcTransition .garnet 3 true = s.fuseStart 0 [2] true := by
  have hbits : (List.range 4).filter (fun b => tbit (lcPattern 3) b && !tbit 3 b) = [2] := by decide
  unfold State.lcTransition
  rw [hf, hbits]
  dsimp only
  rw [if_neg (by simp [hb, hlc]), if_neg (by simp [hr])]

theorem fuseStart_leaves (s : State) (row : Nat) (bits : List Nat) (lc : Bool) :
    (s.fuseStart row bits lc).fus = { s.fus with job := some (row, bits, lc) } ∧ (s.fuseStart row bits lc).on F.FUS_STAT_BUSY = true
      ∧ (s.fuseStart row bits lc).g F.FUS_PROG_STAT_RESULT = 1 ∧ s.Only [F.FUS_STAT_BUSY, F.FUS_PROG_STAT_RESULT] [.fus] (s.fuseStart row bits lc) := by
  have hfus : ((s.put F.FUS_STAT_BUSY 1).put F.FUS_PROG_STAT_RESULT 1).fus = s.fus := (put_fus ..).trans (put_fus ..)
  refine ⟨?_, ?_, ?_, ?_⟩
  · unfold State.fuseStart
    dsimp only
    rw [hfus]
    rfl
  · refine (withFus_on ..).trans ((on_put_sep _ _ (by decide)).trans (on_put_set _ (by decide)))
  · exact (withFus_g ..).trans (g_put_room _ (by decide))
  · exact only_withFus (by simp) (only_put _ (by simp) (by decide) (only_put _ (by simp) (by decide) (only_refl _ _ _)))


theorem checked_now (s : State) : (checked s).now = s.now := (withSec_now ..).trans (put_now ..)

theorem checked_sec (s : State) : (checked s).sec = { s.sec with resp := none } := rfl

/-- The conditions of a fuse request rest on the lifecycle, the TAP's level, the window and the job under way. -/
theorem progRej_congr {m : Master} (row b : Nat) (hl : t.lc = s.lc) (hs : t.sec.tapLevel = s.sec.tapLevel)
    (hw : t.on F.THM_STAT_FUSE_OK = s.on F.THM_STAT_FUSE_OK) (hj : t.fus.job = s.fus.job) : t.progRej m row b = s.progRej m row b := by
  have hby : t.rowBy row m = s.rowBy row m := by cases m <;> simp only [State.rowBy, hl, hs]
  rw [State.progRej, State.progRej, hl, hby, hw, hj]

/-- A response that passes at level 1 opens the TAP. -/
theorem accept_opens (s : State) {key ok sig : Bool} {level : Nat} (hr : s.sec.resp = some (level, ok, key)) (hs : sig = true) (hk : key = true) (ho : ok = true)
    (hl : level = 1) :
    ∃ t, exec (.authCheckDone sig) s = .next t ∧ t.on F.SEC_TAP_OPEN = true ∧ t.g F.SEC_TAP_LEVEL = 1 ∧ t.on F.SEC_EVT_AUTH_OK = true
      ∧ t.on F.SEC_TAP_BUSY = false ∧ t.sec = { s.sec with resp := none, tapLevel := 1 } := by
  have hrun := exec_check sig hr
  rw [if_pos (by rw [hs, hk]; rfl), if_pos ho] at hrun
  have haccept : (checked s.begin).authAccept level = ((checked s.begin).put F.SEC_TAP_LEVEL 1).tapOpen 1 := by
    rw [hl]
    rfl
  rw [haccept] at hrun
  obtain ⟨hopen, hok, hsec, hg⟩ := tapOpen_leaves ((checked s.begin).put F.SEC_TAP_LEVEL 1) 1
  refine ⟨_, hrun, hopen, ?_, hok, ?_, ?_⟩
  · rw [hg _ (by decide) (by decide) (by decide) (by decide)]
    exact g_put_room _ (by decide)
  · rw [on_congr (hg _ (by decide) (by decide) (by decide) (by decide)), on_put_sep _ _ (by decide), checked_busy]
  · rw [hsec, put_sec, checked_sec]
    rfl

/-- One that passes at level 2 starts the clear. -/
theorem accept_clears (s : State) {key ok sig : Bool} {level : Nat} (hr : s.sec.resp = some (level, ok, key)) (hs : sig = true) (hk : key = true) (ho : ok = true)
    (hl : level = 2) :
    ∃ t, exec (.authCheckDone sig) s = .next t ∧ t.g F.SEC_CLR_STATE = 1 ∧ t.g F.SEC_CLR_TRIGGER = 3 ∧ t.g F.SEC_TAP_LEVEL = 2 ∧ t.saf.padGate = true
      ∧ t.on F.SEC_TAP_BUSY = false ∧ t.sec = { s.sec with resp := none, clrAt := s.now } := by
  have hrun := exec_check sig hr
  rw [if_pos (by rw [hs, hk]; rfl), if_pos ho] at hrun
  have haccept : (checked s.begin).authAccept level = ((checked s.begin).put F.SEC_TAP_LEVEL 2).clearStart 3 := by
    rw [hl]
    rfl
  rw [haccept] at hrun
  obtain ⟨h1, h2, h3, h4, -, -, hg⟩ := clearStart_leaves ((checked s.begin).put F.SEC_TAP_LEVEL 2) (trig := 3) (by decide)
  refine ⟨_, hrun, h1, h2, ?_, h3, ?_, ?_⟩
  · rw [hg _ (by decide) (by decide) (by decide) (by decide)]
    exact g_put_room _ (by decide)
  · rw [on_congr (hg _ (by decide) (by decide) (by decide) (by decide)), on_put_sep _ _ (by decide), checked_busy]
  · rw [h4, put_sec, put_now, checked_sec, checked_now]
    rfl

/-- One that passes at level 3 starts the step to RMA. -/
theorem accept_rma (s : State) {key ok sig : Bool} {level : Nat} (hr : s.sec.resp = some (level, ok, key)) (hs : sig = true) (hk : key = true) (ho : ok = true)
    (hl : level = 3) (hf : s.fuse 0 = 3) (hlc : s.lc = 2) (hb : s.on F.FUS_STAT_BUSY = false) (hrej : s.progRej .garnet 0 2 = 0) :
    ∃ t, exec (.authCheckDone sig) s = .next t ∧ t.fus = { s.fus with job := some (0, [2], true) } ∧ t.on F.FUS_STAT_BUSY = true
      ∧ t.g F.FUS_PROG_STAT_RESULT = 1 ∧ t.on F.SEC_TAP_BUSY = false ∧ t.sec = { s.sec with resp := none } := by
  have hrun := exec_check sig hr
  rw [if_pos (by rw [hs, hk]; rfl), if_pos ho] at hrun
  have hfus : ((checked s.begin).put F.SEC_TAP_LEVEL 3).fus = s.fus := (put_fus ..).trans ((withSec_fus ..).trans ((put_fus ..).trans (begin_fus s)))
  have hsec : ((checked s.begin).put F.SEC_TAP_LEVEL 3).sec = { s.sec with resp := none } := (put_sec ..).trans (checked_sec s.begin)
  have hg : ∀ y : Fld, sep F.SEC_TAP_LEVEL y = true → sep F.SEC_TAP_BUSY y = true → ((checked s.begin).put F.SEC_TAP_LEVEL 3).g y = s.g y := fun y h1 h2 => by
    rw [g_put_sep _ _ h1, checked_g _ h2, begin_g]
  have hbusy : ((checked s.begin).put F.SEC_TAP_LEVEL 3).on F.SEC_TAP_BUSY = false := (on_put_sep _ _ (by decide)).trans (checked_busy _)
  have haccept : (checked s.begin).authAccept level = ((checked s.begin).put F.SEC_TAP_LEVEL 3).lcTransition .garnet 3 true := by
    rw [hl]
    rfl
  rw [haccept] at hrun
  generalize (checked s.begin).put F.SEC_TAP_LEVEL 3 = u at hrun hfus hsec hg hbusy
  have hlc' : u.lc = s.lc := hg F.SEC_LC_STATE (by decide) (by decide)
  have hrej' : u.progRej .garnet 0 2 = 0 := (progRej_congr 0 2 hlc' (by rw [hsec]) (on_congr (hg _ (by decide) (by decide))) (by rw [hfus])).trans hrej
  rw [lcTransition_rma u (by rw [State.fuse, hfus]; exact hf) (hlc'.trans hlc) ((on_congr (hg _ (by decide) (by decide))).trans hb) hrej'] at hrun
  obtain ⟨h1, h2, h3, h4⟩ := fuseStart_leaves u 0 [2] true
  exact ⟨_, hrun, by rw [h1, hfus], h2, h3, (only_on h4 (by decide)).trans hbusy, (h4.parts.sec (by decide)).trans hsec⟩

/-- One that fails is counted, and the third locks the TAP. -/
theorem response_fails (s : State) {key ok sig : Bool} {level : Nat} (hr : s.sec.resp = some (level, ok, key)) (hn : (sig && key && ok) = false) :
    ∃ t, exec (.authCheckDone sig) s = .next t ∧ t.on F.SEC_EVT_AUTH_FAIL = true ∧ t.g F.SEC_TAP_FAILS = min 3 (s.g F.SEC_TAP_FAILS + 1)
      ∧ ((sig && key) = false → t.on F.SEC_EVT_SIG_FAIL = true)
      ∧ (2 ≤ s.g F.SEC_TAP_FAILS → t.on F.SEC_TAP_LOCKED = true ∧ t.on F.SEC_EVT_AUTH_LOCK = true) ∧ t.on F.SEC_TAP_BUSY = false
      ∧ t.sec = { s.sec with resp := none } := by
  have hrun := exec_check sig hr
  have hfails : (checked s.begin).g F.SEC_TAP_FAILS = s.g F.SEC_TAP_FAILS := (checked_g _ (by decide)).trans (begin_g ..)
  by_cases hsk : (sig && key) = true
  · have hok : ok = false := by
      rw [hsk] at hn
      simpa using hn
    rw [if_pos hsk, if_neg (by rw [hok]; decide)] at hrun
    obtain ⟨h1, h2, h3, h4, -, h6⟩ := authFail_leaves (checked s.begin)
    rw [hfails] at h2 h3
    exact ⟨_, hrun, h1, h2, fun h => absurd hsk (by simp [h]), h3, h4.trans (checked_busy _), h6⟩
  · rw [if_neg hsk] at hrun
    obtain ⟨h1, h2, h3, h4, h5, h6⟩ := authFail_leaves ((checked s.begin).evt F.SEC_EVT_SIG_FAIL)
    rw [g_evt_sep _ (by decide) (by decide), hfails] at h2 h3
    exact ⟨_, hrun, h1, h2, fun _ => h5.trans (on_evt_self _ (by decide)), h3, h4.trans ((on_evt_sep _ (by decide) (by decide)).trans (checked_busy _)),
      h6.trans (evt_sec ..)⟩

/-! ### TRST_N and TEST_MODE -/

theorem trst_leaves (s : State) :
    ∃ t, exec .trstNLow s = .next t ∧ t.on F.SEC_TAP_OPEN = decide (s.lc < 2) ∧ s.begin.Only [F.SEC_TAP_OPEN] [.sec] t
      ∧ t.sec = { s.sec with trst := true, extest := false, scan := false, tapLevel := if s.lc < 2 then 2 else 0 } := by
  have hput : (s.begin.tapInstr.put F.SEC_TAP_OPEN (bit (s.lc < 2))).lc = s.lc := g_put_sep _ _ (by decide)
  have hsec : (s.begin.tapInstr.put F.SEC_TAP_OPEN (bit (s.lc < 2))).sec = tapSec s.sec := put_sec ..
  have hon : (s.begin.tapInstr.put F.SEC_TAP_OPEN (bit (s.lc < 2))).on F.SEC_TAP_OPEN = decide (s.lc < 2) := on_put_bit _ _ rfl rfl
  have honly : s.begin.Only [F.SEC_TAP_OPEN] [.sec] (s.begin.tapInstr.put F.SEC_TAP_OPEN (bit (s.lc < 2))) :=
    only_put _ (by simp) (by decide) (only_mono (by simp) (by simp) (tapInstr_only s.begin))
  have hrun : exec .trstNLow s = .next ((s.begin.tapInstr.put F.SEC_TAP_OPEN (bit (s.lc < 2))).withSec
      { (s.begin.tapInstr.put F.SEC_TAP_OPEN (bit (s.lc < 2))).sec with
        trst := true, tapLevel := if (s.begin.tapInstr.put F.SEC_TAP_OPEN (bit (s.lc < 2))).lc < 2 then 2 else 0 }) := rfl
  generalize s.begin.tapInstr.put F.SEC_TAP_OPEN (bit (s.lc < 2)) = u at hput hsec hon honly hrun
  refine ⟨_, hrun, (withSec_on ..).trans hon, only_withSec (by simp) honly, ?_⟩
  rw [← hput]
  exact (show Sec.mk .. = _ by rw [hsec]; rfl)

/-- Settles O47: instruction by instruction, with what each leaves. -/
theorem testAccess : Obligations.TestAccess := by
  refine ⟨fun s h => ?_, fun s bits h c hc => ?_, fun s resp h => ⟨?_, ?_⟩, fun s => ⟨_, rfl, rfl, only_withSec (by simp) (only_refl _ _ _)⟩,
    fun s level ok key sig hr => ⟨fun hs hk ho hl => accept_opens s hr hs hk ho hl, fun hs hk ho hl => accept_clears s hr hs hk ho hl,
      fun hs hk ho hl hf hlc hb hrej => accept_rma s hr hs hk ho hl hf hlc hb hrej, fun hn => response_fails s hr hn⟩,
    fun s sig h => ?_, fun s => trst_leaves s, fun s => ⟨fun h => ?_, fun h => ?_⟩⟩
  · intro sec
    obtain ⟨h1, h2, h3, h4, h5, h6⟩ := instructions_leave s h
    exact ⟨h1, h2, h3, h4, h5, h6, (scan_leaves s h).1, (scan_leaves s h).2, fun hg => nonce_leaves s h hg,
      fun resp hg hb hl => (response_leaves s resp h hg hb).1 hl, fun resp hg hb hl => (response_leaves s resp h hg hb).2 hl⟩
  · have hdown : ¬ s.begin.tapUp = true := by
      rw [show s.begin.tapUp = s.tapUp from rfl, h]
      decide
    simp only [List.mem_cons, List.not_mem_nil, or_false] at hc
    rcases hc with rfl | rfl | rfl | rfl | rfl | rfl | rfl <;> exact congrArg Host.Outcome.next (if_neg hdown)
  · exact congrArg Host.Outcome.next (if_neg (show ¬ (s.tapUp && s.garnetRuns) = true by rcases h with h | h <;> simp [h]))
  · exact congrArg Host.Outcome.next (if_neg (show ¬ (s.tapUp && s.garnetRuns && !s.on F.SEC_TAP_BUSY) = true by rcases h with h | h <;> simp [h]))
  · have hb : s.begin.sec.resp = none := h
    show execAuthCheckDone sig s = _
    unfold execAuthCheckDone
    dsimp only
    rw [hb]
  · exact ⟨_, congrArg Host.Outcome.next (if_pos h), rfl, only_withSec (by simp) (only_refl _ _ _)⟩
  · exact ⟨_, congrArg Host.Outcome.next (if_neg h), on_evt_self _ (by decide), only_evt (by simp) (by simp [F.SEC_EVT_TESTMODE_IGN]) (by decide) (only_refl _ _ _)⟩

end Sys2Proof.Proofs.TestPort
end

section
/-! PROOF. Lifecycle requests, the clear of secrets, self-test requests and fuses (SecretsTestsAndFuses). -/

namespace Sys2Proof.Proofs.SecretsAndFuses

open Sys2Proof.Machine Sys2Proof.Laws Sys2Proof.Proofs.Architecture Sys2Proof.Proofs.RegisterMap Sys2Proof.Proofs.Reading Sys2Proof.Proofs.GovernorSums
  Sys2Proof.Proofs.LampReactions Sys2Proof.Proofs.SafetyOuts Sys2Proof.Proofs.FlintLockOut Sys2Proof.Proofs.PageCommits Sys2Proof.Proofs.TestPort

variable {s t u : State} {f x : Fld} {m : Master} {v : Word} {b : Nat}

/-! ### The writes -/

theorem exec_lcRequest (hm : s.masterRuns m = true) (hw : s.mayWrite m 0x78 0x44 = true) : exec (.lcRequest m v) s = .next (s.begin.lcReq m v) :=
  congrArg Host.Outcome.next (masterWrite_special (s := s.begin) v hm hw (by decide) (by decide) (by decide) (by decide) (by decide) (by decide)
    (by decide))

theorem exec_fuseProgram (hm : s.masterRuns m = true) (hw : s.mayWrite m 0x7A 0x44 = true) : exec (.fuseProgram m v) s = .next (s.begin.fusProg m v) :=
  congrArg Host.Outcome.next (masterWrite_special (s := s.begin) v hm hw (by decide) (by decide) (by decide) (by decide) (by decide) (by decide)
    (by decide))

/-- A write to the page of the self-tests, in a run or out of one. -/
theorem bstWrite (off : Nat) (ho : off < 4096) (h4 : off % 4 = 0) (hm : s.masterRuns m = true) (hw : s.mayWrite m 0x79 off = true) :
    s.begin.masterWrite m (pageAddr 0x79 off) v = if s.bistRuns = true then s.begin else s.begin.specialA m 0x79 off v := by
  refine (masterWrite_page (s := s.begin) v hm hw (by decide) (by decide) ho h4).trans ?_
  unfold State.pageWrite
  rw [show s.begin.bistRuns = s.bistRuns from rfl]
  by_cases hb : s.bistRuns = true
  · rw [if_pos (by simp [hb]), if_pos hb]
  · rw [if_neg (by simp [hb]), if_neg hb]
    exact if_neg (by decide)

theorem exec_lbistStart (hm : s.masterRuns m = true) (hw : s.mayWrite m 0x79 0x40 = true) :
    exec (.lbistStart m v) s = .next (if s.bistRuns = true then s.begin else s.begin.lbCtrl v) :=
  congrArg Host.Outcome.next (bstWrite 0x40 (by decide) (by decide) hm hw)

theorem exec_mbistRequest (hm : s.masterRuns m = true) (hw : s.mayWrite m 0x79 0x64 = true) :
    exec (.mbistRequest m v) s = .next (if s.bistRuns = true then s.begin else s.begin.mbCtrl v) :=
  congrArg Host.Outcome.next (bstWrite 0x64 (by decide) (by decide) hm hw)

/-! ### Lifecycle requests -/

/-- A request with the key for a state ahead. -/
theorem lcReq_goes (hwho : m = .garnet ∨ (m = .tap ∧ s.sec.tapLevel = 2 ∧ s.lc < 2)) (hk : wordField v 15 8 = 0x3C) (ha : s.lc < wordField v 2 0)
    (h4 : wordField v 2 0 ≤ 4) : s.lcReq m v = s.lcTransition .garnet (wordField v 2 0) false := by
  unfold State.lcReq
  dsimp only
  rw [if_pos]
  rcases hwho with rfl | ⟨rfl, hl, hlc⟩
  · simp [hk, ha, h4]
  · simp [hl, hlc, hk, ha, h4]

theorem lcReq_rests (h : wordField v 15 8 ≠ 0x3C ∨ wordField v 2 0 ≤ s.lc ∨ 4 < wordField v 2 0) : s.lcReq m v = s := by
  unfold State.lcReq
  dsimp only
  rw [if_neg]
  rcases h with h | h | h
  · simp [h]
  · simp [Nat.not_lt.2 h]
  · simp [Nat.not_le.2 h]

/-- The conditions under which a step is refused. -/
def lcBad (s : State) (target : Nat) : Bool :=
  s.on F.FUS_STAT_BUSY || (s.lc = 1 && target = 2 && !(s.rowSet 8 && s.rowSet 12 && s.rowSet 16 && s.rowSet 7)) || (s.lc = 2 && target = 3 && !false)

theorem lcTransition_bad {target : Nat} (h : lcBad s target = true) : s.lcTransition m target false = s.evt F.SEC_EVT_LC_REJ := if_pos h

theorem lcTransition_starts {target : Nat} (h : lcBad s target = false)
    (hbits : (List.range 4).filter (fun b => tbit (lcPattern target) b && !tbit (s.fuse 0) b) = [b]) (hr : s.progRej m 0 b = 0) :
    s.lcTransition m target false = s.fuseStart 0 [b] true := by
  have hnot : ¬ lcBad s target = true := by simp [h]
  refine (if_neg hnot).trans ?_
  rw [hbits]
  exact if_neg (by simp [hr])

theorem lcBad_of (h : s.on F.FUS_STAT_BUSY = true ∨ (s.lc = 1 ∧ wordField v 2 0 = 2 ∧ ∃ r, r ∈ [7, 8, 12, 16] ∧ s.rowSet r = false)
    ∨ (s.lc = 2 ∧ wordField v 2 0 = 3)) : lcBad s (wordField v 2 0) = true := by
  unfold lcBad
  rcases h with h | ⟨h1, h2, r, hr, hs⟩ | ⟨h1, h2⟩
  · simp [h]
  · simp only [List.mem_cons, List.not_mem_nil, or_false] at hr
    rcases hr with rfl | rfl | rfl | rfl <;> simp [h1, h2, hs]
  · simp [h1, h2]

/-- A request with the key for a state ahead: refused, or the bit that it lacks is programmed. -/
theorem lcRequest_leaves (hm : s.masterRuns m = true) (hw : s.mayWrite m 0x78 0x44 = true) (hwho : m = .garnet ∨ (m = .tap ∧ s.sec.tapLevel = 2 ∧ s.lc < 2))
    (hk : wordField v 15 8 = 0x3C) (ha : s.lc < wordField v 2 0) (h4 : wordField v 2 0 ≤ 4) :
    (s.on F.FUS_STAT_BUSY = true ∨ (s.lc = 1 ∧ wordField v 2 0 = 2 ∧ ∃ r, r ∈ [7, 8, 12, 16] ∧ s.rowSet r = false) ∨ (s.lc = 2 ∧ wordField v 2 0 = 3) →
      ∃ t, exec (.lcRequest m v) s = .next t ∧ t.on F.SEC_EVT_LC_REJ = true ∧ s.begin.Only [F.SEC_EVT_LC_REJ, F.UNIT_IRQ_STAT_EVT 0x78] [] t)
    ∧ (∀ b, lcBad s (wordField v 2 0) = false → (List.range 4).filter (fun b => tbit (lcPattern (wordField v 2 0)) b && !tbit (s.fuse 0) b) = [b] →
        s.progRej .garnet 0 b = 0 →
      ∃ t, exec (.lcRequest m v) s = .next t ∧ t.fus = { s.fus with job := some (0, [b], true) } ∧ t.on F.FUS_STAT_BUSY = true
        ∧ t.g F.FUS_PROG_STAT_RESULT = 1 ∧ s.begin.Only [F.FUS_STAT_BUSY, F.FUS_PROG_STAT_RESULT] [.fus] t) := by
  have hrun : exec (.lcRequest m v) s = _ := (exec_lcRequest hm hw).trans (congrArg Host.Outcome.next (lcReq_goes (s := s.begin) hwho hk ha h4))
  refine ⟨fun h => ?_, fun b hbad hbits hrej => ?_⟩
  · have hb : lcBad s.begin (wordField v 2 0) = true := lcBad_of (s := s.begin) h
    exact ⟨_, hrun.trans (congrArg Host.Outcome.next (lcTransition_bad hb)), on_evt_self _ (by decide),
      only_evt (by simp) (by simp [F.SEC_EVT_LC_REJ]) (by decide) (only_refl _ _ _)⟩
  · obtain ⟨h1, h2, h3, h5⟩ := fuseStart_leaves s.begin 0 [b] true
    exact ⟨_, hrun.trans (congrArg Host.Outcome.next (lcTransition_starts (s := s.begin) hbad hbits hrej)), h1, h2, h3, h5⟩

/-! ### The end of the clear -/

/-- Secrets gone from memory: zeros there, and every other byte as it was. -/
theorem filtered_byte (l : List Host.Cell) (a : Nat) :
    tabGet memDefault (l.filter (fun e => !secret e.1)) a = if secret a then 0 else tabGet memDefault l a := by
  by_cases h : secret a = true
  · rw [if_pos h, tabGet_gone l (fun a => !secret a) a (by simp [h])]
    unfold memDefault
    rw [if_neg]
    simp only [secret, Bool.or_eq_true, Bool.and_eq_true, decide_eq_true_eq] at h
    omega
  · rw [if_neg h, tabGet_keep l (fun a => !secret a) a (by simp [h])]

/-- Time and secrets of a clear that has been read back. -/
def cleared (s : State) : State := (s.put F.SEC_CLR_TIME_US (min 65535 ((s.now - s.sec.clrAt) / 400))).clearSecrets

theorem exec_clearDone (ok : Bool) (h : s.g F.SEC_CLR_STATE = 1) : exec (.secretClearDone ok) s =
    .next (if ok = true then (cleared s.begin).clearOk else (cleared s.begin).clearBad) := congrArg Host.Outcome.next (if_pos h)

theorem clearSecrets_parts (s : State) : s.clearSecrets.sec = { s.sec with vault := List.replicate 8 0 } ∧ s.clearSecrets.mem = s.mem.filter (fun e => !secret e.1)
    ∧ s.clearSecrets.saf = s.saf := ⟨rfl, rfl, rfl⟩

theorem clearSecrets_g (s : State) (y : Fld) : s.clearSecrets.g y = s.g y := (withPwr_g ..).trans ((withSec_g ..).trans (withMem_g ..))

/-- A clear that has been read back, before its mode begins. -/
structure Cleared (s u : State) : Prop where
  sec : u.sec = { s.sec with vault := List.replicate 8 0 }
  mem : u.mem = s.mem.filter (fun e => !secret e.1)
  time : u.g F.SEC_CLR_TIME_US = min 65535 ((s.now - s.sec.clrAt) / 400)
  rest : ∀ y : Fld, sep F.SEC_CLR_TIME_US y = true → u.g y = s.g y

theorem cleared_leaves (s : State) : Cleared s (cleared s) := by
  obtain ⟨h1, h2, -⟩ := clearSecrets_parts (s.put F.SEC_CLR_TIME_US (min 65535 ((s.now - s.sec.clrAt) / 400)))
  refine ⟨h1.trans (by rw [put_sec]), h2.trans (by rw [put_mem]), ?_, fun y hy => (clearSecrets_g _ _).trans (g_put_sep _ _ hy)⟩
  refine (clearSecrets_g _ _).trans (g_put_self (by decide) (by decide) (show min 65535 ((s.now - s.sec.clrAt) / 400) < 65536 by omega))


theorem clearOk_cases (s : State) :
    (s.g F.SEC_CLR_TRIGGER = 1 ∧ s.clearOk = (s.put F.SEC_CLR_STATE 2).withSec { (s.put F.SEC_CLR_STATE 2).sec with scan := true })
      ∨ (s.g F.SEC_CLR_TRIGGER = 3 ∧ s.clearOk = (((((s.put F.SEC_CLR_STATE 2).put F.SEC_TAP_DEBUG_HALT 1).withSaf
          { (s.put F.SEC_CLR_STATE 2).saf with halted := true }).tapOpen 2).settle))
      ∨ (s.g F.SEC_CLR_TRIGGER ≠ 1 ∧ s.g F.SEC_CLR_TRIGGER ≠ 3 ∧ s.clearOk = s.put F.SEC_CLR_STATE 2) := by
  have ht : (s.put F.SEC_CLR_STATE 2).g F.SEC_CLR_TRIGGER = s.g F.SEC_CLR_TRIGGER := g_put_sep _ _ (by decide)
  unfold State.clearOk
  dsimp only
  rw [ht]
  split
  · exact .inl ⟨‹_›, rfl⟩
  · exact .inr (.inl ⟨‹_›, rfl⟩)
  · exact .inr (.inr ⟨fun h => by simp_all, fun h => by simp_all, rfl⟩)

/-- A clear that verifies. -/
structure Verified (s t : State) : Prop where
  state : t.g F.SEC_CLR_STATE = 2
  vault : t.sec.vault = s.sec.vault
  time : t.g F.SEC_CLR_TIME_US = s.g F.SEC_CLR_TIME_US
  scan : s.g F.SEC_CLR_TRIGGER = 1 → t.sec.scan = true
  debug : s.g F.SEC_CLR_TRIGGER = 3 → t.on F.SEC_TAP_DEBUG_HALT = true ∧ t.saf.halted = true ∧ t.on F.SEC_TAP_OPEN = true ∧ t.sec.tapLevel = 2
  lbist : s.g F.SEC_CLR_TRIGGER = 2 → t.g F.BST_LB_STAT_RESULT = s.g F.BST_LB_STAT_RESULT

theorem clearOk_leaves (s : State) : Verified s s.clearOk := by
  have hstate : (s.put F.SEC_CLR_STATE 2).g F.SEC_CLR_STATE = 2 := g_put_room _ (by decide)
  have hsec : (s.put F.SEC_CLR_STATE 2).sec = s.sec := put_sec ..
  have hrest : ∀ y : Fld, sep F.SEC_CLR_STATE y = true → (s.put F.SEC_CLR_STATE 2).g y = s.g y := fun y hy => g_put_sep _ _ hy
  rcases clearOk_cases s with ⟨h1, he⟩ | ⟨h3, he⟩ | ⟨h1, h3, he⟩
  · rw [he]
    generalize s.put F.SEC_CLR_STATE 2 = u at hstate hsec hrest ⊢
    exact ⟨(withSec_g ..).trans hstate, (show u.sec.vault = s.sec.vault by rw [hsec]), (withSec_g ..).trans (hrest _ (by decide)), fun _ => rfl, fun h => absurd (h1.symm.trans h) (by decide),
      fun _ => (withSec_g ..).trans (hrest _ (by decide))⟩
  · rw [he]
    generalize s.put F.SEC_CLR_STATE 2 = u at hstate hsec hrest ⊢
    have hput : (u.put F.SEC_TAP_DEBUG_HALT 1).sec = u.sec := put_sec ..
    have hg : ∀ y : Fld, sep F.SEC_TAP_DEBUG_HALT y = true → (u.put F.SEC_TAP_DEBUG_HALT 1).g y = u.g y := fun y hy => g_put_sep _ _ hy
    have hhalt : (u.put F.SEC_TAP_DEBUG_HALT 1).on F.SEC_TAP_DEBUG_HALT = true := on_put_set _ (by decide)
    generalize u.put F.SEC_TAP_DEBUG_HALT 1 = v at hput hg hhalt ⊢
    obtain ⟨hopen, -, hosec, hog⟩ := tapOpen_leaves (v.withSaf { u.saf with halted := true }) 2
    have hosaf : ((v.withSaf { u.saf with halted := true }).tapOpen 2).saf = { u.saf with halted := true } :=
      (within_saf (tapOpen_fits _ 2 (le_self _) (fits_refl _ _)).within rfl (by decide)).trans rfl
    generalize hw : (v.withSaf { u.saf with halted := true }).tapOpen 2 = w at hopen hosec hog hosaf ⊢
    have hset := (settle_fits w (le_self _) (fits_refl _ _)).within
    have hsg : ∀ y : Fld, groupPage y.page ≠ 0x68 → w.settle.g y = w.g y := fun y hy => within_g hset rfl y (by simpa [Foot.of] using hy)
    have hssec : w.settle.sec = { v.sec with tapLevel := 2 } := (within_sec hset rfl (by decide)).trans hosec
    refine ⟨?_, ?_, ?_, fun h => absurd (h3.symm.trans h) (by decide), fun _ => ⟨?_, ?_, ?_, ?_⟩, fun h => absurd (h3.symm.trans h) (by decide)⟩
    · rw [hsg _ (by decide), hog _ (by decide) (by decide) (by decide) (by decide), withSaf_g, hg _ (by decide), hstate]
    · rw [hssec]
      show v.sec.vault = s.sec.vault
      rw [hput, hsec]
    · rw [hsg _ (by decide), hog _ (by decide) (by decide) (by decide) (by decide), withSaf_g, hg _ (by decide), hrest _ (by decide)]
    · rw [on_congr (hsg _ (by decide)), on_congr (hog _ (by decide) (by decide) (by decide) (by decide)), withSaf_on, hhalt]
    · rw [within_saf hset rfl (by decide), hosaf]
    · rw [on_congr (hsg _ (by decide)), hopen]
    · rw [hssec]
  · rw [he]
    exact ⟨hstate, congrArg Sec.vault hsec, hrest _ (by decide), fun h => absurd h h1, fun h => absurd h h3, fun _ => hrest _ (by decide)⟩

/-- A clear that failed, before its mode is refused. -/
def failedClear (s : State) : State :=
  (((s.withFresh (s.fresh + 1)).withFresh (s.fresh + 2)).setByte (0x30000000 + (Config.freeWord s.fresh).toNat % 0x80000)
    (b8 (Config.freeWord (s.fresh + 1)).toNat)).put F.SEC_CLR_STATE 3

/-- Its event and its fault. -/
def failedNoted (s : State) : State := (s.evt F.SEC_EVT_CLR_FAIL).raise S.BST_FAIL 0

/-- The mode of a failed clear is refused. -/
def modeRefused (s : State) : State :=
  if s.g F.SEC_CLR_TRIGGER = 2 then s.lbRefuse 5 else if s.g F.SEC_CLR_TRIGGER = 4 then s.put F.BST_MB_STAT_RESULT 6 else s

theorem clearBad_eq (s : State) : s.clearBad = modeRefused (failedNoted (failedClear s)) := by
  show (match (failedNoted (failedClear s)).g F.SEC_CLR_TRIGGER with
    | 2 => (failedNoted (failedClear s)).lbRefuse 5
    | 4 => (failedNoted (failedClear s)).put F.BST_MB_STAT_RESULT 6
    | _ => failedNoted (failedClear s)) = _
  generalize failedNoted (failedClear s) = u
  unfold modeRefused
  split
  · rw [if_pos ‹_›]
  · rw [if_neg (by simp_all), if_pos ‹_›]
  · rw [if_neg (by simp_all), if_neg (by simp_all)]

theorem lbRefuse_leaves (s : State) {rej : Nat} (h : rej < 16) :
    (s.lbRefuse rej).g F.BST_LB_STAT_RESULT = 5 ∧ (s.lbRefuse rej).g F.BST_LB_STAT_REJ = rej ∧ (s.lbRefuse rej).on F.BST_EVT_LB_REJ = true
      ∧ s.Only [F.BST_LB_STAT_RESULT, F.BST_LB_STAT_REJ, F.BST_EVT_LB_REJ, F.UNIT_IRQ_STAT_EVT 0x79] [] (s.lbRefuse rej) := by
  refine ⟨?_, ?_, on_evt_self _ (by decide), ?_⟩
  · refine (g_evt_sep _ (by decide) (by decide)).trans ((g_put_sep _ _ (by decide)).trans (g_put_room _ (by decide)))
  · exact (g_evt_sep _ (by decide) (by decide)).trans (g_put_self (by decide) (by decide) h)
  · exact only_evt (by simp) (by simp [F.BST_EVT_LB_REJ]) (by decide) (only_put _ (by simp) (by decide) (only_put _ (by simp) (by decide) (only_refl _ _ _)))

/-- A clear that fails. -/
structure Failed (s t : State) : Prop where
  state : t.g F.SEC_CLR_STATE = 3
  event : t.on F.SEC_EVT_CLR_FAIL = true
  sec : t.sec = s.sec
  pend : s.defLevel S.BST_FAIL ≠ 0 → t.on (fltPend S.BST_FAIL) = true
  lbist : s.g F.SEC_CLR_TRIGGER = 2 → t.g F.BST_LB_STAT_RESULT = 5 ∧ t.g F.BST_LB_STAT_REJ = 5 ∧ t.on F.BST_EVT_LB_REJ = true
  mbist : s.g F.SEC_CLR_TRIGGER = 4 → t.g F.BST_MB_STAT_RESULT = 6

theorem failedClear_g (s : State) (y : Fld) (h : sep F.SEC_CLR_STATE y = true) : (failedClear s).g y = s.g y := by
  refine (g_put_sep _ _ h).trans (only_g (only_of_within (setByte_fits _ _ rfl (fits_refl (Foot.of [] [.mem]) _)).within) rfl |>.trans ?_)
  exact (withFresh_g ..).trans (withFresh_g ..)

theorem setByte_sec (s : State) (a : Nat) (c : Byte) : (s.setByte a c).sec = s.sec := rfl

theorem failedClear_sec (s : State) : (failedClear s).sec = s.sec :=
  (put_sec ..).trans ((setByte_sec ..).trans rfl)

theorem clearBad_leaves (s : State) : Failed s s.clearBad := by
  have hstate : (failedClear s).g F.SEC_CLR_STATE = 3 := g_put_room _ (by decide)
  have hg := failedClear_g s
  have hsec := failedClear_sec s
  rw [clearBad_eq]
  generalize failedClear s = u at hstate hg hsec ⊢
  have hlev : (u.evt F.SEC_EVT_CLR_FAIL).defLevel S.BST_FAIL = s.defLevel S.BST_FAIL := by
    rw [fits_defLevel (evt_fits (f := Foot.of [0x78] []) (by decide) (fits_refl _ u)) rfl rfl, State.defLevel, State.defLevel,
      on_congr (hg F.FLT_CTRL_MODE (by decide)), hg (fltSev S.BST_FAIL) (by decide)]
  have hpend : s.defLevel S.BST_FAIL ≠ 0 → (failedNoted u).on (fltPend S.BST_FAIL) = true := fun hd => raise_pend _ _ (by decide) (hlev.symm ▸ hd)
  have hfg : ∀ y : Fld, lampField y = true → sep F.SEC_EVT_CLR_FAIL y = true → sep (F.UNIT_IRQ_STAT_EVT 0x78) y = true → (failedNoted u).g y = u.g y :=
    fun y hl h1 h2 => (raise_lamp _ _ _ hl).trans (g_evt_sep _ h1 h2)
  have hev : (failedNoted u).on F.SEC_EVT_CLR_FAIL = true := (on_congr (raise_lamp _ _ _ (by decide))).trans (on_evt_self _ (by decide))
  have hfsec : (failedNoted u).sec = s.sec := by
    refine (within_sec (raise_fits (g := Foot.reaction [0x79] []) _ _ _ (by decide) (by decide) (fits_refl _ _)).within rfl (by decide)).trans ?_
    rw [evt_sec, hsec]
  have hst : (failedNoted u).g F.SEC_CLR_STATE = 3 := (hfg _ (by decide) (by decide) (by decide)).trans hstate
  have htrig : (failedNoted u).g F.SEC_CLR_TRIGGER = s.g F.SEC_CLR_TRIGGER := (hfg _ (by decide) (by decide) (by decide)).trans (hg _ (by decide))
  generalize failedNoted u = w at hpend hev hfsec hst htrig ⊢
  unfold modeRefused
  rw [htrig]
  split_ifs with h2 h4
  · obtain ⟨ha, hb, hc, honly⟩ := lbRefuse_leaves w (rej := 5) (by decide)
    exact ⟨(only_g honly (by decide)).trans hst, (only_on honly (by decide)).trans hev, (honly.parts.sec (by decide)).trans hfsec,
      fun hd => (only_on honly (by decide)).trans (hpend hd), fun _ => ⟨ha, hb, hc⟩, fun h => absurd (h2.symm.trans h) (by decide)⟩
  · exact ⟨(g_put_sep _ _ (by decide)).trans hst, (on_put_sep _ _ (by decide)).trans hev, (put_sec ..).trans hfsec,
      fun hd => (on_put_sep _ _ (by decide)).trans (hpend hd), fun h => absurd h h2, fun _ => g_put_room _ (by decide)⟩
  · exact ⟨hst, hev, hfsec, hpend, fun h => absurd h h2, fun h => absurd h h4⟩


/-! ### Self-tests -/

/-- The registers of a logic BIST run that starts. -/
def lbMarks (s : State) (v : Word) : State :=
  (((s.put F.BST_LB_STAT_RESULT 1).put F.BST_LB_STAT_PART (wordField v 1 1)).put F.BST_LB_STAT_REJ 0).put F.BST_LB_STAT_EXEC 0

theorem lbCtrl_starts (h0 : wordField v 0 0 = 1) (hk : wordField v 15 8 = 0xB5) (hr : s.lbRej = 0) : s.lbCtrl v = (lbMarks s v).clearStart 2 := by
  unfold State.lbCtrl lbMarks
  rw [if_pos (by simp [h0, hk]), hr]
  exact if_neg (by simp)

theorem lbCtrl_refused (h0 : wordField v 0 0 = 1) (hk : wordField v 15 8 = 0xB5) (hr : s.lbRej ≠ 0) : s.lbCtrl v = s.lbRefuse s.lbRej := by
  unfold State.lbCtrl
  rw [if_pos (by simp [h0, hk])]
  exact if_pos hr

theorem lbRej_lt (s : State) : s.lbRej < 16 := by
  unfold State.lbRej State.bistIdle
  dsimp only
  split_ifs <;> omega

theorem lbist_leaves (hm : s.masterRuns m = true) (hw : s.mayWrite m 0x79 0x40 = true) (hb : s.bistRuns = false) (h0 : wordField v 0 0 = 1)
    (hk : wordField v 15 8 = 0xB5) :
    (s.lbRej = 0 → ∃ t, exec (.lbistStart m v) s = .next t ∧ t.g F.BST_LB_STAT_RESULT = 1 ∧ t.g F.BST_LB_STAT_PART = wordField v 1 1
      ∧ t.g F.SEC_CLR_STATE = 1 ∧ t.g F.SEC_CLR_TRIGGER = 2 ∧ t.saf.padGate = true ∧ t.mem = s.mem)
    ∧ (s.lbRej ≠ 0 → ∃ t, exec (.lbistStart m v) s = .next t ∧ t.g F.BST_LB_STAT_RESULT = 5 ∧ t.g F.BST_LB_STAT_REJ = s.lbRej
      ∧ t.on F.BST_EVT_LB_REJ = true ∧ s.begin.Only [F.BST_LB_STAT_RESULT, F.BST_LB_STAT_REJ, F.BST_EVT_LB_REJ, F.UNIT_IRQ_STAT_EVT 0x79] [] t) := by
  have hrun : exec (.lbistStart m v) s = .next (s.begin.lbCtrl v) :=
    (exec_lbistStart hm hw).trans (congrArg Host.Outcome.next (if_neg (by rw [hb]; decide)))
  refine ⟨fun hr => ?_, fun hr => ?_⟩
  · rw [lbCtrl_starts (s := s.begin) h0 hk hr] at hrun
    have hpart : wordField v 1 1 < 2 := Nat.mod_lt _ (by decide)
    have hres : (lbMarks s.begin v).g F.BST_LB_STAT_RESULT = 1 := by
      rw [lbMarks, g_put_sep _ _ (by decide), g_put_sep _ _ (by decide), g_put_sep _ _ (by decide)]
      exact g_put_room _ (by decide)
    have hprt : (lbMarks s.begin v).g F.BST_LB_STAT_PART = wordField v 1 1 := by
      rw [lbMarks, g_put_sep _ _ (by decide), g_put_sep _ _ (by decide)]
      exact g_put_self (by decide) (by decide) hpart
    have hmem : (lbMarks s.begin v).mem = s.mem := by rw [lbMarks, put_mem, put_mem, put_mem, put_mem, begin_mem]
    obtain ⟨h1, h2, h3, -, -, h6, hg⟩ := clearStart_leaves (lbMarks s.begin v) (trig := 2) (by decide)
    exact ⟨_, hrun, (hg _ (by decide) (by decide) (by decide) (by decide)).trans hres, (hg _ (by decide) (by decide) (by decide) (by decide)).trans hprt,
      h1, h2, h3, h6.trans hmem⟩
  · rw [lbCtrl_refused (s := s.begin) h0 hk hr] at hrun
    obtain ⟨h1, h2, h3, h4⟩ := lbRefuse_leaves s.begin (lbRej_lt s)
    exact ⟨_, hrun, h1, h2, h3, h4⟩

/-- The notes and the register of a memory BIST run that starts. -/
def mbMarks (s : State) (v : Word) : State := (s.withSec { s.sec with mbRet := decide (wordField v 1 1 = 1) }).put F.BST_MB_STAT_RESULT 1

theorem mbCtrl_starts (h0 : wordField v 0 0 = 1) (hk : wordField v 15 8 = 0xB5) (h2 : s.lc ≠ 2) (h4 : s.lc ≠ 4) (hi : s.bistIdle = 0) :
    s.mbCtrl v = (mbMarks s v).clearStart 4 := by
  unfold State.mbCtrl
  rw [if_pos (by simp [h0, hk]), if_neg (by simp [h2, h4, hi])]
  rfl

theorem mbist_leaves (hm : s.masterRuns m = true) (hw : s.mayWrite m 0x79 0x64 = true) (hb : s.bistRuns = false) (h0 : wordField v 0 0 = 1)
    (hk : wordField v 15 8 = 0xB5) :
    (s.lc ≠ 2 → s.lc ≠ 4 → s.bistIdle = 0 → ∃ t, exec (.mbistRequest m v) s = .next t ∧ t.g F.BST_MB_STAT_RESULT = 1 ∧ t.g F.SEC_CLR_STATE = 1
      ∧ t.g F.SEC_CLR_TRIGGER = 4 ∧ t.sec.mbRet = decide (wordField v 1 1 = 1) ∧ t.saf.padGate = true)
    ∧ (s.lc = 2 ∨ s.lc = 4 ∨ s.bistIdle ≠ 0 → ∃ t, exec (.mbistRequest m v) s = .next t ∧ t.g F.BST_MB_STAT_RESULT = 6
      ∧ s.begin.Only [F.BST_MB_STAT_RESULT] [] t) := by
  have hrun : exec (.mbistRequest m v) s = .next (s.begin.mbCtrl v) :=
    (exec_mbistRequest hm hw).trans (congrArg Host.Outcome.next (if_neg (by rw [hb]; decide)))
  refine ⟨fun h2 h4 hi => ?_, fun h => ?_⟩
  · rw [mbCtrl_starts (s := s.begin) h0 hk h2 h4 hi] at hrun
    have hres : (mbMarks s.begin v).g F.BST_MB_STAT_RESULT = 1 := g_put_room _ (by decide)
    have hret : (mbMarks s.begin v).sec.mbRet = decide (wordField v 1 1 = 1) := by rw [mbMarks, put_sec]; rfl
    obtain ⟨h1, h2, h3, h4, -, -, hg⟩ := clearStart_leaves (mbMarks s.begin v) (trig := 4) (by decide)
    exact ⟨_, hrun, (hg _ (by decide) (by decide) (by decide) (by decide)).trans hres, h1, h2, by rw [h4]; exact hret, h3⟩
  · have hrej : s.begin.mbCtrl v = s.begin.put F.BST_MB_STAT_RESULT 6 := by
      unfold State.mbCtrl
      rw [if_pos (by simp [h0, hk]), show s.begin.lc = s.lc from rfl, show s.begin.bistIdle = s.bistIdle from rfl, if_pos]
      rcases h with h | h | h <;> simp [h]
    rw [hrej] at hrun
    exact ⟨_, hrun, g_put_room _ (by decide), only_put _ (by simp) (by decide) (only_refl _ _ _)⟩

/-! ### Fuses -/

theorem fusProg_goes (h24 : wordField v 24 24 = 1) (hk : wordField v 23 16 = 0x96) :
    s.fusProg m v = s.progRequest m (wordField v 5 0) (wordField v 15 8) false := if_pos (by simp [h24, hk])

theorem progRej_lt (s : State) (m : Master) (row b : Nat) : s.progRej m row b < 16 := by
  unfold State.progRej
  dsimp only
  split_ifs <;> omega

/-- A request that is refused. -/
theorem progRefuse_leaves (s : State) {rej : Nat} (h : rej < 16) :
    (s.progRefuse rej).g F.FUS_PROG_STAT_RESULT = 3 ∧ (s.progRefuse rej).g F.FUS_PROG_STAT_REJ = rej ∧ (s.progRefuse rej).on F.FUS_EVT_PROG_REJ = true
      ∧ (rej = 3 → (s.progRefuse rej).on F.THM_EVT_FUSE_REF = true)
      ∧ s.Only [F.FUS_PROG_STAT_RESULT, F.FUS_PROG_STAT_REJ, F.FUS_EVT_PROG_REJ, F.UNIT_IRQ_STAT_EVT 0x7A, F.THM_EVT_FUSE_REF, F.UNIT_IRQ_STAT_EVT 0x04] []
        (s.progRefuse rej) := by
  let u := ((s.put F.FUS_PROG_STAT_RESULT 3).put F.FUS_PROG_STAT_REJ rej).evt F.FUS_EVT_PROG_REJ
  have h1 : u.g F.FUS_PROG_STAT_RESULT = 3 := (g_evt_sep _ (by decide) (by decide)).trans ((g_put_sep _ _ (by decide)).trans (g_put_room _ (by decide)))
  have h2 : u.g F.FUS_PROG_STAT_REJ = rej := (g_evt_sep _ (by decide) (by decide)).trans (g_put_self (by decide) (by decide) h)
  have h3 : u.on F.FUS_EVT_PROG_REJ = true := on_evt_self _ (by decide)
  have honly : s.Only [F.FUS_PROG_STAT_RESULT, F.FUS_PROG_STAT_REJ, F.FUS_EVT_PROG_REJ, F.UNIT_IRQ_STAT_EVT 0x7A, F.THM_EVT_FUSE_REF,
      F.UNIT_IRQ_STAT_EVT 0x04] [] u :=
    only_evt (by simp) (by simp [F.FUS_EVT_PROG_REJ]) (by decide) (only_put _ (by simp) (by decide) (only_put _ (by simp) (by decide) (only_refl _ _ _)))
  have hrefuse : s.progRefuse rej = if rej = 3 then u.evt F.THM_EVT_FUSE_REF else u := rfl
  clear_value u
  rw [hrefuse]
  split_ifs with hr
  · exact ⟨(g_evt_sep _ (by decide) (by decide)).trans h1, (g_evt_sep _ (by decide) (by decide)).trans h2, (on_evt_sep _ (by decide) (by decide)).trans h3,
      fun _ => on_evt_self _ (by decide), only_evt (by simp) (by simp [F.THM_EVT_FUSE_REF]) (by decide) honly⟩
  · exact ⟨h1, h2, h3, fun h => absurd h hr, honly⟩

theorem fuseProgram_leaves (hm : s.masterRuns m = true) (hw : s.mayWrite m 0x7A 0x44 = true) (h24 : wordField v 24 24 = 1) (hk : wordField v 23 16 = 0x96)
    (row b : Nat) (hrow : row = wordField v 5 0) (hbit : b = wordField v 15 8) :
    (s.progRej m row b = 0 → tbit (s.fuse row) b = false →
      ∃ t, exec (.fuseProgram m v) s = .next t ∧ t.fus = { s.fus with job := some (row, [b], false) } ∧ t.on F.FUS_STAT_BUSY = true
        ∧ t.g F.FUS_PROG_STAT_RESULT = 1 ∧ s.begin.Only [F.FUS_STAT_BUSY, F.FUS_PROG_STAT_RESULT] [.fus] t)
    ∧ (s.progRej m row b = 0 → tbit (s.fuse row) b = true →
      ∃ t, exec (.fuseProgram m v) s = .next t ∧ t.g F.FUS_PROG_STAT_RESULT = 5 ∧ s.begin.Only [F.FUS_PROG_STAT_RESULT] [] t)
    ∧ (s.progRej m row b ≠ 0 →
      ∃ t, exec (.fuseProgram m v) s = .next t ∧ t.g F.FUS_PROG_STAT_RESULT = 3 ∧ t.g F.FUS_PROG_STAT_REJ = s.progRej m row b
        ∧ t.on F.FUS_EVT_PROG_REJ = true ∧ (s.progRej m row b = 3 → t.on F.THM_EVT_FUSE_REF = true)
        ∧ s.begin.Only [F.FUS_PROG_STAT_RESULT, F.FUS_PROG_STAT_REJ, F.FUS_EVT_PROG_REJ, F.UNIT_IRQ_STAT_EVT 0x7A, F.THM_EVT_FUSE_REF,
            F.UNIT_IRQ_STAT_EVT 0x04] [] t) := by
  have hrun : exec (.fuseProgram m v) s = .next (s.begin.progRequest m row b false) := by
    rw [exec_fuseProgram hm hw, fusProg_goes h24 hk, hrow, hbit]
  have hrej : s.begin.progRej m row b = s.progRej m row b := rfl
  have hfuse : s.begin.fuse row = s.fuse row := rfl
  unfold State.progRequest at hrun
  dsimp only at hrun
  rw [hrej, hfuse] at hrun
  refine ⟨fun hr ht => ?_, fun hr ht => ?_, fun hr => ?_⟩
  · rw [if_neg (by simp [hr]), if_neg (by simp [ht])] at hrun
    obtain ⟨h1, h2, h3, h4⟩ := fuseStart_leaves s.begin row [b] false
    exact ⟨_, hrun, h1, h2, h3, h4⟩
  · rw [if_neg (by simp [hr]), if_pos ht] at hrun
    exact ⟨_, hrun, g_put_room _ (by decide), only_put _ (by simp) (by decide) (only_refl _ _ _)⟩
  · rw [if_pos hr] at hrun
    obtain ⟨h1, h2, h3, h4, h5⟩ := progRefuse_leaves s.begin (progRej_lt s m row b)
    exact ⟨_, hrun, h1, h2, h3, h4, h5⟩

/-- A bit is programmed and sensed. -/
theorem program_fuses (s : State) (row b : Nat) : (s.program row b).fus = { s.fus with rows := s.fus.rows.set row (s.fuse row ||| 2 ^ b) } :=
  within_fus (senseRows_fits (g := Foot.of [0x02, 0x40, 0x78, 0x7A, 0x80, 0x81] []) _ (by decide) (fits_refl _ _)).within rfl (by decide)

theorem program_upd (s : State) (row b : Nat) : (s.program row b).upd = s.upd :=
  within_upd (program_fits (g := Foot.of [0x02, 0x40, 0x78, 0x7A, 0x80, 0x81] [.fus]) s row b (by decide) (fits_refl _ s)).within rfl (by decide)

theorem program_fuse (s : State) {row : Nat} (b : Nat) (h : row < s.fus.rows.length) :
    (s.program row b).fuse row = s.fuse row ||| 2 ^ b ∧ ∀ r, r ≠ row → (s.program row b).fuse r = s.fuse r := by
  refine ⟨?_, fun r hr => ?_⟩
  · rw [State.fuse, program_fuses]
    show (List.set _ _ _).getD row 0 = _
    rw [List.getD_eq_getElem _ _ (by simpa using h), List.getElem_set_self]
  · rw [State.fuse, program_fuses]
    show (List.set _ _ _).getD r 0 = _
    rw [List.getD_eq_getElem?_getD, List.getElem?_set_ne hr.symm, ← List.getD_eq_getElem?_getD, ← State.fuse]

theorem shaped_fuses (h : s.shaped = true) : s.fus.rows.length = 29 := by
  simp only [State.shaped, Bool.and_eq_true] at h
  obtain ⟨⟨-, hf⟩, -⟩ := h
  simpa [Fus.shaped] using hf

/-- The last bit of a job: it is over, and reported. -/
def jobDone (s : State) (lc : Bool) : State :=
  let s := s.withFus { s.fus with job := none }
  let s := ((s.put F.FUS_STAT_BUSY 0).put F.FUS_PROG_STAT_RESULT 2).evt F.FUS_EVT_PROG_DONE
  if lc then (s.evt F.SEC_EVT_LC_CHG).event 0x7881 [b8 s.lc, b8 (lifecycle (s.fuse 0))] else s

theorem withFus_rest (s : State) (v : Fus) : (s.withFus v).fus = v ∧ (s.withFus v).mem = s.mem := ⟨rfl, rfl⟩

theorem exec_fuseDone {row : Nat} {rest : List Nat} {lc : Bool} (h : s.fus.job = some (row, b :: rest, lc)) :
    exec (.fuseProgramDone true) s = .next (if rest = [] then (jobDone (s.begin.program row b) lc).fuseWork
      else (s.begin.program row b).withFus { (s.begin.program row b).fus with job := some (row, rest, lc) })
    ∧ exec (.fuseProgramDone false) s = .next ((((s.begin.withFus { s.fus with job := none }).put F.FUS_STAT_BUSY 0).put F.FUS_PROG_STAT_RESULT 4).evt
      F.FUS_EVT_VERIFY_FAIL) := by
  have hb : s.begin.fus = s.fus := rfl
  refine ⟨?_, ?_⟩
  · show execFuseProgramDone true s = _
    unfold execFuseProgramDone
    dsimp only
    rw [hb, h]
    dsimp only
    rw [if_pos rfl]
    cases rest with
    | nil => rfl
    | cons r l => rfl
  · show execFuseProgramDone false s = _
    unfold execFuseProgramDone
    dsimp only
    rw [hb, h]
    rfl

theorem jobDone_leaves (s : State) (lc : Bool) :
    (jobDone s lc).on F.FUS_EVT_PROG_DONE = true ∧ (lc = true → (jobDone s lc).on F.SEC_EVT_LC_CHG = true) ∧ (jobDone s lc).fus = { s.fus with job := none }
      ∧ (jobDone s lc).on F.FUS_STAT_BUSY = false ∧ (jobDone s lc).g F.FUS_PROG_STAT_RESULT = 2 ∧ (jobDone s lc).upd = s.upd ∧ (jobDone s lc).mem = s.mem := by
  have hdone : ∀ u : State, (((u.put F.FUS_STAT_BUSY 0).put F.FUS_PROG_STAT_RESULT 2).evt F.FUS_EVT_PROG_DONE).on F.FUS_EVT_PROG_DONE = true
      ∧ (((u.put F.FUS_STAT_BUSY 0).put F.FUS_PROG_STAT_RESULT 2).evt F.FUS_EVT_PROG_DONE).on F.FUS_STAT_BUSY = false
      ∧ (((u.put F.FUS_STAT_BUSY 0).put F.FUS_PROG_STAT_RESULT 2).evt F.FUS_EVT_PROG_DONE).g F.FUS_PROG_STAT_RESULT = 2
      ∧ (((u.put F.FUS_STAT_BUSY 0).put F.FUS_PROG_STAT_RESULT 2).evt F.FUS_EVT_PROG_DONE).fus = u.fus
      ∧ (((u.put F.FUS_STAT_BUSY 0).put F.FUS_PROG_STAT_RESULT 2).evt F.FUS_EVT_PROG_DONE).upd = u.upd
      ∧ (((u.put F.FUS_STAT_BUSY 0).put F.FUS_PROG_STAT_RESULT 2).evt F.FUS_EVT_PROG_DONE).mem = u.mem := fun u =>
    ⟨on_evt_self _ (by decide), (on_evt_sep _ (by decide) (by decide)).trans ((on_put_sep _ _ (by decide)).trans (on_put_clear _ (by decide))),
      (g_evt_sep _ (by decide) (by decide)).trans (g_put_room _ (by decide)), (evt_fus ..).trans ((put_fus ..).trans (put_fus ..)),
      (evt_upd ..).trans ((put_upd ..).trans (put_upd ..)), (evt_mem ..).trans ((put_mem ..).trans (put_mem ..))⟩
  unfold jobDone
  extract_lets src u w
  obtain ⟨h1, h2, h3, h4, h5, h6⟩ := hdone u
  have hufus : u.fus = { s.fus with job := none } := rfl
  have huupd : u.upd = s.upd := rfl
  have humem : u.mem = s.mem := rfl
  change w.on _ = _ at h1
  change w.on _ = _ at h2
  change w.g _ = _ at h3
  change w.fus = _ at h4
  change w.upd = _ at h5
  change w.mem = _ at h6
  clear_value w u
  have hfits : (w.evt F.SEC_EVT_LC_CHG).Fits (Foot.of [0x70, 0x71] [.evr]) ((w.evt F.SEC_EVT_LC_CHG).event 0x7881 [b8 w.lc, b8 (lifecycle (w.fuse 0))]) :=
    event_fits _ _ _ (le_self _) (fits_refl _ _)
  split_ifs with hlc
  · refine ⟨?_, fun _ => ?_, ?_, ?_, ?_, ?_, ?_⟩
    · rw [on_congr (event_g _ _ _ (by decide)), on_evt_sep _ (by decide) (by decide), h1]
    · rw [on_congr (event_g _ _ _ (by decide)), on_evt_self _ (by decide)]
    · rw [within_fus hfits.within rfl rfl, evt_fus, h4, hufus]
    · rw [on_congr (event_g _ _ _ (by decide)), on_evt_sep _ (by decide) (by decide), h2]
    · rw [event_g _ _ _ (by decide), g_evt_sep _ (by decide) (by decide), h3]
    · rw [within_upd hfits.within rfl rfl, evt_upd, h5, huupd]
    · rw [within_mem hfits.within rfl rfl, evt_mem, h6, humem]
  · exact ⟨h1, fun h => absurd h hlc, h4.trans hufus, h2, h3, h5.trans huupd, h6.trans humem⟩

/-- What the work on pending fuses leaves: the rows, and with none pending the job. -/
theorem fuseWork_leaves (s : State) :
    s.fuseWork.fus.rows = s.fus.rows ∧ s.fuseWork.mem = s.mem ∧ (∀ y : Fld, groupPage y.page ≠ 0x7A → groupPage y.page ≠ 0x80 → s.fuseWork.g y = s.g y)
      ∧ s.fuseWork.on F.FUS_EVT_PROG_DONE = s.on F.FUS_EVT_PROG_DONE ∧ (s.upd.fusePend = none → s.fuseWork = s.put F.UPD_STAT_FUSE_PEND 0) := by
  have hfits := fuseWork_fits s (le_self _) (fits_refl _ s)
  have hrows : s.fuseWork.fus.rows = s.fus.rows ∧ s.fuseWork.on F.FUS_EVT_PROG_DONE = s.on F.FUS_EVT_PROG_DONE := by
    have hput : ∀ k, (s.put F.UPD_STAT_FUSE_PEND k).fus.rows = s.fus.rows ∧ (s.put F.UPD_STAT_FUSE_PEND k).on F.FUS_EVT_PROG_DONE = s.on F.FUS_EVT_PROG_DONE :=
      fun k => ⟨congrArg Fus.rows (put_fus s F.UPD_STAT_FUSE_PEND k), on_put_sep _ _ (by decide)⟩
    have hstart : ∀ (u : State) row bits lc, (u.fuseStart row bits lc).fus.rows = u.fus.rows ∧ (u.fuseStart row bits lc).on F.FUS_EVT_PROG_DONE = u.on F.FUS_EVT_PROG_DONE :=
      fun u row bits lc => by
        obtain ⟨h1, -, -, honly⟩ := fuseStart_leaves u row bits lc
        exact ⟨by rw [h1], only_on honly (by decide)⟩
    unfold State.fuseWork
    split
    · exact hput 0
    · split
      · exact ⟨(congrArg Fus.rows (withUpd_fus ..)).trans (hput 0).1, (withUpd_on ..).trans (hput 0).2⟩
      · extract_lets w
        split_ifs
        · exact ⟨(hstart _ _ _ _).1.trans (hput 1).1, (hstart _ _ _ _).2.trans (hput 1).2⟩
        · exact hput 1
  refine ⟨hrows.1, within_mem hfits.within rfl (by decide), fun y h1 h2 => fits_g hfits rfl (by simp [Foot.of, h1, h2]), hrows.2, fun h => ?_⟩
  unfold State.fuseWork
  rw [h]

/-- A bit that programs well, and one that does not. -/
theorem fuseDone_leaves {row : Nat} {rest : List Nat} {lc : Bool} (h : s.fus.job = some (row, b :: rest, lc)) (hrow : row < 29) (hs : s.shaped = true) :
    (∃ t, exec (.fuseProgramDone true) s = .next t ∧ t.fuse row = s.fuse row ||| 2 ^ b ∧ (∀ r, r ≠ row → t.fuse r = s.fuse r)
      ∧ (rest ≠ [] → t.fus.job = some (row, rest, lc))
      ∧ (rest = [] → t.on F.FUS_EVT_PROG_DONE = true ∧ (lc = true → t.on F.SEC_EVT_LC_CHG = true)
          ∧ (s.upd.fusePend = none → t.fus.job = none ∧ t.on F.FUS_STAT_BUSY = false ∧ t.g F.FUS_PROG_STAT_RESULT = 2)) ∧ t.mem = s.mem)
    ∧ (∃ t, exec (.fuseProgramDone false) s = .next t ∧ t.fus = { s.fus with job := none } ∧ t.on F.FUS_STAT_BUSY = false
      ∧ t.g F.FUS_PROG_STAT_RESULT = 4 ∧ t.on F.FUS_EVT_VERIFY_FAIL = true
      ∧ s.begin.Only [F.FUS_STAT_BUSY, F.FUS_PROG_STAT_RESULT, F.FUS_EVT_VERIFY_FAIL, F.UNIT_IRQ_STAT_EVT 0x7A] [.fus] t) := by
  obtain ⟨hgood, hbad⟩ := exec_fuseDone h
  refine ⟨?_, ?_⟩
  · obtain ⟨hthis, hother⟩ := program_fuse s.begin b (row := row) (by rw [begin_fus, shaped_fuses hs]; exact hrow)
    have hupd : (s.begin.program row b).upd = s.upd := program_upd s.begin row b
    have hmem : (s.begin.program row b).mem = s.mem :=
      (within_mem (program_fits (g := Foot.of [0x02, 0x40, 0x78, 0x7A, 0x80, 0x81] [.fus]) s.begin row b (by decide) (fits_refl _ _)).within rfl (by decide)).trans (begin_mem s)
    generalize s.begin.program row b = u at hgood hthis hother hupd hmem
    have hfuse : ∀ t : State, t.fus.rows = u.fus.rows → ∀ r, t.fuse r = u.fuse r := fun t ht r => by rw [State.fuse, ht, ← State.fuse]
    by_cases hr : rest = []
    · rw [if_pos hr] at hgood
      obtain ⟨h1, h2, h3, h4, h5, h6, h7⟩ := jobDone_leaves u lc
      obtain ⟨hw1, hw2, hw3, hw4, hw5⟩ := fuseWork_leaves (jobDone u lc)
      have hrows : (jobDone u lc).fuseWork.fus.rows = u.fus.rows := hw1.trans (by rw [h3])
      refine ⟨_, hgood, (hfuse _ hrows row).trans hthis, fun r hne => (hfuse _ hrows r).trans (hother r hne), fun hne => absurd hr hne,
        fun _ => ⟨hw4.trans h1, fun hl => (on_congr (hw3 _ (by decide) (by decide))).trans (h2 hl), fun hp => ?_⟩, hw2.trans (h7.trans hmem)⟩
      rw [hw5 (by rw [h6, hupd]; exact hp), put_fus, h3]
      exact ⟨rfl, (on_put_sep _ _ (by decide)).trans h4, (g_put_sep _ _ (by decide)).trans h5⟩
    · rw [if_neg hr] at hgood
      obtain ⟨hf, hm⟩ := withFus_rest u { u.fus with job := some (row, rest, lc) }
      have hrows : (u.withFus { u.fus with job := some (row, rest, lc) }).fus.rows = u.fus.rows := by rw [hf]
      exact ⟨_, hgood, (hfuse _ hrows row).trans hthis, fun r hne => (hfuse _ hrows r).trans (hother r hne), fun _ => congrArg Fus.job hf,
        fun he => absurd he hr, hm.trans hmem⟩
  · refine ⟨_, hbad, ?_, ?_, ?_, on_evt_self _ (by decide), ?_⟩
    · exact (evt_fus ..).trans ((put_fus ..).trans ((put_fus ..).trans (withFus_rest ..).1))
    · exact (on_evt_sep _ (by decide) (by decide)).trans ((on_put_sep _ _ (by decide)).trans (on_put_clear _ (by decide)))
    · exact (g_evt_sep _ (by decide) (by decide)).trans (g_put_room _ (by decide))
    · exact only_evt (by simp) (by simp [F.FUS_EVT_VERIFY_FAIL]) (by decide) (only_put _ (by simp) (by decide) (only_put _ (by simp) (by decide)
        (only_withFus (by simp) (only_refl _ _ _))))

/-- Settles O48: lifecycle requests, the end of the clear, self-test requests, and fuses. -/
theorem secretsTestsAndFuses : Obligations.SecretsTestsAndFuses := by
  refine ⟨fun s m v b hm hw hwho hk ha h4 => ⟨fun h => ?_, fun hlc ht hb hf hr he => ?_, fun hlc ht hb hrow hf hr he => ?_⟩, fun s m v hm hw h => ?_,
    fun s hc => ⟨?_, ?_⟩, fun s ok h => ?_, fun s m v hm hw hb h0 hk => lbist_leaves hm hw hb h0 hk, fun s m v hm hw hb h0 hk => mbist_leaves hm hw hb h0 hk,
    fun s m v hm hw h => ?_, fun s m v hm hw h => ?_, fun s m v hm hw h24 hk => ?_, fun s m v hm hw h => ?_,
    fun s row b rest lc h hrow hs => fuseDone_leaves h hrow hs, fun s ok h => ?_⟩
  · exact (lcRequest_leaves hm hw hwho hk ha h4).1 h
  · refine (lcRequest_leaves hm hw hwho hk ha h4).2 b ?_ ?_ (he ▸ hr)
    · simp [lcBad, hb, hlc]
    · rw [ht, hf, he]
      decide
  · have hrows : (s.rowSet 8 && s.rowSet 12 && s.rowSet 16 && s.rowSet 7) = true := by
      simp only [hrow 8 (by simp), hrow 12 (by simp), hrow 16 (by simp), hrow 7 (by simp)]
      rfl
    obtain ⟨t, h1, h2, h3, -⟩ := (lcRequest_leaves hm hw hwho hk ha h4).2 b (by simp [lcBad, hb, hlc, ht, hrows]) (by rw [ht, hf, he]; decide) (he ▸ hr)
    exact ⟨t, h1, h2, h3⟩
  · exact (exec_lcRequest hm hw).trans (congrArg Host.Outcome.next (lcReq_rests (s := s.begin) h))
  · have hclr := cleared_leaves s.begin
    have hv := clearOk_leaves (cleared s.begin)
    have hrun := (exec_clearDone true hc).trans (congrArg Host.Outcome.next (if_pos rfl))
    have hmem : (cleared s.begin).clearOk.mem = s.mem.filter (fun e => !secret e.1) :=
      (within_mem (clearOk_fits _ (le_self _) (fits_refl _ _)).within rfl (by decide)).trans hclr.mem
    have htrig : (cleared s.begin).g F.SEC_CLR_TRIGGER = s.g F.SEC_CLR_TRIGGER := (hclr.rest _ (by decide)).trans (begin_g ..)
    refine ⟨_, hrun, hv.state, fun a => ?_, ?_, hv.time.trans hclr.time, fun h => hv.scan (htrig.trans h), fun h => hv.debug (htrig.trans h), fun h => ?_⟩
    · rw [State.byte, hmem, filtered_byte, ← State.byte]
    · rw [hv.vault, hclr.sec]
    · exact (hv.lbist (htrig.trans h)).trans ((hclr.rest _ (by decide)).trans (begin_g ..))
  · have hclr := cleared_leaves s.begin
    have hv := clearBad_leaves (cleared s.begin)
    have hrun := (exec_clearDone false hc).trans (congrArg Host.Outcome.next (if_neg (by decide)))
    have htrig : (cleared s.begin).g F.SEC_CLR_TRIGGER = s.g F.SEC_CLR_TRIGGER := (hclr.rest _ (by decide)).trans (begin_g ..)
    have hlev : (cleared s.begin).defLevel S.BST_FAIL = s.defLevel S.BST_FAIL := by
      rw [State.defLevel, State.defLevel, on_congr (hclr.rest F.FLT_CTRL_MODE (by decide)), hclr.rest (fltSev S.BST_FAIL) (by decide), begin_on, begin_g]
    refine ⟨_, hrun, hv.state, hv.event, ?_, fun hd => hv.pend (hlev.symm ▸ hd), ?_, ?_, fun h => hv.lbist (htrig.trans h), fun h => hv.mbist (htrig.trans h)⟩
    · rw [hv.sec, hclr.sec]
    · rw [hv.sec, hclr.sec]
      rfl
    · rw [hv.sec, hclr.sec]
      rfl
  · exact congrArg Host.Outcome.next (if_neg h)
  · rw [exec_lbistStart hm hw]
    refine congrArg Host.Outcome.next ?_
    split_ifs with hb
    · rfl
    · refine if_neg ?_
      rcases h with h | h | h
      · exact absurd h hb
      · simp [h]
      · simp [h]
  · rw [exec_mbistRequest hm hw]
    refine congrArg Host.Outcome.next ?_
    split_ifs with hb
    · rfl
    · refine if_neg ?_
      rcases h with h | h | h
      · exact absurd h hb
      · simp [h]
      · simp [h]
  · intro row b
    exact fuseProgram_leaves hm hw h24 hk row b rfl rfl
  · refine (exec_fuseProgram hm hw).trans (congrArg Host.Outcome.next (if_neg ?_))
    rcases h with h | h <;> simp [h]
  · have hb : s.begin.fus.job = none := h
    show execFuseProgramDone ok s = _
    unfold execFuseProgramDone
    dsimp only
    rw [hb]

end Sys2Proof.Proofs.SecretsAndFuses
end

section
/-! PROOF. The housekeeping round (Housekeeping). -/

namespace Sys2Proof.Proofs.ThermalRounds

open Sys2Proof.Machine Sys2Proof.Laws Sys2Proof.Proofs.Architecture Sys2Proof.Proofs.Reading Sys2Proof.Proofs.GovernorSums
  Sys2Proof.Proofs.PendingFaults Sys2Proof.Proofs.LampReactions Sys2Proof.Proofs.Commits Sys2Proof.Proofs.FrameDeferral Sys2Proof.Proofs.GlareBands
  Sys2Proof.Proofs.FlintLockOut Sys2Proof.Proofs.SafetyIns Sys2Proof.Proofs.SegmentLine Sys2Proof.Proofs.FaultWrites Sys2Proof.Proofs.PageCommits Sys2Proof.Proofs.BlockResets
  Sys2Proof.Proofs.FrameFlips

variable {s t u v : State} {f x : Fld} {n : Nat}

/-! ### The start of a round, and none -/

theorem exec_roundStart (h : s.roundRuns = true) (hr : s.thm.round = none) :
    exec .housekeepingRoundStart s = .next (s.begin.withThm { s.thm with round := some s.now }) :=
  congrArg Host.Outcome.next (if_pos (by rw [show s.begin.roundRuns = s.roundRuns from rfl, show s.begin.thm = s.thm from rfl, h, hr]; rfl))

theorem exec_roundStart_rests (h : s.roundRuns = false ∨ s.thm.round ≠ none) : exec .housekeepingRoundStart s = .next s.begin := by
  refine congrArg Host.Outcome.next (if_neg ?_)
  rw [show s.begin.roundRuns = s.roundRuns from rfl, show s.begin.thm = s.thm from rfl, Bool.and_eq_true]
  rintro ⟨hr, hn⟩
  rcases h with h | h
  · exact absurd (hr.symm.trans h) (by decide)
  · exact h (Option.isNone_iff_eq_none.1 hn)

/-! ### What waits in THM -/

/-- The round, the history and the conditions stand; what waits for the flash window may change. -/
structure ThmStands (s t : State) : Prop where
  rests : t.thm = { s.thm with deferred := t.thm.deferred }

namespace ThmStands

theorem of_eq (h : t.thm = s.thm) : ThmStands s t := ⟨by rw [h]⟩

theorem trans (h : ThmStands s t) (k : ThmStands t u) : ThmStands s u := ⟨by rw [k.rests, h.rests]⟩

theorem fields (h : ThmStands s t) : t.thm.round = s.thm.round ∧ t.thm.firstDue = s.thm.firstDue ∧ t.thm.hist = s.thm.hist ∧ t.thm.warn = s.thm.warn
    ∧ t.thm.stop = s.thm.stop := by
  rw [h.rests]
  exact ⟨rfl, rfl, rfl, rfl, rfl⟩

end ThmStands

theorem withThm_thm (s : State) (v : Thm) : (s.withThm v).thm = v := rfl

theorem defer_stands (s : State) (d : Deferred) : ThmStands s (s.defer d) := ⟨rfl⟩

theorem checkpointFlash_stands (s : State) : ThmStands s s.checkpointFlash := by
  unfold State.checkpointFlash
  split_ifs
  · exact .of_eq (withEvr_thm ..)
  · exact defer_stands s _

theorem setBytes_thm (s : State) (a : Nat) (b : List Byte) : (s.setBytes a b).thm = s.thm :=
  within_thm (setBytes_fits (f := Foot.of [] [.mem]) (s0 := s) a b (by decide) (fits_refl _ s)).within rfl rfl

theorem retry_stands (s : State) (d : Deferred) : ThmStands s (s.retry d) := by
  cases d with
  | epoch =>
    show ThmStands s s.saveEpoch
    unfold State.saveEpoch
    split_ifs
    · exact .of_eq ((put_thm ..).trans (setBytes_thm ..))
    · exact defer_stands s _
  | journal =>
    show ThmStands s s.journalFlash
    unfold State.journalFlash
    split_ifs
    · exact .of_eq ((withRst_thm ..).trans (setBytes_thm ..))
    · exact defer_stands s _
  | mirror => exact .of_eq (within_thm (mirrorPage_fits s s.evr.waiting.length (le_self _) (fits_refl _ s)).within rfl rfl)
  | checkpoint => exact checkpointFlash_stands s
  | flux =>
    show ThmStands s s.writeFluxRecord
    unfold State.writeFluxRecord
    split_ifs
    · exact .of_eq (withFlx_thm ..)
    · exact defer_stands s _
  | update => exact .of_eq rfl
  | settings =>
    show ThmStands s (s.saveSettings (s.g F.UPD_SET_FMT))
    unfold State.saveSettings
    split
    · exact .of_eq (withUpd_thm ..)
    · exact defer_stands s _

theorem retryAll_stands (s : State) : ThmStands s s.retryAll := by
  unfold State.retryAll
  exact List.foldlRecOn (motive := fun u : State => ThmStands s u) _ _ ⟨rfl⟩ (fun u hu d _ => hu.trans (retry_stands u d))

/-! ### The sensors -/

/-- Temperature of sensor n for a code, where its trim points differ. -/
def trimmed (s : State) (codes : List Nat) (n : Nat) : Int :=
  s.thsTrim n 0 + Int.fdiv (((codes.getD n 0 : Nat) - s.thsTrim n 1) * (s.thsTrim n 2 - s.thsTrim n 0)) (s.thsTrim n 3 - s.thsTrim n 1)

def dieFields : List Fld := (List.range 4).flatMap (fun n => [F.THM_DIE_TEMP n, F.THM_DIE_CODE n, F.THM_DIE_VALID n])

/-- The reading of sensor n stands in its register. -/
structure Sensed (s : State) (codes : List Nat) (n : Nat) (t : State) : Prop where
  temp : t.g (F.THM_DIE_TEMP n) = unsigned 16 (trimmed s codes n)
  code : t.g (F.THM_DIE_CODE n) = codes.getD n 0
  valid : t.on (F.THM_DIE_VALID n) = readingOk (codes.getD n 0) (trimmed s codes n)

theorem thsTrim_congr (h : t.fus = s.fus) (n k : Nat) : t.thsTrim n k = s.thsTrim n k := by
  unfold State.thsTrim State.fuse
  rw [h]

theorem trimmed_congr (h : t.fus = s.fus) (codes : List Nat) (n : Nat) : trimmed t codes n = trimmed s codes n := by
  simp only [trimmed, thsTrim_congr h]

theorem readSensor_eq (codes : List Nat) (h : s.thsTrim n 3 ≠ s.thsTrim n 1) :
    s.readSensor codes n = ((s.put (F.THM_DIE_TEMP n) (unsigned 16 (trimmed s codes n))).put (F.THM_DIE_CODE n) (codes.getD n 0)).put (F.THM_DIE_VALID n)
      (bit (readingOk (codes.getD n 0) (trimmed s codes n))) := by
  have hd : s.thsTrim n 3 - s.thsTrim n 1 ≠ 0 := sub_ne_zero.2 h
  unfold State.readSensor State.sensorTemp
  dsimp only
  rw [if_neg hd]
  rfl

theorem die_seps (h : n < 4) : sep (F.THM_DIE_CODE n) (F.THM_DIE_TEMP n) = true ∧ sep (F.THM_DIE_VALID n) (F.THM_DIE_TEMP n) = true
    ∧ sep (F.THM_DIE_VALID n) (F.THM_DIE_CODE n) = true ∧ (F.THM_DIE_TEMP n) ∈ dieFields ∧ (F.THM_DIE_CODE n) ∈ dieFields ∧ (F.THM_DIE_VALID n) ∈ dieFields :=
  (by decide : ∀ n < 4, sep (F.THM_DIE_CODE n) (F.THM_DIE_TEMP n) = true ∧ sep (F.THM_DIE_VALID n) (F.THM_DIE_TEMP n) = true
    ∧ sep (F.THM_DIE_VALID n) (F.THM_DIE_CODE n) = true ∧ (F.THM_DIE_TEMP n) ∈ dieFields ∧ (F.THM_DIE_CODE n) ∈ dieFields ∧ (F.THM_DIE_VALID n) ∈ dieFields) n h


theorem readSensor_only (codes : List Nat) (hn : n < 4) (h : s.thsTrim n 3 ≠ s.thsTrim n 1) : s.Only dieFields [] (s.readSensor codes n) := by
  obtain ⟨-, -, -, h1, h2, h3⟩ := die_seps hn
  rw [readSensor_eq codes h]
  exact only_put _ h3 (by simp [F.THM_DIE_VALID]) (only_put _ h2 (by simp [F.THM_DIE_CODE]) (only_put _ h1 (by simp [F.THM_DIE_TEMP]) (only_refl _ _ s)))

theorem readSensor_sensed (codes : List Nat) (hn : n < 4) (h : s.thsTrim n 3 ≠ s.thsTrim n 1) (hc : codes.getD n 0 < 4096) :
    Sensed s codes n (s.readSensor codes n) := by
  obtain ⟨h1, h2, h3, -, -, -⟩ := die_seps hn
  rw [readSensor_eq codes h]
  refine ⟨?_, ?_, on_put_bit _ _ rfl rfl⟩
  · rw [g_put_sep _ _ h2, g_put_sep _ _ h1]
    exact g_put_room _ (decide_eq_true (unsigned_lt _))
  · rw [g_put_sep _ _ h3]
    exact g_put_room _ (decide_eq_true hc)

/-- The four sensors of a round. -/
def readAll (s : State) (codes : List Nat) : State := (List.range 4).foldl (fun s n => s.readSensor codes n) s

theorem readAll_only (s : State) (codes : List Nat) (h : ∀ n, n < 4 → s.thsTrim n 3 ≠ s.thsTrim n 1) : s.Only dieFields [] (readAll s codes) :=
  only_foldl _ _ (fun n hn u hu => only_trans hu (readSensor_only codes (List.mem_range.1 hn)
    (by rw [thsTrim_congr (hu.parts.fus (by decide)), thsTrim_congr (hu.parts.fus (by decide))]; exact h n (List.mem_range.1 hn)))) (only_refl _ _ s)


/-- The registers of two sensors do not meet. -/
theorem die_apart (hn : n < 4) (hb : b < 4) (h : b ≠ n) : ∀ x ∈ [F.THM_DIE_TEMP b, F.THM_DIE_CODE b, F.THM_DIE_VALID b],
    ∀ y ∈ [F.THM_DIE_TEMP n, F.THM_DIE_CODE n, F.THM_DIE_VALID n], sep x y = true :=
  (by decide : ∀ n < 4, ∀ b < 4, b ≠ n → ∀ x ∈ [F.THM_DIE_TEMP b, F.THM_DIE_CODE b, F.THM_DIE_VALID b],
    ∀ y ∈ [F.THM_DIE_TEMP n, F.THM_DIE_CODE n, F.THM_DIE_VALID n], sep x y = true) n hn b hb h

theorem readSensor_other (codes : List Nat) (hn : n < 4) (hb : b < 4) (h : s.thsTrim b 3 ≠ s.thsTrim b 1) (hne : b ≠ n) :
    ∀ y ∈ [F.THM_DIE_TEMP n, F.THM_DIE_CODE n, F.THM_DIE_VALID n], (s.readSensor codes b).g y = s.g y := fun y hy => by
  have hs := fun x hx => die_apart hn hb hne x hx y hy
  rw [readSensor_eq codes h, g_put_sep _ _ (hs _ (by simp)), g_put_sep _ _ (hs _ (by simp)), g_put_sep _ _ (hs _ (by simp))]

theorem readAll_sensed {codes : List Nat} (h : ∀ n, n < 4 → s.thsTrim n 3 ≠ s.thsTrim n 1) (hn : n < 4) (hc : codes.getD n 0 < 4096) :
    Sensed s codes n (readAll s codes) := by
  have hfus : ∀ b < 4, ∀ u : State, u.fus = s.fus → u.thsTrim b 3 ≠ u.thsTrim b 1 := fun b hb u hu => by
    rw [thsTrim_congr hu, thsTrim_congr hu]
    exact h b hb
  have hkeep : ∀ b < 4, ∀ u : State, u.fus = s.fus → (u.readSensor codes b).fus = s.fus := fun b hb u hu =>
    ((readSensor_only codes hb (hfus b hb u hu)).parts.fus (by decide)).trans hu
  have hrun : Sensed s codes n (readAll s codes) ∧ (readAll s codes).fus = s.fus := by
    refine foldl_visit (P := fun u => u.fus = s.fus) (Q := fun u => Sensed s codes n u ∧ u.fus = s.fus) (List.range 4) List.nodup_range
      (List.mem_range.2 hn) (fun b hb _ u hu => hkeep b (List.mem_range.1 hb) u hu) (fun u hu => ⟨?_, hkeep n hn u hu⟩) (fun b hb hne u hu => ?_) rfl
    · obtain ⟨h1, h2, h3⟩ := readSensor_sensed codes hn (hfus n hn u hu) hc
      rw [trimmed_congr hu] at h1 h3
      exact ⟨h1, h2, h3⟩
    · obtain ⟨⟨h1, h2, h3⟩, huf⟩ := hu
      have ho := readSensor_other codes hn (List.mem_range.1 hb) (hfus b (List.mem_range.1 hb) u huf) hne
      exact ⟨⟨(ho _ (by simp)).trans h1, (ho _ (by simp)).trans h2, (on_congr (ho _ (by simp))).trans h3⟩, hkeep b (List.mem_range.1 hb) u huf⟩
  exact hrun.1

/-! ### The hottest and the coldest -/

theorem foldl_max_eq {α : Type} [LinearOrder α] {f : Nat → α} {d : α} (l : List Nat) : ∀ {a : α}, a ≤ d → (∀ k ∈ l, f k ≤ d) → (a = d ∨ ∃ k ∈ l, f k = d) →
    l.foldl (fun m k => max m (f k)) a = d := by
  induction l with
  | nil =>
    intro a _ _ h
    rcases h with h | ⟨k, hk, -⟩
    · exact h
    · exact absurd hk List.not_mem_nil
  | cons k l ih =>
    intro a ha hl h
    refine ih (max_le ha (hl k List.mem_cons_self)) (fun j hj => hl j (List.mem_cons_of_mem _ hj)) ?_
    rcases h with rfl | ⟨j, hj, hd⟩
    · exact .inl (max_eq_left (hl k List.mem_cons_self))
    · rcases List.mem_cons.1 hj with rfl | hj
      · exact .inl ((congrArg (max a) hd).trans (max_eq_right ha))
      · exact .inr ⟨j, hj, hd⟩

theorem foldl_min_eq {f : Nat → Int} {d a : Int} (l : List Nat) (ha : d ≤ a) (hl : ∀ k ∈ l, d ≤ f k) (h : a = d ∨ ∃ k ∈ l, f k = d) :
    l.foldl (fun m k => min m (f k)) a = d :=
  foldl_max_eq (α := Intᵒᵈ) l ha hl h

theorem dieTemps_of {die cold : Int} (hd : die ∈ s.goodSensors.map s.dieT) (hd' : ∀ k ∈ s.goodSensors, s.dieT k ≤ die)
    (hc : cold ∈ s.goodSensors.map s.dieT) (hc' : ∀ k ∈ s.goodSensors, cold ≤ s.dieT k) :
    ∃ hot, s.dieTemps = (die, cold, hot, s.withFresh (s.fresh + 1)) := by
  unfold State.dieTemps
  generalize hg : s.goodSensors = good at *
  cases good with
  | nil => simp at hd
  | cons k l =>
    obtain ⟨i, hi, hdi⟩ := List.mem_map.1 hd
    obtain ⟨j, hj, hcj⟩ := List.mem_map.1 hc
    have hmax : (k :: l).foldl (fun m i => max m (s.dieT i)) (s.dieT k) = die :=
      foldl_max_eq (k :: l) (hd' k List.mem_cons_self) hd' (.inr ⟨i, hi, hdi⟩)
    have hmin : (k :: l).foldl (fun m i => min m (s.dieT i)) (s.dieT k) = cold :=
      foldl_min_eq (k :: l) (hc' k List.mem_cons_self) hc' (.inr ⟨j, hj, hcj⟩)
    exact ⟨_, Prod.ext hmax (Prod.ext hmin rfl)⟩


/-! ### The readings, and the report of sensors that fail -/

/-- A field of THM that no fault of the unit writes. -/
def thmField (f : Fld) : Bool := quietField f && f.page == 0x04

theorem thmField_iff : thmField f = true ↔ quietField f = true ∧ f.page = 0x04 := by simp [thmField]

theorem detect_thm (s : State) (pages : List Nat) (i inst addr : Nat) (inj : Bool) (h : thmField f = true) : (s.detect pages i inst addr inj).g f = s.g f := by
  obtain ⟨hq, hp⟩ := thmField_iff.1 h
  unfold State.detect
  exact ite_g (fun _ => fits_g (conseq_fits s i inst addr (le_self _) (fits_refl _ s)) rfl (by rw [hp]; decide)) (fun _ => raiseWith_g s i inst addr inj false hq)

/-- The sensors of a round are read, and too few of them reported. -/
def sensed (s : State) (codes : List Nat) : State :=
  let r := readAll s codes
  let w := r.put F.THM_STAT_VALID (r.goodSensors.foldl (fun v n => v + 2 ^ n) 0)
  if r.goodSensors.length < 2 then (w.evt F.THM_EVT_SENS_INV).detect [0x04] S.THM_ADC 0 0 false else w

def sensedFields : List Fld := F.THM_STAT_VALID :: F.THM_EVT_SENS_INV :: F.UNIT_IRQ_STAT_EVT 0x04 :: dieFields

theorem sensed_fits (s : State) (codes : List Nat) : s.Fits (Foot.of [0x00, 0x02, 0x04, 0x40, 0x50, 0x68, 0x70, 0x71] [.flt, .evr, .saf, .lanes, .fresh]) (sensed s codes) := by
  have hread : s.Fits (Foot.of [0x00, 0x02, 0x04, 0x40, 0x50, 0x68, 0x70, 0x71] [.flt, .evr, .saf, .lanes, .fresh]) (readAll s codes) :=
    fits_foldl _ _ (fun n _ u hu => readSensor_fits u codes n (by decide) hu) (fits_refl _ s)
  unfold sensed
  dsimp only
  split
  · exact detect_fits _ _ _ _ _ _ rfl (by decide) (evt_fits rfl (put_fits _ rfl hread))
  · exact put_fits _ rfl hread

/-- The fields that the report of sensors writes after their reading. -/
def validFields : List Fld := [F.THM_STAT_VALID, F.THM_EVT_SENS_INV, F.UNIT_IRQ_STAT_EVT 0x04]

theorem sensed_tail (s : State) (codes : List Nat) (h : thmField f = true) (hc : clear validFields f = true) : (sensed s codes).g f = (readAll s codes).g f := by
  simp only [validFields, clear, List.all_cons, List.all_nil, Bool.and_true, Bool.and_eq_true] at hc
  obtain ⟨hv, he, hi⟩ := hc
  unfold sensed
  dsimp only
  refine ite_g (fun _ => ?_) (fun _ => g_put_other _ _ _ _ (by decide) hv)
  exact (detect_thm _ _ _ _ _ _ h).trans ((g_evt_other _ _ _ (by decide) he hi).trans (g_put_other _ _ _ _ (by decide) hv))

theorem sensed_thm (s : State) (codes : List Nat) : (sensed s codes).thm = s.thm := within_thm (sensed_fits s codes).within rfl rfl

/-- The readings of a round: every sensor's, and the valid ones among them. -/
theorem sensed_sensors {codes : List Nat} (h : ∀ n, n < 4 → s.thsTrim n 3 ≠ s.thsTrim n 1) (hc : ∀ n, n < 4 → codes.getD n 0 < 4096) :
    (∀ n, n < 4 → Sensed s codes n (sensed s codes))
      ∧ (sensed s codes).goodSensors = (List.range 4).filter (fun n => readingOk (codes.getD n 0) (trimmed s codes n))
      ∧ (∀ n ∈ (sensed s codes).goodSensors, (sensed s codes).dieT n = trimmed s codes n) := by
  have hkeep : ∀ n < 4, ∀ y ∈ [F.THM_DIE_TEMP n, F.THM_DIE_CODE n, F.THM_DIE_VALID n], (sensed s codes).g y = (readAll s codes).g y := fun n hn y hy => by
    obtain ⟨h1, h2⟩ := (by decide : ∀ n < 4, ∀ y ∈ [F.THM_DIE_TEMP n, F.THM_DIE_CODE n, F.THM_DIE_VALID n],
      thmField y = true ∧ clear validFields y = true) n hn y hy
    exact sensed_tail s codes h1 h2
  have hall : ∀ n, n < 4 → Sensed s codes n (sensed s codes) := fun n hn => by
    obtain ⟨h1, h2, h3⟩ := readAll_sensed h hn (hc n hn)
    exact ⟨(hkeep n hn _ (by simp)).trans h1, (hkeep n hn _ (by simp)).trans h2, (on_congr (hkeep n hn _ (by simp))).trans h3⟩
  have hgood : (sensed s codes).goodSensors = (List.range 4).filter (fun n => readingOk (codes.getD n 0) (trimmed s codes n)) :=
    List.filter_congr (fun n hn => (hall n (List.mem_range.1 hn)).valid)
  refine ⟨hall, hgood, fun n hn => ?_⟩
  rw [hgood, List.mem_filter, List.mem_range] at hn
  obtain ⟨hn, hok⟩ := hn
  rw [State.dieT, (hall n hn).temp]
  simp only [readingOk, Bool.and_eq_true, decide_eq_true_eq] at hok
  unfold signed unsigned
  split_ifs <;> omega


/-! ### What a kept round shows -/

/-- The report of the hottest and the coldest, before the rate. -/
def reported (s : State) (die cold : Int) (hot : Nat) : State :=
  ((s.put F.THM_HOT_MAX (unsigned 16 die)).put F.THM_HOT_MIN (unsigned 16 cold)).put F.THM_STAT_HOT hot

/-- Peak, rate and history. -/
def dated (s : State) (die : Int) : State :=
  let w := ((s.peak die).reportRise die).put F.THM_STAT_RISE_ACT (bit (s.rateHolds die))
  w.withThm { w.thm with hist := (die :: w.thm.hist).take 1001 }

/-- The windows for flash and fuses. -/
def windowed (s : State) (die cold : Int) : State :=
  let w := s.flashWindow cold die
  (w.put F.THM_STAT_FUSE_OK (bit (inWindow (w.on F.THM_STAT_FUSE_OK) cold die (-20) 85))).fuseWork

/-- The warning, the stop and the level. -/
def judged (s : State) (die : Int) (rate : Bool) (hot : Nat) : State := ((s.warnStep die rate).stopStep die rate hot).thmLevel

theorem thermalRound_eq {codes : List Nat} {die cold : Int} {hot : Nat} (h : (sensed s codes).dieTemps = (die, cold, hot, u)) :
    s.thermalRound codes = (judged (windowed (dated (reported u die cold hot) die) die cold) die ((reported u die cold hot).rateHolds die) hot).trimRound die := by
  unfold State.thermalRound
  extract_lets r good v w
  have hw : w = sensed s codes := rfl
  rw [hw, h]
  rfl

theorem rateHolds_congr (hh : t.thm.hist = s.thm.hist) (hm : t.g F.THM_CTRL_ROUND_MS = s.g F.THM_CTRL_ROUND_MS) (hr : t.g F.THM_LIM_RISE = s.g F.THM_LIM_RISE)
    (die : Int) : t.rateHolds die = s.rateHolds die := by
  unfold State.rateHolds
  rw [hh, hm, hr]

def hotFields : List Fld := [F.THM_HOT_MAX, F.THM_HOT_MIN, F.THM_STAT_HOT]

def datedFields : List Fld := [F.THM_PEAK_PEAK, F.THM_RISE_DELTA, F.THM_RISE_WINDOW, F.THM_STAT_RISE_ACT]

theorem reported_fits (s : State) (die cold : Int) (hot : Nat) :
    s.Fits (Foot.of [0x00, 0x02, 0x04, 0x40, 0x50, 0x68, 0x70, 0x71] [.flt, .evr, .saf, .lanes, .thm, .fresh]) (reported s die cold hot) :=
  put_fits _ rfl (put_fits _ rfl (put_fits _ rfl (fits_refl _ s)))

theorem dated_fits (s : State) (die : Int) :
    s.Fits (Foot.of [0x00, 0x02, 0x04, 0x40, 0x50, 0x68, 0x70, 0x71] [.flt, .evr, .saf, .lanes, .thm, .fresh]) (dated s die) :=
  withThm_fits _ rfl (put_fits _ rfl (reportRise_fits _ die (by decide) (peak_fits s die (by decide) (fits_refl _ s))))

theorem reported_only (s : State) (die cold : Int) (hot : Nat) : s.Only hotFields [] (reported s die cold hot) :=
  only_put _ (by simp [hotFields]) (by decide) (only_put _ (by simp [hotFields]) (by decide) (only_put _ (by simp [hotFields]) (by decide) (only_refl _ _ s)))

theorem reported_leaves (s : State) (die cold : Int) (hot : Nat) :
    (reported s die cold hot).g F.THM_HOT_MAX = unsigned 16 die ∧ (reported s die cold hot).g F.THM_HOT_MIN = unsigned 16 cold := by
  unfold reported
  refine ⟨?_, ?_⟩
  · rw [g_put_sep _ _ (by decide), g_put_sep _ _ (by decide)]
    exact g_put_room _ (decide_eq_true (unsigned_lt _))
  · rw [g_put_sep _ _ (by decide)]
    exact g_put_room _ (decide_eq_true (unsigned_lt _))

theorem dated_only (s : State) (die : Int) :
    s.Only datedFields [.thm] (dated s die) := by
  have hrise : ∀ {v : State}, s.Only datedFields [.thm] v →
      s.Only datedFields [.thm] (v.reportRise die) := fun {v} hv => by
    unfold State.reportRise
    dsimp only
    split
    · exact only_put _ (by simp [datedFields]) (by decide) (only_put _ (by simp [datedFields]) (by decide) hv)
    · exact hv
  unfold dated State.peak
  exact only_withThm (by simp) (only_put _ (by simp [datedFields]) (by decide) (hrise (only_withThm (by simp) (only_put _ (by simp [datedFields]) (by decide) (only_refl _ _ s)))))

theorem dated_leaves (s : State) (die : Int) : (dated s die).on F.THM_STAT_RISE_ACT = s.rateHolds die
    ∧ (dated s die).thm.round = s.thm.round ∧ (dated s die).thm.firstDue = s.thm.firstDue ∧ (dated s die).thm.warn = s.thm.warn ∧ (dated s die).thm.stop = s.thm.stop := by
  have hthm : (((s.peak die).reportRise die).put F.THM_STAT_RISE_ACT (bit (s.rateHolds die))).thm = { s.thm with peaked := true } := by
    rw [put_thm]
    unfold State.reportRise
    dsimp only
    split
    · rw [put_thm, put_thm]
      rfl
    · rfl
  unfold dated
  dsimp only
  refine ⟨(withThm_on ..).trans (on_put_bit _ _ rfl rfl), ?_⟩
  rw [withThm_thm, hthm]
  exact ⟨rfl, rfl, rfl, rfl⟩

theorem flashWindow_leaves (s : State) (cold die : Int) :
    (s.flashWindow cold die).on F.THM_STAT_FLASH_OK = inWindow (s.on F.THM_STAT_FLASH_OK) cold die (-20) 105
      ∧ ThmStands s (s.flashWindow cold die)
      ∧ (∀ y : Fld, y.page = 0x04 → clear [F.THM_STAT_FLASH_OK, F.THM_EVT_FLASH_DEFER, F.UNIT_IRQ_STAT_EVT 0x04] y = true → (s.flashWindow cold die).g y = s.g y) := by
  have hput : ThmStands s (s.put F.THM_STAT_FLASH_OK (bit (inWindow (s.on F.THM_STAT_FLASH_OK) cold die (-20) 105))) := .of_eq (put_thm ..)
  have hon : (s.put F.THM_STAT_FLASH_OK (bit (inWindow (s.on F.THM_STAT_FLASH_OK) cold die (-20) 105))).on F.THM_STAT_FLASH_OK
      = inWindow (s.on F.THM_STAT_FLASH_OK) cold die (-20) 105 := on_put_bit _ _ rfl rfl
  have honly : s.Only [F.THM_STAT_FLASH_OK, F.THM_EVT_FLASH_DEFER, F.UNIT_IRQ_STAT_EVT 0x04] []
      (s.put F.THM_STAT_FLASH_OK (bit (inWindow (s.on F.THM_STAT_FLASH_OK) cold die (-20) 105))) := only_put _ (by simp) (by decide) (only_refl _ _ s)
  have hretry : ∀ (v : State) (y : Fld), y.page = 0x04 → v.retryAll.g y = v.g y := fun v y hy =>
    fits_g (retryAll_fits v (le_self _) (fits_refl _ v)) rfl (by rw [hy]; decide)
  unfold State.flashWindow
  extract_lets was now w
  split_ifs
  · exact ⟨(on_evt_sep _ (by decide) (by decide)).trans hon, hput.trans (.of_eq (evt_thm ..)), fun y _ hy => only_g (only_evt (by simp) (by simp [F.THM_EVT_FLASH_DEFER]) (by decide) honly) hy⟩
  · exact ⟨(on_congr (hretry w _ rfl)).trans hon, hput.trans (retryAll_stands w), fun y hp hy => (hretry w y hp).trans (only_g honly hy)⟩
  · exact ⟨hon, hput, fun y _ hy => only_g honly hy⟩

theorem windowed_fits (s : State) (die cold : Int) :
    s.Fits (Foot.of [0x02, 0x04, 0x71, 0x7A, 0x80] [.mem, .evr, .rst, .flx, .thm, .fus, .upd]) (windowed s die cold) :=
  fuseWork_fits _ (by decide) (put_fits _ rfl (flashWindow_fits s cold die (by decide) (fits_refl _ s)))

def windowFields : List Fld := [F.THM_STAT_FLASH_OK, F.THM_EVT_FLASH_DEFER, F.UNIT_IRQ_STAT_EVT 0x04, F.THM_STAT_FUSE_OK]

theorem windowed_leaves (s : State) (die cold : Int) :
    (windowed s die cold).on F.THM_STAT_FLASH_OK = inWindow (s.on F.THM_STAT_FLASH_OK) cold die (-20) 105
      ∧ (windowed s die cold).on F.THM_STAT_FUSE_OK = inWindow (s.on F.THM_STAT_FUSE_OK) cold die (-20) 85
      ∧ ThmStands s (windowed s die cold)
      ∧ (∀ y : Fld, y.page = 0x04 → clear windowFields y = true → (windowed s die cold).g y = s.g y) := by
  obtain ⟨h1, h2, h3⟩ := flashWindow_leaves s cold die
  have hwork : ∀ (v : State) (y : Fld), y.page = 0x04 → v.fuseWork.g y = v.g y := fun v y hy =>
    fits_g (fuseWork_fits v (le_self _) (fits_refl _ v)) rfl (by rw [hy]; decide)
  have hstand : ∀ v : State, ThmStands v v.fuseWork := fun v => .of_eq (within_thm (fuseWork_fits v (le_self _) (fits_refl _ v)).within rfl rfl)
  unfold windowed
  dsimp only
  refine ⟨?_, ?_, (h2.trans (.of_eq (put_thm ..))).trans (hstand _), fun y hp hy => ?_⟩
  · rw [on_congr (hwork _ _ rfl), on_put_sep _ _ (by decide), h1]
  · rw [on_congr (hwork _ _ rfl), on_put_bit _ _ rfl rfl, on_congr (h3 _ rfl (by decide))]
  · simp only [windowFields, clear, List.all_cons, List.all_nil, Bool.and_true, Bool.and_eq_true] at hy h3
    obtain ⟨hy1, hy2, hy3, hy4⟩ := hy
    exact (hwork _ y hp).trans ((g_put_other _ _ _ _ (by decide) hy4).trans (h3 y hp ⟨hy1, hy2, hy3⟩))


/-! ### The warning -/

/-- Whether the warning holds after a round. -/
def warns (s : State) (die : Int) (rate : Bool) : Bool :=
  if s.thm.warn then !(decide (die < 16 * s.g F.THM_LIM_WARN_C - 16 * s.g F.THM_LIM_WARN_HYST) && !rate)
  else decide ((16 * s.g F.THM_LIM_WARN_C : Nat) ≤ die) || rate

def warnFields : List Fld := [F.THM_EVT_WARN, F.THM_EVT_RISE_WARN, F.UNIT_IRQ_STAT_EVT 0x04]

/-- The warning begins. -/
def warned (s : State) (die : Int) : State :=
  let w := s.withThm { s.thm with warn := true }
  (if (16 * s.g F.THM_LIM_WARN_C : Int) ≤ die then w.evt F.THM_EVT_WARN else w.evt F.THM_EVT_RISE_WARN).raise S.THM_WARN 0

/-- The warning ends. -/
def unwarned (s : State) : State := (s.withThm { s.thm with warn := false }).condEndAll S.THM_WARN

theorem warnStep_eq (s : State) (die : Int) (rate : Bool) :
    s.warnStep die rate = if s.thm.warn = warns s die rate then s else if s.thm.warn then unwarned s else warned s die := by
  unfold State.warnStep warns unwarned warned
  dsimp only
  cases hw : s.thm.warn with
  | true =>
    rw [if_pos rfl, if_pos rfl, if_pos rfl]
    by_cases h : (decide (die < 16 * s.g F.THM_LIM_WARN_C - 16 * s.g F.THM_LIM_WARN_HYST) && !rate) = true
    · rw [if_pos h, if_neg (by simp [h])]
    · rw [if_neg h, if_pos (by simp [Bool.eq_false_iff.2 h])]
  | false =>
    have hlim : ((16 * s.g F.THM_LIM_WARN_C : Nat) : Int) = 16 * s.g F.THM_LIM_WARN_C := by push_cast; rfl
    simp only [Bool.false_eq_true, if_false, hlim]
    by_cases h : (decide ((16 * s.g F.THM_LIM_WARN_C : Int) ≤ die) || rate) = true
    · exact (if_pos h).trans (if_neg (by rw [h]; decide)).symm
    · exact (if_neg h).trans (if_pos (Bool.eq_false_iff.2 h).symm).symm

/-- What the warning's step leaves. -/
structure WarnLeaves (s : State) (w : Bool) (t : State) : Prop where
  thm : t.thm = { s.thm with warn := w }
  fields : ∀ y, thmField y = true → clear warnFields y = true → t.g y = s.g y
  armed : Armed s → Armed t
  flint : t.saf.halted = s.saf.halted ∧ t.pwr = s.pwr
  level : t.defLevel S.THM_STOP = s.defLevel S.THM_STOP
  pend : s.thm.warn = false → w = true → s.defLevel S.THM_WARN ≠ 0 → t.on (fltPend S.THM_WARN) = true

theorem raise_halted (s : State) (i inst : Nat) : (s.raise i inst).saf.halted = s.saf.halted :=
  (flint_reacts s (Q := fun a => a.halted = s.saf.halted) (fun _ _ _ h => h) (fun _ _ h => h)).raiseWith i inst 0 false false id rfl

theorem warned_leaves (s : State) (die : Int) : WarnLeaves s true (warned s die) := by
  have hpre : ∀ {v : State}, s.Only warnFields [.thm] v → v.thm = { s.thm with warn := true } → WarnLeaves s true (v.raise S.THM_WARN 0) := fun {v} hv ht => by
    have hsaf : v.saf = s.saf := hv.parts.saf (by decide)
    have hlev : ∀ i < 75, v.defLevel i = s.defLevel i := fun i hi => by
      have hsev : ∀ j < 75, clear warnFields (fltSev j) = true := by decide
      rw [State.defLevel, State.defLevel, only_on hv (by decide), only_g hv (hsev i hi)]
    refine ⟨(within_thm (raise_fits (g := Foot.of [0x00, 0x04, 0x40, 0x50, 0x68, 0x70, 0x71] [.flt, .evr, .saf, .lanes]) v _ _ rfl (by decide) (fits_refl _ v)).within rfl rfl).trans ht,
      fun y hy hc => (raise_g v _ _ (thmField_iff.1 hy).1).trans (only_g hv hc),
      fun ha => armed_raise v _ _ (armed_congr (by rw [hsaf]) (only_on hv (by decide)) ha),
      ⟨(raise_halted v _ _).trans (by rw [hsaf]),
        (within_pwr (raise_fits (g := Foot.of [0x00, 0x04, 0x40, 0x50, 0x68, 0x70, 0x71] [.flt, .evr, .saf, .lanes]) v _ _ rfl (by decide) (fits_refl _ v)).within rfl rfl).trans (hv.parts.pwr (by decide))⟩,
      ?_, fun _ _ hd => raise_pend v 0 (by decide) (by rw [hlev _ (by decide)]; exact hd)⟩
    have hm : markField F.FLT_CTRL_MODE = true ∧ markField (fltSev S.THM_STOP) = true := by decide
    rw [State.defLevel, State.defLevel, on_congr (raise_mark hm.1 v 0 (by decide)), raise_mark hm.2 v 0 (by decide), ← State.defLevel, ← State.defLevel, hlev _ (by decide)]
  have honly : s.Only warnFields [.thm] (s.withThm { s.thm with warn := true }) := only_withThm (by simp) (only_refl _ _ s)
  unfold warned
  dsimp only
  split_ifs
  · exact hpre (only_evt (by simp [warnFields]) (by simp [warnFields, F.THM_EVT_WARN]) (by decide) honly) (evt_thm ..)
  · exact hpre (only_evt (by simp [warnFields]) (by simp [warnFields, F.THM_EVT_RISE_WARN]) (by decide) honly) (evt_thm ..)

theorem warnStep_leaves (s : State) (die : Int) (rate : Bool) : WarnLeaves s (warns s die rate) (s.warnStep die rate) := by
  rw [warnStep_eq]
  split_ifs with h hw
  · exact ⟨by rw [← h], fun _ _ _ => rfl, id, ⟨rfl, rfl⟩, rfl, fun hf ht => absurd (hf.symm.trans (h.trans ht)) (by decide)⟩
  · have hoff : warns s die rate = false := by simpa [hw] using Ne.symm h
    rw [hoff]
    exact ⟨rfl, fun _ _ _ => rfl, id, ⟨rfl, rfl⟩, rfl, fun _ ht => absurd ht (by decide)⟩
  · have hon : warns s die rate = true := by simpa [hw] using Ne.symm h
    rw [hon]
    exact warned_leaves s die


/-! ### The stop -/

/-- Whether the stop holds after a round. -/
def stops (s : State) (die : Int) (rate : Bool) : Bool :=
  if s.thm.stop then !(decide (die < 16 * s.g F.THM_LIM_STOP_C - 16 * s.g F.THM_LIM_STOP_HYST) && !rate)
  else decide ((16 * s.g F.THM_LIM_STOP_C : Nat) ≤ die) || (rate && decide ((16 * s.g F.THM_LIM_WARN_C : Nat) ≤ die))

def stopFields : List Fld := [F.THM_EVT_STOP, F.THM_EVT_RISE_STOP, F.THM_EVT_STOP_CLR, F.THM_PEAK_STOPS, F.UNIT_IRQ_STAT_EVT 0x04]

/-- The stop begins. -/
def stopped (s : State) (die : Int) (hot : Nat) : State :=
  (s.withThm { s.thm with stop := true }).orderlyStop hot (decide (die < 16 * s.g F.THM_LIM_STOP_C))

/-- The stop ends. -/
def unstopped (s : State) : State := ((s.withThm { s.thm with stop := false }).condEndAll S.THM_STOP).evt F.THM_EVT_STOP_CLR

theorem stopStep_eq (s : State) (die : Int) (rate : Bool) (hot : Nat) :
    s.stopStep die rate hot = if s.thm.stop = stops s die rate then s else if s.thm.stop then unstopped s else stopped s die hot := by
  unfold State.stopStep stops unstopped stopped
  dsimp only
  cases hw : s.thm.stop with
  | true =>
    rw [if_pos rfl, if_pos rfl, if_pos rfl]
    by_cases h : (decide (die < 16 * s.g F.THM_LIM_STOP_C - 16 * s.g F.THM_LIM_STOP_HYST) && !rate) = true
    · rw [if_pos h, if_neg (by simp [h])]
    · rw [if_neg h, if_pos (by simp [Bool.eq_false_iff.2 h])]
  | false =>
    have hlim : ((16 * s.g F.THM_LIM_STOP_C : Nat) : Int) = 16 * s.g F.THM_LIM_STOP_C := by push_cast; rfl
    simp only [Bool.false_eq_true, if_false, hlim]
    by_cases h : (decide ((16 * s.g F.THM_LIM_STOP_C : Int) ≤ die) || (rate && decide ((16 * s.g F.THM_LIM_WARN_C : Nat) ≤ die))) = true
    · exact (if_pos h).trans (if_neg (by rw [h]; decide)).symm
    · exact (if_neg h).trans (if_pos (Bool.eq_false_iff.2 h).symm).symm

/-- The three units that a stop disables. -/
def stopUnits : List Nat := [0x18, 0x30, 0x50]

theorem enable_head (p : Nat) (hp : p ∈ stopUnits) : HeadMark (F.UNIT_CTRL_ENABLE p) ∧ lampField (F.UNIT_CTRL_ENABLE p) = true := by
  simp only [stopUnits, List.mem_cons, List.not_mem_nil, or_false] at hp
  rcases hp with rfl | rfl | rfl
  · exact ⟨⟨by decide, by decide, fun q => by simp [sep, F.UNIT_CTRL_ENABLE, F.UNIT_IRQ_STAT_EVT], by decide⟩, by decide⟩
  · exact ⟨⟨by decide, by decide, fun q => by simp [sep, F.UNIT_CTRL_ENABLE, F.UNIT_IRQ_STAT_EVT], by decide⟩, by decide⟩
  · exact ⟨⟨by decide, by decide, fun q => by simp [sep, F.UNIT_CTRL_ENABLE, F.UNIT_IRQ_STAT_EVT], by decide⟩, by decide⟩

/-- The units are disabled and the frames end. -/
def lampOff (s : State) : State :=
  (((s.put (F.UNIT_CTRL_ENABLE 0x18) 0).put (F.UNIT_CTRL_ENABLE 0x30) 0).put (F.UNIT_CTRL_ENABLE 0x50) 0).endFrames.lanesOff

/-- The stop is counted and noted. -/
def stopNoted (s : State) (byRate : Bool) : State :=
  (((if byRate then s.evt F.THM_EVT_RISE_STOP else s.evt F.THM_EVT_STOP).incSat F.THM_PEAK_STOPS).checkpointRet.checkpointFlash).settle

theorem orderlyStop_eq (s : State) (hot : Nat) (byRate : Bool) :
    s.orderlyStop hot byRate = stopNoted (lampOff (s.raiseTrig S.THM_STOP hot 13 hot true)) byRate := rfl

theorem lanesOff_head (s : State) (p : Nat) (hp : p ∈ stopUnits) : s.lanesOff.g (F.UNIT_CTRL_ENABLE p) = s.g (F.UNIT_CTRL_ENABLE p) := by
  refine foldl_g (fun u n => ?_) _ s
  unfold State.laneOff
  rw [modLane_g]
  refine g_put_sep _ _ ?_
  simp only [stopUnits, List.mem_cons, List.not_mem_nil, or_false] at hp
  rcases hp with rfl | rfl | rfl <;> simp [sep, F.TL_STAT_STATE, F.UNIT_CTRL_ENABLE]

theorem lampOff_fits (s : State) : s.Fits (Foot.of [0x01, 0x18, 0x30, 0x50, 0x60] [.pend, .pendPages, .quartz, .cmp, .glare, .tln, .lanes]) (lampOff s) :=
  lanesOff_fits _ (by decide) (endFrames_fits _ (by decide) (put_fits _ rfl (put_fits _ rfl (put_fits _ rfl (fits_refl _ s)))))

theorem lampOff_units (s : State) (p : Nat) (hp : p ∈ stopUnits) : (lampOff s).on (F.UNIT_CTRL_ENABLE p) = false := by
  have hsep : ∀ a ∈ stopUnits, ∀ b ∈ stopUnits, a ≠ b → sep (F.UNIT_CTRL_ENABLE a) (F.UNIT_CTRL_ENABLE b) = true := by decide
  unfold lampOff
  rw [on_congr (lanesOff_head _ p hp), on_congr (head_endFrames (enable_head p hp).1 _)]
  simp only [stopUnits, List.mem_cons, List.not_mem_nil, or_false] at hp
  rcases hp with rfl | rfl | rfl
  · rw [on_put_sep _ _ (by decide), on_put_sep _ _ (by decide)]
    exact on_put_clear _ (by decide)
  · rw [on_put_sep _ _ (by decide)]
    exact on_put_clear _ (by decide)
  · exact on_put_clear _ (by decide)

theorem stopNoted_leaves (s : State) (byRate : Bool) :
    ThmStands s (stopNoted s byRate) ∧ ∀ y, clear (F.SAF_STAT_FSTATE :: stopFields) y = true → (stopNoted s byRate).g y = s.g y := by
  have hcount : ∀ v : State, s.Only (F.SAF_STAT_FSTATE :: stopFields) [.evr, .thm] v → ThmStands s v →
      ThmStands s ((v.incSat F.THM_PEAK_STOPS).checkpointRet.checkpointFlash).settle
        ∧ s.Only (F.SAF_STAT_FSTATE :: stopFields) [.evr, .thm] ((v.incSat F.THM_PEAK_STOPS).checkpointRet.checkpointFlash).settle := fun v hv ht => by
    have hck : ThmStands s ((v.incSat F.THM_PEAK_STOPS).checkpointRet.checkpointFlash) :=
      (ht.trans (.of_eq ((withEvr_thm ..).trans (incSat_thm ..)))).trans (checkpointFlash_stands _)
    refine ⟨hck.trans (.of_eq (within_thm (settle_fits _ (le_self _) (fits_refl _ _)).within rfl rfl)), only_settle (by simp) ?_⟩
    unfold State.checkpointFlash
    have hret : s.Only (F.SAF_STAT_FSTATE :: stopFields) [.evr, .thm] (v.incSat F.THM_PEAK_STOPS).checkpointRet :=
      only_withEvr (by simp) (only_incSat (by simp [stopFields]) (by decide) hv)
    exact only_ite (fun _ => only_withEvr (by simp) hret) (fun _ => only_withThm (by simp) hret)
  unfold stopNoted
  split_ifs
  · obtain ⟨h1, h2⟩ := hcount (s.evt F.THM_EVT_RISE_STOP) (only_evt (by simp [stopFields]) (by simp [stopFields, F.THM_EVT_RISE_STOP]) (by decide) (only_refl _ _ s)) (.of_eq (evt_thm ..))
    exact ⟨h1, fun y hy => only_g h2 hy⟩
  · obtain ⟨h1, h2⟩ := hcount (s.evt F.THM_EVT_STOP) (only_evt (by simp [stopFields]) (by simp [stopFields, F.THM_EVT_STOP]) (by decide) (only_refl _ _ s)) (.of_eq (evt_thm ..))
    exact ⟨h1, fun y hy => only_g h2 hy⟩


/-- What the stop's step leaves. -/
structure StopLeaves (s : State) (w : Bool) (t : State) : Prop where
  round : t.thm.round = s.thm.round
  first : t.thm.firstDue = s.thm.firstDue
  warn : t.thm.warn = s.thm.warn
  stop : t.thm.stop = w
  fields : ∀ y, thmField y = true → clear stopFields y = true → t.g y = s.g y
  keeps : ∀ j, j < 75 → s.on (fltPend j) = true → t.on (fltPend j) = true
  off : s.thm.stop = false → w = true → ∀ p ∈ stopUnits, t.on (F.UNIT_CTRL_ENABLE p) = false
  pend : s.thm.stop = false → w = true → s.defLevel S.THM_STOP ≠ 0 → t.on (fltPend S.THM_STOP) = true
  locked : s.thm.stop = false → w = true → Armed s → s.saf.halted = false → s.flintStopped = false → t.on F.SAF_STAT_LOCKED = true

theorem raiseTrig_flint_takes (s : State) (i inst code detail : Nat) (h : Armed s) (hh : s.saf.halted = false) (hf : s.flintStopped = false)
    (hq : (Foot.of [0x00, 0x04, 0x40, 0x50, 0x68, 0x70, 0x71] [.flt, .evr, .saf, .lanes]).hasUnit (groupPage (srcPage i inst)) = true) :
    (s.raiseTrig i inst code detail true).on F.SAF_STAT_LOCKED = true := by
  have hpwr : (s.raiseWith i inst 0 false true).pwr = s.pwr := within_pwr (raiseWith_fits (g := Foot.of [0x00, 0x04, 0x40, 0x50, 0x68, 0x70, 0x71] [.flt, .evr, .saf, .lanes])
    s i inst 0 false true hq (by decide) (fits_refl _ s)).within rfl rfl
  have hstop : (s.raiseWith i inst 0 false true).flintStopped = false := by
    refine Eq.trans ?_ hf
    rw [State.flintStopped, State.flintStopped, hpwr]
  show ((s.raiseWith i inst 0 false true).flintTrigger i code detail).on _ = true
  unfold State.flintTrigger
  rw [raiseWith_saf, hh, hstop, if_neg (by decide), if_neg (by decide)]
  exact trigger_takes _ code detail (armed_core s i inst h)

theorem raiseTrig_keeps_pend (s : State) (inst code detail : Nat) {i j : Nat} (hi : i < 75) (hj : j < 75) (h : s.on (fltPend j) = true) :
    (s.raiseTrig i inst code detail true).on (fltPend j) = true := by
  have hp : groupPage (fltPend j).page ≠ 0x50 := by simp [fltPend, groupPage]
  exact (on_congr (flintTrigger_g _ i code detail (fltPend_clear hj) hp)).trans (raiseWith_keeps_pend s inst 0 false true hi hj h)

theorem stopped_leaves (s : State) (die : Int) (hot : Nat) : StopLeaves s true (stopped s die hot) := by
  unfold stopped
  rw [orderlyStop_eq]
  generalize hv : s.withThm { s.thm with stop := true } = v
  have hthm : v.thm = { s.thm with stop := true } := hv ▸ rfl
  have hg : ∀ y, v.g y = s.g y := fun y => hv ▸ rfl
  have hsaf : v.saf = s.saf ∧ v.pwr = s.pwr := hv ▸ ⟨rfl, rfl⟩
  have hlev : v.defLevel S.THM_STOP = s.defLevel S.THM_STOP := by rw [State.defLevel, State.defLevel, on_congr (hg _), hg]
  generalize decide (die < 16 * s.g F.THM_LIM_STOP_C) = byRate
  have hraise := raiseTrig_fits (g := Foot.of [0x00, 0x04, 0x40, 0x50, 0x68, 0x70, 0x71] [.flt, .evr, .saf, .lanes]) v S.THM_STOP hot 13 hot true rfl (by decide) (fits_refl _ v)
  have hraised : ∀ y, thmField y = true → (v.raiseTrig S.THM_STOP hot 13 hot true).g y = v.g y := fun y hy => raiseTrig_g v _ _ _ _ _ (thmField_iff.1 hy).1
  have hpend : v.defLevel S.THM_STOP ≠ 0 → (v.raiseTrig S.THM_STOP hot 13 hot true).on (fltPend S.THM_STOP) = true := fun hd =>
    raiseTrig_pend v hot 13 hot true (by decide) hd
  have hlock : Armed v → v.saf.halted = false → v.flintStopped = false → (v.raiseTrig S.THM_STOP hot 13 hot true).on F.SAF_STAT_LOCKED = true := fun ha hh hf =>
    raiseTrig_flint_takes v _ hot 13 hot ha hh hf rfl
  have hkeep : ∀ j, j < 75 → v.on (fltPend j) = true → (v.raiseTrig S.THM_STOP hot 13 hot true).on (fltPend j) = true := fun j hj h =>
    raiseTrig_keeps_pend v hot 13 hot (by decide) hj h
  generalize v.raiseTrig S.THM_STOP hot 13 hot true = r at *
  have hoff := lampOff_fits r
  have hunits := lampOff_units r
  generalize lampOff r = l at *
  obtain ⟨hstand, hnoted⟩ := stopNoted_leaves l byRate
  have hthm' : l.thm = { s.thm with stop := true } := (within_thm hoff.within rfl rfl).trans ((within_thm hraise.within rfl rfl).trans hthm)
  obtain ⟨h1, h2, -, h3, h4⟩ := hstand.fields
  rw [hthm'] at h1 h2 h3 h4
  have hpends : ∀ j, j < 75 → r.on (fltPend j) = true → (stopNoted l byRate).on (fltPend j) = true := fun j hj h =>
    (on_congr (hnoted _ ((by decide : ∀ j < 75, clear (F.SAF_STAT_FSTATE :: stopFields) (fltPend j) = true) j hj))).trans
      ((on_congr (fits_g hoff rfl (by simp [Foot.of, fltPend, groupPage]))).trans h)
  refine ⟨h1, h2, h3, h4, fun y hy hc => ?_, fun j hj h => hpends j hj (hkeep j hj ((on_congr (hg _)).trans h)), fun _ _ p hp => ?_,
    fun _ _ hd => hpends _ (by decide) (hpend (by rw [hlev]; exact hd)), fun _ _ ha hh hf => ?_⟩
  · have hp := (thmField_iff.1 hy).2
    have hfs : F.SAF_STAT_FSTATE.apart y = true := by simp [Fld.apart, Fld.addr, hp, F.SAF_STAT_FSTATE]; omega
    rw [hnoted y (by simp only [clear, List.all_cons, Bool.and_eq_true]; exact ⟨hfs, by simpa [clear] using hc⟩), fits_g hoff rfl (by rw [hp]; decide), hraised y hy, hg]
  · rw [on_congr (hnoted _ ((by decide : ∀ p ∈ stopUnits, clear (F.SAF_STAT_FSTATE :: stopFields) (F.UNIT_CTRL_ENABLE p) = true) p hp)), hunits p hp]
  · rw [on_congr (hnoted F.SAF_STAT_LOCKED (by decide)), on_congr (fits_g hoff rfl (by decide))]
    exact hlock (armed_congr (by rw [hsaf.1]) (on_congr (hg _)) ha) (by rw [hsaf.1]; exact hh) (by rw [← hf, State.flintStopped, State.flintStopped, hsaf.2])

theorem stopStep_leaves (s : State) (die : Int) (rate : Bool) (hot : Nat) : StopLeaves s (stops s die rate) (s.stopStep die rate hot) := by
  rw [stopStep_eq]
  split_ifs with h hw
  · have hno : s.thm.stop = false → stops s die rate = true → False := fun hf ht => absurd (hf.symm.trans (h.trans ht)) (by decide)
    exact ⟨rfl, rfl, rfl, h, fun _ _ _ => rfl, fun _ _ h => h, fun hf ht => (hno hf ht).elim, fun hf ht => (hno hf ht).elim, fun hf ht => (hno hf ht).elim⟩
  · have hoff : stops s die rate = false := by simpa [hw] using Ne.symm h
    have hno : s.thm.stop = false → False := fun hf => absurd (hf.symm.trans hw) (by decide)
    have honly : s.Only stopFields [.thm, .flt] (unstopped s) :=
      only_evt (by simp [stopFields]) (by simp [stopFields, F.THM_EVT_STOP_CLR]) (by decide) (only_withFlt (by simp) (only_withThm (by simp) (only_refl _ _ s)))
    have hthm : (unstopped s).thm = { s.thm with stop := false } := (evt_thm ..).trans rfl
    rw [hoff]
    exact ⟨by rw [hthm], by rw [hthm], by rw [hthm], by rw [hthm], fun y _ hc => only_g honly hc,
      fun j hj h => (only_on honly ((by decide : ∀ j < 75, clear stopFields (fltPend j) = true) j hj)).trans h, fun hf => (hno hf).elim, fun hf => (hno hf).elim, fun hf => (hno hf).elim⟩
  · have hon : stops s die rate = true := by simpa [hw] using Ne.symm h
    rw [hon]
    exact stopped_leaves s die hot


/-! ### The other channels of a round -/

/-- The reading that a tile's flux predicts. -/
def fluxExpect (s : State) (t : Nat) : Nat := (s.flxTile t).sum / (s.flxTile t).frames * s.g (F.FLX_SENS_SENS t) / 65536

/-- The ratio of what was read to what was expected. -/
def fluxRatio (s : State) (t code : Nat) : Nat :=
  if fluxExpect s t = 0 then s.free.1 / 65536 else code * (s.calTile t).gain / fluxExpect s t

/-- What the flux sample of a tile shows before its state. -/
def fluxShown (s : State) (t code : Nat) : State :=
  ((s.free.2.put (F.FLX_MEAS_CODE t) code).put (F.FLX_MEAS_E t) (if decide (0 < (s.flxTile t).frames) then min 4095 (fluxExpect s t) else s.free.1)).put
    (F.FLX_STAT_R_Q t) (if decide (0 < (s.flxTile t).frames) && decide (fluxRatio s t code < 65536) then fluxRatio s t code else s.free.1 / 65536)

/-- What keeps the tile from its step. -/
def fluxReason (s : State) (t code : Nat) : Nat :=
  (fluxShown s t code).fluxWhy t (fluxExpect s t) code ((s.flxTile t).sum / (s.flxTile t).frames)

/-- A saturated reading is reported. -/
def fluxSat (s : State) (t why : Nat) : State := if why = 3 then s.evt ⟨0x49, 0x4C, 8 + t, 8 + t⟩ else s

/-- The tile's step of the loop. -/
def fluxMoved (s : State) (t why r : Nat) : State :=
  if tbit (s.g F.FLX_CTRL_EN) t then
    if why ≠ 0 then (s.put (F.FLX_STAT_STATE t) 4).put (F.FLX_STAT_WHY t) why
    else
      let w := ((s.put (F.FLX_GAIN_F23 t) (s.fluxStep t r).1).put (F.FLX_STAT_STATE t) (s.fluxStep t r).2).put (F.FLX_STAT_WHY t) 0
      if (s.fluxStep t r).2 = 5 then
        if s.g (F.FLX_STAT_STATE t) = 5 then w.evt ⟨0x49, 0x4C, t, t⟩ else (w.evt ⟨0x49, 0x4C, t, t⟩).detect [0x49] S.FLX_RANGE t 0 false
      else w
  else (s.put (F.FLX_STAT_STATE t) 0).put (F.FLX_STAT_WHY t) 0

theorem fluxSample_eq (s : State) (t code : Nat) :
    ∃ h, s.fluxSample t code
      = (fluxMoved (fluxSat (fluxShown s t code) t (fluxReason s t code)) t (fluxReason s t code) (fluxRatio s t code)).modFlx t h := by
  unfold State.fluxSample fluxMoved fluxSat fluxReason fluxShown fluxRatio fluxExpect
  dsimp only
  exact ⟨_, rfl⟩

/-- A bit of another unit than those of the round's channels, which their one fault keeps. -/
structure Bystander (f : Fld) (b : Bool) : Prop where
  flux : f.page ≠ 0x49
  feeds : f.page ≠ 0x08 ∧ f.page ≠ 0x09
  factors : groupPage f.page ≠ 0x48
  rests : clear recordFields f = true
  fault : ∀ (u : State) (t : Nat), u.on f = b → (u.detect [0x49] S.FLX_RANGE t 0 false).on f = b

section
variable {b : Bool} (hf : Bystander f b)

include hf

theorem bystander_put (s : State) {x : Fld} (v : Nat) (hp : x.page = 0x49) (hh : x.hi < 32) : (s.put x v).on f = s.on f :=
  on_put_sep _ _ (by have := hf.flux; simp only [sep, hp, Bool.and_eq_true, Bool.or_eq_true, decide_eq_true_eq, Bool.not_eq_true', beq_eq_false_iff_ne, ne_eq]; exact ⟨hh, .inr (Ne.symm this)⟩)

theorem bystander_evt (s : State) {x : Fld} (hp : x.page = 0x49) (hh : x.hi < 32) : (s.evt x).on f = s.on f := by
  have hsep : ∀ y : Fld, y.page = 0x49 → y.hi < 32 → sep y f = true := fun y hy hy' => by
    have := hf.flux
    simp only [sep, hy, Bool.and_eq_true, Bool.or_eq_true, decide_eq_true_eq, Bool.not_eq_true', beq_eq_false_iff_ne, ne_eq]
    exact ⟨hy', .inr (Ne.symm this)⟩
  exact on_evt_sep _ (hsep _ hp hh) (hsep _ hp (by simp [F.UNIT_IRQ_STAT_EVT]))

theorem fluxSample_bystander {t : Nat} (ht : t < 8) (code : Nat) (h : s.on f = b) : (s.fluxSample t code).on f = b := by
  obtain ⟨k, heq⟩ := fluxSample_eq s t code
  generalize fluxReason s t code = why at heq
  generalize fluxRatio s t code = r at heq
  have hshown : (fluxShown s t code).on f = b := by
    unfold fluxShown
    rw [bystander_put hf _ _ rfl (by simp [F.FLX_STAT_R_Q]), bystander_put hf _ _ rfl (by simp [F.FLX_MEAS_E]), bystander_put hf _ _ rfl (by simp [F.FLX_MEAS_CODE])]
    exact h
  have hsat : (fluxSat (fluxShown s t code) t why).on f = b := by
    unfold fluxSat
    split
    · exact (bystander_evt hf _ rfl (by show 8 + t < 32; omega)).trans hshown
    · exact hshown
  have hput : ∀ (w : State) (x y : Fld) (p q : Nat), x.page = 0x49 → x.hi < 32 → y.page = 0x49 → y.hi < 32 → w.on f = b → ((w.put x p).put y q).on f = b :=
    fun w x y p q hx hx' hy hy' hw => (bystander_put hf _ _ hy hy').trans ((bystander_put hf _ _ hx hx').trans hw)
  rw [heq]
  show (fluxMoved (fluxSat (fluxShown s t code) t why) t why r).on f = b
  generalize fluxSat (fluxShown s t code) t why = w at hsat
  have hmoved : (((w.put (F.FLX_GAIN_F23 t) (w.fluxStep t r).1).put (F.FLX_STAT_STATE t) (w.fluxStep t r).2).put (F.FLX_STAT_WHY t) 0).on f = b :=
    (bystander_put hf _ _ rfl (by simp [F.FLX_STAT_WHY])).trans (hput w _ _ _ _ rfl (by simp [F.FLX_GAIN_F23]) rfl (by simp [F.FLX_STAT_STATE]) hsat)
  unfold fluxMoved
  extract_lets m
  have hevt : (m.evt ⟨0x49, 0x4C, t, t⟩).on f = b := (bystander_evt hf _ rfl (by show t < 32; omega)).trans hmoved
  split_ifs
  · exact hput w _ _ _ _ rfl (by simp [F.FLX_STAT_STATE]) rfl (by simp [F.FLX_STAT_WHY]) hsat
  · exact hevt
  · exact hf.fault _ t hevt
  · exact hmoved
  · exact hput w _ _ _ _ rfl (by simp [F.FLX_STAT_STATE]) rfl (by simp [F.FLX_STAT_WHY]) hsat

theorem feedRead_bystander {l : Nat} (hl : l < 2) (code : Nat) : (s.feedRead l code).on f = s.on f := by
  have hsep : ∀ y : Fld, (y.page = 0x08 ∨ y.page = 0x09) → y.hi < 32 → sep y f = true := fun y hy hy' => by
    obtain ⟨h1, h2⟩ := hf.feeds
    simp only [sep, Bool.and_eq_true, Bool.or_eq_true, decide_eq_true_eq, Bool.not_eq_true', beq_eq_false_iff_ne, ne_eq]
    exact ⟨hy', .inr (fun he => hy.elim (fun k => h1 (he ▸ k)) (fun k => h2 (he ▸ k)))⟩
  obtain ⟨h1, h2, h3, h4⟩ := (by decide : ∀ l < 2, ((F.LNK_FEED_CODE l).page = 0x08 ∨ (F.LNK_FEED_CODE l).page = 0x09)
    ∧ ((F.LNK_STAT_FEED l).page = 0x08 ∨ (F.LNK_STAT_FEED l).page = 0x09) ∧ ((F.LNK_EVT_FEED_CHG l).page = 0x08 ∨ (F.LNK_EVT_FEED_CHG l).page = 0x09)
    ∧ ((F.UNIT_IRQ_STAT_EVT (F.LNK_EVT_FEED_CHG l).page).page = 0x08 ∨ (F.UNIT_IRQ_STAT_EVT (F.LNK_EVT_FEED_CHG l).page).page = 0x09)) l hl
  unfold State.feedRead State.feedTo
  split_ifs
  · exact on_put_sep _ _ (hsep _ h1 (by simp [F.LNK_FEED_CODE]))
  · rw [on_congr (event_g _ _ _ hf.rests), on_evt_sep _ (hsep _ h3 (by simp [F.LNK_EVT_FEED_CHG])) (hsep _ h4 (by simp [F.UNIT_IRQ_STAT_EVT])),
      on_put_sep _ _ (hsep _ h2 (by simp [F.LNK_STAT_FEED])), on_put_sep _ _ (hsep _ h1 (by simp [F.LNK_FEED_CODE]))]
  · rfl

theorem otherChannels_bystander (codes : List Nat) (h : s.on f = b) : (s.otherChannels codes).on f = b := by
  unfold State.otherChannels
  dsimp only
  refine (on_congr (fits_g (classFactors_fits _ (le_self _) (fits_refl _ _)) rfl (by simpa [Foot.of] using hf.factors))).trans ?_
  have hfeeds : ((s.feedRead 0 (codes.getD 9 0)).feedRead 1 (codes.getD 10 0)).on f = b :=
    (feedRead_bystander hf (by decide) _).trans ((feedRead_bystander hf (by decide) _).trans h)
  unfold State.fluxRound
  split_ifs
  · exact hfeeds
  · exact List.foldlRecOn (motive := fun u : State => u.on f = b) _ _ hfeeds (fun u hu t ht => fluxSample_bystander hf (List.mem_range.1 ht) _ hu)

end

theorem bystander_locked : Bystander F.SAF_STAT_LOCKED true := by
  refine ⟨by decide, by decide, by decide, by decide, fun u t h => ?_⟩
  unfold State.detect
  split_ifs
  · exact (on_congr (fits_g (conseq_fits u _ t 0 (le_self _) (fits_refl _ u)) rfl (by decide))).trans h
  · exact (locked_reacts u).raiseWith _ t 0 false false id h

theorem bystander_pend {j : Nat} (hj : j < 75) : Bystander (fltPend j) true :=
  ⟨by simp [fltPend], by simp [fltPend], by simp [fltPend, groupPage], (by decide : ∀ j < 75, clear recordFields (fltPend j) = true) j hj,
    fun u t h => detect_keeps_pend u _ t 0 false (by decide) hj h⟩

theorem bystander_enable (p : Nat) (hp : p ∈ stopUnits) : Bystander (F.UNIT_CTRL_ENABLE p) false := by
  have hlamp := (enable_head p hp).2
  have hrec := (enable_head p hp).1.rests
  obtain ⟨h1, h2, h3, h4⟩ := (by decide : ∀ p ∈ stopUnits, p ≠ 0x49 ∧ (p ≠ 0x08 ∧ p ≠ 0x09) ∧ groupPage p ≠ 0x48
    ∧ F.RST_BLK_STAT_CONSEQ_CNT.apart (F.UNIT_CTRL_ENABLE p) = true) p hp
  exact ⟨h1, h2, h3, hrec, fun u t h => (on_congr (detect_lamp u _ _ t 0 false hlamp h4)).trans h⟩


/-! ### A round that is kept -/

def chFields : List Fld := (List.range 20).map F.THM_CH_CODE

/-- The codes of a round that is kept stand in their registers. -/
def taken (s : State) (codes : List Nat) (k : Nat) : State :=
  ((List.range k).foldl (fun s i => s.put (F.THM_CH_CODE i) (codes.getD i 0)) ((s.inc F.THM_ROUNDS_COUNT).withThm { s.thm with round := none, firstDue := false })).put
    F.THM_STAT_ROUND_OK 1

def takenFields : List Fld := F.THM_ROUNDS_COUNT :: F.THM_STAT_ROUND_OK :: chFields

theorem ch_sep {i j : Nat} (hi : i < 20) (hj : j < 20) (h : i ≠ j) : sep (F.THM_CH_CODE i) (F.THM_CH_CODE j) = true := by
  simp [sep, F.THM_CH_CODE, Nat.mod_eq_of_lt (show 128 + 4 * i < 4096 by omega), Nat.mod_eq_of_lt (show 128 + 4 * j < 4096 by omega), h]

theorem chFold_only {s0 : State} (codes : List Nat) {k : Nat} (hk : k ≤ 20) (h : s0.Only takenFields [.thm] s) :
    s0.Only takenFields [.thm] ((List.range k).foldl (fun s i => s.put (F.THM_CH_CODE i) (codes.getD i 0)) s) :=
  only_foldl _ _ (fun i hi u hu => only_put _ (by
    have := List.mem_range.1 hi
    simp only [takenFields, chFields, List.mem_cons, List.mem_map, List.mem_range]
    exact .inr (.inr ⟨i, by omega, rfl⟩)) (by simp [F.THM_CH_CODE]) hu) h

theorem taken_only (s : State) (codes : List Nat) {k : Nat} (hk : k ≤ 20) : s.Only takenFields [.thm] (taken s codes k) :=
  only_put _ (by simp [takenFields]) (by decide) (chFold_only codes hk
    (only_withThm (by simp) (only_put _ (by simp [takenFields]) (by decide) (only_refl _ _ s))))

theorem taken_leaves (s : State) (codes : List Nat) {k : Nat} (hk : k ≤ 20) :
    (taken s codes k).thm = { s.thm with round := none, firstDue := false } ∧ (taken s codes k).on F.THM_STAT_ROUND_OK = true
      ∧ (taken s codes k).g F.THM_ROUNDS_COUNT = (s.g F.THM_ROUNDS_COUNT + 1) % 2 ^ 32
      ∧ ∀ i, i < k → codes.getD i 0 < 4096 → (taken s codes k).g (F.THM_CH_CODE i) = codes.getD i 0 := by
  unfold taken
  generalize hw : (s.inc F.THM_ROUNDS_COUNT).withThm { s.thm with round := none, firstDue := false } = w
  have hcount : w.g F.THM_ROUNDS_COUNT = (s.g F.THM_ROUNDS_COUNT + 1) % 2 ^ 32 := by
    subst hw
    exact (withThm_g ..).trans (g_put_same _ _ _ (by decide) (by decide))
  have hthm : w.thm = { s.thm with round := none, firstDue := false } := hw ▸ rfl
  have hfold : ∀ (x : Fld), (∀ i < 20, sep (F.THM_CH_CODE i) x = true) →
      ((List.range k).foldl (fun s i => s.put (F.THM_CH_CODE i) (codes.getD i 0)) w).g x = w.g x := fun x hx =>
    List.foldlRecOn (motive := fun u : State => u.g x = w.g x) _ _ rfl (fun u hu i hi => (g_put_sep _ _ (hx i (by have := List.mem_range.1 hi; omega))).trans hu)
  refine ⟨?_, on_put_set _ (by decide), ?_, fun i hi hc => ?_⟩
  · rw [put_thm]
    exact List.foldlRecOn (motive := fun u : State => u.thm = _) _ _ hthm (fun u hu i _ => (put_thm ..).trans hu)
  · rw [g_put_sep _ _ (by decide), hfold _ (by decide), hcount]
  · rw [g_put_sep _ _ ((by decide : ∀ i < 20, sep F.THM_STAT_ROUND_OK (F.THM_CH_CODE i) = true) i (by omega))]
    exact foldl_visit (P := fun _ => True) (Q := fun u => u.g (F.THM_CH_CODE i) = codes.getD i 0) (List.range k) List.nodup_range (List.mem_range.2 hi)
      (fun _ _ _ _ _ => trivial) (fun u _ => g_put_room _ (decide_eq_true hc))
      (fun j hj hne u hu => (g_put_sep _ _ (ch_sep (by have := List.mem_range.1 hj; omega) (by omega) hne)).trans hu) trivial

/-- The end of a kept round, from its report on. -/
def finished (u : State) (codes : List Nat) (first : Bool) (die cold : Int) (hot : Nat) : State :=
  let w := (judged (windowed (dated (reported u die cold hot) die) die cold) die ((reported u die cold hot).rateHolds die) hot).trimRound die
  if first then w else w.otherChannels codes

theorem codes_getD (codes : List Nat) (i : Nat) : (codes.map (fun c => c % 4096)).getD i 0 = codes.getD i 0 % 4096 := by
  rw [List.getD_eq_getElem?_getD, List.getD_eq_getElem?_getD, List.getElem?_map]
  cases codes[i]? with
  | none => rfl
  | some c => rfl

theorem exec_roundKept {codes : List Nat} {at_ : Nat} {die cold : Int} {hot : Nat} (h : s.thm.round = some at_)
    (ht : s.now - at_ ≤ ms (2 * s.g F.THM_CTRL_ROUND_MS)) (h1 : 1966 ≤ codes.getD 4 0 % 4096) (h2 : codes.getD 4 0 % 4096 ≤ 2130)
    (hd : (sensed (taken s.begin (codes.map (fun c => c % 4096)) (if s.thm.firstDue then 5 else 20)) (codes.map (fun c => c % 4096))).dieTemps = (die, cold, hot, u)) :
    exec (.housekeepingRoundEnd codes) s = .next (finished u (codes.map (fun c => c % 4096)) s.thm.firstDue die cold hot) := by
  have hcode := codes_getD codes 4
  show execHousekeepingRoundEnd codes s = _
  unfold execHousekeepingRoundEnd
  dsimp only
  rw [show s.begin.thm = s.thm from rfl, h]
  dsimp only
  generalize codes.map (fun c => c % 4096) = l at hcode hd ⊢
  have hg : (s.begin.inc F.THM_ROUNDS_COUNT).g F.THM_CTRL_ROUND_MS = s.g F.THM_CTRL_ROUND_MS := (g_put_sep _ _ (by decide)).trans (begin_g ..)
  have hnow : (s.begin.inc F.THM_ROUNDS_COUNT).now = s.now := (put_now ..).trans rfl
  have hgood : (decide (ms (2 * (s.begin.inc F.THM_ROUNDS_COUNT).g F.THM_CTRL_ROUND_MS) < (s.begin.inc F.THM_ROUNDS_COUNT).now - at_)
      || decide (l.getD 4 0 < 1966) || decide (2130 < l.getD 4 0)) = false := by
    rw [hg, hnow, hcode]
    simp only [Bool.or_eq_false_iff, decide_eq_false_iff_not]
    omega
  rw [hgood, if_neg (by decide)]
  unfold finished
  dsimp only
  rw [← thermalRound_eq hd]
  rfl


/-! ### From the sensors to the end of the round -/

theorem trimRound_rests (s : State) (die : Int) : (s.trimRound die).thm = s.thm ∧ ∀ y : Fld, groupPage y.page ≠ 0x48 → (s.trimRound die).g y = s.g y :=
  ⟨within_thm (trimRound_fits s die (le_self _) (fits_refl _ s)).within rfl rfl,
    fun _ hy => fits_g (trimRound_fits s die (le_self _) (fits_refl _ s)) rfl (by simpa [Foot.of] using hy)⟩

/-- The other channels leave THM. -/
theorem channels_rest (s : State) (codes : List Nat) : (s.otherChannels codes).thm = s.thm ∧ ∀ y : Fld, y.page = 0x04 → (s.otherChannels codes).g y = s.g y :=
  ⟨within_thm (otherChannels_fits s codes (le_self _) (fits_refl _ s)).within rfl rfl,
    fun _ hy => fits_g (otherChannels_fits s codes (le_self _) (fits_refl _ s)) rfl (by rw [hy]; decide)⟩

def judgeFields : List Fld := F.THM_STAT_LEVEL :: (warnFields ++ stopFields)

/-- What the last part of a round leaves: the conditions, their level, and the faults of those that begin. -/
structure JudgeLeaves (s : State) (die : Int) (rate : Bool) (t : State) : Prop where
  round : t.thm.round = s.thm.round
  first : t.thm.firstDue = s.thm.firstDue
  warn : t.thm.warn = warns s die rate
  stop : t.thm.stop = stops s die rate
  level : t.g F.THM_STAT_LEVEL = if t.thm.stop then 2 else if t.thm.warn then 1 else 0
  fields : ∀ y, thmField y = true → clear judgeFields y = true → t.g y = s.g y
  warnPend : s.thm.warn = false → t.thm.warn = true → s.defLevel S.THM_WARN ≠ 0 → t.on (fltPend S.THM_WARN) = true
  off : s.thm.stop = false → t.thm.stop = true → ∀ p ∈ stopUnits, t.on (F.UNIT_CTRL_ENABLE p) = false
  stopPend : s.thm.stop = false → t.thm.stop = true → s.defLevel S.THM_STOP ≠ 0 → t.on (fltPend S.THM_STOP) = true
  locked : s.thm.stop = false → t.thm.stop = true → Armed s → s.saf.halted = false → s.flintStopped = false → t.on F.SAF_STAT_LOCKED = true

theorem stops_congr (ht : t.thm.stop = s.thm.stop) (h : ∀ y ∈ [F.THM_LIM_STOP_C, F.THM_LIM_STOP_HYST, F.THM_LIM_WARN_C], t.g y = s.g y) (die : Int) (rate : Bool) :
    stops t die rate = stops s die rate := by
  unfold stops
  rw [ht, h F.THM_LIM_STOP_C (by simp), h F.THM_LIM_STOP_HYST (by simp), h F.THM_LIM_WARN_C (by simp)]

theorem judged_leaves (s : State) (die : Int) (rate : Bool) (hot : Nat) : JudgeLeaves s die rate (judged s die rate hot) := by
  have hw := warnStep_leaves s die rate
  unfold judged
  generalize s.warnStep die rate = w at hw ⊢
  have hs := stopStep_leaves w die rate hot
  have hlims : ∀ y ∈ [F.THM_LIM_STOP_C, F.THM_LIM_STOP_HYST, F.THM_LIM_WARN_C], w.g y = s.g y := fun y hy => by
    obtain ⟨h1, h2⟩ := (by decide : ∀ y ∈ [F.THM_LIM_STOP_C, F.THM_LIM_STOP_HYST, F.THM_LIM_WARN_C], thmField y = true ∧ clear warnFields y = true) y hy
    exact hw.fields y h1 h2
  have hwstop : w.thm.stop = s.thm.stop := by rw [hw.thm]
  rw [stops_congr hwstop hlims] at hs
  generalize w.stopStep die rate hot = u at hs ⊢
  unfold State.thmLevel
  have hthm : (u.put F.THM_STAT_LEVEL (if u.thm.stop then 2 else if u.thm.warn then 1 else 0)).thm = u.thm := put_thm ..
  have hwarn : u.thm.warn = warns s die rate := hs.warn.trans (by rw [hw.thm])
  have hbit : ∀ y, sep F.THM_STAT_LEVEL y = true → (u.put F.THM_STAT_LEVEL (if u.thm.stop then 2 else if u.thm.warn then 1 else 0)).on y = u.on y :=
    fun y hy => on_put_sep _ _ hy
  have hpend : ∀ j, j < 75 → sep F.THM_STAT_LEVEL (fltPend j) = true := by decide
  have hunit : ∀ p ∈ stopUnits, sep F.THM_STAT_LEVEL (F.UNIT_CTRL_ENABLE p) = true := by decide
  refine ⟨by rw [hthm, hs.round, hw.thm], by rw [hthm, hs.first, hw.thm], by rw [hthm, hwarn], by rw [hthm, hs.stop], ?_, fun y hy hc => ?_,
    fun h1 h2 h3 => ?_, fun h1 h2 p hp => ?_, fun h1 h2 h3 => ?_, fun h1 h2 ha hh hf => ?_⟩
  · rw [hthm]
    refine g_put_room _ ?_
    split_ifs <;> decide
  · simp only [judgeFields, clear, List.all_cons, List.all_append, Bool.and_eq_true] at hc
    obtain ⟨hc1, hc2, hc3⟩ := hc
    exact (g_put_other _ _ _ _ (by decide) hc1).trans ((hs.fields y hy hc3).trans (hw.fields y hy hc2))
  · rw [hthm] at h2
    exact (hbit _ (hpend _ (by decide))).trans (hs.keeps _ (by decide) (hw.pend h1 (hwarn.symm.trans h2) h3))
  · rw [hthm] at h2
    exact (hbit _ (hunit p hp)).trans (hs.off (hwstop.trans h1) (hs.stop.symm.trans h2) p hp)
  · rw [hthm] at h2
    exact (hbit _ (hpend _ (by decide))).trans (hs.pend (hwstop.trans h1) (hs.stop.symm.trans h2) (by rw [hw.level]; exact h3))
  · rw [hthm] at h2
    refine (hbit _ (by decide)).trans (hs.locked (hwstop.trans h1) (hs.stop.symm.trans h2) (hw.armed ha) (hw.flint.1.trans hh) (Eq.trans ?_ hf))
    rw [State.flintStopped, State.flintStopped, hw.flint.2]

/-- The rest of a round, whichever it is, keeps what the judgement leaves. -/
theorem tail_leaves {codes : List Nat} (first : Bool) (die d : Int) (rate : Bool) (h : JudgeLeaves s die rate t) :
    JudgeLeaves s die rate (if first then t.trimRound d else (t.trimRound d).otherChannels codes) := by
  obtain ⟨htrim, htrimg⟩ := trimRound_rests t d
  have hpend : ∀ j, j < 75 → groupPage (fltPend j).page ≠ 0x48 := fun j _ => by simp [fltPend, groupPage]
  have hunit : ∀ p ∈ stopUnits, groupPage (F.UNIT_CTRL_ENABLE p).page ≠ 0x48 := by decide
  have hthmPage : ∀ y, thmField y = true → groupPage y.page ≠ 0x48 ∧ y.page = 0x04 := fun y hy => by
    have hp := (thmField_iff.1 hy).2
    exact ⟨by rw [hp]; decide, hp⟩
  have htrimmed : JudgeLeaves s die rate (t.trimRound d) :=
    ⟨by rw [htrim, h.round], by rw [htrim, h.first], by rw [htrim, h.warn], by rw [htrim, h.stop], by rw [htrim, htrimg _ (by decide), h.level],
      fun y hy hc => (htrimg y (hthmPage y hy).1).trans (h.fields y hy hc),
      fun h1 h2 h3 => (on_congr (htrimg _ (hpend _ (by decide)))).trans (h.warnPend h1 (htrim ▸ h2) h3),
      fun h1 h2 p hp => (on_congr (htrimg _ (hunit p hp))).trans (h.off h1 (htrim ▸ h2) p hp),
      fun h1 h2 h3 => (on_congr (htrimg _ (hpend _ (by decide)))).trans (h.stopPend h1 (htrim ▸ h2) h3),
      fun h1 h2 h3 h4 h5 => (on_congr (htrimg _ (by decide))).trans (h.locked h1 (htrim ▸ h2) h3 h4 h5)⟩
  split
  · exact htrimmed
  · generalize t.trimRound d = w at htrimmed
    obtain ⟨hch, hchg⟩ := channels_rest w codes
    exact ⟨by rw [hch, htrimmed.round], by rw [hch, htrimmed.first], by rw [hch, htrimmed.warn], by rw [hch, htrimmed.stop], by rw [hch, hchg _ rfl, htrimmed.level],
      fun y hy hc => (hchg y (hthmPage y hy).2).trans (htrimmed.fields y hy hc),
      fun h1 h2 h3 => otherChannels_bystander (bystander_pend (by decide)) codes (htrimmed.warnPend h1 (hch ▸ h2) h3),
      fun h1 h2 p hp => otherChannels_bystander (bystander_enable p hp) codes (htrimmed.off h1 (hch ▸ h2) p hp),
      fun h1 h2 h3 => otherChannels_bystander (bystander_pend (by decide)) codes (htrimmed.stopPend h1 (hch ▸ h2) h3),
      fun h1 h2 h3 h4 h5 => otherChannels_bystander bystander_locked codes (htrimmed.locked h1 (hch ▸ h2) h3 h4 h5)⟩


/-- What is read and shown before the windows and the judgement. -/
def earlyFields : List Fld := takenFields ++ sensedFields ++ hotFields ++ datedFields

theorem trims_of (h : t.fus = s.fus) (hn : ∀ n, n < 4 → s.thsTrim n 3 ≠ s.thsTrim n 1) : ∀ n, n < 4 → t.thsTrim n 3 ≠ t.thsTrim n 1 := fun n hlt => by
  rw [thsTrim_congr h, thsTrim_congr h]
  exact hn n hlt

/-- The state before the windows of a kept round, as its readings leave it. -/
structure ReadLeaves (s : State) (codes : List Nat) (k : Nat) (die cold : Int) (u : State) : Prop where
  sensors : ∀ n, n < 4 → Sensed s codes n u
  ok : u.on F.THM_STAT_ROUND_OK = true
  count : u.g F.THM_ROUNDS_COUNT = (s.g F.THM_ROUNDS_COUNT + 1) % 2 ^ 32
  codes : ∀ i, i < k → codes.getD i 0 < 4096 → u.g (F.THM_CH_CODE i) = codes.getD i 0
  hot : u.g F.THM_HOT_MAX = unsigned 16 die
  cold : u.g F.THM_HOT_MIN = unsigned 16 cold
  rise : u.on F.THM_STAT_RISE_ACT = s.rateHolds die
  thm : u.thm.round = none ∧ u.thm.firstDue = false ∧ u.thm.warn = s.thm.warn ∧ u.thm.stop = s.thm.stop
  rest : ∀ y, thmField y = true → clear earlyFields y = true → u.g y = s.g y
  fits : s.Fits (Foot.of [0x00, 0x02, 0x04, 0x40, 0x50, 0x68, 0x70, 0x71] [.flt, .evr, .saf, .lanes, .thm, .fresh]) u
  level : ∀ j, j < 75 → u.defLevel j = s.defLevel j
  armed : Armed s → Armed u
  halted : u.saf.halted = s.saf.halted

theorem level_of_only {fs : List Fld} {ps : List Part} (h : s.Only fs ps t) (hc : clear fs F.FLT_CTRL_MODE = true) {j : Nat} (hj : clear fs (fltSev j) = true) :
    t.defLevel j = s.defLevel j := by
  rw [State.defLevel, State.defLevel, only_on h hc, only_g h hj]

theorem armed_detect (s : State) (pages : List Nat) (i inst : Nat) (h : Armed s) : Armed (s.detect pages i inst 0 false) := by
  unfold State.detect
  split
  · exact armed_congr (by rw [within_saf (conseq_fits s i inst 0 (le_self _) (fits_refl _ s)).within rfl rfl])
      (on_congr (fits_g (conseq_fits s i inst 0 (le_self _) (fits_refl _ s)) rfl (by decide))) h
  · exact armed_raise s i inst h

theorem detect_halted (s : State) (pages : List Nat) (i inst addr : Nat) : (s.detect pages i inst addr false).saf.halted = s.saf.halted := by
  unfold State.detect
  split
  · rw [within_saf (conseq_fits s i inst addr (le_self _) (fits_refl _ s)).within rfl rfl]
  · exact (flint_reacts s (Q := fun a => a.halted = s.saf.halted) (fun _ _ _ h => h) (fun _ _ h => h)).raiseWith i inst addr false false id rfl

/-- Of the core's state the sensors' report leaves the levels, the arming and the halt. -/
theorem sensed_core (s : State) (codes : List Nat) (h : ∀ n, n < 4 → s.thsTrim n 3 ≠ s.thsTrim n 1) :
    (∀ j, j < 75 → (sensed s codes).defLevel j = s.defLevel j) ∧ (Armed s → Armed (sensed s codes)) ∧ (sensed s codes).saf.halted = s.saf.halted := by
  have hread : s.Only sensedFields [] (readAll s codes) := only_mono (fun _ hx => List.mem_cons_of_mem _ (List.mem_cons_of_mem _ (List.mem_cons_of_mem _ hx)))
    (fun _ hx => hx) (readAll_only s codes h)
  have hval : s.Only sensedFields [] ((readAll s codes).put F.THM_STAT_VALID ((readAll s codes).goodSensors.foldl (fun v n => v + 2 ^ n) 0)) :=
    only_put _ (by simp [sensedFields]) (by decide) hread
  have hevt : s.Only sensedFields [] (((readAll s codes).put F.THM_STAT_VALID ((readAll s codes).goodSensors.foldl (fun v n => v + 2 ^ n) 0)).evt F.THM_EVT_SENS_INV) :=
    only_evt (by simp [sensedFields]) (by simp [sensedFields, F.THM_EVT_SENS_INV]) (by decide) hval
  have hsev : ∀ j < 75, clear sensedFields (fltSev j) = true := by decide
  have hcore : ∀ {v : State}, s.Only sensedFields [] v → (∀ j, j < 75 → v.defLevel j = s.defLevel j) ∧ (Armed s → Armed v) ∧ v.saf.halted = s.saf.halted :=
    fun {v} hv => ⟨fun j hj => level_of_only hv (by decide) (hsev j hj), fun ha => armed_congr (by rw [hv.parts.saf (by decide)]) (only_on hv (by decide)) ha,
      by rw [hv.parts.saf (by decide)]⟩
  unfold sensed
  dsimp only
  split_ifs
  · obtain ⟨h1, h2, h3⟩ := hcore hevt
    exact ⟨fun j hj => (detect_level _ _ 0 0 false (by decide) hj).trans (h1 j hj), fun ha => armed_detect _ _ _ _ (h2 ha), (detect_halted _ _ _ _ _).trans h3⟩
  · exact hcore hval

theorem read_leaves {codes : List Nat} {k : Nat} (hk : k ≤ 20) (h : ∀ n, n < 4 → s.thsTrim n 3 ≠ s.thsTrim n 1) (hc : ∀ n, n < 4 → codes.getD n 0 < 4096)
    (die cold : Int) (hot : Nat) :
    ReadLeaves s codes k die cold (dated (reported ((sensed (taken s codes k) codes).withFresh ((sensed (taken s codes k) codes).fresh + 1)) die cold hot) die)
      ∧ (reported ((sensed (taken s codes k) codes).withFresh ((sensed (taken s codes k) codes).fresh + 1)) die cold hot).rateHolds die = s.rateHolds die := by
  have htaken := taken_only s codes hk
  obtain ⟨ht1, ht2, ht3, ht4⟩ := taken_leaves s codes hk
  have htfit : s.Fits (Foot.of [0x00, 0x02, 0x04, 0x40, 0x50, 0x68, 0x70, 0x71] [.flt, .evr, .saf, .lanes, .thm, .fresh]) (taken s codes k) :=
    put_fits _ rfl (fits_foldl _ _ (fun i _ u hu => put_fits _ rfl hu) (withThm_fits _ rfl (put_fits _ rfl (fits_refl _ s))))
  have htsev : ∀ j < 75, clear takenFields (fltSev j) = true := by decide
  have htlev : ∀ j < 75, (taken s codes k).defLevel j = s.defLevel j := fun j hj => level_of_only htaken (by decide) (htsev j hj)
  have htfus : (taken s codes k).fus = s.fus := htaken.parts.fus (by decide)
  have htsaf : (taken s codes k).saf = s.saf := htaken.parts.saf (by decide)
  generalize taken s codes k = c at *
  have hsens := (sensed_sensors (trims_of htfus h) hc).1
  have hq : ∀ y, thmField y = true → clear sensedFields y = true → (sensed c codes).g y = c.g y := fun y hy hcl => by
    simp only [sensedFields, clear, List.all_cons, Bool.and_eq_true] at hcl
    obtain ⟨h1, h2, h3, h4⟩ := hcl
    exact (sensed_tail c codes hy (by simp [clear, validFields, h1, h2, h3])).trans (only_g (readAll_only c codes (trims_of htfus h)) h4)
  have hsthm := sensed_thm c codes
  obtain ⟨hslev, hsarm, hshalt⟩ := sensed_core c codes (trims_of htfus h)
  have hsfit := fits_mono (by decide) (sensed_fits c codes) (g := Foot.of [0x00, 0x02, 0x04, 0x40, 0x50, 0x68, 0x70, 0x71] [.flt, .evr, .saf, .lanes, .thm, .fresh])
  generalize sensed c codes = q at *
  have hpg : ∀ y, (q.withFresh (q.fresh + 1)).g y = q.g y := fun y => withFresh_g ..
  have hpfit : s.Fits (Foot.of [0x00, 0x02, 0x04, 0x40, 0x50, 0x68, 0x70, 0x71] [.flt, .evr, .saf, .lanes, .thm, .fresh]) (q.withFresh (q.fresh + 1)) :=
    withFresh_fits _ (by omega) rfl (fits_trans htfit hsfit)
  have hpthm : (q.withFresh (q.fresh + 1)).thm = { s.thm with round := none, firstDue := false } := (hsthm.trans ht1)
  have hpsaf : (q.withFresh (q.fresh + 1)).saf = q.saf := rfl
  generalize q.withFresh (q.fresh + 1) = p at *
  have hronly := reported_only p die cold hot
  obtain ⟨hr1, hr2⟩ := reported_leaves p die cold hot
  have hrfit := fits_trans hpfit (reported_fits p die cold hot)
  generalize reported p die cold hot = r at *
  have hdonly := dated_only r die
  obtain ⟨hd1, hd2, hd3, hd4, hd5⟩ := dated_leaves r die
  have hrthm : r.thm = { s.thm with round := none, firstDue := false } := (hronly.parts.thm (by decide)).trans hpthm
  have hdfit := fits_trans hrfit (dated_fits r die)
  have hdlev : ∀ j < 75, (dated r die).defLevel j = s.defLevel j := fun j hj => by
    have h1 := (by decide : ∀ j < 75, clear datedFields (fltSev j) = true ∧ clear hotFields (fltSev j) = true) j hj
    have hlevp : p.defLevel j = q.defLevel j := by rw [State.defLevel, State.defLevel, on_congr (hpg _), hpg]
    rw [level_of_only hdonly (by decide) h1.1, level_of_only hronly (by decide) h1.2, hlevp, hslev j hj, htlev j hj]
  generalize dated r die = d at *
  have hafter : ∀ y, clear datedFields y = true → clear hotFields y = true → d.g y = q.g y := fun y h1 h2 =>
    (only_g hdonly h1).trans ((only_g hronly h2).trans (hpg y))
  have hrate : r.rateHolds die = s.rateHolds die := by
    have hlim : ∀ y ∈ [F.THM_CTRL_ROUND_MS, F.THM_LIM_RISE], r.g y = s.g y := fun y hy => by
      obtain ⟨h1, h2, h3, h4⟩ := (by decide : ∀ y ∈ [F.THM_CTRL_ROUND_MS, F.THM_LIM_RISE], clear hotFields y = true ∧ thmField y = true ∧ clear sensedFields y = true
        ∧ clear takenFields y = true) y hy
      exact (only_g hronly h1).trans ((hpg y).trans ((hq y h2 h3).trans (only_g htaken h4)))
    exact rateHolds_congr (by rw [hrthm]) (hlim _ (by simp)) (hlim _ (by simp)) die
  have hsaf : d.saf = q.saf := (hdonly.parts.saf (by decide)).trans ((hronly.parts.saf (by decide)).trans hpsaf)
  refine ⟨⟨fun n hn => ?_, ?_, ?_, fun i hi hci => ?_, ?_, ?_, ?_, ?_, fun y hy hcl => ?_, hdfit, hdlev, fun ha => ?_, ?_⟩, hrate⟩
  · obtain ⟨h1, h2, h3⟩ := hsens n hn
    have hk := fun y hy => (by decide : ∀ n < 4, ∀ y ∈ [F.THM_DIE_TEMP n, F.THM_DIE_CODE n, F.THM_DIE_VALID n], clear datedFields y = true ∧ clear hotFields y = true) n hn y hy
    have hgo : ∀ y ∈ [F.THM_DIE_TEMP n, F.THM_DIE_CODE n, F.THM_DIE_VALID n], d.g y = q.g y := fun y hy => hafter y (hk y hy).1 (hk y hy).2
    rw [trimmed_congr htfus] at h1 h3
    exact ⟨(hgo _ (by simp)).trans h1, (hgo _ (by simp)).trans h2, (on_congr (hgo _ (by simp))).trans h3⟩
  · rw [on_congr (hafter _ (by decide) (by decide)), on_congr (hq _ (by decide) (by decide)), ht2]
  · rw [hafter _ (by decide) (by decide), hq _ (by decide) (by decide), ht3]
  · obtain ⟨h1, h2, h3, h4⟩ := (by decide : ∀ i < 20, clear datedFields (F.THM_CH_CODE i) = true ∧ clear hotFields (F.THM_CH_CODE i) = true
      ∧ thmField (F.THM_CH_CODE i) = true ∧ clear sensedFields (F.THM_CH_CODE i) = true) i (by omega)
    rw [hafter _ h1 h2, hq _ h3 h4, ht4 i hi hci]
  · rw [only_g hdonly (by decide), hr1]
  · rw [only_g hdonly (by decide), hr2]
  · rw [hd1, hrate]
  · rw [hd2, hd3, hd4, hd5, hrthm]
    exact ⟨rfl, rfl, rfl, rfl⟩
  · simp only [earlyFields, clear, List.all_append, Bool.and_eq_true] at hcl
    obtain ⟨⟨⟨h1, h2⟩, h3⟩, h4⟩ := hcl
    rw [hafter y h4 h3, hq y hy h2, only_g htaken h1]
  · have hlock : d.on F.SAF_STAT_LOCKED = q.on F.SAF_STAT_LOCKED := on_congr (hafter _ (by decide) (by decide))
    exact armed_congr (by rw [hsaf]) hlock (hsarm (armed_congr (by rw [htsaf]) (only_on htaken (by decide)) ha))
  · rw [hsaf, hshalt, htsaf]


/-- A kept round, from the state before its windows on. -/
theorem finished_leaves {die cold : Int} {hot : Nat} (codes : List Nat) (first : Bool) (hrate : (reported u die cold hot).rateHolds die = s.rateHolds die) :
    JudgeLeaves (windowed (dated (reported u die cold hot) die) die cold) die (s.rateHolds die) (finished u codes first die cold hot) := by
  unfold finished
  dsimp only
  rw [hrate]
  exact tail_leaves first die die _ (judged_leaves _ die _ hot)

/-- The codes of a round, as the channels show them. -/
def roundCodes (codes : List Nat) : List Nat := codes.map (fun c => c % 4096)

/-- The sensors of a round whose readings are valid. -/
def validOf (s : State) (l : List Nat) : List Nat := (List.range 4).filter (fun n => readingOk (l.getD n 0) (trimmed s l n))

/-- How many channels a round takes. -/
def channels (s : State) : Nat := if s.thm.firstDue then 5 else 20

theorem channels_le (s : State) : channels s ≤ 20 := by
  unfold channels
  split_ifs <;> omega

/-- A round that is kept, by its readings and its judgement. -/
theorem roundKept_leaves {codes : List Nat} {at_ : Nat} {die cold : Int} (h : s.thm.round = some at_)
    (ht : s.now - at_ ≤ ms (2 * s.g F.THM_CTRL_ROUND_MS)) (h1 : 1966 ≤ codes.getD 4 0 % 4096) (h2 : codes.getD 4 0 % 4096 ≤ 2130)
    (htrim : ∀ n, n < 4 → s.thsTrim n 3 ≠ s.thsTrim n 1)
    (hd : die ∈ (validOf s (roundCodes codes)).map (trimmed s (roundCodes codes))) (hd' : ∀ n ∈ validOf s (roundCodes codes), trimmed s (roundCodes codes) n ≤ die)
    (hc : cold ∈ (validOf s (roundCodes codes)).map (trimmed s (roundCodes codes))) (hc' : ∀ n ∈ validOf s (roundCodes codes), cold ≤ trimmed s (roundCodes codes) n) :
    ∃ d t, exec (.housekeepingRoundEnd codes) s = .next t ∧ ReadLeaves s.begin (roundCodes codes) (channels s) die cold d
      ∧ JudgeLeaves (windowed d die cold) die (s.rateHolds die) t := by
  have hlt : ∀ n, n < 4 → (roundCodes codes).getD n 0 < 4096 := fun n _ => by
    rw [roundCodes, codes_getD]
    omega
  have hfus : (taken s.begin (roundCodes codes) (channels s)).fus = s.fus := (taken_only s.begin _ (channels_le s)).parts.fus (by decide)
  obtain ⟨-, hgood, hdie⟩ := sensed_sensors (trims_of hfus htrim) hlt
  have hvalid : (sensed (taken s.begin (roundCodes codes) (channels s)) (roundCodes codes)).goodSensors = validOf s (roundCodes codes) := by
    rw [hgood]
    exact List.filter_congr (fun n _ => by rw [trimmed_congr hfus])
  have hsame : ∀ n ∈ validOf s (roundCodes codes), (sensed (taken s.begin (roundCodes codes) (channels s)) (roundCodes codes)).dieT n = trimmed s (roundCodes codes) n :=
    fun n hn => (hdie n (hvalid ▸ hn)).trans (trimmed_congr hfus _ n)
  have hmap := List.map_congr_left hsame
  obtain ⟨hot, hdies⟩ := dieTemps_of (s := sensed (taken s.begin (roundCodes codes) (channels s)) (roundCodes codes)) (die := die) (cold := cold)
    (by rw [hvalid, hmap]; exact hd) (fun n hn => by rw [hvalid] at hn; rw [hsame n hn]; exact hd' n hn) (by rw [hvalid, hmap]; exact hc)
    (fun n hn => by rw [hvalid] at hn; rw [hsame n hn]; exact hc' n hn)
  obtain ⟨hr, hrate⟩ := read_leaves (channels_le s) (trims_of (t := s.begin) rfl htrim) hlt die cold hot
  have hbegin : s.begin.rateHolds die = s.rateHolds die := rateHolds_congr rfl (begin_g ..) (begin_g ..) die
  exact ⟨_, _, exec_roundKept h ht h1 h2 hdies, hr, finished_leaves _ _ (hrate.trans hbegin)⟩

/-! ### A round that is discarded -/

/-- What a round that is discarded leaves. -/
theorem discardRound_leaves (s : State) :
    s.discardRound.thm = { s.thm with round := none, hist := [] } ∧ s.discardRound.on F.THM_STAT_ROUND_OK = false ∧ s.discardRound.on F.THM_EVT_ADC = true
      ∧ (s.quiet 0x04 = false → s.defLevel S.THM_ADC ≠ 0 → s.discardRound.on (fltPend S.THM_ADC) = true)
      ∧ (∀ n, n < 4 → s.discardRound.g (F.THM_DIE_TEMP n) = s.g (F.THM_DIE_TEMP n)) := by
  unfold State.discardRound
  extract_lets src w
  have honly : s.Only [F.THM_STAT_ROUND_OK, F.THM_EVT_ADC, F.UNIT_IRQ_STAT_EVT 0x04] [.thm] ((w.put F.THM_STAT_ROUND_OK 0).evt F.THM_EVT_ADC) :=
    only_evt (by simp) (by simp [F.THM_EVT_ADC]) (by decide) (only_put _ (by simp) (by decide) (only_withThm (by simp) (only_refl _ _ s)))
  have hthm : ((w.put F.THM_STAT_ROUND_OK 0).evt F.THM_EVT_ADC).thm = { s.thm with round := none, hist := [] } := (evt_thm ..).trans (put_thm ..)
  have hok : ((w.put F.THM_STAT_ROUND_OK 0).evt F.THM_EVT_ADC).on F.THM_STAT_ROUND_OK = false := (on_evt_sep _ (by decide) (by decide)).trans (on_put_clear _ (by decide))
  have hevt : ((w.put F.THM_STAT_ROUND_OK 0).evt F.THM_EVT_ADC).on F.THM_EVT_ADC = true := on_evt_self _ (by decide)
  generalize (w.put F.THM_STAT_ROUND_OK 0).evt F.THM_EVT_ADC = v at *
  have hquiet : v.quiet 0x04 = s.quiet 0x04 := by rw [State.quiet, State.quiet, honly.parts.rst (by decide)]
  refine ⟨?_, (on_congr (detect_thm v _ _ _ _ _ (by decide))).trans hok, (on_congr (detect_thm v _ _ _ _ _ (by decide))).trans hevt, fun hq hd => ?_, fun n hn => ?_⟩
  · exact (within_thm (detect_fits (g := Foot.reaction [0x02, 0x04] []) v _ _ _ _ _ rfl (by decide) (fits_refl _ v)).within rfl rfl).trans hthm
  · exact detect_pend v 0 0 false (by simp [hquiet, hq]) (by decide) (by rw [level_of_only honly (by decide) (by decide)]; exact hd)
  · obtain ⟨h1, h2⟩ := (by decide : ∀ n < 4, thmField (F.THM_DIE_TEMP n) = true ∧ clear [F.THM_STAT_ROUND_OK, F.THM_EVT_ADC, F.UNIT_IRQ_STAT_EVT 0x04] (F.THM_DIE_TEMP n) = true) n hn
    exact (detect_thm v _ _ _ _ _ h1).trans (only_g honly h2)

theorem discardRound_within {s0 : State} (h : s0.Fits (Foot.reaction [0x02, 0x04] [.thm]) s) : s0.Fits (Foot.reaction [0x02, 0x04] [.thm]) s.discardRound :=
  discardRound_fits s (by decide) h

theorem exec_roundBad {codes : List Nat} {at_ : Nat} (h : s.thm.round = some at_)
    (hbad : ms (2 * s.g F.THM_CTRL_ROUND_MS) < s.now - at_ ∨ codes.getD 4 0 % 4096 < 1966 ∨ 2130 < codes.getD 4 0 % 4096) :
    exec (.housekeepingRoundEnd codes) s = .next (s.begin.inc F.THM_ROUNDS_COUNT).discardRound := by
  have hcode := codes_getD codes 4
  show execHousekeepingRoundEnd codes s = _
  unfold execHousekeepingRoundEnd
  dsimp only
  rw [show s.begin.thm = s.thm from rfl, h]
  dsimp only
  generalize codes.map (fun c => c % 4096) = l at hcode ⊢
  have hg : (s.begin.inc F.THM_ROUNDS_COUNT).g F.THM_CTRL_ROUND_MS = s.g F.THM_CTRL_ROUND_MS := (g_put_sep _ _ (by decide)).trans (begin_g ..)
  have hnow : (s.begin.inc F.THM_ROUNDS_COUNT).now = s.now := (put_now ..).trans rfl
  have hcond : (decide (ms (2 * (s.begin.inc F.THM_ROUNDS_COUNT).g F.THM_CTRL_ROUND_MS) < (s.begin.inc F.THM_ROUNDS_COUNT).now - at_)
      || decide (l.getD 4 0 < 1966) || decide (2130 < l.getD 4 0)) = true := by
    rw [hg, hnow, hcode]
    simpa [or_assoc] using hbad
  rw [hcond, if_pos rfl]

theorem exec_timeout {at_ : Nat} (h : s.thm.round = some at_) : exec .roundTimeout s = .next s.begin.discardRound :=
  congrArg Host.Outcome.next (if_pos (by rw [show s.begin.thm = s.thm from rfl, h]; rfl))

theorem exec_noRound (codes : List Nat) (h : s.thm.round = none) : exec (.housekeepingRoundEnd codes) s = .next s.begin ∧ exec .roundTimeout s = .next s.begin := by
  refine ⟨?_, congrArg Host.Outcome.next (if_neg (by rw [show s.begin.thm = s.thm from rfl, h]; decide))⟩
  show execHousekeepingRoundEnd codes s = _
  unfold execHousekeepingRoundEnd
  dsimp only
  rw [show s.begin.thm = s.thm from rfl, h]

/-- The clause of a discarded round, from any state that only the count of rounds tells from the command's. -/
theorem discarded_leaves (hu : s.begin.Only [F.THM_ROUNDS_COUNT] [] u) :
    u.discardRound.thm = { s.thm with round := none, hist := [] } ∧ u.discardRound.on F.THM_STAT_ROUND_OK = false ∧ u.discardRound.on F.THM_EVT_ADC = true
      ∧ (s.quiet 0x04 = false → s.defLevel S.THM_ADC ≠ 0 → u.discardRound.on (fltPend S.THM_ADC) = true)
      ∧ (∀ n, n < 4 → u.discardRound.g (F.THM_DIE_TEMP n) = s.g (F.THM_DIE_TEMP n)) := by
  obtain ⟨h1, h2, h3, h4, h5⟩ := discardRound_leaves u
  have hthm : u.thm = s.thm := hu.parts.thm (by decide)
  have hquiet : u.quiet 0x04 = s.quiet 0x04 := by
    rw [State.quiet, State.quiet, hu.parts.rst (by decide)]
    rfl
  have hlev : u.defLevel S.THM_ADC = s.defLevel S.THM_ADC := (level_of_only hu (by decide) (by decide)).trans (by rw [State.defLevel, State.defLevel, begin_on, begin_g])
  have hdie : ∀ n < 4, clear [F.THM_ROUNDS_COUNT] (F.THM_DIE_TEMP n) = true := by decide
  exact ⟨by rw [h1, hthm], h2, h3, fun hq hd => h4 (hquiet.trans hq) (by rw [hlev]; exact hd), fun n hn => (h5 n hn).trans ((only_g hu (hdie n hn)).trans (begin_g ..))⟩

/-- Settles O44: the start, the kept round by `roundKept_leaves`, the discarded one, and none. -/
theorem housekeeping : Obligations.Housekeeping := by
  refine ⟨fun s h hr => ⟨_, exec_roundStart h hr, rfl, only_withThm (by simp) (only_refl _ _ _)⟩, fun s h => exec_roundStart_rests h,
    fun s codes at_ die cold h ht h1 h2 htrim => ?_, fun s c at_ codes h hc => ?_, fun s codes h => exec_noRound codes h⟩
  · intro code T good hd hd' hcold hcold'
    have hcode : ∀ n, (roundCodes codes).getD n 0 = code n := codes_getD codes
    have hT : trimmed s (roundCodes codes) = T := funext (fun n => by rw [trimmed, hcode])
    have hgood : validOf s (roundCodes codes) = good := List.filter_congr (fun n _ => by rw [hcode, hT])
    obtain ⟨d, t, hrun, hr, hj⟩ := roundKept_leaves (die := die) (cold := cold) h ht h1 h2 htrim (by rw [hgood, hT]; exact hd)
      (by rw [hgood, hT]; exact hd') (by rw [hgood, hT]; exact hcold) (by rw [hgood, hT]; exact hcold')
    obtain ⟨hw1, hw2, hw3, hw4⟩ := windowed_leaves d die cold
    obtain ⟨hs1, hs2, hs3, hs4, hs5⟩ := hw3.fields
    obtain ⟨hd1, hd2, hd3, hd4⟩ := hr.thm
    have hb : ∀ y, s.begin.g y = s.g y := fun y => begin_g ..
    have hlate : ∀ y, thmField y = true → clear judgeFields y = true → clear windowFields y = true → t.g y = d.g y := fun y h1 h2 h3 =>
      (hj.fields y h1 h2).trans (hw4 y (thmField_iff.1 h1).2 h3)
    have hmid : ∀ y, thmField y = true → clear earlyFields y = true → clear windowFields y = true → (windowed d die cold).g y = s.g y := fun y h1 h2 h3 =>
      (hw4 y (thmField_iff.1 h1).2 h3).trans ((hr.rest y h1 h2).trans (hb y))
    have hwarn : (windowed d die cold).thm.warn = s.thm.warn := hs4.trans hd3
    have hstop : (windowed d die cold).thm.stop = s.thm.stop := hs5.trans hd4
    have hlim : ∀ y ∈ [F.THM_LIM_WARN_C, F.THM_LIM_WARN_HYST, F.THM_LIM_STOP_C, F.THM_LIM_STOP_HYST], (windowed d die cold).g y = s.g y := fun y hy => by
      obtain ⟨k1, k2, k3⟩ := (by decide : ∀ y ∈ [F.THM_LIM_WARN_C, F.THM_LIM_WARN_HYST, F.THM_LIM_STOP_C, F.THM_LIM_STOP_HYST],
        thmField y = true ∧ clear earlyFields y = true ∧ clear windowFields y = true) y hy
      exact hmid y k1 k2 k3
    have hwfit := windowed_fits d die cold
    have hlev : ∀ j, j < 75 → (windowed d die cold).defLevel j = s.defLevel j := fun j hj' =>
      (fits_defLevel hwfit rfl (by decide) j).trans ((hr.level j hj').trans (by rw [State.defLevel, State.defLevel, begin_on, begin_g]))
    have hwsaf : (windowed d die cold).saf = d.saf := within_saf hwfit.within rfl rfl
    have hflint : (windowed d die cold).flintStopped = s.flintStopped := by
      rw [State.flintStopped, State.flintStopped, within_pwr hwfit.within rfl rfl, within_pwr hr.fits.within rfl rfl]
      rfl
    have harmed : Armed (windowed d die cold) :=
      armed_congr (by rw [hwsaf]) (on_congr (fits_g hwfit rfl (by decide))) (hr.armed (.inl rfl))
    refine ⟨t, hrun, hj.round.trans (hs1.trans hd1), hj.first.trans (hs2.trans hd2), ?_, ?_, fun i hi => ?_, fun n hn => ?_, ?_, ?_, ?_, ?_, ?_, ?_, ?_, hj.level,
      fun h1 h2 h3 => hj.warnPend (hwarn.trans h1) h2 (by rw [hlev _ (by decide)]; exact h3), fun h1 h2 => ?_⟩
    · rw [on_congr (hlate _ (by decide) (by decide) (by decide)), hr.ok]
    · rw [hlate _ (by decide) (by decide) (by decide), hr.count, hb]
    · have hi20 : i < 20 := lt_of_lt_of_le hi (channels_le s)
      obtain ⟨k1, k2, k3⟩ := (by decide : ∀ i < 20, thmField (F.THM_CH_CODE i) = true ∧ clear judgeFields (F.THM_CH_CODE i) = true
        ∧ clear windowFields (F.THM_CH_CODE i) = true) i hi20
      rw [hlate _ k1 k2 k3, hr.codes i hi (by rw [hcode]; exact Nat.mod_lt _ (by decide)), hcode]
    · have hk := (by decide : ∀ n < 4, ∀ y ∈ [F.THM_DIE_TEMP n, F.THM_DIE_CODE n, F.THM_DIE_VALID n], thmField y = true ∧ clear judgeFields y = true
        ∧ clear windowFields y = true) n hn
      have hgo : ∀ y ∈ [F.THM_DIE_TEMP n, F.THM_DIE_CODE n, F.THM_DIE_VALID n], t.g y = d.g y := fun y hy => hlate y (hk y hy).1 (hk y hy).2.1 (hk y hy).2.2
      obtain ⟨c1, c2, c3⟩ := hr.sensors n hn
      have hTb : trimmed s.begin (roundCodes codes) n = T n := (trimmed_congr rfl _ n).trans (congrFun hT n)
      rw [hTb] at c1 c3
      rw [hcode] at c2 c3
      exact ⟨(hgo _ (by simp)).trans c1, (hgo _ (by simp)).trans c2, (on_congr (hgo _ (by simp))).trans c3⟩
    · rw [hlate _ (by decide) (by decide) (by decide), hr.hot]
    · rw [hlate _ (by decide) (by decide) (by decide), hr.cold]
    · rw [on_congr (hj.fields _ (by decide) (by decide)), hw1, on_congr (hr.rest _ (by decide) (by decide)), begin_on]
    · rw [on_congr (hj.fields _ (by decide) (by decide)), hw2, on_congr (hr.rest _ (by decide) (by decide)), begin_on]
    · rw [on_congr (hlate _ (by decide) (by decide) (by decide)), hr.rise]
      exact rateHolds_congr rfl (hb _) (hb _) die
    · rw [hj.warn, warns, hwarn, hlim F.THM_LIM_WARN_C (by simp), hlim F.THM_LIM_WARN_HYST (by simp)]
    · rw [hj.stop, stops, hstop, hlim F.THM_LIM_STOP_C (by simp), hlim F.THM_LIM_STOP_HYST (by simp), hlim F.THM_LIM_WARN_C (by simp)]
    · have hu := hj.off (hstop.trans h1) h2
      exact ⟨hu _ (by simp [stopUnits]), hu _ (by simp [stopUnits]), hu _ (by simp [stopUnits]),
        fun h3 => hj.stopPend (hstop.trans h1) h2 (by rw [hlev _ (by decide)]; exact h3),
        fun h3 h4 => hj.locked (hstop.trans h1) h2 harmed (by rw [hwsaf, hr.halted]; exact h3) (hflint.trans h4)⟩
  · have hmain : ∃ u, exec c s = .next u.discardRound ∧ s.begin.Only [F.THM_ROUNDS_COUNT] [] u ∧ s.Fits (Foot.reaction [0x02, 0x04] [.thm]) u := by
      rcases hc with rfl | ⟨rfl, hbad⟩
      · exact ⟨_, exec_timeout h, only_refl _ _ _, begin_fits s (by decide) (fits_refl _ s)⟩
      · exact ⟨_, exec_roundBad h hbad, only_put _ (by simp) (by decide) (only_refl _ _ _), put_fits _ rfl (begin_fits s (by decide) (fits_refl _ s))⟩
    obtain ⟨u, hrun, hu, hfit⟩ := hmain
    obtain ⟨g1, g2, g3, g4, g5⟩ := discarded_leaves hu
    exact ⟨_, hrun, g1, g2, g3, g4, g5, (discardRound_within hfit).within⟩

end Sys2Proof.Proofs.ThermalRounds
end

section
/-! PROOF. Messages of the tile status bus (TsbMessages). -/

namespace Sys2Proof.Proofs.TileMessages

open Sys2Proof.Machine Sys2Proof.Laws Sys2Proof.Proofs.Architecture Sys2Proof.Proofs.Reading Sys2Proof.Proofs.GovernorSums
  Sys2Proof.Proofs.PendingFaults Sys2Proof.Proofs.LampReactions Sys2Proof.Proofs.LampLanes Sys2Proof.Proofs.FrameDeferral Sys2Proof.Proofs.FaultWrites
  Sys2Proof.Proofs.FrameFlips Sys2Proof.Proofs.FlintLockOut

variable {s t u v : State} {f : Fld} {n : Nat}

/-! ### The message and its check -/

/-- The four messages that a tile sends. -/
def messages (n : Nat) (w : BitVec 64) : List Instr := [.tsbStatus n w, .tsbUidLo n w, .tsbUidHi n w, .tsbCap n w]

theorem message_good {w : BitVec 64} (hc : crc8 w = w.toNat % 256) (ha : s.armed S.TL_MSG_CRC = false) : s.message n w = (true, s) := by
  simp [State.message, State.consumeInj, ha, hc]

/-- A message whose CRC-8 fails, or is made to fail: counted and reported. -/
def badMessage (s : State) (n : Nat) : State :=
  (((s.consumeInj S.TL_MSG_CRC).evt (F.TL_EVT_MSG_CRC n)).incSat (F.TL_CNT_ERR_MSG_CRC n)).raiseWith S.TL_MSG_CRC n 0 (s.armed S.TL_MSG_CRC) false

theorem message_bad {w : BitVec 64} (hc : crc8 w ≠ w.toNat % 256) : s.message n w = (false, badMessage s n) := by
  unfold State.message
  dsimp only
  exact if_neg (by simp [hc])

theorem exec_unheard {w : BitVec 64} {c : Instr} (h : s.hears n = false) (hc : c ∈ messages n w) : exec c s = .next s.begin := by
  have hb : ¬ s.begin.hears n = true := by simp [show s.begin.hears n = s.hears n from rfl, h]
  simp only [messages, List.mem_cons, List.not_mem_nil, or_false] at hc
  rcases hc with rfl | rfl | rfl | rfl <;> exact congrArg Host.Outcome.next (if_neg hb)

theorem exec_bad {w : BitVec 64} {c : Instr} (h : s.hears n = true) (hcrc : crc8 w ≠ w.toNat % 256) (hc : c ∈ messages n w) :
    exec c s = .next (badMessage s.begin n) := by
  have hb : s.begin.hears n = true := h
  have hm : s.begin.message n w = (false, badMessage s.begin n) := message_bad hcrc
  simp only [messages, List.mem_cons, List.not_mem_nil, or_false] at hc
  rcases hc with rfl | rfl | rfl | rfl
  · exact congrArg Host.Outcome.next ((if_pos hb).trans (by rw [hm]; rfl))
  · exact congrArg Host.Outcome.next ((if_pos hb).trans (by rw [hm]; rfl))
  · exact congrArg Host.Outcome.next ((if_pos hb).trans (by rw [hm]; rfl))
  · exact congrArg Host.Outcome.next ((if_pos hb).trans (by rw [hm]; rfl))

/-- The fields of an injection that is spent. -/
def injFields : List Fld := [F.FLT_INJ_STATE, F.FLT_INJ_ARM, F.FLT_EVT_INJ_DONE, F.UNIT_IRQ_STAT_EVT 0x70, F.FLT_CNT_INJECTED, F.FLT_ALARM_INJ_SEEN]

theorem consume_only (s : State) (i : Nat) : s.Only injFields [] (s.consumeInj i) := by
  unfold State.consumeInj
  refine only_ite (fun _ => ?_) (fun _ => only_refl _ _ s)
  exact only_put _ (by simp [injFields]) (by decide) (only_incSat (by simp [injFields]) (by decide) (only_evt (by simp [injFields]) (by simp [injFields, F.FLT_EVT_INJ_DONE]) (by decide)
    (only_put _ (by simp [injFields]) (by decide) (only_put _ (by simp [injFields]) (by decide) (only_refl _ _ s)))))

/-- A fault that is CORRECTED at most takes no trigger, injected or not. -/
theorem raiseWith_low (s : State) {i : Nat} (inst addr : Nat) (inj : Bool) (hd : s.defLevel i ≤ 1) :
    s.raiseWith i inst addr inj false = s.raiseWith i inst addr inj true := by
  unfold State.raiseWith
  extract_lets d esc e fl s1
  split
  extract_lets s3 s4 s5 s6
  have he : e ≠ 3 := by
    show (if esc then min 3 (d + 1) else d) ≠ 3
    have : d ≤ 1 := hd
    split_ifs <;> omega
  simp [he]

theorem lanes_core (l : List Lane) : CoreReacts (fun u => u.lanes = l) := ⟨fun _ _ _ hu => (put_lanes ..).trans hu, fun _ hu => hu, fun _ hu => hu⟩

theorem tl_places : ∀ n < 8, lampField (F.TL_EVT_MSG_CRC n) = true ∧ lampField (F.TL_CNT_ERR_MSG_CRC n) = true ∧ sep (F.TL_CNT_ERR_MSG_CRC n) (F.TL_EVT_MSG_CRC n) = true
    ∧ sep (F.TL_EVT_MSG_CRC n) (F.TL_CNT_ERR_MSG_CRC n) = true ∧ sep (F.UNIT_IRQ_STAT_EVT (F.TL_EVT_MSG_CRC n).page) (F.TL_CNT_ERR_MSG_CRC n) = true
    ∧ clear injFields (F.TL_CNT_ERR_MSG_CRC n) = true := by decide

theorem badMessage_leaves (s : State) (hn : n < 8) :
    (badMessage s n).on (F.TL_EVT_MSG_CRC n) = true
      ∧ (badMessage s n).g (F.TL_CNT_ERR_MSG_CRC n) = min (F.TL_CNT_ERR_MSG_CRC n).top (s.g (F.TL_CNT_ERR_MSG_CRC n) + 1)
      ∧ (s.defLevel S.TL_MSG_CRC ≠ 0 → (badMessage s n).on (fltPend S.TL_MSG_CRC) = true)
      ∧ (s.defLevel S.TL_MSG_CRC ≤ 1 → (badMessage s n).lanes = s.lanes) := by
  obtain ⟨h1, h2, h3, h4, h5, h6⟩ := tl_places n hn
  have hinj := consume_only s S.TL_MSG_CRC
  have hpage : F.UNIT_IRQ_STAT_EVT (F.TL_EVT_MSG_CRC n).page = F.UNIT_IRQ_STAT_EVT (0x51 + n % 8) := rfl
  have honly : s.Only (F.TL_EVT_MSG_CRC n :: F.TL_CNT_ERR_MSG_CRC n :: F.UNIT_IRQ_STAT_EVT (0x51 + n % 8) :: injFields) []
      (((s.consumeInj S.TL_MSG_CRC).evt (F.TL_EVT_MSG_CRC n)).incSat (F.TL_CNT_ERR_MSG_CRC n)) :=
    only_incSat (by simp) (by simp [F.TL_CNT_ERR_MSG_CRC]) (only_evt (by simp) (by rw [hpage]; simp) (by simp [F.TL_EVT_MSG_CRC])
      (only_mono (fun _ hx => List.mem_cons_of_mem _ (List.mem_cons_of_mem _ (List.mem_cons_of_mem _ hx))) (fun _ hx => hx) hinj))
  have hlev : (((s.consumeInj S.TL_MSG_CRC).evt (F.TL_EVT_MSG_CRC n)).incSat (F.TL_CNT_ERR_MSG_CRC n)).defLevel S.TL_MSG_CRC = s.defLevel S.TL_MSG_CRC := by
    have hc := (by decide : ∀ n < 8, clear (F.TL_EVT_MSG_CRC n :: F.TL_CNT_ERR_MSG_CRC n :: F.UNIT_IRQ_STAT_EVT (0x51 + n % 8) :: injFields) F.FLT_CTRL_MODE = true
      ∧ clear (F.TL_EVT_MSG_CRC n :: F.TL_CNT_ERR_MSG_CRC n :: F.UNIT_IRQ_STAT_EVT (0x51 + n % 8) :: injFields) (fltSev S.TL_MSG_CRC) = true) n hn
    rw [State.defLevel, State.defLevel, only_on honly hc.1, only_g honly hc.2]
  have hcount : (((s.consumeInj S.TL_MSG_CRC).evt (F.TL_EVT_MSG_CRC n)).incSat (F.TL_CNT_ERR_MSG_CRC n)).g (F.TL_CNT_ERR_MSG_CRC n)
      = min (F.TL_CNT_ERR_MSG_CRC n).top (s.g (F.TL_CNT_ERR_MSG_CRC n) + 1) := by
    rw [g_incSat (by simp [F.TL_CNT_ERR_MSG_CRC]) (by simp [F.TL_CNT_ERR_MSG_CRC]) (g_le_top _ _), g_evt_sep _ h4 h5, only_g hinj h6]
  have hevt : (((s.consumeInj S.TL_MSG_CRC).evt (F.TL_EVT_MSG_CRC n)).incSat (F.TL_CNT_ERR_MSG_CRC n)).on (F.TL_EVT_MSG_CRC n) = true :=
    (on_incSat_sep _ h3).trans (on_evt_self _ ((by decide : ∀ n < 8, oneBit (F.TL_EVT_MSG_CRC n)) n hn))
  have hlanes : (((s.consumeInj S.TL_MSG_CRC).evt (F.TL_EVT_MSG_CRC n)).incSat (F.TL_CNT_ERR_MSG_CRC n)).lanes = s.lanes := honly.parts.lanes (by simp [Foot.of])
  unfold badMessage
  generalize ((s.consumeInj S.TL_MSG_CRC).evt (F.TL_EVT_MSG_CRC n)).incSat (F.TL_CNT_ERR_MSG_CRC n) = w at *
  refine ⟨?_, ?_, fun hd => raiseWith_pend w n 0 _ _ (by decide) (by rw [hlev]; exact hd), fun hd => ?_⟩
  · exact (on_congr ((field_reacts w h1 _).raiseWith _ n 0 _ _ id rfl)).trans hevt
  · exact ((field_reacts w h2 _).raiseWith _ n 0 _ _ id rfl).trans hcount
  · rw [raiseWith_low w n 0 _ (by rw [hlev]; exact hd)]
    exact (lanes_core s.lanes).raiseCore _ n 0 _ hlanes

theorem badMessage_within {s0 : State} (h : s0.Fits (Foot.reaction [] []) s) : s0.Within (Foot.reaction [] []) (badMessage s n) := by
  have hu : (Foot.reaction [] []).hasUnit (groupPage (0x51 + n % 8)) = true := tl_unit (by decide)
  refine (raiseWith_fits _ _ _ _ _ _ (by rw [tile_page rfl (by decide)]; decide) (by decide) (incSat_fits hu (evt_fits hu (consumeInj_fits _ _ (by decide) h)))).within


/-! ### What stays of a STATUS through the work that it starts -/

/-- The time of the last STATUS stands, and no loss of temperature is held. -/
def Noted (n : Nat) (x : Option Nat) (u : State) : Prop := (u.lane n).statusAt = x ∧ (S.TL_TEMP_LOST, n) ∉ u.flt.held

section
variable {x : Option Nat}

theorem noted_congr (h : Noted n x u) (hl : t.lanes = u.lanes) (hf : t.flt = u.flt) : Noted n x t :=
  ⟨by rw [State.lane, hl]; exact h.1, by rw [hf]; exact h.2⟩

theorem noted_fits {g : Foot} (h : Noted n x u) (hf : u.Fits g t) (ha : g.any = false) (hl : g.parts.contains .lanes = false) (hp : g.parts.contains .flt = false) : Noted n x t :=
  noted_congr h (within_lanes hf.within ha hl) (within_flt hf.within ha hp)

theorem noted_put (h : Noted n x u) (y : Fld) (v : Nat) : Noted n x (u.put y v) := noted_congr h (put_lanes ..) (put_flt ..)

theorem noted_evt (h : Noted n x u) (y : Fld) : Noted n x (u.evt y) := noted_congr h (evt_lanes ..) (evt_flt ..)

theorem noted_incSat (h : Noted n x u) (y : Fld) : Noted n x (u.incSat y) := noted_congr h (incSat_lanes ..) (incSat_flt ..)

theorem noted_modLane (h : Noted n x u) (k : Nat) {k' : Lane → Lane} (hk : ∀ l, (k' l).statusAt = l.statusAt) : Noted n x (u.modLane k k') := by
  refine ⟨?_, h.2⟩
  by_cases hkn : k = n
  · by_cases hlen : n < u.lanes.length
    · rw [hkn, modLane_lane_same u k' hlen, hk]
      exact h.1
    · rw [modLane_lane, if_neg (fun hc => hlen hc.2)]
      exact h.1
  · rw [modLane_lane_other u k' hkn]
    exact h.1

theorem noted_rests (h : Noted n x u) (hr : LaneRests u t n) (hf : (S.TL_TEMP_LOST, n) ∉ t.flt.held) : Noted n x t := by
  refine ⟨?_, hf⟩
  rcases hr with ⟨-, hl⟩ | ⟨-, hl, -⟩ <;> rw [hl]
  · exact h.1
  · exact h.1

theorem setPending_held (s : State) (i inst eff : Nat) (esc inj : Bool) : (s.setPending i inst eff esc inj).flt.held = s.flt.held := by
  have hirq : ∀ (a b : State) (l : List Nat), (State.faultIrq a b l).flt = b.flt := fun a b l => by
    have hfold : (l.foldl (fun s p => if s.faultWord p &&& (a.faultWord p ^^^ s.faultWord p) = 0 then s else s.put (F.UNIT_IRQ_STAT_FAULT p) 1) b).flt = b.flt :=
      List.foldlRecOn (motive := fun u : State => u.flt = b.flt) l _ rfl (fun u hu p _ => by
        split
        · exact hu
        · exact (put_flt ..).trans hu)
    unfold State.faultIrq
    dsimp only
    split
    · exact hfold
    · exact (put_flt ..).trans hfold
  unfold State.setPending
  extract_lets old was fl stands w v q
  exact (congrArg Flt.held (hirq ..)).trans ((congrArg Flt.held (put_flt ..)).trans ((congrArg Flt.held ((put_flt ..).trans (put_flt ..))).trans rfl))

theorem noted_withCmp (h : Noted n x u) (v : Cmp) : Noted n x (u.withCmp v) := noted_congr h (withCmp_lanes ..) (withCmp_flt ..)

theorem noted_withTln (h : Noted n x u) (v : Tln) : Noted n x (u.withTln v) := noted_congr h (withTln_lanes ..) (withTln_flt ..)

theorem noted_fluxAway (h : Noted n x u) (k : Nat) : Noted n x (u.fluxAway k) := noted_congr h (withFlx_lanes ..) (withFlx_flt ..)

/-- Of the conditions held a fault adds its own alone. -/
theorem raiseWith_held (s : State) (i inst addr : Nat) (inj trig : Bool) {e : Nat × Nat} (he : e ∈ (s.raiseWith i inst addr inj trig).flt.held) :
    e = (i, inst) ∨ e ∈ s.flt.held := by
  unfold State.raiseWith at he
  extract_lets d esc eff fl s1 at he
  have h1 : ∀ y ∈ s1.flt.held, y = (i, inst) ∨ y ∈ s.flt.held := fun y hy => by
    have : s1 = if srcHeld i then s.withFlt { s.flt with held := (i, inst) :: s.flt.held.filter (· ≠ (i, inst)) } else s := rfl
    rw [this] at hy
    split at hy
    · rcases List.mem_cons.1 hy with hy | hy
      · exact .inl hy
      · exact .inr (List.mem_of_mem_filter hy)
    · exact .inr hy
  refine h1 e ?_
  clear_value s1
  have h2 := within_flt (record_fits (g := Foot.of [0x70, 0x71] [.evr]) s1 (s1.faultRec i inst addr d eff esc false inj) (by decide) (fits_refl _ _)).within rfl rfl
  revert he h2
  generalize s1.record (s1.faultRec i inst addr d eff esc false inj) = r
  obtain ⟨coal, s2⟩ := r
  dsimp only
  intro he h2
  have h3 : (if coal then s2 else s2.history (srcCode i) eff esc false inj).flt = s1.flt := by
    split
    · exact h2
    · exact (within_flt (history_fits (g := Foot.of [0x70] []) s2 _ _ _ _ _ (by decide) (fits_refl _ _)).within rfl rfl).trans h2
  generalize (if coal then s2 else s2.history (srcCode i) eff esc false inj) = s3 at he h3
  have h4 : (s3.alarmLevel eff).flt = s1.flt := (within_flt (alarmLevel_fits (g := Foot.of [0x70] []) s3 eff (by decide) (fits_refl _ _)).within rfl rfl).trans h3
  generalize s3.alarmLevel eff = s4 at he h4
  have h5 : (if esc then (s4.incSat F.FLT_CNT_ESCALATED).put F.FLT_ALARM_ESC_SEEN 1 else s4).flt = s1.flt := by
    split
    · rw [put_flt, incSat_flt, h4]
    · exact h4
  generalize (if esc then (s4.incSat F.FLT_CNT_ESCALATED).put F.FLT_ALARM_ESC_SEEN 1 else s4) = s5 at he h5
  have h6 : (if eff = 0 then s5 else s5.setPending i inst eff esc inj).flt.held = s1.flt.held := by
    split
    · rw [h5]
    · rw [setPending_held, h5]
  generalize (if eff = 0 then s5 else s5.setPending i inst eff esc inj) = s6 at he h6
  rw [← h6]
  split at he
  · rwa [within_flt (flintTrigger_fits (g := Foot.of [0x40, 0x50, 0x68, 0x70, 0x71] [.evr, .saf, .lanes]) s6 _ _ _ (by decide) (fits_refl _ _)).within rfl rfl] at he
  · exact he


theorem noted_raiseWith (h : Noted n x u) (hn : n < 8) {i : Nat} (hi : i ≠ S.TL_TEMP_LOST) (inst addr : Nat) (inj trig : Bool) :
    Noted n x (u.raiseWith i inst addr inj trig) := by
  refine noted_rests h ((lane_reacts u hn).raiseWith i inst addr inj trig id (laneRests_refl u n)) (fun he => ?_)
  rcases raiseWith_held u i inst addr inj trig he with he | he
  · exact hi (congrArg Prod.fst he).symm
  · exact h.2 he

theorem noted_raise (h : Noted n x u) (hn : n < 8) {i : Nat} (hi : i ≠ S.TL_TEMP_LOST) (inst : Nat) : Noted n x (u.raise i inst) :=
  noted_raiseWith h hn hi inst 0 false false

theorem noted_raiseTrig (h : Noted n x u) (hn : n < 8) {i : Nat} (hi : i ≠ S.TL_TEMP_LOST) (inst code detail : Nat) : Noted n x (u.raiseTrig i inst code detail true) := by
  have hcore := noted_raiseWith h hn hi inst 0 false true
  refine noted_rests h ((lane_reacts u hn).raiseTrig i inst code detail true id (laneRests_refl u n)) ?_
  have hflt : (u.raiseTrig i inst code detail true).flt = (u.raiseWith i inst 0 false true).flt :=
    within_flt (flintTrigger_fits (g := Foot.of [0x40, 0x50, 0x68, 0x70, 0x71] [.evr, .saf, .lanes]) (u.raiseWith i inst 0 false true) i code detail (by decide) (fits_refl _ _)).within rfl rfl
  rw [hflt]
  exact hcore.2

theorem noted_conseq (h : Noted n x u) (i inst addr : Nat) : Noted n x (u.conseq i inst addr) :=
  noted_fits h (conseq_fits u i inst addr (le_self _) (fits_refl _ u)) rfl rfl rfl

theorem noted_detect (h : Noted n x u) (hn : n < 8) {i : Nat} (hi : i ≠ S.TL_TEMP_LOST) (pages : List Nat) (inst addr : Nat) (inj : Bool) :
    Noted n x (u.detect pages i inst addr inj) := by
  unfold State.detect
  split
  · exact noted_conseq h i inst addr
  · exact noted_raiseWith h hn hi inst addr inj false

theorem noted_tileFault (h : Noted n x u) (hn : n < 8) {i : Nat} (hi : i ≠ S.TL_TEMP_LOST) (k : Nat) (masked : Bool) : Noted n x (u.tileFault i k masked) := by
  unfold State.tileFault
  split_ifs
  · exact noted_conseq h i k 0
  · exact noted_raiseTrig h hn hi k 11 k
  · exact noted_raise h hn hi k

theorem noted_parityOutcome (h : Noted n x u) (hn : n < 8) (l : List (Nat × Nat)) (unc inj : Bool) : Noted n x (u.parityOutcome l unc inj) :=
  List.foldlRecOn (motive := Noted n x) l _ h (fun v hv e _ => by
    refine noted_detect hv hn ?_ _ _ _ _
    split <;> decide)

theorem noted_deferFlip (h : Noted n x u) (hn : n < 8) (blk : Bool) : Noted n x (u.deferFlip blk) := by
  rw [deferFlip_eq]
  have hlost : Noted n x (recompLost u) := List.foldlRecOn (motive := Noted n x) u.cmp.recomp _ h (fun v hv r _ => noted_parityOutcome hv hn _ _ _)
  have hcounted : Noted n x (deferCounted (recompLost u) blk) := by
    unfold deferCounted
    dsimp only
    split
    · exact noted_evt (noted_incSat (noted_evt hlost _) _) _
    · exact noted_incSat (noted_evt hlost _) _
  have hput : ∀ run, Noted n x (putOff (deferCounted (recompLost u) blk) run) := fun run =>
    noted_withCmp (noted_withTln (noted_put (noted_put hcounted F.CMP_STAT_DEFER_RUN run) F.CMP_STAT_COMPOSING 0) _) _
  unfold deferFaults
  dsimp only
  have hfirst := noted_detect (hput (deferRun (deferCounted (recompLost u) blk))) hn (i := S.CMP_DEFER) (by decide) cmpPages 0 0 false
  split
  · exact noted_detect (noted_evt hfirst _) hn (by decide) _ _ _ _
  · exact hfirst

theorem noted_requestRecomp (h : Noted n x u) (hn : n < 8) (r : Recomp) : Noted n x (u.requestRecomp r) := by
  unfold State.requestRecomp
  split_ifs
  · exact noted_withCmp h _
  · exact noted_deferFlip (noted_parityOutcome h hn _ _ _) hn _
  · exact noted_parityOutcome h hn _ _ _

theorem noted_lateBlank (h : Noted n x u) (hn : n < 8) (k : Nat) : Noted n x (u.lateBlank k) := by
  have hevt := noted_evt (noted_evt h (F.TL_EVT_LATE_BLANK k)) F.TLN_EVT_LATE_BLANK
  unfold State.lateBlank
  extract_lets v w
  have hw : Noted n x w := by
    show Noted n x (if v.tln.lateCounted then v else v.incSat F.TLN_CNT_LATE_BLANK)
    split
    · exact hevt
    · exact noted_incSat hevt _
  exact noted_raise (noted_withTln hw _) hn (by decide) k

theorem noted_regionFailed (h : Noted n x u) (hn : n < 8) (k : Nat) (r : Rgn) : Noted n x (u.regionFailed k r) := by
  have hdirty : Noted n x (u.modLane k (fun l => l.dirtyCells r.band r.cell0 r.cells)) := by
    refine noted_modLane h k ?_
    exact fun _ => rfl
  unfold State.regionFailed
  extract_lets v
  split_ifs
  · exact noted_lateBlank hdirty hn k
  · exact noted_requestRecomp hdirty hn _
  · exact hdirty

theorem noted_abortPacket (h : Noted n x u) (hn : n < 8) (k : Nat) : Noted n x (u.abortPacket k) := by
  unfold State.abortPacket
  split
  · refine noted_regionFailed (noted_modLane h k ?_) hn k _
    exact fun _ => rfl
  · exact h

theorem noted_dropWork (h : Noted n x u) (k : Nat) : Noted n x (u.dropWork k) := by
  refine noted_withCmp (noted_modLane h k ?_) _
  exact fun _ => rfl

theorem noted_laneFailed (h : Noted n x u) (k : Nat) : Noted n x (u.laneFailed k) := by
  refine noted_modLane (noted_dropWork (noted_put h _ _) k) k ?_
  exact fun _ => rfl

theorem noted_tileLost (h : Noted n x u) (hn : n < 8) (k : Nat) (masked : Bool) : Noted n x (u.tileLost k masked) :=
  noted_tileFault (noted_evt (noted_evt (noted_laneFailed h k) _) _) hn (by decide) k masked

theorem noted_retrain (h : Noted n x u) (hn : n < 8) (k : Nat) : Noted n x (u.retrain k) := by
  have habort := noted_abortPacket h hn k
  unfold State.retrain
  extract_lets v w
  split
  · refine noted_raise (noted_evt (noted_modLane (noted_put habort _ _) k ?_) _) hn (by decide) k
    exact fun _ => rfl
  · exact noted_tileLost habort hn k false

theorem noted_startCtl (h : Noted n x u) (k : Nat) (c : Ctl) : Noted n x (u.startCtl k c) := by
  refine noted_modLane (noted_modLane h k ?_) k ?_
  · exact fun _ => rfl
  · exact fun _ => rfl

theorem noted_shutdown (h : Noted n x u) (hn : n < 8) (k : Nat) : Noted n x (u.shutdown k) := by
  unfold State.shutdown
  split
  · refine noted_tileFault (noted_fluxAway (noted_evt (noted_evt (noted_modLane (noted_startCtl (noted_modLane (noted_dropWork (noted_put (noted_put h _ _) _ _) k) k ?_) k _) k ?_) _) _) _)
      hn (by decide) k false
    · exact fun _ => rfl
    · exact fun _ => rfl
  · exact h

theorem noted_ctlStatus (h : Noted n x u) (hn : n < 8) (k : Nat) (sh : Bool) : Noted n x (u.ctlStatus k sh) := by
  unfold State.ctlStatus
  split
  · split_ifs
    · refine noted_modLane h k ?_
      exact fun _ => rfl
    · refine noted_modLane h k ?_
      exact fun _ => rfl
    · refine noted_modLane (noted_modLane h k ?_) k ?_
      · exact fun _ => rfl
      · exact fun _ => rfl
    · exact noted_tileLost (noted_evt h _) hn k false
  · exact h

theorem noted_flipCheck (h : Noted n x u) (hn : n < 8) (k lo : Nat) : Noted n x (u.flipCheck k lo) := by
  have hrun : Noted n x (u.modLane k (fun l => { l with flipRun := l.flipRun + 1 })) := by
    refine noted_modLane h k ?_
    exact fun _ => rfl
  have hzero : Noted n x (u.modLane k (fun l => { l with flipRun := 0 })) := by
    refine noted_modLane h k ?_
    exact fun _ => rfl
  unfold State.flipCheck
  extract_lets fr w
  split_ifs
  · exact hzero
  · exact noted_raise (noted_evt (noted_evt hrun _) _) hn (by decide) k
  · exact hrun
  · exact hzero

theorem noted_otCheck (h : Noted n x u) (hn : n < 8) (k : Nat) (temp : Int) (self : Bool) : Noted n x (u.otCheck k temp self) := by
  unfold State.otCheck
  extract_lets ot v cool w
  have hv : Noted n x v := by
    refine noted_modLane h k ?_
    exact fun _ => rfl
  have hw : Noted n x w := by
    refine noted_modLane hv k ?_
    exact fun _ => rfl
  split
  · exact noted_shutdown hw hn k
  · exact hw

end


/-! ### What stands in the registers of a tile through that work -/

def tileWrites (n : Nat) : List Fld :=
  [F.TL_STAT_STATE n, F.TL_STAT_SHUT n, F.TL_EVT_TILE_LOST n, F.TLN_EVT_TILE_LOST, F.TL_EVT_RETRAIN n, F.TL_EVT_OT_SHUT n, F.TLN_EVT_OT_SHUT, F.TL_EVT_CTRL_FAIL n,
   F.TL_EVT_FLIP_MISS n, F.TLN_EVT_FLIP_MISS, F.UNIT_IRQ_STAT_EVT (0x51 + n % 8), F.UNIT_IRQ_STAT_EVT 0x50, F.RST_BLK_STAT_CONSEQ_CNT]

/-- A field that neither the work of a STATUS nor a fault writes. -/
structure Stands (n : Nat) (f : Fld) : Prop where
  aside : Aside f
  apart : ∀ x ∈ tileWrites n, sep x f = true

section
variable (hf : Stands n f)

include hf

theorem stands_put (s : State) {x : Fld} (v : Nat) (hx : x ∈ tileWrites n) : (s.put x v).g f = s.g f := g_put_sep s v (hf.apart x hx)

theorem stands_evt (s : State) {x : Fld} (hx : x ∈ tileWrites n) (hq : F.UNIT_IRQ_STAT_EVT x.page ∈ tileWrites n) : (s.evt x).g f = s.g f :=
  g_evt_sep s (hf.apart x hx) (hf.apart _ hq)

theorem stands_tileFault (s : State) (i : Nat) (masked : Bool) : (s.tileFault i n masked).g f = s.g f :=
  tileFault_lamp s i n masked hf.aside.lamp (hf.apart _ (by simp [tileWrites]))

theorem stands_tileLost (s : State) (masked : Bool) : (s.tileLost n masked).g f = s.g f := by
  have hfailed : (s.laneFailed n).g f = s.g f := laneFailed_g s n (hf.apart _ (by simp [tileWrites]))
  exact (stands_tileFault hf _ _ _).trans ((stands_evt hf _ (x := F.TLN_EVT_TILE_LOST) (by simp [tileWrites]) (by simp [tileWrites, F.TLN_EVT_TILE_LOST])).trans
    ((stands_evt hf _ (x := F.TL_EVT_TILE_LOST n) (by simp [tileWrites]) (by simp [tileWrites, F.TL_EVT_TILE_LOST])).trans hfailed))

theorem stands_retrain (s : State) (hn : n < 8) : (s.retrain n).g f = s.g f := by
  have habort := abortPacket_aside hf.aside s hn
  unfold State.retrain
  extract_lets v w
  have hw : w.g f = s.g f := (modLane_g ..).trans ((stands_put hf _ _ (by simp [tileWrites])).trans habort)
  refine ite_g (fun _ => ?_) (fun _ => (stands_tileLost hf _ _).trans habort)
  exact (raise_lamp _ _ _ hf.aside.lamp).trans ((stands_evt hf _ (x := F.TL_EVT_RETRAIN n) (by simp [tileWrites]) (by simp [tileWrites, F.TL_EVT_RETRAIN])).trans hw)

theorem stands_shutdown (s : State) : (s.shutdown n).g f = s.g f := by
  unfold State.shutdown
  refine ite_g (fun _ => ?_) (fun _ => rfl)
  refine (stands_tileFault hf _ _ _).trans ?_
  exact shut_g s n (hf.apart _ (by simp [tileWrites])) (hf.apart _ (by simp [tileWrites])) (hf.apart _ (by simp [tileWrites])) (hf.apart _ (by simp [tileWrites]))
    (hf.apart _ (by simp [tileWrites])) (hf.apart _ (by simp [tileWrites]))

theorem stands_ctlStatus (s : State) (sh : Bool) : (s.ctlStatus n sh).g f = s.g f := by
  unfold State.ctlStatus
  split
  · refine ite_g (fun _ => modLane_g ..) (fun _ => ite_g (fun _ => modLane_g ..) (fun _ => ite_g (fun _ => (modLane_g ..).trans (modLane_g ..)) (fun _ => ?_)))
    exact (stands_tileLost hf _ _).trans (stands_evt hf _ (x := F.TL_EVT_CTRL_FAIL n) (by simp [tileWrites]) (by simp [tileWrites, F.TL_EVT_CTRL_FAIL]))
  · rfl

theorem stands_flipCheck (s : State) (lo : Nat) : (s.flipCheck n lo).g f = s.g f := by
  unfold State.flipCheck
  extract_lets fr w
  refine ite_g (fun _ => ite_g (fun _ => modLane_g ..) (fun _ => ite_g (fun _ => ?_) (fun _ => modLane_g ..))) (fun _ => modLane_g ..)
  exact (raise_lamp _ _ _ hf.aside.lamp).trans ((stands_evt hf _ (x := F.TLN_EVT_FLIP_MISS) (by simp [tileWrites]) (by simp [tileWrites, F.TLN_EVT_FLIP_MISS])).trans
    ((stands_evt hf _ (x := F.TL_EVT_FLIP_MISS n) (by simp [tileWrites]) (by simp [tileWrites, F.TL_EVT_FLIP_MISS])).trans (modLane_g ..)))

theorem stands_otCheck (s : State) (temp : Int) (self : Bool) : (s.otCheck n temp self).g f = s.g f := by
  unfold State.otCheck
  extract_lets ot v cool w
  have hw : w.g f = s.g f := (modLane_g ..).trans (modLane_g ..)
  exact ite_g (fun _ => (stands_shutdown hf _).trans hw) (fun _ => hw)

end

/-! ### A STATUS -/

/-- What a good STATUS shows, before it starts anything. -/
def statusShown (s : State) (n : Nat) (w : BitVec 64) : State :=
  ((((((s.put (F.TL_TEMP_TEMP n) (mfield w 55 40)).put (F.TL_TEMP_FLAGS n) (mfield w 39 24)).put (F.TL_FRONT_FRAME_LO n) (mfield w 23 8)).put (F.TL_STAT_T_VALID n) 1).put
    (F.TL_STAT_LANE_LOCK n) (bit (tbit (mfield w 39 24) 3))).condEnd S.TL_TEMP_LOST n).modLane n (fun l => { l with statusAt := some s.now })

/-- The temperature goes to CAL, and the cells of a tile that has lost its picture are dirty. -/
def statusTaken (s : State) (n : Nat) (w : BitVec 64) : State :=
  let v := (statusShown s n w).calTrigger n
  if tbit (mfield w 39 24) 5 then v.dirtyAll n else v

/-- The work of a STATUS. -/
def statusWork (s : State) (n : Nat) (w : BitVec 64) : State :=
  let v := ((s.ctlStatus n (tbit (mfield w 39 24) 0)).flipCheck n (mfield w 23 8)).otCheck n (signed 16 (mfield w 55 40)) (tbit (mfield w 39 24) 1)
  if v.tlst n = 5 && !tbit (mfield w 39 24) 3 then v.retrain n else v

theorem exec_status {w : BitVec 64} (h : s.hears n = true) (hc : crc8 w = w.toNat % 256) (ha : s.armed S.TL_MSG_CRC = false) (hm : mfield w 63 60 = 1) :
    exec (.tsbStatus n w) s = .next (statusWork (statusTaken s.begin n w) n w) := by
  have hg : s.begin.message n w = (true, s.begin) := message_good hc (Eq.trans (by rw [State.armed, State.armed, begin_g, begin_g]) ha)
  have hb : s.begin.hears n = true := h
  refine congrArg Host.Outcome.next ((if_pos hb).trans ?_)
  rw [hg]
  exact if_pos (by simp [hm])

def statusFields (n : Nat) : List Fld := [F.TL_TEMP_TEMP n, F.TL_TEMP_FLAGS n, F.TL_FRONT_FRAME_LO n, F.TL_STAT_T_VALID n, F.TL_STAT_LANE_LOCK n]

theorem mfield_lt (w : BitVec 64) (hi lo : Nat) : mfield w hi lo < 2 ^ (hi + 1 - lo) := Nat.mod_lt _ (Nat.two_pow_pos _)

theorem statusShown_only (s : State) (n : Nat) (w : BitVec 64) : s.Only (statusFields n) [.lanes, .flt] (statusShown s n w) := by
  refine only_modLane (by simp) (only_withFlt (by simp) ?_)
  refine only_put _ (by simp [statusFields]) (by simp [F.TL_STAT_LANE_LOCK]) (only_put _ (by simp [statusFields]) (by simp [F.TL_STAT_T_VALID]) ?_)
  refine only_put _ (by simp [statusFields]) (by simp [F.TL_FRONT_FRAME_LO]) (only_put _ (by simp [statusFields]) (by simp [F.TL_TEMP_FLAGS]) ?_)
  exact only_put _ (by simp [statusFields]) (by simp [F.TL_TEMP_TEMP]) (only_refl _ _ s)

theorem condEnd_g (u : State) (i k : Nat) (y : Fld) : (u.condEnd i k).g y = u.g y := rfl

theorem statusShown_leaves (s : State) (n : Nat) (w : BitVec 64) :
    (statusShown s n w).g (F.TL_TEMP_TEMP n) = mfield w 55 40 ∧ (statusShown s n w).g (F.TL_TEMP_FLAGS n) = mfield w 39 24
      ∧ (statusShown s n w).g (F.TL_FRONT_FRAME_LO n) = mfield w 23 8 ∧ (statusShown s n w).on (F.TL_STAT_T_VALID n) = true
      ∧ (statusShown s n w).on (F.TL_STAT_LANE_LOCK n) = tbit (mfield w 39 24) 3 := by
  have hg : ∀ y, (statusShown s n w).g y = ((((s.put (F.TL_TEMP_TEMP n) (mfield w 55 40)).put (F.TL_TEMP_FLAGS n) (mfield w 39 24)).put (F.TL_FRONT_FRAME_LO n) (mfield w 23 8)).put
      (F.TL_STAT_T_VALID n) 1 |>.put (F.TL_STAT_LANE_LOCK n) (bit (tbit (mfield w 39 24) 3))).g y := fun y => (modLane_g ..).trans (condEnd_g ..)
  refine ⟨?_, ?_, ?_, ?_, ?_⟩
  · rw [hg, g_put_sep (f := F.TL_STAT_LANE_LOCK n) (x := F.TL_TEMP_TEMP n) _ _ rfl, g_put_sep (f := F.TL_STAT_T_VALID n) (x := F.TL_TEMP_TEMP n) _ _ rfl,
      g_put_sep (f := F.TL_FRONT_FRAME_LO n) (x := F.TL_TEMP_TEMP n) _ _ rfl, g_put_sep (f := F.TL_TEMP_FLAGS n) (x := F.TL_TEMP_TEMP n) _ _ rfl]
    exact g_put_self (by simp [F.TL_TEMP_TEMP]) (by simp [F.TL_TEMP_TEMP]) (by simpa [F.TL_TEMP_TEMP] using mfield_lt w 55 40)
  · rw [hg, g_put_sep (f := F.TL_STAT_LANE_LOCK n) (x := F.TL_TEMP_FLAGS n) _ _ rfl, g_put_sep (f := F.TL_STAT_T_VALID n) (x := F.TL_TEMP_FLAGS n) _ _ rfl,
      g_put_sep (f := F.TL_FRONT_FRAME_LO n) (x := F.TL_TEMP_FLAGS n) _ _ rfl]
    exact g_put_self (by simp [F.TL_TEMP_FLAGS]) (by simp [F.TL_TEMP_FLAGS]) (by simpa [F.TL_TEMP_FLAGS] using mfield_lt w 39 24)
  · rw [hg, g_put_sep (f := F.TL_STAT_LANE_LOCK n) (x := F.TL_FRONT_FRAME_LO n) _ _ rfl, g_put_sep (f := F.TL_STAT_T_VALID n) (x := F.TL_FRONT_FRAME_LO n) _ _ rfl]
    exact g_put_self (by simp [F.TL_FRONT_FRAME_LO]) (by simp [F.TL_FRONT_FRAME_LO]) (by simpa [F.TL_FRONT_FRAME_LO] using mfield_lt w 23 8)
  · rw [on_congr (hg _), on_put_sep (f := F.TL_STAT_LANE_LOCK n) (x := F.TL_STAT_T_VALID n) _ _ rfl]
    exact on_put_set _ rfl
  · rw [on_congr (hg _)]
    exact on_put_bit _ _ rfl rfl

theorem statusTaken_g (s : State) (n : Nat) (w : BitVec 64) (y : Fld) : (statusTaken s n w).g y = (statusShown s n w).g y := by
  have hcal : ((statusShown s n w).calTrigger n).g y = (statusShown s n w).g y :=
    fits_g (calTrigger_fits (statusShown s n w) n (le_self _) (fits_refl _ _)) rfl rfl
  unfold statusTaken
  dsimp only
  exact ite_g (fun _ => (modLane_g ..).trans hcal) (fun _ => hcal)

theorem statusTaken_held (s : State) (n : Nat) (w : BitVec 64) : (S.TL_TEMP_LOST, n) ∉ (statusTaken s n w).flt.held := by
  have hend : ∀ u : State, (S.TL_TEMP_LOST, n) ∉ ((u.condEnd S.TL_TEMP_LOST n).modLane n (fun l => { l with statusAt := some s.now })).flt.held := fun u he => by
    have hmem : (S.TL_TEMP_LOST, n) ∈ u.flt.held.filter (· ≠ (S.TL_TEMP_LOST, n)) := he
    simp at hmem
  have hshown : (S.TL_TEMP_LOST, n) ∉ (statusShown s n w).flt.held := hend _
  have hcal := within_flt (calTrigger_fits (statusShown s n w) n (le_self _) (fits_refl _ _)).within rfl rfl
  have hdirty : ∀ u : State, (u.dirtyAll n).flt = u.flt := fun _ => rfl
  unfold statusTaken
  dsimp only
  split
  · rw [hdirty, hcal]
    exact hshown
  · rw [hcal]
    exact hshown

theorem statusTaken_noted (s : State) (w : BitVec 64) (hlen : n < s.lanes.length) : Noted n (some s.now) (statusTaken s n w) := by
  have hset : ∀ u : State, n < u.lanes.length → (((u.condEnd S.TL_TEMP_LOST n).modLane n (fun l => { l with statusAt := some s.now })).lane n).statusAt = some s.now :=
    fun u h => congrArg Lane.statusAt (modLane_lane_same (u.condEnd S.TL_TEMP_LOST n) (fun l => { l with statusAt := some s.now }) h)
  have hshown : ((statusShown s n w).lane n).statusAt = some s.now := hset _ (by rwa [put_lanes, put_lanes, put_lanes, put_lanes, put_lanes])
  refine ⟨?_, statusTaken_held s n w⟩
  have hcal := within_lanes (calTrigger_fits (statusShown s n w) n (le_self _) (fits_refl _ _)).within rfl rfl
  have hlane : (((statusShown s n w).calTrigger n).lane n).statusAt = some s.now := by
    rw [State.lane, hcal]
    exact hshown
  have hlen' : n < ((statusShown s n w).calTrigger n).lanes.length := by
    have hl : ∀ u : State, n < u.lanes.length → n < ((u.condEnd S.TL_TEMP_LOST n).modLane n (fun l => { l with statusAt := some s.now })).lanes.length :=
      fun u h => by rwa [modLane_lanes_length]
    rw [hcal]
    exact hl _ (by rwa [put_lanes, put_lanes, put_lanes, put_lanes, put_lanes])
  unfold statusTaken
  dsimp only
  split
  · exact (congrArg Lane.statusAt (dirtyAll_lane hlen')).trans hlane
  · exact hlane

theorem statusWork_noted {x : Option Nat} (h : Noted n x s) (hn : n < 8) (w : BitVec 64) : Noted n x (statusWork s n w) := by
  have hv := noted_otCheck (noted_flipCheck (noted_ctlStatus h hn n (tbit (mfield w 39 24) 0)) hn n (mfield w 23 8)) hn n (signed 16 (mfield w 55 40)) (tbit (mfield w 39 24) 1)
  unfold statusWork
  dsimp only
  split
  · exact noted_retrain hv hn n
  · exact hv

theorem statusWork_g (hf : Stands n f) (s : State) (hn : n < 8) (w : BitVec 64) : (statusWork s n w).g f = s.g f := by
  have hv : (((s.ctlStatus n (tbit (mfield w 39 24) 0)).flipCheck n (mfield w 23 8)).otCheck n (signed 16 (mfield w 55 40)) (tbit (mfield w 39 24) 1)).g f = s.g f :=
    (stands_otCheck hf _ _ _).trans ((stands_flipCheck hf _ _).trans (stands_ctlStatus hf _ _))
  unfold statusWork
  dsimp only
  exact ite_g (fun _ => (stands_retrain hf _ hn).trans hv) (fun _ => hv)

theorem statusFields_stand (hn : n < 8) (hf : f ∈ statusFields n) : Stands n f := by
  have h : ∀ k < 8, ∀ y ∈ statusFields k, aside y = true ∧ ∀ x ∈ tileWrites k, sep x y = true := by decide
  obtain ⟨h1, h2⟩ := h n hn f hf
  exact ⟨aside_iff.1 h1, h2⟩

theorem hears_lt (h : s.hears n = true) : n < 8 := by
  simp only [State.hears, Bool.and_eq_true, decide_eq_true_eq] at h
  tauto


/-! ### A STATUS that shuts the tile down, or retrains its lane -/

/-- What the temperature check of a STATUS finds. -/
structure Facing (n : Nat) (s v : State) : Prop where
  state : v.tlst n = s.tlst n
  table : v.lanes.length = s.lanes.length
  otRun : (v.lane n).otRun = (s.lane n).otRun
  retrains : (v.lane n).retrains = (s.lane n).retrains
  sending : (v.lane n).sending = (s.lane n).sending
  lock : v.on F.SAF_STAT_LOCKED = s.on F.SAF_STAT_LOCKED
  level : ∀ i, i < 75 → v.defLevel i = s.defLevel i
  limit : v.g F.TLN_OT_OT_C = s.g F.TLN_OT_OT_C
  tries : v.g (F.TL_CTRL_TRIES n) = s.g (F.TL_CTRL_TRIES n)

theorem Facing.trans (h : Facing n s t) (k : Facing n t u) : Facing n s u :=
  ⟨k.state.trans h.state, k.table.trans h.table, k.otRun.trans h.otRun, k.retrains.trans h.retrains, k.sending.trans h.sending, k.lock.trans h.lock,
    fun i hi => (k.level i hi).trans (h.level i hi), k.limit.trans h.limit, k.tries.trans h.tries⟩

/-- An operation that writes fields and lanes alone, and of lane n leaves what the check reads. -/
theorem facing_only {fs : List Fld} {ps : List Part} (h : s.Only fs ps t)
    (hc : clear fs (F.TL_STAT_STATE n) = true ∧ clear fs F.SAF_STAT_LOCKED = true ∧ clear fs F.FLT_CTRL_MODE = true ∧ (∀ i < 75, clear fs (fltSev i) = true)
      ∧ clear fs F.TLN_OT_OT_C = true ∧ clear fs (F.TL_CTRL_TRIES n) = true)
    (hlen : t.lanes.length = s.lanes.length) (hl : (t.lane n).otRun = (s.lane n).otRun ∧ (t.lane n).retrains = (s.lane n).retrains ∧ (t.lane n).sending = (s.lane n).sending) :
    Facing n s t := by
  obtain ⟨h1, h2, h3, h4, h5, h6⟩ := hc
  exact ⟨only_g h h1, hlen, hl.1, hl.2.1, hl.2.2, only_on h h2, fun i hi => by rw [State.defLevel, State.defLevel, only_on h h3, only_g h (h4 i hi)], only_g h h5, only_g h h6⟩

/-- A change of lane n that leaves what the check reads. -/
theorem facing_modLane (s : State) (k : Lane → Lane) (hlen : n < s.lanes.length)
    (hk : ∀ l, (k l).otRun = l.otRun ∧ (k l).retrains = l.retrains ∧ (k l).sending = l.sending) : Facing n s (s.modLane n k) := by
  have hl := modLane_lane_same s k hlen
  refine facing_only (fs := []) (ps := [.lanes]) (only_modLane (by simp) (only_refl _ _ s)) ⟨rfl, rfl, rfl, fun _ _ => rfl, rfl, rfl⟩ (modLane_lanes_length ..) ?_
  rw [hl]
  exact hk _

theorem facing_raise_low (s : State) {i : Nat} (k : Nat) (hd : s.defLevel i ≤ 1) (hi : i < 75) (hn : n < 8) : Facing n s (s.raise i k) := by
  obtain ⟨h1, h2⟩ := raise_low_lane s n k hd
  have hm : ∀ j < 75, markField F.FLT_CTRL_MODE = true ∧ markField (fltSev j) = true := by decide
  have hlanes : (s.raise i k).lanes = s.lanes := by
    rw [raise_low s k hd]
    exact (lanes_core s.lanes).raiseCore i k 0 false rfl
  have hlock : (s.raise i k).on F.SAF_STAT_LOCKED = s.on F.SAF_STAT_LOCKED := by
    rw [raise_low s k hd]
    exact on_congr (core_g s i k 0 false (by decide) (by decide) (by decide))
  have hplace := (by decide : ∀ n < 8, lampField F.TLN_OT_OT_C = true ∧ lampField (F.TL_CTRL_TRIES n) = true) n hn
  exact ⟨h1, by rw [hlanes], by rw [h2], by rw [h2], by rw [h2], hlock,
    fun j hj => by rw [State.defLevel, State.defLevel, on_congr (raise_mark (hm j hj).1 s k hi), raise_mark (hm j hj).2 s k hi],
    raise_lamp _ _ _ hplace.1, raise_lamp _ _ _ hplace.2⟩

def flipEvents (n : Nat) : List Fld := [F.TL_EVT_FLIP_MISS n, F.TLN_EVT_FLIP_MISS, F.UNIT_IRQ_STAT_EVT (0x51 + n % 8), F.UNIT_IRQ_STAT_EVT 0x50]

theorem flipCheck_faces (s : State) (lo : Nat) (hn : n < 8) (hlen : n < s.lanes.length) (h : s.defLevel S.TL_FLIP_MISS ≤ 1 ∨ (s.lane n).flipRun = 0) :
    Facing n s (s.flipCheck n lo) := by
  have hzero : Facing n s (s.modLane n (fun l => { l with flipRun := 0 })) := facing_modLane s _ hlen (fun _ => ⟨rfl, rfl, rfl⟩)
  have hrun : Facing n s (s.modLane n (fun l => { l with flipRun := l.flipRun + 1 })) := facing_modLane s _ hlen (fun _ => ⟨rfl, rfl, rfl⟩)
  have hfr : ((s.modLane n (fun l => { l with flipRun := l.flipRun + 1 })).lane n).flipRun = (s.lane n).flipRun + 1 := congrArg Lane.flipRun (modLane_lane_same s _ hlen)
  have hclear := (by decide : ∀ n < 8, clear (flipEvents n) (F.TL_STAT_STATE n) = true ∧ clear (flipEvents n) F.SAF_STAT_LOCKED = true
    ∧ clear (flipEvents n) F.FLT_CTRL_MODE = true ∧ (∀ i < 75, clear (flipEvents n) (fltSev i) = true) ∧ clear (flipEvents n) F.TLN_OT_OT_C = true
    ∧ clear (flipEvents n) (F.TL_CTRL_TRIES n) = true) n hn
  unfold State.flipCheck
  extract_lets fr w
  split_ifs with h1 h2 h3
  · exact hzero
  · have hlow : s.defLevel S.TL_FLIP_MISS ≤ 1 := h.resolve_right (fun h0 => by
      have : 2 ≤ (w.lane n).flipRun := h3
      rw [hfr, h0] at this
      omega)
    have hevt : Facing n w ((w.evt (F.TL_EVT_FLIP_MISS n)).evt F.TLN_EVT_FLIP_MISS) := by
      refine facing_only (fs := flipEvents n) (ps := []) ?_ hclear (by rw [evt_lanes, evt_lanes]) (by rw [evt_lane, evt_lane]; exact ⟨rfl, rfl, rfl⟩)
      exact only_evt (by simp [flipEvents]) (by simp [flipEvents, F.TLN_EVT_FLIP_MISS]) (by decide)
        (only_evt (x := F.TL_EVT_FLIP_MISS n) (by simp [flipEvents]) (by simp [flipEvents, F.TL_EVT_FLIP_MISS]) (by simp [F.TL_EVT_FLIP_MISS]) (only_refl _ _ w))
    have hboth := hrun.trans hevt
    exact hboth.trans (facing_raise_low _ n (by rw [hboth.level _ (by decide)]; exact hlow) (by decide) hn)
  · exact hrun
  · exact hzero

theorem statusTaken_faces (s : State) (w : BitVec 64) (hn : n < 8) (hlen : n < s.lanes.length) :
    Facing n s (statusTaken s n w) ∧ ((statusTaken s n w).lane n).ctl = (s.lane n).ctl ∧ ((statusTaken s n w).lane n).flipRun = (s.lane n).flipRun := by
  have hclear := (by decide : ∀ n < 8, clear (statusFields n) (F.TL_STAT_STATE n) = true ∧ clear (statusFields n) F.SAF_STAT_LOCKED = true
    ∧ clear (statusFields n) F.FLT_CTRL_MODE = true ∧ (∀ i < 75, clear (statusFields n) (fltSev i) = true) ∧ clear (statusFields n) F.TLN_OT_OT_C = true
    ∧ clear (statusFields n) (F.TL_CTRL_TRIES n) = true) n hn
  have hshown : ∀ u : State, u.lanes = s.lanes → (((u.condEnd S.TL_TEMP_LOST n).modLane n (fun l => { l with statusAt := some s.now })).lane n)
      = { s.lane n with statusAt := some s.now } := fun u hu => by
    have hl : (u.condEnd S.TL_TEMP_LOST n).lane n = s.lane n := by
      rw [condEnd_lane, State.lane, State.lane, hu]
    rw [← hl]
    exact modLane_lane_same (u.condEnd S.TL_TEMP_LOST n) (fun l => { l with statusAt := some s.now }) (by show n < u.lanes.length; rwa [hu])
  have hlane : (statusShown s n w).lane n = { s.lane n with statusAt := some s.now } := hshown _ (by rw [put_lanes, put_lanes, put_lanes, put_lanes, put_lanes])
  have htable : ∀ u : State, u.lanes = s.lanes → ((u.condEnd S.TL_TEMP_LOST n).modLane n (fun l => { l with statusAt := some s.now })).lanes.length = s.lanes.length :=
    fun u hu => (modLane_lanes_length ..).trans (congrArg List.length hu)
  have hlength : (statusShown s n w).lanes.length = s.lanes.length := htable _ (by rw [put_lanes, put_lanes, put_lanes, put_lanes, put_lanes])
  have hface : Facing n s (statusShown s n w) := facing_only (statusShown_only s n w) hclear hlength (by rw [hlane]; exact ⟨rfl, rfl, rfl⟩)
  have hcal := calTrigger_fits (g := Foot.of [] [.cal]) (statusShown s n w) n (le_self _) (fits_refl _ _)
  have hlanes := within_lanes hcal.within rfl rfl
  have hclane : ((statusShown s n w).calTrigger n).lane n = (statusShown s n w).lane n := by rw [State.lane, State.lane, hlanes]
  have hcalled : Facing n (statusShown s n w) ((statusShown s n w).calTrigger n) :=
    ⟨fits_g hcal rfl rfl, by rw [hlanes], by rw [hclane], by rw [hclane], by rw [hclane], on_congr (fits_g hcal rfl rfl), fun i _ => fits_defLevel hcal rfl rfl i,
      fits_g hcal rfl rfl, fits_g hcal rfl rfl⟩
  have hboth := hface.trans hcalled
  have hctl : (((statusShown s n w).calTrigger n).lane n).ctl = (s.lane n).ctl ∧ (((statusShown s n w).calTrigger n).lane n).flipRun = (s.lane n).flipRun := by
    rw [hclane, hlane]
    exact ⟨rfl, rfl⟩
  unfold statusTaken
  dsimp only
  generalize (statusShown s n w).calTrigger n = v at hboth hctl
  split
  · have hvlen : n < v.lanes.length := by rwa [hboth.table]
    have hd : (v.dirtyAll n).lane n = { v.lane n with dirty := List.range 256 } := dirtyAll_lane hvlen
    exact ⟨hboth.trans (facing_modLane v _ hvlen (fun _ => ⟨rfl, rfl, rfl⟩)), by rw [hd]; exact hctl.1, by rw [hd]; exact hctl.2⟩
  · exact ⟨hboth, hctl⟩

theorem laneAt_congr {x : Nat} (h : v.on F.SAF_STAT_LOCKED = s.on F.SAF_STAT_LOCKED) (k : v.laneAt t n x) : s.laneAt t n x := by
  rcases k with k | ⟨k1, k2, k3⟩
  · exact .inl k
  · exact .inr ⟨k1, h.symm.trans k2, k3⟩

theorem shutdown_leaves (s : State) (hn : n < 8) (hlen : n < s.lanes.length) (hst : s.tlst n = 5) :
    s.laneAt (s.shutdown n) n 7 ∧ (s.shutdown n).on (F.TL_EVT_OT_SHUT n) = true ∧ ((s.shutdown n).lane n).packet = ctlPacket n .shutdown
      ∧ (s.defLevel S.TL_OT ≠ 0 → (s.shutdown n).on (fltPend S.TL_OT) = true) := by
  have hrest := tileFault_rests (shut s n) S.TL_OT n false hn
  have hdef : (shut s n).defLevel S.TL_OT = s.defLevel S.TL_OT := by
    rw [State.defLevel, State.defLevel, on_congr (shut_g s n (f := F.FLT_CTRL_MODE) rfl rfl rfl rfl rfl rfl), shut_g s n (f := fltSev S.TL_OT) rfl rfl rfl rfl rfl rfl]
  rw [shutdown_of (.inl hst)]
  refine ⟨laneAt_of_rests hrest (shut_tlst s n) (on_congr (shut_g s n rfl rfl rfl rfl rfl rfl)), ?_, ?_, fun hd => tileFault_pend _ n false (by decide) (by rwa [hdef]) (.inl rfl)⟩
  · exact (on_congr (tileFault_lamp _ _ _ _ (lamp_places n hn).2 rfl)).trans (shut_shows s n).2.1
  · exact (rests_keeps hrest).1.trans (congrArg Lane.packet (shut_lane hlen))

theorem retrain_leaves (s : State) (hn : n < 8) (hlen : n < s.lanes.length) (hs : (s.lane n).sending = none) (ht : (s.lane n).retrains < s.g (F.TL_CTRL_TRIES n)) :
    s.laneAt (s.retrain n) n 1 ∧ (s.retrain n).on (F.TL_EVT_RETRAIN n) = true ∧ ((s.retrain n).lane n).retrains = (s.lane n).retrains + 1
      ∧ (s.defLevel S.TL_RETRAIN ≠ 0 → (s.retrain n).on (fltPend S.TL_RETRAIN) = true) := by
  have habort : s.abortPacket n = s := by
    unfold State.abortPacket
    rw [hs]
  have hrun : ∃ k : Lane → Lane, (∀ l, (k l).retrains = l.retrains + 1)
      ∧ s.retrain n = (((s.put (F.TL_STAT_STATE n) 1).modLane n k).evt (F.TL_EVT_RETRAIN n)).raise S.TL_RETRAIN n := by
    unfold State.retrain
    rw [habort]
    exact ⟨_, fun _ => rfl, if_pos ht⟩
  obtain ⟨k, hk, hrun⟩ := hrun
  have hplace := (by decide : ∀ n < 8, lampField (F.TL_EVT_RETRAIN n) = true ∧ oneBit (F.TL_EVT_RETRAIN n)
    ∧ sep (F.TL_EVT_RETRAIN n) (F.TL_STAT_STATE n) = true ∧ sep (F.UNIT_IRQ_STAT_EVT (F.TL_EVT_RETRAIN n).page) (F.TL_STAT_STATE n) = true) n hn
  obtain ⟨p1, p2, p3, p4⟩ := hplace
  have honly : s.Only [F.TL_STAT_STATE n, F.TL_EVT_RETRAIN n, F.UNIT_IRQ_STAT_EVT (0x51 + n % 8)] [.lanes] (((s.put (F.TL_STAT_STATE n) 1).modLane n k).evt (F.TL_EVT_RETRAIN n)) :=
    only_evt (by simp) (by simp [F.TL_EVT_RETRAIN]) (by simp [F.TL_EVT_RETRAIN]) (only_modLane (by simp) (only_put _ (by simp) (by simp [F.TL_STAT_STATE]) (only_refl _ _ s)))
  have hst : (((s.put (F.TL_STAT_STATE n) 1).modLane n k).evt (F.TL_EVT_RETRAIN n)).tlst n = 1 :=
    (g_evt_sep _ p3 p4).trans ((modLane_g ..).trans (tlst_put_state s n (by decide)))
  have hlane : ((((s.put (F.TL_STAT_STATE n) 1).modLane n k).evt (F.TL_EVT_RETRAIN n)).lane n).retrains = (s.lane n).retrains + 1 := by
    rw [evt_lane, modLane_lane_same _ _ (by rwa [put_lanes]), hk, put_lane]
  have hevt : (((s.put (F.TL_STAT_STATE n) 1).modLane n k).evt (F.TL_EVT_RETRAIN n)).on (F.TL_EVT_RETRAIN n) = true := on_evt_self _ p2
  rw [hrun]
  generalize ((s.put (F.TL_STAT_STATE n) 1).modLane n k).evt (F.TL_EVT_RETRAIN n) = v at honly hst hlane hevt ⊢
  have hc := (by decide : ∀ n < 8, clear [F.TL_STAT_STATE n, F.TL_EVT_RETRAIN n, F.UNIT_IRQ_STAT_EVT (0x51 + n % 8)] F.SAF_STAT_LOCKED = true
    ∧ clear [F.TL_STAT_STATE n, F.TL_EVT_RETRAIN n, F.UNIT_IRQ_STAT_EVT (0x51 + n % 8)] F.FLT_CTRL_MODE = true
    ∧ clear [F.TL_STAT_STATE n, F.TL_EVT_RETRAIN n, F.UNIT_IRQ_STAT_EVT (0x51 + n % 8)] (fltSev S.TL_RETRAIN) = true) n hn
  have hrest := raise_rests v S.TL_RETRAIN n hn
  have hdef : v.defLevel S.TL_RETRAIN = s.defLevel S.TL_RETRAIN := by rw [State.defLevel, State.defLevel, only_on honly hc.2.1, only_g honly hc.2.2]
  refine ⟨laneAt_of_rests hrest hst (only_on honly hc.1), (on_congr (raise_lamp _ _ _ p1)).trans hevt, ?_, fun hd => raise_pend v n (by decide) (by rw [hdef]; exact hd)⟩
  rcases hrest with ⟨-, hl⟩ | ⟨-, hl, -⟩ <;> rw [hl]
  · exact hlane
  · exact hlane


/-- The state of a tile before its temperature is judged, at the end of the STATUS's other work. -/
def statusJudged (s : State) (n : Nat) (w : BitVec 64) : State :=
  let v := (statusTaken s n w).flipCheck n (mfield w 23 8)
  let ot := signed 16 (v.g F.TLN_OT_OT_C)
  let temp := signed 16 (mfield w 55 40)
  let v1 := v.modLane n (fun l => { l with otRun := if ot ≤ temp then l.otRun + 1 else 0 })
  v1.modLane n (fun l => { l with
    coolSince := if decide (temp ≤ ot - 16 * (v1.g F.TLN_OT_HYST : Nat)) && !tbit (mfield w 39 24) 1 then some (l.coolSince.getD v1.now) else none })

theorem statusWork_eq (s : State) (w : BitVec 64) (hctl : ((statusTaken s n w).lane n).ctl = none) :
    statusWork (statusTaken s n w) n w =
      let v := if tbit (mfield w 39 24) 1 || decide (2 ≤ ((statusJudged s n w).lane n).otRun) then (statusJudged s n w).shutdown n else statusJudged s n w
      if v.tlst n = 5 && !tbit (mfield w 39 24) 3 then v.retrain n else v := by
  have hno : (statusTaken s n w).ctlStatus n (tbit (mfield w 39 24) 0) = statusTaken s n w := by
    unfold State.ctlStatus
    rw [hctl]
  unfold statusWork
  rw [hno]
  rfl

/-- What is judged: the lane in the state it was in, and the run of hot readings. -/
theorem statusJudged_leaves (s : State) (w : BitVec 64) (hn : n < 8) (hlen : n < s.lanes.length) (h : s.defLevel S.TL_FLIP_MISS ≤ 1 ∨ (s.lane n).flipRun = 0) :
    (statusJudged s n w).tlst n = s.tlst n ∧ (statusJudged s n w).lanes.length = s.lanes.length ∧ (statusJudged s n w).on F.SAF_STAT_LOCKED = s.on F.SAF_STAT_LOCKED
      ∧ (∀ i, i < 75 → (statusJudged s n w).defLevel i = s.defLevel i) ∧ (statusJudged s n w).g (F.TL_CTRL_TRIES n) = s.g (F.TL_CTRL_TRIES n)
      ∧ ((statusJudged s n w).lane n).sending = (s.lane n).sending ∧ ((statusJudged s n w).lane n).retrains = (s.lane n).retrains
      ∧ ((statusJudged s n w).lane n).otRun = if signed 16 (s.g F.TLN_OT_OT_C) ≤ signed 16 (mfield w 55 40) then (s.lane n).otRun + 1 else 0 := by
  obtain ⟨htaken, -, hflip⟩ := statusTaken_faces s w hn hlen
  have hface : Facing n s ((statusTaken s n w).flipCheck n (mfield w 23 8)) :=
    htaken.trans (flipCheck_faces _ _ hn (by rwa [htaken.table]) (by rw [htaken.level _ (by decide), hflip]; exact h))
  unfold statusJudged
  extract_lets v ot temp v1
  have hv : Facing n s v := hface
  have hvlen : n < v.lanes.length := by rwa [hv.table]
  have hot : ot = signed 16 (s.g F.TLN_OT_OT_C) := congrArg (signed 16) hv.limit
  have h1 : v1.lane n = { v.lane n with otRun := if ot ≤ temp then (v.lane n).otRun + 1 else 0 } := modLane_lane_same v _ hvlen
  have h1len : n < v1.lanes.length := by rwa [show v1.lanes.length = v.lanes.length from modLane_lanes_length ..]
  have h2 := modLane_lane_same v1 (fun l => { l with coolSince := if decide (temp ≤ ot - 16 * (v1.g F.TLN_OT_HYST : Nat)) && !tbit (mfield w 39 24) 1 then some (l.coolSince.getD v1.now) else none }) h1len
  have hg : ∀ y, (v1.modLane n (fun l => { l with coolSince := if decide (temp ≤ ot - 16 * (v1.g F.TLN_OT_HYST : Nat)) && !tbit (mfield w 39 24) 1 then some (l.coolSince.getD v1.now) else none })).g y = v.g y :=
    fun y => (modLane_g ..).trans (modLane_g ..)
  refine ⟨(hg _).trans hv.state, (modLane_lanes_length ..).trans ((modLane_lanes_length ..).trans hv.table), (on_congr (hg _)).trans hv.lock, fun i hi => ?_, (hg _).trans hv.tries, ?_, ?_, ?_⟩
  · rw [State.defLevel, on_congr (hg _), hg, ← State.defLevel, hv.level i hi]
  · rw [h2, h1]
    exact hv.sending
  · rw [h2, h1]
    exact hv.retrains
  · rw [h2, h1]
    show (if ot ≤ temp then (v.lane n).otRun + 1 else 0) = _
    rw [hot, hv.otRun]

/-! ### The identity of a tile -/

theorem exec_uidLo {w : BitVec 64} (h : s.hears n = true) (hc : crc8 w = w.toNat % 256) (ha : s.armed S.TL_MSG_CRC = false) (hm : mfield w 63 60 = 2) :
    exec (.tsbUidLo n w) s = .next ((s.begin.modLane n (fun l => { l with uidLo := some (mfield w 55 24, mfield w 23 8) })).identDone n) := by
  have hg : s.begin.message n w = (true, s.begin) := message_good hc (Eq.trans (by rw [State.armed, State.armed, begin_g, begin_g]) ha)
  have hb : s.begin.hears n = true := h
  refine congrArg Host.Outcome.next ((if_pos hb).trans ?_)
  rw [hg]
  exact if_pos (by simp [hm])

theorem exec_uidHi {w : BitVec 64} (h : s.hears n = true) (hc : crc8 w = w.toNat % 256) (ha : s.armed S.TL_MSG_CRC = false) (hm : mfield w 63 60 = 3) :
    exec (.tsbUidHi n w) s = .next ((s.begin.modLane n (fun l => { l with uidHi := some (mfield w 55 24, mfield w 23 8) })).identDone n) := by
  have hg : s.begin.message n w = (true, s.begin) := message_good hc (Eq.trans (by rw [State.armed, State.armed, begin_g, begin_g]) ha)
  have hb : s.begin.hears n = true := h
  refine congrArg Host.Outcome.next ((if_pos hb).trans ?_)
  rw [hg]
  exact if_pos (by simp [hm])

theorem exec_cap {w : BitVec 64} (h : s.hears n = true) (hc : crc8 w = w.toNat % 256) (ha : s.armed S.TL_MSG_CRC = false) (hm : mfield w 63 60 = 4) :
    exec (.tsbCap n w) s = .next ((s.begin.modLane n (fun l => { l with cap := some (mfield w 55 8) })).identDone n) := by
  have hg : s.begin.message n w = (true, s.begin) := message_good hc (Eq.trans (by rw [State.armed, State.armed, begin_g, begin_g]) ha)
  have hb : s.begin.hears n = true := h
  refine congrArg Host.Outcome.next ((if_pos hb).trans ?_)
  rw [hg]
  exact if_pos (by simp [hm])

def identFields (n : Nat) : List Fld := [F.TL_UID_LO_UID n, F.TL_UID_HI_UID n, F.TL_INFO_TYPE n, F.TL_INFO_VERSION n, F.TL_STAT_STATE n]

/-- A tile that has identified itself, with the capabilities that the device asks for. -/
def identified (s : State) (n : Nat) (lo hi : Nat × Nat) : State :=
  ((((s.put (F.TL_UID_LO_UID n) lo.1).put (F.TL_UID_HI_UID n) hi.1).put (F.TL_INFO_TYPE n) lo.2).put (F.TL_INFO_VERSION n) hi.2).laneActive n

theorem identDone_good {lo hi : Nat × Nat} (h1 : (s.lane n).uidLo = some lo) (h2 : (s.lane n).uidHi = some hi)
    (h3 : (s.lane n).cap = some (512 * 2 ^ 32 + 512 * 2 ^ 16 + 256)) (ht : s.tlst n = 4) : s.identDone n = identified s n lo hi := by
  unfold State.identDone
  dsimp only
  rw [h1, h2, h3]
  dsimp only
  rw [if_neg (by simp [ht]), if_pos rfl]
  rfl

theorem identified_leaves (s : State) (n : Nat) (lo hi : Nat × Nat) (hlen : n < s.lanes.length) :
    (identified s n lo hi).tlst n = 5 ∧ (identified s n lo hi).g (F.TL_UID_LO_UID n) = lo.1 % 2 ^ 32 ∧ (identified s n lo hi).g (F.TL_UID_HI_UID n) = hi.1 % 2 ^ 32
      ∧ (identified s n lo hi).g (F.TL_INFO_TYPE n) = lo.2 % 65536 ∧ (identified s n lo hi).g (F.TL_INFO_VERSION n) = hi.2 % 65536
      ∧ ((identified s n lo hi).lane n).everActive = true ∧ ((identified s n lo hi).lane n).dirty = List.range 256
      ∧ s.Only (identFields n) [.lanes] (identified s n lo hi) := by
  have honly : s.Only (identFields n) [.lanes] ((((s.put (F.TL_UID_LO_UID n) lo.1).put (F.TL_UID_HI_UID n) hi.1).put (F.TL_INFO_TYPE n) lo.2).put (F.TL_INFO_VERSION n) hi.2) :=
    only_put _ (by simp [identFields]) (by simp [F.TL_INFO_VERSION]) (only_put _ (by simp [identFields]) (by simp [F.TL_INFO_TYPE])
      (only_put _ (by simp [identFields]) (by simp [F.TL_UID_HI_UID]) (only_put _ (by simp [identFields]) (by simp [F.TL_UID_LO_UID]) (only_refl _ _ s))))
  have h1 : ((((s.put (F.TL_UID_LO_UID n) lo.1).put (F.TL_UID_HI_UID n) hi.1).put (F.TL_INFO_TYPE n) lo.2).put (F.TL_INFO_VERSION n) hi.2).g (F.TL_UID_LO_UID n) = lo.1 % 2 ^ 32 := by
    rw [g_put_sep (f := F.TL_INFO_VERSION n) (x := F.TL_UID_LO_UID n) _ _ rfl, g_put_sep (f := F.TL_INFO_TYPE n) (x := F.TL_UID_LO_UID n) _ _ rfl,
      g_put_sep (f := F.TL_UID_HI_UID n) (x := F.TL_UID_LO_UID n) _ _ rfl]
    exact g_put_same _ _ _ (by simp [F.TL_UID_LO_UID]) (by simp [F.TL_UID_LO_UID])
  have h2 : ((((s.put (F.TL_UID_LO_UID n) lo.1).put (F.TL_UID_HI_UID n) hi.1).put (F.TL_INFO_TYPE n) lo.2).put (F.TL_INFO_VERSION n) hi.2).g (F.TL_UID_HI_UID n) = hi.1 % 2 ^ 32 := by
    rw [g_put_sep (f := F.TL_INFO_VERSION n) (x := F.TL_UID_HI_UID n) _ _ rfl, g_put_sep (f := F.TL_INFO_TYPE n) (x := F.TL_UID_HI_UID n) _ _ rfl]
    exact g_put_same _ _ _ (by simp [F.TL_UID_HI_UID]) (by simp [F.TL_UID_HI_UID])
  have h3 : ((((s.put (F.TL_UID_LO_UID n) lo.1).put (F.TL_UID_HI_UID n) hi.1).put (F.TL_INFO_TYPE n) lo.2).put (F.TL_INFO_VERSION n) hi.2).g (F.TL_INFO_TYPE n) = lo.2 % 65536 := by
    rw [g_put_sep (f := F.TL_INFO_VERSION n) (x := F.TL_INFO_TYPE n) _ _ rfl]
    exact g_put_same _ _ _ (by simp [F.TL_INFO_TYPE]) (by simp [F.TL_INFO_TYPE])
  have h4 : ((((s.put (F.TL_UID_LO_UID n) lo.1).put (F.TL_UID_HI_UID n) hi.1).put (F.TL_INFO_TYPE n) lo.2).put (F.TL_INFO_VERSION n) hi.2).g (F.TL_INFO_VERSION n) = hi.2 % 65536 :=
    g_put_same _ _ _ (by simp [F.TL_INFO_VERSION]) (by simp [F.TL_INFO_VERSION])
  have hl : ((((s.put (F.TL_UID_LO_UID n) lo.1).put (F.TL_UID_HI_UID n) hi.1).put (F.TL_INFO_TYPE n) lo.2).put (F.TL_INFO_VERSION n) hi.2).lanes = s.lanes := by
    rw [put_lanes, put_lanes, put_lanes, put_lanes]
  unfold identified
  generalize (((s.put (F.TL_UID_LO_UID n) lo.1).put (F.TL_UID_HI_UID n) hi.1).put (F.TL_INFO_TYPE n) lo.2).put (F.TL_INFO_VERSION n) hi.2 = v at *
  have hact := laneActive_lane (s := v) (n := n) (by rwa [hl])
  have hkeep : ∀ y, sep (F.TL_STAT_STATE n) y = true → (v.laneActive n).g y = v.g y := fun y hy => (modLane_g ..).trans (g_put_sep v 5 hy)
  refine ⟨(modLane_g ..).trans (tlst_put_state v n (by decide)), (hkeep _ rfl).trans h1, (hkeep _ rfl).trans h2, (hkeep _ rfl).trans h3, (hkeep _ rfl).trans h4,
    by rw [hact], by rw [hact], only_modLane (by simp) (only_put _ (by simp [identFields]) (by simp [F.TL_STAT_STATE]) honly)⟩

/-- A tile whose capabilities are not those that the device asks for, never ACTIVE before. -/
def capRejected (s : State) (n : Nat) : State := (s.evt (F.TL_EVT_CAP_REJ n)).laneFailed n

theorem identDone_bad {lo hi : Nat × Nat} {cap : Nat} (h1 : (s.lane n).uidLo = some lo) (h2 : (s.lane n).uidHi = some hi)
    (h3 : (s.lane n).cap = some cap) (hcap : cap ≠ 512 * 2 ^ 32 + 512 * 2 ^ 16 + 256) (ht : s.tlst n = 4) (he : (s.lane n).everActive = false) :
    s.identDone n = (capRejected s n).raise S.TL_TRN_FAIL n := by
  unfold State.identDone
  dsimp only
  rw [h1, h2, h3]
  dsimp only
  rw [if_neg (by simp [ht]), if_neg hcap, he, if_neg (by decide)]
  rfl

theorem capRejected_leaves (s : State) (hn : n < 8) :
    s.laneAt ((capRejected s n).raise S.TL_TRN_FAIL n) n 8 ∧ ((capRejected s n).raise S.TL_TRN_FAIL n).on (F.TL_EVT_CAP_REJ n) = true
      ∧ (((capRejected s n).raise S.TL_TRN_FAIL n).lane n).assigned = false
      ∧ (s.defLevel S.TL_TRN_FAIL ≠ 0 → ((capRejected s n).raise S.TL_TRN_FAIL n).on (fltPend S.TL_TRN_FAIL) = true) := by
  obtain ⟨p1, p2, p3⟩ := (by decide : ∀ n < 8, lampField (F.TL_EVT_CAP_REJ n) = true ∧ oneBit (F.TL_EVT_CAP_REJ n)
    ∧ sep (F.TL_STAT_STATE n) (F.TL_EVT_CAP_REJ n) = true) n hn
  have honly : s.Only [F.TL_EVT_CAP_REJ n, F.UNIT_IRQ_STAT_EVT (0x51 + n % 8)] [] (s.evt (F.TL_EVT_CAP_REJ n)) :=
    only_evt (by simp) (by simp [F.TL_EVT_CAP_REJ]) (by simp [F.TL_EVT_CAP_REJ]) (only_refl _ _ s)
  obtain ⟨c1, c2, c3, d1, d2, d3⟩ := (by decide : ∀ n < 8, clear [F.TL_EVT_CAP_REJ n, F.UNIT_IRQ_STAT_EVT (0x51 + n % 8)] F.SAF_STAT_LOCKED = true
    ∧ clear [F.TL_EVT_CAP_REJ n, F.UNIT_IRQ_STAT_EVT (0x51 + n % 8)] F.FLT_CTRL_MODE = true
    ∧ clear [F.TL_EVT_CAP_REJ n, F.UNIT_IRQ_STAT_EVT (0x51 + n % 8)] (fltSev S.TL_TRN_FAIL) = true
    ∧ sep (F.TL_STAT_STATE n) F.SAF_STAT_LOCKED = true ∧ sep (F.TL_STAT_STATE n) F.FLT_CTRL_MODE = true ∧ sep (F.TL_STAT_STATE n) (fltSev S.TL_TRN_FAIL) = true) n hn
  have hrest := raise_rests (capRejected s n) S.TL_TRN_FAIL n hn
  have hdef : (capRejected s n).defLevel S.TL_TRN_FAIL = s.defLevel S.TL_TRN_FAIL := by
    rw [State.defLevel, State.defLevel, capRejected, on_congr (laneFailed_g _ n d2), laneFailed_g _ n d3, only_on honly c2, only_g honly c3]
  refine ⟨laneAt_of_rests hrest (laneFailed_tlst _ n) ((on_congr (laneFailed_g _ n d1)).trans (only_on honly c1)), ?_, rests_off hrest (laneFailed_off _ n).1,
    fun hd => raise_pend _ n (by decide) (by rw [hdef]; exact hd)⟩
  exact (on_congr (raise_lamp _ _ _ p1)).trans ((on_congr (laneFailed_g _ n p3)).trans (on_evt_self _ p2))

/-- Settles O36: bad messages, STATUS by what it shows and what it starts, the three parts of an identity, and tiles that hold no slot. -/
theorem tsbMessages : Obligations.TsbMessages := by
  refine ⟨fun s n w c h hc hcrc => ?_, fun s n w h hcrc ha hm => ?_, fun s n w h hsh hcrc ha hm ht hctl hlock hflip hot => ?_,
    fun s n w h hsh hcrc ha hm ht hctl hlock hself hcold hflip hsend htries => ?_, fun s n w lo hi cap h hsh hcrc ha ht hcap c hc => ?_,
    fun s n w lo hi h hsh hcrc ha ht hm hcap hlo hhi hever => ?_, fun s n w c h hc => exec_unheard h hc⟩
  · have hn := hears_lt h
    obtain ⟨h1, h2, h3, h4⟩ := badMessage_leaves s.begin hn
    exact ⟨_, exec_bad h hcrc hc, h1, h2.trans (by rw [begin_g]), fun hd => h3 (by rw [State.defLevel, begin_on, begin_g, ← State.defLevel]; exact hd),
      fun hd => (h4 (by rw [State.defLevel, begin_on, begin_g, ← State.defLevel]; exact hd)).trans (begin_lanes s), badMessage_within (begin_fits s (by decide) (fits_refl _ s))⟩
  · have hn := hears_lt h
    obtain ⟨h1, h2, h3, h4, h5⟩ := statusShown_leaves s.begin n w
    have hg : ∀ y ∈ statusFields n, (statusWork (statusTaken s.begin n w) n w).g y = (statusShown s.begin n w).g y := fun y hy =>
      (statusWork_g (statusFields_stand hn hy) _ hn w).trans (statusTaken_g ..)
    refine ⟨_, exec_status h hcrc ha hm, (hg _ (by simp [statusFields])).trans h1, (hg _ (by simp [statusFields])).trans h2, (hg _ (by simp [statusFields])).trans h3,
      (on_congr (hg _ (by simp [statusFields]))).trans h4, (on_congr (hg _ (by simp [statusFields]))).trans h5, fun hsh => ?_, ?_⟩
    · exact (statusWork_noted (statusTaken_noted s.begin w (by rw [begin_lanes, shaped_lanes hsh]; exact hn)) hn w).1
    · exact (statusWork_noted (x := ((statusTaken s.begin n w).lane n).statusAt) ⟨rfl, statusTaken_held s.begin n w⟩ hn w).2
  · have hn := hears_lt h
    have hlen : n < s.begin.lanes.length := by rw [begin_lanes, shaped_lanes hsh]; exact hn
    have hlevb : ∀ i, s.begin.defLevel i = s.defLevel i := fun i => by rw [State.defLevel, begin_on, begin_g, ← State.defLevel]
    obtain ⟨j1, j2, j3, j4, -, -, -, j8⟩ := statusJudged_leaves s.begin w hn hlen (by rw [hlevb]; exact hflip)
    have hrun := exec_status h hcrc ha hm
    rw [statusWork_eq s.begin w ((statusTaken_faces s.begin w hn hlen).2.1.trans hctl)] at hrun
    have htrip : (tbit (mfield w 39 24) 1 || decide (2 ≤ ((statusJudged s.begin n w).lane n).otRun)) = true := by
      rw [Bool.or_eq_true, decide_eq_true_eq]
      refine hot.imp id (fun ⟨h1, h2⟩ => ?_)
      have : signed 16 (s.begin.g F.TLN_OT_OT_C) ≤ signed 16 (mfield w 55 40) := by rw [begin_g]; exact h1
      rw [j8, if_pos this]
      exact Nat.succ_le_succ h2
    dsimp only at hrun
    rw [htrip, if_pos rfl, hlock, Bool.not_true, Bool.and_false, if_neg (by decide)] at hrun
    obtain ⟨k1, k2, k3, k4⟩ := shutdown_leaves (statusJudged s.begin n w) hn (by rwa [j2]) (j1.trans ht)
    exact ⟨_, hrun, laneAt_congr (j3.trans (begin_on ..)) k1, k2, k3, fun hd => k4 (by rw [j4 _ (by decide), hlevb]; exact hd)⟩
  · have hn := hears_lt h
    have hlen : n < s.begin.lanes.length := by rw [begin_lanes, shaped_lanes hsh]; exact hn
    have hlevb : ∀ i, s.begin.defLevel i = s.defLevel i := fun i => by rw [State.defLevel, begin_on, begin_g, ← State.defLevel]
    obtain ⟨j1, j2, j3, j4, j5, j6, j7, j8⟩ := statusJudged_leaves s.begin w hn hlen (by rw [hlevb]; exact hflip)
    have hrun := exec_status h hcrc ha hm
    rw [statusWork_eq s.begin w ((statusTaken_faces s.begin w hn hlen).2.1.trans hctl)] at hrun
    have hcool : ((statusJudged s.begin n w).lane n).otRun = 0 := j8.trans (if_neg (by rw [begin_g]; exact not_le.2 hcold))
    dsimp only at hrun
    have hstay : (tbit (mfield w 39 24) 1 || decide (2 ≤ ((statusJudged s.begin n w).lane n).otRun)) = false := by
      rw [hself, hcool]
      rfl
    have hgo : (decide ((statusJudged s.begin n w).tlst n = 5) && !tbit (mfield w 39 24) 3) = true := by
      rw [j1, show s.begin.tlst n = 5 from ht, hlock]
      rfl
    simp only [hstay, Bool.false_eq_true, if_false] at hrun
    rw [if_pos hgo] at hrun
    obtain ⟨k1, k2, k3, k4⟩ := retrain_leaves (statusJudged s.begin n w) hn (by rwa [j2]) (j6.trans hsend)
      (by rw [j7, j5, begin_g]; exact htries)
    exact ⟨_, hrun, laneAt_congr (j3.trans (begin_on ..)) k1, k2, k3.trans (by rw [j7]; rfl), fun hd => k4 (by rw [j4 _ (by decide), hlevb]; exact hd)⟩
  · have hn := hears_lt h
    have hlen : n < s.begin.lanes.length := by rw [begin_lanes, shaped_lanes hsh]; exact hn
    have hmain : ∀ k : Lane → Lane, (k (s.begin.lane n)).uidLo = some lo → (k (s.begin.lane n)).uidHi = some hi → (k (s.begin.lane n)).cap = some cap →
        exec c s = .next ((s.begin.modLane n k).identDone n) →
        ∃ t, exec c s = .next t ∧ t.tlst n = 5 ∧ t.g (F.TL_UID_LO_UID n) = lo.1 % 2 ^ 32 ∧ t.g (F.TL_UID_HI_UID n) = hi.1 % 2 ^ 32
          ∧ t.g (F.TL_INFO_TYPE n) = lo.2 % 65536 ∧ t.g (F.TL_INFO_VERSION n) = hi.2 % 65536 ∧ (t.lane n).everActive = true
          ∧ (t.lane n).dirty = List.range 256 ∧ s.begin.Only (identFields n) [.lanes] t := fun k h1 h2 h3 hrun => by
      have hl := modLane_lane_same s.begin k hlen
      rw [identDone_good (s := s.begin.modLane n k) (by rw [hl]; exact h1) (by rw [hl]; exact h2) (by rw [hl, h3, hcap]) ((modLane_g ..).trans ht)] at hrun
      obtain ⟨i1, i2, i3, i4, i5, i6, i7, i8⟩ := identified_leaves (s.begin.modLane n k) n lo hi (by rwa [modLane_lanes_length])
      exact ⟨_, hrun, i1, i2, i3, i4, i5, i6, i7, only_trans (only_modLane (by simp) (only_refl _ _ _)) i8⟩
    rcases hc with ⟨rfl, hm, hlo, hhi, hcp⟩ | ⟨rfl, hm, hhi, hlo, hcp⟩ | ⟨rfl, hm, hcp, hlo, hhi⟩
    · exact hmain _ (by rw [hlo]) hhi hcp (exec_uidLo h hcrc ha hm)
    · exact hmain _ hlo (by rw [hhi]) hcp (exec_uidHi h hcrc ha hm)
    · exact hmain _ hlo hhi (by rw [hcp]) (exec_cap h hcrc ha hm)
  · have hn := hears_lt h
    have hlen : n < s.begin.lanes.length := by rw [begin_lanes, shaped_lanes hsh]; exact hn
    have hrun := exec_cap h hcrc ha hm
    have hl := modLane_lane_same s.begin (fun l => { l with cap := some (mfield w 55 8) }) hlen
    rw [identDone_bad (s := s.begin.modLane n (fun l => { l with cap := some (mfield w 55 8) })) (by rw [hl]; exact hlo) (by rw [hl]; exact hhi) (by rw [hl]) hcap ((modLane_g ..).trans ht) (by rw [hl]; exact hever)] at hrun
    obtain ⟨k1, k2, k3, k4⟩ := capRejected_leaves (s.begin.modLane n (fun l => { l with cap := some (mfield w 55 8) })) hn
    have hlev : (s.begin.modLane n (fun l => { l with cap := some (mfield w 55 8) })).defLevel S.TL_TRN_FAIL = s.defLevel S.TL_TRN_FAIL := by
      rw [State.defLevel, modLane_on, modLane_g, begin_on, begin_g, ← State.defLevel]
    exact ⟨_, hrun, k2, laneAt_congr ((modLane_on ..).trans (begin_on ..)) k1, k3, fun hd => k4 (by rw [hlev]; exact hd)⟩

end Sys2Proof.Proofs.TileMessages
end

section
/-! PROOF. Rounds of the tile status bus (TsbRounds). -/

namespace Sys2Proof.Proofs.TileRounds

open Sys2Proof.Machine Sys2Proof.Laws Sys2Proof.Proofs.Architecture Sys2Proof.Proofs.Reading Sys2Proof.Proofs.GovernorSums
  Sys2Proof.Proofs.PendingFaults Sys2Proof.Proofs.LampReactions Sys2Proof.Proofs.LampLanes Sys2Proof.Proofs.FrameDeferral Sys2Proof.Proofs.GlareBands
  Sys2Proof.Proofs.FaultWrites Sys2Proof.Proofs.FrameFlips Sys2Proof.Proofs.FlintLockOut Sys2Proof.Proofs.TileMessages

variable {s t u v : State} {f : Fld} {n : Nat}

/-! ### The round -/

/-- A round that carries MSG_START notes the frame and empties the messages. -/
def roundBegun (s : State) (start : Bool) : State :=
  if start then (s.withTln { s.tln with msgFrame := some (s.g F.CMP_FRAME_FRAME_NO) }).withLanes (s.lanes.map (fun l => { l with msg := [] })) else s

/-- What the device's own bits say of the bus. -/
def roundRead (s : State) (readback : Bool) : State :=
  if readback then
    let w := s.put F.TLN_STAT_TSB_OK 1
    w.withTln { w.tln with tsbMiss := 0 }
  else
    let w := s.withTln { s.tln with tsbMiss := s.tln.tsbMiss + 1 }
    if w.tln.tsbMiss = 4 then ((w.put F.TLN_STAT_TSB_OK 0).evt F.TLN_EVT_TSB_ERR).raise S.TSB_ERR 0 else w

/-- The slot of one tile, and the age of its temperature. -/
def roundSlot (slots : List Nat) (s : State) (n : Nat) : State := (s.slot n (slots.getD n 15)).tempLost n

theorem exec_round (slots : List Nat) (rb st : Bool) (h : s.tsbRuns = true) :
    exec (.tsbRound slots rb st) s = .next ((List.range 8).foldl (roundSlot slots) (roundRead (roundBegun s.begin st) rb)) :=
  congrArg Host.Outcome.next (if_pos (show s.begin.tsbRuns = true from h))

theorem exec_round_rests (slots : List Nat) (rb st : Bool) (h : s.tsbRuns = false) : exec (.tsbRound slots rb st) s = .next s.begin :=
  congrArg Host.Outcome.next (if_neg (by rw [show s.begin.tsbRuns = s.tsbRuns from rfl, h]; decide))

/-- A fold that acts at one place alone, as long as the others rest. -/
theorem foldl_alone {α : Type} {I : State → Prop} {h : State → α → State} {a : α} (l : List α) (hnd : l.Nodup) (ha : a ∈ l)
    (hrest : ∀ b ∈ l, b ≠ a → ∀ u, I u → h u b = u) (hs : I s) (hI : I (h s a)) : l.foldl h s = h s a := by
  have hid : ∀ l : List α, (∀ b ∈ l, ∀ u, I u → h u b = u) → ∀ u, I u → l.foldl h u = u := fun l hl u hu =>
    List.foldlRecOn (motive := fun w => w = u) l h rfl (fun w hw b hb => by subst hw; exact hl b hb w hu)
  induction l with
  | nil => exact absurd ha List.not_mem_nil
  | cons b l ih =>
    obtain ⟨hb, hnd'⟩ := List.nodup_cons.1 hnd
    rcases List.mem_cons.1 ha with rfl | hal
    · exact hid l (fun c hc => hrest c (List.mem_cons_of_mem _ hc) (fun h => hb (h ▸ hc))) _ hI
    · rw [List.foldl_cons, hrest b List.mem_cons_self (fun h => hb (h ▸ hal)) s hs]
      exact ih hnd' hal (fun c hc => hrest c (List.mem_cons_of_mem _ hc))

theorem tempLost_none (h : (s.calTile n).hadTemp = false) : s.tempLost n = s := if_neg (by simp [h])

theorem slot_off (v : Nat) (h : s.tlst n = 0) : s.slot n v = s := by
  unfold State.slot
  dsimp only
  exact if_pos (by simp [h])

/-- The tiles other than n hold no slot, and no tile has a temperature to lose. -/
structure Alone (n : Nat) (u : State) : Prop where
  off : ∀ m, m < 8 → m ≠ n → u.tlst m = 0
  cold : ∀ m, m < 8 → (u.calTile m).hadTemp = false

theorem alone_iff : s.alone n = true ↔ Alone n s := by
  simp only [State.alone, List.all_eq_true, List.mem_range, Bool.and_eq_true, Bool.or_eq_true, decide_eq_true_eq, Bool.not_eq_true']
  exact ⟨fun h => ⟨fun m hm hne => (h m hm).1.resolve_left hne, fun m hm => (h m hm).2⟩,
    fun h m hm => ⟨or_iff_not_imp_left.2 (fun hne => h.off m hm hne), h.cold m hm⟩⟩

theorem Alone.congr (h : Alone n u) (ht : ∀ m, m < 8 → m ≠ n → t.tlst m = u.tlst m ∨ t.tlst m = 0) (hc : t.cal = u.cal) : Alone n t := by
  refine ⟨fun m hm hne => ?_, fun m hm => ?_⟩
  · rcases ht m hm hne with h' | h'
    · exact h'.trans (h.off m hm hne)
    · exact h'
  · rw [State.calTile, hc]
    exact h.cold m hm

theorem rests_off_or {m : Nat} (h : LaneRests u t m) : t.tlst m = u.tlst m ∨ t.tlst m = 0 := h.imp And.left And.left

/-- Of a round in which the others rest, the slot of tile n is all. -/
theorem round_alone (slots : List Nat) (hn : n < 8) (h : Alone n s) (hk : Alone n (s.slot n (slots.getD n 15))) :
    (List.range 8).foldl (roundSlot slots) s = s.slot n (slots.getD n 15) := by
  have hslot : roundSlot slots s n = s.slot n (slots.getD n 15) := tempLost_none (hk.cold n hn)
  rw [← hslot] at hk ⊢
  exact foldl_alone (I := Alone n) _ List.nodup_range (List.mem_range.2 hn) (fun m hm hne u hu => by
    have hm := List.mem_range.1 hm
    rw [roundSlot, slot_off _ (hu.off m hm hne), tempLost_none (hu.cold m hm)]) h hk

/-- Of a round in which no tile is there, nothing. -/
theorem round_empty (slots : List Nat) (h : ∀ m, m < 8 → s.tlst m = 0 ∧ (s.calTile m).hadTemp = false) : (List.range 8).foldl (roundSlot slots) s = s :=
  List.foldlRecOn (motive := fun u => u = s) _ _ rfl (fun u hu m hm => by
    obtain ⟨h0, hc⟩ := h m (List.mem_range.1 hm)
    subst hu
    rw [roundSlot, slot_off _ h0, tempLost_none hc])

/-! ### The bus itself -/

theorem roundBegun_reads (s : State) (start : Bool) : (∀ y, (roundBegun s start).g y = s.g y) ∧ (roundBegun s start).cal = s.cal
    ∧ (roundBegun s start).tln.tsbMiss = s.tln.tsbMiss := by
  unfold roundBegun
  split
  · exact ⟨fun y => (withLanes_g ..).trans (withTln_g ..), rfl, rfl⟩
  · exact ⟨fun _ => rfl, rfl, rfl⟩

theorem roundGood_reads (s : State) : (∀ y, sep F.TLN_STAT_TSB_OK y = true → (roundRead s true).g y = s.g y) ∧ (roundRead s true).cal = s.cal
    ∧ (roundRead s true).lanes = s.lanes ∧ (roundRead s true).tln = { s.tln with tsbMiss := 0 } ∧ (roundRead s true).on F.TLN_STAT_TSB_OK = true := by
  have htln : ∀ w : State, (w.withTln { w.tln with tsbMiss := 0 }).tln = { w.tln with tsbMiss := 0 } := fun _ => rfl
  unfold roundRead
  rw [if_pos rfl]
  dsimp only
  refine ⟨fun y hy => (withTln_g ..).trans (g_put_sep _ _ hy), (withTln_cal ..).trans (put_cal ..), (withTln_lanes ..).trans (put_lanes ..), ?_,
    (withTln_on ..).trans (on_put_set _ (by decide))⟩
  rw [htln, put_tln]

theorem roundGood_only (s : State) (start : Bool) : s.Only [F.TLN_STAT_TSB_OK] [.tln, .lanes] (roundRead (roundBegun s start) true) := by
  have hbegun : s.Only [F.TLN_STAT_TSB_OK] [.tln, .lanes] (roundBegun s start) := by
    unfold roundBegun
    exact only_ite (fun _ => only_withLanes (by simp) (only_withTln (by simp) (only_refl _ _ s))) (fun _ => only_refl _ _ s)
  unfold roundRead
  rw [if_pos rfl]
  exact only_withTln (by simp) (only_put _ (by simp) (by decide) hbegun)

theorem state_ok (n : Nat) : sep F.TLN_STAT_TSB_OK (F.TL_STAT_STATE n) = true := by
  have h : ∀ k < 8, sep F.TLN_STAT_TSB_OK ⟨0x51 + k, 0x44, 3, 0⟩ = true := by decide
  exact h (n % 8) (Nat.mod_lt _ (by decide))

/-- The state that the slots of a good round find. -/
theorem roundGood_tlst (s : State) (start : Bool) (n : Nat) : (roundRead (roundBegun s start) true).tlst n = s.tlst n :=
  ((roundGood_reads _).1 _ (state_ok n)).trans ((roundBegun_reads s start).1 _)

theorem roundGood_cal (s : State) (start : Bool) : (roundRead (roundBegun s start) true).cal = s.cal :=
  ((roundGood_reads _).2.1).trans (roundBegun_reads s start).2.1

/-- A round without tiles whose bits read back. -/
theorem roundGood_leaves (s : State) (start : Bool) :
    (roundRead (roundBegun s start) true).on F.TLN_STAT_TSB_OK = true ∧ (roundRead (roundBegun s start) true).tln.tsbMiss = 0
      ∧ (start = true → (roundRead (roundBegun s start) true).tln.msgFrame = some (s.g F.CMP_FRAME_FRAME_NO) ∧ ∀ n, ((roundRead (roundBegun s start) true).lane n).msg = [])
      ∧ (start = false → (roundRead (roundBegun s start) true).tln = { s.tln with tsbMiss := 0 } ∧ (roundRead (roundBegun s start) true).lanes = s.lanes) := by
  obtain ⟨-, -, hlanes, htln, hok⟩ := roundGood_reads (roundBegun s start)
  refine ⟨hok, by rw [htln], fun h => ⟨?_, fun n => ?_⟩, fun h => ?_⟩
  · rw [htln]
    subst h
    rfl
  · have hmap : (roundBegun s start).lanes = s.lanes.map (fun l => { l with msg := [] }) := by
      subst h
      rfl
    rw [State.lane, hlanes, hmap, List.getD_eq_getElem?_getD, List.getElem?_map]
    cases s.lanes[n]? with
    | none => rfl
    | some l => rfl
  · subst h
    exact ⟨htln, hlanes⟩

/-- The fourth bad round in a row. -/
def busBad (s : State) : State := (((s.withTln { s.tln with tsbMiss := s.tln.tsbMiss + 1 }).put F.TLN_STAT_TSB_OK 0).evt F.TLN_EVT_TSB_ERR).raise S.TSB_ERR 0

theorem roundBad_eq (h : s.tln.tsbMiss = 3) : roundRead s false = busBad s := by
  unfold roundRead
  rw [if_neg (by decide)]
  exact if_pos (by show s.tln.tsbMiss + 1 = 4; rw [h])

theorem busBad_leaves (s : State) (h : s.tln.tsbMiss = 3) :
    (busBad s).on F.TLN_STAT_TSB_OK = false ∧ (busBad s).on F.TLN_EVT_TSB_ERR = true ∧ (busBad s).tln.tsbMiss = 4
      ∧ (s.defLevel S.TSB_ERR ≠ 0 → (busBad s).on (fltPend S.TSB_ERR) = true) ∧ (busBad s).cal = s.cal
      ∧ (∀ m, m < 8 → (busBad s).tlst m = s.tlst m ∨ (busBad s).tlst m = 0) := by
  have honly : s.Only [F.TLN_STAT_TSB_OK, F.TLN_EVT_TSB_ERR, F.UNIT_IRQ_STAT_EVT 0x50] [.tln]
      (((s.withTln { s.tln with tsbMiss := s.tln.tsbMiss + 1 }).put F.TLN_STAT_TSB_OK 0).evt F.TLN_EVT_TSB_ERR) :=
    only_evt (by simp) (by simp [F.TLN_EVT_TSB_ERR]) (by decide) (only_put _ (by simp) (by decide) (only_withTln (by simp) (only_refl _ _ s)))
  have hok : (((s.withTln { s.tln with tsbMiss := s.tln.tsbMiss + 1 }).put F.TLN_STAT_TSB_OK 0).evt F.TLN_EVT_TSB_ERR).on F.TLN_STAT_TSB_OK = false :=
    (on_evt_sep _ (by decide) (by decide)).trans (on_put_clear _ (by decide))
  have hevt : (((s.withTln { s.tln with tsbMiss := s.tln.tsbMiss + 1 }).put F.TLN_STAT_TSB_OK 0).evt F.TLN_EVT_TSB_ERR).on F.TLN_EVT_TSB_ERR = true :=
    on_evt_self _ (by decide)
  have htln : (((s.withTln { s.tln with tsbMiss := s.tln.tsbMiss + 1 }).put F.TLN_STAT_TSB_OK 0).evt F.TLN_EVT_TSB_ERR).tln.tsbMiss = 4 := by
    rw [evt_tln, put_tln]
    show s.tln.tsbMiss + 1 = 4
    rw [h]
  unfold busBad
  generalize ((s.withTln { s.tln with tsbMiss := s.tln.tsbMiss + 1 }).put F.TLN_STAT_TSB_OK 0).evt F.TLN_EVT_TSB_ERR = w at *
  have hfits := raise_fits (g := Foot.reaction [] []) w S.TSB_ERR 0 rfl (by decide) (fits_refl _ w)
  have hseps : ∀ m < 8, clear [F.TLN_STAT_TSB_OK, F.TLN_EVT_TSB_ERR, F.UNIT_IRQ_STAT_EVT 0x50] (F.TL_STAT_STATE m) = true := by decide
  refine ⟨(on_congr (raise_lamp _ _ _ (by decide))).trans hok, (on_congr (raise_lamp _ _ _ (by decide))).trans hevt, ?_, fun hd => ?_, ?_, fun m hm => ?_⟩
  · rw [within_tln hfits.within rfl rfl, htln]
  · exact raise_pend w 0 (by decide) (by rw [State.defLevel, only_on honly (by decide), only_g honly (by decide), ← State.defLevel]; exact hd)
  · exact (within_cal hfits.within rfl rfl).trans (honly.parts.cal (by simp [Foot.of]))
  · have hst : w.tlst m = s.tlst m := only_g honly (hseps m hm)
    rw [← hst]
    exact rests_off_or (raise_rests w S.TSB_ERR 0 hm)

theorem busBad_fits {s0 : State} (h : s0.Fits (Foot.reaction [] [.tln]) s) : s0.Fits (Foot.reaction [] [.tln]) (busBad s) :=
  raise_fits _ _ _ rfl (by decide) (evt_fits rfl (put_fits _ rfl (withTln_fits _ rfl h)))

theorem roundGood_fits (s : State) : s.Fits (Foot.reaction [0x02] [.tln, .cmp]) (roundRead (roundBegun s.begin false) true) :=
  withTln_fits _ rfl (put_fits _ rfl (begin_fits s (by decide) (fits_refl _ s)))

/-! ### The slot of one tile -/

theorem state_alive (n m : Nat) : sep (F.TL_STAT_ALIVE n) (F.TL_STAT_STATE m) = true := by
  by_cases h : n % 8 = m % 8
  · simp [sep, F.TL_STAT_ALIVE, F.TL_STAT_STATE]
  · simp [sep, F.TL_STAT_ALIVE, F.TL_STAT_STATE]

/-- A tile in ASSIGN that shows ALIVE takes its index. -/
def assigned (s : State) (n : Nat) : State :=
  ((s.put (F.TL_STAT_ALIVE n) 1).put (F.TL_STAT_STATE n) 4).modLane n (fun l => { l with assigned := true, noAlive := 0, uidLo := none, uidHi := none, cap := none, msg := [] })

theorem bit_alive {v : Nat} (h : v % 2 = 0) : tbit v 0 = false := by
  simp [tbit, Nat.testBit_zero]
  omega

theorem slot_assign {v : Nat} (h : s.tlst n = 3) (ha : v % 2 = 0) : s.slot n v = assigned s n := by
  unfold State.slot
  dsimp only
  rw [h, bit_alive ha, if_neg (by decide), if_pos rfl, if_pos (by decide)]
  rfl

theorem assigned_leaves (s : State) (hn : n < 8) (hlen : n < s.lanes.length) :
    (assigned s n).tlst n = 4 ∧ (assigned s n).on (F.TL_STAT_ALIVE n) = true
      ∧ (assigned s n).lane n = { s.lane n with assigned := true, noAlive := 0, uidLo := none, uidHi := none, cap := none, msg := [] }
      ∧ s.Only [F.TL_STAT_ALIVE n, F.TL_STAT_STATE n] [.lanes] (assigned s n) ∧ (∀ m, m < 8 → m ≠ n → (assigned s n).tlst m = s.tlst m) := by
  refine ⟨(modLane_g ..).trans (tlst_put_state _ n (by decide)), ?_, ?_, ?_, fun m hm hne => ?_⟩
  · refine (modLane_on ..).trans ((on_put_sep _ _ ?_).trans (on_put_set _ rfl))
    simp [sep, F.TL_STAT_ALIVE, F.TL_STAT_STATE]
  · refine (modLane_lane_same _ _ (by rwa [put_lanes, put_lanes])).trans ?_
    rw [put_lane, put_lane]
  · exact only_modLane (by simp) (only_put _ (by simp) (by simp [F.TL_STAT_STATE]) (only_put _ (by simp) (by simp [F.TL_STAT_ALIVE]) (only_refl _ _ s)))
  · refine (modLane_g ..).trans ((g_put_other _ _ _ _ (state_hi n) (state_apart hn hm (Ne.symm hne))).trans ?_)
    exact g_put_sep _ _ (state_alive n m)


/-! ### A tile that holds its slot -/

/-- An assigned tile in service: neither off, nor in ASSIGN, nor failed. -/
structure Slotted (s : State) (n : Nat) : Prop where
  on : s.tlst n ≠ 0
  past : s.tlst n ≠ 3
  up : s.tlst n ≠ 8
  taken : (s.lane n).assigned = true

/-- A round without ALIVE. -/
def missed (s : State) (n : Nat) : State := (s.put (F.TL_STAT_ALIVE n) 0).modLane n (fun l => { l with noAlive := l.noAlive + 1 })

/-- A round with ALIVE, and its message bit. -/
def alive (s : State) (n v : Nat) : State :=
  (s.put (F.TL_STAT_ALIVE n) 1).modLane n (fun l => { l with noAlive := 0, msg := (l.msg ++ [tbit v 3]).drop ((l.msg.length + 1) - 64) })

theorem slot_missed {v : Nat} (h : Slotted s n) (hlen : n < s.lanes.length) (h7 : (s.lane n).noAlive = 7) (hv : v % 2 = 1) : s.slot n v = (missed s n).tileLost n true := by
  have hb : tbit v 0 = true := by
    simp [tbit, Nat.testBit_zero]
    omega
  have h8 : 8 ≤ ((missed s n).lane n).noAlive := by
    have hl : (missed s n).lane n = { s.lane n with noAlive := (s.lane n).noAlive + 1 } :=
      (modLane_lane_same _ _ (by rwa [put_lanes])).trans (by rw [put_lane])
    rw [hl]
    exact le_of_eq (by rw [h7])
  unfold State.slot
  dsimp only
  rw [hb, if_neg (by simp [h.on, h.up]), if_neg h.past, if_pos h.taken, if_neg (by decide)]
  exact if_pos h8

theorem slot_alive {v : Nat} (h : Slotted s n) (hv : v % 2 = 0) : s.slot n v = if tbit v 1 then alive s n v else (alive s n v).report n (!tbit v 2) := by
  unfold State.slot
  dsimp only
  rw [bit_alive hv, if_neg (by simp [h.on, h.up]), if_neg h.past, if_pos h.taken, if_pos (by decide)]
  rfl

theorem missed_only (s : State) (n : Nat) : s.Only [F.TL_STAT_ALIVE n] [.lanes] (missed s n) :=
  only_modLane (by simp) (only_put _ (by simp) (by simp [F.TL_STAT_ALIVE]) (only_refl _ _ s))

theorem alive_only (s : State) (n v : Nat) : s.Only [F.TL_STAT_ALIVE n] [.lanes] (alive s n v) :=
  only_modLane (by simp) (only_put _ (by simp) (by simp [F.TL_STAT_ALIVE]) (only_refl _ _ s))

theorem alive_lane (v : Nat) (hlen : n < s.lanes.length) (h : (s.lane n).msg.length < 64) :
    (alive s n v).lane n = { s.lane n with noAlive := 0, msg := (s.lane n).msg ++ [tbit v 3] } := by
  refine (modLane_lane_same _ _ (by rwa [put_lanes])).trans ?_
  rw [put_lane, Nat.sub_eq_zero_of_le (by omega), List.drop_zero]

theorem tileFault_fits {g : Foot} {s0 : State} (s : State) (i n : Nat) (masked : Bool) (hq : g.hasUnit (groupPage (srcPage i n)) = true)
    (hle : (Foot.of [0x00, 0x40, 0x50, 0x68, 0x70, 0x71] [.flt, .evr, .saf, .lanes]).le g = true) (hle' : (Foot.of [0x02, 0x70, 0x71] [.evr]).le g = true)
    (h0 : s0.Fits g s) : s0.Fits g (s.tileFault i n masked) := by
  unfold State.tileFault
  split_ifs
  · exact conseq_fits _ _ _ _ hle' h0
  · exact raiseTrig_fits _ _ _ _ _ _ hq hle h0
  · exact raise_fits _ _ _ hq hle h0

/-- A tile that is lost: its lane FAILED and off the bus, with its events and its fault. -/
theorem tileLost_leaves (s : State) (hn : n < 8) (masked : Bool) :
    s.laneAt (s.tileLost n masked) n 8 ∧ (s.tileLost n masked).on (F.TL_EVT_TILE_LOST n) = true ∧ (s.tileLost n masked).on F.TLN_EVT_TILE_LOST = true
      ∧ ((s.tileLost n masked).lane n).assigned = false ∧ (s.tileLost n masked).g (F.TL_STAT_ALIVE n) = s.g (F.TL_STAT_ALIVE n)
      ∧ (masked = false ∨ (s.quiet 0x50 = false ∧ s.quiet (0x51 + n) = false) → s.defLevel S.TL_TILE_LOST ≠ 0 → (s.tileLost n masked).on (fltPend S.TL_TILE_LOST) = true)
      ∧ (∀ m, m < 8 → m ≠ n → (s.tileLost n masked).tlst m = s.tlst m ∨ (s.tileLost n masked).tlst m = 0) := by
  have hrest := tileFault_rests (goneTile s n) S.TL_TILE_LOST n masked hn
  have hlane : (goneTile s n).lane n = (s.laneFailed n).lane n := (evt_lane ..).trans (evt_lane ..)
  have hst : (goneTile s n).tlst n = 8 := (g_evt_sep (f := F.TLN_EVT_TILE_LOST) (x := F.TL_STAT_STATE n) _ rfl rfl).trans
    ((g_evt_sep (f := F.TL_EVT_TILE_LOST n) (x := F.TL_STAT_STATE n) _ rfl rfl).trans (laneFailed_tlst s n))
  have hdef : (goneTile s n).defLevel S.TL_TILE_LOST = s.defLevel S.TL_TILE_LOST := by
    rw [State.defLevel, State.defLevel, on_congr (goneTile_g s n (f := F.FLT_CTRL_MODE) rfl rfl rfl rfl rfl),
      goneTile_g s n (f := fltSev S.TL_TILE_LOST) rfl rfl rfl rfl rfl]
  have hquiet : ∀ p, (goneTile s n).quiet p = s.quiet p := fun p => by
    have hrst : (goneTile s n).rst = s.rst := (evt_rst ..).trans ((evt_rst ..).trans (within_rst (laneFailed_fits (g := Foot.of [0x50] [.cmp, .lanes]) s n (by decide) (fits_refl _ s)).within rfl rfl))
    exact quiet_congr hrst p
  have hloc : (s.tileLost n masked) = (goneTile s n).tileFault S.TL_TILE_LOST n masked := rfl
  obtain ⟨p1, p2, p3, p4, p5⟩ := (by decide : ∀ n < 8, lampField (F.TL_EVT_TILE_LOST n) = true ∧ lampField (F.TL_STAT_ALIVE n) = true ∧ sep (F.TL_STAT_STATE n) (F.TL_STAT_ALIVE n) = true
    ∧ sep (F.TL_EVT_TILE_LOST n) (F.TL_STAT_ALIVE n) = true ∧ sep (F.UNIT_IRQ_STAT_EVT (0x51 + n % 8)) (F.TL_STAT_ALIVE n) = true) n hn
  rw [hloc]
  refine ⟨laneAt_of_rests hrest hst (on_congr (goneTile_g s n rfl rfl rfl rfl rfl)), ?_, ?_, rests_off hrest (by rw [hlane]; exact (laneFailed_off s n).1), ?_,
    fun hq hd => ?_, fun m hm hne => ?_⟩
  · exact (on_congr (tileFault_lamp _ _ _ _ p1 rfl)).trans ((on_evt_sep (f := F.TLN_EVT_TILE_LOST) (x := F.TL_EVT_TILE_LOST n) _ rfl rfl).trans
      (on_evt_self (f := F.TL_EVT_TILE_LOST n) _ rfl))
  · exact (on_congr (tileFault_lamp _ _ _ _ (by decide) rfl)).trans (on_evt_self (f := F.TLN_EVT_TILE_LOST) _ rfl)
  · exact (tileFault_lamp _ _ _ _ p2 rfl).trans (goneTile_g s n p3 p4 p5 rfl rfl)
  · exact tileFault_pend _ n masked (by decide) (by rwa [hdef]) (hq.imp id (fun h => ⟨(hquiet _).trans h.1, (hquiet _).trans h.2⟩))
  · have hm' : (goneTile s n).tlst m = s.tlst m := by
      refine (g_evt_sep (f := F.TLN_EVT_TILE_LOST) (x := F.TL_STAT_STATE m) _ rfl rfl).trans ((g_evt_sep (f := F.TL_EVT_TILE_LOST n) (x := F.TL_STAT_STATE m) _ rfl rfl).trans ?_)
      exact g_put_other _ _ _ _ (state_hi n) (state_apart hn hm (Ne.symm hne))
    rw [← hm']
    exact rests_off_or (tileFault_rests (goneTile s n) S.TL_TILE_LOST n masked hm)

theorem tileLost_fits {s0 : State} (s : State) (n : Nat) (masked : Bool) (h : s0.Fits (Foot.reaction [0x02] [.tln, .cmp]) s) :
    s0.Fits (Foot.reaction [0x02] [.tln, .cmp]) (s.tileLost n masked) := by
  have hu : (Foot.reaction [0x02] [.tln, .cmp]).hasUnit (groupPage (0x51 + n % 8)) = true := tl_unit (by decide)
  exact tileFault_fits _ _ _ _ (by rw [tile_page rfl (by decide)]; decide) (by decide) (by decide) (evt_fits (by decide) (evt_fits hu (laneFailed_fits _ _ (by decide) h)))

/-! ### Reports -/

theorem table_reacts (s : State) (k : Nat) : Reacts s (fun u => u.lanes.length = k) :=
  ⟨fun _ _ _ hu => (congrArg List.length (put_lanes ..)).trans hu, fun _ hu => hu, fun _ hu => hu, fun _ _ hu => hu, fun _ _ _ hu => hu,
    fun _ _ _ _ hu => (congrArg List.length (put_lanes ..)).trans hu,
    fun _ _ _ _ hu => (modLane_lanes_length ..).trans ((congrArg List.length (put_lanes ..)).trans hu)⟩

theorem detect_table (s : State) (pages : List Nat) (i inst addr : Nat) (inj : Bool) : (s.detect pages i inst addr inj).lanes.length = s.lanes.length := by
  unfold State.detect
  split
  · exact congrArg List.length (within_lanes (conseq_fits s i inst addr (le_self _) (fits_refl _ s)).within rfl rfl)
  · exact (table_reacts s _).raiseWith i inst addr inj false id rfl

theorem detect_rests (s : State) (pages : List Nat) (i inst addr : Nat) (inj : Bool) (hn : n < 8) : LaneRests s (s.detect pages i inst addr inj) n := by
  unfold State.detect
  split
  · have hfits := conseq_fits s i inst addr (le_self _) (fits_refl _ s)
    have hp : ∀ k < 8, (Foot.of [0x02, 0x70, 0x71] [Part.evr]).units.contains (groupPage (F.TL_STAT_STATE k).page) = false := by decide
    exact .inl ⟨fits_g hfits rfl (hp n hn), by rw [State.lane, State.lane, within_lanes hfits.within rfl rfl]⟩
  · exact (lane_reacts s hn).raiseWith i inst addr inj false id (laneRests_refl s n)

/-- A report of the region that has waited longest. -/
def reported (s : State) (n : Nat) (q : List Rgn) : State := (s.modLane n (fun l => { l with due := q })).modLane n (fun l => { l with missRun := 0 })

theorem reported_lane (q : List Rgn) (hlen : n < s.lanes.length) : (reported s n q).lane n = { s.lane n with due := q, missRun := 0 } := by
  refine (modLane_lane_same _ _ (by rwa [modLane_lanes_length])).trans ?_
  rw [modLane_lane_same _ _ hlen]

theorem reported_rests (s : State) (n : Nat) (q : List Rgn) : (∀ y, (reported s n q).g y = s.g y) ∧ (reported s n q).tln = s.tln ∧ (reported s n q).cal = s.cal
    ∧ (reported s n q).lanes.length = s.lanes.length ∧ (reported s n q).cmp = s.cmp :=
  ⟨fun _ => (modLane_g ..).trans (modLane_g ..), rfl, rfl, (modLane_lanes_length ..).trans (modLane_lanes_length ..), rfl⟩

/-- A region that failed its check, before its cells are dirty. -/
def crcFailed (s : State) (n : Nat) : State :=
  let w := (s.evt (F.TL_EVT_CRC_FAIL n)).incSat (F.TL_CNT_ERR_CRC_FAIL n)
  if w.tln.closed then w else w.detect (tlCrcPages n) S.TL_CRC n 0 false

theorem report_of {r : Rgn} {q : List Rgn} (fail : Bool) (h : (s.lane n).due = r :: q) (ha : s.armed S.TL_CRC = false) :
    s.report n fail = if fail then (crcFailed (reported s n q) n).regionFailed n r else reported s n q := by
  have hnext : s.nextReport n = some (r, s.modLane n (fun l => { l with due := q })) := by
    unfold State.nextReport
    dsimp only
    rw [h]
  have harm : (s.modLane n (fun l => { l with due := q })).armed S.TL_CRC = false := by
    rw [State.armed, modLane_g, modLane_g]
    exact ha
  have hinj : (s.modLane n (fun l => { l with due := q })).consumeInj S.TL_CRC = s.modLane n (fun l => { l with due := q }) := if_neg (by simp [harm])
  unfold State.report
  rw [hnext]
  dsimp only
  rw [harm, hinj, Bool.or_false]
  rfl

theorem crcFailed_leaves (s : State) (hn : n < 8) :
    (crcFailed s n).on (F.TL_EVT_CRC_FAIL n) = true ∧ (crcFailed s n).g (F.TL_CNT_ERR_CRC_FAIL n) = min (F.TL_CNT_ERR_CRC_FAIL n).top (s.g (F.TL_CNT_ERR_CRC_FAIL n) + 1)
      ∧ (crcFailed s n).tln = s.tln ∧ (crcFailed s n).cal = s.cal ∧ (crcFailed s n).lanes.length = s.lanes.length
      ∧ (∀ m, m < 8 → (crcFailed s n).tlst m = s.tlst m ∨ (crcFailed s n).tlst m = 0) := by
  obtain ⟨p7, p8, p1, p2, p3, p4, p5, p6⟩ := (by decide : ∀ n < 8, F.RST_BLK_STAT_CONSEQ_CNT.apart (F.TL_EVT_CRC_FAIL n) = true
    ∧ F.RST_BLK_STAT_CONSEQ_CNT.apart (F.TL_CNT_ERR_CRC_FAIL n) = true ∧ lampField (F.TL_EVT_CRC_FAIL n) = true ∧ lampField (F.TL_CNT_ERR_CRC_FAIL n) = true
    ∧ sep (F.TL_CNT_ERR_CRC_FAIL n) (F.TL_EVT_CRC_FAIL n) = true ∧ sep (F.TL_EVT_CRC_FAIL n) (F.TL_CNT_ERR_CRC_FAIL n) = true
    ∧ sep (F.UNIT_IRQ_STAT_EVT (F.TL_EVT_CRC_FAIL n).page) (F.TL_CNT_ERR_CRC_FAIL n) = true ∧ oneBit (F.TL_EVT_CRC_FAIL n)) n hn
  have h1 : ((s.evt (F.TL_EVT_CRC_FAIL n)).incSat (F.TL_CNT_ERR_CRC_FAIL n)).on (F.TL_EVT_CRC_FAIL n) = true := (on_incSat_sep _ p3).trans (on_evt_self _ p6)
  have h2 : ((s.evt (F.TL_EVT_CRC_FAIL n)).incSat (F.TL_CNT_ERR_CRC_FAIL n)).g (F.TL_CNT_ERR_CRC_FAIL n)
      = min (F.TL_CNT_ERR_CRC_FAIL n).top (s.g (F.TL_CNT_ERR_CRC_FAIL n) + 1) := by
    rw [g_incSat (by simp [F.TL_CNT_ERR_CRC_FAIL]) (by simp [F.TL_CNT_ERR_CRC_FAIL]) (g_le_top _ _), g_evt_sep _ p4 p5]
  have h3 : ∀ m, ((s.evt (F.TL_EVT_CRC_FAIL n)).incSat (F.TL_CNT_ERR_CRC_FAIL n)).tlst m = s.tlst m := fun m =>
    (g_incSat_sep (f := F.TL_CNT_ERR_CRC_FAIL n) (x := F.TL_STAT_STATE m) _ (by simp [sep, F.TL_CNT_ERR_CRC_FAIL, F.TL_STAT_STATE])).trans
      (g_evt_sep (f := F.TL_EVT_CRC_FAIL n) (x := F.TL_STAT_STATE m) _ (by simp [sep, F.TL_EVT_CRC_FAIL, F.TL_STAT_STATE]) rfl)
  have h4 : ((s.evt (F.TL_EVT_CRC_FAIL n)).incSat (F.TL_CNT_ERR_CRC_FAIL n)).tln = s.tln := (incSat_tln ..).trans (evt_tln ..)
  have h5 : ((s.evt (F.TL_EVT_CRC_FAIL n)).incSat (F.TL_CNT_ERR_CRC_FAIL n)).cal = s.cal := (incSat_cal ..).trans (evt_cal ..)
  have h6 : ((s.evt (F.TL_EVT_CRC_FAIL n)).incSat (F.TL_CNT_ERR_CRC_FAIL n)).lanes = s.lanes := (incSat_lanes ..).trans (evt_lanes ..)
  unfold crcFailed
  generalize (s.evt (F.TL_EVT_CRC_FAIL n)).incSat (F.TL_CNT_ERR_CRC_FAIL n) = w at *
  dsimp only
  split
  · exact ⟨h1, h2, h4, h5, by rw [h6], fun m _ => .inl (h3 m)⟩
  · have hfits := detect_fits (g := Foot.reaction [0x02] []) w (tlCrcPages n) S.TL_CRC n 0 false (by rw [tile_page rfl (by decide)]; decide) (by decide) (fits_refl _ w)
    refine ⟨(on_congr (detect_lamp _ _ _ _ _ _ p1 p7)).trans h1, (detect_lamp _ _ _ _ _ _ p2 p8).trans h2, (within_tln hfits.within rfl rfl).trans h4,
      (within_cal hfits.within rfl rfl).trans h5, ?_, fun m hm => ?_⟩
    · rw [detect_table, h6]
    · rw [← h3 m]
      exact rests_off_or (detect_rests w _ _ _ _ _ hm)


/-- The cells of a failed region are dirty, whatever the frame. -/
theorem regionFailed_dirty {r : Rgn} (hlen : n < s.lanes.length) (hl : s.tln.latched = false) :
    s.regionFailed n r = s.modLane n (fun l => l.dirtyCells r.band r.cell0 r.cells) ∧ ∀ c, c < r.cells → 16 * r.band + r.cell0 + c ∈ ((s.regionFailed n r).lane n).dirty := by
  have heq : s.regionFailed n r = s.modLane n (fun l => l.dirtyCells r.band r.cell0 r.cells) := by
    unfold State.regionFailed
    extract_lets v
    have hv : v.tln.latched = false := (congrArg Tln.latched (modLane_tln s n _)).trans hl
    simp only [hv, Bool.false_and, Bool.false_eq_true, if_false, v]
  refine ⟨heq, fun c hc => ?_⟩
  rw [heq, modLane_lane_same _ _ hlen]
  exact List.mem_append_right _ (List.mem_map.2 ⟨c, List.mem_range.2 hc, rfl⟩)

/-- What a tile in service finds at its slot in a good round. -/
theorem slotted_round (start : Bool) (h0 : s.tlst n ≠ 0) (h3 : s.tlst n ≠ 3) (h8 : s.tlst n ≠ 8) (ha : (s.lane n).assigned = true) (hs : start = false) :
    Slotted (roundRead (roundBegun s start) true) n := by
  subst hs
  have ht := roundGood_tlst s false n
  exact ⟨fun h => h0 (ht.symm.trans h), fun h => h3 (ht.symm.trans h), fun h => h8 (ht.symm.trans h), by rw [State.lane, ((roundGood_leaves s false).2.2.2 rfl).2]; exact ha⟩

theorem alone_round (h : Alone n s) (start : Bool) : Alone n (roundRead (roundBegun s start) true) :=
  h.congr (fun m _ _ => .inl (roundGood_tlst s start m)) (roundGood_cal s start)

theorem alone_begin (h : s.alone n = true) : Alone n s.begin := by
  obtain ⟨h1, h2⟩ := alone_iff.1 h
  exact ⟨h1, h2⟩

/-- The bits of a slot's four. -/
theorem slot_bits {v : Nat} : (v % 4 = 2 → v % 2 = 0 ∧ tbit v 1 = true) ∧ (v % 8 = 4 → v % 2 = 0 ∧ tbit v 1 = false ∧ tbit v 2 = true)
    ∧ (v % 8 = 0 → v % 2 = 0 ∧ tbit v 1 = false ∧ tbit v 2 = false) := by
  simp only [tbit, Nat.testBit_eq_decide_div_mod_eq, decide_eq_true_eq, decide_eq_false_iff_not]
  omega

theorem armed_g (hg : t.g F.FLT_INJ_STATE = s.g F.FLT_INJ_STATE) (ho : t.g F.FLT_INJ_INDEX = s.g F.FLT_INJ_INDEX) (i : Nat) : t.armed i = s.armed i := by
  rw [State.armed, State.armed, hg, ho]

/-- Settles O35: the bus, and of the tiles a round in which one alone holds a slot. -/
theorem tsbRounds : Obligations.TsbRounds := by
  refine ⟨fun s slots start h hoff => ?_, fun s slots h h3 hoff => ?_, fun s n slots hn hal h hsh h3 hv => ?_,
    fun s n slots hn hal h hsh h0 h3 h8 has h7 hv => ?_, fun s n slots r q hn hal h hsh h5 has hv hmsg hdue harm => ?_,
    fun s n slots r q hn hal h hsh h5 has hv hdue hlat harm => ?_, fun s slots rb st h => exec_round_rests slots rb st h⟩
  · have hempty := round_empty (s := roundRead (roundBegun s.begin start) true) slots (fun m hm => by
      rw [roundGood_tlst, State.calTile, roundGood_cal]
      exact hoff m hm)
    have hrun := exec_round slots true start h
    rw [hempty] at hrun
    obtain ⟨h1, h2, h3, h4⟩ := roundGood_leaves s.begin start
    exact ⟨_, hrun, h1, h2, fun hs => ⟨(h3 hs).1.trans (by rw [begin_g]), (h3 hs).2⟩, fun hs => ⟨(h4 hs).1.trans rfl, (h4 hs).2.trans (begin_lanes s)⟩, roundGood_only s.begin start⟩
  · have hmiss : s.begin.tln.tsbMiss = 3 := h3
    obtain ⟨k1, k2, k3, k4, k5, k6⟩ := busBad_leaves s.begin hmiss
    have hempty := round_empty (s := busBad s.begin) slots (fun m hm => by
      obtain ⟨h0, hc⟩ := hoff m hm
      refine ⟨?_, by rw [State.calTile, k5]; exact hc⟩
      rcases k6 m hm with h' | h'
      · exact h'.trans h0
      · exact h')
    have hrun := exec_round slots false false h
    rw [show roundBegun s.begin false = s.begin from rfl, roundBad_eq hmiss, hempty] at hrun
    exact ⟨_, hrun, k1, k2, k3, fun hd => k4 (by rw [State.defLevel, begin_on, begin_g, ← State.defLevel]; exact hd), (busBad_fits (begin_fits s (by decide) (fits_refl _ s))).within⟩
  · have hrun := exec_round slots true false h
    have hal' := alone_round (alone_begin hal) false
    have honly := roundGood_only s.begin false
    have htl := roundGood_tlst s.begin false n
    have hlanes := ((roundGood_leaves s.begin false).2.2.2 rfl).2
    generalize roundRead (roundBegun s.begin false) true = w at hrun hal' honly htl hlanes
    have hlen : n < w.lanes.length := by rw [hlanes, begin_lanes, shaped_lanes hsh]; exact hn
    have hlane : w.lane n = s.lane n := by rw [State.lane, hlanes]; rfl
    obtain ⟨k1, k2, k3, k4, k5⟩ := assigned_leaves w hn hlen
    have hslot : w.slot n (slots.getD n 15) = assigned w n := slot_assign (htl.trans h3) hv
    rw [round_alone slots hn hal' (by rw [hslot]; exact hal'.congr (fun m hm hne => .inl (k5 m hm hne)) (k4.parts.cal (by simp [Foot.of]))), hslot] at hrun
    refine ⟨_, hrun, k1, k2, k3.trans (by rw [hlane]), ?_⟩
    exact only_trans (only_mono (by simp) (by simp) honly) (only_mono (by simp) (by simp) k4)
  · have hrun := exec_round slots true false h
    have hal' := alone_round (alone_begin hal) false
    have hsl := slotted_round (s := s.begin) (n := n) false h0 h3 h8 has rfl
    have honly := roundGood_only s.begin false
    have hlanes := ((roundGood_leaves s.begin false).2.2.2 rfl).2
    have hfit : s.Fits (Foot.reaction [0x02] [.tln, .cmp]) (roundRead (roundBegun s.begin false) true) := roundGood_fits s
    generalize roundRead (roundBegun s.begin false) true = w at *
    have hlen : n < w.lanes.length := by rw [hlanes, begin_lanes, shaped_lanes hsh]; exact hn
    have hlane : w.lane n = s.lane n := by rw [State.lane, hlanes]; rfl
    have hslot := slot_missed hsl hlen (by rw [hlane]; exact h7) hv
    have hmo := missed_only w n
    have hc := (by decide : ∀ n < 8, clear [F.TL_STAT_ALIVE n] F.SAF_STAT_LOCKED = true ∧ clear [F.TL_STAT_ALIVE n] F.FLT_CTRL_MODE = true
      ∧ clear [F.TL_STAT_ALIVE n] (fltSev S.TL_TILE_LOST) = true ∧ ∀ m < 8, clear [F.TL_STAT_ALIVE n] (F.TL_STAT_STATE m) = true) n hn
    have halive : (missed w n).on (F.TL_STAT_ALIVE n) = false := (modLane_on ..).trans (on_put_clear _ rfl)
    have hmfit : s.Fits (Foot.reaction [0x02] [.tln, .cmp]) (missed w n) := modLane_fits _ _ _ (by decide) (put_fits _ (tl_unit (by decide)) hfit)
    generalize missed w n = v at *
    obtain ⟨k1, k2, k3, k4, k5, k6, k7⟩ := tileLost_leaves v hn true
    rw [round_alone slots hn hal' (by
      rw [hslot]
      refine hal'.congr (fun m hm hne => ?_) ((within_cal (tileLost_fits v n true (fits_refl _ v)).within rfl rfl).trans (hmo.parts.cal (by simp [Foot.of])))
      rcases k7 m hm hne with h' | h'
      · exact .inl (h'.trans (only_g hmo (hc.2.2.2 m hm)))
      · exact .inr h'), hslot] at hrun
    have hrst : v.rst = s.rst := (hmo.parts.rst (by simp [Foot.of])).trans ((honly.parts.rst (by simp [Foot.of])).trans rfl)
    have hlev : v.defLevel S.TL_TILE_LOST = s.defLevel S.TL_TILE_LOST := by
      rw [State.defLevel, only_on hmo hc.2.1, only_g hmo hc.2.2.1, only_on honly (by decide), only_g honly (by decide), begin_on, begin_g, ← State.defLevel]
    refine ⟨_, hrun, laneAt_congr ((only_on hmo hc.1).trans ((only_on honly (by decide)).trans (begin_on ..))) k1, (on_congr k5).trans halive, k2, k3, k4,
      fun q1 q2 hd => k6 (.inr ⟨(quiet_congr hrst _).trans q1, (quiet_congr hrst _).trans q2⟩) (by rw [hlev]; exact hd), (tileLost_fits v n true hmfit).within⟩
  · have hrun := exec_round slots true false h
    have hal' := alone_round (alone_begin hal) false
    have hsl := slotted_round (s := s.begin) (n := n) false (h5 ▸ by decide) (h5 ▸ by decide) (h5 ▸ by decide) has rfl
    have honly := roundGood_only s.begin false
    have hlanes := ((roundGood_leaves s.begin false).2.2.2 rfl).2
    generalize roundRead (roundBegun s.begin false) true = w at *
    have hlen : n < w.lanes.length := by rw [hlanes, begin_lanes, shaped_lanes hsh]; exact hn
    have hlane : w.lane n = s.lane n := by rw [State.lane, hlanes]; rfl
    have hao := alive_only w n (slots.getD n 15)
    have hclr := (by decide : ∀ n < 8, clear [F.TL_STAT_ALIVE n] F.FLT_INJ_STATE = true ∧ clear [F.TL_STAT_ALIVE n] F.FLT_INJ_INDEX = true
      ∧ ∀ m < 8, clear [F.TL_STAT_ALIVE n] (F.TL_STAT_STATE m) = true) n hn
    have harm' : (alive w n (slots.getD n 15)).armed S.TL_CRC = false :=
      (armed_g (only_g hao hclr.1) (only_g hao hclr.2.1) _).trans ((armed_g (only_g honly (by decide)) (only_g honly (by decide)) _).trans
        ((armed_g (begin_g ..) (begin_g ..) _).trans harm))
    have halane := alive_lane (slots.getD n 15) hlen (by rw [hlane]; exact hmsg)
    rw [hlane] at halane
    have hadue : ((alive w n (slots.getD n 15)).lane n).due = r :: q := by rw [halane]; exact hdue
    have halen : n < (alive w n (slots.getD n 15)).lanes.length := by rw [alive, modLane_lanes_length, put_lanes]; exact hlen
    have hstate : Alone n (alive w n (slots.getD n 15)) := hal'.congr (fun m hm _ => .inl (only_g hao (hclr.2.2 m hm))) (hao.parts.cal (by simp [Foot.of]))
    have halone := fun h' => (round_alone slots hn hal' h').symm
    generalize slots.getD n 15 = v at *
    have hfin : s.begin.Only [F.TLN_STAT_TSB_OK, F.TL_STAT_ALIVE n] [.tln, .lanes] (alive w n v) :=
      only_trans (only_mono (by simp) (by simp) honly) (only_mono (by simp) (by simp) hao)
    obtain ⟨b1, b2, -⟩ := slot_bits (v := v)
    rcases hv with hv | hv
    · obtain ⟨hv0, hv1⟩ := b1 hv
      have hslot : w.slot n v = alive w n v := (slot_alive hsl hv0).trans (if_pos hv1)
      rw [hslot] at halone
      refine ⟨_, hrun.trans (congrArg Host.Outcome.next (halone hstate).symm), by rw [halane], by rw [halane], by rw [if_pos hv]; exact hadue, fun h4 => ?_, hfin⟩
      omega
    · obtain ⟨hv0, hv1, hv2⟩ := b2 hv
      have hslot : w.slot n v = reported (alive w n v) n q := by
        rw [slot_alive hsl hv0, if_neg (by rw [hv1]; decide), hv2, report_of _ hadue harm']
        rfl
      have hrl := reported_lane q halen
      obtain ⟨q1, q2, q3, -⟩ := reported_rests (alive w n v) n q
      rw [hslot] at halone
      refine ⟨_, hrun.trans (congrArg Host.Outcome.next (halone (hstate.congr (fun m _ _ => .inl (q1 _)) q3)).symm), by rw [hrl, halane], by rw [hrl, halane],
        by rw [if_neg (by omega), hrl], fun _ => by rw [hrl], only_modLane (by simp) (only_modLane (by simp) hfin)⟩
  · have hrun := exec_round slots true false h
    have hal' := alone_round (alone_begin hal) false
    have hsl := slotted_round (s := s.begin) (n := n) false (h5 ▸ by decide) (h5 ▸ by decide) (h5 ▸ by decide) has rfl
    have honly := roundGood_only s.begin false
    obtain ⟨-, -, -, hround⟩ := roundGood_leaves s.begin false
    obtain ⟨htln, hlanes⟩ := hround rfl
    generalize roundRead (roundBegun s.begin false) true = w at *
    have hlen : n < w.lanes.length := by rw [hlanes, begin_lanes, shaped_lanes hsh]; exact hn
    have hlane : w.lane n = s.lane n := by rw [State.lane, hlanes]; rfl
    have hlatched : w.tln.latched = false := (congrArg Tln.latched htln).trans hlat
    have hao := alive_only w n (slots.getD n 15)
    have hclr := (by decide : ∀ n < 8, clear [F.TL_STAT_ALIVE n] F.FLT_INJ_STATE = true ∧ clear [F.TL_STAT_ALIVE n] F.FLT_INJ_INDEX = true
      ∧ clear [F.TL_STAT_ALIVE n] (F.TL_CNT_ERR_CRC_FAIL n) = true ∧ clear [F.TLN_STAT_TSB_OK] (F.TL_CNT_ERR_CRC_FAIL n) = true
      ∧ ∀ m < 8, clear [F.TL_STAT_ALIVE n] (F.TL_STAT_STATE m) = true) n hn
    obtain ⟨c1, c2, c3, c4, c5⟩ := hclr
    have harm' : (alive w n (slots.getD n 15)).armed S.TL_CRC = false :=
      (armed_g (only_g hao c1) (only_g hao c2) _).trans ((armed_g (only_g honly (by decide)) (only_g honly (by decide)) _).trans
        ((armed_g (begin_g ..) (begin_g ..) _).trans harm))
    have hadue : ((alive w n (slots.getD n 15)).lane n).due = r :: q := by
      have hl : ((alive w n (slots.getD n 15)).lane n).due = (w.lane n).due := by
        unfold alive
        rw [modLane_lane_same _ _ (by rwa [put_lanes]), put_lane]
      rw [hl, hlane, hdue]
    have hcnt : (alive w n (slots.getD n 15)).g (F.TL_CNT_ERR_CRC_FAIL n) = s.g (F.TL_CNT_ERR_CRC_FAIL n) :=
      (only_g hao c3).trans ((only_g honly c4).trans (begin_g ..))
    have halen : n < (alive w n (slots.getD n 15)).lanes.length := by rw [alive, modLane_lanes_length, put_lanes]; exact hlen
    have hstate : Alone n (alive w n (slots.getD n 15)) := hal'.congr (fun m hm _ => .inl (only_g hao (c5 m hm))) (hao.parts.cal (by simp [Foot.of]))
    have halatched : (alive w n (slots.getD n 15)).tln.latched = false := (congrArg Tln.latched (hao.parts.tln (by simp [Foot.of]))).trans hlatched
    have halone := fun h' => (round_alone slots hn hal' h').symm
    generalize slots.getD n 15 = v at *
    obtain ⟨-, -, b3⟩ := slot_bits (v := v)
    obtain ⟨hv0, hv1, hv2⟩ := b3 hv
    have hslot : w.slot n v = (crcFailed (reported (alive w n v) n q) n).regionFailed n r := by
      rw [slot_alive hsl hv0, if_neg (by rw [hv1]; decide), hv2, report_of _ hadue harm']
      rfl
    obtain ⟨q1, q2, q3, q4, -⟩ := reported_rests (alive w n v) n q
    generalize alive w n v = a at *
    generalize reported a n q = x at *
    obtain ⟨k1, k2, k3, k4, k5, k6⟩ := crcFailed_leaves x hn
    generalize crcFailed x n = y at *
    obtain ⟨d1, d2⟩ := regionFailed_dirty (s := y) (r := r) (by rw [k5, q4]; exact halen) (by rw [k3, q2]; exact halatched)
    rw [hslot] at halone
    rw [d1] at halone d2
    refine ⟨_, hrun.trans (congrArg Host.Outcome.next (halone ?_).symm), (modLane_on ..).trans k1, (modLane_g ..).trans (k2.trans (by rw [q1, hcnt])), d2⟩
    refine hstate.congr (fun m hm _ => ?_) ((modLane_cal ..).trans (k4.trans q3))
    rw [State.tlst, modLane_g, ← State.tlst]
    rcases k6 m hm with h' | h'
    · exact .inl (h'.trans (q1 _))
    · exact .inr h'

end Sys2Proof.Proofs.TileRounds
end

section
/-! PROOF. The object cut-off (ObjectCutoff): a list with an object past the table of margin classes. -/

namespace Sys2Proof.Proofs.ListCutOff

open Sys2Proof.Machine Sys2Proof.Laws Sys2Proof.Proofs.Architecture Sys2Proof.Proofs.Reading Sys2Proof.Proofs.GlareBands

variable {s t u : State} {f : Fld} {n : Nat}

/-! ### The parts of a cut-off -/

/-- The times of the frame ahead enter the engines' part. -/
def timed (s : State) : State :=
  let tNext := ((s.periodAhead : Int) + s.tln.adj).toNat
  let tPh := s.ltNs + (s.tln.nextFlip - s.ns) + s.g F.GLR_PHOTON_OFS_NS
  (s.withTln { s.tln with tNext := tNext }).withGlare { s.glare with tPh := tPh, tNext := tNext, split := s.on F.SIDE_STAT_SPLIT, entries := [] }

/-- The cut-off up to the boxes of the engines. -/
def cutOpened (s : State) : State := (timed s.glareCommits.pullAdjust).boxEntry

/-- The list is taken, its age judged and the snapshot's frame reported. -/
def cutTaken (parity : Bool) (s : State) : State :=
  let s := s.takeList parity
  let (st, future) := s.listStale (s.glare.heldList.map ObjList.listTime)
  let s := (s.put F.GLR_LIST_AGE_AGE_US (match s.glare.heldList with | some l => s.ageUs l.listTime | none => 0)).put F.GLR_SNAP_FRAME_FRAME s.frameNo
  let s := if future then s.evt F.GLR_EVT_TS_FUTURE else s
  let s : State := s.withGlare { s.glare with stale := st }
  s.put F.GLR_STAT_FORCE_M3 (bit s.forceM3)

/-- Whether the list is stale is shown, and the Governor judges its own. -/
def cutClosed (s : State) : State :=
  let s := s.put F.GLR_STAT_LIST_STALE (bit s.glare.stale)
  let s := if s.glare.stale then s.evt F.GLR_EVT_LIST_STALE else s
  s.govMonitor

theorem exec_cutoff (parity : Bool) (h : s.tln.running = true)
    (hen : ((cutOpened s.begin).on (F.UNIT_CTRL_ENABLE 0x30) && !(cutOpened s.begin).blockRunning 0x30) = true) :
    exec (.objectCutoff parity) s
      = .next (cutClosed ((cutTaken parity (cutOpened s.begin)).setup ((cutTaken parity (cutOpened s.begin)).glare.heldList.getD ⟨0, 0, []⟩))) := by
  show execObjectCutoff parity s = _
  unfold execObjectCutoff
  extract_lets s1 s2 tNext tPh src1 src2 s3 s4 s5 s6 src3 s7 s8 s9
  have h2 : s2 = s.begin.glareCommits.pullAdjust := rfl
  have h3 : s3 = timed s2 := by
    clear_value s2
    rfl
  have h4 : s4 = cutOpened s.begin := by rw [cutOpened, ← h2, ← h3]
  rw [if_pos (show s1.tln.running = true from h)]
  have h7 : s7 = (cutTaken parity s4).setup ((cutTaken parity s4).glare.heldList.getD ⟨0, 0, []⟩) := by
    rw [← h4] at hen
    refine (if_pos hen).trans ?_
    clear_value s4
    rfl
  have h9 : s9.govMonitor = cutClosed s7 := by
    clear_value s7
    rfl
  rw [h9, h7, h4]

/-! ### The engines' setup -/

theorem setBytes_mem (l : List Byte) : ∀ (s : State) (a : Nat), ∃ m, s.setBytes a l = s.withMem m := by
  induction l with
  | nil => exact fun s _ => ⟨s.mem, rfl⟩
  | cons b l ih => exact fun s a => (ih (s.setByte a b) (a + 1)).imp (fun _ h => h)

/-- A state that another differs from in memory and in the engines' part alone. -/
structure Prepared (u : State) (boxes : List PixBox) (t : State) : Prop where
  rest : ∃ m g, t = (u.withMem m).withGlare g
  stale : t.glare.stale = u.glare.stale
  ph : t.glare.tPh = u.glare.tPh
  next : t.glare.tNext = u.glare.tNext
  split : t.glare.split = u.glare.split
  table : t.glare.engines.length = 8
  boxes : (t.engine 0).boxes = boxes

/-- The boxes of one engine enter its window and its store. -/
def engineSetup (l : ObjList) (objs seam : List Entry) (age tPh tEnd : Nat) (s : State) (n : Nat) : State :=
  let mine := if s.boxOnly n && !s.forceM3 then l.objs.map (fun o => s.prepare o (some 3) tPh tEnd) else objs
  let boxes := (mine ++ seam).map (s.pixBox n)
  let a := s.beamWin + 0x18000 + 0x2000 * n
  let s := (s.setBytes a (s.localHeader n objs.length seam.length age)).setBytes (a + 0x40) (boxes.flatMap PixBox.bytes)
  (s.setBytes (a + 0x1040) (List.replicate 0xFC0 0)).modEngine n (fun e => { e with boxes := boxes })

theorem engineSetup_eq (l : ObjList) (objs seam : List Entry) (age tPh tEnd : Nat) (s : State) (n : Nat) :
    ∃ m, engineSetup l objs seam age tPh tEnd s n = (s.withMem m).modEngine n (fun e => { e with boxes :=
      ((if s.boxOnly n && !s.forceM3 then l.objs.map (fun o => s.prepare o (some 3) tPh tEnd) else objs) ++ seam).map (s.pixBox n) }) := by
  unfold engineSetup
  extract_lets mine boxes a v
  obtain ⟨m1, h1⟩ := setBytes_mem (s.localHeader n objs.length seam.length age) s a
  obtain ⟨m2, h2⟩ := setBytes_mem (boxes.flatMap PixBox.bytes) (s.setBytes a (s.localHeader n objs.length seam.length age)) (a + 0x40)
  obtain ⟨m3, h3⟩ := setBytes_mem (List.replicate 0xFC0 0) v (a + 0x1040)
  refine ⟨m3, ?_⟩
  rw [h3, show v = (s.withMem m1).withMem m2 by rw [← h1]; exact h2]
  rfl

theorem engineSetup_same (l : ObjList) (objs seam : List Entry) (age tPh tEnd : Nat) (hlen : n < s.glare.engines.length) :
    (engineSetup l objs seam age tPh tEnd s n).engine n = { s.engine n with boxes :=
      ((if s.boxOnly n && !s.forceM3 then l.objs.map (fun o => s.prepare o (some 3) tPh tEnd) else objs) ++ seam).map (s.pixBox n) } := by
  obtain ⟨m, hm⟩ := engineSetup_eq l objs seam age tPh tEnd s n
  rw [hm]
  exact modEngine_engine (s := s.withMem m) _ hlen

theorem engineSetup_other (l : ObjList) (objs seam : List Entry) (age tPh tEnd : Nat) {k : Nat} (hne : n ≠ k) :
    (engineSetup l objs seam age tPh tEnd s n).engine k = s.engine k := by
  obtain ⟨m, hm⟩ := engineSetup_eq l objs seam age tPh tEnd s n
  rw [hm]
  show (s.glare.engines.set n _).getD k Engine.init = _
  rw [List.getD_eq_getElem?_getD, List.getElem?_set_ne hne]
  rfl

theorem engineSetup_prepared {boxes : List PixBox} (l : ObjList) (objs seam : List Entry) (age tPh tEnd : Nat) (h : Prepared u boxes s) (hne : n ≠ 0) :
    Prepared u boxes (engineSetup l objs seam age tPh tEnd s n) := by
  have hother := engineSetup_other (s := s) l objs seam age tPh tEnd hne
  obtain ⟨m, hm⟩ := engineSetup_eq l objs seam age tPh tEnd s n
  obtain ⟨⟨m', g, hs⟩, h1, h2, h3, h6, h4, h5⟩ := h
  rw [← hother] at h5
  rw [hm] at h5 ⊢
  exact ⟨⟨m, _, by rw [hs]; rfl⟩, h1, h2, h3, h6, (List.length_set ..).trans h4, h5⟩

/-- The prepared entries enter the engines' part and the beam window. -/
def entriesStored (s : State) (e : List Entry) : State :=
  let s := s.withGlare { s.glare with entries := e }
  s.setBytes (s.beamWin + 0x14000) (e.flatMap Entry.bytes)

theorem entriesStored_mem (s : State) (e : List Entry) : ∃ m, entriesStored s e = (s.withGlare { s.glare with entries := e }).withMem m := setBytes_mem _ _ _

theorem put_beside (s : State) (m : List (Nat × Byte)) (g : Glare) (f : Fld) (v : Nat) :
    ((s.withGlare g).withMem m).put f v = ((s.put f v).withMem m).withGlare g := rfl

theorem g_beside (s : State) (m : List (Nat × Byte)) (g : Glare) (x : Fld) : ((s.withMem m).withGlare g).g x = s.g x := rfl

theorem seamSend_idle (objs : List Entry) (h : s.sst = 0) : s.seamSend objs = s := if_neg (by simp [h])

/-- The setup of a list without seam entries, engine 0 rendering by its objects' own classes. -/
theorem setup_leaves (l : ObjList) (hstore : u.glare.store = none) (hside : u.sst = 0) (hpast : l.objs.any (fun o => decide (u.glare.tPh < o.tObs)) = false)
    (hlen : u.glare.engines.length = 8) (hbox : u.boxOnly 0 = false) (hm3 : u.forceM3 = false) :
    Prepared (u.put F.GLR_STAT_COUNT l.objs.length) (l.objs.map (fun o => u.pixBox 0 (u.prepare o (some o.mclass) u.glare.tPh (u.glare.tPh + u.glare.tNext)))) (u.setup l) := by
  have hseam : u.importSeam = ([], u) := by
    unfold State.importSeam
    rw [hstore]
  have heff : l.objs.map (fun o => u.prepare o (some (if u.forceM3 then 3 else o.mclass)) u.glare.tPh (u.glare.tPh + u.glare.tNext))
      = l.objs.map (fun o => u.prepare o (some o.mclass) u.glare.tPh (u.glare.tPh + u.glare.tNext)) := by rw [hm3]; rfl
  unfold State.setup
  extract_lets tPh tEnd eff objs s1
  have h1 : s1 = u := if_neg (by rw [hpast]; decide)
  rw [h1, hseam]
  have hobjs : objs = l.objs.map (fun o => u.prepare o (some o.mclass) u.glare.tPh (u.glare.tPh + u.glare.tNext)) := heff
  have hcnt : objs.length = l.objs.length := List.length_map _
  have hfold : ∀ age v, v = (entriesStored u (objs ++ [])).put F.GLR_STAT_COUNT objs.length →
      Prepared (u.put F.GLR_STAT_COUNT l.objs.length) (l.objs.map (fun o => u.pixBox 0 (u.prepare o (some o.mclass) u.glare.tPh (u.glare.tPh + u.glare.tNext))))
        (((List.range 8).foldl (engineSetup l objs [] age tPh tEnd) v).seamSend objs) := by
    intro age v hv
    obtain ⟨m, hm⟩ := entriesStored_mem u (objs ++ [])
    have hv : v = ((u.put F.GLR_STAT_COUNT l.objs.length).withMem m).withGlare { u.glare with entries := objs ++ [] } := by
      rw [hv, hcnt, hm, put_beside]
    have hg : ∀ x, sep F.GLR_STAT_COUNT x = true → v.g x = u.g x := fun x hx => by
      rw [hv, g_beside]
      exact g_put_sep _ _ hx
    have hbox0 : v.boxOnly 0 = false := by
      rw [State.boxOnly, on_congr (hg (F.BE_STAT_BOX_ONLY 0) rfl), on_congr (hg (F.UNIT_CTRL_ENABLE (0x31 + 0)) rfl)]
      exact hbox
    have hpix : ∀ e, v.pixBox 0 e = u.pixBox 0 e := fun e => by
      rw [State.pixBox, hg (F.BE_GEO0_H0 0) rfl, hg (F.BE_GEO0_V0 0) rfl, hg (F.BE_GEO1_PH 0) rfl, hg (F.BE_GEO1_PV 0) rfl]
      rfl
    have hvlen : 0 < v.glare.engines.length := by
      rw [hv]
      exact lt_of_lt_of_eq (by decide) hlen.symm
    have hsame := engineSetup_same (s := v) l objs [] age tPh tEnd hvlen
    rw [hbox0, Bool.false_and, if_neg (by decide), List.append_nil, List.map_congr_left (fun e _ => hpix e), hobjs, List.map_map] at hsame
    have hfirst : Prepared (u.put F.GLR_STAT_COUNT l.objs.length) (l.objs.map (fun o => u.pixBox 0 (u.prepare o (some o.mclass) u.glare.tPh (u.glare.tPh + u.glare.tNext))))
        (engineSetup l objs [] age tPh tEnd v 0) := by
      have hb := congrArg Engine.boxes hsame
      rw [← hobjs] at hb
      obtain ⟨m', hm'⟩ := engineSetup_eq l objs [] age tPh tEnd v 0
      rw [hm'] at hb ⊢
      rw [hv] at hb ⊢
      have hw : (u.put F.GLR_STAT_COUNT l.objs.length).glare = u.glare := put_glare ..
      generalize u.put F.GLR_STAT_COUNT l.objs.length = w at *
      exact ⟨⟨m', _, rfl⟩, by rw [hw]; rfl, by rw [hw]; rfl, by rw [hw]; rfl, by rw [hw]; rfl, (List.length_set ..).trans hlen, hb⟩
    have hlast : Prepared (u.put F.GLR_STAT_COUNT l.objs.length) (l.objs.map (fun o => u.pixBox 0 (u.prepare o (some o.mclass) u.glare.tPh (u.glare.tPh + u.glare.tNext))))
        ((List.range 8).foldl (engineSetup l objs [] age tPh tEnd) v) := by
      rw [show List.range 8 = 0 :: [1, 2, 3, 4, 5, 6, 7] from rfl, List.foldl_cons]
      exact List.foldlRecOn (motive := Prepared _ _) _ _ hfirst (fun x hx b hb => engineSetup_prepared l objs [] age tPh tEnd hx (by rintro rfl; simp at hb))
    generalize (List.range 8).foldl (engineSetup l objs [] age tPh tEnd) v = x at *
    obtain ⟨m', g, hx⟩ := hlast.rest
    have hidle : x.sst = 0 := by
      rw [hx, State.sst, g_beside]
      exact (g_put_sep (f := F.GLR_STAT_COUNT) (x := F.SIDE_STAT_STATE) _ _ rfl).trans hside
    rw [seamSend_idle _ hidle]
    exact hlast
  exact hfold _ _ rfl

/-! ### A margin class past the table

MARGIN has a word for each of the four classes. The word of class 7 would be STAT, whose COUNT the setup itself writes. -/

/-- GLR serves, and the newest list has one object of margin class 7. -/
def wideMargin : State :=
  { (((((State.blank.put (F.UNIT_CTRL_ENABLE 0x30) 1).put (F.UNIT_CTRL_ENABLE 0x31) 1).put F.CLK_STAT_ROOT_OK 1).put (F.BE_GEO1_PH 0) 1).put F.GLR_KSEL_ROM 0) with
    tln := { Tln.init with running := true }, cmd := { Cmd.init with served := true }
    glare := { Glare.init with newest := some ⟨0, 0, [⟨0, 0, 7, 0, 0, 0, 0, 0, 0, 0, 0, 0⟩]⟩ } }

/-- The state that the setup finds. -/
def atSetup : State := cutTaken false (cutOpened wideMargin.begin)

/-- Its list. -/
def wideList : ObjList := ⟨0, 0, [⟨0, 0, 7, 0, 0, 0, 0, 0, 0, 0, 0, 0⟩]⟩

theorem atSetup_list : atSetup.glare.heldList = some wideList := by decide +kernel

theorem exec_wide : exec (.objectCutoff false) wideMargin = .next (cutClosed (atSetup.setup wideList)) := by
  have h := exec_cutoff (s := wideMargin) false rfl (by decide +kernel)
  have hl : (cutTaken false (cutOpened wideMargin.begin)).glare.heldList.getD ⟨0, 0, []⟩ = wideList := by
    rw [← atSetup, atSetup_list]
    rfl
  rw [h, hl]
  rfl

/-- The registers after the cut-off. -/
def afterSetup : State := cutClosed (atSetup.put F.GLR_STAT_COUNT wideList.objs.length)

theorem put_past (s : State) (m : List (Nat × Byte)) (g : Glare) (f : Fld) (v : Nat) :
    ((s.withMem m).withGlare g).put f v = ((s.put f v).withMem m).withGlare g := rfl

theorem evt_past (s : State) (m : List (Nat × Byte)) (g : Glare) (f : Fld) : ((s.withMem m).withGlare g).evt f = ((s.evt f).withMem m).withGlare g := by
  unfold State.evt
  by_cases h : s.on f = true
  · rw [if_pos h]
    exact if_pos h
  · rw [if_neg h]
    exact if_neg h

theorem govMonitor_past (s : State) (m : List (Nat × Byte)) (g : Glare) : ((s.withMem m).withGlare g).govMonitor = (s.govMonitor.withMem m).withGlare g := by
  have hlt : ((s.withMem m).withGlare g).ltNs = s.ltNs := by rw [State.ltNs, show ((s.withMem m).withGlare g).lt = s.lt from rfl, ← State.ltNs]
  have hage : ∀ t, ((s.withMem m).withGlare g).ageUs t = s.ageUs t := fun t => by rw [State.ageUs, hlt, ← State.ageUs]
  have hst : ((s.withMem m).withGlare g).listStale s.gov.listTime = s.listStale s.gov.listTime := by
    unfold State.listStale
    rw [hlt, show ((s.withMem m).withGlare g).on F.CSF_STAT_LT_VALID = s.on F.CSF_STAT_LT_VALID from rfl]
  unfold State.govMonitor
  rw [show ((s.withMem m).withGlare g).gov = s.gov from rfl, hst]
  dsimp only
  rw [put_past, put_past]
  cases s.gov.listTime with
  | none => rfl
  | some t =>
    dsimp only
    rw [hage]

theorem cutClosed_past (s : State) (m : List (Nat × Byte)) (g : Glare) (h : g.stale = s.glare.stale) :
    cutClosed ((s.withMem m).withGlare g) = ((cutClosed s).withMem m).withGlare g := by
  have hs : ∀ f v, (s.put f v).glare.stale = s.glare.stale := fun f v => congrArg Glare.stale (put_glare ..)
  unfold cutClosed
  dsimp only
  rw [put_past, evt_past, hs, show (((s.put F.GLR_STAT_LIST_STALE (bit ((s.withMem m).withGlare g).glare.stale)).withMem m).withGlare g).glare.stale = s.glare.stale from h,
    show ((s.withMem m).withGlare g).glare.stale = s.glare.stale from h]
  by_cases hst : s.glare.stale = true
  · rw [if_pos hst, if_pos hst, govMonitor_past]
  · rw [if_neg hst, if_neg hst, govMonitor_past]

theorem pixBox_congr (h : ∀ x, t.g x = s.g x) (n : Nat) (e : Entry) : t.pixBox n e = s.pixBox n e := by
  rw [State.pixBox, h, h, h, h]
  rfl

theorem prepare_congr (h : ∀ x, t.g x = s.g x) (o : Obj) (c : Option Nat) (tPh tEnd : Nat) : t.prepare o c tPh tEnd = s.prepare o c tPh tEnd := by
  have hdt : ∀ a b, t.dt a b = s.dt a b := fun a b => by rw [State.dt, h]; rfl
  unfold State.prepare
  cases c with
  | none => simp only [hdt, h]
  | some c => simp only [hdt, h]

/-- Refutes O28: of an object of margin class 7 the setup takes STAT for the margin, before it counts the list there. -/
theorem not_objectCutoff : ¬ Obligations.ObjectCutoff := by
  rintro ⟨-, hlist, -⟩
  obtain ⟨t, hexec, -, -, -, -, -, -, -, hboxes⟩ := hlist wideMargin wideList rfl (by decide +kernel) (by decide +kernel) rfl
    (by decide +kernel) (by decide +kernel) rfl (by decide +kernel)
  have ht : t = cutClosed (atSetup.setup wideList) := Host.Outcome.next.inj (hexec.symm.trans exec_wide)
  have hset := setup_leaves (u := atSetup) wideList (by decide +kernel) (by decide +kernel) (by decide +kernel) (by decide +kernel) (by decide +kernel) (by decide +kernel)
  have hb := (hboxes 0 (by decide)).2
  generalize atSetup.setup wideList = w at *
  obtain ⟨⟨m, g, hw⟩, hstale, hph, hnext, hsplit, -, hbox⟩ := hset
  rw [hw] at hstale hph hnext hsplit hbox
  rw [hw, cutClosed_past _ m g hstale] at ht
  have hg : ∀ x, t.g x = afterSetup.g x := fun x => by rw [ht, g_beside, ← afterSetup]
  have hgl : t.glare = g := by rw [ht]; rfl
  have hsp : g.split = false := Eq.trans hsplit (by decide +kernel)
  have hm3 : t.forceM3 = false := by
    rw [State.forceM3, hgl, hsp, on_congr (hg _)]
    decide +kernel
  have hbo : t.boxOnly 0 = false := by
    rw [State.boxOnly, on_congr (hg _), on_congr (hg _)]
    decide +kernel
  have hgp : g.tPh = atSetup.glare.tPh := hph.trans (congrArg Glare.tPh (put_glare ..))
  have hgn : g.tNext = atSetup.glare.tNext := hnext.trans (congrArg Glare.tNext (put_glare ..))
  have hshown : (t.engine 0).boxes = wideList.objs.map (fun o => atSetup.pixBox 0 (atSetup.prepare o (some o.mclass) atSetup.glare.tPh (atSetup.glare.tPh + atSetup.glare.tNext))) := by
    rw [State.engine, hgl]
    exact hbox
  simp only [hm3, hbo, hgl, hgp, hgn, prepare_congr hg, pixBox_congr hg] at hb
  exact absurd (hb.symm.trans hshown) (by decide +kernel)

end Sys2Proof.Proofs.ListCutOff
end

section
/-! PROOF. The states of the update slots, and a trial that is confirmed. -/

namespace Sys2Proof.Proofs.SlotStates

open Sys2Proof.Machine Sys2Proof.Laws Sys2Proof.Proofs.Architecture Sys2Proof.Proofs.Reading Sys2Proof.Proofs.RegisterMap
  Sys2Proof.Proofs.GovernorSums Sys2Proof.Proofs.PendingFaults Sys2Proof.Proofs.LampLanes

variable {s t u : State} {f : Fld} {n k st rej : Nat}

/-- The tables of slots are whole. -/
structure SlotTables (s : State) : Prop where
  plain : s.upd.slots.length = 6
  granite : s.gov.slots.length = 2

theorem shaped_slots (h : s.shaped = true) : SlotTables s := by
  simp only [State.shaped, Upd.shaped, Gov.shaped, Bool.and_eq_true, decide_eq_true_eq] at h
  exact ⟨h.2, h.1.1.1.1.2⟩

theorem slots_congr (hu : t.upd = s.upd) (hg : t.gov = s.gov) (k : Nat) : t.slotState k = s.slotState k := by
  rw [State.slotState, State.slotState, hu, hg]

theorem tables_congr (h : SlotTables s) (hu : t.upd = s.upd) (hg : t.gov = s.gov) : SlotTables t := ⟨by rw [hu]; exact h.plain, by rw [hg]; exact h.granite⟩

/-- The state that a slot of Granite shows as st. -/
def graniteCode (st : Nat) : Nat := if st = 6 then 5 else if st = 7 then 6 else st

/-- What a change of state leaves of the two tables. -/
structure SlotSet (s t : State) (n st rej : Nat) : Prop where
  upd : t.upd = if n = 2 ∨ n = 3 then s.upd else { s.upd with slots := s.upd.slots.set n { s.slot_ n with st := st, rej := rej } }
  gov : t.gov = if n = 2 ∨ n = 3 then { s.gov with slots := s.gov.slots.set (n - 2) (graniteCode st) } else s.gov

theorem showSlot_parts (s : State) (n : Nat) : (s.showSlot n).upd = s.upd ∧ (s.showSlot n).gov = s.gov := by
  have h := showSlot_fits s n (le_self _) (fits_refl _ s)
  exact ⟨within_upd h.within rfl rfl, within_gov h.within rfl rfl⟩

theorem event_parts (s : State) (code : Nat) (d : List Byte) : (s.event code d).upd = s.upd ∧ (s.event code d).gov = s.gov := by
  have h := event_fits s code d (le_self _) (fits_refl _ s)
  exact ⟨within_upd h.within rfl rfl, within_gov h.within rfl rfl⟩

theorem evt_parts (s : State) (f : Fld) : (s.evt f).upd = s.upd ∧ (s.evt f).gov = s.gov := ⟨evt_upd .., evt_gov ..⟩

theorem SlotSet.after (h : SlotSet s t n st rej) (hu : u.upd = t.upd) (hg : u.gov = t.gov) : SlotSet s u n st rej := ⟨hu.trans h.upd, hg.trans h.gov⟩

theorem plainSlotTo_set (s : State) (h : ¬ (n = 2 ∨ n = 3)) (st rej : Nat) : SlotSet s (s.plainSlotTo n st rej) n st rej := by
  have hmod : SlotSet s (s.modSlot n (fun r => { r with st := st, rej := rej })) n st rej := ⟨by rw [if_neg h]; rfl, by rw [if_neg h]; rfl⟩
  have hshow := hmod.after (showSlot_parts _ n).1 (showSlot_parts _ n).2
  exact hshow.after (event_parts _ _ _).1 (event_parts _ _ _).2

theorem graniteSlotTo_set (s : State) (h : n = 2 ∨ n = 3) (st rej : Nat) : SlotSet s (s.graniteSlotTo n st rej) n st rej := by
  have hmod : SlotSet s (s.withGov { s.gov with slots := s.gov.slots.set (n - 2) (graniteCode st) }) n st rej := ⟨by rw [if_pos h]; rfl, by rw [if_pos h]; rfl⟩
  have hshow := hmod.after (showSlot_parts _ n).1 (showSlot_parts _ n).2
  unfold State.graniteSlotTo
  extract_lets g src v w x
  have hx : SlotSet s x n st rej := by
    simp only [x]
    split_ifs
    · exact hshow.after (put_upd ..) (put_gov ..)
    · exact hshow
  split_ifs
  · exact hx.after (event_parts _ _ _).1 (event_parts _ _ _).2
  · exact hx

theorem toSlot_set (s : State) (n st rej : Nat) : SlotSet s (s.toSlot n st rej) n st rej := by
  unfold State.toSlot
  extract_lets v
  have hv : SlotSet s v n st rej := by
    simp only [v]
    by_cases h : n = 2 ∨ n = 3
    · rw [if_pos (by simpa using h)]
      exact graniteSlotTo_set s h st rej
    · rw [if_neg (by simpa using h)]
      exact plainSlotTo_set s h st rej
  split_ifs
  · exact hv.after (evt_parts _ _).1 (evt_parts _ _).2
  · exact hv.after (evt_parts _ _).1 (evt_parts _ _).2
  · exact hv

theorem SlotSet.tables (h : SlotSet s t n st rej) (hs : SlotTables s) : SlotTables t := by
  constructor
  · rw [h.upd]
    split_ifs
    · exact hs.plain
    · exact (List.length_set ..).trans hs.plain
  · rw [h.gov]
    split_ifs
    · exact (List.length_set ..).trans hs.granite
    · exact hs.granite

/-- How a slot of Granite reads in the table. -/
def graniteShown (v : Nat) : Nat := if v = 5 then 6 else if v = 6 then 7 else v

theorem slotState_granite (s : State) (h : n = 2 ∨ n = 3) : s.slotState n = graniteShown (s.gov.slots.getD (n - 2) 0) := if_pos (by simpa using h)

theorem slotState_plain (s : State) (h : ¬ (n = 2 ∨ n = 3)) : s.slotState n = (s.upd.slots.getD n Slot.init).st := if_neg (by simpa using h)

/-- The slot is in its new state. -/
theorem SlotSet.same (h : SlotSet s t n st rej) (hs : SlotTables s) (hn : n < 6) (h5 : (n = 2 ∨ n = 3) → st ≠ 5) : t.slotState n = st := by
  by_cases hg : n = 2 ∨ n = 3
  · have h5 := h5 hg
    rw [slotState_granite t hg, h.gov, if_pos hg, List.getD_eq_getElem?_getD, List.getElem?_set_self (by rw [hs.granite]; omega), Option.getD_some,
      graniteShown, graniteCode]
    split_ifs <;> omega
  · rw [slotState_plain t hg, h.upd, if_neg hg, List.getD_eq_getElem?_getD, List.getElem?_set_self (by rw [hs.plain]; exact hn)]
    rfl

/-- The other slots keep theirs. -/
theorem SlotSet.other (h : SlotSet s t n st rej) (hne : k ≠ n) : t.slotState k = s.slotState k := by
  by_cases hk : k = 2 ∨ k = 3
  · rw [slotState_granite t hk, slotState_granite s hk, h.gov]
    split_ifs with hg
    · rw [List.getD_eq_getElem?_getD, List.getElem?_set_ne (by omega), ← List.getD_eq_getElem?_getD]
    · rfl
  · rw [slotState_plain t hk, slotState_plain s hk, h.upd]
    split_ifs with hg
    · rfl
    · rw [List.getD_eq_getElem?_getD, List.getElem?_set_ne (Ne.symm hne), ← List.getD_eq_getElem?_getD]

/-! ### What shows the slots -/

/-- The fields that show the slots, and their events. -/
def slotFields : List Fld :=
  [F.UPD_SLOTA_STATE, F.UPD_SLOTA_OVERLAP, F.UPD_SLOTA_REJ, F.UPD_SLOTA_ROLLBACK, F.UPD_SLOTA_VER, F.UPD_SLOTB_STATE, F.UPD_SLOTB_OVERLAP, F.UPD_SLOTB_REJ,
    F.UPD_SLOTB_ROLLBACK, F.UPD_SLOTB_VER, F.GOV_SLOT_STATE_A, F.GOV_SLOT_STATE_B, F.GOV_SLOT_REJ, F.UPD_CAL_STATE 0, F.UPD_CAL_OVERLAP 0, F.UPD_CAL_REJ 0,
    F.UPD_CAL_STATE 1, F.UPD_CAL_OVERLAP 1, F.UPD_CAL_REJ 1, F.UPD_EVT_VERIFIED, F.UPD_EVT_REJECTED, F.UNIT_IRQ_STAT_EVT 0x80]

theorem showSlot_only (s : State) (hn : n < 6) : s.Only slotFields [] (s.showSlot n) := by
  have hput : ∀ {u : State} (x : Fld) (v : Nat), x ∈ slotFields → x.hi < 32 → s.Only slotFields [] u → s.Only slotFields [] (u.put x v) :=
    fun x v hx hh hu => only_put v hx hh hu
  unfold State.showSlot
  split_ifs with h2 h4
  · unfold State.showMain
    extract_lets r roll ver
    split_ifs <;> exact hput _ _ (by simp [slotFields]) (by decide) (hput _ _ (by simp [slotFields]) (by decide) (hput _ _ (by simp [slotFields]) (by decide)
      (hput _ _ (by simp [slotFields]) (by decide) (hput _ _ (by simp [slotFields]) (by decide) (only_refl _ _ s)))))
  · unfold State.showGranite
    split_ifs <;> exact hput _ _ (by simp [slotFields]) (by decide) (only_refl _ _ s)
  · unfold State.showCal
    extract_lets r
    obtain h | h : n - 4 = 0 ∨ n - 4 = 1 := by omega
    · rw [h]
      exact hput _ _ (by simp [slotFields]) (by decide) (hput _ _ (by simp [slotFields]) (by decide) (hput _ _ (by simp [slotFields]) (by decide) (only_refl _ _ s)))
    · rw [h]
      exact hput _ _ (by simp [slotFields]) (by decide) (hput _ _ (by simp [slotFields]) (by decide) (hput _ _ (by simp [slotFields]) (by decide) (only_refl _ _ s)))

/-- A field that a change of a slot's state leaves. -/
def pastSlots (f : Fld) : Bool := clear slotFields f && clear recordFields f

theorem plainSlotTo_g (s : State) (hn : n < 6) (hf : pastSlots f = true) (st rej : Nat) : (s.plainSlotTo n st rej).g f = s.g f := by
  obtain ⟨h1, h2⟩ := Bool.and_eq_true_iff.1 hf
  have hmod : (s.modSlot n (fun r => { r with st := st, rej := rej })).g f = s.g f := withUpd_g ..
  unfold State.plainSlotTo
  exact (event_g _ _ _ h2).trans ((only_g (showSlot_only _ hn) h1).trans hmod)

theorem graniteSlotTo_g (s : State) (hn : n < 6) (hf : pastSlots f = true) (st rej : Nat) : (s.graniteSlotTo n st rej).g f = s.g f := by
  obtain ⟨h1, h2⟩ := Bool.and_eq_true_iff.1 hf
  unfold State.graniteSlotTo
  extract_lets g src v w x
  have hw : w.g f = s.g f := (only_g (showSlot_only v hn) h1).trans (withGov_g ..)
  have hx : x.g f = s.g f := (ite_g (fun _ => g_put_other _ _ _ _ (by decide) (clear_apart h1 (by simp [slotFields]))) (fun _ => rfl)).trans hw
  exact (ite_g (fun _ => event_g _ _ _ h2) (fun _ => rfl)).trans hx

theorem toSlot_g (s : State) (hn : n < 6) (hf : pastSlots f = true) (st rej : Nat) : (s.toSlot n st rej).g f = s.g f := by
  obtain ⟨h1, -⟩ := Bool.and_eq_true_iff.1 hf
  have hevt : ∀ (u : State) (x : Fld), x ∈ slotFields → x.hi < 32 → F.UNIT_IRQ_STAT_EVT x.page ∈ slotFields → (u.evt x).g f = u.g f := fun u x hx hh hi =>
    g_evt_other _ _ _ hh (clear_apart h1 hx) (clear_apart h1 hi)
  unfold State.toSlot
  extract_lets v
  have hv : v.g f = s.g f := by
    simp only [v]
    split_ifs
    · exact graniteSlotTo_g s hn hf st rej
    · exact plainSlotTo_g s hn hf st rej
  split_ifs
  · exact (hevt _ _ (by simp [slotFields]) (by decide) (by simp [slotFields, F.UPD_EVT_VERIFIED])).trans hv
  · exact (hevt _ _ (by simp [slotFields]) (by decide) (by simp [slotFields, F.UPD_EVT_REJECTED])).trans hv
  · exact hv

/-- The event of a slot that is verified or rejected. -/
theorem toSlot_events (s : State) (n st rej : Nat) : (st = 3 → (s.toSlot n st rej).on F.UPD_EVT_VERIFIED = true) ∧ (st = 7 → (s.toSlot n st rej).on F.UPD_EVT_REJECTED = true) := by
  unfold State.toSlot
  extract_lets v
  refine ⟨fun h => ?_, fun h => ?_⟩
  · rw [if_pos h]
    exact on_evt_self _ (by decide)
  · rw [if_neg (by omega), if_pos h]
    exact on_evt_self _ (by decide)

theorem toSlot_mem (s : State) (n st rej : Nat) : (s.toSlot n st rej).mem = s.mem :=
  within_mem (toSlot_fits s n st rej (le_self _) (fits_refl _ s)).within rfl rfl

/-! ### The fuses of a confirmed bundle, and the confirmation -/

/-- The fields that the work on a confirmed bundle's fuses writes. -/
def fuseWorkFields : List Fld := [F.UPD_STAT_FUSE_PEND, F.FUS_STAT_BUSY, F.FUS_PROG_STAT_RESULT]

theorem fuseWork_only (s : State) : s.Only fuseWorkFields [.fus, .upd] s.fuseWork := by
  have hput : ∀ k, s.Only fuseWorkFields [.fus, .upd] (s.put F.UPD_STAT_FUSE_PEND k) := fun k => only_put _ (by simp [fuseWorkFields]) (by decide) (only_refl _ _ s)
  unfold State.fuseWork
  split
  · exact hput 0
  · split
    · exact only_withUpd (by simp) (hput 0)
    · extract_lets w
      refine only_ite (fun _ => ?_) (fun _ => hput 1)
      exact only_withFus (by simp) (only_put _ (by simp [fuseWorkFields]) (by decide) (only_put _ (by simp [fuseWorkFields]) (by decide) (hput 1)))

/-- It changes of the update unit's part what it still has to program alone. -/
theorem fuseWork_upd (s : State) : s.fuseWork.upd = { s.upd with fusePend := s.fuseWork.upd.fusePend } := by
  unfold State.fuseWork
  split
  · rw [put_upd]
  · split
    · rfl
    · extract_lets w
      have hw : w.upd = s.upd := put_upd ..
      split_ifs
      · have hstart : ∀ row b, (w.fuseStart row b false).upd = w.upd := fun row b => by
          unfold State.fuseStart
          rw [withFus_upd, put_upd, put_upd]
        rw [hstart, hw]
      · rw [hw]

theorem fuseWork_gov (s : State) : s.fuseWork.gov = s.gov := (fuseWork_only s).parts.gov (by simp [Foot.of])

theorem fuseWork_state (s : State) (k : Nat) : s.fuseWork.slotState k = s.slotState k := by
  rw [State.slotState, State.slotState, fuseWork_gov, fuseWork_upd]

theorem clearAvoid_only (s : State) (l : List Nat) : s.Only [F.RST_BJ_AVOID_AVOID] [.mem] (s.clearAvoid l) := by
  unfold State.clearAvoid
  refine only_ite (fun _ => ?_) (fun _ => only_refl _ _ s)
  extract_lets v
  have hj : ∀ (u : State) o n w, u.Only [F.RST_BJ_AVOID_AVOID] [.mem] (u.jput o n w) := fun u o n w =>
    only_mono (by simp) (List.Subset.refl _) (only_of_within (setBytes_fits _ _ rfl (fits_refl _ u)).within)
  exact only_put _ (by simp) (by decide) (only_trans (hj _ _ _ _) (hj _ _ _ _))

/-- The other slot of a confirmed one. -/
def othersEnd (s : State) (n : Nat) : State := if s.slotState (otherSlot n) = 6 then s.toSlot (otherSlot n) 3 0 else s

/-- The trial has ended well. -/
def trialEnded (s : State) (n : Nat) : State :=
  let s := (s.clearAvoid [7, 9, 10, 12]).put F.UPD_STAT_TRIAL 0
  let s := (s.evt F.UPD_EVT_CONFIRMED).event 0x8081 (b8 n :: leBytes 4 (s.slotVersion n))
  s.withUpd { s.upd with trial := none, trialAt := none, fusePend := some (s.slotField n 20 4, s.slotField n 37 1) }

theorem confirm_eq (s : State) (n : Nat) : s.confirm n = (trialEnded (othersEnd (s.toSlot n 6 0) n) n).fuseWork := rfl

theorem otherSlot_ne (n : Nat) : otherSlot n ≠ n := by
  intro h
  have h1 : n ^^^ 1 = n ^^^ 0 := by rw [Nat.xor_zero]; exact h
  exact absurd (Nat.xor_right_injective h1) (by decide)

theorem othersEnd_state (s : State) (hs : SlotTables s) (hn : n < 2) :
    (∀ k, k ≠ otherSlot n → (othersEnd s n).slotState k = s.slotState k)
      ∧ (othersEnd s n).slotState (otherSlot n) = (if s.slotState (otherSlot n) = 6 then 3 else s.slotState (otherSlot n)) := by
  have ho : otherSlot n < 2 := (by decide : ∀ n < 2, otherSlot n < 2) n hn
  have hset := toSlot_set s (otherSlot n) 3 0
  unfold othersEnd
  split_ifs with h
  · exact ⟨fun k hk => hset.other hk, hset.same hs (by omega) (by omega)⟩
  · exact ⟨fun _ _ => rfl, rfl⟩

theorem trialEnded_slots (s : State) (n k : Nat) : (trialEnded s n).slotState k = s.slotState k := by
  have h1 : (s.clearAvoid [7, 9, 10, 12]).upd = s.upd ∧ (s.clearAvoid [7, 9, 10, 12]).gov = s.gov :=
    ⟨(clearAvoid_only s _).parts.upd (by simp [Foot.of]), (clearAvoid_only s _).parts.gov (by simp [Foot.of])⟩
  unfold trialEnded
  extract_lets v w src
  have hw : w.upd = s.upd ∧ w.gov = s.gov := by
    constructor
    · exact (event_parts _ _ _).1.trans ((evt_upd ..).trans ((put_upd ..).trans h1.1))
    · exact (event_parts _ _ _).2.trans ((evt_gov ..).trans ((put_gov ..).trans h1.2))
  have hslots : (w.withUpd { src with trial := none, trialAt := none, fusePend := some (w.slotField n 20 4, w.slotField n 37 1) }).upd.slots = s.upd.slots :=
    Eq.trans (b := w.upd.slots) rfl (congrArg Upd.slots hw.1)
  rw [State.slotState, State.slotState, withUpd_gov, hw.2, hslots]

theorem trialEnded_leaves (s : State) (n : Nat) : (trialEnded s n).on F.UPD_STAT_TRIAL = false ∧ (trialEnded s n).on F.UPD_EVT_CONFIRMED = true
    ∧ (trialEnded s n).upd.trial = none ∧ (trialEnded s n).upd.trialAt = none
    ∧ ∀ x, clear [F.RST_BJ_AVOID_AVOID, F.UPD_STAT_TRIAL, F.UPD_EVT_CONFIRMED, F.UNIT_IRQ_STAT_EVT 0x80] x = true → clear recordFields x = true →
        (trialEnded s n).g x = s.g x := by
  have hca := clearAvoid_only s [7, 9, 10, 12]
  unfold trialEnded
  extract_lets v w src
  have hw : ∀ x, clear recordFields x = true → w.g x = (v.evt F.UPD_EVT_CONFIRMED).g x := fun x hx => event_g _ _ _ hx
  refine ⟨?_, ?_, rfl, rfl, fun x hx hr => ?_⟩
  · rw [withUpd_on, on_congr (hw _ (by decide)), on_evt_sep _ (by decide) (by decide)]
    exact on_put_clear _ (by decide)
  · rw [withUpd_on, on_congr (hw _ (by decide))]
    exact on_evt_self _ (by decide)
  · have ha : ∀ y ∈ [F.RST_BJ_AVOID_AVOID, F.UPD_STAT_TRIAL, F.UPD_EVT_CONFIRMED, F.UNIT_IRQ_STAT_EVT 0x80], y.apart x = true := fun y hy => clear_apart hx hy
    rw [withUpd_g, hw x hr, g_evt_other _ _ _ (by decide) (ha _ (by simp)) (ha _ (by simp [F.UPD_EVT_CONFIRMED])), g_put_other _ _ _ _ (by decide) (ha _ (by simp))]
    exact hca.fields x (fun y hy => ha y (by simp only [List.mem_singleton] at hy; simp [hy]))

/-- A field that a confirmation leaves. -/
def pastConfirm (f : Fld) : Bool :=
  pastSlots f && clear [F.RST_BJ_AVOID_AVOID, F.UPD_STAT_TRIAL, F.UPD_EVT_CONFIRMED, F.UNIT_IRQ_STAT_EVT 0x80] f && clear fuseWorkFields f

/-- A trial slot that is confirmed. -/
theorem confirm_leaves (s : State) (hs : SlotTables s) (hn : n < 2) :
    (s.confirm n).slotState n = 6
      ∧ (s.confirm n).slotState (otherSlot n) = (if s.slotState (otherSlot n) = 6 then 3 else s.slotState (otherSlot n))
      ∧ (s.confirm n).on F.UPD_STAT_TRIAL = false ∧ (s.confirm n).on F.UPD_EVT_CONFIRMED = true ∧ (s.confirm n).upd.trial = none ∧ (s.confirm n).upd.trialAt = none
      ∧ ∀ x, pastConfirm x = true → (s.confirm n).g x = s.g x := by
  have ho : otherSlot n < 6 := (by decide : ∀ n < 2, otherSlot n < 6) n hn
  have hset := toSlot_set s n 6 0
  have htab := hset.tables hs
  have h6 := hset.same hs (by omega) (by omega)
  have hother := hset.other (otherSlot_ne n)
  have hg1 := fun x (hx : pastSlots x = true) => toSlot_g s (n := n) (by omega) hx 6 0
  rw [confirm_eq]
  generalize s.toSlot n 6 0 = a at *
  obtain ⟨k1, k2⟩ := othersEnd_state a htab hn
  have hg2 : ∀ x, pastSlots x = true → (othersEnd a n).g x = a.g x := fun x hx => ite_g (fun _ => toSlot_g a ho hx 3 0) (fun _ => rfl)
  generalize othersEnd a n = b at *
  obtain ⟨m1, m2, m3, m4, m5⟩ := trialEnded_leaves b n
  have hst := trialEnded_slots b n
  generalize trialEnded b n = c at *
  have hf := fuseWork_only c
  refine ⟨?_, ?_, (only_on hf (by decide)).trans m1, (only_on hf (by decide)).trans m2, ?_, ?_, fun x hx => ?_⟩
  · rw [fuseWork_state, hst, k1 _ (Ne.symm (otherSlot_ne n)), h6]
  · rw [fuseWork_state, hst, k2, hother]
  · rw [fuseWork_upd]
    exact m3
  · rw [fuseWork_upd]
    exact m4
  · simp only [pastConfirm, Bool.and_eq_true] at hx
    obtain ⟨⟨h1, h2⟩, h3⟩ := hx
    obtain ⟨-, hr⟩ := Bool.and_eq_true_iff.1 h1
    rw [only_g hf h3, m5 x h2 hr, hg2 x h1, hg1 x h1]

/-- A confirmation, whatever the slot, leaves the fields of the other pages. -/
theorem confirm_beyond (s : State) (n : Nat) (hp : [0x40, 0x70, 0x71, 0x80].contains (groupPage f.page) = false)
    (hc : clear [F.RST_BJ_AVOID_AVOID, F.UPD_STAT_TRIAL, F.UPD_EVT_CONFIRMED, F.UNIT_IRQ_STAT_EVT 0x80] f = true) (hr : clear recordFields f = true)
    (hf : clear fuseWorkFields f = true) : (s.confirm n).g f = s.g f := by
  have hto : ∀ (u : State) k st rej, (u.toSlot k st rej).g f = u.g f := fun u k st rej => fits_g (toSlot_fits u k st rej (le_self _) (fits_refl _ u)) rfl hp
  have hend : ∀ u, (othersEnd u n).g f = u.g f := fun u => ite_g (fun _ => hto u _ 3 0) (fun _ => rfl)
  rw [confirm_eq, only_g (fuseWork_only _) hf, (trialEnded_leaves _ n).2.2.2.2 f hc hr, hend, hto]

end Sys2Proof.Proofs.SlotStates
end

section
/-! PROOF. Bytes and words of memory after a string of bytes has been written. -/

namespace Sys2Proof.Proofs.MemoryWords

open Sys2Proof.Machine Sys2Proof.Laws Sys2Proof.Proofs.Architecture Sys2Proof.Proofs.Reading Sys2Proof.Proofs.PacketConsumption Sys2Proof.Proofs.RecorderRuns
  Sys2Proof.Proofs.BusAccess

variable {s t u : State} {a b n m : Nat} {l r : List Byte}

theorem bytes_congr (h : ∀ i, i < n → t.byte (a + i) = s.byte (a + i)) : t.bytes a n = s.bytes a n := by
  induction n generalizing a with
  | zero => rfl
  | succ n ih =>
    have h0 := h 0 (by omega)
    rw [State.bytes, State.bytes, show t.byte a = s.byte a from h0, ih (fun i hi => by
      have hi := h (i + 1) (by omega)
      rwa [show a + (i + 1) = a + 1 + i by omega] at hi)]

theorem le_congr (h : ∀ i, i < n → t.byte (a + i) = s.byte (a + i)) : t.le a n = s.le a n := by rw [State.le, State.le, bytes_congr h]

theorem setBytes_outside (s : State) (l : List Byte) (h : b < a ∨ a + l.length ≤ b) : (s.setBytes a l).byte b = s.byte b := by
  rw [setBytes_byte, if_neg (by omega)]

theorem bytes_beside (s : State) (l : List Byte) (h : b + n ≤ a ∨ a + l.length ≤ b) : (s.setBytes a l).bytes b n = s.bytes b n :=
  bytes_congr (fun i hi => setBytes_outside s l (by omega))

theorem le_beside (s : State) (l : List Byte) (h : b + n ≤ a ∨ a + l.length ≤ b) : (s.setBytes a l).le b n = s.le b n := by
  rw [State.le, State.le, bytes_beside s l h]

theorem bytes_append (s : State) (a m n : Nat) : s.bytes a (m + n) = s.bytes a m ++ s.bytes (a + m) n := by
  induction m generalizing a with
  | zero => simp [State.bytes]
  | succ m ih =>
    rw [show m + 1 + n = (m + n) + 1 by omega, State.bytes, ih, State.bytes, show a + 1 + m = a + (m + 1) by omega]
    rfl

/-- The first of two strings written one behind the other. -/
theorem bytes_first (s : State) (a : Nat) (l r : List Byte) : (s.setBytes a (l ++ r)).bytes a l.length = l := by
  have h := setBytes_reads s a (l ++ r)
  rw [List.length_append, bytes_append] at h
  exact (List.append_inj h (bytes_length ..)).1

theorem bytes_second (s : State) (a : Nat) (l r : List Byte) : (s.setBytes a (l ++ r)).bytes (a + l.length) r.length = r := by
  have h := setBytes_reads s a (l ++ r)
  rw [List.length_append, bytes_append] at h
  exact (List.append_inj h (bytes_length ..)).2

theorem le_written (s : State) (a n v : Nat) : (s.setBytes a (leBytes n v)).le a n = v % 256 ^ n := by
  have h := setBytes_reads s a (leBytes n v)
  rw [RecorderRuns.leBytes_length] at h
  rw [State.le, h, ofLe_leBytes]

theorem crc32_lt (l : List Byte) : crc32 l < 2 ^ 32 := (~~~ (l.foldl crcByte 0xFFFFFFFF#32)).isLt

theorem slice_first (l r : List Byte) : slice (l ++ r) 0 l.length = l := by
  refine List.ext_getElem (by simp [slice]) (fun i h1 h2 => ?_)
  simp only [slice, List.getElem_map, List.getElem_range, Nat.zero_add]
  rw [List.getD_eq_getElem?_getD, List.getElem?_append_left h2, List.getElem?_eq_getElem h2, Option.getD_some]

theorem slice_second (l r : List Byte) : slice (l ++ r) l.length r.length = r := by
  refine List.ext_getElem (by simp [slice]) (fun i h1 h2 => ?_)
  simp only [slice, List.getElem_map, List.getElem_range]
  rw [List.getD_eq_getElem?_getD, List.getElem?_append_right (Nat.le_add_right ..), Nat.add_sub_cancel_left, List.getElem?_eq_getElem h2, Option.getD_some]

end Sys2Proof.Proofs.MemoryWords
end

section
/-! PROOF. The end of a boot (BootEnd). -/

namespace Sys2Proof.Proofs.BootEnding

open Sys2Proof.Machine Sys2Proof.Laws Sys2Proof.Proofs.Architecture Sys2Proof.Proofs.Reading Sys2Proof.Proofs.GovernorSums
  Sys2Proof.Proofs.PendingFaults Sys2Proof.Proofs.LampReactions Sys2Proof.Proofs.LampLanes Sys2Proof.Proofs.PageCommits Sys2Proof.Proofs.PacketConsumption Sys2Proof.Proofs.RegisterMap Sys2Proof.Proofs.GylysLinks
  Sys2Proof.Proofs.FlintLockOut Sys2Proof.Proofs.SegmentLine Sys2Proof.Proofs.Commits Sys2Proof.Proofs.SlotStates
  Sys2Proof.Proofs.MemoryWords Sys2Proof.Proofs.RecorderRuns Sys2Proof.Proofs.Kernels

variable {s t u v : State} {f : Fld} {n c l : Nat}

/-! ### Steps of the boot sequence -/

theorem newEntry_only (s : State) (a b c d : Nat) : s.Only [] [.mem, .rst] (s.newEntry a b c d) :=
  only_of_within (newEntry_fits s a b c d (le_self _) (fits_refl _ s)).within

theorem endEntry_only (s : State) (a b c : Nat) : s.Only [] [.mem, .rst] (s.endEntry a b c) :=
  only_of_within (endEntry_fits s a b c (le_self _) (fits_refl _ s)).within

/-- The start of a step without an alternative. -/
def startedStep (s : State) (c : Nat) : State :=
  ((s.put F.RST_BOOT_STAT_STEP c).newEntry c 1 0 0).withRst { ((s.put F.RST_BOOT_STAT_STEP c).newEntry c 1 0 0).rst with alt := false }

theorem startStep_plain (s : State) (h5 : c ≠ 5) (h : stepOptional c = false) (ha : stepAlt c = false) : s.startStep c = startedStep s c := by
  unfold State.startStep
  rw [if_neg (by simp [h5]), if_neg (by simp [h])]
  exact if_neg (by simp [ha])

theorem startedStep_leaves (s : State) (hc : c < 256) :
    (startedStep s c).g F.RST_BOOT_STAT_STEP = c ∧ s.Only [F.RST_BOOT_STAT_STEP] [.mem, .rst] (startedStep s c) := by
  have hput : s.Only [F.RST_BOOT_STAT_STEP] [.mem, .rst] (s.put F.RST_BOOT_STAT_STEP c) := only_put _ (by simp) (by decide) (only_refl _ _ s)
  have honly := newEntry_only (s.put F.RST_BOOT_STAT_STEP c) c 1 0 0
  refine ⟨?_, only_withRst (by simp) (only_trans hput (only_mono (by simp) (by simp) honly))⟩
  rw [startedStep, withRst_g, only_g honly rfl]
  exact g_put_self (by decide) (by decide) hc

/-- The end of one of the last steps starts the next. -/
theorem stepDone_leaves (s : State) (d : Nat) (hc : 13 ≤ s.g F.RST_BOOT_STAT_STEP) (hc' : s.g F.RST_BOOT_STAT_STEP < 255) :
    (s.stepDone d).g F.RST_BOOT_STAT_STEP = s.g F.RST_BOOT_STAT_STEP + 1 ∧ s.Only [F.RST_BOOT_STAT_STEP] [.mem, .rst] (s.stepDone d) := by
  unfold State.stepDone
  extract_lets k
  have hk : k = s.g F.RST_BOOT_STAT_STEP := rfl
  rw [← hk] at hc hc' ⊢
  rw [startStep_plain _ (by omega) (by simp [stepOptional]; omega) (by simp [stepAlt]; omega)]
  have hend := endEntry_only s (if s.rst.alt then 5 else 2) (bit s.rst.alt) d
  obtain ⟨h1, h2⟩ := startedStep_leaves (s.endEntry (if s.rst.alt then 5 else 2) (bit s.rst.alt) d) (c := k + 1) (by omega)
  exact ⟨h1, only_trans (only_mono (by simp) (by simp) hend) h2⟩

theorem step_of_runs (h : s.bootRuns c = true) : s.g F.RST_BOOT_STAT_STEP = c ∧ s.g F.RST_BOOT_STAT_PHASE = 0 := by
  simp only [State.bootRuns, State.inStep, Bool.and_eq_true, decide_eq_true_eq] at h
  exact ⟨h.1.1.2, h.1.2⟩

/-! ### LINKS -/

/-- The link engines at work, and the safety outputs asked for. -/
def linksUp (s : State) (copies : Nat) : State :=
  let s : State := s.withCmd { s.cmd with served := true }
  let s := (s.checkCopies copies).2
  if s.saf.halted then s else s.soutCtrl (BitVec.ofNat 32 s.usedOuts)

theorem exec_links (copies : Nat) (h : s.bootRuns 13 = true) :
    exec (.links copies) s = .next (((List.range 2).foldl (fun s l => s.queueStatus l) (linksUp s.begin copies)).stepDone 0) :=
  congrArg Host.Outcome.next (if_pos (show s.begin.bootRuns 13 = true from h))

theorem linkServed_of (hs : s.cmd.served = true) (hp : s.g F.RST_BOOT_STAT_PHASE = 0) (l : Nat) : s.linkServed l = true := by
  simp [State.linkServed, hs, hp]

/-- Both links have their STATUS where they are ACTIVE. -/
theorem statusBoth_leaves (s : State) (hs : s.cmd.served = true) (hp : s.g F.RST_BOOT_STAT_PHASE = 0) :
    (∀ l, l < 2 → s.active l = true → (((List.range 2).foldl (fun s l => s.queueStatus l) s).link l).status.isSome = true)
      ∧ s.Only [] [.lnkA, .lnkB] ((List.range 2).foldl (fun s l => s.queueStatus l) s) := by
  have hrange : (List.range 2).foldl (fun s l => s.queueStatus l) s = (s.queueStatus 0).queueStatus 1 := rfl
  have h0 := queueStatus_only (l := 0) (by decide) s
  have h1 := queueStatus_only (l := 1) (by decide) (s.queueStatus 0)
  rw [hrange]
  refine ⟨fun l hl ha => ?_, only_trans (only_mono (by simp) (by simp [lnkPart]) h0) (only_mono (by simp) (by simp [lnkPart]) h1)⟩
  have hst : s.lst l = 5 := by simpa [State.active] using ha
  obtain rfl | rfl : l = 0 ∨ l = 1 := by omega
  · have hA : ((s.queueStatus 0).queueStatus 1).link 0 = (s.queueStatus 0).link 0 := h1.parts.lnkA (by simp [Foot.of, lnkPart])
    rw [hA, queueStatus_link hst, linkServed_of hs hp]
    rfl
  · have hst' : (s.queueStatus 0).lst 1 = 5 := (only_g h0 rfl).trans hst
    have hs' : (s.queueStatus 0).cmd.served = true := (congrArg Cmd.served (h0.parts.cmd (by simp [Foot.of, lnkPart]))).trans hs
    rw [queueStatus_link hst', linkServed_of hs' ((only_g h0 rfl).trans hp)]
    rfl

/-- What a check of the store's copies leaves of the link engines, of Flint and of the outputs' configuration. -/
structure CopiesKeep (s t : State) : Prop where
  served : t.cmd.served = s.cmd.served
  halted : t.saf.halted = s.saf.halted
  used : ∀ k, k < 2 → t.g (F.SAF_SOUT_CFG_USED k) = s.g (F.SAF_SOUT_CFG_USED k)

theorem CopiesKeep.trans (h : CopiesKeep s t) (k : CopiesKeep t u) : CopiesKeep s u :=
  ⟨k.served.trans h.served, k.halted.trans h.halted, fun j hj => (k.used j hj).trans (h.used j hj)⟩

theorem copies_of_fits {g : Foot} (h : s.Fits g t) (ha : g.any = false) (hc : g.parts.contains .cmd = false) (hf : g.parts.contains .saf = false)
    (hp : g.units.contains 0x68 = false) : CopiesKeep s t :=
  ⟨congrArg Cmd.served (within_cmd h.within ha hc), congrArg Saf.halted (within_saf h.within ha hf), fun _ _ => fits_g h ha hp⟩

theorem copies_raise (s : State) (i inst addr : Nat) (inj : Bool) (hi : groupPage (srcPage i inst) = 0x10) : CopiesKeep s (s.raiseWith i inst addr inj false) := by
  refine ⟨congrArg Cmd.served (within_cmd (raiseWith_fits (g := Foot.reaction [0x10] []) s i inst addr inj false (by rw [hi]; rfl) (by decide) (fits_refl _ s)).within rfl rfl),
    (flint_reacts s (Q := fun a => a.halted = s.saf.halted) (fun _ _ _ h => h) (fun _ _ h => h)).raiseWith i inst addr inj false id rfl, fun k hk => ?_⟩
  have hl : ∀ k < 2, lampField (F.SAF_SOUT_CFG_USED k) = true := by decide
  exact (field_reacts s (hl k hk) _).raiseWith i inst addr inj false id rfl

theorem checkCopies_keeps (s : State) (copies : Nat) : CopiesKeep s (s.checkCopies copies).2 := by
  have hinj : CopiesKeep s (s.consumeInj S.CMD_STATE_COPY) := copies_of_fits (consumeInj_fits s _ (le_self _) (fits_refl _ s)) rfl rfl rfl rfl
  have hevt : ∀ (u : State) (x : Fld), x.page = 0x10 → CopiesKeep u (u.evt x) := fun u x hx =>
    copies_of_fits (g := Foot.of [0x10] []) (evt_fits (by rw [hx]; rfl) (fits_refl _ u)) rfl rfl rfl rfl
  unfold State.checkCopies
  extract_lets inj c v
  split_ifs with h0 h3
  · exact hinj
  · exact (hinj.trans (hevt _ F.CMD_EVT_STATE_COPY rfl)).trans (copies_raise _ _ _ _ _ rfl)
  · refine ((hinj.trans (hevt _ F.CMD_EVT_STORE_LOST rfl)).trans (copies_raise _ S.CMD_STORE_LOST 0 0 false rfl)).trans ?_
    exact List.foldlRecOn (motive := CopiesKeep _) _ _ ⟨rfl, rfl, fun _ _ => rfl⟩ (fun u hu k _ => hu.trans (by
      have hset : CopiesKeep u ((u.setRing k [])) := ⟨rfl, rfl, fun _ _ => rfl⟩
      refine hset.trans (copies_of_fits (g := Foot.of [0x10] [.lnkA, .lnkB]) (replayNack_fits _ _ _ (by decide) (put_fits _ rfl (put_fits _ rfl (fits_refl _ _)))) rfl rfl rfl rfl)))

theorem usedOuts_lt (s : State) : s.usedOuts < 4 := by
  have h0 := g_le_top s (F.SAF_SOUT_CFG_USED 0)
  have h1 := g_le_top s (F.SAF_SOUT_CFG_USED 1)
  have ht : ∀ k < 2, (F.SAF_SOUT_CFG_USED k).top = 1 := by decide
  rw [ht _ (by decide)] at h0 h1
  unfold State.usedOuts
  omega

theorem soutCtrl_on (s : State) {m : Nat} (hm : m < 4) : (s.soutCtrl (BitVec.ofNat 32 m)).g F.SAF_SOUT_CTRL_ON = m := by
  have hw : ∀ m < 4, wordField (BitVec.ofNat 32 m) 1 0 = m := by decide
  have honly : (s.put F.SAF_SOUT_CTRL_ON m).Only outFields safParts ((s.put F.SAF_SOUT_CTRL_ON m).soutsTry).settle :=
    only_settle fstate_mem (only_soutTry (List.Subset.refl _) (by decide) (only_soutTry (List.Subset.refl _) (by decide) (only_refl _ _ _)))
  unfold State.soutCtrl
  rw [hw m hm, only_g honly (by decide)]
  exact g_put_self (by decide) (by decide) hm

theorem linksUp_leaves (s : State) (copies : Nat) : (linksUp s copies).cmd.served = true
    ∧ (s.saf.halted = false → (linksUp s copies).g F.SAF_SOUT_CTRL_ON = s.usedOuts)
    ∧ s.Fits (Foot.of [0x00, 0x10, 0x40, 0x50, 0x68, 0x70, 0x71] [.flt, .evr, .saf, .lnkA, .lnkB, .cmd, .lanes]) (linksUp s copies) := by
  have hk := checkCopies_keeps (s.withCmd { s.cmd with served := true }) copies
  have hf := checkCopies_fits (g := Foot.of [0x00, 0x10, 0x40, 0x50, 0x68, 0x70, 0x71] [.flt, .evr, .saf, .lnkA, .lnkB, .cmd, .lanes])
    (s.withCmd { s.cmd with served := true }) copies (le_self _) (withCmd_fits _ id rfl (fits_refl _ s))
  unfold linksUp
  dsimp only
  generalize ((s.withCmd { s.cmd with served := true }).checkCopies copies).2 = w at *
  have hserved : w.cmd.served = true := hk.served
  have hhalt : w.saf.halted = s.saf.halted := hk.halted
  have hused : w.usedOuts = s.usedOuts := by
    rw [State.usedOuts, hk.used 0 (by decide), hk.used 1 (by decide)]
    rfl
  split_ifs with h
  · exact ⟨hserved, fun h' => absurd (h.symm.trans (hhalt.trans h')) (by decide), hf⟩
  · refine ⟨(congrArg Cmd.served (within_cmd (soutCtrl_fits w _ (le_self _) (fits_refl _ w)).within rfl rfl)).trans hserved, fun _ => ?_, soutCtrl_fits w _ (by decide) hf⟩
    rw [soutCtrl_on w (usedOuts_lt w), hused]

theorem links_leave (copies : Nat) (h : s.bootRuns 13 = true) :
    ∃ t, exec (.links copies) s = .next t ∧ t.cmd.served = true ∧ t.g F.RST_BOOT_STAT_STEP = 14
      ∧ (∀ l, l < 2 → s.active l = true → (t.link l).status.isSome = true)
      ∧ (s.saf.halted = false → t.g F.SAF_SOUT_CTRL_ON = s.usedOuts)
      ∧ s.Within (Foot.reaction [0x02, 0x10] [.mem, .rst, .lnkA, .lnkB, .cmd]) t := by
  obtain ⟨hstep, hphase⟩ := step_of_runs h
  obtain ⟨h1, h2, h3⟩ := linksUp_leaves s.begin copies
  refine ⟨_, exec_links copies h, ?_⟩
  have hp : ∀ x, [0x00, 0x10, 0x40, 0x50, 0x68, 0x70, 0x71].contains (groupPage x.page) = false → (linksUp s.begin copies).g x = s.g x :=
    fun x hx => (fits_g h3 rfl hx).trans (begin_g ..)
  have hw : s.Fits (Foot.reaction [0x02, 0x10] [.mem, .rst, .lnkA, .lnkB, .cmd]) (linksUp s.begin copies) :=
    fits_trans (begin_fits s (by decide) (fits_refl _ s)) (fits_mono (by decide) h3)
  generalize linksUp s.begin copies = w at *
  obtain ⟨q1, q2⟩ := statusBoth_leaves w h1 ((hp _ rfl).trans hphase)
  have hfold : s.Fits (Foot.reaction [0x02, 0x10] [.mem, .rst, .lnkA, .lnkB, .cmd]) ((List.range 2).foldl (fun s l => s.queueStatus l) w) :=
    fits_foldl _ _ (fun l _ u hu => queueStatus_fits u l (by decide) hu) hw
  generalize (List.range 2).foldl (fun s l => s.queueStatus l) w = v at *
  have hv : v.g F.RST_BOOT_STAT_STEP = 13 := (only_g q2 rfl).trans ((hp _ rfl).trans hstep)
  obtain ⟨d1, d2⟩ := stepDone_leaves v 0 (by rw [hv]) (by rw [hv]; decide)
  have hlink : ∀ l, (v.stepDone 0).link l = v.link l := fun l => by
    unfold State.link
    rw [d2.parts.lnkA (by simp [Foot.of]), d2.parts.lnkB (by simp [Foot.of])]
  refine ⟨?_, d1.trans (by rw [hv]), fun l hl ha => ?_, fun hh => ?_, (stepDone_fits v 0 (by decide) hfold).within⟩
  · rw [d2.parts.cmd (by simp [Foot.of]), q2.parts.cmd (by simp [Foot.of])]
    exact h1
  · rw [hlink]
    have hpage : ∀ l < 2, [0x00, 0x10, 0x40, 0x50, 0x68, 0x70, 0x71].contains (groupPage (F.LNK_STAT_STATE l).page) = false := by decide
    exact q1 l hl ((show w.active l = s.active l by rw [State.active, State.active, State.lst, State.lst, hp _ (hpage l hl)]).trans ha)
  · have hused : s.begin.usedOuts = s.usedOuts := by rw [State.usedOuts, begin_g, begin_g, ← State.usedOuts]
    exact (only_g d2 (by decide)).trans ((only_g q2 (by decide)).trans ((h2 hh).trans hused))

/-! ### TILES -/

/-- The end of TILES, once every lane of the profile is settled. -/
def tilesDone (w : State) : State :=
  (((w.profTiles.foldl (fun s t => s.tileCheck t) w).tilesLeaveLoad).put (F.UNIT_CTRL_ENABLE 0x18) 1).stepDone
    (w.profTiles.foldl (fun v n => if w.tlst n = 8 then v + 2 ^ n else v) 0)

theorem exec_tiles (h : s.bootRuns 14 = true) :
    exec .tiles s = .next (if s.begin.tilesUp.profTiles.all s.begin.tilesUp.laneSettled then tilesDone s.begin.tilesUp else s.begin.tilesUp) := by
  show execTiles s = _
  unfold execTiles
  extract_lets s1 s2 failed s3
  rw [if_pos (show s1.bootRuns 14 = true from h)]
  rfl

/-- Lanes that are off wake; a lane that is settled stays so, and no other is. -/
theorem laneWake_settled (s : State) {k : Nat} (hk : k < 8) (hn : n < 8) : (s.laneWake k).laneSettled n = s.laneSettled n := by
  unfold State.laneWake
  split_ifs with h
  · simp only [Bool.and_eq_true, decide_eq_true_eq] at h
    obtain ⟨⟨⟨⟨h0, -⟩, -⟩, -⟩, -⟩ := h
    by_cases he : k = n
    · subst he
      have h1 : ((s.put (F.TL_STAT_STATE k) 1).modLane k (fun l => { l with tries := 1 })).tlst k = 1 :=
        (modLane_g ..).trans (g_put_self (state_hi k) (by simp [F.TL_STAT_STATE]) (by simp [F.TL_STAT_STATE]))
      simp only [State.laneSettled, h1, show s.tlst k = 0 from h0]
      rfl
    · have h1 : ((s.put (F.TL_STAT_STATE k) 1).modLane k (fun l => { l with tries := 1 })).tlst n = s.tlst n :=
        (modLane_g ..).trans (g_put_other _ _ _ _ (state_hi k) (state_apart hk hn he))
      simp only [State.laneSettled, h1]
  · rfl

theorem enabled_settled (s : State) (p v : Nat) (n : Nat) : (s.put (F.UNIT_CTRL_ENABLE p) v).laneSettled n = s.laneSettled n := by
  have h : (s.put (F.UNIT_CTRL_ENABLE p) v).tlst n = s.tlst n := g_put_sep s v (by simp [sep, F.UNIT_CTRL_ENABLE, F.TL_STAT_STATE])
  simp only [State.laneSettled, h]

/-- TLN and the lanes of the profile's tiles enabled. -/
def lanesEnabled (s : State) : State := (s.put (F.UNIT_CTRL_ENABLE 0x50) 1).profTiles.foldl (fun s n => s.put (F.UNIT_CTRL_ENABLE (0x51 + n)) 1) (s.put (F.UNIT_CTRL_ENABLE 0x50) 1)

theorem tilesUp_eq (s : State) : s.tilesUp = (lanesEnabled s).timerTry.lanesWake := rfl

theorem profTiles_congr (h : t.g F.PRF_STAT_TILES = s.g F.PRF_STAT_TILES) : t.profTiles = s.profTiles := by rw [State.profTiles, State.profTiles, h]

theorem profTiles_mem (h : n ∈ s.profTiles) : n < 8 := List.mem_range.1 (List.mem_filter.1 h).1

theorem enable_sep {p q : Nat} (h : p ≠ q) : sep (F.UNIT_CTRL_ENABLE p) (F.UNIT_CTRL_ENABLE q) = true := by simp [sep, F.UNIT_CTRL_ENABLE, h]

theorem enable_self (s : State) (p : Nat) : (s.put (F.UNIT_CTRL_ENABLE p) 1).g (F.UNIT_CTRL_ENABLE p) = 1 :=
  g_put_self (by simp [F.UNIT_CTRL_ENABLE]) (by simp [F.UNIT_CTRL_ENABLE]) (by simp [F.UNIT_CTRL_ENABLE])

/-- What one lane's waking leaves of the enables. -/
theorem wake_enables (s : State) (p : Nat) : s.timerTry.lanesWake.g (F.UNIT_CTRL_ENABLE p) = s.g (F.UNIT_CTRL_ENABLE p) := by
  have htimer : s.timerTry.g (F.UNIT_CTRL_ENABLE p) = s.g (F.UNIT_CTRL_ENABLE p) := fits_g (timerTry_fits s (le_self _) (fits_refl _ s)) rfl rfl
  refine (foldl_g (fun u k => ?_) _ _).trans htimer
  unfold State.laneWake
  exact ite_g (fun _ => (modLane_g ..).trans (g_put_sep _ _ (by simp [sep, F.UNIT_CTRL_ENABLE, F.TL_STAT_STATE]))) (fun _ => rfl)

theorem tilesUp_leaves (s : State) : s.tilesUp.g (F.UNIT_CTRL_ENABLE 0x50) = 1 ∧ (∀ n, n ∈ s.profTiles → s.tilesUp.g (F.UNIT_CTRL_ENABLE (0x51 + n)) = 1)
    ∧ (∀ n, n < 8 → s.tilesUp.laneSettled n = s.laneSettled n) := by
  have hprof : (s.put (F.UNIT_CTRL_ENABLE 0x50) 1).profTiles = s.profTiles := profTiles_congr (g_put_sep _ _ rfl)
  rw [tilesUp_eq, lanesEnabled, hprof]
  refine ⟨(wake_enables _ _).trans ?_, fun n hn => (wake_enables _ _).trans ?_, fun n hn => ?_⟩
  · rw [foldl_g (fun u k => g_put_sep _ _ (enable_sep (by omega))) _ _]
    exact enable_self ..
  · exact foldl_visit (P := fun _ => True) (Q := fun u => u.g (F.UNIT_CTRL_ENABLE (0x51 + n)) = 1) s.profTiles (List.nodup_range.filter _) hn (fun _ _ _ _ _ => trivial)
      (fun u _ => enable_self u _) (fun k _ hk u hu => (g_put_sep _ _ (enable_sep (by omega))).trans hu) trivial
  · have hon : (s.profTiles.foldl (fun s n => s.put (F.UNIT_CTRL_ENABLE (0x51 + n)) 1) (s.put (F.UNIT_CTRL_ENABLE 0x50) 1)).laneSettled n = s.laneSettled n :=
      List.foldlRecOn (motive := fun u : State => u.laneSettled n = s.laneSettled n) _ _ (enabled_settled ..) (fun u hu k _ => (enabled_settled ..).trans hu)
    have htimer : ∀ u : State, u.timerTry.laneSettled n = u.laneSettled n := fun u => by
      have h : u.timerTry.tlst n = u.tlst n := fits_g (timerTry_fits u (le_self _) (fits_refl _ u)) rfl rfl
      simp only [State.laneSettled, h]
    exact List.foldlRecOn (motive := fun u : State => u.laneSettled n = s.laneSettled n) _ _ ((htimer _).trans hon)
      (fun u hu k hk => (laneWake_settled u (List.mem_range.1 hk) hn).trans hu)

/-- The fields beside its own words that a commit of CAL may write. -/
def calMarks : List Fld := commitMarks 0x48 ++ noteFields

theorem commitPages_cal : commitPages 0x48 = [0x48] := by decide +kernel

theorem goCal_g (s : State) (hx : uncommitted f = true) (hm : clear calMarks f = true) : (s.go 0x48).g f = s.g f := by
  have hmarks : ∀ {u w : State} {ps : List Part} {fs : List Fld}, fs ⊆ calMarks → u.Only fs ps w → w.g f = u.g f := fun hs h => only_g (only_mono hs (List.Subset.refl _) h) hm
  have hrej : ∀ x ∈ rejectFields 0x48, x ∈ calMarks := by decide
  by_cases hb : s.blockRunning 0x48 = true
  · rw [go_blocked s hb]
    exact hmarks (fs := rejectFields 0x48) (ps := []) hrej (only_rejectPage (by simp [rejectFields]) (by simp [rejectFields]) (only_refl _ _ s))
  · have hb : s.blockRunning 0x48 = false := by simpa using hb
    have he : commitPages 0x48 ≠ [] := by rw [commitPages_cal]; decide
    by_cases hbad : badPages s 0x48 = []
    · rw [go_accepted s hb he hbad, commitPages_cal]
      obtain ⟨c, hc⟩ := acceptAll_eq s 0x48 [0x48]
      have hcount : ((counted s 0x48 [0x48]).withCmp c).g f = s.g f :=
        hmarks (List.Subset.trans (List.Subset.refl _) (List.subset_append_left _ _)) (accepted_only s c 0x48)
      rw [hc, List.foldl_cons, List.foldl_nil, ← hcount]
      generalize (counted s 0x48 [0x48]).withCmp c = w
      unfold State.landNow
      split_ifs
      · exact (fits_g (calLoadCommit_fits _ _ (le_self _) (fits_refl _ _)) rfl rfl).trans (apply_g w 0x48 hx)
      · rfl
    · rw [go_rejected s hb he hbad]
      refine hmarks (fun x hxm => ?_) (only_rejectAll s _ 0x48 (badPages s 0x48))
      rcases List.mem_append.1 hxm with hx' | hx'
      · exact List.mem_append_right _ hx'
      · obtain ⟨q, hq, hxq⟩ := List.mem_flatMap.1 hx'
        have hq48 : q = 0x48 := by
          rcases List.mem_cons.1 hq with rfl | hq
          · rfl
          · have hmem := (List.mem_filter.1 hq).1
            rw [commitPages_cal] at hmem
            simpa using hmem
        subst hq48
        exact hrej x hxq

theorem leaveLoad_g (s : State) (hx : uncommitted f = true) (hm : clear calMarks f = true) : s.tilesLeaveLoad.g f = s.g f :=
  (goCal_g _ hx hm).trans (setShadow_g ..)

theorem tilesDone_leaves (w : State) (hstep : w.g F.RST_BOOT_STAT_STEP = 14) : (tilesDone w).g F.RST_BOOT_STAT_STEP = 15 ∧ (tilesDone w).g (F.UNIT_CTRL_ENABLE 0x18) = 1
    ∧ ∀ p ∈ 0x50 :: (List.range 8).map (0x51 + ·), (tilesDone w).g (F.UNIT_CTRL_ENABLE p) = w.g (F.UNIT_CTRL_ENABLE p) := by
  have hcheck : w.Fits (Foot.of [0x48, 0x49, 0x70, 0x71] [.mem, .evr]) (w.profTiles.foldl (fun s t => s.tileCheck t) w) :=
    fits_foldl _ _ (fun k _ u hu => tileCheck_fits u k (le_self _) hu) (fits_refl _ w)
  have hstep' : (w.profTiles.foldl (fun s t => s.tileCheck t) w).tilesLeaveLoad.g F.RST_BOOT_STAT_STEP = 14 :=
    (leaveLoad_g _ (by decide +kernel) (by decide)).trans ((fits_g hcheck rfl rfl).trans hstep)
  have hen : ∀ p ∈ 0x50 :: (List.range 8).map (0x51 + ·), p ≠ 0x18 ∧ uncommitted (F.UNIT_CTRL_ENABLE p) = true ∧ clear calMarks (F.UNIT_CTRL_ENABLE p) = true
      ∧ [0x48, 0x49, 0x70, 0x71].contains (groupPage p) = false := by decide +kernel
  unfold tilesDone
  generalize (w.profTiles.foldl (fun v n => if w.tlst n = 8 then v + 2 ^ n else v) 0) = d
  have hl := fun (x : Fld) (h1 : uncommitted x = true) (h2 : clear calMarks x = true) => leaveLoad_g (w.profTiles.foldl (fun s t => s.tileCheck t) w) h1 h2
  generalize (w.profTiles.foldl (fun s t => s.tileCheck t) w) = v at *
  generalize v.tilesLeaveLoad = z at *
  have hz : (z.put (F.UNIT_CTRL_ENABLE 0x18) 1).g F.RST_BOOT_STAT_STEP = 14 := (g_put_sep _ _ rfl).trans hstep'
  obtain ⟨h1, h2⟩ := stepDone_leaves (z.put (F.UNIT_CTRL_ENABLE 0x18) 1) d (by rw [hz]; decide) (by rw [hz]; decide)
  have h18 : clear [F.RST_BOOT_STAT_STEP] (F.UNIT_CTRL_ENABLE 0x18) = true := by decide
  refine ⟨h1.trans (by rw [hz]), (only_g h2 h18).trans (enable_self z 0x18), fun p hp => ?_⟩
  obtain ⟨k1, k2, k3, k4⟩ := hen p hp
  have hclear : ∀ p ∈ 0x50 :: (List.range 8).map (0x51 + ·), clear [F.RST_BOOT_STAT_STEP] (F.UNIT_CTRL_ENABLE p) = true := by decide
  have e1 : v.g (F.UNIT_CTRL_ENABLE p) = w.g (F.UNIT_CTRL_ENABLE p) := fits_g hcheck (by decide) k4
  have e2 : (z.put (F.UNIT_CTRL_ENABLE 0x18) 1).g (F.UNIT_CTRL_ENABLE p) = z.g (F.UNIT_CTRL_ENABLE p) := g_put_sep z 1 (enable_sep (Ne.symm k1))
  exact (only_g h2 (hclear p hp)).trans (e2.trans ((hl _ k2 k3).trans e1))

theorem tiles_leave (h : s.bootRuns 14 = true) :
    ∃ t, exec .tiles s = .next t ∧ t.g (F.UNIT_CTRL_ENABLE 0x50) = 1 ∧ (∀ n, n ∈ s.profTiles → t.g (F.UNIT_CTRL_ENABLE (0x51 + n)) = 1)
      ∧ (s.profTiles.all s.laneSettled = true → t.g F.RST_BOOT_STAT_STEP = 15 ∧ t.g (F.UNIT_CTRL_ENABLE 0x18) = 1)
      ∧ (s.profTiles.all s.laneSettled = false → t.g F.RST_BOOT_STAT_STEP = 14) := by
  obtain ⟨hstep, -⟩ := step_of_runs h
  obtain ⟨h1, h2, h3⟩ := tilesUp_leaves s.begin
  have hup : s.begin.tilesUp.g F.RST_BOOT_STAT_STEP = 14 :=
    (fits_g (tilesUp_fits s.begin (le_self _) (fits_refl _ _)) rfl rfl).trans ((begin_g ..).trans hstep)
  have hprof : s.begin.tilesUp.profTiles = s.profTiles :=
    profTiles_congr ((fits_g (tilesUp_fits s.begin (le_self _) (fits_refl _ _)) rfl rfl).trans (begin_g ..))
  have hbegin : s.begin.profTiles = s.profTiles := profTiles_congr (begin_g ..)
  have hall : s.begin.tilesUp.profTiles.all s.begin.tilesUp.laneSettled = s.profTiles.all s.laneSettled := by
    rw [hprof]
    have hsame : ∀ n ∈ s.profTiles, s.begin.tilesUp.laneSettled n = s.laneSettled n := fun n hn => by
      rw [h3 n (profTiles_mem hn)]
      have hb : s.begin.tlst n = s.tlst n := begin_g ..
      simp only [State.laneSettled, hb]
    rw [Bool.eq_iff_iff, List.all_eq_true, List.all_eq_true]
    exact forall₂_congr (fun n hn => by rw [hsame n hn])
  have hrun := exec_tiles h
  rw [hall] at hrun
  refine ⟨_, hrun, ?_⟩
  rw [hbegin] at h2
  generalize s.begin.tilesUp = w at *
  obtain ⟨d1, d2, d3⟩ := tilesDone_leaves w hup
  by_cases hs : s.profTiles.all s.laneSettled = true
  · rw [if_pos hs]
    exact ⟨(d3 _ (by simp)).trans h1, fun n hn => (d3 _ (by simp [profTiles_mem hn])).trans (h2 n hn), fun _ => ⟨d1, d2⟩, fun h' => absurd (hs.symm.trans h') (by decide)⟩
  · rw [if_neg hs]
    exact ⟨h1, h2, fun h' => absurd h' hs, fun _ => hup⟩

/-! ### SAFE_READY and FIRST_LIGHT -/

theorem exec_safeReady (h : s.bootRuns 15 = true) (hf : s.g F.SAF_STAT_FSTATE = 2 ∨ s.g F.SAF_STAT_FSTATE = 3) : exec .safeReady s = .next (s.begin.stepDone 0) :=
  congrArg Host.Outcome.next (if_pos (by
    rw [show s.begin.bootRuns 15 = true from h, begin_g]
    simpa using hf))

/-- The boot has ended with first light. -/
def lightSeen (s : State) : State :=
  let s := (s.endEntry 2 0 0).put F.RST_BOOT_STAT_PHASE 1
  let s := (s.bistRaise.setTries 0).outcome 1
  s.withRst { s.rst with lit := true }

theorem exec_firstLight (h : s.bootRuns 16 = true) (hf : s.g F.SAF_STAT_FSTATE = 3) (hp : s.tilePower = true) :
    exec .firstLight s = .next (match (lightSeen s.begin).upd.trial with
      | some n => if (lightSeen s.begin).on F.UPD_CTRL_MANUAL then (lightSeen s.begin).withUpd { (lightSeen s.begin).upd with trialAt := some (lightSeen s.begin).now }
          else (lightSeen s.begin).confirm n
      | none => lightSeen s.begin) :=
  congrArg Host.Outcome.next (if_pos (by
    rw [show s.begin.bootRuns 16 = true from h, begin_g, hf, show s.begin.tilePower = true from hp]
    rfl))

theorem exec_firstLight_rests (h : s.bootRuns 16 = false ∨ s.g F.SAF_STAT_FSTATE ≠ 3 ∨ s.tilePower = false) : exec .firstLight s = .next s.begin :=
  congrArg Host.Outcome.next (if_neg (by
    rw [show s.begin.bootRuns 16 = s.bootRuns 16 from rfl, begin_g, show s.begin.tilePower = s.tilePower from rfl]
    rcases h with h | h | h <;> simp [h]))

theorem outcome_only (s : State) (o : Nat) : s.Only [] [.mem, .rst, .thm] (s.outcome o) :=
  only_of_within (outcome_fits s o (le_self _) (fits_refl _ s)).within

theorem jput_only (s : State) (o n v : Nat) : s.Only [] [.mem] (s.jput o n v) := setBytes_only ..

theorem setTries_leaves (s : State) {k : Nat} (hk : k < 16) : (s.setTries k).g F.RST_BOOT_STAT_TRIES = k ∧ s.Only [F.RST_BOOT_STAT_TRIES] [.mem] (s.setTries k) := by
  unfold State.setTries
  refine ⟨g_put_self (by decide) (by decide) hk, only_put _ (by simp) (by decide) (only_ite (fun _ => ?_) (fun _ => only_refl _ _ s))⟩
  exact only_mono (by simp) (List.Subset.refl _) (only_trans (jput_only ..) (jput_only ..))

theorem bistRaise_fits' (s : State) : s.Fits (Foot.of [0x00, 0x40, 0x50, 0x68, 0x70, 0x71, 0x79] [.flt, .evr, .saf, .lanes, .sec]) s.bistRaise :=
  bistRaise_fits s (le_self _) (fits_refl _ s)

theorem lightSeen_leaves (s : State) : (lightSeen s).g F.RST_BOOT_STAT_PHASE = 1 ∧ (lightSeen s).g F.RST_BOOT_STAT_TRIES = 0 ∧ (lightSeen s).rst.lit = true
    ∧ (lightSeen s).upd = s.upd ∧ (lightSeen s).gov = s.gov ∧ (lightSeen s).on F.UPD_CTRL_MANUAL = s.on F.UPD_CTRL_MANUAL ∧ (lightSeen s).now = s.now := by
  have hend := endEntry_only s 2 0 0
  have hphase : s.Only [F.RST_BOOT_STAT_PHASE] [.mem, .rst] ((s.endEntry 2 0 0).put F.RST_BOOT_STAT_PHASE 1) :=
    only_put _ (by simp) (by decide) (only_mono (by simp) (List.Subset.refl _) hend)
  have h1 : ((s.endEntry 2 0 0).put F.RST_BOOT_STAT_PHASE 1).g F.RST_BOOT_STAT_PHASE = 1 := g_put_self (by decide) (by decide) (by decide)
  unfold lightSeen
  dsimp only
  generalize (s.endEntry 2 0 0).put F.RST_BOOT_STAT_PHASE 1 = a at *
  have hb := bistRaise_fits' a
  generalize a.bistRaise = b at *
  obtain ⟨ht, hto⟩ := setTries_leaves b (k := 0) (by decide)
  generalize b.setTries 0 = c at *
  have ho := outcome_only c 1
  generalize c.outcome 1 = d at *
  refine ⟨?_, ?_, rfl, ?_, ?_, ?_, ?_⟩
  · exact (withRst_g ..).trans ((only_g ho rfl).trans ((only_g hto (by decide)).trans ((fits_g hb rfl rfl).trans h1)))
  · exact (withRst_g ..).trans ((only_g ho rfl).trans ht)
  · exact (ho.parts.upd (by simp [Foot.of])).trans ((hto.parts.upd (by simp [Foot.of])).trans ((within_upd hb.within rfl rfl).trans (hphase.parts.upd (by simp [Foot.of]))))
  · exact (ho.parts.gov (by simp [Foot.of])).trans ((hto.parts.gov (by simp [Foot.of])).trans ((within_gov hb.within rfl rfl).trans (hphase.parts.gov (by simp [Foot.of]))))
  · exact (withRst_on ..).trans ((only_on ho rfl).trans ((only_on hto (by decide)).trans ((on_congr (fits_g hb rfl rfl)).trans (only_on hphase (by decide)))))
  · exact (ho.parts.now (by simp [Foot.of])).trans ((hto.parts.now (by simp [Foot.of])).trans ((within_now hb.within rfl rfl).trans (hphase.parts.now (by simp [Foot.of]))))

theorem firstLight_leaves (h : s.bootRuns 16 = true) (hf : s.g F.SAF_STAT_FSTATE = 3) (hp : s.tilePower = true) (hsh : s.shaped = true) :
    ∃ t, exec .firstLight s = .next t ∧ t.g F.RST_BOOT_STAT_PHASE = 1 ∧ t.g F.RST_BOOT_STAT_TRIES = 0 ∧ t.rst.lit = true
      ∧ (∀ n, s.upd.trial = some n → n < 2 → s.on F.UPD_CTRL_MANUAL = false → t.slotState n = 6 ∧ t.upd.trial = none ∧ t.on F.UPD_EVT_CONFIRMED = true
          ∧ (s.slotState (otherSlot n) = 6 → t.slotState (otherSlot n) = 3))
      ∧ (∀ n, s.upd.trial = some n → s.on F.UPD_CTRL_MANUAL = true → t.upd.trial = some n ∧ t.upd.trialAt = some s.now) := by
  obtain ⟨h1, h2, h3, h4, h5, h6, h7⟩ := lightSeen_leaves s.begin
  have hrun := exec_firstLight h hf hp
  have hm : (lightSeen s.begin).on F.UPD_CTRL_MANUAL = s.on F.UPD_CTRL_MANUAL := h6.trans (begin_on ..)
  have hu : (lightSeen s.begin).upd = s.upd := h4
  have hg : (lightSeen s.begin).gov = s.gov := h5
  have hnow : (lightSeen s.begin).now = s.now := h7
  have htab := tables_congr (shaped_slots hsh) hu hg
  have hst := slots_congr hu hg
  generalize lightSeen s.begin = w at *
  cases htr : s.upd.trial with
  | none =>
    rw [hu, htr] at hrun
    exact ⟨_, hrun, h1, h2, h3, fun _ hn => (by simp at hn), fun _ hn => (by simp at hn)⟩
  | some n =>
    rw [show w.upd.trial = some n by rw [hu, htr]] at hrun
    by_cases hman : s.on F.UPD_CTRL_MANUAL = true
    · refine ⟨_, hrun.trans (congrArg Host.Outcome.next (if_pos (hm.trans hman))), (withUpd_g ..).trans h1, (withUpd_g ..).trans h2, h3, fun _ _ _ h' => absurd (hman.symm.trans h') (by decide),
        fun k hk _ => ⟨?_, congrArg some hnow⟩⟩
      rw [← hk]
      exact congrArg Upd.trial hu |>.trans htr
    · have hoff : ¬ w.on F.UPD_CTRL_MANUAL = true := fun h' => hman (hm.symm.trans h')
      have hrst : (w.confirm n).rst = w.rst := within_rst (confirm_fits w n (le_self _) (fits_refl _ w)).within rfl rfl
      refine ⟨_, hrun.trans (congrArg Host.Outcome.next (if_neg hoff)), (confirm_beyond w n rfl (by decide) (by decide) (by decide)).trans h1,
        (confirm_beyond w n rfl (by decide) (by decide) (by decide)).trans h2, by rw [hrst]; exact h3, fun k hk hlt _ => ?_, fun _ _ h' => absurd h' hman⟩
      obtain rfl : n = k := Option.some.inj hk
      obtain ⟨c1, c2, -, c4, c5, -⟩ := confirm_leaves w htab hlt
      refine ⟨c1, c5, c4, fun h6 => ?_⟩
      rw [c2, hst, if_pos h6]

/-! ### The epoch in flash -/

/-- The eight bytes of a stored epoch. -/
def epochBytes (s : State) : List Byte := leBytes 4 (s.epochStored.1 + 1) ++ leBytes 4 (s.g F.RST_EPOCH_EPOCH)

/-- The epoch is stored in the older copy. -/
def epochSaved (s : State) : State :=
  (s.setBytes (epochCopy s.epochOlder) (epochBytes s ++ leBytes 4 (crc32 (epochBytes s)))).put F.RST_EPOCH_STAT_SAVED 1

theorem exec_epochSave (he : s.g F.RST_EPOCH_EPOCH ≠ 0) (hs : s.on F.RST_EPOCH_STAT_SAVED = false) (hg : s.garnetRuns = true) :
    exec .epochSave s = .next (if s.on F.THM_STAT_FLASH_OK then epochSaved s.begin else s.begin.defer .epoch) := by
  have hrun : exec .epochSave s = .next s.begin.saveEpoch := congrArg Host.Outcome.next (if_pos (by
    rw [begin_g, begin_on, hs, show s.begin.garnetRuns = true from hg]
    simpa using he))
  rw [hrun, ← begin_on s F.THM_STAT_FLASH_OK]
  rfl

theorem exec_epochSave_rests (h : s.g F.RST_EPOCH_EPOCH = 0 ∨ s.on F.RST_EPOCH_STAT_SAVED = true ∨ s.garnetRuns = false) : exec .epochSave s = .next s.begin :=
  congrArg Host.Outcome.next (if_neg (by
    rw [begin_g, begin_on, show s.begin.garnetRuns = s.garnetRuns from rfl]
    rcases h with h | h | h <;> simp [h]))

theorem epochBytes_length (s : State) : (epochBytes s).length = 8 := by
  rw [epochBytes, List.length_append, RecorderRuns.leBytes_length, RecorderRuns.leBytes_length]

theorem epochAt_congr (i : Nat) (h : ∀ k, k < 12 → t.byte (epochCopy i + k) = s.byte (epochCopy i + k)) : t.epochAt i = s.epochAt i := by
  have h8 : t.bytes (epochCopy i) 8 = s.bytes (epochCopy i) 8 := bytes_congr (fun k hk => h k (by omega))
  have h4 : t.le (epochCopy i + 8) 4 = s.le (epochCopy i + 8) 4 := le_congr (fun k hk => by rw [Nat.add_assoc]; exact h (8 + k) (by omega))
  rw [State.epochAt, State.epochAt, h8, h4]

theorem epoch_apart {i j : Nat} (h : i ≠ j) : epochCopy i + 12 ≤ epochCopy j ∨ epochCopy j + 12 ≤ epochCopy i := by
  unfold epochCopy
  omega

/-- The newer of the two copies is the one that was written over the older. -/
theorem stored_newest {e : Nat} (hnew : t.epochAt s.epochOlder = some (s.epochStored.1 + 1, e)) (hold : ∀ i, i < 2 → i ≠ s.epochOlder → t.epochAt i = s.epochAt i) :
    t.epochStored = (s.epochStored.1 + 1, e) := by
  have ht : t.epochStored = match t.epochAt 0, t.epochAt 1 with
      | some a, some b => if a.1 < b.1 then b else a
      | some a, none => a
      | none, some b => b
      | none, none => (0, 0) := rfl
  cases h0 : s.epochAt 0 with
  | none =>
    have ho : s.epochOlder = 0 := by simp [State.epochOlder, h0]
    have h1 : t.epochAt 1 = s.epochAt 1 := hold 1 (by decide) (by rw [ho]; decide)
    rw [ho] at hnew
    rw [ht, hnew, h1]
    cases h1' : s.epochAt 1 with
    | none => rfl
    | some b =>
      have hs : s.epochStored = b := by simp [State.epochStored, h0, h1']
      dsimp only
      rw [if_neg (by rw [hs]; omega)]
  | some a =>
    cases h1' : s.epochAt 1 with
    | none =>
      have ho : s.epochOlder = 1 := by simp [State.epochOlder, h0, h1']
      have hs : s.epochStored = a := by simp [State.epochStored, h0, h1']
      rw [ho] at hnew
      rw [ht, hnew, hold 0 (by decide) (by rw [ho]; decide), h0]
      dsimp only
      rw [if_pos (by rw [hs]; omega)]
    | some b =>
      by_cases hle : a.1 ≤ b.1
      · have ho : s.epochOlder = 0 := by simp [State.epochOlder, h0, h1', hle]
        have hs : s.epochStored.1 = b.1 := by
          simp only [State.epochStored, h0, h1']
          split_ifs <;> omega
        rw [ho] at hnew
        rw [ht, hnew, hold 1 (by decide) (by rw [ho]; decide), h1']
        dsimp only
        rw [if_neg (by rw [hs]; omega)]
      · have ho : s.epochOlder = 1 := by simp [State.epochOlder, h0, h1', hle]
        have hs : s.epochStored = a := by
          simp only [State.epochStored, h0, h1']
          exact if_neg (by omega)
        rw [ho] at hnew
        rw [ht, hnew, hold 0 (by decide) (by rw [ho]; decide), h0]
        dsimp only
        rw [if_pos (by rw [hs]; omega)]

/-- The stored epoch reads as what was written. -/
theorem epochSaved_leaves (s : State) (h : s.epochStored.1 < 0xFFFFFFFF) :
    (epochSaved s).on F.RST_EPOCH_STAT_SAVED = true ∧ (epochSaved s).epochStored = (s.epochStored.1 + 1, s.g F.RST_EPOCH_EPOCH)
      ∧ (∀ a, a < epochCopy s.epochOlder ∨ epochCopy s.epochOlder + 12 ≤ a → (epochSaved s).byte a = s.byte a)
      ∧ s.Only [F.RST_EPOCH_STAT_SAVED] [.mem] (epochSaved s) := by
  have hlen : (epochBytes s ++ leBytes 4 (crc32 (epochBytes s))).length = 12 := by
    rw [List.length_append, epochBytes_length, RecorderRuns.leBytes_length]
  have hbyte : ∀ a, a < epochCopy s.epochOlder ∨ epochCopy s.epochOlder + 12 ≤ a → (epochSaved s).byte a = s.byte a := fun a ha => by
    rw [State.byte, epochSaved, put_mem, ← State.byte]
    exact setBytes_outside s _ (by rw [hlen]; exact ha)
  have hmem : ∀ a k, (epochSaved s).bytes a k = (s.setBytes (epochCopy s.epochOlder) (epochBytes s ++ leBytes 4 (crc32 (epochBytes s)))).bytes a k := fun a k =>
    bytes_mem (put_mem ..) a k
  have hfirst : (epochSaved s).bytes (epochCopy s.epochOlder) 8 = epochBytes s := by
    have h1 := bytes_first s (epochCopy s.epochOlder) (epochBytes s) (leBytes 4 (crc32 (epochBytes s)))
    rw [epochBytes_length] at h1
    exact (hmem _ _).trans h1
  have hcrc : (epochSaved s).le (epochCopy s.epochOlder + 8) 4 = crc32 (epochBytes s) := by
    have h1 := bytes_second s (epochCopy s.epochOlder) (epochBytes s) (leBytes 4 (crc32 (epochBytes s)))
    rw [epochBytes_length, RecorderRuns.leBytes_length] at h1
    rw [State.le, hmem, h1, ofLe_leBytes]
    exact Nat.mod_eq_of_lt (crc32_lt _)
  have hs1 : slice (epochBytes s) 0 4 = leBytes 4 (s.epochStored.1 + 1) := by
    have h1 := slice_first (leBytes 4 (s.epochStored.1 + 1)) (leBytes 4 (s.g F.RST_EPOCH_EPOCH))
    rwa [RecorderRuns.leBytes_length] at h1
  have hs2 : slice (epochBytes s) 4 4 = leBytes 4 (s.g F.RST_EPOCH_EPOCH) := by
    have h1 := slice_second (leBytes 4 (s.epochStored.1 + 1)) (leBytes 4 (s.g F.RST_EPOCH_EPOCH))
    rwa [RecorderRuns.leBytes_length, RecorderRuns.leBytes_length] at h1
  have hepoch : s.g F.RST_EPOCH_EPOCH < 256 ^ 4 := lt_of_le_of_lt (g_le_top _ _) (by decide)
  have hnew : (epochSaved s).epochAt s.epochOlder = some (s.epochStored.1 + 1, s.g F.RST_EPOCH_EPOCH) := by
    rw [State.epochAt, hfirst, hcrc, if_pos rfl, hs1, hs2, ofLe_leBytes, ofLe_leBytes, Nat.mod_eq_of_lt hepoch, Nat.mod_eq_of_lt (by omega)]
  have hold : ∀ i, i < 2 → i ≠ s.epochOlder → (epochSaved s).epochAt i = s.epochAt i := fun i hi hne => epochAt_congr i (fun k hk => hbyte _ (by
    have := epoch_apart hne
    omega))
  exact ⟨on_put_set _ (by decide), stored_newest hnew hold, hbyte, only_put _ (by simp) (by decide) (only_mono (by simp) (List.Subset.refl _) (setBytes_only ..))⟩

/-! ### The journal's commands -/

theorem exec_bjCtrl {m : Master} {v : Word} (hm : s.masterRuns m = true) (hw : s.mayWrite m 0x02 0x5C = true) :
    exec (.clrAvoid m v) s = .next (s.begin.bjCtrl v) ∧ exec (.mirrorNow m v) s = .next (s.begin.bjCtrl v) := by
  have h : s.begin.masterWrite m (pageAddr 0x02 0x5C) v = s.begin.bjCtrl v :=
    masterWrite_special (s := s.begin) v hm hw (by decide) (by decide) (by decide) (by decide) (by decide) (by decide) (by decide)
  exact ⟨congrArg Host.Outcome.next h, congrArg Host.Outcome.next h⟩

/-- Each bit cleared in turn leaves what lies above. -/
theorem clearBits_fold (v k : Nat) : (List.range k).foldl (fun v c => if tbit v c then v - 2 ^ c else v) v = v / 2 ^ k * 2 ^ k := by
  induction k with
  | zero => simp
  | succ k ih =>
    rw [List.range_succ, List.foldl_append, ih, List.foldl_cons, List.foldl_nil]
    have hpos : 0 < 2 ^ k := Nat.two_pow_pos k
    have hbit : tbit (v / 2 ^ k * 2 ^ k) k = decide (v / 2 ^ k % 2 = 1) := by
      rw [tbit, Nat.testBit_eq_decide_div_mod_eq, Nat.mul_div_cancel _ hpos]
    have hdiv : v / 2 ^ (k + 1) = v / 2 ^ k / 2 := by rw [pow_succ, Nat.div_div_eq_div_mul]
    rw [hbit, hdiv, pow_succ]
    generalize v / 2 ^ k = q
    obtain ⟨r, rfl | rfl⟩ := Nat.even_or_odd' q
    · rw [if_neg (by simp), Nat.mul_div_cancel_left _ (by decide), mul_comm 2 r, mul_assoc, mul_comm 2]
    · rw [if_pos (by simp), show (2 * r + 1) / 2 = r by omega, add_mul, one_mul, Nat.add_sub_cancel]
      ring

theorem journalFlash_open (h : s.on F.THM_STAT_FLASH_OK = true) : s.journalFlash = (s.setBytes (journalCopy s.rst.copy)
    (s.bytes journalBase 1120 ++ leBytes 4 (crc32 (s.bytes journalBase 1120)))).withRst { s.rst with copy := 1 - s.rst.copy } := (if_pos h).trans rfl

theorem journalFlash_shut (h : s.on F.THM_STAT_FLASH_OK = false) : s.journalFlash = s.defer .journal := if_neg (by simp [h])

theorem journalFlash_only (s : State) : s.Only [] [.mem, .rst, .thm] s.journalFlash :=
  only_of_within (journalFlash_fits s (le_self _) (fits_refl _ s)).within

/-- The journal itself is not where its copies are. -/
theorem journalFlash_journal (s : State) {o n : Nat} (h : o + n ≤ 1120) : s.journalFlash.jget o n = s.jget o n := by
  unfold State.journalFlash
  split_ifs
  · have hlow : journalBase + o + n ≤ journalCopy s.rst.copy := by
      unfold journalBase journalCopy
      omega
    have hle := le_beside (a := journalCopy s.rst.copy) (b := journalBase + o) (n := n) s (s.bytes journalBase 1120 ++ leBytes 4 (crc32 (s.bytes journalBase 1120))) (.inl hlow)
    exact (le_mem (withRst_mem ..) _ _).trans hle
  · exact le_mem (withThm_mem ..) _ _

theorem jput_jget (s : State) (o n v : Nat) : (s.jput o n v).jget o n = v % 256 ^ n := le_written ..

theorem jput_beside (s : State) (o n v : Nat) {k m : Nat} (h : k + m ≤ o ∨ o + n ≤ k) : (s.jput o n v).jget k m = s.jget k m := by
  refine le_beside s (leBytes n v) ?_
  rw [RecorderRuns.leBytes_length]
  omega

theorem jseal_beside (s : State) {k m : Nat} (h : k + m ≤ 0x1C ∨ 0x20 ≤ k) : s.jseal.jget k m = s.jget k m := jput_beside _ _ _ _ h

/-- Every AVOID bit of the open journal is cleared. -/
theorem clearAvoid_all (s : State) (h : s.rst.journalOpen = true) :
    (s.clearAvoid (List.range 32)).g F.RST_BJ_AVOID_AVOID = 0 ∧ (s.clearAvoid (List.range 32)).jget 8 4 = 0 := by
  have hv : (List.range 32).foldl (fun v c => if tbit v c then v - 2 ^ c else v) (s.jget 8 4) = 0 := by
    have hlt : s.jget 8 4 < 2 ^ 32 := le_lt s (journalBase + 8) 4
    rw [clearBits_fold, Nat.div_eq_of_lt hlt, Nat.zero_mul]
  unfold State.clearAvoid
  rw [if_pos h]
  dsimp only
  rw [hv]
  exact ⟨g_put_self (by decide) (by decide) (by decide), (le_mem (put_mem ..) _ _).trans ((jseal_beside _ (by decide)).trans ((jput_jget ..).trans (by decide)))⟩

theorem low_bits (v : Word) : v &&& 3 = 0 ↔ wordField v 1 0 = 0 := by
  have h : (v &&& 3).toNat = v.toNat % 4 := (BitVec.toNat_and ..).trans (Nat.and_two_pow_sub_one_eq_mod v.toNat 2)
  rw [← BitVec.toNat_inj, h]
  simp [wordField]

theorem wordField_low (v : Word) : wordField v 1 0 = wordField v 0 0 + 2 * wordField v 1 1 := by
  simp only [wordField, Nat.shiftRight_eq_div_pow]
  omega

theorem bjCtrl_clear {v : Word} (h : wordField v 0 0 = 1) : s.bjCtrl v = (s.clearAvoid (List.range 32)).journalFlash := by
  have hne : ¬ v &&& 3 = 0 := by
    rw [low_bits, wordField_low, h]
    omega
  unfold State.bjCtrl
  rw [if_pos h]
  exact if_neg hne

theorem bjCtrl_mirror {v : Word} (h0 : wordField v 0 0 = 0) (h1 : wordField v 1 1 = 1) : s.bjCtrl v = s.journalFlash := by
  have hne : ¬ v &&& 3 = 0 := by
    rw [low_bits, wordField_low, h0, h1]
    decide
  unfold State.bjCtrl
  extract_lets w
  have hw : w = s := if_neg (by rw [h0]; decide)
  rw [hw]
  exact if_neg hne

theorem bjCtrl_none {v : Word} (h : wordField v 1 0 = 0) : s.bjCtrl v = s := by
  have h0 := wordField_low v
  unfold State.bjCtrl
  extract_lets w
  have hw : w = s := if_neg (by omega)
  rw [hw]
  exact if_pos ((low_bits v).2 h)

/-- The copy in flash after a write of the journal. -/
theorem journalFlash_copy (s : State) (h : s.on F.THM_STAT_FLASH_OK = true) :
    s.journalFlash.bytes (journalCopy s.rst.copy) 1120 = s.bytes journalBase 1120
      ∧ s.journalFlash.le (journalCopy s.rst.copy + 1120) 4 = crc32 (s.bytes journalBase 1120) ∧ s.journalFlash.rst = { s.rst with copy := 1 - s.rst.copy }
      ∧ (∀ a, a < journalCopy s.rst.copy ∨ journalCopy s.rst.copy + 1124 ≤ a → s.journalFlash.byte a = s.byte a) ∧ s.Only [] [.mem, .rst] s.journalFlash := by
  rw [journalFlash_open h]
  have hb := bytes_first s (journalCopy s.rst.copy) (s.bytes journalBase 1120) (leBytes 4 (crc32 (s.bytes journalBase 1120)))
  have hc := bytes_second s (journalCopy s.rst.copy) (s.bytes journalBase 1120) (leBytes 4 (crc32 (s.bytes journalBase 1120)))
  have hlen : (s.bytes journalBase 1120 ++ leBytes 4 (crc32 (s.bytes journalBase 1120))).length = 1124 := by
    rw [List.length_append, bytes_length, RecorderRuns.leBytes_length]
  have hby := fun a => setBytes_outside (a := journalCopy s.rst.copy) (b := a) s (s.bytes journalBase 1120 ++ leBytes 4 (crc32 (s.bytes journalBase 1120)))
  have honly := setBytes_only s (journalCopy s.rst.copy) (s.bytes journalBase 1120 ++ leBytes 4 (crc32 (s.bytes journalBase 1120)))
  rw [hlen] at hby
  rw [bytes_length] at hb hc
  rw [RecorderRuns.leBytes_length] at hc
  have hcrc : ofLe (leBytes 4 (crc32 (s.bytes journalBase 1120))) = crc32 (s.bytes journalBase 1120) := (ofLe_leBytes ..).trans (Nat.mod_eq_of_lt (crc32_lt _))
  generalize s.bytes journalBase 1120 ++ leBytes 4 (crc32 (s.bytes journalBase 1120)) = l at *
  generalize s.setBytes (journalCopy s.rst.copy) l = w at *
  refine ⟨(bytes_mem (withRst_mem ..) _ _).trans hb, ?_, rfl, fun a ha => ?_, only_withRst (by simp) (only_mono (List.Subset.refl _) (by simp) honly)⟩
  · rw [le_mem (withRst_mem ..), State.le, hc, hcrc]
  · rw [State.byte, withRst_mem, ← State.byte]
    exact hby a ha

/-- Settles O52: each step by what it leaves, the epoch and the journal by their bytes in flash. -/
theorem bootEnd : Obligations.BootEnd := by
  refine ⟨fun s copies h => links_leave copies h, fun s h => tiles_leave h, fun s h hf => ?_, fun s h hf hp hsh => firstLight_leaves h hf hp hsh,
    fun s he hs hg => ⟨fun hok hlt => ?_, fun hno => ?_⟩, fun s m v hm hw h0 hj => ?_, fun s m v hm hw h0 h1 => ⟨fun hok => ?_, fun hno => ?_⟩,
    fun s m v hm hw h => ?_, fun s copies => ⟨fun h => ?_, fun h => ?_, fun h => ?_, fun h => exec_firstLight_rests h, fun h => exec_epochSave_rests h⟩⟩
  · obtain ⟨hstep, -⟩ := step_of_runs h
    have hb : s.begin.g F.RST_BOOT_STAT_STEP = 15 := (begin_g ..).trans hstep
    obtain ⟨h1, -⟩ := stepDone_leaves s.begin 0 (by rw [hb]; decide) (by rw [hb]; decide)
    exact ⟨_, exec_safeReady h hf, h1.trans (by rw [hb]), (stepDone_fits s.begin 0 (by decide) (begin_fits s (by decide) (fits_refl _ s))).within⟩
  · have hold : s.begin.epochStored = s.epochStored := rfl
    obtain ⟨h1, h2, h3, h4⟩ := epochSaved_leaves s.begin (by rw [hold]; exact hlt)
    exact ⟨_, (exec_epochSave he hs hg).trans (congrArg Host.Outcome.next (if_pos hok)), h1, by rw [h2, hold, begin_g], h3, h4⟩
  · exact ⟨_, (exec_epochSave he hs hg).trans (congrArg Host.Outcome.next (if_neg (by simp [hno]))), DigestChecks.defer_mem _ _, defer_only _ _⟩
  · have hrun := (exec_bjCtrl (v := v) hm hw).1
    rw [bjCtrl_clear h0] at hrun
    obtain ⟨h1, h2⟩ := clearAvoid_all s.begin hj
    have hca := clearAvoid_only s.begin (List.range 32)
    have hjf := journalFlash_only (s.begin.clearAvoid (List.range 32))
    refine ⟨_, hrun, (only_g hjf (by decide)).trans h1, (journalFlash_journal _ (by decide)).trans h2, ?_⟩
    exact only_trans (only_mono (List.Subset.refl _) (by simp) hca) (only_mono (by simp) (List.Subset.refl _) hjf)
  · have hrun := (exec_bjCtrl (v := v) hm hw).2
    rw [bjCtrl_mirror h0 h1] at hrun
    obtain ⟨k1, k2, k3, k4, k5⟩ := journalFlash_copy s.begin ((begin_on ..).trans hok)
    exact ⟨_, hrun, k1.trans (begin_bytes ..), k2.trans (congrArg crc32 (begin_bytes ..)), k3, k4, k5⟩
  · have hrun := (exec_bjCtrl (v := v) hm hw).2
    rw [bjCtrl_mirror h0 h1, journalFlash_shut ((begin_on ..).trans hno)] at hrun
    exact ⟨_, hrun, DigestChecks.defer_mem _ _, defer_only _ _⟩
  · obtain ⟨h1, h2⟩ := exec_bjCtrl (v := v) hm hw
    rw [bjCtrl_none h] at h1 h2
    exact ⟨h1, h2⟩
  · exact congrArg Host.Outcome.next (if_neg (by rw [show s.begin.bootRuns 13 = s.bootRuns 13 from rfl, h]; decide))
  · exact congrArg Host.Outcome.next (if_neg (by rw [show s.begin.bootRuns 14 = s.bootRuns 14 from rfl, h]; decide))
  · refine congrArg Host.Outcome.next (if_neg ?_)
    rw [show s.begin.bootRuns 15 = s.bootRuns 15 from rfl, begin_g]
    rcases h with h | ⟨h2, h3⟩
    · simp [h]
    · simp [h2, h3]

end Sys2Proof.Proofs.BootEnding
end

section
/-! PROOF. How the boot sequence ends a step and starts another. -/

namespace Sys2Proof.Proofs.BootSteps

open Sys2Proof.Machine Sys2Proof.Laws Sys2Proof.Proofs.Architecture Sys2Proof.Proofs.Reading Sys2Proof.Proofs.GovernorSums
  Sys2Proof.Proofs.PendingFaults Sys2Proof.Proofs.LampReactions Sys2Proof.Proofs.LampLanes Sys2Proof.Proofs.PacketConsumption Sys2Proof.Proofs.RegisterMap
  Sys2Proof.Proofs.FlintLockOut Sys2Proof.Proofs.MemoryWords Sys2Proof.Proofs.RecorderRuns Sys2Proof.Proofs.BootEnding

variable {s t u v : State} {f : Fld} {n c : Nat}

/-! ### Entries of the boot record -/

/-- A byte of the boot records: of the journal, past its header. -/
def inRecords (a : Nat) : Prop := journalBase + 32 ≤ a ∧ a < journalBase + 1120

/-- What an entry of the boot record leaves: all but bytes of the records, and the count of entries. -/
structure Entered (s t : State) : Prop where
  fits : s.Fits (Foot.of [] [.mem, .rst]) t
  only : s.Only [] [.mem, .rst] t
  byte : ∀ a, ¬ inRecords a → t.byte a = s.byte a
  rst : ∃ e l, t.rst = { s.rst with entry := e, early := l }

theorem Entered.trans (h : Entered s t) (k : Entered t u) : Entered s u := by
  obtain ⟨e, l, hr⟩ := h.rst
  obtain ⟨e', l', hr'⟩ := k.rst
  exact ⟨fits_trans h.fits k.fits, only_trans h.only k.only, fun a ha => (k.byte a ha).trans (h.byte a ha), e', l', by rw [hr', hr]⟩

theorem entryBytes_length (s : State) (a b c d : Nat) : (s.entryBytes a b c d).length = 8 := by
  simp [State.entryBytes, Sys2Proof.Proofs.RecorderRuns.leBytes_length]

theorem jrec_le (s : State) : 32 ≤ s.jrec ∧ s.jrec ≤ 848 := by
  unfold State.jrec
  omega

/-- An entry of a record is written among the records. -/
theorem entryWrite_byte (s : State) {k : Nat} (hk : k < 32) {l : List Byte} (hl : l.length = 8) {a : Nat} (ha : ¬ inRecords a) :
    (s.setBytes (journalBase + s.jrec + 16 + 8 * k) l).byte a = s.byte a := by
  have h := jrec_le s
  refine setBytes_outside s l ?_
  unfold inRecords at ha
  omega

theorem newEntry_entered (s : State) (a b c d : Nat) : Entered s (s.newEntry a b c d) := by
  refine ⟨newEntry_fits s a b c d (le_self _) (fits_refl _ s), newEntry_only s a b c d, ?_, ?_⟩
  · intro x hx
    unfold State.newEntry
    extract_lets e
    split_ifs with h1 h2
    · rw [State.byte, withRst_mem, ← State.byte]
      exact entryWrite_byte s h2 (entryBytes_length ..) hx
    · rfl
    · rfl
  · unfold State.newEntry
    extract_lets e
    generalize journalBase + s.jrec + 16 + 8 * s.rst.entry = p
    have hset : (s.setBytes p e).rst = s.rst := (setBytes_only s p e).parts.rst (by simp [Foot.of])
    split_ifs with h1 h2
    · exact ⟨s.rst.entry + 1, s.rst.early, rfl⟩
    · exact ⟨s.rst.entry, s.rst.early, rfl⟩
    · exact ⟨s.rst.entry, s.rst.early ++ [e], rfl⟩

theorem endEntry_entered (s : State) (a b c : Nat) : Entered s (s.endEntry a b c) := by
  refine ⟨endEntry_fits s a b c (le_self _) (fits_refl _ s), endEntry_only s a b c, ?_, ?_⟩
  · intro x hx
    unfold State.endEntry
    extract_lets e
    split_ifs with h1
    · exact entryWrite_byte s (k := (s.rst.entry - 1) % 32) (Nat.mod_lt _ (by decide)) (entryBytes_length ..) hx
    · rfl
  · unfold State.endEntry
    extract_lets e
    generalize journalBase + s.jrec + 16 + 8 * ((s.rst.entry - 1) % 32) = p
    split_ifs with h1
    · exact ⟨s.rst.entry, s.rst.early, (setBytes_only s p e).parts.rst (by simp [Foot.of])⟩
    · exact ⟨s.rst.entry, s.rst.early.dropLast ++ [e], rfl⟩

/-- The journal's header is no record. -/
theorem header_bytes {n o : Nat} (h : ∀ a, ¬ inRecords a → t.byte a = s.byte a) (ho : o + n ≤ 32) : t.bytes (journalBase + o) n = s.bytes (journalBase + o) n :=
  bytes_congr (fun i hi => h _ (by unfold inRecords; omega))

theorem header_jget {n o : Nat} (h : ∀ a, ¬ inRecords a → t.byte a = s.byte a) (ho : o + n ≤ 32) : t.jget o n = s.jget o n := by
  rw [State.jget, State.jget, State.le, State.le, header_bytes h ho]

theorem avoidBits_congr (h : ∀ a, ¬ inRecords a → t.byte a = s.byte a) (ho : t.rst.journalOpen = s.rst.journalOpen) (ha : t.rst.avoid = s.rst.avoid) :
    t.avoidBits = s.avoidBits := by
  have hb := header_bytes (o := 0) (n := 32) h (by decide)
  rw [State.avoidBits, State.avoidBits, ho, ha, header_jget h (by decide), show t.bytes journalBase 32 = s.bytes journalBase 32 from hb]

theorem Entered.avoidBits (h : Entered s t) : t.avoidBits = s.avoidBits := by
  obtain ⟨e, l, hr⟩ := h.rst
  exact avoidBits_congr h.byte (by rw [hr]) (by rw [hr])

/-! ### The start of a step -/

/-- The units and parts that the boot sequence itself may touch. -/
def stepFoot : Foot := Foot.of [0x00, 0x02, 0x40, 0x50, 0x68, 0x70, 0x71] [.mem, .flt, .evr, .saf, .rst, .lanes]

/-- What the start of step c leaves. -/
structure Started (s t : State) (c : Nat) : Prop where
  step : t.g F.RST_BOOT_STAT_STEP = c
  fits : s.Fits stepFoot t
  field : ∀ x, lampField x = true → F.RST_BOOT_STAT_STEP.apart x = true → t.g x = s.g x
  byte : ∀ a, ¬ inRecords a → t.byte a = s.byte a
  opened : t.rst.journalOpen = s.rst.journalOpen
  pend : ∀ j, j < 75 → s.on (fltPend j) = true → t.on (fltPend j) = true

/-- The alternative's fault. -/
theorem altRaise_fits (s : State) : s.Fits (Foot.of [0x00, 0x02, 0x40, 0x50, 0x68, 0x70, 0x71] [.flt, .evr, .saf, .lanes]) (s.raise S.RST_BOOT_ALT 0) :=
  raise_fits s _ _ rfl (by decide) (fits_refl _ s)

theorem altRaise_mem (s : State) : (s.raise S.RST_BOOT_ALT 0).mem = s.mem := within_mem (altRaise_fits s).within rfl rfl

theorem altRaise_rst (s : State) : (s.raise S.RST_BOOT_ALT 0).rst = s.rst := within_rst (altRaise_fits s).within rfl rfl

theorem Started.of_entered (h : Entered s t) (k : Started t u c) : Started s u c := by
  obtain ⟨e, l, hr⟩ := h.rst
  exact ⟨k.step, fits_trans (fits_mono (by decide) h.fits) k.fits, fun x hl hx => (k.field x hl hx).trans (only_g h.only rfl),
    fun a ha => (k.byte a ha).trans (h.byte a ha), k.opened.trans (by rw [hr]), fun j hj hp => k.pend j hj ((only_on h.only rfl).trans hp)⟩

/-- An entry and the alternative's mark behind a started step. -/
theorem Started.entered (h : Started s t c) (a b d e : Nat) (r : Bool) :
    Started s ((t.newEntry a b d e).withRst { (t.newEntry a b d e).rst with alt := r }) c := by
  have k := newEntry_entered t a b d e
  obtain ⟨x, l, hr⟩ := k.rst
  refine ⟨(withRst_g ..).trans ((only_g k.only rfl).trans h.step), withRst_fits _ rfl (newEntry_fits t a b d e (by decide) h.fits),
    fun y hl hy => (withRst_g ..).trans ((only_g k.only rfl).trans (h.field y hl hy)), fun y hy => ?_, ?_, fun j hj hp => (withRst_on ..).trans ((only_on k.only rfl).trans (h.pend j hj hp))⟩
  · rw [State.byte, withRst_mem, ← State.byte]
    exact (k.byte y hy).trans (h.byte y hy)
  · show (t.newEntry a b d e).rst.journalOpen = _
    rw [hr]
    exact h.opened

theorem put_started (s : State) (hc : c < 256) : Started s (s.put F.RST_BOOT_STAT_STEP c) c := by
  have hsep : ∀ j < 75, sep F.RST_BOOT_STAT_STEP (fltPend j) = true := by decide
  refine ⟨g_put_self (by decide) (by decide) hc, put_fits _ rfl (fits_refl _ s), fun x _ hx => g_put_other _ _ _ _ (by decide) hx, fun a _ => ?_,
    congrArg Rst.journalOpen (put_rst ..), fun j hj hp => (on_put_sep _ _ (hsep j hj)).trans hp⟩
  rw [State.byte, put_mem, ← State.byte]

theorem Started.raised (h : Started s t c) : Started s (t.raise S.RST_BOOT_ALT 0) c := by
  refine ⟨(raise_lamp _ _ _ (by decide)).trans h.step, fits_trans h.fits (fits_mono (by decide) (altRaise_fits t)), fun x hl hx => (raise_lamp _ _ _ hl).trans (h.field x hl hx),
    fun a ha => ?_, ?_, fun j hj hp => raise_keeps_pend t 0 (by decide) hj (h.pend j hj hp)⟩
  · rw [State.byte, altRaise_mem, ← State.byte]
    exact h.byte a ha
  · rw [altRaise_rst]
    exact h.opened

theorem startPlain_started (s : State) (hc : c < 256) : Started s (s.startPlain c) c := by
  have hput := put_started s hc
  unfold State.startPlain
  extract_lets v
  split_ifs with h
  · exact hput.raised.entered _ _ _ _ true
  · exact hput.entered _ _ _ _ false

/-- The step that a start of step c leads to: MBIST is left out of a warm boot, an optional step that is avoided is passed over. -/
def stepAt (s : State) (c : Nat) : Nat :=
  if c = 5 && !s.rst.cold then 6 else if stepOptional c && tbit s.avoidBits c then c + 1 else c

theorem startStep_started (s : State) (hc : c < 255) : Started s (s.startStep c) (stepAt s c) := by
  unfold State.startStep stepAt
  split_ifs with h5 ho
  · exact startPlain_started s (by decide)
  · have hput : Started s (((s.put F.RST_BOOT_STAT_STEP c).raise S.RST_BOOT_ALT 0).newEntry c 4 0 0) c := by
      have k := (put_started s (c := c) (by omega)).raised
      have ke := newEntry_entered ((s.put F.RST_BOOT_STAT_STEP c).raise S.RST_BOOT_ALT 0) c 4 0 0
      obtain ⟨e, l, hr⟩ := ke.rst
      exact ⟨(only_g ke.only rfl).trans k.step, newEntry_fits _ _ _ _ _ (by decide) k.fits, fun x hl hx => (only_g ke.only rfl).trans (k.field x hl hx),
        fun a ha => (ke.byte a ha).trans (k.byte a ha), (by rw [hr]; exact k.opened), fun j hj hp => (only_on ke.only rfl).trans (k.pend j hj hp)⟩
    generalize ((s.put F.RST_BOOT_STAT_STEP c).raise S.RST_BOOT_ALT 0).newEntry c 4 0 0 = w at *
    have k := startPlain_started w (c := c + 1) (by omega)
    exact ⟨k.step, fits_trans hput.fits k.fits, fun x hl hx => (k.field x hl hx).trans (hput.field x hl hx), fun a ha => (k.byte a ha).trans (hput.byte a ha),
      k.opened.trans hput.opened, fun j hj hp => k.pend j hj (hput.pend j hj hp)⟩
  · exact startPlain_started s (by omega)

/-- The end of step c starts the next. -/
theorem stepDone_started (s : State) (d : Nat) (hs : s.g F.RST_BOOT_STAT_STEP = c) (hc : c < 254) : Started s (s.stepDone d) (stepAt s (c + 1)) := by
  have h := endEntry_entered s (if s.rst.alt then 5 else 2) (bit s.rst.alt) d
  have k := startStep_started (s.endEntry (if s.rst.alt then 5 else 2) (bit s.rst.alt) d) (c := c + 1) (by omega)
  have hat : stepAt (s.endEntry (if s.rst.alt then 5 else 2) (bit s.rst.alt) d) (c + 1) = stepAt s (c + 1) := by
    obtain ⟨e, l, hr⟩ := h.rst
    rw [stepAt, stepAt, h.avoidBits, hr]
  rw [hat] at k
  unfold State.stepDone
  rw [hs]
  exact Started.of_entered h k


/-! ### A step that fails -/

/-- The AVOID bit of step c, in the journal where that is open. -/
theorem setAvoid_leaves (s : State) (hc : c < 32) :
    s.Only [F.RST_BJ_AVOID_AVOID] [.mem, .rst] (s.setAvoid c) ∧ s.Fits (Foot.of [0x02] [.mem, .rst]) (s.setAvoid c)
      ∧ (s.rst.journalOpen = true → tbit ((s.setAvoid c).g F.RST_BJ_AVOID_AVOID) c = true) ∧ (s.setAvoid c).rst.alt = s.rst.alt
      ∧ (s.setAvoid c).rst.journalOpen = s.rst.journalOpen := by
  have hfits := setAvoid_fits (g := Foot.of [0x02] [.mem, .rst]) s c (by decide) (fits_refl _ s)
  refine ⟨?_, hfits, fun h => ?_, ?_, ?_⟩
  · unfold State.setAvoid
    refine only_ite (fun _ => ?_) (fun _ => only_withRst (by simp) (only_refl _ _ s))
    extract_lets v
    have hj : ∀ (u : State) o n w, u.Only [F.RST_BJ_AVOID_AVOID] [.mem, .rst] (u.jput o n w) := fun u o n w => only_mono (by simp) (by simp) (jput_only u o n w)
    exact only_put _ (by simp) (by decide) (only_trans (hj _ _ _ _) (hj _ _ _ _))
  · have hlt : s.jget 8 4 < 2 ^ 32 := le_lt s (journalBase + 8) 4
    have hv : s.jget 8 4 ||| 2 ^ c < 2 ^ 32 := Nat.or_lt_two_pow hlt (Nat.pow_lt_pow_right (by decide) hc)
    unfold State.setAvoid
    rw [if_pos h]
    dsimp only
    rw [g_put_self (by decide) (by decide) hv, tbit, Nat.testBit_or, Nat.testBit_two_pow_self, Bool.or_true]
  · unfold State.setAvoid
    split_ifs
    · rw [put_rst]
      exact congrArg Rst.alt ((only_trans (jput_only s _ _ _) (jput_only _ _ _ _)).parts.rst (by simp [Foot.of]))
    · rfl
  · unfold State.setAvoid
    split_ifs
    · rw [put_rst]
      exact congrArg Rst.journalOpen ((only_trans (jput_only s _ _ _) (jput_only _ _ _ _)).parts.rst (by simp [Foot.of]))
    · rfl

/-- What a failed step leaves before its alternative. -/
structure StepFailed (s t : State) (c : Nat) : Prop where
  step : t.g F.RST_BOOT_STAT_STEP = c
  fits : s.Fits (Foot.of [0x00, 0x02, 0x40, 0x50, 0x68, 0x70, 0x71] [.mem, .flt, .evr, .saf, .rst, .lanes, .thm]) t
  field : ∀ x, lampField x = true → F.RST_BJ_AVOID_AVOID.apart x = true → t.g x = s.g x
  avoid : s.rst.journalOpen = true → tbit (t.g F.RST_BJ_AVOID_AVOID) c = true
  level : s.defLevel S.RST_BOOT_ALT ≠ 0 → t.on (fltPend S.RST_BOOT_ALT) = true
  pend : ∀ j, j < 75 → s.on (fltPend j) = true → t.on (fltPend j) = true

/-- The journal, where it is open, is written to flash. -/
def flashed (s : State) : State := if s.rst.journalOpen then s.journalFlash else s

theorem flashed_leaves (s : State) : s.Only [] [.mem, .rst, .thm] (flashed s) ∧ s.Fits (Foot.of [] [.mem, .rst, .thm]) (flashed s) ∧ (flashed s).rst.alt = s.rst.alt
    ∧ (flashed s).rst.journalOpen = s.rst.journalOpen := by
  unfold flashed
  have hflash : s.journalFlash.rst.alt = s.rst.alt ∧ s.journalFlash.rst.journalOpen = s.rst.journalOpen := by
    by_cases hf : s.on F.THM_STAT_FLASH_OK = true
    · obtain ⟨-, -, hr, -⟩ := journalFlash_copy s hf
      rw [hr]
      exact ⟨rfl, rfl⟩
    · rw [journalFlash_shut (by simpa using hf)]
      exact ⟨rfl, rfl⟩
  split_ifs with h
  · exact ⟨journalFlash_only s, journalFlash_fits s (le_self _) (fits_refl _ s), hflash.1, hflash.2⟩
  · exact ⟨only_refl _ _ s, fits_refl _ s, rfl, rfl⟩

theorem stepFailed_eq (s : State) (r : Nat) (hs : s.g F.RST_BOOT_STAT_STEP = c) :
    s.stepFailed r = flashed (((s.endEntry 3 (bit s.rst.alt) r).setAvoid c).raise S.RST_BOOT_ALT 0) := by
  unfold State.stepFailed
  rw [hs]
  rfl

theorem stepFailed_leaves (s : State) (r : Nat) (hs : s.g F.RST_BOOT_STAT_STEP = c) (hc : c < 32) :
    StepFailed s (s.stepFailed r) c ∧ (s.stepFailed r).rst.alt = s.rst.alt := by
  have hend := endEntry_entered s 3 (bit s.rst.alt) r
  obtain ⟨e, l, hr⟩ := hend.rst
  obtain ⟨a1, a2, a3, a4, a5⟩ := setAvoid_leaves (s.endEntry 3 (bit s.rst.alt) r) hc
  have havoid : ∀ j < 75, clear [F.RST_BJ_AVOID_AVOID] (fltPend j) = true := by decide
  have hopen : (s.endEntry 3 (bit s.rst.alt) r).rst.journalOpen = s.rst.journalOpen := by rw [hr]
  have halt : (s.endEntry 3 (bit s.rst.alt) r).rst.alt = s.rst.alt := by rw [hr]
  rw [stepFailed_eq s r hs]
  generalize s.endEntry 3 (bit s.rst.alt) r = v at *
  have hbefore : ∀ x, F.RST_BJ_AVOID_AVOID.apart x = true → (v.setAvoid c).g x = s.g x := fun x hx =>
    (a1.fields x (fun y hy => by rwa [List.mem_singleton.1 hy])).trans (only_g hend.only rfl)
  have hrst : ((v.setAvoid c).raise S.RST_BOOT_ALT 0).rst = (v.setAvoid c).rst := altRaise_rst _
  have hlevel : (v.setAvoid c).defLevel S.RST_BOOT_ALT = s.defLevel S.RST_BOOT_ALT := by
    rw [State.defLevel, on_congr (hbefore _ (by decide)), hbefore _ (by decide), ← State.defLevel]
  have hpend := raise_pend (v.setAvoid c) (i := S.RST_BOOT_ALT) 0 (by decide)
  have hkeep := fun j hj => raise_keeps_pend (i := S.RST_BOOT_ALT) (j := j) (v.setAvoid c) 0 (by decide) hj
  have hfits : s.Fits (Foot.of [0x00, 0x02, 0x40, 0x50, 0x68, 0x70, 0x71] [.mem, .flt, .evr, .saf, .rst, .lanes, .thm]) ((v.setAvoid c).raise S.RST_BOOT_ALT 0) :=
    fits_trans (fits_mono (by decide) hend.fits) (fits_trans (fits_mono (by decide) a2) (fits_mono (by decide) (altRaise_fits _)))
  have hlamp := fun x hx => raise_lamp (v.setAvoid c) S.RST_BOOT_ALT 0 (f := x) hx
  generalize (v.setAvoid c).raise S.RST_BOOT_ALT 0 = w at *
  obtain ⟨hlast, hfit, hend', -⟩ := flashed_leaves w
  refine ⟨⟨(only_g hlast rfl).trans ((hlamp _ (by decide)).trans ((hbefore _ (by decide)).trans hs)), fits_trans hfits (fits_mono (by decide) hfit),
    fun x hl hx => (only_g hlast rfl).trans ((hlamp x hl).trans (hbefore x hx)), fun ho => ?_, fun hd => ?_, fun j hj hp => ?_⟩, ?_⟩
  · rw [only_g hlast rfl, hlamp _ (by decide)]
    exact a3 (hopen.trans ho)
  · exact (only_on hlast rfl).trans (hpend (by rwa [hlevel]))
  · exact (only_on hlast rfl).trans (hkeep j hj ((on_congr (hbefore _ (clear_apart (havoid j hj) (by simp)))).trans hp))
  · rw [hend', hrst, a4, halt]

/-- A step with an alternative, not yet taken, starts it. -/
theorem stepFails_alt (s : State) (r : Nat) (hs : s.g F.RST_BOOT_STAT_STEP = c) (ho : stepOptional c = false) (ha : stepAlt c = true) (h : s.rst.alt = false) (hc : c < 32) :
    StepFailed s (s.stepFails r) c ∧ (s.stepFails r).rst.alt = true := by
  obtain ⟨k, -⟩ := stepFailed_leaves s r hs hc
  have hrun : s.stepFails r = ((s.stepFailed r).newEntry c 5 1 0).withRst { ((s.stepFailed r).newEntry c 5 1 0).rst with alt := true } := by
    unfold State.stepFails
    rw [hs, if_neg (by rw [ho]; decide), if_pos (by rw [ha, h]; rfl)]
  rw [hrun]
  generalize s.stepFailed r = w at *
  have ke := newEntry_entered w c 5 1 0
  generalize w.newEntry c 5 1 0 = v at *
  exact ⟨⟨(withRst_g ..).trans ((only_g ke.only rfl).trans k.step), withRst_fits _ rfl (fits_trans k.fits (fits_mono (by decide) ke.fits)),
    fun x hl hx => (withRst_g ..).trans ((only_g ke.only rfl).trans (k.field x hl hx)), fun hj => by rw [withRst_g, only_g ke.only rfl]; exact k.avoid hj,
    fun hd => (withRst_on ..).trans ((only_on ke.only rfl).trans (k.level hd)), fun j hj hp => (withRst_on ..).trans ((only_on ke.only rfl).trans (k.pend j hj hp))⟩, rfl⟩

/-- Without one MAIN_IMAGE and GRANITE enter the recovery. -/
theorem stepFails_recovery (s : State) (r : Nat) (hs : s.g F.RST_BOOT_STAT_STEP = c) (hc : c = 7 ∨ c = 8) (h : s.rst.alt = true) :
    s.stepFails r = (s.stepFailed r).enterRecovery := by
  have ho : stepOptional c = false := by rcases hc with rfl | rfl <;> rfl
  unfold State.stepFails
  rw [hs, if_neg (by rw [ho]; decide), if_neg (by rw [h]; simp), if_pos (by simpa using hc)]

/-- An optional step is passed over. -/
theorem stepFails_optional (s : State) (r : Nat) (hs : s.g F.RST_BOOT_STAT_STEP = c) (ho : stepOptional c = true) : s.stepFails r = (s.stepFailed r).startStep (c + 1) := by
  unfold State.stepFails
  rw [hs]
  exact if_pos ho

end Sys2Proof.Proofs.BootSteps
end

section
/-! PROOF. The boot steps that Garnet's ROM runs (BootStepsOfGarnet). -/

namespace Sys2Proof.Proofs.BootOfGarnet

open Sys2Proof.Machine Sys2Proof.Laws Sys2Proof.Proofs.Architecture Sys2Proof.Proofs.Reading Sys2Proof.Proofs.GovernorSums
  Sys2Proof.Proofs.PendingFaults Sys2Proof.Proofs.LampReactions Sys2Proof.Proofs.LampLanes Sys2Proof.Proofs.PacketConsumption Sys2Proof.Proofs.RegisterMap
  Sys2Proof.Proofs.FlintLockOut Sys2Proof.Proofs.MemoryWords Sys2Proof.Proofs.RecorderRuns Sys2Proof.Proofs.BootEnding Sys2Proof.Proofs.BootSteps Sys2Proof.Proofs.SlotStates

variable {s t u v : State} {f : Fld} {n c : Nat}

/-! ### The recovery -/

/-- The fields that the recovery sets after the safety outputs are off. -/
def recoveryFields : List Fld := [F.CMD_EXP_EXP 3, F.UNIT_CTRL_ENABLE 0x09, F.LNK_STAT_STATE 1, F.UNIT_CTRL_ENABLE 0x0A, F.SIDE_STAT_STATE]

/-- The recovery up to the outputs. -/
def recoveryBegun (s : State) : State :=
  let s := (s.bistRaise.put F.RST_BOOT_STAT_PHASE 3).put F.UPD_STAT_RECOVERY 1
  let s := s.outcome 3
  ((s.put F.SAF_STAT_FSTATE 0).put F.SAF_FIELD_REQ 0).soutsOff

/-- What the recovery then sets. -/
def recoverySet (s : State) : State :=
  let s : State := s.withCmd { s.cmd with rings := s.cmd.rings.set 3 [], served := true }
  let s := s.put (F.CMD_EXP_EXP 3) 1
  let s := ((s.put (F.UNIT_CTRL_ENABLE 0x09) 0).put (F.LNK_STAT_STATE 1) 0).put (F.UNIT_CTRL_ENABLE 0x0A) 0
  s.put F.SIDE_STAT_STATE 0

theorem enterRecovery_eq (s : State) : s.enterRecovery = recoverySet (recoveryBegun s) := rfl

theorem recoverySet_leaves (s : State) : (recoverySet s).cmd.served = true ∧ (recoverySet s).g (F.CMD_EXP_EXP 3) = 1 ∧ (recoverySet s).g (F.UNIT_CTRL_ENABLE 0x09) = 0
    ∧ (recoverySet s).g (F.UNIT_CTRL_ENABLE 0x0A) = 0 ∧ s.Only recoveryFields [.cmd] (recoverySet s) := by
  unfold recoverySet
  extract_lets src a b d
  have ha : s.Only recoveryFields [.cmd] a := only_withCmd (by simp) (only_refl _ _ s)
  have hb : s.Only recoveryFields [.cmd] b := only_put _ (by simp [recoveryFields]) (by decide) ha
  have hd : s.Only recoveryFields [.cmd] d := only_put _ (by simp [recoveryFields]) (by decide) (only_put _ (by simp [recoveryFields]) (by decide)
    (only_put _ (by simp [recoveryFields]) (by decide) hb))
  refine ⟨?_, ?_, ?_, ?_, only_put _ (by simp [recoveryFields]) (by decide) hd⟩
  · simp only [put_cmd, b, d]
    rfl
  · rw [g_put_sep _ _ (by decide)]
    simp only [d]
    rw [g_put_sep _ _ (by decide), g_put_sep _ _ (by decide), g_put_sep _ _ (by decide)]
    exact g_put_self (by decide) (by decide) (by decide)
  · rw [g_put_sep _ _ (by decide)]
    simp only [d]
    rw [g_put_sep _ _ (by decide), g_put_sep _ _ (by decide)]
    exact g_put_self (by decide) (by decide) (by decide)
  · rw [g_put_sep _ _ (by decide)]
    exact g_put_self (by decide) (by decide) (by decide)

theorem recoveryBegun_leaves (s : State) : (recoveryBegun s).g F.RST_BOOT_STAT_PHASE = 3 ∧ (recoveryBegun s).on F.UPD_STAT_RECOVERY = true
    ∧ (recoveryBegun s).upd = s.upd ∧ (recoveryBegun s).gov = s.gov ∧ ∀ x, groupPage x.page = 0x80 → F.UPD_STAT_RECOVERY.apart x = true → (recoveryBegun s).g x = s.g x := by
  have hb := bistRaise_fits' s
  unfold recoveryBegun
  dsimp only
  generalize s.bistRaise = a at *
  have hphase : ((a.put F.RST_BOOT_STAT_PHASE 3).put F.UPD_STAT_RECOVERY 1).g F.RST_BOOT_STAT_PHASE = 3 :=
    (g_put_sep _ _ (by decide)).trans (g_put_self (by decide) (by decide) (by decide))
  have hrec : ((a.put F.RST_BOOT_STAT_PHASE 3).put F.UPD_STAT_RECOVERY 1).on F.UPD_STAT_RECOVERY = true := on_put_set _ (by decide)
  have hg : ∀ x, groupPage x.page = 0x80 → F.UPD_STAT_RECOVERY.apart x = true → ((a.put F.RST_BOOT_STAT_PHASE 3).put F.UPD_STAT_RECOVERY 1).g x = s.g x := fun x hx hap => by
    rw [g_put_other _ _ _ _ (by decide) hap, fits_g (put_fits (f := Foot.of [0x02] []) 3 rfl (fits_refl _ a)) rfl (by rw [hx]; rfl), fits_g hb rfl (by rw [hx]; rfl)]
  have hu : ((a.put F.RST_BOOT_STAT_PHASE 3).put F.UPD_STAT_RECOVERY 1).upd = s.upd ∧ ((a.put F.RST_BOOT_STAT_PHASE 3).put F.UPD_STAT_RECOVERY 1).gov = s.gov := by
    rw [put_upd, put_upd, put_gov, put_gov]
    exact ⟨within_upd hb.within rfl rfl, within_gov hb.within rfl rfl⟩
  generalize (a.put F.RST_BOOT_STAT_PHASE 3).put F.UPD_STAT_RECOVERY 1 = b at *
  have ho := outcome_only b 3
  generalize b.outcome 3 = d at *
  have hs : d.Fits (Foot.of [0x50, 0x68] [.saf, .lanes]) ((d.put F.SAF_STAT_FSTATE 0).put F.SAF_FIELD_REQ 0).soutsOff :=
    soutsOff_fits _ (le_self _) (put_fits _ rfl (put_fits _ rfl (fits_refl _ d)))
  exact ⟨(fits_g hs rfl rfl).trans ((only_g ho rfl).trans hphase), (on_congr (fits_g hs rfl rfl)).trans ((only_on ho rfl).trans hrec),
    (within_upd hs.within rfl rfl).trans ((ho.parts.upd (by simp [Foot.of])).trans hu.1), (within_gov hs.within rfl rfl).trans ((ho.parts.gov (by simp [Foot.of])).trans hu.2),
    fun x hx hap => (fits_g hs rfl (by rw [hx]; rfl)).trans ((only_g ho rfl).trans (hg x hx hap))⟩

/-- What the recovery leaves. -/
theorem enterRecovery_leaves (s : State) : s.enterRecovery.g F.RST_BOOT_STAT_PHASE = 3 ∧ s.enterRecovery.on F.UPD_STAT_RECOVERY = true ∧ s.enterRecovery.cmd.served = true
    ∧ s.enterRecovery.g (F.CMD_EXP_EXP 3) = 1 ∧ s.enterRecovery.g (F.UNIT_CTRL_ENABLE 0x09) = 0 ∧ s.enterRecovery.g (F.UNIT_CTRL_ENABLE 0x0A) = 0
    ∧ s.enterRecovery.upd = s.upd ∧ s.enterRecovery.gov = s.gov
    ∧ ∀ x, groupPage x.page = 0x80 → F.UPD_STAT_RECOVERY.apart x = true → clear recoveryFields x = true → s.enterRecovery.g x = s.g x := by
  obtain ⟨b1, b2, b3, b4, b5⟩ := recoveryBegun_leaves s
  rw [enterRecovery_eq]
  generalize recoveryBegun s = w at *
  obtain ⟨k1, k2, k3, k4, k5⟩ := recoverySet_leaves w
  exact ⟨(only_g k5 (by decide)).trans b1, (only_on k5 (by decide)).trans b2, k1, k2, k3, k4, (k5.parts.upd (by simp [Foot.of])).trans b3, (k5.parts.gov (by simp [Foot.of])).trans b4,
    fun x hx hap hc => (only_g k5 hc).trans (b5 x hx hap)⟩

/-! ### FUSE_LOAD -/

/-- The registers that show fuses. -/
def senseFields : List Fld :=
  [F.SEC_KEYREV_MAIN, F.SEC_KEYREV_GRANITE, F.SEC_KEYREV_DEBUG, F.FUS_OPT_STUCK_IGNORE, F.FUS_OPT_PROF_CMD, F.RST_PIN_STUCK_IGNORE, F.PRF_STAT_CMD_OK,
    F.FUS_HW_TYPE_HW_TYPE, F.FUS_UID_LO_UID, F.FUS_UID_HI_UID, F.GOV_APPROVAL_COUNT, F.GOV_APPROVAL_EXHAUSTED, F.UPD_STAT_ROLL_CNT]

theorem senseRows_only (s : State) : s.Only senseFields [] s.senseRows := by
  have hput : ∀ {u : State} (x : Fld) (v : Nat), x ∈ senseFields → x.hi < 32 → s.Only senseFields [] u → s.Only senseFields [] (u.put x v) :=
    fun x v hx hh hu => only_put v hx hh hu
  unfold State.senseRows
  extract_lets r a b d e w
  have ha : s.Only senseFields [] a := hput _ _ (by simp [senseFields]) (by decide) (hput _ _ (by simp [senseFields]) (by decide)
    (hput _ _ (by simp [senseFields]) (by decide) (only_refl _ _ s)))
  have hb : s.Only senseFields [] b := hput _ _ (by simp [senseFields]) (by decide) (hput _ _ (by simp [senseFields]) (by decide) ha)
  have hd : s.Only senseFields [] d := hput _ _ (by simp [senseFields]) (by decide) (hput _ _ (by simp [senseFields]) (by decide) hb)
  have he : s.Only senseFields [] e := hput _ _ (by simp [senseFields]) (by decide) (hput _ _ (by simp [senseFields]) (by decide)
    (hput _ _ (by simp [senseFields]) (by decide) hd))
  exact hput _ _ (by simp [senseFields]) (by decide) (hput _ _ (by simp [senseFields]) (by decide) (hput _ _ (by simp [senseFields]) (by decide) he))

/-- The rows that fail parity, marked. -/
def badRows (bad : List Nat) : List Nat := (List.range 29).filter (parityRows bad).contains

theorem badRows_of {bad : List Nat} (h : ∃ r, r ∈ bad ∧ r ≠ 0 ∧ r ≤ 17) : (badRows bad).isEmpty = false := by
  obtain ⟨r, hr, h0, h17⟩ := h
  have hm : r ∈ badRows bad := List.mem_filter.2 ⟨List.mem_range.2 (by omega), by
    simp only [List.contains_iff_mem]
    exact List.mem_filter.2 ⟨hr, by simp [h0, h17]⟩⟩
  cases hb : badRows bad with
  | nil => rw [hb] at hm; exact absurd hm List.not_mem_nil
  | cons x l => rfl

theorem badRows_seven (bad : List Nat) : (badRows bad).contains 7 = decide (7 ∈ bad) := by
  rw [Bool.eq_iff_iff]
  simp only [badRows, parityRows, List.contains_iff_mem, List.mem_filter, List.mem_range, Bool.and_eq_true, decide_eq_true_eq]
  constructor
  · rintro ⟨-, h, -⟩
    exact h
  · exact fun h => ⟨by decide, h, by decide, by decide⟩

theorem markParity_leaves (s : State) (bad : List Nat) : (s.markParity bad).fus = { s.fus with parity := badRows bad }
    ∧ ((∃ r, r ∈ bad ∧ r ≠ 0 ∧ r ≤ 17) → (s.markParity bad).on F.FUS_EVT_PARITY = true) ∧ s.Only [F.FUS_STAT_PAR_ROWS, F.FUS_EVT_PARITY, F.UNIT_IRQ_STAT_EVT 0x7A] [.fus] (s.markParity bad) := by
  unfold State.markParity
  extract_lets l src a b
  have hl : l = badRows bad := rfl
  have ha : a.fus = { s.fus with parity := badRows bad } := rfl
  have hb : b.fus = { s.fus with parity := badRows bad } := (put_fus ..).trans ha
  have honly : s.Only [F.FUS_STAT_PAR_ROWS, F.FUS_EVT_PARITY, F.UNIT_IRQ_STAT_EVT 0x7A] [.fus] b := only_put _ (by simp) (by decide) (only_withFus (by simp) (only_refl _ _ s))
  refine ⟨?_, fun h => ?_, only_ite (fun _ => honly) (fun _ => only_evt (by simp) (by simp [F.FUS_EVT_PARITY]) (by decide) honly)⟩
  · split_ifs
    · exact hb
    · exact (evt_fus ..).trans hb
  · rw [if_neg (by rw [hl, badRows_of h]; decide)]
    exact on_evt_self _ (by decide)

/-- The fuses loaded, before the step ends. -/
def fusesLoaded (s : State) (pmb : Bool) (bad : List Nat) : State :=
  let s := ((s.put F.PWR_STAT_PADS_LATCHED 0).senseRows.markParity bad).loadHuk.pmbBoot pmb
  s.put F.BST_MB_STAT_FUSED_USED s.fusedRepairs.length

theorem exec_fuseLoad (pmb : Bool) (bad : List Nat) (h : s.bootRuns 4 = true) : exec (.fuseLoad pmb bad) s = .next (
    if (fusesLoaded s.begin pmb bad).lc = 0 then ((fusesLoaded s.begin pmb bad).endEntry 2 0 0).enterRecovery
    else if (fusesLoaded s.begin pmb bad).lc = 4 then ((fusesLoaded s.begin pmb bad).endEntry 2 0 0).bootStop
    else (fusesLoaded s.begin pmb bad).stepDone 0) :=
  congrArg Host.Outcome.next (if_pos (show s.begin.bootRuns 4 = true from h))

/-- What the transfer to the PMIC leaves: its address, or its fault. -/
theorem pmbBoot_leaves (s : State) (pmb : Bool) :
    (s.rst.cold = true ∨ s.rst.deepExit = true → (pmb = true → (s.pmbBoot pmb).pwr.lyState = 0) ∧ (pmb = false → (s.pmbBoot pmb).on F.PWR_EVT_PMB_ERR = true))
      ∧ (∀ x, lampField x = true → clear [F.PWR_EVT_PMB_ERR, F.PWR_PMB_STAT_ERR_CNT, F.UNIT_IRQ_STAT_EVT 0x03] x = true → (s.pmbBoot pmb).g x = s.g x)
      ∧ s.Fits (Foot.of [0x00, 0x03, 0x40, 0x50, 0x68, 0x70, 0x71] [.flt, .evr, .saf, .lanes, .pwr]) (s.pmbBoot pmb) := by
  have hfail : s.pmbFail.on F.PWR_EVT_PMB_ERR = true := (on_congr (raise_lamp _ _ _ (by decide))).trans ((on_incSat_sep _ (by decide)).trans (on_evt_self _ (by decide)))
  have hkeep : ∀ x, lampField x = true → clear [F.PWR_EVT_PMB_ERR, F.PWR_PMB_STAT_ERR_CNT, F.UNIT_IRQ_STAT_EVT 0x03] x = true → s.pmbFail.g x = s.g x := fun x hl hc => by
    have honly : s.Only [F.PWR_EVT_PMB_ERR, F.PWR_PMB_STAT_ERR_CNT, F.UNIT_IRQ_STAT_EVT 0x03] [] ((s.evt F.PWR_EVT_PMB_ERR).incSat F.PWR_PMB_STAT_ERR_CNT) :=
      only_incSat (by simp) (by decide) (only_evt (by simp) (by simp [F.PWR_EVT_PMB_ERR]) (by decide) (only_refl _ _ s))
    exact (raise_lamp _ _ _ hl).trans (only_g honly hc)
  refine ⟨fun hc => ⟨fun hp => ?_, fun hp => ?_⟩, fun x hl hx => ?_, pmbBoot_fits s pmb (le_self _) (fits_refl _ s)⟩
  · unfold State.pmbBoot
    rw [if_pos (by simpa using hc), if_pos hp]
    rfl
  · unfold State.pmbBoot
    rw [if_pos (by simpa using hc), if_neg (by rw [hp]; decide)]
    exact hfail
  · unfold State.pmbBoot
    exact ite_g (fun _ => ite_g (fun _ => rfl) (fun _ => hkeep x hl hx)) (fun _ => rfl)

/-- What the load of the fuses leaves. -/
structure FusesLoaded (s t : State) (pmb : Bool) (bad : List Nat) : Prop where
  fus : t.fus = { s.fus with parity := badRows bad }
  vault : t.sec.vault = s.sec.vault.set 0 (if (s.lc = 1 ∨ s.lc = 2) ∧ 7 ∉ bad then s.fuse 7 else 0)
  parity : (∃ r, r ∈ bad ∧ r ≠ 0 ∧ r ≤ 17) → t.on F.FUS_EVT_PARITY = true
  pmic : s.rst.cold = true ∨ s.rst.deepExit = true → (pmb = true → t.pwr.lyState = 0) ∧ (pmb = false → t.on F.PWR_EVT_PMB_ERR = true)
  pads : t.g F.PWR_STAT_PADS_LATCHED = 0
  used : t.g F.BST_MB_STAT_FUSED_USED = s.fusedRepairs.length
  mem : t.mem = s.mem
  rst : t.rst = s.rst
  upd : t.upd = s.upd
  step : t.g F.RST_BOOT_STAT_STEP = s.g F.RST_BOOT_STAT_STEP
  phase : t.g F.RST_BOOT_STAT_PHASE = s.g F.RST_BOOT_STAT_PHASE
  lc : t.lc = s.lc

theorem fusedRepairs_congr (h : t.fus.rows = s.fus.rows) : t.fusedRepairs = s.fusedRepairs := by
  have hf : t.fuse = s.fuse := funext fun r => by rw [State.fuse, State.fuse, h]
  rw [State.fusedRepairs, State.fusedRepairs, hf]

theorem fusedRepairs_length (s : State) : s.fusedRepairs.length < 256 :=
  lt_of_le_of_lt (List.length_filter_le _ _) (by rw [List.length_map, List.length_range]; decide)

theorem loadHuk_vault (s : State) : s.loadHuk.sec.vault = s.sec.vault.set 0 (if (s.lc = 1 || s.lc = 2) && !s.fus.parity.contains 7 then s.fuse 7 else 0) := rfl

theorem loadHuk_only (s : State) : s.Only [] [.sec] s.loadHuk := only_withSec (by simp) (only_refl _ _ s)

/-- The fields that show what the load of the fuses did before the transfer to the PMIC. -/
def loadFields : List Fld := F.PWR_STAT_PADS_LATCHED :: (senseFields ++ [F.FUS_STAT_PAR_ROWS, F.FUS_EVT_PARITY, F.UNIT_IRQ_STAT_EVT 0x7A])

/-- The fuses shown and marked, and the key in the vault. -/
theorem keysLoaded (s : State) (bad : List Nat) : ∃ d, ((s.put F.PWR_STAT_PADS_LATCHED 0).senseRows.markParity bad).loadHuk = d ∧ d.fus = { s.fus with parity := badRows bad }
    ∧ d.sec.vault = s.sec.vault.set 0 (if (s.lc = 1 ∨ s.lc = 2) ∧ 7 ∉ bad then s.fuse 7 else 0) ∧ ((∃ r, r ∈ bad ∧ r ≠ 0 ∧ r ≤ 17) → d.on F.FUS_EVT_PARITY = true)
    ∧ d.g F.PWR_STAT_PADS_LATCHED = 0 ∧ s.Only loadFields [.fus, .sec] d := by
  have h0 : (s.put F.PWR_STAT_PADS_LATCHED 0).g F.PWR_STAT_PADS_LATCHED = 0 := g_put_self (by decide) (by decide) (by decide)
  have honly0 : s.Only loadFields [.fus, .sec] (s.put F.PWR_STAT_PADS_LATCHED 0) := only_put _ (by simp [loadFields]) (by decide) (only_refl _ _ s)
  have hfus0 : (s.put F.PWR_STAT_PADS_LATCHED 0).fus = s.fus := put_fus ..
  have hsec0 : (s.put F.PWR_STAT_PADS_LATCHED 0).sec = s.sec := put_sec ..
  generalize s.put F.PWR_STAT_PADS_LATCHED 0 = a at *
  have hsense := senseRows_only a
  generalize a.senseRows = b at *
  have hfus : b.fus = s.fus := (hsense.parts.fus (by simp [Foot.of])).trans hfus0
  obtain ⟨m1, m2, m3⟩ := markParity_leaves b bad
  generalize b.markParity bad = c at *
  have honly : s.Only loadFields [.fus, .sec] c := only_trans honly0 (only_trans (only_mono (fun x hx => by simp [loadFields, hx]) (by simp) hsense)
    (only_mono (fun x hx => List.mem_cons_of_mem _ (List.mem_append_right _ hx)) (by simp) m3))
  have hlc : c.lc = s.lc := only_g honly (by decide)
  have hsec : c.sec = s.sec := by
    rw [m3.parts.sec (by simp [Foot.of]), hsense.parts.sec (by simp [Foot.of]), hsec0]
  refine ⟨c.loadHuk, rfl, ?_, ?_, fun h => (only_on (loadHuk_only c) rfl).trans (m2 h), ?_, only_trans honly (only_mono (by simp) (by simp) (loadHuk_only c))⟩
  · rw [(loadHuk_only c).parts.fus (by simp [Foot.of]), m1, hfus]
  · rw [loadHuk_vault, hlc, hsec, State.fuse, m1, badRows_seven, hfus, ← State.fuse]
    refine congrArg _ (if_congr ?_ rfl rfl)
    simp
  · rw [only_g (loadHuk_only c) rfl, only_g m3 (by decide), only_g hsense (by decide), h0]

theorem fusesLoaded_leaves (s : State) (pmb : Bool) (bad : List Nat) : FusesLoaded s (fusesLoaded s pmb bad) pmb bad := by
  obtain ⟨d, hd, d1, d2, d3, d4, d5⟩ := keysLoaded s bad
  unfold fusesLoaded
  rw [hd]
  dsimp only
  obtain ⟨e1, e2, e3⟩ := pmbBoot_leaves d pmb
  generalize d.pmbBoot pmb = e at *
  have hw := e3.within
  have hrst : d.rst = s.rst := d5.parts.rst (by simp [Foot.of])
  have hfus : e.fus = d.fus := within_fus hw rfl rfl
  have hrep : e.fusedRepairs = s.fusedRepairs := fusedRepairs_congr (by rw [hfus, d1])
  rw [hrep]
  obtain ⟨k, hlen⟩ : ∃ k, k = s.fusedRepairs.length := ⟨_, rfl⟩
  have hlt : k < 256 := hlen ▸ fusedRepairs_length s
  rw [← hlen]
  have hput : e.Only [F.BST_MB_STAT_FUSED_USED] [] (e.put F.BST_MB_STAT_FUSED_USED k) := only_put _ (by simp) (by decide) (only_refl _ _ e)
  have hk : (e.put F.BST_MB_STAT_FUSED_USED k).g F.BST_MB_STAT_FUSED_USED = k := g_put_self (by decide) (by decide) hlt
  have hsame : ∀ x, lampField x = true → clear [F.PWR_EVT_PMB_ERR, F.PWR_PMB_STAT_ERR_CNT, F.UNIT_IRQ_STAT_EVT 0x03] x = true → clear [F.BST_MB_STAT_FUSED_USED] x = true →
      (e.put F.BST_MB_STAT_FUSED_USED k).g x = d.g x := fun x h1 h2 h3 => (only_g hput h3).trans (e2 x h1 h2)
  generalize e.put F.BST_MB_STAT_FUSED_USED k = t at *
  exact {
    fus := (hput.parts.fus (by simp [Foot.of])).trans (hfus.trans d1)
    vault := (congrArg Sec.vault ((hput.parts.sec (by simp [Foot.of])).trans (within_sec hw rfl rfl))).trans d2
    parity := fun h => (on_congr (hsame _ (by decide) (by decide) (by decide))).trans (d3 h)
    pmic := fun h => ⟨fun hp => (congrArg Pwr.lyState (hput.parts.pwr (by simp [Foot.of]))).trans ((e1 (by rwa [hrst])).1 hp),
      fun hp => (only_on hput (by decide)).trans ((e1 (by rwa [hrst])).2 hp)⟩
    pads := (hsame _ (by decide) (by decide) (by decide)).trans d4
    used := hk.trans hlen
    mem := (hput.parts.mem (by simp [Foot.of])).trans ((within_mem hw rfl rfl).trans (d5.parts.mem (by simp [Foot.of])))
    rst := (hput.parts.rst (by simp [Foot.of])).trans ((within_rst hw rfl rfl).trans hrst)
    upd := (hput.parts.upd (by simp [Foot.of])).trans ((within_upd hw rfl rfl).trans (d5.parts.upd (by simp [Foot.of])))
    step := (hsame _ (by decide) (by decide) (by decide)).trans (only_g d5 (by decide))
    phase := (hsame _ (by decide) (by decide) (by decide)).trans (only_g d5 (by decide))
    lc := (hsame F.SEC_LC_STATE (by decide) (by decide) (by decide)).trans (only_g d5 (by decide)) }

/-- The boot stops, with no trial under way. -/
theorem bootStop_leaves (s : State) (h : s.upd.trial = none) : s.bootStop.g F.RST_BOOT_STAT_PHASE = 2 ∧ s.bootStop.cmd.served = true := by
  have hb := bistRaise_fits' s
  unfold State.bootStop
  generalize s.bistRaise = a at *
  have h1 : (a.put F.RST_BOOT_STAT_PHASE 2).g F.RST_BOOT_STAT_PHASE = 2 := g_put_self (by decide) (by decide) (by decide)
  have hu1 : (a.put F.RST_BOOT_STAT_PHASE 2).upd = s.upd := (put_upd ..).trans (within_upd hb.within rfl rfl)
  dsimp only
  generalize a.put F.RST_BOOT_STAT_PHASE 2 = b at *
  obtain ⟨-, ht⟩ := setTries_leaves b (k := 0) (by decide)
  generalize b.setTries 0 = c at *
  have ho := outcome_only c 2
  generalize c.outcome 2 = d at *
  have hs : d.Fits (Foot.of [0x50, 0x68] [.saf, .lanes]) (d.put F.SAF_FIELD_REQ 0).soutsOff := soutsOff_fits _ (le_self _) (put_fits _ rfl (fits_refl _ d))
  generalize (d.put F.SAF_FIELD_REQ 0).soutsOff = e at *
  have hu : e.upd = s.upd := (within_upd hs.within rfl rfl).trans ((ho.parts.upd (by simp [Foot.of])).trans ((ht.parts.upd (by simp [Foot.of])).trans hu1))
  have hg : e.g F.RST_BOOT_STAT_PHASE = 2 := (fits_g hs rfl rfl).trans ((only_g ho rfl).trans ((only_g ht (by decide)).trans h1))
  have hno : ¬ (e.withCmd { e.cmd with served := true }).upd.trial.isSome = true := by
    rw [withCmd_upd, hu, h]
    decide
  rw [if_neg hno]
  exact ⟨(withCmd_g ..).trans hg, rfl⟩

/-- MBIST follows in a cold boot, unless it is avoided. -/
theorem stepAt_five (s : State) : stepAt s 5 = if s.rst.cold = true ∧ tbit s.avoidBits 5 = false then 5 else 6 := by
  unfold stepAt
  cases hc : s.rst.cold <;> cases ha : tbit s.avoidBits 5 <;> simp [stepOptional]

theorem fuseLoad_leaves (pmb : Bool) (bad : List Nat) (h : s.bootRuns 4 = true) (h0 : s.lc ≠ 0) (h4 : s.lc ≠ 4) :
    ∃ t, exec (.fuseLoad pmb bad) s = .next t ∧ t.fus = { s.fus with parity := (List.range 29).filter (parityRows bad).contains }
        ∧ t.sec.vault = s.sec.vault.set 0 (if (s.lc = 1 ∨ s.lc = 2) ∧ 7 ∉ bad then s.fuse 7 else 0)
        ∧ ((∃ r, r ∈ bad ∧ r ≠ 0 ∧ r ≤ 17) → t.on F.FUS_EVT_PARITY = true)
        ∧ (s.rst.cold = true ∨ s.rst.deepExit = true → (pmb = true → t.pwr.lyState = 0) ∧ (pmb = false → t.on F.PWR_EVT_PMB_ERR = true))
        ∧ t.g F.PWR_STAT_PADS_LATCHED = 0 ∧ t.g F.BST_MB_STAT_FUSED_USED = s.fusedRepairs.length
        ∧ t.g F.RST_BOOT_STAT_STEP = (if s.rst.cold = true ∧ tbit s.avoidBits 5 = false then 5 else 6) ∧ t.g F.RST_BOOT_STAT_PHASE = 0 := by
  obtain ⟨hstep, hphase⟩ := step_of_runs h
  have k := fusesLoaded_leaves s.begin pmb bad
  have hrun := exec_fuseLoad pmb bad h
  generalize fusesLoaded s.begin pmb bad = w at *
  have hlc : w.lc = s.lc := k.lc.trans (begin_g ..)
  rw [hlc, if_neg h0, if_neg h4] at hrun
  have d := stepDone_started w 0 (k.step.trans ((begin_g ..).trans hstep)) (by decide)
  have hat : stepAt w 5 = stepAt s.begin 5 := by
    rw [stepAt, stepAt, k.rst, avoidBits_congr (s := s.begin) (fun a _ => by rw [State.byte, k.mem, ← State.byte]) (by rw [k.rst]) (by rw [k.rst])]
  have hw := d.fits.within
  refine ⟨_, hrun, (within_fus hw rfl rfl).trans k.fus, (congrArg Sec.vault (within_sec hw rfl rfl)).trans k.vault, fun hp => (on_congr (d.field _ (by decide) (by decide))).trans (k.parity hp),
    fun hc => ⟨fun hp => (congrArg Pwr.lyState (within_pwr hw rfl rfl)).trans ((k.pmic hc).1 hp), fun hp => (on_congr (d.field _ (by decide) (by decide))).trans ((k.pmic hc).2 hp)⟩,
    (d.field _ (by decide) (by decide)).trans k.pads, (d.field _ (by decide) (by decide)).trans k.used, ?_, (d.field _ (by decide) (by decide)).trans (k.phase.trans ((begin_g ..).trans hphase))⟩
  rw [d.step, hat, stepAt_five]
  rfl

theorem fuseLoad_stops (pmb : Bool) (bad : List Nat) (h : s.bootRuns 4 = true) :
    (s.lc = 0 → ∃ t, exec (.fuseLoad pmb bad) s = .next t ∧ t.g F.RST_BOOT_STAT_PHASE = 3 ∧ t.on F.UPD_STAT_RECOVERY = true)
    ∧ (s.lc = 4 → s.upd.trial = none → ∃ t, exec (.fuseLoad pmb bad) s = .next t ∧ t.g F.RST_BOOT_STAT_PHASE = 2 ∧ t.cmd.served = true) := by
  have k := fusesLoaded_leaves s.begin pmb bad
  have hrun := exec_fuseLoad pmb bad h
  generalize fusesLoaded s.begin pmb bad = w at *
  have hlc : w.lc = s.lc := k.lc.trans (begin_g ..)
  rw [hlc] at hrun
  refine ⟨fun h0 => ?_, fun h4 ht => ?_⟩
  · rw [if_pos h0] at hrun
    obtain ⟨k1, k2, -⟩ := enterRecovery_leaves (w.endEntry 2 0 0)
    exact ⟨_, hrun, k1, k2⟩
  · rw [if_neg (by rw [h4]; decide), if_pos h4] at hrun
    have hend : (w.endEntry 2 0 0).upd = s.upd := ((endEntry_only w 2 0 0).parts.upd (by simp [Foot.of])).trans k.upd
    obtain ⟨k1, k2⟩ := bootStop_leaves (w.endEntry 2 0 0) (by rw [hend]; exact ht)
    exact ⟨_, hrun, k1, k2⟩

/-! ### MBIST -/

theorem exec_mbist (fails : List Nat) (h : s.bootRuns 5 = true) : exec (.mbist fails) s = .next (
    if (s.begin.memResult fails).g F.BST_MB_STAT_RESULT = 4 then ((s.begin.memResult fails).raise S.BST_FAIL 0).stepFails ((s.begin.memResult fails).g F.BST_MB_STAT_FAIL_ARR)
    else (s.begin.memResult fails).stepDone 0) :=
  congrArg Host.Outcome.next (if_pos (show s.begin.bootRuns 5 = true from h))

/-- The result of the test: a failure with its event, or the repairs in use. -/
theorem memResult_leaves (s : State) (fails : List Nat) :
    (s.memResult fails).g F.BST_MB_STAT_RESULT ∈ [2, 3, 4] ∧ ((s.memResult fails).g F.BST_MB_STAT_RESULT = 4 → (s.memResult fails).on F.BST_EVT_MB_FAIL = true)
      ∧ (fails = [] → (s.memResult fails).g F.BST_MB_STAT_RESULT = if s.softRepairs.isEmpty then 2 else 3) ∧ s.Fits (Foot.of [0x79] [.fresh]) (s.memResult fails) := by
  have hval : ∀ u : State, ∀ v, v < 8 → (u.put F.BST_MB_STAT_RESULT v).g F.BST_MB_STAT_RESULT = v := fun u v hv => g_put_self (by decide) (by decide) hv
  have hgood : ∀ u : State, (u.put F.BST_MB_STAT_RESULT (if u.softRepairs.isEmpty then 2 else 3)).g F.BST_MB_STAT_RESULT = if u.softRepairs.isEmpty then 2 else 3 := fun u =>
    hval u _ (by split_ifs <;> decide)
  refine ⟨?_, ?_, fun hf => ?_, memResult_fits s fails (le_self _) (fits_refl _ s)⟩
  · unfold State.memResult
    obtain ⟨bad, u⟩ := s.repairAll fails
    cases bad with
    | nil =>
      show (u.put F.BST_MB_STAT_RESULT (if u.softRepairs.isEmpty then 2 else 3)).g F.BST_MB_STAT_RESULT ∈ [2, 3, 4]
      rw [hgood u]
      split_ifs <;> simp
    | cons a l =>
      show (((u.put F.BST_MB_STAT_RESULT 4).put F.BST_MB_STAT_FAIL_ARR a).evt F.BST_EVT_MB_FAIL).g F.BST_MB_STAT_RESULT ∈ [2, 3, 4]
      rw [g_evt_sep _ (by decide) (by decide), g_put_sep _ _ (by decide), hval u 4 (by decide)]
      simp
  · unfold State.memResult
    obtain ⟨bad, u⟩ := s.repairAll fails
    cases bad with
    | nil =>
      intro h
      have h' := (hgood u).symm.trans h
      split_ifs at h' <;> simp at h'
    | cons a l => exact fun _ => on_evt_self _ (by decide)
  · rw [hf]
    exact hgood s

theorem mbist_leaves (fails : List Nat) (h : s.bootRuns 5 = true) :
    ∃ t, exec (.mbist fails) s = .next t ∧ t.g F.RST_BOOT_STAT_STEP = 6 ∧ t.g F.BST_MB_STAT_RESULT ∈ [2, 3, 4]
      ∧ (fails = [] → t.g F.BST_MB_STAT_RESULT = if s.softRepairs.isEmpty then 2 else 3)
      ∧ (t.g F.BST_MB_STAT_RESULT = 4 → t.on F.BST_EVT_MB_FAIL = true ∧ (s.defLevel S.BST_FAIL ≠ 0 → t.on (fltPend S.BST_FAIL) = true)) := by
  obtain ⟨hstep, -⟩ := step_of_runs h
  obtain ⟨m1, m2, m3, m4⟩ := memResult_leaves s.begin fails
  have hrun := exec_mbist fails h
  generalize s.begin.memResult fails = w at *
  have hw : w.g F.RST_BOOT_STAT_STEP = 5 := (fits_g m4 rfl rfl).trans ((begin_g ..).trans hstep)
  have hdef : w.defLevel S.BST_FAIL = s.defLevel S.BST_FAIL := (fits_defLevel m4 rfl (by decide) _).trans rfl
  by_cases h4 : w.g F.BST_MB_STAT_RESULT = 4
  · rw [if_pos h4] at hrun
    have hraise : (w.raise S.BST_FAIL 0).g F.RST_BOOT_STAT_STEP = 5 := (raise_lamp _ _ _ (by decide)).trans hw
    have hpend := raise_pend w (i := S.BST_FAIL) 0 (by decide)
    have hlamp := fun x hx => raise_lamp w S.BST_FAIL 0 (f := x) hx
    rw [stepFails_optional _ _ hraise (by decide)] at hrun
    generalize w.raise S.BST_FAIL 0 = v at *
    obtain ⟨f1, -⟩ := stepFailed_leaves v (w.g F.BST_MB_STAT_FAIL_ARR) hraise (by decide)
    generalize v.stepFailed (w.g F.BST_MB_STAT_FAIL_ARR) = z at *
    have k := startStep_started z (c := 6) (by decide)
    have hres : (z.startStep 6).g F.BST_MB_STAT_RESULT = w.g F.BST_MB_STAT_RESULT :=
      (k.field _ (by decide) (by decide)).trans ((f1.field _ (by decide) (by decide)).trans (hlamp _ (by decide)))
    refine ⟨_, hrun, k.step.trans (by rw [stepAt]; simp [stepOptional]), by rw [hres]; exact m1, fun hf => hres.trans (m3 hf), fun _ => ⟨?_, fun hd => ?_⟩⟩
    · exact (on_congr (k.field _ (by decide) (by decide))).trans ((on_congr (f1.field _ (by decide) (by decide))).trans ((on_congr (hlamp _ (by decide))).trans (m2 h4)))
    · exact k.pend _ (by decide) (f1.pend _ (by decide) (hpend (by rwa [hdef])))
  · rw [if_neg h4] at hrun
    have k := stepDone_started w 0 hw (by decide)
    have hres : (w.stepDone 0).g F.BST_MB_STAT_RESULT = w.g F.BST_MB_STAT_RESULT := k.field _ (by decide) (by decide)
    exact ⟨_, hrun, k.step.trans (by rw [stepAt]; simp [stepOptional]), by rw [hres]; exact m1, fun hf => hres.trans (m3 hf), fun hr => absurd (hres.symm.trans hr) h4⟩


/-! ### JOURNAL: what each of its parts carries on -/

/-- A byte of the header's numbers. -/
def inHeader (a : Nat) : Prop := (journalBase ≤ a ∧ a < journalBase + 8) ∨ a = journalBase + 0xC

/-- A byte that the work on the journal keeps until the record is opened: of the header's numbers, or of an epoch copy. -/
def anchored (a : Nat) : Prop :=
  inHeader a ∨ (epochCopy 0 ≤ a ∧ a < epochCopy 0 + 12) ∨ (epochCopy 1 ≤ a ∧ a < epochCopy 1 + 12)

/-- What the work on the journal carries on: bytes that are named, and the registers of RST but for those named. -/
structure Carried (P : Nat → Prop) (fs : List Fld) (s t : State) : Prop where
  field : ∀ x, x.page = 0x02 → clear fs x = true → t.g x = s.g x
  flash : t.on F.THM_STAT_FLASH_OK = s.on F.THM_STAT_FLASH_OK
  cold : t.rst.cold = s.rst.cold
  deep : t.rst.deepExit = s.rst.deepExit
  strap : t.rst.recoveryStrap = s.rst.recoveryStrap
  opened : t.rst.journalOpen = s.rst.journalOpen
  byte : ∀ a, P a → t.byte a = s.byte a

theorem Carried.trans {P : Nat → Prop} {fs : List Fld} (h : Carried P fs s t) (k : Carried P fs t u) : Carried P fs s u :=
  ⟨fun x hp hc => (k.field x hp hc).trans (h.field x hp hc), k.flash.trans h.flash, k.cold.trans h.cold, k.deep.trans h.deep, k.strap.trans h.strap, k.opened.trans h.opened,
    fun a ha => (k.byte a ha).trans (h.byte a ha)⟩

theorem carried_refl (P : Nat → Prop) (fs : List Fld) (s : State) : Carried P fs s s := ⟨fun _ _ _ => rfl, rfl, rfl, rfl, rfl, rfl, fun _ _ => rfl⟩

theorem Carried.mono {P : Nat → Prop} {fs gs : List Fld} (h : Carried P fs s t) (hs : fs ⊆ gs) : Carried P gs s t :=
  ⟨fun x hp hc => h.field x hp (List.all_eq_true.2 fun y hy => List.all_eq_true.1 hc y (hs hy)), h.flash, h.cold, h.deep, h.strap, h.opened, h.byte⟩

theorem Carried.header {fs : List Fld} (h : Carried anchored fs s t) : Carried inHeader fs s t :=
  ⟨h.field, h.flash, h.cold, h.deep, h.strap, h.opened, fun a ha => h.byte a (.inl ha)⟩

/-- A write among the header's other bytes, or among the records. -/
theorem jput_carried (s : State) {o n : Nat} (v : Nat) (h : (8 ≤ o ∧ o + n ≤ 12) ∨ (13 ≤ o ∧ o + n ≤ 1120)) : Carried anchored [] s (s.jput o n v) := by
  have ho := jput_only s o n v
  have hrst : (s.jput o n v).rst = s.rst := ho.parts.rst (by simp [Foot.of])
  refine ⟨fun x _ _ => only_g ho rfl, only_on ho rfl, by rw [hrst], by rw [hrst], by rw [hrst], by rw [hrst], fun a ha => setBytes_outside s _ ?_⟩
  rw [RecorderRuns.leBytes_length]
  unfold anchored inHeader journalBase epochCopy at *
  omega

theorem journalFlash_carried (s : State) : Carried anchored [] s s.journalFlash := by
  have ho := journalFlash_only s
  by_cases hf : s.on F.THM_STAT_FLASH_OK = true
  · obtain ⟨-, -, hr, hb, -⟩ := journalFlash_copy s hf
    refine ⟨fun x _ _ => only_g ho rfl, only_on ho rfl, by rw [hr], by rw [hr], by rw [hr], by rw [hr], fun a ha => hb a ?_⟩
    unfold anchored inHeader journalBase epochCopy at ha
    unfold journalCopy
    omega
  · rw [journalFlash_shut (by simpa using hf)]
    exact ⟨fun x _ _ => only_g (defer_only s _) rfl, only_on (defer_only s _) rfl, rfl, rfl, rfl, rfl, fun a _ => rfl⟩

theorem setAvoid_carried (s : State) (c : Nat) : Carried anchored [F.RST_BJ_AVOID_AVOID] s (s.setAvoid c) := by
  unfold State.setAvoid
  split_ifs with h
  · dsimp only
    have k : Carried anchored [] s (s.jput 8 4 (s.jget 8 4 ||| 2 ^ c)).jseal := (jput_carried s _ (by decide)).trans (jput_carried _ _ (by decide))
    generalize (s.jput 8 4 (s.jget 8 4 ||| 2 ^ c)).jseal = w at *
    have hput : w.Only [F.RST_BJ_AVOID_AVOID] [] (w.put F.RST_BJ_AVOID_AVOID (s.jget 8 4 ||| 2 ^ c)) := only_put _ (by simp) (by decide) (only_refl _ _ w)
    have hmem : (w.put F.RST_BJ_AVOID_AVOID (s.jget 8 4 ||| 2 ^ c)).mem = w.mem := put_mem ..
    have hrst : (w.put F.RST_BJ_AVOID_AVOID (s.jget 8 4 ||| 2 ^ c)).rst = w.rst := put_rst ..
    generalize w.put F.RST_BJ_AVOID_AVOID (s.jget 8 4 ||| 2 ^ c) = z at *
    exact (k.mono (by simp)).trans ⟨fun x _ hx => only_g hput hx, only_on hput (by decide), by rw [hrst], by rw [hrst], by rw [hrst], by rw [hrst],
      fun a _ => by rw [State.byte, hmem, ← State.byte]⟩
  · exact ⟨fun x _ _ => rfl, rfl, rfl, rfl, rfl, rfl, fun a _ => rfl⟩

theorem closeRecord_carried (s : State) : Carried anchored [F.RST_BJ_AVOID_AVOID] s s.closeRecord := by
  have hfold : ∀ l : List Nat, ∀ u, Carried anchored [F.RST_BJ_AVOID_AVOID] s u → Carried anchored [F.RST_BJ_AVOID_AVOID] s (l.foldl (fun s c => s.setAvoid c) u) := by
    intro l
    induction l with
    | nil => exact fun u h => h
    | cons c l ih => exact fun u h => ih _ (h.trans (setAvoid_carried u c))
  have k := hfold s.unfinished s (carried_refl _ _ s)
  unfold State.closeRecord
  dsimp only
  generalize s.unfinished.foldl (fun s c => s.setAvoid c) s = w at *
  split_ifs
  · refine k.trans (Carried.mono ((jput_carried w _ ?_).trans (journalFlash_carried _)) (by simp))
    have := jrec_le w
    omega
  · exact k

/-- The header's numbers read as before. -/
theorem Carried.jget {fs : List Fld} (h : Carried inHeader fs s t) {o n : Nat} (ho : o + n ≤ 8 ∨ (o = 0xC ∧ n = 1)) : t.jget o n = s.jget o n := by
  refine le_congr fun i hi => h.byte _ ?_
  unfold inHeader
  omega

theorem Carried.epochStored {fs : List Fld} (h : Carried anchored fs s t) : t.epochStored = s.epochStored := by
  have h0 : t.epochAt 0 = s.epochAt 0 := epochAt_congr 0 (fun k hk => h.byte _ (by unfold anchored inHeader; omega))
  have h1 : t.epochAt 1 = s.epochAt 1 := epochAt_congr 1 (fun k hk => h.byte _ (by unfold anchored inHeader; omega))
  rw [State.epochStored, State.epochStored, h0, h1]

/-! ### JOURNAL: a cold boot, and the exit from DEEP -/

/-- The fields of the epoch. -/
def epochFields : List Fld := [F.RST_EPOCH_EPOCH, F.RST_EPOCH_STAT_SAVED]

/-- A register's page and the parts it does not belong to, as a step of another unit leaves them. -/
theorem carried_of_fits {P : Nat → Prop} {g : Foot} {fs : List Fld} (h : s.Fits g t) (ha : g.any = false) (h2 : g.units.contains 0x02 = false) (ht : g.units.contains (groupPage 0x04) = false)
    (hm : g.parts.contains .mem = false) (hr : g.parts.contains .rst = false) : Carried P fs s t := by
  have hrst : t.rst = s.rst := within_rst h.within ha hr
  have hmem : t.mem = s.mem := within_mem h.within ha hm
  exact ⟨fun x hp _ => fits_g h ha (by rw [hp]; exact h2), on_congr (fits_g h ha ht), by rw [hrst], by rw [hrst], by rw [hrst], by rw [hrst], fun a _ => by rw [State.byte, hmem, ← State.byte]⟩

theorem journalDeep_carried (P : Nat → Prop) (s : State) : Carried P [] s s.journalDeep := carried_of_fits (journalDeep_fits s (le_self _) (fits_refl _ s)) rfl rfl rfl rfl rfl


theorem epochAt_lt {i : Nat} {e : Nat × Nat} (h : s.epochAt i = some e) : e.2 < 2 ^ 32 := by
  unfold State.epochAt at h
  dsimp only at h
  split_ifs at h
  obtain rfl := Option.some.inj h
  have hlen : (slice (s.bytes (epochCopy i) 8) 4 4).length = 4 := by rw [slice, List.length_map, List.length_range]
  have hlt := RegisterAgents.ofLe_lt (slice (s.bytes (epochCopy i) 8) 4 4)
  rwa [hlen] at hlt

theorem epochStored_lt (s : State) : s.epochStored.2 < 2 ^ 32 := by
  unfold State.epochStored
  cases h0 : s.epochAt 0 with
  | none =>
    cases h1 : s.epochAt 1 with
    | none => exact (by decide : 0 < 2 ^ 32)
    | some b => exact epochAt_lt h1
  | some a =>
    cases h1 : s.epochAt 1 with
    | none => exact epochAt_lt h0
    | some b =>
      show (if a.1 < b.1 then b else a).2 < 2 ^ 32
      split_ifs
      · exact epochAt_lt h1
      · exact epochAt_lt h0

/-- The epoch that follows. -/
def epochNext (e : Nat) : Nat := if e = 0xFFFFFFFF then 1 else e + 1

theorem saveEpoch_carried (s : State) : Carried inHeader epochFields s s.saveEpoch ∧ s.saveEpoch.g F.RST_EPOCH_EPOCH = s.g F.RST_EPOCH_EPOCH
    ∧ (s.on F.THM_STAT_FLASH_OK = true → s.saveEpoch.on F.RST_EPOCH_STAT_SAVED = true) := by
  by_cases hf : s.on F.THM_STAT_FLASH_OK = true
  · have hrun : s.saveEpoch = (s.setBytes (epochCopy s.epochOlder) (epochBytes s ++ leBytes 4 (crc32 (epochBytes s)))).put F.RST_EPOCH_STAT_SAVED 1 := (if_pos hf).trans rfl
    rw [hrun]
    have hb := fun a => setBytes_outside (a := epochCopy s.epochOlder) (b := a) s (epochBytes s ++ leBytes 4 (crc32 (epochBytes s)))
    have ho := setBytes_only s (epochCopy s.epochOlder) (epochBytes s ++ leBytes 4 (crc32 (epochBytes s)))
    generalize epochBytes s ++ leBytes 4 (crc32 (epochBytes s)) = l at *
    generalize s.setBytes (epochCopy s.epochOlder) l = w at *
    have hput : w.Only epochFields [] (w.put F.RST_EPOCH_STAT_SAVED 1) := only_put _ (by simp [epochFields]) (by decide) (only_refl _ _ w)
    have hone : w.Only [F.RST_EPOCH_STAT_SAVED] [] (w.put F.RST_EPOCH_STAT_SAVED 1) := only_put _ (by simp) (by decide) (only_refl _ _ w)
    have hset : (w.put F.RST_EPOCH_STAT_SAVED 1).on F.RST_EPOCH_STAT_SAVED = true := on_put_set _ (by decide)
    have hmem : (w.put F.RST_EPOCH_STAT_SAVED 1).mem = w.mem := put_mem ..
    have hrst : (w.put F.RST_EPOCH_STAT_SAVED 1).rst = s.rst := (put_rst ..).trans (ho.parts.rst (by simp [Foot.of]))
    generalize w.put F.RST_EPOCH_STAT_SAVED 1 = z at *
    refine ⟨⟨fun x _ hx => (only_g hput hx).trans (only_g ho rfl), (only_on hput (by decide)).trans (only_on ho rfl), by rw [hrst], by rw [hrst], by rw [hrst], by rw [hrst],
      fun a ha => ?_⟩, (only_g hone (by decide)).trans (only_g ho rfl), fun _ => hset⟩
    rw [State.byte, hmem, ← State.byte]
    refine hb a (.inl ?_)
    unfold inHeader journalBase at ha
    unfold epochCopy
    omega
  · have hrun : s.saveEpoch = s.defer .epoch := if_neg hf
    rw [hrun]
    exact ⟨⟨fun x _ _ => only_g (defer_only s _) rfl, only_on (defer_only s _) rfl, rfl, rfl, rfl, rfl, fun a _ => rfl⟩, only_g (defer_only s _) rfl, fun h => absurd h hf⟩

theorem newEpoch_carried (s : State) : Carried inHeader epochFields s s.newEpoch ∧ s.newEpoch.g F.RST_EPOCH_EPOCH = epochNext s.epochStored.2
    ∧ (s.on F.THM_STAT_FLASH_OK = true → s.newEpoch.on F.RST_EPOCH_STAT_SAVED = true) := by
  have hlt : epochNext s.epochStored.2 < 2 ^ 32 := by
    have := epochStored_lt s
    unfold epochNext
    split_ifs <;> omega
  have hrun : s.newEpoch = ((s.put F.RST_EPOCH_EPOCH (epochNext s.epochStored.2)).put F.RST_EPOCH_STAT_SAVED 0).saveEpoch := rfl
  rw [hrun]
  generalize epochNext s.epochStored.2 = e at *
  have hput : s.Only epochFields [] ((s.put F.RST_EPOCH_EPOCH e).put F.RST_EPOCH_STAT_SAVED 0) :=
    only_put _ (by simp [epochFields]) (by decide) (only_put _ (by simp [epochFields]) (by decide) (only_refl _ _ s))
  have he : ((s.put F.RST_EPOCH_EPOCH e).put F.RST_EPOCH_STAT_SAVED 0).g F.RST_EPOCH_EPOCH = e := (g_put_sep _ _ (by decide)).trans (g_put_self (by decide) (by decide) hlt)
  have hmem : ((s.put F.RST_EPOCH_EPOCH e).put F.RST_EPOCH_STAT_SAVED 0).mem = s.mem := by rw [put_mem, put_mem]
  have hrst : ((s.put F.RST_EPOCH_EPOCH e).put F.RST_EPOCH_STAT_SAVED 0).rst = s.rst := by rw [put_rst, put_rst]
  generalize (s.put F.RST_EPOCH_EPOCH e).put F.RST_EPOCH_STAT_SAVED 0 = w at *
  obtain ⟨k1, k2, k3⟩ := saveEpoch_carried w
  have hw : Carried inHeader epochFields s w := ⟨fun x _ hx => only_g hput hx, only_on hput (by decide), by rw [hrst], by rw [hrst], by rw [hrst], by rw [hrst],
    fun a _ => by rw [State.byte, hmem, ← State.byte]⟩
  exact ⟨hw.trans k1, k2.trans he, fun hf => k3 (hw.flash.trans hf)⟩

/-- A cold boot takes the next epoch, and stores it where flash may be written. -/
theorem journalCold_carried (s : State) : Carried inHeader epochFields s s.journalCold ∧ s.journalCold.g F.RST_EPOCH_EPOCH = epochNext s.epochStored.2
    ∧ (s.on F.THM_STAT_FLASH_OK = true → s.journalCold.on F.RST_EPOCH_STAT_SAVED = true) := by
  unfold State.journalCold
  dsimp only
  have hring : ∀ c : Bool, s.Fits (Foot.of [0x71] []) (if c then s.evt F.EVR_EVT_RING_NEW else s) := fun c => by
    cases c with
    | true => exact evt_fits rfl (fits_refl _ s)
    | false => exact fits_refl _ s
  generalize (decide ((s.newestRecord 0x18000000 4096).1 = 0) && decide ((s.newestRecord 0x60100000 32768).1 ≠ 0)) = lost
  have hbefore := restoreTime_fits (g := Foot.of [0x71] []) _ (le_self _) (hring lost)
  generalize (if lost then s.evt F.EVR_EVT_RING_NEW else s).restoreTime = w at *
  have kw : Carried anchored [] s w := carried_of_fits hbefore rfl rfl rfl rfl rfl
  obtain ⟨e1, e2, e3⟩ := newEpoch_carried w
  rw [kw.epochStored] at e2
  generalize w.newEpoch = v at *
  have hend : v.Fits (Foot.of [0x40, 0x70, 0x71, 0x80] [.evr, .gov, .upd]) (v.dropReceiving.evrStart 1) := evrStart_fits _ _ (by decide) (dropReceiving_fits v (le_self _) (fits_refl _ v))
  generalize v.dropReceiving.evrStart 1 = z at *
  have kz : Carried inHeader [] v z := carried_of_fits hend rfl rfl rfl rfl rfl
  exact ⟨((kw.header.mono (by simp)).trans e1).trans (kz.mono (by simp)), (kz.field _ rfl rfl).trans e2, fun hf => (on_congr (kz.field _ rfl rfl)).trans (e3 (kw.flash.trans hf))⟩


/-! ### JOURNAL: the new record -/

/-- The record's place and number. -/
def recordPlace (s : State) (fresh : Bool) : Nat := if fresh then 0 else (s.jget 3 1 + 1) % 4

/-- The number of the boot that begins. -/
def bootNumber (s : State) : Nat := (s.jget 4 4 + 1) % 2 ^ 32

theorem newRecord_leaves (s : State) (fresh : Bool) :
    (s.newRecord fresh).jget 3 1 = recordPlace s fresh ∧ (s.newRecord fresh).jget 4 4 = bootNumber s ∧ (s.newRecord fresh).rst.journalOpen = s.rst.journalOpen
      ∧ (s.newRecord fresh).rst.recoveryStrap = s.rst.recoveryStrap ∧ s.Only [] [.mem, .rst] (s.newRecord fresh) := by
  have honly : s.Only [] [.mem, .rst] (s.newRecord fresh) := only_of_within (newRecord_fits s fresh (le_self _) (fits_refl _ s)).within
  have hcur : recordPlace s fresh < 256 ^ 1 := by
    unfold recordPlace
    split_ifs <;> omega
  have hno : bootNumber s < 256 ^ 4 := Nat.mod_lt _ (by decide)
  have h1 : (((s.jput 3 1 (recordPlace s fresh)).jput 4 4 (bootNumber s)).jseal).jget 3 1 = recordPlace s fresh := by
    rw [jseal_beside _ (by decide), jput_beside _ _ _ _ (by decide), jput_jget, Nat.mod_eq_of_lt hcur]
  have h2 : (((s.jput 3 1 (recordPlace s fresh)).jput 4 4 (bootNumber s)).jseal).jget 4 4 = bootNumber s := by
    rw [jseal_beside _ (by decide), jput_jget, Nat.mod_eq_of_lt hno]
  have hrst : (((s.jput 3 1 (recordPlace s fresh)).jput 4 4 (bootNumber s)).jseal).rst = s.rst :=
    (only_trans (jput_only s _ _ _) (only_trans (jput_only _ _ _ _) (jput_only _ _ _ _))).parts.rst (by simp [Foot.of])
  obtain ⟨l, e, hrun⟩ : ∃ l e, s.newRecord fresh = ((((s.jput 3 1 (recordPlace s fresh)).jput 4 4 (bootNumber s)).jseal).setBytes
      (journalBase + (((s.jput 3 1 (recordPlace s fresh)).jput 4 4 (bootNumber s)).jseal).jrec) l).withRst
        { ((((s.jput 3 1 (recordPlace s fresh)).jput 4 4 (bootNumber s)).jseal).setBytes
          (journalBase + (((s.jput 3 1 (recordPlace s fresh)).jput 4 4 (bootNumber s)).jseal).jrec) l).rst with entry := e, early := [] } := ⟨_, _, rfl⟩
  rw [hrun] at honly ⊢
  generalize ((s.jput 3 1 (recordPlace s fresh)).jput 4 4 (bootNumber s)).jseal = w at *
  have hj := jrec_le w
  have hbeside : ∀ o n, o + n ≤ 32 → (w.setBytes (journalBase + w.jrec) l).jget o n = w.jget o n := fun o n h => le_beside w l (.inl (by omega))
  have hset : (w.setBytes (journalBase + w.jrec) l).rst = w.rst := (setBytes_only w _ l).parts.rst (by simp [Foot.of])
  generalize w.setBytes (journalBase + w.jrec) l = v at *
  have hread : ∀ o n, (v.withRst { v.rst with entry := e, early := [] }).jget o n = v.jget o n := fun o n => le_mem (withRst_mem ..) _ _
  refine ⟨(hread _ _).trans ((hbeside _ _ (by decide)).trans h1), (hread _ _).trans ((hbeside _ _ (by decide)).trans h2), ?_, ?_, honly⟩
  · show v.rst.journalOpen = _
    rw [hset, hrst]
  · show v.rst.recoveryStrap = _
    rw [hset, hrst]

/-- The tries, in the open journal and in their field. -/
theorem setTries_journal (s : State) {k : Nat} (hk : k < 16) (ho : s.rst.journalOpen = true) :
    (s.setTries k).jget 0xC 1 = k ∧ (s.setTries k).jget 3 1 = s.jget 3 1 ∧ (s.setTries k).jget 4 4 = s.jget 4 4 := by
  have hmem : (s.setTries k).mem = (s.jput 0xC 1 k).jseal.mem := by
    unfold State.setTries
    rw [if_pos ho, put_mem]
  refine ⟨?_, ?_, ?_⟩
  · rw [State.jget, le_mem hmem, ← State.jget, jseal_beside _ (by decide), jput_jget]
    exact Nat.mod_eq_of_lt (by omega)
  · rw [State.jget, le_mem hmem, ← State.jget, jseal_beside _ (by decide), jput_beside _ _ _ _ (by decide)]
  · rw [State.jget, le_mem hmem, ← State.jget, jseal_beside _ (by decide), jput_beside _ _ _ _ (by decide)]

/-- The record of this boot, its number of tries and its causes. -/
def journalRecorded (fresh : Bool) (k : Nat) (s : State) : State := ((s.newRecord fresh).setTries k).journalCauses

/-- What the record of this boot leaves. -/
structure Recorded (fresh : Bool) (k : Nat) (s t : State) : Prop where
  tries : t.jget 0xC 1 = k
  place : t.jget 3 1 = recordPlace s fresh
  number : t.jget 4 4 = bootNumber s
  field : ∀ x, lampField x = true → F.RST_BOOT_STAT_TRIES.apart x = true → t.g x = s.g x
  shown : t.g F.RST_BOOT_STAT_TRIES = k
  opened : t.rst.journalOpen = true
  strap : t.rst.recoveryStrap = s.rst.recoveryStrap

theorem journalCauses_leaves (s : State) : s.journalCauses.mem = s.mem ∧ s.journalCauses.rst = s.rst ∧ ∀ x, lampField x = true → s.journalCauses.g x = s.g x := by
  have hf := journalCauses_fits s (le_self _) (fits_refl _ s)
  refine ⟨within_mem hf.within rfl rfl, within_rst hf.within rfl rfl, fun x hx => ?_⟩
  have hc : ∀ c : Bool, (if c then s.raise S.RST_COLD_CAUSE 0 else s).g x = s.g x := fun c => by
    cases c with
    | true => exact raise_lamp _ _ _ hx
    | false => rfl
  unfold State.journalCauses
  dsimp only
  generalize (s.on F.RST_CAUSE_PG_LOSS || s.on F.RST_CAUSE_SUPPLY || s.on F.RST_CAUSE_THM_CRIT) = c
  have hx1 := hc c
  generalize (if c then s.raise S.RST_COLD_CAUSE 0 else s) = w at *
  split_ifs
  · exact (raise_lamp _ _ _ hx).trans hx1
  · exact hx1

theorem journalRecorded_leaves (fresh : Bool) {k : Nat} (hk : k < 16) (s : State) (ho : s.rst.journalOpen = true) : Recorded fresh k s (journalRecorded fresh k s) := by
  obtain ⟨n1, n2, n3, n4, n5⟩ := newRecord_leaves s fresh
  unfold journalRecorded
  generalize s.newRecord fresh = w at *
  obtain ⟨t1, t2⟩ := setTries_leaves w hk
  obtain ⟨j1, j2, j3⟩ := setTries_journal w hk (n3.trans ho)
  have hrst : (w.setTries k).rst = w.rst := t2.parts.rst (by simp [Foot.of])
  generalize w.setTries k = v at *
  obtain ⟨c1, c2, c3⟩ := journalCauses_leaves v
  have hget : ∀ o n, v.journalCauses.jget o n = v.jget o n := fun o n => le_mem c1 _ _
  generalize v.journalCauses = z at *
  exact {
    tries := (hget _ _).trans j1
    place := (hget _ _).trans (j2.trans n1)
    number := (hget _ _).trans (j3.trans n2)
    field := fun x hx hap => (c3 x hx).trans ((t2.fields x (fun y hy => by rwa [List.mem_singleton.1 hy])).trans (only_g n5 rfl))
    shown := (c3 _ (by decide)).trans t1
    opened := by rw [c2, hrst, n3, ho]
    strap := by rw [c2, hrst, n4] }

/-! ### JOURNAL: the command -/

/-- The open journal read: a record left open is closed, and the AVOID bits join those in force. -/
def journalRead (fresh : Bool) (s : State) : State :=
  let s := if fresh then s else s.closeRecord
  let s := (s.jput 8 4 (s.jget 8 4 ||| s.rst.avoid)).jseal
  s.put F.RST_BJ_AVOID_AVOID (s.jget 8 4)

/-- The time base, restored after a cold boot or an exit from DEEP. -/
def journalTimed (s : State) : State := if s.rst.cold then s.journalCold else if s.rst.deepExit then s.journalDeep else s

/-- The tries after this boot began. -/
def triesNext (k : Nat) : Nat := if k < 8 then k + 1 else 8

theorem exec_journal (h : s.bootRuns 6 = true) {fresh : Bool} {u : State} (ho : s.begin.openJournal = (fresh, u)) :
    exec .journal s = .next (
      if (journalRecorded fresh (triesNext ((journalRead fresh u).jget 0xC 1)) (journalTimed (journalRead fresh u))).rst.recoveryStrap || decide (8 ≤ (journalRead fresh u).jget 0xC 1)
      then ((journalRecorded fresh (triesNext ((journalRead fresh u).jget 0xC 1)) (journalTimed (journalRead fresh u))).endEntry 2 0 0).enterRecovery
      else (journalRecorded fresh (triesNext ((journalRead fresh u).jget 0xC 1)) (journalTimed (journalRead fresh u))).stepDone 0) := by
  have hfresh : s.begin.openJournal.1 = fresh := congrArg Prod.fst ho
  have hu : s.begin.openJournal.2 = u := congrArg Prod.snd ho
  subst hfresh hu
  exact congrArg Host.Outcome.next (if_pos (show s.begin.bootRuns 6 = true from h))

theorem journalRead_carried (fresh : Bool) (s : State) : Carried anchored [F.RST_BJ_AVOID_AVOID] s (journalRead fresh s) := by
  have h0 : Carried anchored [F.RST_BJ_AVOID_AVOID] s (if fresh then s else s.closeRecord) := by
    split_ifs
    · exact carried_refl _ _ s
    · exact closeRecord_carried s
  unfold journalRead
  dsimp only
  generalize (if fresh then s else s.closeRecord) = w at *
  have k : Carried anchored [] w (w.jput 8 4 (w.jget 8 4 ||| w.rst.avoid)).jseal := (jput_carried w _ (by decide)).trans (jput_carried _ _ (by decide))
  generalize (w.jput 8 4 (w.jget 8 4 ||| w.rst.avoid)).jseal = v at *
  refine (h0.trans (k.mono (by simp))).trans ?_
  generalize v.jget 8 4 = n
  have hput : v.Only [F.RST_BJ_AVOID_AVOID] [] (v.put F.RST_BJ_AVOID_AVOID n) := only_put _ (by simp) (by decide) (only_refl _ _ v)
  have hmem : (v.put F.RST_BJ_AVOID_AVOID n).mem = v.mem := put_mem ..
  have hrst : (v.put F.RST_BJ_AVOID_AVOID n).rst = v.rst := put_rst ..
  generalize v.put F.RST_BJ_AVOID_AVOID n = z at *
  exact ⟨fun x _ hx => only_g hput hx, only_on hput (by decide), by rw [hrst], by rw [hrst], by rw [hrst], by rw [hrst], fun a _ => by rw [State.byte, hmem, ← State.byte]⟩

/-- The journal with a valid header is opened as it is. -/
theorem openJournal_valid (s : State) (h : headerOk (s.bytes journalBase 32) = true) :
    ∃ c, s.openJournal = (false, s.withRst { s.rst with copy := c, journalOpen := true }) := ⟨_, if_pos h⟩

theorem copyOk_mem (h : t.mem = s.mem) (i : Nat) : t.copyOk i = s.copyOk i := by
  rw [State.copyOk, State.copyOk, bytes_mem h, le_mem h]

/-- Without a valid copy the journal is fresh. -/
theorem openJournal_fresh (s : State) (h : headerOk (s.bytes journalBase 32) = false) (h0 : s.copyOk 0 = false) (h1 : s.copyOk 1 = false) :
    ∃ c, s.openJournal = (true, (s.withRst { s.rst with copy := c, journalOpen := true }).freshJournal) := by
  have hbest : ∀ c, (s.withRst { s.rst with copy := c, journalOpen := true }).journalBest = none := fun c => by
    have e0 : (s.withRst { s.rst with copy := c, journalOpen := true }).copyOk 0 = false := (copyOk_mem (withRst_mem ..) 0).trans h0
    have e1 : (s.withRst { s.rst with copy := c, journalOpen := true }).copyOk 1 = false := (copyOk_mem (withRst_mem ..) 1).trans h1
    unfold State.journalBest
    rw [e0, e1]
    rfl
  unfold State.openJournal
  dsimp only
  generalize (if (!s.copyOk 0) = true then 0 else if (!s.copyOk 1) = true then 1 else s.rst.copy) = c
  refine ⟨c, (if_neg (by exact ne_true_of_eq_false h)).trans ?_⟩
  rw [hbest c]


theorem le_zero (s : State) (a n : Nat) (h : ∀ i, i < n → s.byte (a + i) = 0) : s.le a n = 0 := by
  induction n generalizing a with
  | zero => rfl
  | succ n ih =>
    have hb : s.byte a = 0 := h 0 (by omega)
    have hrest : s.le (a + 1) n = 0 := ih (a + 1) (fun i hi => by rw [show a + 1 + i = a + (i + 1) by omega]; exact h (i + 1) (by omega))
    rw [State.le] at hrest ⊢
    rw [State.bytes, ofLe, hb, hrest]
    rfl

theorem zeroed_jget (s : State) {o n : Nat} (h : o + n ≤ 1120) : (s.setBytes journalBase (List.replicate 1120 0)).jget o n = 0 := by
  refine le_zero _ _ _ fun i hi => ?_
  rw [setBytes_byte, List.length_replicate, if_pos ⟨by omega, by omega⟩, List.getD_replicate _ (by omega)]

theorem freshJournal_leaves (s : State) : s.freshJournal.jget 3 1 = 0 ∧ s.freshJournal.jget 4 4 = 0 ∧ s.freshJournal.jget 0xC 1 = 0 ∧ s.freshJournal.on F.RST_EVT_JOURNAL_NEW = true
    ∧ s.freshJournal.rst = s.rst ∧ s.Only [F.RST_EVT_JOURNAL_NEW, F.UNIT_IRQ_STAT_EVT 0x02] [.mem] s.freshJournal := by
  have hz : ∀ o n, o + n ≤ 32 → (3 ≤ o ∧ o + n ≤ 0x1C) → (((s.setBytes journalBase (List.replicate 1120 0)).jput 0 2 0xB0A7).jput 2 1 1).jseal.jget o n = 0 := fun o n h h' => by
    rw [jseal_beside _ (.inl h'.2), jput_beside _ _ _ _ (.inr h'.1), jput_beside _ _ _ _ (.inr (by omega)), zeroed_jget s (by omega)]
  have honly : s.Only [] [.mem] (((s.setBytes journalBase (List.replicate 1120 0)).jput 0 2 0xB0A7).jput 2 1 1).jseal :=
    only_trans (setBytes_only s _ _) (only_trans (jput_only _ _ _ _) (only_trans (jput_only _ _ _ _) (jput_only _ _ _ _)))
  have hrun : s.freshJournal = (((s.setBytes journalBase (List.replicate 1120 0)).jput 0 2 0xB0A7).jput 2 1 1).jseal.evt F.RST_EVT_JOURNAL_NEW := rfl
  rw [hrun]
  generalize (((s.setBytes journalBase (List.replicate 1120 0)).jput 0 2 0xB0A7).jput 2 1 1).jseal = w at *
  have hget : ∀ o n, (w.evt F.RST_EVT_JOURNAL_NEW).jget o n = w.jget o n := fun o n => le_mem (evt_mem ..) _ _
  exact ⟨(hget _ _).trans (hz _ _ (by decide) (by decide)), (hget _ _).trans (hz _ _ (by decide) (by decide)), (hget _ _).trans (hz _ _ (by decide) (by decide)), on_evt_self _ (by decide),
    (evt_rst ..).trans (honly.parts.rst (by simp [Foot.of])),
    only_evt (by simp) (by simp [F.RST_EVT_JOURNAL_NEW]) (by decide) (only_mono (by simp) (by simp) honly)⟩

/-- The fields of RST that the work on the journal writes before the record. -/
def readFields : List Fld := F.RST_BJ_AVOID_AVOID :: epochFields

theorem journalTimed_carried (s : State) : Carried inHeader epochFields s (journalTimed s)
    ∧ (s.rst.cold = true → (journalTimed s).g F.RST_EPOCH_EPOCH = epochNext s.epochStored.2 ∧ (s.on F.THM_STAT_FLASH_OK = true → (journalTimed s).on F.RST_EPOCH_STAT_SAVED = true)) := by
  unfold journalTimed
  split_ifs with hc hd
  · obtain ⟨k1, k2, k3⟩ := journalCold_carried s
    exact ⟨k1, fun _ => ⟨k2, k3⟩⟩
  · exact ⟨(journalDeep_carried _ s).mono (by simp), fun h => absurd h hc⟩
  · exact ⟨carried_refl _ _ s, fun h => absurd h hc⟩

/-- The work on the journal up to its last command, from the journal opened as s to the record w. -/
structure JournalKept (s w : State) (fresh : Bool) : Prop where
  tries : w.jget 0xC 1 = triesNext (s.jget 0xC 1)
  place : w.jget 3 1 = recordPlace s fresh
  number : w.jget 4 4 = bootNumber s
  shown : w.g F.RST_BOOT_STAT_TRIES = triesNext (s.jget 0xC 1)
  opened : w.rst.journalOpen = true
  strap : w.rst.recoveryStrap = s.rst.recoveryStrap
  field : ∀ x, x.page = 0x02 → lampField x = true → clear (F.RST_BOOT_STAT_TRIES :: readFields) x = true → w.g x = s.g x
  epoch : s.rst.cold = true → w.g F.RST_EPOCH_EPOCH = epochNext s.epochStored.2 ∧ (s.on F.THM_STAT_FLASH_OK = true → w.on F.RST_EPOCH_STAT_SAVED = true)

theorem triesNext_lt (k : Nat) : triesNext k < 16 := by
  unfold triesNext
  split_ifs <;> omega

/-- The tries read after the journal was read, and the record made of it. -/
theorem journal_kept (s : State) (fresh : Bool) (ho : s.rst.journalOpen = true) :
    (journalRead fresh s).jget 0xC 1 = s.jget 0xC 1 ∧ JournalKept s (journalRecorded fresh (triesNext ((journalRead fresh s).jget 0xC 1)) (journalTimed (journalRead fresh s))) fresh := by
  have hr := journalRead_carried fresh s
  generalize journalRead fresh s = r at *
  obtain ⟨ht, he⟩ := journalTimed_carried r
  have htries : r.jget 0xC 1 = s.jget 0xC 1 := hr.header.jget (.inr ⟨rfl, rfl⟩)
  generalize journalTimed r = v at *
  have hplace : recordPlace v fresh = recordPlace s fresh := by rw [recordPlace, recordPlace, ht.jget (.inl (by decide)), hr.header.jget (.inl (by decide))]
  have hnumber : bootNumber v = bootNumber s := by rw [bootNumber, bootNumber, ht.jget (.inl (by decide)), hr.header.jget (.inl (by decide))]
  have k := journalRecorded_leaves fresh (triesNext_lt (r.jget 0xC 1)) v (ht.opened.trans (hr.opened.trans ho))
  rw [htries] at k ⊢
  generalize journalRecorded fresh (triesNext (s.jget 0xC 1)) v = w at *
  refine ⟨rfl, ⟨k.tries, k.place.trans hplace, k.number.trans hnumber, k.shown, k.opened, k.strap.trans (ht.strap.trans hr.strap), fun x hp hl hc => ?_, fun hcold => ?_⟩⟩
  · simp only [clear, readFields, List.all_cons, Bool.and_eq_true] at hc
    obtain ⟨h1, h2, h3⟩ := hc
    exact (k.field x hl h1).trans ((ht.field x hp h3).trans (hr.field x hp (by simp [clear, h2])))
  · obtain ⟨e1, e2⟩ := he (hr.cold.trans hcold)
    rw [hr.epochStored] at e1
    exact ⟨(k.field _ (by decide) (by decide)).trans e1, fun hf => (on_congr (k.field _ (by decide) (by decide))).trans (e2 (hr.flash.trans hf))⟩


/-- The journal opened, with the rest of the state. -/
theorem opened_reads (s : State) (c : Nat) (u : State) (hu : u = s.begin.withRst { s.begin.rst with copy := c, journalOpen := true }) :
    (∀ o n, u.jget o n = s.jget o n) ∧ u.epochStored = s.epochStored ∧ (∀ x, u.g x = s.g x) ∧ u.rst.journalOpen = true ∧ u.rst.cold = s.rst.cold
      ∧ u.rst.recoveryStrap = s.rst.recoveryStrap := by
  have hmem : u.mem = s.mem := by rw [hu, withRst_mem, begin_mem]
  have hepoch : ∀ i, u.epochAt i = s.epochAt i := fun i => epochAt_congr i (fun k _ => by rw [State.byte, hmem, ← State.byte])
  refine ⟨fun o n => le_mem hmem _ _, by rw [State.epochStored, State.epochStored, hepoch, hepoch], fun x => by rw [hu, withRst_g, begin_g], ?_, ?_, ?_⟩ <;> rw [hu] <;> rfl

/-- The journal's command ends its step, where neither the strap nor the tries ask for the recovery. -/
theorem journal_ends {w : State} (hstep : w.g F.RST_BOOT_STAT_STEP = 6) :
    (w.stepDone 0).g F.RST_BOOT_STAT_STEP = 7 ∧ (∀ x, lampField x = true → F.RST_BOOT_STAT_STEP.apart x = true → (w.stepDone 0).g x = w.g x)
      ∧ (w.stepDone 0).rst.journalOpen = w.rst.journalOpen ∧ ∀ o n, o + n ≤ 32 → (w.stepDone 0).jget o n = w.jget o n := by
  have k := stepDone_started w 0 hstep (by decide)
  exact ⟨k.step.trans (by rw [stepAt]; simp [stepOptional]), k.field, k.opened, fun o n h => header_jget k.byte h⟩

theorem journal_valid (h : s.bootRuns 6 = true) (hok : headerOk (s.bytes journalBase 32) = true) :
    (s.rst.recoveryStrap = false → s.jget 0xC 1 < 8 →
      ∃ t, exec .journal s = .next t ∧ t.g F.RST_BOOT_STAT_STEP = 7 ∧ t.g F.RST_BOOT_STAT_PHASE = 0 ∧ t.rst.journalOpen = true
        ∧ t.g F.RST_BOOT_STAT_TRIES = s.jget 0xC 1 + 1 ∧ t.jget 0xC 1 = s.jget 0xC 1 + 1
        ∧ t.jget 3 1 = (s.jget 3 1 + 1) % 4 ∧ t.jget 4 4 = (s.jget 4 4 + 1) % 2 ^ 32
        ∧ (s.rst.cold = true → t.g F.RST_EPOCH_EPOCH = (if s.epochStored.2 = 0xFFFFFFFF then 1 else s.epochStored.2 + 1)
            ∧ (s.on F.THM_STAT_FLASH_OK = true → t.on F.RST_EPOCH_STAT_SAVED = true)))
    ∧ (s.rst.recoveryStrap = true ∨ 8 ≤ s.jget 0xC 1 →
      ∃ t, exec .journal s = .next t ∧ t.g F.RST_BOOT_STAT_PHASE = 3 ∧ t.on F.UPD_STAT_RECOVERY = true ∧ t.cmd.served = true
        ∧ t.g (F.CMD_EXP_EXP 3) = 1 ∧ t.g (F.UNIT_CTRL_ENABLE 0x09) = 0 ∧ t.g (F.UNIT_CTRL_ENABLE 0x0A) = 0) := by
  obtain ⟨hstep, hphase⟩ := step_of_runs h
  obtain ⟨c, hopen⟩ := openJournal_valid s.begin (by rw [bytes_mem (begin_mem s)]; exact hok)
  obtain ⟨u, hu⟩ : ∃ u, u = s.begin.withRst { s.begin.rst with copy := c, journalOpen := true } := ⟨_, rfl⟩
  obtain ⟨o1, o2, o3, o4, o5, o6⟩ := opened_reads s c u hu
  have hrun := exec_journal h (hopen.trans (congrArg (Prod.mk false) hu.symm))
  obtain ⟨htries, k⟩ := journal_kept u false o4
  generalize journalRecorded false (triesNext ((journalRead false u).jget 0xC 1)) (journalTimed (journalRead false u)) = w at *
  rw [htries, o1, k.strap, o6] at hrun
  refine ⟨fun hs ht => ?_, fun hs => ?_⟩
  · rw [if_neg (by simp [hs]; omega)] at hrun
    obtain ⟨e1, e2, e3, e4⟩ := journal_ends (w := w) ((k.field _ rfl (by decide) (by decide)).trans ((o3 _).trans hstep))
    have hnext : triesNext (u.jget 0xC 1) = s.jget 0xC 1 + 1 := by rw [o1, triesNext, if_pos ht]
    refine ⟨_, hrun, e1, (e2 _ (by decide) (by decide)).trans ((k.field _ rfl (by decide) (by decide)).trans ((o3 _).trans hphase)), e3.trans k.opened,
      (e2 _ (by decide) (by decide)).trans (k.shown.trans hnext), (e4 _ _ (by decide)).trans (k.tries.trans hnext), ?_, ?_, fun hc => ?_⟩
    · rw [e4 _ _ (by decide), k.place, recordPlace, o1]
      rfl
    · rw [e4 _ _ (by decide), k.number, bootNumber, o1]
    · obtain ⟨p1, p2⟩ := k.epoch (o5.trans hc)
      rw [o2] at p1
      exact ⟨(e2 _ (by decide) (by decide)).trans p1, fun hf => (on_congr (e2 _ (by decide) (by decide))).trans (p2 ((on_congr (o3 _)).trans hf))⟩
  · rw [if_pos (by simpa using hs)] at hrun
    obtain ⟨r1, r2, r3, r4, r5, r6, -⟩ := enterRecovery_leaves (w.endEntry 2 0 0)
    exact ⟨_, hrun, r1, r2, r3, r4, r5, r6⟩

theorem journal_fresh (h : s.bootRuns 6 = true) (hbad : headerOk (s.bytes journalBase 32) = false) (h0 : s.copyOk 0 = false) (h1 : s.copyOk 1 = false) (hs : s.rst.recoveryStrap = false) :
    ∃ t, exec .journal s = .next t ∧ t.g F.RST_BOOT_STAT_STEP = 7 ∧ t.on F.RST_EVT_JOURNAL_NEW = true ∧ t.rst.journalOpen = true
      ∧ t.jget 4 4 = 1 ∧ t.jget 3 1 = 0 ∧ t.g F.RST_BOOT_STAT_TRIES = 1 := by
  obtain ⟨hstep, -⟩ := step_of_runs h
  obtain ⟨c, hopen⟩ := openJournal_fresh s.begin (by rw [bytes_mem (begin_mem s)]; exact hbad) ((copyOk_mem (begin_mem s) 0).trans h0) ((copyOk_mem (begin_mem s) 1).trans h1)
  obtain ⟨u, hu⟩ : ∃ u, u = s.begin.withRst { s.begin.rst with copy := c, journalOpen := true } := ⟨_, rfl⟩
  obtain ⟨-, -, o3, o4, -, o6⟩ := opened_reads s c u hu
  have hrun := exec_journal h (hopen.trans (congrArg (fun w => (true, w.freshJournal)) hu.symm))
  obtain ⟨f1, f2, f3, f4, f5, f6⟩ := freshJournal_leaves u
  generalize u.freshJournal = v at *
  obtain ⟨htries, k⟩ := journal_kept v true (by rw [f5, o4])
  generalize journalRecorded true (triesNext ((journalRead true v).jget 0xC 1)) (journalTimed (journalRead true v)) = w at *
  rw [htries, f3, k.strap, f5, o6, hs, if_neg (by decide)] at hrun
  have hnext : triesNext (v.jget 0xC 1) = 1 := by rw [f3]; rfl
  obtain ⟨e1, e2, e3, e4⟩ := journal_ends (w := w) ((k.field _ rfl (by decide) (by decide)).trans ((only_g f6 (by decide)).trans ((o3 _).trans hstep)))
  refine ⟨_, hrun, e1, (on_congr (e2 _ (by decide) (by decide))).trans ((on_congr (k.field _ rfl (by decide) (by decide))).trans f4), e3.trans k.opened, ?_, ?_,
    (e2 _ (by decide) (by decide)).trans (k.shown.trans hnext)⟩
  · rw [e4 _ _ (by decide), k.number, bootNumber, f2]
    rfl
  · rw [e4 _ _ (by decide), k.place]
    rfl

/-! ### MAIN_IMAGE -/


/-- The checks of a main bundle by the bytes of its slot, the fuses and the overlap that is noted, after its signature. -/
def mainCode (s : State) (ok : Bool) (n total size : Nat) : Nat :=
  let h := s.slotBytes n 0 64
  let ents := s.mainEntries n
  if !ok then 1
  else if ofLe (slice h 8 4) ≠ s.fuse 1 then 2
  else if s.wrongUnit (ofLe (slice h 12 8)) then 3
  else if ofLe (slice h 20 4) < countOnes 64 (s.fuse 20) then 4
  else if ofLe (slice h 0 4) ≠ 0x4C594D31 || ofLe (slice h 4 2) ≠ 1 || ents.isEmpty || decide (16 < ents.length) || size ≠ total
      || !allZero h 38 26 || !ents.all (fun e => allZero e 2 2) then 5
  else if size < s.slotField n 32 4 + 48 * ents.length || !ents.all (s.entryOk n size) || !manifestFull ents then 6
  else if (s.slot_ n).overlap then 7
  else if s.revokeBad (ofLe (slice h 37 1)) (ofLe (s.slotBytes n (size - 192 + 5) 1)) then 8
  else 0

/-- The signature's check by itself. -/
def sigHolds (s : State) (n cls : Nat) (verdict : Bool) (total : Nat) : Bool :=
  if total < 256 || slotSize n < total then false else verdict && s.sigFields (s.slotBytes n (total - 192) 192) (total - 192) cls

theorem slotSig_eq (s : State) (n cls : Nat) (verdict : Bool) (total : Nat) :
    s.slotSig n cls verdict total = (sigHolds s n cls verdict total, if sigHolds s n cls verdict total then s else s.evt F.SEC_EVT_SIG_FAIL) := by
  unfold State.slotSig sigHolds
  by_cases h : (decide (total < 256) || decide (slotSize n < total)) = true
  · rw [if_pos h, if_pos h]
    rfl
  · rw [if_neg h, if_neg h]
    unfold State.sigCheck
    split_ifs with hv
    · rw [hv]
    · rw [Bool.eq_false_iff.2 hv]

theorem slotField_mem (h : t.mem = s.mem) (n o len : Nat) : t.slotField n o len = s.slotField n o len := le_mem h _ _

theorem slotBytes_mem (h : t.mem = s.mem) (n o len : Nat) : t.slotBytes n o len = s.slotBytes n o len := bytes_mem h _ _

theorem mainEntries_mem (h : t.mem = s.mem) (n : Nat) : t.mainEntries n = s.mainEntries n := by
  have hentry : t.mainEntry n = s.mainEntry n := funext fun i => by rw [State.mainEntry, State.mainEntry, slotField_mem h, slotBytes_mem h]
  rw [State.mainEntries, State.mainEntries, slotField_mem h, hentry]

theorem keyUsable_fus (h : t.fus = s.fus) (cls i : Nat) : t.keyUsable cls i = s.keyUsable cls i := by
  have hf : t.fuse = s.fuse := funext fun r => by rw [State.fuse, State.fuse, h]
  unfold State.keyUsable
  rw [hf, h]

theorem sigHolds_congr (hm : t.mem = s.mem) (hf : t.fus = s.fus) (n cls : Nat) (verdict : Bool) (total : Nat) : sigHolds t n cls verdict total = sigHolds s n cls verdict total := by
  have hk : t.keyUsable = s.keyUsable := funext fun c => funext fun i => keyUsable_fus hf c i
  unfold sigHolds State.sigFields
  rw [slotBytes_mem hm, hk]

theorem mainCode_congr (hm : t.mem = s.mem) (hf : t.fus = s.fus) (n : Nat) (hs : (t.slot_ n).overlap = (s.slot_ n).overlap) (ok : Bool) (total size : Nat) :
    mainCode t ok n total size = mainCode s ok n total size := by
  have hfuse : t.fuse = s.fuse := funext fun r => by rw [State.fuse, State.fuse, hf]
  have hk : t.keyUsable = s.keyUsable := funext fun c => funext fun i => keyUsable_fus hf c i
  have hwrong : t.wrongUnit = s.wrongUnit := funext fun i => by rw [State.wrongUnit, State.wrongUnit, State.unitId, State.unitId, hfuse]
  have hrevoke : t.revokeBad = s.revokeBad := funext fun a => funext fun b => by rw [State.revokeBad, State.revokeBad, hk]
  have hentry : t.entryOk n size = s.entryOk n size := funext fun e => by rw [State.entryOk, State.entryOk, slotBytes_mem hm]
  unfold mainCode
  rw [slotBytes_mem hm, mainEntries_mem hm, hfuse, hwrong, slotField_mem hm, hentry, hs, hrevoke, slotBytes_mem hm]

/-- What the checks of a main bundle answer and leave. -/
theorem mainBad_leaves (s : State) (n : Nat) (a b : Bool) :
    (s.mainBad n a b).1 = mainCode s (sigHolds s n 1 (if n = 0 then a else b) (s.slotField n 28 4)) n (s.slotField n 28 4) (s.slotField n 28 4)
      ∧ s.Only [F.SEC_EVT_SIG_FAIL, F.UNIT_IRQ_STAT_EVT 0x78] [] (s.mainBad n a b).2 := by
  have hrun : s.mainBad n a b = (mainCode (s.slotSig n 1 (if n = 0 then a else b) (s.slotField n 28 4)).2 (s.slotSig n 1 (if n = 0 then a else b) (s.slotField n 28 4)).1 n
      (s.slotField n 28 4) (s.slotField n 28 4), (s.slotSig n 1 (if n = 0 then a else b) (s.slotField n 28 4)).2) := rfl
  rw [hrun, slotSig_eq]
  dsimp only
  generalize sigHolds s n 1 (if n = 0 then a else b) (s.slotField n 28 4) = v
  generalize s.slotField n 28 4 = k
  have honly : s.Only [F.SEC_EVT_SIG_FAIL, F.UNIT_IRQ_STAT_EVT 0x78] [] (if v then s else s.evt F.SEC_EVT_SIG_FAIL) :=
    only_ite (fun _ => only_refl _ _ s) (fun _ => only_evt (by simp) (by simp [F.SEC_EVT_SIG_FAIL]) (by decide) (only_refl _ _ s))
  have hupd : (if v then s else s.evt F.SEC_EVT_SIG_FAIL).upd = s.upd := honly.parts.upd (by simp [Foot.of])
  exact ⟨mainCode_congr (honly.parts.mem (by simp [Foot.of])) (honly.parts.fus (by simp [Foot.of])) n (by rw [State.slot_, hupd, ← State.slot_]) _ _ _, honly⟩

theorem mainBad_congr (hm : t.mem = s.mem) (hf : t.fus = s.fus) (hu : t.upd = s.upd) (n : Nat) (a b : Bool) : (t.mainBad n a b).1 = (s.mainBad n a b).1 := by
  rw [(mainBad_leaves t n a b).1, (mainBad_leaves s n a b).1, slotField_mem hm, sigHolds_congr hm hf]
  exact mainCode_congr hm hf n (by rw [State.slot_, hu, ← State.slot_]) _ _ _


/-! ### A main image boots -/

theorem sram_region {a : Nat} (h : regionOf a = some .sram) : 0x10000000 ≤ a ∧ a < 0x10200000 := by
  unfold regionOf at h
  split_ifs at h with h1 h2
  · simp at h
  · exact h2
  all_goals simp at h

/-- One entry of the bundle, loaded where it belongs to the application core's memory. -/
def loadEntry (n : Nat) (s : State) (e : List Byte) : State :=
  if (entType e = 1 || entType e = 2) && regionOf (entLoad e) = some .sram && regionOf (entLoad e + entSize e - 1) = some .sram then
    s.setBytes (entLoad e) (s.slotBytes n (entOfs e) (entSize e))
  else s

theorem loadEntry_leaves (s : State) (n : Nat) (e : List Byte) : s.Only [] [.mem] (loadEntry n s e) ∧ ∀ a, 0x10200000 ≤ a → (loadEntry n s e).byte a = s.byte a := by
  unfold loadEntry
  split_ifs with hc
  · refine ⟨setBytes_only s _ _, fun a ha => setBytes_outside s _ ?_⟩
    simp only [Bool.and_eq_true, decide_eq_true_eq] at hc
    obtain ⟨⟨-, hl⟩, hr⟩ := hc
    have hlo := sram_region hl
    have hhi := sram_region hr
    rw [State.slotBytes, bytes_length]
    omega
  · exact ⟨only_refl _ _ s, fun a _ => rfl⟩

/-- The entries go to that memory alone: nothing above it changes. -/
theorem loadEntries_leaves (s : State) (n : Nat) : s.Only [] [.mem] (s.loadEntries n) ∧ ∀ a, 0x10200000 ≤ a → (s.loadEntries n).byte a = s.byte a := by
  have hfold : ∀ l : List (List Byte), ∀ u : State, s.Only [] [.mem] u → (∀ a, 0x10200000 ≤ a → u.byte a = s.byte a) →
      s.Only [] [.mem] (l.foldl (loadEntry n) u) ∧ ∀ a, 0x10200000 ≤ a → (l.foldl (loadEntry n) u).byte a = s.byte a := by
    intro l
    induction l with
    | nil => exact fun u h1 h2 => ⟨h1, h2⟩
    | cons e l ih =>
      intro u h1 h2
      obtain ⟨k1, k2⟩ := loadEntry_leaves u n e
      exact ih _ (only_trans h1 k1) (fun a ha => (k2 a ha).trans (h2 a ha))
  exact hfold _ s (only_refl _ _ s) (fun a _ => rfl)

/-- The fields that show the image that runs. -/
def imageFields : List Fld := [F.UPD_STAT_MAIN_ACT, F.RST_BOOT_STAT_SLOT_B, F.UPD_STAT_TRIAL, F.UPD_VER_VER, F.PRF_STAT_RECORDS]

/-- The image that runs, shown. -/
def imageShown (s : State) (n : Nat) : State :=
  let s := ((s.put F.UPD_STAT_MAIN_ACT n).put F.RST_BOOT_STAT_SLOT_B n).put F.UPD_STAT_TRIAL (bit (s.slotState n = 5))
  (s.put F.UPD_VER_VER (s.slotField n 24 4)).put F.PRF_STAT_RECORDS (s.recordMap n)

theorem bootMain_eq (s : State) (n : Nat) : s.bootMain n = (((imageShown (s.loadEntries n) n).showMain 0).showMain 1).fuseWork.stepDone n := rfl

theorem imageShown_leaves (s : State) (hn : n < 2) : (imageShown s n).g F.UPD_STAT_MAIN_ACT = n ∧ (imageShown s n).g F.RST_BOOT_STAT_SLOT_B = n
    ∧ (imageShown s n).on F.UPD_STAT_TRIAL = decide (s.slotState n = 5) ∧ (imageShown s n).g F.UPD_VER_VER = s.slotField n 24 4 ∧ s.Only imageFields [] (imageShown s n) := by
  have hput : ∀ {u : State} (x : Fld) (v : Nat), x ∈ imageFields → x.hi < 32 → s.Only imageFields [] u → s.Only imageFields [] (u.put x v) := fun x v hx hh hu => only_put v hx hh hu
  unfold imageShown
  dsimp only
  generalize decide (s.slotState n = 5) = c
  have hfield : ∀ t : State, t.mem = s.mem → t.slotField n 24 4 = s.slotField n 24 4 := fun t ht => slotField_mem ht _ _ _
  rw [hfield _ (by rw [put_mem, put_mem, put_mem])]
  have hver : s.slotField n 24 4 < 2 ^ 32 := le_lt s (slotBase n + 24) 4
  generalize s.slotField n 24 4 = v at *
  generalize State.recordMap _ n = r
  refine ⟨?_, ?_, ?_, ?_, hput _ _ (by simp [imageFields]) (by decide) (hput _ _ (by simp [imageFields]) (by decide) (hput _ _ (by simp [imageFields]) (by decide)
    (hput _ _ (by simp [imageFields]) (by decide) (hput _ _ (by simp [imageFields]) (by decide) (only_refl _ _ s)))))⟩
  · rw [g_put_sep _ _ (by decide), g_put_sep _ _ (by decide), g_put_sep _ _ (by decide), g_put_sep _ _ (by decide)]
    exact g_put_self (by decide) (by decide) hn
  · rw [g_put_sep _ _ (by decide), g_put_sep _ _ (by decide), g_put_sep _ _ (by decide)]
    exact g_put_self (by decide) (by decide) hn
  · rw [on_put_sep _ _ (by decide), on_put_sep _ _ (by decide)]
    exact on_put_bit _ c (by decide) (by decide)
  · rw [g_put_sep _ _ (by decide)]
    exact g_put_self (by decide) (by decide) hver

/-- What the boot of main slot n leaves. -/
structure ImageRuns (s t : State) (n : Nat) : Prop where
  slot : t.g F.UPD_STAT_MAIN_ACT = n
  shown : t.g F.RST_BOOT_STAT_SLOT_B = n
  trial : t.on F.UPD_STAT_TRIAL = decide (s.slotState n = 5)
  version : t.g F.UPD_VER_VER = s.slotField n 24 4
  step : t.g F.RST_BOOT_STAT_STEP = 8
  states : ∀ k, t.slotState k = s.slotState k
  trialSlot : t.upd.trial = s.upd.trial
  rejected : t.on F.UPD_EVT_REJECTED = s.on F.UPD_EVT_REJECTED

theorem slotField_high (h : ∀ a, 0x10200000 ≤ a → t.byte a = s.byte a) (hn : n < 2) (o len : Nat) : t.slotField n o len = s.slotField n o len := by
  have hbase : 0x60000000 ≤ slotBase n := by rcases (by omega : n = 0 ∨ n = 1) with rfl | rfl <;> decide
  exact le_congr fun i hi => h _ (by omega)

/-- The fields that show the main slots. -/
def mainFields : List Fld :=
  [F.UPD_SLOTA_STATE, F.UPD_SLOTA_OVERLAP, F.UPD_SLOTA_REJ, F.UPD_SLOTA_ROLLBACK, F.UPD_SLOTA_VER, F.UPD_SLOTB_STATE, F.UPD_SLOTB_OVERLAP, F.UPD_SLOTB_REJ,
    F.UPD_SLOTB_ROLLBACK, F.UPD_SLOTB_VER]

theorem showMain_only (s : State) (n : Nat) : s.Only mainFields [] (s.showMain n) := by
  have hput : ∀ {u : State} (x : Fld) (v : Nat), x ∈ mainFields → x.hi < 32 → s.Only mainFields [] u → s.Only mainFields [] (u.put x v) := fun x v hx hh hu => only_put v hx hh hu
  unfold State.showMain
  extract_lets r roll ver
  split_ifs <;> exact hput _ _ (by simp [mainFields]) (by decide) (hput _ _ (by simp [mainFields]) (by decide) (hput _ _ (by simp [mainFields]) (by decide)
    (hput _ _ (by simp [mainFields]) (by decide) (hput _ _ (by simp [mainFields]) (by decide) (only_refl _ _ s)))))

theorem bootMain_leaves (s : State) (hn : n < 2) (hstep : s.g F.RST_BOOT_STAT_STEP = 7) : ImageRuns s (s.bootMain n) n := by
  obtain ⟨l1, l2⟩ := loadEntries_leaves s n
  have hver := slotField_high l2 hn 24 4
  rw [bootMain_eq]
  generalize s.loadEntries n = a at *
  have hsa := slots_congr (l1.parts.upd (by simp [Foot.of])) (l1.parts.gov (by simp [Foot.of]))
  obtain ⟨i1, i2, i3, i4, i5⟩ := imageShown_leaves a hn
  generalize imageShown a n = b at *
  have hshow : b.Only mainFields [] ((b.showMain 0).showMain 1) := only_trans (showMain_only b 0) (showMain_only _ 1)
  generalize (b.showMain 0).showMain 1 = c at *
  have hwork := fuseWork_only c
  have hstates := fuseWork_state c
  have htrial : c.fuseWork.upd.trial = c.upd.trial := (congrArg Upd.trial (fuseWork_upd c)).trans rfl
  generalize c.fuseWork = d at *
  have hupd : c.upd = s.upd := (hshow.parts.upd (by simp [Foot.of])).trans ((i5.parts.upd (by simp [Foot.of])).trans (l1.parts.upd (by simp [Foot.of])))
  have hgov : c.gov = s.gov := (hshow.parts.gov (by simp [Foot.of])).trans ((i5.parts.gov (by simp [Foot.of])).trans (l1.parts.gov (by simp [Foot.of])))
  have hd : ∀ x, clear mainFields x = true → clear fuseWorkFields x = true → d.g x = b.g x := fun x h1 h2 => (only_g hwork h2).trans (only_g hshow h1)
  have k := stepDone_started d n ((hd _ (by decide) (by decide)).trans ((only_g i5 (by decide)).trans ((only_g l1 rfl).trans hstep))) (by decide)
  have hend : ∀ x, clear mainFields x = true → clear fuseWorkFields x = true → groupPage x.page = 0x80 → (d.stepDone n).g x = b.g x :=
    fun x h1 h2 h3 => (fits_g k.fits rfl (by rw [h3]; rfl)).trans (hd x h1 h2)
  have hku : (d.stepDone n).upd = d.upd := within_upd k.fits.within rfl rfl
  have hkg : (d.stepDone n).gov = d.gov := within_gov k.fits.within rfl rfl
  exact {
    slot := (hend _ (by decide) (by decide) rfl).trans i1
    shown := (k.field _ (by decide) (by decide)).trans ((hd _ (by decide) (by decide)).trans i2)
    trial := (on_congr (hend _ (by decide) (by decide) rfl)).trans (i3.trans (by rw [hsa]))
    version := (hend _ (by decide) (by decide) rfl).trans (i4.trans hver)
    step := k.step.trans (by rw [stepAt]; simp [stepOptional])
    states := fun j => (slots_congr hku hkg j).trans ((hstates j).trans (slots_congr hupd hgov j))
    trialSlot := by rw [hku, htrial, hupd]
    rejected := (on_congr (hend _ (by decide) (by decide) rfl)).trans ((only_on i5 (by decide)).trans (only_on l1 rfl)) }


/-! ### Which image boots -/

/-- The slots' states stand, and so does the event of a rejected slot. -/
structure SlotsStand (s t : State) : Prop where
  states : ∀ k, t.slotState k = s.slotState k
  rejected : s.on F.UPD_EVT_REJECTED = true → t.on F.UPD_EVT_REJECTED = true

theorem SlotsStand.trans (h : SlotsStand s t) (k : SlotsStand t u) : SlotsStand s u := ⟨fun j => (k.states j).trans (h.states j), fun hr => k.rejected (h.rejected hr)⟩

theorem slotsStand_of_fits {g : Foot} (h : s.Fits g t) (ha : g.any = false) (h80 : g.units.contains 0x80 = false) (hu : g.parts.contains .upd = false) (hg : g.parts.contains .gov = false) :
    SlotsStand s t :=
  ⟨fun k => slots_congr (within_upd h.within ha hu) (within_gov h.within ha hg) k, fun hr => (on_congr (fits_g h ha (x := F.UPD_EVT_REJECTED) h80)).trans hr⟩

theorem ImageRuns.stands (h : ImageRuns s t n) : SlotsStand s t := ⟨h.states, fun hr => h.rejected.trans hr⟩

theorem enterRecovery_stands (s : State) : SlotsStand s s.enterRecovery := by
  obtain ⟨-, -, -, -, -, -, hu, hg, hf⟩ := enterRecovery_leaves s
  exact ⟨fun k => slots_congr hu hg k, fun hr => (on_congr (hf _ rfl (by decide) (by decide))).trans hr⟩

theorem imageFails_stands (s : State) (r : Nat) (hstep : s.g F.RST_BOOT_STAT_STEP = 7) : SlotsStand s (s.stepFails r) := by
  cases halt : s.rst.alt with
  | false => exact slotsStand_of_fits (stepFails_alt s r hstep rfl rfl halt (by decide)).1.fits rfl rfl rfl rfl
  | true =>
    rw [stepFails_recovery s r hstep (.inl rfl) halt]
    exact (slotsStand_of_fits (stepFailed_leaves s r hstep (by decide)).1.fits rfl rfl rfl rfl).trans (enterRecovery_stands _)

theorem slotIn_some {st : Nat} (h : s.slotIn [0, 1] st = some n) : n < 2 ∧ s.slotState n = st := by
  have hm := List.mem_of_find?_eq_some h
  have hs := List.find?_some h
  simp only [List.mem_cons, List.not_mem_nil, or_false] at hm
  exact ⟨by omega, by simpa using hs⟩

theorem slotIn_congr (h : ∀ k, t.slotState k = s.slotState k) (st : Nat) : t.slotIn [0, 1] st = s.slotIn [0, 1] st := by
  rw [State.slotIn, State.slotIn, show t.slotState = s.slotState from funext h]

theorem mainBad_stands (s : State) (n : Nat) (a b : Bool) : (s.mainBad n a b).2.g F.RST_BOOT_STAT_STEP = s.g F.RST_BOOT_STAT_STEP ∧ (s.mainBad n a b).2.rst = s.rst
    ∧ (s.mainBad n a b).2.mem = s.mem ∧ (s.mainBad n a b).2.fus = s.fus ∧ (s.mainBad n a b).2.upd = s.upd ∧ (∀ k, (s.mainBad n a b).2.slotState k = s.slotState k)
    ∧ (s.mainBad n a b).2.on F.UPD_EVT_REJECTED = s.on F.UPD_EVT_REJECTED ∧ (s.mainBad n a b).2.gov = s.gov := by
  have k := (mainBad_leaves s n a b).2
  exact ⟨only_g k (by decide), k.parts.rst (by simp [Foot.of]), k.parts.mem (by simp [Foot.of]), k.parts.fus (by simp [Foot.of]), k.parts.upd (by simp [Foot.of]),
    fun j => slots_congr (k.parts.upd (by simp [Foot.of])) (k.parts.gov (by simp [Foot.of])) j, only_on k (by decide), k.parts.gov (by simp [Foot.of])⟩

theorem tryPending_eq (s : State) (p : Nat) (a b : Bool) : s.tryPending p a b = if (s.mainBad p a b).1 = 0 then
      (true, ((s.mainBad p a b).2.toSlot p 5 0).withUpd { ((s.mainBad p a b).2.toSlot p 5 0).upd with trial := some p })
    else (false, (s.mainBad p a b).2.toSlot p 7 (s.mainBad p a b).1) := rfl

theorem exec_main_pending (a b : Bool) (h : s.bootRuns 7 = true) (ht : s.upd.trial = none) {p : Nat} (hp : s.slotIn [0, 1] 4 = some p) :
    exec (.mainImage a b) s = .next (if (s.begin.mainBad p a b).1 = 0 then
        (((s.begin.mainBad p a b).2.toSlot p 5 0).withUpd { ((s.begin.mainBad p a b).2.toSlot p 5 0).upd with trial := some p }).bootMain p
      else ((s.begin.mainBad p a b).2.toSlot p 7 (s.begin.mainBad p a b).1).mainActive a b) := by
  have hend : s.begin.endTrial = s.begin := by
    unfold State.endTrial
    rw [begin_upd, ht]
  have hpend : s.begin.endTrial.slotIn [0, 1] 4 = some p := by
    rw [hend]
    exact (slotIn_congr (fun k => slots_congr (begin_upd s) (begin_gov s) k) 4).trans hp
  have htry := tryPending_eq s.begin p a b
  refine congrArg Host.Outcome.next ((if_pos (show s.begin.bootRuns 7 = true from h)).trans ?_)
  dsimp only
  rw [hpend, hend]
  generalize s.begin = v at *
  show (if (v.tryPending p a b).1 = true then (v.tryPending p a b).2.bootMain p else (v.tryPending p a b).2.mainActive a b) = _
  by_cases h0 : (v.mainBad p a b).1 = 0
  · rw [if_pos h0] at htry ⊢
    rw [htry]
    exact if_pos rfl
  · rw [if_neg h0] at htry ⊢
    rw [htry]
    exact if_neg Bool.false_ne_true

theorem exec_main_active (a b : Bool) (h : s.bootRuns 7 = true) (ht : s.upd.trial = none) (hp : s.slotIn [0, 1] 4 = none) :
    exec (.mainImage a b) s = .next (s.begin.mainActive a b) := by
  have hend : s.begin.endTrial = s.begin := by
    unfold State.endTrial
    rw [begin_upd, ht]
  have hpend : s.begin.endTrial.slotIn [0, 1] 4 = none := by
    rw [hend]
    exact (slotIn_congr (fun k => slots_congr (begin_upd s) (begin_gov s) k) 4).trans hp
  refine congrArg Host.Outcome.next ((if_pos (show s.begin.bootRuns 7 = true from h)).trans ?_)
  dsimp only
  rw [hpend, hend]

theorem mainActive_first (s : State) (a b : Bool) (hn : s.slotIn [0, 1] 6 = some n) (h : s.rst.alt = false) :
    s.mainActive a b = if (s.mainBad n a b).1 = 0 then (s.mainBad n a b).2.bootMain n else (s.mainBad n a b).2.stepFails (s.mainBad n a b).1 := by
  unfold State.mainActive
  rw [hn, h]
  rfl

/-- The alternative boots the other slot where it is verified, the active one again where it is not. -/
theorem mainActive_second (s : State) (a b : Bool) (hn : s.slotIn [0, 1] 6 = some n) (h : s.rst.alt = true) :
    s.mainActive a b = if (s.mainBad n a b).2.slotState (otherSlot n) = 3 then
        if ((s.mainBad n a b).2.mainBad (otherSlot n) a b).1 = 0 then
          ((((s.mainBad n a b).2.mainBad (otherSlot n) a b).2.toSlot (otherSlot n) 6 0).toSlot n 7 (s.mainBad n a b).1).bootMain (otherSlot n)
        else ((s.mainBad n a b).2.mainBad (otherSlot n) a b).2.stepFails ((s.mainBad n a b).2.mainBad (otherSlot n) a b).1
      else if (s.mainBad n a b).1 = 0 then (s.mainBad n a b).2.bootMain n else (s.mainBad n a b).2.stepFails (s.mainBad n a b).1 := by
  unfold State.mainActive
  rw [hn]
  show (if s.rst.alt = true then s.mainAlt n a b else _) = _
  rw [if_pos h]
  unfold State.mainAlt
  dsimp only

theorem otherSlot_lt (hn : n < 2) : otherSlot n < 2 ∧ (∀ p, p < 2 → p ≠ n → p = otherSlot n) := by
  rcases (by omega : n = 0 ∨ n = 1) with rfl | rfl
  · exact ⟨by decide, fun p _ _ => show p = 1 by omega⟩
  · exact ⟨by decide, fun p _ _ => show p = 0 by omega⟩

/-- With a slot rejected just now, the work on the active image leaves it so. -/
theorem mainActive_stands (s : State) (a b : Bool) (hstep : s.g F.RST_BOOT_STAT_STEP = 7) {p : Nat} (hp : p < 2) (h7 : s.slotState p = 7) : SlotsStand s (s.mainActive a b) := by
  cases hn : s.slotIn [0, 1] 6 with
  | none =>
    have hrun : s.mainActive a b = s.stepFails 0 := by
      unfold State.mainActive
      rw [hn]
    rw [hrun]
    exact imageFails_stands s 0 hstep
  | some n =>
    obtain ⟨hlt, h6⟩ := slotIn_some hn
    obtain ⟨m1, -, -, -, -, m2, m3, -⟩ := mainBad_stands s n a b
    have hbad : SlotsStand s (s.mainBad n a b).2 := ⟨m2, fun hr => m3.trans hr⟩
    have hone : SlotsStand s (if (s.mainBad n a b).1 = 0 then (s.mainBad n a b).2.bootMain n else (s.mainBad n a b).2.stepFails (s.mainBad n a b).1) := by
      split_ifs
      · exact hbad.trans (bootMain_leaves _ hlt (m1.trans hstep)).stands
      · exact hbad.trans (imageFails_stands _ _ (m1.trans hstep))
    cases halt : s.rst.alt with
    | false =>
      rw [mainActive_first s a b hn halt]
      exact hone
    | true =>
      rw [mainActive_second s a b hn halt, if_neg]
      · exact hone
      · have hne : p ≠ n := fun he => by rw [he, h6] at h7; omega
        rw [m2, ← (otherSlot_lt hlt).2 p hp hne, h7]
        decide


theorem begin_mainBad (s : State) (n : Nat) (a b : Bool) : (s.begin.mainBad n a b).1 = (s.mainBad n a b).1 := mainBad_congr (begin_mem s) (begin_fus s) (begin_upd s) n a b

theorem toSlot_step (s : State) (hn : n < 6) (st rej : Nat) : (s.toSlot n st rej).g F.RST_BOOT_STAT_STEP = s.g F.RST_BOOT_STAT_STEP := toSlot_g s hn (by decide) st rej

/-- A pending main slot boots as a trial, or is rejected. -/
theorem pending_leaves (a b : Bool) {p : Nat} (h : s.bootRuns 7 = true) (ht : s.upd.trial = none) (hsh : s.shaped = true) (hp : s.slotIn [0, 1] 4 = some p) :
    ((s.mainBad p a b).1 = 0 →
      ∃ t, exec (.mainImage a b) s = .next t ∧ t.slotState p = 5 ∧ t.upd.trial = some p ∧ t.g F.UPD_STAT_MAIN_ACT = p ∧ t.on F.UPD_STAT_TRIAL = true
        ∧ t.g F.UPD_VER_VER = s.slotField p 24 4 ∧ t.g F.RST_BOOT_STAT_STEP = 8)
    ∧ ((s.mainBad p a b).1 ≠ 0 → ∃ t, exec (.mainImage a b) s = .next t ∧ t.slotState p = 7 ∧ t.on F.UPD_EVT_REJECTED = true) := by
  obtain ⟨hstep, -⟩ := step_of_runs h
  obtain ⟨hlt, -⟩ := slotIn_some hp
  have hrun := exec_main_pending a b h ht hp
  rw [begin_mainBad] at hrun
  obtain ⟨m1, -, m3, -, m5, -, -, m8⟩ := mainBad_stands s.begin p a b
  generalize (s.begin.mainBad p a b).2 = w at *
  have htab : SlotTables w := tables_congr (shaped_slots hsh) m5 m8
  have hw : w.g F.RST_BOOT_STAT_STEP = 7 := m1.trans ((begin_g ..).trans hstep)
  refine ⟨fun h0 => ?_, fun h0 => ?_⟩
  · rw [if_pos h0] at hrun
    have k := toSlot_set w p 5 0
    have hst := k.same htab (by omega) (by omega)
    have hs := (toSlot_step w (n := p) (by omega) 5 0).trans hw
    have hm := toSlot_mem w p 5 0
    generalize w.toSlot p 5 0 = v at *
    have hz := bootMain_leaves (v.withUpd { v.upd with trial := some p }) hlt ((withUpd_g ..).trans hs)
    have hsame : (v.withUpd { v.upd with trial := some p }).slotState p = 5 := hst
    refine ⟨_, hrun, (hz.states p).trans hsame, hz.trialSlot, hz.slot, hz.trial.trans (by rw [hsame]; rfl), hz.version.trans ?_, hz.step⟩
    exact slotField_mem ((withUpd_mem ..).trans (hm.trans (m3.trans (begin_mem s)))) _ _ _
  · rw [if_neg h0] at hrun
    have hst := (toSlot_set w p 7 (s.mainBad p a b).1).same htab (by omega) (by omega)
    have hs := (toSlot_step w (n := p) (by omega) 7 (s.mainBad p a b).1).trans hw
    have hev := (toSlot_events w p 7 (s.mainBad p a b).1).2 rfl
    generalize w.toSlot p 7 (s.mainBad p a b).1 = v at *
    have hz := mainActive_stands v a b hs hlt hst
    exact ⟨_, hrun, (hz.states p).trans hst, hz.rejected hev⟩

/-- With none pending the active slot boots, or its alternative. -/
theorem active_leaves (a b : Bool) (h : s.bootRuns 7 = true) (ht : s.upd.trial = none) (hsh : s.shaped = true) (hp : s.slotIn [0, 1] 4 = none) (hn : s.slotIn [0, 1] 6 = some n) :
    ((s.mainBad n a b).1 = 0 → s.rst.alt = false →
      ∃ t, exec (.mainImage a b) s = .next t ∧ t.g F.UPD_STAT_MAIN_ACT = n ∧ t.g F.RST_BOOT_STAT_SLOT_B = n ∧ t.on F.UPD_STAT_TRIAL = false
        ∧ t.g F.UPD_VER_VER = s.slotField n 24 4 ∧ t.slotState n = 6 ∧ t.g F.RST_BOOT_STAT_STEP = 8)
    ∧ ((s.mainBad n a b).1 ≠ 0 → s.rst.alt = false →
      ∃ t, exec (.mainImage a b) s = .next t ∧ t.g F.RST_BOOT_STAT_STEP = 7 ∧ t.rst.alt = true
        ∧ (s.rst.journalOpen = true → tbit (t.g F.RST_BJ_AVOID_AVOID) 7 = true)
        ∧ (s.defLevel S.RST_BOOT_ALT ≠ 0 → t.on (fltPend S.RST_BOOT_ALT) = true))
    ∧ ((s.mainBad n a b).1 ≠ 0 → s.rst.alt = true → s.slotState (otherSlot n) ≠ 3 →
      ∃ t, exec (.mainImage a b) s = .next t ∧ t.g F.RST_BOOT_STAT_PHASE = 3 ∧ t.on F.UPD_STAT_RECOVERY = true)
    ∧ ((s.mainBad n a b).1 ≠ 0 → s.rst.alt = true → s.slotState (otherSlot n) = 3 → (s.mainBad (otherSlot n) a b).1 = 0 →
      ∃ t, exec (.mainImage a b) s = .next t ∧ t.g F.UPD_STAT_MAIN_ACT = otherSlot n ∧ t.slotState (otherSlot n) = 6 ∧ t.slotState n = 7
        ∧ t.g F.RST_BOOT_STAT_STEP = 8) := by
  obtain ⟨hstep, -⟩ := step_of_runs h
  obtain ⟨hlt, h6⟩ := slotIn_some hn
  have hrun := exec_main_active a b h ht hp
  have hbst : ∀ k, s.begin.slotState k = s.slotState k := fun k => slots_congr (begin_upd s) (begin_gov s) k
  have hn' : s.begin.slotIn [0, 1] 6 = some n := (slotIn_congr hbst 6).trans hn
  have hfirst := mainActive_first s.begin a b hn'
  have hsecond := mainActive_second s.begin a b hn'
  rw [begin_mainBad] at hfirst hsecond
  have hdef : (s.begin.mainBad n a b).2.defLevel S.RST_BOOT_ALT = s.defLevel S.RST_BOOT_ALT := by
    have k := (mainBad_leaves s.begin n a b).2
    rw [State.defLevel, only_on k (by decide), only_g k (by decide), begin_on, begin_g, ← State.defLevel]
  obtain ⟨m1, m2, m3, m4, m5, m6, -, m8⟩ := mainBad_stands s.begin n a b
  generalize (s.begin.mainBad n a b).2 = w at *
  have hw : w.g F.RST_BOOT_STAT_STEP = 7 := m1.trans ((begin_g ..).trans hstep)
  have hrst : w.rst = s.rst := m2
  refine ⟨fun h0 halt => ?_, fun h0 halt => ?_, fun h0 halt h3 => ?_, fun h0 halt h3 ho => ?_⟩
  · rw [hfirst halt, if_pos h0] at hrun
    have hz := bootMain_leaves w hlt hw
    have hst : w.slotState n = 6 := (m6 n).trans ((hbst n).trans h6)
    refine ⟨_, hrun, hz.slot, hz.shown, hz.trial.trans (by rw [hst]; rfl), hz.version.trans (slotField_mem (m3.trans (begin_mem s)) _ _ _), (hz.states n).trans hst, hz.step⟩
  · rw [hfirst halt, if_neg h0] at hrun
    obtain ⟨k, halt'⟩ := stepFails_alt w (s.mainBad n a b).1 hw rfl rfl (by rw [hrst]; exact halt) (by decide)
    exact ⟨_, hrun, k.step, halt', fun hj => k.avoid (by rw [hrst]; exact hj), fun hd => k.level (by rwa [hdef])⟩
  · rw [hsecond halt, if_neg (by rwa [m6, hbst]), if_neg h0, stepFails_recovery w _ hw (.inl rfl) (by rw [hrst]; exact halt)] at hrun
    obtain ⟨r1, r2, -⟩ := enterRecovery_leaves (w.stepFailed (s.mainBad n a b).1)
    exact ⟨_, hrun, r1, r2⟩
  · have hcode : (w.mainBad (otherSlot n) a b).1 = 0 := (mainBad_congr (m3.trans (begin_mem s)) (m4.trans (begin_fus s)) (m5.trans (begin_upd s)) _ _ _).trans ho
    rw [hsecond halt, if_pos (by rwa [m6, hbst]), if_pos hcode] at hrun
    obtain ⟨q1, -, -, -, q5, -, -, q8⟩ := mainBad_stands w (otherSlot n) a b
    generalize (w.mainBad (otherSlot n) a b).2 = v at *
    obtain ⟨hol, -⟩ := otherSlot_lt hlt
    have htab : SlotTables v := tables_congr (shaped_slots hsh) (q5.trans m5) (q8.trans m8)
    have k1 := toSlot_set v (otherSlot n) 6 0
    have hs1 := (toSlot_step v (n := otherSlot n) (by omega) 6 0).trans (q1.trans hw)
    generalize v.toSlot (otherSlot n) 6 0 = x at *
    have k2 := toSlot_set x n 7 (s.mainBad n a b).1
    have hs2 := (toSlot_step x (n := n) (by omega) 7 (s.mainBad n a b).1).trans hs1
    generalize x.toSlot n 7 (s.mainBad n a b).1 = y at *
    have hz := bootMain_leaves y hol hs2
    refine ⟨_, hrun, hz.slot, (hz.states _).trans ((k2.other (otherSlot_ne n)).trans (k1.same htab (by omega) (by omega))), (hz.states _).trans (k2.same (k1.tables htab) (by omega) (by omega)), hz.step⟩

/-- Settles O50: each step by its lemmas, the images by the checks of their slots. -/
theorem bootStepsOfGarnet : Obligations.BootStepsOfGarnet := by
  unfold Obligations.BootStepsOfGarnet
  refine ⟨fun s pmb bad h => ?_, fun s fails h => mbist_leaves fails h, fun s h hok => journal_valid h hok, fun s h hbad h0 h1 hs => journal_fresh h hbad h0 h1 hs,
    fun s a b p h ht hsh hp => pending_leaves a b h ht hsh hp, fun s a b n h ht hsh hp hn => active_leaves a b h ht hsh hp hn, fun s a b pmb bad fails => ?_⟩
  · obtain ⟨h0, h4⟩ := fuseLoad_stops pmb bad h
    exact ⟨fun hn0 hn4 => fuseLoad_leaves pmb bad h hn0 hn4, h0, h4⟩
  · have hrest : ∀ c, s.bootRuns c = false → ¬ s.begin.bootRuns c = true := fun c hc => ne_true_of_eq_false hc
    exact ⟨fun hc => congrArg Host.Outcome.next (if_neg (hrest _ hc)), fun hc => congrArg Host.Outcome.next (if_neg (hrest _ hc)),
      fun hc => congrArg Host.Outcome.next (if_neg (hrest _ hc)), fun hc => congrArg Host.Outcome.next (if_neg (hrest _ hc))⟩

end Sys2Proof.Proofs.BootOfGarnet
end

section
/-! PROOF. The boot steps from GRANITE to KERNELS (BootStepsToKernels): Flint's watchdog kicked again by GRANITE within its window. -/

namespace Sys2Proof.Proofs.BootToKernels

open Sys2Proof.Machine Sys2Proof.Laws Sys2Proof.Proofs.Architecture Sys2Proof.Proofs.Reading Sys2Proof.Proofs.GovernorSums
  Sys2Proof.Proofs.PendingFaults Sys2Proof.Proofs.LampReactions Sys2Proof.Proofs.LampLanes Sys2Proof.Proofs.RegisterMap Sys2Proof.Proofs.Commits
  Sys2Proof.Proofs.DeviceResets Sys2Proof.Proofs.FlintLockOut Sys2Proof.Proofs.PageCommits Sys2Proof.Proofs.BlockResets Sys2Proof.Proofs.BootSteps Sys2Proof.Proofs.BootOfGarnet

variable {s t u v : State} {f : Fld} {n c : Nat}

/-! ### A warm reset puts the boot back to its start -/

/-- Where two words agree on a mask that holds a field, they agree on the field. -/
theorem wordField_masked {w r m : Word} {hi lo : Nat} (hh : hi < 32) (hm : m &&& fieldMask hi lo = fieldMask hi lo) (h : w &&& m = r &&& m) : wordField w hi lo = wordField r hi lo := by
  apply Nat.eq_of_testBit_eq
  intro i
  rw [wordField_bit, wordField_bit]
  by_cases hi' : i < hi + 1 - lo
  · have hmask : (fieldMask hi lo).getLsbD (lo + i) = true := by
      rw [fieldMask_bit _ _ _ hh]
      simp
      omega
    have hmi : m.getLsbD (lo + i) = true := by
      have hb := congrArg (fun x : Word => x.getLsbD (lo + i)) hm
      simpa [BitVec.getLsbD_and, hmask] using hb
    have hb := congrArg (fun x : Word => x.getLsbD (lo + i)) h
    simp only [BitVec.getLsbD_and, hmi, Bool.and_true] at hb
    rw [hb]
  · simp [hi']

theorem resetBank_step (h : u.regs = resetBank warmMask s.regs) : u.g F.RST_BOOT_STAT_STEP = 0 := by
  have hm := resetBank_mask warmMask s.regs F.RST_BOOT_STAT_STEP.addr
  rw [← h] at hm
  exact (wordField_masked (by decide) (by decide) hm).trans (by decide)

theorem afterWarm_step (s : State) : s.afterWarm.g F.RST_BOOT_STAT_STEP = 0 := by
  unfold State.afterWarm
  extract_lets sig cdr crit src1 src2 src3 src4 src5 src6 src7 src8 src9 src10 src11 src12 t0 t1 t2 t3
  have h0 : t0.g F.RST_BOOT_STAT_STEP = 0 := resetBank_step (s := s) rfl
  have h3 : t3.g F.RST_BOOT_STAT_STEP = 0 := by
    simp only [t3, t2, t1]
    rw [g_put_sep _ _ (by decide), g_put_sep _ _ (by decide), g_put_sep _ _ (by decide), g_put_sep _ _ (by decide), g_put_sep _ _ (by decide)]
    exact h0
  split_ifs
  · exact h3
  · rw [State.addSat, g_put_sep _ _ (by decide), g_put_sep _ _ (by decide)]
    exact h3

theorem warmReset_step (s : State) {cause : Fld} (hc : sep cause F.RST_BOOT_STAT_STEP = true) (hs : s.rst.scope = none) :
    (s.warmReset cause false).g F.RST_BOOT_STAT_STEP = 0 := by
  have hsense : (warmSensed s).g F.RST_BOOT_STAT_STEP = 0 := by
    have h := afterWarm_step s.endJob
    unfold warmSensed State.tapReset State.senseFuses
    generalize s.endJob.afterWarm = w at *
    rw [withSec_g, g_put_sep _ _ (by decide), g_put_sep _ _ (by decide), g_put_sep _ _ (by decide), g_put_sep _ _ (by decide), g_put_sep _ _ (by decide), g_put_sep _ _ (by decide),
      only_g (senseRows_only w) (by decide), h]
  rw [warmReset_eq, if_neg (by rw [hs]; decide)]
  generalize warmSensed s = w at *
  unfold warmShown
  have hrc : ∀ u : State, (u.rcRestart false).g F.RST_BOOT_STAT_STEP = u.g F.RST_BOOT_STAT_STEP := fun u =>
    fits_g (rcRestart_fits (g := Foot.of [0x01] [.quartz]) u false (by decide) (fits_refl _ u)) rfl (by decide)
  rw [hrc, g_put_sep _ _ (by decide), g_put_sep _ _ (by decide), g_put_sep _ _ hc, hsense]


/-! ### A kick within the window -/

/-- A kick of Flint's watchdog less than 25 µs after the last is its expiry. -/
theorem kick_early (s : State) {k : Nat} (hk : s.saf.lastKick = some k) (hw : s.now - k < us 25) : s.flintKick 0xC3#32 = s.flintWdt := by
  unfold State.flintKick
  rw [if_pos (by decide), hk]
  exact if_pos hw

theorem flintWdt_step (s : State) (hs : s.rst.scope = none) : s.flintWdt.g F.RST_BOOT_STAT_STEP = 0 := by
  unfold State.flintWdt
  have hraise : ∀ w : State, (w.raiseTrig S.SAF_FLINT_WDT 0 6 0 false).rst = w.rst := fun w =>
    within_rst (raiseTrig_fits (g := Foot.of [0x00, 0x40, 0x50, 0x68, 0x70, 0x71] [.flt, .evr, .saf, .lanes]) w _ _ _ _ _ rfl (by decide) (fits_refl _ w)).within rfl rfl
  refine warmReset_step _ (by decide) ?_
  rw [hraise]
  exact (congrArg Rst.scope (evt_rst s F.SAF_EVT_WDT_EXP)).trans hs

/-- The setup of Flint with the commit of its page held by a block reset, and its kick early. -/
theorem flintSetup_step (s : State) (hb : s.blockRunning 0x68 = true) {k : Nat} (hk : s.saf.lastKick = some k) (hw : s.now - k < us 25) (hs : s.rst.scope = none) :
    s.flintSetup.g F.RST_BOOT_STAT_STEP = 0 := by
  unfold State.flintSetup
  rw [go_blocked s hb, kick_early _ (by rw [State.rejectPage, put_saf, put_saf]; exact hk) (by rw [State.rejectPage, put_now, put_now]; exact hw)]
  exact flintWdt_step _ (by rw [State.rejectPage, put_rst, put_rst]; exact hs)

/-! ### GRANITE with such a kick -/

/-- The image and the manifest in Granite RAM. -/
def bundlePlaced (s : State) (n : Nat) : State :=
  let s := s.setBytes 0x30000000 (s.granitePart n 0)
  s.setBytes 0x3007B000 (s.slotBytes n (s.slotField n 48 4) 200)

theorem hasTables_mem (h : t.mem = s.mem) (n p : Nat) : t.hasTables n p = s.hasTables n p := by
  rw [State.hasTables, State.hasTables, State.graniteEntry, State.graniteEntry, slotField_mem h, slotBytes_mem h]

/-- Without tables for any profile Flint is set up at once. -/
theorem bootGranite_bare (s : State) (n : Nat) (h : ∀ p, p < 4 → (bundlePlaced s n).hasTables n p = false) :
    s.bootGranite n = ((bundlePlaced s n).showBundle n).flintSetup.stepDone (n - 2) := by
  have hrun : s.bootGranite n = (if ((bundlePlaced s n).showBundle n).hasTables n (((bundlePlaced s n).showBundle n).g F.PRF_STAT_STRAP)
      then (((bundlePlaced s n).showBundle n).tryTables n (((bundlePlaced s n).showBundle n).g F.PRF_STAT_STRAP)).2 else (bundlePlaced s n).showBundle n).flintSetup.stepDone (n - 2) := rfl
  have hmem : ((bundlePlaced s n).showBundle n).mem = (bundlePlaced s n).mem := within_mem (showBundle_fits _ n (le_self _) (fits_refl _ _)).within rfl rfl
  have hp : ((bundlePlaced s n).showBundle n).g F.PRF_STAT_STRAP < 4 := lt_of_le_of_lt (g_le_top _ _) (by decide)
  rw [hrun, hasTables_mem hmem, h _ hp]
  rfl

theorem bundlePlaced_keeps (s : State) (n : Nat) : s.Fits (Foot.of [] [.mem]) (bundlePlaced s n) := by
  unfold bundlePlaced
  exact setBytes_fits _ _ rfl (setBytes_fits _ _ rfl (fits_refl _ s))

/-- GRANITE with a good bundle, the kick early and Flint's own commit held back: the boot is at its first step again. -/
theorem bootGranite_restarts (s : State) (n : Nat) (h : ∀ p, p < 4 → (bundlePlaced s n).hasTables n p = false) (hb : s.blockRunning 0x68 = true) {k : Nat}
    (hk : s.saf.lastKick = some k) (hw : s.now - k < us 25) (hs : s.rst.scope = none) : (s.bootGranite n).g F.RST_BOOT_STAT_STEP = 1 := by
  rw [bootGranite_bare s n h]
  have hf : s.Fits (Foot.of [0x02, 0x40, 0x81] [.mem]) ((bundlePlaced s n).showBundle n) := showBundle_fits _ n (le_self _) (fits_mono (by decide) (bundlePlaced_keeps s n))
  generalize (bundlePlaced s n).showBundle n = w at *
  have hrst : w.rst = s.rst := within_rst hf.within rfl rfl
  have hstep := flintSetup_step w (by rw [State.blockRunning, hrst]; exact hb) (by rw [within_saf hf.within rfl rfl]; exact hk) (by rw [within_now hf.within rfl rfl]; exact hw)
    (by rw [hrst]; exact hs)
  have hdone := (stepDone_started w.flintSetup (n - 2) hstep (by decide)).step
  rw [hdone, stepAt]
  simp [stepOptional]

theorem exec_granite_active (a b fuse : Bool) {k : Nat} (h : s.bootRuns 8 = true) (hh : s.saf.halted = false) (hp : s.slotIn [2, 3] 4 = none) (hk : s.gov.active = some k)
    (halt : s.rst.alt = false) (hr : (s.begin.checkGranite (2 + k) (graniteOk (2 + k) a b)).1 = 0) :
    exec (.granite a b fuse) s = .next ((s.begin.checkGranite (2 + k) (graniteOk (2 + k) a b)).2.bootGranite (2 + k)) := by
  have hp' : s.begin.slotIn [2, 3] 4 = none := by
    rw [State.slotIn, show s.begin.slotState = s.slotState from funext fun j => Sys2Proof.Proofs.SlotStates.slots_congr (begin_upd s) (begin_gov s) j]
    exact hp
  have hboot : s.begin.graniteBoot a b = if (s.begin.checkGranite (2 + k) (graniteOk (2 + k) a b)).1 = 0
      then (s.begin.checkGranite (2 + k) (graniteOk (2 + k) a b)).2.bootGranite (2 + k) else (s.begin.checkGranite (2 + k) (graniteOk (2 + k) a b)).2.stepFails
        (s.begin.checkGranite (2 + k) (graniteOk (2 + k) a b)).1 := by
    unfold State.graniteBoot
    rw [begin_gov, hk]
    exact if_neg (by rw [begin_rst, halt]; decide)
  refine congrArg Host.Outcome.next ((if_pos (by simp [show s.begin.bootRuns 8 = true from h, hh])).trans ?_)
  dsimp only
  rw [hp', hboot]
  exact if_pos hr

/-! ### A bundle of Granite without an image or tables -/

/-- The SHA-256 of no bytes. -/
def emptyDigest : List Byte :=
  [0xe3, 0xb0, 0xc4, 0x42, 0x98, 0xfc, 0x1c, 0x14, 0x9a, 0xfb, 0xf4, 0xc8, 0x99, 0x6f, 0xb9, 0x24, 0x27, 0xae, 0x41, 0xe4, 0x64, 0x9b, 0x93, 0x4c, 0xa4, 0x95, 0x99, 0x1b, 0x78, 0x52, 0xb8, 0x55]

theorem sha256_nil : sha256 [] = emptyDigest := by decide +kernel

/-- The header, the manifest of five empty parts, and the signature block of the bundle. -/
def bareBundle : List Byte :=
  leBytes 4 0x4C594731 ++ leBytes 2 1 ++ List.replicate 14 0 ++ leBytes 4 1 ++ List.replicate 20 0 ++ leBytes 4 456 ++ leBytes 4 64 ++ List.replicate 12 0
    ++ (List.replicate 5 (List.replicate 8 0 ++ emptyDigest)).flatten
    ++ leBytes 4 0x4C595331 ++ [2, 0, 0, 0] ++ leBytes 4 264 ++ List.replicate 180 0

/-- A boot at GRANITE with that bundle in the active slot, SAF in a block reset, and Flint's watchdog kicked this very moment. -/
def kickedAtGranite : State :=
  let s := State.blank.withRst { Rst.init with scope := none, blocks := [⟨0x68, true⟩] }
  let s := (s.put F.RST_BOOT_STAT_STEP 8).put F.CLK_STAT_ROOT_OK 1
  let s := (s.withGov { s.gov with active := some 0 }).withSaf { s.saf with lastKick := some 0, halted := false }
  let s := s.withFus { s.fus with rows := s.fus.rows.set 12 1 }
  s.withMem (bareBundle.zipIdx.map fun e => (slotBase 2 + e.2, e.1))

/-- A command that begins with nothing raised or triggered yet leaves the state. -/
theorem begin_rested (s : State) (hf : s.flt.fresh = []) (ht : s.saf.trigNow = 0) : s.begin = s := by
  have h1 : { s.flt with fresh := [] } = s.flt := by rw [← hf]
  have h2 : { s.saf with trigNow := 0 } = s.saf := by rw [← ht]
  calc s.begin = (s.withFlt { s.flt with fresh := [] }).withSaf { s.saf with trigNow := 0 } := rfl
    _ = (s.withFlt s.flt).withSaf s.saf := by rw [h1, h2]
    _ = s := rfl

theorem kicked_begin : kickedAtGranite.begin = kickedAtGranite := begin_rested _ rfl rfl

/-- The checks of a bundle of Granite, with what its digest and its parts say. -/
def graniteCode (s : State) (ok same parts : Bool) (n total : Nat) : Nat :=
  let h := s.slotBytes n 0 64
  let no := ofLe (slice h 20 4)
  let count := s.approvals
  if !ok then 1
  else if ofLe (slice h 8 4) ≠ s.fuse 1 then 2
  else if s.wrongUnit (ofLe (slice h 12 8)) then 3
  else if no < count then 4
  else if count + 1 < no then 5
  else if no = count && !same && s.slotState n ≠ 4 then 6
  else if count = 128 && decide (128 < no) then 7
  else if ofLe (slice h 0 4) ≠ 0x4C594731 || ofLe (slice h 4 2) ≠ 1 || !allZero h 6 2 || !allZero h 52 12 || decide (0x200000 < total) then 8
  else if total < s.slotField n 48 4 + 200 || !parts then 9
  else 0

/-- Whether the bundle is the active one. -/
def sameBundle (s : State) (n : Nat) : Bool := match s.gov.active with | some a => s.graniteDigest n = s.graniteDigest (2 + a) | none => false

theorem checkGranite_eq (s : State) (n : Nat) (v : Bool) : s.checkGranite n v =
    (graniteCode (s.slotSig n 2 v (s.slotField n 44 4)).2 (s.slotSig n 2 v (s.slotField n 44 4)).1 (sameBundle (s.slotSig n 2 v (s.slotField n 44 4)).2 n)
      ((List.range 5).all (fun i => (s.slotSig n 2 v (s.slotField n 44 4)).2.partOk n i (s.slotField n 44 4))) n (s.slotField n 44 4), (s.slotSig n 2 v (s.slotField n 44 4)).2) := rfl

/-- With a good signature the checks leave the state. -/
theorem checkGranite_signed (s : State) (n : Nat) (v : Bool) (h : sigHolds s n 2 v (s.slotField n 44 4) = true) :
    s.checkGranite n v = (graniteCode s true (sameBundle s n) ((List.range 5).all (fun i => s.partOk n i (s.slotField n 44 4))) n (s.slotField n 44 4), s) := by
  rw [checkGranite_eq, slotSig_eq, h]
  rfl

/-- A part without bytes, with the digest of none. -/
theorem partOk_empty {i total : Nat} (h : s.graniteEntry n i = (0, 0, emptyDigest)) : s.partOk n i total = true := by
  have hbytes : s.granitePart n i = [] := by
    rw [State.granitePart, h]
    rfl
  unfold State.partOk
  rw [h]
  dsimp only
  rw [hbytes, sha256_nil]
  simp

theorem kicked_parts (s : State) (hs : s = kickedAtGranite) : (List.range 5).all (fun i => s.partOk 2 i (s.slotField 2 44 4)) = true := by
  have hentry : ∀ i, i < 5 → s.graniteEntry 2 i = (0, 0, emptyDigest) := by
    rw [hs]
    decide +kernel
  exact List.all_eq_true.2 fun i hi => partOk_empty (hentry i (List.mem_range.1 hi))

theorem kicked_signed : sigHolds kickedAtGranite 2 2 true (kickedAtGranite.slotField 2 44 4) = true := by decide +kernel

theorem kicked_code : ∀ b, graniteCode kickedAtGranite true b true 2 (kickedAtGranite.slotField 2 44 4) = 0 := by decide +kernel

theorem kicked_checks : kickedAtGranite.checkGranite 2 true = (0, kickedAtGranite) := by
  have hsig := kicked_signed
  have hcode := kicked_code
  have hparts := kicked_parts _ rfl
  generalize kickedAtGranite = s at *
  rw [checkGranite_signed s 2 true hsig, hparts, hcode]

/-- Refutes O51: where Flint's watchdog was kicked less than 25 µs before, the kick that GRANITE ends with is the watchdog's expiry, and the warm reset
of it leaves the boot at its first step. -/
theorem not_bootStepsToKernels : ¬ Obligations.BootStepsToKernels := by
  rintro ⟨-, hgranite, -⟩
  have hruns : kickedAtGranite.bootRuns 8 = true := by decide +kernel
  have hnone : kickedAtGranite.slotIn [2, 3] 4 = none := by decide +kernel
  obtain ⟨t, hexec, hstep, -⟩ := (hgranite kickedAtGranite true true true 0 hruns rfl (by decide +kernel) hnone rfl (by decide) rfl).1 (congrArg Prod.fst kicked_checks)
  have hrun := exec_granite_active (s := kickedAtGranite) true true true (k := 0) hruns rfl hnone rfl rfl (by rw [kicked_begin]; exact congrArg Prod.fst kicked_checks)
  have hone := bootGranite_restarts kickedAtGranite 2 (by decide +kernel) rfl (k := 0) rfl (by decide +kernel) rfl
  have ht : t = kickedAtGranite.bootGranite 2 := by
    rw [kicked_begin, show kickedAtGranite.checkGranite (2 + 0) (graniteOk (2 + 0) true true) = (0, kickedAtGranite) from kicked_checks] at hrun
    exact Host.Outcome.next.inj (hexec.symm.trans hrun)
  rw [ht, hone] at hstep
  exact absurd hstep (by decide)

end Sys2Proof.Proofs.BootToKernels
end

section
/-! PROOF. Wake and exit (WakeAndExit): the exit from DEEP while a cold reset is in progress. -/

namespace Sys2Proof.Proofs.WakeExit

open Sys2Proof.Machine Sys2Proof.Laws

/-- An exit from DEEP that a pin event has taken the place of, with a cold reset in progress. -/
def pinnedInCold : State := { State.blank with rst := { Rst.init with scope := some .cold }, pwr := { Pwr.init with st := .ackExit, pinDeep := true } }

/-- Whether a step leaves PIN_DEEP among the causes. -/
def causeAfter (o : Host.Outcome State Fault Refusal) : Bool :=
  match o with
  | .next t => t.on F.RST_CAUSE_PIN_DEEP
  | _ => false

/-- Refutes O46: while a cold reset is in progress the warm reset that the pin event asks for does not begin, and its cause is not shown. -/
theorem not_wakeAndExit : ¬ Obligations.WakeAndExit := by
  rintro ⟨-, -, -, -, -, -, hpin, -⟩
  obtain ⟨t, hexec, hcause, -⟩ := hpin pinnedInCold Straps.default_ 0 rfl rfl
  have hrun : causeAfter (exec (.deepExit Straps.default_ 0) pinnedInCold) = false := by decide +kernel
  rw [hexec] at hrun
  exact absurd (hcause.symm.trans hrun) (by decide)

end Sys2Proof.Proofs.WakeExit
end

section
/-! PROOF. A fault that is detected leaves the armed injection and the sources' classes as they were. -/

namespace Sys2Proof.Proofs.SourcesStand

open Sys2Proof.Machine Sys2Proof.Laws Sys2Proof.Proofs.Architecture Sys2Proof.Proofs.Reading Sys2Proof.Proofs.GovernorSums Sys2Proof.Proofs.FaultWrites
  Sys2Proof.Proofs.DigestChecks Sys2Proof.Proofs.FrameFlips

variable {s : State} {f : Fld} {i : Nat}

section
variable (hf : markField f = true)

include hf

theorem detect_mark (s : State) (pages : List Nat) (inst addr : Nat) (inj : Bool) (hc : sep F.RST_BLK_STAT_CONSEQ_CNT f = true) (hi : i < 75) :
    (s.detect pages i inst addr inj).g f = s.g f := by
  unfold State.detect
  exact ite_g (fun _ => conseq_mark hf s i inst addr hc) (fun _ => raiseWith_mark hf s inst addr inj false hi)

theorem graniteFault_mark (s : State) (detail addr : Nat) (hi : i < 75) : (s.graniteFault i detail addr false).g f = s.g f := by
  obtain ⟨htr, -, -, h50, -⟩ := markField_iff.1 hf
  rw [graniteFault_eq]
  exact (flintTrigger_g _ _ _ _ htr h50).trans ((raiseWith_mark hf _ _ _ _ _ hi).trans (withSaf_g ..))

end

theorem injState : markField F.FLT_INJ_STATE = true := by decide

/-- With no injection armed, no source is. -/
theorem armed_idle (h : s.g F.FLT_INJ_STATE ≠ 1) (i : Nat) : s.armed i = false := by simp [State.armed, h]

theorem consumeInj_idle (h : s.g F.FLT_INJ_STATE ≠ 1) (i : Nat) : s.consumeInj i = s := if_neg (by rw [armed_idle h]; decide)

end Sys2Proof.Proofs.SourcesStand
end

section
/-! PROOF. What the values of a pixel are computed from: registers beside the compositor's page, memory, the glare engines and the layers in use. -/

namespace Sys2Proof.Proofs.SceneReads

open Sys2Proof.Machine Sys2Proof.Laws Sys2Proof.Proofs.Architecture Sys2Proof.Proofs.Reading Sys2Proof.Proofs.MemoryWords

variable {s t : State}

/-- Two states that agree in all that the compositor reads. -/
structure SameScene (s t : State) : Prop where
  field : ∀ f : Fld, f.page ≠ 0x18 → t.g f = s.g f
  mem : t.mem = s.mem
  glare : t.glare = s.glare
  active : t.cmp.active = s.cmp.active
  seam : t.cmp.seam = s.cmp.seam

section
variable (h : SameScene s t)

include h

theorem scene_layer {f : Fld} {n : Nat} (hp : f.page = 0x19 + n % 16) : t.g f = s.g f := h.field f (by omega)

theorem scene_flag {f : Fld} (hp : f.page ≠ 0x18) : t.on f = s.on f := by rw [State.on, State.on, h.field f hp]

theorem scene_layerFlag {f : Fld} {n : Nat} (hp : f.page = 0x19 + n % 16) : t.on f = s.on f := scene_flag h (by omega)

theorem scene_byte (a : Nat) : t.byte a = s.byte a := by rw [State.byte, State.byte, h.mem]

theorem scene_bytes (a n : Nat) : t.bytes a n = s.bytes a n := bytes_congr fun i _ => scene_byte h (a + i)

theorem scene_texelBytes (n u v : Nat) : t.texelBytes n u v = s.texelBytes n u v := by
  have hfront : t.front n = s.front n := by
    rw [State.front, State.front, scene_layer h (n := n) rfl, State.bufBase, State.bufBase, scene_layer h (n := n) rfl]
  have hpitch : t.pitch n = s.pitch n := by rw [State.pitch, State.pitch, scene_layer h (n := n) rfl]
  unfold State.texelBytes
  rw [hfront, hpitch, scene_layer h (f := F.LAY_CTRL_FMT n) (n := n) rfl]

theorem scene_texelWords (n u v : Nat) : t.texelWords n u v = s.texelWords n u v := by
  unfold State.texelWords
  rw [scene_texelBytes h, scene_layer h (f := F.LAY_CTRL_FMT n) (n := n) rfl]

theorem scene_cscRow (n r : Nat) (comp : List Nat) : t.cscRow n r comp = s.cscRow n r comp := by
  have hin : ∀ c, t.g (F.LAY_CSC_IOFS_IN_OFS n c) = s.g (F.LAY_CSC_IOFS_IN_OFS n c) := fun c => scene_layer h (n := n) rfl
  have ha : ∀ k, t.g (F.LAY_CSC_K_KA n k) = s.g (F.LAY_CSC_K_KA n k) := fun k => scene_layer h (n := n) rfl
  have hb : ∀ k, t.g (F.LAY_CSC_K_KB n k) = s.g (F.LAY_CSC_K_KB n k) := fun k => scene_layer h (n := n) rfl
  have hcsc : ∀ c, t.csc n r c = s.csc n r c := fun c => by simp only [State.csc, ha, hb]
  unfold State.cscRow
  simp only [hin, hcsc, scene_layer h (f := F.LAY_CSC_OOFS_OUT_OFS n r) (n := n) rfl]

theorem scene_video (n : Nat) (comp : List Nat) : t.video n comp = s.video n comp := by
  unfold State.video
  simp only [scene_cscRow h, scene_layerFlag h (f := F.LAY_BLEND_ROW1_ALPHA n) (n := n) rfl, scene_layerFlag h (f := F.LAY_BLEND_KEY_EN n) (n := n) rfl,
    scene_layer h (f := F.LAY_BLEND_KEY n) (n := n) rfl]

theorem scene_texel (bad : List Nat) (n u v : Nat) : t.texel bad n u v = s.texel bad n u v := by
  unfold State.texel
  simp only [scene_texelBytes h, scene_texelWords h, scene_bytes h, scene_video h, scene_layer h (f := F.LAY_CTRL_FMT n) (n := n) rfl]

theorem scene_dilated (bad : List Nat) (n u v : Nat) : t.dilated bad n u v = s.dilated bad n u v := by
  have hw : t.layW n = s.layW n := scene_layer h (n := n) rfl
  have hh : t.layH n = s.layH n := scene_layer h (n := n) rfl
  unfold State.dilated
  simp only [scene_texel h, hw, hh, scene_layer h (f := F.LAY_MASK_DIL_R n) (n := n) rfl]

theorem scene_source (n x y : Nat) : t.source n x y = s.source n x y := by
  have hw : t.layW n = s.layW n := scene_layer h (n := n) rfl
  have hh : t.layH n = s.layH n := scene_layer h (n := n) rfl
  unfold State.source
  simp only [hw, hh, scene_layer h (f := F.LAY_POS_X0 n) (n := n) rfl, scene_layer h (f := F.LAY_POS_Y0 n) (n := n) rfl,
    scene_layer h (f := F.LAY_CTRL_SX n) (n := n) rfl, scene_layer h (f := F.LAY_CTRL_SY n) (n := n) rfl]

theorem scene_glareM (bad : List Nat) (x y : Nat) : t.glareM bad x y = s.glareM bad x y := by
  have hmask : ∀ n x y, t.maskAddr n x y = s.maskAddr n x y := fun n x y => by
    rw [State.maskAddr, State.maskAddr, h.field F.GLR_MASK_BASE (by decide)]
  have hweight : t.seamWeight x = s.seamWeight x := by
    unfold State.seamWeight
    simp only [h.field F.GLR_SEAM_X_START (by decide), h.field F.GLR_SEAM_X_END (by decide), h.field F.GLR_SEAM_W_W_END (by decide)]
  unfold State.glareM
  simp only [hmask, hweight, scene_byte h, h.glare, h.seam, scene_flag h (f := F.UNIT_CTRL_ENABLE 0x30) (by decide)]

theorem scene_isGlare (n : Nat) : t.isGlare n = s.isGlare n := scene_layerFlag h (n := n) rfl

theorem scene_laneEnabled (n : Nat) : t.laneEnabled n = s.laneEnabled n := by
  rw [State.laneEnabled, State.laneEnabled, scene_flag h (by decide : (F.UNIT_CTRL_ENABLE 0x50).page ≠ 0x18),
    scene_flag h (show (F.UNIT_CTRL_ENABLE (0x51 + n)).page ≠ 0x18 from fun hp => by simp only [F.UNIT_CTRL_ENABLE] at hp; omega)]

theorem scene_sample (bad : List Nat) (n x y : Nat) : t.sample bad n x y = s.sample bad n x y := by
  unfold State.sample
  simp only [scene_isGlare h, scene_laneEnabled h, scene_glareM h, scene_source h, scene_dilated h, scene_texel h,
    scene_layerFlag h (f := F.LAY_STAT_DILATED n) (n := n) rfl]

theorem scene_layZero (n : Nat) : t.layZero n = s.layZero n := by
  have hw : t.layW n = s.layW n := scene_layer h (n := n) rfl
  have hh : t.layH n = s.layH n := scene_layer h (n := n) rfl
  rw [State.layZero, State.layZero, hw, hh]

theorem scene_order : t.order = s.order := by
  have hz : ∀ n, t.g (F.LAY_CTRL_Z n) = s.g (F.LAY_CTRL_Z n) := fun n => scene_layer h (n := n) rfl
  unfold State.order
  simp only [h.active, hz, scene_layZero h]

theorem scene_layersAt (bad : List Nat) (x y : Nat) : t.layersAt bad x y = s.layersAt bad x y := by
  have happly : ∀ acc n, t.applyLayer bad x y acc n = s.applyLayer bad x y acc n := fun acc n => by
    unfold State.applyLayer
    simp only [scene_sample h, scene_layer h (f := F.LAY_BLEND_GALPHA n) (n := n) rfl, scene_layer h (f := F.LAY_CTRL_OP n) (n := n) rfl]
  rw [State.layersAt, State.layersAt, scene_order h, show t.applyLayer bad x y = s.applyLayer bad x y from funext fun acc => funext (happly acc)]

theorem scene_clone (n : Nat) : t.clone n = s.clone n := by
  unfold State.clone
  rw [h.field _ (show (⟨0x50, 0x64, 4 * n + 3, 4 * n⟩ : Fld).page ≠ 0x18 from (by decide : (0x50 : Nat) ≠ 0x18))]

theorem scene_origin (x y : Nat) : t.origin x y = s.origin x y := by
  have hstate : ∀ n, t.g (F.TL_STAT_STATE n) = s.g (F.TL_STAT_STATE n) := fun n =>
    h.field _ (fun hp => by simp only [F.TL_STAT_STATE] at hp; omega)
  unfold State.origin
  simp only [scene_clone h, hstate, h.field F.TLN_CLONE_MIR_MIRROR (by decide)]

/-- The compositor's values are those of the scene. -/
theorem scene_compose (bad : List Nat) (x y : Nat) : t.compose bad x y = s.compose bad x y := by
  unfold State.compose
  rw [scene_origin h]
  simp only [scene_layersAt h]

/-- The words that a pixel reads are those of the scene. -/
theorem scene_readsAt (x y : Nat) : t.readsAt x y = s.readsAt x y := by
  have hw : ∀ n, t.layW n = s.layW n := fun n => scene_layer h (n := n) rfl
  have hh : ∀ n, t.layH n = s.layH n := fun n => scene_layer h (n := n) rfl
  have hr : ∀ n, t.g (F.LAY_MASK_DIL_R n) = s.g (F.LAY_MASK_DIL_R n) := fun n => scene_layer h (n := n) rfl
  have hd : ∀ n, t.on (F.LAY_STAT_DILATED n) = s.on (F.LAY_STAT_DILATED n) := fun n => scene_layerFlag h (n := n) rfl
  have hmask : ∀ n x y, t.maskAddr n x y = s.maskAddr n x y := fun n x y => by
    rw [State.maskAddr, State.maskAddr, h.field F.GLR_MASK_BASE (by decide)]
  unfold State.readsAt
  rw [scene_origin h]
  simp only [scene_order h, scene_isGlare h, scene_laneEnabled h, hmask, scene_source h, hd, hr, hw, hh, scene_texelWords h]

theorem scene_parityIn (bad : List Nat) (b x0 w : Nat) : t.parityIn bad b x0 w = s.parityIn bad b x0 w := by
  have hp : ∀ x y, t.parityAt bad x y = s.parityAt bad x y := fun x y => by rw [State.parityAt, State.parityAt, scene_readsAt h]
  unfold State.parityIn
  simp only [hp]

theorem scene_le (a n : Nat) : t.le a n = s.le a n := le_congr fun i _ => scene_byte h (a + i)

/-- The correction of a pixel is that of the scene and the calibration. -/
theorem scene_corrected (hc : t.cal = s.cal) (bad : List Nat) (x y p : Nat) : t.corrected bad x y p = s.corrected bad x y p := by
  have htile : ∀ n, t.calTile n = s.calTile n := fun n => by rw [State.calTile, State.calTile, hc]
  unfold State.corrected
  simp only [htile, scene_byte h, scene_le h]

/-- The Governor's output for a pixel is that of the scene and the Governor's state. -/
theorem scene_govOut (hg : t.gov = s.gov) (f : List Nat) (x y p : Nat) : t.govOut f x y p = s.govOut f x y p := by
  have hcur : t.g F.GOV_MODE_CUR = s.g F.GOV_MODE_CUR := h.field _ (by decide)
  have hin : t.govIn x y p = s.govIn x y p := by
    unfold State.govIn State.dark State.staticAt
    simp only [hcur, scene_flag h (f := F.GOV_MODE_RELEASE) (by decide), scene_le h, scene_byte h]
  have hzone : t.zoneOf x y = s.zoneOf x y := by
    unfold State.zoneOf State.zoneEntry
    simp only [scene_le h]
  have hgain : ∀ z q, t.gained z q = s.gained z q := fun z q => by
    unfold State.gained
    rw [hcur, hg]
  unfold State.govOut
  simp only [hin, hzone, hgain]

end

end Sys2Proof.Proofs.SceneReads
end

section
/-! PROOF. A composed band passes the Governor and is released (BandRelease). -/

namespace Sys2Proof.Proofs.BandReleases

open Sys2Proof.Machine Sys2Proof.Laws Sys2Proof.Proofs.Architecture Sys2Proof.Proofs.Reading Sys2Proof.Proofs.GovernorSums
  Sys2Proof.Proofs.PendingFaults Sys2Proof.Proofs.LampReactions Sys2Proof.Proofs.FlintLockOut Sys2Proof.Proofs.SafetyIns
  Sys2Proof.Proofs.DigestChecks Sys2Proof.Proofs.SourcesStand Sys2Proof.Proofs.FaultWrites Sys2Proof.Proofs.LampLanes Sys2Proof.Proofs.PageCommits

variable {s t u : State} {b k i j : Nat} {x : Fld}

/-! ### The release of one band -/

/-- The factors of a band, one for each zone. -/
def bandFactors (s : State) (b : Nat) (vals : List Nat) : List Nat :=
  (List.range 256).map (fun z => bandFactor (s.gov.limits.getD z 0) (s.gov.sums.getD z 0) ((s.integrate b vals).2.getD z 0))

/-- The Governor's state after a band. -/
def govAfter (s : State) (b : Nat) (vals : List Nat) : Gov :=
  { s.gov with
    u := (s.integrate b vals).1, factors := s.gov.factors ++ [(b, bandFactors s b vals)]
    sums := (List.range 256).map (fun z =>
      s.gov.sums.getD z 0 + ((s.integrate b vals).2.getD z 0 * (bandFactors s b vals).getD z 65536 + 65535) / 65536) }

/-- The values that a band releases with their codes. -/
def bandOut (s : State) (b : Nat) (vals : List Nat) (zero : Bool) : List (Nat × Nat) :=
  (List.range 65536).map (fun i =>
    s.coded (bandX i) (bandY b i) (if zero then 0 else s.govOut (bandFactors s b vals) (bandX i) (bandY b i) (vals.getD i 0)))

/-- A clamp is noted. -/
def clampNoted (f : List Nat) (s : State) : State := if f.any (fun v => v < 65536) then s.evt F.GOV_EVT_CLAMP else s

/-- The band's regions join the queues of its lanes. -/
def bandQueued (s : State) (b : Nat) : State := (List.range 8).foldl (fun s n => if n / 4 = b / 16 then s.queueBand n (b % 16) else s) s

theorem releaseBand_eq (s : State) (b : Nat) (vals : List Nat) (zero : Bool) :
    s.releaseBand b vals zero
      = bandQueued ((clampNoted (bandFactors s b vals) (s.withGov (govAfter s b vals))).setReleased b (bandOut s b vals zero)) b := by
  unfold State.releaseBand bandOut govAfter bandFactors
  generalize s.integrate b vals = uc
  obtain ⟨uz, cb⟩ := uc
  rfl

theorem only_queueBand (s : State) (n b : Nat) (h : s.Only [] [.lanes] t) : s.Only [] [.lanes] (t.queueBand n b) := by
  unfold State.queueBand
  exact only_ite (fun _ => only_modLane (by simp) h) (fun _ => h)

theorem bandQueued_only (s : State) (b : Nat) : s.Only [] [.lanes] (bandQueued s b) :=
  only_foldl _ _ (fun n _ _ hu => only_ite (fun _ => only_queueBand _ n _ hu) (fun _ => hu)) (only_refl _ _ s)

theorem clampNoted_only (f : List Nat) (s : State) : s.Only [F.GOV_EVT_CLAMP, F.UNIT_IRQ_STAT_EVT 0x40] [] (clampNoted f s) :=
  only_ite (fun _ => only_evt (x := F.GOV_EVT_CLAMP) (by simp) (by decide) (by decide) (only_refl _ _ s)) (fun _ => only_refl _ _ s)

/-- Beside the Governor's sums the release touches the released bands, the lanes' queues and the clamp's event. -/
theorem releaseBand_only (s : State) (b : Nat) (vals : List Nat) (zero : Bool) :
    s.Only [F.GOV_EVT_CLAMP, F.UNIT_IRQ_STAT_EVT 0x40] [.cmp, .gov, .lanes] (s.releaseBand b vals zero) := by
  rw [releaseBand_eq]
  refine only_app (by simp) (by simp) (bandQueued_only _ b) (only_withCmp (by simp) ?_)
  exact only_app (by simp) (by simp) (clampNoted_only _ _) (only_withGov (by simp) (only_refl _ _ s))

theorem clampNoted_gov (f : List Nat) (s : State) : (clampNoted f s).gov = s.gov := (clampNoted_only f s).parts.gov (by simp [Foot.of])

theorem clampNoted_cmp (f : List Nat) (s : State) : (clampNoted f s).cmp = s.cmp := (clampNoted_only f s).parts.cmp (by simp [Foot.of])

theorem bandQueued_gov (s : State) (b : Nat) : (bandQueued s b).gov = s.gov := (bandQueued_only s b).parts.gov (by simp [Foot.of])

theorem bandQueued_cmp (s : State) (b : Nat) : (bandQueued s b).cmp = s.cmp := (bandQueued_only s b).parts.cmp (by simp [Foot.of])

theorem setReleased_gov (s : State) (b : Nat) (v : List (Nat × Nat)) : (s.setReleased b v).gov = s.gov := rfl

theorem releaseBand_gov (s : State) (b : Nat) (vals : List Nat) (zero : Bool) : (s.releaseBand b vals zero).gov = govAfter s b vals := by
  have hq := (bandQueued_gov ((clampNoted (bandFactors s b vals) (s.withGov (govAfter s b vals))).setReleased b (bandOut s b vals zero)) b).trans
    (setReleased_gov _ b (bandOut s b vals zero))
  rw [clampNoted_gov] at hq
  exact (congrArg State.gov (releaseBand_eq s b vals zero)).trans hq

theorem setReleased_cmp (s : State) (b : Nat) (v : List (Nat × Nat)) :
    (s.setReleased b v).cmp = { s.cmp with released := (b, v) :: s.cmp.released.filter (fun e => e.1 ≠ b) } := rfl

theorem releaseBand_cmp (s : State) (b : Nat) (vals : List Nat) (zero : Bool) :
    (s.releaseBand b vals zero).cmp = { s.cmp with released := (b, bandOut s b vals zero) :: s.cmp.released.filter (fun e => e.1 ≠ b) } := by
  have hq := (bandQueued_cmp ((clampNoted (bandFactors s b vals) (s.withGov (govAfter s b vals))).setReleased b (bandOut s b vals zero)) b).trans
    (setReleased_cmp _ b (bandOut s b vals zero))
  rw [clampNoted_cmp, withGov_cmp] at hq
  exact (congrArg State.cmp (releaseBand_eq s b vals zero)).trans hq

theorem composedBand_congr (h : t.cmp.bands = s.cmp.bands) (b : Nat) : t.composedBand b = s.composedBand b := by
  simp only [State.composedBand, h]

theorem releasedBand_congr (h : t.cmp.released = s.cmp.released) (b : Nat) : t.releasedBand b = s.releasedBand b := by
  simp only [State.releasedBand, h]

theorem releaseBand_composed (s : State) (b o : Nat) (vals : List Nat) (zero : Bool) : (s.releaseBand b vals zero).composedBand o = s.composedBand o :=
  composedBand_congr (by rw [releaseBand_cmp]) o

theorem releaseBand_released (s : State) (b : Nat) (vals : List Nat) (zero : Bool) : (s.releaseBand b vals zero).releasedBand b = bandOut s b vals zero := by
  simp [State.releasedBand, releaseBand_cmp]

/-- A factor below one sets the clamp's event. -/
theorem releaseBand_clamp (s : State) (b : Nat) (vals : List Nat) (zero : Bool) (h : (bandFactors s b vals).any (fun v => v < 65536) = true) :
    (s.releaseBand b vals zero).on F.GOV_EVT_CLAMP = true := by
  rw [releaseBand_eq]
  refine (only_on (bandQueued_only _ b) (by decide)).trans ((withCmp_on ..).trans ?_)
  rw [clampNoted, if_pos h]
  exact on_evt_self _ rfl

/-- Values without light release zeros. -/
theorem bandOut_dark (s : State) (b : Nat) (vals : List Nat) (i : Nat) : ((bandOut s b vals true).getD i (0, 0)).1 = 0 := by
  simp only [bandOut, if_true, State.coded, List.getD_eq_getElem?_getD, List.getElem?_map]
  cases (List.range 65536)[i]? <;> rfl

/-! ### The band in its slot -/

/-- The corrected values of a composed band. -/
def bandVals (s : State) (bad : List Nat) (b : Nat) (v : List Nat) : List Nat :=
  (List.range 65536).map (fun i => s.corrected bad (bandX i) (bandY b i) (v.getD i 0))

theorem releaseOne_none (bad : List Nat) (hit : Hit) (h : s.composedBand b = none) : s.releaseOne bad hit b = s := by
  unfold State.releaseOne
  rw [h]

theorem releaseOne_again (bad : List Nat) (hit : Hit) (h : s.cmp.released.any (fun e => e.1 = b) = true) : s.releaseOne bad hit b = s := by
  unfold State.releaseOne
  cases s.composedBand b with
  | none => rfl
  | some v => exact if_pos h

/-- The lanes of the Governor that disagree are noted. -/
def lanesJudged (hit : Hit) (b : Nat) (s : State) : State := if hit = .govLanes b then (s.evt F.GOV_EVT_DP).graniteFault S.GOV_DP 1 0 false else s

theorem lanesJudged_inj (hit : Hit) (b : Nat) (s : State) : (lanesJudged hit b s).g F.FLT_INJ_STATE = s.g F.FLT_INJ_STATE :=
  ite_g (fun _ => (graniteFault_mark injState _ _ _ (by decide)).trans (g_evt_sep _ (by decide) (by decide))) (fun _ => rfl)

theorem pipeInject_idle (h : s.g F.FLT_INJ_STATE ≠ 1) (b : Nat) : s.pipeInject b = s := if_neg (by rw [armed_idle h]; decide)

/-- A hit that is no fault of the correction pipe. -/
def notPipe : Hit → Bool
  | .calPipe _ => false
  | _ => true

theorem releaseOne_some {v : List Nat} (bad : List Nat) {hit : Hit} (hh : notPipe hit = true) (hv : s.composedBand b = some v)
    (hr : s.cmp.released.any (fun e => e.1 = b) = false) (hi : s.g F.FLT_INJ_STATE ≠ 1) :
    s.releaseOne bad hit b = lanesJudged hit b (s.releaseBand b (bandVals s bad b v) (hit = .govLanes b)) := by
  have hinj : (lanesJudged hit b (s.releaseBand b (bandVals s bad b v) (hit = .govLanes b))).g F.FLT_INJ_STATE ≠ 1 := by
    rw [lanesJudged_inj, only_g (releaseBand_only _ _ _ _) (by decide)]
    exact hi
  unfold State.releaseOne
  rw [hv]
  refine (if_neg (by rw [hr]; decide)).trans ?_
  cases hit with
  | calPipe n => exact absurd hh Bool.false_ne_true
  | none_ => exact pipeInject_idle hinj b
  | calCor n a => exact pipeInject_idle hinj b
  | calUnc n a => exact pipeInject_idle hinj b
  | gramCor a => exact pipeInject_idle hinj b
  | gramUnc a => exact pipeInject_idle hinj b
  | govLanes n => exact pipeInject_idle hinj b

/-! ### The slot -/

theorem exec_bandRelease (k : Nat) (hit : Hit) {bad : List Nat} (hl : s.tln.latched = true) (hb : b ∈ s.slotBands k) (hc : (s.composedBand b).isSome = true)
    (hq : s.begin.releaseChecks k hit = (bad, u)) :
    exec (.bandRelease k hit) s = .next ((u.releaseOne bad hit k).releaseOne bad hit (k + 16)) := by
  have hany : (s.begin.tln.latched && (s.begin.slotBands k).any (fun b => (s.begin.composedBand b).isSome)) = true := by
    rw [Bool.and_eq_true, List.any_eq_true]
    exact ⟨hl, b, hb, hc⟩
  refine (congrArg Host.Outcome.next (if_pos hany)).trans ?_
  rw [hq]

theorem exec_bandRelease_idle (k : Nat) (hit : Hit) (h : (∀ b, b ∈ s.slotBands k → s.composedBand b = none) ∨ s.tln.latched = false) :
    exec (.bandRelease k hit) s = .next s.begin := by
  refine congrArg Host.Outcome.next (if_neg ?_)
  rw [Bool.and_eq_true, List.any_eq_true]
  rintro ⟨hl, b, hb, hc⟩
  obtain h | h := h
  · have hn : s.begin.composedBand b = none := h b hb
    rw [hn] at hc
    exact absurd hc (by decide)
  · exact absurd (show s.tln.latched = true from hl) (by rw [h]; decide)

/-- What the hit alone makes the checks find: the words that read as 0, and the state. -/
def hitChecks (s : State) : Hit → List Nat × State
  | .calCor n a => ([], s.calCor n a false)
  | .calUnc n a => ([a / 4], s.calUnc n a false)
  | .gramCor a => ([], s.gramCor a false)
  | .gramUnc a => ([], s.gramUnc a false)
  | _ => ([], s)

/-- With no injection armed the checks at release are those of the hit. -/
theorem releaseChecks_idle (k : Nat) {hit : Hit} (hi : s.g F.FLT_INJ_STATE ≠ 1) (ht : (hitChecks s hit).2.g F.FLT_INJ_STATE = s.g F.FLT_INJ_STATE) :
    s.releaseChecks k hit = hitChecks s hit := by
  have ha : ∀ i, (hitChecks s hit).2.armed i = false := armed_idle (by rw [ht]; exact hi)
  unfold State.releaseChecks
  rw [gramInject_idle hi]
  cases hit <;> (dsimp only [hitChecks] at ha ⊢; rw [ha, ha]; simp)

theorem begin_corrected (s : State) : s.begin.corrected = s.corrected := rfl

theorem begin_integrate (s : State) : s.begin.integrate = s.integrate := rfl

theorem begin_coded (s : State) : s.begin.coded = s.coded := rfl

theorem begin_govOut (s : State) : s.begin.govOut = s.govOut := rfl

theorem lanesJudged_fits {g : Foot} (hit : Hit) (b : Nat) (hle : (Foot.reaction [] []).le g = true) (h : s.Fits g u) : s.Fits g (lanesJudged hit b u) := by
  have hfit : u.Fits (Foot.reaction [] []) (lanesJudged hit b u) := by
    unfold lanesJudged
    split_ifs
    · exact graniteFault_fits (g := Foot.reaction [] []) _ _ _ _ _ (by decide) (by decide) (evt_fits (by decide) (fits_refl _ u))
    · exact fits_refl _ u
  exact fits_app hle hfit h

theorem lanesJudged_cmp (hit : Hit) (b : Nat) (s : State) : (lanesJudged hit b s).cmp = s.cmp :=
  within_cmp (lanesJudged_fits (g := Foot.reaction [] []) hit b (by decide) (fits_refl _ s)).within rfl rfl

/-- A slot with one composed band. -/
theorem exec_oneBand {o : Nat} {v : List Nat} {bad : List Nat} {hit : Hit} (hh : notPipe hit = true) (ho : b = k ∧ o = k + 16 ∨ b = k + 16 ∧ o = k)
    (hl : s.tln.latched = true) (hb : b ∈ s.slotBands k) (hv : s.composedBand b = some v) (hn : s.composedBand o = none)
    (hr : s.cmp.released.any (fun e => e.1 = b) = false) (hc : u.cmp = s.cmp) (hi : u.g F.FLT_INJ_STATE ≠ 1)
    (hq : s.begin.releaseChecks k hit = (bad, u)) :
    exec (.bandRelease k hit) s = .next (lanesJudged hit b (u.releaseBand b (bandVals u bad b v) (hit = .govLanes b))) := by
  have hs := exec_bandRelease k hit hl hb (by rw [hv]; rfl) hq
  have hbu : u.composedBand b = some v := (composedBand_congr (by rw [hc]) b).trans hv
  have hou : u.composedBand o = none := (composedBand_congr (by rw [hc]) o).trans hn
  have hrun := releaseOne_some bad hh hbu (by rw [hc]; exact hr) hi
  have hrest : (lanesJudged hit b (u.releaseBand b (bandVals u bad b v) (hit = .govLanes b))).composedBand o = none :=
    (composedBand_congr (by rw [lanesJudged_cmp]) o).trans ((releaseBand_composed _ _ _ _ _).trans hou)
  obtain ⟨rfl, rfl⟩ | ⟨rfl, rfl⟩ := ho
  · rw [hs, hrun, releaseOne_none _ _ hrest]
  · rw [hs, releaseOne_none _ _ hou, hrun]

/-! ### The clauses -/

/-- A band that passes is corrected, integrated and clamped, and released with its codes. -/
theorem release_passes {o : Nat} {v : List Nat} (ho : b = k ∧ o = k + 16 ∨ b = k + 16 ∧ o = k) (hl : s.tln.latched = true) (hi : s.g F.FLT_INJ_STATE ≠ 1)
    (hb : b ∈ s.slotBands k) (hv : s.composedBand b = some v) (hn : s.composedBand o = none) (hr : s.cmp.released.any (fun e => e.1 = b) = false) :
    exec (.bandRelease k .none_) s = .next (s.begin.releaseBand b (bandVals s.begin [] b v) false) := by
  have hib : s.begin.g F.FLT_INJ_STATE ≠ 1 := by rw [begin_g]; exact hi
  have hq : s.begin.releaseChecks k .none_ = ([], s.begin) := releaseChecks_idle (hit := .none_) k hib (Eq.refl (s.begin.g F.FLT_INJ_STATE))
  have hne : Hit.none_ ≠ .govLanes b := Hit.noConfusion
  have hexec := exec_oneBand (hit := .none_) rfl ho hl hb hv hn hr (begin_cmp s) hib hq
  rw [decide_eq_false hne] at hexec
  exact hexec.trans (congrArg Host.Outcome.next (if_neg hne))

theorem bandVals_begin (s : State) (bad : List Nat) (b : Nat) (v : List Nat) : bandVals s.begin bad b v = bandVals s bad b v := by
  rw [bandVals, begin_corrected, ← bandVals]

theorem bandFactors_begin (s : State) (b : Nat) (vals : List Nat) : bandFactors s.begin b vals = bandFactors s b vals := by
  rw [bandFactors, begin_integrate, show s.begin.gov = s.gov from rfl, ← bandFactors]

theorem govAfter_begin (s : State) (b : Nat) (vals : List Nat) : govAfter s.begin b vals = govAfter s b vals := by
  rw [govAfter, begin_integrate, bandFactors_begin, show s.begin.gov = s.gov from rfl, ← govAfter]

theorem bandOut_begin (s : State) (b : Nat) (vals : List Nat) (zero : Bool) : bandOut s.begin b vals zero = bandOut s b vals zero := by
  rw [bandOut, begin_coded, begin_govOut, bandFactors_begin, ← bandOut]

/-- Lanes of the Governor that disagree release zeros, and are a fault of Granite. -/
theorem release_disagrees {o : Nat} {v : List Nat} (ho : b = k ∧ o = k + 16 ∨ b = k + 16 ∧ o = k) (hl : s.tln.latched = true) (hi : s.g F.FLT_INJ_STATE ≠ 1)
    (hb : b ∈ s.slotBands k) (hv : s.composedBand b = some v) (hn : s.composedBand o = none) (hr : s.cmp.released.any (fun e => e.1 = b) = false) :
    ∃ t, exec (.bandRelease k (.govLanes b)) s = .next t ∧ (∀ i, ((t.releasedBand b).getD i (0, 0)).1 = 0) ∧ t.on F.GOV_EVT_DP = true
      ∧ (s.defLevel S.GOV_DP ≠ 0 → t.on (fltPend S.GOV_DP) = true) ∧ t.saf.granFault = true
      ∧ (s.saf.halted = false → s.flintStopped = false → t.on F.SAF_STAT_LOCKED = true)
      ∧ s.Within (Foot.reaction [] [.cmp, .gov]) t := by
  have hib : s.begin.g F.FLT_INJ_STATE ≠ 1 := by rw [begin_g]; exact hi
  have hq : s.begin.releaseChecks k (.govLanes b) = ([], s.begin) :=
    releaseChecks_idle (hit := .govLanes b) k hib (Eq.refl (s.begin.g F.FLT_INJ_STATE))
  have hexec := exec_oneBand (hit := .govLanes b) rfl ho hl hb hv hn hr (begin_cmp s) hib hq
  rw [decide_eq_true (Eq.refl (Hit.govLanes b))] at hexec
  generalize bandVals s.begin [] b v = vals at hexec
  have hfit : s.Fits (Foot.of [0x40] [.cmp, .lanes, .gov, .flt, .saf]) (s.begin.releaseBand b vals true) :=
    releaseBand_fits _ _ _ _ (by decide) (begin_fits s (by decide) (fits_refl _ s))
  have honly := releaseBand_only s.begin b vals true
  have hrel : (s.begin.releaseBand b vals true).releasedBand b = bandOut s.begin b vals true := releaseBand_released _ _ _ _
  generalize s.begin.releaseBand b vals true = w at hexec hfit honly hrel
  have hsaf : w.saf = s.begin.saf := honly.parts.saf (by simp [Foot.of])
  have hpwr : w.pwr = s.begin.pwr := honly.parts.pwr (by simp [Foot.of])
  have hj : lanesJudged (.govLanes b) b w = (w.evt F.GOV_EVT_DP).graniteFault S.GOV_DP 1 0 false := if_pos rfl
  refine ⟨_, hexec, fun i => ?_, ?_, fun hd => ?_, ?_, fun hh hf => ?_, ?_⟩
  · have hcmp : (lanesJudged (.govLanes b) b w).cmp.released = w.cmp.released := congrArg Cmp.released (lanesJudged_cmp _ b w)
    rw [releasedBand_congr hcmp, hrel]
    exact bandOut_dark _ _ _ _
  · rw [hj]
    exact (on_congr (graniteFault_g _ _ _ _ (by decide))).trans (on_evt_self _ rfl)
  · rw [hj]
    refine graniteFault_pend _ _ _ (by decide) ?_
    rw [fits_defLevel (evt_fits (f := Foot.of [0x40] [.cmp, .lanes, .gov, .flt, .saf]) (x := F.GOV_EVT_DP) (by decide) hfit) rfl (by decide)]
    exact hd
  · rw [hj]
    exact graniteFault_marks ..
  · rw [hj]
    refine graniteFault_locks _ _ _ _ ?_ ?_ ?_
    · rw [evt_saf, hsaf]
      rfl
    · rw [evt_saf, hsaf]
      exact hh
    · rw [State.flintStopped, evt_pwr, hpwr]
      exact hf
  · exact (lanesJudged_fits (g := Foot.reaction [] [.cmp, .gov]) _ b (by decide) (fits_mono (by decide) hfit)).within

/-! ### Failing words -/

/-- A hit in a memory. -/
def inMemory : Hit → Bool
  | .calPipe _ => false
  | .govLanes _ => false
  | _ => true

theorem releaseOne_only (bad : List Nat) {hit : Hit} (hh : inMemory hit = true) (b : Nat) (hi : s.g F.FLT_INJ_STATE ≠ 1) :
    s.Only [F.GOV_EVT_CLAMP, F.UNIT_IRQ_STAT_EVT 0x40] [.cmp, .gov, .lanes] (s.releaseOne bad hit b) := by
  have hpipe : notPipe hit = true := by cases hit <;> simp_all [inMemory, notPipe]
  have hgov : hit ≠ .govLanes b := by
    rintro rfl
    exact Bool.false_ne_true hh
  cases hv : s.composedBand b with
  | none =>
    rw [releaseOne_none _ _ hv]
    exact only_refl _ _ s
  | some v =>
    by_cases hr : s.cmp.released.any (fun e => e.1 = b) = true
    · rw [releaseOne_again _ _ hr]
      exact only_refl _ _ s
    · rw [releaseOne_some _ hpipe hv (Bool.eq_false_iff.2 hr) hi, lanesJudged, if_neg hgov]
      exact releaseBand_only _ _ _ _

/-- With a hit in a memory, the slot is released after the checks of the hit. -/
theorem release_inMemory {hit : Hit} (hh : inMemory hit = true) (hl : s.tln.latched = true) (hi : s.g F.FLT_INJ_STATE ≠ 1) (hb : b ∈ s.slotBands k)
    (hc : (s.composedBand b).isSome = true) (hu : (hitChecks s.begin hit).2.g F.FLT_INJ_STATE = s.begin.g F.FLT_INJ_STATE) :
    ∃ t, exec (.bandRelease k hit) s = .next t
      ∧ (hitChecks s.begin hit).2.Only [F.GOV_EVT_CLAMP, F.UNIT_IRQ_STAT_EVT 0x40] [.cmp, .gov, .lanes] t := by
  have hib : s.begin.g F.FLT_INJ_STATE ≠ 1 := by rw [begin_g]; exact hi
  have hui := hu ▸ hib
  refine ⟨_, exec_bandRelease k hit hl hb hc (releaseChecks_idle k hib hu), ?_⟩
  have hfst := releaseOne_only (s := (hitChecks s.begin hit).2) (hitChecks s.begin hit).1 hh k hui
  exact only_trans hfst (releaseOne_only _ hh _ (by rw [only_g hfst (by decide)]; exact hui))

theorem mem_after {w t : State} {g : Foot} (hfit : s.Fits g w) (ha : g.any = false) (hp : g.parts.contains Part.mem = false)
    (ho : w.Only [F.GOV_EVT_CLAMP, F.UNIT_IRQ_STAT_EVT 0x40] [.cmp, .gov, .lanes] t) : t.mem = s.mem :=
  (ho.parts.mem (by simp [Foot.of])).trans (within_mem hfit.within ha hp)

theorem pend_after {w t : State} (hi : i < 75) (ho : w.Only [F.GOV_EVT_CLAMP, F.UNIT_IRQ_STAT_EVT 0x40] [.cmp, .gov, .lanes] t) (h : w.on (fltPend i) = true) :
    t.on (fltPend i) = true :=
  (only_on ho ((by decide : ∀ i < 75, clear [F.GOV_EVT_CLAMP, F.UNIT_IRQ_STAT_EVT 0x40] (fltPend i) = true) i hi)).trans h

theorem release_calUnc (n a : Nat) (hl : s.tln.latched = true) (hi : s.g F.FLT_INJ_STATE ≠ 1) (hb : b ∈ s.slotBands k) (hc : (s.composedBand b).isSome = true) :
    ∃ t, exec (.bandRelease k (.calUnc n a)) s = .next t ∧ t.on F.CAL_EVT_ECC_UNC = true
      ∧ (s.defLevel S.CAL_ECC_UNC ≠ 0 → t.on (fltPend S.CAL_ECC_UNC) = true) ∧ t.mem = s.mem := by
  obtain ⟨t, ht, ho⟩ := release_inMemory (hit := .calUnc n a) rfl hl hi hb hc
    ((raiseWith_mark injState _ _ _ _ _ (by decide)).trans (g_evt_sep _ (by decide) (by decide)))
  change (s.begin.calUnc n a false).Only _ _ t at ho
  refine ⟨t, ht, (only_on ho (by decide)).trans ?_, fun hd => pend_after (by decide) ho ?_, ?_⟩
  · exact (on_congr (raiseWith_g _ _ _ _ _ _ (by decide))).trans (on_evt_self _ rfl)
  · refine raiseWith_pend _ _ _ _ _ (by decide) ?_
    rw [State.defLevel, on_evt_sep _ (by decide) (by decide), g_evt_sep _ (by decide) (by decide)]
    exact hd
  · exact mem_after (g := Foot.of [0x00, 0x40, 0x48, 0x50, 0x68, 0x70, 0x71] [.flt, .evr, .saf, .lanes])
      (calUnc_fits _ _ _ _ (by decide) (begin_fits s (by decide) (fits_refl _ s))) rfl (by decide) ho

theorem release_calCor (n a : Nat) (hl : s.tln.latched = true) (hi : s.g F.FLT_INJ_STATE ≠ 1) (hb : b ∈ s.slotBands k) (hc : (s.composedBand b).isSome = true) :
    ∃ t, exec (.bandRelease k (.calCor n a)) s = .next t ∧ t.on F.CAL_EVT_ECC_COR = true ∧ t.mem = s.mem := by
  obtain ⟨t, ht, ho⟩ := release_inMemory (hit := .calCor n a) rfl hl hi hb hc
    ((raiseWith_mark injState _ _ _ _ _ (by decide)).trans ((g_evt_sep _ (by decide) (by decide)).trans (g_incSat_sep _ (by decide))))
  change (s.begin.calCor n a false).Only _ _ t at ho
  refine ⟨t, ht, (only_on ho (by decide)).trans ?_, ?_⟩
  · exact (on_congr (raiseWith_g _ _ _ _ _ _ (by decide))).trans (on_evt_self _ rfl)
  · exact mem_after (g := Foot.of [0x00, 0x40, 0x48, 0x50, 0x68, 0x70, 0x71] [.flt, .evr, .saf, .lanes])
      (calCor_fits _ _ _ _ (by decide) (begin_fits s (by decide) (fits_refl _ s))) rfl (by decide) ho

theorem release_gramCor (a : Nat) (hl : s.tln.latched = true) (hi : s.g F.FLT_INJ_STATE ≠ 1) (hb : b ∈ s.slotBands k) (hc : (s.composedBand b).isSome = true) :
    ∃ t, exec (.bandRelease k (.gramCor a)) s = .next t ∧ (s.defLevel S.GRAM_COR ≠ 0 → t.on (fltPend S.GRAM_COR) = true) ∧ t.mem = s.mem := by
  obtain ⟨t, ht, ho⟩ := release_inMemory (hit := .gramCor a) rfl hl hi hb hc
    ((raiseWith_mark injState _ _ _ _ _ (by decide)).trans (g_incSat_sep _ (by decide)))
  change (s.begin.gramCor a false).Only _ _ t at ho
  refine ⟨t, ht, fun hd => pend_after (by decide) ho (gramCor_pends _ _ hd), ?_⟩
  exact mem_after (g := Foot.of [0x00, 0x40, 0x48, 0x50, 0x68, 0x70, 0x71] [.flt, .evr, .saf, .lanes])
    (gramCor_fits _ _ _ (by decide) (begin_fits s (by decide) (fits_refl _ s))) rfl (by decide) ho

theorem release_gramUnc (a : Nat) (hl : s.tln.latched = true) (hi : s.g F.FLT_INJ_STATE ≠ 1) (hb : b ∈ s.slotBands k) (hc : (s.composedBand b).isSome = true) :
    ∃ t, exec (.bandRelease k (.gramUnc a)) s = .next t ∧ t.on F.GOV_EVT_ECC_UNC = true ∧ t.saf.granFault = true
      ∧ (s.saf.halted = false → s.flintStopped = false → t.on F.SAF_STAT_LOCKED = true) ∧ t.mem = s.mem := by
  obtain ⟨t, ht, ho⟩ := release_inMemory (hit := .gramUnc a) rfl hl hi hb hc
    ((graniteFault_mark injState _ _ _ (by decide)).trans (g_evt_sep _ (by decide) (by decide)))
  change (s.begin.gramUnc a false).Only _ _ t at ho
  obtain ⟨hevt, hmark, -⟩ := gramUnc_leaves s.begin a
  have hsaf : t.saf = (s.begin.gramUnc a false).saf := ho.parts.saf (by simp [Foot.of])
  refine ⟨t, ht, (only_on ho (by decide)).trans hevt, by rw [hsaf]; exact hmark, fun hh hf => (only_on ho (by decide)).trans ?_, ?_⟩
  · refine graniteFault_locks _ _ _ _ ?_ ?_ ?_
    · rw [evt_saf]
      rfl
    · rw [evt_saf]
      exact hh
    · rw [State.flintStopped, evt_pwr]
      exact hf
  · exact mem_after (g := Foot.of [0x00, 0x40, 0x48, 0x50, 0x68, 0x70, 0x71] [.flt, .evr, .saf, .lanes])
      (gramUnc_fits _ _ _ (by decide) (begin_fits s (by decide) (fits_refl _ s))) rfl (by decide) ho

/-- Settles O24, by the release of one band and the checks of the hit before it. -/
theorem bandRelease : Obligations.BandRelease := by
  unfold Obligations.BandRelease
  refine ⟨fun s k b o v ho hl hi hb hv hn hr => ?_, fun s k b o v ho hl hi hb hv hn hr => release_disagrees ho hl hi hb hv hn hr,
    fun s k b n a hl hi hb hc => ⟨release_calUnc n a hl hi hb hc, release_calCor n a hl hi hb hc, release_gramCor a hl hi hb hc, release_gramUnc a hl hi hb hc⟩,
    fun s k hit h => exec_bandRelease_idle k hit h⟩
  intro vals ub f
  have hvals : bandVals s [] b v = vals := rfl
  have hub : s.integrate b vals = ub := rfl
  have hf : bandFactors s b vals = f := rfl
  have hexec := release_passes ho hl hi hb hv hn hr
  rw [bandVals_begin, hvals] at hexec
  clear_value f ub vals
  have hout := releaseBand_released s.begin b vals false
  have hgov := releaseBand_gov s.begin b vals false
  have hclamp := releaseBand_clamp s.begin b vals false
  rw [bandOut_begin, bandOut, hf] at hout
  rw [govAfter_begin, govAfter, hf, hub] at hgov
  rw [bandFactors_begin, hf] at hclamp
  simp only [Bool.false_eq_true, if_false] at hout
  exact ⟨_, hexec, hout, hgov, hclamp, releaseBand_only s.begin b vals false⟩

end Sys2Proof.Proofs.BandReleases
end

section
/-! PROOF. A band slot composes its bands (BandSlot). -/

namespace Sys2Proof.Proofs.BandSlots

open Sys2Proof.Machine Sys2Proof.Laws Sys2Proof.Proofs.Architecture Sys2Proof.Proofs.Reading Sys2Proof.Proofs.GovernorSums
  Sys2Proof.Proofs.PendingFaults Sys2Proof.Proofs.LampReactions Sys2Proof.Proofs.FlintLockOut Sys2Proof.Proofs.LampLanes
  Sys2Proof.Proofs.FaultWrites Sys2Proof.Proofs.FrameDeferral Sys2Proof.Proofs.GlareBands Sys2Proof.Proofs.FrameFlips Sys2Proof.Proofs.DigestChecks
  Sys2Proof.Proofs.SourcesStand Sys2Proof.Proofs.SceneReads Sys2Proof.Proofs.BandReleases

variable {s t u : State} {b k n i j : Nat} {f x : Fld}

/-! ### The compositor's values -/

/-- The 65,536 values of a band, row by row. -/
def bandPixels (s : State) (bad : List Nat) (b : Nat) : List Nat := (List.range 65536).map (fun i => s.compose bad (bandX i) (bandY b i))

/-- The state with a band composed. -/
def placed (s : State) (b : Nat) (v : List Nat) : State := s.withCmp { s.cmp with bands := (b, v) :: s.cmp.bands.filter (fun e => e.1 ≠ b) }

theorem placed_scene (s : State) (b : Nat) (v : List Nat) : SameScene s (placed s b v) := ⟨fun _ _ => withCmp_g .., rfl, rfl, rfl, rfl⟩

theorem begin_scene (s : State) : SameScene s s.begin := ⟨fun _ _ => begin_g .., rfl, rfl, rfl, rfl⟩

theorem scene_pixels (h : SameScene s t) (bad : List Nat) (b : Nat) : bandPixels t bad b = bandPixels s bad b := by
  simp only [bandPixels, scene_compose h]

theorem composeBand_eq (s : State) (bad inj : List Nat) (b : Nat) : s.composeBand bad inj b = (placed s b (bandPixels s bad b)).parityRegions bad inj b := rfl

theorem parityRegions_clean (s : State) (inj : List Nat) (b : Nat) : s.parityRegions [] inj b = s := if_pos rfl

/-- With no read failing, a band is composed and that is all. -/
theorem composeBand_clean (s : State) (inj : List Nat) (b : Nat) : s.composeBand [] inj b = placed s b (bandPixels s [] b) :=
  (composeBand_eq s [] inj b).trans (parityRegions_clean _ inj b)

theorem placed_same (s : State) (b : Nat) (v : List Nat) : (placed s b v).composedBand b = some v := by
  have hcmp : (placed s b v).cmp.bands = (b, v) :: s.cmp.bands.filter (fun e => e.1 ≠ b) := rfl
  rw [State.composedBand, hcmp, List.find?_cons_of_pos (by simp)]
  rfl

theorem placed_other (s : State) (v : List Nat) {o : Nat} (h : o ≠ b) : (placed s b v).composedBand o = s.composedBand o := by
  have hcmp : (placed s b v).cmp.bands = (b, v) :: s.cmp.bands.filter (fun e => e.1 ≠ b) := rfl
  have hfind : ∀ l : List (Nat × List Nat), (l.filter (fun e => e.1 ≠ b)).find? (fun e => e.1 = o) = l.find? (fun e => e.1 = o) := fun l => by
    rw [List.find?_filter]
    refine List.find?_congr fun e _ => ?_
    by_cases he : e.1 = o <;> simp [he, h]
  rw [State.composedBand, State.composedBand, hcmp, List.find?_cons_of_neg (by simpa using Ne.symm h), hfind]

theorem placed_only (s : State) (b : Nat) (v : List Nat) : s.Only [] [.cmp] (placed s b v) := only_withCmp (by simp) (only_refl _ _ s)

/-- The bands of a list are composed one after another. -/
theorem composeAll_leaves (inj : List Nat) : ∀ (l : List Nat) (s : State),
    (∀ b ∈ l, (l.foldl (fun s b => s.composeBand [] inj b) s).composedBand b = some (bandPixels s [] b))
      ∧ (∀ b, b ∉ l → (l.foldl (fun s b => s.composeBand [] inj b) s).composedBand b = s.composedBand b)
      ∧ s.Only [] [.cmp] (l.foldl (fun s b => s.composeBand [] inj b) s)
  | [], s => ⟨fun b hb => absurd hb List.not_mem_nil, fun _ _ => rfl, only_refl _ _ s⟩
  | c :: l, s => by
    obtain ⟨hin, hout, honly⟩ := composeAll_leaves inj l (s.composeBand [] inj c)
    rw [composeBand_clean] at hin hout honly
    rw [List.foldl_cons, composeBand_clean]
    refine ⟨fun b hb => ?_, fun b hb => ?_, only_trans (placed_only s c _) honly⟩
    · by_cases hl : b ∈ l
      · rw [hin b hl, scene_pixels (placed_scene s c _)]
      · have hc : b = c := by simpa [hl] using hb
        rw [hout b hl, hc, placed_same]
    · obtain ⟨hc, hl⟩ : b ≠ c ∧ b ∉ l := by simpa using hb
      rw [hout b hl, placed_other _ _ hc]

/-! ### The slot -/

/-- The reads of the glare mask that the bands of a slot make. -/
def glareRead (s : State) (bands : List Nat) : State := bands.foldl (fun s b => (s.glareReads b).foldl (fun s t => s.readGlare b t) s) s

/-- A slot that is still to be composed in an open frame. -/
structure SlotDue (s : State) (k : Nat) : Prop where
  slot : k < 16
  latched : s.tln.latched = true
  opened : s.tln.closed = false
  composing : s.on F.CMP_STAT_COMPOSING = true
  idle : s.g F.FLT_INJ_STATE ≠ 1
  fresh : ∀ b, b ∈ s.slotBands k → s.composedBand b = none

theorem injectParity_idle (h : s.g F.FLT_INJ_STATE ≠ 1) (bands : List Nat) : s.injectParity bands = ([], s) := if_neg (by rw [armed_idle h]; decide)

theorem exec_bandSlot (h : SlotDue s k) (bad : List Nat) (hw : glareRead s.begin (s.slotBands k) = u) (hi : u.g F.FLT_INJ_STATE = s.g F.FLT_INJ_STATE) :
    exec (.bandSlot k bad) s = .next ((s.slotBands k).foldl (fun s b => s.composeBand bad [] b) u) := by
  have hgo : (decide (k < 16) && s.begin.tln.latched && !s.begin.tln.closed && s.begin.on F.CMP_STAT_COMPOSING
      && !(s.begin.slotBands k).any (fun b => (s.begin.composedBand b).isSome)) = true := by
    have hany : (s.begin.slotBands k).any (fun b => (s.begin.composedBand b).isSome) = false := by
      rw [List.any_eq_false]
      intro b hb
      have hn : s.begin.composedBand b = none := h.fresh b hb
      rw [hn]
      decide
    rw [hany, begin_on, show s.begin.tln = s.tln from rfl, h.latched, h.opened, h.composing, decide_eq_true h.slot]
    rfl
  refine (congrArg Host.Outcome.next (if_pos hgo)).trans ?_
  change Host.Outcome.next ((s.slotBands k).foldl (fun v b => v.composeBand (((glareRead s.begin (s.slotBands k)).injectParity (s.slotBands k)).1 ++ bad)
    ((glareRead s.begin (s.slotBands k)).injectParity (s.slotBands k)).1 b) ((glareRead s.begin (s.slotBands k)).injectParity (s.slotBands k)).2) = _
  rw [hw, injectParity_idle (by rw [hi]; exact h.idle)]
  rfl

theorem exec_bandSlot_idle (k : Nat) (bad : List Nat) (h : s.tln.latched = false ∨ s.tln.closed = true ∨ s.on F.CMP_STAT_COMPOSING = false) :
    exec (.bandSlot k bad) s = .next s.begin := by
  refine congrArg Host.Outcome.next (if_neg ?_)
  rw [begin_on, show s.begin.tln = s.tln from rfl]
  obtain h | h | h := h <;> simp [h]

/-! ### Reads of the glare mask -/

/-- A band that the engine has written is read without more. -/
theorem readGlare_written (hi : s.g F.FLT_INJ_STATE ≠ 1) (h : (s.engine n).written.contains (b % 16) = true) : s.readGlare b n = s := by
  unfold State.readGlare
  rw [consumeInj_idle hi, armed_idle hi]
  exact if_neg (by rw [h]; decide)

theorem reads_written (hi : s.g F.FLT_INJ_STATE ≠ 1) : ∀ l : List Nat, (∀ n ∈ l, (s.engine n).written.contains (b % 16) = true) →
    l.foldl (fun s n => s.readGlare b n) s = s
  | [], _ => rfl
  | n :: l, h => by
    rw [List.foldl_cons, readGlare_written hi (h n List.mem_cons_self)]
    exact reads_written hi l fun m hm => h m (List.mem_cons_of_mem _ hm)

theorem glareRead_written (hi : s.g F.FLT_INJ_STATE ≠ 1) : ∀ l : List Nat, (∀ b ∈ l, ∀ n ∈ s.glareReads b, (s.engine n).written.contains (b % 16) = true) →
    glareRead s l = s
  | [], _ => rfl
  | b :: l, h => by
    rw [glareRead, List.foldl_cons, reads_written hi _ (h b List.mem_cons_self)]
    exact glareRead_written hi l fun c hc => h c (List.mem_cons_of_mem _ hc)

theorem begin_glareReads (s : State) (b : Nat) : s.begin.glareReads b = s.glareReads b := rfl

/-- A slot whose reads are all written. -/
theorem slot_composes (h : SlotDue s k) (hw : ∀ b, b ∈ s.slotBands k → ∀ n, n ∈ s.glareReads b → (s.engine n).written.contains (b % 16) = true) :
    ∃ t, exec (.bandSlot k []) s = .next t
      ∧ (∀ b, b ∈ s.slotBands k → t.composedBand b = some ((List.range 65536).map (fun i => s.compose [] (bandX i) (bandY b i))))
      ∧ (∀ b, b ∉ s.slotBands k → t.composedBand b = s.composedBand b) ∧ s.begin.Only [] [.cmp] t := by
  have hread : glareRead s.begin (s.slotBands k) = s.begin := glareRead_written (by rw [begin_g]; exact h.idle) _ fun b hb n hn => hw b hb n hn
  obtain ⟨hin, hout, honly⟩ := composeAll_leaves [] (s.slotBands k) s.begin
  refine ⟨_, exec_bandSlot h [] hread (begin_g ..), fun b hb => ?_, fun b hb => ?_, honly⟩
  · rw [hin b hb, scene_pixels (begin_scene s), ← bandPixels]
  · exact (hout b hb).trans (composedBand_congr (congrArg Cmp.bands (begin_cmp s)) b)

/-! ### Reads of bands that are not written -/

/-- The fields that a read of the glare mask writes beside the fault itself. -/
def readFields : List Fld :=
  [F.RST_BLK_STAT_CONSEQ_CNT, F.GLR_EVT_UNWRITTEN] ++ (List.range 8).map F.BE_EVT_UNWRITTEN ++ (List.range 8).map F.BE_CNT_UNWRITTEN

/-- A field that no read writes. -/
def past (f : Fld) : Bool := lampField f && readFields.all (fun x => sep x f)

theorem past_parts (hf : past f = true) : lampField f = true ∧ ∀ x ∈ readFields, sep x f = true := by
  simpa only [past, Bool.and_eq_true, List.all_eq_true] using hf

/-- An event's mark in the interrupt word is apart from every field that stands through faults. -/
theorem irq_lamp (hf : lampField f = true) (p : Nat) : sep (F.UNIT_IRQ_STAT_EVT p) f = true := by
  simp only [lampField, Bool.and_eq_true, bne_iff_ne] at hf
  obtain ⟨⟨-, hoff⟩, -⟩ := hf
  have hn : 0x18 % 4096 ≠ f.off % 4096 := fun h => hoff h.symm
  simp [sep, F.UNIT_IRQ_STAT_EVT, hn]

theorem evtUnwritten_mem (n : Nat) : F.BE_EVT_UNWRITTEN n ∈ readFields := by
  have hmod : F.BE_EVT_UNWRITTEN n = F.BE_EVT_UNWRITTEN (n % 8) := by simp [F.BE_EVT_UNWRITTEN]
  rw [hmod]
  exact (by decide : ∀ m < 8, F.BE_EVT_UNWRITTEN m ∈ readFields) _ (Nat.mod_lt _ (by decide))

theorem cntUnwritten_mem (n : Nat) : F.BE_CNT_UNWRITTEN n ∈ readFields := by
  have hmod : F.BE_CNT_UNWRITTEN n = F.BE_CNT_UNWRITTEN (n % 8) := by simp [F.BE_CNT_UNWRITTEN]
  rw [hmod]
  exact (by decide : ∀ m < 8, F.BE_CNT_UNWRITTEN m ∈ readFields) _ (Nat.mod_lt _ (by decide))

/-- The band is no longer marked written. -/
def unmarked (s : State) (b n : Nat) : State := s.modEngine n (fun e => { e with written := e.written.filter (· ≠ b % 16) })

/-- The read of a band that is not written, up to its fault. -/
def readMissed (s : State) (b n : Nat) : State :=
  (((unmarked s b n).evt (F.BE_EVT_UNWRITTEN n)).incSat (F.BE_CNT_UNWRITTEN n)).evt F.GLR_EVT_UNWRITTEN

theorem readGlare_missed (hi : s.g F.FLT_INJ_STATE ≠ 1) (h : (s.engine n).written.contains (b % 16) = false) :
    s.readGlare b n = (readMissed s b n).detect [0x30, 0x31 + n] S.BE_UNWRITTEN n ((readMissed s b n).maskAddr n 0 (32 * (b % 16))) false := by
  unfold State.readGlare
  rw [consumeInj_idle hi, armed_idle hi]
  exact if_pos (by rw [h]; decide)

theorem readMissed_g (s : State) (b n : Nat) (hf : past f = true) : (readMissed s b n).g f = s.g f := by
  obtain ⟨hlamp, hsep⟩ := past_parts hf
  have hq := irq_lamp hlamp
  rw [readMissed, g_evt_sep _ (hsep _ (by simp [readFields])) (hq _), g_incSat_sep _ (hsep _ (cntUnwritten_mem n)), g_evt_sep _ (hsep _ (evtUnwritten_mem n)) (hq _)]
  exact withGlare_g ..

theorem readMissed_fits (s : State) (hn : n < 8) : s.Fits (Foot.of [0x30] [.glare]) (readMissed s b n) := by
  have hu : (Foot.of [0x30] [.glare]).hasUnit (groupPage (F.BE_EVT_UNWRITTEN n).page) = true :=
    (by decide : ∀ n < 8, (Foot.of [0x30] [.glare]).hasUnit (groupPage (F.BE_EVT_UNWRITTEN n).page) = true) n hn
  refine evt_fits (by decide) (incSat_fits hu (evt_fits hu ?_))
  exact modEngine_fits _ _ _ (by decide) (fits_refl _ s)

/-- What the reads of a slot leave as it was. -/
structure Alike (s u : State) : Prop where
  past : ∀ f, past f = true → u.g f = s.g f
  rst : u.rst = s.rst
  cmp : u.cmp = s.cmp
  level : u.defLevel S.BE_UNWRITTEN = s.defLevel S.BE_UNWRITTEN
  inj : u.g F.FLT_INJ_STATE = s.g F.FLT_INJ_STATE

theorem alike_refl (s : State) : Alike s s := ⟨fun _ _ => rfl, rfl, rfl, rfl, rfl⟩

/-- A read keeps the rest as it was. -/
theorem readGlare_alike (hi : s.g F.FLT_INJ_STATE ≠ 1) (hn : n < 8) (h : Alike s u) : Alike s (u.readGlare b n) := by
  have hiu : u.g F.FLT_INJ_STATE ≠ 1 := by rw [h.inj]; exact hi
  cases hw : (u.engine n).written.contains (b % 16) with
  | true => rwa [readGlare_written hiu hw]
  | false =>
    have hm : u.Fits (Foot.reaction [0x02, 0x30] [.glare]) (readMissed u b n) := fits_mono (by decide) (readMissed_fits u hn)
    have hunit : (Foot.reaction [0x02, 0x30] [.glare]).hasUnit (groupPage (srcPage S.BE_UNWRITTEN n)) = true :=
      (by decide : ∀ n < 8, (Foot.reaction [0x02, 0x30] [.glare]).hasUnit (groupPage (srcPage S.BE_UNWRITTEN n)) = true) n hn
    have hlevel : (readMissed u b n).defLevel S.BE_UNWRITTEN = u.defLevel S.BE_UNWRITTEN := fits_defLevel (readMissed_fits u hn) rfl (by decide) _
    have hinj : (readMissed u b n).g F.FLT_INJ_STATE = u.g F.FLT_INJ_STATE := fits_g (readMissed_fits u hn) rfl (by decide)
    rw [readGlare_missed hiu hw]
    have hfit := detect_fits (readMissed u b n) [0x30, 0x31 + n] S.BE_UNWRITTEN n ((readMissed u b n).maskAddr n 0 (32 * (b % 16))) false hunit (by decide) hm
    refine ⟨fun f hf => ?_, (within_rst hfit.within rfl (by decide)).trans h.rst, (within_cmp hfit.within rfl (by decide)).trans h.cmp, ?_, ?_⟩
    · obtain ⟨hlamp, hsep⟩ := past_parts hf
      exact (detect_lamp _ _ _ _ _ _ hlamp (sep_apart (hsep _ (by simp [readFields])))).trans ((readMissed_g u b n hf).trans (h.past f hf))
    · exact (detect_level _ _ _ _ _ (by decide) (by decide)).trans (hlevel.trans h.level)
    · exact (detect_mark injState _ _ _ _ _ (by decide) (by decide)).trans (hinj.trans h.inj)

/-- The reads of a band are decided by what the reads leave as it was. -/
theorem alike_reads (h : Alike s u) (b : Nat) : u.glareReads b = s.glareReads b := by
  have hlay : ∀ n, u.isGlare n = s.isGlare n ∧ u.layZero n = s.layZero n := fun n => by
    have hm : F.LAY_CTRL_SRC n = F.LAY_CTRL_SRC (n % 16) ∧ F.LAY_SIZE_W n = F.LAY_SIZE_W (n % 16) ∧ F.LAY_SIZE_H n = F.LAY_SIZE_H (n % 16) := by
      simp [F.LAY_CTRL_SRC, F.LAY_SIZE_W, F.LAY_SIZE_H]
    have hp := (by decide : ∀ n < 16, past (F.LAY_CTRL_SRC n) = true ∧ past (F.LAY_SIZE_W n) = true ∧ past (F.LAY_SIZE_H n) = true) (n % 16)
      (Nat.mod_lt _ (by decide))
    rw [← hm.1, ← hm.2.1, ← hm.2.2] at hp
    rw [State.isGlare, State.isGlare, State.layZero, State.layZero, State.layW, State.layW, State.layH, State.layH, on_congr (h.past _ hp.1), h.past _ hp.2.1, h.past _ hp.2.2]
    exact ⟨rfl, rfl⟩
  have hlane : ∀ t < 8, u.laneEnabled t = s.laneEnabled t ∧ u.clone t = s.clone t := fun t ht => by
    have hp := (by decide : ∀ t < 8, past (F.UNIT_CTRL_ENABLE (0x51 + t)) = true ∧ past ⟨0x50, 0x64, 4 * t + 3, 4 * t⟩ = true) t ht
    rw [State.laneEnabled, State.laneEnabled, State.clone, State.clone, on_congr (h.past _ hp.1), on_congr (h.past (F.UNIT_CTRL_ENABLE 0x50) (by decide)), h.past _ hp.2]
    exact ⟨rfl, rfl⟩
  have hglare : u.hasGlare = s.hasGlare := by
    simp only [State.hasGlare, h.cmp, fun n => (hlay n).1, fun n => (hlay n).2]
  unfold State.glareReads
  rw [hglare, on_congr (h.past (F.UNIT_CTRL_ENABLE 0x30) (by decide))]
  split_ifs
  · refine List.filter_congr fun t ht => ?_
    rw [(hlane t (List.mem_range.1 ht)).1, (hlane t (List.mem_range.1 ht)).2]
  · rfl

theorem reads_lt {t : Nat} (h : t ∈ s.glareReads b) : t < 8 := by
  unfold State.glareReads at h
  split_ifs at h
  · exact List.mem_range.1 (List.mem_of_mem_filter h)
  · exact absurd h List.not_mem_nil

/-- What stands once the read of an engine's band found it not written. -/
structure ReadNoted (s : State) (n : Nat) (u : State) : Prop where
  engine : u.on (F.BE_EVT_UNWRITTEN n) = true
  glare : u.on F.GLR_EVT_UNWRITTEN = true
  pend : s.quiet 0x30 = false → s.quiet (0x31 + n) = false → s.defLevel S.BE_UNWRITTEN ≠ 0 → u.on (fltPend S.BE_UNWRITTEN) = true

/-- A bit that stands after an event of its own or of a field apart from it. -/
theorem evt_stands (h : u.on f = true) (hx : x = f ∨ sep x f = true) (hf : oneBit f = true) (hq : sep (F.UNIT_IRQ_STAT_EVT x.page) f = true) : (u.evt x).on f = true := by
  obtain rfl | hx := hx
  · exact on_evt_self _ hf
  · exact (on_evt_sep _ hx hq).trans h

theorem evtUnwritten_places (n m : Nat) : (F.BE_EVT_UNWRITTEN m = F.BE_EVT_UNWRITTEN n ∨ sep (F.BE_EVT_UNWRITTEN m) (F.BE_EVT_UNWRITTEN n) = true)
    ∧ sep (F.BE_CNT_UNWRITTEN m) (F.BE_EVT_UNWRITTEN n) = true ∧ sep F.GLR_EVT_UNWRITTEN (F.BE_EVT_UNWRITTEN n) = true
    ∧ oneBit (F.BE_EVT_UNWRITTEN n) = true ∧ lampField (F.BE_EVT_UNWRITTEN n) = true ∧ F.RST_BLK_STAT_CONSEQ_CNT.apart (F.BE_EVT_UNWRITTEN n) = true
    ∧ sep (F.BE_EVT_UNWRITTEN m) F.GLR_EVT_UNWRITTEN = true ∧ sep (F.BE_CNT_UNWRITTEN m) F.GLR_EVT_UNWRITTEN = true := by
  have hn : F.BE_EVT_UNWRITTEN n = F.BE_EVT_UNWRITTEN (n % 8) := by simp [F.BE_EVT_UNWRITTEN]
  have hm : F.BE_EVT_UNWRITTEN m = F.BE_EVT_UNWRITTEN (m % 8) ∧ F.BE_CNT_UNWRITTEN m = F.BE_CNT_UNWRITTEN (m % 8) := by
    simp [F.BE_EVT_UNWRITTEN, F.BE_CNT_UNWRITTEN]
  rw [hn, hm.1, hm.2]
  exact (by decide : ∀ n < 8, ∀ m < 8, (F.BE_EVT_UNWRITTEN m = F.BE_EVT_UNWRITTEN n ∨ sep (F.BE_EVT_UNWRITTEN m) (F.BE_EVT_UNWRITTEN n) = true)
    ∧ sep (F.BE_CNT_UNWRITTEN m) (F.BE_EVT_UNWRITTEN n) = true ∧ sep F.GLR_EVT_UNWRITTEN (F.BE_EVT_UNWRITTEN n) = true
    ∧ oneBit (F.BE_EVT_UNWRITTEN n) = true ∧ lampField (F.BE_EVT_UNWRITTEN n) = true ∧ F.RST_BLK_STAT_CONSEQ_CNT.apart (F.BE_EVT_UNWRITTEN n) = true
    ∧ sep (F.BE_EVT_UNWRITTEN m) F.GLR_EVT_UNWRITTEN = true ∧ sep (F.BE_CNT_UNWRITTEN m) F.GLR_EVT_UNWRITTEN = true)
    _ (Nat.mod_lt _ (by decide)) _ (Nat.mod_lt _ (by decide))

theorem readMissed_engine (u : State) (b n : Nat) : (readMissed u b n).on (F.BE_EVT_UNWRITTEN n) = true ∧ (readMissed u b n).on F.GLR_EVT_UNWRITTEN = true := by
  obtain ⟨-, h2, h3, h4, h5, -, -, -⟩ := evtUnwritten_places n n
  have hq := irq_lamp h5
  exact ⟨(on_evt_sep _ h3 (hq _)).trans ((on_incSat_sep _ h2).trans (on_evt_self _ h4)), on_evt_self _ rfl⟩

theorem readMissed_stands (m : Nat) (h : u.on (F.BE_EVT_UNWRITTEN n) = true) : (readMissed u b m).on (F.BE_EVT_UNWRITTEN n) = true := by
  obtain ⟨h1, h2, h3, h4, h5, -, -, -⟩ := evtUnwritten_places n m
  have hq := irq_lamp h5
  refine (on_evt_sep _ h3 (hq _)).trans ((on_incSat_sep _ h2).trans (evt_stands ?_ h1 h4 (hq _)))
  exact (withGlare_on ..).trans h

theorem readMissed_pend (h : u.on (fltPend S.BE_UNWRITTEN) = true) (hn : n < 8) : (readMissed u b n).on (fltPend S.BE_UNWRITTEN) = true :=
  (on_congr (fits_g (readMissed_fits u hn) rfl (by decide))).trans h

/-- A read keeps what an earlier one noted. -/
theorem readGlare_keeps {m : Nat} (hi : s.g F.FLT_INJ_STATE ≠ 1) (ha : Alike s u) (hm : m < 8) (h : ReadNoted s n u) : ReadNoted s n (u.readGlare b m) := by
  have hiu : u.g F.FLT_INJ_STATE ≠ 1 := by rw [ha.inj]; exact hi
  cases hw : (u.engine m).written.contains (b % 16) with
  | true => rwa [readGlare_written hiu hw]
  | false =>
    obtain ⟨-, -, -, -, h5, h6, -, -⟩ := evtUnwritten_places n n
    rw [readGlare_missed hiu hw]
    exact ⟨(on_congr (detect_lamp _ _ _ _ _ _ h5 h6)).trans (readMissed_stands m h.engine),
      (on_congr (detect_lamp _ _ _ _ _ _ (by decide) (by decide))).trans (readMissed_engine u b m).2,
      fun hq hp hd => detect_keeps_pend _ _ _ _ _ (by decide) (by decide) (readMissed_pend (h.pend hq hp hd) hm)⟩

/-- The read of a band that is not written is noted. -/
theorem readGlare_notes (hi : s.g F.FLT_INJ_STATE ≠ 1) (ha : Alike s u) (hn : n < 8) (hw : (u.engine n).written.contains (b % 16) = false) :
    ReadNoted s n (u.readGlare b n) := by
  have hiu : u.g F.FLT_INJ_STATE ≠ 1 := by rw [ha.inj]; exact hi
  obtain ⟨-, -, -, -, h5, h6, -, -⟩ := evtUnwritten_places n n
  have hrst : (readMissed u b n).rst = s.rst := (within_rst (readMissed_fits u hn).within rfl (by decide)).trans ha.rst
  have hlevel : (readMissed u b n).defLevel S.BE_UNWRITTEN = s.defLevel S.BE_UNWRITTEN := (fits_defLevel (readMissed_fits u hn) rfl (by decide) _).trans ha.level
  rw [readGlare_missed hiu hw]
  refine ⟨(on_congr (detect_lamp _ _ _ _ _ _ h5 h6)).trans (readMissed_engine u b n).1,
    (on_congr (detect_lamp _ _ _ _ _ _ (by decide) (by decide))).trans (readMissed_engine u b n).2, fun hq hp hd => ?_⟩
  refine detect_pend _ _ _ _ ?_ (by decide) (by rw [hlevel]; exact hd)
  simp only [List.any_cons, List.any_nil, quiet_congr hrst, hq, hp, Bool.or_self]

/-- A read marks no band written. -/
theorem readGlare_unwritten {m c : Nat} (hi : s.g F.FLT_INJ_STATE ≠ 1) (ha : Alike s u) (hm : m < 8) (h : (u.engine n).written.contains c = false) :
    ((u.readGlare b m).engine n).written.contains c = false := by
  have hiu : u.g F.FLT_INJ_STATE ≠ 1 := by rw [ha.inj]; exact hi
  cases hw : (u.engine m).written.contains (b % 16) with
  | true => rwa [readGlare_written hiu hw]
  | false =>
    have hunit : (Foot.reaction [0x02, 0x30] []).hasUnit (groupPage (srcPage S.BE_UNWRITTEN m)) = true :=
      (by decide : ∀ n < 8, (Foot.reaction [0x02, 0x30] []).hasUnit (groupPage (srcPage S.BE_UNWRITTEN n)) = true) m hm
    rw [readGlare_missed hiu hw]
    have hfit := detect_fits (g := Foot.reaction [0x02, 0x30] []) (readMissed u b m) [0x30, 0x31 + m] S.BE_UNWRITTEN m
      ((readMissed u b m).maskAddr m 0 (32 * (b % 16))) false hunit (by decide) (fits_refl _ _)
    rw [State.engine, within_glare hfit.within rfl (by decide)]
    have hglare : (readMissed u b m).glare = (unmarked u b m).glare := by rw [readMissed, evt_glare, incSat_glare, evt_glare]
    rw [hglare]
    show (((u.glare.engines.set m { u.engine m with written := (u.engine m).written.filter (· ≠ b % 16) }).getD n Engine.init).written).contains c = false
    by_cases hmn : m = n
    · subst hmn
      by_cases hlen : m < u.glare.engines.length
      · rw [List.getD_eq_getElem?_getD, List.getElem?_set_self hlen]
        simp only [List.contains_eq_mem, decide_eq_false_iff_not, Option.getD_some, List.mem_filter] at h ⊢
        exact fun hc => h hc.1
      · rw [List.set_eq_of_length_le (by omega)]
        exact h
    · rw [List.getD_eq_getElem?_getD, List.getElem?_set_ne hmn, ← List.getD_eq_getElem?_getD]
      exact h

/-- The reads of one band keep the rest, and note the band that is not written. -/
theorem reads_note (hi : s.g F.FLT_INJ_STATE ≠ 1) {c : Nat} (hn : n < 8) : ∀ (l : List Nat) (u : State), (∀ m ∈ l, m < 8) → Alike s u →
    (u.engine n).written.contains c = false →
    Alike s (l.foldl (fun s m => s.readGlare b m) u) ∧ ((l.foldl (fun s m => s.readGlare b m) u).engine n).written.contains c = false
      ∧ (ReadNoted s n u → ReadNoted s n (l.foldl (fun s m => s.readGlare b m) u))
      ∧ (n ∈ l → b % 16 = c → ReadNoted s n (l.foldl (fun s m => s.readGlare b m) u))
  | [], _, _, ha, hw => ⟨ha, hw, id, fun hm => absurd hm List.not_mem_nil⟩
  | m :: l, u, hl, ha, hw => by
    have hm := hl m List.mem_cons_self
    obtain ⟨h1, h2, h3, h4⟩ := reads_note hi hn l (u.readGlare b m) (fun k hk => hl k (List.mem_cons_of_mem _ hk)) (readGlare_alike hi hm ha)
      (readGlare_unwritten hi ha hm hw)
    refine ⟨h1, h2, fun hr => h3 (readGlare_keeps hi ha hm hr), fun hmem hc => ?_⟩
    obtain rfl | hmem := List.mem_cons.1 hmem
    · exact h3 (readGlare_notes hi ha hn (by rw [hc]; exact hw))
    · exact h4 hmem hc


/-- The reads of a slot's bands keep the rest, and note a band that is not written. -/
theorem glareRead_note (hi : s.g F.FLT_INJ_STATE ≠ 1) {c : Nat} (hn : n < 8) : ∀ (l : List Nat) (u : State), Alike s u → (u.engine n).written.contains c = false →
    Alike s (glareRead u l) ∧ ((glareRead u l).engine n).written.contains c = false ∧ (ReadNoted s n u → ReadNoted s n (glareRead u l))
      ∧ (∀ b ∈ l, b % 16 = c → n ∈ s.glareReads b → ReadNoted s n (glareRead u l))
  | [], _, ha, hw => ⟨ha, hw, id, fun _ hb => absurd hb List.not_mem_nil⟩
  | b :: l, u, ha, hw => by
    obtain ⟨r1, r2, r3, r4⟩ := reads_note (b := b) hi hn (u.glareReads b) u (fun m hm => reads_lt hm) ha hw
    obtain ⟨h1, h2, h3, h4⟩ := glareRead_note hi hn l ((u.glareReads b).foldl (fun s m => s.readGlare b m) u) r1 r2
    refine ⟨h1, h2, fun hr => h3 (r3 hr), fun d hd hc hread => ?_⟩
    obtain rfl | hd := List.mem_cons.1 hd
    · exact h3 (r4 (by rw [alike_reads ha]; exact hread) hc)
    · exact h4 d hd hc hread

/-- A slot with a band that is not written. -/
theorem slot_unwritten (h : SlotDue s k) (hb : b ∈ s.slotBands k) (hn : n ∈ s.glareReads b) (hw : (s.engine n).written.contains (b % 16) = false) :
    ∃ t, exec (.bandSlot k []) s = .next t ∧ t.on (F.BE_EVT_UNWRITTEN n) = true ∧ t.on F.GLR_EVT_UNWRITTEN = true
      ∧ (t.engine n).written.contains (b % 16) = false ∧ (t.composedBand b).isSome = true
      ∧ (s.quiet 0x30 = false → s.quiet (0x31 + n) = false → s.defLevel S.BE_UNWRITTEN ≠ 0 → t.on (fltPend S.BE_UNWRITTEN) = true)
      ∧ t.mem = s.mem := by
  have hib : s.begin.g F.FLT_INJ_STATE ≠ 1 := by rw [begin_g]; exact h.idle
  obtain ⟨hal, hwr, -, hnote⟩ := glareRead_note hib (reads_lt hn) (s.slotBands k) s.begin (alike_refl _) hw
  have hnoted := hnote b hb rfl hn
  have hexec := exec_bandSlot h [] rfl (hal.inj.trans (begin_g ..))
  obtain ⟨hin, -, honly⟩ := composeAll_leaves [] (s.slotBands k) (glareRead s.begin (s.slotBands k))
  have hmem := within_mem (does_within (execBandSlot_fits k [] s) hexec) rfl (by decide)
  have hglare := honly.parts.glare (by simp [Foot.of])
  have hin := hin b hb
  generalize (s.slotBands k).foldl (fun s b => s.composeBand [] [] b) (glareRead s.begin (s.slotBands k)) = w at hexec hin hmem honly hglare
  have hreg : ∀ f : Fld, clear [] f = true → w.on f = (glareRead s.begin (s.slotBands k)).on f := fun f hf => only_on honly hf
  refine ⟨w, hexec, (hreg _ rfl).trans hnoted.engine, (hreg _ rfl).trans hnoted.glare, ?_, by rw [hin]; rfl,
    fun hq hp hd => (hreg _ rfl).trans (hnoted.pend hq hp hd), hmem⟩
  rw [State.engine, hglare]
  exact hwr

/-! ### Words that fail -/

/-- The words that a half tile of a band reads and that fail. -/
def halfHits (s : State) (bad : List Nat) (b h : Nat) : List (Nat × Nat) := s.parityIn bad b (256 * h) 256

/-- One half tile after those before it: the words noted, and the state. -/
def parityStep (s : State) (bad inj : List Nat) (b : Nat) (acc : List (Nat × Nat) × State) (h : Nat) : List (Nat × Nat) × State :=
  if (halfHits s bad b h).isEmpty then acc
  else (acc.1 ++ (halfHits s bad b h).filter (fun e => !acc.1.contains e),
    (acc.2.noteParity ((halfHits s bad b h).filter (fun e => !acc.1.contains e))).requestRecomp
      ⟨b, 4 * (b / 16) + h / 2, 8 * (h % 2), 8, (halfHits s bad b h).filter (fun e => !acc.1.contains e),
        ((halfHits s bad b h).filter (fun e => !acc.1.contains e)).any (fun e => inj.contains e.2)⟩)

theorem parityRegions_eq (s : State) {bad : List Nat} (inj : List Nat) (b : Nat) (hb : bad.isEmpty = false) :
    s.parityRegions bad inj b = ((List.range 8).foldl (parityStep s bad inj b) ([], s)).2 := if_neg (by rw [hb]; decide)

theorem layParity_mod (e : Nat) : F.LAY_EVT_PARITY e = F.LAY_EVT_PARITY (e % 16) := by simp [F.LAY_EVT_PARITY]

theorem parity_places (e d : Nat) : oneBit (F.LAY_EVT_PARITY e) = true ∧ (F.LAY_EVT_PARITY d = F.LAY_EVT_PARITY e ∨ sep (F.LAY_EVT_PARITY d) (F.LAY_EVT_PARITY e) = true)
    ∧ sep F.CMP_EVT_PARITY (F.LAY_EVT_PARITY e) = true ∧ sep (F.LAY_EVT_PARITY d) F.CMP_EVT_PARITY = true ∧ aside (F.LAY_EVT_PARITY e) = true := by
  rw [layParity_mod e, layParity_mod d]
  exact (by decide : ∀ e < 16, ∀ d < 16, oneBit (F.LAY_EVT_PARITY e) = true
    ∧ (F.LAY_EVT_PARITY d = F.LAY_EVT_PARITY e ∨ sep (F.LAY_EVT_PARITY d) (F.LAY_EVT_PARITY e) = true)
    ∧ sep F.CMP_EVT_PARITY (F.LAY_EVT_PARITY e) = true ∧ sep (F.LAY_EVT_PARITY d) F.CMP_EVT_PARITY = true ∧ aside (F.LAY_EVT_PARITY e) = true)
    _ (Nat.mod_lt _ (by decide)) _ (Nat.mod_lt _ (by decide))

theorem aside_parity (e : Nat) : Aside (F.LAY_EVT_PARITY e) := aside_iff.1 (parity_places e e).2.2.2.2

theorem aside_cmpParity : Aside F.CMP_EVT_PARITY := aside_iff.1 (by decide)

/-- The marks of a word that failed. -/
def ParityMarked (u : State) (e : Nat × Nat) : Prop := u.on (F.LAY_EVT_PARITY e.1) = true ∧ u.on F.CMP_EVT_PARITY = true

theorem noteOne_marks (u : State) (d : Nat × Nat) : ParityMarked ((u.evt (F.LAY_EVT_PARITY d.1)).evt F.CMP_EVT_PARITY) d := by
  obtain ⟨h1, -, h3, -, h5⟩ := parity_places d.1 d.1
  have hq := irq_lamp (aside_iff.1 h5).lamp
  exact ⟨(on_evt_sep _ h3 (hq _)).trans (on_evt_self _ h1), on_evt_self _ rfl⟩

theorem noteOne_keeps {e : Nat × Nat} (d : Nat × Nat) (h : ParityMarked u e) : ParityMarked ((u.evt (F.LAY_EVT_PARITY d.1)).evt F.CMP_EVT_PARITY) e := by
  obtain ⟨h1, h2, h3, -, h5⟩ := parity_places e.1 d.1
  have hq := irq_lamp (aside_iff.1 h5).lamp
  exact ⟨(on_evt_sep _ h3 (hq _)).trans (evt_stands h.1 h2 h1 (hq _)), on_evt_self _ rfl⟩

theorem noteParity_keeps {e : Nat × Nat} : ∀ (l : List (Nat × Nat)) {u : State}, ParityMarked u e → ParityMarked (u.noteParity l) e
  | [], _, h => h
  | d :: l, _, h => noteParity_keeps l (noteOne_keeps d h)

theorem noteParity_cons (u : State) (d : Nat × Nat) (l : List (Nat × Nat)) :
    u.noteParity (d :: l) = ((u.evt (F.LAY_EVT_PARITY d.1)).evt F.CMP_EVT_PARITY).noteParity l := rfl

theorem noteParity_marks {e : Nat × Nat} (l : List (Nat × Nat)) : ∀ u : State, e ∈ l → ParityMarked (u.noteParity l) e := by
  induction l with
  | nil => exact fun _ h => absurd h List.not_mem_nil
  | cons d l ih =>
    intro u h
    rw [noteParity_cons]
    obtain h | h := List.mem_cons.1 h
    · rw [h]
      exact noteParity_keeps l (noteOne_marks u d)
    · exact ih _ h

theorem noteParity_bands (l : List (Nat × Nat)) (u : State) : (u.noteParity l).cmp = u.cmp :=
  within_cmp (noteParity_fits (g := Foot.of [0x18] []) u l (by decide) (fits_refl _ u)).within rfl rfl

theorem requestRecomp_keeps {e : Nat × Nat} (r : Recomp) (h : ParityMarked u e) : ParityMarked (u.requestRecomp r) e :=
  ⟨(on_congr (requestRecomp_aside (aside_parity e.1) u r)).trans h.1, (on_congr (requestRecomp_aside aside_cmpParity u r)).trans h.2⟩

theorem deferFlip_bands (u : State) (blk : Bool) : (u.deferFlip blk).cmp.bands = u.cmp.bands := by
  have hcount : (deferCounted (recompLost u) blk).cmp = u.cmp := by
    have hlost := within_cmp (recompLost_fits u).within rfl (by decide)
    cases blk
    · exact (incSat_cmp ..).trans ((evt_cmp ..).trans hlost)
    · exact (evt_cmp ..).trans ((incSat_cmp ..).trans ((evt_cmp ..).trans hlost))
  rw [deferFlip_eq, within_cmp (deferFaults_fits _ _).within rfl (by decide), (putOff_parts _ _).1, hcount]

theorem parityOutcome_cmp (u : State) (l : List (Nat × Nat)) (unc inj : Bool) : (u.parityOutcome l unc inj).cmp = u.cmp :=
  within_cmp (parityOutcome_fits (g := Foot.reaction [0x02, 0x18] []) u l unc inj (by decide) (fits_refl _ u)).within rfl (by decide)

theorem requestRecomp_bands (u : State) (r : Recomp) : (u.requestRecomp r).cmp.bands = u.cmp.bands := by
  unfold State.requestRecomp
  split_ifs
  · rfl
  · rw [deferFlip_bands, parityOutcome_cmp]
  · rw [parityOutcome_cmp]

/-- The words found so far are marked, and the composed bands are as they were. -/
structure ParityNoted (s : State) (acc : List (Nat × Nat) × State) : Prop where
  marked : ∀ e ∈ acc.1, ParityMarked acc.2 e
  bands : acc.2.cmp.bands = s.cmp.bands

theorem parityStep_noted (bad inj : List Nat) (b h : Nat) {acc : List (Nat × Nat) × State} (ha : ParityNoted s acc) :
    ParityNoted s (parityStep s bad inj b acc h) ∧ (∀ e ∈ acc.1, e ∈ (parityStep s bad inj b acc h).1)
      ∧ (∀ e ∈ halfHits s bad b h, e ∈ (parityStep s bad inj b acc h).1) := by
  unfold parityStep
  split_ifs with hempty
  · exact ⟨ha, fun _ he => he, fun e he => absurd he (by rw [List.isEmpty_iff.1 hempty]; exact List.not_mem_nil)⟩
  · refine ⟨⟨fun e he => ?_, ?_⟩, fun e he => List.mem_append_left _ he, fun e he => ?_⟩
    · obtain he | he := List.mem_append.1 he
      · exact requestRecomp_keeps _ (noteParity_keeps _ (ha.marked e he))
      · exact requestRecomp_keeps _ (noteParity_marks _ _ he)
    · rw [requestRecomp_bands, noteParity_bands]
      exact ha.bands
    · by_cases hc : e ∈ acc.1
      · exact List.mem_append_left _ hc
      · exact List.mem_append_right _ (List.mem_filter.2 ⟨he, by simpa using hc⟩)

theorem paritySteps_noted (bad inj : List Nat) (b : Nat) : ∀ (l : List Nat) {acc : List (Nat × Nat) × State}, ParityNoted s acc →
    ParityNoted s (l.foldl (parityStep s bad inj b) acc) ∧ (∀ e ∈ acc.1, e ∈ (l.foldl (parityStep s bad inj b) acc).1)
      ∧ (∀ h ∈ l, ∀ e ∈ halfHits s bad b h, e ∈ (l.foldl (parityStep s bad inj b) acc).1)
  | [], _, ha => ⟨ha, fun _ he => he, fun _ hh => absurd hh List.not_mem_nil⟩
  | c :: l, acc, ha => by
    obtain ⟨h1, h2, h3⟩ := parityStep_noted bad inj b c ha
    obtain ⟨k1, k2, k3⟩ := paritySteps_noted bad inj b l h1
    refine ⟨k1, fun e he => k2 e (h2 e he), fun h hh e he => ?_⟩
    obtain rfl | hh := List.mem_cons.1 hh
    · exact k2 e (h3 e he)
    · exact k3 h hh e he

/-- A slot of one band that depends on a failing word. -/
theorem slot_parity {bad : List Nat} {h : Nat} {e : Nat × Nat} (hd : SlotDue s k) (hb : s.slotBands k = [b]) (hr : s.glareReads b = []) (hh : h < 8)
    (he : e ∈ s.parityIn bad b (256 * h) 256) :
    ∃ t, exec (.bandSlot k bad) s = .next t ∧ t.on (F.LAY_EVT_PARITY e.1) = true ∧ t.on F.CMP_EVT_PARITY = true
      ∧ (t.composedBand b).isSome = true ∧ t.mem = s.mem := by
  have hread : glareRead s.begin (s.slotBands k) = s.begin := by
    rw [hb]
    show (s.begin.glareReads b).foldl _ s.begin = s.begin
    rw [begin_glareReads, hr]
    rfl
  have hexec := exec_bandSlot hd bad hread (begin_g ..)
  have hmem := within_mem (does_within (execBandSlot_fits k bad s) hexec) rfl (by decide)
  have hbad : bad.isEmpty = false := by
    cases bad with
    | nil =>
      have hnone : s.parityIn [] b (256 * h) 256 = [] := if_pos rfl
      rw [hnone] at he
      exact absurd he List.not_mem_nil
    | cons => rfl
  rw [hb, List.foldl_cons, List.foldl_nil, composeBand_eq, parityRegions_eq _ _ _ hbad] at hexec
  generalize hv : bandPixels s.begin bad b = v at hexec
  have hhit : e ∈ halfHits (placed s.begin b v) bad b h := by
    rw [halfHits, scene_parityIn (placed_scene s.begin b v), scene_parityIn (begin_scene s)]
    exact he
  have hsome : (placed s.begin b v).composedBand b = some v := placed_same ..
  generalize placed s.begin b v = w at hexec hhit hsome
  obtain ⟨hnoted, -, hfound⟩ := paritySteps_noted (s := w) bad [] b (List.range 8) (acc := ([], w)) ⟨fun _ hx => absurd hx List.not_mem_nil, rfl⟩
  obtain ⟨hlay, hcmp⟩ := hnoted.marked e (hfound h (List.mem_range.2 hh) e hhit)
  refine ⟨_, hexec, hlay, hcmp, ?_, ?_⟩
  · rw [composedBand_congr hnoted.bands, hsome]
    rfl
  · exact within_mem (does_within (execBandSlot_fits k bad s) hexec) rfl (by decide)

/-- Settles O23, by the reads of the glare mask, the bands one after another and the half tiles of a band whose words fail. -/
theorem bandSlot : Obligations.BandSlot := by
  unfold Obligations.BandSlot
  refine ⟨fun s k h1 h2 h3 h4 h5 h6 hw => slot_composes ⟨h1, h2, h3, h4, h5, h6⟩ hw,
    fun s k b n h1 h2 h3 h4 h5 h6 hb hn hw => slot_unwritten ⟨h1, h2, h3, h4, h5, h6⟩ hb hn hw,
    fun s k b bad h e h1 h2 h3 h4 h5 hb hc hr hh he => slot_parity ⟨h1, h2, h3, h4, h5, fun c hm => ?_⟩ hb hr hh he,
    fun s k bad h => exec_bandSlot_idle k bad h⟩
  rw [hb, List.mem_singleton] at hm
  rw [hm]
  exact hc


end Sys2Proof.Proofs.BandSlots
end

section
/-! PROOF. Regions on the tile lanes (RegionsAndReports). -/

namespace Sys2Proof.Proofs.LaneRegions

open Sys2Proof.Machine Sys2Proof.Laws Sys2Proof.Proofs.Architecture Sys2Proof.Proofs.Reading Sys2Proof.Proofs.GovernorSums
  Sys2Proof.Proofs.PendingFaults Sys2Proof.Proofs.LampReactions Sys2Proof.Proofs.FlintLockOut Sys2Proof.Proofs.LampLanes
  Sys2Proof.Proofs.FaultWrites Sys2Proof.Proofs.FrameDeferral Sys2Proof.Proofs.GlareBands Sys2Proof.Proofs.FrameFlips
  Sys2Proof.Proofs.SourcesStand Sys2Proof.Proofs.TileMessages Sys2Proof.Proofs.TileRounds Sys2Proof.Proofs.SceneReads Sys2Proof.Proofs.BandReleases Sys2Proof.Proofs.BandSlots

variable {s t u w : State} {n i j : Nat} {f x : Fld} {r : Recomp} {rest : List Recomp}

/-! ### A region is recomputed -/

/-- The tries with one more for a region. -/
def triedAgain (s : State) (k : Nat × Nat × Nat) : List ((Nat × Nat × Nat) × Nat) := (k, s.triesOf k + 1) :: s.cmp.tries.filter (fun e => e.1 ≠ k)

/-- The region is taken and counted. -/
def regionTaken (s : State) (r : Recomp) (rest : List Recomp) : State :=
  ((s.withCmp { s.cmp with recomp := rest, tries := triedAgain s (r.band, r.tile, r.cell0) }).incSat F.CMP_CNT_RECOMP).evt F.CMP_EVT_RECOMP

/-- The failing words that the region reads beside those it is recomputed for. -/
def newHits (s : State) (r : Recomp) (bad : List Nat) : List (Nat × Nat) :=
  (s.parityIn bad r.band (512 * (r.tile % 4) + 32 * r.cell0) (32 * r.cells)).filter (fun e => !r.parity.contains e)

/-- The region composed again, its words judged, and queued to be pushed again. -/
def regionAgain (s : State) (r : Recomp) (bad : List Nat) : State :=
  (((s.recomputeRegion r (bad ++ bad)).parityOutcome (r.parity.filter (fun e => bad.contains e.2)) true (r.inj || false)).parityOutcome
    (r.parity.filter (fun e => !bad.contains e.2)) false r.inj).queueRepush r.tile (r.band % 16) r.cell0 r.cells

/-- The recomputation up to its end. -/
def regionEnd (s : State) (r : Recomp) (bad : List Nat) : State :=
  if (newHits s r bad).isEmpty then regionAgain s r bad
  else ((regionAgain s r bad).noteParity (newHits s r bad)).requestRecomp { r with parity := newHits s r bad, inj := false }

/-- The recomputation of a region that is taken, an armed injection among its failing words. -/
def regionWork (s : State) (r : Recomp) (bad : List Nat) : State :=
  let inj := s.armed S.CMP_PARITY_UNC && !r.parity.isEmpty
  let s := if inj then s.consumeInj S.CMP_PARITY_UNC else s
  let again := if inj then r.parity.map (fun e => e.2) else bad
  let new := newHits s r bad
  let s := s.recomputeRegion r (again ++ bad)
  let s := s.parityOutcome (r.parity.filter (fun e => again.contains e.2)) true (r.inj || inj)
  let s := s.parityOutcome (r.parity.filter (fun e => !again.contains e.2)) false r.inj
  let s := s.queueRepush r.tile (r.band % 16) r.cell0 r.cells
  if new.isEmpty then s else (s.noteParity new).requestRecomp { r with parity := new, inj := false }

theorem regionWork_idle (h : s.armed S.CMP_PARITY_UNC = false) (r : Recomp) (bad : List Nat) : regionWork s r bad = regionEnd s r bad := by
  unfold regionWork
  rw [h]
  rfl

/-- The region that waits first, in an open frame, with its band released. -/
structure RegionDue (s : State) (r : Recomp) (rest : List Recomp) : Prop where
  first : s.cmp.recomp = r :: rest
  latched : s.tln.latched = true
  opened : s.tln.closed = false
  released : s.cmp.released.any (fun e => e.1 = r.band) = true
  idle : s.armed S.CMP_PARITY_UNC = false

theorem regionTaken_only (s : State) (r : Recomp) (rest : List Recomp) :
    s.Only [F.CMP_CNT_RECOMP, F.CMP_EVT_RECOMP, F.UNIT_IRQ_STAT_EVT 0x18] [.cmp] (regionTaken s r rest) :=
  only_evt (x := F.CMP_EVT_RECOMP) (by simp) (by decide) (by decide) (only_incSat (by simp) (by decide) (only_withCmp (by simp) (only_refl _ _ s)))

theorem regionTaken_armed (s : State) (r : Recomp) (rest : List Recomp) (i : Nat) : (regionTaken s r rest).armed i = s.armed i := by
  have ho := regionTaken_only s r rest
  rw [State.armed, State.armed, only_g ho (by decide), only_g ho (by decide)]

theorem exec_recompute (h : RegionDue s r rest) (bad : List Nat) : exec (.regionRecompute bad) s = .next (regionEnd (regionTaken s.begin r rest) r bad) := by
  have hgo : (s.begin.tln.latched && !s.begin.tln.closed && s.begin.cmp.released.any (fun e => e.1 = r.band)) = true := by
    rw [show s.begin.tln = s.tln from rfl, begin_cmp, h.latched, h.opened, h.released]
    rfl
  have hfirst : s.begin.cmp.recomp = r :: rest := h.first
  have harm : (regionTaken s.begin r rest).armed S.CMP_PARITY_UNC = false := (regionTaken_armed ..).trans h.idle
  have hwork : exec (.regionRecompute bad) s = .next (regionWork (regionTaken s.begin r rest) r bad) := by
    show execRegionRecompute bad s = _
    unfold execRegionRecompute
    dsimp only
    rw [hfirst]
    dsimp only
    rw [if_pos hgo]
    rfl
  rw [hwork, regionWork_idle harm]

theorem regionTaken_cmp (s : State) (r : Recomp) (rest : List Recomp) :
    (regionTaken s r rest).cmp = { s.cmp with recomp := rest, tries := triedAgain s (r.band, r.tile, r.cell0) } := by
  rw [regionTaken, evt_cmp, incSat_cmp]
  rfl

theorem regionTaken_scene (s : State) (r : Recomp) (rest : List Recomp) : SameScene s (regionTaken s r rest) := by
  have ho := regionTaken_only s r rest
  refine ⟨fun f hp => only_g ho ?_, ho.parts.mem (by simp [Foot.of]), ho.parts.glare (by simp [Foot.of]), by rw [regionTaken_cmp], by rw [regionTaken_cmp]⟩
  have hpage : ∀ y ∈ [F.CMP_CNT_RECOMP, F.CMP_EVT_RECOMP, F.UNIT_IRQ_STAT_EVT 0x18], y.hi < 32 ∧ y.page = 0x18 := by decide
  refine List.all_eq_true.2 fun y hy => ?_
  obtain ⟨hh, hy⟩ := hpage y hy
  have hne : y.page ≠ f.page := fun h => hp (h.symm.trans hy)
  have hsep : sep y f = true := by simp [sep, hh, hne]
  exact sep_apart hsep

/-- The band with the region's pixels composed and corrected again. -/
def bandAgain (s : State) (r : Recomp) (bad : List Nat) (i : Nat) : Nat × Nat :=
  let f := ((s.gov.factors.find? (fun e => e.1 = r.band)).map (fun e => e.2)).getD (List.replicate 256 65536)
  let x0 := 512 * (r.tile % 4) + 32 * r.cell0
  if decide (x0 ≤ bandX i) && decide (bandX i < x0 + 32 * r.cells) then
    s.coded (bandX i) (bandY r.band i) (s.govOut f (bandX i) (bandY r.band i) (s.corrected [] (bandX i) (bandY r.band i) (s.compose bad (bandX i) (bandY r.band i))))
  else (s.releasedBand r.band).getD i (0, 0)

theorem recomputeRegion_eq (s : State) (r : Recomp) (bad : List Nat) :
    s.recomputeRegion r bad = s.setReleased r.band ((List.range 65536).map (bandAgain s r bad)) := rfl

theorem map_range_getD {α : Type} (g : Nat → α) (d : α) {i m : Nat} (h : i < m) : ((List.range m).map g).getD i d = g i := by
  simp [List.getD_eq_getElem?_getD, h]

theorem setReleased_released (s : State) (b : Nat) (v : List (Nat × Nat)) : (s.setReleased b v).releasedBand b = v := by
  simp [State.releasedBand, setReleased_cmp]

theorem queueRepush_only (s : State) (n b cell0 cells : Nat) : s.Only [] [.lanes] (s.queueRepush n b cell0 cells) := by
  unfold State.queueRepush
  exact only_ite (fun _ => only_modLane (by simp) (only_refl _ _ s)) (fun _ => only_refl _ _ s)

theorem queueRepush_mem (s : State) {n : Nat} (b cell0 cells : Nat) (hn : n < s.lanes.length) (h : s.inService n = true) :
    (⟨b, cell0, cells, s.frameNo % 65536, true, false⟩ : Rgn) ∈ ((s.queueRepush n b cell0 cells).lane n).queue := by
  unfold State.queueRepush
  rw [if_pos h, modLane_lane_same _ _ hn]
  simp

/-- A region recomputed for no failing word. -/
theorem regionEnd_clean (s : State) (hp : r.parity = []) : regionEnd s r [] = (s.recomputeRegion r []).queueRepush r.tile (r.band % 16) r.cell0 r.cells := by
  have hnew : newHits s r [] = [] := by
    have hnone : s.parityIn [] r.band (512 * (r.tile % 4) + 32 * r.cell0) (32 * r.cells) = [] := if_pos rfl
    rw [newHits, hnone]
    rfl
  unfold regionEnd regionAgain
  rw [hnew, hp]
  rfl


theorem triesOf_again (s : State) (k : Nat × Nat × Nat) (h : t.cmp.tries = triedAgain s k) : t.triesOf k = s.triesOf k + 1 := by
  simp [State.triesOf, h, triedAgain]

/-- What the recomputation reads is as before the region was taken. -/
theorem taken_again (s : State) (r : Recomp) (rest : List Recomp) (bad : List Nat) (i : Nat) :
    bandAgain (regionTaken s.begin r rest) r bad i = bandAgain s r bad i := by
  have ho := regionTaken_only s.begin r rest
  have hcmp := regionTaken_cmp s.begin r rest
  have hscene := regionTaken_scene s.begin r rest
  have hgov : (regionTaken s.begin r rest).gov = s.gov := ho.parts.gov (by simp [Foot.of])
  have hcal : (regionTaken s.begin r rest).cal = s.begin.cal := ho.parts.cal (by simp [Foot.of])
  have hrel : (regionTaken s.begin r rest).releasedBand r.band = s.releasedBand r.band :=
    releasedBand_congr (by rw [hcmp, begin_cmp]) _
  have hdither : (regionTaken s.begin r rest).on F.CMP_CTRL_DITHER_EN = s.on F.CMP_CTRL_DITHER_EN := (only_on ho (by decide)).trans (begin_on ..)
  have hframe : (regionTaken s.begin r rest).frameNo = s.frameNo := by
    rw [State.frameNo, State.frameNo, only_g ho (by decide), begin_g]
  have hcoded : ∀ x y p, (regionTaken s.begin r rest).coded x y p = s.coded x y p := fun x y p => by
    rw [State.coded, State.coded, hdither, hframe]
  have hout : ∀ f x y p, (regionTaken s.begin r rest).govOut f x y p = s.govOut f x y p := fun f x y p =>
    (scene_govOut hscene (hgov.trans rfl) f x y p).trans (scene_govOut (begin_scene s) rfl f x y p)
  have hcorr : ∀ x y p, (regionTaken s.begin r rest).corrected [] x y p = s.corrected [] x y p := fun x y p =>
    (scene_corrected hscene hcal [] x y p).trans (scene_corrected (begin_scene s) rfl [] x y p)
  have hcomp : ∀ x y, (regionTaken s.begin r rest).compose bad x y = s.compose bad x y := fun x y =>
    (scene_compose hscene bad x y).trans (scene_compose (begin_scene s) bad x y)
  unfold bandAgain
  simp only [hgov, hrel, hcoded, hout, hcorr, hcomp]

/-- A region whose words do not fail is recomputed with the factors of its band. -/
theorem recompute_clean (h : RegionDue s r rest) (hp : r.parity = []) :
    ∃ t, exec (.regionRecompute []) s = .next t ∧ t.cmp.recomp = rest ∧ t.gov = s.gov ∧ t.on F.CMP_EVT_RECOMP = true
      ∧ t.g F.CMP_CNT_RECOMP = min F.CMP_CNT_RECOMP.top (s.g F.CMP_CNT_RECOMP + 1)
      ∧ t.triesOf (r.band, r.tile, r.cell0) = s.triesOf (r.band, r.tile, r.cell0) + 1
      ∧ (∀ i, i < 65536 → (t.releasedBand r.band).getD i (0, 0) = bandAgain s r [] i)
      ∧ (s.shaped = true → r.tile < 8 → s.inService r.tile = true →
          (⟨r.band % 16, r.cell0, r.cells, s.frameNo % 65536, true, false⟩ : Rgn) ∈ (t.lane r.tile).queue)
      ∧ s.begin.Only [F.CMP_CNT_RECOMP, F.CMP_EVT_RECOMP, F.UNIT_IRQ_STAT_EVT 0x18] [.cmp, .lanes] t := by
  have hexec := exec_recompute h []
  rw [regionEnd_clean _ hp] at hexec
  have htaken := regionTaken_only s.begin r rest
  have hcmp := regionTaken_cmp s.begin r rest
  have hscene := regionTaken_scene s.begin r rest
  have hevt : (regionTaken s.begin r rest).on F.CMP_EVT_RECOMP = true := on_evt_self _ rfl
  have hcnt : (regionTaken s.begin r rest).g F.CMP_CNT_RECOMP = min F.CMP_CNT_RECOMP.top (s.g F.CMP_CNT_RECOMP + 1) :=
    (g_evt_sep _ (by decide) (by decide)).trans ((g_incSat (by decide) (by decide) (g_le_top _ _)).trans (by rw [withCmp_g, begin_g]))
  have hout := taken_again s r rest []
  generalize regionTaken s.begin r rest = w at hexec htaken hcmp hscene hevt hcnt hout
  rw [recomputeRegion_eq] at hexec
  have hrel := setReleased_released w r.band ((List.range 65536).map (bandAgain w r []))
  have hput : w.Only [] [.cmp] (w.setReleased r.band ((List.range 65536).map (bandAgain w r []))) :=
    only_withCmp (by simp) (only_refl _ _ w)
  have hpcmp := setReleased_cmp w r.band ((List.range 65536).map (bandAgain w r []))
  have hmap : ∀ i, i < 65536 → ((List.range 65536).map (bandAgain w r [])).getD i (0, 0) = bandAgain w r [] i := fun i hi => map_range_getD _ _ hi
  have hpg : ∀ x, (w.setReleased r.band ((List.range 65536).map (bandAgain w r []))).g x = w.g x := fun x => withCmp_g ..
  generalize (List.range 65536).map (bandAgain w r []) = out at hexec hrel hput hpcmp hmap hpg
  generalize w.setReleased r.band out = v at hexec hrel hput hpcmp hpg
  have hqueue := queueRepush_only v r.tile (r.band % 16) r.cell0 r.cells
  have hqcmp : (v.queueRepush r.tile (r.band % 16) r.cell0 r.cells).cmp = v.cmp := hqueue.parts.cmp (by simp [Foot.of])
  have hall : s.begin.Only [F.CMP_CNT_RECOMP, F.CMP_EVT_RECOMP, F.UNIT_IRQ_STAT_EVT 0x18] [.cmp, .lanes] (v.queueRepush r.tile (r.band % 16) r.cell0 r.cells) :=
    only_app (by simp) (by simp) hqueue (only_app (by simp) (by simp) hput (only_mono (by simp) (by simp) htaken))
  have hreg : ∀ x : Fld, (v.queueRepush r.tile (r.band % 16) r.cell0 r.cells).g x = w.g x := fun x => (only_g hqueue rfl).trans (hpg x)
  refine ⟨_, hexec, by rw [hqcmp, hpcmp, hcmp], hall.parts.gov (by simp [Foot.of]), (on_congr (hreg _)).trans hevt, (hreg _).trans hcnt,
    triesOf_again s _ (by rw [hqcmp, hpcmp, hcmp]; rfl), fun i hi => ?_, fun hs ht hin => ?_, hall⟩
  · rw [releasedBand_congr (congrArg Cmp.released hqcmp), hrel, hmap i hi, hout]
  · have hvl : v.lanes = s.lanes := (hput.parts.lanes (by simp [Foot.of])).trans (htaken.parts.lanes (by simp [Foot.of]))
    have hstate : v.g (F.TL_STAT_STATE r.tile) = s.g (F.TL_STAT_STATE r.tile) := (hpg _).trans (hscene.field _ (fun hp => by simp only [F.TL_STAT_STATE] at hp; omega))
    have hserve : v.inService r.tile = true := by
      simp only [State.inService, State.lane, hstate, hvl] at hin ⊢
      exact hin
    have hframe : v.frameNo = s.frameNo := by
      rw [State.frameNo, State.frameNo, hpg, only_g htaken (by decide), begin_g]
    rw [← hframe]
    exact queueRepush_mem v _ _ _ (by rw [hvl, shaped_lanes hs]; exact ht) hserve

/-! ### Words that fail again -/

theorem parityOutcome_cons (s : State) (e : Nat × Nat) (l : List (Nat × Nat)) (unc inj : Bool) :
    s.parityOutcome (e :: l) unc inj = (s.detect cmpPages (if unc then S.CMP_PARITY_UNC else S.CMP_PARITY) e.1 e.2 inj).parityOutcome l unc inj := rfl

theorem parity_source (unc : Bool) : (if unc then S.CMP_PARITY_UNC else S.CMP_PARITY) < 75 := by cases unc <;> decide

theorem parityOutcome_keeps (hj : j < 75) (unc inj : Bool) (l : List (Nat × Nat)) : ∀ s : State, s.on (fltPend j) = true →
    (s.parityOutcome l unc inj).on (fltPend j) = true := by
  induction l with
  | nil => exact fun _ h => h
  | cons e l ih =>
    intro s h
    rw [parityOutcome_cons]
    exact ih _ (detect_keeps_pend _ _ _ _ _ (parity_source unc) hj h)

theorem parityOutcome_level (hj : j < 75) (unc inj : Bool) (l : List (Nat × Nat)) : ∀ s : State, (s.parityOutcome l unc inj).defLevel j = s.defLevel j := by
  induction l with
  | nil => exact fun _ => rfl
  | cons e l ih =>
    intro s
    rw [parityOutcome_cons, ih]
    exact detect_level _ _ _ _ _ (parity_source unc) hj

theorem parityOutcome_rst (s : State) (l : List (Nat × Nat)) (unc inj : Bool) : (s.parityOutcome l unc inj).rst = s.rst :=
  within_rst (parityOutcome_fits (g := Foot.reaction [0x02, 0x18] []) s l unc inj (by decide) (fits_refl _ s)).within rfl (by decide)

theorem quietPages_congr (h : t.rst = s.rst) : cmpPages.any t.quiet = cmpPages.any s.quiet := by
  rw [show t.quiet = s.quiet from funext fun p => quiet_congr h p]

/-- Each word of an outcome raises its source. -/
theorem parityOutcome_pends {e : Nat × Nat} (unc inj : Bool) (l : List (Nat × Nat)) : ∀ s : State, e ∈ l → cmpPages.any s.quiet = false →
    s.defLevel (if unc then S.CMP_PARITY_UNC else S.CMP_PARITY) ≠ 0 →
    (s.parityOutcome l unc inj).on (fltPend (if unc then S.CMP_PARITY_UNC else S.CMP_PARITY)) = true := by
  induction l with
  | nil => exact fun _ h => absurd h List.not_mem_nil
  | cons d l ih =>
    intro s he hq hd
    have hrst := within_rst (parityOutcome_fits (g := Foot.reaction [0x02, 0x18] []) s [d] unc inj (by decide) (fits_refl _ s)).within rfl (by decide)
    rw [parityOutcome_cons]
    obtain he | he := List.mem_cons.1 he
    · exact parityOutcome_keeps (parity_source unc) unc inj l _ (detect_pend _ _ _ _ hq (parity_source unc) hd)
    · refine ih _ he ((quietPages_congr hrst).trans hq) ?_
      rw [detect_level _ _ _ _ _ (parity_source unc) (parity_source unc)]
      exact hd

theorem fits_keeps_pend {g : Foot} (hfit : s.Fits g t) (ha : g.any = false) (hu : g.units.contains (groupPage 0x70) = false) (h : s.on (fltPend j) = true) :
    t.on (fltPend j) = true := (on_congr (fits_g hfit ha hu)).trans h

theorem deferFaults_keeps (run : Nat) (hj : j < 75) (h : s.on (fltPend j) = true) : (deferFaults s run).on (fltPend j) = true := by
  have hd := detect_keeps_pend s cmpPages (i := S.CMP_DEFER) 0 0 false (by decide) hj h
  unfold deferFaults
  extract_lets v
  split_ifs
  · exact detect_keeps_pend _ _ _ _ _ (by decide) hj (fits_keeps_pend (evt_fits (f := Foot.of [0x18] []) (x := F.CMP_EVT_DEFER_FATAL) (by decide) (fits_refl _ v)) rfl (by decide) hd)
  · exact hd

theorem recompLost_keeps (hj : j < 75) (h : s.on (fltPend j) = true) : (recompLost s).on (fltPend j) = true :=
  List.foldlRecOn (motive := fun u : State => u.on (fltPend j) = true) _ _ h (fun _ hu r _ => parityOutcome_keeps hj true r.inj r.parity _ hu)

theorem deferFlip_keeps (blk : Bool) (hj : j < 75) (h : s.on (fltPend j) = true) : (s.deferFlip blk).on (fltPend j) = true := by
  have hlost := recompLost_keeps hj h
  rw [deferFlip_eq]
  have hcount : (recompLost s).Fits (Foot.of [0x18] []) (deferCounted (recompLost s) blk) := by
    unfold deferCounted
    exact fits_ite (evt_fits (by decide) (incSat_fits (by decide) (evt_fits (by decide) (fits_refl _ _)))) (incSat_fits (by decide) (evt_fits (by decide) (fits_refl _ _)))
  generalize recompLost s = u at hlost hcount ⊢
  have hput : u.Fits (Foot.of [0x18] [.tln, .cmp]) (putOff (deferCounted u blk) (deferRun (deferCounted u blk))) := by
    refine withCmp_fits _ (by decide) (withTln_fits _ (by decide) (put_fits _ (by decide) (put_fits _ (by decide) ?_)))
    exact fits_mono (by decide) hcount
  exact deferFaults_keeps _ hj (fits_keeps_pend hput rfl (by decide) hlost)

theorem requestRecomp_keepsPend (r : Recomp) (hj : j < 75) (h : s.on (fltPend j) = true) : (s.requestRecomp r).on (fltPend j) = true := by
  unfold State.requestRecomp
  split_ifs
  · exact h
  · exact deferFlip_keeps _ hj (parityOutcome_keeps hj _ _ _ _ h)
  · exact parityOutcome_keeps hj _ _ _ _ h

/-- The end of a recomputation keeps what pends. -/
theorem regionEnd_keeps (bad : List Nat) (hj : j < 75) (h : (regionAgain s r bad).on (fltPend j) = true) : (regionEnd s r bad).on (fltPend j) = true := by
  unfold regionEnd
  split_ifs
  · exact h
  · refine requestRecomp_keepsPend _ hj (fits_keeps_pend (noteParity_fits (g := Foot.of [0x18] []) _ _ (by decide) (fits_refl _ _)) rfl (by decide) h)

/-- Failing words that fail again are reported uncorrected, the others corrected. -/
theorem recompute_failing {bad : List Nat} {e : Nat × Nat} (h : RegionDue s r rest) (hq : cmpPages.any s.quiet = false) (he : e ∈ r.parity) :
    ∃ t, exec (.regionRecompute bad) s = .next t
      ∧ (bad.contains e.2 = true → s.defLevel S.CMP_PARITY_UNC ≠ 0 → t.on (fltPend S.CMP_PARITY_UNC) = true)
      ∧ (bad.contains e.2 = false → s.defLevel S.CMP_PARITY ≠ 0 → t.on (fltPend S.CMP_PARITY) = true) ∧ t.gov = s.gov ∧ t.mem = s.mem := by
  have hexec := exec_recompute h bad
  have hwithin := does_within (execRegionRecompute_fits bad s) hexec
  have ho := regionTaken_only s.begin r rest
  have hlevel : ∀ i, i = S.CMP_PARITY_UNC ∨ i = S.CMP_PARITY → (regionTaken s.begin r rest).defLevel i = s.defLevel i := fun i hi => by
    have hsev : clear [F.CMP_CNT_RECOMP, F.CMP_EVT_RECOMP, F.UNIT_IRQ_STAT_EVT 0x18] (fltSev i) = true := by
      obtain rfl | rfl := hi <;> decide
    rw [State.defLevel, State.defLevel, only_on ho (by decide), only_g ho hsev, begin_on, begin_g]
  have hrst : (regionTaken s.begin r rest).rst = s.rst := ho.parts.rst (by simp [Foot.of])
  refine ⟨_, hexec, fun hb hd => regionEnd_keeps bad (by decide) ?_, fun hb hd => regionEnd_keeps bad (by decide) ?_,
    within_gov hwithin rfl (by decide), within_mem hwithin rfl (by decide)⟩
  · generalize regionTaken s.begin r rest = w at hlevel hrst
    have hmem : e ∈ r.parity.filter (fun e => bad.contains e.2) := List.mem_filter.2 ⟨he, hb⟩
    refine (only_on (queueRepush_only _ _ _ _ _) rfl).trans (parityOutcome_keeps (by decide) _ _ _ _ ?_)
    exact parityOutcome_pends (e := e) true (r.inj || false) _ (w.recomputeRegion r (bad ++ bad)) hmem ((quietPages_congr hrst).trans hq)
      (by rw [← hlevel _ (.inl rfl)] at hd; exact hd)
  · generalize regionTaken s.begin r rest = w at hlevel hrst
    have hmem : e ∈ r.parity.filter (fun e => !bad.contains e.2) := List.mem_filter.2 ⟨he, by rw [hb]; rfl⟩
    have hrec : (w.recomputeRegion r (bad ++ bad)).rst = s.rst := hrst
    refine (only_on (queueRepush_only _ _ _ _ _) rfl).trans ?_
    refine parityOutcome_pends (e := e) false r.inj _ _ hmem ((quietPages_congr ((parityOutcome_rst _ _ _ _).trans hrec)).trans hq) ?_
    rw [parityOutcome_level (parity_source false)]
    rw [← hlevel _ (.inr rfl)] at hd
    exact hd

theorem recompute_none (bad : List Nat) (h : s.cmp.recomp = []) : exec (.regionRecompute bad) s = .next s.begin := by
  have hnone : s.begin.cmp.recomp = [] := h
  show execRegionRecompute bad s = _
  unfold execRegionRecompute
  dsimp only
  rw [hnone]


/-! ### A region is pushed -/

/-- The cells of a region. -/
def regionCells (r : Rgn) : List Nat := (List.range r.cells).map (fun i => 16 * r.band + r.cell0 + i)

/-- A lane that starts its next region. -/
def startLane (r : Rgn) (rest : List Rgn) (p : List Byte) (sigs : List Nat) (l : Lane) : Lane :=
  { l with queue := rest, sending := some r, due := l.due ++ l.sending.toList, packet := p, rseq := (l.rseq + 1) % 256, sigs := sigs
           dirty := l.dirty.filter (fun d => !(regionCells r).contains d) }

/-- A push is counted. -/
def pushCounted (s : State) (n : Nat) (r : Rgn) : State :=
  if r.repush then (s.inc (F.TL_CNT_PUSH_REGIONS n)).incSat (F.TL_CNT_PUSH_REPUSH n) else s.inc (F.TL_CNT_PUSH_REGIONS n)

theorem exec_push {r : Rgn} {rest : List Rgn} (hn : n < 8) (hst : s.tlst n = 5) (hq : (s.lane n).queue = r :: rest) :
    ∃ sigs, exec (.regionPush n) s = .next (pushCounted (s.begin.modLane n (startLane r rest (s.regionPacket n r) sigs)) n r) := by
  have hgo : (decide (n < 8) && decide (s.begin.tlst n = 5)) = true := by
    rw [show s.begin.tlst n = s.tlst n from rfl, decide_eq_true hn, decide_eq_true hst]
    rfl
  have hqueue : (s.begin.lane n).queue = r :: rest := hq
  show ∃ sigs, execRegionPush n s = _
  unfold execRegionPush
  dsimp only
  rw [if_pos hgo, hqueue]
  exact ⟨_, rfl⟩

theorem pushCounted_only (s : State) (n : Nat) (r : Rgn) : s.Only [F.TL_CNT_PUSH_REGIONS n, F.TL_CNT_PUSH_REPUSH n] [] (pushCounted s n r) := by
  have hinc : s.Only [F.TL_CNT_PUSH_REGIONS n, F.TL_CNT_PUSH_REPUSH n] [] (s.inc (F.TL_CNT_PUSH_REGIONS n)) :=
    only_put _ (by simp) (by simp [F.TL_CNT_PUSH_REGIONS]) (only_refl _ _ s)
  exact only_ite (fun _ => only_incSat (by simp) (by simp [F.TL_CNT_PUSH_REPUSH]) hinc) (fun _ => hinc)

theorem push_places (n : Nat) : sep (F.TL_CNT_PUSH_REPUSH n) (F.TL_CNT_PUSH_REGIONS n) = true ∧ sep (F.TL_CNT_PUSH_REGIONS n) (F.TL_CNT_PUSH_REPUSH n) = true := by
  simp [sep, F.TL_CNT_PUSH_REPUSH, F.TL_CNT_PUSH_REGIONS]

theorem pushCounted_regions (s : State) (n : Nat) (r : Rgn) : (pushCounted s n r).g (F.TL_CNT_PUSH_REGIONS n) = (s.g (F.TL_CNT_PUSH_REGIONS n) + 1) % 65536 := by
  have hinc : (s.inc (F.TL_CNT_PUSH_REGIONS n)).g (F.TL_CNT_PUSH_REGIONS n) = (s.g (F.TL_CNT_PUSH_REGIONS n) + 1) % 65536 :=
    g_put_same _ _ _ (by simp [F.TL_CNT_PUSH_REGIONS]) (by simp [F.TL_CNT_PUSH_REGIONS])
  unfold pushCounted
  split_ifs
  · exact (g_incSat_sep _ (push_places n).1).trans hinc
  · exact hinc

theorem pushCounted_repush (s : State) (n : Nat) {r : Rgn} (hr : r.repush = true) :
    (pushCounted s n r).g (F.TL_CNT_PUSH_REPUSH n) = min 65535 (s.g (F.TL_CNT_PUSH_REPUSH n) + 1) := by
  unfold pushCounted
  rw [if_pos hr]
  refine (g_incSat (by simp [F.TL_CNT_PUSH_REPUSH]) (by simp [F.TL_CNT_PUSH_REPUSH]) (g_le_top _ _)).trans ?_
  rw [State.inc, g_put_sep _ _ (push_places n).2]
  rfl

/-- An ACTIVE lane starts its next region. -/
theorem push_starts {r : Rgn} {rest : List Rgn} (hs : s.shaped = true) (hn : n < 8) (hst : s.tlst n = 5) (hq : (s.lane n).queue = r :: rest) :
    ∃ t, exec (.regionPush n) s = .next t ∧ (t.lane n).queue = rest ∧ (t.lane n).sending = some r
      ∧ (t.lane n).due = (s.lane n).due ++ (s.lane n).sending.toList ∧ (t.lane n).packet = s.regionPacket n r
      ∧ (t.lane n).rseq = ((s.lane n).rseq + 1) % 256
      ∧ (∀ c, c < r.cells → 16 * r.band + r.cell0 + c ∉ (t.lane n).dirty)
      ∧ t.g (F.TL_CNT_PUSH_REGIONS n) = (s.g (F.TL_CNT_PUSH_REGIONS n) + 1) % 65536
      ∧ (r.repush = true → t.g (F.TL_CNT_PUSH_REPUSH n) = min 65535 (s.g (F.TL_CNT_PUSH_REPUSH n) + 1))
      ∧ (∀ m, m ≠ n → t.lane m = s.lane m)
      ∧ s.begin.Only [F.TL_CNT_PUSH_REGIONS n, F.TL_CNT_PUSH_REPUSH n] [.lanes] t := by
  obtain ⟨sigs, hexec⟩ := exec_push hn hst hq
  have hlen : n < s.begin.lanes.length := by rw [begin_lanes, shaped_lanes hs]; exact hn
  have hsame := modLane_lane_same s.begin (startLane r rest (s.regionPacket n r) sigs) hlen
  have hother : ∀ m, m ≠ n → (s.begin.modLane n (startLane r rest (s.regionPacket n r) sigs)).lane m = s.lane m := fun m hm =>
    modLane_lane_other s.begin _ (Ne.symm hm)
  have hmod : s.begin.Only [F.TL_CNT_PUSH_REGIONS n, F.TL_CNT_PUSH_REPUSH n] [.lanes] (s.begin.modLane n (startLane r rest (s.regionPacket n r) sigs)) :=
    only_modLane (by simp) (only_refl _ _ _)
  have hg : ∀ x, (s.begin.modLane n (startLane r rest (s.regionPacket n r) sigs)).g x = s.g x := fun x => (modLane_g ..).trans (begin_g ..)
  generalize s.begin.modLane n (startLane r rest (s.regionPacket n r) sigs) = v at hexec hsame hother hmod hg
  have honly := pushCounted_only v n r
  have hlanes : (pushCounted v n r).lanes = v.lanes := honly.parts.lanes (by simp [Foot.of])
  have hlane : ∀ m, (pushCounted v n r).lane m = v.lane m := fun m => by rw [State.lane, State.lane, hlanes]
  refine ⟨_, hexec, ?_, ?_, ?_, ?_, ?_, fun c hc => ?_, ?_, fun hr => ?_, fun m hm => (hlane m).trans (hother m hm), only_app (by simp) (by simp) honly hmod⟩
  · rw [hlane, hsame]; rfl
  · rw [hlane, hsame]; rfl
  · rw [hlane, hsame]; rfl
  · rw [hlane, hsame]; rfl
  · rw [hlane, hsame]; rfl
  · rw [hlane, hsame]
    have hcell : 16 * r.band + r.cell0 + c ∈ regionCells r := List.mem_map.2 ⟨c, List.mem_range.2 hc, rfl⟩
    intro hd
    have hnot := (List.mem_filter.1 hd).2
    rw [List.contains_iff_mem.2 hcell] at hnot
    exact Bool.false_ne_true hnot
  · rw [pushCounted_regions, hg]
  · rw [pushCounted_repush v n hr, hg]

theorem push_rests (h : s.tlst n ≠ 5 ∨ (s.lane n).queue = []) : exec (.regionPush n) s = .next s.begin := by
  show execRegionPush n s = _
  unfold execRegionPush
  dsimp only
  by_cases hgo : (decide (n < 8) && decide (s.begin.tlst n = 5)) = true
  · have hst : s.tlst n = 5 := by
      rw [Bool.and_eq_true] at hgo
      exact of_decide_eq_true hgo.2
    have hq : (s.begin.lane n).queue = [] := h.resolve_left fun hne => hne hst
    rw [if_pos hgo, hq]
  · rw [if_neg hgo]

/-! ### A report that does not come -/

/-- The miss is noted on the lane. -/
def missNoted (s : State) (n : Nat) (rest : List Rgn) : State :=
  ((((s.modLane n (fun l => { l with due := rest })).evt (F.TL_EVT_REPORT_MISS n)).incSat (F.TL_CNT_ERR_CRC_FAIL n)).modLane n
    (fun l => { l with missRun := l.missRun + 1 }))

/-- The missed report counts as a failed region. -/
def missFailed (s : State) (n : Nat) (r : Rgn) (rest : List Rgn) : State :=
  ((missNoted s n rest).detect (tlCrcPages n) S.TL_REPORT_MISS n 0 false).regionFailed n r

theorem exec_reportTimeout {r : Rgn} {rest : List Rgn} (hn : n < 8) (hd : (s.lane n).due = r :: rest) :
    exec (.reportTimeout n) s = .next (if decide (2 ≤ ((missFailed s.begin n r rest).lane n).missRun) && decide ((missFailed s.begin n r rest).tlst n = 5) then
      (missFailed s.begin n r rest).retrain n else missFailed s.begin n r rest) := by
  have hnext : s.begin.nextReport n = some (r, s.begin.modLane n (fun l => { l with due := rest })) := by
    have hdue : (s.begin.lane n).due = r :: rest := hd
    unfold State.nextReport
    dsimp only
    rw [hdue]
  show execReportTimeout n s = _
  unfold execReportTimeout
  dsimp only
  rw [if_pos hn, hnext]
  rfl

theorem reportTimeout_rests (hd : (s.lane n).due = []) (hs : (s.lane n).sending = none) : exec (.reportTimeout n) s = .next s.begin := by
  have hnext : s.begin.nextReport n = none := by
    have hdue : (s.begin.lane n).due = [] := hd
    have hsend : (s.begin.lane n).sending = none := hs
    unfold State.nextReport
    dsimp only
    rw [hdue, hsend]
  show execReportTimeout n s = _
  unfold execReportTimeout
  dsimp only
  rw [hnext]
  exact congrArg Host.Outcome.next (ite_self _)


/-- A detection that is CORRECTED at most leaves every lane as it was. -/
theorem detect_low (s : State) (pages : List Nat) (inst addr : Nat) (hd : s.defLevel i ≤ 1) :
    (s.detect pages i inst addr false).lanes = s.lanes ∧ ∀ m, (s.detect pages i inst addr false).tlst m = s.tlst m := by
  have hfit := conseq_fits (g := Foot.of [0x02, 0x70, 0x71] [.flt, .evr]) s i inst addr (by decide) (fits_refl _ s)
  unfold State.detect
  split_ifs
  · refine ⟨within_lanes hfit.within rfl (by decide), fun m => fits_g hfit rfl ?_⟩
    exact (by decide : ∀ k < 8, (Foot.of [0x02, 0x70, 0x71] [.flt, .evr]).units.contains (groupPage (0x51 + k)) = false) (m % 8) (Nat.mod_lt _ (by decide))
  · rw [raiseWith_low s inst addr false hd]
    refine ⟨(lanes_core s.lanes).raiseCore i inst addr false rfl, fun m => core_g s i inst addr false ?_ ?_ ?_⟩
    · simp only [F.TL_STAT_STATE]; omega
    · simp only [F.TL_STAT_STATE]; omega
    · simp [F.TL_STAT_STATE]

theorem miss_places : ∀ n < 8, oneBit (F.TL_EVT_REPORT_MISS n) = true ∧ sep (F.TL_CNT_ERR_CRC_FAIL n) (F.TL_EVT_REPORT_MISS n) = true
    ∧ sep (F.TL_EVT_REPORT_MISS n) (F.TL_CNT_ERR_CRC_FAIL n) = true ∧ sep (F.UNIT_IRQ_STAT_EVT (F.TL_EVT_REPORT_MISS n).page) (F.TL_CNT_ERR_CRC_FAIL n) = true
    ∧ lampField (F.TL_EVT_REPORT_MISS n) = true ∧ lampField (F.TL_CNT_ERR_CRC_FAIL n) = true
    ∧ F.RST_BLK_STAT_CONSEQ_CNT.apart (F.TL_EVT_REPORT_MISS n) = true ∧ F.RST_BLK_STAT_CONSEQ_CNT.apart (F.TL_CNT_ERR_CRC_FAIL n) = true
    ∧ sep F.RST_BLK_STAT_CONSEQ_CNT (F.TL_CTRL_TRIES n) = true ∧ lampField (F.TL_CTRL_TRIES n) = true
    ∧ clear [F.TL_EVT_REPORT_MISS n, F.TL_CNT_ERR_CRC_FAIL n, F.UNIT_IRQ_STAT_EVT (0x51 + n % 8)] (F.TL_CTRL_TRIES n) = true
    ∧ clear [F.TL_EVT_REPORT_MISS n, F.TL_CNT_ERR_CRC_FAIL n, F.UNIT_IRQ_STAT_EVT (0x51 + n % 8)] (F.TL_STAT_STATE n) = true := by decide

theorem missNoted_only (s : State) (n : Nat) (rest : List Rgn) :
    s.Only [F.TL_EVT_REPORT_MISS n, F.TL_CNT_ERR_CRC_FAIL n, F.UNIT_IRQ_STAT_EVT (0x51 + n % 8)] [.lanes] (missNoted s n rest) := by
  refine only_modLane (by simp) (only_incSat (by simp) (by simp [F.TL_CNT_ERR_CRC_FAIL]) ?_)
  exact only_evt (by simp) (by simp [F.TL_EVT_REPORT_MISS]) (by simp [F.TL_EVT_REPORT_MISS]) (only_modLane (by simp) (only_refl _ _ s))

/-- What a missed report leaves before it counts as a failed region. -/
theorem missNoted_leaves (s : State) {n : Nat} (rest : List Rgn) (hn : n < 8) (hlen : n < s.lanes.length) :
    (missNoted s n rest).on (F.TL_EVT_REPORT_MISS n) = true
      ∧ (missNoted s n rest).g (F.TL_CNT_ERR_CRC_FAIL n) = min (F.TL_CNT_ERR_CRC_FAIL n).top (s.g (F.TL_CNT_ERR_CRC_FAIL n) + 1)
      ∧ (missNoted s n rest).lane n = { s.lane n with due := rest, missRun := (s.lane n).missRun + 1 }
      ∧ (missNoted s n rest).lanes.length = s.lanes.length := by
  obtain ⟨p1, p2, p3, p4, -⟩ := miss_places n hn
  have hlane := modLane_lane_same s (fun l => { l with due := rest }) hlen
  have hcnt : ∀ v : State, ((v.evt (F.TL_EVT_REPORT_MISS n)).incSat (F.TL_CNT_ERR_CRC_FAIL n)).g (F.TL_CNT_ERR_CRC_FAIL n)
      = min (F.TL_CNT_ERR_CRC_FAIL n).top (v.g (F.TL_CNT_ERR_CRC_FAIL n) + 1) := fun v => by
    rw [g_incSat (by simp [F.TL_CNT_ERR_CRC_FAIL]) (by simp [F.TL_CNT_ERR_CRC_FAIL]) (g_le_top _ _), g_evt_sep _ p3 p4]
  refine ⟨(modLane_on ..).trans ((on_incSat_sep _ p2).trans (on_evt_self _ p1)), (modLane_g ..).trans ((hcnt _).trans (by rw [modLane_g])), ?_, ?_⟩
  · have hl : (((s.modLane n (fun l => { l with due := rest })).evt (F.TL_EVT_REPORT_MISS n)).incSat (F.TL_CNT_ERR_CRC_FAIL n)).lanes = (s.modLane n (fun l => { l with due := rest })).lanes :=
      (incSat_lanes ..).trans (evt_lanes ..)
    have hlen2 : n < (((s.modLane n (fun l => { l with due := rest })).evt (F.TL_EVT_REPORT_MISS n)).incSat (F.TL_CNT_ERR_CRC_FAIL n)).lanes.length := by
      rw [hl, modLane_lanes_length]
      exact hlen
    rw [missNoted, modLane_lane_same _ _ hlen2, State.lane, hl, ← State.lane, hlane]
  · rw [missNoted, modLane_lanes_length, incSat_lanes, evt_lanes, modLane_lanes_length]


/-- In an open frame a failed region is to be recomputed while it has tries; else only its cells are dirty. -/
theorem regionFailed_open {r : Rgn} (hc : s.tln.closed = false)
    (ht : s.tln.latched = true → r.frame = s.frameNo % 65536 → s.triesOf (fieldBand n r.band, n, r.cell0) < s.g F.CMP_CTRL_RETRY_MAX) :
    ∃ c, s.regionFailed n r = (s.modLane n (fun l => l.dirtyCells r.band r.cell0 r.cells)).withCmp c
      ∧ (s.tln.latched = true → r.frame = s.frameNo % 65536 → c.recomp = joinRecomp s.cmp.recomp ⟨fieldBand n r.band, n, r.cell0, r.cells, [], false⟩) := by
  have hmod : s.Only [] [.lanes] (s.modLane n (fun l => l.dirtyCells r.band r.cell0 r.cells)) := only_modLane (by simp) (only_refl _ _ s)
  unfold State.regionFailed
  generalize s.modLane n (fun l => l.dirtyCells r.band r.cell0 r.cells) = u at hmod ⊢
  have htln : u.tln = s.tln := hmod.parts.tln (by simp [Foot.of])
  have hcmp : u.cmp = s.cmp := hmod.parts.cmp (by simp [Foot.of])
  have hframe : u.frameNo = s.frameNo := by rw [State.frameNo, State.frameNo, only_g hmod rfl]
  dsimp only
  by_cases hin : (u.tln.latched && decide (r.frame = u.frameNo % 65536)) = true
  · have hparts := hin
    rw [Bool.and_eq_true, htln, hframe, decide_eq_true_eq] at hparts
    have htry : u.triesOf (fieldBand n r.band, n, r.cell0) < u.g F.CMP_CTRL_RETRY_MAX := by
      rw [State.triesOf, hcmp, ← State.triesOf, only_g hmod rfl]
      exact ht hparts.1 hparts.2
    have hopen : (u.tln.latched && !u.tln.closed) = true := by
      rw [htln, hparts.1, hc]
      rfl
    rw [if_pos hin, if_neg (by rw [htln, hc]; decide), State.requestRecomp, if_pos hopen, if_pos (decide_eq_true htry)]
    exact ⟨_, rfl, fun _ _ => by rw [hcmp]⟩
  · rw [if_neg hin]
    refine ⟨u.cmp, rfl, fun hl hf => absurd ?_ hin⟩
    rw [Bool.and_eq_true, htln, hframe]
    exact ⟨hl, decide_eq_true hf⟩

/-- A missed report that is CORRECTED at most, with its faults raised. -/
structure MissRaised (s : State) (n : Nat) (rest : List Rgn) (v : State) : Prop where
  event : v.on (F.TL_EVT_REPORT_MISS n) = true
  count : v.g (F.TL_CNT_ERR_CRC_FAIL n) = min (F.TL_CNT_ERR_CRC_FAIL n).top (s.g (F.TL_CNT_ERR_CRC_FAIL n) + 1)
  lane : v.lane n = { s.lane n with due := rest, missRun := (s.lane n).missRun + 1 }
  table : v.lanes.length = s.lanes.length
  state : v.tlst n = s.tlst n
  tln : v.tln = s.tln
  cmp : v.cmp = s.cmp
  tries : v.g (F.TL_CTRL_TRIES n) = s.g (F.TL_CTRL_TRIES n)
  retries : v.g F.CMP_CTRL_RETRY_MAX = s.g F.CMP_CTRL_RETRY_MAX
  frame : v.frameNo = s.frameNo
  level : v.defLevel S.TL_RETRAIN = s.defLevel S.TL_RETRAIN

theorem missNoted_level (s : State) {n : Nat} (rest : List Rgn) (hn : n < 8) (i : Nat) : (missNoted s n rest).defLevel i = s.defLevel i := by
  have hu : (Foot.of [0x50] [.lanes]).hasUnit (groupPage (F.TL_EVT_REPORT_MISS n).page) = true ∧ (Foot.of [0x50] [.lanes]).hasUnit (groupPage (F.TL_CNT_ERR_CRC_FAIL n).page) = true :=
    (by decide : ∀ n < 8, (Foot.of [0x50] [.lanes]).hasUnit (groupPage (F.TL_EVT_REPORT_MISS n).page) = true
      ∧ (Foot.of [0x50] [.lanes]).hasUnit (groupPage (F.TL_CNT_ERR_CRC_FAIL n).page) = true) n hn
  have hfit : s.Fits (Foot.of [0x50] [.lanes]) (missNoted s n rest) :=
    modLane_fits _ _ _ (by decide) (incSat_fits hu.2 (evt_fits hu.1 (modLane_fits _ _ _ (by decide) (fits_refl _ s))))
  exact fits_defLevel hfit rfl (by decide) i

theorem miss_raised (s : State) {n : Nat} (rest : List Rgn) (hn : n < 8) (hlen : n < s.lanes.length) (hd : s.defLevel S.TL_REPORT_MISS ≤ 1) :
    MissRaised s n rest ((missNoted s n rest).detect (tlCrcPages n) S.TL_REPORT_MISS n 0 false) := by
  obtain ⟨-, -, -, -, p5, p6, p7, p8, p9, p10, p11, p12⟩ := miss_places n hn
  obtain ⟨h1, h2, h3, h4⟩ := missNoted_leaves s rest hn hlen
  have honly := missNoted_only s n rest
  have hlevel := missNoted_level s rest hn
  have hclear := (by decide : ∀ n < 8, clear [F.TL_EVT_REPORT_MISS n, F.TL_CNT_ERR_CRC_FAIL n, F.UNIT_IRQ_STAT_EVT (0x51 + n % 8)] F.CMP_CTRL_RETRY_MAX = true
    ∧ clear [F.TL_EVT_REPORT_MISS n, F.TL_CNT_ERR_CRC_FAIL n, F.UNIT_IRQ_STAT_EVT (0x51 + n % 8)] F.CMP_FRAME_FRAME_NO = true) n hn
  generalize missNoted s n rest = w at h1 h2 h3 h4 honly hlevel ⊢
  obtain ⟨hlanes, hstate⟩ := detect_low w (tlCrcPages n) n 0 (by rw [hlevel]; exact hd)
  have hunit : (Foot.reaction [0x02] []).hasUnit (groupPage (srcPage S.TL_REPORT_MISS n)) = true :=
    (by decide : ∀ n < 8, (Foot.reaction [0x02] []).hasUnit (groupPage (srcPage S.TL_REPORT_MISS n)) = true) n hn
  have hfit := detect_fits (g := Foot.reaction [0x02] []) w (tlCrcPages n) S.TL_REPORT_MISS n 0 false hunit (by decide) (fits_refl _ w)
  have hlane : (w.detect (tlCrcPages n) S.TL_REPORT_MISS n 0 false).lane n = w.lane n := by rw [State.lane, State.lane, hlanes]
  have hg : ∀ {f : Fld}, lampField f = true → F.RST_BLK_STAT_CONSEQ_CNT.apart f = true → (w.detect (tlCrcPages n) S.TL_REPORT_MISS n 0 false).g f = w.g f :=
    fun hl hc => detect_lamp _ _ _ _ _ _ hl hc
  refine ⟨(on_congr (hg p5 p7)).trans h1, (hg p6 p8).trans h2, hlane.trans h3, by rw [hlanes, h4], (hstate n).trans (only_g honly p12),
    (within_tln hfit.within rfl (by decide)).trans (honly.parts.tln (by simp [Foot.of])), (within_cmp hfit.within rfl (by decide)).trans (honly.parts.cmp (by simp [Foot.of])),
    (hg p10 (sep_apart p9)).trans (only_g honly p11), (hg (by decide) (by decide)).trans (only_g honly hclear.1), ?_,
    (detect_level _ _ _ _ _ (by decide) (by decide)).trans (hlevel _)⟩
  rw [State.frameNo, State.frameNo, hg (by decide) (by decide), only_g honly hclear.2]

/-- A first miss counts as a failed region. -/
theorem report_missed {r : Rgn} {rest : List Rgn} (hs : s.shaped = true) (hn : n < 8) (hdue : (s.lane n).due = r :: rest) (hrun : (s.lane n).missRun = 0)
    (hd : s.defLevel S.TL_REPORT_MISS ≤ 1) (hc : s.tln.closed = false)
    (ht : s.tln.latched = true → r.frame = s.frameNo % 65536 → s.triesOf (fieldBand n r.band, n, r.cell0) < s.g F.CMP_CTRL_RETRY_MAX) :
    ∃ t, exec (.reportTimeout n) s = .next t ∧ t.on (F.TL_EVT_REPORT_MISS n) = true ∧ (t.lane n).due = rest ∧ (t.lane n).missRun = 1
      ∧ t.g (F.TL_CNT_ERR_CRC_FAIL n) = min (F.TL_CNT_ERR_CRC_FAIL n).top (s.g (F.TL_CNT_ERR_CRC_FAIL n) + 1)
      ∧ (∀ c, c < r.cells → 16 * r.band + r.cell0 + c ∈ (t.lane n).dirty)
      ∧ (s.tln.latched = true → r.frame = s.frameNo % 65536 →
          t.cmp.recomp = joinRecomp s.cmp.recomp ⟨fieldBand n r.band, n, r.cell0, r.cells, [], false⟩)
      ∧ s.Within (Foot.reaction [0x02, 0x18] [.cmp, .tln]) t := by
  have hlen : n < s.begin.lanes.length := by rw [begin_lanes, shaped_lanes hs]; exact hn
  have hexec := exec_reportTimeout (rest := rest) hn hdue
  have hm := miss_raised s.begin rest hn hlen hd
  unfold missFailed at hexec
  generalize (missNoted s.begin n rest).detect (tlCrcPages n) S.TL_REPORT_MISS n 0 false = v at hexec hm
  have htries : v.triesOf (fieldBand n r.band, n, r.cell0) = s.triesOf (fieldBand n r.band, n, r.cell0) := by rw [State.triesOf, State.triesOf, hm.cmp, begin_cmp]
  obtain ⟨c, hfail, hjoin⟩ := regionFailed_open (n := n) (r := r) (s := v) (by rw [hm.tln]; exact hc) fun hl hf => by
    rw [htries, hm.retries, begin_g]
    rw [hm.tln] at hl
    rw [hm.frame] at hf
    exact ht hl hf
  have hvl : n < v.lanes.length := by rw [hm.table]; exact hlen
  have hlv : v.lane n = { s.lane n with due := rest, missRun := (s.lane n).missRun + 1 } := hm.lane
  have hlane : (v.regionFailed n r).lane n = ({ s.lane n with due := rest, missRun := (s.lane n).missRun + 1 } : Lane).dirtyCells r.band r.cell0 r.cells := by
    rw [hfail]
    exact (modLane_lane_same v (fun l => l.dirtyCells r.band r.cell0 r.cells) hvl).trans (congrArg (fun l : Lane => l.dirtyCells r.band r.cell0 r.cells) hlv)
  have hg : ∀ x, (v.regionFailed n r).g x = v.g x := fun x => by rw [hfail, withCmp_g, modLane_g]
  have hcmp : (v.regionFailed n r).cmp = c := by rw [hfail]; rfl
  have hone : ((v.regionFailed n r).lane n).missRun = 1 := by
    rw [hlane]
    show (s.lane n).missRun + 1 = 1
    rw [hrun]
  have hnot : (decide (2 ≤ ((v.regionFailed n r).lane n).missRun) && decide ((v.regionFailed n r).tlst n = 5)) = false := by
    rw [hone]
    rfl
  rw [hnot] at hexec
  change exec (.reportTimeout n) s = .next (v.regionFailed n r) at hexec
  refine ⟨_, hexec, (on_congr (hg _)).trans hm.event, by rw [hlane]; rfl, hone, (hg _).trans (by rw [hm.count, begin_g]), fun d hd => ?_, fun hl hf => ?_,
    within_mono (by decide) (does_within (execReportTimeout_fits n s) hexec)⟩
  · rw [hlane]
    exact List.mem_append_right _ (List.mem_map.2 ⟨d, List.mem_range.2 hd, rfl⟩)
  · rw [hcmp, hjoin (by rw [hm.tln]; exact hl) (by rw [hm.frame]; exact hf), hm.cmp, begin_cmp]

/-- A lane retrained for a fault that is CORRECTED at most is in WAKE. -/
theorem retrain_wakes (s : State) {n : Nat} (hn : n < 8) (hs : (s.lane n).sending = none) (ht : (s.lane n).retrains < s.g (F.TL_CTRL_TRIES n))
    (hd : s.defLevel S.TL_RETRAIN ≤ 1) : (s.retrain n).tlst n = 1 ∧ (s.retrain n).on (F.TL_EVT_REPORT_MISS n) = s.on (F.TL_EVT_REPORT_MISS n) := by
  have habort : s.abortPacket n = s := by
    unfold State.abortPacket
    rw [hs]
  have hplace := (by decide : ∀ n < 8, sep (F.TL_EVT_RETRAIN n) (F.TL_STAT_STATE n) = true ∧ sep (F.UNIT_IRQ_STAT_EVT (F.TL_EVT_RETRAIN n).page) (F.TL_STAT_STATE n) = true
    ∧ (Foot.of [0x50] [.lanes]).hasUnit (groupPage (F.TL_EVT_RETRAIN n).page) = true ∧ (Foot.of [0x50] [.lanes]).hasUnit (groupPage (F.TL_STAT_STATE n).page) = true
    ∧ sep (F.TL_EVT_RETRAIN n) (F.TL_EVT_REPORT_MISS n) = true ∧ sep (F.UNIT_IRQ_STAT_EVT (F.TL_EVT_RETRAIN n).page) (F.TL_EVT_REPORT_MISS n) = true
    ∧ sep (F.TL_STAT_STATE n) (F.TL_EVT_REPORT_MISS n) = true ∧ lampField (F.TL_EVT_REPORT_MISS n) = true) n hn
  obtain ⟨p1, p2, p3, p4, p5, p6, p7, p8⟩ := hplace
  have hkeep : ∀ k : Lane → Lane, ((((s.put (F.TL_STAT_STATE n) 1).modLane n k).evt (F.TL_EVT_RETRAIN n)).raise S.TL_RETRAIN n).on (F.TL_EVT_REPORT_MISS n)
      = s.on (F.TL_EVT_REPORT_MISS n) := fun k =>
    (on_congr (raise_lamp _ _ _ p8)).trans ((on_evt_sep _ p5 p6).trans ((modLane_on ..).trans (on_put_sep _ _ p7)))
  have hlow : ∀ k : Lane → Lane, ((((s.put (F.TL_STAT_STATE n) 1).modLane n k).evt (F.TL_EVT_RETRAIN n)).raise S.TL_RETRAIN n).tlst n = 1 := fun k => by
    have hfit : s.Fits (Foot.of [0x50] [.lanes]) (((s.put (F.TL_STAT_STATE n) 1).modLane n k).evt (F.TL_EVT_RETRAIN n)) :=
      evt_fits p3 (modLane_fits _ _ _ (by decide) (put_fits _ p4 (fits_refl _ s)))
    rw [(raise_low_lane _ n n (by rw [fits_defLevel hfit rfl (by decide)]; exact hd)).1]
    exact (g_evt_sep _ p1 p2).trans ((modLane_g ..).trans (tlst_put_state s n (by decide)))
  unfold State.retrain
  rw [habort]
  exact ⟨(congrArg (fun v : State => v.tlst n) (if_pos ht)).trans (hlow _),
    (congrArg (fun v : State => v.on (F.TL_EVT_REPORT_MISS n)) (if_pos ht)).trans (hkeep _)⟩

/-- The second miss in succession retrains the lane. -/
theorem report_retrains {r : Rgn} {rest : List Rgn} (hs : s.shaped = true) (hn : n < 8) (hdue : (s.lane n).due = r :: rest) (hrun : 1 ≤ (s.lane n).missRun)
    (hst : s.tlst n = 5) (hsend : (s.lane n).sending = none) (hl : s.tln.latched = false) (ht : (s.lane n).retrains < s.g (F.TL_CTRL_TRIES n))
    (hd : s.defLevel S.TL_REPORT_MISS ≤ 1) (hr : s.defLevel S.TL_RETRAIN ≤ 1) :
    ∃ t, exec (.reportTimeout n) s = .next t ∧ t.on (F.TL_EVT_REPORT_MISS n) = true ∧ t.on (F.TL_EVT_RETRAIN n) = true
      ∧ t.tlst n = 1 ∧ (t.lane n).retrains = (s.lane n).retrains + 1 := by
  have hlen : n < s.begin.lanes.length := by rw [begin_lanes, shaped_lanes hs]; exact hn
  have hexec := exec_reportTimeout (rest := rest) hn hdue
  have hm := miss_raised s.begin rest hn hlen hd
  unfold missFailed at hexec
  generalize (missNoted s.begin n rest).detect (tlCrcPages n) S.TL_REPORT_MISS n 0 false = v at hexec hm
  have hvl : n < v.lanes.length := by rw [hm.table]; exact hlen
  have hlv : v.lane n = { s.lane n with due := rest, missRun := (s.lane n).missRun + 1 } := hm.lane
  have hfail := (regionFailed_dirty (r := r) hvl (by rw [hm.tln]; exact hl)).1
  rw [hfail] at hexec
  have hlane : (v.modLane n (fun l => l.dirtyCells r.band r.cell0 r.cells)).lane n
      = ({ s.lane n with due := rest, missRun := (s.lane n).missRun + 1 } : Lane).dirtyCells r.band r.cell0 r.cells :=
    (modLane_lane_same v (fun l => l.dirtyCells r.band r.cell0 r.cells) hvl).trans (congrArg (fun l : Lane => l.dirtyCells r.band r.cell0 r.cells) hlv)
  have hg : ∀ x, (v.modLane n (fun l => l.dirtyCells r.band r.cell0 r.cells)).g x = v.g x := fun x => modLane_g ..
  have hlevel : (v.modLane n (fun l => l.dirtyCells r.band r.cell0 r.cells)).defLevel S.TL_RETRAIN = s.defLevel S.TL_RETRAIN := hm.level
  have htable : (v.modLane n (fun l => l.dirtyCells r.band r.cell0 r.cells)).lanes.length = v.lanes.length := modLane_lanes_length ..
  generalize v.modLane n (fun l => l.dirtyCells r.band r.cell0 r.cells) = u at hexec hlane hg hlevel htable
  have hstate : u.tlst n = 5 := (hg _).trans (hm.state.trans hst)
  have hmiss : 2 ≤ (u.lane n).missRun := by
    rw [hlane]
    exact Nat.succ_le_succ hrun
  have hgo : (decide (2 ≤ (u.lane n).missRun) && decide (u.tlst n = 5)) = true := by rw [decide_eq_true hmiss, decide_eq_true hstate]; rfl
  rw [if_pos hgo] at hexec
  have hnone : (u.lane n).sending = none := by rw [hlane]; exact hsend
  have htries : (u.lane n).retrains < u.g (F.TL_CTRL_TRIES n) := by
    rw [hlane, hg, hm.tries, begin_g]
    exact ht
  obtain ⟨-, hevt, hcount, -⟩ := retrain_leaves u hn (by rw [htable]; exact hvl) hnone htries
  obtain ⟨hwake, hkeep⟩ := retrain_wakes u hn hnone htries (by rw [hlevel]; exact hr)
  exact ⟨_, hexec, hkeep.trans ((on_congr (hg _)).trans hm.event), hevt, hwake, by rw [hcount, hlane]; rfl⟩

/-- Settles O26, by the region recomputed, the region pushed and the report missed. -/
theorem regionsAndReports : Obligations.RegionsAndReports := by
  unfold Obligations.RegionsAndReports
  refine ⟨fun s r rest h1 h2 h3 h4 h5 hp => ?_, fun s r rest bad e h1 h2 h3 h4 h5 hq he => recompute_failing ⟨h1, h2, h3, h4, h5⟩ hq he,
    fun s bad h => recompute_none bad h, fun s n r rest hs hn hst hq => push_starts hs hn hst hq, fun s n h => push_rests h,
    fun s n r rest hs hn hdue hrun hd hc ht => report_missed hs hn hdue hrun hd hc ht,
    fun s n r rest hs hn hdue hrun hst hsend hl ht hd hr => report_retrains hs hn hdue hrun hst hsend hl ht hd hr,
    fun s n hd hs => reportTimeout_rests hd hs⟩
  intro f x0
  obtain ⟨t, hexec, hrest, hgov, hevt, hcnt, htries, hpix, hqueue, honly⟩ := recompute_clean ⟨h1, h2, h3, h4, h5⟩ hp
  refine ⟨t, hexec, hrest, hgov, hevt, hcnt, htries, fun i hi hx => ?_, fun i hi hx hy => ?_, hqueue, honly⟩
  · rw [hpix i hi]
    refine if_neg ?_
    rw [Bool.and_eq_true, decide_eq_true_eq, decide_eq_true_eq]
    have hx : bandX i < 512 * (r.tile % 4) + 32 * r.cell0 ∨ 512 * (r.tile % 4) + 32 * r.cell0 + 32 * r.cells ≤ bandX i := hx
    omega
  · rw [hpix i hi]
    refine if_pos ?_
    rw [Bool.and_eq_true, decide_eq_true_eq, decide_eq_true_eq]
    exact ⟨hx, hy⟩


end Sys2Proof.Proofs.LaneRegions
end

section
/-! PROOF. The latch point (LatchPoint). -/

namespace Sys2Proof.Proofs.LatchPoints

open Sys2Proof.Machine Sys2Proof.Laws Sys2Proof.Proofs.Architecture Sys2Proof.Proofs.Reading Sys2Proof.Proofs.GovernorSums
  Sys2Proof.Proofs.LampReactions Sys2Proof.Proofs.FlintLockOut Sys2Proof.Proofs.LampLanes Sys2Proof.Proofs.PageCommits Sys2Proof.Proofs.Commits Sys2Proof.Proofs.DeviceResets
  Sys2Proof.Proofs.FrameDeferral Sys2Proof.Proofs.GlareBands Sys2Proof.Proofs.FrameFlips Sys2Proof.Proofs.SegmentLine Sys2Proof.Proofs.MemoryWords

variable {s t u : State} {n i : Nat} {f x : Fld}

/-! ### The frame is opened -/

/-- The frame that a latch point opens. -/
def framed (s : State) : State :=
  (s.withTln { s.tln with latched := true, committed := false, closed := false, lateCounted := false }).withCmp
    { s.cmp with bands := [], released := [], recomp := [], tries := [] }

/-- The open frame, composed where CMP is enabled. -/
def opened (s : State) : State := (framed s).put F.CMP_STAT_COMPOSING (bit ((framed s).on (F.UNIT_CTRL_ENABLE 0x18)))

theorem opened_only (s : State) : s.Only [F.CMP_STAT_COMPOSING] [.tln, .cmp] (opened s) :=
  only_put _ (by simp) (by decide) (only_withCmp (by simp) (only_withTln (by simp) (only_refl _ _ s)))

theorem framed_tln (s : State) : (framed s).tln = { s.tln with latched := true, committed := false, closed := false, lateCounted := false } := rfl

theorem framed_cmp (s : State) : (framed s).cmp = { s.cmp with bands := [], released := [], recomp := [], tries := [] } := rfl

theorem opened_tln (s : State) : (opened s).tln = { s.tln with latched := true, committed := false, closed := false, lateCounted := false } :=
  (put_tln ..).trans (framed_tln s)

theorem opened_cmp (s : State) : (opened s).cmp = { s.cmp with bands := [], released := [], recomp := [], tries := [] } :=
  (put_cmp ..).trans (framed_cmp s)

theorem opened_composing (s : State) : (opened s).on F.CMP_STAT_COMPOSING = (opened s).on (F.UNIT_CTRL_ENABLE 0x18) := by
  have hkeep : (opened s).on (F.UNIT_CTRL_ENABLE 0x18) = (framed s).on (F.UNIT_CTRL_ENABLE 0x18) := on_put_sep _ _ (by decide)
  rw [hkeep, opened]
  cases (framed s).on (F.UNIT_CTRL_ENABLE 0x18)
  · exact on_put_clear _ (by decide)
  · exact on_put_set _ (by decide)

theorem blocked_congr (h : t.rst = s.rst) : t.frameBlocked = s.frameBlocked := by
  have hrun : t.blockRunning = s.blockRunning := funext fun p => by rw [State.blockRunning, State.blockRunning, h]
  rw [State.frameBlocked, State.frameBlocked, hrun]

/-- The frame of a latch point, new or repeated. -/
def latched (s : State) : State := if s.cmp.deferred then s.repeatFrame else s.newFrame

theorem latched_fits (s : State) :
    s.Fits (Foot.of [0x18, 0x40, 0x48, 0x50, 0x60, 0x70, 0x71] [.pend, .pendPages, .evr, .cmp, .gov, .cal, .seg, .lanes]) (latched s) :=
  fits_ite (repeatFrame_fits _ (by decide) (fits_refl _ s)) (newFrame_fits _ (by decide) (fits_refl _ s))

theorem exec_latchPoint (h : s.tln.running = true) :
    exec .latchPoint s = .next (if (opened (latched s.begin)).frameBlocked then (opened (latched s.begin)).deferFlip true else opened (latched s.begin)) :=
  congrArg Host.Outcome.next (if_pos (show s.begin.tln.running = true from h))

theorem latched_rst (s : State) : (latched s).rst = s.rst := by
  have h := (latched_fits s).within
  exact within_rst h rfl (by decide)

theorem opened_blocked (s : State) : (opened (latched s.begin)).frameBlocked = s.frameBlocked :=
  blocked_congr (((opened_only _).parts.rst (by simp [Foot.of])).trans (latched_rst s.begin))

/-- With no block reset in the way the frame is opened. -/
theorem exec_opens (h : s.tln.running = true) (hb : s.frameBlocked = false) : exec .latchPoint s = .next (opened (latched s.begin)) := by
  have hnot : ¬ (opened (latched s.begin)).frameBlocked = true := by rw [opened_blocked, hb]; decide
  exact (exec_latchPoint h).trans (congrArg Host.Outcome.next (if_neg hnot))

theorem exec_defers (h : s.tln.running = true) (hb : s.frameBlocked = true) : exec .latchPoint s = .next ((opened (latched s.begin)).deferFlip true) := by
  have hyes : (opened (latched s.begin)).frameBlocked = true := by rw [opened_blocked, hb]
  exact (exec_latchPoint h).trans (congrArg Host.Outcome.next (if_pos hyes))

theorem latched_new (h : s.cmp.deferred = false) : latched s.begin = s.begin.newFrame := if_neg (show ¬ s.begin.cmp.deferred = true by rw [begin_cmp, h]; decide)

theorem latched_again (h : s.cmp.deferred = true) : latched s.begin = s.begin.repeatFrame := if_pos h

theorem exec_latchPoint_rests (h : s.tln.running = false) : exec .latchPoint s = .next s.begin :=
  congrArg Host.Outcome.next (if_neg (show ¬ s.begin.tln.running = true by rw [show s.begin.tln = s.tln from rfl, h]; decide))

/-! ### After a deferral -/

/-- A lane made dirty, with nothing left to push. -/
def cleared (s : State) (n : Nat) : State := (s.dirtyAll n).modLane n (fun l => { l with queue := [] })

/-- Every lane made dirty. -/
def lanesCleared (s : State) : State := (List.range 8).foldl cleared s

theorem cleared_only (s : State) (n : Nat) : s.Only [] [.lanes] (cleared s n) := only_modLane (by simp) (only_modLane (by simp) (only_refl _ _ s))

theorem lanesCleared_only (s : State) : s.Only [] [.lanes] (lanesCleared s) :=
  only_foldl _ _ (fun n _ u hu => only_trans hu (cleared_only u n)) (only_refl _ _ s)

theorem cleared_table (s : State) (n : Nat) : (cleared s n).lanes.length = s.lanes.length := (modLane_lanes_length ..).trans (modLane_lanes_length ..)

theorem setDirty_lane (d : List Nat) (h : n < s.lanes.length) : ((s.modLane n (fun l => { l with dirty := d })).lane n).dirty = d := by
  rw [modLane_lane_same _ _ h]

theorem cleared_same (h : n < s.lanes.length) : ((cleared s n).lane n).dirty = List.range 256 ∧ ((cleared s n).lane n).queue = [] := by
  have hd : n < (s.dirtyAll n).lanes.length := by rw [State.dirtyAll, modLane_lanes_length]; exact h
  have hl : (cleared s n).lane n = { (s.dirtyAll n).lane n with queue := [] } := modLane_lane_same _ _ hd
  rw [hl]
  exact ⟨setDirty_lane (List.range 256) h, rfl⟩

theorem cleared_other {m : Nat} (h : m ≠ n) : (cleared s m).lane n = s.lane n := (modLane_lane_other _ _ h).trans (modLane_lane_other _ _ h)

theorem lanesCleared_lane (hl : s.lanes.length = 8) (hn : n < 8) : ((lanesCleared s).lane n).dirty = List.range 256 ∧ ((lanesCleared s).lane n).queue = [] := by
  refine foldl_visit (P := fun u : State => u.lanes.length = 8) (Q := fun u : State => (u.lane n).dirty = List.range 256 ∧ (u.lane n).queue = [])
    (List.range 8) List.nodup_range (List.mem_range.2 hn) (fun m _ _ u hu => (cleared_table u m).trans hu) (fun u hu => cleared_same (by omega)) (fun m _ hm u hu => ?_) hl
  rw [cleared_other hm]
  exact hu

theorem repeatFrame_eq (s : State) : s.repeatFrame =
    ((lanesCleared (s.put F.CMP_STAT_REPEATING 1)).withCmp { (lanesCleared (s.put F.CMP_STAT_REPEATING 1)).cmp with deferred := false }).govRepeat := rfl

/-- What the repeated frame leaves. -/
theorem repeatFrame_leaves (s : State) :
    s.Only [F.CMP_STAT_REPEATING] [.cmp, .lanes, .gov] s.repeatFrame ∧ s.repeatFrame.g F.CMP_STAT_REPEATING = 1
      ∧ s.repeatFrame.cmp = { s.cmp with deferred := false }
      ∧ s.repeatFrame.gov = { s.gov with u := List.replicate 256 0, sums := List.replicate 256 0, factors := [] }
      ∧ s.repeatFrame.lanes = (lanesCleared (s.put F.CMP_STAT_REPEATING 1)).lanes := by
  have hput : s.Only [F.CMP_STAT_REPEATING] [.cmp, .lanes, .gov] (s.put F.CMP_STAT_REPEATING 1) := only_put _ (by simp) (by decide) (only_refl _ _ s)
  have hset : (s.put F.CMP_STAT_REPEATING 1).g F.CMP_STAT_REPEATING = 1 := g_put_room _ (by decide)
  have hclear := lanesCleared_only (s.put F.CMP_STAT_REPEATING 1)
  rw [repeatFrame_eq]
  have hc : (lanesCleared (s.put F.CMP_STAT_REPEATING 1)).cmp = s.cmp := (hclear.parts.cmp (by simp [Foot.of])).trans (put_cmp ..)
  have hg : (lanesCleared (s.put F.CMP_STAT_REPEATING 1)).gov = s.gov := (hclear.parts.gov (by simp [Foot.of])).trans (put_gov ..)
  have hr : (lanesCleared (s.put F.CMP_STAT_REPEATING 1)).g F.CMP_STAT_REPEATING = 1 := (only_g hclear rfl).trans hset
  have hall := only_app (fs := [F.CMP_STAT_REPEATING]) (ps := [.cmp, .lanes, .gov]) (by simp) (by simp) hclear hput
  generalize lanesCleared (s.put F.CMP_STAT_REPEATING 1) = w at hc hg hr hall ⊢
  refine ⟨only_withGov (by simp) (only_withCmp (by simp) hall), hr, ?_, ?_, rfl⟩
  · rw [hc]
    rfl
  · rw [← hg]
    rfl

/-- After a deferral the frame is composed again. -/
theorem latch_repeats (hr : s.tln.running = true) (hd : s.cmp.deferred = true) (hb : s.frameBlocked = false) (hs : s.shaped = true) :
    ∃ t, exec .latchPoint s = .next t ∧ t.g F.CMP_STAT_REPEATING = 1 ∧ t.cmp.deferred = false ∧ t.cmp.bands = [] ∧ t.cmp.released = []
      ∧ t.tln.latched = true ∧ (∀ n, n < 8 → (t.lane n).dirty = List.range 256 ∧ (t.lane n).queue = [])
      ∧ t.gov = { s.gov with u := List.replicate 256 0, sums := List.replicate 256 0, factors := [] }
      ∧ s.begin.Only [F.CMP_STAT_REPEATING, F.CMP_STAT_COMPOSING] [.cmp, .lanes, .tln, .gov] t := by
  have hexec := exec_opens hr hb
  rw [latched_again hd] at hexec
  obtain ⟨h1, h2, h3, h4, h5⟩ := repeatFrame_leaves s.begin
  have hlanes : ∀ n, n < 8 → (s.begin.repeatFrame.lane n).dirty = List.range 256 ∧ (s.begin.repeatFrame.lane n).queue = [] := fun n hn => by
    rw [State.lane, h5, ← State.lane]
    exact lanesCleared_lane ((congrArg List.length (put_lanes ..)).trans (shaped_lanes hs)) hn
  generalize s.begin.repeatFrame = w at hexec h1 h2 h3 h4 hlanes
  have ho := opened_only w
  have hcmp := opened_cmp w
  have hlane : ∀ n, (opened w).lane n = w.lane n := fun n => by rw [State.lane, State.lane, ho.parts.lanes (by simp [Foot.of])]
  refine ⟨_, hexec, (only_g ho (by decide)).trans h2, by rw [hcmp, h3], by rw [hcmp], by rw [hcmp], by rw [opened_tln],
    fun n hn => by rw [hlane]; exact hlanes n hn, (ho.parts.gov (by simp [Foot.of])).trans h4, ?_⟩
  exact only_app (by simp) (by simp) ho (only_mono (by simp) (by simp) h1)

/-! ### Under a block reset -/

theorem recompLost_none (h : s.cmp.recomp = []) : recompLost s = s := by
  unfold recompLost
  rw [h]
  rfl

/-- What a deferral with nothing to recompute leaves. -/
theorem deferFlip_blocked (s : State) (h : s.cmp.recomp = []) :
    (s.deferFlip true).cmp = { s.cmp with deferred := true, recomp := [] } ∧ (s.deferFlip true).tln.latched = false
      ∧ (s.deferFlip true).tln.nextFlip = s.tln.nextFlip + s.cmp.period ∧ (s.deferFlip true).on F.CMP_EVT_DEFER = true
      ∧ (s.deferFlip true).on F.CMP_EVT_BLK_DEFER = true ∧ (s.deferFlip true).g F.CMP_STAT_COMPOSING = 0 := by
  have hcount : deferCounted s true = ((s.evt F.CMP_EVT_DEFER).incSat F.CMP_CNT_DEFER).evt F.CMP_EVT_BLK_DEFER := rfl
  have hcmp : (deferCounted s true).cmp = s.cmp := (evt_cmp ..).trans ((incSat_cmp ..).trans (evt_cmp ..))
  have htln : (deferCounted s true).tln = s.tln := (evt_tln ..).trans ((incSat_tln ..).trans (evt_tln ..))
  have hdefer : (deferCounted s true).on F.CMP_EVT_DEFER = true :=
    (on_evt_sep _ (by decide) (by decide)).trans ((on_incSat_sep _ (by decide)).trans (on_evt_self _ (by decide)))
  have hblk : (deferCounted s true).on F.CMP_EVT_BLK_DEFER = true := on_evt_self _ (by decide)
  rw [deferFlip_eq, recompLost_none h]
  generalize deferCounted s true = w at hcmp htln hdefer hblk ⊢
  obtain ⟨h1, h2, -, -⟩ := putOff_parts w (deferRun w)
  have hput : ∀ (y : Fld), (putOff w (deferRun w)).g y = ((w.put F.CMP_STAT_DEFER_RUN (deferRun w)).put F.CMP_STAT_COMPOSING 0).g y :=
    fun y => (withCmp_g ..).trans (withTln_g ..)
  have hfit := (deferFaults_fits (putOff w (deferRun w)) (deferRun w)).within
  have hkeep : ∀ y : Fld, y.page = 0x18 → y.off % 4096 ≠ 0x18 → y.off % 4096 ≠ 0x44 → sep F.CMP_EVT_DEFER_FATAL y = true → sep (F.UNIT_IRQ_STAT_EVT 0x18) y = true →
      (deferFaults (putOff w (deferRun w)) (deferRun w)).g y = (putOff w (deferRun w)).g y := fun y hp h18 h44 he hq =>
    deferFaults_g _ _ (cmp_quiet hp h18 h44).1 (cmp_quiet hp h18 h44).2 he hq
  have hdf := within_cmp hfit rfl (by decide)
  have htf := within_tln hfit rfl (by decide)
  refine ⟨by rw [hdf, h1, hcmp], by rw [htf, h2], by rw [htf, h2, htln, hcmp], ?_, ?_, ?_⟩
  · rw [on_congr (hkeep F.CMP_EVT_DEFER rfl (by decide) (by decide) (by decide) (by decide)), on_congr (hput _), on_put_sep _ _ (by decide), on_put_sep _ _ (by decide)]
    exact hdefer
  · rw [on_congr (hkeep F.CMP_EVT_BLK_DEFER rfl (by decide) (by decide) (by decide) (by decide)), on_congr (hput _), on_put_sep _ _ (by decide), on_put_sep _ _ (by decide)]
    exact hblk
  · rw [hkeep F.CMP_STAT_COMPOSING rfl (by decide) (by decide) (by decide) (by decide), hput]
    exact g_put_room _ (by decide)


/-! ### What fields leave of the commit bits -/

/-- Fields that no commit takes leave the commit bits of every register. -/
theorem only_masked {fs : List Fld} {ps : List Part} (h : s.Only fs ps t) (hu : ∀ y ∈ fs, uncommitted y = true) (a : Nat) :
    t.word a &&& accMask .rwc a = s.word a &&& accMask .rwc a := by
  refine BitVec.eq_of_getLsbD_eq fun i hi => ?_
  rw [BitVec.getLsbD_and, BitVec.getLsbD_and]
  cases hm : (accMask .rwc a).getLsbD i with
  | false => rw [Bool.and_false, Bool.and_false]
  | true =>
    have haddr : (⟨a / 4096, a % 4096, i, i⟩ : Fld).addr = a := by
      simp only [Fld.addr]
      omega
    have hg := h.fields ⟨a / 4096, a % 4096, i, i⟩ fun y hy => by
      have hun := hu y hy
      simp only [uncommitted, Bool.and_eq_true, decide_eq_true_eq] at hun
      by_cases hya : y.addr = a
      · have hbit := congrArg (fun b : Word => b.getLsbD i) hun.2
        rw [hya] at hbit
        simp only [BitVec.getLsbD_and, hm, Bool.true_and, fieldMask_bit _ _ _ hun.1] at hbit
        have hout : ¬ (y.lo ≤ i ∧ i ≤ y.hi) := by
          intro hin
          simp [hin.1, hin.2] at hbit
        simp only [Fld.apart, Bool.or_eq_true, decide_eq_true_eq]
        omega
      · have hne : y.addr ≠ (⟨a / 4096, a % 4096, i, i⟩ : Fld).addr := by rw [haddr]; exact hya
        simp [Fld.apart, hne]
    have hbit : ∀ u : State, (u.g ⟨a / 4096, a % 4096, i, i⟩).testBit 0 = (u.word a).getLsbD i := fun u => by
      rw [State.g, haddr, wordField_bit]
      simp
    rw [← hbit t, ← hbit s, hg]


/-! ### A new frame after its commits landed -/

/-- The period of the frame ahead is taken. -/
def periodTaken (s : State) : State :=
  let per := s.g F.CMP_PERIOD_PER_NS
  let s := if ((per : Int) + s.tln.adj).toNat ≠ s.tln.tNext then s.evt F.TLN_EVT_TNEXT_DIFF else s
  s.withCmp { s.cmp with periodNext := per }

/-- The layers' staleness is judged. -/
def stalesJudged (s : State) : State := (List.range 16).foldl (fun s n => s.staleLayer n) s

/-- The seam is taken, and the frame is new. -/
def seamTaken (s : State) : State := (s.withCmp { s.cmp with seam := s.seamActive }).put F.CMP_STAT_REPEATING 0

/-- The frame up to the tables' latch. -/
def frameTaken (s : State) : State := seamTaken (stalesJudged (periodTaken s.landFrame.segForm).sampleEnables)

theorem newFrame_eq (s : State) : s.newFrame = (frameTaken s).calLatch.govLatch := by
  unfold State.newFrame frameTaken
  generalize s.landFrame.segForm = l
  extract_lets v per w src1 x y z src2 r
  have hx : x = periodTaken l := rfl
  have hz : z = stalesJudged (periodTaken l).sampleEnables := by
    show stalesJudged x.sampleEnables = _
    rw [hx]
  have hr : r.put F.CMP_STAT_REPEATING 0 = seamTaken z := rfl
  rw [hr, hz]

/-- The fields that a new frame writes after its commits landed. -/
def lateFields : List Fld :=
  [F.TLN_EVT_TNEXT_DIFF, F.UNIT_IRQ_STAT_EVT 0x50, F.CMP_STAT_MAX_LAYERS, F.CMP_EVT_EN_HELD, F.UNIT_IRQ_STAT_EVT 0x18, F.CMP_STAT_REPEATING, F.CMP_STAT_COMPOSING]
    ++ (List.range 16).map F.LAY_STAT_EN_HELD ++ (List.range 16).map F.LAY_EVT_EN_HELD ++ (List.range 16).map (fun n => F.UNIT_IRQ_STAT_EVT (layPage n))
    ++ (List.range 16).map F.LAY_STAT_STALE_RUN ++ (List.range 16).map F.LAY_STAT_DILATED ++ (List.range 16).map F.LAY_EVT_DILATE

theorem late_uncommitted : ∀ y ∈ lateFields, uncommitted y = true := by decide +kernel

theorem late_places (hn : n < 16) : F.LAY_STAT_EN_HELD n ∈ lateFields ∧ F.LAY_EVT_EN_HELD n ∈ lateFields ∧ F.UNIT_IRQ_STAT_EVT (layPage n) ∈ lateFields
    ∧ F.LAY_STAT_STALE_RUN n ∈ lateFields ∧ F.LAY_STAT_DILATED n ∈ lateFields ∧ F.LAY_EVT_DILATE n ∈ lateFields := by
  have hm : ∀ g : Nat → Fld, g n ∈ (List.range 16).map g := fun g => List.mem_map_of_mem (List.mem_range.2 hn)
  have hi : F.UNIT_IRQ_STAT_EVT (layPage n) ∈ (List.range 16).map (fun n => F.UNIT_IRQ_STAT_EVT (layPage n)) := List.mem_map_of_mem (List.mem_range.2 hn)
  simp only [lateFields, List.mem_append]
  exact ⟨by simp [hm], by simp [hm], by simp [hi], by simp [hm], by simp [hm], by simp [hm]⟩

/-- Of the compositor's parts, the state that each stage may change. -/
theorem periodTaken_only (s : State) : s.Only lateFields [.cmp] (periodTaken s) := by
  refine only_withCmp (by simp) (only_ite (fun _ => ?_) (fun _ => only_refl _ _ s))
  exact only_evt (x := F.TLN_EVT_TNEXT_DIFF) (by simp [lateFields]) (by simp [lateFields, F.TLN_EVT_TNEXT_DIFF]) (by decide) (only_refl _ _ s)

/-- One layer's ENABLE is sampled. -/
def enableSampled (l : List Nat) (s : State) (n : Nat) : State :=
  let out := s.on (F.UNIT_CTRL_ENABLE 0x18) && s.layOn n && !l.contains n
  let s := s.put (F.LAY_STAT_EN_HELD n) (bit out)
  if out then (s.evt (F.LAY_EVT_EN_HELD n)).evt F.CMP_EVT_EN_HELD else s

/-- The layers in use of a frame. -/
def sampledLayers (s : State) : List Nat := if s.on (F.UNIT_CTRL_ENABLE 0x18) then s.sampleLayers else []

theorem sampleEnables_eq (s : State) : s.sampleEnables =
    let v := (List.range 16).foldl (enableSampled (sampledLayers s)) s
    (v.put F.CMP_STAT_MAX_LAYERS (v.maxCount (sampledLayers s))).withCmp { (v.put F.CMP_STAT_MAX_LAYERS (v.maxCount (sampledLayers s))).cmp with active := sampledLayers s } := by
  unfold State.sampleEnables sampledLayers enableSampled
  rfl

theorem enableSampled_only (l : List Nat) (s : State) (hn : n < 16) : s.Only lateFields [] (enableSampled l s n) := by
  obtain ⟨h1, h2, h3, -, -, -⟩ := late_places hn
  have hput : s.Only lateFields [] (s.put (F.LAY_STAT_EN_HELD n) (bit (s.on (F.UNIT_CTRL_ENABLE 0x18) && s.layOn n && !l.contains n))) :=
    only_put _ h1 (by simp [F.LAY_STAT_EN_HELD]) (only_refl _ _ s)
  refine only_ite (fun _ => ?_) (fun _ => hput)
  refine only_evt (x := F.CMP_EVT_EN_HELD) (by simp [lateFields]) (by simp [lateFields, F.CMP_EVT_EN_HELD]) (by decide) ?_
  exact only_evt (x := F.LAY_EVT_EN_HELD n) h2 h3 (by simp [F.LAY_EVT_EN_HELD]) hput

theorem sampleEnables_only (s : State) : s.Only lateFields [.cmp] s.sampleEnables := by
  rw [sampleEnables_eq]
  refine only_withCmp (by simp) (only_put _ (by simp [lateFields]) (by decide) ?_)
  exact only_mono (fun _ h => h) (by simp) (only_foldl _ _ (fun n hn u hu => only_trans hu (enableSampled_only _ u (List.mem_range.1 hn))) (only_refl lateFields [] s))

theorem staleLayer_only (s : State) (hn : n < 16) : s.Only lateFields [.cmp] (s.staleLayer n) := by
  obtain ⟨-, -, h3, h4, h5, h6⟩ := late_places hn
  unfold State.staleLayer
  extract_lets live front again run dil v w
  have hv : s.Only lateFields [.cmp] v :=
    only_ite (fun _ => only_evt (x := F.LAY_EVT_DILATE n) h6 h3 (by simp [F.LAY_EVT_DILATE]) (only_refl _ _ s)) (fun _ => only_refl _ _ s)
  exact only_withCmp (by simp) (only_put _ h5 (by simp [F.LAY_STAT_DILATED]) (only_put _ h4 (by simp [F.LAY_STAT_STALE_RUN]) hv))

theorem stalesJudged_only (s : State) : s.Only lateFields [.cmp] (stalesJudged s) :=
  only_foldl _ _ (fun _ hn u hu => only_trans hu (staleLayer_only u (List.mem_range.1 hn))) (only_refl _ _ s)

theorem seamTaken_only (s : State) : s.Only lateFields [.cmp] (seamTaken s) :=
  only_put _ (by simp [lateFields]) (by decide) (only_withCmp (by simp) (only_refl _ _ s))

/-- The frame is taken by late fields and the compositor's state alone. -/
theorem frameTaken_only (s : State) : s.landFrame.segForm.Only lateFields [.cmp] (frameTaken s) :=
  only_trans (periodTaken_only _) (only_trans (sampleEnables_only _) (only_trans (stalesJudged_only _) (seamTaken_only _)))

theorem frameTaken_repeating (s : State) : (frameTaken s).g F.CMP_STAT_REPEATING = 0 := g_put_room _ (by decide)

/-- The periods that the compositor keeps. -/
def Periods (p q : Nat) (s : State) : Prop := s.cmp.period = p ∧ s.cmp.periodNext = q

theorem enableSampled_cmp (l : List Nat) (s : State) (hn : n < 16) : (enableSampled l s n).cmp = s.cmp := (enableSampled_only l s hn).parts.cmp (by simp [Foot.of])

theorem sampleEnables_periods (s : State) {p q : Nat} (h : Periods p q s) : Periods p q s.sampleEnables := by
  have hfold : ((List.range 16).foldl (enableSampled (sampledLayers s)) s).cmp = s.cmp :=
    List.foldlRecOn (motive := fun u : State => u.cmp = s.cmp) _ _ rfl (fun u hu n hn => (enableSampled_cmp _ u (List.mem_range.1 hn)).trans hu)
  rw [sampleEnables_eq]
  dsimp only
  generalize (List.range 16).foldl (enableSampled (sampledLayers s)) s = v at hfold ⊢
  have hput : (v.put F.CMP_STAT_MAX_LAYERS (v.maxCount (sampledLayers s))).cmp = s.cmp := (put_cmp ..).trans hfold
  generalize v.put F.CMP_STAT_MAX_LAYERS (v.maxCount (sampledLayers s)) = w at hput ⊢
  exact ⟨(congrArg Cmp.period hput).trans h.1, (congrArg Cmp.periodNext hput).trans h.2⟩

theorem staleLayer_periods (s : State) {p q : Nat} (h : Periods p q s) : Periods p q (s.staleLayer n) := by
  unfold State.staleLayer
  extract_lets live front again run dil v w
  have hv : v.cmp = s.cmp := by
    show (ite _ _ _ : State).cmp = _
    split_ifs
    · exact evt_cmp ..
    · rfl
  have hw : w.cmp = s.cmp := (put_cmp ..).trans ((put_cmp ..).trans hv)
  clear_value w
  exact ⟨(congrArg Cmp.period hw).trans h.1, (congrArg Cmp.periodNext hw).trans h.2⟩

theorem frameTaken_periods (s : State) : Periods s.landFrame.segForm.cmp.period (s.landFrame.segForm.g F.CMP_PERIOD_PER_NS) (frameTaken s) := by
  generalize hl : s.landFrame.segForm = l
  have hp : Periods l.cmp.period (l.g F.CMP_PERIOD_PER_NS) (periodTaken l) := by
    refine ⟨?_, rfl⟩
    show (ite _ _ _ : State).cmp.period = _
    split_ifs
    · rw [evt_cmp]
    · rfl
  have hs := sampleEnables_periods _ hp
  have hst : Periods l.cmp.period (l.g F.CMP_PERIOD_PER_NS) (stalesJudged (periodTaken l).sampleEnables) :=
    List.foldlRecOn (motive := fun u : State => Periods l.cmp.period (l.g F.CMP_PERIOD_PER_NS) u) _ _ hs (fun u hu n _ => staleLayer_periods u hu)
  unfold frameTaken
  rw [hl]
  generalize stalesJudged (periodTaken l).sampleEnables = w at hst ⊢
  have hc : (seamTaken w).cmp = { w.cmp with seam := w.seamActive } := (put_cmp ..).trans rfl
  rw [Periods, hc]
  exact hst


/-! ### The Governor's latch -/

/-- The fields of GOV that the latch writes. -/
def govFields : List Fld := [F.GOV_MODE_CUR, F.GOV_MODE_REASON, F.GOV_CNT_STATIC_FRAMES, F.GOV_SPEED_LIMSET]

/-- The frame's mode and reason are taken. -/
def modeTaken (s : State) (reason : Nat) : State :=
  let old := s.g F.GOV_MODE_CUR
  let s := (s.put F.GOV_MODE_CUR (modeOf reason)).put F.GOV_MODE_REASON reason
  let s := if modeOf reason ≠ old then s.event 0x4082 [0, b8 (modeOf reason), b8 reason] else s
  if modeOf reason = 1 then s.incSat F.GOV_CNT_STATIC_FRAMES else s

/-- The frame's set of limits. -/
def limitSet (s : State) : Bool := s.g F.GOV_SPEED_SPEED_THR ≠ 65535 && decide (s.g F.GOV_SPEED_SPEED_THR ≤ s.csf.speed)

/-- The set of limits is taken. -/
def limitTaken (s : State) : State := s.put F.GOV_SPEED_LIMSET (bit (limitSet s))

/-- The limits of a frame, one for each zone. -/
def frameLimits (s : State) (k : Nat) : List Nat := (List.range 256).map (fun z => s.zoneLim z k * 2 ^ 24)

/-- Changes of the zones' gains are recorded. -/
def gainsNoted (was gains : List Nat) (s : State) : State :=
  (List.range 256).foldl (fun s z =>
    let a := decide (was.getD z 65536 < 65536)
    let b := decide (gains.getD z 65536 < 65536)
    if a = b then s else s.event 0x4081 [0, b8 z, b8 (bit b)]) s

theorem govLatch_parts (s : State) : ∃ was gains set,
    s.govLatch = gainsNoted was gains ((limitTaken (modeTaken s s.modeReason)).withGov
      { (limitTaken (modeTaken s s.modeReason)).gov with
        limits := frameLimits (limitTaken (modeTaken s s.modeReason)) set, gains := gains, u := List.replicate 256 0, sums := List.replicate 256 0, factors := [] })
      ∧ set = bit (limitSet (modeTaken s s.modeReason)) := by
  unfold State.govLatch
  extract_lets reason mode old v1 v2 v3 thr setB v4 limits both gains was src v5
  exact ⟨was, gains, bit setB, rfl, rfl⟩

theorem gainsNoted_g (was gains : List Nat) (s : State) (hx : clear recordFields x = true) : (gainsNoted was gains s).g x = s.g x :=
  foldl_g (fun u _ => ite_g (fun _ => rfl) (fun _ => event_g u _ _ hx)) _ s

theorem modeTaken_g (s : State) (r : Nat) (hx : clear govFields x = true) (hr : clear recordFields x = true) : (modeTaken s r).g x = s.g x := by
  have hput : ((s.put F.GOV_MODE_CUR (modeOf r)).put F.GOV_MODE_REASON r).g x = s.g x :=
    only_g (only_put (fs := govFields) (ps := []) _ (by simp [govFields]) (by decide) (only_put _ (by simp [govFields]) (by decide) (only_refl _ _ s))) hx
  unfold modeTaken
  extract_lets old v w
  have hw : w.g x = s.g x := ite_g (fun _ => (event_g v _ _ hr).trans hput) (fun _ => hput)
  exact ite_g (fun _ => (only_g (only_incSat (fs := govFields) (ps := []) (by simp [govFields]) (by decide) (only_refl _ _ w)) hx).trans hw) (fun _ => hw)


theorem modeTaken_fits (s : State) (r : Nat) : s.Fits (Foot.of [0x40, 0x70, 0x71] [.evr]) (modeTaken s r) := by
  have hput : s.Fits (Foot.of [0x40, 0x70, 0x71] [.evr]) ((s.put F.GOV_MODE_CUR (modeOf r)).put F.GOV_MODE_REASON r) :=
    put_fits _ (by decide) (put_fits _ (by decide) (fits_refl _ s))
  unfold modeTaken
  extract_lets old v w
  have hw : s.Fits (Foot.of [0x40, 0x70, 0x71] [.evr]) w := fits_ite (event_fits _ _ _ (by decide) hput) hput
  exact fits_ite (incSat_fits (by decide) hw) hw

theorem modeReason_le (s : State) : s.modeReason ≤ 9 := by
  unfold State.modeReason
  split_ifs <;> decide

theorem modeOf_le (r : Nat) : modeOf r ≤ 2 := by
  unfold modeOf
  split_ifs <;> decide

theorem modeTaken_marks (s : State) {r : Nat} (hr : r ≤ 9) : (modeTaken s r).g F.GOV_MODE_REASON = r ∧ (modeTaken s r).g F.GOV_MODE_CUR = modeOf r := by
  have hreason : ((s.put F.GOV_MODE_CUR (modeOf r)).put F.GOV_MODE_REASON r).g F.GOV_MODE_REASON = r :=
    g_put_self (by decide) (by decide) (Nat.lt_of_le_of_lt hr (by decide))
  have hcur : ((s.put F.GOV_MODE_CUR (modeOf r)).put F.GOV_MODE_REASON r).g F.GOV_MODE_CUR = modeOf r :=
    (g_put_sep _ _ (by decide)).trans (g_put_self (by decide) (by decide) (Nat.lt_of_le_of_lt (modeOf_le r) (by decide)))
  have hcnt : ∀ (u : State) {y : Fld}, sep F.GOV_CNT_STATIC_FRAMES y = true → (if modeOf r = 1 then u.incSat F.GOV_CNT_STATIC_FRAMES else u : State).g y = u.g y :=
    fun u y hy => ite_g (fun _ => g_incSat_sep u hy) (fun _ => rfl)
  unfold modeTaken
  extract_lets old v w
  have hw : ∀ {y : Fld}, clear recordFields y = true → w.g y = v.g y := fun hy => ite_g (fun _ => event_g v _ _ hy) (fun _ => rfl)
  exact ⟨(hcnt w (by decide)).trans ((hw (by decide)).trans hreason), (hcnt w (by decide)).trans ((hw (by decide)).trans hcur)⟩

theorem frameLimits_congr (h : t.mem = s.mem) (k : Nat) : frameLimits t k = frameLimits s k := by
  have hz : ∀ z, t.zoneLim z k = s.zoneLim z k := fun z => le_congr fun i _ => by rw [State.byte, State.byte, h]
  simp only [frameLimits, hz]

theorem gainsNoted_gov (was gains : List Nat) (s : State) : (gainsNoted was gains s).gov = s.gov :=
  List.foldlRecOn (motive := fun u : State => u.gov = s.gov) _ _ rfl (fun u hu z _ => by
    dsimp only
    split_ifs
    · exact hu
    · exact (event_gov ..).trans hu)

/-- What the Governor's latch leaves. -/
structure GovLatched (s t : State) : Prop where
  reason : t.g F.GOV_MODE_REASON = s.modeReason
  mode : t.g F.GOV_MODE_CUR = modeOf s.modeReason
  limits : t.gov.limits = frameLimits s (t.g F.GOV_SPEED_LIMSET)
  spent : t.gov.u = List.replicate 256 0
  sums : t.gov.sums = List.replicate 256 0
  factors : t.gov.factors = []
  rest : ∀ y, clear govFields y = true → clear recordFields y = true → t.g y = s.g y

theorem govLatch_leaves (s : State) : GovLatched s s.govLatch := by
  obtain ⟨was, gains, set, hgov, hset⟩ := govLatch_parts s
  obtain ⟨hreason, hcur⟩ := modeTaken_marks s (modeReason_le s)
  have hrest : ∀ y, clear govFields y = true → clear recordFields y = true → (modeTaken s s.modeReason).g y = s.g y := fun y h1 h2 => modeTaken_g s _ h1 h2
  have hmem : (modeTaken s s.modeReason).mem = s.mem := within_mem (modeTaken_fits s s.modeReason).within rfl (by decide)
  rw [hgov]
  generalize modeTaken s s.modeReason = w at hset hreason hcur hrest hmem
  have hlim : (limitTaken w).g F.GOV_SPEED_LIMSET = set := by
    rw [hset, limitTaken]
    cases limitSet w <;> exact g_put_room _ (by decide)
  have hlmem : (limitTaken w).mem = s.mem := (put_mem ..).trans hmem
  have hl : ∀ y, sep F.GOV_SPEED_LIMSET y = true → (limitTaken w).g y = w.g y := fun y hy => g_put_sep _ _ hy
  have hc : ∀ y, clear govFields y = true → (limitTaken w).g y = w.g y := fun y hy =>
    only_g (only_put (fs := govFields) (ps := []) _ (by simp [govFields]) (by decide) (only_refl _ _ w)) hy
  generalize limitTaken w = v at hlim hlmem hl hc
  have hg : ∀ y, clear recordFields y = true → (gainsNoted was gains (v.withGov { v.gov with
      limits := frameLimits v set, gains := gains, u := List.replicate 256 0, sums := List.replicate 256 0, factors := [] })).g y = v.g y :=
    fun y hy => (gainsNoted_g was gains _ hy).trans (withGov_g ..)
  have hgv := gainsNoted_gov was gains (v.withGov { v.gov with
      limits := frameLimits v set, gains := gains, u := List.replicate 256 0, sums := List.replicate 256 0, factors := [] })
  generalize gainsNoted was gains (v.withGov { v.gov with
      limits := frameLimits v set, gains := gains, u := List.replicate 256 0, sums := List.replicate 256 0, factors := [] }) = t at hg hgv
  refine ⟨(hg _ (by decide)).trans ((hl _ (by decide)).trans hreason), (hg _ (by decide)).trans ((hl _ (by decide)).trans hcur), ?_, congrArg Gov.u hgv,
    congrArg Gov.sums hgv, congrArg Gov.factors hgv, fun y h1 h2 => ?_⟩
  · rw [hg _ (by decide), hlim, ← frameLimits_congr hlmem]
    exact congrArg Gov.limits hgv
  · exact (hg y h2).trans ((hc y h1).trans (hrest y h1 h2))


/-! ### A new frame -/

/-- What a new frame leaves of the page of the compositor and its layers, from the state in which its commits landed. -/
structure Latched (l t : State) : Prop where
  late : ∀ y : Fld, groupPage y.page = 0x18 → clear lateFields y = true → t.g y = l.g y
  masked : ∀ a, groupPage (a / 4096) = 0x18 → t.word a &&& accMask .rwc a = l.word a &&& accMask .rwc a
  pages : t.pendPages = l.pendPages

theorem frameTaken_latched (s : State) : Latched s.landFrame.segForm (frameTaken s) :=
  ⟨fun _ _ hy => only_g (frameTaken_only s) hy, fun a _ => only_masked (frameTaken_only s) late_uncommitted a,
    (frameTaken_only s).parts.pendPages (by simp [Foot.of])⟩

theorem Latched.trans {l : State} (h : Latched l t) (k : Latched t u) : Latched l u :=
  ⟨fun y hp hy => (k.late y hp hy).trans (h.late y hp hy), fun a hp => (k.masked a hp).trans (h.masked a hp), k.pages.trans h.pages⟩

theorem latched_of_fits {g : Foot} (h : s.Fits g t) (ha : g.any = false) (hu : g.units.contains 0x18 = false) (hp : g.parts.contains Part.pendPages = false) :
    Latched s t := by
  refine ⟨fun y hy _ => fits_g h ha (by rw [hy]; exact hu), fun a hpa => ?_, within_pendPages h.within ha hp⟩
  rw [fits_word h ha (by rw [hpa]; simpa using hu)]

theorem opened_latched (s : State) : Latched s (opened s) := by
  have ho : s.Only lateFields [.tln, .cmp] (opened s) := only_mono (by simp [lateFields]) (fun _ h => h) (opened_only s)
  exact ⟨fun _ _ hy => only_g ho hy, fun a _ => only_masked ho late_uncommitted a, ho.parts.pendPages (by simp [Foot.of])⟩

theorem calLatch_within (s : State) : s.Fits (Foot.of [0x48] [.cal]) s.calLatch := calLatch_fits _ (by decide) (fits_refl _ s)

theorem govLatch_within (s : State) : s.Fits (Foot.of [0x40, 0x70, 0x71] [.evr, .gov]) s.govLatch := govLatch_fits _ (by decide) (fits_refl _ s)

/-- A new frame leaves the landed registers but for the fields that it writes after. -/
theorem newFrame_latched (s : State) : Latched s.landFrame.segForm (opened s.newFrame) := by
  rw [newFrame_eq]
  refine (frameTaken_latched s).trans ((latched_of_fits (calLatch_within _) rfl (by decide) (by decide)).trans ?_)
  exact (latched_of_fits (govLatch_within _) rfl (by decide) (by decide)).trans (opened_latched _)

theorem layer_group (n : Nat) : groupPage (0x19 + n % 16) = 0x18 :=
  (by decide : ∀ k < 16, groupPage (0x19 + k) = 0x18) _ (Nat.mod_lt _ (by decide))

/-- The reason of a mode is read from the registers of GOV, the safe frames, the glare list and the layers in use. -/
theorem modeReason_congr (h : ∀ y ∈ [F.GOV_MODE_RELEASE, F.GOV_CTRL_FORCE, F.GOV_STAT_TABLES_OK, F.GOV_STAT_OWN_STALE], t.g y = s.g y)
    (hl : ∀ n, t.isGlare n = s.isGlare n ∧ t.layZero n = s.layZero n) (hc : t.csf = s.csf) (hg : t.glare = s.glare) (ha : t.cmp.active = s.cmp.active) :
    t.modeReason = s.modeReason := by
  have hglare : t.hasGlare = s.hasGlare := by
    simp only [State.hasGlare, ha, fun n => (hl n).1, fun n => (hl n).2]
  have h1 : t.on F.GOV_MODE_RELEASE = s.on F.GOV_MODE_RELEASE := on_congr (h _ (by simp))
  have h2 : t.g F.GOV_CTRL_FORCE = s.g F.GOV_CTRL_FORCE := h _ (by simp)
  have h3 : t.on F.GOV_STAT_TABLES_OK = s.on F.GOV_STAT_TABLES_OK := on_congr (h _ (by simp))
  have h4 : t.on F.GOV_STAT_OWN_STALE = s.on F.GOV_STAT_OWN_STALE := on_congr (h _ (by simp))
  simp only [State.modeReason, h1, h2, h3, h4, hc, hg, hglare]

/-- The Governor's latch and the opening leave the reason of the mode. -/
theorem opened_reason (s : State) : (opened s.govLatch).modeReason = s.modeReason := by
  have hg := govLatch_leaves s
  have hfit := (govLatch_within s).within
  have ho := opened_only s.govLatch
  have hfield : ∀ y, clear govFields y = true → clear recordFields y = true → sep F.CMP_STAT_COMPOSING y = true → (opened s.govLatch).g y = s.g y := fun y h1 h2 h3 =>
    (only_g ho (by simp [clear, sep_apart h3])).trans (hg.rest y h1 h2)
  refine modeReason_congr (fun y hy => ?_) (fun n => ?_) ((ho.parts.csf (by simp [Foot.of])).trans (within_csf hfit rfl (by decide)))
    ((ho.parts.glare (by simp [Foot.of])).trans (within_glare hfit rfl (by decide))) (by rw [opened_cmp, within_cmp hfit rfl (by decide)])
  · have hc := (by decide : ∀ y ∈ [F.GOV_MODE_RELEASE, F.GOV_CTRL_FORCE, F.GOV_STAT_TABLES_OK, F.GOV_STAT_OWN_STALE],
      clear govFields y = true ∧ clear recordFields y = true ∧ sep F.CMP_STAT_COMPOSING y = true) y hy
    exact hfield y hc.1 hc.2.1 hc.2.2
  · have hm : F.LAY_CTRL_SRC n = F.LAY_CTRL_SRC (n % 16) ∧ F.LAY_SIZE_W n = F.LAY_SIZE_W (n % 16) ∧ F.LAY_SIZE_H n = F.LAY_SIZE_H (n % 16) := by
      simp [F.LAY_CTRL_SRC, F.LAY_SIZE_W, F.LAY_SIZE_H]
    have hp := (by decide : ∀ n < 16, ∀ y ∈ [F.LAY_CTRL_SRC n, F.LAY_SIZE_W n, F.LAY_SIZE_H n],
      clear govFields y = true ∧ clear recordFields y = true ∧ sep F.CMP_STAT_COMPOSING y = true) (n % 16) (Nat.mod_lt _ (by decide))
    rw [← hm.1, ← hm.2.1, ← hm.2.2] at hp
    have hsame : ∀ y ∈ [F.LAY_CTRL_SRC n, F.LAY_SIZE_W n, F.LAY_SIZE_H n], (opened s.govLatch).g y = s.g y := fun y hy =>
      hfield y (hp y hy).1 (hp y hy).2.1 (hp y hy).2.2
    rw [State.isGlare, State.isGlare, State.layZero, State.layZero, State.layW, State.layW, State.layH, State.layH, on_congr (hsame (F.LAY_CTRL_SRC n) (by simp)),
      hsame (F.LAY_SIZE_W n) (by simp), hsame (F.LAY_SIZE_H n) (by simp)]
    exact ⟨rfl, rfl⟩

/-- A latch point opens a new frame. -/
theorem latch_opens (hr : s.tln.running = true) (hd : s.cmp.deferred = false) (hb : s.frameBlocked = false) :
    ∃ t, exec .latchPoint s = .next t ∧ t.tln = { s.tln with latched := true, committed := false, closed := false, lateCounted := false }
      ∧ t.cmp.bands = [] ∧ t.cmp.released = [] ∧ t.cmp.recomp = [] ∧ t.cmp.tries = [] ∧ t.g F.CMP_STAT_REPEATING = 0
      ∧ t.on F.CMP_STAT_COMPOSING = t.on (F.UNIT_CTRL_ENABLE 0x18) ∧ t.cmp.periodNext = t.g F.CMP_PERIOD_PER_NS
      ∧ t.g F.GOV_MODE_REASON = t.modeReason ∧ t.g F.GOV_MODE_CUR = modeOf t.modeReason
      ∧ t.gov.limits = (List.range 256).map (fun z => t.zoneLim z (t.g F.GOV_SPEED_LIMSET) * 2 ^ 24)
      ∧ t.gov.u = List.replicate 256 0 ∧ t.gov.sums = List.replicate 256 0 ∧ t.gov.factors = []
      ∧ s.Within (Foot.of [0x18, 0x40, 0x48, 0x50, 0x60, 0x70, 0x71] [.pend, .pendPages, .flt, .evr, .saf, .cmp, .lanes, .tln, .gov, .cal, .seg]) t := by
  have hexec := exec_opens hr hb
  rw [latched_new hd] at hexec
  have hfit : s.Fits (Foot.of [0x18, 0x40, 0x48, 0x50, 0x60, 0x70, 0x71] [.pend, .pendPages, .flt, .evr, .saf, .cmp, .lanes, .tln, .gov, .cal, .seg]) s.begin.newFrame :=
    newFrame_fits _ (by decide) (begin_fits s (by decide) (fits_refl _ s))
  have hopen : s.Fits (Foot.of [0x18, 0x40, 0x48, 0x50, 0x60, 0x70, 0x71] [.pend, .pendPages, .flt, .evr, .saf, .cmp, .lanes, .tln, .gov, .cal, .seg]) (opened s.begin.newFrame) :=
    put_fits _ (by decide) (withCmp_fits _ rfl (withTln_fits _ rfl hfit))
  have hnew : s.begin.Fits (Foot.of [0x18, 0x40, 0x48, 0x50, 0x60, 0x70, 0x71] [.pend, .pendPages, .evr, .cmp, .gov, .cal, .seg]) s.begin.newFrame :=
    newFrame_fits _ (by decide) (fits_refl _ _)
  have hw := hnew.within
  have htln : s.begin.newFrame.tln = s.begin.tln := within_tln hw rfl (by decide)
  have hper := frameTaken_periods s.begin
  have hrep := frameTaken_repeating s.begin
  have hlate := frameTaken_latched s.begin
  rw [newFrame_eq] at hexec hopen htln
  generalize frameTaken s.begin = w at hexec hopen htln hper hrep hlate
  have hcal := calLatch_within w
  have hccmp : w.calLatch.cmp = w.cmp := within_cmp hcal.within rfl (by decide)
  have hcg : ∀ y : Fld, groupPage y.page = 0x18 → w.calLatch.g y = w.g y := fun y hy => fits_g hcal rfl (by rw [hy]; decide)
  generalize w.calLatch = c at hexec hopen htln hccmp hcg
  have hgl := govLatch_leaves c
  have hgfit := (govLatch_within c).within
  have hreason := opened_reason c
  have ho := opened_only c.govLatch
  have hog : ∀ y, sep F.CMP_STAT_COMPOSING y = true → (opened c.govLatch).g y = c.govLatch.g y := fun y hy => only_g ho (by simp [clear, sep_apart hy])
  have hogov : (opened c.govLatch).gov = c.govLatch.gov := ho.parts.gov (by simp [Foot.of])
  have hmem : (opened c.govLatch).mem = c.mem := (ho.parts.mem (by simp [Foot.of])).trans (within_mem hgfit rfl (by decide))
  have hgcmp : c.govLatch.cmp = c.cmp := within_cmp hgfit rfl (by decide)
  refine ⟨_, hexec, by rw [opened_tln, htln]; rfl, by rw [opened_cmp], by rw [opened_cmp], by rw [opened_cmp], by rw [opened_cmp], ?_, opened_composing _, ?_, ?_, ?_, ?_,
    by rw [hogov]; exact hgl.spent, by rw [hogov]; exact hgl.sums, by rw [hogov]; exact hgl.factors, hopen.within⟩
  · rw [hog _ (by decide), hgl.rest _ (by decide) (by decide), hcg _ (by decide)]
    exact hrep
  · have hpn : (opened c.govLatch).cmp.periodNext = w.cmp.periodNext := by rw [opened_cmp, hgcmp, hccmp]
    rw [hpn, hper.2, hog _ (by decide), hgl.rest _ (by decide) (by decide), hcg _ (by decide)]
    exact (hlate.late _ (by decide) (by decide)).symm
  · rw [hreason, hog _ (by decide)]
    exact hgl.reason
  · rw [hreason, hog _ (by decide)]
    exact hgl.mode
  · rw [hogov, hgl.limits, hog _ (by decide), ← frameLimits, frameLimits_congr hmem]


/-! ### The commits of the layers -/

/-- What another page's commit leaves of a layer's page. -/
structure PageStill (n : Nat) (s u : State) : Prop where
  word : ∀ a, a / 4096 = layPage n → u.word a = s.word a
  pend : ∀ a, a / 4096 = layPage n → tabGet resetWord u.pend a = tabGet resetWord s.pend a
  pages : layPage n ∈ u.pendPages ↔ layPage n ∈ s.pendPages
  frame : u.frameNo = s.frameNo

theorem still_refl (s : State) : PageStill n s s := ⟨fun _ _ => rfl, fun _ _ => rfl, Iff.rfl, rfl⟩

theorem PageStill.trans (h : PageStill n s t) (k : PageStill n t u) : PageStill n s u :=
  ⟨fun a ha => (k.word a ha).trans (h.word a ha), fun a ha => (k.pend a ha).trans (h.pend a ha), k.pages.trans h.pages, k.frame.trans h.frame⟩

/-- A field of another page than layer n's, and apart from the frame's number. -/
def elsewhere (n : Nat) (x : Fld) : Bool := decide (x.addr / 4096 ≠ layPage n) && sep x F.CMP_FRAME_FRAME_NO

theorem still_put (v : Nat) (hx : elsewhere n x = true) : PageStill n s (s.put x v) := by
  simp only [elsewhere, Bool.and_eq_true, decide_eq_true_eq] at hx
  refine ⟨fun a ha => word_put_other s x v (fun h => hx.1 (h ▸ ha)), fun _ _ => by rw [put_pend], by rw [put_pendPages], ?_⟩
  rw [State.frameNo, State.frameNo, g_put_sep _ _ hx.2]

theorem still_incSat (hx : elsewhere n x = true) : PageStill n s (s.incSat x) := by
  unfold State.incSat
  split_ifs
  · exact still_put _ hx
  · exact still_refl s

theorem still_evt (hx : elsewhere n x = true) (hq : elsewhere n (F.UNIT_IRQ_STAT_EVT x.page) = true) : PageStill n s (s.evt x) := by
  unfold State.evt
  split_ifs
  · exact still_refl s
  · exact (still_put 1 hx).trans (still_put 1 hq)

/-- The commit of another page. -/
theorem still_apply {p : Nat} (hp : p ≠ layPage n) : PageStill n s (s.apply p) := by
  have hframe : (s.apply p).frameNo = s.frameNo := by rw [State.frameNo, State.frameNo, apply_g _ _ (by decide)]
  refine ⟨fun a ha => ?_, fun a ha => ?_, ?_, hframe⟩
  · unfold State.apply
    split_ifs
    · exact land_word_off s s.pend (fun h => hp (h.symm.trans ha))
    · rfl
  · unfold State.apply
    split_ifs
    · exact tabGet_filter_keep _ _ (fun e => decide (e.1 / 4096 ≠ p)) a (fun _ => decide_eq_true (fun h : a / 4096 = p => hp (h.symm.trans ha)))
    · rfl
  · unfold State.apply
    split_ifs
    · show layPage n ∈ s.pendPages.filter (· ≠ p) ↔ _
      simp [List.mem_filter, Ne.symm hp]
    · rfl

theorem layPage_ne {m : Nat} (hn : n < 16) (hm : m < 16) (h : m ≠ n) : layPage m ≠ layPage n := by
  simp only [layPage]
  omega

theorem layer_elsewhere {m : Nat} (hn : n < 16) (hm : m < 16) (h : m ≠ n) :
    ∀ x ∈ [F.LAY_COMMIT_FRAME_FRAME m, F.LAY_STAT_FENCE_WAIT m, F.LAY_STAT_DATA_WAIT m, F.LAY_CNT_REPEATS m, F.LAY_EVT_REPEAT m, F.LAY_CNT_FLIPS m,
      F.UNIT_IRQ_STAT_EVT (layPage m)], elsewhere n x = true := by
  have hsep := (by decide : ∀ m < 16, ∀ x ∈ [F.LAY_COMMIT_FRAME_FRAME m, F.LAY_STAT_FENCE_WAIT m, F.LAY_STAT_DATA_WAIT m, F.LAY_CNT_REPEATS m, F.LAY_EVT_REPEAT m,
    F.LAY_CNT_FLIPS m, F.UNIT_IRQ_STAT_EVT (layPage m)], sep x F.CMP_FRAME_FRAME_NO = true ∧ x.addr / 4096 = layPage m) m hm
  intro x hx
  obtain ⟨h1, h2⟩ := hsep x hx
  rw [elsewhere, h1, decide_eq_true (by rw [h2]; exact layPage_ne hn hm h)]
  rfl

/-- The frame at which a held layer was held first. -/
def heldFrom (s : State) (n : Nat) : State := if s.cmp.held.contains n then s else s.put (F.LAY_COMMIT_FRAME_FRAME n) s.frameNo

/-- A held layer's waits show. -/
def waitsShown (s : State) (n : Nat) : State :=
  (s.put (F.LAY_STAT_FENCE_WAIT n) (bit (s.fenceWait n))).put (F.LAY_STAT_DATA_WAIT n) (bit (s.dataWait n))

/-- A layer whose commit is held. -/
def landHeld (s : State) (n : Nat) : State := ((waitsShown (heldFrom s n) n).incSat (F.LAY_CNT_REPEATS n)).evt (F.LAY_EVT_REPEAT n)

/-- A flip of the layer's buffer is counted. -/
def flipCounted (s : State) (n : Nat) : State := if s.flips n then s.incSat (F.LAY_CNT_FLIPS n) else s

/-- A layer's commit that lands, and its frame. -/
def landedAt (s : State) (n : Nat) : State := (s.apply (layPage n)).put (F.LAY_COMMIT_FRAME_FRAME n) s.frameNo

/-- A layer whose commit lands. -/
def landFree (s : State) (n : Nat) : State :=
  ((landedAt (flipCounted s n) n).put (F.LAY_STAT_FENCE_WAIT n) 0).put (F.LAY_STAT_DATA_WAIT n) 0

theorem landLayer_held {held : List Nat} (hp : s.pendPages.contains (layPage n) = true) (hh : held.contains n = true) : s.landLayer held n = landHeld s n :=
  (if_pos hp).trans (if_pos hh)

theorem landLayer_free {held : List Nat} (hp : s.pendPages.contains (layPage n) = true) (hh : held.contains n = false) : s.landLayer held n = landFree s n :=
  (if_pos hp).trans (if_neg (by rw [hh]; decide))

theorem landLayer_none {held : List Nat} (hp : s.pendPages.contains (layPage n) = false) : s.landLayer held n = s := if_neg (by rw [hp]; decide)

/-- The commit of another layer. -/
theorem still_landLayer {m : Nat} (held : List Nat) (hn : n < 16) (hm : m < 16) (h : m ≠ n) : PageStill n s (s.landLayer held m) := by
  have he := layer_elsewhere hn hm h
  cases hp : s.pendPages.contains (layPage m) with
  | false =>
    rw [landLayer_none hp]
    exact still_refl s
  | true =>
    cases hh : held.contains m with
    | true =>
      have hv : PageStill n s (heldFrom s m) := by
        unfold heldFrom
        split_ifs
        · exact still_refl s
        · exact still_put _ (he (F.LAY_COMMIT_FRAME_FRAME m) (by simp))
      have hw : PageStill n s (waitsShown (heldFrom s m) m) :=
        hv.trans ((still_put _ (he (F.LAY_STAT_FENCE_WAIT m) (by simp))).trans (still_put _ (he (F.LAY_STAT_DATA_WAIT m) (by simp))))
      rw [landLayer_held hp hh]
      exact hw.trans ((still_incSat (he (F.LAY_CNT_REPEATS m) (by simp))).trans
        (still_evt (he (F.LAY_EVT_REPEAT m) (by simp)) (he (F.UNIT_IRQ_STAT_EVT (layPage m)) (by simp))))
    | false =>
      have hv : PageStill n s (flipCounted s m) := by
        unfold flipCounted
        split_ifs
        · exact still_incSat (he (F.LAY_CNT_FLIPS m) (by simp))
        · exact still_refl s
      have hw : PageStill n s (landedAt (flipCounted s m) m) :=
        hv.trans ((still_apply (layPage_ne hn hm h)).trans (still_put _ (he (F.LAY_COMMIT_FRAME_FRAME m) (by simp))))
      rw [landLayer_free hp hh]
      exact hw.trans ((still_put _ (he (F.LAY_STAT_FENCE_WAIT m) (by simp))).trans (still_put _ (he (F.LAY_STAT_DATA_WAIT m) (by simp))))

/-- A layer's page, once its commit landed or was held. -/
structure LayerDone (s : State) (n : Nat) (held : Bool) (u : State) : Prop where
  wait : u.g (F.LAY_STAT_FENCE_WAIT n) = if held then bit (s.fenceWait n) else 0
  lands : held = false → layPage n ∉ u.pendPages ∧ u.g (F.LAY_COMMIT_FRAME_FRAME n) = s.frameNo
    ∧ ∀ a, a / 4096 = layPage n → u.word a &&& accMask .rwc a = tabGet resetWord s.pend a &&& accMask .rwc a
  holds : held = true → layPage n ∈ u.pendPages ∧ u.on (F.LAY_EVT_REPEAT n) = true
    ∧ u.g (F.LAY_CNT_REPEATS n) = min (F.LAY_CNT_REPEATS n).top (s.g (F.LAY_CNT_REPEATS n) + 1)
    ∧ ∀ a, a / 4096 = layPage n → u.word a &&& accMask .rwc a = s.word a &&& accMask .rwc a

theorem layer_addr (hn : n < 16) : ∀ x ∈ [F.LAY_STAT_FENCE_WAIT n, F.LAY_COMMIT_FRAME_FRAME n, F.LAY_EVT_REPEAT n, F.LAY_CNT_REPEATS n, F.LAY_CTRL_FRONT n, F.LAY_FENCE_CNT n,
    F.LAY_CTRL_SRC n, F.LAY_CTRL_FENCE_EN n, F.LAY_FENCE_TGT n], x.addr / 4096 = layPage n :=
  (by decide : ∀ n < 16, ∀ x ∈ [F.LAY_STAT_FENCE_WAIT n, F.LAY_COMMIT_FRAME_FRAME n, F.LAY_EVT_REPEAT n, F.LAY_CNT_REPEATS n, F.LAY_CTRL_FRONT n, F.LAY_FENCE_CNT n,
    F.LAY_CTRL_SRC n, F.LAY_CTRL_FENCE_EN n, F.LAY_FENCE_TGT n], x.addr / 4096 = layPage n) n hn

theorem still_g (h : PageStill n s t) (hx : x.addr / 4096 = layPage n) : t.g x = s.g x := by rw [State.g, State.g, h.word _ hx]

theorem layerDone_still {held : Bool} (hn : n < 16) (h : LayerDone s n held t) (k : PageStill n t u) : LayerDone s n held u := by
  have ha := layer_addr hn
  refine ⟨(still_g k (ha _ (by simp))).trans h.wait, fun hf => ?_, fun hf => ?_⟩
  · obtain ⟨h1, h2, h3⟩ := h.lands hf
    exact ⟨fun hm => h1 (k.pages.1 hm), (still_g k (ha _ (by simp))).trans h2, fun a hp => by rw [k.word a hp]; exact h3 a hp⟩
  · obtain ⟨h1, h2, h3, h4⟩ := h.holds hf
    exact ⟨k.pages.2 h1, (on_congr (still_g k (ha _ (by simp)))).trans h2, (still_g k (ha _ (by simp))).trans h3, fun a hp => by rw [k.word a hp]; exact h4 a hp⟩


theorem gPend_still (h : PageStill n s t) (hx : x.addr / 4096 = layPage n) : t.gPend x = s.gPend x := by rw [State.gPend, State.gPend, h.pend _ hx]

theorem contains_still (h : PageStill n s t) : t.pendPages.contains (layPage n) = s.pendPages.contains (layPage n) := by
  rw [Bool.eq_iff_iff, List.contains_iff_mem, List.contains_iff_mem]
  exact h.pages

theorem flips_congr (hp : t.pendPages.contains (layPage n) = s.pendPages.contains (layPage n)) (hg : ∀ y ∈ [F.LAY_CTRL_SRC n, F.LAY_CTRL_FRONT n], t.gPend y = s.gPend y)
    (hf : t.g (F.LAY_CTRL_FRONT n) = s.g (F.LAY_CTRL_FRONT n)) : t.flips n = s.flips n := by
  rw [State.flips, State.flips, hp, hg _ (by simp), hg (F.LAY_CTRL_FRONT n) (by simp), hf]

theorem fenceWait_congr (hp : t.pendPages.contains (layPage n) = s.pendPages.contains (layPage n))
    (hg : ∀ y ∈ [F.LAY_CTRL_SRC n, F.LAY_CTRL_FRONT n, F.LAY_CTRL_FENCE_EN n, F.LAY_FENCE_TGT n], t.gPend y = s.gPend y)
    (hf : ∀ y ∈ [F.LAY_CTRL_FRONT n, F.LAY_FENCE_CNT n], t.g y = s.g y) : t.fenceWait n = s.fenceWait n := by
  rw [State.fenceWait, State.fenceWait, flips_congr hp (fun y hy => hg y (by simp at hy ⊢; tauto)) (hf _ (by simp)), hg (F.LAY_CTRL_FENCE_EN n) (by simp),
    hg (F.LAY_FENCE_TGT n) (by simp), hf (F.LAY_FENCE_CNT n) (by simp)]

theorem fenceWait_still (hn : n < 16) (h : PageStill n s t) : t.fenceWait n = s.fenceWait n := by
  have ha := layer_addr hn
  refine fenceWait_congr (contains_still h) (fun y hy => gPend_still h (ha y ?_)) (fun y hy => still_g h (ha y ?_))
  · simp at hy ⊢; tauto
  · simp at hy ⊢; tauto

/-- The fields that a held commit writes. -/
def heldFields (n : Nat) : List Fld :=
  [F.LAY_COMMIT_FRAME_FRAME n, F.LAY_STAT_FENCE_WAIT n, F.LAY_STAT_DATA_WAIT n, F.LAY_CNT_REPEATS n, F.LAY_EVT_REPEAT n, F.UNIT_IRQ_STAT_EVT (layPage n)]

theorem held_uncommitted (hn : n < 16) : ∀ y ∈ heldFields n, uncommitted y = true ∧ y.hi < 32 :=
  (by decide +kernel : ∀ n < 16, ∀ y ∈ heldFields n, uncommitted y = true ∧ y.hi < 32) n hn

theorem heldFrom_only (s : State) (n : Nat) : s.Only (heldFields n) [] (heldFrom s n) :=
  only_ite (fun _ => only_refl _ _ s) (fun _ => only_put _ (by simp [heldFields]) (by simp [F.LAY_COMMIT_FRAME_FRAME]) (only_refl _ _ s))

theorem landHeld_only (s : State) (n : Nat) : s.Only (heldFields n) [] (landHeld s n) := by
  refine only_evt (x := F.LAY_EVT_REPEAT n) (by simp [heldFields]) (by simp [heldFields, layPage, F.LAY_EVT_REPEAT]) (by simp [F.LAY_EVT_REPEAT]) ?_
  refine only_incSat (by simp [heldFields]) (by simp [F.LAY_CNT_REPEATS]) (only_put _ (by simp [heldFields]) (by simp [F.LAY_STAT_DATA_WAIT]) ?_)
  exact only_put _ (by simp [heldFields]) (by simp [F.LAY_STAT_FENCE_WAIT]) (heldFrom_only s n)

theorem held_places (hn : n < 16) :
    sep (F.LAY_COMMIT_FRAME_FRAME n) (F.LAY_CTRL_FRONT n) = true ∧ sep (F.LAY_COMMIT_FRAME_FRAME n) (F.LAY_FENCE_CNT n) = true
      ∧ sep (F.LAY_EVT_REPEAT n) (F.LAY_STAT_FENCE_WAIT n) = true ∧ sep (F.UNIT_IRQ_STAT_EVT (F.LAY_EVT_REPEAT n).page) (F.LAY_STAT_FENCE_WAIT n) = true
      ∧ sep (F.LAY_CNT_REPEATS n) (F.LAY_STAT_FENCE_WAIT n) = true ∧ sep (F.LAY_STAT_DATA_WAIT n) (F.LAY_STAT_FENCE_WAIT n) = true
      ∧ room (F.LAY_STAT_FENCE_WAIT n) 0 = true ∧ room (F.LAY_STAT_FENCE_WAIT n) 1 = true ∧ oneBit (F.LAY_EVT_REPEAT n) = true
      ∧ sep (F.LAY_EVT_REPEAT n) (F.LAY_CNT_REPEATS n) = true ∧ sep (F.UNIT_IRQ_STAT_EVT (F.LAY_EVT_REPEAT n).page) (F.LAY_CNT_REPEATS n) = true
      ∧ sep (F.LAY_STAT_DATA_WAIT n) (F.LAY_CNT_REPEATS n) = true ∧ sep (F.LAY_STAT_FENCE_WAIT n) (F.LAY_CNT_REPEATS n) = true
      ∧ sep (F.LAY_COMMIT_FRAME_FRAME n) (F.LAY_CNT_REPEATS n) = true ∧ sep (F.LAY_STAT_DATA_WAIT n) (F.LAY_COMMIT_FRAME_FRAME n) = true
      ∧ sep (F.LAY_STAT_FENCE_WAIT n) (F.LAY_COMMIT_FRAME_FRAME n) = true :=
  (by decide : ∀ n < 16, sep (F.LAY_COMMIT_FRAME_FRAME n) (F.LAY_CTRL_FRONT n) = true ∧ sep (F.LAY_COMMIT_FRAME_FRAME n) (F.LAY_FENCE_CNT n) = true
      ∧ sep (F.LAY_EVT_REPEAT n) (F.LAY_STAT_FENCE_WAIT n) = true ∧ sep (F.UNIT_IRQ_STAT_EVT (F.LAY_EVT_REPEAT n).page) (F.LAY_STAT_FENCE_WAIT n) = true
      ∧ sep (F.LAY_CNT_REPEATS n) (F.LAY_STAT_FENCE_WAIT n) = true ∧ sep (F.LAY_STAT_DATA_WAIT n) (F.LAY_STAT_FENCE_WAIT n) = true
      ∧ room (F.LAY_STAT_FENCE_WAIT n) 0 = true ∧ room (F.LAY_STAT_FENCE_WAIT n) 1 = true ∧ oneBit (F.LAY_EVT_REPEAT n) = true
      ∧ sep (F.LAY_EVT_REPEAT n) (F.LAY_CNT_REPEATS n) = true ∧ sep (F.UNIT_IRQ_STAT_EVT (F.LAY_EVT_REPEAT n).page) (F.LAY_CNT_REPEATS n) = true
      ∧ sep (F.LAY_STAT_DATA_WAIT n) (F.LAY_CNT_REPEATS n) = true ∧ sep (F.LAY_STAT_FENCE_WAIT n) (F.LAY_CNT_REPEATS n) = true
      ∧ sep (F.LAY_COMMIT_FRAME_FRAME n) (F.LAY_CNT_REPEATS n) = true ∧ sep (F.LAY_STAT_DATA_WAIT n) (F.LAY_COMMIT_FRAME_FRAME n) = true
      ∧ sep (F.LAY_STAT_FENCE_WAIT n) (F.LAY_COMMIT_FRAME_FRAME n) = true) n hn

/-- A held layer. -/
theorem landHeld_done (hn : n < 16) (h : PageStill n s u) (hp : layPage n ∈ s.pendPages) : LayerDone s n true (landHeld u n) := by
  obtain ⟨p1, p2, p3, p4, p5, p6, p7, p8, p9, p10, p11, p12, p13, p14, p15, p16⟩ := held_places hn
  have honly := landHeld_only u n
  have hfrom : ∀ {y : Fld}, sep (F.LAY_COMMIT_FRAME_FRAME n) y = true → (heldFrom u n).g y = u.g y := fun hy => ite_g (fun _ => rfl) (fun _ => g_put_sep _ _ hy)
  have hparts := (heldFrom_only u n).parts
  have hwait : (heldFrom u n).fenceWait n = s.fenceWait n := by
    rw [← fenceWait_still hn h]
    refine fenceWait_congr (by rw [hparts.pendPages (by simp [Foot.of])]) (fun y _ => by rw [State.gPend, State.gPend, hparts.pend (by simp [Foot.of])]) fun y hy => ?_
    obtain rfl | rfl : y = F.LAY_CTRL_FRONT n ∨ y = F.LAY_FENCE_CNT n := by simpa using hy
    · exact hfrom p1
    · exact hfrom p2
  refine ⟨?_, fun hf => absurd hf (by decide), fun _ => ⟨?_, on_evt_self _ p9, ?_, fun a ha => ?_⟩⟩
  · rw [landHeld, g_evt_sep _ p3 p4, g_incSat_sep _ p5, waitsShown, g_put_sep _ _ p6, hwait, if_pos rfl]
    cases s.fenceWait n
    · exact g_put_room _ p7
    · exact g_put_room _ p8
  · rw [honly.parts.pendPages (by simp [Foot.of])]
    exact h.pages.2 hp
  · rw [landHeld, g_evt_sep _ p10 p11, g_incSat (by simp [F.LAY_CNT_REPEATS]) (by simp [F.LAY_CNT_REPEATS]) (g_le_top _ _), waitsShown, g_put_sep _ _ p12, g_put_sep _ _ p13,
      hfrom p14, still_g h (layer_addr hn _ (by simp))]
  · rw [only_masked honly (fun y hy => (held_uncommitted hn y hy).1), h.word a ha]

theorem merged_masked (m w v : Word) : merged m w v &&& m = v &&& m := by
  ext i hi
  simp only [merged, BitVec.getElem_and, BitVec.getElem_or, BitVec.getElem_not]
  cases m[i] <;> simp

/-- A layer whose commit lands. -/
theorem landFree_done (hn : n < 16) (h : PageStill n s u) (hp : layPage n ∈ s.pendPages) : LayerDone s n false (landFree u n) := by
  obtain ⟨p1, p2, p3, p4, p5, p6, p7, p8, p9, p10, p11, p12, p13, p14, p15, p16⟩ := held_places hn
  have hflip : u.Only [F.LAY_CNT_FLIPS n] [] (flipCounted u n) :=
    only_ite (fun _ => only_incSat (by simp) (by simp [F.LAY_CNT_FLIPS]) (only_refl _ _ u)) (fun _ => only_refl _ _ u)
  have hclear : clear [F.LAY_CNT_FLIPS n] F.CMP_FRAME_FRAME_NO = true := (by decide : ∀ n < 16, clear [F.LAY_CNT_FLIPS n] F.CMP_FRAME_FRAME_NO = true) n hn
  have hframe : (flipCounted u n).frameNo = s.frameNo := by rw [← h.frame, State.frameNo, State.frameNo, only_g hflip hclear]
  have hpend : (flipCounted u n).pend = u.pend := hflip.parts.pend (by simp [Foot.of])
  have hpages : (flipCounted u n).pendPages = u.pendPages := hflip.parts.pendPages (by simp [Foot.of])
  have hlate : (landedAt (flipCounted u n) n).Only (heldFields n) [] (landFree u n) :=
    only_put _ (by simp [heldFields]) (by simp [F.LAY_STAT_DATA_WAIT]) (only_put _ (by simp [heldFields]) (by simp [F.LAY_STAT_FENCE_WAIT]) (only_refl _ _ _))
  have hput : ((flipCounted u n).apply (layPage n)).Only (heldFields n) [] (landedAt (flipCounted u n) n) :=
    only_put _ (by simp [heldFields]) (by simp [F.LAY_COMMIT_FRAME_FRAME]) (only_refl _ _ _)
  have hall := only_trans hput hlate
  have happly : (flipCounted u n).apply (layPage n) = (((flipCounted u n).land (flipCounted u n).pend (layPage n)).withPend
      (dropPage (flipCounted u n).pend (layPage n))).withPendPages ((flipCounted u n).pendPages.filter (· ≠ layPage n)) :=
    if_pos (by rw [hpages, List.contains_iff_mem]; exact h.pages.2 hp)
  refine ⟨?_, fun _ => ⟨?_, ?_, fun a ha => ?_⟩, fun hf => absurd hf (by decide)⟩
  · rw [landFree, g_put_sep _ _ p6]
    exact g_put_room _ p7
  · rw [hall.parts.pendPages (by simp [Foot.of]), happly]
    show layPage n ∉ List.filter _ _
    simp
  · rw [landFree, g_put_sep _ _ p15, g_put_sep _ _ p16, landedAt, ← hframe]
    exact g_put_self (by simp [F.LAY_COMMIT_FRAME_FRAME]) (by simp [F.LAY_COMMIT_FRAME_FRAME]) (Nat.mod_lt _ (by decide))
  · rw [only_masked hall (fun y hy => (held_uncommitted hn y hy).1), happly]
    show (State.land _ _ _).word a &&& _ = _
    rw [land_word _ _ ha, merged_masked, hpend, h.pend a ha]

/-- A layer with a pending commit, once the layers' commits landed. -/
theorem layers_done (held : List Nat) (hn : n < 16) (h : PageStill n s u) (hp : layPage n ∈ s.pendPages) :
    LayerDone s n (held.contains n) ((List.range 16).foldl (fun s n => s.landLayer held n) u) := by
  refine foldl_visit (P := fun v : State => PageStill n s v) (Q := fun v : State => LayerDone s n (held.contains n) v) (List.range 16) List.nodup_range (List.mem_range.2 hn)
    (fun m hm hne v hv => hv.trans (still_landLayer held hn (List.mem_range.1 hm) hne)) (fun v hv => ?_)
    (fun m hm hne v hv => layerDone_still hn hv (still_landLayer held hn (List.mem_range.1 hm) hne)) h
  have hpv : v.pendPages.contains (layPage n) = true := List.contains_iff_mem.2 (hv.pages.2 hp)
  cases hh : held.contains n with
  | true =>
    rw [landLayer_held hpv hh]
    exact landHeld_done hn hv hp
  | false =>
    rw [landLayer_free hpv hh]
    exact landFree_done hn hv hp

/-- The commits of CMP and the tile lanes land. -/
def pagesLanded (s : State) : State :=
  (List.range' 0x50 9).foldl (fun s p => s.apply p) (if s.pendPages.contains 0x18 then (s.apply 0x18).put F.CMP_COMMIT_FRAME_FRAME s.frameNo else s)

/-- The layers' commits, after those of the other pages. -/
def layersLanded (s : State) : State := (List.range 16).foldl (fun u n => u.landLayer s.heldNow n) (pagesLanded s)

/-- The commits that stay pending are noted. -/
def heldNoted (held : List Nat) (s : State) : State := s.withCmp { s.cmp with held := held, heldGroup := s.cmp.heldGroup.filter held.contains }

theorem heldNoted_period (held : List Nat) (s : State) : (heldNoted held s).cmp.period = s.cmp.period := rfl

theorem landFrame_eq (s : State) : s.landFrame = heldNoted s.heldNow (layersLanded s) := by
  unfold State.landFrame
  extract_lets held v1 v2 v3 src
  have h3 : v3 = layersLanded s := rfl
  have hh : held = s.heldNow := rfl
  have hs : src = (layersLanded s).cmp := rfl
  rw [h3, hh, hs, heldNoted]

theorem layersLanded_fits (s : State) : s.Fits (Foot.of [0x18, 0x50] [.pend, .pendPages]) (layersLanded s) := by
  have hbase : s.Fits (Foot.of [0x18, 0x50] [.pend, .pendPages]) (if s.pendPages.contains 0x18 then (s.apply 0x18).put F.CMP_COMMIT_FRAME_FRAME s.frameNo else s) :=
    fits_ite (put_fits _ (by decide) (apply_fits _ _ (by decide) (by decide) (fits_refl _ s))) (fits_refl _ s)
  have hpages : s.Fits (Foot.of [0x18, 0x50] [.pend, .pendPages]) (pagesLanded s) := by
    refine fits_foldl _ _ (fun p hp u hu => apply_fits u p ?_ (by decide) hu) hbase
    exact (by decide : ∀ p ∈ List.range' 0x50 9, (Foot.of [0x18, 0x50] [.pend, .pendPages]).hasUnit (groupPage p) = true) p hp
  exact fits_foldl _ _ (fun n _ u hu => landLayer_fits u _ n (by decide) hu) hpages

theorem landFrame_period (s : State) : s.landFrame.cmp.period = s.cmp.period := by
  rw [landFrame_eq, heldNoted_period, within_cmp (layersLanded_fits s).within rfl (by decide)]

theorem pagesLanded_still (s : State) (hn : n < 16) : PageStill n s (pagesLanded s) := by
  have hbase : PageStill n s (if s.pendPages.contains 0x18 then (s.apply 0x18).put F.CMP_COMMIT_FRAME_FRAME s.frameNo else s) := by
    split_ifs
    · refine (still_apply ?_).trans (still_put _ ?_)
      · simp only [layPage]; omega
      · exact (by decide : ∀ n < 16, elsewhere n F.CMP_COMMIT_FRAME_FRAME = true) n hn
    · exact still_refl s
  refine List.foldlRecOn (motive := fun u : State => PageStill n s u) _ _ hbase (fun u hu p hp => hu.trans (still_apply ?_))
  have hp50 : 0x50 ≤ p := by
    rw [List.mem_range'_1] at hp
    exact hp.1
  simp only [layPage]
  omega

theorem still_heldNoted (held : List Nat) : PageStill n s (heldNoted held s) :=
  ⟨fun _ _ => rfl, fun _ _ => rfl, Iff.rfl, by rw [State.frameNo, State.frameNo, heldNoted, withCmp_g]⟩

theorem landFrame_done (s : State) (hn : n < 16) (hp : layPage n ∈ s.pendPages) : LayerDone s n (s.heldNow.contains n) s.landFrame := by
  rw [landFrame_eq]
  exact layerDone_still hn (layers_done s.heldNow hn (pagesLanded_still s hn) hp) (still_heldNoted s.heldNow)

/-- The commit of the segment drivers. -/
def segLanded (s : State) : State := if s.pendPages.contains 0x60 then (s.apply 0x60).put F.SEG_COMMIT_FRAME_FRAME (s.frameNo + 1) else s

theorem segForm_from (s : State) : (segLanded s).Fits (Foot.of [0x60] [.seg]) s.segForm := by
  unfold State.segForm
  extract_lets v1 v2
  have h2 : v1.Fits (Foot.of [0x60] [.seg]) v2 :=
    fits_foldl _ _ (fun c _ u hu => fits_ite (put_fits _ rfl hu) hu) (fits_refl _ v1)
  exact fits_ite (fits_foldl _ _ (fun c _ u hu => formChan_fits u c (by decide) hu) h2) h2

/-- The segment drivers' set leaves the page of every layer. -/
theorem segForm_still (s : State) (hn : n < 16) : PageStill n s s.segForm := by
  have hbase : PageStill n s (segLanded s) := by
    unfold segLanded
    split_ifs
    · refine (still_apply ?_).trans (still_put _ ?_)
      · simp only [layPage]
        omega
      · exact (by decide : ∀ n < 16, elsewhere n F.SEG_COMMIT_FRAME_FRAME = true) n hn
    · exact still_refl s
  have hfit := segForm_from s
  generalize segLanded s = w at hbase hfit
  generalize s.segForm = u at hfit ⊢
  refine hbase.trans ⟨fun a ha => fits_word hfit rfl ?_, fun _ _ => by rw [within_pend hfit.within rfl (by decide)], by rw [within_pendPages hfit.within rfl (by decide)],
    by rw [State.frameNo, State.frameNo, fits_g hfit rfl (by decide)]⟩
  rw [ha]
  exact (by decide : ∀ n < 16, groupPage (layPage n) ∉ (Foot.of [0x60] [.seg]).units) n hn

/-- The latch point of a new frame lands each pending commit of a layer, or holds it. -/
theorem latch_lands (hn : n < 16) (hr : s.tln.running = true) (hd : s.cmp.deferred = false) (hb : s.frameBlocked = false)
    (hp : s.pendPages.contains (layPage n) = true) :
    ∃ t, exec .latchPoint s = .next t ∧ t.g (F.LAY_STAT_FENCE_WAIT n) = (if n ∈ s.heldNow then bit (s.fenceWait n) else 0)
      ∧ (n ∉ s.heldNow → layPage n ∉ t.pendPages ∧ t.g (F.LAY_COMMIT_FRAME_FRAME n) = s.frameNo
          ∧ ∀ a, a / 4096 = layPage n → t.word a &&& accMask .rwc a = tabGet resetWord s.pend a &&& accMask .rwc a)
      ∧ (n ∈ s.heldNow → layPage n ∈ t.pendPages ∧ t.on (F.LAY_EVT_REPEAT n) = true
          ∧ t.g (F.LAY_CNT_REPEATS n) = min (F.LAY_CNT_REPEATS n).top (s.g (F.LAY_CNT_REPEATS n) + 1)
          ∧ ∀ a, a / 4096 = layPage n → t.word a &&& accMask .rwc a = s.word a &&& accMask .rwc a) := by
  have hdone : LayerDone s.begin n (s.heldNow.contains n) s.begin.landFrame.segForm :=
    layerDone_still hn (landFrame_done s.begin hn (List.contains_iff_mem.1 hp)) (segForm_still _ hn)
  have hl := newFrame_latched s.begin
  have hexec := exec_opens hr hb
  rw [latched_new hd] at hexec
  generalize s.begin.landFrame.segForm = l at hdone hl
  generalize opened s.begin.newFrame = t at hl hexec
  have hg : ∀ y ∈ [F.LAY_STAT_FENCE_WAIT n, F.LAY_COMMIT_FRAME_FRAME n, F.LAY_EVT_REPEAT n, F.LAY_CNT_REPEATS n], t.g y = l.g y := fun y hy => by
    have hy' := (by decide +kernel : ∀ n < 16, ∀ y ∈ [F.LAY_STAT_FENCE_WAIT n, F.LAY_COMMIT_FRAME_FRAME n, F.LAY_EVT_REPEAT n, F.LAY_CNT_REPEATS n],
      groupPage y.page = 0x18 ∧ clear lateFields y = true) n hn y hy
    exact hl.late y hy'.1 hy'.2
  have hm : ∀ a, a / 4096 = layPage n → t.word a &&& accMask .rwc a = l.word a &&& accMask .rwc a := fun a ha =>
    hl.masked a (by rw [ha]; exact (by decide : ∀ n < 16, groupPage (layPage n) = 0x18) n hn)
  refine ⟨t, hexec, ?_, fun hh => ?_, fun hh => ?_⟩
  · rw [hg _ (by simp), hdone.wait]
    simp only [List.contains_iff_mem]
    rfl
  · obtain ⟨h1, h2, h3⟩ := hdone.lands (by simpa using hh)
    exact ⟨by rw [hl.pages]; exact h1, (hg _ (by simp)).trans h2, fun a ha => (hm a ha).trans (h3 a ha)⟩
  · obtain ⟨h1, h2, h3, h4⟩ := hdone.holds (by simpa using hh)
    exact ⟨by rw [hl.pages]; exact h1, (on_congr (hg _ (by simp))).trans h2, (hg _ (by simp)).trans h3, fun a ha => (hm a ha).trans (h4 a ha)⟩

/-! ### A latch point under a block reset -/

theorem segLanded_period (s : State) : (segLanded s).cmp.period = s.cmp.period := by
  unfold segLanded
  split_ifs
  · rw [put_cmp]
    exact congrArg Cmp.period (within_cmp (apply_fits (g := Foot.of [0x60] [.pend, .pendPages]) s _ (by decide) (by decide) (fits_refl _ s)).within rfl (by decide))
  · rfl

theorem newFrame_period (s : State) : s.newFrame.cmp.period = s.cmp.period := by
  have hseg := within_cmp (segForm_from s.landFrame).within rfl (by decide)
  rw [newFrame_eq, within_cmp (govLatch_within _).within rfl (by decide), within_cmp (calLatch_within _).within rfl (by decide), (frameTaken_periods s).1, hseg,
    segLanded_period, landFrame_period]

theorem latched_period (s : State) : (latched s).cmp.period = s.cmp.period ∧ (latched s).tln = s.tln := by
  unfold latched
  split_ifs
  · obtain ⟨hall, -, hc, -⟩ := repeatFrame_leaves s
    exact ⟨by rw [hc], hall.parts.tln (by simp [Foot.of])⟩
  · have hfit : s.Fits (Foot.of [0x18, 0x40, 0x48, 0x50, 0x60, 0x70, 0x71] [.pend, .pendPages, .evr, .cmp, .gov, .cal, .seg]) s.newFrame :=
      newFrame_fits _ (by decide) (fits_refl _ _)
    exact ⟨newFrame_period s, within_tln hfit.within rfl (by decide)⟩

theorem latch_defers (hr : s.tln.running = true) (hb : s.frameBlocked = true) :
    ∃ t, exec .latchPoint s = .next t ∧ t.cmp.deferred = true ∧ t.tln.latched = false ∧ t.on F.CMP_EVT_DEFER = true
      ∧ t.on F.CMP_EVT_BLK_DEFER = true ∧ t.g F.CMP_STAT_COMPOSING = 0 ∧ t.tln.nextFlip = s.tln.nextFlip + s.cmp.period ∧ t.mem = s.mem := by
  have hexec := exec_defers hr hb
  have hfit := does_within (execLatchPoint_fits s) hexec
  obtain ⟨hper, htln⟩ := latched_period s.begin
  have hnone : (opened (latched s.begin)).cmp.recomp = [] := by rw [opened_cmp]
  obtain ⟨hc, hl, hf, hd, hk, hz⟩ := deferFlip_blocked _ hnone
  refine ⟨_, hexec, by rw [hc], hl, hd, hk, hz, ?_, within_mem hfit rfl (by decide)⟩
  rw [hf, opened_tln, opened_cmp, htln]
  exact congrArg (s.tln.nextFlip + ·) hper

/-- Settles O22: layer by layer a commit lands or is held, the layers' pages staying apart, and what the frame's latch writes afterwards is no committed field. -/
theorem latchPoint : Obligations.LatchPoint := by
  unfold Obligations.LatchPoint
  exact ⟨fun _ => latch_opens, fun _ _ => latch_lands, fun _ => latch_repeats, fun _ => latch_defers, fun _ => exec_latchPoint_rests⟩

end Sys2Proof.Proofs.LatchPoints
end

section
/-! PROOF. Requests for a power state, their preparation, entry and acknowledgement (PowerRequests). -/

namespace Sys2Proof.Proofs.PowerEntry

open Sys2Proof.Machine Sys2Proof.Laws Sys2Proof.Proofs.Architecture Sys2Proof.Proofs.Reading Sys2Proof.Proofs.GovernorSums
  Sys2Proof.Proofs.LampReactions Sys2Proof.Proofs.GylysLinks Sys2Proof.Proofs.LampLanes Sys2Proof.Proofs.SafetyOuts Sys2Proof.Proofs.PageCommits
  Sys2Proof.Proofs.FlintLockOut Sys2Proof.Proofs.RecorderRuns Sys2Proof.Proofs.TestPort Sys2Proof.Proofs.DeviceResets Sys2Proof.Proofs.QuartzRoot
  Sys2Proof.Proofs.BootEnding Sys2Proof.Proofs.SideLink Sys2Proof.Proofs.SegmentLine Sys2Proof.Proofs.FrameFlips

variable {s t u : State} {x : Fld} {l n k : Nat}

/-! ### Requests -/

/-- A write of PWR_REQ by a master that may write it. -/
theorem exec_pwrReq {m : Master} {v : Word} {c : Instr} (hr : s.masterRuns m = true) (hw : s.mayWrite m 0x03 0x40 = true)
    (hc : c ∈ [Instr.pwrReqIdle m v, .pwrReqSleep m v, .pwrReqDeep m v, .pwrReqOff m v]) : exec c s = .next (s.begin.pwrReq m v) := by
  have hb : s.begin.mayWrite m 0x03 0x40 = true := hw
  have hbus : s.begin.masterWrite m (pageAddr 0x03 0x40) v = s.begin.pwrReq m v :=
    masterWrite_special v hr hb (by decide) (by decide) (by decide) (by decide) (by decide) (by decide) (by decide)
  simp only [List.mem_cons, List.not_mem_nil, or_false] at hc
  rcases hc with rfl | rfl | rfl | rfl <;> exact congrArg Host.Outcome.next hbus

theorem pwrReq_idle (m : Master) {v : Word} (hv : wordField v 2 0 = 1) : s.pwrReq m v = s.pwrIdle m := if_pos hv

theorem pwrIdle_stops (hp : s.pwr.st = .run) (hi : s.appIrq = false) : s.pwrIdle .app = s.pwrTo .idle := if_pos (by simp [hp, hi])

theorem pwrIdle_rests {m : Master} (h : m ≠ .app ∨ s.pwr.st ≠ .run ∨ s.appIrq = true) : s.pwrIdle m = s := by
  refine if_neg ?_
  rcases h with h | h | h <;> simp [h]

/-- A request that is accepted starts its preparation. -/
def prepares (s : State) (target : Nat) : State := s.withPwr { s.pwr with st := .prep, since := s.now, target := target }

theorem pwrReq_accepted (m : Master) {v : Word} (hv : wordField v 2 0 ≠ 1) (h : s.pwrRefuse (wordField v 2 0) (wordField v 15 8) = 0) :
    s.pwrReq m v = prepares s (wordField v 2 0) := (if_neg hv).trans (if_pos h)

theorem pwrReq_refused (m : Master) {v : Word} (hv : wordField v 2 0 ≠ 1) (h : s.pwrRefuse (wordField v 2 0) (wordField v 15 8) ≠ 0) :
    s.pwrReq m v = s.refuse (s.pwrRefuse (wordField v 2 0) (wordField v 15 8)) := (if_neg hv).trans (if_neg h)

theorem pwrRefuse_le (s : State) (st key : Nat) : s.pwrRefuse st key ≤ 6 := by
  unfold State.pwrRefuse
  split_ifs <;> decide

/-- The fields that a refusal writes. -/
def refusal : List Fld := [F.PWR_STAT_REFUSE, F.PWR_EVT_REFUSED, F.UNIT_IRQ_STAT_EVT 0x03, F.CMD_EVT_DEEP_REF, F.UNIT_IRQ_STAT_EVT 0x10]

theorem refuse_leaves (s : State) {code : Nat} (hc : code < 8) :
    (s.refuse code).g F.PWR_STAT_REFUSE = code ∧ (s.refuse code).on F.PWR_EVT_REFUSED = true ∧ s.Only refusal [] (s.refuse code)
      ∧ (code ≠ 3 → s.Only [F.PWR_STAT_REFUSE, F.PWR_EVT_REFUSED, F.UNIT_IRQ_STAT_EVT 0x03] [] (s.refuse code)) := by
  have hg : ((s.put F.PWR_STAT_REFUSE code).evt F.PWR_EVT_REFUSED).g F.PWR_STAT_REFUSE = code :=
    (g_evt_sep _ (by decide) (by decide)).trans (g_put_self (by decide) (by decide) (Nat.lt_trans hc (by decide)))
  have he : ((s.put F.PWR_STAT_REFUSE code).evt F.PWR_EVT_REFUSED).on F.PWR_EVT_REFUSED = true := on_evt_self _ (by decide)
  have ho : s.Only [F.PWR_STAT_REFUSE, F.PWR_EVT_REFUSED, F.UNIT_IRQ_STAT_EVT 0x03] [] ((s.put F.PWR_STAT_REFUSE code).evt F.PWR_EVT_REFUSED) :=
    only_evt (x := F.PWR_EVT_REFUSED) (by simp) (by simp [F.PWR_EVT_REFUSED]) (by decide) (only_put _ (by simp) (by decide) (only_refl _ _ s))
  have hall := only_mono (fs' := refusal) (ps' := []) (by simp [refusal]) (by simp) ho
  unfold State.refuse
  extract_lets w
  split_ifs with h3
  · exact ⟨(g_evt_sep _ (by decide) (by decide)).trans hg, (on_evt_sep _ (by decide) (by decide)).trans he,
      only_evt (x := F.CMD_EVT_DEEP_REF) (by simp [refusal]) (by simp [refusal, F.CMD_EVT_DEEP_REF]) (by decide) hall, fun h => absurd h3 h⟩
  · exact ⟨hg, he, hall, fun _ => ho⟩

/-- What a request does. -/
theorem request_acts {m : Master} {v : Word} {c : Instr} (hr : s.masterRuns m = true) (hw : s.mayWrite m 0x03 0x40 = true)
    (hc : c ∈ [Instr.pwrReqIdle m v, .pwrReqSleep m v, .pwrReqDeep m v, .pwrReqOff m v]) :
    (wordField v 2 0 = 1 → m = .app → s.pwr.st = .run → s.appIrq = false →
      ∃ t, exec c s = .next t ∧ t.pwr = { s.pwr with st := .idle, since := s.now } ∧ s.begin.Only [] [.pwr] t)
    ∧ (wordField v 2 0 = 1 → m ≠ .app ∨ s.pwr.st ≠ .run ∨ s.appIrq = true → exec c s = .next s.begin)
    ∧ (wordField v 2 0 ≠ 1 → s.pwrRefuse (wordField v 2 0) (wordField v 15 8) = 0 →
      ∃ t, exec c s = .next t ∧ t.pwr = { s.pwr with st := .prep, since := s.now, target := wordField v 2 0 } ∧ s.begin.Only [] [.pwr] t)
    ∧ (wordField v 2 0 ≠ 1 → s.pwrRefuse (wordField v 2 0) (wordField v 15 8) ≠ 0 →
      ∃ t, exec c s = .next t ∧ t.g F.PWR_STAT_REFUSE = s.pwrRefuse (wordField v 2 0) (wordField v 15 8) ∧ t.on F.PWR_EVT_REFUSED = true
        ∧ s.begin.Only [F.PWR_STAT_REFUSE, F.PWR_EVT_REFUSED, F.UNIT_IRQ_STAT_EVT 0x03, F.CMD_EVT_DEEP_REF, F.UNIT_IRQ_STAT_EVT 0x10] [] t) := by
  have he := exec_pwrReq hr hw hc
  have hq : s.begin.pwrRefuse (wordField v 2 0) (wordField v 15 8) = s.pwrRefuse (wordField v 2 0) (wordField v 15 8) := rfl
  refine ⟨fun hv hm hp hi => ?_, fun hv h => ?_, fun hv h => ?_, fun hv h => ?_⟩
  · subst hm
    rw [pwrReq_idle _ hv, pwrIdle_stops (s := s.begin) hp hi] at he
    exact ⟨_, he, rfl, only_withPwr (by simp) (only_refl _ _ _)⟩
  · rw [pwrReq_idle _ hv, pwrIdle_rests (s := s.begin) h] at he
    exact he
  · rw [pwrReq_accepted m hv (hq.trans h)] at he
    exact ⟨_, he, rfl, only_withPwr (by simp) (only_refl _ _ _)⟩
  · rw [pwrReq_refused m hv (by rwa [hq]), hq] at he
    obtain ⟨hg, ho, hall, -⟩ := refuse_leaves s.begin (Nat.lt_of_le_of_lt (pwrRefuse_le s _ _) (by decide : 6 < 8))
    exact ⟨_, he, hg, ho, hall⟩

/-! ### IDLE and the time of a preparation -/

theorem idle_wakes (h : s.pwr.st = .idle) :
    ∃ t, exec .idleWake s = .next t ∧ t.pwr = { s.pwr with st := .run, since := s.now } ∧ s.begin.Only [] [.pwr] t :=
  ⟨_, congrArg Host.Outcome.next (if_pos h), rfl, only_withPwr (by simp) (only_refl _ _ _)⟩

theorem idleWake_rests (h : s.pwr.st ≠ .idle) : exec .idleWake s = .next s.begin := congrArg Host.Outcome.next (if_neg h)

theorem prep_expires (h : s.pwr.st = .prep) :
    ∃ t, exec .prepTimeout s = .next t ∧ t.pwr = { s.pwr with st := .run, since := s.now } ∧ t.g F.PWR_STAT_REFUSE = 7 ∧ t.on F.PWR_EVT_REFUSED = true
      ∧ s.begin.Only [F.PWR_STAT_REFUSE, F.PWR_EVT_REFUSED, F.UNIT_IRQ_STAT_EVT 0x03] [.pwr] t := by
  obtain ⟨hg, ho, -, hall⟩ := refuse_leaves (s.begin.pwrTo .run) (code := 7) (by decide)
  exact ⟨_, congrArg Host.Outcome.next (if_pos h), (hall (by decide)).parts.pwr (by simp [Foot.of]), hg, ho,
    only_app (by simp) (by simp) (hall (by decide)) (only_withPwr (by simp) (only_refl _ _ _))⟩

theorem prepTimeout_rests (h : s.pwr.st ≠ .prep) : exec .prepTimeout s = .next s.begin := congrArg Host.Outcome.next (if_neg h)

/-! ### The PMIC's acknowledgement -/

theorem pmic_acks (u : Nat) (h : s.pwr.st = .ackEntry) (hb : s.pwr.stby = true) :
    ∃ t, exec (.pmicAck u) s = .next t ∧ t.g F.PWR_ACK_LAST_US = min 65535 u ∧ t.rst.pg = false
      ∧ t.pwr = { s.pwr with st := if s.pwr.target = 3 then .deep else .off, since := s.now } ∧ s.begin.Only [F.PWR_ACK_LAST_US] [.rst, .pwr] t := by
  have hc : (decide (s.begin.pwr.st = .ackEntry) && s.begin.pwr.stby) = true := by
    rw [show s.begin.pwr = s.pwr from rfl, h, hb]
    rfl
  have hput : (s.begin.put F.PWR_ACK_LAST_US (min 65535 u)).g F.PWR_ACK_LAST_US = min 65535 u :=
    g_put_self (by decide) (by decide) (Nat.lt_of_le_of_lt (Nat.min_le_left _ _) (by decide))
  refine ⟨_, congrArg Host.Outcome.next (if_pos hc), ?_, rfl, ?_, ?_⟩
  · exact (pwrTo_g ..).trans ((withRst_g ..).trans hput)
  · have hp : (s.begin.put F.PWR_ACK_LAST_US (min 65535 u)).pwr = s.pwr := put_pwr ..
    have hn : (s.begin.put F.PWR_ACK_LAST_US (min 65535 u)).now = s.now := put_now ..
    generalize s.begin.put F.PWR_ACK_LAST_US (min 65535 u) = w at hp hn ⊢
    show ({ w.pwr with st := _, since := w.now } : Pwr) = _
    rw [hn]
    show ({ w.pwr with st := if w.pwr.target = 3 then .deep else .off, since := _ } : Pwr) = _
    rw [hp]
  · exact only_withPwr (by simp) (only_withRst (by simp) (only_put _ (by simp) (by decide) (only_refl _ _ _)))

theorem pmicAck_rests (u : Nat) (h : s.pwr.st ≠ .ackEntry ∨ s.pwr.stby = false) : exec (.pmicAck u) s = .next s.begin := by
  refine congrArg Host.Outcome.next (if_neg ?_)
  rw [show s.begin.pwr = s.pwr from rfl]
  rcases h with h | h <;> simp [h]

/-! ### What a fault leaves of a request that was withdrawn -/

/-- The request for the field, its release and the outputs' commands are withdrawn. -/
structure Withdrawn (u : State) : Prop where
  request : u.g F.SAF_FIELD_REQ = 0
  release : u.g F.GOV_MODE_RELEASE = 0
  outputs : u.g F.SAF_SOUT_CTRL_ON = 0

/-- The fields of a withdrawal. -/
def withdrawals : List Fld := [F.SAF_FIELD_REQ, F.GOV_MODE_RELEASE, F.SAF_SOUT_CTRL_ON]

theorem withdrawn_of (h : ∀ x ∈ withdrawals, t.g x = s.g x) (hs : Withdrawn s) : Withdrawn t :=
  ⟨(h _ (by simp [withdrawals])).trans hs.request, (h _ (by simp [withdrawals])).trans hs.release, (h _ (by simp [withdrawals])).trans hs.outputs⟩

theorem withdrawn_put (v : Nat) (hx : withdrawals.all (fun y => sep x y) = true) (hs : Withdrawn s) : Withdrawn (s.put x v) :=
  withdrawn_of (fun y hy => g_put_sep _ _ (List.all_eq_true.1 hx y hy)) hs

theorem withdrawn_incSat (hx : withdrawals.all (fun y => sep x y) = true) (hs : Withdrawn s) : Withdrawn (s.incSat x) :=
  withdrawn_of (fun y hy => g_incSat_sep _ (List.all_eq_true.1 hx y hy)) hs

theorem withdrawn_evt (hx : withdrawals.all (fun y => sep x y) = true) (hq : withdrawals.all (fun y => sep (F.UNIT_IRQ_STAT_EVT x.page) y) = true) (hs : Withdrawn s) :
    Withdrawn (s.evt x) :=
  withdrawn_of (fun y hy => g_evt_sep _ (List.all_eq_true.1 hx y hy) (List.all_eq_true.1 hq y hy)) hs

theorem withdrawn_event (code : Nat) (d : List Byte) (hs : Withdrawn s) : Withdrawn (s.event code d) :=
  withdrawn_of (fun y hy => event_g _ _ _ ((by decide : ∀ y ∈ withdrawals, clear recordFields y = true) y hy)) hs

theorem withdrawn_react (w : Saf) (code detail : Nat) (hs : Withdrawn s) : Withdrawn ((s.withSaf w).recordReact code detail) := by
  rw [State.recordReact]
  exact withdrawn_event _ _ (withdrawn_of (fun _ _ => withSaf_g ..) hs)

theorem withdrawn_soutLow (hk : k < 2) (hs : Withdrawn s) : Withdrawn (s.soutLow k) := by
  refine withdrawn_of (fun y hy => ?_) hs
  have h := (by decide : ∀ k < 2, ∀ y ∈ withdrawals, (F.SAF_SOUT_STAT_STATE k).apart y = true ∧ (F.SAF_SOUT_STAT_STATE k).hi < 32 ∧ groupPage y.page ≠ 0x50) k hk y hy
  exact soutLow_g _ _ h.1 h.2.1 h.2.2

theorem withdrawn_soutsOff (hs : Withdrawn s) : Withdrawn s.soutsOff :=
  withdrawn_soutLow (by decide) (withdrawn_soutLow (by decide) ⟨(g_put_sep _ _ (by decide)).trans hs.request, (g_put_sep _ _ (by decide)).trans hs.release,
    g_put_room _ (by decide)⟩)

/-- A trigger withdraws what it touches of the request. -/
theorem withdrawn_trigger (code detail : Nat) (hs : Withdrawn s) : Withdrawn (s.trigger code detail) := by
  unfold State.trigger
  extract_lets v1 w1 hiz v3 v4 v5 v6 v7 w7
  have h1 : Withdrawn v1 := withdrawn_incSat (by decide) (withdrawn_put _ (by decide) hs)
  have h4 : Withdrawn v4 := withdrawn_put _ (by decide) (withdrawn_put _ (by decide) (withdrawn_put _ (by decide) (withdrawn_put _ (by decide)
    (withdrawn_put _ (by decide) hs))))
  have h5 : Withdrawn v5 := ⟨(g_put_sep _ _ (by decide)).trans (g_put_room _ (by decide)), g_put_room _ (by decide),
    (g_put_sep _ _ (by decide)).trans ((g_put_sep _ _ (by decide)).trans h4.outputs)⟩
  have h6 : Withdrawn v6 := withdrawn_incSat (by decide) (withdrawn_evt (by decide) (by decide) (withdrawn_evt (by decide) (by decide) h5))
  have h7 : Withdrawn v7 := by
    show Withdrawn (ite _ _ _)
    split_ifs
    · exact h6
    · exact withdrawn_soutsOff (withdrawn_put _ (by decide) h6)
  split_ifs
  · exact withdrawn_put _ (by decide) (withdrawn_put _ (by decide) (withdrawn_put _ (by decide) hs))
  · exact hs
  · exact withdrawn_put _ (by decide) hs
  · exact hs
  · exact withdrawn_react _ _ _ h1
  · exact withdrawn_react _ _ _ h7

theorem withdrawn_raise (i inst : Nat) (hs : Withdrawn s) : Withdrawn (s.raise i inst) := by
  have hcore : Withdrawn (s.raiseWith i inst 0 false true) := withdrawn_of (fun y hy => by
    have h := (by decide : ∀ y ∈ withdrawals, y.page ≠ 0x70 ∧ y.page ≠ 0x71 ∧ y.off % 4096 ≠ 0x18) y hy
    exact core_g s i inst 0 false h.1 h.2.1 h.2.2) hs
  rcases raise_eq_core s i inst with he | he <;> rw [he]
  · exact hcore
  · unfold State.flintTrigger
    split_ifs
    · exact hcore
    · exact withdrawn_of (fun _ _ => withSaf_g ..) hcore
    · exact withdrawn_trigger _ _ hcore

/-- A fault with the states of the lanes that are off. -/
theorem off_reacts (s : State) (hn : n < 8) : Reacts s (fun u => u.tlst n = 0) :=
  ⟨fun {u} x v hx hu => (tlst_put u v (reacts_apart_state n hx).2 (reacts_apart_state n hx).1).trans hu,
    fun _ hu => hu, fun _ hu => hu, fun _ _ hu => hu, fun _ _ _ hu => hu, fun {u} j _ _ _ hu => (g_put_sep u 1 (sout_sep_state j n)).trans hu,
    fun {u} j hj _ _ hu => by
      rw [laneOff_tlst u hj hn]
      split_ifs
      · rfl
      · exact hu⟩

/-! ### What a fault leaves of the checkpoint -/

theorem queueRec_ckRet (s : State) (r : EvRec) : (s.queueRec r).evr.ckRet = s.evr.ckRet := by
  unfold State.queueRec
  extract_lets room
  split_ifs
  · rfl
  · rw [loseRec_evr]

theorem closeTracker_ckRet (s : State) (k : Tracker) : (s.closeTracker k).evr.ckRet = s.evr.ckRet := by
  unfold State.closeTracker
  dsimp only
  split_ifs
  · rfl
  · exact queueRec_ckRet _ _

theorem record_ckRet (s : State) (r : EvRec) : (s.record r).2.evr.ckRet = s.evr.ckRet := by
  unfold State.record
  split_ifs
  · split
    · rfl
    · refine (queueRec_ckRet _ r).trans ?_
      split
      · split_ifs
        · exact closeTracker_ckRet s _
        · rfl
      · rfl
  · exact queueRec_ckRet s r

theorem react_ckRet (s : State) (w : Saf) (code detail : Nat) : ((s.withSaf w).recordReact code detail).evr.ckRet = s.evr.ckRet :=
  record_ckRet (s.withSaf w) _

theorem trigger_ckRet (s : State) (code detail : Nat) : (s.trigger code detail).evr.ckRet = s.evr.ckRet := by
  unfold State.trigger
  extract_lets v1 w1 hiz v3 v4 v5 v6 v7 w7
  have h1 : v1.evr = s.evr := by simp only [v1, incSat_evr, put_evr]
  have h6 : v6.evr = s.evr := by simp only [v6, v5, v4, v3, incSat_evr, evt_evr, put_evr, State.inc]
  have h7 : v7.evr = v6.evr := by
    show (ite _ _ _ : State).evr = _
    split_ifs
    · rfl
    · have hs := soutsOff_fits (g := Foot.of [0x50, 0x68] [.saf, .lanes]) (v6.put F.SAF_STAT_FSTATE 4) (le_self _) (fits_refl _ _)
      exact (within_evr hs.within rfl (by decide)).trans (put_evr ..)
  split_ifs
  · simp only [put_evr]
  · rfl
  · rw [put_evr]
  · rfl
  · rw [react_ckRet, h1]
  · rw [react_ckRet, h7, h6]

/-- The fault of a side link that is lost leaves the checkpoint. -/
theorem sideLost_ckRet (s : State) : (s.raise S.SIDE_LOST 0).evr.ckRet = s.evr.ckRet := by
  have hcore : (s.raiseWith S.SIDE_LOST 0 0 false true).evr.ckRet = s.evr.ckRet := by
    unfold State.raiseWith
    extract_lets d esc e fl s1
    have h1 : s1.evr = s.evr := by
      show (ite _ _ _ : State).evr = _
      split_ifs
      · rfl
      · rfl
    split
    rename_i coal s2 heq
    have h2 : s2.evr.ckRet = s1.evr.ckRet := by
      have h := record_ckRet s1 (s1.faultRec S.SIDE_LOST 0 0 d e esc false false)
      rw [heq] at h
      exact h
    extract_lets s3 s4 s5 s6
    have h3 : s3.evr = s2.evr := by
      show (ite _ _ _ : State).evr = _
      split_ifs
      · rfl
      · exact within_evr (history_fits s2 _ _ _ _ _ (le_self _) (fits_refl _ _)).within rfl (by decide)
    have h4 : s4.evr = s3.evr := within_evr (alarmLevel_fits s3 _ (le_self _) (fits_refl _ _)).within rfl (by decide)
    have h5 : s5.evr = s4.evr := by
      show (ite _ _ _ : State).evr = _
      split_ifs
      · rw [put_evr, incSat_evr]
      · rfl
    have h6 : s6.evr = s5.evr := by
      show (ite _ _ _ : State).evr = _
      split_ifs
      · rfl
      · exact within_evr (setPending_fits (g := Foot.of [0x00, 0x70, 0x0A] [.flt]) s5 S.SIDE_LOST 0 e esc false (by decide) (by decide) (fits_refl _ _)).within rfl rfl
    rw [if_neg (by simp), h6, h5, h4, h3, h2, h1]
  rcases raise_eq_core s S.SIDE_LOST 0 with he | he <;> rw [he]
  · exact hcore
  · unfold State.flintTrigger
    split_ifs
    · exact hcore
    · exact hcore
    · rw [trigger_ckRet, hcore]

/-! ### The side link rests -/

/-- What the loss of reception writes before its fault. -/
def lossFields : List Fld := F.SIDE_STAT_RX_OK :: splitFields

/-- The loss of reception is its fields of SIDE, and a fault where the lamp splits. -/
theorem loseRx_or (s : State) : ∃ v, s.Only lossFields [.side] v ∧ (s.loseRx = v ∨ s.loseRx = v.raise S.SIDE_LOST 0) := by
  unfold State.loseRx
  extract_lets had v w u
  have hu : s.Only lossFields [.side] u := only_withSide (by simp) (only_put _ (by simp [lossFields]) (by decide) (only_refl _ _ s))
  split_ifs
  · unfold State.enterSplit
    split_ifs
    · exact ⟨split u, only_app (by simp [lossFields]) (by simp) (split_only u) hu, .inr rfl⟩
    · exact ⟨u, hu, .inl rfl⟩
  · exact ⟨u, hu, .inl rfl⟩

theorem loseRx_withdrawn (h : Withdrawn s) : Withdrawn s.loseRx := by
  obtain ⟨v, hv, he⟩ := loseRx_or s
  have hw : Withdrawn v := withdrawn_of (fun y hy => only_g hv ((by decide : ∀ y ∈ withdrawals, clear lossFields y = true) y hy)) h
  rcases he with he | he <;> rw [he]
  · exact hw
  · exact withdrawn_raise _ _ hw

theorem loseRx_off (hn : n < 8) (h : s.tlst n = 0) : s.loseRx.tlst n = 0 := by
  obtain ⟨v, hv, he⟩ := loseRx_or s
  have hw : v.tlst n = 0 := (only_g hv ((by decide : ∀ n < 8, clear lossFields (F.TL_STAT_STATE n) = true) n hn)).trans h
  rcases he with he | he <;> rw [he]
  · exact hw
  · exact (off_reacts v hn).raise _ _ id hw

theorem loseRx_ckRet (s : State) : s.loseRx.evr.ckRet = s.evr.ckRet := by
  obtain ⟨v, hv, he⟩ := loseRx_or s
  have hw : v.evr = s.evr := hv.parts.evr (by simp [Foot.of])
  rcases he with he | he <;> rw [he]
  · rw [hw]
  · rw [sideLost_ckRet, hw]

/-! ### Frames, lanes and the watchdog rest -/

theorem endFrames_stopped (s : State) : s.endFrames.tln.running = false := by
  have h0 : ((s.stopFrames.put F.CMP_STAT_COMPOSING 0).put F.CMP_STAT_REPEATING 0).tln.running = false := by
    rw [put_tln, put_tln]
    rfl
  unfold State.endFrames
  generalize (s.stopFrames.put F.CMP_STAT_COMPOSING 0).put F.CMP_STAT_REPEATING 0 = w at h0 ⊢
  refine List.foldlRecOn (motive := fun u : State => u.tln.running = false) framePages _ h0 (fun u hu p hp => ?_)
  have hfit : u.Fits (Foot.of [0x01, 0x18, 0x30, 0x50, 0x60] [.pend, .pendPages, .quartz, .cmp, .glare]) (u.landStopped p) :=
    landStopped_fits u p ((by decide : ∀ p ∈ framePages, (Foot.of [0x01, 0x18, 0x30, 0x50, 0x60] [.pend, .pendPages, .quartz, .cmp, .glare]).hasUnit (groupPage p) = true) p hp)
      (by decide) (fits_refl _ u)
  rw [within_tln hfit.within rfl (by decide)]
  exact hu

theorem lanesOff_all (s : State) (hn : n < 8) : s.lanesOff.tlst n = 0 :=
  foldl_visit (P := fun _ => True) (Q := fun u : State => u.tlst n = 0) (List.range 8) List.nodup_range (List.mem_range.2 hn)
    (fun _ _ _ _ _ => trivial) (fun u _ => (laneOff_tlst u hn hn).trans (if_pos rfl))
    (fun _ hm hne u hu => (laneOff_tlst u (List.mem_range.1 hm) hn).trans ((if_neg hne).trans hu)) trivial

/-- The frames end and every lane is off. -/
theorem lampRests_leaves (s : State) : s.endFrames.lanesOff.tln.running = false ∧ (∀ n, n < 8 → s.endFrames.lanesOff.tlst n = 0)
    ∧ s.Fits (Foot.of [0x01, 0x18, 0x30, 0x50, 0x60] [.pend, .pendPages, .quartz, .cmp, .glare, .lanes, .tln]) s.endFrames.lanesOff := by
  have hfit := lanesOff_fits (g := Foot.of [0x50] [.lanes]) s.endFrames (by decide) (fits_refl _ _)
  refine ⟨?_, fun n hn => lanesOff_all _ hn, lanesOff_fits _ (by decide) (endFrames_fits s (by decide) (fits_refl _ s))⟩
  rw [within_tln hfit.within rfl (by decide)]
  exact endFrames_stopped s

theorem fits_withdrawn {g : Foot} (h : s.Fits g t) (ha : g.any = false) (h68 : g.units.contains 0x68 = false) (h40 : g.units.contains 0x40 = false) (hs : Withdrawn s) :
    Withdrawn t := by
  refine withdrawn_of (fun y hy => fits_g h ha ?_) hs
  simp only [withdrawals, List.mem_cons, List.not_mem_nil, or_false] at hy
  rcases hy with rfl | rfl | rfl
  · exact h68
  · exact h40
  · exact h68

theorem withdrawn_settle (hs : Withdrawn s) : Withdrawn s.settle :=
  withdrawn_of (fun y hy => settle_g s ((by decide : ∀ y ∈ withdrawals, F.SAF_STAT_FSTATE.apart y = true) y hy)) hs

theorem withdrawn_terms (hs : Withdrawn s) : s.allTerms = false := by
  have h : s.on F.SAF_FIELD_REQ = false := (on_eq_false_iff rfl).2 hs.request
  rw [State.allTerms, h, Bool.and_false]

/-- With a request withdrawn FIELD_OK is neither armed nor on. -/
theorem settle_withdrawn (hs : Withdrawn s) : s.settle.g F.SAF_STAT_FSTATE ≠ 2 ∧ s.settle.g F.SAF_STAT_FSTATE ≠ 3 := by
  by_cases h : s.g F.SAF_STAT_FSTATE = 2 ∨ s.g F.SAF_STAT_FSTATE = 3
  · rw [settle_falls h (withdrawn_terms hs)]
    decide
  · have hs' : s.settle = s := by
      unfold State.settle
      rw [withdrawn_terms hs]
      dsimp only
      rw [if_neg (by simp), if_neg (by simpa using h)]
    rw [hs']
    tauto

theorem wdtSuspend_leaves (s : State) : s.wdtSuspend.on F.SAF_WDT_ARMED = false ∧ s.wdtSuspend.saf = { s.saf with lastKick := none }
    ∧ s.Only [F.SAF_WDT_ARMED] [.saf] s.wdtSuspend := by
  refine ⟨(withSaf_on ..).trans (on_put_clear _ (by decide)), ?_, only_withSaf (by simp) (only_put _ (by simp) (by decide) (only_refl _ _ s))⟩
  show ({ (s.put F.SAF_WDT_ARMED 0).saf with lastKick := none } : Saf) = _
  rw [put_saf]

/-! ### Flint's preparation -/

theorem soutCtrl_withdrawn (s : State) (h1 : s.g F.SAF_FIELD_REQ = 0) (h2 : s.g F.GOV_MODE_RELEASE = 0) : Withdrawn (s.soutCtrl 0) := by
  have honly : (s.put F.SAF_SOUT_CTRL_ON 0).Only outFields safParts ((s.put F.SAF_SOUT_CTRL_ON 0).soutsTry).settle :=
    only_settle fstate_mem (only_soutTry (List.Subset.refl _) (by decide) (only_soutTry (List.Subset.refl _) (by decide) (only_refl _ _ _)))
  refine withdrawn_of (fun y hy => only_g honly ((by decide : ∀ y ∈ withdrawals, clear outFields y = true) y hy)) ?_
  exact ⟨(g_put_sep _ _ (by decide)).trans h1, (g_put_sep _ _ (by decide)).trans h2, g_put_room _ (by decide)⟩

theorem flintPrepare_within (s : State) : s.Fits (Foot.of [0x40, 0x50, 0x68] [.saf, .lanes, .seg]) s.flintPrepare := flintPrepare_fits s (by decide) (fits_refl _ s)

theorem flintPrepare_withdrawn (s : State) : Withdrawn s.flintPrepare := by
  have h : Withdrawn (((s.put F.SAF_FIELD_REQ 0).put F.GOV_MODE_RELEASE 0).soutCtrl 0) :=
    soutCtrl_withdrawn _ ((g_put_sep _ _ (by decide)).trans (g_put_room _ (by decide))) (g_put_room _ (by decide))
  unfold State.flintPrepare
  extract_lets v
  split_ifs
  · exact fits_withdrawn (segAllOff_fits (g := Foot.of [] [.seg]) v (by decide) (fits_refl _ v)) rfl (by decide) (by decide) h
  · exact h

/-! ### SLEEP -/

/-- ACTIVE links listen. -/
def listening (s : State) : State := (List.range 2).foldl (fun s l => if s.active l then s.linkTo l 6 else s) s

theorem link_other {m : Nat} (hl : l < 2) (hm : m < 2) (h : m ≠ l) : sep (F.LNK_STAT_STATE m) (F.LNK_STAT_STATE l) = true := by
  have hall : ∀ l < 2, ∀ m < 2, m ≠ l → sep (F.LNK_STAT_STATE m) (F.LNK_STAT_STATE l) = true := by decide
  exact hall l hl m hm h

theorem listening_lst (s : State) (hl : l < 2) : (listening s).lst l = if s.lst l = 5 then 6 else s.lst l := by
  refine foldl_visit (P := fun u : State => u.lst l = s.lst l) (Q := fun u : State => u.lst l = if s.lst l = 5 then 6 else s.lst l) (List.range 2) List.nodup_range
    (List.mem_range.2 hl) (fun m hm hne u hu => ?_) (fun u hu => ?_) (fun m hm hne u hu => ?_) rfl
  · exact (ite_g (x := F.LNK_STAT_STATE l) (fun _ => linkTo_g 6 (link_other hl (List.mem_range.1 hm) hne)) (fun _ => rfl)).trans hu
  · by_cases h5 : s.lst l = 5
    · rw [if_pos (by simp [State.active, hu, h5]), if_pos h5]
      exact linkTo_lst u l (by decide)
    · rw [if_neg (by simp [State.active, hu, h5]), if_neg h5]
      exact hu
  · exact (ite_g (x := F.LNK_STAT_STATE l) (fun _ => linkTo_g 6 (link_other hl (List.mem_range.1 hm) hne)) (fun _ => rfl)).trans hu

theorem listening_fits (s : State) : s.Fits (Foot.of [0x08, 0x09] [.lnkA, .lnkB]) (listening s) :=
  fits_foldl _ _ (fun l _ u hu => fits_ite (linkTo_fits u l 6 (by decide) hu) hu) (fits_refl _ s)

/-- The side link is off. -/
def sideOff (s : State) : State := (s.put F.SIDE_STAT_STATE 0).loseRx

theorem sleepEnter_eq (s : State) : s.sleepEnter = ((((sideOff (listening s)).endFrames.lanesOff).wdtSuspend).pwrTo .sleep).settle := rfl

theorem sideOff_leaves (s : State) : (sideOff s).sst = 0 ∧ (Withdrawn s → Withdrawn (sideOff s)) ∧ s.Fits (Foot.reaction [0x0A] [.side]) (sideOff s) := by
  refine ⟨?_, fun h => loseRx_withdrawn (withdrawn_put _ (by decide) h), loseRx_fits _ (by decide) (put_fits _ (by decide) (fits_refl _ s))⟩
  exact (loseRx_reads _).2.trans (g_put_room _ (by decide))

/-- What SLEEP leaves. -/
theorem sleepEnter_leaves (hw : Withdrawn s) :
    s.sleepEnter.pwr.st = .sleep ∧ Withdrawn s.sleepEnter ∧ s.sleepEnter.g F.SAF_STAT_FSTATE ≠ 2 ∧ s.sleepEnter.g F.SAF_STAT_FSTATE ≠ 3
      ∧ s.sleepEnter.on F.SAF_WDT_ARMED = false ∧ s.sleepEnter.saf.lastKick = none ∧ (∀ l, l < 2 → s.sleepEnter.lst l = if s.lst l = 5 then 6 else s.lst l)
      ∧ s.sleepEnter.sst = 0 ∧ s.sleepEnter.tln.running = false ∧ (∀ n, n < 8 → s.sleepEnter.tlst n = 0) := by
  have hl : ∀ l, l < 2 → (listening s).lst l = if s.lst l = 5 then 6 else s.lst l := fun l hl => listening_lst s hl
  have hwl := fits_withdrawn (listening_fits s) rfl (by decide) (by decide) hw
  rw [sleepEnter_eq]
  generalize listening s = v1 at hl hwl ⊢
  obtain ⟨hside, hkeep, hfit⟩ := sideOff_leaves v1
  have hw2 := hkeep hwl
  have hl2 : ∀ l, l < 2 → (sideOff v1).lst l = v1.lst l := fun l hl =>
    fits_g hfit rfl ((by decide : ∀ l < 2, (Foot.reaction [0x0A] [.side]).units.contains (groupPage (F.LNK_STAT_STATE l).page) = false) l hl)
  generalize sideOff v1 = v2 at hside hw2 hl2 ⊢
  obtain ⟨hrun, hoff, hrest⟩ := lampRests_leaves v2
  have hw3 := fits_withdrawn hrest rfl (by decide) (by decide) hw2
  have hl3 : ∀ l, l < 2 → v2.endFrames.lanesOff.lst l = v2.lst l := fun l hl => fits_g hrest rfl ((by decide : ∀ l < 2,
    (Foot.of [0x01, 0x18, 0x30, 0x50, 0x60] [.pend, .pendPages, .quartz, .cmp, .glare, .lanes, .tln]).units.contains (groupPage (F.LNK_STAT_STATE l).page) = false) l hl)
  have hs3 : v2.endFrames.lanesOff.sst = v2.sst := fits_g hrest rfl (by decide)
  generalize v2.endFrames.lanesOff = v3 at hrun hoff hw3 hl3 hs3 ⊢
  obtain ⟨harm, hkick, honly⟩ := wdtSuspend_leaves v3
  have hw4 : Withdrawn v3.wdtSuspend := withdrawn_of (fun y hy => only_g honly ((by decide : ∀ y ∈ withdrawals, clear [F.SAF_WDT_ARMED] y = true) y hy)) hw3
  have hl4 : ∀ l, l < 2 → v3.wdtSuspend.lst l = v3.lst l := fun l hl => only_g honly ((by decide : ∀ l < 2, clear [F.SAF_WDT_ARMED] (F.LNK_STAT_STATE l) = true) l hl)
  have ht4 : ∀ n, n < 8 → v3.wdtSuspend.tlst n = v3.tlst n := fun n hn => only_g honly ((by decide : ∀ n < 8, clear [F.SAF_WDT_ARMED] (F.TL_STAT_STATE n) = true) n hn)
  have hs4 : v3.wdtSuspend.sst = v3.sst := only_g honly (by decide)
  have hr4 : v3.wdtSuspend.tln = v3.tln := honly.parts.tln (by simp [Foot.of])
  have hkick4 : v3.wdtSuspend.saf.lastKick = none := by rw [hkick]
  generalize v3.wdtSuspend = v4 at harm hkick4 hw4 hl4 ht4 hs4 hr4 ⊢
  have hw5 : Withdrawn (v4.pwrTo .sleep) := withdrawn_of (fun _ _ => pwrTo_g ..) hw4
  have hset := settle_fits (g := Foot.of [0x68] []) (v4.pwrTo .sleep) (by decide) (fits_refl _ _)
  have hkeep5 : ∀ y, F.SAF_STAT_FSTATE.apart y = true → (v4.pwrTo .sleep).settle.g y = v4.g y := fun y hy => (settle_g _ hy).trans (pwrTo_g ..)
  obtain ⟨h2, h3⟩ := settle_withdrawn hw5
  refine ⟨by rw [within_pwr hset.within rfl (by decide)]; rfl, withdrawn_settle hw5, h2, h3, (on_congr (hkeep5 _ (by decide))).trans harm,
    by rw [settle_saf, pwrTo_saf]; exact hkick4, fun l hlt => ?_, ?_, ?_, fun n hn => ?_⟩
  · exact (hkeep5 _ ((by decide : ∀ l < 2, F.SAF_STAT_FSTATE.apart (F.LNK_STAT_STATE l) = true) l hlt)).trans
      ((hl4 l hlt).trans ((hl3 l hlt).trans ((hl2 l hlt).trans (hl l hlt))))
  · exact (hkeep5 _ (by decide)).trans (hs4.trans (hs3.trans hside))
  · rw [within_tln hset.within rfl (by decide), pwrTo_tln, hr4]
    exact hrun
  · exact (hkeep5 _ ((by decide : ∀ n < 8, F.SAF_STAT_FSTATE.apart (F.TL_STAT_STATE n) = true) n hn)).trans ((ht4 n hn).trans (hoff n hn))

/-- Flint's confirmation enters the state prepared for. -/
theorem exec_prepConfirm (ly : Bool) (h : s.pwr.st = .prep) (hh : s.saf.halted = false) :
    exec (.flintPrepConfirm ly) s = .next (if s.pwr.target = 2 then s.begin.flintPrepare.sleepEnter else s.begin.flintPrepare.deepEnter ly) := by
  have hc : (decide (s.begin.pwr.st = .prep) && !s.begin.saf.halted) = true := by
    rw [show s.begin.pwr = s.pwr from rfl, show s.begin.saf.halted = s.saf.halted from rfl, h, hh]
    rfl
  have ht : s.begin.flintPrepare.pwr.target = s.pwr.target := by
    rw [within_pwr (flintPrepare_within s.begin).within rfl (by decide)]
    rfl
  refine congrArg Host.Outcome.next ((if_pos hc).trans ?_)
  show (if s.begin.flintPrepare.pwr.target = 2 then _ else _) = _
  rw [ht]

theorem prepConfirm_rests (ly : Bool) (h : s.pwr.st ≠ .prep ∨ s.saf.halted = true) : exec (.flintPrepConfirm ly) s = .next s.begin := by
  refine congrArg Host.Outcome.next (if_neg ?_)
  rw [show s.begin.pwr = s.pwr from rfl, show s.begin.saf.halted = s.saf.halted from rfl]
  rcases h with h | h <;> simp [h]

theorem begin_prepared_lst (s : State) (hl : l < 2) : s.begin.flintPrepare.lst l = s.lst l :=
  (fits_g (flintPrepare_within s.begin) rfl ((by decide : ∀ l < 2, (Foot.of [0x40, 0x50, 0x68] [.saf, .lanes, .seg]).units.contains
    (groupPage (F.LNK_STAT_STATE l).page) = false) l hl)).trans (begin_g ..)

theorem sleep_enters (ly : Bool) (h : s.pwr.st = .prep) (hh : s.saf.halted = false) (ht : s.pwr.target = 2) :
    ∃ t, exec (.flintPrepConfirm ly) s = .next t ∧ t.pwr.st = .sleep ∧ t.on F.SAF_FIELD_REQ = false ∧ t.on F.GOV_MODE_RELEASE = false
      ∧ t.g F.SAF_SOUT_CTRL_ON = 0 ∧ t.g F.SAF_STAT_FSTATE ≠ 2 ∧ t.g F.SAF_STAT_FSTATE ≠ 3
      ∧ t.on F.SAF_WDT_ARMED = false ∧ t.saf.lastKick = none ∧ (∀ l, l < 2 → t.lst l = if s.lst l = 5 then 6 else s.lst l) ∧ t.sst = 0
      ∧ t.tln.running = false ∧ (∀ n, n < 8 → t.tlst n = 0)
      ∧ s.Within (Foot.of [0x00, 0x01, 0x03, 0x08, 0x09, 0x0A, 0x0B, 0x10, 0x18, 0x30, 0x40, 0x50, 0x60, 0x68, 0x70, 0x71]
          [.pend, .pendPages, .mem, .flt, .evr, .saf, .quartz, .lnkA, .lnkB, .side, .spi, .cmp, .glare, .lanes, .tln, .flx, .seg, .thm, .pwr]) t := by
  have he := exec_prepConfirm ly h hh
  have hfit := does_within (execFlintPrepConfirm_fits ly s) he
  rw [if_pos ht] at he hfit
  obtain ⟨h1, h2, h3, h4, h5, h6, h7, h8, h9, h10⟩ := sleepEnter_leaves (flintPrepare_withdrawn s.begin)
  refine ⟨_, he, h1, (on_eq_false_iff rfl).2 h2.request, (on_eq_false_iff rfl).2 h2.release, h2.outputs, h3, h4, h5, h6, fun l hl => ?_, h8, h9, h10, hfit⟩
  rw [h7 l hl, begin_prepared_lst s hl]

/-! ### What an entry saves -/

theorem writeRec_quiet (s : State) (r : EvRec) (rest : List EvRec) (h : writeQuiet x = true) : (s.writeRec r rest).g x = s.g x := by
  rw [writeRec_sends, sentTo_quiet _ h (by decide), sentTo_quiet _ h (by decide), inPlace_g s rest h]

theorem drainQueue_quiet (h : writeQuiet x = true) : ∀ (n : Nat) (s : State), (State.drainQueue n s).g x = s.g x
  | 0, _ => rfl
  | n + 1, s => by
    unfold State.drainQueue
    split
    · rfl
    · exact (drainQueue_quiet h n _).trans (writeRec_quiet s _ _ h)

/-- The saves after the checkpoint. -/
def flashSaves (s : State) : State :=
  if s.on F.THM_STAT_FLASH_OK then
    let s := s.checkpointFlash.writeFluxRecord
    if s.on F.EVR_CTRL_MIRROR_EN then s.mirrorPage s.evr.waiting.length else s
  else s

theorem entrySaves_eq (s : State) : s.entrySaves = flashSaves (State.drainQueue 64 s).checkpointRet := rfl

theorem flashSaves_fits (s : State) : s.Fits (Foot.of [0x71] [.mem, .evr, .flx, .thm]) (flashSaves s) := by
  have h : s.Fits (Foot.of [0x71] [.mem, .evr, .flx, .thm]) s.checkpointFlash.writeFluxRecord :=
    writeFluxRecord_fits _ (by decide) (checkpointFlash_fits s (by decide) (fits_refl _ s))
  exact fits_ite (fits_ite (mirrorPage_fits _ _ (by decide) h) h) (fits_refl _ s)

/-- A field that the saves leave. -/
theorem entrySaves_quiet (s : State) (h : writeQuiet x = true) (hp : (Foot.of [0x71] [.mem, .evr, .flx, .thm]).units.contains (groupPage x.page) = false) :
    s.entrySaves.g x = s.g x := by
  rw [entrySaves_eq, fits_g (flashSaves_fits _) rfl hp, State.checkpointRet, withEvr_g, drainQueue_quiet h]

theorem mirrorPage_ckRet (s : State) (n : Nat) : (s.mirrorPage n).evr.ckRet = s.evr.ckRet := by
  unfold State.mirrorPage
  extract_lets page e v
  have hfit : v.Fits (Foot.of [0x71] [.mem]) (page.foldl (fun s q => s.mirrorRec q) v) :=
    fits_foldl _ _ (fun q _ u hu => mirrorRec_fits u q (by decide) hu) (fits_refl _ v)
  rw [within_evr hfit.within rfl (by decide)]
  rfl

theorem checkpointFlash_ckRet (s : State) : s.checkpointFlash.evr.ckRet = s.evr.ckRet := by
  unfold State.checkpointFlash
  split_ifs <;> rfl

theorem flashSaves_ckRet (s : State) : (flashSaves s).evr.ckRet = s.evr.ckRet := by
  have h : s.checkpointFlash.writeFluxRecord.evr.ckRet = s.evr.ckRet := by
    rw [within_evr (writeFluxRecord_fits (g := Foot.of [] [.flx, .thm]) s.checkpointFlash (by decide) (fits_refl _ _)).within rfl (by decide)]
    exact checkpointFlash_ckRet s
  unfold flashSaves
  dsimp only
  split_ifs
  · exact (mirrorPage_ckRet _ _).trans h
  · exact h
  · rfl

/-- The entry's saves hold a checkpoint, and leave the power domain but for the sticky fields. -/
theorem saves_leave (s : State) : s.entrySaves.saveSticky.evr.ckRet.isSome = true ∧ s.entrySaves.saveSticky.pwr = { s.pwr with saved := s.entrySaves.saveSticky.pwr.saved }
    ∧ (∀ y, s.entrySaves.saveSticky.g y = s.entrySaves.g y) := by
  have hp : s.entrySaves.pwr = s.pwr := within_pwr (entrySaves_fits (g := Foot.of [0x08, 0x09, 0x10, 0x70, 0x71] [.mem, .evr, .lnkA, .lnkB, .spi, .flx, .thm]) s
    (by decide) (fits_refl _ s)).within rfl (by decide)
  have hc : s.entrySaves.evr.ckRet = some (State.drainQueue 64 s).checkpointNow := by
    rw [entrySaves_eq, flashSaves_ckRet]
    rfl
  generalize s.entrySaves = w at hp hc ⊢
  refine ⟨?_, ?_, fun _ => withPwr_g ..⟩
  · rw [State.saveSticky, withPwr_evr, hc]
    rfl
  · rw [← hp]
    rfl

/-! ### The links and the side link in DEEP -/

/-- One link enters DEEP_LINK. -/
def deepLink (s : State) (l : Nat) : State :=
  if decide (1 ≤ s.lst l) && decide (s.lst l ≤ 6) then ((s.linkTo l 7).put (F.LNK_STAT_SIG_DET l) 0).setLock l false else s

/-- The side link enters DEEP_LINK. -/
def deepSide (s : State) : State := if s.sst = 0 then s else s.sideTo 7

theorem linksDeep_eq (s : State) : s.linksDeep = deepSide ((List.range 2).foldl deepLink s) := rfl

/-- The fields that a link's entry writes. -/
def deepFields (l : Nat) : List Fld :=
  [F.LNK_STAT_STATE l, F.LNK_STAT_SIG_DET l, F.LNK_STAT_CDR_LOCK l, lockFld l, F.CLK_FREQ_ERR_VALID]

theorem deepLink_only (hl : l < 2) (s : State) : s.Only (deepFields l) [.lnkA, .lnkB, .quartz] (deepLink s l) := by
  have hp : [lnkPart l] ⊆ [Part.lnkA, .lnkB, .quartz] := (by decide : ∀ l < 2, [lnkPart l] ⊆ [Part.lnkA, .lnkB, .quartz]) l hl
  refine only_ite (fun _ => ?_) (fun _ => only_refl _ _ s)
  exact only_app (by simp [deepFields]) (by simp) (setLock_only _ l false)
    (only_put _ (by simp [deepFields]) (by simp [F.LNK_STAT_SIG_DET]) (only_mono (by simp [deepFields]) hp (linkTo_only hl s 7)))

theorem deepLink_lst (hl : l < 2) (h1 : 1 ≤ s.lst l) (h6 : s.lst l ≤ 6) : (deepLink s l).lst l = 7 := by
  have hc : (decide (1 ≤ s.lst l) && decide (s.lst l ≤ 6)) = true := by simp [h1, h6]
  rw [deepLink, if_pos hc]
  refine (only_g (setLock_only _ l false) ?_).trans ((g_put_sep _ _ ?_).trans (linkTo_lst s l (by decide)))
  · exact (by decide : ∀ l < 2, clear [F.LNK_STAT_CDR_LOCK l, lockFld l, F.CLK_FREQ_ERR_VALID] (F.LNK_STAT_STATE l) = true) l hl
  · exact (by decide : ∀ l < 2, sep (F.LNK_STAT_SIG_DET l) (F.LNK_STAT_STATE l) = true) l hl

theorem deepLinks_lst (hl : l < 2) (h1 : 1 ≤ s.lst l) (h6 : s.lst l ≤ 6) : ((List.range 2).foldl deepLink s).lst l = 7 := by
  have hother : ∀ m ∈ List.range 2, m ≠ l → ∀ u : State, (deepLink u m).lst l = u.lst l := fun m hm hne u =>
    only_g (deepLink_only (List.mem_range.1 hm) u) ((by decide : ∀ l < 2, ∀ m < 2, m ≠ l → clear (deepFields m) (F.LNK_STAT_STATE l) = true) l hl m (List.mem_range.1 hm) hne)
  exact foldl_visit (P := fun u : State => u.lst l = s.lst l) (Q := fun u : State => u.lst l = 7) (List.range 2) List.nodup_range (List.mem_range.2 hl)
    (fun m hm hne u hu => (hother m hm hne u).trans hu) (fun u hu => deepLink_lst hl (by rw [hu]; exact h1) (by rw [hu]; exact h6))
    (fun m hm hne u hu => (hother m hm hne u).trans hu) rfl

theorem deepLinks_only (s : State) : s.Only (deepFields 0 ++ deepFields 1) [.lnkA, .lnkB, .quartz] ((List.range 2).foldl deepLink s) :=
  only_foldl _ _ (fun l hl _ hu => only_app ((by decide : ∀ l < 2, deepFields l ⊆ deepFields 0 ++ deepFields 1) l (List.mem_range.1 hl)) (by simp)
    (deepLink_only (List.mem_range.1 hl) _) hu) (only_refl _ _ s)

theorem deepSide_or (s : State) : s.Only [F.SIDE_STAT_STATE] [] (deepSide s) ∨ ∃ v, s.Only [F.SIDE_STAT_STATE] [] v ∧ deepSide s = v.loseRx := by
  have hput : s.Only [F.SIDE_STAT_STATE] [] (s.put F.SIDE_STAT_STATE 7) := only_put _ (by simp) (by decide) (only_refl _ _ s)
  unfold deepSide State.sideTo
  dsimp only
  split_ifs
  · exact .inl (only_refl _ _ s)
  · exact .inr ⟨_, hput, rfl⟩
  · exact .inl hput

/-- What the side link's entry leaves. -/
theorem deepSide_leaves (s : State) : (Withdrawn s → Withdrawn (deepSide s)) ∧ (∀ n, n < 8 → s.tlst n = 0 → (deepSide s).tlst n = 0)
    ∧ (deepSide s).evr.ckRet = s.evr.ckRet ∧ s.Fits (Foot.reaction [0x0A] [.side]) (deepSide s) := by
  have hw : ∀ v, s.Only [F.SIDE_STAT_STATE] [] v → (Withdrawn s → Withdrawn v) ∧ (∀ n, n < 8 → s.tlst n = 0 → v.tlst n = 0) ∧ v.evr.ckRet = s.evr.ckRet := fun v hv =>
    ⟨withdrawn_of (fun y hy => only_g hv ((by decide : ∀ y ∈ withdrawals, clear [F.SIDE_STAT_STATE] y = true) y hy)),
      fun n hn h => (only_g hv ((by decide : ∀ n < 8, clear [F.SIDE_STAT_STATE] (F.TL_STAT_STATE n) = true) n hn)).trans h, by rw [hv.parts.evr (by simp [Foot.of])]⟩
  have hfit : s.Fits (Foot.reaction [0x0A] [.side]) (deepSide s) := by
    have hput : s.Fits (Foot.reaction [0x0A] [.side]) (s.put F.SIDE_STAT_STATE 7) := put_fits _ (by decide) (fits_refl _ s)
    exact fits_ite (fits_refl _ s) (fits_ite (loseRx_fits _ (by decide) hput) hput)
  rcases deepSide_or s with h | ⟨v, hv, he⟩
  · obtain ⟨h1, h2, h3⟩ := hw _ h
    exact ⟨h1, h2, h3, hfit⟩
  · obtain ⟨h1, h2, h3⟩ := hw _ hv
    rw [he]
    exact ⟨fun h => loseRx_withdrawn (h1 h), fun n hn h => loseRx_off hn (h2 n hn h), (loseRx_ckRet v).trans h3, he ▸ hfit⟩

/-! ### The outputs and the pads -/

/-- FIELD_OK is released and the outputs are low. -/
def outputsOff (s : State) : State := (s.put F.SAF_STAT_FSTATE 0).soutsOff

/-- The balls low and the pads latched. -/
def padsLatched (s : State) : State :=
  let s : State := (s.withSaf { s.saf with tpo := none }).withSeg { s.seg with high := none }
  (s.put F.PWR_STAT_PADS_LATCHED 1).wdtSuspend

/-- PMIC_STBY rises unless WAKE is high. -/
def standbyRaised (s : State) : State :=
  let s := s.pwrTo .ackEntry
  s.withPwr { s.pwr with stby := !s.pwr.wake }

theorem entryOff_eq (s : State) : s.entryOff = standbyRaised (padsLatched (outputsOff (s.endFrames.lanesOff.rootGate 1).linksDeep)) := rfl

theorem soutLow_off (s : State) (k : Nat) (hn : n < 8) (h : s.tlst n = 0) : (s.soutLow k).tlst n = 0 := by
  unfold State.soutLow
  extract_lets w0 v w
  have hw : w.tlst n = 0 := by
    refine (ite_g (x := F.TL_STAT_STATE n) (fun _ => g_put_sep _ _ (sout_sep_state k n)) (fun _ => rfl)).trans ?_
    exact (withSaf_g ..).trans h
  refine List.foldlRecOn (motive := fun u : State => u.tlst n = 0) (List.range 8) _ hw (fun u hu j hj => ?_)
  split_ifs
  · rw [laneOff_tlst u (List.mem_range.1 hj) hn]
    split_ifs
    · rfl
    · exact hu
  · exact hu

theorem outputsOff_leaves (s : State) : (outputsOff s).g F.SAF_STAT_FSTATE = 0 ∧ (∀ k, k < 2 → (outputsOff s).saf.souts.getD k Sout.init = Sout.init)
    ∧ (Withdrawn s → Withdrawn (outputsOff s)) ∧ (∀ n, n < 8 → s.tlst n = 0 → (outputsOff s).tlst n = 0) ∧ s.Fits (Foot.of [0x50, 0x68] [.saf, .lanes]) (outputsOff s) := by
  have hk : ∀ (u : State) (k : Nat), k < 2 → (u.soutLow k).g F.SAF_STAT_FSTATE = u.g F.SAF_STAT_FSTATE := fun u k hk => by
    have h := (by decide : ∀ k < 2, (F.SAF_SOUT_STAT_STATE k).apart F.SAF_STAT_FSTATE = true ∧ (F.SAF_SOUT_STAT_STATE k).hi < 32) k hk
    exact soutLow_g _ _ h.1 h.2 (by decide)
  have hput : s.Only [F.SAF_STAT_FSTATE, F.SAF_SOUT_CTRL_ON] [] ((s.put F.SAF_STAT_FSTATE 0).put F.SAF_SOUT_CTRL_ON 0) :=
    only_put _ (by simp) (by decide) (only_put _ (by simp) (by decide) (only_refl _ _ s))
  have hlow : ((s.put F.SAF_STAT_FSTATE 0).put F.SAF_SOUT_CTRL_ON 0).g F.SAF_STAT_FSTATE = 0 := (g_put_sep _ _ (by decide)).trans (g_put_room _ (by decide))
  have hkeep : Withdrawn s → Withdrawn (outputsOff s) := fun h => withdrawn_soutsOff (withdrawn_put _ (by decide) h)
  have hfit : s.Fits (Foot.of [0x50, 0x68] [.saf, .lanes]) (outputsOff s) := soutsOff_fits _ (by decide) (put_fits _ (by decide) (fits_refl _ s))
  have heq : outputsOff s = (((s.put F.SAF_STAT_FSTATE 0).put F.SAF_SOUT_CTRL_ON 0).soutLow 0).soutLow 1 := rfl
  rw [heq] at hkeep hfit ⊢
  generalize (s.put F.SAF_STAT_FSTATE 0).put F.SAF_SOUT_CTRL_ON 0 = w at hput hlow hkeep hfit ⊢
  refine ⟨(hk _ 1 (by decide)).trans ((hk _ 0 (by decide)).trans hlow), fun k hk' => ?_, hkeep, fun n hn h => ?_, hfit⟩
  · have h01 : k = 0 ∨ k = 1 := by omega
    rcases h01 with rfl | rfl
    · rw [soutLow_saf]
      exact getD_set_init _ 1 0 (soutLow_sout _ 0)
    · exact soutLow_sout _ 1
  · refine soutLow_off _ 1 hn (soutLow_off _ 0 hn ((only_g hput ?_).trans h))
    exact (by decide : ∀ n < 8, clear [F.SAF_STAT_FSTATE, F.SAF_SOUT_CTRL_ON] (F.TL_STAT_STATE n) = true) n hn

theorem padsLatched_leaves (s : State) : (padsLatched s).on F.PWR_STAT_PADS_LATCHED = true ∧ (padsLatched s).on F.SAF_WDT_ARMED = false
    ∧ (padsLatched s).saf.souts = s.saf.souts ∧ s.Only [F.PWR_STAT_PADS_LATCHED, F.SAF_WDT_ARMED] [.saf, .seg] (padsLatched s) := by
  unfold padsLatched
  extract_lets a b v
  have hv : s.Only [F.PWR_STAT_PADS_LATCHED, F.SAF_WDT_ARMED] [.saf, .seg] v := only_withSeg (by simp) (only_withSaf (by simp) (only_refl _ _ s))
  have hp : s.Only [F.PWR_STAT_PADS_LATCHED, F.SAF_WDT_ARMED] [.saf, .seg] (v.put F.PWR_STAT_PADS_LATCHED 1) := only_put _ (by simp) (by decide) hv
  have hs : (v.put F.PWR_STAT_PADS_LATCHED 1).saf.souts = s.saf.souts := by
    rw [put_saf]
    rfl
  have hpad : (v.put F.PWR_STAT_PADS_LATCHED 1).on F.PWR_STAT_PADS_LATCHED = true := on_put_set _ (by decide)
  generalize v.put F.PWR_STAT_PADS_LATCHED 1 = w at hp hs hpad ⊢
  obtain ⟨h1, h2, h3⟩ := wdtSuspend_leaves w
  exact ⟨(only_on h3 (by decide)).trans hpad, h1, by rw [h2]; exact hs, only_app (by simp) (by simp) h3 hp⟩

/-! ### DEEP and OFF -/

/-- The root is gated, and the links rest. -/
theorem linksRest_leaves (s : State) : (s.rootGate 1).linksDeep.on F.CLK_STAT_ROOT_OK = false
    ∧ (∀ l, l < 2 → 1 ≤ s.lst l → s.lst l ≤ 6 → (s.rootGate 1).linksDeep.lst l = 7) ∧ (Withdrawn s → Withdrawn (s.rootGate 1).linksDeep)
    ∧ (∀ n, n < 8 → s.tlst n = 0 → (s.rootGate 1).linksDeep.tlst n = 0) ∧ (s.rootGate 1).linksDeep.evr.ckRet = s.evr.ckRet := by
  have hok := (rootGate_reads s).2.1
  have hfit := rootGate_fits (g := Foot.of [0x01, 0x0B] [.quartz]) s 1 (by decide) (fits_refl _ s)
  have hg : ∀ y, (Foot.of [0x01, 0x0B] [.quartz]).units.contains (groupPage y.page) = false → (s.rootGate 1).g y = s.g y := fun y hy => fits_g hfit rfl hy
  have hw := fits_withdrawn hfit rfl (by decide) (by decide) (s := s)
  have he : (s.rootGate 1).evr = s.evr := within_evr hfit.within rfl (by decide)
  rw [linksDeep_eq]
  generalize s.rootGate 1 = v at hok hg hw he ⊢
  have ho := deepLinks_only v
  have hl : ∀ l, l < 2 → 1 ≤ v.lst l → v.lst l ≤ 6 → ((List.range 2).foldl deepLink v).lst l = 7 := fun l hl h1 h6 => deepLinks_lst hl h1 h6
  generalize (List.range 2).foldl deepLink v = u at ho hl ⊢
  obtain ⟨hkeep, hoff, hck, hside⟩ := deepSide_leaves u
  have hlv : ∀ l, l < 2 → v.lst l = s.lst l := fun l hl => hg _ ((by decide : ∀ l < 2, (Foot.of [0x01, 0x0B] [.quartz]).units.contains
    (groupPage (F.LNK_STAT_STATE l).page) = false) l hl)
  refine ⟨?_, fun l hlt h1 h6 => ?_, fun h => hkeep ?_, fun n hn h => hoff n hn ?_, ?_⟩
  · exact (on_congr (fits_g hside rfl (by decide))).trans ((only_on ho (by decide)).trans hok)
  · exact (fits_g hside rfl ((by decide : ∀ l < 2, (Foot.reaction [0x0A] [.side]).units.contains (groupPage (F.LNK_STAT_STATE l).page) = false) l hlt)).trans
      (hl l hlt (by rwa [hlv l hlt]) (by rwa [hlv l hlt]))
  · exact withdrawn_of (fun y hy => only_g ho ((by decide : ∀ y ∈ withdrawals, clear (deepFields 0 ++ deepFields 1) y = true) y hy)) (hw h)
  · refine (only_g ho ((by decide : ∀ n < 8, clear (deepFields 0 ++ deepFields 1) (F.TL_STAT_STATE n) = true) n hn)).trans ((hg _ ?_).trans h)
    exact (by decide : ∀ n < 8, (Foot.of [0x01, 0x0B] [.quartz]).units.contains (groupPage (F.TL_STAT_STATE n).page) = false) n hn
  · rw [hck, ho.parts.evr (by simp [Foot.of]), he]

/-- What the entry's last steps leave. -/
structure Entered (s t : State) : Prop where
  power : t.pwr = { s.pwr with st := .ackEntry, since := s.now, stby := !s.pwr.wake }
  root : t.on F.CLK_STAT_ROOT_OK = false
  fieldState : t.g F.SAF_STAT_FSTATE = 0
  withdrawn : Withdrawn t
  pads : t.on F.PWR_STAT_PADS_LATCHED = true
  watchdog : t.on F.SAF_WDT_ARMED = false
  outputs : ∀ k, k < 2 → t.saf.souts.getD k Sout.init = Sout.init
  links : ∀ l, l < 2 → 1 ≤ s.lst l → s.lst l ≤ 6 → t.lst l = 7
  lanes : ∀ n, n < 8 → t.tlst n = 0
  frames : t.tln.running = false
  checkpoint : t.evr.ckRet = s.evr.ckRet

theorem standbyRaised_pwr (s : State) : (standbyRaised s).pwr = { s.pwr with st := .ackEntry, since := s.now, stby := !s.pwr.wake } := rfl

theorem standbyRaised_g (s : State) (y : Fld) : (standbyRaised s).g y = s.g y := (withPwr_g ..).trans (pwrTo_g ..)

theorem entryOff_leaves (hw : Withdrawn s) : Entered s s.entryOff := by
  rw [entryOff_eq]
  obtain ⟨hrun, hoff, hrest⟩ := lampRests_leaves s
  have hw1 := fits_withdrawn hrest rfl (by decide) (by decide) hw
  have hl1 : ∀ l, l < 2 → s.endFrames.lanesOff.lst l = s.lst l := fun l hl => fits_g hrest rfl ((by decide : ∀ l < 2,
    (Foot.of [0x01, 0x18, 0x30, 0x50, 0x60] [.pend, .pendPages, .quartz, .cmp, .glare, .lanes, .tln]).units.contains (groupPage (F.LNK_STAT_STATE l).page) = false) l hl)
  have hp1 : s.endFrames.lanesOff.pwr = s.pwr := within_pwr hrest.within rfl (by decide)
  have hn1 : s.endFrames.lanesOff.now = s.now := within_now hrest.within rfl (by decide)
  have he1 : s.endFrames.lanesOff.evr = s.evr := within_evr hrest.within rfl (by decide)
  generalize s.endFrames.lanesOff = v1 at hrun hoff hw1 hl1 hp1 hn1 he1 ⊢
  obtain ⟨hok, hlinks, hkeep, hdark, hck⟩ := linksRest_leaves v1
  have hfit2 : v1.Fits (Foot.of [0x00, 0x01, 0x08, 0x09, 0x0A, 0x0B, 0x40, 0x50, 0x68, 0x70, 0x71] [.flt, .evr, .saf, .quartz, .lnkA, .lnkB, .side, .lanes])
      (v1.rootGate 1).linksDeep := linksDeep_fits _ (by decide) (rootGate_fits v1 1 (by decide) (fits_refl _ v1))
  have hp2 : (v1.rootGate 1).linksDeep.pwr = v1.pwr := within_pwr hfit2.within rfl (by decide)
  have hn2 : (v1.rootGate 1).linksDeep.now = v1.now := within_now hfit2.within rfl (by decide)
  have ht2 : (v1.rootGate 1).linksDeep.tln = v1.tln := within_tln hfit2.within rfl (by decide)
  generalize (v1.rootGate 1).linksDeep = v2 at hok hlinks hkeep hdark hck hp2 hn2 ht2 ⊢
  obtain ⟨hfs, hso, hkeep3, hdark3, hfit3⟩ := outputsOff_leaves v2
  have hp3 : (outputsOff v2).pwr = v2.pwr := within_pwr hfit3.within rfl (by decide)
  have hn3 : (outputsOff v2).now = v2.now := within_now hfit3.within rfl (by decide)
  have ht3 : (outputsOff v2).tln = v2.tln := within_tln hfit3.within rfl (by decide)
  have he3 : (outputsOff v2).evr = v2.evr := within_evr hfit3.within rfl (by decide)
  have hok3 : (outputsOff v2).on F.CLK_STAT_ROOT_OK = v2.on F.CLK_STAT_ROOT_OK := on_congr (fits_g hfit3 rfl (by decide))
  have hl3 : ∀ l, l < 2 → (outputsOff v2).lst l = v2.lst l := fun l hl => fits_g hfit3 rfl ((by decide : ∀ l < 2,
    (Foot.of [0x50, 0x68] [.saf, .lanes]).units.contains (groupPage (F.LNK_STAT_STATE l).page) = false) l hl)
  generalize outputsOff v2 = v3 at hfs hso hkeep3 hdark3 hp3 hn3 ht3 he3 hok3 hl3 ⊢
  obtain ⟨hpad, hwdt, hso4, ho4⟩ := padsLatched_leaves v3
  have hg4 : ∀ y, clear [F.PWR_STAT_PADS_LATCHED, F.SAF_WDT_ARMED] y = true → (padsLatched v3).g y = v3.g y := fun y hy => only_g ho4 hy
  have hp4 : (padsLatched v3).pwr = v3.pwr := ho4.parts.pwr (by simp [Foot.of])
  have hn4 : (padsLatched v3).now = v3.now := ho4.parts.now (by simp [Foot.of])
  have ht4 : (padsLatched v3).tln = v3.tln := ho4.parts.tln (by simp [Foot.of])
  have he4 : (padsLatched v3).evr = v3.evr := ho4.parts.evr (by simp [Foot.of])
  generalize padsLatched v3 = v4 at hpad hwdt hso4 hg4 hp4 hn4 ht4 he4 ⊢
  have hg5 : ∀ y, (standbyRaised v4).g y = v4.g y := standbyRaised_g v4
  have hpe : v4.pwr = s.pwr := hp4.trans (hp3.trans (hp2.trans hp1))
  have hne : v4.now = s.now := hn4.trans (hn3.trans (hn2.trans hn1))
  exact {
    power := by rw [standbyRaised_pwr, hpe, hne]
    root := (on_congr ((hg5 _).trans (hg4 _ (by decide)))).trans (hok3.trans hok)
    fieldState := (hg5 _).trans ((hg4 _ (by decide)).trans hfs)
    withdrawn := withdrawn_of (fun y hy => (hg5 y).trans (hg4 y ((by decide : ∀ y ∈ withdrawals, clear [F.PWR_STAT_PADS_LATCHED, F.SAF_WDT_ARMED] y = true) y hy)))
      (hkeep3 (hkeep hw1))
    pads := (on_congr (hg5 _)).trans hpad
    watchdog := (on_congr (hg5 _)).trans hwdt
    outputs := fun k hk => (congrArg (fun a : List Sout => a.getD k Sout.init) hso4).trans (hso k hk)
    links := fun l hl h1 h6 => (hg5 _).trans ((hg4 _ ((by decide : ∀ l < 2, clear [F.PWR_STAT_PADS_LATCHED, F.SAF_WDT_ARMED] (F.LNK_STAT_STATE l) = true) l hl)).trans
      ((hl3 l hl).trans (hlinks l hl (by rwa [hl1 l hl]) (by rwa [hl1 l hl]))))
    lanes := fun n hn => (hg5 _).trans ((hg4 _ ((by decide : ∀ n < 8, clear [F.PWR_STAT_PADS_LATCHED, F.SAF_WDT_ARMED] (F.TL_STAT_STATE n) = true) n hn)).trans
      (hdark3 n hn (hdark n hn (hoff n hn))))
    frames := (congrArg Tln.running (ht4.trans (ht3.trans ht2))).trans hrun
    checkpoint := (congrArg Evr.ckRet (he4.trans he3)).trans (hck.trans (congrArg Evr.ckRet he1)) }

/-- The saves of an entry stand over Flint's preparation. -/
theorem saved_leaves (s : State) (hw : Withdrawn s) : Withdrawn s.entrySaves.saveSticky ∧ s.entrySaves.saveSticky.pwr.wake = s.pwr.wake
    ∧ s.entrySaves.saveSticky.pwr.target = s.pwr.target ∧ (∀ l, l < 2 → s.entrySaves.saveSticky.lst l = s.lst l) := by
  obtain ⟨-, hp, hg⟩ := saves_leave s
  have hfit := entrySaves_fits (g := Foot.of [0x08, 0x09, 0x10, 0x70, 0x71] [.mem, .evr, .lnkA, .lnkB, .spi, .flx, .thm]) s (by decide) (fits_refl _ s)
  refine ⟨withdrawn_of (fun y _ => hg y) (fits_withdrawn hfit rfl (by decide) (by decide) hw), by rw [hp], by rw [hp], fun l hl => (hg _).trans ?_⟩
  have hq := (by decide : ∀ l < 2, writeQuiet (F.LNK_STAT_STATE l) = true ∧ (Foot.of [0x71] [.mem, .evr, .flx, .thm]).units.contains
    (groupPage (F.LNK_STAT_STATE l).page) = false) l hl
  exact entrySaves_quiet s hq.1 hq.2

theorem deep_enters (h : s.pwr.st = .prep) (hh : s.saf.halted = false) (ht : s.pwr.target = 3 ∨ s.pwr.target = 4) :
    ∃ t, exec (.flintPrepConfirm true) s = .next t ∧ t.pwr.st = .ackEntry ∧ t.pwr.stby = !s.pwr.wake ∧ t.pwr.lyState = s.pwr.target - 2
      ∧ t.evr.ckRet.isSome = true ∧ t.on F.CLK_STAT_ROOT_OK = false ∧ t.g F.SAF_STAT_FSTATE = 0 ∧ t.on F.SAF_FIELD_REQ = false
      ∧ t.on F.PWR_STAT_PADS_LATCHED = true ∧ t.on F.SAF_WDT_ARMED = false ∧ (∀ k, k < 2 → t.saf.souts.getD k Sout.init = Sout.init)
      ∧ (∀ l, l < 2 → 1 ≤ s.lst l → s.lst l ≤ 6 → t.lst l = 7) ∧ (∀ n, n < 8 → t.tlst n = 0) ∧ t.tln.running = false := by
  have he := exec_prepConfirm true h hh
  rw [if_neg (by omega)] at he
  have hfp := within_pwr (flintPrepare_within s.begin).within rfl (by decide)
  have hp : s.begin.flintPrepare.pwr = s.pwr := hfp.trans (begin_pwr s)
  have hl : ∀ l, l < 2 → s.begin.flintPrepare.lst l = s.lst l := fun l hl => begin_prepared_lst s hl
  have hw := flintPrepare_withdrawn s.begin
  generalize s.begin.flintPrepare = f at he hp hl hw
  obtain ⟨hck, -, -⟩ := saves_leave f
  obtain ⟨hw2, hwake, htarget, hl2⟩ := saved_leaves f hw
  have hdeep : f.deepEnter true = f.entrySaves.saveSticky.entryOff.withPwr
      { f.entrySaves.saveSticky.entryOff.pwr with lyState := f.entrySaves.saveSticky.pwr.target - 2 } := rfl
  rw [hdeep] at he
  generalize f.entrySaves.saveSticky = v at he hck hw2 hwake htarget hl2
  have hE := entryOff_leaves hw2
  generalize v.entryOff = t at he hE
  refine ⟨_, he, ?_, ?_, ?_, ?_, (withPwr_on ..).trans hE.root, (withPwr_g ..).trans hE.fieldState,
    (withPwr_on ..).trans ((on_eq_false_iff rfl).2 hE.withdrawn.request), (withPwr_on ..).trans hE.pads, (withPwr_on ..).trans hE.watchdog, hE.outputs, fun l hlt h1 h6 => ?_,
    fun n hn => (withPwr_g ..).trans (hE.lanes n hn), hE.frames⟩
  · show t.pwr.st = _
    rw [hE.power]
  · show t.pwr.stby = _
    rw [hE.power, ← hp, ← hwake]
  · show v.pwr.target - 2 = _
    rw [htarget, hp]
  · show t.evr.ckRet.isSome = true
    rw [hE.checkpoint]
    exact hck
  · exact (withPwr_g ..).trans (hE.links l hlt (by rwa [hl2 l hlt, hl l hlt]) (by rwa [hl2 l hlt, hl l hlt]))

/-- Without the PMIC's acknowledgement of LY_STATE the device is back in RUN. -/
theorem deep_fails (h : s.pwr.st = .prep) (hh : s.saf.halted = false) (ht : s.pwr.target = 3 ∨ s.pwr.target = 4) :
    ∃ t, exec (.flintPrepConfirm false) s = .next t ∧ t.pwr.st = .run ∧ t.on F.PWR_EVT_ACK_TMO = true ∧ t.on F.PWR_EVT_PMB_ERR = true
      ∧ t.g F.PWR_PMB_STAT_ERR_CNT = min F.PWR_PMB_STAT_ERR_CNT.top (s.g F.PWR_PMB_STAT_ERR_CNT + 1)
      ∧ (s.defLevel S.PWR_ACK_TMO ≠ 0 → t.on (fltPend S.PWR_ACK_TMO) = true) := by
  have he := exec_prepConfirm false h hh
  rw [if_neg (by omega)] at he
  have hdef : s.begin.flintPrepare.defLevel S.PWR_ACK_TMO = s.defLevel S.PWR_ACK_TMO :=
    fits_defLevel (flintPrepare_fits (g := Foot.of [0x40, 0x50, 0x68] [.flt, .saf, .lanes, .seg]) s.begin (by decide) (begin_fits s (by decide) (fits_refl _ s))) rfl (by decide) _
  have hcnt : s.begin.flintPrepare.g F.PWR_PMB_STAT_ERR_CNT = s.g F.PWR_PMB_STAT_ERR_CNT := (fits_g (flintPrepare_within s.begin) rfl (by decide)).trans (begin_g ..)
  generalize s.begin.flintPrepare = f at he hdef hcnt
  have hq : ∀ y ∈ [F.FLT_CTRL_MODE, fltSev S.PWR_ACK_TMO, F.PWR_PMB_STAT_ERR_CNT], f.entrySaves.saveSticky.g y = f.g y := fun y hy => by
    have h := (by decide : ∀ y ∈ [F.FLT_CTRL_MODE, fltSev S.PWR_ACK_TMO, F.PWR_PMB_STAT_ERR_CNT], writeQuiet y = true ∧ (Foot.of [0x71] [.mem, .evr, .flx, .thm]).units.contains
      (groupPage y.page) = false) y hy
    exact ((saves_leave f).2.2 y).trans (entrySaves_quiet f h.1 h.2)
  have hdeep : f.deepEnter false = ((f.entrySaves.saveSticky.pwrTo .run).evt F.PWR_EVT_ACK_TMO).pmbFail := rfl
  rw [hdeep] at he
  generalize f.entrySaves.saveSticky = v at he hq
  have hev : ((v.pwrTo .run).evt F.PWR_EVT_ACK_TMO).Only [F.PWR_EVT_PMB_ERR, F.UNIT_IRQ_STAT_EVT 0x03, F.PWR_PMB_STAT_ERR_CNT] []
      ((((v.pwrTo .run).evt F.PWR_EVT_ACK_TMO).evt F.PWR_EVT_PMB_ERR).incSat F.PWR_PMB_STAT_ERR_CNT) :=
    only_incSat (by simp) (by decide) (only_evt (x := F.PWR_EVT_PMB_ERR) (by simp) (by simp [F.PWR_EVT_PMB_ERR]) (by decide) (only_refl _ _ _))
  have hack : ((v.pwrTo .run).evt F.PWR_EVT_ACK_TMO).on F.PWR_EVT_ACK_TMO = true := on_evt_self _ (by decide)
  have hrun : ((v.pwrTo .run).evt F.PWR_EVT_ACK_TMO).pwr.st = .run := by
    rw [evt_pwr]
    rfl
  have hg : ∀ y ∈ [F.FLT_CTRL_MODE, fltSev S.PWR_ACK_TMO, F.PWR_PMB_STAT_ERR_CNT], ((v.pwrTo .run).evt F.PWR_EVT_ACK_TMO).g y = f.g y := fun y hy => by
    have h := (by decide : ∀ y ∈ [F.FLT_CTRL_MODE, fltSev S.PWR_ACK_TMO, F.PWR_PMB_STAT_ERR_CNT], sep F.PWR_EVT_ACK_TMO y = true ∧ sep (F.UNIT_IRQ_STAT_EVT 0x03) y = true) y hy
    exact (g_evt_sep _ h.1 h.2).trans ((pwrTo_g ..).trans (hq y hy))
  generalize (v.pwrTo .run).evt F.PWR_EVT_ACK_TMO = w at he hev hack hrun hg
  have herr : ((w.evt F.PWR_EVT_PMB_ERR).incSat F.PWR_PMB_STAT_ERR_CNT).on F.PWR_EVT_PMB_ERR = true := (on_incSat_sep _ (by decide)).trans (on_evt_self _ (by decide))
  have hinc : ((w.evt F.PWR_EVT_PMB_ERR).incSat F.PWR_PMB_STAT_ERR_CNT).g F.PWR_PMB_STAT_ERR_CNT = min F.PWR_PMB_STAT_ERR_CNT.top (s.g F.PWR_PMB_STAT_ERR_CNT + 1) := by
    rw [g_incSat (by decide) (by decide) (g_le_top _ _), g_evt_sep _ (by decide) (by decide), hg _ (by simp), hcnt]
  have hlev : ((w.evt F.PWR_EVT_PMB_ERR).incSat F.PWR_PMB_STAT_ERR_CNT).defLevel S.PWR_ACK_TMO = s.defLevel S.PWR_ACK_TMO := by
    rw [← hdef, State.defLevel, State.defLevel, on_congr (only_g hev (x := F.FLT_CTRL_MODE) (by decide)), on_congr (hg F.FLT_CTRL_MODE (by simp)),
      only_g hev (x := fltSev S.PWR_ACK_TMO) (by decide), hg (fltSev S.PWR_ACK_TMO) (by simp)]
  have hpw : ((w.evt F.PWR_EVT_PMB_ERR).incSat F.PWR_PMB_STAT_ERR_CNT).pwr = w.pwr := hev.parts.pwr (by simp [Foot.of])
  have hf : w.pmbFail = ((w.evt F.PWR_EVT_PMB_ERR).incSat F.PWR_PMB_STAT_ERR_CNT).raise S.PWR_ACK_TMO 0 := rfl
  have hack' := (only_on hev (x := F.PWR_EVT_ACK_TMO) (by decide)).trans hack
  rw [hf] at he
  generalize (w.evt F.PWR_EVT_PMB_ERR).incSat F.PWR_PMB_STAT_ERR_CNT = r at he herr hinc hlev hpw hack'
  have hfit : r.Fits (Foot.reaction [0x03] []) (r.raise S.PWR_ACK_TMO 0) := raise_fits r _ _ (by decide) (by decide) (fits_refl _ r)
  refine ⟨_, he, ?_, (on_congr (raise_lamp _ _ _ (by decide))).trans hack', (on_congr (raise_lamp _ _ _ (by decide))).trans herr, (raise_lamp _ _ _ (by decide)).trans hinc,
    fun hd => raise_pend _ _ (by decide) (by rwa [hlev])⟩
  rw [within_pwr hfit.within rfl (by decide), hpw]
  exact hrun

/-! ### An acknowledgement that is late -/

/-- A link in DEEP_LINK detects again. -/
def detecting (s : State) (l : Nat) : State := if s.lst l = 7 then s.linkTo l 1 else s

/-- The links leave DEEP_LINK. -/
def linksDetect (s : State) : State := (List.range 2).foldl detecting s

theorem linksDetect_lst (s : State) (hl : l < 2) : (linksDetect s).lst l = if s.lst l = 7 then 1 else s.lst l := by
  have hother : ∀ m ∈ List.range 2, m ≠ l → ∀ u : State, (detecting u m).lst l = u.lst l := fun m hm hne u =>
    ite_g (x := F.LNK_STAT_STATE l) (fun _ => linkTo_g 1 (link_other hl (List.mem_range.1 hm) hne)) (fun _ => rfl)
  refine foldl_visit (P := fun u : State => u.lst l = s.lst l) (Q := fun u : State => u.lst l = if s.lst l = 7 then 1 else s.lst l) (List.range 2) List.nodup_range
    (List.mem_range.2 hl) (fun m hm hne u hu => (hother m hm hne u).trans hu) (fun u hu => ?_) (fun m hm hne u hu => (hother m hm hne u).trans hu) rfl
  by_cases h7 : s.lst l = 7
  · rw [if_pos h7, detecting, if_pos (hu.trans h7)]
    exact linkTo_lst u l (by decide)
  · rw [if_neg h7, detecting, if_neg (by rwa [hu])]
    exact hu

/-- An entry whose acknowledgement did not come, before its fault. -/
def entryAbandoned (s : State) : State :=
  let s := (s.linksLeaveDeep.pwrTo .resume).evt F.PWR_EVT_ACK_TMO
  (s.withPwr { s.pwr with stby := false }).csfRestart

theorem exec_ackTimeout (h : s.pwr.st = .ackEntry) :
    exec .ackTimeout s = .next (if (entryAbandoned s.begin).on F.PWR_STAT_WAKE_PENDING then entryAbandoned s.begin else (entryAbandoned s.begin).raise S.PWR_ACK_TMO 0) :=
  congrArg Host.Outcome.next ((if_pos h).trans rfl)

theorem linksLeaveDeep_lst (s : State) (hl : l < 2) : s.linksLeaveDeep.lst l = if s.lst l = 7 then 1 else s.lst l := by
  rw [← linksDetect_lst s hl]
  exact ite_g (x := F.LNK_STAT_STATE l) (fun _ => g_put_sep _ _ ((by decide : ∀ l < 2, sep F.SIDE_STAT_STATE (F.LNK_STAT_STATE l) = true) l hl)) (fun _ => rfl)

theorem csfRestart_leaves (s : State) : s.csfRestart.pwr = s.pwr ∧ ∀ y, s.csfRestart.g y = s.g y := by
  unfold State.csfRestart
  split_ifs
  · exact ⟨rfl, fun _ => withCsf_g ..⟩
  · exact ⟨rfl, fun _ => rfl⟩

theorem entryAbandoned_leaves (s : State) :
    (entryAbandoned s).pwr = { s.pwr with st := .resume, since := s.now, stby := false } ∧ (entryAbandoned s).on F.PWR_EVT_ACK_TMO = true
      ∧ (∀ l, l < 2 → (entryAbandoned s).lst l = if s.lst l = 7 then 1 else s.lst l)
      ∧ (entryAbandoned s).on F.PWR_STAT_WAKE_PENDING = s.on F.PWR_STAT_WAKE_PENDING ∧ (entryAbandoned s).defLevel S.PWR_ACK_TMO = s.defLevel S.PWR_ACK_TMO := by
  have hfit := linksLeaveDeep_fits (g := Foot.of [0x08, 0x09, 0x0A] [.lnkA, .lnkB]) s (by decide) (fits_refl _ s)
  have hl : ∀ l, l < 2 → s.linksLeaveDeep.lst l = if s.lst l = 7 then 1 else s.lst l := fun l hl => linksLeaveDeep_lst s hl
  have hp : s.linksLeaveDeep.pwr = s.pwr := within_pwr hfit.within rfl (by decide)
  have hn : s.linksLeaveDeep.now = s.now := within_now hfit.within rfl (by decide)
  have hg : ∀ y ∈ [F.PWR_STAT_WAKE_PENDING, F.FLT_CTRL_MODE, fltSev S.PWR_ACK_TMO], s.linksLeaveDeep.g y = s.g y := fun y hy =>
    fits_g hfit rfl ((by decide : ∀ y ∈ [F.PWR_STAT_WAKE_PENDING, F.FLT_CTRL_MODE, fltSev S.PWR_ACK_TMO],
      (Foot.of [0x08, 0x09, 0x0A] [.lnkA, .lnkB]).units.contains (groupPage y.page) = false) y hy)
  unfold entryAbandoned
  generalize s.linksLeaveDeep = v at hl hp hn hg ⊢
  extract_lets w
  have hwp : w.pwr = { s.pwr with st := .resume, since := s.now } := by
    rw [show w.pwr = (v.pwrTo .resume).pwr from evt_pwr .., ← hp, ← hn]
    rfl
  have hwe : w.on F.PWR_EVT_ACK_TMO = true := on_evt_self _ (by decide)
  have hwg : ∀ y, sep F.PWR_EVT_ACK_TMO y = true → sep (F.UNIT_IRQ_STAT_EVT 0x03) y = true → w.g y = v.g y := fun y h1 h2 => (g_evt_sep _ h1 h2).trans (pwrTo_g ..)
  clear_value w
  obtain ⟨hcp, hcg⟩ := csfRestart_leaves (w.withPwr { w.pwr with stby := false })
  have hg2 : ∀ y, (w.withPwr { w.pwr with stby := false }).csfRestart.g y = w.g y := fun y => (hcg y).trans (withPwr_g ..)
  refine ⟨?_, (on_congr (hg2 _)).trans hwe, fun l hlt => ?_, ?_, ?_⟩
  · rw [hcp]
    show ({ w.pwr with stby := false } : Pwr) = _
    rw [hwp]
  · have h := (by decide : ∀ l < 2, sep F.PWR_EVT_ACK_TMO (F.LNK_STAT_STATE l) = true ∧ sep (F.UNIT_IRQ_STAT_EVT 0x03) (F.LNK_STAT_STATE l) = true) l hlt
    exact (hg2 _).trans ((hwg _ h.1 h.2).trans (hl l hlt))
  · exact on_congr ((hg2 _).trans ((hwg _ (by decide) (by decide)).trans (hg _ (by simp))))
  · have h : ∀ y ∈ [F.FLT_CTRL_MODE, fltSev S.PWR_ACK_TMO], (w.withPwr { w.pwr with stby := false }).csfRestart.g y = s.g y := fun y hy => by
      have hs := (by decide : ∀ y ∈ [F.FLT_CTRL_MODE, fltSev S.PWR_ACK_TMO], sep F.PWR_EVT_ACK_TMO y = true ∧ sep (F.UNIT_IRQ_STAT_EVT 0x03) y = true) y hy
      exact (hg2 y).trans ((hwg y hs.1 hs.2).trans (hg y (List.mem_cons_of_mem _ hy)))
    rw [State.defLevel, State.defLevel, on_congr (h F.FLT_CTRL_MODE (by simp)), h (fltSev S.PWR_ACK_TMO) (by simp)]

theorem entry_times_out (h : s.pwr.st = .ackEntry) :
    ∃ t, exec .ackTimeout s = .next t ∧ t.pwr = { s.pwr with st := .resume, since := s.now, stby := false } ∧ t.on F.PWR_EVT_ACK_TMO = true
      ∧ (∀ l, l < 2 → t.lst l = if s.lst l = 7 then 1 else s.lst l)
      ∧ (s.on F.PWR_STAT_WAKE_PENDING = false → s.defLevel S.PWR_ACK_TMO ≠ 0 → t.on (fltPend S.PWR_ACK_TMO) = true)
      ∧ s.Within (Foot.reaction [0x03, 0x08, 0x09, 0x0A] [.lnkA, .lnkB, .csf, .pwr]) t := by
  have he := exec_ackTimeout h
  have hfit := within_mono (g := Foot.reaction [0x03, 0x08, 0x09, 0x0A] [.lnkA, .lnkB, .csf, .pwr]) (by decide) (does_within (execAckTimeout_fits s) he)
  have hlev : s.begin.defLevel S.PWR_ACK_TMO = s.defLevel S.PWR_ACK_TMO :=
    fits_defLevel (g := Foot.of [] [.flt, .saf]) (begin_fits s (by decide) (fits_refl _ s)) rfl (by decide) _
  obtain ⟨hp, ho, hl, hw, hd⟩ := entryAbandoned_leaves s.begin
  have hlst : ∀ l, l < 2 → s.begin.lst l = s.lst l := fun _ _ => begin_g ..
  generalize entryAbandoned s.begin = a at he hfit hp ho hl hw hd
  have hwake : a.on F.PWR_STAT_WAKE_PENDING = s.on F.PWR_STAT_WAKE_PENDING := hw.trans (begin_on ..)
  have hla : ∀ l, l < 2 → a.lst l = if s.lst l = 7 then 1 else s.lst l := fun l hlt => by rw [hl l hlt, hlst l hlt]
  cases hk : s.on F.PWR_STAT_WAKE_PENDING with
  | true =>
    rw [if_pos (hwake.trans hk)] at he hfit
    exact ⟨_, he, hp, ho, hla, fun hf => absurd hf (by decide), hfit⟩
  | false =>
    rw [if_neg (by rw [hwake, hk]; decide)] at he hfit
    have hr : a.Fits (Foot.reaction [0x03] []) (a.raise S.PWR_ACK_TMO 0) := raise_fits a _ _ (by decide) (by decide) (fits_refl _ a)
    refine ⟨_, he, (within_pwr hr.within rfl (by decide)).trans hp, (on_congr (raise_lamp _ _ _ (by decide))).trans ho, fun l hlt => ?_,
      fun _ hne => raise_pend _ _ (by decide) (by rwa [hd, hlev]), hfit⟩
    exact (fits_g hr rfl ((by decide : ∀ l < 2, (Foot.reaction [0x03] []).units.contains (groupPage (F.LNK_STAT_STATE l).page) = false) l hlt)).trans (hla l hlt)

theorem exit_times_out (h : s.pwr.st = .ackExit) :
    ∃ t, exec .ackTimeout s = .next t ∧ t.pwr = { s.pwr with ackLate := true } ∧ s.begin.Only [] [.pwr] t := by
  have hne : ¬ s.begin.pwr.st = .ackEntry := by
    rw [show s.begin.pwr.st = .ackExit from h]
    decide
  exact ⟨_, congrArg Host.Outcome.next ((if_neg hne).trans (if_pos h)), rfl, only_withPwr (by simp) (only_refl _ _ _)⟩

theorem ackTimeout_rests (h : s.pwr.st ≠ .ackEntry) (hx : s.pwr.st ≠ .ackExit) : exec .ackTimeout s = .next s.begin :=
  congrArg Host.Outcome.next ((if_neg h).trans (if_neg hx))

/-- Settles O45: the entries in the order of their steps, each step keeping what the ones before it left, a withdrawn request through every fault. -/
theorem powerRequests : Obligations.PowerRequests := by
  unfold Obligations.PowerRequests
  exact ⟨fun _ _ _ _ => request_acts, fun _ => idle_wakes, fun _ => idleWake_rests, fun _ => prep_expires, fun _ => prepTimeout_rests, fun _ => sleep_enters,
    fun _ => deep_enters, fun _ => deep_fails, fun _ => prepConfirm_rests, fun _ => pmic_acks, fun _ => pmicAck_rests, fun _ => entry_times_out,
    fun _ => exit_times_out, fun _ => ackTimeout_rests⟩

end Sys2Proof.Proofs.PowerEntry
end

section
/-! PROOF. Operations of the update unit (UpdateOperations). -/

namespace Sys2Proof.Proofs.SlotUpdates

open Sys2Proof.Machine Sys2Proof.Laws Sys2Proof.Proofs.Architecture Sys2Proof.Proofs.Reading Sys2Proof.Proofs.RegisterMap Sys2Proof.Proofs.GovernorSums
  Sys2Proof.Proofs.PacketStore Sys2Proof.Proofs.PacketConsumption Sys2Proof.Proofs.SlotStates Sys2Proof.Proofs.MemoryWords Sys2Proof.Proofs.RecorderRuns
  Sys2Proof.Proofs.BootOfGarnet Sys2Proof.Proofs.Commits

variable {s t u : State} {x : Fld} {p : Packet} {n op lo hi : Nat}

/-! ### The packet at the head -/

/-- The packet at the head is taken by the command of its operation. -/
theorem takeUpdate_taken {q : List Packet} (f : Packet → State) (hc : s.consuming 3 = true) (h : s.ring 3 = p :: q) (ho : p.updOp = op) (ha : s.armed S.CMD_REPLAY = false) :
    s.takeUpdate op false f = f p := by
  unfold State.takeUpdate
  rw [head_of hc h]
  dsimp only
  rw [if_neg (by simp [ho]), ha]
  rfl

theorem takeUpdate_replays {q : List Packet} (f : Packet → State) (hc : s.consuming 3 = true) (h : s.ring 3 = p :: q) (ho : p.updOp = op) :
    s.takeUpdate op true f = s.replay 3 := by
  unfold State.takeUpdate
  rw [head_of hc h]
  dsimp only
  rw [if_neg (by simp [ho])]
  rfl

theorem takeUpdate_rests (parity : Bool) (f : Packet → State) (h : s.consuming 3 = false ∨ ∀ p, (s.ring 3).head? = some p → Packet.updOp p ≠ op) :
    s.takeUpdate op parity f = s := by
  unfold State.takeUpdate
  cases hh : s.head 3 with
  | none => rfl
  | some p =>
    dsimp only
    refine if_pos ?_
    unfold State.head at hh
    rcases h with h | h
    · rw [if_neg (by rw [h]; decide)] at hh
      cases hh
    · split_ifs at hh
      exact h p hh

theorem shaped_rings (h : s.shaped = true) : s.cmd.rings.length = 4 := by
  simp only [State.shaped, Cmd.shaped, Bool.and_eq_true, decide_eq_true_eq] at h
  tauto

/-- The packet at the head is done. -/
def Done (p : Packet) (t : State) : Prop := t.ring 3 = [] ∧ t.g (F.CMD_DONE_DONE_SEQ 3) = p.seq % 2 ^ 32

/-- What the end of a packet leaves of the slots. -/
theorem done_leaves (h : s.ring 3 = [p]) (hl : s.cmd.rings.length = 4) :
    Done p (s.doneHead 3) ∧ (∀ k, (s.doneHead 3).slotState k = s.slotState k) ∧ (s.doneHead 3).upd = s.upd ∧ (s.doneHead 3).gov = s.gov ∧ (s.doneHead 3).mem = s.mem
      ∧ s.Only [F.CMD_DONE_DONE_SEQ 3] [.cmd] (s.doneHead 3) := by
  obtain ⟨h1, h2, h3⟩ := doneHead_reads h (by rw [hl]; decide)
  have hu : (s.doneHead 3).upd = s.upd := h3.parts.upd (by simp [Foot.of])
  have hg : (s.doneHead 3).gov = s.gov := h3.parts.gov (by simp [Foot.of])
  exact ⟨⟨h1, h2⟩, fun k => slots_congr hu hg k, hu, hg, h3.parts.mem (by simp [Foot.of]), h3⟩

theorem ring_parts (h : t.cmd = s.cmd) (c : Nat) : t.ring c = s.ring c := by rw [State.ring, State.ring, h]

/-- An operation that is ignored. -/
theorem ignored_leaves (h : s.ring 3 = [p]) (hl : s.cmd.rings.length = 4) :
    s.opIgnored.on F.UPD_EVT_OP_IGN = true ∧ s.opIgnored.upd = s.upd ∧ s.opIgnored.gov = s.gov ∧ s.opIgnored.mem = s.mem ∧ Done p s.opIgnored := by
  have hc : (s.evt F.UPD_EVT_OP_IGN).cmd = s.cmd := evt_cmd ..
  have he : (s.evt F.UPD_EVT_OP_IGN).on F.UPD_EVT_OP_IGN = true := on_evt_self _ (by decide)
  obtain ⟨h1, -, h3, h4, h5, h6⟩ := done_leaves (s := s.evt F.UPD_EVT_OP_IGN) (by rw [ring_parts hc]; exact h) (by rw [hc]; exact hl)
  exact ⟨(only_on h6 (by decide)).trans he, h3.trans (evt_upd ..), h4.trans (evt_gov ..), h5.trans (evt_mem ..), h1⟩

/-! ### WRITE that is refused or waits -/

theorem exec_write (hc : s.consuming 3 = true) (h : s.ring 3 = [p]) (ha : s.armed S.CMD_REPLAY = false) (ho : p.updOp = 0) :
    exec (.updWrite false) s = .next (s.begin.updBlock p) := congrArg Host.Outcome.next (takeUpdate_taken (s := s.begin) _ hc h ho ha)

theorem write_refused (hc : s.consuming 3 = true) (h : s.ring 3 = [p]) (ha : s.armed S.CMD_REPLAY = false) (hl : s.cmd.rings.length = 4) (ho : p.updOp = 0)
    (hr : s.writeRefused p.updSlot = true) :
    ∃ t, exec (.updWrite false) s = .next t ∧ t.on F.UPD_EVT_WR_REFUSED = true ∧ Done p t
      ∧ s.begin.Only [F.UPD_EVT_WR_REFUSED, F.UNIT_IRQ_STAT_EVT 0x80, F.CMD_DONE_DONE_SEQ 3] [.cmd] t := by
  have he := exec_write hc h ha ho
  have hb : s.begin.updBlock p = (s.begin.evt F.UPD_EVT_WR_REFUSED).doneHead 3 := if_pos hr
  have hcmd : (s.begin.evt F.UPD_EVT_WR_REFUSED).cmd = s.cmd := evt_cmd ..
  have hevt : (s.begin.evt F.UPD_EVT_WR_REFUSED).on F.UPD_EVT_WR_REFUSED = true := on_evt_self _ (by decide)
  have honly : s.begin.Only [F.UPD_EVT_WR_REFUSED, F.UNIT_IRQ_STAT_EVT 0x80, F.CMD_DONE_DONE_SEQ 3] [.cmd] (s.begin.evt F.UPD_EVT_WR_REFUSED) :=
    only_evt (x := F.UPD_EVT_WR_REFUSED) (by simp) (by simp [F.UPD_EVT_WR_REFUSED]) (by decide) (only_refl _ _ _)
  rw [hb] at he
  generalize s.begin.evt F.UPD_EVT_WR_REFUSED = v at he hcmd hevt honly
  obtain ⟨hd, -, -, -, -, h6⟩ := done_leaves (s := v) (by rw [ring_parts hcmd]; exact h) (by rw [hcmd]; exact hl)
  exact ⟨_, he, (only_on h6 (by decide)).trans hevt, hd, only_app (by simp) (by simp) h6 honly⟩

theorem write_waits (hc : s.consuming 3 = true) (h : s.ring 3 = [p]) (ha : s.armed S.CMD_REPLAY = false) (ho : p.updOp = 0) (hr : s.writeRefused p.updSlot = false)
    (hw : s.on F.THM_STAT_FLASH_OK = false ∨ ((p.updSlot = 2 ∨ p.updSlot = 3) ∧ s.saf.halted = true)) : exec (.updWrite false) s = .next s.begin := by
  have hnr : ¬ s.begin.writeRefused p.updSlot = true := by
    rw [show s.begin.writeRefused p.updSlot = s.writeRefused p.updSlot from rfl, hr]
    decide
  have hcond : (!s.begin.on F.THM_STAT_FLASH_OK || ((decide (p.updSlot = 2) || decide (p.updSlot = 3)) && s.begin.saf.halted)) = true := by
    rw [begin_on, show s.begin.saf.halted = s.saf.halted from rfl]
    rcases hw with hw | ⟨hw | hw, hh⟩ <;> simp [*]
  exact (exec_write hc h ha ho).trans (congrArg Host.Outcome.next ((if_neg hnr).trans (if_pos hcond)))

/-! ### A slot's sectors are erased -/

theorem slotBase_flash (n : Nat) : 0x60000000 ≤ slotBase n := by
  unfold slotBase
  split <;> decide

theorem blank_byte {a : Nat} (h : 0x60000000 ≤ a) : memDefault a = 0xFF := if_pos h

/-- Memory without the entries of a range. -/
theorem tabGet_cleared (l : List (Nat × Byte)) (a lo hi : Nat) :
    tabGet memDefault (l.filter (fun e => decide (e.1 < lo) || decide (hi ≤ e.1))) a = if lo ≤ a ∧ a < hi then memDefault a else tabGet memDefault l a := by
  split_ifs with h
  · refine tabGet_unlisted fun hm => ?_
    obtain ⟨e, he, rfl⟩ := List.mem_map.1 hm
    have hk := (List.mem_filter.1 he).2
    simp only [Bool.or_eq_true, decide_eq_true_eq] at hk
    omega
  · exact tabGet_filter_keep _ _ _ _ (fun v => by simp only [Bool.or_eq_true, decide_eq_true_eq]; omega)

/-- A slot whose sectors from lo to hi have been erased. -/
structure Erased (s : State) (n lo hi : Nat) (t : State) : Prop where
  byte : ∀ a, t.byte a = if slotBase n + 4096 * lo ≤ a ∧ a < slotBase n + 4096 * hi then 0xFF else s.byte a
  map : ∀ k ∈ (t.slot_ n).erased, k < hi
  tables : SlotTables t
  state : t.slotState n = s.slotState n
  rest : s.Only [] [.mem, .upd] t

theorem modSlot_slot (s : State) (f : Slot → Slot) (hs : SlotTables s) (hn : n < 6) : (s.modSlot n f).slot_ n = f (s.slot_ n) := by
  show (s.upd.slots.set n (f (s.slot_ n))).getD n Slot.init = _
  rw [List.getD_eq_getElem?_getD, List.getElem?_set_self (by rw [hs.plain]; exact hn)]
  rfl

theorem modSlot_tables (s : State) (f : Slot → Slot) (hs : SlotTables s) : SlotTables (s.modSlot n f) := ⟨(List.length_set ..).trans hs.plain, hs.granite⟩

theorem modSlot_state (s : State) (f : Slot → Slot) (hs : SlotTables s) (hn : n < 6) (hf : ∀ r, (f r).st = r.st) : (s.modSlot n f).slotState n = s.slotState n := by
  by_cases h : n = 2 ∨ n = 3
  · rw [slotState_granite _ h, slotState_granite _ h]
    rfl
  · rw [slotState_plain _ h, slotState_plain _ h]
    exact (congrArg Slot.st (modSlot_slot s f hs hn)).trans (hf _)

/-- One more sector is erased. -/
theorem eraseSector_erases (h : Erased s n lo hi t) (hn : n < 6) (hle : lo ≤ hi) : Erased s n lo (hi + 1) (t.eraseSector n hi) := by
  have hnot : ¬ (t.slot_ n).erased.contains hi = true := fun hm => Nat.lt_irrefl hi (h.map hi (List.contains_iff_mem.1 hm))
  unfold State.eraseSector
  rw [if_neg hnot]
  extract_lets a v
  have hv : SlotTables v := tables_congr h.tables rfl rfl
  have hst : v.slotState n = t.slotState n := slots_congr rfl rfl n
  have hslot : v.slot_ n = t.slot_ n := rfl
  have hbyte : ∀ b, v.byte b = if a ≤ b ∧ b < a + 4096 then memDefault b else t.byte b := fun b => tabGet_cleared t.mem b a (a + 4096)
  have honly : s.Only [] [.mem, .upd] v := only_withMem (by simp) h.rest
  clear_value v
  refine ⟨fun b => ?_, fun k hk => ?_, modSlot_tables v _ hv, (modSlot_state v (fun r => { r with erased := hi :: r.erased }) hv hn (fun _ => rfl)).trans (hst.trans h.state), only_withUpd (by simp) honly⟩
  · have hb := slotBase_flash n
    refine (hbyte b).trans ?_
    rw [h.byte b]
    by_cases h1 : a ≤ b ∧ b < a + 4096
    · rw [if_pos h1, blank_byte (by omega), if_pos (by omega)]
    · rw [if_neg h1]
      by_cases h2 : slotBase n + 4096 * lo ≤ b ∧ b < slotBase n + 4096 * hi
      · rw [if_pos h2, if_pos (by omega)]
      · rw [if_neg h2, if_neg (by omega)]
  · rw [modSlot_slot v _ hv hn] at hk
    rcases List.mem_cons.1 hk with rfl | hk
    · exact Nat.lt_succ_self _
    · rw [hslot] at hk
      exact Nat.lt_succ_of_lt (h.map k hk)

theorem sectors_erased (hs : SlotTables s) (hn : n < 6) (hnew : (s.slot_ n).erased = []) (lo m : Nat) :
    Erased s n lo (lo + m) ((List.range m).foldl (fun s i => s.eraseSector n (lo + i)) s) := by
  induction m with
  | zero =>
    refine ⟨fun a => by rw [if_neg (by omega)]; rfl, fun k hk => ?_, hs, rfl, only_refl _ _ s⟩
    rw [show ((List.range 0).foldl (fun s i => s.eraseSector n (lo + i)) s).slot_ n = s.slot_ n from rfl, hnew] at hk
    cases hk
  | succ m ih =>
    rw [List.range_succ, List.foldl_append]
    exact eraseSector_erases ih hn (Nat.le_add_right ..)

/-! ### A block's pages are written -/

theorem bytes_blank {a k : Nat} (h : ∀ i, i < k → s.byte (a + i) = 0xFF) : s.bytes a k = List.replicate k 0xFF := by
  refine List.ext_getElem (by rw [bytes_length, List.length_replicate]) (fun i h1 h2 => ?_)
  have hi : i < k := by rwa [bytes_length] at h1
  have hg := bytes_getD s a k i hi
  rw [List.getD_eq_getElem?_getD, List.getElem?_eq_getElem h1, Option.getD_some] at hg
  rw [hg, h i hi, List.getElem_replicate]

/-- A page over erased bytes holds its data. -/
theorem writePage_blank (s : State) (n ofs : Nat) (data : List Byte) (h : ∀ i, i < data.length → s.byte (slotBase n + ofs + i) = 0xFF) :
    (∀ a, (s.writePage n ofs data).byte a = if slotBase n + ofs ≤ a ∧ a < slotBase n + ofs + data.length then data.getD (a - (slotBase n + ofs)) 0 else s.byte a)
      ∧ s.Only [F.UPD_CNT_PAGES_SKIPPED] [.mem] (s.writePage n ofs data) := by
  have hblank := bytes_blank h
  unfold State.writePage
  extract_lets base old
  by_cases heq : old = data
  · rw [if_pos heq]
    refine ⟨fun a => ?_, only_incSat (by simp) (by decide) (only_refl _ _ s)⟩
    rw [incSat_byte]
    split_ifs with ha
    · have hg := bytes_getD s base data.length (a - base) (by omega)
      rw [show s.bytes base data.length = data from heq] at hg
      rw [hg, Nat.add_sub_cancel' ha.1]
    · rfl
  · have hall : old.all (fun b => decide (b = 0xFF)) = true := by
      rw [show old = List.replicate data.length 0xFF from hblank]
      exact List.all_eq_true.2 (fun b hb => decide_eq_true (List.eq_of_mem_replicate hb))
    rw [if_neg heq, if_pos hall]
    exact ⟨fun a => setBytes_byte data s base a, only_mono (by simp) (by simp) (setBytes_only s base data)⟩

/-- A block whose first pages are written. -/
structure Written (s : State) (n ofs : Nat) (body : List Byte) (k : Nat) (t : State) : Prop where
  byte : ∀ a, t.byte a = if slotBase n + ofs ≤ a ∧ a < slotBase n + ofs + k then body.getD (a - (slotBase n + ofs)) 0 else s.byte a
  rest : s.Only [F.UPD_CNT_PAGES_SKIPPED] [.mem] t

theorem page_getD (body : List Byte) (k i : Nat) (h : i < ((body.drop k).take 256).length) : ((body.drop k).take 256).getD i 0 = body.getD (k + i) 0 := by
  rw [List.length_take] at h
  rw [List.getD_eq_getElem?_getD, List.getD_eq_getElem?_getD, List.getElem?_take_of_lt (by omega), List.getElem?_drop]

theorem pages_written {ofs : Nat} {body : List Byte} (h : ∀ i, i < body.length → s.byte (slotBase n + ofs + i) = 0xFF) (m : Nat) :
    Written s n ofs body (min (256 * m) body.length)
      ((List.range m).foldl (fun s i => s.writePage n (ofs + 256 * i) ((body.drop (256 * i)).take 256)) s) := by
  induction m with
  | zero => exact ⟨fun a => by rw [if_neg (by omega)]; rfl, only_refl _ _ s⟩
  | succ m ih =>
    rw [List.range_succ, List.foldl_append]
    generalize (List.range m).foldl (fun s i => s.writePage n (ofs + 256 * i) ((body.drop (256 * i)).take 256)) s = t at ih
    have hlen : ((body.drop (256 * m)).take 256).length = min 256 (body.length - 256 * m) := by rw [List.length_take, List.length_drop]
    have hblank : ∀ i, i < ((body.drop (256 * m)).take 256).length → t.byte (slotBase n + (ofs + 256 * m) + i) = 0xFF := fun i hi => by
      rw [hlen] at hi
      rw [ih.byte, if_neg (by omega), show slotBase n + (ofs + 256 * m) + i = slotBase n + ofs + (256 * m + i) by omega]
      exact h _ (by omega)
    obtain ⟨hb, ho⟩ := writePage_blank t n (ofs + 256 * m) _ hblank
    refine ⟨fun a => ?_, only_trans ih.rest ho⟩
    refine (hb a).trans ?_
    rw [ih.byte a]
    by_cases h1 : slotBase n + (ofs + 256 * m) ≤ a ∧ a < slotBase n + (ofs + 256 * m) + ((body.drop (256 * m)).take 256).length
    · rw [if_pos h1, page_getD _ _ _ (by omega), if_pos (by omega)]
      congr 1
      omega
    · rw [if_neg h1]
      by_cases h2 : slotBase n + ofs ≤ a ∧ a < slotBase n + ofs + min (256 * m) body.length
      · rw [if_pos h2, if_pos (by omega)]
      · rw [if_neg h2, if_neg (by omega)]

/-- A block written to a slot begun anew. -/
theorem writeBlock_leaves (hs : SlotTables s) (hn : n < 6) (hnew : (s.slot_ n).erased = []) (ofs : Nat) {body : List Byte} (hb : body ≠ []) :
    (s.writeBlock n ofs body).slotState n = s.slotState n
      ∧ (∀ i, i < body.length → (s.writeBlock n ofs body).byte (slotBase n + ofs + i) = body.getD i 0)
      ∧ (∀ a, a < slotBase n + ofs / 4096 * 4096 ∨ slotBase n + ((ofs + body.length - 1) / 4096 + 1) * 4096 ≤ a → (s.writeBlock n ofs body).byte a = s.byte a)
      ∧ (s.writeBlock n ofs body).g F.UPD_CNT_BLOCKS = min F.UPD_CNT_BLOCKS.top (s.g F.UPD_CNT_BLOCKS + 1)
      ∧ (s.writeBlock n ofs body).cmd = s.cmd := by
  have hpos : 0 < body.length := List.length_pos_iff.2 hb
  have hE := sectors_erased hs hn hnew (ofs / 4096) ((ofs + body.length - 1) / 4096 + 1 - ofs / 4096)
  unfold State.writeBlock
  extract_lets v w
  change Erased s n _ _ v at hE
  have hsum : ofs / 4096 + ((ofs + body.length - 1) / 4096 + 1 - ofs / 4096) = (ofs + body.length - 1) / 4096 + 1 := by omega
  rw [hsum] at hE
  have hW : Written v n ofs body (min (256 * ((body.length + 255) / 256)) body.length) w := pages_written (fun i hi => by
    rw [hE.byte, if_pos (by omega)]) _
  rw [Nat.min_eq_right (by omega)] at hW
  clear_value v w
  have hu : w.upd = v.upd := hW.rest.parts.upd (by simp [Foot.of])
  have hg : w.gov = v.gov := hW.rest.parts.gov (by simp [Foot.of])
  refine ⟨?_, fun i hi => ?_, fun a ha => ?_, ?_, ?_⟩
  · rw [slots_congr (incSat_upd ..) (incSat_gov ..), slots_congr hu hg, hE.state]
  · rw [incSat_byte, hW.byte, if_pos (by omega)]
    congr 1
    omega
  · rw [incSat_byte, hW.byte, if_neg (by omega), hE.byte, if_neg (by omega)]
  · rw [g_incSat (by decide) (by decide) (g_le_top _ _), only_g hW.rest (by decide), only_g hE.rest (by decide)]
  · rw [incSat_cmd, hW.rest.parts.cmd (by simp [Foot.of]), hE.rest.parts.cmd (by simp [Foot.of])]

/-- A slot begun anew. -/
def begun (s : State) (n : Nat) : State := (s.modSlot n (fun _ => Slot.init)).toSlot n 1 0

theorem begun_leaves (s : State) (hs : SlotTables s) (hn : n < 6) :
    SlotTables (begun s n) ∧ ((begun s n).slot_ n).erased = [] ∧ (begun s n).slotState n = 1 ∧ (begun s n).mem = s.mem ∧ (begun s n).cmd = s.cmd
      ∧ (begun s n).g F.UPD_CNT_BLOCKS = s.g F.UPD_CNT_BLOCKS := by
  have hm := modSlot_tables (n := n) s (fun _ => Slot.init) hs
  have hslot := modSlot_slot (n := n) s (fun _ => Slot.init) hs hn
  have hset := toSlot_set (s.modSlot n (fun _ => Slot.init)) n 1 0
  have hfit := toSlot_fits (g := Foot.of [0x40, 0x70, 0x71, 0x80] [.evr, .gov, .upd]) (s.modSlot n (fun _ => Slot.init)) n 1 0 (by decide) (fits_refl _ _)
  have hcnt : (begun s n).g F.UPD_CNT_BLOCKS = s.g F.UPD_CNT_BLOCKS := (toSlot_g _ hn (by decide) 1 0).trans (withUpd_g ..)
  refine ⟨hset.tables hm, ?_, hset.same hm hn (by omega), (within_mem hfit.within rfl (by decide)).trans rfl, (within_cmd hfit.within rfl (by decide)).trans rfl, hcnt⟩
  have hupd : (begun s n).upd = _ := hset.upd
  show ((begun s n).upd.slots.getD n Slot.init).erased = []
  rw [hupd]
  generalize s.modSlot n (fun _ => Slot.init) = v at hslot hm
  split_ifs
  · exact congrArg Slot.erased hslot
  · show ((v.upd.slots.set n { v.slot_ n with st := 1, rej := 0 }).getD n Slot.init).erased = []
    rw [List.getD_eq_getElem?_getD, List.getElem?_set_self (by rw [hm.plain]; exact hn), hslot]
    rfl

/-- A WRITE to a slot that is not RECEIVING begins it anew. -/
theorem write_begins (hc : s.consuming 3 = true) (h : s.ring 3 = [p]) (ha : s.armed S.CMD_REPLAY = false) (hs : s.shaped = true) (hn : p.updSlot < 6) (hb : p.body ≠ [])
    (ho : p.updOp = 0) (hr : s.writeRefused p.updSlot = false) (hf : s.on F.THM_STAT_FLASH_OK = true) (hh : s.saf.halted = false) (h1 : s.slotState p.updSlot ≠ 1) :
    ∃ t, exec (.updWrite false) s = .next t ∧ t.slotState p.updSlot = 1 ∧ Done p t
      ∧ (∀ i, i < p.body.length → t.byte (slotBase p.updSlot + p.arg + i) = p.body.getD i 0)
      ∧ (∀ a, a < slotBase p.updSlot + p.arg / 4096 * 4096 ∨ slotBase p.updSlot + ((p.arg + p.body.length - 1) / 4096 + 1) * 4096 ≤ a → t.byte a = s.byte a)
      ∧ t.g F.UPD_CNT_BLOCKS = min F.UPD_CNT_BLOCKS.top (s.g F.UPD_CNT_BLOCKS + 1) := by
  have hnr : ¬ s.begin.writeRefused p.updSlot = true := by
    rw [show s.begin.writeRefused p.updSlot = s.writeRefused p.updSlot from rfl, hr]
    decide
  have hopen : ¬ (!s.begin.on F.THM_STAT_FLASH_OK || ((decide (p.updSlot = 2) || decide (p.updSlot = 3)) && s.begin.saf.halted)) = true := by
    rw [begin_on, show s.begin.saf.halted = s.saf.halted from rfl, hf, hh]
    simp
  have hrun : s.begin.updBlock p = ((begun s.begin p.updSlot).writeBlock p.updSlot p.arg p.body).doneHead 3 := by
    refine (if_neg hnr).trans ((if_neg hopen).trans ?_)
    exact congrArg (fun v : State => (v.writeBlock p.updSlot p.arg p.body).doneHead 3) (if_neg h1)
  have he := exec_write hc h ha ho
  rw [hrun] at he
  obtain ⟨htab, hnew, hst, hmem, hcmd, hcnt⟩ := begun_leaves s.begin (n := p.updSlot) (tables_congr (shaped_slots hs) rfl rfl) hn
  obtain ⟨w1, w2, w3, w4, w5⟩ := writeBlock_leaves htab hn hnew p.arg hb
  have hc2 : ((begun s.begin p.updSlot).writeBlock p.updSlot p.arg p.body).cmd = s.cmd := w5.trans hcmd
  generalize (begun s.begin p.updSlot).writeBlock p.updSlot p.arg p.body = v at he w1 w2 w3 w4 hc2
  obtain ⟨hd, k2, -, -, k5, k6⟩ := done_leaves (s := v) (by rw [ring_parts hc2]; exact h) (by rw [hc2]; exact shaped_rings hs)
  refine ⟨_, he, (k2 _).trans (w1.trans hst), hd, fun i hi => ?_, fun a hx => ?_, ?_⟩
  · rw [byte_mem k5]
    exact w2 i hi
  · rw [byte_mem k5, w3 a hx]
    exact byte_mem hmem a
  · rw [only_g k6 (by decide), w4, hcnt, begin_g]

/-! ### VERIFY -/

theorem exec_verify (hc : s.consuming 3 = true) (h : s.ring 3 = [p]) (ha : s.armed S.CMD_REPLAY = false) (ho : p.updOp = 1) (hv : s.upd.verifying = none) :
    exec (.updVerify false) s = .next (if s.slotState p.updSlot = 1 then
      (s.begin.toSlot p.updSlot 2 0).withUpd { (s.begin.toSlot p.updSlot 2 0).upd with verifying := some (p.updSlot, ofBe p.body) } else s.begin.opIgnored) := by
  have hnone : ¬ s.begin.upd.verifying.isSome = true := by
    rw [show s.begin.upd.verifying = s.upd.verifying from rfl, hv]
    decide
  exact congrArg Host.Outcome.next ((takeUpdate_taken (s := s.begin) _ hc h ho ha).trans ((if_neg hnone).trans rfl))

theorem verify_starts (hc : s.consuming 3 = true) (h : s.ring 3 = [p]) (ha : s.armed S.CMD_REPLAY = false) (hs : s.shaped = true) (hn : p.updSlot < 6) (ho : p.updOp = 1)
    (hv : s.upd.verifying = none) (h1 : s.slotState p.updSlot = 1) :
    ∃ t, exec (.updVerify false) s = .next t ∧ t.slotState p.updSlot = 2 ∧ t.upd.verifying = some (p.updSlot, ofBe p.body) ∧ t.ring 3 = [p] ∧ t.mem = s.mem := by
  have he := exec_verify hc h ha ho hv
  rw [if_pos h1] at he
  have hset := (toSlot_set s.begin p.updSlot 2 0).same (tables_congr (shaped_slots hs) rfl rfl) hn (by omega)
  have hfit := toSlot_fits (g := Foot.of [0x40, 0x70, 0x71, 0x80] [.evr, .gov, .upd]) s.begin p.updSlot 2 0 (by decide) (fits_refl _ _)
  have hcmd := within_cmd hfit.within rfl (by decide)
  have hmem := within_mem hfit.within rfl (by decide)
  generalize s.begin.toSlot p.updSlot 2 0 = v at he hset hcmd hmem
  exact ⟨_, he, hset, rfl, (ring_parts hcmd 3).trans h, hmem⟩

theorem verify_ignored (hc : s.consuming 3 = true) (h : s.ring 3 = [p]) (ha : s.armed S.CMD_REPLAY = false) (hl : s.cmd.rings.length = 4) (ho : p.updOp = 1)
    (hv : s.upd.verifying = none) (h1 : s.slotState p.updSlot ≠ 1) :
    ∃ t, exec (.updVerify false) s = .next t ∧ t.on F.UPD_EVT_OP_IGN = true ∧ t.upd.slots = s.upd.slots ∧ t.gov = s.gov ∧ t.mem = s.mem ∧ Done p t := by
  have he := exec_verify hc h ha ho hv
  rw [if_neg h1] at he
  obtain ⟨h1, h2, h3, h4, h5⟩ := ignored_leaves (s := s.begin) h hl
  exact ⟨_, he, h1, by rw [h2]; rfl, h3, h4, h5⟩

/-! ### ACTIVATE -/

/-- An ACTIVATE may take the slot. -/
def mayActivate (s : State) (p : Packet) : Bool :=
  decide (s.slotState p.updSlot = 3) && decide (s.slotVersion p.updSlot = ofBe (slice p.body 0 4)) && !(decide (p.updSlot < 2) && s.upd.trial.isSome) && decide (p.updSlot < 6)

/-- The slots after an ACTIVATE. -/
def activated (s : State) (p : Packet) : State :=
  if mayActivate s p then (s.activate p.updSlot (tbit (ofBe (slice p.body 4 4)) 0)).doneHead 3 else s.opIgnored

theorem exec_activate (hc : s.consuming 3 = true) (h : s.ring 3 = [p]) (ha : s.armed S.CMD_REPLAY = false) (ho : p.updOp = 2) :
    exec (.updActivate false) s = .next (if s.inRecovery && decide (p.updSlot < 2) then
      (activated s.begin p).withUpd { (activated s.begin p).upd with restart := true } else activated s.begin p) :=
  congrArg Host.Outcome.next ((takeUpdate_taken (s := s.begin) _ hc h ho ha).trans rfl)

/-- The restart that an ACTIVATE in recovery asks for, whatever it did. -/
def restarts (s : State) (b : Bool) : State := if b then s.withUpd { s.upd with restart := true } else s

theorem restarts_leaves (s : State) (b : Bool) : (restarts s b).upd.restart = (s.upd.restart || b) ∧ (restarts s b).upd.slots = s.upd.slots ∧ (restarts s b).gov = s.gov
    ∧ (restarts s b).mem = s.mem ∧ (restarts s b).cmd = s.cmd ∧ (∀ k, (restarts s b).slotState k = s.slotState k) ∧ ∀ y, (restarts s b).g y = s.g y := by
  cases b with
  | true => exact ⟨(Bool.or_true _).symm, rfl, rfl, rfl, rfl, fun _ => rfl, fun _ => withUpd_g ..⟩
  | false => exact ⟨(Bool.or_false _).symm, rfl, rfl, rfl, rfl, fun _ => rfl, fun _ => rfl⟩

theorem restarts_done (b : Bool) (h : Done p s) : Done p (restarts s b) := by
  obtain ⟨-, -, -, -, hc, -, hg⟩ := restarts_leaves s b
  exact ⟨(ring_parts hc 3).trans h.1, (hg _).trans h.2⟩

theorem otherSlot_bound (hn : n < 6) : otherSlot n < 6 := (by decide : ∀ n < 6, otherSlot n < 6) n hn

/-- What an activation leaves. -/
theorem activate_leaves (s : State) (hs : SlotTables s) (hn : n < 6) (b : Bool) :
    (s.activate n b).slotState n = 4 ∧ (s.activate n b).slotState (otherSlot n) = (if s.slotState (otherSlot n) = 4 then 3 else s.slotState (otherSlot n))
      ∧ (s.activate n b).upd.restart = (s.upd.restart || b) ∧ (s.activate n b).cmd = s.cmd := by
  have hset := toSlot_set s n 4 0
  have htab := hset.tables hs
  have hsame := hset.same hs hn (by omega)
  have hother := hset.other (otherSlot_ne n)
  have hcmd : (s.toSlot n 4 0).cmd = s.cmd :=
    within_cmd (toSlot_fits (g := Foot.of [0x40, 0x70, 0x71, 0x80] [.evr, .gov, .upd]) s n 4 0 (by decide) (fits_refl _ s)).within rfl (by decide)
  have hre : (s.toSlot n 4 0).upd.restart = s.upd.restart := by
    rw [hset.upd]
    split_ifs <;> rfl
  unfold State.activate
  generalize s.toSlot n 4 0 = v at htab hsame hother hcmd hre ⊢
  dsimp only
  have hset2 := toSlot_set v (otherSlot n) 3 0
  have hsame2 := hset2.same htab (otherSlot_bound hn) (by omega)
  have hkeep2 := hset2.other (k := n) (Ne.symm (otherSlot_ne n))
  have hcmd2 : (v.toSlot (otherSlot n) 3 0).cmd = v.cmd :=
    within_cmd (toSlot_fits (g := Foot.of [0x40, 0x70, 0x71, 0x80] [.evr, .gov, .upd]) v (otherSlot n) 3 0 (by decide) (fits_refl _ v)).within rfl (by decide)
  have hre2 : (v.toSlot (otherSlot n) 3 0).upd.restart = v.upd.restart := by
    rw [hset2.upd]
    split_ifs <;> rfl
  rw [← hother]
  by_cases h4 : v.slotState (otherSlot n) = 4
  · rw [if_pos h4, if_pos h4]
    generalize v.toSlot (otherSlot n) 3 0 = w at hsame2 hkeep2 hcmd2 hre2 ⊢
    exact ⟨hkeep2.trans hsame, hsame2, by rw [← hre, ← hre2]; rfl, hcmd2.trans hcmd⟩
  · rw [if_neg h4, if_neg h4]
    exact ⟨hsame, rfl, by rw [← hre]; rfl, hcmd⟩

theorem activate_takes (hc : s.consuming 3 = true) (h : s.ring 3 = [p]) (ha : s.armed S.CMD_REPLAY = false) (hs : s.shaped = true) (hn : p.updSlot < 6) (ho : p.updOp = 2)
    (h3 : s.slotState p.updSlot = 3) (hver : s.slotVersion p.updSlot = ofBe (slice p.body 0 4)) (ht : 2 ≤ p.updSlot ∨ s.upd.trial = none) :
    ∃ t, exec (.updActivate false) s = .next t ∧ t.slotState p.updSlot = 4 ∧ t.slotState (otherSlot p.updSlot) = (if s.slotState (otherSlot p.updSlot) = 4 then 3
        else s.slotState (otherSlot p.updSlot))
      ∧ t.upd.restart = (s.upd.restart || tbit (ofBe (slice p.body 4 4)) 0 || (s.inRecovery && decide (p.updSlot < 2))) ∧ Done p t := by
  have hmay : mayActivate s.begin p = true := by
    have h1 : s.begin.slotState p.updSlot = 3 := h3
    have h2 : s.begin.slotVersion p.updSlot = ofBe (slice p.body 0 4) := hver
    have h4 : (decide (p.updSlot < 2) && s.begin.upd.trial.isSome) = false := by
      rcases ht with ht | ht
      · rw [decide_eq_false (by omega), Bool.false_and]
      · rw [show s.begin.upd.trial = none from ht]
        exact Bool.and_false _
    rw [mayActivate, h1, h2, h4, decide_eq_true rfl, decide_eq_true rfl, decide_eq_true hn]
    rfl
  have he := exec_activate hc h ha ho
  have hact : activated s.begin p = (s.begin.activate p.updSlot (tbit (ofBe (slice p.body 4 4)) 0)).doneHead 3 := if_pos hmay
  rw [hact] at he
  obtain ⟨a1, a2, a3, a4⟩ := activate_leaves s.begin (tables_congr (shaped_slots hs) rfl rfl) hn (tbit (ofBe (slice p.body 4 4)) 0)
  generalize s.begin.activate p.updSlot (tbit (ofBe (slice p.body 4 4)) 0) = v at he a1 a2 a3 a4
  have hcv : v.cmd = s.cmd := a4
  obtain ⟨hd, k2, k3, -, -, -⟩ := done_leaves (s := v) (by rw [ring_parts hcv]; exact h) (by rw [hcv]; exact shaped_rings hs)
  have hr := restarts_leaves (v.doneHead 3) (s.inRecovery && decide (p.updSlot < 2))
  have hdone := restarts_done (s.inRecovery && decide (p.updSlot < 2)) hd
  obtain ⟨r1, -, -, -, -, r6, -⟩ := hr
  refine ⟨restarts (v.doneHead 3) (s.inRecovery && decide (p.updSlot < 2)), he, (r6 _).trans ((k2 _).trans a1), (r6 _).trans ((k2 _).trans a2), ?_, hdone⟩
  rw [r1, k3, a3]
  rfl

theorem activate_ignored (hc : s.consuming 3 = true) (h : s.ring 3 = [p]) (ha : s.armed S.CMD_REPLAY = false) (hl : s.cmd.rings.length = 4) (ho : p.updOp = 2)
    (hno : s.slotState p.updSlot ≠ 3 ∨ s.slotVersion p.updSlot ≠ ofBe (slice p.body 0 4) ∨ (p.updSlot < 2 ∧ s.upd.trial ≠ none)) :
    ∃ t, exec (.updActivate false) s = .next t
      ∧ (t.on F.UPD_EVT_OP_IGN = true ∧ t.upd.slots = s.upd.slots ∧ t.gov = s.gov ∧ t.mem = s.mem ∧ Done p t)
      ∧ t.upd.restart = (s.upd.restart || (s.inRecovery && decide (p.updSlot < 2))) := by
  have hmay : ¬ mayActivate s.begin p = true := by
    intro hm
    simp only [mayActivate, Bool.and_eq_true, decide_eq_true_eq, Bool.not_eq_true', Bool.and_eq_false_iff, decide_eq_false_iff_not] at hm
    obtain ⟨⟨⟨m1, m2⟩, m3⟩, -⟩ := hm
    rcases hno with hno | hno | ⟨hlt, hno⟩
    · exact hno m1
    · exact hno m2
    · rcases m3 with m3 | m3
      · exact m3 hlt
      · exact hno (Option.not_isSome_iff_eq_none.1 (by rw [Bool.not_eq_true]; exact m3))
  have he := exec_activate hc h ha ho
  have hact : activated s.begin p = s.begin.opIgnored := if_neg hmay
  rw [hact] at he
  obtain ⟨i1, i2, i3, i4, i5⟩ := ignored_leaves (s := s.begin) h hl
  generalize s.begin.opIgnored = v at he i1 i2 i3 i4 i5
  obtain ⟨r1, r2, r3, r4, -, -, r7⟩ := restarts_leaves v (s.inRecovery && decide (p.updSlot < 2))
  refine ⟨restarts v (s.inRecovery && decide (p.updSlot < 2)), he, ⟨(on_congr (r7 _)).trans i1, ?_, r3.trans i3, r4.trans i4, restarts_done _ i5⟩, ?_⟩
  · rw [r2, i2]
    rfl
  · rw [r1, i2]
    rfl

/-! ### CONFIRM -/

/-- A CONFIRM names the trial slot with its version. -/
def mayConfirm (s : State) (p : Packet) : Bool := decide (p.updSlot < 2) && decide (s.slotState p.updSlot = 5) && decide (s.slotVersion p.updSlot = ofBe p.body)

theorem exec_confirm (hc : s.consuming 3 = true) (h : s.ring 3 = [p]) (ha : s.armed S.CMD_REPLAY = false) (ho : p.updOp = 3) :
    exec (.updConfirm false) s = .next (if mayConfirm s.begin p then (s.begin.confirm p.updSlot).doneHead 3 else s.begin.opIgnored) :=
  congrArg Host.Outcome.next ((takeUpdate_taken (s := s.begin) _ hc h ho ha).trans rfl)

theorem confirm_ends (hc : s.consuming 3 = true) (h : s.ring 3 = [p]) (ha : s.armed S.CMD_REPLAY = false) (hs : s.shaped = true) (ho : p.updOp = 3) (hn : p.updSlot < 2)
    (h5 : s.slotState p.updSlot = 5) (hver : s.slotVersion p.updSlot = ofBe p.body) :
    ∃ t, exec (.updConfirm false) s = .next t ∧ t.slotState p.updSlot = 6 ∧ t.slotState (otherSlot p.updSlot) = (if s.slotState (otherSlot p.updSlot) = 6 then 3
        else s.slotState (otherSlot p.updSlot)) ∧ t.on F.UPD_STAT_TRIAL = false ∧ t.on F.UPD_EVT_CONFIRMED = true ∧ t.upd.trial = none ∧ t.upd.trialAt = none ∧ Done p t := by
  have hmay : mayConfirm s.begin p = true := by
    rw [mayConfirm, show s.begin.slotState p.updSlot = 5 from h5, show s.begin.slotVersion p.updSlot = ofBe p.body from hver, decide_eq_true hn, decide_eq_true rfl,
      decide_eq_true rfl]
    rfl
  have he := exec_confirm hc h ha ho
  rw [if_pos hmay] at he
  obtain ⟨c1, c2, c3, c4, c5, c6, -⟩ := confirm_leaves s.begin (tables_congr (shaped_slots hs) rfl rfl) hn
  have hcmd := within_cmd (confirm_fits (g := Foot.of [0x02, 0x40, 0x70, 0x71, 0x7A, 0x80] [.mem, .evr, .gov, .fus, .upd]) s.begin p.updSlot (by decide)
    (fits_refl _ _)).within rfl (by decide)
  generalize s.begin.confirm p.updSlot = v at he c1 c2 c3 c4 c5 c6 hcmd
  obtain ⟨hd, k2, k3, -, -, k6⟩ := done_leaves (s := v) (by rw [ring_parts hcmd]; exact h) (by rw [hcmd]; exact shaped_rings hs)
  exact ⟨_, he, (k2 _).trans c1, (k2 _).trans c2, (only_on k6 (by decide)).trans c3, (only_on k6 (by decide)).trans c4, by rw [k3, c5], by rw [k3, c6], hd⟩

theorem confirm_ignored (hc : s.consuming 3 = true) (h : s.ring 3 = [p]) (ha : s.armed S.CMD_REPLAY = false) (hl : s.cmd.rings.length = 4) (ho : p.updOp = 3)
    (hno : 2 ≤ p.updSlot ∨ s.slotState p.updSlot ≠ 5 ∨ s.slotVersion p.updSlot ≠ ofBe p.body) :
    ∃ t, exec (.updConfirm false) s = .next t ∧ t.on F.UPD_EVT_OP_IGN = true ∧ t.upd.slots = s.upd.slots ∧ t.gov = s.gov ∧ t.mem = s.mem ∧ Done p t := by
  have hmay : ¬ mayConfirm s.begin p = true := by
    intro hm
    simp only [mayConfirm, Bool.and_eq_true, decide_eq_true_eq] at hm
    obtain ⟨⟨m1, m2⟩, m3⟩ := hm
    rcases hno with hno | hno | hno
    · omega
    · exact hno m2
    · exact hno m3
  have he := exec_confirm hc h ha ho
  rw [if_neg hmay] at he
  obtain ⟨i1, i2, i3, i4, i5⟩ := ignored_leaves (s := s.begin) h hl
  exact ⟨_, he, i1, by rw [i2]; rfl, i3, i4, i5⟩

/-! ### A packet that is replayed, and none -/

theorem update_replays {c : Instr} {q : List Packet} (hc : s.consuming 3 = true) (h : s.ring 3 = p :: q) (hl : s.cmd.rings.length = 4)
    (hop : (c, p.updOp) ∈ [(Instr.updWrite true, 0), (.updVerify true, 1), (.updActivate true, 2), (.updConfirm true, 3)]) :
    ∃ t, exec c s = .next t ∧ t.ring 3 = [] ∧ t.g (F.CMD_EXP_EXP 3) = p.seq % 2 ^ 32 ∧ t.on F.CMD_EVT_REPLAY = true ∧ t.upd = s.upd ∧ t.mem = s.mem
      ∧ (s.defLevel S.CMD_REPLAY ≠ 0 → t.on (fltPend S.CMD_REPLAY) = true) := by
  have he : exec c s = .next (s.begin.replay 3) := by
    simp only [List.mem_cons, List.not_mem_nil, or_false, Prod.mk.injEq] at hop
    rcases hop with ⟨rfl, ho⟩ | ⟨rfl, ho⟩ | ⟨rfl, ho⟩ | ⟨rfl, ho⟩ <;> exact congrArg Host.Outcome.next (takeUpdate_replays (s := s.begin) _ hc h ho)
  obtain ⟨r1, r2, r3, r4, r5⟩ := replay_reads (s := s.begin) (c := 3) h (by decide) (by decide) hl
  have hfit : s.begin.Fits (Foot.of [0x00, 0x10, 0x40, 0x50, 0x68, 0x70, 0x71] [.flt, .evr, .saf, .lnkA, .lnkB, .cmd, .glare, .lanes, .fresh]) (s.begin.replay 3) :=
    replay_fits s.begin 3 (by decide) (fits_refl _ _)
  have hlev : s.begin.defLevel S.CMD_REPLAY = s.defLevel S.CMD_REPLAY :=
    fits_defLevel (g := Foot.of [] [.flt, .saf]) (begin_fits s (by decide) (fits_refl _ s)) rfl (by decide) _
  have hupd := within_upd hfit.within rfl (by decide)
  exact ⟨_, he, r1, r2, r3, hupd, r4, fun hd => r5 (by rwa [hlev])⟩

theorem update_rests {c : Instr} {parity : Bool} (hop : (c, op) ∈ [(Instr.updWrite parity, 0), (.updVerify parity, 1), (.updActivate parity, 2), (.updConfirm parity, 3)])
    (h : s.consuming 3 = false ∨ ∀ p, (s.ring 3).head? = some p → Packet.updOp p ≠ op) : exec c s = .next s.begin := by
  simp only [List.mem_cons, List.not_mem_nil, or_false, Prod.mk.injEq] at hop
  rcases hop with ⟨rfl, rfl⟩ | ⟨rfl, rfl⟩ | ⟨rfl, rfl⟩ | ⟨rfl, rfl⟩ <;> exact congrArg Host.Outcome.next (takeUpdate_rests (s := s.begin) _ _ h)

/-! ### The end of the checks of a slot -/

/-- What the checks of a slot read. -/
structure SameSlots (s t : State) : Prop where
  mem : t.mem = s.mem
  fus : t.fus = s.fus
  gov : t.gov = s.gov
  slots : t.upd.slots = s.upd.slots

namespace SameSlots

variable (h : SameSlots s t)

include h

theorem fuse : t.fuse = s.fuse := funext fun r => by rw [State.fuse, State.fuse, h.fus]

theorem wrongUnit : t.wrongUnit = s.wrongUnit := funext fun i => by rw [State.wrongUnit, State.wrongUnit, State.unitId, State.unitId, h.fuse]

theorem slot (n : Nat) : t.slot_ n = s.slot_ n := by rw [State.slot_, State.slot_, h.slots]

theorem state (k : Nat) : t.slotState k = s.slotState k := by rw [State.slotState, State.slotState, h.gov, h.slots]

theorem graniteEntry (n : Nat) : t.graniteEntry n = s.graniteEntry n := funext fun i => by
  rw [State.graniteEntry, State.graniteEntry, slotField_mem h.mem, slotBytes_mem h.mem]

theorem granitePart (n : Nat) : t.granitePart n = s.granitePart n := funext fun i => by
  rw [State.granitePart, State.granitePart, h.graniteEntry, slotBytes_mem h.mem]

theorem partOk (n : Nat) : t.partOk n = s.partOk n := funext fun i => funext fun k => by
  rw [State.partOk, State.partOk, h.graniteEntry, h.granitePart]

theorem graniteDigest : t.graniteDigest = s.graniteDigest := funext fun n => by
  rw [State.graniteDigest, State.graniteDigest, slotBytes_mem h.mem, slotField_mem h.mem, slotBytes_mem h.mem]

theorem sameBundle (n : Nat) : BootToKernels.sameBundle t n = BootToKernels.sameBundle s n := by
  rw [BootToKernels.sameBundle, BootToKernels.sameBundle, h.gov, h.graniteDigest]

theorem graniteCode (ok same parts : Bool) (n total : Nat) : BootToKernels.graniteCode t ok same parts n total = BootToKernels.graniteCode s ok same parts n total := by
  unfold BootToKernels.graniteCode State.approvals
  rw [slotBytes_mem h.mem, slotField_mem h.mem, h.fuse, h.wrongUnit, h.state]

theorem setTiles (n : Nat) : t.setTiles n = s.setTiles n := by rw [State.setTiles, State.setTiles, slotField_mem h.mem]

theorem calCode (n : Nat) : t.checkCal n = s.checkCal n := by
  have hsec : t.setSection n = s.setSection n := funext fun k => by
    unfold State.setSection
    dsimp only
    rw [h.setTiles, slotBytes_mem h.mem]
  have hhead : t.setHeaderOk n = s.setHeaderOk n := by
    unfold State.setHeaderOk
    rw [slotBytes_mem h.mem]
  unfold State.checkCal
  rw [slotField_mem h.mem, slotField_mem h.mem, h.fuse, h.wrongUnit, hhead, h.setTiles, hsec, h.slot]

end SameSlots

/-- A signature that fails leaves an event alone. -/
theorem signed_only (s : State) (n cls : Nat) (v : Bool) (total : Nat) :
    s.Only [F.SEC_EVT_SIG_FAIL, F.UNIT_IRQ_STAT_EVT 0x78] [] (s.slotSig n cls v total).2 := by
  rw [slotSig_eq]
  exact only_ite (fun _ => only_refl _ _ s) (fun _ => only_evt (by simp) (by simp [F.SEC_EVT_SIG_FAIL]) (by decide) (only_refl _ _ s))

theorem sameSlots_signed (h : SameSlots s t) (n cls : Nat) (v : Bool) (total : Nat) : SameSlots s (t.slotSig n cls v total).2 := by
  have ho := signed_only t n cls v total
  exact ⟨(ho.parts.mem (by simp [Foot.of])).trans h.mem, (ho.parts.fus (by simp [Foot.of])).trans h.fus, (ho.parts.gov (by simp [Foot.of])).trans h.gov,
    (congrArg Upd.slots (ho.parts.upd (by simp [Foot.of]))).trans h.slots⟩

theorem checkMain_code (s : State) (n total : Nat) (v : Bool) :
    s.checkMain n total v = (mainCode (s.slotSig n 1 v (s.slotField n 28 4)).2 (s.slotSig n 1 v (s.slotField n 28 4)).1 n total (s.slotField n 28 4),
      (s.slotSig n 1 v (s.slotField n 28 4)).2) := rfl

theorem signed_congr (h : SameSlots s t) (n cls : Nat) (v : Bool) (total : Nat) : (t.slotSig n cls v total).1 = (s.slotSig n cls v total).1 := by
  rw [slotSig_eq, slotSig_eq]
  exact sigHolds_congr h.mem h.fus n cls v total

/-- The checks of a slot answer by what they read. -/
theorem checkSlot_congr (h : SameSlots s t) (n total : Nat) (v : Bool) : (t.checkSlot n total v).1 = (s.checkSlot n total v).1 := by
  have hself : SameSlots s s := ⟨rfl, rfl, rfl, rfl⟩
  unfold State.checkSlot
  split_ifs
  · have ht := sameSlots_signed h n 1 v (t.slotField n 28 4)
    have hs := sameSlots_signed hself n 1 v (s.slotField n 28 4)
    rw [checkMain_code, checkMain_code]
    dsimp only
    rw [slotField_mem h.mem] at ht ⊢
    rw [signed_congr h]
    exact mainCode_congr (ht.mem.trans hs.mem.symm) (ht.fus.trans hs.fus.symm) n (by rw [ht.slot, hs.slot]) _ _ _
  · have ht := sameSlots_signed h n 2 v (t.slotField n 44 4)
    have hs := sameSlots_signed hself n 2 v (s.slotField n 44 4)
    rw [BootToKernels.checkGranite_eq, BootToKernels.checkGranite_eq]
    dsimp only
    rw [slotField_mem h.mem] at ht ⊢
    rw [signed_congr h, ht.graniteCode, hs.graniteCode, ht.sameBundle, hs.sameBundle, ht.partOk, hs.partOk]
  · exact h.calCode n

theorem checkSlot_only (s : State) (n total : Nat) (v : Bool) : s.Only [F.SEC_EVT_SIG_FAIL, F.UNIT_IRQ_STAT_EVT 0x78] [] (s.checkSlot n total v).2 := by
  unfold State.checkSlot
  split_ifs
  · rw [checkMain_code]
    exact signed_only ..
  · rw [BootToKernels.checkGranite_eq]
    exact signed_only ..
  · exact only_refl _ _ s

theorem checkSlot_code (s : State) (n total : Nat) (v : Bool) : (s.checkSlot n total v).1 ≤ 9 := by
  unfold State.checkSlot
  split_ifs
  · rw [checkMain_code]
    unfold mainCode
    dsimp only
    split_ifs <;> decide
  · rw [BootToKernels.checkGranite_eq]
    unfold BootToKernels.graniteCode
    dsimp only
    split_ifs <;> decide
  · show s.checkCal n ≤ 9
    unfold State.checkCal
    split_ifs <;> decide

/-- The packet that asked for the checks, where it is still at the head, is done. -/
def requestDone (s : State) (n : Nat) : State :=
  match s.head 3 with
  | some p => if p.updOp = 1 && p.updSlot = n then s.doneHead 3 else s
  | none => s

theorem requestDone_only (s : State) (n : Nat) : s.Only [F.CMD_DONE_DONE_SEQ 3] [.cmd] (requestDone s n) := by
  have hseq : ∀ (u : State) (l : List Packet) (k : Nat), u.Only [F.CMD_DONE_DONE_SEQ 3] [.cmd] ((u.setRing 3 l).doneSeq 3 k) := fun u l k =>
    only_withCmd (by simp) (only_put _ (by simp) (by simp [F.CMD_DONE_DONE_SEQ]) (only_withCmd (by simp) (only_refl _ _ u)))
  have hdrain : ∀ (m : Nat) (u : State), u.Only [F.CMD_DONE_DONE_SEQ 3] [.cmd] (u.drainNoop 3 m) := by
    intro m
    induction m with
    | zero => exact fun u => only_refl _ _ u
    | succ m ih =>
      intro u
      unfold State.drainNoop
      split
      · split_ifs
        · exact only_trans (hseq _ _ _) (ih _)
        · exact only_refl _ _ u
      · exact only_refl _ _ u
  have hdone : s.Only [F.CMD_DONE_DONE_SEQ 3] [.cmd] (s.doneHead 3) := by
    unfold State.doneHead
    split
    · exact only_trans (hseq _ _ _) (hdrain _ _)
    · exact only_refl _ _ s
  unfold requestDone
  split
  · exact only_ite (fun _ => hdone) (fun _ => only_refl _ _ s)
  · exact only_refl _ _ s

/-- The checks as they begin. -/
def checking (s : State) : State := s.withUpd { s.upd with verifying := none }

theorem exec_verifyDone (sig : Bool) {total : Nat} (h : s.upd.verifying = some (n, total)) :
    exec (.verifyDone sig) s = .next (requestDone (((checking s.begin).checkSlot n total sig).2.toSlot n (if ((checking s.begin).checkSlot n total sig).1 = 0 then 3 else 7)
      ((checking s.begin).checkSlot n total sig).1) n) := by
  have hb : s.begin.upd.verifying = some (n, total) := h
  show execVerifyDone sig s = _
  unfold execVerifyDone
  dsimp only
  rw [hb]
  rfl

theorem verifyDone_rests (sig : Bool) (h : s.upd.verifying = none) : exec (.verifyDone sig) s = .next s.begin := by
  have hb : s.begin.upd.verifying = none := h
  show execVerifyDone sig s = _
  unfold execVerifyDone
  dsimp only
  rw [hb]

/-- The register that shows a main slot's REJ code. -/
def rejField (n : Nat) : Fld := if n = 0 then F.UPD_SLOTA_REJ else F.UPD_SLOTB_REJ

theorem showMain_rej (s : State) (hn : n < 2) (hr : (s.slot_ n).rej < 16) : (s.showMain n).g (rejField n) = (s.slot_ n).rej := by
  unfold State.showMain
  extract_lets r roll ver
  have h01 : n = 0 ∨ n = 1 := by omega
  rcases h01 with rfl | rfl
  · rw [if_pos rfl]
    exact (g_put_sep _ _ (by decide)).trans ((g_put_sep _ _ (by decide)).trans (g_put_self (by decide) (by decide) hr))
  · rw [if_neg (by decide)]
    exact (g_put_sep _ _ (by decide)).trans ((g_put_sep _ _ (by decide)).trans (g_put_self (by decide) (by decide) hr))

theorem toSlot_rej (s : State) (hs : SlotTables s) (hn : n < 2) (st : Nat) {rej : Nat} (hr : rej < 16) : (s.toSlot n st rej).g (rejField n) = rej := by
  have hg : ¬ (decide (n = 2) || decide (n = 3)) = true := by
    simp only [Bool.or_eq_true, decide_eq_true_eq]
    omega
  have hslot := modSlot_slot (n := n) s (fun r => { r with st := st, rej := rej }) hs (by omega)
  have hshow : ((s.modSlot n (fun r => { r with st := st, rej := rej })).showSlot n).g (rejField n) = rej := by
    have hrej : ((s.modSlot n (fun r => { r with st := st, rej := rej })).slot_ n).rej = rej := congrArg Slot.rej hslot
    have h := showMain_rej (s.modSlot n (fun r => { r with st := st, rej := rej })) hn (by rw [hrej]; exact hr)
    rw [State.showSlot, if_pos hn, h, hrej]
  obtain ⟨h1, h2, h3, h4⟩ := (by decide : ∀ n < 2, clear recordFields (rejField n) = true ∧ sep F.UPD_EVT_VERIFIED (rejField n) = true
    ∧ sep F.UPD_EVT_REJECTED (rejField n) = true ∧ sep (F.UNIT_IRQ_STAT_EVT 0x80) (rejField n) = true) n hn
  have hplain : (s.plainSlotTo n st rej).g (rejField n) = rej := (event_g _ _ _ h1).trans hshow
  unfold State.toSlot
  rw [if_neg hg]
  dsimp only
  exact (ite_g (fun _ => g_evt_sep _ h2 h4) (fun _ => ite_g (fun _ => g_evt_sep _ h3 h4) (fun _ => rfl))).trans hplain

/-- The end of the checks leaves the slot VERIFIED or REJECTED. -/
theorem verify_ends (sig : Bool) {total : Nat} (h : s.upd.verifying = some (n, total)) (hn : n < 6) (hs : s.shaped = true) :
    ∃ t, exec (.verifyDone sig) s = .next t ∧ t.slotState n = (if (s.checkSlot n total sig).1 = 0 then 3 else 7) ∧ t.upd.verifying = none
      ∧ ((s.checkSlot n total sig).1 = 0 → t.on F.UPD_EVT_VERIFIED = true) ∧ ((s.checkSlot n total sig).1 ≠ 0 → t.on F.UPD_EVT_REJECTED = true)
      ∧ (n = 0 → t.g F.UPD_SLOTA_REJ = (s.checkSlot n total sig).1) ∧ (n = 1 → t.g F.UPD_SLOTB_REJ = (s.checkSlot n total sig).1)
      ∧ t.mem = s.mem := by
  have he := exec_verifyDone sig h
  have hcode := checkSlot_congr (s := s) (t := checking s.begin) ⟨rfl, rfl, rfl, rfl⟩ n total sig
  have hle := checkSlot_code s n total sig
  rw [hcode] at he
  have ho := checkSlot_only (checking s.begin) n total sig
  have htab : SlotTables ((checking s.begin).checkSlot n total sig).2 :=
    tables_congr (s := checking s.begin) ⟨(shaped_slots hs).plain, (shaped_slots hs).granite⟩ (ho.parts.upd (by simp [Foot.of])) (ho.parts.gov (by simp [Foot.of]))
  have hnone : ((checking s.begin).checkSlot n total sig).2.upd.verifying = none := by
    rw [ho.parts.upd (by simp [Foot.of])]
    rfl
  have hmem : ((checking s.begin).checkSlot n total sig).2.mem = s.mem := ho.parts.mem (by simp [Foot.of])
  generalize (s.checkSlot n total sig).1 = code at he hle ⊢
  generalize ((checking s.begin).checkSlot n total sig).2 = v at he htab hnone hmem
  have hset := toSlot_set v n (if code = 0 then 3 else 7) code
  have hsame := hset.same htab hn (by split_ifs <;> omega)
  obtain ⟨e3, e7⟩ := toSlot_events v n (if code = 0 then 3 else 7) code
  have hrej : n < 2 → (v.toSlot n (if code = 0 then 3 else 7) code).g (rejField n) = code := fun h2 => toSlot_rej v htab h2 _ (by omega)
  have hver : (v.toSlot n (if code = 0 then 3 else 7) code).upd.verifying = none := by
    refine (congrArg Upd.verifying hset.upd).trans ?_
    by_cases hg : n = 2 ∨ n = 3
    · rw [if_pos hg]
      exact hnone
    · rw [if_neg hg]
      exact hnone
  have hm := toSlot_mem v n (if code = 0 then 3 else 7) code
  generalize v.toSlot n (if code = 0 then 3 else 7) code = w at he hset hsame e3 e7 hrej hver hm
  have hd := requestDone_only w n
  have hdu : (requestDone w n).upd = w.upd := hd.parts.upd (by simp [Foot.of])
  refine ⟨_, he, (slots_congr hdu (hd.parts.gov (by simp [Foot.of])) n).trans hsame, by rw [hdu]; exact hver, fun h0 => ?_, fun h0 => ?_, fun h0 => ?_, fun h1 => ?_,
    (hd.parts.mem (by simp [Foot.of])).trans (hm.trans hmem)⟩
  · exact (only_on hd (by decide)).trans (e3 (if_pos h0))
  · exact (only_on hd (by decide)).trans (e7 (if_neg h0))
  · subst h0
    exact (only_g hd (by decide)).trans (hrej (by decide))
  · subst h1
    exact (only_g hd (by decide)).trans (hrej (by decide))

/-! ### The copy after a sealed update -/

/-- The other slot's flash, cleared for the copy. -/
def copyCleared (s : State) (lo : Nat) : State :=
  (s.withMem (s.mem.filter (fun e => e.1 < lo || lo + 0x200000 ≤ e.1))).withGov { s.gov with copyDue := false }

/-- The active bundle of Granite. -/
def activeBundle (s : State) (a : Nat) : List Byte := s.slotBytes (2 + a) 0 (min 0x200000 (s.slotField (2 + a) 44 4))

theorem exec_copy {a : Nat} (h : s.gov.active = some a) (hd : s.gov.copyDue = true) (hp : s.g F.RST_BOOT_STAT_PHASE = 1) (hf : s.on F.THM_STAT_FLASH_OK = true)
    (hh : s.saf.halted = false) :
    exec .graniteCopyDone s = .next (((copyCleared s.begin (slotBase (2 + (1 - a)))).setBytes (slotBase (2 + (1 - a))) (activeBundle s.begin a)).toSlot (2 + (1 - a)) 3 0) := by
  have hb : s.begin.gov.active = some a := h
  have hc : (s.begin.gov.copyDue && decide (s.begin.g F.RST_BOOT_STAT_PHASE = 1) && s.begin.on F.THM_STAT_FLASH_OK && !s.begin.saf.halted) = true := by
    rw [show s.begin.gov.copyDue = s.gov.copyDue from rfl, begin_g, begin_on, show s.begin.saf.halted = s.saf.halted from rfl, hd, hp, hf, hh]
    rfl
  show execGraniteCopyDone s = _
  unfold execGraniteCopyDone
  dsimp only
  rw [hb]
  dsimp only
  rw [if_pos hc]
  unfold copyCleared activeBundle
  dsimp only
  rw [hb]

theorem copy_rests (h : s.gov.active = none ∨ s.gov.copyDue = false ∨ s.g F.RST_BOOT_STAT_PHASE ≠ 1 ∨ s.on F.THM_STAT_FLASH_OK = false ∨ s.saf.halted = true) :
    exec .graniteCopyDone s = .next s.begin := by
  show execGraniteCopyDone s = _
  unfold execGraniteCopyDone
  dsimp only
  cases ha : s.begin.gov.active with
  | none => rfl
  | some a =>
    have hs : s.gov.active = some a := ha
    refine congrArg Host.Outcome.next (if_neg ?_)
    rw [show s.begin.gov.copyDue = s.gov.copyDue from rfl, begin_g, begin_on, show s.begin.saf.halted = s.saf.halted from rfl]
    rcases h with h | h | h | h | h
    · rw [hs] at h
      cases h
    all_goals simp [h]

/-- The active bundle stands in the other slot too. -/
theorem copy_done {a : Nat} (h : s.gov.active = some a) (hlt : a < 2) (hd : s.gov.copyDue = true) (hp : s.g F.RST_BOOT_STAT_PHASE = 1)
    (hf : s.on F.THM_STAT_FLASH_OK = true) (hh : s.saf.halted = false) (hs : s.shaped = true) :
    ∃ t, exec .graniteCopyDone s = .next t ∧ t.slotState (3 - a) = 3 ∧ t.gov.copyDue = false ∧ t.gov.active = some a
      ∧ (∀ i, i < min 0x200000 (s.slotField (2 + a) 44 4) → t.byte (slotBase (3 - a) + i) = s.byte (slotBase (2 + a) + i))
      ∧ (∀ x, x < slotBase (3 - a) ∨ slotBase (3 - a) + 0x200000 ≤ x → t.byte x = s.byte x) := by
  have he := exec_copy h hd hp hf hh
  rw [show 2 + (1 - a) = 3 - a by omega] at he
  have hlen : (activeBundle s.begin a).length = min 0x200000 (s.slotField (2 + a) 44 4) := bytes_length _ _ _
  have hget : ∀ i, i < min 0x200000 (s.slotField (2 + a) 44 4) → (activeBundle s.begin a).getD i 0 = s.byte (slotBase (2 + a) + i) := fun i hi =>
    bytes_getD s.begin (slotBase (2 + a) + 0) _ i hi
  have hclear : ∀ x, (copyCleared s.begin (slotBase (3 - a))).byte x = if slotBase (3 - a) ≤ x ∧ x < slotBase (3 - a) + 0x200000 then memDefault x else s.byte x := fun x =>
    tabGet_cleared s.mem x _ _
  have hgov : (copyCleared s.begin (slotBase (3 - a))).gov = { s.gov with copyDue := false } := rfl
  have hupd : (copyCleared s.begin (slotBase (3 - a))).upd = s.upd := rfl
  generalize activeBundle s.begin a = b at he hlen hget
  generalize copyCleared s.begin (slotBase (3 - a)) = v at he hclear hgov hupd
  have hset := setBytes_only v (slotBase (3 - a)) b
  have hbyte := setBytes_byte b v (slotBase (3 - a))
  generalize v.setBytes (slotBase (3 - a)) b = w at he hset hbyte
  have hwg : w.gov = { s.gov with copyDue := false } := (hset.parts.gov (by simp [Foot.of])).trans hgov
  have htab : SlotTables w := ⟨by rw [hset.parts.upd (by simp [Foot.of]), hupd]; exact (shaped_slots hs).plain, by rw [hwg]; exact (shaped_slots hs).granite⟩
  have hto := toSlot_set w (3 - a) 3 0
  have hm := toSlot_mem w (3 - a) 3 0
  have hg23 : 3 - a = 2 ∨ 3 - a = 3 := by omega
  have hgv := hto.gov
  rw [if_pos hg23, hwg] at hgv
  refine ⟨_, he, hto.same htab (by omega) (by omega), by rw [hgv], by rw [hgv]; exact h, fun i hi => ?_, fun x hx => ?_⟩
  · rw [byte_mem hm, hbyte, if_pos (by omega), show slotBase (3 - a) + i - slotBase (3 - a) = i by omega]
    exact hget i hi
  · rw [byte_mem hm, hbyte, if_neg (by omega), hclear, if_neg (by omega)]

/-- Settles O49: each operation through the rules of the slot tables, a block's bytes by its sectors and then its pages. -/
theorem updateOperations : Obligations.UpdateOperations := by
  unfold Obligations.UpdateOperations
  refine ⟨?ops, fun _ _ _ _ hc h hl hop => update_replays hc h hl hop, fun _ _ _ _ hop h => update_rests hop h, fun _ _ _ sig h hn hs => verify_ends sig h hn hs,
    fun _ => verifyDone_rests, fun _ _ h hlt hd hp hf hh hs => copy_done h hlt hd hp hf hh hs, fun _ => copy_rests⟩
  case ops =>
    intro s p hc h ha hs hn hb n done ignored
    have hl := shaped_rings hs
    exact ⟨write_refused hc h ha hl, write_waits hc h ha, write_begins hc h ha hs hn hb, verify_starts hc h ha hs hn, verify_ignored hc h ha hl,
      activate_takes hc h ha hs hn, activate_ignored hc h ha hl, fun ho hn2 => confirm_ends hc h ha hs ho hn2, confirm_ignored hc h ha hl⟩

end Sys2Proof.Proofs.SlotUpdates
end
